-- ==== Sys2Proof/Word.lean ====
section
/-! DEFINITION. The word types of the ZY9620 and their plainest arithmetic (little-endian, rule R3). -/

namespace Sys2Proof

/-- One byte. -/
abbrev Byte := BitVec 8

/-- A 32-bit register or parameter word. -/
abbrev Word := BitVec 32

/-- A 64-bit chute word (rule R127) or host address. -/
abbrev DWord := BitVec 64

end Sys2Proof
end

