-- ==== Sys2Proof/Syntax.lean ====
section
/-! DEFINITION. The commands of the ZY9620 block and their operands. An operand holds what comes from outside with the
command: a written value, a descriptor, the fields of a packet or frame, a level, an instant, or a value that the spec
leaves to physics or to unspecified numerics. -/

namespace Sys2Proof

/-- Yard time (rule R6): 48-bit seconds, nanoseconds, 16-bit fraction of a nanosecond. -/
structure YTime where
  sec  : Nat
  ns   : Nat
  frac : Nat
  deriving DecidableEq, Repr

/-- A submission descriptor (rule R104, the descriptor table). `rsv` says that some reserved field is non-zero. -/
structure Desc where
  opcode : Byte
  target : Byte
  flags  : Byte
  rsv    : Bool
  tag    : BitVec 16
  length : Word
  addr   : DWord
  p0     : Word
  p1     : Word
  p2     : Word
  deriving DecidableEq, Repr

/-- A descriptor as a block receives it: the session it was fetched in, its ring, its ring index, the descriptor, and the bytes moved
before a bus error on its payload or buffer, if one occurred (rule R122). -/
structure Cmd where
  session : BitVec 16
  ring    : Fin 128
  index   : BitVec 16
  desc    : Desc
  err     : Option Nat
  deriving DecidableEq, Repr

/-- The error state of a stored word as a read finds it (rules R127 and R136). -/
inductive Ecc where
  | clean
  | corrected
  | uncorrectable
  deriving DecidableEq, Repr

/-- Who makes a register access. -/
inductive Writer where
  | host
  | core
  deriving DecidableEq, Repr

/-- What a MOVE meets on the bus (rule R157): nothing, or after some bytes were written an error response or an uncorrectable error in
the data it reads. -/
inductive BusOutcome where
  | clean
  | corrected (words : Nat)
  | error (proven : Nat)
  | ecc (proven : Nat)
  deriving DecidableEq, Repr

/-- The path of a request packet (rules R265, R400): track segments in travel order, each with a reverse flag, or points
of the yard frame in millimetres. -/
inductive PathSpec where
  | segs (l : List (Fin 16384 × Bool))
  | points (l : List (BitVec 32 × BitVec 32))
  deriving DecidableEq, Repr

/-- A request packet (rule R267). `rsv` says that a reserved field is non-zero, `badLen` that the length is wrong. -/
structure ReqPkt where
  lid       : Fin 256
  cls       : Fin 16
  reqId     : Word
  startSlot : Word
  startMs   : BitVec 16
  dwellEnd  : Byte
  knots     : List (Word × Word)
  path      : PathSpec
  sOfs      : Word
  rsv       : Bool
  badLen    : Bool
  deriving DecidableEq, Repr

/-- A release packet (rule R275). -/
structure RelPkt where
  lid      : Fin 256
  mode     : Byte
  gslot    : Byte
  grantId  : Word
  fromSlot : Word
  rsv      : Bool
  deriving DecidableEq, Repr

/-- A task event of a robot or of the host (chapter 13). `robot` is the sender, or the robot an ASSIGN names. -/
structure TaskEv where
  robot : Fin 256
  task  : Fin 4096
  event : Byte
  arg   : Word
  rsv   : Bool
  deriving DecidableEq, Repr

/-- What a robot asks (rules R400, R401). -/
inductive OpBody where
  | request (r : ReqPkt)
  | release (r : RelPkt)
  | event (e : TaskEv)
  deriving DecidableEq, Repr

/-- A robot operation (rule R402). -/
structure RobotOp where
  lid  : Fin 256
  opId : Word
  body : OpBody
  deriving DecidableEq, Repr

/-- What a thread completes a reorder-window entry with (rule R169); `input` is the operation that the entry's frame asks. -/
inductive EntryOut where
  | none
  | obs
  | input
  | packet (chute : Fin 96) (words : List DWord)
  deriving DecidableEq, Repr

/-- Who wakes a thread (rule R166): another thread, a Hoist CODE, or a message that firmware posts in a flow (rule R168). -/
inductive WakeSrc where
  | thread (t : Fin 512)
  | hoist
  | message (flow : Fin 64)
  deriving DecidableEq, Repr

/-- A loop input (rule R321) as the decision pair makes it from the position snapshot. -/
structure LoopIn where
  lid      : Fin 256
  mode     : Byte
  cls      : Fin 16
  epoch    : Word
  posSeq   : Word
  err      : Word
  sMeas    : Word
  gslot    : Byte
  posValid : Bool
  vLim     : BitVec 16
  measTime : YTime
  rsv      : Bool
  deriving DecidableEq, Repr

/-- A clock input (rule R338). -/
structure ClockIn where
  loop   : Fin 2
  preset : Bool
  seq    : Word
  err    : Word
  bound  : Word
  t      : Word
  ppb    : Word
  deriving DecidableEq, Repr

/-- An envelope command (rule R279). -/
structure EnvCmd where
  lid   : Nat
  gslot : Nat
  fin   : Bool
  epoch : Nat
  sFrom : Nat
  sTo   : Nat
  deriving DecidableEq, Repr

/-- An entry of a ROSTER load (rule R417). -/
structure RosterLine where
  lid   : Fin 256
  valid : Bool
  radio : Bool
  cls   : Fin 16
  fed   : Word
  rsv   : Bool
  deriving DecidableEq, Repr

/-- What a block or the decision pair asks of the Trapdoor (rule R351, stop source table): a fleet HOLD or STOP by its
cause, or an own HOLD or STOP of a robot. -/
inductive RestrictReq where
  | overrun
  | audit
  | taskAudit
  | tableEcc
  | hostLoss
  | twinMismatch
  | memEcc
  | pfail
  | twinAmbiguity
  | integrity (r : Fin 256)
  | coast (r : Fin 256)
  | mapLost (r : Fin 256)
  | envelope (r : Fin 256)
  | loopLost (r : Fin 256)
  deriving DecidableEq, Repr

/-- What a channel measures at a measurement epoch (rules R193, R194). -/
structure MeasObs where
  ch      : Fin 512
  prValid : Bool
  pr      : BitVec 40
  phase   : BitVec 48
  doppler : Word
  cn0     : BitVec 16
  lock    : Word     -- ms of lock since the slip, where `slip` is set
  half    : Bool     -- the half cycle is resolved
  invert  : Bool     -- resolution found the phase inverted and corrects it by half a cycle
  slip    : Bool
  mp      : Byte
  deriving DecidableEq, Repr

/-- A satellite in view of an antenna, with its predicted elevation in degrees if there is one (rule R188). -/
structure SkySat where
  antB : Bool
  sys  : Fin 5
  sv   : Byte
  elev : Option Int
  deriving DecidableEq, Repr

/-- A caster request (rule R219): its LAN and source address, whether it exceeds 1,024 bytes, its method and version, its
path without the slash, and its credentials. -/
structure CastReq where
  lanB    : Bool
  addr    : Word
  tooLong : Bool
  isGet   : Bool
  v2      : Bool
  path    : List Byte
  creds   : Option (List Byte × List Byte)
  deriving DecidableEq, Repr

/-- A satellite with a valid broadcast ephemeris, and its elevation at the base in 0.001° (rules R237, R238). -/
structure EphSat where
  sys  : Fin 5
  sv   : Byte
  elev : Int
  deriving DecidableEq, Repr

/-- Where a datagram comes from or goes: IPv4 address and UDP port (rule R387). -/
structure Endpoint where
  ip   : Word
  port : BitVec 16
  deriving DecidableEq, Repr

/-- A roster entry (rule R417). -/
structure RosterEnt where
  fed   : Nat
  cls   : Nat
  radio : Bool
  deriving DecidableEq, Repr

/-- What a host input of an epoch asks (rules R106, R558). -/
inductive EpochKind where
  | taskEvent (e : TaskEv)
  | taskForce (task st : Nat) (holder : Option Nat)
  | unblock (cell : Nat) (clean : Bool)
  | release (r : RelPkt)
  | roster (es : List RosterLine)
  | go
  | clear
  | robotGo (r : Nat)
  | rekey (no sec : Nat)
  | fleet
  | pace
  deriving DecidableEq, Repr

/-- A robot's latest CRE output as the position snapshot takes it (rules R15, R247): fix in the yard frame in mm, speed in
mm/s, heading vector, sequence number and measurement time. -/
structure PosRec where
  x      : Int
  y      : Int
  vx     : Int
  vy     : Int
  posSeq : Nat
  time   : YTime
  valid  : Bool
  deriving DecidableEq, Repr

/-- A live task record (rule R308); no holder means the pool. -/
structure TaskRec where
  st      : Nat
  holder  : Option Nat
  timer   : Bool
  entered : Nat
  dead    : Nat
  trans   : Nat
  deriving DecidableEq, Repr

/-- A grant slot's content (rule R265): its request packet, the GRANT_ID, and `fresh` until its epoch commits. -/
structure Grant where
  req     : ReqPkt
  grantId : Nat
  fresh   : Bool
  deriving DecidableEq, Repr

/-- The kept answer of a robot's last decided operation (rule R402). -/
structure OpKeep where
  opId : Nat
  typ  : Nat
  body : List Nat
  deriving DecidableEq, Repr

/-- A reference to a ZYP frame of the active's input list (rule R462). -/
structure ZypRef where
  adm  : Word
  src  : BitVec 18
  typ  : Byte
  lanB : Bool
  boot : Word
  seq  : Word
  hash : BitVec 64
  deriving DecidableEq, Repr

/-- An entry of an epoch's input stream (rule R462, the input entry table). A host command comes as the input it asks, with
its place in the list; the shadow image of a commit as its words and, for PACE, the shadow values of its registers. -/
inductive InputEntry where
  | head (epoch prev slotNow n : Word) (t0 : YTime) (fleet : Fin 4) (own : List (Fin 256 × Fin 4))
  | zyp (r : ZypRef)
  | host (k : EpochKind) (adm : Nat)
  | image (k : EpochKind) (words : List (Nat × Nat)) (regs : List Nat)
  | block (cells : List (BitVec 23))
  | snapshot (l : List (Fin 256 × PosRec))
  | fin
  deriving DecidableEq, Repr

/-- A PREPARE frame (rule R465): local ID and COMP_TIME of each command in record order. -/
structure PrepMsg where
  epoch  : Word
  prev   : Word
  digest : List Byte
  cls    : List (List Byte)
  ctimes : List (Fin 256 × YTime)
  deriving DecidableEq, Repr

/-- A run of tokens in a snapshot. -/
structure SnapRun where
  cell  : Nat
  entry : Nat
  robot : Nat
  first : Nat
  len   : Nat
  gslot : Nat
  env   : Bool
  deriving DecidableEq, Repr

/-- A robot loop in a snapshot: its mode code and what the Governor keeps of it. -/
structure SnapLoop where
  mode    : Fin 7
  i       : Int
  u       : Int
  e       : Int
  hasSeq  : Bool
  posSeq  : Nat
  sample  : YTime
  sMeas   : Nat
  gslot   : Nat
  cls     : Nat
  usedEp  : Nat
  cmdEp   : Option Nat
  cmdSeq  : Nat
  ovr    : Bool
  winding : Bool
  lastErr : Int
  deriving DecidableEq, Repr

/-- A part of a snapshot (rule R478). Counters: GRANTED, RELEASED, EXPIRED, FORCED and GRANT_ID of the Larder; words: the live
tables or curves by word number. -/
inductive SnapPart where
  | runs (l : List SnapRun)
  | grants (l : List (Nat × Grant)) (envFrom : List (Nat × Nat))
  | blocked (l : List Nat)
  | counters (granted released expired forced grantId : Nat)
  | tables (gen : Nat) (words : List (Nat × Nat))
  | tasks (l : List (Nat × TaskRec))
  | curves (words : List (Nat × Nat))
  | loops (l : List (Nat × SnapLoop))
  | trapdoor (fleet : Fin 3) (own : List (Fin 256 × Fin 3)) (hold : Nat)
  | roster (l : List (Nat × RosterEnt))
  | streams (epoch boot : Nat) (seqs : List (Nat × Nat))
  | ops (l : List (Nat × OpKeep))
  deriving DecidableEq, Repr

/-- A loop input that the decision pair makes (rule R321): mode, error along the path, measured distance, grant slot and speed
limit; the position fields come from the snapshot. -/
structure LoopSpec where
  lid   : Fin 256
  mode  : Fin 4
  err   : Word
  sMeas : Word
  gslot : Byte
  vLim  : BitVec 16
  deriving DecidableEq, Repr

/-- What the GPS navigation data gives of UTC (rule R422). -/
structure UtcInfo where
  offset : BitVec 16
  leap61 : Bool
  leap59 : Bool
  deriving DecidableEq, Repr

/-- Header fields of a PTP message and its time stamp at the ball (rule R438). -/
structure PtpMsg where
  domain : Byte
  seqId  : BitVec 16
  source : List Byte
  time   : YTime
  deriving DecidableEq, Repr

/-- What the BMCA recommends for a port (rule R437). -/
inductive BmcaAdvice where
  | master
  | passive
  | slave
  deriving DecidableEq, Repr

/-- A Tally event record (rule R528) but for its KIND; `bad` says that a reserved field is set or KIND is undefined. -/
structure TallyRec where
  index : BitVec 16
  value : Word
  count : Word
  dlen  : Byte
  data  : List Byte
  bad   : Bool
  deriving DecidableEq, Repr

/-- A reading of the VBAT-domain calendar counter: seconds, and 1/1,024 s within them. -/
structure CalTime where
  sec  : Nat
  tick : Fin 1024
  deriving DecidableEq, Repr

/-- A Dormer record as chute 46 carries it (rule R382). -/
structure DormerRec where
  rule    : Fin 64
  kind    : Byte
  src     : Byte
  value   : BitVec 16
  seconds : Word
  ticks   : BitVec 16
  flags   : Byte
  deriving DecidableEq, Repr

/-- The part of the tally image that an uncorrectable error hits (rule R540). -/
inductive TallyPart where
  | hist (h : Fin 512)
  | ext (x : Fin 256)
  | header
  | lost
  | marks
  deriving DecidableEq, Repr

/-- Who sent an update packet: the host with its command, or a LAN. -/
inductive UpdFrom where
  | host (c : Cmd)
  | lan (b : Bool)
  deriving DecidableEq, Repr

/-- The pairing items of a HELLO frame (rules R449, R460), and the lanes that are locked. -/
structure HelloMsg where
  twinEn  : Bool
  seat    : Fin 2
  yardId  : BitVec 18
  version : Word
  schema  : Word
  life    : Fin 8
  tagOk   : Bool
  session : Word
  boot    : Word
  lane0   : Bool
  lane1   : Bool
  deriving DecidableEq, Repr

/-- An ACK frame (rule R465). -/
structure AckMsg where
  epoch     : Word
  mismatch  : Bool
  classDiff : Byte
  lockstep  : Bool
  deriving DecidableEq, Repr

/-- The commands of the block: one constructor per row of spec/opcode_table.json, in its order. -/
inductive Instr where
  /-- VBAT_POWER_ON (rule R34): VBAT reaches 2.0 V; the VBAT domain powers on and drives RAIL_EN_AON high. -/
  | vbatPowerOn
  /-- AON_RAILS_IN_RANGE (rule R34): VDD_AON and VDDIO_33 are both in range; the device drives RAIL_EN_MAIN high 1 ms later. -/
  | aonRailsInRange
  /-- RAIL_TIMEOUT (rule R35): A main-mode rail is still out of range 25 ms after RAIL_EN_MAIN rose; RAIL_EN_MAIN is driven low, and after the third attempt the device holds in DORMER_WATCH. -/
  | railTimeout
  /-- RAIL_RETRY (rule R35): The 100 ms wait after a rail timeout ends and RAIL_EN_MAIN is raised again. -/
  | railRetry
  /-- POR_RELEASE (rule R34): The internal power-on reset releases 2 ms after the last rail is in range. -/
  | porRelease
  /-- RESET_RELEASE (rule R34): Reset releases at the later of POR release and SYS_RST_N high; the straps are sampled and the admission ladder starts. -/
  | resetRelease (khz : Nat) (straps : Fin 16) (storeOk loftOk vaultOk : Bool)
  /-- SYSTEM_RESET (rule R557): SYS_RST_N is held low for at least 1 µs; the device resets at once, or the reset is latched during PFAIL handling or in DORMER_WATCH. -/
  | systemReset
  /-- SYS_RESET_RETURN (rule R557): In DORMER_WATCH, SYS_RST_N has been high for 1 ms and PFAIL_N high for 100 ms; the device returns to BOOT as a cold restart. -/
  | sysResetReturn
  /-- BROWN_OUT (rule R76): The brown-out detector trips; the device resets with no flush and powers the main rails again. -/
  | brownOut
  /-- PFAIL_ASSERT (rule R73): An accepted PFAIL_N assertion latches PFAIL and starts the PFAIL handling. -/
  | pfailAssert
  /-- PFAIL_HOIST_TIMEOUT (rule R73): At the smaller of DRAIN_TIMEOUT and 100 µs, every Hoist channel still in a MOVE halts with ABORT_POWER. -/
  | pfailHoistTimeout
  /-- PFAIL_DESCRIPTOR_ABORT (rule R124): At 100 µs of PFAIL handling, unfinished descriptors complete with ABORT_POWER and a final shadow header is written. -/
  | pfailDescriptorAbort
  /-- PFAIL_LARDER_FREEZE (rule R73): By 200 µs, the Larder is frozen, the HELD count and epoch are written to eMRAM, and the Tally flush begins. -/
  | pfailLarderFreeze
  /-- PFAIL_OUTPUTS_LOW (rule R73): At 2.0 ms of PFAIL handling, STOP_OUT_A/B and SRP_TXEN are driven low. -/
  | pfailOutputsLow
  /-- PFAIL_RAIL_CUT (rule R73): At 2.5 ms, RAIL_EN_MAIN goes low, PFAIL_STAGE becomes 0x5 and the mode becomes DORMER_WATCH. -/
  | pfailRailCut
  /-- PFAIL_CLEAR (rule R74): PFAIL_N has been high for 100 ms after a PFAIL entry with PFAIL_AUTO 1; the device returns to BOOT as a cold restart. -/
  | pfailClear
  /-- XTAL32_LOST (rule R43): XTAL32 gives no edge for 250 µs; the RTC and the Dormer move to LPRC32 and calendar time becomes TIME_UNKNOWN. -/
  | xtal32Lost
  /-- XTAL32_RESTORED (rule R43): XTAL32 has run steadily for 1 s; the RTC and the Dormer switch back to it. -/
  | xtal32Restored
  /-- REFCLK_LOST (rule R48): REFCLK gives no edge within 5 µs; the core moves to RC4M, the PLLs lose lock, the Trapdoor goes to STOP and the mode becomes FAULT_SAFE. -/
  | refclkLost
  /-- PLL_CORE_UNLOCK (rule R48): PLL_CORE loses lock; the Trapdoor goes to STOP and the device enters FAULT_SAFE. -/
  | pllCoreUnlock
  /-- PLL_ADC_UNLOCK (rule R48): PLL_ADC loses lock; measurements become invalid and every channel goes to LOST. -/
  | pllAdcUnlock
  /-- PLL_SERDES_UNLOCK (rule R48): PLL_SERDES loses lock; the LAN and Fjaryr links go down. -/
  | pllSerdesUnlock
  /-- PLL_RELOCK (rule R48): A PLL regains lock after its reference returns. -/
  | pllRelock (pll : Fin 3)
  /-- THERM_WARN (rule R54): The hottest sensor reaches WARN_LEVEL; THERM_WARN is set in CLK_FAULT and GLB_FAULT. -/
  | thermWarn (tj : BitVec 16)
  /-- THERM_CRIT (rule R54): The hottest sensor reaches 110 °C; the Trapdoor goes to STOP and the device enters FAULT_SAFE. -/
  | thermCrit (tj : BitVec 16)
  /-- THERM_CUT (rule R54): The hottest sensor reaches 118 °C; RAIL_EN_MAIN goes low and the device stays in DORMER_WATCH. -/
  | thermCut (tj : BitVec 16)
  /-- THERMAL_RECOVERY (rule R67): With THERM_AUTO 1, the AON sensor has read below 95 °C for 60 s; the device returns to BOOT as a cold restart. -/
  | thermalRecovery
  /-- STICKY_FAULT_CLEAR (rule R57): A write of 1 to a W1C sticky fault bit clears it, and the bit is set again in the same cycle if its condition persists. -/
  | stickyFaultClear (off v : Word)
  /-- XTAL32_CFG_WRITE (rule R56): A write to CLK_XTAL32_CFG changes LOAD_CAP and DRIVE at once and stores BYPASS for the next VBAT power-on. -/
  | xtal32CfgWrite (v : Word)
  /-- REGISTER_WRITE (rule R548): A write to a register with no behaviour of its own updates it, or its commit-group shadow, or is ignored when the group's commit is PENDING. -/
  | registerWrite (off v : Word) (hi : Option Word) (w : Writer)
  /-- PROTECTED_HOST_WRITE (rule R140): A host write to a register that only the service cores may write completes with no effect and sets HOST_WRITE. -/
  | protectedHostWrite (off : Word)
  /-- BAD_SIZE_ACCESS (rule R95): A BAR access that is not a naturally aligned 32 or 64-bit access completes normally, is ignored or reads 0, and sets BAD_ACCESS. -/
  | badSizeAccess
  /-- COUNTER_LATCH_READ (rule R294): A read of the lower half of a 64-bit Larder counter latches its upper half for the next read. -/
  | counterLatchRead (k : Fin 4)
  /-- MODE_REQ_CELLAR (rule R71): CLK_MODE_REQ with target CELLAR starts a commanded power-down ending in CELLAR. -/
  | modeReqCellar
  /-- MODE_REQ_DORMER_WATCH (rule R71): CLK_MODE_REQ with target DORMER_WATCH starts a commanded power-down ending in DORMER_WATCH. -/
  | modeReqDormerWatch
  /-- MODE_REQ_RESTART (rule R61): CLK_MODE_REQ with target RESTART returns the device to BOOT as a cold restart. -/
  | modeReqRestart
  /-- MODE_REQ_SURVEY (rule R61): CLK_MODE_REQ with target SURVEY moves HOSTED_IDLE to SURVEY. -/
  | modeReqSurvey
  /-- MODE_REQ_FLEET_STOP (rule R61): CLK_MODE_REQ with target FLEET_STOP moves FLEET_HOLD to HOSTED_IDLE when every robot is at standstill, releasing every token. -/
  | modeReqFleetStop
  /-- MODE_REQ_FLEET_START (rule R61): CLK_MODE_REQ with target FLEET_START moves HOSTED_IDLE to FLEET_RUN or FLEET_HOLD, with claim arbitration on a twin. -/
  | modeReqFleetStart
  /-- CLAIM_ARBITRATION_END (rule R456): The 200 µs after CLAIM_OUT is asserted for FLEET_START ends; the unit changes mode or drops its claim with CONFLICT. -/
  | claimArbitrationEnd
  /-- PDOWN_DESCRIPTOR_ABORT (rule R71): 1 ms after a power-down is accepted, unfinished descriptors complete with ABORT_POWER and open chute packets are rewound. -/
  | pdownDescriptorAbort
  /-- PDOWN_DRAIN_TIMEOUT (rule R161): DRAIN_TIMEOUT expires; every Hoist channel still inside a MOVE halts with ABORT_POWER. -/
  | pdownDrainTimeout
  /-- PDOWN_OUTPUTS_STOP (rule R71): At D + 0.1 ms, beacon, PTP, RTCM and measurement output stop and the Tally flush begins. -/
  | pdownOutputsStop
  /-- PDOWN_RAIL_CUT (rule R71): By D + 2 ms, CLK_MODE_RESULT shows DONE, RAIL_EN_MAIN goes low and the mode is DORMER_WATCH. -/
  | pdownRailCut
  /-- PDOWN_CELLAR_ENTRY (rule R71): By D + 3 ms, RAIL_EN_AON goes low and the mode is CELLAR. -/
  | pdownCellarEntry
  /-- WAKE_IN_EDGE (rule R65): An enabled WAKE_IN edge held 100 µs wakes the device from CELLAR or DORMER_WATCH into BOOT. -/
  | wakeInEdge (pin1 rising : Bool)
  /-- WAKE_TIMER_EXPIRE (rule R79): The wake timer reaches zero; it wakes the device in CELLAR or DORMER_WATCH, and otherwise stops at 0. -/
  | wakeTimerExpire
  /-- LATCHED_WAKE (rule R65): A wake source latched during a commanded power-down wakes the device 10 ms after RAIL_EN_MAIN went low. -/
  | latchedWake
  /-- WAKE_COMMIT (rule R79): COMMIT of group WAKE validates the wake sources and timer and starts the timer. -/
  | wakeCommit
  /-- PLL_LOCK_BOOT (rule R68): By 0.2 ms after reset release, the three PLLs are locked. -/
  | pllLockBoot
  /-- MEMORY_TEST_COMPLETE (rule R285): The BOOT memory test of map, holder table and grant store completes, blocking failing cells and grant slots. -/
  | memoryTestComplete (words buckets : List (BitVec 23)) (grants : List (BitVec 11))
  /-- LAN_ADMIT (rule R68): At 200 ms after reset release, LAN-A and LAN-B are admitted with 16 frame credits each. -/
  | lanAdmit (a b : Bool)
  /-- BEACON_START (rule R68): At 300 ms, the permit beacon starts, saying HOLD and carrying the restart epoch mark. -/
  | beaconStart
  /-- BOOT_COMPLETE (rule R61): BOOT completes; LAN credits and ring credits are raised and the mode changes under the transition table. -/
  | bootComplete
  /-- PTP_ACCEPT_START (rule R68): At 1 s, Announce messages from other clocks are accepted and the device's own Announce and Sync begin. -/
  | ptpAcceptStart
  /-- RESET_ARM_RISE (rule R87): RESET_ARM rises; a local reset or Trapdoor arming attempt starts, or is refused at once when its conditions fail. -/
  | resetArmRise (lowLong : Bool)
  /-- RESET_ARM_FALL (rule R360): RESET_ARM falls; after 0.5 to 5 s high it clears the latch by local reset or arms the Trapdoor, and otherwise the attempt is refused. -/
  | resetArmFall (heldLong : Bool)
  /-- RESET_ARM_HOLD_TIMEOUT (rule R87): RESET_ARM stays high beyond 5 s; the attempt is refused and counted. -/
  | resetArmHoldTimeout
  /-- PERST_ASSERT (rule R96): PCIE_PERST_N is asserted; the endpoint and the Host Ring Engine reset and the host claim is released. -/
  | perstAssert
  /-- PCIE_LINK_UP (rule R119): The PCIe link reaches L0. -/
  | pcieLinkUp (speed width : Fin 5)
  /-- PCIE_WAKE_RELEASE (rule R97): PCIE_WAKE_N is released when the link reaches L0 or 1 s has passed. -/
  | pcieWakeRelease
  /-- HOST_ADMISSION_OPEN (rule R119): At 100 ms after reset release, configuration space and the BARs are served and group HOST and the claim are accepted. -/
  | hostAdmissionOpen
  /-- HOST_COMMIT (rule R125): COMMIT of group HOST validates and applies the doorbell and shadow bases, session and poll settings. -/
  | hostCommit
  /-- HOST_CLAIM (rule R116): A write to ATTN_CLAIM with CLAIM set is decided by the claim table and may start a session. -/
  | hostClaim (v : Word) (bme : Bool)
  /-- HOST_RELEASE (rule R117): A write to ATTN_CLAIM with RELEASE set ends the session, disables every ring and abandons pending completions. -/
  | hostRelease (v : Word) (bme : Bool)
  /-- ATTN_KICK (rule R102): A write to ATTN_KICK starts a doorbell scan within 1 µs. -/
  | attnKick
  /-- DOORBELL_SCAN (rule R102): Every POLL_PERIOD the device reads the doorbell words and HOST_ALIVE, returns credits and advances LIMIT. -/
  | doorbellScan (words : Vector Word 128) (alive : Word) (failed : Bool)
  /-- DESCRIPTOR_FETCH (rule R112): Descriptors covered by a doorbell are fetched, or the ring halts with NO_CREDIT, BAD_FORMAT or BUS_ERROR. -/
  | descriptorFetch (ring : Fin 128) (descs : List Desc) (err : Bool)
  /-- HRE_NOP (rule R106): Opcode 0x00 NOP to the Host Ring Engine completes DONE. -/
  | hreNop (c : Cmd)
  /-- HRE_ECHO (rule R106): Opcode 0x01 ECHO to the Host Ring Engine completes DONE with P0 in RESULT. -/
  | hreEcho (c : Cmd)
  /-- COMPLETION_WRITE (rule R101): A completed descriptor's completion entry, shadow word and PENDING are written in order, with any MSI-X message. -/
  | completionWrite (ring : Fin 128) (index : BitVec 16)
  /-- EVENT_WRITE (rule R108): A block event is written to its EVENT ring with its SEQ, or counted as lost on a full ring or with no ring. -/
  | eventWrite
  /-- COALESCE_TIMER (rule R115): COAL_TIME passes since the first unsignalled entry of a ring, and the ring signals its vector. -/
  | coalesceTimer (ring : Fin 128)
  /-- MSIX_GAP_END (rule R115): MIN_GAP ends for a vector with merged signals pending, and one message is sent. -/
  | msixGapEnd (v : Fin 16)
  /-- MSIX_UNMASK (rule R114): A masked vector with its pending bit set is unmasked and sends its message. -/
  | msixUnmask (v : Fin 16)
  /-- RING_COMMIT (rule R120): COMMIT of group RING enables, changes or starts draining the selected ring. -/
  | ringCommit
  /-- RING_DRAIN_DONE (rule R121): Every fetched descriptor of a DRAINING ring has completed; the ring becomes OFF and the commit shows DONE. -/
  | ringDrainDone (ring : Fin 128)
  /-- HOST_ALIVE_TIMEOUT (rule R118): HOST_ALIVE has not changed for HOST_TIMEOUT ms while claimed; the host is lost. -/
  | hostAliveTimeout
  /-- LINK_L0_LOSS (rule R118): The PCIe link has left L0 for more than 10 ms while claimed; the host is lost. -/
  | linkL0Loss (long : Bool)
  /-- BUS_MASTER_CLEAR (rule R118): Bus Master Enable is cleared while claimed; the host is lost. -/
  | busMasterClear
  /-- D3HOT_ENTRY (rule R118): The function enters D3hot while claimed; the host is lost. -/
  | d3hotEntry
  /-- HOST_WRITE_RESUME (rule R118): The link is up with Bus Master Enable set again, and waiting completions and events are written in order. -/
  | hostWriteResume
  /-- CHUTE_START (rule R129): A producer's START opens a packet at a priority when the free credit is at least PKT_MAX. -/
  | chuteStart (n : Fin 96) (prio : Fin 8)
  /-- CHUTE_WRITE (rule R131): A producer's WRITE appends one word, or rewinds the packet with OVERSIZE at its rewind mark. -/
  | chuteWrite (n : Fin 96) (w : DWord)
  /-- CHUTE_COMMIT (rule R130): A producer's COMMIT makes the open packet visible, or closes it with BAD_LENGTH or OVERSIZE. -/
  | chuteCommit (n : Fin 96)
  /-- CHUTE_ABORT (rule R129): A producer's ABORT rewinds the open packet and returns its credits. -/
  | chuteAbort (n : Fin 96)
  /-- CHUTE_READ (rule R133): A consumer read returns the next word by priority with its read tag and returns its credit, handling uncorrectable words. -/
  | chuteRead (n : Fin 96) (ecc : Ecc)
  /-- CHUTE_DROP_REST (rule R134): DROP_REST discards the unread words of the part-read packet and returns their credits. -/
  | chuteDropRest (n : Fin 96)
  /-- CHUTE_CFG_COMMIT (rule R141): COMMIT of group CHUTE enables or disables the selected chute, discarding its packets on disable. -/
  | chuteCfgCommit
  /-- CHUTE_VIEW_SAMPLE (rule R142): A read of chute view offset 0x10 samples CHU_GIVEN, CHU_RETURNED and CHU_OUTSTANDING together. -/
  | chuteViewSample (n : Fin 96)
  /-- PROG_COMMIT (rule R162): COMMIT of group PROG checks the selected channel's program, clears its flags and sets it IDLE. -/
  | progCommit
  /-- CHANNEL_START (rule R159): START in HST_CH_CTRL begins the channel at instruction 0 with loop levels and latch reset. -/
  | channelStart (v : Word)
  /-- CHANNEL_RESUME (rule R159): RESUME continues a HALTED channel at the halted instruction. -/
  | channelResume (v : Word)
  /-- CHANNEL_STOP (rule R159): STOP makes the channel halt with STOPPED at its next instruction boundary. -/
  | channelStop (v : Word)
  /-- EVENT_FLAGS_CLEAR (rule R152): A write to HST_CH_EVENTS_LO or HST_CH_EVENTS_HI clears pending event flags of the selected channel. -/
  | eventFlagsClear (hi : Bool) (v : Word)
  /-- TICK_CONFIG_WRITE (rule R163): A write to HST_TICKt sets the tick period and restarts its phase. -/
  | tickConfigWrite (t : Fin 8) (v : Word)
  /-- HOIST_TICK (rule R152): Tick timer t expires and sets the pending flag of its event ID in every channel. -/
  | hoistTick (t : Fin 8)
  /-- MOVE (rule R147): A MOVE instruction copies LENGTH bytes between regions or to or from a chute port. -/
  | move (n : Fin 32) (fetch : Ecc) (bus : BusOutcome)
  /-- MOVE_COMPLETE (rule R156): A MOVE's writes are proven landed by read-back, write responses or chute COMMIT, and the channel goes on. -/
  | moveComplete (n : Fin 32)
  /-- BURST_RETRY (rule R157): 1 µs after an error response a burst is retried, or the channel halts with BUS_ERROR when retries are used up. -/
  | burstRetry (n : Fin 32) (ok : Bool)
  /-- LOOP (rule R150): A LOOP instruction runs its body COUNT times with stride offsets. -/
  | loop (n : Fin 32) (fetch : Ecc)
  /-- WAIT (rule R151): A WAIT instruction proceeds when its event flag and level condition hold, or the channel becomes WAITING. -/
  | wait (n : Fin 32) (fetch : Ecc)
  /-- WAIT_SATISFIED (rule R153): The condition of a WAITING channel's WAIT or chute stall comes to hold and the channel runs again. -/
  | waitSatisfied (n : Fin 32)
  /-- WAIT_TIMEOUT (rule R151): A WAIT's TIMEOUT elapses and the channel halts with STALE. -/
  | waitTimeout (n : Fin 32)
  /-- SIGNAL (rule R154): A SIGNAL instruction sets its pending flag in the channels named in TARGETS and sends its notifications. -/
  | signal (n : Fin 32) (fetch : Ecc)
  /-- END (rule R155): An END instruction, or running past PROG_LEN, puts the channel in DONE and sends its notifications. -/
  | hoistEnd (n : Fin 32) (fetch : Ecc)
  /-- THREAD_WAKE (rule R166): A wake, a mapped Hoist WAKE code or a flow message makes a thread READY, preempting a lower unit when eligible. -/
  | threadWake (src : WakeSrc)
  /-- THREAD_DISPATCH (rule R165): A free execution unit is given the highest-priority eligible READY thread. -/
  | threadDispatch (unit : Fin 9) (waitUs : Word)
  /-- PACKET_ADMISSION (rule R167): Dispatch reads a packet's first word from an input chute, gives it ADM_SEQ and its epoch, and assigns it to a flow and thread. -/
  | packetAdmission (ecc : Ecc)
  /-- ENTRY_COMPLETE (rule R169): A thread completes its reorder-window entry, and entries are released in ADM_SEQ order to their destinations. -/
  | entryComplete (seq : Word) (out : EntryOut)
  /-- THREAD_COMMIT (rule R177): COMMIT of group THREAD sets the selected thread's priority, affinity and enable. -/
  | threadCommit
  /-- FLOW_COMMIT (rule R178): COMMIT of group FLOW sets the selected flow's window limit, pool and enable. -/
  | flowCommit
  /-- OBS_LATCH (rule R174): LATCH copies every waiting-time histogram and LOAD into the read bank in one cycle. -/
  | obsLatch
  /-- LOAD_WINDOW_END (rule R174): A LOAD_WINDOW ends and each unit's LOAD is taken from it. -/
  | loadWindowEnd (loads : Vector Word 9)
  /-- FLOW_VIEW_SAMPLE (rule R179): A read of flow view offset 0x04 samples ADMITTED, RELEASED and HELD together. -/
  | flowViewSample (f : Fin 64)
  /-- EPOCH_BOUNDARY (rule R11): At each whole multiple of the epoch length, the epoch counter increments and the input set of the new epoch opens. -/
  | epochBoundary
  /-- EPOCH_COUNTER_RECORD (rule R12): Every 8,192 epochs the epoch counter is recorded in eMRAM. -/
  | epochCounterRecord
  /-- EPOCH_LENGTH_APPLY (rule R13): An accepted epoch-length commit takes effect at the next whole yard-time second. -/
  | epochLengthApply
  /-- EPOCH_RELEASE (rule R170): At the Release phase the decision pair takes the epoch input list whole. -/
  | epochRelease
  /-- POSITION_SNAPSHOT (rule R15): At the position snapshot time, the latest CRE output record of each robot is taken. -/
  | positionSnapshot
  /-- EPOCH_DECIDE (rule R282): The decision pair applies task events and Larder work of the epoch in order and posts loop inputs. -/
  | epochDecide (loops : List LoopSpec)
  /-- OVERRUN_EPOCH (rule R17): A phase misses its time; the epoch is abandoned and counted, and a second consecutive overrun raises fleet HOLD. -/
  | overrunEpoch
  /-- EPOCH_DIGEST_CLOSE (rule R464): The epoch's outputs and digest close; a lone unit commits, and a mirrored active sends PREPARE. -/
  | epochDigestClose
  /-- EPOCH_COMMIT (rule R277): The epoch commits: pending tokens become HELD, releases, blocks, transitions, loop states, relaxations and waiting commits take effect, and outputs may leave. -/
  | epochCommit
  /-- EPOCH_ABANDON (rule R277): The epoch is abandoned; all its changes are undone and its host inputs are carried to the next epoch. -/
  | epochAbandon
  /-- MEAS_EPOCH (rule R191): At each measurement time, channels are interpolated and measurement series are committed to chutes 22 and 23. -/
  | measEpoch (obs : List MeasObs)
  /-- MEAS_RATE_APPLY (rule R191): A committed RATE change takes effect at the next whole yard-time second. -/
  | measRateApply
  /-- MEAS_COMMIT (rule R204): COMMIT of group MEAS sets rate, antennas, masks, signal enables and acquisition. -/
  | measCommit
  /-- TRACKING_LOOP_COMMIT (rule R190): COMMIT of group LOOP sets bandwidths, T_COH and spacing for the selected signal at each channel's next boundary. -/
  | trackingLoopCommit
  /-- ACQ_RESULT (rule R187): An acquisition search completes and its result is written to chute 25, a hit being handed to a channel. -/
  | acqResult (antB : Bool) (signal sv : Byte) (codePhase doppler : Word) (peak : BitVec 16) (k : Fin 14) (geo : Bool)
  /-- CHANNEL_ALLOCATION (rule R188): Firmware allocates and frees channels by antenna and elevation rank, counting shortfalls once per second. -/
  | channelAllocation (sky : List SkySat)
  /-- TRACKING_LOOP_UPDATE (rule R190): Each channel's carrier and code loops update once per integration period. -/
  | trackingLoopUpdate (ch : Fin 512)
  /-- CHANNEL_TRACK (rule R189): A PULL_IN channel holds PLI of at least 0.8 for 100 ms and enters TRACK. -/
  | channelTrack (ch : Fin 512)
  /-- CHANNEL_PULL_IN_TIMEOUT (rule R189): A channel has not reached TRACK within 1 s of PULL_IN and becomes LOST. -/
  | channelPullInTimeout (ch : Fin 512)
  /-- CHANNEL_LOCKED (rule R189): A TRACK channel finds bit or secondary-code sync and becomes LOCKED. -/
  | channelLocked (ch : Fin 512)
  /-- CHANNEL_LOSS (rule R189): The loss condition holds for 200 ms and the channel becomes LOST. -/
  | channelLoss (ch : Fin 512)
  /-- CHANNEL_REACQUIRED (rule R189): A LOST channel finds its signal within 2 s and returns to PULL_IN. -/
  | channelReacquired (ch : Fin 512)
  /-- CHANNEL_IDLE_TIMEOUT (rule R189): A LOST channel has not reacquired within 2 s and becomes IDLE. -/
  | channelIdleTimeout (ch : Fin 512)
  /-- NAV_RECORD (rule R196): A completed nav unit is decoded, checked and written to chute 24. -/
  | navRecord (ch : Fin 512) (check : Fin 3) (time : YTime) (payload : List Byte)
  /-- ANT_FAULT_SET (rule R183): ANT_x_FLT_N low for 1 ms sets the antenna fault. -/
  | antFaultSet (antB : Bool)
  /-- ANT_FAULT_CLEAR (rule R183): ANT_x_FLT_N high for 1 ms clears the live antenna fault state. -/
  | antFaultClear (antB : Bool)
  /-- BANDPWR_UPDATE (rule R203): Every 100 ms, band power per DDC is updated and clipping is assessed. -/
  | bandpwrUpdate (a b : Word) (clipA clipB : Fin 101)
  /-- SURVEY_SECOND (rule R207): Each second of a self-survey averages a standalone position and updates elapsed time and SIGMA. -/
  | surveySecond (sats : Byte) (x y z : Int) (vec : Option (Int × Int × Int))
  /-- REF_COMMIT (rule R210): COMMIT of group REF stores a FIXED reference position and baseline, clears DISTURBED and resets every CRE filter. -/
  | refCommit
  /-- RTCM_EPOCH (rule R216): At an RTCM epoch, station and MSM messages are built, committed to chute 26 and handed to every caster client. -/
  | rtcmEpoch (left : List (Nat × Nat))
  /-- RTCM_COMMIT (rule R229): COMMIT of group RTCM sets RTCM and compact parameters from the next whole second. -/
  | rtcmCommit
  /-- CASTER_COMMIT (rule R230): COMMIT of group CASTER sets port, client limit and listening, closing connections as needed. -/
  | casterCommit
  /-- MONITOR_COMMIT (rule R230): COMMIT of group MONITOR sets the monitor limits and resets FAIL_RUN. -/
  | monitorCommit
  /-- CASTER_TABLE (rule R218): Opcode 0x01 CASTER_TABLE loads mount points and credentials, storing password verifiers. -/
  | casterTable (c : Cmd) (data : List Byte)
  /-- STATION_TEXT (rule R218): Opcode 0x02 STATION_TEXT loads the antenna descriptor and serial for message 1033. -/
  | stationText (c : Cmd) (data : List Byte)
  /-- CASTER_REQUEST (rule R219): A complete client request is answered by the first matching row of the caster answer table. -/
  | casterRequest (q : CastReq)
  /-- CASTER_REQUEST_TIMEOUT (rule R219): No complete request arrives within 10 s and the connection is closed. -/
  | casterRequestTimeout
  /-- LOCKOUT_EXPIRE (rule R220): A source address's 60 s lockout after five failed authentications ends. -/
  | lockoutExpire (addr : Word)
  /-- CLIENT_BACKLOG_TIMEOUT (rule R221): A client's backlog has stayed non-empty for 10 s and the client is closed. -/
  | clientBacklogTimeout (id : Nat)
  /-- COMPACT_EPOCH (rule R222): At each compact epoch, a compact correction packet is committed to chute 27. -/
  | compactEpoch
  /-- MONITOR_RUN (rule R223): Once per second the baseline monitor resolves the A-to-B vector, writes an integrity record and updates FAIL_RUN and DISTURBED. -/
  | monitorRun (vec : Option (Int × Int × Int))
  /-- DRIFT_CHECK (rule R224): Every 60 s the mean standalone position is compared with the reference point. -/
  | driftCheck (x y z : Int)
  /-- DIST_CLEAR (rule R226): DIST_CLEAR clears DISTURBED when recent results pass, and otherwise completes with CONFLICT. -/
  | distClear
  /-- BASE_SERIES_INTAKE (rule R237): The CRE keeps an antenna A series from chute 23 for pairing. -/
  | baseSeriesIntake
  /-- CRE_OBS_INTAKE (rule R235): An OBS is checked in intake order, held as a part, or queued as a robot epoch. -/
  | creObsIntake (chute : Fin 4) (ageMs : Word)
  /-- PART_HOLD_TIMEOUT (rule R236): A held OBS part is not matched within 20 ms and is discarded. -/
  | partHoldTimeout (lid : Fin 256)
  /-- BASE_PAIR_TIMEOUT (rule R237): No base series pairs with a robot epoch 3 ms after arrival; it is processed with no base. -/
  | basePairTimeout (lid : Fin 256)
  /-- ROBOT_EPOCH_COMPLETE (rule R251): A robot epoch's filter update, ambiguity search and cross-check complete and its output record is committed to chutes 32 and 33. -/
  | robotEpochComplete (ecc : Ecc) (eph : List EphSat) (doneTime : YTime) (latencyUs : Word)
  /-- FILTER_GAP_RESET (rule R243): No OBS has been accepted for GAP_RESET seconds and the robot's filter is reset. -/
  | filterGapReset (lid : Fin 256)
  /-- ROBOT_RESET (rule R257): Opcode 0x01 ROBOT_RESET resets one robot's filter or every filter. -/
  | robotReset (c : Cmd)
  /-- STATE_READ (rule R257): Opcode 0x02 STATE_READ returns a robot's filter state block. -/
  | stateRead (c : Cmd)
  /-- FILTER_COMMIT (rule R258): COMMIT of group FILTER sets CRE weights, acceptance and intake limits at each robot's next epoch. -/
  | filterCommit
  /-- FRAME_COMMIT (rule R258): COMMIT of group FRAME sets the yard frame origin and rotation. -/
  | frameCommit
  /-- XCHK_COMMIT (rule R258): COMMIT of group XCHK sets cross-check limits and zeroes every persistence count. -/
  | xchkCommit
  /-- LARDER_REQUEST (rule R271): A request packet is rasterised and checked, and all its tokens are granted MIRROR_PENDING or it is refused. -/
  | larderRequest
  /-- REQUEST_DEFER_CUTOFF (rule R274): 1 ms before Decide, requests not yet started are answered BUSY. -/
  | requestDeferCutoff
  /-- LARDER_RELEASE (rule R275): A release packet releases tokens at the epoch's commit and a release record is committed. -/
  | larderRelease
  /-- ENVELOPE_COMMAND (rule R279): An envelope command takes FREE stop-envelope tokens into grant slot 7 and marks conflicting holders for STOP. -/
  | envelopeCommand
  /-- SLOT_EXPIRY (rule R278): At a slot boundary the passed slot's HELD count moves to EXPIRED and the expiry sweep starts. -/
  | slotExpiry
  /-- SWEEP_COMPLETE (rule R278): The expiry sweep has cleared the passed bit position in every run. -/
  | sweepComplete
  /-- CELL_QUARANTINE (rule R283): An uncorrectable map word or bucket quarantines its cells and becomes a block input to the next epoch. -/
  | cellQuarantine (cell : BitVec 23) (bucket : Bool)
  /-- SCRUB_RECOUNT (rule R288): The recount walks buckets so as to cover the whole map every SCRUB_PERIOD, faulting on a mismatch. -/
  | scrubRecount (mismatch : Bool)
  /-- LARDER_AUDIT_CLEAR (rule R289): AUDIT_CLEAR starts a full Larder recount. -/
  | larderAuditClear
  /-- AUDIT_RECOUNT_DONE (rule R289): The full recount ends; the lock clears or rebases when clean, and otherwise stays with CONFLICT. -/
  | auditRecountDone (mismatch : Bool)
  /-- UNBLOCK (rule R286): Opcode 0x01 UNBLOCK tests a BLOCKED cell's memory and frees it at the epoch commit. -/
  | unblock (c : Cmd) (clean : Bool)
  /-- LARDER_HOST_RELEASE (rule R293): Opcode 0x02 RELEASE releases a robot's tokens as an epoch input. -/
  | larderHostRelease (c : Cmd)
  /-- CELL_READ (rule R293): Opcode 0x03 CELL_READ returns a cell's map word, flags and bucket. -/
  | cellRead (c : Cmd)
  /-- MAP_COMMIT (rule R295): COMMIT of group MAP validates a new map geometry and addresses. -/
  | mapCommit
  /-- MAP_APPLY (rule R295): At the next whole second an accepted MAP commit takes effect and every cell becomes FREE. -/
  | mapApply
  /-- RULES_COMMIT (rule R296): COMMIT of group RULES sets margin, token limit, envelope horizon and recount period from the next epoch. -/
  | rulesCommit
  /-- FLEET_COMMIT (rule R315): COMMIT of group FLEET starts validation of the shadow fleet tables. -/
  | fleetCommit
  /-- FLEET_VALIDATED (rule R316): Validation of a FLEET commit ends; it takes effect at once or waits for its epoch. -/
  | fleetValidated
  /-- TABLE_LOAD (rule R317): Opcode 0x01 TABLE_LOAD writes entries into a shadow fleet table. -/
  | tableLoad (c : Cmd) (data : List Byte)
  /-- TASK_EVENT (rule R317): Opcode 0x02 TASK_EVENT is a host task event applied as an epoch input. -/
  | taskEvent (c : Cmd)
  /-- TASK_READ (rule R317): Opcode 0x03 TASK_READ returns live task records. -/
  | taskRead (c : Cmd)
  /-- TASK_FORCE (rule R317): Opcode 0x04 TASK_FORCE sets a task's state and holder. -/
  | taskForce (c : Cmd)
  /-- TASK_AUDIT_CLEAR (rule R314): AUDIT_CLEAR in TRK_CTRL recounts the task records and clears the lock when they agree. -/
  | taskAuditClear (mismatch : Bool)
  /-- TABLE_ECC (rule R314): An uncorrectable error in a live table sets TABLE_ECC and raises fleet HOLD, or is a task audit fault in a live record. -/
  | tableEcc (live : Bool)
  /-- LOOP_INPUT (rule R322): A loop input read from chute 40 updates its robot loop by the PI law when fresh, and commits a command record. -/
  | loopInput (comp : YTime) (us : Word)
  /-- COAST_ENTRY (rule R334): COAST_EPOCHS pass without a fresh sample; the loop ramps down and a stop envelope and HOLD are requested. -/
  | coastEntry (lid : Fin 256) (comp : YTime)
  /-- LOOP_RAMP_COMMAND (rule R334): In each COAST or HELD epoch, and once per LOOP_MS when DOCKED or ramped to 0, a command is committed. -/
  | loopRampCommand (lid : Fin 256) (comp : YTime)
  /-- LOOP_STATE_ECC (rule R337): An uncorrectable error in a loop's state makes it LOST with a command of 0 and a per-robot STOP. -/
  | loopStateEcc (lid : Fin 256) (comp : YTime)
  /-- CLOCK_LOOP_INPUT (rule R338): A clock input from chute 42 updates its clock loop and writes a frequency output to chute 43. -/
  | clockLoopInput
  /-- PACE_COMMIT (rule R342): COMMIT of group PACE validates the curves, class and clock registers and GOV_CFG. -/
  | paceCommit
  /-- STOP_IN_OPEN (rule R352): A STOP_IN channel is low for 10 µs; it is open and raises fleet STOP. -/
  | stopInOpen (b : Bool)
  /-- STOP_IN_CLOSE (rule R352): A STOP_IN channel has been high for 10 ms and is closed again. -/
  | stopInClose (b : Bool)
  /-- DISCREPANCY (rule R353): One channel open and the other closed for DISC_TIME raises STOP with DISCREPANCY. -/
  | discrepancy
  /-- LOCKSTEP_FLAG (rule R351): The decision pair's lockstep flags; fleet STOP and FAULT_SAFE follow. -/
  | lockstepFlag
  /-- OUT_READBACK_MISMATCH (rule R355): A STOP_OUT ball differs from its driven level for 5 µs; OUT_FAULT is set and STOP raised. -/
  | outReadbackMismatch
  /-- OUT_FAULT_CONDITION_END (rule R355): Both STOP_OUT balls have read their driven level for 10 ms and the output fault condition ends. -/
  | outFaultConditionEnd
  /-- RC4M_FAULT (rule R354): RC4M stops for 50 µs; both STOP_OUT outputs fall and RC4M_FAULT is set. -/
  | rc4mFault
  /-- RC4M_RECOVER (rule R355): RC4M has run for 10 ms and the RC4M fault condition ends. -/
  | rc4mRecover
  /-- RESTRICTION_REQUEST (rule R351): A block or the decision pair asks the Trapdoor for a fleet or own HOLD or STOP, which applies at once. -/
  | restrictionRequest (q : RestrictReq)
  /-- TRAP_FRAME_REPEAT (rule R356): 10, 20 and 30 ms after a restriction, its STOP or HOLD frame is sent again. -/
  | trapFrameRepeat
  /-- BEACON_TICK (rule R357): At every 100 ms of yard time, the permit beacon is built, tagged and sent on both LANs and the radio. -/
  | beaconTick
  /-- ARM_WINDOW_EXPIRE (rule R360): ARM_WINDOW seconds pass and ARMED clears. -/
  | armWindowExpire
  /-- PROOF_TIMER (rule R368): PROOF_DAYS pass since the last two-channel demand and PROOF_DUE is set. -/
  | proofTimer
  /-- HOLD (rule R365): Trapdoor opcode 0x01 HOLD raises fleet HOLD at fetch. -/
  | hold (c : Cmd) (data : List Byte)
  /-- STOP (rule R365): Trapdoor opcode 0x02 STOP raises fleet STOP at fetch. -/
  | stop (c : Cmd) (data : List Byte)
  /-- GO (rule R362): Trapdoor opcode 0x03 GO clears every HOLD cause at its epoch's commit unless refused. -/
  | go (c : Cmd) (data : List Byte)
  /-- CLEAR (rule R360): Trapdoor opcode 0x04 CLEAR, while ARMED, clears the STOP latch and sets HOLD cause RECOVER. -/
  | clear (c : Cmd) (data : List Byte)
  /-- ROBOT_HOLD (rule R365): Trapdoor opcode 0x05 ROBOT_HOLD raises an own HOLD at fetch. -/
  | robotHold (c : Cmd) (data : List Byte)
  /-- ROBOT_STOP (rule R365): Trapdoor opcode 0x06 ROBOT_STOP raises an own STOP at fetch. -/
  | robotStop (c : Cmd) (data : List Byte)
  /-- ROBOT_GO (rule R363): Trapdoor opcode 0x07 ROBOT_GO clears a robot's own causes at its epoch's commit unless refused. -/
  | robotGo (c : Cmd) (data : List Byte)
  /-- TRAP_COMMIT (rule R369): COMMIT of group TRAP sets the Trapdoor timers. -/
  | trapCommit
  /-- AON_POWER_ON (rule R384): The AON domain powers on; Dormer registers reset, AUX pins go low and the queue empties. -/
  | aonPowerOn
  /-- DORMER_BURST (rule R373): At a tick with a due channel, the Dormer samples, filters, evaluates rules, acts and queues events. -/
  | dormerBurst (ticks : Nat) (time : CalTime) (raw : List (BitVec 12))
  /-- DORMER_EVENT_DRAIN (rule R383): A queued Dormer event is taken by both chutes 46 and 47 and leaves the queue. -/
  | dormerEventDrain
  /-- CHAN_COMMIT (rule R385): COMMIT of group CHAN sets channel enables, periods and shifts at the next tick. -/
  | chanCommit
  /-- DORMER_RULES_COMMIT (rule R381): COMMIT of group RULES replaces changed rules and AUX idle levels at the next tick. -/
  | dormerRulesCommit
  /-- ZYP_FRAME_RECEIVE (rule R396): A ZYP frame arriving on a port is checked by the device receive table and passed to its consumer or counted. -/
  | zypFrameReceive (port : Fin 3) (src : Endpoint) (frame : List Byte)
  /-- ROBOT_STATUS (rule R399): A robot STATUS is kept for STATUS_READ. -/
  | robotStatus
  /-- ROBOT_REQUEST (rule R400): A robot REQUEST operation is turned into a Larder request packet, or answered from the kept answer. -/
  | robotRequest
  /-- ROBOT_RELEASE (rule R401): A robot RELEASE operation is mapped to a Larder release packet. -/
  | robotRelease
  /-- ROBOT_EVENT (rule R401): A robot EVENT operation is mapped to a task event packet. -/
  | robotEvent
  /-- PAIR_STREAM_CATCHUP (rule R392): At the next beacon boundary after a later ECHO is seen, a new pair stream starts with a raised BOOT. -/
  | pairStreamCatchup
  /-- STREAM_RENEW (rule R390): A SEQ counter nears 0xFFFF_0000 and its sender starts a new stream with a new BOOT. -/
  | streamRenew
  /-- RADIO_TRANSMIT (rule R412): The Safety Radio Port writes the next frame by priority to the transceiver with a strobe and TX-enable. -/
  | radioTransmit
  /-- RADIO_IRQ (rule R412): SRP_IRQ_N falls; a done transmit ends TX-enable, or a received frame is read and refused. -/
  | radioIrq (received : Option (List Byte))
  /-- ROSTER (rule R418): Opcode 0x01 ROSTER binds local IDs to federation IDs, classes and RADIO flags. -/
  | roster (c : Cmd) (data : List Byte)
  /-- STATUS_READ (rule R417): Opcode 0x02 STATUS_READ returns the latest STATUS of a range of robots. -/
  | statusRead (c : Cmd)
  /-- ZYP_COMMIT (rule R421): COMMIT of group ZYP sets the yard ID, UDP port and epoch age. -/
  | zypCommit
  /-- NET_COMMIT (rule R421): COMMIT of group NET sets a LAN's IPv4 address and prefix. -/
  | netCommit (lanB : Bool)
  /-- SRP_CFG_WRITE (rule R419): A write to SRP_CFG sets the SPI clock, clamped, from the next transfer. -/
  | srpCfgWrite (value : Word)
  /-- GNSS_CLOCK_INPUT (rule R428): Once per yard-time second the mean GNSS solution feeds clock loop 0. -/
  | gnssClockInput (utc : Option UtcInfo)
  /-- SOURCE_LOST (rule R435): 2 s after the last valid solution, the source is lost; holdover or SRC_SECOND follows. -/
  | sourceLost
  /-- SOURCE_RETURN (rule R435): 1 s of valid solutions confirms the return and the offset is handled as a correction. -/
  | sourceReturn
  /-- HOLDOVER_DEGRADE (rule R430): The estimated holdover error crosses 1 µs, 100 µs or 1 ms and TQ falls one step. -/
  | holdoverDegrade (t : YTime)
  /-- TQ_LOCKED (rule R429): The GNSS offset has stayed within 40 ns for 10 s and TQ becomes LOCKED. -/
  | tqLocked
  /-- SLEW_END (rule R431): A phase slew ends, the loop is preset and resumes, and SHADOW clears. -/
  | slewEnd
  /-- AUTO_STEP (rule R434): Outside steady modes, a refused correction stable for 60 s is stepped. -/
  | autoStep
  /-- STEP (rule R434): STEP in TIM_CTRL steps yard time to the source outside the steady modes. -/
  | step
  /-- SLEW_ACCEPT (rule R432): SLEW_ACCEPT in TIM_CTRL starts a phase slew of the refused offset. -/
  | slewAccept
  /-- TIME_LATCH_READ (rule R445): A read of TIM_NOW_FRAC latches TIM_NOW_NS and TIM_NOW_SEC. -/
  | timeLatchRead
  /-- PTP_SYNC_RX (rule R428): A Sync from the parent port is time-stamped and feeds clock loop 1. -/
  | ptpSyncRx (lanB : Bool) (off : Int) (m : PtpMsg)
  /-- PTP_ANNOUNCE_RX (rule R437): An Announce from another clock is taken into the BMCA. -/
  | ptpAnnounceRx (lanB : Bool) (advice : BmcaAdvice) (newMaster : Bool)
  /-- PTP_DELAY_REQ (rule R436): A Delay_Req is answered, or counted beyond 4,096 per second. -/
  | ptpDelayReq (lanB : Bool) (m : PtpMsg)
  /-- PTP_PARENT_TIMEOUT (rule R435): No Announce for announceReceiptTimeout intervals, or no Sync for 3 intervals, loses the PTP source. -/
  | ptpParentTimeout (announce : Bool)
  /-- PTP_TX (rule R437): At each configured interval a master port sends its Sync and Follow_Up or Announce. -/
  | ptpTx (lanB : Bool) (announce alt : Bool) (time : YTime)
  /-- PTP_TRANSPARENT_FORWARD (rule R438): Under TRANSPARENT, a PTP message is forwarded with its residence time added. -/
  | ptpTransparentForward (lanB : Bool) (typ : Fin 16) (m : PtpMsg) (sent : YTime)
  /-- TIME_CONFIG_APPLY (rule R446): An accepted TIME commit takes effect at the next whole second. -/
  | timeConfigApply
  /-- TIME_COMMIT (rule R446): COMMIT of group TIME validates sources, policy, slew and threshold. -/
  | timeCommit
  /-- PTP_COMMIT (rule R447): COMMIT of group PTP sets role, ports, domains and intervals within 10 ms. -/
  | ptpCommit
  /-- PULSE_COMMIT (rule R448): COMMIT of group PULSE schedules the selected pulse generator. -/
  | pulseCommit
  /-- PULSE_TIME (rule R439): At each pulse time the Hoist event fires, a record is written and PPS_OUT pulses. -/
  | pulseTime (g : Fin 16)
  /-- CAPTURE_EDGE (rule R441): A selected CAP_IN edge is time-stamped, counted and recorded, or lost within 100 ns. -/
  | captureEdge (n : Fin 8) (rising : Bool) (time : YTime)
  /-- CAPTURE_LATCH_READ (rule R445): A read of TIM_CAPn_SEC_LO latches the other three capture words. -/
  | captureLatchRead (n : Fin 8)
  /-- CALENDAR_WRITE (rule R443): Every whole second while SET and not FREE, yard seconds and UTC_OFFSET are written to the calendar. -/
  | calendarWrite
  /-- LINK_HELLO (rule R449): At link-up, HELLO frames are checked for pairing and BOOT counters are exchanged. -/
  | linkHello (h : HelloMsg)
  /-- LIVE_SERVICE_MISSED (rule R453): The decision pair misses its 1 ms service and LIVE_OUT and CLAIM_OUT stop. -/
  | liveServiceMissed
  /-- LIVE_IN_LOST (rule R470): No LIVE_IN rising edge for 20 µs; a standby prepares takeover, or an active loses its standby. -/
  | liveInLost
  /-- CLAIM_IN_DEASSERT (rule R471): CLAIM_IN deasserts after LIVE_IN loss and the standby takes over. -/
  | claimInDeassert
  /-- TAKEOVER_BLOCKED (rule R470): CLAIM_IN is still asserted 200 µs after LIVE_IN loss; the standby enters REJOIN. -/
  | takeoverBlocked
  /-- CONTINUITY_BROKEN (rule R452): An interlock IN line fails its continuity window for 40 µs and INTERLOCK_OPEN is set. -/
  | continuityBroken (claim : Bool)
  /-- TWIN_AMBIGUITY (rule R457): CLAIM_OUT and CLAIM_IN both asserted for 500 µs raise fleet STOP. -/
  | twinAmbiguity
  /-- LANE_LOSS (rule R458): A lane loses block lock and is dropped; the link runs at half rate. -/
  | laneLoss (lane : Fin 2)
  /-- LINK_FRAME_RX (rule R460): A link frame is authenticated and delivered in LSEQ order, or discarded. -/
  | linkFrameRx (frame : List Byte)
  /-- LINK_RETRANSMIT (rule R460): No LACK advance for 20 µs; unacknowledged frames are sent again. -/
  | linkRetransmit
  /-- LINK_IDLE_TX (rule R460): Every 10 µs with nothing queued, IDLE is sent. -/
  | linkIdleTx
  /-- LINK_DOWN (rule R473): The link goes down; the standby abandons unseen epochs and enters REJOIN, and the active sets TWIN_LOST. -/
  | linkDown
  /-- LONE_AFTER_TIMEOUT (rule R473): At the first epoch boundary 2 × LINK_TIMEOUT after the last valid frame, the active runs as a lone unit. -/
  | loneAfterTimeout
  /-- STATE_FRAME (rule R468): A STATE frame from the active sets the standby's fleet and own states. -/
  | stateFrame (fleet : Fin 3) (own : List (Fin 256 × Fin 3))
  /-- RESTRICT_FRAME (rule R468): A RESTRICT frame from the standby makes the active raise the same restriction. -/
  | restrictFrame (stop : Bool) (robot : Option (Fin 256)) (cause : Fin 32)
  /-- INPUT_FRAME (rule R462): An INPUT frame carries entries of an epoch's input stream to the peer. -/
  | inputFrame (entries : List InputEntry)
  /-- FETCH (rule R463): A FETCH asks the active for a ZYP frame by reference, and it answers with FILL. -/
  | fetch (r : ZypRef)
  /-- FILL (rule R463): A FILL supplies the full ZYP frame to the standby. -/
  | fill (r : ZypRef) (frame : List Byte)
  /-- PREPARE (rule R465): A PREPARE gives the standby the active's digest and COMP_TIMEs; the standby answers with ACK. -/
  | prepare (p : PrepMsg)
  /-- ACK (rule R466): An ACK with MATCH lets the active commit and send; MISMATCH starts the mismatch response. -/
  | ack (a : AckMsg) (latencyUs : Word)
  /-- ACK_LATE (rule R474): No ACK by Mirror; the epoch is abandoned as an overrun, and a second makes the active send DEMOTE. -/
  | ackLate
  /-- COMMIT (rule R466): A COMMIT frame makes the standby commit the epoch and start its copies. -/
  | commit (epoch : Word)
  /-- ABANDON (rule R465): An ABANDON frame makes the peer abandon the epoch. -/
  | abandon (epoch : Word) (reason : Fin 3)
  /-- BEACON_COPY (rule R467): A BEACON_COPY lets the standby send its copy of the beacon. -/
  | beaconCopy (seq epoch : Word) (body : List Byte)
  /-- DEMOTE (rule R474): A DEMOTE makes the standby leave TWIN_STANDBY for REJOIN. -/
  | demote
  /-- TIME_REQ (rule R476): Every 10 ms the standby sends TIME_REQ and the active answers with TIME_RSP. -/
  | timeReq (t1 : YTime)
  /-- TIME_RSP (rule R476): A TIME_RSP gives the standby the four times from which the TWIN offset is computed. -/
  | timeRsp (t1 t2 t3 t4 : YTime)
  /-- REJOIN_START (rule R477): In WAIT, the link is UP and CLAIM_IN asserted, and SNAP_REQ is sent. -/
  | rejoinStart
  /-- SNAP_REQ (rule R478): A SNAP_REQ makes the active fix a snapshot point, journal later epochs and stream its state. -/
  | snapReq
  /-- SNAP_DATA (rule R478): A SNAP_DATA carries snapshot lines to the rejoining unit. -/
  | snapData (part : SnapPart)
  /-- SNAP_END (rule R477): An intact SNAP_END moves the rejoining unit to REPLAY. -/
  | snapEnd (sections : Word) (intact : Bool)
  /-- JOURNAL (rule R479): A JOURNAL frame carries a journaled epoch, replayed in order by the rejoining unit. -/
  | journal (entries : List InputEntry) (ops : List (Word × RobotOp)) (loops : List LoopSpec) (committed : Bool)
  /-- JOURNAL_FULL (rule R479): The journal reaches JOURNAL_MAX epochs and the snapshot session ends. -/
  | journalFull
  /-- COMPARE (rule R477): A COMPARE result counts clean epochs, reaching READY at 20 or a new attempt on MISMATCH. -/
  | compare
  /-- READY (rule R477): A READY makes the active treat the peer as standby from the next covered epoch boundary. -/
  | ready
  /-- TWIN_COMMIT (rule R481): COMMIT of group TWIN sets twin enable, link timeout, journal size and asymmetry. -/
  | twinCommit
  /-- REJOIN_RETRY (rule R481): REJOIN_RETRY in FJR_CTRL starts a new snapshot from WAIT after a mismatch or from FAILED. -/
  | rejoinRetry
  /-- IDENTITY_READ (rule R492): Opcode 0x01 IDENTITY_READ returns the identity public key and the challenge. -/
  | identityRead (c : Cmd)
  /-- LIFECYCLE (rule R497): Opcode 0x02 LIFECYCLE zeroises keys, blows a fuse, installs carried keys and restarts. -/
  | lifecycle (c : Cmd) (data : List Byte) (ends : Bool)
  /-- KEY_IMPORT (rule R490): Opcode 0x03 KEY_IMPORT opens an envelope and replaces the federation root and site keys. -/
  | keyImport (c : Cmd) (data : List Byte)
  /-- PUBLIC_SET (rule R492): Opcode 0x04 PUBLIC_SET replaces the owner or image public key. -/
  | publicSet (c : Cmd) (data : List Byte)
  /-- KEY_REVOKE (rule R489): Opcode 0x05 KEY_REVOKE advances a slot's GEN and invalidates every slot chained through it. -/
  | keyRevoke (c : Cmd)
  /-- BEACON_REKEY (rule R495): Opcode 0x06 BEACON_REKEY derives the next beacon key and schedules its activation. -/
  | beaconRekey (c : Cmd)
  /-- BEACON_KEY_ACTIVATE (rule R495): At the activation second, slot 10 moves to slot 5 and the Trapdoor takes the new key. -/
  | beaconKeyActivate
  /-- VAULT_OPERATION (rule R488): A firmware or key-port crypto request is served in arrival order, with LIMITED and validity checks. -/
  | vaultOperation (slot : Fin 64) (kind : Fin 7) (firmware : Bool)
  /-- BLOB_LOAD (rule R487): A wrapped blob is checked and its key placed in a working slot. -/
  | blobLoad (slot : Fin 64) (blob : List Byte)
  /-- BLOB_WRAP (rule R486): A working slot's key is wrapped into a blob. -/
  | blobWrap (slot : Fin 64) (label : Word)
  /-- KEY_DERIVE (rule R482): A key is derived with HKDF-SHA-384 into a slot. -/
  | keyDerive (src dst : Fin 64) (kind : Fin 7) (salt info : List Byte) (bound : Bool) (uses : Option Word)
  /-- PERSIST_RECORD_WRITE (rule R494): A persistent record update overwrites the earlier copy with the next COUNTER. -/
  | persistRecordWrite (good : Bool)
  /-- ENTROPY_HEALTH_FAIL (rule R502): A continuous or pairwise test fails; the Vault answers SELFTEST and holds no key. -/
  | entropyHealthFail
  /-- UPDATE_HEADER (rule R507): An image header is checked and opens, resumes or refuses an update session. -/
  | updateHeader (src : UpdFrom) (data : List Byte) (rsv : Bool)
  /-- UPDATE_CHUNK (rule R512): A chunk packet is checked and, when absent, programmed to its NOR offset. -/
  | updateChunk (src : UpdFrom) (session index : Word) (data : List Byte) (rsv : Bool)
  /-- CHUNK_PROGRAMMED (rule R513): A chunk is programmed and read back and becomes present-unverified, then is verified. -/
  | chunkProgrammed (ok : Bool)
  /-- FED_CONNECT (rule R510): A federation TCP connection is accepted, or closed when it would be the fifth. -/
  | fedConnect (lanB : Bool)
  /-- FED_CONN_IDLE (rule R510): A federation connection idle for 60 s is closed. -/
  | fedConnIdle (lanB : Bool)
  /-- SESSION_IDLE (rule R509): No chunk is accepted for SESSION_IDLE hours and the session becomes idle. -/
  | sessionIdle
  /-- SCHEDULE (rule R514): Opcode 0x03 SCHEDULE sets the activation second of a READY image. -/
  | schedule (c : Cmd)
  /-- ACTIVATION_TEST (rule R515): From the activation second, each whole second tests the activation conditions and enters UPDATE when they hold. -/
  | activationTest
  /-- ACTIVATION_DEFER_EXPIRE (rule R515): DEFER_MAX passes without the conditions holding; LOFT returns to READY. -/
  | activationDeferExpire
  /-- ACTIVATION_COMMIT (rule R516): After 1 s in UPDATE the boot record is written as TRIAL, the Tally flushes and the device restarts. -/
  | activationCommit (duration : BitVec 16)
  /-- SETTINGS_MIGRATE (rule R521): A trial image migrates CUR_AREA into the other settings area during BOOT. -/
  | settingsMigrate (ok : Bool)
  /-- TRIAL_CONFIRM (rule R518): A trial image meets every confirmation condition and becomes STORE. -/
  | trialConfirm
  /-- TRIAL_TIMEOUT (rule R519): A trial not confirmed within TRIAL_TIME falls back to STORE. -/
  | trialTimeout
  /-- LOCK (rule R523): LOCK in UPD_CTRL sets LOCK in the boot record. -/
  | lock (alone : Bool)
  /-- UNLOCK (rule R523): UNLOCK in UPD_CTRL clears LOCK. -/
  | unlock (alone : Bool)
  /-- CANCEL (rule R514): CANCEL in UPD_CTRL returns a SCHEDULED LOFT to READY or abandons UPDATE before 1 s. -/
  | cancel (alone : Bool)
  /-- HOST_OK (rule R518): HOST_OK in UPD_CTRL gives confirmation consent to a trial. -/
  | hostOk (alone : Bool)
  /-- UPDATE_CLEAR (rule R523): CLEAR in UPD_CTRL clears the barred version and empties a FAILED or RECEIVING LOFT. -/
  | updateClear (alone : Bool)
  /-- UPD_COMMIT (rule R523): COMMIT of group UPD sets deferral, battery, trial, idle and federation settings. -/
  | updCommit
  /-- HIST_ADD (rule R528): A HIST_ADD record adds COUNT to a histogram bin. -/
  | histAdd (r : TallyRec)
  /-- EXTREME (rule R526): An EXTREME record offers a value to an extreme register. -/
  | extreme (r : TallyRec)
  /-- SATURATED (rule R528): A SATURATED record writes a SATURATED mark for a stopped counter. -/
  | saturated (r : TallyRec)
  /-- MARK (rule R532): A MARK record writes a mark of its kind to the mark log. -/
  | mark (r : TallyRec)
  /-- TALLY_DORMER_RECORD (rule R528): A Dormer record from chute 46 is counted in histogram 252 and MARKs are filed as extremes. -/
  | tallyDormerRecord (e : DormerRec)
  /-- PERIODIC_FLUSH (rule R533): Every FLUSH_PERIOD minutes a PERIODIC flush starts. -/
  | periodicFlush
  /-- FLUSH (rule R541): Tally opcode 0x03 FLUSH, or FLUSH in TLY_CTRL, starts a HOST flush. -/
  | flush (c : Option Cmd)
  /-- RETEST (rule R539): RETEST in TLY_CTRL flushes despite DEGRADED and clears it on success. -/
  | retest
  /-- FLUSH_START (rule R534): A flush freezes the live image and writes a copy to the bank without the latest intact flush. -/
  | flushStart
  /-- FLUSH_COMMIT_POINT (rule R534): The flush header with CHECK is written and FLUSH_SEQ advances. -/
  | flushCommitPoint
  /-- FLUSH_COMPLETE (rule R534): The header is read back, the flush completes and the shadow is applied, or a memory failure is recorded. -/
  | flushComplete (fail : Option Word) (duration : BitVec 16)
  /-- TALLY_LAST_WORD (rule R537): At the power-down cut-off the Tally stops taking events and writes POWER_LOST to the last-word area. -/
  | tallyLastWord
  /-- TALLY_RESTORE (rule R538): By 50 ms after reset release, the live image is restored from the latest intact bank and marks are written. -/
  | tallyRestore (ecc : Option (Bool × Word))
  /-- TALLY_LIVE_ECC (rule R540): An uncorrectable error in a live-image word clears or restores its section. -/
  | tallyLiveEcc (part : TallyPart)
  /-- SNAPSHOT (rule R541): Tally opcode 0x01 SNAPSHOT returns the tagged tally image. -/
  | snapshot (c : Cmd)
  /-- TALLY_CLEAR (rule R542): Tally opcode 0x02 CLEAR zeroes the signed sections, writes a CLEAR mark and starts a flush. -/
  | tallyClear (c : Cmd) (data : List Byte)
  /-- DEF_COMMIT (rule R544): COMMIT of group DEF sets histogram and extreme definitions and the flush period. -/
  | defCommit
  /-- GLOBAL_COMMIT (rule R553): COMMIT of group GLOBAL sets the epoch length, federation ID and block event ring. -/
  | globalCommit
  /-- IDENT (rule R555): Opcode 0x01 IDENT completes DONE with GLB_ID in RESULT. -/
  | ident (c : Cmd)
  /-- MEM_UNCORRECTABLE (rule R547): An uncorrectable LPDDR4X read is counted, its address recorded and an event and chute record sent. -/
  | memUncorrectable (addr : BitVec 34)
  /-- THERM_WARN_CLEAR (rule R54): The hottest sensor falls 5 °C below WARN_LEVEL and the warning condition ends, so a later rise sets THERM_WARN again. -/
  | thermWarnClear (tj : BitVec 16)
  /-- CLAIM_IN_ASSERT (rule R456): FJR_CLAIM_IN becomes asserted, which during FLEET_START arbitration makes seat B drop its claim at once with CONFLICT and otherwise marks the peer as being in a fleet mode. -/
  | claimInAssert
  /-- LIVE_IN_ASSERT (rule R452): FJR_LIVE_IN becomes asserted again when the peer starts its LIVE square wave, ending the lost state and, in PANTRY, making seat B keep SRP_TXEN low again. -/
  | liveInAssert
  /-- CONTINUITY_RESTORED (rule R452): An interlock IN line again reads inside the continuity window, so continuity is intact and takeover condition 3 of rule R470 can hold again. -/
  | continuityRestored (claim : Bool)
  /-- TWIN_CLOCK_INPUT (rule R476): Once per yard-time second in TWIN_STANDBY or REJOIN, the median TWIN offset of that second feeds clock loop 1. -/
  | twinClockInput
  /-- LAN_LINK_UP (rule R68): A LAN port's link comes up after the 200 ms step, and the port is then admitted with its frame credits. -/
  | lanLinkUp (lanB : Bool)
  deriving DecidableEq, Repr

end Sys2Proof
end

