-- ==== Sys2Proof/Config.lean ====
section
/-! DEFINITION. What an implementation fixes and the spec leaves open: free values (constants without a body, so that
nothing can be proved of a value) and the cryptographic functions, which the spec names by standard and the model leaves
uninterpreted. Each takes byte lists or plain data. -/

namespace Sys2Proof.Config

/-- A value the spec leaves open: `kind` says which, `n` is the counter of values drawn (log entry 4). -/
opaque freeValue (kind : Nat) (n : Nat) : Nat

/-- HMAC-SHA-384 of a message under a key: the number that its 48 bytes spell, the first byte lowest. -/
opaque hmac384 (key : Nat) (msg : List Nat) : BitVec 384

/-- SHA-384 of a message: the number that its 48 bytes spell, the first byte lowest. -/
opaque sha384 (msg : List Nat) : BitVec 384

/-- The AES-256-GCM tag of additional data and a ciphertext under a key and an IV: the number that its 16 bytes spell, the first byte
lowest. -/
opaque gcmMac (key : Nat) (iv aad cipher : List Nat) : BitVec 128

/-- Byte i of the key stream of AES-256-GCM under a key and an IV. -/
opaque gcmStream (key : Nat) (iv : List Nat) (i : Nat) : Byte

/-- The ECDH P-384 shared secret of a private key and a public key (rule R490). -/
opaque ecdh (key : Nat) (pub : List Nat) : Nat

/-- Byte i of the P-384 public key of a private key, X then Y (rule R492). -/
opaque publicKey (key : Nat) (i : Nat) : Byte

/-- Whether 96 bytes are a point on P-384 (rule R492). -/
opaque onCurve (pub : List Nat) : Bool

/-- The Caersyn service key, whose SHA-384 hash is in fuses (rule R496). -/
opaque serviceKey : Nat

/-- Whether an ECDSA P-384 signature of a message verifies under a public key. -/
opaque ecdsaVerify (key : Nat) (msg sig : List Nat) : Bool

/-- HKDF-SHA-384 with a 32-byte output: the key derived from a key under a salt and an info string (rule R482). -/
opaque hkdf (key : Nat) (salt info : List Nat) : Nat

/-- The 48-byte output of HKDF-SHA-384 under the same inputs, from which the identity scalar is formed (rule R482). -/
opaque hkdf48 (key : Nat) (salt info : List Nat) : BitVec 384

/-- The device root and the test root, from fuses (rules R482, R500). -/
opaque deviceRoot : Nat

/-- The test root, from fuses (rule R500). -/
opaque testRoot : Nat

/-- The n-th output of the Vault's random generator. -/
opaque random (n : Nat) : Nat

/-- The device serial, from fuses (GLB_SERIAL). -/
opaque serialNo : DWord

/-- The device serial as a number. -/
def serial : Nat := serialNo.toNat

/-- Length of the line (dx, dy) mm in units of 2⁻¹⁶ mm, where it is not axis-parallel (rule R270). -/
opaque lineLen (dx dy : Int) : Nat

/-- Direction of the line (dx, dy), as a vector of length 2³⁰, where it is not axis-parallel (rule R270). -/
opaque lineDir (dx dy : Int) : Int × Int

/-- Direction of a heading in 0.001°, as a vector of length 2³⁰, where it is not axis-parallel (rule R299). -/
opaque headingDir (h : Nat) : Int × Int

/-- Pose num / den mm along an arc that starts at the origin with a heading and a curvature in 10⁻⁹ mm⁻¹ (rule R301):
the offset scaled by den × 2³⁰ and the direction as a vector of length 2³⁰. -/
opaque arcPose (heading : Nat) (curv : Int) (num den : Nat) : (Int × Int) × (Int × Int)

/-- The point `d` along the local vertical from an ECEF point, d not 0; one unit of length throughout (rules R205, R207, R224). -/
opaque alongUp (x y z d : Int) : Int × Int × Int

/-- The whole number that stands for num / den where the spec states no rounding. -/
opaque quotient (num den : Int) : Int

/-- Byte i of an RTCM 3 message, transport frame and all, whose content is given (rule R211). -/
opaque rtcmByte (content : List Nat) (i : Nat) : Byte

/-- The running image's VERSION and the device serial as text (rule R218). -/
opaque versionText (version : Nat) : List Byte

/-- The device serial as text (rule R218). -/
opaque serialText : List Byte

/-- Latitude and longitude of an ECEF point in 0.1 mm, as the sourcetable gives them (rule R217). -/
opaque latLon (x y z : Int) : Int × Int

/-- The local east, north and up axes of the WGS 84 ellipsoid at an ECEF point, each of length 2³⁰ (rule R248). -/
opaque localAxes (x y z : Int) : (Int × Int × Int) × (Int × Int × Int) × (Int × Int × Int)

/-- A quantity that the matrix engine and the search accelerator compute (rules R241, R244): `q` says which, the list what they work on. -/
opaque filter (q : Nat) (input : List Nat) : Int

end Sys2Proof.Config
end

