-- ==== Sys2Proof/Machine/AMap.lean ====
section
/-! DEFINITION. Sparse maps: a list of (key, value) pairs with strictly rising keys. -/

namespace Sys2Proof.Machine

/-- A sparse map from numbers to `α`. -/
abbrev AMap (α : Type) := List (Nat × α)

/-- The entry of `k`, if one is listed. -/
def AMap.find {α : Type} (k : Nat) : AMap α → Option α
  | [] => none
  | (j, v) :: t => if j = k then some v else AMap.find k t

/-- The value of `k`, or `d` where none is listed. -/
def AMap.get {α : Type} (m : AMap α) (k : Nat) (d : α) : α := (AMap.find k m).getD d

/-- The map with `v` at `k`. -/
def AMap.set {α : Type} (k : Nat) (v : α) : AMap α → AMap α
  | [] => [(k, v)]
  | (j, w) :: t =>
    if j = k then (k, v) :: t else if k < j then (k, v) :: (j, w) :: t else (j, w) :: AMap.set k v t

/-- The map without `k`. -/
def AMap.del {α : Type} (k : Nat) : AMap α → AMap α
  | [] => []
  | (j, w) :: t => if j = k then AMap.del k t else (j, w) :: AMap.del k t

/-- The map with `v` at `k`, where an unlisted key reads `d`. -/
def AMap.put {α : Type} [DecidableEq α] (k : Nat) (v d : α) (m : AMap α) : AMap α :=
  if v = d then AMap.del k m else AMap.set k v m

/-- Keys strictly rise from `lo` on. -/
def AMap.risingFrom {α : Type} (lo : Nat) : AMap α → Bool
  | [] => true
  | (j, _) :: t => decide (lo ≤ j) && AMap.risingFrom (j + 1) t

/-- Inserts a number into a rising list without repeats. -/
def insertNat (n : Nat) : List Nat → List Nat
  | [] => [n]
  | a :: t => if n < a then n :: a :: t else if n = a then a :: t else a :: insertNat n t

end Sys2Proof.Machine
end

