-- ==== Sys2Proof/Machine/Registers.lean ====
section
/-! DEFINITION. The register fields of the spec's register maps and bit tables: offset, lowest bit, width and reset value
of each, named REGISTER_FIELD as the spec names them. A register that a select register selects has one field per object
(the last component). Written from the register tables of spec/, chapter by chapter. -/

namespace Sys2Proof.Machine

/-- A register field: BAR0 offset, lowest bit, width, reset value, and the selected object it belongs to (0 where the
register is not per object). BAR2 (attention page) offsets carry 0x1000_0000. -/
structure Fld where
  off : Nat
  lo  : Nat
  w   : Nat
  rst : Nat
  idx : Nat
  deriving DecidableEq, Repr

/-- The key of a field in a register file. -/
def Fld.key (f : Fld) : Nat := (f.idx * 4294967296 + f.off) * 64 + f.lo

/-- A register file: the fields whose value differs from the field's reset value (canonical form). -/
abbrev Regs := AMap Nat

/-- The value of a field. -/
def Regs.read (m : Regs) (f : Fld) : Nat := AMap.get m f.key f.rst

/-- The file with a field set; the value is cut to the field's width. -/
def Regs.write (m : Regs) (f : Fld) (v : Nat) : Regs :=
  if v % 2 ^ f.w = f.rst then AMap.del f.key m else AMap.set f.key (v % 2 ^ f.w) m

/-- Capacity in words of each chute (chute assignment table, rule R139). -/
def chuteCapacity (c : Nat) : Nat :=
  if c = 0 ∨ c = 4 then 16384 else if c ≤ 7 then 4096 else if c ≤ 15 then 8192 else if c = 16 then 1024
  else if c = 17 then 2048 else if c ≤ 19 then 8192 else if c ≤ 21 then 32768 else if c ≤ 23 then 16384
  else if c = 24 then 4096 else if c = 25 then 1024 else if c = 26 then 8192 else if c = 27 then 2048
  else if c ≤ 33 then 8192 else if c = 34 then 8192 else if c = 35 then 4096 else if c = 36 then 8192
  else if c = 37 then 1024 else if c ≤ 41 then 4096 else if c ≤ 43 then 256 else if c = 44 then 4096
  else if c ≤ 47 then 1024 else if c ≤ 49 then 8192 else if c ≤ 51 then 2048 else if c = 52 then 4096
  else if c = 53 then 256 else if c ≤ 58 then 8192 else if c = 59 then 16384 else if c ≤ 63 then 256 else 2048

/-- Largest packet in words of each chute (chute assignment table, rule R139). -/
def chuteLargest (c : Nat) : Nat :=
  if c ≤ 15 then 192 else if c ≤ 17 then 96 else if c ≤ 21 then 1024 else if c ≤ 23 then 256 else if c ≤ 25 then 64
  else if c ≤ 27 then 256 else if c ≤ 31 then 192 else if c ≤ 33 then 32 else if c ≤ 37 then 256
  else if c ≤ 43 then 32 else if c ≤ 48 then 16 else if c = 49 then 1024 else if c ≤ 51 then 128 else if c = 52 then 520
  else if c = 53 then 16 else if c ≤ 59 then 1024 else if c ≤ 63 then 16 else 256

/-- Default cross-check limits (default cross-check limits table, chapter 11), in mm. -/
def xchkDefault (i : Nat) : Nat := match i with
  | 0 => 5000 | 1 => 2000 | 2 => 1000 | 3 => 500 | 4 => 5000 | 5 => 1500 | 6 => 500 | 7 => 100
  | 8 => 5000 | 9 => 1500 | 10 => 500 | 11 => 100 | _ => 0

namespace Reg

/-- CLK_SRC_STATUS [0:0], RO, rule R56. -/
def CLK_SRC_STATUS_REFCLK_PRESENT : Fld := ⟨0x10000, 0, 1, 0, 0⟩

/-- CLK_SRC_STATUS [2:1], RO, rule R56. -/
def CLK_SRC_STATUS_REFCLK_FREQ : Fld := ⟨0x10000, 1, 2, 0, 0⟩

/-- CLK_SRC_STATUS [3:3], RO, rule R56. -/
def CLK_SRC_STATUS_XTAL32_OK : Fld := ⟨0x10000, 3, 1, 0, 0⟩

/-- CLK_SRC_STATUS [4:4], RO, rule R56. -/
def CLK_SRC_STATUS_XTAL32_FALLBACK : Fld := ⟨0x10000, 4, 1, 0, 0⟩

/-- CLK_SRC_STATUS [5:5], RO, rule R56. -/
def CLK_SRC_STATUS_PLL_CORE_LOCK : Fld := ⟨0x10000, 5, 1, 0, 0⟩

/-- CLK_SRC_STATUS [6:6], RO, rule R56. -/
def CLK_SRC_STATUS_PLL_ADC_LOCK : Fld := ⟨0x10000, 6, 1, 0, 0⟩

/-- CLK_SRC_STATUS [7:7], RO, rule R56. -/
def CLK_SRC_STATUS_PLL_SERDES_LOCK : Fld := ⟨0x10000, 7, 1, 0, 0⟩

/-- CLK_SRC_STATUS [8:8], RO, rule R56. -/
def CLK_SRC_STATUS_CORE_ON_RC4M : Fld := ⟨0x10000, 8, 1, 0, 0⟩

/-- CLK_FAULT [0:0], W1C, rule R56. -/
def CLK_FAULT_REFCLK_LOST : Fld := ⟨0x10004, 0, 1, 0, 0⟩

/-- CLK_FAULT [1:1], W1C, rule R56. -/
def CLK_FAULT_XTAL32_LOST : Fld := ⟨0x10004, 1, 1, 0, 0⟩

/-- CLK_FAULT [2:2], W1C, rule R56. -/
def CLK_FAULT_PLL_CORE_UNLOCK : Fld := ⟨0x10004, 2, 1, 0, 0⟩

/-- CLK_FAULT [3:3], W1C, rule R56. -/
def CLK_FAULT_PLL_ADC_UNLOCK : Fld := ⟨0x10004, 3, 1, 0, 0⟩

/-- CLK_FAULT [4:4], W1C, rule R56. -/
def CLK_FAULT_PLL_SERDES_UNLOCK : Fld := ⟨0x10004, 4, 1, 0, 0⟩

/-- CLK_FAULT [5:5], W1C, rule R56. -/
def CLK_FAULT_PFAIL_SEEN : Fld := ⟨0x10004, 5, 1, 0, 0⟩

/-- CLK_FAULT [6:6], W1C, rule R56. -/
def CLK_FAULT_BOD_RESET : Fld := ⟨0x10004, 6, 1, 0, 0⟩

/-- CLK_FAULT [7:7], W1C, rule R56. -/
def CLK_FAULT_RAIL_TIMEOUT : Fld := ⟨0x10004, 7, 1, 0, 0⟩

/-- CLK_FAULT [8:8], W1C, rule R56. -/
def CLK_FAULT_THERM_WARN : Fld := ⟨0x10004, 8, 1, 0, 0⟩

/-- CLK_FAULT [9:9], W1C, rule R56. -/
def CLK_FAULT_THERM_CRIT : Fld := ⟨0x10004, 9, 1, 0, 0⟩

/-- CLK_FAULT [10:10], W1C, rule R56. -/
def CLK_FAULT_THERM_CUT : Fld := ⟨0x10004, 10, 1, 0, 0⟩

/-- CLK_FAULT [11:11], W1C, rule R56. -/
def CLK_FAULT_REFCLK_BAD_FREQ : Fld := ⟨0x10004, 11, 1, 0, 0⟩

/-- CLK_XTAL32_CFG [3:0], RW, rule R56. -/
def CLK_XTAL32_CFG_LOAD_CAP : Fld := ⟨0x10008, 0, 4, 8, 0⟩

/-- CLK_XTAL32_CFG [5:4], RW, rule R56. -/
def CLK_XTAL32_CFG_DRIVE : Fld := ⟨0x10008, 4, 2, 1, 0⟩

/-- CLK_XTAL32_CFG [6:6], RW, rule R56. -/
def CLK_XTAL32_CFG_BYPASS : Fld := ⟨0x10008, 6, 1, 0, 0⟩

/-- CLK_XTAL32_CFG [7:7], RO, rule R56. -/
def CLK_XTAL32_CFG_BYPASS_ACTIVE : Fld := ⟨0x10008, 7, 1, 0, 0⟩

/-- CLK_RAIL_STATUS [10:0], RO, rule R56. -/
def CLK_RAIL_STATUS_RAIL_OK : Fld := ⟨0x1000c, 0, 11, 0, 0⟩

/-- CLK_RAIL_STATUS [11:11], RO, rule R56. -/
def CLK_RAIL_STATUS_VBAT_OK : Fld := ⟨0x1000c, 11, 1, 0, 0⟩

/-- CLK_TEMP [15:0], RO, rule R56. -/
def CLK_TEMP_TJ_NOW : Fld := ⟨0x10010, 0, 16, 0, 0⟩

/-- CLK_TEMP [31:16], RO, rule R56. -/
def CLK_TEMP_TJ_MAX : Fld := ⟨0x10010, 16, 16, 0, 0⟩

/-- CLK_THERM_CFG [15:0], RW, rule R56. -/
def CLK_THERM_CFG_WARN_LEVEL : Fld := ⟨0x10014, 0, 16, 800, 0⟩

/-- CLK_PFAIL_COUNT [31:0], RO, rule R56. -/
def CLK_PFAIL_COUNT : Fld := ⟨0x10018, 0, 32, 0, 0⟩

/-- CLK_MODE_STATUS [8:8], RO, rule R77. -/
def CLK_MODE_STATUS_IN_TRANSIT : Fld := ⟨0x10100, 8, 1, 0, 0⟩

/-- CLK_MODE_STATUS [10:10], RO, rule R77. -/
def CLK_MODE_STATUS_TWIN_CONFIGURED : Fld := ⟨0x10100, 10, 1, 0, 0⟩

/-- CLK_MODE_REQ [3:0], RW, rule R77. -/
def CLK_MODE_REQ_TARGET : Fld := ⟨0x10104, 0, 4, 0, 0⟩

/-- CLK_MODE_RESULT [7:0], RO, rule R77. -/
def CLK_MODE_RESULT_STATUS : Fld := ⟨0x10108, 0, 8, 0, 0⟩

/-- CLK_MODE_RESULT [11:8], RO, rule R77. -/
def CLK_MODE_RESULT_TARGET : Fld := ⟨0x10108, 8, 4, 0, 0⟩

/-- CLK_RESET_CAUSE [0:0], W1C, rule R77. -/
def CLK_RESET_CAUSE_POWER_ON : Fld := ⟨0x1010c, 0, 1, 1, 0⟩

/-- CLK_RESET_CAUSE [1:1], W1C, rule R77. -/
def CLK_RESET_CAUSE_SYS_RST : Fld := ⟨0x1010c, 1, 1, 0, 0⟩

/-- CLK_RESET_CAUSE [2:2], W1C, rule R77. -/
def CLK_RESET_CAUSE_BOD : Fld := ⟨0x1010c, 2, 1, 0, 0⟩

/-- CLK_RESET_CAUSE [3:3], W1C, rule R77. -/
def CLK_RESET_CAUSE_PFAIL_RESTART : Fld := ⟨0x1010c, 3, 1, 0, 0⟩

/-- CLK_RESET_CAUSE [4:4], W1C, rule R77. -/
def CLK_RESET_CAUSE_HOST_RESTART : Fld := ⟨0x1010c, 4, 1, 0, 0⟩

/-- CLK_RESET_CAUSE [5:5], W1C, rule R77. -/
def CLK_RESET_CAUSE_UPDATE_RESTART : Fld := ⟨0x1010c, 5, 1, 0, 0⟩

/-- CLK_RESET_CAUSE [6:6], W1C, rule R77. -/
def CLK_RESET_CAUSE_WAKE : Fld := ⟨0x1010c, 6, 1, 0, 0⟩

/-- CLK_RESET_CAUSE [7:7], W1C, rule R77. -/
def CLK_RESET_CAUSE_THERM_CUT : Fld := ⟨0x1010c, 7, 1, 0, 0⟩

/-- CLK_LAST_MODE [3:0], RO, rule R77. -/
def CLK_LAST_MODE_LAST_MODE : Fld := ⟨0x10110, 0, 4, 0, 0⟩

/-- CLK_LAST_MODE [7:4], RO, rule R77. -/
def CLK_LAST_MODE_PFAIL_STAGE : Fld := ⟨0x10110, 4, 4, 0, 0⟩

/-- CLK_LAST_MODE [8:8], RO, rule R77. -/
def CLK_LAST_MODE_FLUSH_INCOMPLETE : Fld := ⟨0x10110, 8, 1, 0, 0⟩

/-- CLK_WAKE_CFG [0:0], RW, rule R77. -/
def CLK_WAKE_CFG_WAKE_IN0_EN : Fld := ⟨0x10114, 0, 1, 0, 0⟩

/-- CLK_WAKE_CFG [1:1], RW, rule R77. -/
def CLK_WAKE_CFG_WAKE_IN0_POL : Fld := ⟨0x10114, 1, 1, 0, 0⟩

/-- CLK_WAKE_CFG [2:2], RW, rule R77. -/
def CLK_WAKE_CFG_WAKE_IN1_EN : Fld := ⟨0x10114, 2, 1, 0, 0⟩

/-- CLK_WAKE_CFG [3:3], RW, rule R77. -/
def CLK_WAKE_CFG_WAKE_IN1_POL : Fld := ⟨0x10114, 3, 1, 0, 0⟩

/-- CLK_WAKE_CFG [4:4], RW, rule R77. -/
def CLK_WAKE_CFG_THERM_AUTO : Fld := ⟨0x10114, 4, 1, 1, 0⟩

/-- CLK_WAKE_CFG [5:5], RW, rule R77. -/
def CLK_WAKE_CFG_DORMER_EN : Fld := ⟨0x10114, 5, 1, 1, 0⟩

/-- CLK_WAKE_CFG [6:6], RW, rule R77. -/
def CLK_WAKE_CFG_PFAIL_AUTO : Fld := ⟨0x10114, 6, 1, 1, 0⟩

/-- CLK_WAKE_TIMER [31:0], RW, rule R77. -/
def CLK_WAKE_TIMER_SECONDS : Fld := ⟨0x10118, 0, 32, 0, 0⟩

/-- CLK_WAKE_COMMIT [15:8], RO, rule R77. -/
def CLK_WAKE_COMMIT_RESULT : Fld := ⟨0x1011c, 8, 8, 0, 0⟩

/-- CLK_WAKE_CAUSE [0:0], W1C, rule R77. -/
def CLK_WAKE_CAUSE_WAKE_IN0 : Fld := ⟨0x10120, 0, 1, 0, 0⟩

/-- CLK_WAKE_CAUSE [1:1], W1C, rule R77. -/
def CLK_WAKE_CAUSE_WAKE_IN1 : Fld := ⟨0x10120, 1, 1, 0, 0⟩

/-- CLK_WAKE_CAUSE [2:2], W1C, rule R77. -/
def CLK_WAKE_CAUSE_TIMER : Fld := ⟨0x10120, 2, 1, 0, 0⟩

/-- CLK_WAKE_CAUSE [3:3], W1C, rule R77. -/
def CLK_WAKE_CAUSE_DORMER_RULE : Fld := ⟨0x10120, 3, 1, 0, 0⟩

/-- CLK_WAKE_CAUSE [4:4], W1C, rule R77. -/
def CLK_WAKE_CAUSE_PFAIL_CLEAR : Fld := ⟨0x10120, 4, 1, 0, 0⟩

/-- CLK_WAKE_CAUSE [5:5], W1C, rule R77. -/
def CLK_WAKE_CAUSE_THERM_CLEAR : Fld := ⟨0x10120, 5, 1, 0, 0⟩

/-- CLK_WAKE_CAUSE [13:8], RO, rule R77. -/
def CLK_WAKE_CAUSE_RULE_ID : Fld := ⟨0x10120, 8, 6, 0, 0⟩

/-- CLK_PDOWN_CFG [15:0], RW, rule R77. -/
def CLK_PDOWN_CFG_DRAIN_TIMEOUT : Fld := ⟨0x10124, 0, 16, 200, 0⟩

/-- CLK_ADMIT_STATUS [0:0], RO, rule R77. -/
def CLK_ADMIT_STATUS_LAN_ADMITTED : Fld := ⟨0x10128, 0, 1, 0, 0⟩

/-- CLK_ADMIT_STATUS [1:1], RO, rule R77. -/
def CLK_ADMIT_STATUS_BEACON_ON : Fld := ⟨0x10128, 1, 1, 0, 0⟩

/-- CLK_ADMIT_STATUS [2:2], RO, rule R77. -/
def CLK_ADMIT_STATUS_BOOT_DONE : Fld := ⟨0x10128, 2, 1, 0, 0⟩

/-- CLK_ADMIT_STATUS [3:3], RO, rule R77. -/
def CLK_ADMIT_STATUS_PTP_ACCEPT : Fld := ⟨0x10128, 3, 1, 0, 0⟩

/-- CLK_ADMIT_STATUS [4:4], RO, rule R77. -/
def CLK_ADMIT_STATUS_TABLES_COMMITTED : Fld := ⟨0x10128, 4, 1, 0, 0⟩

/-- CLK_ADMIT_DROP_A [31:0], RO, rule R77. -/
def CLK_ADMIT_DROP_A : Fld := ⟨0x1012c, 0, 32, 0, 0⟩

/-- CLK_ADMIT_DROP_B [31:0], RO, rule R77. -/
def CLK_ADMIT_DROP_B : Fld := ⟨0x10130, 0, 32, 0, 0⟩

/-- PIN_STRAP_STATUS [3:0], RO, rule R92. -/
def PIN_STRAP_STATUS_STRAP : Fld := ⟨0x170000, 0, 4, 0, 0⟩

/-- PIN_STRAP_STATUS [4:4], RO, rule R92. -/
def PIN_STRAP_STATUS_RADIO_ON : Fld := ⟨0x170000, 4, 1, 0, 0⟩

/-- PIN_STRAP_STATUS [5:5], RO, rule R92. -/
def PIN_STRAP_STATUS_PTP_8021AS : Fld := ⟨0x170000, 5, 1, 0, 0⟩

/-- PIN_PANTRY_STATUS [0:0], RO, rule R92. -/
def PIN_PANTRY_STATUS_SETTINGS_VALID : Fld := ⟨0x170004, 0, 1, 0, 0⟩

/-- PIN_PANTRY_STATUS [1:1], RO, rule R92. -/
def PIN_PANTRY_STATUS_CASTER_OPEN : Fld := ⟨0x170004, 1, 1, 0, 0⟩

/-- PIN_PANTRY_STATUS [2:2], RO, rule R92. -/
def PIN_PANTRY_STATUS_BEACON_UNAUTH : Fld := ⟨0x170004, 2, 1, 0, 0⟩

/-- PIN_PANTRY_STATUS [3:3], RO, rule R92. -/
def PIN_PANTRY_STATUS_POSITION_STORED : Fld := ⟨0x170004, 3, 1, 0, 0⟩

/-- PIN_LOCAL_RESET_COUNT [15:0], RO, rule R92. -/
def PIN_LOCAL_RESET_COUNT_ACCEPTED : Fld := ⟨0x170008, 0, 16, 0, 0⟩

/-- PIN_LOCAL_RESET_COUNT [31:16], RO, rule R92. -/
def PIN_LOCAL_RESET_COUNT_REFUSED : Fld := ⟨0x170008, 16, 16, 0, 0⟩

/-- HRE_STATUS [0:0], RO, rule R125. -/
def HRE_STATUS_LINK_UP : Fld := ⟨0x20000, 0, 1, 0, 0⟩

/-- HRE_STATUS [1:1], RO, rule R125. -/
def HRE_STATUS_HOST_PRESENT : Fld := ⟨0x20000, 1, 1, 0, 0⟩

/-- HRE_STATUS [2:2], RO, rule R125. -/
def HRE_STATUS_CLAIMED : Fld := ⟨0x20000, 2, 1, 0, 0⟩

/-- HRE_STATUS [3:3], RO, rule R125. -/
def HRE_STATUS_BOOT_CAP : Fld := ⟨0x20000, 3, 1, 1, 0⟩

/-- HRE_STATUS [6:4], RO, rule R125. -/
def HRE_STATUS_LINK_SPEED : Fld := ⟨0x20000, 4, 3, 0, 0⟩

/-- HRE_STATUS [10:7], RO, rule R125. -/
def HRE_STATUS_LINK_WIDTH : Fld := ⟨0x20000, 7, 4, 0, 0⟩

/-- HRE_FAULT [0:0], W1C, rule R125. -/
def HRE_FAULT_HOST_LOST : Fld := ⟨0x20004, 0, 1, 0, 0⟩

/-- HRE_FAULT [1:1], W1C, rule R125. -/
def HRE_FAULT_LINK_DOWN : Fld := ⟨0x20004, 1, 1, 0, 0⟩

/-- HRE_FAULT [2:2], W1C, rule R125. -/
def HRE_FAULT_RING_HALTED : Fld := ⟨0x20004, 2, 1, 0, 0⟩

/-- HRE_FAULT [3:3], W1C, rule R125. -/
def HRE_FAULT_STALE_DB : Fld := ⟨0x20004, 3, 1, 0, 0⟩

/-- HRE_FAULT [4:4], W1C, rule R125. -/
def HRE_FAULT_DB_READ_ERR : Fld := ⟨0x20004, 4, 1, 0, 0⟩

/-- HRE_FAULT [5:5], W1C, rule R125. -/
def HRE_FAULT_EVENT_LOST : Fld := ⟨0x20004, 5, 1, 0, 0⟩

/-- HRE_FAULT [6:6], W1C, rule R125. -/
def HRE_FAULT_ABANDONED : Fld := ⟨0x20004, 6, 1, 0, 0⟩

/-- HRE_FAULT [7:7], W1C, rule R125. -/
def HRE_FAULT_BAD_ACCESS : Fld := ⟨0x20004, 7, 1, 0, 0⟩

/-- HRE_DB_BASE [63:12], RW, rule R125. -/
def HRE_DB_BASE_ADDR : Fld := ⟨0x20008, 12, 52, 0, 0⟩

/-- HRE_SH_BASE [63:12], RW, rule R125. -/
def HRE_SH_BASE_ADDR : Fld := ⟨0x20010, 12, 52, 0, 0⟩

/-- HRE_HOST_CFG [15:0], RW, rule R125. -/
def HRE_HOST_CFG_SESSION : Fld := ⟨0x20018, 0, 16, 0, 0⟩

/-- HRE_HOST_CFG [16:16], RW, rule R125. -/
def HRE_HOST_CFG_HOST_LOSS_HOLD : Fld := ⟨0x20018, 16, 1, 1, 0⟩

/-- HRE_POLL_CFG [15:0], RW, rule R125. -/
def HRE_POLL_CFG_POLL_PERIOD : Fld := ⟨0x2001c, 0, 16, 10, 0⟩

/-- HRE_POLL_CFG [31:16], RW, rule R125. -/
def HRE_POLL_CFG_HOST_TIMEOUT : Fld := ⟨0x2001c, 16, 16, 1000, 0⟩

/-- HRE_HOST_COMMIT [15:8], RO, rule R125. -/
def HRE_HOST_COMMIT_RESULT : Fld := ⟨0x20020, 8, 8, 0, 0⟩

/-- HRE_RING_SEL [6:0], RW, rule R125. -/
def HRE_RING_SEL_RING : Fld := ⟨0x20024, 0, 7, 0, 0⟩

/-- HRE_RING_BASE [63:12], RW, rule R125. -/
def HRE_RING_BASE_ADDR (ring : Nat) : Fld := ⟨0x20028, 12, 52, 0, ring⟩

/-- HRE_RING_CFG [2:0], RW, rule R125. -/
def HRE_RING_CFG_TYPE (ring : Nat) : Fld := ⟨0x20030, 0, 3, 0, ring⟩

/-- HRE_RING_CFG [7:4], RW, rule R125. -/
def HRE_RING_CFG_SIZE_LOG2 (ring : Nat) : Fld := ⟨0x20030, 4, 4, 0, ring⟩

/-- HRE_RING_CFG [14:8], RW, rule R125. -/
def HRE_RING_CFG_BIND (ring : Nat) : Fld := ⟨0x20030, 8, 7, 0, ring⟩

/-- HRE_RING_CFG [19:16], RW, rule R125. -/
def HRE_RING_CFG_VECTOR (ring : Nat) : Fld := ⟨0x20030, 16, 4, 0, ring⟩

/-- HRE_RING_CFG [31:31], RW, rule R125. -/
def HRE_RING_CFG_ENABLE (ring : Nat) : Fld := ⟨0x20030, 31, 1, 0, ring⟩

/-- HRE_RING_CREDIT [12:0], RW, rule R125. -/
def HRE_RING_CREDIT_ALLOT (ring : Nat) : Fld := ⟨0x20034, 0, 13, 0, ring⟩

/-- HRE_RING_IRQ [7:0], RW, rule R125. -/
def HRE_RING_IRQ_COAL_COUNT (ring : Nat) : Fld := ⟨0x20038, 0, 8, 1, ring⟩

/-- HRE_RING_IRQ [23:8], RW, rule R125. -/
def HRE_RING_IRQ_COAL_TIME (ring : Nat) : Fld := ⟨0x20038, 8, 16, 0, ring⟩

/-- HRE_RING_COMMIT [15:8], RO, rule R125. -/
def HRE_RING_COMMIT_RESULT (ring : Nat) : Fld := ⟨0x2003c, 8, 8, 0, ring⟩

/-- HRE_RING_NOCREDIT [31:0], RO, rule R125. -/
def HRE_RING_NOCREDIT (ring : Nat) : Fld := ⟨0x20050, 0, 32, 0, ring⟩

/-- HRE_RING_UNFETCHED [31:0], RO, rule R125. -/
def HRE_RING_UNFETCHED (ring : Nat) : Fld := ⟨0x20054, 0, 32, 0, ring⟩

/-- HRE_RING_LOST [31:0], RO, rule R125. -/
def HRE_RING_LOST (ring : Nat) : Fld := ⟨0x20058, 0, 32, 0, ring⟩

/-- HRE_STALE_DB_COUNT [31:0], RO, rule R125. -/
def HRE_STALE_DB_COUNT : Fld := ⟨0x2005c, 0, 32, 0, 0⟩

/-- HRE_ABANDONED_COUNT [31:0], RO, rule R125. -/
def HRE_ABANDONED_COUNT : Fld := ⟨0x20060, 0, 32, 0, 0⟩

/-- HRE_DB_READ_ERR_COUNT [31:0], RO, rule R125. -/
def HRE_DB_READ_ERR_COUNT : Fld := ⟨0x20064, 0, 32, 0, 0⟩

/-- HRE_VEC_GAPv [15:0], RW, rule R125. -/
def HRE_VEC_GAP_MIN_GAP (v : Nat) : Fld := ⟨0x20080 + 4 * (v % 256), 0, 16, 20, 0⟩

/-- ATTN_CLAIM_STATUS [7:0], RO, rule R126. -/
def ATTN_CLAIM_STATUS_STATUS : Fld := ⟨0x10000008, 0, 8, 0, 0⟩

/-- ATTN_CLAIM_STATUS [8:8], RO, rule R126. -/
def ATTN_CLAIM_STATUS_CLAIMED : Fld := ⟨0x10000008, 8, 1, 0, 0⟩

/-- ATTN_CLAIM_STATUS [31:16], RO, rule R126. -/
def ATTN_CLAIM_STATUS_SESSION : Fld := ⟨0x10000008, 16, 16, 0, 0⟩

/-- CHU_SEL [6:0], RW, rule R140. -/
def CHU_SEL_CHUTE : Fld := ⟨0x30000, 0, 7, 0, 0⟩

/-- CHU_CFG [15:0], RW, rule R140. -/
def CHU_CFG_ALLOT (c : Nat) : Fld := ⟨0x30004, 0, 16, (chuteCapacity c), c⟩

/-- CHU_CFG [26:16], RW, rule R140. -/
def CHU_CFG_PKT_MAX (c : Nat) : Fld := ⟨0x30004, 16, 11, (chuteLargest c), c⟩

/-- CHU_CFG [31:31], RW, rule R140. -/
def CHU_CFG_ENABLE (c : Nat) : Fld := ⟨0x30004, 31, 1, 1, c⟩

/-- CHU_COMMIT [15:8], RO, rule R140. -/
def CHU_COMMIT_RESULT (c : Nat) : Fld := ⟨0x30008, 8, 8, 0, c⟩

/-- CHU_STATUS [3:3], RO, rule R140. -/
def CHU_STATUS_CNT_SAT (c : Nat) : Fld := ⟨0x3000c, 3, 1, 0, c⟩

/-- CHU_NOCREDIT [31:0], RO, rule R140. -/
def CHU_NOCREDIT (c : Nat) : Fld := ⟨0x30020, 0, 32, 0, c⟩

/-- CHU_OVERSIZE [31:0], RO, rule R140. -/
def CHU_OVERSIZE (c : Nat) : Fld := ⟨0x30024, 0, 32, 0, c⟩

/-- CHU_ABORTED [31:0], RO, rule R140. -/
def CHU_ABORTED (c : Nat) : Fld := ⟨0x30028, 0, 32, 0, c⟩

/-- CHU_BAD_LENGTH [31:0], RO, rule R140. -/
def CHU_BAD_LENGTH (c : Nat) : Fld := ⟨0x3002c, 0, 32, 0, c⟩

/-- CHU_DROP_REST [31:0], RO, rule R140. -/
def CHU_DROP_REST (c : Nat) : Fld := ⟨0x30030, 0, 32, 0, c⟩

/-- CHU_CORRECTED [31:0], RO, rule R140. -/
def CHU_CORRECTED (c : Nat) : Fld := ⟨0x30034, 0, 32, 0, c⟩

/-- CHU_UNCORRECTED [31:0], RO, rule R140. -/
def CHU_UNCORRECTED (c : Nat) : Fld := ⟨0x30038, 0, 32, 0, c⟩

/-- CHU_DISCARDED [31:0], RO, rule R140. -/
def CHU_DISCARDED (c : Nat) : Fld := ⟨0x3003c, 0, 32, 0, c⟩

/-- CHU_FAULT [0:0], W1C, rule R140. -/
def CHU_FAULT_UNCORR : Fld := ⟨0x30040, 0, 1, 0, 0⟩

/-- CHU_FAULT [1:1], W1C, rule R140. -/
def CHU_FAULT_SAT : Fld := ⟨0x30040, 1, 1, 0, 0⟩

/-- CHU_FAULT [2:2], W1C, rule R140. -/
def CHU_FAULT_HOST_WRITE : Fld := ⟨0x30040, 2, 1, 0, 0⟩

/-- HST_FAULT [0:0], W1C, rule R163. -/
def HST_FAULT_HALT : Fld := ⟨0x40008, 0, 1, 0, 0⟩

/-- HST_FAULT [1:1], W1C, rule R163. -/
def HST_FAULT_UNCORR : Fld := ⟨0x40008, 1, 1, 0, 0⟩

/-- HST_FAULT [2:2], W1C, rule R163. -/
def HST_FAULT_HOST_WRITE : Fld := ⟨0x40008, 2, 1, 0, 0⟩

/-- HST_FAULT [3:3], W1C, rule R163. -/
def HST_FAULT_CTRL_REFUSED : Fld := ⟨0x40008, 3, 1, 0, 0⟩

/-- HST_FAULT [4:4], W1C, rule R163. -/
def HST_FAULT_CNT_SAT : Fld := ⟨0x40008, 4, 1, 0, 0⟩

/-- HST_SEL [4:0], RW, rule R163. -/
def HST_SEL_CHANNEL : Fld := ⟨0x4000c, 0, 5, 0, 0⟩

/-- HST_CH_CFG [8:0], RW, rule R163. -/
def HST_CH_CFG_PROG_LEN (ch : Nat) : Fld := ⟨0x40010, 0, 9, 0, ch⟩

/-- HST_CH_CFG [9:9], RW, rule R163. -/
def HST_CH_CFG_COMPL_MODE (ch : Nat) : Fld := ⟨0x40010, 9, 1, 0, ch⟩

/-- HST_CH_CFG [12:10], RW, rule R163. -/
def HST_CH_CFG_RETRY_MAX (ch : Nat) : Fld := ⟨0x40010, 10, 3, 3, ch⟩

/-- HST_CH_CFG [15:14], RW, rule R163. -/
def HST_CH_CFG_ARB_PRIO (ch : Nat) : Fld := ⟨0x40010, 14, 2, 0, ch⟩

/-- HST_CH_COMMIT [15:8], RO, rule R163. -/
def HST_CH_COMMIT_RESULT (ch : Nat) : Fld := ⟨0x40014, 8, 8, 0, ch⟩

/-- HST_CH_COMMIT [24:16], RO, rule R163. -/
def HST_CH_COMMIT_BAD_INDEX (ch : Nat) : Fld := ⟨0x40014, 16, 9, 0, ch⟩

/-- HST_TICKt [31:0], RW, rule R163. -/
def HST_TICK_PERIOD (t : Nat) : Fld := ⟨0x40040 + 4 * (t % 256), 0, 32, 0, 0⟩

/-- HST_CH_RETRYn [31:0], RO, rule R163. -/
def HST_CH_RETRY (n : Nat) : Fld := ⟨0x40108 + 16 * (n % 256), 0, 32, 0, 0⟩

/-- HST_CH_MERGEDn [31:0], RO, rule R163. -/
def HST_CH_MERGED (n : Nat) : Fld := ⟨0x4010c + 16 * (n % 256), 0, 32, 0, 0⟩

/-- DSP_FAULT [0:0], W1C, rule R176. -/
def DSP_FAULT_HOST_WRITE : Fld := ⟨0x50000, 0, 1, 0, 0⟩

/-- DSP_FAULT [1:1], W1C, rule R176. -/
def DSP_FAULT_CNT_SAT : Fld := ⟨0x50000, 1, 1, 0, 0⟩

/-- DSP_FAULT [2:2], W1C, rule R176. -/
def DSP_FAULT_STALL : Fld := ⟨0x50000, 2, 1, 0, 0⟩

/-- DSP_THR_SEL [8:0], RW, rule R176. -/
def DSP_THR_SEL : Fld := ⟨0x50004, 0, 9, 0, 0⟩

/-- DSP_THR_CFG [4:0], RW, rule R176. -/
def DSP_THR_CFG_PRIO (t : Nat) : Fld := ⟨0x50008, 0, 5, 0, t⟩

/-- DSP_THR_CFG [16:8], RW, rule R176. -/
def DSP_THR_CFG_AFFINITY (t : Nat) : Fld := ⟨0x50008, 8, 9, 0, t⟩

/-- DSP_THR_CFG [31:31], RW, rule R176. -/
def DSP_THR_CFG_ENABLE (t : Nat) : Fld := ⟨0x50008, 31, 1, 0, t⟩

/-- DSP_THR_COMMIT [15:8], RO, rule R176. -/
def DSP_THR_COMMIT_RESULT (t : Nat) : Fld := ⟨0x5000c, 8, 8, 0, t⟩

/-- DSP_FLOW_SEL [5:0], RW, rule R176. -/
def DSP_FLOW_SEL : Fld := ⟨0x50014, 0, 6, 0, 0⟩

/-- DSP_FLOW_CFG [10:0], RW, rule R176. -/
def DSP_FLOW_CFG_WIN_MAX (f : Nat) : Fld := ⟨0x50018, 0, 11, 0, f⟩

/-- DSP_FLOW_CFG [24:16], RW, rule R176. -/
def DSP_FLOW_CFG_THREAD_BASE (f : Nat) : Fld := ⟨0x50018, 16, 9, 0, f⟩

/-- DSP_FLOW_CFG [30:25], RW, rule R176. -/
def DSP_FLOW_CFG_POOL (f : Nat) : Fld := ⟨0x50018, 25, 6, 0, f⟩

/-- DSP_FLOW_CFG [31:31], RW, rule R176. -/
def DSP_FLOW_CFG_ENABLE (f : Nat) : Fld := ⟨0x50018, 31, 1, 0, f⟩

/-- DSP_FLOW_COMMIT [15:8], RO, rule R176. -/
def DSP_FLOW_COMMIT_RESULT (f : Nat) : Fld := ⟨0x5001c, 8, 8, 0, f⟩

/-- DSP_FLOW_ADMITTED [31:0], RO, rule R176. -/
def DSP_FLOW_ADMITTED (f : Nat) : Fld := ⟨0x50020, 0, 32, 0, f⟩

/-- DSP_FLOW_RELEASED [31:0], RO, rule R176. -/
def DSP_FLOW_RELEASED (f : Nat) : Fld := ⟨0x50024, 0, 32, 0, f⟩

/-- DSP_FLOW_STALL [31:0], RO, rule R176. -/
def DSP_FLOW_STALL (f : Nat) : Fld := ⟨0x5002c, 0, 32, 0, f⟩

/-- DSP_FLOW_DISCARD [31:0], RO, rule R176. -/
def DSP_FLOW_DISCARD (f : Nat) : Fld := ⟨0x50030, 0, 32, 0, f⟩

/-- DSP_WAKE_MERGED [31:0], RO, rule R176. -/
def DSP_WAKE_MERGED : Fld := ⟨0x50034, 0, 32, 0, 0⟩

/-- DSP_WAKE_UNMAPPED [31:0], RO, rule R176. -/
def DSP_WAKE_UNMAPPED : Fld := ⟨0x50038, 0, 32, 0, 0⟩

/-- DSP_OBS_CTRL [15:0], RW, rule R176. -/
def DSP_OBS_CTRL_LOAD_WINDOW : Fld := ⟨0x5003c, 0, 16, 1000, 0⟩

/-- DSP_CORE_CFGc [4:0], RW, rule R176. -/
def DSP_CORE_CFG (c : Nat) : Fld := ⟨0x50100 + 4 * (c % 256), 0, 5, 0, 0⟩

/-- DSP_WAKE_MAPk [31:0], RW, rule R176. -/
def DSP_WAKE_MAP (k : Nat) : Fld := ⟨0x50800 + 4 * (k % 256), 0, 32, 0, 0⟩

/-- RNG_STATUS [0:0], RO, rule R203. -/
def RNG_STATUS_ADC_A_OK : Fld := ⟨0x60000, 0, 1, 0, 0⟩

/-- RNG_STATUS [1:1], RO, rule R203. -/
def RNG_STATUS_ADC_B_OK : Fld := ⟨0x60000, 1, 1, 0, 0⟩

/-- RNG_STATUS [2:2], RO, rule R203. -/
def RNG_STATUS_ANT_A_FLT : Fld := ⟨0x60000, 2, 1, 0, 0⟩

/-- RNG_STATUS [3:3], RO, rule R203. -/
def RNG_STATUS_ANT_B_FLT : Fld := ⟨0x60000, 3, 1, 0, 0⟩

/-- RNG_STATUS [4:4], RO, rule R203. -/
def RNG_STATUS_MEAS_RUNNING : Fld := ⟨0x60000, 4, 1, 0, 0⟩

/-- RNG_STATUS [14:5], RO, rule R203. -/
def RNG_STATUS_CH_A : Fld := ⟨0x60000, 5, 10, 0, 0⟩

/-- RNG_STATUS [24:15], RO, rule R203. -/
def RNG_STATUS_CH_B : Fld := ⟨0x60000, 15, 10, 0, 0⟩

/-- RNG_FAULT [0:0], W1C, rule R203. -/
def RNG_FAULT_ANT_A_FAULT : Fld := ⟨0x60004, 0, 1, 0, 0⟩

/-- RNG_FAULT [1:1], W1C, rule R203. -/
def RNG_FAULT_ANT_B_FAULT : Fld := ⟨0x60004, 1, 1, 0, 0⟩

/-- RNG_FAULT [2:2], W1C, rule R203. -/
def RNG_FAULT_CLIP_A : Fld := ⟨0x60004, 2, 1, 0, 0⟩

/-- RNG_FAULT [3:3], W1C, rule R203. -/
def RNG_FAULT_CLIP_B : Fld := ⟨0x60004, 3, 1, 0, 0⟩

/-- RNG_FAULT [4:4], W1C, rule R203. -/
def RNG_FAULT_MEAS_DROP : Fld := ⟨0x60004, 4, 1, 0, 0⟩

/-- RNG_FAULT [5:5], W1C, rule R203. -/
def RNG_FAULT_ALLOC_SHORT : Fld := ⟨0x60004, 5, 1, 0, 0⟩

/-- RNG_FAULT [6:6], W1C, rule R203. -/
def RNG_FAULT_ADC_GAP : Fld := ⟨0x60004, 6, 1, 0, 0⟩

/-- RNG_FAULT [7:7], W1C, rule R203. -/
def RNG_FAULT_CNT_SAT : Fld := ⟨0x60004, 7, 1, 0, 0⟩

/-- RNG_MEAS_CFG [2:0], RW, rule R203. -/
def RNG_MEAS_CFG_RATE : Fld := ⟨0x60008, 0, 3, 4, 0⟩

/-- RNG_MEAS_CFG [3:3], RW, rule R203. -/
def RNG_MEAS_CFG_ANT_A_EN : Fld := ⟨0x60008, 3, 1, 1, 0⟩

/-- RNG_MEAS_CFG [4:4], RW, rule R203. -/
def RNG_MEAS_CFG_ANT_B_EN : Fld := ⟨0x60008, 4, 1, 1, 0⟩

/-- RNG_MEAS_CFG [9:5], RW, rule R203. -/
def RNG_MEAS_CFG_ELEV_MASK : Fld := ⟨0x60008, 5, 5, 5, 0⟩

/-- RNG_MEAS_CFG [15:10], RW, rule R203. -/
def RNG_MEAS_CFG_CN0_LOSS : Fld := ⟨0x60008, 10, 6, 25, 0⟩

/-- RNG_SIG_EN [16:0], RW, rule R203. -/
def RNG_SIG_EN_EN : Fld := ⟨0x6000c, 0, 17, 131071, 0⟩

/-- RNG_ACQ_CFG [3:0], RW, rule R203. -/
def RNG_ACQ_CFG_DOPPLER_KHZ : Fld := ⟨0x60010, 0, 4, 6, 0⟩

/-- RNG_ACQ_CFG [9:4], RW, rule R203. -/
def RNG_ACQ_CFG_DWELL : Fld := ⟨0x60010, 4, 6, 10, 0⟩

/-- RNG_ACQ_CFG [23:16], RW, rule R203. -/
def RNG_ACQ_CFG_THRESH : Fld := ⟨0x60010, 16, 8, 40, 0⟩

/-- RNG_MEAS_COMMIT [15:8], RO, rule R203. -/
def RNG_MEAS_COMMIT_RESULT : Fld := ⟨0x60014, 8, 8, 0, 0⟩

/-- RNG_LOOP_SEL [7:0], RW, rule R203. -/
def RNG_LOOP_SEL : Fld := ⟨0x60018, 0, 8, 1, 0⟩

/-- RNG_LOOP_CFG [5:0], RW, rule R203. -/
def RNG_LOOP_CFG_PLL_BW (sig : Nat) : Fld := ⟨0x6001c, 0, 6, 20, sig⟩

/-- RNG_LOOP_CFG [10:6], RW, rule R203. -/
def RNG_LOOP_CFG_FLL_BW (sig : Nat) : Fld := ⟨0x6001c, 6, 5, 5, sig⟩

/-- RNG_LOOP_CFG [18:11], RW, rule R203. -/
def RNG_LOOP_CFG_DLL_BW (sig : Nat) : Fld := ⟨0x6001c, 11, 8, 50, sig⟩

/-- RNG_LOOP_CFG [23:19], RW, rule R203. -/
def RNG_LOOP_CFG_T_COH (sig : Nat) : Fld := ⟨0x6001c, 19, 5, (if sig = 0x30 ∨ sig = 0x31 then 10 else 20), sig⟩

/-- RNG_LOOP_CFG [28:24], RW, rule R203. -/
def RNG_LOOP_CFG_SPACING (sig : Nat) : Fld := ⟨0x6001c, 24, 5, 4, sig⟩

/-- RNG_LOOP_COMMIT [15:8], RO, rule R203. -/
def RNG_LOOP_COMMIT_RESULT (sig : Nat) : Fld := ⟨0x60020, 8, 8, 0, sig⟩

/-- RNG_BANDPWR_A [7:0], RO, rule R203. -/
def RNG_BANDPWR_A_DDC0 : Fld := ⟨0x60024, 0, 8, 0, 0⟩

/-- RNG_BANDPWR_A [15:8], RO, rule R203. -/
def RNG_BANDPWR_A_DDC1 : Fld := ⟨0x60024, 8, 8, 0, 0⟩

/-- RNG_BANDPWR_A [23:16], RO, rule R203. -/
def RNG_BANDPWR_A_DDC2 : Fld := ⟨0x60024, 16, 8, 0, 0⟩

/-- RNG_BANDPWR_A [31:24], RO, rule R203. -/
def RNG_BANDPWR_A_DDC3 : Fld := ⟨0x60024, 24, 8, 0, 0⟩

/-- RNG_BANDPWR_B [7:0], RO, rule R203. -/
def RNG_BANDPWR_B_DDC0 : Fld := ⟨0x60028, 0, 8, 0, 0⟩

/-- RNG_BANDPWR_B [15:8], RO, rule R203. -/
def RNG_BANDPWR_B_DDC1 : Fld := ⟨0x60028, 8, 8, 0, 0⟩

/-- RNG_BANDPWR_B [23:16], RO, rule R203. -/
def RNG_BANDPWR_B_DDC2 : Fld := ⟨0x60028, 16, 8, 0, 0⟩

/-- RNG_BANDPWR_B [31:24], RO, rule R203. -/
def RNG_BANDPWR_B_DDC3 : Fld := ⟨0x60028, 24, 8, 0, 0⟩

/-- RNG_CLIP_A [31:0], RO, rule R203. -/
def RNG_CLIP_A : Fld := ⟨0x6002c, 0, 32, 0, 0⟩

/-- RNG_CLIP_B [31:0], RO, rule R203. -/
def RNG_CLIP_B : Fld := ⟨0x60030, 0, 32, 0, 0⟩

/-- RNG_MEAS_SEQ [31:0], RO, rule R203. -/
def RNG_MEAS_SEQ : Fld := ⟨0x60034, 0, 32, 0, 0⟩

/-- RNG_MEAS_DROP [31:0], RO, rule R203. -/
def RNG_MEAS_DROP : Fld := ⟨0x60038, 0, 32, 0, 0⟩

/-- RNG_ALLOC_SHORT [31:0], RO, rule R203. -/
def RNG_ALLOC_SHORT : Fld := ⟨0x6003c, 0, 32, 0, 0⟩

/-- RNG_SLIP_COUNT [31:0], RO, rule R203. -/
def RNG_SLIP_COUNT : Fld := ⟨0x60040, 0, 32, 0, 0⟩

/-- RNG_NAV_FAIL [31:0], RO, rule R203. -/
def RNG_NAV_FAIL : Fld := ⟨0x60044, 0, 32, 0, 0⟩

/-- COR_STATUS [0:0], RO, rule R228. -/
def COR_STATUS_REF_VALID : Fld := ⟨0x70000, 0, 1, 0, 0⟩

/-- COR_STATUS [2:1], RO, rule R228. -/
def COR_STATUS_ORIGIN : Fld := ⟨0x70000, 1, 2, 0, 0⟩

/-- COR_STATUS [3:3], RO, rule R228. -/
def COR_STATUS_BASELINE_SET : Fld := ⟨0x70000, 3, 1, 0, 0⟩

/-- COR_STATUS [4:4], RO, rule R228. -/
def COR_STATUS_DISTURBED : Fld := ⟨0x70000, 4, 1, 0, 0⟩

/-- COR_STATUS [5:5], RO, rule R228. -/
def COR_STATUS_RTCM_ON : Fld := ⟨0x70000, 5, 1, 0, 0⟩

/-- COR_STATUS [6:6], RO, rule R228. -/
def COR_STATUS_COMPACT_ON : Fld := ⟨0x70000, 6, 1, 0, 0⟩

/-- COR_STATUS [7:7], RO, rule R228. -/
def COR_STATUS_CASTER_OPEN : Fld := ⟨0x70000, 7, 1, 0, 0⟩

/-- COR_STATUS [8:8], RO, rule R228. -/
def COR_STATUS_RATE_CAPPED : Fld := ⟨0x70000, 8, 1, 0, 0⟩

/-- COR_STATUS [9:9], RO, rule R228. -/
def COR_STATUS_MON_DEGRADED : Fld := ⟨0x70000, 9, 1, 0, 0⟩

/-- COR_FAULT [0:0], W1C, rule R228. -/
def COR_FAULT_DISTURBED : Fld := ⟨0x70004, 0, 1, 0, 0⟩

/-- COR_FAULT [1:1], W1C, rule R228. -/
def COR_FAULT_MON_DEGRADED : Fld := ⟨0x70004, 1, 1, 0, 0⟩

/-- COR_FAULT [2:2], W1C, rule R228. -/
def COR_FAULT_EPOCH_MISSED : Fld := ⟨0x70004, 2, 1, 0, 0⟩

/-- COR_FAULT [3:3], W1C, rule R228. -/
def COR_FAULT_CLIENT_REFUSED : Fld := ⟨0x70004, 3, 1, 0, 0⟩

/-- COR_FAULT [4:4], W1C, rule R228. -/
def COR_FAULT_AUTH_FAIL : Fld := ⟨0x70004, 4, 1, 0, 0⟩

/-- COR_FAULT [5:5], W1C, rule R228. -/
def COR_FAULT_COMPACT_TRUNC : Fld := ⟨0x70004, 5, 1, 0, 0⟩

/-- COR_FAULT [6:6], W1C, rule R228. -/
def COR_FAULT_CNT_SAT : Fld := ⟨0x70004, 6, 1, 0, 0⟩

/-- COR_FAULT [7:7], W1C, rule R228. -/
def COR_FAULT_SURVEY_LONG : Fld := ⟨0x70004, 7, 1, 0, 0⟩

/-- COR_REF_X [63:0], RW, rule R228. -/
def COR_REF_X : Fld := ⟨0x70008, 0, 64, 0, 0⟩

/-- COR_REF_Y [63:0], RW, rule R228. -/
def COR_REF_Y : Fld := ⟨0x70010, 0, 64, 0, 0⟩

/-- COR_REF_Z [63:0], RW, rule R228. -/
def COR_REF_Z : Fld := ⟨0x70018, 0, 64, 0, 0⟩

/-- COR_REF_CFG [15:0], RW, rule R228. -/
def COR_REF_CFG_MARK_HEIGHT : Fld := ⟨0x70020, 0, 16, 0, 0⟩

/-- COR_REF_CFG [27:16], RW, rule R228. -/
def COR_REF_CFG_PCO_UP : Fld := ⟨0x70020, 16, 12, 0, 0⟩

/-- COR_BASE_E [31:0], RW, rule R228. -/
def COR_BASE_E : Fld := ⟨0x70024, 0, 32, 0, 0⟩

/-- COR_BASE_N [31:0], RW, rule R228. -/
def COR_BASE_N : Fld := ⟨0x70028, 0, 32, 0, 0⟩

/-- COR_BASE_U [31:0], RW, rule R228. -/
def COR_BASE_U : Fld := ⟨0x7002c, 0, 32, 0, 0⟩

/-- COR_REF_COMMIT [15:8], RO, rule R228. -/
def COR_REF_COMMIT_RESULT : Fld := ⟨0x70030, 8, 8, 0, 0⟩

/-- COR_SURVEY_CFG [15:0], RW, rule R228. -/
def COR_SURVEY_CFG_MIN_TIME : Fld := ⟨0x70034, 0, 16, 600, 0⟩

/-- COR_SURVEY_CFG [27:16], RW, rule R228. -/
def COR_SURVEY_CFG_ACC_LIMIT : Fld := ⟨0x70034, 16, 12, 150, 0⟩

/-- COR_SURVEY_STATUS [15:0], RO, rule R228. -/
def COR_SURVEY_STATUS_ELAPSED : Fld := ⟨0x70038, 0, 16, 0, 0⟩

/-- COR_SURVEY_STATUS [27:16], RO, rule R228. -/
def COR_SURVEY_STATUS_SIGMA : Fld := ⟨0x70038, 16, 12, 0, 0⟩

/-- COR_SURVEY_STATUS [31:28], RO, rule R228. -/
def COR_SURVEY_STATUS_STATE : Fld := ⟨0x70038, 28, 4, 0, 0⟩

/-- COR_RTCM_CFG [2:0], RW, rule R228. -/
def COR_RTCM_CFG_RATE : Fld := ⟨0x7003c, 0, 3, 0, 0⟩

/-- COR_RTCM_CFG [7:3], RW, rule R228. -/
def COR_RTCM_CFG_SYS_EN : Fld := ⟨0x7003c, 3, 5, 31, 0⟩

/-- COR_RTCM_CFG [15:8], RW, rule R228. -/
def COR_RTCM_CFG_STA_PERIOD : Fld := ⟨0x7003c, 8, 8, 10, 0⟩

/-- COR_RTCM_CFG [23:16], RW, rule R228. -/
def COR_RTCM_CFG_BIAS_PERIOD : Fld := ⟨0x7003c, 16, 8, 10, 0⟩

/-- COR_RTCM_CFG [31:24], RW, rule R228. -/
def COR_RTCM_CFG_DESC_PERIOD : Fld := ⟨0x7003c, 24, 8, 10, 0⟩

/-- COR_RTCM_ID [11:0], RW, rule R228. -/
def COR_RTCM_ID_STATION_ID : Fld := ⟨0x70040, 0, 12, 0, 0⟩

/-- COR_RTCM_ID [12:12], RW, rule R228. -/
def COR_RTCM_ID_ID_AUTO : Fld := ⟨0x70040, 12, 1, 1, 0⟩

/-- COR_COMPACT_CFG [1:0], RW, rule R228. -/
def COR_COMPACT_CFG_CRATE : Fld := ⟨0x70044, 0, 2, 0, 0⟩

/-- COR_COMPACT_CFG [2:2], RW, rule R228. -/
def COR_COMPACT_CFG_C_EN : Fld := ⟨0x70044, 2, 1, 1, 0⟩

/-- COR_COMPACT_CFG [7:3], RW, rule R228. -/
def COR_COMPACT_CFG_C_SYS : Fld := ⟨0x70044, 3, 5, 31, 0⟩

/-- COR_COMPACT_CFG [13:8], RW, rule R228. -/
def COR_COMPACT_CFG_MAX_SV : Fld := ⟨0x70044, 8, 6, 32, 0⟩

/-- COR_COMPACT_CFG [23:16], RW, rule R228. -/
def COR_COMPACT_CFG_POS_EVERY : Fld := ⟨0x70044, 16, 8, 10, 0⟩

/-- COR_RTCM_COMMIT [15:8], RO, rule R228. -/
def COR_RTCM_COMMIT_RESULT : Fld := ⟨0x70048, 8, 8, 0, 0⟩

/-- COR_CASTER_CFG [15:0], RW, rule R228. -/
def COR_CASTER_CFG_PORT : Fld := ⟨0x7004c, 0, 16, 2101, 0⟩

/-- COR_CASTER_CFG [24:16], RW, rule R228. -/
def COR_CASTER_CFG_MAX_CLIENTS : Fld := ⟨0x7004c, 16, 9, 256, 0⟩

/-- COR_CASTER_CFG [25:25], RW, rule R228. -/
def COR_CASTER_CFG_V1_EN : Fld := ⟨0x7004c, 25, 1, 1, 0⟩

/-- COR_CASTER_CFG [26:26], RW, rule R228. -/
def COR_CASTER_CFG_LAN_A_EN : Fld := ⟨0x7004c, 26, 1, 1, 0⟩

/-- COR_CASTER_CFG [27:27], RW, rule R228. -/
def COR_CASTER_CFG_LAN_B_EN : Fld := ⟨0x7004c, 27, 1, 1, 0⟩

/-- COR_CASTER_COMMIT [15:8], RO, rule R228. -/
def COR_CASTER_COMMIT_RESULT : Fld := ⟨0x70050, 8, 8, 0, 0⟩

/-- COR_MON_CFG [7:0], RW, rule R228. -/
def COR_MON_CFG_DEV_LIM : Fld := ⟨0x70054, 0, 8, 15, 0⟩

/-- COR_MON_CFG [15:8], RW, rule R228. -/
def COR_MON_CFG_PERSIST : Fld := ⟨0x70054, 8, 8, 5, 0⟩

/-- COR_MON_CFG [27:16], RW, rule R228. -/
def COR_MON_CFG_DRIFT_LIM : Fld := ⟨0x70054, 16, 12, 200, 0⟩

/-- COR_MON_CFG [28:28], RW, rule R228. -/
def COR_MON_CFG_DIST_STOP : Fld := ⟨0x70054, 28, 1, 1, 0⟩

/-- COR_MON_CFG [29:29], RW, rule R228. -/
def COR_MON_CFG_MON_EN : Fld := ⟨0x70054, 29, 1, 1, 0⟩

/-- COR_MON_COMMIT [15:8], RO, rule R228. -/
def COR_MON_COMMIT_RESULT : Fld := ⟨0x70058, 8, 8, 0, 0⟩

/-- COR_MON_CTRL [0:0], W1S, rule R228. -/
def COR_MON_CTRL_DIST_CLEAR : Fld := ⟨0x7005c, 0, 1, 0, 0⟩

/-- COR_MON_CTRL [15:8], RO, rule R228. -/
def COR_MON_CTRL_RESULT : Fld := ⟨0x7005c, 8, 8, 0, 0⟩

/-- COR_MON_RESULT [15:0], RO, rule R228. -/
def COR_MON_RESULT_DEV : Fld := ⟨0x70060, 0, 16, 0, 0⟩

/-- COR_MON_RESULT [19:16], RO, rule R228. -/
def COR_MON_RESULT_RESULT : Fld := ⟨0x70060, 16, 4, 0, 0⟩

/-- COR_MON_RESULT [27:20], RO, rule R228. -/
def COR_MON_RESULT_FAIL_RUN : Fld := ⟨0x70060, 20, 8, 0, 0⟩

/-- COR_MON_DRIFT [31:0], RO, rule R228. -/
def COR_MON_DRIFT : Fld := ⟨0x70064, 0, 32, 0, 0⟩

/-- COR_CLIENTS [31:0], RO, rule R228. -/
def COR_CLIENTS : Fld := ⟨0x70068, 0, 32, 0, 0⟩

/-- COR_MSG_COUNT [31:0], RO, rule R228. -/
def COR_MSG_COUNT : Fld := ⟨0x70070, 0, 32, 0, 0⟩

/-- COR_EPOCH_MISSED [31:0], RO, rule R228. -/
def COR_EPOCH_MISSED : Fld := ⟨0x70074, 0, 32, 0, 0⟩

/-- COR_CLIENT_REFUSED [31:0], RO, rule R228. -/
def COR_CLIENT_REFUSED : Fld := ⟨0x70078, 0, 32, 0, 0⟩

/-- COR_AUTH_FAIL [31:0], RO, rule R228. -/
def COR_AUTH_FAIL : Fld := ⟨0x7007c, 0, 32, 0, 0⟩

/-- COR_CLIENT_SKIP [31:0], RO, rule R228. -/
def COR_CLIENT_SKIP : Fld := ⟨0x70080, 0, 32, 0, 0⟩

/-- COR_CLIENT_CLOSED [31:0], RO, rule R228. -/
def COR_CLIENT_CLOSED : Fld := ⟨0x70084, 0, 32, 0, 0⟩

/-- COR_COMPACT_TRUNC [31:0], RO, rule R228. -/
def COR_COMPACT_TRUNC : Fld := ⟨0x70088, 0, 32, 0, 0⟩

/-- CRE_STATUS [0:0], RO, rule R258. -/
def CRE_STATUS_RUNNING : Fld := ⟨0x80000, 0, 1, 0, 0⟩

/-- CRE_STATUS [1:1], RO, rule R258. -/
def CRE_STATUS_PUBLISHING : Fld := ⟨0x80000, 1, 1, 0, 0⟩

/-- CRE_STATUS [2:2], RO, rule R258. -/
def CRE_STATUS_FRAME_SET : Fld := ⟨0x80000, 2, 1, 0, 0⟩

/-- CRE_STATUS [3:3], RO, rule R258. -/
def CRE_STATUS_BASE_OK : Fld := ⟨0x80000, 3, 1, 0, 0⟩

/-- CRE_STATUS [12:4], RO, rule R258. -/
def CRE_STATUS_ACTIVE : Fld := ⟨0x80000, 4, 9, 0, 0⟩

/-- CRE_STATUS [21:13], RO, rule R258. -/
def CRE_STATUS_FIXED : Fld := ⟨0x80000, 13, 9, 0, 0⟩

/-- CRE_FAULT [0:0], W1C, rule R258. -/
def CRE_FAULT_NO_BASE : Fld := ⟨0x80004, 0, 1, 0, 0⟩

/-- CRE_FAULT [1:1], W1C, rule R258. -/
def CRE_FAULT_LATE : Fld := ⟨0x80004, 1, 1, 0, 0⟩

/-- CRE_FAULT [2:2], W1C, rule R258. -/
def CRE_FAULT_XCHK : Fld := ⟨0x80004, 2, 1, 0, 0⟩

/-- CRE_FAULT [3:3], W1C, rule R258. -/
def CRE_FAULT_HOLD_LOSS : Fld := ⟨0x80004, 3, 1, 0, 0⟩

/-- CRE_FAULT [4:4], W1C, rule R258. -/
def CRE_FAULT_SEARCH_LIMIT : Fld := ⟨0x80004, 4, 1, 0, 0⟩

/-- CRE_FAULT [5:5], W1C, rule R258. -/
def CRE_FAULT_PART_LOST : Fld := ⟨0x80004, 5, 1, 0, 0⟩

/-- CRE_FAULT [6:6], W1C, rule R258. -/
def CRE_FAULT_CNT_SAT : Fld := ⟨0x80004, 6, 1, 0, 0⟩

/-- CRE_FAULT [7:7], W1C, rule R258. -/
def CRE_FAULT_STATE_ECC : Fld := ⟨0x80004, 7, 1, 0, 0⟩

/-- CRE_FILT_CFG [7:0], RW, rule R258. -/
def CRE_FILT_CFG_CODE_SIGMA : Fld := ⟨0x80008, 0, 8, 30, 0⟩

/-- CRE_FILT_CFG [15:8], RW, rule R258. -/
def CRE_FILT_CFG_PHASE_SIGMA : Fld := ⟨0x80008, 8, 8, 30, 0⟩

/-- CRE_FILT_CFG [20:16], RW, rule R258. -/
def CRE_FILT_CFG_ELEV_MIN : Fld := ⟨0x80008, 16, 5, 10, 0⟩

/-- CRE_FILT_CFG [26:21], RW, rule R258. -/
def CRE_FILT_CFG_CN0_MIN : Fld := ⟨0x80008, 21, 6, 30, 0⟩

/-- CRE_FILT_CFG [30:27], RW, rule R258. -/
def CRE_FILT_CFG_ACC_PSD : Fld := ⟨0x80008, 27, 4, 4, 0⟩

/-- CRE_AR_CFG [6:0], RW, rule R258. -/
def CRE_AR_CFG_RATIO_MIN : Fld := ⟨0x8000c, 0, 7, 30, 0⟩

/-- CRE_AR_CFG [13:8], RW, rule R258. -/
def CRE_AR_CFG_MIN_AMB : Fld := ⟨0x8000c, 8, 6, 8, 0⟩

/-- CRE_AR_CFG [19:16], RW, rule R258. -/
def CRE_AR_CFG_PAR_STEPS : Fld := ⟨0x8000c, 16, 4, 8, 0⟩

/-- CRE_AR_CFG [23:20], RW, rule R258. -/
def CRE_AR_CFG_HOLD_AFTER : Fld := ⟨0x8000c, 20, 4, 10, 0⟩

/-- CRE_AR_CFG [27:24], RW, rule R258. -/
def CRE_AR_CFG_LOCK_MIN : Fld := ⟨0x8000c, 24, 4, 2, 0⟩

/-- CRE_AR_CFG [31:28], RW, rule R258. -/
def CRE_AR_CFG_PDOP_MAX : Fld := ⟨0x8000c, 28, 4, 6, 0⟩

/-- CRE_AR_LIM [16:0], RW, rule R258. -/
def CRE_AR_LIM_PF_MAX : Fld := ⟨0x80010, 0, 17, 1000, 0⟩

/-- CRE_AR_LIM [19:17], RW, rule R258. -/
def CRE_AR_LIM_NODE_CODE : Fld := ⟨0x80010, 17, 3, 4, 0⟩

/-- CRE_AR_LIM [27:20], RW, rule R258. -/
def CRE_AR_LIM_RESID_LIM : Fld := ⟨0x80010, 20, 8, 20, 0⟩

/-- CRE_AR_LIM [31:28], RW, rule R258. -/
def CRE_AR_LIM_GAP_RESET : Fld := ⟨0x80010, 28, 4, 10, 0⟩

/-- CRE_INTAKE_CFG [9:0], RW, rule R258. -/
def CRE_INTAKE_CFG_AGE_MAX : Fld := ⟨0x80014, 0, 10, 200, 0⟩

/-- CRE_FILT_COMMIT [15:8], RO, rule R258. -/
def CRE_FILT_COMMIT_RESULT : Fld := ⟨0x80018, 8, 8, 0, 0⟩

/-- CRE_FRAME_X [63:0], RW, rule R258. -/
def CRE_FRAME_X : Fld := ⟨0x80020, 0, 64, 0, 0⟩

/-- CRE_FRAME_Y [63:0], RW, rule R258. -/
def CRE_FRAME_Y : Fld := ⟨0x80028, 0, 64, 0, 0⟩

/-- CRE_FRAME_Z [63:0], RW, rule R258. -/
def CRE_FRAME_Z : Fld := ⟨0x80030, 0, 64, 0, 0⟩

/-- CRE_FRAME_ROT [18:0], RW, rule R258. -/
def CRE_FRAME_ROT : Fld := ⟨0x80038, 0, 19, 0, 0⟩

/-- CRE_FRAME_COMMIT [15:8], RO, rule R258. -/
def CRE_FRAME_COMMIT_RESULT : Fld := ⟨0x8003c, 8, 8, 0, 0⟩

/-- CRE_XCHK_CFG [3:0], RW, rule R258. -/
def CRE_XCHK_CFG_XCHK_PERSIST : Fld := ⟨0x80040, 0, 4, 3, 0⟩

/-- CRE_XCHK_CFG [4:4], RW, rule R258. -/
def CRE_XCHK_CFG_XCHK_EN : Fld := ⟨0x80040, 4, 1, 1, 0⟩

/-- CRE_XCHK_COMMIT [15:8], RO, rule R258. -/
def CRE_XCHK_COMMIT_RESULT : Fld := ⟨0x80044, 8, 8, 0, 0⟩

/-- CRE_OBS_IN [31:0], RO, rule R258. -/
def CRE_OBS_IN : Fld := ⟨0x80048, 0, 32, 0, 0⟩

/-- CRE_REF_MODE [31:0], RO, rule R258. -/
def CRE_REF_MODE : Fld := ⟨0x8004c, 0, 32, 0, 0⟩

/-- CRE_REF_FORMAT [31:0], RO, rule R258. -/
def CRE_REF_FORMAT : Fld := ⟨0x80050, 0, 32, 0, 0⟩

/-- CRE_REF_LENGTH [31:0], RO, rule R258. -/
def CRE_REF_LENGTH : Fld := ⟨0x80054, 0, 32, 0, 0⟩

/-- CRE_REF_STALE [31:0], RO, rule R258. -/
def CRE_REF_STALE : Fld := ⟨0x80058, 0, 32, 0, 0⟩

/-- CRE_REF_CONFLICT [31:0], RO, rule R258. -/
def CRE_REF_CONFLICT : Fld := ⟨0x8005c, 0, 32, 0, 0⟩

/-- CRE_PHASE_WRONG [31:0], RO, rule R258. -/
def CRE_PHASE_WRONG : Fld := ⟨0x80060, 0, 32, 0, 0⟩

/-- CRE_PART_LOST [31:0], RO, rule R258. -/
def CRE_PART_LOST : Fld := ⟨0x80064, 0, 32, 0, 0⟩

/-- CRE_NO_BASE [31:0], RO, rule R258. -/
def CRE_NO_BASE : Fld := ⟨0x80068, 0, 32, 0, 0⟩

/-- CRE_AR_TRY [31:0], RO, rule R258. -/
def CRE_AR_TRY : Fld := ⟨0x8006c, 0, 32, 0, 0⟩

/-- CRE_AR_OK [31:0], RO, rule R258. -/
def CRE_AR_OK : Fld := ⟨0x80070, 0, 32, 0, 0⟩

/-- CRE_SEARCH_LIMIT [31:0], RO, rule R258. -/
def CRE_SEARCH_LIMIT : Fld := ⟨0x80074, 0, 32, 0, 0⟩

/-- CRE_HOLD_LOSS [31:0], RO, rule R258. -/
def CRE_HOLD_LOSS : Fld := ⟨0x80078, 0, 32, 0, 0⟩

/-- CRE_RESID_REJ [31:0], RO, rule R258. -/
def CRE_RESID_REJ : Fld := ⟨0x8007c, 0, 32, 0, 0⟩

/-- CRE_XCHK_EVENTS [31:0], RO, rule R258. -/
def CRE_XCHK_EVENTS : Fld := ⟨0x80080, 0, 32, 0, 0⟩

/-- CRE_LATE [31:0], RO, rule R258. -/
def CRE_LATE : Fld := ⟨0x80084, 0, 32, 0, 0⟩

/-- CRE_OUT_DROP [31:0], RO, rule R258. -/
def CRE_OUT_DROP : Fld := ⟨0x80088, 0, 32, 0, 0⟩

/-- CRE_LATENCY [31:0], RO, rule R258. -/
def CRE_LATENCY : Fld := ⟨0x8008c, 0, 32, 0, 0⟩

/-- CRE_SAT_TRIM [31:0], RO, rule R258. -/
def CRE_SAT_TRIM : Fld := ⟨0x80090, 0, 32, 0, 0⟩

/-- CRE_XCHK_LIMi [15:0], RW, rule R258. -/
def CRE_XCHK_LIM (i : Nat) : Fld := ⟨0x80100 + 4 * (i % 256), 0, 16, (xchkDefault i), 0⟩

/-- CRE_ROBOTn [1:0], RO, rule R258. -/
def CRE_ROBOT_FIX (n : Nat) : Fld := ⟨0x80200 + 4 * (n % 256), 0, 2, 0, 0⟩

/-- CRE_ROBOTn [2:2], RO, rule R258. -/
def CRE_ROBOT_ACTIVE (n : Nat) : Fld := ⟨0x80200 + 4 * (n % 256), 2, 1, 0, 0⟩

/-- CRE_ROBOTn [3:3], RO, rule R258. -/
def CRE_ROBOT_XCHK_FAIL (n : Nat) : Fld := ⟨0x80200 + 4 * (n % 256), 3, 1, 0, 0⟩

/-- CRE_ROBOTn [9:4], RO, rule R258. -/
def CRE_ROBOT_SATS (n : Nat) : Fld := ⟨0x80200 + 4 * (n % 256), 4, 6, 0, 0⟩

/-- CRE_ROBOTn [17:10], RO, rule R258. -/
def CRE_ROBOT_AMB_FIXED (n : Nat) : Fld := ⟨0x80200 + 4 * (n % 256), 10, 8, 0, 0⟩

/-- LDR_STATUS [0:0], RO, rule R294. -/
def LDR_STATUS_MAP_READY : Fld := ⟨0x90000, 0, 1, 0, 0⟩

/-- LDR_STATUS [1:1], RO, rule R294. -/
def LDR_STATUS_GRANTING : Fld := ⟨0x90000, 1, 1, 0, 0⟩

/-- LDR_STATUS [2:2], RO, rule R294. -/
def LDR_STATUS_AUDIT_LOCK : Fld := ⟨0x90000, 2, 1, 0, 0⟩

/-- LDR_STATUS [3:3], RO, rule R294. -/
def LDR_STATUS_SWEEPING : Fld := ⟨0x90000, 3, 1, 0, 0⟩

/-- LDR_STATUS [4:4], RO, rule R294. -/
def LDR_STATUS_RECOUNTING : Fld := ⟨0x90000, 4, 1, 0, 0⟩

/-- LDR_STATUS [10:5], RO, rule R294. -/
def LDR_STATUS_SLOT_POS : Fld := ⟨0x90000, 5, 6, 0, 0⟩

/-- LDR_FAULT [0:0], W1C, rule R294. -/
def LDR_FAULT_AUDIT : Fld := ⟨0x90004, 0, 1, 0, 0⟩

/-- LDR_FAULT [1:1], W1C, rule R294. -/
def LDR_FAULT_RECOUNT : Fld := ⟨0x90004, 1, 1, 0, 0⟩

/-- LDR_FAULT [2:2], W1C, rule R294. -/
def LDR_FAULT_MAP_ECC : Fld := ⟨0x90004, 2, 1, 0, 0⟩

/-- LDR_FAULT [3:3], W1C, rule R294. -/
def LDR_FAULT_HOLD_ECC : Fld := ⟨0x90004, 3, 1, 0, 0⟩

/-- LDR_FAULT [4:4], W1C, rule R294. -/
def LDR_FAULT_HOLDER_FULL : Fld := ⟨0x90004, 4, 1, 0, 0⟩

/-- LDR_FAULT [5:5], W1C, rule R294. -/
def LDR_FAULT_DEFERRED : Fld := ⟨0x90004, 5, 1, 0, 0⟩

/-- LDR_FAULT [6:6], W1C, rule R294. -/
def LDR_FAULT_CNT_SAT : Fld := ⟨0x90004, 6, 1, 0, 0⟩

/-- LDR_FAULT [7:7], W1C, rule R294. -/
def LDR_FAULT_SWEEP_LATE : Fld := ⟨0x90004, 7, 1, 0, 0⟩

/-- LDR_MAP_GEOM [4:0], RW, rule R294. -/
def LDR_MAP_GEOM_WX : Fld := ⟨0x90008, 0, 5, 12, 0⟩

/-- LDR_MAP_GEOM [9:5], RW, rule R294. -/
def LDR_MAP_GEOM_HY : Fld := ⟨0x90008, 5, 5, 11, 0⟩

/-- LDR_MAP_GEOM [11:10], RW, rule R294. -/
def LDR_MAP_GEOM_CELL : Fld := ⟨0x90008, 10, 2, 2, 0⟩

/-- LDR_MAP_GEOM [14:12], RW, rule R294. -/
def LDR_MAP_GEOM_SLOT : Fld := ⟨0x90008, 12, 3, 4, 0⟩

/-- LDR_MAP_X0 [31:0], RW, rule R294. -/
def LDR_MAP_X0 : Fld := ⟨0x9000c, 0, 32, 0, 0⟩

/-- LDR_MAP_Y0 [31:0], RW, rule R294. -/
def LDR_MAP_Y0 : Fld := ⟨0x90010, 0, 32, 0, 0⟩

/-- LDR_CTRL [0:0], W1S, rule R294. -/
def LDR_CTRL_AUDIT_CLEAR : Fld := ⟨0x90014, 0, 1, 0, 0⟩

/-- LDR_CTRL [15:8], RO, rule R294. -/
def LDR_CTRL_RESULT : Fld := ⟨0x90014, 8, 8, 0, 0⟩

/-- LDR_MAP_BASE [33:0], RW, rule R294. -/
def LDR_MAP_BASE_ADDR : Fld := ⟨0x90018, 0, 34, 4026531840, 0⟩

/-- LDR_HOLD_BASE [33:0], RW, rule R294. -/
def LDR_HOLD_BASE_ADDR : Fld := ⟨0x90020, 0, 34, 4160749568, 0⟩

/-- LDR_GRANT_BASE [33:0], RW, rule R294. -/
def LDR_GRANT_BASE_ADDR : Fld := ⟨0x90028, 0, 34, 4093640704, 0⟩

/-- LDR_MAP_COMMIT [15:8], RO, rule R294. -/
def LDR_MAP_COMMIT_RESULT : Fld := ⟨0x90030, 8, 8, 0, 0⟩

/-- LDR_REQ_CFG [9:0], RW, rule R294. -/
def LDR_REQ_CFG_MARGIN_MM : Fld := ⟨0x90034, 0, 10, 200, 0⟩

/-- LDR_REQ_CFG [31:16], RW, rule R294. -/
def LDR_REQ_CFG_MAX_TOKENS : Fld := ⟨0x90034, 16, 16, 16384, 0⟩

/-- LDR_ENV_CFG [5:0], RW, rule R294. -/
def LDR_ENV_CFG : Fld := ⟨0x90038, 0, 6, 8, 0⟩

/-- LDR_SCRUB_CFG [9:0], RW, rule R294. -/
def LDR_SCRUB_CFG : Fld := ⟨0x9003c, 0, 10, 60, 0⟩

/-- LDR_RULES_COMMIT [15:8], RO, rule R294. -/
def LDR_RULES_COMMIT_RESULT : Fld := ⟨0x90040, 8, 8, 0, 0⟩

/-- LDR_SLOT_NOW [31:0], RO, rule R294. -/
def LDR_SLOT_NOW : Fld := ⟨0x90044, 0, 32, 0, 0⟩

/-- LDR_GRANTED [63:0], RO, rule R294. -/
def LDR_GRANTED : Fld := ⟨0x90048, 0, 64, 0, 0⟩

/-- LDR_RELEASED [63:0], RO, rule R294. -/
def LDR_RELEASED : Fld := ⟨0x90050, 0, 64, 0, 0⟩

/-- LDR_EXPIRED [63:0], RO, rule R294. -/
def LDR_EXPIRED : Fld := ⟨0x90058, 0, 64, 0, 0⟩

/-- LDR_CHECKS [63:0], RO, rule R294. -/
def LDR_CHECKS : Fld := ⟨0x90060, 0, 64, 0, 0⟩

/-- LDR_HELD [31:0], RO, rule R294. -/
def LDR_HELD : Fld := ⟨0x90068, 0, 32, 0, 0⟩

/-- LDR_PENDING [31:0], RO, rule R294. -/
def LDR_PENDING : Fld := ⟨0x9006c, 0, 32, 0, 0⟩

/-- LDR_FREE [31:0], RO, rule R294. -/
def LDR_FREE : Fld := ⟨0x90070, 0, 32, 536870912, 0⟩

/-- LDR_BLOCKED_CELLS [31:0], RO, rule R294. -/
def LDR_BLOCKED_CELLS : Fld := ⟨0x90074, 0, 32, 0, 0⟩

/-- LDR_FORCED [31:0], RO, rule R294. -/
def LDR_FORCED : Fld := ⟨0x90078, 0, 32, 0, 0⟩

/-- LDR_REQ_COUNT [31:0], RO, rule R294. -/
def LDR_REQ_COUNT : Fld := ⟨0x9007c, 0, 32, 0, 0⟩

/-- LDR_REQ_REFUSED [31:0], RO, rule R294. -/
def LDR_REQ_REFUSED : Fld := ⟨0x90080, 0, 32, 0, 0⟩

/-- LDR_REQ_DEFERRED [31:0], RO, rule R294. -/
def LDR_REQ_DEFERRED : Fld := ⟨0x90084, 0, 32, 0, 0⟩

/-- LDR_AUDIT_EPOCH [31:0], RO, rule R294. -/
def LDR_AUDIT_EPOCH : Fld := ⟨0x90088, 0, 32, 0, 0⟩

/-- LDR_ROBOTn [19:0], RO, rule R294. -/
def LDR_ROBOT_HELD (n : Nat) : Fld := ⟨0x90400 + 4 * (n % 256), 0, 20, 0, 0⟩

/-- LDR_ROBOTn [22:20], RO, rule R294. -/
def LDR_ROBOT_GRANTS (n : Nat) : Fld := ⟨0x90400 + 4 * (n % 256), 20, 3, 0, 0⟩

/-- LDR_ROBOTn [23:23], RO, rule R294. -/
def LDR_ROBOT_ENV (n : Nat) : Fld := ⟨0x90400 + 4 * (n % 256), 23, 1, 0, 0⟩

/-- LDR_ROBOTn [24:24], RO, rule R294. -/
def LDR_ROBOT_LOST (n : Nat) : Fld := ⟨0x90400 + 4 * (n % 256), 24, 1, 0, 0⟩

/-- TRK_STATUS [0:0], RO, rule R319. -/
def TRK_STATUS_LIVE : Fld := ⟨0xa0000, 0, 1, 0, 0⟩

/-- TRK_STATUS [1:1], RO, rule R319. -/
def TRK_STATUS_PENDING : Fld := ⟨0xa0000, 1, 1, 0, 0⟩

/-- TRK_STATUS [2:2], RO, rule R319. -/
def TRK_STATUS_AUDIT_LOCK : Fld := ⟨0xa0000, 2, 1, 0, 0⟩

/-- TRK_STATUS [3:3], RO, rule R319. -/
def TRK_STATUS_TABLE_HOLD : Fld := ⟨0xa0000, 3, 1, 0, 0⟩

/-- TRK_FAULT [0:0], W1C, rule R319. -/
def TRK_FAULT_TASK_AUDIT : Fld := ⟨0xa0004, 0, 1, 0, 0⟩

/-- TRK_FAULT [1:1], W1C, rule R319. -/
def TRK_FAULT_SHADOW_BUSY : Fld := ⟨0xa0004, 1, 1, 0, 0⟩

/-- TRK_FAULT [2:2], W1C, rule R319. -/
def TRK_FAULT_NO_TRANSITION : Fld := ⟨0xa0004, 2, 1, 0, 0⟩

/-- TRK_FAULT [3:3], W1C, rule R319. -/
def TRK_FAULT_FORCED : Fld := ⟨0xa0004, 3, 1, 0, 0⟩

/-- TRK_FAULT [4:4], W1C, rule R319. -/
def TRK_FAULT_TABLE_ECC : Fld := ⟨0xa0004, 4, 1, 0, 0⟩

/-- TRK_FAULT [5:5], W1C, rule R319. -/
def TRK_FAULT_CNT_SAT : Fld := ⟨0xa0004, 5, 1, 0, 0⟩

/-- TRK_COMMIT [15:8], RO, rule R319. -/
def TRK_COMMIT_RESULT : Fld := ⟨0xa0008, 8, 8, 0, 0⟩

/-- TRK_COMMIT_ERR [2:0], RO, rule R319. -/
def TRK_COMMIT_ERR_TABLE : Fld := ⟨0xa000c, 0, 3, 7, 0⟩

/-- TRK_COMMIT_ERR [29:16], RO, rule R319. -/
def TRK_COMMIT_ERR_INDEX : Fld := ⟨0xa000c, 16, 14, 0, 0⟩

/-- TRK_GEN [31:0], RO, rule R319. -/
def TRK_GEN : Fld := ⟨0xa0010, 0, 32, 0, 0⟩

/-- TRK_CTRL [31:0], RW, rule R319. -/
def TRK_CTRL : Fld := ⟨0xa0014, 0, 32, 0, 0⟩

/-- TRK_TASKS_VALID [31:0], RO, rule R319. -/
def TRK_TASKS_VALID : Fld := ⟨0xa0018, 0, 32, 0, 0⟩

/-- TRK_TASKS_POOL [31:0], RO, rule R319. -/
def TRK_TASKS_POOL : Fld := ⟨0xa001c, 0, 32, 0, 0⟩

/-- TRK_TASKS_HELD [31:0], RO, rule R319. -/
def TRK_TASKS_HELD : Fld := ⟨0xa0020, 0, 32, 0, 0⟩

/-- TRK_EVENTS [31:0], RO, rule R319. -/
def TRK_EVENTS : Fld := ⟨0xa0024, 0, 32, 0, 0⟩

/-- TRK_NO_TRANS [31:0], RO, rule R319. -/
def TRK_NO_TRANS : Fld := ⟨0xa0028, 0, 32, 0, 0⟩

/-- TRK_EV_REFUSED [31:0], RO, rule R319. -/
def TRK_EV_REFUSED : Fld := ⟨0xa002c, 0, 32, 0, 0⟩

/-- TRK_TIMEOUTS [31:0], RO, rule R319. -/
def TRK_TIMEOUTS : Fld := ⟨0xa0030, 0, 32, 0, 0⟩

/-- TRK_FORCED [31:0], RO, rule R319. -/
def TRK_FORCED : Fld := ⟨0xa0034, 0, 32, 0, 0⟩

/-- GOV_STATUS [1:1], RO, rule R346. -/
def GOV_STATUS_PENDING : Fld := ⟨0xb0000, 1, 1, 0, 0⟩

/-- GOV_FAULT [0:0], W1C, rule R346. -/
def GOV_FAULT_COAST : Fld := ⟨0xb0004, 0, 1, 0, 0⟩

/-- GOV_FAULT [1:1], W1C, rule R346. -/
def GOV_FAULT_OUT_DROP : Fld := ⟨0xb0004, 1, 1, 0, 0⟩

/-- GOV_FAULT [2:2], W1C, rule R346. -/
def GOV_FAULT_NO_CURVE : Fld := ⟨0xb0004, 2, 1, 0, 0⟩

/-- GOV_FAULT [3:3], W1C, rule R346. -/
def GOV_FAULT_ERR_SAT : Fld := ⟨0xb0004, 3, 1, 0, 0⟩

/-- GOV_FAULT [4:4], W1C, rule R346. -/
def GOV_FAULT_STATE_ECC : Fld := ⟨0xb0004, 4, 1, 0, 0⟩

/-- GOV_FAULT [5:5], W1C, rule R346. -/
def GOV_FAULT_CNT_SAT : Fld := ⟨0xb0004, 5, 1, 0, 0⟩

/-- GOV_CFG [9:0], RW, rule R346. -/
def GOV_CFG_LOOP_MS : Fld := ⟨0xb0008, 0, 10, 100, 0⟩

/-- GOV_CFG [25:16], RW, rule R346. -/
def GOV_CFG_COAST_MARGIN_MM : Fld := ⟨0xb0008, 16, 10, 500, 0⟩

/-- GOV_CFG [31:26], RW, rule R346. -/
def GOV_CFG_DOCK_TOL_MM : Fld := ⟨0xb0008, 26, 6, 20, 0⟩

/-- GOV_PACE_COMMIT [15:8], RO, rule R346. -/
def GOV_PACE_COMMIT_RESULT : Fld := ⟨0xb000c, 8, 8, 0, 0⟩

/-- GOV_COMMIT_ERR [2:0], RO, rule R346. -/
def GOV_COMMIT_ERR_ITEM : Fld := ⟨0xb0010, 0, 3, 0, 0⟩

/-- GOV_COMMIT_ERR [12:8], RO, rule R346. -/
def GOV_COMMIT_ERR_INDEX : Fld := ⟨0xb0010, 8, 5, 0, 0⟩

/-- GOV_UPDATES [31:0], RO, rule R346. -/
def GOV_UPDATES : Fld := ⟨0xb0014, 0, 32, 0, 0⟩

/-- GOV_COAST_COUNT [31:0], RO, rule R346. -/
def GOV_COAST_COUNT : Fld := ⟨0xb0018, 0, 32, 0, 0⟩

/-- GOV_LIMITED [31:0], RO, rule R346. -/
def GOV_LIMITED : Fld := ⟨0xb001c, 0, 32, 0, 0⟩

/-- GOV_NO_CURVE [31:0], RO, rule R346. -/
def GOV_NO_CURVE : Fld := ⟨0xb0020, 0, 32, 0, 0⟩

/-- GOV_ERR_SAT [31:0], RO, rule R346. -/
def GOV_ERR_SAT : Fld := ⟨0xb0024, 0, 32, 0, 0⟩

/-- GOV_OUT_DROP [31:0], RO, rule R346. -/
def GOV_OUT_DROP : Fld := ⟨0xb0028, 0, 32, 0, 0⟩

/-- GOV_LATENCY [15:0], RO, rule R346. -/
def GOV_LATENCY_LAST : Fld := ⟨0xb002c, 0, 16, 0, 0⟩

/-- GOV_LATENCY [31:16], RO, rule R346. -/
def GOV_LATENCY_MAX : Fld := ⟨0xb002c, 16, 16, 0, 0⟩

/-- GOV_BAD_INPUT [31:0], RO, rule R346. -/
def GOV_BAD_INPUT : Fld := ⟨0xb0030, 0, 32, 0, 0⟩

/-- GOV_CLKk [4:0], RW, rule R346. -/
def GOV_CLK_KP (k : Nat) : Fld := ⟨0xb0040 + 4 * (k % 256), 0, 5, 30, 0⟩

/-- GOV_CLKk [12:8], RW, rule R346. -/
def GOV_CLK_KI (k : Nat) : Fld := ⟨0xb0040 + 4 * (k % 256), 8, 5, 31, 0⟩

/-- GOV_CLASS_Ak [4:0], RW, rule R346. -/
def GOV_CLASS_A_KP_TRACK (k : Nat) : Fld := ⟨0xb0100 + 8 * (k % 256), 0, 5, 0, 0⟩

/-- GOV_CLASS_Ak [12:8], RW, rule R346. -/
def GOV_CLASS_A_KI_TRACK (k : Nat) : Fld := ⟨0xb0100 + 8 * (k % 256), 8, 5, 0, 0⟩

/-- GOV_CLASS_Ak [20:16], RW, rule R346. -/
def GOV_CLASS_A_KP_DOCK (k : Nat) : Fld := ⟨0xb0100 + 8 * (k % 256), 16, 5, 0, 0⟩

/-- GOV_CLASS_Ak [28:24], RW, rule R346. -/
def GOV_CLASS_A_KI_DOCK (k : Nat) : Fld := ⟨0xb0100 + 8 * (k % 256), 24, 5, 0, 0⟩

/-- GOV_CLASS_Bk [4:0], RW, rule R346. -/
def GOV_CLASS_B_ACC (k : Nat) : Fld := ⟨0xb0104 + 8 * (k % 256), 0, 5, 0, 0⟩

/-- GOV_CLASS_Bk [12:8], RW, rule R346. -/
def GOV_CLASS_B_DEC (k : Nat) : Fld := ⟨0xb0104 + 8 * (k % 256), 8, 5, 0, 0⟩

/-- GOV_CLASS_Bk [20:16], RW, rule R346. -/
def GOV_CLASS_B_APPROACH (k : Nat) : Fld := ⟨0xb0104 + 8 * (k % 256), 16, 5, 0, 0⟩

/-- TRP_STATUS [4:4], RO, rule R369. -/
def TRP_STATUS_IN_A : Fld := ⟨0xc0000, 4, 1, 0, 0⟩

/-- TRP_STATUS [5:5], RO, rule R369. -/
def TRP_STATUS_IN_B : Fld := ⟨0xc0000, 5, 1, 0, 0⟩

/-- TRP_STATUS [6:6], RO, rule R369. -/
def TRP_STATUS_ARM_LEVEL : Fld := ⟨0xc0000, 6, 1, 0, 0⟩

/-- TRP_STATUS [7:7], RO, rule R369. -/
def TRP_STATUS_ARMED : Fld := ⟨0xc0000, 7, 1, 0, 0⟩

/-- TRP_STATUS [8:8], RO, rule R369. -/
def TRP_STATUS_UNAUTH : Fld := ⟨0xc0000, 8, 1, 0, 0⟩

/-- TRP_STATUS [10:10], RO, rule R369. -/
def TRP_STATUS_PROOF_DUE : Fld := ⟨0xc0000, 10, 1, 0, 0⟩

/-- TRP_STATUS [11:11], RO, rule R369. -/
def TRP_STATUS_OUT_COND : Fld := ⟨0xc0000, 11, 1, 0, 0⟩

/-- TRP_STATUS [12:12], RO, rule R369. -/
def TRP_STATUS_RC4M_COND : Fld := ⟨0xc0000, 12, 1, 0, 0⟩

/-- TRP_STATUS [13:13], RO, rule R369. -/
def TRP_STATUS_DISC_COND : Fld := ⟨0xc0000, 13, 1, 0, 0⟩

/-- TRP_FAULT [0:0], W1C, rule R369. -/
def TRP_FAULT_DISCREPANCY : Fld := ⟨0xc0004, 0, 1, 0, 0⟩

/-- TRP_FAULT [1:1], W1C, rule R369. -/
def TRP_FAULT_OUT_FAULT : Fld := ⟨0xc0004, 1, 1, 0, 0⟩

/-- TRP_FAULT [2:2], W1C, rule R369. -/
def TRP_FAULT_RC4M_FAULT : Fld := ⟨0xc0004, 2, 1, 0, 0⟩

/-- TRP_FAULT [3:3], W1C, rule R369. -/
def TRP_FAULT_AUTH_FAIL : Fld := ⟨0xc0004, 3, 1, 0, 0⟩

/-- TRP_FAULT [4:4], W1C, rule R369. -/
def TRP_FAULT_CLEAR_REFUSED : Fld := ⟨0xc0004, 4, 1, 0, 0⟩

/-- TRP_FAULT [5:5], W1C, rule R369. -/
def TRP_FAULT_PROOF_DUE : Fld := ⟨0xc0004, 5, 1, 0, 0⟩

/-- TRP_FAULT [6:6], W1C, rule R369. -/
def TRP_FAULT_CNT_SAT : Fld := ⟨0xc0004, 6, 1, 0, 0⟩

/-- TRP_STOP_CAUSE [0:0], RO, rule R369. -/
def TRP_STOP_CAUSE_IN_A : Fld := ⟨0xc0008, 0, 1, 0, 0⟩

/-- TRP_STOP_CAUSE [1:1], RO, rule R369. -/
def TRP_STOP_CAUSE_IN_B : Fld := ⟨0xc0008, 1, 1, 0, 0⟩

/-- TRP_STOP_CAUSE [2:2], RO, rule R369. -/
def TRP_STOP_CAUSE_DISCREPANCY : Fld := ⟨0xc0008, 2, 1, 0, 0⟩

/-- TRP_STOP_CAUSE [3:3], RO, rule R369. -/
def TRP_STOP_CAUSE_DORMER : Fld := ⟨0xc0008, 3, 1, 0, 0⟩

/-- TRP_STOP_CAUSE [4:4], RO, rule R369. -/
def TRP_STOP_CAUSE_HOST : Fld := ⟨0xc0008, 4, 1, 0, 0⟩

/-- TRP_STOP_CAUSE [5:5], RO, rule R369. -/
def TRP_STOP_CAUSE_LOCKSTEP : Fld := ⟨0xc0008, 5, 1, 0, 0⟩

/-- TRP_STOP_CAUSE [6:6], RO, rule R369. -/
def TRP_STOP_CAUSE_TWIN : Fld := ⟨0xc0008, 6, 1, 0, 0⟩

/-- TRP_STOP_CAUSE [7:7], RO, rule R369. -/
def TRP_STOP_CAUSE_CLOCK : Fld := ⟨0xc0008, 7, 1, 0, 0⟩

/-- TRP_STOP_CAUSE [8:8], RO, rule R369. -/
def TRP_STOP_CAUSE_THERM : Fld := ⟨0xc0008, 8, 1, 0, 0⟩

/-- TRP_STOP_CAUSE [9:9], RO, rule R369. -/
def TRP_STOP_CAUSE_OUT_FAULT : Fld := ⟨0xc0008, 9, 1, 0, 0⟩

/-- TRP_STOP_CAUSE [10:10], RO, rule R369. -/
def TRP_STOP_CAUSE_PERSIST : Fld := ⟨0xc0008, 10, 1, 0, 0⟩

/-- TRP_STOP_CAUSE [11:11], RO, rule R369. -/
def TRP_STOP_CAUSE_DORMANT : Fld := ⟨0xc0008, 11, 1, 0, 0⟩

/-- TRP_STOP_CAUSE [21:16], RO, rule R369. -/
def TRP_STOP_CAUSE_RULE : Fld := ⟨0xc0008, 16, 6, 0, 0⟩

/-- TRP_HOLD_CAUSE [0:0], RO, rule R369. -/
def TRP_HOLD_CAUSE_IDLE : Fld := ⟨0xc000c, 0, 1, 1, 0⟩

/-- TRP_HOLD_CAUSE [1:1], RO, rule R369. -/
def TRP_HOLD_CAUSE_HOST : Fld := ⟨0xc000c, 1, 1, 0, 0⟩

/-- TRP_HOLD_CAUSE [2:2], RO, rule R369. -/
def TRP_HOLD_CAUSE_OVERRUN : Fld := ⟨0xc000c, 2, 1, 0, 0⟩

/-- TRP_HOLD_CAUSE [3:3], RO, rule R369. -/
def TRP_HOLD_CAUSE_AUDIT : Fld := ⟨0xc000c, 3, 1, 0, 0⟩

/-- TRP_HOLD_CAUSE [4:4], RO, rule R369. -/
def TRP_HOLD_CAUSE_TASK_AUDIT : Fld := ⟨0xc000c, 4, 1, 0, 0⟩

/-- TRP_HOLD_CAUSE [5:5], RO, rule R369. -/
def TRP_HOLD_CAUSE_TABLE_ECC : Fld := ⟨0xc000c, 5, 1, 0, 0⟩

/-- TRP_HOLD_CAUSE [6:6], RO, rule R369. -/
def TRP_HOLD_CAUSE_HOST_LOSS : Fld := ⟨0xc000c, 6, 1, 0, 0⟩

/-- TRP_HOLD_CAUSE [7:7], RO, rule R369. -/
def TRP_HOLD_CAUSE_TWIN_MISMATCH : Fld := ⟨0xc000c, 7, 1, 0, 0⟩

/-- TRP_HOLD_CAUSE [8:8], RO, rule R369. -/
def TRP_HOLD_CAUSE_MEM_ECC : Fld := ⟨0xc000c, 8, 1, 0, 0⟩

/-- TRP_HOLD_CAUSE [9:9], RO, rule R369. -/
def TRP_HOLD_CAUSE_DORMER : Fld := ⟨0xc000c, 9, 1, 0, 0⟩

/-- TRP_HOLD_CAUSE [10:10], RO, rule R369. -/
def TRP_HOLD_CAUSE_PFAIL : Fld := ⟨0xc000c, 10, 1, 0, 0⟩

/-- TRP_HOLD_CAUSE [11:11], RO, rule R369. -/
def TRP_HOLD_CAUSE_RECOVER : Fld := ⟨0xc000c, 11, 1, 0, 0⟩

/-- TRP_CFG [7:0], RW, rule R369. -/
def TRP_CFG_DISC_TIME : Fld := ⟨0xc0010, 0, 8, 50, 0⟩

/-- TRP_CFG [15:8], RW, rule R369. -/
def TRP_CFG_BEACON_TIMEOUT : Fld := ⟨0xc0010, 8, 8, 35, 0⟩

/-- TRP_CFG [23:16], RW, rule R369. -/
def TRP_CFG_ARM_WINDOW : Fld := ⟨0xc0010, 16, 8, 30, 0⟩

/-- TRP_CFG [31:24], RW, rule R369. -/
def TRP_CFG_PROOF_DAYS : Fld := ⟨0xc0010, 24, 8, 30, 0⟩

/-- TRP_COMMIT [15:8], RO, rule R369. -/
def TRP_COMMIT_RESULT : Fld := ⟨0xc0014, 8, 8, 0, 0⟩

/-- TRP_STOPS [31:0], RO, rule R369. -/
def TRP_STOPS : Fld := ⟨0xc001c, 0, 32, 0, 0⟩

/-- TRP_HOLDS [31:0], RO, rule R369. -/
def TRP_HOLDS : Fld := ⟨0xc0020, 0, 32, 0, 0⟩

/-- TRP_AUTH_FAIL [31:0], RO, rule R369. -/
def TRP_AUTH_FAIL : Fld := ⟨0xc0024, 0, 32, 0, 0⟩

/-- TRP_CLEAR_REFUSED [31:0], RO, rule R369. -/
def TRP_CLEAR_REFUSED : Fld := ⟨0xc0028, 0, 32, 0, 0⟩

/-- TRP_CMD_SEQ [31:0], RO, rule R369. -/
def TRP_CMD_SEQ : Fld := ⟨0xc002c, 0, 32, 0, 0⟩

/-- TRP_ROBOTn [1:0], RO, rule R369. -/
def TRP_ROBOT_OWN (n : Nat) : Fld := ⟨0xc0400 + 4 * (n % 256), 0, 2, 0, 0⟩

/-- TRP_ROBOTn [4:4], RO, rule R369. -/
def TRP_ROBOT_HOST (n : Nat) : Fld := ⟨0xc0400 + 4 * (n % 256), 4, 1, 0, 0⟩

/-- TRP_ROBOTn [5:5], RO, rule R369. -/
def TRP_ROBOT_INTEGRITY (n : Nat) : Fld := ⟨0xc0400 + 4 * (n % 256), 5, 1, 0, 0⟩

/-- TRP_ROBOTn [6:6], RO, rule R369. -/
def TRP_ROBOT_COAST (n : Nat) : Fld := ⟨0xc0400 + 4 * (n % 256), 6, 1, 0, 0⟩

/-- TRP_ROBOTn [7:7], RO, rule R369. -/
def TRP_ROBOT_ENVELOPE (n : Nat) : Fld := ⟨0xc0400 + 4 * (n % 256), 7, 1, 0, 0⟩

/-- TRP_ROBOTn [8:8], RO, rule R369. -/
def TRP_ROBOT_LOOP_LOST (n : Nat) : Fld := ⟨0xc0400 + 4 * (n % 256), 8, 1, 0, 0⟩

/-- TRP_ROBOTn [9:9], RO, rule R369. -/
def TRP_ROBOT_MAP_LOST (n : Nat) : Fld := ⟨0xc0400 + 4 * (n % 256), 9, 1, 0, 0⟩

/-- DRM_STATUS [0:0], RO, rule R385. -/
def DRM_STATUS_RUNNING : Fld := ⟨0xd0000, 0, 1, 0, 0⟩

/-- DRM_STATUS [1:1], RO, rule R385. -/
def DRM_STATUS_ON_LPRC32 : Fld := ⟨0xd0000, 1, 1, 0, 0⟩

/-- DRM_STATUS [15:8], RO, rule R385. -/
def DRM_STATUS_QUEUED : Fld := ⟨0xd0000, 8, 8, 0, 0⟩

/-- DRM_STATUS [31:16], RO, rule R385. -/
def DRM_STATUS_VALID : Fld := ⟨0xd0000, 16, 16, 0, 0⟩

/-- DRM_FAULT [0:0], W1C, rule R385. -/
def DRM_FAULT_EVENT_LOST : Fld := ⟨0xd0004, 0, 1, 0, 0⟩

/-- DRM_FAULT [1:1], W1C, rule R385. -/
def DRM_FAULT_CNT_SAT : Fld := ⟨0xd0004, 1, 1, 0, 0⟩

/-- DRM_FAULT [2:2], W1C, rule R385. -/
def DRM_FAULT_SLOW_CLOCK : Fld := ⟨0xd0004, 2, 1, 0, 0⟩

/-- DRM_FAULT [3:3], W1C, rule R385. -/
def DRM_FAULT_TRAP : Fld := ⟨0xd0004, 3, 1, 0, 0⟩

/-- DRM_CHAN_COMMIT [15:8], RO, rule R385. -/
def DRM_CHAN_COMMIT_RESULT : Fld := ⟨0xd0008, 8, 8, 0, 0⟩

/-- DRM_RULES_COMMIT [15:8], RO, rule R385. -/
def DRM_RULES_COMMIT_RESULT : Fld := ⟨0xd000c, 8, 8, 0, 0⟩

/-- DRM_AUX_CFG [3:0], RW, rule R385. -/
def DRM_AUX_CFG_IDLE : Fld := ⟨0xd0010, 0, 4, 0, 0⟩

/-- DRM_ACTIVE_LO [31:0], RO, rule R385. -/
def DRM_ACTIVE_LO : Fld := ⟨0xd0014, 0, 32, 0, 0⟩

/-- DRM_ACTIVE_HI [31:0], RO, rule R385. -/
def DRM_ACTIVE_HI : Fld := ⟨0xd0018, 0, 32, 0, 0⟩

/-- DRM_EVENTS [31:0], RO, rule R385. -/
def DRM_EVENTS : Fld := ⟨0xd001c, 0, 32, 0, 0⟩

/-- DRM_EVENT_LOST [31:0], RO, rule R385. -/
def DRM_EVENT_LOST : Fld := ⟨0xd0020, 0, 32, 0, 0⟩

/-- DRM_CHn_CFG [0:0], RW, rule R385. -/
def DRM_CH_CFG_EN (n : Nat) : Fld := ⟨0xd0040 + 4 * (n % 256), 0, 1, 0, 0⟩

/-- DRM_CHn_CFG [4:1], RW, rule R385. -/
def DRM_CH_CFG_P (n : Nat) : Fld := ⟨0xd0040 + 4 * (n % 256), 1, 4, 0, 0⟩

/-- DRM_CHn_CFG [7:5], RW, rule R385. -/
def DRM_CH_CFG_SHIFT (n : Nat) : Fld := ⟨0xd0040 + 4 * (n % 256), 5, 3, 0, 0⟩

/-- DRM_VALn [11:0], RO, rule R385. -/
def DRM_VAL_RAW (n : Nat) : Fld := ⟨0xd0080 + 4 * (n % 256), 0, 12, 0, 0⟩

/-- DRM_VALn [27:16], RO, rule R385. -/
def DRM_VAL_FILT (n : Nat) : Fld := ⟨0xd0080 + 4 * (n % 256), 16, 12, 0, 0⟩

/-- DRM_VALn [28:28], RO, rule R385. -/
def DRM_VAL_VALID (n : Nat) : Fld := ⟨0xd0080 + 4 * (n % 256), 28, 1, 0, 0⟩

/-- DRM_FIREr [31:0], RO, rule R385. -/
def DRM_FIRE (r : Nat) : Fld := ⟨0xd0100 + 4 * (r % 256), 0, 32, 0, 0⟩

/-- LNA_ZYP_RX [31:0], RO, rule R419. -/
def PORT_ZYP_RX (p : Nat) : Fld := ⟨0xe0100 + 65536 * (p % 3), 0, 32, 0, 0⟩

/-- LNA_ZYP_TX [31:0], RO, rule R419. -/
def PORT_ZYP_TX (p : Nat) : Fld := ⟨0xe0104 + 65536 * (p % 3), 0, 32, 0, 0⟩

/-- LNA_DROP [31:0], RO, rule R419. -/
def PORT_DROP (p : Nat) : Fld := ⟨0xe0108 + 65536 * (p % 3), 0, 32, 0, 0⟩

/-- LNA_BAD_FRAME [31:0], RO, rule R419. -/
def PORT_BAD_FRAME (p : Nat) : Fld := ⟨0xe010c + 65536 * (p % 3), 0, 32, 0, 0⟩

/-- LNA_AUTH_FAIL [31:0], RO, rule R419. -/
def PORT_AUTH_FAIL (p : Nat) : Fld := ⟨0xe0110 + 65536 * (p % 3), 0, 32, 0, 0⟩

/-- LNA_DUP [31:0], RO, rule R419. -/
def PORT_DUP (p : Nat) : Fld := ⟨0xe0114 + 65536 * (p % 3), 0, 32, 0, 0⟩

/-- LNA_STALE [31:0], RO, rule R419. -/
def PORT_STALE (p : Nat) : Fld := ⟨0xe0118 + 65536 * (p % 3), 0, 32, 0, 0⟩

/-- LNA_CNT_OVF [0:0], W1C, rule R419. -/
def PORT_CNT_OVF_DROP_SAT (p : Nat) : Fld := ⟨0xe011c + 65536 * (p % 3), 0, 1, 0, 0⟩

/-- LNA_CNT_OVF [1:1], W1C, rule R419. -/
def PORT_CNT_OVF_CNT_SAT (p : Nat) : Fld := ⟨0xe011c + 65536 * (p % 3), 1, 1, 0, 0⟩

/-- SRP_ABORTED [31:0], RO, rule R419. -/
def SRP_ABORTED : Fld := ⟨0x100120, 0, 32, 0, 0⟩

/-- SRP_LATE [31:0], RO, rule R419. -/
def SRP_LATE : Fld := ⟨0x100124, 0, 32, 0, 0⟩

/-- SRP_CFG [4:0], RW, rule R419. -/
def SRP_CFG_SCK_MHZ : Fld := ⟨0x100128, 0, 5, 10, 0⟩

/-- LNA_ZYP_CFG [17:0], RW, rule R420. -/
def LNA_ZYP_CFG_YARD_ID : Fld := ⟨0xe0200, 0, 18, 0, 0⟩

/-- LNA_ZYP_PORT [15:0], RW, rule R420. -/
def LNA_ZYP_PORT_UDP_PORT : Fld := ⟨0xe0204, 0, 16, 19620, 0⟩

/-- LNA_ZYP_PORT [23:16], RW, rule R420. -/
def LNA_ZYP_PORT_EPOCH_AGE : Fld := ⟨0xe0204, 16, 8, 40, 0⟩

/-- LNA_ZYP_COMMIT [15:8], RO, rule R420. -/
def LNA_ZYP_COMMIT_RESULT : Fld := ⟨0xe0208, 8, 8, 0, 0⟩

/-- LNA_ZYP_BOOT [31:0], RO, rule R420. -/
def LNA_ZYP_BOOT : Fld := ⟨0xe020c, 0, 32, 0, 0⟩

/-- LNA_BOOT_CATCHUP [31:0], RO, rule R420. -/
def LNA_BOOT_CATCHUP : Fld := ⟨0xe0210, 0, 32, 0, 0⟩

/-- LNA_IPV4 [31:0], RW, rule R420. -/
def LNA_IPV4 : Fld := ⟨0xe0300, 0, 32, 0, 0⟩

/-- LNA_IPV4_CFG [5:0], RW, rule R420. -/
def LNA_IPV4_CFG_PREFIX : Fld := ⟨0xe0304, 0, 6, 24, 0⟩

/-- LNA_NET_COMMIT [15:8], RO, rule R420. -/
def LNA_NET_COMMIT_RESULT : Fld := ⟨0xe0308, 8, 8, 0, 0⟩

/-- TIM_STATUS [1:0], RO, rule R445. -/
def TIM_STATUS_SET_STATE : Fld := ⟨0x110000, 0, 2, 0, 0⟩

/-- TIM_STATUS [3:2], RO, rule R445. -/
def TIM_STATUS_SOURCE : Fld := ⟨0x110000, 2, 2, 3, 0⟩

/-- TIM_STATUS [6:4], RO, rule R445. -/
def TIM_STATUS_TQ : Fld := ⟨0x110000, 4, 3, 5, 0⟩

/-- TIM_STATUS [7:7], RO, rule R445. -/
def TIM_STATUS_STEERING : Fld := ⟨0x110000, 7, 1, 0, 0⟩

/-- TIM_STATUS [8:8], RO, rule R445. -/
def TIM_STATUS_SLEWING : Fld := ⟨0x110000, 8, 1, 0, 0⟩

/-- TIM_STATUS [9:9], RO, rule R445. -/
def TIM_STATUS_SHADOW : Fld := ⟨0x110000, 9, 1, 0, 0⟩

/-- TIM_STATUS [10:10], RO, rule R445. -/
def TIM_STATUS_REJECTED : Fld := ⟨0x110000, 10, 1, 0, 0⟩

/-- TIM_FAULT [0:0], W1C, rule R445. -/
def TIM_FAULT_SRC_LOST : Fld := ⟨0x110004, 0, 1, 0, 0⟩

/-- TIM_FAULT [1:1], W1C, rule R445. -/
def TIM_FAULT_STEP_REFUSED : Fld := ⟨0x110004, 1, 1, 0, 0⟩

/-- TIM_FAULT [2:2], W1C, rule R445. -/
def TIM_FAULT_SRC_SWITCH : Fld := ⟨0x110004, 2, 1, 0, 0⟩

/-- TIM_FAULT [3:3], W1C, rule R445. -/
def TIM_FAULT_HOLD_DEGRADED : Fld := ⟨0x110004, 3, 1, 0, 0⟩

/-- TIM_FAULT [4:4], W1C, rule R445. -/
def TIM_FAULT_EVT_LOST : Fld := ⟨0x110004, 4, 1, 0, 0⟩

/-- TIM_FAULT [5:5], W1C, rule R445. -/
def TIM_FAULT_PG_LATE : Fld := ⟨0x110004, 5, 1, 0, 0⟩

/-- TIM_FAULT [6:6], W1C, rule R445. -/
def TIM_FAULT_CNT_SAT : Fld := ⟨0x110004, 6, 1, 0, 0⟩

/-- TIM_FAULT [7:7], W1C, rule R445. -/
def TIM_FAULT_STEPPED : Fld := ⟨0x110004, 7, 1, 0, 0⟩

/-- TIM_REF_OFFSET [63:0], RO, rule R445. -/
def TIM_REF_OFFSET : Fld := ⟨0x110018, 0, 64, 0, 0⟩

/-- TIM_EST_ERR [31:0], RO, rule R445. -/
def TIM_EST_ERR : Fld := ⟨0x110020, 0, 32, 4294967295, 0⟩

/-- TIM_FREQ [31:0], RO, rule R445. -/
def TIM_FREQ : Fld := ⟨0x110024, 0, 32, 0, 0⟩

/-- TIM_CFG [1:0], RW, rule R445. -/
def TIM_CFG_SRC_FIRST : Fld := ⟨0x110028, 0, 2, 0, 0⟩

/-- TIM_CFG [3:2], RW, rule R445. -/
def TIM_CFG_SRC_SECOND : Fld := ⟨0x110028, 2, 2, 1, 0⟩

/-- TIM_CFG [4:4], RW, rule R445. -/
def TIM_CFG_POLICY : Fld := ⟨0x110028, 4, 1, 0, 0⟩

/-- TIM_CFG [5:5], RW, rule R445. -/
def TIM_CFG_AUTO_STEP : Fld := ⟨0x110028, 5, 1, 1, 0⟩

/-- TIM_CFG [13:6], RW, rule R445. -/
def TIM_CFG_SLEW_PPM : Fld := ⟨0x110028, 6, 8, 50, 0⟩

/-- TIM_CFG [30:14], RW, rule R445. -/
def TIM_CFG_STEP_THRESH : Fld := ⟨0x110028, 14, 17, 1000, 0⟩

/-- TIM_HOLD_CFG [31:0], RW, rule R445. -/
def TIM_HOLD_CFG : Fld := ⟨0x11002c, 0, 32, 235929700, 0⟩

/-- TIM_TIME_COMMIT [15:8], RO, rule R445. -/
def TIM_TIME_COMMIT_RESULT : Fld := ⟨0x110030, 8, 8, 0, 0⟩

/-- TIM_CTRL [31:0], RW, rule R445. -/
def TIM_CTRL : Fld := ⟨0x110034, 0, 32, 0, 0⟩

/-- TIM_UTC [31:0], RO, rule R445. -/
def TIM_UTC : Fld := ⟨0x110038, 0, 32, 0, 0⟩

/-- TIM_STEPS_REFUSED [31:0], RO, rule R445. -/
def TIM_STEPS_REFUSED : Fld := ⟨0x11003c, 0, 32, 0, 0⟩

/-- TIM_SRC_SWITCHES [31:0], RO, rule R445. -/
def TIM_SRC_SWITCHES : Fld := ⟨0x110040, 0, 32, 0, 0⟩

/-- TIM_EVT_LOST [31:0], RO, rule R445. -/
def TIM_EVT_LOST : Fld := ⟨0x110044, 0, 32, 0, 0⟩

/-- TIM_TC_FRAMES [31:0], RO, rule R445. -/
def TIM_TC_FRAMES : Fld := ⟨0x110048, 0, 32, 0, 0⟩

/-- TIM_STEPS [31:0], RO, rule R445. -/
def TIM_STEPS : Fld := ⟨0x11004c, 0, 32, 0, 0⟩

/-- TIM_PTP_CFG [0:0], RW, rule R445. -/
def TIM_PTP_CFG_PORT_A_EN : Fld := ⟨0x110050, 0, 1, 1, 0⟩

/-- TIM_PTP_CFG [1:1], RW, rule R445. -/
def TIM_PTP_CFG_PORT_B_EN : Fld := ⟨0x110050, 1, 1, 1, 0⟩

/-- TIM_PTP_CFG [3:2], RW, rule R445. -/
def TIM_PTP_CFG_ROLE : Fld := ⟨0x110050, 2, 2, 0, 0⟩

/-- TIM_PTP_CFG [4:4], RW, rule R445. -/
def TIM_PTP_CFG_TRANSPORT : Fld := ⟨0x110050, 4, 1, 0, 0⟩

/-- TIM_PTP_CFG [5:5], RW, rule R445. -/
def TIM_PTP_CFG_PROFILE : Fld := ⟨0x110050, 5, 1, 0, 0⟩

/-- TIM_PTP_CFG [15:8], RW, rule R445. -/
def TIM_PTP_CFG_DOMAIN : Fld := ⟨0x110050, 8, 8, 0, 0⟩

/-- TIM_PTP_CFG [23:16], RW, rule R445. -/
def TIM_PTP_CFG_DOMAIN_ALT : Fld := ⟨0x110050, 16, 8, 1, 0⟩

/-- TIM_PTP_PRIO [7:0], RW, rule R445. -/
def TIM_PTP_PRIO_PRIORITY1 : Fld := ⟨0x110054, 0, 8, 128, 0⟩

/-- TIM_PTP_PRIO [15:8], RW, rule R445. -/
def TIM_PTP_PRIO_PRIORITY2 : Fld := ⟨0x110054, 8, 8, 128, 0⟩

/-- TIM_PTP_INTV [27:0], RW, rule R445. -/
def TIM_PTP_INTV : Fld := ⟨0x110058, 0, 28, 50331904, 0⟩

/-- TIM_PTP_LAT_A [15:0], RW, rule R445. -/
def TIM_PTP_LAT_A_INGRESS : Fld := ⟨0x11005c, 0, 16, 0, 0⟩

/-- TIM_PTP_LAT_A [31:16], RW, rule R445. -/
def TIM_PTP_LAT_A_EGRESS : Fld := ⟨0x11005c, 16, 16, 0, 0⟩

/-- TIM_PTP_COMMIT [15:8], RO, rule R445. -/
def TIM_PTP_COMMIT_RESULT : Fld := ⟨0x110064, 8, 8, 0, 0⟩

/-- TIM_PTP_DROP [31:0], RO, rule R445. -/
def TIM_PTP_DROP : Fld := ⟨0x11006c, 0, 32, 0, 0⟩

/-- TIM_PG_SEL [3:0], RW, rule R445. -/
def TIM_PG_SEL : Fld := ⟨0x110080, 0, 4, 0, 0⟩

/-- TIM_PG_START_SEC [47:0], RW, rule R445. -/
def TIM_PG_START_SEC (g : Nat) : Fld := ⟨0x110088, 0, 48, 0, g⟩

/-- TIM_PG_START_NS [31:0], RW, rule R445. -/
def TIM_PG_START_NS (g : Nat) : Fld := ⟨0x110090, 0, 32, 0, g⟩

/-- TIM_PG_PERIOD [31:0], RW, rule R445. -/
def TIM_PG_PERIOD (g : Nat) : Fld := ⟨0x110094, 0, 32, 0, g⟩

/-- TIM_PG_WIDTH [31:0], RW, rule R445. -/
def TIM_PG_WIDTH (g : Nat) : Fld := ⟨0x110098, 0, 32, 0, g⟩

/-- TIM_PG_CTRL [0:0], RW, rule R445. -/
def TIM_PG_CTRL_EN (g : Nat) : Fld := ⟨0x11009c, 0, 1, 0, g⟩

/-- TIM_PG_CTRL [1:1], RW, rule R445. -/
def TIM_PG_CTRL_DRIVE (g : Nat) : Fld := ⟨0x11009c, 1, 1, 0, g⟩

/-- TIM_PG_CTRL [2:2], RW, rule R445. -/
def TIM_PG_CTRL_POL (g : Nat) : Fld := ⟨0x11009c, 2, 1, 0, g⟩

/-- TIM_PG_CTRL [3:3], RW, rule R445. -/
def TIM_PG_CTRL_EVENT (g : Nat) : Fld := ⟨0x11009c, 3, 1, 0, g⟩

/-- TIM_PG_COMMIT [15:8], RO, rule R445. -/
def TIM_PG_COMMIT_RESULT (g : Nat) : Fld := ⟨0x1100a0, 8, 8, 0, g⟩

/-- TIM_PG_ACTIVE [15:0], RO, rule R445. -/
def TIM_PG_ACTIVE : Fld := ⟨0x1100a4, 0, 16, 0, 0⟩

/-- TIM_CAP_CFG [15:0], RW, rule R445. -/
def TIM_CAP_CFG : Fld := ⟨0x1100a8, 0, 16, 0, 0⟩

/-- TIM_CAPn_SEC_LO [31:0], RO, rule R445. -/
def TIM_CAP_SEC_LO (n : Nat) : Fld := ⟨0x110200 + 16 * (n % 256), 0, 32, 0, 0⟩

/-- TIM_CAPn_SEC_HI [15:0], RO, rule R445. -/
def TIM_CAP_SEC_HI (n : Nat) : Fld := ⟨0x110204 + 16 * (n % 256), 0, 16, 0, 0⟩

/-- TIM_CAPn_NS [29:0], RO, rule R445. -/
def TIM_CAP_NS (n : Nat) : Fld := ⟨0x110208 + 16 * (n % 256), 0, 30, 0, 0⟩

/-- TIM_CAPn_COUNT [31:0], RO, rule R445. -/
def TIM_CAP_COUNT (n : Nat) : Fld := ⟨0x11020c + 16 * (n % 256), 0, 32, 0, 0⟩

/-- FJR_STATUS [1:0], RO, rule R481. -/
def FJR_STATUS_LINK : Fld := ⟨0x120000, 0, 2, 0, 0⟩

/-- FJR_STATUS [2:2], RO, rule R481. -/
def FJR_STATUS_LANE0_OK : Fld := ⟨0x120000, 2, 1, 0, 0⟩

/-- FJR_STATUS [3:3], RO, rule R481. -/
def FJR_STATUS_LANE1_OK : Fld := ⟨0x120000, 3, 1, 0, 0⟩

/-- FJR_STATUS [4:4], RO, rule R481. -/
def FJR_STATUS_PAIRED : Fld := ⟨0x120000, 4, 1, 0, 0⟩

/-- FJR_STATUS [5:5], RO, rule R481. -/
def FJR_STATUS_LIVE_IN : Fld := ⟨0x120000, 5, 1, 0, 0⟩

/-- FJR_STATUS [6:6], RO, rule R481. -/
def FJR_STATUS_CLAIM_IN : Fld := ⟨0x120000, 6, 1, 0, 0⟩

/-- FJR_STATUS [7:7], RO, rule R481. -/
def FJR_STATUS_LIVE_CONT : Fld := ⟨0x120000, 7, 1, 0, 0⟩

/-- FJR_STATUS [8:8], RO, rule R481. -/
def FJR_STATUS_CLAIM_CONT : Fld := ⟨0x120000, 8, 1, 0, 0⟩

/-- FJR_STATUS [15:13], RO, rule R481. -/
def FJR_STATUS_REJOIN_STATE : Fld := ⟨0x120000, 13, 3, 0, 0⟩

/-- FJR_STATUS [20:16], RO, rule R481. -/
def FJR_STATUS_CLEAN : Fld := ⟨0x120000, 16, 5, 0, 0⟩

/-- FJR_FAULT [0:0], W1C, rule R481. -/
def FJR_FAULT_TWIN_LOST : Fld := ⟨0x120004, 0, 1, 0, 0⟩

/-- FJR_FAULT [1:1], W1C, rule R481. -/
def FJR_FAULT_MISMATCH : Fld := ⟨0x120004, 1, 1, 0, 0⟩

/-- FJR_FAULT [2:2], W1C, rule R481. -/
def FJR_FAULT_ACK_LATE : Fld := ⟨0x120004, 2, 1, 0, 0⟩

/-- FJR_FAULT [3:3], W1C, rule R481. -/
def FJR_FAULT_INTERLOCK_OPEN : Fld := ⟨0x120004, 3, 1, 0, 0⟩

/-- FJR_FAULT [4:4], W1C, rule R481. -/
def FJR_FAULT_AMBIGUITY : Fld := ⟨0x120004, 4, 1, 0, 0⟩

/-- FJR_FAULT [5:5], W1C, rule R481. -/
def FJR_FAULT_PAIR_FAIL : Fld := ⟨0x120004, 5, 1, 0, 0⟩

/-- FJR_FAULT [6:6], W1C, rule R481. -/
def FJR_FAULT_TAKEOVER : Fld := ⟨0x120004, 6, 1, 0, 0⟩

/-- FJR_FAULT [7:7], W1C, rule R481. -/
def FJR_FAULT_TAKEOVER_BLOCKED : Fld := ⟨0x120004, 7, 1, 0, 0⟩

/-- FJR_FAULT [8:8], W1C, rule R481. -/
def FJR_FAULT_REJOIN_FAILED : Fld := ⟨0x120004, 8, 1, 0, 0⟩

/-- FJR_FAULT [9:9], W1C, rule R481. -/
def FJR_FAULT_LANE_DEGRADED : Fld := ⟨0x120004, 9, 1, 0, 0⟩

/-- FJR_FAULT [10:10], W1C, rule R481. -/
def FJR_FAULT_BAD_FRAME : Fld := ⟨0x120004, 10, 1, 0, 0⟩

/-- FJR_FAULT [11:11], W1C, rule R481. -/
def FJR_FAULT_CNT_SAT : Fld := ⟨0x120004, 11, 1, 0, 0⟩

/-- FJR_CFG [0:0], RW, rule R481. -/
def FJR_CFG_TWIN_EN : Fld := ⟨0x120008, 0, 1, 0, 0⟩

/-- FJR_CFG [11:2], RW, rule R481. -/
def FJR_CFG_LINK_TIMEOUT : Fld := ⟨0x120008, 2, 10, 500, 0⟩

/-- FJR_CFG [26:16], RW, rule R481. -/
def FJR_CFG_JOURNAL_MAX : Fld := ⟨0x120008, 16, 11, 400, 0⟩

/-- FJR_TIME_ASYM [15:0], RW, rule R481. -/
def FJR_TIME_ASYM : Fld := ⟨0x12000c, 0, 16, 0, 0⟩

/-- FJR_COMMIT [15:8], RO, rule R481. -/
def FJR_COMMIT_RESULT : Fld := ⟨0x120010, 8, 8, 0, 0⟩

/-- FJR_CTRL [0:0], W1S, rule R481. -/
def FJR_CTRL_REJOIN_RETRY : Fld := ⟨0x120014, 0, 1, 0, 0⟩

/-- FJR_CTRL [15:8], RO, rule R481. -/
def FJR_CTRL_RESULT : Fld := ⟨0x120014, 8, 8, 0, 0⟩

/-- FJR_PEER [3:0], RO, rule R481. -/
def FJR_PEER_MODE : Fld := ⟨0x120018, 0, 4, 0, 0⟩

/-- FJR_PEER [5:4], RO, rule R481. -/
def FJR_PEER_FLEET : Fld := ⟨0x120018, 4, 2, 0, 0⟩

/-- FJR_PEER [6:6], RO, rule R481. -/
def FJR_PEER_SEAT : Fld := ⟨0x120018, 6, 1, 0, 0⟩

/-- FJR_PEER [7:7], RO, rule R481. -/
def FJR_PEER_LOCKSTEP : Fld := ⟨0x120018, 7, 1, 0, 0⟩

/-- FJR_PEER [11:8], RO, rule R481. -/
def FJR_PEER_PAIR_REASON : Fld := ⟨0x120018, 8, 4, 0, 0⟩

/-- FJR_LAST_EPOCH [31:0], RO, rule R481. -/
def FJR_LAST_EPOCH : Fld := ⟨0x12001c, 0, 32, 0, 0⟩

/-- FJR_MISMATCH_EPOCH [31:0], RO, rule R481. -/
def FJR_MISMATCH_EPOCH : Fld := ⟨0x120020, 0, 32, 0, 0⟩

/-- FJR_MISMATCH_INFO [7:0], RO, rule R481. -/
def FJR_MISMATCH_INFO_CLASS_DIFF : Fld := ⟨0x120024, 0, 8, 0, 0⟩

/-- FJR_MISMATCH_INFO [8:8], RO, rule R481. -/
def FJR_MISMATCH_INFO_OWN_LOCKSTEP : Fld := ⟨0x120024, 8, 1, 0, 0⟩

/-- FJR_MISMATCH_INFO [9:9], RO, rule R481. -/
def FJR_MISMATCH_INFO_PEER_LOCKSTEP : Fld := ⟨0x120024, 9, 1, 0, 0⟩

/-- FJR_MIRROR_LAT [15:0], RO, rule R481. -/
def FJR_MIRROR_LAT_LAST : Fld := ⟨0x120028, 0, 16, 0, 0⟩

/-- FJR_MIRROR_LAT [31:16], RO, rule R481. -/
def FJR_MIRROR_LAT_MAX : Fld := ⟨0x120028, 16, 16, 0, 0⟩

/-- FJR_ACK_LATE [31:0], RO, rule R481. -/
def FJR_ACK_LATE : Fld := ⟨0x120030, 0, 32, 0, 0⟩

/-- FJR_MISMATCHES [31:0], RO, rule R481. -/
def FJR_MISMATCHES : Fld := ⟨0x120034, 0, 32, 0, 0⟩

/-- FJR_TAKEOVERS [31:0], RO, rule R481. -/
def FJR_TAKEOVERS : Fld := ⟨0x120038, 0, 32, 0, 0⟩

/-- FJR_LINK_LOSSES [31:0], RO, rule R481. -/
def FJR_LINK_LOSSES : Fld := ⟨0x12003c, 0, 32, 0, 0⟩

/-- FJR_RETX [31:0], RO, rule R481. -/
def FJR_RETX : Fld := ⟨0x120040, 0, 32, 0, 0⟩

/-- FJR_BAD_FRAME [31:0], RO, rule R481. -/
def FJR_BAD_FRAME : Fld := ⟨0x120044, 0, 32, 0, 0⟩

/-- FJR_FETCHES [31:0], RO, rule R481. -/
def FJR_FETCHES : Fld := ⟨0x120048, 0, 32, 0, 0⟩

/-- FJR_UNLISTED [31:0], RO, rule R481. -/
def FJR_UNLISTED : Fld := ⟨0x12004c, 0, 32, 0, 0⟩

/-- FJR_REJOINS [31:0], RO, rule R481. -/
def FJR_REJOINS : Fld := ⟨0x120050, 0, 32, 0, 0⟩

/-- VLT_STATUS [0:0], RO, rule R503. -/
def VLT_STATUS_READY : Fld := ⟨0x130000, 0, 1, 0, 0⟩

/-- VLT_STATUS [1:1], RO, rule R503. -/
def VLT_STATUS_SELFTEST_FAIL : Fld := ⟨0x130000, 1, 1, 0, 0⟩

/-- VLT_FAULT [0:0], W1C, rule R503. -/
def VLT_FAULT_SELFTEST : Fld := ⟨0x130004, 0, 1, 0, 0⟩

/-- VLT_FAULT [1:1], W1C, rule R503. -/
def VLT_FAULT_AUTH_FAIL : Fld := ⟨0x130004, 1, 1, 0, 0⟩

/-- VLT_FAULT [2:2], W1C, rule R503. -/
def VLT_FAULT_REVOKED_OP : Fld := ⟨0x130004, 2, 1, 0, 0⟩

/-- VLT_FAULT [3:3], W1C, rule R503. -/
def VLT_FAULT_PERSIST_TORN : Fld := ⟨0x130004, 3, 1, 0, 0⟩

/-- VLT_FAULT [4:4], W1C, rule R503. -/
def VLT_FAULT_EXHAUSTED : Fld := ⟨0x130004, 4, 1, 0, 0⟩

/-- VLT_FAULT [5:5], W1C, rule R503. -/
def VLT_FAULT_CNT_SAT : Fld := ⟨0x130004, 5, 1, 0, 0⟩

/-- VLT_LIFECYCLE [2:0], RO, rule R503. -/
def VLT_LIFECYCLE_STATE : Fld := ⟨0x130008, 0, 3, 0, 0⟩

/-- VLT_LIFECYCLE [13:8], RO, rule R503. -/
def VLT_LIFECYCLE_LC_GEN : Fld := ⟨0x130008, 8, 6, 0, 0⟩

/-- VLT_LIFECYCLE [14:14], RO, rule R503. -/
def VLT_LIFECYCLE_TRANSITION : Fld := ⟨0x130008, 14, 1, 0, 0⟩

/-- VLT_CHALLENGE_LO [31:0], RO, rule R503. -/
def VLT_CHALLENGE_LO : Fld := ⟨0x13000c, 0, 32, 0, 0⟩

/-- VLT_CHALLENGE_HI [31:0], RO, rule R503. -/
def VLT_CHALLENGE_HI : Fld := ⟨0x130010, 0, 32, 0, 0⟩

/-- VLT_SLOT_SEL [5:0], RW, rule R503. -/
def VLT_SLOT_SEL : Fld := ⟨0x130014, 0, 6, 0, 0⟩

/-- VLT_OPS [31:0], RO, rule R503. -/
def VLT_OPS : Fld := ⟨0x13002c, 0, 32, 0, 0⟩

/-- VLT_AUTH_FAIL [31:0], RO, rule R503. -/
def VLT_AUTH_FAIL : Fld := ⟨0x130030, 0, 32, 0, 0⟩

/-- VLT_REVOKED_OPS [31:0], RO, rule R503. -/
def VLT_REVOKED_OPS : Fld := ⟨0x130034, 0, 32, 0, 0⟩

/-- UPD_STATUS [2:0], RO, rule R523. -/
def UPD_STATUS_LOFT_STATE : Fld := ⟨0x140000, 0, 3, 0, 0⟩

/-- UPD_STATUS [3:3], RO, rule R523. -/
def UPD_STATUS_SESSION_OPEN : Fld := ⟨0x140000, 3, 1, 0, 0⟩

/-- UPD_STATUS [4:4], RO, rule R523. -/
def UPD_STATUS_LOCKED : Fld := ⟨0x140000, 4, 1, 0, 0⟩

/-- UPD_STATUS [5:5], RO, rule R523. -/
def UPD_STATUS_TRIAL : Fld := ⟨0x140000, 5, 1, 0, 0⟩

/-- UPD_STATUS [6:6], RO, rule R523. -/
def UPD_STATUS_FALLBACK : Fld := ⟨0x140000, 6, 1, 0, 0⟩

/-- UPD_STATUS [9:7], RO, rule R523. -/
def UPD_STATUS_DEFER_REASON : Fld := ⟨0x140000, 7, 3, 0, 0⟩

/-- UPD_STATUS [10:10], RO, rule R523. -/
def UPD_STATUS_STORE_REGION : Fld := ⟨0x140000, 10, 1, 0, 0⟩

/-- UPD_STATUS [11:11], RO, rule R523. -/
def UPD_STATUS_CUR_AREA : Fld := ⟨0x140000, 11, 1, 0, 0⟩

/-- UPD_STATUS [13:12], RO, rule R523. -/
def UPD_STATUS_SOURCE : Fld := ⟨0x140000, 12, 2, 0, 0⟩

/-- UPD_FAULT [0:0], W1C, rule R523. -/
def UPD_FAULT_CONFLICT : Fld := ⟨0x140004, 0, 1, 0, 0⟩

/-- UPD_FAULT [1:1], W1C, rule R523. -/
def UPD_FAULT_CHUNK_BAD : Fld := ⟨0x140004, 1, 1, 0, 0⟩

/-- UPD_FAULT [2:2], W1C, rule R523. -/
def UPD_FAULT_FALLBACK : Fld := ⟨0x140004, 2, 1, 0, 0⟩

/-- UPD_FAULT [3:3], W1C, rule R523. -/
def UPD_FAULT_DEFER_EXPIRED : Fld := ⟨0x140004, 3, 1, 0, 0⟩

/-- UPD_FAULT [4:4], W1C, rule R523. -/
def UPD_FAULT_MIGRATE_FAIL : Fld := ⟨0x140004, 4, 1, 0, 0⟩

/-- UPD_FAULT [5:5], W1C, rule R523. -/
def UPD_FAULT_SETTINGS_TORN : Fld := ⟨0x140004, 5, 1, 0, 0⟩

/-- UPD_FAULT [6:6], W1C, rule R523. -/
def UPD_FAULT_CNT_SAT : Fld := ⟨0x140004, 6, 1, 0, 0⟩

/-- UPD_FAULT [7:7], W1C, rule R523. -/
def UPD_FAULT_STORE_BAD : Fld := ⟨0x140004, 7, 1, 0, 0⟩

/-- UPD_CFG [15:0], RW, rule R523. -/
def UPD_CFG_DEFER_MAX : Fld := ⟨0x140008, 0, 16, 3600, 0⟩

/-- UPD_CFG [21:16], RW, rule R523. -/
def UPD_CFG_BATT_RULE : Fld := ⟨0x140008, 16, 6, 0, 0⟩

/-- UPD_CFG [22:22], RW, rule R523. -/
def UPD_CFG_BATT_EN : Fld := ⟨0x140008, 22, 1, 0, 0⟩

/-- UPD_CFG [23:23], RW, rule R523. -/
def UPD_CFG_CONFIRM_HOST : Fld := ⟨0x140008, 23, 1, 0, 0⟩

/-- UPD_CFG [25:24], RW, rule R523. -/
def UPD_CFG_TRIAL_BOOTS : Fld := ⟨0x140008, 24, 2, 2, 0⟩

/-- UPD_CFG [31:26], RW, rule R523. -/
def UPD_CFG_SESSION_IDLE : Fld := ⟨0x140008, 26, 6, 24, 0⟩

/-- UPD_NET [15:0], RW, rule R523. -/
def UPD_NET_PORT : Fld := ⟨0x14000c, 0, 16, 19621, 0⟩

/-- UPD_NET [16:16], RW, rule R523. -/
def UPD_NET_FED_EN : Fld := ⟨0x14000c, 16, 1, 1, 0⟩

/-- UPD_COMMIT [15:8], RO, rule R523. -/
def UPD_COMMIT_RESULT : Fld := ⟨0x140010, 8, 8, 0, 0⟩

/-- UPD_CTRL [0:0], W1S, rule R523. -/
def UPD_CTRL_LOCK : Fld := ⟨0x140014, 0, 1, 0, 0⟩

/-- UPD_CTRL [1:1], W1S, rule R523. -/
def UPD_CTRL_UNLOCK : Fld := ⟨0x140014, 1, 1, 0, 0⟩

/-- UPD_CTRL [2:2], W1S, rule R523. -/
def UPD_CTRL_CANCEL : Fld := ⟨0x140014, 2, 1, 0, 0⟩

/-- UPD_CTRL [3:3], W1S, rule R523. -/
def UPD_CTRL_HOST_OK : Fld := ⟨0x140014, 3, 1, 0, 0⟩

/-- UPD_CTRL [4:4], W1S, rule R523. -/
def UPD_CTRL_CLEAR : Fld := ⟨0x140014, 4, 1, 0, 0⟩

/-- UPD_CTRL [15:8], RO, rule R523. -/
def UPD_CTRL_RESULT : Fld := ⟨0x140014, 8, 8, 0, 0⟩

/-- UPD_STORE_VER [31:0], RO, rule R523. -/
def UPD_STORE_VER : Fld := ⟨0x140018, 0, 32, 0, 0⟩

/-- UPD_LOFT_VER [31:0], RO, rule R523. -/
def UPD_LOFT_VER : Fld := ⟨0x14001c, 0, 32, 0, 0⟩

/-- UPD_SESSION [31:0], RO, rule R523. -/
def UPD_SESSION : Fld := ⟨0x140020, 0, 32, 0, 0⟩

/-- UPD_CHUNKS_TOTAL [31:0], RO, rule R523. -/
def UPD_CHUNKS_TOTAL : Fld := ⟨0x140024, 0, 32, 0, 0⟩

/-- UPD_CHUNKS_PRESENT [31:0], RO, rule R523. -/
def UPD_CHUNKS_PRESENT : Fld := ⟨0x140028, 0, 32, 0, 0⟩

/-- UPD_CHUNKS_VERIFIED [31:0], RO, rule R523. -/
def UPD_CHUNKS_VERIFIED : Fld := ⟨0x14002c, 0, 32, 0, 0⟩

/-- UPD_ACT_SEC [47:0], RO, rule R523. -/
def UPD_ACT_SEC : Fld := ⟨0x140030, 0, 48, 0, 0⟩

/-- UPD_CHUNK_DUP [31:0], RO, rule R523. -/
def UPD_CHUNK_DUP : Fld := ⟨0x14003c, 0, 32, 0, 0⟩

/-- UPD_CHUNK_BAD [31:0], RO, rule R523. -/
def UPD_CHUNK_BAD : Fld := ⟨0x140040, 0, 32, 0, 0⟩

/-- UPD_CHUNK_DISCARD [31:0], RO, rule R523. -/
def UPD_CHUNK_DISCARD : Fld := ⟨0x140044, 0, 32, 0, 0⟩

/-- UPD_HDR_REFUSED [31:0], RO, rule R523. -/
def UPD_HDR_REFUSED : Fld := ⟨0x140048, 0, 32, 0, 0⟩

/-- UPD_FALLBACKS [31:0], RO, rule R523. -/
def UPD_FALLBACKS : Fld := ⟨0x14004c, 0, 32, 0, 0⟩

/-- TLY_STATUS [0:0], RO, rule R544. -/
def TLY_STATUS_RESTORED : Fld := ⟨0x150000, 0, 1, 0, 0⟩

/-- TLY_STATUS [1:1], RO, rule R544. -/
def TLY_STATUS_FLUSHING : Fld := ⟨0x150000, 1, 1, 0, 0⟩

/-- TLY_STATUS [2:2], RO, rule R544. -/
def TLY_STATUS_SNAPSHOT : Fld := ⟨0x150000, 2, 1, 0, 0⟩

/-- TLY_STATUS [3:3], RO, rule R544. -/
def TLY_STATUS_DEGRADED : Fld := ⟨0x150000, 3, 1, 0, 0⟩

/-- TLY_STATUS [4:4], RO, rule R544. -/
def TLY_STATUS_UNCERTAIN : Fld := ⟨0x150000, 4, 1, 0, 0⟩

/-- TLY_STATUS [5:5], RO, rule R544. -/
def TLY_STATUS_TIME_UNKNOWN : Fld := ⟨0x150000, 5, 1, 0, 0⟩

/-- TLY_STATUS [6:6], RO, rule R544. -/
def TLY_STATUS_BANK : Fld := ⟨0x150000, 6, 1, 0, 0⟩

/-- TLY_STATUS [28:16], RO, rule R544. -/
def TLY_STATUS_SHADOW : Fld := ⟨0x150000, 16, 13, 0, 0⟩

/-- TLY_FAULT [0:0], W1C, rule R544. -/
def TLY_FAULT_MEM_FAIL : Fld := ⟨0x150004, 0, 1, 0, 0⟩

/-- TLY_FAULT [1:1], W1C, rule R544. -/
def TLY_FAULT_SHADOW_FULL : Fld := ⟨0x150004, 1, 1, 0, 0⟩

/-- TLY_FAULT [2:2], W1C, rule R544. -/
def TLY_FAULT_LOST : Fld := ⟨0x150004, 2, 1, 0, 0⟩

/-- TLY_FAULT [3:3], W1C, rule R544. -/
def TLY_FAULT_TORN : Fld := ⟨0x150004, 3, 1, 0, 0⟩

/-- TLY_FAULT [4:4], W1C, rule R544. -/
def TLY_FAULT_ECC : Fld := ⟨0x150004, 4, 1, 0, 0⟩

/-- TLY_FAULT [5:5], W1C, rule R544. -/
def TLY_FAULT_CNT_SAT : Fld := ⟨0x150004, 5, 1, 0, 0⟩

/-- TLY_FAULT [6:6], W1C, rule R544. -/
def TLY_FAULT_HOST_WRITE : Fld := ⟨0x150004, 6, 1, 0, 0⟩

/-- TLY_CFG [7:0], RW, rule R544. -/
def TLY_CFG_FLUSH_PERIOD : Fld := ⟨0x150008, 0, 8, 15, 0⟩

/-- TLY_COMMIT [15:8], RO, rule R544. -/
def TLY_COMMIT_RESULT : Fld := ⟨0x15000c, 8, 8, 0, 0⟩

/-- TLY_CTRL [0:0], W1S, rule R544. -/
def TLY_CTRL_FLUSH : Fld := ⟨0x150010, 0, 1, 0, 0⟩

/-- TLY_CTRL [1:1], W1S, rule R544. -/
def TLY_CTRL_RETEST : Fld := ⟨0x150010, 1, 1, 0, 0⟩

/-- TLY_CTRL [15:8], RO, rule R544. -/
def TLY_CTRL_RESULT : Fld := ⟨0x150010, 8, 8, 0, 0⟩

/-- TLY_SEQ [31:0], RO, rule R544. -/
def TLY_SEQ : Fld := ⟨0x150014, 0, 32, 0, 0⟩

/-- TLY_FLUSH_SEQ [31:0], RO, rule R544. -/
def TLY_FLUSH_SEQ : Fld := ⟨0x150018, 0, 32, 0, 0⟩

/-- TLY_FLUSHES [31:0], RO, rule R544. -/
def TLY_FLUSHES : Fld := ⟨0x15001c, 0, 32, 0, 0⟩

/-- TLY_MONO [47:0], RO, rule R544. -/
def TLY_MONO : Fld := ⟨0x150028, 0, 48, 0, 0⟩

/-- TLY_LOSTk [31:0], RO, rule R544. -/
def TLY_LOST (k : Nat) : Fld := ⟨0x150040 + 4 * (k % 256), 0, 32, 0, 0⟩

/-- MEM_ECC_CORR [31:0], RO, rule R547. -/
def MEM_ECC_CORR : Fld := ⟨0x160000, 0, 32, 0, 0⟩

/-- MEM_ECC_UNCORR [31:0], RO, rule R547. -/
def MEM_ECC_UNCORR : Fld := ⟨0x160004, 0, 32, 0, 0⟩

/-- MEM_LAST_UNCORR [33:0], RO, rule R547. -/
def MEM_LAST_UNCORR : Fld := ⟨0x160008, 0, 34, 0, 0⟩

/-- GLB_ID [15:0], RO, rule R552. -/
def GLB_ID_PART : Fld := ⟨0x0, 0, 16, 38432, 0⟩

/-- GLB_ID [23:16], RO, rule R552. -/
def GLB_ID_STEPPING : Fld := ⟨0x0, 16, 8, 177, 0⟩

/-- GLB_FW_VER [31:0], RO, rule R552. -/
def GLB_FW_VER : Fld := ⟨0x4, 0, 32, 0, 0⟩

/-- GLB_FAULT [0:0], W1C, rule R552. -/
def GLB_FAULT_LOCKSTEP : Fld := ⟨0x10, 0, 1, 0, 0⟩

/-- GLB_FAULT [1:1], W1C, rule R552. -/
def GLB_FAULT_THERM_WARN : Fld := ⟨0x10, 1, 1, 0, 0⟩

/-- GLB_FAULT [2:2], W1C, rule R552. -/
def GLB_FAULT_OVERRUN : Fld := ⟨0x10, 2, 1, 0, 0⟩

/-- GLB_FAULT [3:3], W1C, rule R552. -/
def GLB_FAULT_COMMIT_BUSY : Fld := ⟨0x10, 3, 1, 0, 0⟩

/-- GLB_FAULT [4:4], W1C, rule R552. -/
def GLB_FAULT_CNT_SAT : Fld := ⟨0x10, 4, 1, 0, 0⟩

/-- GLB_EPOCH [31:0], RO, rule R552. -/
def GLB_EPOCH : Fld := ⟨0x14, 0, 32, 0, 0⟩

/-- GLB_OVERRUN [31:0], RO, rule R552. -/
def GLB_OVERRUN : Fld := ⟨0x18, 0, 32, 0, 0⟩

/-- GLB_EVENT_LOST [31:0], RO, rule R552. -/
def GLB_EVENT_LOST : Fld := ⟨0x1c, 0, 32, 0, 0⟩

/-- GLB_CFG [1:0], RW, rule R552. -/
def GLB_CFG_EPOCH_LEN : Fld := ⟨0x20, 0, 2, 1, 0⟩

/-- GLB_CFG [25:8], RW, rule R552. -/
def GLB_CFG_FED_ID : Fld := ⟨0x20, 8, 18, 0, 0⟩

/-- GLB_EVENT_RING [6:0], RW, rule R552. -/
def GLB_EVENT_RING_RING : Fld := ⟨0x24, 0, 7, 0, 0⟩

/-- GLB_EVENT_RING [31:31], RW, rule R552. -/
def GLB_EVENT_RING_EN : Fld := ⟨0x24, 31, 1, 0, 0⟩

/-- GLB_COMMIT [15:8], RO, rule R552. -/
def GLB_COMMIT_RESULT : Fld := ⟨0x28, 8, 8, 0, 0⟩

/-- TRP_DEMAND [15:0], RO, rule R369. -/
def TRP_DEMAND_DAYS : Fld := ⟨0xc0018, 0, 16, 0, 0⟩

/-- TRP_DEMAND [31:16], RO, rule R369. -/
def TRP_DEMAND_COUNT : Fld := ⟨0xc0018, 16, 16, 0, 0⟩

/-- TIM_PTP_STATE [3:0], RO, rule R445. -/
def TIM_PTP_STATE_A : Fld := ⟨0x110068, 0, 4, 1, 0⟩

/-- TIM_PTP_STATE [7:4], RO, rule R445. -/
def TIM_PTP_STATE_B : Fld := ⟨0x110068, 4, 4, 1, 0⟩

/-- TIM_PTP_STATE [8:8], RO, rule R445. -/
def TIM_PTP_STATE_ALT_ACTIVE : Fld := ⟨0x110068, 8, 1, 0, 0⟩

/-- TIM_PTP_LAT_B [15:0], RW, rule R445. -/
def TIM_PTP_LAT_B_INGRESS : Fld := ⟨0x110060, 0, 16, 0, 0⟩

/-- TIM_PTP_LAT_B [31:16], RW, rule R445. -/
def TIM_PTP_LAT_B_EGRESS : Fld := ⟨0x110060, 16, 16, 0, 0⟩

/-- TIM_CAPn_NS [31:31], RO, rule R445. -/
def TIM_CAP_RISING (n : Nat) : Fld := ⟨0x110208 + 16 * (n % 256), 31, 1, 0, 0⟩

/-- TLY_LAST_FLUSH [7:0], RO, rule R544. -/
def TLY_LAST_FLUSH_CAUSE : Fld := ⟨0x150020, 0, 8, 0, 0⟩

/-- TLY_LAST_FLUSH [15:8], RO, rule R544. -/
def TLY_LAST_FLUSH_STATUS : Fld := ⟨0x150020, 8, 8, 0, 0⟩

/-- TLY_LAST_FLUSH [31:16], RO, rule R544. -/
def TLY_LAST_FLUSH_DURATION : Fld := ⟨0x150020, 16, 16, 0, 0⟩

/-- TRK_CTRL [15:8], RO, rule R319. -/
def TRK_CTRL_RESULT : Fld := ⟨0xa0014, 8, 8, 0, 0⟩

/-- LNB_IPV4 [31:0], RW, rule R420. -/
def LNB_IPV4 : Fld := ⟨0xf0300, 0, 32, 0, 0⟩

/-- LNB_IPV4_CFG [5:0], RW, rule R420. -/
def LNB_IPV4_CFG_PREFIX : Fld := ⟨0xf0304, 0, 6, 24, 0⟩

/-- LNB_NET_COMMIT [15:8], RO, rule R420. -/
def LNB_NET_COMMIT_RESULT : Fld := ⟨0xf0308, 8, 8, 0, 0⟩

/-- MSI-X table entry v [31:0], RW, rule R114. -/
def MSIX_ADDR_LO (v : Nat) : Fld := ⟨0x28000 + 16 * (v % 256), 0, 32, 0, 0⟩

/-- MSI-X table entry v [31:0], RW, rule R114. -/
def MSIX_ADDR_HI (v : Nat) : Fld := ⟨0x28004 + 16 * (v % 256), 0, 32, 0, 0⟩

/-- MSI-X table entry v [31:0], RW, rule R114. -/
def MSIX_DATA (v : Nat) : Fld := ⟨0x28008 + 16 * (v % 256), 0, 32, 0, 0⟩

/-- MSI-X vector control v [0:0], RW, rule R114. -/
def MSIX_MASK (v : Nat) : Fld := ⟨0x2800c + 16 * (v % 256), 0, 1, 1, 0⟩

/-- MSI-X pending-bit array [v % 64:v % 64], RO, rule R114. -/
def MSIX_PENDING (v : Nat) : Fld := ⟨0x29000, v % 64, 1, 0, 0⟩

end Reg

end Sys2Proof.Machine
end

