-- ==== Sys2Proof/Machine/State.lean ====
section
/-! DEFINITION. The state of the ZY9620 as plain data, block by block, and the state right after reset release.
Registers live in `State.fld` (live values) and `State.shd` (shadows of commit groups), one entry per field that
differs from its reset value; the structures below hold what the spec gives a block beside its registers. -/

namespace Sys2Proof.Machine

/-- The twelve modes (rule R58). -/
inductive Mode where
  | cellar | dormerWatch | boot | pantry | survey | hostedIdle | fleetRun | fleetHold | twinStandby | rejoin | update
  | faultSafe
  deriving DecidableEq, Repr

/-- Fleet, own and effective states of the Trapdoor (rule R347). -/
inductive Level where
  | go | hold | stop
  deriving DecidableEq, Repr

/-- How DORMER_WATCH was entered (rules R35, R67, R71, R74). -/
inductive WatchEntry where
  | none | pfail | thermCut | railTimeout | commanded
  deriving DecidableEq, Repr

/-- A commanded power-down in progress (rule R71): its target and the steps taken. -/
structure Pdown where
  target       : Mode
  descAborted  : Bool
  drained      : Bool
  outputsOff   : Bool
  railCut      : Bool
  deriving DecidableEq, Repr

/-- Power, clock and mode state beside the registers (chapters 2 and 3). -/
structure Power where
  railEnAon    : Bool
  railEnMain   : Bool
  railAttempts : Nat
  mainPowered  : Bool            -- the main domain runs (between reset release and loss of the rails)
  porDone      : Bool            -- internal power-on reset released, reset release still to come
  bypassNext   : Bool            -- BYPASS stored for the next VBAT power-on (rule R56)
  pfailLatched : Bool            -- PFAIL handling in progress (rule R40)
  sysResetHeld : Bool            -- system reset latched (rule R557)
  entry        : WatchEntry
  pdown        : Option Pdown
  wakeLatched  : Nat             -- wake sources latched, coded as CLK_WAKE_CAUSE (rule R65)
  nextCause    : Nat             -- bits of CLK_RESET_CAUSE for the next reset release
  relCause     : Nat             -- bits of CLK_RESET_CAUSE that the latest reset release set (rule R97)
  warnCond     : Bool            -- thermal warning condition (rule R54)
  aonCool      : Bool            -- the AON sensor has read below 95 °C for 60 s (rule R67)
  core         : Bool            -- the mode is FAULT_SAFE by a device fault (rule R361)
  timerOn      : Bool            -- the wake timer counts (rule R79)
  lanOpen      : Bool            -- LAN frames are admitted (rules R68, R71, R73)
  aonFresh     : Bool            -- the Dormer has powered on since the last reset release (rule R384)
  uart         : List Nat        -- reports on the debug UART: a fault by its bit of CLK_FAULT (rule R45), a lifecycle state plus 64 (rule R498), 72 for no image (rule R517)
  deriving DecidableEq, Repr

/-- A block event waiting for its event ring (rules R108, R552). -/
structure BlockEvent where
  source : Nat
  code   : Nat
  data   : Nat
  time   : YTime
  deriving DecidableEq, Repr

/-- A completion entry (rule R107). -/
structure CplEntry where
  tag      : Nat
  status   : Nat
  subRing  : Nat
  subIndex : Nat
  doneLen  : Nat
  result   : Nat
  deriving DecidableEq, Repr

/-- An event record (rule R108). -/
structure EventRec where
  code     : Nat
  source   : Nat
  severity : Nat
  seq      : Nat
  data     : Nat
  time     : YTime
  deriving DecidableEq, Repr

/-- What a ring memory slot holds: a completion entry or an event record. -/
inductive RingEntry where
  | cpl (e : CplEntry)
  | evt (e : EventRec)
  deriving DecidableEq, Repr

/-- State of a ring (HRE_RING_STATUS). -/
inductive RingState where
  | off | running | draining | halted
  deriving DecidableEq, Repr

/-- Whether a descriptor's completion entry has been written, and at which index of its completion ring. -/
inductive Written where
  | no | noEntry | at (i : Nat)
  deriving DecidableEq, Repr

/-- A result: status, bytes moved, RESULT. -/
structure HostResult where
  status  : Nat
  doneLen : Nat
  result  : Nat
  deriving DecidableEq, Repr

/-- A fetched descriptor whose credit has not returned (rule R110). -/
structure SubDesc where
  index   : Nat
  desc    : Desc
  epoch   : Nat                -- the epoch of its fetch (rules R14, R106)
  started : Bool
  done    : Option HostResult
  written : Written
  deriving DecidableEq, Repr

/-- A fetched descriptor whose session has ended, and which still runs to completion (rule R117). -/
structure OldDesc where
  session : Nat
  ring    : Nat
  desc    : SubDesc
  deriving DecidableEq, Repr

/-- The shadow block as the device last wrote it (rules R98, R99, R101): the shadow words, PENDING with bit n for ring n, and the header. -/
structure ShadowBlk where
  words    : AMap Nat
  pend     : Nat
  devAlive : Nat
  epoch    : Nat
  state    : Nat
  time     : YTime
  deriving DecidableEq, Repr

/-- What the configuration space holds beside the identity of the function (rule R93): the programmed sizes in bytes, ECRC generation and
checking, and the completion timeout in microseconds. -/
structure PcieCfg where
  payload : Nat
  readReq : Nat
  ecrcGen : Bool
  ecrcChk : Bool
  timeout : Nat
  deriving DecidableEq, Repr

/-- A ring (chapter 5). `sub` runs from the return point to the fetch index; `entries` are written and not consumed. -/
structure RingSt where
  st       : RingState
  lastErr  : Nat
  index    : Nat               -- fetch index, or producer index
  db       : Nat               -- last doorbell index taken by a scan
  retPoint : Nat
  limit    : Nat
  given    : Nat
  returned : Nat
  seq      : Nat
  head     : Nat
  unsig    : Nat               -- entries written since the last signal (rule R115)
  timerOn  : Bool              -- COAL_TIME runs
  sub      : List SubDesc
  entries  : List RingEntry
  waiting  : List EventRec     -- events that cannot be written now (rule R118)
  deriving DecidableEq, Repr

/-- An MSI-X vector (rules R114, R115); mask and pending bits are register fields. -/
structure VecSt where
  inGap  : Bool
  merged : Bool
  sent   : Nat                 -- messages sent
  deriving DecidableEq, Repr

/-- The Host Ring Engine beside its registers. -/
structure Hre where
  rings     : AMap RingSt
  vecs      : AMap VecSt
  claimed   : Bool
  session   : Nat
  committed : Bool             -- group HOST committed since reset release
  served    : Bool             -- configuration space and BARs served (rule R119)
  perst     : Bool             -- PCIE_PERST_N asserted
  bme       : Bool             -- Bus Master Enable
  d3hot     : Bool
  wakeLow   : Bool             -- PCIE_WAKE_N driven low
  fetchOpen : Bool             -- descriptors may be fetched (rules R71, R73)
  alive     : Nat              -- last HOST_ALIVE value read
  devAlive  : Nat
  kick      : Bool
  lossHold  : Bool             -- fleet HOLD for host loss due in the next epoch (rule R118)
  last      : Option (Nat × Nat × HostResult)   -- ring, index and result of the latest completed descriptor
  lockout   : Bool             -- the local reset stays closed until reset release (rule R117)
  old       : List OldDesc     -- descriptors that outlived their session, in the order of their fetch
  due       : List (Nat × Nat) -- completions due that cannot be written, by ring and index, in the order they came due (rule R118)
  shadow    : ShadowBlk
  pcie      : PcieCfg
  dataOut   : List Nat         -- the bytes that the latest DATA_OUT command wrote to its host buffer
  deriving DecidableEq, Repr

/-- A robot frame that passed the checks of its port: its identity, the epoch of rule R14, its sender's local ID, the operation it asks,
its port and its bytes. Once Dispatch has admitted it, it matches the active's references (rules R173, R463). -/
structure OwnFrame where
  src   : Nat
  typ   : Nat
  boot  : Nat
  seq   : Nat
  hash  : Nat
  epoch : Nat
  lid   : Nat
  op    : Option RobotOp
  port  : Nat
  bytes : List Byte
  adm   : Nat            -- ADM_SEQ, once Dispatch has admitted it
  deriving DecidableEq, Repr

/-- A committed packet of a chute, with what its producer records beside the words: the epoch that its commit belongs to (rules
R14, R167), the local ID that the receiving port resolved (rule R168), and the frame it is when the port's checks passed. -/
structure Packet where
  prio  : Nat
  words : List DWord
  epoch : Nat
  lid   : Option Nat
  own   : Option OwnFrame
  deriving DecidableEq, Repr

/-- An open packet; `over` after its rewind mark was passed (rule R131). -/
structure OpenPkt where
  prio  : Nat
  words : List DWord
  ovr  : Bool
  deriving DecidableEq, Repr

/-- The level latch that a Hoist channel has tied to this chute (rule R153): the marks of its WAIT, the latch, and whether the channel
waits there. -/
structure Watch where
  high  : Nat
  low   : Nat
  latch : Bool
  waits : Bool
  deriving DecidableEq, Repr

/-- A chute (chapter 6). `pkts` in commit order; `given` and `returned` wrap at 2^32. -/
structure Chute where
  pkts     : List Packet
  opened   : Option OpenPkt
  reading  : Option Packet
  given    : Nat
  returned : Nat
  sampled  : Nat × Nat          -- CHU_RETURNED and CHU_OUTSTANDING as last sampled (rule R142)
  status   : Nat                -- result of the last producer operation
  readSt   : Nat                -- status of the packet last read: DONE or ECC_UNCORRECTED (rule R136)
  readData : DWord              -- data of the last consumer read
  readTag  : Nat                -- read tag of the last consumer read (rule R128)
  watch    : AMap Watch         -- level latches, by Hoist channel
  deriving DecidableEq, Repr

/-- A Trapdoor frame to be repeated, and how many repeats are left (rule R356). -/
structure TrapRepeat where
  bytes : List Nat
  left  : Nat
  deriving DecidableEq, Repr

/-- A relaxation waiting for its epoch's commit (rule R348); `met` once a restriction in its scope was raised. -/
inductive RelaxKind where
  | go | clear | robotGo (r : Nat)
  deriving DecidableEq, Repr

/-- The Trapdoor beside its registers (chapter 15). -/
structure Trap where
  latch      : Bool              -- STOP latch (VBAT domain, rule R350)
  fleet      : Level
  dormant    : Bool              -- opening latched in DORMER_WATCH (rule R59)
  arm        : Option Bool       -- arming attempt in progress; true for a local reset (rules R87, R360)
  armBlocked : Bool              -- RESET_ARM must be low for 1 s before a new attempt
  discBoth   : Bool              -- both channels have been open together since the discrepancy began (rule R353)
  bothOpen   : Bool              -- both channels open now belong to one counted demand
  dormerHold : List Nat          -- Dormer rules at level HOLD that still hold (rule R362)
  dormerStop : List Nat          -- Dormer rules at level STOP that still hold (rule R360)
  repeats    : List TrapRepeat
  seqTrap    : Nat               -- SEQ of the TRAP unit stream
  mark       : Bool              -- restart epoch mark in force (rule R404)
  markEpoch  : Nat
  driveLow   : Bool              -- outputs forced low by PFAIL at 2.0 ms
  demandAt   : Nat               -- TLY_MONO at the last demand of both channels, or at reset release before one (rule R368)
  beaconAt   : Option YTime      -- the last beacon time (rule R357)
  deriving DecidableEq, Repr

/-- Schedule of a pulse generator (rules R439, R440): its next pulse time, pulses counted, and whether the next is one that a
step passed. -/
structure PulseSt where
  next  : YTime
  count : Nat
  late  : Bool
  deriving DecidableEq, Repr

/-- The Announce content of the device (rules R429, R436, R444). -/
structure AnnounceMsg where
  domain   : Nat
  prio1    : Nat
  cls      : Nat
  accuracy : Nat
  variance : Nat
  prio2    : Nat
  source   : Nat
  utc      : Nat
  seq      : Nat
  deriving DecidableEq, Repr

/-- The Timekeeper beside its registers (chapter 18). Sources are 0 GNSS, 1 PTP, 2 TWIN, 3 none; offsets are in 2⁻⁸ ns. -/
structure Tim where
  now      : YTime
  latch    : YTime               -- TIM_NOW_NS and TIM_NOW_SEC as latched
  cal      : Nat                 -- calendar counter of the VBAT domain, in yard seconds
  calUtc   : Nat                 -- UTC_OFFSET written with it
  calOk    : Bool                -- calendar time is valid (rule R443)
  gnssOk   : Bool
  gnssLost : Bool                -- GNSS was lost and its return is not confirmed
  gnssOff  : Int
  sols     : List (YTime × Int)  -- valid GNSS time solutions of the last second: time and offset (rule R427)
  solFrom  : Option YTime        -- first valid solution since an invalid or missing one
  solLast  : Option YTime        -- last valid solution
  ptpOk    : Bool
  ptpOff   : Int
  syncAt   : Option YTime        -- ingress of the last Sync from the parent port
  lastSrc  : Nat                 -- last source in force
  confirm  : Bool                -- the next input of the source in force is judged as a correction
  preset   : Bool                -- the next input of the source in force presets its loop
  inSeq    : AMap Nat            -- SEQ of the clock inputs
  e0       : Nat                 -- E0 of rule R430, ns
  lastOk   : YTime               -- last valid solution of the source in force
  lockFrom : Option YTime        -- from when the GNSS offset has stayed within 40 ns
  slew     : Option Int          -- phase slew in progress, ns
  held     : Int                 -- frequency held during a phase slew, 2⁻⁸ ppb
  refDom   : Option (YTime × Int)  -- when the reference domain opened, and how far it then was ahead of yard time, ns (rule R433)
  stepFrom : Option (Int × YTime)  -- first value, ns, of a correction beyond STEP_THRESH, and since when it stays within 10 µs of it
  ptpOn    : Bool                -- Announce messages are acted on and sent (rule R68)
  ptpSeq   : AMap Nat            -- sequenceId counters: port × 4 + kind
  delayN   : AMap (Nat × Nat)    -- Delay_Req answered by port: second and number
  delayRsp : AMap PtpMsg         -- the Delay_Req last answered by each port
  sentAnn  : AMap AnnounceMsg    -- last Announce by port × 2 + 1 for DOMAIN_ALT
  sentSync : AMap YTime          -- the time that the last Follow_Up carried, likewise
  pg       : AMap PulseSt
  pulse    : AMap (YTime × YTime × Bool)  -- the last pulse that a generator drove: from, until, and its POL
  capAt    : AMap YTime          -- last accepted edge of each capture input
  capLost  : List Nat            -- inputs whose next record carries LOST_BEFORE
  capLatch : AMap (Nat × Nat × Nat)  -- latched SEC_HI, NS word and COUNT
  deriving DecidableEq, Repr

/-- Memory: (address, byte) pairs in canonical form (see `Memory.wf`). -/
abbrev Memory := List Host.Cell

/-- State of a Hoist channel (channel state table, rule R159). -/
inductive ChanState where
  | idle | running | waiting | done | halted | stopping
  deriving DecidableEq, Repr

/-- An active loop level (rule R150). -/
structure LoopLevel where
  start : Nat            -- first instruction of the body
  stop  : Nat            -- one past the body
  count : Nat
  iter  : Nat
  sstr  : Int
  dstr  : Int
  deriving DecidableEq, Repr

/-- Where a MOVE writes: memory or registers from an address on, a fixed address of either, or the write port of a chute. -/
inductive MoveDst where
  | mem (a : Nat) (fixed : Bool)
  | regs (a : Nat) (fixed : Bool)
  | port (chute : Nat)
  deriving DecidableEq, Repr

/-- A MOVE in progress: its destination, its bytes, how many of them have been written and how many are proven, whether a burst has
failed, and the retries used. -/
structure MoveSt where
  dst     : MoveDst
  data    : List Byte
  written : Nat
  proven  : Nat
  failed  : Bool
  tries   : Nat
  deriving DecidableEq, Repr

/-- A Hoist channel beside its registers (chapter 7). `prog` and `progSh` hold the program store and its shadow by
32-bit word. -/
structure Chan where
  st     : ChanState
  status : Nat
  pc     : Nat
  loops  : List LoopLevel
  bytes  : Nat                   -- HST_CH_COUNTn
  flags  : List Nat              -- event IDs whose pending flag is set
  latch  : Option Nat            -- the chute its level latch is tied to, which holds it (rule R153)
  move   : Option MoveSt
  prog   : AMap Nat
  progSh : AMap Nat
  deriving DecidableEq, Repr

/-- What is fitted on the board: bytes of LPDDR4X (4 to 16 GiB) and of NOR (64 to 512 MiB). -/
structure Board where
  lpddr : Nat
  nor   : Nat
  deriving DecidableEq, Repr

/-- An entry of the reorder window (rule R169). -/
structure WinEntry where
  seq    : Nat
  flow   : Nat
  epoch  : Nat
  lid    : Option Nat
  own    : Option OwnFrame
  chute  : Nat                   -- the input chute; 64 for a message that firmware posted
  thread : Option Nat
  done   : Option EntryOut
  deriving DecidableEq, Repr

/-- Dispatch beside its registers (chapter 8). `ready` lists the READY threads, head first; `units` maps a busy unit to
its thread; histograms are keyed unit × 16 + bin. -/
structure Dsp where
  ready    : List Nat
  units    : AMap Nat
  win      : List WinEntry
  adm      : Nat                 -- last ADM_SEQ
  round    : Nat                 -- chute last read in the round
  stalled  : List (Nat × Nat)    -- input chutes not read, with the full flow
  codes    : List Nat            -- Hoist CODEs posted and not yet taken
  hist     : AMap Nat
  histBank : AMap Nat
  load     : AMap Nat
  loadBank : AMap Nat
  samples  : AMap (Nat × Nat × Nat)   -- ADMITTED, RELEASED, HELD as sampled by the flow view
  open_    : Bool                -- messages may be dispatched (rule R175)
  deriving DecidableEq, Repr

/-- A host input of an epoch; `met` once a restriction in its scope was raised since its fetch (rule R348), and its
result once the epoch's checks gave one. -/
structure EpochInput where
  cmd  : Option Cmd
  kind : EpochKind
  adm  : Nat
  met  : Bool
  res  : Option HostResult
  data : List Nat                -- the payload that the command moved
  deriving DecidableEq, Repr

/-- A packet the decision pair has posted to the Larder (rules R267, R275, R279); a release with who asked it, 0 a robot's
operation, 1 the host, 2 a task transition. -/
inductive LdrWork where
  | release (r : RelPkt) (src opId : Nat)
  | envelope (e : EnvCmd)
  | request (r : ReqPkt)
  deriving DecidableEq, Repr

/-- A ZYP frame body of an epoch output (rules R406 to R409). -/
structure TxFrame where
  typ  : Nat
  lid  : Nat
  body : List Nat
  deriving DecidableEq, Repr

/-- The decision epoch in progress (rules R11 to R17). -/
structure Epo where
  opened   : Bool                          -- between its boundary and its commit or abandonment
  released : Bool
  snapped  : Bool
  decided  : Bool
  digest   : Bool
  lists    : AMap (List (Nat × RobotOp))   -- epoch input lists, by epoch, with ADM_SEQ
  host     : List EpochInput               -- host inputs waiting, in fetch order
  ops      : List (Nat × RobotOp)          -- list of the epoch in progress not yet decided
  taken    : List EpochInput               -- host inputs of the epoch in progress
  hostDone : Nat                           -- how many of them the decisions have reached
  asked    : AMap Nat                      -- OP_ID of the operations decided in this epoch, by local ID
  mode0    : Mode                          -- mode and fleet state as latched at Release (rule R461)
  fleet0   : Level
  prepared : Bool                          -- ROBOT_GONE and ROBOT_STOP events have run
  pos      : AMap PosRec                   -- position snapshot, by local ID
  work     : List LdrWork                  -- Larder packets posted and not yet handled
  loopQ    : List LoopIn                   -- loop inputs posted and not yet read
  envs     : List EnvCmd                   -- envelope commands due in the next epoch
  envs0    : List EnvCmd                   -- those of the epoch in progress
  outs     : List TxFrame                  -- outputs of the epoch in progress
  overruns : Nat                           -- consecutive overrun epochs
  assured  : Bool                          -- the digest has closed and nothing stands against the commit (rule R466)
  last     : Option YTime                  -- boundary of the latest epoch
  goneNow  : List Nat                      -- as gone and stopped, for the epoch in progress
  stopNow  : List Nat
  gone     : List Nat                      -- local IDs that passed to another federation ID (rule R309)
  stopped  : List Nat                      -- local IDs that came under an own STOP (rule R309)
  holdOwn  : List Nat                      -- local IDs not at GO at the Release instant (rule R271)
  closed   : Nat                           -- number of the last epoch that closed
  commits  : Nat                           -- number of the last epoch that committed
  recs     : List (Nat × List Nat)         -- records of the epoch by digest class (rule R464)
  sums     : Option (List Nat × List (List Nat))  -- its DIGEST and CLASS values
  ended    : Bool                          -- a follower holds the whole input stream (rule R462)
  deriving DecidableEq, Repr

/-- A run of tokens (rule R264); `entry` is its place in its bucket, `first` its first slot as a slot number, `rel` the
first slot that a release of this epoch frees. -/
structure Run where
  cell    : Nat
  entry   : Nat
  robot   : Nat
  first   : Nat
  len     : Nat
  gslot   : Nat
  pending : Bool
  env     : Bool
  rel     : Option Nat
  deriving DecidableEq, Repr

/-- A cell waiting to be blocked at its epoch's commit (rules R283, R284). -/
structure Quar where
  cell   : Nat
  bucket : Bool
  ready  : Bool        -- a block input of the epoch in progress
  deriving DecidableEq, Repr

/-- The Larder beside its registers (chapter 12). -/
structure Ldr where
  runs     : List Run
  grants   : AMap Grant         -- key: robot × 8 + grant slot
  blocked  : List Nat           -- blocked bitmap
  quar     : List Quar          -- quarantined cells, block inputs to come
  badGrant : List Nat           -- grant slots that failed the memory test
  grantId  : Nat
  grantId0 : Nat                -- GRANT_ID before the epoch
  envFrom  : AMap Nat           -- robots whose envelope is held or pending, with its grant slot
  scrubBad : Bool               -- a recount mismatch waits for the epoch's audit record
  late     : Bool               -- a late sweep waits for the epoch's audit record
  lo       : AMap Nat           -- latched upper halves of 64-bit counters
  badWords : List Nat           -- addresses of blocked map words that hold no cell of the map in force (rule R295)
  doneNow  : List Nat           -- robots with a request DONE in the epoch in progress
  deriving DecidableEq, Repr

/-- Tracks and tasks beside the registers (chapter 13). Banks hold 32-bit words by (BAR0 offset − 0x0080_0000) / 4. -/
structure Trk where
  shadow  : AMap Nat
  live    : AMap Nat
  tasks   : AMap TaskRec
  tasks0  : AMap TaskRec        -- records before the epoch in progress
  delta   : List Nat            -- counter moves of the epoch: events, no transition, refused, timeouts, forced
  notes   : List Nat            -- host notifications of the epoch's transitions, DATA of each
  frozen  : Option Nat          -- epoch at which deadline time froze (rule R318)
  eccBad  : Bool                -- an uncorrectable error in a live record waits for the audit
  validating : Bool             -- a FLEET commit is being validated
  deriving DecidableEq, Repr

/-- Mode of a robot loop (command record table). -/
inductive LoopMode where
  | off | track | dock | coast | held | docked | lost
  deriving DecidableEq, Repr

/-- A robot loop (rules R324 to R337): mantissas of I and U at exponent `e`, the last sample used, the command state and
the flags of the last update. -/
structure Loop where
  mode    : LoopMode
  i       : Int
  u       : Int
  e       : Int
  hasSeq  : Bool                -- a sample has been used
  posSeq  : Nat                 -- of the last fresh sample
  sample  : YTime
  sMeas   : Nat
  gslot   : Nat
  cls     : Nat
  usedEp  : Nat                 -- epoch COAST counts from
  cmdEp   : Option Nat          -- epoch of the last command since it left OFF
  cmdSeq  : Nat
  ovr    : Bool                -- OVERSHOOT until DOCKED
  winding : Bool                -- OFF wind-down
  lastErr : Int
  slew    : Bool
  speed   : Bool
  deriving DecidableEq, Repr

/-- A clock loop. -/
structure ClkLoop where
  i : Int
  u : Int
  e : Int
  deriving DecidableEq, Repr

/-- The Governor beside its registers (chapter 14). Curve banks hold words by (BAR0 offset − 0x008E_0000) / 4. -/
structure Gov where
  loops   : AMap Loop
  loops0  : AMap Loop           -- loops before the epoch in progress
  clk     : AMap ClkLoop
  shadow  : AMap Nat
  live    : AMap Nat
  deriving DecidableEq, Repr

/-- A receive window (rule R397). -/
structure Window where
  boot : Nat
  seq  : Nat
  seen : List Nat
  deriving DecidableEq, Repr

/-- A frame for the safety radio. -/
structure RadioFrame where
  prio  : Nat
  bytes : List Nat
  deriving DecidableEq, Repr

/-- A ZYP frame that has left: its port (0, 1; 2 the radio), on a LAN where it went, and its bytes. -/
structure SentFrame where
  port  : Nat
  dst   : Option Endpoint
  bytes : List Nat
  deriving DecidableEq, Repr

/-- The ZYP ports beside their registers (chapter 17). -/
structure Zyp where
  roster   : AMap RosterEnt
  windows  : AMap Window         -- key: local ID × 16 + frame type
  status   : AMap (List Nat)     -- latest STATUS body and its arrival time, 48 bytes
  ops      : AMap OpKeep
  ops0     : AMap OpKeep         -- as ops, before the epoch in progress
  reach    : AMap Endpoint       -- where the robot's latest accepted frame on a LAN came from: local ID × 2 + LAN
  bootCtr  : Nat                 -- BOOT counter (eMRAM)
  unitBoot : Nat
  pairOn   : Bool                -- this unit has a pair stream
  seq      : AMap Nat            -- next SEQ of the pair stream: DST × 32 + frame type
  seqCor   : Nat
  catchup  : Option Nat          -- ECHO seen that calls for a new pair stream
  replied  : AMap Nat            -- second of the last REPLY to a refused frame
  onAir    : Option RadioFrame   -- frame on the air from the safety radio
  lanUp    : List Nat            -- LAN ports (0, 1) whose link is up
  txLog    : List SentFrame      -- the model's own: ZYP frames that have left
  statusIn : List OwnFrame       -- STATUS frames released to the decision pair and not yet taken
  deriving DecidableEq, Repr

/-- A key slot of the Vault (rules R483, R484). -/
structure Slot where
  kind      : Nat
  key       : Nat
  gen       : Nat
  parent    : Option Nat
  parentGen : Nat
  bound     : Bool
  limited   : Bool
  uses      : Nat
  deriving DecidableEq, Repr

/-- A persistent record in its two copies (rule R493): counter and item; an item of `none` is a cleared copy, `good` says
that the copy's check verifies. -/
structure Persist where
  ctr0  : Nat
  item0 : Option Nat
  good0 : Bool
  ctr1  : Nat
  item1 : Option Nat
  good1 : Bool
  deriving DecidableEq, Repr

/-- A lifecycle change in progress (rule R497): target and the keys it carries, the federation root with its SITE. -/
structure Transition where
  onto    : Nat
  owner : Option Nat
  image : Option Nat
  fed   : Option (Nat × Nat)
  deriving DecidableEq, Repr

/-- A persistent record update that waits for its copy write: the record, its new item (`none` clears it), and the command
that completes with it, with its length. -/
structure PersistJob where
  record : Nat
  item : Option Nat
  cmd  : Option (Cmd × Nat)
  deriving DecidableEq, Repr

/-- The Key Vault beside its registers (chapter 20). Persistent records are keyed 1 federation root, 3 owner key, 4 image
key, 5 SITE, 6 BEACON_NO, 7 pending rekey (BEACON_NO + 2³² × activation second). -/
structure Vlt where
  slots     : AMap Slot
  persist   : AMap Persist
  jobs      : List PersistJob
  trans     : Option Transition
  nonce     : Nat                -- BOOT_NONCE
  drbg      : Nat                -- random values drawn
  rekey     : Option (Nat × Nat) -- pending BEACON_NO and activation second
  status    : Nat                -- result of the last firmware operation
  blob      : List Nat           -- the blob that the last wrap gave (rule R486)
  deriving DecidableEq, Repr

/-- State of a tracking channel (channel state table, rule R189). -/
inductive TrackState where
  | idle | pullIn | track | locked | lost
  deriving DecidableEq, Repr

/-- Loop settings of a channel in force (rule R190). -/
structure LoopSet where
  pll   : Nat
  fll   : Nat
  dll   : Nat
  tCoh  : Nat
  space : Nat
  deriving DecidableEq, Repr

/-- A tracking channel (rules R188 to R193). -/
structure TrackCh where
  st     : TrackState
  antB   : Bool
  signal : Nat
  sv     : Nat
  cn0    : Nat             -- 0.01 dB-Hz, of the last measurement
  glo    : Nat             -- GLONASS k + 7, or 15
  slips  : Nat             -- SLIP_COUNT
  slip   : Bool            -- phases restart with a slip after a gap of PLL_ADC (rule R201)
  loop   : LoopSet
  geo    : Bool            -- on a GEO satellite
  half   : Bool            -- HALF_CYCLE_RESOLVED
  lockNs : Nat             -- yard time in ns at which the continuous phase lock began
  word   : Bool            -- a nav unit was received since the channel became LOCKED
  deriving DecidableEq, Repr

/-- The Ranging Baseband beside its registers (chapter 9). -/
structure Rng where
  ch      : AMap TrackCh
  seqNext : Nat              -- next MEAS_SEQ
  rate    : Nat              -- RATE code in force
  rateDue : Bool             -- a committed RATE waits for the next whole second
  last    : Option YTime     -- last measurement time
  gap     : Bool             -- PLL_ADC lost lock since the previous epoch
  due     : Option (List Nat)   -- an accepted MEAS commit that waits for the next measurement epoch (rule R204)
  sky     : List SkySat      -- predictions of the last allocation (rule R188)
  hold    : List (Nat × Bool × Nat × Nat)   -- channels allocated to a candidate that no search has found: antenna B, signal, satellite
  clipA   : List Nat         -- clipped milliseconds of the last ten 100 ms windows
  clipB   : List Nat
  deriving DecidableEq, Repr

/-- A signal record as a consumer reads it (rule R193). -/
structure MeasRec where
  ch      : Nat
  k       : Nat              -- GLONASS k + 7, or 15
  signal  : Nat
  sv      : Nat
  pr      : Nat
  phase   : Int
  doppler : Int
  cn0     : Nat
  lock    : Nat
  flags   : Nat
  slips   : Nat
  deriving DecidableEq, Repr

/-- A measurement series on its way in: the part that comes next, whether LAST_PART has come, and what the parts gave (rules R192,
R195). -/
structure MeasSeries where
  part  : Nat
  whole : Bool
  seq   : Nat
  flags : Nat                -- FLAGS of the last header: bit 1 CLOCK_STEERED, 2 ANT_FAULT, 3 ADC_GAP
  time  : YTime
  recs  : List MeasRec
  deriving DecidableEq, Repr

/-- The stored reference position (rule R206): reference point in 0.1 mm, origin (1 SURVEYED, 2 FIXED), baseline (rule
R208), and whether the check value is intact. -/
structure RefRec where
  x      : Int
  y      : Int
  z      : Int
  origin : Nat
  e      : Int
  n      : Int
  u      : Int
  good   : Bool
  deriving DecidableEq, Repr

/-- A self-survey in progress (rules R207, R208): counted seconds, sums of the positions in 0.1 mm and of their squares,
seconds with RESULT FIX and the sums of the vectors. -/
structure Survey where
  n   : Nat
  sx  : Int
  sy  : Int
  sz  : Int
  sq  : Int
  fix : Nat
  se  : Int
  sn  : Int
  su  : Int
  deriving DecidableEq, Repr

/-- A mount point of the caster (rule R218). -/
structure Mount where
  name : List Byte
  sys  : Nat
  div  : Nat
  deriving DecidableEq, Repr

/-- The mount point ZYBASE of the PANTRY defaults (rule R82): every system, every RTCM epoch. -/
def Mount.zybase : Mount := ⟨[0x5A, 0x59, 0x42, 0x41, 0x53, 0x45], 31, 1⟩

/-- A caster user with the verifier of its password (rule R218). -/
structure CastUser where
  name     : List Byte
  verifier : List Nat
  mask     : Nat
  deriving DecidableEq, Repr

/-- A connected caster client: its user, whether it speaks NTRIP v1, its mount point by name, and the bytes of its stream that wait in
its send backlog (rules R217 to R221). -/
structure CastClient where
  id      : Nat
  lanB    : Bool
  addr    : Nat
  user    : Option (List Byte)
  v1      : Bool
  mount   : List Byte
  backlog : List Byte
  deriving DecidableEq, Repr

/-- A STR entry of the sourcetable (rule R217): mount point, messages with their periods in ms, carrier, systems, latitude and
longitude of the reference point, whether authentication is Basic, and the data rate of the last second in bit/s. Format RTCM 3.3, network
ZIUNO, NMEA 0, solution 0 and generator "Caersyn ZY9620" are the same in each. -/
structure StrEntry where
  mount   : List Byte
  details : List (Nat × Nat)
  carrier : Nat
  systems : Nat
  pos     : Int × Int
  auth    : Bool
  bitrate : Nat
  deriving DecidableEq, Repr

/-- Base Corrections beside its registers (chapter 10). -/
structure Cor where
  survey   : Survey
  passRun  : Nat             -- consecutive PASS results
  blankRun : Nat             -- consecutive results NO_DATA or NO_FIX
  driftRun : Nat             -- consecutive drift comparisons above DRIFT_LIM
  driftOk  : Bool            -- the last drift comparison was within DRIFT_LIM
  station  : Bool            -- a station message is due at the next epoch sent
  desc     : Bool            -- 1033 is due at the next epoch sent
  bias     : Bool            -- 1230 is due at the next epoch sent
  text     : List Byte       -- station text; empty when none has been loaded
  mounts   : List Mount
  users    : List CastUser
  clients  : List CastClient
  nextId   : Nat
  fails    : List (Nat × YTime)   -- failed authentications by source address
  lockout  : List Nat        -- source addresses locked out
  answer   : Nat             -- answer to the last request: 0 closed, 1 sourcetable, 2 ICY 200 OK, or its HTTP status
  table    : List StrEntry   -- the sourcetable last answered
  sent     : List (Nat × List Byte)   -- last station, 1033 and 1230 messages, by message number
  rtcmAt   : Option (Nat × List Nat)           -- an accepted RTCM commit and the second at which it takes effect
  seriesA  : Option MeasSeries   -- the series of each antenna as read from chute 22 (rules R192, R195)
  seriesB  : Option MeasSeries
  frames   : Nat             -- compact frames since the last station record
  last     : Option YTime    -- measurement time of the last RTCM epoch
  lastC    : Option YTime    -- measurement time of the last compact epoch
  epochs   : Nat             -- RTCM epochs sent
  rateSec  : Nat             -- second that `rateNow` counts
  rateNow  : List Nat        -- bytes offered to each mount point in that second
  rateLast : List Nat        -- bytes offered in the second before
  driftFrom : Nat            -- second from which positions enter the drift average (rules R210, R224)
  driftMm : Nat              -- the last drift comparison in mm (rule R223)
  deriving DecidableEq, Repr

/-- A signal of an OBS satellite block (rule R233). -/
structure RobotSig where
  sv       : Nat
  signal   : Nat
  pr       : Nat             -- 0.02 m
  phaseOfs : Int             -- 1/256 cycle
  cn0      : Nat             -- 0.25 dB-Hz
  flags    : Nat             -- bit 0 PR_VALID, 1 PHASE_VALID, 2 HALF_CYCLE_RESOLVED, 3 SLIP, bits [5:4] SLIP_MOD4
  deriving DecidableEq, Repr

/-- An ambiguity of a filter (rules R241, R242): satellite, signal, reference satellite, HELD, FLOAT_ONLY, its float value and its
integer. -/
structure Amb where
  sv        : Nat
  signal    : Nat
  ref       : Nat
  held      : Bool
  floatOnly : Bool
  value     : Word
  int_      : Word
  deriving DecidableEq, Repr

/-- A robot signal as the CRE has followed it (rules R240, R244): its last SLIP_MOD4, and the GPS time in ms since which its lock holds. -/
structure Link where
  signal : Nat
  sv     : Nat
  mod4   : Nat
  since  : Nat
  deriving DecidableEq, Repr

/-- A held OBS part or a queued robot epoch (rules R233, R236). -/
structure ObsEpoch where
  lid     : Nat
  fed     : Nat
  week    : Nat
  tow     : Nat
  part    : Nat
  parts   : Nat
  selfFix : Nat
  sx      : Int
  sy      : Int
  sz      : Int
  meas    : YTime
  seq     : Nat
  noBase  : Bool
  sigs    : List RobotSig
  deriving DecidableEq, Repr

/-- Fix state of a robot (fix state table, rule R245). -/
inductive FixState where
  | none | float | fix | hold
  deriving DecidableEq, Repr

/-- A robot's filter (rules R241 to R250): fix state, sequence numbers, the state vector (baseline and velocity) and the covariance in
FP32, the ambiguities, the signals followed, the reference satellite of each signal code, and ratio and failure bound of the last accepted
set. -/
structure Filt where
  fix    : FixState
  fixRun : Nat
  outSeq : Nat
  posSeq : Nat
  ovr   : Nat              -- consecutive checks beyond the limit
  under  : Nat              -- consecutive checks within the limit
  last   : Option (Nat × Nat)   -- WEEK and TOW_MS of the last accepted OBS
  held   : Option ObsEpoch  -- the OBS part held
  done   : Nat               -- measurement time of the last robot epoch, ms of GPS time
  state  : List Word
  cov    : List Word
  amb    : List Amb
  links  : List Link
  refs   : AMap Nat
  ratio  : Nat
  pf     : Nat
  deriving DecidableEq, Repr

/-- The Central RTK Engine beside its registers (chapter 11). -/
structure Cre where
  filt   : AMap Filt
  queue  : List ObsEpoch
  series : List MeasSeries       -- the antenna A series kept, newest first
  opened : Option MeasSeries     -- the series being read from chute 23
  pos    : AMap PosRec           -- latest output record of each robot
  raw    : AMap (List Nat)       -- the bytes of that record (rule R247)
  fast   : AMap YTime            -- time of each robot's last record above 50 mm/s
  due    : List (Nat × Bool)     -- filter resets that came during a robot epoch, and whether the holder changed (rule R254)
  deriving DecidableEq, Repr

/-- Twin Control beside its registers (chapter 19). Sent link frames are kept as (type, payload numbers); for frames whose
payload the spec does not lay out the numbers are its content in an order of the model's own. -/
structure Twn where
  stopped  : Bool                -- LIVE_OUT has stopped (rule R453)
  mirrored : Bool                -- the peer is in TWIN_STANDBY (rule R450)
  lockstep : Bool                -- this unit's lockstep has flagged
  arb      : Bool                -- CLAIM_OUT is asserted for FLEET_START arbitration (rule R456)
  session  : Nat                 -- LINK_SESSION counter (eMRAM)
  rxSeq    : Nat                 -- next LSEQ expected
  txSeq    : Nat                 -- LSEQ of the next frame
  xseq     : Nat                 -- XSEQ of the next frame
  tx       : List (Nat × List Nat) -- frames not yet acknowledged, oldest first: type and payload
  sent     : List (List Nat)     -- the frames that have left, oldest first, as the lanes carry them (rule R459)
  peerSes  : Nat                 -- LINK_SESSION of the peer's HELLO
  stream   : List Nat            -- the INPUT stream sent for the epoch in progress (rule R462)
  reqAt    : Option YTime        -- t1 of the TIME_REQ that no TIME_RSP has answered (rule R476)
  own      : List OwnFrame
  missing  : List ZypRef         -- references fetched and not filled
  prep     : Option PrepMsg      -- PREPARE of the epoch in progress
  acked    : Bool                -- ACK sent for it
  lates    : Nat                 -- consecutive late ACKs
  demoted  : Option Nat          -- LSEQ that a LACK must pass to cover DEMOTE
  readied  : Option Nat          -- as demoted, for READY of a rejoining unit
  loneDue  : Bool                -- the active runs as a lone unit from the next boundary
  readyDue : Bool                -- the peer counts as standby from the next boundary
  linkLost : Bool                -- the link went down while the unit was mirrored
  lost     : Bool                -- LIVE_IN was lost in TWIN_STANDBY; CLAIM_IN decides
  wait     : Bool                -- a mismatch awaits the host (rule R469)
  retries  : Nat                 -- SNAPSHOT attempts that failed since entering SNAPSHOT
  parts    : List SnapPart       -- snapshot received so far
  snapDue  : Bool                -- SNAP_REQ served; the snapshot point has not committed
  journal  : Option Nat          -- epochs journaled since the snapshot point
  offsets  : List Int            -- TWIN offsets of the present second, 2⁻⁸ ns
  timeOk   : Bool                -- the TWIN source is valid (rule R476)
  deriving DecidableEq, Repr

/-- What an image header says (rule R506). -/
structure ImgHdr where
  version    : Nat
  rollback   : Nat
  schema     : Nat
  schemaFrom : Nat
  imageLen   : Nat
  bootLen    : Nat
  trialTime  : Nat
  listDigest : List Nat
  digest     : List Nat
  deriving DecidableEq, Repr

/-- State of the LOFT slot (LOFT state table, rule R505). -/
inductive LoftState where
  | empty | receiving | ready | scheduled | trial | failed
  deriving DecidableEq, Repr

/-- The boot record (rule R505), with the STORE image's settings schema and whether the last restart was a fallback. -/
structure BootRec where
  storeRegion : Nat
  storeVer    : Nat
  storeSchema : Nat
  loft        : LoftState
  hdr         : Option ImgHdr
  floor       : Nat
  curArea     : Nat
  trialCount  : Nat
  actSec      : Nat
  lock        : Bool
  barred      : Option Nat
  fellBack    : Bool
  deriving DecidableEq, Repr

/-- The update session and the chunk states of the LOFT slot (rules R508, R513): 1 present-unverified, 2 verified, absent where
none is listed. -/
structure UpdSession where
  num    : Nat
  isOpen : Bool
  source : Nat
  chunks : AMap Nat
  deriving DecidableEq, Repr

/-- A copy of a settings area (rule R520): the schema and lifecycle generation it was written under, its WRITES, whether its check holds,
and the stored settings: register fields, RADIO_EN where a value is stored (rule R81; no command stores one), roster, caster table, curves and
Dormer rules. -/
structure SettingsArea where
  schema : Nat
  writes : Nat
  lcGen  : Nat
  good   : Bool
  regs   : AMap (Fld × Nat)
  radio  : Option Bool
  roster : AMap RosterEnt
  mounts : List Mount
  users  : List CastUser
  curves : Option (AMap Nat)
  rules  : AMap Nat
  deriving DecidableEq, Repr

/-- Non-volatile state in eMRAM and in the settings area of NOR. -/
structure Nvm where
  epochRec : Nat                 -- epoch counter as recorded (rule R12)
  ref      : Option RefRec       -- reference position (rule R206)
  boot     : BootRec
  session  : UpdSession
  areas    : AMap SettingsArea   -- settings areas A and B in two copies each: key 2 × area + copy
  held     : Nat                 -- HELD count and epoch written in PFAIL handling (rule R73)
  heldEp   : Nat
  deriving DecidableEq, Repr

/-- A chunk on its way into flash. -/
structure ChunkJob where
  from_   : UpdFrom
  session : Nat
  index   : Nat
  data    : List Byte
  deriving DecidableEq, Repr

/-- The update block beside its registers and the boot record (chapter 21). -/
structure Upd where
  queue    : List ChunkJob
  idle     : Bool             -- the open session is idle (rule R509)
  conns    : List Bool        -- federation connections by LAN
  hostOk   : Bool
  schema   : Nat              -- settings schema of the running image
  area     : Nat              -- settings area of the running image
  migrated : Bool             -- settings migration has completed DONE
  entered  : Nat              -- second at which UPDATE began
  released : Int              -- reset release on the present time line of yard time, ns; a time step moves it too (rule R77)
  image    : Bool             -- an image was verified and runs (rules R68, R517)
  deriving DecidableEq, Repr

/-- A calendar stamp (rule R531). -/
structure CalStamp where
  value   : Nat
  unknown : Bool
  deriving DecidableEq, Repr

/-- A channel of the Dormer (rule R374): its last raw samples, oldest first and five at most, and y. -/
structure DrmCh where
  raw : List Nat
  y   : Nat
  deriving DecidableEq, Repr

/-- The state of a Dormer rule (rules R378, R379): active or not, count, and its extreme with its time. -/
structure DrmRule where
  active : Bool
  count  : Nat
  ext    : Nat
  extAt  : CalTime
  deriving DecidableEq, Repr

/-- A Dormer event (rule R382). -/
structure DrmEvent where
  rule    : Nat
  kind    : Nat
  src     : Nat
  value   : Nat
  time    : CalTime
  unknown : Bool
  lost    : Bool
  deriving DecidableEq, Repr

/-- The Dormer beside its registers (chapter 16); the rule apertures hold 32-bit words, four to a rule. -/
structure Drm where
  ch        : AMap DrmCh
  rules     : AMap Nat
  rulesSh   : AMap Nat
  st        : AMap DrmRule
  queue     : List DrmEvent
  lost      : Bool            -- an event was lost just before the next one
  committed : Bool            -- a RULES commit has taken effect since AON power-on (rule R372)
  chanNext  : Option (List Nat)  -- values of the members of an accepted CHAN commit, for the next tick
  rulesNext : Option (AMap Nat × Nat)    -- rules and IDLE of an accepted RULES commit, for the next tick
  tick      : Nat             -- tick count at the last burst
  deriving DecidableEq, Repr

/-- An extreme register of the Tally (rule R526). -/
structure Extreme where
  mode   : Nat
  value  : Int
  stamp  : CalStamp
  offers : Nat
  deriving DecidableEq, Repr

/-- A mark (rule R532). -/
structure TlyMark where
  kind  : Nat
  seq   : Nat
  stamp : CalStamp
  epoch : Nat
  data  : List Nat
  deriving DecidableEq, Repr

/-- The recorded content of a tally image (rule R524) but for the lost counters: bins by 32 × histogram + bin, overflow
counts, set extremes, marks oldest first. -/
structure TlyBody where
  hist    : AMap Nat
  ovr    : AMap Nat
  ext     : AMap Extreme
  marks   : List TlyMark
  markSeq : Nat
  deriving DecidableEq, Repr

/-- The power record (rule R533). -/
structure PowerRec where
  cause   : Nat
  stage   : Nat
  epoch   : Nat
  unread  : List Nat
  hoist   : List (Nat × Nat × Nat)
  held    : List Nat
  drmLost : Nat
  queued  : Nat
  fire    : List Nat
  deriving DecidableEq, Repr

/-- A flush bank, or the frozen image on its way to one; `good` says that its check verifies. -/
structure TlyBank where
  body      : TlyBody
  lost      : List Nat
  cause     : Nat
  degraded  : Bool
  uncertain : Bool
  seq       : Nat
  flushSeq  : Nat
  stamp     : CalStamp
  power     : PowerRec
  good      : Bool
  deriving DecidableEq, Repr

/-- A flush asked for, or in progress: its cause, the commands that complete with it, whether TLY_CTRL asked for it, and
whether it is a RETEST. -/
structure FlushReq where
  cause  : Nat
  cmds   : List Cmd
  ctrl   : Bool
  retest : Bool
  deriving DecidableEq, Repr

/-- A flush in progress (rule R534). -/
structure TlyFlush where
  req       : FlushReq
  bankB     : Bool
  image     : TlyBank
  committed : Bool
  deriving DecidableEq, Repr

/-- An event for the live image (rule R528); kinds 5 and 6 are a Dormer record's count and the extreme that its MARK files. -/
structure TlyEvent where
  kind  : Nat
  index : Nat
  value : Nat
  count : Nat
  data  : List Nat
  bad   : Bool
  stamp : CalStamp
  deriving DecidableEq, Repr

/-- The last-word area (rule R537). -/
structure LastWord where
  valid      : Bool
  memFail    : Bool
  degraded   : Bool
  powerLost  : Nat
  ramOnly    : Nat
  suppressed : Nat
  stamp      : CalStamp
  failAddr   : Nat
  failKind   : Nat
  deriving DecidableEq, Repr

/-- The Tally Recorder beside its registers (chapter 22); definitions hold 32-bit words, four to a histogram and two to an
extreme. -/
structure Tly where
  body       : TlyBody
  hdef       : AMap Nat
  hdefSh     : AMap Nat
  xdef       : AMap Nat
  xdefSh     : AMap Nat
  want       : Option FlushReq
  flush      : Option TlyFlush
  shadow     : List TlyEvent
  excess     : Nat                   -- events beyond the shadow
  bank0      : Option TlyBank
  bank1      : Option TlyBank
  last       : LastWord
  stopped    : Bool                  -- events are no longer taken (rule R537)
  received   : Nat                   -- events received since the freeze of the last committed flush
  since      : Nat                   -- events received since the freeze of the flush in progress
  applied    : Nat                   -- events applied since the latest intact bank
  clears     : List (Cmd × Nat)      -- accepted clears that wait for the flush in progress
  powerDone  : Bool                  -- a POWER_DOWN flush has passed its commit point
  restartDue : Bool                  -- the RESTART mark is due at the first epoch boundary
  deriving DecidableEq, Repr


/-- Why the machine would stop with a fault. The spec describes no stop of the block: what it calls a fault is a sticky
bit and an event, that is a next state. No command of the model ends in a fault, so there is no constructor. -/
inductive Fault where
  deriving DecidableEq, Repr

/-- Why a command has no meaning. -/
inductive Refusal where
  /-- Raised by `exec` for a command whose meaning is not written; safe: nothing can be proved of such a step. -/
  | notModelled (mnemonic : String)
  deriving DecidableEq, Repr

/-- The state of the block. -/
structure State where
  pending : List Instr          -- commands waiting, first in first out
  ctr     : Nat                 -- the model's own: free values drawn so far (Config.free…)
  fld     : Regs                -- live register fields
  shd     : Regs                -- shadow fields of commit groups written and not committed
  cmt     : List Nat            -- keys of the COMMIT registers whose commit is PENDING
  evq     : List BlockEvent     -- block events not yet delivered
  mode    : Mode
  prev    : Mode
  pwr     : Power
  hre     : Hre
  chu     : AMap Chute
  trp     : Trap
  tim     : Tim
  mem     : Memory
  ticks   : AMap Nat            -- ticks since each tick timer's phase began
  hst     : AMap Chan           -- Hoist channels
  board   : Board
  dsp     : Dsp
  epo     : Epo
  ldr     : Ldr
  trk     : Trk
  gov     : Gov
  zyp     : Zyp
  vlt     : Vlt
  rng     : Rng
  cor     : Cor
  cre     : Cre
  nvm     : Nvm
  twn     : Twn
  upd     : Upd
  drm     : Drm
  tly     : Tly
  deriving DecidableEq, Repr

/-- Time zero. -/
def YTime.zero : YTime := ⟨0, 0, 0⟩

/-- A ring that is off. -/
def RingSt.off : RingSt := ⟨.off, 0, 0, 0, 0, 0, 0, 0, 0, 0, 0, false, [], [], []⟩

/-- A vector at reset. -/
def VecSt.rest : VecSt := ⟨false, false, 0⟩

/-- A chute at reset release: enabled with ALLOT credits given (rule R138). -/
def Chute.fresh (c : Nat) : Chute := ⟨[], none, none, chuteCapacity c, 0, (0, 0), 0, 0, 0, 0, []⟩

/-- Power state right after reset release. -/
def Power.reset : Power :=
  ⟨true, true, 0, true, false, false, false, false, .none, none, 0, 0, 0, false, false, false, false, false, false, []⟩

/-- The shadow block before the device has written it. -/
def ShadowBlk.zero : ShadowBlk := ⟨[], 0, 0, 0, 0, YTime.zero⟩

/-- The configuration space at reset: ECRC off and the completion timeout at 10 ms (rule R93). -/
def PcieCfg.reset : PcieCfg := ⟨128, 512, false, false, 10000⟩

/-- The Host Ring Engine right after reset release. -/
def Hre.reset : Hre :=
  ⟨[], [], false, 0, false, false, false, false, false, false, true, 0, 0, false, false, none, false, [], [], ShadowBlk.zero,
   PcieCfg.reset, []⟩

/-- The Trapdoor right after reset release, with the STOP latch clear: HOLD with cause IDLE (rule R350). -/
def Trap.reset : Trap := ⟨false, .hold, false, none, false, false, false, [], [], [], 0, false, 0, false, 0, none⟩

/-- The Timekeeper right after reset release. -/
def Tim.reset : Tim :=
  { now := YTime.zero, latch := YTime.zero, cal := 0, calUtc := 0, calOk := false, gnssOk := false, gnssLost := false, gnssOff := 0,
    sols := [], solFrom := none, solLast := none, ptpOk := false, ptpOff := 0, syncAt := none, lastSrc := 3, confirm := false,
    preset := false, inSeq := [], e0 := 0, lastOk := YTime.zero, lockFrom := none, slew := none, held := 0, refDom := none,
    stepFrom := none, ptpOn := false, ptpSeq := [], delayN := [], delayRsp := [], sentAnn := [], sentSync := [], pg := [], pulse := [],
    capAt := [], capLost := [], capLatch := [] }

/-- A channel at reset release (rule R161). -/
def Chan.reset : Chan := ⟨.idle, 0, 0, [], 0, [], none, none, [], []⟩

/-- Dispatch at reset release. -/
def Dsp.reset : Dsp := ⟨[], [], [], 0, 16, [], [], [], [], [], [], [], true⟩

/-- No epoch in progress. -/
def Epo.reset : Epo :=
  ⟨false, false, false, false, false, [], [], [], [], 0, [], .boot, .hold, false, [], [], [], [], [], [], 0, false, none, [], [], [],
   [], [], 0, 0, [], none, false⟩

/-- The Larder at reset release: every cell FREE. -/
def Ldr.reset : Ldr := ⟨[], [], [], [], [], 0, 0, [], false, false, [], [], []⟩

/-- Tracks and tasks at reset release: no tables (rule R298). -/
def Trk.reset : Trk := ⟨[], [], [], [], [0, 0, 0, 0, 0], [], some 0, false, false⟩

/-- The curve table at reset release (rule R344): curves 30 and 31 of one point each. -/
def Gov.curves0 : AMap Nat := [(961, 1311), (993, 7), (1084, 0x0101), (1086, 0x0201)]

/-- The Governor at reset release: every robot loop OFF. -/
def Gov.reset : Gov := ⟨[], [], [], Gov.curves0, Gov.curves0⟩

/-- The ZYP ports at reset release, with no roster stored. -/
def Zyp.reset : Zyp := ⟨[], [], [], [], [], [], 0, 0, false, [], 0, none, [], none, [], [], []⟩

/-- The Vault with no persistent record. -/
def Vlt.reset : Vlt := ⟨[], [], [], none, 0, 0, none, 0, []⟩

/-- The Ranging Baseband at reset release. -/
def Rng.reset : Rng := ⟨[], 0, 4, false, none, false, none, [], [], [], []⟩

/-- Base Corrections at reset release. -/
def Cor.reset : Cor :=
  ⟨⟨0, 0, 0, 0, 0, 0, 0, 0, 0⟩, 0, 0, 0, false, false, false, false, [], [Mount.zybase], [], [], 0, [], [], 0, [], [], none, none, none, 0, none, none, 0, 0, [], [], 0, 0⟩

/-- A filter that was reset. -/
def Filt.reset : Filt := ⟨.none, 0, 0, 0, 0, 0, none, none, 0, [], [], [], [], [], 0, 0⟩

/-- The Central RTK Engine at reset release. -/
def Cre.reset : Cre := ⟨[], [], [], none, [], [], [], []⟩


/-- Twin Control at reset release. -/
def Twn.reset : Twn :=
  ⟨false, false, false, false, 0, 0, 0, 0, [], [], 0, [], none, [], [], none, false, 0, none, none, false, false, false, false, false, 0, [], false, none, [], false⟩

/-- A settings area that was never written: the PANTRY defaults (rule R82). -/
def SettingsArea.blank : SettingsArea := ⟨0, 0, 0, false, [], none, [], [Mount.zybase], [], none, []⟩

/-- The boot record of a unit that runs its first image from region 0. -/
def BootRec.reset : BootRec := ⟨0, 0, 0, .empty, none, 0, 0, 0, 0, false, none, false⟩

/-- Non-volatile state that was never written. -/
def Nvm.reset : Nvm := ⟨0, none, BootRec.reset, ⟨0, false, 0, []⟩, [], 0, 0⟩

/-- The update block at reset release. -/
def Upd.reset : Upd := ⟨[], false, [], false, 0, 0, false, 0, 0, true⟩

/-- The stamp of nothing. -/
def CalStamp.zero : CalStamp := ⟨0, false⟩

/-- The Dormer at AON power-on. -/
def Drm.reset : Drm := ⟨[], [], [], [], [], false, false, none, none, 0⟩

/-- The last-word area at AON power-on. -/
def LastWord.reset : LastWord := ⟨false, false, false, 0, 0, 0, CalStamp.zero, 0, 0⟩

/-- An empty image. -/
def TlyBody.empty : TlyBody := ⟨[], [], [], [], 0⟩

/-- The Tally at reset release, with no flush bank ever written. -/
def Tly.reset : Tly :=
  ⟨TlyBody.empty, [], [], [], [], none, none, [], 0, none, none, LastWord.reset, false, 0, 0, 0, [], false, false⟩


/-- The machine right after reset release (rules R34, R68). -/
def State.reset : State :=
  { pending := [], ctr := 0, fld := [], shd := [], cmt := [], evq := [], mode := .boot, prev := .cellar,
    pwr := Power.reset, hre := Hre.reset, chu := [], trp := Trap.reset,
    tim := Tim.reset
,
    mem := [], hst := [], ticks := [], board := ⟨4294967296, 67108864⟩
,
    dsp := Dsp.reset
,
    epo := Epo.reset, ldr := Ldr.reset, trk := Trk.reset, gov := Gov.reset, zyp := Zyp.reset, vlt := Vlt.reset
,
    rng := Rng.reset, cor := Cor.reset, cre := Cre.reset, nvm := Nvm.reset, twn := Twn.reset
,
    upd := Upd.reset
,
    drm := Drm.reset, tly := Tly.reset }

end Sys2Proof.Machine
end

