-- ==== Sys2Proof/Machine/Ops.lean ====
section
/-! DEFINITION. The shared operations: register fields, faults and block events, counters, commits, chutes, host
completions and vectors, mode changes. Every meaning is built from these. -/

namespace Sys2Proof.Machine

/-- The outcome type of a meaning. -/
abbrev Out := Host.Outcome State Fault Refusal

/-! ## Registers -/

/-- Live value of a field. -/
def State.rd (s : State) (f : Fld) : Nat := s.fld.read f

/-- Whether a one-bit field is set. -/
def State.on (s : State) (f : Fld) : Bool := s.rd f != 0

/-- The state with a live field written. -/
def State.wr (s : State) (f : Fld) (v : Nat) : State := { s with fld := s.fld.write f v }

/-- Writes numbers to fields. -/
def State.wrEach (s : State) : List (Fld × Nat) → State
  | [] => s
  | p :: t => State.wrEach (s.wr p.1 p.2) t

/-- A bit as a number. -/
def bit (b : Bool) : Nat := if b then 1 else 0

/-- Shadow value of a field: what was last written to it, or its live value (rule R548). -/
def State.sh (s : State) (f : Fld) : Nat := (AMap.find f.key s.shd).getD (s.rd f)

/-- A write to the shadow of a field. -/
def State.wrShadow (s : State) (f : Fld) (v : Nat) : State := { s with shd := AMap.set f.key (v % 2 ^ f.w) s.shd }

/-- Bits [lo + w - 1 : lo] of a number. -/
def bits (v lo w : Nat) : Nat := v / 2 ^ lo % 2 ^ w

/-- A w-bit two's-complement number read as an integer. -/
def signed (w v : Nat) : Int := if v % 2 ^ w < 2 ^ (w - 1) then (v % 2 ^ w : Int) else (v % 2 ^ w : Int) - 2 ^ w

/-- An integer as a w-bit two's-complement number. -/
def unsigned (w : Nat) (i : Int) : Nat := (i % (2 ^ w : Int)).toNat

/-- The whole number that stands for num / den: the quotient where it is whole, else one the spec leaves open (it states no rounding). -/
def wholeRatio (num den : Int) : Int := if den ≠ 0 ∧ num % den = 0 then num / den else Config.quotient num den

/-- Rule R5: `a` is later than `b` on 32 bits. -/
def later (a b : Nat) : Bool := let d := (a + 4294967296 - b % 4294967296) % 4294967296; decide (0 < d ∧ d < 2147483648)

/-- Rule R5: `a` is later than or equal to `b`. -/
def laterEq (a b : Nat) : Bool := a % 4294967296 == b % 4294967296 || later a b

/-- The difference of two 16-bit ring indices. -/
def idxDiff (a b : Nat) : Nat := (a + 65536 - b % 65536) % 65536

/-- The present yard time; see `Timekeeper`. -/
def State.now (s : State) : YTime := s.tim.now

/-- Whether instant a is not after b. -/
def timeLe (a b : YTime) : Bool :=
  decide (a.sec < b.sec ∨ (a.sec = b.sec ∧ (a.ns < b.ns ∨ (a.ns = b.ns ∧ a.frac ≤ b.frac))))

/-- The next instant after t at a whole multiple of p ms, counted from the start of each second; p divides 1000. -/
def afterMs (p : Nat) (t : YTime) : YTime :=
  let n := (t.ns / (p * 1000000) + 1) * (p * 1000000)
  if n ≥ 1000000000 then ⟨t.sec + 1, 0, 0⟩ else ⟨t.sec, n, 0⟩

/-- The first instant not before t at a whole multiple of p ms. -/
def ceilMs (p : Nat) (t : YTime) : YTime := if t.ns % (p * 1000000) = 0 ∧ t.frac = 0 then t else afterMs p t

/-- The next instant at a multiple of p ms that is not before now, nor the one already passed. -/
def nextAt (p : Nat) (now : YTime) (last : Option YTime) : YTime :=
  let c := ceilMs p now
  if last = some c then afterMs p c else c

/-- k seconds pass in the VBAT domain: its calendar counter and TLY_MONO count on, and the wake timer counts down; the
last second ends with WAKE_TIMER_EXPIRE (rules R79, R443, R531). -/
def State.vbatSeconds (s : State) (k : Nat) : State :=
  let t := { s with tim := { s.tim with cal := s.tim.cal + k } }.wr Reg.TLY_MONO (s.rd Reg.TLY_MONO + k)
  if t.pwr.timerOn then t.wr Reg.CLK_WAKE_TIMER_SECONDS (max 1 (t.rd Reg.CLK_WAKE_TIMER_SECONDS - k)) else t

/-- Time goes on to an instant that lies ahead. -/
def State.advance (s : State) (t : YTime) : State :=
  if timeLe s.now t then ({ s with tim := { s.tim with now := t } }).vbatSeconds (t.sec - s.now.sec) else s

/-- Time goes on to the next whole second. -/
def State.wholeSecond (s : State) : State := s.advance (afterMs 1000 s.now)

/-- Little-endian bytes of a number (rule R3). -/
def le : Nat → Nat → List Nat
  | 0, _ => []
  | k + 1, v => v % 256 :: le k (v / 256)

/-- The number spelled by little-endian bytes. -/
def unle : List Nat → Nat
  | [] => 0
  | b :: t => b % 256 + 256 * unle t

/-- A 16-byte time stamp (rule R6). -/
def stamp (t : YTime) : List Nat := le 2 t.frac ++ le 4 t.ns ++ le 6 t.sec ++ le 4 0

/-- A time from its 16 bytes. -/
def stampOf (b : List Nat) : YTime := ⟨unle ((b.drop 6).take 6), unle ((b.drop 2).take 4), unle (b.take 2)⟩

/-- Bytes as 64-bit words, the last padded with zeros; `k` bounds the number of words. -/
def packWords : Nat → List Nat → List DWord
  | 0, _ => []
  | _, [] => []
  | k + 1, bs => BitVec.ofNat 64 (unle (bs.take 8)) :: packWords k (bs.drop 8)

/-- The 48 bytes of an HMAC-SHA-384. -/
def hmacBytes (key : Nat) (msg : List Nat) : List Nat := le 48 (Config.hmac384 key msg).toNat

/-- The 48 bytes of a SHA-384. -/
def shaBytes (msg : List Nat) : List Nat := le 48 (Config.sha384 msg).toNat

/-- The 16-byte AES-256-GCM tag of additional data, with empty plaintext (rule R393). -/
def gcmTag (key : Nat) (iv aad : List Nat) : List Nat := le 16 (Config.gcmMac key iv aad []).toNat

/-- Bytes under the key stream of AES-256-GCM, from its byte i on. -/
def gcmXor (key : Nat) (iv : List Nat) : Nat → List Nat → List Nat
  | _, [] => []
  | i, b :: t => (BitVec.ofNat 8 b ^^^ Config.gcmStream key iv i).toNat :: gcmXor key iv (i + 1) t

/-- AES-256-GCM open: the plaintext of a ciphertext whose tag verifies. -/
def gcmOpen (key : Nat) (iv aad cipher tag : List Nat) : Option (List Nat) :=
  if le 16 (Config.gcmMac key iv aad cipher).toNat = tag then some (gcmXor key iv 0 cipher) else none

/-- A packet of bytes. -/
def toWords (bs : List Nat) : List DWord := packWords ((bs.length + 7) / 8) bs

/-- Integer square root by bisection on `k` bits. -/
def sqrtBits (n : Nat) : Nat → Nat → Nat
  | 0, r => r
  | k + 1, r => let c := r + 2 ^ k; sqrtBits n k (if c * c ≤ n then c else r)

/-- The square root rounded down, for numbers below 2^128. -/
def isqrt (n : Nat) : Nat := sqrtBits n 64 0

/-! ## Status codes (rule R551) -/

namespace St
def done := 0x00
def pending := 0x01
def refusedMode := 0x02
def refusedLock := 0x03
def badLength := 0x04
def badFormat := 0x05
def authFail := 0x06
def noCredit := 0x07
def conflict := 0x08
def busError := 0x09
def abortPower := 0x0A
def stale := 0x0B
def keyRevoked := 0x0C
def oversize := 0x0D
def busy := 0x0E
def blocked := 0x0F
def eccUncorrected := 0x10
def integrity := 0x11
def timeUnknown := 0x12
end St

/-! ## Vectors, faults and block events -/

/-- State of vector v. -/
def State.vec (s : State) (v : Nat) : VecSt := AMap.get s.hre.vecs v VecSt.rest

/-- The state with vector v set. -/
def State.setVec (s : State) (v : Nat) (x : VecSt) : State := { s with hre := { s.hre with vecs := AMap.set v x s.hre.vecs } }

/-- Whether the device may make writes on the PCIe link: the link is up and Bus Master Enable is set (rule R118). -/
def State.busOpen (s : State) : Bool := s.on Reg.HRE_STATUS_LINK_UP && s.hre.bme && !s.hre.d3hot

/-- A signal on an MSI-X vector (rules R114, R115): a masked vector sets its pending bit; a signal inside the gap merges, and so does one
while no write may leave (rule R118, log entry 69); otherwise the message is sent and the gap begins. Vector 1 has no gap. -/
def State.signal (s : State) (v : Nat) : State :=
  if s.on (Reg.MSIX_MASK v) then s.wr (Reg.MSIX_PENDING v) 1
  else if ((s.vec v).inGap && v != 1) || !s.busOpen then s.setVec v { s.vec v with merged := true }
  else s.setVec v { s.vec v with sent := (s.vec v).sent + 1,
                                 inGap := v != 1 && s.rd (Reg.HRE_VEC_GAP_MIN_GAP v) != 0 }

/-- A block event (rules R108, R552), queued for its event ring. -/
def State.event (s : State) (source code data : Nat) : State :=
  { s with evq := s.evq ++ [⟨source, code, data, s.now⟩] }

/-- Sets a sticky fault bit. In most blocks each raise sends the block's event with CODE 1 + bit number. A bit of
HRE_FAULT sends a message on vector 0 instead (rule R125); of CHU_FAULT only UNCORR and SAT send events (rules R136,
R137); of HST_FAULT only a stopped counter sends one here, CODE 4 (rule R160); CLK_FAULT and DSP_FAULT send none. -/
def State.faultWith (s : State) (f : Fld) (data : Nat) : State :=
  let src := f.off / 65536
  if src = 1 ∨ src = 5 then s.wr f 1
  else if src = 2 then (s.wr f 1).signal 0
  else if src = 3 ∧ f.lo ≥ 2 then s.wr f 1
  else if src = 4 then (if f.lo = 4 then (s.wr f 1).event 4 4 data else s.wr f 1)
  else (s.wr f 1).event src (1 + f.lo) data

/-- `faultWith` with no data. -/
def State.fault (s : State) (f : Fld) : State := s.faultWith f 0

/-! ## Chutes: producer and consumer primitives (chapter 6) -/

/-- Chute n. -/
def State.chute (s : State) (n : Nat) : Chute := AMap.get s.chu n (Chute.fresh n)

/-- Words of a list of packets. -/
def pktWords : List Packet → Nat
  | [] => 0
  | p :: t => p.words.length + pktWords t

/-- Words in committed packets not yet read (CHU_FILL COMMITTED_WORDS). -/
def Chute.committed (c : Chute) : Nat := pktWords c.pkts + (c.reading.map (·.words.length)).getD 0

/-- The level latch at a test against a fill and its marks (rule R153). -/
def latchTest (fill high low : Nat) (old : Bool) : Bool := if fill ≥ high then true else if fill ≤ low then false else old

/-- The latches of the channels that wait at a chute are tested at every change of its fill (rule R153). -/
def Chute.tested (c : Chute) : Chute :=
  { c with watch := c.watch.map fun (p : Nat × Watch) =>
      if p.2.waits then (p.1, { p.2 with latch := latchTest c.committed p.2.high p.2.low p.2.latch }) else p }

/-- The state with chute n set. -/
def State.setChute (s : State) (n : Nat) (c : Chute) : State := { s with chu := AMap.set n c.tested s.chu }

/-- Words stored, committed or open. -/
def Chute.stored (c : Chute) : Nat := c.committed + (c.opened.map (·.words.length)).getD 0

/-- Committed packets of a chute not wholly read: a packet part-read counts among them (log entry 64). -/
def Chute.unread (c : Chute) : Nat := c.pkts.length + bit c.reading.isSome

/-- Whether chute n is enabled. -/
def State.chuteOn (s : State) (n : Nat) : Bool := s.on (Reg.CHU_CFG_ENABLE n)

/-- FREE_CREDIT of chute n (rule R132): the credits its producer holds unspent; a disabled chute has given none that
is out, so 0: DESIGN CHOICE (log entry 64). -/
def State.freeCredit (s : State) (n : Nat) : Nat := if s.chuteOn n then s.rd (Reg.CHU_CFG_ALLOT n) - (s.chute n).stored else 0

/-- k credits returned and given back (rule R132). -/
def Chute.giveBack (c : Chute) (k : Nat) : Chute :=
  { c with given := (c.given + k) % 4294967296, returned := (c.returned + k) % 4294967296 }

/-- Whether a hardware producer's packet of `words` finds its credit in chute n (rules R129, R130). -/
def State.fits (s : State) (n : Nat) (words : List DWord) : Bool :=
  (s.chute n).opened.isNone && s.chuteOn n && decide (s.rd (Reg.CHU_CFG_PKT_MAX n) ≤ s.freeCredit n)
    && decide (words.length ≤ s.rd (Reg.CHU_CFG_PKT_MAX n)) && !words.isEmpty

/-- The epoch of what is committed now: the one that the next boundary opens (rule R14). -/
def State.nextEpoch (s : State) : Nat := (s.rd Reg.GLB_EPOCH + 1) % 4294967296

/-- The packet of a hardware producer, started, written and committed whole; `lid` is the local ID its port resolved. -/
def State.putPacket (s : State) (n prio : Nat) (lid : Option Nat) (words : List DWord) : State :=
  s.setChute n { s.chute n with pkts := (s.chute n).pkts ++ [⟨prio, words, s.nextEpoch, lid, none⟩], status := St.done }

/-- A counter of chute n advances by 1 and stops at its largest value, with CNT_SAT and SAT (rule R137). -/
def State.chuteCount (s : State) (f : Fld) (n : Nat) : State :=
  let v := s.rd f
  if v ≥ 4294967295 then s
  else if v + 1 ≥ 4294967295 then ((s.wr f 4294967295).wr (Reg.CHU_STATUS_CNT_SAT n) 1).faultWith Reg.CHU_FAULT_SAT n
  else s.wr f (v + 1)

/-- A Tally event record on chute 48 (rule R528); without credit there it is dropped and counted (rules R19, R24). -/
def State.tallyRecord (s : State) (kind index value count : Nat) (data : List Nat) : State :=
  let w := toWords ([0x70, kind] ++ le 2 index ++ le 4 value ++ le 4 count ++ [data.length, 0, 0, 0] ++ data)
  if s.fits 48 w then s.putPacket 48 0 none w
  else (s.setChute 48 { s.chute 48 with status := if (s.chute 48).opened.isSome then St.busy else St.noCredit }).chuteCount (Reg.CHU_NOCREDIT 48) 48

/-- The Tally adds 1 to the bin of a value in histogram h (rules R527, R528). -/
def State.tallyAdd (s : State) (h value : Nat) : State := s.tallyRecord 1 h value 1 []

/-- The Tally is offered a value for extreme register x (rules R527, R528). -/
def State.tallyOffer (s : State) (x value : Nat) : State := s.tallyRecord 2 x value 0 []

/-- A counter has stopped: the block's saturation bit is set and the Tally gets a SATURATED record (rules R24, R137,
R528); INDEX is `index` and VALUE carries the source window. -/
def State.saturate (s : State) (sat : Fld) (index : Nat) : State :=
  (s.fault sat).tallyRecord 3 index (sat.off / 65536) 0 []

/-- Advances a counter that stops at its largest value; the advance that reaches it saturates. -/
def State.bumpBy (s : State) (f sat : Fld) (k : Nat) : State :=
  let v := s.rd f
  let top := 2 ^ f.w - 1
  if v ≥ top then s
  else if v + k ≥ top then (s.wr f top).saturate sat (f.off % 65536 / 4)
  else s.wr f (v + k)

/-- `bumpBy` 1. -/
def State.bump (s : State) (f sat : Fld) : State := s.bumpBy f sat 1

/-- Advances a counter that wraps. -/
def State.wrapBy (s : State) (f : Fld) (k : Nat) : State := s.wr f (s.rd f + k)

/-- Advances a counter that stops and has no saturation bit. -/
def State.stopBy (s : State) (f : Fld) (k : Nat) : State := s.wr f (min (s.rd f + k) (2 ^ f.w - 1))

/-- Advances a counter of chute n; the advance that stops it also sends the Tally its SATURATED record (rule R137). -/
def State.chuteBump (s : State) (f : Fld) (n : Nat) : State :=
  if s.rd f + 1 = 4294967295 then (s.chuteCount f n).tallyRecord 3 n 3 0 [] else s.chuteCount f n

/-- A producer operation of chute n ends with a status. -/
def State.chuteStatus (s : State) (n st : Nat) : State := s.setChute n { s.chute n with status := st }

/-- A hardware producer offers a packet to chute n with START, WRITEs and COMMIT (rules R129 to R131): BUSY on an open packet,
NO_CREDIT without credit for PKT_MAX words, BAD_LENGTH for no word, and OVERSIZE for a packet beyond its rewind mark, whose words come
back; each but BUSY is counted. The Bool says whether the packet was committed. -/
def State.offerFrom (s : State) (n prio : Nat) (lid : Option Nat) (words : List DWord) : State × Bool :=
  let top := s.rd (Reg.CHU_CFG_PKT_MAX n)
  if (s.chute n).opened.isSome then (s.chuteStatus n St.busy, false)
  else if !s.chuteOn n || decide (s.freeCredit n < top) then ((s.chuteStatus n St.noCredit).chuteBump (Reg.CHU_NOCREDIT n) n, false)
  else if words.isEmpty then ((s.chuteStatus n St.badLength).chuteBump (Reg.CHU_BAD_LENGTH n) n, false)
  else if top < words.length then
    ((s.setChute n ({ s.chute n with status := St.oversize }.giveBack top)).chuteBump (Reg.CHU_OVERSIZE n) n, false)
  else (s.putPacket n prio lid words, true)

/-- An offer of a packet that has no sender. -/
def State.offer (s : State) (n prio : Nat) (words : List DWord) : State × Bool := s.offerFrom n prio none words

/-- The packet just committed to chute n is noted as the frame it is. -/
def State.noteFrame (s : State) (n : Nat) (o : OwnFrame) : State :=
  let c := s.chute n
  match c.pkts.reverse with
  | p :: rest => s.setChute n { c with pkts := rest.reverse ++ [{ p with own := some o }] }
  | [] => s

/-- An offer whose loss the producing block does not count. -/
def State.send (s : State) (n prio : Nat) (bytes : List Nat) : State := (s.offer n prio (toWords bytes)).1

/-- An offer whose loss is counted in `drop` (rule R19). -/
def State.sendOr (s : State) (n prio : Nat) (bytes : List Nat) (drop : State → State) : State :=
  let r := s.offer n prio (toWords bytes)
  if r.2 then r.1 else drop r.1

/-- The committed packet a read starts: highest priority, first committed (rule R133), and the others. -/
def bestPacket : List Packet → Option (Packet × List Packet)
  | [] => none
  | p :: t =>
    match bestPacket t with
    | none => some (p, [])
    | some (q, r) => if p.prio ≥ q.prio then some (p, t) else some (q, p :: r)

/-- A packet part-read is read to its LAST word, before another packet starts (rule R133). -/
def Chute.finishRead (c : Chute) : Chute :=
  match c.reading with
  | some p => { c with reading := none, readSt := St.done }.giveBack p.words.length
  | none => c

/-- The consumer of chute n takes the packet whose content is `words`, when one is committed; otherwise the packet was committed and
read within this command, and its credits went and came. -/
def State.consume (s : State) (n : Nat) (words : List DWord) : State :=
  if !s.chuteOn n then s
  else
    let c := (s.chute n).finishRead
    s.setChute n ({ c with pkts := c.pkts.eraseP fun (p : Packet) => p.words == words, readSt := St.done }.giveBack words.length)

/-- The bytes of a packet. -/
def Packet.bytes (p : Packet) : List Nat := p.words.flatMap fun (w : DWord) => le 8 w.toNat

/-- The packet that a consumer of chute n would read next, once the part-read one is done with. -/
def State.nextPacket (s : State) (n : Nat) : Option Packet := (bestPacket (s.chute n).pkts).map Prod.fst

/-- The consumer of chute n takes the packet a read would start, whatever its content. -/
def State.takeAny (s : State) (n : Nat) : State :=
  let c := (s.chute n).finishRead
  match bestPacket c.pkts with
  | some (p, rest) => s.setChute n ({ c with pkts := rest, readSt := St.done }.giveBack p.words.length)
  | none => s

/-- A read of chute n meets an uncorrectable word in its packet p, `first` if no word of it had been read: the rest of the packet goes,
its credits return, and the packet is lost with status ECC_UNCORRECTED (rule R136). -/
def State.cutShort (s : State) (n : Nat) (p : Packet) (first : Bool) (rest : List Packet) : State :=
  let t := s.setChute n ({ s.chute n with reading := none, pkts := rest, readData := 0, readSt := St.eccUncorrected,
                                          readTag := 1 + 2 * bit first + 4 + 8 * p.prio + 128 }.giveBack p.words.length)
  (t.chuteBump (Reg.CHU_UNCORRECTED n) n).faultWith Reg.CHU_FAULT_UNCORR n

/-- The consumer of chute n takes the packet a read would start; one with an uncorrectable word is lost, and the Bool is false. -/
def State.takeChecked (s : State) (n : Nat) (ecc : Ecc) : State × Bool :=
  let t := s.setChute n (s.chute n).finishRead
  match ecc, bestPacket (t.chute n).pkts with
  | .uncorrectable, some (p, rest) => (t.cutShort n p true rest, false)
  | .corrected, some _ => ((s.takeAny n).chuteBump (Reg.CHU_CORRECTED n) n, true)
  | _, _ => (s.takeAny n, true)

/-- Rewinds the open packet of chute n, if any (rules R71, R130). -/
def Chute.rewind (c : Chute) : Chute :=
  match c.opened with
  | none => c
  | some o => { c with opened := none }.giveBack o.words.length

/-! ## Commits (rules R9, R548 to R550) -/

/-- Copies the shadow of each field to its live value and drops the shadow. -/
def State.apply (s : State) : List Fld → State
  | [] => s
  | f :: t => State.apply { s.wr f (s.sh f) with shd := AMap.del f.key s.shd } t

/-! ### Stored settings (rules R82, R520, R521) -/

/-- Copy c of settings area k. -/
def State.areaCopy (s : State) (k c : Nat) : SettingsArea := AMap.get s.nvm.areas (2 * k + c) SettingsArea.blank

/-- Settings area k as its reader takes it: the copy whose check holds, the later one when both hold (rule R520). -/
def State.areaAt (s : State) (k : Nat) : SettingsArea :=
  let a := s.areaCopy k 0
  let b := s.areaCopy k 1
  if a.good && b.good then (if later b.writes a.writes then b else a) else if a.good then a else if b.good then b else SettingsArea.blank

/-- Whether a settings area is valid for the running image. -/
def State.areaOk (s : State) (a : SettingsArea) : Bool := a.good && a.schema == s.upd.schema && a.lcGen == s.rd Reg.VLT_LIFECYCLE_LC_GEN

/-- A write to the settings area of the running image replaces the copy with the earlier WRITES (rule R520); an area that is not valid
starts empty. -/
def State.storeWith (s : State) (f : SettingsArea → SettingsArea) : State :=
  let k := s.upd.area
  let a := s.areaAt k
  let b := f (if s.areaOk a then a else SettingsArea.blank)
  let w0 := (s.areaCopy k 0).writes
  let w1 := (s.areaCopy k 1).writes
  let c := bit (later w0 w1)
  let d : SettingsArea :=
    { b with schema := s.upd.schema, lcGen := s.rd Reg.VLT_LIFECYCLE_LC_GEN, good := true, writes := ((if c = 1 then w0 else w1) + 1) % 4294967296 }
  { s with nvm := { s.nvm with areas := AMap.set (2 * k + c) d s.nvm.areas } }

/-- The COMMIT registers whose groups are stored, by BAR0 offset: the groups whose resets stored settings replace (rule R82). -/
def storedGroups : List Nat :=
  [0x28, 0x70048, 0x70050, 0x70058, 0xB000C, 0xD0008, 0xD000C, 0xE0208, 0xE0308, 0xF0308, 0x110030, 0x110064, 0x1100A0, 0x120010, 0x140010]

/-- The live fields of a group are written to the settings area. -/
def State.storeFields (s : State) (fs : List Fld) : State :=
  s.storeWith fun a => { a with regs := fs.foldl (fun (m : AMap (Fld × Nat)) f => AMap.set f.key (f, s.rd f) m) a.regs }

/-- A commit of the group whose result field is `res` and whose members are `fs`, with verdict `v`: DONE makes all
members live in one step, and stores those that are settings; any other verdict leaves them. -/
def State.commit (s : State) (res : Fld) (fs : List Fld) (v : Nat) : State :=
  if v = St.done then
    let t := s.apply fs
    (if storedGroups.contains res.off then t.storeFields fs else t).wr res v
  else s.wr res v

/-- Whether the commit of the group is PENDING. -/
def State.isPending (s : State) (res : Fld) : Bool := s.cmt.contains res.key

/-- The first verdict of a list of checks that fails. -/
def firstFail : List (Bool × Nat) → Nat
  | [] => St.done
  | (b, v) :: t => if b then v else firstFail t

/-- Accepts a commit that takes effect later: PENDING. -/
def State.setPending (s : State) (res : Fld) : State := { s with cmt := s.cmt ++ [res.key] }.wr res St.pending

/-- Ends a pending commit with its members made live. -/
def State.endPending (s : State) (res : Fld) (fs : List Fld) (v : Nat) : State :=
  { s with cmt := s.cmt.filter (· != res.key) }.commit res fs v

/-! ## Host completions (rules R104 to R107) -/

/-- Ring n. -/
def State.ring (s : State) (n : Nat) : RingSt := AMap.get s.hre.rings n RingSt.off

/-- The state with ring n set. -/
def State.setRing (s : State) (n : Nat) (r : RingSt) : State := { s with hre := { s.hre with rings := AMap.set n r s.hre.rings } }

/-- The opcodes each block accepts, by target, opcode and ring type (rule R104 and the opcode tables). -/
def acceptedOpcodes : List (Nat × Nat × Nat) :=
  [(0x00, 1, 0), (0x02, 0, 0), (0x02, 1, 0), (0x07, 1, 1), (0x07, 2, 1), (0x08, 1, 0), (0x08, 2, 2), (0x09, 1, 0),
   (0x09, 2, 0), (0x09, 3, 2), (0x0A, 1, 1), (0x0A, 2, 0), (0x0A, 3, 2), (0x0A, 4, 0), (0x0C, 1, 0), (0x0C, 2, 0),
   (0x0C, 3, 0), (0x0C, 4, 0), (0x0C, 5, 0), (0x0C, 6, 0), (0x0C, 7, 0), (0x0E, 1, 1), (0x0E, 2, 2), (0x13, 1, 2),
   (0x13, 2, 1), (0x13, 3, 1), (0x13, 4, 1), (0x13, 5, 0), (0x13, 6, 0), (0x14, 1, 1), (0x14, 2, 1), (0x14, 3, 0),
   (0x15, 1, 2), (0x15, 2, 1), (0x15, 3, 0)]

/-- Whether a descriptor fails with BAD_FORMAT on a ring of a type (rule R104). -/
def badDesc (ty : Nat) (d : Desc) : Bool :=
  d.rsv || decide (d.target.toNat > 0x17) || decide (d.flags.toNat > 3) ||
    !(acceptedOpcodes.contains (d.target.toNat, d.opcode.toNat, ty))

/-- Whether a descriptor carries FENCE. -/
def fenced (d : Desc) : Bool := bits d.flags.toNat 0 1 == 1

/-- Descriptors that fail their checks end as soon as they may start: at once, or with FENCE once every earlier one of the ring has
completed (rule R104); `waits` says that an earlier one has not. -/
def endBad (ty : Nat) (waits : Bool) : List SubDesc → List SubDesc
  | [] => []
  | x :: t =>
    let y := if !x.started && badDesc ty x.desc && !(fenced x.desc && waits) then { x with started := true, done := some ⟨St.badFormat, 0, 0⟩ } else x
    y :: endBad ty (waits || y.done.isNone) t

/-- Marks the started, unfinished descriptor of an index as finished. -/
def markDone (index : Nat) (res : HostResult) : List SubDesc → List SubDesc
  | [] => []
  | x :: t => if x.index = index ∧ x.done = none then { x with started := true, done := some res } :: t
              else x :: markDone index res t

/-- Whether the session a command was fetched in is the one in force. -/
def State.inSession (s : State) (c : Cmd) : Bool := s.hre.claimed && s.hre.session == c.session.toNat

/-- The descriptors of a command's ring in its session, in index order: those of the ring, or those that outlived the session. -/
def State.descs (s : State) (c : Cmd) : List SubDesc :=
  if s.inSession c then (s.ring c.ring.val).sub
  else (s.hre.old.filter fun (o : OldDesc) => o.session == c.session.toNat && o.ring == c.ring.val).map (·.desc)

/-- The epoch that a command's descriptor was fetched for (rules R14, R106). -/
def State.fetchEpoch (s : State) (c : Cmd) : Nat :=
  (((s.descs c).find? (fun (x : SubDesc) => x.index == c.index.toNat)).map (·.epoch)).getD s.nextEpoch

/-- Whether an old descriptor is a command's. -/
def OldDesc.isOf (o : OldDesc) (c : Cmd) : Bool := o.session == c.session.toNat && o.ring == c.ring.val && o.desc.index == c.index.toNat

/-- A descriptor completes with a status, the bytes moved and RESULT; its entry is written by COMPLETION_WRITE. One whose session has
ended gets no entry (rule R117). -/
def State.finish (s : State) (c : Cmd) (status doneLen result : Nat) : State :=
  let r : HostResult := ⟨status, doneLen, result⟩
  let g := s.ring c.ring.val
  let t := if s.inSession c then
      s.setRing c.ring.val { g with sub := endBad (s.rd (Reg.HRE_RING_CFG_TYPE c.ring.val)) false (markDone c.index.toNat r g.sub) }
    else { s with hre := { s.hre with old := s.hre.old.filter fun (o : OldDesc) => !o.isOf c } }
  { t with hre := { t.hre with last := some (c.ring.val, c.index.toNat, r) } }

/-- A DATA_OUT command ends DONE with these bytes in its host buffer (rule R122); of a session that has ended nothing is written. -/
def State.finishData (s : State) (c : Cmd) (bytes : List Nat) : State :=
  let t := s.finish c St.done bytes.length 0
  if s.inSession c then { t with hre := { t.hre with dataOut := bytes } } else t

/-- Ring types (rule R103). -/
inductive RingKind where
  | command | dataIn | dataOut
  deriving DecidableEq, Repr

/-- The code of a ring type. -/
def RingKind.code : RingKind → Nat
  | .command => 0
  | .dataIn => 1
  | .dataOut => 2

/-- Whether the descriptor at `index` may not start: it has started before or was never fetched, or an earlier descriptor of the ring
keeps it back, an unstarted one to the same block, or with FENCE any unfinished one (rules R104, R106). -/
def heldBack (index target : Nat) (fence : Bool) : List SubDesc → Bool
  | [] => true
  | x :: t =>
    if x.index = index then x.started
    else (x.done.isNone && (fence || (x.desc.target.toNat % 32 == target && !x.started))) || heldBack index target fence t

/-- Whether a command's descriptor may start now. -/
def State.mayStart (s : State) (c : Cmd) : Bool := !heldBack c.index.toNat (c.desc.target.toNat % 32) (fenced c.desc) (s.descs c)

/-- Marks the descriptor at an index as started. -/
def markStarted (index : Nat) : List SubDesc → List SubDesc
  | [] => []
  | x :: t => if x.index = index then { x with started := true } :: t else x :: markStarted index t

/-- The state in which a descriptor's work starts. -/
def State.begun (s : State) (c : Cmd) : State :=
  if s.inSession c then s.setRing c.ring.val { s.ring c.ring.val with sub := markStarted c.index.toNat (s.ring c.ring.val).sub }
  else { s with hre := { s.hre with old := s.hre.old.map fun (o : OldDesc) =>
                           if o.isOf c then { o with desc := { o.desc with started := true } } else o } }

/-- A descriptor reaches its block (rules R104 to R106, R122), which its fetch has found well-formed: it waits for the earlier ones it
follows, and works once; then no byte on a data ring is BAD_LENGTH, a bus error on the payload is BUS_ERROR with the bytes moved before
it, and otherwise the block does its work. -/
def State.hostCmd (s : State) (c : Cmd) (k : RingKind) (body : State → State) : State :=
  if !s.mayStart c then s
  else
    let t := s.begun c
    if k ≠ .command ∧ c.desc.length = 0 then t.finish c St.badLength 0 0
    else match c.err with
      | some n => t.finish c St.busError n 0
      | none => body t

/-! ## Free values -/

/-- Draws a free value (log entry 4) and hands it on. -/
def State.draw (s : State) (kind : Nat) : Nat × State := (Config.freeValue kind s.ctr, { s with ctr := s.ctr + 1 })

/-- An uncorrectable LPDDR4X read (rule R547); the content of the record on chute 62 is not given: a free value (log entry 4). -/
def State.memUncorr (s : State) (addr : Nat) : State :=
  let t := ((s.stopBy Reg.MEM_ECC_UNCORR 1).wr Reg.MEM_LAST_UNCORR addr).event 0x16 1 addr
  let r := t.draw 9
  r.2.send 62 0 (le 16 r.1)

/-! ## Modes -/

/-- The 4-bit code of a mode (rule R58). -/
def Mode.code : Mode → Nat
  | .cellar => 0 | .dormerWatch => 1 | .boot => 2 | .pantry => 3 | .survey => 4 | .hostedIdle => 5 | .fleetRun => 6
  | .fleetHold => 7 | .twinStandby => 8 | .rejoin => 9 | .update => 10 | .faultSafe => 11

/-- A main mode: the main domain is powered. -/
def Mode.main : Mode → Bool
  | .cellar => false | .dormerWatch => false | _ => true

/-- A mode in which decision epochs commit (rule R348). -/
def Mode.commits : Mode → Bool
  | .fleetRun => true | .fleetHold => true | .faultSafe => true | _ => false

/-- The fleet modes: the mode serves a fleet (rules R19 and R456). -/
def Mode.fleet : Mode → Bool
  | .fleetRun => true | .fleetHold => true | _ => false

/-- A block that runs only in the main modes is unpowered in the others: its command then has no effect. -/
def State.whenMain (s : State) (body : State → State) : State := if s.mode.main && s.pwr.mainPowered then body s else s

/-- A trigger of lower rank waits while PFAIL handling runs, which ends with the main domain (rules R60, R62, R74). -/
def State.unlessPfail (s : State) (body : State → State) : State := if s.pwr.pfailLatched then s else body s

/-- Whether outputs have stopped in PFAIL handling or a commanded power-down (rules R71, R73). -/
def State.outputsStopped (s : State) : Bool :=
  s.pwr.pfailLatched || (match s.pwr.pdown with | some d => d.outputsOff | none => false)

/-- MEAS_RUNNING (rule R202): measurement epochs run from the start of the image while PLL_ADC is locked, until the outputs stop. -/
def State.showMeas (s : State) : State :=
  s.wr Reg.RNG_STATUS_MEAS_RUNNING (bit (s.on Reg.CLK_SRC_STATUS_PLL_ADC_LOCK && s.upd.image && !s.outputsStopped))

/-- The mode changes; vector 0 signals it (vector table). -/
def State.enter (s : State) (m : Mode) : State := { s with prev := s.mode, mode := m }.signal 0

end Sys2Proof.Machine
end

