-- ==== Sys2Proof/Machine/Flush.lean ====
section
/-! DEFINITION. The triggers of a Tally flush (rules R533, R535, R539), which other blocks call. -/

namespace Sys2Proof.Machine

/-- RESULT of TLY_CTRL. -/
def State.tlyResult (s : State) (v : Nat) : State := s.wr Reg.TLY_CTRL_RESULT v

/-- Completes commands of the FLUSH opcode. -/
def State.finishAll (s : State) (v : Nat) : List Cmd → State
  | [] => s
  | c :: t => State.finishAll (s.finish c v 0 0) v t

/-- Answers those who asked for a flush. -/
def State.answerFlush (s : State) (q : FlushReq) (v : Nat) : State :=
  let t := s.finishAll v q.cmds
  if q.ctrl then t.tlyResult v else t

/-- A request merged into another, whose cause is kept. -/
def FlushReq.merge (p q : FlushReq) : FlushReq := { p with cmds := p.cmds ++ q.cmds, ctrl := p.ctrl || q.ctrl, retest := p.retest || q.retest }

/-- A flush trigger: suppressed in DEGRADED but for RETEST; merged into a flush asked for or in progress; PFAIL and POWER_DOWN
abandon a flush that has not passed its commit point, and none follows a POWER_DOWN flush that has. -/
def State.flushTrigger (s : State) (q : FlushReq) : State :=
  let power := q.cause = 1 ∨ q.cause = 2
  let set (r : FlushReq) (f : Option TlyFlush) : State := { s with tly := { s.tly with want := some r, flush := f } }
  if s.on Reg.TLY_STATUS_DEGRADED ∧ !q.retest then
    let l := s.tly.last
    ({ s with tly := { s.tly with last := { l with suppressed := l.suppressed + 1 } } }).answerFlush q St.eccUncorrected
  else if q.cause = 1 ∧ s.tly.powerDone then s
  else match s.tly.flush with
    | some f =>
      if power ∧ !f.committed then (set (q.merge f.req) none).wr Reg.TLY_STATUS_FLUSHING 0
      else if power then set (match s.tly.want with | some w => q.merge w | none => q) (some f)
      else if f.committed then s.answerFlush q St.done
      else { s with tly := { s.tly with flush := some { f with req := f.req.merge q } } }
    | none =>
      match s.tly.want with
      | some w => set (if power ∧ !(w.cause = 1 ∨ w.cause = 2) ∨ q.cause = 1 then q.merge w else w.merge q) none
      | none => set q none

/-- A trigger that nobody waits for. -/
def State.flushFor (s : State) (cause : Nat) : State := s.flushTrigger ⟨cause, [], false, false⟩

end Sys2Proof.Machine
end

