-- ==== Sys2Proof/Machine/Yard.lean ====
section
/-! DEFINITION. What several yard blocks share: keys, ZYP frames as the device sends them (chapter 17), and the
restrictions of the Trapdoor with what they do at once (chapter 15). -/

namespace Sys2Proof.Machine

/-! ## Directions -/

/-- 2³⁰. -/
def unit30 : Int := 1073741824

/-- Direction of a heading: exact where axis-parallel (rule R299). -/
def headingVec (h : Nat) : Int × Int :=
  if h = 0 then (unit30, 0) else if h = 90000 then (0, unit30) else if h = 180000 then (-unit30, 0)
  else if h = 270000 then (0, -unit30) else Config.headingDir h

/-! ## Keys (rules R482 to R484) -/

/-- An empty key slot. -/
def Slot.empty : Slot := ⟨0, 0, 0, none, 0, false, false, 0⟩

/-- Key slot n. -/
def State.slot (s : State) (n : Nat) : Slot := AMap.get s.vlt.slots n Slot.empty

/-- Whether slot n holds a key whose chain of parents is intact; `fuel` bounds the chain (rule R484). -/
def State.slotValid (s : State) : Nat → Nat → Bool
  | 0, _ => false
  | fuel + 1, n =>
    let k := s.slot n
    k.kind != 0 && (match k.parent with | none => true | some p => k.parentGen == (s.slot p).gen && State.slotValid s fuel p)

/-- The key of slot n, if the slot is valid. -/
def State.keyOf (s : State) (n : Nat) : Option Nat := if s.slotValid 8 n then some (s.slot n).key else none

/-- An ASCII label as bytes. -/
def ascii (t : String) : List Nat := t.toList.map Char.toNat

/-- The robot key of a federation ID (key derivation table). -/
def State.robotKey (s : State) (fed : Nat) : Option Nat :=
  (s.keyOf 2).map fun k => Config.hkdf k [] (ascii "ZY robot" ++ le 4 fed)

/-- Lifecycle state code (rule R496). -/
def State.life (s : State) : Nat := s.rd Reg.VLT_LIFECYCLE_STATE

/-! ## ZYP frames sent by the device -/

/-- SEAT of this unit: STRAP3 (rule R80). -/
def State.seat (s : State) : Nat := bits (s.rd Reg.PIN_STRAP_STATUS_STRAP) 3 1

/-- Whether LIVE_OUT is asserted (rule R453): in every main mode of a twin-configured unit with its twin-link key, until a stop. -/
def State.liveOut (s : State) : Bool :=
  s.on Reg.FJR_CFG_TWIN_EN && s.mode.main && s.pwr.mainPowered && !s.twn.stopped && (s.keyOf 6).isSome

/-- Whether this unit is the active (rule R454): in FLEET_RUN, FLEET_HOLD and UPDATE, and in FAULT_SAFE entered from them by a
Trapdoor STOP alone. -/
def State.active (s : State) : Bool :=
  match s.mode with
  | .fleetRun => true
  | .fleetHold => true
  | .update => true
  | .faultSafe => !s.pwr.core && (s.prev == .fleetRun || s.prev == .fleetHold || s.prev == .update)
  | _ => false

/-- Whether CLAIM_OUT is asserted (rules R454, R456): also while FLEET_START arbitrates. -/
def State.claimOut (s : State) : Bool := s.liveOut && (s.active || s.twn.arb)

/-- ROLE of FJR_STATUS: 0 lone, 1 mirrored active, 2 standby, 3 rejoining. -/
def State.role (s : State) : Nat :=
  if s.mode = .twinStandby then 2 else if s.mode = .rejoin then 3 else if s.twn.mirrored then 1 else 0

/-- The yard ID in force (rules R389, R420). -/
def State.yardId (s : State) : Nat :=
  if s.rd Reg.LNA_ZYP_CFG_YARD_ID = 0 then s.rd Reg.GLB_CFG_FED_ID else s.rd Reg.LNA_ZYP_CFG_YARD_ID

/-- The yard broadcast address. -/
def broadcastId : Nat := 0x3FFFF

/-- A frame header (rule R388). -/
def zypHeader (typ flags lid src dst boot seq epoch : Nat) : List Nat :=
  [1, typ, flags, lid] ++ le 4 src ++ le 4 dst ++ le 4 boot ++ le 4 seq ++ le 4 epoch ++ le 4 0

/-- The 12-byte nonce (rule R393). -/
def zypNonce (typ seat src boot seq : Nat) : List Nat :=
  le 4 seq ++ le 4 boot ++ le 3 (src % 262144 + 262144 * seat) ++ [typ]

/-- A tagged frame of this unit, or none where rule R394, R489 or R499 says that no such frame is sent. -/
def State.frame (s : State) (typ lid dst boot seq : Nat) (key : Option Nat) (body : List Nat) : Option (List Nat) :=
  let ep := s.rd Reg.GLB_EPOCH
  if s.life ≤ 1 then
    if typ = 0x10 ∨ typ = 0x11 ∨ typ = 0x17 then
      some (zypHeader typ (1 + 2 * s.seat) lid s.yardId dst boot seq ep ++ body ++ List.replicate 16 0)
    else none
  else if s.life = 2 then
    key.map fun k =>
      let m := zypHeader typ (2 * s.seat) lid s.yardId dst boot seq ep ++ body
      m ++ gcmTag k (zypNonce typ s.seat s.yardId boot seq) m
  else none

/-- The limited broadcast address at UDP_PORT (rule R387). -/
def State.everyone (s : State) : Endpoint := ⟨0xFFFFFFFF#32, BitVec.ofNat 16 (s.rd Reg.LNA_ZYP_PORT_UDP_PORT)⟩

/-- A frame leaves on a LAN port (rule R387): its producer writes it to the port's transmit chute at a priority, where it needs its
credit and a loss is counted, and the port takes it. Nothing leaves without a link or before LAN admission (rule R415). -/
def State.sendLanAt (s : State) (p prio : Nat) (dst : Endpoint) (f : List Nat) : State :=
  if s.zyp.lanUp.contains p && s.on Reg.CLK_ADMIT_STATUS_LAN_ADMITTED then
    let r := s.offer (8 + 4 * p) prio (toWords f)
    if r.2 then
      let t := r.1.consume (8 + 4 * p) (toWords f)
      { t with zyp := { t.zyp with txLog := t.zyp.txLog ++ [(⟨p, some dst, f⟩ : SentFrame)] } }.wrapBy (Reg.PORT_ZYP_TX p) 1
    else r.1
  else s

/-- A broadcast frame that the spec gives no priority leaves at priority 0. -/
def State.sendLan (s : State) (p : Nat) (f : List Nat) : State := s.sendLanAt p 0 s.everyone f

/-- A frame to robot lid leaves on LAN p to where its latest accepted frame there came from, and nowhere before one (rule R387). -/
def State.sendTo (s : State) (p lid : Nat) (f : List Nat) : State :=
  match AMap.find (lid * 2 + p) s.zyp.reach with
  | some e => s.sendLanAt p 0 e f
  | none => s

/-- A frame counts in a counter of its port. -/
def State.portCount (s : State) (f : Nat → Fld) (p : Nat) : State := s.bump (f p) (Reg.PORT_CNT_OVF_CNT_SAT p)

/-- A frame dropped at a LAN: counted by the admission registers until BOOT completes, then by the LAN block (rules R69, R398). -/
def State.dropFrame (s : State) (p : Nat) : State :=
  let sat := Reg.PORT_CNT_OVF_DROP_SAT p
  if s.on Reg.CLK_ADMIT_STATUS_BOOT_DONE then s.bump (Reg.PORT_DROP p) sat
  else s.bump (if p = 0 then Reg.CLK_ADMIT_DROP_A else Reg.CLK_ADMIT_DROP_B) sat

/-- A frame that a block takes from a LAN: dropped and counted while the LANs let none in (rules R68, R69, R71, R73). -/
def State.fromLan (s : State) (lanB : Bool) (body : State → State) : State := if s.pwr.lanOpen then body s else s.dropFrame (bit lanB)

/-- Whether BOOT of this unit will end in REJOIN as the peer now stands: a twin whose peer is live and in a fleet mode
(rules R61, R456). -/
def State.headsRejoin (s : State) : Bool :=
  s.on Reg.FJR_CFG_TWIN_EN && s.on Reg.FJR_STATUS_LIVE_IN && s.on Reg.FJR_STATUS_CLAIM_IN

/-- A unit in REJOIN, or on its way there, sends no beacon and no ZYP frame (rule R70). -/
def State.mute (s : State) : Bool := s.mode == .rejoin || (s.mode == .boot && s.headsRejoin)

/-- Whether this unit drives the safety radio (rules R73, R85, R415, R455). -/
def State.driveRadio (s : State) : Bool :=
  s.on Reg.PIN_STRAP_STATUS_RADIO_ON && s.mode.main && s.pwr.mainPowered && !s.mute && !s.trp.driveLow &&
    (if s.on Reg.FJR_CFG_TWIN_EN then s.claimOut || (s.mode == .pantry && !(s.seat == 1 && s.on Reg.FJR_STATUS_LIVE_IN))
     else s.on Reg.CLK_ADMIT_STATUS_BEACON_ON)

/-- A frame is written to the radio's transmit chute 17 at its priority (rule R413). -/
def State.sendRadio (s : State) (prio : Nat) (f : List Nat) : State := if s.driveRadio then s.send 17 prio f else s

/-- The next SEQ of a pair-stream counter, and the state with it used (rule R390). -/
def State.pairSeq (s : State) (key : Nat) : Nat × State :=
  let q := AMap.get s.zyp.seq key 0
  (q, { s with zyp := { s.zyp with seq := AMap.set key (q + 1) s.zyp.seq } })

/-- A pair-stream frame to one robot leaves on each LAN where it is known (rules R387, R391). -/
def State.sendPair (s : State) (typ lid : Nat) (body : List Nat) : State :=
  match AMap.find lid s.zyp.roster with
  | none => s
  | some r =>
    let q := s.pairSeq (r.fed * 32 + typ)
    if s.mute || s.twn.stopped then q.2 else
    match q.2.frame typ lid r.fed (s.rd Reg.LNA_ZYP_BOOT) q.1 (s.robotKey r.fed) body with
    | none => s
    | some f => (q.2.sendTo 0 lid f).sendTo 1 lid f

/-- A frame of the pair stream to the yard broadcast address, under the beacon key (rules R390, R393). -/
def State.broadcast (s : State) (typ : Nat) (body : List Nat) : Option (List Nat) × State :=
  let q := s.pairSeq (broadcastId * 32 + typ)
  if s.twn.stopped then (none, s) else (q.2.frame typ 255 broadcastId (s.rd Reg.LNA_ZYP_BOOT) q.1 (s.keyOf 5) body, q.2)

/-! ## Frames of the Fjaryr link -/

/-- Credits of a link chute come and go for a link frame of n payload bytes (rules R139, R459): `base` 18 carries the transmit
side, 19 the receive side, and the snapshot and journal types use the chute two above. -/
def State.linkChute (s : State) (base typ n : Nat) : State :=
  let c := if typ ≥ 0x20 then base + 2 else base
  if s.chuteOn c then s.setChute c ((s.chute c).giveBack ((43 + n) / 8)) else s

/-- The 96-bit nonce of a link frame (rule R459). -/
def linkNonce (seat session xseq : Nat) : List Nat := le 8 xseq ++ le 3 session ++ [seat]

/-- The header of a link frame (rule R459, the link header table). -/
def linkHeader (typ seat len lseq lack xseq : Nat) : List Nat := [typ, seat] ++ le 2 len ++ le 4 lseq ++ le 4 lack ++ le 8 xseq

/-- A link frame as the lanes carry it (rule R459): its header, its payload encrypted under the twin-link key, and the tag over both;
none without that key. -/
def State.linkWire (s : State) (lseq typ : Nat) (payload : List Nat) : Option (List Nat) :=
  (s.keyOf 6).map fun k =>
    let h := linkHeader typ s.seat payload.length lseq s.twn.rxSeq s.twn.xseq
    let iv := linkNonce s.seat s.twn.session s.twn.xseq
    let c := gcmXor k iv 0 payload
    h ++ c ++ le 16 (Config.gcmMac k iv h c).toNat

/-- A frame leaves on the link, with the next XSEQ (rules R459, R460). -/
def State.linkOut (s : State) (lseq typ : Nat) (payload : List Nat) : State :=
  { s with twn := { s.twn with xseq := s.twn.xseq + 1, sent := s.twn.sent ++ (s.linkWire lseq typ payload).toList } }

/-- A new frame of the delivery sequence leaves: it is kept until the peer acknowledges it (rule R460). -/
def State.linkPut (s : State) (typ : Nat) (payload : List Nat) : State :=
  let t := (s.linkOut s.twn.txSeq typ payload).linkChute 18 typ payload.length
  { t with twn := { t.twn with tx := t.twn.tx ++ [(typ, payload)], txSeq := (t.twn.txSeq + 1) % 4294967296 } }

/-- Sends a frame on a link that is UP, by a unit whose LIVE_OUT has not stopped (rules R453, R460). -/
def State.linkSend (s : State) (typ : Nat) (payload : List Nat) : State :=
  if s.twn.stopped || s.rd Reg.FJR_STATUS_LINK < 2 then s else s.linkPut typ payload

/-- Content of any length in frames of at most 8,156 payload bytes (rule R459), each with the same head; `k` bounds their number. -/
def State.linkSplit (s : State) (typ : Nat) (head : List Nat) : Nat → List Nat → State
  | 0, _ => s
  | k + 1, b =>
    let n := 8156 - head.length
    let t := s.linkSend typ (head ++ b.take n)
    if b.length ≤ n then t else State.linkSplit t typ head k (b.drop n)

/-- Content of any length in as many frames as it needs. -/
def State.linkAll (s : State) (typ : Nat) (head body : List Nat) : State := s.linkSplit typ head (body.length + 1) body

/-- The code of a level. -/
def Level.code : Level → Nat
  | .go => 0 | .hold => 1 | .stop => 2

/-- Own states as 2-bit entries. -/
def State.ownBytes (s : State) : List Nat :=
  (List.range 64).map fun i => ((List.range 4).map fun k => s.rd (Reg.TRP_ROBOT_OWN (4 * i + k)) * 4 ^ k).sum

/-- A mirrored active tells its standby the fleet state and the own states (rule R468). -/
def State.sendState (s : State) : State :=
  if s.twn.mirrored then s.linkSend 0x03 ([s.trp.fleet.code, 0, 0, 0] ++ s.ownBytes) else s

/-- What a restriction tells the peer: RESTRICT from a standby, STATE from an active (rule R468). -/
def State.tellPeer (s : State) (stop : Bool) (r : Option Nat) (cause : Fld) : State :=
  if s.mode = .twinStandby then s.linkSend 0x04 ([bit stop, bit r.isSome, r.getD 255, 0] ++ le 4 (2 ^ cause.lo)) else s.sendState

/-! ## Records of an epoch -/

/-- A record of the epoch goes to its chute and into the stream of its digest class (rule R464). -/
def State.record (s : State) (cls chute : Nat) (bytes : List Nat) : State :=
  let t := s.send chute 0 bytes
  { t with epo := { t.epo with recs := t.epo.recs ++ [(cls, bytes)] } }

/-! ## Modes with the fleet blocks -/

/-- A robot loop that becomes OFF at once, with I and U 0; its command sequence goes on (rule R345). -/
def Loop.offNow (l : Loop) : Loop :=
  { l with mode := .off, i := 0, u := 0, e := 0, cmdEp := none, ovr := false, winding := false, slew := false, speed := false }

/-! ## The caster's clients (rules R217, R227) -/

/-- Whether RTCM and the caster are served. -/
def State.corServes (s : State) : Bool :=
  s.mode == .pantry || s.mode == .hostedIdle || s.mode.fleet || s.mode == .twinStandby || s.mode == .update

/-- COR_CLIENTS and the two CASTER_OPEN bits: no credentials in force (rule R228), and clients served without authentication (rule
R92). -/
def State.showCaster (s : State) : State :=
  ((s.wr Reg.COR_CLIENTS s.cor.clients.length).wr Reg.COR_STATUS_CASTER_OPEN (bit s.cor.users.isEmpty)).wr
    Reg.PIN_PANTRY_STATUS_CASTER_OPEN (bit (s.cor.users.isEmpty && s.corServes))

/-- Closes the clients that a test names, each counted in COR_CLIENT_CLOSED. -/
def State.closeClients (s : State) (gone : CastClient → Bool) : State :=
  let n := (s.cor.clients.filter gone).length
  ({ s with cor := { s.cor with clients := s.cor.clients.filter fun c => !gone c } }.bumpBy Reg.COR_CLIENT_CLOSED Reg.COR_FAULT_CNT_SAT n).showCaster

/-- What a mode means for Base Corrections (rule R227): FAULT_SAFE closes every connection and stops the output. -/
def State.corMode (s : State) : State :=
  if s.mode = .faultSafe then ((s.closeClients fun _ => true).wr Reg.COR_STATUS_RTCM_ON 0).wr Reg.COR_STATUS_COMPACT_ON 0
  else s.showCaster

/-- A mode change with what it does at once in the fleet blocks: leaving FLEET_RUN and FLEET_HOLD turns every robot loop
OFF (rule R345) and freezes deadline time; entering resumes it (rule R318); entry to FAULT_SAFE starts a FAULT flush (rule R533). The
caster follows the mode. In PFAIL handling a lower trigger waits, so that the mode stands (rules R60, R62). -/
def State.enterMode (s : State) (m : Mode) : State :=
  if s.pwr.pfailLatched then s
  else
  let e := s.rd Reg.GLB_EPOCH
  let t0 := (s.enter m).corMode
  let t := if m = .faultSafe then t0.flushFor 4 else t0
  if s.mode.fleet && !m.fleet then
    { t with gov := { t.gov with loops := t.gov.loops.map fun (k, l) => (k, l.offNow),
                                 loops0 := t.gov.loops0.map fun (k, l) => (k, l.offNow) }, trk := { t.trk with frozen := some e } }
  else if !s.mode.fleet && m.fleet then
    match t.trk.frozen with
    | none => t
    | some z =>
      let shift := fun (r : TaskRec) => if r.timer then { r with dead := (r.dead + (e + 4294967296 - z % 4294967296)) % 4294967296 } else r
      { t with trk := { t.trk with frozen := none, tasks := t.trk.tasks.map fun (k, r) => (k, shift r) } }
  else t

/-! ## Restrictions (rules R347 to R351, R356) -/

/-- Cause bits as TRP_STOP_CAUSE and TRP_HOLD_CAUSE show them. -/
def State.stopCause (s : State) : Nat :=
  s.rd Reg.TRP_STOP_CAUSE_IN_A + 2 * s.rd Reg.TRP_STOP_CAUSE_IN_B + 4 * s.rd Reg.TRP_STOP_CAUSE_DISCREPANCY
    + 8 * s.rd Reg.TRP_STOP_CAUSE_DORMER + 16 * s.rd Reg.TRP_STOP_CAUSE_HOST + 32 * s.rd Reg.TRP_STOP_CAUSE_LOCKSTEP
    + 64 * s.rd Reg.TRP_STOP_CAUSE_TWIN + 128 * s.rd Reg.TRP_STOP_CAUSE_CLOCK + 256 * s.rd Reg.TRP_STOP_CAUSE_THERM
    + 512 * s.rd Reg.TRP_STOP_CAUSE_OUT_FAULT + 1024 * s.rd Reg.TRP_STOP_CAUSE_PERSIST + 2048 * s.rd Reg.TRP_STOP_CAUSE_DORMANT
    + 65536 * s.rd Reg.TRP_STOP_CAUSE_RULE

/-- The fields of TRP_HOLD_CAUSE, bit 0 first. -/
def holdCauses : List Fld :=
  [Reg.TRP_HOLD_CAUSE_IDLE, Reg.TRP_HOLD_CAUSE_HOST, Reg.TRP_HOLD_CAUSE_OVERRUN, Reg.TRP_HOLD_CAUSE_AUDIT,
   Reg.TRP_HOLD_CAUSE_TASK_AUDIT, Reg.TRP_HOLD_CAUSE_TABLE_ECC, Reg.TRP_HOLD_CAUSE_HOST_LOSS,
   Reg.TRP_HOLD_CAUSE_TWIN_MISMATCH, Reg.TRP_HOLD_CAUSE_MEM_ECC, Reg.TRP_HOLD_CAUSE_DORMER, Reg.TRP_HOLD_CAUSE_PFAIL,
   Reg.TRP_HOLD_CAUSE_RECOVER]

/-- The fields of TRP_STOP_CAUSE, bit 0 first, RULE last. -/
def stopCauses : List Fld :=
  [Reg.TRP_STOP_CAUSE_IN_A, Reg.TRP_STOP_CAUSE_IN_B, Reg.TRP_STOP_CAUSE_DISCREPANCY, Reg.TRP_STOP_CAUSE_DORMER,
   Reg.TRP_STOP_CAUSE_HOST, Reg.TRP_STOP_CAUSE_LOCKSTEP, Reg.TRP_STOP_CAUSE_TWIN, Reg.TRP_STOP_CAUSE_CLOCK,
   Reg.TRP_STOP_CAUSE_THERM, Reg.TRP_STOP_CAUSE_OUT_FAULT, Reg.TRP_STOP_CAUSE_PERSIST, Reg.TRP_STOP_CAUSE_DORMANT,
   Reg.TRP_STOP_CAUSE_RULE]

/-- TRP_HOLD_CAUSE as a number. -/
def State.holdCause (s : State) : Nat := (holdCauses.map s.rd).foldr (fun b a => b + 2 * a) 0

/-- Writes the same value to a list of fields. -/
def State.wrAll (s : State) (v : Nat) : List Fld → State
  | [] => s
  | f :: t => State.wrAll (s.wr f v) v t

/-- The 16-byte state-change record of chute 61 (rule R356); the spec gives no layout, so its content is free (log entry
4). -/
def State.changeRecord (s : State) : State :=
  let a := s.draw 2
  let b := a.2.draw 2
  (b.2.offer 61 0 [BitVec.ofNat 64 a.1, BitVec.ofNat 64 b.1]).1

/-- A TRAP frame that is ready aborts another frame on the air (rule R413). -/
def State.abortAir (s : State) : State :=
  match s.zyp.onAir with
  | some f => if f.prio = 7 then s
              else ({ s with zyp := { s.zyp with onAir := none } }).bump Reg.SRP_ABORTED (Reg.PORT_CNT_OVF_CNT_SAT 2)
  | none => s

/-- Sends a TRAP frame on both LANs and the radio (rules R356, R415). -/
def State.emitTrap (s : State) (f : List Nat) : State :=
  if !s.mode.main || s.mute || !s.pwr.mainPowered then s
  else
    let t := (s.sendLanAt 0 7 s.everyone f).sendLanAt 1 7 s.everyone f
    if t.driveRadio then (t.abortAir).sendRadio 7 f else t

/-- Builds and sends the TRAP frame of a restriction, to the fleet or to local ID r, and notes its three repeats (rules
R356, R405). -/
def State.trapFrame (s : State) (stop : Bool) (r : Option Nat) : State :=
  let target : Option (Nat × Nat) := match r with
    | none => some (255, broadcastId)
    | some n => (AMap.find n s.zyp.roster).map fun e => (n, e.fed)
  match target with
  | none => s
  | some (lid, dst) =>
    let body := [if stop then 2 else 1, bit r.isSome, lid, 0] ++ le 4 s.stopCause ++ le 4 s.holdCause ++ le 4 0
    match s.frame 0x11 lid dst s.zyp.unitBoot s.trp.seqTrap (s.keyOf 5) body with
    | none => s
    | some f =>
      let t := s.emitTrap f
      { t with trp := { t.trp with seqTrap := t.trp.seqTrap + 1, repeats := t.trp.repeats ++ [⟨f, 3⟩] } }

/-- Marks the waiting relaxations that a restriction meets: any fleet relaxation by a fleet restriction, ROBOT_GO by an
own restriction of the same robot (rule R348). -/
def meet (r : Option Nat) (e : EpochInput) : EpochInput :=
  match e.kind, r with
  | .go, none => { e with met := true }
  | .clear, none => { e with met := true }
  | .robotGo n, some m => if n = m then { e with met := true } else e
  | _, _ => e

/-- Marks every waiting relaxation that a restriction meets. -/
def State.meetAll (s : State) (r : Option Nat) : State :=
  { s with epo := { s.epo with host := s.epo.host.map (meet r), taken := s.epo.taken.map (meet r) } }

/-- The fleet state changes; vector 1 signals it (rule R114). -/
def State.setFleet (s : State) (l : Level) : State :=
  if s.trp.fleet = l then s else ({ s with trp := { s.trp with fleet := l } }.signal 1).sendState

/-- The mode that follows a fleet restriction (rule R61). -/
def State.modeAfter (s : State) (stop : Bool) : State :=
  if stop then
    (if s.mode = .fleetRun ∨ s.mode = .fleetHold ∨ s.mode = .update then s.enterMode .faultSafe else s)
  else if s.mode = .fleetRun then s.enterMode .fleetHold else s

/-- The arming attempt in progress is refused and counted (rules R88, R360). -/
def State.refuseArm (s : State) : State :=
  match s.trp.arm with
  | none => s
  | some isLocal =>
    let t := { s with trp := { s.trp with arm := none } }
    if isLocal then t.stopBy Reg.PIN_LOCAL_RESET_COUNT_REFUSED 1
    else (t.bump Reg.TRP_CLEAR_REFUSED Reg.TRP_FAULT_CNT_SAT).fault Reg.TRP_FAULT_CLEAR_REFUSED

/-- A claim arbitration of FLEET_START that a higher trigger overtakes completes with BUSY (rule R62). -/
def State.dropArb (s : State) : State :=
  if s.twn.arb then
    ({ s with twn := { s.twn with arb := false } }).wrEach
      [(Reg.CLK_MODE_RESULT_STATUS, St.busy), (Reg.CLK_MODE_RESULT_TARGET, 6), (Reg.CLK_MODE_STATUS_IN_TRANSIT, 0)]
  else s

/-- A fleet STOP or HOLD is raised with its cause bit (rules R348, R351, R356); a STOP overtakes a pending FLEET_START (rule R62). -/
def State.raiseFleet (s : State) (stop : Bool) (cause : Fld) : State :=
  let t := (s.wr cause 1).meetAll none
  let u :=
    if stop then
      let v := ({ t with trp := { t.trp with latch := true } }.wr Reg.TRP_STATUS_ARMED 0).dropArb
      (v.refuseArm.setFleet .stop).bump Reg.TRP_STOPS Reg.TRP_FAULT_CNT_SAT
    else (if t.trp.fleet = .go then t.setFleet .hold else t).bump Reg.TRP_HOLDS Reg.TRP_FAULT_CNT_SAT
  (((u.trapFrame stop none).changeRecord).tellPeer stop none cause).modeAfter stop

/-- An own STOP or HOLD of robot r is raised with its cause bit (rules R347, R351). -/
def State.raiseOwn (s : State) (r : Nat) (stop : Bool) (cause : Fld) : State :=
  let t := (s.wr cause 1).meetAll (some r)
  let old := t.rd (Reg.TRP_ROBOT_OWN r)
  let u := t.wr (Reg.TRP_ROBOT_OWN r) (max old (if stop then 2 else 1))
  let v := if stop && old != 2 then { u with epo := { u.epo with stopped := u.epo.stopped ++ [r] } } else u
  ((v.trapFrame stop (some r)).changeRecord).tellPeer stop (some r) cause

/-- Whether any HOLD cause is set. -/
def State.anyHold (s : State) : Bool := holdCauses.any s.on

/-- Whether both STOP_IN channels are closed and no STOP source or condition holds (rule R360, step 1). -/
def State.stopSourcesClear (s : State) : Bool :=
  s.on Reg.TRP_STATUS_IN_A && s.on Reg.TRP_STATUS_IN_B && !s.on Reg.TRP_STATUS_DISC_COND && !s.on Reg.TRP_STATUS_OUT_COND
    && !s.on Reg.TRP_STATUS_RC4M_COND && s.trp.dormerStop.isEmpty && !s.pwr.core
    && !(s.claimOut && s.on Reg.FJR_STATUS_CLAIM_IN)

/-- STOP_OUT_A and STOP_OUT_B: driven high only while every condition of rule R354 holds, and low in reset (rule R51). -/
def State.stopOut (s : State) : Bool :=
  s.trp.fleet != .stop && s.on Reg.TRP_STATUS_IN_A && s.on Reg.TRP_STATUS_IN_B && s.stopCause == 0
    && s.on Reg.CLK_ADMIT_STATUS_BEACON_ON && !s.on Reg.TRP_STATUS_RC4M_COND && s.mode.main && s.pwr.mainPowered
    && !s.trp.driveLow

end Sys2Proof.Machine
end

