-- ==== Sys2Proof/Machine/Keys.lean ====
section
/-! DEFINITION. The key hierarchy and the persistent records (chapter 20): derivations, fixed slots, generations, the two
copies of a record, the pending beacon rekey. The Vault's commands are in Vault. -/

namespace Sys2Proof.Machine

/-! ## Slots (rules R482 to R485) -/

/-- The state with slot n set. -/
def State.setSlot (s : State) (n : Nat) (k : Slot) : State := { s with vlt := { s.vlt with slots := AMap.set n k s.vlt.slots } }

/-- Zeroises slot n; its GEN stays. -/
def State.emptySlot (s : State) (n : Nat) : State := s.setSlot n { Slot.empty with gen := (s.slot n).gen }

/-- Fills slot n with a key under a parent. -/
def State.fill (s : State) (n kind key : Nat) (parent : Option Nat) : State :=
  s.setSlot n { Slot.empty with kind := kind, key := key, gen := (s.slot n).gen, parent := parent,
                                parentGen := match parent with | some p => (s.slot p).gen | none => 0 }

/-- SERIAL as 8 bytes. -/
def serialBytes : List Nat := le 8 Config.serial

/-- The root in force (rules R482, R500). -/
def State.rootKey (s : State) : Nat := if s.life = 3 then Config.testRoot else Config.deviceRoot

/-- The order of the P-384 group (FIPS 186). -/
def p384Order : Nat := 0xffffffffffffffffffffffffffffffffffffffffffffffffc7634d81f4372ddf581a0db248b0a77aecec196accc52973

/-- The identity private key: the scalar formed from 48 bytes of output, reduced modulo the group order (rule R482). -/
def State.identityKey (s : State) : Nat := (Config.hkdf48 s.rootKey [] (ascii "ZY identity")).toNat % p384Order

/-- A key derived from the site root. -/
def State.siteKey (s : State) (info : List Nat) : Option Nat := (s.keyOf 2).map fun k => Config.hkdf k [] info

/-- Fills slot n with a key derived from the site root, or empties it where there is none. -/
def State.fillSite (s : State) (n kind : Nat) (info : List Nat) : State :=
  match s.siteKey info with
  | some k => s.fill n kind k (some 2)
  | none => s.emptySlot n

/-! ## Persistent records (rules R493, R494) -/

/-- A record that was never written. -/
def Persist.blank : Persist := ⟨0, none, true, 0, none, true⟩

/-- Record k. -/
def State.persist (s : State) (k : Nat) : Persist := AMap.get s.vlt.persist k Persist.blank

/-- The item of a record: of the copy whose check verifies, of the later one when both do. -/
def Persist.item (p : Persist) : Option Nat :=
  if p.good0 && p.good1 then (if later p.ctr0 p.ctr1 then p.item0 else if later p.ctr1 p.ctr0 then p.item1 else p.item0.or p.item1)
  else if p.good0 then p.item0 else if p.good1 then p.item1 else none

/-- The record with a new item in the copy whose COUNTER is earlier; `ok` says that the copy's check will verify. -/
def Persist.update (p : Persist) (v : Option Nat) (ok : Bool) : Persist :=
  if later p.ctr0 p.ctr1 then { p with ctr1 := (p.ctr0 + 1) % 4294967296, item1 := v, good1 := ok }
  else { p with ctr0 := (p.ctr1 + 1) % 4294967296, item0 := v, good0 := ok }

/-- The state with record k set. -/
def State.setPersist (s : State) (k : Nat) (p : Persist) : State := { s with vlt := { s.vlt with persist := AMap.set k p s.vlt.persist } }

/-- Writes or clears record k; clearing overwrites both copies with zeros. -/
def State.persistPut (s : State) (k : Nat) (v : Option Nat) (ok : Bool) : State :=
  match v with
  | some _ => s.setPersist k ((s.persist k).update v ok)
  | none => s.setPersist k Persist.blank

/-- Queues updates of records; the last one carries the command that completes with it. -/
def State.persistLater (s : State) (l : List (Nat × Option Nat)) (cmd : Option (Cmd × Nat)) : State :=
  let n := l.length
  let js := (l.zip (List.range n)).map fun x => (⟨x.1.1, x.1.2, if x.2 + 1 = n then cmd else none⟩ : PersistJob)
  { s with vlt := { s.vlt with jobs := s.vlt.jobs ++ js } }

/-- SITE in force (VLT_SITE). -/
def State.site (s : State) : Nat := ((s.persist 5).item).getD 0

/-- BEACON_NO in force (VLT_BEACON_NO). -/
def State.beaconNo (s : State) : Nat := ((s.persist 6).item).getD 0

/-! ## Derivation of the fixed slots (rules R482, R492, R502) -/

/-- Slots 2 and 5 to 9 derived anew from slot 1 and the SITE given. -/
def State.deriveSite (s : State) (site : Nat) : State :=
  let t := match s.keyOf 1 with
    | some k => s.fill 2 6 (Config.hkdf k [] (ascii "ZY site" ++ le 4 site)) (some 1)
    | none => s.emptySlot 2
  let u := t.fillSite 5 1 (ascii "ZY beacon" ++ le 4 s.beaconNo)
  let v := (u.fillSite 6 1 (ascii "ZY twin" ++ le 4 s.yardId)).fillSite 7 2 (ascii "ZY caster" ++ serialBytes)
  (v.fillSite 8 2 (ascii "ZY trap" ++ serialBytes)).fillSite 9 2 (ascii "ZY tally" ++ serialBytes)

/-- Fills a persistent slot from its record. -/
def State.fillPersist (s : State) (n kind : Nat) (parent : Nat) : State :=
  match (s.persist n).item with
  | some k => s.fill n kind k (some parent)
  | none => s.emptySlot n

/-- The fixed slots derived at reset release. -/
def State.deriveFixed (s : State) : State :=
  let a := s.fill 0 6 (Config.hkdf s.rootKey (le 4 (s.rd Reg.VLT_LIFECYCLE_LC_GEN)) (ascii "ZY lifecycle")) none
  let b := ((a.fillPersist 1 6 0).fillPersist 3 5 0).fillPersist 4 5 1
  let c := b.deriveSite s.site
  match s.vlt.rekey with
  | some (no, _) => c.fillSite 10 1 (ascii "ZY beacon" ++ le 4 no)
  | none => c.emptySlot 10

/-- Every slot and every GEN zeroised. -/
def State.zeroise (s : State) : State := { s with vlt := { s.vlt with slots := [] } }

/-! ## Revocation (rule R489) -/

/-- Zeroises the fixed slots of a list that are no longer valid. -/
def State.dropInvalid (s : State) : List Nat → State
  | [] => s
  | n :: t => State.dropInvalid (if (s.slot n).kind != 0 && !s.slotValid 8 n then s.emptySlot n else s) t

/-- Advances the GEN of slot n. -/
def State.nextGen (s : State) (n : Nat) : State := s.setSlot n { s.slot n with gen := ((s.slot n).gen + 1) % 4294967296 }

/-! ## Beacon rekey (rule R495) -/

/-- The status of a rekey: STALE for a BEACON_NO not later than the one in force, BUSY while one is pending. -/
def State.rekeyStatus (s : State) (no : Nat) : Nat :=
  firstFail [(!later no s.beaconNo, St.stale), (s.vlt.rekey.isSome, St.busy)]

/-- An accepted rekey: slot 10 and the pending record. -/
def State.rekeyAccept (s : State) (no sec : Nat) (cmd : Option (Cmd × Nat)) : State :=
  let t := (s.fillSite 10 1 (ascii "ZY beacon" ++ le 4 no)).persistLater [(7, some (no + 4294967296 * sec))] cmd
  { t with vlt := { t.vlt with rekey := some (no, sec) } }

end Sys2Proof.Machine
end

