-- ==== Sys2Proof/Machine/Ranging.lean ====
section
/-! DEFINITION. The Ranging Baseband (chapter 9): tracking channels, measurement series, acquisition results, navigation
records, antenna faults and the MEAS and LOOP commits. -/

namespace Sys2Proof.Machine

/-! ## Signals and channels (rules R186, R188, R189) -/

/-- The codes of the signal table, row by row; bit n of RNG_SIG_EN enables row n. -/
def signalCodes : List Nat :=
  [0x01, 0x02, 0x03, 0x04, 0x10, 0x11, 0x12, 0x13, 0x20, 0x21, 0x22, 0x23, 0x30, 0x31, 0x40, 0x41, 0x42]

/-- Whether a signal is enabled. -/
def State.signalOn (s : State) (code : Nat) : Bool :=
  signalCodes.contains code && bits (s.rd Reg.RNG_SIG_EN_EN) (signalCodes.idxOf code) 1 == 1

/-- Whether a signal is tracked on its pilot: it yields no navigation unit. -/
def isPilot (code : Nat) : Bool := [0x02, 0x13, 0x21, 0x22].contains code

/-- The satellite system of a signal: 0 GPS, 1 GLONASS, 2 Galileo, 3 BeiDou, 4 QZSS. -/
def systemOf (code : Nat) : Nat :=
  match code / 16 with
  | 0 => 0 | 1 => 2 | 2 => 3 | 3 => 1 | _ => 4

/-- The satellite numbers of a system (rule R186). -/
def svOk (sys sv : Nat) : Bool :=
  match sys with
  | 0 => decide (1 ≤ sv ∧ sv ≤ 32) | 1 => decide (1 ≤ sv ∧ sv ≤ 24) | 2 => decide (1 ≤ sv ∧ sv ≤ 36)
  | 3 => decide (1 ≤ sv ∧ sv ≤ 63) | _ => decide (193 ≤ sv ∧ sv ≤ 202)

/-- The T_COH values a signal allows; a BeiDou GEO satellite is limited to 2 ms in its channel. -/
def tCohOk (code t : Nat) : Bool :=
  match code with
  | 0x01 | 0x20 | 0x23 | 0x40 => [1, 2, 4, 5, 10, 20].contains t
  | 0x02 | 0x21 => [10, 20].contains t
  | 0x03 | 0x41 => t == 20
  | 0x10 => [4, 8, 12, 16, 20].contains t
  | 0x30 | 0x31 => [1, 2, 5, 10].contains t
  | _ => decide (1 ≤ t ∧ t ≤ 20)

/-- The live loop settings of a signal. -/
def State.loopSet (s : State) (code : Nat) : LoopSet :=
  ⟨s.rd (Reg.RNG_LOOP_CFG_PLL_BW code), s.rd (Reg.RNG_LOOP_CFG_FLL_BW code), s.rd (Reg.RNG_LOOP_CFG_DLL_BW code),
   s.rd (Reg.RNG_LOOP_CFG_T_COH code), s.rd (Reg.RNG_LOOP_CFG_SPACING code)⟩

/-- The loop settings of a channel: a BeiDou channel on a GEO satellite uses at most 2 ms (rule R186). -/
def State.chanLoop (s : State) (code : Nat) (geo : Bool) : LoopSet :=
  let l := s.loopSet code
  if geo && systemOf code == 3 then { l with tCoh := min 2 l.tCoh } else l

/-- A free channel. -/
def TrackCh.free : TrackCh := ⟨.idle, false, 0, 0, 0, 15, 0, false, ⟨0, 0, 0, 0, 0⟩, false, false, 0, false⟩

/-- Channel n. -/
def State.track (s : State) (n : Nat) : TrackCh := AMap.get s.rng.ch n TrackCh.free

/-- The channel counts of RNG_STATUS follow the channels. -/
def State.showTracks (s : State) : State :=
  let used := fun (b : Bool) => (s.rng.ch.filter fun p => p.2.st != .idle && p.2.antB == b).length
  (s.wr Reg.RNG_STATUS_CH_A (used false)).wr Reg.RNG_STATUS_CH_B (used true)

/-- The state with channel n set. -/
def State.setTrack (s : State) (n : Nat) (c : TrackCh) : State :=
  { s with rng := { s.rng with ch := AMap.set n c s.rng.ch } }.showTracks

/-- Whether a channel produces records. -/
def TrackCh.live (c : TrackCh) : Bool := c.st == .track || c.st == .locked

/-- Code of a channel state. -/
def TrackState.code : TrackState → Nat
  | .idle => 0 | .pullIn => 1 | .track => 2 | .locked => 3 | .lost => 4

/-- RNG_CH_STATUSn. -/
def State.chStatus (s : State) (n : Nat) : Nat :=
  let c := s.track n
  c.st.code + 8 * bit c.antB + 16 * c.signal + 4096 * c.sv + 1048576 * min 255 (c.cn0 / 100)

/-- Channels that are free, lowest number first. -/
def State.freeTracks (s : State) : List Nat := (List.range 512).filter fun n => (s.track n).st == .idle

/-- Counts candidates of an antenna without a channel (rule R188). -/
def State.allocShort (s : State) (k : Nat) (antB : Bool) : State :=
  if k = 0 then s
  else (s.bumpBy Reg.RNG_ALLOC_SHORT Reg.RNG_FAULT_CNT_SAT k).faultWith Reg.RNG_FAULT_ALLOC_SHORT (bit antB)

/-! ## Measurement series (rules R191 to R195) -/

/-- Yard time in ns. -/
def nsOf (t : YTime) : Nat := t.sec * 1000000000 + t.ns

/-- Whether the record of an epoch carries SLIP: a slip, a half-cycle correction, or a restart after a gap of PLL_ADC (rules R193, R194,
R201). -/
def TrackCh.slipped (c : TrackCh) (m : MeasObs) : Bool := m.slip || m.invert || c.slip

/-- A channel at the measurement epoch t (rules R193, R194): C/N0, slips, half cycle, and the start of the continuous lock, which a
slip moves and a half-cycle correction sets to t. -/
def TrackCh.measured (c : TrackCh) (m : MeasObs) (t : YTime) : TrackCh :=
  { c with cn0 := m.cn0.toNat, slips := (c.slips + bit (c.slipped m)) % 256, slip := false, half := c.half || m.half || m.invert
           lockNs := if m.invert then nsOf t else if m.slip then max c.lockNs (nsOf t - m.lock.toNat * 1000000) else c.lockNs }

/-- LOCK_TIME of a channel at t: ms of continuous phase lock, stopping at the largest value. -/
def TrackCh.lockTime (c : TrackCh) (t : YTime) : Nat := min ((nsOf t - c.lockNs) / 1000000) 4294967295

/-- The 32 bytes of the signal record of channel n, which is `c` at the epoch t, `slip` its SLIP flag; a field whose valid flag is clear
carries 0. -/
def measBytes (lossCn0 n : Nat) (c : TrackCh) (m : MeasObs) (slip : Bool) (t : YTime) : List Nat :=
  let pr := m.prValid && c.st == .locked
  let flags := bit pr + 2 + 4 * bit c.half + 8 * bit slip + 16 * bit (isPilot c.signal) + 32 * bit (decide (c.cn0 < (lossCn0 + 5) * 100))
  le 2 (n + 512 * c.glo) ++ [c.signal, c.sv] ++ le 5 (if pr then m.pr.toNat else 0) ++ le 6 m.phase.toNat ++ le 4 m.doppler.toNat
    ++ le 2 c.cn0 ++ le 4 (c.lockTime t) ++ [flags, c.slips, m.mp.toNat] ++ le 4 0

/-- What a channel measures at an epoch: what came with the command, and a free measurement where none did. -/
def State.measOf (s : State) (obs : List MeasObs) (n : Nat) : MeasObs :=
  match obs.find? (fun m => m.ch.val == n) with
  | some m => m
  | none =>
    let v := fun (i : Nat) => Config.freeValue 5 (s.ctr * 8192 + n * 16 + i)
    let b := fun (i : Nat) => v i % 2 == 1
    ⟨Fin.ofNat 512 n, b 6, BitVec.ofNat 40 (v 0), BitVec.ofNat 48 (v 1), BitVec.ofNat 32 (v 2), BitVec.ofNat 16 (v 3),
     BitVec.ofNat 32 (v 4), b 7, b 8, b 9, BitVec.ofNat 8 (v 5)⟩

/-- The packets of a series: header and at most 63 records each (rule R192). -/
def seriesPackets (antB : Bool) (flags seq rate total : Nat) (time : YTime) : Nat → Nat → List (List Nat) → List (List Nat)
  | 0, _, _ => []
  | fuel + 1, part, rs =>
    let now := rs.take 63
    let rest := rs.drop 63
    let head := [0x01, bit antB, part, flags + bit rest.isEmpty] ++ le 4 seq ++ stamp time ++ [now.length, rate] ++ le 2 total ++ le 4 0
    (head ++ now.flatten) :: (if rest.isEmpty then [] else seriesPackets antB flags seq rate total time fuel (part + 1) rest)

/-- Commits a series of an antenna to a chute; a part without credit is dropped with the later ones (rule R195). -/
def State.sendSeries (s : State) (antB : Bool) (chute : Nat) : List (List Nat) → State
  | [] => s
  | p :: t =>
    let r := s.offer chute 0 (toWords p)
    if r.2 then State.sendSeries r.1 antB chute t
    else (r.1.bumpBy Reg.RNG_MEAS_DROP Reg.RNG_FAULT_CNT_SAT (t.length + 1)).faultWith Reg.RNG_FAULT_MEAS_DROP (bit antB)

/-- The signal records of one antenna at an epoch. -/
def State.antennaRecs (s : State) (antB : Bool) (obs : List MeasObs) (time : YTime) : List (List Nat) :=
  (s.rng.ch.filter fun p => p.2.live && p.2.antB == antB).map fun (p : Nat × TrackCh) =>
    let m := s.measOf obs p.1
    measBytes (s.rd Reg.RNG_MEAS_CFG_CN0_LOSS) p.1 (p.2.measured m time) m (p.2.slipped m) time

/-- FLAGS of a series but for LAST_PART (rules R192, R427). -/
def State.seriesFlags (s : State) (antB : Bool) : Nat :=
  let fault := s.on (if antB then Reg.RNG_STATUS_ANT_B_FLT else Reg.RNG_STATUS_ANT_A_FLT)
  let steered := s.rd Reg.TIM_STATUS_SOURCE == 0 && s.on Reg.TIM_STATUS_STEERING
  2 * bit steered + 4 * bit fault + 8 * bit s.rng.gap

/-- The series of one antenna at an epoch, on both chutes. -/
def State.antennaSeries (s : State) (antB : Bool) (obs : List MeasObs) (seq : Nat) (time : YTime) : State :=
  let recs := s.antennaRecs antB obs time
  let ps := seriesPackets antB (s.seriesFlags antB) seq s.rng.rate recs.length time 9 0 recs
  (s.sendSeries antB 22 ps).sendSeries antB 23 ps

/-- Period of a RATE code in ms. -/
def ratePeriod (c : Nat) : Nat := match c with | 0 => 1000 | 1 => 500 | 2 => 200 | 3 => 100 | _ => 50

/-- Channels whose signal has been disabled become IDLE (rule R188). -/
def State.dropDisabled (s : State) : State :=
  { s with rng := { s.rng with ch := s.rng.ch.filter fun p => s.signalOn p.2.signal
                               hold := s.rng.hold.filter fun (h : Nat × Bool × Nat × Nat) => s.signalOn h.2.2.1 } }.showTracks

/-- The fields of group MEAS beside RATE. -/
def measGroup : List Fld :=
  [Reg.RNG_MEAS_CFG_ANT_A_EN, Reg.RNG_MEAS_CFG_ANT_B_EN, Reg.RNG_MEAS_CFG_ELEV_MASK, Reg.RNG_MEAS_CFG_CN0_LOSS, Reg.RNG_SIG_EN_EN,
   Reg.RNG_ACQ_CFG_DOPPLER_KHZ, Reg.RNG_ACQ_CFG_DWELL, Reg.RNG_ACQ_CFG_THRESH]

/-- What an accepted MEAS commit changed beside RATE is in force from this measurement epoch (rule R204). -/
def State.measApply (s : State) : State :=
  match s.rng.due with
  | some vs => { s with rng := { s.rng with due := none } }.wrEach (measGroup.zip vs)
  | none => s

/-! ### The consumers' side of a series (rules R192, R193, R195) -/

/-- A signal record from its bytes. -/
def recOf (b : List Nat) : MeasRec :=
  let at_ := fun (lo k : Nat) => unle ((b.drop lo).take k)
  ⟨at_ 0 2 % 512, at_ 0 2 / 512 % 16, at_ 2 1, at_ 3 1, at_ 4 5, signed 48 (at_ 9 6), signed 32 (at_ 15 4), at_ 19 2, at_ 21 4, at_ 25 1,
   at_ 26 1⟩

/-- `k` records of 32 bytes. -/
def recsOf : Nat → List Nat → List MeasRec
  | 0, _ => []
  | k + 1, b => recOf (b.take 32) :: recsOf k (b.drop 32)

/-- A consumer takes a packet of a series: PART 0 opens a series, the next part of the open one continues it, and a series whose parts
do not follow each other is discarded. -/
def takePart (open_ : Option MeasSeries) (b : List Nat) : Option MeasSeries :=
  let at_ := fun (lo k : Nat) => unle ((b.drop lo).take k)
  let part := at_ 2 1
  let seq := at_ 4 4
  let last := decide (at_ 3 1 % 2 = 1)
  let new := recsOf (at_ 24 1) (b.drop 32)
  let time := stampOf ((b.drop 8).take 16)
  if part = 0 then some ⟨1, last, seq, at_ 3 1, time, new⟩
  else match open_ with
    | some m => if m.seq = seq ∧ m.part = part ∧ m.whole = false then some ⟨part + 1, last, seq, at_ 3 1, time, m.recs ++ new⟩ else none
    | none => none

/-- Base Corrections reads the packets of chute 22, `fuel` of them at most. -/
def State.readSeries : Nat → State → State
  | 0, s => s
  | fuel + 1, s =>
    match s.nextPacket 22 with
    | none => s
    | some p =>
      let t := s.takeAny 22
      let b := p.bytes
      let u := if b.getD 1 0 = 0 then { t with cor := { t.cor with seriesA := takePart t.cor.seriesA b } }
               else { t with cor := { t.cor with seriesB := takePart t.cor.seriesB b } }
      State.readSeries fuel u

/-- Base Corrections has read what stands on chute 22; it does so before the next measurement epoch at the latest (log entry 72). -/
def State.baseReads (s : State) : State := s.readSeries (s.chute 22).pkts.length

/-- Satellites of a list of records. -/
def recSats (rs : List MeasRec) : List (Nat × Nat) :=
  rs.foldl (fun a r => if a.contains (systemOf r.signal, r.sv) then a else a ++ [(systemOf r.signal, r.sv)]) []

/-- What a GNSS time solution works on, with the counter that makes each solution its own. -/
def State.solInput (s : State) (rs : List MeasRec) (time : YTime) : List Nat :=
  s.ctr :: toNats time ++ rs.flatMap fun r => [r.ch, r.signal, r.sv, r.pr, unsigned 48 r.phase, unsigned 32 r.doppler, r.cn0, r.flags]
where
  toNats (t : YTime) : List Nat := [t.sec, t.ns, t.frac]

/-- The GNSS time solution of an epoch (rule R427): at least 4 satellites with PR_VALID (6 where the position is solved for), an RMS code
residual of at most 15 m, a whole series, no ADC_GAP and no ANT_FAULT. Residual and offset are numerics of Config (log entry 54). -/
def State.timeSolution (s : State) (rs : List MeasRec) (flags seq : Nat) (time : YTime) : State :=
  let use := rs.filter fun r => bits r.flags 0 1 == 1
  let need := if s.on Reg.COR_STATUS_REF_VALID then 4 else 6
  let whole := (s.chute 22).pkts.any fun p =>
    let b := p.bytes
    b.getD 1 0 == 0 && b.getD 3 0 % 2 == 1 && unle ((b.drop 4).take 4) == seq
  let i := s.solInput use time
  let ok := decide ((recSats use).length ≥ need) && decide (Config.filter 30 i ≤ 15000) && whole && bits flags 2 2 == 0
  let ns := fun (t : YTime) => nsOf time - nsOf t
  let kept := s.tim.sols.filter fun p => decide (ns p.1 ≤ 1000000000)
  let unbroken := match s.tim.solLast with | some t => decide (ns t ≤ ratePeriod s.rng.rate * 1000000) | none => false
  if ok then
    { s with tim := { s.tim with sols := kept ++ [(time, Config.filter 31 i)], solLast := some time,
                                 solFrom := if unbroken then s.tim.solFrom.or (some time) else some time } }
  else { s with tim := { s.tim with solFrom := none } }

/-- MEAS_EPOCH (rules R191 to R195, R427). A channel that changes state at the epoch is reported in its state before. -/
def measEpochOp (obs : List MeasObs) (s : State) : State :=
  if !s.on Reg.RNG_STATUS_MEAS_RUNNING || s.outputsStopped then s
  else
    let time := nextAt (ratePeriod s.rng.rate) s.now s.rng.last
    let t := ((s.advance time).baseReads).measApply
    let seq := t.rng.seqNext
    let a := if t.on Reg.RNG_MEAS_CFG_ANT_A_EN then t.antennaSeries false obs seq time else t
    let a := if t.on Reg.RNG_MEAS_CFG_ANT_A_EN then a.timeSolution ((t.antennaRecs false obs time).map recOf) (t.seriesFlags false) seq time else a
    let b := if t.on Reg.RNG_MEAS_CFG_ANT_B_EN then a.antennaSeries true obs seq time else a
    let live := t.rng.ch.filter fun p => p.2.live
    let slips := (live.filter fun p => p.2.slipped (t.measOf obs p.1)).length
    let ch := b.rng.ch.map fun p => if p.2.live then (p.1, p.2.measured (t.measOf obs p.1) time) else p
    let c := { b with ctr := b.ctr + 1, rng := { b.rng with ch := ch, seqNext := (seq + 1) % 4294967296, last := some time, gap := false } }
    ((c.wr Reg.RNG_MEAS_SEQ seq).bumpBy Reg.RNG_SLIP_COUNT Reg.RNG_FAULT_CNT_SAT slips).dropDisabled

/-- MEAS_RATE_APPLY: at the next whole second a committed RATE is in force. -/
def measRateApplyOp (s : State) : State :=
  if !s.rng.rateDue then s
  else
    let t := s.wholeSecond
    { t with rng := { t.rng with rate := t.rd Reg.RNG_MEAS_CFG_RATE, rateDue := false } }

/-! ## Commits (rules R190, R204) -/

/-- COMMIT of group MEAS: a changed RATE waits for the next whole second, the other members for the next measurement epoch. -/
def measCommitOp (s : State) : State :=
  let rate := s.sh Reg.RNG_MEAS_CFG_RATE
  let loss := s.sh Reg.RNG_MEAS_CFG_CN0_LOSS
  let d := s.sh Reg.RNG_ACQ_CFG_DOPPLER_KHZ
  let th := s.sh Reg.RNG_ACQ_CFG_THRESH
  let changes := rate != s.rd Reg.RNG_MEAS_CFG_RATE
  let v := firstFail
    [(decide (rate > 4) || s.sh Reg.RNG_MEAS_CFG_ANT_A_EN == 0, St.badFormat),
     (decide (s.sh Reg.RNG_MEAS_CFG_ELEV_MASK > 30 ∨ loss < 15 ∨ loss > 35 ∨ d < 2 ∨ d > 12 ∨ th < 24 ∨ th > 80), St.badFormat),
     (s.sh Reg.RNG_SIG_EN_EN == 0, St.badFormat),
     (changes && (s.mode.fleet || s.mode == .twinStandby || s.mode == .rejoin), St.refusedMode)]
  if v ≠ St.done then s.wr Reg.RNG_MEAS_COMMIT_RESULT v
  else
    let t := s.commit Reg.RNG_MEAS_COMMIT_RESULT [Reg.RNG_MEAS_CFG_RATE] v
    { t with rng := { t.rng with rateDue := t.rng.rateDue || changes, due := some (measGroup.map t.sh) } }

/-- COMMIT of group LOOP for the selected signal. -/
def trackingLoopCommitOp (s : State) : State :=
  let g := bits (s.rd Reg.RNG_LOOP_SEL) 0 8
  let pll := s.sh (Reg.RNG_LOOP_CFG_PLL_BW g)
  let fll := s.sh (Reg.RNG_LOOP_CFG_FLL_BW g)
  let dll := s.sh (Reg.RNG_LOOP_CFG_DLL_BW g)
  let tc := s.sh (Reg.RNG_LOOP_CFG_T_COH g)
  let sp := s.sh (Reg.RNG_LOOP_CFG_SPACING g)
  let v := firstFail
    [(!signalCodes.contains g, St.badFormat),
     (decide (pll < 4 ∨ pll > 60 ∨ fll < 1 ∨ fll > 20 ∨ dll < 5 ∨ dll > 200 ∨ sp < 2 ∨ sp > 10), St.badFormat),
     (!tCohOk g tc, St.badFormat),
     (decide (pll * tc > 500 ∨ fll * tc > 250), St.badFormat)]
  s.commit (Reg.RNG_LOOP_COMMIT_RESULT g)
    [Reg.RNG_LOOP_CFG_PLL_BW g, Reg.RNG_LOOP_CFG_FLL_BW g, Reg.RNG_LOOP_CFG_DLL_BW g, Reg.RNG_LOOP_CFG_T_COH g, Reg.RNG_LOOP_CFG_SPACING g] v

/-! ## Acquisition and channels (rules R187 to R190) -/

/-- The predicted elevation of a satellite on an antenna, if there is one. -/
def State.elevation (s : State) (antB : Bool) (sys sv : Nat) : Option Int :=
  (s.rng.sky.find? fun x => x.antB == antB && x.sys.val == sys && x.sv.toNat == sv).bind (·.elev)

/-- Whether a channel tracks a signal of a satellite on an antenna. -/
def State.tracked (s : State) (antB : Bool) (signal sv : Nat) : Bool :=
  s.rng.ch.any fun p => p.2.st != .idle && p.2.antB == antB && p.2.signal == signal && p.2.sv == sv

/-- Whether an elevation makes a satellite a candidate: above ELEV_MASK, or none predicted (rule R188). -/
def State.inMask (s : State) (elev : Option Int) : Bool :=
  match elev with | some e => decide (e > s.rd Reg.RNG_MEAS_CFG_ELEV_MASK) | none => true

/-- The enabled signals of a satellite's system, in signal-table order. -/
def State.signalsOf (s : State) (sys : Nat) : List Nat := signalCodes.filter fun c => systemOf c == sys && s.signalOn c

/-- Channels that are free and allocated to nobody. -/
def State.openTracks (s : State) : List Nat := s.freeTracks.filter fun n => !(s.rng.hold.any fun h => h.1 == n)

/-- The channel allocated to a signal of a satellite on an antenna that no search has found yet. -/
def State.heldTrack (s : State) (antB : Bool) (signal sv : Nat) : Option Nat :=
  (s.rng.hold.find? fun h => h.2.1 == antB && h.2.2.1 == signal && h.2.2.2 == sv).map Prod.fst

/-- A hit without an allocation: the satellite's signals on that antenna that have no channel are allocated together, in signal-table
order. -/
def State.allocateSat (s : State) (antB : Bool) (signal sv : Nat) : State :=
  if (s.heldTrack antB signal sv).isSome then s
  else
    let want := (s.signalsOf (systemOf signal)).filter fun g => !s.tracked antB g sv && (s.heldTrack antB g sv).isNone
    { s with rng := { s.rng with hold := s.rng.hold ++ (s.openTracks.zip (want.map fun g => (antB, g, sv))) } }

/-- ACQ_RESULT (rules R187, R188, R201): a search of a candidate that no channel tracks; a hit goes to the channel allocated to it. `k`
is GLONASS k + 7, `geo` says that the satellite is a GEO of BeiDou. -/
def acqResultOp (antB : Bool) (signal sv codePhase doppler peak k : Nat) (geo : Bool) (s : State) : State :=
  if s.rd Reg.RNG_ACQ_CFG_DWELL = 0 ∨ s.signalOn signal = false ∨ svOk (systemOf signal) sv = false ∨ s.tracked antB signal sv = true
      ∨ s.inMask (s.elevation antB (systemOf signal) sv) = false then s
  else
    let hit := decide (peak > s.rd Reg.RNG_ACQ_CFG_THRESH)
    let u := if hit then s.allocateSat antB signal sv else s
    let res := if !hit then 1 else if (u.heldTrack antB signal sv).isNone then 2 else 0
    let t := match hit, u.heldTrack antB signal sv with
      | true, some n =>
        ({ u with rng := { u.rng with hold := u.rng.hold.filter fun (h : Nat × Bool × Nat × Nat) => h.1 != n } }).setTrack n
          { TrackCh.free with st := .pullIn, antB := antB, signal := signal, sv := sv, glo := if systemOf signal = 1 then k else 15
                              loop := u.chanLoop signal geo, geo := geo }
      | true, none => u.allocShort 1 antB
      | false, _ => u
    (t.offer 25 0 (toWords ([0x03, bit antB, signal, sv] ++ le 4 codePhase ++ le 4 doppler ++ le 2 peak ++ [res, 0]))).1

/-- Whether a satellite ranks before another (rule R188): antenna A first, then the higher predicted elevation, those with none
last. -/
def ranksBefore (a b : SkySat) : Bool :=
  (!a.antB && b.antB) || (a.antB == b.antB && (match a.elev, b.elev with | some x, some y => decide (x > y) | some _, none => true | none, _ => false))

/-- Places a satellite in a ranked list, after those of equal rank. -/
def placeSat (x : SkySat) : List SkySat → List SkySat
  | [] => [x]
  | y :: t => if ranksBefore x y then x :: y :: t else y :: placeSat x t

/-- CHANNEL_ALLOCATION (rule R188): satellites below ELEV_MASK − 2° lose their channels; the free channels go to the candidates by
rank, and each candidate left without one is counted. -/
def channelAllocationOp (sky0 : List SkySat) (s : State) : State :=
  let sky := sky0.filter fun x => svOk x.sys.val x.sv.toNat
  let mask : Int := s.rd Reg.RNG_MEAS_CFG_ELEV_MASK
  let low := fun (c : TrackCh) => sky.any fun x => x.antB == c.antB && x.sv.toNat == c.sv && x.sys.val == systemOf c.signal &&
    (match x.elev with | some e => decide (e < mask - 2) | none => false)
  let t := { s with rng := { s.rng with ch := s.rng.ch.filter (fun p => !low p.2), sky := sky, hold := [] } }.showTracks
  let ranked := (sky.filter fun x => t.inMask x.elev).foldl (fun (l : List SkySat) x => placeSat x l) []
  let want := ranked.flatMap fun x => (t.signalsOf x.sys.val).map fun g => (x.antB, g, x.sv.toNat)
  let wants := want.filter fun w => !t.tracked w.1 w.2.1 w.2.2
  let free := t.freeTracks
  let short := wants.drop free.length
  let u := { t with rng := { t.rng with hold := free.zip wants } }
  (u.allocShort (short.filter fun w => !w.1).length false).allocShort (short.filter fun w => w.1).length true

/-- A channel moves from one of some states to another. -/
def State.trackTo (s : State) (n : Nat) (from_ : List TrackState) (onto : TrackState) : State :=
  let c := s.track n
  if from_.contains c.st then s.setTrack n { c with st := onto } else s

/-- CHANNEL_TRACK: the phase lock begins, with the half cycle unresolved. -/
def channelTrackOp (n : Nat) (s : State) : State :=
  let c := s.track n
  if c.st = .pullIn then s.setTrack n { c with st := .track, lockNs := nsOf s.now, half := false } else s

/-- CHANNEL_LOCKED: bit or secondary-code sync is found; the first navigation unit is still to come. -/
def channelLockedOp (n : Nat) (s : State) : State :=
  let c := s.track n
  if c.st = .track then s.setTrack n { c with st := .locked, word := false } else s

/-- TRACKING_LOOP_UPDATE: at the integration boundary the committed loop settings are in force. -/
def trackingLoopUpdateOp (n : Nat) (s : State) : State :=
  let c := s.track n
  if c.st = .idle ∨ c.st = .lost then s else s.setTrack n { c with loop := s.chanLoop c.signal c.geo }

/-- CHANNEL_IDLE_TIMEOUT: a LOST channel is freed. -/
def channelIdleTimeoutOp (n : Nat) (s : State) : State :=
  if (s.track n).st = .lost then { s with rng := { s.rng with ch := AMap.del n s.rng.ch } }.showTracks else s

/-! ## Navigation records, antennas and band power -/

/-- The nav unit and its payload bits of a signal; a BeiDou word is D2 on a GEO satellite (rules R196, R197). -/
def navUnit (code : Nat) (geo : Bool) : Option (Nat × Nat) :=
  match code with
  | 0x01 | 0x40 => some (1, 30)
  | 0x03 | 0x04 | 0x41 | 0x42 => some (2, 300)
  | 0x10 | 0x12 => some (3, 240)
  | 0x11 => some (4, 244)
  | 0x20 | 0x23 => some (if geo then 6 else 5, 30)
  | 0x30 | 0x31 => some (7, 85)
  | _ => none

/-- `nb` bits, most significant first, padded with zeros to a multiple of 8 bytes (rule R196). -/
def padBits (nb : Nat) (b : List Nat) : List Nat :=
  let size := (nb + 63) / 64 * 8
  let full := nb / 8
  let part := if nb % 8 = 0 then [] else let m := 2 ^ (8 - nb % 8); [b.getD full 0 / m * m]
  (((b ++ List.replicate size 0).take full) ++ part ++ List.replicate size 0).take size

/-- NAV_RECORD (rules R196, R197); the decoder's result is 0 PASS, 1 FAIL or 2 CORRECTED, which only D1, D2 and GLONASS units know. The
first LNAV word since the channel became LOCKED is NOT_CHECKED. -/
def navRecordOp (n check : Nat) (time : YTime) (payload : List Byte) (s : State) : State :=
  let c := s.track n
  match navUnit c.signal c.geo with
  | none => s
  | some (unit, nb) =>
    if c.st != .locked || (check == 2 && decide (unit < 5)) then s
    else
      let code := if unit = 1 ∧ c.word = false then 3 else check
      let u := s.setTrack n { c with word := true }
      let t := if code = 1 then u.bump Reg.RNG_NAV_FAIL Reg.RNG_FAULT_CNT_SAT else u
      t.send 24 0 ([0x02, bit c.antB] ++ le 2 n ++ [c.signal, c.sv, unit, code] ++ le 2 nb ++ le 6 0 ++ stamp time
        ++ padBits nb (payload.map BitVec.toNat))

/-- ANT_FAULT_SET (rule R183). -/
def antFaultSetOp (antB : Bool) (s : State) : State :=
  let t := s.wr (if antB then Reg.RNG_STATUS_ANT_B_FLT else Reg.RNG_STATUS_ANT_A_FLT) 1
  t.faultWith (if antB then Reg.RNG_FAULT_ANT_B_FAULT else Reg.RNG_FAULT_ANT_A_FAULT) (bit antB)

/-- ANT_FAULT_CLEAR (rule R183). -/
def antFaultClearOp (antB : Bool) (s : State) : State := s.wr (if antB then Reg.RNG_STATUS_ANT_B_FLT else Reg.RNG_STATUS_ANT_A_FLT) 0

/-- Sum of a list. -/
def sumOf (l : List Nat) : Nat := l.foldl (· + ·) 0

/-- BANDPWR_UPDATE (rules R201, R203): the powers of the four DDCs of each antenna and the clipped milliseconds of the window. -/
def bandpwrUpdateOp (a b : Word) (clipA clipB : Nat) (s : State) : State :=
  let t := s.wrEach
    [(Reg.RNG_BANDPWR_A_DDC0, bits a.toNat 0 8), (Reg.RNG_BANDPWR_A_DDC1, bits a.toNat 8 8), (Reg.RNG_BANDPWR_A_DDC2, bits a.toNat 16 8),
     (Reg.RNG_BANDPWR_A_DDC3, bits a.toNat 24 8), (Reg.RNG_BANDPWR_B_DDC0, bits b.toNat 0 8), (Reg.RNG_BANDPWR_B_DDC1, bits b.toNat 8 8),
     (Reg.RNG_BANDPWR_B_DDC2, bits b.toNat 16 8), (Reg.RNG_BANDPWR_B_DDC3, bits b.toNat 24 8)]
  let la := (clipA :: t.rng.clipA).take 10
  let lb := (clipB :: t.rng.clipB).take 10
  let u := { t with rng := { t.rng with clipA := la, clipB := lb } }
  let v := (u.bumpBy Reg.RNG_CLIP_A Reg.RNG_FAULT_CNT_SAT clipA).bumpBy Reg.RNG_CLIP_B Reg.RNG_FAULT_CNT_SAT clipB
  let w := if sumOf la > 10 then v.faultWith Reg.RNG_FAULT_CLIP_A 0 else v
  if sumOf lb > 10 then w.faultWith Reg.RNG_FAULT_CLIP_B 1 else w

/-- PLL_ADC out of lock (rules R48, R201): measurements stop, every channel goes to LOST, its phase restarts with SLIP, and the next
header carries ADC_GAP. -/
def State.adcLost (s : State) : State :=
  let t := { s with rng := { s.rng with gap := true,
                                        ch := s.rng.ch.map fun (p : Nat × TrackCh) => (p.1, { p.2 with st := TrackState.lost, slip := true }) } }
  (((t.wr Reg.RNG_STATUS_ADC_A_OK 0).wr Reg.RNG_STATUS_ADC_B_OK 0).fault Reg.RNG_FAULT_ADC_GAP).showMeas

/-! ## Meanings -/

/-- Meaning of MEAS_EPOCH. -/
def execMeasEpoch (obs : List MeasObs) (s : State) : Out := .next (s.whenMain (measEpochOp obs))
/-- Meaning of MEAS_RATE_APPLY. -/
def execMeasRateApply (s : State) : Out := .next (s.whenMain measRateApplyOp)
/-- Meaning of MEAS_COMMIT. -/
def execMeasCommit (s : State) : Out := .next (s.whenMain measCommitOp)
/-- Meaning of TRACKING_LOOP_COMMIT. -/
def execTrackingLoopCommit (s : State) : Out := .next (s.whenMain trackingLoopCommitOp)
/-- Meaning of ACQ_RESULT. -/
def execAcqResult (antB : Bool) (signal sv : Byte) (codePhase doppler : Word) (peak : BitVec 16) (k : Fin 14) (geo : Bool)
    (s : State) : Out :=
  .next (s.whenMain (acqResultOp antB signal.toNat sv.toNat codePhase.toNat doppler.toNat peak.toNat k.val geo))
/-- Meaning of CHANNEL_ALLOCATION. -/
def execChannelAllocation (sky : List SkySat) (s : State) : Out := .next (s.whenMain (channelAllocationOp sky))
/-- Meaning of TRACKING_LOOP_UPDATE. -/
def execTrackingLoopUpdate (ch : Fin 512) (s : State) : Out := .next (s.whenMain (trackingLoopUpdateOp ch.val))
/-- Meaning of CHANNEL_TRACK. -/
def execChannelTrack (ch : Fin 512) (s : State) : Out := .next (s.whenMain (channelTrackOp ch.val))
/-- Meaning of CHANNEL_PULL_IN_TIMEOUT. -/
def execChannelPullInTimeout (ch : Fin 512) (s : State) : Out := .next (s.whenMain fun t => t.trackTo ch.val [.pullIn] .lost)
/-- Meaning of CHANNEL_LOCKED. -/
def execChannelLocked (ch : Fin 512) (s : State) : Out := .next (s.whenMain (channelLockedOp ch.val))
/-- Meaning of CHANNEL_LOSS. -/
def execChannelLoss (ch : Fin 512) (s : State) : Out := .next (s.whenMain fun t => t.trackTo ch.val [.track, .locked] .lost)
/-- Meaning of CHANNEL_REACQUIRED. -/
def execChannelReacquired (ch : Fin 512) (s : State) : Out := .next (s.whenMain fun t => t.trackTo ch.val [.lost] .pullIn)
/-- Meaning of CHANNEL_IDLE_TIMEOUT. -/
def execChannelIdleTimeout (ch : Fin 512) (s : State) : Out := .next (s.whenMain (channelIdleTimeoutOp ch.val))
/-- Meaning of NAV_RECORD. -/
def execNavRecord (ch : Fin 512) (check : Fin 3) (time : YTime) (payload : List Byte) (s : State) : Out :=
  .next (s.whenMain (navRecordOp ch.val check.val time payload))
/-- Meaning of ANT_FAULT_SET. -/
def execAntFaultSet (antB : Bool) (s : State) : Out := .next (s.whenMain (antFaultSetOp antB))
/-- Meaning of ANT_FAULT_CLEAR. -/
def execAntFaultClear (antB : Bool) (s : State) : Out := .next (s.whenMain (antFaultClearOp antB))
/-- Meaning of BANDPWR_UPDATE. -/
def execBandpwrUpdate (a b : Word) (clipA clipB : Fin 101) (s : State) : Out :=
  .next (s.whenMain (bandpwrUpdateOp a b clipA.val clipB.val))

end Sys2Proof.Machine
end

