-- ==== Sys2Proof/Machine/Base.lean ====
section
/-! DEFINITION. Base Corrections and the caster (chapter 10): reference position, self-survey, RTCM output, NTRIP caster,
compact corrections and the integrity monitor. -/

namespace Sys2Proof.Machine

/-! ## The reference position (rules R205 to R210) -/

/-- Whether the reference position is valid (rule R206). -/
def State.refValid (s : State) : Bool :=
  (match s.nvm.ref with | some r => r.good | none => false) && !s.on Reg.COR_STATUS_DISTURBED

/-- REF_VALID, ORIGIN and BASELINE_SET follow the stored position. -/
def State.showRef (s : State) : State :=
  match s.nvm.ref with
  | some r =>
    if r.good then
      ((s.wr Reg.COR_STATUS_REF_VALID (bit s.refValid)).wr Reg.COR_STATUS_ORIGIN r.origin).wr Reg.COR_STATUS_BASELINE_SET
        (bit (decide (r.e ≠ 0 ∨ r.n ≠ 0 ∨ r.u ≠ 0)))
    else ((s.wr Reg.COR_STATUS_REF_VALID 0).wr Reg.COR_STATUS_ORIGIN 0).wr Reg.COR_STATUS_BASELINE_SET 0
  | none => ((s.wr Reg.COR_STATUS_REF_VALID 0).wr Reg.COR_STATUS_ORIGIN 0).wr Reg.COR_STATUS_BASELINE_SET 0

/-- Stores a reference position, and shows it in the REF registers. -/
def State.storeRef (s : State) (r : RefRec) : State :=
  let t := { s with nvm := { s.nvm with ref := some r } }
  let u := ((t.wr Reg.COR_REF_X (unsigned 64 r.x)).wr Reg.COR_REF_Y (unsigned 64 r.y)).wr Reg.COR_REF_Z (unsigned 64 r.z)
  (((u.wr Reg.COR_BASE_E (unsigned 32 r.e)).wr Reg.COR_BASE_N (unsigned 32 r.n)).wr Reg.COR_BASE_U (unsigned 32 r.u)).showRef

/-- DISTURBED is set (rules R223 to R225). -/
def State.disturb (s : State) : State :=
  let t := ((s.wr Reg.COR_STATUS_DISTURBED 1).fault Reg.COR_FAULT_DISTURBED).showRef
  if t.on Reg.COR_MON_CFG_DIST_STOP then (t.wr Reg.COR_STATUS_RTCM_ON 0).wr Reg.COR_STATUS_COMPACT_ON 0 else t

/-- MON_DEGRADED is set. -/
def State.degrade (s : State) : State :=
  if s.on Reg.COR_STATUS_MON_DEGRADED then s else (s.wr Reg.COR_STATUS_MON_DEGRADED 1).fault Reg.COR_FAULT_MON_DEGRADED

/-- A survey that has counted nothing. -/
def Survey.zero : Survey := ⟨0, 0, 0, 0, 0, 0, 0, 0, 0⟩

/-- A position is a sum of squares about the mean: n Σ|p|² − |Σp|². -/
def Survey.spread (v : Survey) : Nat := ((v.n : Int) * v.sq - (v.sx * v.sx + v.sy * v.sy + v.sz * v.sz)).toNat

/-- Whether SIGMA is at most a limit in 0.1 mm: spread / n² over the whole minutes elapsed against its square. -/
def Survey.within (v : Survey) (limit : Nat) : Bool :=
  decide (v.spread ≤ limit * limit * (v.n * v.n) * (v.n / 60))

/-- SIGMA in units of 10 mm; it has no value before the first whole minute. -/
def Survey.sigma (v : Survey) : Option Nat :=
  if v.n < 60 then none else some (isqrt (v.spread / ((v.n / 60) * v.n * v.n)) / 100)

/-- A completed survey leaves SURVEY: to HOSTED_IDLE under a host, else to PANTRY (rule R61). -/
def State.leaveSurvey (s : State) : State :=
  if s.mode = .survey then s.enterMode (if s.hre.claimed then .hostedIdle else .pantry) else s

/-- A self-survey starts afresh on entry to SURVEY (rule R207). -/
def State.enterSurvey (s : State) : State :=
  ({ s with cor := { s.cor with survey := Survey.zero } }.wrAll 0
    [Reg.COR_SURVEY_STATUS_ELAPSED, Reg.COR_SURVEY_STATUS_SIGMA]).wr Reg.COR_SURVEY_STATUS_STATE 1 |>.enterMode .survey

/-- The point d along the local vertical from p (rules R205, R207). -/
def alongUp (p : Int × Int × Int) (d : Int) : Int × Int × Int := if d = 0 then p else Config.alongUp p.1 p.2.1 p.2.2 d

/-- The survey completes (rules R207, R208): the mean less PCO_UP becomes the reference point. -/
def State.surveyDone (s : State) : State :=
  let v := s.cor.survey
  let p := alongUp (wholeRatio v.sx v.n, wholeRatio v.sy v.n, wholeRatio v.sz v.n) (-(s.rd Reg.COR_REF_CFG_PCO_UP : Int))
  let bE := signed 32 (s.rd Reg.COR_BASE_E)
  let bN := signed 32 (s.rd Reg.COR_BASE_N)
  let bU := signed 32 (s.rd Reg.COR_BASE_U)
  let none_ := decide (bE = 0 ∧ bN = 0 ∧ bU = 0)
  let fixOk := none_ && decide (v.fix ≠ 0) && decide (v.fix * 100 ≥ 80 * v.n)
  let mean := fun (x : Int) => wholeRatio x v.fix
  let r : RefRec := if fixOk then ⟨p.1, p.2.1, p.2.2, 1, mean v.se, mean v.sn, mean v.su, true⟩ else ⟨p.1, p.2.1, p.2.2, 1, bE, bN, bU, true⟩
  let t := (s.storeRef r).wr Reg.COR_SURVEY_STATUS_STATE 2
  (if none_ && !fixOk then t.degrade else t).leaveSurvey

/-- SURVEY_SECOND: a standalone position of antenna A in 0.1 mm from `sats` satellites, and the vector to antenna B in 0.1 mm
where it was fixed. -/
def surveySecondOp (sats : Nat) (x y z : Int) (vec : Option (Int × Int × Int)) (s : State) : State :=
  let st := s.rd Reg.COR_SURVEY_STATUS_STATE
  if s.mode != .survey || st = 2 || st = 3 then s
  else if sats < 5 ∨ s.on Reg.RNG_STATUS_ANT_A_FLT = true then s.wr Reg.COR_SURVEY_STATUS_STATE 1
  else
    let v := s.cor.survey
    let w := { v with n := v.n + 1, sx := v.sx + x, sy := v.sy + y, sz := v.sz + z, sq := v.sq + x * x + y * y + z * z }
    let w2 := match vec with
      | some (e, n, u) => { w with fix := w.fix + 1, se := w.se + e, sn := w.sn + n, su := w.su + u }
      | none => w
    let t := { s with cor := { s.cor with survey := w2 } }
    let d := t.draw 6
    let sg := match w2.sigma with | some g => (g, t) | none => d
    let u := ((sg.2.wr Reg.COR_SURVEY_STATUS_ELAPSED (min w2.n 0xFFFF)).wr Reg.COR_SURVEY_STATUS_SIGMA (min sg.1 0xFFF)).wr
      Reg.COR_SURVEY_STATUS_STATE 1
    let lim := s.rd Reg.COR_SURVEY_CFG_ACC_LIMIT * 100
    if w2.n ≥ s.rd Reg.COR_SURVEY_CFG_MIN_TIME && decide (w2.n ≥ 60) && w2.within lim then u.surveyDone
    else if w2.n = 86400 then u.fault Reg.COR_FAULT_SURVEY_LONG
    else u

/-- The fields of group REF. -/
def refGroup : List Fld :=
  [Reg.COR_REF_X, Reg.COR_REF_Y, Reg.COR_REF_Z, Reg.COR_REF_CFG_MARK_HEIGHT, Reg.COR_REF_CFG_PCO_UP, Reg.COR_BASE_E, Reg.COR_BASE_N,
   Reg.COR_BASE_U, Reg.COR_SURVEY_CFG_MIN_TIME, Reg.COR_SURVEY_CFG_ACC_LIMIT]

/-- Square of the length of a vector. -/
def len2 (x y z : Int) : Int := x * x + y * y + z * z

/-- Whether a point lies outside the shell around the Earth's centre, radii in the point's unit. -/
def offEarth (x y z lo hi : Int) : Bool := decide (len2 x y z < lo * lo ∨ len2 x y z > hi * hi)

/-- A filter reset: every state cleared and FIX NONE; OUT_SEQ and POS_SEQ survive (rule R243). -/
def Filt.cleared (f : Filt) : Filt :=
  { f with fix := .none, fixRun := 0, done := 0, state := [], cov := [], amb := [], links := [], refs := [], ratio := 0, pf := 0 }

/-- CRE_STATUS ACTIVE and FIXED follow the robots. -/
def State.showCre (s : State) : State :=
  let act := ((List.range 256).filter fun n => s.on (Reg.CRE_ROBOT_ACTIVE n)).length
  let fixed := (s.cre.filt.filter fun p => p.2.fix == .fix || p.2.fix == .hold).length
  (s.wr Reg.CRE_STATUS_ACTIVE act).wr Reg.CRE_STATUS_FIXED fixed

/-- The filter of a robot. -/
def State.filt (s : State) (n : Nat) : Filt := AMap.get s.cre.filt n Filt.reset

/-- The state with a robot's filter set. -/
def State.setFilt (s : State) (n : Nat) (f : Filt) : State := { s with cre := { s.cre with filt := AMap.set n f s.cre.filt } }

/-- Resets the filter of robot n (rule R243). -/
def State.creReset (s : State) (n : Nat) : State :=
  let t := s.setFilt n (s.filt n).cleared
  (((t.wr (Reg.CRE_ROBOT_FIX n) 0).wr (Reg.CRE_ROBOT_SATS n) 0).wr (Reg.CRE_ROBOT_AMB_FIXED n) 0).showCre

/-- Whether a robot epoch of robot n waits for its record. -/
def State.inEpoch (s : State) (n : Nat) : Bool := s.cre.queue.any (·.lid == n)

/-- Resets every filter. -/
def State.creResetAll (s : State) : State := (s.cre.filt.map (·.1)).foldl State.creReset s

/-- The filter of robot n is reset, and where its holder has changed its sequence numbers, checks and records start again (rule R243). -/
def State.creClear (s : State) (n : Nat) (holder : Bool) : State :=
  if !holder then s.creReset n
  else
    let t := (s.creReset n).setFilt n Filt.reset
    { t with cre := { t.cre with pos := AMap.del n t.cre.pos, raw := AMap.del n t.cre.raw } }.wrAll 0 [Reg.CRE_ROBOT_XCHK_FAIL n, Reg.CRE_ROBOT_ACTIVE n] |>.showCre

/-- `creClear`, after the record of a robot epoch that has begun (rule R254). -/
def State.creLater (s : State) (n : Nat) (holder : Bool) : State :=
  if s.inEpoch n then { s with cre := { s.cre with due := s.cre.due ++ [(n, holder)] } } else s.creClear n holder

/-- The resets that wait for the record of robot n. -/
def State.creDue (s : State) (n : Nat) : State :=
  if s.inEpoch n then s
  else
    let t := { s with cre := { s.cre with due := s.cre.due.filter (·.1 != n) } }
    (s.cre.due.filter (·.1 == n)).foldl (fun (u : State) x => u.creClear n x.2) t

/-- The local ID changes holder (rules R243, R254). -/
def State.creForget (s : State) (n : Nat) : State := s.creLater n true

/-- COMMIT of group REF (rules R207, R210, R243); the heights and the survey criteria are settings, the position goes to eMRAM. -/
def refCommitOp (s : State) : State :=
  let x := signed 64 (s.sh Reg.COR_REF_X)
  let y := signed 64 (s.sh Reg.COR_REF_Y)
  let z := signed 64 (s.sh Reg.COR_REF_Z)
  let e := signed 32 (s.sh Reg.COR_BASE_E)
  let n := signed 32 (s.sh Reg.COR_BASE_N)
  let u := signed 32 (s.sh Reg.COR_BASE_U)
  let b := len2 e n u
  let lim := s.sh Reg.COR_SURVEY_CFG_ACC_LIMIT
  let v := firstFail
    [(offEarth x y z 63000000000 64000000000, St.badFormat),
     (decide (b ≠ 0 ∧ (b < 5000 * 5000 ∨ b > 50000 * 50000)), St.badFormat),
     (decide (s.sh Reg.COR_SURVEY_CFG_MIN_TIME < 60 ∨ lim < 1 ∨ lim > 500), St.badFormat),
     (s.mode.fleet || s.mode == .twinStandby || s.mode == .rejoin || s.mode == .update, St.refusedMode)]
  let t := s.commit Reg.COR_REF_COMMIT_RESULT refGroup v
  if v ≠ St.done then t
  else
    let w := ((t.wr Reg.COR_STATUS_DISTURBED 0).storeRef ⟨x, y, z, 2, e, n, u, true⟩).wr Reg.COR_MON_RESULT_FAIL_RUN 0
    let x := w.storeFields [Reg.COR_REF_CFG_MARK_HEIGHT, Reg.COR_REF_CFG_PCO_UP, Reg.COR_SURVEY_CFG_MIN_TIME, Reg.COR_SURVEY_CFG_ACC_LIMIT]
    let q := { x with cor := { x.cor with driftRun := 0, driftOk := false, driftFrom := x.now.sec, station := true } }.creResetAll
    if q.mode = .survey then (q.wr Reg.COR_SURVEY_STATUS_STATE 3).leaveSurvey else q

/-! ## Modes (rules R225, R227) -/

/-- Whether DISTURBED stops the output. -/
def State.distStop (s : State) : Bool := s.on Reg.COR_STATUS_DISTURBED && s.on Reg.COR_MON_CFG_DIST_STOP

/-! ## RTCM output (rules R211 to R216) -/

/-- The fields of group RTCM. -/
def rtcmGroup : List Fld :=
  [Reg.COR_RTCM_CFG_RATE, Reg.COR_RTCM_CFG_SYS_EN, Reg.COR_RTCM_CFG_STA_PERIOD, Reg.COR_RTCM_CFG_BIAS_PERIOD, Reg.COR_RTCM_CFG_DESC_PERIOD,
   Reg.COR_RTCM_ID_STATION_ID, Reg.COR_RTCM_ID_ID_AUTO, Reg.COR_COMPACT_CFG_CRATE, Reg.COR_COMPACT_CFG_C_EN, Reg.COR_COMPACT_CFG_C_SYS,
   Reg.COR_COMPACT_CFG_MAX_SV, Reg.COR_COMPACT_CFG_POS_EVERY]

/-- An accepted RTCM commit whose whole second has come takes effect. -/
def State.rtcmApply (s : State) : State :=
  match s.cor.rtcmAt with
  | some (k, vs) =>
    if s.now.sec ≥ k then ({ s with cor := { s.cor with rtcmAt := none } }.wrEach (rtcmGroup.zip vs)).storeFields rtcmGroup else s
  | none => s

/-- COMMIT of group RTCM (rule R229). -/
def rtcmCommitOp (s0 : State) : State :=
  let s := s0.rtcmApply
  let c := s.sh Reg.COR_COMPACT_CFG_CRATE
  let m := s.sh Reg.COR_COMPACT_CFG_MAX_SV
  let hz := match c with | 0 => 1 | 1 => 2 | _ => 5
  let v := firstFail
    [(decide (s.sh Reg.COR_RTCM_CFG_RATE > 4), St.badFormat),
     (decide (s.sh Reg.COR_RTCM_CFG_SYS_EN = 0 ∨ s.sh Reg.COR_COMPACT_CFG_C_SYS = 0 ∨ s.sh Reg.COR_RTCM_CFG_STA_PERIOD = 0), St.badFormat),
     (c == 3, St.badFormat),
     (decide (m < 4 ∨ m > 48 ∨ s.sh Reg.COR_COMPACT_CFG_POS_EVERY = 0), St.badFormat),
     (decide (hz * ratePeriod s.rng.rate > 1000), St.badFormat)]
  let next := fun (a : State) => { a with cor := { a.cor with rtcmAt := some (a.now.sec + 1, rtcmGroup.map a.sh) } }
  (if v = St.done then next s else s).wr Reg.COR_RTCM_COMMIT_RESULT v

/-- The reference station ID in force (rules R82, R228). -/
def State.stationId (s : State) : Nat :=
  if s.on Reg.COR_RTCM_ID_ID_AUTO then s.rd Reg.GLB_CFG_FED_ID % 4096 else s.rd Reg.COR_RTCM_ID_STATION_ID

/-- Milliseconds of GPS time since the start of GPS week 0 (rule R422). -/
def gpsMs (t : YTime) : Nat := (t.sec - 315964819) * 1000 + t.ns / 1000000

/-- The measurement epoch that a command at a multiple of p ms acts on: the last one taken, unless it was acted on before. -/
def State.epochTime (s : State) (p : Nat) (done : Option YTime) : YTime :=
  match s.rng.last with
  | some t => if t.frac = 0 ∧ t.ns % (p * 1000000) = 0 ∧ done ≠ some t ∧ timeLe s.now (afterMs p t) = true then t else nextAt p s.now done
  | none => nextAt p s.now done

/-- The records of the antenna A series of an epoch, if it came whole (rules R195, R215). -/
def State.seriesOf (s : State) (time : YTime) : Option MeasSeries :=
  match s.cor.seriesA with | some m => if m.whole = true ∧ m.time = time then some m else none | none => none

/-! ### MSM7 messages (rules R212 to R214) -/

/-- The MSM7 message number of a system. -/
def msmNumber (sys : Nat) : Nat := match sys with | 0 => 1077 | 1 => 1087 | 2 => 1097 | 3 => 1127 | _ => 1117

/-- The system of an MSM7 message number. -/
def msmSystem (n : Nat) : Nat := match n with | 1077 => 0 | 1087 => 1 | 1097 => 2 | 1127 => 3 | _ => 4

/-- The MSM signal ID of a signal code (MSM signal table). -/
def msmSignal (code : Nat) : Nat :=
  match code with
  | 0x01 | 0x40 | 0x20 | 0x30 => 2
  | 0x02 | 0x21 => 31
  | 0x03 | 0x41 => 17
  | 0x04 | 0x42 | 0x11 => 24
  | 0x10 => 5
  | 0x12 => 16
  | 0x22 => 23
  | _ => 8

/-- An MSM7 message (rule R213). IODS, the smoothing indicator and its interval are 0 in each. -/
structure Msm where
  number   : Nat
  station  : Nat
  time     : Nat              -- epoch time in the system's own time scale, ms
  multiple : Bool
  steering : Nat
  extClock : Nat
  sats     : List (Nat × Nat)   -- satellites, ascending, with their extended information
  sigs     : List Nat           -- signal IDs present, ascending
  cells    : List MeasRec
  deriving DecidableEq, Repr

/-- A number put in its place in an ascending list without repeats. -/
def ascending (l : List Nat) : List Nat := l.foldl (fun a x => insertNat x a) []

/-- The signal IDs present among the records of some satellites. -/
def signalsPresent (rs : List MeasRec) (svs : List Nat) : List Nat :=
  ascending ((rs.filter fun r => svs.contains r.sv).map fun r => msmSignal r.signal)

/-- The largest set of the satellites ahead, in ascending order, whose product with the signals present is at most 64, and the rest. -/
def fitSats (rs : List MeasRec) : List Nat → List Nat → List Nat × List Nat
  | acc, [] => (acc, [])
  | acc, v :: t =>
    if acc = [] ∨ (acc.length + 1) * (signalsPresent rs (acc ++ [v])).length ≤ 64 then fitSats rs (acc ++ [v]) t else (acc, v :: t)

/-- The satellites of a system split over its messages. -/
def splitSats (rs : List MeasRec) : Nat → List Nat → List (List Nat)
  | 0, _ => []
  | _, [] => []
  | fuel + 1, svs => let r := fitSats rs [] svs; r.1 :: splitSats rs fuel r.2

/-- Epoch time of a system in ms (rule R213): time of week, that of BeiDou 14 s behind GPS time; for GLONASS the day of the week in bits
[29:27] and the time of day of UTC plus 3 h. PRESUMED, both offsets (log entry 72). -/
def systemTime (sys utcOffset : Nat) (t : YTime) : Nat :=
  let g := gpsMs t
  if sys = 1 then
    let u := g + 19000 - utcOffset * 1000 + 10800000
    (u / 86400000) % 7 * 134217728 + u % 86400000
  else if sys = 3 then (g - 14000) % 604800000
  else g % 604800000

/-- The messages of one system: one cell for each record, split by satellite, each but the last with the multiple-message bit. -/
def systemMsms (station utcOffset sys : Nat) (m : MeasSeries) : List Msm :=
  let rs := m.recs.filter fun r => systemOf r.signal == sys
  let steered := bits m.flags 1 1
  let parts := splitSats rs 64 (ascending (rs.map (·.sv)))
  let msg := fun (x : List Nat × Nat) =>
    let cells := rs.filter fun r => x.1.contains r.sv
    let ext := fun (v : Nat) => if sys = 1 then ((cells.find? fun r => r.sv == v).map (·.k)).getD 0 else 0
    (⟨msmNumber sys, station, systemTime sys utcOffset m.time, decide (x.2 + 1 < parts.length), steered, if steered = 1 then 1 else 2,
      x.1.map fun v => (v, ext v), signalsPresent rs x.1, cells⟩ : Msm)
  (parts.zip (List.range parts.length)).map msg

/-- The MSM messages of an epoch for the systems of SYS_EN, in ascending message number. -/
def msmMessages (station utcOffset sysEn : Nat) (m : MeasSeries) : List Msm :=
  (([0, 1, 2, 4, 3] : List Nat).filter fun y => bits sysEn y 1 == 1).flatMap fun y => systemMsms station utcOffset y m

/-- A cell: satellite, signal ID, half-cycle ambiguity indicator, lock time, C/N0, and pseudorange, phase and Doppler with their valid
flags. -/
def MeasRec.cell (r : MeasRec) : List Nat :=
  [r.sv, msmSignal r.signal, 1 - bits r.flags 2 1, r.lock, r.cn0, bits r.flags 0 1, if bits r.flags 0 1 = 1 then r.pr else 0,
   bits r.flags 1 1, unsigned 48 r.phase, unsigned 32 r.doppler]

/-- What an MSM message says, as numbers. -/
def Msm.content (m : Msm) : List Nat :=
  [m.number, m.station, m.time, bit m.multiple, 0, m.steering, m.extClock, 0, 0, m.sats.length] ++ (m.sats.flatMap fun x => [x.1, x.2])
    ++ (m.sigs.length :: m.sigs) ++ m.cells.flatMap MeasRec.cell

/-- Bytes of an MSM message with its transport frame: 169 header bits, the cell mask, 36 bits per satellite and 80 per cell. -/
def Msm.size (m : Msm) : Nat := (169 + m.sats.length * m.sigs.length + 36 * m.sats.length + 80 * m.cells.length + 7) / 8 + 6

/-! ### Messages and their delivery -/

/-- The bytes of a message of a given content and length (rule R211). -/
def rtcmBytes (content : List Nat) (size : Nat) : List Byte := (List.range size).map (Config.rtcmByte content)

/-- 1005, or 1006 with the antenna height: the reference point (rules R205, R211). -/
def State.stationMsg (s : State) (r : RefRec) : Nat × List Byte :=
  let h := s.rd Reg.COR_REF_CFG_MARK_HEIGHT
  let n := if h = 0 then 1005 else 1006
  (n, rtcmBytes ([n, s.stationId, unsigned 64 r.x, unsigned 64 r.y, unsigned 64 r.z] ++ (if h = 0 then [] else [h])) (if h = 0 then 25 else 27))

/-- The characters of a zero-padded field. -/
def unpad (l : List Byte) : List Byte := l.takeWhile (· != 0)

/-- Bytes lo to lo + k − 1 of a payload. -/
def slice (p : List Byte) (lo k : Nat) : List Byte := (p.drop lo).take k

/-- 1033: the station text, the receiver type, the running image's version and the device serial (rule R218). -/
def State.descMsg (s : State) : Nat × List Byte :=
  let texts := [unpad (slice s.cor.text 0 32), unpad (slice s.cor.text 32 32), (ascii "CAERSYN ZY9620").map (BitVec.ofNat 8),
                Config.versionText (s.rd Reg.GLB_FW_VER), Config.serialText]
  (1033, rtcmBytes ([1033, s.stationId] ++ texts.flatMap fun x => x.length :: x.map BitVec.toNat) (15 + (texts.map List.length).sum))

/-- 1230 (rule R211). -/
def State.biasMsg (s : State) : Nat × List Byte := (1230, rtcmBytes [1230, s.stationId] 14)

/-- A message with its number is committed to chute 26 as one packet. -/
def State.sendRtcm (s : State) (m : Nat × List Byte) : State :=
  ((s.send 26 0 (m.2.map BitVec.toNat)).wrapBy Reg.COR_MSG_COUNT 1)

/-- Upper-case hexadecimal digits of a number below 16^fuel, without leading zeros. -/
def hexDigits : Nat → Nat → List Byte
  | 0, _ => []
  | fuel + 1, n => (if n < 16 then [] else hexDigits fuel (n / 16)) ++ [BitVec.ofNat 8 (if n % 16 < 10 then 48 + n % 16 else 55 + n % 16)]

/-- An epoch's data as a client receives it: one chunk, or the bare bytes for NTRIP v1 (rule R217). -/
def framed (v1 : Bool) (data : List Byte) : List Byte :=
  if v1 || data.isEmpty then data else hexDigits 8 data.length ++ [13, 10] ++ data ++ [13, 10]

/-- The messages of an epoch that a mount point serves: its systems, every RATE_DIV-th epoch, and what is no MSM. -/
def Mount.serves (m : Mount) (epoch : Nat) (all : List (Nat × List Byte)) : List (Nat × List Byte) :=
  all.filter fun x => decide (x.1 < 1070) || x.1 == 1230 || (bits m.sys (msmSystem x.1) 1 == 1 && epoch % (max m.div 1) == 0)

/-- Hands an epoch's data to a client; data that would not fit in the 32 KiB backlog is skipped whole (rule R221). The Bool says that it
was skipped. -/
def handOver (mounts : List Mount) (epoch : Nat) (all : List (Nat × List Byte)) (c : CastClient) : CastClient × Bool :=
  match mounts.find? (fun m => m.name == c.mount) with
  | none => (c, false)
  | some m =>
    let data := framed c.v1 ((m.serves epoch all).flatMap Prod.snd)
    if data.isEmpty then (c, false)
    else if c.backlog.length + data.length > 32768 then (c, true)
    else ({ c with backlog := c.backlog ++ data }, false)

/-- What TCP has left of each client's backlog. -/
def drained (l : List (Nat × Nat)) (c : CastClient) : CastClient :=
  { c with backlog := c.backlog.drop (c.backlog.length - ((l.find? fun x => x.1 == c.id).map Prod.snd).getD 0) }

/-- Bytes offered to each mount point, by second (rule R217). -/
def State.countRates (s : State) (sec : Nat) (all : List (Nat × List Byte)) : State :=
  let more := s.cor.mounts.map fun m => ((m.serves s.cor.epochs all).map fun x => x.2.length).sum
  let now := if sec = s.cor.rateSec then s.cor.rateNow else []
  let add := (List.range more.length).map fun i => more.getD i 0 + now.getD i 0
  { s with cor := { s.cor with rateNow := add, rateSec := sec,
                               rateLast := if sec = s.cor.rateSec then s.cor.rateLast else if sec = s.cor.rateSec + 1 then s.cor.rateNow else [] } }

/-- The messages of an epoch go to chute 26 and to the clients (rules R211, R215, R221); those other than MSM are kept for new clients. -/
def State.deliverRtcm (s : State) (sec : Nat) (left : List (Nat × Nat)) (st msm : List (Nat × List Byte)) : State :=
  let all := st ++ msm
  let u := (all.foldl State.sendRtcm s).countRates sec all
  let cs := (u.cor.clients.map (drained left)).map (handOver u.cor.mounts u.cor.epochs all)
  let keep := st ++ u.cor.sent.filter fun x => !(st.any fun y => y.1 == x.1 || (decide (y.1 < 1010) && decide (x.1 < 1010)))
  ({ u with cor := { u.cor with clients := cs.map Prod.fst, station := false, desc := false, bias := false, sent := keep,
                                epochs := u.cor.epochs + 1 } }).bumpBy
    Reg.COR_CLIENT_SKIP Reg.COR_FAULT_CNT_SAT (cs.filter fun (x : CastClient × Bool) => x.2).length

/-- RTCM_EPOCH (rules R211 to R216); `left` is what TCP has left of the clients' backlogs. -/
def rtcmEpochOp (left : List (Nat × Nat)) (s00 : State) : State :=
  let s0 := s00.baseReads.rtcmApply
  let time := s0.epochTime (ratePeriod (min (s0.rd Reg.COR_RTCM_CFG_RATE) s0.rng.rate)) s0.cor.last
  let s1 := (s0.advance time).rtcmApply
  let s := { s1 with cor := { s1.cor with last := some time } }.wr Reg.COR_STATUS_RATE_CAPPED (bit (decide (s1.rng.rate < s1.rd Reg.COR_RTCM_CFG_RATE)))
  if !s.corServes || s.distStop || s.outputsStopped then s.wr Reg.COR_STATUS_RTCM_ON 0
  else
    let t := s.wr Reg.COR_STATUS_RTCM_ON 1
    let due := fun (p : Nat) => decide (p ≠ 0) && decide (time.ns = 0) && time.sec % p == 0
    let glo := t.rng.ch.any fun p => p.2.live && !p.2.antB && systemOf p.2.signal == 1
    let sta := t.cor.station || due (t.rd Reg.COR_RTCM_CFG_STA_PERIOD)
    let dsc := !t.cor.text.isEmpty && (t.cor.desc || due (t.rd Reg.COR_RTCM_CFG_DESC_PERIOD))
    let bia := glo && (t.cor.bias || due (t.rd Reg.COR_RTCM_CFG_BIAS_PERIOD))
    match t.seriesOf time with
    | none =>
      let u := (t.bump Reg.COR_EPOCH_MISSED Reg.COR_FAULT_CNT_SAT).fault Reg.COR_FAULT_EPOCH_MISSED
      { u with cor := { u.cor with station := sta, desc := dsc, bias := bia } }
    | some m =>
      let station := match sta, t.nvm.ref with | true, some r => [t.stationMsg r] | _, _ => []
      let st := station ++ (if dsc then [t.descMsg] else []) ++ (if bia then [t.biasMsg] else [])
      let msm := (msmMessages t.stationId (t.rd Reg.TIM_UTC % 65536) (t.rd Reg.COR_RTCM_CFG_SYS_EN) m).map fun x => (x.number, rtcmBytes x.content x.size)
      t.deliverRtcm time.sec left st msm

/-! ## The caster (rules R217 to R221, R230) -/

/-- Whether bytes are 1 to n printable ASCII characters without two excluded ones, zero-padded. -/
def nameOk (n : Nat) (bad : List Nat) (l : List Byte) : Bool :=
  let t := (l.map BitVec.toNat).takeWhile (· != 0)
  decide (1 ≤ t.length ∧ t.length ≤ n) && t.all (fun c => decide (0x20 ≤ c ∧ c ≤ 0x7E) && !bad.contains c)
    && (l.drop t.length).all (· == 0)

/-- Whether bytes are 1 to n ASCII characters, zero-padded. -/
def textOk (n : Nat) (l : List Byte) : Bool :=
  let t := (l.map BitVec.toNat).takeWhile (· != 0)
  decide (1 ≤ t.length ∧ t.length ≤ n) && t.all (fun c => decide (c ≤ 0x7F)) && (l.drop t.length).all (· == 0)

/-- Whether a list names something twice. -/
def repeats [DecidableEq α] : List α → Bool
  | [] => false
  | x :: t => t.contains x || repeats t

/-- Whether a caster table breaks a field rule. -/
def State.tableBad (s : State) (p : List Byte) (m u : Nat) : Bool :=
  let at_ := fun (i : Nat) => (p.getD i 0).toNat
  let mount := fun (i : Nat) =>
    let b := 16 + 32 * i
    !nameOk 23 [0x20, 0x2F] (slice p b 24) || decide (at_ (b + 24) % 32 &&& (31 - s.rd Reg.COR_RTCM_CFG_SYS_EN) ≠ 0) || decide (at_ (b + 24) ≥ 32)
      || decide (at_ (b + 25) < 1 ∨ at_ (b + 25) > 20) || !(slice p (b + 26) 6).all (· == 0)
  let user := fun (i : Nat) =>
    let b := 16 + 32 * m + 64 * i
    !nameOk 23 [0x20, 0x3A] (slice p b 24) || !nameOk 31 [] (slice p (b + 24) 32) || decide (at_ (b + 56) ≥ 16) || !(slice p (b + 57) 7).all (· == 0)
  at_ 0 != 1 || decide (m < 1 ∨ m > 4 ∨ u > 64) || !(slice p 4 12).all (· == 0) || (List.range m).any mount || (List.range u).any user
    || repeats ((List.range m).map fun i => slice p (16 + 32 * i) 24)

/-- CASTER_TABLE (rule R218). -/
def casterTableOp (c : Cmd) (data : List Byte) (s : State) : State :=
  s.hostCmd c .dataIn fun t =>
    let m := (data.getD 1 0).toNat
    let u := (data.getD 2 0).toNat + 256 * (data.getD 3 0).toNat
    let len := c.desc.length.toNat
    if len < 16 ∨ len ≠ 16 + 32 * m + 64 * u then t.finish c St.badLength 0 0
    else if t.tableBad data m u then t.finish c St.badFormat 0 0
    else match t.keyOf 7 with
      | none => t.finish c St.keyRevoked 0 0
      | some k =>
        let ms := (List.range m).map fun i =>
          (⟨unpad (slice data (16 + 32 * i) 24), (data.getD (40 + 32 * i) 0).toNat, (data.getD (41 + 32 * i) 0).toNat⟩ : Mount)
        let us := (List.range u).map fun i =>
          let b := 16 + 32 * m + 64 * i
          (⟨unpad (slice data b 24), hmacBytes k ((unpad (slice data (b + 24) 32)).map BitVec.toNat), (data.getD (b + 56) 0).toNat⟩ : CastUser)
        let v := ({ t with cor := { t.cor with mounts := ms, users := us } }).storeWith fun (a : SettingsArea) => { a with mounts := ms, users := us }
        let gone := fun (x : CastClient) =>
          !(ms.any fun y => y.name == x.mount) || (match x.user with | some n => !(us.any fun y => y.name == n) | none => false)
        (v.closeClients gone).finish c St.done len 0

/-- STATION_TEXT (rule R218). -/
def stationTextOp (c : Cmd) (data : List Byte) (s : State) : State :=
  s.hostCmd c .dataIn fun t =>
    if c.desc.length ≠ 64 then t.finish c St.badLength 0 0
    else if !textOk 31 (slice data 0 32) || !textOk 31 (slice data 32 32) then t.finish c St.badFormat 0 0
    else ({ t with cor := { t.cor with text := data.take 64 } }).finish c St.done 64 0

/-- The clients allowed: MAX_CLIENTS, and at most 16 while no credentials are in force. -/
def State.clientLimit (s : State) : Nat :=
  let m := s.rd Reg.COR_CASTER_CFG_MAX_CLIENTS
  if s.cor.users.isEmpty then min 16 m else m

/-- A failed authentication: counted, and the fifth within 60 s locks the source out (rule R220). -/
def State.authFailed (s : State) (addr : Nat) : State :=
  let recent := (addr, s.now) :: s.cor.fails.filter fun x => decide (s.now.sec < x.2.sec + 60 ∨ (s.now.sec = x.2.sec + 60 ∧ s.now.ns ≤ x.2.ns))
  let t := (s.bump Reg.COR_AUTH_FAIL Reg.COR_FAULT_CNT_SAT).fault Reg.COR_FAULT_AUTH_FAIL
  if (recent.filter fun x => x.1 == addr).length ≥ 5 then
    { t with cor := { t.cor with fails := recent.filter (fun x => x.1 != addr), lockout := insertNat addr t.cor.lockout } }
  else { t with cor := { t.cor with fails := recent } }

/-- Whether the caster listens on a LAN. -/
def State.listens (s : State) (lanB : Bool) : Bool :=
  (s.corServes || s.mode == .survey) && !s.outputsStopped && s.on (if lanB then Reg.COR_CASTER_CFG_LAN_B_EN else Reg.COR_CASTER_CFG_LAN_A_EN)
    && s.zyp.lanUp.contains (bit lanB) && s.on Reg.CLK_ADMIT_STATUS_LAN_ADMITTED

/-- Whether a request's credentials let it into a mount: the user, or that the caster is open. -/
def State.credentials (s : State) (q : CastReq) (mount : Nat) : Option (Option (List Byte)) :=
  if s.cor.users.isEmpty then some none
  else match q.creds with
    | none => none
    | some (u, p) =>
      match s.cor.users.find? (fun x => x.name == u), s.keyOf 7 with
      | some x, some k => if hmacBytes k (p.map BitVec.toNat) == x.verifier && bits x.mask mount 1 == 1 then some (some u) else none
      | _, _ => none

/-- Notes the answer of the caster. -/
def State.answered (s : State) (a : Nat) : State := { s with cor := { s.cor with answer := a } }

/-- The messages of a mount point with their periods in ms, as the sourcetable lists them. -/
def State.details (s : State) (m : Mount) : List (Nat × Nat) :=
  let sec := fun (n p : Nat) => if p = 0 then [] else [(n, p * 1000)]
  let sys := m.sys &&& s.rd Reg.COR_RTCM_CFG_SYS_EN
  let period := ratePeriod (min (s.rd Reg.COR_RTCM_CFG_RATE) s.rng.rate) * max 1 m.div
  sec (if s.rd Reg.COR_REF_CFG_MARK_HEIGHT = 0 then 1005 else 1006) (s.rd Reg.COR_RTCM_CFG_STA_PERIOD)
    ++ (if s.cor.text.isEmpty then [] else sec 1033 (s.rd Reg.COR_RTCM_CFG_DESC_PERIOD))
    ++ sec 1230 (s.rd Reg.COR_RTCM_CFG_BIAS_PERIOD)
    ++ ((([0, 1, 2, 4, 3] : List Nat).filter fun y => bits sys y 1 == 1).map fun y => (msmNumber y, period))

/-- The STR entry of mount point i (rule R217). -/
def State.strEntry (s : State) (m : Mount) (i : Nat) : StrEntry :=
  let rates := if s.now.sec = s.cor.rateSec then s.cor.rateLast else if s.now.sec = s.cor.rateSec + 1 then s.cor.rateNow else []
  ⟨m.name, s.details m, 2, m.sys &&& s.rd Reg.COR_RTCM_CFG_SYS_EN, (match s.nvm.ref with | some r => Config.latLon r.x r.y r.z | none => (0, 0)),
   !s.cor.users.isEmpty, rates.getD i 0 * 8⟩

/-- The sourcetable is answered. -/
def State.sourcetable (s : State) : State :=
  let l := (s.cor.mounts.zip (List.range s.cor.mounts.length)).map fun (x : Mount × Nat) => s.strEntry x.1 x.2
  { s with cor := { s.cor with table := l } }.answered 1

/-- CASTER_REQUEST: the caster answer table, from its second row on. -/
def casterRequestOp (q : CastReq) (s : State) : State :=
  if !s.listens q.lanB then s
  else if q.tooLong then (s.bump Reg.COR_CLIENT_CLOSED Reg.COR_FAULT_CNT_SAT).answered 0
  else if s.cor.lockout.contains q.addr.toNat then
    ((s.bump Reg.COR_AUTH_FAIL Reg.COR_FAULT_CNT_SAT).fault Reg.COR_FAULT_AUTH_FAIL).answered 0
  else if !q.isGet then
    (s.bump Reg.COR_CLIENT_CLOSED Reg.COR_FAULT_CNT_SAT).answered (if q.v2 then 405 else 0)
  else if !q.v2 && !s.on Reg.COR_CASTER_CFG_V1_EN then s.answered 400
  else match s.cor.mounts.findIdx? (fun m => m.name == q.path) with
    | none => s.sourcetable
    | some i =>
      if !s.corServes then s.answered 503
      else match s.credentials q i with
        | none => (s.authFailed q.addr.toNat).answered 401
        | some u =>
          if s.cor.clients.length ≥ s.clientLimit then
            ((s.bump Reg.COR_CLIENT_REFUSED Reg.COR_FAULT_CNT_SAT).fault Reg.COR_FAULT_CLIENT_REFUSED).answered 503
          else
            let c : CastClient := ⟨s.cor.nextId, q.lanB, q.addr.toNat, u, !q.v2, q.path, framed (!q.v2) (s.cor.sent.flatMap Prod.snd)⟩
            (({ s with cor := { s.cor with clients := s.cor.clients ++ [c], nextId := s.cor.nextId + 1 } }).showCaster).answered
              (if q.v2 then 200 else 2)

/-- CASTER_REQUEST_TIMEOUT: the connection is closed. -/
def casterRequestTimeoutOp (s : State) : State := (s.bump Reg.COR_CLIENT_CLOSED Reg.COR_FAULT_CNT_SAT).answered 0

/-- LOCKOUT_EXPIRE. -/
def lockoutExpireOp (addr : Nat) (s : State) : State := { s with cor := { s.cor with lockout := s.cor.lockout.filter (· != addr) } }

/-- CLIENT_BACKLOG_TIMEOUT. -/
def clientBacklogTimeoutOp (id : Nat) (s : State) : State := s.closeClients fun c => c.id == id && !c.backlog.isEmpty

/-- COMMIT of group CASTER (rule R230): the most recent connections above a lower limit are closed. -/
def casterCommitOp (s : State) : State :=
  let a := s.sh Reg.COR_CASTER_CFG_LAN_A_EN
  let b := s.sh Reg.COR_CASTER_CFG_LAN_B_EN
  let v := firstFail
    [(decide (s.sh Reg.COR_CASTER_CFG_PORT = 0 ∨ s.sh Reg.COR_CASTER_CFG_MAX_CLIENTS > 256 ∨ (a = 0 ∧ b = 0)), St.badFormat)]
  let moved := s.sh Reg.COR_CASTER_CFG_PORT != s.rd Reg.COR_CASTER_CFG_PORT
  let t := s.commit Reg.COR_CASTER_COMMIT_RESULT
    [Reg.COR_CASTER_CFG_PORT, Reg.COR_CASTER_CFG_MAX_CLIENTS, Reg.COR_CASTER_CFG_V1_EN, Reg.COR_CASTER_CFG_LAN_A_EN,
     Reg.COR_CASTER_CFG_LAN_B_EN] v
  if v ≠ St.done then t
  else if moved then t.closeClients fun _ => true
  else
    let keep := (t.cor.clients.take t.clientLimit).map (·.id)
    t.closeClients fun c => !keep.contains c.id

/-! ## Compact corrections (rule R222) -/

/-- Carrier frequency of a signal in Hz (signal table); `k` is GLONASS k + 7. -/
def carrier (code k : Nat) : Int :=
  match code with
  | 0x01 | 0x02 | 0x10 | 0x21 | 0x40 => 1575420000
  | 0x03 | 0x41 => 1227600000
  | 0x04 | 0x11 | 0x22 | 0x42 => 1176450000
  | 0x12 => 1207140000
  | 0x13 => 1278750000
  | 0x20 => 1561098000
  | 0x23 => 1268520000
  | 0x30 => 1602000000 + 562500 * ((k : Int) - 7)
  | _ => 1246000000 + 437500 * ((k : Int) - 7)

/-- The first record of a satellite whose signal is in a list, in the order of the list. -/
def firstOf (rs : List MeasRec) (sv : Nat) (codes : List Nat) : Option MeasRec :=
  codes.findSome? fun c => rs.find? fun r => r.sv == sv && r.signal == c

/-- Whether PR_VALID and PHASE_VALID are set. -/
def MeasRec.valid (r : MeasRec) : Bool := bits r.flags 0 2 == 3

/-- A phase offset of the compact satellite table: phase less pseudorange over wavelength, in 1/256 cycle. -/
def MeasRec.phaseOfs (r : MeasRec) : Int := wholeRatio (r.phase * 299792458 - (r.pr : Int) * carrier r.signal r.k) (4 * 299792458)

/-- Whether a signed number fits w bits. -/
def fits (w : Nat) (v : Int) : Bool := decide (-(2 ^ (w - 1) : Int) ≤ v ∧ v < 2 ^ (w - 1))

/-- The block of a satellite in a compact frame (compact satellite table), if it appears: the L1-group signal, and the L5-group signal or
else the L2-group signal where it is valid. -/
def compactBlock (sys sv : Nat) (rs : List MeasRec) : Option (List Nat) :=
  match firstOf rs sv ((signalCodes.filter fun c => systemOf c == sys).filter fun c => [0x01, 0x02, 0x10, 0x20, 0x21, 0x30, 0x40].contains c) with
  | none => none
  | some a =>
    let second := ((firstOf rs sv [0x04, 0x11, 0x12, 0x22, 0x42]).or (firstOf rs sv [0x03, 0x31, 0x41])).filter MeasRec.valid
    let ph2 := match second with | some b => b.phaseOfs | none => 0
    let dpr := match second with | some b => wholeRatio (((b.pr : Int) - a.pr) * 1000) 20480 | none => 0
    if !a.valid || !fits 24 a.phaseOfs || !fits 24 ph2 then none
    else
      let pr1 := wholeRatio ((a.pr : Int) * 1000 % (299792458 * 1024)) 20480
      let lock := match second with | some b => min a.lock b.lock | none => a.lock
      some ([sv, sys, a.signal, (match second with | some b => b.signal | none => 0)] ++ le 3 (unsigned 24 pr1) ++ le 2 (unsigned 16 dpr)
        ++ le 3 (unsigned 24 a.phaseOfs) ++ le 3 (unsigned 24 ph2)
        ++ [a.slips % 4 + 4 * (match second with | some b => b.slips % 4 | none => 0) + 16 * min 15 (Nat.log2 ((lock + 1000) / 1000))])

/-- The satellites of the systems of C_SYS, highest first (rule R222); those with no predicted elevation come last. -/
def State.compactSats (s : State) (rs : List MeasRec) : List SkySat :=
  let pairs := rs.foldl (fun (l : List (Nat × Nat)) r =>
    let x := (systemOf r.signal, r.sv)
    if bits (s.rd Reg.COR_COMPACT_CFG_C_SYS) x.1 1 == 1 && !l.contains x then l ++ [x] else l) []
  (pairs.map fun x => (⟨false, Fin.ofNat 5 x.1, BitVec.ofNat 8 x.2, s.elevation false x.1 x.2⟩ : SkySat)).foldl (fun (l : List SkySat) x => placeSat x l) []

/-- The satellite blocks of a compact frame in order, before the capacity of 35 is applied (rules R222, R411). -/
def State.compactBlocks (s : State) (m : MeasSeries) : List (List Nat) :=
  ((s.compactSats m.recs).take (s.rd Reg.COR_COMPACT_CFG_MAX_SV)).filterMap fun x =>
    compactBlock x.sys.val x.sv.toNat (m.recs.filter fun r => systemOf r.signal == x.sys.val)

/-- The station record: the L1-group phase centre (rules R205, R411). -/
def State.stationRecord (s : State) : List Nat :=
  match s.nvm.ref with
  | some r =>
    let p := alongUp (r.x, r.y, r.z) (s.rd Reg.COR_REF_CFG_PCO_UP)
    le 8 (unsigned 64 p.1) ++ le 8 (unsigned 64 p.2.1) ++ le 8 (unsigned 64 p.2.2)
  | none => []

/-- COMPACT_EPOCH: the COMPACT_COR body (rule R411) is the packet's content, and the unit that drives SRP_TXEN sends it. -/
def compactEpochOp (s00 : State) : State :=
  let s0 := s00.baseReads.rtcmApply
  let time := s0.epochTime (match s0.rd Reg.COR_COMPACT_CFG_CRATE with | 0 => 1000 | 1 => 500 | _ => 200) s0.cor.lastC
  let s1 := (s0.advance time).rtcmApply
  let s := { s1 with cor := { s1.cor with lastC := some time } }
  if !s.corServes || !s.on Reg.COR_COMPACT_CFG_C_EN || !s.on Reg.PIN_STRAP_STATUS_RADIO_ON || s.distStop || s.outputsStopped then
    s.wr Reg.COR_STATUS_COMPACT_ON 0
  else match s.seriesOf time with
  | none => s.wr Reg.COR_STATUS_COMPACT_ON 1
  | some m =>
    let t := s.wr Reg.COR_STATUS_COMPACT_ON 1
    let blocks := t.compactBlocks m
    let u := if blocks.length > 35 then (t.bump Reg.COR_COMPACT_TRUNC Reg.COR_FAULT_CNT_SAT).fault Reg.COR_FAULT_COMPACT_TRUNC else t
    let every := max 1 (u.rd Reg.COR_COMPACT_CFG_POS_EVERY)
    let station := u.cor.frames + 1 ≥ every && u.nvm.ref.isSome
    let b := [min 35 blocks.length, bit station + 2 * bits m.flags 1 1] ++ le 2 u.stationId ++ le 4 (gpsMs time % 604800000)
      ++ le 2 (gpsMs time / 604800000) ++ le 2 0 ++ (if station then u.stationRecord else []) ++ (blocks.take 35).flatten
    let v := u.send 27 0 (0x04 :: b)
    let w := { v with cor := { v.cor with frames := if station then 0 else v.cor.frames + 1 } }
    match w.frame 0x17 255 broadcastId w.zyp.unitBoot w.zyp.seqCor (w.keyOf 5) b with
    | none => w
    | some f =>
      let x := { w with zyp := { w.zyp with seqCor := w.zyp.seqCor + 1 } }
      if x.mode = .rejoin then x else x.sendRadio 4 f

/-! ## The integrity monitor (rules R223 to R226) -/

/-- Whether the monitor runs in this mode. -/
def State.monitorRuns (s : State) : Bool := s.mode == .survey || s.corServes

/-- The records of both antennas at one epoch, if both series came whole and carry neither ANT_FAULT nor ADC_GAP (rule R223). -/
def State.bothSeries (s : State) : Option (List MeasRec × List MeasRec) :=
  match s.cor.seriesA, s.cor.seriesB with
  | some a, some b => if a.whole && b.whole && a.seq == b.seq && some a.time == s.rng.last && bits a.flags 2 2 == 0 && bits b.flags 2 2 == 0 then some (a.recs, b.recs) else none
  | _, _ => none

/-- The satellites with an L1-group or L5-group signal common to both antennas (rule R223). -/
def commonSats (a b : List MeasRec) : Nat :=
  let groups := [0x01, 0x02, 0x10, 0x20, 0x21, 0x30, 0x40, 0x04, 0x11, 0x12, 0x22, 0x42]
  (a.foldl (fun (l : List (Nat × Nat)) r =>
    let x := (systemOf r.signal, r.sv)
    if groups.contains r.signal && !l.contains x && (b.any fun q => q.signal == r.signal && q.sv == r.sv) then l ++ [x] else l) []).length

/-- The result code of a monitor run: 0 PASS, 1 FAIL, 2 NO_FIX, 3 NO_DATA. `sats` are the common satellites where both series came whole,
`vec` the measured less the committed vector in 0.1 mm where its ambiguities were validated. -/
def State.monitorCode (s : State) (sats : Option Nat) (vec : Option (Int × Int × Int)) : Nat :=
  match sats, vec with
  | none, _ => 3
  | some _, none => 2
  | some k, some v =>
    let lim : Int := s.rd Reg.COR_MON_CFG_DEV_LIM * 10
    if k < 6 then 2 else if len2 v.1 v.2.1 v.2.2 ≤ lim * lim then 0 else 1

/-- MONITOR_RUN at the measurement epoch of a whole second (rules R223, R225). -/
def monitorRunOp (vec : Option (Int × Int × Int)) (s0 : State) : State :=
  let s := s0.baseReads
  if !s.monitorRuns || !s.on Reg.COR_MON_CFG_MON_EN || !s.on Reg.COR_STATUS_BASELINE_SET then s
  else
    let sats := s.bothSeries.map fun x => commonSats x.1 x.2
    let c := s.monitorCode sats vec
    let w : Nat × Int × Int × Int := (min 255 (sats.getD 0), if c ≤ 1 then vec.getD (0, 0, 0) else (0, 0, 0))
    let e := w.2.1
    let n := w.2.2.1
    let u := w.2.2.2
    let run := s.rd Reg.COR_MON_RESULT_FAIL_RUN
    let run' := if c = 1 then min 255 (run + 1) else if c = 0 then 0 else run
    let dev := min 0xFFFF (isqrt (len2 e n u).toNat)
    let cor := { s.cor with passRun := if c = 0 then s.cor.passRun + 1 else 0, blankRun := if c ≥ 2 then s.cor.blankRun + 1 else 0 }
    let t := ((({ s with cor := cor }).wr Reg.COR_MON_RESULT_RESULT c).wr Reg.COR_MON_RESULT_FAIL_RUN run').wr Reg.COR_MON_RESULT_DEV
      (if c ≤ 1 then dev else s.rd Reg.COR_MON_RESULT_DEV)
    let t1 : State := if run' ≥ t.rd Reg.COR_MON_CFG_PERSIST && c == 1 && !t.on Reg.COR_STATUS_DISTURBED then t.disturb else t
    let t2 : State := if t1.cor.blankRun ≥ 60 then t1.degrade else if c = 0 then t1.wr Reg.COR_STATUS_MON_DEGRADED 0 else t1
    t2.send 27 0 ([0x05, c, w.1, bit (t2.on Reg.COR_STATUS_DISTURBED) + 2 * bit (t2.on Reg.COR_STATUS_MON_DEGRADED)
        + 4 * bit (decide (t2.cor.driftRun ≠ 0))] ++ le 4 (t2.rd Reg.RNG_MEAS_SEQ) ++ le 4 (unsigned 32 e) ++ le 4 (unsigned 32 n)
        ++ le 4 (unsigned 32 u) ++ le 4 t2.cor.driftMm ++ le 8 0)

/-- DRIFT_CHECK: the mean standalone position of antenna A over the last 10 minutes in 0.1 mm, less PCO_UP, against the reference point;
the first comparison comes 10 minutes after reset release or a REF commit (rules R210, R224). -/
def driftCheckOp (x y z : Int) (s : State) : State :=
  match s.nvm.ref with
  | none => s
  | some r =>
    if !s.monitorRuns || !s.on Reg.COR_MON_CFG_MON_EN || decide (s.now.sec < s.cor.driftFrom + 600) then s
    else
      let p := alongUp (x, y, z) (-(s.rd Reg.COR_REF_CFG_PCO_UP : Int))
      let d2 := len2 (p.1 - r.x) (p.2.1 - r.y) (p.2.2 - r.z)
      let lim : Int := s.rd Reg.COR_MON_CFG_DRIFT_LIM * 100
      let bad := decide (d2 > lim * lim)
      let k := if bad then s.cor.driftRun + 1 else 0
      let t := ({ s with cor := { s.cor with driftRun := k, driftOk := !bad, driftMm := isqrt d2.toNat / 10 } }).wr Reg.COR_MON_DRIFT (min 0xFFFF (isqrt d2.toNat / 100))
      if k ≥ 2 && !t.on Reg.COR_STATUS_DISTURBED then t.disturb else t

/-- DIST_CLEAR (rule R226). -/
def distClearOp (s : State) : State :=
  if s.cor.passRun ≥ s.rd Reg.COR_MON_CFG_PERSIST && s.cor.driftOk then
    ((s.wr Reg.COR_STATUS_DISTURBED 0).showRef).wr Reg.COR_MON_CTRL_RESULT St.done
  else s.wr Reg.COR_MON_CTRL_RESULT St.conflict

/-- COMMIT of group MONITOR (rule R230). -/
def monitorCommitOp (s : State) : State :=
  let d := s.sh Reg.COR_MON_CFG_DEV_LIM
  let p := s.sh Reg.COR_MON_CFG_PERSIST
  let l := s.sh Reg.COR_MON_CFG_DRIFT_LIM
  let v := firstFail [(decide (d < 2 ∨ d > 100 ∨ p < 1 ∨ p > 60 ∨ l < 10 ∨ l > 1000), St.badFormat)]
  let t := s.commit Reg.COR_MON_COMMIT_RESULT
    [Reg.COR_MON_CFG_DEV_LIM, Reg.COR_MON_CFG_PERSIST, Reg.COR_MON_CFG_DRIFT_LIM, Reg.COR_MON_CFG_DIST_STOP, Reg.COR_MON_CFG_MON_EN] v
  if v = St.done then t.wr Reg.COR_MON_RESULT_FAIL_RUN 0 else t

/-! ## Meanings -/

/-- Meaning of SURVEY_SECOND. -/
def execSurveySecond (sats : Byte) (x y z : Int) (vec : Option (Int × Int × Int)) (s : State) : Out :=
  .next (s.whenMain (surveySecondOp sats.toNat x y z vec))
/-- Meaning of REF_COMMIT. -/
def execRefCommit (s : State) : Out := .next (s.whenMain refCommitOp)
/-- Meaning of RTCM_EPOCH. -/
def execRtcmEpoch (left : List (Nat × Nat)) (s : State) : Out := .next (s.whenMain (rtcmEpochOp left))
/-- Meaning of RTCM_COMMIT. -/
def execRtcmCommit (s : State) : Out := .next (s.whenMain rtcmCommitOp)
/-- Meaning of CASTER_COMMIT. -/
def execCasterCommit (s : State) : Out := .next (s.whenMain casterCommitOp)
/-- Meaning of MONITOR_COMMIT. -/
def execMonitorCommit (s : State) : Out := .next (s.whenMain monitorCommitOp)
/-- Meaning of CASTER_TABLE. -/
def execCasterTable (c : Cmd) (data : List Byte) (s : State) : Out := .next (s.whenMain (casterTableOp c data))
/-- Meaning of STATION_TEXT. -/
def execStationText (c : Cmd) (data : List Byte) (s : State) : Out := .next (s.whenMain (stationTextOp c data))
/-- Meaning of CASTER_REQUEST. -/
def execCasterRequest (q : CastReq) (s : State) : Out := .next (s.whenMain (casterRequestOp q))
/-- Meaning of CASTER_REQUEST_TIMEOUT. -/
def execCasterRequestTimeout (s : State) : Out := .next (s.whenMain casterRequestTimeoutOp)
/-- Meaning of LOCKOUT_EXPIRE. -/
def execLockoutExpire (addr : Word) (s : State) : Out := .next (s.whenMain (lockoutExpireOp addr.toNat))
/-- Meaning of CLIENT_BACKLOG_TIMEOUT. -/
def execClientBacklogTimeout (id : Nat) (s : State) : Out := .next (s.whenMain (clientBacklogTimeoutOp id))
/-- Meaning of COMPACT_EPOCH. -/
def execCompactEpoch (s : State) : Out := .next (s.whenMain compactEpochOp)
/-- Meaning of MONITOR_RUN. -/
def execMonitorRun (vec : Option (Int × Int × Int)) (s : State) : Out := .next (s.whenMain (monitorRunOp vec))
/-- Meaning of DRIFT_CHECK. -/
def execDriftCheck (x y z : Int) (s : State) : Out := .next (s.whenMain (driftCheckOp x y z))
/-- Meaning of DIST_CLEAR. -/
def execDistClear (s : State) : Out := .next (s.whenMain distClearOp)

end Sys2Proof.Machine
end

