-- ==== Sys2Proof/Machine/Central.lean ====
section
/-! DEFINITION. The Central RTK Engine (chapter 11): base series, OBS intake, double differences and the float filter of each robot, the
ambiguity search, fix states, cross-check and output records, and the commits. What the matrix engine and the search accelerator compute
from these is uninterpreted (`Config.filter`). -/

namespace Sys2Proof.Machine

/-! ## Modes (rule R256) -/

/-- Whether intake and filters run. -/
def State.creRuns (s : State) : Bool :=
  !(s.mode == .boot || s.mode == .faultSafe) && s.mode.main && !s.pwr.pfailLatched && s.pwr.pdown.isNone

/-- Whether output records are published. -/
def State.crePublishes (s : State) : Bool := s.creRuns && !(s.mode == .pantry || s.mode == .survey)

/-- RUNNING and PUBLISHING follow the mode. -/
def State.showCreRuns (s : State) : State :=
  (s.wr Reg.CRE_STATUS_RUNNING (bit s.creRuns)).wr Reg.CRE_STATUS_PUBLISHING (bit s.crePublishes)

/-! ## Base series (rules R195, R237) -/

/-- BASE_SERIES_INTAKE: the next packet of chute 23. A whole series of antenna A is kept, the last 40 of them. -/
def baseSeriesIntakeOp (s : State) : State :=
  match s.nextPacket 23 with
  | none => s
  | some p =>
    let t := s.takeAny 23
    if p.bytes.getD 1 0 ≠ 0 then t
    else
      match takePart t.cre.opened p.bytes with
      | none => { t with cre := { t.cre with opened := none } }
      | some m =>
        if m.whole then
          ({ t with cre := { t.cre with opened := none, series := (m :: t.cre.series).take 40 } }).wr Reg.CRE_STATUS_BASE_OK (bit t.refValid)
        else { t with cre := { t.cre with opened := some m } }

/-- Measurement time of a robot epoch in ms of GPS time. -/
def ObsEpoch.gps (e : ObsEpoch) : Nat := e.week * 604800000 + e.tow

/-- The kept series within 1 ms of a robot epoch's time (rule R237). -/
def State.pairOf (s : State) (e : ObsEpoch) : Option MeasSeries :=
  s.cre.series.find? fun m => decide (gpsMs m.time ≤ e.gps + 1 ∧ e.gps ≤ gpsMs m.time + 1)

/-- Whether a robot epoch has its base series. -/
def State.paired (s : State) (e : ObsEpoch) : Bool := (s.pairOf e).isSome

/-! ## Intake (rules R231 to R236) -/

/-- An OBS frame as the CRE takes it (rules R231, R233): local ID, sender, SEQ, whether it came from the radio, its
measurement time in yard time, and its body. -/
structure ObsFrame where
  lid   : Nat
  fed   : Nat
  seq   : Nat
  radio : Bool
  meas  : YTime
  body  : List Byte

/-- The frequency slot of a signal code (frequency slot table). -/
def freqSlot (c : Nat) : Option Nat :=
  if [0x01, 0x02, 0x10, 0x20, 0x21, 0x30, 0x40].contains c then some 0
  else if [0x03, 0x13, 0x23, 0x31, 0x41].contains c then some 1
  else if [0x04, 0x11, 0x12, 0x22, 0x42].contains c then some 2
  else none

/-- Whether the signals of a block break the format: a code outside its system or slots, a slot repeated, or a reserved flag. -/
def signalsBad (p : List Byte) (sys : Nat) : Nat → Nat → List Nat → Bool
  | 0, _, _ => false
  | k + 1, at_, seen =>
    match p[at_]?, p[at_ + 1]? with
    | some c, some f =>
      (match freqSlot c.toNat with
       | none => true
       | some n => systemOf c.toNat != sys || seen.contains n || decide (f.toNat ≥ 64) || signalsBad p sys k (at_ + 10) (n :: seen))
    | _, _ => false

/-- Satellite blocks from a byte on: whether one breaks the format, and the byte after the last. -/
def blocksBad (p : List Byte) : Nat → Nat → Bool × Nat
  | 0, at_ => (false, at_)
  | k + 1, at_ =>
    match p[at_ + 1]? with
    | none => (false, at_ + 2)
    | some b =>
      let sys := bits b.toNat 0 3
      let n := bits b.toNat 3 2
      let r := blocksBad p k (at_ + 2 + 10 * n)
      (decide (sys > 4) || n == 0 || decide (b.toNat ≥ 32) || signalsBad p sys n (at_ + 2) [] || r.1, r.2)

/-- The number in k bytes of an OBS body. -/
def obsLe (p : List Byte) (lo k : Nat) : Nat := unle (((p.drop lo).take k).map BitVec.toNat)

/-- Whether a body breaks the BAD_FORMAT row of the intake check table. -/
def obsBad (p : List Byte) (radio : Bool) : Bool :=
  let parts := obsLe p 1 1
  let fix := obsLe p 3 1
  radio || obsLe p 0 1 != 1 || (parts / 16 != 1 && parts / 16 != 2) || decide (parts % 16 ≥ parts / 16) || decide (obsLe p 2 1 > 31)
    || decide (fix > 4) || decide (obsLe p 4 4 > 604799999) || obsLe p 10 2 != 0 || obsLe p 24 8 != 0
    || (blocksBad p (obsLe p 2 1) 32).1

/-- The signals of satellite blocks from a byte on. -/
def blockSigs (p : List Byte) : Nat → Nat → List RobotSig
  | 0, _ => []
  | k + 1, at_ =>
    let n := bits (obsLe p (at_ + 1) 1) 3 2
    let sig := fun (i : Nat) =>
      let a := at_ + 2 + 10 * i
      (⟨obsLe p at_ 1, obsLe p a 1, obsLe p (a + 2) 4, signed 24 (obsLe p (a + 6) 3), obsLe p (a + 9) 1, obsLe p (a + 1) 1⟩ : RobotSig)
    (List.range n).map sig ++ blockSigs p k (at_ + 2 + 10 * n)

/-- The part of an OBS that a body describes. -/
def obsPart (f : ObsFrame) : ObsEpoch :=
  let p := f.body
  ⟨f.lid, f.fed, obsLe p 8 2, obsLe p 4 4, obsLe p 1 1 % 16, obsLe p 1 1 / 16, obsLe p 3 1, signed 32 (obsLe p 12 4),
   signed 32 (obsLe p 16 4), signed 32 (obsLe p 20 4), f.meas, f.seq, false, blockSigs p (obsLe p 2 1) 32⟩

/-- Whether measurement time a (WEEK, TOW_MS) is later than b. -/
def gpsLater (a b : Nat × Nat) : Bool := decide (a.1 > b.1 ∨ (a.1 = b.1 ∧ a.2 > b.2))

/-- A REPLY to a refused OBS or STATUS, at most once per second per robot (rule R407). -/
def State.refuseReply (s : State) (lid typ seq status : Nat) : State :=
  if AMap.find lid s.zyp.replied = some s.now.sec then s
  else
    let t := { s with zyp := { s.zyp with replied := AMap.set lid s.now.sec s.zyp.replied } }
    t.sendPair 0x13 lid ([status, typ, 0, 0] ++ le 4 seq ++ le 4 0 ++ le 4 0)

/-- An OBS is refused with its counter (rule R235). -/
def State.refuseObs (s : State) (f : ObsFrame) (status : Nat) (counter : Fld) : State :=
  (s.bump counter Reg.CRE_FAULT_CNT_SAT).refuseReply f.lid 1 f.seq status

/-- A part is discarded and counted (rule R236). -/
def State.dropPart (s : State) : State := (s.bump Reg.CRE_PART_LOST Reg.CRE_FAULT_CNT_SAT).fault Reg.CRE_FAULT_PART_LOST

/-- A held part is discarded (rule R236). -/
def State.losePart (s : State) (lid : Nat) : State := (s.setFilt lid { s.filt lid with held := none }).dropPart

/-- A whole robot epoch is accepted and queued. -/
def State.acceptObs (s : State) (e : ObsEpoch) : State :=
  let t := s.setFilt e.lid { s.filt e.lid with held := none, last := some (e.week, e.tow) }
  let u := { t with cre := { t.cre with queue := t.cre.queue ++ [e] } }
  ((u.wrapBy Reg.CRE_OBS_IN 1).wr (Reg.CRE_ROBOT_ACTIVE e.lid) 1).showCre

/-- Two parts of one OBS agree (rule R235, last row). -/
def partsAgree (a b : ObsEpoch) : Bool :=
  a.parts == b.parts && a.selfFix == b.selfFix && decide (a.sx = b.sx ∧ a.sy = b.sy ∧ a.sz = b.sz)

/-- A part meets the part that is held, if one is (rule R236). What is earlier than the held part is discarded, an OBS of one part too; a
part that repeats the held one is discarded likewise: DESIGN CHOICE (log entry 73). -/
def State.takePart (s : State) (f : ObsFrame) (e : ObsEpoch) : State :=
  match (s.filt e.lid).held with
  | none => if e.parts = 1 then s.acceptObs e else s.setFilt e.lid { s.filt e.lid with held := some e }
  | some h =>
    if e.week = h.week ∧ e.tow = h.tow then
      if !partsAgree h e then (s.setFilt e.lid { s.filt e.lid with held := none }).refuseObs f St.conflict Reg.CRE_REF_CONFLICT
      else if e.part = h.part then s.dropPart
      else s.acceptObs { e with sigs := if h.part < e.part then h.sigs ++ e.sigs else e.sigs ++ h.sigs }
    else if gpsLater (e.week, e.tow) (h.week, h.tow) then
      let t := s.losePart e.lid
      if e.parts = 1 then t.acceptObs e else t.setFilt e.lid { t.filt e.lid with held := some e }
    else s.dropPart

/-- The OBS frame in a packet of chutes 28 to 31: the frame that Dispatch passed on, or the words as a frame where a core wrote them. -/
def obsFrame (p : Packet) : ObsFrame :=
  let b := match p.own with | some o => o.bytes | none => p.bytes.map (BitVec.ofNat 8)
  let body := (b.drop 28).take (b.length - 44)
  let tow := obsLe body 4 4
  ⟨p.lid.getD (obsLe b 3 1), obsLe b 4 4 % 262144, obsLe b 16 4, match p.own with | some o => o.port == 2 | none => false,
   ⟨315964819 + 604800 * obsLe body 8 2 + tow / 1000, tow % 1000 * 1000000, 0⟩, body⟩

/-- An OBS meets the intake checks in the order of the intake check table; `ageMs` is the arrival less the measurement time. -/
def State.checkObs (s : State) (f : ObsFrame) (ageMs : Nat) : State :=
  let e := obsPart f
  let holder := match AMap.find f.lid s.zyp.roster with | some r => r.fed == f.fed | none => false
  let size := (blocksBad f.body (obsLe f.body 2 1) 32).2
  let stale := match (s.filt f.lid).last with | some l => !gpsLater (e.week, e.tow) l | none => false
  if !s.creRuns then s.refuseObs f St.refusedMode Reg.CRE_REF_MODE
  else if !holder then s.refuseObs f St.stale Reg.CRE_REF_STALE
  else if obsBad f.body f.radio then s.refuseObs f St.badFormat Reg.CRE_REF_FORMAT
  else if size ≠ f.body.length then s.refuseObs f St.badLength Reg.CRE_REF_LENGTH
  else if e.tow % 100 ≠ 50 * (f.lid % 2) then s.refuseObs f St.badFormat Reg.CRE_PHASE_WRONG
  else if stale || decide (ageMs > s.rd Reg.CRE_INTAKE_CFG_AGE_MAX) then s.refuseObs f St.stale Reg.CRE_REF_STALE
  else s.takePart f e

/-- CRE_OBS_INTAKE: the next packet of chute 28 + `chute`, which holds the OBS that arrived first. -/
def creObsIntakeOp (chute ageMs : Nat) (s : State) : State :=
  match s.nextPacket (28 + chute) with
  | none => s
  | some p => (s.takeAny (28 + chute)).showCreRuns.checkObs (obsFrame p) ageMs

/-- PART_HOLD_TIMEOUT. -/
def partHoldTimeoutOp (lid : Nat) (s : State) : State := if (s.filt lid).held.isSome then s.losePart lid else s

/-- BASE_PAIR_TIMEOUT: the robot epoch goes on with no base. -/
def basePairTimeoutOp (lid : Nat) (s : State) : State :=
  match s.cre.queue.find? (fun e => e.lid == lid && !e.noBase) with
  | none => s
  | some e =>
    if s.paired e then s
    else
      let q := s.cre.queue.map fun x => if x = e then { x with noBase := true } else x
      let t := { s with cre := { s.cre with queue := q } }.wr Reg.CRE_STATUS_BASE_OK 0
      (t.bump Reg.CRE_NO_BASE Reg.CRE_FAULT_CNT_SAT).fault Reg.CRE_FAULT_NO_BASE

/-! ## Double differences (rules R237 to R240) -/

/-- A robot signal with the base record of the same signal and satellite, and the satellite's elevation at the base. -/
structure SigPair where
  rob  : RobotSig
  base : MeasRec
  elev : Int

/-- The satellite of a signal: system and number. -/
def RobotSig.sat (r : RobotSig) : Nat × Nat := (systemOf r.signal, r.sv)

/-- Whether both records have a flag. -/
def SigPair.both (p : SigPair) (bit_ : Nat) : Bool := bits p.rob.flags bit_ 1 == 1 && bits p.base.flags bit_ 1 == 1

/-- Whether SLIP is set on either receiver, or the robot's SLIP_MOD4 has changed (rule R240). -/
def SigPair.slipped (p : SigPair) (links : List Link) : Bool :=
  bits p.rob.flags 3 1 == 1 || bits p.base.flags 3 1 == 1 ||
    (links.any fun l => l.signal == p.rob.signal && l.sv == p.rob.sv && l.mod4 != bits p.rob.flags 4 2)

/-- The signals of a robot epoch that may form double differences (rule R238): base record of the same signal, a valid ephemeris at or above
ELEV_MIN, C/N0 at least CN0_MIN, and code or phase valid on both. -/
def State.usablePairs (s : State) (e : ObsEpoch) (m : MeasSeries) (eph : List EphSat) : List SigPair :=
  e.sigs.filterMap fun r =>
    match m.recs.find? (fun b => b.signal == r.signal && b.sv == r.sv), eph.find? (fun x => x.sys.val == systemOf r.signal && x.sv.toNat == r.sv) with
    | some b, some x =>
      let p : SigPair := ⟨r, b, x.elev⟩
      if x.elev ≥ 1000 * s.rd Reg.CRE_FILT_CFG_ELEV_MIN ∧ r.cn0 ≥ 4 * s.rd Reg.CRE_FILT_CFG_CN0_MIN ∧ (p.both 0 || p.both 1) then some p else none
    | _, _ => none

/-- Places a pair in a list by descending elevation. -/
def placePair (p : SigPair) : List SigPair → List SigPair
  | [] => [p]
  | q :: t => if p.elev > q.elev then p :: q :: t else q :: placePair p t

/-- The satellites of pairs, each once. -/
def satsOf (l : List SigPair) : List (Nat × Nat) := l.foldl (fun a p => if a.contains p.rob.sat then a else a ++ [p.rob.sat]) []

/-- The satellites used (rule R239): at most 48, those with ambiguities in the filter first, then by descending elevation. -/
def chosenSats (f : Filt) (l : List SigPair) : List (Nat × Nat) :=
  let all := satsOf (l.foldl (fun a p => placePair p a) [])
  if all.length ≤ 48 then all
  else
    let has := fun (x : Nat × Nat) => f.amb.any fun a => systemOf a.signal == x.1 && a.sv == x.2
    ((all.filter has) ++ all.filter fun x => !has x).take 48

/-- The reference satellite of a signal code among the pairs used, highest first: the one kept while it is usable, or else the highest
(rule R238). A reference takes part in code and phase. -/
def refPair (f : Filt) (l : List SigPair) (code : Nat) : Option SigPair :=
  let c := l.filter fun p => p.rob.signal == code && p.both 0 && p.both 1
  match AMap.find code f.refs with
  | some sv => (c.find? fun p => p.rob.sv == sv).or c.head?
  | none => c.head?

/-- A double difference: a pair and the reference pair of its signal. -/
structure DoubleDiff where
  pair : SigPair
  ref  : SigPair

/-- The double differences of a robot epoch (rule R238). -/
def doubleDiffs (f : Filt) (l : List SigPair) : List DoubleDiff :=
  l.filterMap fun p =>
    match refPair f l p.rob.signal with
    | some r => if r.rob.sv = p.rob.sv then none else some ⟨p, r⟩
    | none => none

/-- An integer as a number of the engines' input. -/
def enc (i : Int) : Nat := unsigned 64 i

/-- The numbers of a pair. -/
def SigPair.numbers (p : SigPair) : List Nat :=
  [p.rob.signal, p.rob.sv, p.rob.pr, enc p.rob.phaseOfs, p.rob.cn0, p.rob.flags, p.base.k, p.base.pr, enc p.base.phase, p.base.flags, enc p.elev]

/-- The numbers of an ambiguity. -/
def Amb.numbers (a : Amb) : List Nat := [a.sv, a.signal, a.ref, bit a.held, a.value.toNat, a.int_.toNat]

/-- What the filter of a robot works on at an epoch (rule R241): the time since the last epoch in ms, CODE_SIGMA, PHASE_SIGMA and ACC_PSD,
its states, and the double differences with the elevations that weight them. -/
def State.filterInput (s : State) (f : Filt) (e : ObsEpoch) (since : Nat) (dd : List DoubleDiff) : List Nat :=
  [e.gps - since, s.rd Reg.CRE_FILT_CFG_CODE_SIGMA, s.rd Reg.CRE_FILT_CFG_PHASE_SIGMA, s.rd Reg.CRE_FILT_CFG_ACC_PSD] ++ f.state.map BitVec.toNat
    ++ f.cov.map BitVec.toNat ++ f.amb.flatMap Amb.numbers ++ dd.flatMap fun d => d.pair.numbers ++ d.ref.numbers

/-- Whether the innovation of a phase double difference exceeds RESID_LIM, in µm (rule R240). -/
def State.innovates (s : State) (inp : List Nat) (d : DoubleDiff) : Bool :=
  decide (Config.filter 1 (inp ++ d.pair.numbers) > 1000 * s.rd Reg.CRE_AR_LIM_RESID_LIM)

/-- The ambiguities after the restarts of an epoch, at most 144, and the number restarted by an innovation (rules R238, R240, R241). A
restarted ambiguity is new, and not held; one that goes on is expressed against the reference in force. -/
def State.ambiguities (s : State) (f : Filt) (inp : List Nat) (dd : List DoubleDiff) : List Amb × Nat :=
  let ph := (dd.filter fun d => d.pair.both 1).take 144
  let old := fun (d : DoubleDiff) => f.amb.find? fun a => a.signal == d.pair.rob.signal && a.sv == d.pair.rob.sv
  let slip := fun (d : DoubleDiff) => d.pair.slipped f.links || d.ref.slipped f.links
  let value := fun (d : DoubleDiff) => BitVec.ofInt 32 (Config.filter 2 (inp ++ d.pair.numbers))
  let next := fun (d : DoubleDiff) =>
    match old d with
    | some a => if slip d || s.innovates inp d then (⟨a.sv, a.signal, d.ref.rob.sv, false, a.floatOnly, value d, 0⟩ : Amb)
                else { a with ref := d.ref.rob.sv, value := value d }
    | none => ⟨d.pair.rob.sv, d.pair.rob.signal, d.ref.rob.sv, false, systemOf d.pair.rob.signal == 1, value d, 0⟩
  (ph.map next, (ph.filter fun d => (old d).isSome && !slip d && s.innovates inp d).length)

/-- The robot signals followed after an epoch: a lock goes on while phase is valid without a slip. -/
def linksAfter (f : Filt) (e : ObsEpoch) : List Link :=
  (e.sigs.filter fun r => bits r.flags 1 1 == 1).map fun r =>
    let m := bits r.flags 4 2
    let was := f.links.find? fun l => l.signal == r.signal && l.sv == r.sv && l.mod4 == m && bits r.flags 3 1 == 0
    ⟨r.signal, r.sv, m, match was with | some l => l.since | none => e.gps⟩

/-! ## Ambiguity resolution (rule R244) -/

/-- Whether both receivers have resolved the half cycle of a signal and held lock for LOCK_MIN. -/
def State.searchable (s : State) (links : List Link) (e : ObsEpoch) (p : SigPair) : Bool :=
  let min_ := 1000 * s.rd Reg.CRE_AR_CFG_LOCK_MIN
  p.both 2 && decide (p.base.lock ≥ min_) &&
    (links.any fun l => l.signal == p.rob.signal && l.sv == p.rob.sv && decide (e.gps - l.since ≥ min_))

/-- The ambiguities that a search takes: not GLONASS, not held, and searchable with their references. -/
def State.candidates (s : State) (links : List Link) (e : ObsEpoch) (dd : List DoubleDiff) (amb : List Amb) : List Amb :=
  amb.filter fun a => !a.floatOnly && !a.held &&
    (dd.any fun d => d.pair.rob.signal == a.signal && d.pair.rob.sv == a.sv && s.searchable links e d.pair && s.searchable links e d.ref)

/-- How the searches of an epoch end: searches run and abandoned, and the accepted set with its ratio × 10 and failure bound. -/
structure Search where
  tries     : Nat
  abandoned : Nat
  found     : Option (List Amb × Nat × Nat)

/-- Steps 3 to 7 of rule R244; `fuel` removals are left. Squared norms are in 10⁻⁹ cycle², the failure bound in 10⁻⁹, residuals in µm. -/
def State.searchSet (s : State) (inp : List Nat) : Nat → List Amb → Search → Search
  | fuel, c, acc =>
    if c.length < s.rd Reg.CRE_AR_CFG_MIN_AMB then acc
    else
      let k := inp ++ c.flatMap Amb.numbers
      let q1 := Config.filter 10 k
      let q2 := Config.filter 11 k
      let tooMany := decide (Config.filter 12 k > 2 ^ (13 + s.rd Reg.CRE_AR_LIM_NODE_CODE))
      let pf := Config.filter 13 k
      let ok := !tooMany && (decide (q1 < 1000) || decide (10 * q2 ≥ s.rd Reg.CRE_AR_CFG_RATIO_MIN * q1)) &&
        decide (pf ≤ 1000 * s.rd Reg.CRE_AR_LIM_PF_MAX) && decide (Config.filter 14 k ≤ 1000 * s.rd Reg.CRE_AR_LIM_RESID_LIM)
      let now : Search := { acc with tries := acc.tries + 1, abandoned := acc.abandoned + bit tooMany }
      if ok then { now with found := some (c, min 0xFFFF (wholeRatio (10 * q2) q1).toNat, min 0xFFFF (wholeRatio pf 1000).toNat) }
      else match fuel with
        | 0 => now
        | n + 1 => State.searchSet s inp n (c.eraseIdx ((Config.filter 15 k).toNat % c.length)) now

/-! ## Robot epochs (rules R241 to R250, R252) -/

/-- What an epoch of a filter gives: the results of the double differences, the searches and the position. Positions in mm, velocities in
mm/s of the yard frame, PDOP × 100. -/
structure Solution where
  codeSats  : Nat
  accepted  : Bool
  geometry  : Bool
  tries     : Nat
  abandoned : Nat
  rejected  : Nat
  trimmed   : Bool
  lost      : Bool           -- the hold is lost
  x         : Int
  y         : Int
  z         : Int
  vx        : Int
  vy        : Int
  vz        : Int
  sats      : Nat
  amb       : Nat
  ratio     : Nat
  pf        : Nat
  cov       : List Word
  pdop      : Nat

/-- Code of a fix state. -/
def FixState.code : FixState → Nat
  | .none => 0 | .float => 1 | .fix => 2 | .hold => 3

/-- The scalar product. -/
def dot3 (a b : Int × Int × Int) : Int := a.1 * b.1 + a.2.1 * b.2.1 + a.2.2 * b.2.2

/-- A vector in the axes of the yard frame (rule R248). -/
def State.toYard (s : State) (v : Int × Int × Int) : Int × Int × Int :=
  let ax := Config.localAxes (signed 64 (s.rd Reg.CRE_FRAME_X)) (signed 64 (s.rd Reg.CRE_FRAME_Y)) (signed 64 (s.rd Reg.CRE_FRAME_Z))
  let r := headingVec (s.rd Reg.CRE_FRAME_ROT)
  let e := dot3 ax.1 v
  let n := dot3 ax.2.1 v
  (wholeRatio (e * r.1 + n * r.2) (2 ^ 60), wholeRatio (n * r.1 - e * r.2) (2 ^ 60), wholeRatio (dot3 ax.2.2 v) (2 ^ 30))

/-- Yard coordinates of an ECEF position in mm (rule R248). -/
def State.yardOf (s : State) (x y z : Int) : Int × Int × Int :=
  s.toYard (x - signed 64 (s.rd Reg.CRE_FRAME_X), y - signed 64 (s.rd Reg.CRE_FRAME_Y), z - signed 64 (s.rd Reg.CRE_FRAME_Z))

/-- The fix state and FIX_RUN after an epoch (fix state table). -/
def nextFix (f : Filt) (ok accepted holdLost : Bool) (holdAfter : Nat) : FixState × Nat :=
  if !ok then (.none, 0)
  else match f.fix with
    | .none => (.float, 0)
    | .float => if accepted then (if holdAfter ≤ 1 then (.hold, 1) else (.fix, 1)) else (.float, 0)
    | .fix => if accepted then (if f.fixRun + 1 ≥ holdAfter then (.hold, f.fixRun + 1) else (.fix, f.fixRun + 1)) else (.float, 0)
    | .hold => if holdLost then (.float, 0) else (.hold, f.fixRun)

/-- XCHK_DIST of an epoch: the distance in mm between the CRE position and the robot's own, rounded; none where no check runs
(rule R249). Positions in mm, the reference point in 0.1 mm. -/
def State.xchkDist (s : State) (e : ObsEpoch) (fix : Nat) (p : Int × Int × Int) : Option Nat :=
  match s.nvm.ref with
  | none => none
  | some r =>
    if e.selfFix = 0 ∨ fix = 0 ∨ s.on Reg.CRE_XCHK_CFG_XCHK_EN = false ∨ s.rd (Reg.CRE_XCHK_LIM (4 * (fix - 1) + (e.selfFix - 1))) = 0 then none
    else
      let d := len2 (10 * p.1 - r.x - 10 * e.sx) (10 * p.2.1 - r.y - 10 * e.sy) (10 * p.2.2 - r.z - 10 * e.sz)
      some ((isqrt (4 * d.toNat) + 10) / 20)

/-- One cross-check (rule R250): beyond the limit or within it. -/
def State.crossCheck (s : State) (lid dist limit : Nat) : State :=
  let f := s.filt lid
  let k := s.rd Reg.CRE_XCHK_CFG_XCHK_PERSIST
  let fail := s.on (Reg.CRE_ROBOT_XCHK_FAIL lid)
  if dist > limit then
    let t := s.setFilt lid { f with ovr := f.ovr + 1, under := 0 }
    if f.ovr + 1 ≥ k && !fail then
      ((((t.wr (Reg.CRE_ROBOT_XCHK_FAIL lid) 1).bump Reg.CRE_XCHK_EVENTS Reg.CRE_FAULT_CNT_SAT).fault Reg.CRE_FAULT_XCHK).event 0x08 0x0100
        (lid + 4294967296 * dist))
    else t
  else
    let t := s.setFilt lid { f with under := f.under + 1, ovr := 0 }
    if fail && decide (f.under + 1 ≥ k) then t.wr (Reg.CRE_ROBOT_XCHK_FAIL lid) 0 else t

/-- CRE_LATENCY after a record (units of 10 µs), and what the Tally records of it (rule R527). -/
def State.creLatency (s : State) (us : Nat) : State :=
  let v := min (us / 10) 0xFFFF
  ((s.wr Reg.CRE_LATENCY (v + 65536 * max v (bits (s.rd Reg.CRE_LATENCY) 16 16))).tallyAdd 9 us).tallyOffer 67 us

/-- A record on one of the chutes 32 and 33; without credit it is dropped there and counted (rule R253). -/
def State.creRecord (s : State) (chute : Nat) (b : List Nat) : State × Bool :=
  let r := s.offer chute 0 (toWords b)
  if r.2 then r else (r.1.bump Reg.CRE_OUT_DROP Reg.CRE_FAULT_CNT_SAT, false)

/-- The 128 bytes of an output record (rule R247). -/
def State.creBytes (s : State) (e : ObsEpoch) (x : Solution) (done : YTime) (fix flags : Nat) (f : Filt) (pos : Bool) (y : Int × Int × Int)
    (dist : Option Nat) : List Nat :=
  let frame := s.on Reg.CRE_STATUS_FRAME_SET
  let yard := fun (v : Int) => if !pos then 0 else if frame then unsigned 32 v else 0x80000000
  let p8 := fun (v : Int) => le 8 (if pos then unsigned 64 v else 0)
  let v2 := fun (v : Int) => le 2 (if pos then unsigned 16 v else 0)
  [0x06, e.lid, fix, flags] ++ le 4 f.outSeq ++ le 4 f.posSeq ++ le 4 e.fed ++ stamp e.meas ++ stamp done ++ p8 x.x ++ p8 x.y ++ p8 x.z
    ++ le 4 (yard y.1) ++ le 4 (yard y.2.1) ++ le 4 (yard y.2.2) ++ v2 x.vx ++ v2 x.vy ++ v2 x.vz ++ [x.sats, x.amb] ++ le 2 x.ratio
    ++ le 2 x.pf ++ (x.cov.flatMap fun w => le 4 (if pos then w.toNat else 0)) ++ le 4 (dist.getD 0xFFFFFFFF) ++ le 2 (min 0xFFFF x.pdop) ++ le 2 0

/-- The float filter, the search and the fix state of a robot epoch (rules R237 to R245): the solution, and the filter after it. -/
def State.solve (s : State) (f : Filt) (e : ObsEpoch) (eph : List EphSat) : Solution × Filt :=
  let base := if e.noBase then none else s.pairOf e
  let usable := match base with | some m => s.usablePairs e m eph | none => []
  let sats := chosenSats f usable
  let used := ((usable.filter fun p => sats.contains p.rob.sat).foldl (fun (a : List SigPair) p => placePair p a) [])
  let dd := doubleDiffs f used
  let inp := s.filterInput f e (if f.done = 0 then e.gps else f.done) dd
  let am := if base.isSome then s.ambiguities f inp dd else (f.amb.map fun a => { a with held := false }, 0)
  let links := linksAfter f e
  let code := (satsOf (dd.flatMap fun d => if d.pair.both 0 then [d.pair, d.ref] else [])).length
  let ok := !e.noBase && decide (code ≥ 5) && s.refValid
  let num := fun (q : Nat) => Config.filter q inp
  let pdop := (num 3).toNat
  let geometry := ok && f.fix != .none && decide (pdop > 100 * s.rd Reg.CRE_AR_CFG_PDOP_MAX)
  let held := am.1.filter (·.held)
  let bad := held.filter fun a => decide (Config.filter 4 (inp ++ a.numbers) > 1000 * s.rd Reg.CRE_AR_LIM_RESID_LIM)
  let lost := f.fix == .hold && ok && (decide (bad.length ≥ 2) || decide (held.length < s.rd Reg.CRE_AR_CFG_MIN_AMB))
  let se : Search := if !ok || f.fix == .none || geometry then ⟨0, 0, none⟩
    else s.searchSet inp (s.rd Reg.CRE_AR_CFG_PAR_STEPS) (s.candidates links e dd am.1) ⟨0, 0, none⟩
  let nf := nextFix f ok se.found.isSome lost (s.rd Reg.CRE_AR_CFG_HOLD_AFTER)
  let set_ := match se.found with | some r => r.1 | none => []
  let keep := fun (a : Amb) =>
    if lost then { a with held := false }
    else if nf.1 == .hold && (set_.any fun b => b.signal == a.signal && b.sv == a.sv) then
      { a with held := true, int_ := BitVec.ofInt 32 (Config.filter 5 (inp ++ a.numbers)) }
    else a
  let amb := am.1.map keep
  let res := inp ++ nf.1.code :: (set_ ++ amb.filter (·.held)).flatMap Amb.numbers
  let word := fun (q : Nat) => BitVec.ofInt 32 (Config.filter q res)
  let n := 6 + (amb.filter fun a => !a.held).length
  let refs := used.foldl (fun (m : AMap Nat) p => match refPair f used p.rob.signal with | some r => AMap.set p.rob.signal r.rob.sv m | none => m) []
  let ratio := match se.found with | some r => r.2.1 | none => f.ratio
  let pf := match se.found with | some r => r.2.2 | none => f.pf
  let c := match s.nvm.ref with | some r => alongUp (r.x, r.y, r.z) (s.rd Reg.COR_REF_CFG_PCO_UP) | none => (0, 0, 0)
  let v := s.toYard (Config.filter 23 res, Config.filter 24 res, Config.filter 25 res)
  ({ codeSats := code, accepted := se.found.isSome, geometry := geometry, tries := se.tries, abandoned := se.abandoned, rejected := am.2,
     trimmed := decide ((satsOf usable).length > 48), lost := lost, x := wholeRatio (c.1 + Config.filter 20 res) 10,
     y := wholeRatio (c.2.1 + Config.filter 21 res) 10, z := wholeRatio (c.2.2 + Config.filter 22 res) 10,
     vx := v.1, vy := v.2.1, vz := v.2.2, sats := (satsOf (dd.flatMap fun d => [d.pair, d.ref])).length,
     amb := if nf.1 == .hold then (amb.filter (·.held)).length else set_.length, ratio := ratio, pf := pf,
     cov := (List.range 6).map fun i => word (30 + i), pdop := pdop },
   { f with fix := nf.1, fixRun := nf.2, done := e.gps, state := (List.range 6).map fun i => word (40 + i), cov := (List.range (n * n)).map fun i => word (100 + i)
            amb := amb, links := links, refs := refs, ratio := ratio, pf := pf })

/-- What a robot epoch counts: searches, accepted sets, abandoned searches, lost holds, restarts by innovation and satellites left out. -/
def State.countEpoch (s : State) (x : Solution) : State :=
  let sat := Reg.CRE_FAULT_CNT_SAT
  let s1 := (s.wrapBy Reg.CRE_AR_TRY x.tries).wrapBy Reg.CRE_AR_OK (bit x.accepted)
  let s2 := if x.abandoned = 0 then s1 else (s1.bumpBy Reg.CRE_SEARCH_LIMIT sat x.abandoned).fault Reg.CRE_FAULT_SEARCH_LIMIT
  let s3 := if x.lost then (s2.bump Reg.CRE_HOLD_LOSS sat).fault Reg.CRE_FAULT_HOLD_LOSS else s2
  (s3.bumpBy Reg.CRE_RESID_REJ sat x.rejected).bumpBy Reg.CRE_SAT_TRIM sat (bit x.trimmed)

/-- The cross-check and the record of a robot epoch (rules R246 to R250, R252, R253), to chutes 32 and 33. -/
def State.publish (s5 : State) (e : ObsEpoch) (x : Solution) (fix : Nat) (done : YTime) (us : Nat) : State :=
  let lid := e.lid
  let pos := decide (fix ≠ 0)
  let dist := s5.xchkDist e fix (x.x, x.y, x.z)
  let s6 := match dist with
    | none => s5
    | some d => s5.crossCheck lid d (s5.rd (Reg.CRE_XCHK_LIM (4 * (fix - 1) + (e.selfFix - 1))))
  let fail := s6.on (Reg.CRE_ROBOT_XCHK_FAIL lid)
  let late := decide (us > 30000)
  let g := s6.filt lid
  let g1 := { g with outSeq := (g.outSeq + 1) % 4294967296, posSeq := (g.posSeq + bit pos) % 4294967296 }
  let y := s6.yardOf x.x x.y x.z
  let flags := bit pos + 2 * bit fail + 4 * bit (e.selfFix == 0) + 8 * bit (s6.on Reg.COR_STATUS_DISTURBED) + 16 * bit e.noBase
    + 32 * bit x.geometry + 64 * bit late + 128 * bit fail
  let s7 := (s6.setFilt lid g1).creLatency us
  let s8 := if late then (s7.bump Reg.CRE_LATE Reg.CRE_FAULT_CNT_SAT).fault Reg.CRE_FAULT_LATE else s7
  let b := s8.creBytes e x done fix flags g1 pos y dist
  let r32 := s8.creRecord 32 b
  let r33 := r32.1.creRecord 33 b
  let rec_ : PosRec := ⟨y.1, y.2.1, signed 16 (unsigned 16 x.vx), signed 16 (unsigned 16 x.vy), g1.posSeq, e.meas, pos && s8.on Reg.CRE_STATUS_FRAME_SET⟩
  let s9 := if r32.2 then { r33.1 with cre := { r33.1.cre with
      pos := AMap.set lid rec_ r33.1.cre.pos, raw := AMap.set lid b r33.1.cre.raw,
      fast := if rec_.vx * rec_.vx + rec_.vy * rec_.vy > 2500 then AMap.set lid rec_.time r33.1.cre.fast else r33.1.cre.fast } } else r33.1
  if fail && !s9.on (Reg.TRP_ROBOT_INTEGRITY lid) && !(s9.mode == .twinStandby || s9.mode == .rejoin) then
    s9.raiseOwn lid false (Reg.TRP_ROBOT_INTEGRITY lid)
  else s9

/-- An uncorrectable error in a filter's state block (rule R243). -/
def State.creStateEcc (s : State) (lid : Nat) : State := (s.creReset lid).fault Reg.CRE_FAULT_STATE_ECC

/-- ROBOT_EPOCH_COMPLETE: the epoch that heads the queue, paired with its base series or timed out without one; `ecc` is what the filter's
state block reads, `eph` are the satellites with a valid ephemeris. -/
def robotEpochCompleteOp (ecc : Ecc) (eph : List EphSat) (done : YTime) (us : Nat) (s0 : State) : State :=
  match s0.cre.queue with
  | [] => s0
  | e :: rest =>
    if !s0.creRuns || !(e.noBase || s0.paired e) then s0
    else
      let lid := e.lid
      let q := { s0 with cre := { s0.cre with queue := rest } }.showCreRuns
      let s := match ecc with | .clean => q | .corrected => q.wrapBy Reg.MEM_ECC_CORR 1 | .uncorrectable => q.creStateEcc lid
      let r := s.solve (s.filt lid) e eph
      let s1 := (s.countEpoch r.1).setFilt lid r.2
      let k := r.2.fix.code
      let s5 := (((s1.wr (Reg.CRE_ROBOT_FIX lid) k).wr (Reg.CRE_ROBOT_SATS lid) r.1.sats).wr (Reg.CRE_ROBOT_AMB_FIXED lid) r.1.amb).showCre
      (if !s5.crePublishes then s5 else s5.publish e r.1 k done us).creDue lid

/-- FILTER_GAP_RESET (rule R243). -/
def filterGapResetOp (lid : Nat) (s : State) : State :=
  if s.on (Reg.CRE_ROBOT_ACTIVE lid) then ((s.wr (Reg.CRE_ROBOT_ACTIVE lid) 0).creReset lid) else s

/-! ## Host commands and commits (rules R257, R258) -/

/-- ROBOT_RESET. -/
def robotResetOp (c : Cmd) (s : State) : State :=
  s.hostCmd c .command fun t =>
    let p := c.desc.p0.toNat
    if c.desc.length ≠ 0 then t.finish c St.badLength 0 0
    else if bits p 9 23 ≠ 0 then t.finish c St.badFormat 0 0
    else (if bits p 8 1 = 1 then (List.range 256).foldl (fun (u : State) n => u.creLater n false) t else t.creLater (bits p 0 8) false).finish c St.done 0 0

/-- The 96 KiB filter state block (rule R242): the header, the state vector with the floating ambiguities, the ambiguity map with those held
last, P, and the integers. -/
def Filt.block (f : Filt) (lid fed : Nat) : List Nat :=
  let float := f.amb.filter fun a => !a.held
  let all := float ++ f.amb.filter (·.held)
  let n := 6 + float.length
  let w4 := fun (w : Word) => le 4 w.toNat
  let pad := fun (k : Nat) (l : List Nat) => (l ++ List.replicate k 0).take k
  let row := fun (i : Nat) => (List.range 150).flatMap fun j => if i < n ∧ j < n then w4 (f.cov.getD (i * n + j) 0) else [0, 0, 0, 0]
  [lid, f.fix.code, float.length, n] ++ le 4 fed ++ le 4 (f.done % 604800000) ++ le 2 (f.done / 604800000) ++ le 2 f.fixRun ++ le 4 f.outSeq
    ++ le 4 f.posSeq ++ List.replicate 40 0
    ++ pad 704 (f.state.flatMap w4 ++ float.flatMap fun a => w4 a.value)
    ++ pad 768 (all.flatMap fun a => [a.sv, a.signal, a.ref, bit a.held + 2 * bit a.floatOnly])
    ++ pad 90112 ((List.range 150).flatMap row)
    ++ pad 6656 (all.flatMap fun a => w4 (if a.held then a.int_ else 0))

/-- STATE_READ: the filter state block goes to host memory. -/
def stateReadOp (c : Cmd) (s : State) : State :=
  s.hostCmd c .dataOut fun t =>
    if c.desc.length ≠ 98304 then t.finish c St.badLength 0 0
    else if !t.creRuns then t.finish c St.refusedMode 0 0
    else
      let n := bits c.desc.p0.toNat 0 8
      t.finishData c ((t.filt n).block n (match AMap.find n t.zyp.roster with | some r => r.fed | none => 0))

/-- COMMIT of group FILTER. -/
def filterCommitOp (s : State) : State :=
  let r := fun (f : Fld) (lo hi : Nat) => decide (s.sh f < lo ∨ s.sh f > hi)
  let bad := r Reg.CRE_FILT_CFG_CODE_SIGMA 5 255 || r Reg.CRE_FILT_CFG_PHASE_SIGMA 10 255 || r Reg.CRE_FILT_CFG_ELEV_MIN 0 30
    || r Reg.CRE_FILT_CFG_CN0_MIN 20 45 || r Reg.CRE_FILT_CFG_ACC_PSD 1 15 || r Reg.CRE_AR_CFG_RATIO_MIN 15 100 || r Reg.CRE_AR_CFG_MIN_AMB 4 40
    || r Reg.CRE_AR_CFG_HOLD_AFTER 1 15 || r Reg.CRE_AR_CFG_PDOP_MAX 2 15 || r Reg.CRE_AR_LIM_PF_MAX 1 100000 || r Reg.CRE_AR_LIM_NODE_CODE 0 4
    || r Reg.CRE_AR_LIM_RESID_LIM 5 100 || r Reg.CRE_AR_LIM_GAP_RESET 1 15 || r Reg.CRE_INTAKE_CFG_AGE_MAX 50 1000
  s.commit Reg.CRE_FILT_COMMIT_RESULT
    [Reg.CRE_FILT_CFG_CODE_SIGMA, Reg.CRE_FILT_CFG_PHASE_SIGMA, Reg.CRE_FILT_CFG_ELEV_MIN, Reg.CRE_FILT_CFG_CN0_MIN, Reg.CRE_FILT_CFG_ACC_PSD,
     Reg.CRE_AR_CFG_RATIO_MIN, Reg.CRE_AR_CFG_MIN_AMB, Reg.CRE_AR_CFG_PAR_STEPS, Reg.CRE_AR_CFG_HOLD_AFTER, Reg.CRE_AR_CFG_LOCK_MIN,
     Reg.CRE_AR_CFG_PDOP_MAX, Reg.CRE_AR_LIM_PF_MAX, Reg.CRE_AR_LIM_NODE_CODE, Reg.CRE_AR_LIM_RESID_LIM, Reg.CRE_AR_LIM_GAP_RESET,
     Reg.CRE_INTAKE_CFG_AGE_MAX] (if bad then St.badFormat else St.done)

/-- COMMIT of group FRAME. -/
def frameCommitOp (s : State) : State :=
  let v := firstFail
    [(s.mode.fleet || s.mode == .twinStandby || s.mode == .rejoin, St.refusedMode),
     (offEarth (signed 64 (s.sh Reg.CRE_FRAME_X)) (signed 64 (s.sh Reg.CRE_FRAME_Y)) (signed 64 (s.sh Reg.CRE_FRAME_Z)) 6300000000 6400000000,
      St.badFormat),
     (decide (s.sh Reg.CRE_FRAME_ROT > 359999), St.badFormat)]
  let t := s.commit Reg.CRE_FRAME_COMMIT_RESULT [Reg.CRE_FRAME_X, Reg.CRE_FRAME_Y, Reg.CRE_FRAME_Z, Reg.CRE_FRAME_ROT] v
  if v = St.done then t.wr Reg.CRE_STATUS_FRAME_SET 1 else t

/-- COMMIT of group XCHK: every persistence count becomes 0. -/
def xchkCommitOp (s : State) : State :=
  let v := firstFail [(s.sh Reg.CRE_XCHK_CFG_XCHK_PERSIST == 0, St.badFormat)]
  let t := s.commit Reg.CRE_XCHK_COMMIT_RESULT
    ([Reg.CRE_XCHK_CFG_XCHK_PERSIST, Reg.CRE_XCHK_CFG_XCHK_EN] ++ (List.range 12).map Reg.CRE_XCHK_LIM) v
  if v = St.done then
    { t with cre := { t.cre with filt := t.cre.filt.map fun (p : Nat × Filt) => (p.1, { p.2 with ovr := 0, under := 0 }) } }
  else t

/-! ## Meanings -/

/-- Meaning of BASE_SERIES_INTAKE. -/
def execBaseSeriesIntake (s : State) : Out := .next (s.whenMain baseSeriesIntakeOp)
/-- Meaning of CRE_OBS_INTAKE. -/
def execCreObsIntake (chute : Fin 4) (ageMs : Word) (s : State) : Out := .next (s.whenMain (creObsIntakeOp chute.val ageMs.toNat))
/-- Meaning of PART_HOLD_TIMEOUT. -/
def execPartHoldTimeout (lid : Fin 256) (s : State) : Out := .next (s.whenMain (partHoldTimeoutOp lid.val))
/-- Meaning of BASE_PAIR_TIMEOUT. -/
def execBasePairTimeout (lid : Fin 256) (s : State) : Out := .next (s.whenMain (basePairTimeoutOp lid.val))
/-- Meaning of ROBOT_EPOCH_COMPLETE. -/
def execRobotEpochComplete (ecc : Ecc) (eph : List EphSat) (doneTime : YTime) (latencyUs : Word) (s : State) : Out :=
  .next (s.whenMain (robotEpochCompleteOp ecc eph doneTime latencyUs.toNat))
/-- Meaning of FILTER_GAP_RESET. -/
def execFilterGapReset (lid : Fin 256) (s : State) : Out := .next (s.whenMain (filterGapResetOp lid.val))
/-- Meaning of ROBOT_RESET. -/
def execRobotReset (c : Cmd) (s : State) : Out := .next (s.whenMain (robotResetOp c))
/-- Meaning of STATE_READ. -/
def execStateRead (c : Cmd) (s : State) : Out := .next (s.whenMain (stateReadOp c))
/-- Meaning of FILTER_COMMIT. -/
def execFilterCommit (s : State) : Out := .next (s.whenMain filterCommitOp)
/-- Meaning of FRAME_COMMIT. -/
def execFrameCommit (s : State) : Out := .next (s.whenMain frameCommitOp)
/-- Meaning of XCHK_COMMIT. -/
def execXchkCommit (s : State) : Out := .next (s.whenMain xchkCommitOp)

end Sys2Proof.Machine
end

