-- ==== Sys2Proof/Machine/Flows.lean ====
section
/-! DEFINITION. Dispatch (chapter 8): threads on execution units, admission of packets to ordered flows, the reorder
window, observations and the THREAD and FLOW commits. -/

namespace Sys2Proof.Machine

/-! ## Threads (rules R164 to R166) -/

/-- Whether thread t runs on some unit. -/
def State.runningThread (s : State) (t : Nat) : Bool := s.dsp.units.any (fun p => p.2 == t)

/-- Whether thread t may run on unit c: its affinity names the unit and its priority reaches the unit's FLOOR. -/
def State.mayRun (s : State) (t c : Nat) : Bool :=
  bits (s.rd (Reg.DSP_THR_CFG_AFFINITY t)) c 1 == 1 && decide (s.rd (Reg.DSP_CORE_CFG c) ≤ s.rd (Reg.DSP_THR_CFG_PRIO t))

/-- The histogram bin of a waiting time in µs (rule R174). -/
def waitBin (us : Nat) : Nat := if us = 0 then 0 else min 15 (Nat.log2 us + 1)

/-- Counts a dispatch in the histogram of unit c; a full bin stops and sets CNT_SAT. -/
def State.countWait (s : State) (c us : Nat) : State :=
  let k := c * 16 + waitBin us
  let v := AMap.get s.dsp.hist k 0
  if v ≥ 4294967295 then s
  else
    let t := { s with dsp := { s.dsp with hist := AMap.set k (v + 1) s.dsp.hist } }
    if v + 1 = 4294967295 then t.saturate Reg.DSP_FAULT_CNT_SAT (0x84 + c * 32 + waitBin us) else t

/-- The unit running the lowest priority among those thread t could preempt (rule R165). -/
def State.victim (s : State) (t : Nat) : List (Nat × Nat) → Option (Nat × Nat)
  | [] => none
  | (c, u) :: rest =>
    let r := State.victim s t rest
    if s.mayRun t c && decide (s.rd (Reg.DSP_THR_CFG_PRIO u) < s.rd (Reg.DSP_THR_CFG_PRIO t)) then
      match r with
      | none => some (c, u)
      | some (d, w) => if s.rd (Reg.DSP_THR_CFG_PRIO u) ≤ s.rd (Reg.DSP_THR_CFG_PRIO w) then some (c, u) else some (d, w)
    else r

/-- Thread t becomes READY: it joins the READY threads, or preempts a unit when no eligible unit is free (rule R165). -/
def State.makeReady (s : State) (t : Nat) : State :=
  let free := (List.range 9).any fun c => s.mayRun t c && (AMap.find c s.dsp.units).isNone
  match (if free then none else s.victim t s.dsp.units) with
  | none => { s with dsp := { s.dsp with ready := s.dsp.ready ++ [t] } }
  | some (c, u) => ({ s with dsp := { s.dsp with ready := u :: s.dsp.ready, units := AMap.set c t s.dsp.units } }).countWait c 0

/-- A wake of thread t (rule R166). -/
def State.wake (s : State) (t : Nat) : State :=
  if !s.on (Reg.DSP_THR_CFG_ENABLE t) then s
  else if s.dsp.ready.contains t || s.runningThread t then s.wrapBy Reg.DSP_WAKE_MERGED 1
  else s.makeReady t

/-- The READY thread a unit takes: highest priority, first to become READY, and the others. -/
def State.pickReady (s : State) (c : Nat) : List Nat → Option Nat
  | [] => none
  | t :: rest =>
    let r := State.pickReady s c rest
    if s.mayRun t c then
      match r with
      | none => some t
      | some u => if s.rd (Reg.DSP_THR_CFG_PRIO u) ≤ s.rd (Reg.DSP_THR_CFG_PRIO t) then some t else some u
    else r

/-- THREAD_DISPATCH (rule R165): the unit is free (a thread it ran has given it up) and takes a READY thread that waited
`us`. -/
def threadDispatchOp (c us : Nat) (s : State) : State :=
  let t := { s with dsp := { s.dsp with units := AMap.del c s.dsp.units } }
  match t.pickReady c t.dsp.ready with
  | none => t
  | some th => ({ t with dsp := { t.dsp with ready := t.dsp.ready.filter (· != th), units := AMap.set c th t.dsp.units } }).countWait c us

/-! ## Ordered flows (rules R167 to R173) -/

/-- The input chutes of Dispatch in the order of its round. -/
def inputChutes : List Nat := [0, 1, 2, 3, 4, 5, 6, 7, 16]

/-- The flow of a packet (flow assignment table). -/
def flowOf (chute : Nat) (lid : Option Nat) : Nat :=
  if chute = 0 ∨ chute = 4 ∨ chute = 16 then (match lid with | some l => l % 32 | none => 32)
  else if chute = 1 ∨ chute = 5 then 33
  else if chute = 2 then 34
  else if chute = 6 then 35
  else 36

/-- Entries flow f holds. -/
def State.flowHeld (s : State) (f : Nat) : Nat := (s.dsp.win.filter (·.flow == f)).length

/-- The next chute of the round with a packet to read (rules R167, R171). -/
def State.nextInput (s : State) : Option Nat :=
  let after := inputChutes.filter (fun c => decide (s.dsp.round < c)) ++ inputChutes.filter (fun c => decide (c ≤ s.dsp.round))
  after.find? fun c => s.chuteOn c && !(s.chute c).pkts.isEmpty && !(s.dsp.stalled.any (·.1 == c))

/-- The first enabled thread of flow f's pool with no entry to complete. -/
def State.freeThread (s : State) (f : Nat) : Option Nat :=
  ((List.range (s.rd (Reg.DSP_FLOW_CFG_POOL f))).map (· + s.rd (Reg.DSP_FLOW_CFG_THREAD_BASE f))).find?
    fun t => s.on (Reg.DSP_THR_CFG_ENABLE t) && !(s.dsp.win.any fun e => e.thread == some t && e.done.isNone)

/-- Gives the oldest unassigned entry of flow f to a free thread of its pool (rule R168), while messages are dispatched (rule R175). -/
def State.assign (s : State) (f : Nat) : State :=
  if !s.dsp.open_ then s
  else match s.dsp.win.find? (fun e => e.flow == f && e.thread.isNone && e.done.isNone), s.freeThread f with
  | some e, some t =>
    ({ s with dsp := { s.dsp with win := s.dsp.win.map fun (x : WinEntry) => if x.seq == e.seq then { x with thread := some t } else x } }).wake t
  | _, _ => s

/-- Waiting entries of any flow go to the threads that are free, oldest entry first: pools may share threads. -/
def State.assignAll (s : State) : State := s.dsp.win.foldl (fun (t : State) e => t.assign e.flow) s

/-- Input chute of a message that firmware posts. -/
def postedChute : Nat := 64

/-- A message takes the next ADM_SEQ and an entry of flow f (rules R167 to R169). -/
def State.takeIn (s : State) (f chute epoch : Nat) (lid : Option Nat) (own : Option OwnFrame) : State :=
  let q := (s.dsp.adm + 1) % 4294967296
  (({ s with dsp := { s.dsp with adm := q, win := s.dsp.win ++ [(⟨q, f, epoch, lid, own, chute, none, none⟩ : WinEntry)] } }).wrapBy
    (Reg.DSP_FLOW_ADMITTED f) 1).assign f

/-- PACKET_ADMISSION (rules R167, R168, R171 to R173) of the next packet of the round. A frame that the port's checks passed is then
this unit's own admission. -/
def packetAdmissionOp (ecc : Ecc) (s : State) : State :=
  if !s.dsp.open_ then s else
  match s.nextInput with
  | none => s
  | some c =>
    match s.nextPacket c with
    | none => s
    | some p =>
      let f := flowOf c p.lid
      let s0 := { s with dsp := { s.dsp with round := c } }
      if s.on (Reg.DSP_FLOW_CFG_ENABLE f) && decide (s.rd (Reg.DSP_FLOW_CFG_WIN_MAX f) ≤ s.flowHeld f) then
        let t := { s0 with dsp := { s0.dsp with stalled := s0.dsp.stalled ++ [(c, f)] } }
        (t.bump (Reg.DSP_FLOW_STALL f) Reg.DSP_FAULT_CNT_SAT).fault Reg.DSP_FAULT_STALL
      else
        let r := s0.takeChecked c ecc
        if !r.2 then r.1
        else if !s.on (Reg.DSP_FLOW_CFG_ENABLE f) then r.1.bump (Reg.DSP_FLOW_DISCARD f) Reg.DSP_FAULT_CNT_SAT
        else
          let t := match p.own with
            | some o =>
              if o.typ = 1 then r.1
              else { r.1 with twn := { r.1.twn with own := r.1.twn.own ++ [{ o with adm := (r.1.dsp.adm + 1) % 4294967296 }] } }
            | none => r.1
          t.takeIn f c p.epoch p.lid p.own

/-- A message that firmware posts in a flow from 37 to 63 (rules R166, R168): discarded and counted where the flow is disabled; a full
flow does not take it (log entry 65). -/
def State.post (s : State) (f : Nat) : State :=
  if f < 37 ∨ !s.dsp.open_ then s
  else if !s.on (Reg.DSP_FLOW_CFG_ENABLE f) then s.bump (Reg.DSP_FLOW_DISCARD f) Reg.DSP_FAULT_CNT_SAT
  else if s.rd (Reg.DSP_FLOW_CFG_WIN_MAX f) ≤ s.flowHeld f then s
  else s.takeIn f postedChute s.nextEpoch none none

/-- THREAD_WAKE (rule R166): by a thread, by the oldest Hoist CODE posted, or by a message that firmware posts in a flow. -/
def threadWakeOp (src : WakeSrc) (s : State) : State :=
  match src with
  | .thread t => s.wake t.val
  | .message f => s.post f.val
  | .hoist =>
    match s.dsp.codes with
    | [] => s
    | c :: rest =>
      let u := { s with dsp := { s.dsp with codes := rest } }
      let m := s.rd (Reg.DSP_WAKE_MAP c)
      if bits m 31 1 = 1 then u.wake (bits m 0 9) else u.bump Reg.DSP_WAKE_UNMAPPED Reg.DSP_FAULT_CNT_SAT

/-- Puts an input into an epoch's list in ADM_SEQ order (rule R170). -/
def insertOp (q : Nat) (op : RobotOp) : List (Nat × RobotOp) → List (Nat × RobotOp)
  | [] => [(q, op)]
  | (p, o) :: t => if later p q then (q, op) :: (p, o) :: t else (p, o) :: insertOp q op t

/-- The output of a released entry goes to its destination (rules R169, R396): an OBS to its chute as the frame it is, a STATUS to the
decision pair. A unit in TWIN_STANDBY or REJOIN takes its epoch inputs from the active's stream instead (rule R173). -/
def State.deliver (s : State) (e : WinEntry) (o : EntryOut) : State :=
  match o with
  | .none => s
  | .obs =>
    match e.own with
    | none => s
    | some o =>
      if o.typ ≠ 1 then s
      else
        let n := 28 + o.lid % 4
        let r := s.offerFrom n 0 (some o.lid) (toWords (o.bytes.map (·.toNat)))
        if r.2 then r.1.noteFrame n o else r.1
  | .packet c ws => (s.offer c.val 0 ws).1
  | .input =>
    match e.own.bind (·.op) with
    | none =>
      match e.own with
      | some o => if o.typ = 2 then { s with zyp := { s.zyp with statusIn := s.zyp.statusIn ++ [o] } } else s
      | none => s
    | some op =>
      if s.mode = .twinStandby ∨ s.mode = .rejoin then s
      else { s with epo := { s.epo with lists := AMap.set e.epoch (insertOp e.seq op (AMap.get s.epo.lists e.epoch [])) s.epo.lists } }

/-- Releases the entries of flow f that have become first and complete; `fuel` bounds their number (rule R169). -/
def State.releaseFlow (s : State) (f : Nat) : Nat → State
  | 0 => s
  | fuel + 1 =>
    match s.dsp.win.find? (·.flow == f) with
    | none => s
    | some e =>
      match e.done with
      | none => s
      | some o =>
        let t := { s with dsp := { s.dsp with win := s.dsp.win.filter (·.seq != e.seq), stalled := s.dsp.stalled.filter (·.2 != f) } }
        State.releaseFlow ((t.wrapBy (Reg.DSP_FLOW_RELEASED f) 1).deliver e o) f fuel

/-- ENTRY_COMPLETE (rule R169): by the thread that the entry was given to. -/
def entryCompleteOp (q : Nat) (o : EntryOut) (s : State) : State :=
  match s.dsp.win.find? (fun e => e.seq == q && e.thread.isSome && e.done.isNone) with
  | none => s
  | some e =>
    let t := { s with dsp := { s.dsp with win := s.dsp.win.map fun (x : WinEntry) => if x.seq == q then { x with done := some o } else x } }
    (t.releaseFlow e.flow (t.dsp.win.length + 1)).assignAll

/-! ## Commits and observations -/

/-- Whether an enabled flow's pool names thread t. -/
def State.inPool (s : State) (t : Nat) : Bool :=
  (List.range 64).any fun f => s.on (Reg.DSP_FLOW_CFG_ENABLE f) && decide (s.rd (Reg.DSP_FLOW_CFG_THREAD_BASE f) ≤ t)
    && decide (t < s.rd (Reg.DSP_FLOW_CFG_THREAD_BASE f) + s.rd (Reg.DSP_FLOW_CFG_POOL f))

/-- COMMIT of group THREAD (rule R177). -/
def threadCommitOp (s : State) : State :=
  let t := s.rd Reg.DSP_THR_SEL
  let en := s.sh (Reg.DSP_THR_CFG_ENABLE t)
  let aff := s.sh (Reg.DSP_THR_CFG_AFFINITY t)
  let v := firstFail
    [(decide (en = 1 ∧ aff = 0), St.badFormat),
     (decide (aff ≥ 256 ∧ aff ≠ 256), St.badFormat),
     (decide (en = 0) && s.on (Reg.DSP_THR_CFG_ENABLE t) && (s.runningThread t || s.inPool t), St.busy)]
  let u := s.commit (Reg.DSP_THR_COMMIT_RESULT t)
    [Reg.DSP_THR_CFG_PRIO t, Reg.DSP_THR_CFG_AFFINITY t, Reg.DSP_THR_CFG_ENABLE t] v
  if v ≠ St.done then u
  else if en = 0 then { u with dsp := { u.dsp with ready := u.dsp.ready.filter (· != t) } }
  else u.assignAll

/-- WIN_MAX summed over the enabled flows, with flow f at its shadow. -/
def State.winSum (s : State) (f : Nat) : Nat :=
  ((List.range 64).map fun g =>
    if g = f then (if s.sh (Reg.DSP_FLOW_CFG_ENABLE g) = 1 then s.sh (Reg.DSP_FLOW_CFG_WIN_MAX g) else 0)
    else if s.on (Reg.DSP_FLOW_CFG_ENABLE g) then s.rd (Reg.DSP_FLOW_CFG_WIN_MAX g) else 0).sum

/-- COMMIT of group FLOW (rule R178). -/
def flowCommitOp (s : State) : State :=
  let f := s.rd Reg.DSP_FLOW_SEL
  let en := s.sh (Reg.DSP_FLOW_CFG_ENABLE f)
  let wm := s.sh (Reg.DSP_FLOW_CFG_WIN_MAX f)
  let pool := s.sh (Reg.DSP_FLOW_CFG_POOL f)
  let base := s.sh (Reg.DSP_FLOW_CFG_THREAD_BASE f)
  let raises := decide (s.rd (Reg.DSP_FLOW_CFG_WIN_MAX f) < wm) && decide (en = s.rd (Reg.DSP_FLOW_CFG_ENABLE f))
    && decide (pool = s.rd (Reg.DSP_FLOW_CFG_POOL f)) && decide (base = s.rd (Reg.DSP_FLOW_CFG_THREAD_BASE f))
  let v := firstFail
    [(decide (en = 1 ∧ (wm = 0 ∨ pool = 0)), St.badFormat),
     (decide (pool > 32 ∨ base + pool > 512), St.badFormat),
     (decide (s.winSum f > 1024), St.badFormat),
     (decide (s.flowHeld f > 0) && !raises, St.busy)]
  s.commit (Reg.DSP_FLOW_COMMIT_RESULT f)
    [Reg.DSP_FLOW_CFG_WIN_MAX f, Reg.DSP_FLOW_CFG_THREAD_BASE f, Reg.DSP_FLOW_CFG_POOL f, Reg.DSP_FLOW_CFG_ENABLE f] v

/-- The default WIN_MAX of a flow (flow assignment table). -/
def defaultWinMax (f : Nat) : Nat := if f < 32 then 24 else if f = 33 then 64 else if f ≤ 36 then 32 else 0

/-- Firmware loads the default WIN_MAX of the flows of input chutes during BOOT, before LAN admission (rule R168). -/
def State.loadFlows (s : State) : State :=
  s.wrEach (((List.range 37).filter fun f => s.rd (Reg.DSP_FLOW_CFG_WIN_MAX f) == 0).map fun f => (Reg.DSP_FLOW_CFG_WIN_MAX f, defaultWinMax f))

/-- DEPTH of unit c: the READY threads that it may run (rule R174). -/
def State.depth (s : State) (c : Nat) : Nat := (s.dsp.ready.filter fun t => s.mayRun t c).length

/-- The unit that runs thread t. -/
def State.unitOf (s : State) (t : Nat) : Option Nat := (s.dsp.units.find? fun p => p.2 == t).map (·.1)

/-- DSP_THR_STATE of thread t (rule R177): STATE, and UNIT while it runs. -/
def State.threadState (s : State) (t : Nat) : Nat :=
  match s.unitOf t with
  | some c => 3 + 4 * c
  | none => if !s.on (Reg.DSP_THR_CFG_ENABLE t) then 0 else if s.dsp.ready.contains t then 2 else 1

/-- OBS_LATCH (rule R174). -/
def obsLatchOp (s : State) : State :=
  { s with dsp := { s.dsp with histBank := s.dsp.hist, loadBank := s.dsp.load } }

/-- The loads of the units, by unit number. -/
def loadMap : Nat → List Word → AMap Nat
  | _, [] => []
  | c, w :: t => (c, w.toNat) :: loadMap (c + 1) t

/-- LOAD_WINDOW_END (rule R174). -/
def loadWindowEndOp (loads : List Word) (s : State) : State := { s with dsp := { s.dsp with load := loadMap 0 loads } }

/-- FLOW_VIEW_SAMPLE (rule R179). -/
def flowViewSampleOp (f : Nat) (s : State) : State :=
  { s with dsp := { s.dsp with
      samples := AMap.set f (s.rd (Reg.DSP_FLOW_ADMITTED f), s.rd (Reg.DSP_FLOW_RELEASED f), s.flowHeld f) s.dsp.samples } }

/-! ## Meanings -/

/-- Meaning of THREAD_WAKE. -/
def execThreadWake (src : WakeSrc) (s : State) : Out := .next (s.whenMain (threadWakeOp src))
/-- Meaning of THREAD_DISPATCH. -/
def execThreadDispatch (unit : Fin 9) (waitUs : Word) (s : State) : Out :=
  .next (s.whenMain (threadDispatchOp unit.val waitUs.toNat))
/-- Meaning of PACKET_ADMISSION. -/
def execPacketAdmission (ecc : Ecc) (s : State) : Out := .next (s.whenMain (packetAdmissionOp ecc))
/-- Meaning of ENTRY_COMPLETE. -/
def execEntryComplete (seq : Word) (out : EntryOut) (s : State) : Out := .next (s.whenMain (entryCompleteOp seq.toNat out))
/-- Meaning of THREAD_COMMIT. -/
def execThreadCommit (s : State) : Out := .next (s.whenMain threadCommitOp)
/-- Meaning of FLOW_COMMIT. -/
def execFlowCommit (s : State) : Out := .next (s.whenMain flowCommitOp)
/-- Meaning of OBS_LATCH. -/
def execObsLatch (s : State) : Out := .next (s.whenMain obsLatchOp)
/-- Meaning of LOAD_WINDOW_END. -/
def execLoadWindowEnd (loads : Vector Word 9) (s : State) : Out := .next (s.whenMain (loadWindowEndOp loads.toList))
/-- Meaning of FLOW_VIEW_SAMPLE. -/
def execFlowViewSample (f : Fin 64) (s : State) : Out := .next (s.whenMain (flowViewSampleOp f.val))

end Sys2Proof.Machine
end

