-- ==== Sys2Proof/Machine/Geometry.lean ====
section
/-! DEFINITION. The yard graph and its geometry (rules R259, R260, R268 to R270, R299 to R303): nodes, segments,
footprints, paths, poses and the cells a footprint meets. Lengths along a path are in 2⁻¹⁶ mm; a distance is a fraction
(numerator, denominator) of mm; a direction is a vector of length 2³⁰; a scaled point carries its denominator × 2³⁰. The
arithmetic is exact, but for lengths and directions that are not axis-parallel, which are constants of Config. -/

namespace Sys2Proof.Machine

/-! ## Fleet table entries -/

/-- A byte of a bank of 32-bit words, by byte offset. -/
def bankByte (m : AMap Nat) (o : Nat) : Nat := bits (AMap.get m (o / 4) 0) (8 * (o % 4)) 8

/-- k bytes of a bank, little-endian. -/
def bankLe (m : AMap Nat) (o : Nat) : Nat → Nat
  | 0 => 0
  | k + 1 => bankByte m o + 256 * bankLe m (o + 1) k

/-- A segment entry (rule R300). -/
structure Segment where
  nodeA : Nat
  nodeB : Nat
  len   : Nat
  head  : Nat
  curv  : Int
  vmax  : Nat
  mask  : Nat
  kind  : Nat
  flags : Nat
  place : Nat
  rsv   : Bool
  deriving DecidableEq, Repr

/-- Segment i of a bank. -/
def segAt (m : AMap Nat) (i : Nat) : Segment :=
  let o := 32 * i
  ⟨bits (bankLe m o 2) 0 13, bits (bankLe m (o + 2) 2) 0 13, bankLe m (o + 4) 4, bankLe m (o + 8) 4,
   signed 32 (bankLe m (o + 12) 4), bankLe m (o + 16) 2, bankLe m (o + 18) 2, bankByte m (o + 20), bankByte m (o + 21),
   bits (bankLe m (o + 22) 2) 0 12,
   bits (bankLe m o 2) 13 3 != 0 || bits (bankLe m (o + 2) 2) 13 3 != 0 || bits (bankByte m (o + 21)) 3 5 != 0
     || bits (bankLe m (o + 22) 2) 12 4 != 0 || bankLe m (o + 24) 8 != 0⟩

/-- Whether a segment is VALID. -/
def Segment.valid (g : Segment) : Bool := bits g.flags 0 1 == 1

/-- Byte offset of node i. -/
def nodeOfs (i : Nat) : Nat := 0x80000 + 16 * i

/-- Node i of a bank: its point, and whether it is VALID. -/
def nodeAt (m : AMap Nat) (i : Nat) : (Int × Int) × Bool :=
  ((signed 32 (bankLe m (nodeOfs i) 4), signed 32 (bankLe m (nodeOfs i + 4) 4)), bits (bankByte m (nodeOfs i + 8)) 0 1 == 1)

/-- A footprint class (rule R303). -/
structure Footprint where
  ahead   : Nat
  behind  : Nat
  halfW   : Nat
  vmax    : Nat
  defined : Bool
  deriving DecidableEq, Repr

/-- Footprint class k of a bank. -/
def footAt (m : AMap Nat) (k : Nat) : Footprint :=
  let o := 0xA4200 + 16 * k
  ⟨bankLe m o 2, bankLe m (o + 2) 2, bankLe m (o + 4) 2, bankLe m (o + 6) 2, bits (bankByte m (o + 8)) 0 1 == 1⟩

/-! ## Paths and poses -/

/-- A piece of a path: where it starts, its end, its length in 2⁻¹⁶ mm, its first direction, and for an arc its heading
and curvature at FROM with FROM's point; `rev` means it is run from TO to FROM. -/
structure Piece where
  a    : Int × Int
  b    : Int × Int
  len  : Nat
  dir  : Int × Int
  arc  : Option (Nat × Int)
  rev  : Bool
  vmax : Nat
  deriving DecidableEq, Repr

/-- A pose: point scaled by `den` × 2³⁰, and heading direction, none where no heading is defined. -/
structure Pose where
  px  : Int
  py  : Int
  den : Nat
  dir : Option (Int × Int)
  deriving DecidableEq, Repr

/-- Length of a line in 2⁻¹⁶ mm: exact where axis-parallel. -/
def lineLength (dx dy : Int) : Nat :=
  if dx = 0 then dy.natAbs * 65536 else if dy = 0 then dx.natAbs * 65536 else Config.lineLen dx dy

/-- Direction of a line: exact where axis-parallel. -/
def lineDirection (dx dy : Int) : Int × Int :=
  if dx = 0 then (0, if dy < 0 then -unit30 else unit30)
  else if dy = 0 then (if dx < 0 then -unit30 else unit30, 0)
  else Config.lineDir dx dy

/-- The opposite direction. -/
def turnBack (d : Int × Int) : Int × Int := (-d.1, -d.2)

/-- The piece of a segment element (rule R301). -/
def segPiece (m : AMap Nat) (i : Nat) (rev : Bool) : Piece :=
  let g := segAt m i
  let a := (nodeAt m g.nodeA).1
  let b := (nodeAt m g.nodeB).1
  let d := headingVec g.head
  if rev then ⟨b, a, g.len * 65536, turnBack d, if g.curv = 0 then none else some (g.head, g.curv), true, g.vmax⟩
  else ⟨a, b, g.len * 65536, d, if g.curv = 0 then none else some (g.head, g.curv), false, g.vmax⟩

/-- The pieces of a polyline. -/
def linePieces (vmax : Nat) : List (Int × Int) → List Piece
  | a :: b :: t => ⟨a, b, lineLength (b.1 - a.1) (b.2 - a.2), lineDirection (b.1 - a.1) (b.2 - a.2), none, false, vmax⟩
                     :: linePieces vmax (b :: t)
  | _ => []

/-- Signed points of a polyline. -/
def signedPoint (p : BitVec 32 × BitVec 32) : Int × Int := (p.1.toInt, p.2.toInt)

/-- The pieces of a path. -/
def pathPieces (m : AMap Nat) (vmax : Nat) : PathSpec → List Piece
  | .segs l => l.map fun e => segPiece m e.1.val e.2
  | .points l => linePieces vmax (l.map signedPoint)

/-- Number of path elements. -/
def pathCount : PathSpec → Nat
  | .segs l => l.length
  | .points l => l.length

/-- Length of a path in 2⁻¹⁶ mm. -/
def pathLength (ps : List Piece) : Nat := (ps.map (·.len)).sum

/-- The pose num / den mm along a piece. At its end a piece stands exactly at its end point. -/
def Piece.pose (p : Piece) (num den : Nat) : Pose :=
  if num * 65536 = p.len * den then
    let d := match p.arc with
      | none => p.dir
      | some (h, c) => if p.rev then turnBack (headingVec h) else (Config.arcPose h c num den).2
    ⟨p.b.1 * den * unit30, p.b.2 * den * unit30, den, some d⟩
  else match p.arc with
    | none => ⟨p.a.1 * den * unit30 + num * p.dir.1, p.a.2 * den * unit30 + num * p.dir.2, den, some p.dir⟩
    | some (h, c) =>
      if p.rev then
        let q := Config.arcPose h c (p.len * den - num * 65536) (den * 65536)
        ⟨p.b.1 * (den * 65536) * unit30 + q.1.1, p.b.2 * (den * 65536) * unit30 + q.1.2, den * 65536, some (turnBack q.2)⟩
      else
        let q := Config.arcPose h c num den
        ⟨p.a.1 * den * unit30 + q.1.1, p.a.2 * den * unit30 + q.1.2, den, some q.2⟩

/-- The poses num / den mm along a path that begins `base` (in 2⁻¹⁶ mm) before the first piece of the list: one pose
inside a piece, and at a joint one with each of the two headings (rules R268, R301). -/
def posesAt (num den : Nat) : Nat → List Piece → List Pose
  | _, [] => []
  | base, p :: t =>
    let here := if base * den ≤ num * 65536 ∧ num * 65536 ≤ (base + p.len) * den
                then [p.pose (num * 65536 - base * den) (den * 65536)] else []
    here ++ posesAt num den (base + p.len) t

/-- The distance of each joint of a path, in 2⁻¹⁶ mm. -/
def joints : Nat → List Piece → List Nat
  | _, [] => []
  | base, p :: t => (base + p.len) :: joints (base + p.len) t

/-! ## Cells -/

/-- The map's shape: columns, rows, cell edge and origin in mm (rule R259). -/
structure Grid where
  w  : Nat
  h  : Nat
  s  : Nat
  x0 : Int
  y0 : Int
  deriving DecidableEq, Repr

/-- A footprint rectangle around the reference point, in mm. -/
structure Rect where
  ahead  : Nat
  behind : Nat
  half   : Nat
  deriving DecidableEq, Repr

/-- A class rectangle grown by the margin on every side and by half a cell ahead and behind (rule R270). -/
def grown (f : Footprint) (margin s : Nat) : Rect := ⟨f.ahead + margin + s / 2, f.behind + margin + s / 2, f.halfW + margin⟩

/-- The corners of a rectangle at a pose, scaled. -/
def corners (r : Rect) (p : Pose) (d : Int × Int) : List (Int × Int) :=
  let c := fun (al be : Int) => (p.px + (al * d.1 - be * d.2) * p.den, p.py + (al * d.2 + be * d.1) * p.den)
  [c r.ahead r.half, c r.ahead (-r.half), c (-(r.behind : Int)) r.half, c (-(r.behind : Int)) (-r.half)]

/-- Least and greatest of a list. -/
def span : List Int → Int × Int
  | [] => (0, 0)
  | [a] => (a, a)
  | a :: t => let q := span t; (min a q.1, max a q.2)

/-- Whether two closed spans meet. -/
def meets (a b : Int × Int) : Bool := decide (a.1 ≤ b.2) && decide (b.1 ≤ a.2)

/-- The corners of the closed square of cell (x, y), scaled by `k` (rule R260). -/
def square (g : Grid) (k : Int) (x y : Int) : List (Int × Int) :=
  let xa := (g.x0 + x * g.s) * k
  let xb := (g.x0 + (x + 1) * g.s) * k
  let ya := (g.y0 + y * g.s) * k
  let yb := (g.y0 + (y + 1) * g.s) * k
  [(xa, ya), (xa, yb), (xb, ya), (xb, yb)]

/-- Whether the square of a cell meets the rectangle at a pose: their spans meet along both axes of each. -/
def cellMeets (g : Grid) (r : Rect) (p : Pose) (d : Int × Int) (x y : Int) : Bool :=
  let k := (p.den : Int) * unit30
  let q := square g k x y
  let rc := corners r p d
  let along := fun (c : Int × Int) => (c.1 - p.px) * d.1 + (c.2 - p.py) * d.2
  let across := fun (c : Int × Int) => (c.2 - p.py) * d.1 - (c.1 - p.px) * d.2
  meets (span (q.map (·.1))) (span (rc.map (·.1))) && meets (span (q.map (·.2))) (span (rc.map (·.2)))
    && meets (span (q.map along)) (-(r.behind : Int) * k * unit30, r.ahead * k * unit30)
    && meets (span (q.map across)) (-(r.half : Int) * k * unit30, r.half * k * unit30)

/-- Nearest value of a closed span to a point. -/
def clampTo (a : Int × Int) (v : Int) : Int := max a.1 (min a.2 v)

/-- Whether the square of a cell meets the rectangle swept through a full turn, a disc (rule R269). -/
def cellMeetsDisc (g : Grid) (r : Rect) (p : Pose) (x y : Int) : Bool :=
  let k := (p.den : Int) * unit30
  let q := square g k x y
  let dx := clampTo (span (q.map (·.1))) p.px - p.px
  let dy := clampTo (span (q.map (·.2))) p.py - p.py
  let m := max r.ahead r.behind
  decide (dx * dx + dy * dy ≤ ((m * m + r.half * r.half : Nat) : Int) * k * k)

/-- The integers from a to b. -/
def intsFrom (a b : Int) : List Int := (List.range (b + 1 - a).toNat).map fun (i : Nat) => a + (i : Int)

/-- The cells (column, row) that the footprint meets at a pose, off the map included (rule R270). -/
def cellsAt (g : Grid) (r : Rect) (p : Pose) : List (Int × Int) :=
  let k := (p.den : Int) * unit30
  let m : Int := max (max r.ahead r.behind) r.half * 2
  let lo := fun (c o : Int) => ((c - m * k) / k - o) / g.s - 1
  let hi := fun (c o : Int) => ((c + m * k) / k - o) / g.s + 1
  (intsFrom (lo p.py g.y0) (hi p.py g.y0)).flatMap fun y =>
    (intsFrom (lo p.px g.x0) (hi p.px g.x0)).filterMap fun x =>
      let hit := match p.dir with
        | some d => cellMeets g r p d x y
        | none => cellMeetsDisc g r p x y
      if hit then some (x, y) else none

/-- The index of a cell, none off the map (rule R259). -/
def cellIndex (g : Grid) (c : Int × Int) : Option Nat :=
  if 0 ≤ c.1 ∧ c.1 < g.w ∧ 0 ≤ c.2 ∧ c.2 < g.h then some (c.2.toNat * g.w + c.1.toNat) else none

/-- The cells of a list of poses in rising order, and whether one lies off the map. -/
def cellsOf (g : Grid) (r : Rect) (ps : List Pose) : List Nat × Bool :=
  (ps.flatMap (cellsAt g r)).foldl
    (fun acc c => match cellIndex g c with | some n => (insertNat n acc.1, acc.2) | none => (acc.1, true)) ([], false)

/-! ## Motion (rules R268, R270) -/

/-- A distance: numerator and denominator, mm. -/
abbrev Dist := Nat × Nat

/-- a ≤ b. -/
def distLe (a b : Dist) : Bool := decide (a.1 * b.2 ≤ b.1 * a.2)

/-- Inserts a distance into a rising list. -/
def insertDist (d : Dist) : List Dist → List Dist
  | [] => [d]
  | a :: t => if distLe d a then d :: a :: t else a :: insertDist d t

/-- Distance along the path from the start point at a time after the origin, given the knots from (s0, t0) on; a ms has `k` units of
time. -/
def distAt (k t : Nat) : Nat → Nat → List (Word × Word) → Dist
  | s0, _, [] => (s0, 1)
  | s0, t0, (s, u) :: rest =>
    let tu := u.toNat * k
    if t ≤ tu then (if tu = t0 then (s0, 1) else (s0 * (tu - t0) + (s.toNat - s0) * (t - t0), tu - t0))
    else distAt k t s.toNat tu rest

/-- The further instants between two distances: as few as keep each move at most half a cell (rule R270). -/
def between (s : Nat) (a b : Dist) : List Dist :=
  let num := b.1 * a.2 - a.1 * b.2
  let den := a.2 * b.2
  let n := (2 * num + s * den - 1) / (s * den)
  (List.range (n - 1)).map fun i => (a.1 * b.2 * n + (i + 1) * num, den * n)

/-- A rising list of distances with the further instants between them. -/
def refine (s : Nat) : List Dist → List Dist
  | a :: b :: t => a :: (between s a b ++ refine s (b :: t))
  | l => l

/-- The distances (from the path's beginning) at which a footprint is placed between times ta and tb, in ms after the
origin: both ends, the knots and joints between them and the further instants. -/
def slotDists (s sOfs : Nat) (knots : List (Word × Word)) (js : List Nat) (ta tb : Nat) : List Dist :=
  let shift := fun (d : Dist) => (d.1 + sOfs * d.2, d.2)
  let a := shift (distAt 1 ta 0 0 knots)
  let b := shift (distAt 1 tb 0 0 knots)
  let ks := (knots.filter fun k => decide (ta ≤ k.2.toNat ∧ k.2.toNat ≤ tb)).map fun k => (k.1.toNat + sOfs, 1)
  let vs := (js.map fun j => (j, 65536)).filter fun d => distLe a d && distLe d b
  refine s ((ks ++ vs ++ [b]).foldl (fun l d => insertDist d l) [a])

end Sys2Proof.Machine
end

