-- ==== Sys2Proof/Machine/Larder.lean ====
section
/-! DEFINITION. The Larder (chapter 12): tokens as runs, requests, releases, stop envelopes, expiry, quarantine and
blocked cells, the audit, host commands and its commits. Slots are 32-bit slot numbers. -/

namespace Sys2Proof.Machine

/-! ## The map -/

/-- Cell edge in mm by code. -/
def cellEdge (c : Nat) : Nat := match c with | 0 => 250 | 1 => 500 | 2 => 1000 | _ => 2000

/-- Slot length in ms by code (rule R261). -/
def slotLength (c : Nat) : Nat :=
  match c with | 0 => 100 | 1 => 200 | 2 => 250 | 3 => 400 | 4 => 500 | 5 => 1000 | _ => 2000

/-- The grid in force. -/
def State.grid (s : State) : Grid :=
  ⟨2 ^ s.rd Reg.LDR_MAP_GEOM_WX, 2 ^ s.rd Reg.LDR_MAP_GEOM_HY, cellEdge (s.rd Reg.LDR_MAP_GEOM_CELL),
   signed 32 (s.rd Reg.LDR_MAP_X0), signed 32 (s.rd Reg.LDR_MAP_Y0)⟩

/-- W × H. -/
def State.cellCount (s : State) : Nat := s.grid.w * s.grid.h

/-- Slot length in force. -/
def State.slotMs (s : State) : Nat := slotLength (s.rd Reg.LDR_MAP_GEOM_SLOT)

/-- The current slot. -/
def State.slotNow (s : State) : Nat := s.rd Reg.LDR_SLOT_NOW

/-- b − a on 32 bits. -/
def slotDiff (b a : Nat) : Nat := (b + 4294967296 - a % 4294967296) % 4294967296

/-- Slot a + k. -/
def slotPlus (a k : Nat) : Nat := (a + k) % 4294967296

/-- Whether a run covers a slot. -/
def Run.covers (r : Run) (slot : Nat) : Bool := decide (slotDiff slot r.first < r.len)

/-- The run that holds (cell, slot), if one does (rule R266). -/
def State.holderOf (s : State) (cell slot : Nat) : Option Run := s.ldr.runs.find? fun r => r.cell == cell && r.covers slot

/-- Tokens of a run at `start` or later, for a current slot not later than start (rule R266: slots before the current one
are under sweep and count as FREE). -/
def Run.tokensFrom (now start : Nat) (r : Run) : Nat :=
  let e := slotDiff (slotPlus r.first r.len) (slotPlus now 4294967232)       -- end of the run, from 64 slots ago
  let b := max (slotDiff start (slotPlus now 4294967232)) (slotDiff r.first (slotPlus now 4294967232))
  e - b

/-- Whether (cell, slot) is BLOCKED or its cell quarantined (rules R271, R283). -/
def State.cellBad (s : State) (cell : Nat) : Bool := s.ldr.blocked.contains cell || s.ldr.quar.any (·.cell == cell)

/-- Adds to one of the Larder's state counts. -/
def State.addTo (s : State) (f : Fld) (k : Nat) : State := s.wr f (s.rd f + k)

/-- Takes from one of the Larder's state counts. -/
def State.takeFrom (s : State) (f : Fld) (k : Nat) : State := s.wr f (s.rd f - k)

/-- Live grant slots of robot r among 0 to 6. -/
def State.liveGrants (s : State) (r : Nat) : Nat :=
  ((List.range 7).filter fun g => (AMap.find (8 * r + g) s.ldr.grants).isSome).length

/-- LDR_ROBOTn of robot r follows the runs and grants. -/
def State.showRobot (s : State) (r : Nat) : State :=
  let mine := s.ldr.runs.filter fun x => x.robot == r && !x.pending
  let held := (mine.map (Run.tokensFrom s.slotNow s.slotNow)).sum
  ((s.wr (Reg.LDR_ROBOT_HELD r) held).wr (Reg.LDR_ROBOT_GRANTS r) (s.liveGrants r)).wr (Reg.LDR_ROBOT_ENV r)
    (bit (mine.any fun x => x.env && x.tokensFrom s.slotNow s.slotNow != 0))

/-- Every LDR_ROBOTn follows. -/
def State.showRobots (s : State) : State := (List.range 256).foldl State.showRobot s

/-- Drops grant slots that have no token left (rule R276). -/
def State.dropGrants (s : State) : State :=
  { s with ldr := { s.ldr with grants := s.ldr.grants.filter fun (k, _) => s.ldr.runs.any fun r => 8 * r.robot + r.gslot == k } }

/-! ## Requests (rules R267 to R273) -/

/-- The tokens of a request: for each slot offset from START_SLOT the cells taken, and whether one lies off the map. -/
structure Raster where
  slots : List (Nat × List Nat)
  off   : Bool
  deriving DecidableEq, Repr

/-- Time of the last knot, ms after the origin. -/
def lastT (ks : List (Word × Word)) : Nat := (ks.getLast?.map (·.2.toNat)).getD 0

/-- Distance of the last knot. -/
def lastS (ks : List (Word × Word)) : Nat := (ks.getLast?.map (·.1.toNat)).getD 0

/-- The final slot of a request, counted from START_SLOT (rule R268). -/
def finalSlot (ms : Nat) (q : ReqPkt) : Nat := (q.startMs.toNat + lastT q.knots) / ms

/-- The snapshot's position of a robot, if it is valid. -/
def State.snapPos (s : State) (r : Nat) : Option PosRec :=
  match AMap.find r s.epo.pos with
  | some p => if p.valid then some p else none
  | none => none

/-- Poses of a request with no motion: the snapshot position, or a polyline of one point (rule R269). -/
def standPose (q : ReqPkt) (p : Option PosRec) : List Pose :=
  match q.path, p with
  | .points (a :: _), _ => [⟨(signedPoint a).1 * unit30, (signedPoint a).2 * unit30, 1, none⟩]
  | _, some p =>
    let d := if p.vx * p.vx + p.vy * p.vy ≥ 2500 then some (lineDirection p.vx p.vy) else none
    [⟨p.x * unit30, p.y * unit30, 1, d⟩]
  | _, none => []

/-- Rasterises a request (rule R270). -/
def State.raster (s : State) (q : ReqPkt) : Raster :=
  let g := s.grid
  let f := footAt s.trk.live q.cls.val
  let r := grown f (s.rd Reg.LDR_REQ_CFG_MARGIN_MM) g.s
  let ms := s.slotMs
  let fin := finalSlot ms q
  let ps := pathPieces s.trk.live f.vmax q.path
  let js := joints 0 ps
  let still := ps.isEmpty
  let cellsIn := fun (k : Nat) =>
    if still then cellsOf g r (standPose q (s.snapPos q.lid.val))
    else
      let ta := k * ms - q.startMs.toNat
      let tb := (k + 1) * ms - q.startMs.toNat
      cellsOf g r ((slotDists g.s q.sOfs.toNat q.knots js ta tb).flatMap fun d => posesAt d.1 d.2 0 ps)
  let endCells :=
    if still then cellsIn 0 else cellsOf g r (posesAt (q.sOfs.toNat + lastS q.knots) 1 0 ps)
  let moving := (List.range (fin + 1)).map fun k => (k, cellsIn k)
  let dwell := (List.range q.dwellEnd.toNat).map fun i => (fin + 1 + i, endCells)
  let all := moving ++ dwell
  ⟨all.map fun (k, c) => (k, c.1), all.any fun x => x.2.2⟩

/-- Whether a list of knots breaks rule R268: T strictly rises from the origin on and S never falls. -/
def knotsBad : Nat → Nat → List (Word × Word) → Bool
  | _, _, [] => false
  | s, t, (a, b) :: rest => decide (b.toNat ≤ t) || decide (a.toNat < s) || knotsBad a.toNat b.toNat rest

/-- Whether the segment elements join end to end and each may be used by the class (rule R302). -/
def segsBad (m : AMap Nat) (cls : Nat) : Option Nat → List (Fin 16384 × Bool) → Bool
  | _, [] => false
  | at_, (i, rev) :: t =>
    let g := segAt m i.val
    let a := if rev then g.nodeB else g.nodeA
    let b := if rev then g.nodeA else g.nodeB
    !g.valid || bits g.flags 2 1 == 1 || (rev && bits g.flags 1 1 == 1) || bits g.mask cls 1 == 0
      || (match at_ with | none => false | some n => n != a) || segsBad m cls (some b) t

/-- The lowest speed limit of the pieces a stretch spans, from `lo` to `hi` in 2⁻¹⁶ mm. -/
def lowestLimit (lo hi : Nat) : Nat → List Piece → Option Nat
  | _, [] => none
  | base, p :: t =>
    let r := lowestLimit lo hi (base + p.len) t
    if base < hi ∧ lo < base + p.len then some (match r with | none => p.vmax | some v => min v p.vmax) else r

/-- Whether a knot pair's mean speed exceeds the lowest limit of what it spans (rules R271, R302). -/
def tooFast (ps : List Piece) (sOfs : Nat) : Nat → Nat → List (Word × Word) → Bool
  | _, _, [] => false
  | s, t, (a, b) :: rest =>
    (match lowestLimit ((sOfs + s) * 65536) ((sOfs + a.toNat) * 65536) 0 ps with
     | none => false
     | some v => decide ((a.toNat - s) * 1000 > v * (b.toNat - t)))
    || tooFast ps sOfs a.toNat b.toNat rest

/-- Whether a request breaks the BAD_FORMAT row (request check table). -/
def State.reqBad (s : State) (q : ReqPkt) : Bool :=
  let f := footAt s.trk.live q.cls.val
  let ps := pathPieces s.trk.live f.vmax q.path
  let segs := match q.path with | .segs l => l | .points _ => []
  q.rsv || !f.defined || decide (q.startMs.toNat ≥ s.slotMs) || decide (q.dwellEnd.toNat > 62)
    || decide (q.knots.length > 16) || (match q.path with | .segs l => decide (l.length > 472) | .points l => decide (l.length > 236))
    || knotsBad 0 0 q.knots || (pathCount q.path == 0 && !q.knots.isEmpty)
    || segsBad s.trk.live q.cls.val none segs
    || decide ((q.sOfs.toNat + lastS q.knots) * 65536 > pathLength ps) || tooFast ps q.sOfs.toNat 0 0 q.knots

/-- How a token check in raster order ends (rule R271). -/
inductive TokenEnd where
  | ok | blocked (cell slot : Nat) | conflict (cell slot holder : Nat)
  deriving DecidableEq, Repr

/-- Checks the tokens of a request, (slot offset, cell) in raster order, up to the first that fails; and counts the tokens checked. -/
def State.checkTokens (s : State) (robot start : Nat) : List (Nat × Nat) → TokenEnd × Nat
  | [] => (.ok, 0)
  | (k, c) :: t =>
    if s.cellBad c then (.blocked c (slotPlus start k), 1)
    else
      match (s.holderOf c (slotPlus start k)).filter fun r => r.robot != robot with
      | some r => (.conflict c (slotPlus start k) r.robot, 1)
      | none =>
        let e := State.checkTokens s robot start t
        (e.1, e.2 + 1)

/-- The tokens that nobody holds yet. -/
def State.newTokens (s : State) (start : Nat) (l : List (Nat × Nat)) : List (Nat × Nat) :=
  l.filter fun x => (s.holderOf x.2 (slotPlus start x.1)).isNone

/-- Extends the run of a cell that ends at offset k, or starts a new one: cell, first offset, length. -/
def addToken (k c : Nat) : List (Nat × Nat × Nat) → List (Nat × Nat × Nat)
  | [] => [(c, k, 1)]
  | (d, f, n) :: t => if d = c ∧ f + n = k then (d, f, n + 1) :: t else (d, f, n) :: addToken k c t

/-- Tokens in raster order grouped into runs. -/
def groupRuns (l : List (Nat × Nat)) : List (Nat × Nat × Nat) := l.foldl (fun acc x => addToken x.1 x.2 acc) []

/-- The lowest free entry of a cell's bucket (rule R264). -/
def freeEntry (runs : List Run) (cell : Nat) : Option Nat :=
  (List.range 8).find? fun e => !(runs.any fun r => r.cell % 2097152 == cell % 2097152 && r.entry == e)

/-- Writes runs into the holder table; answers the first (cell, offset) whose bucket is full. -/
def placeRuns (robot gslot start : Nat) (env : Bool) : List (Nat × Nat × Nat) → List Run → Except (Nat × Nat) (List Run)
  | [], acc => .ok acc
  | (c, k, n) :: t, acc =>
    match freeEntry acc c with
    | none => .error (c, k)
    | some e => placeRuns robot gslot start env t (acc ++ [⟨c, e, robot, slotPlus start k, n, gslot, true, env, none⟩])

/-- The lowest free grant slot of a robot (rules R265, R285). -/
def State.freeGrant (s : State) (r : Nat) : Option Nat :=
  (List.range 7).find? fun g => (AMap.find (8 * r + g) s.ldr.grants).isNone && !s.ldr.badGrant.contains (8 * r + g)

/-- What a request's decision answers: the fields of the grant record (rule R273). -/
structure GrantRec where
  status : Nat
  gslot  : Nat
  gid    : Nat
  first  : Nat
  last   : Nat
  tokens : Nat
  own    : Nat
  cCell  : Nat
  cSlot  : Nat
  holder : Nat
  deriving DecidableEq, Repr

/-- A refusal with no deciding token. -/
def GrantRec.refuse (st : Nat) : GrantRec := ⟨st, 0xFF, 0, 0, 0, 0, 0, 0, 0, 0xFF⟩

/-- Decides a request (rules R271, R272): the record, and the state with the grant made. -/
def State.decideReq (s : State) (q : ReqPkt) : GrantRec × State :=
  let r := q.lid.val
  let start := q.startSlot.toNat
  let v0 := firstFail
    [(decide (s.epo.mode0 ≠ .fleetRun) || s.epo.holdOwn.contains r, St.refusedMode),
     (s.on Reg.LDR_STATUS_AUDIT_LOCK, St.refusedLock),
     (s.reqBad q, St.badFormat),
     (q.badLen, St.badLength),
     (!laterEq start (slotPlus s.slotNow 1), St.stale)]
  if v0 ≠ St.done then (.refuse v0, s)
  else
    let last := finalSlot s.slotMs q + q.dwellEnd.toNat
    if slotDiff start s.slotNow + last > 62 then (.refuse 0x82, s)
    else if pathCount q.path = 0 ∧ (s.snapPos r).isNone then (.refuse St.stale, s)
    else
      let ra := s.raster q
      let tokens := ra.slots.flatMap fun x => x.2.map fun c => (x.1, c)
      let count := tokens.length
      if ra.off then (.refuse 0x83, s)
      else if count > s.rd Reg.LDR_REQ_CFG_MAX_TOKENS then (.refuse St.oversize, s)
      else match s.freeGrant r with
        | none => (.refuse 0x81, s)
        | some gs =>
          let ck := s.checkTokens r start tokens
          let t := s.wrapBy Reg.LDR_CHECKS ck.2
          match ck.1 with
          | .blocked c k => (⟨St.blocked, 0xFF, 0, 0, 0, 0, 0, c, k, 0xFF⟩, t)
          | .conflict c k h => (⟨St.conflict, 0xFF, 0, 0, 0, 0, 0, c, k, h⟩, t)
          | .ok =>
            let fresh := t.newTokens start tokens
            let n := fresh.length
            match placeRuns r gs start false (groupRuns fresh) t.ldr.runs with
            | .error (c, k) => (⟨0x80, 0xFF, 0, 0, 0, 0, 0, c, slotPlus start k, 0xFF⟩, t.fault Reg.LDR_FAULT_HOLDER_FULL)
            | .ok runs =>
              let ks := fresh.map (·.1)
              if n = 0 then (⟨St.done, 0xFF, 0, 0, 0, 0, count, 0, 0, 0xFF⟩, t)
              else
                let gid := (t.ldr.grantId + 1) % 4294967296
                let u := { t with ldr := { t.ldr with runs := runs, grantId := gid,
                                                      grants := AMap.set (8 * r + gs) ⟨q, gid, true⟩ t.ldr.grants } }
                (⟨St.done, gs, gid, slotPlus start (ks.headD 0), slotPlus start (ks.getLastD 0), n, count - n, 0, 0, 0xFF⟩,
                 (u.addTo Reg.LDR_PENDING n).takeFrom Reg.LDR_FREE n)

/-- The bytes of a grant record (rule R273). -/
def grantBytes (q : ReqPkt) (epoch : Nat) (g : GrantRec) : List Nat :=
  [0x11, q.lid.val, g.status, g.gslot] ++ le 4 q.reqId.toNat ++ le 4 g.gid ++ le 4 epoch ++ le 4 g.first ++ le 4 g.last
    ++ le 4 g.tokens ++ le 4 g.own ++ le 4 g.cCell ++ le 4 g.cSlot ++ [g.holder] ++ List.replicate 7 0

/-- The GRANT body (rule R406). -/
def grantBody (opId : Nat) (g : GrantRec) : List Nat :=
  [g.status, g.gslot, g.holder, 0] ++ le 4 opId ++ le 4 g.gid ++ le 4 g.first ++ le 4 g.last ++ le 4 g.tokens
    ++ le 4 g.cCell ++ le 4 g.cSlot

/-- The REPLY body (rule R407). -/
def replyBody (status forType forId result : Nat) : List Nat := [status, forType, 0, 0] ++ le 4 forId ++ le 4 result ++ le 4 0

/-- The decision pair answers a robot operation of the epoch and keeps the answer of the last OP_ID (rule R402). -/
def State.answer (s : State) (lid opId typ : Nat) (body : List Nat) : State :=
  let keep := match AMap.find lid s.zyp.ops with | some k => later k.opId opId | none => false
  let t := { s with epo := { s.epo with outs := s.epo.outs ++ [⟨typ, lid, body⟩] } }
  if keep then t else { t with zyp := { t.zyp with ops := AMap.set lid ⟨opId, typ, body⟩ t.zyp.ops } }

/-- Counts a decided request and sends its grant record and GRANT. -/
def State.grantOut (s : State) (q : ReqPkt) (g : GrantRec) : State :=
  let t := s.wrapBy Reg.LDR_REQ_COUNT 1
  let u := if g.status = St.done then { t with ldr := { t.ldr with doneNow := insertNat q.lid.val t.ldr.doneNow } } else t.bump Reg.LDR_REQ_REFUSED Reg.LDR_FAULT_CNT_SAT
  (u.record 1 36 (grantBytes q (s.rd Reg.GLB_EPOCH) g)).answer q.lid.val q.reqId.toNat 0x12 (grantBody q.reqId.toNat g)

/-- Bytes of a request packet (rule R267). -/
def reqBytes (q : ReqPkt) : List Nat :=
  let kind := match q.path with | .segs _ => 0 | .points _ => 1
  let elems := match q.path with
    | .segs l => l.flatMap fun e => le 4 (e.1.val + 16384 * bit e.2)
    | .points l => l.flatMap fun p => le 4 p.1.toNat ++ le 4 p.2.toNat
  [0x10, q.lid.val, q.cls.val, kind] ++ le 4 q.reqId.toNat ++ le 4 q.startSlot.toNat ++ le 2 q.startMs.toNat
    ++ [q.dwellEnd.toNat, q.knots.length] ++ le 2 (pathCount q.path) ++ le 2 0 ++ le 4 q.sOfs.toNat ++ le 8 0
    ++ (q.knots.flatMap fun k => le 4 k.1.toNat ++ le 4 k.2.toNat) ++ elems

/-- Bytes of a release packet (rule R275). -/
def relBytes (r : RelPkt) : List Nat :=
  [0x12, r.lid.val, r.mode.toNat, r.gslot.toNat] ++ le 4 r.grantId.toNat ++ le 4 r.fromSlot.toNat ++ le 4 (bit r.rsv)

/-- Bytes of an envelope command (rule R279). -/
def envBytes (e : EnvCmd) : List Nat :=
  [0x14, e.lid, e.gslot, bit e.fin] ++ le 4 e.epoch ++ le 4 e.sFrom ++ le 4 e.sTo ++ le 8 0

/-- The kind of a piece of work: 0 release, 1 envelope, 2 request, the order of rule R282. -/
def LdrWork.kind : LdrWork → Nat
  | .release _ _ _ => 0
  | .envelope _ => 1
  | .request _ => 2

/-- The next work of a kind, when no work of an earlier kind waits (rule R282), and the rest. -/
def State.nextWork (s : State) (k : Nat) : Option (LdrWork × List LdrWork) :=
  if !s.epo.decided || s.epo.work.any (fun w => decide (w.kind < k)) then none
  else match s.epo.work.find? (fun w => w.kind == k) with
    | none => none
    | some w => some (w, s.epo.work.erase w)

/-- LARDER_REQUEST (rules R271 to R273): the next request of the epoch. -/
def larderRequestOp (s : State) : State :=
  match s.nextWork 2 with
  | some (.request q, rest) =>
    let t := { s with epo := { s.epo with work := rest } }.consume 34 (toWords (reqBytes q))
    let r := t.decideReq q
    r.2.grantOut q r.1
  | _ => s

/-- Answers a request BUSY (rule R274). -/
def State.defer (s : State) (w : LdrWork) : State :=
  match w with
  | .request q =>
    let t := s.consume 34 (toWords (reqBytes q))
    ((t.bump Reg.LDR_REQ_DEFERRED Reg.LDR_FAULT_CNT_SAT).fault Reg.LDR_FAULT_DEFERRED).grantOut q (.refuse St.busy)
  | _ => s

/-- REQUEST_DEFER_CUTOFF (rule R274). -/
def requestDeferCutoffOp (s : State) : State :=
  let late := s.epo.work.filter fun w => w.kind == 2
  let t := { s with epo := { s.epo with work := s.epo.work.filter fun w => w.kind != 2 } }
  late.foldl State.defer t

/-! ## Releases (rules R275, R276) -/

/-- Whether the Larder runs releases in this mode (Larder mode table). -/
def State.runsReleases (s : State) : Bool := s.mode.fleet

/-- Marks the HELD tokens of a run from a slot on as released by this epoch, beside those marked already. -/
def Run.release (from_ : Nat) (r : Run) : Run :=
  { r with rel := match r.rel with | some f => some (if laterEq from_ f then f else from_) | none => some from_ }

/-- Tokens of a run that are marked as released. -/
def Run.marked (now : Nat) (r : Run) : Nat := match r.rel with | some f => r.tokensFrom now f | none => 0

/-- Tokens a release marks anew. -/
def releasedNow (now from_ : Nat) (rs : List Run) : Nat := (rs.map fun r => (r.release from_).marked now - r.marked now).sum

/-- The status, the tokens and the state after a release packet's decision. -/
def State.decideRelease (s : State) (p : RelPkt) : Nat × Nat × State :=
  let next := slotPlus s.slotNow 1
  let from_ := if p.mode = 2 ∧ laterEq p.fromSlot.toNat next then p.fromSlot.toNat else next
  let hit := fun (r : Run) =>
    r.robot == p.lid.val && !r.pending && (p.mode != 1 || r.gslot == p.gslot.toNat)
  let v := firstFail
    [(p.rsv || decide (p.mode.toNat > 2) || decide (p.gslot.toNat > 6), St.badFormat),
     (!s.epo.mode0.fleet, St.refusedMode),
     (decide (p.mode = 1) && !(match AMap.find (8 * p.lid.val + p.gslot.toNat) s.ldr.grants with
                                | some g => g.grantId == p.grantId.toNat | none => false), St.conflict)]
  if v ≠ St.done then (v, 0, s)
  else
    (St.done, releasedNow s.slotNow from_ (s.ldr.runs.filter hit),
     { s with ldr := { s.ldr with runs := s.ldr.runs.map fun r => if hit r then r.release from_ else r } })

/-- The result of the first epoch input of a list that asked this release and has none. -/
def noteRelease (p : RelPkt) (v : HostResult) : List EpochInput → List EpochInput
  | [] => []
  | e :: t => if e.kind = .release p ∧ e.res = none then { e with res := some v } :: t else e :: noteRelease p v t

/-- LARDER_RELEASE (rule R275): the next release of the epoch. -/
def larderReleaseOp (s : State) : State :=
  match s.nextWork 0 with
  | some (.release p src opId, rest) =>
    let t := { s with epo := { s.epo with work := rest } }.consume 35 (toWords (relBytes p))
    let (v, n, u) := t.decideRelease p
    let w := u.record 1 36 ([0x13, p.lid.val, v, p.mode.toNat] ++ le 4 (s.rd Reg.GLB_EPOCH) ++ le 4 n ++ le 4 0)
    if src = 1 then { w with epo := { w.epo with taken := noteRelease p ⟨v, 0, n⟩ w.epo.taken } }
    else if src = 0 then w.answer p.lid.val opId 0x13 (replyBody v 4 opId n)
    else w
  | _ => s

/-! ## Stop envelopes (rules R279 to R281) -/

/-- The poses of a stretch of a path, its straight extension beyond the end included. -/
def stretchPoses (s : Nat) (ps : List Piece) (a b : Nat) : List Pose :=
  let total := pathLength ps
  let js := (joints 0 ps).filter fun j => decide (a * 65536 ≤ j ∧ j ≤ b * 65536)
  let ds := refine s ((js.map (fun j => (j, 65536)) ++ [(b, 1)]).foldl (fun l d => insertDist d l) [(a, 1)])
  ds.flatMap fun d =>
    if d.1 * 65536 ≤ total * d.2 then posesAt d.1 d.2 0 ps
    else match ps.getLast? with
      | none => []
      | some p =>
        match (p.pose p.len 65536).dir with
        | none => []
        | some v =>
          let ovr := d.1 * 65536 - total * d.2
          let den : Nat := d.2 * 65536
          [⟨p.b.1 * den * unit30 + ovr * v.1, p.b.2 * den * unit30 + ovr * v.2, den, some v⟩]

/-- The cells of an envelope: the footprint at every pose of the stretch along the grant's path. -/
def State.envCells (s : State) (q : ReqPkt) (a b : Nat) : List Nat :=
  let g := s.grid
  let f := footAt s.trk.live q.cls.val
  let r := grown f (s.rd Reg.LDR_REQ_CFG_MARGIN_MM) g.s
  let ps := pathPieces s.trk.live f.vmax q.path
  let poses := if ps.isEmpty then standPose q (s.snapPos q.lid.val) else stretchPoses g.s ps a b
  (cellsOf g r poses).1

/-- Adds the tokens of an envelope one by one: FREE ones are taken, the robot's own are left, BLOCKED ones skipped, and
other holders are marked. -/
def State.envTokens (s : State) (robot : Nat) (grant : Bool) : List (Nat × Nat) → List (Nat × Nat) → List Nat → List (Nat × Nat) × List Nat
  | [], taken, marked => (taken, marked)
  | (k, c) :: t, taken, marked =>
    if s.cellBad c then State.envTokens s robot grant t taken marked
    else match s.holderOf c (slotPlus s.slotNow k) with
      | some r => State.envTokens s robot grant t taken (if r.robot = robot then marked else insertNat r.robot marked)
      | none => State.envTokens s robot grant t (if grant then taken ++ [(k, c)] else taken) marked

/-- Places the runs of an envelope; a run that does not fit in its bucket is passed over. -/
def placeEnv (robot start : Nat) : List (Nat × Nat × Nat) → List Run → List Run × Nat
  | [], acc => (acc, 0)
  | (c, k, n) :: t, acc =>
    match freeEntry acc c with
    | none => placeEnv robot start t acc
    | some e =>
      let r := placeEnv robot start t (acc ++ [⟨c, e, robot, slotPlus start k, n, 7, true, true, none⟩])
      (r.1, r.2 + n)

/-- A robot set as 32 bytes. -/
def maskBytes (l : List Nat) : List Nat :=
  (List.range 32).map fun b => ((List.range 8).map fun i => if l.contains (8 * b + i) then 2 ^ i else 0).sum

/-- Own STOPs of the robots an envelope marks, seen by the requests of the epoch (rules R271, R280). -/
def State.stopMarked (s : State) (l : List Nat) : State :=
  l.foldl (fun t r =>
    let u := t.raiseOwn r true (Reg.TRP_ROBOT_ENVELOPE r)
    { u with epo := { u.epo with holdOwn := u.epo.holdOwn ++ [r] } }) s

/-- ENVELOPE_COMMAND (rules R279 to R281): the next envelope command of the epoch. -/
def envelopeCommandOp (s : State) : State :=
  match s.nextWork 1 with
  | some (.envelope e, rest) =>
    let t := { s with epo := { s.epo with work := rest } }.consume 34 (toWords (envBytes e))
    let now1 := slotPlus t.slotNow 1
    let record := fun (u : State) (st n : Nat) (marked : List Nat) =>
      u.record 1 36 ([0x16, e.lid, st, 0] ++ le 4 e.epoch ++ le 4 n ++ le 4 0 ++ maskBytes marked)
    let mine := fun (r : Run) => r.robot == e.lid && r.env && !r.pending
    if e.fin then
      let u := if t.epo.mode0.fleet then
          { t with ldr := { t.ldr with runs := t.ldr.runs.map fun r => if mine r then r.release now1 else r } } else t
      record u St.done 0 []
    else match AMap.find (8 * e.lid + e.gslot) t.ldr.grants with
      | none => record t St.badFormat 0 []
      | some g =>
        let cells := t.envCells g.req e.sFrom e.sTo
        let grant := decide (t.epo.mode0 = .fleetRun)
        let past := slotPlus now1 (t.rd Reg.LDR_ENV_CFG)
        let tokens := (List.range (t.rd Reg.LDR_ENV_CFG)).flatMap fun k => cells.map fun c => (k + 1, c)
        let r := t.envTokens e.lid grant tokens [] []
        let placed := placeEnv e.lid t.slotNow (groupRuns r.1) t.ldr.runs
        let u :=
          if grant then
            let v := { t with ldr := { t.ldr with
              runs := placed.1.map fun x =>
                if !mine x then x
                else if !cells.contains x.cell then x.release now1
                else if x.tokensFrom t.slotNow past = 0 then x else x.release past,
              envFrom := AMap.set e.lid e.gslot t.ldr.envFrom } }
            (v.addTo Reg.LDR_PENDING placed.2).takeFrom Reg.LDR_FREE placed.2
          else t
        let w := record u St.done (if grant then placed.2 else 0) r.2
        let x := w.stopMarked r.2
        let y := x.raiseOwn e.lid false (Reg.TRP_ROBOT_COAST e.lid)
        { y with epo := { y.epo with holdOwn := y.epo.holdOwn ++ [e.lid] } }
  | _ => s

/-! ## Commit, abandonment and expiry (rules R276 to R278, R283) -/

/-- What is left of a run after a release from a slot on. -/
def Run.cut (now from_ : Nat) (r : Run) : Option Run :=
  let back := slotPlus now 4294967232
  let a := slotDiff r.first back
  let b := slotDiff from_ back
  if b ≤ a then none else some { r with len := min r.len (b - a), rel := none }

/-- Blocks one cell at the commit (rules R283, R284): the holders behind a bad bucket cannot be known, and none is shown LOST. -/
def State.blockCell (s : State) (q : Quar) : State :=
  let now := s.slotNow
  let mine := s.ldr.runs.filter fun r => r.cell == q.cell
  let held := (mine.map (Run.tokensFrom now now)).sum
  let t := if q.bucket then s else mine.foldl (fun u r => u.wr (Reg.LDR_ROBOT_LOST r.robot) 1) s
  if s.ldr.blocked.contains q.cell then s
  else
    let u := { t with ldr := { t.ldr with runs := t.ldr.runs.filter (fun r => r.cell != q.cell), blocked := insertNat q.cell t.ldr.blocked } }
    let v := ((u.takeFrom Reg.LDR_HELD held).takeFrom Reg.LDR_FREE (64 - held)).addTo Reg.LDR_BLOCKED_CELLS 1
    (v.wrapBy Reg.LDR_RELEASED held).bumpBy Reg.LDR_FORCED Reg.LDR_FAULT_CNT_SAT held

/-- The Larder's part of an epoch commit (rules R276, R277, R283). -/
def State.ldrCommit (s : State) : State :=
  let now := s.slotNow
  let rel := (s.ldr.runs.map (Run.marked now)).sum
  let pend := s.rd Reg.LDR_PENDING
  let t := ((s.wrapBy Reg.LDR_RELEASED rel).takeFrom Reg.LDR_HELD rel).addTo Reg.LDR_FREE rel
  let u := ((t.wrapBy Reg.LDR_GRANTED pend).addTo Reg.LDR_HELD pend).wr Reg.LDR_PENDING 0
  let runs := u.ldr.runs.filterMap fun r => match r.rel with | none => some { r with pending := false } | some f => r.cut now f
  let grants := u.ldr.grants.map fun (k, g) => (k, { g with fresh := false })
  let v := ({ u with ldr := { u.ldr with runs := runs, grants := grants, grantId0 := u.ldr.grantId, doneNow := [] } }).wrAll 0
    (u.ldr.doneNow.map Reg.LDR_ROBOT_LOST)
  let w := (v.ldr.quar.filter (·.ready)).foldl State.blockCell v
  let x := { w with ldr := { w.ldr with quar := w.ldr.quar.filter (fun q => !q.ready) } }
  x.dropGrants.showRobots

/-- The Larder's part of an abandoned epoch (rule R277): every change is undone and no counter moves. -/
def State.ldrAbandon (s : State) : State :=
  let pend := s.rd Reg.LDR_PENDING
  let t := (s.addTo Reg.LDR_FREE pend).wr Reg.LDR_PENDING 0
  { t with ldr := { t.ldr with
      runs := (t.ldr.runs.filter (fun r => !r.pending)).map fun r => { r with rel := none },
      grants := t.ldr.grants.filter (fun (_, g) => !g.fresh), grantId := t.ldr.grantId0, doneNow := [],
      quar := t.ldr.quar.map fun q => { q with ready := false } } }

/-- The slot number of a yard time (rule R261). -/
def slotOf (ms : Nat) (t : YTime) : Nat := (t.sec * 1000 + t.ns / 1000000) / ms % 4294967296

/-- Slot a opens (rule R278): the passed slots' HELD tokens become EXPIRED and the sweep starts. -/
def State.expireTo (s : State) (a : Nat) : State :=
  let old := s.slotNow
  if a = old then s
  else
    let late := s.on Reg.LDR_STATUS_SWEEPING
    let gone := (s.ldr.runs.map fun r => r.tokensFrom old old - r.tokensFrom old a).sum
    let t := (((s.wr Reg.LDR_SLOT_NOW a).wr Reg.LDR_STATUS_SLOT_POS (a % 64)).wr Reg.LDR_STATUS_SWEEPING 1).wrapBy Reg.LDR_EXPIRED gone
    let u := ((t.takeFrom Reg.LDR_HELD gone).addTo Reg.LDR_FREE gone).showRobots
    if late then { u with ldr := { u.ldr with late := true } }.fault Reg.LDR_FAULT_SWEEP_LATE else u

/-- SLOT_EXPIRY, at a boundary that opens a new slot. A rejoining unit that still replays passes the slots of its replay. -/
def slotExpiryOp (s : State) : State :=
  let replays := s.mode == .rejoin && (s.rd Reg.FJR_STATUS_REJOIN_STATE == 2 || s.rd Reg.FJR_STATUS_REJOIN_STATE == 3)
  if replays then s else s.expireTo (slotOf s.slotMs s.now)

/-- What the sweep leaves of a run. -/
def Run.sweep (now : Nat) (r : Run) : Option Run :=
  let n := slotDiff now r.first
  if n < 2147483648 then (if r.len ≤ n then none else some { r with first := now, len := r.len - n }) else some r

/-- SWEEP_COMPLETE (rule R278). -/
def sweepCompleteOp (s : State) : State :=
  if !s.on Reg.LDR_STATUS_SWEEPING then s
  else
    let t := { s with ldr := { s.ldr with runs := s.ldr.runs.filterMap (Run.sweep s.slotNow) } }.wr Reg.LDR_STATUS_SWEEPING 0
    t.dropGrants.showRobots

/-- Every token goes at once, the current slot included (rules R64, R290): all of them, or one robot's. -/
def State.releaseAll (s : State) (r : Option Nat) : State :=
  let mine := fun (x : Run) => match r with | none => true | some n => x.robot == n
  let n := ((s.ldr.runs.filter mine).map (Run.tokensFrom s.slotNow s.slotNow)).sum
  let t := { s with ldr := { s.ldr with runs := s.ldr.runs.filter fun x => !mine x } }
  (((t.wrapBy Reg.LDR_RELEASED n).takeFrom Reg.LDR_HELD n).addTo Reg.LDR_FREE n).dropGrants.showRobots

/-! ## Quarantine, recounts and the audit (rules R283 to R289) -/

/-- The cells of the map that share a cell's bucket. -/
def State.bucketCells (s : State) (cell : Nat) : List Nat :=
  ((List.range 4).map fun i => cell % 2097152 + i * 2097152).filter fun c => decide (c < s.cellCount)

/-- CELL_QUARANTINE (rules R283, R284): an uncorrectable map word, or bucket, of a cell. The Memory Controller counts the
read itself (MEM_UNCORRECTABLE). -/
def cellQuarantineOp (cell : Nat) (bucket : Bool) (s : State) : State :=
  let cells := if bucket then s.bucketCells cell else [cell]
  let new := (cells.filter fun c => !s.cellBad c).map fun c => (⟨c, bucket, false⟩ : Quar)
  let t := { s with ldr := { s.ldr with quar := s.ldr.quar ++ new } }
  if bucket then (t.fault Reg.LDR_FAULT_HOLD_ECC).raiseFleet false Reg.TRP_HOLD_CAUSE_MEM_ECC
  else
    let holders := (t.ldr.runs.filter fun r => r.cell == cell).foldl (fun l r => insertNat r.robot l) []
    holders.foldl (fun u r => u.raiseOwn r false (Reg.TRP_ROBOT_MAP_LOST r)) (t.fault Reg.LDR_FAULT_MAP_ECC)

/-- The relations of rule R287. -/
def State.relationsHold (s : State) : Bool :=
  s.rd Reg.LDR_FREE + s.rd Reg.LDR_HELD + s.rd Reg.LDR_PENDING + 64 * s.rd Reg.LDR_BLOCKED_CELLS == 64 * s.cellCount
    && s.rd Reg.LDR_HELD == (s.rd Reg.LDR_GRANTED + 2 * 2 ^ 64 - s.rd Reg.LDR_RELEASED - s.rd Reg.LDR_EXPIRED) % 2 ^ 64

/-- SCRUB_RECOUNT (rule R288): the walk's share of the map; a mismatch goes into the next audit record. -/
def scrubRecountOp (mismatch : Bool) (s : State) : State :=
  if mismatch then { s with ldr := { s.ldr with scrubBad := true } }.fault Reg.LDR_FAULT_RECOUNT else s

/-- The Larder audit of an epoch (rules R22, R287, R289): the audit record, and on a fault the lock and fleet HOLD. Where several kinds
of mismatch hold at once RESULT shows a late sweep first, then a recount, then the relations: DESIGN CHOICE (log entry 66). -/
def State.ldrAudit (s : State) : State :=
  let res := if s.ldr.late then 3 else if s.ldr.scrubBad then 2 else if s.relationsHold then 0 else 1
  let e := s.rd Reg.GLB_EPOCH
  let t := s.record 1 37 ([0x15, res] ++ le 2 0 ++ le 4 e ++ le 8 (s.rd Reg.LDR_GRANTED) ++ le 8 (s.rd Reg.LDR_RELEASED)
    ++ le 8 (s.rd Reg.LDR_EXPIRED) ++ le 4 (s.rd Reg.LDR_HELD) ++ le 4 (s.rd Reg.LDR_PENDING) ++ le 4 (s.rd Reg.LDR_FREE)
    ++ le 4 (s.rd Reg.LDR_BLOCKED_CELLS) ++ le 4 (s.rd Reg.LDR_FORCED) ++ le 4 s.slotNow ++ le 8 0)
  let u := { t with ldr := { t.ldr with late := false, scrubBad := false } }.wr Reg.LDR_AUDIT_EPOCH e
  if res = 0 then u
  else
    let v := if res = 1 then u.fault Reg.LDR_FAULT_AUDIT else u
    (v.wr Reg.LDR_STATUS_AUDIT_LOCK 1).raiseFleet false Reg.TRP_HOLD_CAUSE_AUDIT

/-- LARDER_AUDIT_CLEAR (rule R289). -/
def larderAuditClearOp (s : State) : State :=
  if s.on Reg.LDR_STATUS_RECOUNTING then s else (s.wr Reg.LDR_CTRL_RESULT St.pending).wr Reg.LDR_STATUS_RECOUNTING 1

/-- AUDIT_RECOUNT_DONE (rule R289): a clean recount that finds no token in HOSTED_IDLE rebases; elsewhere the relations must hold. -/
def auditRecountDoneOp (mismatch : Bool) (s : State) : State :=
  if !s.on Reg.LDR_STATUS_RECOUNTING then s
  else
    let t := s.wr Reg.LDR_STATUS_RECOUNTING 0
    let clear := fun (u : State) => ((u.wr Reg.LDR_STATUS_AUDIT_LOCK 0).wr Reg.TRP_HOLD_CAUSE_AUDIT 0).wr Reg.LDR_CTRL_RESULT St.done
    if mismatch then t.wr Reg.LDR_CTRL_RESULT St.conflict
    else if t.mode = .hostedIdle ∧ t.ldr.runs.all (fun r => r.tokensFrom t.slotNow t.slotNow == 0) then
      let mark := le 8 (t.rd Reg.LDR_GRANTED) ++ le 8 (t.rd Reg.LDR_RELEASED) ++ le 8 (t.rd Reg.LDR_EXPIRED)
      let u := t.tallyRecord 4 2 0 0 mark
      let v := (u.wr Reg.LDR_GRANTED (u.rd Reg.LDR_RELEASED + u.rd Reg.LDR_EXPIRED)).wr Reg.LDR_HELD 0
      clear ((v.wr Reg.LDR_PENDING 0).wr Reg.LDR_FREE (64 * v.cellCount - 64 * v.rd Reg.LDR_BLOCKED_CELLS))
    else if t.relationsHold then clear t
    else t.wr Reg.LDR_CTRL_RESULT St.conflict

/-! ## Host commands (rule R293) -/

/-- Hands a host command to the epochs: it joins the epoch of its descriptor's fetch, which may be the one in progress until its Release;
else it waits for the next (rules R106, R558). -/
def State.epochInput (s : State) (c : Cmd) (k : EpochKind) (data : List Nat := []) : State :=
  let e : EpochInput := ⟨some c, k, s.dsp.adm, false, none, data⟩
  if s.epo.opened && !s.epo.released && laterEq (s.rd Reg.GLB_EPOCH) (s.fetchEpoch c) then { s with epo := { s.epo with taken := s.epo.taken ++ [e] } }
  else { s with epo := { s.epo with host := s.epo.host ++ [e] } }

/-- The status and the effect of an UNBLOCK (rule R286). -/
def State.unblockNow (s : State) (cell : Nat) (clean : Bool) : Nat × State :=
  if cell ≥ s.cellCount then (St.badFormat, s)
  else if !s.ldr.blocked.contains cell then (St.conflict, s)
  else if !clean then (St.eccUncorrected, s)
  else
    let t := { s with ldr := { s.ldr with blocked := s.ldr.blocked.filter (· != cell) } }
    (St.done, (t.addTo Reg.LDR_FREE 64).takeFrom Reg.LDR_BLOCKED_CELLS 1)

/-- Whether this unit is a twin's standby or rejoins. -/
def State.follows (s : State) : Bool := s.mode == .twinStandby || s.mode == .rejoin

/-- UNBLOCK (rules R286, R293); `clean` is the outcome of the memory test. -/
def unblockOp (c : Cmd) (clean : Bool) (s : State) : State :=
  s.hostCmd c .command fun t =>
    if t.follows then t.finish c St.refusedMode 0 0
    else if c.desc.length ≠ 0 then t.finish c St.badLength 0 0
    else if bits c.desc.p0.toNat 23 9 ≠ 0 then t.finish c St.badFormat 0 0
    else if t.mode.commits then t.epochInput c (.unblock c.desc.p0.toNat clean)
    else
      let r := t.unblockNow c.desc.p0.toNat clean
      r.2.finish c r.1 0 0

/-- RELEASE (rule R293). -/
def larderHostReleaseOp (c : Cmd) (s : State) : State :=
  s.hostCmd c .command fun t =>
    let p0 := c.desc.p0.toNat
    let m := bits p0 8 2
    if t.follows then t.finish c St.refusedMode 0 0
    else if c.desc.length ≠ 0 then t.finish c St.badLength 0 0
    else if m = 1 ∨ m = 3 ∨ bits p0 10 22 ≠ 0 then t.finish c St.badFormat 0 0
    else if !t.runsReleases then t.finish c St.refusedMode 0 0
    else t.epochInput c (.release ⟨⟨bits p0 0 8, Nat.mod_lt _ (by decide)⟩, BitVec.ofNat 8 m, 0, 0, c.desc.p1, false⟩)

/-- The map word of a cell (rules R263, R266): bit j set when the slot at bit position j is not FREE. While the expiry sweep runs, the
position under sweep still shows the slot passed (log entry 39). -/
def State.mapWord (s : State) (cell : Nat) : Nat :=
  let set_ := fun (k : Nat) => (s.holderOf cell (slotPlus s.slotNow k)).isSome ||
    (k == 63 && s.on Reg.LDR_STATUS_SWEEPING && (s.holderOf cell (slotPlus s.slotNow 4294967295)).isSome)
  if s.ldr.blocked.contains cell then 18446744073709551615
  else ((List.range 64).map fun k => if set_ k then 2 ^ (slotPlus s.slotNow k % 64) else 0).sum

/-- The holder entry of a run (rule R264). -/
def Run.word (r : Run) : Nat :=
  r.cell + 2 ^ 23 + r.robot * 2 ^ 24 + r.first % 64 * 2 ^ 32 + r.len * 2 ^ 38 + r.gslot * 2 ^ 45 + bit r.pending * 2 ^ 48 + bit r.env * 2 ^ 49

/-- The bucket of a cell (rule R264): eight entries, those not in use zero. -/
def State.bucketBytes (s : State) (cell : Nat) : List Nat :=
  (List.range 8).flatMap fun e =>
    le 8 (match s.ldr.runs.find? fun (r : Run) => r.cell % 2097152 == cell % 2097152 && r.entry == e with
      | some r => r.word
      | none => 0)

/-- What CELL_READ returns of a cell: map word, flags and bucket (rule R293). -/
def State.cellBytes (s : State) (cell : Nat) : List Nat :=
  le 8 (s.mapWord cell) ++ le 8 (bit (s.ldr.blocked.contains cell) + 2 * bit (s.ldr.quar.any (·.cell == cell))) ++ s.bucketBytes cell

/-- CELL_READ (rule R293): the data goes to host memory. -/
def cellReadOp (c : Cmd) (s : State) : State :=
  s.hostCmd c .dataOut fun t =>
    if t.follows then t.finish c St.refusedMode 0 0
    else if c.desc.length ≠ 80 then t.finish c St.badLength 0 0
    else if bits c.desc.p0.toNat 23 9 ≠ 0 then t.finish c St.badFormat 0 0
    else t.finishData c (t.cellBytes (bits c.desc.p0.toNat 0 23))

/-! ## Commits (rules R295, R296) -/

/-- Epoch length in ms by GLB_CFG code (rule R13). -/
def epochLength (c : Nat) : Nat := match c with | 0 => 25 | 1 => 50 | _ => 100

/-- Epoch length in force. -/
def State.epochMs (s : State) : Nat := epochLength (s.rd Reg.GLB_CFG_EPOCH_LEN)

/-- The members of group MAP. -/
def mapGroup : List Fld :=
  [Reg.LDR_MAP_GEOM_WX, Reg.LDR_MAP_GEOM_HY, Reg.LDR_MAP_GEOM_CELL, Reg.LDR_MAP_GEOM_SLOT, Reg.LDR_MAP_X0, Reg.LDR_MAP_Y0,
   Reg.LDR_MAP_BASE_ADDR, Reg.LDR_HOLD_BASE_ADDR, Reg.LDR_GRANT_BASE_ADDR]

/-- Whether two address ranges meet. -/
def overlap (a n b m : Nat) : Bool := decide (a < b + m ∧ b < a + n)

/-- COMMIT of group MAP (rule R295). -/
def mapCommitOp (s : State) : State :=
  let wx := s.sh Reg.LDR_MAP_GEOM_WX
  let hy := s.sh Reg.LDR_MAP_GEOM_HY
  let sl := s.sh Reg.LDR_MAP_GEOM_SLOT
  let m := s.sh Reg.LDR_MAP_BASE_ADDR
  let h := s.sh Reg.LDR_HOLD_BASE_ADDR
  let g := s.sh Reg.LDR_GRANT_BASE_ADDR
  let v := firstFail
    [(s.mode.fleet || s.follows, St.refusedMode),
     (decide (s.rd Reg.LDR_HELD ≠ 0 ∨ s.rd Reg.LDR_PENDING ≠ 0), St.busy),
     (decide (wx < 6 ∨ wx > 17 ∨ hy < 6 ∨ hy > 17 ∨ wx + hy > 23 ∨ sl = 7 ∨ slotLength sl % s.epochMs ≠ 0), St.badFormat),
     (decide (m % 67108864 ≠ 0 ∨ h % 134217728 ≠ 0 ∨ g % 4194304 ≠ 0), St.badFormat),
     (decide (m + 67108864 > s.board.lpddr ∨ h + 134217728 > s.board.lpddr ∨ g + 4194304 > s.board.lpddr), St.badFormat),
     (overlap m 67108864 h 134217728 || overlap m 67108864 g 4194304 || overlap h 134217728 g 4194304, St.badFormat)]
  if s.isPending Reg.LDR_MAP_COMMIT_RESULT then s.wr Reg.LDR_MAP_COMMIT_RESULT St.busy
  else if v = St.done then s.setPending Reg.LDR_MAP_COMMIT_RESULT
  else s.wr Reg.LDR_MAP_COMMIT_RESULT v

/-- The blocked map words by address: those of the map in force, and those beyond it. -/
def State.blockedWords (s : State) : List Nat :=
  s.ldr.blocked.map (fun c => s.rd Reg.LDR_MAP_BASE_ADDR + 8 * c) ++ s.ldr.badWords

/-- Blocked map words fall to the cells that the map in force keeps in them (rule R295). -/
def State.mapWords (s : State) (words : List Nat) : State :=
  let base := s.rd Reg.LDR_MAP_BASE_ADDR
  let holds := fun (a : Nat) => decide (base ≤ a ∧ a < base + 8 * s.cellCount)
  { s with ldr := { s.ldr with
      blocked := (words.filter holds).foldl (fun (l : List Nat) a => insertNat ((a - base) / 8) l) [], badWords := words.filter fun a => !holds a } }

/-- MAP_APPLY (rule R295): at the next whole second every cell becomes FREE but for the blocked memory words. -/
def mapApplyOp (s : State) : State :=
  if !s.isPending Reg.LDR_MAP_COMMIT_RESULT then s
  else
    let t := s.endPending Reg.LDR_MAP_COMMIT_RESULT mapGroup St.done
    let u := { t with ldr := { t.ldr with runs := [], grants := [] } }.mapWords s.blockedWords
    let b := u.ldr.blocked
    ((((u.wr Reg.LDR_BLOCKED_CELLS b.length).wr Reg.LDR_FREE (64 * u.cellCount - 64 * b.length)).wr Reg.LDR_SLOT_NOW
      (slotOf u.slotMs u.now)).wr Reg.LDR_STATUS_SLOT_POS (slotOf u.slotMs u.now % 64)).wr Reg.LDR_STATUS_MAP_READY 1 |>.showRobots

/-- COMMIT of group RULES (rule R296): it takes effect at the next epoch boundary. -/
def rulesCommitOp (s : State) : State :=
  let v := firstFail
    [(decide (s.sh Reg.LDR_REQ_CFG_MARGIN_MM > 1000 ∨ s.sh Reg.LDR_REQ_CFG_MAX_TOKENS = 0), St.badFormat),
     (decide (s.sh Reg.LDR_ENV_CFG = 0 ∨ s.sh Reg.LDR_ENV_CFG > 62), St.badFormat),
     (decide (s.sh Reg.LDR_SCRUB_CFG < 10 ∨ s.sh Reg.LDR_SCRUB_CFG > 600), St.badFormat)]
  if s.isPending Reg.LDR_RULES_COMMIT_RESULT then s.wr Reg.LDR_RULES_COMMIT_RESULT St.busy
  else if v = St.done then s.setPending Reg.LDR_RULES_COMMIT_RESULT
  else s.wr Reg.LDR_RULES_COMMIT_RESULT v

/-- A RULES commit takes effect at an epoch boundary. -/
def State.rulesApply (s : State) : State :=
  if s.isPending Reg.LDR_RULES_COMMIT_RESULT then
    s.endPending Reg.LDR_RULES_COMMIT_RESULT
      [Reg.LDR_REQ_CFG_MARGIN_MM, Reg.LDR_REQ_CFG_MAX_TOKENS, Reg.LDR_ENV_CFG, Reg.LDR_SCRUB_CFG] St.done
  else s

/-- PFAIL handling has frozen the Larder (rule R73): no token changes hands any more. -/
def State.ldrFrozen (s : State) : Bool := s.pwr.pfailLatched && decide (s.rd Reg.CLK_LAST_MODE_PFAIL_STAGE ≥ 3)

/-- A step that needs the Larder. -/
def State.unlessFrozen (s : State) (body : State → State) : State := if s.ldrFrozen then s else body s

/-! ## Meanings -/

/-- Meaning of LARDER_REQUEST. -/
def execLarderRequest (s : State) : Out := .next (s.whenMain fun t => t.unlessFrozen larderRequestOp)
/-- Meaning of REQUEST_DEFER_CUTOFF. -/
def execRequestDeferCutoff (s : State) : Out := .next (s.whenMain fun t => t.unlessFrozen requestDeferCutoffOp)
/-- Meaning of LARDER_RELEASE. -/
def execLarderRelease (s : State) : Out := .next (s.whenMain fun t => t.unlessFrozen larderReleaseOp)
/-- Meaning of ENVELOPE_COMMAND. -/
def execEnvelopeCommand (s : State) : Out := .next (s.whenMain fun t => t.unlessFrozen envelopeCommandOp)
/-- Meaning of SLOT_EXPIRY. -/
def execSlotExpiry (s : State) : Out := .next (s.whenMain fun t => t.unlessFrozen slotExpiryOp)
/-- Meaning of SWEEP_COMPLETE. -/
def execSweepComplete (s : State) : Out := .next (s.whenMain fun t => t.unlessFrozen sweepCompleteOp)
/-- Meaning of CELL_QUARANTINE. -/
def execCellQuarantine (cell : BitVec 23) (bucket : Bool) (s : State) : Out :=
  .next (s.whenMain (cellQuarantineOp cell.toNat bucket))
/-- Meaning of SCRUB_RECOUNT. -/
def execScrubRecount (mismatch : Bool) (s : State) : Out := .next (s.whenMain (scrubRecountOp mismatch))
/-- Meaning of LARDER_AUDIT_CLEAR. -/
def execLarderAuditClear (s : State) : Out := .next (s.whenMain larderAuditClearOp)
/-- Meaning of AUDIT_RECOUNT_DONE. -/
def execAuditRecountDone (mismatch : Bool) (s : State) : Out := .next (s.whenMain (auditRecountDoneOp mismatch))
/-- Meaning of UNBLOCK. -/
def execUnblock (c : Cmd) (clean : Bool) (s : State) : Out := .next (s.whenMain (unblockOp c clean))
/-- Meaning of LARDER_HOST_RELEASE. -/
def execLarderHostRelease (c : Cmd) (s : State) : Out := .next (s.whenMain (larderHostReleaseOp c))
/-- Meaning of CELL_READ. -/
def execCellRead (c : Cmd) (s : State) : Out := .next (s.whenMain (cellReadOp c))
/-- Meaning of MAP_COMMIT. -/
def execMapCommit (s : State) : Out := .next (s.whenMain mapCommitOp)
/-- Meaning of MAP_APPLY. -/
def execMapApply (s : State) : Out := .next (s.whenMain mapApplyOp)
/-- Meaning of RULES_COMMIT. -/
def execRulesCommit (s : State) : Out := .next (s.whenMain rulesCommitOp)

end Sys2Proof.Machine
end

