-- ==== Sys2Proof/Machine/Tracks.lean ====
section
/-! DEFINITION. Track table and task machines (chapter 13): validation and commit of the fleet tables, task events,
timeouts and forced moves, the task audit and the host commands. -/

namespace Sys2Proof.Machine

/-! ## Tables -/

/-- A task entry (rule R307). -/
structure TaskEntry where
  valid : Bool
  start : Nat
  src   : Nat
  dst   : Nat
  mask  : Nat
  rsv   : Bool
  deriving DecidableEq, Repr

/-- Task t of a bank. -/
def taskAt (m : AMap Nat) (t : Nat) : TaskEntry :=
  let o := 0xB0000 + 32 * t
  ⟨bits (bankByte m o) 0 1 == 1, bankByte m (o + 1), bits (bankLe m (o + 2) 2) 0 13, bits (bankLe m (o + 4) 2) 0 13,
   bankLe m (o + 6) 2,
   bits (bankByte m o) 1 7 != 0 || bits (bankLe m (o + 2) 2) 13 3 != 0 || bits (bankLe m (o + 4) 2) 13 3 != 0
     || bankLe m (o + 12) 20 != 0⟩

/-- A machine entry (rule R305). -/
structure MachEntry where
  next   : Nat
  action : Nat
  flags  : Nat
  user   : Nat
  rsv    : Bool
  deriving DecidableEq, Repr

/-- The machine entry of state st and event e. -/
def machAt (m : AMap Nat) (st e : Nat) : MachEntry :=
  let o := 0xA0000 + 8 * (32 * st + e)
  ⟨bankByte m o, bankByte m (o + 1), bankByte m (o + 2), bankLe m (o + 4) 4,
   bits (bankByte m (o + 2)) 4 4 != 0 || bankByte m (o + 3) != 0⟩

/-- Whether an entry is VALID. -/
def MachEntry.valid (e : MachEntry) : Bool := bits e.flags 0 1 == 1

/-- TIMEOUT of a state, in units of 100 ms (rule R304). -/
def stateTimeout (m : AMap Nat) (st : Nat) : Nat := bankLe m (0xA4000 + 8 * st) 3

/-- Whether a state is DEFINED. -/
def stateDefined (m : AMap Nat) (st : Nat) : Bool := decide (st < 64) && bits (bankByte m (0xA4000 + 8 * st + 3)) 0 1 == 1

/-- Whether a state is START_OK. -/
def startOk (m : AMap Nat) (st : Nat) : Bool := stateDefined m st && bits (bankByte m (0xA4000 + 8 * st + 3)) 1 1 == 1

/-! ## Records -/

/-- The epoch deadlines count from: the present one, or the one at which deadline time froze (rule R318). -/
def State.armBase (s : State) : Nat := s.trk.frozen.getD (s.rd Reg.GLB_EPOCH)

/-- A record that enters a state now, with the deadline of the state's TIMEOUT; without one DEADLINE keeps its value (rule R311). -/
def State.enterState (s : State) (st : Nat) (holder : Option Nat) (trans old : Nat) : TaskRec :=
  let onto := stateTimeout s.trk.live st
  ⟨st, holder, onto != 0, s.rd Reg.GLB_EPOCH, if onto = 0 then old else (s.armBase + onto * 100 / s.epochMs) % 4294967296, trans⟩

/-- The record of task t, if the task is VALID. -/
def State.taskRec (s : State) (t : Nat) : Option TaskRec := AMap.find t s.trk.tasks

/-- A record that changed at once, outside the decisions of an epoch, stands whatever becomes of the epoch in progress (rule R23). -/
def State.settleTask (s : State) (t : Nat) : State :=
  match s.taskRec t with
  | some r => { s with trk := { s.trk with tasks0 := AMap.set t r s.trk.tasks0 } }
  | none => s

/-- The state with a task's record set. -/
def State.setTask (s : State) (t : Nat) (r : TaskRec) : State := { s with trk := { s.trk with tasks := AMap.set t r s.trk.tasks } }

/-- Adds to counter move i of the epoch. -/
def State.count (s : State) (i : Nat) : State :=
  { s with trk := { s.trk with delta := s.trk.delta.set i (s.trk.delta.getD i 0 + 1) } }

/-- The task counts follow the records (rule R314). -/
def State.showTasks (s : State) : State :=
  let n := s.trk.tasks.length
  let held := (s.trk.tasks.filter fun p => p.2.holder.isSome).length
  ((s.wr Reg.TRK_TASKS_VALID n).wr Reg.TRK_TASKS_POOL (n - held)).wr Reg.TRK_TASKS_HELD held

/-! ## Events (rules R306, R309 to R312) -/

/-- Whether a source may send an event code (rules R306, R310, R401): 0 robot, 1 host, 2 device. -/
def codeOk (src e : Nat) : Bool :=
  let user := decide (16 ≤ e ∧ e ≤ 31)
  if src = 0 then decide (2 ≤ e ∧ e ≤ 7) || user
  else if src = 1 then decide (1 ≤ e ∧ e ≤ 7) || e == 10 || user
  else e == 0 || e == 8 || e == 9

/-- The status of an event under the event check table. -/
def State.eventStatus (s : State) (src robot task e : Nat) (rsv : Bool) : Nat :=
  match s.taskRec task with
  | none =>
    firstFail [(!s.epo.mode0.fleet, St.refusedMode), (s.on Reg.TRK_STATUS_AUDIT_LOCK, St.refusedLock), (true, St.badFormat)]
  | some r =>
    let m := machAt s.trk.live r.st e
    let other := match r.holder with | some h => h != robot | none => false
    firstFail
      [(!s.epo.mode0.fleet, St.refusedMode),
       (s.on Reg.TRK_STATUS_AUDIT_LOCK, St.refusedLock),
       (!codeOk src e || rsv, St.badFormat),
       (src == 0 && (other || (r.holder.isNone && m.action != 1)), St.conflict),
       (!m.valid, 0x80),
       (m.action == 1 && (other ||
          (match AMap.find robot s.zyp.roster with
           | none => true
           | some x => bits (taskAt s.trk.live task).mask x.cls 1 == 0)), St.conflict)]

/-- The transition record of chute 39 (rule R311). -/
def State.transRecord (s : State) (status task e robot : Nat) (old new : TaskRec) (flags : Nat) : State :=
  s.record 2 39 ([0x21, status] ++ le 2 task ++ [e, old.st, new.st, new.holder.getD 0,
    bit new.holder.isNone + 2 * bits flags 1 1 + 4 * bits flags 2 1 + 8 * bits flags 3 1, robot, 0, 0] ++ le 4 (s.rd Reg.GLB_EPOCH))

/-- Applies an event that passed its checks (rule R311). -/
def State.applyEvent (s : State) (src robot task e arg : Nat) (r : TaskRec) : State :=
  let m := machAt s.trk.live r.st e
  let holder := if m.action = 1 then some robot else if m.action = 2 then none else r.holder
  let new := s.enterState m.next holder ((r.trans + 1) % 4294967296) r.dead
  let t := (s.setTask task new).count 0
  let t1 := if src = 2 ∧ e = 0 then t.count 3 else t
  let t2 := if bits m.flags 3 1 = 1 then
      (match r.holder with
       | some h => { t1 with epo := { t1.epo with work := t1.epo.work ++ [.release ⟨Fin.ofNat 256 h, 0, 0, 0, 0, false⟩ 2 0] } }
       | none => t1) else t1
  let target := match holder with | some h => some h | none => r.holder
  let t3 := if bits m.flags 1 1 = 1 then
      (match target with
       | some h => { t2 with epo := { t2.epo with outs := t2.epo.outs ++
            [⟨0x15, h, [e, r.st, m.next, bit holder.isNone] ++ le 2 task ++ [0, 0] ++ le 4 m.user ++ le 4 arg⟩] } }
       | none => t2) else t2
  let t4 := if bits m.flags 2 1 = 1 then
      { t3 with trk := { t3.trk with notes := t3.trk.notes ++ [task + 65536 * m.next + 16777216 * holder.getD 0 + 4294967296 * m.user] } }
      else t3
  t4.transRecord St.done task e robot r new m.flags

/-- Runs one event: its status, the task's state after it, and the state of the block. -/
def State.runEvent (s : State) (src robot task e arg : Nat) (rsv : Bool) : Nat × Nat × State :=
  let v := s.eventStatus src robot task e rsv
  match s.taskRec task with
  | none => (v, 0xFF, (s.count 2).transRecord v task e robot ⟨0, none, false, 0, 0, 0⟩ ⟨0, none, false, 0, 0, 0⟩ 0)
  | some r =>
    if v = St.done then
      let t := s.applyEvent src robot task e arg r
      (v, (machAt s.trk.live r.st e).next, t)
    else
      let t := s.count (if v = 0x80 then 1 else 2)
      let u := if src = 2 ∧ e = 0 ∧ (v = 0x80 ∨ v = St.conflict) then t.setTask task { r with timer := false } else t
      (v, 0xFF, u.transRecord v task e robot r r 0)

/-- A task moved by force to the pool at its START (rule R312). -/
def State.forceMove (s : State) (task : Nat) (r : TaskRec) : State :=
  let new := s.enterState (taskAt s.trk.live task).start none r.trans r.dead
  ((s.setTask task new).count 4).transRecord St.done task 9 (r.holder.getD 0) r new 0

/-- ROBOT_GONE of one task: as usual when it passes and goes to the pool, otherwise by force (rule R312). -/
def State.robotGone (s : State) (robot task : Nat) (r : TaskRec) : State :=
  let m := machAt s.trk.live r.st 9
  if s.eventStatus 2 robot task 9 false = St.done ∧ m.valid ∧ m.action = 2 then s.applyEvent 2 robot task 9 0 r
  else s.forceMove task r

/-- Runs a device event for each task of a list that a robot of `who` holds. -/
def State.deviceEvents (s : State) (who : List Nat) (run : State → Nat → Nat → TaskRec → State) : List (Nat × TaskRec) → State
  | [] => s
  | (t, _) :: rest =>
    let u := match s.taskRec t with
      | some r => (match r.holder with | some h => if who.contains h then run s h t r else s | none => s)
      | none => s
    State.deviceEvents u who run rest

/-- The TIMEOUT events of an epoch (rule R309). -/
def State.timeouts (s : State) : List (Nat × TaskRec) → State
  | [] => s
  | (t, _) :: rest =>
    let n := s.rd Reg.GLB_EPOCH
    let u := match s.taskRec t with
      | some r => if r.timer && laterEq n r.dead && later n r.entered then (s.runEvent 2 (r.holder.getD 0) t 0 0 false).2.2 else s
      | none => s
    State.timeouts u rest

/-- TASK_FORCE (rule R317): the status, and the task set. -/
def State.forceTask (s : State) (task st : Nat) (holder : Option Nat) : Nat × State :=
  match s.taskRec task with
  | none => (St.badFormat, s)
  | some r => if stateDefined s.trk.live st then (St.done, (s.setTask task (s.enterState st holder r.trans r.dead)).count 4) else (St.badFormat, s)

/-- The counter moves of an epoch take effect (rule R313), with the faults they set. -/
def State.trkCounters (s : State) : State :=
  let d := fun i => s.trk.delta.getD i 0
  let sat := Reg.TRK_FAULT_CNT_SAT
  let t := (((s.wrapBy Reg.TRK_EVENTS (d 0)).bumpBy Reg.TRK_NO_TRANS sat (d 1)).bumpBy Reg.TRK_EV_REFUSED sat (d 2)).bumpBy
    Reg.TRK_TIMEOUTS sat (d 3)
  let u := t.bumpBy Reg.TRK_FORCED sat (d 4)
  let v := if d 1 = 0 then u else u.fault Reg.TRK_FAULT_NO_TRANSITION
  let w := if d 4 = 0 then v else v.fault Reg.TRK_FAULT_FORCED
  { w with trk := { w.trk with delta := [0, 0, 0, 0, 0] } }

/-- The block's part of an epoch commit (rules R311, R313). -/
def State.trkCommit (s : State) : State :=
  let t := s.trkCounters.showTasks
  let u := t.trk.notes.foldl (fun x n => x.event 0x0A 0x0100 n) t
  { u with trk := { u.trk with notes := [], tasks0 := u.trk.tasks } }

/-- The block's part of an abandoned epoch (rule R313). -/
def State.trkAbandon (s : State) : State :=
  { s with trk := { s.trk with tasks := s.trk.tasks0, delta := [0, 0, 0, 0, 0], notes := [] } }

/-- Whether the task counts agree with each other and with a walk of the live records (rule R314). -/
def State.tasksAgree (s : State) : Bool :=
  let n := s.trk.tasks0.length
  let held := (s.trk.tasks0.filter fun p => p.2.holder.isSome).length
  s.rd Reg.TRK_TASKS_VALID == n && s.rd Reg.TRK_TASKS_HELD == held && s.rd Reg.TRK_TASKS_POOL + held == n

/-- The task audit of an epoch (rule R314), on the records before its own transitions take effect. -/
def State.taskAudit (s : State) : State :=
  if !s.trk.eccBad && s.tasksAgree then s
  else ((s.fault Reg.TRK_FAULT_TASK_AUDIT).wr Reg.TRK_STATUS_AUDIT_LOCK 1).raiseFleet false Reg.TRP_HOLD_CAUSE_TASK_AUDIT

/-! ## The FLEET commit (rules R297 to R303, R315, R316) -/

/-- The entries of a table with a word set, in rising order: base and size in bytes. -/
def entriesOf (m : AMap Nat) (base size count : Nat) : List Nat :=
  m.foldl (fun l p => if base ≤ 4 * p.1 ∧ 4 * p.1 < base + size * count then insertNat ((4 * p.1 - base) / size) l else l) []

/-- Whether the arc's computed end lies within 10 mm of node TO (rule R301). -/
def segEndOk (m : AMap Nat) (g : Segment) : Bool :=
  let a := (nodeAt m g.nodeA).1
  let b := (nodeAt m g.nodeB).1
  let e : Int × Int :=
    if g.curv = 0 then (g.len * (headingVec g.head).1, g.len * (headingVec g.head).2) else (Config.arcPose g.head g.curv g.len 1).1
  let dx := a.1 * unit30 + e.1 - b.1 * unit30
  let dy := a.2 * unit30 + e.2 - b.2 * unit30
  decide (dx * dx + dy * dy ≤ 100 * unit30 * unit30)

/-- Whether segment i breaks the BAD_FORMAT row (commit result table). -/
def segEntryBad (m : AMap Nat) (i : Nat) : Bool :=
  let g := segAt m i
  g.rsv || decide (g.kind > 5) ||
    (g.valid && (decide (g.len < 100 ∨ g.len > 2000000 ∨ g.head > 359999 ∨ g.vmax = 0 ∨ g.mask = 0)
      || decide (g.curv.natAbs * g.len > 3141592653) || !(nodeAt m g.nodeA).2 || !(nodeAt m g.nodeB).2 || !segEndOk m g))

/-- Whether node i breaks it. -/
def nodeEntryBad (m : AMap Nat) (i : Nat) : Bool :=
  bits (bankByte m (nodeOfs i + 8)) 2 6 != 0 || bankLe m (nodeOfs i + 9) 7 != 0

/-- Whether machine entry i breaks it. -/
def machEntryBad (m : AMap Nat) (i : Nat) : Bool :=
  let e := machAt m (i / 32) (i % 32)
  e.rsv || decide (e.action > 2) || decide (e.next > 63) || (e.valid && stateDefined m (i / 32) && !stateDefined m e.next)

/-- Whether state i breaks it. -/
def stateEntryBad (m : AMap Nat) (i : Nat) : Bool :=
  bits (bankByte m (0xA4000 + 8 * i + 3)) 2 6 != 0 || bankLe m (0xA4000 + 8 * i + 4) 4 != 0

/-- Whether footprint i breaks it. -/
def footEntryBad (m : AMap Nat) (i : Nat) : Bool :=
  let f := footAt m i
  bits (bankByte m (0xA4200 + 16 * i + 8)) 1 7 != 0 || bankLe m (0xA4200 + 16 * i + 9) 7 != 0
    || (f.defined && (decide (f.ahead + f.behind = 0) || decide (f.halfW = 0)))

/-- Whether task i breaks it. -/
def taskEntryBad (m : AMap Nat) (i : Nat) : Bool :=
  let t := taskAt m i
  let nodeBad := fun n => n != 0x1FFF && !(nodeAt m n).2
  t.rsv || (t.valid && (!startOk m t.start || nodeBad t.src || nodeBad t.dst || t.mask == 0))

/-- The first entry, as (table, index), that breaks the BAD_FORMAT row. -/
def tablesBad (m : AMap Nat) : Option (Nat × Nat) :=
  let look := fun (k base size count : Nat) (bad : Nat → Bool) => ((entriesOf m base size count).find? bad).map fun i => (k, i)
  (look 0 0 32 16384 (segEntryBad m)).or <| (look 1 0x80000 16 8192 (nodeEntryBad m)).or <|
    (look 2 0xA0000 8 2048 (machEntryBad m)).or <| (look 3 0xA4000 8 64 (stateEntryBad m)).or <|
      (look 4 0xA4200 16 16 (footEntryBad m)).or (look 5 0xB0000 32 4096 (taskEntryBad m))

/-- The segments named by live grants. -/
def State.grantSegs (s : State) : List Nat :=
  s.ldr.grants.foldl (fun l p => match p.2.req.path with
    | .segs es => es.foldl (fun a e => insertNat e.1.val a) l
    | .points _ => l) []

/-- The classes named by live grants. -/
def State.grantClasses (s : State) : List Nat := s.ldr.grants.foldl (fun l p => insertNat p.2.req.cls.val l) []

/-- The first change that conflicts with a live grant or a task at work (commit result table). -/
def State.tablesConflict (s : State) : Option (Nat × Nat) :=
  let a := s.trk.live
  let b := s.trk.shadow
  let segC := fun i =>
    let g := segAt a i
    let h := segAt b i
    !(h.valid && g.nodeA == h.nodeA && g.nodeB == h.nodeB && g.len == h.len && g.head == h.head && decide (g.curv = h.curv)
      && decide ((nodeAt a g.nodeA).1 = (nodeAt b g.nodeA).1) && decide ((nodeAt a g.nodeB).1 = (nodeAt b g.nodeB).1))
  let footC := fun k => (List.range 16).any fun o => bankByte a (0xA4200 + 16 * k + o) != bankByte b (0xA4200 + 16 * k + o)
  let taskC := fun (p : Nat × TaskRec) =>
    (p.2.holder.isSome || p.2.st != (taskAt a p.1).start)
      && (List.range 8).any fun o => AMap.get a ((0xB0000 + 32 * p.1) / 4 + o) 0 != AMap.get b ((0xB0000 + 32 * p.1) / 4 + o) 0
  ((s.grantSegs.find? segC).map fun i => (0, i)).or <|
    ((s.grantClasses.find? footC).map fun i => (4, i)).or ((s.trk.tasks.find? taskC).map fun p => (5, p.1))

/-- The records after a commit of the tables (rule R316). -/
def State.remakeTasks (s : State) (old : AMap Nat) : AMap TaskRec :=
  (entriesOf s.trk.live 0xB0000 32 4096).foldl (fun l t =>
    let e := taskAt s.trk.live t
    if !e.valid then l
    else match AMap.find t s.trk.tasks with
      | none => AMap.set t (s.enterState e.start none 0 0) l
      | some r =>
        if r.holder = none ∧ r.st = (taskAt old t).start ∧ e.start ≠ (taskAt old t).start then
          AMap.set t (s.enterState e.start none r.trans r.dead) l
        else AMap.set t r l) []

/-- A FLEET commit takes effect: the whole shadow becomes live (rules R298, R316). -/
def State.fleetApply (s : State) : State :=
  let old := s.trk.live
  let t := { s with trk := { s.trk with live := s.trk.shadow } }
  let u := { t with trk := { t.trk with tasks := t.remakeTasks old, tasks0 := t.remakeTasks old }, cmt := t.cmt.filter (· != Reg.TRK_COMMIT_RESULT.key) }
  let v := ((((u.wrapBy Reg.TRK_GEN 1).wr Reg.TRK_STATUS_LIVE 1).wr Reg.TRK_STATUS_PENDING 0).wr Reg.CLK_ADMIT_STATUS_TABLES_COMMITTED 1).wr
    Reg.TRK_COMMIT_RESULT St.done
  (((v.wr Reg.TRK_COMMIT_ERR_TABLE 7).wr Reg.TRK_COMMIT_ERR_INDEX 0).wr Reg.TRK_STATUS_TABLE_HOLD 0).wr Reg.TRP_HOLD_CAUSE_TABLE_ECC 0 |>.showTasks

/-- A FLEET commit is refused: the shadow is copied back (rule R298). -/
def State.fleetRefuse (s : State) (v : Nat) (err : Nat × Nat) : State :=
  let t := { s with trk := { s.trk with shadow := s.trk.live, validating := false }, cmt := s.cmt.filter (· != Reg.TRK_COMMIT_RESULT.key) }
  ((((t.wr Reg.TRK_COMMIT_RESULT v).wr Reg.TRK_STATUS_PENDING 0).wr Reg.TRK_COMMIT_ERR_TABLE err.1).wr Reg.TRK_COMMIT_ERR_INDEX err.2)

/-- COMMIT of group FLEET (rule R315). -/
def fleetCommitOp (s : State) : State :=
  if s.follows ∨ s.mode = .update then
    (if s.isPending Reg.TRK_COMMIT_RESULT then s.wr Reg.TRK_COMMIT_RESULT St.refusedMode else s.fleetRefuse St.refusedMode (7, 0))
  else if s.isPending Reg.TRK_COMMIT_RESULT then s.wr Reg.TRK_COMMIT_RESULT St.busy
  else ({ s with trk := { s.trk with validating := true } }.setPending Reg.TRK_COMMIT_RESULT).wr Reg.TRK_STATUS_PENDING 1

/-- FLEET_VALIDATED (rules R315, R316). -/
def fleetValidatedOp (s : State) : State :=
  if !s.trk.validating then s
  else
    let t := { s with trk := { s.trk with validating := false } }
    match tablesBad t.trk.shadow with
    | some e => t.fleetRefuse St.badFormat e
    | none =>
      if t.mode.fleet then
        match t.tablesConflict with
        | some e => t.fleetRefuse St.conflict e
        | none => { t with epo := { t.epo with host := t.epo.host ++ [⟨none, .fleet, t.dsp.adm, false, none, []⟩] } }
      else t.fleetApply

/-! ## Host commands and the audit lock (rules R314, R317) -/

/-- Byte offset, entry size and number of entries of a fleet table (fleet table window table). -/
def tableShape (k : Nat) : Nat × Nat × Nat :=
  match k with
  | 0 => (0, 32, 16384) | 1 => (0x80000, 16, 8192) | 2 => (0xA0000, 8, 2048) | 3 => (0xA4000, 8, 64) | 4 => (0xA4200, 16, 16)
  | _ => (0xB0000, 32, 4096)

/-- Writes a byte of a bank. -/
def setBankByte (m : AMap Nat) (o : Nat) (b : Nat) : AMap Nat :=
  let w := AMap.get m (o / 4) 0
  let k := 8 * (o % 4)
  let v := w - bits w k 8 * 2 ^ k + b % 256 * 2 ^ k
  if v = 0 then AMap.del (o / 4) m else AMap.set (o / 4) v m

/-- Writes bytes of a bank from an offset on. -/
def setBankBytes (m : AMap Nat) (o : Nat) : List Byte → AMap Nat
  | [] => m
  | b :: t => setBankBytes (setBankByte m o b.toNat) (o + 1) t

/-- TABLE_LOAD (rule R317). -/
def tableLoadOp (c : Cmd) (data : List Byte) (s : State) : State :=
  s.hostCmd c .dataIn fun t =>
    let k := bits c.desc.p0.toNat 0 3
    let (base, size, count) := tableShape k
    let len := c.desc.length.toNat
    if t.follows then t.finish c St.refusedMode 0 0
    else if c.desc.p0.toNat > 5 then t.finish c St.badFormat 0 0
    else if len % size ≠ 0 ∨ c.desc.p1.toNat * size + len > size * count then t.finish c St.badLength 0 0
    else if t.isPending Reg.TRK_COMMIT_RESULT then t.finish c St.busy 0 0
    else
      ({ t with trk := { t.trk with shadow := setBankBytes t.trk.shadow (base + c.desc.p1.toNat * size) (data.take len) } }).finish c
        St.done len 0

/-- The event of a TASK_EVENT descriptor. -/
def taskEvOf (d : Desc) : TaskEv :=
  let p := d.p0.toNat
  ⟨Fin.ofNat 256 (bits p 24 8), Fin.ofNat 4096 (bits p 0 12), BitVec.ofNat 8 (bits p 16 5), d.p1, bits p 12 4 != 0 || bits p 21 3 != 0⟩

/-- TASK_EVENT (rule R317). -/
def taskEventOp (c : Cmd) (s : State) : State :=
  s.hostCmd c .command fun t =>
    if t.follows then t.finish c St.refusedMode 0 0
    else if c.desc.length ≠ 0 then t.finish c St.badLength 0 0
    else if t.mode.commits then t.epochInput c (.taskEvent (taskEvOf c.desc))
    else (t.bump Reg.TRK_EV_REFUSED Reg.TRK_FAULT_CNT_SAT).finish c St.refusedMode 0 0xFF

/-- The live record of a task, as the last committed epoch left it (rule R308): zeros where its VALID is clear. -/
def State.taskBytes (s : State) (t : Nat) : List Nat :=
  match AMap.find t s.trk.tasks0 with
  | none => List.replicate 16 0
  | some r => [r.st, r.holder.getD 0, bit r.holder.isNone + 2 * bit r.timer, 0] ++ le 4 r.entered ++ le 4 r.dead ++ le 4 r.trans

/-- TASK_READ (rule R317). -/
def taskReadOp (c : Cmd) (s : State) : State :=
  s.hostCmd c .dataOut fun t =>
    let len := c.desc.length.toNat
    if t.follows then t.finish c St.refusedMode 0 0
    else if len % 16 ≠ 0 ∨ bits c.desc.p0.toNat 0 12 + len / 16 > 4096 then t.finish c St.badLength 0 0
    else if bits c.desc.p0.toNat 12 20 ≠ 0 then t.finish c St.badFormat 0 0
    else t.finishData c ((List.range (len / 16)).flatMap fun i => t.taskBytes (bits c.desc.p0.toNat 0 12 + i))

/-- TASK_FORCE (rule R317). -/
def taskForceOp (c : Cmd) (s : State) : State :=
  s.hostCmd c .command fun t =>
    let p := c.desc.p0.toNat
    let holder := if bits p 24 1 = 1 then none else some (bits c.desc.p1.toNat 0 8)
    if t.follows ∨ t.mode = .update then t.finish c St.refusedMode 0 0
    else if c.desc.length ≠ 0 then t.finish c St.badLength 0 0
    else if bits p 12 4 ≠ 0 ∨ bits p 22 2 ≠ 0 ∨ bits p 25 7 ≠ 0 ∨ bits c.desc.p1.toNat 8 24 ≠ 0 then t.finish c St.badFormat 0 0
    else if t.mode.commits then t.epochInput c (.taskForce (bits p 0 12) (bits p 16 6) holder)
    else if !t.on Reg.TRK_STATUS_LIVE then t.finish c St.refusedMode 0 0
    else
      let r := t.forceTask (bits p 0 12) (bits p 16 6) holder
      ((r.2.settleTask (bits p 0 12)).trkCounters.showTasks).finish c r.1 0 0

/-- TASK_AUDIT_CLEAR (rule R314): the recount of the records; `mismatch` says that it finds one unreadable. -/
def taskAuditClearOp (mismatch : Bool) (s : State) : State :=
  if mismatch || !s.tasksAgree then s.wr Reg.TRK_CTRL_RESULT St.conflict
  else
    let u := { s with trk := { s.trk with eccBad := false } }
    ((u.wr Reg.TRK_STATUS_AUDIT_LOCK 0).wr Reg.TRP_HOLD_CAUSE_TASK_AUDIT 0).wr Reg.TRK_CTRL_RESULT St.done

/-- TABLE_ECC (rule R314): in a live record, a task audit fault; in another live table, TABLE_ECC and fleet HOLD. -/
def tableEccOp (record : Bool) (s : State) : State :=
  if record then
    let t := { s with trk := { s.trk with eccBad := true } }
    ((t.fault Reg.TRK_FAULT_TASK_AUDIT).wr Reg.TRK_STATUS_AUDIT_LOCK 1).raiseFleet false Reg.TRP_HOLD_CAUSE_TASK_AUDIT
  else ((s.fault Reg.TRK_FAULT_TABLE_ECC).wr Reg.TRK_STATUS_TABLE_HOLD 1).raiseFleet false Reg.TRP_HOLD_CAUSE_TABLE_ECC

/-! ## Meanings -/

/-- Meaning of FLEET_COMMIT. -/
def execFleetCommit (s : State) : Out := .next (s.whenMain fleetCommitOp)
/-- Meaning of FLEET_VALIDATED. -/
def execFleetValidated (s : State) : Out := .next (s.whenMain fleetValidatedOp)
/-- Meaning of TABLE_LOAD. -/
def execTableLoad (c : Cmd) (data : List Byte) (s : State) : Out := .next (s.whenMain (tableLoadOp c data))
/-- Meaning of TASK_EVENT. -/
def execTaskEvent (c : Cmd) (s : State) : Out := .next (s.whenMain (taskEventOp c))
/-- Meaning of TASK_READ. -/
def execTaskRead (c : Cmd) (s : State) : Out := .next (s.whenMain (taskReadOp c))
/-- Meaning of TASK_FORCE. -/
def execTaskForce (c : Cmd) (s : State) : Out := .next (s.whenMain (taskForceOp c))
/-- Meaning of TASK_AUDIT_CLEAR. -/
def execTaskAuditClear (mismatch : Bool) (s : State) : Out := .next (s.whenMain (taskAuditClearOp mismatch))
/-- Meaning of TABLE_ECC. -/
def execTableEcc (live : Bool) (s : State) : Out := .next (s.whenMain (tableEccOp live))

end Sys2Proof.Machine
end

