-- ==== Sys2Proof/Machine/Governor.lean ====
section
/-! DEFINITION. The Pace Governor (chapter 14): block-floating arithmetic, curves, the PI law of the robot and clock loops,
COAST, HELD, DOCKED and LOST, the PACE commit. -/

namespace Sys2Proof.Machine

/-! ## Block-floating arithmetic (rules R324, R325) -/

/-- A block-floating value: mantissa and exponent. -/
abbrev Bf := Int × Int

/-- Rule R325, step 2: a value re-expressed at exponent E, exactly when E is at or below its own exponent, else by rnd. -/
def Bf.at (x : Bf) (E : Int) : Int :=
  if E ≤ x.2 then x.1 * 2 ^ (x.2 - E).toNat else (x.1 + 2 ^ ((E - x.2).toNat - 1)) / 2 ^ (E - x.2).toNat

/-- Whether a mantissa lies in the 24-bit range. -/
def fitsMantissa (m : Int) : Bool := decide (-8388608 ≤ m ∧ m ≤ 8388607)

/-- A stage: the smallest exponent from E on, in at most `fuel` raises, at which every input and every result fits; with it
the inputs and the results there. -/
def stageFrom (ins : List Bf) (f : List Int → List Int) : Nat → Int → Int × List Int × List Int
  | 0, E => (E, ins.map (Bf.at · E), f (ins.map (Bf.at · E)))
  | fuel + 1, E =>
    let ms := ins.map (Bf.at · E)
    let rs := f ms
    if ms.all fitsMantissa && rs.all fitsMantissa then (E, ms, rs) else stageFrom ins f fuel (E + 1)

/-- The smallest exponent of a list of values. -/
def lowestExp : List Bf → Int
  | [] => 0
  | [x] => x.2
  | x :: t => min x.2 (lowestExp t)

/-- A stage of rule R325. No input of a loop has a magnitude that 128 raises do not bring into range. -/
def stage (ins : List Bf) (f : List Int → List Int) : Int × List Int × List Int := stageFrom ins f 128 (lowestExp ins)

/-- rnd(num / den, 0) with den above 0. -/
def rndDiv (num : Int) (den : Nat) : Int := (2 * num + (den : Int)) / (2 * (den : Int))

/-- num / den rounded up, with den above 0. -/
def ceilDiv (num : Int) (den : Nat) : Int := (num + (den : Int) - 1) / (den : Int)

/-! ## Time -/

/-- A yard-time difference in units of 2⁻¹⁶ ns (rule R424: seconds modulo 2⁴⁸, signed). -/
def timeDiff (a b : YTime) : Int :=
  (signed 48 (a.sec + 2 ^ 48 - b.sec % 2 ^ 48) * 1000000000 + ((a.ns : Int) - (b.ns : Int))) * 65536 + ((a.frac : Int) - (b.frac : Int))

/-- Milliseconds in units of 2⁻¹⁶ s, by rnd. -/
def msUnits (ms : Nat) : Int := rndDiv ((ms : Int) * 65536) 1000

/-- The boundary of the epoch that `now` lies in (rule R11). -/
def State.epochT0 (s : State) : YTime := ⟨s.now.sec, s.now.ns - s.now.ns % (s.epochMs * 1000000), 0⟩

/-! ## Curves (rules R340, R341, R343) -/

/-- NPTS of curve j. -/
def curvePts (m : AMap Nat) (j : Nat) : Nat := bits (AMap.get m (1024 + 2 * j) 0) 0 8

/-- KIND of curve j. -/
def curveKind (m : AMap Nat) (j : Nat) : Nat := bits (AMap.get m (1024 + 2 * j) 0) 8 8

/-- Point i of curve j. -/
def curvePoint (m : AMap Nat) (j i : Nat) : Int × Int :=
  (signed 32 (AMap.get m (32 * j + 2 * i) 0), signed 32 (AMap.get m (32 * j + 2 * i + 1) 0))

/-- The value at x of a curve given by its points. -/
def interpolate (x : Int) : List (Int × Int) → Int
  | [] => 0
  | [p] => p.2
  | p :: q :: t =>
    if x ≤ p.1 then p.2
    else if x < q.1 then p.2 + rndDiv ((x - p.1) * (q.2 - p.2)) (q.1 - p.1).toNat
    else interpolate x (q :: t)

/-- The value of the live curve j at x; none where it is undefined. -/
def State.curve (s : State) (j : Nat) (x : Int) : Option Int :=
  let n := min (curvePts s.gov.live j) 16
  if n = 0 then none else some (interpolate x ((List.range n).map (curvePoint s.gov.live j)))

/-! ## Loops -/

/-- A loop that has never run. -/
def Loop.fresh : Loop :=
  ⟨.off, 0, 0, 0, false, 0, YTime.zero, 0, 0xFF, 0, 0, none, 0, false, false, 0, false, false⟩

/-- Robot loop n. -/
def State.loop (s : State) (n : Nat) : Loop := AMap.get s.gov.loops n Loop.fresh

/-- The state with robot loop n set. -/
def State.setLoop (s : State) (n : Nat) (l : Loop) : State := { s with gov := { s.gov with loops := AMap.set n l s.gov.loops } }

/-- Code of a loop mode (command record table). -/
def LoopMode.code : LoopMode → Nat
  | .off => 0 | .track => 1 | .dock => 2 | .coast => 3 | .held => 4 | .docked => 5 | .lost => 6

/-- rnd of the last command's magnitude, in mm/s. -/
def Loop.speedNow (l : Loop) : Int := (Bf.at (l.u, l.e) 0).natAbs

/-- COAST_EPOCHS (rule R323). -/
def State.coastEpochs (s : State) : Nat := 3 * s.rd Reg.GOV_CFG_LOOP_MS / s.epochMs

/-- Signed difference of two 32-bit epoch numbers. -/
def epochDiff (a b : Nat) : Int := signed 32 (a + 4294967296 - b % 4294967296)

/-- T_E (rule R324). -/
def State.slewTime (s : State) (l : Loop) : Int :=
  match l.cmdEp with
  | none => msUnits s.epochMs
  | some c => rndDiv (epochDiff (s.rd Reg.GLB_EPOCH) c * (s.epochMs : Int) * 65536) 1000

/-- Whether robot loops are served (Governor mode table). -/
def State.govRuns (s : State) : Bool := s.mode.fleet || s.follows

/-- Whether a loop enters COAST in the present epoch (rule R334). -/
def State.coastDue (s : State) (l : Loop) : Bool :=
  (l.mode == .track || l.mode == .dock || l.mode == .held || l.winding)
    && decide (epochDiff (s.rd Reg.GLB_EPOCH) l.usedEp ≥ (s.coastEpochs : Int))

/-! ## Commands (rules R329, R330, R408) -/

/-- The 56 bytes of a command record. -/
def cmdBytes (lid : Nat) (l : Loop) (mode flags epoch : Nat) (comp : YTime) : List Nat :=
  [0x31, lid, mode, flags] ++ le 4 l.cmdSeq ++ le 4 epoch ++ le 4 (unsigned 32 (Bf.at (l.u, l.e) (-8))) ++ le 4 (unsigned 32 l.lastErr)
    ++ le 4 l.posSeq ++ stamp l.sample ++ stamp comp

/-- The COMMAND body of a command record (rule R408). -/
def commandBody (l : Loop) (mode flags : Nat) (comp : YTime) : List Nat :=
  [mode, flags, 0, 0] ++ le 4 l.cmdSeq ++ le 4 (unsigned 32 (Bf.at (l.u, l.e) (-8))) ++ le 4 (unsigned 32 l.lastErr)
    ++ stamp l.sample ++ stamp comp

/-- Commits a command of loop `lid`, whose new state is l, to chute 41, from where the decision pair sends its COMMAND. A
command without credit is dropped and counted; the loop's state advances all the same. -/
def State.command (s : State) (lid : Nat) (l : Loop) (flags : Nat) (comp : YTime) : State :=
  let n := s.rd Reg.GLB_EPOCH
  let m := l.mode.code
  let r := (s.wrapBy Reg.GOV_UPDATES 1).offer 41 0 (toWords (cmdBytes lid l m flags n comp))
  let t := if r.2 then { r.1 with epo := { r.1.epo with outs := r.1.epo.outs ++ [⟨0x14, lid, commandBody l m flags comp⟩],
                                                             recs := r.1.epo.recs ++ [(3, (cmdBytes lid l m flags n comp).take 40 ++ List.replicate 16 0)] } }
           else (r.1.bump Reg.GOV_OUT_DROP Reg.GOV_FAULT_CNT_SAT).fault Reg.GOV_FAULT_OUT_DROP
  t.setLoop lid { l with cmdSeq := (l.cmdSeq + 1) % 4294967296, cmdEp := some n }

/-- A command of 0 with NO_CURVE; the loop stays OFF (rule R343). -/
def State.noCurve (s : State) (lid : Nat) (l : Loop) (comp : YTime) : State :=
  let t := (s.bump Reg.GOV_NO_CURVE Reg.GOV_FAULT_CNT_SAT).fault Reg.GOV_FAULT_NO_CURVE
  t.command lid l.offNow 0x20 comp

/-! ## Ramps: COAST, HELD and the OFF wind-down (rules R334, R337) -/

/-- The ramp's arithmetic: U less DEC × T_E and never below 0, I frozen. -/
def rampStep (l : Loop) (dec te : Int) : Loop :=
  let r := stage [(l.u, l.e), (dec * te, -16), (l.i, l.e)] fun m => [max 0 (m.getD 0 0 - m.getD 1 0), m.getD 2 0]
  { l with e := r.1, u := r.2.2.getD 0 0, i := r.2.2.getD 1 0 }

/-- Whether a command of 0 is due again: one LOOP_MS after the last command. -/
def State.zeroDue (s : State) (l : Loop) : Bool :=
  match l.cmdEp with
  | none => true
  | some c => decide (epochDiff (s.rd Reg.GLB_EPOCH) c * (s.epochMs : Int) ≥ (s.rd Reg.GOV_CFG_LOOP_MS : Int))

/-- One ramp command. A wound-down loop becomes OFF and sends no more; a loop ramped to 0, or DOCKED, sends 0 once per
LOOP_MS, and at once on entry. -/
def State.ramp (s : State) (lid : Nat) (l0 : Loop) (entry : Bool) (comp : YTime) : State :=
  let l := { l0 with slew := false, speed := false }
  if l.u = 0 then
    if l.winding then s.setLoop lid { l.offNow with cmdSeq := l.cmdSeq }
    else if entry || s.zeroDue l then s.command lid l 0 comp
    else s.setLoop lid l
  else
    match s.curve (s.rd (Reg.GOV_CLASS_B_DEC l.cls)) l.speedNow with
    | none => s.noCurve lid l comp
    | some dec =>
      let l1 := rampStep l dec (s.slewTime l)
      let t := s.command lid l1 0 comp
      if l1.winding && l1.u == 0 then t.setLoop lid (t.loop lid).offNow else t

/-- The distance of the ramp from a loop's state in units of 2⁻³² mm × ms / 1000: the sum over its epochs of each commanded
U × epoch length (rule R335); `fuel` bounds the epochs. -/
def State.rampDistance (s : State) : Nat → Loop → Int → Int
  | 0, _, _ => 0
  | fuel + 1, l, te =>
    if l.u ≤ 0 then 0
    else match s.curve (s.rd (Reg.GOV_CLASS_B_DEC l.cls)) l.speedNow with
      | none => 0
      | some dec =>
        let l1 := rampStep l dec te
        Bf.at (l1.u, l1.e) (-32) * (s.epochMs : Int) + State.rampDistance s fuel l1 (msUnits s.epochMs)

/-- S_TO of a stop envelope (rule R335), each distance rounded up to whole mm. -/
def State.envelopeEnd (s : State) (l : Loop) : Int :=
  let run := ceilDiv (Bf.at (l.u, l.e) (-32) * timeDiff s.epochT0 l.sample) (2 ^ 48 * 1000000000)
  let stop := ceilDiv (s.rampDistance 4194304 l (s.slewTime l)) (2 ^ 32 * 1000)
  (l.sMeas : Int) + run + stop + (s.rd Reg.GOV_CFG_COAST_MARGIN_MM : Int)

/-- Entry to COAST (rules R334 to R336): the envelope, the own HOLD, the count, the fault and the first command. -/
def State.coast (s : State) (lid : Nat) (l : Loop) (comp : YTime) : State :=
  let n := s.rd Reg.GLB_EPOCH
  let t := if l.gslot = 0xFF then s
           else { s with epo := { s.epo with envs := s.epo.envs ++ [⟨lid, l.gslot, false, n, l.sMeas, unsigned 32 (s.envelopeEnd l)⟩] } }
  let u := (t.bump Reg.GOV_COAST_COUNT Reg.GOV_FAULT_CNT_SAT).faultWith Reg.GOV_FAULT_COAST lid
  (u.raiseOwn lid false (Reg.TRP_ROBOT_COAST lid)).ramp lid { l with mode := .coast, winding := false } true comp

/-! ## The PI law of a robot loop (rules R326 to R328, R333) -/

/-- The gains and limits of an update: KP, KI, ACC, DEC and the ceiling; none where a curve is undefined. -/
def State.gains (s : State) (l : Loop) (dock : Bool) (err vLim : Int) : Option (Int × Int × Int × Int × Int) :=
  let c := l.cls
  let x := if dock then (err.natAbs : Int) else l.speedNow
  let kp := s.curve (s.rd (if dock then Reg.GOV_CLASS_A_KP_DOCK c else Reg.GOV_CLASS_A_KP_TRACK c)) x
  let ki := s.curve (s.rd (if dock then Reg.GOV_CLASS_A_KI_DOCK c else Reg.GOV_CLASS_A_KI_TRACK c)) x
  let acc := s.curve (s.rd (Reg.GOV_CLASS_B_ACC c)) l.speedNow
  let dec := s.curve (s.rd (Reg.GOV_CLASS_B_DEC c)) l.speedNow
  let tol : Int := s.rd Reg.GOV_CFG_DOCK_TOL_MM
  let ceil : Option Int :=
    if dock then (s.curve (s.rd (Reg.GOV_CLASS_B_APPROACH c)) err.natAbs).map fun a => if err < -tol then 0 else min vLim a
    else some vLim
  match kp, ki, acc, dec, ceil with
  | some kp, some ki, some acc, some dec, some ceil => some (kp, ki, acc, dec, ceil)
  | _, _, _, _, _ => none

/-- The three stages (rules R325, R326): the loop with its new I and U, and whether a slew bound or a speed bound set the
command (rule R327). -/
def piStep (l : Loop) (kp ki acc dec ceil err t te : Int) (hand : Bool) : Loop × Bool × Bool :=
  let s1 := stage (if hand then [(kp * err, -16)] else [(kp * err, -16), (ki * err * t, -32)]) fun _ => []
  let p1 : Bf := (s1.2.1.getD 0 0, s1.1)
  let s2 :=
    if hand then
      stage [(l.u, l.e), p1, (0, s1.1)] fun m => [m.getD 0 0 - m.getD 1 0, m.getD 0 0]
    else
      stage [(l.i, l.e), p1, (s1.2.1.getD 1 0, s1.1)] fun m => [m.getD 0 0 + m.getD 2 0, m.getD 1 0 + m.getD 0 0 + m.getD 2 0]
  let p2 : Bf := (s2.2.1.getD 1 0, s2.1)
  let s3 := stage [(s2.2.2.getD 1 0, s2.1), p2, (s2.2.2.getD 0 0, s2.1), (l.u, l.e), (acc * te, -16), (dec * te, -16), (ceil, 0)] fun m =>
    let v := m.getD 0 0
    let u := m.getD 3 0
    let a := m.getD 4 0
    let d := m.getD 5 0
    let hi := max (min (m.getD 6 0) (u + a)) (u - d)
    let un := min (max v (max 0 (u - d))) hi
    [un, if un = v then m.getD 2 0 else un - m.getD 1 0]
  let un := s3.2.2.getD 0 0
  let bounded := un != s3.2.1.getD 0 0
  let speed := bounded && (un == s3.2.1.getD 6 0 || un == 0)
  ({ l with e := s3.1, u := un, i := s3.2.2.getD 1 0 }, bounded && !speed, speed)

/-- One update of a TRACK or DOCK loop, which may be a hand-over (rules R326 to R328, R333). -/
def State.update (s : State) (lid : Nat) (l : Loop) (dock hand sat : Bool) (err vLim t : Int) (comp : YTime) : State :=
  match s.gains l dock err vLim with
  | none => s.noCurve lid l comp
  | some (kp, ki, acc, dec, ceil) =>
    let r := piStep l kp ki acc dec ceil err t (s.slewTime l) hand
    let tol : Int := s.rd Reg.GOV_CFG_DOCK_TOL_MM
    let ovr := dock && (l.ovr || decide (err < -tol))
    let docked := dock && decide ((err.natAbs : Int) ≤ tol) && r.1.u == 0
    let limited := r.2.1 || r.2.2
    let t1 := if limited then s.bump Reg.GOV_LIMITED Reg.GOV_FAULT_CNT_SAT else s
    let l1 := { r.1 with mode := if docked then .docked else if dock then .dock else .track, winding := false,
                         ovr := ovr && !docked, lastErr := err, slew := r.2.1, speed := r.2.2 }
    t1.command lid l1 (bit r.2.1 + 2 * bit r.2.2 + 4 * bit hand + 8 * bit sat + 16 * bit l1.ovr) comp

/-! ## Loop inputs (rules R321, R322) -/

/-- Bytes of a loop input. -/
def loopInBytes (x : LoopIn) : List Nat :=
  [0x30, x.lid.val, x.mode.toNat, x.cls.val] ++ le 4 x.epoch.toNat ++ le 4 x.posSeq.toNat ++ le 4 x.err.toNat ++ le 4 x.sMeas.toNat
    ++ [x.gslot.toNat, bit x.posValid] ++ le 2 x.vLim.toNat ++ stamp x.measTime ++ le 8 0

/-- ERR as a mantissa: clamped, and whether it was (rule R324). -/
def clampErr (e : Int) : Int × Bool := (max (-8388608) (min 8388607 e), !fitsMantissa e)

/-- A loop takes a valid input: its sample is recorded, then its mode says what follows. -/
def State.loopIn (s : State) (x : LoopIn) (comp : YTime) : State :=
  let lid := x.lid.val
  let l0 := s.loop lid
  let n := s.rd Reg.GLB_EPOCH
  let fresh := x.posValid && (!l0.hasSeq || later x.posSeq.toNat l0.posSeq)
  let cap := msUnits (3 * s.rd Reg.GOV_CFG_LOOP_MS)
  let t := if l0.hasSeq then min (rndDiv (timeDiff x.measTime l0.sample) 1000000000) cap else 0
  let (err, sat) := clampErr x.err.toInt
  let l1 := { l0 with gslot := x.gslot.toNat, cls := x.cls.val }
  let l := if fresh then { l1 with hasSeq := true, posSeq := x.posSeq.toNat, sample := x.measTime, usedEp := n, sMeas := x.sMeas.toNat } else l1
  let m := x.mode.toNat
  let s1 := if sat then (s.bump Reg.GOV_ERR_SAT Reg.GOV_FAULT_CNT_SAT).fault Reg.GOV_FAULT_ERR_SAT else s
  let law := fun (l : Loop) (hand : Bool) =>
    (if hand || fresh then s1 else s).update lid l (m == 2) hand sat err x.vLim.toNat (if hand then 0 else t) comp
  match l.mode with
  | .lost => s.setLoop lid l
  | .off =>
    if l.winding then
      if s.coastDue l then s.coast lid l comp
      else if m = 1 ∨ m = 2 then law l true
      else if m = 3 then s.ramp lid { l with mode := .held, winding := false } true comp
      else s.setLoop lid l
    else if m = 1 ∨ m = 2 then law { l with i := 0, u := 0, e := 0, usedEp := n, cmdEp := none } true
    else s.setLoop lid l
  | .coast =>
    if fresh ∧ (m = 1 ∨ m = 2) then law l true
    else if fresh ∧ m = 0 then s.ramp lid { l with mode := .off, winding := true } true comp
    else s.setLoop lid l
  | .held =>
    if s.coastDue l then s.coast lid l comp
    else if m = 1 ∨ m = 2 then law l true
    else if m = 0 then s.ramp lid { l with mode := .off, winding := true } true comp
    else s.setLoop lid l
  | .docked =>
    if m = 2 then s.setLoop lid l
    else if m = 1 then law l true
    else if m = 3 then s.ramp lid { l with mode := .held } true comp
    else s.ramp lid { l with mode := .off, winding := true } true comp
  | .track | .dock =>
    if s.coastDue l then s.coast lid l comp
    else if m = 3 then s.ramp lid { l with mode := .held } true comp
    else if m = 0 then s.ramp lid { l with mode := .off, winding := true } true comp
    else if (l.mode == .track) != (m == 1) then law { l with ovr := l.ovr && m == 2 } true
    else if fresh then law l false
    else s.setLoop lid l

/-- GOV_LATENCY after a command that took `us` µs (rule R332), and what the Tally records of it (rule R527). -/
def State.latency (s : State) (us : Nat) : State :=
  let v := min us 0xFFFF
  ((s.wr Reg.GOV_LATENCY_LAST v).wr Reg.GOV_LATENCY_MAX (max v (s.rd Reg.GOV_LATENCY_MAX))).tallyAdd 10 us

/-- LOOP_INPUT: the next input of chute 40. One with a reserved field set or a MODE above 3, or in a mode that serves no
robot loop, is discarded and counted. -/
def loopInputOp (comp : YTime) (us : Nat) (s : State) : State :=
  match s.epo.loopQ with
  | [] => s
  | x :: rest =>
    let t := { s with epo := { s.epo with loopQ := rest } }.consume 40 (toWords (loopInBytes x))
    if x.rsv ∨ x.mode.toNat > 3 ∨ !t.govRuns then t.bump Reg.GOV_BAD_INPUT Reg.GOV_FAULT_CNT_SAT
    else
      let u := t.loopIn x comp
      if u.rd Reg.GOV_UPDATES = t.rd Reg.GOV_UPDATES then u else u.latency us

/-- COAST_ENTRY (rule R334): a loop whose input is missing or has been read enters COAST when it is due. -/
def coastEntryOp (lid : Nat) (comp : YTime) (s : State) : State :=
  let l := s.loop lid
  if s.govRuns && s.epo.decided && s.coastDue l && !(s.epo.loopQ.any fun x => x.lid.val == lid) then s.coast lid l comp else s

/-- LOOP_RAMP_COMMAND (rules R328, R334, R337): the next command of a loop in COAST, HELD, DOCKED or winding down, once per
epoch at most. -/
def loopRampCommandOp (lid : Nat) (comp : YTime) (s : State) : State :=
  let l := s.loop lid
  let ramping := l.mode == .coast || l.mode == .held || l.mode == .docked || l.winding
  let now := l.cmdEp == some (s.rd Reg.GLB_EPOCH)
  if s.govRuns && s.epo.decided && ramping && !now && !s.coastDue l && !(s.epo.loopQ.any fun x => x.lid.val == lid) then
    s.ramp lid l false comp
  else s

/-- LOOP_STATE_ECC (rule R337): the loop becomes LOST with one command of 0, and its robot gets an own STOP. -/
def loopStateEccOp (lid : Nat) (comp : YTime) (s : State) : State :=
  let l := s.loop lid
  if !s.govRuns then s
  else
    let t := (s.faultWith Reg.GOV_FAULT_STATE_ECC lid).raiseOwn lid true (Reg.TRP_ROBOT_LOOP_LOST lid)
    t.command lid { l.offNow with mode := .lost } 0 comp

/-! ## Clock loops (rules R338, R339) -/

/-- Clock loop k. -/
def State.clkLoop (s : State) (k : Nat) : ClkLoop := AMap.get s.gov.clk k ⟨0, 0, 0⟩

/-- A curve value, or a free one where the curve is undefined: for clock loops the spec states no result there. -/
def State.clkGain (s : State) (j : Nat) (x : Int) : Int × State :=
  match s.curve j x with
  | some v => (v, s)
  | none => let d := s.draw 4; ((d.1 : Int), d.2)

/-- The law of a clock loop: its new state and whether BOUND set U. -/
def clkStep (c : ClkLoop) (kp ki err t bound : Int) : ClkLoop × Bool :=
  let s1 := stage [(kp * err, -24), (ki * err * t, -40)] fun _ => []
  let s2 := stage [(c.i, c.e), (s1.2.1.getD 0 0, s1.1), (s1.2.1.getD 1 0, s1.1)] fun m =>
    [m.getD 0 0 + m.getD 2 0, m.getD 1 0 + m.getD 0 0 + m.getD 2 0]
  let s3 := stage [(s2.2.2.getD 1 0, s2.1), (s2.2.1.getD 1 0, s2.1), (s2.2.2.getD 0 0, s2.1), (bound, 0)] fun m =>
    let v := m.getD 0 0
    let un := max (-(m.getD 3 0)) (min (m.getD 3 0) v)
    [un, if un = v then m.getD 2 0 else un - m.getD 1 0]
  (⟨s3.2.2.getD 1 0, s3.2.2.getD 0 0, s3.1⟩, s3.2.2.getD 0 0 != s3.2.1.getD 0 0)

/-- A clock input from the bytes of its packet (rule R338). -/
def clockIn (b : List Nat) : ClockIn :=
  let w := fun (lo : Nat) => BitVec.ofNat 32 (unle ((b.drop lo).take 4))
  ⟨Fin.ofNat 2 (b.getD 1 0), b.getD 2 0 % 2 == 1, w 4, w 8, w 12, w 16, w 20⟩

/-- The loop of the source in force: 0 for GNSS, 1 for PTP and TWIN (rules R428, R476). -/
def State.loopInForce (s : State) : Option Nat := match s.rd Reg.TIM_STATUS_SOURCE with | 0 => some 0 | 3 => none | _ => some 1

/-- The Timekeeper reads a frequency: that of the loop in force sets the rate of yard time, which a phase slew holds off (rules R428,
R431). -/
def State.takeFreq (s : State) (k : Nat) (freq : Int) : State :=
  if s.loopInForce ≠ some k then s
  else if s.tim.slew.isSome then { s with tim := { s.tim with held := freq } }
  else s.wr Reg.TIM_FREQ (unsigned 32 freq)

/-- CLOCK_LOOP_INPUT: the next input of chute 42 updates its loop; the output goes to chute 43, where the Timekeeper reads it (rules
R338, R339). -/
def clockLoopInputOp (s0 : State) : State :=
  match s0.nextPacket 42 with
  | none => s0
  | some p =>
  let x := clockIn p.bytes
  let s := s0.takeAny 42
  let k := x.loop.val
  let c0 := s.clkLoop k
  let c : ClkLoop := if x.preset then ⟨x.ppb.toInt, x.ppb.toInt, 0⟩ else c0
  let err := x.err.toInt
  let ax : Int := ((err.natAbs + 128) / 256 : Nat)
  let (kp, s1) := s.clkGain (s.rd (Reg.GOV_CLK_KP k)) ax
  let (ki, s2) := s1.clkGain (s.rd (Reg.GOV_CLK_KI k)) ax
  let r := clkStep c kp ki err x.t.toNat x.bound.toNat
  let freq := Bf.at (r.1.u, r.1.e) (-8)
  let outW := toWords ([0x33, k, bit r.2, 0] ++ le 4 x.seq.toNat ++ le 4 (unsigned 32 freq) ++ le 4 0)
  let t := { s2 with gov := { s2.gov with clk := AMap.set k r.1 s2.gov.clk } }
  let o := t.offer 43 0 outW
  if !o.2 then o.1 else (o.1.consume 43 outW).takeFreq k freq

/-! ## The PACE commit (rules R340, R342) -/

/-- Members of group PACE that are registers. -/
def paceGroup : List Fld :=
  [Reg.GOV_CFG_LOOP_MS, Reg.GOV_CFG_COAST_MARGIN_MM, Reg.GOV_CFG_DOCK_TOL_MM]
    ++ ((List.range 2).flatMap fun k => [Reg.GOV_CLK_KP k, Reg.GOV_CLK_KI k])
    ++ ((List.range 16).flatMap fun k => [Reg.GOV_CLASS_A_KP_TRACK k, Reg.GOV_CLASS_A_KI_TRACK k, Reg.GOV_CLASS_A_KP_DOCK k,
          Reg.GOV_CLASS_A_KI_DOCK k, Reg.GOV_CLASS_B_ACC k, Reg.GOV_CLASS_B_DEC k, Reg.GOV_CLASS_B_APPROACH k])

/-- Whether the first coordinates strictly rise. -/
def risingX : List (Int × Int) → Bool
  | p :: q :: t => decide (p.1 < q.1) && risingX (q :: t)
  | _ => true

/-- Whether curve j of a bank breaks the BAD_FORMAT row. -/
def curveBad (m : AMap Nat) (j : Nat) : Bool :=
  let n := curvePts m j
  let k := curveKind m j
  let pts := (List.range (min n 16)).map (curvePoint m j)
  bits (AMap.get m (1024 + 2 * j) 0) 16 16 != 0 || AMap.get m (1025 + 2 * j) 0 != 0 || decide (n > 16) || decide (k > 4) || !risingX pts
    || pts.any fun p => decide (p.2.natAbs > 8388607) || ((k == 1 || k == 2 || k == 4) && decide (p.2 < 0)) || (k == 3 && decide (p.2 ≤ 0))

/-- Whether a register field names a defined curve of the wrong KIND. -/
def State.namesWrong (s : State) (x : Fld × Nat) : Bool :=
  curvePts s.gov.shadow (s.sh x.1) != 0 && curveKind s.gov.shadow (s.sh x.1) != x.2

/-- The first failing item of a PACE commit: (ITEM, INDEX). -/
def State.paceBad (s : State) : Option (Nat × Nat) :=
  let aBad := fun k => [(Reg.GOV_CLASS_A_KP_TRACK k, 1), (Reg.GOV_CLASS_A_KI_TRACK k, 2), (Reg.GOV_CLASS_A_KP_DOCK k, 1),
    (Reg.GOV_CLASS_A_KI_DOCK k, 2)].any s.namesWrong
  let bBad := fun k => [(Reg.GOV_CLASS_B_ACC k, 3), (Reg.GOV_CLASS_B_DEC k, 3), (Reg.GOV_CLASS_B_APPROACH k, 4)].any s.namesWrong
  let cBad := fun k => [(Reg.GOV_CLK_KP k, 1), (Reg.GOV_CLK_KI k, 2)].any s.namesWrong
  let ms := s.sh Reg.GOV_CFG_LOOP_MS
  let tol := s.sh Reg.GOV_CFG_DOCK_TOL_MM
  let cfgBad := decide (ms < 100 ∨ ms > 1000 ∨ ms % s.epochMs ≠ 0 ∨ s.sh Reg.GOV_CFG_COAST_MARGIN_MM > 1000 ∨ tol < 1)
  (((List.range 32).find? (curveBad s.gov.shadow)).map fun j => (1, j)).or <|
    (((List.range 16).find? aBad).map fun k => (2, k)).or <| (((List.range 16).find? bBad).map fun k => (3, k)).or <|
      (((List.range 2).find? cBad).map fun k => (4, k)).or (if cfgBad then some (5, 0) else none)

/-- A PACE commit ends refused: the curve shadow is copied back (rule R340). -/
def State.paceRefuse (s : State) (v : Nat) (err : Nat × Nat) : State :=
  let t := { s with gov := { s.gov with shadow := s.gov.live }, cmt := s.cmt.filter (· != Reg.GOV_PACE_COMMIT_RESULT.key) }
  (((t.wr Reg.GOV_PACE_COMMIT_RESULT v).wr Reg.GOV_STATUS_PENDING 0).wr Reg.GOV_COMMIT_ERR_ITEM err.1).wr Reg.GOV_COMMIT_ERR_INDEX err.2

/-- A PACE commit takes effect. -/
def State.paceApply (s : State) : State :=
  let curves := s.gov.shadow
  let t := (({ s with gov := { s.gov with live := curves } }).storeWith fun (a : SettingsArea) => { a with curves := some curves }).endPending
    Reg.GOV_PACE_COMMIT_RESULT paceGroup St.done
  ((t.wr Reg.GOV_STATUS_PENDING 0).wr Reg.GOV_COMMIT_ERR_ITEM 0).wr Reg.GOV_COMMIT_ERR_INDEX 0

/-- COMMIT of group PACE (rule R342). -/
def paceCommitOp (s : State) : State :=
  let pend := s.isPending Reg.GOV_PACE_COMMIT_RESULT
  if s.follows ∨ s.mode = .update then
    (if pend then s.wr Reg.GOV_PACE_COMMIT_RESULT St.refusedMode else s.paceRefuse St.refusedMode (0, 0))
  else if pend then s.wr Reg.GOV_PACE_COMMIT_RESULT St.busy
  else match s.paceBad with
    | some e => s.paceRefuse St.badFormat e
    | none =>
      if s.mode.fleet then
        let t := (s.setPending Reg.GOV_PACE_COMMIT_RESULT).wr Reg.GOV_STATUS_PENDING 1
        { t with epo := { t.epo with host := t.epo.host ++ [⟨none, .pace, t.dsp.adm, false, none, []⟩] } }
      else s.paceApply

/-! ## Epochs (rule R331) and views -/

/-- The loops' part of an epoch commit. -/
def State.govCommit (s : State) : State := { s with gov := { s.gov with loops0 := s.gov.loops } }

/-- The loops' part of an abandoned epoch. -/
def State.govAbandon (s : State) : State := { s with gov := { s.gov with loops := s.gov.loops0 } }

/-- RUNNING, ACTIVE and COASTING of GOV_STATUS, from the loops as committed. -/
def State.govStatus (s : State) : Bool × Nat × Nat :=
  (s.govRuns, (s.gov.loops0.filter fun p => p.2.mode != .off || p.2.winding).length,
   (s.gov.loops0.filter fun p => p.2.mode == .coast).length)

/-- LOOP_MODE, SLEW_LIMITED, SPEED_LIMITED, STATE_EXP and VCMD_MM of GOV_ROBOTn. -/
def State.govRobot (s : State) (n : Nat) : Nat × Bool × Bool × Int × Int :=
  let l := AMap.get s.gov.loops0 n Loop.fresh
  (l.mode.code, l.slew, l.speed, l.e, Bf.at (l.u, l.e) 0)

/-! ## Meanings -/

/-- Meaning of LOOP_INPUT. -/
def execLoopInput (comp : YTime) (us : Word) (s : State) : Out := .next (s.whenMain (loopInputOp comp us.toNat))
/-- Meaning of COAST_ENTRY. -/
def execCoastEntry (lid : Fin 256) (comp : YTime) (s : State) : Out := .next (s.whenMain (coastEntryOp lid.val comp))
/-- Meaning of LOOP_RAMP_COMMAND. -/
def execLoopRampCommand (lid : Fin 256) (comp : YTime) (s : State) : Out := .next (s.whenMain (loopRampCommandOp lid.val comp))
/-- Meaning of LOOP_STATE_ECC. -/
def execLoopStateEcc (lid : Fin 256) (comp : YTime) (s : State) : Out := .next (s.whenMain (loopStateEccOp lid.val comp))
/-- Meaning of CLOCK_LOOP_INPUT. -/
def execClockLoopInput (s : State) : Out := .next (s.whenMain clockLoopInputOp)
/-- Meaning of PACE_COMMIT. -/
def execPaceCommit (s : State) : Out := .next (s.whenMain paceCommitOp)

end Sys2Proof.Machine
end

