-- ==== Sys2Proof/Machine/Trapdoor.lean ====
section
/-! DEFINITION. The Trapdoor (chapter 15): stop inputs and outputs, arming and local reset, the permit beacon, the repeats of
its frames and the host commands. The raising of restrictions is in Yard. -/

namespace Sys2Proof.Machine

/-! ## Device faults (rules R61, R361, R556) -/

/-- LIVE_OUT stops, until the next reset release (rule R453). -/
def State.stopLive (s : State) : State := if s.liveOut then { s with twn := { s.twn with stopped := true } } else s

/-- A host request in progress that a higher trigger overtakes completes with BUSY (rule R62): a power-down, or the claim
arbitration of FLEET_START. -/
def State.overtake (s : State) : State :=
  match s.pwr.pdown with
  | some d =>
    s.wrEach [(Reg.CLK_MODE_RESULT_STATUS, St.busy), (Reg.CLK_MODE_RESULT_TARGET, d.target.code), (Reg.CLK_MODE_STATUS_IN_TRANSIT, 0)]
  | none => s.dropArb

/-- What FAULT_SAFE serves opens again when a device fault ends a commanded power-down (rule R556); a power-down flush no longer
stands for one of PFAIL handling (rule R75). -/
def State.reopen (s : State) : State :=
  if s.pwr.pdown.isNone then s
  else { s with pwr := { s.pwr with pdown := none, lanOpen := s.on Reg.CLK_ADMIT_STATUS_LAN_ADMITTED }
                hre := { s.hre with fetchOpen := true }, dsp := { s.dsp with open_ := true }, tly := { s.tly with powerDone := false } }.showMeas

/-- A device fault: LIVE_OUT stops, FAULT_SAFE follows from any main mode, and a commanded power-down in progress ends. In PFAIL
handling, which it does not interrupt, only LIVE_OUT stops (rule R62). -/
def State.deviceFault (s : State) : State :=
  if s.pwr.pfailLatched then s.stopLive
  else
    let t := s.overtake.stopLive.reopen
    let u := { t with pwr := { t.pwr with core := true } }
    if u.mode = .faultSafe then u else u.enterMode .faultSafe

/-! ## Stop inputs (rules R352, R353) -/

/-- The status bit of channel B or A. -/
def stopIn (b : Bool) : Fld := if b then Reg.TRP_STATUS_IN_B else Reg.TRP_STATUS_IN_A

/-- Whether the Trapdoor core is powered. -/
def State.coreOn (s : State) : Bool := s.mode != .cellar

/-- Both channels have opened together: a demand of both channels, counted once, and half of the end of a discrepancy
(rules R353, R367, R368). -/
def State.bothOpened (s : State) : State :=
  if s.on Reg.TRP_STATUS_IN_A || s.on Reg.TRP_STATUS_IN_B then s
  else
    let t := { s with trp := { s.trp with discBoth := true, bothOpen := true } }
    if s.trp.bothOpen then t
    else
      let u := { t with trp := { t.trp with demandAt := t.rd Reg.TLY_MONO } }
      (u.stopBy Reg.TRP_DEMAND_COUNT 1).wr Reg.TRP_STATUS_PROOF_DUE 0

/-- STOP_IN_OPEN: fleet STOP, or in DORMER_WATCH a latched opening (rule R59). -/
def stopInOpenOp (b : Bool) (s : State) : State :=
  if !s.coreOn then s
  else
    let t := (s.wr (stopIn b) 0).bothOpened
    if s.mode.main && s.pwr.mainPowered then
      t.raiseFleet true (if b then Reg.TRP_STOP_CAUSE_IN_B else Reg.TRP_STOP_CAUSE_IN_A)
    else { t with trp := { t.trp with dormant := true } }

/-- STOP_IN_CLOSE: with both channels closed, a discrepancy that has seen both open ends. -/
def stopInCloseOp (b : Bool) (s : State) : State :=
  if !s.coreOn then s
  else
    let t := s.wr (stopIn b) 1
    if t.on Reg.TRP_STATUS_IN_A && t.on Reg.TRP_STATUS_IN_B then
      let u := { t with trp := { t.trp with bothOpen := false } }
      if u.on Reg.TRP_STATUS_DISC_COND && u.trp.discBoth then u.wr Reg.TRP_STATUS_DISC_COND 0 else u
    else t

/-- DISCREPANCY: one channel open and the other closed for DISC_TIME. -/
def discrepancyOp (s : State) : State :=
  if s.on Reg.TRP_STATUS_IN_A == s.on Reg.TRP_STATUS_IN_B then s
  else
    let t := ({ s with trp := { s.trp with discBoth := false } }.wr Reg.TRP_STATUS_DISC_COND 1).fault Reg.TRP_FAULT_DISCREPANCY
    t.raiseFleet true Reg.TRP_STOP_CAUSE_DISCREPANCY

/-! ## Other sources -/

/-- LOCKSTEP_FLAG (rules R61, R351). -/
def lockstepFlagOp (s : State) : State :=
  let t := ({ s with twn := { s.twn with lockstep := true } }).fault Reg.GLB_FAULT_LOCKSTEP
  (t.stopLive.raiseFleet true Reg.TRP_STOP_CAUSE_LOCKSTEP).deviceFault

/-- OUT_READBACK_MISMATCH (rule R355). -/
def outReadbackMismatchOp (s : State) : State :=
  ((s.wr Reg.TRP_STATUS_OUT_COND 1).fault Reg.TRP_FAULT_OUT_FAULT).raiseFleet true Reg.TRP_STOP_CAUSE_OUT_FAULT

/-- OUT_FAULT_CONDITION_END (rule R355). -/
def outFaultConditionEndOp (s : State) : State := s.wr Reg.TRP_STATUS_OUT_COND 0

/-- RC4M_FAULT (rules R351, R354, R355). -/
def rc4mFaultOp (s : State) : State :=
  ((s.wr Reg.TRP_STATUS_RC4M_COND 1).fault Reg.TRP_FAULT_RC4M_FAULT).raiseFleet true Reg.TRP_STOP_CAUSE_CLOCK

/-- RC4M_RECOVER (rule R355). -/
def rc4mRecoverOp (s : State) : State := s.wr Reg.TRP_STATUS_RC4M_COND 0

/-- RESTRICTION_REQUEST (rule R351). -/
def restrictionRequestOp (q : RestrictReq) (s : State) : State :=
  match q with
  | .overrun => s.raiseFleet false Reg.TRP_HOLD_CAUSE_OVERRUN
  | .audit => s.raiseFleet false Reg.TRP_HOLD_CAUSE_AUDIT
  | .taskAudit => s.raiseFleet false Reg.TRP_HOLD_CAUSE_TASK_AUDIT
  | .tableEcc => s.raiseFleet false Reg.TRP_HOLD_CAUSE_TABLE_ECC
  | .hostLoss => s.raiseFleet false Reg.TRP_HOLD_CAUSE_HOST_LOSS
  | .twinMismatch => s.raiseFleet false Reg.TRP_HOLD_CAUSE_TWIN_MISMATCH
  | .memEcc => s.raiseFleet false Reg.TRP_HOLD_CAUSE_MEM_ECC
  | .pfail => s.raiseFleet false Reg.TRP_HOLD_CAUSE_PFAIL
  | .twinAmbiguity => s.raiseFleet true Reg.TRP_STOP_CAUSE_TWIN
  | .integrity r => s.raiseOwn r.val false (Reg.TRP_ROBOT_INTEGRITY r.val)
  | .coast r => s.raiseOwn r.val false (Reg.TRP_ROBOT_COAST r.val)
  | .mapLost r => s.raiseOwn r.val false (Reg.TRP_ROBOT_MAP_LOST r.val)
  | .envelope r => s.raiseOwn r.val true (Reg.TRP_ROBOT_ENVELOPE r.val)
  | .loopLost r => s.raiseOwn r.val true (Reg.TRP_ROBOT_LOOP_LOST r.val)

/-! ## Frames and the permit beacon (rules R356, R357, R403) -/

/-- TRAP_FRAME_REPEAT: the frame longest waiting leaves again, three times in all. -/
def trapFrameRepeatOp (s : State) : State :=
  match s.trp.repeats with
  | [] => s
  | r :: rest =>
    let t := s.emitTrap r.bytes
    { t with trp := { t.trp with repeats := if r.left ≤ 1 then rest else rest ++ [{ r with left := r.left - 1 }] } }

/-- The effective state of robot n: the more restrictive of the fleet's and its own (rule R347). -/
def State.effective (s : State) (n : Nat) : Nat := max s.trp.fleet.code (s.rd (Reg.TRP_ROBOT_OWN n))

/-- Whether robot n holds a committed token beyond the current slot. -/
def State.hasPath (s : State) (n : Nat) : Bool :=
  s.ldr.runs.any fun r => r.robot == n && !r.pending && (let d := slotDiff (slotPlus r.first (r.len - 1)) s.slotNow; decide (0 < d ∧ d < 64))

/-- The beacon entry of robot n (rules R357, R403): 3 without a federation ID; HOLD at least without a path. -/
def State.beaconEntry (s : State) (n : Nat) : Nat :=
  if (AMap.find n s.zyp.roster).isNone then 3 else if s.hasPath n then s.effective n else max 1 (s.effective n)

/-- The 96 bytes of a BEACON body; TIME is the 100 ms boundary. -/
def State.beaconBody (s : State) (time : YTime) : List Nat :=
  [s.trp.fleet.code, bit s.trp.mark, s.rd Reg.TRP_CFG_BEACON_TIMEOUT, 0] ++ le 4 (if s.trp.mark then s.trp.markEpoch else 0)
    ++ le 4 s.slotNow ++ le 2 s.slotMs ++ le 2 (s.rd Reg.GOV_CFG_LOOP_MS) ++ stamp time
    ++ ((List.range 64).map fun i => s.beaconEntry (4 * i) + 4 * s.beaconEntry (4 * i + 1) + 16 * s.beaconEntry (4 * i + 2)
          + 64 * s.beaconEntry (4 * i + 3))

/-- BEACON_TICK, at the next multiple of 100 ms: the unit that sends the pair stream sends the beacon on both LANs and the radio (rules
R357, R414, R415). -/
def beaconTickOp (s0 : State) : State :=
  let off := match s0.pwr.pdown with | some d => d.outputsOff | none => false
  if !s0.on Reg.CLK_ADMIT_STATUS_BEACON_ON || s0.follows || s0.mute || off then s0
  else
    let time := nextAt 100 s0.now s0.trp.beaconAt
    let a := s0.advance time
    let s : State := { a with trp := { a.trp with beaconAt := some time } }
    let q := s.broadcast 0x10 (s.beaconBody time)
    match q.1 with
    | none => q.2
    | some f =>
      let m := if q.2.twn.mirrored then q.2.linkSend 0x17 f else q.2
      let t := ((m.sendLan 0 f).sendLan 1 f).sendRadio 6 f
      let un := bit (decide (t.life ≤ 1))
      (t.wr Reg.TRP_STATUS_UNAUTH un).wr Reg.PIN_PANTRY_STATUS_BEACON_UNAUTH un

/-! ## Arming and the local reset (rules R87, R88, R360) -/

/-- Whether an attempt that starts now is a local reset: the strap allows it and no host has claimed since reset release. -/
def State.localArm (s : State) : Bool :=
  bits (s.rd Reg.PIN_STRAP_STATUS_STRAP) 0 1 == 1 && !s.hre.claimed && !s.hre.lockout

/-- RESET_ARM_RISE; `lowLong` says that RESET_ARM has been low for 1 s. A rise that a timeout still blocks counts as a refused
attempt (rule R87 does not say; DESIGN CHOICE, log entry 71). -/
def resetArmRiseOp (lowLong : Bool) (s : State) : State :=
  if !s.coreOn then s
  else
    let t := s.wr Reg.TRP_STATUS_ARM_LEVEL 1
    if !(s.mode.main && s.pwr.mainPowered) then t
    else
      let isLocal := t.localArm
      let u := { t with trp := { t.trp with arm := some isLocal, armBlocked := t.trp.armBlocked && !lowLong } }
      if u.trp.armBlocked || !u.stopSourcesClear || (isLocal && !u.trp.latch) then u.refuseArm else u

/-- The STOP causes and the latch clear. -/
def State.clearStop (s : State) : State := { s with trp := { s.trp with latch := false, dormant := false } }.wrAll 0 stopCauses

/-- RESET_ARM_FALL; `heldLong` says that RESET_ARM was high for 0.5 s or more. -/
def resetArmFallOp (heldLong : Bool) (s : State) : State :=
  if !s.coreOn then s
  else
    let t := s.wr Reg.TRP_STATUS_ARM_LEVEL 0
    match t.trp.arm with
    | none => t
    | some isLocal =>
      if !heldLong || !t.stopSourcesClear then t.refuseArm
      else
        let u := { t with trp := { t.trp with arm := none } }
        if isLocal then (u.clearStop.setFleet .hold).stopBy Reg.PIN_LOCAL_RESET_COUNT_ACCEPTED 1
        else u.wr Reg.TRP_STATUS_ARMED 1

/-- RESET_ARM_HOLD_TIMEOUT: high beyond 5 s. -/
def resetArmHoldTimeoutOp (s : State) : State :=
  match s.trp.arm with
  | none => s
  | some _ => { s with trp := { s.trp with armBlocked := true } }.refuseArm

/-- ARM_WINDOW_EXPIRE. -/
def armWindowExpireOp (s : State) : State := s.wr Reg.TRP_STATUS_ARMED 0

/-- DAYS of TRP_DEMAND: days since the last demand of both channels, stopping at 0xFFFF. -/
def State.demandDays (s : State) : Nat := min 0xFFFF ((s.rd Reg.TLY_MONO - s.trp.demandAt) / 86400)

/-- PROOF_TIMER: PROOF_DAYS have passed since the last demand of both channels (rule R368). -/
def proofTimerOp (s : State) : State :=
  if s.demandDays ≥ s.rd Reg.TRP_CFG_PROOF_DAYS && !s.on Reg.TRP_STATUS_PROOF_DUE then
    (s.wr Reg.TRP_STATUS_PROOF_DUE 1).fault Reg.TRP_FAULT_PROOF_DUE
  else s

/-! ## Relaxations (rules R348, R360 to R363) -/

/-- Whether GO is refused with CONFLICT (rule R362); a fleet in STOP leaves to HOLD only through CLEAR. -/
def State.goConflict (s : State) : Bool :=
  s.trp.fleet == .stop || s.on Reg.TRP_HOLD_CAUSE_IDLE || s.on Reg.TRP_HOLD_CAUSE_AUDIT || s.on Reg.TRP_HOLD_CAUSE_TASK_AUDIT
    || s.on Reg.TRP_HOLD_CAUSE_TABLE_ECC || s.on Reg.TRP_HOLD_CAUSE_PFAIL || !s.trp.dormerHold.isEmpty
    || (s.on Reg.TRP_HOLD_CAUSE_HOST_LOSS && !s.on Reg.HRE_STATUS_HOST_PRESENT)

/-- GO takes effect. -/
def State.applyGo (s : State) : State :=
  let t := (s.wrAll 0 holdCauses).setFleet .go
  if t.mode = .fleetHold then t.enterMode .fleetRun else t

/-- Whether CLEAR is refused with CONFLICT (rule R360): step 1 fails, or there is no STOP to leave. -/
def State.clearConflict (s : State) : Bool := !s.stopSourcesClear || s.trp.fleet != .stop

/-- CLEAR takes effect; after a Trapdoor STOP alone FAULT_SAFE passes to FLEET_HOLD (rules R61, R361). -/
def State.applyClear (s : State) : State :=
  let t := ((s.clearStop.wr Reg.TRP_HOLD_CAUSE_RECOVER 1).wr Reg.TRP_STATUS_ARMED 0).setFleet .hold
  if t.mode = .faultSafe ∧ t.on Reg.CLK_ADMIT_STATUS_TABLES_COMMITTED then t.enterMode .fleetHold else t

/-- Whether ROBOT_GO is refused with CONFLICT (rule R363). -/
def State.robotGoConflict (s : State) (r : Nat) : Bool :=
  s.on (Reg.CRE_ROBOT_XCHK_FAIL r) || (s.loop r).mode == .coast || (s.loop r).mode == .lost

/-- The own state of robot r returns to GO with its causes clear. -/
def State.ownGo (s : State) (r : Nat) : State :=
  (s.wrAll 0 [Reg.TRP_ROBOT_OWN r, Reg.TRP_ROBOT_HOST r, Reg.TRP_ROBOT_INTEGRITY r, Reg.TRP_ROBOT_COAST r, Reg.TRP_ROBOT_ENVELOPE r,
    Reg.TRP_ROBOT_LOOP_LOST r, Reg.TRP_ROBOT_MAP_LOST r]).sendState

/-! ## Host commands (rules R364, R365) -/

/-- Byte i of a payload. -/
def byteAt (p : List Byte) (i : Nat) : Nat := (p.getD i 0).toNat

/-- The number in bytes [lo + k - 1 : lo] of a payload. -/
def leAt (p : List Byte) (lo k : Nat) : Nat := unle (((p.drop lo).take k).map BitVec.toNat)

/-- Whether a command payload breaks its format. -/
def trapBad (p : List Byte) (op : Nat) : Bool :=
  byteAt p 0 != 1 || byteAt p 1 != op || (decide (op ≤ 4) && byteAt p 2 != 0) || byteAt p 3 != 0 || leAt p 8 8 != 0

/-- Whether the tag of a command payload verifies under the Trapdoor command key. -/
def State.trapTagOk (s : State) (p : List Byte) : Bool :=
  match s.keyOf 8 with
  | none => false
  | some k => (hmacBytes k ((p.take 16).map BitVec.toNat ++ le 8 Config.serial)).take 16 == ((p.drop 16).take 16).map BitVec.toNat

/-- A Trapdoor command: checks 1 to 3 and the recording of CMD_SEQ, then `body`, which makes checks 4 to 6. -/
def State.trapCmd (s : State) (c : Cmd) (op : Nat) (data : List Byte) (body : State → State) : State :=
  s.hostCmd c .command fun t =>
    if c.desc.length ≠ 32 then t.finish c St.badLength 0 0
    else if trapBad data op then t.finish c St.badFormat 32 0
    else if !t.trapTagOk data then
      ((t.bump Reg.TRP_AUTH_FAIL Reg.TRP_FAULT_CNT_SAT).fault Reg.TRP_FAULT_AUTH_FAIL).finish c St.authFail 32 0
    else if !later (leAt data 4 4) (t.rd Reg.TRP_CMD_SEQ) then t.finish c St.stale 32 0
    else body (t.wr Reg.TRP_CMD_SEQ (leAt data 4 4))

/-- HOLD (rule R365). -/
def holdOp (c : Cmd) (data : List Byte) (s : State) : State :=
  s.trapCmd c 1 data fun t => (t.raiseFleet false Reg.TRP_HOLD_CAUSE_HOST).finish c St.done 32 0

/-- STOP. -/
def stopOp (c : Cmd) (data : List Byte) (s : State) : State :=
  s.trapCmd c 2 data fun t => (t.raiseFleet true Reg.TRP_STOP_CAUSE_HOST).finish c St.done 32 0

/-- GO: an input of the epoch (rule R362). -/
def goOp (c : Cmd) (data : List Byte) (s : State) : State :=
  s.trapCmd c 3 data fun t => if !t.mode.fleet then t.finish c St.refusedMode 32 0 else t.epochInput c .go (data.map BitVec.toNat)

/-- CLEAR (rules R360, R361). -/
def clearOp (c : Cmd) (data : List Byte) (s : State) : State :=
  s.trapCmd c 4 data fun t =>
    if t.follows ∨ (t.mode = .faultSafe ∧ t.pwr.core) then t.finish c St.refusedMode 32 0
    else if !t.on Reg.TRP_STATUS_ARMED then t.finish c 0x80 32 0
    else if t.mode.commits then t.epochInput c .clear (data.map BitVec.toNat)
    else if t.clearConflict then t.finish c St.conflict 32 0
    else t.applyClear.finish c St.done 32 0

/-- ROBOT_HOLD. -/
def robotHoldOp (c : Cmd) (data : List Byte) (s : State) : State :=
  s.trapCmd c 5 data fun t => (t.raiseOwn (byteAt data 2) false (Reg.TRP_ROBOT_HOST (byteAt data 2))).finish c St.done 32 0

/-- ROBOT_STOP. -/
def robotStopOp (c : Cmd) (data : List Byte) (s : State) : State :=
  s.trapCmd c 6 data fun t => (t.raiseOwn (byteAt data 2) true (Reg.TRP_ROBOT_HOST (byteAt data 2))).finish c St.done 32 0

/-- ROBOT_GO (rule R363). -/
def robotGoOp (c : Cmd) (data : List Byte) (s : State) : State :=
  s.trapCmd c 7 data fun t =>
    if t.follows then t.finish c St.refusedMode 32 0
    else if t.mode.commits then t.epochInput c (.robotGo (byteAt data 2)) (data.map BitVec.toNat)
    else if t.robotGoConflict (byteAt data 2) then t.finish c St.conflict 32 0
    else (t.ownGo (byteAt data 2)).finish c St.done 32 0

/-- COMMIT of group TRAP (rule R369). -/
def trapCommitOp (s : State) : State :=
  let d := s.sh Reg.TRP_CFG_DISC_TIME
  let b := s.sh Reg.TRP_CFG_BEACON_TIMEOUT
  let a := s.sh Reg.TRP_CFG_ARM_WINDOW
  let v := firstFail [(s.mode.fleet || s.follows, St.refusedMode),
    (decide (d < 10 ∨ b < 25 ∨ b > 100 ∨ a < 5 ∨ a > 120 ∨ s.sh Reg.TRP_CFG_PROOF_DAYS = 0), St.badFormat)]
  s.commit Reg.TRP_COMMIT_RESULT
    [Reg.TRP_CFG_DISC_TIME, Reg.TRP_CFG_BEACON_TIMEOUT, Reg.TRP_CFG_ARM_WINDOW, Reg.TRP_CFG_PROOF_DAYS] v

/-! ## Meanings -/

/-- Meaning of STOP_IN_OPEN: channel B or A. -/
def execStopInOpen (b : Bool) (s : State) : Out := .next (stopInOpenOp b s)
/-- Meaning of STOP_IN_CLOSE. -/
def execStopInClose (b : Bool) (s : State) : Out := .next (stopInCloseOp b s)
/-- Meaning of DISCREPANCY. -/
def execDiscrepancy (s : State) : Out := .next (s.whenMain discrepancyOp)
/-- Meaning of LOCKSTEP_FLAG. -/
def execLockstepFlag (s : State) : Out := .next (s.whenMain lockstepFlagOp)
/-- Meaning of OUT_READBACK_MISMATCH. -/
def execOutReadbackMismatch (s : State) : Out := .next (s.whenMain outReadbackMismatchOp)
/-- Meaning of OUT_FAULT_CONDITION_END. -/
def execOutFaultConditionEnd (s : State) : Out := .next (s.whenMain outFaultConditionEndOp)
/-- Meaning of RC4M_FAULT. -/
def execRc4mFault (s : State) : Out := .next (s.whenMain rc4mFaultOp)
/-- Meaning of RC4M_RECOVER. -/
def execRc4mRecover (s : State) : Out := .next (s.whenMain rc4mRecoverOp)
/-- Meaning of RESTRICTION_REQUEST. -/
def execRestrictionRequest (q : RestrictReq) (s : State) : Out := .next (s.whenMain (restrictionRequestOp q))
/-- Meaning of TRAP_FRAME_REPEAT. -/
def execTrapFrameRepeat (s : State) : Out := .next (s.whenMain trapFrameRepeatOp)
/-- Meaning of BEACON_TICK. -/
def execBeaconTick (s : State) : Out := .next (s.whenMain beaconTickOp)
/-- Meaning of ARM_WINDOW_EXPIRE. -/
def execArmWindowExpire (s : State) : Out := .next (s.whenMain armWindowExpireOp)
/-- Meaning of PROOF_TIMER. -/
def execProofTimer (s : State) : Out := .next (s.whenMain proofTimerOp)
/-- Meaning of HOLD. -/
def execHold (c : Cmd) (data : List Byte) (s : State) : Out := .next (s.whenMain (holdOp c data))
/-- Meaning of STOP. -/
def execStop (c : Cmd) (data : List Byte) (s : State) : Out := .next (s.whenMain (stopOp c data))
/-- Meaning of GO. -/
def execGo (c : Cmd) (data : List Byte) (s : State) : Out := .next (s.whenMain (goOp c data))
/-- Meaning of CLEAR. -/
def execClear (c : Cmd) (data : List Byte) (s : State) : Out := .next (s.whenMain (clearOp c data))
/-- Meaning of ROBOT_HOLD. -/
def execRobotHold (c : Cmd) (data : List Byte) (s : State) : Out := .next (s.whenMain (robotHoldOp c data))
/-- Meaning of ROBOT_STOP. -/
def execRobotStop (c : Cmd) (data : List Byte) (s : State) : Out := .next (s.whenMain (robotStopOp c data))
/-- Meaning of ROBOT_GO. -/
def execRobotGo (c : Cmd) (data : List Byte) (s : State) : Out := .next (s.whenMain (robotGoOp c data))
/-- Meaning of TRAP_COMMIT. -/
def execTrapCommit (s : State) : Out := .next (s.whenMain trapCommitOp)
/-- Meaning of RESET_ARM_RISE. -/
def execResetArmRise (lowLong : Bool) (s : State) : Out := .next (resetArmRiseOp lowLong s)
/-- Meaning of RESET_ARM_FALL. -/
def execResetArmFall (heldLong : Bool) (s : State) : Out := .next (resetArmFallOp heldLong s)
/-- Meaning of RESET_ARM_HOLD_TIMEOUT. -/
def execResetArmHoldTimeout (s : State) : Out := .next (s.whenMain resetArmHoldTimeoutOp)

end Sys2Proof.Machine
end

