-- ==== Sys2Proof/Machine/Epoch.lean ====
section
/-! DEFINITION. The decision epoch (rules R11 to R17, R277, R282, R309, R348, R402, R461, R464, R558) and the roster's effect
(rules R417, R418). -/

namespace Sys2Proof.Machine

/-! ## Operations and host inputs -/

/-- An output of the epoch whose answer is not kept. -/
def State.out (s : State) (typ lid : Nat) (body : List Nat) : State :=
  { s with epo := { s.epo with outs := s.epo.outs ++ [⟨typ, lid, body⟩] } }

/-- The answer to an operation that is refused before it reaches its block: GRANT for a REQUEST, REPLY for the others. -/
def refusalOf (b : OpBody) (st opId : Nat) : Nat × List Nat :=
  match b with
  | .request _ => (0x12, grantBody opId (.refuse st))
  | .release _ => (0x13, replyBody st 4 opId 0)
  | .event _ => (0x13, replyBody st 5 opId 0xFF)

/-- A REQUEST or EVENT refused for the mode counts as those that the Larder and the task machines refuse (rules R86, R271, R310; log entry 71). -/
def State.countRefusal (s : State) (b : OpBody) : State :=
  match b with
  | .request _ => s.bump Reg.LDR_REQ_REFUSED Reg.LDR_FAULT_CNT_SAT
  | .event _ => s.bump Reg.TRK_EV_REFUSED Reg.TRK_FAULT_CNT_SAT
  | .release _ => s

/-- A later operation is decided (rules R400, R401): a request or release goes to the Larder, an event runs. -/
def State.takeOp (s : State) (r : RosterEnt) (op : RobotOp) : State :=
  let lid := op.lid.val
  let id := op.opId.toNat
  let t := { s with epo := { s.epo with asked := AMap.set lid id s.epo.asked } }
  let refuse := fun (st : Nat) => let a := refusalOf op.body st id; t.answer lid id a.1 a.2
  let post := fun (w : LdrWork) => { t with epo := { t.epo with work := t.epo.work ++ [w] } }
  match op.body with
  | .request q =>
    if !t.on Reg.CLK_ADMIT_STATUS_TABLES_COMMITTED then (refuse St.refusedMode).countRefusal op.body
    else if q.badLen then refuse St.badLength
    else if q.rsv then refuse St.badFormat
    else post (.request { q with lid := op.lid, cls := Fin.ofNat 16 r.cls, reqId := op.opId })
  | .release p => post (.release { p with lid := op.lid } 0 id)
  | .event e =>
    let x := t.runEvent 0 lid e.task.val e.event.toNat e.arg.toNat e.rsv
    x.2.2.answer lid id 0x13 (replyBody x.1 5 id x.2.1)

/-- The decision pair takes an operation of the epoch input list (rule R402). -/
def State.decideOp (s : State) (op : RobotOp) : State :=
  let lid := op.lid.val
  let id := op.opId.toNat
  let mark := { s with epo := { s.epo with asked := AMap.set lid id s.epo.asked } }
  match AMap.find lid s.zyp.roster with
  | none => s
  | some r =>
    if AMap.find lid s.epo.asked = some id then s
    else
      let kept := AMap.find lid s.zyp.ops
      let last := (AMap.find lid s.epo.asked).or (kept.map (·.opId))
      if (kept.map (·.opId)) = some id then
        (match kept with | some k => mark.out k.typ lid k.body | none => s)
      else if (match last with | some l => !later id l | none => false) then
        let a := refusalOf op.body St.stale id
        mark.out a.1 lid a.2
      else if !s.epo.mode0.commits then
        let a := refusalOf op.body St.refusedMode id
        (mark.countRefusal op.body).out a.1 lid a.2
      else s.takeOp r op

/-- Sets the result of host input i of the epoch. -/
def State.setResult (s : State) (i : Nat) (v : HostResult) : State :=
  let put := fun (x : EpochInput × Nat) => if x.2 = i then { x.1 with res := some v } else x.1
  { s with epo := { s.epo with taken := (s.epo.taken.zip (List.range s.epo.taken.length)).map put } }

/-- The decision pair reaches host input i: an event runs and a release goes to the Larder; the others wait for their place. -/
def State.decideHost (s : State) (i : Nat) (e : EpochInput) : State :=
  match e.kind with
  | .taskEvent ev =>
    let x := s.runEvent 1 ev.robot.val ev.task.val ev.event.toNat ev.arg.toNat ev.rsv
    x.2.2.setResult i ⟨x.1, 0, x.2.1⟩
  | .release r => { s with epo := { s.epo with work := s.epo.work ++ [.release r 1 0] } }
  | _ => s

/-- The list of the epoch in order: operations by ADM_SEQ, host inputs at the position of their fetch (rules R170, R282). -/
def State.decideList (s : State) : Nat → State
  | 0 => s
  | fuel + 1 =>
    let i := s.epo.hostDone
    let host := fun (h : EpochInput) => { s with epo := { s.epo with hostDone := i + 1 } }.decideHost i h
    let op := fun (x : RobotOp) (rest : List (Nat × RobotOp)) => { s with epo := { s.epo with ops := rest } }.decideOp x
    match s.epo.ops, s.epo.taken.drop i with
    | [], [] => s
    | [], h :: _ => (host h).decideList fuel
    | (_, x) :: rest, [] => (op x rest).decideList fuel
    | (a, x) :: rest, h :: _ => if laterEq h.adm a then (op x rest).decideList fuel else (host h).decideList fuel

/-- The TASK_FORCE inputs of the epoch, after the list events (rule R317). -/
def State.decideForces (s : State) : List (EpochInput × Nat) → State
  | [] => s
  | (e, i) :: t =>
    match e.kind with
    | .taskForce task st holder =>
      let r := s.forceTask task st holder
      State.decideForces (r.2.setResult i ⟨r.1, 0, 0⟩) t
    | _ => State.decideForces s t

/-- The start of the epoch's decisions: what an abandonment restores is kept, and ROBOT_GONE and ROBOT_STOP run (rule R309). -/
def State.prepare (s : State) : State :=
  if s.epo.prepared then s
  else
    let t := { s with epo := { s.epo with prepared := true }, trk := { s.trk with tasks0 := s.trk.tasks },
                      gov := { s.gov with loops0 := s.gov.loops }, zyp := { s.zyp with ops0 := s.zyp.ops } }
    if !t.epo.mode0.fleet then t
    else
      let u := t.deviceEvents t.epo.goneNow (fun (x : State) h k r => x.robotGone h k r) t.trk.tasks
      u.deviceEvents t.epo.stopNow (fun (x : State) h k _ => (x.runEvent 2 h k 8 0 false).2.2) u.trk.tasks

/-- Nanoseconds from the time origin of a request to a time, 0 before it: the slot number of 32 bits is the one nearest the time's own
(rules R267, R268). -/
def State.sinceOrigin (s : State) (q : ReqPkt) (t : YTime) : Nat :=
  let full : Int := ((t.sec * 1000 + t.ns / 1000000) / s.slotMs : Nat)
  let start := full - signed 32 (slotDiff (slotOf s.slotMs t) q.startSlot.toNat)
  (((t.sec * 1000000000 + t.ns : Nat) : Int) - (start * (s.slotMs : Int) + (q.startMs.toNat : Int)) * 1000000).toNat

/-- The profile distance of a request at a time, from the beginning of its path (rule R268). -/
def profileAt (q : ReqPkt) (ns : Nat) : Dist :=
  let d := distAt 1000000 ns 0 0 q.knots
  (d.1 + q.sOfs.toNat * d.2, d.2)

/-- ERR in TRACK: the profile distance at the measurement time less S_MEAS, in whole mm (rule R321). -/
def State.trackErr (s : State) (q : ReqPkt) (t : YTime) (sMeas : Nat) : Int :=
  let d := profileAt q (s.sinceOrigin q t)
  wholeRatio ((d.1 : Int) - (sMeas : Int) * d.2) d.2

/-- V_LIM on the path of a request: the class's V_MAX on a polyline, else the lowest limit from S_MEAS to where the profile is LOOP_MS
later (rule R321, log entry 43); none where that stretch is empty. -/
def State.limitAhead (s : State) (q : ReqPkt) (cls : Nat) (t : YTime) (sMeas : Nat) : Option Nat :=
  let v := (footAt s.trk.live cls).vmax
  match q.path with
  | .points _ => some v
  | .segs _ =>
    let d := profileAt q (s.sinceOrigin q t + s.rd Reg.GOV_CFG_LOOP_MS * 1000000)
    lowestLimit (sMeas * 65536) (max (sMeas * 65536) (d.1 * 65536 / d.2)) 0 (pathPieces s.trk.live v q.path)

/-- The loop input of a robot (rule R321): a robot not at GO gets HOLD in place of TRACK and DOCK (rule R461); GSLOT is 0xFF where no
grant is live in that slot; ERR of TRACK and V_LIM come from the grant. -/
def State.makeLoopIn (s : State) (lid : Nat) (r : RosterEnt) (x : LoopSpec) : LoopIn :=
  let held := s.epo.fleet0 != .go || s.epo.holdOwn.contains lid
  let mode := if held && (x.mode.val == 1 || x.mode.val == 2) then 3 else x.mode.val
  let p := AMap.find lid s.epo.pos
  let time := (p.map (·.time)).getD YTime.zero
  let g := if x.gslot.toNat < 7 then (AMap.find (8 * lid + x.gslot.toNat) s.ldr.grants).map (·.req) else none
  let err := match g with
    | some q => if x.mode.val = 1 then BitVec.ofInt 32 (s.trackErr q time x.sMeas.toNat) else x.err
    | none => x.err
  let vLim := match g.bind fun q => s.limitAhead q r.cls time x.sMeas.toNat with
    | some v => BitVec.ofNat 16 v
    | none => x.vLim
  { lid := x.lid, mode := BitVec.ofNat 8 mode, cls := Fin.ofNat 16 r.cls, epoch := BitVec.ofNat 32 (s.rd Reg.GLB_EPOCH),
    posSeq := BitVec.ofNat 32 ((p.map (·.posSeq)).getD 0), err := err, sMeas := x.sMeas, gslot := if g.isSome then x.gslot else 0xFF#8,
    posValid := (p.map (·.valid)).getD false, vLim := vLim, measTime := time, rsv := false }

/-- The loop inputs of the epoch in ascending local ID. -/
def State.loopInputs (s : State) (l : List LoopSpec) : List LoopIn :=
  s.zyp.roster.filterMap fun (x : Nat × RosterEnt) => (l.find? fun y => y.lid.val == x.1).map (s.makeLoopIn x.1 x.2)

/-- EPOCH_DECIDE (rules R282, R309): task work in order, Larder packets posted, loop inputs posted in the fleet modes. -/
def epochDecideOp (l : List LoopSpec) (s : State) : State :=
  if !(s.epo.opened && s.epo.released && s.epo.snapped) || s.epo.decided || (s.follows && !(s.epo.ended && s.twn.missing.isEmpty)) then s
  else
    let a := s.prepare
    let b := a.decideList (a.epo.ops.length + a.epo.taken.length)
    let c := b.decideForces (b.epo.taken.zip (List.range b.epo.taken.length))
    let d := if c.epo.mode0.fleet && !c.on Reg.TRK_STATUS_AUDIT_LOCK then c.timeouts c.trk.tasks else c
    { d with epo := { d.epo with decided := true, work := d.epo.work ++ d.epo.envs.map LdrWork.envelope, envs0 := d.epo.envs, envs := [],
                                 loopQ := if d.epo.mode0.fleet then d.loopInputs l else [] } }

/-! ## The roster (rules R417, R418) -/

/-- The roster after a load. -/
def rosterAfter (m : AMap RosterEnt) (es : List RosterLine) : AMap RosterEnt :=
  es.foldl (fun m e => if e.valid then AMap.set e.lid.val ⟨e.fed.toNat, e.cls.val, e.radio⟩ m else AMap.del e.lid.val m) m

/-- Whether robot n holds a live grant. -/
def State.hasGrant (s : State) (n : Nat) : Bool := s.ldr.grants.any fun p => p.1 / 8 == n

/-- The status of a ROSTER load. -/
def State.rosterStatus (s : State) (es : List RosterLine) : Nat :=
  let m := rosterAfter s.zyp.roster es
  let bad := fun (e : RosterLine) =>
    e.rsv || decide (e.fed.toNat ≥ 262144) || (e.valid && (e.fed.toNat == 0 || decide (e.fed.toNat ≥ broadcastId) || e.fed.toNat == s.yardId))
  let recast := fun (e : RosterLine) => match AMap.find e.lid.val s.zyp.roster, AMap.find e.lid.val m with
    | some a, some b => a.fed == b.fed && a.cls != b.cls && s.hasGrant e.lid.val
    | _, _ => false
  firstFail
    [(es.any bad || repeats (m.map (·.2.fed)) || decide ((m.filter fun p => p.2.radio).length > 40), St.badFormat),
     (es.any recast, St.conflict)]

/-- A task moved to the pool at its START at once, outside the fleet modes (rule R312). -/
def State.poolNow (s : State) (n : Nat) : State :=
  s.trk.tasks.foldl (fun t p => match p.2.holder with
    | some h => if h = n then (t.forceMove p.1 p.2).settleTask p.1 else t
    | none => t) s

/-- Local ID n passes to another federation ID or to none (rules R243, R290, R312, R337): its tokens, tasks, filter, own state,
windows and kept answers go. -/
def State.changeHolder (s : State) (n : Nat) : State :=
  let a := ((s.releaseAll (some n)).ownGo n).creForget n
  let b := if a.mode.fleet then { a with epo := { a.epo with gone := a.epo.gone ++ [n] } }
           else (a.poolNow n).trkCounters.showTasks
  let c := if (b.loop n).mode = .lost then b.setLoop n (b.loop n).offNow else b
  { c with zyp := { c.zyp with windows := c.zyp.windows.filter (fun (p : Nat × Window) => p.1 / 16 != n),
                               status := AMap.del n c.zyp.status, statusIn := c.zyp.statusIn.filter (fun (o : OwnFrame) => o.lid != n), ops := AMap.del n c.zyp.ops, ops0 := AMap.del n c.zyp.ops0,
                               reach := c.zyp.reach.filter (fun (p : Nat × Endpoint) => p.1 / 2 != n) },
           epo := { c.epo with lists := c.epo.lists.map fun (p : Nat × List (Nat × RobotOp)) => (p.1, p.2.filter fun x => x.2.lid.val != n) } }

/-- A ROSTER load takes effect and is written to the settings area. -/
def State.rosterApply (s : State) (es : List RosterLine) : State :=
  let m := rosterAfter s.zyp.roster es
  let fed := fun (r : AMap RosterEnt) (n : Nat) => (AMap.find n r).map (·.fed)
  let moved := (es.foldl (fun l e => insertNat e.lid.val l) []).filter fun n => fed m n != fed s.zyp.roster n
  let t := moved.foldl State.changeHolder s
  ({ t with zyp := { t.zyp with roster := m } }).storeWith fun (a : SettingsArea) => { a with roster := m }

/-! ## The commit (rules R277, R311, R348, R558) -/

/-- The status of a relaxation at its commit, and the state with it applied; none for other inputs. -/
def State.relax (s : State) (e : EpochInput) : Option (Nat × State) :=
  let decide1 := fun (conflict : Bool) (t : State) =>
    if e.met || conflict then (St.conflict, s) else (St.done, t)
  match e.kind with
  | .go => some (if !s.mode.fleet then (St.refusedMode, s) else decide1 s.goConflict s.applyGo)
  | .clear => some (if s.mode = .faultSafe ∧ s.pwr.core then (St.refusedMode, s) else decide1 s.clearConflict s.applyClear)
  | .robotGo r =>
    let now1 := slotPlus s.slotNow 1
    let t := s.ownGo r
    let freed := fun (x : Run) => if x.robot == r && x.env && !x.pending then x.release now1 else x
    some (decide1 (s.robotGoConflict r) { t with ldr := { t.ldr with runs := t.ldr.runs.map freed } })
  | _ => none

/-- The relaxations of the epoch in order. -/
def State.relaxAll (s : State) : List (EpochInput × Nat) → State
  | [] => s
  | (e, i) :: t =>
    match s.relax e with
    | none => State.relaxAll s t
    | some r => State.relaxAll (r.2.setResult i ⟨r.1, 32, 0⟩) t

/-- The length a ROSTER descriptor moves. -/
def cmdLength (e : EpochInput) : Nat := (e.cmd.map (·.desc.length.toNat)).getD 0

/-- The other inputs that take effect at the commit: unblocks, table commits, roster loads and rekeys. -/
def State.commitInput (s : State) (e : EpochInput) (i : Nat) : State :=
  match e.kind with
  | .unblock cell clean =>
    let r := s.unblockNow cell clean
    r.2.setResult i ⟨r.1, 0, 0⟩
  | .fleet => match s.tablesConflict with
    | some x => s.fleetRefuse St.conflict x
    | none => s.fleetApply
  | .pace => s.paceApply
  | .roster es =>
    let v := s.rosterStatus es
    (if v = St.done then s.rosterApply es else s).setResult i ⟨v, cmdLength e, 0⟩
  | .rekey no sec =>
    let v := s.rekeyStatus no
    if v = St.done then s.rekeyAccept no sec (e.cmd.map fun c => (c, cmdLength e)) else s.setResult i ⟨v, cmdLength e, 0⟩
  | _ => s

/-- All of them in order. -/
def State.commitInputs (s : State) : List (EpochInput × Nat) → State
  | [] => s
  | (e, i) :: t => State.commitInputs (s.commitInput e i) t

/-- The commands among the inputs complete with their results; a rekey that was accepted completes with its record. -/
def State.finishInputs (s : State) : List EpochInput → State
  | [] => s
  | e :: t => State.finishInputs (match e.cmd, e.res with | some c, some r => s.finish c r.status r.doneLen r.result | _, _ => s) t

/-! ## Outputs -/

/-- A difference of times in whole units of `unit` × 2⁻¹⁶ ns, from 0 to 255. -/
def shortAge (a b : YTime) (unit : Int) : Nat := (max 0 (min 255 (timeDiff a b / unit))).toNat

/-- A COMPACT_OUT entry from a COMMAND body (rule R410); `t0` is the epoch's boundary. -/
def compactEntry (t0 : YTime) (f : TxFrame) : List Nat :=
  let v := unle ((f.body.drop 8).take 4)
  let comp := stampOf ((f.body.drop 32).take 16)
  [f.lid, f.body.getD 0 0] ++ le 2 (min 65535 ((v + 128) / 256)) ++ (f.body.drop 4).take 2
    ++ [shortAge comp t0 32768000000, shortAge comp (stampOf ((f.body.drop 16).take 16)) 65536000000]

/-- The COMPACT_OUT body of the epoch, if it has an entry. -/
def State.compactOut (s : State) : Option (List Nat) :=
  let t0 := s.epo.last.getD s.now
  let radio := s.zyp.roster.filter fun (p : Nat × RosterEnt) => p.2.radio
  let fs := radio.flatMap fun p => s.epo.outs.filter fun f => f.typ == 0x14 && f.lid == p.1
  let es := fs.take 40
  if es.isEmpty then none else some ([es.length, 0, 0, 0, 0, 0, 0, 0] ++ es.flatMap (compactEntry t0))

/-- A COMPACT_OUT that has not started is discarded for the next (rule R413). -/
def State.replaceCompact (s : State) : State :=
  let c := s.chute 17
  let old := c.pkts.filter fun (p : Packet) => p.prio == 5
  let t := s.setChute 17 ({ c with pkts := c.pkts.filter fun (p : Packet) => p.prio != 5 }.giveBack (pktWords old))
  old.foldl (fun u _ => u.bump Reg.SRP_LATE (Reg.PORT_CNT_OVF_CNT_SAT 2)) t

/-- The outputs of the epoch leave (rules R387, R402, R408, R410): speed commands only in the fleet modes. -/
def State.sendOuts (s : State) : State :=
  let outs := if s.mode.fleet || s.follows then s.epo.outs else s.epo.outs.filter fun f => f.typ != 0x14
  let t := outs.foldl (fun (u : State) f => u.sendPair f.typ f.lid f.body) s
  match ({ t with epo := { t.epo with outs := outs } }).compactOut with
  | none => t
  | some b =>
    let q := t.broadcast 0x16 b
    match q.1 with
    | none => q.2
    | some f => if q.2.driveRadio then q.2.replaceCompact.sendRadio 5 f else q.2

/-! ## Digest (rule R464) -/

/-- The frames of the epoch as the digest reads them: header with SEAT clear and body, times zeroed; `seq` gives the SEQ each
will carry. -/
def State.digestFrames (s : State) (seq : AMap Nat) : List TxFrame → List Nat
  | [] => []
  | f :: t =>
    match AMap.find f.lid s.zyp.roster with
    | none => State.digestFrames s seq t
    | some r =>
      let k := r.fed * 32 + f.typ
      let q := AMap.get seq k 0
      let body := if f.typ = 0x14 then f.body.take 32 ++ List.replicate 16 0 else f.body
      zypHeader f.typ 0 f.lid s.yardId r.fed (s.rd Reg.LNA_ZYP_BOOT) q (s.rd Reg.GLB_EPOCH) ++ body
        ++ State.digestFrames s (AMap.set k (q + 1) seq) t

/-- A COMPACT_OUT body with COMP_OFS zeroed. -/
def compactDigest (b : List Nat) : List Nat := b.take 8 ++ (chunks b.length (b.drop 8)).flatMap fun e => e.set 6 0
where
  chunks : Nat → List Nat → List (List Nat)
    | 0, _ => []
    | _, [] => []
    | k + 1, l => l.take 8 :: chunks k (l.drop 8)

/-- The eight streams of the digest. -/
def State.digestStreams (s : State) : List (List Nat) :=
  let outs := s.epo.outs
  let frames := s.digestFrames s.zyp.seq outs ++
    (match s.compactOut with
     | none => []
     | some b => zypHeader 0x16 0 255 s.yardId broadcastId (s.rd Reg.LNA_ZYP_BOOT) (AMap.get s.zyp.seq (broadcastId * 32 + 0x16) 0)
                   (s.rd Reg.GLB_EPOCH) ++ compactDigest b)
  let recs := fun (c : Nat) => (s.epo.recs.filter fun (p : Nat × List Nat) => p.1 == c).flatMap (·.2)
  let loops := s.gov.loops.flatMap fun (p : Nat × Loop) => le 4 (unsigned 32 p.2.i) ++ le 4 (unsigned 32 p.2.u) ++ le 4 (unsigned 32 p.2.e)
  let kinds := s.epo.taken.flatMap fun (e : EpochInput) => match e.kind with
    | .go => [3] | .clear => [4] | .robotGo r => [7, r] | _ => []
  let commits := s.epo.taken.flatMap fun (e : EpochInput) => match e.kind with
    | .fleet => [0] | .pace => [1] | .roster _ => [2] | _ => []
  let blocks := (s.ldr.quar.filter (·.ready)).flatMap fun (q : Quar) => le 4 q.cell
  [frames, recs 1, recs 2, recs 3 ++ loops, s.epo.fleet0.code :: s.epo.holdOwn ++ kinds, le 4 (s.rd Reg.TRK_GEN) ++ commits ++ blocks, [], []]

/-- DIGEST and the eight CLASS values. -/
def State.digestOf (s : State) : List Nat × List (List Nat) :=
  let l := s.digestStreams
  (shaBytes (l.flatMap fun x => le 4 x.length ++ x), l.map fun x => (shaBytes x).take 8)

/-- The digest closes: the outputs pass chute 59 and the digest record goes to chute 60. -/
def State.closeDigest (s : State) : State :=
  let d := s.digestOf
  let t := s.epo.outs.foldl (fun (u : State) f => u.consume 59 (toWords f.body)) s
  let u := t.send 60 0 (le 4 (s.rd Reg.GLB_EPOCH) ++ le 4 s.epo.commits ++ le 8 0 ++ d.1 ++ d.2.flatten)
  { u with epo := { u.epo with digest := true, sums := some d } }

/-! ## Closing an epoch -/

/-- The epoch is over. -/
def State.closeEpoch (s : State) : State :=
  { s with
    epo := { s.epo with opened := false, released := false, snapped := false, decided := false, digest := false, prepared := false,
                        assured := false, ended := false, ops := [], taken := [], hostDone := 0, asked := [], work := [], loopQ := [],
                        envs0 := [], outs := [], recs := [], sums := none, goneNow := [], stopNow := [], holdOwn := [],
                        closed := s.rd Reg.GLB_EPOCH, overruns := 0 },
    twn := { s.twn with prep := none, acked := false, missing := [], stream := [] } }

/-- The state as a snapshot holds it (rule R478). -/
def State.snapParts (s : State) : List SnapPart :=
  let own := (List.range 256).filterMap fun n =>
    let v := s.rd (Reg.TRP_ROBOT_OWN n)
    if v = 0 then none else some (Fin.ofNat 256 n, Fin.ofNat 3 v)
  [.runs (s.ldr.runs.map fun (x : Run) => ⟨x.cell, x.entry, x.robot, x.first, x.len, x.gslot, x.env⟩),
   .grants s.ldr.grants s.ldr.envFrom, .blocked s.ldr.blocked,
   .counters (s.rd Reg.LDR_GRANTED) (s.rd Reg.LDR_RELEASED) (s.rd Reg.LDR_EXPIRED) (s.rd Reg.LDR_FORCED) s.ldr.grantId,
   .tables (s.rd Reg.TRK_GEN) s.trk.live, .tasks s.trk.tasks, .curves s.gov.live,
   .loops (s.gov.loops.map fun (p : Nat × Loop) =>
     let y := p.2
     (p.1, ⟨Fin.ofNat 7 y.mode.code, y.i, y.u, y.e, y.hasSeq, y.posSeq, y.sample, y.sMeas, y.gslot, y.cls, y.usedEp, y.cmdEp, y.cmdSeq, y.ovr,
       y.winding, y.lastErr⟩)),
   .trapdoor (Fin.ofNat 3 s.trp.fleet.code) own s.holdCause, .roster s.zyp.roster,
   .streams (s.rd Reg.GLB_EPOCH) (s.rd Reg.LNA_ZYP_BOOT) s.zyp.seq, .ops s.zyp.ops]

/-- The numbers that a part of a snapshot carries, in an order of the model's own (log entry 58). -/
def snapNumbers (p : SnapPart) : List Nat :=
  let int := fun (v : Int) => unsigned 64 v
  let time := fun (t : YTime) => [t.sec, t.ns, t.frac]
  let pairs := fun (l : List (Nat × Nat)) => l.flatMap fun x => [x.1, x.2]
  let opt := fun (o : Option Nat) => match o with | some v => [1, v] | none => [0, 0]
  match p with
  | .runs l => l.flatMap fun x => [x.cell, x.entry, x.robot, x.first, x.len, x.gslot, bit x.env]
  | .grants l env => (l.flatMap fun x => [x.1, x.2.grantId, (reqBytes x.2.req).length] ++ reqBytes x.2.req) ++ env.length :: pairs env
  | .blocked l => l
  | .counters a b c d e => [a, b, c, d, e]
  | .tables gen l => gen :: pairs l
  | .tasks l => l.flatMap fun x => [x.1, x.2.st] ++ opt x.2.holder ++ [bit x.2.timer, x.2.entered, x.2.dead, x.2.trans]
  | .curves l => pairs l
  | .loops l => l.flatMap fun x =>
      let y := x.2
      [x.1, y.mode.val, int y.i, int y.u, int y.e, bit y.hasSeq, y.posSeq] ++ time y.sample ++ [y.sMeas, y.gslot, y.cls, y.usedEp] ++ opt y.cmdEp
        ++ [y.cmdSeq, bit y.ovr, bit y.winding, int y.lastErr]
  | .trapdoor fleet own hold => [fleet.val, hold] ++ own.flatMap fun x => [x.1.val, x.2.val]
  | .roster l => l.flatMap fun x => [x.1, x.2.fed, x.2.cls, bit x.2.radio]
  | .streams e b l => [e, b] ++ pairs l
  | .ops l => l.flatMap fun x => [x.1, x.2.opId, x.2.typ, x.2.body.length] ++ x.2.body

/-- The snapshot leaves: each part as SNAP_DATA frames under its section number, then SNAP_END with the number of sections. -/
def State.sendSnapshot (s : State) : State :=
  let l := s.snapParts
  let put := fun (t : State) (x : SnapPart × Nat) => t.linkAll 0x21 [x.2] ((snapNumbers x.1).flatMap (le 8))
  ((l.zip (List.range l.length)).foldl put s).linkSend 0x22 (le 4 l.length)

/-- An epoch after the snapshot point goes to the journal: its INPUT stream and its outcome (rule R479). -/
def State.journalEpoch (s : State) (committed : Bool) : State :=
  match s.twn.journal with
  | some k => { s with twn := { s.twn with journal := some (k + 1) } }.linkAll 0x23 (le 4 (s.rd Reg.GLB_EPOCH) ++ [bit committed]) s.twn.stream
  | none => s

/-- What a commit does for the twin (rules R463, R466, R478, R479): a mirrored active sends COMMIT and a follower drops its
unlisted frames; the first commit after SNAP_REQ is the snapshot point, and later ones go to the journal. -/
def State.twinCommitted (s : State) : State :=
  let n := s.rd Reg.GLB_EPOCH
  if s.follows then
    let mine := fun (o : OwnFrame) => laterEq n o.epoch
    let k := (s.twn.own.filter mine).length
    let t := ({ s with twn := { s.twn with own := s.twn.own.filter fun o => !mine o } }).bumpBy Reg.FJR_UNLISTED Reg.FJR_FAULT_CNT_SAT k
    if t.mode = .twinStandby then t.wr Reg.FJR_LAST_EPOCH n else t
  else
    let t := if s.twn.mirrored then (s.linkSend 0x15 (le 4 n)).wr Reg.FJR_LAST_EPOCH n else s
    if t.twn.snapDue then { t with twn := { t.twn with snapDue := false, journal := some 0 } }.sendSnapshot else t.journalEpoch true

/-- The epoch commits: relaxations, tokens, transitions, loop states, waiting commits; the commands complete and the outputs
leave. -/
def State.commitEpoch (s : State) : State :=
  let list := fun (t : State) => t.epo.taken.zip (List.range t.epo.taken.length)
  let a := ((s.relaxAll (list s)).ldrCommit.trkCommit).govCommit
  let b := a.commitInputs (list a)
  let c := (b.finishInputs b.epo.taken).sendOuts
  let d := { c with zyp := { c.zyp with ops0 := c.zyp.ops }, epo := { c.epo with commits := c.rd Reg.GLB_EPOCH } }
  d.twinCommitted.closeEpoch

/-- The epoch is abandoned (rule R277): its changes are undone and its host inputs wait for the next epoch; a follower drops
those it had from the active. -/
def State.abandonEpoch (s : State) : State :=
  if !s.epo.opened then s
  else
    let a := if s.epo.prepared then { s.trkAbandon.govAbandon with zyp := { s.zyp with ops := s.zyp.ops0 } } else s
    let b := a.ldrAbandon
    let back := b.epo.taken.map fun (e : EpochInput) => { e with res := none }
    let c := b.journalEpoch false
    { c with epo := { b.epo with host := if b.follows then b.epo.host else back ++ b.epo.host, gone := b.epo.goneNow ++ b.epo.gone, stopped := b.epo.stopNow ++ b.epo.stopped,
                                 envs := if b.epo.decided then b.epo.envs0 else b.epo.envs } }.closeEpoch

/-- An overrun epoch (rule R17): abandoned and counted, and a HOLD when the epoch before it was one as well. A follower abandons without
counting, and so does an active whose link is down where only the peer's acknowledgement is missing (rule R473). -/
def State.overrun (s : State) : State :=
  if !s.epo.opened then s
  else if s.follows || (s.twn.linkLost && s.epo.digest) then s.abandonEpoch
  else
    let a := s.abandonEpoch
    let b := (a.bump Reg.GLB_OVERRUN Reg.GLB_FAULT_CNT_SAT).fault Reg.GLB_FAULT_OVERRUN
    let n := s.epo.overruns + 1
    let c := { b with epo := { b.epo with overruns := n } }.tallyOffer 66 n
    if n ≥ 2 ∧ c.mode.fleet then c.raiseFleet false Reg.TRP_HOLD_CAUSE_OVERRUN else c

/-- The mode passes to one in which no epoch commits (rule R558): the epoch in progress is abandoned, waiting table commits
and roster loads take effect, unblocks run, and other commands complete with REFUSED_MODE. -/
def State.leaveCommitting (s : State) : State :=
  let t := s.abandonEpoch
  let u := { t with epo := { t.epo with host := [] } }
  t.epo.host.foldl (fun (x : State) (e : EpochInput) =>
    let done := fun (y : State) (st : Nat) (k : Nat) => match e.cmd with | some c => y.finish c st k 0 | none => y
    match e.kind with
    | .fleet => x.fleetApply
    | .pace => x.paceApply
    | .unblock cell clean => let r := x.unblockNow cell clean; done r.2 r.1 0
    | .roster es =>
      let v := x.rosterStatus es
      done (if v = St.done then x.rosterApply es else x) v (cmdLength e)
    | .go => done x St.refusedMode 32
    | .clear => done x St.refusedMode 32
    | .robotGo _ => done x St.refusedMode 32
    | _ => done x St.refusedMode 0) u

/-! ## Epoch events -/

/-- The lists of the epoch's own later inputs after those up to n are dropped. -/
def dropLists (n : Nat) (m : AMap (List (Nat × RobotOp))) : AMap (List (Nat × RobotOp)) := m.filter fun p => later p.1 n

/-- The first epoch boundary after reset release writes the restart epoch mark to the Tally (rules R27, R532). -/
def State.restartMark (s : State) : State :=
  if !s.tly.restartDue then s
  else
    let e := s.rd Reg.GLB_EPOCH
    let t : State := { s with tly := { s.tly with restartDue := false }, trp := { s.trp with markEpoch := e } }
    t.tallyRecord 4 1 0 0 (le 4 e ++ le 4 t.nvm.held ++ [t.rd Reg.CLK_LAST_MODE_FLUSH_INCOMPLETE, t.rd Reg.CLK_LAST_MODE_PFAIL_STAGE])

/-- A rejoining unit whose READY is acknowledged enters TWIN_STANDBY at the boundary (rule R477). -/
def State.becomeStandby (s : State) : State :=
  if s.mode = .rejoin ∧ s.twn.readyDue ∧ !s.pwr.pfailLatched then (s.enterMode .twinStandby).wr Reg.FJR_STATUS_REJOIN_STATE 0 else s

/-- EPOCH_BOUNDARY (rules R11, R14, R118, R283): an epoch still open has missed its time; a new input set opens, a host loss
of the last epoch becomes a fleet HOLD, and what waited for a boundary takes effect. -/
def epochBoundaryOp (s : State) : State :=
  let a := s.overrun
  let t0 := nextAt a.epochMs a.now a.epo.last
  let b := ((((a.advance t0).wrapBy Reg.GLB_EPOCH 1).rulesApply).restartMark).becomeStandby
  let c := { b with
    epo := { b.epo with opened := true, last := some t0, taken := b.epo.host, host := [], hostDone := 0, goneNow := b.epo.gone, gone := [] },
    ldr := { b.ldr with quar := if b.follows then b.ldr.quar else b.ldr.quar.map fun (q : Quar) => { q with ready := true } },
    hre := { b.hre with lossHold := false },
    twn := { b.twn with mirrored := !b.follows && ((b.twn.mirrored && !b.twn.loneDue) || b.twn.readyDue), loneDue := false,
                        readyDue := false,
                        own := b.twn.own.filter fun (o : OwnFrame) => !later (b.rd Reg.GLB_EPOCH) (o.epoch + 2) } }
  if b.hre.lossHold ∧ c.mode = .fleetRun then c.raiseFleet false Reg.TRP_HOLD_CAUSE_HOST_LOSS else c

/-- Latches at the Release instant what the decisions read (rule R461). -/
def State.latch (s : State) (m : Mode) : State :=
  { s with epo := { s.epo with mode0 := m, fleet0 := s.trp.fleet,
                               stopNow := s.epo.stopped, stopped := [],
                               holdOwn := (List.range 256).filter fun n => s.rd (Reg.TRP_ROBOT_OWN n) != 0 } }

/-- The head of an input entry. -/
def entryBytes (kind : Nat) (data : List Nat) : List Nat := [kind, 0, 0, 0] ++ le 4 data.length ++ data

/-- A ZYP_REF entry. -/
def refEntry (adm : Nat) (o : OwnFrame) : List Nat :=
  entryBytes 2 (le 4 adm ++ le 4 o.src ++ [o.typ, o.port, 0, 0] ++ le 4 o.boot ++ le 4 o.seq ++ le 8 o.hash)

/-- The ZYP frames of the epoch's list in ADM_SEQ order: its operations, and the STATUS frames that belong to it. -/
def State.listFrames (s : State) : List OwnFrame :=
  s.twn.own.filter fun (o : OwnFrame) =>
    if o.op.isSome then s.epo.ops.any fun (x : Nat × RobotOp) => x.1 == o.adm else o.epoch == s.rd Reg.GLB_EPOCH

/-- The 32 bytes of a descriptor (rule R104). -/
def descBytes (d : Desc) : List Nat :=
  [d.opcode.toNat, d.target.toNat, d.flags.toNat, bit d.rsv] ++ le 2 d.tag.toNat ++ le 2 0 ++ le 4 d.length.toNat ++ le 8 d.addr.toNat
    ++ le 4 d.p0.toNat ++ le 4 d.p1.toNat ++ le 4 d.p2.toNat

/-- The HOST or IMAGE entry of a host input (rule R462): a descriptor with its payload, or the shadow image of a table commit by word
number. -/
def State.hostEntry (s : State) (e : EpochInput) : List Nat :=
  let words := fun (m : AMap Nat) => m.flatMap fun (x : Nat × Nat) => le 4 x.1 ++ le 4 x.2
  match e.kind with
  | .fleet => entryBytes 4 (words s.trk.shadow)
  | .pace => entryBytes 4 (words s.gov.shadow ++ paceGroup.flatMap fun f => le 4 (s.sh f))
  | .roster _ => entryBytes 4 e.data
  | _ => entryBytes 3 (((e.cmd.map fun c => descBytes c.desc).getD []) ++ e.data)

/-- What a mirrored active streams of its inputs goes into the epoch's stream and out in INPUT frames (rule R462). -/
def State.streamOut (s : State) (b : List Nat) : State :=
  { s with twn := { s.twn with stream := s.twn.stream ++ b } }.linkAll 0x10 [] b

/-- The INPUT stream at Release: EPOCH_HEAD, the references, the host inputs and images, and the quarantined cells. -/
def State.inputFrame (s : State) : State :=
  let n := s.listFrames.length + s.epo.taken.length
  let head := le 4 (s.rd Reg.GLB_EPOCH) ++ le 4 s.epo.commits ++ le 4 s.slotNow ++ le 4 n
    ++ stamp (s.epo.last.getD s.now) ++ [s.trp.fleet.code, 0, 0, 0] ++ s.ownBytes
  let isImage := fun (e : EpochInput) => match e.kind with | .fleet => true | .pace => true | .roster _ => true | _ => false
  let hosts := s.epo.taken.filter (fun e => !isImage e) ++ s.epo.taken.filter isImage
  s.streamOut (entryBytes 1 head ++ s.listFrames.flatMap (fun o => refEntry o.adm o) ++ hosts.flatMap s.hostEntry
    ++ entryBytes 5 ((s.ldr.quar.filter (·.ready)).flatMap fun (q : Quar) => le 4 q.cell))

/-- Whether this unit streams its inputs to a peer. -/
def State.streams (s : State) : Bool := s.twn.mirrored || s.twn.journal.isSome

/-- The host commands that are inputs of an epoch, by target and opcode (rules R106, R293, R317, R364, R417, R492). -/
def epochOpcodes : List (Nat × Nat) :=
  [(0x09, 1), (0x09, 2), (0x0A, 2), (0x0A, 4), (0x0C, 3), (0x0C, 4), (0x0C, 7), (0x0E, 1), (0x13, 6)]

/-- Whether an input of epoch n is not yet released: a frame held in the reorder window or unread in an input chute, or a fetched host
command that has not started (rules R14, R15, R106, R170). -/
def State.unreleased (s : State) (n : Nat) : Bool :=
  s.dsp.win.any (fun e => e.epoch == n) || (inputChutes.any fun c => (s.chute c).pkts.any fun p => p.epoch == n)
    || s.hre.rings.any fun (p : Nat × RingSt) => p.2.sub.any fun (x : SubDesc) =>
         !x.started && x.epoch == n && epochOpcodes.contains (x.desc.target.toNat, x.desc.opcode.toNat)

/-- EPOCH_RELEASE (rules R14, R15, R170, R461): an input frame of the epoch not yet released makes it an overrun epoch. -/
def epochReleaseOp (s : State) : State :=
  let n := s.rd Reg.GLB_EPOCH
  if !s.epo.opened || s.epo.released || s.follows then s
  else if s.unreleased n then s.overrun
  else
    let commit := fun (e : EpochInput) => e.kind == .fleet || e.kind == .pace
    let t := s.latch s.mode
    let u := { t with epo := { t.epo with released := true, ops := (AMap.find n t.epo.lists).getD [], lists := dropLists n t.epo.lists,
                                          taken := t.epo.taken ++ t.epo.host.filter commit, host := t.epo.host.filter fun e => !commit e } }
    if u.streams then u.inputFrame else u

/-- POSITION_SNAPSHOT (rule R15): the decision pair and the Governor read chutes 32 and 33, and the latest record of each robot is
taken. -/
def positionSnapshotOp (s : State) : State :=
  if !s.epo.opened || !s.epo.released || s.epo.snapped || s.follows then s
  else
    let drain := fun (t : State) (n : Nat) => (t.chute n).pkts.foldl (fun (u : State) _ => u.takeAny n) t
    let t := drain (drain s 32) 33
    let u := { t with epo := { t.epo with snapped := true, pos := t.cre.pos } }
    if u.streams then u.streamOut (entryBytes 6 (u.cre.raw.flatMap fun (p : Nat × List Nat) => p.2) ++ entryBytes 0x7F []) else u

/-- ACK of a follower, once its digest has closed and it has PREPARE (rules R465, R466); COMPARE in REJOIN. -/
def State.verdict (s : State) : Option (Bool × Nat) :=
  match s.twn.prep, s.epo.sums with
  | some p, some d =>
    let differs := (p.cls.zip d.2).map fun x => x.1.map BitVec.toNat != x.2
    let mask := ((differs.zip (List.range 8)).map fun x => if x.1 then 2 ^ x.2 else 0).sum
    some (p.digest.map BitVec.toNat == d.1 && p.prev.toNat == s.epo.commits && p.epoch.toNat == s.rd Reg.GLB_EPOCH, mask)
  | _, _ => none

/-- ACK of a standby, once its digest has closed and it has PREPARE (rules R465, R466). -/
def State.sendAck (s : State) : State :=
  if s.mode ≠ .twinStandby ∨ s.twn.acked ∨ !s.epo.digest then s
  else match s.verdict, s.epo.sums with
    | some (same, diff), some d =>
      ({ s with twn := { s.twn with acked := true } }).linkSend 0x14
        (le 4 (s.rd Reg.GLB_EPOCH) ++ [bit (!same), diff, bit s.twn.lockstep, 0] ++ d.1 ++ le 8 0)
    | _, _ => s

/-- The PREPARE frame of an active. -/
def State.sendPrepare (s : State) : State :=
  match s.epo.sums with
  | none => s
  | some d =>
    let cmds := s.epo.outs.filter fun f => f.typ == 0x14
    s.linkSend 0x13 (le 4 (s.rd Reg.GLB_EPOCH) ++ le 4 s.epo.commits ++ le 2 cmds.length ++ le 6 0 ++ d.1 ++ d.2.flatten
      ++ cmds.flatMap fun f => [f.lid, 0, 0, 0] ++ (f.body.drop 32).take 12)

/-- The audits of the epoch run and its digest closes (rules R22, R314, R464). -/
def State.closeAudited (s : State) : State :=
  let a := if s.on Reg.LDR_STATUS_MAP_READY then s.ldrAudit else s
  a.taskAudit.closeDigest

/-- The epoch's commit is assured. -/
def State.assure (s : State) : State := { s with epo := { s.epo with assured := true } }

/-- EPOCH_DIGEST_CLOSE: the audits run and the digest closes. On a lone unit the commit is then assured; a mirrored active sends
PREPARE and waits, a standby answers PREPARE. An epoch taken over after its PREPARE is settled by its verdict (rule R472), and
an epoch with work left has missed its time. -/
def epochDigestCloseOp (s : State) : State :=
  if !s.epo.opened || !s.epo.decided || s.epo.digest then s
  else if !s.epo.work.isEmpty || !s.epo.loopQ.isEmpty then s.overrun
  else
    let b := s.closeAudited
    if b.follows then b.sendAck
    else match b.verdict with
      | some (true, _) => b.assure
      | some (false, _) => b.abandonEpoch.raiseFleet false Reg.TRP_HOLD_CAUSE_TWIN_MISMATCH
      | none =>
        let c := if b.streams then b.sendPrepare else b
        if c.twn.mirrored then c else c.assure

/-- The COMP_TIME values of PREPARE take the place of this unit's own in its copies (rule R467). -/
def State.withCompTimes (s : State) : State :=
  match s.twn.prep with
  | none => s
  | some p =>
    let put := fun (f : TxFrame) =>
      if f.typ = 0x14 then
        match p.ctimes.find? (fun (x : Fin 256 × YTime) => x.1.val == f.lid) with
        | some x => { f with body := f.body.take 32 ++ stamp x.2 }
        | none => f
      else f
    { s with epo := { s.epo with outs := s.epo.outs.map put } }

/-- EPOCH_COMMIT (rules R277, R466): the commit of an epoch whose digest has closed and, on a mirrored active, whose record the
peer has acknowledged. -/
def epochCommitOp (s : State) : State :=
  if s.epo.opened && s.epo.digest && s.epo.assured && !s.follows then s.withCompTimes.commitEpoch else s

/-- EPOCH_LENGTH_APPLY (rule R13). -/
def epochLengthApplyOp (s : State) : State :=
  if s.isPending Reg.GLB_COMMIT_RESULT then (s.wholeSecond).endPending Reg.GLB_COMMIT_RESULT [Reg.GLB_CFG_EPOCH_LEN] St.done else s

/-- EPOCH_COUNTER_RECORD (rule R12). -/
def epochCounterRecordOp (s : State) : State :=
  let e := s.rd Reg.GLB_EPOCH
  if slotDiff e s.nvm.epochRec ≥ 8192 then { s with nvm := { s.nvm with epochRec := e } } else s

/-! ## Meanings -/

/-- Meaning of EPOCH_BOUNDARY. -/
def execEpochBoundary (s : State) : Out := .next (s.whenMain epochBoundaryOp)
/-- Meaning of EPOCH_COUNTER_RECORD. -/
def execEpochCounterRecord (s : State) : Out := .next (s.whenMain epochCounterRecordOp)
/-- Meaning of EPOCH_LENGTH_APPLY. -/
def execEpochLengthApply (s : State) : Out := .next (s.whenMain epochLengthApplyOp)
/-- Meaning of EPOCH_RELEASE. -/
def execEpochRelease (s : State) : Out := .next (s.whenMain epochReleaseOp)
/-- Meaning of POSITION_SNAPSHOT. -/
def execPositionSnapshot (s : State) : Out := .next (s.whenMain positionSnapshotOp)
/-- Meaning of EPOCH_DECIDE. -/
def execEpochDecide (loops : List LoopSpec) (s : State) : Out := .next (s.whenMain (epochDecideOp loops))
/-- Meaning of OVERRUN_EPOCH. -/
def execOverrunEpoch (s : State) : Out := .next (s.whenMain State.overrun)
/-- Meaning of EPOCH_DIGEST_CLOSE. -/
def execEpochDigestClose (s : State) : Out := .next (s.whenMain epochDigestCloseOp)
/-- Meaning of EPOCH_COMMIT. -/
def execEpochCommit (s : State) : Out := .next (s.whenMain fun t => t.unlessFrozen epochCommitOp)
/-- Meaning of EPOCH_ABANDON. -/
def execEpochAbandon (s : State) : Out := .next (s.whenMain State.abandonEpoch)

end Sys2Proof.Machine
end

