-- ==== Sys2Proof/Machine/Chutes.lean ====
section
/-! DEFINITION. Chutes (chapter 6): the producer operations, reads, DROP_REST, the CHUTE commit and the chute view. -/

namespace Sys2Proof.Machine

/-- START(prio) (rule R129): BUSY on an open packet; DONE when the free credit is at least PKT_MAX; otherwise, or on a
disabled chute (rule R141), NO_CREDIT, counted. -/
def chuteStartOp (n prio : Nat) (s : State) : State :=
  let c := s.chute n
  if c.opened.isSome then s.setChute n { c with status := St.busy }
  else if s.chuteOn n && decide (s.rd (Reg.CHU_CFG_PKT_MAX n) ≤ s.freeCredit n) then
    s.setChute n { c with opened := some ⟨prio, [], false⟩, status := St.done }
  else (s.setChute n { c with status := St.noCredit }).chuteBump (Reg.CHU_NOCREDIT n) n

/-- WRITE(word) (rules R129, R131): appends one word; a word past the rewind mark rewinds the packet, once counted. With
no open packet there is nothing to write to. -/
def chuteWriteOp (n : Nat) (w : DWord) (s : State) : State :=
  let c := s.chute n
  match c.opened with
  | none => s
  | some o =>
    if o.ovr then s.setChute n { c with status := St.oversize }
    else if o.words.length ≥ s.rd (Reg.CHU_CFG_PKT_MAX n) then
      (s.setChute n ({ c with opened := some ⟨o.prio, [], true⟩, status := St.oversize }.giveBack o.words.length)).chuteBump
        (Reg.CHU_OVERSIZE n) n
    else s.setChute n { c with opened := some ⟨o.prio, o.words ++ [w], false⟩, status := St.done }

/-- COMMIT (rules R129 to R131): the packet becomes visible; zero words close with BAD_LENGTH, counted; a rewound packet
closes with OVERSIZE and no counter moves. -/
def chuteCommitOp (n : Nat) (s : State) : State :=
  let c := s.chute n
  match c.opened with
  | none => s
  | some o =>
    if o.ovr then s.setChute n { c with opened := none, status := St.oversize }
    else if o.words.isEmpty then (s.setChute n { c with opened := none, status := St.badLength }).chuteBump (Reg.CHU_BAD_LENGTH n) n
    else s.setChute n { c with opened := none, pkts := c.pkts ++ [⟨o.prio, o.words, s.nextEpoch, none, none⟩], status := St.done }

/-- ABORT (rules R129, R131): rewinds the open packet and counts it; a packet already rewound closes with OVERSIZE. -/
def chuteAbortOp (n : Nat) (s : State) : State :=
  let c := s.chute n
  match c.opened with
  | none => s
  | some o =>
    if o.ovr then s.setChute n { c with opened := none, status := St.oversize }
    else (s.setChute n { c.rewind with status := St.done }).chuteBump (Reg.CHU_ABORTED n) n

/-- The packet a read continues or starts, whether the read is its first, and the committed packets then left. -/
def Chute.readFrom (c : Chute) : Option (Packet × Bool × List Packet) :=
  match c.reading with
  | some p => some (p, false, c.pkts)
  | none => (bestPacket c.pkts).map fun x => (x.1, true, x.2)

/-- A consumer read (rules R128, R133, R136): a clean or corrected word is returned with its tag and its credit; an
uncorrectable word discards the rest of its packet. An empty or disabled chute answers data 0 with VALID clear. -/
def chuteReadOp (n : Nat) (ecc : Ecc) (s : State) : State :=
  let c := s.chute n
  if !s.chuteOn n then s.setChute n { c with readData := 0, readTag := 0 } else
  match c.readFrom with
  | none => s.setChute n { c with readData := 0, readTag := 0 }
  | some (p, first, rest) =>
    match p.words with
    | [] => s.setChute n { c with readData := 0, readTag := 0 }
    | w :: ws =>
      if ecc = .uncorrectable then s.cutShort n p first rest
      else
        let corr := decide (ecc = .corrected)
        let t := s.setChute n ({ c with reading := if ws.isEmpty then none else some { p with words := ws }, pkts := rest, readData := w,
                                        readSt := St.done,
                                        readTag := 1 + 2 * bit first + 4 * bit ws.isEmpty + 8 * p.prio + 64 * bit corr }.giveBack 1)
        if corr then t.chuteBump (Reg.CHU_CORRECTED n) n else t

/-- DROP_REST (rule R134): the unread words of the packet part-read go, counted; with none it has no effect. -/
def chuteDropRestOp (n : Nat) (s : State) : State :=
  let c := s.chute n
  match c.reading with
  | none => s
  | some p => (s.setChute n ({ c with reading := none }.giveBack p.words.length)).chuteBump (Reg.CHU_DROP_REST n) n

/-- Adds k to CHU_DISCARDED of chute n. -/
def State.chuteDiscard (s : State) (n : Nat) : Nat → State
  | 0 => s
  | k + 1 => State.chuteDiscard (s.chuteBump (Reg.CHU_DISCARDED n) n) n k

/-- The verdict of a CHUTE commit (rule R141). -/
def chuteVerdict (n : Nat) (s : State) : Nat :=
  let allot := s.sh (Reg.CHU_CFG_ALLOT n)
  let pmax := s.sh (Reg.CHU_CFG_PKT_MAX n)
  let en := s.sh (Reg.CHU_CFG_ENABLE n)
  let changed := allot != s.rd (Reg.CHU_CFG_ALLOT n) || pmax != s.rd (Reg.CHU_CFG_PKT_MAX n)
  firstFail [
    (allot > chuteCapacity n, St.badFormat),
    (en = 1 && (allot = 0 || pmax = 0 || pmax > allot), St.badFormat),
    (s.chuteOn n && changed, St.badFormat)]

/-- COMMIT of group CHUTE of the selected chute (rules R132, R141). Enabling gives ALLOT credits; disabling rewinds the
open packet, discards and counts the committed packets and returns the outstanding credits. -/
def chuteCfgCommitOp (s : State) : State :=
  let n := s.rd Reg.CHU_SEL_CHUTE
  let res := Reg.CHU_COMMIT_RESULT n
  let v := chuteVerdict n s
  let was := s.chuteOn n
  let t := s.commit res [Reg.CHU_CFG_ALLOT n, Reg.CHU_CFG_PKT_MAX n, Reg.CHU_CFG_ENABLE n] v
  if v ≠ St.done then t
  else if was && !t.chuteOn n then
    let c := (t.chute n).rewind
    (t.setChute n { c with pkts := [], reading := none, returned := c.given }).chuteDiscard n c.unread
  else if !was && t.chuteOn n then
    t.setChute n { t.chute n with given := ((t.chute n).given + t.rd (Reg.CHU_CFG_ALLOT n)) % 4294967296 }
  else t

/-- CHU_OUTSTANDING (rule R132). -/
def Chute.outstanding (c : Chute) : Nat := (c.given + 4294967296 - c.returned) % 4294967296

/-- A read of view offset 0x10 samples CHU_RETURNED and CHU_OUTSTANDING (rule R142). -/
def chuteViewSampleOp (n : Nat) (s : State) : State :=
  s.setChute n { s.chute n with sampled := ((s.chute n).returned, (s.chute n).outstanding) }

/-- Meaning of CHUTE_START. -/
def execChuteStart (n : Fin 96) (prio : Fin 8) (s : State) : Out := .next (s.whenMain (chuteStartOp n.val prio.val))
/-- Meaning of CHUTE_WRITE. -/
def execChuteWrite (n : Fin 96) (w : DWord) (s : State) : Out := .next (s.whenMain (chuteWriteOp n.val w))
/-- Meaning of CHUTE_COMMIT. -/
def execChuteCommit (n : Fin 96) (s : State) : Out := .next (s.whenMain (chuteCommitOp n.val))
/-- Meaning of CHUTE_ABORT. -/
def execChuteAbort (n : Fin 96) (s : State) : Out := .next (s.whenMain (chuteAbortOp n.val))
/-- Meaning of CHUTE_READ. -/
def execChuteRead (n : Fin 96) (ecc : Ecc) (s : State) : Out := .next (s.whenMain (chuteReadOp n.val ecc))
/-- Meaning of CHUTE_DROP_REST. -/
def execChuteDropRest (n : Fin 96) (s : State) : Out := .next (s.whenMain (chuteDropRestOp n.val))
/-- Meaning of CHUTE_CFG_COMMIT. -/
def execChuteCfgCommit (s : State) : Out := .next (s.whenMain chuteCfgCommitOp)
/-- Meaning of CHUTE_VIEW_SAMPLE. -/
def execChuteViewSample (n : Fin 96) (s : State) : Out := .next (s.whenMain (chuteViewSampleOp n.val))

end Sys2Proof.Machine
end

