-- ==== Sys2Proof/Machine/Memory.lean ====
section
/-! DEFINITION. The Hoist's addressed memory (rule R144) as a canonical list of (address, byte) pairs: addresses strictly
rise and no entry is 0, which is what an unlisted address reads as (log entry 3). -/

namespace Sys2Proof.Machine

/-- The byte at an address; an unlisted one reads 0. -/
def Memory.read (a : Nat) (m : Memory) : Byte := AMap.get m a 0

/-- The memory with a byte written; writing 0 removes the entry. -/
def Memory.write (a : Nat) (v : Byte) (m : Memory) : Memory := AMap.put a v 0 m

/-- The memory with bytes written from an address on. -/
def Memory.writeAll (a : Nat) : List Byte → Memory → Memory
  | [], m => m
  | v :: t, m => Memory.writeAll (a + 1) t (Memory.write a v m)

/-- k bytes from an address on. -/
def Memory.readAll (m : Memory) (a : Nat) : Nat → List Byte
  | 0 => []
  | k + 1 => Memory.read a m :: Memory.readAll m (a + 1) k

/-- The canonical form, from address `lo` on. -/
def Memory.wfFrom (lo : Nat) : Memory → Bool
  | [] => true
  | (a, v) :: t => decide (lo ≤ a) && v != 0 && Memory.wfFrom (a + 1) t

/-- The canonical form. -/
def Memory.wf (m : Memory) : Bool := Memory.wfFrom 0 m

end Sys2Proof.Machine
end

