-- ==== Sys2Proof/Machine/RegMap.lean ====
section
/-! DEFINITION. The registers that a plain write changes, block by block, each field with the COMMIT result of its group (none where
the field takes the write at once), and the sticky bits; from the register tables of spec/. -/

namespace Sys2Proof.Machine

/-- The fields of one commit group, with its COMMIT result. -/
def inGroup (res : Fld) (fs : List Fld) : List (Fld × Option Fld) := fs.map fun f => (f, some res)

/-- Writable fields of block 0x0 (GLB), those of selected objects by the select register. -/
def glbWritable (_ : State) : List (Fld × Option Fld) :=
  inGroup Reg.GLB_COMMIT_RESULT [Reg.GLB_CFG_EPOCH_LEN, Reg.GLB_CFG_FED_ID, Reg.GLB_EVENT_RING_RING, Reg.GLB_EVENT_RING_EN]

/-- Writable fields of block 0x1 (CLK), those of selected objects by the select register. -/
def clkWritable (_ : State) : List (Fld × Option Fld) :=
  inGroup Reg.CLK_WAKE_COMMIT_RESULT [Reg.CLK_WAKE_CFG_WAKE_IN0_EN, Reg.CLK_WAKE_CFG_WAKE_IN0_POL, Reg.CLK_WAKE_CFG_WAKE_IN1_EN,
    Reg.CLK_WAKE_CFG_WAKE_IN1_POL, Reg.CLK_WAKE_CFG_THERM_AUTO, Reg.CLK_WAKE_CFG_DORMER_EN, Reg.CLK_WAKE_CFG_PFAIL_AUTO,
    Reg.CLK_WAKE_TIMER_SECONDS]
    ++ ([Reg.CLK_PDOWN_CFG_DRAIN_TIMEOUT].map fun (f : Fld) => (f, none))

/-- Writable fields of block 0x2 (HRE), those of selected objects by the select register. -/
def hreWritable (s : State) : List (Fld × Option Fld) :=
  let ring := s.rd Reg.HRE_RING_SEL_RING
  inGroup Reg.HRE_HOST_COMMIT_RESULT [Reg.HRE_DB_BASE_ADDR, Reg.HRE_SH_BASE_ADDR, Reg.HRE_HOST_CFG_SESSION, Reg.HRE_HOST_CFG_HOST_LOSS_HOLD,
    Reg.HRE_POLL_CFG_POLL_PERIOD, Reg.HRE_POLL_CFG_HOST_TIMEOUT]
    ++ ([Reg.HRE_RING_SEL_RING].map fun (f : Fld) => (f, none))
    ++ inGroup (Reg.HRE_RING_COMMIT_RESULT ring) [Reg.HRE_RING_BASE_ADDR ring, Reg.HRE_RING_CFG_TYPE ring, Reg.HRE_RING_CFG_SIZE_LOG2 ring, Reg.HRE_RING_CFG_BIND ring,
    Reg.HRE_RING_CFG_VECTOR ring, Reg.HRE_RING_CFG_ENABLE ring, Reg.HRE_RING_CREDIT_ALLOT ring,
    Reg.HRE_RING_IRQ_COAL_COUNT ring, Reg.HRE_RING_IRQ_COAL_TIME ring]
    ++ ((List.range 16).map fun k => (Reg.HRE_VEC_GAP_MIN_GAP k, none))

/-- Writable fields of block 0x3 (CHU), those of selected objects by the select register. -/
def chuWritable (s : State) : List (Fld × Option Fld) :=
  let c := s.rd Reg.CHU_SEL_CHUTE
  ([Reg.CHU_SEL_CHUTE].map fun (f : Fld) => (f, none))
    ++ inGroup (Reg.CHU_COMMIT_RESULT c) [Reg.CHU_CFG_ALLOT c, Reg.CHU_CFG_PKT_MAX c, Reg.CHU_CFG_ENABLE c]

/-- Writable fields of block 0x4 (HST), those of selected objects by the select register. -/
def hstWritable (s : State) : List (Fld × Option Fld) :=
  let ch := s.rd Reg.HST_SEL_CHANNEL
  ([Reg.HST_SEL_CHANNEL].map fun (f : Fld) => (f, none))
    ++ inGroup (Reg.HST_CH_COMMIT_RESULT ch) [Reg.HST_CH_CFG_PROG_LEN ch, Reg.HST_CH_CFG_COMPL_MODE ch, Reg.HST_CH_CFG_RETRY_MAX ch, Reg.HST_CH_CFG_ARB_PRIO ch]

/-- Writable fields of block 0x5 (DSP), those of selected objects by the select register. -/
def dspWritable (s : State) : List (Fld × Option Fld) :=
  let f := s.rd Reg.DSP_FLOW_SEL
  let t := s.rd Reg.DSP_THR_SEL
  ([Reg.DSP_THR_SEL, Reg.DSP_FLOW_SEL].map fun (f : Fld) => (f, none))
    ++ inGroup (Reg.DSP_THR_COMMIT_RESULT t) [Reg.DSP_THR_CFG_PRIO t, Reg.DSP_THR_CFG_AFFINITY t, Reg.DSP_THR_CFG_ENABLE t]
    ++ inGroup (Reg.DSP_FLOW_COMMIT_RESULT f) [Reg.DSP_FLOW_CFG_WIN_MAX f, Reg.DSP_FLOW_CFG_THREAD_BASE f, Reg.DSP_FLOW_CFG_POOL f, Reg.DSP_FLOW_CFG_ENABLE f]
    ++ ((List.range 9).map fun k => (Reg.DSP_CORE_CFG k, none))

/-- Writable fields of block 0x6 (RNG), those of selected objects by the select register. -/
def rngWritable (s : State) : List (Fld × Option Fld) :=
  let sig := s.rd Reg.RNG_LOOP_SEL
  inGroup Reg.RNG_MEAS_COMMIT_RESULT [Reg.RNG_MEAS_CFG_RATE, Reg.RNG_MEAS_CFG_ANT_A_EN, Reg.RNG_MEAS_CFG_ANT_B_EN, Reg.RNG_MEAS_CFG_ELEV_MASK,
    Reg.RNG_MEAS_CFG_CN0_LOSS, Reg.RNG_SIG_EN_EN, Reg.RNG_ACQ_CFG_DOPPLER_KHZ, Reg.RNG_ACQ_CFG_DWELL,
    Reg.RNG_ACQ_CFG_THRESH]
    ++ ([Reg.RNG_LOOP_SEL].map fun (f : Fld) => (f, none))
    ++ inGroup (Reg.RNG_LOOP_COMMIT_RESULT sig) [Reg.RNG_LOOP_CFG_PLL_BW sig, Reg.RNG_LOOP_CFG_FLL_BW sig, Reg.RNG_LOOP_CFG_DLL_BW sig, Reg.RNG_LOOP_CFG_T_COH sig,
    Reg.RNG_LOOP_CFG_SPACING sig]

/-- Writable fields of block 0x7 (COR), those of selected objects by the select register. -/
def corWritable (_ : State) : List (Fld × Option Fld) :=
  inGroup Reg.COR_REF_COMMIT_RESULT [Reg.COR_REF_X, Reg.COR_REF_Y, Reg.COR_REF_Z, Reg.COR_REF_CFG_MARK_HEIGHT, Reg.COR_REF_CFG_PCO_UP, Reg.COR_BASE_E,
    Reg.COR_BASE_N, Reg.COR_BASE_U, Reg.COR_SURVEY_CFG_MIN_TIME, Reg.COR_SURVEY_CFG_ACC_LIMIT]
    ++ inGroup Reg.COR_RTCM_COMMIT_RESULT [Reg.COR_RTCM_CFG_RATE, Reg.COR_RTCM_CFG_SYS_EN, Reg.COR_RTCM_CFG_STA_PERIOD, Reg.COR_RTCM_CFG_BIAS_PERIOD,
    Reg.COR_RTCM_CFG_DESC_PERIOD, Reg.COR_RTCM_ID_STATION_ID, Reg.COR_RTCM_ID_ID_AUTO, Reg.COR_COMPACT_CFG_CRATE,
    Reg.COR_COMPACT_CFG_C_EN, Reg.COR_COMPACT_CFG_C_SYS, Reg.COR_COMPACT_CFG_MAX_SV, Reg.COR_COMPACT_CFG_POS_EVERY]
    ++ inGroup Reg.COR_CASTER_COMMIT_RESULT [Reg.COR_CASTER_CFG_PORT, Reg.COR_CASTER_CFG_MAX_CLIENTS, Reg.COR_CASTER_CFG_V1_EN, Reg.COR_CASTER_CFG_LAN_A_EN,
    Reg.COR_CASTER_CFG_LAN_B_EN]
    ++ inGroup Reg.COR_MON_COMMIT_RESULT [Reg.COR_MON_CFG_DEV_LIM, Reg.COR_MON_CFG_PERSIST, Reg.COR_MON_CFG_DRIFT_LIM, Reg.COR_MON_CFG_DIST_STOP,
    Reg.COR_MON_CFG_MON_EN]

/-- Writable fields of block 0x8 (CRE), those of selected objects by the select register. -/
def creWritable (_ : State) : List (Fld × Option Fld) :=
  inGroup Reg.CRE_FILT_COMMIT_RESULT [Reg.CRE_FILT_CFG_CODE_SIGMA, Reg.CRE_FILT_CFG_PHASE_SIGMA, Reg.CRE_FILT_CFG_ELEV_MIN, Reg.CRE_FILT_CFG_CN0_MIN,
    Reg.CRE_FILT_CFG_ACC_PSD, Reg.CRE_AR_CFG_RATIO_MIN, Reg.CRE_AR_CFG_MIN_AMB, Reg.CRE_AR_CFG_PAR_STEPS,
    Reg.CRE_AR_CFG_HOLD_AFTER, Reg.CRE_AR_CFG_LOCK_MIN, Reg.CRE_AR_CFG_PDOP_MAX, Reg.CRE_AR_LIM_PF_MAX,
    Reg.CRE_AR_LIM_NODE_CODE, Reg.CRE_AR_LIM_RESID_LIM, Reg.CRE_AR_LIM_GAP_RESET, Reg.CRE_INTAKE_CFG_AGE_MAX]
    ++ inGroup Reg.CRE_FRAME_COMMIT_RESULT [Reg.CRE_FRAME_X, Reg.CRE_FRAME_Y, Reg.CRE_FRAME_Z, Reg.CRE_FRAME_ROT]
    ++ inGroup Reg.CRE_XCHK_COMMIT_RESULT [Reg.CRE_XCHK_CFG_XCHK_PERSIST, Reg.CRE_XCHK_CFG_XCHK_EN]
    ++ ((List.range 12).map fun k => (Reg.CRE_XCHK_LIM k, some Reg.CRE_XCHK_COMMIT_RESULT))

/-- Writable fields of block 0x9 (LDR), those of selected objects by the select register. -/
def ldrWritable (_ : State) : List (Fld × Option Fld) :=
  inGroup Reg.LDR_MAP_COMMIT_RESULT [Reg.LDR_MAP_GEOM_WX, Reg.LDR_MAP_GEOM_HY, Reg.LDR_MAP_GEOM_CELL, Reg.LDR_MAP_GEOM_SLOT, Reg.LDR_MAP_X0,
    Reg.LDR_MAP_Y0, Reg.LDR_MAP_BASE_ADDR, Reg.LDR_HOLD_BASE_ADDR, Reg.LDR_GRANT_BASE_ADDR]
    ++ inGroup Reg.LDR_RULES_COMMIT_RESULT [Reg.LDR_REQ_CFG_MARGIN_MM, Reg.LDR_REQ_CFG_MAX_TOKENS, Reg.LDR_ENV_CFG, Reg.LDR_SCRUB_CFG]

/-- Writable fields of block 0xb (GOV), those of selected objects by the select register. -/
def govWritable (_ : State) : List (Fld × Option Fld) :=
  inGroup Reg.GOV_PACE_COMMIT_RESULT [Reg.GOV_CFG_LOOP_MS, Reg.GOV_CFG_COAST_MARGIN_MM, Reg.GOV_CFG_DOCK_TOL_MM]
    ++ ((List.range 2).map fun k => (Reg.GOV_CLK_KP k, some Reg.GOV_PACE_COMMIT_RESULT))
    ++ ((List.range 2).map fun k => (Reg.GOV_CLK_KI k, some Reg.GOV_PACE_COMMIT_RESULT))
    ++ ((List.range 16).map fun k => (Reg.GOV_CLASS_A_KP_TRACK k, some Reg.GOV_PACE_COMMIT_RESULT))
    ++ ((List.range 16).map fun k => (Reg.GOV_CLASS_A_KI_TRACK k, some Reg.GOV_PACE_COMMIT_RESULT))
    ++ ((List.range 16).map fun k => (Reg.GOV_CLASS_A_KP_DOCK k, some Reg.GOV_PACE_COMMIT_RESULT))
    ++ ((List.range 16).map fun k => (Reg.GOV_CLASS_A_KI_DOCK k, some Reg.GOV_PACE_COMMIT_RESULT))
    ++ ((List.range 16).map fun k => (Reg.GOV_CLASS_B_ACC k, some Reg.GOV_PACE_COMMIT_RESULT))
    ++ ((List.range 16).map fun k => (Reg.GOV_CLASS_B_DEC k, some Reg.GOV_PACE_COMMIT_RESULT))
    ++ ((List.range 16).map fun k => (Reg.GOV_CLASS_B_APPROACH k, some Reg.GOV_PACE_COMMIT_RESULT))

/-- Writable fields of block 0xc (TRP), those of selected objects by the select register. -/
def trpWritable (_ : State) : List (Fld × Option Fld) :=
  inGroup Reg.TRP_COMMIT_RESULT [Reg.TRP_CFG_DISC_TIME, Reg.TRP_CFG_BEACON_TIMEOUT, Reg.TRP_CFG_ARM_WINDOW, Reg.TRP_CFG_PROOF_DAYS]

/-- Writable fields of block 0xd (DRM), those of selected objects by the select register. -/
def drmWritable (_ : State) : List (Fld × Option Fld) :=
  inGroup Reg.DRM_RULES_COMMIT_RESULT [Reg.DRM_AUX_CFG_IDLE]
    ++ ((List.range 16).map fun k => (Reg.DRM_CH_CFG_EN k, some Reg.DRM_CHAN_COMMIT_RESULT))
    ++ ((List.range 16).map fun k => (Reg.DRM_CH_CFG_P k, some Reg.DRM_CHAN_COMMIT_RESULT))
    ++ ((List.range 16).map fun k => (Reg.DRM_CH_CFG_SHIFT k, some Reg.DRM_CHAN_COMMIT_RESULT))

/-- Writable fields of block 0xe (LNA), those of selected objects by the select register. -/
def lnaWritable (_ : State) : List (Fld × Option Fld) :=
  inGroup Reg.LNA_ZYP_COMMIT_RESULT [Reg.LNA_ZYP_CFG_YARD_ID, Reg.LNA_ZYP_PORT_UDP_PORT, Reg.LNA_ZYP_PORT_EPOCH_AGE]
    ++ inGroup Reg.LNA_NET_COMMIT_RESULT [Reg.LNA_IPV4, Reg.LNA_IPV4_CFG_PREFIX]

/-- Writable fields of block 0xf (LNB), those of selected objects by the select register. -/
def lnbWritable (_ : State) : List (Fld × Option Fld) :=
  inGroup Reg.LNB_NET_COMMIT_RESULT [Reg.LNB_IPV4, Reg.LNB_IPV4_CFG_PREFIX]

/-- Writable fields of block 0x10 (SRP), those of selected objects by the select register. -/
def srpWritable (_ : State) : List (Fld × Option Fld) :=
  ([Reg.SRP_CFG_SCK_MHZ].map fun (f : Fld) => (f, none))

/-- Writable fields of block 0x11 (TIM), those of selected objects by the select register. -/
def timWritable (s : State) : List (Fld × Option Fld) :=
  let g := s.rd Reg.TIM_PG_SEL
  inGroup Reg.TIM_TIME_COMMIT_RESULT [Reg.TIM_CFG_SRC_FIRST, Reg.TIM_CFG_SRC_SECOND, Reg.TIM_CFG_POLICY, Reg.TIM_CFG_AUTO_STEP, Reg.TIM_CFG_SLEW_PPM,
    Reg.TIM_CFG_STEP_THRESH, Reg.TIM_HOLD_CFG]
    ++ inGroup Reg.TIM_PTP_COMMIT_RESULT [Reg.TIM_PTP_CFG_PORT_A_EN, Reg.TIM_PTP_CFG_PORT_B_EN, Reg.TIM_PTP_CFG_ROLE, Reg.TIM_PTP_CFG_TRANSPORT,
    Reg.TIM_PTP_CFG_PROFILE, Reg.TIM_PTP_CFG_DOMAIN, Reg.TIM_PTP_CFG_DOMAIN_ALT, Reg.TIM_PTP_PRIO_PRIORITY1,
    Reg.TIM_PTP_PRIO_PRIORITY2, Reg.TIM_PTP_INTV, Reg.TIM_PTP_LAT_A_INGRESS, Reg.TIM_PTP_LAT_A_EGRESS,
    Reg.TIM_PTP_LAT_B_INGRESS, Reg.TIM_PTP_LAT_B_EGRESS]
    ++ ([Reg.TIM_PG_SEL, Reg.TIM_CAP_CFG].map fun (f : Fld) => (f, none))
    ++ inGroup (Reg.TIM_PG_COMMIT_RESULT g) [Reg.TIM_PG_START_SEC g, Reg.TIM_PG_START_NS g, Reg.TIM_PG_PERIOD g, Reg.TIM_PG_WIDTH g, Reg.TIM_PG_CTRL_EN g,
    Reg.TIM_PG_CTRL_DRIVE g, Reg.TIM_PG_CTRL_POL g, Reg.TIM_PG_CTRL_EVENT g]

/-- Writable fields of block 0x12 (FJR), those of selected objects by the select register. -/
def fjrWritable (_ : State) : List (Fld × Option Fld) :=
  inGroup Reg.FJR_COMMIT_RESULT [Reg.FJR_CFG_TWIN_EN, Reg.FJR_CFG_LINK_TIMEOUT, Reg.FJR_CFG_JOURNAL_MAX, Reg.FJR_TIME_ASYM]

/-- Writable fields of block 0x13 (VLT), those of selected objects by the select register. -/
def vltWritable (_ : State) : List (Fld × Option Fld) :=
  ([Reg.VLT_SLOT_SEL].map fun (f : Fld) => (f, none))

/-- Writable fields of block 0x14 (UPD), those of selected objects by the select register. -/
def updWritable (_ : State) : List (Fld × Option Fld) :=
  inGroup Reg.UPD_COMMIT_RESULT [Reg.UPD_CFG_DEFER_MAX, Reg.UPD_CFG_BATT_RULE, Reg.UPD_CFG_BATT_EN, Reg.UPD_CFG_CONFIRM_HOST, Reg.UPD_CFG_TRIAL_BOOTS,
    Reg.UPD_CFG_SESSION_IDLE, Reg.UPD_NET_PORT, Reg.UPD_NET_FED_EN]

/-- Writable fields of block 0x15 (TLY), those of selected objects by the select register. -/
def tlyWritable (_ : State) : List (Fld × Option Fld) :=
  inGroup Reg.TLY_COMMIT_RESULT [Reg.TLY_CFG_FLUSH_PERIOD]

/-- The writable fields of a block. -/
def writableOf (s : State) (block : Nat) : List (Fld × Option Fld) :=
  match block with
  | 0x0 => glbWritable s
  | 0x1 => clkWritable s
  | 0x2 => hreWritable s
  | 0x3 => chuWritable s
  | 0x4 => hstWritable s
  | 0x5 => dspWritable s
  | 0x6 => rngWritable s
  | 0x7 => corWritable s
  | 0x8 => creWritable s
  | 0x9 => ldrWritable s
  | 0xb => govWritable s
  | 0xc => trpWritable s
  | 0xd => drmWritable s
  | 0xe => lnaWritable s
  | 0xf => lnbWritable s
  | 0x10 => srpWritable s
  | 0x11 => timWritable s
  | 0x12 => fjrWritable s
  | 0x13 => vltWritable s
  | 0x14 => updWritable s
  | 0x15 => tlyWritable s
  | _ => []

/-- The sticky bits of access W1C. -/
def stickyBits : List Fld :=
  [Reg.CLK_FAULT_REFCLK_LOST, Reg.CLK_FAULT_XTAL32_LOST, Reg.CLK_FAULT_PLL_CORE_UNLOCK, Reg.CLK_FAULT_PLL_ADC_UNLOCK,
    Reg.CLK_FAULT_PLL_SERDES_UNLOCK, Reg.CLK_FAULT_PFAIL_SEEN, Reg.CLK_FAULT_BOD_RESET, Reg.CLK_FAULT_RAIL_TIMEOUT,
    Reg.CLK_FAULT_THERM_WARN, Reg.CLK_FAULT_THERM_CRIT, Reg.CLK_FAULT_THERM_CUT, Reg.CLK_FAULT_REFCLK_BAD_FREQ,
    Reg.CLK_RESET_CAUSE_POWER_ON, Reg.CLK_RESET_CAUSE_SYS_RST, Reg.CLK_RESET_CAUSE_BOD,
    Reg.CLK_RESET_CAUSE_PFAIL_RESTART, Reg.CLK_RESET_CAUSE_HOST_RESTART, Reg.CLK_RESET_CAUSE_UPDATE_RESTART,
    Reg.CLK_RESET_CAUSE_WAKE, Reg.CLK_RESET_CAUSE_THERM_CUT, Reg.CLK_WAKE_CAUSE_WAKE_IN0, Reg.CLK_WAKE_CAUSE_WAKE_IN1,
    Reg.CLK_WAKE_CAUSE_TIMER, Reg.CLK_WAKE_CAUSE_DORMER_RULE]
    ++ [Reg.CLK_WAKE_CAUSE_PFAIL_CLEAR, Reg.CLK_WAKE_CAUSE_THERM_CLEAR, Reg.HRE_FAULT_HOST_LOST, Reg.HRE_FAULT_LINK_DOWN,
    Reg.HRE_FAULT_RING_HALTED, Reg.HRE_FAULT_STALE_DB, Reg.HRE_FAULT_DB_READ_ERR, Reg.HRE_FAULT_EVENT_LOST,
    Reg.HRE_FAULT_ABANDONED, Reg.HRE_FAULT_BAD_ACCESS, Reg.CHU_FAULT_UNCORR, Reg.CHU_FAULT_SAT, Reg.CHU_FAULT_HOST_WRITE,
    Reg.HST_FAULT_HALT, Reg.HST_FAULT_UNCORR, Reg.HST_FAULT_HOST_WRITE, Reg.HST_FAULT_CTRL_REFUSED,
    Reg.HST_FAULT_CNT_SAT, Reg.DSP_FAULT_HOST_WRITE, Reg.DSP_FAULT_CNT_SAT, Reg.DSP_FAULT_STALL,
    Reg.RNG_FAULT_ANT_A_FAULT, Reg.RNG_FAULT_ANT_B_FAULT, Reg.RNG_FAULT_CLIP_A]
    ++ [Reg.RNG_FAULT_CLIP_B, Reg.RNG_FAULT_MEAS_DROP, Reg.RNG_FAULT_ALLOC_SHORT, Reg.RNG_FAULT_ADC_GAP,
    Reg.RNG_FAULT_CNT_SAT, Reg.COR_FAULT_DISTURBED, Reg.COR_FAULT_MON_DEGRADED, Reg.COR_FAULT_EPOCH_MISSED,
    Reg.COR_FAULT_CLIENT_REFUSED, Reg.COR_FAULT_AUTH_FAIL, Reg.COR_FAULT_COMPACT_TRUNC, Reg.COR_FAULT_CNT_SAT,
    Reg.COR_FAULT_SURVEY_LONG, Reg.CRE_FAULT_NO_BASE, Reg.CRE_FAULT_LATE, Reg.CRE_FAULT_XCHK, Reg.CRE_FAULT_HOLD_LOSS,
    Reg.CRE_FAULT_SEARCH_LIMIT, Reg.CRE_FAULT_PART_LOST, Reg.CRE_FAULT_CNT_SAT, Reg.CRE_FAULT_STATE_ECC,
    Reg.LDR_FAULT_AUDIT, Reg.LDR_FAULT_RECOUNT, Reg.LDR_FAULT_MAP_ECC]
    ++ [Reg.LDR_FAULT_HOLD_ECC, Reg.LDR_FAULT_HOLDER_FULL, Reg.LDR_FAULT_DEFERRED, Reg.LDR_FAULT_CNT_SAT,
    Reg.LDR_FAULT_SWEEP_LATE, Reg.TRK_FAULT_TASK_AUDIT, Reg.TRK_FAULT_SHADOW_BUSY, Reg.TRK_FAULT_NO_TRANSITION,
    Reg.TRK_FAULT_FORCED, Reg.TRK_FAULT_TABLE_ECC, Reg.TRK_FAULT_CNT_SAT, Reg.GOV_FAULT_COAST, Reg.GOV_FAULT_OUT_DROP,
    Reg.GOV_FAULT_NO_CURVE, Reg.GOV_FAULT_ERR_SAT, Reg.GOV_FAULT_STATE_ECC, Reg.GOV_FAULT_CNT_SAT,
    Reg.TRP_FAULT_DISCREPANCY, Reg.TRP_FAULT_OUT_FAULT, Reg.TRP_FAULT_RC4M_FAULT, Reg.TRP_FAULT_AUTH_FAIL,
    Reg.TRP_FAULT_CLEAR_REFUSED, Reg.TRP_FAULT_PROOF_DUE, Reg.TRP_FAULT_CNT_SAT]
    ++ [Reg.DRM_FAULT_EVENT_LOST, Reg.DRM_FAULT_CNT_SAT, Reg.DRM_FAULT_SLOW_CLOCK, Reg.DRM_FAULT_TRAP,
    Reg.PORT_CNT_OVF_DROP_SAT 0, Reg.PORT_CNT_OVF_DROP_SAT 1, Reg.PORT_CNT_OVF_CNT_SAT 0, Reg.PORT_CNT_OVF_CNT_SAT 1,
    Reg.TIM_FAULT_SRC_LOST, Reg.TIM_FAULT_STEP_REFUSED, Reg.TIM_FAULT_SRC_SWITCH, Reg.TIM_FAULT_HOLD_DEGRADED,
    Reg.TIM_FAULT_EVT_LOST, Reg.TIM_FAULT_PG_LATE, Reg.TIM_FAULT_CNT_SAT, Reg.TIM_FAULT_STEPPED, Reg.FJR_FAULT_TWIN_LOST,
    Reg.FJR_FAULT_MISMATCH, Reg.FJR_FAULT_ACK_LATE, Reg.FJR_FAULT_INTERLOCK_OPEN, Reg.FJR_FAULT_AMBIGUITY,
    Reg.FJR_FAULT_PAIR_FAIL, Reg.FJR_FAULT_TAKEOVER, Reg.FJR_FAULT_TAKEOVER_BLOCKED]
    ++ [Reg.FJR_FAULT_REJOIN_FAILED, Reg.FJR_FAULT_LANE_DEGRADED, Reg.FJR_FAULT_BAD_FRAME, Reg.FJR_FAULT_CNT_SAT,
    Reg.VLT_FAULT_SELFTEST, Reg.VLT_FAULT_AUTH_FAIL, Reg.VLT_FAULT_REVOKED_OP, Reg.VLT_FAULT_PERSIST_TORN,
    Reg.VLT_FAULT_EXHAUSTED, Reg.VLT_FAULT_CNT_SAT, Reg.UPD_FAULT_CONFLICT, Reg.UPD_FAULT_CHUNK_BAD,
    Reg.UPD_FAULT_FALLBACK, Reg.UPD_FAULT_DEFER_EXPIRED, Reg.UPD_FAULT_MIGRATE_FAIL, Reg.UPD_FAULT_SETTINGS_TORN,
    Reg.UPD_FAULT_CNT_SAT, Reg.UPD_FAULT_STORE_BAD, Reg.TLY_FAULT_MEM_FAIL, Reg.TLY_FAULT_SHADOW_FULL,
    Reg.TLY_FAULT_LOST, Reg.TLY_FAULT_TORN, Reg.TLY_FAULT_ECC, Reg.TLY_FAULT_CNT_SAT]
    ++ [Reg.TLY_FAULT_HOST_WRITE, Reg.GLB_FAULT_LOCKSTEP, Reg.GLB_FAULT_THERM_WARN, Reg.GLB_FAULT_OVERRUN,
    Reg.GLB_FAULT_COMMIT_BUSY, Reg.GLB_FAULT_CNT_SAT]

end Sys2Proof.Machine
end

