-- ==== Sys2Proof/Machine/Plain.lean ====
section
/-! DEFINITION. Writes to registers with no behaviour of their own (rules R4, R9, R548, R550). -/

namespace Sys2Proof.Machine

/-! ## Plain registers -/

/-- The 32-bit word of a register that an access at `off` reaches, when it reaches field f. -/
def halfOf (f : Fld) (off : Nat) : Option Nat :=
  let h := (off - f.off) / 4
  if off < f.off ∨ h > 1 ∨ f.lo ≥ 32 * (h + 1) ∨ f.lo + f.w ≤ 32 * h then none else some h

/-- The value of a field after a write of v to word h of its register. -/
def merge (f : Fld) (old h v : Nat) : Nat :=
  let lo := max f.lo (32 * h)
  let n := min (f.lo + f.w) (32 * (h + 1)) - lo
  old - bits old (lo - f.lo) n * 2 ^ (lo - f.lo) + bits v (lo - 32 * h) n * 2 ^ (lo - f.lo)

/-- A write to one field: to the shadow of its group, ignored while the group's commit is PENDING (rules R9, R550), or at once. -/
def State.fieldWrite (s : State) (off v : Nat) (p : Fld × Option Fld) : State :=
  match halfOf p.1 off with
  | none => s
  | some h =>
    match p.2 with
    | none => s.wr p.1 (merge p.1 (s.rd p.1) h v)
    | some res => if s.isPending res then s.fault Reg.GLB_FAULT_COMMIT_BUSY else s.wrShadow p.1 (merge p.1 (s.sh p.1) h v)

/-- A write to the plain fields of the register at `off`; a refused one sets COMMIT_BUSY once. -/
def State.plainWrite (s : State) (off v : Nat) : State :=
  let hit := (writableOf s (off / 65536)).filter fun (p : Fld × Option Fld) => (halfOf p.1 off).isSome
  let busy := fun (p : Fld × Option Fld) => match p.2 with
    | none => false
    | some res => s.isPending res
  if hit.any busy then s.fault Reg.GLB_FAULT_COMMIT_BUSY else hit.foldl (fun (a : State) p => a.fieldWrite off v p) s

end Sys2Proof.Machine
end

