-- ==== Sys2Proof/Machine/Hoist.lean ====
section
/-! DEFINITION. Hoist programs (chapter 7): the program store, the instructions MOVE, LOOP, WAIT, SIGNAL and END as a
channel executes them, channel control, ticks and the PROG commit. -/

namespace Sys2Proof.Machine

/-! ## Channels -/

/-- Channel n. -/
def State.chan (s : State) (n : Nat) : Chan := AMap.get s.hst n Chan.reset

/-- The state with channel n set. -/
def State.setChan (s : State) (n : Nat) (c : Chan) : State := { s with hst := AMap.set n c s.hst }

/-- The 16 bytes of an instruction as a number, byte [0] lowest (rule R145). -/
def insOf (prog : AMap Nat) (i : Nat) : Nat :=
  AMap.get prog (4 * i) 0 + 2 ^ 32 * AMap.get prog (4 * i + 1) 0 + 2 ^ 64 * AMap.get prog (4 * i + 2) 0
    + 2 ^ 96 * AMap.get prog (4 * i + 3) 0

/-- Byte k of an instruction. -/
def insByte (w k : Nat) : Nat := bits w (8 * k) 8

/-- Opcode of an instruction. -/
def insOp (w : Nat) : Nat := bits w 0 4

/-- The instruction at a channel's pc. -/
def Chan.ins (c : Chan) : Nat := insOf c.prog c.pc

/-- Live PROG_LEN of channel n. -/
def State.progLen (s : State) (n : Nat) : Nat := s.rd (Reg.HST_CH_CFG_PROG_LEN n)

/-- A pending flag is set in channel n, or the event merges, counted (rule R152). -/
def State.setFlag (s : State) (n e : Nat) : State :=
  if (s.chan n).flags.contains e then s.bump (Reg.HST_CH_MERGED n) Reg.HST_FAULT_CNT_SAT
  else s.setChan n { s.chan n with flags := (s.chan n).flags ++ [e] }

/-- A pending flag is set in each channel of a list. -/
def State.setFlags (s : State) (e : Nat) : List Nat → State
  | [] => s
  | n :: t => State.setFlags (s.setFlag n e) e t

/-- k free bytes. -/
def freeBytes (ctr : Nat) : Nat → List Byte
  | 0 => []
  | k + 1 => BitVec.ofNat 8 (Config.freeValue 1 ctr) :: freeBytes (ctr + 1) k

/-- Offset in BAR0 of an address among the block registers (rule R144). -/
def regOff (a : Nat) : Nat := a - 0x2000000000

/-- The plain registers at 32-bit words from an offset on take free values. -/
def State.smearRegs (s : State) (off : Nat) : Nat → State
  | 0 => s
  | k + 1 => let d := s.draw 1; State.smearRegs (d.2.plainWrite off (d.1 % 4294967296)) (off + 4) k

/-- The destination of a broken MOVE beyond the bytes proven is undefined (rule R157): memory bytes and plain registers there take free
values (log entry 4); an open packet is rewound (rule R161, log entry 70). -/
def State.smear (s : State) (m : MoveSt) : State :=
  let left := m.data.length - m.proven
  match m.dst with
  | .mem a false => { s with mem := Memory.writeAll (a + m.proven) (freeBytes s.ctr left) s.mem, ctr := s.ctr + left }
  | .mem a true => if left = 0 then s else { s with mem := Memory.writeAll a (freeBytes s.ctr 1) s.mem, ctr := s.ctr + 1 }
  | .regs a false => s.smearRegs (regOff a + m.proven / 4 * 4) ((left + 3) / 4)
  | .regs a true => s.smearRegs (regOff a) (min 1 left)
  | .port q => s.setChute q (s.chute q).rewind

/-- Channel n halts with a status (rule R160): PARKED and STOPPED raise nothing, any other sets HALT and sends CODE 1. -/
def State.haltChan (s : State) (n status : Nat) : State :=
  let c := s.chan n
  let s0 := match c.move with
    | some m => s.smear m
    | none => s
  let s1 := s0.setChan n { c with st := .halted, status := status, move := none }
  if status = 0x80 ∨ status = 0x81 then s1
  else (s1.wr Reg.HST_FAULT_HALT 1).event 4 1 (n + 256 * status)

/-- The address map (rule R144): the end of the region an address lies in, and whether it is memory that can be read,
memory that can be written, or registers. -/
inductive Region where
  | ram | regs | nor | chuteRead (c : Nat) | chuteWrite (c : Nat)
  deriving DecidableEq, Repr

/-- Chutes whose consumer is the service cores (chute assignment table). -/
def coreReads (c : Nat) : Bool :=
  (24 ≤ c && c ≤ 27) || c == 41 || c == 44 || c == 45 || c == 47 || (51 ≤ c && c ≤ 55 && c != 52) || (61 ≤ c && c ≤ 95)

/-- Chutes whose producer is the service cores (chute assignment table). -/
def coreWrites (c : Nat) : Bool :=
  (8 ≤ c && c ≤ 15) || c == 17 || c == 50 || c == 52 || (56 ≤ c && c ≤ 58) || (64 ≤ c && c ≤ 95)

/-- The region an address range of `len` bytes lies in, if it lies in one (rules R144, R147). -/
def regionOf (b : Board) (a len : Nat) : Option Region :=
  if a + len ≤ b.lpddr then some .ram
  else if 0x1000000000 ≤ a ∧ a + len ≤ 0x1001800000 then some .ram
  else if 0x2000000000 ≤ a ∧ a + len ≤ 0x2001000000 then (if a % 4 = 0 ∧ len % 4 = 0 then some .regs else none)
  else if 0x2800000000 ≤ a ∧ a + len ≤ 0x2800000000 + b.nor then some .nor
  else if 0x3000000000 ≤ a ∧ a < 0x3000060000 then
    let c := (a - 0x3000000000) / 0x1000
    let o := (a - 0x3000000000) % 0x1000
    if o = 0 ∧ coreReads c then some (.chuteRead c) else if o = 0x800 ∧ coreWrites c then some (.chuteWrite c) else none
  else none

/-- Whether an address is a chute port. -/
def isPort (b : Board) (a : Nat) : Bool :=
  match regionOf b a 0 with
  | some (.chuteRead _) => true
  | some (.chuteWrite _) => true
  | _ => false

/-- Whether an address is a chute write port. -/
def isWritePort (b : Board) (a : Nat) : Bool :=
  match regionOf b a 0 with
  | some (.chuteWrite _) => true
  | _ => false

/-! ## Program flow -/

/-- The pc after the instruction before `next` (rule R150): bodies that end there iterate or close. -/
def flowOn : List LoopLevel → Nat → Nat × List LoopLevel
  | [], next => (next, [])
  | l :: t, next =>
    if next = l.stop then
      if l.iter + 1 < l.count then (l.start, { l with iter := l.iter + 1 } :: t)
      else flowOn t next
    else (next, l :: t)

/-- A channel goes on behind an instruction; a STOPPING channel halts at this boundary with STOPPED, or with PARKED
during a power-down (rules R159, R161). -/
def State.nextIns (s : State) (n next : Nat) : State :=
  let c := s.chan n
  let r := flowOn c.loops next
  let t := s.setChan n { c with st := if c.st = .stopping then .stopping else .running, pc := r.1, loops := r.2, move := none }
  if c.st = .stopping then t.haltChan n (if s.pwr.pdown.isSome || s.pwr.pfailLatched then 0x80 else 0x81) else t

/-- A channel that runs, at an instruction of the given opcode, with no MOVE in progress. -/
def State.atOp (s : State) (n op : Nat) : Bool :=
  (s.chan n).st == .running && (s.chan n).pc < s.progLen n && insOp (s.chan n).ins == op && (s.chan n).move == none

/-- Sum of the loop offsets of the active levels (rule R150). -/
def loopOffset (f : LoopLevel → Int) : List LoopLevel → Int
  | [] => 0
  | l :: t => l.iter * f l + loopOffset f t

/-- An address with its loop offsets, on 40 bits; a chute port takes none (rules R149, R150). -/
def State.moveAddr (s : State) (a : Nat) (off : Int) : Nat :=
  if isPort s.board a then a else unsigned 40 ((a : Int) + off)

/-! ## MOVE -/

/-- Words of a packet as bytes. -/
def wordBytes : List DWord → List Byte
  | [] => []
  | w :: t => (le 8 w.toNat).map (BitVec.ofNat 8) ++ wordBytes t

/-- Bytes as words. -/
def bytesToWords (bs : List Byte) : List DWord := toWords (bs.map (·.toNat))

/-- What a MOVE reads: the bytes, the state after the read, and the halt status when the read ends the instruction. -/
structure MoveRead where
  data : List Byte
  st   : State
  halt : Option Nat

/-- Reads a packet from a chute read port (rule R149). `eccAt` names the bytes before an uncorrectable word, which costs the rest of the
packet (rule R136) and is no read data of HST_FAULT (rules R160, R163): DESIGN CHOICE (log entry 70). -/
def readPort (s : State) (c len : Nat) (eccAt : Option Nat) : Option MoveRead :=
  match (s.chute c).readFrom with
  | none => none
  | some (p, first, rest) =>
    let all := wordBytes p.words
    match eccAt with
    | some k => some ⟨all.take (min k len), s.cutShort c p first rest, some St.eccUncorrected⟩
    | none =>
      let t := s.setChute c ({ s.chute c with reading := none, pkts := rest, readSt := St.done }.giveBack p.words.length)
      if all.length > len then some ⟨all.take len, t.chuteBump (Reg.CHU_DROP_REST c) c, some St.oversize⟩
      else some ⟨all, t, none⟩

/-- How block registers answer on the bus: a 32-bit read with what it changes, and a 32-bit write. -/
structure RegBus where
  read  : Nat → State → Nat × State
  write : Nat → Nat → State → State

/-- k bytes of block registers from an offset on, word by word; a fixed source repeats its register. -/
def RegBus.readAll (b : RegBus) (off : Nat) (fixed : Bool) (s : State) : Nat → List Byte × State
  | 0 => ([], s)
  | k + 1 =>
    let r := b.read off s
    let t := RegBus.readAll b (if fixed then off else off + 4) fixed r.2 k
    ((le 4 r.1).map (BitVec.ofNat 8) ++ t.1, t.2)

/-- Bytes written to block registers from an offset on, word by word; a fixed destination takes them all. -/
def RegBus.writeAll (b : RegBus) (fixed : Bool) : Nat → Nat → List Byte → State → State
  | 0, _, _, s => s
  | k + 1, off, data, s =>
    RegBus.writeAll b fixed k (if fixed then off else off + 4) (data.drop 4) (b.write off (unle ((data.take 4).map (·.toNat))) s)

/-- What a MOVE reads: a packet from a port, or bytes; a fixed source repeats its register, or its byte of memory. -/
def moveRead (b : RegBus) (s : State) (rs : Region) (src len : Nat) (fixed : Bool) (eccAt : Option Nat) : Option MoveRead :=
  match rs with
  | .chuteRead q => readPort s q len eccAt
  | .regs => let r := b.readAll (regOff src) fixed s (len / 4); some ⟨r.1, r.2, none⟩
  | _ => some ⟨if fixed then List.replicate len (Memory.read src s.mem) else Memory.readAll s.mem src len, s, none⟩

/-- The bytes of a MOVE from `from_` up to `upto` reach its destination; a fixed memory byte keeps the last one. A packet's words are
written to its open packet as a whole when it starts. -/
def MoveSt.write (m : MoveSt) (b : RegBus) (from_ upto : Nat) (s : State) : State :=
  let part := (m.data.take upto).drop from_
  match m.dst with
  | .mem a false => { s with mem := Memory.writeAll (a + from_) part s.mem }
  | .mem a true => match part.getLast? with
    | some v => { s with mem := Memory.write a v s.mem }
    | none => s
  | .regs a fixed => b.writeAll fixed (part.length / 4) (if fixed then regOff a else regOff a + from_) part s
  | .port _ => s

/-- The bytes that n bytes written before a break are proven for: none in READBACK, which proves at the end of the MOVE (rule R156). -/
def State.provenOf (s : State) (n k : Nat) : Nat := if s.rd (Reg.HST_CH_CFG_COMPL_MODE n) = 0 then 0 else k

/-- Puts channel n into a MOVE with its data written, or failing on the bus (rules R156, R157); with no retry allowed it halts at once.
A channel that its own write has reset moves nothing more. -/
def State.beginMove (s : State) (b : RegBus) (n : Nat) (dst : MoveDst) (data : List Byte) (bus : BusOutcome) : State :=
  let start := fun (k : Nat) (failed : Bool) =>
    let m : MoveSt := ⟨dst, data, k, if failed then s.provenOf n k else 0, failed, 0⟩
    let t := m.write b 0 k s
    if (t.chan n).st = .idle then t else t.setChan n { t.chan n with bytes := m.proven, move := some m }
  match bus with
  | .clean => start data.length false
  | .corrected _ => start data.length false
  | .error k =>
    let t := start (min k data.length / 4 * 4) true
    if s.rd (Reg.HST_CH_CFG_RETRY_MAX n) = 0 then t.haltChan n St.busError else t
  | .ecc k => ((start (min k data.length / 4 * 4) true).wr Reg.HST_FAULT_UNCORR 1).haltChan n St.eccUncorrected

/-- A channel stalls before the first word of a chute MOVE (rule R149). -/
def State.stall (s : State) (n : Nat) : State := s.setChan n { s.chan n with st := .waiting }

/-- An instruction whose word in the program store is uncorrectable halts the channel (rules R143, R157, R163). -/
def State.fetchBad (s : State) (n : Nat) : State := (s.wr Reg.HST_FAULT_UNCORR 1).haltChan n St.eccUncorrected

/-- Whether a running channel n is at an instruction, with no MOVE in progress. -/
def State.atIns (s : State) (n : Nat) : Bool := (s.chan n).st == .running && (s.chan n).pc < s.progLen n && (s.chan n).move == none

/-- An instruction of opcode op as channel n fetches it. -/
def State.runIns (s : State) (n op : Nat) (fetch : Ecc) (body : State → State) : State :=
  if fetch = .uncorrectable then (if s.atIns n then s.fetchBad n else s) else if s.atOp n op then body s else s

/-- Source and destination of the MOVE at channel n's pc. -/
def State.moveEnds (s : State) (n : Nat) : Nat × Nat :=
  let c := s.chan n
  (s.moveAddr (bits c.ins 40 40) (loopOffset (·.sstr) c.loops), s.moveAddr (bits c.ins 80 40) (loopOffset (·.dstr) c.loops))

/-- The region of a MOVE's address: a range of LENGTH bytes, for a fixed address the one register or byte it reaches: DESIGN CHOICE
(log entry 70). -/
def State.moveRegion (s : State) (a len : Nat) (fixed : Bool) : Option Region :=
  if !fixed || isPort s.board a then regionOf s.board a len
  else match regionOf s.board a 4 with
    | some .regs => if len % 4 = 0 then some .regs else none
    | _ => (regionOf s.board a 1).filter fun r => r != .regs

/-- Whether the chute ports of the MOVE at channel n's pc let it start: a packet to read, credit for the largest packet (rule R149). -/
def State.moveReady (s : State) (n : Nat) : Bool :=
  let e := s.moveEnds n
  (match regionOf s.board e.1 0 with
   | some (.chuteRead q) => (s.chute q).readFrom.isSome
   | _ => true)
  && (match regionOf s.board e.2 0 with
   | some (.chuteWrite q) => s.chuteOn q && (s.chute q).opened.isNone && decide (s.rd (Reg.CHU_CFG_PKT_MAX q) ≤ s.freeCredit q)
   | _ => true)

/-- What the Memory Controller counts of a MOVE's read of LPDDR4X (rule R547): words corrected, or the uncorrectable one. -/
def State.lpddrRead (s : State) (a : Nat) (bus : BusOutcome) : State :=
  match bus with
  | .corrected k => s.wrapBy Reg.MEM_ECC_CORR k
  | .ecc k => s.memUncorr (a + k)
  | _ => s

/-- MOVE (rules R147 to R149, R156, R157) as the running channel n executes it, with what its instruction fetch and its bursts meet. -/
def moveOp (b : RegBus) (n : Nat) (fetch : Ecc) (bus : BusOutcome) (s : State) : State :=
  s.runIns n 1 fetch fun s =>
  let s := s.setChan n { s.chan n with bytes := 0 }
  let w := (s.chan n).ins
  let len := bits w 16 24
  let e := s.moveEnds n
  let srcFixed := bits w 4 1 = 1
  let dstFixed := bits w 5 1 = 1
  if len = 0 then s.nextIns n ((s.chan n).pc + 1) else
  let go := fun (rs : Region) (dst : Option MoveDst) =>
    match dst with
    | none => s.haltChan n St.badFormat
    | some d =>
      if !s.moveReady n then s.stall n else
      let eccAt := match bus with | .ecc k => some k | _ => none
      let s := if rs = .ram ∧ e.1 < s.board.lpddr then s.lpddrRead e.1 bus else s
      match moveRead b s rs e.1 len (decide srcFixed) eccAt with
      | none => s.stall n
      | some r =>
        match r.halt with
        | some h =>
          match d with
          | .port _ => r.st.haltChan n h
          | _ =>
            let k := if h = St.eccUncorrected then s.provenOf n r.data.length else r.data.length
            let m : MoveSt := ⟨d, r.data ++ List.replicate (len - r.data.length) 0, r.data.length, k, false, 0⟩
            let u := m.write b 0 r.data.length r.st
            (u.setChan n { u.chan n with bytes := k, move := some m }).haltChan n h
        | none =>
          match d with
          | .port q =>
            let ws := bytesToWords r.data
            if ws.length > s.rd (Reg.CHU_CFG_PKT_MAX q) then (r.st.chuteBump (Reg.CHU_OVERSIZE q) q).haltChan n St.oversize
            else (r.st.setChute q { r.st.chute q with opened := some ⟨bits w 8 3, ws, false⟩ }).beginMove b n d r.data bus
          | _ => r.st.beginMove b n d r.data bus
  match s.moveRegion e.1 len (decide srcFixed), s.moveRegion e.2 len (decide dstFixed) with
  | some rs, some rd =>
    if rs matches .chuteWrite _ then s.haltChan n St.badFormat
    else go rs (match rd with
      | .ram => some (.mem e.2 (decide dstFixed))
      | .regs => some (.regs e.2 (decide dstFixed))
      | .chuteWrite q => some (.port q)
      | _ => none)
  | _, _ => s.haltChan n St.badFormat

/-- MOVE_COMPLETE (rules R149, R156): the writes are proven landed, an open packet is committed, and the channel goes on. -/
def moveCompleteOp (n : Nat) (s : State) : State :=
  let c := s.chan n
  let go := fun (t : State) (m : MoveSt) => (t.setChan n { c with bytes := m.data.length, move := none }).nextIns n (c.pc + 1)
  match c.move with
  | none => s
  | some m =>
    if m.failed then s
    else match m.dst with
      | .port q =>
        match (s.chute q).opened with
        | some o => go ((s.setChute q { s.chute q with opened := none }).putPacket q o.prio none o.words) m
        | none => s
      | _ => go s m

/-- BURST_RETRY (rule R157): a retry is counted and lands or fails again; with the retries used up the channel halts. -/
def burstRetryOp (b : RegBus) (n : Nat) (ok : Bool) (s : State) : State :=
  let c := s.chan n
  match c.move with
  | none => s
  | some m =>
    if !m.failed then s
    else
      let t := s.bump (Reg.HST_CH_RETRY n) Reg.HST_FAULT_CNT_SAT
      let m1 : MoveSt := { m with tries := m.tries + 1 }
      if ok then
        let u := m.write b m.written m.data.length t
        u.setChan n { u.chan n with move := some { m1 with failed := false, written := m.data.length } }
      else
        let u := t.setChan n { t.chan n with move := some m1 }
        if m1.tries ≥ s.rd (Reg.HST_CH_CFG_RETRY_MAX n) then u.haltChan n St.busError else u

/-! ## LOOP, WAIT, SIGNAL, END -/

/-- LOOP (rule R150): an empty body or COUNT 0 is passed over; otherwise a level opens at iteration 0. -/
def loopOp (n : Nat) (fetch : Ecc) (s : State) : State :=
  s.runIns n 2 fetch fun s =>
  let c := s.chan n
  let w := c.ins
  let body := bits w 8 8
  let count := bits w 16 16
  if body = 0 ∨ count = 0 then s.nextIns n (c.pc + 1 + body)
  else s.setChan n { c with pc := c.pc + 1,
                            loops := ⟨c.pc + 1, c.pc + 1 + body, count, 0, signed 24 (bits w 32 24), signed 24 (bits w 56 24)⟩ :: c.loops }

/-- The level latch of channel n at chute q. -/
def State.latchAt (s : State) (n q : Nat) : Bool := ((AMap.find n (s.chute q).watch).map (·.latch)).getD false

/-- Channel n arrives at the level WAIT w: a latch tied to another chute starts clear, and the latch is tested while the channel waits
there (rule R153). -/
def State.arriveWait (s : State) (n w : Nat) : State :=
  if bits w 8 2 = 0 then s
  else
    let q := bits w 24 8
    let old := (s.chan n).latch == some q && s.latchAt n q
    let t := s.setChute q { s.chute q with watch := AMap.set n ⟨bits w 32 16, bits w 48 16, old, true⟩ (s.chute q).watch }
    t.setChan n { t.chan n with latch := some q }

/-- Channel n no longer waits at the WAIT w: its latch keeps its value. -/
def State.departWait (s : State) (n w : Nat) : State :=
  if bits w 8 2 = 0 then s
  else
    let q := bits w 24 8
    s.setChute q { s.chute q with watch := (s.chute q).watch.map fun (p : Nat × Watch) => if p.1 = n then (p.1, { p.2 with waits := false }) else p }

/-- Whether the WAIT w of channel n proceeds, with its latch tested (rules R151 to R153). -/
def State.waitTest (s : State) (n w : Nat) : Bool :=
  let cond := bits w 8 2
  let flag := (s.chan n).flags.contains (bits w 16 8)
  let l := s.latchAt n (bits w 24 8)
  let lev := if bits w 10 1 = 0 then l else !l
  if cond = 0 then flag else if cond = 1 then lev else flag && lev

/-- The flags after a WAIT proceeds: an event condition consumes its flag. -/
def waitFlags (w : Nat) (flags : List Nat) : List Nat := if bits w 8 2 = 1 then flags else flags.filter (· != bits w 16 8)

/-- Channel n tests the WAIT w, at which it has arrived: it goes on behind it, or waits. -/
def State.waitStep (s : State) (n w : Nat) : State :=
  if s.waitTest n w then
    let t := s.departWait n w
    (t.setChan n { t.chan n with flags := waitFlags w (t.chan n).flags, st := .running }).nextIns n ((t.chan n).pc + 1)
  else s.setChan n { s.chan n with st := .waiting }

/-- WAIT (rules R151 to R153): the channel proceeds or becomes WAITING. -/
def waitOp (n : Nat) (fetch : Ecc) (s : State) : State :=
  s.runIns n 3 fetch fun s => (s.arriveWait n (s.chan n).ins).waitStep n (s.chan n).ins

/-- WAIT_SATISFIED (rules R149, R153): a WAITING channel is tested again; a chute MOVE that stalled runs again once its ports let it
start. -/
def waitSatisfiedOp (n : Nat) (s : State) : State :=
  let c := s.chan n
  if c.st ≠ .waiting then s
  else if insOp c.ins = 3 then s.waitStep n c.ins
  else if s.moveReady n then s.setChan n { c with st := .running } else s

/-- WAIT_TIMEOUT (rule R151): a WAIT with a TIMEOUT halts the channel with STALE. -/
def waitTimeoutOp (n : Nat) (s : State) : State :=
  let c := s.chan n
  if c.st = .waiting ∧ insOp c.ins = 3 ∧ bits c.ins 64 32 ≠ 0 then (s.departWait n c.ins).haltChan n St.stale else s

/-- The notifications of SIGNAL and END (rules R154, R155): WAKE posts CODE to Dispatch, HOST sends an event. -/
def State.notify (s : State) (n w code : Nat) : State :=
  let c := insByte w 2
  let t := if bits w 8 1 = 1 then { s with dsp := { s.dsp with codes := s.dsp.codes ++ [c] } } else s
  if bits w 9 1 = 1 then t.event 4 code (n + 256 * c) else t

/-- The channels a TARGETS mask names. -/
def targetList (mask : Nat) : List Nat := (List.range 32).filter fun k => bits mask k 1 = 1

/-- SIGNAL (rule R154). -/
def signalOp (n : Nat) (fetch : Ecc) (s : State) : State :=
  s.runIns n 4 fetch fun s =>
  let c := s.chan n
  ((s.setFlags n (targetList (bits c.ins 32 32))).notify n c.ins 2).nextIns n (c.pc + 1)

/-- END, or running past PROG_LEN (rule R155). -/
def endOp (n : Nat) (fetch : Ecc) (s : State) : State :=
  let c := s.chan n
  if fetch = .uncorrectable ∧ s.atIns n then s.fetchBad n
  else if s.atOp n 0 then (s.setChan n { c with st := .done, status := St.done }).notify n c.ins 3
  else if c.st = .running ∧ c.pc ≥ s.progLen n ∧ c.move = none then s.setChan n { c with st := .done, status := St.done, pc := s.progLen n }
  else s

/-- A WAITING channel, which is in no MOVE, halts at its boundary. -/
def State.haltWaiting (s : State) (n status : Nat) : State :=
  let t := if insOp (s.chan n).ins = 3 then s.departWait n (s.chan n).ins else s
  (t.setChan n { t.chan n with move := none }).haltChan n status

/-! ## Control, events and ticks -/

/-- A control write to HST_CH_CTRL for the selected channel (rule R159). -/
def channelCtrl (v : Nat) (s : State) : State :=
  let n := s.rd Reg.HST_SEL_CHANNEL
  let c := s.chan n
  let v := v % 8
  let refused := s.wr Reg.HST_FAULT_CTRL_REFUSED 1
  if v = 0 then s
  else if v = 1 then
    if c.st = .idle ∨ c.st = .done ∨ c.st = .halted then
      let done := s.progLen n = 0
      s.setChan n { c with st := if done then .done else .running, status := St.done, pc := 0, loops := [], latch := none, move := none }
    else refused
  else if v = 2 then
    if c.st = .halted then s.setChan n { c with st := .running, move := none } else refused
  else if v = 4 then
    match c.st with
    | .running => if c.move = none then s.haltChan n 0x81 else s.setChan n { c with st := .stopping }
    | .waiting => s.haltWaiting n 0x81
    | .stopping => s
    | _ => refused
  else refused

/-- A write to HST_CH_EVENTS_LO or _HI clears the flags it names (rule R152). -/
def eventFlagsClearOp (hi : Bool) (v : Nat) (s : State) : State :=
  let n := s.rd Reg.HST_SEL_CHANNEL
  let base := if hi then 32 else 0
  let top := if hi then 24 else 32
  s.setChan n { s.chan n with flags := (s.chan n).flags.filter fun e => !(decide (base ≤ e ∧ e < base + top) && bits v (e - base) 1 = 1) }

/-- A write to HST_TICKt (rule R163). -/
def tickConfigWriteOp (t v : Nat) (s : State) : State := { s.wr (Reg.HST_TICK_PERIOD t) v with ticks := AMap.del t s.ticks }

/-- Tick timer t expires (rule R152). -/
def hoistTickOp (t : Nat) (s : State) : State :=
  if s.rd (Reg.HST_TICK_PERIOD t) = 0 then s
  else { s.setFlags (32 + t) (List.range 32) with ticks := AMap.set t (AMap.get s.ticks t 0 + 1) s.ticks }

/-! ## The PROG commit (rule R162) -/

/-- The checks of one instruction (rules R145 to R156); `stops` are the ends of the bodies it lies in. DESIGN CHOICE (log entry 70), where the spec
leaves it open: a LOOP with COUNT 0 counts among the four that nest, one with BODY 0 is never a fifth, and a READBACK program that writes
to a chute write port fails at that MOVE. -/
def insOk (b : Board) (readback : Bool) (len i w : Nat) (stops : List Nat) : Bool :=
  match insOp w with
  | 0 => bits w 4 4 == 0 && bits w 10 6 == 0 && bits w 24 104 == 0
  | 1 =>
    let l := bits w 16 24
    let src := bits w 40 40
    let dst := bits w 80 40
    bits w 6 2 == 0 && bits w 11 5 == 0 && bits w 120 8 == 0
      && (!(isPort b src || isPort b dst) || l % 8 == 0) && !(readback && isWritePort b dst)
  | 2 =>
    let stop := i + 1 + bits w 8 8
    bits w 4 4 == 0 && bits w 80 48 == 0 && decide (stop ≤ len) && stops.all (fun e => decide (stop ≤ e)) && (bits w 8 8 == 0 || decide (stops.length < 4))
  | 3 =>
    let cond := bits w 8 2
    bits w 4 4 == 0 && bits w 11 5 == 0 && bits w 96 32 == 0 && cond != 3
      && (cond == 1 || decide (bits w 16 8 ≤ 55))
      && (cond == 0 || (decide (bits w 24 8 ≤ 95) && decide (bits w 48 16 < bits w 32 16) && decide (bits w 32 16 ≤ chuteCapacity (bits w 24 8))))
  | 4 => bits w 4 4 == 0 && bits w 10 6 == 0 && bits w 24 8 == 0 && bits w 64 64 == 0
  | _ => false

/-- The first instruction that fails, scanning `k` instructions from `i` on. -/
def firstBad (b : Board) (readback : Bool) (prog : AMap Nat) (len : Nat) : Nat → Nat → List Nat → Option Nat
  | 0, _, _ => none
  | k + 1, i, stops =>
    let w := insOf prog i
    let st := stops.filter (fun e => decide (i < e))
    if insOk b readback len i w st then
      firstBad b readback prog len k (i + 1) (if insOp w = 2 ∧ bits w 8 8 ≠ 0 then (i + 1 + bits w 8 8) :: st else st)
    else some i

/-- COMMIT of group PROG (rule R162); BUSY leaves BAD_INDEX as it was: DESIGN CHOICE (log entry 70). -/
def progCommitOp (s : State) : State :=
  let n := s.rd Reg.HST_SEL_CHANNEL
  let c := s.chan n
  let res := Reg.HST_CH_COMMIT_RESULT n
  let badIdx := Reg.HST_CH_COMMIT_BAD_INDEX n
  let len := s.sh (Reg.HST_CH_CFG_PROG_LEN n)
  if c.st = .running ∨ c.st = .waiting ∨ c.st = .stopping then s.wr res St.busy
  else if len > 256 then (s.wr res St.badFormat).wr badIdx 256
  else match firstBad s.board (s.sh (Reg.HST_CH_CFG_COMPL_MODE n) = 0) c.progSh len len 0 [] with
    | some i => (s.wr res St.badFormat).wr badIdx i
    | none =>
      let t := s.commit res [Reg.HST_CH_CFG_PROG_LEN n, Reg.HST_CH_CFG_COMPL_MODE n, Reg.HST_CH_CFG_RETRY_MAX n, Reg.HST_CH_CFG_ARB_PRIO n] St.done
      (t.wr badIdx 0).setChan n { c with st := .idle, status := 0, pc := 0, loops := [], flags := [], latch := none, move := none, prog := c.progSh }

/-! ## Power-down (rules R71, R73, R161) -/

/-- A power-down reaches a channel: WAITING halts PARKED at once, RUNNING between instructions is at a boundary, RUNNING
in a MOVE becomes STOPPING. -/
def State.parkChan (s : State) (n : Nat) : State :=
  let c := s.chan n
  match c.st with
  | .waiting => s.haltWaiting n 0x80
  | .running => if c.move = none then s.haltChan n 0x80 else s.setChan n { c with st := .stopping }
  | _ => s

/-- Every channel is told to stop at its next boundary. -/
def State.parkAll (s : State) : State := (List.range 32).foldl State.parkChan s

/-- At the drain timeout a channel still inside a MOVE halts with ABORT_POWER and the bytes proven by then (rules R72, R161): in WRESP a
number that time decides, a free value; none in READBACK, and none of a chute packet, which is rewound. -/
def State.abortChan (s : State) (n : Nat) : State :=
  match (s.chan n).move with
  | some m =>
    let d := s.draw 1
    let k := match m.dst with
      | .port _ => 0
      | _ => max m.proven (s.provenOf n (d.1 % (m.written + 1)))
    (d.2.setChan n { s.chan n with bytes := k, move := some { m with proven := k } }).haltChan n St.abortPower
  | none => if (s.chan n).st = .running ∨ (s.chan n).st = .stopping then s.haltChan n 0x80
            else if (s.chan n).st = .waiting then s.haltWaiting n 0x80 else s

/-- Every channel still inside a MOVE halts with ABORT_POWER. -/
def State.abortAll (s : State) : State := (List.range 32).foldl State.abortChan s

/-! ## Meanings -/

/-- Meaning of PROG_COMMIT. -/
def execProgCommit (s : State) : Out := .next (s.whenMain progCommitOp)
/-- Meaning of CHANNEL_START. -/
def execChannelStart (v : Word) (s : State) : Out := .next (s.whenMain (channelCtrl v.toNat))
/-- Meaning of CHANNEL_RESUME. -/
def execChannelResume (v : Word) (s : State) : Out := .next (s.whenMain (channelCtrl v.toNat))
/-- Meaning of CHANNEL_STOP. -/
def execChannelStop (v : Word) (s : State) : Out := .next (s.whenMain (channelCtrl v.toNat))
/-- Meaning of EVENT_FLAGS_CLEAR. -/
def execEventFlagsClear (hi : Bool) (v : Word) (s : State) : Out := .next (s.whenMain (eventFlagsClearOp hi v.toNat))
/-- Meaning of TICK_CONFIG_WRITE. -/
def execTickConfigWrite (t : Fin 8) (v : Word) (s : State) : Out := .next (s.whenMain (tickConfigWriteOp t.val v.toNat))
/-- Meaning of HOIST_TICK. -/
def execHoistTick (t : Fin 8) (s : State) : Out := .next (s.whenMain (hoistTickOp t.val))
/-- Meaning of MOVE_COMPLETE. -/
def execMoveComplete (n : Fin 32) (s : State) : Out := .next (s.whenMain (moveCompleteOp n.val))
/-- Meaning of LOOP. -/
def execLoop (n : Fin 32) (fetch : Ecc) (s : State) : Out := .next (s.whenMain (loopOp n.val fetch))
/-- Meaning of WAIT. -/
def execWait (n : Fin 32) (fetch : Ecc) (s : State) : Out := .next (s.whenMain (waitOp n.val fetch))
/-- Meaning of WAIT_SATISFIED. -/
def execWaitSatisfied (n : Fin 32) (s : State) : Out := .next (s.whenMain (waitSatisfiedOp n.val))
/-- Meaning of WAIT_TIMEOUT. -/
def execWaitTimeout (n : Fin 32) (s : State) : Out := .next (s.whenMain (waitTimeoutOp n.val))
/-- Meaning of SIGNAL. -/
def execSignal (n : Fin 32) (fetch : Ecc) (s : State) : Out := .next (s.whenMain (signalOp n.val fetch))
/-- Meaning of END. -/
def execHoistEnd (n : Fin 32) (fetch : Ecc) (s : State) : Out := .next (s.whenMain (endOp n.val fetch))

end Sys2Proof.Machine
end

