-- ==== Sys2Proof/Machine/Rings.lean ====
section
/-! DEFINITION. The Host Ring Engine (chapter 5): doorbells, descriptors, completions, events, MSI-X, credits, the host
claim and host loss. Host memory itself is outside the block; a ring's written and unconsumed entries are in `RingSt`. -/

namespace Sys2Proof.Machine

/-! ## Rings -/

/-- Whether the device may write to host memory: a claim is in force, the link is up and Bus Master Enable is set (rules R117, R118). -/
def State.canWrite (s : State) : Bool := s.hre.claimed && s.busOpen

/-- PCIE_CLKREQ_N is driven low whenever the main domain runs (rule R94). -/
def State.clkreqLow (s : State) : Bool := s.pwr.mainPowered

/-! ## Configuration space (rules R93, R119) -/

/-- Device ID. -/
def pcieDeviceId : Nat := 0x9620
/-- Class code. -/
def pcieClass : Nat := 0x118000
/-- Revision ID: the stepping of GLB_ID. -/
def pcieRevision : Nat := 0x00B19620 / 16777216

/-- The identity a configuration request finds: Device ID, class code and revision ID; none while the request is completed with
Configuration Request Retry Status, or with PCIE_PERST_N asserted (rule R119). -/
def State.configIdentity (s : State) : Option (Nat × Nat × Nat) :=
  if s.hre.served && !s.hre.perst then some (pcieDeviceId, pcieClass, pcieRevision) else none

/-- The read request size in force: larger programmed values act as 512 bytes (rule R93). -/
def PcieCfg.readSize (p : PcieCfg) : Nat := min 512 p.readReq

/-! ## The shadow block (rules R98 to R101) -/

/-- STATE as the shadow block and ATTN_STATE show it: mode code, fleet state, host claimed (rules R98, R126). -/
def State.stateWord (s : State) : Nat := s.mode.code + 16 * s.trp.fleet.code + 64 * bit s.hre.claimed

/-- The shadow word of ring n: the session with LIMIT, or with the producer index (rule R99). -/
def State.shadowWord (s : State) (n : Nat) : Nat :=
  (if s.rd (Reg.HRE_RING_CFG_TYPE n) ≤ 2 then (s.ring n).limit else (s.ring n).index) + 65536 * s.hre.session

/-- PENDING: bit n is set while completion or event ring n holds entries beyond the host's head (rule R98). -/
def State.pendingBits (s : State) : Nat := (s.hre.rings.map fun (p : Nat × RingSt) => if p.2.entries.isEmpty then 0 else 2 ^ p.1).sum

/-- The shadow word of ring n, and then PENDING, are written while the device may write (rules R101, R118). -/
def State.showRing (s : State) (n : Nat) : State :=
  if s.canWrite then
    { s with hre := { s.hre with shadow := { s.hre.shadow with words := AMap.put n (s.shadowWord n) 0 s.hre.shadow.words, pend := s.pendingBits } } }
  else s

/-- The header of the shadow block is written while the device may write (rules R98, R101). -/
def State.showHeader (s : State) : State :=
  if s.canWrite then
    { s with hre := { s.hre with shadow := { s.hre.shadow with pend := s.pendingBits, devAlive := s.hre.devAlive, epoch := s.rd Reg.GLB_EPOCH,
                                                               state := s.stateWord, time := s.now } } }
  else s

/-- TYPE of ring n. -/
def State.ringType (s : State) (n : Nat) : Nat := s.rd (Reg.HRE_RING_CFG_TYPE n)

/-- Whether ring n is enabled as a submission ring. -/
def State.isSub (s : State) (n : Nat) : Bool := s.on (Reg.HRE_RING_CFG_ENABLE n) && decide (s.ringType n ≤ 2)

/-- Size of ring n in entries. -/
def State.ringSize (s : State) (n : Nat) : Nat := 2 ^ s.rd (Reg.HRE_RING_CFG_SIZE_LOG2 n)

/-- The allotment in force for ring n: until BOOT completes, ring 0 is capped at 8 and the other rings get none (rule
R119). -/
def State.allot (s : State) (n : Nat) : Nat :=
  let a := s.rd (Reg.HRE_RING_CREDIT_ALLOT n)
  if s.on Reg.HRE_STATUS_BOOT_CAP then (if n = 0 then min a 8 else 0) else a

/-- Ring n halts with a status (rules R112, R122). -/
def State.haltRing (s : State) (n status : Nat) : State :=
  (s.setRing n { s.ring n with st := .halted, lastErr := status }).fault Reg.HRE_FAULT_RING_HALTED

/-- OUTSTANDING of ring n (rule R111). -/
def State.outstanding (s : State) (n : Nat) : Nat := ((s.ring n).given + 4294967296 - (s.ring n).returned % 4294967296) % 4294967296

/-- Advances LIMIT of submission ring n toward its return point plus its allotment; it never moves backward, and stands while the ring
drains (rules R110, R111, R121). -/
def State.raiseLimit (s : State) (n : Nat) : State :=
  let g := s.ring n
  let target := (g.retPoint + s.allot n) % 65536
  let d := idxDiff target g.limit
  if d < 32768 ∧ g.st ≠ .draining then (s.setRing n { g with limit := target, given := (g.given + d) % 4294967296 }).showRing n else s

/-- Whether the completion of a descriptor needs no more from the host: written without an entry, or its entry consumed
(rule R110). -/
def settled (head : Nat) (x : SubDesc) : Bool :=
  match x.written with
  | .no => false
  | .noEntry => true
  | .at i => decide (1 ≤ idxDiff head i ∧ idxDiff head i < 32768)

/-- The descriptors left after the settled ones at the front, and how many went. -/
def dropSettled (head : Nat) : List SubDesc → Nat × List SubDesc
  | [] => (0, [])
  | x :: t => if settled head x then ((dropSettled head t).1 + 1, (dropSettled head t).2) else (0, x :: t)

/-- Returns the credits of ring n that have come free (rules R110, R111). -/
def State.returnCredits (s : State) (n : Nat) : State :=
  let g := s.ring n
  let r := dropSettled (s.ring (s.rd (Reg.HRE_RING_CFG_BIND n))).head g.sub
  (s.setRing n { g with sub := r.2, retPoint := (g.retPoint + r.1) % 65536, returned := (g.returned + r.1) % 4294967296 }).raiseLimit n

/-- Returns the credits of each submission ring of a list. -/
def State.returnAll (s : State) : List Nat → State
  | [] => s
  | n :: t => State.returnAll (if s.isSub n && (s.ring n).st != .off then s.returnCredits n else s) t

/-! ## Doorbells (rules R99, R102, R112) -/

/-- A doorbell word of ring n as a scan reads it: another session is counted; a submission ring notes the index; a head
past the producer index halts the ring and is ignored. -/
def State.doorbell (s : State) (n w : Nat) : State :=
  let g := s.ring n
  if g.st = .off then s
  else if bits w 16 16 ≠ s.hre.session then (s.fault Reg.HRE_FAULT_STALE_DB).wrapBy Reg.HRE_STALE_DB_COUNT 1
  else
    let i := bits w 0 16
    if s.ringType n ≤ 2 then s.setRing n { g with db := i }
    else if idxDiff i g.head > idxDiff g.index g.head then s.haltRing n St.badFormat
    else s.setRing n { g with head := i, db := i, entries := g.entries.drop (idxDiff i g.head) }

/-- DOORBELL_SCAN (rules R101, R102): the doorbell block's words and HOST_ALIVE as read, and whether the read failed. The words of the
enabled rings count, credits return, and the shadow header is written. With POLL_PERIOD 0 only a kick starts a scan. -/
def doorbellScanOp (words : Vector Word 128) (alive : Nat) (failed : Bool) (s : State) : State :=
  if !s.hre.claimed ∨ (!s.hre.kick ∧ s.rd Reg.HRE_POLL_CFG_POLL_PERIOD = 0) then s
  else
    let t := { s with hre := { s.hre with kick := false } }
    if failed then (t.fault Reg.HRE_FAULT_DB_READ_ERR).wrapBy Reg.HRE_DB_READ_ERR_COUNT 1
    else
      let u := if alive = t.hre.alive then t
               else { t with hre := { t.hre with alive := alive } }.wr Reg.HRE_STATUS_HOST_PRESENT 1
      let v := ((List.finRange 128).foldl (fun (x : State) n => x.doorbell n.val words[n].toNat) u).returnAll (List.range 128)
      { v with hre := { v.hre with devAlive := (v.hre.devAlive + 1) % 4294967296 } }.showHeader

/-! ## Descriptor fetch (rules R104, R112) -/

/-- Whether a fetched descriptor with FENCE has not started. -/
def fenceWaits (sub : List SubDesc) : Bool := sub.any fun x => fenced x.desc && !x.started

/-- Fetches descriptors one by one, at most `room`, up to a waiting fence; their epoch is the one of the fetch (rules R104, R106). -/
def fetchList (ty epoch : Nat) : Nat → List Desc → RingSt → RingSt
  | 0, _, g => g
  | _, [], g => g
  | k + 1, d :: t, g =>
    if fenceWaits g.sub then g
    else fetchList ty epoch k t
      { g with index := (g.index + 1) % 65536, sub := endBad ty false (g.sub ++ [⟨g.index, d, epoch, false, none, .no⟩]) }

/-- DESCRIPTOR_FETCH (rules R112, R122): `descs` are the descriptors read from the fetch index on; `err` says that the
read after them failed. -/
def descriptorFetchOp (n : Nat) (descs : List Desc) (err : Bool) (s : State) : State :=
  let g := s.ring n
  if !s.hre.claimed ∨ !s.hre.fetchOpen ∨ !s.isSub n ∨ g.st ≠ .running then s
  else
    let d := idxDiff g.db g.index
    let room := idxDiff g.limit g.index
    if d ≥ 32768 then s.haltRing n St.badFormat
    else
      let h := fetchList (s.ringType n) s.nextEpoch (min d room) descs g
      let t := s.setRing n h
      if err then t.haltRing n St.busError
      else if d > room ∧ h.index = g.limit then
        (t.wrapBy (Reg.HRE_RING_NOCREDIT n) (d - room)).haltRing n St.noCredit
      else t

/-! ## Completions and events (rules R101, R106 to R109, R115) -/

/-- Ring n signals its vector: the entries since the last signal are covered. -/
def State.signalRing (s : State) (n : Nat) : State :=
  (s.setRing n { s.ring n with unsig := 0, timerOn := false }).signal (s.rd (Reg.HRE_RING_CFG_VECTOR n))

/-- Appends an entry to a COMPLETION or EVENT ring; its shadow word and PENDING follow, and the count trigger may signal (rules R101,
R115). -/
def State.putEntry (s : State) (n : Nat) (e : RingEntry) : State :=
  let g := s.ring n
  let t := (s.setRing n { g with index := (g.index + 1) % 65536, entries := g.entries ++ [e], unsig := g.unsig + 1,
                                 timerOn := s.rd (Reg.HRE_RING_IRQ_COAL_TIME n) != 0 }).showRing n
  let k := s.rd (Reg.HRE_RING_IRQ_COAL_COUNT n)
  if k ≠ 0 ∧ g.unsig + 1 ≥ k then t.signalRing n else t

/-- Whether an earlier descriptor to the same block still has its completion to come (rule R106). -/
def earlierUnwritten (index target : Nat) : List SubDesc → Bool
  | [] => false
  | x :: t => if x.index = index then false
              else (x.desc.target.toNat % 32 == target && x.written == .no) || earlierUnwritten index target t

/-- Notes that a descriptor's completion has been written. -/
def markWritten (index : Nat) (w : Written) : List SubDesc → List SubDesc
  | [] => []
  | x :: t => if x.index = index ∧ x.written = .no then { x with written := w } :: t else x :: markWritten index w t

/-- COMPLETION_WRITE (rules R101, R106, R107, R110, R118) of the finished descriptor at `index` of submission ring n. DONE with NO_COMPL
writes none and needs no consumption; an entry that cannot be written waits, in the order the completions came due. -/
def completionWriteOp (n index : Nat) (s : State) : State :=
  let g := s.ring n
  match g.sub.find? (fun x => x.index == index && x.written == .no) with
  | none => s
  | some x =>
    match x.done with
    | none => s
    | some r =>
      let waits := fun (y : SubDesc) => s.hre.due.contains (n, y.index)
      if waits x || earlierUnwritten index (x.desc.target.toNat % 32) (g.sub.filter fun y => !waits y) then s
      else if r.status = St.done ∧ bits x.desc.flags.toNat 1 1 = 1 then
        (s.setRing n { g with sub := markWritten index .noEntry g.sub }).returnCredits n
      else if !s.canWrite then { s with hre := { s.hre with due := s.hre.due ++ [(n, index)] } }
      else
        let c := s.rd (Reg.HRE_RING_CFG_BIND n)
        let at_ := (s.ring c).index
        let t := s.setRing n { g with sub := markWritten index (.at at_) g.sub }
        t.putEntry c (.cpl ⟨x.desc.tag.toNat, r.status, n, index, r.doneLen, r.result⟩)

/-- k events meant for EVENT ring n are lost and counted (rules R24, R109). -/
def State.loseEvents (s : State) (n k : Nat) : State :=
  if k = 0 then s else (s.stopBy (Reg.HRE_RING_LOST n) k).fault Reg.HRE_FAULT_EVENT_LOST

/-- Writes or holds back a record for EVENT ring n; a full ring loses it, counted, and so does one that does not run (rules R108, R109,
R118; log entry 69). -/
def State.toEventRing (s : State) (n : Nat) (e : BlockEvent) (severity : Nat) : State :=
  let g := s.ring n
  let r : EventRec := ⟨e.code, e.source, severity, g.seq, e.data, e.time⟩
  let t := s.setRing n { g with seq := (g.seq + 1) % 4294967296 }
  if g.st ≠ .running ∨ g.entries.length + g.waiting.length ≥ s.ringSize n then t.loseEvents n 1
  else if s.canWrite ∧ g.waiting.isEmpty then t.putEntry n (.evt r)
  else t.setRing n { t.ring n with waiting := g.waiting ++ [r] }

/-- EVENT_WRITE (rules R108, R109, R552): the oldest block event goes to the ring GLB_EVENT_RING names, or is counted in
GLB_EVENT_LOST. -/
def eventWriteOp (s : State) : State :=
  match s.evq with
  | [] => s
  | e :: rest =>
    let t := { s with evq := rest }
    let n := t.rd Reg.GLB_EVENT_RING_RING
    let sev := t.draw 3
    if t.on Reg.GLB_EVENT_RING_EN && t.on (Reg.HRE_RING_CFG_ENABLE n) && t.ringType n == 4 then
      sev.2.toEventRing n e (sev.1 % 3)
    else t.bump Reg.GLB_EVENT_LOST Reg.GLB_FAULT_CNT_SAT

/-- COALESCE_TIMER (rule R115). -/
def coalesceTimerOp (n : Nat) (s : State) : State :=
  if (s.ring n).timerOn && (s.ring n).unsig != 0 then s.signalRing n else s

/-- MSIX_GAP_END (rule R115). -/
def msixGapEndOp (v : Nat) (s : State) : State :=
  let x := s.vec v
  if x.merged then (s.setVec v { x with inGap := false, merged := false }).signal v else s.setVec v { x with inGap := false }

/-- MSIX_UNMASK (rule R114). -/
def msixUnmaskOp (v : Nat) (s : State) : State :=
  let t := s.wr (Reg.MSIX_MASK v) 0
  if t.on (Reg.MSIX_PENDING v) then (t.wr (Reg.MSIX_PENDING v) 0).signal v else t

/-! ## Ring control (rules R120, R121) -/

/-- The members of group RING of ring n. -/
def ringGroup (n : Nat) : List Fld :=
  [Reg.HRE_RING_BASE_ADDR n, Reg.HRE_RING_CFG_TYPE n, Reg.HRE_RING_CFG_SIZE_LOG2 n, Reg.HRE_RING_CFG_BIND n,
   Reg.HRE_RING_CFG_VECTOR n, Reg.HRE_RING_CFG_ENABLE n, Reg.HRE_RING_CREDIT_ALLOT n, Reg.HRE_RING_IRQ_COAL_COUNT n,
   Reg.HRE_RING_IRQ_COAL_TIME n]

/-- ALLOT summed over the enabled submission rings bound to completion ring c, without ring n. -/
def State.boundAllot (s : State) (c n : Nat) : Nat :=
  ((List.range 128).map fun m =>
    if m ≠ n ∧ s.isSub m ∧ s.rd (Reg.HRE_RING_CFG_BIND m) = c then s.rd (Reg.HRE_RING_CREDIT_ALLOT m) else 0).sum

/-- Whether a RING commit of ring n breaks rule R120; a base of 0 is rejected too (HRE_RING_BASE has the layout of HRE_DB_BASE, rule
R125). -/
def State.ringBad (s : State) (n : Nat) : Bool :=
  let ty := s.sh (Reg.HRE_RING_CFG_TYPE n)
  let lg := s.sh (Reg.HRE_RING_CFG_SIZE_LOG2 n)
  let bind := s.sh (Reg.HRE_RING_CFG_BIND n)
  let al := s.sh (Reg.HRE_RING_CREDIT_ALLOT n)
  let en := s.sh (Reg.HRE_RING_CFG_ENABLE n)
  let same := fun (f : Fld) => s.sh f == s.rd f
  decide (ty > 4) || decide (lg < 4 ∨ lg > 12) || decide (s.sh (Reg.HRE_RING_BASE_ADDR n) = 0)
    || (decide (ty ≤ 2) &&
        (!(s.on (Reg.HRE_RING_CFG_ENABLE bind) && s.ringType bind == 3) || decide (al > 2 ^ lg)
          || (en == 1 && decide (s.boundAllot bind n + al > s.ringSize bind))))
    || (n == 0 && decide (ty ≠ 0 ∨ bind ≠ 1))
    || (n == 1 && decide (ty ≠ 3 ∨ s.sh (Reg.HRE_RING_CFG_VECTOR 1) ≠ 0))
    || (s.on (Reg.HRE_RING_CFG_ENABLE n) &&
        !(same (Reg.HRE_RING_BASE_ADDR n) && same (Reg.HRE_RING_CFG_TYPE n) && same (Reg.HRE_RING_CFG_SIZE_LOG2 n)
          && same (Reg.HRE_RING_CFG_BIND n) && same (Reg.HRE_RING_CFG_VECTOR n)))
    || (s.on (Reg.HRE_RING_CFG_ENABLE n) && en == 0 && s.ringType n == 3 &&
        (List.range 128).any fun m => s.isSub m && s.rd (Reg.HRE_RING_CFG_BIND m) == n)

/-- Fetched descriptors that have not started complete with RING_DRAINED. -/
def drainSub : List SubDesc → List SubDesc
  | [] => []
  | x :: t => (if x.started ∨ x.done.isSome then x else { x with started := true, done := some ⟨0x80, 0, 0⟩ }) :: drainSub t

/-- RING_COMMIT (rules R120, R121). -/
def ringCommitOp (s : State) : State :=
  let n := s.rd Reg.HRE_RING_SEL_RING
  let res := Reg.HRE_RING_COMMIT_RESULT n
  let g := s.ring n
  let was := s.on (Reg.HRE_RING_CFG_ENABLE n)
  let en := s.sh (Reg.HRE_RING_CFG_ENABLE n) == 1
  if !s.hre.served then s
  else if g.st = .draining then s.wr res St.busy
  else if s.ringBad n then s.wr res St.badFormat
  else if was && !en then
    let left := idxDiff g.limit g.index
    let sub := decide (s.ringType n ≤ 2)
    let h := if sub then { g with st := .draining, sub := drainSub g.sub, returned := (g.returned + left) % 4294967296 }
             else { g with st := .draining }
    let t := (s.setRing n h).setPending res
    if sub then t.wrapBy (Reg.HRE_RING_UNFETCHED n) left else t
  else
    let t := s.commit res (ringGroup n) St.done
    if !was && en then
      let u := t.setRing n { RingSt.off with st := .running, given := g.given, returned := g.returned }
      if t.ringType n ≤ 2 then (u.showRing n).raiseLimit n else u.showRing n
    else if en ∧ t.ringType n ≤ 2 then t.raiseLimit n else t

/-- Whether every fetched descriptor of a ring has completed. -/
def allWritten (sub : List SubDesc) : Bool := sub.all fun x => x.written != .no

/-- RING_DRAIN_DONE (rule R121): the ring becomes OFF and every position left is returned. Events that still wait on an EVENT ring are
lost with it and counted: DESIGN CHOICE (log entry 69). -/
def ringDrainDoneOp (n : Nat) (s : State) : State :=
  let g := s.ring n
  if g.st = .draining ∧ allWritten g.sub then
    ((s.loseEvents n g.waiting.length).setRing n { RingSt.off with given := g.given, returned := g.given }).endPending
      (Reg.HRE_RING_COMMIT_RESULT n) (ringGroup n) St.done
  else s

/-! ## Claim, release, loss (rules R116 to R119) -/

/-- Descriptors of all rings whose completion was never written. -/
def State.unwritten (s : State) : Nat :=
  ((List.range 128).map fun n => ((s.ring n).sub.filter fun x => x.written == .no).length).sum

/-- Disables ring n at the end of a session: its positions are returned, events that wait are lost, and its fetched descriptors that have
not completed run on without their ring (rules R111, R117). -/
def State.closeRing (s : State) (n : Nat) : State :=
  let g := s.ring n
  let left := (g.sub.filter (·.done.isNone)).map fun x => (⟨s.hre.session, n, x⟩ : OldDesc)
  let u := (s.loseEvents n g.waiting.length).setRing n { RingSt.off with given := g.given, returned := g.given }
  let t := { u with hre := { u.hre with old := u.hre.old ++ left } }.wr (Reg.HRE_RING_CFG_ENABLE n) 0
  if s.isPending (Reg.HRE_RING_COMMIT_RESULT n) then t.endPending (Reg.HRE_RING_COMMIT_RESULT n) [] St.done else t

/-- The session ends (rule R117); a release in FLEET_RUN acts as host loss (rule R118). -/
def State.endSession (s : State) : State :=
  if !s.hre.claimed then s
  else
    let k := s.unwritten
    let t := (List.range 128).foldl State.closeRing s
    let loss := s.on Reg.HRE_HOST_CFG_HOST_LOSS_HOLD && s.mode == .fleetRun
    let u := { t with hre := { t.hre with claimed := false, session := 0, kick := false, due := [], lockout := true,
                                          lossHold := t.hre.lossHold || loss } }
    let v := ((u.wr Reg.HRE_STATUS_CLAIMED 0).wr Reg.HRE_STATUS_HOST_PRESENT 0).wrapBy Reg.HRE_ABANDONED_COUNT k
    let w := if k = 0 then v else v.fault Reg.HRE_FAULT_ABANDONED
    (w.wr Reg.ATTN_CLAIM_STATUS_CLAIMED 0).wr Reg.ATTN_CLAIM_STATUS_SESSION 0

/-- A write to ATTN_CLAIM with the command register's Bus Master Enable at that moment (rules R116, R117). -/
def claimWrite (v : Nat) (bme : Bool) (s : State) : State :=
  if !s.hre.served then s
  else
    let s := { s with hre := { s.hre with bme := bme } }
    let claim := bits v 31 1 = 1
    let release := bits v 30 1 = 1
    let ses := bits v 0 16
    let answer := fun (t : State) (x : Nat) => t.wr Reg.ATTN_CLAIM_STATUS_STATUS x
    if claim ↔ release then answer s St.badFormat
    else if release then answer s.endSession St.done
    else if s.pwr.pfailLatched || s.pwr.pdown.isSome then answer s St.busy
    else if !s.hre.committed then answer s 0x82
    else if !bme then answer s 0x81
    else if ses = 0 ∨ ses ≠ s.rd Reg.HRE_HOST_CFG_SESSION then answer s St.badFormat
    else if s.hre.claimed then answer s (if s.hre.session = ses then St.done else St.conflict)
    else
      let t := { s with hre := { s.hre with claimed := true, session := ses } }
      let u := ((t.wr Reg.HRE_STATUS_CLAIMED 1).wr Reg.ATTN_CLAIM_STATUS_CLAIMED 1).wr Reg.ATTN_CLAIM_STATUS_SESSION ses
      let w := if u.trp.arm = some true then u.refuseArm else u
      answer (if w.mode = .pantry then w.enterMode .hostedIdle else w) St.done

/-- COMMIT of group HOST (rule R125). -/
def hostCommitOp (s : State) : State :=
  if !s.hre.served then s
  else
    let keep := [Reg.HRE_DB_BASE_ADDR, Reg.HRE_SH_BASE_ADDR, Reg.HRE_HOST_CFG_SESSION]
    let fs := keep ++ [Reg.HRE_HOST_CFG_HOST_LOSS_HOLD, Reg.HRE_POLL_CFG_POLL_PERIOD, Reg.HRE_POLL_CFG_HOST_TIMEOUT]
    let v := firstFail
      [(s.hre.claimed && keep.any (fun f => s.sh f != s.rd f), St.busy),
       (decide (s.sh Reg.HRE_DB_BASE_ADDR = 0 ∨ s.sh Reg.HRE_SH_BASE_ADDR = 0), St.badFormat),
       (decide (s.sh Reg.HRE_DB_BASE_ADDR = s.sh Reg.HRE_SH_BASE_ADDR), St.badFormat),
       (decide (s.sh Reg.HRE_HOST_CFG_SESSION = 0), St.badFormat),
       (decide (s.sh Reg.HRE_POLL_CFG_POLL_PERIOD > 1000), St.badFormat)]
    let t := s.commit Reg.HRE_HOST_COMMIT_RESULT fs v
    if v = St.done then { t with hre := { t.hre with committed := true } } else t

/-- The host is lost (rule R118). -/
def State.loseHost (s : State) : State :=
  if !s.hre.claimed then s
  else
    let loss := s.on Reg.HRE_HOST_CFG_HOST_LOSS_HOLD && s.mode == .fleetRun
    ({ s with hre := { s.hre with lossHold := s.hre.lossHold || loss } }.wr Reg.HRE_STATUS_HOST_PRESENT 0).fault Reg.HRE_FAULT_HOST_LOST

/-- HOST_ALIVE_TIMEOUT (rule R118). -/
def hostAliveTimeoutOp (s : State) : State := if s.rd Reg.HRE_POLL_CFG_HOST_TIMEOUT = 0 then s else s.loseHost

/-- LINK_L0_LOSS: the link leaves L0, or has left it for longer than 10 ms, when the host is lost (rule R118). -/
def linkL0LossOp (long : Bool) (s : State) : State :=
  let t := s.wr Reg.HRE_STATUS_LINK_UP 0
  let u := if s.hre.claimed then t.fault Reg.HRE_FAULT_LINK_DOWN else t
  if long then u.loseHost else u

/-- BUS_MASTER_CLEAR (rule R118). -/
def busMasterClearOp (s : State) : State := { s with hre := { s.hre with bme := false } }.loseHost

/-- D3HOT_ENTRY (rule R118). -/
def d3hotEntryOp (s : State) : State := { s with hre := { s.hre with d3hot := true } }.loseHost

/-- Writes the records that wait on EVENT ring n, in order. -/
def State.flushEvents (s : State) (n : Nat) : State :=
  (s.ring n).waiting.foldl (fun u r => u.putEntry n (.evt r)) (s.setRing n { s.ring n with waiting := [] })

/-- Writes the finished completions of submission ring n, in index order. -/
def State.flushCompletions (s : State) (n : Nat) : State :=
  ((s.ring n).sub.map (·.index)).foldl (fun u i => completionWriteOp n i u) s

/-- A message that waited for the link leaves (rule R118). -/
def State.resumeVec (s : State) (v : Nat) : State :=
  let x := s.vec v
  if x.merged && (!x.inGap || v == 1) then (s.setVec v { x with merged := false }).signal v else s

/-- HOST_WRITE_RESUME (rule R118): the link is up with Bus Master Enable set; what waits is written, the completions in the order they
came due, then the events of each ring, the shadow words and the messages. -/
def hostWriteResumeOp (s : State) : State :=
  let t := { s with hre := { s.hre with bme := true, d3hot := false } }.wr Reg.HRE_STATUS_LINK_UP 1
  let u :=
    if !t.canWrite then t
    else
      let a := t.hre.due.foldl (fun x p => completionWriteOp p.1 p.2 x) { t with hre := { t.hre with due := [] } }
      let b := (List.range 128).foldl (fun x n => if x.ringType n = 4 then x.flushEvents n else x) a
      (List.range 128).foldl (fun x n => if x.on (Reg.HRE_RING_CFG_ENABLE n) then x.showRing n else x) b
  (List.range 16).foldl State.resumeVec u

/-- PERST_ASSERT (rule R96): the endpoint and the Host Ring Engine reset; the claim is released, and descriptors already fetched run on
(rule R117). PCIE_WAKE_N is the ladder's (rule R97), and HOST_UNSET speaks of the commits since reset release (rule R116): both stand.
BOOT_CAP reads 0 once BOOT has completed, since the cap was lifted then (rule R119). DESIGN CHOICE, both (log entry 69). -/
def perstAssertOp (s : State) : State :=
  let k := if s.hre.claimed then s.unwritten else 0
  let t := s.endSession
  let inHre := fun (key : Nat) => decide (key / 64 % 4294967296 / 65536 = 2 ∨ key / 64 % 4294967296 / 65536 = 4096)
  let h : Hre := { Hre.reset with served := t.hre.served, lossHold := t.hre.lossHold, lockout := t.hre.lockout, perst := true,
                                  old := t.hre.old, shadow := t.hre.shadow, committed := t.hre.committed, wakeLow := t.hre.wakeLow }
  let u := { t with hre := h, shd := t.shd.filter (fun p => !inHre p.1), cmt := t.cmt.filter (fun key => !inHre key),
                    fld := t.fld.filter (fun p => !inHre p.1) }
  let v := if s.on Reg.CLK_ADMIT_STATUS_BOOT_DONE then u.wr Reg.HRE_STATUS_BOOT_CAP 0 else u
  let w := v.wrapBy Reg.HRE_ABANDONED_COUNT k
  if k = 0 then w else w.fault Reg.HRE_FAULT_ABANDONED

/-- PCIE_LINK_UP (rules R93, R119): the link reaches L0 at 2.5, 5.0 or 8.0 GT/s and a width of 1, 2 or 4. -/
def pcieLinkUpOp (speed width : Nat) (s : State) : State :=
  if speed = 0 ∨ speed > 3 ∨ width = 0 ∨ width = 3 ∨ width > 4 then s else
  let t := { s with hre := { s.hre with perst := false, wakeLow := false } }
  ((t.wr Reg.HRE_STATUS_LINK_UP 1).wr Reg.HRE_STATUS_LINK_SPEED speed).wr Reg.HRE_STATUS_LINK_WIDTH width

/-- PCIE_WAKE_RELEASE (rule R97). -/
def pcieWakeReleaseOp (s : State) : State := { s with hre := { s.hre with wakeLow := false } }

/-- HOST_ADMISSION_OPEN (rules R97, R119): 100 ms after reset release; PCIE_WAKE_N goes low after a release caused by WAKE, PFAIL_RESTART
or THERM_CUT. -/
def hostAdmissionOpenOp (s : State) : State :=
  let cause := fun (f : Fld) => bits s.pwr.relCause f.lo 1 == 1
  let wake := cause Reg.CLK_RESET_CAUSE_WAKE || cause Reg.CLK_RESET_CAUSE_PFAIL_RESTART || cause Reg.CLK_RESET_CAUSE_THERM_CUT
  { s with hre := { s.hre with served := true, wakeLow := wake && !s.on Reg.HRE_STATUS_LINK_UP } }

/-- ATTN_KICK (rule R102): a scan is due; kicks before it starts merge. -/
def attnKickOp (s : State) : State := if s.hre.served then { s with hre := { s.hre with kick := true } } else s

/-! ## Meanings -/

/-- Meaning of PERST_ASSERT. -/
def execPerstAssert (s : State) : Out := .next (s.whenMain perstAssertOp)
/-- Meaning of PCIE_LINK_UP. -/
def execPcieLinkUp (speed width : Fin 5) (s : State) : Out := .next (s.whenMain (pcieLinkUpOp speed.val width.val))
/-- Meaning of PCIE_WAKE_RELEASE. -/
def execPcieWakeRelease (s : State) : Out := .next (s.whenMain pcieWakeReleaseOp)
/-- Meaning of HOST_ADMISSION_OPEN. -/
def execHostAdmissionOpen (s : State) : Out := .next (s.whenMain hostAdmissionOpenOp)
/-- Meaning of HOST_COMMIT. -/
def execHostCommit (s : State) : Out := .next (s.whenMain hostCommitOp)
/-- Meaning of HOST_CLAIM. -/
def execHostClaim (v : Word) (bme : Bool) (s : State) : Out := .next (s.whenMain (claimWrite v.toNat bme))
/-- Meaning of HOST_RELEASE. -/
def execHostRelease (v : Word) (bme : Bool) (s : State) : Out := .next (s.whenMain (claimWrite v.toNat bme))
/-- Meaning of ATTN_KICK. -/
def execAttnKick (s : State) : Out := .next (s.whenMain attnKickOp)
/-- Meaning of DOORBELL_SCAN. -/
def execDoorbellScan (words : Vector Word 128) (alive : Word) (failed : Bool) (s : State) : Out :=
  .next (s.whenMain (doorbellScanOp words alive.toNat failed))
/-- Meaning of DESCRIPTOR_FETCH. -/
def execDescriptorFetch (ring : Fin 128) (descs : List Desc) (err : Bool) (s : State) : Out :=
  .next (s.whenMain (descriptorFetchOp ring.val descs err))
/-- Meaning of HRE_NOP. -/
def execHreNop (c : Cmd) (s : State) : Out := .next (s.whenMain fun t => t.hostCmd c .command fun u => u.finish c St.done 0 0)
/-- Meaning of HRE_ECHO. -/
def execHreEcho (c : Cmd) (s : State) : Out :=
  .next (s.whenMain fun t => t.hostCmd c .command fun u => u.finish c St.done 0 c.desc.p0.toNat)
/-- Meaning of COMPLETION_WRITE. -/
def execCompletionWrite (ring : Fin 128) (index : BitVec 16) (s : State) : Out :=
  .next (s.whenMain (completionWriteOp ring.val index.toNat))
/-- Meaning of EVENT_WRITE. -/
def execEventWrite (s : State) : Out := .next (s.whenMain eventWriteOp)
/-- Meaning of COALESCE_TIMER. -/
def execCoalesceTimer (ring : Fin 128) (s : State) : Out := .next (s.whenMain (coalesceTimerOp ring.val))
/-- Meaning of MSIX_GAP_END. -/
def execMsixGapEnd (v : Fin 16) (s : State) : Out := .next (s.whenMain (msixGapEndOp v.val))
/-- Meaning of MSIX_UNMASK. -/
def execMsixUnmask (v : Fin 16) (s : State) : Out := .next (s.whenMain (msixUnmaskOp v.val))
/-- Meaning of RING_COMMIT. -/
def execRingCommit (s : State) : Out := .next (s.whenMain ringCommitOp)
/-- Meaning of RING_DRAIN_DONE. -/
def execRingDrainDone (ring : Fin 128) (s : State) : Out := .next (s.whenMain (ringDrainDoneOp ring.val))
/-- Meaning of HOST_ALIVE_TIMEOUT. -/
def execHostAliveTimeout (s : State) : Out := .next (s.whenMain hostAliveTimeoutOp)
/-- Meaning of LINK_L0_LOSS. -/
def execLinkL0Loss (long : Bool) (s : State) : Out := .next (s.whenMain (linkL0LossOp long))
/-- Meaning of BUS_MASTER_CLEAR. -/
def execBusMasterClear (s : State) : Out := .next (s.whenMain busMasterClearOp)
/-- Meaning of D3HOT_ENTRY. -/
def execD3hotEntry (s : State) : Out := .next (s.whenMain d3hotEntryOp)
/-- Meaning of HOST_WRITE_RESUME. -/
def execHostWriteResume (s : State) : Out := .next (s.whenMain hostWriteResumeOp)

end Sys2Proof.Machine
end

