-- ==== Sys2Proof/Machine/Timekeeper.lean ====
section
/-! DEFINITION. The Timekeeper (chapter 18): sources and their corrections, time quality and holdover, steps, PTP, pulses and
captures, the calendar. -/

namespace Sys2Proof.Machine

/-! ## Yard time as numbers (rules R422, R424) -/

/-- A yard time in ns. -/
def toNs (t : YTime) : Nat := t.sec * 1000000000 + t.ns

/-- The yard time of a number of ns, with 48-bit seconds. -/
def ofNs (n : Int) (frac : Nat) : YTime :=
  ⟨(n / 1000000000 % 281474976710656).toNat, (n % 1000000000).toNat, frac⟩

/-- Rule R424: a is later than b. -/
def timeLater (a b : YTime) : Bool := decide (0 < timeDiff a b)

/-- An offset in 2⁻⁸ ns as whole ns. -/
def offNs (off : Int) : Int := rndDiv off 256

/-! ## Steady modes, quality and holdover (rules R425, R429, R430) -/

/-- Whether yard time must not step (rule R425). -/
def State.steady (s : State) : Bool := s.mode.fleet || s.follows || s.rd Reg.LDR_HELD != 0 || s.rd Reg.LDR_PENDING != 0

/-- The quality changes; a fall sets HOLD_DEGRADED. -/
def State.setTq (s : State) (q : Nat) : State :=
  let t := s.wr Reg.TIM_STATUS_TQ q
  if s.rd Reg.TIM_STATUS_TQ < q then t.fault Reg.TIM_FAULT_HOLD_DEGRADED else t

/-- E(t) in ns, rounded up, t ns after the last valid solution (rule R430). -/
def State.estimate (s : State) (t : Nat) : Nat :=
  let a := bits (s.rd Reg.TIM_HOLD_CFG) 0 16
  let d := bits (s.rd Reg.TIM_HOLD_CFG) 16 16
  let den := 720000 * 10 ^ 18
  s.tim.e0 + (a * t * 72000 * 10 ^ 9 + d * t * t + (den - 1)) / den

/-- The quality of a holdover estimate. -/
def holdTq (e : Nat) : Nat := if e ≤ 1000 then 2 else if e ≤ 100000 then 3 else if e ≤ 1000000 then 4 else 5

/-- The estimate at an instant is shown, and the quality falls as it says. -/
def State.holdAt (s : State) (t : YTime) : State :=
  let e := s.estimate (timeDiff t s.tim.lastOk / 65536).toNat
  let u := s.wr Reg.TIM_EST_ERR (min e 4294967295)
  if u.rd Reg.TIM_STATUS_TQ < holdTq e then u.setTq (holdTq e) else u

/-! ## Sources (rules R426, R428) -/

/-- STEP_THRESH in 2⁻⁸ ns. -/
def State.stepThresh (s : State) : Nat := s.rd Reg.TIM_CFG_STEP_THRESH * 256000

/-- Whether source k is valid, and its offset. -/
def State.sourceOk (s : State) (k : Nat) : Bool × Int :=
  if k = 0 then (s.tim.gnssOk, s.tim.gnssOff)
  else if k = 1 then (s.tim.ptpOk && s.rd Reg.TIM_PTP_CFG_ROLE != 0, s.tim.ptpOff)
  else (false, 0)

/-- The source in force as rule R426 takes it. -/
def State.pickSource (s : State) : Nat :=
  if s.follows then (if s.twn.timeOk then 2 else 3)
  else
    let a := s.rd Reg.TIM_CFG_SRC_FIRST
    let b := s.rd Reg.TIM_CFG_SRC_SECOND
    let y := s.sourceOk b
    if (s.sourceOk a).1 then a else if y.1 && decide (y.2.natAbs ≤ s.stepThresh) then b else 3

/-- Takes the source in force anew; another source than the last presets its loop and is counted. -/
def State.reselect (s : State) : State :=
  let k := s.pickSource
  if k = s.rd Reg.TIM_STATUS_SOURCE then s
  else if k = 3 then (s.wr Reg.TIM_STATUS_SOURCE 3).wr Reg.TIM_STATUS_STEERING 0
  else
    let t0 : State := { s.wr Reg.TIM_STATUS_SOURCE k with
      tim := { s.tim with confirm := true, preset := true, lastSrc := k, lockFrom := none } }
    let t := if s.rd Reg.TIM_STATUS_TQ = 0 then t0.setTq 1 else t0
    if s.tim.lastSrc = 3 ∨ s.tim.lastSrc = k then t
    else (t.bump Reg.TIM_SRC_SWITCHES Reg.TIM_FAULT_CNT_SAT).fault Reg.TIM_FAULT_SRC_SWITCH

/-- A clock input goes to chute 42 (rules R338, R428). -/
def State.sendClock (s : State) (k : Nat) (off : Int) (t : Nat) (preset : Bool) : State :=
  let q := AMap.get s.tim.inSeq k 0
  let u : State := { s with tim := { s.tim with inSeq := AMap.set k ((q + 1) % 4294967296) s.tim.inSeq } }
  u.send 42 0 ([0x32, k, bit preset, 0] ++ le 4 q ++ le 4 (unsigned 32 off) ++ le 4 (s.rd Reg.TIM_CFG_SLEW_PPM * 1000) ++ le 4 t
    ++ le 4 (if preset then unsigned 32 (rndDiv (signed 32 (s.rd Reg.TIM_FREQ)) 256) else 0) ++ le 8 0)

/-! ## Corrections (rules R431 to R434) -/

/-- A phase slew of an offset begins: the rate is the held frequency with SLEW_PPM added in the sign of the offset, and never above the
bound (rules R428, R431). -/
def State.slewBy (s : State) (off : Int) : State :=
  let held := signed 32 (s.rd Reg.TIM_FREQ)
  let bound : Int := s.rd Reg.TIM_CFG_SLEW_PPM * 256000
  let rate := max (-bound) (min bound (if off < 0 then held - bound else held + bound))
  ({ s with tim := { s.tim with slew := some (offNs off), held := held } }.wr Reg.TIM_STATUS_SLEWING 1).wr Reg.TIM_FREQ (unsigned 32 rate)

/-- A correction is accepted. -/
def State.accepted (s : State) : State :=
  let t : State := { s with tim := { s.tim with stepFrom := none, lockFrom := none } }
  (((t.wr Reg.TIM_STATUS_SET_STATE 2).setTq 1).wr Reg.TIM_STATUS_STEERING 1).wr Reg.TIM_STATUS_REJECTED 0

/-- A correction beyond STEP_THRESH has the value v, in ns, now: what AUTO_STEP waits for goes on, or begins anew with a value more than
10 µs from its first (rule R434). -/
def State.trackStep (s : State) (v : Int) : State :=
  match s.tim.stepFrom with
  | some (a, _) => if (v - a).natAbs ≤ 10000 then s else { s with tim := { s.tim with stepFrom := some (v, s.now) } }
  | none => { s with tim := { s.tim with stepFrom := some (v, s.now) } }

/-- How far the reference domain is ahead of yard time at t, in ns: its offset at the opening less what the slew has closed since (rule
R433). -/
def State.refAhead (s : State) (t : YTime) : Int :=
  match s.tim.refDom with
  | none => 0
  | some (a, off) =>
    let d := (timeDiff t a / 65536).toNat
    let p := s.rd Reg.TIM_CFG_SLEW_PPM
    if off < 0 then min 0 (off + (d * p / (1000000 - p) : Nat)) else max 0 (off - (d * p / (1000000 + p) : Nat))

/-- Generator g after a forward step to `now`: a single pulse passed fires late, a schedule resumes at its first later time. -/
def State.stepPulse (s : State) (now : YTime) (g : Nat) (p : PulseSt) : PulseSt :=
  if timeLater p.next now then p
  else
    let per := s.rd (Reg.TIM_PG_PERIOD g)
    if per = 0 then { p with late := true }
    else
      let d := (timeDiff now p.next / 65536).toNat
      { p with next := ofNs (toNs p.next + (d / per + 1) * per : Nat) p.next.frac }

/-- A step (rule R434): yard time, slot number, pulse schedules, the step mark, the counts. The time since reset release does not step
(rule R77), and neither do the times between a solution or a Sync and now. -/
def State.stepTime (s : State) (off : Int) : State :=
  let old := s.now
  let new := ofNs ((toNs old : Int) + offNs off) old.frac
  let move := fun (t : YTime) => ofNs ((toNs t : Int) + offNs off) t.frac
  let t : State := { s with
    tim := { s.tim with now := new, sols := s.tim.sols.map (fun (p : YTime × Int) => (move p.1, p.2 - off)), solFrom := s.tim.solFrom.map move,
                        solLast := s.tim.solLast.map move, syncAt := s.tim.syncAt.map move, lastOk := move s.tim.lastOk },
    upd := { s.upd with released := s.upd.released + offNs off } }
  let slot := (new.sec * 1000 + new.ns / 1000000) / t.slotMs % 4294967296
  let u := (t.wr Reg.LDR_SLOT_NOW slot).wr Reg.LDR_STATUS_SLOT_POS (slot % 64)
  let pg := u.tim.pg.map fun (p : Nat × PulseSt) => (p.1, if timeLater new old then u.stepPulse new p.1 p.2 else p.2)
  let late := pg.any fun (p : Nat × PulseSt) => p.2.late
  let v := { u with tim := { u.tim with pg := pg, refDom := none } }.tallyRecord 4 3 0 0 (stamp old ++ stamp new)
  let w := (v.wrapBy Reg.TIM_STEPS 1).fault Reg.TIM_FAULT_STEPPED
  if late then w.fault Reg.TIM_FAULT_PG_LATE else w

/-- An input of the source in force is taken as it is. -/
def State.plainInput (s : State) (k : Nat) (off : Int) (t : Nat) : State :=
  let n := (offNs off).natAbs
  let u := s.sendClock (if k = 0 then 0 else 1) off t s.tim.preset
  let q := u.rd Reg.TIM_STATUS_TQ
  let v := if q = 0 ∧ n > 40 then u.setTq 1 else u
  let e0 := if v.rd Reg.TIM_STATUS_TQ = 0 then 40 else n + 40
  let last := if k = 0 then v.tim.solLast.getD v.now else v.now
  let lock := if k = 0 ∧ n ≤ 40 then v.tim.lockFrom.or (some v.now) else none
  { v with tim := { v.tim with preset := false, e0 := e0, lastOk := last, lockFrom := lock } }.wr Reg.TIM_EST_ERR (min e0 4294967295)

/-- A correction E (rules R423, R431 to R433). -/
def State.correct (s : State) (k : Nat) (off : Int) (t : Nat) : State :=
  if s.rd Reg.TIM_STATUS_SET_STATE ≠ 2 ∧ !s.steady then
    let u := (s.stepTime off).accepted
    { u with tim := { u.tim with preset := true, lastOk := u.now } }
  else if off.natAbs ≤ 2560000 then
    let u := s.accepted
    { u with tim := { u.tim with preset := true } }.plainInput k off t
  else if off.natAbs ≤ s.stepThresh then s.accepted.slewBy off
  else if s.on Reg.TIM_CFG_POLICY then
    let u := (s.accepted.slewBy off).wr Reg.TIM_STATUS_SHADOW 1
    ({ u with tim := { u.tim with refDom := some (u.now, offNs off) } }.trackStep (offNs off)).wr Reg.TIM_PTP_STATE_ALT_ACTIVE 1
  else
    ((((s.trackStep (offNs off)).wr Reg.TIM_STATUS_REJECTED 1).wr Reg.TIM_STATUS_STEERING 0).bump Reg.TIM_STEPS_REFUSED Reg.TIM_FAULT_CNT_SAT).fault
      Reg.TIM_FAULT_STEP_REFUSED

/-- A clock input of source k (rule R428); an input of another source than the one in force only feeds its loop. -/
def State.sourceInput (s : State) (k : Nat) (off : Int) (t : Nat) : State :=
  let u := s.reselect
  let src := u.rd Reg.TIM_STATUS_SOURCE
  if src = 3 then u
  else if src ≠ k then (if src = 2 ∧ k = 1 then u else u.sendClock k off t false)
  else
    let v := u.wr Reg.TIM_REF_OFFSET (unsigned 64 (offNs off))
    if v.tim.slew.isSome then
      (match v.tim.refDom with
       | some (_, first) => v.trackStep (offNs off + first - v.refAhead v.now)
       | none => v)
    else if v.on Reg.TIM_STATUS_REJECTED ∧ !v.tim.confirm then
      if off.natAbs ≤ v.stepThresh then (v.wr Reg.TIM_STATUS_REJECTED 0).correct k off t else v.trackStep (offNs off)
    else if v.tim.confirm ∨ v.rd Reg.TIM_STATUS_SET_STATE ≠ 2 then
      ({ v with tim := { v.tim with confirm := false } }).correct k off t
    else v.plainInput k off t

/-! ## GNSS (rules R427, R428, R435) -/

/-- The offsets of the valid solutions later than `d` ns before t, and not later than t. -/
def State.solsSince (s : State) (t : YTime) (d : Nat) (whole : Bool) : List Int :=
  (s.tim.sols.filter fun (p : YTime × Int) =>
    !timeLater p.1 t && decide (timeDiff t p.1 / 65536 < d + bit whole)).map Prod.snd

/-- GNSS_CLOCK_INPUT: the mean of the valid solutions of the second that ends; a second without one sends no input. With what the
navigation data says of UTC. -/
def gnssClockInputOp (utc : Option UtcInfo) (s : State) : State :=
  let t := s.wholeSecond
  let u := match utc with
    | some x => t.wr Reg.TIM_UTC (x.offset.toNat + 65536 + 131072 * bit x.leap61 + 262144 * bit x.leap59)
    | none => t
  let l := u.solsSince u.now 1000000000 false
  if l.isEmpty then u
  else
    let off := wholeRatio l.sum l.length
    let v : State := { u with tim := { u.tim with gnssOff := off, gnssOk := !u.tim.gnssLost } }
    if v.tim.gnssLost then v else v.sourceInput 0 off 65536

/-- A source in force was lost; holdover or the second source follows. -/
def State.afterLoss (s : State) : State :=
  let u := ({ s with tim := { s.tim with lockFrom := none } }.fault Reg.TIM_FAULT_SRC_LOST).reselect
  if u.rd Reg.TIM_STATUS_SOURCE = 3 then u.holdAt u.now else u

/-- SOURCE_LOST: 2 s after the last valid GNSS solution (rule R435). -/
def sourceLostOp (s : State) : State :=
  match s.tim.solLast with
  | none => s
  | some a =>
    if s.tim.gnssLost then s
    else
      let u := s.advance (ofNs (toNs a + 2000000000 : Nat) a.frac)
      let was := u.rd Reg.TIM_STATUS_SOURCE == 0
      let t : State := { u with tim := { u.tim with gnssOk := false, gnssLost := true } }
      if was then t.afterLoss else t

/-- Inserts a number into a rising list. -/
def insertInt (n : Int) : List Int → List Int
  | [] => [n]
  | a :: t => if n ≤ a then n :: a :: t else a :: insertInt n t

/-- The median of a list; of the two middle numbers of an even list, their mean rounded down. -/
def median (l : List Int) : Int :=
  let m := l.foldl (fun acc x => insertInt x acc) []
  let k := m.length / 2
  if m.length % 2 = 1 then m.getD k 0 else (m.getD (k - 1) 0 + m.getD k 0) / 2

/-- SOURCE_RETURN: valid solutions over 1 s without a break confirm the return; GNSS is valid with the median of that second's offsets
(rule R435). -/
def sourceReturnOp (s : State) : State :=
  match s.tim.solFrom, s.tim.solLast with
  | some a, some b =>
    if !s.tim.gnssLost || decide (timeDiff b a < 65536000000000) then s
    else
      let off := median (s.solsSince b 1000000000 true)
      { s with tim := { s.tim with gnssOk := true, gnssLost := false, gnssOff := off,
                                   confirm := s.tim.confirm || s.rd Reg.TIM_STATUS_SOURCE == 0 } }.sourceInput 0 off 65536
  | _, _ => s

/-- HOLDOVER_DEGRADE at an instant. -/
def holdoverDegradeOp (t : YTime) (s : State) : State :=
  let u := s.advance t
  if (u.rd Reg.TIM_STATUS_SOURCE = 3 ∧ u.rd Reg.TIM_STATUS_SET_STATE = 2) ∨ u.on Reg.TIM_STATUS_REJECTED then u.holdAt u.now else u

/-- TQ_LOCKED: 10 s after the offset of GNSS in force came within 40 ns and stayed there; without a valid reference position the
quality cannot exceed TRACKING (rules R427, R429). -/
def tqLockedOp (s : State) : State :=
  match s.tim.lockFrom with
  | none => s
  | some a =>
    if s.rd Reg.TIM_STATUS_SOURCE = 0 ∧ s.rd Reg.TIM_STATUS_TQ = 1 ∧ s.on Reg.TIM_STATUS_STEERING ∧ s.on Reg.COR_STATUS_REF_VALID then
      let t := s.advance (ofNs (toNs a + 10000000000 : Nat) a.frac)
      { t with tim := { t.tim with e0 := 40 } }.wr Reg.TIM_STATUS_TQ 0
    else s

/-- SLEW_END: the loop is preset; an open reference domain closes. -/
def slewEndOp (s : State) : State :=
  if s.tim.slew.isNone then s
  else
    let t : State := { s with tim := { s.tim with slew := none, refDom := none, stepFrom := none, preset := true, lastOk := s.now } }
    (((t.wr Reg.TIM_FREQ (unsigned 32 s.tim.held)).wr Reg.TIM_STATUS_SLEWING 0).wr Reg.TIM_STATUS_SHADOW 0).wr Reg.TIM_PTP_STATE_ALT_ACTIVE 0

/-- The step to the refused offset. -/
def State.stepRefused (s : State) : State :=
  let u := (s.stepTime (256 * signed 64 (s.rd Reg.TIM_REF_OFFSET))).accepted
  { u with tim := { u.tim with preset := true, lastOk := u.now } }

/-- Whether an offset is pending: a refused correction of a source in force. -/
def State.offsetPending (s : State) : Bool := s.on Reg.TIM_STATUS_REJECTED && s.rd Reg.TIM_STATUS_SOURCE != 3

/-- AUTO_STEP (rule R434): the correction, refused or slewing under DUAL_DOMAIN, has been stable for 60 s. -/
def autoStepOp (s : State) : State :=
  match s.tim.stepFrom with
  | none => s
  | some (_, a) =>
    if !s.on Reg.TIM_CFG_AUTO_STEP || s.steady || !(s.offsetPending || s.on Reg.TIM_STATUS_SHADOW) then s
    else (slewEndOp (s.advance (ofNs (toNs a + 60000000000 : Nat) a.frac))).stepRefused

/-- RESULT of TIM_CTRL. -/
def State.timResult (s : State) (v : Nat) : State := s.wr Reg.TIM_CTRL (256 * v)

/-- STEP. -/
def stepOp (s : State) : State :=
  if s.steady then s.timResult St.refusedMode
  else if s.offsetPending then s.stepRefused.timResult St.done
  else s.timResult St.conflict

/-- SLEW_ACCEPT. -/
def slewAcceptOp (s : State) : State :=
  if s.offsetPending then
    (s.accepted.slewBy (256 * signed 64 (s.rd Reg.TIM_REF_OFFSET))).timResult St.done
  else s.timResult St.conflict

/-- TIME_LATCH_READ. -/
def timeLatchReadOp (s : State) : State := { s with tim := { s.tim with latch := s.now } }

/-! ## PTP (rules R436 to R438) -/

/-- portState of a port. -/
def portState (lanB : Bool) : Fld := if lanB then Reg.TIM_PTP_STATE_B else Reg.TIM_PTP_STATE_A

/-- Whether a port takes part in PTP. -/
def State.ptpPort (s : State) (lanB : Bool) : Bool := s.on (if lanB then Reg.TIM_PTP_CFG_PORT_B_EN else Reg.TIM_PTP_CFG_PORT_A_EN)

/-- A time stamp record on chute 44 (rule R438). -/
def State.ptpStamp (s : State) (lanB : Bool) (typ : Nat) (out : Bool) (m : PtpMsg) : State :=
  s.send 44 0 ([0x52, bit lanB, typ + 16 * bit out, m.domain.toNat] ++ le 2 m.seqId.toNat
    ++ ((m.source.map BitVec.toNat) ++ List.replicate 10 0).take 10 ++ stamp m.time)

/-- PTP_SYNC_RX: a Sync of DOMAIN from the parent port feeds loop 1 with T the time since the one before (rule R428); of the first the
spec states no T: a free value (log entry 4, kind 12). -/
def ptpSyncRxOp (lanB : Bool) (off : Int) (m : PtpMsg) (s0 : State) : State :=
  s0.fromLan lanB fun s =>
  if !s.ptpPort lanB then s
  else
    let u := s.ptpStamp lanB 0 false m
    if u.rd (portState lanB) ≠ 9 ∨ m.domain.toNat ≠ u.rd Reg.TIM_PTP_CFG_DOMAIN then u
    else
      let d := u.draw 12
      let r := match u.tim.syncAt with
        | some a => ((rndDiv (timeDiff m.time a) 1000000000).toNat, u)
        | none => (d.1 % 4294967296, d.2)
      ({ r.2 with tim := { r.2.tim with ptpOk := true, ptpOff := off, syncAt := some m.time } }).sourceInput 1 off r.1

/-- PTP_ANNOUNCE_RX; the BMCA of the PTP standards says what the port becomes. A new grandmaster of the parent makes the next
input a correction. -/
def ptpAnnounceRxOp (lanB : Bool) (advice : BmcaAdvice) (newMaster : Bool) (s0 : State) : State :=
  s0.fromLan lanB fun s =>
  if !s.ptpPort lanB || !s.tim.ptpOn then s
  else
    let role := s.rd Reg.TIM_PTP_CFG_ROLE
    let other := s.rd (portState (!lanB)) == 9
    let st := match advice with
      | .master => if role = 2 then 4 else 6
      | .passive => 7
      | .slave => if role = 0 ∨ other then 7 else 9
    let t := s.wr (portState lanB) st
    if newMaster ∧ t.rd Reg.TIM_STATUS_SOURCE = 1 then { t with tim := { t.tim with confirm := true } } else t

/-- PTP_DELAY_REQ: a master port answers those of its domains under IEEE 1588, up to 4,096 per second and port (rule R436). -/
def ptpDelayReqOp (lanB : Bool) (m : PtpMsg) (s0 : State) : State :=
  s0.fromLan lanB fun s =>
  if !s.ptpPort lanB then s
  else
    let t := s.ptpStamp lanB 1 false m
    let q := AMap.get t.tim.delayN (bit lanB) (0, 0)
    let n := if q.1 = m.time.sec then q.2 else 0
    let dom := m.domain.toNat
    let mine := dom == t.rd Reg.TIM_PTP_CFG_DOMAIN || (t.on Reg.TIM_CFG_POLICY && dom == t.rd Reg.TIM_PTP_CFG_DOMAIN_ALT)
    if t.rd (portState lanB) ≠ 6 || !mine || t.on Reg.TIM_PTP_CFG_PROFILE || t.outputsStopped then t
    else if n ≥ 4096 then t.bump Reg.TIM_PTP_DROP Reg.TIM_FAULT_CNT_SAT
    else { t with tim := { t.tim with delayN := AMap.set (bit lanB) (m.time.sec, n + 1) t.tim.delayN,
                                      delayRsp := AMap.set (bit lanB) m t.tim.delayRsp } }

/-- PTP_PARENT_TIMEOUT: the PTP source is lost; without Announce the port leaves its parent. -/
def ptpParentTimeoutOp (announce : Bool) (s : State) : State :=
  let was := s.rd Reg.TIM_STATUS_SOURCE == 1
  let next := if s.rd Reg.TIM_PTP_CFG_ROLE = 1 then 6 else 4
  let out (b : Bool) (u : State) : State := if announce && u.rd (portState b) == 9 then u.wr (portState b) next else u
  let t := out true (out false { s with tim := { s.tim with ptpOk := false } })
  if was then t.afterLoss else t

/-- Whether PTP transmission has stopped for a power-down (rules R71, R73). -/
def State.ptpSilent (s : State) : Bool :=
  s.outputsStopped

/-- The Announce content in force (rules R429, R444); the spec states no timeSource for TWIN (log entry 4, kind 8). -/
def State.announce (s : State) (alt : Bool) (seq : Nat) : AnnounceMsg × State :=
  let q := s.rd Reg.TIM_STATUS_TQ
  let src := s.rd Reg.TIM_STATUS_SOURCE
  let as1 := s.on Reg.TIM_PTP_CFG_PROFILE
  let c := if q ≤ 1 then 6 else if q = 2 then 7 else if q ≤ 4 then 187 else 248
  let p2 := s.rd Reg.TIM_PTP_PRIO_PRIORITY2
  let f := s.draw 8
  let steer := s.on Reg.TIM_STATUS_STEERING && q != 5
  let srcCode := if !steer || src = 3 then 0xA0 else if src = 0 then 0x20 else if src = 1 then 0x40 else f.1
  (⟨s.rd (if alt then Reg.TIM_PTP_CFG_DOMAIN_ALT else Reg.TIM_PTP_CFG_DOMAIN), s.rd Reg.TIM_PTP_PRIO_PRIORITY1,
    if as1 && c == 187 then 248 else c, if q = 0 then 0x21 else if q ≤ 2 then 0x23 else if q = 3 then 0x27 else if q = 4 then 0x29 else 0xFE,
    if q ≤ 2 then 0x4E5D else 0xFFFF, if s.follows then min (p2 + 1) 255 else p2, srcCode, s.rd Reg.TIM_UTC, seq⟩,
   if steer && src == 2 then f.2 else s)

/-- PTP_TX: a master port sends its Announce, or its Sync and Follow_Up; a master-only port becomes MASTER. -/
def ptpTxOp (lanB : Bool) (isAnn alt : Bool) (time : YTime) (s : State) : State :=
  let st := s.rd (portState lanB)
  let t := if s.rd Reg.TIM_PTP_CFG_ROLE = 0 ∧ (st = 1 ∨ st = 4) then s.wr (portState lanB) 6 else s
  if !t.tim.ptpOn || t.ptpSilent || !t.ptpPort lanB || t.rd (portState lanB) ≠ 6 || (alt && !t.on Reg.TIM_CFG_POLICY) then s
  else
    let k := bit lanB * 4 + bit isAnn + 2 * bit alt
    let q := AMap.get t.tim.ptpSeq k 0
    let u : State := { t with tim := { t.tim with ptpSeq := AMap.set k ((q + 1) % 65536) t.tim.ptpSeq } }
    if isAnn then
      let m := u.announce alt q
      { m.2 with tim := { m.2.tim with sentAnn := AMap.set (bit lanB * 2 + bit alt) m.1 m.2.tim.sentAnn } }
    else
      let key := bit lanB * 2 + bit alt
      let carried := if alt then ofNs ((toNs time : Int) + u.refAhead time) time.frac else time
      { u with tim := { u.tim with sentSync := AMap.set key carried u.tim.sentSync } }.ptpStamp lanB 0 true
        ⟨BitVec.ofNat 8 (u.rd (if alt then Reg.TIM_PTP_CFG_DOMAIN_ALT else Reg.TIM_PTP_CFG_DOMAIN)), BitVec.ofNat 16 q, [], time⟩

/-- PTP_TRANSPARENT_FORWARD (rule R438); `typ` is messageType. -/
def ptpTransparentForwardOp (lanB : Bool) (typ : Nat) (m : PtpMsg) (sent : YTime) (s0 : State) : State :=
  s0.fromLan lanB fun s =>
  if s.rd Reg.TIM_PTP_CFG_ROLE ≠ 2 ∨ m.domain.toNat ≠ s.rd Reg.TIM_PTP_CFG_DOMAIN then s
  else if typ = 0 ∨ typ = 1 then
    ((s.ptpStamp lanB typ false m).ptpStamp (!lanB) typ true { m with time := sent }).wrapBy Reg.TIM_TC_FRAMES 1
  else s

/-! ## Commits (rules R446 to R448) -/

/-- Members of group TIME. -/
def timeGroup : List Fld :=
  [Reg.TIM_CFG_SRC_FIRST, Reg.TIM_CFG_SRC_SECOND, Reg.TIM_CFG_POLICY, Reg.TIM_CFG_AUTO_STEP, Reg.TIM_CFG_SLEW_PPM,
   Reg.TIM_CFG_STEP_THRESH, Reg.TIM_HOLD_CFG]

/-- TIME_COMMIT. -/
def timeCommitOp (s : State) : State :=
  let a := s.sh Reg.TIM_CFG_SRC_FIRST
  let b := s.sh Reg.TIM_CFG_SRC_SECOND
  let p := s.sh Reg.TIM_CFG_SLEW_PPM
  let h := s.sh Reg.TIM_CFG_STEP_THRESH
  if s.isPending Reg.TIM_TIME_COMMIT_RESULT then s.wr Reg.TIM_TIME_COMMIT_RESULT St.busy
  else if a = 3 ∨ b = 3 ∨ (a = b ∧ a ≠ 2) ∨ p < 10 ∨ p > 200 ∨ h < 1 ∨ h > 100000
      ∨ (s.sh Reg.TIM_CFG_POLICY = 1 ∧ s.rd Reg.TIM_PTP_CFG_DOMAIN_ALT = s.rd Reg.TIM_PTP_CFG_DOMAIN) then
    s.commit Reg.TIM_TIME_COMMIT_RESULT timeGroup St.badFormat
  else s.setPending Reg.TIM_TIME_COMMIT_RESULT

/-- TIME_CONFIG_APPLY: at the next whole second. -/
def timeConfigApplyOp (s : State) : State :=
  if s.isPending Reg.TIM_TIME_COMMIT_RESULT then
    s.wholeSecond.endPending Reg.TIM_TIME_COMMIT_RESULT timeGroup St.done
  else s

/-- Members of group PTP whose change returns the ports to INITIALIZING. -/
def ptpKeys : List Fld :=
  [Reg.TIM_PTP_CFG_ROLE, Reg.TIM_PTP_CFG_TRANSPORT, Reg.TIM_PTP_CFG_PROFILE, Reg.TIM_PTP_CFG_DOMAIN, Reg.TIM_PTP_CFG_DOMAIN_ALT]

/-- Members of group PTP. -/
def ptpGroup : List Fld :=
  ptpKeys ++ [Reg.TIM_PTP_CFG_PORT_A_EN, Reg.TIM_PTP_CFG_PORT_B_EN, Reg.TIM_PTP_PRIO_PRIORITY1, Reg.TIM_PTP_PRIO_PRIORITY2,
    Reg.TIM_PTP_INTV, Reg.TIM_PTP_LAT_A_INGRESS, Reg.TIM_PTP_LAT_A_EGRESS, Reg.TIM_PTP_LAT_B_INGRESS, Reg.TIM_PTP_LAT_B_EGRESS]

/-- Whether an interval word is out of range. -/
def intvBad (v : Nat) : Bool :=
  let a := signed 8 (bits v 0 8)
  let b := signed 8 (bits v 8 8)
  let c := signed 8 (bits v 16 8)
  let n := bits v 24 4
  decide (a < -4 ∨ a > 1 ∨ b < -3 ∨ b > 4 ∨ c < -4 ∨ c > 5 ∨ n < 2 ∨ n > 10)

/-- PTP_COMMIT. -/
def ptpCommitOp (s : State) : State :=
  let role := s.sh Reg.TIM_PTP_CFG_ROLE
  let as1 := s.sh Reg.TIM_PTP_CFG_PROFILE = 1
  let dom := s.sh Reg.TIM_PTP_CFG_DOMAIN
  let enA := s.sh Reg.TIM_PTP_CFG_PORT_A_EN
  let enB := s.sh Reg.TIM_PTP_CFG_PORT_B_EN
  if role = 3 ∨ (role = 2 ∧ (as1 ∨ enA = 0 ∨ enB = 0)) ∨ dom > 127 ∨ s.sh Reg.TIM_PTP_CFG_DOMAIN_ALT > 127 ∨ (as1 ∧ dom ≠ 0)
      ∨ intvBad (s.sh Reg.TIM_PTP_INTV) then s.commit Reg.TIM_PTP_COMMIT_RESULT ptpGroup St.badFormat
  else
    let renew := ptpKeys.any fun f => s.sh f != s.rd f
    let t := (s.commit Reg.TIM_PTP_COMMIT_RESULT ptpGroup St.done).wr Reg.PIN_STRAP_STATUS_PTP_8021AS (bit as1)
    let port (b : Bool) (u : State) : State :=
      if !u.ptpPort b then u.wr (portState b) 3 else if renew || u.rd (portState b) == 3 then u.wr (portState b) 1 else u
    port true (port false t)

/-- Members of group PULSE of generator g. -/
def pulseGroup (g : Nat) : List Fld :=
  [Reg.TIM_PG_START_SEC g, Reg.TIM_PG_START_NS g, Reg.TIM_PG_PERIOD g, Reg.TIM_PG_WIDTH g, Reg.TIM_PG_CTRL_EN g,
   Reg.TIM_PG_CTRL_DRIVE g, Reg.TIM_PG_CTRL_POL g, Reg.TIM_PG_CTRL_EVENT g]

/-- ACTIVE of generator g. -/
def State.setActive (s : State) (g : Nat) (on : Bool) : State :=
  let v := s.rd Reg.TIM_PG_ACTIVE
  let off := v - 2 ^ g * bits v g 1
  s.wr Reg.TIM_PG_ACTIVE (if on then off + 2 ^ g else off)

/-- PULSE_COMMIT of the selected generator (rules R440, R448). -/
def pulseCommitOp (s : State) : State :=
  let g := s.rd Reg.TIM_PG_SEL
  let per := s.sh (Reg.TIM_PG_PERIOD g)
  let w := s.sh (Reg.TIM_PG_WIDTH g)
  let ns := s.sh (Reg.TIM_PG_START_NS g)
  let en := s.sh (Reg.TIM_PG_CTRL_EN g) = 1
  let start : YTime := ⟨s.sh (Reg.TIM_PG_START_SEC g), ns, 0⟩
  let soon := ofNs (toNs s.now + 1000000 : Nat) s.now.frac
  let v := firstFail [(decide (ns ≥ 1000000000 ∨ (1 ≤ per ∧ per ≤ 99) ∨ (per ≠ 0 ∧ w ≥ per)), St.badFormat),
    (decide (per = 0 ∧ en) && !timeLater start soon, St.stale)]
  let t := s.commit (Reg.TIM_PG_COMMIT_RESULT g) (pulseGroup g) v
  if v ≠ St.done then t
  else if !en then ({ t with tim := { t.tim with pg := AMap.del g t.tim.pg } }).setActive g false
  else
    let d := (timeDiff soon start / 65536).toNat
    let next := if timeLater start soon then start else ofNs (toNs start + (d / per + 1) * per : Nat) 0
    let n := ((AMap.find g t.tim.pg).map (·.count)).getD 0
    ({ t with tim := { t.tim with pg := AMap.set g ⟨next, n, false⟩ t.tim.pg } }).setActive g true

/-! ## Pulses and captures (rules R439 to R442) -/

/-- A record of chute 45; one that finds no credit is lost. -/
def State.evtRecord (s : State) (typ index flags count : Nat) (t : YTime) : State :=
  s.sendOr 45 0 ([typ, index, flags, s.rd Reg.TIM_STATUS_TQ] ++ le 4 count ++ le 8 0 ++ stamp t)
    fun u => (u.bump Reg.TIM_EVT_LOST Reg.TIM_FAULT_CNT_SAT).fault Reg.TIM_FAULT_EVT_LOST

/-- A pulse of generator g begins now: PPS_OUT_g is driven with DRIVE set and WIDTH above 0 (rule R439). -/
def State.beginPulse (s : State) (g : Nat) : State :=
  let w := s.rd (Reg.TIM_PG_WIDTH g)
  if !s.on (Reg.TIM_PG_CTRL_DRIVE g) || w == 0 then s
  else { s with tim := { s.tim with pulse := AMap.set g (s.now, ofNs (toNs s.now + w : Nat) s.now.frac, s.on (Reg.TIM_PG_CTRL_POL g)) s.tim.pulse } }

/-- PPS_OUT_g is high (rules R51, R439, R444): low in reset, in DORMER_WATCH and CELLAR, and while DRIVE is clear (log entry 74); at the
idle level with REFCLK lost or from 2.0 ms of PFAIL handling; else at the active level while a pulse lasts, also one that outlasts its
generator (rule R440). -/
def State.ppsOut (s : State) (g : Nat) : Bool :=
  let idle := s.on (Reg.TIM_PG_CTRL_DRIVE g) && s.on (Reg.TIM_PG_CTRL_POL g)
  s.mode.main && s.pwr.mainPowered &&
    match AMap.find g s.tim.pulse with
    | some (a, b, pol) =>
      if timeLe a s.now && !timeLe b s.now && s.on Reg.CLK_SRC_STATUS_REFCLK_PRESENT && !s.trp.driveLow then !pol else idle
    | none => idle

/-- PULSE_TIME of generator g. -/
def pulseTimeOp (g : Nat) (s : State) : State :=
  match AMap.find g s.tim.pg with
  | none => s
  | some p =>
    let per := s.rd (Reg.TIM_PG_PERIOD g)
    let t := if p.late then s else s.advance p.next
    let u := (t.setFlags (40 + g) (List.range 32)).beginPulse g
    let n := (p.count + 1) % 4294967296
    let flags := bit (!s.on (Reg.TIM_PG_CTRL_POL g)) + 2 * bit p.late
    let v := if s.on (Reg.TIM_PG_CTRL_EVENT g) then u.evtRecord 0x50 g flags n p.next else u
    if per = 0 then ({ v with tim := { v.tim with pg := AMap.del g v.tim.pg } }).setActive g false
    else { v with tim := { v.tim with pg := AMap.set g ⟨ofNs (toNs p.next + per : Nat) p.next.frac, n, false⟩ v.tim.pg } }

/-- CAPTURE_EDGE on input n. -/
def captureEdgeOp (n : Nat) (rising : Bool) (time : YTime) (s : State) : State :=
  let edge := bits (s.rd Reg.TIM_CAP_CFG) (2 * n) 2
  if !(edge = 3 ∨ (edge = 1 ∧ rising) ∨ (edge = 2 ∧ !rising)) then s
  else
    let t := s.advance time
    let near := match AMap.find n t.tim.capAt with
      | some a => decide (timeDiff time a ≤ 6553600)
      | none => false
    if near then
      ({ t with tim := { t.tim with capLost := insertNat n t.tim.capLost } }.bump Reg.TIM_EVT_LOST Reg.TIM_FAULT_CNT_SAT).fault
        Reg.TIM_FAULT_EVT_LOST
    else
      let c := (t.rd (Reg.TIM_CAP_COUNT n) + 1) % 4294967296
      let u := ((((t.wr (Reg.TIM_CAP_SEC_LO n) (bits time.sec 0 32)).wr (Reg.TIM_CAP_SEC_HI n) (bits time.sec 32 16)).wr
        (Reg.TIM_CAP_NS n) time.ns).wr (Reg.TIM_CAP_RISING n) (bit rising)).wr (Reg.TIM_CAP_COUNT n) c
      let lost := u.tim.capLost.contains n
      ({ u with tim := { u.tim with capAt := AMap.set n time u.tim.capAt,
                                    capLost := u.tim.capLost.filter (· != n) } }).evtRecord 0x51 n (bit rising + 4 * bit lost) c time

/-- CAPTURE_LATCH_READ of input n. -/
def captureLatchReadOp (n : Nat) (s : State) : State :=
  let w := (s.rd (Reg.TIM_CAP_SEC_HI n), s.rd (Reg.TIM_CAP_NS n) + 2147483648 * s.rd (Reg.TIM_CAP_RISING n), s.rd (Reg.TIM_CAP_COUNT n))
  { s with tim := { s.tim with capLatch := AMap.set n w s.tim.capLatch } }

/-! ## Calendar and TWIN (rules R443, R476) -/

/-- CALENDAR_WRITE. -/
def calendarWriteOp (s : State) : State :=
  let t := s.wholeSecond
  if t.rd Reg.TIM_STATUS_SET_STATE = 2 ∧ t.rd Reg.TIM_STATUS_TQ ≠ 5 then
    { t with tim := { t.tim with cal := t.now.sec, calUtc := bits (t.rd Reg.TIM_UTC) 0 16, calOk := true } }.wr Reg.TLY_STATUS_TIME_UNKNOWN
      (bit (bits (t.rd Reg.TIM_UTC) 16 1 = 0))
  else t

/-- The TWIN source is lost. -/
def State.loseTwin (s : State) : State :=
  let t : State := { s with twn := { s.twn with timeOk := false, offsets := [] } }
  if s.follows ∧ s.twn.timeOk then t.afterLoss else t

/-- TWIN_CLOCK_INPUT: the median offset of a second with 50 exchanges or more feeds clock loop 1; after fewer the source is lost. -/
def twinClockInputOp (s : State) : State :=
  if !s.follows then s
  else
    let t := s.wholeSecond
    if t.twn.offsets.length < 50 then t.loseTwin
    else ({ t with twn := { t.twn with offsets := [], timeOk := true } }).sourceInput 2 (median t.twn.offsets) 65536

/-! ## Meanings -/

/-- Meaning of GNSS_CLOCK_INPUT. -/
def execGnssClockInput (utc : Option UtcInfo) (s : State) : Out := .next (s.whenMain (gnssClockInputOp utc))
/-- Meaning of SOURCE_LOST. -/
def execSourceLost (s : State) : Out := .next (s.whenMain sourceLostOp)
/-- Meaning of SOURCE_RETURN. -/
def execSourceReturn (s : State) : Out := .next (s.whenMain sourceReturnOp)
/-- Meaning of HOLDOVER_DEGRADE. -/
def execHoldoverDegrade (t : YTime) (s : State) : Out := .next (s.whenMain (holdoverDegradeOp t))
/-- Meaning of TQ_LOCKED. -/
def execTqLocked (s : State) : Out := .next (s.whenMain tqLockedOp)
/-- Meaning of SLEW_END. -/
def execSlewEnd (s : State) : Out := .next (s.whenMain slewEndOp)
/-- Meaning of AUTO_STEP. -/
def execAutoStep (s : State) : Out := .next (s.whenMain autoStepOp)
/-- Meaning of STEP. -/
def execStep (s : State) : Out := .next (s.whenMain stepOp)
/-- Meaning of SLEW_ACCEPT. -/
def execSlewAccept (s : State) : Out := .next (s.whenMain slewAcceptOp)
/-- Meaning of TIME_LATCH_READ. -/
def execTimeLatchRead (s : State) : Out := .next (s.whenMain timeLatchReadOp)
/-- Meaning of PTP_SYNC_RX. -/
def execPtpSyncRx (lanB : Bool) (off : Int) (m : PtpMsg) (s : State) : Out :=
  .next (s.whenMain (ptpSyncRxOp lanB off m))
/-- Meaning of PTP_ANNOUNCE_RX. -/
def execPtpAnnounceRx (lanB : Bool) (advice : BmcaAdvice) (newMaster : Bool) (s : State) : Out :=
  .next (s.whenMain (ptpAnnounceRxOp lanB advice newMaster))
/-- Meaning of PTP_DELAY_REQ. -/
def execPtpDelayReq (lanB : Bool) (m : PtpMsg) (s : State) : Out := .next (s.whenMain (ptpDelayReqOp lanB m))
/-- Meaning of PTP_PARENT_TIMEOUT. -/
def execPtpParentTimeout (announce : Bool) (s : State) : Out := .next (s.whenMain (ptpParentTimeoutOp announce))
/-- Meaning of PTP_TX. -/
def execPtpTx (lanB : Bool) (announce alt : Bool) (time : YTime) (s : State) : Out :=
  .next (s.whenMain (ptpTxOp lanB announce alt time))
/-- Meaning of PTP_TRANSPARENT_FORWARD. -/
def execPtpTransparentForward (lanB : Bool) (typ : Fin 16) (m : PtpMsg) (sent : YTime) (s : State) : Out :=
  .next (s.whenMain (ptpTransparentForwardOp lanB typ.val m sent))
/-- Meaning of TIME_CONFIG_APPLY. -/
def execTimeConfigApply (s : State) : Out := .next (s.whenMain timeConfigApplyOp)
/-- Meaning of TIME_COMMIT. -/
def execTimeCommit (s : State) : Out := .next (s.whenMain timeCommitOp)
/-- Meaning of PTP_COMMIT. -/
def execPtpCommit (s : State) : Out := .next (s.whenMain ptpCommitOp)
/-- Meaning of PULSE_COMMIT. -/
def execPulseCommit (s : State) : Out := .next (s.whenMain pulseCommitOp)
/-- Meaning of PULSE_TIME. -/
def execPulseTime (g : Fin 16) (s : State) : Out := .next (s.whenMain (pulseTimeOp g.val))
/-- Meaning of CAPTURE_EDGE. -/
def execCaptureEdge (n : Fin 8) (rising : Bool) (time : YTime) (s : State) : Out :=
  .next (s.whenMain (captureEdgeOp n.val rising time))
/-- Meaning of CAPTURE_LATCH_READ. -/
def execCaptureLatchRead (n : Fin 8) (s : State) : Out := .next (s.whenMain (captureLatchReadOp n.val))
/-- Meaning of CALENDAR_WRITE. -/
def execCalendarWrite (s : State) : Out := .next (s.whenMain calendarWriteOp)
/-- Meaning of TWIN_CLOCK_INPUT. -/
def execTwinClockInput (s : State) : Out := .next (s.whenMain twinClockInputOp)

end Sys2Proof.Machine
end

