-- ==== Sys2Proof/Machine/Restart.lean ====
section
/-! DEFINITION. How the main domain goes down: into reset, or into DORMER_WATCH with the rails off. What is rebuilt at the
next reset release is in Power. -/

namespace Sys2Proof.Machine

/-- Bits of CLK_RESET_CAUSE. -/
def causeSysRst : Nat := 2
def causeBod : Nat := 4
def causePfail : Nat := 8
def causeHost : Nat := 16
def causeUpdate : Nat := 32
def causeWake : Nat := 64
def causeThermal : Nat := 128

/-- Ends a request in CLK_MODE_REQ. -/
def State.modeResult (s : State) (status target : Nat) : State :=
  (s.wr Reg.CLK_MODE_RESULT_STATUS status).wr Reg.CLK_MODE_RESULT_TARGET target

/-- RAIL_OK with the AON rails and the main rails in range or not (rules R32, R56). -/
def State.rails (s : State) (aon main : Bool) : State :=
  s.wr Reg.CLK_RAIL_STATUS_RAIL_OK ((if aon then 20 else 0) + (if main then 2027 else 0))

/-- The main domain stops: CLK_LAST_MODE takes the mode and the PFAIL stage reached (rules R73, R77), the PLLs stop, and the
Dormer keeps what it holds. -/
def State.mainDown (s : State) : State :=
  let up := s.pwr.mainPowered || s.pwr.porDone
  let t := if up then
      s.wrEach [(Reg.CLK_LAST_MODE_LAST_MODE, s.mode.code),
                (Reg.CLK_LAST_MODE_PFAIL_STAGE, if s.pwr.pfailLatched then s.rd Reg.CLK_LAST_MODE_PFAIL_STAGE else 0),
                (Reg.CLK_LAST_MODE_FLUSH_INCOMPLETE, 0)]
    else s
  let u := t.wrEach [(Reg.CLK_SRC_STATUS_PLL_CORE_LOCK, 0), (Reg.CLK_SRC_STATUS_PLL_ADC_LOCK, 0), (Reg.CLK_SRC_STATUS_PLL_SERDES_LOCK, 0),
                     (Reg.CLK_SRC_STATUS_CORE_ON_RC4M, 0), (Reg.CLK_MODE_STATUS_IN_TRANSIT, 0)]
  { u with pwr := { u.pwr with mainPowered := false, pdown := none, lanOpen := false } }

/-- The main domain is reset with its rails in range: the unit passes to BOOT and waits for reset release (rules R61, R557). In PFAIL
handling a restart waits for its end, which is another one (rule R60). -/
def State.restart (s : State) (cause : Nat) : State :=
  if s.pwr.pfailLatched then s
  else
  let t := s.mainDown
  { t with mode := .boot, prev := s.mode,
           pwr := { t.pwr with porDone := true, railEnMain := true, nextCause := t.pwr.nextCause ||| cause } }

/-- The main rails go off and the unit is in DORMER_WATCH. -/
def State.toWatch (s : State) (e : WatchEntry) : State :=
  let t := s.mainDown
  { t.rails true false with mode := .dormerWatch, prev := s.mode, pwr := { t.pwr with railEnMain := false, porDone := false, entry := e } }

/-! ## Waking (rules R34, R35, R65 to R67) -/

/-- The bits of CLK_WAKE_CAUSE, bit 0 first. -/
def wakeCauses : List Fld :=
  [Reg.CLK_WAKE_CAUSE_WAKE_IN0, Reg.CLK_WAKE_CAUSE_WAKE_IN1, Reg.CLK_WAKE_CAUSE_TIMER, Reg.CLK_WAKE_CAUSE_DORMER_RULE,
   Reg.CLK_WAKE_CAUSE_PFAIL_CLEAR, Reg.CLK_WAKE_CAUSE_THERM_CLEAR]

/-- The causes of a latched set of sources are recorded. -/
def State.recordWake (s : State) (sources : Nat) : State :=
  s.wrAll 1 (wakeCauses.filter fun (f : Fld) => bits sources f.lo 1 = 1)

/-- The unit starts towards BOOT from CELLAR or DORMER_WATCH: the AON rails first from CELLAR, the main rails at once from
DORMER_WATCH. A system reset that is latched joins the causes of the coming reset release (rule R557). -/
def State.startBoot (s : State) (cause : Nat) : State :=
  let aon := s.mode != .cellar
  let p : Power :=
    { s.pwr with railEnAon := true, railEnMain := aon, railAttempts := bit aon, porDone := false, mainPowered := false, wakeLatched := 0,
                 entry := .none, aonCool := false, sysResetHeld := false, pfailLatched := false, pdown := none,
                 nextCause := s.pwr.nextCause ||| cause ||| (if s.pwr.sysResetHeld then causeSysRst else 0) }
  { s.rails aon false with mode := .boot, prev := s.mode, pwr := p }

/-- A wake source fires (rule R65), by its bit in CLK_WAKE_CAUSE: it wakes a sleeping unit, is latched during a commanded power-down
and, after a thermal cut, until the AON sensor has been below 95 °C for 60 s. -/
def State.wakeUp (s : State) (k : Nat) : State :=
  let latched : State := { s with pwr := { s.pwr with wakeLatched := s.pwr.wakeLatched ||| 2 ^ k } }
  if s.pwr.pdown.isSome then latched
  else if s.mode = .cellar ∨ s.mode = .dormerWatch then
    if s.pwr.entry = .thermCut ∧ !s.pwr.aonCool then latched else (latched.recordWake latched.pwr.wakeLatched).startBoot causeWake
  else s

end Sys2Proof.Machine
end

