-- ==== Sys2Proof/Machine/Vault.lean ====
section
/-! DEFINITION. The Key Vault (chapter 20): host commands, lifecycle changes, beacon rekey, firmware operations and blobs. -/

namespace Sys2Proof.Machine

/-! ## Shared checks -/

/-- Bytes of a payload as numbers: k bytes from lo. -/
def bytesAt (p : List Byte) (lo k : Nat) : List Nat := ((p.drop lo).take k).map BitVec.toNat

/-- Whether bytes are all zero. -/
def allZero (l : List Nat) : Bool := l.all (· == 0)

/-- The next random number (rule R488). -/
def State.drawRandom (s : State) : Nat × State := (Config.random s.vlt.drbg, { s with vlt := { s.vlt with drbg := s.vlt.drbg + 1 } })

/-- A new challenge (rule R491). -/
def State.newChallenge (s : State) : State :=
  let r := s.drawRandom
  (r.2.wr Reg.VLT_CHALLENGE_LO (bits r.1 0 32)).wr Reg.VLT_CHALLENGE_HI (bits r.1 32 32)

/-- VLT_CHALLENGE. -/
def State.challenge (s : State) : Nat := s.rd Reg.VLT_CHALLENGE_LO + 4294967296 * s.rd Reg.VLT_CHALLENGE_HI

/-- Counts a signature, envelope or blob that failed. -/
def State.authBad (s : State) : State := (s.bump Reg.VLT_AUTH_FAIL Reg.VLT_FAULT_CNT_SAT).fault Reg.VLT_FAULT_AUTH_FAIL

/-- What the Vault answers before any check of its own: a failed self-test, or a lifecycle change in progress. -/
def State.vaultShut (s : State) : Option Nat :=
  if s.on Reg.VLT_STATUS_SELFTEST_FAIL then some 0x83 else if s.on Reg.VLT_LIFECYCLE_TRANSITION then some St.busy else none

/-- The modes in which most Vault commands are refused (rule R492). -/
def State.vaultBusyMode (s : State) : Bool := s.mode.fleet || s.follows || s.mode == .update

/-- A Vault command: ring type and LENGTH, then `body`. -/
def State.vaultCmd (s : State) (c : Cmd) (k : RingKind) (len : Nat) (body : State → State) : State :=
  s.hostCmd c k fun t =>
    match t.vaultShut with
    | some v => t.finish c v 0 0
    | none => if c.desc.length.toNat ≠ len then t.finish c St.badLength 0 0 else body t

/-- A signed command (rule R492): its checks in order, and a new challenge whatever the outcome of those after the format. -/
def State.signedCmd (s : State) (c : Cmd) (len : Nat) (badFormat refused conflict : Bool) (chal : Nat) (authOk : Bool)
    (body : State → State) : State :=
  if badFormat then s.finish c St.badFormat len 0
  else
    let v := firstFail [(refused, St.refusedMode), (conflict, St.conflict), (chal != s.challenge, St.stale), (!authOk, St.authFail)]
    let t := s.newChallenge
    if v = St.done then body t else (if v = St.authFail then t.authBad else t).finish c v len 0

/-- The owner key's verdict on a signature. -/
def State.ownerSigned (s : State) (msg sig : List Nat) : Bool :=
  match s.keyOf 3 with
  | some k => Config.ecdsaVerify k msg sig
  | none => false

/-! ## Import envelopes (rule R490) -/

/-- Whether an envelope breaks its format. -/
def envelopeBad (p : List Byte) : Bool :=
  byteAt p 0 != 1 || byteAt p 1 != 1 || !allZero (bytesAt p 2 2) || !allZero (bytesAt p 132 4) || !Config.onCurve (bytesAt p 24 96)

/-- The federation root in an envelope, if its tag verifies. -/
def State.openEnvelope (s : State) (p : List Byte) : Option Nat :=
  let z := Config.ecdh s.identityKey (bytesAt p 24 96)
  let k := Config.hkdf z serialBytes (ascii "ZY import")
  match gcmOpen k (bytesAt p 120 12) (bytesAt p 0 120) (bytesAt p 136 48) (bytesAt p 184 16) with
  | some m => if allZero (m.drop 32) then some (unle (m.take 32)) else none
  | none => none

/-- The root of an envelope whose signature and tag verify. -/
def State.envelopeRoot (s : State) (p : List Byte) : Option Nat :=
  if s.ownerSigned (bytesAt p 0 200) (bytesAt p 200 96) then s.openEnvelope p else none

/-! ## Host commands -/

/-- IDENTITY_READ: the public key of the identity key and the challenge go to host memory (rule R492). -/
def identityReadOp (c : Cmd) (s : State) : State :=
  s.vaultCmd c .dataOut 104 fun t =>
    t.finishData c ((List.range 96).map (fun i => (Config.publicKey t.identityKey i).toNat) ++ le 8 t.challenge)

/-- KEY_IMPORT: slot 1 and SITE, the site keys anew, and GENs that make earlier blobs stale (rule R492). -/
def keyImportOp (c : Cmd) (p : List Byte) (s : State) : State :=
  s.vaultCmd c .dataIn 296 fun t =>
    let root := t.envelopeRoot p
    t.signedCmd c 296 (envelopeBad p) t.vaultBusyMode (t.life != 2 || leAt p 8 8 != Config.serial) (leAt p 16 8) root.isSome fun u =>
      let site := leAt p 4 4
      let key := root.getD 0
      let v := [1, 2, 5, 6, 7, 8, 9].foldl State.nextGen u
      let w := (v.fill 1 6 key (some 0)).deriveSite site
      w.persistLater [(1, some key), (5, some site)] (some (c, 296))

/-- PUBLIC_SET. -/
def publicSetOp (c : Cmd) (p : List Byte) (s : State) : State :=
  s.vaultCmd c .dataIn 224 fun t =>
    let n := byteAt p 1
    let bad := byteAt p 0 != 1 || (n != 3 && n != 4) || !allZero (bytesAt p 2 2) || !allZero (bytesAt p 20 12)
      || !Config.onCurve (bytesAt p 32 96)
    t.signedCmd c 224 bad t.vaultBusyMode (leAt p 12 8 != Config.serial) (leAt p 4 8) (t.ownerSigned (bytesAt p 0 128) (bytesAt p 128 96)) fun u =>
      let key := unle (bytesAt p 32 96)
      (u.fill n 5 key (some (if n = 3 then 0 else 1))).persistLater [(n, some key)] (some (c, 224))

/-- The slots 1 to 10. -/
def fixedSlots : List Nat := [1, 2, 3, 4, 5, 6, 7, 8, 9, 10]

/-- KEY_REVOKE (rule R489). -/
def keyRevokeOp (c : Cmd) (s : State) : State :=
  s.vaultCmd c .command 0 fun t =>
    let n := bits c.desc.p0.toNat 0 6
    if bits c.desc.p0.toNat 6 26 ≠ 0 ∨ n = 0 ∨ n > 10 then t.finish c St.badFormat 0 0
    else if t.vaultBusyMode then t.finish c St.refusedMode 0 0
    else if (t.slot n).gen = 4294967295 then t.finish c St.conflict 0 0
    else
      let u := ((t.nextGen n).emptySlot n).dropInvalid fixedSlots
      if n = 1 ∨ n = 3 ∨ n = 4 then u.persistLater [(n, none)] (some (c, 0)) else u.finish c St.done 0 0

/-- BEACON_REKEY (rule R495). -/
def beaconRekeyOp (c : Cmd) (s : State) : State :=
  s.vaultCmd c .command 0 fun t =>
    let no := c.desc.p0.toNat
    let sec := c.desc.p1.toNat + 4294967296 * bits c.desc.p2.toNat 0 16
    if bits c.desc.p2.toNat 16 16 ≠ 0 then t.finish c St.badFormat 0 0
    else if t.follows then t.finish c St.refusedMode 0 0
    else if sec * 1000000000 < (t.now.sec + 2) * 1000000000 + t.now.ns then t.finish c St.stale 0 0
    else if t.mode.fleet then t.epochInput c (.rekey no sec)
    else
      let v := t.rekeyStatus no
      if v = St.done then t.rekeyAccept no sec (some (c, 0)) else t.finish c v 0 0

/-- BEACON_KEY_ACTIVATE (rule R495): from the activation second slot 10 is the beacon key. -/
def beaconKeyActivateOp (s : State) : State :=
  match s.vlt.rekey with
  | none => s
  | some (no, sec) =>
    if s.now.sec < sec then s
    else
      let k := s.slot 10
      let t := (s.setSlot 5 { k with gen := (s.slot 5).gen }).emptySlot 10
      let u := t.persistLater [(6, some no), (7, none)] none
      { u with vlt := { u.vlt with rekey := none } }

/-! ## Lifecycle (rules R496 to R498) -/

/-- What a transition needs: its signer (0 nobody, 1 the owner, 2 the service key) and whether it carries NEW_OWNER, IMAGE and
FED_ENVELOPE; none where the table has no such row. -/
def lifecycleRow (from_ onto : Nat) : Option (Nat × Bool × Bool × Bool) :=
  if onto = 5 then (if from_ = 5 then none else if from_ = 3 ∨ from_ = 4 then some (2, false, false, false) else some (1, false, false, false))
  else match from_, onto with
    | 0, 1 => some (0, true, false, false)
    | 1, 2 => some (1, true, true, true)
    | 2, 1 => some (1, true, false, false)
    | 1, 3 => some (1, false, false, false)
    | 2, 3 => some (1, false, false, false)
    | 3, 1 => some (0, true, false, false)
    | 1, 4 => some (1, false, false, false)
    | 2, 4 => some (1, false, false, false)
    | 4, 3 => some (2, false, false, false)
    | _, _ => none

/-- The lifecycle state as the transition table takes it: PROVISIONING without an owner key counts as BLANK. -/
def State.lifeRow (s : State) : Nat := if s.life = 1 ∧ (s.slot 3).kind = 0 then 0 else s.life

/-- Whether a carried field breaks its rule. -/
def carryBad (carried zero : Bool) : Bool := carried == zero

/-- The steps of a lifecycle change up to the cleared record (rule R497). -/
def State.changeLife (s : State) (t : Transition) : State :=
  let a := s.zeroise
  let b := { a with vlt := { a.vlt with drbg := 0, nonce := 0 } }
  let c := ((b.persistPut 1 none true).persistPut 3 none true).persistPut 4 none true
  let d := (c.wr Reg.VLT_LIFECYCLE_LC_GEN (c.rd Reg.VLT_LIFECYCLE_LC_GEN + 1)).wr Reg.VLT_LIFECYCLE_STATE t.onto
  let e := match t.owner with | some k => d.persistPut 3 (some k) true | none => d
  let f := match t.image with | some k => e.persistPut 4 (some k) true | none => e
  let g := match t.fed with | some (k, site) => (f.persistPut 1 (some k) true).persistPut 5 (some site) true | none => f
  { g with vlt := { g.vlt with trans := none } }.wr Reg.VLT_LIFECYCLE_TRANSITION 0

/-- LIFECYCLE; `ends` says that the change runs to its end, and otherwise its record waits for the next reset release. -/
def lifecycleOp (c : Cmd) (p : List Byte) (ends : Bool) (s : State) : State :=
  s.vaultCmd c .dataIn 616 fun t =>
    let onto := byteAt p 1
    let row := lifecycleRow t.lifeRow onto
    let owner := bytesAt p 32 96
    let image := bytesAt p 128 96
    let env := (p.drop 224).take 296
    let sig := bytesAt p 520 96
    let envNs := env.map BitVec.toNat
    let bad := byteAt p 0 != 1 || decide (onto > 5) || !allZero (bytesAt p 2 2) || !allZero (bytesAt p 20 12) ||
      (match row with
       | none => false
       | some (signer, o, i, f) =>
         carryBad o (allZero owner) || carryBad i (allZero image) || carryBad f (allZero envNs) || carryBad (signer != 0) (allZero sig)
           || (o && !Config.onCurve owner) || (i && !Config.onCurve image) || (f && envelopeBad env))
    let fed := match row with | some (_, _, _, f) => f | none => false
    let gen := t.rd Reg.VLT_LIFECYCLE_LC_GEN
    let conflict := row.isNone || leAt p 12 8 != Config.serial || (fed && leAt env 8 8 != Config.serial) || decide (gen > 31)
      || (decide (gen = 31) && onto != 5)
    let chal := if fed && leAt env 16 8 != leAt p 4 8 then t.challenge + 1 else leAt p 4 8
    let msg := bytesAt p 0 520
    let auth := match row with
      | some (1, _, _, _) => t.ownerSigned msg sig
      | some (2, _, _, _) => Config.ecdsaVerify Config.serviceKey msg sig
      | _ => true
    let root := if fed then t.envelopeRoot env else none
    let mode := !(t.mode == .hostedIdle || t.mode == .survey || t.mode == .faultSafe)
    t.signedCmd c 616 bad mode conflict chal (auth && (!fed || root.isSome)) fun u =>
      let tr : Transition :=
        { onto := onto, owner := if allZero owner then none else some (unle owner), image := if allZero image then none else some (unle image),
          fed := root.map fun k => (k, leAt env 4 4) }
      let v := { u with vlt := { u.vlt with trans := some tr } }.wr Reg.VLT_LIFECYCLE_TRANSITION 1
      if ends && !v.pwr.pfailLatched then ((v.changeLife tr).finish c St.done 616 0).restart causeHost else v.zeroise

/-! ## Firmware operations (rules R483 to R488) -/

/-- Records the status of an operation, and answers a request of chute 50 on chute 51 in a format of the firmware's own (log
entry 4, kind 7). -/
def State.vaultAnswer (s : State) (v : Nat) (firmware : Bool) : State :=
  let a := { s with vlt := { s.vlt with status := v } }
  let b := if v = St.keyRevoked then (a.bump Reg.VLT_REVOKED_OPS Reg.VLT_FAULT_CNT_SAT).fault Reg.VLT_FAULT_REVOKED_OP else a
  let c := if v = St.done then b.wrapBy Reg.VLT_OPS 1 else b
  if firmware then
    let r := (c.takeAny 50).draw 7
    (r.2.offer 51 0 [BitVec.ofNat 64 r.1]).1
  else c

/-- An operation for the firmware: served where a request waits on chute 50. -/
def State.onRequest (s : State) (body : State → State) : State := if (s.chute 50).pkts.isEmpty then s else body s

/-- The checks of an operation on a slot: a key, a valid chain, the kind where one is asked. -/
def State.slotStatus (s : State) (n : Nat) (kinds : Nat → Bool) : Nat :=
  match s.vaultShut with
  | some v => v
  | none => firstFail [((s.slot n).kind == 0, 0x80), (!s.slotValid 8 n, St.keyRevoked), (!kinds (s.slot n).kind, 0x82)]

/-- A use of a slot (rule R485): the status, and the state with the count of a LIMITED slot lowered. -/
def State.useSlot (s : State) (n : Nat) : Nat × State :=
  let k := s.slot n
  if !k.limited then (St.done, s)
  else if k.uses = 0 then (0x81, s)
  else
    let t := s.setSlot n { k with uses := k.uses - 1 }
    (St.done, if k.uses = 1 then t.fault Reg.VLT_FAULT_EXHAUSTED else t)

/-- VAULT_OPERATION on a slot that must be of a kind, for firmware or a key port. -/
def vaultOperationOp (n kind : Nat) (firmware : Bool) (s : State) : State :=
  let v := s.slotStatus n (· == kind)
  if v ≠ St.done then s.vaultAnswer v firmware
  else
    let r := s.useSlot n
    r.2.vaultAnswer r.1 firmware

/-- The wrap key, with BOOT_NONCE for RESET_BOUND blobs (rules R482, R486). -/
def State.wrapKey (s : State) (bound : Bool) : Nat :=
  Config.hkdf (s.slot 0).key [] (ascii "ZY wrap" ++ serialBytes ++ if bound then le 16 s.vlt.nonce else [])

/-- BLOB_LOAD (rule R487) into a working slot. -/
def blobLoadOp (n : Nat) (p : List Byte) (s : State) : State :=
  let kind := byteAt p 1
  let bound := bits (byteAt p 2) 0 1 == 1
  let par := bits (byteAt p 8) 0 6
  let plain := gcmOpen (s.wrapKey bound) (bytesAt p 32 12) (bytesAt p 0 48 ++ bytesAt p 112 16) (bytesAt p 48 48) (bytesAt p 96 16)
  let bad := decide (p.length ≠ 128 ∨ n < 16) || byteAt p 0 != 1 || decide (kind = 0 ∨ kind > 5) || bits (byteAt p 2) 1 7 != 0
    || byteAt p 3 != 0 || bits (byteAt p 8) 6 2 != 0 || !allZero (bytesAt p 9 3) || !allZero (bytesAt p 20 12) || !allZero (bytesAt p 44 4)
    || !allZero (bytesAt p 112 16)
  let v := match s.vaultShut with
    | some v => v
    | none => firstFail
        [(bad, St.badFormat), (leAt p 16 4 != s.rd Reg.VLT_LIFECYCLE_LC_GEN, St.authFail),
         (!s.slotValid 8 par || (s.slot par).gen != leAt p 12 4, St.keyRevoked), (plain.isNone, St.authFail)]
  if v ≠ St.done then (if v = St.authFail then s.authBad else s).vaultAnswer v true
  else
    (s.setSlot n { kind := kind, key := unle (plain.getD []), gen := (s.slot n).gen, parent := some par, parentGen := leAt p 12 4,
                   bound := bound, limited := false, uses := 0 }).vaultAnswer v true

/-- A blob (rule R486, the blob table): slot n under a label, with an IV. -/
def State.blobBytes (s : State) (n label iv : Nat) : List Nat :=
  let k := s.slot n
  let head := [1, k.kind, bit k.bound, 0] ++ le 4 label ++ [k.parent.getD 0, 0, 0, 0] ++ le 4 k.parentGen ++ le 4 (s.rd Reg.VLT_LIFECYCLE_LC_GEN)
    ++ List.replicate 12 0 ++ le 12 iv ++ List.replicate 4 0
  let wrap := s.wrapKey k.bound
  let cipher := gcmXor wrap (le 12 iv) 0 (le 48 k.key)
  head ++ cipher ++ le 16 (Config.gcmMac wrap (le 12 iv) (head ++ List.replicate 16 0) cipher).toNat ++ List.replicate 16 0

/-- BLOB_WRAP (rules R486, R487) of a working slot under a label that the wrapper chose; the IV comes from the DRBG. -/
def blobWrapOp (n label : Nat) (s : State) : State :=
  let v0 := s.slotStatus n (· != 6)
  let v := if v0 = St.done ∧ (s.slot n).limited then St.badFormat else v0
  if v ≠ St.done then s.vaultAnswer v true
  else
    let r := s.drawRandom
    { r.2 with vlt := { r.2.vlt with blob := s.blobBytes n label r.1 } }.vaultAnswer v true

/-- KEY_DERIVE (rules R482, R485) from a ROOT slot into a working slot, a use of the ROOT slot; `uses` sets LIMITED. -/
def keyDeriveOp (src dst kind : Nat) (salt info : List Byte) (bound : Bool) (uses : Option Nat) (s : State) : State :=
  let v := firstFail [(decide (dst < 16 ∨ kind = 0 ∨ kind = 5), St.badFormat), (true, s.slotStatus src (· == 6))]
  let use := s.useSlot src
  if v ≠ St.done then s.vaultAnswer v true
  else if use.1 ≠ St.done then s.vaultAnswer use.1 true
  else
    let key := Config.hkdf (s.slot src).key (salt.map BitVec.toNat) (info.map BitVec.toNat)
    let t := use.2.setSlot dst
      { kind := kind, key := key, gen := (s.slot dst).gen, parent := some src, parentGen := (s.slot src).gen,
        bound := bound, limited := uses.isSome, uses := uses.getD 0 }
    t.vaultAnswer v true

/-- PERSIST_RECORD_WRITE (rule R494): the next update; none starts in PFAIL handling. `good` says that the copy's check will
verify. -/
def persistRecordWriteOp (good : Bool) (s : State) : State :=
  if s.pwr.pfailLatched then s
  else match s.vlt.jobs with
  | [] => s
  | j :: rest =>
    let t := { s with vlt := { s.vlt with jobs := rest } }.persistPut j.record j.item good
    match j.cmd with
    | some (c, n) => if good then t.finish c St.done n 0 else t
    | none => t

/-- ENTROPY_HEALTH_FAIL (rule R502): the Vault holds no key until the next reset release. -/
def entropyHealthFailOp (s : State) : State :=
  let t := ((s.wr Reg.VLT_STATUS_SELFTEST_FAIL 1).wr Reg.VLT_STATUS_READY 0).fault Reg.VLT_FAULT_SELFTEST
  { t with vlt := { t.vlt with slots := t.vlt.slots.map fun (p : Nat × Slot) => (p.1, { Slot.empty with gen := p.2.gen }) } }

/-! ## Meanings -/

/-- Meaning of IDENTITY_READ. -/
def execIdentityRead (c : Cmd) (s : State) : Out := .next (s.whenMain (identityReadOp c))
/-- Meaning of LIFECYCLE. -/
def execLifecycle (c : Cmd) (data : List Byte) (ends : Bool) (s : State) : Out := .next (s.whenMain (lifecycleOp c data ends))
/-- Meaning of KEY_IMPORT. -/
def execKeyImport (c : Cmd) (data : List Byte) (s : State) : Out := .next (s.whenMain (keyImportOp c data))
/-- Meaning of PUBLIC_SET. -/
def execPublicSet (c : Cmd) (data : List Byte) (s : State) : Out := .next (s.whenMain (publicSetOp c data))
/-- Meaning of KEY_REVOKE. -/
def execKeyRevoke (c : Cmd) (s : State) : Out := .next (s.whenMain (keyRevokeOp c))
/-- Meaning of BEACON_REKEY. -/
def execBeaconRekey (c : Cmd) (s : State) : Out := .next (s.whenMain (beaconRekeyOp c))
/-- Meaning of BEACON_KEY_ACTIVATE. -/
def execBeaconKeyActivate (s : State) : Out := .next (s.whenMain beaconKeyActivateOp)
/-- Meaning of VAULT_OPERATION. -/
def execVaultOperation (slot : Fin 64) (kind : Fin 7) (firmware : Bool) (s : State) : Out :=
  .next (s.whenMain (fun t => if firmware then t.onRequest (vaultOperationOp slot.val kind.val true) else vaultOperationOp slot.val kind.val false t))
/-- Meaning of BLOB_LOAD. -/
def execBlobLoad (slot : Fin 64) (blob : List Byte) (s : State) : Out := .next (s.whenMain (fun t => t.onRequest (blobLoadOp slot.val blob)))
/-- Meaning of BLOB_WRAP. -/
def execBlobWrap (slot : Fin 64) (label : Word) (s : State) : Out :=
  .next (s.whenMain fun t => t.onRequest (blobWrapOp slot.val label.toNat))
/-- Meaning of KEY_DERIVE. -/
def execKeyDerive (src dst : Fin 64) (kind : Fin 7) (salt info : List Byte) (bound : Bool) (uses : Option Word) (s : State) : Out :=
  .next (s.whenMain (fun t => t.onRequest (keyDeriveOp src.val dst.val kind.val salt info bound (uses.map BitVec.toNat))))
/-- Meaning of PERSIST_RECORD_WRITE. -/
def execPersistRecordWrite (good : Bool) (s : State) : Out := .next (s.whenMain (persistRecordWriteOp good))
/-- Meaning of ENTROPY_HEALTH_FAIL. -/
def execEntropyHealthFail (s : State) : Out := .next (s.whenMain entropyHealthFailOp)

end Sys2Proof.Machine
end

