-- ==== Sys2Proof/Machine/Zyp.lean ====
section
/-! DEFINITION. The ZYP ports (chapter 17): receiving and windows, robot frames, streams, the safety radio, the roster and the
commits. Building and sending of the device's frames is in Yard. -/

namespace Sys2Proof.Machine

/-! ## Streams (rules R390 to R392) -/

/-- The next BOOT of a unit above `c`: odd for seat 0, even for seat 1 (rule R391). -/
def State.nextBoot (s : State) (c : Nat) : Nat :=
  let v := (c + 1) % 4294967296
  if v % 2 = 1 - s.seat then v else (v + 1) % 4294967296

/-- The unit takes control: a new pair stream with a BOOT above its counter. -/
def State.startPair (s : State) : State :=
  let v := s.nextBoot s.zyp.bootCtr
  { s with zyp := { s.zyp with bootCtr := v, pairOn := true, seq := [] } }.wr Reg.LNA_ZYP_BOOT v

/-- New unit streams. -/
def State.startUnit (s : State) : State :=
  let v := s.nextBoot s.zyp.bootCtr
  { s with zyp := { s.zyp with bootCtr := v, unitBoot := v, seqCor := 0 }, trp := { s.trp with seqTrap := 0 } }

/-- Raises the BOOT counter above a value, in this seat's parity. -/
def State.raiseBoot (s : State) (e : Nat) : State :=
  if later e s.zyp.bootCtr then { s with zyp := { s.zyp with bootCtr := s.nextBoot e } } else s

/-- PAIR_STREAM_CATCHUP: at a beacon boundary a lone unit, or an active that is not mirrored, starts a pair stream above the ECHO
it saw. -/
def pairStreamCatchupOp (s : State) : State :=
  match s.zyp.catchup with
  | none => s
  | some e =>
    if s.follows || s.twn.mirrored then s
    else
      let c := if later e s.zyp.bootCtr then e else s.zyp.bootCtr
      let t := ({ s with zyp := { s.zyp with catchup := none, bootCtr := c } }).startPair
      t.bump Reg.LNA_BOOT_CATCHUP (Reg.PORT_CNT_OVF_CNT_SAT 0)

/-- STREAM_RENEW: a sender whose SEQ counter has come to 0xFFFF_0000 starts a new stream. -/
def streamRenewOp (s : State) : State :=
  let full := fun (q : Nat) => decide (q ≥ 0xFFFF0000)
  let t := if s.zyp.pairOn && s.zyp.seq.any (fun p => full p.2) && !s.follows then s.startPair else s
  if full t.trp.seqTrap || full t.zyp.seqCor then t.startUnit else t

/-! ## Receiving (rules R396 to R398) -/

/-- What a window says of a frame. -/
inductive Judged where
  | fresh | dup | old
  deriving DecidableEq, Repr

/-- Judges (BOOT, SEQ) against a window, and gives the window with it recorded (rule R397). -/
def judgeWindow (w : Option Window) (boot seq : Nat) : Judged × Window :=
  match w with
  | none => (.fresh, ⟨boot, seq, [seq]⟩)
  | some x =>
    if later boot x.boot then (.fresh, ⟨boot, seq, [seq]⟩)
    else if boot ≠ x.boot then (.old, x)
    else if later seq x.seq then
      (.fresh, ⟨boot, seq, seq :: x.seen.filter fun q => decide ((seq + 4294967296 - q) % 4294967296 ≤ 63)⟩)
    else if (x.seq + 4294967296 - seq) % 4294967296 ≤ 63 then
      (if x.seen.contains seq then (.dup, x) else (.fresh, { x with seen := seq :: x.seen }))
    else (.old, x)

/-- The local ID of a federation ID. -/
def State.lidOf (s : State) (fed : Nat) : Option Nat := (s.zyp.roster.find? fun p => p.2.fed == fed).map (·.1)

/-- Row 2 of the device receive table. -/
def State.zypHeaderBad (s : State) (port : Nat) (f : List Byte) : Bool :=
  let src := leAt f 4 4
  byteAt f 0 != 1 || byteAt f 1 == 0 || decide (byteAt f 1 > 5) || byteAt f 2 != 0 || decide (src ≥ 262144) || leAt f 8 4 != s.yardId
    || !(byteAt f 3 == 255 || s.lidOf src == some (byteAt f 3)) || port == 2

/-- The first k elements of n bytes each. -/
def elements (n : Nat) : Nat → List Byte → List (List Byte)
  | 0, _ => []
  | k + 1, b => b.take n :: elements n k (b.drop n)

/-- The operation a REQUEST body asks (rule R400). -/
def requestOf (lid cls : Nat) (b : List Byte) : RobotOp :=
  let poly := byteAt b 0 % 2 == 1
  let nk := byteAt b 2
  let np := leAt b 14 2
  let size := if poly then 8 else 4
  let rest := b.drop (32 + 8 * nk)
  let word := fun (lo : Nat) (x : List Byte) => BitVec.ofNat 32 (leAt x lo 4)
  let segs := elements 4 (min np 472) rest
  let path := if poly then PathSpec.points ((elements 8 (min np 236) rest).map fun x => (word 0 x, word 4 x))
              else PathSpec.segs (segs.map fun x => (Fin.ofNat 16384 (leAt x 0 4), bits (leAt x 0 4) 14 1 == 1))
  let rsv := decide (byteAt b 0 > 1) || byteAt b 3 != 0 || leAt b 20 12 != 0 || (!poly && segs.any fun x => decide (leAt x 0 4 ≥ 32768))
  { lid := Fin.ofNat 256 lid, opId := word 4 b,
    body := .request { lid := Fin.ofNat 256 lid, cls := Fin.ofNat 16 cls, reqId := word 4 b, startSlot := word 8 b,
                       startMs := BitVec.ofNat 16 (leAt b 12 2), dwellEnd := BitVec.ofNat 8 (byteAt b 1),
                       knots := (elements 8 (min nk 16) (b.drop 32)).map fun x => (word 0 x, word 4 x), path := path, sOfs := word 16 b,
                       rsv := rsv || decide (nk > 16), badLen := b.length != 32 + 8 * nk + size * np } }

/-- The operation a RELEASE body asks (rule R401); a body of another length counts as one with a reserved field set. -/
def releaseOf (lid : Nat) (b : List Byte) : RobotOp :=
  let word := fun (lo : Nat) => BitVec.ofNat 32 (leAt b lo 4)
  ⟨Fin.ofNat 256 lid, word 4, .release ⟨Fin.ofNat 256 lid, BitVec.ofNat 8 (byteAt b 0), BitVec.ofNat 8 (byteAt b 1), word 8, word 12,
    leAt b 2 2 != 0 || b.length != 16⟩⟩

/-- The operation an EVENT body asks (rule R401). -/
def eventOf (lid : Nat) (b : List Byte) : RobotOp :=
  let e := byteAt b 0
  let code := (decide (2 ≤ e) && decide (e ≤ 7)) || (decide (16 ≤ e) && decide (e ≤ 31))
  let word := fun (lo : Nat) => BitVec.ofNat 32 (leAt b lo 4)
  ⟨Fin.ofNat 256 lid, word 4, .event ⟨Fin.ofNat 256 lid, Fin.ofNat 4096 (leAt b 2 2), BitVec.ofNat 8 e, word 8,
    !code || byteAt b 1 != 0 || decide (leAt b 2 2 ≥ 4096) || leAt b 12 4 != 0 || b.length != 16⟩⟩

/-- The operation of a frame, if its TYPE is one. -/
def State.opOf (s : State) (lid typ : Nat) (b : List Byte) : Option RobotOp :=
  let cls := ((AMap.find lid s.zyp.roster).map (·.cls)).getD 0
  if typ = 3 then some (requestOf lid cls b) else if typ = 4 then some (releaseOf lid b) else if typ = 5 then some (eventOf lid b) else none

/-- Rows 4 to 6 for a frame of local ID lid (rules R394, R396, R397): its tag, its window, its ECHO and EPOCH. A frame that passes is
counted, says where the robot is on the LAN, and is noted beside its packet, to match the active's references once it is admitted. -/
def State.judgeFrame (s : State) (p lid : Nat) (from_ : Endpoint) (f : List Byte) : State :=
  let src := leAt f 4 4
  let typ := byteAt f 1
  let boot := leAt f 12 4
  let seq := leAt f 16 4
  let msg := (f.take (f.length - 16)).map BitVec.toNat
  let tag := (f.drop (f.length - 16)).map BitVec.toNat
  let okTag := s.life == 2 && (match s.robotKey src with | none => false | some k => gcmTag k (zypNonce typ 0 src boot seq) msg == tag)
  if !okTag then s.portCount Reg.PORT_AUTH_FAIL p
  else
    let key := lid * 16 + typ
    let j := judgeWindow (AMap.find key s.zyp.windows) boot seq
    match j.1 with
    | .dup => s.portCount Reg.PORT_DUP p
    | .old => s.portCount Reg.PORT_STALE p
    | .fresh =>
      let t := { s with zyp := { s.zyp with windows := AMap.set key j.2 s.zyp.windows } }
      let cur := t.rd Reg.GLB_EPOCH
      let ep := leAt f 20 4
      let echo := leAt f 24 4
      let pair := t.rd Reg.LNA_ZYP_BOOT
      let past := (cur + 4294967296 - t.rd Reg.LNA_ZYP_PORT_EPOCH_AGE) % 4294967296
      if echo ≠ pair ∨ later ep cur ∨ later past ep then
        let u := t.portCount Reg.PORT_STALE p
        let newer := match u.zyp.catchup with | none => true | some c => later echo c
        if later echo pair && newer && !u.follows && !u.twn.mirrored then { u with zyp := { u.zyp with catchup := some echo } } else u
      else
        let o : OwnFrame := ⟨src, typ, boot, seq, unle ((shaBytes (f.map BitVec.toNat)).take 8),
          (cur + 1) % 4294967296, lid,
          t.opOf lid typ ((f.drop 28).take (f.length - 44)), p, f, 0⟩
        let u : State := { t with zyp := { t.zyp with reach := AMap.set (lid * 2 + p) from_ t.zyp.reach } }
        (u.noteFrame (4 * p) o).wrapBy (Reg.PORT_ZYP_RX p) 1

/-- A frame arrives at a port (rule R396): rows 1 and 2 in the port, then its chute takes it or it is dropped, then rows 3 to 6. -/
def zypFrameReceiveOp (p : Nat) (from_ : Endpoint) (f : List Byte) (s : State) : State :=
  if p ≠ 2 ∧ !s.pwr.lanOpen then s.dropFrame p
  else if f.length < 45 ∨ f.length > (if p = 2 then 640 else 1472) then s.portCount Reg.PORT_BAD_FRAME p
  else if s.zypHeaderBad p f then s.portCount Reg.PORT_BAD_FRAME p
  else
    let held := ((List.range 4).map fun k => (s.chute (4 * p + k)).pkts.length).sum
    let r := if !s.on Reg.CLK_ADMIT_STATUS_BOOT_DONE ∧ held ≥ 16 then (s, false) else s.offerFrom (4 * p) 0 (s.lidOf (leAt f 4 4)) (toWords (f.map BitVec.toNat))
    if !r.2 then r.1.dropFrame p
    else match s.lidOf (leAt f 4 4) with
      | none => r.1.portCount Reg.PORT_AUTH_FAIL p
      | some lid => r.1.judgeFrame p lid from_ f

/-! ## Robot frames (rules R399 to R402) -/

/-- A STATUS body is kept with its arrival time; one that breaks its format, or the format of its time stamp (rule R6), is answered. -/
def State.keepStatus (s : State) (lid seq : Nat) (b : List Byte) : State :=
  let e := byteAt b 2
  if (AMap.find lid s.zyp.roster).isNone then s
  else if b.length ≠ 32 then s.refuseReply lid 2 seq St.badLength
  else if byteAt b 0 > 5 ∨ byteAt b 1 ≥ 32 ∨ (e > 100 ∧ e ≠ 255) ∨ byteAt b 3 ≠ 0 ∨ leAt b 18 4 ≥ 1000000000 ∨ leAt b 28 4 ≠ 0 then s.refuseReply lid 2 seq St.badFormat
  else { s with zyp := { s.zyp with status := AMap.set lid (b.map BitVec.toNat ++ stamp s.now) s.zyp.status } }

/-- ROBOT_STATUS: the decision pair takes the next STATUS that Dispatch released to it. -/
def robotStatusOp (s : State) : State :=
  match s.zyp.statusIn with
  | [] => s
  | o :: rest => { s with zyp := { s.zyp with statusIn := rest } }.keepStatus o.lid o.seq ((o.bytes.drop 28).take (o.bytes.length - 44))

/-- The decision pair takes the next operation of the epoch's list when it is of the named type and no host input comes before
it. -/
def State.takeHead (s : State) (isType : OpBody → Bool) : State :=
  if !(s.epo.opened && s.epo.released && s.epo.snapped) || s.epo.decided then s
  else
    let t := s.prepare
    match t.epo.ops with
    | [] => s
    | (a, op) :: rest =>
      let first := match t.epo.taken.drop t.epo.hostDone with | [] => true | h :: _ => laterEq h.adm a
      if isType op.body && first then ({ t with epo := { t.epo with ops := rest } }).decideOp op else s

/-- ROBOT_REQUEST. -/
def robotRequestOp (s : State) : State := s.takeHead fun b => match b with | .request _ => true | _ => false
/-- ROBOT_RELEASE. -/
def robotReleaseOp (s : State) : State := s.takeHead fun b => match b with | .release _ => true | _ => false
/-- ROBOT_EVENT. -/
def robotEventOp (s : State) : State := s.takeHead fun b => match b with | .event _ => true | _ => false

/-! ## The safety radio (rules R412, R413) -/

/-- The length of a frame in its words, from its type. -/
def radioLength (b : List Nat) : Nat :=
  let t := b.getD 1 0
  if t = 0x10 then 140 else if t = 0x11 then 60
  else if t = 0x16 then 52 + 8 * b.getD 28 0 else 56 + 24 * (b.getD 29 0 % 2) + 16 * b.getD 28 0

/-- The SPI transfer that sends a frame: command byte, two bytes of frame length, the frame (rule R412). -/
def radioTransfer (f : List Nat) : List Nat := 1 :: le 2 f.length ++ f

/-- SRP_TXEN is high: from the strobe until the transmit is done, and low wherever the radio is not driven (rules R51, R412). -/
def State.radioTxen (s : State) : Bool := s.zyp.onAir.isSome && s.driveRadio

/-- RADIO_TRANSMIT: with nothing on the air, the best frame of chute 17 leaves, with a strobe and TX-enable. -/
def radioTransmitOp (s : State) : State :=
  if s.zyp.onAir.isSome || !s.driveRadio || !s.chuteOn 17 then s
  else match bestPacket (s.chute 17).pkts with
    | none => s
    | some (p, _) =>
      let b := p.words.flatMap fun (w : DWord) => le 8 w.toNat
      let f := b.take (radioLength b)
      let t := s.takeAny 17
      ({ t with zyp := { t.zyp with onAir := some ⟨p.prio, f⟩, txLog := t.zyp.txLog ++ [(⟨2, none, f⟩ : SentFrame)] } }).wrapBy (Reg.PORT_ZYP_TX 2) 1

/-- RADIO_IRQ: the transmit on the air is done, or a received frame is read and refused. -/
def radioIrqOp (received : Option (List Byte)) (s : State) : State :=
  match received with
  | none => { s with zyp := { s.zyp with onAir := none } }
  | some f => zypFrameReceiveOp 2 ⟨0#32, 0#16⟩ f s

/-- SRP_CFG_WRITE: SCK_MHZ keeps to 1 to 20. -/
def srpCfgWriteOp (v : Nat) (s : State) : State := s.wr Reg.SRP_CFG_SCK_MHZ (max 1 (min 20 (bits v 0 5)))

/-! ## Host commands (rules R417, R418) -/

/-- The entries of a ROSTER payload. -/
def rosterLines (data : List Byte) : List RosterLine :=
  (elements 8 (data.length / 8) data).map fun x =>
    { lid := Fin.ofNat 256 (byteAt x 0), valid := byteAt x 1 % 2 == 1, radio := bits (byteAt x 1) 1 1 == 1, cls := Fin.ofNat 16 (byteAt x 2),
      fed := BitVec.ofNat 32 (leAt x 4 4), rsv := decide (byteAt x 1 ≥ 4) || decide (byteAt x 2 ≥ 16) || byteAt x 3 != 0 }

/-- ROSTER: an input of the epoch in FLEET_RUN and FLEET_HOLD, applied at once in other modes. -/
def rosterOp (c : Cmd) (data : List Byte) (s : State) : State :=
  s.hostCmd c .dataIn fun t =>
    let len := c.desc.length.toNat
    if t.follows then t.finish c St.refusedMode 0 0
    else if len % 8 ≠ 0 ∨ len < 8 ∨ len > 2048 then t.finish c St.badLength 0 0
    else
      let es := rosterLines (data.take len)
      if t.mode.fleet then t.epochInput c (.roster es) ((data.take len).map BitVec.toNat)
      else
        let v := t.rosterStatus es
        (if v = St.done then t.rosterApply es else t).finish c v len 0

/-- STATUS_READ. -/
def statusReadOp (c : Cmd) (s : State) : State :=
  s.hostCmd c .dataOut fun t =>
    let len := c.desc.length.toNat
    let p := c.desc.p0.toNat
    if t.follows then t.finish c St.refusedMode 0 0
    else if p ≥ 256 then t.finish c St.badFormat 0 0
    else if len % 48 ≠ 0 ∨ p + len / 48 > 256 then t.finish c St.badLength 0 0
    else
      t.finishData c ((List.range (len / 48)).flatMap fun i => (AMap.find (p + i) t.zyp.status).getD (List.replicate 48 0))

/-- The bytes that STATUS_READ returns for `n` robots from `first` on. -/
def State.statusBytes (s : State) (first n : Nat) : List Nat :=
  (List.range n).flatMap fun k => AMap.get s.zyp.status (first + k) (List.replicate 48 0)

/-! ## Commits (rules R420, R421) -/

/-- ZYP_COMMIT. -/
def zypCommitOp (s : State) : State :=
  let y := s.sh Reg.LNA_ZYP_CFG_YARD_ID
  let v := firstFail
    [(s.mode.fleet || s.follows, St.refusedMode),
     (y == broadcastId || (s.lidOf y).isSome || s.sh Reg.LNA_ZYP_PORT_UDP_PORT == 0 || decide (s.sh Reg.LNA_ZYP_PORT_EPOCH_AGE < 4),
      St.badFormat)]
  s.commit Reg.LNA_ZYP_COMMIT_RESULT [Reg.LNA_ZYP_CFG_YARD_ID, Reg.LNA_ZYP_PORT_UDP_PORT, Reg.LNA_ZYP_PORT_EPOCH_AGE] v

/-- Whether an IPv4 address is no address of a host: loopback, multicast, or a broadcast of its prefix or at large. -/
def addrBad (a prefix_ : Nat) : Bool :=
  a != 0 && (a / 16777216 == 127 || a / 268435456 == 14 || a == 4294967295
    || (decide (prefix_ ≤ 30) && a % 2 ^ (32 - prefix_) == 2 ^ (32 - prefix_) - 1))

/-- NET_COMMIT of a LAN: a changed address closes its caster connections. -/
def netCommitOp (b : Bool) (s : State) : State :=
  let addr := if b then Reg.LNB_IPV4 else Reg.LNA_IPV4
  let pre := if b then Reg.LNB_IPV4_CFG_PREFIX else Reg.LNA_IPV4_CFG_PREFIX
  let other := s.rd (if b then Reg.LNA_IPV4 else Reg.LNB_IPV4)
  let a := s.sh addr
  let p := s.sh pre
  let bad := decide (p < 8 ∨ p > 30) || addrBad a p || (a != 0 && a == other)
  let t := s.commit (if b then Reg.LNB_NET_COMMIT_RESULT else Reg.LNA_NET_COMMIT_RESULT) [addr, pre] (if bad then St.badFormat else St.done)
  if !bad && a != s.rd addr then t.closeClients fun x => x.lanB == b else t

/-! ## Meanings -/

/-- Meaning of ZYP_FRAME_RECEIVE. -/
def execZypFrameReceive (port : Fin 3) (src : Endpoint) (frame : List Byte) (s : State) : Out :=
  .next (s.whenMain (zypFrameReceiveOp port.val src frame))
/-- Meaning of ROBOT_STATUS. -/
def execRobotStatus (s : State) : Out := .next (s.whenMain robotStatusOp)
/-- Meaning of ROBOT_REQUEST. -/
def execRobotRequest (s : State) : Out := .next (s.whenMain robotRequestOp)
/-- Meaning of ROBOT_RELEASE. -/
def execRobotRelease (s : State) : Out := .next (s.whenMain robotReleaseOp)
/-- Meaning of ROBOT_EVENT. -/
def execRobotEvent (s : State) : Out := .next (s.whenMain robotEventOp)
/-- Meaning of PAIR_STREAM_CATCHUP. -/
def execPairStreamCatchup (s : State) : Out := .next (s.whenMain pairStreamCatchupOp)
/-- Meaning of STREAM_RENEW. -/
def execStreamRenew (s : State) : Out := .next (s.whenMain streamRenewOp)
/-- Meaning of RADIO_TRANSMIT. -/
def execRadioTransmit (s : State) : Out := .next (s.whenMain radioTransmitOp)
/-- Meaning of RADIO_IRQ. -/
def execRadioIrq (received : Option (List Byte)) (s : State) : Out := .next (s.whenMain (radioIrqOp received))
/-- Meaning of ROSTER. -/
def execRoster (c : Cmd) (data : List Byte) (s : State) : Out := .next (s.whenMain (rosterOp c data))
/-- Meaning of STATUS_READ. -/
def execStatusRead (c : Cmd) (s : State) : Out := .next (s.whenMain (statusReadOp c))
/-- Meaning of ZYP_COMMIT. -/
def execZypCommit (s : State) : Out := .next (s.whenMain zypCommitOp)
/-- Meaning of NET_COMMIT. -/
def execNetCommit (lanB : Bool) (s : State) : Out := .next (s.whenMain (netCommitOp lanB))
/-- Meaning of SRP_CFG_WRITE. -/
def execSrpCfgWrite (value : Word) (s : State) : Out := .next (s.whenMain (srpCfgWriteOp value.toNat))

end Sys2Proof.Machine
end

