-- ==== Sys2Proof/Machine/Twin.lean ====
section
/-! DEFINITION. Twin operation over the Fjaryr link (chapter 19): the interlock, the link, mirroring an epoch, takeover and
rejoin. A follower decides an epoch by the same commands as an active; what differs is where its inputs come from and what its
digest leads to. -/

namespace Sys2Proof.Machine

/-! ## Registers -/

/-- REJOIN_STATE. -/
def State.rejoinState (s : State) : Nat := s.rd Reg.FJR_STATUS_REJOIN_STATE

/-- Advances a counter of the twin. -/
def State.fjrBump (s : State) (f : Fld) : State := s.bump f Reg.FJR_FAULT_CNT_SAT

/-- Whether the link is UP. -/
def State.linkUp (s : State) : Bool := decide (s.rd Reg.FJR_STATUS_LINK ≥ 2)

/-- Whether continuity is intact on both IN lines. -/
def State.contOk (s : State) : Bool := s.on Reg.FJR_STATUS_LIVE_CONT && s.on Reg.FJR_STATUS_CLAIM_CONT

/-- The epoch, the classes and the lockstep states of a mismatch are recorded (rule R469). -/
def State.noteMismatch (s : State) (epoch diff : Nat) (peer : Bool) : State :=
  let a := ((s.fjrBump Reg.FJR_MISMATCHES).fault Reg.FJR_FAULT_MISMATCH).wr Reg.FJR_MISMATCH_EPOCH epoch
  ((a.wr Reg.FJR_MISMATCH_INFO_CLASS_DIFF diff).wr Reg.FJR_MISMATCH_INFO_OWN_LOCKSTEP (bit s.twn.lockstep)).wr
    Reg.FJR_MISMATCH_INFO_PEER_LOCKSTEP (bit peer)

/-- The unit enters REJOIN in its WAIT state; the epoch in flight is abandoned. -/
def State.toRejoin (s : State) : State :=
  let a := s.abandonEpoch
  if a.pwr.pfailLatched then a
  else
  let b := if a.mode = .rejoin then a else a.enterMode .rejoin
  let c : State := { b with twn := { b.twn with mirrored := false, lost := false, parts := [], readied := none, readyDue := false,
                                                demoted := none } }
  (c.wr Reg.FJR_STATUS_REJOIN_STATE 1).wr Reg.FJR_STATUS_CLEAN 0

/-! ## The link (rules R449, R458 to R460) -/

/-- The first pairing check that fails, as PAIR_REASON codes it; 0 where none does. -/
def State.pairReason (s : State) (h : HelloMsg) : Nat :=
  if h.seat.val = s.seat then 1
  else if h.yardId.toNat ≠ s.yardId then 2
  else if h.version.toNat ≠ s.rd Reg.GLB_FW_VER then 3
  else if h.schema.toNat ≠ s.upd.schema then 4
  else if s.life ≠ 2 ∨ h.life.val ≠ 2 then 6
  else if !h.tagOk then 5
  else 0

/-- The content of this unit's HELLO in an order of the model's own (log entry 58): the pairing items, LINK_SESSION, the device serial and
the BOOT counter (rules R449, R459, R460). -/
def State.helloBytes (s : State) (session : Nat) : List Nat :=
  [s.rd Reg.FJR_CFG_TWIN_EN, s.seat, s.life] ++ le 4 s.yardId ++ le 4 (s.rd Reg.GLB_FW_VER) ++ le 4 s.upd.schema ++ le 4 session ++ serialBytes
    ++ le 4 s.zyp.bootCtr

/-- LINK_HELLO: at a link-up the pairing checks run; a pair has its link UP and its BOOT counters raised above each other's. -/
def linkHelloOp (h : HelloMsg) (s : State) : State :=
  if !s.liveOut || s.linkUp || !(h.lane0 || h.lane1) || !s.on Reg.CLK_SRC_STATUS_PLL_SERDES_LOCK then s
  else
    let n := s.twn.session + 1
    let a := { s with twn := { s.twn with session := n, rxSeq := 1, txSeq := 0, tx := [], peerSes := h.session.toNat } }.linkPut 1 (s.helloBytes n)
    let b := ((a.wr Reg.FJR_STATUS_LANE0_OK (bit h.lane0)).wr Reg.FJR_STATUS_LANE1_OK (bit h.lane1)).wr Reg.FJR_PEER_SEAT h.seat.val
    let r := if h.twinEn then s.pairReason h else 1
    let c := b.wr Reg.FJR_PEER_PAIR_REASON r
    if r ≠ 0 then ((c.wr Reg.FJR_STATUS_LINK 1).wr Reg.FJR_STATUS_PAIRED 0).fault Reg.FJR_FAULT_PAIR_FAIL
    else ((c.wr Reg.FJR_STATUS_LINK (if h.lane0 && h.lane1 then 2 else 3)).wr Reg.FJR_STATUS_PAIRED 1).raiseBoot h.boot.toNat

/-- LANE_LOSS: the lane is dropped; the link goes on with the other one at half rate. -/
def laneLossOp (lane : Nat) (s : State) : State :=
  let mine := if lane = 0 then Reg.FJR_STATUS_LANE0_OK else Reg.FJR_STATUS_LANE1_OK
  let other := if lane = 0 then Reg.FJR_STATUS_LANE1_OK else Reg.FJR_STATUS_LANE0_OK
  if !s.on mine then s
  else
    let t := (s.wr mine 0).fault Reg.FJR_FAULT_LANE_DEGRADED
    if t.on other && t.linkUp then t.wr Reg.FJR_STATUS_LINK 3 else t

/-- The frames up to a LACK are acknowledged; a LACK that covers DEMOTE or READY has its effect at the next boundary. -/
def State.takeLack (s : State) (lack : Nat) : State :=
  let first := (s.twn.txSeq + 4294967296 - s.twn.tx.length) % 4294967296
  let n := (lack + 4294967296 - first) % 4294967296
  let covers : Option Nat → Bool := fun x => match x with | some l => laterEq lack (l + 1) | none => false
  { s with twn := { s.twn with
      tx := if n ≤ s.twn.tx.length then s.twn.tx.drop n else s.twn.tx,
      loneDue := s.twn.loneDue || covers s.twn.demoted, demoted := if covers s.twn.demoted then none else s.twn.demoted,
      readyDue := s.twn.readyDue || covers s.twn.readied, readied := if covers s.twn.readied then none else s.twn.readied } }

/-- What an IDLE frame says of the peer: mode, fleet state and lockstep state. A fleet at GO shows that TWIN_MISMATCH has cleared on the
active (rule R469). -/
def State.takeIdle (s : State) (m : List Nat) : State :=
  let t := ((s.wr Reg.FJR_PEER_MODE (m.getD 0 0)).wr Reg.FJR_PEER_FLEET (m.getD 1 0)).wr Reg.FJR_PEER_LOCKSTEP (m.getD 2 0)
  if m.getD 1 0 = 0 then { t with twn := { t.twn with wait := false } } else t

/-- The payload of a received link frame, where its length is right and its tag verifies under the twin-link key (rule R459). -/
def State.linkOpen (s : State) (f : List Byte) : Option (List Nat) :=
  let b := f.map BitVec.toNat
  if f.length < 36 ∨ f.length > 8192 ∨ f.length ≠ 36 + leAt f 2 2 then none
  else (s.keyOf 6).bind fun k =>
    gcmOpen k (linkNonce (byteAt f 1 % 2) s.twn.peerSes (leAt f 12 8)) (b.take 20) ((b.drop 20).take (f.length - 36)) (b.drop (f.length - 16))

/-- LINK_FRAME_RX (rules R459, R460): a frame whose tag verifies and whose LSEQ is the next is delivered; any other is discarded and
counted. -/
def linkFrameRxOp (f : List Byte) (s : State) : State :=
  if !s.linkUp then s
  else match (if leAt f 4 4 = s.twn.rxSeq then s.linkOpen f else none) with
  | none => (s.fjrBump Reg.FJR_BAD_FRAME).fault Reg.FJR_FAULT_BAD_FRAME
  | some p =>
    let a := ({ s with twn := { s.twn with rxSeq := (s.twn.rxSeq + 1) % 4294967296 } }).linkChute 19 (byteAt f 0) p.length
    let b := a.takeLack (leAt f 8 4)
    if byteAt f 0 = 2 then b.takeIdle p else b

/-- The unacknowledged frames leave again, each under its own LSEQ with a new XSEQ and tag. -/
def State.resend (s : State) : Nat → List (Nat × List Nat) → State
  | _, [] => s
  | q, x :: t => State.resend (s.linkOut q x.1 x.2) ((q + 1) % 4294967296) t

/-- LINK_RETRANSMIT: every unacknowledged frame is sent again. -/
def linkRetransmitOp (s : State) : State :=
  if !s.linkUp || s.twn.stopped then s
  else
    let n := s.twn.tx.length
    (s.resend ((s.twn.txSeq + 4294967296 - n) % 4294967296) s.twn.tx).wrapBy Reg.FJR_RETX n

/-- LINK_IDLE_TX. -/
def linkIdleTxOp (s : State) : State := s.linkSend 0x02 [s.mode.code, s.trp.fleet.code, bit s.twn.lockstep]

/-- LINK_DOWN (rules R460, R473, R477). -/
def linkDownOp (s : State) : State :=
  if !s.linkUp then s
  else
    let a := (((s.wr Reg.FJR_STATUS_LINK 0).wr Reg.FJR_STATUS_PAIRED 0).fjrBump Reg.FJR_LINK_LOSSES).loseTwin
    let b : State := { a with twn := { a.twn with tx := [], journal := none, snapDue := false, readyDue := false, readied := none, demoted := none } }
    match b.mode with
    | .twinStandby => if b.on Reg.FJR_STATUS_LIVE_IN || !b.contOk then b.toRejoin else b
    | .rejoin => b.toRejoin
    | _ =>
      if b.twn.mirrored && b.on Reg.FJR_STATUS_LIVE_IN then
        let c : State := { b.fault Reg.FJR_FAULT_TWIN_LOST with twn := { b.twn with linkLost := true } }
        if c.epo.assured then c else c.abandonEpoch
      else b

/-- LONE_AFTER_TIMEOUT: from this boundary on the active runs as a lone unit. -/
def loneAfterTimeoutOp (s : State) : State :=
  if s.twn.linkLost then { s with twn := { s.twn with linkLost := false, mirrored := false } } else s

/-! ## Following the active's Trapdoor (rules R365, R468) -/

/-- The fleet state follows the active's: a restriction at once, a relaxation only while no STOP source of this unit is active. -/
def State.followFleet (s : State) (l : Level) : State :=
  if l = s.trp.fleet then s
  else if l.code > s.trp.fleet.code then
    let t := s.meetAll none
    let u : State := if l = .stop then { t with trp := { t.trp with latch := true } }.wr Reg.TRP_STATUS_ARMED 0 else t
    ((u.setFleet l).trapFrame (l == .stop) none).changeRecord
  else if !s.stopSourcesClear then s
  else
    let t := if s.trp.fleet = .stop then (s.clearStop.wr Reg.TRP_HOLD_CAUSE_RECOVER 1).wr Reg.TRP_STATUS_ARMED 0 else s
    (if l = .go then t.wrAll 0 holdCauses else t).setFleet l

/-- The own state of robot r follows the active's. -/
def State.followOwn (s : State) (r v : Nat) : State :=
  let old := s.rd (Reg.TRP_ROBOT_OWN r)
  if v = old then s
  else if v > old then
    let t := (s.wr (Reg.TRP_ROBOT_OWN r) v).meetAll (some r)
    let u := if v = 2 then { t with epo := { t.epo with stopped := t.epo.stopped ++ [r] } } else t
    (u.trapFrame (v == 2) (some r)).changeRecord
  else if !s.stopSourcesClear then s
  else if v = 0 then s.ownGo r
  else s.wr (Reg.TRP_ROBOT_OWN r) v

/-- The level of a code. -/
def levelOf (k : Nat) : Level := match k with | 0 => .go | 1 => .hold | _ => .stop

/-- Fleet and own states as listed; a robot that is not listed is at GO. -/
def State.followStates (s : State) (fleet : Nat) (own : List (Fin 256 × Fin 3)) : State :=
  (List.range 256).foldl
    (fun (t : State) r => t.followOwn r (((own.find? fun (x : Fin 256 × Fin 3) => x.1.val == r).map fun x => x.2.val).getD 0))
    (s.followFleet (levelOf fleet))

/-- STATE_FRAME: a standby follows the states it names; at a mirrored active it is the STATE frame due every 1 ms, of its own states. -/
def stateFrameOp (fleet : Nat) (own : List (Fin 256 × Fin 3)) (s : State) : State :=
  if s.mode = .twinStandby then s.followStates fleet own else s.sendState

/-- The own-state causes of robot r. -/
def ownCauses (r : Nat) : List Fld :=
  [Reg.TRP_ROBOT_HOST r, Reg.TRP_ROBOT_INTEGRITY r, Reg.TRP_ROBOT_COAST r, Reg.TRP_ROBOT_ENVELOPE r, Reg.TRP_ROBOT_LOOP_LOST r,
   Reg.TRP_ROBOT_MAP_LOST r]

/-- RESTRICT_FRAME: the active raises what its standby raised, by its cause bit. -/
def restrictFrameOp (stop : Bool) (robot : Option Nat) (cause : Nat) (s : State) : State :=
  if s.follows then s
  else match robot with
    | none =>
      (match (if stop then stopCauses else holdCauses).find? (fun f => f.lo == cause) with
       | some f => s.raiseFleet stop f
       | none => s)
    | some r =>
      match (ownCauses r).find? (fun f => f.lo == cause) with
      | some f => s.raiseOwn r stop f
      | none => s

/-! ## The inputs of an epoch (rules R461 to R463) -/

/-- Whether this unit takes the live stream: a standby, or a rejoining unit in COMPARE. -/
def State.takesLive (s : State) : Bool := s.mode == .twinStandby || (s.mode == .rejoin && s.rejoinState == 4)

/-- The head of an epoch's stream: the states that the active latched at Release. -/
def State.openHead (s : State) (slot : Nat) (t0 : YTime) (fleet : Nat) (own : List (Fin 256 × Fin 4)) : State :=
  let a := if later slot s.slotNow then s.expireTo slot else s
  let m : Mode := match fleet with | 0 => .fleetRun | 1 => .fleetHold | _ => .faultSafe
  { a with epo := { a.epo with mode0 := m, fleet0 := levelOf fleet, stopNow := a.epo.stopped, stopped := [], released := true, snapped := false,
                               ended := false, ops := [], taken := [], hostDone := 0, last := some t0,
                               holdOwn := (own.filter fun (x : Fin 256 × Fin 4) => x.2.val != 0).map fun x => x.1.val } }

/-- The shadow image of a commit takes the place of this unit's own. -/
def State.setImage (s : State) (k : EpochKind) (words : List (Nat × Nat)) (regs : List Nat) : State :=
  let bank := words.foldl (fun (m : AMap Nat) (x : Nat × Nat) => AMap.set x.1 x.2 m) []
  match k with
  | .fleet => { s with trk := { s.trk with shadow := bank } }
  | .pace => (paceGroup.zip regs).foldl (fun (t : State) (x : Fld × Nat) => t.wrShadow x.1 x.2) { s with gov := { s.gov with shadow := bank } }
  | _ => s

/-- An input of the epoch that came from the active. -/
def State.takeInput (s : State) (k : EpochKind) (adm : Nat) : State :=
  { s with epo := { s.epo with taken := s.epo.taken ++ [⟨none, k, adm, false, none, []⟩] } }

/-- An operation of the epoch's list. -/
def State.takeListed (s : State) (adm : Nat) (op : RobotOp) : State := { s with epo := { s.epo with ops := insertOp adm op s.epo.ops } }

/-- Whether an own admission is the frame that a reference names (rule R463). -/
def refNames (r : ZypRef) (o : OwnFrame) : Bool :=
  o.src == r.src.toNat && o.typ == r.typ.toNat && o.boot == r.boot.toNat && o.seq == r.seq.toNat && o.hash == r.hash.toNat

/-- The data of a reference (rule R462, the input entry table). -/
def refBytes (r : ZypRef) : List Nat :=
  le 4 r.adm.toNat ++ le 4 r.src.toNat ++ [r.typ.toNat, bit r.lanB, 0, 0] ++ le 4 r.boot.toNat ++ le 4 r.seq.toNat ++ le 8 r.hash.toNat

/-- A frame by reference: from this unit's own admissions, or fetched. -/
def State.takeRef (s : State) (r : ZypRef) : State :=
  match s.twn.own.find? (refNames r) with
  | some o =>
    let t : State := { s with twn := { s.twn with own := s.twn.own.erase o } }
    match o.op with
    | some op => t.takeListed r.adm.toNat op
    | none => t
  | none =>
    let t : State := { s with twn := { s.twn with missing := s.twn.missing ++ [r] } }
    (t.fjrBump Reg.FJR_FETCHES).linkSend 0x11 (refBytes r)

/-- Cells to block. -/
def State.takeCells (s : State) (cells : List (BitVec 23)) : State :=
  let put := fun (q : List Quar) (c : BitVec 23) =>
    if q.any fun (x : Quar) => x.cell == c.toNat then q.map fun (x : Quar) => if x.cell = c.toNat then { x with ready := true } else x
    else q ++ [⟨c.toNat, false, true⟩]
  { s with ldr := { s.ldr with quar := cells.foldl put s.ldr.quar } }

/-- The position snapshot of the active. -/
def State.takePositions (s : State) (l : List (Fin 256 × PosRec)) : State :=
  let m := l.foldl (fun (m : AMap PosRec) (x : Fin 256 × PosRec) => AMap.set x.1.val x.2 m) []
  { s with epo := { s.epo with snapped := true, pos := m } }

/-- The head entry opens the epoch it names, when that is the epoch in progress; a rejoining unit that has replayed the one before it
joins the live epochs and takes up their number. -/
def State.takeHeadEntry (s : State) (n slot : Nat) (t0 : YTime) (fleet : Nat) (own : List (Fin 256 × Fin 4)) : State :=
  let joins := s.mode == .rejoin && s.rejoinState == 3 && n == (s.epo.closed + 1) % 4294967296
  let a := if joins then (s.wr Reg.GLB_EPOCH n).wr Reg.FJR_STATUS_REJOIN_STATE 4 else s
  if !a.takesLive || !a.epo.opened || a.epo.released || n != a.rd Reg.GLB_EPOCH then s else a.openHead slot t0 fleet own

/-- One entry of the stream. -/
def State.takeEntry (s : State) (e : InputEntry) : State :=
  match e with
  | .head n _ slot _ t0 fleet own => s.takeHeadEntry n.toNat slot.toNat t0 fleet.val own
  | .zyp r => if s.epo.released && !s.epo.ended then s.takeRef r else s
  | .host k adm => if s.epo.released && !s.epo.ended then s.takeInput k adm else s
  | .image k words regs => if s.epo.released && !s.epo.ended then (s.setImage k words regs).takeInput k 0 else s
  | .block cells => if s.epo.released && !s.epo.ended then s.takeCells cells else s
  | .snapshot l => if s.epo.released && !s.epo.ended then s.takePositions l else s
  | .fin => if s.epo.released then { s with epo := { s.epo with ended := true } } else s

/-- INPUT_FRAME. -/
def inputFrameOp (es : List InputEntry) (s : State) : State := if s.follows && s.linkUp then es.foldl State.takeEntry s else s

/-- In PANTRY and SURVEY mirror traffic is neither sent nor accepted (rules R86, R91). -/
def State.shutsMirror (s : State) : Bool := s.mode == .pantry || s.mode == .survey

/-- FETCH: the active answers with FILL, the whole frame; it keeps the frames of an epoch that has not closed. -/
def fetchOp (r : ZypRef) (s : State) : State :=
  if s.follows || s.shutsMirror then s
  else match s.twn.own.find? (refNames r) with
    | some o => s.linkSend 0x12 (refBytes r ++ o.bytes.map BitVec.toNat)
    | none => s

/-- FILL: the frame, when its hash agrees, takes its place in the list. -/
def fillOp (r : ZypRef) (f : List Byte) (s : State) : State :=
  if !s.follows || !s.twn.missing.contains r then s
  else if unle ((shaBytes (f.map BitVec.toNat)).take 8) ≠ r.hash.toNat then s
  else
    let t : State := { s with twn := { s.twn with missing := s.twn.missing.erase r } }
    match (s.lidOf r.src.toNat).bind fun lid => s.opOf lid r.typ.toNat ((f.drop 28).take (f.length - 44)) with
    | some op => t.takeListed r.adm.toNat op
    | none => t

/-! ## Digest exchange (rules R465, R466, R469, R474) -/

/-- PREPARE: kept until the digest closes; the standby answers with ACK. -/
def prepareOp (p : PrepMsg) (s : State) : State :=
  if !s.takesLive || !s.epo.opened || p.epoch.toNat ≠ s.rd Reg.GLB_EPOCH then s
  else ({ s with twn := { s.twn with prep := some p } }).sendAck

/-- ACK at a mirrored active: MATCH assures the commit; MISMATCH abandons the epoch and holds the fleet. -/
def ackOp (a : AckMsg) (us : Nat) (s : State) : State :=
  if s.follows || !s.twn.mirrored || s.twn.linkLost || !s.epo.opened || !s.epo.digest || s.epo.assured || a.epoch.toNat != s.rd Reg.GLB_EPOCH then s
  else
    let v := min us 0xFFFF
    let t := ((s.wr Reg.FJR_MIRROR_LAT_LAST v).wr Reg.FJR_MIRROR_LAT_MAX (max v (s.rd Reg.FJR_MIRROR_LAT_MAX))).tallyAdd 11 v
    let u : State := { t with twn := { t.twn with lates := 0 } }
    if !a.mismatch then u.assure
    else
      let e := u.rd Reg.GLB_EPOCH
      let w := (u.abandonEpoch.linkSend 0x16 (le 4 e ++ [1])).noteMismatch e a.classDiff.toNat a.lockstep
      ({ w with twn := { w.twn with mirrored := false } }).raiseFleet false Reg.TRP_HOLD_CAUSE_TWIN_MISMATCH

/-- ACK_LATE: the epoch is an overrun epoch; a second late ACK in a row makes the active send DEMOTE. -/
def ackLateOp (s : State) : State :=
  if s.follows || !s.twn.mirrored || !s.linkUp || !s.epo.opened || !s.epo.digest || s.epo.assured then s
  else
    let e := s.rd Reg.GLB_EPOCH
    let a := s.overrun.linkSend 0x16 (le 4 e ++ [0])
    let b := (a.fjrBump Reg.FJR_ACK_LATE).fault Reg.FJR_FAULT_ACK_LATE
    let n := b.twn.lates + 1
    let c : State := { b with twn := { b.twn with lates := n } }
    if n < 2 then c
    else
      let d : State := { c with twn := { c.twn with demoted := some c.twn.txSeq, lates := 0 } }
      (d.linkSend 0x18 []).fault Reg.FJR_FAULT_TWIN_LOST

/-- COMMIT at a standby that has acknowledged the epoch. -/
def commitOp (epoch : Nat) (s : State) : State :=
  if s.mode = .twinStandby ∧ s.epo.opened ∧ s.twn.acked ∧ epoch = s.rd Reg.GLB_EPOCH then s.withCompTimes.commitEpoch else s

/-- ABANDON at a follower; after a mismatch a standby enters REJOIN and waits for the host. -/
def abandonOp (epoch reason : Nat) (s : State) : State :=
  if !s.follows || !s.epo.opened || epoch != s.rd Reg.GLB_EPOCH then s
  else if reason = 1 ∧ s.mode = .twinStandby then
    let diff := match s.verdict with | some v => v.2 | none => 0
    let t := s.toRejoin.noteMismatch epoch diff (s.on Reg.FJR_PEER_LOCKSTEP)
    { t with twn := { t.twn with wait := true } }
  else s.abandonEpoch

/-- BEACON_COPY: the standby sends its copy of the active's beacon, when that copy is in hand 0.5 ms after the beacon's t=0, a 100 ms boundary
(rules R357, R467). -/
def beaconCopyOp (seq epoch : Nat) (body : List Byte) (s : State) : State :=
  if s.mode ≠ .twinStandby ∨ s.twn.stopped ∨ s.now.ns % 100000000 > 500000 then s
  else
    let key := broadcastId * 32 + 0x10
    let t : State := { s with zyp := { s.zyp with seq := AMap.set key (seq + 1) s.zyp.seq } }
    match (t.wr Reg.GLB_EPOCH epoch).frame 0x10 255 broadcastId (t.rd Reg.LNA_ZYP_BOOT) seq (t.keyOf 5) (body.map BitVec.toNat) with
    | none => t
    | some f => (t.sendLan 0 f).sendLan 1 f

/-- DEMOTE: the standby leaves TWIN_STANDBY. -/
def demoteOp (s : State) : State := if s.mode = .twinStandby then s.toRejoin else s

/-! ## Failures of a unit (rules R453, R457, R470 to R475) -/

/-- The epoch in flight at a takeover is settled by the last stage reached (rule R472); the Bool says that its digests differed. -/
def State.settle (s : State) : State × Bool :=
  if !s.epo.opened then (s, false)
  else if !s.epo.ended then (s.abandonEpoch, false)
  else if s.twn.acked then (s.withCompTimes.commitEpoch, false)
  else match s.twn.prep with
    | none => (if s.epo.digest then s.commitEpoch else { s with twn := { s.twn with missing := [] } }, false)
    | some _ =>
      match s.verdict with
      | some (true, _) => (s.withCompTimes.commitEpoch, false)
      | some (false, _) => (s.abandonEpoch, true)
      | none => ({ s with twn := { s.twn with missing := [] } }, false)

/-- The standby becomes the active (rule R471). -/
def State.takeover (s : State) : State :=
  let a := s.settle
  let b : State := { a.1 with twn := { a.1.twn with lost := false, mirrored := false, timeOk := false, offsets := [] } }
  let c := b.enterMode (if b.trp.fleet = .go then .fleetRun else .fleetHold)
  let d := ((c.fjrBump Reg.FJR_TAKEOVERS).fault Reg.FJR_FAULT_TAKEOVER).reselect
  let e := if d.rd Reg.TIM_STATUS_SOURCE = 3 then d.holdAt d.now else d
  let f := if a.2 then e.raiseFleet false Reg.TRP_HOLD_CAUSE_TWIN_MISMATCH else e
  if f.trp.latch then f.enterMode .faultSafe else f

/-- A standby that has lost LIVE_IN and finds CLAIM_IN deasserted takes over, with continuity intact; else it stays as it is. -/
def State.tryTakeover (s : State) : State :=
  if s.mode ≠ .twinStandby ∨ !s.twn.lost ∨ s.on Reg.FJR_STATUS_CLAIM_IN ∨ s.pwr.pfailLatched then s
  else if s.contOk then s.takeover else s.fault Reg.FJR_FAULT_INTERLOCK_OPEN

/-- LIVE_SERVICE_MISSED: LIVE_OUT and CLAIM_OUT stop. -/
def liveServiceMissedOp (s : State) : State := s.stopLive

/-- LIVE_IN_LOST: a standby prepares its takeover; an active has lost its standby and goes on as a lone unit (rule R475). -/
def liveInLostOp (s : State) : State :=
  if !s.on Reg.FJR_STATUS_LIVE_IN then s
  else
    let t := s.wr Reg.FJR_STATUS_LIVE_IN 0
    if t.mode = .twinStandby then ({ t with twn := { t.twn with lost := true } }).tryTakeover
    else if t.twn.mirrored && t.on Reg.FJR_STATUS_LIVE_CONT then
      let u : State := { t.fault Reg.FJR_FAULT_TWIN_LOST with twn := { t.twn with mirrored := false, linkLost := false, lates := 0, demoted := none } }
      if u.epo.opened && u.epo.digest then u.assure else u
    else { t with twn := { t.twn with journal := none, snapDue := false } }

/-- LIVE_IN_ASSERT. -/
def liveInAssertOp (s : State) : State := { s.wr Reg.FJR_STATUS_LIVE_IN 1 with twn := { s.twn with lost := false } }

/-- CLAIM_IN_DEASSERT. -/
def claimInDeassertOp (s : State) : State := (s.wr Reg.FJR_STATUS_CLAIM_IN 0).tryTakeover

/-- CLAIM_IN_ASSERT: during FLEET_START arbitration seat B drops its claim at once (rule R456). -/
def claimInAssertOp (s : State) : State :=
  let t := s.wr Reg.FJR_STATUS_CLAIM_IN 1
  if t.twn.arb && t.seat == 1 then
    (({ t with twn := { t.twn with arb := false } }).wr Reg.CLK_MODE_STATUS_IN_TRANSIT 0).modeResult St.conflict 6
  else t

/-- TAKEOVER_BLOCKED: CLAIM_IN is still asserted 200 µs after the loss of LIVE_IN. -/
def takeoverBlockedOp (s : State) : State :=
  if s.mode = .twinStandby ∧ s.twn.lost ∧ s.on Reg.FJR_STATUS_CLAIM_IN ∧ s.contOk then (s.fault Reg.FJR_FAULT_TAKEOVER_BLOCKED).toRejoin else s

/-- The continuity bit of an IN line. -/
def contOf (claim : Bool) : Fld := if claim then Reg.FJR_STATUS_CLAIM_CONT else Reg.FJR_STATUS_LIVE_CONT

/-- CONTINUITY_BROKEN on an IN line. -/
def continuityBrokenOp (claim : Bool) (s : State) : State := (s.wr (contOf claim) 0).fault Reg.FJR_FAULT_INTERLOCK_OPEN

/-- CONTINUITY_RESTORED on an IN line. -/
def continuityRestoredOp (claim : Bool) (s : State) : State := s.wr (contOf claim) 1

/-- TWIN_AMBIGUITY: both CLAIM lines asserted for 500 µs. -/
def twinAmbiguityOp (s : State) : State :=
  if s.claimOut && s.on Reg.FJR_STATUS_CLAIM_IN then (s.fault Reg.FJR_FAULT_AMBIGUITY).raiseFleet true Reg.TRP_STOP_CAUSE_TWIN else s

/-! ## Time over the link (rule R476) -/

/-- TIME_REQ: a follower sends its time t1, which the answer will carry back; the active answers the t1 it received. -/
def timeReqOp (t1 : YTime) (s : State) : State :=
  if s.follows then { s with twn := { s.twn with reqAt := some s.now } }.linkSend 0x05 (stamp s.now)
  else s.linkSend 0x06 (stamp t1 ++ stamp s.now ++ stamp s.now)

/-- TIME_RSP: the answer to the request that is open completes an exchange, with one more offset of the second in 2⁻⁸ ns. -/
def timeRspOp (t1 t2 t3 t4 : YTime) (s : State) : State :=
  if !s.follows || !s.linkUp || s.twn.reqAt != some t1 then s
  else
    let d := timeDiff t2 t1 - timeDiff t4 t3 - signed 16 (s.rd Reg.FJR_TIME_ASYM) * 65536
    { s with twn := { s.twn with offsets := s.twn.offsets ++ [d / 512], reqAt := none } }

/-! ## Rejoining (rules R477 to R479) -/

/-- A snapshot is asked for. -/
def State.askSnapshot (s : State) : State :=
  let a := ((s.wr Reg.FJR_STATUS_REJOIN_STATE 2).wr Reg.FJR_STATUS_CLEAN 0).fjrBump Reg.FJR_REJOINS
  ({ a with twn := { a.twn with parts := [] } }).linkSend 0x20 []

/-- An attempt has failed: the next one starts, or after three the state is FAILED. -/
def State.failAttempt (s : State) : State :=
  let n := s.twn.retries + 1
  let t : State := { s with twn := { s.twn with retries := n } }
  if n ≥ 3 then (t.wr Reg.FJR_STATUS_REJOIN_STATE 5).fault Reg.FJR_FAULT_REJOIN_FAILED else t.askSnapshot

/-- REJOIN_START: WAIT ends when the link is UP, CLAIM_IN is asserted and no mismatch awaits the host. -/
def rejoinStartOp (s : State) : State :=
  if s.mode = .rejoin ∧ s.rejoinState = 1 ∧ s.linkUp ∧ s.on Reg.FJR_STATUS_CLAIM_IN ∧ !s.twn.wait then
    ({ s with twn := { s.twn with retries := 0 } }).askSnapshot
  else s

/-- SNAP_REQ at the active: served in the fleet modes only. -/
def snapReqOp (s : State) : State :=
  if s.follows then s
  else if s.mode.fleet then { s with twn := { s.twn with snapDue := true, journal := none } } else s.linkSend 0x22 (le 4 0)

/-- SNAP_DATA at the rejoining unit. -/
def snapDataOp (p : SnapPart) (s : State) : State :=
  if s.mode = .rejoin ∧ s.rejoinState = 2 then { s with twn := { s.twn with parts := s.twn.parts ++ [p] } } else s

/-- A loop mode from its code. -/
def loopModeOf (k : Nat) : LoopMode :=
  match k with | 0 => .off | 1 => .track | 2 => .dock | 3 => .coast | 4 => .held | 5 => .docked | _ => .lost

/-- A list of pairs as a map. -/
def toMap {α : Type} (l : List (Nat × α)) : AMap α := l.foldl (fun (m : AMap α) (x : Nat × α) => AMap.set x.1 x.2 m) []

/-- A part of the snapshot takes the place of this unit's own state. -/
def State.applyPart (s : State) (p : SnapPart) : State :=
  match p with
  | .runs l =>
    let rs := l.map fun (x : SnapRun) => (⟨x.cell, x.entry, x.robot, x.first, x.len, x.gslot, false, x.env, none⟩ : Run)
    let held := (rs.map (Run.tokensFrom s.slotNow s.slotNow)).sum
    (({ s with ldr := { s.ldr with runs := rs } }).wr Reg.LDR_HELD held).wr Reg.LDR_PENDING 0
  | .grants l env => { s with ldr := { s.ldr with grants := toMap l, envFrom := toMap env } }
  | .blocked l => ({ s with ldr := { s.ldr with blocked := l, quar := [] } }).wr Reg.LDR_BLOCKED_CELLS l.length
  | .counters g r x f id =>
    let t : State := { s with ldr := { s.ldr with grantId := id, grantId0 := id } }
    ((((t.wr Reg.LDR_GRANTED g).wr Reg.LDR_RELEASED r).wr Reg.LDR_EXPIRED x).wr Reg.LDR_FORCED f)
  | .tables gen words =>
    let m := toMap words
    (({ s with trk := { s.trk with live := m, shadow := m } }).wr Reg.TRK_GEN gen).wr Reg.TRK_STATUS_LIVE 1 |>.wr
      Reg.CLK_ADMIT_STATUS_TABLES_COMMITTED 1
  | .tasks l => ({ s with trk := { s.trk with tasks := toMap l, tasks0 := toMap l, frozen := none } }).showTasks
  | .curves words => { s with gov := { s.gov with live := toMap words, shadow := toMap words } }
  | .loops l =>
    let m := toMap (l.map fun (x : Nat × SnapLoop) =>
      let y := x.2
      (x.1, (⟨loopModeOf y.mode.val, y.i, y.u, y.e, y.hasSeq, y.posSeq, y.sample, y.sMeas, y.gslot, y.cls, y.usedEp, y.cmdEp, y.cmdSeq, y.ovr,
              y.winding, y.lastErr, false, false⟩ : Loop)))
    { s with gov := { s.gov with loops := m, loops0 := m } }
  | .trapdoor fleet own hold =>
    let t := s.wrEach (holdCauses.zip ((List.range 12).map fun k => bits hold k 1))
    t.followStates fleet.val own
  | .roster l => ({ s with zyp := { s.zyp with roster := toMap l } }).storeWith fun (a : SettingsArea) => { a with roster := toMap l }
  | .streams epoch boot seqs =>
    ({ s with epo := { s.epo with closed := epoch, commits := epoch }, zyp := { s.zyp with seq := toMap seqs, pairOn := true } }).wr
      Reg.LNA_ZYP_BOOT boot
  | .ops l => { s with zyp := { s.zyp with ops := toMap l, ops0 := toMap l } }

/-- SNAP_END: no sections send the unit back to WAIT; an intact snapshot is put in place and REPLAY begins. -/
def snapEndOp (sections : Nat) (intact : Bool) (s : State) : State :=
  if s.mode ≠ .rejoin ∨ s.rejoinState ≠ 2 then s
  else if sections = 0 then s.wr Reg.FJR_STATUS_REJOIN_STATE 1
  else if !intact then s
  else
    let t := s.twn.parts.foldl State.applyPart s
    let free := 64 * t.cellCount - 64 * t.rd Reg.LDR_BLOCKED_CELLS - t.rd Reg.LDR_HELD
    (({ t with twn := { t.twn with parts := [] } }).wr Reg.LDR_FREE free).showRobots.wr Reg.FJR_STATUS_REJOIN_STATE 3

/-- The Larder's work of an epoch, in its order. -/
def State.workAll (s : State) : Nat → State
  | 0 => s
  | fuel + 1 =>
    if s.epo.work.isEmpty then s
    else State.workAll (larderRequestOp (envelopeCommandOp (larderReleaseOp s))) fuel

/-- The Governor's work of an epoch: its inputs, then the loops that coast or ramp without one. -/
def State.paceAll (s : State) : State :=
  let a := s.epo.loopQ.foldl (fun (t : State) _ => loopInputOp YTime.zero 0 t) s
  (List.range 256).foldl (fun (t : State) r => loopRampCommandOp r YTime.zero (coastEntryOp r YTime.zero t)) a

/-- JOURNAL: a journaled epoch is replayed whole, with its outcome; frames of its list come as operations. -/
def journalOp (es : List InputEntry) (ops : List (Nat × RobotOp)) (loops : List LoopSpec) (committed : Bool) (s : State) : State :=
  if s.mode ≠ .rejoin ∨ s.rejoinState ≠ 3 then s
  else match es with
    | .head n _ slot _ t0 fleet own :: rest =>
      let live := s.rd Reg.GLB_EPOCH
      let a := s.closeEpoch.wr Reg.GLB_EPOCH n.toNat
      let b := ({ a with epo := { a.epo with opened := true } }).openHead slot.toNat t0 fleet.val own
      let named := fun (e : InputEntry) => match e with | .zyp _ => false | .head _ _ _ _ _ _ _ => false | _ => true
      let c := (rest.filter named).foldl State.takeEntry b
      let d := sweepCompleteOp (ops.foldl (fun (t : State) (x : Nat × RobotOp) => t.takeListed x.1 x.2) c)
      let e := epochDecideOp loops ({ d with epo := { d.epo with ended := true, snapped := true } })
      let f := (e.workAll (3 * e.epo.work.length)).paceAll.closeAudited
      (if committed then f.commitEpoch else f.abandonEpoch).wr Reg.GLB_EPOCH live
    | _ => s

/-- JOURNAL_FULL: the active ends the session; the rejoining unit has to begin again. -/
def journalFullOp (s : State) : State :=
  if s.mode = .rejoin then (if s.rejoinState = 2 ∨ s.rejoinState = 3 then s.failAttempt else s)
  else match s.twn.journal with
    | some k => if k ≥ s.rd Reg.FJR_CFG_JOURNAL_MAX then { s with twn := { s.twn with journal := none, snapDue := false } } else s
    | none => s

/-- COMPARE: the rejoining unit compares its digest with PREPARE; after 20 clean epochs it sends READY. -/
def compareOp (s : State) : State :=
  if s.mode ≠ .rejoin ∨ s.rejoinState ≠ 4 ∨ !s.epo.opened ∨ !s.epo.digest then s
  else match s.verdict with
    | none => s
    | some (same, diff) =>
      let e := s.rd Reg.GLB_EPOCH
      let a := s.linkSend 0x24 (le 4 e ++ [bit (!same), diff, bit s.twn.lockstep, 0])
      if !same then (a.abandonEpoch.noteMismatch e diff (a.on Reg.FJR_PEER_LOCKSTEP)).failAttempt
      else
        let b := a.commitEpoch
        let n := min 20 (b.rd Reg.FJR_STATUS_CLEAN + 1)
        let c := b.wr Reg.FJR_STATUS_CLEAN n
        if n = 20 ∧ c.twn.readied = none then ({ c with twn := { c.twn with readied := some c.twn.txSeq } }).linkSend 0x25 [] else c

/-- READY at the active: the peer counts as standby from the next boundary. -/
def readyOp (s : State) : State :=
  if s.follows || !s.linkUp || s.shutsMirror then s else { s with twn := { s.twn with readyDue := true, journal := none, lates := 0 } }

/-! ## Commits and control (rule R481) -/

/-- TWIN_COMMIT. -/
def twinCommitOp (s : State) : State :=
  let t := s.sh Reg.FJR_CFG_LINK_TIMEOUT
  let j := s.sh Reg.FJR_CFG_JOURNAL_MAX
  let v := firstFail [(s.mode.fleet || s.follows, St.refusedMode), (decide (t < 100 ∨ t > 1000 ∨ j < 64 ∨ j > 1024), St.badFormat)]
  let u := s.commit Reg.FJR_COMMIT_RESULT [Reg.FJR_CFG_TWIN_EN, Reg.FJR_CFG_LINK_TIMEOUT, Reg.FJR_CFG_JOURNAL_MAX, Reg.FJR_TIME_ASYM] v
  if v = St.done then u.wr Reg.CLK_MODE_STATUS_TWIN_CONFIGURED (u.rd Reg.FJR_CFG_TWIN_EN) else u

/-- REJOIN_RETRY. -/
def rejoinRetryOp (s : State) : State :=
  if s.mode ≠ .rejoin then s.wr Reg.FJR_CTRL_RESULT St.refusedMode
  else if s.rejoinState = 1 ∧ s.twn.wait then ({ s with twn := { s.twn with wait := false } }).wr Reg.FJR_CTRL_RESULT St.done
  else if s.rejoinState = 5 then (s.wr Reg.FJR_STATUS_REJOIN_STATE 1).wr Reg.FJR_CTRL_RESULT St.done
  else s.wr Reg.FJR_CTRL_RESULT St.conflict

/-! ## Meanings -/

/-- Meaning of LINK_HELLO. -/
def execLinkHello (h : HelloMsg) (s : State) : Out := .next (s.whenMain (linkHelloOp h))
/-- Meaning of LIVE_SERVICE_MISSED. -/
def execLiveServiceMissed (s : State) : Out := .next (s.whenMain liveServiceMissedOp)
/-- Meaning of LIVE_IN_LOST. -/
def execLiveInLost (s : State) : Out := .next (s.whenMain liveInLostOp)
/-- Meaning of CLAIM_IN_DEASSERT. -/
def execClaimInDeassert (s : State) : Out := .next (s.whenMain claimInDeassertOp)
/-- Meaning of TAKEOVER_BLOCKED. -/
def execTakeoverBlocked (s : State) : Out := .next (s.whenMain takeoverBlockedOp)
/-- Meaning of CONTINUITY_BROKEN. -/
def execContinuityBroken (claim : Bool) (s : State) : Out := .next (s.whenMain (continuityBrokenOp claim))
/-- Meaning of TWIN_AMBIGUITY. -/
def execTwinAmbiguity (s : State) : Out := .next (s.whenMain twinAmbiguityOp)
/-- Meaning of LANE_LOSS. -/
def execLaneLoss (lane : Fin 2) (s : State) : Out := .next (s.whenMain (laneLossOp lane.val))
/-- Meaning of LINK_FRAME_RX. -/
def execLinkFrameRx (frame : List Byte) (s : State) : Out := .next (s.whenMain (linkFrameRxOp frame))
/-- Meaning of LINK_RETRANSMIT. -/
def execLinkRetransmit (s : State) : Out := .next (s.whenMain linkRetransmitOp)
/-- Meaning of LINK_IDLE_TX. -/
def execLinkIdleTx (s : State) : Out := .next (s.whenMain linkIdleTxOp)
/-- Meaning of LINK_DOWN. -/
def execLinkDown (s : State) : Out := .next (s.whenMain linkDownOp)
/-- Meaning of LONE_AFTER_TIMEOUT. -/
def execLoneAfterTimeout (s : State) : Out := .next (s.whenMain loneAfterTimeoutOp)
/-- Meaning of STATE_FRAME. -/
def execStateFrame (fleet : Fin 3) (own : List (Fin 256 × Fin 3)) (s : State) : Out := .next (s.whenMain (stateFrameOp fleet.val own))
/-- Meaning of RESTRICT_FRAME. -/
def execRestrictFrame (stop : Bool) (robot : Option (Fin 256)) (cause : Fin 32) (s : State) : Out :=
  .next (s.whenMain (restrictFrameOp stop (robot.map (·.val)) cause.val))
/-- Meaning of INPUT_FRAME. -/
def execInputFrame (entries : List InputEntry) (s : State) : Out := .next (s.whenMain (inputFrameOp entries))
/-- Meaning of FETCH. -/
def execFetch (r : ZypRef) (s : State) : Out := .next (s.whenMain (fetchOp r))
/-- Meaning of FILL. -/
def execFill (r : ZypRef) (frame : List Byte) (s : State) : Out := .next (s.whenMain (fillOp r frame))
/-- Meaning of PREPARE. -/
def execPrepare (p : PrepMsg) (s : State) : Out := .next (s.whenMain (prepareOp p))
/-- Meaning of ACK. -/
def execAck (a : AckMsg) (latencyUs : Word) (s : State) : Out := .next (s.whenMain (ackOp a latencyUs.toNat))
/-- Meaning of ACK_LATE. -/
def execAckLate (s : State) : Out := .next (s.whenMain ackLateOp)
/-- Meaning of COMMIT. -/
def execCommit (epoch : Word) (s : State) : Out := .next (s.whenMain (commitOp epoch.toNat))
/-- Meaning of ABANDON. -/
def execAbandon (epoch : Word) (reason : Fin 3) (s : State) : Out := .next (s.whenMain (abandonOp epoch.toNat reason.val))
/-- Meaning of BEACON_COPY. -/
def execBeaconCopy (seq epoch : Word) (body : List Byte) (s : State) : Out := .next (s.whenMain (beaconCopyOp seq.toNat epoch.toNat body))
/-- Meaning of DEMOTE. -/
def execDemote (s : State) : Out := .next (s.whenMain demoteOp)
/-- Meaning of TIME_REQ. -/
def execTimeReq (t1 : YTime) (s : State) : Out := .next (s.whenMain (timeReqOp t1))
/-- Meaning of TIME_RSP. -/
def execTimeRsp (t1 t2 t3 t4 : YTime) (s : State) : Out := .next (s.whenMain (timeRspOp t1 t2 t3 t4))
/-- Meaning of REJOIN_START. -/
def execRejoinStart (s : State) : Out := .next (s.whenMain rejoinStartOp)
/-- Meaning of SNAP_REQ. -/
def execSnapReq (s : State) : Out := .next (s.whenMain snapReqOp)
/-- Meaning of SNAP_DATA. -/
def execSnapData (part : SnapPart) (s : State) : Out := .next (s.whenMain (snapDataOp part))
/-- Meaning of SNAP_END. -/
def execSnapEnd (sections : Word) (intact : Bool) (s : State) : Out := .next (s.whenMain (snapEndOp sections.toNat intact))
/-- Meaning of JOURNAL. -/
def execJournal (entries : List InputEntry) (ops : List (Word × RobotOp)) (loops : List LoopSpec) (committed : Bool) (s : State) : Out :=
  .next (s.whenMain (journalOp entries (ops.map fun (x : Word × RobotOp) => (x.1.toNat, x.2)) loops committed))
/-- Meaning of JOURNAL_FULL. -/
def execJournalFull (s : State) : Out := .next (s.whenMain journalFullOp)
/-- Meaning of COMPARE. -/
def execCompare (s : State) : Out := .next (s.whenMain compareOp)
/-- Meaning of READY. -/
def execReady (s : State) : Out := .next (s.whenMain readyOp)
/-- Meaning of TWIN_COMMIT. -/
def execTwinCommit (s : State) : Out := .next (s.whenMain twinCommitOp)
/-- Meaning of REJOIN_RETRY. -/
def execRejoinRetry (s : State) : Out := .next (s.whenMain rejoinRetryOp)
/-- Meaning of CLAIM_IN_ASSERT. -/
def execClaimInAssert (s : State) : Out := .next (s.whenMain claimInAssertOp)
/-- Meaning of LIVE_IN_ASSERT. -/
def execLiveInAssert (s : State) : Out := .next (s.whenMain liveInAssertOp)
/-- Meaning of CONTINUITY_RESTORED. -/
def execContinuityRestored (claim : Bool) (s : State) : Out := .next (s.whenMain (continuityRestoredOp claim))

end Sys2Proof.Machine
end

