-- ==== Sys2Proof/Machine/Dormer.lean ====
section
/-! DEFINITION. The Dormer (chapter 16): sampling, filters, rules, events and commits. -/

namespace Sys2Proof.Machine

/-! ## Rules and channels (rules R374 to R378) -/

/-- Bits of word k of rule r in a rule aperture. -/
def ruleBits (m : AMap Nat) (r k lo w : Nat) : Nat := bits (AMap.get m (4 * r + k) 0) lo w

/-- Channel of rule r. -/
def ruleSrc (m : AMap Nat) (r : Nat) : Nat := ruleBits m r 0 8 4

/-- Whether rule r is BELOW. -/
def ruleBelow (m : AMap Nat) (r : Nat) : Bool := ruleBits m r 0 1 1 == 1

/-- ACTION of rule r: bit 0 WAKE, 1 TRAP, 2 TRAP_STOP, 3 MARK, 4 AUX_EN, 6:5 pin. -/
def ruleAction (m : AMap Nat) (r lo w : Nat) : Nat := ruleBits m r 1 (24 + lo) w

/-- The Dormer state of rule r. -/
def State.drmRule (s : State) (r : Nat) : DrmRule := AMap.get s.drm.st r ⟨false, 0, 0, ⟨0, 0⟩⟩

/-- The state with rule r's state set. -/
def State.setDrmRule (s : State) (r : Nat) (x : DrmRule) : State := { s with drm := { s.drm with st := AMap.set r x s.drm.st } }

/-- Channel n's filters. -/
def State.drmCh (s : State) (n : Nat) : DrmCh := AMap.get s.drm.ch n ⟨[], 0⟩

/-- Whether a channel is VALID: it has taken five samples since it was enabled. -/
def DrmCh.valid (c : DrmCh) : Bool := c.raw.length == 5

/-- The filtered value F. -/
def DrmCh.filt (c : DrmCh) : Nat := if c.valid then c.y / 16 else 0

/-- The middle of five samples. -/
def median5 (l : List Nat) : Nat := ((l.foldl (fun acc x => (acc.filter (· < x)) ++ [x] ++ acc.filter (x ≤ ·)) []).getD 2 0)

/-- A sample through the median and IIR filters (rule R374). -/
def DrmCh.sample (c : DrmCh) (shift raw : Nat) : DrmCh :=
  let l := (c.raw ++ [raw]).drop (c.raw.length - 4)
  if l.length < 5 then { c with raw := l }
  else
    let m := median5 l
    if c.valid then
      let y : Int := (c.y : Int) + ((16 * m : Int) - c.y) / (2 ^ shift : Nat)
      ⟨l, y.toNat⟩
    else ⟨l, 16 * m⟩

/-- The samples and flags of channel n as its registers show them. -/
def State.showCh (s : State) (n raw : Nat) : State :=
  let c := s.drmCh n
  let v := s.rd Reg.DRM_STATUS_VALID
  (((s.wr (Reg.DRM_VAL_RAW n) raw).wr (Reg.DRM_VAL_FILT n) c.filt).wr (Reg.DRM_VAL_VALID n) (bit c.valid)).wr Reg.DRM_STATUS_VALID
    (v - 2 ^ n * bits v n 1 + 2 ^ n * bit c.valid)

/-! ## Events (rules R382, R383) -/

/-- Whether event times are uncertain. -/
def State.drmUnknown (s : State) : Bool := !s.tim.calOk || s.on Reg.CLK_SRC_STATUS_XTAL32_FALLBACK

/-- An event is queued, or counted as lost when the queue is full. -/
def State.drmEvent (s : State) (r kind value : Nat) (t : CalTime) : State :=
  let d := s.drm
  if d.queue.length ≥ 128 then
    (({ s with drm := { d with lost := true } }).bump Reg.DRM_EVENT_LOST Reg.DRM_FAULT_CNT_SAT).fault Reg.DRM_FAULT_EVENT_LOST
  else
    let e : DrmEvent := ⟨r, kind, ruleSrc d.rules r, value, t, s.drmUnknown, d.lost⟩
    (({ s with drm := { d with queue := d.queue ++ [e], lost := false } }).wrapBy Reg.DRM_EVENTS 1).wr Reg.DRM_STATUS_QUEUED
      (d.queue.length + 1)

/-- The bytes of an event record. -/
def DrmEvent.bytes (e : DrmEvent) : List Nat :=
  [0x40, e.rule, e.kind, e.src] ++ le 2 e.value ++ [0, 0] ++ le 4 e.time.sec ++ le 2 e.time.tick.val ++ [bit e.unknown + 2 * bit e.lost, 0]

/-! ## Evaluation and actions (rules R377 to R380) -/

/-- Active rules with TRAP at a level. -/
def State.trapRules (s : State) (stop : Bool) : List Nat :=
  (List.range 64).filter fun r =>
    (s.drmRule r).active && ruleAction s.drm.rules r 1 1 == 1 && (ruleAction s.drm.rules r 2 1 == 1) == stop

/-- What the active rules hold: the STOP and HOLD sources and the ACTIVE bits. -/
def State.showActive (s : State) : State :=
  let act := (List.range 64).filter fun r => (s.drmRule r).active
  let lo := ((act.filter (· < 32)).map fun r => 2 ^ r).sum
  let hi := ((act.filter (32 ≤ ·)).map fun r => 2 ^ (r - 32)).sum
  let t := (({ s with trp := { s.trp with dormerHold := s.trapRules false, dormerStop := s.trapRules true } }).wr Reg.DRM_ACTIVE_LO lo).wr
    Reg.DRM_ACTIVE_HI hi
  if t.trp.dormerHold.isEmpty then t.wr Reg.TRP_HOLD_CAUSE_DORMER 0 else t

/-- TRAP of a rule that fires: raised in the main modes; a STOP in DORMER_WATCH sets the latch and its cause. -/
def State.dormerTrap (s : State) (r : Nat) : State :=
  let stop := ruleAction s.drm.rules r 2 1 == 1
  let t := s.faultWith Reg.DRM_FAULT_TRAP r
  let named := if stop && !t.on Reg.TRP_STOP_CAUSE_DORMER then t.wr Reg.TRP_STOP_CAUSE_RULE r else t
  if s.mode.main && s.pwr.mainPowered then named.raiseFleet stop (if stop then Reg.TRP_STOP_CAUSE_DORMER else Reg.TRP_HOLD_CAUSE_DORMER)
  else if stop then { named with trp := { named.trp with latch := true } }.wr Reg.TRP_STOP_CAUSE_DORMER 1
  else t

/-- A rule fires. Its WAKE action wakes from DORMER_WATCH, and is latched during a commanded power-down; the number kept is that of the
first rule latched (rule R65). -/
def State.fire (s : State) (r value : Nat) (t : CalTime) : State :=
  let a := (s.setDrmRule r ⟨true, 0, value, t⟩).bump (Reg.DRM_FIRE r) Reg.DRM_FAULT_CNT_SAT
  let b := a.drmEvent r 1 value t
  let c := if ruleAction b.drm.rules r 1 1 = 1 then b.dormerTrap r else b
  if ruleAction c.drm.rules r 0 1 = 1 ∧ c.on Reg.CLK_WAKE_CFG_DORMER_EN ∧ (c.mode = .dormerWatch ∨ c.pwr.pdown.isSome) then
    (if bits c.pwr.wakeLatched 3 1 = 1 then c else c.wr Reg.CLK_WAKE_CAUSE_RULE_ID r).wakeUp 3
  else c

/-- A rule clears, with its MARK. -/
def State.clearRule (s : State) (r value : Nat) (t : CalTime) : State :=
  let x := s.drmRule r
  let a := (s.setDrmRule r ⟨false, 0, 0, ⟨0, 0⟩⟩).drmEvent r 2 value t
  if ruleAction a.drm.rules r 3 1 = 1 then a.drmEvent r 3 x.ext x.extAt else a

/-- The evaluation of rule r (rule R378); `high` says that its REF output is driven high. -/
def State.evalRule (s : State) (high : Bool) (t : CalTime) (r : Nat) : State :=
  let m := s.drm.rules
  let f := (s.drmCh (ruleSrc m r)).filt
  let v := if ruleBits m r 0 2 2 != 0 && high then 4095 - f else f
  let on := ruleBits m r 0 16 12
  let off := ruleBits m r 1 0 12
  let x := s.drmRule r
  if x.active then
    if (if ruleBelow m r then v > off else v < off) then s.clearRule r v t
    else if (if ruleBelow m r then v < x.ext else v > x.ext) then s.setDrmRule r { x with ext := v, extAt := t }
    else s
  else if (if ruleBelow m r then v ≤ on else v ≥ on) then
    if x.count + 1 ≥ ruleBits m r 1 16 8 then s.fire r v t else s.setDrmRule r { x with count := x.count + 1 }
  else s.setDrmRule r { x with count := 0 }

/-- Rules in ascending order. -/
def State.evalAll (s : State) (high : Bool) (t : CalTime) : List Nat → State
  | [] => s
  | r :: rest => State.evalAll (s.evalRule high t r) high t rest

/-! ## Commits (rules R375, R381, R385, R386) -/

/-- Members of group CHAN. -/
def drmChanGroup : List Fld :=
  (List.range 16).flatMap fun n => [Reg.DRM_CH_CFG_EN n, Reg.DRM_CH_CFG_P n, Reg.DRM_CH_CFG_SHIFT n]

/-- CHAN takes effect: channels enabled or disabled lose their samples. -/
def State.applyChan (s : State) : State :=
  match s.drm.chanNext with
  | none => s
  | some vs =>
    let en := fun (a : State) => (List.range 16).map fun n => a.on (Reg.DRM_CH_CFG_EN n)
    let t := { s with drm := { s.drm with chanNext := none } }.wrEach (drmChanGroup.zip vs)
    let turned := (List.range 16).filter fun n => s.on (Reg.DRM_CH_CFG_EN n) != t.on (Reg.DRM_CH_CFG_EN n)
    let u := turned.foldl (fun (a : State) n => ({ a with drm := { a.drm with ch := AMap.del n a.drm.ch } }).showCh n 0) (t.storeFields drmChanGroup)
    u.wr Reg.DRM_STATUS_RUNNING (bit ((en u).any id))

/-- A changed rule restarts; one that was active clears with a RESET event and no MARK. -/
def State.resetRule (s : State) (t : CalTime) (r : Nat) : State :=
  let u := s.setDrmRule r ⟨false, 0, 0, ⟨0, 0⟩⟩
  if (s.drmRule r).active then u.drmEvent r 4 (s.drmCh (ruleSrc s.drm.rules r)).filt t else u

/-- RULES takes effect. -/
def State.applyRules (s : State) (t : CalTime) : State :=
  match s.drm.rulesNext with
  | none => s
  | some (rules, idle) =>
    let changed := (List.range 64).filter fun r => (List.range 4).any fun k =>
      AMap.get s.drm.rules (4 * r + k) 0 != AMap.get rules (4 * r + k) 0
    let u := changed.foldl (fun (a : State) r => a.resetRule t r) s
    let v := ({ u with drm := { u.drm with rules := rules, committed := true, rulesNext := none } }).wr Reg.DRM_AUX_CFG_IDLE idle
    ((v.storeWith fun (a : SettingsArea) => { a with rules := rules }).storeFields [Reg.DRM_AUX_CFG_IDLE]).showActive

/-- Whether rule r of an aperture breaks rule R386. -/
def ruleBad (m : AMap Nat) (r : Nat) : Bool :=
  let on := ruleBits m r 0 16 12
  let off := ruleBits m r 1 0 12
  let rsv := ruleBits m r 0 4 4 != 0 || ruleBits m r 0 12 4 != 0 || ruleBits m r 0 28 4 != 0 || ruleBits m r 1 12 4 != 0
    || ruleAction m r 7 1 != 0 || AMap.get m (4 * r + 2) 0 != 0 || AMap.get m (4 * r + 3) 0 != 0
  let ref := ruleBits m r 0 2 2
  rsv || ruleBits m r 0 0 1 == 1 &&
    (ref == 3 || (ref != 0 && decide (ruleSrc m r < 8)) || ruleBits m r 1 16 8 == 0
      || (if ruleBelow m r then decide (off < on) else decide (off > on)) || (ruleAction m r 2 1 == 1 && ruleAction m r 1 1 == 0))

/-- CHAN_COMMIT: DONE, effective at the next tick. -/
def chanCommitOp (s : State) : State :=
  if (List.range 16).any fun n => decide (s.sh (Reg.DRM_CH_CFG_P n) > 10) then s.wr Reg.DRM_CHAN_COMMIT_RESULT St.badFormat
  else
    { s with drm := { s.drm with chanNext := some (drmChanGroup.map s.sh) } }.wr Reg.DRM_CHAN_COMMIT_RESULT St.done

/-- DORMER_RULES_COMMIT: DONE, effective at the next tick. -/
def dormerRulesCommitOp (s : State) : State :=
  if (List.range 64).any (ruleBad s.drm.rulesSh) then s.wr Reg.DRM_RULES_COMMIT_RESULT St.badFormat
  else
    { s with drm := { s.drm with rulesNext := some (s.drm.rulesSh, s.sh Reg.DRM_AUX_CFG_IDLE) } }.wr Reg.DRM_RULES_COMMIT_RESULT St.done

/-! ## The burst (rule R373) -/

/-- The level of AUX_OUT k (rule R372). -/
def State.auxOut (s : State) (k : Nat) : Bool :=
  s.drm.committed && ((bits (s.rd Reg.DRM_AUX_CFG_IDLE) k 1 == 1) !=
    ((List.range 64).any fun r => (s.drmRule r).active && ruleAction s.drm.rules r 4 1 == 1 && ruleAction s.drm.rules r 5 2 == k))

/-- Channel n takes its sample; a WATCH input enters as 4,095 or 0 (rule R371). -/
def State.sampleCh (s : State) (raw : List (BitVec 12)) (n : Nat) : State :=
  let v := (raw.getD n 0).toNat
  let x := if n < 8 then v else if v = 0 then 0 else 4095
  let c := (s.drmCh n).sample (s.rd (Reg.DRM_CH_CFG_SHIFT n)) x
  ({ s with drm := { s.drm with ch := AMap.set n c s.drm.ch } }).showCh n x

/-- Whether channel n is due at a tick. -/
def State.chDue (s : State) (tick n : Nat) : Bool := s.on (Reg.DRM_CH_CFG_EN n) && tick % 2 ^ s.rd (Reg.DRM_CH_CFG_P n) == 0

/-- Whether the Dormer runs (rule R384). -/
def State.aonOn (s : State) : Bool := s.mode != .cellar && s.pwr.railEnAon

/-- DORMER_BURST, so many ticks after the last, with the calendar counter's reading, which never falls behind the counter, and the code
of each input. -/
def dormerBurstOp (ticks : Nat) (reading : CalTime) (raw : List (BitVec 12)) (s : State) : State :=
  if !s.aonOn then s
  else
    let tick := s.drm.tick + max 1 ticks
    let time : CalTime := { reading with sec := max reading.sec s.tim.cal }
    let s0 := { s with drm := { s.drm with tick := tick } }.vbatSeconds (time.sec - s.tim.cal)
    let s1 := (s0.applyChan).applyRules time
    let s2 := if s1.on Reg.CLK_SRC_STATUS_XTAL32_FALLBACK && !s1.on Reg.DRM_FAULT_SLOW_CLOCK then s1.fault Reg.DRM_FAULT_SLOW_CLOCK else s1
    let s3 := s2.wr Reg.DRM_STATUS_ON_LPRC32 (s2.rd Reg.CLK_SRC_STATUS_XTAL32_FALLBACK)
    let due := (List.range 16).filter (s3.chDue tick)
    let high := s3.stopOut
    let s4 := due.foldl (fun (a : State) n => a.sampleCh raw n) s3
    let rules := (List.range 64).filter fun r =>
      ruleBits s4.drm.rules r 0 0 1 == 1 && due.contains (ruleSrc s4.drm.rules r) && (s4.drmCh (ruleSrc s4.drm.rules r)).valid
    (s4.evalAll high time rules).showActive

/-- DORMER_EVENT_DRAIN: the oldest event leaves when both chutes take it. -/
def dormerEventDrainOp (s : State) : State :=
  match s.drm.queue with
  | [] => s
  | e :: rest =>
    let w := toWords e.bytes
    if s.fits 46 w && s.fits 47 w then
      ({ ((s.putPacket 46 0 none w).putPacket 47 0 none w) with drm := { s.drm with queue := rest } }).wr Reg.DRM_STATUS_QUEUED rest.length
    else s

/-- The fields of the Dormer's registers at BAR0 offsets of its window. -/
def drmOwn (k : Nat) : Bool := let o := k / 64 % 4294967296; decide (0xD0000 ≤ o ∧ o < 0xE0000)

/-- AON_POWER_ON (rule R384): registers, queue and pins of the Dormer, and the last-word area of the Tally. -/
def aonPowerOnOp (s : State) : State :=
  { s with drm := Drm.reset, fld := s.fld.filter (fun (p : Nat × Nat) => !drmOwn p.1), shd := s.shd.filter (fun (p : Nat × Nat) => !drmOwn p.1),
           cmt := s.cmt.filter (fun k => !drmOwn k), tly := { s.tly with last := LastWord.reset },
           trp := { s.trp with dormerHold := [], dormerStop := [], dormant := false }, pwr := { s.pwr with aonFresh := true } }

/-! ## Meanings -/

/-- Meaning of AON_POWER_ON. -/
def execAonPowerOn (s : State) : Out := .next (aonPowerOnOp s)
/-- Meaning of DORMER_BURST. -/
def execDormerBurst (ticks : Nat) (time : CalTime) (raw : List (BitVec 12)) (s : State) : Out := .next (dormerBurstOp ticks time raw s)
/-- Meaning of DORMER_EVENT_DRAIN. -/
def execDormerEventDrain (s : State) : Out := .next (s.whenMain dormerEventDrainOp)
/-- Meaning of CHAN_COMMIT. -/
def execChanCommit (s : State) : Out := .next (s.whenMain chanCommitOp)
/-- Meaning of DORMER_RULES_COMMIT. -/
def execDormerRulesCommit (s : State) : Out := .next (s.whenMain dormerRulesCommitOp)

end Sys2Proof.Machine
end

