-- ==== Sys2Proof/Machine/Tally.lean ====
section
/-! DEFINITION. The Tally Recorder (chapter 22): the live image, its events and marks, flushes, restore, memory failures,
snapshots and clears. -/

namespace Sys2Proof.Machine

/-! ## The live image (rules R524 to R532) -/

/-- The calendar stamp of now (rule R531). -/
def State.calStamp (s : State) : CalStamp :=
  if s.tim.calOk && bits (s.rd Reg.TIM_UTC) 16 1 == 1 then
    ⟨(((s.tim.cal : Int) - signed 16 s.tim.calUtc) % 281474976710656).toNat, false⟩
  else ⟨s.rd Reg.TLY_MONO, true⟩

/-- The image changed (rule R530). -/
def State.tlyStep (s : State) : State := s.wrapBy Reg.TLY_SEQ 1

/-- The state with the image's recorded content replaced. -/
def State.setBody (s : State) (b : TlyBody) : State := { s with tly := { s.tly with body := b } }

/-- n is added to lost counter k (rule R529); adding nothing is no change. -/
def State.lose (s : State) (k n : Nat) : State :=
  if n = 0 then s
  else ((s.bumpBy (Reg.TLY_LOST k) Reg.TLY_FAULT_CNT_SAT n).tlyStep).fault Reg.TLY_FAULT_LOST

/-- A mark with 40 bytes of DATA, and its host event (rule R532). -/
def State.addMark (s : State) (kind : Nat) (data : List Nat) : State :=
  let b := s.tly.body
  let m : TlyMark := ⟨kind, b.markSeq, s.calStamp, s.rd Reg.GLB_EPOCH, (data ++ List.replicate 40 0).take 40⟩
  let full := b.marks.length ≥ 128
  let t := (s.setBody { b with marks := (if full then b.marks.drop 1 else b.marks) ++ [m], markSeq := (b.markSeq + 1) % 4294967296 }).tlyStep
  (if full then t.lose 7 1 else t).event 0x15 0x0100 kind

/-- Word k of the definition of histogram h. -/
def State.hdef (s : State) (h k : Nat) : Nat := AMap.get s.tly.hdef (4 * h + k) 0

/-- The bin of a value v under MODE, LO and WIDTH (rule R525). -/
def binOf (mode : Nat) (lo v : Int) (width : Nat) : Nat :=
  if mode = 1 then min 31 (max 0 ((v - lo) / (max width 1 : Nat))).toNat
  else
    let d := v - lo
    if d < 1 then 0 else min 31 (Nat.log2 d.toNat + 1)

/-- COUNT is added to bin b of histogram h; the excess goes to the overflow count. -/
def State.addBin (s : State) (h b count : Nat) : State :=
  let x := s.tly.body
  let v := AMap.get x.hist (32 * h + b) 0 + count
  if v = 0 then s
  else if v ≤ 4294967295 then s.setBody { x with hist := AMap.set (32 * h + b) v x.hist }
  else
    let o := AMap.get x.ovr h 0
    let n := min (o + (v - 4294967295)) 4294967295
    let t := s.setBody { x with hist := AMap.set (32 * h + b) 4294967295 x.hist, ovr := AMap.set h n x.ovr }
    if o < 4294967295 ∧ n = 4294967295 then t.fault Reg.TLY_FAULT_CNT_SAT else t

/-- A value is offered to extreme register x under MODE (rule R526). -/
def State.offerExt (s : State) (x mode : Nat) (v : Int) (stamp : CalStamp) : State :=
  let b := s.tly.body
  let e := match AMap.find x b.ext with
    | none => ⟨mode, v, stamp, 1⟩
    | some e =>
      let better := if mode = 1 then v > e.value else v < e.value
      { (if better then { e with value := v, stamp := stamp } else e) with mode := mode, offers := min (e.offers + 1) 4294967295 }
  s.setBody { b with ext := AMap.set x e b.ext }

/-- An event is applied to the live image (rules R528, R529); kind 5 is a Dormer record, with its KIND as value and its VALUE as count, whose
MARK is filed under the rule committed now (rule R526). -/
def State.tallyApply (s : State) (e : TlyEvent) : State :=
  let s := { s with tly := { s.tly with applied := s.tly.applied + 1 } }
  if e.bad then s.lose 2 1
  else match e.kind with
    | 1 =>
      let m := bits (s.hdef e.index 0) 0 8
      if e.index ≥ 512 ∨ m = 0 then s.lose 1 1
      else (s.addBin e.index (binOf m (signed 32 (s.hdef e.index 1)) (signed 32 e.value) (s.hdef e.index 2)) e.count).tlyStep
    | 2 =>
      let m := bits (AMap.get s.tly.xdef (2 * e.index) 0) 0 8
      if e.index < 64 ∨ e.index ≥ 256 ∨ m = 0 then s.lose 1 1 else (s.offerExt e.index m (signed 32 e.value) e.stamp).tlyStep
    | 3 => s.addMark 6 ([bits e.value 0 8, 0] ++ le 2 e.index)
    | 4 => s.addMark (e.index % 256) e.data
    | _ =>
      let t := s.addBin 252 (binOf 1 0 e.value 1) 1
      (if e.value = 3 then t.offerExt e.index (1 + bits (AMap.get s.drm.rules (4 * e.index) 0) 1 1) e.count e.stamp else t).tlyStep

/-- Applies events in order. -/
def State.tallyApplyAll (s : State) : List TlyEvent → State
  | [] => s
  | e :: t => State.tallyApplyAll (s.tallyApply e) t

/-- An event arrives: into the shadow while the image is frozen (rule R536). -/
def State.arrive (s : State) (e : TlyEvent) : State :=
  let y := s.tly
  if y.flush.isNone then s.tallyApply e
  else if y.shadow.length < 4096 then
    { s with tly := { y with shadow := y.shadow ++ [e] } }.wr Reg.TLY_STATUS_SHADOW (y.shadow.length + 1)
  else { s with tly := { y with excess := y.excess + 1 } }

/-- Whether events are taken (rules R537, R538). -/
def State.tlyOpen (s : State) : Bool := !s.tly.stopped && s.on Reg.TLY_STATUS_RESTORED

/-- One more event received. -/
def State.received (s : State) : State :=
  { s with tly := { s.tly with received := s.tly.received + 1, since := s.tly.since + 1 } }

/-- An event record of a KIND from chute 48. -/
def tallyRecordOp (kind : Nat) (r : TallyRec) (s : State) : State :=
  if !s.tlyOpen then s
  else
    let data := r.data.map BitVec.toNat
    let w := toWords ([0x70, kind] ++ le 2 r.index.toNat ++ le 4 r.value.toNat ++ le 4 r.count.toNat ++ [r.dlen.toNat, 0, 0, 0] ++ data)
    ((s.consume 48 w).received).arrive
      ⟨kind, r.index.toNat, r.value.toNat, r.count.toNat, data.take r.dlen.toNat, r.bad || decide (r.dlen.toNat > 40), s.calStamp⟩

/-- TALLY_DORMER_RECORD: counted in histogram 252; a MARK is filed in its rule's extreme. One event (rule R529). -/
def tallyDormerRecordOp (e : DormerRec) (s : State) : State :=
  if !s.tlyOpen then s
  else
    let w := toWords ([0x40, e.rule.val, e.kind.toNat, e.src.toNat] ++ le 2 e.value.toNat ++ [0, 0] ++ le 4 e.seconds.toNat ++ le 2 e.ticks.toNat
      ++ [e.flags.toNat, 0])
    ((s.consume 46 w).received).arrive
      ⟨5, e.rule.val, e.kind.toNat, e.value.toNat, [], false, ⟨e.seconds.toNat, bits e.flags.toNat 0 1 == 1⟩⟩

/-! ## Flushes (rules R533 to R537) -/

/-- Bit 31 to 0 numbers of a channel's state as HST_CH_STATUS codes it. -/
def ChanState.tag : ChanState → Nat
  | .idle => 0 | .running => 1 | .waiting => 2 | .done => 3 | .halted => 4 | .stopping => 5

/-- The power record of now. -/
def State.powerRec (s : State) (cause : Nat) : PowerRec :=
  { cause := cause, stage := if s.pwr.pfailLatched then s.rd Reg.CLK_LAST_MODE_PFAIL_STAGE else 0, epoch := s.rd Reg.GLB_EPOCH
    unread := (List.range 96).map fun n => (s.chute n).unread
    hoist := (List.range 32).map fun n => ((s.chan n).st.tag, (s.chan n).status, (s.chan n).bytes)
    held := (List.range 64).map fun f => s.flowHeld f
    drmLost := s.rd Reg.DRM_EVENT_LOST, queued := s.drm.queue.length
    fire := (List.range 64).map fun r => s.rd (Reg.DRM_FIRE r) }

/-- The live image as a flush writes it. -/
def State.imageNow (s : State) (cause : Nat) : TlyBank :=
  { body := s.tly.body, lost := (List.range 16).map fun k => s.rd (Reg.TLY_LOST k), cause := cause
    degraded := s.on Reg.TLY_STATUS_DEGRADED, uncertain := s.on Reg.TLY_STATUS_UNCERTAIN, seq := s.rd Reg.TLY_SEQ
    flushSeq := (s.rd Reg.TLY_FLUSH_SEQ + 1) % 4294967296, stamp := s.calStamp, power := s.powerRec cause, good := false }

/-- The bank that does not hold the latest intact flush: bank 1 when the last committed flush is in bank 0. -/
def State.nextBank (s : State) : Bool :=
  match s.tly.bank0, s.tly.bank1 with
  | some a, some b => if a.good && b.good then !s.on Reg.TLY_STATUS_BANK else a.good
  | some a, none => a.good
  | none, _ => false

/-- A flush bank is set. -/
def State.setBank (s : State) (b : Bool) (x : Option TlyBank) : State :=
  { s with tly := if b then { s.tly with bank1 := x } else { s.tly with bank0 := x } }

/-- FLUSH_START: the image freezes; at PFAIL and POWER_DOWN the unread packets, a part-read one among them (log entry
64), and held entries are counted first. From then on the bank written to is not intact. -/
def flushStartOp (s : State) : State :=
  match s.tly.want, s.tly.flush with
  | some q, none =>
    let power := q.cause = 1 ∨ q.cause = 2
    let unread := ((List.range 96).map fun n => (s.chute n).unread).sum
    let t := if power then (s.lose 6 unread).lose 8 s.dsp.win.length else s
    let b := t.nextBank
    let old := if b then t.tly.bank1 else t.tly.bank0
    let u := t.setBank b (old.map fun (x : TlyBank) => { x with good := false })
    ({ u with tly := { u.tly with want := none, flush := some ⟨q, b, u.imageNow q.cause, false⟩, since := 0 } }).wr Reg.TLY_STATUS_FLUSHING 1
  | _, _ => s

/-- FLUSH_COMMIT_POINT: header and CHECK are in the bank. -/
def flushCommitPointOp (s : State) : State :=
  match s.tly.flush with
  | none => s
  | some f =>
    if f.committed then s
    else
      let t := s.setBank f.bankB (some { f.image with good := true })
      let u : State := { t with tly := { t.tly with flush := some { f with committed := true }, received := t.tly.since,
                                                    powerDone := t.tly.powerDone || (f.req.cause == 2 && t.pwr.pdown.isSome) } }
      let v := ((((u.wr Reg.TLY_FLUSH_SEQ f.image.flushSeq).wrapBy Reg.TLY_FLUSHES 1).wr Reg.TLY_STATUS_BANK (bit f.bankB)).wr
        Reg.TLY_LAST_FLUSH_CAUSE f.req.cause).wr Reg.TLY_LAST_FLUSH_STATUS St.done
      let w := v.finishAll St.done f.req.cmds
      if f.req.ctrl && !f.req.retest then w.tlyResult St.done else w

/-- A failure of the recorder's memory (rule R539). -/
def State.memFailure (s : State) (addr kind : Nat) : State :=
  let l := s.tly.last
  let t : State := { s with tly := { s.tly with last := { l with valid := true, memFail := true, degraded := true, stamp := s.calStamp,
                                                                 failAddr := addr, failKind := kind } } }
  (t.wr Reg.TLY_STATUS_DEGRADED 1).fault Reg.TLY_FAULT_MEM_FAIL

/-- The shadow is applied in arrival order, its excess counted (rule R536). -/
def State.unfreeze (s : State) : State :=
  let es := s.tly.shadow
  let x := s.tly.excess
  let t := (({ s with tly := { s.tly with shadow := [], excess := 0, flush := none } }.wr Reg.TLY_STATUS_SHADOW 0).wr
    Reg.TLY_STATUS_FLUSHING 0).tallyApplyAll es
  if x = 0 then t else (t.lose 0 x).fault Reg.TLY_FAULT_SHADOW_FULL

/-- Sum of the bins. -/
def TlyBody.total (b : TlyBody) : Nat := (b.hist.map (·.2)).sum

/-- A clear takes effect, with its mark and its flush (rule R542). -/
def State.applyClearTally (s : State) (scope : Nat) : State :=
  let b := s.tly.body
  let before := [scope, 0, 0, 0] ++ le 4 (s.rd Reg.TLY_SEQ) ++ le 8 b.total
  let b1 := if bits scope 0 1 = 1 then { b with hist := [], ovr := [] } else b
  let b2 := if bits scope 1 1 = 1 then { b1 with ext := [] } else b1
  let b3 := if bits scope 3 1 = 1 then { b2 with marks := [] } else b2
  let t := (s.setBody b3).tlyStep
  let u := if bits scope 2 1 = 1 then (List.range 16).foldl (fun (a : State) k => a.wr (Reg.TLY_LOST k) 0) t else t
  let v := if bits scope 0 1 = 1 then u.wr Reg.TLY_STATUS_UNCERTAIN 0 else u
  (v.addMark 4 before).flushFor 7

/-- The clears that waited. -/
def State.applyClears (s : State) : List (Cmd × Nat) → State
  | [] => s
  | (c, k) :: t => State.applyClears ((s.applyClearTally k).finish c St.done 128 0) t

/-- FLUSH_COMPLETE: read back; `fail` is the offset of a word that differs. -/
def flushCompleteOp (fail : Option Word) (duration : Nat) (s : State) : State :=
  match s.tly.flush with
  | none => s
  | some f =>
    if !f.committed then s
    else
      let s1 := s.wr Reg.TLY_LAST_FLUSH_DURATION duration
      let t := match fail with
        | some a =>
          let bank := if f.bankB then s1.tly.bank1 else s1.tly.bank0
          let u := ((s1.setBank f.bankB (bank.map fun (x : TlyBank) => { x with good := false })).memFailure a.toNat 1).wr
            Reg.TLY_LAST_FLUSH_STATUS St.eccUncorrected
          if f.req.ctrl then u.tlyResult St.eccUncorrected else u
        | none =>
          let u : State := { s1 with tly := { s1.tly with applied := 0 } }
          if f.req.retest then
            let l := u.tly.last
            (({ u with tly := { u.tly with last := { l with degraded := false } } }).wr Reg.TLY_STATUS_DEGRADED 0).tlyResult St.done
          else u
      let v := t.unfreeze
      let w := if v.pwr.pfailLatched ∧ (f.req.cause = 1 ∨ f.req.cause = 2) ∧ v.rd Reg.CLK_LAST_MODE_PFAIL_STAGE = 3 then
          v.wr Reg.CLK_LAST_MODE_PFAIL_STAGE 4 else v
      let cs := w.tly.clears
      ({ w with tly := { w.tly with clears := [] } }).applyClears cs

/-- PERIODIC_FLUSH. -/
def periodicFlushOp (s : State) : State := if s.rd Reg.TLY_CFG_FLUSH_PERIOD = 0 then s else s.flushFor 5

/-- FLUSH: opcode 0x03, or FLUSH in TLY_CTRL. -/
def flushOp (c : Option Cmd) (s : State) : State :=
  match c with
  | none => (s.tlyResult St.pending).flushTrigger ⟨6, [], true, false⟩
  | some d =>
    s.hostCmd d .command fun t =>
      if d.desc.length ≠ 0 then t.finish d St.badLength 0 0 else t.flushTrigger ⟨6, [d], false, false⟩

/-- RETEST in TLY_CTRL. -/
def retestOp (s : State) : State :=
  if s.on Reg.TLY_STATUS_DEGRADED then (s.tlyResult St.pending).flushTrigger ⟨6, [], true, true⟩ else s.tlyResult St.conflict

/-- TALLY_LAST_WORD (rules R537, R539): in PFAIL handling, or after the outputs of a power-down stopped. -/
def tallyLastWordOp (s : State) : State :=
  let due := s.outputsStopped
  if !due || s.tly.stopped then s
  else
    let l := s.tly.last
    let n := s.tly.received + (s.chute 46).pkts.length + (s.chute 48).pkts.length
    let ram := if s.on Reg.TLY_STATUS_DEGRADED then s.tly.applied else l.ramOnly
    { s with tly := { s.tly with stopped := true, last := { l with valid := true, powerLost := n % 4294967296, ramOnly := ram % 4294967296 } } }

/-! ## Restore and errors (rules R538 to R540) -/

/-- The 32 bytes of the last-word area that a MEM_FAIL mark carries. -/
def LastWord.bytes (l : LastWord) : List Nat :=
  [bit l.valid, bit l.memFail + 2 * bit l.degraded, 0, 0] ++ le 4 l.powerLost ++ le 4 l.ramOnly ++ le 4 l.suppressed
    ++ le 6 l.stamp.value ++ [bit l.stamp.unknown, 0] ++ le 4 l.failAddr ++ [l.failKind, 0, 0, 0]

/-- The firmware definitions (rule R527): words of histograms 0 to 12 and 252, and of extremes 64 to 67. -/
def firmwareHdef : AMap Nat :=
  ((List.range 9).map fun h => (4 * h, 2)) ++ [(36, 1), (38, 1000), (40, 1), (42, 1), (44, 2), (48, 1), (49, 4294967256), (50, 5), (1008, 1),
    (1010, 1)]

/-- As `firmwareHdef`, for the extremes. -/
def firmwareXdef : AMap Nat := [(128, 1), (130, 2), (132, 1), (134, 1)]

/-- Whether a bank verifies. -/
def bankGood (b : Option TlyBank) : Bool := match b with | some x => x.good | none => false

/-- TALLY_RESTORE; `ecc` is an uncorrectable error in bank 0 or 1 at an offset. -/
def tallyRestoreOp (ecc : Option (Bool × Word)) (s : State) : State :=
  if s.on Reg.TLY_STATUS_RESTORED then s
  else
    let hit (b : Bool) : Bool := match ecc with | some (x, _) => x == b | none => false
    let spoil (x : Option TlyBank) : Option TlyBank := x.map fun (y : TlyBank) => { y with good := false }
    let b0 := if hit false then spoil s.tly.bank0 else s.tly.bank0
    let b1 := if hit true then spoil s.tly.bank1 else s.tly.bank1
    let y := { s.tly with hdef := firmwareHdef, hdefSh := firmwareHdef, xdef := firmwareXdef, xdefSh := firmwareXdef, bank0 := b0, bank1 := b1 }
    let s1 : State := { s with tly := y }
    let s2 := match ecc with | some (_, a) => s1.memFailure a.toNat 2 | none => s1
    let g0 := bankGood s2.tly.bank0
    let g1 := bankGood s2.tly.bank1
    let q0 := ((s2.tly.bank0).map (·.flushSeq)).getD 0
    let q1 := ((s2.tly.bank1).map (·.flushSeq)).getD 0
    let pick := if g0 && g1 then (if later q1 q0 then (s2.tly.bank1, true) else (s2.tly.bank0, false))
      else if g0 then (s2.tly.bank0, false) else if g1 then (s2.tly.bank1, true) else (none, false)
    let s3 := if g0 && g1 then s2 else s2.fault Reg.TLY_FAULT_TORN
    let s4 := match pick.1 with
      | none => s3.wr Reg.TLY_STATUS_UNCERTAIN 1
      | some b =>
        let a := ((((s3.setBody b.body).wr Reg.TLY_SEQ b.seq).wr Reg.TLY_FLUSH_SEQ b.flushSeq).wr Reg.TLY_STATUS_BANK (bit pick.2)).wr
          Reg.TLY_STATUS_UNCERTAIN (bit b.uncertain)
        (List.range 16).foldl (fun (x : State) k => x.wr (Reg.TLY_LOST k) (b.lost.getD k 0)) a
    let l := s4.tly.last
    let s5 := (s4.lose 3 l.powerLost).lose 4 l.ramOnly
    let s6 := if l.memFail then s5.addMark 5 l.bytes else s5
    let s7 := { s6 with tly := { s6.tly with last := { LastWord.reset with memFail := l.memFail, degraded := l.degraded } } }.wr
      Reg.TLY_STATUS_DEGRADED (bit l.degraded)
    let s8 := s7.addMark 8 ([bit (!g0) + 2 * bit (!g1), 0, 0, 0] ++ le 4 ((pick.1.map (·.flushSeq)).getD 0))
    let s9 := if s8.on Reg.CLK_LAST_MODE_FLUSH_INCOMPLETE then s8.wr Reg.TLY_STATUS_UNCERTAIN 1 else s8
    { s9 with tly := { s9.tly with received := 0, since := 0, applied := 0 } }.wr Reg.TLY_STATUS_RESTORED 1

/-- The latest intact bank. -/
def State.latestBank (s : State) : Option TlyBank :=
  let b := if s.on Reg.TLY_STATUS_BANK then s.tly.bank1 else s.tly.bank0
  if bankGood b then b else none

/-- A DAMAGED mark with its counts. -/
def State.damaged (s : State) (i kind : Nat) : State := ((s.addMark 7 (le 2 i ++ [kind])).lose 5 1).fault Reg.TLY_FAULT_ECC

/-- TALLY_LIVE_ECC (rule R540). -/
def tallyLiveEccOp (part : TallyPart) (s : State) : State :=
  let b := s.tly.body
  match part with
  | .hist h =>
    (s.setBody { b with hist := b.hist.filter (fun (p : Nat × Nat) => p.1 / 32 != h.val), ovr := AMap.del h.val b.ovr }).damaged h.val 0
  | .ext x => (s.setBody { b with ext := AMap.del x.val b.ext }).damaged x.val 1
  | .header =>
    match s.latestBank with
    | some k => ((s.setBody { b with markSeq := k.body.markSeq }).wr Reg.TLY_SEQ k.seq).wr Reg.TLY_STATUS_UNCERTAIN 1
    | none => (s.setBody { b with markSeq := 0 }).wr Reg.TLY_STATUS_UNCERTAIN 1
  | .lost =>
    let l := match s.latestBank with | some k => k.lost | none => []
    ((List.range 16).foldl (fun (x : State) k => x.wr (Reg.TLY_LOST k) (l.getD k 0)) s).wr Reg.TLY_STATUS_UNCERTAIN 1
  | .marks =>
    let m := match s.latestBank with | some k => k.body.marks | none => []
    (s.setBody { b with marks := m }).wr Reg.TLY_STATUS_UNCERTAIN 1

/-! ## Host commands (rules R541, R542, R544) -/

/-- A calendar stamp as 8 bytes (rule R531). -/
def CalStamp.bytes (c : CalStamp) : List Nat := le 6 c.value ++ [bit c.unknown, 0]

/-- An extreme register as 32 bytes (rule R526). -/
def Extreme.bytes : Option Extreme → List Nat
  | none => List.replicate 32 0
  | some e => [1, e.mode, 0, 0] ++ le 4 (e.value % 4294967296).toNat ++ e.stamp.bytes ++ le 4 e.offers ++ List.replicate 12 0

/-- A mark as 64 bytes (rule R532). -/
def TlyMark.bytes (m : TlyMark) : List Nat :=
  [0x74, m.kind, 0, 0] ++ le 4 m.seq ++ m.stamp.bytes ++ le 4 m.epoch ++ [0, 0, 0, 0] ++ m.data

/-- The mark log as 128 marks (rule R532): the mark of MARK_SEQ n stands at place n modulo 128 (log entry 49), an empty place is zero. -/
def TlyBody.markLog (b : TlyBody) : List Nat :=
  (List.range 128).flatMap fun k =>
    match b.marks.find? fun (m : TlyMark) => m.seq % 128 == k with
    | some m => m.bytes
    | none => List.replicate 64 0

/-- The power record as 2,048 bytes (rule R533). -/
def PowerRec.bytes (p : PowerRec) : List Nat :=
  [p.cause, p.stage, 0, 0] ++ le 4 p.epoch ++ p.unread.flatMap (le 2) ++ p.hoist.flatMap (fun (x : Nat × Nat × Nat) => [x.1, x.2.1, 0, 0] ++ le 4 x.2.2)
    ++ p.held.flatMap (le 2) ++ le 4 p.drmLost ++ [p.queued, 0, 0, 0] ++ p.fire.flatMap (le 4) ++ List.replicate 1200 0

/-- The header of a tally image in a snapshot, where CAUSE and CHECK are zero (rule R524). -/
def TlyBank.header (b : TlyBank) : List Nat :=
  [1, 0, bit b.degraded + 2 * bit b.uncertain, 0] ++ le 4 b.seq ++ le 4 b.flushSeq ++ b.stamp.bytes ++ le 4 b.body.markSeq ++ List.replicate 40 0

/-- A tally image in its layout (rule R524): 86,144 bytes. -/
def TlyBank.bytes (b : TlyBank) : List Nat :=
  b.header ++ ((List.range 16384).flatMap fun k => le 4 (AMap.get b.body.hist k 0))
    ++ ((List.range 512).flatMap fun h => le 4 (AMap.get b.body.ovr h 0))
    ++ ((List.range 256).flatMap fun x => Extreme.bytes (AMap.find x b.body.ext))
    ++ b.lost.flatMap (le 4) ++ b.body.markLog ++ b.power.bytes

/-- The image that a snapshot copies: the frozen one of a flush in progress, else the live one with FLUSH_SEQ as it stands (rule R541). -/
def State.snapImage (s : State) : TlyBank :=
  match s.tly.flush with
  | some f => f.image
  | none => { s.imageNow 0 with flushSeq := s.rd Reg.TLY_FLUSH_SEQ }

/-- The words of a snapshot pass through chute 49 to the Host Ring Engine (rules R139, R541): each takes a credit and gives it back. -/
def State.passChute (s : State) (n words : Nat) : State := if s.chuteOn n then s.setChute n ((s.chute n).giveBack words) else s

/-- SNAPSHOT: the image and its tag under the Tally key stream through chute 49 to host memory. -/
def snapshotOp (c : Cmd) (s : State) : State :=
  s.hostCmd c .dataOut fun t =>
    if c.desc.length.toNat ≠ 86192 then t.finish c St.badLength 0 0
    else match t.keyOf 9 with
      | none => t.finish c St.keyRevoked 0 0
      | some k =>
        let image := t.snapImage.bytes
        (t.passChute 49 10774).finishData c (image ++ hmacBytes k image)

/-- TALLY_CLEAR. -/
def tallyClearOp (c : Cmd) (p : List Byte) (s : State) : State :=
  s.hostCmd c .dataIn fun t =>
    if c.desc.length.toNat ≠ 128 then t.finish c St.badLength 0 0
    else
      let scope := byteAt p 1
      let bad := byteAt p 0 != 1 || decide (scope > 15) || !allZero (bytesAt p 2 2) || !allZero (bytesAt p 20 12)
      t.signedCmd c 128 bad (!(t.mode == .hostedIdle || t.mode == .faultSafe)) (t.life != 2 || scope == 0 || leAt p 12 8 != Config.serial)
        (leAt p 4 8) (t.ownerSigned (bytesAt p 0 32) (bytesAt p 32 96)) fun u =>
          if u.tly.flush.isSome ∨ u.tly.want.isSome then { u with tly := { u.tly with clears := u.tly.clears ++ [(c, scope)] } }
          else (u.applyClearTally scope).finish c St.done 128 0

/-- Whether the definition words of a histogram break the BAD_FORMAT row. -/
def hdefBad (d : AMap Nat) (h : Nat) : Bool :=
  let w := AMap.get d (4 * h) 0
  decide (w > 2) || (w == 1 && AMap.get d (4 * h + 2) 0 == 0) || AMap.get d (4 * h + 3) 0 != 0

/-- Whether the definition words of an extreme break it. -/
def xdefBad (d : AMap Nat) (x : Nat) : Bool := decide (AMap.get d (2 * x) 0 > 2) || AMap.get d (2 * x + 1) 0 != 0

/-- Whether the content of histogram h is not zero. -/
def State.histUsed (s : State) (h : Nat) : Bool :=
  (s.tly.body.hist.any fun (p : Nat × Nat) => p.1 / 32 == h && p.2 != 0) || AMap.get s.tly.body.ovr h 0 != 0

/-- Whether k words at a key differ between two maps. -/
def wordsDiffer (a b : AMap Nat) (lo k : Nat) : Bool := (List.range k).any fun i => AMap.get a (lo + i) 0 != AMap.get b (lo + i) 0

/-- DEF_COMMIT. -/
def defCommitOp (s : State) : State :=
  let y := s.tly
  let p := s.sh Reg.TLY_CFG_FLUSH_PERIOD
  let bad := decide (p ≠ 0 ∧ (p < 5 ∨ p > 240)) || (List.range 512).any (hdefBad y.hdefSh) || (List.range 256).any (xdefBad y.xdefSh)
  let clash := ((List.range 512).any fun h => wordsDiffer y.hdef y.hdefSh (4 * h) 4 && s.histUsed h)
    || ((List.range 256).any fun x => wordsDiffer y.xdef y.xdefSh (2 * x) 2 && (AMap.find x y.body.ext).isSome)
  let v := firstFail [(bad, St.badFormat), (clash, St.conflict)]
  let t := s.commit Reg.TLY_COMMIT_RESULT [Reg.TLY_CFG_FLUSH_PERIOD] v
  if v = St.done then { t with tly := { t.tly with hdef := t.tly.hdefSh, xdef := t.tly.xdefSh } } else t

/-! ## Meanings -/

/-- Meaning of HIST_ADD. -/
def execHistAdd (r : TallyRec) (s : State) : Out := .next (s.whenMain (tallyRecordOp 1 r))
/-- Meaning of EXTREME. -/
def execExtreme (r : TallyRec) (s : State) : Out := .next (s.whenMain (tallyRecordOp 2 r))
/-- Meaning of SATURATED. -/
def execSaturated (r : TallyRec) (s : State) : Out := .next (s.whenMain (tallyRecordOp 3 r))
/-- Meaning of MARK. -/
def execMark (r : TallyRec) (s : State) : Out := .next (s.whenMain (tallyRecordOp 4 r))
/-- Meaning of TALLY_DORMER_RECORD. -/
def execTallyDormerRecord (e : DormerRec) (s : State) : Out := .next (s.whenMain (tallyDormerRecordOp e))
/-- Meaning of PERIODIC_FLUSH. -/
def execPeriodicFlush (s : State) : Out := .next (s.whenMain periodicFlushOp)
/-- Meaning of FLUSH. -/
def execFlush (c : Option Cmd) (s : State) : Out := .next (s.whenMain (flushOp c))
/-- Meaning of RETEST. -/
def execRetest (s : State) : Out := .next (s.whenMain retestOp)
/-- Meaning of FLUSH_START. -/
def execFlushStart (s : State) : Out := .next (s.whenMain flushStartOp)
/-- Meaning of FLUSH_COMMIT_POINT. -/
def execFlushCommitPoint (s : State) : Out := .next (s.whenMain flushCommitPointOp)
/-- Meaning of FLUSH_COMPLETE. -/
def execFlushComplete (fail : Option Word) (duration : BitVec 16) (s : State) : Out :=
  .next (s.whenMain (flushCompleteOp fail duration.toNat))
/-- Meaning of TALLY_LAST_WORD. -/
def execTallyLastWord (s : State) : Out := .next (s.whenMain tallyLastWordOp)
/-- Meaning of TALLY_RESTORE. -/
def execTallyRestore (ecc : Option (Bool × Word)) (s : State) : Out := .next (s.whenMain (tallyRestoreOp ecc))
/-- Meaning of TALLY_LIVE_ECC. -/
def execTallyLiveEcc (part : TallyPart) (s : State) : Out := .next (s.whenMain (tallyLiveEccOp part))
/-- Meaning of SNAPSHOT. -/
def execSnapshot (c : Cmd) (s : State) : Out := .next (s.whenMain (snapshotOp c))
/-- Meaning of TALLY_CLEAR. -/
def execTallyClear (c : Cmd) (data : List Byte) (s : State) : Out := .next (s.whenMain (tallyClearOp c data))
/-- Meaning of DEF_COMMIT. -/
def execDefCommit (s : State) : Out := .next (s.whenMain defCommitOp)

end Sys2Proof.Machine
end

