-- ==== Sys2Proof/Machine/Update.lean ====
section
/-! DEFINITION. Image slots and field updates (chapter 21): headers, sessions, chunks, activation, trial and fallback, settings
migration. -/

namespace Sys2Proof.Machine

/-! ## Flash and the boot record (rules R504 to R506) -/

/-- Hoist address of NOR offset 0 (rule R144). -/
def norBase : Nat := 0x2800000000

/-- SLOT_SIZE. -/
def State.slotSize (s : State) : Nat := (s.board.nor - 4194304) / 2

/-- The region that is LOFT: the one that is not STORE. -/
def State.loftBase (s : State) : Nat := norBase + 4194304 + (1 - s.nvm.boot.storeRegion) * s.slotSize

/-- Code of a LOFT state. -/
def LoftState.code : LoftState → Nat
  | .empty => 0 | .receiving => 1 | .ready => 2 | .scheduled => 3 | .trial => 4 | .failed => 5

/-- NCHUNK, the number of data chunks. -/
def ImgHdr.nChunk (h : ImgHdr) : Nat := (h.imageLen + 4095) / 4096

/-- NLIST, the number of list chunks. -/
def ImgHdr.nList (h : ImgHdr) : Nat := (h.nChunk + 127) / 128

/-- NTOTAL. -/
def ImgHdr.nTotal (h : ImgHdr) : Nat := h.nList + h.nChunk

/-- Length of chunk i: 4,096 but for the last list chunk and the last data chunk. -/
def ImgHdr.chunkLen (h : ImgHdr) (i : Nat) : Nat :=
  if i + 1 = h.nList then 32 * h.nChunk - 4096 * (h.nList - 1)
  else if i + 1 = h.nTotal then h.imageLen - 4096 * (h.nChunk - 1)
  else 4096

/-- The fields of a header. -/
def parseHeader (p : List Byte) : ImgHdr :=
  ⟨leAt p 8 4, leAt p 12 4, leAt p 16 4, leAt p 20 4, leAt p 24 4, leAt p 28 4, leAt p 32 4, bytesAt p 48 48, bytesAt p 96 48⟩

/-- The state with the boot record set. -/
def State.setBoot (s : State) (b : BootRec) : State := { s with nvm := { s.nvm with boot := b } }

/-- The state with the session set. -/
def State.setSession (s : State) (x : UpdSession) : State := { s with nvm := { s.nvm with session := x } }

/-- State of chunk i: 0 absent, 1 present-unverified, 2 verified. -/
def State.chunkSt (s : State) (i : Nat) : Nat := AMap.get s.nvm.session.chunks i 0

/-- Chunk i takes a state. -/
def State.setChunk (s : State) (i v : Nat) : State :=
  let x := s.nvm.session
  s.setSession { x with chunks := if v = 0 then AMap.del i x.chunks else AMap.set i v x.chunks }

/-- Chunks in a state. -/
def State.chunkCount (s : State) (v : Nat) : Nat := (s.nvm.session.chunks.filter fun (p : Nat × Nat) => p.2 == v).length

/-- The update registers follow the boot record and the session. -/
def State.showUpd (s : State) : State :=
  let b := s.nvm.boot
  let x := s.nvm.session
  s.wrEach
  [(Reg.UPD_STATUS_LOFT_STATE, b.loft.code), (Reg.UPD_STATUS_SESSION_OPEN, bit x.isOpen), (Reg.UPD_STATUS_LOCKED, bit b.lock),
   (Reg.UPD_STATUS_STORE_REGION, b.storeRegion), (Reg.UPD_STATUS_CUR_AREA, b.curArea), (Reg.UPD_STATUS_SOURCE, if x.isOpen then x.source else 0),
   (Reg.UPD_STORE_VER, b.storeVer), (Reg.UPD_LOFT_VER, if b.loft = .empty then 0 else (b.hdr.map (·.version)).getD 0), (Reg.UPD_SESSION, x.num),
   (Reg.UPD_CHUNKS_TOTAL, if b.loft = .empty then 0 else (b.hdr.map ImgHdr.nTotal).getD 0), (Reg.UPD_CHUNKS_PRESENT, s.chunkCount 1),
   (Reg.UPD_CHUNKS_VERIFIED, s.chunkCount 2), (Reg.UPD_ACT_SEC, b.actSec)]

/-- Every chunk of LOFT is discarded and counted; any open session closes. -/
def State.discardChunks (s : State) : State :=
  let n := s.nvm.session.chunks.length
  let x := s.nvm.session
  let t := s.setSession { x with chunks := [], isOpen := false }
  if n = 0 then t else t.bumpBy Reg.UPD_CHUNK_DISCARD Reg.UPD_FAULT_CNT_SAT n

/-! ## Answers -/

/-- SOURCE of a sender. -/
def srcCode : UpdFrom → Nat
  | .host _ => 0
  | .lan b => 1 + bit b

/-- The answer to a header or chunk: the result record on chute 53, and the completion of a host command. -/
def State.updAnswer (s : State) (from_ : UpdFrom) (v session index len result : Nat) : State :=
  let w := toWords ([0x61, v, srcCode from_, 0] ++ le 4 session ++ le 4 index ++ le 4 (s.chunkCount 2))
  let o := s.offer 53 0 w
  let t := if o.2 then o.1.consume 53 w else o.1
  match from_ with
  | .host c => t.finish c v len result
  | .lan _ => t

/-- Receives a packet of `size` bytes from a sender: a host command by its ring and length, a LAN packet on an open connection, which a
packet outside 17 to 4,160 bytes closes (rule R510). -/
def State.updFrom (s : State) (from_ : UpdFrom) (size : Nat) (words : List DWord) (body : State → State) : State :=
  match from_ with
  | .host c => s.hostCmd c .dataIn fun t => body (t.consume 52 words)
  | .lan b =>
    if !(s.on Reg.UPD_NET_FED_EN && s.upd.conns.contains b) then s
    else if size < 17 ∨ size > 4160 then { s with upd := { s.upd with conns := s.upd.conns.erase b } }
    else body (s.consume 52 words)

/-- Payload length a sender states. -/
def lenOf (from_ : UpdFrom) (data : List Byte) : Nat :=
  match from_ with
  | .host c => c.desc.length.toNat
  | .lan _ => data.length

/-- The modes that take headers and chunks. -/
def State.updMode (s : State) : Bool := s.mode == .hostedIdle || s.mode.fleet || s.follows

/-! ## Headers and sessions (rules R507 to R509) -/

/-- Whether a header breaks its format. -/
def State.headerBad (s : State) (p : List Byte) (h : ImgHdr) : Bool :=
  leAt p 0 4 != 0x474D595A || byteAt p 4 != 1 || byteAt p 5 != 1 || leAt p 6 2 != 0x9620 || !allZero (bytesAt p 144 272)
    || decide (h.imageLen < 1 ∨ h.imageLen > s.slotSize ∨ h.bootLen < 1 ∨ h.bootLen > 16777216 ∨ h.bootLen > h.imageLen
        ∨ h.trialTime < 60 ∨ h.trialTime > 3600)
    || (leAt p 36 8 != 0 && leAt p 36 8 != Config.serial)
    || (leAt p 44 4 != 0 && some (leAt p 44 4) != (s.persist 5).item)

/-- The checks of a header before its session, in order. -/
def State.headerVerdict (s : State) (p : List Byte) (len : Nat) (rsv : Bool) : Nat :=
  let h := parseHeader p
  let b := s.nvm.boot
  let sig := match s.keyOf 4 with
    | some k => Config.ecdsaVerify k (bytesAt p 0 416) (bytesAt p 416 96)
    | none => false
  let failed := b.loft = .failed ∧ (b.hdr.map (·.digest)) = some h.digest
  firstFail
    [(len != 512, St.badLength), (!s.updMode || s.life != 2, St.refusedMode), (rsv || s.headerBad p h, St.badFormat),
     (decide (4096 * (1 + h.nTotal) > s.slotSize), St.oversize), (b.lock, St.refusedLock), (!sig, St.authFail),
     (decide (h.rollback < b.floor ∨ h.version ≤ b.storeVer), St.stale), (decide failed, 0x80), (b.barred == some h.version, St.conflict)]

/-- A new session for a header (rule R508). -/
def State.openSession (s : State) (h : ImgHdr) (p : List Byte) (source : Nat) : State :=
  let t := s.discardChunks
  let b := t.nvm.boot
  let u := t.setBoot { b with loft := .receiving, hdr := some h }
  let v := u.setSession ⟨(u.nvm.session.num + 1) % 4294967296, true, source, []⟩
  let w : State := { v with upd := { v.upd with idle := false, queue := [] } }
  { w with mem := Memory.writeAll w.loftBase p w.mem }

/-- The last row of the header check table (rules R508, R509): status and the state it leaves. -/
def State.decideHeader (s : State) (h : ImgHdr) (p : List Byte) (source : Nat) : Nat × State :=
  let b := s.nvm.boot
  let x := s.nvm.session
  let same := (b.hdr.map (·.digest)) = some h.digest
  let sameVer := (b.hdr.map (·.version)) = some h.version
  match b.loft with
  | .trial => (St.busy, s)
  | .empty => (St.done, s.openSession h p source)
  | .failed => (St.done, s.openSession h p source)
  | l =>
    if same then
      if l = .receiving then
        if source = x.source ∨ s.upd.idle then (St.done, s.setSession { x with source := source }) else (St.busy, s)
      else (St.done, s)
    else if sameVer then
      let t := s.discardChunks
      (St.conflict, (t.setBoot { b with loft := .empty, hdr := none, barred := some h.version, actSec := 0 }).fault Reg.UPD_FAULT_CONFLICT)
    else if l = .ready then (St.done, s.openSession h p source)
    else (St.busy, s)

/-- UPDATE_HEADER; `rsv` says that a reserved field of a LAN packet is set. -/
def updateHeaderOp (src : UpdFrom) (data : List Byte) (rsv : Bool) (s : State) : State :=
  let ns := data.map BitVec.toNat
  s.updFrom src (16 + data.length) (toWords ([0x62, srcCode src] ++ List.replicate 14 0 ++ ns)) fun t =>
    let len := lenOf src data
    let v := t.headerVerdict data len rsv
    let r := if v = St.done then t.decideHeader (parseHeader data) data (srcCode src) else (v, t)
    let u := if r.1 = St.done then r.2 else r.2.bump Reg.UPD_HDR_REFUSED Reg.UPD_FAULT_CNT_SAT
    let num := if r.1 = St.done then u.nvm.session.num else 0
    (u.updAnswer src r.1 num 0 (if v = St.badLength then 0 else len) num).showUpd

/-! ## Chunks (rules R511 to R513) -/

/-- NOR address of chunk i of LOFT. -/
def State.chunkAddr (s : State) (i : Nat) : Nat := s.loftBase + 4096 * (1 + i)

/-- Bytes of chunk i as flash holds them. -/
def State.chunkBytes (s : State) (h : ImgHdr) (i : Nat) : List Nat :=
  (Memory.readAll s.mem (s.chunkAddr i) (h.chunkLen i)).map BitVec.toNat

/-- The chunk list: the list chunks joined. -/
def State.listBytes (s : State) (h : ImgHdr) : List Nat := (List.range h.nList).flatMap (s.chunkBytes h)

/-- Whether data chunk i matches its entry of the list. -/
def State.chunkMatches (s : State) (h : ImgHdr) (i : Nat) : Bool :=
  (shaBytes (s.chunkBytes h i)).take 32 == (((s.listBytes h).drop (32 * (i - h.nList))).take 32)

/-- k chunks failed verification. -/
def State.chunksBad (s : State) (k : Nat) : State := (s.bumpBy Reg.UPD_CHUNK_BAD Reg.UPD_FAULT_CNT_SAT k).fault Reg.UPD_FAULT_CHUNK_BAD

/-- A data chunk is checked against the verified list: whether it matched. -/
def State.checkData (s : State) (h : ImgHdr) (i : Nat) : State × Bool :=
  if s.chunkMatches h i then (s.setChunk i 2, true) else ((s.setChunk i 0).chunksBad 1, false)

/-- Every present-unverified data chunk is checked. -/
def State.checkPresent (s : State) (h : ImgHdr) : State :=
  ((List.range h.nTotal).filter fun i => decide (h.nList ≤ i) && s.chunkSt i == 1).foldl (fun (a : State) i => (a.checkData h i).1) s

/-- Every chunk verified: the image digest decides; the Bool says whether nothing failed. -/
def State.checkImage (s : State) (h : ImgHdr) : State × Bool :=
  if !(List.range h.nTotal).all fun i => s.chunkSt i == 2 then (s, true)
  else
    let bytes := (List.range h.nChunk).flatMap fun i => s.chunkBytes h (h.nList + i)
    let x := s.nvm.session
    let b := s.nvm.boot
    if shaBytes bytes == h.digest then ((s.setSession { x with isOpen := false }).setBoot { b with loft := .ready }, true)
    else ((s.setSession { x with chunks := [] }).chunksBad h.nTotal, false)

/-- Verification after chunk i became present (rule R513): status. -/
def State.verifyAfter (s : State) (h : ImgHdr) (i : Nat) : Nat × State :=
  let listIn := (List.range h.nList).all fun k => s.chunkSt k != 0
  let listOk := (List.range h.nList).all fun k => s.chunkSt k == 2
  if i < h.nList then
    if !listIn then (St.done, s)
    else if shaBytes (s.listBytes h) == h.listDigest then
      let t := (List.range h.nList).foldl (fun (a : State) k => a.setChunk k 2) s
      (St.done, ((t.checkPresent h).checkImage h).1)
    else (St.integrity, ((List.range h.nList).foldl (fun (a : State) k => a.setChunk k 0) s).chunksBad h.nList)
  else if !listOk then (St.done, s)
  else
    let r := s.checkData h i
    if !r.2 then (St.integrity, r.1)
    else
      let q := r.1.checkImage h
      (if q.2 then St.done else St.integrity, q.1)

/-- At reset release, present-unverified chunks are checked again. -/
def State.recheckChunks (s : State) : State :=
  match s.nvm.boot.hdr with
  | none => s
  | some h =>
    if !s.nvm.session.isOpen then s
    else if (List.range h.nList).all fun k => s.chunkSt k == 2 then ((s.checkPresent h).checkImage h).1
    else match (List.range h.nList).find? fun k => s.chunkSt k == 1 with
      | some k => (s.verifyAfter h k).2
      | none => s

/-- UPDATE_CHUNK. The host names session and index in P0 and P1 of its descriptor (rule R522), a peer in its packet. -/
def updateChunkOp (src : UpdFrom) (session0 index0 : Nat) (data : List Byte) (rsv : Bool) (s : State) : State :=
  let named := match src with | .host c => (c.desc.p0.toNat, c.desc.p1.toNat) | .lan _ => (session0, index0)
  let session := named.1
  let index := named.2
  let ns := data.map BitVec.toNat
  let head := [0x60, srcCode src, 0, 0] ++ le 4 session ++ le 4 index ++ le 2 data.length ++ List.replicate 50 0
  s.updFrom src (64 + data.length) (toWords (head ++ ns)) fun t =>
    let len := lenOf src data
    let h := t.nvm.boot.hdr.getD ⟨0, 0, 0, 0, 0, 0, 0, [], []⟩
    let inside := index < h.nTotal
    let v := firstFail
      [(!t.updMode, St.refusedMode), (decide (len = 0 ∨ (inside ∧ len ≠ h.chunkLen index)), St.badLength), (rsv || !decide inside, St.badFormat),
       (!t.nvm.session.isOpen || session != t.nvm.session.num, St.stale)]
    if v ≠ St.done then t.updAnswer src v session index (if v = St.badLength then 0 else len) (t.chunkCount 2)
    else if t.chunkSt index ≠ 0 then
      let u := t.bump Reg.UPD_CHUNK_DUP Reg.UPD_FAULT_CNT_SAT
      u.updAnswer src St.done session index len (u.chunkCount 2)
    else { t with upd := { t.upd with queue := t.upd.queue ++ [⟨src, session, index, data⟩], idle := false } }

/-- CHUNK_PROGRAMMED: the oldest chunk on its way has been programmed; `ok` says that its read-back agrees. -/
def chunkProgrammedOp (ok : Bool) (s : State) : State :=
  match s.upd.queue, s.nvm.boot.hdr with
  | j :: rest, some h =>
    let t : State := { s with upd := { s.upd with queue := rest } }
    let r :=
      if !t.nvm.session.isOpen || j.session != t.nvm.session.num then (St.stale, t)
      else if t.chunkSt j.index ≠ 0 then (St.done, t.bump Reg.UPD_CHUNK_DUP Reg.UPD_FAULT_CNT_SAT)
      else if !ok then (St.integrity, t)
      else
        let u : State := { t with mem := Memory.writeAll (t.chunkAddr j.index) j.data t.mem }
        (u.setChunk j.index 1).verifyAfter h j.index
    (r.2.updAnswer j.from_ r.1 j.session j.index j.data.length (r.2.chunkCount 2)).showUpd
  | _, _ => s

/-! ## Federation connections (rules R509, R510) -/

/-- FED_CONNECT: a fifth connection is closed at once. -/
def fedConnectOp (lanB : Bool) (s : State) : State :=
  if s.on Reg.UPD_NET_FED_EN && decide (s.upd.conns.length < 4) then { s with upd := { s.upd with conns := s.upd.conns ++ [lanB] } } else s

/-- FED_CONN_IDLE. -/
def fedConnIdleOp (lanB : Bool) (s : State) : State := { s with upd := { s.upd with conns := s.upd.conns.erase lanB } }

/-- SESSION_IDLE. -/
def sessionIdleOp (s : State) : State := if s.nvm.session.isOpen then { s with upd := { s.upd with idle := true } } else s

/-! ## Activation (rules R514 to R516) -/

/-- SCHEDULE. -/
def scheduleOp (c : Cmd) (s : State) : State :=
  s.hostCmd c .command fun t =>
    let b := t.nvm.boot
    let sec := c.desc.p0.toNat + 4294967296 * bits c.desc.p1.toNat 0 16
    let v := firstFail
      [(c.desc.length != 0, St.badLength), (bits c.desc.p1.toNat 16 16 != 0, St.badFormat), (b.loft != .ready && b.loft != .scheduled, St.conflict),
       (b.lock, St.refusedLock), (decide (sec * 1000000000 < (t.now.sec + 10) * 1000000000 + t.now.ns), St.stale), (t.mode == .update, St.busy)]
    if v = St.done then ((t.setBoot { b with loft := .scheduled, actSec := sec }).finish c v 0 0).showUpd else t.finish c v 0 0

/-- Every robot at standstill (rule R515, condition 2): its loop OFF or its last command 0, and no record of the last 2 s above
50 mm/s. -/
def State.standstill (s : State) : Bool :=
  (s.gov.loops.all fun (p : Nat × Loop) => p.2.mode == .off || p.2.speedNow == 0)
    && (s.cre.fast.all fun (p : Nat × YTime) => decide (timeDiff s.now p.2 > 131072000000000))

/-- The first of conditions 2 to 4 that fails, as DEFER_REASON codes it, or 0. -/
def State.parkReason (s : State) : Nat :=
  if !s.standstill then 2
  else if s.on Reg.UPD_CFG_BATT_EN && (s.drmRule (s.rd Reg.UPD_CFG_BATT_RULE)).active then 3
  else if s.nvm.boot.lock then 4 else 0

/-- An activation abandoned before its commit: HOSTED_IDLE, every held token released. -/
def State.abandonUpdate (s : State) : State := (s.enterMode .hostedIdle).releaseAll none

/-- ACTIVATION_DEFER_EXPIRE. -/
def activationDeferExpireOp (s : State) : State :=
  let b := s.nvm.boot
  if b.loft = .scheduled ∧ s.mode ≠ .update ∧ s.now.sec ≥ b.actSec + s.rd Reg.UPD_CFG_DEFER_MAX then
    (((s.setBoot { b with loft := .ready }).wr Reg.UPD_STATUS_DEFER_REASON 0).fault Reg.UPD_FAULT_DEFER_EXPIRED).showUpd
  else s

/-- ACTIVATION_TEST at the next whole second; past DEFER_MAX it is too late. -/
def activationTestOp (s : State) : State :=
  let t := s.wholeSecond
  if t.pwr.pfailLatched then t
  else if t.mode = .update then
    let r := t.parkReason
    if r = 0 then t else (t.wr Reg.UPD_STATUS_DEFER_REASON r).abandonUpdate
  else if t.nvm.boot.loft ≠ .scheduled ∨ t.now.sec < t.nvm.boot.actSec then t
  else if t.now.sec > t.nvm.boot.actSec + t.rd Reg.UPD_CFG_DEFER_MAX then activationDeferExpireOp t
  else
    let r := if t.mode = .hostedIdle ∨ t.mode = .fleetHold then t.parkReason else 1
    let u := t.wr Reg.UPD_STATUS_DEFER_REASON r
    if r ≠ 0 ∨ u.pwr.pdown.isSome ∨ u.pwr.pfailLatched then u
    else
      let w := if u.mode = .fleetHold then u.leaveCommitting.wr Reg.TRP_HOLD_CAUSE_IDLE 1 else u
      { w.enterMode .update with upd := { w.upd with entered := w.now.sec } }

/-- ACTIVATION_COMMIT, 1 s after UPDATE began: the boot record, the flush with its duration, the restart. -/
def activationCommitOp (duration : Nat) (s : State) : State :=
  let b := s.nvm.boot
  if s.mode ≠ .update ∨ b.loft ≠ .scheduled ∨ s.pwr.pfailLatched then s
  else
    let t := (((s.advance ⟨s.upd.entered + 1, 0, 0⟩).setBoot { b with loft := .trial, trialCount := 0 }).showUpd).flushFor 3
    (flushCompleteOp none duration (flushCommitPointOp (flushStartOp t))).restart causeUpdate

/-! ## Settings, trial and fallback (rules R517 to R521) -/

/-- The stored settings of an area take the place of the resets (rules R82, R520). -/
def State.loadArea (s : State) (a : SettingsArea) : State :=
  let t := a.regs.foldl (fun (x : State) (p : Nat × Fld × Nat) => x.wr p.2.1 p.2.2) s
  let u := (List.range 16).foldl (fun (x : State) g => x.wr (Reg.TIM_PG_CTRL_EN g) 0) t
  let curves := a.curves.getD u.gov.live
  { u with zyp := { u.zyp with roster := a.roster }, cor := { u.cor with mounts := a.mounts, users := a.users }
           gov := { u.gov with live := curves, shadow := curves } }

/-- The profile of PTP and the radio: straps, or the stored values (rule R81). -/
def State.profiles (s : State) (profile : Option Nat) (radio : Option Bool) : State :=
  let straps := s.rd Reg.PIN_STRAP_STATUS_STRAP
  let p := profile.getD (bits straps 2 1)
  let t := (s.wr Reg.PIN_STRAP_STATUS_RADIO_ON (match radio with | some r => bit r | none => bits straps 1 1)).wr Reg.PIN_STRAP_STATUS_PTP_8021AS p
  if profile.isNone ∧ p = 1 then
    t.wrEach [(Reg.TIM_PTP_CFG_PROFILE, 1), (Reg.TIM_PTP_PRIO_PRIORITY1, 0xF6), (Reg.TIM_PTP_PRIO_PRIORITY2, 0xF8), (Reg.TIM_PTP_INTV, 0x030000FD)]
  else t

/-- The Dormer's stored channels and rules are committed where the Dormer has powered on since the last reset release that loaded
settings (rule R384). -/
def State.commitDormer (s : State) (a : SettingsArea) : State :=
  let own := a.regs.filter fun (p : Nat × Fld × Nat) => drmOwn p.1
  let t := own.foldl (fun (x : State) (p : Nat × Fld × Nat) => x.wrShadow p.2.1 p.2.2) s
  let u : State := { t with drm := { t.drm with rulesSh := a.rules } }
  dormerRulesCommitOp (chanCommitOp u)

/-- A valid settings area comes into use: its settings, its profiles and, after an AON power-on, its Dormer settings. -/
def State.takeArea (s : State) (a : SettingsArea) : State :=
  let own := a.regs.filter fun (p : Nat × Fld × Nat) => !drmOwn p.1
  let t := (s.loadArea { a with regs := own }).wr Reg.PIN_PANTRY_STATUS_SETTINGS_VALID 1
  let u := t.profiles ((AMap.find Reg.TIM_PTP_CFG_PROFILE.key a.regs).map Prod.snd) a.radio
  if u.pwr.aonFresh then u.commitDormer a else u

/-- A trial falls back to STORE (rule R519); it restarts within 1 s. In PFAIL handling it waits for the reset at its end (rule R60). -/
def State.fallBack (s : State) : State :=
  if s.pwr.pfailLatched then s else
  let b := s.nvm.boot
  (((s.setBoot { b with loft := .failed, fellBack := true }).fault Reg.UPD_FAULT_FALLBACK).bump Reg.UPD_FALLBACKS
    Reg.UPD_FAULT_CNT_SAT).showUpd.restart causeUpdate

/-- SETTINGS_MIGRATE; `ok` says that the migrated contents pass the checks of their commit groups. -/
def settingsMigrateOp (ok : Bool) (s : State) : State :=
  match s.nvm.boot.hdr with
  | none => s
  | some h =>
    if !s.on Reg.UPD_STATUS_TRIAL ∨ s.upd.migrated ∨ s.mode ≠ .boot then s
    else
      let a := s.areaAt s.nvm.boot.curArea
      let valid := a.good && a.lcGen == s.rd Reg.VLT_LIFECYCLE_LC_GEN
      if valid && (decide (a.schema < h.schemaFrom ∨ a.schema > h.schema) || !ok) then (s.fault Reg.UPD_FAULT_MIGRATE_FAIL).fallBack
      else
        let t : State := { s with upd := { s.upd with migrated := true } }
        let u := if valid then (t.storeWith fun _ => a).takeArea a else t.storeWith fun (x : SettingsArea) => x
        { u with pwr := { u.pwr with aonFresh := false } }

/-- TRIAL_CONFIRM (rule R518). -/
def trialConfirmOp (s : State) : State :=
  match s.nvm.boot.hdr with
  | none => s
  | some h =>
    let b := s.nvm.boot
    if s.on Reg.UPD_STATUS_TRIAL && s.on Reg.CLK_ADMIT_STATUS_BOOT_DONE && s.on Reg.VLT_STATUS_READY && s.upd.migrated && !s.pwr.core
        && (!s.on Reg.UPD_CFG_CONFIRM_HOST || s.upd.hostOk) then
      let nb : BootRec := { b with storeRegion := 1 - b.storeRegion, storeVer := h.version, storeSchema := h.schema, floor := h.rollback,
                                   curArea := s.upd.area, loft := .empty, hdr := none, actSec := 0 }
      let x := s.nvm.session
      ((((s.setBoot nb).setSession { x with chunks := [], isOpen := false }).wr Reg.UPD_STATUS_TRIAL 0).event 0x14 0x0100 h.version).showUpd
    else s

/-- Nanoseconds since reset release (rule R77). -/
def State.sinceRelease (s : State) : Nat := (((s.now.sec * 1000000000 + s.now.ns : Nat) : Int) - s.upd.released).toNat

/-- The instant TRIAL_TIME seconds after reset release (rule R519). -/
def State.trialEnd (s : State) : YTime :=
  let ns := (s.upd.released + 1000000000 * ((s.nvm.boot.hdr.map (·.trialTime)).getD 0 : Nat)).toNat
  ⟨ns / 1000000000, ns % 1000000000, 0⟩

/-- TRIAL_TIMEOUT. -/
def trialTimeoutOp (s : State) : State := if s.on Reg.UPD_STATUS_TRIAL then (s.advance s.trialEnd).fallBack else s

/-- Seconds left to confirm (UPD_TRIAL_LEFT). -/
def State.trialLeft (s : State) : Nat :=
  match s.nvm.boot.hdr with
  | some h => if s.on Reg.UPD_STATUS_TRIAL then h.trialTime - s.sinceRelease / 1000000000 else 0
  | none => 0

/-! ## UPD_CTRL (rule R523) -/

/-- A write of one bit to UPD_CTRL; more than one bit is BAD_FORMAT, a bit that does not apply CONFLICT. -/
def State.updCtrl (s : State) (alone applies : Bool) (body : State → State) : State :=
  if !alone then s.wr Reg.UPD_CTRL_RESULT St.badFormat
  else if !applies then s.wr Reg.UPD_CTRL_RESULT St.conflict
  else (body s).showUpd.wr Reg.UPD_CTRL_RESULT St.done

/-- LOCK. -/
def lockOp (alone : Bool) (s : State) : State := s.updCtrl alone true fun t => t.setBoot { t.nvm.boot with lock := true }

/-- UNLOCK. -/
def unlockOp (alone : Bool) (s : State) : State := s.updCtrl alone true fun t => t.setBoot { t.nvm.boot with lock := false }

/-- CANCEL: abandons UPDATE before its commit, else SCHEDULED returns to READY. -/
def cancelOp (alone : Bool) (s : State) : State :=
  s.updCtrl alone (s.nvm.boot.loft == .scheduled) fun t =>
    if t.mode = .update then t.unlessPfail State.abandonUpdate else (t.setBoot { t.nvm.boot with loft := .ready }).wr Reg.UPD_STATUS_DEFER_REASON 0

/-- HOST_OK. -/
def hostOkOp (alone : Bool) (s : State) : State :=
  s.updCtrl alone (s.on Reg.UPD_STATUS_TRIAL) fun t => { t with upd := { t.upd with hostOk := true } }

/-- CLEAR. -/
def updateClearOp (alone : Bool) (s : State) : State :=
  let b := s.nvm.boot
  let slot := b.loft = .failed ∨ b.loft = .receiving
  s.updCtrl alone (decide slot || b.barred.isSome) fun t =>
    let u := t.setBoot { b with barred := none }
    if slot then (u.discardChunks).setBoot { b with barred := none, loft := .empty, hdr := none } else u

/-- UPD_COMMIT. -/
def updCommitOp (s : State) : State :=
  let bad := decide (s.sh Reg.UPD_CFG_DEFER_MAX < 60 ∨ s.sh Reg.UPD_CFG_TRIAL_BOOTS = 0 ∨ s.sh Reg.UPD_CFG_SESSION_IDLE = 0
    ∨ s.sh Reg.UPD_NET_PORT = 0)
  let t := s.commit Reg.UPD_COMMIT_RESULT
    [Reg.UPD_CFG_DEFER_MAX, Reg.UPD_CFG_BATT_RULE, Reg.UPD_CFG_BATT_EN, Reg.UPD_CFG_CONFIRM_HOST, Reg.UPD_CFG_TRIAL_BOOTS,
     Reg.UPD_CFG_SESSION_IDLE, Reg.UPD_NET_PORT, Reg.UPD_NET_FED_EN] (if bad then St.badFormat else St.done)
  if t.on Reg.UPD_NET_FED_EN then t else { t with upd := { t.upd with conns := [] } }

/-! ## Meanings -/

/-- Meaning of UPDATE_HEADER. -/
def execUpdateHeader (src : UpdFrom) (data : List Byte) (rsv : Bool) (s : State) : Out := .next (s.whenMain (updateHeaderOp src data rsv))
/-- Meaning of UPDATE_CHUNK. -/
def execUpdateChunk (src : UpdFrom) (session index : Word) (data : List Byte) (rsv : Bool) (s : State) : Out :=
  .next (s.whenMain (updateChunkOp src session.toNat index.toNat data rsv))
/-- Meaning of CHUNK_PROGRAMMED. -/
def execChunkProgrammed (ok : Bool) (s : State) : Out := .next (s.whenMain (chunkProgrammedOp ok))
/-- Meaning of FED_CONNECT. -/
def execFedConnect (lanB : Bool) (s : State) : Out := .next (s.whenMain (fedConnectOp lanB))
/-- Meaning of FED_CONN_IDLE. -/
def execFedConnIdle (lanB : Bool) (s : State) : Out := .next (s.whenMain (fedConnIdleOp lanB))
/-- Meaning of SESSION_IDLE. -/
def execSessionIdle (s : State) : Out := .next (s.whenMain sessionIdleOp)
/-- Meaning of SCHEDULE. -/
def execSchedule (c : Cmd) (s : State) : Out := .next (s.whenMain (scheduleOp c))
/-- Meaning of ACTIVATION_TEST. -/
def execActivationTest (s : State) : Out := .next (s.whenMain activationTestOp)
/-- Meaning of ACTIVATION_DEFER_EXPIRE. -/
def execActivationDeferExpire (s : State) : Out := .next (s.whenMain activationDeferExpireOp)
/-- Meaning of ACTIVATION_COMMIT. -/
def execActivationCommit (duration : BitVec 16) (s : State) : Out := .next (s.whenMain (activationCommitOp duration.toNat))
/-- Meaning of SETTINGS_MIGRATE. -/
def execSettingsMigrate (ok : Bool) (s : State) : Out := .next (s.whenMain (settingsMigrateOp ok))
/-- Meaning of TRIAL_CONFIRM. -/
def execTrialConfirm (s : State) : Out := .next (s.whenMain trialConfirmOp)
/-- Meaning of TRIAL_TIMEOUT. -/
def execTrialTimeout (s : State) : Out := .next (s.whenMain trialTimeoutOp)
/-- Meaning of LOCK. -/
def execLock (alone : Bool) (s : State) : Out := .next (s.whenMain (lockOp alone))
/-- Meaning of UNLOCK. -/
def execUnlock (alone : Bool) (s : State) : Out := .next (s.whenMain (unlockOp alone))
/-- Meaning of CANCEL. -/
def execCancel (alone : Bool) (s : State) : Out := .next (s.whenMain (cancelOp alone))
/-- Meaning of HOST_OK. -/
def execHostOk (alone : Bool) (s : State) : Out := .next (s.whenMain (hostOkOp alone))
/-- Meaning of UPDATE_CLEAR. -/
def execUpdateClear (alone : Bool) (s : State) : Out := .next (s.whenMain (updateClearOp alone))
/-- Meaning of UPD_COMMIT. -/
def execUpdCommit (s : State) : Out := .next (s.whenMain updCommitOp)

end Sys2Proof.Machine
end

