-- ==== Sys2Proof/Machine/Release.lean ====
section
/-! DEFINITION. Reset release: what every power domain keeps, which image starts, how the Vault, the settings, the Trapdoor and
the twin begin (chapters 2 to 4, rules R12, R27, R34, R80, R81, R350, R384, R502 and R517). -/

namespace Sys2Proof.Machine

/-- The BAR0 offset in a field's key. -/
def keyOff (k : Nat) : Nat := k / 64 % 4294967296

/-- The registers of the VBAT domain (rules R56, R77, R350, R531). -/
def vbatOffs : List Nat :=
  [0x10004, 0x10008, 0x10018, 0x1010C, 0x10110, 0x10114, 0x10118, 0x10120, Reg.TLY_MONO.off, Reg.TRP_STOP_CAUSE_IN_A.off]

/-- What a reset of the main domain leaves: the VBAT registers, the live state of clocks, rails and temperature, fuses and
non-volatile values. -/
def keptOffs : List Nat :=
  vbatOffs ++ [0x10000, 0x1000C, 0x10010, Reg.TRP_CMD_SEQ.off, Reg.VLT_LIFECYCLE_STATE.off]

/-- Levels of inputs that their registers show whatever happens to the main domain. -/
def levelFields : List Fld :=
  [Reg.TRP_STATUS_IN_A, Reg.TRP_STATUS_IN_B, Reg.TRP_STATUS_ARM_LEVEL, Reg.FJR_STATUS_LIVE_IN, Reg.FJR_STATUS_CLAIM_IN,
   Reg.FJR_STATUS_LIVE_CONT, Reg.FJR_STATUS_CLAIM_CONT]

/-- The Vault's slots without power: only the GENs survive (rules R483, R493). -/
def State.vaultDark (s : State) : State :=
  { s with vlt := { s.vlt with slots := s.vlt.slots.map fun (p : Nat × Slot) => (p.1, { Slot.empty with gen := p.2.gen }) } }

/-! ## The state rebuilt -/

/-- Power state at reset release. The thermal warning is judged anew: a sensor at the level sets its bits again (log entry 68). -/
def State.releasedPower (s : State) : Power :=
  { Power.reset with bypassNext := s.pwr.bypassNext, timerOn := s.pwr.timerOn, aonFresh := s.pwr.aonFresh }

/-- The Tally at reset release: its banks and the last-word area stay; the RESTART mark is due. -/
def State.releasedTally (s : State) : Tly :=
  { Tly.reset with last := s.tly.last, bank0 := s.tly.bank0, bank1 := s.tly.bank1, restartDue := true }

/-- The Vault at reset release: RESET_BOUND slots are empty, a pending rekey is read from its record. -/
def State.releasedVault (s : State) : Vlt :=
  let empty := fun (p : Nat × Slot) => (p.1, if p.2.bound then { Slot.empty with gen := p.2.gen } else p.2)
  { Vlt.reset with slots := s.vlt.slots.map empty, persist := s.vlt.persist, trans := s.vlt.trans, drbg := s.vlt.drbg,
                   rekey := ((s.persist 7).item).map fun v => (v % 4294967296, v / 4294967296) }

/-- Everything at its reset value but what survives a reset of the main domain. -/
def State.rebuilt (s : State) (straps : Nat) : State :=
  let t : State :=
    { State.reset with
      pending := s.pending, ctr := s.ctr, board := s.board, prev := s.prev, pwr := s.releasedPower
      fld := s.fld.filter fun (p : Nat × Nat) => keptOffs.contains (keyOff p.1) || drmOwn p.1
      shd := s.shd.filter fun (p : Nat × Nat) => drmOwn p.1
      cmt := s.cmt.filter drmOwn
      hre := { Hre.reset with perst := s.hre.perst }
      trp := { Trap.reset with latch := s.trp.latch, dormant := s.trp.dormant, dormerHold := s.trp.dormerHold, dormerStop := s.trp.dormerStop,
                               bothOpen := s.trp.bothOpen, mark := true, demandAt := s.rd Reg.TLY_MONO }
      tim := { Tim.reset with cal := s.tim.cal, calUtc := s.tim.calUtc, calOk := s.tim.calOk }
      mem := s.mem.filter fun (c : Host.Cell) => decide (norBase ≤ c.1)
      zyp := { Zyp.reset with bootCtr := s.zyp.bootCtr }
      vlt := s.releasedVault
      nvm := s.nvm
      twn := { Twn.reset with session := s.twn.session }
      drm := s.drm
      tly := s.releasedTally }
  ((t.wrEach (levelFields.map fun f => (f, s.rd f))).wr Reg.PIN_STRAP_STATUS_STRAP straps).wr Reg.CLK_TEMP_TJ_MAX (s.rd Reg.CLK_TEMP_TJ_NOW)

/-! ## The image that starts (rule R517) -/

/-- TRIAL_BOOTS as the boot ROM takes it: the stored value of the STORE image's area, or the register's reset value. -/
def State.trialBoots (s : State) : Nat :=
  match AMap.find Reg.UPD_CFG_TRIAL_BOOTS.key (s.areaAt s.nvm.boot.curArea).regs with
  | some p => p.2
  | none => Reg.UPD_CFG_TRIAL_BOOTS.rst

/-- Code on the debug UART of a device with no image that verifies (rule R517). -/
def uartNoImage : Nat := 72

/-- The device stays in BOOT with the Trapdoor in STOP. -/
def State.bootStop (s : State) : State :=
  { s with trp := { s.trp with latch := true, fleet := .stop }, upd := { s.upd with image := false } }

/-- The LOFT image starts as a trial. A later boot of a trial whose area is valid has migrated already. -/
def State.runTrial (s : State) (h : ImgHdr) : State :=
  let b := s.nvm.boot
  let t := s.setBoot { b with loft := .trial, trialCount := b.trialCount + 1 }
  let u : State := { t with upd := { t.upd with image := true, schema := h.schema, area := 1 - b.curArea } }
  let v : State := { u with upd := { u.upd with migrated := decide (1 ≤ b.trialCount) && u.areaOk (u.areaAt u.upd.area) } }
  (v.wr Reg.UPD_STATUS_TRIAL 1).wr Reg.GLB_FW_VER h.version

/-- No image verifies: the device stays in BOOT and reports on the debug UART (rule R517). -/
def State.noImage (s : State) : State := { s with pwr := { s.pwr with uart := s.pwr.uart ++ [uartNoImage] } }.bootStop

/-- The STORE image starts, or the unit has none: STORE_BAD, and LOFT as a trial where it holds a whole image. -/
def State.runStore (s : State) (storeOk loftOk : Bool) : State :=
  let b := s.nvm.boot
  if storeOk then
    { s with upd := { s.upd with image := true, schema := b.storeSchema, area := b.curArea } }.wr Reg.GLB_FW_VER b.storeVer
  else
    let t := s.fault Reg.UPD_FAULT_STORE_BAD
    match b.hdr with
    | none => t.noImage
    | some h =>
      if b.loft = .ready ∨ b.loft = .scheduled ∨ b.loft = .trial then
        if loftOk then t.runTrial h else (t.setBoot { b with loft := .failed }).noImage
      else t.noImage

/-- The boot ROM reads the boot record; `storeOk` and `loftOk` say which images verify. -/
def State.bootSelect (s : State) (storeOk loftOk : Bool) : State :=
  let b := s.nvm.boot
  let t := (s.setBoot { b with fellBack := false }).wr Reg.UPD_STATUS_FALLBACK (bit b.fellBack)
  match b.loft, b.hdr with
  | .trial, some h =>
    if b.trialCount < s.trialBoots then
      if loftOk then t.runTrial h else (t.setBoot { b with fellBack := false, loft := .failed }).runStore storeOk loftOk
    else
      ((((t.setBoot { b with fellBack := false, loft := .failed }).fault Reg.UPD_FAULT_FALLBACK).wr Reg.UPD_STATUS_FALLBACK 1)).runStore
        storeOk loftOk
  | _, _ => t.runStore storeOk loftOk

/-! ## Stored settings (rules R81, R82, R384, R520) -/

/-- The settings area of the running image is loaded, if it is valid; a trial that has still to migrate runs without. -/
def State.loadSettings (s : State) : State :=
  let a := s.areaAt s.upd.area
  let first := s.on Reg.UPD_STATUS_TRIAL && !s.upd.migrated
  if !s.upd.image || first then s.profiles none none
  else if s.areaOk a then
    s.takeArea a
  else (s.profiles none none).fault Reg.UPD_FAULT_SETTINGS_TORN

/-! ## The Vault (rules R491, R494, R497, R498, R502) -/

/-- Code of a lifecycle state on the debug UART (rule R498). -/
def uartLife : Nat := 64

/-- The self-tests of the Vault, its records and its fixed slots; `ok` says that the tests passed. -/
def State.startVault (s : State) (ok : Bool) : State :=
  let torn := s.vlt.persist.any fun (p : Nat × Persist) => !p.2.good0 || !p.2.good1
  let a := if torn then s.fault Reg.VLT_FAULT_PERSIST_TORN else s
  if a.life = 5 then { a with pwr := { a.pwr with uart := a.pwr.uart ++ [uartLife + a.life] } }.zeroise.bootStop
  else if !ok then ((a.wr Reg.VLT_STATUS_SELFTEST_FAIL 1).fault Reg.VLT_FAULT_SELFTEST).vaultDark
  else
    let r := a.deriveFixed.drawRandom
    ({ r.2 with vlt := { r.2.vlt with nonce := r.1 } }.newChallenge).wr Reg.VLT_STATUS_READY 1

/-! ## The Trapdoor, the epochs, the twin -/

/-- The fleet state at reset release (rule R350); `was` says that the STOP latch was set. -/
def State.startTrapdoor (s : State) (was : Bool) : State :=
  let shut := s.on Reg.TRP_STATUS_IN_A && s.on Reg.TRP_STATUS_IN_B
  let stop := s.trp.latch || s.trp.dormant || !shut
  let t := s.wrEach
    [(Reg.TRP_STOP_CAUSE_PERSIST, if was then 1 else s.rd Reg.TRP_STOP_CAUSE_PERSIST),
     (Reg.TRP_STOP_CAUSE_DORMANT, if s.trp.dormant then 1 else s.rd Reg.TRP_STOP_CAUSE_DORMANT),
     (Reg.TRP_STOP_CAUSE_IN_A, if s.on Reg.TRP_STATUS_IN_A then s.rd Reg.TRP_STOP_CAUSE_IN_A else 1),
     (Reg.TRP_STOP_CAUSE_IN_B, if s.on Reg.TRP_STATUS_IN_B then s.rd Reg.TRP_STOP_CAUSE_IN_B else 1),
     (Reg.TRP_HOLD_CAUSE_DORMER, bit (!s.trp.dormerHold.isEmpty))]
  { t with trp := { t.trp with latch := stop, dormant := false, fleet := if stop then .stop else .hold } }

/-- The epoch counter starts 8,193 after the recorded value, and the start value is recorded (rule R12). -/
def State.startEpochs (s : State) : State :=
  let e := (s.nvm.epochRec + 8193) % 4294967296
  { s with nvm := { s.nvm with epochRec := e }, epo := { s.epo with closed := e, commits := e } }.wr Reg.GLB_EPOCH e

/-- Yard time at reset release: the calendar, if it was written and XTAL32_LOST is clear, else from 0 (rule R423). -/
def State.startTime (s : State) : State :=
  let t := s.wr Reg.TLY_STATUS_TIME_UNKNOWN 1
  if t.tim.calOk && !t.on Reg.CLK_FAULT_XTAL32_LOST then
    let t0 : YTime := ⟨t.tim.cal, 0, 0⟩
    { t with tim := { t.tim with now := t0 }, upd := { t.upd with released := t.tim.cal * 1000000000 } }.wr Reg.TIM_STATUS_SET_STATE 1
  else t

/-- Streams, link and registers that show what is stored. -/
def State.startRest (s : State) : State :=
  let a := s.startUnit
  let b := if a.headsRejoin then a else a.startPair
  let c := match b.nvm.ref with
    | some r => if r.good then (b.storeRef r).wr Reg.PIN_PANTRY_STATUS_POSITION_STORED 1 else b.showRef
    | none => b.showRef
  ({ c with cor := { c.cor with driftFrom := c.now.sec } }.wr Reg.CLK_MODE_STATUS_TWIN_CONFIGURED (c.rd Reg.FJR_CFG_TWIN_EN) |>.wr Reg.TLY_STATUS_DEGRADED (bit c.tly.last.degraded)).recheckChunks.showUpd

/-- The causes of this reset release join those not yet cleared (rule R77). -/
def State.showCause (s : State) (causes : Nat) : State :=
  let all := [Reg.CLK_RESET_CAUSE_POWER_ON, Reg.CLK_RESET_CAUSE_SYS_RST, Reg.CLK_RESET_CAUSE_BOD, Reg.CLK_RESET_CAUSE_PFAIL_RESTART,
              Reg.CLK_RESET_CAUSE_HOST_RESTART, Reg.CLK_RESET_CAUSE_UPDATE_RESTART, Reg.CLK_RESET_CAUSE_WAKE, Reg.CLK_RESET_CAUSE_THERM_CUT]
  ({ s with pwr := { s.pwr with relCause := causes } }).wrAll 1 (all.filter fun (f : Fld) => bits causes f.lo 1 = 1)

/-- REFCLK_FREQ of a reading in kHz (rule R45). -/
def refclkClass (khz : Nat) : Nat := if 9000 ≤ khz ∧ khz ≤ 11000 then 1 else if 22500 ≤ khz ∧ khz ≤ 27500 then 2 else 3

/-- REFCLK is measured against RC4M before every reset release; a reading outside both windows sets REFCLK_BAD_FREQ and is reported on
the debug UART (rule R45). -/
def State.measureRefclk (s : State) (khz : Nat) : State :=
  let u := s.wrEach [(Reg.CLK_SRC_STATUS_REFCLK_PRESENT, bit (khz != 0)), (Reg.CLK_SRC_STATUS_REFCLK_FREQ, refclkClass khz)]
  if refclkClass khz = 3 then
    let t := u.fault Reg.CLK_FAULT_REFCLK_BAD_FREQ
    { t with pwr := { t.pwr with uart := t.pwr.uart ++ [Reg.CLK_FAULT_REFCLK_BAD_FREQ.lo] } }
  else u

/-- RESET_RELEASE: the reading of REFCLK in kHz, the straps, whether the STORE and LOFT images verify, and whether the Vault's self-tests pass. A transition
record runs the lifecycle change to its end, which restarts the unit. -/
def resetReleaseOp (khz straps : Nat) (storeOk loftOk vaultOk : Bool) (s : State) : State :=
  if s.mode ≠ .boot ∨ !s.pwr.porDone ∨ s.pwr.pfailLatched then s
  else
    let a := (((s.rebuilt straps).measureRefclk khz).showCause s.pwr.nextCause).bootSelect storeOk loftOk
    match a.vlt.trans with
    | some tr => (a.changeLife tr).restart causeHost
    | none =>
      let b := ((a.startTime.loadSettings.startVault vaultOk).startTrapdoor s.trp.latch).startEpochs.startRest
      { b with pwr := { b.pwr with aonFresh := b.pwr.aonFresh && b.on Reg.UPD_STATUS_TRIAL && !b.upd.migrated } }

/-- Meaning of RESET_RELEASE. -/
def execResetRelease (khz : Nat) (straps : Fin 16) (storeOk loftOk vaultOk : Bool) (s : State) : Out :=
  .next (resetReleaseOp khz straps.val storeOk loftOk vaultOk s)

end Sys2Proof.Machine
end

