-- ==== Sys2Proof/Machine/Power.lean ====
section
/-! DEFINITION. Power-up, resets, PFAIL handling, clock and thermal faults, and waking (chapters 2 and 3). -/

namespace Sys2Proof.Machine

/-! ## Power-up (rules R34, R35, R45) -/

/-- VBAT_POWER_ON: the VBAT domain starts at its reset values and RAIL_EN_AON goes high; BYPASS stored for this power-on is in
force. -/
def vbatPowerOnOp (s : State) : State :=
  let t : State :=
    { s with fld := s.fld.filter fun (p : Nat × Nat) => !vbatOffs.contains (keyOff p.1)
             shd := s.shd.filter fun (p : Nat × Nat) => !vbatOffs.contains (keyOff p.1)
             mode := .boot, prev := .cellar
             trp := { s.trp with latch := false }
             tim := { s.tim with cal := 0, calUtc := 0, calOk := false }
             pwr := { s.pwr with railEnAon := true, railEnMain := false, railAttempts := 0, mainPowered := false, porDone := false,
                                 pfailLatched := false, sysResetHeld := false, entry := .none, pdown := none, wakeLatched := 0,
                                 nextCause := 1, warnCond := false, aonCool := false, timerOn := false, lanOpen := false } }
  ((t.rails false false).wrEach
    [(Reg.CLK_RAIL_STATUS_VBAT_OK, 1), (Reg.CLK_SRC_STATUS_XTAL32_OK, 1), (Reg.CLK_SRC_STATUS_XTAL32_FALLBACK, 0),
     (Reg.CLK_XTAL32_CFG_BYPASS, bit s.pwr.bypassNext), (Reg.CLK_XTAL32_CFG_BYPASS_ACTIVE, bit s.pwr.bypassNext)]).vaultDark

/-- AON_RAILS_IN_RANGE: RAIL_EN_MAIN goes high, the first attempt. -/
def aonRailsInRangeOp (s : State) : State :=
  if s.mode ≠ .boot ∨ !s.pwr.railEnAon ∨ s.pwr.railEnMain ∨ s.pwr.mainPowered then s
  else { s.rails true false with pwr := { s.pwr with railEnMain := true, railAttempts := 1 } }

/-- RAIL_TIMEOUT: RAIL_EN_MAIN goes low; the third failed attempt ends in DORMER_WATCH. -/
def railTimeoutOp (s : State) : State :=
  if s.mode ≠ .boot ∨ !s.pwr.railEnMain ∨ s.pwr.mainPowered ∨ s.pwr.porDone then s
  else
    let t : State := { s with pwr := { s.pwr with railEnMain := false } }
    if s.pwr.railAttempts ≥ 3 then (t.fault Reg.CLK_FAULT_RAIL_TIMEOUT).toWatch .railTimeout else t

/-- RAIL_RETRY: 100 ms after a rail timeout RAIL_EN_MAIN goes high again. -/
def railRetryOp (s : State) : State :=
  let k := s.pwr.railAttempts
  if s.mode = .boot ∧ !s.pwr.railEnMain ∧ 1 ≤ k ∧ k < 3 then { s with pwr := { s.pwr with railEnMain := true, railAttempts := k + 1 } } else s

/-- POR_RELEASE: the internal reset releases. -/
def porReleaseOp (s : State) : State :=
  if s.mode ≠ .boot ∨ !s.pwr.railEnMain ∨ s.pwr.mainPowered then s
  else { s.rails true true with pwr := { s.pwr with porDone := true } }

/-! ## System reset and brown-out (rules R36, R76, R557) -/

/-- SYSTEM_RESET: at once in a main mode outside PFAIL handling; latched in PFAIL handling and in DORMER_WATCH; nothing in CELLAR. In
BOOT before reset release the main domain is in reset already, and the coming release has SYS_RST among its causes. -/
def systemResetOp (s : State) : State :=
  if s.mode = .cellar then s
  else if s.mode = .dormerWatch ∨ s.pwr.pfailLatched then { s with pwr := { s.pwr with sysResetHeld := true } }
  else if s.pwr.mainPowered then s.restart causeSysRst
  else { s with pwr := { s.pwr with nextCause := s.pwr.nextCause ||| causeSysRst } }

/-- SYS_RESET_RETURN: the latched reset starts the unit from DORMER_WATCH. -/
def sysResetReturnOp (s : State) : State := if s.mode = .dormerWatch ∧ s.pwr.sysResetHeld then s.startBoot causeSysRst else s

/-- BROWN_OUT: everything but the VBAT domain and the Dormer is reset with no flush, and the main rails rise again. -/
def brownOutOp (s : State) : State :=
  if s.mode.main && (s.pwr.mainPowered || s.pwr.porDone) then
    let t := (s.mainDown.fault Reg.CLK_FAULT_BOD_RESET).wr Reg.CLK_LAST_MODE_FLUSH_INCOMPLETE 1
    t.vaultDark.startBoot causeBod
  else s

/-! ## PFAIL handling (rules R73 to R75, R124) -/

/-- PFAIL_ASSERT. -/
def pfailAssertOp (s : State) : State :=
  if s.mode = .cellar then s
  else
    let a := (s.wrapBy Reg.CLK_PFAIL_COUNT 1).fault Reg.CLK_FAULT_PFAIL_SEEN
    if !a.mode.main ∨ a.pwr.pfailLatched then a
    else
      let b : State :=
        { a with pwr := { a.pwr with pfailLatched := true, lanOpen := false }, hre := { a.hre with fetchOpen := false }
                 dsp := { a.dsp with open_ := false } }
      let c := (((b.wr Reg.CLK_LAST_MODE_PFAIL_STAGE 1).overtake).wr Reg.CLK_MODE_STATUS_IN_TRANSIT 1).stopLive.parkAll.showMeas
      if a.mode.fleet && !a.twn.mirrored then c.raiseFleet false Reg.TRP_HOLD_CAUSE_PFAIL else c

/-- A step of the handling has been completed; the stage shows the last one. -/
def State.pfailStage (s : State) (k : Nat) : State :=
  s.wr Reg.CLK_LAST_MODE_PFAIL_STAGE (max k (s.rd Reg.CLK_LAST_MODE_PFAIL_STAGE))

/-- PFAIL_HOIST_TIMEOUT. -/
def pfailHoistTimeoutOp (s : State) : State := if s.pwr.pfailLatched then s.abortAll.pfailStage 2 else s

/-- Marks every unfinished descriptor of a ring of a type as ended by ABORT_POWER; one that had started on a COMMAND or DATA_IN ring has
moved its payload (rule R107). -/
def abortSub (ty : Nat) : List SubDesc → List SubDesc
  | [] => []
  | x :: t =>
    (if x.done.isSome then x
     else { x with started := true, done := some ⟨St.abortPower, if x.started ∧ ty ≠ 2 then x.desc.length.toNat else 0, 0⟩ }) :: abortSub ty t

/-- Unfinished descriptors of every submission ring complete with ABORT_POWER, completions are written, and a final shadow header
follows (rule R124). -/
def State.abortDescriptors (s : State) : State :=
  let one := fun (t : State) (n : Nat) =>
    if t.isSub n then (t.setRing n { t.ring n with sub := abortSub (t.ringType n) (t.ring n).sub }).flushCompletions n else t
  let t := (List.range 128).foldl one s
  { t with hre := { t.hre with old := [] } }.showHeader

/-- PFAIL_DESCRIPTOR_ABORT. -/
def pfailDescriptorAbortOp (s : State) : State := if s.pwr.pfailLatched then s.abortDescriptors else s

/-- The modes in which the HELD count written is 0 (rule R75). -/
def Mode.heldZero : Mode → Bool
  | .boot => true | .pantry => true | .survey => true | .hostedIdle => true | .faultSafe => true | _ => false

/-- PFAIL_LARDER_FREEZE: the HELD count and the epoch number go to eMRAM and the Tally flush begins; after a power-down flush that has
committed and completed none follows, and its stage is reached (rule R75). -/
def pfailLarderFreezeOp (s : State) : State :=
  if !s.pwr.pfailLatched then s
  else
    let held := if s.mode.heldZero then 0 else s.rd Reg.LDR_HELD
    let t : State := { s with nvm := { s.nvm with held := held, heldEp := s.rd Reg.GLB_EPOCH } }
    let u := (t.pfailStage 3).flushFor 1
    if u.tly.powerDone && u.tly.flush.isNone then u.pfailStage 4 else u

/-- PFAIL_OUTPUTS_LOW: STOP_OUT_A/B and SRP_TXEN go low. -/
def pfailOutputsLowOp (s : State) : State := if s.pwr.pfailLatched then { s with trp := { s.trp with driveLow := true } } else s

/-- PFAIL_RAIL_CUT: the handling ends in DORMER_WATCH. -/
def pfailRailCutOp (s : State) : State :=
  if !s.pwr.pfailLatched ∨ !s.mode.main then s
  else
    let t := (s.wr Reg.CLK_LAST_MODE_PFAIL_STAGE 5).vaultDark.toWatch .pfail
    { t with pwr := { t.pwr with pfailLatched := false } }

/-- PFAIL_CLEAR: back to BOOT after a PFAIL entry with PFAIL_AUTO. -/
def pfailClearOp (s : State) : State :=
  if s.mode = .dormerWatch ∧ s.pwr.entry = .pfail ∧ s.on Reg.CLK_WAKE_CFG_PFAIL_AUTO then
    (s.recordWake 16).startBoot causePfail
  else s

/-! ## Clock faults (rules R43, R48) -/

/-- XTAL32_LOST: the Dormer and the RTC run on LPRC32, and calendar time is unknown. -/
def xtal32LostOp (s : State) : State :=
  if s.mode = .cellar then s
  else
    let t : State := { s with tim := { s.tim with calOk := false } }
    (t.wrEach [(Reg.CLK_SRC_STATUS_XTAL32_FALLBACK, 1), (Reg.CLK_SRC_STATUS_XTAL32_OK, 0), (Reg.TLY_STATUS_TIME_UNKNOWN, 1)]).fault
      Reg.CLK_FAULT_XTAL32_LOST

/-- XTAL32_RESTORED. -/
def xtal32RestoredOp (s : State) : State :=
  if s.mode = .cellar then s else s.wrEach [(Reg.CLK_SRC_STATUS_XTAL32_FALLBACK, 0), (Reg.CLK_SRC_STATUS_XTAL32_OK, 1)]

/-- PLL_SERDES out of lock: the LAN and Fjaryr links go down. -/
def State.serdesLost (s : State) : State :=
  linkDownOp { s.wr Reg.CLK_SRC_STATUS_PLL_SERDES_LOCK 0 with zyp := { s.zyp with lanUp := [] } }

/-- The Trapdoor goes to STOP with cause CLOCK and the device to FAULT_SAFE. -/
def State.clockFault (s : State) : State := (s.raiseFleet true Reg.TRP_STOP_CAUSE_CLOCK).deviceFault

/-- REFCLK_LOST: the core runs on RC4M and the three PLLs lose lock. -/
def refclkLostOp (s : State) : State :=
  let a := s.wrEach
    [(Reg.CLK_SRC_STATUS_REFCLK_PRESENT, 0), (Reg.CLK_SRC_STATUS_PLL_CORE_LOCK, 0), (Reg.CLK_SRC_STATUS_PLL_ADC_LOCK, 0),
     (Reg.CLK_SRC_STATUS_CORE_ON_RC4M, 1)]
  let b := (((a.fault Reg.CLK_FAULT_REFCLK_LOST).fault Reg.CLK_FAULT_PLL_CORE_UNLOCK).fault Reg.CLK_FAULT_PLL_ADC_UNLOCK).fault
    Reg.CLK_FAULT_PLL_SERDES_UNLOCK
  (b.adcLost.serdesLost.setTq 5).clockFault

/-- PLL_CORE_UNLOCK: the same response. -/
def pllCoreUnlockOp (s : State) : State :=
  let a := s.wrEach [(Reg.CLK_SRC_STATUS_PLL_CORE_LOCK, 0), (Reg.CLK_SRC_STATUS_CORE_ON_RC4M, 1)]
  (a.fault Reg.CLK_FAULT_PLL_CORE_UNLOCK).clockFault

/-- PLL_ADC_UNLOCK. -/
def pllAdcUnlockOp (s : State) : State := ((s.wr Reg.CLK_SRC_STATUS_PLL_ADC_LOCK 0).fault Reg.CLK_FAULT_PLL_ADC_UNLOCK).adcLost

/-- PLL_SERDES_UNLOCK. -/
def pllSerdesUnlockOp (s : State) : State := (s.fault Reg.CLK_FAULT_PLL_SERDES_UNLOCK).serdesLost

/-- The samplers and the measurement epochs run (rules R191, R201). -/
def State.adcRuns (s : State) : State :=
  (s.wrEach [(Reg.CLK_SRC_STATUS_PLL_ADC_LOCK, 1), (Reg.RNG_STATUS_ADC_A_OK, 1), (Reg.RNG_STATUS_ADC_B_OK, 1)]).showMeas

/-- PLL_RELOCK of PLL_CORE (0), PLL_ADC (1) or PLL_SERDES (2). -/
def pllRelockOp (pll : Nat) (s : State) : State :=
  let t := s.wr Reg.CLK_SRC_STATUS_REFCLK_PRESENT 1
  match pll with
  | 0 => t.wr Reg.CLK_SRC_STATUS_PLL_CORE_LOCK 1
  | 1 => t.adcRuns
  | _ => t.wr Reg.CLK_SRC_STATUS_PLL_SERDES_LOCK 1

/-! ## Temperature (rules R54, R67); readings are signed, in 0.125 °C -/

/-- A reading of the hottest sensor. -/
def State.temperature (s : State) (tj : Nat) : State :=
  let t := s.wr Reg.CLK_TEMP_TJ_NOW tj
  if signed 16 (t.rd Reg.CLK_TEMP_TJ_MAX) < signed 16 tj then t.wr Reg.CLK_TEMP_TJ_MAX tj else t

/-- WARN_LEVEL as a signed number. -/
def State.warnLevel (s : State) : Int := signed 16 (s.rd Reg.CLK_THERM_CFG_WARN_LEVEL)

/-- THERM_WARN. -/
def thermWarnOp (tj : Nat) (s : State) : State :=
  let t := s.temperature tj
  if signed 16 tj ≥ t.warnLevel ∧ !t.pwr.warnCond then
    (({ t with pwr := { t.pwr with warnCond := true } }).fault Reg.CLK_FAULT_THERM_WARN).fault Reg.GLB_FAULT_THERM_WARN
  else t

/-- THERM_WARN_CLEAR: the condition ends 5 °C below the level. -/
def thermWarnClearOp (tj : Nat) (s : State) : State :=
  let t := s.temperature tj
  if signed 16 tj ≤ t.warnLevel - 40 then { t with pwr := { t.pwr with warnCond := false } } else t

/-- THERM_CRIT at 110 °C. -/
def thermCritOp (tj : Nat) (s : State) : State :=
  let t := s.temperature tj
  if signed 16 tj ≥ 880 then ((t.fault Reg.CLK_FAULT_THERM_CRIT).raiseFleet true Reg.TRP_STOP_CAUSE_THERM).deviceFault else t

/-- THERM_CUT at 118 °C in any main mode, before reset release too: the main rails go, the Dormer keeps running. -/
def thermCutOp (tj : Nat) (s : State) : State :=
  let t := s.temperature tj
  if !s.mode.main then s
  else if signed 16 tj ≥ 944 then
    let u := (t.fault Reg.CLK_FAULT_THERM_CUT).vaultDark.toWatch .thermCut
    { u with pwr := { u.pwr with pfailLatched := false } }
  else t

/-- THERMAL_RECOVERY: the AON sensor has read below 95 °C for 60 s; latched wake sources, and THERM_AUTO, start the unit. -/
def thermalRecoveryOp (s : State) : State :=
  if s.mode ≠ .dormerWatch ∨ s.pwr.entry ≠ .thermCut then s
  else
    let t : State := { s with pwr := { s.pwr with aonCool := true } }
    let auto := t.on Reg.CLK_WAKE_CFG_THERM_AUTO
    let wakes := t.pwr.wakeLatched
    if !auto ∧ wakes = 0 then t
    else
      let cause := (if auto then causeThermal else 0) + (if wakes = 0 then 0 else causeWake)
      (t.recordWake (wakes ||| (if auto then 32 else 0))).startBoot cause

/-! ## Wake sources (rules R65, R79) -/

/-- WAKE_IN_EDGE of WAKE_IN0 or WAKE_IN1. -/
def wakeInEdgeOp (pin1 rising : Bool) (s : State) : State :=
  let en := if pin1 then Reg.CLK_WAKE_CFG_WAKE_IN1_EN else Reg.CLK_WAKE_CFG_WAKE_IN0_EN
  let pol := if pin1 then Reg.CLK_WAKE_CFG_WAKE_IN1_POL else Reg.CLK_WAKE_CFG_WAKE_IN0_POL
  if s.on en && s.on pol == rising then s.wakeUp (bit pin1) else s

/-- WAKE_TIMER_EXPIRE: the timer stops at 0. -/
def wakeTimerExpireOp (s : State) : State :=
  if !s.pwr.timerOn then s
  else ({ s with pwr := { s.pwr with timerOn := false } }.wr Reg.CLK_WAKE_TIMER_SECONDS 0).wakeUp 2

/-- LATCHED_WAKE: 10 ms after the main rails went, a source latched during the power-down wakes the unit. -/
def latchedWakeOp (s : State) : State :=
  if (s.mode = .cellar ∨ s.mode = .dormerWatch) ∧ s.pwr.pdown.isNone ∧ s.pwr.wakeLatched ≠ 0 ∧ s.pwr.entry ≠ .thermCut then
    (s.recordWake s.pwr.wakeLatched).startBoot causeWake
  else s

/-- Members of group WAKE. -/
def wakeGroup : List Fld :=
  [Reg.CLK_WAKE_CFG_WAKE_IN0_EN, Reg.CLK_WAKE_CFG_WAKE_IN0_POL, Reg.CLK_WAKE_CFG_WAKE_IN1_EN, Reg.CLK_WAKE_CFG_WAKE_IN1_POL,
   Reg.CLK_WAKE_CFG_THERM_AUTO, Reg.CLK_WAKE_CFG_DORMER_EN, Reg.CLK_WAKE_CFG_PFAIL_AUTO, Reg.CLK_WAKE_TIMER_SECONDS]

/-- WAKE_COMMIT (rule R79): the timer starts at the commit. -/
def wakeCommitOp (s : State) : State :=
  let none_ := s.sh Reg.CLK_WAKE_CFG_WAKE_IN0_EN + s.sh Reg.CLK_WAKE_CFG_WAKE_IN1_EN + s.sh Reg.CLK_WAKE_CFG_DORMER_EN
    + s.sh Reg.CLK_WAKE_TIMER_SECONDS = 0
  let t := s.commit Reg.CLK_WAKE_COMMIT_RESULT wakeGroup (if none_ then St.badFormat else St.done)
  if none_ then t else { t with pwr := { t.pwr with timerOn := t.rd Reg.CLK_WAKE_TIMER_SECONDS != 0 } }

/-! ## Registers of their own kind -/

/-- XTAL32_CFG_WRITE (rule R56). -/
def xtal32CfgWriteOp (v : Nat) (s : State) : State :=
  let by_ := bits v 6 1
  { s.wrEach [(Reg.CLK_XTAL32_CFG_LOAD_CAP, min 13 (bits v 0 4)), (Reg.CLK_XTAL32_CFG_DRIVE, min 1 (bits v 4 2)), (Reg.CLK_XTAL32_CFG_BYPASS, by_)]
    with pwr := { s.pwr with bypassNext := by_ == 1 } }

/-! ## Meanings -/

/-- Meaning of VBAT_POWER_ON. -/
def execVbatPowerOn (s : State) : Out := .next (vbatPowerOnOp s)
/-- Meaning of AON_RAILS_IN_RANGE. -/
def execAonRailsInRange (s : State) : Out := .next (aonRailsInRangeOp s)
/-- Meaning of RAIL_TIMEOUT. -/
def execRailTimeout (s : State) : Out := .next (railTimeoutOp s)
/-- Meaning of RAIL_RETRY. -/
def execRailRetry (s : State) : Out := .next (railRetryOp s)
/-- Meaning of POR_RELEASE. -/
def execPorRelease (s : State) : Out := .next (porReleaseOp s)
/-- Meaning of SYSTEM_RESET. -/
def execSystemReset (s : State) : Out := .next (systemResetOp s)
/-- Meaning of SYS_RESET_RETURN. -/
def execSysResetReturn (s : State) : Out := .next (sysResetReturnOp s)
/-- Meaning of BROWN_OUT. -/
def execBrownOut (s : State) : Out := .next (brownOutOp s)
/-- Meaning of PFAIL_ASSERT. -/
def execPfailAssert (s : State) : Out := .next (pfailAssertOp s)
/-- Meaning of PFAIL_HOIST_TIMEOUT. -/
def execPfailHoistTimeout (s : State) : Out := .next (s.whenMain pfailHoistTimeoutOp)
/-- Meaning of PFAIL_DESCRIPTOR_ABORT. -/
def execPfailDescriptorAbort (s : State) : Out := .next (s.whenMain pfailDescriptorAbortOp)
/-- Meaning of PFAIL_LARDER_FREEZE. -/
def execPfailLarderFreeze (s : State) : Out := .next (s.whenMain pfailLarderFreezeOp)
/-- Meaning of PFAIL_OUTPUTS_LOW. -/
def execPfailOutputsLow (s : State) : Out := .next (s.whenMain pfailOutputsLowOp)
/-- Meaning of PFAIL_RAIL_CUT. -/
def execPfailRailCut (s : State) : Out := .next (pfailRailCutOp s)
/-- Meaning of PFAIL_CLEAR. -/
def execPfailClear (s : State) : Out := .next (pfailClearOp s)
/-- Meaning of XTAL32_LOST. -/
def execXtal32Lost (s : State) : Out := .next (xtal32LostOp s)
/-- Meaning of XTAL32_RESTORED. -/
def execXtal32Restored (s : State) : Out := .next (xtal32RestoredOp s)
/-- Meaning of REFCLK_LOST. -/
def execRefclkLost (s : State) : Out := .next (s.whenMain refclkLostOp)
/-- Meaning of PLL_CORE_UNLOCK. -/
def execPllCoreUnlock (s : State) : Out := .next (s.whenMain pllCoreUnlockOp)
/-- Meaning of PLL_ADC_UNLOCK. -/
def execPllAdcUnlock (s : State) : Out := .next (s.whenMain pllAdcUnlockOp)
/-- Meaning of PLL_SERDES_UNLOCK. -/
def execPllSerdesUnlock (s : State) : Out := .next (s.whenMain pllSerdesUnlockOp)
/-- Meaning of PLL_RELOCK. -/
def execPllRelock (pll : Fin 3) (s : State) : Out := .next (s.whenMain (pllRelockOp pll.val))
/-- Meaning of THERM_WARN. -/
def execThermWarn (tj : BitVec 16) (s : State) : Out := .next (s.whenMain (thermWarnOp tj.toNat))
/-- Meaning of THERM_CRIT. -/
def execThermCrit (tj : BitVec 16) (s : State) : Out := .next (s.whenMain (thermCritOp tj.toNat))
/-- Meaning of THERM_CUT. -/
def execThermCut (tj : BitVec 16) (s : State) : Out := .next (thermCutOp tj.toNat s)
/-- Meaning of THERM_WARN_CLEAR. -/
def execThermWarnClear (tj : BitVec 16) (s : State) : Out := .next (s.whenMain (thermWarnClearOp tj.toNat))
/-- Meaning of THERMAL_RECOVERY. -/
def execThermalRecovery (s : State) : Out := .next (thermalRecoveryOp s)
/-- Meaning of WAKE_IN_EDGE. -/
def execWakeInEdge (pin1 rising : Bool) (s : State) : Out := .next (wakeInEdgeOp pin1 rising s)
/-- Meaning of WAKE_TIMER_EXPIRE. -/
def execWakeTimerExpire (s : State) : Out := .next (wakeTimerExpireOp s)
/-- Meaning of LATCHED_WAKE. -/
def execLatchedWake (s : State) : Out := .next (latchedWakeOp s)
/-- Meaning of WAKE_COMMIT. -/
def execWakeCommit (s : State) : Out := .next (s.whenMain wakeCommitOp)
/-- Meaning of XTAL32_CFG_WRITE. -/
def execXtal32CfgWrite (v : Word) (s : State) : Out := .next (s.whenMain (xtal32CfgWriteOp v.toNat))

end Sys2Proof.Machine
end

