-- ==== Sys2Proof/Machine/Modes.lean ====
section
/-! DEFINITION. Mode requests, the commanded power-down and the admission ladder (chapter 3). -/

namespace Sys2Proof.Machine

/-! ## Requests (rules R60, R61, R78) -/

/-- A transition is in progress, or power-down or PFAIL handling: a host request completes with BUSY. -/
def State.modeBusy (s : State) : Bool := s.on Reg.CLK_MODE_STATUS_IN_TRANSIT || s.pwr.pfailLatched || s.pwr.pdown.isSome

/-- A request of CLK_MODE_REQ: REFUSED_MODE before the claim, BUSY in a transition, REFUSED_MODE where no row matches. -/
def State.modeReq (s : State) (target : Nat) (row : State → Bool) (body : State → State) : State :=
  let t := s.wr Reg.CLK_MODE_REQ_TARGET target
  if !t.hre.claimed then t.modeResult St.refusedMode target
  else if t.modeBusy then t.modeResult St.busy target
  else if !row t then t.modeResult St.refusedMode target
  else body t

/-- Whether the mode is HOSTED_IDLE. -/
def State.idle (s : State) : Bool := s.mode == .hostedIdle

/-! ## Commanded power-down (rules R71, R72) -/

/-- Whether some enabled source can end a power-down to a target (rules R61, R79). -/
def State.canWake (s : State) (target : Mode) : Bool :=
  s.on Reg.CLK_WAKE_CFG_WAKE_IN0_EN || s.on Reg.CLK_WAKE_CFG_WAKE_IN1_EN || s.pwr.timerOn
    || (target == .dormerWatch && s.on Reg.CLK_WAKE_CFG_DORMER_EN)

/-- A power-down is accepted: PENDING; fetches and LAN admission stop, and every channel stops at its next boundary. With
DRAIN_TIMEOUT 0 there is no wait. -/
def State.startPdown (s : State) (target : Mode) : State :=
  if !s.canWake target then s.modeResult St.conflict target.code
  else
    let now := decide (s.rd Reg.CLK_PDOWN_CFG_DRAIN_TIMEOUT = 0)
    let t : State :=
      { s with pwr := { s.pwr with pdown := some ⟨target, false, now, false, false⟩, lanOpen := false }
               hre := { s.hre with fetchOpen := false }, dsp := { s.dsp with open_ := false } }
    let u := ((t.wr Reg.CLK_MODE_STATUS_IN_TRANSIT 1).modeResult St.pending target.code).parkAll
    if now then u.abortAll else u

/-- MODE_REQ_CELLAR. -/
def modeReqCellarOp (s : State) : State := s.modeReq 0 State.idle fun t => t.startPdown .cellar

/-- MODE_REQ_DORMER_WATCH. -/
def modeReqDormerWatchOp (s : State) : State := s.modeReq 1 State.idle fun t => t.startPdown .dormerWatch

/-- A step of the power-down in progress, outside PFAIL handling, which continues it in its own steps (rule R75). -/
def State.pdownStep (s : State) (body : Pdown → State → State) : State :=
  match s.pwr.pdown with
  | some d => if s.pwr.pfailLatched then s else body d s
  | none => s

/-- The state with the steps of the power-down set. -/
def State.setPdown (s : State) (d : Pdown) : State := { s with pwr := { s.pwr with pdown := some d } }

/-- PDOWN_DESCRIPTOR_ABORT: unfinished descriptors end with ABORT_POWER, and open packets of every chute are rewound. -/
def pdownDescriptorAbortOp (s : State) : State :=
  s.pdownStep fun d t =>
    let u := (List.range 96).foldl (fun (x : State) n => if (x.chute n).opened.isSome then x.setChute n (x.chute n).rewind else x) t.abortDescriptors
    u.setPdown { d with descAborted := true }

/-- PDOWN_DRAIN_TIMEOUT. -/
def pdownDrainTimeoutOp (s : State) : State := s.pdownStep fun d t => t.abortAll.setPdown { d with drained := true }

/-- PDOWN_OUTPUTS_STOP: outputs stop and the Tally flush begins. -/
def pdownOutputsStopOp (s : State) : State := s.pdownStep fun d t => ((t.setPdown { d with outputsOff := true }).showMeas).flushFor 2

/-- PDOWN_RAIL_CUT: DONE; the main rails go and the mode is DORMER_WATCH. -/
def pdownRailCutOp (s : State) : State :=
  s.pdownStep fun d t =>
    if d.railCut then t
    else
      let u := (t.modeResult St.done d.target.code).vaultDark.toWatch .commanded
      if d.target = .cellar then u.setPdown { d with railCut := true } else u

/-- PDOWN_CELLAR_ENTRY: the AON rails go. A system reset latched since the rail cut stands above the power-down, which ends in
DORMER_WATCH for it to act there (rules R62, R557). -/
def pdownCellarEntryOp (s : State) : State :=
  match s.pwr.pdown with
  | some d =>
    if s.pwr.sysResetHeld then { s with pwr := { s.pwr with pdown := none } }
    else if d.railCut ∧ s.mode = .dormerWatch then
      { s.rails false false with mode := .cellar, prev := .dormerWatch
                                 pwr := { s.pwr with pdown := none, railEnAon := false, entry := .none, sysResetHeld := false } }
    else s
  | none => s

/-! ## The other targets (rules R61, R64, R349, R456, R499) -/

/-- MODE_REQ_RESTART. -/
def modeReqRestartOp (s : State) : State :=
  s.modeReq 2 (fun t => t.idle || t.mode == .faultSafe || t.mode == .rejoin) fun t => (t.modeResult St.done 2).restart causeHost

/-- MODE_REQ_SURVEY. -/
def modeReqSurveyOp (s : State) : State := s.modeReq 4 State.idle fun t => (t.modeResult St.done 4).enterSurvey

/-- MODE_REQ_FLEET_STOP: every token is released and IDLE is set. -/
def modeReqFleetStopOp (s : State) : State :=
  s.modeReq 5 (fun t => t.mode == .fleetHold) fun t =>
    if !t.standstill then t.modeResult St.conflict 5
    else (((t.leaveCommitting.enterMode .hostedIdle).releaseAll none).wr Reg.TRP_HOLD_CAUSE_IDLE 1).modeResult St.done 5

/-- FLEET_START takes effect: IDLE clears; GO and FLEET_RUN, or FLEET_HOLD at once under another HOLD cause. -/
def State.startFleet (s : State) : State :=
  let a : State := { s with trp := { s.trp with mark := false }, twn := { s.twn with arb := false } }
  let b := (((a.wr Reg.TRP_HOLD_CAUSE_IDLE 0).wr Reg.CLK_MODE_STATUS_IN_TRANSIT 0).modeResult St.done 6).enterMode .fleetRun
  if b.anyHold then b.enterMode .fleetHold else b.setFleet .go

/-- MODE_REQ_FLEET_START: on a twin the claim is arbitrated first. -/
def modeReqFleetStartOp (s : State) : State :=
  s.modeReq 6 (fun t => t.idle && t.life == 2) fun t =>
    if t.isPending Reg.LDR_MAP_COMMIT_RESULT then t.modeResult St.busy 6
    else if !t.on Reg.CLK_ADMIT_STATUS_TABLES_COMMITTED || !t.refValid || t.trp.fleet == .stop then t.modeResult St.conflict 6
    else if !t.on Reg.FJR_CFG_TWIN_EN then t.startFleet
    else if t.on Reg.FJR_STATUS_CLAIM_IN then t.modeResult St.conflict 6
    else (({ t with twn := { t.twn with arb := true } }).wr Reg.CLK_MODE_STATUS_IN_TRANSIT 1).modeResult St.pending 6

/-- CLAIM_ARBITRATION_END, 200 µs after CLAIM_OUT: seat A drops its claim if CLAIM_IN is asserted. -/
def claimArbitrationEndOp (s : State) : State :=
  if !s.twn.arb then s
  else
    if (s.seat == 0 && s.on Reg.FJR_STATUS_CLAIM_IN) || s.twn.stopped then
      (({ s with twn := { s.twn with arb := false } }).wr Reg.CLK_MODE_STATUS_IN_TRANSIT 0).modeResult St.conflict 6
    else s.startFleet

/-! ## The admission ladder (rules R45, R61, R68 to R70, R285, R498, R517) -/

/-- The ladder goes on: an image runs and REFCLK was accepted. -/
def State.ladder (s : State) : Bool := s.upd.image && s.rd Reg.CLK_SRC_STATUS_REFCLK_FREQ != 3

/-- PLL_LOCK_BOOT. -/
def pllLockBootOp (s : State) : State :=
  if s.mode ≠ .boot ∨ s.rd Reg.CLK_SRC_STATUS_REFCLK_FREQ = 3 ∨ !s.on Reg.CLK_SRC_STATUS_REFCLK_PRESENT then s
  else
    s.adcRuns.wrEach [(Reg.CLK_SRC_STATUS_PLL_CORE_LOCK, 1), (Reg.CLK_SRC_STATUS_PLL_SERDES_LOCK, 1), (Reg.CLK_SRC_STATUS_CORE_ON_RC4M, 0)]

/-- MEMORY_TEST_COMPLETE: the map words, buckets and grant slots that failed; the map is ready with every other cell FREE. -/
def memoryTestCompleteOp (words buckets grants : List Nat) (s : State) : State :=
  if s.mode ≠ .boot ∨ !s.upd.image then s
  else
    let bad := (words ++ buckets.flatMap s.bucketCells).foldl (fun (l : List Nat) c => insertNat c l) []
    let blocked := bad.filter fun c => decide (c < s.cellCount)
    let beyond := (bad.filter fun c => decide (c ≥ s.cellCount)).map fun c => s.rd Reg.LDR_MAP_BASE_ADDR + 8 * c
    let t : State := { s with ldr := { s.ldr with blocked := blocked, badWords := beyond, badGrant := grants } }
    t.wrEach [(Reg.LDR_BLOCKED_CELLS, blocked.length), (Reg.LDR_FREE, 64 * t.cellCount - 64 * blocked.length),
              (Reg.LDR_SLOT_NOW, slotOf t.slotMs t.now), (Reg.LDR_STATUS_SLOT_POS, slotOf t.slotMs t.now % 64), (Reg.LDR_STATUS_MAP_READY, 1)]

/-- LAN_ADMIT; the operands say which links are up. -/
def lanAdmitOp (a b : Bool) (s : State) : State :=
  if !s.ladder then s
  else
    let up := if s.on Reg.CLK_SRC_STATUS_PLL_SERDES_LOCK then (if a then [0] else []) ++ (if b then [1] else []) else []
    { s.loadFlows.wr Reg.CLK_ADMIT_STATUS_LAN_ADMITTED 1 with
      pwr := { s.pwr with lanOpen := !s.pwr.pfailLatched && s.pwr.pdown.isNone }, zyp := { s.zyp with lanUp := up } }

/-- LAN_LINK_UP of a port. -/
def lanLinkUpOp (lanB : Bool) (s : State) : State :=
  if s.on Reg.CLK_ADMIT_STATUS_LAN_ADMITTED && s.on Reg.CLK_SRC_STATUS_PLL_SERDES_LOCK then
    { s with zyp := { s.zyp with lanUp := insertNat (bit lanB) s.zyp.lanUp } }
  else s

/-- BEACON_START. -/
def beaconStartOp (s : State) : State := if s.ladder then s.wr Reg.CLK_ADMIT_STATUS_BEACON_ON 1 else s

/-- BOOT_COMPLETE: credits rise to the allotments and the mode changes by the transition table. -/
def bootCompleteOp (s : State) : State :=
  if s.mode ≠ .boot ∨ !s.ladder then s
  else
    let a := ((s.wr Reg.CLK_ADMIT_STATUS_BOOT_DONE 1).wr Reg.HRE_STATUS_BOOT_CAP 0).showCaster
    let b := (List.range 128).foldl (fun (t : State) n => if t.isSub n then t.raiseLimit n else t) a
    if b.headsRejoin then (b.wr Reg.FJR_STATUS_REJOIN_STATE 1).enterMode .rejoin
    else if !b.refValid then b.enterSurvey
    else b.enterMode (if b.hre.claimed then .hostedIdle else .pantry)

/-- PTP_ACCEPT_START: the enabled ports leave INITIALIZING. -/
def ptpAcceptStartOp (s : State) : State :=
  if !s.ladder then s
  else
    let next := if s.rd Reg.TIM_PTP_CFG_ROLE = 0 then 6 else 4
    let port (b : Bool) (t : State) : State := if t.ptpPort b && t.rd (portState b) == 1 then t.wr (portState b) next else t
    let t : State := { s with tim := { s.tim with ptpOn := true } }
    port true (port false (t.wr Reg.CLK_ADMIT_STATUS_PTP_ACCEPT 1))

/-- MS_SINCE_RELEASE of CLK_ADMIT_STATUS: milliseconds of yard time since reset release, stopping at 0xFFFF. -/
def State.msSinceRelease (s : State) : Nat :=
  min 0xFFFF (s.sinceRelease / 1000000)

/-! ## Meanings -/

/-- Meaning of MODE_REQ_CELLAR. -/
def execModeReqCellar (s : State) : Out := .next (s.whenMain modeReqCellarOp)
/-- Meaning of MODE_REQ_DORMER_WATCH. -/
def execModeReqDormerWatch (s : State) : Out := .next (s.whenMain modeReqDormerWatchOp)
/-- Meaning of MODE_REQ_RESTART. -/
def execModeReqRestart (s : State) : Out := .next (s.whenMain modeReqRestartOp)
/-- Meaning of MODE_REQ_SURVEY. -/
def execModeReqSurvey (s : State) : Out := .next (s.whenMain modeReqSurveyOp)
/-- Meaning of MODE_REQ_FLEET_STOP. -/
def execModeReqFleetStop (s : State) : Out := .next (s.whenMain modeReqFleetStopOp)
/-- Meaning of MODE_REQ_FLEET_START. -/
def execModeReqFleetStart (s : State) : Out := .next (s.whenMain modeReqFleetStartOp)
/-- Meaning of CLAIM_ARBITRATION_END. -/
def execClaimArbitrationEnd (s : State) : Out := .next (s.whenMain claimArbitrationEndOp)
/-- Meaning of PDOWN_DESCRIPTOR_ABORT. -/
def execPdownDescriptorAbort (s : State) : Out := .next (s.whenMain pdownDescriptorAbortOp)
/-- Meaning of PDOWN_DRAIN_TIMEOUT. -/
def execPdownDrainTimeout (s : State) : Out := .next (s.whenMain pdownDrainTimeoutOp)
/-- Meaning of PDOWN_OUTPUTS_STOP. -/
def execPdownOutputsStop (s : State) : Out := .next (s.whenMain pdownOutputsStopOp)
/-- Meaning of PDOWN_RAIL_CUT. -/
def execPdownRailCut (s : State) : Out := .next (s.whenMain pdownRailCutOp)
/-- Meaning of PDOWN_CELLAR_ENTRY. -/
def execPdownCellarEntry (s : State) : Out := .next (pdownCellarEntryOp s)
/-- Meaning of PLL_LOCK_BOOT. -/
def execPllLockBoot (s : State) : Out := .next (s.whenMain pllLockBootOp)
/-- Meaning of MEMORY_TEST_COMPLETE. -/
def execMemoryTestComplete (words buckets : List (BitVec 23)) (grants : List (BitVec 11)) (s : State) : Out :=
  .next (s.whenMain (memoryTestCompleteOp (words.map BitVec.toNat) (buckets.map BitVec.toNat) (grants.map BitVec.toNat)))
/-- Meaning of LAN_ADMIT. -/
def execLanAdmit (a b : Bool) (s : State) : Out := .next (s.whenMain (lanAdmitOp a b))
/-- Meaning of LAN_LINK_UP. -/
def execLanLinkUp (lanB : Bool) (s : State) : Out := .next (s.whenMain (lanLinkUpOp lanB))
/-- Meaning of BEACON_START. -/
def execBeaconStart (s : State) : Out := .next (s.whenMain beaconStartOp)
/-- Meaning of BOOT_COMPLETE. -/
def execBootComplete (s : State) : Out := .next (s.whenMain fun t => t.unlessPfail bootCompleteOp)
/-- Meaning of PTP_ACCEPT_START. -/
def execPtpAcceptStart (s : State) : Out := .next (s.whenMain ptpAcceptStartOp)

end Sys2Proof.Machine
end

