-- ==== Sys2Proof/Machine/Global.lean ====
section
/-! DEFINITION. Register accesses (rules R4, R57, R95, R140, R294, R298, R340, R546, R548 to R550) and the ID and Global and
Memory Controller blocks (chapter 23). -/

namespace Sys2Proof.Machine

/-! ## Sticky bits (rule R57) -/

/-- The sticky bits that stand for a condition, and whether the condition holds. -/
def State.conditions (s : State) : List (Fld × Bool) :=
  [(Reg.CLK_FAULT_REFCLK_LOST, !s.on Reg.CLK_SRC_STATUS_REFCLK_PRESENT),
   (Reg.CLK_FAULT_XTAL32_LOST, s.on Reg.CLK_SRC_STATUS_XTAL32_FALLBACK),
   (Reg.CLK_FAULT_PLL_CORE_UNLOCK, !s.on Reg.CLK_SRC_STATUS_PLL_CORE_LOCK),
   (Reg.CLK_FAULT_PLL_ADC_UNLOCK, !s.on Reg.CLK_SRC_STATUS_PLL_ADC_LOCK),
   (Reg.CLK_FAULT_PLL_SERDES_UNLOCK, !s.on Reg.CLK_SRC_STATUS_PLL_SERDES_LOCK),
   (Reg.CLK_FAULT_THERM_WARN, s.pwr.warnCond), (Reg.GLB_FAULT_THERM_WARN, s.pwr.warnCond),
   (Reg.CLK_FAULT_THERM_CRIT, decide (signed 16 (s.rd Reg.CLK_TEMP_TJ_NOW) ≥ 880)),
   (Reg.CLK_FAULT_REFCLK_BAD_FREQ, s.rd Reg.CLK_SRC_STATUS_REFCLK_FREQ == 3),
   (Reg.RNG_FAULT_ADC_GAP, !s.on Reg.CLK_SRC_STATUS_PLL_ADC_LOCK),
   (Reg.RNG_FAULT_ANT_A_FAULT, s.on Reg.RNG_STATUS_ANT_A_FLT), (Reg.RNG_FAULT_ANT_B_FAULT, s.on Reg.RNG_STATUS_ANT_B_FLT),
   (Reg.COR_FAULT_DISTURBED, s.on Reg.COR_STATUS_DISTURBED), (Reg.COR_FAULT_MON_DEGRADED, s.on Reg.COR_STATUS_MON_DEGRADED),
   (Reg.LDR_FAULT_AUDIT, s.on Reg.LDR_STATUS_AUDIT_LOCK), (Reg.TRK_FAULT_TASK_AUDIT, s.on Reg.TRK_STATUS_AUDIT_LOCK),
   (Reg.TRP_FAULT_DISCREPANCY, s.on Reg.TRP_STATUS_DISC_COND), (Reg.TRP_FAULT_OUT_FAULT, s.on Reg.TRP_STATUS_OUT_COND),
   (Reg.TRP_FAULT_RC4M_FAULT, s.on Reg.TRP_STATUS_RC4M_COND), (Reg.TRP_FAULT_PROOF_DUE, s.on Reg.TRP_STATUS_PROOF_DUE),
   (Reg.DRM_FAULT_SLOW_CLOCK, s.on Reg.CLK_SRC_STATUS_XTAL32_FALLBACK),
   (Reg.FJR_FAULT_INTERLOCK_OPEN, !s.on Reg.FJR_STATUS_LIVE_CONT || !s.on Reg.FJR_STATUS_CLAIM_CONT),
   (Reg.FJR_FAULT_LANE_DEGRADED, s.rd Reg.FJR_STATUS_LANE0_OK != s.rd Reg.FJR_STATUS_LANE1_OK),
   (Reg.VLT_FAULT_SELFTEST, s.on Reg.VLT_STATUS_SELFTEST_FAIL), (Reg.TLY_FAULT_MEM_FAIL, s.on Reg.TLY_STATUS_DEGRADED)]

/-- The sticky bits that are 1 and that a write of v to the register at `off` clears. -/
def State.hits (s : State) (off v : Nat) : List Fld :=
  stickyBits.filter fun (f : Fld) => f.off == off && bits v f.lo 1 == 1 && s.on f

/-- STICKY_FAULT_CLEAR: the bits clear, and those whose condition persists are set again. -/
def stickyFaultClearOp (off v : Nat) (s : State) : State :=
  let hit := s.hits off v
  let t := s.wrEach (hit.map fun (f : Fld) => (f, 0))
  let again := (s.conditions.filter fun (p : Fld × Bool) => p.2 && hit.contains p.1).map (·.1)
  again.foldl (fun (a : State) f => a.faultWith f (bit (f == Reg.RNG_FAULT_ANT_B_FAULT))) t

/-! ## Registers that shape what is written, apertures and bulk windows -/

/-- A write to the MSI-X table (rule R114). -/
def State.msixWrite (s : State) (off v : Nat) : State :=
  let k := (off - 0x28000) / 16
  match (off % 16) / 4 with
  | 0 => s.wr (Reg.MSIX_ADDR_LO k) v
  | 1 => s.wr (Reg.MSIX_ADDR_HI k) v
  | 2 => s.wr (Reg.MSIX_DATA k) v
  | _ => if v % 2 = 1 then s.wr (Reg.MSIX_MASK k) 1 else msixUnmaskOp k s

/-- A write to CLK_MODE_REQ (rule R78). -/
def State.modeReqWrite (s : State) (v : Nat) : State :=
  let target := v % 16
  if bits v 31 1 = 0 then s.wr Reg.CLK_MODE_REQ_TARGET target
  else match target with
    | 0 => modeReqCellarOp s
    | 1 => modeReqDormerWatchOp s
    | 2 => modeReqRestartOp s
    | 4 => modeReqSurveyOp s
    | 5 => modeReqFleetStopOp s
    | 6 => modeReqFleetStartOp s
    | _ => (s.wr Reg.CLK_MODE_REQ_TARGET target).modeResult St.badFormat target

/-- A write to a shadow held as words, ignored with `busy` while its group's commit is PENDING. -/
def State.wordWrite (s : State) (pending : Bool) (busy : Fld) (body : State → State) : State :=
  if pending then s.fault busy else body s

/-- A write to an aperture or bulk window, or to a register that shapes what is written; every other write is plain. -/
def State.regWrite (s : State) (off v : Nat) : State :=
  let is := fun (lo n : Nat) => decide (lo ≤ off ∧ off < lo + n)
  let at_ := fun (lo : Nat) => (off - lo) / 4
  if is 0x800000 0xD0000 then
    s.wordWrite (s.isPending Reg.TRK_COMMIT_RESULT) Reg.TRK_FAULT_SHADOW_BUSY fun t =>
      { t with trk := { t.trk with shadow := AMap.put (at_ 0x800000) v 0 t.trk.shadow } }
  else if is 0x8E0000 0x1100 then
    s.wordWrite (s.isPending Reg.GOV_PACE_COMMIT_RESULT) Reg.GLB_FAULT_COMMIT_BUSY fun t =>
      { t with gov := { t.gov with shadow := AMap.put (at_ 0x8E0000) v 0 t.gov.shadow } }
  else if is 0xD1000 0x400 then { s with drm := { s.drm with rulesSh := AMap.put (at_ 0xD1000) v 0 s.drm.rulesSh } }
  else if is 0x41000 0x1000 then
    let n := s.rd Reg.HST_SEL_CHANNEL
    s.setChan n { s.chan n with progSh := AMap.put (at_ 0x41000) v 0 (s.chan n).progSh }
  else if is 0x151000 0x2000 then { s with tly := { s.tly with hdefSh := AMap.put (at_ 0x151000) v 0 s.tly.hdefSh } }
  else if is 0x153000 0x800 then { s with tly := { s.tly with xdefSh := AMap.put (at_ 0x153000) v 0 s.tly.xdefSh } }
  else if is 0x28000 0x100 then s.msixWrite off v
  else if is 0x40040 0x20 then tickConfigWriteOp (at_ 0x40040) v s
  else if is 0x50800 0x400 then s.wr (Reg.DSP_WAKE_MAP (at_ 0x50800)) (v % 512 + 2147483648 * bits v 31 1)
  else if off = 0x5003C then
    let t := s.wr Reg.DSP_OBS_CTRL_LOAD_WINDOW (max 1 (v % 65536))
    if bits v 16 1 = 1 then obsLatchOp t else t
  else if off = 0x10008 then xtal32CfgWriteOp v s
  else if off = 0x10014 then s.wr Reg.CLK_THERM_CFG_WARN_LEVEL (max 0x280 (min 0x348 (signed 16 v))).toNat
  else if off = 0x10104 then s.modeReqWrite v
  else if off = 0x30000 then s.wr Reg.CHU_SEL_CHUTE (min 95 (v % 128))
  else s.plainWrite off v

/-- The HOST_WRITE bit of the block whose service-core register or view lies at `off` (rules R140, R142, R143, R176, R179,
R544); none where the host may write. -/
def hostBarred (off : Nat) : Option Fld :=
  let is := fun (lo n : Nat) => decide (lo ≤ off ∧ off < lo + n)
  if is 0x30000 0xC || is 0x31000 0x1800 then some Reg.CHU_FAULT_HOST_WRITE
  else if is 0x40000 0x10000 then some Reg.HST_FAULT_HOST_WRITE
  else if is 0x50004 0xC || is 0x50014 0xC || is 0x5003C 4 || is 0x50100 0x24 || is 0x50800 0x400 || is 0x51000 0x800 || is 0x52000 0x1000 then
    some Reg.DSP_FAULT_HOST_WRITE
  else if is 0x151000 0x1000 || is 0x153000 0x600 then some Reg.TLY_FAULT_HOST_WRITE
  else none

/-- PROTECTED_HOST_WRITE: no effect but HOST_WRITE. -/
def protectedHostWriteOp (off : Nat) (s : State) : State :=
  if !s.hre.served then s
  else match hostBarred off with
    | some f => s.fault f
    | none => s

/-- BAD_SIZE_ACCESS (rule R95). -/
def badSizeAccessOp (s : State) : State := if s.hre.served then s.fault Reg.HRE_FAULT_BAD_ACCESS else s

/-- The 64-bit Larder counters. -/
def ldrCounter (k : Nat) : Fld :=
  match k with | 0 => Reg.LDR_GRANTED | 1 => Reg.LDR_RELEASED | 2 => Reg.LDR_EXPIRED | _ => Reg.LDR_CHECKS

/-- COUNTER_LATCH_READ (rule R294). -/
def counterLatchReadOp (k : Nat) (s : State) : State :=
  { s with ldr := { s.ldr with lo := AMap.put k (s.rd (ldrCounter k) / 4294967296) 0 s.ldr.lo } }

/-! ## ID and Global (rules R552 to R555) -/

/-- Group GLOBAL but for EPOCH_LEN. -/
def globalRest : List Fld := [Reg.GLB_CFG_FED_ID, Reg.GLB_EVENT_RING_RING, Reg.GLB_EVENT_RING_EN]

/-- GLOBAL_COMMIT (rules R13, R295, R323, R553). -/
def globalCommitOp (s : State) : State :=
  let len := s.sh Reg.GLB_CFG_EPOCH_LEN
  let fed := s.sh Reg.GLB_CFG_FED_ID
  let ring := s.sh Reg.GLB_EVENT_RING_RING
  let moves := len != s.rd Reg.GLB_CFG_EPOCH_LEN
  let v := firstFail
    [(len == 3, St.badFormat), (fed == broadcastId, St.badFormat),
     (s.sh Reg.GLB_EVENT_RING_EN == 1 && !(s.on (Reg.HRE_RING_CFG_ENABLE ring) && s.ringType ring == 4), St.badFormat),
     (decide (s.slotMs % epochLength len ≠ 0 ∨ s.rd Reg.GOV_CFG_LOOP_MS % epochLength len ≠ 0), St.badFormat),
     ((moves || fed != s.rd Reg.GLB_CFG_FED_ID) && (s.mode.fleet || s.follows), St.refusedMode)]
  if s.isPending Reg.GLB_COMMIT_RESULT then s.wr Reg.GLB_COMMIT_RESULT St.busy
  else if v ≠ St.done ∨ !moves then s.commit Reg.GLB_COMMIT_RESULT (Reg.GLB_CFG_EPOCH_LEN :: globalRest) v
  else (s.commit Reg.GLB_COMMIT_RESULT globalRest St.done).setPending Reg.GLB_COMMIT_RESULT

/-- GLB_ID. -/
def glbId : Nat := 0x00B19620

/-- IDENT (rule R555). -/
def identOp (c : Cmd) (s : State) : State :=
  s.hostCmd c .command fun t => if c.desc.length ≠ 0 then t.finish c St.badLength 0 0 else t.finish c St.done 0 glbId

/-- MEM_UNCORRECTABLE (rule R547). -/
def memUncorrectableOp (addr : Nat) (s : State) : State := s.memUncorr addr

/-! ## Meanings -/

/-- Meaning of STICKY_FAULT_CLEAR. -/
def execStickyFaultClear (off v : Word) (s : State) : Out := .next (s.whenMain (stickyFaultClearOp off.toNat v.toNat))
/-- Meaning of PROTECTED_HOST_WRITE. -/
def execProtectedHostWrite (off : Word) (s : State) : Out := .next (s.whenMain (protectedHostWriteOp off.toNat))
/-- Meaning of BAD_SIZE_ACCESS. -/
def execBadSizeAccess (s : State) : Out := .next (s.whenMain badSizeAccessOp)
/-- Meaning of COUNTER_LATCH_READ. -/
def execCounterLatchRead (k : Fin 4) (s : State) : Out := .next (s.whenMain (counterLatchReadOp k.val))
/-- Meaning of GLOBAL_COMMIT. -/
def execGlobalCommit (s : State) : Out := .next (s.whenMain globalCommitOp)
/-- Meaning of IDENT. -/
def execIdent (c : Cmd) (s : State) : Out := .next (s.whenMain (identOp c))
/-- Meaning of MEM_UNCORRECTABLE. -/
def execMemUncorrectable (addr : BitVec 34) (s : State) : Out := .next (s.whenMain (memUncorrectableOp addr.toNat))

end Sys2Proof.Machine
end

