-- ==== Sys2Proof/Machine/ReadMap.lean ====
section
/-! DEFINITION. The fields that a read of a register finds stored, block by block; from the register tables of spec/. -/

namespace Sys2Proof.Machine

/-- The fields of the k-th register of a family, where an offset lies in it. -/
def famAt (base stride count off : Nat) (f : Nat → List Fld) : List Fld :=
  if base ≤ off ∧ off < base + stride * count then f ((off - base) / stride) else []

/-- Stored fields of block 0x0 (GLB), those of selected objects by the select register. -/
def glbFields (_ : State) (_ : Nat) : List Fld :=
  [Reg.GLB_ID_PART, Reg.GLB_ID_STEPPING, Reg.GLB_FW_VER, Reg.GLB_FAULT_LOCKSTEP, Reg.GLB_FAULT_THERM_WARN,
     Reg.GLB_FAULT_OVERRUN, Reg.GLB_FAULT_COMMIT_BUSY, Reg.GLB_FAULT_CNT_SAT, Reg.GLB_EPOCH, Reg.GLB_OVERRUN,
     Reg.GLB_EVENT_LOST, Reg.GLB_CFG_EPOCH_LEN, Reg.GLB_CFG_FED_ID, Reg.GLB_EVENT_RING_RING, Reg.GLB_EVENT_RING_EN,
     Reg.GLB_COMMIT_RESULT]

/-- Stored fields of block 0x1 (CLK), those of selected objects by the select register. -/
def clkFields (_ : State) (_ : Nat) : List Fld :=
  [Reg.CLK_SRC_STATUS_REFCLK_PRESENT, Reg.CLK_SRC_STATUS_REFCLK_FREQ, Reg.CLK_SRC_STATUS_XTAL32_OK,
     Reg.CLK_SRC_STATUS_XTAL32_FALLBACK, Reg.CLK_SRC_STATUS_PLL_CORE_LOCK, Reg.CLK_SRC_STATUS_PLL_ADC_LOCK,
     Reg.CLK_SRC_STATUS_PLL_SERDES_LOCK, Reg.CLK_SRC_STATUS_CORE_ON_RC4M, Reg.CLK_FAULT_REFCLK_LOST,
     Reg.CLK_FAULT_XTAL32_LOST, Reg.CLK_FAULT_PLL_CORE_UNLOCK, Reg.CLK_FAULT_PLL_ADC_UNLOCK,
     Reg.CLK_FAULT_PLL_SERDES_UNLOCK, Reg.CLK_FAULT_PFAIL_SEEN, Reg.CLK_FAULT_BOD_RESET, Reg.CLK_FAULT_RAIL_TIMEOUT,
     Reg.CLK_FAULT_THERM_WARN, Reg.CLK_FAULT_THERM_CRIT, Reg.CLK_FAULT_THERM_CUT, Reg.CLK_FAULT_REFCLK_BAD_FREQ,
     Reg.CLK_XTAL32_CFG_LOAD_CAP, Reg.CLK_XTAL32_CFG_DRIVE, Reg.CLK_XTAL32_CFG_BYPASS, Reg.CLK_XTAL32_CFG_BYPASS_ACTIVE,
     Reg.CLK_RAIL_STATUS_RAIL_OK, Reg.CLK_RAIL_STATUS_VBAT_OK, Reg.CLK_TEMP_TJ_NOW, Reg.CLK_TEMP_TJ_MAX,
     Reg.CLK_THERM_CFG_WARN_LEVEL, Reg.CLK_PFAIL_COUNT, Reg.CLK_MODE_STATUS_IN_TRANSIT,
     Reg.CLK_MODE_STATUS_TWIN_CONFIGURED, Reg.CLK_MODE_REQ_TARGET, Reg.CLK_MODE_RESULT_STATUS, Reg.CLK_MODE_RESULT_TARGET,
     Reg.CLK_RESET_CAUSE_POWER_ON, Reg.CLK_RESET_CAUSE_SYS_RST, Reg.CLK_RESET_CAUSE_BOD,
     Reg.CLK_RESET_CAUSE_PFAIL_RESTART, Reg.CLK_RESET_CAUSE_HOST_RESTART, Reg.CLK_RESET_CAUSE_UPDATE_RESTART,
     Reg.CLK_RESET_CAUSE_WAKE, Reg.CLK_RESET_CAUSE_THERM_CUT, Reg.CLK_LAST_MODE_LAST_MODE, Reg.CLK_LAST_MODE_PFAIL_STAGE,
     Reg.CLK_LAST_MODE_FLUSH_INCOMPLETE, Reg.CLK_WAKE_CFG_WAKE_IN0_EN, Reg.CLK_WAKE_CFG_WAKE_IN0_POL,
     Reg.CLK_WAKE_CFG_WAKE_IN1_EN, Reg.CLK_WAKE_CFG_WAKE_IN1_POL, Reg.CLK_WAKE_CFG_THERM_AUTO, Reg.CLK_WAKE_CFG_DORMER_EN,
     Reg.CLK_WAKE_CFG_PFAIL_AUTO, Reg.CLK_WAKE_TIMER_SECONDS, Reg.CLK_WAKE_COMMIT_RESULT, Reg.CLK_WAKE_CAUSE_WAKE_IN0,
     Reg.CLK_WAKE_CAUSE_WAKE_IN1, Reg.CLK_WAKE_CAUSE_TIMER, Reg.CLK_WAKE_CAUSE_DORMER_RULE,
     Reg.CLK_WAKE_CAUSE_PFAIL_CLEAR, Reg.CLK_WAKE_CAUSE_THERM_CLEAR, Reg.CLK_WAKE_CAUSE_RULE_ID,
     Reg.CLK_PDOWN_CFG_DRAIN_TIMEOUT, Reg.CLK_ADMIT_STATUS_LAN_ADMITTED, Reg.CLK_ADMIT_STATUS_BEACON_ON,
     Reg.CLK_ADMIT_STATUS_BOOT_DONE, Reg.CLK_ADMIT_STATUS_PTP_ACCEPT, Reg.CLK_ADMIT_STATUS_TABLES_COMMITTED,
     Reg.CLK_ADMIT_DROP_A, Reg.CLK_ADMIT_DROP_B]

/-- Stored fields of block 0x2 (HRE), those of selected objects by the select register. -/
def hreFields (s : State) (off : Nat) : List Fld :=
  let ring := s.rd Reg.HRE_RING_SEL_RING
  [Reg.HRE_STATUS_LINK_UP, Reg.HRE_STATUS_HOST_PRESENT, Reg.HRE_STATUS_CLAIMED, Reg.HRE_STATUS_BOOT_CAP,
     Reg.HRE_STATUS_LINK_SPEED, Reg.HRE_STATUS_LINK_WIDTH, Reg.HRE_FAULT_HOST_LOST, Reg.HRE_FAULT_LINK_DOWN,
     Reg.HRE_FAULT_RING_HALTED, Reg.HRE_FAULT_STALE_DB, Reg.HRE_FAULT_DB_READ_ERR, Reg.HRE_FAULT_EVENT_LOST,
     Reg.HRE_FAULT_ABANDONED, Reg.HRE_FAULT_BAD_ACCESS, Reg.HRE_DB_BASE_ADDR, Reg.HRE_SH_BASE_ADDR,
     Reg.HRE_HOST_CFG_SESSION, Reg.HRE_HOST_CFG_HOST_LOSS_HOLD, Reg.HRE_POLL_CFG_POLL_PERIOD,
     Reg.HRE_POLL_CFG_HOST_TIMEOUT, Reg.HRE_HOST_COMMIT_RESULT, Reg.HRE_RING_SEL_RING, Reg.HRE_STALE_DB_COUNT,
     Reg.HRE_ABANDONED_COUNT, Reg.HRE_DB_READ_ERR_COUNT]
    ++ [Reg.HRE_RING_BASE_ADDR ring, Reg.HRE_RING_CFG_TYPE ring, Reg.HRE_RING_CFG_SIZE_LOG2 ring, Reg.HRE_RING_CFG_BIND ring,
       Reg.HRE_RING_CFG_VECTOR ring, Reg.HRE_RING_CFG_ENABLE ring, Reg.HRE_RING_CREDIT_ALLOT ring,
       Reg.HRE_RING_IRQ_COAL_COUNT ring, Reg.HRE_RING_IRQ_COAL_TIME ring, Reg.HRE_RING_COMMIT_RESULT ring,
       Reg.HRE_RING_NOCREDIT ring, Reg.HRE_RING_UNFETCHED ring, Reg.HRE_RING_LOST ring]
    ++ (List.range 16).map Reg.MSIX_PENDING
    ++ famAt 0x20080 4 16 off (fun k => [Reg.HRE_VEC_GAP_MIN_GAP k])
    ++ famAt 0x28000 16 16 off (fun k => [Reg.MSIX_ADDR_LO k, Reg.MSIX_ADDR_HI k, Reg.MSIX_DATA k, Reg.MSIX_MASK k])

/-- Stored fields of block 0x3 (CHU), those of selected objects by the select register. -/
def chuFields (s : State) (_ : Nat) : List Fld :=
  let c := s.rd Reg.CHU_SEL_CHUTE
  [Reg.CHU_SEL_CHUTE, Reg.CHU_FAULT_UNCORR, Reg.CHU_FAULT_SAT, Reg.CHU_FAULT_HOST_WRITE]
    ++ [Reg.CHU_CFG_ALLOT c, Reg.CHU_CFG_PKT_MAX c, Reg.CHU_CFG_ENABLE c, Reg.CHU_COMMIT_RESULT c, Reg.CHU_STATUS_CNT_SAT c,
       Reg.CHU_NOCREDIT c, Reg.CHU_OVERSIZE c, Reg.CHU_ABORTED c, Reg.CHU_BAD_LENGTH c, Reg.CHU_DROP_REST c,
       Reg.CHU_CORRECTED c, Reg.CHU_UNCORRECTED c, Reg.CHU_DISCARDED c]

/-- Stored fields of block 0x4 (HST), those of selected objects by the select register. -/
def hstFields (s : State) (off : Nat) : List Fld :=
  let ch := s.rd Reg.HST_SEL_CHANNEL
  [Reg.HST_FAULT_HALT, Reg.HST_FAULT_UNCORR, Reg.HST_FAULT_HOST_WRITE, Reg.HST_FAULT_CTRL_REFUSED,
     Reg.HST_FAULT_CNT_SAT, Reg.HST_SEL_CHANNEL]
    ++ [Reg.HST_CH_CFG_PROG_LEN ch, Reg.HST_CH_CFG_COMPL_MODE ch, Reg.HST_CH_CFG_RETRY_MAX ch, Reg.HST_CH_CFG_ARB_PRIO ch,
       Reg.HST_CH_COMMIT_RESULT ch, Reg.HST_CH_COMMIT_BAD_INDEX ch]
    ++ famAt 0x40040 4 8 off (fun k => [Reg.HST_TICK_PERIOD k])
    ++ famAt 0x40100 16 32 off (fun k => [Reg.HST_CH_RETRY k, Reg.HST_CH_MERGED k])

/-- Stored fields of block 0x5 (DSP), those of selected objects by the select register. -/
def dspFields (s : State) (off : Nat) : List Fld :=
  let t := s.rd Reg.DSP_THR_SEL
  let f := s.rd Reg.DSP_FLOW_SEL
  [Reg.DSP_FAULT_HOST_WRITE, Reg.DSP_FAULT_CNT_SAT, Reg.DSP_FAULT_STALL, Reg.DSP_THR_SEL, Reg.DSP_FLOW_SEL,
     Reg.DSP_WAKE_MERGED, Reg.DSP_WAKE_UNMAPPED, Reg.DSP_OBS_CTRL_LOAD_WINDOW]
    ++ [Reg.DSP_THR_CFG_PRIO t, Reg.DSP_THR_CFG_AFFINITY t, Reg.DSP_THR_CFG_ENABLE t, Reg.DSP_THR_COMMIT_RESULT t]
    ++ [Reg.DSP_FLOW_CFG_WIN_MAX f, Reg.DSP_FLOW_CFG_THREAD_BASE f, Reg.DSP_FLOW_CFG_POOL f, Reg.DSP_FLOW_CFG_ENABLE f,
       Reg.DSP_FLOW_COMMIT_RESULT f, Reg.DSP_FLOW_ADMITTED f, Reg.DSP_FLOW_RELEASED f, Reg.DSP_FLOW_STALL f,
       Reg.DSP_FLOW_DISCARD f]
    ++ famAt 0x50100 4 9 off (fun k => [Reg.DSP_CORE_CFG k])
    ++ famAt 0x50800 4 256 off (fun k => [Reg.DSP_WAKE_MAP k])

/-- Stored fields of block 0x6 (RNG), those of selected objects by the select register. -/
def rngFields (s : State) (_ : Nat) : List Fld :=
  let sig := s.rd Reg.RNG_LOOP_SEL
  [Reg.RNG_STATUS_ADC_A_OK, Reg.RNG_STATUS_ADC_B_OK, Reg.RNG_STATUS_ANT_A_FLT, Reg.RNG_STATUS_ANT_B_FLT,
     Reg.RNG_STATUS_MEAS_RUNNING, Reg.RNG_STATUS_CH_A, Reg.RNG_STATUS_CH_B, Reg.RNG_FAULT_ANT_A_FAULT,
     Reg.RNG_FAULT_ANT_B_FAULT, Reg.RNG_FAULT_CLIP_A, Reg.RNG_FAULT_CLIP_B, Reg.RNG_FAULT_MEAS_DROP,
     Reg.RNG_FAULT_ALLOC_SHORT, Reg.RNG_FAULT_ADC_GAP, Reg.RNG_FAULT_CNT_SAT, Reg.RNG_MEAS_CFG_RATE,
     Reg.RNG_MEAS_CFG_ANT_A_EN, Reg.RNG_MEAS_CFG_ANT_B_EN, Reg.RNG_MEAS_CFG_ELEV_MASK, Reg.RNG_MEAS_CFG_CN0_LOSS,
     Reg.RNG_SIG_EN_EN, Reg.RNG_ACQ_CFG_DOPPLER_KHZ, Reg.RNG_ACQ_CFG_DWELL, Reg.RNG_ACQ_CFG_THRESH,
     Reg.RNG_MEAS_COMMIT_RESULT, Reg.RNG_LOOP_SEL, Reg.RNG_BANDPWR_A_DDC0, Reg.RNG_BANDPWR_A_DDC1, Reg.RNG_BANDPWR_A_DDC2,
     Reg.RNG_BANDPWR_A_DDC3, Reg.RNG_BANDPWR_B_DDC0, Reg.RNG_BANDPWR_B_DDC1, Reg.RNG_BANDPWR_B_DDC2,
     Reg.RNG_BANDPWR_B_DDC3, Reg.RNG_CLIP_A, Reg.RNG_CLIP_B, Reg.RNG_MEAS_SEQ, Reg.RNG_MEAS_DROP, Reg.RNG_ALLOC_SHORT,
     Reg.RNG_SLIP_COUNT, Reg.RNG_NAV_FAIL]
    ++ [Reg.RNG_LOOP_CFG_PLL_BW sig, Reg.RNG_LOOP_CFG_FLL_BW sig, Reg.RNG_LOOP_CFG_DLL_BW sig, Reg.RNG_LOOP_CFG_T_COH sig,
       Reg.RNG_LOOP_CFG_SPACING sig, Reg.RNG_LOOP_COMMIT_RESULT sig]

/-- Stored fields of block 0x7 (COR), those of selected objects by the select register. -/
def corFields (_ : State) (_ : Nat) : List Fld :=
  [Reg.COR_STATUS_REF_VALID, Reg.COR_STATUS_ORIGIN, Reg.COR_STATUS_BASELINE_SET, Reg.COR_STATUS_DISTURBED,
     Reg.COR_STATUS_RTCM_ON, Reg.COR_STATUS_COMPACT_ON, Reg.COR_STATUS_CASTER_OPEN, Reg.COR_STATUS_RATE_CAPPED,
     Reg.COR_STATUS_MON_DEGRADED, Reg.COR_FAULT_DISTURBED, Reg.COR_FAULT_MON_DEGRADED, Reg.COR_FAULT_EPOCH_MISSED,
     Reg.COR_FAULT_CLIENT_REFUSED, Reg.COR_FAULT_AUTH_FAIL, Reg.COR_FAULT_COMPACT_TRUNC, Reg.COR_FAULT_CNT_SAT,
     Reg.COR_FAULT_SURVEY_LONG, Reg.COR_REF_X, Reg.COR_REF_Y, Reg.COR_REF_Z, Reg.COR_REF_CFG_MARK_HEIGHT,
     Reg.COR_REF_CFG_PCO_UP, Reg.COR_BASE_E, Reg.COR_BASE_N, Reg.COR_BASE_U, Reg.COR_REF_COMMIT_RESULT,
     Reg.COR_SURVEY_CFG_MIN_TIME, Reg.COR_SURVEY_CFG_ACC_LIMIT, Reg.COR_SURVEY_STATUS_ELAPSED,
     Reg.COR_SURVEY_STATUS_SIGMA, Reg.COR_SURVEY_STATUS_STATE, Reg.COR_RTCM_CFG_RATE, Reg.COR_RTCM_CFG_SYS_EN,
     Reg.COR_RTCM_CFG_STA_PERIOD, Reg.COR_RTCM_CFG_BIAS_PERIOD, Reg.COR_RTCM_CFG_DESC_PERIOD, Reg.COR_RTCM_ID_STATION_ID,
     Reg.COR_RTCM_ID_ID_AUTO, Reg.COR_COMPACT_CFG_CRATE, Reg.COR_COMPACT_CFG_C_EN, Reg.COR_COMPACT_CFG_C_SYS,
     Reg.COR_COMPACT_CFG_MAX_SV, Reg.COR_COMPACT_CFG_POS_EVERY, Reg.COR_RTCM_COMMIT_RESULT, Reg.COR_CASTER_CFG_PORT,
     Reg.COR_CASTER_CFG_MAX_CLIENTS, Reg.COR_CASTER_CFG_V1_EN, Reg.COR_CASTER_CFG_LAN_A_EN, Reg.COR_CASTER_CFG_LAN_B_EN,
     Reg.COR_CASTER_COMMIT_RESULT, Reg.COR_MON_CFG_DEV_LIM, Reg.COR_MON_CFG_PERSIST, Reg.COR_MON_CFG_DRIFT_LIM,
     Reg.COR_MON_CFG_DIST_STOP, Reg.COR_MON_CFG_MON_EN, Reg.COR_MON_COMMIT_RESULT, Reg.COR_MON_CTRL_DIST_CLEAR,
     Reg.COR_MON_CTRL_RESULT, Reg.COR_MON_RESULT_DEV, Reg.COR_MON_RESULT_RESULT, Reg.COR_MON_RESULT_FAIL_RUN,
     Reg.COR_MON_DRIFT, Reg.COR_CLIENTS, Reg.COR_MSG_COUNT, Reg.COR_EPOCH_MISSED, Reg.COR_CLIENT_REFUSED,
     Reg.COR_AUTH_FAIL, Reg.COR_CLIENT_SKIP, Reg.COR_CLIENT_CLOSED, Reg.COR_COMPACT_TRUNC]

/-- Stored fields of block 0x8 (CRE), those of selected objects by the select register. -/
def creFields (_ : State) (off : Nat) : List Fld :=
  [Reg.CRE_STATUS_RUNNING, Reg.CRE_STATUS_PUBLISHING, Reg.CRE_STATUS_FRAME_SET, Reg.CRE_STATUS_BASE_OK,
     Reg.CRE_STATUS_ACTIVE, Reg.CRE_STATUS_FIXED, Reg.CRE_FAULT_NO_BASE, Reg.CRE_FAULT_LATE, Reg.CRE_FAULT_XCHK,
     Reg.CRE_FAULT_HOLD_LOSS, Reg.CRE_FAULT_SEARCH_LIMIT, Reg.CRE_FAULT_PART_LOST, Reg.CRE_FAULT_CNT_SAT,
     Reg.CRE_FAULT_STATE_ECC, Reg.CRE_FILT_CFG_CODE_SIGMA, Reg.CRE_FILT_CFG_PHASE_SIGMA, Reg.CRE_FILT_CFG_ELEV_MIN,
     Reg.CRE_FILT_CFG_CN0_MIN, Reg.CRE_FILT_CFG_ACC_PSD, Reg.CRE_AR_CFG_RATIO_MIN, Reg.CRE_AR_CFG_MIN_AMB,
     Reg.CRE_AR_CFG_PAR_STEPS, Reg.CRE_AR_CFG_HOLD_AFTER, Reg.CRE_AR_CFG_LOCK_MIN, Reg.CRE_AR_CFG_PDOP_MAX,
     Reg.CRE_AR_LIM_PF_MAX, Reg.CRE_AR_LIM_NODE_CODE, Reg.CRE_AR_LIM_RESID_LIM, Reg.CRE_AR_LIM_GAP_RESET,
     Reg.CRE_INTAKE_CFG_AGE_MAX, Reg.CRE_FILT_COMMIT_RESULT, Reg.CRE_FRAME_X, Reg.CRE_FRAME_Y, Reg.CRE_FRAME_Z,
     Reg.CRE_FRAME_ROT, Reg.CRE_FRAME_COMMIT_RESULT, Reg.CRE_XCHK_CFG_XCHK_PERSIST, Reg.CRE_XCHK_CFG_XCHK_EN,
     Reg.CRE_XCHK_COMMIT_RESULT, Reg.CRE_OBS_IN, Reg.CRE_REF_MODE, Reg.CRE_REF_FORMAT, Reg.CRE_REF_LENGTH,
     Reg.CRE_REF_STALE, Reg.CRE_REF_CONFLICT, Reg.CRE_PHASE_WRONG, Reg.CRE_PART_LOST, Reg.CRE_NO_BASE, Reg.CRE_AR_TRY,
     Reg.CRE_AR_OK, Reg.CRE_SEARCH_LIMIT, Reg.CRE_HOLD_LOSS, Reg.CRE_RESID_REJ, Reg.CRE_XCHK_EVENTS, Reg.CRE_LATE,
     Reg.CRE_OUT_DROP, Reg.CRE_LATENCY, Reg.CRE_SAT_TRIM]
    ++ famAt 0x80100 4 12 off (fun k => [Reg.CRE_XCHK_LIM k])
    ++ famAt 0x80200 4 256 off (fun k => [Reg.CRE_ROBOT_FIX k, Reg.CRE_ROBOT_ACTIVE k, Reg.CRE_ROBOT_XCHK_FAIL k, Reg.CRE_ROBOT_SATS k,
         Reg.CRE_ROBOT_AMB_FIXED k])

/-- Stored fields of block 0x9 (LDR), those of selected objects by the select register. -/
def ldrFields (_ : State) (off : Nat) : List Fld :=
  [Reg.LDR_STATUS_MAP_READY, Reg.LDR_STATUS_GRANTING, Reg.LDR_STATUS_AUDIT_LOCK, Reg.LDR_STATUS_SWEEPING,
     Reg.LDR_STATUS_RECOUNTING, Reg.LDR_STATUS_SLOT_POS, Reg.LDR_FAULT_AUDIT, Reg.LDR_FAULT_RECOUNT,
     Reg.LDR_FAULT_MAP_ECC, Reg.LDR_FAULT_HOLD_ECC, Reg.LDR_FAULT_HOLDER_FULL, Reg.LDR_FAULT_DEFERRED,
     Reg.LDR_FAULT_CNT_SAT, Reg.LDR_FAULT_SWEEP_LATE, Reg.LDR_MAP_GEOM_WX, Reg.LDR_MAP_GEOM_HY, Reg.LDR_MAP_GEOM_CELL,
     Reg.LDR_MAP_GEOM_SLOT, Reg.LDR_MAP_X0, Reg.LDR_MAP_Y0, Reg.LDR_CTRL_AUDIT_CLEAR, Reg.LDR_CTRL_RESULT,
     Reg.LDR_MAP_BASE_ADDR, Reg.LDR_HOLD_BASE_ADDR, Reg.LDR_GRANT_BASE_ADDR, Reg.LDR_MAP_COMMIT_RESULT,
     Reg.LDR_REQ_CFG_MARGIN_MM, Reg.LDR_REQ_CFG_MAX_TOKENS, Reg.LDR_ENV_CFG, Reg.LDR_SCRUB_CFG,
     Reg.LDR_RULES_COMMIT_RESULT, Reg.LDR_SLOT_NOW, Reg.LDR_HELD, Reg.LDR_PENDING, Reg.LDR_FREE, Reg.LDR_BLOCKED_CELLS,
     Reg.LDR_FORCED, Reg.LDR_REQ_COUNT, Reg.LDR_REQ_REFUSED, Reg.LDR_REQ_DEFERRED, Reg.LDR_AUDIT_EPOCH]
    ++ famAt 0x90400 4 256 off (fun k => [Reg.LDR_ROBOT_HELD k, Reg.LDR_ROBOT_GRANTS k, Reg.LDR_ROBOT_ENV k, Reg.LDR_ROBOT_LOST k])

/-- Stored fields of block 0xa (TRK), those of selected objects by the select register. -/
def trkFields (_ : State) (_ : Nat) : List Fld :=
  [Reg.TRK_STATUS_LIVE, Reg.TRK_STATUS_PENDING, Reg.TRK_STATUS_AUDIT_LOCK, Reg.TRK_STATUS_TABLE_HOLD,
     Reg.TRK_FAULT_TASK_AUDIT, Reg.TRK_FAULT_SHADOW_BUSY, Reg.TRK_FAULT_NO_TRANSITION, Reg.TRK_FAULT_FORCED,
     Reg.TRK_FAULT_TABLE_ECC, Reg.TRK_FAULT_CNT_SAT, Reg.TRK_COMMIT_RESULT, Reg.TRK_COMMIT_ERR_TABLE,
     Reg.TRK_COMMIT_ERR_INDEX, Reg.TRK_GEN, Reg.TRK_CTRL, Reg.TRK_TASKS_VALID, Reg.TRK_TASKS_POOL, Reg.TRK_TASKS_HELD,
     Reg.TRK_EVENTS, Reg.TRK_NO_TRANS, Reg.TRK_EV_REFUSED, Reg.TRK_TIMEOUTS, Reg.TRK_FORCED, Reg.TRK_CTRL_RESULT]

/-- Stored fields of block 0xb (GOV), those of selected objects by the select register. -/
def govFields (_ : State) (off : Nat) : List Fld :=
  [Reg.GOV_STATUS_PENDING, Reg.GOV_FAULT_COAST, Reg.GOV_FAULT_OUT_DROP, Reg.GOV_FAULT_NO_CURVE, Reg.GOV_FAULT_ERR_SAT,
     Reg.GOV_FAULT_STATE_ECC, Reg.GOV_FAULT_CNT_SAT, Reg.GOV_CFG_LOOP_MS, Reg.GOV_CFG_COAST_MARGIN_MM,
     Reg.GOV_CFG_DOCK_TOL_MM, Reg.GOV_PACE_COMMIT_RESULT, Reg.GOV_COMMIT_ERR_ITEM, Reg.GOV_COMMIT_ERR_INDEX,
     Reg.GOV_UPDATES, Reg.GOV_COAST_COUNT, Reg.GOV_LIMITED, Reg.GOV_NO_CURVE, Reg.GOV_ERR_SAT, Reg.GOV_OUT_DROP,
     Reg.GOV_LATENCY_LAST, Reg.GOV_LATENCY_MAX, Reg.GOV_BAD_INPUT]
    ++ famAt 0xb0040 4 2 off (fun k => [Reg.GOV_CLK_KP k, Reg.GOV_CLK_KI k])
    ++ famAt 0xb0100 8 16 off (fun k => [Reg.GOV_CLASS_A_KP_TRACK k, Reg.GOV_CLASS_A_KI_TRACK k, Reg.GOV_CLASS_A_KP_DOCK k, Reg.GOV_CLASS_A_KI_DOCK k,
         Reg.GOV_CLASS_B_ACC k, Reg.GOV_CLASS_B_DEC k, Reg.GOV_CLASS_B_APPROACH k])

/-- Stored fields of block 0xc (TRP), those of selected objects by the select register. -/
def trpFields (_ : State) (off : Nat) : List Fld :=
  [Reg.TRP_STATUS_IN_A, Reg.TRP_STATUS_IN_B, Reg.TRP_STATUS_ARM_LEVEL, Reg.TRP_STATUS_ARMED, Reg.TRP_STATUS_UNAUTH,
     Reg.TRP_STATUS_PROOF_DUE, Reg.TRP_STATUS_OUT_COND, Reg.TRP_STATUS_RC4M_COND, Reg.TRP_STATUS_DISC_COND,
     Reg.TRP_FAULT_DISCREPANCY, Reg.TRP_FAULT_OUT_FAULT, Reg.TRP_FAULT_RC4M_FAULT, Reg.TRP_FAULT_AUTH_FAIL,
     Reg.TRP_FAULT_CLEAR_REFUSED, Reg.TRP_FAULT_PROOF_DUE, Reg.TRP_FAULT_CNT_SAT, Reg.TRP_STOP_CAUSE_IN_A,
     Reg.TRP_STOP_CAUSE_IN_B, Reg.TRP_STOP_CAUSE_DISCREPANCY, Reg.TRP_STOP_CAUSE_DORMER, Reg.TRP_STOP_CAUSE_HOST,
     Reg.TRP_STOP_CAUSE_LOCKSTEP, Reg.TRP_STOP_CAUSE_TWIN, Reg.TRP_STOP_CAUSE_CLOCK, Reg.TRP_STOP_CAUSE_THERM,
     Reg.TRP_STOP_CAUSE_OUT_FAULT, Reg.TRP_STOP_CAUSE_PERSIST, Reg.TRP_STOP_CAUSE_DORMANT, Reg.TRP_STOP_CAUSE_RULE,
     Reg.TRP_HOLD_CAUSE_IDLE, Reg.TRP_HOLD_CAUSE_HOST, Reg.TRP_HOLD_CAUSE_OVERRUN, Reg.TRP_HOLD_CAUSE_AUDIT,
     Reg.TRP_HOLD_CAUSE_TASK_AUDIT, Reg.TRP_HOLD_CAUSE_TABLE_ECC, Reg.TRP_HOLD_CAUSE_HOST_LOSS,
     Reg.TRP_HOLD_CAUSE_TWIN_MISMATCH, Reg.TRP_HOLD_CAUSE_MEM_ECC, Reg.TRP_HOLD_CAUSE_DORMER, Reg.TRP_HOLD_CAUSE_PFAIL,
     Reg.TRP_HOLD_CAUSE_RECOVER, Reg.TRP_CFG_DISC_TIME, Reg.TRP_CFG_BEACON_TIMEOUT, Reg.TRP_CFG_ARM_WINDOW,
     Reg.TRP_CFG_PROOF_DAYS, Reg.TRP_COMMIT_RESULT, Reg.TRP_STOPS, Reg.TRP_HOLDS, Reg.TRP_AUTH_FAIL,
     Reg.TRP_CLEAR_REFUSED, Reg.TRP_CMD_SEQ, Reg.TRP_DEMAND_DAYS, Reg.TRP_DEMAND_COUNT]
    ++ famAt 0xc0400 4 256 off (fun k => [Reg.TRP_ROBOT_OWN k, Reg.TRP_ROBOT_HOST k, Reg.TRP_ROBOT_INTEGRITY k, Reg.TRP_ROBOT_COAST k,
         Reg.TRP_ROBOT_ENVELOPE k, Reg.TRP_ROBOT_LOOP_LOST k, Reg.TRP_ROBOT_MAP_LOST k])

/-- Stored fields of block 0xd (DRM), those of selected objects by the select register. -/
def drmFields (_ : State) (off : Nat) : List Fld :=
  [Reg.DRM_STATUS_RUNNING, Reg.DRM_STATUS_ON_LPRC32, Reg.DRM_STATUS_QUEUED, Reg.DRM_STATUS_VALID,
     Reg.DRM_FAULT_EVENT_LOST, Reg.DRM_FAULT_CNT_SAT, Reg.DRM_FAULT_SLOW_CLOCK, Reg.DRM_FAULT_TRAP,
     Reg.DRM_CHAN_COMMIT_RESULT, Reg.DRM_RULES_COMMIT_RESULT, Reg.DRM_AUX_CFG_IDLE, Reg.DRM_ACTIVE_LO, Reg.DRM_ACTIVE_HI,
     Reg.DRM_EVENTS, Reg.DRM_EVENT_LOST]
    ++ famAt 0xd0040 4 16 off (fun k => [Reg.DRM_CH_CFG_EN k, Reg.DRM_CH_CFG_P k, Reg.DRM_CH_CFG_SHIFT k])
    ++ famAt 0xd0080 4 16 off (fun k => [Reg.DRM_VAL_RAW k, Reg.DRM_VAL_FILT k, Reg.DRM_VAL_VALID k])
    ++ famAt 0xd0100 4 64 off (fun k => [Reg.DRM_FIRE k])

/-- Stored fields of block 0xe (LNA), those of selected objects by the select register. -/
def lnaFields (_ : State) (_ : Nat) : List Fld :=
  [Reg.PORT_ZYP_RX 0, Reg.PORT_ZYP_TX 0, Reg.PORT_DROP 0, Reg.PORT_BAD_FRAME 0, Reg.PORT_AUTH_FAIL 0, Reg.PORT_DUP 0,
     Reg.PORT_STALE 0, Reg.PORT_CNT_OVF_DROP_SAT 0, Reg.PORT_CNT_OVF_CNT_SAT 0, Reg.LNA_ZYP_CFG_YARD_ID,
     Reg.LNA_ZYP_PORT_UDP_PORT, Reg.LNA_ZYP_PORT_EPOCH_AGE, Reg.LNA_ZYP_COMMIT_RESULT, Reg.LNA_ZYP_BOOT,
     Reg.LNA_BOOT_CATCHUP, Reg.LNA_IPV4, Reg.LNA_IPV4_CFG_PREFIX, Reg.LNA_NET_COMMIT_RESULT]

/-- Stored fields of block 0xf (LNB), those of selected objects by the select register. -/
def lnbFields (_ : State) (_ : Nat) : List Fld :=
  [Reg.PORT_ZYP_RX 1, Reg.PORT_ZYP_TX 1, Reg.PORT_DROP 1, Reg.PORT_BAD_FRAME 1, Reg.PORT_AUTH_FAIL 1, Reg.PORT_DUP 1,
     Reg.PORT_STALE 1, Reg.PORT_CNT_OVF_DROP_SAT 1, Reg.PORT_CNT_OVF_CNT_SAT 1, Reg.LNB_IPV4, Reg.LNB_IPV4_CFG_PREFIX,
     Reg.LNB_NET_COMMIT_RESULT]

/-- Stored fields of block 0x10 (SRP), those of selected objects by the select register. -/
def srpFields (_ : State) (_ : Nat) : List Fld :=
  [Reg.PORT_ZYP_RX 2, Reg.PORT_ZYP_TX 2, Reg.PORT_DROP 2, Reg.PORT_BAD_FRAME 2, Reg.PORT_AUTH_FAIL 2, Reg.PORT_DUP 2,
     Reg.PORT_STALE 2, Reg.PORT_CNT_OVF_DROP_SAT 2, Reg.PORT_CNT_OVF_CNT_SAT 2, Reg.SRP_ABORTED, Reg.SRP_LATE,
     Reg.SRP_CFG_SCK_MHZ]

/-- Stored fields of block 0x11 (TIM), those of selected objects by the select register. -/
def timFields (s : State) (_ : Nat) : List Fld :=
  let g := s.rd Reg.TIM_PG_SEL
  [Reg.TIM_STATUS_SET_STATE, Reg.TIM_STATUS_SOURCE, Reg.TIM_STATUS_TQ, Reg.TIM_STATUS_STEERING, Reg.TIM_STATUS_SLEWING,
     Reg.TIM_STATUS_SHADOW, Reg.TIM_STATUS_REJECTED, Reg.TIM_FAULT_SRC_LOST, Reg.TIM_FAULT_STEP_REFUSED,
     Reg.TIM_FAULT_SRC_SWITCH, Reg.TIM_FAULT_HOLD_DEGRADED, Reg.TIM_FAULT_EVT_LOST, Reg.TIM_FAULT_PG_LATE,
     Reg.TIM_FAULT_CNT_SAT, Reg.TIM_FAULT_STEPPED, Reg.TIM_REF_OFFSET, Reg.TIM_EST_ERR, Reg.TIM_FREQ,
     Reg.TIM_CFG_SRC_FIRST, Reg.TIM_CFG_SRC_SECOND, Reg.TIM_CFG_POLICY, Reg.TIM_CFG_AUTO_STEP, Reg.TIM_CFG_SLEW_PPM,
     Reg.TIM_CFG_STEP_THRESH, Reg.TIM_HOLD_CFG, Reg.TIM_TIME_COMMIT_RESULT, Reg.TIM_CTRL, Reg.TIM_UTC,
     Reg.TIM_STEPS_REFUSED, Reg.TIM_SRC_SWITCHES, Reg.TIM_EVT_LOST, Reg.TIM_TC_FRAMES, Reg.TIM_STEPS,
     Reg.TIM_PTP_CFG_PORT_A_EN, Reg.TIM_PTP_CFG_PORT_B_EN, Reg.TIM_PTP_CFG_ROLE, Reg.TIM_PTP_CFG_TRANSPORT,
     Reg.TIM_PTP_CFG_PROFILE, Reg.TIM_PTP_CFG_DOMAIN, Reg.TIM_PTP_CFG_DOMAIN_ALT, Reg.TIM_PTP_PRIO_PRIORITY1,
     Reg.TIM_PTP_PRIO_PRIORITY2, Reg.TIM_PTP_INTV, Reg.TIM_PTP_LAT_A_INGRESS, Reg.TIM_PTP_LAT_A_EGRESS,
     Reg.TIM_PTP_COMMIT_RESULT, Reg.TIM_PTP_DROP, Reg.TIM_PG_SEL, Reg.TIM_PG_ACTIVE, Reg.TIM_CAP_CFG, Reg.TIM_PTP_STATE_A,
     Reg.TIM_PTP_STATE_B, Reg.TIM_PTP_STATE_ALT_ACTIVE, Reg.TIM_PTP_LAT_B_INGRESS, Reg.TIM_PTP_LAT_B_EGRESS]
    ++ [Reg.TIM_PG_START_SEC g, Reg.TIM_PG_START_NS g, Reg.TIM_PG_PERIOD g, Reg.TIM_PG_WIDTH g, Reg.TIM_PG_CTRL_EN g,
       Reg.TIM_PG_CTRL_DRIVE g, Reg.TIM_PG_CTRL_POL g, Reg.TIM_PG_CTRL_EVENT g, Reg.TIM_PG_COMMIT_RESULT g]

/-- Stored fields of block 0x12 (FJR), those of selected objects by the select register. -/
def fjrFields (_ : State) (_ : Nat) : List Fld :=
  [Reg.FJR_STATUS_LINK, Reg.FJR_STATUS_LANE0_OK, Reg.FJR_STATUS_LANE1_OK, Reg.FJR_STATUS_PAIRED, Reg.FJR_STATUS_LIVE_IN,
     Reg.FJR_STATUS_CLAIM_IN, Reg.FJR_STATUS_LIVE_CONT, Reg.FJR_STATUS_CLAIM_CONT, Reg.FJR_STATUS_REJOIN_STATE,
     Reg.FJR_STATUS_CLEAN, Reg.FJR_FAULT_TWIN_LOST, Reg.FJR_FAULT_MISMATCH, Reg.FJR_FAULT_ACK_LATE,
     Reg.FJR_FAULT_INTERLOCK_OPEN, Reg.FJR_FAULT_AMBIGUITY, Reg.FJR_FAULT_PAIR_FAIL, Reg.FJR_FAULT_TAKEOVER,
     Reg.FJR_FAULT_TAKEOVER_BLOCKED, Reg.FJR_FAULT_REJOIN_FAILED, Reg.FJR_FAULT_LANE_DEGRADED, Reg.FJR_FAULT_BAD_FRAME,
     Reg.FJR_FAULT_CNT_SAT, Reg.FJR_CFG_TWIN_EN, Reg.FJR_CFG_LINK_TIMEOUT, Reg.FJR_CFG_JOURNAL_MAX, Reg.FJR_TIME_ASYM,
     Reg.FJR_COMMIT_RESULT, Reg.FJR_CTRL_REJOIN_RETRY, Reg.FJR_CTRL_RESULT, Reg.FJR_PEER_MODE, Reg.FJR_PEER_FLEET,
     Reg.FJR_PEER_SEAT, Reg.FJR_PEER_LOCKSTEP, Reg.FJR_PEER_PAIR_REASON, Reg.FJR_LAST_EPOCH, Reg.FJR_MISMATCH_EPOCH,
     Reg.FJR_MISMATCH_INFO_CLASS_DIFF, Reg.FJR_MISMATCH_INFO_OWN_LOCKSTEP, Reg.FJR_MISMATCH_INFO_PEER_LOCKSTEP,
     Reg.FJR_MIRROR_LAT_LAST, Reg.FJR_MIRROR_LAT_MAX, Reg.FJR_ACK_LATE, Reg.FJR_MISMATCHES, Reg.FJR_TAKEOVERS,
     Reg.FJR_LINK_LOSSES, Reg.FJR_RETX, Reg.FJR_BAD_FRAME, Reg.FJR_FETCHES, Reg.FJR_UNLISTED, Reg.FJR_REJOINS]

/-- Stored fields of block 0x13 (VLT), those of selected objects by the select register. -/
def vltFields (_ : State) (_ : Nat) : List Fld :=
  [Reg.VLT_STATUS_READY, Reg.VLT_STATUS_SELFTEST_FAIL, Reg.VLT_FAULT_SELFTEST, Reg.VLT_FAULT_AUTH_FAIL,
     Reg.VLT_FAULT_REVOKED_OP, Reg.VLT_FAULT_PERSIST_TORN, Reg.VLT_FAULT_EXHAUSTED, Reg.VLT_FAULT_CNT_SAT,
     Reg.VLT_LIFECYCLE_STATE, Reg.VLT_LIFECYCLE_LC_GEN, Reg.VLT_LIFECYCLE_TRANSITION, Reg.VLT_CHALLENGE_LO,
     Reg.VLT_CHALLENGE_HI, Reg.VLT_SLOT_SEL, Reg.VLT_OPS, Reg.VLT_AUTH_FAIL, Reg.VLT_REVOKED_OPS]

/-- Stored fields of block 0x14 (UPD), those of selected objects by the select register. -/
def updFields (_ : State) (_ : Nat) : List Fld :=
  [Reg.UPD_STATUS_LOFT_STATE, Reg.UPD_STATUS_SESSION_OPEN, Reg.UPD_STATUS_LOCKED, Reg.UPD_STATUS_TRIAL,
     Reg.UPD_STATUS_FALLBACK, Reg.UPD_STATUS_DEFER_REASON, Reg.UPD_STATUS_STORE_REGION, Reg.UPD_STATUS_CUR_AREA,
     Reg.UPD_STATUS_SOURCE, Reg.UPD_FAULT_CONFLICT, Reg.UPD_FAULT_CHUNK_BAD, Reg.UPD_FAULT_FALLBACK,
     Reg.UPD_FAULT_DEFER_EXPIRED, Reg.UPD_FAULT_MIGRATE_FAIL, Reg.UPD_FAULT_SETTINGS_TORN, Reg.UPD_FAULT_CNT_SAT,
     Reg.UPD_FAULT_STORE_BAD, Reg.UPD_CFG_DEFER_MAX, Reg.UPD_CFG_BATT_RULE, Reg.UPD_CFG_BATT_EN, Reg.UPD_CFG_CONFIRM_HOST,
     Reg.UPD_CFG_TRIAL_BOOTS, Reg.UPD_CFG_SESSION_IDLE, Reg.UPD_NET_PORT, Reg.UPD_NET_FED_EN, Reg.UPD_COMMIT_RESULT,
     Reg.UPD_CTRL_LOCK, Reg.UPD_CTRL_UNLOCK, Reg.UPD_CTRL_CANCEL, Reg.UPD_CTRL_HOST_OK, Reg.UPD_CTRL_CLEAR,
     Reg.UPD_CTRL_RESULT, Reg.UPD_STORE_VER, Reg.UPD_LOFT_VER, Reg.UPD_SESSION, Reg.UPD_CHUNKS_TOTAL,
     Reg.UPD_CHUNKS_PRESENT, Reg.UPD_CHUNKS_VERIFIED, Reg.UPD_ACT_SEC, Reg.UPD_CHUNK_DUP, Reg.UPD_CHUNK_BAD,
     Reg.UPD_CHUNK_DISCARD, Reg.UPD_HDR_REFUSED, Reg.UPD_FALLBACKS]

/-- Stored fields of block 0x15 (TLY), those of selected objects by the select register. -/
def tlyFields (_ : State) (off : Nat) : List Fld :=
  [Reg.TLY_STATUS_RESTORED, Reg.TLY_STATUS_FLUSHING, Reg.TLY_STATUS_SNAPSHOT, Reg.TLY_STATUS_DEGRADED,
     Reg.TLY_STATUS_UNCERTAIN, Reg.TLY_STATUS_TIME_UNKNOWN, Reg.TLY_STATUS_BANK, Reg.TLY_STATUS_SHADOW,
     Reg.TLY_FAULT_MEM_FAIL, Reg.TLY_FAULT_SHADOW_FULL, Reg.TLY_FAULT_LOST, Reg.TLY_FAULT_TORN, Reg.TLY_FAULT_ECC,
     Reg.TLY_FAULT_CNT_SAT, Reg.TLY_FAULT_HOST_WRITE, Reg.TLY_CFG_FLUSH_PERIOD, Reg.TLY_COMMIT_RESULT, Reg.TLY_CTRL_FLUSH,
     Reg.TLY_CTRL_RETEST, Reg.TLY_CTRL_RESULT, Reg.TLY_SEQ, Reg.TLY_FLUSH_SEQ, Reg.TLY_FLUSHES, Reg.TLY_MONO,
     Reg.TLY_LAST_FLUSH_CAUSE, Reg.TLY_LAST_FLUSH_STATUS, Reg.TLY_LAST_FLUSH_DURATION]
    ++ famAt 0x150040 4 16 off (fun k => [Reg.TLY_LOST k])

/-- Stored fields of block 0x16 (MEM), those of selected objects by the select register. -/
def memFields (_ : State) (_ : Nat) : List Fld :=
  [Reg.MEM_ECC_CORR, Reg.MEM_ECC_UNCORR, Reg.MEM_LAST_UNCORR]

/-- Stored fields of block 0x17 (PIN), those of selected objects by the select register. -/
def pinFields (_ : State) (_ : Nat) : List Fld :=
  [Reg.PIN_STRAP_STATUS_STRAP, Reg.PIN_STRAP_STATUS_RADIO_ON, Reg.PIN_STRAP_STATUS_PTP_8021AS,
     Reg.PIN_PANTRY_STATUS_SETTINGS_VALID, Reg.PIN_PANTRY_STATUS_CASTER_OPEN, Reg.PIN_PANTRY_STATUS_BEACON_UNAUTH,
     Reg.PIN_PANTRY_STATUS_POSITION_STORED, Reg.PIN_LOCAL_RESET_COUNT_ACCEPTED, Reg.PIN_LOCAL_RESET_COUNT_REFUSED]

/-- Stored fields of the block at an offset. -/
def storedFields (s : State) (off : Nat) : List Fld :=
  match off / 65536 with
  | 0 => glbFields s off
  | 1 => clkFields s off
  | 2 => hreFields s off
  | 3 => chuFields s off
  | 4 => hstFields s off
  | 5 => dspFields s off
  | 6 => rngFields s off
  | 7 => corFields s off
  | 8 => creFields s off
  | 9 => ldrFields s off
  | 10 => trkFields s off
  | 11 => govFields s off
  | 12 => trpFields s off
  | 13 => drmFields s off
  | 14 => lnaFields s off
  | 15 => lnbFields s off
  | 16 => srpFields s off
  | 17 => timFields s off
  | 18 => fjrFields s off
  | 19 => vltFields s off
  | 20 => updFields s off
  | 21 => tlyFields s off
  | 22 => memFields s off
  | 23 => pinFields s off
  | _ => []

end Sys2Proof.Machine
end

