-- ==== Sys2Proof/Machine/Reads.lean ====
section
/-! DEFINITION. What a read of a register returns and changes (rules R3, R4, R95, R126, R142, R179, R294, R445, R546, R548): the stored
fields, the fields that follow from the rest of the state, the views, and the reads that latch. -/

namespace Sys2Proof.Machine

/-! ## Stored fields -/

/-- What a field puts into the word that an access at `off` reaches. -/
def fieldPart (f : Fld) (off v : Nat) : Nat :=
  match halfOf f off with
  | none => 0
  | some h =>
    let lo := max f.lo (32 * h)
    bits v (lo - f.lo) (min (f.lo + f.w) (32 * (h + 1)) - lo) * 2 ^ (lo - 32 * h)

/-- The stored part of a register: a member of a commit group reads as its shadow, reserved bits as 0 (rules R4, R548). -/
def State.storedWord (s : State) (off : Nat) : Nat := ((storedFields s off).map fun (f : Fld) => fieldPart f off (s.sh f)).sum

/-! ## Fields that follow from the state -/

/-- Bit n for each channel in a state that `p` accepts. -/
def State.chanMask (s : State) (p : ChanState → Bool) : Nat := ((List.range 32).map fun n => if p (s.chan n).st then 2 ^ n else 0).sum

/-- HST_CH_STATUSn. -/
def State.chanStatus (s : State) (n : Nat) : Nat :=
  let c := s.chan n
  c.st.tag + 256 * c.status + 65536 * c.pc + 33554432 * c.loops.length

/-- The pending flags of the selected Hoist channel with event IDs from `lo` on. -/
def State.flagWord (s : State) (lo k : Nat) : Nat :=
  ((List.range k).map fun i => if (s.chan (s.rd Reg.HST_SEL_CHANNEL)).flags.contains (lo + i) then 2 ^ i else 0).sum

/-- The code of a ring's state. -/
def RingState.code : RingState → Nat
  | .off => 0 | .running => 1 | .draining => 2 | .halted => 3

/-- HRE_RING_STATUS of ring n. -/
def State.ringStatus (s : State) (n : Nat) : Nat := (s.ring n).st.code + 256 * (s.ring n).lastErr + 65536 * (s.ring n).index

/-- CHU_STATUS of chute n but for CNT_SAT, which is stored. -/
def State.chuteState (s : State) (n : Nat) : Nat :=
  let c := s.chute n
  bit (s.chuteOn n) + 2 * bit c.opened.isSome + 4 * bit c.reading.isSome + 65536 * c.unread

/-- CHU_FILL of chute n. -/
def State.chuteFill (s : State) (n : Nat) : Nat := s.freeCredit n + 65536 * (s.chute n).committed

/-- GOV_ROBOTn. -/
def State.govWord (s : State) (n : Nat) : Nat :=
  let r := s.govRobot n
  r.1 + 8 * bit r.2.1 + 16 * bit r.2.2.1 + 64 * unsigned 8 r.2.2.2.1 + 16384 * unsigned 18 r.2.2.2.2

/-- The slot numbers that are held as persistent records (rule R493). -/
def persistSlots : List Nat := [1, 3, 4]

/-- VLT_SLOT_INFO of slot n (rule R503). -/
def State.slotInfo (s : State) (n : Nat) : Nat :=
  let k := s.slot n
  k.kind + 8 * bit (s.slotValid 8 n) + 16 * bit (persistSlots.contains n && k.kind != 0) + 32 * bit k.bound + 64 * bit k.limited
    + 256 * k.parent.getD 0

/-- The fields of VLT_STATUS that follow from the slots and the lifecycle (rules R500, R503). -/
def State.vaultWord (s : State) : Nat :=
  4 * bit (s.life == 3) + 8 * bit (s.life == 3) + 16 * bit (s.slotValid 8 2) + 32 * bit (s.slotValid 8 5) + 64 * bit s.vlt.rekey.isSome
    + 128 * ((List.range 48).filter fun i => (s.slot (16 + i)).kind != 0).length

/-- The word of a view or family of computed registers at an offset, by its place in it. -/
def placeAt (base stride count off : Nat) (f : Nat → Nat → Nat) : Nat :=
  if base ≤ off ∧ off < base + stride * count then f ((off - base) / stride) ((off - base) % stride) else 0

/-- Word k of a 64-bit value. -/
def half64 (v k : Nat) : Nat := bits v (8 * k) 32

/-- The fields of a register that follow from the rest of the state, and the whole of a register that is no field of its own. -/
def State.derivedWord (s : State) (off : Nat) : Nat :=
  let ring := s.rd Reg.HRE_RING_SEL_RING
  let c := s.rd Reg.CHU_SEL_CHUTE
  let g := s.govStatus
  match off with
  | 0x8 => half64 Config.serial 0
  | 0xC => half64 Config.serial 4
  | 0x10100 => s.mode.code + 16 * s.prev.code + 512 * bit s.hre.claimed
  | 0x10128 => 65536 * s.msSinceRelease
  | 0x20040 => s.ringStatus ring
  | 0x20044 => (s.ring ring).given
  | 0x20048 => (s.ring ring).returned
  | 0x2004C => s.outstanding ring
  | 0x1000000C => s.stateWord
  | 0x3000C => s.chuteState c
  | 0x30010 => s.chuteFill c
  | 0x30014 => (s.chute c).given
  | 0x30018 => (s.chute c).returned
  | 0x3001C => (s.chute c).outstanding
  | 0x40000 => s.chanMask fun x => x == .running || x == .waiting || x == .stopping
  | 0x40004 => s.chanMask fun x => x == .halted
  | 0x4001C => s.flagWord 0 32
  | 0x40020 => s.flagWord 32 24
  | 0x50010 => s.threadState (s.rd Reg.DSP_THR_SEL)
  | 0x50028 => s.flowHeld (s.rd Reg.DSP_FLOW_SEL)
  | 0x90000 => 2 * bit (s.mode == .fleetRun && !s.on Reg.LDR_STATUS_AUDIT_LOCK)
  | 0xB0000 => bit g.1 + 4 * g.2.1 + 2048 * g.2.2
  | 0xC0000 => s.trp.fleet.code + 12 * bit s.stopOut + 512 * bit (s.on Reg.CLK_ADMIT_STATUS_BEACON_ON)
  | 0xC0018 => s.demandDays
  | 0x110000 => 2048 * bit s.steady
  | 0x110008 => s.now.frac
  | 0x11000C => s.tim.latch.ns
  | 0x110010 => half64 s.tim.latch.sec 0
  | 0x110014 => half64 s.tim.latch.sec 4
  | 0x120000 => 512 * bit s.liveOut + 1024 * bit s.claimOut + 2048 * s.role
  | 0x130000 => s.vaultWord
  | 0x130018 => s.slotInfo (s.rd Reg.VLT_SLOT_SEL)
  | 0x13001C => (s.slot (s.rd Reg.VLT_SLOT_SEL)).gen
  | 0x130020 => (s.slot (s.rd Reg.VLT_SLOT_SEL)).uses
  | 0x130024 => s.site
  | 0x130028 => s.beaconNo
  | 0x140038 => s.trialLeft
  | _ =>
    placeAt 0x40100 16 32 off (fun n k => match k with | 0 => s.chanStatus n | 4 => (s.chan n).bytes | _ => 0)
      + placeAt 0x50200 0x80 9 off (fun u k =>
          if k = 0 then s.depth u else if k = 4 then AMap.get s.dsp.loadBank u 0
          else if 0x10 ≤ k ∧ k < 0x50 then AMap.get s.dsp.histBank (16 * u + (k - 0x10) / 4) 0 else 0)
      + placeAt 0x61000 4 512 off (fun n _ => s.chStatus n)
      + placeAt 0xB0400 4 256 off (fun n _ => s.govWord n)
      + placeAt 0xC0400 4 256 off (fun n _ => 4 * s.beaconEntry n)
      + placeAt 0x90048 8 4 off (fun n k => if k = 0 then half64 (s.rd (ldrCounter n)) 0 else AMap.get s.ldr.lo n 0)
      + placeAt 0x110200 16 8 off (fun n k =>
          let w := AMap.get s.tim.capLatch n (0, 0, 0)
          match k with | 0 => s.rd (Reg.TIM_CAP_SEC_LO n) | 4 => w.1 | 8 => w.2.1 | _ => w.2.2)

/-! ## Apertures and views -/

/-- A word of a bank of words. -/
def bankWord (m : AMap Nat) (base off : Nat) : Nat := AMap.get m ((off - base) / 4) 0

/-- A register of chute n as the chute view shows it: view offset k is the register at 0x30004 + k, RETURNED and OUTSTANDING as last
sampled, and 0 beyond CHU_DISCARDED (rule R142). -/
def State.chuteView (s : State) (n k : Nat) : Nat :=
  let st := fun (l : List Fld) => (l.map fun (f : Fld) => fieldPart f (0x30004 + k) (s.sh f)).sum
  let c := s.chute n
  match k with
  | 0x08 => s.chuteState n + st [Reg.CHU_STATUS_CNT_SAT n]
  | 0x0C => s.chuteFill n
  | 0x10 => c.given
  | 0x14 => c.sampled.1
  | 0x18 => c.sampled.2
  | _ => st [Reg.CHU_CFG_ALLOT n, Reg.CHU_CFG_PKT_MAX n, Reg.CHU_CFG_ENABLE n, Reg.CHU_COMMIT_RESULT n, Reg.CHU_NOCREDIT n,
      Reg.CHU_OVERSIZE n, Reg.CHU_ABORTED n, Reg.CHU_BAD_LENGTH n, Reg.CHU_DROP_REST n, Reg.CHU_CORRECTED n, Reg.CHU_UNCORRECTED n,
      Reg.CHU_DISCARDED n]

/-- A word of the flow view of flow f (rule R179). -/
def State.flowView (s : State) (f k : Nat) : Nat :=
  let p := AMap.get s.dsp.samples f (0, 0, 0)
  match k with
  | 0x00 => ([Reg.DSP_FLOW_CFG_WIN_MAX f, Reg.DSP_FLOW_CFG_THREAD_BASE f, Reg.DSP_FLOW_CFG_POOL f, Reg.DSP_FLOW_CFG_ENABLE f].map
      fun (x : Fld) => fieldPart x x.off (s.sh x)).sum
  | 0x04 => s.rd (Reg.DSP_FLOW_ADMITTED f)
  | 0x08 => p.2.1
  | 0x0C => p.2.2
  | 0x10 => s.rd (Reg.DSP_FLOW_STALL f)
  | 0x14 => s.rd (Reg.DSP_FLOW_DISCARD f)
  | _ => 0

/-- A word of the thread view of thread t (rule R179). -/
def State.threadView (s : State) (t k : Nat) : Nat :=
  if k = 0 then ([Reg.DSP_THR_CFG_PRIO t, Reg.DSP_THR_CFG_AFFINITY t, Reg.DSP_THR_CFG_ENABLE t].map
    fun (x : Fld) => fieldPart x x.off (s.sh x)).sum else s.threadState t

/-- The word at an offset of an aperture, bulk window or view; none where the offset is of no such window. -/
def State.windowWord (s : State) (off : Nat) : Option Nat :=
  let is := fun (lo n : Nat) => decide (lo ≤ off ∧ off < lo + n)
  if is 0x800000 0xD0000 then some (bankWord s.trk.shadow 0x800000 off)
  else if is 0x8D0000 0x10000 then
    some (unle (((s.taskBytes ((off - 0x8D0000) / 16)).drop (off % 16)).take 4))
  else if is 0x8E0000 0x1100 then some (bankWord s.gov.shadow 0x8E0000 off)
  else if is 0xD1000 0x400 then some (bankWord s.drm.rulesSh 0xD1000 off)
  else if is 0x41000 0x1000 then some (bankWord (s.chan (s.rd Reg.HST_SEL_CHANNEL)).progSh 0x41000 off)
  else if is 0x151000 0x2000 then some (bankWord s.tly.hdefSh 0x151000 off)
  else if is 0x153000 0x800 then some (bankWord s.tly.xdefSh 0x153000 off)
  else if is 0x31000 0x1800 then some (s.chuteView ((off - 0x31000) / 64) (off % 64))
  else if is 0x51000 0x800 then some (s.flowView ((off - 0x51000) / 32) (off % 32))
  else if is 0x52000 0x1000 then some (s.threadView ((off - 0x52000) / 8) (off % 8))
  else none

/-- The registers that belong to Caersyn firmware, the LAN MACs and GPIO (rule R546). -/
def firmwareOwn (off : Nat) : Bool :=
  let is := fun (lo n : Nat) => decide (lo ≤ off ∧ off < lo + n)
  is 0xE0000 0x100 || is 0xF0000 0x100 || is 0x170100 0xFF00

/-- The 32-bit word that a register shows at an aligned offset; an offset that no chapter defines reads 0 (rule R546). -/
def State.regWord (s : State) (off : Nat) : Nat :=
  if firmwareOwn off then 0
  else match s.windowWord off with
    | some w => w
    | none => s.storedWord off + s.derivedWord off

/-- What a read changes: the reads that latch or sample their neighbours (rules R142, R179, R294, R445). -/
def State.afterRead (s : State) (off : Nat) : State :=
  if 0x31000 ≤ off ∧ off < 0x32800 ∧ off % 64 = 0x10 then chuteViewSampleOp ((off - 0x31000) / 64) s
  else if 0x51000 ≤ off ∧ off < 0x51800 ∧ off % 32 = 4 then flowViewSampleOp ((off - 0x51000) / 32) s
  else if 0x90048 ≤ off ∧ off < 0x90068 ∧ off % 8 = 0 then counterLatchReadOp ((off - 0x90048) / 8) s
  else if off = 0x110008 then timeLatchReadOp s
  else if 0x110200 ≤ off ∧ off < 0x110280 ∧ off % 16 = 0 then captureLatchReadOp ((off - 0x110200) / 16) s
  else s

/-- A read of one word by the service cores or a Hoist channel. The spec does not give what the registers of Caersyn firmware hold: a
free value (log entry 4). -/
def State.busRead (off : Nat) (s : State) : Nat × State :=
  if firmwareOwn off then let r := s.draw 10; (r.1 % 4294967296, r.2) else (s.regWord off, s.afterRead off)

/-- A host read of `size` bytes: from BAR0, or from the attention page at 0x1000_0000 on. None while the BARs are not served (rule R119);
a read that is not of 32 or 64 bits, naturally aligned, returns 0 and is flagged, and the upper BARs read 0 (rule R95). -/
def State.hostRead (off size : Nat) (s : State) : Option (Nat × State) :=
  if !s.hre.served then none
  else if size = 4 ∧ off % 4 = 0 then some (s.regWord off, s.afterRead off)
  else if size = 8 ∧ off % 8 = 0 then
    let t := s.afterRead off
    some (s.regWord off + 4294967296 * t.regWord (off + 4), t.afterRead (off + 4))
  else some (0, badSizeAccessOp s)

/-- BAR4 and BAR5 read as 0 (rule R95). -/
def upperBar : Nat := 0

end Sys2Proof.Machine
end

