-- ==== Sys2Proof/Machine/Access.lean ====
section
/-! DEFINITION. A write to any register, with the behaviour of its own that a register has (rules R9, R57, R95, R140, R547, R548), the
block registers as the Hoist reaches them on the bus (rules R144, R147), and its MOVE. -/

namespace Sys2Proof.Machine

/-- What COMMIT does at each commit register. -/
def commitOps : List (Nat × (State → State)) :=
  [(0x28, globalCommitOp), (0x1011C, wakeCommitOp), (0x20020, hostCommitOp), (0x2003C, ringCommitOp), (0x30008, chuteCfgCommitOp),
   (0x40014, progCommitOp), (0x5000C, threadCommitOp), (0x5001C, flowCommitOp), (0x60014, measCommitOp), (0x60020, trackingLoopCommitOp),
   (0x70030, refCommitOp), (0x70048, rtcmCommitOp), (0x70050, casterCommitOp), (0x70058, monitorCommitOp)]
    ++ [(0x80018, filterCommitOp), (0x8003C, frameCommitOp), (0x80044, xchkCommitOp), (0x90030, mapCommitOp), (0x90040, rulesCommitOp),
        (0xA0008, fleetCommitOp), (0xB000C, paceCommitOp), (0xC0014, trapCommitOp), (0xD0008, chanCommitOp), (0xD000C, dormerRulesCommitOp),
        (0xE0208, zypCommitOp), (0xE0308, netCommitOp false), (0xF0308, netCommitOp true), (0x110030, timeCommitOp),
        (0x110064, ptpCommitOp), (0x1100A0, pulseCommitOp), (0x120010, twinCommitOp), (0x140010, updCommitOp), (0x15000C, defCommitOp)]

/-- AUDIT_CLEAR of TRK_CTRL: whether the recount finds the records bad is a free value (log entry 4). -/
def taskAuditWrite (s : State) : State := let r := s.draw 11; taskAuditClearOp (r.1 % 2 == 1) r.2

/-- What each bit of a control register does. -/
def controlOps (off v : Nat) : List (Nat × (State → State)) :=
  let alone := decide ((List.range 5).countP (fun i => bits v i 1 == 1) ≤ 1)
  match off with
  | 0x7005C => [(0, distClearOp)]
  | 0x90014 => [(0, larderAuditClearOp)]
  | 0xA0014 => [(0, taskAuditWrite)]
  | 0x110034 => [(0, slewAcceptOp), (1, stepOp)]
  | 0x120014 => [(0, rejoinRetryOp)]
  | 0x140014 => [(0, lockOp alone), (1, unlockOp alone), (2, cancelOp alone), (3, hostOkOp alone), (4, updateClearOp alone)]
  | 0x150010 => [(0, flushOp none), (1, retestOp)]
  | _ => []

/-- The bits of a control register that are written 1 act, the lowest first. -/
def State.controlWrite (s : State) (off v : Nat) : State :=
  (controlOps off v).foldl (fun (t : State) (p : Nat × (State → State)) => if bits v p.1 1 = 1 then p.2 t else t) s

/-- A write of one 32-bit word to a register: COMMIT and control bits act, written ones clear sticky bits and event flags, and every
other write goes to the fields. The views are written by none (rules R142, R179). -/
def State.wordAt (s : State) (off v : Nat) : State :=
  match commitOps.find? fun (p : Nat × (State → State)) => p.1 == off with
  | some p => if bits v 0 1 = 1 then p.2 s else s
  | none =>
    if !(controlOps off v).isEmpty then s.controlWrite off v
    else if stickyBits.any fun (f : Fld) => f.off == off then stickyFaultClearOp off v s
    else match off with
      | 0x40018 => channelCtrl v s
      | 0x4001C => eventFlagsClearOp false v s
      | 0x40020 => eventFlagsClearOp true v s
      | 0x100128 => srpCfgWriteOp v s
      | 0x10000000 => attnKickOp s
      | 0x10000004 => claimWrite v s.hre.bme s
      | _ => s.regWrite off v

/-- REGISTER_WRITE of a word, or of 64 bits as one access, lower half first in one step (rule R95). A host write reaches the device while
its BARs are served (rule R119). -/
def registerWriteOp (off v : Nat) (hi : Option Nat) (w : Writer) (s : State) : State :=
  let size := if hi.isSome then 8 else 4
  let both := fun (f : Nat → Nat → State → State) =>
    match hi with
    | some u => f (off + 4) u (f off v s)
    | none => f off v s
  match w with
  | .core => if off % size = 0 then both fun o x t => t.wordAt o x else s
  | .host =>
    if !s.hre.served then s
    else if off % size ≠ 0 then badSizeAccessOp s
    else both fun o x t => if (hostBarred o).isSome then protectedHostWriteOp o t else t.wordAt o x

/-- The block registers on the Hoist's bus. -/
def hoistBus : RegBus := ⟨State.busRead, fun off v s => s.wordAt off v⟩

/-- Meaning of REGISTER_WRITE. -/
def execRegisterWrite (off v : Word) (hi : Option Word) (w : Writer) (s : State) : Out :=
  .next (s.whenMain (registerWriteOp off.toNat v.toNat (hi.map BitVec.toNat) w))
/-- Meaning of MOVE. -/
def execMove (n : Fin 32) (fetch : Ecc) (bus : BusOutcome) (s : State) : Out := .next (s.whenMain (moveOp hoistBus n.val fetch bus))
/-- Meaning of BURST_RETRY. -/
def execBurstRetry (n : Fin 32) (ok : Bool) (s : State) : Out := .next (s.whenMain (burstRetryOp hoistBus n.val ok))

end Sys2Proof.Machine
end

