-- ==== Sys2Proof/Machine/Dispatch.lean ====
section
/-! DEFINITION. The effect of each command: one arm per constructor of `Instr`. -/

namespace Sys2Proof.Machine

def exec (i : Instr) (s : State) : Host.Outcome State Fault Refusal :=
  match i with
  | .vbatPowerOn => Sys2Proof.Machine.execVbatPowerOn s
  | .aonRailsInRange => Sys2Proof.Machine.execAonRailsInRange s
  | .railTimeout => Sys2Proof.Machine.execRailTimeout s
  | .railRetry => Sys2Proof.Machine.execRailRetry s
  | .porRelease => Sys2Proof.Machine.execPorRelease s
  | .resetRelease khz straps storeOk loftOk vaultOk => Sys2Proof.Machine.execResetRelease khz straps storeOk loftOk vaultOk s
  | .systemReset => Sys2Proof.Machine.execSystemReset s
  | .sysResetReturn => Sys2Proof.Machine.execSysResetReturn s
  | .brownOut => Sys2Proof.Machine.execBrownOut s
  | .pfailAssert => Sys2Proof.Machine.execPfailAssert s
  | .pfailHoistTimeout => Sys2Proof.Machine.execPfailHoistTimeout s
  | .pfailDescriptorAbort => Sys2Proof.Machine.execPfailDescriptorAbort s
  | .pfailLarderFreeze => Sys2Proof.Machine.execPfailLarderFreeze s
  | .pfailOutputsLow => Sys2Proof.Machine.execPfailOutputsLow s
  | .pfailRailCut => Sys2Proof.Machine.execPfailRailCut s
  | .pfailClear => Sys2Proof.Machine.execPfailClear s
  | .xtal32Lost => Sys2Proof.Machine.execXtal32Lost s
  | .xtal32Restored => Sys2Proof.Machine.execXtal32Restored s
  | .refclkLost => Sys2Proof.Machine.execRefclkLost s
  | .pllCoreUnlock => Sys2Proof.Machine.execPllCoreUnlock s
  | .pllAdcUnlock => Sys2Proof.Machine.execPllAdcUnlock s
  | .pllSerdesUnlock => Sys2Proof.Machine.execPllSerdesUnlock s
  | .pllRelock pll => Sys2Proof.Machine.execPllRelock pll s
  | .thermWarn tj => Sys2Proof.Machine.execThermWarn tj s
  | .thermCrit tj => Sys2Proof.Machine.execThermCrit tj s
  | .thermCut tj => Sys2Proof.Machine.execThermCut tj s
  | .thermalRecovery => Sys2Proof.Machine.execThermalRecovery s
  | .stickyFaultClear off v => Sys2Proof.Machine.execStickyFaultClear off v s
  | .xtal32CfgWrite v => Sys2Proof.Machine.execXtal32CfgWrite v s
  | .registerWrite off v hi w => Sys2Proof.Machine.execRegisterWrite off v hi w s
  | .protectedHostWrite off => Sys2Proof.Machine.execProtectedHostWrite off s
  | .badSizeAccess => Sys2Proof.Machine.execBadSizeAccess s
  | .counterLatchRead k => Sys2Proof.Machine.execCounterLatchRead k s
  | .modeReqCellar => Sys2Proof.Machine.execModeReqCellar s
  | .modeReqDormerWatch => Sys2Proof.Machine.execModeReqDormerWatch s
  | .modeReqRestart => Sys2Proof.Machine.execModeReqRestart s
  | .modeReqSurvey => Sys2Proof.Machine.execModeReqSurvey s
  | .modeReqFleetStop => Sys2Proof.Machine.execModeReqFleetStop s
  | .modeReqFleetStart => Sys2Proof.Machine.execModeReqFleetStart s
  | .claimArbitrationEnd => Sys2Proof.Machine.execClaimArbitrationEnd s
  | .pdownDescriptorAbort => Sys2Proof.Machine.execPdownDescriptorAbort s
  | .pdownDrainTimeout => Sys2Proof.Machine.execPdownDrainTimeout s
  | .pdownOutputsStop => Sys2Proof.Machine.execPdownOutputsStop s
  | .pdownRailCut => Sys2Proof.Machine.execPdownRailCut s
  | .pdownCellarEntry => Sys2Proof.Machine.execPdownCellarEntry s
  | .wakeInEdge pin1 rising => Sys2Proof.Machine.execWakeInEdge pin1 rising s
  | .wakeTimerExpire => Sys2Proof.Machine.execWakeTimerExpire s
  | .latchedWake => Sys2Proof.Machine.execLatchedWake s
  | .wakeCommit => Sys2Proof.Machine.execWakeCommit s
  | .pllLockBoot => Sys2Proof.Machine.execPllLockBoot s
  | .memoryTestComplete words buckets grants => Sys2Proof.Machine.execMemoryTestComplete words buckets grants s
  | .lanAdmit a b => Sys2Proof.Machine.execLanAdmit a b s
  | .beaconStart => Sys2Proof.Machine.execBeaconStart s
  | .bootComplete => Sys2Proof.Machine.execBootComplete s
  | .ptpAcceptStart => Sys2Proof.Machine.execPtpAcceptStart s
  | .resetArmRise lowLong => Sys2Proof.Machine.execResetArmRise lowLong s
  | .resetArmFall heldLong => Sys2Proof.Machine.execResetArmFall heldLong s
  | .resetArmHoldTimeout => Sys2Proof.Machine.execResetArmHoldTimeout s
  | .perstAssert => Sys2Proof.Machine.execPerstAssert s
  | .pcieLinkUp speed width => Sys2Proof.Machine.execPcieLinkUp speed width s
  | .pcieWakeRelease => Sys2Proof.Machine.execPcieWakeRelease s
  | .hostAdmissionOpen => Sys2Proof.Machine.execHostAdmissionOpen s
  | .hostCommit => Sys2Proof.Machine.execHostCommit s
  | .hostClaim v bme => Sys2Proof.Machine.execHostClaim v bme s
  | .hostRelease v bme => Sys2Proof.Machine.execHostRelease v bme s
  | .attnKick => Sys2Proof.Machine.execAttnKick s
  | .doorbellScan words alive failed => Sys2Proof.Machine.execDoorbellScan words alive failed s
  | .descriptorFetch ring descs err => Sys2Proof.Machine.execDescriptorFetch ring descs err s
  | .hreNop c => Sys2Proof.Machine.execHreNop c s
  | .hreEcho c => Sys2Proof.Machine.execHreEcho c s
  | .completionWrite ring index => Sys2Proof.Machine.execCompletionWrite ring index s
  | .eventWrite => Sys2Proof.Machine.execEventWrite s
  | .coalesceTimer ring => Sys2Proof.Machine.execCoalesceTimer ring s
  | .msixGapEnd v => Sys2Proof.Machine.execMsixGapEnd v s
  | .msixUnmask v => Sys2Proof.Machine.execMsixUnmask v s
  | .ringCommit => Sys2Proof.Machine.execRingCommit s
  | .ringDrainDone ring => Sys2Proof.Machine.execRingDrainDone ring s
  | .hostAliveTimeout => Sys2Proof.Machine.execHostAliveTimeout s
  | .linkL0Loss long => Sys2Proof.Machine.execLinkL0Loss long s
  | .busMasterClear => Sys2Proof.Machine.execBusMasterClear s
  | .d3hotEntry => Sys2Proof.Machine.execD3hotEntry s
  | .hostWriteResume => Sys2Proof.Machine.execHostWriteResume s
  | .chuteStart n prio => Sys2Proof.Machine.execChuteStart n prio s
  | .chuteWrite n w => Sys2Proof.Machine.execChuteWrite n w s
  | .chuteCommit n => Sys2Proof.Machine.execChuteCommit n s
  | .chuteAbort n => Sys2Proof.Machine.execChuteAbort n s
  | .chuteRead n ecc => Sys2Proof.Machine.execChuteRead n ecc s
  | .chuteDropRest n => Sys2Proof.Machine.execChuteDropRest n s
  | .chuteCfgCommit => Sys2Proof.Machine.execChuteCfgCommit s
  | .chuteViewSample n => Sys2Proof.Machine.execChuteViewSample n s
  | .progCommit => Sys2Proof.Machine.execProgCommit s
  | .channelStart v => Sys2Proof.Machine.execChannelStart v s
  | .channelResume v => Sys2Proof.Machine.execChannelResume v s
  | .channelStop v => Sys2Proof.Machine.execChannelStop v s
  | .eventFlagsClear hi v => Sys2Proof.Machine.execEventFlagsClear hi v s
  | .tickConfigWrite t v => Sys2Proof.Machine.execTickConfigWrite t v s
  | .hoistTick t => Sys2Proof.Machine.execHoistTick t s
  | .move n fetch bus => Sys2Proof.Machine.execMove n fetch bus s
  | .moveComplete n => Sys2Proof.Machine.execMoveComplete n s
  | .burstRetry n ok => Sys2Proof.Machine.execBurstRetry n ok s
  | .loop n fetch => Sys2Proof.Machine.execLoop n fetch s
  | .wait n fetch => Sys2Proof.Machine.execWait n fetch s
  | .waitSatisfied n => Sys2Proof.Machine.execWaitSatisfied n s
  | .waitTimeout n => Sys2Proof.Machine.execWaitTimeout n s
  | .signal n fetch => Sys2Proof.Machine.execSignal n fetch s
  | .hoistEnd n fetch => Sys2Proof.Machine.execHoistEnd n fetch s
  | .threadWake src => Sys2Proof.Machine.execThreadWake src s
  | .threadDispatch unit waitUs => Sys2Proof.Machine.execThreadDispatch unit waitUs s
  | .packetAdmission ecc => Sys2Proof.Machine.execPacketAdmission ecc s
  | .entryComplete seq out => Sys2Proof.Machine.execEntryComplete seq out s
  | .threadCommit => Sys2Proof.Machine.execThreadCommit s
  | .flowCommit => Sys2Proof.Machine.execFlowCommit s
  | .obsLatch => Sys2Proof.Machine.execObsLatch s
  | .loadWindowEnd loads => Sys2Proof.Machine.execLoadWindowEnd loads s
  | .flowViewSample f => Sys2Proof.Machine.execFlowViewSample f s
  | .epochBoundary => Sys2Proof.Machine.execEpochBoundary s
  | .epochCounterRecord => Sys2Proof.Machine.execEpochCounterRecord s
  | .epochLengthApply => Sys2Proof.Machine.execEpochLengthApply s
  | .epochRelease => Sys2Proof.Machine.execEpochRelease s
  | .positionSnapshot => Sys2Proof.Machine.execPositionSnapshot s
  | .epochDecide loops => Sys2Proof.Machine.execEpochDecide loops s
  | .overrunEpoch => Sys2Proof.Machine.execOverrunEpoch s
  | .epochDigestClose => Sys2Proof.Machine.execEpochDigestClose s
  | .epochCommit => Sys2Proof.Machine.execEpochCommit s
  | .epochAbandon => Sys2Proof.Machine.execEpochAbandon s
  | .measEpoch obs => Sys2Proof.Machine.execMeasEpoch obs s
  | .measRateApply => Sys2Proof.Machine.execMeasRateApply s
  | .measCommit => Sys2Proof.Machine.execMeasCommit s
  | .trackingLoopCommit => Sys2Proof.Machine.execTrackingLoopCommit s
  | .acqResult antB signal sv codePhase doppler peak k geo => Sys2Proof.Machine.execAcqResult antB signal sv codePhase doppler peak k geo s
  | .channelAllocation sky => Sys2Proof.Machine.execChannelAllocation sky s
  | .trackingLoopUpdate ch => Sys2Proof.Machine.execTrackingLoopUpdate ch s
  | .channelTrack ch => Sys2Proof.Machine.execChannelTrack ch s
  | .channelPullInTimeout ch => Sys2Proof.Machine.execChannelPullInTimeout ch s
  | .channelLocked ch => Sys2Proof.Machine.execChannelLocked ch s
  | .channelLoss ch => Sys2Proof.Machine.execChannelLoss ch s
  | .channelReacquired ch => Sys2Proof.Machine.execChannelReacquired ch s
  | .channelIdleTimeout ch => Sys2Proof.Machine.execChannelIdleTimeout ch s
  | .navRecord ch check time payload => Sys2Proof.Machine.execNavRecord ch check time payload s
  | .antFaultSet antB => Sys2Proof.Machine.execAntFaultSet antB s
  | .antFaultClear antB => Sys2Proof.Machine.execAntFaultClear antB s
  | .bandpwrUpdate a b clipA clipB => Sys2Proof.Machine.execBandpwrUpdate a b clipA clipB s
  | .surveySecond sats x y z vec => Sys2Proof.Machine.execSurveySecond sats x y z vec s
  | .refCommit => Sys2Proof.Machine.execRefCommit s
  | .rtcmEpoch left => Sys2Proof.Machine.execRtcmEpoch left s
  | .rtcmCommit => Sys2Proof.Machine.execRtcmCommit s
  | .casterCommit => Sys2Proof.Machine.execCasterCommit s
  | .monitorCommit => Sys2Proof.Machine.execMonitorCommit s
  | .casterTable c data => Sys2Proof.Machine.execCasterTable c data s
  | .stationText c data => Sys2Proof.Machine.execStationText c data s
  | .casterRequest q => Sys2Proof.Machine.execCasterRequest q s
  | .casterRequestTimeout => Sys2Proof.Machine.execCasterRequestTimeout s
  | .lockoutExpire addr => Sys2Proof.Machine.execLockoutExpire addr s
  | .clientBacklogTimeout id => Sys2Proof.Machine.execClientBacklogTimeout id s
  | .compactEpoch => Sys2Proof.Machine.execCompactEpoch s
  | .monitorRun vec => Sys2Proof.Machine.execMonitorRun vec s
  | .driftCheck x y z => Sys2Proof.Machine.execDriftCheck x y z s
  | .distClear => Sys2Proof.Machine.execDistClear s
  | .baseSeriesIntake => Sys2Proof.Machine.execBaseSeriesIntake s
  | .creObsIntake chute ageMs => Sys2Proof.Machine.execCreObsIntake chute ageMs s
  | .partHoldTimeout lid => Sys2Proof.Machine.execPartHoldTimeout lid s
  | .basePairTimeout lid => Sys2Proof.Machine.execBasePairTimeout lid s
  | .robotEpochComplete ecc eph doneTime latencyUs => Sys2Proof.Machine.execRobotEpochComplete ecc eph doneTime latencyUs s
  | .filterGapReset lid => Sys2Proof.Machine.execFilterGapReset lid s
  | .robotReset c => Sys2Proof.Machine.execRobotReset c s
  | .stateRead c => Sys2Proof.Machine.execStateRead c s
  | .filterCommit => Sys2Proof.Machine.execFilterCommit s
  | .frameCommit => Sys2Proof.Machine.execFrameCommit s
  | .xchkCommit => Sys2Proof.Machine.execXchkCommit s
  | .larderRequest => Sys2Proof.Machine.execLarderRequest s
  | .requestDeferCutoff => Sys2Proof.Machine.execRequestDeferCutoff s
  | .larderRelease => Sys2Proof.Machine.execLarderRelease s
  | .envelopeCommand => Sys2Proof.Machine.execEnvelopeCommand s
  | .slotExpiry => Sys2Proof.Machine.execSlotExpiry s
  | .sweepComplete => Sys2Proof.Machine.execSweepComplete s
  | .cellQuarantine cell bucket => Sys2Proof.Machine.execCellQuarantine cell bucket s
  | .scrubRecount mismatch => Sys2Proof.Machine.execScrubRecount mismatch s
  | .larderAuditClear => Sys2Proof.Machine.execLarderAuditClear s
  | .auditRecountDone mismatch => Sys2Proof.Machine.execAuditRecountDone mismatch s
  | .unblock c clean => Sys2Proof.Machine.execUnblock c clean s
  | .larderHostRelease c => Sys2Proof.Machine.execLarderHostRelease c s
  | .cellRead c => Sys2Proof.Machine.execCellRead c s
  | .mapCommit => Sys2Proof.Machine.execMapCommit s
  | .mapApply => Sys2Proof.Machine.execMapApply s
  | .rulesCommit => Sys2Proof.Machine.execRulesCommit s
  | .fleetCommit => Sys2Proof.Machine.execFleetCommit s
  | .fleetValidated => Sys2Proof.Machine.execFleetValidated s
  | .tableLoad c data => Sys2Proof.Machine.execTableLoad c data s
  | .taskEvent c => Sys2Proof.Machine.execTaskEvent c s
  | .taskRead c => Sys2Proof.Machine.execTaskRead c s
  | .taskForce c => Sys2Proof.Machine.execTaskForce c s
  | .taskAuditClear mismatch => Sys2Proof.Machine.execTaskAuditClear mismatch s
  | .tableEcc live => Sys2Proof.Machine.execTableEcc live s
  | .loopInput comp us => Sys2Proof.Machine.execLoopInput comp us s
  | .coastEntry lid comp => Sys2Proof.Machine.execCoastEntry lid comp s
  | .loopRampCommand lid comp => Sys2Proof.Machine.execLoopRampCommand lid comp s
  | .loopStateEcc lid comp => Sys2Proof.Machine.execLoopStateEcc lid comp s
  | .clockLoopInput => Sys2Proof.Machine.execClockLoopInput s
  | .paceCommit => Sys2Proof.Machine.execPaceCommit s
  | .stopInOpen b => Sys2Proof.Machine.execStopInOpen b s
  | .stopInClose b => Sys2Proof.Machine.execStopInClose b s
  | .discrepancy => Sys2Proof.Machine.execDiscrepancy s
  | .lockstepFlag => Sys2Proof.Machine.execLockstepFlag s
  | .outReadbackMismatch => Sys2Proof.Machine.execOutReadbackMismatch s
  | .outFaultConditionEnd => Sys2Proof.Machine.execOutFaultConditionEnd s
  | .rc4mFault => Sys2Proof.Machine.execRc4mFault s
  | .rc4mRecover => Sys2Proof.Machine.execRc4mRecover s
  | .restrictionRequest q => Sys2Proof.Machine.execRestrictionRequest q s
  | .trapFrameRepeat => Sys2Proof.Machine.execTrapFrameRepeat s
  | .beaconTick => Sys2Proof.Machine.execBeaconTick s
  | .armWindowExpire => Sys2Proof.Machine.execArmWindowExpire s
  | .proofTimer => Sys2Proof.Machine.execProofTimer s
  | .hold c data => Sys2Proof.Machine.execHold c data s
  | .stop c data => Sys2Proof.Machine.execStop c data s
  | .go c data => Sys2Proof.Machine.execGo c data s
  | .clear c data => Sys2Proof.Machine.execClear c data s
  | .robotHold c data => Sys2Proof.Machine.execRobotHold c data s
  | .robotStop c data => Sys2Proof.Machine.execRobotStop c data s
  | .robotGo c data => Sys2Proof.Machine.execRobotGo c data s
  | .trapCommit => Sys2Proof.Machine.execTrapCommit s
  | .aonPowerOn => Sys2Proof.Machine.execAonPowerOn s
  | .dormerBurst ticks time raw => Sys2Proof.Machine.execDormerBurst ticks time raw s
  | .dormerEventDrain => Sys2Proof.Machine.execDormerEventDrain s
  | .chanCommit => Sys2Proof.Machine.execChanCommit s
  | .dormerRulesCommit => Sys2Proof.Machine.execDormerRulesCommit s
  | .zypFrameReceive port src frame => Sys2Proof.Machine.execZypFrameReceive port src frame s
  | .robotStatus => Sys2Proof.Machine.execRobotStatus s
  | .robotRequest => Sys2Proof.Machine.execRobotRequest s
  | .robotRelease => Sys2Proof.Machine.execRobotRelease s
  | .robotEvent => Sys2Proof.Machine.execRobotEvent s
  | .pairStreamCatchup => Sys2Proof.Machine.execPairStreamCatchup s
  | .streamRenew => Sys2Proof.Machine.execStreamRenew s
  | .radioTransmit => Sys2Proof.Machine.execRadioTransmit s
  | .radioIrq received => Sys2Proof.Machine.execRadioIrq received s
  | .roster c data => Sys2Proof.Machine.execRoster c data s
  | .statusRead c => Sys2Proof.Machine.execStatusRead c s
  | .zypCommit => Sys2Proof.Machine.execZypCommit s
  | .netCommit lanB => Sys2Proof.Machine.execNetCommit lanB s
  | .srpCfgWrite value => Sys2Proof.Machine.execSrpCfgWrite value s
  | .gnssClockInput utc => Sys2Proof.Machine.execGnssClockInput utc s
  | .sourceLost => Sys2Proof.Machine.execSourceLost s
  | .sourceReturn => Sys2Proof.Machine.execSourceReturn s
  | .holdoverDegrade t => Sys2Proof.Machine.execHoldoverDegrade t s
  | .tqLocked => Sys2Proof.Machine.execTqLocked s
  | .slewEnd => Sys2Proof.Machine.execSlewEnd s
  | .autoStep => Sys2Proof.Machine.execAutoStep s
  | .step => Sys2Proof.Machine.execStep s
  | .slewAccept => Sys2Proof.Machine.execSlewAccept s
  | .timeLatchRead => Sys2Proof.Machine.execTimeLatchRead s
  | .ptpSyncRx lanB off m => Sys2Proof.Machine.execPtpSyncRx lanB off m s
  | .ptpAnnounceRx lanB advice newMaster => Sys2Proof.Machine.execPtpAnnounceRx lanB advice newMaster s
  | .ptpDelayReq lanB m => Sys2Proof.Machine.execPtpDelayReq lanB m s
  | .ptpParentTimeout announce => Sys2Proof.Machine.execPtpParentTimeout announce s
  | .ptpTx lanB announce alt time => Sys2Proof.Machine.execPtpTx lanB announce alt time s
  | .ptpTransparentForward lanB typ m sent => Sys2Proof.Machine.execPtpTransparentForward lanB typ m sent s
  | .timeConfigApply => Sys2Proof.Machine.execTimeConfigApply s
  | .timeCommit => Sys2Proof.Machine.execTimeCommit s
  | .ptpCommit => Sys2Proof.Machine.execPtpCommit s
  | .pulseCommit => Sys2Proof.Machine.execPulseCommit s
  | .pulseTime g => Sys2Proof.Machine.execPulseTime g s
  | .captureEdge n rising time => Sys2Proof.Machine.execCaptureEdge n rising time s
  | .captureLatchRead n => Sys2Proof.Machine.execCaptureLatchRead n s
  | .calendarWrite => Sys2Proof.Machine.execCalendarWrite s
  | .linkHello h => Sys2Proof.Machine.execLinkHello h s
  | .liveServiceMissed => Sys2Proof.Machine.execLiveServiceMissed s
  | .liveInLost => Sys2Proof.Machine.execLiveInLost s
  | .claimInDeassert => Sys2Proof.Machine.execClaimInDeassert s
  | .takeoverBlocked => Sys2Proof.Machine.execTakeoverBlocked s
  | .continuityBroken claim => Sys2Proof.Machine.execContinuityBroken claim s
  | .twinAmbiguity => Sys2Proof.Machine.execTwinAmbiguity s
  | .laneLoss lane => Sys2Proof.Machine.execLaneLoss lane s
  | .linkFrameRx frame => Sys2Proof.Machine.execLinkFrameRx frame s
  | .linkRetransmit => Sys2Proof.Machine.execLinkRetransmit s
  | .linkIdleTx => Sys2Proof.Machine.execLinkIdleTx s
  | .linkDown => Sys2Proof.Machine.execLinkDown s
  | .loneAfterTimeout => Sys2Proof.Machine.execLoneAfterTimeout s
  | .stateFrame fleet own => Sys2Proof.Machine.execStateFrame fleet own s
  | .restrictFrame stop robot cause => Sys2Proof.Machine.execRestrictFrame stop robot cause s
  | .inputFrame entries => Sys2Proof.Machine.execInputFrame entries s
  | .fetch r => Sys2Proof.Machine.execFetch r s
  | .fill r frame => Sys2Proof.Machine.execFill r frame s
  | .prepare p => Sys2Proof.Machine.execPrepare p s
  | .ack a latencyUs => Sys2Proof.Machine.execAck a latencyUs s
  | .ackLate => Sys2Proof.Machine.execAckLate s
  | .commit epoch => Sys2Proof.Machine.execCommit epoch s
  | .abandon epoch reason => Sys2Proof.Machine.execAbandon epoch reason s
  | .beaconCopy seq epoch body => Sys2Proof.Machine.execBeaconCopy seq epoch body s
  | .demote => Sys2Proof.Machine.execDemote s
  | .timeReq t1 => Sys2Proof.Machine.execTimeReq t1 s
  | .timeRsp t1 t2 t3 t4 => Sys2Proof.Machine.execTimeRsp t1 t2 t3 t4 s
  | .rejoinStart => Sys2Proof.Machine.execRejoinStart s
  | .snapReq => Sys2Proof.Machine.execSnapReq s
  | .snapData part => Sys2Proof.Machine.execSnapData part s
  | .snapEnd sections intact => Sys2Proof.Machine.execSnapEnd sections intact s
  | .journal entries ops loops committed => Sys2Proof.Machine.execJournal entries ops loops committed s
  | .journalFull => Sys2Proof.Machine.execJournalFull s
  | .compare => Sys2Proof.Machine.execCompare s
  | .ready => Sys2Proof.Machine.execReady s
  | .twinCommit => Sys2Proof.Machine.execTwinCommit s
  | .rejoinRetry => Sys2Proof.Machine.execRejoinRetry s
  | .identityRead c => Sys2Proof.Machine.execIdentityRead c s
  | .lifecycle c data ends => Sys2Proof.Machine.execLifecycle c data ends s
  | .keyImport c data => Sys2Proof.Machine.execKeyImport c data s
  | .publicSet c data => Sys2Proof.Machine.execPublicSet c data s
  | .keyRevoke c => Sys2Proof.Machine.execKeyRevoke c s
  | .beaconRekey c => Sys2Proof.Machine.execBeaconRekey c s
  | .beaconKeyActivate => Sys2Proof.Machine.execBeaconKeyActivate s
  | .vaultOperation slot kind firmware => Sys2Proof.Machine.execVaultOperation slot kind firmware s
  | .blobLoad slot blob => Sys2Proof.Machine.execBlobLoad slot blob s
  | .blobWrap slot label => Sys2Proof.Machine.execBlobWrap slot label s
  | .keyDerive src dst kind salt info bound uses => Sys2Proof.Machine.execKeyDerive src dst kind salt info bound uses s
  | .persistRecordWrite good => Sys2Proof.Machine.execPersistRecordWrite good s
  | .entropyHealthFail => Sys2Proof.Machine.execEntropyHealthFail s
  | .updateHeader src data rsv => Sys2Proof.Machine.execUpdateHeader src data rsv s
  | .updateChunk src session index data rsv => Sys2Proof.Machine.execUpdateChunk src session index data rsv s
  | .chunkProgrammed ok => Sys2Proof.Machine.execChunkProgrammed ok s
  | .fedConnect lanB => Sys2Proof.Machine.execFedConnect lanB s
  | .fedConnIdle lanB => Sys2Proof.Machine.execFedConnIdle lanB s
  | .sessionIdle => Sys2Proof.Machine.execSessionIdle s
  | .schedule c => Sys2Proof.Machine.execSchedule c s
  | .activationTest => Sys2Proof.Machine.execActivationTest s
  | .activationDeferExpire => Sys2Proof.Machine.execActivationDeferExpire s
  | .activationCommit duration => Sys2Proof.Machine.execActivationCommit duration s
  | .settingsMigrate ok => Sys2Proof.Machine.execSettingsMigrate ok s
  | .trialConfirm => Sys2Proof.Machine.execTrialConfirm s
  | .trialTimeout => Sys2Proof.Machine.execTrialTimeout s
  | .lock alone => Sys2Proof.Machine.execLock alone s
  | .unlock alone => Sys2Proof.Machine.execUnlock alone s
  | .cancel alone => Sys2Proof.Machine.execCancel alone s
  | .hostOk alone => Sys2Proof.Machine.execHostOk alone s
  | .updateClear alone => Sys2Proof.Machine.execUpdateClear alone s
  | .updCommit => Sys2Proof.Machine.execUpdCommit s
  | .histAdd r => Sys2Proof.Machine.execHistAdd r s
  | .extreme r => Sys2Proof.Machine.execExtreme r s
  | .saturated r => Sys2Proof.Machine.execSaturated r s
  | .mark r => Sys2Proof.Machine.execMark r s
  | .tallyDormerRecord e => Sys2Proof.Machine.execTallyDormerRecord e s
  | .periodicFlush => Sys2Proof.Machine.execPeriodicFlush s
  | .flush c => Sys2Proof.Machine.execFlush c s
  | .retest => Sys2Proof.Machine.execRetest s
  | .flushStart => Sys2Proof.Machine.execFlushStart s
  | .flushCommitPoint => Sys2Proof.Machine.execFlushCommitPoint s
  | .flushComplete fail duration => Sys2Proof.Machine.execFlushComplete fail duration s
  | .tallyLastWord => Sys2Proof.Machine.execTallyLastWord s
  | .tallyRestore ecc => Sys2Proof.Machine.execTallyRestore ecc s
  | .tallyLiveEcc part => Sys2Proof.Machine.execTallyLiveEcc part s
  | .snapshot c => Sys2Proof.Machine.execSnapshot c s
  | .tallyClear c data => Sys2Proof.Machine.execTallyClear c data s
  | .defCommit => Sys2Proof.Machine.execDefCommit s
  | .globalCommit => Sys2Proof.Machine.execGlobalCommit s
  | .ident c => Sys2Proof.Machine.execIdent c s
  | .memUncorrectable addr => Sys2Proof.Machine.execMemUncorrectable addr s
  | .thermWarnClear tj => Sys2Proof.Machine.execThermWarnClear tj s
  | .claimInAssert => Sys2Proof.Machine.execClaimInAssert s
  | .liveInAssert => Sys2Proof.Machine.execLiveInAssert s
  | .continuityRestored claim => Sys2Proof.Machine.execContinuityRestored claim s
  | .twinClockInput => Sys2Proof.Machine.execTwinClockInput s
  | .lanLinkUp lanB => Sys2Proof.Machine.execLanLinkUp lanB s

end Sys2Proof.Machine
end

