-- ==== Sys2Proof/Frames.lean ====
section
/-! DEFINITION. The parts of the state, and for each command the parts it may change: what statements of frames are stated in. The
registers of a block are one part, the block being BAR0 offset [31:16] of their offsets. -/

namespace Sys2Proof.Machine

/-- The block of a register: BAR0 offset [31:16], and 31 for the attention page. -/
def Fld.blk (f : Fld) : Nat := f.key / 64 % 4294967296 / 65536 % 32 + f.key / 64 % 4294967296 / 268435456 * 31

/-- A part of the state. -/
inductive Part where
  | pending -- the queue of commands
  | ctr -- the model's count of free values
  | shd -- shadows of commit groups
  | cmt -- pending commits
  | evq -- block events not yet delivered
  | mode -- the mode
  | prev -- the mode before
  | pwr -- power state
  | hre -- the Host Ring Engine: rings, vectors, session
  | chu -- chutes
  | trp -- the Trapdoor
  | tim -- yard time and its sources
  | mem -- memory
  | ticks -- tick timers of the Hoist
  | hst -- Hoist channels
  | board -- the board's memory sizes
  | dsp -- threads and flows
  | epo -- decision epochs
  | ldr -- the Larder: runs, grants, blocked cells
  | trk -- task tracks and tables
  | gov -- loops and curves of the Governor
  | zyp -- ZYP links, roster, radio
  | vlt -- the Vault: slots, records
  | rng -- ranging: channels, rates
  | cor -- corrections and the caster
  | cre -- the central filter
  | nvm -- non-volatile records
  | twn -- the twin link
  | upd -- the image that runs
  | drm -- the Dormer
  | tly -- the Tally
  | regs (block : Nat) -- the registers of a block
  | allRegs -- the whole register file
  deriving DecidableEq, Repr

/-- Part p is the same in t as in s. -/
def Part.Kept (p : Part) (s t : State) : Prop :=
  match p with
  | .pending => t.pending = s.pending
  | .ctr => t.ctr = s.ctr
  | .shd => t.shd = s.shd
  | .cmt => t.cmt = s.cmt
  | .evq => t.evq = s.evq
  | .mode => t.mode = s.mode
  | .prev => t.prev = s.prev
  | .pwr => t.pwr = s.pwr
  | .hre => t.hre = s.hre
  | .chu => t.chu = s.chu
  | .trp => t.trp = s.trp
  | .tim => t.tim = s.tim
  | .mem => t.mem = s.mem
  | .ticks => t.ticks = s.ticks
  | .hst => t.hst = s.hst
  | .board => t.board = s.board
  | .dsp => t.dsp = s.dsp
  | .epo => t.epo = s.epo
  | .ldr => t.ldr = s.ldr
  | .trk => t.trk = s.trk
  | .gov => t.gov = s.gov
  | .zyp => t.zyp = s.zyp
  | .vlt => t.vlt = s.vlt
  | .rng => t.rng = s.rng
  | .cor => t.cor = s.cor
  | .cre => t.cre = s.cre
  | .nvm => t.nvm = s.nvm
  | .twn => t.twn = s.twn
  | .upd => t.upd = s.upd
  | .drm => t.drm = s.drm
  | .tly => t.tly = s.tly
  | .regs k => ∀ f : Fld, f.blk = k → t.rd f = s.rd f
  | .allRegs => ∀ f : Fld, t.rd f = s.rd f

/-- The parts of the state that a command may change, in any state and with any operands. -/
def Instr.parts (c : Instr) : List Part :=
  match c with
  | .vbatPowerOn => [.allRegs, .shd, .mode, .prev, .pwr, .trp, .tim, .vlt, .regs 0x1]
  | .aonRailsInRange => [.pwr, .regs 0x1]
  | .railTimeout => [.evq, .mode, .prev, .pwr, .regs 0x1]
  | .railRetry => [.pwr]
  | .porRelease => [.pwr, .regs 0x1]
  | .resetRelease _ _ _ _ _ => [.allRegs, .shd, .cmt, .evq, .mode, .prev, .pwr, .hre, .chu, .trp, .tim, .mem, .ticks, .hst, .dsp, .epo,
      .ldr, .trk, .gov, .zyp, .vlt, .rng, .cor, .cre, .nvm, .twn, .upd, .drm, .tly, .regs 0x0, .regs 0x1, .regs 0x3, .regs 0x7, .regs 0xc,
      .regs 0xd, .regs 0xe, .regs 0x11, .regs 0x12, .regs 0x13, .regs 0x14, .regs 0x15, .regs 0x17]
  | .systemReset => [.mode, .prev, .pwr, .regs 0x1]
  | .sysResetReturn => [.mode, .prev, .pwr, .regs 0x1]
  | .brownOut => [.evq, .mode, .prev, .pwr, .vlt, .regs 0x1]
  | .pfailAssert => [.ctr, .allRegs, .shd, .evq, .mode, .prev, .pwr, .hre, .chu, .trp, .mem, .hst, .dsp, .epo, .trk, .gov, .zyp, .cor, .twn,
      .tly, .regs 0x0, .regs 0x1, .regs 0x2, .regs 0x3, .regs 0x4, .regs 0x5, .regs 0x6, .regs 0x7, .regs 0x8, .regs 0x9, .regs 0xb,
      .regs 0xc, .regs 0xd, .regs 0xe, .regs 0xf, .regs 0x10, .regs 0x11, .regs 0x12, .regs 0x13, .regs 0x14, .regs 0x15, .regs 0x17]
  | .pfailHoistTimeout => [.ctr, .allRegs, .shd, .evq, .hre, .chu, .mem, .hst, .regs 0x0, .regs 0x1, .regs 0x2, .regs 0x3, .regs 0x4,
      .regs 0x5, .regs 0x6, .regs 0x7, .regs 0x8, .regs 0x9, .regs 0xb, .regs 0xc, .regs 0xd, .regs 0xe, .regs 0xf, .regs 0x10, .regs 0x11,
      .regs 0x12, .regs 0x13, .regs 0x14, .regs 0x15]
  | .pfailDescriptorAbort => [.hre, .regs 0x2]
  | .pfailLarderFreeze => [.hre, .nvm, .tly, .regs 0x1, .regs 0x15]
  | .pfailOutputsLow => [.trp]
  | .pfailRailCut => [.mode, .prev, .pwr, .vlt, .regs 0x1]
  | .pfailClear => [.mode, .prev, .pwr, .regs 0x1]
  | .xtal32Lost => [.evq, .tim, .regs 0x1, .regs 0x15]
  | .xtal32Restored => [.regs 0x1]
  | .refclkLost => [.ctr, .evq, .mode, .prev, .pwr, .hre, .chu, .trp, .tim, .dsp, .epo, .ldr, .trk, .gov, .zyp, .rng, .cor, .twn, .tly,
      .regs 0x1, .regs 0x2, .regs 0x3, .regs 0x6, .regs 0x7, .regs 0x9, .regs 0xc, .regs 0xe, .regs 0xf, .regs 0x10, .regs 0x11, .regs 0x12,
      .regs 0x15, .regs 0x17]
  | .pllCoreUnlock => [.ctr, .evq, .mode, .prev, .pwr, .hre, .chu, .trp, .dsp, .epo, .trk, .gov, .zyp, .cor, .twn, .tly, .regs 0x1,
      .regs 0x2, .regs 0x3, .regs 0x6, .regs 0x7, .regs 0xc, .regs 0xe, .regs 0xf, .regs 0x10, .regs 0x15, .regs 0x17]
  | .pllAdcUnlock => [.evq, .rng, .regs 0x1, .regs 0x6]
  | .pllSerdesUnlock => [.evq, .mode, .prev, .hre, .chu, .tim, .epo, .ldr, .trk, .gov, .zyp, .cor, .twn, .tly, .regs 0x1, .regs 0x2,
      .regs 0x3, .regs 0x7, .regs 0x9, .regs 0x11, .regs 0x12, .regs 0x15, .regs 0x17]
  | .pllRelock _ => [.regs 0x1, .regs 0x6]
  | .thermWarn _ => [.evq, .pwr, .regs 0x0, .regs 0x1]
  | .thermCrit _ => [.ctr, .evq, .mode, .prev, .pwr, .hre, .chu, .trp, .dsp, .epo, .trk, .gov, .zyp, .cor, .twn, .tly, .regs 0x1, .regs 0x2,
      .regs 0x3, .regs 0x6, .regs 0x7, .regs 0xc, .regs 0xe, .regs 0xf, .regs 0x10, .regs 0x15, .regs 0x17]
  | .thermCut _ => [.evq, .mode, .prev, .pwr, .vlt, .regs 0x1]
  | .thermalRecovery => [.mode, .prev, .pwr, .regs 0x1]
  | .stickyFaultClear _ _ => [.allRegs, .evq, .hre, .regs 0x0, .regs 0x1, .regs 0x2, .regs 0x3, .regs 0x4, .regs 0x5, .regs 0x6, .regs 0x7,
      .regs 0x8, .regs 0x9, .regs 0xa, .regs 0xb, .regs 0xc, .regs 0xd, .regs 0xe, .regs 0xf, .regs 0x10, .regs 0x11, .regs 0x12,
      .regs 0x13, .regs 0x14, .regs 0x15]
  | .xtal32CfgWrite _ => [.pwr, .regs 0x1]
  | .registerWrite _ _ _ _ => [.ctr, .allRegs, .shd, .cmt, .evq, .mode, .prev, .pwr, .hre, .chu, .trp, .tim, .mem, .ticks, .hst, .dsp, .epo,
      .ldr, .trk, .gov, .zyp, .rng, .cor, .cre, .nvm, .twn, .upd, .drm, .tly, .regs 0x0, .regs 0x1, .regs 0x2, .regs 0x3, .regs 0x4,
      .regs 0x5, .regs 0x6, .regs 0x7, .regs 0x8, .regs 0x9, .regs 0xa, .regs 0xb, .regs 0xc, .regs 0xd, .regs 0xe, .regs 0xf, .regs 0x10,
      .regs 0x11, .regs 0x12, .regs 0x13, .regs 0x14, .regs 0x15, .regs 0x17, .regs 0x1f]
  | .protectedHostWrite _ => [.evq, .regs 0x3, .regs 0x4, .regs 0x5, .regs 0x15]
  | .badSizeAccess => [.evq, .hre, .regs 0x2]
  | .counterLatchRead _ => [.ldr]
  | .modeReqCellar => [.ctr, .allRegs, .shd, .evq, .pwr, .hre, .chu, .mem, .hst, .dsp, .regs 0x0, .regs 0x1, .regs 0x2, .regs 0x3,
      .regs 0x4, .regs 0x5, .regs 0x6, .regs 0x7, .regs 0x8, .regs 0x9, .regs 0xb, .regs 0xc, .regs 0xd, .regs 0xe, .regs 0xf, .regs 0x10,
      .regs 0x11, .regs 0x12, .regs 0x13, .regs 0x14, .regs 0x15]
  | .modeReqDormerWatch => [.ctr, .allRegs, .shd, .evq, .pwr, .hre, .chu, .mem, .hst, .dsp, .regs 0x0, .regs 0x1, .regs 0x2, .regs 0x3,
      .regs 0x4, .regs 0x5, .regs 0x6, .regs 0x7, .regs 0x8, .regs 0x9, .regs 0xb, .regs 0xc, .regs 0xd, .regs 0xe, .regs 0xf, .regs 0x10,
      .regs 0x11, .regs 0x12, .regs 0x13, .regs 0x14, .regs 0x15]
  | .modeReqRestart => [.mode, .prev, .pwr, .regs 0x1]
  | .modeReqSurvey => [.evq, .mode, .prev, .hre, .chu, .trk, .gov, .cor, .tly, .regs 0x1, .regs 0x2, .regs 0x3, .regs 0x7, .regs 0x15,
      .regs 0x17]
  | .modeReqFleetStop => [.shd, .cmt, .evq, .mode, .prev, .hre, .chu, .epo, .ldr, .trk, .gov, .zyp, .cor, .cre, .nvm, .twn, .tly, .regs 0x1,
      .regs 0x2, .regs 0x3, .regs 0x7, .regs 0x8, .regs 0x9, .regs 0xa, .regs 0xb, .regs 0xc, .regs 0x15, .regs 0x17]
  | .modeReqFleetStart => [.evq, .mode, .prev, .hre, .chu, .trp, .trk, .gov, .cor, .twn, .tly, .regs 0x1, .regs 0x2, .regs 0x3, .regs 0x7,
      .regs 0xc, .regs 0x15, .regs 0x17]
  | .claimArbitrationEnd => [.evq, .mode, .prev, .hre, .chu, .trp, .trk, .gov, .cor, .twn, .tly, .regs 0x1, .regs 0x2, .regs 0x3, .regs 0x7,
      .regs 0xc, .regs 0x15, .regs 0x17]
  | .pdownDescriptorAbort => [.pwr, .hre, .chu, .regs 0x2]
  | .pdownDrainTimeout => [.ctr, .allRegs, .shd, .evq, .pwr, .hre, .chu, .mem, .hst, .regs 0x0, .regs 0x1, .regs 0x2, .regs 0x3, .regs 0x4,
      .regs 0x5, .regs 0x6, .regs 0x7, .regs 0x8, .regs 0x9, .regs 0xb, .regs 0xc, .regs 0xd, .regs 0xe, .regs 0xf, .regs 0x10, .regs 0x11,
      .regs 0x12, .regs 0x13, .regs 0x14, .regs 0x15]
  | .pdownOutputsStop => [.pwr, .hre, .tly, .regs 0x6, .regs 0x15]
  | .pdownRailCut => [.mode, .prev, .pwr, .vlt, .regs 0x1]
  | .pdownCellarEntry => [.mode, .prev, .pwr, .regs 0x1]
  | .wakeInEdge _ _ => [.mode, .prev, .pwr, .regs 0x1]
  | .wakeTimerExpire => [.mode, .prev, .pwr, .regs 0x1]
  | .latchedWake => [.mode, .prev, .pwr, .regs 0x1]
  | .wakeCommit => [.shd, .pwr, .nvm, .regs 0x1]
  | .pllLockBoot => [.regs 0x1, .regs 0x6]
  | .memoryTestComplete _ _ _ => [.ldr, .regs 0x9]
  | .lanAdmit _ _ => [.pwr, .zyp, .regs 0x1, .regs 0x5]
  | .beaconStart => [.regs 0x1]
  | .bootComplete => [.evq, .mode, .prev, .hre, .chu, .trk, .gov, .cor, .tly, .regs 0x1, .regs 0x2, .regs 0x3, .regs 0x7, .regs 0x12,
      .regs 0x15, .regs 0x17]
  | .ptpAcceptStart => [.tim, .regs 0x1, .regs 0x11]
  | .resetArmRise _ => [.evq, .chu, .trp, .regs 0x3, .regs 0xc, .regs 0x17]
  | .resetArmFall _ => [.evq, .hre, .chu, .trp, .twn, .regs 0x2, .regs 0x3, .regs 0xc, .regs 0x17]
  | .resetArmHoldTimeout => [.evq, .chu, .trp, .regs 0x3, .regs 0xc, .regs 0x17]
  | .perstAssert => [.allRegs, .shd, .cmt, .evq, .hre, .nvm, .regs 0x2, .regs 0x1f]
  | .pcieLinkUp _ _ => [.hre, .regs 0x2]
  | .pcieWakeRelease => [.hre]
  | .hostAdmissionOpen => [.hre, .regs 0x1]
  | .hostCommit => [.shd, .hre, .nvm, .regs 0x2]
  | .hostClaim _ _ => [.shd, .cmt, .evq, .mode, .prev, .hre, .chu, .trp, .trk, .gov, .cor, .nvm, .tly, .regs 0x2, .regs 0x3, .regs 0x7,
      .regs 0xc, .regs 0x15, .regs 0x17, .regs 0x1f]
  | .hostRelease _ _ => [.shd, .cmt, .evq, .mode, .prev, .hre, .chu, .trp, .trk, .gov, .cor, .nvm, .tly, .regs 0x2, .regs 0x3, .regs 0x7,
      .regs 0xc, .regs 0x15, .regs 0x17, .regs 0x1f]
  | .attnKick => [.hre]
  | .doorbellScan _ _ _ => [.evq, .hre, .regs 0x2]
  | .descriptorFetch _ _ _ => [.evq, .hre, .regs 0x2]
  | .hreNop _ => [.hre]
  | .hreEcho _ => [.hre]
  | .completionWrite _ _ => [.hre, .regs 0x2]
  | .eventWrite => [.ctr, .evq, .hre, .chu, .regs 0x0, .regs 0x2, .regs 0x3]
  | .coalesceTimer _ => [.hre, .regs 0x2]
  | .msixGapEnd _ => [.hre, .regs 0x2]
  | .msixUnmask _ => [.hre, .regs 0x2]
  | .ringCommit => [.shd, .cmt, .hre, .nvm, .regs 0x2]
  | .ringDrainDone _ => [.shd, .cmt, .evq, .hre, .nvm, .regs 0x2]
  | .hostAliveTimeout => [.evq, .hre, .regs 0x2]
  | .linkL0Loss _ => [.evq, .hre, .regs 0x2]
  | .busMasterClear => [.evq, .hre, .regs 0x2]
  | .d3hotEntry => [.evq, .hre, .regs 0x2]
  | .hostWriteResume => [.hre, .regs 0x2]
  | .chuteStart _ _ => [.evq, .chu, .regs 0x3]
  | .chuteWrite _ _ => [.evq, .chu, .regs 0x3]
  | .chuteCommit _ => [.evq, .chu, .regs 0x3]
  | .chuteAbort _ => [.evq, .chu, .regs 0x3]
  | .chuteRead _ _ => [.evq, .chu, .regs 0x3]
  | .chuteDropRest _ => [.evq, .chu, .regs 0x3]
  | .chuteCfgCommit => [.shd, .evq, .chu, .nvm, .regs 0x3]
  | .chuteViewSample _ => [.chu]
  | .progCommit => [.shd, .hst, .nvm, .regs 0x4]
  | .channelStart _ => [.ctr, .allRegs, .shd, .evq, .hre, .chu, .mem, .hst, .regs 0x0, .regs 0x1, .regs 0x2, .regs 0x3, .regs 0x4,
      .regs 0x5, .regs 0x6, .regs 0x7, .regs 0x8, .regs 0x9, .regs 0xb, .regs 0xc, .regs 0xd, .regs 0xe, .regs 0xf, .regs 0x10, .regs 0x11,
      .regs 0x12, .regs 0x13, .regs 0x14, .regs 0x15]
  | .channelResume _ => [.ctr, .allRegs, .shd, .evq, .hre, .chu, .mem, .hst, .regs 0x0, .regs 0x1, .regs 0x2, .regs 0x3, .regs 0x4,
      .regs 0x5, .regs 0x6, .regs 0x7, .regs 0x8, .regs 0x9, .regs 0xb, .regs 0xc, .regs 0xd, .regs 0xe, .regs 0xf, .regs 0x10, .regs 0x11,
      .regs 0x12, .regs 0x13, .regs 0x14, .regs 0x15]
  | .channelStop _ => [.ctr, .allRegs, .shd, .evq, .hre, .chu, .mem, .hst, .regs 0x0, .regs 0x1, .regs 0x2, .regs 0x3, .regs 0x4, .regs 0x5,
      .regs 0x6, .regs 0x7, .regs 0x8, .regs 0x9, .regs 0xb, .regs 0xc, .regs 0xd, .regs 0xe, .regs 0xf, .regs 0x10, .regs 0x11, .regs 0x12,
      .regs 0x13, .regs 0x14, .regs 0x15]
  | .eventFlagsClear _ _ => [.hst]
  | .tickConfigWrite _ _ => [.ticks, .regs 0x4]
  | .hoistTick _ => [.evq, .chu, .ticks, .hst, .regs 0x3, .regs 0x4]
  | .move _ _ _ => [.ctr, .allRegs, .shd, .cmt, .evq, .mode, .prev, .pwr, .hre, .chu, .trp, .tim, .mem, .ticks, .hst, .dsp, .epo, .ldr,
      .trk, .gov, .zyp, .rng, .cor, .cre, .nvm, .twn, .upd, .drm, .tly, .regs 0x0, .regs 0x1, .regs 0x2, .regs 0x3, .regs 0x4, .regs 0x5,
      .regs 0x6, .regs 0x7, .regs 0x8, .regs 0x9, .regs 0xa, .regs 0xb, .regs 0xc, .regs 0xd, .regs 0xe, .regs 0xf, .regs 0x10, .regs 0x11,
      .regs 0x12, .regs 0x13, .regs 0x14, .regs 0x15, .regs 0x16, .regs 0x17, .regs 0x1f]
  | .moveComplete _ => [.ctr, .allRegs, .shd, .evq, .hre, .chu, .mem, .hst, .regs 0x0, .regs 0x1, .regs 0x2, .regs 0x3, .regs 0x4,
      .regs 0x5, .regs 0x6, .regs 0x7, .regs 0x8, .regs 0x9, .regs 0xb, .regs 0xc, .regs 0xd, .regs 0xe, .regs 0xf, .regs 0x10, .regs 0x11,
      .regs 0x12, .regs 0x13, .regs 0x14, .regs 0x15]
  | .burstRetry _ _ => [.ctr, .allRegs, .shd, .cmt, .evq, .mode, .prev, .pwr, .hre, .chu, .trp, .tim, .mem, .ticks, .hst, .dsp, .epo, .ldr,
      .trk, .gov, .zyp, .rng, .cor, .cre, .nvm, .twn, .upd, .drm, .tly, .regs 0x0, .regs 0x1, .regs 0x2, .regs 0x3, .regs 0x4, .regs 0x5,
      .regs 0x6, .regs 0x7, .regs 0x8, .regs 0x9, .regs 0xa, .regs 0xb, .regs 0xc, .regs 0xd, .regs 0xe, .regs 0xf, .regs 0x10, .regs 0x11,
      .regs 0x12, .regs 0x13, .regs 0x14, .regs 0x15, .regs 0x17, .regs 0x1f]
  | .loop _ _ => [.ctr, .allRegs, .shd, .evq, .hre, .chu, .mem, .hst, .regs 0x0, .regs 0x1, .regs 0x2, .regs 0x3, .regs 0x4, .regs 0x5,
      .regs 0x6, .regs 0x7, .regs 0x8, .regs 0x9, .regs 0xb, .regs 0xc, .regs 0xd, .regs 0xe, .regs 0xf, .regs 0x10, .regs 0x11, .regs 0x12,
      .regs 0x13, .regs 0x14, .regs 0x15]
  | .wait _ _ => [.ctr, .allRegs, .shd, .evq, .hre, .chu, .mem, .hst, .regs 0x0, .regs 0x1, .regs 0x2, .regs 0x3, .regs 0x4, .regs 0x5,
      .regs 0x6, .regs 0x7, .regs 0x8, .regs 0x9, .regs 0xb, .regs 0xc, .regs 0xd, .regs 0xe, .regs 0xf, .regs 0x10, .regs 0x11, .regs 0x12,
      .regs 0x13, .regs 0x14, .regs 0x15]
  | .waitSatisfied _ => [.ctr, .allRegs, .shd, .evq, .hre, .chu, .mem, .hst, .regs 0x0, .regs 0x1, .regs 0x2, .regs 0x3, .regs 0x4,
      .regs 0x5, .regs 0x6, .regs 0x7, .regs 0x8, .regs 0x9, .regs 0xb, .regs 0xc, .regs 0xd, .regs 0xe, .regs 0xf, .regs 0x10, .regs 0x11,
      .regs 0x12, .regs 0x13, .regs 0x14, .regs 0x15]
  | .waitTimeout _ => [.ctr, .allRegs, .shd, .evq, .hre, .chu, .mem, .hst, .regs 0x0, .regs 0x1, .regs 0x2, .regs 0x3, .regs 0x4, .regs 0x5,
      .regs 0x6, .regs 0x7, .regs 0x8, .regs 0x9, .regs 0xb, .regs 0xc, .regs 0xd, .regs 0xe, .regs 0xf, .regs 0x10, .regs 0x11, .regs 0x12,
      .regs 0x13, .regs 0x14, .regs 0x15]
  | .signal _ _ => [.ctr, .allRegs, .shd, .evq, .hre, .chu, .mem, .hst, .dsp, .regs 0x0, .regs 0x1, .regs 0x2, .regs 0x3, .regs 0x4,
      .regs 0x5, .regs 0x6, .regs 0x7, .regs 0x8, .regs 0x9, .regs 0xb, .regs 0xc, .regs 0xd, .regs 0xe, .regs 0xf, .regs 0x10, .regs 0x11,
      .regs 0x12, .regs 0x13, .regs 0x14, .regs 0x15]
  | .hoistEnd _ _ => [.ctr, .allRegs, .shd, .evq, .hre, .chu, .mem, .hst, .dsp, .regs 0x0, .regs 0x1, .regs 0x2, .regs 0x3, .regs 0x4,
      .regs 0x5, .regs 0x6, .regs 0x7, .regs 0x8, .regs 0x9, .regs 0xb, .regs 0xc, .regs 0xd, .regs 0xe, .regs 0xf, .regs 0x10, .regs 0x11,
      .regs 0x12, .regs 0x13, .regs 0x14, .regs 0x15]
  | .threadWake _ => [.evq, .chu, .dsp, .regs 0x3, .regs 0x5]
  | .threadDispatch _ _ => [.evq, .chu, .dsp, .regs 0x3, .regs 0x5]
  | .packetAdmission _ => [.evq, .chu, .dsp, .twn, .regs 0x3, .regs 0x5]
  | .entryComplete _ _ => [.evq, .chu, .dsp, .epo, .zyp, .regs 0x3, .regs 0x5]
  | .threadCommit => [.shd, .evq, .chu, .dsp, .nvm, .regs 0x3, .regs 0x5]
  | .flowCommit => [.shd, .nvm, .regs 0x5]
  | .obsLatch => [.dsp]
  | .loadWindowEnd _ => [.dsp]
  | .flowViewSample _ => [.dsp]
  | .epochBoundary => [.ctr, .shd, .cmt, .evq, .mode, .prev, .hre, .chu, .trp, .tim, .epo, .ldr, .trk, .gov, .zyp, .cor, .nvm, .twn, .tly,
      .regs 0x0, .regs 0x1, .regs 0x2, .regs 0x3, .regs 0x7, .regs 0x9, .regs 0xc, .regs 0xe, .regs 0xf, .regs 0x10, .regs 0x12, .regs 0x15,
      .regs 0x17]
  | .epochCounterRecord => [.nvm]
  | .epochLengthApply => [.shd, .cmt, .tim, .nvm, .regs 0x0, .regs 0x1, .regs 0x15]
  | .epochRelease => [.ctr, .evq, .mode, .prev, .hre, .chu, .trp, .epo, .ldr, .trk, .gov, .zyp, .cor, .twn, .tly, .regs 0x0, .regs 0x1,
      .regs 0x2, .regs 0x3, .regs 0x7, .regs 0x9, .regs 0xc, .regs 0xe, .regs 0xf, .regs 0x10, .regs 0x15, .regs 0x17]
  | .positionSnapshot => [.chu, .epo, .twn]
  | .epochDecide _ => [.evq, .chu, .epo, .trk, .gov, .zyp, .regs 0x3, .regs 0x9, .regs 0xa]
  | .overrunEpoch => [.ctr, .evq, .mode, .prev, .hre, .chu, .trp, .epo, .ldr, .trk, .gov, .zyp, .cor, .twn, .tly, .regs 0x0, .regs 0x1,
      .regs 0x2, .regs 0x3, .regs 0x7, .regs 0x9, .regs 0xc, .regs 0xe, .regs 0xf, .regs 0x10, .regs 0x15, .regs 0x17]
  | .epochDigestClose => [.ctr, .evq, .mode, .prev, .hre, .chu, .trp, .epo, .ldr, .trk, .gov, .zyp, .cor, .twn, .tly, .regs 0x0, .regs 0x1,
      .regs 0x2, .regs 0x3, .regs 0x7, .regs 0x9, .regs 0xa, .regs 0xc, .regs 0xe, .regs 0xf, .regs 0x10, .regs 0x15, .regs 0x17]
  | .epochCommit => [.shd, .cmt, .evq, .mode, .prev, .hre, .chu, .trp, .epo, .ldr, .trk, .gov, .zyp, .vlt, .cor, .cre, .nvm, .twn, .tly,
      .regs 0x1, .regs 0x2, .regs 0x3, .regs 0x7, .regs 0x8, .regs 0x9, .regs 0xa, .regs 0xb, .regs 0xc, .regs 0xe, .regs 0xf, .regs 0x10,
      .regs 0x12, .regs 0x15, .regs 0x17]
  | .epochAbandon => [.chu, .epo, .ldr, .trk, .gov, .zyp, .twn, .regs 0x9]
  | .measEpoch _ => [.ctr, .evq, .chu, .tim, .rng, .cor, .regs 0x1, .regs 0x3, .regs 0x6, .regs 0x15]
  | .measRateApply => [.tim, .rng, .regs 0x1, .regs 0x15]
  | .measCommit => [.shd, .rng, .nvm, .regs 0x6]
  | .trackingLoopCommit => [.shd, .nvm, .regs 0x6]
  | .acqResult _ _ _ _ _ _ _ _ => [.evq, .chu, .rng, .regs 0x3, .regs 0x6]
  | .channelAllocation _ => [.evq, .chu, .rng, .regs 0x3, .regs 0x6]
  | .trackingLoopUpdate _ => [.rng, .regs 0x6]
  | .channelTrack _ => [.rng, .regs 0x6]
  | .channelPullInTimeout _ => [.rng, .regs 0x6]
  | .channelLocked _ => [.rng, .regs 0x6]
  | .channelLoss _ => [.rng, .regs 0x6]
  | .channelReacquired _ => [.rng, .regs 0x6]
  | .channelIdleTimeout _ => [.rng, .regs 0x6]
  | .navRecord _ _ _ _ => [.evq, .chu, .rng, .regs 0x3, .regs 0x6]
  | .antFaultSet _ => [.evq, .regs 0x6]
  | .antFaultClear _ => [.regs 0x6]
  | .bandpwrUpdate _ _ _ _ => [.evq, .chu, .rng, .regs 0x3, .regs 0x6]
  | .surveySecond _ _ _ _ _ => [.ctr, .evq, .mode, .prev, .hre, .chu, .trk, .gov, .cor, .nvm, .tly, .regs 0x2, .regs 0x3, .regs 0x7,
      .regs 0x15, .regs 0x17]
  | .refCommit => [.shd, .evq, .mode, .prev, .hre, .chu, .trk, .gov, .cor, .cre, .nvm, .tly, .regs 0x2, .regs 0x3, .regs 0x7, .regs 0x8,
      .regs 0x15, .regs 0x17]
  | .rtcmEpoch _ => [.evq, .chu, .tim, .cor, .nvm, .regs 0x1, .regs 0x3, .regs 0x7, .regs 0x15]
  | .rtcmCommit => [.cor, .nvm, .regs 0x7]
  | .casterCommit => [.shd, .evq, .chu, .cor, .nvm, .regs 0x3, .regs 0x7, .regs 0x17]
  | .monitorCommit => [.shd, .nvm, .regs 0x7]
  | .casterTable _ _ => [.evq, .hre, .chu, .cor, .nvm, .regs 0x3, .regs 0x7, .regs 0x17]
  | .stationText _ _ => [.hre, .cor]
  | .casterRequest _ => [.evq, .chu, .cor, .regs 0x3, .regs 0x7, .regs 0x17]
  | .casterRequestTimeout => [.evq, .chu, .cor, .regs 0x3, .regs 0x7]
  | .lockoutExpire _ => [.cor]
  | .clientBacklogTimeout _ => [.evq, .chu, .cor, .regs 0x3, .regs 0x7, .regs 0x17]
  | .compactEpoch => [.evq, .chu, .tim, .zyp, .cor, .nvm, .regs 0x1, .regs 0x3, .regs 0x7, .regs 0x15]
  | .monitorRun _ => [.evq, .chu, .cor, .regs 0x3, .regs 0x7]
  | .driftCheck _ _ _ => [.evq, .cor, .regs 0x7]
  | .distClear => [.regs 0x7]
  | .baseSeriesIntake => [.chu, .cre, .regs 0x8]
  | .creObsIntake _ _ => [.evq, .chu, .zyp, .cre, .regs 0x3, .regs 0x8, .regs 0xe, .regs 0xf, .regs 0x10]
  | .partHoldTimeout _ => [.evq, .chu, .cre, .regs 0x3, .regs 0x8]
  | .basePairTimeout _ => [.evq, .chu, .cre, .regs 0x3, .regs 0x8]
  | .robotEpochComplete _ _ _ _ => [.ctr, .evq, .chu, .trp, .epo, .zyp, .cre, .twn, .regs 0x3, .regs 0x8, .regs 0xc, .regs 0xe, .regs 0xf,
      .regs 0x10, .regs 0x16]
  | .filterGapReset _ => [.cre, .regs 0x8]
  | .robotReset _ => [.hre, .cre, .regs 0x8]
  | .stateRead _ => [.hre]
  | .filterCommit => [.shd, .nvm, .regs 0x8]
  | .frameCommit => [.shd, .nvm, .regs 0x8]
  | .xchkCommit => [.shd, .cre, .nvm, .regs 0x8]
  | .larderRequest => [.evq, .chu, .epo, .ldr, .zyp, .regs 0x3, .regs 0x9]
  | .requestDeferCutoff => [.evq, .chu, .epo, .ldr, .zyp, .regs 0x3, .regs 0x9]
  | .larderRelease => [.evq, .chu, .epo, .ldr, .zyp, .regs 0x3]
  | .envelopeCommand => [.ctr, .evq, .chu, .trp, .epo, .ldr, .zyp, .twn, .regs 0x3, .regs 0x9, .regs 0xc, .regs 0xe, .regs 0xf, .regs 0x10]
  | .slotExpiry => [.evq, .ldr, .regs 0x9]
  | .sweepComplete => [.ldr, .regs 0x9]
  | .cellQuarantine _ _ => [.ctr, .evq, .mode, .prev, .hre, .chu, .trp, .epo, .ldr, .trk, .gov, .zyp, .cor, .twn, .tly, .regs 0x1,
      .regs 0x2, .regs 0x3, .regs 0x7, .regs 0x9, .regs 0xc, .regs 0xe, .regs 0xf, .regs 0x10, .regs 0x15, .regs 0x17]
  | .scrubRecount _ => [.evq, .ldr, .regs 0x9]
  | .larderAuditClear => [.regs 0x9]
  | .auditRecountDone _ => [.evq, .chu, .regs 0x3, .regs 0x9, .regs 0xc]
  | .unblock _ _ => [.hre, .epo, .ldr, .regs 0x9]
  | .larderHostRelease _ => [.hre, .epo]
  | .cellRead _ => [.hre]
  | .mapCommit => [.cmt, .regs 0x9]
  | .mapApply => [.shd, .cmt, .ldr, .nvm, .regs 0x9]
  | .rulesCommit => [.cmt, .regs 0x9]
  | .fleetCommit => [.cmt, .trk, .regs 0xa]
  | .fleetValidated => [.cmt, .epo, .trk, .regs 0x1, .regs 0xa, .regs 0xc]
  | .tableLoad _ _ => [.hre, .trk]
  | .taskEvent _ => [.evq, .hre, .chu, .epo, .regs 0x3, .regs 0xa]
  | .taskRead _ => [.hre]
  | .taskForce _ => [.evq, .hre, .chu, .epo, .trk, .regs 0x3, .regs 0xa]
  | .taskAuditClear _ => [.trk, .regs 0xa, .regs 0xc]
  | .tableEcc _ => [.ctr, .evq, .mode, .prev, .hre, .chu, .trp, .epo, .trk, .gov, .zyp, .cor, .twn, .tly, .regs 0x1, .regs 0x2, .regs 0x3,
      .regs 0x7, .regs 0xa, .regs 0xc, .regs 0xe, .regs 0xf, .regs 0x10, .regs 0x15, .regs 0x17]
  | .loopInput _ _ => [.ctr, .evq, .chu, .trp, .epo, .gov, .zyp, .twn, .regs 0x3, .regs 0xb, .regs 0xc, .regs 0xe, .regs 0xf, .regs 0x10]
  | .coastEntry _ _ => [.ctr, .evq, .chu, .trp, .epo, .gov, .zyp, .twn, .regs 0x3, .regs 0xb, .regs 0xc, .regs 0xe, .regs 0xf, .regs 0x10]
  | .loopRampCommand _ _ => [.evq, .chu, .epo, .gov, .regs 0x3, .regs 0xb]
  | .loopStateEcc _ _ => [.ctr, .evq, .chu, .trp, .epo, .gov, .zyp, .twn, .regs 0x3, .regs 0xb, .regs 0xc, .regs 0xe, .regs 0xf, .regs 0x10]
  | .clockLoopInput => [.ctr, .evq, .chu, .tim, .gov, .regs 0x3, .regs 0x11]
  | .paceCommit => [.shd, .cmt, .epo, .gov, .nvm, .regs 0xb]
  | .stopInOpen _ => [.ctr, .evq, .mode, .prev, .hre, .chu, .trp, .epo, .trk, .gov, .zyp, .cor, .twn, .tly, .regs 0x1, .regs 0x2, .regs 0x3,
      .regs 0x7, .regs 0xc, .regs 0xe, .regs 0xf, .regs 0x10, .regs 0x15, .regs 0x17]
  | .stopInClose _ => [.trp, .regs 0xc]
  | .discrepancy => [.ctr, .evq, .mode, .prev, .hre, .chu, .trp, .epo, .trk, .gov, .zyp, .cor, .twn, .tly, .regs 0x1, .regs 0x2, .regs 0x3,
      .regs 0x7, .regs 0xc, .regs 0xe, .regs 0xf, .regs 0x10, .regs 0x15, .regs 0x17]
  | .lockstepFlag => [.ctr, .evq, .mode, .prev, .pwr, .hre, .chu, .trp, .dsp, .epo, .trk, .gov, .zyp, .cor, .twn, .tly, .regs 0x0,
      .regs 0x1, .regs 0x2, .regs 0x3, .regs 0x6, .regs 0x7, .regs 0xc, .regs 0xe, .regs 0xf, .regs 0x10, .regs 0x15, .regs 0x17]
  | .outReadbackMismatch => [.ctr, .evq, .mode, .prev, .hre, .chu, .trp, .epo, .trk, .gov, .zyp, .cor, .twn, .tly, .regs 0x1, .regs 0x2,
      .regs 0x3, .regs 0x7, .regs 0xc, .regs 0xe, .regs 0xf, .regs 0x10, .regs 0x15, .regs 0x17]
  | .outFaultConditionEnd => [.regs 0xc]
  | .rc4mFault => [.ctr, .evq, .mode, .prev, .hre, .chu, .trp, .epo, .trk, .gov, .zyp, .cor, .twn, .tly, .regs 0x1, .regs 0x2, .regs 0x3,
      .regs 0x7, .regs 0xc, .regs 0xe, .regs 0xf, .regs 0x10, .regs 0x15, .regs 0x17]
  | .rc4mRecover => [.regs 0xc]
  | .restrictionRequest _ => [.ctr, .evq, .mode, .prev, .hre, .chu, .trp, .epo, .trk, .gov, .zyp, .cor, .twn, .tly, .regs 0x1, .regs 0x2,
      .regs 0x3, .regs 0x7, .regs 0xc, .regs 0xe, .regs 0xf, .regs 0x10, .regs 0x15, .regs 0x17]
  | .trapFrameRepeat => [.evq, .chu, .trp, .zyp, .regs 0x3, .regs 0xe, .regs 0xf, .regs 0x10]
  | .beaconTick => [.evq, .chu, .trp, .tim, .zyp, .twn, .regs 0x1, .regs 0x3, .regs 0xc, .regs 0xe, .regs 0xf, .regs 0x10, .regs 0x15,
      .regs 0x17]
  | .armWindowExpire => [.regs 0xc]
  | .proofTimer => [.evq, .regs 0xc]
  | .hold _ _ => [.ctr, .evq, .mode, .prev, .hre, .chu, .trp, .epo, .trk, .gov, .zyp, .cor, .twn, .tly, .regs 0x1, .regs 0x2, .regs 0x3,
      .regs 0x7, .regs 0xc, .regs 0xe, .regs 0xf, .regs 0x10, .regs 0x15, .regs 0x17]
  | .stop _ _ => [.ctr, .evq, .mode, .prev, .hre, .chu, .trp, .epo, .trk, .gov, .zyp, .cor, .twn, .tly, .regs 0x1, .regs 0x2, .regs 0x3,
      .regs 0x7, .regs 0xc, .regs 0xe, .regs 0xf, .regs 0x10, .regs 0x15, .regs 0x17]
  | .go _ _ => [.evq, .hre, .chu, .epo, .regs 0x3, .regs 0xc]
  | .clear _ _ => [.evq, .mode, .prev, .hre, .chu, .trp, .epo, .trk, .gov, .cor, .twn, .tly, .regs 0x2, .regs 0x3, .regs 0x7, .regs 0xc,
      .regs 0x15, .regs 0x17]
  | .robotHold _ _ => [.ctr, .evq, .hre, .chu, .trp, .epo, .zyp, .twn, .regs 0x3, .regs 0xc, .regs 0xe, .regs 0xf, .regs 0x10]
  | .robotStop _ _ => [.ctr, .evq, .hre, .chu, .trp, .epo, .zyp, .twn, .regs 0x3, .regs 0xc, .regs 0xe, .regs 0xf, .regs 0x10]
  | .robotGo _ _ => [.evq, .hre, .chu, .epo, .twn, .regs 0x3, .regs 0xc]
  | .trapCommit => [.shd, .nvm, .regs 0xc]
  | .aonPowerOn => [.allRegs, .shd, .cmt, .pwr, .trp, .drm, .tly]
  | .dormerBurst _ _ _ => [.ctr, .evq, .mode, .prev, .pwr, .hre, .chu, .trp, .tim, .epo, .trk, .gov, .zyp, .cor, .nvm, .twn, .drm, .tly,
      .regs 0x1, .regs 0x2, .regs 0x3, .regs 0x7, .regs 0xc, .regs 0xd, .regs 0xe, .regs 0xf, .regs 0x10, .regs 0x15, .regs 0x17]
  | .dormerEventDrain => [.chu, .drm, .regs 0xd]
  | .chanCommit => [.drm, .regs 0xd]
  | .dormerRulesCommit => [.drm, .regs 0xd]
  | .zypFrameReceive _ _ _ => [.evq, .chu, .zyp, .regs 0x1, .regs 0x3, .regs 0xe, .regs 0xf, .regs 0x10]
  | .robotStatus => [.evq, .chu, .zyp, .regs 0x3, .regs 0xe, .regs 0xf, .regs 0x10]
  | .robotRequest => [.evq, .chu, .epo, .trk, .gov, .zyp, .regs 0x3, .regs 0x9, .regs 0xa]
  | .robotRelease => [.evq, .chu, .epo, .trk, .gov, .zyp, .regs 0x3, .regs 0x9, .regs 0xa]
  | .robotEvent => [.evq, .chu, .epo, .trk, .gov, .zyp, .regs 0x3, .regs 0x9, .regs 0xa]
  | .pairStreamCatchup => [.evq, .chu, .zyp, .regs 0x3, .regs 0xe, .regs 0xf, .regs 0x10]
  | .streamRenew => [.trp, .zyp, .regs 0xe]
  | .radioTransmit => [.chu, .zyp, .regs 0xe, .regs 0xf, .regs 0x10]
  | .radioIrq _ => [.evq, .chu, .zyp, .regs 0x1, .regs 0x3, .regs 0xe, .regs 0xf, .regs 0x10]
  | .roster _ _ => [.evq, .hre, .chu, .epo, .ldr, .trk, .gov, .zyp, .cre, .nvm, .twn, .regs 0x3, .regs 0x8, .regs 0x9, .regs 0xa, .regs 0xc]
  | .statusRead _ => [.hre]
  | .zypCommit => [.shd, .nvm, .regs 0xe]
  | .netCommit _ => [.shd, .evq, .chu, .cor, .nvm, .regs 0x3, .regs 0x7, .regs 0xe, .regs 0xf, .regs 0x17]
  | .srpCfgWrite _ => [.regs 0x10]
  | .gnssClockInput _ => [.evq, .chu, .tim, .upd, .regs 0x1, .regs 0x3, .regs 0x9, .regs 0x11, .regs 0x15]
  | .sourceLost => [.evq, .chu, .tim, .regs 0x1, .regs 0x3, .regs 0x11, .regs 0x15]
  | .sourceReturn => [.evq, .chu, .tim, .upd, .regs 0x3, .regs 0x9, .regs 0x11]
  | .holdoverDegrade _ => [.evq, .tim, .regs 0x1, .regs 0x11, .regs 0x15]
  | .tqLocked => [.tim, .regs 0x1, .regs 0x11, .regs 0x15]
  | .slewEnd => [.tim, .regs 0x11]
  | .autoStep => [.evq, .chu, .tim, .upd, .regs 0x1, .regs 0x3, .regs 0x9, .regs 0x11, .regs 0x15]
  | .step => [.evq, .chu, .tim, .upd, .regs 0x3, .regs 0x9, .regs 0x11]
  | .slewAccept => [.evq, .tim, .regs 0x11]
  | .timeLatchRead => [.tim]
  | .ptpSyncRx _ _ _ => [.ctr, .evq, .chu, .tim, .upd, .regs 0x1, .regs 0x3, .regs 0x9, .regs 0xe, .regs 0xf, .regs 0x10, .regs 0x11]
  | .ptpAnnounceRx _ _ _ => [.evq, .chu, .tim, .regs 0x1, .regs 0x3, .regs 0xe, .regs 0xf, .regs 0x10, .regs 0x11]
  | .ptpDelayReq _ _ => [.evq, .chu, .tim, .regs 0x1, .regs 0x3, .regs 0xe, .regs 0xf, .regs 0x10, .regs 0x11]
  | .ptpParentTimeout _ => [.evq, .chu, .tim, .regs 0x3, .regs 0x11]
  | .ptpTx _ _ _ _ => [.ctr, .evq, .chu, .tim, .regs 0x3, .regs 0x11]
  | .ptpTransparentForward _ _ _ _ => [.evq, .chu, .regs 0x1, .regs 0x3, .regs 0xe, .regs 0xf, .regs 0x10, .regs 0x11]
  | .timeConfigApply => [.shd, .cmt, .tim, .nvm, .regs 0x1, .regs 0x11, .regs 0x15]
  | .timeCommit => [.shd, .cmt, .nvm, .regs 0x11]
  | .ptpCommit => [.shd, .nvm, .regs 0x11, .regs 0x17]
  | .pulseCommit => [.shd, .tim, .nvm, .regs 0x11]
  | .pulseTime _ => [.evq, .chu, .tim, .hst, .regs 0x1, .regs 0x3, .regs 0x4, .regs 0x11, .regs 0x15]
  | .captureEdge _ _ _ => [.evq, .chu, .tim, .regs 0x1, .regs 0x3, .regs 0x11, .regs 0x15]
  | .captureLatchRead _ => [.tim]
  | .calendarWrite => [.tim, .regs 0x1, .regs 0x15]
  | .linkHello _ => [.evq, .chu, .zyp, .twn, .regs 0x12]
  | .liveServiceMissed => [.twn]
  | .liveInLost => [.ctr, .shd, .cmt, .evq, .mode, .prev, .hre, .chu, .trp, .tim, .epo, .ldr, .trk, .gov, .zyp, .vlt, .cor, .cre, .nvm,
      .twn, .tly, .regs 0x1, .regs 0x2, .regs 0x3, .regs 0x7, .regs 0x8, .regs 0x9, .regs 0xa, .regs 0xb, .regs 0xc, .regs 0xe, .regs 0xf,
      .regs 0x10, .regs 0x11, .regs 0x12, .regs 0x15, .regs 0x17]
  | .claimInDeassert => [.ctr, .shd, .cmt, .evq, .mode, .prev, .hre, .chu, .trp, .tim, .epo, .ldr, .trk, .gov, .zyp, .vlt, .cor, .cre, .nvm,
      .twn, .tly, .regs 0x1, .regs 0x2, .regs 0x3, .regs 0x7, .regs 0x8, .regs 0x9, .regs 0xa, .regs 0xb, .regs 0xc, .regs 0xe, .regs 0xf,
      .regs 0x10, .regs 0x11, .regs 0x12, .regs 0x15, .regs 0x17]
  | .takeoverBlocked => [.evq, .mode, .prev, .hre, .chu, .epo, .ldr, .trk, .gov, .zyp, .cor, .twn, .tly, .regs 0x2, .regs 0x3, .regs 0x7,
      .regs 0x9, .regs 0x12, .regs 0x15, .regs 0x17]
  | .continuityBroken _ => [.evq, .regs 0x12]
  | .twinAmbiguity => [.ctr, .evq, .mode, .prev, .hre, .chu, .trp, .epo, .trk, .gov, .zyp, .cor, .twn, .tly, .regs 0x1, .regs 0x2,
      .regs 0x3, .regs 0x7, .regs 0xc, .regs 0xe, .regs 0xf, .regs 0x10, .regs 0x12, .regs 0x15, .regs 0x17]
  | .laneLoss _ => [.evq, .regs 0x12]
  | .linkFrameRx _ => [.evq, .chu, .twn, .regs 0x3, .regs 0x12]
  | .linkRetransmit => [.twn, .regs 0x12]
  | .linkIdleTx => [.chu, .twn]
  | .linkDown => [.evq, .mode, .prev, .hre, .chu, .tim, .epo, .ldr, .trk, .gov, .zyp, .cor, .twn, .tly, .regs 0x2, .regs 0x3, .regs 0x7,
      .regs 0x9, .regs 0x11, .regs 0x12, .regs 0x15, .regs 0x17]
  | .loneAfterTimeout => [.twn]
  | .stateFrame _ _ => [.ctr, .evq, .hre, .chu, .trp, .epo, .zyp, .twn, .regs 0x2, .regs 0x3, .regs 0xc, .regs 0xe, .regs 0xf, .regs 0x10]
  | .restrictFrame _ _ _ => [.ctr, .evq, .mode, .prev, .hre, .chu, .trp, .epo, .trk, .gov, .zyp, .cor, .twn, .tly, .regs 0x1, .regs 0x2,
      .regs 0x3, .regs 0x7, .regs 0xc, .regs 0xe, .regs 0xf, .regs 0x10, .regs 0x15, .regs 0x17]
  | .inputFrame _ => [.shd, .evq, .chu, .epo, .ldr, .trk, .gov, .twn, .regs 0x0, .regs 0x3, .regs 0x9, .regs 0xb, .regs 0x12]
  | .fetch _ => [.chu, .twn]
  | .fill _ _ => [.epo, .twn]
  | .prepare _ => [.chu, .twn]
  | .ack _ _ => [.ctr, .evq, .mode, .prev, .hre, .chu, .trp, .epo, .ldr, .trk, .gov, .zyp, .cor, .twn, .tly, .regs 0x1, .regs 0x2,
      .regs 0x3, .regs 0x7, .regs 0x9, .regs 0xc, .regs 0xe, .regs 0xf, .regs 0x10, .regs 0x12, .regs 0x15, .regs 0x17]
  | .ackLate => [.ctr, .evq, .mode, .prev, .hre, .chu, .trp, .epo, .ldr, .trk, .gov, .zyp, .cor, .twn, .tly, .regs 0x0, .regs 0x1,
      .regs 0x2, .regs 0x3, .regs 0x7, .regs 0x9, .regs 0xc, .regs 0xe, .regs 0xf, .regs 0x10, .regs 0x12, .regs 0x15, .regs 0x17]
  | .commit _ => [.shd, .cmt, .evq, .mode, .prev, .hre, .chu, .trp, .epo, .ldr, .trk, .gov, .zyp, .vlt, .cor, .cre, .nvm, .twn, .tly,
      .regs 0x1, .regs 0x2, .regs 0x3, .regs 0x7, .regs 0x8, .regs 0x9, .regs 0xa, .regs 0xb, .regs 0xc, .regs 0xe, .regs 0xf, .regs 0x10,
      .regs 0x12, .regs 0x15, .regs 0x17]
  | .abandon _ _ => [.evq, .mode, .prev, .hre, .chu, .epo, .ldr, .trk, .gov, .zyp, .cor, .twn, .tly, .regs 0x2, .regs 0x3, .regs 0x7,
      .regs 0x9, .regs 0x12, .regs 0x15, .regs 0x17]
  | .beaconCopy _ _ _ => [.evq, .chu, .zyp, .regs 0x0, .regs 0x3, .regs 0xe, .regs 0xf, .regs 0x10]
  | .demote => [.evq, .mode, .prev, .hre, .chu, .epo, .ldr, .trk, .gov, .zyp, .cor, .twn, .tly, .regs 0x2, .regs 0x3, .regs 0x7, .regs 0x9,
      .regs 0x12, .regs 0x15, .regs 0x17]
  | .timeReq _ => [.chu, .twn]
  | .timeRsp _ _ _ _ => [.twn]
  | .rejoinStart => [.evq, .chu, .twn, .regs 0x3, .regs 0x12]
  | .snapReq => [.chu, .twn]
  | .snapData _ => [.twn]
  | .snapEnd _ _ => [.ctr, .evq, .hre, .chu, .trp, .epo, .ldr, .trk, .gov, .zyp, .nvm, .twn, .regs 0x1, .regs 0x2, .regs 0x3, .regs 0x9,
      .regs 0xa, .regs 0xc, .regs 0xe, .regs 0xf, .regs 0x10, .regs 0x12]
  | .journal _ _ _ _ => [.ctr, .shd, .cmt, .evq, .mode, .prev, .hre, .chu, .trp, .epo, .ldr, .trk, .gov, .zyp, .vlt, .cor, .cre, .nvm, .twn,
      .tly, .regs 0x0, .regs 0x1, .regs 0x2, .regs 0x3, .regs 0x7, .regs 0x8, .regs 0x9, .regs 0xa, .regs 0xb, .regs 0xc, .regs 0xe,
      .regs 0xf, .regs 0x10, .regs 0x12, .regs 0x15, .regs 0x17]
  | .journalFull => [.evq, .chu, .twn, .regs 0x3, .regs 0x12]
  | .compare => [.shd, .cmt, .evq, .mode, .prev, .hre, .chu, .trp, .epo, .ldr, .trk, .gov, .zyp, .vlt, .cor, .cre, .nvm, .twn, .tly,
      .regs 0x1, .regs 0x2, .regs 0x3, .regs 0x7, .regs 0x8, .regs 0x9, .regs 0xa, .regs 0xb, .regs 0xc, .regs 0xe, .regs 0xf, .regs 0x10,
      .regs 0x12, .regs 0x15, .regs 0x17]
  | .ready => [.twn]
  | .twinCommit => [.shd, .nvm, .regs 0x1, .regs 0x12]
  | .rejoinRetry => [.twn, .regs 0x12]
  | .identityRead _ => [.hre]
  | .lifecycle _ _ _ => [.evq, .mode, .prev, .pwr, .hre, .chu, .vlt, .regs 0x1, .regs 0x3, .regs 0x13]
  | .keyImport _ _ => [.evq, .hre, .chu, .vlt, .regs 0x3, .regs 0x13]
  | .publicSet _ _ => [.evq, .hre, .chu, .vlt, .regs 0x3, .regs 0x13]
  | .keyRevoke _ => [.hre, .vlt]
  | .beaconRekey _ => [.hre, .epo, .vlt]
  | .beaconKeyActivate => [.vlt]
  | .vaultOperation _ _ _ => [.ctr, .evq, .chu, .vlt, .regs 0x3, .regs 0x13]
  | .blobLoad _ _ => [.ctr, .evq, .chu, .vlt, .regs 0x3, .regs 0x13]
  | .blobWrap _ _ => [.ctr, .evq, .chu, .vlt, .regs 0x3, .regs 0x13]
  | .keyDerive _ _ _ _ _ _ _ => [.ctr, .evq, .chu, .vlt, .regs 0x3, .regs 0x13]
  | .persistRecordWrite _ => [.hre, .vlt]
  | .entropyHealthFail => [.evq, .vlt, .regs 0x13]
  | .updateHeader _ _ _ => [.evq, .hre, .chu, .mem, .nvm, .upd, .regs 0x3, .regs 0x14]
  | .updateChunk _ _ _ _ _ => [.evq, .hre, .chu, .upd, .regs 0x3, .regs 0x14]
  | .chunkProgrammed _ => [.evq, .hre, .chu, .mem, .nvm, .upd, .regs 0x3, .regs 0x14]
  | .fedConnect _ => [.upd]
  | .fedConnIdle _ => [.upd]
  | .sessionIdle => [.upd]
  | .schedule _ => [.hre, .nvm, .regs 0x14]
  | .activationTest => [.shd, .cmt, .evq, .mode, .prev, .hre, .chu, .tim, .epo, .ldr, .trk, .gov, .zyp, .cor, .cre, .nvm, .twn, .upd, .tly,
      .regs 0x1, .regs 0x2, .regs 0x3, .regs 0x7, .regs 0x8, .regs 0x9, .regs 0xa, .regs 0xb, .regs 0xc, .regs 0x14, .regs 0x15, .regs 0x17]
  | .activationDeferExpire => [.evq, .nvm, .regs 0x14]
  | .activationCommit _ => [.evq, .mode, .prev, .pwr, .hre, .chu, .tim, .nvm, .tly, .regs 0x1, .regs 0x3, .regs 0x14, .regs 0x15]
  | .settingsMigrate _ => [.allRegs, .shd, .evq, .mode, .prev, .pwr, .chu, .gov, .zyp, .cor, .nvm, .upd, .drm, .regs 0x1, .regs 0x3,
      .regs 0xd, .regs 0x11, .regs 0x14, .regs 0x17]
  | .trialConfirm => [.evq, .nvm, .regs 0x14]
  | .trialTimeout => [.evq, .mode, .prev, .pwr, .chu, .tim, .nvm, .regs 0x1, .regs 0x3, .regs 0x14, .regs 0x15]
  | .lock _ => [.nvm, .regs 0x14]
  | .unlock _ => [.nvm, .regs 0x14]
  | .cancel _ => [.evq, .mode, .prev, .hre, .chu, .ldr, .trk, .gov, .cor, .nvm, .tly, .regs 0x2, .regs 0x3, .regs 0x7, .regs 0x9,
      .regs 0x14, .regs 0x15, .regs 0x17]
  | .hostOk _ => [.upd, .regs 0x14]
  | .updateClear _ => [.evq, .chu, .nvm, .regs 0x3, .regs 0x14]
  | .updCommit => [.shd, .nvm, .upd, .regs 0x14]
  | .histAdd _ => [.evq, .chu, .tly, .regs 0x3, .regs 0x15]
  | .extreme _ => [.evq, .chu, .tly, .regs 0x3, .regs 0x15]
  | .saturated _ => [.evq, .chu, .tly, .regs 0x3, .regs 0x15]
  | .mark _ => [.evq, .chu, .tly, .regs 0x3, .regs 0x15]
  | .tallyDormerRecord _ => [.evq, .chu, .tly, .regs 0x3, .regs 0x15]
  | .periodicFlush => [.hre, .tly, .regs 0x15]
  | .flush _ => [.hre, .tly, .regs 0x15]
  | .retest => [.hre, .tly, .regs 0x15]
  | .flushStart => [.evq, .chu, .tly, .regs 0x3, .regs 0x15]
  | .flushCommitPoint => [.hre, .tly, .regs 0x15]
  | .flushComplete _ _ => [.evq, .hre, .chu, .tly, .regs 0x1, .regs 0x3, .regs 0x15]
  | .tallyLastWord => [.tly]
  | .tallyRestore _ => [.evq, .chu, .tly, .regs 0x3, .regs 0x15]
  | .tallyLiveEcc _ => [.evq, .chu, .tly, .regs 0x3, .regs 0x15]
  | .snapshot _ => [.hre, .chu]
  | .tallyClear _ _ => [.evq, .hre, .chu, .vlt, .tly, .regs 0x3, .regs 0x13, .regs 0x15]
  | .defCommit => [.shd, .nvm, .tly, .regs 0x15]
  | .globalCommit => [.shd, .cmt, .nvm, .regs 0x0]
  | .ident _ => [.hre]
  | .memUncorrectable _ => [.ctr, .evq, .chu, .regs 0x3, .regs 0x16]
  | .thermWarnClear _ => [.pwr, .regs 0x1]
  | .claimInAssert => [.twn, .regs 0x1, .regs 0x12]
  | .liveInAssert => [.twn, .regs 0x12]
  | .continuityRestored _ => [.regs 0x12]
  | .twinClockInput => [.evq, .chu, .tim, .twn, .upd, .regs 0x1, .regs 0x3, .regs 0x9, .regs 0x11, .regs 0x15]
  | .lanLinkUp _ => [.zyp]

/-- Whether a command may change a part. -/
def Instr.mayChange (c : Instr) (p : Part) : Bool :=
  Instr.parts c |>.any fun q => q == p || (match p, q with | .regs _, .allRegs => true | .allRegs, .regs _ => true | _, _ => false)

end Sys2Proof.Machine
end

