-- ==== Sys2Proof/WellFormed.lean ====
section
/-! DEFINITION. Which operands a command can carry where its operand types allow more: a time stamp within its field widths
(rule R6), a descriptor of the command's block and opcode, no more bytes moved before a bus error than it asks for, a payload of LENGTH
bytes (rules R104, R122), a link speed and width of the PCIe capability table (rule R93), and one sample for each of the 16 Dormer channels (rule R373). -/

namespace Sys2Proof

/-- A time stamp whose fields fit (rule R6). -/
def YTime.ok (t : YTime) : Bool := decide (t.sec < 281474976710656 ∧ t.ns < 1000000000 ∧ t.frac < 65536)

/-- A command's descriptor names its block and its opcode (rule R104); one that failed on the bus moved at most LENGTH bytes. -/
def Cmd.ok (c : Cmd) (target opcode : Nat) : Bool :=
  c.desc.target.toNat == target && c.desc.opcode.toNat == opcode && (match c.err with
  | some n => decide (n ≤ c.desc.length.toNat)
  | none => true)

/-- The payload has LENGTH bytes, unless the bus failed. -/
def carries (c : Cmd) (data : List Byte) : Bool := c.err.isSome || data.length == c.desc.length.toNat

/-- Whether a command's operands can be carried. -/
def Instr.wellFormed (i : Instr) : Bool :=
  match i with
  | .vbatPowerOn => true
  | .aonRailsInRange => true
  | .railTimeout => true
  | .railRetry => true
  | .porRelease => true
  | .resetRelease _ _ _ _ _ => true
  | .systemReset => true
  | .sysResetReturn => true
  | .brownOut => true
  | .pfailAssert => true
  | .pfailHoistTimeout => true
  | .pfailDescriptorAbort => true
  | .pfailLarderFreeze => true
  | .pfailOutputsLow => true
  | .pfailRailCut => true
  | .pfailClear => true
  | .xtal32Lost => true
  | .xtal32Restored => true
  | .refclkLost => true
  | .pllCoreUnlock => true
  | .pllAdcUnlock => true
  | .pllSerdesUnlock => true
  | .pllRelock _ => true
  | .thermWarn _ => true
  | .thermCrit _ => true
  | .thermCut _ => true
  | .thermalRecovery => true
  | .stickyFaultClear _ _ => true
  | .xtal32CfgWrite _ => true
  | .registerWrite _ _ _ _ => true
  | .protectedHostWrite _ => true
  | .badSizeAccess => true
  | .counterLatchRead _ => true
  | .modeReqCellar => true
  | .modeReqDormerWatch => true
  | .modeReqRestart => true
  | .modeReqSurvey => true
  | .modeReqFleetStop => true
  | .modeReqFleetStart => true
  | .claimArbitrationEnd => true
  | .pdownDescriptorAbort => true
  | .pdownDrainTimeout => true
  | .pdownOutputsStop => true
  | .pdownRailCut => true
  | .pdownCellarEntry => true
  | .wakeInEdge _ _ => true
  | .wakeTimerExpire => true
  | .latchedWake => true
  | .wakeCommit => true
  | .pllLockBoot => true
  | .memoryTestComplete _ _ _ => true
  | .lanAdmit _ _ => true
  | .beaconStart => true
  | .bootComplete => true
  | .ptpAcceptStart => true
  | .resetArmRise _ => true
  | .resetArmFall _ => true
  | .resetArmHoldTimeout => true
  | .perstAssert => true
  | .pcieLinkUp speed width => decide (1 ≤ speed.val ∧ speed.val ≤ 3 ∧ (width.val = 1 ∨ width.val = 2 ∨ width.val = 4))
  | .pcieWakeRelease => true
  | .hostAdmissionOpen => true
  | .hostCommit => true
  | .hostClaim _ _ => true
  | .hostRelease _ _ => true
  | .attnKick => true
  | .doorbellScan _ _ _ => true
  | .descriptorFetch _ _ _ => true
  | .hreNop c => c.ok 0x02 0
  | .hreEcho c => c.ok 0x02 1
  | .completionWrite _ _ => true
  | .eventWrite => true
  | .coalesceTimer _ => true
  | .msixGapEnd _ => true
  | .msixUnmask _ => true
  | .ringCommit => true
  | .ringDrainDone _ => true
  | .hostAliveTimeout => true
  | .linkL0Loss _ => true
  | .busMasterClear => true
  | .d3hotEntry => true
  | .hostWriteResume => true
  | .chuteStart _ _ => true
  | .chuteWrite _ _ => true
  | .chuteCommit _ => true
  | .chuteAbort _ => true
  | .chuteRead _ _ => true
  | .chuteDropRest _ => true
  | .chuteCfgCommit => true
  | .chuteViewSample _ => true
  | .progCommit => true
  | .channelStart _ => true
  | .channelResume _ => true
  | .channelStop _ => true
  | .eventFlagsClear _ _ => true
  | .tickConfigWrite _ _ => true
  | .hoistTick _ => true
  | .move _ _ _ => true
  | .moveComplete _ => true
  | .burstRetry _ _ => true
  | .loop _ _ => true
  | .wait _ _ => true
  | .waitSatisfied _ => true
  | .waitTimeout _ => true
  | .signal _ _ => true
  | .hoistEnd _ _ => true
  | .threadWake _ => true
  | .threadDispatch _ _ => true
  | .packetAdmission _ => true
  | .entryComplete _ _ => true
  | .threadCommit => true
  | .flowCommit => true
  | .obsLatch => true
  | .loadWindowEnd _ => true
  | .flowViewSample _ => true
  | .epochBoundary => true
  | .epochCounterRecord => true
  | .epochLengthApply => true
  | .epochRelease => true
  | .positionSnapshot => true
  | .epochDecide _ => true
  | .overrunEpoch => true
  | .epochDigestClose => true
  | .epochCommit => true
  | .epochAbandon => true
  | .measEpoch _ => true
  | .measRateApply => true
  | .measCommit => true
  | .trackingLoopCommit => true
  | .acqResult _ _ _ _ _ _ _ _ => true
  | .channelAllocation _ => true
  | .trackingLoopUpdate _ => true
  | .channelTrack _ => true
  | .channelPullInTimeout _ => true
  | .channelLocked _ => true
  | .channelLoss _ => true
  | .channelReacquired _ => true
  | .channelIdleTimeout _ => true
  | .navRecord _ _ time _ => time.ok
  | .antFaultSet _ => true
  | .antFaultClear _ => true
  | .bandpwrUpdate _ _ _ _ => true
  | .surveySecond _ _ _ _ _ => true
  | .refCommit => true
  | .rtcmEpoch _ => true
  | .rtcmCommit => true
  | .casterCommit => true
  | .monitorCommit => true
  | .casterTable c data => c.ok 0x07 1 && carries c data
  | .stationText c data => c.ok 0x07 2 && carries c data
  | .casterRequest _ => true
  | .casterRequestTimeout => true
  | .lockoutExpire _ => true
  | .clientBacklogTimeout _ => true
  | .compactEpoch => true
  | .monitorRun _ => true
  | .driftCheck _ _ _ => true
  | .distClear => true
  | .baseSeriesIntake => true
  | .creObsIntake _ _ => true
  | .partHoldTimeout _ => true
  | .basePairTimeout _ => true
  | .robotEpochComplete _ _ doneTime _ => doneTime.ok
  | .filterGapReset _ => true
  | .robotReset c => c.ok 0x08 1
  | .stateRead c => c.ok 0x08 2
  | .filterCommit => true
  | .frameCommit => true
  | .xchkCommit => true
  | .larderRequest => true
  | .requestDeferCutoff => true
  | .larderRelease => true
  | .envelopeCommand => true
  | .slotExpiry => true
  | .sweepComplete => true
  | .cellQuarantine _ _ => true
  | .scrubRecount _ => true
  | .larderAuditClear => true
  | .auditRecountDone _ => true
  | .unblock c _ => c.ok 0x09 1
  | .larderHostRelease c => c.ok 0x09 2
  | .cellRead c => c.ok 0x09 3
  | .mapCommit => true
  | .mapApply => true
  | .rulesCommit => true
  | .fleetCommit => true
  | .fleetValidated => true
  | .tableLoad c data => c.ok 0x0A 1 && carries c data
  | .taskEvent c => c.ok 0x0A 2
  | .taskRead c => c.ok 0x0A 3
  | .taskForce c => c.ok 0x0A 4
  | .taskAuditClear _ => true
  | .tableEcc _ => true
  | .loopInput comp _ => comp.ok
  | .coastEntry _ comp => comp.ok
  | .loopRampCommand _ comp => comp.ok
  | .loopStateEcc _ comp => comp.ok
  | .clockLoopInput => true
  | .paceCommit => true
  | .stopInOpen _ => true
  | .stopInClose _ => true
  | .discrepancy => true
  | .lockstepFlag => true
  | .outReadbackMismatch => true
  | .outFaultConditionEnd => true
  | .rc4mFault => true
  | .rc4mRecover => true
  | .restrictionRequest _ => true
  | .trapFrameRepeat => true
  | .beaconTick => true
  | .armWindowExpire => true
  | .proofTimer => true
  | .hold c data => c.ok 0x0C 1 && carries c data
  | .stop c data => c.ok 0x0C 2 && carries c data
  | .go c data => c.ok 0x0C 3 && carries c data
  | .clear c data => c.ok 0x0C 4 && carries c data
  | .robotHold c data => c.ok 0x0C 5 && carries c data
  | .robotStop c data => c.ok 0x0C 6 && carries c data
  | .robotGo c data => c.ok 0x0C 7 && carries c data
  | .trapCommit => true
  | .aonPowerOn => true
  | .dormerBurst _ _ raw => decide (raw.length = 16)
  | .dormerEventDrain => true
  | .chanCommit => true
  | .dormerRulesCommit => true
  | .zypFrameReceive _ _ _ => true
  | .robotStatus => true
  | .robotRequest => true
  | .robotRelease => true
  | .robotEvent => true
  | .pairStreamCatchup => true
  | .streamRenew => true
  | .radioTransmit => true
  | .radioIrq _ => true
  | .roster c data => c.ok 0x0E 1 && carries c data
  | .statusRead c => c.ok 0x0E 2
  | .zypCommit => true
  | .netCommit _ => true
  | .srpCfgWrite _ => true
  | .gnssClockInput _ => true
  | .sourceLost => true
  | .sourceReturn => true
  | .holdoverDegrade t => t.ok
  | .tqLocked => true
  | .slewEnd => true
  | .autoStep => true
  | .step => true
  | .slewAccept => true
  | .timeLatchRead => true
  | .ptpSyncRx _ _ _ => true
  | .ptpAnnounceRx _ _ _ => true
  | .ptpDelayReq _ _ => true
  | .ptpParentTimeout _ => true
  | .ptpTx _ _ _ time => time.ok
  | .ptpTransparentForward _ _ _ sent => sent.ok
  | .timeConfigApply => true
  | .timeCommit => true
  | .ptpCommit => true
  | .pulseCommit => true
  | .pulseTime _ => true
  | .captureEdge _ _ time => time.ok
  | .captureLatchRead _ => true
  | .calendarWrite => true
  | .linkHello _ => true
  | .liveServiceMissed => true
  | .liveInLost => true
  | .claimInDeassert => true
  | .takeoverBlocked => true
  | .continuityBroken _ => true
  | .twinAmbiguity => true
  | .laneLoss _ => true
  | .linkFrameRx _ => true
  | .linkRetransmit => true
  | .linkIdleTx => true
  | .linkDown => true
  | .loneAfterTimeout => true
  | .stateFrame _ _ => true
  | .restrictFrame _ _ _ => true
  | .inputFrame _ => true
  | .fetch _ => true
  | .fill _ _ => true
  | .prepare _ => true
  | .ack _ _ => true
  | .ackLate => true
  | .commit _ => true
  | .abandon _ _ => true
  | .beaconCopy _ _ _ => true
  | .demote => true
  | .timeReq t1 => t1.ok
  | .timeRsp t1 t2 t3 t4 => t1.ok && t2.ok && t3.ok && t4.ok
  | .rejoinStart => true
  | .snapReq => true
  | .snapData _ => true
  | .snapEnd _ _ => true
  | .journal _ _ _ _ => true
  | .journalFull => true
  | .compare => true
  | .ready => true
  | .twinCommit => true
  | .rejoinRetry => true
  | .identityRead c => c.ok 0x13 1
  | .lifecycle c data _ => c.ok 0x13 2 && carries c data
  | .keyImport c data => c.ok 0x13 3 && carries c data
  | .publicSet c data => c.ok 0x13 4 && carries c data
  | .keyRevoke c => c.ok 0x13 5
  | .beaconRekey c => c.ok 0x13 6
  | .beaconKeyActivate => true
  | .vaultOperation _ _ _ => true
  | .blobLoad _ _ => true
  | .blobWrap _ _ => true
  | .keyDerive _ _ _ _ _ _ _ => true
  | .persistRecordWrite _ => true
  | .entropyHealthFail => true
  | .updateHeader src _ _ => (match src with | .host x => x.ok 0x14 1 | _ => true)
  | .updateChunk src _ _ _ _ => (match src with | .host x => x.ok 0x14 2 | _ => true)
  | .chunkProgrammed _ => true
  | .fedConnect _ => true
  | .fedConnIdle _ => true
  | .sessionIdle => true
  | .schedule c => c.ok 0x14 3
  | .activationTest => true
  | .activationDeferExpire => true
  | .activationCommit _ => true
  | .settingsMigrate _ => true
  | .trialConfirm => true
  | .trialTimeout => true
  | .lock _ => true
  | .unlock _ => true
  | .cancel _ => true
  | .hostOk _ => true
  | .updateClear _ => true
  | .updCommit => true
  | .histAdd _ => true
  | .extreme _ => true
  | .saturated _ => true
  | .mark _ => true
  | .tallyDormerRecord _ => true
  | .periodicFlush => true
  | .flush c => (match c with | some x => x.ok 0x15 3 | none => true)
  | .retest => true
  | .flushStart => true
  | .flushCommitPoint => true
  | .flushComplete _ _ => true
  | .tallyLastWord => true
  | .tallyRestore _ => true
  | .tallyLiveEcc _ => true
  | .snapshot c => c.ok 0x15 1
  | .tallyClear c data => c.ok 0x15 2 && carries c data
  | .defCommit => true
  | .globalCommit => true
  | .ident c => c.ok 0x00 1
  | .memUncorrectable _ => true
  | .thermWarnClear _ => true
  | .claimInAssert => true
  | .liveInAssert => true
  | .continuityRestored _ => true
  | .twinClockInput => true
  | .lanLinkUp _ => true

end Sys2Proof
end

