-- ==== Sys2Proof/Safety.lean ====
section
/-! DEFINITION. What statements say of a run: a command gives a next state with a property, the main domain is up, and the
well-formedness of a state that every step keeps. -/

namespace Sys2Proof.Machine

/-- Command i, in state s, answers a next state that has property P. -/
def Gives (i : Instr) (s : State) (P : State → Prop) : Prop := ∃ t, exec i s = .next t ∧ P t

/-- The main domain is up: a main mode with the main domain powered (rules R34, R58). -/
abbrev State.Up (s : State) : Prop := s.mode.main = true ∧ s.pwr.mainPowered = true

/-- Descriptor c reaches its block: it was fetched and has not started, no earlier descriptor holds it back, a data ring's descriptor has a
byte, and the bus does not fail (rules R104 to R106, R122). -/
abbrev State.Accepts (s : State) (c : Cmd) (k : RingKind) : Prop :=
  s.mayStart c = true ∧ (k = .command ∨ c.desc.length ≠ 0) ∧ c.err = none

/-- The latest completed descriptor is c, with its status, bytes moved and RESULT. -/
abbrev State.Completed (s : State) (c : Cmd) (status doneLen result : Nat) : Prop :=
  s.hre.last = some (c.ring.val, c.index.toNat, ⟨status, doneLen, result⟩)

/-- The memory has its canonical form. -/
abbrev State.MemoryOk (s : State) : Prop := Memory.wf s.mem = true

end Sys2Proof.Machine
end

