-- ==== Sys2Proof/Certificates/Slice0/Obligations.lean ====
section
/-! DEFINITION. The statements for the provers. In each, a clause names the command whose completion it states; its hypotheses speak of
the state and the operands alone. -/

open Sys2Proof Sys2Proof.Machine

/-- A step runs the command at the front of the queue; an empty queue idles. For every command c and state s with c at the front of its queue, a
  step of s is exec of c on s with the queue's rest; with an empty queue a step answers s itself (log entry 5, the model's choice). -/
def Obligations.StepTakesTheFront : Prop :=
  (∀ (c : Instr) (s : State) (rest : List Instr), s.pending = c :: rest → step s = exec c { s with pending := rest })
  ∧ (∀ s : State, s.pending = [] → step s = .next s)

/-- What reset leaves: the mode, the queue, the memory's form and reset values of the register tables. After reset the queue is empty, the unit
  is in BOOT with its main domain powered, no commit is PENDING, the memory has its canonical form, and the registers named read their reset
  values of the register tables. That the memory lists nothing is the model's choice (log entry 3). -/
def Obligations.ResetLeavesTheMachine : Prop :=
  State.reset.pending = [] ∧ State.reset.mode = .boot ∧ State.reset.Up ∧ State.reset.cmt = [] ∧ State.reset.MemoryOk
  ∧ State.reset.rd Reg.GLB_CFG_EPOCH_LEN = 1 ∧ State.reset.rd Reg.GLB_OVERRUN = 0 ∧ State.reset.rd Reg.GLB_EVENT_RING_EN = 0
  ∧ State.reset.rd Reg.CLK_PDOWN_CFG_DRAIN_TIMEOUT = 200 ∧ State.reset.rd Reg.FJR_CFG_LINK_TIMEOUT = 500
  ∧ State.reset.rd Reg.FJR_CFG_JOURNAL_MAX = 400 ∧ State.reset.rd Reg.HRE_STATUS_BOOT_CAP = 1
  ∧ State.reset.rd Reg.LDR_FREE = 536870912 ∧ State.reset.rd Reg.LDR_HELD = 0

/-- Every command leaves every part of the state outside its own list as it was. For every command c and state s, if exec answers a next state
  then every part of the state that Instr.parts does not list for c is the same in it: every register of a block not listed, the shadows,
  the memory and each unit's own state. -/
def Obligations.CommandsKeepOtherParts : Prop :=
  ∀ (c : Instr) (s t : State), exec c s = .next t → ∀ p : Part, Instr.mayChange c p = false → p.Kept s t

/-- Every step keeps the memory's canonical form. For every state s whose memory has its canonical form, addresses strictly rising and no entry
  equal to what an unlisted address reads as, if a step answers a next state then its memory has that form too. -/
def Obligations.StepKeepsMemoryForm : Prop :=
  ∀ s t : State, s.MemoryOk → step s = .next t → t.MemoryOk

/-- A commit that ends DONE makes every member live in one step; any other verdict leaves the live values. For every state, commit group (its
  members and its result field, all distinct registers) and verdict: with DONE every member's live value becomes its shadow's; with any
  other verdict it keeps its live value and its shadow keeps what was written; the result field shows the verdict; no other register, no
  other shadow, no memory and no mode changes. Groups whose commit takes effect later call this operation when it does. -/
def Obligations.CommitMovesTheGroupAtOnce : Prop :=
  ∀ (s : State) (r : Fld) (fs : List Fld) (v : Nat), (fs.map Fld.key).Nodup → (∀ f ∈ fs, f.key ≠ r.key) →
    (∀ f ∈ fs, (s.commit r fs v).rd f = if v = St.done then s.sh f % 2 ^ f.w else s.rd f)
    ∧ (∀ f ∈ fs, (s.commit r fs v).sh f = if v = St.done then s.sh f % 2 ^ f.w else s.sh f)
    ∧ (s.commit r fs v).rd r = v % 2 ^ r.w
    ∧ (∀ g : Fld, g.key ≠ r.key → (∀ f ∈ fs, g.key ≠ f.key) → (s.commit r fs v).rd g = s.rd g)
    ∧ (∀ g : Fld, g.key ≠ r.key → (∀ f ∈ fs, g.key ≠ f.key) → (s.commit r fs v).sh g = s.sh g)
    ∧ (s.commit r fs v).mem = s.mem ∧ (s.commit r fs v).mode = s.mode

/-- A sequence or epoch number is later than another when their signed 32-bit difference is positive. For all 32-bit numbers a and b, the
  model's order calls a later than b exactly when the two's-complement difference a − b is positive; a difference of 0x8000_0000 is earlier. -/
def Obligations.LaterIsTheSignedDifference : Prop :=
  (∀ a b : BitVec 32, later a.toNat b.toNat = decide (0 < (a - b).toInt))
  ∧ (∀ a b : BitVec 32, (a - b).toNat = 0x80000000 → later a.toNat b.toNat = false)

/-- A sticky CLK_FAULT bit that is cleared while its condition holds reads 1 again. For every state with the main domain up and every bit of
  CLK_FAULT that is 1 and whose condition holds, writing 1 to it completes and leaves it 1; a bit of CLK_FAULT that is 1 and whose condition
  has ended reads 0 after the write. -/
def Obligations.HoldingConditionSetsItsBitAgain : Prop :=
  (∀ (s : State) (v : Word) (f : Fld), s.Up → f.off = Reg.CLK_FAULT_REFCLK_LOST.off → (f, true) ∈ s.conditions → f ∈ s.hits f.off v.toNat →
      Gives (.stickyFaultClear (BitVec.ofNat 32 f.off) v) s fun t => t.rd f = 1)
  ∧ (∀ (s : State) (v : Word) (f : Fld), s.Up → f.off = Reg.CLK_FAULT_REFCLK_LOST.off → (f, true) ∉ s.conditions → f ∈ s.hits f.off v.toNat →
      Gives (.stickyFaultClear (BitVec.ofNat 32 f.off) v) s fun t => t.rd f = 0)

/-- A MOVE in memory copies LENGTH bytes as if through a buffer, and touches no other byte. For every running channel at a MOVE, fetched intact,
  the command completes. Where its source lies in memory or flash and its destination in memory, neither fixed, and the read meets no error:
  byte k of the destination holds what byte k of the source held before, also where the two overlap, and every byte outside the destination
  keeps its value. Both addresses are taken with their loop offsets. With LENGTH 0 no byte of memory changes and the channel goes on; where
  a range lies in no one region the channel halts with BAD_FORMAT and no byte of memory changes. While a channel's earlier MOVE is not
  complete no further one starts: the command changes nothing. -/
def Obligations.MoveActsAsThroughABuffer : Prop :=
  (∀ (s : State) (n : Fin 32) (fetch : Ecc) (bus : BusOutcome) (src dst len : Nat), s.Up → s.atOp n.val 1 = true → fetch ≠ .uncorrectable → src = s.moveAddr (bits (s.chan n.val).ins 40 40) (loopOffset (·.sstr) (s.chan n.val).loops) →
    dst = s.moveAddr (bits (s.chan n.val).ins 80 40) (loopOffset (·.dstr) (s.chan n.val).loops) → len = bits (s.chan n.val).ins 16 24 →
    (bits (s.chan n.val).ins 4 2 = 0 → 0 < len → regionOf s.board src len = some .ram ∨ regionOf s.board src len = some .nor → regionOf s.board dst len = some .ram → (bus = .clean ∨ ∃ k, bus = .corrected k) →
      Gives (.move n fetch bus) s fun t => (∀ k, k < len → Memory.read (dst + k) t.mem = Memory.read (src + k) s.mem)
        ∧ (∀ a, a < dst ∨ dst + len ≤ a → Memory.read a t.mem = Memory.read a s.mem))
    ∧ (len = 0 → Gives (.move n fetch bus) s fun t => t.mem = s.mem ∧ (t.chan n.val).st = .running ∧ (t.chan n.val).move = none)
    ∧ (bits (s.chan n.val).ins 4 2 = 0 → 0 < len → regionOf s.board src len = none ∨ regionOf s.board dst len = none →
      Gives (.move n fetch bus) s fun t => t.mem = s.mem ∧ (t.chan n.val).st = .halted ∧ (t.chan n.val).status = St.badFormat))
  ∧ (∀ (s : State) (n : Fin 32) (fetch : Ecc) (bus : BusOutcome), s.Up → (s.chan n.val).move ≠ none → Gives (.move n fetch bus) s fun t => t = s)

/-- The ID and Global block accepts IDENT alone, and IDENT completes DONE with GLB_ID in RESULT. The only opcode accepted with TARGET 0x00 is
  0x01, on a COMMAND ring. IDENT with LENGTH 0, reaching its block on a COMMAND ring, completes DONE with 0x00B1_9620 in RESULT and no byte
  moved. -/
def Obligations.IdentAnswersThePart : Prop :=
  (∀ (o k : Nat), acceptedOpcodes.contains (0, o, k) = true ↔ o = 1 ∧ k = RingKind.command.code)
  ∧ (∀ (s : State) (c : Cmd), s.Up → s.Accepts c .command → c.desc.length = 0 → Gives (.ident c) s fun t => t.Completed c St.done 0 0x00B19620)

/-- Every command completes in every state. For every command c and every state s, exec answers a next state: no command of this block ends in a
  fault or a refusal, whatever its operands. What the next state holds, the statements about each family say. -/
def Obligations.EveryCommandAnswersNext : Prop :=
  ∀ (c : Instr) (s : State), ∃ t : State, exec c s = .next t

/-- Power-up: what each power-up event does. Each event of the power-up sequence runs to a next state: VBAT power-on puts the unit on its way to
  BOOT with RAIL_EN_AON high, the main rails off, the STOP latch clear and POWER_ON as the coming cause; the AON rails in range raise
  RAIL_EN_MAIN for the first attempt; a rail timeout lowers RAIL_EN_MAIN, and after the third attempt sets RAIL_TIMEOUT and ends in
  DORMER_WATCH; a retry raises RAIL_EN_MAIN for the next attempt; POR release records the REFCLK class; reset release powers the main domain
  and stays in BOOT. -/
def Obligations.PowerUpSequence : Prop :=
  -- vbatPowerOn
  (∀ (s : State), Gives .vbatPowerOn s fun t => t.mode = .boot ∧ t.pwr.railEnAon = true ∧ t.pwr.railEnMain = false ∧ t.pwr.mainPowered =
    false ∧ t.pwr.nextCause = 1 ∧ t.trp.latch = false ∧ t.rd Reg.CLK_RAIL_STATUS_VBAT_OK = 1)
  -- aonRailsInRange
  ∧ (∀ (s : State), s.mode = .boot → s.pwr.railEnAon = true → s.pwr.railEnMain = false → s.pwr.mainPowered = false → Gives .aonRailsInRange s
    fun t => t.pwr.railEnMain = true ∧ t.pwr.railAttempts = 1 ∧ t.mode = s.mode ∧ t.rd Reg.CLK_RAIL_STATUS_RAIL_OK = 20)
  -- railTimeout, another attempt left
  ∧ (∀ (s : State), s.mode = .boot → s.pwr.railEnMain = true → s.pwr.mainPowered = false → s.pwr.porDone = false → s.pwr.railAttempts < 3 →
    Gives .railTimeout s fun t => t.pwr.railEnMain = false ∧ t.mode = .boot ∧ t.pwr.railAttempts = s.pwr.railAttempts)
  -- railTimeout, third attempt
  ∧ (∀ (s : State), s.mode = .boot → s.pwr.railEnMain = true → s.pwr.mainPowered = false → s.pwr.porDone = false → 3 ≤ s.pwr.railAttempts →
    Gives .railTimeout s fun t => t.pwr.railEnMain = false ∧ t.mode = .dormerWatch ∧ t.pwr.entry = .railTimeout ∧ t.rd
    Reg.CLK_FAULT_RAIL_TIMEOUT = 1)
  -- railRetry
  ∧ (∀ (s : State), s.mode = .boot → s.pwr.railEnMain = false → 1 ≤ s.pwr.railAttempts → s.pwr.railAttempts < 3 → Gives .railRetry s fun t =>
    t.pwr.railEnMain = true ∧ t.pwr.railAttempts = s.pwr.railAttempts + 1 ∧ t.mode = .boot)
  -- porRelease
  ∧ (∀ (s : State), s.mode = .boot → s.pwr.railEnMain = true → s.pwr.mainPowered = false → Gives .porRelease s fun t => t.pwr.porDone = true ∧
    t.rd Reg.CLK_RAIL_STATUS_RAIL_OK = 2047 ∧ t.mode = .boot ∧ t.pwr.mainPowered = false)
  -- resetRelease
  ∧ (∀ (s : State) (khz : Nat) (straps : Fin 16) (storeOk loftOk vaultOk : Bool), s.mode = .boot → s.pwr.porDone = true → s.pwr.pfailLatched =
    false → s.vlt.trans = none → Gives (.resetRelease khz straps storeOk loftOk vaultOk) s fun t => t.mode = .boot ∧ t.pwr.mainPowered =
    true ∧ t.pwr.nextCause = 0 ∧ t.pwr.relCause = s.pwr.nextCause)

/-- Resets: SYS_RST_N, its latching and the brown-out reset. Each command completes (exec answers a next state) in every state that meets its
  hypotheses. SYSTEM_RESET in a main mode with the main domain powered and PFAIL not latched: mode BOOT, the former mode noted, POR done,
  main domain in reset, SYS_RST added to the coming causes, memory as before. SYSTEM_RESET in BOOT before reset release: SYS_RST added to
  the coming causes, nothing else. SYSTEM_RESET in DORMER_WATCH, or with PFAIL latched outside CELLAR: the reset is latched and the mode
  stays. SYS_RESET_RETURN in DORMER_WATCH with a latched reset: mode BOOT, RAIL_EN_MAIN high, SYS_RST added, the latch clear. BROWN_OUT in a
  main mode with the main domain powered or POR done: mode BOOT, main domain off, RAIL_EN_MAIN high, BOD added to the causes (and SYS_RST
  where a reset was latched), BOD_RESET and FLUSH_INCOMPLETE set, Tally and Dormer as before. -/
def Obligations.ResetsAndBrownOut : Prop :=
  -- systemReset, in a main mode
  (∀ (s : State), s.Up → s.pwr.pfailLatched = false → Gives .systemReset s fun t => t.mode = .boot ∧ t.prev = s.mode ∧ t.pwr.porDone = true
    ∧ t.pwr.mainPowered = false ∧ t.pwr.nextCause = s.pwr.nextCause ||| 2 ∧ t.mem = s.mem)
  -- systemReset, in BOOT before reset release
  ∧ (∀ (s : State), s.mode = .boot → s.pwr.mainPowered = false → s.pwr.pfailLatched = false → Gives .systemReset s fun t => t =
    { s with pwr := { s.pwr with nextCause := s.pwr.nextCause ||| 2 } })
  -- systemReset, in DORMER_WATCH
  ∧ (∀ (s : State), s.mode = .dormerWatch → Gives .systemReset s fun t => t.pwr.sysResetHeld = true ∧ t.mode = .dormerWatch)
  -- systemReset, in PFAIL handling
  ∧ (∀ (s : State), s.mode ≠ .cellar → s.pwr.pfailLatched = true → Gives .systemReset s fun t => t.pwr.sysResetHeld = true ∧ t.mode = s.mode ∧
    t.pwr.mainPowered = s.pwr.mainPowered)
  -- sysResetReturn
  ∧ (∀ (s : State), s.mode = .dormerWatch → s.pwr.sysResetHeld = true → Gives .sysResetReturn s fun t => t.mode = .boot ∧ t.pwr.railEnMain =
    true ∧ t.pwr.nextCause = s.pwr.nextCause ||| 2 ∧ t.pwr.sysResetHeld = false)
  -- brownOut
  ∧ (∀ (s : State), s.mode.main = true → (s.pwr.mainPowered || s.pwr.porDone) = true → Gives .brownOut s fun t => t.mode = .boot ∧
    t.pwr.mainPowered = false ∧ t.pwr.railEnMain = true ∧ t.pwr.nextCause = s.pwr.nextCause ||| 4 ||| (if s.pwr.sysResetHeld then 2 else 0)
    ∧ t.rd Reg.CLK_FAULT_BOD_RESET = 1 ∧ t.rd Reg.CLK_LAST_MODE_FLUSH_INCOMPLETE = 1 ∧ t.tly = s.tly ∧ t.drm = s.drm)

/-- PFAIL handling: its steps and the return from it. Each command completes (exec answers a next state) in every state that meets its
  hypotheses. PFAIL_ASSERT in a main mode, powered, PFAIL not latched: PFAIL latched, LAN admission, descriptor fetch and dispatch closed,
  the mode as before, PFAIL_SEEN 1, PFAIL_STAGE 1, IN_TRANSIT 1; in a fleet mode of an unmirrored unit also HOLD cause PFAIL 1 and a fleet
  in GO goes to HOLD. With PFAIL latched in a powered main mode: PFAIL_HOIST_TIMEOUT leaves no channel in a MOVE or running, waiting or
  stopping, a channel that was in a MOVE HALTED with ABORT_POWER, and PFAIL_STAGE at least 2; PFAIL_DESCRIPTOR_ABORT leaves, on each enabled
  submission ring, only descriptors that had ended before or now end with ABORT_POWER, and no descriptor of an ended session;
  PFAIL_LARDER_FREEZE (stage at most 3) notes the HELD count (0 in the modes of R75) and the epoch, shows stage 3 or more, asks for a flush
  unless the power-down flush is done or the Tally is DEGRADED, and leaves the Trapdoor; PFAIL_OUTPUTS_LOW drives STOP_OUT and SRP_TXEN low;
  PFAIL_RAIL_CUT in a main mode: DORMER_WATCH by PFAIL, main rails off, stage 5, PFAIL no longer latched. PFAIL_CLEAR in DORMER_WATCH after
  a PFAIL entry with PFAIL_AUTO: BOOT, RAIL_EN_MAIN high, PFAIL_RESTART among the causes, PFAIL_CLEAR among the wake causes. -/
def Obligations.PowerFailHandling : Prop :=
  -- pfailAssert
  (∀ (s : State), s.Up → s.pwr.pfailLatched = false → Gives .pfailAssert s fun t => t.pwr.pfailLatched = true ∧ t.pwr.lanOpen = false ∧
    t.hre.fetchOpen = false ∧ t.dsp.open_ = false ∧ t.mode = s.mode ∧ t.rd Reg.CLK_FAULT_PFAIL_SEEN = 1 ∧ t.rd Reg.CLK_LAST_MODE_PFAIL_STAGE
    = 1 ∧ t.rd Reg.CLK_MODE_STATUS_IN_TRANSIT = 1)
  -- pfailAssert, in a fleet mode of an unmirrored unit
  ∧ (∀ (s : State), s.Up → s.pwr.pfailLatched = false → s.mode.fleet = true → s.twn.mirrored = false → Gives .pfailAssert s fun t => t.rd
    Reg.TRP_HOLD_CAUSE_PFAIL = 1 ∧ (s.trp.fleet = .go → t.trp.fleet = .hold))
  -- pfailHoistTimeout
  ∧ (∀ (s : State), s.Up → s.pwr.pfailLatched = true → s.rd Reg.CLK_LAST_MODE_PFAIL_STAGE < 16 → Gives .pfailHoistTimeout s fun t => (∀ n <
    32, (t.chan n).move = none ∧ ((t.chan n).st = .idle ∨ (t.chan n).st = .done ∨ (t.chan n).st = .halted)) ∧ (∀ n < 32, (s.chan n).move ≠
    none → (t.chan n).st = .halted ∧ (t.chan n).status = St.abortPower) ∧ t.rd Reg.CLK_LAST_MODE_PFAIL_STAGE = max 2 (s.rd
    Reg.CLK_LAST_MODE_PFAIL_STAGE) ∧ t.mode = s.mode)
  -- pfailDescriptorAbort
  ∧ (∀ (s : State), s.Up → s.pwr.pfailLatched = true → Gives .pfailDescriptorAbort s fun t => (∀ n < 128, s.isSub n = true → ∀ x ∈ (t.ring
    n).sub, ∃ y ∈ (s.ring n).sub, y.index = x.index ∧ (y.done = none → ∃ k, x.done = some ⟨St.abortPower, k, 0⟩) ∧ (y.done ≠ none → x.done =
    y.done)) ∧ t.hre.old = [])
  -- pfailLarderFreeze
  ∧ (∀ (s : State), s.Up → s.pwr.pfailLatched = true → s.rd Reg.CLK_LAST_MODE_PFAIL_STAGE ≤ 3 → Gives .pfailLarderFreeze s fun t => t.nvm.held
    = (if s.mode.heldZero then 0 else s.rd Reg.LDR_HELD) ∧ t.nvm.heldEp = s.rd Reg.GLB_EPOCH ∧ t.trp = s.trp ∧ 3 ≤ t.rd
    Reg.CLK_LAST_MODE_PFAIL_STAGE ∧ (s.tly.powerDone = false → s.on Reg.TLY_STATUS_DEGRADED = false → t.tly.want.isSome = true))
  -- pfailOutputsLow
  ∧ (∀ (s : State), s.Up → s.pwr.pfailLatched = true → Gives .pfailOutputsLow s fun t => t.trp.driveLow = true ∧ t.stopOut = false ∧
    t.driveRadio = false)
  -- pfailRailCut
  ∧ (∀ (s : State), s.pwr.pfailLatched = true → s.mode.main = true → Gives .pfailRailCut s fun t => t.mode = .dormerWatch ∧ t.pwr.railEnMain =
    false ∧ t.pwr.mainPowered = false ∧ t.pwr.entry = .pfail ∧ t.pwr.pfailLatched = false ∧ t.rd Reg.CLK_LAST_MODE_PFAIL_STAGE = 5)
  -- pfailClear
  ∧ (∀ (s : State), s.mode = .dormerWatch → s.pwr.entry = .pfail → s.on Reg.CLK_WAKE_CFG_PFAIL_AUTO = true → Gives .pfailClear s fun t =>
    t.mode = .boot ∧ t.pwr.railEnMain = true ∧ t.pwr.nextCause = s.pwr.nextCause ||| 8 ||| (if s.pwr.sysResetHeld then 2 else 0) ∧ t.rd
    Reg.CLK_WAKE_CAUSE_PFAIL_CLEAR = 1)

/-- Clock faults: what each lost or regained clock does. Each command completes (exec answers a next state) in every state that meets its
  hypotheses. XTAL32_LOST outside CELLAR: fallback 1, XTAL32_OK 0, TIME_UNKNOWN 1, XTAL32_LOST 1, calendar time not valid, the mode as
  before; XTAL32_RESTORED outside CELLAR: fallback 0, XTAL32_OK 1. In every powered main mode: REFCLK_LOST clears REFCLK_PRESENT and the
  three locks, puts the core on RC4M and sets REFCLK_LOST and PLL_CORE_UNLOCK; PLL_CORE_UNLOCK clears its lock, puts the core on RC4M and
  sets its bit; both leave the Trapdoor in STOP with the latch and cause CLOCK, and the mode FAULT_SAFE unless PFAIL is latched.
  PLL_ADC_UNLOCK clears its lock and both ADC_OK bits, stops the measurements, sets its bit and ADC_GAP. PLL_SERDES_UNLOCK clears its lock,
  sets its bit and leaves no LAN link and no link to the peer up. PLL_RELOCK sets REFCLK_PRESENT and the lock of its PLL (PLL_ADC: both
  ADC_OK bits too, and MEAS_RUNNING while an image runs and no power-down or PFAIL has stopped the outputs), and leaves CORE_ON_RC4M. A
  write to CLK_XTAL32_CFG takes LOAD_CAP (at most 13), DRIVE (at most 1) and BYPASS, which is in force from the next VBAT power-on. -/
def Obligations.ClockFaults : Prop :=
  -- xtal32Lost
  (∀ (s : State), s.mode ≠ .cellar → Gives .xtal32Lost s fun t => t.rd Reg.CLK_SRC_STATUS_XTAL32_FALLBACK = 1 ∧ t.rd
    Reg.CLK_SRC_STATUS_XTAL32_OK = 0 ∧ t.rd Reg.TLY_STATUS_TIME_UNKNOWN = 1 ∧ t.rd Reg.CLK_FAULT_XTAL32_LOST = 1 ∧ t.tim.calOk = false ∧
    t.mode = s.mode)
  -- xtal32Restored
  ∧ (∀ (s : State), s.mode ≠ .cellar → Gives .xtal32Restored s fun t => t.rd Reg.CLK_SRC_STATUS_XTAL32_FALLBACK = 0 ∧ t.rd
    Reg.CLK_SRC_STATUS_XTAL32_OK = 1 ∧ t.mode = s.mode)
  -- refclkLost
  ∧ (∀ (s : State), s.Up → Gives .refclkLost s fun t => (s.pwr.pfailLatched = false → t.mode = .faultSafe) ∧ t.trp.fleet = .stop ∧ t.trp.latch
    = true ∧ t.rd Reg.TRP_STOP_CAUSE_CLOCK = 1 ∧ t.rd Reg.CLK_SRC_STATUS_REFCLK_PRESENT = 0 ∧ t.rd Reg.CLK_SRC_STATUS_PLL_CORE_LOCK = 0 ∧
    t.rd Reg.CLK_SRC_STATUS_PLL_ADC_LOCK = 0 ∧ t.rd Reg.CLK_SRC_STATUS_PLL_SERDES_LOCK = 0 ∧ t.rd Reg.CLK_SRC_STATUS_CORE_ON_RC4M = 1 ∧ t.rd
    Reg.CLK_FAULT_REFCLK_LOST = 1 ∧ t.rd Reg.CLK_FAULT_PLL_CORE_UNLOCK = 1)
  -- pllCoreUnlock
  ∧ (∀ (s : State), s.Up → Gives .pllCoreUnlock s fun t => (s.pwr.pfailLatched = false → t.mode = .faultSafe) ∧ t.trp.fleet = .stop ∧
    t.trp.latch = true ∧ t.rd Reg.TRP_STOP_CAUSE_CLOCK = 1 ∧ t.rd Reg.CLK_SRC_STATUS_PLL_CORE_LOCK = 0 ∧ t.rd
    Reg.CLK_SRC_STATUS_CORE_ON_RC4M = 1 ∧ t.rd Reg.CLK_FAULT_PLL_CORE_UNLOCK = 1)
  -- pllAdcUnlock
  ∧ (∀ (s : State), s.Up → Gives .pllAdcUnlock s fun t => t.rd Reg.CLK_SRC_STATUS_PLL_ADC_LOCK = 0 ∧ t.rd Reg.CLK_FAULT_PLL_ADC_UNLOCK = 1 ∧
    t.rd Reg.RNG_STATUS_ADC_A_OK = 0 ∧ t.rd Reg.RNG_STATUS_ADC_B_OK = 0 ∧ t.rd Reg.RNG_STATUS_MEAS_RUNNING = 0 ∧ t.rd Reg.RNG_FAULT_ADC_GAP
    = 1 ∧ t.mode = s.mode ∧ t.trp = s.trp)
  -- pllSerdesUnlock
  ∧ (∀ (s : State), s.Up → Gives .pllSerdesUnlock s fun t => t.rd Reg.CLK_SRC_STATUS_PLL_SERDES_LOCK = 0 ∧ t.rd
    Reg.CLK_FAULT_PLL_SERDES_UNLOCK = 1 ∧ t.zyp.lanUp = [] ∧ t.linkUp = false)
  -- pllRelock, PLL_CORE
  ∧ (∀ (s : State), s.Up → Gives (.pllRelock 0) s fun t => t.rd Reg.CLK_SRC_STATUS_PLL_CORE_LOCK = 1 ∧ t.rd Reg.CLK_SRC_STATUS_REFCLK_PRESENT
    = 1 ∧ t.rd Reg.CLK_SRC_STATUS_CORE_ON_RC4M = s.rd Reg.CLK_SRC_STATUS_CORE_ON_RC4M ∧ t.mode = s.mode)
  -- pllRelock, PLL_ADC
  ∧ (∀ (s : State), s.Up → Gives (.pllRelock 1) s fun t => t.rd Reg.CLK_SRC_STATUS_REFCLK_PRESENT = 1 ∧ t.rd Reg.CLK_SRC_STATUS_PLL_ADC_LOCK =
    1 ∧ t.rd Reg.RNG_STATUS_ADC_A_OK = 1 ∧ t.rd Reg.RNG_STATUS_ADC_B_OK = 1 ∧ t.rd Reg.RNG_STATUS_MEAS_RUNNING = bit (s.upd.image &&
    !s.outputsStopped) ∧ t.mode = s.mode)
  -- pllRelock, PLL_SERDES
  ∧ (∀ (s : State), s.Up → Gives (.pllRelock 2) s fun t => t.rd Reg.CLK_SRC_STATUS_REFCLK_PRESENT = 1 ∧ t.rd
    Reg.CLK_SRC_STATUS_PLL_SERDES_LOCK = 1 ∧ t.mode = s.mode)
  -- xtal32CfgWrite
  ∧ (∀ (s : State) (v : Word), s.Up → Gives (.xtal32CfgWrite v) s fun t => t.rd Reg.CLK_XTAL32_CFG_LOAD_CAP = min 13 (bits v.toNat 0 4) ∧ t.rd
    Reg.CLK_XTAL32_CFG_DRIVE = min 1 (bits v.toNat 4 2) ∧ t.rd Reg.CLK_XTAL32_CFG_BYPASS = bits v.toNat 6 1 ∧ t.pwr.bypassNext = (bits
    v.toNat 6 1 == 1) ∧ t.mode = s.mode)

/-- Temperature: warning, critical level, cut and recovery. Each command completes (exec answers a next state) in every state that meets its
  hypotheses. THERM_WARN in a powered main mode with a reading at or above WARN_LEVEL: TJ_NOW takes the reading; where the condition was not
  yet noted it is, and THERM_WARN is set in CLK_FAULT and GLB_FAULT; mode and Trapdoor stay. THERM_WARN_CLEAR with a reading 5 °C or more
  below the level ends the condition. THERM_CRIT with a reading of 110 °C or more: CLK_FAULT.THERM_CRIT, the Trapdoor in STOP with the latch
  and cause THERM, and the mode FAULT_SAFE unless PFAIL is latched. THERM_CUT in a main mode with a reading of 118 °C or more: DORMER_WATCH
  by thermal cut, the main rails off, THERM_CUT set, the Dormer as before. THERMAL_RECOVERY in DORMER_WATCH after a thermal cut notes that
  the AON sensor is cool; with THERM_AUTO or a latched wake source it starts the unit: BOOT, RAIL_EN_MAIN high, the causes among the coming
  ones; with neither the unit stays. -/
def Obligations.ThermalEvents : Prop :=
  -- thermWarn
  (∀ (s : State) (tj : BitVec 16), s.Up → s.pwr.warnCond = false → s.warnLevel ≤ signed 16 tj.toNat → Gives (.thermWarn tj) s fun t => t.rd
    Reg.CLK_TEMP_TJ_NOW = tj.toNat ∧ t.rd Reg.CLK_FAULT_THERM_WARN = 1 ∧ t.rd Reg.GLB_FAULT_THERM_WARN = 1 ∧ t.pwr.warnCond = true ∧ t.mode
    = s.mode ∧ t.trp = s.trp)
  -- thermWarnClear
  ∧ (∀ (s : State) (tj : BitVec 16), s.Up → signed 16 tj.toNat ≤ s.warnLevel - 40 → Gives (.thermWarnClear tj) s fun t => t.rd
    Reg.CLK_TEMP_TJ_NOW = tj.toNat ∧ t.pwr.warnCond = false ∧ t.mode = s.mode ∧ t.trp = s.trp)
  -- thermCrit
  ∧ (∀ (s : State) (tj : BitVec 16), s.Up → 880 ≤ signed 16 tj.toNat → Gives (.thermCrit tj) s fun t => (s.pwr.pfailLatched = false → t.mode =
    .faultSafe) ∧ t.trp.fleet = .stop ∧ t.trp.latch = true ∧ t.rd Reg.TRP_STOP_CAUSE_THERM = 1 ∧ t.rd Reg.CLK_FAULT_THERM_CRIT = 1)
  -- thermCut
  ∧ (∀ (s : State) (tj : BitVec 16), s.mode.main = true → 944 ≤ signed 16 tj.toNat → Gives (.thermCut tj) s fun t => t.mode = .dormerWatch ∧
    t.pwr.railEnMain = false ∧ t.pwr.mainPowered = false ∧ t.pwr.entry = .thermCut ∧ t.rd Reg.CLK_FAULT_THERM_CUT = 1 ∧ t.drm = s.drm)
  -- thermalRecovery
  ∧ (∀ (s : State), s.mode = .dormerWatch → s.pwr.entry = .thermCut → (s.on Reg.CLK_WAKE_CFG_THERM_AUTO = true ∨ s.pwr.wakeLatched ≠ 0) →
    Gives .thermalRecovery s fun t => t.mode = .boot ∧ t.pwr.railEnMain = true ∧ t.pwr.nextCause = s.pwr.nextCause ||| ((if s.on
    Reg.CLK_WAKE_CFG_THERM_AUTO then 128 else 0) + (if s.pwr.wakeLatched = 0 then 0 else 64)) ||| (if s.pwr.sysResetHeld then 2 else 0) ∧
    (s.on Reg.CLK_WAKE_CFG_THERM_AUTO = true → t.rd Reg.CLK_WAKE_CAUSE_THERM_CLEAR = 1))
  -- thermalRecovery, with no wake due
  ∧ (∀ (s : State), s.mode = .dormerWatch → s.pwr.entry = .thermCut → s.on Reg.CLK_WAKE_CFG_THERM_AUTO = false → s.pwr.wakeLatched = 0 → Gives
    .thermalRecovery s fun t => t = { s with pwr := { s.pwr with aonCool := true } })

/-- Waking: pins, timer, latched sources and the WAKE group. Each command completes (exec answers a next state) in every state that meets its
  hypotheses. WAKE_IN_EDGE of either pin, enabled and of the stored polarity, in CELLAR or DORMER_WATCH with no power-down running and no
  thermal cut still hot: mode BOOT, the former mode noted, the AON rails on (and RAIL_EN_MAIN high at once from DORMER_WATCH), WAKE among
  the coming causes, the pin's wake cause set; while a power-down runs the source is latched and nothing else changes. WAKE_TIMER_EXPIRE
  with the timer running: the same for the timer, with the timer stopped and SECONDS 0. LATCHED_WAKE in CELLAR or DORMER_WATCH after the
  power-down with a source latched and no thermal cut: BOOT with WAKE among the causes, the wake causes of the latched sources set, the
  latch clear. WAKE_COMMIT in a powered main mode with some source enabled in the shadow: DONE, the group's live values are the shadow's,
  and the timer runs where SECONDS is not 0; with none enabled BAD_FORMAT. -/
def Obligations.WakeSources : Prop :=
  -- wakeInEdge
  (∀ (s : State) (pin1 rising : Bool), (s.mode = .cellar ∨ s.mode = .dormerWatch) → s.pwr.pdown = none → (s.pwr.entry ≠ .thermCut ∨
    s.pwr.aonCool = true) → s.on (if pin1 then Reg.CLK_WAKE_CFG_WAKE_IN1_EN else Reg.CLK_WAKE_CFG_WAKE_IN0_EN) = true → s.on (if pin1 then
    Reg.CLK_WAKE_CFG_WAKE_IN1_POL else Reg.CLK_WAKE_CFG_WAKE_IN0_POL) = rising → Gives (.wakeInEdge pin1 rising) s fun t => t.mode = .boot ∧
    t.prev = s.mode ∧ t.pwr.railEnAon = true ∧ t.pwr.railEnMain = (s.mode != .cellar) ∧ t.pwr.nextCause = s.pwr.nextCause ||| 64 ||| (if
    s.pwr.sysResetHeld then 2 else 0) ∧ t.rd (if pin1 then Reg.CLK_WAKE_CAUSE_WAKE_IN1 else Reg.CLK_WAKE_CAUSE_WAKE_IN0) = 1)
  -- wakeInEdge, during a power-down
  ∧ (∀ (s : State) (pin1 rising : Bool), s.pwr.pdown.isSome = true → s.on (if pin1 then Reg.CLK_WAKE_CFG_WAKE_IN1_EN else
    Reg.CLK_WAKE_CFG_WAKE_IN0_EN) = true → s.on (if pin1 then Reg.CLK_WAKE_CFG_WAKE_IN1_POL else Reg.CLK_WAKE_CFG_WAKE_IN0_POL) = rising →
    Gives (.wakeInEdge pin1 rising) s fun t => t = { s with pwr := { s.pwr with wakeLatched := s.pwr.wakeLatched ||| 2 ^ bit pin1 } })
  -- wakeTimerExpire
  ∧ (∀ (s : State), s.pwr.timerOn = true → (s.mode = .cellar ∨ s.mode = .dormerWatch) → s.pwr.pdown = none → (s.pwr.entry ≠ .thermCut ∨
    s.pwr.aonCool = true) → Gives .wakeTimerExpire s fun t => t.mode = .boot ∧ t.prev = s.mode ∧ t.pwr.railEnAon = true ∧ t.pwr.railEnMain =
    (s.mode != .cellar) ∧ t.pwr.timerOn = false ∧ t.rd Reg.CLK_WAKE_TIMER_SECONDS = 0 ∧ t.pwr.nextCause = s.pwr.nextCause ||| 64 ||| (if
    s.pwr.sysResetHeld then 2 else 0) ∧ t.rd Reg.CLK_WAKE_CAUSE_TIMER = 1)
  -- latchedWake
  ∧ (∀ (s : State), (s.mode = .cellar ∨ s.mode = .dormerWatch) → s.pwr.pdown = none → s.pwr.entry ≠ .thermCut → s.pwr.wakeLatched ≠ 0 → Gives
    .latchedWake s fun t => t.mode = .boot ∧ t.prev = s.mode ∧ t.pwr.railEnMain = (s.mode != .cellar) ∧ t.pwr.wakeLatched = 0 ∧
    t.pwr.nextCause = s.pwr.nextCause ||| 64 ||| (if s.pwr.sysResetHeld then 2 else 0) ∧ (∀ f ∈ wakeCauses, bits s.pwr.wakeLatched f.lo 1 =
    1 → t.rd f = 1))
  -- wakeCommit
  ∧ (∀ (s : State), s.Up → s.sh Reg.CLK_WAKE_CFG_WAKE_IN0_EN + s.sh Reg.CLK_WAKE_CFG_WAKE_IN1_EN + s.sh Reg.CLK_WAKE_CFG_DORMER_EN + s.sh
    Reg.CLK_WAKE_TIMER_SECONDS ≠ 0 → Gives .wakeCommit s fun t => t.rd Reg.CLK_WAKE_COMMIT_RESULT = St.done ∧ (∀ f ∈ wakeGroup, t.rd f =
    s.sh f % 2 ^ f.w) ∧ t.pwr.timerOn = (t.rd Reg.CLK_WAKE_TIMER_SECONDS != 0))
  -- wakeCommit, no source
  ∧ (∀ (s : State), s.Up → s.sh Reg.CLK_WAKE_CFG_WAKE_IN0_EN + s.sh Reg.CLK_WAKE_CFG_WAKE_IN1_EN + s.sh Reg.CLK_WAKE_CFG_DORMER_EN + s.sh
    Reg.CLK_WAKE_TIMER_SECONDS = 0 → Gives .wakeCommit s fun t => t.rd Reg.CLK_WAKE_COMMIT_RESULT = St.badFormat ∧ (∀ f ∈ wakeGroup, t.rd f
    = s.rd f))

/-- Mode requests: what an accepted request does, and how it is refused. Each command completes (exec answers a next state) in every state that
  meets its hypotheses. With the device claimed, no transition, PFAIL handling or power-down in progress, powered: CELLAR and DORMER_WATCH
  in HOSTED_IDLE with a source that can wake the unit start a commanded power-down (PENDING, IN_TRANSIT, LAN admission, descriptor fetch and
  dispatch closed, drained at once where DRAIN_TIMEOUT is 0) and leave the mode; DORMER_WATCH with no such source ends CONFLICT with nothing
  changed of power, mode and host interface. RESTART in HOSTED_IDLE, FAULT_SAFE or REJOIN answers DONE and passes to BOOT, the main domain
  in reset, HOST_RESTART among the causes. SURVEY in HOSTED_IDLE answers DONE and enters SURVEY with a fresh survey. FLEET_STOP in
  FLEET_HOLD at standstill answers DONE, enters HOSTED_IDLE, sets IDLE and releases every token. FLEET_START in HOSTED_IDLE of a
  commissioned unit with no map commit PENDING, committed tables, a valid reference and a fleet not in STOP: without the twin DONE and IDLE
  0, and with no other HOLD cause FLEET_RUN in GO, with one FLEET_HOLD; with TWIN_EN and no claim of the peer PENDING and the arbitration
  begun. FLEET_START before the claim answers REFUSED_MODE, in a transition BUSY. CLAIM_ARBITRATION_END with an arbitration running (outside
  PFAIL): seat A under the peer's claim, or a stopped core, answers CONFLICT and ends it; else it starts the fleet as FLEET_START does. -/
def Obligations.ModeRequests : Prop :=
  -- modeReqCellar
  (∀ (s : State), s.Up → s.hre.claimed = true → s.modeBusy = false → s.mode = .hostedIdle → s.canWake .cellar = true → Gives .modeReqCellar
    s fun t => t.rd Reg.CLK_MODE_RESULT_STATUS = St.pending ∧ t.rd Reg.CLK_MODE_STATUS_IN_TRANSIT = 1 ∧ t.pwr.pdown = some
    ⟨.cellar, false, decide (s.rd Reg.CLK_PDOWN_CFG_DRAIN_TIMEOUT = 0), false, false⟩ ∧ t.pwr.lanOpen = false ∧ t.hre.fetchOpen = false ∧
    t.dsp.open_ = false ∧ t.mode = .hostedIdle)
  -- modeReqDormerWatch
  ∧ (∀ (s : State), s.Up → s.hre.claimed = true → s.modeBusy = false → s.mode = .hostedIdle → s.canWake .dormerWatch = true → Gives
    .modeReqDormerWatch s fun t => t.rd Reg.CLK_MODE_RESULT_STATUS = St.pending ∧ t.rd Reg.CLK_MODE_STATUS_IN_TRANSIT = 1 ∧ t.pwr.pdown =
    some ⟨.dormerWatch, false, decide (s.rd Reg.CLK_PDOWN_CFG_DRAIN_TIMEOUT = 0), false, false⟩ ∧ t.pwr.lanOpen = false ∧ t.hre.fetchOpen =
    false ∧ t.dsp.open_ = false ∧ t.mode = .hostedIdle)
  -- modeReqDormerWatch, with no wake source
  ∧ (∀ (s : State), s.Up → s.hre.claimed = true → s.modeBusy = false → s.mode = .hostedIdle → s.canWake .dormerWatch = false → Gives
    .modeReqDormerWatch s fun t => t.rd Reg.CLK_MODE_RESULT_STATUS = St.conflict ∧ t.pwr = s.pwr ∧ t.mode = .hostedIdle ∧ t.hre = s.hre)
  -- modeReqRestart
  ∧ (∀ (s : State), s.Up → s.hre.claimed = true → s.modeBusy = false → (s.mode = .hostedIdle ∨ s.mode = .faultSafe ∨ s.mode = .rejoin) → Gives
    .modeReqRestart s fun t => t.rd Reg.CLK_MODE_RESULT_STATUS = St.done ∧ t.mode = .boot ∧ t.prev = s.mode ∧ t.pwr.mainPowered = false ∧
    t.pwr.porDone = true ∧ t.pwr.nextCause = s.pwr.nextCause ||| 16)
  -- modeReqSurvey
  ∧ (∀ (s : State), s.Up → s.hre.claimed = true → s.modeBusy = false → s.mode = .hostedIdle → Gives .modeReqSurvey s fun t => t.rd
    Reg.CLK_MODE_RESULT_STATUS = St.done ∧ t.mode = .survey ∧ t.rd Reg.COR_SURVEY_STATUS_STATE = 1 ∧ t.rd Reg.COR_SURVEY_STATUS_ELAPSED = 0
    ∧ t.cor.survey = Survey.zero)
  -- modeReqFleetStop
  ∧ (∀ (s : State), s.Up → s.hre.claimed = true → s.modeBusy = false → s.mode = .fleetHold → s.standstill = true → Gives .modeReqFleetStop s
    fun t => t.rd Reg.CLK_MODE_RESULT_STATUS = St.done ∧ t.mode = .hostedIdle ∧ t.rd Reg.TRP_HOLD_CAUSE_IDLE = 1 ∧ t.ldr.runs = [])
  -- modeReqFleetStart, a lone unit
  ∧ (∀ (s : State), s.Up → s.hre.claimed = true → s.modeBusy = false → s.mode = .hostedIdle → s.life = 2 → s.isPending
    Reg.LDR_MAP_COMMIT_RESULT = false → s.on Reg.CLK_ADMIT_STATUS_TABLES_COMMITTED = true → s.refValid = true → s.trp.fleet ≠ .stop → s.on
    Reg.FJR_CFG_TWIN_EN = false → Gives .modeReqFleetStart s fun t => t.rd Reg.CLK_MODE_RESULT_STATUS = St.done ∧ t.rd
    Reg.TRP_HOLD_CAUSE_IDLE = 0 ∧ ((∀ f ∈ holdCauses, f ≠ Reg.TRP_HOLD_CAUSE_IDLE → s.on f = false) → t.mode = .fleetRun ∧ t.trp.fleet =
    .go) ∧ ((∃ f ∈ holdCauses, f ≠ Reg.TRP_HOLD_CAUSE_IDLE ∧ s.on f = true) → t.mode = .fleetHold))
  -- modeReqFleetStart, a twin
  ∧ (∀ (s : State), s.Up → s.hre.claimed = true → s.modeBusy = false → s.mode = .hostedIdle → s.life = 2 → s.isPending
    Reg.LDR_MAP_COMMIT_RESULT = false → s.on Reg.CLK_ADMIT_STATUS_TABLES_COMMITTED = true → s.refValid = true → s.trp.fleet ≠ .stop → s.on
    Reg.FJR_CFG_TWIN_EN = true → s.on Reg.FJR_STATUS_CLAIM_IN = false → Gives .modeReqFleetStart s fun t => t.rd Reg.CLK_MODE_RESULT_STATUS
    = St.pending ∧ t.rd Reg.CLK_MODE_STATUS_IN_TRANSIT = 1 ∧ t.twn.arb = true ∧ t.mode = .hostedIdle)
  -- modeReqFleetStart, before the claim
  ∧ (∀ (s : State), s.Up → s.hre.claimed = false → Gives .modeReqFleetStart s fun t => t.rd Reg.CLK_MODE_RESULT_STATUS = St.refusedMode ∧
    t.mode = s.mode ∧ t.trp = s.trp)
  -- modeReqFleetStart, in a transition
  ∧ (∀ (s : State), s.Up → s.hre.claimed = true → s.on Reg.CLK_MODE_STATUS_IN_TRANSIT = true → Gives .modeReqFleetStart s fun t => t.rd
    Reg.CLK_MODE_RESULT_STATUS = St.busy ∧ t.mode = s.mode ∧ t.trp = s.trp)
  -- claimArbitrationEnd, the claim is won
  ∧ (∀ (s : State), s.Up → s.twn.arb = true → s.twn.stopped = false → (s.seat == 0 && s.on Reg.FJR_STATUS_CLAIM_IN) = false →
    s.pwr.pfailLatched = false → Gives .claimArbitrationEnd s fun t => t.rd Reg.CLK_MODE_RESULT_STATUS = St.done ∧ t.rd
    Reg.TRP_HOLD_CAUSE_IDLE = 0 ∧ t.twn.arb = false ∧ ((∀ f ∈ holdCauses, f ≠ Reg.TRP_HOLD_CAUSE_IDLE → s.on f = false) → t.mode = .fleetRun
    ∧ t.trp.fleet = .go) ∧ ((∃ f ∈ holdCauses, f ≠ Reg.TRP_HOLD_CAUSE_IDLE ∧ s.on f = true) → t.mode = .fleetHold))
  -- claimArbitrationEnd, the claim is lost
  ∧ (∀ (s : State), s.Up → s.twn.arb = true → ((s.seat == 0 && s.on Reg.FJR_STATUS_CLAIM_IN) || s.twn.stopped) = true → Gives
    .claimArbitrationEnd s fun t => t.rd Reg.CLK_MODE_RESULT_STATUS = St.conflict ∧ t.rd Reg.CLK_MODE_STATUS_IN_TRANSIT = 0 ∧ t.mode =
    s.mode ∧ t.trp = s.trp ∧ t.twn.arb = false)

/-- A commanded power-down: its steps. Each command completes (exec answers a next state) in every state that meets its hypotheses. With a
  commanded power-down in progress and PFAIL not latched, in a powered main mode: PDOWN_DESCRIPTOR_ABORT leaves on each enabled submission
  ring only descriptors that had ended before or now end with ABORT_POWER, no chute with an open packet, and the step noted;
  PDOWN_DRAIN_TIMEOUT leaves no channel in a MOVE or running, waiting or stopping, a channel that was in a MOVE HALTED with ABORT_POWER, and
  the step noted; PDOWN_OUTPUTS_STOP stops the outputs and the measurements and, unless the Tally is DEGRADED, asks for a flush;
  PDOWN_RAIL_CUT, once, ends in DORMER_WATCH with the main rails off and MODE_RESULT DONE, and towards CELLAR keeps the power-down for the
  AON rails. PDOWN_CELLAR_ENTRY in DORMER_WATCH after the cut: CELLAR, the AON rails off, the power-down over; with a latched system reset
  the power-down ends in DORMER_WATCH with the rails as they are. -/
def Obligations.PowerDown : Prop :=
  -- pdownDescriptorAbort
  (∀ (s : State) (d : Pdown), s.Up → s.pwr.pdown = some d → s.pwr.pfailLatched = false → Gives .pdownDescriptorAbort s fun t => (∀ n < 128,
    s.isSub n = true → ∀ x ∈ (t.ring n).sub, ∃ y ∈ (s.ring n).sub, y.index = x.index ∧ (y.done = none → ∃ k, x.done = some
    ⟨St.abortPower, k, 0⟩) ∧ (y.done ≠ none → x.done = y.done)) ∧ (∀ n < 96, (t.chute n).opened = none) ∧ t.pwr.pdown = some
    { d with descAborted := true } ∧ t.mode = s.mode)
  -- pdownDrainTimeout
  ∧ (∀ (s : State) (d : Pdown), s.Up → s.pwr.pdown = some d → s.pwr.pfailLatched = false → Gives .pdownDrainTimeout s fun t => (∀ n < 32,
    (t.chan n).move = none ∧ ((t.chan n).st = .idle ∨ (t.chan n).st = .done ∨ (t.chan n).st = .halted)) ∧ (∀ n < 32, (s.chan n).move ≠ none
    → (t.chan n).st = .halted ∧ (t.chan n).status = St.abortPower) ∧ t.pwr.pdown = some { d with drained := true } ∧ t.mode = s.mode)
  -- pdownOutputsStop
  ∧ (∀ (s : State) (d : Pdown), s.Up → s.pwr.pdown = some d → s.pwr.pfailLatched = false → Gives .pdownOutputsStop s fun t => t.pwr.pdown =
    some { d with outputsOff := true } ∧ t.outputsStopped = true ∧ t.rd Reg.RNG_STATUS_MEAS_RUNNING = 0 ∧ t.mode = s.mode ∧ (s.on
    Reg.TLY_STATUS_DEGRADED = false → t.tly.want.isSome = true ∨ ∃ f, t.tly.flush = some f))
  -- pdownRailCut, to DORMER_WATCH
  ∧ (∀ (s : State) (d : Pdown), s.Up → s.pwr.pdown = some d → s.pwr.pfailLatched = false → d.railCut = false → d.target = .dormerWatch → Gives
    .pdownRailCut s fun t => t.mode = .dormerWatch ∧ t.pwr.railEnMain = false ∧ t.pwr.mainPowered = false ∧ t.pwr.entry = .commanded ∧
    t.pwr.pdown = none ∧ t.rd Reg.CLK_MODE_RESULT_STATUS = St.done)
  -- pdownRailCut, to CELLAR
  ∧ (∀ (s : State) (d : Pdown), s.Up → s.pwr.pdown = some d → s.pwr.pfailLatched = false → d.railCut = false → d.target = .cellar → Gives
    .pdownRailCut s fun t => t.mode = .dormerWatch ∧ t.pwr.railEnMain = false ∧ t.pwr.mainPowered = false ∧ t.pwr.pdown = some
    { d with railCut := true } ∧ t.rd Reg.CLK_MODE_RESULT_STATUS = St.done)
  -- pdownCellarEntry
  ∧ (∀ (s : State) (d : Pdown), s.mode = .dormerWatch → s.pwr.pdown = some d → d.railCut = true → s.pwr.sysResetHeld = false → Gives
    .pdownCellarEntry s fun t => t.mode = .cellar ∧ t.prev = .dormerWatch ∧ t.pwr.railEnAon = false ∧ t.pwr.pdown = none ∧ t.rd
    Reg.CLK_RAIL_STATUS_RAIL_OK = 0)
  -- pdownCellarEntry, under a latched system reset
  ∧ (∀ (s : State) (d : Pdown), s.pwr.pdown = some d → s.pwr.sysResetHeld = true → Gives .pdownCellarEntry s fun t => t =
    { s with pwr := { s.pwr with pdown := none } })

/-- The admission ladder after reset release. Each command completes (exec answers a next state) in every state that meets its hypotheses. In a
  powered main mode: PLL_LOCK_BOOT in BOOT with REFCLK present and accepted locks the three PLLs, takes the core off RC4M, shows
  MEAS_RUNNING while an image runs and nothing has stopped the outputs, and stays in BOOT; MEMORY_TEST_COMPLETE in BOOT with a running image
  sets MAP_READY, notes the failed grant slots, and blocks the failed map words that are cells, and only cells; with the ladder going on (an
  image runs, REFCLK accepted) LAN_ADMIT sets LAN_ADMITTED, opens LAN admission unless PFAIL or a power-down has closed it, and notes the
  links that are up while PLL_SERDES is locked, BEACON_START sets BEACON_ON, and PTP_ACCEPT_START sets PTP_ACCEPT and takes each enabled
  port from INITIALIZING to MASTER or LISTENING by its role; LAN_LINK_UP after admission with PLL_SERDES locked notes the link;
  BOOT_COMPLETE in BOOT with the ladder going on and PFAIL not latched sets BOOT_DONE, lifts the boot cap and enters REJOIN where the peer
  is live in a fleet mode, else SURVEY without a valid reference, else HOSTED_IDLE where the host has claimed, else PANTRY. -/
def Obligations.AdmissionLadder : Prop :=
  -- pllLockBoot
  (∀ (s : State), s.Up → s.mode = .boot → s.rd Reg.CLK_SRC_STATUS_REFCLK_FREQ ≠ 3 → s.on Reg.CLK_SRC_STATUS_REFCLK_PRESENT = true → Gives
    .pllLockBoot s fun t => t.rd Reg.CLK_SRC_STATUS_PLL_CORE_LOCK = 1 ∧ t.rd Reg.CLK_SRC_STATUS_PLL_ADC_LOCK = 1 ∧ t.rd
    Reg.CLK_SRC_STATUS_PLL_SERDES_LOCK = 1 ∧ t.rd Reg.CLK_SRC_STATUS_CORE_ON_RC4M = 0 ∧ t.rd Reg.RNG_STATUS_MEAS_RUNNING = bit (s.upd.image
    && !s.outputsStopped) ∧ t.mode = .boot)
  -- memoryTestComplete
  ∧ (∀ (s : State) (words buckets : List (BitVec 23)) (grants : List (BitVec 11)), s.Up → s.mode = .boot → s.upd.image = true → Gives
    (.memoryTestComplete words buckets grants) s fun t => t.rd Reg.LDR_STATUS_MAP_READY = 1 ∧ t.ldr.badGrant = grants.map BitVec.toNat ∧
    t.mode = .boot ∧ (∀ c ∈ t.ldr.blocked, c < s.cellCount) ∧ (∀ w ∈ words, w.toNat < s.cellCount → w.toNat ∈ t.ldr.blocked))
  -- lanAdmit
  ∧ (∀ (s : State) (a b : Bool), s.Up → s.ladder = true → Gives (.lanAdmit a b) s fun t => t.rd Reg.CLK_ADMIT_STATUS_LAN_ADMITTED = 1 ∧
    t.pwr.lanOpen = (!s.pwr.pfailLatched && s.pwr.pdown.isNone) ∧ t.mode = s.mode ∧ t.zyp.lanUp = (if s.on
    Reg.CLK_SRC_STATUS_PLL_SERDES_LOCK then (if a then [0] else []) ++ (if b then [1] else []) else []))
  -- lanLinkUp
  ∧ (∀ (s : State) (lanB : Bool), s.Up → s.on Reg.CLK_ADMIT_STATUS_LAN_ADMITTED = true → s.on Reg.CLK_SRC_STATUS_PLL_SERDES_LOCK = true →
    Gives (.lanLinkUp lanB) s fun t => t.zyp.lanUp = insertNat (bit lanB) s.zyp.lanUp ∧ t.mode = s.mode)
  -- beaconStart
  ∧ (∀ (s : State), s.Up → s.ladder = true → Gives .beaconStart s fun t => t.rd Reg.CLK_ADMIT_STATUS_BEACON_ON = 1 ∧ t.mode = s.mode)
  -- bootComplete
  ∧ (∀ (s : State), s.Up → s.mode = .boot → s.ladder = true → s.pwr.pfailLatched = false → Gives .bootComplete s fun t => t.mode = (if
    s.headsRejoin then .rejoin else if !s.refValid then .survey else if s.hre.claimed then .hostedIdle else .pantry) ∧ t.prev = .boot ∧ t.rd
    Reg.CLK_ADMIT_STATUS_BOOT_DONE = 1 ∧ t.rd Reg.HRE_STATUS_BOOT_CAP = 0)
  -- ptpAcceptStart
  ∧ (∀ (s : State), s.Up → s.ladder = true → Gives .ptpAcceptStart s fun t => t.tim.ptpOn = true ∧ t.rd Reg.CLK_ADMIT_STATUS_PTP_ACCEPT = 1 ∧
    t.mode = s.mode ∧ (∀ b, s.ptpPort b = true → s.rd (portState b) = 1 → t.rd (portState b) = (if s.rd Reg.TIM_PTP_CFG_ROLE = 0 then 6 else
    4)))

/-- The host endpoint: link, claim, release and host loss. Each command completes (exec answers a next state) in every state that meets its
  hypotheses. PERST_ASSERT resets the endpoint: the device is unclaimed with session 0, no ring is left, the HRE and ATTN registers named
  read 0, the mode stands. PCIE_LINK_UP with a speed of 1 to 3 and a width of 1, 2 or 4 shows LINK_UP, LINK_SPEED and LINK_WIDTH, ends PERST
  and releases PCIE_WAKE_N, as PCIE_WAKE_RELEASE does. HOST_ADMISSION_OPEN serves the host and drives PCIE_WAKE_N low exactly where the
  release was caused by WAKE, PFAIL_RESTART or THERM_CUT and the link is down. HOST_COMMIT with an admissible group (bases and session
  unchanged under a claim) answers DONE and makes all six fields live. A claim with Bus Master Enable set and the committed session, no
  power-down or PFAIL handling running, is DONE with the session in ATTN_CLAIM_STATUS and takes PANTRY to HOSTED_IDLE. A release ends the
  session: unclaimed, HOST_PRESENT 0, every ring OFF, the mode stands. The loss of HOST_ALIVE, of the link for longer than 10 ms, of Bus
  Master Enable or of D0 under a claim sets HOST_LOST and clears HOST_PRESENT, holds the fleet where HOST_LOSS_HOLD is set in FLEET_RUN, and
  (but for HOST_ALIVE) closes device writes; a shorter link loss sets LINK_DOWN and closes device writes with the claim kept.
  HOST_WRITE_RESUME opens the bus again and writes what waits: no completion is left due and no record waits on an EVENT ring. ATTN_KICK
  sets the kick. -/
def Obligations.HostEndpoint : Prop :=
  -- perstAssert
  (∀ (s : State), s.Up → Gives .perstAssert s fun t => t.hre.perst = true ∧ t.hre.claimed = false ∧ t.hre.session = 0 ∧ t.hre.rings = [] ∧
    t.hre.served = s.hre.served ∧ t.mode = s.mode ∧ t.rd Reg.HRE_STATUS_LINK_UP = 0 ∧ t.rd Reg.HRE_STATUS_CLAIMED = 0 ∧ t.rd
    Reg.HRE_HOST_CFG_SESSION = 0 ∧ t.rd Reg.ATTN_CLAIM_STATUS_CLAIMED = 0)
  -- pcieLinkUp
  ∧ (∀ (s : State) (speed width : Fin 5), s.Up → (speed = 1 ∨ speed = 2 ∨ speed = 3) → (width = 1 ∨ width = 2 ∨ width = 4) → Gives
    (.pcieLinkUp speed width) s fun t => t.rd Reg.HRE_STATUS_LINK_UP = 1 ∧ t.rd Reg.HRE_STATUS_LINK_SPEED = speed.val ∧ t.rd
    Reg.HRE_STATUS_LINK_WIDTH = width.val ∧ t.hre.perst = false ∧ t.hre.wakeLow = false ∧ t.mode = s.mode)
  -- pcieWakeRelease
  ∧ (∀ (s : State), s.Up → Gives .pcieWakeRelease s fun t => t.hre.wakeLow = false ∧ t.mode = s.mode ∧ t.fld = s.fld)
  -- hostAdmissionOpen
  ∧ (∀ (s : State), s.Up → Gives .hostAdmissionOpen s fun t => t.hre.served = true ∧ t.mode = s.mode ∧ t.fld = s.fld ∧ (s.on
    Reg.HRE_STATUS_LINK_UP = false → bits s.pwr.relCause Reg.CLK_RESET_CAUSE_WAKE.lo 1 = 1 → t.hre.wakeLow = true) ∧ (s.on
    Reg.HRE_STATUS_LINK_UP = false → bits s.pwr.relCause Reg.CLK_RESET_CAUSE_PFAIL_RESTART.lo 1 = 1 → t.hre.wakeLow = true) ∧ (s.on
    Reg.HRE_STATUS_LINK_UP = false → bits s.pwr.relCause Reg.CLK_RESET_CAUSE_THERM_CUT.lo 1 = 1 → t.hre.wakeLow = true) ∧ (bits
    s.pwr.relCause Reg.CLK_RESET_CAUSE_WAKE.lo 1 = 0 → bits s.pwr.relCause Reg.CLK_RESET_CAUSE_PFAIL_RESTART.lo 1 = 0 → bits s.pwr.relCause
    Reg.CLK_RESET_CAUSE_THERM_CUT.lo 1 = 0 → t.hre.wakeLow = false))
  -- hostCommit
  ∧ (∀ (s : State), s.Up → s.hre.served = true → ((s.hre.claimed = true → ∀ f ∈ [Reg.HRE_DB_BASE_ADDR, Reg.HRE_SH_BASE_ADDR,
    Reg.HRE_HOST_CFG_SESSION], s.sh f = s.rd f)) → s.sh Reg.HRE_DB_BASE_ADDR ≠ 0 → s.sh Reg.HRE_SH_BASE_ADDR ≠ 0 → s.sh Reg.HRE_DB_BASE_ADDR
    ≠ s.sh Reg.HRE_SH_BASE_ADDR → s.sh Reg.HRE_HOST_CFG_SESSION ≠ 0 → s.sh Reg.HRE_POLL_CFG_POLL_PERIOD ≤ 1000 → Gives .hostCommit s fun t
    => t.rd Reg.HRE_HOST_COMMIT_RESULT = St.done ∧ t.hre.committed = true ∧ (∀ f ∈ [Reg.HRE_DB_BASE_ADDR, Reg.HRE_SH_BASE_ADDR,
    Reg.HRE_HOST_CFG_SESSION, Reg.HRE_HOST_CFG_HOST_LOSS_HOLD, Reg.HRE_POLL_CFG_POLL_PERIOD, Reg.HRE_POLL_CFG_HOST_TIMEOUT], t.rd f = s.sh f
    % 2 ^ f.w))
  -- hostClaim
  ∧ (∀ (s : State) (v : Word), s.Up → s.hre.served = true → s.hre.committed = true → s.hre.claimed = false → s.pwr.pfailLatched = false →
    s.pwr.pdown = none → bits v.toNat 31 1 = 1 → bits v.toNat 30 1 = 0 → bits v.toNat 0 16 ≠ 0 → bits v.toNat 0 16 = s.rd
    Reg.HRE_HOST_CFG_SESSION → Gives (.hostClaim v true) s fun t => t.hre.claimed = true ∧ t.hre.session = bits v.toNat 0 16 ∧ t.rd
    Reg.ATTN_CLAIM_STATUS_STATUS = St.done ∧ t.rd Reg.ATTN_CLAIM_STATUS_CLAIMED = 1 ∧ t.rd Reg.HRE_STATUS_CLAIMED = 1 ∧ t.mode = (if s.mode
    = .pantry then .hostedIdle else s.mode))
  -- hostRelease
  ∧ (∀ (s : State) (v : Word) (bme : Bool), s.Up → s.hre.served = true → s.hre.claimed = true → bits v.toNat 31 1 = 0 → bits v.toNat 30 1 = 1
    → Gives (.hostRelease v bme) s fun t => t.hre.claimed = false ∧ t.hre.session = 0 ∧ t.rd Reg.ATTN_CLAIM_STATUS_STATUS = St.done ∧ t.rd
    Reg.ATTN_CLAIM_STATUS_CLAIMED = 0 ∧ t.rd Reg.HRE_STATUS_CLAIMED = 0 ∧ t.rd Reg.HRE_STATUS_HOST_PRESENT = 0 ∧ t.mode = s.mode ∧ (∀ n <
    128, (t.ring n).st = .off))
  -- hostAliveTimeout
  ∧ (∀ (s : State), s.Up → s.hre.claimed = true → s.rd Reg.HRE_POLL_CFG_HOST_TIMEOUT ≠ 0 → Gives .hostAliveTimeout s fun t => t.rd
    Reg.HRE_STATUS_HOST_PRESENT = 0 ∧ t.rd Reg.HRE_FAULT_HOST_LOST = 1 ∧ t.mode = s.mode ∧ t.trp = s.trp ∧ t.hre.lossHold = (s.hre.lossHold
    || (s.on Reg.HRE_HOST_CFG_HOST_LOSS_HOLD && s.mode == .fleetRun)))
  -- linkL0Loss, longer than 10 ms
  ∧ (∀ (s : State), s.Up → s.hre.claimed = true → Gives (.linkL0Loss true) s fun t => t.rd Reg.HRE_STATUS_LINK_UP = 0 ∧ t.rd
    Reg.HRE_FAULT_LINK_DOWN = 1 ∧ t.rd Reg.HRE_STATUS_HOST_PRESENT = 0 ∧ t.rd Reg.HRE_FAULT_HOST_LOST = 1 ∧ t.canWrite = false ∧ t.mode =
    s.mode ∧ t.hre.lossHold = (s.hre.lossHold || (s.on Reg.HRE_HOST_CFG_HOST_LOSS_HOLD && s.mode == .fleetRun)))
  -- linkL0Loss, a short loss
  ∧ (∀ (s : State), s.Up → s.hre.claimed = true → Gives (.linkL0Loss false) s fun t => t.rd Reg.HRE_STATUS_LINK_UP = 0 ∧ t.rd
    Reg.HRE_FAULT_LINK_DOWN = 1 ∧ t.rd Reg.HRE_STATUS_HOST_PRESENT = s.rd Reg.HRE_STATUS_HOST_PRESENT ∧ t.canWrite = false ∧ t.mode = s.mode
    ∧ t.hre.claimed = true)
  -- busMasterClear
  ∧ (∀ (s : State), s.Up → s.hre.claimed = true → Gives .busMasterClear s fun t => t.hre.bme = false ∧ t.rd Reg.HRE_STATUS_HOST_PRESENT = 0 ∧
    t.rd Reg.HRE_FAULT_HOST_LOST = 1 ∧ t.canWrite = false ∧ t.mode = s.mode)
  -- busMasterClear, unclaimed
  ∧ (∀ (s : State), s.Up → s.hre.claimed = false → Gives .busMasterClear s fun t => t.hre = { s.hre with bme := false } ∧ t.fld = s.fld ∧
    t.canWrite = false)
  -- d3hotEntry
  ∧ (∀ (s : State), s.Up → s.hre.claimed = true → Gives .d3hotEntry s fun t => t.hre.d3hot = true ∧ t.rd Reg.HRE_STATUS_HOST_PRESENT = 0 ∧
    t.rd Reg.HRE_FAULT_HOST_LOST = 1 ∧ t.canWrite = false ∧ t.mode = s.mode)
  -- d3hotEntry, unclaimed
  ∧ (∀ (s : State), s.Up → s.hre.claimed = false → Gives .d3hotEntry s fun t => t.hre = { s.hre with d3hot := true } ∧ t.fld = s.fld ∧
    t.canWrite = false)
  -- hostWriteResume
  ∧ (∀ (s : State), s.Up → Gives .hostWriteResume s fun t => t.hre.bme = true ∧ t.hre.d3hot = false ∧ t.rd Reg.HRE_STATUS_LINK_UP = 1 ∧ t.mode
    = s.mode ∧ (s.hre.claimed = true → t.hre.due = [] ∧ ∀ n < 128, s.ringType n = 4 → (t.ring n).waiting = []))
  -- attnKick
  ∧ (∀ (s : State), s.Up → s.hre.served = true → Gives .attnKick s fun t => t.hre = { s.hre with kick := true } ∧ t.fld = s.fld ∧ t.mode =
    s.mode)

/-- The host rings: doorbells, fetch, completions, events and vectors. Each command completes (exec answers a next state) in every state that
  meets its hypotheses. DOORBELL_SCAN under a claim (kicked, or POLL_PERIOD not 0) ends the kick, moves DEVICE_ALIVE, notes HOST_ALIVE,
  takes the index of every submission ring that is not OFF and whose word carries the session, and the head of every COMPLETION or EVENT
  ring within its producer index, freeing the entries before it; the shadow header follows where the device may write. A failed read sets
  DB_READ_ERR and is counted. DESCRIPTOR_FETCH within the credits takes the descriptors one by one; a failed read halts the ring with
  BUS_ERROR. NOP and ECHO complete DONE, ECHO with P0. COMPLETION_WRITE of a finished descriptor with nothing before it appends its entry to
  the completion ring it is bound to and marks it written; with the bus closed it waits. EVENT_WRITE gives the oldest event the ring's next
  SEQ: it is written, waits with the bus closed, is counted in HRE_RING_LOST on a full ring, and in GLB_EVENT_LOST with no EVENT ring
  enabled. COALESCE_TIMER, MSIX_GAP_END with a merged signal and MSIX_UNMASK of a pending vector send the message (masked: PENDING; bus
  closed: merged). RING_COMMIT of an admissible group makes it live with DONE and a newly enabled ring RUNNING; one that disables a ring
  leaves it DRAINING with PENDING, its unstarted descriptors ended RING_DRAINED and UNFETCHED counted. RING_DRAIN_DONE makes the drained
  ring OFF and empty with DONE. -/
def Obligations.HostRings : Prop :=
  -- doorbellScan
  (∀ (s : State) (words : Vector Word 128) (alive : Word), s.Up → s.hre.claimed = true → (s.hre.kick = true ∨ s.rd
    Reg.HRE_POLL_CFG_POLL_PERIOD ≠ 0) → Gives (.doorbellScan words alive false) s fun t => t.hre.kick = false ∧ t.hre.devAlive =
    (s.hre.devAlive + 1) % 4294967296 ∧ t.hre.alive = alive.toNat ∧ (alive.toNat ≠ s.hre.alive → t.rd Reg.HRE_STATUS_HOST_PRESENT = 1) ∧ (∀
    n : Fin 128, s.ringType n.val ≤ 2 → (s.ring n.val).st ≠ .off → bits words[n].toNat 16 16 = s.hre.session → (t.ring n.val).db = bits
    words[n].toNat 0 16) ∧ (∀ n : Fin 128, 2 < s.ringType n.val → (s.ring n.val).st ≠ .off → bits words[n].toNat 16 16 = s.hre.session →
    idxDiff (bits words[n].toNat 0 16) (s.ring n.val).head ≤ idxDiff (s.ring n.val).index (s.ring n.val).head → (t.ring n.val).head = bits
    words[n].toNat 0 16 ∧ (t.ring n.val).entries = (s.ring n.val).entries.drop (idxDiff (bits words[n].toNat 0 16) (s.ring n.val).head)) ∧
    (s.canWrite = true → t.hre.shadow.devAlive = t.hre.devAlive))
  -- doorbellScan, the read failed
  ∧ (∀ (s : State) (words : Vector Word 128) (alive : Word), s.Up → s.hre.claimed = true → (s.hre.kick = true ∨ s.rd
    Reg.HRE_POLL_CFG_POLL_PERIOD ≠ 0) → Gives (.doorbellScan words alive true) s fun t => t.rd Reg.HRE_FAULT_DB_READ_ERR = 1 ∧ t.rd
    Reg.HRE_DB_READ_ERR_COUNT = (s.rd Reg.HRE_DB_READ_ERR_COUNT + 1) % 2 ^ Reg.HRE_DB_READ_ERR_COUNT.w ∧ t.hre.kick = false ∧ t.mode =
    s.mode)
  -- descriptorFetch
  ∧ (∀ (s : State) (n : Fin 128) (l : List Desc), s.Up → s.hre.claimed = true → s.hre.fetchOpen = true → s.isSub n.val = true → (s.ring
    n.val).st = .running → idxDiff (s.ring n.val).db (s.ring n.val).index < 32768 → idxDiff (s.ring n.val).db (s.ring n.val).index ≤ idxDiff
    (s.ring n.val).limit (s.ring n.val).index → Gives (.descriptorFetch n l false) s fun t => t.ring n.val = fetchList (s.ringType n.val)
    s.nextEpoch (idxDiff (s.ring n.val).db (s.ring n.val).index) l (s.ring n.val) ∧ t.fld = s.fld ∧ t.mode = s.mode)
  -- descriptorFetch, the read failed
  ∧ (∀ (s : State) (n : Fin 128) (l : List Desc), s.Up → s.hre.claimed = true → s.hre.fetchOpen = true → s.isSub n.val = true → (s.ring
    n.val).st = .running → idxDiff (s.ring n.val).db (s.ring n.val).index < 32768 → Gives (.descriptorFetch n l true) s fun t => (t.ring
    n.val).st = .halted ∧ (t.ring n.val).lastErr = St.busError ∧ t.rd Reg.HRE_FAULT_RING_HALTED = 1)
  -- hreNop
  ∧ (∀ (s : State) (c : Cmd), s.Up → s.Accepts c .command → Gives (.hreNop c) s fun t => t.Completed c St.done 0 0 ∧ t.fld = s.fld ∧ t.mode =
    s.mode)
  -- hreEcho
  ∧ (∀ (s : State) (c : Cmd), s.Up → s.Accepts c .command → Gives (.hreEcho c) s fun t => t.Completed c St.done 0 c.desc.p0.toNat ∧ t.fld =
    s.fld ∧ t.mode = s.mode)
  -- completionWrite
  ∧ (∀ (s : State) (n : Fin 128) (i : BitVec 16) (x : SubDesc) (r : HostResult), s.Up → s.canWrite = true → (s.ring n.val).sub.find? (fun y =>
    y.index == i.toNat && y.written == .no) = some x → x.done = some r → s.hre.due = [] → earlierUnwritten i.toNat (x.desc.target.toNat %
    32) (s.ring n.val).sub = false → ¬ (r.status = St.done ∧ bits x.desc.flags.toNat 1 1 = 1) → s.rd (Reg.HRE_RING_CFG_BIND n.val) ≠ n.val →
    Gives (.completionWrite n i) s fun t => (t.ring (s.rd (Reg.HRE_RING_CFG_BIND n.val))).entries = (s.ring (s.rd (Reg.HRE_RING_CFG_BIND
    n.val))).entries ++ [.cpl ⟨x.desc.tag.toNat, r.status, n.val, i.toNat, r.doneLen, r.result⟩] ∧ (t.ring n.val).sub = markWritten i.toNat
    (.at (s.ring (s.rd (Reg.HRE_RING_CFG_BIND n.val))).index) (s.ring n.val).sub)
  -- completionWrite, the bus closed
  ∧ (∀ (s : State) (n : Fin 128) (i : BitVec 16) (x : SubDesc) (r : HostResult), s.Up → s.canWrite = false → (s.ring n.val).sub.find? (fun y
    => y.index == i.toNat && y.written == .no) = some x → x.done = some r → s.hre.due = [] → earlierUnwritten i.toNat (x.desc.target.toNat %
    32) (s.ring n.val).sub = false → ¬ (r.status = St.done ∧ bits x.desc.flags.toNat 1 1 = 1) → Gives (.completionWrite n i) s fun t =>
    t.hre.due = [(n.val, i.toNat)] ∧ t.hre.rings = s.hre.rings ∧ t.fld = s.fld)
  -- eventWrite
  ∧ (∀ (s : State) (e : BlockEvent) (rest : List BlockEvent) (n : Nat), s.Up → s.evq = e :: rest → s.rd Reg.GLB_EVENT_RING_RING = n → s.on
    Reg.GLB_EVENT_RING_EN = true → s.on (Reg.HRE_RING_CFG_ENABLE n) = true → s.ringType n = 4 → (s.ring n).st = .running → (s.ring
    n).entries.length + (s.ring n).waiting.length < s.ringSize n → Gives .eventWrite s fun t => t.evq = rest ∧ (t.ring n).seq = ((s.ring
    n).seq + 1) % 4294967296 ∧ (s.canWrite = true → (s.ring n).waiting = [] → (t.ring n).entries = (s.ring n).entries ++ [.evt
    ⟨e.code, e.source, Config.freeValue 3 s.ctr % 3, (s.ring n).seq, e.data, e.time⟩]) ∧ (s.canWrite = false ∨ (s.ring n).waiting ≠ [] →
    (t.ring n).entries = (s.ring n).entries ∧ (t.ring n).waiting = (s.ring n).waiting ++
    [⟨e.code, e.source, Config.freeValue 3 s.ctr % 3, (s.ring n).seq, e.data, e.time⟩]))
  -- eventWrite, the ring is full
  ∧ (∀ (s : State) (e : BlockEvent) (rest : List BlockEvent) (n : Nat), s.Up → s.evq = e :: rest → s.rd Reg.GLB_EVENT_RING_RING = n → s.on
    Reg.GLB_EVENT_RING_EN = true → s.on (Reg.HRE_RING_CFG_ENABLE n) = true → s.ringType n = 4 → (s.ring n).st = .running → s.ringSize n ≤
    (s.ring n).entries.length + (s.ring n).waiting.length → Gives .eventWrite s fun t => (t.ring n).seq = ((s.ring n).seq + 1) % 4294967296
    ∧ (t.ring n).entries = (s.ring n).entries ∧ t.rd (Reg.HRE_RING_LOST n) = min (s.rd (Reg.HRE_RING_LOST n) + 1) (2 ^ (Reg.HRE_RING_LOST
    n).w - 1) % 2 ^ (Reg.HRE_RING_LOST n).w)
  -- eventWrite, no EVENT ring enabled
  ∧ (∀ (s : State) (e : BlockEvent) (rest : List BlockEvent), s.Up → s.evq = e :: rest → (s.on Reg.GLB_EVENT_RING_EN = false ∨ s.on
    (Reg.HRE_RING_CFG_ENABLE (s.rd Reg.GLB_EVENT_RING_RING)) = false) → s.rd Reg.GLB_EVENT_LOST + 1 < 2 ^ Reg.GLB_EVENT_LOST.w - 1 → Gives
    .eventWrite s fun t => t.evq = rest ∧ t.rd Reg.GLB_EVENT_LOST = s.rd Reg.GLB_EVENT_LOST + 1 ∧ t.hre = s.hre)
  -- coalesceTimer
  ∧ (∀ (s : State) (n : Fin 128) (k : Nat), s.Up → (s.ring n.val).timerOn = true → (s.ring n.val).unsig ≠ 0 → s.rd (Reg.HRE_RING_CFG_VECTOR
    n.val) = k → Gives (.coalesceTimer n) s fun t => (t.ring n.val).unsig = 0 ∧ (t.ring n.val).timerOn = false ∧ t.mode = s.mode ∧ (s.on
    (Reg.MSIX_MASK k) = true → t.rd (Reg.MSIX_PENDING k) = 1) ∧ (s.on (Reg.MSIX_MASK k) = false → s.busOpen = true → ((s.vec k).inGap =
    false ∨ k = 1) → (t.vec k).sent = (s.vec k).sent + 1) ∧ (s.on (Reg.MSIX_MASK k) = false → s.busOpen = false → (t.vec k).merged = true))
  -- msixGapEnd, nothing merged
  ∧ (∀ (s : State) (v : Fin 16), s.Up → (s.vec v.val).merged = false → Gives (.msixGapEnd v) s fun t => t.vec v.val =
    { s.vec v.val with inGap := false } ∧ t.fld = s.fld ∧ t.mode = s.mode)
  -- msixGapEnd, a signal merged
  ∧ (∀ (s : State) (v : Fin 16), s.Up → (s.vec v.val).merged = true → Gives (.msixGapEnd v) s fun t => t.mode = s.mode ∧ (s.on (Reg.MSIX_MASK
    v.val) = true → t.rd (Reg.MSIX_PENDING v.val) = 1) ∧ (s.on (Reg.MSIX_MASK v.val) = false → s.busOpen = true → (t.vec v.val).sent =
    (s.vec v.val).sent + 1 ∧ (t.vec v.val).merged = false) ∧ (s.on (Reg.MSIX_MASK v.val) = false → s.busOpen = false → (t.vec v.val).merged
    = true))
  -- msixUnmask
  ∧ (∀ (s : State) (v : Fin 16), s.Up → Gives (.msixUnmask v) s fun t => t.rd (Reg.MSIX_MASK v.val) = 0 ∧ t.rd (Reg.MSIX_PENDING v.val) = 0 ∧
    t.mode = s.mode ∧ (s.rd (Reg.MSIX_PENDING v.val) = 0 → t.hre = s.hre) ∧ (s.rd (Reg.MSIX_PENDING v.val) ≠ 0 → s.busOpen = true → (s.vec
    v.val).inGap = false ∨ v.val = 1 → (t.vec v.val).sent = (s.vec v.val).sent + 1))
  -- ringCommit, the ring is enabled
  ∧ (∀ (s : State) (n : Nat), s.Up → s.hre.served = true → s.rd Reg.HRE_RING_SEL_RING = n → (s.ring n).st ≠ .draining → s.ringBad n = false →
    s.on (Reg.HRE_RING_CFG_ENABLE n) = false → s.sh (Reg.HRE_RING_CFG_ENABLE n) = 1 → Gives .ringCommit s fun t => t.rd
    (Reg.HRE_RING_COMMIT_RESULT n) = St.done ∧ (t.ring n).st = .running ∧ (t.ring n).sub = [] ∧ (∀ f ∈ ringGroup n, t.rd f = s.sh f % 2 ^
    f.w))
  -- ringCommit, the ring is disabled
  ∧ (∀ (s : State) (n : Nat), s.Up → s.hre.served = true → s.rd Reg.HRE_RING_SEL_RING = n → (s.ring n).st ≠ .draining → s.ringBad n = false →
    s.on (Reg.HRE_RING_CFG_ENABLE n) = true → s.sh (Reg.HRE_RING_CFG_ENABLE n) ≠ 1 → Gives .ringCommit s fun t => t.rd
    (Reg.HRE_RING_COMMIT_RESULT n) = St.pending ∧ (t.ring n).st = .draining ∧ (s.ringType n ≤ 2 → (t.ring n).sub = drainSub (s.ring n).sub ∧
    t.rd (Reg.HRE_RING_UNFETCHED n) = (s.rd (Reg.HRE_RING_UNFETCHED n) + idxDiff (s.ring n).limit (s.ring n).index) % 2 ^
    (Reg.HRE_RING_UNFETCHED n).w))
  -- ringCommit, ENABLE as it stands
  ∧ (∀ (s : State) (n : Nat), s.Up → s.hre.served = true → s.rd Reg.HRE_RING_SEL_RING = n → (s.ring n).st ≠ .draining → s.ringBad n = false →
    s.on (Reg.HRE_RING_CFG_ENABLE n) = (s.sh (Reg.HRE_RING_CFG_ENABLE n) == 1) → Gives .ringCommit s fun t => t.rd
    (Reg.HRE_RING_COMMIT_RESULT n) = St.done ∧ (t.ring n).st = (s.ring n).st ∧ (∀ f ∈ ringGroup n, t.rd f = s.sh f % 2 ^ f.w))
  -- ringDrainDone
  ∧ (∀ (s : State) (n : Fin 128), s.Up → (s.ring n.val).st = .draining → allWritten (s.ring n.val).sub = true → Gives (.ringDrainDone n) s fun
    t => t.rd (Reg.HRE_RING_COMMIT_RESULT n.val) = St.done ∧ (t.ring n.val).st = .off ∧ (t.ring n.val).sub = [] ∧ (t.ring n.val).entries =
    [])

/-- Chutes: what each producer and consumer operation does. Each command completes (exec answers a next state) in every state that meets its
  hypotheses. Each result is the whole next state unless said otherwise. START with no packet open, where the free credit covers PKT_MAX,
  opens a packet with DONE; on an open packet it is BUSY; without credit, or on a disabled chute, NO_CREDIT, counted. WRITE below PKT_MAX
  appends the word; at PKT_MAX it rewinds the packet with OVERSIZE, counted, and gives its credits back. COMMIT of a packet with words makes
  it visible at the end of the chute with the epoch it is for; of a rewound packet it closes with OVERSIZE. ABORT closes the packet, gives
  its credits back and is counted. A read of an enabled chute takes the next word of the packet read, with its tag, and returns its credit;
  a corrected word is tagged and counted; an uncorrectable word discards the rest of its packet, is counted and sets UNCORR (chute, counter,
  fault bit and mode stated); an empty or disabled chute answers data 0 and tag 0. DROP_REST gives back and drops the words of the packet
  part-read, counted; with none it changes nothing. A CHUTE commit with verdict DONE that enables a chute makes its three fields live and
  gives ALLOT credits; one that disables a chute (other than chute 48, which the same step's Tally records may touch) leaves it empty with
  every credit returned. VIEW_SAMPLE latches RETURNED and OUTSTANDING. (A counter one step below its end is left out: its saturation is a
  record of its own.) -/
def Obligations.ChuteOperations : Prop :=
  -- chuteStart
  (∀ (s : State) (n : Fin 96) (prio : Fin 8), s.Up → (s.chute n.val).opened = none → s.chuteOn n.val = true → s.rd (Reg.CHU_CFG_PKT_MAX
    n.val) ≤ s.freeCredit n.val → Gives (.chuteStart n prio) s fun t => t = s.setChute n.val
    { s.chute n.val with opened := some ⟨prio.val, [], false⟩, status := St.done })
  -- chuteStart, on an open packet
  ∧ (∀ (s : State) (n : Fin 96) (prio : Fin 8), s.Up → (s.chute n.val).opened.isSome = true → Gives (.chuteStart n prio) s fun t => t =
    s.setChute n.val { s.chute n.val with status := St.busy })
  -- chuteStart, without credit
  ∧ (∀ (s : State) (n : Fin 96) (prio : Fin 8), s.Up → (s.chute n.val).opened = none → (s.chuteOn n.val = false ∨ s.freeCredit n.val < s.rd
    (Reg.CHU_CFG_PKT_MAX n.val)) → s.rd (Reg.CHU_NOCREDIT n.val) < 4294967294 → Gives (.chuteStart n prio) s fun t => t = (s.setChute n.val
    { s.chute n.val with status := St.noCredit }).wr (Reg.CHU_NOCREDIT n.val) (s.rd (Reg.CHU_NOCREDIT n.val) + 1))
  -- chuteWrite
  ∧ (∀ (s : State) (n : Fin 96) (w : DWord) (o : OpenPkt), s.Up → (s.chute n.val).opened = some o → o.ovr = false → o.words.length < s.rd
    (Reg.CHU_CFG_PKT_MAX n.val) → Gives (.chuteWrite n w) s fun t => t = s.setChute n.val
    { s.chute n.val with opened := some ⟨o.prio, o.words ++ [w], false⟩, status := St.done })
  -- chuteWrite, past PKT_MAX
  ∧ (∀ (s : State) (n : Fin 96) (w : DWord) (o : OpenPkt), s.Up → (s.chute n.val).opened = some o → o.ovr = false → s.rd (Reg.CHU_CFG_PKT_MAX
    n.val) ≤ o.words.length → s.rd (Reg.CHU_OVERSIZE n.val) < 4294967294 → Gives (.chuteWrite n w) s fun t => t = (s.setChute n.val
    ({ s.chute n.val with opened := some ⟨o.prio, [], true⟩, status := St.oversize }.giveBack o.words.length)).wr (Reg.CHU_OVERSIZE n.val)
    (s.rd (Reg.CHU_OVERSIZE n.val) + 1))
  -- chuteCommit
  ∧ (∀ (s : State) (n : Fin 96) (o : OpenPkt), s.Up → (s.chute n.val).opened = some o → o.ovr = false → o.words ≠ [] → Gives (.chuteCommit n)
    s fun t => t = s.setChute n.val
    { s.chute n.val with opened := none, pkts := (s.chute n.val).pkts ++ [⟨o.prio, o.words, s.nextEpoch, none, none⟩], status := St.done })
  -- chuteCommit, of a rewound packet
  ∧ (∀ (s : State) (n : Fin 96) (o : OpenPkt), s.Up → (s.chute n.val).opened = some o → o.ovr = true → Gives (.chuteCommit n) s fun t => t =
    s.setChute n.val { s.chute n.val with opened := none, status := St.oversize })
  -- chuteAbort
  ∧ (∀ (s : State) (n : Fin 96) (o : OpenPkt), s.Up → (s.chute n.val).opened = some o → o.ovr = false → s.rd (Reg.CHU_ABORTED n.val) <
    4294967294 → Gives (.chuteAbort n) s fun t => t = (s.setChute n.val
    { ({ s.chute n.val with opened := none }).giveBack o.words.length with status := St.done }).wr (Reg.CHU_ABORTED n.val) (s.rd
    (Reg.CHU_ABORTED n.val) + 1))
  -- chuteRead
  ∧ (∀ (s : State) (n : Fin 96) (p : Packet) (w : DWord) (ws : List DWord) (first : Bool) (rest : List Packet), s.Up → s.chuteOn n.val = true
    → (s.chute n.val).readFrom = some (p, first, rest) → p.words = w :: ws → Gives (.chuteRead n .clean) s fun t => t = s.setChute n.val
    (({ s.chute n.val with reading := if ws.isEmpty then none else some { p with words := ws }, pkts := rest, readData := w, readSt := St.done, readTag := 1 + 2 * bit first + 4 * bit ws.isEmpty + 8 * p.prio }).giveBack
    1))
  -- chuteRead, a corrected word
  ∧ (∀ (s : State) (n : Fin 96) (p : Packet) (w : DWord) (ws : List DWord) (first : Bool) (rest : List Packet), s.Up → s.chuteOn n.val = true
    → (s.chute n.val).readFrom = some (p, first, rest) → p.words = w :: ws → s.rd (Reg.CHU_CORRECTED n.val) < 4294967294 → Gives (.chuteRead
    n .corrected) s fun t => t = (s.setChute n.val
    (({ s.chute n.val with reading := if ws.isEmpty then none else some { p with words := ws }, pkts := rest, readData := w, readSt := St.done, readTag := 1 + 2 * bit first + 4 * bit ws.isEmpty + 8 * p.prio + 64 }).giveBack
    1)).wr (Reg.CHU_CORRECTED n.val) (s.rd (Reg.CHU_CORRECTED n.val) + 1))
  -- chuteRead, an uncorrectable word
  ∧ (∀ (s : State) (n : Fin 96) (p : Packet) (w : DWord) (ws : List DWord) (first : Bool) (rest : List Packet), s.Up → s.chuteOn n.val = true
    → (s.chute n.val).readFrom = some (p, first, rest) → p.words = w :: ws → s.rd (Reg.CHU_UNCORRECTED n.val) < 4294967294 → Gives
    (.chuteRead n .uncorrectable) s fun t => t.chute n.val =
    (({ s.chute n.val with reading := none, pkts := rest, readData := 0, readSt := St.eccUncorrected, readTag := 1 + 2 * bit first + 4 + 8 * p.prio + 128 }).giveBack
    p.words.length).tested ∧ t.rd (Reg.CHU_UNCORRECTED n.val) = s.rd (Reg.CHU_UNCORRECTED n.val) + 1 ∧ t.rd Reg.CHU_FAULT_UNCORR = 1 ∧
    t.mode = s.mode)
  -- chuteRead, of an empty chute
  ∧ (∀ (s : State) (n : Fin 96) (ecc : Ecc), s.Up → s.chuteOn n.val = true → (s.chute n.val).readFrom = none → Gives (.chuteRead n ecc) s fun
    t => t = s.setChute n.val { s.chute n.val with readData := 0, readTag := 0 })
  -- chuteRead, of a disabled chute
  ∧ (∀ (s : State) (n : Fin 96) (ecc : Ecc), s.Up → s.chuteOn n.val = false → Gives (.chuteRead n ecc) s fun t => t = s.setChute n.val
    { s.chute n.val with readData := 0, readTag := 0 })
  -- chuteDropRest
  ∧ (∀ (s : State) (n : Fin 96) (p : Packet), s.Up → (s.chute n.val).reading = some p → s.rd (Reg.CHU_DROP_REST n.val) < 4294967294 → Gives
    (.chuteDropRest n) s fun t => t = (s.setChute n.val ({ s.chute n.val with reading := none }.giveBack p.words.length)).wr
    (Reg.CHU_DROP_REST n.val) (s.rd (Reg.CHU_DROP_REST n.val) + 1))
  -- chuteDropRest, with no packet part-read
  ∧ (∀ (s : State) (n : Fin 96), s.Up → (s.chute n.val).reading = none → Gives (.chuteDropRest n) s fun t => t = s)
  -- chuteCfgCommit, a disabled chute is enabled
  ∧ (∀ (s : State) (n : Nat), s.Up → s.rd Reg.CHU_SEL_CHUTE = n → chuteVerdict n s = St.done → s.chuteOn n = false → s.sh (Reg.CHU_CFG_ENABLE
    n) = 1 → Gives .chuteCfgCommit s fun t => t.rd (Reg.CHU_COMMIT_RESULT n) = St.done ∧ (∀ f ∈ [Reg.CHU_CFG_ALLOT n, Reg.CHU_CFG_PKT_MAX n,
    Reg.CHU_CFG_ENABLE n], t.rd f = s.sh f % 2 ^ f.w) ∧ (t.chute n).given = ((s.chute n).given + t.rd (Reg.CHU_CFG_ALLOT n)) % 4294967296)
  -- chuteCfgCommit, an enabled chute is disabled
  ∧ (∀ (s : State) (n : Nat), s.Up → s.rd Reg.CHU_SEL_CHUTE = n → chuteVerdict n s = St.done → s.chuteOn n = true → s.sh (Reg.CHU_CFG_ENABLE
    n) = 0 → n ≠ 48 → Gives .chuteCfgCommit s fun t => t.rd (Reg.CHU_COMMIT_RESULT n) = St.done ∧ t.chuteOn n = false ∧ (t.chute n).opened =
    none ∧ (t.chute n).pkts = [] ∧ (t.chute n).reading = none ∧ (t.chute n).returned = (t.chute n).given)
  -- chuteViewSample
  ∧ (∀ (s : State) (n : Fin 96), s.Up → Gives (.chuteViewSample n) s fun t => t = s.setChute n.val
    { s.chute n.val with sampled := ((s.chute n.val).returned, (s.chute n.val).outstanding) })

/-- The Hoist: instructions, channel control and ticks. Each command completes (exec answers a next state) in every state that meets its
  hypotheses. A PROG commit on a channel that does not run, of at most 256 checked instructions, makes the program and PROG_LEN live and the
  channel IDLE at pc 0 without flags; a failing instruction leaves the Hoist as it was and gives BAD_FORMAT with its index. START, RESUME
  and STOP write exactly what HST_CH_CTRL says: STOP inside a MOVE makes the channel STOPPING, between instructions or while it waits it
  halts STOPPED; RESUME of a channel not halted sets CTRL_REFUSED. EVENTS_LO and EVENTS_HI clear exactly the flags written. A tick with a
  period sets flag 32 + t in all channels and counts. MOVE between memory ranges stores LENGTH bytes read and waits for completion; of 0
  bytes it moves nothing; a source address in no region halts the channel with BAD_FORMAT, nothing written; an uncorrectable instruction
  word halts it with ECC_UNCORRECTED. MOVE_COMPLETE sets COUNT to the bytes and goes on behind the MOVE, through the loops; a packet being
  moved to a chute is committed. BURST_RETRY that lands writes the rest; one that fails is counted in the MOVE, or with the retries used up
  halts with BUS_ERROR. LOOP opens a level, or is passed over with BODY or COUNT 0. WAIT proceeds with its flag consumed, or waits;
  WAIT_SATISFIED goes on once the condition holds, or lets a stalled MOVE run; WAIT_TIMEOUT halts with STALE at the same pc. SIGNAL sets its
  flag in exactly the target channels and posts CODE with WAKE; END makes the channel DONE and posts CODE with WAKE; past PROG_LEN the
  channel is DONE. -/
def Obligations.HoistPrograms : Prop :=
  -- progCommit
  (∀ (s : State) (n : Nat), s.Up → s.rd Reg.HST_SEL_CHANNEL = n → ((s.chan n).st = .idle ∨ (s.chan n).st = .done ∨ (s.chan n).st = .halted)
    → s.sh (Reg.HST_CH_CFG_PROG_LEN n) ≤ 256 → firstBad s.board (s.sh (Reg.HST_CH_CFG_COMPL_MODE n) = 0) (s.chan n).progSh (s.sh
    (Reg.HST_CH_CFG_PROG_LEN n)) (s.sh (Reg.HST_CH_CFG_PROG_LEN n)) 0 [] = none → Gives .progCommit s fun t => t.rd
    (Reg.HST_CH_COMMIT_RESULT n) = St.done ∧ (t.chan n).st = .idle ∧ (t.chan n).prog = (s.chan n).progSh ∧ (t.chan n).pc = 0 ∧ (t.chan
    n).flags = [] ∧ t.progLen n = s.sh (Reg.HST_CH_CFG_PROG_LEN n) % 2 ^ (Reg.HST_CH_CFG_PROG_LEN n).w)
  -- progCommit, a bad instruction
  ∧ (∀ (s : State) (n i : Nat), s.Up → s.rd Reg.HST_SEL_CHANNEL = n → ((s.chan n).st = .idle ∨ (s.chan n).st = .done ∨ (s.chan n).st =
    .halted) → s.sh (Reg.HST_CH_CFG_PROG_LEN n) ≤ 256 → firstBad s.board (s.sh (Reg.HST_CH_CFG_COMPL_MODE n) = 0) (s.chan n).progSh (s.sh
    (Reg.HST_CH_CFG_PROG_LEN n)) (s.sh (Reg.HST_CH_CFG_PROG_LEN n)) 0 [] = some i → Gives .progCommit s fun t => t.rd
    (Reg.HST_CH_COMMIT_RESULT n) = St.badFormat ∧ t.rd (Reg.HST_CH_COMMIT_BAD_INDEX n) = i % 2 ^ (Reg.HST_CH_COMMIT_BAD_INDEX n).w ∧ t.hst =
    s.hst)
  -- channelStart
  ∧ (∀ (s : State) (v : Word) (n : Nat), s.Up → s.rd Reg.HST_SEL_CHANNEL = n → v.toNat % 8 = 1 → ((s.chan n).st = .idle ∨ (s.chan n).st =
    .done ∨ (s.chan n).st = .halted) → Gives (.channelStart v) s fun t => t = s.setChan n
    { s.chan n with st := if s.progLen n = 0 then .done else .running, status := St.done, pc := 0, loops := [], latch := none, move := none })
  -- channelResume
  ∧ (∀ (s : State) (v : Word) (n : Nat), s.Up → s.rd Reg.HST_SEL_CHANNEL = n → v.toNat % 8 = 2 → (s.chan n).st = .halted → Gives
    (.channelResume v) s fun t => t = s.setChan n { s.chan n with st := .running, move := none })
  -- channelResume, of a channel that is not halted
  ∧ (∀ (s : State) (v : Word) (n : Nat), s.Up → s.rd Reg.HST_SEL_CHANNEL = n → v.toNat % 8 = 2 → (s.chan n).st ≠ .halted → Gives
    (.channelResume v) s fun t => t = s.wr Reg.HST_FAULT_CTRL_REFUSED 1)
  -- channelStop, between instructions
  ∧ (∀ (s : State) (v : Word) (n : Nat), s.Up → s.rd Reg.HST_SEL_CHANNEL = n → v.toNat % 8 = 4 → (s.chan n).st = .running → (s.chan n).move =
    none → Gives (.channelStop v) s fun t => t = s.setChan n { s.chan n with st := .halted, status := 0x81, move := none })
  -- channelStop, inside a MOVE
  ∧ (∀ (s : State) (v : Word) (n : Nat) (m : MoveSt), s.Up → s.rd Reg.HST_SEL_CHANNEL = n → v.toNat % 8 = 4 → (s.chan n).st = .running →
    (s.chan n).move = some m → Gives (.channelStop v) s fun t => t = s.setChan n { s.chan n with st := .stopping })
  -- channelStop, while it waits
  ∧ (∀ (s : State) (v : Word) (n : Nat), s.Up → s.rd Reg.HST_SEL_CHANNEL = n → v.toNat % 8 = 4 → (s.chan n).st = .waiting → Gives
    (.channelStop v) s fun t => (t.chan n).st = .halted ∧ (t.chan n).status = 0x81 ∧ (t.chan n).pc = (s.chan n).pc)
  -- eventFlagsClear, HST_CH_EVENTS_LO
  ∧ (∀ (s : State) (v : Word) (n : Nat), s.Up → s.rd Reg.HST_SEL_CHANNEL = n → Gives (.eventFlagsClear false v) s fun t => (∀ e, e ∈ (t.chan
    n).flags ↔ e ∈ (s.chan n).flags ∧ ¬ (e < 32 ∧ bits v.toNat e 1 = 1)) ∧ t.mode = s.mode)
  -- eventFlagsClear, HST_CH_EVENTS_HI
  ∧ (∀ (s : State) (v : Word) (n : Nat), s.Up → s.rd Reg.HST_SEL_CHANNEL = n → Gives (.eventFlagsClear true v) s fun t => (∀ e, e ∈ (t.chan
    n).flags ↔ e ∈ (s.chan n).flags ∧ ¬ (32 ≤ e ∧ e < 56 ∧ bits v.toNat (e - 32) 1 = 1)) ∧ t.mode = s.mode)
  -- tickConfigWrite
  ∧ (∀ (s : State) (k : Fin 8) (v : Word), s.Up → Gives (.tickConfigWrite k v) s fun t => t.rd (Reg.HST_TICK_PERIOD k.val) = v.toNat % 2 ^
    (Reg.HST_TICK_PERIOD k.val).w ∧ t.hst = s.hst ∧ t.mode = s.mode)
  -- hoistTick
  ∧ (∀ (s : State) (k : Fin 8), s.Up → s.rd (Reg.HST_TICK_PERIOD k.val) ≠ 0 → Gives (.hoistTick k) s fun t => (∀ n < 32, (t.chan n).flags = if
    (s.chan n).flags.contains (32 + k.val) then (s.chan n).flags else (s.chan n).flags ++ [32 + k.val]) ∧ AMap.get t.ticks k.val 0 =
    AMap.get s.ticks k.val 0 + 1 ∧ t.mode = s.mode)
  -- move, from memory to memory
  ∧ (∀ (s : State) (n : Fin 32) (fetch : Ecc) (src dst len : Nat), s.Up → fetch ≠ .uncorrectable → s.atOp n.val 1 = true → s.moveEnds n.val =
    (src, dst) ∧ len = bits (s.chan n.val).ins 16 24 → bits (s.chan n.val).ins 4 1 = 0 ∧ bits (s.chan n.val).ins 5 1 = 0 → len ≠ 0 →
    (s.moveRegion src len false = some .ram ∨ s.moveRegion src len false = some .nor) → s.moveRegion dst len false = some .ram → Gives
    (.move n fetch .clean) s fun t => t.mem = Memory.writeAll dst (Memory.readAll s.mem src len) s.mem ∧ t.chan n.val =
    { s.chan n.val with bytes := 0, move := some ⟨.mem dst false, Memory.readAll s.mem src len, len, 0, false, 0⟩ })
  -- move, of no byte
  ∧ (∀ (s : State) (n : Fin 32) (fetch : Ecc) (bus : BusOutcome), s.Up → fetch ≠ .uncorrectable → s.atOp n.val 1 = true → bits (s.chan
    n.val).ins 16 24 = 0 → Gives (.move n fetch bus) s fun t => t.chan n.val =
    { s.chan n.val with bytes := 0, pc := (flowOn (s.chan n.val).loops ((s.chan n.val).pc + 1)).1, loops := (flowOn (s.chan n.val).loops ((s.chan n.val).pc + 1)).2 }
    ∧ t.mem = s.mem)
  -- move, an address in no region
  ∧ (∀ (s : State) (n : Fin 32) (fetch : Ecc) (bus : BusOutcome), s.Up → fetch ≠ .uncorrectable → s.atOp n.val 1 = true → bits (s.chan
    n.val).ins 16 24 ≠ 0 → s.moveRegion (s.moveEnds n.val).1 (bits (s.chan n.val).ins 16 24) (decide (bits (s.chan n.val).ins 4 1 = 1)) =
    none → Gives (.move n fetch bus) s fun t => t.chan n.val = { s.chan n.val with bytes := 0, st := .halted, status := St.badFormat } ∧
    t.rd Reg.HST_FAULT_HALT = 1 ∧ t.mem = s.mem)
  -- move, the instruction word is uncorrectable
  ∧ (∀ (s : State) (n : Fin 32) (bus : BusOutcome), s.Up → s.atIns n.val = true → Gives (.move n .uncorrectable bus) s fun t => t.chan n.val =
    { s.chan n.val with st := .halted, status := St.eccUncorrected } ∧ t.rd Reg.HST_FAULT_UNCORR = 1 ∧ t.rd Reg.HST_FAULT_HALT = 1)
  -- moveComplete
  ∧ (∀ (s : State) (n : Fin 32) (m : MoveSt), s.Up → (s.chan n.val).move = some m → m.failed = false → (∀ q, m.dst ≠ .port q) → (s.chan
    n.val).st = .running → Gives (.moveComplete n) s fun t => t.chan n.val =
    { s.chan n.val with bytes := m.data.length, move := none, pc := (flowOn (s.chan n.val).loops ((s.chan n.val).pc + 1)).1, loops := (flowOn (s.chan n.val).loops ((s.chan n.val).pc + 1)).2 }
    ∧ t.mem = s.mem)
  -- moveComplete, to a chute
  ∧ (∀ (s : State) (n : Fin 32) (m : MoveSt) (q : Nat) (o : OpenPkt), s.Up → (s.chan n.val).move = some m → m.failed = false → m.dst = .port q
    → (s.chute q).opened = some o → (s.chan n.val).st = .running → Gives (.moveComplete n) s fun t => t.chan n.val =
    { s.chan n.val with bytes := m.data.length, move := none, pc := (flowOn (s.chan n.val).loops ((s.chan n.val).pc + 1)).1, loops := (flowOn (s.chan n.val).loops ((s.chan n.val).pc + 1)).2 }
    ∧ (t.chute q).opened = none ∧ (t.chute q).pkts = (s.chute q).pkts ++ [⟨o.prio, o.words, s.nextEpoch, none, none⟩])
  -- burstRetry
  ∧ (∀ (s : State) (n : Fin 32) (m : MoveSt) (a : Nat), s.Up → (s.chan n.val).move = some m → m.failed = true → m.dst = .mem a false → Gives
    (.burstRetry n true) s fun t => t.mem = Memory.writeAll (a + m.written) (m.data.drop m.written) s.mem ∧ (t.chan n.val).move = some
    { m with failed := false, tries := m.tries + 1, written := m.data.length } ∧ (t.chan n.val).st = (s.chan n.val).st)
  -- burstRetry, it fails again
  ∧ (∀ (s : State) (n : Fin 32) (m : MoveSt), s.Up → (s.chan n.val).move = some m → m.failed = true → m.tries + 1 < s.rd
    (Reg.HST_CH_CFG_RETRY_MAX n.val) → Gives (.burstRetry n false) s fun t => t.chan n.val =
    { s.chan n.val with move := some { m with tries := m.tries + 1 } } ∧ t.mem = s.mem)
  -- burstRetry, the retries are used up
  ∧ (∀ (s : State) (n : Fin 32) (m : MoveSt), s.Up → (s.chan n.val).move = some m → m.failed = true → s.rd (Reg.HST_CH_CFG_RETRY_MAX n.val) ≤
    m.tries + 1 → Gives (.burstRetry n false) s fun t => (t.chan n.val).st = .halted ∧ (t.chan n.val).status = St.busError ∧ (t.chan
    n.val).pc = (s.chan n.val).pc ∧ t.rd Reg.HST_FAULT_HALT = 1)
  -- loop
  ∧ (∀ (s : State) (n : Fin 32) (fetch : Ecc), s.Up → fetch ≠ .uncorrectable → s.atOp n.val 2 = true → bits (s.chan n.val).ins 8 8 ≠ 0 → bits
    (s.chan n.val).ins 16 16 ≠ 0 → Gives (.loop n fetch) s fun t => t = s.setChan n.val
    { s.chan n.val with pc := (s.chan n.val).pc + 1, loops := ⟨(s.chan n.val).pc + 1, (s.chan n.val).pc + 1 + bits (s.chan n.val).ins 8 8, bits (s.chan n.val).ins 16 16, 0, signed 24 (bits (s.chan n.val).ins 32 24), signed 24 (bits (s.chan n.val).ins 56 24)⟩ :: (s.chan n.val).loops })
  -- loop, passed over
  ∧ (∀ (s : State) (n : Fin 32) (fetch : Ecc), s.Up → fetch ≠ .uncorrectable → s.atOp n.val 2 = true → (bits (s.chan n.val).ins 8 8 = 0 ∨ bits
    (s.chan n.val).ins 16 16 = 0) → Gives (.loop n fetch) s fun t => t.chan n.val =
    { s.chan n.val with pc := (flowOn (s.chan n.val).loops ((s.chan n.val).pc + 1 + bits (s.chan n.val).ins 8 8)).1, loops := (flowOn (s.chan n.val).loops ((s.chan n.val).pc + 1 + bits (s.chan n.val).ins 8 8)).2 })
  -- wait, the condition holds
  ∧ (∀ (s : State) (n : Fin 32) (fetch : Ecc), s.Up → fetch ≠ .uncorrectable → s.atOp n.val 3 = true → (s.arriveWait n.val (s.chan
    n.val).ins).waitTest n.val (s.chan n.val).ins = true → Gives (.wait n fetch) s fun t => (t.chan n.val).pc = (flowOn (s.chan n.val).loops
    ((s.chan n.val).pc + 1)).1 ∧ (t.chan n.val).loops = (flowOn (s.chan n.val).loops ((s.chan n.val).pc + 1)).2 ∧ (t.chan n.val).st =
    .running ∧ (t.chan n.val).flags = waitFlags (s.chan n.val).ins (s.chan n.val).flags)
  -- wait, the condition does not hold
  ∧ (∀ (s : State) (n : Fin 32) (fetch : Ecc), s.Up → fetch ≠ .uncorrectable → s.atOp n.val 3 = true → (s.arriveWait n.val (s.chan
    n.val).ins).waitTest n.val (s.chan n.val).ins = false → Gives (.wait n fetch) s fun t => (t.chan n.val).pc = (s.chan n.val).pc ∧ (t.chan
    n.val).st = .waiting ∧ (t.chan n.val).flags = (s.chan n.val).flags)
  -- waitSatisfied, of a WAIT
  ∧ (∀ (s : State) (n : Fin 32), s.Up → (s.chan n.val).st = .waiting → insOp (s.chan n.val).ins = 3 → s.waitTest n.val (s.chan n.val).ins =
    true → Gives (.waitSatisfied n) s fun t => (t.chan n.val).pc = (flowOn (s.chan n.val).loops ((s.chan n.val).pc + 1)).1 ∧ (t.chan
    n.val).loops = (flowOn (s.chan n.val).loops ((s.chan n.val).pc + 1)).2 ∧ (t.chan n.val).st = .running ∧ (t.chan n.val).flags = waitFlags
    (s.chan n.val).ins (s.chan n.val).flags)
  -- waitSatisfied, of a stalled MOVE
  ∧ (∀ (s : State) (n : Fin 32), s.Up → (s.chan n.val).st = .waiting → insOp (s.chan n.val).ins ≠ 3 → s.moveReady n.val = true → Gives
    (.waitSatisfied n) s fun t => t = s.setChan n.val { s.chan n.val with st := .running })
  -- waitTimeout
  ∧ (∀ (s : State) (n : Fin 32), s.Up → (s.chan n.val).st = .waiting → insOp (s.chan n.val).ins = 3 → bits (s.chan n.val).ins 64 32 ≠ 0 →
    Gives (.waitTimeout n) s fun t => (t.chan n.val).st = .halted ∧ (t.chan n.val).status = St.stale ∧ (t.chan n.val).pc = (s.chan n.val).pc
    ∧ t.rd Reg.HST_FAULT_HALT = 1)
  -- signal
  ∧ (∀ (s : State) (n : Fin 32) (fetch : Ecc), s.Up → fetch ≠ .uncorrectable → s.atOp n.val 4 = true → Gives (.signal n fetch) s fun t => (∀ k
    < 32, (t.chan k).flags = if bits (bits (s.chan n.val).ins 32 32) k 1 = 1 ∧ (s.chan k).flags.contains n.val = false then (s.chan k).flags
    ++ [n.val] else (s.chan k).flags) ∧ (t.chan n.val).pc = (flowOn (s.chan n.val).loops ((s.chan n.val).pc + 1)).1 ∧ (t.chan n.val).loops =
    (flowOn (s.chan n.val).loops ((s.chan n.val).pc + 1)).2 ∧ (t.chan n.val).st = .running ∧ t.dsp.codes = (if bits (s.chan n.val).ins 8 1 =
    1 then s.dsp.codes ++ [insByte (s.chan n.val).ins 2] else s.dsp.codes))
  -- hoistEnd
  ∧ (∀ (s : State) (n : Fin 32) (fetch : Ecc), s.Up → fetch ≠ .uncorrectable → s.atOp n.val 0 = true → Gives (.hoistEnd n fetch) s fun t =>
    t.chan n.val = { s.chan n.val with st := .done, status := St.done } ∧ t.dsp.codes = (if bits (s.chan n.val).ins 8 1 = 1 then s.dsp.codes
    ++ [insByte (s.chan n.val).ins 2] else s.dsp.codes))
  -- hoistEnd, past the program
  ∧ (∀ (s : State) (n : Fin 32) (fetch : Ecc), s.Up → (s.chan n.val).st = .running → s.progLen n.val ≤ (s.chan n.val).pc → (s.chan n.val).move
    = none → Gives (.hoistEnd n fetch) s fun t => t = s.setChan n.val
    { s.chan n.val with st := .done, status := St.done, pc := s.progLen n.val })

/-- Dispatch: threads, ordered flows, commits and observations. Each command completes (exec answers a next state) in every state that meets its
  hypotheses. A wake makes an enabled sleeping thread READY at the end, where a unit it may run on is free or none runs a lower priority;
  otherwise it takes the unit whose thread has the lowest priority, and that thread is READY first; a wake of a thread READY or running is
  counted in WAKE_MERGED. A mapped Hoist CODE is taken and wakes its thread; a message posted in an enabled flow from 37 on with room takes
  the next ADM_SEQ and an entry of the epoch opened next. A free unit takes the READY thread the priorities pick, or stays free. An admitted
  packet (next in the round, its flow enabled with room) leaves its chute, gets the next ADM_SEQ and an entry of the epoch it was committed
  for, and is counted; into a full flow it stays, its chute stalled and STALL set, and the rest of Dispatch unchanged. The thread of the
  first entry of a flow completes it: where the next entry is not complete, exactly that entry leaves the window, counted in RELEASED, and
  the flow's stalls end; a robot's input joins its epoch's list at its place, an output packet that finds credit joins its chute (48 aside,
  which the Tally's records use). THREAD and FLOW commits meeting the group's rules give DONE and make each field live. OBS_LATCH copies
  histograms and loads, LOAD_WINDOW_END takes the loads, VIEW_SAMPLE samples ADMITTED, RELEASED and HELD. -/
def Obligations.DispatchThreadsAndFlows : Prop :=
  -- threadWake, a sleeping thread
  (∀ (s : State) (k : Fin 512), s.Up → s.on (Reg.DSP_THR_CFG_ENABLE k.val) = true → s.dsp.ready.contains k.val = false → s.runningThread
    k.val = false → ((∃ c < 9, s.mayRun k.val c = true ∧ AMap.find c s.dsp.units = none) ∨ s.victim k.val s.dsp.units = none) → Gives
    (.threadWake (.thread k)) s fun t => t = { s with dsp := { s.dsp with ready := s.dsp.ready ++ [k.val] } })
  -- threadWake, a thread that preempts a unit
  ∧ (∀ (s : State) (k : Fin 512) (c u : Nat), s.Up → s.on (Reg.DSP_THR_CFG_ENABLE k.val) = true → s.dsp.ready.contains k.val = false →
    s.runningThread k.val = false → (∀ c < 9, s.mayRun k.val c = true → AMap.find c s.dsp.units ≠ none) → s.victim k.val s.dsp.units = some
    (c, u) → Gives (.threadWake (.thread k)) s fun t => AMap.find c t.dsp.units = some k.val ∧ t.dsp.ready = u :: s.dsp.ready ∧ t.mode =
    s.mode)
  -- threadWake, merged
  ∧ (∀ (s : State) (k : Fin 512), s.Up → s.on (Reg.DSP_THR_CFG_ENABLE k.val) = true → (s.dsp.ready.contains k.val = true ∨ s.runningThread
    k.val = true) → Gives (.threadWake (.thread k)) s fun t => t = s.wrapBy Reg.DSP_WAKE_MERGED 1)
  -- threadWake, by a Hoist code
  ∧ (∀ (s : State) (c : Nat) (rest : List Nat), s.Up → s.dsp.codes = c :: rest → bits (s.rd (Reg.DSP_WAKE_MAP c)) 31 1 = 1 → Gives
    (.threadWake .hoist) s fun t => t = State.wake { s with dsp := { s.dsp with codes := rest } } (bits (s.rd (Reg.DSP_WAKE_MAP c)) 0 9))
  -- threadWake, by a message
  ∧ (∀ (s : State) (f : Fin 64), s.Up → 37 ≤ f.val → s.dsp.open_ = true → s.on (Reg.DSP_FLOW_CFG_ENABLE f.val) = true → s.flowHeld f.val <
    s.rd (Reg.DSP_FLOW_CFG_WIN_MAX f.val) → Gives (.threadWake (.message f)) s fun t => t.dsp.adm = (s.dsp.adm + 1) % 4294967296 ∧
    t.dsp.win.map (fun x => (x.seq, x.flow, x.epoch, x.done)) = s.dsp.win.map (fun x => (x.seq, x.flow, x.epoch, x.done)) ++ [((s.dsp.adm +
    1) % 4294967296, f.val, s.nextEpoch, none)] ∧ t.rd (Reg.DSP_FLOW_ADMITTED f.val) = (s.rd (Reg.DSP_FLOW_ADMITTED f.val) + 1) % 2 ^
    (Reg.DSP_FLOW_ADMITTED f.val).w ∧ t.mode = s.mode)
  -- threadDispatch
  ∧ (∀ (s : State) (c : Fin 9) (us : Word) (th : Nat), s.Up → State.pickReady
    { s with dsp := { s.dsp with units := AMap.del c.val s.dsp.units } } c.val s.dsp.ready = some th → Gives (.threadDispatch c us) s fun t
    => AMap.find c.val t.dsp.units = some th ∧ t.dsp.ready = s.dsp.ready.filter (· != th) ∧ t.mode = s.mode)
  -- threadDispatch, with no thread to take
  ∧ (∀ (s : State) (c : Fin 9) (us : Word), s.Up → State.pickReady { s with dsp := { s.dsp with units := AMap.del c.val s.dsp.units } } c.val
    s.dsp.ready = none → Gives (.threadDispatch c us) s fun t => t = { s with dsp := { s.dsp with units := AMap.del c.val s.dsp.units } })
  -- packetAdmission
  ∧ (∀ (s : State) (ecc : Ecc) (c : Nat) (p : Packet) (rest : List Packet), s.Up → ecc ≠ .uncorrectable → s.dsp.open_ = true → s.nextInput =
    some c → bestPacket (s.chute c).pkts = some (p, rest) → s.on (Reg.DSP_FLOW_CFG_ENABLE (flowOf c p.lid)) = true → s.flowHeld (flowOf c
    p.lid) < s.rd (Reg.DSP_FLOW_CFG_WIN_MAX (flowOf c p.lid)) → Gives (.packetAdmission ecc) s fun t => t.dsp.adm = (s.dsp.adm + 1) %
    4294967296 ∧ t.dsp.win.map (fun x => (x.seq, x.flow, x.epoch, x.done)) = s.dsp.win.map (fun x => (x.seq, x.flow, x.epoch, x.done)) ++
    [((s.dsp.adm + 1) % 4294967296, flowOf c p.lid, p.epoch, none)] ∧ t.rd (Reg.DSP_FLOW_ADMITTED (flowOf c p.lid)) = (s.rd
    (Reg.DSP_FLOW_ADMITTED (flowOf c p.lid)) + 1) % 2 ^ (Reg.DSP_FLOW_ADMITTED (flowOf c p.lid)).w ∧ (t.chute c).pkts = rest ∧ t.dsp.round =
    c ∧ t.mode = s.mode)
  -- packetAdmission, into a full flow
  ∧ (∀ (s : State) (ecc : Ecc) (c : Nat) (p : Packet), s.Up → s.dsp.open_ = true → s.nextInput = some c → s.nextPacket c = some p → s.on
    (Reg.DSP_FLOW_CFG_ENABLE (flowOf c p.lid)) = true → s.rd (Reg.DSP_FLOW_CFG_WIN_MAX (flowOf c p.lid)) ≤ s.flowHeld (flowOf c p.lid) →
    Gives (.packetAdmission ecc) s fun t => t.dsp = { s.dsp with round := c, stalled := s.dsp.stalled ++ [(c, flowOf c p.lid)] } ∧ t.rd
    Reg.DSP_FAULT_STALL = 1 ∧ t.mode = s.mode)
  -- entryComplete, first in its flow
  ∧ (∀ (s : State) (q : Word) (o : EntryOut) (e : WinEntry), s.Up → s.dsp.win.find? (·.flow == e.flow) = some e → e.seq = q.toNat →
    e.thread.isSome = true → e.done = none → (∀ x ∈ s.dsp.win, x.seq = q.toNat → x = e) → (∀ x, (s.dsp.win.filter (·.seq != q.toNat)).find?
    (·.flow == e.flow) = some x → x.done = none) → Gives (.entryComplete q o) s fun t => t.dsp.win.map (fun x => (x.seq, x.flow, x.epoch,
    x.done)) = (s.dsp.win.filter (·.seq != q.toNat)).map (fun x => (x.seq, x.flow, x.epoch, x.done)) ∧ t.dsp.stalled = s.dsp.stalled.filter
    (·.2 != e.flow) ∧ t.rd (Reg.DSP_FLOW_RELEASED e.flow) = (s.rd (Reg.DSP_FLOW_RELEASED e.flow) + 1) % 2 ^ (Reg.DSP_FLOW_RELEASED e.flow).w
    ∧ t.mode = s.mode)
  -- entryComplete, of a robot's input
  ∧ (∀ (s : State) (q : Word) (e : WinEntry) (op : RobotOp), s.Up → s.dsp.win.find? (·.flow == e.flow) = some e → e.seq = q.toNat →
    e.thread.isSome = true → e.done = none → (∀ x ∈ s.dsp.win, x.seq = q.toNat → x = e) → (∀ x, (s.dsp.win.filter (·.seq != q.toNat)).find?
    (·.flow == e.flow) = some x → x.done = none) → e.own.bind (·.op) = some op → s.mode ≠ .twinStandby ∧ s.mode ≠ .rejoin → Gives
    (.entryComplete q .input) s fun t => t.epo =
    { s.epo with lists := AMap.set e.epoch (insertOp e.seq op (AMap.get s.epo.lists e.epoch [])) s.epo.lists })
  -- entryComplete, of an output packet
  ∧ (∀ (s : State) (q : Word) (e : WinEntry) (c : Fin 96) (ws : List DWord), s.Up → s.dsp.win.find? (·.flow == e.flow) = some e → e.seq =
    q.toNat → e.thread.isSome = true → e.done = none → (∀ x ∈ s.dsp.win, x.seq = q.toNat → x = e) → (∀ x, (s.dsp.win.filter (·.seq !=
    q.toNat)).find? (·.flow == e.flow) = some x → x.done = none) → s.fits c.val ws = true → c.val ≠ 48 → Gives (.entryComplete q (.packet c
    ws)) s fun t => (t.chute c.val).pkts = (s.chute c.val).pkts ++ [⟨0, ws, s.nextEpoch, none, none⟩])
  -- threadCommit
  ∧ (∀ (s : State) (n : Nat), s.Up → s.rd Reg.DSP_THR_SEL = n → s.sh (Reg.DSP_THR_CFG_AFFINITY n) ≤ 256 → (s.sh (Reg.DSP_THR_CFG_ENABLE n) = 1
    → 0 < s.sh (Reg.DSP_THR_CFG_AFFINITY n)) → (s.sh (Reg.DSP_THR_CFG_ENABLE n) = 0 → s.on (Reg.DSP_THR_CFG_ENABLE n) = true →
    s.runningThread n = false ∧ s.inPool n = false) → Gives .threadCommit s fun t => t.rd (Reg.DSP_THR_COMMIT_RESULT n) = St.done ∧ ∀ f ∈
    [Reg.DSP_THR_CFG_PRIO n, Reg.DSP_THR_CFG_AFFINITY n, Reg.DSP_THR_CFG_ENABLE n], t.rd f = s.sh f % 2 ^ f.w)
  -- flowCommit
  ∧ (∀ (s : State) (n : Nat), s.Up → s.rd Reg.DSP_FLOW_SEL = n → (s.sh (Reg.DSP_FLOW_CFG_ENABLE n) = 1 → 0 < s.sh (Reg.DSP_FLOW_CFG_WIN_MAX n)
    ∧ 0 < s.sh (Reg.DSP_FLOW_CFG_POOL n)) → s.sh (Reg.DSP_FLOW_CFG_POOL n) ≤ 32 ∧ s.sh (Reg.DSP_FLOW_CFG_THREAD_BASE n) + s.sh
    (Reg.DSP_FLOW_CFG_POOL n) ≤ 512 → s.winSum n ≤ 1024 → (s.flowHeld n = 0 ∨ (s.rd (Reg.DSP_FLOW_CFG_WIN_MAX n) < s.sh
    (Reg.DSP_FLOW_CFG_WIN_MAX n) ∧ ∀ f ∈ [Reg.DSP_FLOW_CFG_ENABLE n, Reg.DSP_FLOW_CFG_POOL n, Reg.DSP_FLOW_CFG_THREAD_BASE n], s.sh f = s.rd
    f)) → Gives .flowCommit s fun t => t.rd (Reg.DSP_FLOW_COMMIT_RESULT n) = St.done ∧ ∀ f ∈ [Reg.DSP_FLOW_CFG_WIN_MAX n,
    Reg.DSP_FLOW_CFG_THREAD_BASE n, Reg.DSP_FLOW_CFG_POOL n, Reg.DSP_FLOW_CFG_ENABLE n], t.rd f = s.sh f % 2 ^ f.w)
  -- obsLatch
  ∧ (∀ (s : State), s.Up → Gives .obsLatch s fun t => t = { s with dsp := { s.dsp with histBank := s.dsp.hist, loadBank := s.dsp.load } })
  -- loadWindowEnd
  ∧ (∀ (s : State) (l : Vector Word 9), s.Up → Gives (.loadWindowEnd l) s fun t => t =
    { s with dsp := { s.dsp with load := loadMap 0 l.toList } })
  -- flowViewSample
  ∧ (∀ (s : State) (f : Fin 64), s.Up → Gives (.flowViewSample f) s fun t => AMap.find f.val t.dsp.samples = some (s.rd (Reg.DSP_FLOW_ADMITTED
    f.val), s.rd (Reg.DSP_FLOW_RELEASED f.val), s.flowHeld f.val) ∧ t.fld = s.fld ∧ t.mode = s.mode)

/-- Register accesses: sticky bits, plain registers, protected windows and latched counters. Each command completes (exec answers a next state)
  in every state that meets its hypotheses. Writing 1 to sticky bits (those of the register that are 1 and written 1) clears exactly them
  where no condition of theirs holds; a bit whose condition holds reads 1 again. A core's write of an aligned word, and a served host's of
  one outside the protected windows, is that word's write alone (wordAt: a COMMIT bit acts as the group's command, shown of the THREAD
  commit; control bits act, sticky bits clear, every other write goes to the field or shadow at once); 64 bits are written as two words,
  lower half first, in one step. The wake map and the shadow of the fleet tables take what is written. A served host's misaligned write sets
  BAD_ACCESS and signals vector 0, as does a badly sized access; its write to a service-core register or view only raises that block's
  HOST_WRITE bit. A read of the low word of a 64-bit Larder counter latches the high word. Rests on parts of rules R57, R95, R140, R294. -/
def Obligations.RegisterAccess : Prop :=
  -- stickyFaultClear, no condition persists
  (∀ (s : State) (off v : Word), s.Up → (s.conditions.filter fun p => p.2 && (s.hits off.toNat v.toNat).contains p.1) = [] → Gives
    (.stickyFaultClear off v) s fun t => t = s.wrEach ((s.hits off.toNat v.toNat).map fun f => (f, 0)))
  -- stickyFaultClear, a condition that persists
  ∧ (∀ (s : State) (off v : Word) (f : Fld), s.Up → f ∈ s.hits off.toNat v.toNat → (f, true) ∈ s.conditions → Gives (.stickyFaultClear off v)
    s fun t => t.rd f = 1)
  -- registerWrite, of a word by the core
  ∧ (∀ (s : State) (off v : Word), s.Up → off.toNat % 4 = 0 → Gives (.registerWrite off v none .core) s fun t => t = s.wordAt off.toNat
    v.toNat)
  -- registerWrite, of 64 bits by the core
  ∧ (∀ (s : State) (off v u : Word), s.Up → off.toNat % 8 = 0 → Gives (.registerWrite off v (some u) .core) s fun t => t = (s.wordAt off.toNat
    v.toNat).wordAt (off.toNat + 4) u.toNat)
  -- registerWrite, of a word by a served host
  ∧ (∀ (s : State) (off v : Word), s.Up → s.hre.served = true → off.toNat % 4 = 0 → hostBarred off.toNat = none → Gives (.registerWrite off v
    none .host) s fun t => t = s.wordAt off.toNat v.toNat)
  -- registerWrite, misaligned by a served host
  ∧ (∀ (s : State) (off v : Word), s.Up → s.hre.served = true → off.toNat % 4 ≠ 0 → Gives (.registerWrite off v none .host) s fun t => t =
    (s.wr Reg.HRE_FAULT_BAD_ACCESS 1).signal 0)
  -- registerWrite, of a COMMIT bit by the core
  ∧ (∀ (s : State) (v : Word), s.Up → bits v.toNat 0 1 = 1 → Gives (.registerWrite 0x5000C v none .core) s fun t => exec .threadCommit s =
    .next t ∧ t = s.wordAt 0x5000C v.toNat)
  -- registerWrite, the map of wakes
  ∧ (∀ (s : State) (k : Nat) (v : Word), s.Up → k < 256 → Gives (.registerWrite (BitVec.ofNat 32 (0x50800 + 4 * k)) v none .core) s fun t => t
    = s.wr (Reg.DSP_WAKE_MAP k) (v.toNat % 512 + 2147483648 * bits v.toNat 31 1))
  -- registerWrite, the fleet tables' shadow
  ∧ (∀ (s : State) (k : Nat) (v : Word), s.Up → k < 0x34000 → s.isPending Reg.TRK_COMMIT_RESULT = false → Gives (.registerWrite (BitVec.ofNat
    32 (0x800000 + 4 * k)) v none .core) s fun t => t = { s with trk := { s.trk with shadow := AMap.put k v.toNat 0 s.trk.shadow } })
  -- registerWrite, a served host in a protected window
  ∧ (∀ (s : State) (off v : Word) (f : Fld), s.Up → s.hre.served = true → off.toNat % 4 = 0 → hostBarred off.toNat = some f → Gives
    (.registerWrite off v none .host) s fun t => t = s.fault f)
  -- protectedHostWrite
  ∧ (∀ (s : State) (off : Word) (f : Fld), s.Up → s.hre.served = true → hostBarred off.toNat = some f → Gives (.protectedHostWrite off) s fun
    t => t = s.fault f)
  -- badSizeAccess
  ∧ (∀ (s : State), s.Up → s.hre.served = true → Gives .badSizeAccess s fun t => t = (s.wr Reg.HRE_FAULT_BAD_ACCESS 1).signal 0)
  -- counterLatchRead
  ∧ (∀ (s : State) (k : Fin 4), s.Up → Gives (.counterLatchRead k) s fun t => t =
    { s with ldr := { s.ldr with lo := AMap.put k.val (s.rd (ldrCounter k.val) / 4294967296) 0 s.ldr.lo } })

/-- The GLOBAL group, IDENT and uncorrectable memory words. Each command completes (exec answers a next state) in every state that meets its
  hypotheses. A GLOBAL commit with an epoch length other than 3 that divides the slot and the loop period, a federation ID that is no
  broadcast, an event ring that is off or an enabled EVENT ring, and nothing moved that the fleet modes and a follower bar, is DONE: with
  the same length all members are live at once; with another length the rest is live and the commit stays PENDING. IDENT, accepted,
  completes DONE with GLB_ID in RESULT, or with a LENGTH as BAD_LENGTH. An uncorrectable LPDDR4X word is counted up to the counter's end,
  its address kept, its event sent, and a record (its 16 bytes are a free value, log entry 4) is offered to chute 62; nothing else changes.
  Rests on parts of rules R547, R553, R555. -/
def Obligations.GlobalAndMemory : Prop :=
  -- globalCommit, the same epoch length
  (∀ (s : State), s.Up → s.isPending Reg.GLB_COMMIT_RESULT = false → s.sh Reg.GLB_CFG_EPOCH_LEN = s.rd Reg.GLB_CFG_EPOCH_LEN → s.sh
    Reg.GLB_CFG_EPOCH_LEN ≠ 3 ∧ s.sh Reg.GLB_CFG_FED_ID ≠ broadcastId → (s.sh Reg.GLB_CFG_FED_ID = s.rd Reg.GLB_CFG_FED_ID ∨ s.mode.fleet =
    false ∧ s.follows = false) → (s.sh Reg.GLB_EVENT_RING_EN ≠ 1 ∨ s.on (Reg.HRE_RING_CFG_ENABLE (s.sh Reg.GLB_EVENT_RING_RING)) = true ∧
    s.ringType (s.sh Reg.GLB_EVENT_RING_RING) = 4) → s.slotMs % epochLength (s.sh Reg.GLB_CFG_EPOCH_LEN) = 0 ∧ s.rd Reg.GOV_CFG_LOOP_MS %
    epochLength (s.sh Reg.GLB_CFG_EPOCH_LEN) = 0 → Gives .globalCommit s fun t => t = s.commit Reg.GLB_COMMIT_RESULT [Reg.GLB_CFG_EPOCH_LEN,
    Reg.GLB_CFG_FED_ID, Reg.GLB_EVENT_RING_RING, Reg.GLB_EVENT_RING_EN] St.done)
  -- globalCommit, a moved epoch length
  ∧ (∀ (s : State), s.Up → s.isPending Reg.GLB_COMMIT_RESULT = false → s.sh Reg.GLB_CFG_EPOCH_LEN ≠ s.rd Reg.GLB_CFG_EPOCH_LEN → s.sh
    Reg.GLB_CFG_EPOCH_LEN ≠ 3 ∧ s.sh Reg.GLB_CFG_FED_ID ≠ broadcastId → s.mode.fleet = false ∧ s.follows = false → (s.sh
    Reg.GLB_EVENT_RING_EN ≠ 1 ∨ s.on (Reg.HRE_RING_CFG_ENABLE (s.sh Reg.GLB_EVENT_RING_RING)) = true ∧ s.ringType (s.sh
    Reg.GLB_EVENT_RING_RING) = 4) → s.slotMs % epochLength (s.sh Reg.GLB_CFG_EPOCH_LEN) = 0 ∧ s.rd Reg.GOV_CFG_LOOP_MS % epochLength (s.sh
    Reg.GLB_CFG_EPOCH_LEN) = 0 → Gives .globalCommit s fun t => t = (s.commit Reg.GLB_COMMIT_RESULT [Reg.GLB_CFG_FED_ID,
    Reg.GLB_EVENT_RING_RING, Reg.GLB_EVENT_RING_EN] St.done).setPending Reg.GLB_COMMIT_RESULT)
  -- ident
  ∧ (∀ (s : State) (c : Cmd), s.Up → s.Accepts c .command → c.desc.length = 0 → Gives (.ident c) s fun t => t = (s.begun c).finish c St.done 0
    0x00B19620)
  -- ident, with a LENGTH
  ∧ (∀ (s : State) (c : Cmd), s.Up → s.Accepts c .command → c.desc.length ≠ 0 → Gives (.ident c) s fun t => t = (s.begun c).finish c
    St.badLength 0 0)
  -- memUncorrectable
  ∧ (∀ (s : State) (a : BitVec 34), s.Up → Gives (.memUncorrectable a) s fun t => t.rd Reg.MEM_LAST_UNCORR = a.toNat ∧ t.rd Reg.MEM_ECC_UNCORR
    = min (s.rd Reg.MEM_ECC_UNCORR + 1) (2 ^ Reg.MEM_ECC_UNCORR.w - 1) ∧ ∃ r, t = ((((s.stopBy Reg.MEM_ECC_UNCORR 1).wr Reg.MEM_LAST_UNCORR
    a.toNat).event 0x16 1 a.toNat).draw 9).2.send 62 0 (le 16 r))

/-- The epoch's boundary, release and snapshot. Each command completes (exec answers a next state) in every state that meets its hypotheses. A
  boundary with no epoch open advances the epoch counter by one; a new input set opens with exactly the host inputs that waited and the
  robots gone, the mode unchanged. In FLEET_RUN at GO a host loss since the last boundary becomes a fleet HOLD with cause HOST_LOSS; a
  rejoining unit whose READY is acknowledged (no PFAIL handling) passes to TWIN_STANDBY with REJOIN_STATE 0. The counter is recorded where
  8,192 epochs have passed since the last record, and only that changes. A pending epoch length takes effect at a whole second with DONE.
  Release, once every input frame of the epoch is released, latches mode and fleet state and takes the epoch's list in its order, mode and
  Trapdoor unchanged; with one not released it does what OVERRUN_EPOCH does. The snapshot takes the latest position record of each robot and
  changes nothing else of the epoch. Rests on parts of rules R11, R12, R13, R14, R15, R170, R461. -/
def Obligations.EpochOpening : Prop :=
  -- epochBoundary
  (∀ (s : State), s.Up → s.epo.opened = false → (s.mode ≠ .rejoin ∨ s.twn.readyDue = false ∨ s.pwr.pfailLatched = true) → (s.hre.lossHold =
    false ∨ s.mode ≠ .fleetRun) → Gives .epochBoundary s fun t => t.rd Reg.GLB_EPOCH = (s.rd Reg.GLB_EPOCH + 1) % 4294967296 ∧ t.epo.opened
    = true ∧ t.epo.taken = s.epo.host ∧ t.epo.host = [] ∧ t.epo.goneNow = s.epo.gone ∧ t.hre.lossHold = false ∧ t.mode = s.mode)
  -- epochBoundary, after a host loss
  ∧ (∀ (s : State), s.Up → s.epo.opened = false → s.hre.lossHold = true → s.mode = .fleetRun → s.trp.fleet = .go → Gives .epochBoundary s fun
    t => t.trp.fleet = .hold ∧ t.on Reg.TRP_HOLD_CAUSE_HOST_LOSS = true ∧ t.epo.opened = true)
  -- epochBoundary, of a rejoining unit whose READY is acknowledged
  ∧ (∀ (s : State), s.Up → s.epo.opened = false → s.mode = .rejoin ∧ s.twn.readyDue = true ∧ s.pwr.pfailLatched = false → Gives .epochBoundary
    s fun t => t.mode = .twinStandby ∧ t.rd Reg.FJR_STATUS_REJOIN_STATE = 0 ∧ t.epo.opened = true)
  -- epochCounterRecord
  ∧ (∀ (s : State), s.Up → slotDiff (s.rd Reg.GLB_EPOCH) s.nvm.epochRec ≥ 8192 → Gives .epochCounterRecord s fun t => t =
    { s with nvm := { s.nvm with epochRec := s.rd Reg.GLB_EPOCH } })
  -- epochLengthApply
  ∧ (∀ (s : State), s.Up → s.isPending Reg.GLB_COMMIT_RESULT = true → Gives .epochLengthApply s fun t => t = s.wholeSecond.endPending
    Reg.GLB_COMMIT_RESULT [Reg.GLB_CFG_EPOCH_LEN] St.done ∧ t.rd Reg.GLB_COMMIT_RESULT = St.done)
  -- epochRelease
  ∧ (∀ (s : State), s.Up → s.epo.opened = true ∧ s.epo.released = false ∧ s.follows = false → s.unreleased (s.rd Reg.GLB_EPOCH) = false →
    Gives .epochRelease s fun t => t.epo.released = true ∧ t.epo.mode0 = s.mode ∧ t.epo.fleet0 = s.trp.fleet ∧ t.epo.ops = (AMap.find (s.rd
    Reg.GLB_EPOCH) s.epo.lists).getD [] ∧ t.mode = s.mode ∧ t.trp = s.trp)
  -- epochRelease, with an input frame of the epoch not released
  ∧ (∀ (s : State), s.Up → s.epo.opened = true ∧ s.epo.released = false ∧ s.follows = false → s.unreleased (s.rd Reg.GLB_EPOCH) = true → Gives
    .epochRelease s fun t => exec .overrunEpoch s = .next t)
  -- positionSnapshot
  ∧ (∀ (s : State), s.Up → s.epo.opened = true ∧ s.epo.released = true ∧ s.epo.snapped = false ∧ s.follows = false → Gives .positionSnapshot s
    fun t => t.epo = { s.epo with snapped := true, pos := s.cre.pos } ∧ t.cre = s.cre ∧ t.mode = s.mode)

/-- The epoch's decisions, digest, commit, overrun and abandonment. Each command completes (exec answers a next state) in every state that meets
  its hypotheses. A released epoch with its snapshot (on a follower, with its whole stream) is decided, and the envelopes waiting for it are
  taken. With no work left its digest closes: on a lone unit its commit is then assured, on a mirrored active it waits for the peer's
  acknowledgement; with work left DIGEST_CLOSE does what OVERRUN_EPOCH does. The commit of an assured epoch closes it with nothing taken, no
  output and no work left and clears the overrun count; PFAIL handling that has frozen the Larder keeps it from committing and nothing
  changes. An overrun of a unit that follows nobody (and whose digest has not closed with the link lost) closes the epoch, counts one more
  in a row and sets OVERRUN; the first, or one outside the fleet modes, leaves mode and HOLD cause; the second in a row in a fleet mode
  raises a HOLD with cause OVERRUN. A follower abandons without counting. An abandoned epoch is closed with nothing taken, the mode
  unchanged. Rests on parts of rules R17, R277, R282, R309, R464, R466. -/
def Obligations.EpochClosing : Prop :=
  -- epochDecide
  (∀ (s : State) (l : List LoopSpec), s.Up → s.epo.opened = true ∧ s.epo.released = true ∧ s.epo.snapped = true → s.epo.decided = false →
    (s.follows = false ∨ s.epo.ended = true ∧ s.twn.missing = []) → Gives (.epochDecide l) s fun t => t.epo.decided = true ∧ t.epo.envs =
    [])
  -- overrunEpoch, the first or outside the fleet modes
  ∧ (∀ (s : State), s.Up → s.epo.opened = true → (s.follows = false ∧ (s.twn.linkLost = false ∨ s.epo.digest = false)) → (s.epo.overruns = 0 ∨
    s.mode.fleet = false) → Gives .overrunEpoch s fun t => t.epo.opened = false ∧ t.epo.overruns = s.epo.overruns + 1 ∧ t.rd
    Reg.GLB_FAULT_OVERRUN = 1 ∧ t.mode = s.mode ∧ t.rd Reg.TRP_HOLD_CAUSE_OVERRUN = s.rd Reg.TRP_HOLD_CAUSE_OVERRUN)
  -- overrunEpoch, the second in a row
  ∧ (∀ (s : State), s.Up → s.epo.opened = true → (s.follows = false ∧ (s.twn.linkLost = false ∨ s.epo.digest = false)) → s.epo.overruns ≠ 0 ∧
    s.mode.fleet = true → Gives .overrunEpoch s fun t => t.epo.opened = false ∧ t.epo.overruns = s.epo.overruns + 1 ∧ t.on
    Reg.TRP_HOLD_CAUSE_OVERRUN = true ∧ t.trp.fleet = (if s.trp.fleet = .go then .hold else s.trp.fleet))
  -- overrunEpoch, of a follower
  ∧ (∀ (s : State), s.Up → s.epo.opened = true → (s.follows = true ∨ s.twn.linkLost = true ∧ s.epo.digest = true) → Gives .overrunEpoch s fun
    t => t = s.abandonEpoch ∧ t.epo.opened = false ∧ t.mode = s.mode ∧ t.rd Reg.GLB_OVERRUN = s.rd Reg.GLB_OVERRUN)
  -- epochDigestClose, on a lone unit
  ∧ (∀ (s : State), s.Up → s.epo.opened = true ∧ s.epo.decided = true ∧ s.epo.digest = false → s.epo.work = [] ∧ s.epo.loopQ = [] → s.follows
    = false ∧ s.twn.mirrored = false ∧ s.twn.prep = none → Gives .epochDigestClose s fun t => t.epo.digest = true ∧ t.epo.assured = true)
  -- epochDigestClose, on a mirrored active
  ∧ (∀ (s : State), s.Up → s.epo.opened = true ∧ s.epo.decided = true ∧ s.epo.digest = false → s.epo.work = [] ∧ s.epo.loopQ = [] → s.follows
    = false ∧ s.twn.mirrored = true ∧ s.twn.prep = none → s.epo.assured = false → Gives .epochDigestClose s fun t => t.epo.digest = true ∧
    t.epo.assured = false)
  -- epochDigestClose, with work left
  ∧ (∀ (s : State), s.Up → s.epo.opened = true ∧ s.epo.decided = true ∧ s.epo.digest = false → (s.epo.work ≠ [] ∨ s.epo.loopQ ≠ []) → Gives
    .epochDigestClose s fun t => exec .overrunEpoch s = .next t)
  -- epochCommit
  ∧ (∀ (s : State), s.Up → s.ldrFrozen = false → s.epo.opened = true ∧ s.epo.digest = true ∧ s.epo.assured = true ∧ s.follows = false → Gives
    .epochCommit s fun t => t.epo.opened = false ∧ t.epo.taken = [] ∧ t.epo.work = [] ∧ t.epo.outs = [] ∧ t.epo.overruns = 0 ∧ t.epo.assured
    = false ∧ t.twn.acked = false)
  -- epochCommit, with the Larder frozen
  ∧ (∀ (s : State), s.Up → s.ldrFrozen = true → Gives .epochCommit s fun t => t = s)
  -- epochAbandon
  ∧ (∀ (s : State), s.Up → s.epo.opened = true → Gives .epochAbandon s fun t => t.epo.opened = false ∧ t.epo.taken = [] ∧ t.epo.outs = [] ∧
    t.epo.work = [] ∧ t.epo.overruns = 0 ∧ t.mode = s.mode)

/-- Measurement epochs, the MEAS commit, navigation records, antenna faults and band powers. Each command completes (exec answers a next state)
  in every state that meets its hypotheses. A measurement epoch while MEAS_RUNNING (outputs not stopped) is at the next time of its rate,
  shows its number in MEAS_SEQ, advances it, and ends the ADC gap; the mode is unchanged. A pending RATE is in force at the whole second. A
  MEAS commit within the field limits, that leaves RATE or finds a mode that lets it change, makes RATE live with DONE; a changed RATE waits
  for the whole second and the other fields for the next measurement epoch. A navigation unit of a LOCKED channel is offered to chute 24 as
  the exact record, its check NOT_CHECKED for the first LNAV word since lock; one that failed is offered too and counted. An antenna fault
  sets its condition and its sticky bit and leaves the other antenna's condition; its end clears only the condition. The eight band powers
  take the two words' bytes, the clip windows take the counts, and more than 10 clipped ms in a window set CLIP_A or CLIP_B. Rests on parts
  of rules R183, R191, R195, R196, R201, R203, R204. -/
def Obligations.MeasurementSeries : Prop :=
  -- measEpoch
  (∀ (s : State) (obs : List MeasObs), s.Up → s.on Reg.RNG_STATUS_MEAS_RUNNING = true → s.outputsStopped = false → Gives (.measEpoch obs) s
    fun t => t.rng.seqNext = (s.rng.seqNext + 1) % 4294967296 ∧ t.rng.gap = false ∧ t.rng.last = some (nextAt (ratePeriod s.rng.rate) s.now
    s.rng.last) ∧ t.rd Reg.RNG_MEAS_SEQ = s.rng.seqNext % 4294967296 ∧ t.mode = s.mode)
  -- measRateApply
  ∧ (∀ (s : State), s.Up → s.rng.rateDue = true → Gives .measRateApply s fun t => t.rng.rate = s.rd Reg.RNG_MEAS_CFG_RATE ∧ t.rng.rateDue =
    false ∧ t.mode = s.mode)
  -- measCommit
  ∧ (∀ (s : State), s.Up → s.sh Reg.RNG_MEAS_CFG_RATE ≤ 4 ∧ s.sh Reg.RNG_MEAS_CFG_ANT_A_EN ≠ 0 → s.sh Reg.RNG_MEAS_CFG_ELEV_MASK ≤ 30 ∧ 15 ≤
    s.sh Reg.RNG_MEAS_CFG_CN0_LOSS ∧ s.sh Reg.RNG_MEAS_CFG_CN0_LOSS ≤ 35 ∧ 2 ≤ s.sh Reg.RNG_ACQ_CFG_DOPPLER_KHZ ∧ s.sh
    Reg.RNG_ACQ_CFG_DOPPLER_KHZ ≤ 12 ∧ 24 ≤ s.sh Reg.RNG_ACQ_CFG_THRESH ∧ s.sh Reg.RNG_ACQ_CFG_THRESH ≤ 80 → s.sh Reg.RNG_SIG_EN_EN ≠ 0 →
    (s.sh Reg.RNG_MEAS_CFG_RATE = s.rd Reg.RNG_MEAS_CFG_RATE ∨ s.mode.fleet = false ∧ s.mode ≠ .twinStandby ∧ s.mode ≠ .rejoin) → Gives
    .measCommit s fun t => t.fld = (s.commit Reg.RNG_MEAS_COMMIT_RESULT [Reg.RNG_MEAS_CFG_RATE] St.done).fld ∧ t.rng =
    { s.rng with rateDue := s.rng.rateDue || (s.sh Reg.RNG_MEAS_CFG_RATE != s.rd Reg.RNG_MEAS_CFG_RATE), due := some ([Reg.RNG_MEAS_CFG_ANT_A_EN, Reg.RNG_MEAS_CFG_ANT_B_EN, Reg.RNG_MEAS_CFG_ELEV_MASK, Reg.RNG_MEAS_CFG_CN0_LOSS, Reg.RNG_SIG_EN_EN, Reg.RNG_ACQ_CFG_DOPPLER_KHZ, Reg.RNG_ACQ_CFG_DWELL, Reg.RNG_ACQ_CFG_THRESH].map s.sh) }
    ∧ t.mode = s.mode)
  -- navRecord
  ∧ (∀ (s : State) (ch : Fin 512) (check : Fin 3) (time : YTime) (payload : List Byte) (u nb : Nat), s.Up → (s.track ch.val).st = .locked →
    navUnit (s.track ch.val).signal (s.track ch.val).geo = some (u, nb) → (check.val = 2 → 5 ≤ u) → (check.val ≠ 1 ∨ u = 1 ∧ (s.track
    ch.val).word = false) → Gives (.navRecord ch check time payload) s fun t => t = (s.setTrack ch.val
    { s.track ch.val with word := true }).send 24 0 ([0x02, bit (s.track ch.val).antB] ++ le 2 ch.val ++ [(s.track ch.val).signal, (s.track
    ch.val).sv, u, if u = 1 ∧ (s.track ch.val).word = false then 3 else check.val] ++ le 2 nb ++ le 6 0 ++ stamp time ++ padBits nb
    (payload.map BitVec.toNat)))
  -- navRecord, of a unit whose check failed
  ∧ (∀ (s : State) (ch : Fin 512) (time : YTime) (payload : List Byte) (u nb : Nat), s.Up → (s.track ch.val).st = .locked → navUnit (s.track
    ch.val).signal (s.track ch.val).geo = some (u, nb) → (u ≠ 1 ∨ (s.track ch.val).word = true) → Gives (.navRecord ch 1 time payload) s fun
    t => t = ((s.setTrack ch.val { s.track ch.val with word := true }).bump Reg.RNG_NAV_FAIL Reg.RNG_FAULT_CNT_SAT).send 24 0 ([0x02, bit
    (s.track ch.val).antB] ++ le 2 ch.val ++ [(s.track ch.val).signal, (s.track ch.val).sv, u, 1] ++ le 2 nb ++ le 6 0 ++ stamp time ++
    padBits nb (payload.map BitVec.toNat)))
  -- antFaultSet, of antenna B
  ∧ (∀ (s : State), s.Up → Gives (.antFaultSet true) s fun t => t.rd Reg.RNG_STATUS_ANT_B_FLT = 1 ∧ t.rd Reg.RNG_FAULT_ANT_B_FAULT = 1 ∧ t.rd
    Reg.RNG_STATUS_ANT_A_FLT = s.rd Reg.RNG_STATUS_ANT_A_FLT ∧ t.mode = s.mode)
  -- antFaultSet, of antenna A
  ∧ (∀ (s : State), s.Up → Gives (.antFaultSet false) s fun t => t.rd Reg.RNG_STATUS_ANT_A_FLT = 1 ∧ t.rd Reg.RNG_FAULT_ANT_A_FAULT = 1 ∧ t.rd
    Reg.RNG_STATUS_ANT_B_FLT = s.rd Reg.RNG_STATUS_ANT_B_FLT ∧ t.mode = s.mode)
  -- antFaultClear
  ∧ (∀ (s : State) (b : Bool), s.Up → Gives (.antFaultClear b) s fun t => t = s.wr (if b then Reg.RNG_STATUS_ANT_B_FLT else
    Reg.RNG_STATUS_ANT_A_FLT) 0)
  -- bandpwrUpdate
  ∧ (∀ (s : State) (a b : Word) (ca cb : Fin 101), s.Up → Gives (.bandpwrUpdate a b ca cb) s fun t => t.rd Reg.RNG_BANDPWR_A_DDC0 = bits
    a.toNat 0 8 ∧ t.rd Reg.RNG_BANDPWR_A_DDC1 = bits a.toNat 8 8 ∧ t.rd Reg.RNG_BANDPWR_A_DDC2 = bits a.toNat 16 8 ∧ t.rd
    Reg.RNG_BANDPWR_A_DDC3 = bits a.toNat 24 8 ∧ t.rd Reg.RNG_BANDPWR_B_DDC0 = bits b.toNat 0 8 ∧ t.rd Reg.RNG_BANDPWR_B_DDC1 = bits b.toNat
    8 8 ∧ t.rd Reg.RNG_BANDPWR_B_DDC2 = bits b.toNat 16 8 ∧ t.rd Reg.RNG_BANDPWR_B_DDC3 = bits b.toNat 24 8 ∧ t.rng =
    { s.rng with clipA := (ca.val :: s.rng.clipA).take 10, clipB := (cb.val :: s.rng.clipB).take 10 } ∧ t.mode = s.mode ∧ (10 < sumOf
    ((ca.val :: s.rng.clipA).take 10) → t.rd Reg.RNG_FAULT_CLIP_A = 1) ∧ (10 < sumOf ((cb.val :: s.rng.clipB).take 10) → t.rd
    Reg.RNG_FAULT_CLIP_B = 1))

/-- Acquisition, tracking channels and the LOOP commit. Each command completes (exec answers a next state) in every state that meets its
  hypotheses. A hit of a search allowed (DWELL, an enabled signal, a satellite number of the system, not tracked, above the mask or with no
  elevation predicted) puts the channel allocated to it into PULL_IN with exactly its signal, satellite and the signal's live loop settings;
  with none left it changes no channel and sets ALLOC_SHORT; a miss only offers its record to chute 25. An allocation keeps exactly the
  channels whose satellite is not predicted more than 2 degrees below ELEV_MASK and keeps the prediction. At an integration boundary a
  channel in use takes the committed loop settings. Phase lock takes PULL_IN to TRACK, sync TRACK to LOCKED, a time-out PULL_IN to LOST, a
  loss TRACK and LOCKED to LOST, a reacquisition LOST to PULL_IN, and the idle time-out frees a LOST channel: each command's next state is
  exactly that (the channel counts follow). A LOOP commit of a known signal within every limit makes its five fields live with DONE. Rests
  on parts of rules R186, R187, R188, R189, R190. -/
def Obligations.TrackingChannels : Prop :=
  -- acqResult, a hit with a channel
  (∀ (s : State) (antB : Bool) (sig sv : Byte) (cp dp : Word) (pk : BitVec 16) (k : Fin 14) (geo : Bool) (n : Nat), s.Up → s.rd
    Reg.RNG_ACQ_CFG_DWELL ≠ 0 ∧ s.signalOn sig.toNat = true ∧ svOk (systemOf sig.toNat) sv.toNat = true → s.tracked antB sig.toNat sv.toNat
    = false ∧ s.inMask (s.elevation antB (systemOf sig.toNat) sv.toNat) = true → s.rd Reg.RNG_ACQ_CFG_THRESH < pk.toNat → (s.allocateSat
    antB sig.toNat sv.toNat).heldTrack antB sig.toNat sv.toNat = some n → Gives (.acqResult antB sig sv cp dp pk k geo) s fun t => t.track n
    =
    { TrackCh.free with st := .pullIn, antB := antB, signal := sig.toNat, sv := sv.toNat, glo := if systemOf sig.toNat = 1 then k.val else 15, loop := s.chanLoop sig.toNat geo, geo := geo }
    ∧ t.mode = s.mode)
  -- acqResult, a hit with no channel left
  ∧ (∀ (s : State) (antB : Bool) (sig sv : Byte) (cp dp : Word) (pk : BitVec 16) (k : Fin 14) (geo : Bool), s.Up → s.rd Reg.RNG_ACQ_CFG_DWELL
    ≠ 0 ∧ s.signalOn sig.toNat = true ∧ svOk (systemOf sig.toNat) sv.toNat = true → s.tracked antB sig.toNat sv.toNat = false ∧ s.inMask
    (s.elevation antB (systemOf sig.toNat) sv.toNat) = true → s.rd Reg.RNG_ACQ_CFG_THRESH < pk.toNat → (s.allocateSat antB sig.toNat
    sv.toNat).heldTrack antB sig.toNat sv.toNat = none → Gives (.acqResult antB sig sv cp dp pk k geo) s fun t => t.rng.ch = s.rng.ch ∧ t.rd
    Reg.RNG_FAULT_ALLOC_SHORT = 1 ∧ t.mode = s.mode)
  -- acqResult, a miss
  ∧ (∀ (s : State) (antB : Bool) (sig sv : Byte) (cp dp : Word) (pk : BitVec 16) (k : Fin 14) (geo : Bool), s.Up → s.rd Reg.RNG_ACQ_CFG_DWELL
    ≠ 0 ∧ s.signalOn sig.toNat = true ∧ svOk (systemOf sig.toNat) sv.toNat = true → s.tracked antB sig.toNat sv.toNat = false ∧ s.inMask
    (s.elevation antB (systemOf sig.toNat) sv.toNat) = true → pk.toNat ≤ s.rd Reg.RNG_ACQ_CFG_THRESH → Gives (.acqResult antB sig sv cp dp
    pk k geo) s fun t => t = (s.offer 25 0 (toWords ([0x03, bit antB, sig.toNat, sv.toNat] ++ le 4 cp.toNat ++ le 4 dp.toNat ++ le 2
    pk.toNat ++ [1, 0]))).1)
  -- channelAllocation
  ∧ (∀ (s : State) (sky : List SkySat), s.Up → Gives (.channelAllocation sky) s fun t => t.rng.sky = sky.filter (fun x => svOk x.sys.val
    x.sv.toNat) ∧ t.rng.ch = s.rng.ch.filter (fun p => !((sky.filter fun x => svOk x.sys.val x.sv.toNat).any fun x => x.antB == p.2.antB &&
    x.sv.toNat == p.2.sv && x.sys.val == systemOf p.2.signal &&
    (match x.elev with | some e => decide (e < ((s.rd Reg.RNG_MEAS_CFG_ELEV_MASK : Nat) : Int) - 2) | none => false))) ∧ t.mode = s.mode)
  -- trackingLoopUpdate
  ∧ (∀ (s : State) (n : Fin 512), s.Up → (s.track n.val).st ≠ .idle ∧ (s.track n.val).st ≠ .lost → Gives (.trackingLoopUpdate n) s fun t => t
    = s.setTrack n.val { s.track n.val with loop := s.chanLoop (s.track n.val).signal (s.track n.val).geo })
  -- channelTrack
  ∧ (∀ (s : State) (n : Fin 512), s.Up → (s.track n.val).st = .pullIn → Gives (.channelTrack n) s fun t => t = s.setTrack n.val
    { s.track n.val with st := .track, lockNs := nsOf s.now, half := false })
  -- channelPullInTimeout
  ∧ (∀ (s : State) (n : Fin 512), s.Up → (s.track n.val).st = .pullIn → Gives (.channelPullInTimeout n) s fun t => t = s.setTrack n.val
    { s.track n.val with st := .lost })
  -- channelLocked
  ∧ (∀ (s : State) (n : Fin 512), s.Up → (s.track n.val).st = .track → Gives (.channelLocked n) s fun t => t = s.setTrack n.val
    { s.track n.val with st := .locked, word := false })
  -- channelLoss
  ∧ (∀ (s : State) (n : Fin 512), s.Up → ((s.track n.val).st = .track ∨ (s.track n.val).st = .locked) → Gives (.channelLoss n) s fun t => t =
    s.setTrack n.val { s.track n.val with st := .lost })
  -- channelReacquired
  ∧ (∀ (s : State) (n : Fin 512), s.Up → (s.track n.val).st = .lost → Gives (.channelReacquired n) s fun t => t = s.setTrack n.val
    { s.track n.val with st := .pullIn })
  -- channelIdleTimeout
  ∧ (∀ (s : State) (n : Fin 512), s.Up → (s.track n.val).st = .lost → Gives (.channelIdleTimeout n) s fun t => t.rng.ch = AMap.del n.val
    s.rng.ch ∧ t.mode = s.mode)
  -- trackingLoopCommit
  ∧ (∀ (s : State) (g : Nat), s.Up → bits (s.rd Reg.RNG_LOOP_SEL) 0 8 = g → signalCodes.contains g = true → 4 ≤ s.sh (Reg.RNG_LOOP_CFG_PLL_BW
    g) ∧ s.sh (Reg.RNG_LOOP_CFG_PLL_BW g) ≤ 60 ∧ 1 ≤ s.sh (Reg.RNG_LOOP_CFG_FLL_BW g) ∧ s.sh (Reg.RNG_LOOP_CFG_FLL_BW g) ≤ 20 ∧ 5 ≤ s.sh
    (Reg.RNG_LOOP_CFG_DLL_BW g) ∧ s.sh (Reg.RNG_LOOP_CFG_DLL_BW g) ≤ 200 ∧ 2 ≤ s.sh (Reg.RNG_LOOP_CFG_SPACING g) ∧ s.sh
    (Reg.RNG_LOOP_CFG_SPACING g) ≤ 10 → tCohOk g (s.sh (Reg.RNG_LOOP_CFG_T_COH g)) = true → s.sh (Reg.RNG_LOOP_CFG_PLL_BW g) * s.sh
    (Reg.RNG_LOOP_CFG_T_COH g) ≤ 500 ∧ s.sh (Reg.RNG_LOOP_CFG_FLL_BW g) * s.sh (Reg.RNG_LOOP_CFG_T_COH g) ≤ 250 → Gives .trackingLoopCommit
    s fun t => t = s.commit (Reg.RNG_LOOP_COMMIT_RESULT g) [Reg.RNG_LOOP_CFG_PLL_BW g, Reg.RNG_LOOP_CFG_FLL_BW g, Reg.RNG_LOOP_CFG_DLL_BW g,
    Reg.RNG_LOOP_CFG_T_COH g, Reg.RNG_LOOP_CFG_SPACING g] St.done)

/-- Self-survey, the REF commit and the reference point. Each command completes (exec answers a next state) in every state that meets its
  hypotheses. In SURVEY, before the survey completes, a second with fewer than 5 satellites or an antenna fault only sets STATE to
  suspended. A counted second adds the position and, where it was fixed, the vector to the sums and shows ELAPSED and STATE 1, and from the
  first whole minute SIGMA, where the criteria are not met yet; where they are met, SURVEY_STATUS shows done, the position stored is
  surveyed, good and lies at the mean less PCO_UP, the vectors' mean is stored where no baseline was set and at least 80 % of the seconds
  were fixed, and the mode becomes HOSTED_IDLE under a host and PANTRY otherwise. A REF commit with an admissible position, baseline and
  criteria, outside the fleet modes, TWIN_STANDBY, REJOIN and UPDATE, stores the position as FIXED, ends DISTURBED, shows FAIL_RUN 0 and
  DONE, starts the drift watch anew and lets the station message go out; in SURVEY it also ends the survey. That the second within a survey
  before its first minute shows no SIGMA of the spec is log entry 4. Rests on parts of rules R205, R206, R207, R208, R210. -/
def Obligations.ReferenceAndSurvey : Prop :=
  -- surveySecond, suspended
  (∀ (s : State) (n : Byte) (x y z : Int) (vec : Option (Int × Int × Int)), s.Up → s.mode = .survey ∧ s.rd Reg.COR_SURVEY_STATUS_STATE ≠ 2 ∧
    s.rd Reg.COR_SURVEY_STATUS_STATE ≠ 3 → (n.toNat < 5 ∨ s.on Reg.RNG_STATUS_ANT_A_FLT = true) → Gives (.surveySecond n x y z vec) s fun t
    => t = s.wr Reg.COR_SURVEY_STATUS_STATE 1)
  -- surveySecond, counted
  ∧ (∀ (s : State) (n : Byte) (x y z : Int) (vec : Option (Int × Int × Int)) (w : Survey), s.Up → s.mode = .survey ∧ s.rd
    Reg.COR_SURVEY_STATUS_STATE ≠ 2 ∧ s.rd Reg.COR_SURVEY_STATUS_STATE ≠ 3 → 5 ≤ n.toNat ∧ s.on Reg.RNG_STATUS_ANT_A_FLT = false → w =
    ⟨s.cor.survey.n + 1, s.cor.survey.sx + x, s.cor.survey.sy + y, s.cor.survey.sz + z, s.cor.survey.sq + x * x + y * y + z * z, s.cor.survey.fix + (if vec.isSome then 1 else 0), s.cor.survey.se + (vec.getD (0, 0, 0)).1, s.cor.survey.sn + (vec.getD (0, 0, 0)).2.1, s.cor.survey.su + (vec.getD (0, 0, 0)).2.2⟩
    → (w.n < s.rd Reg.COR_SURVEY_CFG_MIN_TIME ∨ w.n < 60 ∨ w.within (s.rd Reg.COR_SURVEY_CFG_ACC_LIMIT * 100) = false) → Gives
    (.surveySecond n x y z vec) s fun t => t.cor.survey = w ∧ t.rd Reg.COR_SURVEY_STATUS_ELAPSED = min w.n 0xFFFF ∧ t.rd
    Reg.COR_SURVEY_STATUS_STATE = 1 ∧ (∀ g, w.sigma = some g → t.rd Reg.COR_SURVEY_STATUS_SIGMA = min g 0xFFF) ∧ (w.n = 86400 → t.on
    Reg.COR_FAULT_SURVEY_LONG = true) ∧ t.mode = .survey)
  -- surveySecond, the criteria met
  ∧ (∀ (s : State) (n : Byte) (x y z : Int) (vec : Option (Int × Int × Int)) (w : Survey), s.Up → s.mode = .survey ∧ s.rd
    Reg.COR_SURVEY_STATUS_STATE ≠ 2 ∧ s.rd Reg.COR_SURVEY_STATUS_STATE ≠ 3 → 5 ≤ n.toNat ∧ s.on Reg.RNG_STATUS_ANT_A_FLT = false ∧
    s.pwr.pfailLatched = false → w =
    ⟨s.cor.survey.n + 1, s.cor.survey.sx + x, s.cor.survey.sy + y, s.cor.survey.sz + z, s.cor.survey.sq + x * x + y * y + z * z, s.cor.survey.fix + (if vec.isSome then 1 else 0), s.cor.survey.se + (vec.getD (0, 0, 0)).1, s.cor.survey.sn + (vec.getD (0, 0, 0)).2.1, s.cor.survey.su + (vec.getD (0, 0, 0)).2.2⟩
    → s.rd Reg.COR_SURVEY_CFG_MIN_TIME ≤ w.n ∧ 60 ≤ w.n ∧ w.within (s.rd Reg.COR_SURVEY_CFG_ACC_LIMIT * 100) = true → Gives (.surveySecond n
    x y z vec) s fun t => t.cor.survey = w ∧ t.rd Reg.COR_SURVEY_STATUS_STATE = 2 ∧ t.mode = (if s.hre.claimed then .hostedIdle else
    .pantry) ∧ (∃ r, t.nvm.ref = some r ∧ r.good = true ∧ r.origin = 1 ∧ (r.x, r.y, r.z) = alongUp (wholeRatio w.sx w.n, wholeRatio w.sy
    w.n, wholeRatio w.sz w.n) (-(s.rd Reg.COR_REF_CFG_PCO_UP : Int)) ∧ (s.rd Reg.COR_BASE_E = 0 ∧ s.rd Reg.COR_BASE_N = 0 ∧ s.rd
    Reg.COR_BASE_U = 0 → w.fix ≠ 0 → 80 * w.n ≤ w.fix * 100 → (r.e, r.n, r.u) = (wholeRatio w.se w.fix, wholeRatio w.sn w.fix, wholeRatio
    w.su w.fix))))
  -- refCommit
  ∧ (∀ (s : State) (b : Int), s.Up → offEarth (signed 64 (s.sh Reg.COR_REF_X)) (signed 64 (s.sh Reg.COR_REF_Y)) (signed 64 (s.sh
    Reg.COR_REF_Z)) 63000000000 64000000000 = false → (b = len2 (signed 32 (s.sh Reg.COR_BASE_E)) (signed 32 (s.sh Reg.COR_BASE_N)) (signed
    32 (s.sh Reg.COR_BASE_U)) ∧ (b = 0 ∨ (5000 * 5000 ≤ b ∧ b ≤ 50000 * 50000))) → 60 ≤ s.sh Reg.COR_SURVEY_CFG_MIN_TIME ∧ 1 ≤ s.sh
    Reg.COR_SURVEY_CFG_ACC_LIMIT ∧ s.sh Reg.COR_SURVEY_CFG_ACC_LIMIT ≤ 500 → s.mode.fleet = false ∧ s.mode ≠ .twinStandby ∧ s.mode ≠ .rejoin
    ∧ s.mode ≠ .update ∧ s.pwr.pfailLatched = false → Gives .refCommit s fun t => t.nvm.ref = some
    ⟨signed 64 (s.sh Reg.COR_REF_X), signed 64 (s.sh Reg.COR_REF_Y), signed 64 (s.sh Reg.COR_REF_Z), 2, signed 32 (s.sh Reg.COR_BASE_E), signed 32 (s.sh Reg.COR_BASE_N), signed 32 (s.sh Reg.COR_BASE_U), true⟩
    ∧ t.rd Reg.COR_REF_COMMIT_RESULT = St.done ∧ t.rd Reg.COR_STATUS_DISTURBED = 0 ∧ t.rd Reg.COR_MON_RESULT_FAIL_RUN = 0 ∧ t.cor.station =
    true ∧ t.cor.driftRun = 0 ∧ t.cor.driftFrom = s.now.sec ∧ t.mode = (if s.mode = .survey then (if s.hre.claimed then .hostedIdle else
    .pantry) else s.mode))

/-- RTCM epochs, compact corrections and the RTCM commit. Each command completes (exec answers a next state) in every state that meets its
  hypotheses. In each epoch command, u is the state with chute 22 read and a commit that is due in force, the epoch time is the one
  `epochTime` gives it, w is u brought to that time with a commit then due in force and the epoch noted. An RTCM epoch shows RATE_CAPPED
  where the measurement rate is below RATE. Where the corrections are not served, DISTURBED stops them or outputs have stopped, it shows
  RTCM_ON clear and does nothing else. Where they are served it shows RTCM_ON; where the series came whole, the station messages due (1005
  or 1006, 1033, 1230), then the MSM messages of the enabled systems go by `deliverRtcm` to chute 26 and the clients; where it did not, it
  counts EPOCH_MISSED, sets its fault and keeps what was due. A compact epoch that is not served shows COMPACT_ON clear; one with no whole
  series only shows COMPACT_ON; one with a series builds the COMPACT_COR body from the blocks of `compactBlocks`, at most 35, with the
  station record when it is due, commits it to chute 27 and, where the frame can be formed, sends it with the next SEQ on the radio (none in
  REJOIN). An RTCM commit with admissible fields is DONE and waits for the next whole second. Rests on parts of rules R211, R213, R216,
  R222, R229. -/
def Obligations.RtcmAndCompact : Prop :=
  -- rtcmEpoch, not served
  (∀ (s u w : State) (l : List (Nat × Nat)) (τ : YTime), s.Up → u = s.baseReads.rtcmApply → τ = u.epochTime (ratePeriod (min (u.rd
    Reg.COR_RTCM_CFG_RATE) u.rng.rate)) u.cor.last → w =
    { (u.advance τ).rtcmApply with cor := { (u.advance τ).rtcmApply.cor with last := some τ } } → (w.corServes = false ∨ w.distStop = true ∨
    w.outputsStopped = true) → Gives (.rtcmEpoch l) s fun t => t = (w.wr Reg.COR_STATUS_RATE_CAPPED (bit (decide (w.rng.rate < w.rd
    Reg.COR_RTCM_CFG_RATE)))).wr Reg.COR_STATUS_RTCM_ON 0)
  -- rtcmEpoch, the series came whole
  ∧ (∀ (s u w x : State) (l : List (Nat × Nat)) (τ : YTime) (m : MeasSeries) (sta dsc bia : Bool), s.Up → u = s.baseReads.rtcmApply → τ =
    u.epochTime (ratePeriod (min (u.rd Reg.COR_RTCM_CFG_RATE) u.rng.rate)) u.cor.last → w =
    { (u.advance τ).rtcmApply with cor := { (u.advance τ).rtcmApply.cor with last := some τ } } → w.corServes = true ∧ w.distStop = false ∧
    w.outputsStopped = false → w.cor.seriesA = some m ∧ m.whole = true ∧ m.time = τ → x = (w.wr Reg.COR_STATUS_RATE_CAPPED (bit (decide
    (w.rng.rate < w.rd Reg.COR_RTCM_CFG_RATE)))).wr Reg.COR_STATUS_RTCM_ON 1 → sta = (w.cor.station || decide (w.rd
    Reg.COR_RTCM_CFG_STA_PERIOD ≠ 0 ∧ τ.ns = 0 ∧ τ.sec % w.rd Reg.COR_RTCM_CFG_STA_PERIOD = 0)) → dsc = (!w.cor.text.isEmpty && (w.cor.desc
    || decide (w.rd Reg.COR_RTCM_CFG_DESC_PERIOD ≠ 0 ∧ τ.ns = 0 ∧ τ.sec % w.rd Reg.COR_RTCM_CFG_DESC_PERIOD = 0))) → bia = ((w.rng.ch.any
    fun p => p.2.live && !p.2.antB && systemOf p.2.signal == 1) && (w.cor.bias || decide (w.rd Reg.COR_RTCM_CFG_BIAS_PERIOD ≠ 0 ∧ τ.ns = 0 ∧
    τ.sec % w.rd Reg.COR_RTCM_CFG_BIAS_PERIOD = 0))) → Gives (.rtcmEpoch l) s fun t => t = x.deliverRtcm τ.sec l ((if sta then
    x.nvm.ref.toList.map x.stationMsg else []) ++ (if dsc then [x.descMsg] else []) ++ (if bia then [x.biasMsg] else [])) ((msmMessages
    x.stationId (x.rd Reg.TIM_UTC % 65536) (x.rd Reg.COR_RTCM_CFG_SYS_EN) m).map fun y => (y.number, rtcmBytes y.content y.size)))
  -- rtcmEpoch, the series did not come
  ∧ (∀ (s u w x : State) (l : List (Nat × Nat)) (τ : YTime), s.Up → u = s.baseReads.rtcmApply → τ = u.epochTime (ratePeriod (min (u.rd
    Reg.COR_RTCM_CFG_RATE) u.rng.rate)) u.cor.last → w =
    { (u.advance τ).rtcmApply with cor := { (u.advance τ).rtcmApply.cor with last := some τ } } → w.corServes = true ∧ w.distStop = false ∧
    w.outputsStopped = false → w.seriesOf τ = none → x = (w.wr Reg.COR_STATUS_RATE_CAPPED (bit (decide (w.rng.rate < w.rd
    Reg.COR_RTCM_CFG_RATE)))).wr Reg.COR_STATUS_RTCM_ON 1 → Gives (.rtcmEpoch l) s fun t => t.rd Reg.COR_STATUS_RTCM_ON = 1 ∧ t.on
    Reg.COR_FAULT_EPOCH_MISSED = true ∧ t.chu = x.chu ∧ t.cor.clients = x.cor.clients ∧ t.mode = x.mode ∧ t.fld = ((x.bump
    Reg.COR_EPOCH_MISSED Reg.COR_FAULT_CNT_SAT).fault Reg.COR_FAULT_EPOCH_MISSED).fld ∧ t.cor.station = (w.cor.station || decide (w.rd
    Reg.COR_RTCM_CFG_STA_PERIOD ≠ 0 ∧ τ.ns = 0 ∧ τ.sec % w.rd Reg.COR_RTCM_CFG_STA_PERIOD = 0)))
  -- compactEpoch, not served
  ∧ (∀ (s u w : State) (τ : YTime), s.Up → u = s.baseReads.rtcmApply → τ = u.epochTime
    (match u.rd Reg.COR_COMPACT_CFG_CRATE with | 0 => 1000 | 1 => 500 | _ => 200) u.cor.lastC → w =
    { (u.advance τ).rtcmApply with cor := { (u.advance τ).rtcmApply.cor with lastC := some τ } } → (w.corServes = false ∨ w.on
    Reg.COR_COMPACT_CFG_C_EN = false ∨ w.on Reg.PIN_STRAP_STATUS_RADIO_ON = false ∨ w.distStop = true ∨ w.outputsStopped = true) → Gives
    .compactEpoch s fun t => t = w.wr Reg.COR_STATUS_COMPACT_ON 0)
  -- compactEpoch, the series did not come
  ∧ (∀ (s u w : State) (τ : YTime), s.Up → u = s.baseReads.rtcmApply → τ = u.epochTime
    (match u.rd Reg.COR_COMPACT_CFG_CRATE with | 0 => 1000 | 1 => 500 | _ => 200) u.cor.lastC → w =
    { (u.advance τ).rtcmApply with cor := { (u.advance τ).rtcmApply.cor with lastC := some τ } } → w.corServes = true ∧ w.on
    Reg.COR_COMPACT_CFG_C_EN = true ∧ w.on Reg.PIN_STRAP_STATUS_RADIO_ON = true ∧ w.distStop = false ∧ w.outputsStopped = false → w.seriesOf
    τ = none → Gives .compactEpoch s fun t => t = w.wr Reg.COR_STATUS_COMPACT_ON 1)
  -- compactEpoch, sent
  ∧ (∀ (s u w x y z : State) (τ : YTime) (m : MeasSeries) (b : List Nat) (k : Bool), s.Up → u = s.baseReads.rtcmApply → τ = u.epochTime
    (match u.rd Reg.COR_COMPACT_CFG_CRATE with | 0 => 1000 | 1 => 500 | _ => 200) u.cor.lastC → w =
    { (u.advance τ).rtcmApply with cor := { (u.advance τ).rtcmApply.cor with lastC := some τ } } → w.corServes = true ∧ w.on
    Reg.COR_COMPACT_CFG_C_EN = true ∧ w.on Reg.PIN_STRAP_STATUS_RADIO_ON = true ∧ w.distStop = false ∧ w.outputsStopped = false →
    w.cor.seriesA = some m ∧ m.whole = true ∧ m.time = τ → x = w.wr Reg.COR_STATUS_COMPACT_ON 1 → y = (if 35 < (x.compactBlocks m).length
    then (x.bump Reg.COR_COMPACT_TRUNC Reg.COR_FAULT_CNT_SAT).fault Reg.COR_FAULT_COMPACT_TRUNC else x) → k = (decide (max 1 (y.rd
    Reg.COR_COMPACT_CFG_POS_EVERY) ≤ y.cor.frames + 1) && y.nvm.ref.isSome) → b = [min 35 (x.compactBlocks m).length, bit k + 2 * bits
    m.flags 1 1] ++ le 2 y.stationId ++ le 4 (gpsMs τ % 604800000) ++ le 2 (gpsMs τ / 604800000) ++ le 2 0 ++ (if k then y.stationRecord
    else []) ++ ((x.compactBlocks m).take 35).flatten → z =
    { y.send 27 0 (0x04 :: b) with cor := { (y.send 27 0 (0x04 :: b)).cor with frames := if k then 0 else (y.send 27 0 (0x04 :: b)).cor.frames + 1 } }
    → Gives .compactEpoch s fun t => (∀ f, z.frame 0x17 255 broadcastId z.zyp.unitBoot z.zyp.seqCor (z.keyOf 5) b = some f → z.mode ≠
    .rejoin → t = ({ z with zyp := { z.zyp with seqCor := z.zyp.seqCor + 1 } }).sendRadio 4 f) ∧ (z.frame 0x17 255 broadcastId
    z.zyp.unitBoot z.zyp.seqCor (z.keyOf 5) b = none → t = z))
  -- rtcmCommit
  ∧ (∀ (s u : State), s.Up → u = s.rtcmApply → u.sh Reg.COR_RTCM_CFG_RATE ≤ 4 → u.sh Reg.COR_RTCM_CFG_SYS_EN ≠ 0 ∧ u.sh
    Reg.COR_COMPACT_CFG_C_SYS ≠ 0 ∧ u.sh Reg.COR_RTCM_CFG_STA_PERIOD ≠ 0 → 4 ≤ u.sh Reg.COR_COMPACT_CFG_MAX_SV ∧ u.sh
    Reg.COR_COMPACT_CFG_MAX_SV ≤ 48 ∧ u.sh Reg.COR_COMPACT_CFG_POS_EVERY ≠ 0 → ((u.sh Reg.COR_COMPACT_CFG_CRATE = 0 ∧ ratePeriod u.rng.rate
    ≤ 1000) ∨ (u.sh Reg.COR_COMPACT_CFG_CRATE = 1 ∧ ratePeriod u.rng.rate ≤ 500) ∨ (u.sh Reg.COR_COMPACT_CFG_CRATE = 2 ∧ ratePeriod
    u.rng.rate ≤ 200)) → Gives .rtcmCommit s fun t => t =
    ({ u with cor := { u.cor with rtcmAt := some (u.now.sec + 1, rtcmGroup.map u.sh) } }).wr Reg.COR_RTCM_COMMIT_RESULT St.done)

/-- The caster's tables, requests, clients and commit. Each command completes (exec answers a next state) in every state that meets its
  hypotheses. A STATION_TEXT of 64 bytes with two well-formed texts keeps them and completes DONE. A CASTER_TABLE whose length agrees with
  its counts and which breaks no field rule puts exactly its mount points and users (each verifier the HMAC of the password under the key of
  slot 7) in force, closes the clients whose mount point or user is gone and completes DONE; one of another length completes BAD_LENGTH. On
  a LAN where the caster listens, a request that is too long closes the connection uncounted as refused (COR_CLIENT_CLOSED counts), one from
  a locked-out source counts AUTH_FAIL, one that is no GET and a v1 one while V1_EN is clear are answered 405 (nothing under v1) and 400,
  one whose path names no mount point by the sourcetable, one while corrections are not served by 503, one whose credentials fail by 401
  with the failure counted, one above the client limit by 503 counted in COR_CLIENT_REFUSED, and any other connects a client (200, or ICY
  200 for v1) with the kept messages in its backlog. A request that times out counts in COR_CLIENT_CLOSED and is answered nothing. A lockout
  ends; a client with a backlog is closed at its time-out. A CASTER commit that moves the port closes every client; one that keeps it keeps
  only the earliest clients within the limit. Rests on parts of rules R217, R218, R219, R220, R221, R230. -/
def Obligations.CasterService : Prop :=
  -- stationText
  (∀ (s : State) (c : Cmd) (d : List Byte), s.Up → s.Accepts c .dataIn → c.desc.length = 64 → textOk 31 (slice d 0 32) = true ∧ textOk 31
    (slice d 32 32) = true → Gives (.stationText c d) s fun t => t.cor.text = d.take 64 ∧ t.Completed c St.done 64 0 ∧ t.mode = s.mode)
  -- casterTable, of the wrong length
  ∧ (∀ (s : State) (c : Cmd) (d : List Byte), s.Up → s.Accepts c .dataIn → (c.desc.length.toNat < 16 ∨ c.desc.length.toNat ≠ 16 + 32 * (d.getD
    1 0).toNat + 64 * ((d.getD 2 0).toNat + 256 * (d.getD 3 0).toNat)) → Gives (.casterTable c d) s fun t => t = (s.begun c).finish c
    St.badLength 0 0)
  -- casterTable
  ∧ (∀ (s : State) (c : Cmd) (d : List Byte) (k m u : Nat), s.Up → s.Accepts c .dataIn → m = (d.getD 1 0).toNat ∧ u = (d.getD 2 0).toNat + 256
    * (d.getD 3 0).toNat → c.desc.length.toNat = 16 + 32 * m + 64 * u → s.tableBad d m u = false → (s.begun c).keyOf 7 = some k → Gives
    (.casterTable c d) s fun t => t.cor.mounts = ((List.range m).map fun i =>
    ⟨unpad (slice d (16 + 32 * i) 24), (d.getD (40 + 32 * i) 0).toNat, (d.getD (41 + 32 * i) 0).toNat⟩) ∧ t.cor.users = ((List.range u).map
    fun i =>
    ⟨unpad (slice d (16 + 32 * m + 64 * i) 24), hmacBytes k ((unpad (slice d (16 + 32 * m + 64 * i + 24) 32)).map BitVec.toNat), (d.getD (16 + 32 * m + 64 * i + 56) 0).toNat⟩)
    ∧ t.cor.clients = s.cor.clients.filter (fun x => !(!(t.cor.mounts.any fun y => y.name == x.mount) ||
    (match x.user with | some n => !(t.cor.users.any fun y => y.name == n) | none => false))) ∧ t.Completed c St.done (16 + 32 * m + 64 * u)
    0 ∧ t.mode = s.mode)
  -- casterRequest, too long
  ∧ (∀ (s : State) (q : CastReq), s.Up → s.listens q.lanB = true → q.tooLong = true → Gives (.casterRequest q) s fun t => t = (s.bump
    Reg.COR_CLIENT_CLOSED Reg.COR_FAULT_CNT_SAT).answered 0)
  -- casterRequest, from a locked-out source
  ∧ (∀ (s : State) (q : CastReq), s.Up → s.listens q.lanB = true → q.tooLong = false ∧ s.cor.lockout.contains q.addr.toNat = true → Gives
    (.casterRequest q) s fun t => t = ((s.bump Reg.COR_AUTH_FAIL Reg.COR_FAULT_CNT_SAT).fault Reg.COR_FAULT_AUTH_FAIL).answered 0)
  -- casterRequest, no GET
  ∧ (∀ (s : State) (q : CastReq), s.Up → s.listens q.lanB = true → q.tooLong = false ∧ s.cor.lockout.contains q.addr.toNat = false ∧ q.isGet =
    false → Gives (.casterRequest q) s fun t => t = (s.bump Reg.COR_CLIENT_CLOSED Reg.COR_FAULT_CNT_SAT).answered (if q.v2 then 405 else 0))
  -- casterRequest, v1 while V1_EN is clear
  ∧ (∀ (s : State) (q : CastReq), s.Up → s.listens q.lanB = true → q.tooLong = false ∧ s.cor.lockout.contains q.addr.toNat = false ∧ q.isGet =
    true ∧ q.v2 = false ∧ s.on Reg.COR_CASTER_CFG_V1_EN = false → Gives (.casterRequest q) s fun t => t = s.answered 400)
  -- casterRequest, the path names no mount
  ∧ (∀ (s : State) (q : CastReq), s.Up → s.listens q.lanB = true → (q.tooLong = false ∧ s.cor.lockout.contains q.addr.toNat = false ∧ q.isGet
    = true ∧ (q.v2 = true ∨ s.on Reg.COR_CASTER_CFG_V1_EN = true)) → s.cor.mounts.findIdx? (fun m => m.name == q.path) = none → Gives
    (.casterRequest q) s fun t => t.cor.table = ((s.cor.mounts.zip (List.range s.cor.mounts.length)).map fun x => s.strEntry x.1 x.2) ∧
    t.cor.answer = 1 ∧ t.cor.clients = s.cor.clients ∧ t.mode = s.mode)
  -- casterRequest, corrections are not served
  ∧ (∀ (s : State) (q : CastReq) (i : Nat), s.Up → s.listens q.lanB = true → (q.tooLong = false ∧ s.cor.lockout.contains q.addr.toNat = false
    ∧ q.isGet = true ∧ (q.v2 = true ∨ s.on Reg.COR_CASTER_CFG_V1_EN = true)) → s.cor.mounts.findIdx? (fun m => m.name == q.path) = some i ∧
    s.corServes = false → Gives (.casterRequest q) s fun t => t = s.answered 503)
  -- casterRequest, the credentials fail
  ∧ (∀ (s : State) (q : CastReq) (i : Nat), s.Up → s.listens q.lanB = true → (q.tooLong = false ∧ s.cor.lockout.contains q.addr.toNat = false
    ∧ q.isGet = true ∧ (q.v2 = true ∨ s.on Reg.COR_CASTER_CFG_V1_EN = true)) → s.cor.mounts.findIdx? (fun m => m.name == q.path) = some i ∧
    s.corServes = true → s.credentials q i = none → Gives (.casterRequest q) s fun t => t = (s.authFailed q.addr.toNat).answered 401)
  -- casterRequest, at the client limit
  ∧ (∀ (s : State) (q : CastReq) (i : Nat) (u : Option (List Byte)), s.Up → s.listens q.lanB = true → (q.tooLong = false ∧
    s.cor.lockout.contains q.addr.toNat = false ∧ q.isGet = true ∧ (q.v2 = true ∨ s.on Reg.COR_CASTER_CFG_V1_EN = true)) →
    s.cor.mounts.findIdx? (fun m => m.name == q.path) = some i ∧ s.corServes = true → s.credentials q i = some u → s.clientLimit ≤
    s.cor.clients.length → Gives (.casterRequest q) s fun t => t = ((s.bump Reg.COR_CLIENT_REFUSED Reg.COR_FAULT_CNT_SAT).fault
    Reg.COR_FAULT_CLIENT_REFUSED).answered 503)
  -- casterRequest, a client is connected
  ∧ (∀ (s : State) (q : CastReq) (i : Nat) (u : Option (List Byte)), s.Up → s.listens q.lanB = true → (q.tooLong = false ∧
    s.cor.lockout.contains q.addr.toNat = false ∧ q.isGet = true ∧ (q.v2 = true ∨ s.on Reg.COR_CASTER_CFG_V1_EN = true)) →
    s.cor.mounts.findIdx? (fun m => m.name == q.path) = some i ∧ s.corServes = true → s.credentials q i = some u → s.cor.clients.length <
    s.clientLimit → Gives (.casterRequest q) s fun t => t.cor.clients = s.cor.clients ++
    [⟨s.cor.nextId, q.lanB, q.addr.toNat, u, !q.v2, q.path, framed (!q.v2) (s.cor.sent.flatMap Prod.snd)⟩] ∧ t.cor.answer = (if q.v2 then
    200 else 2) ∧ t.cor.nextId = s.cor.nextId + 1 ∧ t.mode = s.mode)
  -- casterRequestTimeout
  ∧ (∀ (s : State), s.Up → Gives .casterRequestTimeout s fun t => t = (s.bump Reg.COR_CLIENT_CLOSED Reg.COR_FAULT_CNT_SAT).answered 0 ∧
    t.cor.answer = 0 ∧ t.cor.clients = s.cor.clients)
  -- lockoutExpire
  ∧ (∀ (s : State) (a : Word), s.Up → Gives (.lockoutExpire a) s fun t => t =
    { s with cor := { s.cor with lockout := s.cor.lockout.filter (· != a.toNat) } })
  -- clientBacklogTimeout
  ∧ (∀ (s : State) (id : Nat), s.Up → Gives (.clientBacklogTimeout id) s fun t => t.cor.clients = s.cor.clients.filter (fun c => !(c.id == id
    && !c.backlog.isEmpty)) ∧ t.mode = s.mode)
  -- casterCommit, a new port
  ∧ (∀ (s : State), s.Up → s.sh Reg.COR_CASTER_CFG_PORT ≠ 0 ∧ s.sh Reg.COR_CASTER_CFG_PORT ≠ s.rd Reg.COR_CASTER_CFG_PORT → (s.sh
    Reg.COR_CASTER_CFG_MAX_CLIENTS ≤ 256 ∧ (s.sh Reg.COR_CASTER_CFG_LAN_A_EN ≠ 0 ∨ s.sh Reg.COR_CASTER_CFG_LAN_B_EN ≠ 0)) → Gives
    .casterCommit s fun t => t.cor.clients = [] ∧ t.rd Reg.COR_CASTER_COMMIT_RESULT = St.done ∧ t.rd Reg.COR_CASTER_CFG_PORT = s.sh
    Reg.COR_CASTER_CFG_PORT % 2 ^ Reg.COR_CASTER_CFG_PORT.w)
  -- casterCommit, the same port
  ∧ (∀ (s x : State), s.Up → s.sh Reg.COR_CASTER_CFG_PORT ≠ 0 ∧ s.sh Reg.COR_CASTER_CFG_PORT = s.rd Reg.COR_CASTER_CFG_PORT → (s.sh
    Reg.COR_CASTER_CFG_MAX_CLIENTS ≤ 256 ∧ (s.sh Reg.COR_CASTER_CFG_LAN_A_EN ≠ 0 ∨ s.sh Reg.COR_CASTER_CFG_LAN_B_EN ≠ 0)) → x = s.commit
    Reg.COR_CASTER_COMMIT_RESULT [Reg.COR_CASTER_CFG_PORT, Reg.COR_CASTER_CFG_MAX_CLIENTS, Reg.COR_CASTER_CFG_V1_EN,
    Reg.COR_CASTER_CFG_LAN_A_EN, Reg.COR_CASTER_CFG_LAN_B_EN] St.done → Gives .casterCommit s fun t => t = x.closeClients fun c =>
    !((x.cor.clients.take x.clientLimit).map (·.id)).contains c.id)

/-- The monitor, the drift check, DIST_CLEAR and the MONITOR commit. Each command completes (exec answers a next state) in every state that
  meets its hypotheses. A monitor run, where the monitor is enabled, a baseline is set and the mode lets it run, shows the RESULT code c
  that `monitorCode` gives for the satellites common to both series and the vector (PASS, FAIL, NO_FIX, NO_DATA); FAIL_RUN counts up to 255
  on FAIL, is 0 on PASS and stands otherwise; on PASS and FAIL it shows DEV; the runs of PASS and of no result count; a FAIL that reaches
  PERSIST leaves DISTURBED set, a PASS leaves MON_DEGRADED clear, and 60 runs without a result leave it set. A drift check with a stored
  position, an enabled monitor and 10 minutes since the drift watch began shows the distance in units of 10 mm, counts the runs beyond
  DRIFT_LIM, and at the second leaves DISTURBED set. DIST_CLEAR clears DISTURBED and answers DONE when its conditions hold and answers
  CONFLICT, changing nothing else, when they do not. A MONITOR commit with admissible fields moves the group at once and clears FAIL_RUN.
  Rests on parts of rules R223, R224, R225, R226, R230. -/
def Obligations.IntegrityMonitor : Prop :=
  -- monitorRun
  (∀ (s u : State) (vec : Option (Int × Int × Int)) (k : Option Nat) (c : Nat), s.Up → u = s.baseReads → u.monitorRuns = true ∧ u.on
    Reg.COR_MON_CFG_MON_EN = true ∧ u.on Reg.COR_STATUS_BASELINE_SET = true → k = u.bothSeries.map (fun x => commonSats x.1 x.2) ∧ c =
    u.monitorCode k vec → Gives (.monitorRun vec) s fun t => t.rd Reg.COR_MON_RESULT_RESULT = c ∧ t.rd Reg.COR_MON_RESULT_FAIL_RUN = (if c =
    1 then min 255 (u.rd Reg.COR_MON_RESULT_FAIL_RUN + 1) else if c = 0 then 0 else u.rd Reg.COR_MON_RESULT_FAIL_RUN) ∧ (c ≤ 1 → ∀ v, vec =
    some v → t.rd Reg.COR_MON_RESULT_DEV = min 0xFFFF (isqrt (len2 v.1 v.2.1 v.2.2).toNat)) ∧ t.cor.passRun = (if c = 0 then u.cor.passRun +
    1 else 0) ∧ t.cor.blankRun = (if c ≥ 2 then u.cor.blankRun + 1 else 0) ∧ (c = 1 → u.rd Reg.COR_MON_CFG_PERSIST ≤ min 255 (u.rd
    Reg.COR_MON_RESULT_FAIL_RUN + 1) → t.on Reg.COR_STATUS_DISTURBED = true) ∧ (c = 0 → t.rd Reg.COR_STATUS_MON_DEGRADED = 0) ∧ (2 ≤ c → 59
    ≤ u.cor.blankRun → t.on Reg.COR_STATUS_MON_DEGRADED = true) ∧ t.mode = u.mode)
  -- driftCheck
  ∧ (∀ (s : State) (x y z : Int) (r : RefRec) (p : Int × Int × Int) (d : Nat), s.Up → s.monitorRuns = true ∧ s.on Reg.COR_MON_CFG_MON_EN =
    true ∧ s.cor.driftFrom + 600 ≤ s.now.sec → s.nvm.ref = some r → p = alongUp (x, y, z) (-(s.rd Reg.COR_REF_CFG_PCO_UP : Int)) ∧ (d : Int)
    = len2 (p.1 - r.x) (p.2.1 - r.y) (p.2.2 - r.z) → Gives (.driftCheck x y z) s fun t => t.rd Reg.COR_MON_DRIFT = min 0xFFFF (isqrt d /
    100) ∧ t.cor.driftRun = (if (s.rd Reg.COR_MON_CFG_DRIFT_LIM * 100) * (s.rd Reg.COR_MON_CFG_DRIFT_LIM * 100) < d then s.cor.driftRun + 1
    else 0) ∧ ((s.rd Reg.COR_MON_CFG_DRIFT_LIM * 100) * (s.rd Reg.COR_MON_CFG_DRIFT_LIM * 100) < d → 1 ≤ s.cor.driftRun → t.on
    Reg.COR_STATUS_DISTURBED = true) ∧ t.mode = s.mode)
  -- distClear
  ∧ (∀ (s : State), s.Up → s.rd Reg.COR_MON_CFG_PERSIST ≤ s.cor.passRun → s.cor.driftOk = true → Gives .distClear s fun t => t.rd
    Reg.COR_STATUS_DISTURBED = 0 ∧ t.rd Reg.COR_MON_CTRL_RESULT = St.done ∧ t.cor = s.cor ∧ t.mode = s.mode)
  -- distClear, its conditions do not hold
  ∧ (∀ (s : State), s.Up → (s.cor.passRun < s.rd Reg.COR_MON_CFG_PERSIST ∨ s.cor.driftOk = false) → Gives .distClear s fun t => t = s.wr
    Reg.COR_MON_CTRL_RESULT St.conflict)
  -- monitorCommit
  ∧ (∀ (s : State), s.Up → 2 ≤ s.sh Reg.COR_MON_CFG_DEV_LIM ∧ s.sh Reg.COR_MON_CFG_DEV_LIM ≤ 100 ∧ 1 ≤ s.sh Reg.COR_MON_CFG_PERSIST ∧ s.sh
    Reg.COR_MON_CFG_PERSIST ≤ 60 ∧ 10 ≤ s.sh Reg.COR_MON_CFG_DRIFT_LIM ∧ s.sh Reg.COR_MON_CFG_DRIFT_LIM ≤ 1000 → Gives .monitorCommit s fun
    t => t = (s.commit Reg.COR_MON_COMMIT_RESULT [Reg.COR_MON_CFG_DEV_LIM, Reg.COR_MON_CFG_PERSIST, Reg.COR_MON_CFG_DRIFT_LIM,
    Reg.COR_MON_CFG_DIST_STOP, Reg.COR_MON_CFG_MON_EN] St.done).wr Reg.COR_MON_RESULT_FAIL_RUN 0)

/-- The Central RTK Engine's base series and OBS intake. Each command completes (exec answers a next state) in every state that meets its
  hypotheses. The next packet of chute 23, if it is of antenna A and completes its series, is kept with the series before it, 40 at most,
  and BASE_OK shows whether the reference is valid; one that continues a series is kept open; one whose part does not follow drops the open
  series; one of antenna B is only taken. The OBS at the head of its chute meets the checks with the filters' mode shown: refused with
  REFUSED_MODE while the filters do not run, STALE where the sender does not hold the local ID, BAD_FORMAT, BAD_LENGTH, BAD_FORMAT for the
  wrong phase and STALE for one not newer than the last or too old, each with its counter (`refuseObs`); one that passes and has one part is
  queued, marks the robot ACTIVE and counts; a first part of two is held; the second that agrees with the held one joins it in part order
  and the whole is queued. A held part whose time is over is dropped and counted; an epoch without a base in time goes on with none, clears
  BASE_OK and raises the fault; where the robot is ACTIVE, a filter gap clears ACTIVE and resets its filter. Rests on parts of rules R231,
  R235, R236, R237, R243, R256. -/
def Obligations.CentralIntake : Prop :=
  -- baseSeriesIntake, a whole series
  (∀ (s : State) (p : Packet) (m : MeasSeries), s.Up → s.nextPacket 23 = some p ∧ p.bytes.getD 1 0 = 0 → takePart s.cre.opened p.bytes =
    some m ∧ m.whole = true → Gives .baseSeriesIntake s fun t => t.cre.series = (m :: s.cre.series).take 40 ∧ t.cre.opened = none ∧ t.rd
    Reg.CRE_STATUS_BASE_OK = bit s.refValid ∧ t.chu = (s.takeAny 23).chu ∧ t.mode = s.mode)
  -- baseSeriesIntake, a part before the last
  ∧ (∀ (s : State) (p : Packet) (m : MeasSeries), s.Up → s.nextPacket 23 = some p ∧ p.bytes.getD 1 0 = 0 → takePart s.cre.opened p.bytes =
    some m ∧ m.whole = false → Gives .baseSeriesIntake s fun t => t = { s.takeAny 23 with cre := { s.cre with opened := some m } })
  -- baseSeriesIntake, a part that does not follow
  ∧ (∀ (s : State) (p : Packet), s.Up → s.nextPacket 23 = some p ∧ p.bytes.getD 1 0 = 0 → takePart s.cre.opened p.bytes = none → Gives
    .baseSeriesIntake s fun t => t = { s.takeAny 23 with cre := { s.cre with opened := none } })
  -- baseSeriesIntake, of antenna B
  ∧ (∀ (s : State) (p : Packet), s.Up → s.nextPacket 23 = some p ∧ p.bytes.getD 1 0 ≠ 0 → Gives .baseSeriesIntake s fun t => t = s.takeAny 23)
  -- creObsIntake, the checks
  ∧ (∀ (s u : State) (k : Fin 4) (age : Word) (p : Packet), s.Up → s.nextPacket (28 + k.val) = some p ∧ u = (s.takeAny (28 +
    k.val)).showCreRuns → Gives (.creObsIntake k age) s fun t => (u.creRuns = false → t = u.refuseObs (obsFrame p) St.refusedMode
    Reg.CRE_REF_MODE) ∧ (u.creRuns = true → (∀ r, AMap.find (obsFrame p).lid u.zyp.roster = some r → r.fed ≠ (obsFrame p).fed) → t =
    u.refuseObs (obsFrame p) St.stale Reg.CRE_REF_STALE) ∧ (∀ r, u.creRuns = true → AMap.find (obsFrame p).lid u.zyp.roster = some r → r.fed
    = (obsFrame p).fed → (obsBad (obsFrame p).body (obsFrame p).radio = true → t = u.refuseObs (obsFrame p) St.badFormat Reg.CRE_REF_FORMAT)
    ∧ (obsBad (obsFrame p).body (obsFrame p).radio = false → (blocksBad (obsFrame p).body (obsLe (obsFrame p).body 2 1) 32).2 ≠ (obsFrame
    p).body.length → t = u.refuseObs (obsFrame p) St.badLength Reg.CRE_REF_LENGTH) ∧ (obsBad (obsFrame p).body (obsFrame p).radio = false →
    (blocksBad (obsFrame p).body (obsLe (obsFrame p).body 2 1) 32).2 = (obsFrame p).body.length → (obsPart (obsFrame p)).tow % 100 ≠ 50 *
    ((obsFrame p).lid % 2) → t = u.refuseObs (obsFrame p) St.badFormat Reg.CRE_PHASE_WRONG) ∧ (obsBad (obsFrame p).body (obsFrame p).radio =
    false → (blocksBad (obsFrame p).body (obsLe (obsFrame p).body 2 1) 32).2 = (obsFrame p).body.length → (obsPart (obsFrame p)).tow % 100 =
    50 * ((obsFrame p).lid % 2) → u.rd Reg.CRE_INTAKE_CFG_AGE_MAX < age.toNat → t = u.refuseObs (obsFrame p) St.stale Reg.CRE_REF_STALE)))
  -- creObsIntake, of one part
  ∧ (∀ (s u : State) (k : Fin 4) (age : Word) (p : Packet) (f : ObsFrame) (e : ObsEpoch) (r : RosterEnt), s.Up → s.nextPacket (28 + k.val) =
    some p ∧ u = (s.takeAny (28 + k.val)).showCreRuns → u.creRuns = true ∧ f = obsFrame p ∧ e = obsPart f → AMap.find f.lid u.zyp.roster =
    some r ∧ r.fed = f.fed ∧ obsBad f.body f.radio = false ∧ (blocksBad f.body (obsLe f.body 2 1) 32).2 = f.body.length → (e.tow % 100 = 50
    * (f.lid % 2) ∧ age.toNat ≤ u.rd Reg.CRE_INTAKE_CFG_AGE_MAX ∧ (∀ l, (u.filt f.lid).last = some l → gpsLater (e.week, e.tow) l = true)) →
    (u.filt e.lid).held = none ∧ e.parts = 1 → Gives (.creObsIntake k age) s fun t => t = u.acceptObs e ∧ t.cre.queue = s.cre.queue ++ [e] ∧
    t.rd (Reg.CRE_ROBOT_ACTIVE e.lid) = 1 ∧ t.mode = s.mode)
  -- creObsIntake, the first part of two
  ∧ (∀ (s u : State) (k : Fin 4) (age : Word) (p : Packet) (f : ObsFrame) (e : ObsEpoch) (r : RosterEnt), s.Up → s.nextPacket (28 + k.val) =
    some p ∧ u = (s.takeAny (28 + k.val)).showCreRuns → u.creRuns = true ∧ f = obsFrame p ∧ e = obsPart f → AMap.find f.lid u.zyp.roster =
    some r ∧ r.fed = f.fed ∧ obsBad f.body f.radio = false ∧ (blocksBad f.body (obsLe f.body 2 1) 32).2 = f.body.length → (e.tow % 100 = 50
    * (f.lid % 2) ∧ age.toNat ≤ u.rd Reg.CRE_INTAKE_CFG_AGE_MAX ∧ (∀ l, (u.filt f.lid).last = some l → gpsLater (e.week, e.tow) l = true)) →
    (u.filt e.lid).held = none ∧ e.parts ≠ 1 → Gives (.creObsIntake k age) s fun t => t = u.setFilt e.lid
    { u.filt e.lid with held := some e })
  -- creObsIntake, the part that completes it
  ∧ (∀ (s u : State) (k : Fin 4) (age : Word) (p : Packet) (f : ObsFrame) (e g : ObsEpoch) (r : RosterEnt), s.Up → s.nextPacket (28 + k.val) =
    some p ∧ u = (s.takeAny (28 + k.val)).showCreRuns → u.creRuns = true ∧ f = obsFrame p ∧ e = obsPart f → AMap.find f.lid u.zyp.roster =
    some r ∧ r.fed = f.fed ∧ obsBad f.body f.radio = false ∧ (blocksBad f.body (obsLe f.body 2 1) 32).2 = f.body.length → (e.tow % 100 = 50
    * (f.lid % 2) ∧ age.toNat ≤ u.rd Reg.CRE_INTAKE_CFG_AGE_MAX ∧ (∀ l, (u.filt f.lid).last = some l → gpsLater (e.week, e.tow) l = true)) →
    (u.filt e.lid).held = some g ∧ e.week = g.week ∧ e.tow = g.tow ∧ partsAgree g e = true ∧ e.part ≠ g.part → Gives (.creObsIntake k age) s
    fun t => t = u.acceptObs { e with sigs := if g.part < e.part then g.sigs ++ e.sigs else e.sigs ++ g.sigs })
  -- partHoldTimeout
  ∧ (∀ (s : State) (n : Fin 256) (e : ObsEpoch), s.Up → (s.filt n.val).held = some e → Gives (.partHoldTimeout n) s fun t => t = (s.setFilt
    n.val { s.filt n.val with held := none }).dropPart ∧ (t.filt n.val).held = none ∧ t.on Reg.CRE_FAULT_PART_LOST = true ∧ t.mode = s.mode)
  -- basePairTimeout
  ∧ (∀ (s : State) (n : Fin 256) (e : ObsEpoch), s.Up → s.cre.queue.find? (fun e => e.lid == n.val && !e.noBase) = some e → s.paired e = false
    → Gives (.basePairTimeout n) s fun t => t.cre.queue = s.cre.queue.map (fun x => if x = e then { x with noBase := true } else x) ∧ t.rd
    Reg.CRE_STATUS_BASE_OK = 0 ∧ t.on Reg.CRE_FAULT_NO_BASE = true ∧ t.mode = s.mode)
  -- filterGapReset
  ∧ (∀ (s : State) (n : Fin 256), s.Up → s.on (Reg.CRE_ROBOT_ACTIVE n.val) = true → Gives (.filterGapReset n) s fun t => t = (s.wr
    (Reg.CRE_ROBOT_ACTIVE n.val) 0).creReset n.val ∧ (t.filt n.val) = (s.filt n.val).cleared ∧ t.mode = s.mode)

/-- Robot epochs, filter commands and the FILTER, FRAME and XCHK commits. Each command completes (exec answers a next state) in every state that
  meets its hypotheses. A robot epoch completes at the head of the queue while the filters run, once it has its base series or has timed out
  without one: it leaves the queue, an uncorrectable state block resets the filter first and is a fault, a corrected one counts, `solve`
  gives the solution and the filter after it, the counters follow (`countEpoch`), CRE_ROBOT shows fix state, satellites and fixed
  ambiguities, and where records are published the cross-check and the record to chutes 32 and 33 follow (`publish`), then the resets that
  waited. ROBOT_RESET of one robot resets its filter, or after its robot epoch, and one of all does so for each; STATE_READ gives the
  robot's state block to the host; all complete DONE. Admissible FILTER, FRAME and XCHK commits are live, FRAME (outside the fleet modes,
  TWIN_STANDBY and REJOIN) setting FRAME_SET and XCHK clearing the persistence counts. Rests on parts of rules R244, R247, R250, R257, R258. -/
def Obligations.CentralResultsAndCommits : Prop :=
  -- robotEpochComplete
  (∀ (s q x y : State) (ecc : Ecc) (eph : List EphSat) (done : YTime) (us : Word) (e : ObsEpoch) (rest : List ObsEpoch) (r : Solution ×
    Filt), s.Up → s.cre.queue = e :: rest ∧ s.creRuns = true → (e.noBase = true ∨ s.paired e = true) → q =
    ({ s with cre := { s.cre with queue := rest } }).showCreRuns → x = (if ecc = .uncorrectable then (q.creReset e.lid).fault
    Reg.CRE_FAULT_STATE_ECC else if ecc = .corrected then q.wrapBy Reg.MEM_ECC_CORR 1 else q) → r = x.solve (x.filt e.lid) e eph → y =
    (((((x.countEpoch r.1).setFilt e.lid r.2).wr (Reg.CRE_ROBOT_FIX e.lid) r.2.fix.code).wr (Reg.CRE_ROBOT_SATS e.lid) r.1.sats).wr
    (Reg.CRE_ROBOT_AMB_FIXED e.lid) r.1.amb).showCre → Gives (.robotEpochComplete ecc eph done us) s fun t => t = (if y.crePublishes then
    y.publish e r.1 r.2.fix.code done us.toNat else y).creDue e.lid)
  -- robotReset, of one robot
  ∧ (∀ (s : State) (c : Cmd), s.Up → s.Accepts c .command → c.desc.length = 0 ∧ bits c.desc.p0.toNat 8 24 = 0 → Gives (.robotReset c) s fun t
    => t = ((s.begun c).creLater (bits c.desc.p0.toNat 0 8) false).finish c St.done 0 0 ∧ (s.inEpoch (bits c.desc.p0.toNat 0 8) = false → t
    = ((s.begun c).creReset (bits c.desc.p0.toNat 0 8)).finish c St.done 0 0))
  -- robotReset, of every robot
  ∧ (∀ (s : State) (c : Cmd), s.Up → s.Accepts c .command → c.desc.length = 0 ∧ bits c.desc.p0.toNat 9 23 = 0 ∧ bits c.desc.p0.toNat 8 1 = 1 →
    Gives (.robotReset c) s fun t => t = ((List.range 256).foldl (fun (u : State) n => u.creLater n false) (s.begun c)).finish c St.done 0
    0)
  -- stateRead
  ∧ (∀ (s : State) (c : Cmd), s.Up → s.Accepts c .dataOut → c.desc.length = 98304 → s.creRuns = true → Gives (.stateRead c) s fun t => t =
    (s.begun c).finishData c ((s.filt (bits c.desc.p0.toNat 0 8)).block (bits c.desc.p0.toNat 0 8)
    (match AMap.find (bits c.desc.p0.toNat 0 8) s.zyp.roster with | some r => r.fed | none => 0)))
  -- frameCommit
  ∧ (∀ (s : State), s.Up → s.mode.fleet = false ∧ s.mode ≠ .twinStandby ∧ s.mode ≠ .rejoin → offEarth (signed 64 (s.sh Reg.CRE_FRAME_X))
    (signed 64 (s.sh Reg.CRE_FRAME_Y)) (signed 64 (s.sh Reg.CRE_FRAME_Z)) 6300000000 6400000000 = false → s.sh Reg.CRE_FRAME_ROT ≤ 359999 →
    Gives .frameCommit s fun t => t = (s.commit Reg.CRE_FRAME_COMMIT_RESULT [Reg.CRE_FRAME_X, Reg.CRE_FRAME_Y, Reg.CRE_FRAME_Z,
    Reg.CRE_FRAME_ROT] St.done).wr Reg.CRE_STATUS_FRAME_SET 1)
  -- xchkCommit
  ∧ (∀ (s : State), s.Up → s.sh Reg.CRE_XCHK_CFG_XCHK_PERSIST ≠ 0 → Gives .xchkCommit s fun t => t.fld = (s.commit Reg.CRE_XCHK_COMMIT_RESULT
    ([Reg.CRE_XCHK_CFG_XCHK_PERSIST, Reg.CRE_XCHK_CFG_XCHK_EN] ++ (List.range 12).map Reg.CRE_XCHK_LIM) St.done).fld ∧ t.cre.filt =
    s.cre.filt.map (fun p => (p.1, { p.2 with ovr := 0, under := 0 })) ∧ t.mode = s.mode)
  -- filterCommit
  ∧ (∀ (s : State), s.Up → 5 ≤ s.sh Reg.CRE_FILT_CFG_CODE_SIGMA ∧ s.sh Reg.CRE_FILT_CFG_CODE_SIGMA ≤ 255 ∧ 10 ≤ s.sh
    Reg.CRE_FILT_CFG_PHASE_SIGMA ∧ s.sh Reg.CRE_FILT_CFG_PHASE_SIGMA ≤ 255 ∧ s.sh Reg.CRE_FILT_CFG_ELEV_MIN ≤ 30 ∧ 20 ≤ s.sh
    Reg.CRE_FILT_CFG_CN0_MIN ∧ s.sh Reg.CRE_FILT_CFG_CN0_MIN ≤ 45 ∧ 1 ≤ s.sh Reg.CRE_FILT_CFG_ACC_PSD ∧ s.sh Reg.CRE_FILT_CFG_ACC_PSD ≤ 15 →
    15 ≤ s.sh Reg.CRE_AR_CFG_RATIO_MIN ∧ s.sh Reg.CRE_AR_CFG_RATIO_MIN ≤ 100 ∧ 4 ≤ s.sh Reg.CRE_AR_CFG_MIN_AMB ∧ s.sh Reg.CRE_AR_CFG_MIN_AMB
    ≤ 40 ∧ 1 ≤ s.sh Reg.CRE_AR_CFG_HOLD_AFTER ∧ s.sh Reg.CRE_AR_CFG_HOLD_AFTER ≤ 15 ∧ 2 ≤ s.sh Reg.CRE_AR_CFG_PDOP_MAX ∧ s.sh
    Reg.CRE_AR_CFG_PDOP_MAX ≤ 15 ∧ 1 ≤ s.sh Reg.CRE_AR_LIM_PF_MAX ∧ s.sh Reg.CRE_AR_LIM_PF_MAX ≤ 100000 ∧ s.sh Reg.CRE_AR_LIM_NODE_CODE ≤ 4
    → 5 ≤ s.sh Reg.CRE_AR_LIM_RESID_LIM ∧ s.sh Reg.CRE_AR_LIM_RESID_LIM ≤ 100 ∧ 1 ≤ s.sh Reg.CRE_AR_LIM_GAP_RESET ∧ s.sh
    Reg.CRE_AR_LIM_GAP_RESET ≤ 15 ∧ 50 ≤ s.sh Reg.CRE_INTAKE_CFG_AGE_MAX ∧ s.sh Reg.CRE_INTAKE_CFG_AGE_MAX ≤ 1000 → Gives .filterCommit s
    fun t => t = s.commit Reg.CRE_FILT_COMMIT_RESULT [Reg.CRE_FILT_CFG_CODE_SIGMA, Reg.CRE_FILT_CFG_PHASE_SIGMA, Reg.CRE_FILT_CFG_ELEV_MIN,
    Reg.CRE_FILT_CFG_CN0_MIN, Reg.CRE_FILT_CFG_ACC_PSD, Reg.CRE_AR_CFG_RATIO_MIN, Reg.CRE_AR_CFG_MIN_AMB, Reg.CRE_AR_CFG_PAR_STEPS,
    Reg.CRE_AR_CFG_HOLD_AFTER, Reg.CRE_AR_CFG_LOCK_MIN, Reg.CRE_AR_CFG_PDOP_MAX, Reg.CRE_AR_LIM_PF_MAX, Reg.CRE_AR_LIM_NODE_CODE,
    Reg.CRE_AR_LIM_RESID_LIM, Reg.CRE_AR_LIM_GAP_RESET, Reg.CRE_INTAKE_CFG_AGE_MAX] St.done)

/-- The Larder's requests, releases and envelopes. Each command completes (exec answers a next state) in every state that meets its hypotheses.
  The work of a decided epoch runs releases, then envelopes, then requests, and none while PFAIL handling has frozen the Larder. A request
  leaves chute 34, is decided by `decideReq` and answered with its record and a GRANT; one that passes every check of the request check
  table and finds its new tokens free is DONE: its runs join the holder table, it takes the lowest free grant slot and the next GRANT_ID;
  one in an epoch outside FLEET_RUN is REFUSED_MODE and changes no token. Every request left at the cut-off is answered BUSY, in order, and
  no other work goes. A well-formed release in a fleet mode marks the held tokens of its robot (mode 1: of the named grant; mode 2: from
  FROM_SLOT on when that is later) from the next slot on. A final envelope command marks the robot's envelope tokens as released; any other
  takes the free tokens of the cells of its stretch for the committed number of slots, stops the robots it marks and holds its own robot.
  Rests on parts of rules R267, R271, R273, R274, R275, R276, R279, R281, R282. -/
def Obligations.LarderDecisions : Prop :=
  -- larderRequest, decided
  (∀ (s : State) (q : ReqPkt) (rest : List LdrWork), s.Up → s.ldrFrozen = false → s.nextWork 2 = some (.request q, rest) → Gives
    .larderRequest s fun t => t = (State.decideReq ({ s with epo := { s.epo with work := rest } }.consume 34 (toWords (reqBytes q)))
    q).2.grantOut q (State.decideReq ({ s with epo := { s.epo with work := rest } }.consume 34 (toWords (reqBytes q))) q).1)
  -- larderRequest, granted
  ∧ (∀ (s t0 : State) (q : ReqPkt) (rest : List LdrWork) (gs n : Nat) (tokens : List (Nat × Nat)) (runs : List Run), s.Up → s.ldrFrozen =
    false ∧ s.nextWork 2 = some (.request q, rest) → t0 = ({ s with epo := { s.epo with work := rest } }).consume 34 (toWords (reqBytes q))
    → t0.epo.mode0 = .fleetRun ∧ t0.epo.holdOwn.contains q.lid.val = false ∧ t0.on Reg.LDR_STATUS_AUDIT_LOCK = false → t0.reqBad q = false ∧
    q.badLen = false ∧ laterEq q.startSlot.toNat (slotPlus t0.slotNow 1) = true → slotDiff q.startSlot.toNat t0.slotNow + (finalSlot
    t0.slotMs q + q.dwellEnd.toNat) ≤ 62 ∧ ¬ (pathCount q.path = 0 ∧ (t0.snapPos q.lid.val).isNone = true) → tokens = ((t0.raster
    q).slots.flatMap fun x => x.2.map fun c => (x.1, c)) ∧ (t0.raster q).off = false ∧ tokens.length ≤ t0.rd Reg.LDR_REQ_CFG_MAX_TOKENS →
    t0.freeGrant q.lid.val = some gs ∧ (t0.checkTokens q.lid.val q.startSlot.toNat tokens).1 = .ok → n = (t0.newTokens q.startSlot.toNat
    tokens).length ∧ n ≠ 0 → placeRuns q.lid.val gs q.startSlot.toNat false (groupRuns (t0.newTokens q.startSlot.toNat tokens)) t0.ldr.runs
    = .ok runs → Gives .larderRequest s fun t => t.ldr.runs = runs ∧ t.ldr.grantId = (t0.ldr.grantId + 1) % 4294967296 ∧ t.epo.work = rest ∧
    t.mode = s.mode ∧ t.ldr.grants = AMap.set (8 * q.lid.val + gs) ⟨q, (t0.ldr.grantId + 1) % 4294967296, true⟩ t0.ldr.grants ∧ t.epo.outs =
    s.epo.outs ++
    [⟨0x12, q.lid.val, grantBody q.reqId.toNat ⟨St.done, gs, (t0.ldr.grantId + 1) % 4294967296, slotPlus q.startSlot.toNat (((t0.newTokens q.startSlot.toNat tokens).map (·.1)).headD 0), slotPlus q.startSlot.toNat (((t0.newTokens q.startSlot.toNat tokens).map (·.1)).getLastD 0), n, tokens.length - n, 0, 0, 0xFF⟩⟩])
  -- larderRequest, outside FLEET_RUN
  ∧ (∀ (s : State) (q : ReqPkt) (rest : List LdrWork), s.Up → s.ldrFrozen = false → s.nextWork 2 = some (.request q, rest) → s.epo.mode0 ≠
    .fleetRun → Gives .larderRequest s fun t => t.epo.work = rest ∧ t.epo.outs = s.epo.outs ++
    [⟨0x12, q.lid.val, grantBody q.reqId.toNat (.refuse St.refusedMode)⟩] ∧ t.ldr = s.ldr ∧ t.mode = s.mode)
  -- requestDeferCutoff
  ∧ (∀ (s : State), s.Up → s.ldrFrozen = false → Gives .requestDeferCutoff s fun t => t.epo.work = s.epo.work.filter (fun w => w.kind != 2) ∧
    t.epo.outs = s.epo.outs ++ s.epo.work.filterMap (fun w =>
    match w with | .request q => some ⟨0x12, q.lid.val, grantBody q.reqId.toNat (.refuse St.busy)⟩ | _ => none) ∧ t.ldr = s.ldr ∧ t.mode = s.mode)
  -- larderRelease
  ∧ (∀ (s : State) (p : RelPkt) (src id from_ : Nat) (rest : List LdrWork), s.Up → s.ldrFrozen = false → s.nextWork 0 = some (.release p src
    id, rest) → p.rsv = false ∧ p.mode.toNat ≤ 2 ∧ p.gslot.toNat ≤ 6 ∧ s.epo.mode0.fleet = true → (p.mode = 1 → ∃ g, AMap.find (8 *
    p.lid.val + p.gslot.toNat) s.ldr.grants = some g ∧ g.grantId = p.grantId.toNat) → from_ = (if p.mode = 2 ∧ laterEq p.fromSlot.toNat
    (slotPlus s.slotNow 1) = true then p.fromSlot.toNat else slotPlus s.slotNow 1) → Gives .larderRelease s fun t => t.ldr.runs =
    s.ldr.runs.map (fun r => if r.robot == p.lid.val && !r.pending && (p.mode != 1 || r.gslot == p.gslot.toNat) then r.release from_ else r)
    ∧ (src = 0 → t.epo.outs = s.epo.outs ++
    [⟨0x13, p.lid.val, replyBody St.done 4 id (releasedNow s.slotNow from_ (s.ldr.runs.filter (fun r => r.robot == p.lid.val && !r.pending && (p.mode != 1 || r.gslot == p.gslot.toNat))))⟩])
    ∧ t.epo.work = rest ∧ t.mode = s.mode)
  -- envelopeCommand, the final one
  ∧ (∀ (s : State) (e : EnvCmd) (rest : List LdrWork), s.Up → s.ldrFrozen = false → s.nextWork 1 = some (.envelope e, rest) → e.fin = true →
    s.epo.mode0.fleet = true → Gives .envelopeCommand s fun t => t.ldr.runs = s.ldr.runs.map (fun r => if r.robot == e.lid && r.env &&
    !r.pending then r.release (slotPlus s.slotNow 1) else r) ∧ t.epo.work = rest ∧ t.mode = s.mode)
  -- envelopeCommand, an envelope
  ∧ (∀ (s b u : State) (e : EnvCmd) (g : Grant) (rest : List LdrWork) (cells : List Nat) (r : List (Nat × Nat) × List Nat) (placed : List Run
    × Nat), s.Up → s.ldrFrozen = false ∧ s.nextWork 1 = some (.envelope e, rest) ∧ e.fin = false → b =
    ({ s with epo := { s.epo with work := rest } }).consume 34 (toWords (envBytes e)) → AMap.find (8 * e.lid + e.gslot) b.ldr.grants = some
    g ∧ b.epo.mode0 = .fleetRun → cells = b.envCells g.req e.sFrom e.sTo → r = b.envTokens e.lid true ((List.range (b.rd
    Reg.LDR_ENV_CFG)).flatMap fun k => cells.map fun c => (k + 1, c)) [] [] → placed = placeEnv e.lid b.slotNow (groupRuns r.1) b.ldr.runs →
    u =
    (({ b with ldr := { b.ldr with runs := placed.1.map (fun (x : Run) => if !(x.robot == e.lid && x.env && !x.pending) then x else if !cells.contains x.cell then x.release (slotPlus b.slotNow 1) else if x.tokensFrom b.slotNow (slotPlus (slotPlus b.slotNow 1) (b.rd Reg.LDR_ENV_CFG)) = 0 then x else x.release (slotPlus (slotPlus b.slotNow 1) (b.rd Reg.LDR_ENV_CFG))), envFrom := AMap.set e.lid e.gslot b.ldr.envFrom } }).addTo
    Reg.LDR_PENDING placed.2).takeFrom Reg.LDR_FREE placed.2 → Gives .envelopeCommand s fun t => t = (fun (y : State) =>
    { y with epo := { y.epo with holdOwn := y.epo.holdOwn ++ [e.lid] } }) (((u.record 1 36 ([0x16, e.lid, St.done, 0] ++ le 4 e.epoch ++ le
    4 placed.2 ++ le 4 0 ++ maskBytes r.2)).stopMarked r.2).raiseOwn e.lid false (Reg.TRP_ROBOT_COAST e.lid)))

/-- The Larder's slots, quarantine, audit, host commands and commits. Each command completes (exec answers a next state) in every state that
  meets its hypotheses. A boundary that opens a new slot, in a unit that does not replay, makes it the current one, starts the sweep and is
  late where the last sweep still runs; the sweep drops what has passed. A bad map word or bucket quarantines its cells that are not bad
  already, sets its fault bit and, for a bucket, the fleet HOLD. A mismatch of the scrub is kept for the audit; a clean one changes nothing.
  An audit clear is PENDING until its recount: with a mismatch CONFLICT; in HOSTED_IDLE with no token it rebases, clears the lock and is
  DONE; elsewhere it clears the lock where the relations hold and answers CONFLICT where they do not. UNBLOCK of a clean blocked cell frees
  it outside the committing modes and joins the epoch in them; a host release (everything, or from a slot on) joins the epoch in a fleet
  mode; a cell read gives the cell's words. An admissible MAP or RULES commit is PENDING, in a busy one BUSY; MAP_APPLY empties the map,
  keeps the blocked memory words and is DONE. Rests on parts of rules R278, R283, R284, R286, R287, R288, R289, R293, R295, R296. -/
def Obligations.LarderMapAndAudit : Prop :=
  -- slotExpiry
  (∀ (s : State), s.Up → s.ldrFrozen = false → (s.mode ≠ .rejoin ∨ (s.rd Reg.FJR_STATUS_REJOIN_STATE ≠ 2 ∧ s.rd Reg.FJR_STATUS_REJOIN_STATE
    ≠ 3)) → slotOf s.slotMs s.now ≠ s.slotNow → Gives .slotExpiry s fun t => t.rd Reg.LDR_SLOT_NOW = slotOf s.slotMs s.now ∧ t.rd
    Reg.LDR_STATUS_SWEEPING = 1 ∧ t.ldr.runs = s.ldr.runs ∧ t.ldr.late = (s.ldr.late || s.on Reg.LDR_STATUS_SWEEPING) ∧ (s.on
    Reg.LDR_STATUS_SWEEPING = true → t.on Reg.LDR_FAULT_SWEEP_LATE = true) ∧ t.mode = s.mode)
  -- sweepComplete
  ∧ (∀ (s : State), s.Up → s.ldrFrozen = false → s.on Reg.LDR_STATUS_SWEEPING = true → Gives .sweepComplete s fun t => t.ldr.runs =
    s.ldr.runs.filterMap (Run.sweep s.slotNow) ∧ t.rd Reg.LDR_STATUS_SWEEPING = 0 ∧ t.mode = s.mode)
  -- cellQuarantine, a map word
  ∧ (∀ (s : State) (k : BitVec 23), s.Up → Gives (.cellQuarantine k false) s fun t => t.ldr.quar = s.ldr.quar ++ (if s.cellBad k.toNat then []
    else [⟨k.toNat, false, false⟩]) ∧ t.on Reg.LDR_FAULT_MAP_ECC = true ∧ t.ldr.runs = s.ldr.runs ∧ t.mode = s.mode)
  -- cellQuarantine, a bucket
  ∧ (∀ (s : State) (k : BitVec 23), s.Up → Gives (.cellQuarantine k true) s fun t => t.ldr.quar = s.ldr.quar ++ ((s.bucketCells
    k.toNat).filter fun c => !s.cellBad c).map (fun c => ⟨c, true, false⟩) ∧ t.on Reg.LDR_FAULT_HOLD_ECC = true ∧ t.on
    Reg.TRP_HOLD_CAUSE_MEM_ECC = true ∧ t.ldr.runs = s.ldr.runs)
  -- scrubRecount, a mismatch
  ∧ (∀ (s : State), s.Up → Gives (.scrubRecount true) s fun t => t = ({ s with ldr := { s.ldr with scrubBad := true } }).fault
    Reg.LDR_FAULT_RECOUNT ∧ t.ldr.scrubBad = true ∧ t.on Reg.LDR_FAULT_RECOUNT = true ∧ t.mode = s.mode)
  -- scrubRecount, clean
  ∧ (∀ (s : State), s.Up → Gives (.scrubRecount false) s fun t => t = s)
  -- larderAuditClear
  ∧ (∀ (s : State), s.Up → s.on Reg.LDR_STATUS_RECOUNTING = false → Gives .larderAuditClear s fun t => t = (s.wr Reg.LDR_CTRL_RESULT
    St.pending).wr Reg.LDR_STATUS_RECOUNTING 1)
  -- auditRecountDone, a mismatch
  ∧ (∀ (s : State), s.Up → s.on Reg.LDR_STATUS_RECOUNTING = true → Gives (.auditRecountDone true) s fun t => t = (s.wr
    Reg.LDR_STATUS_RECOUNTING 0).wr Reg.LDR_CTRL_RESULT St.conflict)
  -- auditRecountDone, no token in HOSTED_IDLE
  ∧ (∀ (s : State), s.Up → s.on Reg.LDR_STATUS_RECOUNTING = true → s.mode = .hostedIdle ∧ s.ldr.runs.all (fun r => r.tokensFrom s.slotNow
    s.slotNow == 0) = true → Gives (.auditRecountDone false) s fun t => t.rd Reg.LDR_HELD = 0 ∧ t.rd Reg.LDR_PENDING = 0 ∧ t.rd
    Reg.LDR_STATUS_AUDIT_LOCK = 0 ∧ t.rd Reg.TRP_HOLD_CAUSE_AUDIT = 0 ∧ t.rd Reg.LDR_CTRL_RESULT = St.done ∧ t.rd Reg.LDR_FREE = (64 *
    s.cellCount - 64 * s.rd Reg.LDR_BLOCKED_CELLS) % 2 ^ Reg.LDR_FREE.w ∧ t.rd Reg.LDR_GRANTED = (s.rd Reg.LDR_RELEASED + s.rd
    Reg.LDR_EXPIRED) % 2 ^ Reg.LDR_GRANTED.w ∧ t.mode = s.mode)
  -- auditRecountDone, the relations hold
  ∧ (∀ (s : State), s.Up → s.on Reg.LDR_STATUS_RECOUNTING = true → ¬ (s.mode = .hostedIdle ∧ s.ldr.runs.all (fun r => r.tokensFrom s.slotNow
    s.slotNow == 0) = true) → s.relationsHold = true → Gives (.auditRecountDone false) s fun t => t = (((s.wr Reg.LDR_STATUS_RECOUNTING
    0).wr Reg.LDR_STATUS_AUDIT_LOCK 0).wr Reg.TRP_HOLD_CAUSE_AUDIT 0).wr Reg.LDR_CTRL_RESULT St.done)
  -- auditRecountDone, the relations do not hold
  ∧ (∀ (s : State), s.Up → s.on Reg.LDR_STATUS_RECOUNTING = true → ¬ (s.mode = .hostedIdle ∧ s.ldr.runs.all (fun r => r.tokensFrom s.slotNow
    s.slotNow == 0) = true) → s.relationsHold = false → Gives (.auditRecountDone false) s fun t => t = (s.wr Reg.LDR_STATUS_RECOUNTING 0).wr
    Reg.LDR_CTRL_RESULT St.conflict)
  -- unblock, outside the committing modes
  ∧ (∀ (s : State) (c : Cmd), s.Up → s.Accepts c .command → c.desc.length = 0 ∧ bits c.desc.p0.toNat 23 9 = 0 → s.mode.commits = false ∧
    s.follows = false → c.desc.p0.toNat < s.cellCount ∧ s.ldr.blocked.contains c.desc.p0.toNat = true → Gives (.unblock c true) s fun t =>
    t.ldr.blocked = s.ldr.blocked.filter (· != c.desc.p0.toNat) ∧ t.Completed c St.done 0 0 ∧ t.mode = s.mode)
  -- unblock, in a committing mode
  ∧ (∀ (s : State) (c : Cmd) (clean : Bool), s.Up → s.Accepts c .command → c.desc.length = 0 ∧ bits c.desc.p0.toNat 23 9 = 0 → s.mode.commits
    = true ∧ s.follows = false → Gives (.unblock c clean) s fun t => t = (s.begun c).epochInput c (.unblock c.desc.p0.toNat clean))
  -- larderHostRelease
  ∧ (∀ (s : State) (c : Cmd), s.Up → s.Accepts c .command → (c.desc.length = 0 ∧ bits c.desc.p0.toNat 10 22 = 0 ∧ (bits c.desc.p0.toNat 8 2 =
    0 ∨ bits c.desc.p0.toNat 8 2 = 2)) → s.mode.fleet = true → Gives (.larderHostRelease c) s fun t => t = (s.begun c).epochInput c
    (.release ⟨⟨bits c.desc.p0.toNat 0 8, Nat.mod_lt _ (by decide)⟩, BitVec.ofNat 8 (bits c.desc.p0.toNat 8 2), 0, 0, c.desc.p1, false⟩))
  -- cellRead
  ∧ (∀ (s : State) (c : Cmd), s.Up → s.Accepts c .dataOut → c.desc.length = 80 ∧ bits c.desc.p0.toNat 23 9 = 0 → s.follows = false → Gives
    (.cellRead c) s fun t => t = (s.begun c).finishData c (s.cellBytes (bits c.desc.p0.toNat 0 23)))
  -- mapCommit
  ∧ (∀ (s : State), s.Up → s.isPending Reg.LDR_MAP_COMMIT_RESULT = false → s.mode.fleet = false ∧ s.follows = false → s.rd Reg.LDR_HELD = 0 ∧
    s.rd Reg.LDR_PENDING = 0 → 6 ≤ s.sh Reg.LDR_MAP_GEOM_WX ∧ 6 ≤ s.sh Reg.LDR_MAP_GEOM_HY ∧ s.sh Reg.LDR_MAP_GEOM_WX ≤ 17 ∧ s.sh
    Reg.LDR_MAP_GEOM_HY ≤ 17 ∧ s.sh Reg.LDR_MAP_GEOM_WX + s.sh Reg.LDR_MAP_GEOM_HY ≤ 23 → s.sh Reg.LDR_MAP_GEOM_SLOT ≠ 7 ∧ slotLength (s.sh
    Reg.LDR_MAP_GEOM_SLOT) % s.epochMs = 0 → s.sh Reg.LDR_MAP_BASE_ADDR % 67108864 = 0 ∧ s.sh Reg.LDR_HOLD_BASE_ADDR % 134217728 = 0 ∧ s.sh
    Reg.LDR_GRANT_BASE_ADDR % 4194304 = 0 → s.sh Reg.LDR_MAP_BASE_ADDR + 67108864 ≤ s.sh Reg.LDR_HOLD_BASE_ADDR ∧ s.sh
    Reg.LDR_HOLD_BASE_ADDR + 134217728 ≤ s.sh Reg.LDR_GRANT_BASE_ADDR ∧ s.sh Reg.LDR_GRANT_BASE_ADDR + 4194304 ≤ s.board.lpddr → Gives
    .mapCommit s fun t => t = s.setPending Reg.LDR_MAP_COMMIT_RESULT)
  -- mapCommit, while one is pending
  ∧ (∀ (s : State), s.Up → s.isPending Reg.LDR_MAP_COMMIT_RESULT = true → Gives .mapCommit s fun t => t = s.wr Reg.LDR_MAP_COMMIT_RESULT
    St.busy)
  -- mapApply
  ∧ (∀ (s : State), s.Up → s.isPending Reg.LDR_MAP_COMMIT_RESULT = true → Gives .mapApply s fun t => t.ldr.runs = [] ∧ t.ldr.grants = [] ∧
    t.rd Reg.LDR_STATUS_MAP_READY = 1 ∧ t.rd Reg.LDR_MAP_COMMIT_RESULT = St.done ∧ t.rd Reg.LDR_MAP_GEOM_WX = s.sh Reg.LDR_MAP_GEOM_WX % 2 ^
    Reg.LDR_MAP_GEOM_WX.w ∧ t.isPending Reg.LDR_MAP_COMMIT_RESULT = false ∧ t.mode = s.mode)
  -- rulesCommit
  ∧ (∀ (s : State), s.Up → s.isPending Reg.LDR_RULES_COMMIT_RESULT = false → s.sh Reg.LDR_REQ_CFG_MARGIN_MM ≤ 1000 ∧ s.sh
    Reg.LDR_REQ_CFG_MAX_TOKENS ≠ 0 → 1 ≤ s.sh Reg.LDR_ENV_CFG ∧ s.sh Reg.LDR_ENV_CFG ≤ 62 → 10 ≤ s.sh Reg.LDR_SCRUB_CFG ∧ s.sh
    Reg.LDR_SCRUB_CFG ≤ 600 → Gives .rulesCommit s fun t => t = s.setPending Reg.LDR_RULES_COMMIT_RESULT)

/-- Fleet tables, task commands and the task audit. Each command completes (exec answers a next state) in every state that meets its hypotheses.
  A FLEET commit, where none is pending, becomes PENDING while its tables are validated, and BUSY while one is. Tables that validate make
  the whole shadow live at once outside the fleet modes (RESULT DONE, TABLES_COMMITTED, the generation counted, HOLD cause cleared) and join
  the epoch's host inputs in a fleet mode where no change conflicts; tables with a bad entry end BAD_FORMAT with the entry shown and the
  shadow copied back. TABLE_LOAD writes its payload into the shadow of the table it names and completes with its length. TASK_EVENT joins
  the epoch in a committing mode and elsewhere is counted and answered REFUSED_MODE with RESULT 0xFF. TASK_READ hands out the records it
  names. TASK_FORCE of a VALID task to a DEFINED state, with live tables: outside the committing modes the record, live and as committed,
  enters that state with the holder given, FORCED shows and the command is DONE; in a committing mode it joins the epoch. A clean recount of
  the tasks clears AUDIT_LOCK and its HOLD cause, one with a mismatch answers CONFLICT. An uncorrectable word raises a fleet HOLD: cause
  TABLE_ECC for a live table, cause TASK_AUDIT for a live record. Rests on parts of rules R297, R298, R306, R314, R315, R316, R317. -/
def Obligations.FleetTablesAndTasks : Prop :=
  -- fleetCommit
  (∀ (s : State), s.Up → s.follows = false ∧ s.mode ≠ .update → s.isPending Reg.TRK_COMMIT_RESULT = false → Gives .fleetCommit s fun t => t
    = ({ s with trk := { s.trk with validating := true } }.setPending Reg.TRK_COMMIT_RESULT).wr Reg.TRK_STATUS_PENDING 1)
  -- fleetCommit, while one is pending
  ∧ (∀ (s : State), s.Up → s.follows = false ∧ s.mode ≠ .update → s.isPending Reg.TRK_COMMIT_RESULT = true → Gives .fleetCommit s fun t => t =
    s.wr Reg.TRK_COMMIT_RESULT St.busy)
  -- fleetValidated, outside the fleet modes
  ∧ (∀ (s : State), s.Up → s.trk.validating = true → tablesBad s.trk.shadow = none → s.mode.fleet = false → Gives .fleetValidated s fun t => t
    = State.fleetApply { s with trk := { s.trk with validating := false } } ∧ t.trk.live = s.trk.shadow ∧ t.rd Reg.TRK_COMMIT_RESULT =
    St.done ∧ t.rd Reg.CLK_ADMIT_STATUS_TABLES_COMMITTED = 1 ∧ t.rd Reg.TRK_GEN = (s.rd Reg.TRK_GEN + 1) % 2 ^ Reg.TRK_GEN.w ∧ t.mode =
    s.mode)
  -- fleetValidated, in a fleet mode
  ∧ (∀ (s : State), s.Up → s.trk.validating = true → tablesBad s.trk.shadow = none ∧ State.tablesConflict
    { s with trk := { s.trk with validating := false } } = none → s.mode.fleet = true → Gives .fleetValidated s fun t => t =
    { s with trk := { s.trk with validating := false }, epo := { s.epo with host := s.epo.host ++ [⟨none, .fleet, s.dsp.adm, false, none, []⟩] } })
  -- fleetValidated, an entry that breaks a rule
  ∧ (∀ (s : State) (e : Nat × Nat), s.Up → s.trk.validating = true → tablesBad s.trk.shadow = some e → Gives .fleetValidated s fun t => t =
    State.fleetRefuse { s with trk := { s.trk with validating := false } } St.badFormat e)
  -- tableLoad
  ∧ (∀ (s : State) (c : Cmd) (d : List Byte) (base size count : Nat), s.Up → s.Accepts c .dataIn → s.follows = false ∧ s.isPending
    Reg.TRK_COMMIT_RESULT = false → c.desc.p0.toNat ≤ 5 ∧ (base, size, count) = tableShape c.desc.p0.toNat → c.desc.length.toNat % size = 0
    ∧ c.desc.p1.toNat * size + c.desc.length.toNat ≤ size * count → Gives (.tableLoad c d) s fun t => t = State.finish
    { s.begun c with trk := { s.trk with shadow := setBankBytes s.trk.shadow (base + c.desc.p1.toNat * size) (d.take c.desc.length.toNat) } }
    c St.done c.desc.length.toNat 0)
  -- taskEvent, in a committing mode
  ∧ (∀ (s : State) (c : Cmd), s.Up → s.Accepts c .command → c.desc.length = 0 → s.mode.commits = true → Gives (.taskEvent c) s fun t => t =
    (s.begun c).epochInput c (.taskEvent (taskEvOf c.desc)))
  -- taskEvent, outside the committing modes
  ∧ (∀ (s : State) (c : Cmd), s.Up → s.Accepts c .command → c.desc.length = 0 → s.mode.commits = false ∧ s.follows = false → Gives (.taskEvent
    c) s fun t => t = ((s.begun c).bump Reg.TRK_EV_REFUSED Reg.TRK_FAULT_CNT_SAT).finish c St.refusedMode 0 0xFF)
  -- taskRead
  ∧ (∀ (s : State) (c : Cmd), s.Up → s.Accepts c .dataOut → s.follows = false → c.desc.length.toNat % 16 = 0 ∧ bits c.desc.p0.toNat 0 12 +
    c.desc.length.toNat / 16 ≤ 4096 ∧ bits c.desc.p0.toNat 12 20 = 0 → Gives (.taskRead c) s fun t => t = (s.begun c).finishData c
    ((List.range (c.desc.length.toNat / 16)).flatMap fun i => s.taskBytes (bits c.desc.p0.toNat 0 12 + i)))
  -- taskForce, outside the committing modes
  ∧ (∀ (s : State) (c : Cmd) (r : TaskRec) (holder : Option Nat), s.Up → s.Accepts c .command → s.follows = false ∧ s.mode ≠ .update ∧
    s.mode.commits = false ∧ s.on Reg.TRK_STATUS_LIVE = true → c.desc.length = 0 ∧ bits c.desc.p0.toNat 12 4 = 0 ∧ bits c.desc.p0.toNat 22 2
    = 0 ∧ bits c.desc.p0.toNat 25 7 = 0 ∧ bits c.desc.p1.toNat 8 24 = 0 → s.taskRec (bits c.desc.p0.toNat 0 12) = some r ∧ stateDefined
    s.trk.live (bits c.desc.p0.toNat 16 6) = true → holder = (if bits c.desc.p0.toNat 24 1 = 1 then none else some (bits c.desc.p1.toNat 0
    8)) → Gives (.taskForce c) s fun t => AMap.find (bits c.desc.p0.toNat 0 12) t.trk.tasks = some (s.enterState (bits c.desc.p0.toNat 16 6)
    holder r.trans r.dead) ∧ AMap.find (bits c.desc.p0.toNat 0 12) t.trk.tasks0 = some (s.enterState (bits c.desc.p0.toNat 16 6) holder
    r.trans r.dead) ∧ t.on Reg.TRK_FAULT_FORCED = true ∧ t.Completed c St.done 0 0 ∧ t.mode = s.mode)
  -- taskForce, in a committing mode
  ∧ (∀ (s : State) (c : Cmd), s.Up → s.Accepts c .command → s.mode.commits = true → c.desc.length = 0 ∧ bits c.desc.p0.toNat 12 4 = 0 ∧ bits
    c.desc.p0.toNat 22 2 = 0 ∧ bits c.desc.p0.toNat 25 7 = 0 ∧ bits c.desc.p1.toNat 8 24 = 0 → Gives (.taskForce c) s fun t => t = (s.begun
    c).epochInput c (.taskForce (bits c.desc.p0.toNat 0 12) (bits c.desc.p0.toNat 16 6) (if bits c.desc.p0.toNat 24 1 = 1 then none else
    some (bits c.desc.p1.toNat 0 8))))
  -- taskAuditClear, a clean recount
  ∧ (∀ (s : State), s.Up → s.tasksAgree = true → Gives (.taskAuditClear false) s fun t => t.rd Reg.TRK_STATUS_AUDIT_LOCK = 0 ∧ t.rd
    Reg.TRP_HOLD_CAUSE_TASK_AUDIT = 0 ∧ t.rd Reg.TRK_CTRL_RESULT = St.done ∧ t.trk.eccBad = false ∧ t.trk.tasks = s.trk.tasks ∧ t.mode =
    s.mode)
  -- taskAuditClear, a mismatch
  ∧ (∀ (s : State) (m : Bool), s.Up → (m = true ∨ s.tasksAgree = false) → Gives (.taskAuditClear m) s fun t => t = s.wr Reg.TRK_CTRL_RESULT
    St.conflict)
  -- tableEcc, in a live table
  ∧ (∀ (s : State), s.Up → Gives (.tableEcc false) s fun t => t = ((s.fault Reg.TRK_FAULT_TABLE_ECC).wr Reg.TRK_STATUS_TABLE_HOLD
    1).raiseFleet false Reg.TRP_HOLD_CAUSE_TABLE_ECC ∧ t.on Reg.TRP_HOLD_CAUSE_TABLE_ECC = true)
  -- tableEcc, in a live record
  ∧ (∀ (s : State), s.Up → Gives (.tableEcc true) s fun t => t = (((State.fault { s with trk := { s.trk with eccBad := true } }
    Reg.TRK_FAULT_TASK_AUDIT).wr Reg.TRK_STATUS_AUDIT_LOCK 1).raiseFleet false Reg.TRP_HOLD_CAUSE_TASK_AUDIT) ∧ t.on
    Reg.TRP_HOLD_CAUSE_TASK_AUDIT = true)

/-- The Pace Governor's loops and the PACE commit. Each command completes (exec answers a next state) in every state that meets its hypotheses.
  LOOP_INPUT reads the next input of chute 40: one with a reserved field set or a MODE above 3, or where no robot loop is served, is
  discarded and counted; any other is taken by its loop (`loopIn`), and a command it sends updates the latency. COAST_ENTRY, in a decided
  epoch where robot loops are served and the loop has no input left, takes a loop without a fresh sample for COAST_EPOCHS into COAST
  (`coast`: envelope, own HOLD, count, fault, first command); one at rest is then in COAST with U 0 and one command sent. LOOP_RAMP_COMMAND,
  under the same conditions and not for a loop that is due for COAST or has sent its command of the epoch, runs the ramp of a loop in COAST,
  HELD, DOCKED or winding down; a HELD loop at rest that has sent nothing sends its command of 0. LOOP_STATE_ECC makes the loop LOST with U
  and I 0, with the fault, the own STOP of its robot and one command. CLOCK_LOOP_INPUT reads the next input of chute 42 and, where the
  loop's curves are defined, runs the law once from the loop's state (or the preset one), keeps the result and sends it on chute 43, from
  where the Timekeeper takes the frequency; without credit there the frequency is not taken. A PACE commit that breaks no rule makes curves
  and members live at once outside the fleet modes and joins the epoch in one; one that breaks a rule ends BAD_FORMAT with the curve shadow
  copied back; one while another is pending answers BUSY. Rests on parts of rules R322, R328, R334, R337, R338, R339, R340, R342. -/
def Obligations.GovernorLoops : Prop :=
  -- loopInput, discarded
  (∀ (s u : State) (x : LoopIn) (rest : List LoopIn) (comp : YTime) (us : Word), s.Up → s.epo.loopQ = x :: rest → u = State.consume
    { s with epo := { s.epo with loopQ := rest } } 40 (toWords (loopInBytes x)) → (x.rsv = true ∨ x.mode.toNat > 3 ∨ s.govRuns = false) →
    Gives (.loopInput comp us) s fun t => t = u.bump Reg.GOV_BAD_INPUT Reg.GOV_FAULT_CNT_SAT ∧ t.epo.loopQ = rest ∧ t.gov = s.gov ∧ t.mode =
    s.mode)
  -- loopInput, taken
  ∧ (∀ (s u : State) (x : LoopIn) (rest : List LoopIn) (comp : YTime) (us : Word), s.Up → s.epo.loopQ = x :: rest → u = State.consume
    { s with epo := { s.epo with loopQ := rest } } 40 (toWords (loopInBytes x)) → x.mode.toNat ≤ 3 ∧ x.rsv = false ∧ s.govRuns = true →
    Gives (.loopInput comp us) s fun t => t = (if (u.loopIn x comp).rd Reg.GOV_UPDATES = u.rd Reg.GOV_UPDATES then u.loopIn x comp else
    (u.loopIn x comp).latency us.toNat))
  -- coastEntry
  ∧ (∀ (s : State) (n : Fin 256) (comp : YTime), s.Up → s.govRuns = true ∧ s.epo.decided = true ∧ s.coastDue (s.loop n.val) = true →
    (s.epo.loopQ.any fun x => x.lid.val == n.val) = false → Gives (.coastEntry n comp) s fun t => t = s.coast n.val (s.loop n.val) comp)
  -- coastEntry, of a loop at rest
  ∧ (∀ (s : State) (n : Fin 256) (comp : YTime), s.Up → s.govRuns = true ∧ s.epo.decided = true ∧ s.coastDue (s.loop n.val) = true →
    (s.epo.loopQ.any fun x => x.lid.val == n.val) = false → (s.loop n.val).u = 0 → Gives (.coastEntry n comp) s fun t => (t.loop n.val).mode
    = .coast ∧ (t.loop n.val).u = 0 ∧ (t.loop n.val).cmdSeq = ((s.loop n.val).cmdSeq + 1) % 4294967296)
  -- loopRampCommand
  ∧ (∀ (s : State) (n : Fin 256) (comp : YTime), s.Up → s.govRuns = true ∧ s.epo.decided = true ∧ s.coastDue (s.loop n.val) = false →
    (s.epo.loopQ.any fun x => x.lid.val == n.val) = false → ((s.loop n.val).mode = .coast ∨ (s.loop n.val).mode = .held ∨ (s.loop
    n.val).mode = .docked ∨ (s.loop n.val).winding = true) → (s.loop n.val).cmdEp ≠ some (s.rd Reg.GLB_EPOCH) → Gives (.loopRampCommand n
    comp) s fun t => t = s.ramp n.val (s.loop n.val) false comp)
  -- loopRampCommand, a held loop at rest
  ∧ (∀ (s : State) (n : Fin 256) (comp : YTime), s.Up → s.govRuns = true ∧ s.epo.decided = true ∧ s.coastDue (s.loop n.val) = false →
    (s.epo.loopQ.any fun x => x.lid.val == n.val) = false → (s.loop n.val).mode = .held ∧ (s.loop n.val).u = 0 ∧ (s.loop n.val).cmdEp = none
    ∧ (s.loop n.val).winding = false → Gives (.loopRampCommand n comp) s fun t => (t.loop n.val).mode = .held ∧ (t.loop n.val).cmdSeq =
    ((s.loop n.val).cmdSeq + 1) % 4294967296 ∧ (t.loop n.val).cmdEp = some (s.rd Reg.GLB_EPOCH))
  -- loopStateEcc
  ∧ (∀ (s : State) (n : Fin 256) (comp : YTime), s.Up → s.govRuns = true → Gives (.loopStateEcc n comp) s fun t => t = (((s.faultWith
    Reg.GOV_FAULT_STATE_ECC n.val).raiseOwn n.val true (Reg.TRP_ROBOT_LOOP_LOST n.val)).command n.val
    { (s.loop n.val).offNow with mode := .lost } 0 comp) ∧ (t.loop n.val).mode = .lost ∧ (t.loop n.val).u = 0 ∧ (t.loop n.val).i = 0)
  -- clockLoopInput
  ∧ (∀ (s u v : State) (p : Packet) (x : ClockIn) (kp ki : Int) (c0 : ClkLoop) (r : ClkLoop × Bool) (out : List DWord), s.Up → s.nextPacket 42
    = some p ∧ x = clockIn p.bytes ∧ u = s.takeAny 42 → u.curve (u.rd (Reg.GOV_CLK_KP x.loop.val)) (((x.err.toInt.natAbs + 128) / 256 : Nat)
    : Int) = some kp → u.curve (u.rd (Reg.GOV_CLK_KI x.loop.val)) (((x.err.toInt.natAbs + 128) / 256 : Nat) : Int) = some ki → c0 = (if
    x.preset then ⟨x.ppb.toInt, x.ppb.toInt, 0⟩ else u.clkLoop x.loop.val) → r = clkStep c0 kp ki x.err.toInt x.t.toNat x.bound.toNat → v =
    { u with gov := { u.gov with clk := AMap.set x.loop.val r.1 u.gov.clk } } → out = toWords ([0x33, x.loop.val, bit r.2, 0] ++ le 4
    x.seq.toNat ++ le 4 (unsigned 32 (Bf.at (r.1.u, r.1.e) (-8))) ++ le 4 0) → Gives .clockLoopInput s fun t => t = (if (v.offer 43 0 out).2
    then ((v.offer 43 0 out).1.consume 43 out).takeFreq x.loop.val (Bf.at (r.1.u, r.1.e) (-8)) else (v.offer 43 0 out).1))
  -- paceCommit, outside the fleet modes
  ∧ (∀ (s : State), s.Up → s.follows = false ∧ s.mode ≠ .update ∧ s.mode.fleet = false → s.isPending Reg.GOV_PACE_COMMIT_RESULT = false →
    s.paceBad = none → Gives .paceCommit s fun t => t = s.paceApply ∧ t.gov.live = s.gov.shadow ∧ t.rd Reg.GOV_PACE_COMMIT_RESULT = St.done
    ∧ t.mode = s.mode)
  -- paceCommit, in a fleet mode
  ∧ (∀ (s : State), s.Up → s.mode.fleet = true → s.isPending Reg.GOV_PACE_COMMIT_RESULT = false → s.paceBad = none → Gives .paceCommit s fun t
    => t = (fun (y : State) => { y with epo := { y.epo with host := y.epo.host ++ [⟨none, .pace, y.dsp.adm, false, none, []⟩] } })
    ((s.setPending Reg.GOV_PACE_COMMIT_RESULT).wr Reg.GOV_STATUS_PENDING 1))
  -- paceCommit, a rule broken
  ∧ (∀ (s : State) (e : Nat × Nat), s.Up → s.follows = false ∧ s.mode ≠ .update → s.isPending Reg.GOV_PACE_COMMIT_RESULT = false → s.paceBad =
    some e → Gives .paceCommit s fun t => t = s.paceRefuse St.badFormat e ∧ t.gov.shadow = s.gov.live ∧ t.rd Reg.GOV_PACE_COMMIT_RESULT =
    St.badFormat)
  -- paceCommit, while one is pending
  ∧ (∀ (s : State), s.Up → s.follows = false ∧ s.mode ≠ .update → s.isPending Reg.GOV_PACE_COMMIT_RESULT = true → Gives .paceCommit s fun t =>
    t = s.wr Reg.GOV_PACE_COMMIT_RESULT St.busy)

/-- Stop inputs, Trapdoor faults and arming. Each command completes (exec answers a next state) in every state that meets its hypotheses. An
  opening of STOP_IN clears the level of its channel and raises fleet STOP with the cause of that channel; with the main domain off it is
  kept as dormant and changes no fleet state. A closing shows; with both channels closed a discrepancy that has seen both open ends. A
  discrepancy raises STOP with its cause and condition; a lockstep flag raises STOP, latched, and enters FAULT_SAFE as a device fault, in
  PFAIL handling with the mode unchanged; a mismatch of the output read-back and an RC4M fault raise STOP with cause and condition, and the
  conditions end by their own events. RESET_ARM high with every source clear (for a local reset with the STOP latched) starts an attempt,
  one of a kind that the strap and the host's claim decide; one blocked by an earlier timeout, or with a source not clear, or a local reset
  with no STOP latched, is refused. A pulse of 0.5 s or more that finds every source clear ends the attempt: it arms, or as a local reset
  clears the latch and the causes and leaves the fleet in HOLD; any other pulse is refused. One high beyond 5 s is refused and blocks the
  next. The arming window's end clears ARMED. PROOF_DAYS after the last demand the proof timer sets PROOF_DUE and its fault. Rests on parts
  of rules R353, R355, R360, R361, R368, R87, R88. -/
def Obligations.TrapdoorInputs : Prop :=
  -- stopInOpen, in a main mode
  (∀ (s : State) (b : Bool), s.Up → Gives (.stopInOpen b) s fun t => t.trp.fleet = .stop ∧ t.trp.latch = true ∧ t.on (if b then
    Reg.TRP_STOP_CAUSE_IN_B else Reg.TRP_STOP_CAUSE_IN_A) = true)
  -- stopInOpen, while the main domain is off
  ∧ (∀ (s : State) (b : Bool), s.coreOn = true → (s.mode.main && s.pwr.mainPowered) = false → Gives (.stopInOpen b) s fun t => t.rd (stopIn b)
    = 0 ∧ t.trp.dormant = true ∧ t.trp.fleet = s.trp.fleet ∧ t.mode = s.mode)
  -- stopInClose, the other channel open
  ∧ (∀ (s : State) (b : Bool), s.coreOn = true → s.on (stopIn (!b)) = false → Gives (.stopInClose b) s fun t => t = s.wr (stopIn b) 1)
  -- stopInClose, both channels closed
  ∧ (∀ (s u : State) (b : Bool), s.coreOn = true → s.on (stopIn (!b)) = true → u = (fun (y : State) =>
    { y with trp := { y.trp with bothOpen := false } }) (s.wr (stopIn b) 1) → Gives (.stopInClose b) s fun t => t = (if s.on
    Reg.TRP_STATUS_DISC_COND && s.trp.discBoth then u.wr Reg.TRP_STATUS_DISC_COND 0 else u))
  -- discrepancy
  ∧ (∀ (s : State), s.Up → (s.on Reg.TRP_STATUS_IN_A == s.on Reg.TRP_STATUS_IN_B) = false → Gives .discrepancy s fun t => t.trp.fleet = .stop
    ∧ t.on Reg.TRP_STOP_CAUSE_DISCREPANCY = true ∧ t.on Reg.TRP_STATUS_DISC_COND = true)
  -- lockstepFlag
  ∧ (∀ (s : State), s.Up → s.pwr.pfailLatched = false → Gives .lockstepFlag s fun t => t.mode = .faultSafe ∧ t.pwr.core = true ∧ t.trp.fleet =
    .stop ∧ t.trp.latch = true ∧ t.twn.lockstep = true)
  -- lockstepFlag, in PFAIL handling
  ∧ (∀ (s : State), s.Up → s.pwr.pfailLatched = true → Gives .lockstepFlag s fun t => t.mode = s.mode ∧ t.trp.fleet = .stop ∧ t.trp.latch =
    true ∧ t.twn.lockstep = true)
  -- outReadbackMismatch
  ∧ (∀ (s : State), s.Up → Gives .outReadbackMismatch s fun t => t.trp.fleet = .stop ∧ t.on Reg.TRP_STOP_CAUSE_OUT_FAULT = true ∧ t.on
    Reg.TRP_STATUS_OUT_COND = true)
  -- outFaultConditionEnd
  ∧ (∀ (s : State), s.Up → Gives .outFaultConditionEnd s fun t => t = s.wr Reg.TRP_STATUS_OUT_COND 0)
  -- rc4mFault
  ∧ (∀ (s : State), s.Up → Gives .rc4mFault s fun t => t.trp.fleet = .stop ∧ t.on Reg.TRP_STOP_CAUSE_CLOCK = true ∧ t.on
    Reg.TRP_STATUS_RC4M_COND = true)
  -- rc4mRecover
  ∧ (∀ (s : State), s.Up → Gives .rc4mRecover s fun t => t = s.wr Reg.TRP_STATUS_RC4M_COND 0)
  -- resetArmRise, every source clear
  ∧ (∀ (s : State), s.Up → s.stopSourcesClear = true → s.trp.latch = true ∧ s.trp.armBlocked = false → Gives (.resetArmRise false) s fun t =>
    t.trp.arm = some s.localArm ∧ t.trp.fleet = s.trp.fleet ∧ t.rd Reg.TRP_STATUS_ARM_LEVEL = 1)
  -- resetArmRise, refused
  ∧ (∀ (s u : State) (b : Bool), s.Up → u = (fun (y : State) =>
    { y with trp := { y.trp with arm := some s.localArm, armBlocked := s.trp.armBlocked && !b } }) (s.wr Reg.TRP_STATUS_ARM_LEVEL 1) →
    ((s.trp.armBlocked && !b) = true ∨ s.stopSourcesClear = false ∨ (s.localArm = true ∧ s.trp.latch = false)) → Gives (.resetArmRise b) s
    fun t => t = u.refuseArm)
  -- resetArmFall, of an arming attempt
  ∧ (∀ (s : State), s.Up → s.stopSourcesClear = true → s.trp.arm = some false → Gives (.resetArmFall true) s fun t => t.rd
    Reg.TRP_STATUS_ARMED = 1 ∧ t.rd Reg.TRP_STATUS_ARM_LEVEL = 0 ∧ t.trp.arm = none ∧ t.trp.fleet = s.trp.fleet)
  -- resetArmFall, of a local reset
  ∧ (∀ (s : State), s.Up → s.stopSourcesClear = true → s.trp.arm = some true → Gives (.resetArmFall true) s fun t => t.trp.latch = false ∧
    t.trp.fleet = .hold ∧ t.trp.arm = none ∧ t.rd Reg.TRP_STOP_CAUSE_IN_A = 0)
  -- resetArmFall, refused
  ∧ (∀ (s : State) (b a : Bool), s.Up → s.trp.arm = some a → (b = false ∨ s.stopSourcesClear = false) → Gives (.resetArmFall b) s fun t => t =
    (s.wr Reg.TRP_STATUS_ARM_LEVEL 0).refuseArm)
  -- resetArmHoldTimeout
  ∧ (∀ (s : State) (a : Bool), s.Up → s.trp.arm = some a → Gives .resetArmHoldTimeout s fun t => t = State.refuseArm
    { s with trp := { s.trp with armBlocked := true } } ∧ t.trp.arm = none ∧ t.trp.armBlocked = true)
  -- armWindowExpire
  ∧ (∀ (s : State), s.Up → Gives .armWindowExpire s fun t => t = s.wr Reg.TRP_STATUS_ARMED 0)
  -- proofTimer, due
  ∧ (∀ (s : State), s.Up → s.rd Reg.TRP_CFG_PROOF_DAYS ≤ s.demandDays → s.on Reg.TRP_STATUS_PROOF_DUE = false → Gives .proofTimer s fun t => t
    = (s.wr Reg.TRP_STATUS_PROOF_DUE 1).fault Reg.TRP_FAULT_PROOF_DUE)

/-- Restrictions, frames and commands of the Trapdoor. Each command completes (exec answers a next state) in every state that meets its
  hypotheses. A restriction request raises what its row says with its cause bit: a fleet HOLD (in GO the fleet goes to HOLD; the STOP latch
  keeps), for twin ambiguity a fleet STOP with the latch, an own HOLD or an own STOP of its robot, whose own state becomes at least that.
  TRAP_FRAME_REPEAT sends the frame longest waiting again and keeps it for as many repeats as are left. BEACON_TICK sends nothing without
  BEACON_ON, from a unit that does not send the pair stream or with the unit muted; otherwise, with no power-down in progress and the beacon
  built, the beacon of the next multiple of 100 ms goes to the peer where mirrored, to both LANs and to the radio, and the UNAUTH bits show
  the lifecycle. HOLD, STOP, ROBOT_HOLD and ROBOT_STOP with a valid format, tag and a later CMD_SEQ raise their restriction with cause HOST
  and complete DONE with 32 bytes; HOLD with a tag that does not verify counts and answers AUTH_FAIL. GO in a fleet mode, armed CLEAR in a
  committing mode that no core fault holds, and ROBOT_GO in a committing mode join the epoch. Outside those modes an armed CLEAR with every
  source clear and the fleet in STOP leaves HOLD with cause RECOVER, no latch and ARMED 0, DONE; ROBOT_GO without a conflict returns the own
  state to GO, DONE. An admissible TRAP commit outside the fleet modes is live. Rests on parts of rules R347, R348, R351, R356, R357, R360,
  R362, R363, R364, R365, R369. -/
def Obligations.TrapdoorRestrictions : Prop :=
  -- restrictionRequest, a fleet HOLD
  (∀ (s : State) (q : RestrictReq) (f : Fld), s.Up → (q, f) ∈ [(.overrun, Reg.TRP_HOLD_CAUSE_OVERRUN), (.audit, Reg.TRP_HOLD_CAUSE_AUDIT),
    (.taskAudit, Reg.TRP_HOLD_CAUSE_TASK_AUDIT), (.tableEcc, Reg.TRP_HOLD_CAUSE_TABLE_ECC), (.hostLoss, Reg.TRP_HOLD_CAUSE_HOST_LOSS),
    (.twinMismatch, Reg.TRP_HOLD_CAUSE_TWIN_MISMATCH), (.memEcc, Reg.TRP_HOLD_CAUSE_MEM_ECC), (.pfail, Reg.TRP_HOLD_CAUSE_PFAIL)] → Gives
    (.restrictionRequest q) s fun t => t.on f = true ∧ t.trp.latch = s.trp.latch ∧ (s.trp.fleet = .go → t.trp.fleet = .hold))
  -- restrictionRequest, twin ambiguity
  ∧ (∀ (s : State), s.Up → Gives (.restrictionRequest .twinAmbiguity) s fun t => t.trp.fleet = .stop ∧ t.trp.latch = true ∧ t.on
    Reg.TRP_STOP_CAUSE_TWIN = true)
  -- restrictionRequest, an own HOLD
  ∧ (∀ (s : State) (q : RestrictReq) (r : Fin 256) (f : Fld), s.Up → ((q = .integrity r ∧ f = Reg.TRP_ROBOT_INTEGRITY r.val) ∨ (q = .coast r ∧
    f = Reg.TRP_ROBOT_COAST r.val) ∨ (q = .mapLost r ∧ f = Reg.TRP_ROBOT_MAP_LOST r.val)) → Gives (.restrictionRequest q) s fun t => t.rd
    (Reg.TRP_ROBOT_OWN r.val) = max (s.rd (Reg.TRP_ROBOT_OWN r.val)) 1 % 4 ∧ t.on f = true)
  -- restrictionRequest, an own STOP
  ∧ (∀ (s : State) (q : RestrictReq) (r : Fin 256) (f : Fld), s.Up → ((q = .loopLost r ∧ f = Reg.TRP_ROBOT_LOOP_LOST r.val) ∨ (q = .envelope r
    ∧ f = Reg.TRP_ROBOT_ENVELOPE r.val)) → Gives (.restrictionRequest q) s fun t => t.rd (Reg.TRP_ROBOT_OWN r.val) = max (s.rd
    (Reg.TRP_ROBOT_OWN r.val)) 2 % 4 ∧ t.on f = true)
  -- trapFrameRepeat
  ∧ (∀ (s : State) (r : TrapRepeat) (rest : List TrapRepeat), s.Up → s.trp.repeats = r :: rest → Gives .trapFrameRepeat s fun t => t = (fun (y
    : State) => { y with trp := { y.trp with repeats := if r.left ≤ 1 then rest else rest ++ [{ r with left := r.left - 1 }] } })
    (s.emitTrap r.bytes))
  -- beaconTick, none to send
  ∧ (∀ (s : State), s.Up → (s.on Reg.CLK_ADMIT_STATUS_BEACON_ON = false ∨ s.follows = true ∨ s.mute = true) → Gives .beaconTick s fun t => t =
    s)
  -- beaconTick, sent
  ∧ (∀ (s b u m w : State) (f : List Nat) (time : YTime), s.Up → s.on Reg.CLK_ADMIT_STATUS_BEACON_ON = true ∧ s.follows = false ∧ s.mute =
    false ∧ s.pwr.pdown = none → time = nextAt 100 s.now s.trp.beaconAt ∧ b = (fun (a : State) =>
    { a with trp := { a.trp with beaconAt := some time } }) (s.advance time) → b.broadcast 0x10 (b.beaconBody time) = (some f, u) → m = (if
    u.twn.mirrored then u.linkSend 0x17 f else u) → w = ((m.sendLan 0 f).sendLan 1 f).sendRadio 6 f → Gives .beaconTick s fun t => t = (w.wr
    Reg.TRP_STATUS_UNAUTH (bit (decide (w.life ≤ 1)))).wr Reg.PIN_PANTRY_STATUS_BEACON_UNAUTH (bit (decide (w.life ≤ 1))))
  -- hold
  ∧ (∀ (s : State) (c : Cmd) (d : List Byte), s.Up → s.Accepts c .command → c.desc.length = 32 → trapBad d 1 = false ∧ s.trapTagOk d = true ∧
    later (leAt d 4 4) (s.rd Reg.TRP_CMD_SEQ) = true → Gives (.hold c d) s fun t => (s.trp.fleet = .go → t.trp.fleet = .hold) ∧ t.on
    Reg.TRP_HOLD_CAUSE_HOST = true ∧ t.Completed c St.done 32 0)
  -- stop
  ∧ (∀ (s : State) (c : Cmd) (d : List Byte), s.Up → s.Accepts c .command → c.desc.length = 32 → trapBad d 2 = false ∧ s.trapTagOk d = true ∧
    later (leAt d 4 4) (s.rd Reg.TRP_CMD_SEQ) = true → Gives (.stop c d) s fun t => t.trp.fleet = .stop ∧ t.trp.latch = true ∧ t.on
    Reg.TRP_STOP_CAUSE_HOST = true ∧ t.Completed c St.done 32 0)
  -- go
  ∧ (∀ (s : State) (c : Cmd) (d : List Byte), s.Up → s.Accepts c .command → c.desc.length = 32 → trapBad d 3 = false ∧ s.trapTagOk d = true ∧
    later (leAt d 4 4) (s.rd Reg.TRP_CMD_SEQ) = true → s.mode.fleet = true → Gives (.go c d) s fun t => t = ((s.begun c).wr Reg.TRP_CMD_SEQ
    (leAt d 4 4)).epochInput c .go (d.map BitVec.toNat))
  -- clear, armed, outside the committing modes
  ∧ (∀ (s : State) (c : Cmd) (d : List Byte), s.Up → s.Accepts c .command → c.desc.length = 32 → trapBad d 4 = false ∧ s.trapTagOk d = true ∧
    later (leAt d 4 4) (s.rd Reg.TRP_CMD_SEQ) = true → s.mode.commits = false ∧ s.follows = false → s.on Reg.TRP_STATUS_ARMED = true ∧
    s.stopSourcesClear = true ∧ s.trp.fleet = .stop → Gives (.clear c d) s fun t => t.trp.fleet = .hold ∧ t.trp.latch = false ∧ t.on
    Reg.TRP_HOLD_CAUSE_RECOVER = true ∧ t.rd Reg.TRP_STATUS_ARMED = 0 ∧ t.Completed c St.done 32 0 ∧ t.mode = s.mode)
  -- clear, armed, in a committing mode
  ∧ (∀ (s : State) (c : Cmd) (d : List Byte), s.Up → s.Accepts c .command → c.desc.length = 32 → trapBad d 4 = false ∧ s.trapTagOk d = true ∧
    later (leAt d 4 4) (s.rd Reg.TRP_CMD_SEQ) = true → (s.mode.commits = true ∧ (s.mode = .faultSafe → s.pwr.core = false)) → s.on
    Reg.TRP_STATUS_ARMED = true → Gives (.clear c d) s fun t => t = ((s.begun c).wr Reg.TRP_CMD_SEQ (leAt d 4 4)).epochInput c .clear (d.map
    BitVec.toNat))
  -- robotHold
  ∧ (∀ (s : State) (c : Cmd) (d : List Byte), s.Up → s.Accepts c .command → c.desc.length = 32 → trapBad d 5 = false ∧ s.trapTagOk d = true ∧
    later (leAt d 4 4) (s.rd Reg.TRP_CMD_SEQ) = true → Gives (.robotHold c d) s fun t => t.on (Reg.TRP_ROBOT_HOST (byteAt d 2)) = true ∧
    t.Completed c St.done 32 0)
  -- robotStop
  ∧ (∀ (s : State) (c : Cmd) (d : List Byte), s.Up → s.Accepts c .command → c.desc.length = 32 → trapBad d 6 = false ∧ s.trapTagOk d = true ∧
    later (leAt d 4 4) (s.rd Reg.TRP_CMD_SEQ) = true → Gives (.robotStop c d) s fun t => t.on (Reg.TRP_ROBOT_HOST (byteAt d 2)) = true ∧
    t.rd (Reg.TRP_ROBOT_OWN (byteAt d 2)) = max (s.rd (Reg.TRP_ROBOT_OWN (byteAt d 2))) 2 % 4 ∧ t.Completed c St.done 32 0)
  -- robotGo, outside the committing modes
  ∧ (∀ (s : State) (c : Cmd) (d : List Byte), s.Up → s.Accepts c .command → c.desc.length = 32 → trapBad d 7 = false ∧ s.trapTagOk d = true ∧
    later (leAt d 4 4) (s.rd Reg.TRP_CMD_SEQ) = true → s.mode.commits = false ∧ s.follows = false → s.robotGoConflict (byteAt d 2) = false →
    Gives (.robotGo c d) s fun t => t = (State.ownGo ((s.begun c).wr Reg.TRP_CMD_SEQ (leAt d 4 4)) (byteAt d 2)).finish c St.done 32 0 ∧
    t.rd (Reg.TRP_ROBOT_OWN (byteAt d 2)) = 0)
  -- robotGo, in a committing mode
  ∧ (∀ (s : State) (c : Cmd) (d : List Byte), s.Up → s.Accepts c .command → c.desc.length = 32 → trapBad d 7 = false ∧ s.trapTagOk d = true ∧
    later (leAt d 4 4) (s.rd Reg.TRP_CMD_SEQ) = true → s.mode.commits = true → Gives (.robotGo c d) s fun t => t = ((s.begun c).wr
    Reg.TRP_CMD_SEQ (leAt d 4 4)).epochInput c (.robotGo (byteAt d 2)) (d.map BitVec.toNat))
  -- hold, a tag that does not verify
  ∧ (∀ (s : State) (c : Cmd) (d : List Byte), s.Up → s.Accepts c .command → c.desc.length = 32 → trapBad d 1 = false ∧ s.trapTagOk d = false →
    Gives (.hold c d) s fun t => t = (((s.begun c).bump Reg.TRP_AUTH_FAIL Reg.TRP_FAULT_CNT_SAT).fault Reg.TRP_FAULT_AUTH_FAIL).finish c
    St.authFail 32 0)
  -- trapCommit
  ∧ (∀ (s : State), s.Up → s.mode.fleet = false ∧ s.follows = false → 10 ≤ s.sh Reg.TRP_CFG_DISC_TIME ∧ 25 ≤ s.sh Reg.TRP_CFG_BEACON_TIMEOUT ∧
    s.sh Reg.TRP_CFG_BEACON_TIMEOUT ≤ 100 ∧ 5 ≤ s.sh Reg.TRP_CFG_ARM_WINDOW ∧ s.sh Reg.TRP_CFG_ARM_WINDOW ≤ 120 ∧ 0 < s.sh
    Reg.TRP_CFG_PROOF_DAYS → Gives .trapCommit s fun t => t = s.commit Reg.TRP_COMMIT_RESULT [Reg.TRP_CFG_DISC_TIME,
    Reg.TRP_CFG_BEACON_TIMEOUT, Reg.TRP_CFG_ARM_WINDOW, Reg.TRP_CFG_PROOF_DAYS] St.done)

/-- The Dormer's power-on, bursts, events and commits. Each command completes (exec answers a next state) in every state that meets its
  hypotheses. AON power-on resets the Dormer: its registers to their reset values, its queue, its holds and STOP sources, the last-word area
  of the Tally. A burst of a powered Dormer, so many ticks after the last, counts the ticks and the calendar's seconds, applies a CHAN and
  then a RULES commit that waits, shows a slow clock, samples every enabled channel that is due in ascending order, evaluates in ascending
  order each enabled rule whose channel was sampled and is VALID, with STOP_OUT's level at the burst, and shows what the active rules hold.
  Where no commit waits, no rule is enabled and XTAL32 runs, a channel that is due holds afterwards its filters advanced by the sample (a
  WATCH input as 4,095 or 0). The event longest queued leaves on chutes 46 and 47 when both take it. A CHAN or RULES commit that breaks no
  rule answers DONE and waits for the next tick; one that breaks one answers BAD_FORMAT and changes nothing else. Rests on parts of rules
  R370, R371, R373, R374, R375, R381, R382, R383, R384, R385, R386. -/
def Obligations.DormerWatch : Prop :=
  -- aonPowerOn
  (∀ (s : State) (f : Fld), drmOwn f.key = true → Gives .aonPowerOn s fun t => t.drm = Drm.reset ∧ t.trp.dormerHold = [] ∧ t.trp.dormerStop
    = [] ∧ t.trp.dormant = false ∧ t.tly.last = LastWord.reset ∧ t.rd f = f.rst ∧ t.mode = s.mode)
  -- dormerBurst
  ∧ (∀ (s a b u : State) (n tick : Nat) (reading time : CalTime) (raw : List (BitVec 12)) (rules : List Nat), s.aonOn = true → tick =
    s.drm.tick + max 1 n ∧ time = { reading with sec := max reading.sec s.tim.cal } → a = (State.applyChan (State.vbatSeconds
    { s with drm := { s.drm with tick := tick } } (time.sec - s.tim.cal))).applyRules time → b = (if a.on Reg.CLK_SRC_STATUS_XTAL32_FALLBACK
    && !a.on Reg.DRM_FAULT_SLOW_CLOCK then a.fault Reg.DRM_FAULT_SLOW_CLOCK else a).wr Reg.DRM_STATUS_ON_LPRC32 (a.rd
    Reg.CLK_SRC_STATUS_XTAL32_FALLBACK) → u = ((List.range 16).filter (b.chDue tick)).foldl (fun (x : State) k => x.sampleCh raw k) b →
    rules = (List.range 64).filter (fun r => ruleBits u.drm.rules r 0 0 1 == 1 && ((List.range 16).filter (b.chDue tick)).contains (ruleSrc
    u.drm.rules r) && (u.drmCh (ruleSrc u.drm.rules r)).valid) → Gives (.dormerBurst n reading raw) s fun t => t = (u.evalAll b.stopOut time
    rules).showActive)
  -- dormerBurst, a channel that is due
  ∧ (∀ (s : State) (k n : Nat) (time : CalTime) (raw : List (BitVec 12)), s.aonOn = true → s.drm.chanNext = none ∧ s.drm.rulesNext = none → (∀
    r < 64, ruleBits s.drm.rules r 0 0 1 = 0) → s.on Reg.CLK_SRC_STATUS_XTAL32_FALLBACK = false → n < 16 ∧ s.chDue (s.drm.tick + max 1 k) n
    = true → Gives (.dormerBurst k time raw) s fun t => t.drmCh n = (s.drmCh n).sample (s.rd (Reg.DRM_CH_CFG_SHIFT n)) (if n < 8 then
    (raw.getD n 0).toNat else if (raw.getD n 0).toNat = 0 then 0 else 4095))
  -- dormerEventDrain
  ∧ (∀ (s : State) (e : DrmEvent) (rest : List DrmEvent), s.Up → s.drm.queue = e :: rest → s.fits 46 (toWords e.bytes) = true ∧ s.fits 47
    (toWords e.bytes) = true → Gives .dormerEventDrain s fun t => t = State.wr ((fun (y : State) =>
    { y with drm := { s.drm with queue := rest } }) ((s.putPacket 46 0 none (toWords e.bytes)).putPacket 47 0 none (toWords e.bytes)))
    Reg.DRM_STATUS_QUEUED rest.length)
  -- chanCommit
  ∧ (∀ (s : State), s.Up → (∀ n < 16, s.sh (Reg.DRM_CH_CFG_P n) ≤ 10) → Gives .chanCommit s fun t => t =
    { s with drm := { s.drm with chanNext := some (drmChanGroup.map s.sh) } }.wr Reg.DRM_CHAN_COMMIT_RESULT St.done)
  -- chanCommit, refused
  ∧ (∀ (s : State) (n : Nat), s.Up → n < 16 ∧ 10 < s.sh (Reg.DRM_CH_CFG_P n) → Gives .chanCommit s fun t => t = s.wr
    Reg.DRM_CHAN_COMMIT_RESULT St.badFormat)
  -- dormerRulesCommit
  ∧ (∀ (s : State), s.Up → (∀ r < 64, ruleBad s.drm.rulesSh r = false) → Gives .dormerRulesCommit s fun t => t =
    { s with drm := { s.drm with rulesNext := some (s.drm.rulesSh, s.sh Reg.DRM_AUX_CFG_IDLE) } }.wr Reg.DRM_RULES_COMMIT_RESULT St.done)
  -- dormerRulesCommit, refused
  ∧ (∀ (s : State) (n : Nat), s.Up → n < 64 ∧ ruleBad s.drm.rulesSh n = true → Gives .dormerRulesCommit s fun t => t = s.wr
    Reg.DRM_RULES_COMMIT_RESULT St.badFormat)

/-- ZYP frames received and robot frames decided. Each command completes (exec answers a next state) in every state that meets its hypotheses. A
  ZYP frame at an admitting LAN that passes the rows of the receive table (length and header, its chute takes it, a roster entry, ACTIVE
  lifecycle and a tag that verifies, a window that finds it fresh, ECHO and EPOCH in range) leaves its window with it recorded, its sender's
  endpoint as the way to the robot at that port, and the port's count one higher. While the LANs let none in a frame is dropped and counted;
  one of a bad length or header is counted in PORT_BAD_FRAME. The STATUS longest waiting at the decision pair, of a robot on the roster, is
  kept with its arrival time where it keeps its format, and answered BAD_FORMAT where it breaks it. A REQUEST, RELEASE or EVENT at the head
  of the list of an opened, released and snapped epoch that is not decided, with no host input admitted before it, leaves the list and is
  decided (`decideOp`). Rests on parts of rules R387, R388, R392, R393, R396, R397, R398, R399, R400, R401, R402. -/
def Obligations.ZypReceiving : Prop :=
  -- zypFrameReceive, accepted
  (∀ (s r : State) (p : Fin 3) (e : Endpoint) (f : List Byte) (lid k : Nat) (w : Window), s.Up → s.pwr.lanOpen = true ∧ 45 ≤ f.length ∧
    f.length ≤ 1472 ∧ s.zypHeaderBad p.val f = false → (s.on Reg.CLK_ADMIT_STATUS_BOOT_DONE = true ∨ ((List.range 4).map fun j => (s.chute
    (4 * p.val + j)).pkts.length).sum < 16) → s.offerFrom (4 * p.val) 0 (s.lidOf (leAt f 4 4)) (toWords (f.map BitVec.toNat)) = (r, true) →
    s.lidOf (leAt f 4 4) = some lid ∧ s.life = 2 ∧ s.robotKey (leAt f 4 4) = some k → gcmTag k (zypNonce (byteAt f 1) 0 (leAt f 4 4) (leAt f
    12 4) (leAt f 16 4)) ((f.take (f.length - 16)).map BitVec.toNat) = (f.drop (f.length - 16)).map BitVec.toNat → judgeWindow (AMap.find
    (lid * 16 + byteAt f 1) s.zyp.windows) (leAt f 12 4) (leAt f 16 4) = (.fresh, w) → leAt f 24 4 = s.rd Reg.LNA_ZYP_BOOT ∧ later (leAt f
    20 4) (s.rd Reg.GLB_EPOCH) = false ∧ later ((s.rd Reg.GLB_EPOCH + 4294967296 - s.rd Reg.LNA_ZYP_PORT_EPOCH_AGE) % 4294967296) (leAt f 20
    4) = false → Gives (.zypFrameReceive p e f) s fun t => t.zyp.windows = AMap.set (lid * 16 + byteAt f 1) w s.zyp.windows ∧ t.zyp.reach =
    AMap.set (lid * 2 + p.val) e s.zyp.reach ∧ t.rd (Reg.PORT_ZYP_RX p.val) = (s.rd (Reg.PORT_ZYP_RX p.val) + 1) % 4294967296)
  -- zypFrameReceive, while the LANs let none in
  ∧ (∀ (s : State) (p : Fin 3) (e : Endpoint) (f : List Byte), s.Up → s.pwr.lanOpen = false ∧ p.val ≠ 2 → Gives (.zypFrameReceive p e f) s fun
    t => t = s.dropFrame p.val)
  -- zypFrameReceive, of a bad length or header
  ∧ (∀ (s : State) (p : Fin 3) (e : Endpoint) (f : List Byte), s.Up → (s.pwr.lanOpen = true ∨ p.val = 2) → (f.length < 45 ∨ f.length > (if
    p.val = 2 then 640 else 1472) ∨ s.zypHeaderBad p.val f = true) → Gives (.zypFrameReceive p e f) s fun t => t = s.portCount
    Reg.PORT_BAD_FRAME p.val)
  -- robotStatus
  ∧ (∀ (s u : State) (o : OwnFrame) (rest : List OwnFrame) (b : List Byte), s.Up → s.zyp.statusIn = o :: rest ∧ b = (o.bytes.drop 28).take
    (o.bytes.length - 44) → u = { s with zyp := { s.zyp with statusIn := rest } } → (AMap.find o.lid s.zyp.roster).isSome = true → (b.length
    = 32 ∧ byteAt b 0 ≤ 5 ∧ byteAt b 1 < 32 ∧ (byteAt b 2 ≤ 100 ∨ byteAt b 2 = 255) ∧ byteAt b 3 = 0 ∧ leAt b 18 4 < 1000000000 ∧ leAt b 28
    4 = 0) → Gives .robotStatus s fun t => t =
    { u with zyp := { u.zyp with status := AMap.set o.lid (b.map BitVec.toNat ++ stamp s.now) u.zyp.status } })
  -- robotStatus, one that breaks its format
  ∧ (∀ (s u : State) (o : OwnFrame) (rest : List OwnFrame) (b : List Byte), s.Up → s.zyp.statusIn = o :: rest ∧ b = (o.bytes.drop 28).take
    (o.bytes.length - 44) → u = { s with zyp := { s.zyp with statusIn := rest } } → (AMap.find o.lid s.zyp.roster).isSome = true → (b.length
    = 32 ∧ (byteAt b 0 > 5 ∨ byteAt b 1 ≥ 32 ∨ (byteAt b 2 > 100 ∧ byteAt b 2 ≠ 255) ∨ byteAt b 3 ≠ 0 ∨ leAt b 18 4 ≥ 1000000000 ∨ leAt b 28
    4 ≠ 0)) → Gives .robotStatus s fun t => t = u.refuseReply o.lid 2 o.seq St.badFormat)
  -- robotRequest
  ∧ (∀ (s : State) (a : Nat) (op : RobotOp) (q : ReqPkt) (rest : List (Nat × RobotOp)), s.Up → s.epo.opened = true ∧ s.epo.released = true ∧
    s.epo.snapped = true ∧ s.epo.decided = false → s.prepare.epo.ops = (a, op) :: rest ∧ op.body = .request q → (∀ x l,
    s.prepare.epo.taken.drop s.prepare.epo.hostDone = x :: l → laterEq x.adm a = true) → Gives .robotRequest s fun t => t =
    ({ s.prepare with epo := { s.prepare.epo with ops := rest } }).decideOp op)
  -- robotRelease
  ∧ (∀ (s : State) (a : Nat) (op : RobotOp) (q : RelPkt) (rest : List (Nat × RobotOp)), s.Up → s.epo.opened = true ∧ s.epo.released = true ∧
    s.epo.snapped = true ∧ s.epo.decided = false → s.prepare.epo.ops = (a, op) :: rest ∧ op.body = .release q → (∀ x l,
    s.prepare.epo.taken.drop s.prepare.epo.hostDone = x :: l → laterEq x.adm a = true) → Gives .robotRelease s fun t => t =
    ({ s.prepare with epo := { s.prepare.epo with ops := rest } }).decideOp op)
  -- robotEvent
  ∧ (∀ (s : State) (a : Nat) (op : RobotOp) (q : TaskEv) (rest : List (Nat × RobotOp)), s.Up → s.epo.opened = true ∧ s.epo.released = true ∧
    s.epo.snapped = true ∧ s.epo.decided = false → s.prepare.epo.ops = (a, op) :: rest ∧ op.body = .event q → (∀ x l,
    s.prepare.epo.taken.drop s.prepare.epo.hostDone = x :: l → laterEq x.adm a = true) → Gives .robotEvent s fun t => t =
    ({ s.prepare with epo := { s.prepare.epo with ops := rest } }).decideOp op)

/-- Streams, the safety radio, the roster and the commits of ZYP. Each command completes (exec answers a next state) in every state that meets
  its hypotheses. A unit that neither follows nor is mirrored and saw an ECHO starts, at PAIR_STREAM_CATCHUP, a pair stream with the next
  BOOT of its seat above the higher of that ECHO and its own counter. STREAM_RENEW starts a new pair stream where one of its SEQ counters
  has come to 0xFFFF_0000, and new unit streams where one of theirs has. With the radio driven, nothing on the air and chute 17 enabled, the
  packet a read of chute 17 would start leaves the chute, is on the air and is counted in ZYP_TX; the transmit interrupt ends it, and a
  received frame is refused and counted. ROSTER with entries that pass their checks applies at once and answers DONE with its length outside
  the fleet modes, and joins the epoch in them. STATUS_READ hands out the kept statuses, 48 zero bytes for a robot without one. An
  admissible ZYP commit outside the fleet modes is live; an admissible NET commit of either LAN is live and closes that LAN's caster clients
  where its address changes. SRP_CFG keeps SCK_MHZ within 1 to 20. Rests on parts of rules R390, R391, R395, R412, R413, R416, R417, R418,
  R420, R421. -/
def Obligations.ZypStreamsAndRadio : Prop :=
  -- pairStreamCatchup
  (∀ (s : State) (e n : Nat), s.Up → s.zyp.catchup = some e ∧ n = s.nextBoot (if later e s.zyp.bootCtr then e else s.zyp.bootCtr) →
    s.follows = false ∧ s.twn.mirrored = false → Gives .pairStreamCatchup s fun t => t.zyp.catchup = none ∧ t.zyp.bootCtr = n ∧ t.zyp.pairOn
    = true ∧ t.zyp.seq = [] ∧ t.rd Reg.LNA_ZYP_BOOT = n % 4294967296)
  -- streamRenew, the pair stream
  ∧ (∀ (s : State), s.Up → s.zyp.pairOn = true ∧ (s.zyp.seq.any fun p => decide (p.2 ≥ 0xFFFF0000)) = true ∧ s.follows = false → s.trp.seqTrap
    < 0xFFFF0000 ∧ s.zyp.seqCor < 0xFFFF0000 → Gives .streamRenew s fun t => t = s.startPair ∧ t.zyp.bootCtr = s.nextBoot s.zyp.bootCtr ∧
    t.zyp.seq = [])
  -- streamRenew, the unit streams
  ∧ (∀ (s : State), s.Up → ((s.zyp.seq.any fun p => decide (p.2 ≥ 0xFFFF0000)) = false ∨ s.zyp.pairOn = false ∨ s.follows = true) →
    (s.trp.seqTrap ≥ 0xFFFF0000 ∨ s.zyp.seqCor ≥ 0xFFFF0000) → Gives .streamRenew s fun t => t = s.startUnit ∧ t.zyp.unitBoot = s.nextBoot
    s.zyp.bootCtr ∧ t.zyp.seqCor = 0 ∧ t.trp.seqTrap = 0)
  -- radioTransmit
  ∧ (∀ (s : State) (p : Packet) (rest : List Packet), s.Up → s.zyp.onAir = none ∧ s.driveRadio = true ∧ s.chuteOn 17 = true → bestPacket
    (s.chute 17).pkts = some (p, rest) ∧ (s.chute 17).reading = none → Gives .radioTransmit s fun t => t.zyp.onAir = some
    ⟨p.prio, (p.words.flatMap fun (w : DWord) => le 8 w.toNat).take (radioLength (p.words.flatMap fun (w : DWord) => le 8 w.toNat))⟩ ∧
    (t.chute 17).pkts = rest ∧ t.rd (Reg.PORT_ZYP_TX 2) = (s.rd (Reg.PORT_ZYP_TX 2) + 1) % 4294967296)
  -- radioIrq, of a transmit
  ∧ (∀ (s : State), s.Up → Gives (.radioIrq none) s fun t => t = { s with zyp := { s.zyp with onAir := none } })
  -- radioIrq, of a received frame
  ∧ (∀ (s : State) (b : List Byte), s.Up → Gives (.radioIrq (some b)) s fun t => t = s.portCount Reg.PORT_BAD_FRAME 2)
  -- roster, outside the fleet modes
  ∧ (∀ (s : State) (c : Cmd) (d : List Byte), s.Up → s.Accepts c .dataIn → s.follows = false ∧ s.mode.fleet = false → c.desc.length.toNat % 8
    = 0 ∧ 8 ≤ c.desc.length.toNat ∧ c.desc.length.toNat ≤ 2048 → s.rosterStatus (rosterLines (d.take c.desc.length.toNat)) = St.done → Gives
    (.roster c d) s fun t => t = ((s.begun c).rosterApply (rosterLines (d.take c.desc.length.toNat))).finish c St.done c.desc.length.toNat
    0)
  -- roster, in FLEET_RUN or FLEET_HOLD
  ∧ (∀ (s : State) (c : Cmd) (d : List Byte), s.Up → s.Accepts c .dataIn → s.follows = false ∧ s.mode.fleet = true → c.desc.length.toNat % 8 =
    0 ∧ 8 ≤ c.desc.length.toNat ∧ c.desc.length.toNat ≤ 2048 → Gives (.roster c d) s fun t => t = (s.begun c).epochInput c (.roster
    (rosterLines (d.take c.desc.length.toNat))) ((d.take c.desc.length.toNat).map BitVec.toNat))
  -- statusRead
  ∧ (∀ (s : State) (c : Cmd), s.Up → s.Accepts c .dataOut → s.follows = false ∧ c.desc.p0.toNat < 256 → c.desc.length.toNat % 48 = 0 ∧
    c.desc.p0.toNat + c.desc.length.toNat / 48 ≤ 256 → Gives (.statusRead c) s fun t => t = (s.begun c).finishData c ((List.range
    (c.desc.length.toNat / 48)).flatMap fun i => (AMap.find (c.desc.p0.toNat + i) s.zyp.status).getD (List.replicate 48 0)))
  -- zypCommit
  ∧ (∀ (s : State), s.Up → s.mode.fleet = false ∧ s.follows = false → s.sh Reg.LNA_ZYP_CFG_YARD_ID ≠ broadcastId ∧ s.lidOf (s.sh
    Reg.LNA_ZYP_CFG_YARD_ID) = none → s.sh Reg.LNA_ZYP_PORT_UDP_PORT ≠ 0 ∧ 4 ≤ s.sh Reg.LNA_ZYP_PORT_EPOCH_AGE → Gives .zypCommit s fun t =>
    t = s.commit Reg.LNA_ZYP_COMMIT_RESULT [Reg.LNA_ZYP_CFG_YARD_ID, Reg.LNA_ZYP_PORT_UDP_PORT, Reg.LNA_ZYP_PORT_EPOCH_AGE] St.done)
  -- netCommit
  ∧ (∀ (s : State) (b : Bool) (addr pre other res : Fld), s.Up → (addr, pre, other, res) = (if b then (Reg.LNB_IPV4, Reg.LNB_IPV4_CFG_PREFIX,
    Reg.LNA_IPV4, Reg.LNB_NET_COMMIT_RESULT) else (Reg.LNA_IPV4, Reg.LNA_IPV4_CFG_PREFIX, Reg.LNB_IPV4, Reg.LNA_NET_COMMIT_RESULT)) → 8 ≤
    s.sh pre ∧ s.sh pre ≤ 30 ∧ addrBad (s.sh addr) (s.sh pre) = false → (s.sh addr = 0 ∨ s.sh addr ≠ s.rd other) → Gives (.netCommit b) s
    fun t => t = (if s.sh addr = s.rd addr then s.commit res [addr, pre] St.done else (s.commit res [addr, pre] St.done).closeClients fun x
    => x.lanB == b))
  -- srpCfgWrite
  ∧ (∀ (s : State) (x : Word), s.Up → Gives (.srpCfgWrite x) s fun t => t.rd Reg.SRP_CFG_SCK_MHZ = max 1 (min 20 (bits x.toNat 0 5)) ∧ t.mode
    = s.mode)

/-- Sources, corrections and steps of yard time. Each command completes (exec answers a next state) in every state that meets its hypotheses.
  GNSS_CLOCK_INPUT, at the whole second, takes what the navigation data says of UTC; with valid solutions in the second that ends, GNSS has
  their mean as its offset, which unless GNSS is lost is the source's input; a second without one sends none. SOURCE_LOST, 2 s after the
  last valid solution, makes GNSS invalid and lost, and where it was in force the next source or holdover follows: with no second source
  none is in force and SRC_LOST shows. SOURCE_RETURN, after valid solutions over 1 s, makes GNSS valid with the median of that second and
  feeds a correction where it is in force. HOLDOVER_DEGRADE, in holdover or with a refused correction, shows the estimate and lowers the
  quality to it. TQ_LOCKED, 10 s after the offset came within 40 ns, makes the quality LOCKED. SLEW_END ends slew and reference domain,
  presets the loop and restores the held frequency. AUTO_STEP, 60 s after a refused or slewing correction became stable, in a mode that may
  step, steps. STEP in a mode that may step, with an offset pending, steps yard time by it and answers DONE; in a steady mode REFUSED_MODE,
  with none pending CONFLICT. SLEW_ACCEPT with an offset pending slews to it, DONE; with none CONFLICT. The latch takes yard time.
  CALENDAR_WRITE, at the whole second, sets the calendar where yard time is set and its quality known, and else nothing. TWIN_CLOCK_INPUT of
  a follower feeds the median offset of a second with 50 exchanges or more; after fewer the TWIN source is lost. Rests on parts of rules
  R423, R425, R426, R427, R428, R429, R430, R431, R432, R434, R443. -/
def Obligations.TimeSources : Prop :=
  -- gnssClockInput, a second with valid solutions
  (∀ (s a u w : State) (off : Int) (utc : Option UtcInfo), s.Up → a = s.wholeSecond → u =
    (match utc with | some x => a.wr Reg.TIM_UTC (x.offset.toNat + 65536 + 131072 * bit x.leap61 + 262144 * bit x.leap59) | none => a) →
    (u.solsSince u.now 1000000000 false).isEmpty = false ∧ off = wholeRatio (u.solsSince u.now 1000000000 false).sum (u.solsSince u.now
    1000000000 false).length → w = { u with tim := { u.tim with gnssOff := off, gnssOk := !u.tim.gnssLost } } → Gives (.gnssClockInput utc)
    s fun t => t = (if w.tim.gnssLost then w else w.sourceInput 0 off 65536))
  -- gnssClockInput, a second without one
  ∧ (∀ (s u : State) (utc : Option UtcInfo), s.Up → u =
    (match utc with | some x => s.wholeSecond.wr Reg.TIM_UTC (x.offset.toNat + 65536 + 131072 * bit x.leap61 + 262144 * bit x.leap59) | none => s.wholeSecond)
    → (u.solsSince u.now 1000000000 false).isEmpty = true → Gives (.gnssClockInput utc) s fun t => t = u)
  -- sourceLost
  ∧ (∀ (s u w : State) (a : YTime), s.Up → s.tim.solLast = some a ∧ s.tim.gnssLost = false → u = s.advance (ofNs (toNs a + 2000000000 : Nat)
    a.frac) → w = { u with tim := { u.tim with gnssOk := false, gnssLost := true } } → Gives .sourceLost s fun t => t = (if u.rd
    Reg.TIM_STATUS_SOURCE = 0 then w.afterLoss else w))
  -- sourceLost, with no second source
  ∧ (∀ (s u : State) (a : YTime), s.Up → s.tim.solLast = some a ∧ s.tim.gnssLost = false ∧ s.follows = false → u = s.advance (ofNs (toNs a +
    2000000000 : Nat) a.frac) → u.rd Reg.TIM_STATUS_SOURCE = 0 ∧ u.rd Reg.TIM_CFG_SRC_FIRST = 0 ∧ u.rd Reg.TIM_CFG_SRC_SECOND = 2 → Gives
    .sourceLost s fun t => t.rd Reg.TIM_STATUS_SOURCE = 3 ∧ t.rd Reg.TIM_STATUS_STEERING = 0 ∧ t.tim.gnssOk = false ∧ t.tim.gnssLost = true
    ∧ t.on Reg.TIM_FAULT_SRC_LOST = true)
  -- sourceReturn
  ∧ (∀ (s : State) (a b : YTime) (off : Int), s.Up → s.tim.solFrom = some a ∧ s.tim.solLast = some b ∧ s.tim.gnssLost = true → 65536000000000
    ≤ timeDiff b a → off = median (s.solsSince b 1000000000 true) → Gives .sourceReturn s fun t => t = State.sourceInput
    { s with tim := { s.tim with gnssOk := true, gnssLost := false, gnssOff := off, confirm := s.tim.confirm || s.rd Reg.TIM_STATUS_SOURCE == 0 } }
    0 off 65536)
  -- holdoverDegrade
  ∧ (∀ (s u : State) (x : YTime) (e : Nat), s.Up → u = s.advance x ∧ e = u.estimate (timeDiff u.now u.tim.lastOk / 65536).toNat → ((u.rd
    Reg.TIM_STATUS_SOURCE = 3 ∧ u.rd Reg.TIM_STATUS_SET_STATE = 2) ∨ u.on Reg.TIM_STATUS_REJECTED = true) → Gives (.holdoverDegrade x) s fun
    t => t = u.holdAt u.now ∧ t.rd Reg.TIM_EST_ERR = min e 4294967295 ∧ holdTq e ≤ t.rd Reg.TIM_STATUS_TQ)
  -- tqLocked
  ∧ (∀ (s u : State) (a : YTime), s.Up → s.tim.lockFrom = some a ∧ u = s.advance (ofNs (toNs a + 10000000000 : Nat) a.frac) → s.rd
    Reg.TIM_STATUS_SOURCE = 0 ∧ s.rd Reg.TIM_STATUS_TQ = 1 ∧ s.on Reg.TIM_STATUS_STEERING = true ∧ s.on Reg.COR_STATUS_REF_VALID = true →
    Gives .tqLocked s fun t => t = State.wr { u with tim := { u.tim with e0 := 40 } } Reg.TIM_STATUS_TQ 0)
  -- slewEnd
  ∧ (∀ (s : State) (k : Int), s.Up → s.tim.slew = some k → Gives .slewEnd s fun t => t.tim.slew = none ∧ t.tim.preset = true ∧ t.tim.refDom =
    none ∧ t.rd Reg.TIM_STATUS_SLEWING = 0 ∧ t.rd Reg.TIM_STATUS_SHADOW = 0 ∧ t.rd Reg.TIM_PTP_STATE_ALT_ACTIVE = 0 ∧ t.rd Reg.TIM_FREQ =
    unsigned 32 s.tim.held % 2 ^ Reg.TIM_FREQ.w)
  -- autoStep
  ∧ (∀ (s u : State) (v : Int) (a : YTime), s.Up → s.tim.stepFrom = some (v, a) ∧ u = s.advance (ofNs (toNs a + 60000000000 : Nat) a.frac) →
    s.on Reg.TIM_CFG_AUTO_STEP = true ∧ s.steady = false → (s.offsetPending = true ∨ s.on Reg.TIM_STATUS_SHADOW = true) → Gives .autoStep s
    fun t => t = (slewEndOp u).stepRefused)
  -- step
  ∧ (∀ (s : State), s.Up → s.steady = false ∧ s.offsetPending = true → Gives .step s fun t => t = s.stepRefused.timResult St.done ∧ t.now =
    ofNs ((toNs s.now : Int) + offNs (256 * signed 64 (s.rd Reg.TIM_REF_OFFSET))) s.now.frac ∧ t.rd Reg.TIM_CTRL = 256 * St.done ∧ t.rd
    Reg.TIM_STATUS_REJECTED = 0)
  -- step, in a steady mode
  ∧ (∀ (s : State), s.Up → s.steady = true → Gives .step s fun t => t = s.wr Reg.TIM_CTRL (256 * St.refusedMode))
  -- step, with no offset pending
  ∧ (∀ (s : State), s.Up → s.steady = false ∧ s.offsetPending = false → Gives .step s fun t => t = s.wr Reg.TIM_CTRL (256 * St.conflict))
  -- slewAccept
  ∧ (∀ (s : State), s.Up → s.offsetPending = true → Gives .slewAccept s fun t => t = (s.accepted.slewBy (256 * signed 64 (s.rd
    Reg.TIM_REF_OFFSET))).timResult St.done ∧ t.tim.slew = some (offNs (256 * signed 64 (s.rd Reg.TIM_REF_OFFSET))) ∧ t.rd
    Reg.TIM_STATUS_SLEWING = 1 ∧ t.rd Reg.TIM_STATUS_REJECTED = 0 ∧ t.rd Reg.TIM_CTRL = 256 * St.done)
  -- slewAccept, with no offset pending
  ∧ (∀ (s : State), s.Up → s.offsetPending = false → Gives .slewAccept s fun t => t = s.wr Reg.TIM_CTRL (256 * St.conflict))
  -- timeLatchRead
  ∧ (∀ (s : State), s.Up → Gives .timeLatchRead s fun t => t = { s with tim := { s.tim with latch := s.now } })
  -- calendarWrite
  ∧ (∀ (s : State), s.Up → s.wholeSecond.rd Reg.TIM_STATUS_SET_STATE = 2 ∧ s.wholeSecond.rd Reg.TIM_STATUS_TQ ≠ 5 → Gives .calendarWrite s fun
    t => t.tim.cal = s.wholeSecond.now.sec ∧ t.tim.calUtc = bits (s.wholeSecond.rd Reg.TIM_UTC) 0 16 ∧ t.tim.calOk = true)
  -- calendarWrite, before yard time is set
  ∧ (∀ (s : State), s.Up → (s.wholeSecond.rd Reg.TIM_STATUS_SET_STATE ≠ 2 ∨ s.wholeSecond.rd Reg.TIM_STATUS_TQ = 5) → Gives .calendarWrite s
    fun t => t = s.wholeSecond)
  -- twinClockInput, with enough exchanges
  ∧ (∀ (s : State), s.Up → s.follows = true → 50 ≤ s.wholeSecond.twn.offsets.length → Gives .twinClockInput s fun t => t =
    ({ s.wholeSecond with twn := { s.wholeSecond.twn with offsets := [], timeOk := true } }).sourceInput 2 (median
    s.wholeSecond.twn.offsets) 65536)
  -- twinClockInput, with fewer than 50
  ∧ (∀ (s : State), s.Up → s.follows = true → s.wholeSecond.twn.offsets.length < 50 → Gives .twinClockInput s fun t => t =
    s.wholeSecond.loseTwin)

/-- PTP, pulse generators, captures and the Timekeeper's commits. Each command completes (exec answers a next state) in every state that meets
  its hypotheses. A Sync at an admitting LAN and a port that takes part leaves its record on chute 44; at a slave port and of DOMAIN it
  makes PTP valid with its offset and feeds the source, with T the time since the Sync before (of the first a free value, log entry 4).
  While the LANs let none in it is dropped and counted. An Announce, with PTP on, gives the port the state that the BMCA's advice and the
  role say; a new grandmaster of the source in force makes the next input a correction. A Delay_Req leaves its record; at a master port, of
  one of its domains, under IEEE 1588 and with outputs on, it is answered up to 4,096 per second and port, and beyond that counted. A parent
  that is silent makes PTP invalid, without Announce moves slave ports on, and where PTP was in force the next source follows. PTP_TX of a
  master port (a master-only port becomes one), with PTP on and not silent, ALT only under DUAL_DOMAIN, counts its sequence and sends its
  Announce, or its Sync with the record of its departure. A transparent clock forwards a Sync or Delay_Req of DOMAIN with records at both
  ports and its count; another frame has no effect. An admissible TIME commit is PENDING, BUSY while one is, and live with DONE at
  TIME_CONFIG_APPLY, on the whole second. An admissible PTP commit is DONE and live. PULSE_COMMIT switches the selected generator off, or on
  with its first time later than 1 ms from now, or answers BAD_FORMAT. PULSE_TIME signals, drives and records the pulse and removes a single
  one or arms a schedule's next. An armed capture edge records its time and counts; one within 100 ns of the last is lost and counted. The
  capture latch takes the capture's words. Rests on parts of rules R436, R437, R438, R439, R440, R441, R442, R444, R446, R447, R448. -/
def Obligations.PtpAndPulses : Prop :=
  -- ptpSyncRx, at a slave port
  (∀ (s u : State) (b : Bool) (off : Int) (m : PtpMsg) (a : YTime), s.Up → s.pwr.lanOpen = true ∧ s.ptpPort b = true ∧ u = s.ptpStamp b 0
    false m → u.rd (portState b) = 9 ∧ m.domain.toNat = u.rd Reg.TIM_PTP_CFG_DOMAIN ∧ u.tim.syncAt = some a → Gives (.ptpSyncRx b off m) s
    fun t => t = State.sourceInput { u with tim := { u.tim with ptpOk := true, ptpOff := off, syncAt := some m.time } } 1 off (rndDiv
    (timeDiff m.time a) 1000000000).toNat)
  -- ptpSyncRx, the first at a slave port
  ∧ (∀ (s u : State) (b : Bool) (off : Int) (m : PtpMsg), s.Up → s.pwr.lanOpen = true ∧ s.ptpPort b = true ∧ u = s.ptpStamp b 0 false m → u.rd
    (portState b) = 9 ∧ m.domain.toNat = u.rd Reg.TIM_PTP_CFG_DOMAIN ∧ u.tim.syncAt = none → Gives (.ptpSyncRx b off m) s fun t => t =
    State.sourceInput { (u.draw 12).2 with tim := { u.tim with ptpOk := true, ptpOff := off, syncAt := some m.time } } 1 off ((u.draw 12).1
    % 4294967296))
  -- ptpSyncRx, at another port
  ∧ (∀ (s u : State) (b : Bool) (off : Int) (m : PtpMsg), s.Up → s.pwr.lanOpen = true ∧ s.ptpPort b = true ∧ u = s.ptpStamp b 0 false m →
    (u.rd (portState b) ≠ 9 ∨ m.domain.toNat ≠ u.rd Reg.TIM_PTP_CFG_DOMAIN) → Gives (.ptpSyncRx b off m) s fun t => t = u)
  -- ptpSyncRx, while the LANs let none in
  ∧ (∀ (s : State) (b : Bool) (off : Int) (m : PtpMsg), s.Up → s.pwr.lanOpen = false → Gives (.ptpSyncRx b off m) s fun t => t = s.dropFrame
    (bit b))
  -- ptpAnnounceRx
  ∧ (∀ (s u : State) (b nm : Bool) (adv : BmcaAdvice), s.Up → s.pwr.lanOpen = true ∧ s.ptpPort b = true ∧ s.tim.ptpOn = true → (u = s.wr
    (portState b)
    (match adv with | .master => if s.rd Reg.TIM_PTP_CFG_ROLE = 2 then 4 else 6 | .passive => 7 | .slave => if s.rd Reg.TIM_PTP_CFG_ROLE = 0 ∨ s.rd (portState (!b)) = 9 then 7 else 9))
    → Gives (.ptpAnnounceRx b adv nm) s fun t => t = (if nm = true ∧ u.rd Reg.TIM_STATUS_SOURCE = 1 then
    { u with tim := { u.tim with confirm := true } } else u))
  -- ptpDelayReq, answered
  ∧ (∀ (s u : State) (b : Bool) (m : PtpMsg) (n : Nat), s.Up → s.pwr.lanOpen = true ∧ s.ptpPort b = true ∧ u = s.ptpStamp b 1 false m → u.rd
    (portState b) = 6 ∧ u.on Reg.TIM_PTP_CFG_PROFILE = false ∧ u.outputsStopped = false → (m.domain.toNat = u.rd Reg.TIM_PTP_CFG_DOMAIN ∨
    (u.on Reg.TIM_CFG_POLICY = true ∧ m.domain.toNat = u.rd Reg.TIM_PTP_CFG_DOMAIN_ALT)) → n = (if (AMap.get u.tim.delayN (bit b) (0, 0)).1
    = m.time.sec then (AMap.get u.tim.delayN (bit b) (0, 0)).2 else 0) ∧ n < 4096 → Gives (.ptpDelayReq b m) s fun t => t =
    { u with tim := { u.tim with delayN := AMap.set (bit b) (m.time.sec, n + 1) u.tim.delayN, delayRsp := AMap.set (bit b) m u.tim.delayRsp } })
  -- ptpDelayReq, above 4,096 in a second
  ∧ (∀ (s u : State) (b : Bool) (m : PtpMsg), s.Up → s.pwr.lanOpen = true ∧ s.ptpPort b = true ∧ u = s.ptpStamp b 1 false m → u.rd (portState
    b) = 6 ∧ u.on Reg.TIM_PTP_CFG_PROFILE = false ∧ u.outputsStopped = false → (m.domain.toNat = u.rd Reg.TIM_PTP_CFG_DOMAIN ∨ (u.on
    Reg.TIM_CFG_POLICY = true ∧ m.domain.toNat = u.rd Reg.TIM_PTP_CFG_DOMAIN_ALT)) → (AMap.get u.tim.delayN (bit b) (0, 0)).1 = m.time.sec ∧
    4096 ≤ (AMap.get u.tim.delayN (bit b) (0, 0)).2 → Gives (.ptpDelayReq b m) s fun t => t = u.bump Reg.TIM_PTP_DROP Reg.TIM_FAULT_CNT_SAT)
  -- ptpParentTimeout
  ∧ (∀ (s u w y : State) (ann : Bool) (next : Nat), s.Up → next = (if s.rd Reg.TIM_PTP_CFG_ROLE = 1 then 6 else 4) ∧ u =
    { s with tim := { s.tim with ptpOk := false } } → w = (if ann && u.rd Reg.TIM_PTP_STATE_A == 9 then u.wr Reg.TIM_PTP_STATE_A next else
    u) → y = (if ann && w.rd Reg.TIM_PTP_STATE_B == 9 then w.wr Reg.TIM_PTP_STATE_B next else w) → Gives (.ptpParentTimeout ann) s fun t =>
    t = (if s.rd Reg.TIM_STATUS_SOURCE = 1 then y.afterLoss else y))
  -- ptpTx, an Announce
  ∧ (∀ (s x u : State) (b alt : Bool) (time : YTime) (k q : Nat), s.Up → (x = (if s.rd Reg.TIM_PTP_CFG_ROLE = 0 ∧ (s.rd (portState b) = 1 ∨
    s.rd (portState b) = 4) then s.wr (portState b) 6 else s)) → x.tim.ptpOn = true ∧ x.ptpSilent = false ∧ x.ptpPort b = true ∧ x.rd
    (portState b) = 6 → (alt = true → x.on Reg.TIM_CFG_POLICY = true) → k = bit b * 4 + bit true + 2 * bit alt ∧ q = AMap.get x.tim.ptpSeq k
    0 → u = { x with tim := { x.tim with ptpSeq := AMap.set k ((q + 1) % 65536) x.tim.ptpSeq } } → Gives (.ptpTx b true alt time) s fun t =>
    t =
    { (u.announce alt q).2 with tim := { (u.announce alt q).2.tim with sentAnn := AMap.set (bit b * 2 + bit alt) (u.announce alt q).1 (u.announce alt q).2.tim.sentAnn } })
  -- ptpTx, a Sync
  ∧ (∀ (s x u : State) (b alt : Bool) (time : YTime) (k q : Nat), s.Up → (x = (if s.rd Reg.TIM_PTP_CFG_ROLE = 0 ∧ (s.rd (portState b) = 1 ∨
    s.rd (portState b) = 4) then s.wr (portState b) 6 else s)) → x.tim.ptpOn = true ∧ x.ptpSilent = false ∧ x.ptpPort b = true ∧ x.rd
    (portState b) = 6 → (alt = true → x.on Reg.TIM_CFG_POLICY = true) → k = bit b * 4 + bit false + 2 * bit alt ∧ q = AMap.get x.tim.ptpSeq
    k 0 → u = { x with tim := { x.tim with ptpSeq := AMap.set k ((q + 1) % 65536) x.tim.ptpSeq } } → Gives (.ptpTx b false alt time) s fun t
    => t = State.ptpStamp
    { u with tim := { u.tim with sentSync := AMap.set (bit b * 2 + bit alt) (if alt then ofNs ((toNs time : Int) + u.refAhead time) time.frac else time) u.tim.sentSync } }
    b 0 true ⟨BitVec.ofNat 8 (u.rd (if alt then Reg.TIM_PTP_CFG_DOMAIN_ALT else Reg.TIM_PTP_CFG_DOMAIN)), BitVec.ofNat 16 q, [], time⟩)
  -- ptpTransparentForward
  ∧ (∀ (s : State) (b : Bool) (k : Fin 16) (m : PtpMsg) (x : YTime), s.Up → s.pwr.lanOpen = true ∧ s.rd Reg.TIM_PTP_CFG_ROLE = 2 ∧
    m.domain.toNat = s.rd Reg.TIM_PTP_CFG_DOMAIN → (k.val = 0 ∨ k.val = 1) → Gives (.ptpTransparentForward b k m x) s fun t => t =
    ((s.ptpStamp b k.val false m).ptpStamp (!b) k.val true { m with time := x }).wrapBy Reg.TIM_TC_FRAMES 1)
  -- ptpTransparentForward, of another type
  ∧ (∀ (s : State) (b : Bool) (k : Fin 16) (m : PtpMsg) (x : YTime), s.Up → s.pwr.lanOpen = true → (s.rd Reg.TIM_PTP_CFG_ROLE ≠ 2 ∨
    m.domain.toNat ≠ s.rd Reg.TIM_PTP_CFG_DOMAIN ∨ 2 ≤ k.val) → Gives (.ptpTransparentForward b k m x) s fun t => t = s)
  -- timeCommit
  ∧ (∀ (s : State), s.Up → s.isPending Reg.TIM_TIME_COMMIT_RESULT = false → (s.sh Reg.TIM_CFG_SRC_FIRST ≠ 3 ∧ s.sh Reg.TIM_CFG_SRC_SECOND ≠ 3
    ∧ (s.sh Reg.TIM_CFG_SRC_FIRST = s.sh Reg.TIM_CFG_SRC_SECOND → s.sh Reg.TIM_CFG_SRC_FIRST = 2)) → 10 ≤ s.sh Reg.TIM_CFG_SLEW_PPM ∧ s.sh
    Reg.TIM_CFG_SLEW_PPM ≤ 200 ∧ 1 ≤ s.sh Reg.TIM_CFG_STEP_THRESH ∧ s.sh Reg.TIM_CFG_STEP_THRESH ≤ 100000 → (s.sh Reg.TIM_CFG_POLICY = 1 →
    s.rd Reg.TIM_PTP_CFG_DOMAIN_ALT ≠ s.rd Reg.TIM_PTP_CFG_DOMAIN) → Gives .timeCommit s fun t => t = s.setPending
    Reg.TIM_TIME_COMMIT_RESULT)
  -- timeCommit, while one is pending
  ∧ (∀ (s : State), s.Up → s.isPending Reg.TIM_TIME_COMMIT_RESULT = true → Gives .timeCommit s fun t => t = s.wr Reg.TIM_TIME_COMMIT_RESULT
    St.busy)
  -- timeConfigApply
  ∧ (∀ (s : State), s.Up → s.isPending Reg.TIM_TIME_COMMIT_RESULT = true → Gives .timeConfigApply s fun t => t = s.wholeSecond.endPending
    Reg.TIM_TIME_COMMIT_RESULT timeGroup St.done ∧ t.rd Reg.TIM_TIME_COMMIT_RESULT = St.done ∧ t.isPending Reg.TIM_TIME_COMMIT_RESULT =
    false)
  -- ptpCommit
  ∧ (∀ (s : State), s.Up → (s.sh Reg.TIM_PTP_CFG_ROLE < 3 ∧ (s.sh Reg.TIM_PTP_CFG_ROLE = 2 → s.sh Reg.TIM_PTP_CFG_PROFILE = 0 ∧ s.sh
    Reg.TIM_PTP_CFG_PORT_A_EN ≠ 0 ∧ s.sh Reg.TIM_PTP_CFG_PORT_B_EN ≠ 0)) → (s.sh Reg.TIM_PTP_CFG_DOMAIN ≤ 127 ∧ s.sh
    Reg.TIM_PTP_CFG_DOMAIN_ALT ≤ 127 ∧ (s.sh Reg.TIM_PTP_CFG_PROFILE = 1 → s.sh Reg.TIM_PTP_CFG_DOMAIN = 0)) → intvBad (s.sh
    Reg.TIM_PTP_INTV) = false → Gives .ptpCommit s fun t => t.rd Reg.TIM_PTP_COMMIT_RESULT = St.done ∧ t.rd Reg.TIM_PTP_CFG_ROLE = s.sh
    Reg.TIM_PTP_CFG_ROLE % 4 ∧ t.rd Reg.TIM_PTP_INTV = s.sh Reg.TIM_PTP_INTV % 268435456)
  -- pulseCommit, of a generator switched off
  ∧ (∀ (s : State), s.Up → s.sh (Reg.TIM_PG_CTRL_EN (s.rd Reg.TIM_PG_SEL)) = 0 → s.sh (Reg.TIM_PG_START_NS (s.rd Reg.TIM_PG_SEL)) < 1000000000
    ∧ s.sh (Reg.TIM_PG_PERIOD (s.rd Reg.TIM_PG_SEL)) = 0 → Gives .pulseCommit s fun t => t.tim.pg = AMap.del (s.rd Reg.TIM_PG_SEL) s.tim.pg
    ∧ t.mode = s.mode)
  -- pulseCommit, of a generator switched on
  ∧ (∀ (s u : State) (g per : Nat) (start soon next : YTime), s.Up → g = s.rd Reg.TIM_PG_SEL ∧ per = s.sh (Reg.TIM_PG_PERIOD g) ∧ s.sh
    (Reg.TIM_PG_CTRL_EN g) = 1 → start = ⟨s.sh (Reg.TIM_PG_START_SEC g), s.sh (Reg.TIM_PG_START_NS g), 0⟩ ∧ soon = ofNs (toNs s.now +
    1000000 : Nat) s.now.frac → (start.ns < 1000000000 ∧ (per = 0 ∨ (100 ≤ per ∧ s.sh (Reg.TIM_PG_WIDTH g) < per)) ∧ (per = 0 → timeLater
    start soon = true)) → next = (if timeLater start soon then start else ofNs (toNs start + ((timeDiff soon start / 65536).toNat / per + 1)
    * per : Nat) 0) → u = s.commit (Reg.TIM_PG_COMMIT_RESULT g) (pulseGroup g) St.done → Gives .pulseCommit s fun t => t = State.setActive
    { u with tim := { u.tim with pg := AMap.set g ⟨next, ((AMap.find g u.tim.pg).map (·.count)).getD 0, false⟩ u.tim.pg } } g true)
  -- pulseCommit, a rule broken
  ∧ (∀ (s : State) (g : Nat), s.Up → g = s.rd Reg.TIM_PG_SEL → (1000000000 ≤ s.sh (Reg.TIM_PG_START_NS g) ∨ (1 ≤ s.sh (Reg.TIM_PG_PERIOD g) ∧
    s.sh (Reg.TIM_PG_PERIOD g) ≤ 99) ∨ (s.sh (Reg.TIM_PG_PERIOD g) ≠ 0 ∧ s.sh (Reg.TIM_PG_PERIOD g) ≤ s.sh (Reg.TIM_PG_WIDTH g))) → Gives
    .pulseCommit s fun t => t = s.commit (Reg.TIM_PG_COMMIT_RESULT g) (pulseGroup g) St.badFormat)
  -- pulseTime, of a single pulse
  ∧ (∀ (s u w : State) (g : Fin 16) (q : PulseSt) (n : Nat), s.Up → AMap.find g.val s.tim.pg = some q ∧ n = (q.count + 1) % 4294967296 → u =
    ((if q.late then s else s.advance q.next).setFlags (40 + g.val) (List.range 32)).beginPulse g.val → w = (if s.on (Reg.TIM_PG_CTRL_EVENT
    g.val) then u.evtRecord 0x50 g.val (bit (!s.on (Reg.TIM_PG_CTRL_POL g.val)) + 2 * bit q.late) n q.next else u) → s.rd (Reg.TIM_PG_PERIOD
    g.val) = 0 → Gives (.pulseTime g) s fun t => t = State.setActive { w with tim := { w.tim with pg := AMap.del g.val w.tim.pg } } g.val
    false)
  -- pulseTime, of a schedule
  ∧ (∀ (s u w : State) (g : Fin 16) (q : PulseSt) (n : Nat), s.Up → AMap.find g.val s.tim.pg = some q ∧ n = (q.count + 1) % 4294967296 → u =
    ((if q.late then s else s.advance q.next).setFlags (40 + g.val) (List.range 32)).beginPulse g.val → w = (if s.on (Reg.TIM_PG_CTRL_EVENT
    g.val) then u.evtRecord 0x50 g.val (bit (!s.on (Reg.TIM_PG_CTRL_POL g.val)) + 2 * bit q.late) n q.next else u) → s.rd (Reg.TIM_PG_PERIOD
    g.val) ≠ 0 → Gives (.pulseTime g) s fun t => t =
    { w with tim := { w.tim with pg := AMap.set g.val ⟨ofNs (toNs q.next + s.rd (Reg.TIM_PG_PERIOD g.val) : Nat) q.next.frac, n, false⟩ w.tim.pg } })
  -- captureEdge
  ∧ (∀ (s u : State) (n : Fin 8) (b : Bool) (x : YTime), s.Up → u = s.advance x → (bits (s.rd Reg.TIM_CAP_CFG) (2 * n.val) 2 = 3 ∨ (bits (s.rd
    Reg.TIM_CAP_CFG) (2 * n.val) 2 = 1 ∧ b = true) ∨ (bits (s.rd Reg.TIM_CAP_CFG) (2 * n.val) 2 = 2 ∧ b = false)) → (∀ a, AMap.find n.val
    u.tim.capAt = some a → 6553600 < timeDiff x a) → Gives (.captureEdge n b x) s fun t => AMap.find n.val t.tim.capAt = some x ∧ t.rd
    (Reg.TIM_CAP_COUNT n.val) = (u.rd (Reg.TIM_CAP_COUNT n.val) + 1) % 4294967296 ∧ t.rd (Reg.TIM_CAP_RISING n.val) = bit b ∧ t.mode =
    s.mode)
  -- captureEdge, within 100 ns of the last
  ∧ (∀ (s u : State) (n : Fin 8) (b : Bool) (x a : YTime), s.Up → u = s.advance x → (bits (s.rd Reg.TIM_CAP_CFG) (2 * n.val) 2 = 3 ∨ (bits
    (s.rd Reg.TIM_CAP_CFG) (2 * n.val) 2 = 1 ∧ b = true) ∨ (bits (s.rd Reg.TIM_CAP_CFG) (2 * n.val) 2 = 2 ∧ b = false)) → AMap.find n.val
    u.tim.capAt = some a ∧ timeDiff x a ≤ 6553600 → Gives (.captureEdge n b x) s fun t => t = (State.bump
    { u with tim := { u.tim with capLost := insertNat n.val u.tim.capLost } } Reg.TIM_EVT_LOST Reg.TIM_FAULT_CNT_SAT).fault
    Reg.TIM_FAULT_EVT_LOST)
  -- captureLatchRead
  ∧ (∀ (s : State) (n : Fin 8), s.Up → Gives (.captureLatchRead n) s fun t => t =
    { s with tim := { s.tim with capLatch := AMap.set n.val (s.rd (Reg.TIM_CAP_SEC_HI n.val), s.rd (Reg.TIM_CAP_NS n.val) + 2147483648 * s.rd (Reg.TIM_CAP_RISING n.val), s.rd (Reg.TIM_CAP_COUNT n.val)) s.tim.capLatch } })

/-- Update headers, chunks and federation connections. Each command completes (exec answers a next state) in every state that meets its
  hypotheses. Of UPDATE_HEADER, whose packet chute 52 passes, the verdict is that of its checks and table. A host's header that passes them
  opens a new session of source 0, with the header kept, LOFT RECEIVING and no chunk present, where LOFT is EMPTY or FAILED, and is answered
  DONE with the session; one that fails is refused, counted and answered with its verdict. A header of the digest LOFT is receiving, from
  the session's source or after it fell idle, goes on with it. During a trial it is answered BUSY, of a length other than 512 BAD_LENGTH,
  both counted as refused. A peer's header on an open connection with FED_EN does the same with its own source; with no connection it has no
  effect, and a packet shorter than 17 or longer than 4,160 bytes closes the connection. UPDATE_CHUNK of the open session, inside the image,
  of the chunk's length and not present waits to be programmed, its content untouched, and the session is not idle; the host names session
  and index in P0 and P1, a peer in its packet; one already present is counted and DONE, one of another or no open session is STALE, one in
  a mode that takes none REFUSED_MODE. CHUNK_PROGRAMMED answers the oldest waiting chunk: read back wrong it is INTEGRITY with flash as it
  was, else its data are in flash, it is present and verified as its list allows, with the answer that gives; of a session that is over it
  is STALE. FED_CONNECT with FED_EN and fewer than four connections adds one and else has no effect; FED_CONN_IDLE closes one of that port;
  SESSION_IDLE of an open session marks it idle. Rests on parts of rules R504, R507, R508, R509, R510, R511, R512, R513. -/
def Obligations.UpdateSessions : Prop :=
  -- updateHeader, of the host, into an empty or failed LOFT
  (∀ (s u x : State) (c : Cmd) (d : List Byte) (r : Bool) (q : Nat), s.Up → s.Accepts c .dataIn → u = (s.begun c).consume 52 (toWords
    ([0x62, 0] ++ List.replicate 14 0 ++ d.map BitVec.toNat)) → (s.nvm.boot.loft = .empty ∨ s.nvm.boot.loft = .failed) → x = u.openSession
    (parseHeader d) d 0 ∧ q = u.headerVerdict d c.desc.length.toNat r → Gives (.updateHeader (.host c) d r) s fun t => t = (if q = St.done
    then State.showUpd (x.updAnswer (.host c) St.done x.nvm.session.num 0 c.desc.length.toNat x.nvm.session.num) else State.showUpd ((u.bump
    Reg.UPD_HDR_REFUSED Reg.UPD_FAULT_CNT_SAT).updAnswer (.host c) q 0 0 (if q = St.badLength then 0 else c.desc.length.toNat) 0)) ∧
    x.nvm.boot.loft = .receiving ∧ x.nvm.boot.hdr = some (parseHeader d) ∧ x.nvm.session.isOpen = true ∧ x.nvm.session.source = 0 ∧
    x.nvm.session.chunks = [])
  -- updateHeader, of the same image, to go on
  ∧ (∀ (s u x : State) (c : Cmd) (d : List Byte) (r : Bool) (q : Nat), s.Up → s.Accepts c .dataIn → u = (s.begun c).consume 52 (toWords
    ([0x62, 0] ++ List.replicate 14 0 ++ d.map BitVec.toNat)) → (s.nvm.boot.loft = .receiving ∧ s.nvm.boot.hdr.map (·.digest) = some
    (parseHeader d).digest ∧ (s.nvm.session.source = 0 ∨ s.upd.idle = true)) → x = u.setSession ({ u.nvm.session with source := 0 } :
    UpdSession) ∧ q = u.headerVerdict d c.desc.length.toNat r → Gives (.updateHeader (.host c) d r) s fun t => t = (if q = St.done then
    State.showUpd (x.updAnswer (.host c) St.done x.nvm.session.num 0 c.desc.length.toNat x.nvm.session.num) else State.showUpd ((u.bump
    Reg.UPD_HDR_REFUSED Reg.UPD_FAULT_CNT_SAT).updAnswer (.host c) q 0 0 (if q = St.badLength then 0 else c.desc.length.toNat) 0)))
  -- updateHeader, during a trial
  ∧ (∀ (s u : State) (c : Cmd) (d : List Byte) (r : Bool) (q : Nat), s.Up → s.Accepts c .dataIn → u = (s.begun c).consume 52 (toWords ([0x62,
    0] ++ List.replicate 14 0 ++ d.map BitVec.toNat)) → s.nvm.boot.loft = .trial ∧ q = u.headerVerdict d c.desc.length.toNat r → Gives
    (.updateHeader (.host c) d r) s fun t => t = State.showUpd ((u.bump Reg.UPD_HDR_REFUSED Reg.UPD_FAULT_CNT_SAT).updAnswer (.host c) (if q
    = St.done then St.busy else q) 0 0 (if q = St.badLength then 0 else c.desc.length.toNat) 0))
  -- updateHeader, of a bad length
  ∧ (∀ (s u : State) (c : Cmd) (d : List Byte) (r : Bool), s.Up → s.Accepts c .dataIn → u = (s.begun c).consume 52 (toWords ([0x62, 0] ++
    List.replicate 14 0 ++ d.map BitVec.toNat)) → c.desc.length.toNat ≠ 512 → Gives (.updateHeader (.host c) d r) s fun t => t =
    State.showUpd ((u.bump Reg.UPD_HDR_REFUSED Reg.UPD_FAULT_CNT_SAT).updAnswer (.host c) St.badLength 0 0 0 0))
  -- updateHeader, of a peer on an open connection
  ∧ (∀ (s u x : State) (b : Bool) (d : List Byte) (r : Bool) (q : Nat), s.Up → s.on Reg.UPD_NET_FED_EN = true ∧ s.upd.conns.contains b = true
    ∧ 0 < d.length ∧ d.length ≤ 4144 → u = s.consume 52 (toWords ([0x62, 1 + bit b] ++ List.replicate 14 0 ++ d.map BitVec.toNat)) →
    (s.nvm.boot.loft = .empty ∨ s.nvm.boot.loft = .failed) → x = u.openSession (parseHeader d) d (1 + bit b) ∧ q = u.headerVerdict d
    d.length r → Gives (.updateHeader (.lan b) d r) s fun t => t = (if q = St.done then State.showUpd (x.updAnswer (.lan b) St.done
    x.nvm.session.num 0 d.length x.nvm.session.num) else State.showUpd ((u.bump Reg.UPD_HDR_REFUSED Reg.UPD_FAULT_CNT_SAT).updAnswer (.lan
    b) q 0 0 (if q = St.badLength then 0 else d.length) 0)))
  -- updateHeader, of a peer with no open connection
  ∧ (∀ (s : State) (b : Bool) (d : List Byte) (r : Bool), s.Up → (s.on Reg.UPD_NET_FED_EN = false ∨ s.upd.conns.contains b = false) → Gives
    (.updateHeader (.lan b) d r) s fun t => t = s)
  -- updateHeader, a packet of no possible size
  ∧ (∀ (s : State) (b : Bool) (d : List Byte) (r : Bool), s.Up → (s.on Reg.UPD_NET_FED_EN = true ∧ s.upd.conns.contains b = true ∧ (d.length =
    0 ∨ 4144 < d.length)) → Gives (.updateHeader (.lan b) d r) s fun t => t = { s with upd := { s.upd with conns := s.upd.conns.erase b } })
  -- updateChunk, of the host
  ∧ (∀ (s u : State) (c : Cmd) (k i : Word) (d : List Byte) (h : ImgHdr), s.Up → s.Accepts c .dataIn → s.updMode = true ∧ s.nvm.boot.hdr =
    some h ∧ c.desc.p1.toNat < h.nTotal ∧ c.desc.length.toNat = h.chunkLen c.desc.p1.toNat ∧ c.desc.length.toNat ≠ 0 → s.nvm.session.isOpen
    = true ∧ s.nvm.session.num = c.desc.p0.toNat ∧ s.chunkSt c.desc.p1.toNat = 0 → u = (s.begun c).consume 52 (toWords ([0x60, 0, 0, 0] ++
    le 4 c.desc.p0.toNat ++ le 4 c.desc.p1.toNat ++ le 2 d.length ++ List.replicate 50 0 ++ d.map BitVec.toNat)) → Gives (.updateChunk
    (.host c) k i d false) s fun t => t =
    { u with upd := { u.upd with queue := s.upd.queue ++ [⟨.host c, c.desc.p0.toNat, c.desc.p1.toNat, d⟩], idle := false } } ∧ u.upd = s.upd
    ∧ u.nvm = s.nvm)
  -- updateChunk, one that is present
  ∧ (∀ (s u : State) (c : Cmd) (k i : Word) (d : List Byte) (h : ImgHdr), s.Up → s.Accepts c .dataIn → s.updMode = true ∧ s.nvm.boot.hdr =
    some h ∧ c.desc.p1.toNat < h.nTotal ∧ c.desc.length.toNat = h.chunkLen c.desc.p1.toNat ∧ c.desc.length.toNat ≠ 0 → s.nvm.session.isOpen
    = true ∧ s.nvm.session.num = c.desc.p0.toNat ∧ s.chunkSt c.desc.p1.toNat ≠ 0 → u = State.bump ((s.begun c).consume 52 (toWords ([0x60,
    0, 0, 0] ++ le 4 c.desc.p0.toNat ++ le 4 c.desc.p1.toNat ++ le 2 d.length ++ List.replicate 50 0 ++ d.map BitVec.toNat)))
    Reg.UPD_CHUNK_DUP Reg.UPD_FAULT_CNT_SAT → Gives (.updateChunk (.host c) k i d false) s fun t => t = u.updAnswer (.host c) St.done
    c.desc.p0.toNat c.desc.p1.toNat c.desc.length.toNat (u.chunkCount 2))
  -- updateChunk, of another session
  ∧ (∀ (s u : State) (c : Cmd) (k i : Word) (d : List Byte) (h : ImgHdr), s.Up → s.Accepts c .dataIn → s.updMode = true ∧ s.nvm.boot.hdr =
    some h ∧ c.desc.p1.toNat < h.nTotal ∧ c.desc.length.toNat = h.chunkLen c.desc.p1.toNat ∧ c.desc.length.toNat ≠ 0 → (s.nvm.session.isOpen
    = false ∨ s.nvm.session.num ≠ c.desc.p0.toNat) → u = (s.begun c).consume 52 (toWords ([0x60, 0, 0, 0] ++ le 4 c.desc.p0.toNat ++ le 4
    c.desc.p1.toNat ++ le 2 d.length ++ List.replicate 50 0 ++ d.map BitVec.toNat)) → Gives (.updateChunk (.host c) k i d false) s fun t =>
    t = u.updAnswer (.host c) St.stale c.desc.p0.toNat c.desc.p1.toNat c.desc.length.toNat (u.chunkCount 2))
  -- updateChunk, in a mode that takes none
  ∧ (∀ (s u : State) (c : Cmd) (k i : Word) (d : List Byte), s.Up → s.Accepts c .dataIn → s.updMode = false → u = (s.begun c).consume 52
    (toWords ([0x60, 0, 0, 0] ++ le 4 c.desc.p0.toNat ++ le 4 c.desc.p1.toNat ++ le 2 d.length ++ List.replicate 50 0 ++ d.map
    BitVec.toNat)) → Gives (.updateChunk (.host c) k i d false) s fun t => t = u.updAnswer (.host c) St.refusedMode c.desc.p0.toNat
    c.desc.p1.toNat c.desc.length.toNat (u.chunkCount 2))
  -- updateChunk, of a peer on an open connection
  ∧ (∀ (s u : State) (b : Bool) (k i : Word) (d : List Byte) (h : ImgHdr), s.Up → s.on Reg.UPD_NET_FED_EN = true ∧ s.upd.conns.contains b =
    true ∧ d.length ≤ 4096 → s.updMode = true ∧ s.nvm.boot.hdr = some h ∧ i.toNat < h.nTotal ∧ d.length = h.chunkLen i.toNat ∧ d.length ≠ 0
    → s.nvm.session.isOpen = true ∧ s.nvm.session.num = k.toNat ∧ s.chunkSt i.toNat = 0 → u = s.consume 52 (toWords ([0x60, 1 + bit b, 0, 0]
    ++ le 4 k.toNat ++ le 4 i.toNat ++ le 2 d.length ++ List.replicate 50 0 ++ d.map BitVec.toNat)) → Gives (.updateChunk (.lan b) k i d
    false) s fun t => t = { u with upd := { u.upd with queue := s.upd.queue ++ [⟨.lan b, k.toNat, i.toNat, d⟩], idle := false } } ∧ u.upd =
    s.upd ∧ u.nvm = s.nvm)
  -- chunkProgrammed, read back wrong
  ∧ (∀ (s u : State) (j : ChunkJob) (rest : List ChunkJob) (h : ImgHdr), s.Up → s.upd.queue = j :: rest ∧ s.nvm.boot.hdr = some h →
    s.nvm.session.isOpen = true ∧ s.nvm.session.num = j.session ∧ s.chunkSt j.index = 0 → u = { s with upd := { s.upd with queue := rest } }
    → Gives (.chunkProgrammed false) s fun t => t = State.showUpd (u.updAnswer j.from_ St.integrity j.session j.index j.data.length
    (u.chunkCount 2)) ∧ t.nvm = s.nvm ∧ t.mem = s.mem)
  -- chunkProgrammed, verified
  ∧ (∀ (s u : State) (j : ChunkJob) (rest : List ChunkJob) (h : ImgHdr) (r : Nat × State), s.Up → s.upd.queue = j :: rest ∧ s.nvm.boot.hdr =
    some h → s.nvm.session.isOpen = true ∧ s.nvm.session.num = j.session ∧ s.chunkSt j.index = 0 → u =
    { s with upd := { s.upd with queue := rest }, mem := Memory.writeAll (s.chunkAddr j.index) j.data s.mem } → r = State.verifyAfter
    (u.setChunk j.index 1) h j.index → Gives (.chunkProgrammed true) s fun t => t = State.showUpd (r.2.updAnswer j.from_ r.1 j.session
    j.index j.data.length (r.2.chunkCount 2)))
  -- chunkProgrammed, of a session that is over
  ∧ (∀ (s u : State) (j : ChunkJob) (rest : List ChunkJob) (h : ImgHdr) (ok : Bool), s.Up → s.upd.queue = j :: rest ∧ s.nvm.boot.hdr = some h
    → (s.nvm.session.isOpen = false ∨ j.session ≠ s.nvm.session.num) → u = { s with upd := { s.upd with queue := rest } } → Gives
    (.chunkProgrammed ok) s fun t => t = State.showUpd (u.updAnswer j.from_ St.stale j.session j.index j.data.length (u.chunkCount 2)))
  -- fedConnect
  ∧ (∀ (s : State) (b : Bool), s.Up → s.on Reg.UPD_NET_FED_EN = true ∧ s.upd.conns.length < 4 → Gives (.fedConnect b) s fun t => t =
    { s with upd := { s.upd with conns := s.upd.conns ++ [b] } })
  -- fedConnect, a fifth or without FED_EN
  ∧ (∀ (s : State) (b : Bool), s.Up → (s.on Reg.UPD_NET_FED_EN = false ∨ 4 ≤ s.upd.conns.length) → Gives (.fedConnect b) s fun t => t = s)
  -- fedConnIdle
  ∧ (∀ (s : State) (b : Bool), s.Up → Gives (.fedConnIdle b) s fun t => t = { s with upd := { s.upd with conns := s.upd.conns.erase b } })
  -- sessionIdle
  ∧ (∀ (s : State), s.Up → s.nvm.session.isOpen = true → Gives .sessionIdle s fun t => t = { s with upd := { s.upd with idle := true } })

/-- Activation, trial and fallback of an image. Each command completes (exec answers a next state) in every state that meets its hypotheses.
  SCHEDULE of a READY or SCHEDULED image, outside UPDATE, unlocked, for a second at least 10 s ahead, keeps it, DONE; else it ends as its
  first failing check says. ACTIVATION_TEST, at a whole second from the activation second to DEFER_MAX after it, with robots at rest,
  battery and lock allowing, enters UPDATE from HOSTED_IDLE, and from FLEET_HOLD after committing ends and the hold cause IDLE shows; in
  another mode or with a reason against it the reason shows; past DEFER_MAX, as at ACTIVATION_DEFER_EXPIRE, the image is READY and
  DEFER_EXPIRED shows; in UPDATE with a reason against it UPDATE is abandoned and tokens are released; with none due nothing happens.
  ACTIVATION_COMMIT, 1 s after UPDATE began, makes the slot a trial, flushes the Tally with its duration and restarts. SETTINGS_MIGRATE in a
  trial's BOOT: a valid area outside the image's schemas or that fails a check falls back, one inside is stored and taken, and with none
  valid an area is stored anew. TRIAL_CONFIRM, with BOOT done, keystore ready, settings migrated, no core in lockstep fault and any host
  confirmation given, makes LOFT the STORE with the header's version, schema and floor. TRIAL_TIMEOUT falls back: slot FAILED, restart;
  outside a trial it does nothing. LOCK and UNLOCK set the lock; CANCEL of a SCHEDULED image makes it READY, in UPDATE abandons it, with
  none CONFLICT; HOST_OK in a trial is kept, else CONFLICT; CLEAR empties a FAILED or RECEIVING slot with its chunks or ends a bar, with
  neither CONFLICT; each with another bit BAD_FORMAT. An admissible UPD_COMMIT is live, closing connections where FED_EN clears; else
  BAD_FORMAT, nothing live. Rests on parts of rules R505, R506, R514, R515, R516, R517, R518, R519, R520, R521, R523. -/
def Obligations.UpdateActivation : Prop :=
  -- schedule
  (∀ (s : State) (c : Cmd) (n : Nat), s.Up → s.Accepts c .command → (c.desc.length = 0 ∧ bits c.desc.p1.toNat 16 16 = 0 ∧ (s.nvm.boot.loft =
    .ready ∨ s.nvm.boot.loft = .scheduled) ∧ s.nvm.boot.lock = false ∧ s.mode ≠ .update) → n = c.desc.p0.toNat + 4294967296 * bits
    c.desc.p1.toNat 0 16 ∧ (s.now.sec + 10) * 1000000000 + s.now.ns ≤ n * 1000000000 → Gives (.schedule c) s fun t => t = (((s.begun
    c).setBoot { s.nvm.boot with loft := .scheduled, actSec := n }).finish c St.done 0 0).showUpd ∧ t.nvm.boot =
    { s.nvm.boot with loft := .scheduled, actSec := n } ∧ t.Completed c St.done 0 0)
  -- schedule, refused
  ∧ (∀ (s : State) (c : Cmd) (n v : Nat), s.Up → s.Accepts c .command → n = c.desc.p0.toNat + 4294967296 * bits c.desc.p1.toNat 0 16 → v = (if
    c.desc.length ≠ 0 then St.badLength else if bits c.desc.p1.toNat 16 16 ≠ 0 then St.badFormat else if s.nvm.boot.loft ≠ .ready ∧
    s.nvm.boot.loft ≠ .scheduled then St.conflict else if s.nvm.boot.lock = true then St.refusedLock else if n * 1000000000 < (s.now.sec +
    10) * 1000000000 + s.now.ns then St.stale else if s.mode = .update then St.busy else St.done) ∧ v ≠ St.done → Gives (.schedule c) s fun
    t => t = (s.begun c).finish c v 0 0)
  -- activationTest, at rest
  ∧ (∀ (s u : State), s.Up → u = s.wholeSecond ∧ u.mode = .hostedIdle → u.nvm.boot.loft = .scheduled ∧ u.nvm.boot.actSec ≤ u.now.sec ∧
    u.now.sec ≤ u.nvm.boot.actSec + u.rd Reg.UPD_CFG_DEFER_MAX → u.parkReason = 0 ∧ u.pwr.pdown = none ∧ u.pwr.pfailLatched = false → Gives
    .activationTest s fun t => t = State.enterMode { u.wr Reg.UPD_STATUS_DEFER_REASON 0 with upd := { u.upd with entered := u.now.sec } }
    .update ∧ t.mode = .update)
  -- activationTest, at rest in FLEET_HOLD
  ∧ (∀ (s u w : State), s.Up → u = s.wholeSecond ∧ u.mode = .fleetHold → u.nvm.boot.loft = .scheduled ∧ u.nvm.boot.actSec ≤ u.now.sec ∧
    u.now.sec ≤ u.nvm.boot.actSec + u.rd Reg.UPD_CFG_DEFER_MAX → u.parkReason = 0 ∧ u.pwr.pdown = none ∧ u.pwr.pfailLatched = false → w =
    State.wr (State.leaveCommitting (u.wr Reg.UPD_STATUS_DEFER_REASON 0)) Reg.TRP_HOLD_CAUSE_IDLE 1 → Gives .activationTest s fun t => t =
    (fun (y : State) => { y with upd := { w.upd with entered := w.now.sec } }) (w.enterMode .update))
  -- activationTest, deferred
  ∧ (∀ (s u : State) (r : Nat), s.Up → u = s.wholeSecond ∧ u.mode ≠ .update ∧ u.pwr.pfailLatched = false → u.nvm.boot.loft = .scheduled ∧
    u.nvm.boot.actSec ≤ u.now.sec ∧ u.now.sec ≤ u.nvm.boot.actSec + u.rd Reg.UPD_CFG_DEFER_MAX → (r = (if u.mode = .hostedIdle ∨ u.mode =
    .fleetHold then u.parkReason else 1) ∧ r ≠ 0) → Gives .activationTest s fun t => t = u.wr Reg.UPD_STATUS_DEFER_REASON r)
  -- activationTest, past DEFER_MAX
  ∧ (∀ (s u : State), s.Up → u = s.wholeSecond ∧ u.mode ≠ .update ∧ u.pwr.pfailLatched = false → u.nvm.boot.loft = .scheduled ∧
    u.nvm.boot.actSec + u.rd Reg.UPD_CFG_DEFER_MAX < u.now.sec → Gives .activationTest s fun t => t = State.showUpd ((State.wr (u.setBoot
    { u.nvm.boot with loft := .ready }) Reg.UPD_STATUS_DEFER_REASON 0).fault Reg.UPD_FAULT_DEFER_EXPIRED))
  -- activationTest, in UPDATE with a robot no longer at rest
  ∧ (∀ (s u : State), s.Up → u = s.wholeSecond ∧ u.mode = .update ∧ u.pwr.pfailLatched = false ∧ u.parkReason ≠ 0 → Gives .activationTest s
    fun t => t = ((State.wr u Reg.UPD_STATUS_DEFER_REASON u.parkReason).enterMode .hostedIdle).releaseAll none)
  -- activationTest, with none due
  ∧ (∀ (s u : State), s.Up → u = s.wholeSecond ∧ u.mode ≠ .update → (u.nvm.boot.loft ≠ .scheduled ∨ u.now.sec < u.nvm.boot.actSec) → Gives
    .activationTest s fun t => t = u)
  -- activationDeferExpire
  ∧ (∀ (s : State), s.Up → s.nvm.boot.loft = .scheduled ∧ s.mode ≠ .update ∧ s.nvm.boot.actSec + s.rd Reg.UPD_CFG_DEFER_MAX ≤ s.now.sec →
    Gives .activationDeferExpire s fun t => t = State.showUpd ((State.wr (s.setBoot { s.nvm.boot with loft := .ready })
    Reg.UPD_STATUS_DEFER_REASON 0).fault Reg.UPD_FAULT_DEFER_EXPIRED) ∧ t.nvm.boot = { s.nvm.boot with loft := .ready } ∧ t.mode = s.mode)
  -- activationCommit
  ∧ (∀ (s u : State) (d : BitVec 16), s.Up → s.mode = .update ∧ s.nvm.boot.loft = .scheduled ∧ s.pwr.pfailLatched = false → u = State.flushFor
    (State.showUpd ((s.advance ⟨s.upd.entered + 1, 0, 0⟩).setBoot { s.nvm.boot with loft := .trial, trialCount := 0 })) 3 → Gives
    (.activationCommit d) s fun t => t = (flushCompleteOp none d.toNat (flushCommitPointOp (flushStartOp u))).restart causeUpdate ∧
    t.nvm.boot.loft = .trial ∧ t.nvm.boot.trialCount = 0 ∧ t.mode = .boot)
  -- settingsMigrate, of contents outside the schemas or that fail a check
  ∧ (∀ (s : State) (h : ImgHdr) (a : SettingsArea) (ok : Bool), s.Up → s.nvm.boot.hdr = some h ∧ s.on Reg.UPD_STATUS_TRIAL = true ∧
    s.upd.migrated = false ∧ s.mode = .boot → a = s.areaAt s.nvm.boot.curArea ∧ a.good = true ∧ a.lcGen = s.rd Reg.VLT_LIFECYCLE_LC_GEN →
    (a.schema < h.schemaFrom ∨ h.schema < a.schema ∨ ok = false) → s.pwr.pfailLatched = false → Gives (.settingsMigrate ok) s fun t => t =
    State.fallBack (s.fault Reg.UPD_FAULT_MIGRATE_FAIL) ∧ t.nvm.boot.loft = .failed ∧ t.nvm.boot.fellBack = true ∧ t.mode = .boot)
  -- settingsMigrate, of a valid area
  ∧ (∀ (s u : State) (h : ImgHdr) (a : SettingsArea), s.Up → s.nvm.boot.hdr = some h ∧ s.on Reg.UPD_STATUS_TRIAL = true ∧ s.upd.migrated =
    false ∧ s.mode = .boot → a = s.areaAt s.nvm.boot.curArea ∧ a.good = true ∧ a.lcGen = s.rd Reg.VLT_LIFECYCLE_LC_GEN → h.schemaFrom ≤
    a.schema ∧ a.schema ≤ h.schema → u = (State.storeWith ({ s with upd := { s.upd with migrated := true } } : State) (fun (_ :
    SettingsArea) => a)).takeArea a → Gives (.settingsMigrate true) s fun t => t = { u with pwr := { u.pwr with aonFresh := false } })
  -- settingsMigrate, no valid area
  ∧ (∀ (s u : State) (h : ImgHdr) (ok : Bool), s.Up → s.nvm.boot.hdr = some h ∧ s.on Reg.UPD_STATUS_TRIAL = true ∧ s.upd.migrated = false ∧
    s.mode = .boot → ((s.areaAt s.nvm.boot.curArea).good && (s.areaAt s.nvm.boot.curArea).lcGen == s.rd Reg.VLT_LIFECYCLE_LC_GEN) = false →
    u = State.storeWith ({ s with upd := { s.upd with migrated := true } } : State) (fun (x : SettingsArea) => x) → Gives (.settingsMigrate
    ok) s fun t => t = { u with pwr := { u.pwr with aonFresh := false } })
  -- trialConfirm
  ∧ (∀ (s : State) (h : ImgHdr), s.Up → s.nvm.boot.hdr = some h ∧ s.on Reg.UPD_STATUS_TRIAL = true ∧ s.on Reg.CLK_ADMIT_STATUS_BOOT_DONE =
    true ∧ s.on Reg.VLT_STATUS_READY = true → (s.upd.migrated = true ∧ s.pwr.core = false ∧ (s.on Reg.UPD_CFG_CONFIRM_HOST = false ∨
    s.upd.hostOk = true)) → Gives .trialConfirm s fun t => t.nvm.boot =
    { s.nvm.boot with storeRegion := 1 - s.nvm.boot.storeRegion, storeVer := h.version, storeSchema := h.schema, floor := h.rollback, curArea := s.upd.area, loft := .empty, hdr := none, actSec := 0 }
    ∧ t.nvm.session.isOpen = false ∧ t.nvm.session.chunks = [] ∧ t.rd Reg.UPD_STATUS_TRIAL = 0)
  -- trialTimeout
  ∧ (∀ (s u : State), s.Up → s.on Reg.UPD_STATUS_TRIAL = true ∧ u = s.advance s.trialEnd ∧ u.pwr.pfailLatched = false → Gives .trialTimeout s
    fun t => t = u.fallBack ∧ t.nvm.boot.loft = .failed ∧ t.nvm.boot.fellBack = true ∧ t.mode = .boot)
  -- trialTimeout, outside a trial
  ∧ (∀ (s : State), s.Up → s.on Reg.UPD_STATUS_TRIAL = false → Gives .trialTimeout s fun t => t = s)
  -- lock
  ∧ (∀ (s : State), s.Up → Gives (.lock true) s fun t => t = State.wr (State.showUpd (s.setBoot { s.nvm.boot with lock := true }))
    Reg.UPD_CTRL_RESULT St.done ∧ t.nvm.boot = { s.nvm.boot with lock := true } ∧ t.rd Reg.UPD_CTRL_RESULT = St.done)
  -- unlock
  ∧ (∀ (s : State), s.Up → Gives (.unlock true) s fun t => t = State.wr (State.showUpd (s.setBoot { s.nvm.boot with lock := false }))
    Reg.UPD_CTRL_RESULT St.done ∧ t.nvm.boot = { s.nvm.boot with lock := false } ∧ t.rd Reg.UPD_CTRL_RESULT = St.done)
  -- cancel
  ∧ (∀ (s : State), s.Up → s.nvm.boot.loft = .scheduled ∧ s.mode ≠ .update → Gives (.cancel true) s fun t => t = State.wr (State.showUpd
    (State.wr (s.setBoot { s.nvm.boot with loft := .ready }) Reg.UPD_STATUS_DEFER_REASON 0)) Reg.UPD_CTRL_RESULT St.done ∧ t.nvm.boot =
    { s.nvm.boot with loft := .ready } ∧ t.rd Reg.UPD_CTRL_RESULT = St.done)
  -- cancel, in UPDATE before its commit
  ∧ (∀ (s : State), s.Up → s.nvm.boot.loft = .scheduled ∧ s.mode = .update ∧ s.pwr.pfailLatched = false → Gives (.cancel true) s fun t => t =
    State.wr (State.showUpd ((s.enterMode .hostedIdle).releaseAll none)) Reg.UPD_CTRL_RESULT St.done)
  -- cancel, with nothing scheduled
  ∧ (∀ (s : State), s.Up → s.nvm.boot.loft ≠ .scheduled → Gives (.cancel true) s fun t => t = s.wr Reg.UPD_CTRL_RESULT St.conflict)
  -- hostOk
  ∧ (∀ (s : State), s.Up → s.on Reg.UPD_STATUS_TRIAL = true → Gives (.hostOk true) s fun t => t = State.wr (State.showUpd
    { s with upd := { s.upd with hostOk := true } }) Reg.UPD_CTRL_RESULT St.done ∧ t.upd.hostOk = true ∧ t.rd Reg.UPD_CTRL_RESULT = St.done)
  -- hostOk, outside a trial
  ∧ (∀ (s : State), s.Up → s.on Reg.UPD_STATUS_TRIAL = false → Gives (.hostOk true) s fun t => t = s.wr Reg.UPD_CTRL_RESULT St.conflict)
  -- updateClear, of a failed or part-received image
  ∧ (∀ (s u : State), s.Up → (s.nvm.boot.loft = .failed ∨ s.nvm.boot.loft = .receiving) → u = State.setBoot (State.discardChunks (s.setBoot
    { s.nvm.boot with barred := none })) { s.nvm.boot with barred := none, loft := .empty, hdr := none } → Gives (.updateClear true) s fun t
    => t = u.showUpd.wr Reg.UPD_CTRL_RESULT St.done ∧ t.nvm.boot = { s.nvm.boot with barred := none, loft := .empty, hdr := none } ∧
    t.nvm.session.isOpen = false ∧ t.nvm.session.chunks = [])
  -- updateClear, of a barred version
  ∧ (∀ (s : State) (n : Nat), s.Up → s.nvm.boot.loft ≠ .failed ∧ s.nvm.boot.loft ≠ .receiving ∧ s.nvm.boot.barred = some n → Gives
    (.updateClear true) s fun t => t = State.wr (State.showUpd (s.setBoot { s.nvm.boot with barred := none })) Reg.UPD_CTRL_RESULT St.done)
  -- updateClear, with nothing to clear
  ∧ (∀ (s : State), s.Up → s.nvm.boot.loft ≠ .failed ∧ s.nvm.boot.loft ≠ .receiving ∧ s.nvm.boot.barred = none → Gives (.updateClear true) s
    fun t => t = s.wr Reg.UPD_CTRL_RESULT St.conflict)
  -- lock, written with another bit
  ∧ (∀ (s : State), s.Up → Gives (.lock false) s fun t => t = s.wr Reg.UPD_CTRL_RESULT St.badFormat)
  -- unlock, written with another bit
  ∧ (∀ (s : State), s.Up → Gives (.unlock false) s fun t => t = s.wr Reg.UPD_CTRL_RESULT St.badFormat)
  -- cancel, written with another bit
  ∧ (∀ (s : State), s.Up → Gives (.cancel false) s fun t => t = s.wr Reg.UPD_CTRL_RESULT St.badFormat)
  -- hostOk, written with another bit
  ∧ (∀ (s : State), s.Up → Gives (.hostOk false) s fun t => t = s.wr Reg.UPD_CTRL_RESULT St.badFormat)
  -- updateClear, written with another bit
  ∧ (∀ (s : State), s.Up → Gives (.updateClear false) s fun t => t = s.wr Reg.UPD_CTRL_RESULT St.badFormat)
  -- updCommit
  ∧ (∀ (s u : State), s.Up → 60 ≤ s.sh Reg.UPD_CFG_DEFER_MAX ∧ s.sh Reg.UPD_CFG_TRIAL_BOOTS ≠ 0 ∧ s.sh Reg.UPD_CFG_SESSION_IDLE ≠ 0 ∧ s.sh
    Reg.UPD_NET_PORT ≠ 0 → u = s.commit Reg.UPD_COMMIT_RESULT [Reg.UPD_CFG_DEFER_MAX, Reg.UPD_CFG_BATT_RULE, Reg.UPD_CFG_BATT_EN,
    Reg.UPD_CFG_CONFIRM_HOST, Reg.UPD_CFG_TRIAL_BOOTS, Reg.UPD_CFG_SESSION_IDLE, Reg.UPD_NET_PORT, Reg.UPD_NET_FED_EN] St.done → Gives
    .updCommit s fun t => t = { u with upd := { u.upd with conns := if u.on Reg.UPD_NET_FED_EN then u.upd.conns else [] } } ∧ t.rd
    Reg.UPD_COMMIT_RESULT = St.done ∧ t.rd Reg.UPD_CFG_DEFER_MAX = s.sh Reg.UPD_CFG_DEFER_MAX % 2 ^ Reg.UPD_CFG_DEFER_MAX.w ∧ t.rd
    Reg.UPD_NET_PORT = s.sh Reg.UPD_NET_PORT % 2 ^ Reg.UPD_NET_PORT.w ∧ t.rd Reg.UPD_NET_FED_EN = s.sh Reg.UPD_NET_FED_EN % 2 ^
    Reg.UPD_NET_FED_EN.w)
  -- updCommit, refused
  ∧ (∀ (s : State), s.Up → (s.sh Reg.UPD_CFG_DEFER_MAX < 60 ∨ s.sh Reg.UPD_CFG_TRIAL_BOOTS = 0 ∨ s.sh Reg.UPD_CFG_SESSION_IDLE = 0 ∨ s.sh
    Reg.UPD_NET_PORT = 0) → Gives .updCommit s fun t => t.rd Reg.UPD_COMMIT_RESULT = St.badFormat ∧ t.rd Reg.UPD_CFG_DEFER_MAX = s.rd
    Reg.UPD_CFG_DEFER_MAX ∧ t.rd Reg.UPD_NET_PORT = s.rd Reg.UPD_NET_PORT)

/-- Tally events, definitions and memory errors. Each command completes (exec answers a next state) in every state that meets its hypotheses.
  While events are taken and no flush freezes the image, a well-formed HIST_ADD of a defined histogram adds COUNT to the bin of its value,
  what exceeds the bin going to the overflow count (clamped at its top), and TLY_SEQ steps; an EXTREME of a defined register files value and
  stamp where it is empty, and where it holds one counts the offer and takes a value that is better under its MODE; SATURATED and MARK
  append a mark with its data, stamp and epoch, a full log dropping its oldest; a Dormer record is counted in histogram 252, a MARK of it
  also offered to its rule's extreme. Each record is consumed from its chute and counted as received. A histogram or register that is not
  defined counts as lost in counter 1, a record of bad format in counter 2. While a flush freezes the image each kind waits in the shadow,
  with the shadow full it counts as excess, and before restore or after the last word it has no effect. TALLY_LIVE_ECC clears a damaged
  histogram with its overflow count, or an extreme, marks it and counts it lost; a damaged header, lost counts or mark log take the latest
  intact bank's, or none, and UNCERTAIN shows. DEF_COMMIT with a FLUSH_PERIOD of 0 or 5 to 240 and well-formed definitions, none of them
  changed over content, takes the definitions and period from the shadow, DONE; else it ends BAD_FORMAT or CONFLICT and the recorder stays
  as it was. Rests on parts of rules R525, R526, R528, R532, R540, R544. -/
def Obligations.TallyImage : Prop :=
  -- histAdd
  (∀ (s : State) (r : TallyRec), s.Up → s.tlyOpen = true ∧ s.tly.flush = none → r.bad = false ∧ r.dlen.toNat ≤ 40 → r.index.toNat < 512 ∧
    bits (s.hdef r.index.toNat 0) 0 8 ≠ 0 → 0 < AMap.get s.tly.body.hist (32 * r.index.toNat + binOf (bits (s.hdef r.index.toNat 0) 0 8)
    (signed 32 (s.hdef r.index.toNat 1)) (signed 32 r.value.toNat) (s.hdef r.index.toNat 2)) 0 + r.count.toNat ∧ AMap.get s.tly.body.hist
    (32 * r.index.toNat + binOf (bits (s.hdef r.index.toNat 0) 0 8) (signed 32 (s.hdef r.index.toNat 1)) (signed 32 r.value.toNat) (s.hdef
    r.index.toNat 2)) 0 + r.count.toNat ≤ 4294967295 → Gives (.histAdd r) s fun t => t.tly.body.hist = AMap.set (32 * r.index.toNat + binOf
    (bits (s.hdef r.index.toNat 0) 0 8) (signed 32 (s.hdef r.index.toNat 1)) (signed 32 r.value.toNat) (s.hdef r.index.toNat 2)) (AMap.get
    s.tly.body.hist (32 * r.index.toNat + binOf (bits (s.hdef r.index.toNat 0) 0 8) (signed 32 (s.hdef r.index.toNat 1)) (signed 32
    r.value.toNat) (s.hdef r.index.toNat 2)) 0 + r.count.toNat) s.tly.body.hist ∧ t.rd Reg.TLY_SEQ = (s.rd Reg.TLY_SEQ + 1) % 4294967296)
  -- histAdd, beyond the top of its bin
  ∧ (∀ (s : State) (r : TallyRec), s.Up → s.tlyOpen = true ∧ s.tly.flush = none → r.bad = false ∧ r.dlen.toNat ≤ 40 → r.index.toNat < 512 ∧
    bits (s.hdef r.index.toNat 0) 0 8 ≠ 0 → 4294967295 < AMap.get s.tly.body.hist (32 * r.index.toNat + binOf (bits (s.hdef r.index.toNat 0)
    0 8) (signed 32 (s.hdef r.index.toNat 1)) (signed 32 r.value.toNat) (s.hdef r.index.toNat 2)) 0 + r.count.toNat → Gives (.histAdd r) s
    fun t => t.tly.body.hist = AMap.set (32 * r.index.toNat + binOf (bits (s.hdef r.index.toNat 0) 0 8) (signed 32 (s.hdef r.index.toNat 1))
    (signed 32 r.value.toNat) (s.hdef r.index.toNat 2)) 4294967295 s.tly.body.hist ∧ t.tly.body.ovr = AMap.set r.index.toNat (min (AMap.get
    s.tly.body.ovr r.index.toNat 0 + (AMap.get s.tly.body.hist (32 * r.index.toNat + binOf (bits (s.hdef r.index.toNat 0) 0 8) (signed 32
    (s.hdef r.index.toNat 1)) (signed 32 r.value.toNat) (s.hdef r.index.toNat 2)) 0 + r.count.toNat - 4294967295)) 4294967295)
    s.tly.body.ovr ∧ t.rd Reg.TLY_SEQ = (s.rd Reg.TLY_SEQ + 1) % 4294967296)
  -- histAdd, of a histogram that is not defined
  ∧ (∀ (s u x : State) (r : TallyRec), s.Up → s.tlyOpen = true ∧ s.tly.flush = none → r.bad = false ∧ r.dlen.toNat ≤ 40 → (512 ≤ r.index.toNat
    ∨ bits (s.hdef r.index.toNat 0) 0 8 = 0) → u = State.received (s.consume 48 (toWords ([0x70, 1] ++ le 2 r.index.toNat ++ le 4
    r.value.toNat ++ le 4 r.count.toNat ++ [r.dlen.toNat, 0, 0, 0] ++ r.data.map BitVec.toNat))) ∧ x =
    { u with tly := { u.tly with applied := u.tly.applied + 1 } } → Gives (.histAdd r) s fun t => t = x.lose 1 1)
  -- histAdd, while a flush freezes the image
  ∧ (∀ (s u : State) (r : TallyRec) (f : TlyFlush), s.Up → s.tlyOpen = true ∧ s.tly.flush = some f ∧ s.tly.shadow.length < 4096 → u =
    State.received (s.consume 48 (toWords ([0x70, 1] ++ le 2 r.index.toNat ++ le 4 r.value.toNat ++ le 4 r.count.toNat ++ [r.dlen.toNat, 0,
    0, 0] ++ r.data.map BitVec.toNat))) → Gives (.histAdd r) s fun t => t = State.wr
    { u with tly := { u.tly with shadow := s.tly.shadow ++ [⟨1, r.index.toNat, r.value.toNat, r.count.toNat, (r.data.map BitVec.toNat).take r.dlen.toNat, r.bad || decide (r.dlen.toNat > 40), s.calStamp⟩] } }
    Reg.TLY_STATUS_SHADOW (s.tly.shadow.length + 1) ∧ t.tly.body = s.tly.body)
  -- histAdd, with the shadow full
  ∧ (∀ (s u : State) (r : TallyRec) (f : TlyFlush), s.Up → s.tlyOpen = true ∧ s.tly.flush = some f ∧ 4096 ≤ s.tly.shadow.length → u =
    State.received (s.consume 48 (toWords ([0x70, 1] ++ le 2 r.index.toNat ++ le 4 r.value.toNat ++ le 4 r.count.toNat ++ [r.dlen.toNat, 0,
    0, 0] ++ r.data.map BitVec.toNat))) → Gives (.histAdd r) s fun t => t = { u with tly := { u.tly with excess := s.tly.excess + 1 } })
  -- histAdd, before restore or after the last word
  ∧ (∀ (s : State) (r : TallyRec), s.Up → s.tlyOpen = false → Gives (.histAdd r) s fun t => t = s)
  -- histAdd, of a bad format
  ∧ (∀ (s u x : State) (r : TallyRec), s.Up → s.tlyOpen = true ∧ s.tly.flush = none → (r.bad = true ∨ 40 < r.dlen.toNat) → u = State.received
    (s.consume 48 (toWords ([0x70, 1] ++ le 2 r.index.toNat ++ le 4 r.value.toNat ++ le 4 r.count.toNat ++ [r.dlen.toNat, 0, 0, 0] ++
    r.data.map BitVec.toNat))) ∧ x = { u with tly := { u.tly with applied := u.tly.applied + 1 } } → Gives (.histAdd r) s fun t => t =
    x.lose 2 1)
  -- extreme
  ∧ (∀ (s : State) (r : TallyRec), s.Up → s.tlyOpen = true ∧ s.tly.flush = none → r.bad = false ∧ r.dlen.toNat ≤ 40 → 64 ≤ r.index.toNat ∧
    r.index.toNat < 256 ∧ bits (AMap.get s.tly.xdef (2 * r.index.toNat) 0) 0 8 ≠ 0 → AMap.find r.index.toNat s.tly.body.ext = none → Gives
    (.extreme r) s fun t => t.tly.body.ext = AMap.set r.index.toNat
    ⟨bits (AMap.get s.tly.xdef (2 * r.index.toNat) 0) 0 8, signed 32 r.value.toNat, s.calStamp, 1⟩ s.tly.body.ext ∧ t.rd Reg.TLY_SEQ = (s.rd
    Reg.TLY_SEQ + 1) % 4294967296)
  -- extreme, offered to a value it holds
  ∧ (∀ (s : State) (r : TallyRec) (e : Extreme), s.Up → s.tlyOpen = true ∧ s.tly.flush = none → r.bad = false ∧ r.dlen.toNat ≤ 40 → 64 ≤
    r.index.toNat ∧ r.index.toNat < 256 ∧ bits (AMap.get s.tly.xdef (2 * r.index.toNat) 0) 0 8 ≠ 0 → AMap.find r.index.toNat s.tly.body.ext
    = some e → Gives (.extreme r) s fun t => t.tly.body.ext = AMap.set r.index.toNat (if (if bits (AMap.get s.tly.xdef (2 * r.index.toNat)
    0) 0 8 = 1 then e.value < signed 32 r.value.toNat else signed 32 r.value.toNat < e.value) then
    ⟨bits (AMap.get s.tly.xdef (2 * r.index.toNat) 0) 0 8, signed 32 r.value.toNat, s.calStamp, min (e.offers + 1) 4294967295⟩ else
    ⟨bits (AMap.get s.tly.xdef (2 * r.index.toNat) 0) 0 8, e.value, e.stamp, min (e.offers + 1) 4294967295⟩) s.tly.body.ext ∧ t.rd
    Reg.TLY_SEQ = (s.rd Reg.TLY_SEQ + 1) % 4294967296)
  -- extreme, of a register that is not defined
  ∧ (∀ (s u x : State) (r : TallyRec), s.Up → s.tlyOpen = true ∧ s.tly.flush = none → r.bad = false ∧ r.dlen.toNat ≤ 40 → (r.index.toNat < 64
    ∨ 256 ≤ r.index.toNat ∨ bits (AMap.get s.tly.xdef (2 * r.index.toNat) 0) 0 8 = 0) → u = State.received (s.consume 48 (toWords ([0x70, 2]
    ++ le 2 r.index.toNat ++ le 4 r.value.toNat ++ le 4 r.count.toNat ++ [r.dlen.toNat, 0, 0, 0] ++ r.data.map BitVec.toNat))) ∧ x =
    { u with tly := { u.tly with applied := u.tly.applied + 1 } } → Gives (.extreme r) s fun t => t = x.lose 1 1)
  -- extreme, while a flush freezes the image
  ∧ (∀ (s u : State) (r : TallyRec) (f : TlyFlush), s.Up → s.tlyOpen = true ∧ s.tly.flush = some f ∧ s.tly.shadow.length < 4096 → u =
    State.received (s.consume 48 (toWords ([0x70, 2] ++ le 2 r.index.toNat ++ le 4 r.value.toNat ++ le 4 r.count.toNat ++ [r.dlen.toNat, 0,
    0, 0] ++ r.data.map BitVec.toNat))) → Gives (.extreme r) s fun t => t = State.wr
    { u with tly := { u.tly with shadow := s.tly.shadow ++ [⟨2, r.index.toNat, r.value.toNat, r.count.toNat, (r.data.map BitVec.toNat).take r.dlen.toNat, r.bad || decide (r.dlen.toNat > 40), s.calStamp⟩] } }
    Reg.TLY_STATUS_SHADOW (s.tly.shadow.length + 1) ∧ t.tly.body = s.tly.body)
  -- extreme, with the shadow full
  ∧ (∀ (s u : State) (r : TallyRec) (f : TlyFlush), s.Up → s.tlyOpen = true ∧ s.tly.flush = some f ∧ 4096 ≤ s.tly.shadow.length → u =
    State.received (s.consume 48 (toWords ([0x70, 2] ++ le 2 r.index.toNat ++ le 4 r.value.toNat ++ le 4 r.count.toNat ++ [r.dlen.toNat, 0,
    0, 0] ++ r.data.map BitVec.toNat))) → Gives (.extreme r) s fun t => t = { u with tly := { u.tly with excess := s.tly.excess + 1 } })
  -- extreme, before restore or after the last word
  ∧ (∀ (s : State) (r : TallyRec), s.Up → s.tlyOpen = false → Gives (.extreme r) s fun t => t = s)
  -- extreme, of a bad format
  ∧ (∀ (s u x : State) (r : TallyRec), s.Up → s.tlyOpen = true ∧ s.tly.flush = none → (r.bad = true ∨ 40 < r.dlen.toNat) → u = State.received
    (s.consume 48 (toWords ([0x70, 2] ++ le 2 r.index.toNat ++ le 4 r.value.toNat ++ le 4 r.count.toNat ++ [r.dlen.toNat, 0, 0, 0] ++
    r.data.map BitVec.toNat))) ∧ x = { u with tly := { u.tly with applied := u.tly.applied + 1 } } → Gives (.extreme r) s fun t => t =
    x.lose 2 1)
  -- saturated
  ∧ (∀ (s : State) (r : TallyRec), s.Up → s.tlyOpen = true ∧ s.tly.flush = none → r.bad = false ∧ r.dlen.toNat ≤ 40 → s.tly.body.marks.length
    < 128 → Gives (.saturated r) s fun t => t.tly.body.marks = s.tly.body.marks ++
    [⟨6, s.tly.body.markSeq, s.calStamp, s.rd Reg.GLB_EPOCH, (([bits r.value.toNat 0 8, 0] ++ le 2 r.index.toNat) ++ List.replicate 40 0).take 40⟩])
  -- saturated, into a full log
  ∧ (∀ (s : State) (r : TallyRec), s.Up → s.tlyOpen = true ∧ s.tly.flush = none → r.bad = false ∧ r.dlen.toNat ≤ 40 → 128 ≤
    s.tly.body.marks.length → Gives (.saturated r) s fun t => t.tly.body.marks = s.tly.body.marks.drop 1 ++
    [⟨6, s.tly.body.markSeq, s.calStamp, s.rd Reg.GLB_EPOCH, (([bits r.value.toNat 0 8, 0] ++ le 2 r.index.toNat) ++ List.replicate 40 0).take 40⟩]
    ∧ t.tly.body.markSeq = (s.tly.body.markSeq + 1) % 4294967296)
  -- saturated, while a flush freezes the image
  ∧ (∀ (s u : State) (r : TallyRec) (f : TlyFlush), s.Up → s.tlyOpen = true ∧ s.tly.flush = some f ∧ s.tly.shadow.length < 4096 → u =
    State.received (s.consume 48 (toWords ([0x70, 3] ++ le 2 r.index.toNat ++ le 4 r.value.toNat ++ le 4 r.count.toNat ++ [r.dlen.toNat, 0,
    0, 0] ++ r.data.map BitVec.toNat))) → Gives (.saturated r) s fun t => t = State.wr
    { u with tly := { u.tly with shadow := s.tly.shadow ++ [⟨3, r.index.toNat, r.value.toNat, r.count.toNat, (r.data.map BitVec.toNat).take r.dlen.toNat, r.bad || decide (r.dlen.toNat > 40), s.calStamp⟩] } }
    Reg.TLY_STATUS_SHADOW (s.tly.shadow.length + 1) ∧ t.tly.body = s.tly.body)
  -- saturated, with the shadow full
  ∧ (∀ (s u : State) (r : TallyRec) (f : TlyFlush), s.Up → s.tlyOpen = true ∧ s.tly.flush = some f ∧ 4096 ≤ s.tly.shadow.length → u =
    State.received (s.consume 48 (toWords ([0x70, 3] ++ le 2 r.index.toNat ++ le 4 r.value.toNat ++ le 4 r.count.toNat ++ [r.dlen.toNat, 0,
    0, 0] ++ r.data.map BitVec.toNat))) → Gives (.saturated r) s fun t => t = { u with tly := { u.tly with excess := s.tly.excess + 1 } })
  -- saturated, before restore or after the last word
  ∧ (∀ (s : State) (r : TallyRec), s.Up → s.tlyOpen = false → Gives (.saturated r) s fun t => t = s)
  -- saturated, of a bad format
  ∧ (∀ (s u x : State) (r : TallyRec), s.Up → s.tlyOpen = true ∧ s.tly.flush = none → (r.bad = true ∨ 40 < r.dlen.toNat) → u = State.received
    (s.consume 48 (toWords ([0x70, 3] ++ le 2 r.index.toNat ++ le 4 r.value.toNat ++ le 4 r.count.toNat ++ [r.dlen.toNat, 0, 0, 0] ++
    r.data.map BitVec.toNat))) ∧ x = { u with tly := { u.tly with applied := u.tly.applied + 1 } } → Gives (.saturated r) s fun t => t =
    x.lose 2 1)
  -- mark
  ∧ (∀ (s : State) (r : TallyRec), s.Up → s.tlyOpen = true ∧ s.tly.flush = none → r.bad = false ∧ r.dlen.toNat ≤ 40 → s.tly.body.marks.length
    < 128 → Gives (.mark r) s fun t => t.tly.body.marks = s.tly.body.marks ++
    [⟨r.index.toNat % 256, s.tly.body.markSeq, s.calStamp, s.rd Reg.GLB_EPOCH, ((r.data.map BitVec.toNat).take r.dlen.toNat ++ List.replicate 40 0).take 40⟩])
  -- mark, into a full log
  ∧ (∀ (s : State) (r : TallyRec), s.Up → s.tlyOpen = true ∧ s.tly.flush = none → r.bad = false ∧ r.dlen.toNat ≤ 40 → 128 ≤
    s.tly.body.marks.length → Gives (.mark r) s fun t => t.tly.body.marks = s.tly.body.marks.drop 1 ++
    [⟨r.index.toNat % 256, s.tly.body.markSeq, s.calStamp, s.rd Reg.GLB_EPOCH, (((r.data.map BitVec.toNat).take r.dlen.toNat) ++ List.replicate 40 0).take 40⟩]
    ∧ t.tly.body.markSeq = (s.tly.body.markSeq + 1) % 4294967296)
  -- mark, while a flush freezes the image
  ∧ (∀ (s u : State) (r : TallyRec) (f : TlyFlush), s.Up → s.tlyOpen = true ∧ s.tly.flush = some f ∧ s.tly.shadow.length < 4096 → u =
    State.received (s.consume 48 (toWords ([0x70, 4] ++ le 2 r.index.toNat ++ le 4 r.value.toNat ++ le 4 r.count.toNat ++ [r.dlen.toNat, 0,
    0, 0] ++ r.data.map BitVec.toNat))) → Gives (.mark r) s fun t => t = State.wr
    { u with tly := { u.tly with shadow := s.tly.shadow ++ [⟨4, r.index.toNat, r.value.toNat, r.count.toNat, (r.data.map BitVec.toNat).take r.dlen.toNat, r.bad || decide (r.dlen.toNat > 40), s.calStamp⟩] } }
    Reg.TLY_STATUS_SHADOW (s.tly.shadow.length + 1) ∧ t.tly.body = s.tly.body)
  -- mark, with the shadow full
  ∧ (∀ (s u : State) (r : TallyRec) (f : TlyFlush), s.Up → s.tlyOpen = true ∧ s.tly.flush = some f ∧ 4096 ≤ s.tly.shadow.length → u =
    State.received (s.consume 48 (toWords ([0x70, 4] ++ le 2 r.index.toNat ++ le 4 r.value.toNat ++ le 4 r.count.toNat ++ [r.dlen.toNat, 0,
    0, 0] ++ r.data.map BitVec.toNat))) → Gives (.mark r) s fun t => t = { u with tly := { u.tly with excess := s.tly.excess + 1 } })
  -- mark, before restore or after the last word
  ∧ (∀ (s : State) (r : TallyRec), s.Up → s.tlyOpen = false → Gives (.mark r) s fun t => t = s)
  -- mark, of a bad format
  ∧ (∀ (s u x : State) (r : TallyRec), s.Up → s.tlyOpen = true ∧ s.tly.flush = none → (r.bad = true ∨ 40 < r.dlen.toNat) → u = State.received
    (s.consume 48 (toWords ([0x70, 4] ++ le 2 r.index.toNat ++ le 4 r.value.toNat ++ le 4 r.count.toNat ++ [r.dlen.toNat, 0, 0, 0] ++
    r.data.map BitVec.toNat))) ∧ x = { u with tly := { u.tly with applied := u.tly.applied + 1 } } → Gives (.mark r) s fun t => t = x.lose 2
    1)
  -- tallyDormerRecord
  ∧ (∀ (s u x : State) (e : DormerRec), s.Up → s.tlyOpen = true ∧ s.tly.flush = none → e.kind.toNat ≠ 3 → u = State.received (s.consume 46
    (toWords ([0x40, e.rule.val, e.kind.toNat, e.src.toNat] ++ le 2 e.value.toNat ++ [0, 0] ++ le 4 e.seconds.toNat ++ le 2 e.ticks.toNat ++
    [e.flags.toNat, 0]))) ∧ x = { u with tly := { u.tly with applied := u.tly.applied + 1 } } → Gives (.tallyDormerRecord e) s fun t => t =
    (x.addBin 252 (binOf 1 0 e.kind.toNat 1) 1).tlyStep)
  -- tallyDormerRecord, in its bin
  ∧ (∀ (s : State) (e : DormerRec), s.Up → s.tlyOpen = true ∧ s.tly.flush = none → e.kind.toNat ≠ 3 → AMap.get s.tly.body.hist (32 * 252 +
    binOf 1 0 e.kind.toNat 1) 0 < 4294967295 → Gives (.tallyDormerRecord e) s fun t => t.tly.body.hist = AMap.set (32 * 252 + binOf 1 0
    e.kind.toNat 1) (AMap.get s.tly.body.hist (32 * 252 + binOf 1 0 e.kind.toNat 1) 0 + 1) s.tly.body.hist)
  -- tallyDormerRecord, a MARK
  ∧ (∀ (s u x : State) (e : DormerRec), s.Up → s.tlyOpen = true ∧ s.tly.flush = none → e.kind.toNat = 3 → u = State.received (s.consume 46
    (toWords ([0x40, e.rule.val, e.kind.toNat, e.src.toNat] ++ le 2 e.value.toNat ++ [0, 0] ++ le 4 e.seconds.toNat ++ le 2 e.ticks.toNat ++
    [e.flags.toNat, 0]))) ∧ x = { u with tly := { u.tly with applied := u.tly.applied + 1 } } → Gives (.tallyDormerRecord e) s fun t => t =
    ((x.addBin 252 (binOf 1 0 3 1) 1).offerExt e.rule.val (1 + bits (AMap.get (x.addBin 252 (binOf 1 0 3 1) 1).drm.rules (4 * e.rule.val) 0)
    1 1) e.value.toNat ⟨e.seconds.toNat, bits e.flags.toNat 0 1 == 1⟩).tlyStep)
  -- tallyDormerRecord, while a flush freezes the image
  ∧ (∀ (s u : State) (e : DormerRec) (f : TlyFlush), s.Up → s.tlyOpen = true ∧ s.tly.flush = some f ∧ s.tly.shadow.length < 4096 → u =
    State.received (s.consume 46 (toWords ([0x40, e.rule.val, e.kind.toNat, e.src.toNat] ++ le 2 e.value.toNat ++ [0, 0] ++ le 4
    e.seconds.toNat ++ le 2 e.ticks.toNat ++ [e.flags.toNat, 0]))) → Gives (.tallyDormerRecord e) s fun t => t = State.wr
    { u with tly := { u.tly with shadow := s.tly.shadow ++ [⟨5, e.rule.val, e.kind.toNat, e.value.toNat, [], false, ⟨e.seconds.toNat, bits e.flags.toNat 0 1 == 1⟩⟩] } }
    Reg.TLY_STATUS_SHADOW (s.tly.shadow.length + 1))
  -- tallyDormerRecord, before restore or after the last word
  ∧ (∀ (s : State) (e : DormerRec), s.Up → s.tlyOpen = false → Gives (.tallyDormerRecord e) s fun t => t = s)
  -- tallyLiveEcc, a histogram
  ∧ (∀ (s u : State) (k : Fin 512), s.Up → u = State.setBody s
    { s.tly.body with hist := s.tly.body.hist.filter (fun (p : Nat × Nat) => p.1 / 32 != k.val), ovr := AMap.del k.val s.tly.body.ovr } →
    Gives (.tallyLiveEcc (.hist k)) s fun t => t = State.fault ((u.addMark 7 (le 2 k.val ++ [0])).lose 5 1) Reg.TLY_FAULT_ECC ∧
    t.tly.body.hist = s.tly.body.hist.filter (fun (p : Nat × Nat) => p.1 / 32 != k.val) ∧ t.tly.body.ovr = AMap.del k.val s.tly.body.ovr ∧
    t.tly.body.ext = s.tly.body.ext)
  -- tallyLiveEcc, an extreme
  ∧ (∀ (s u : State) (k : Fin 256), s.Up → u = State.setBody s { s.tly.body with ext := AMap.del k.val s.tly.body.ext } → Gives (.tallyLiveEcc
    (.ext k)) s fun t => t = State.fault ((u.addMark 7 (le 2 k.val ++ [1])).lose 5 1) Reg.TLY_FAULT_ECC)
  -- tallyLiveEcc, the header, with an intact bank
  ∧ (∀ (s : State) (b : TlyBank), s.Up → s.latestBank = some b → Gives (.tallyLiveEcc .header) s fun t => t = State.wr (State.wr (s.setBody
    { s.tly.body with markSeq := b.body.markSeq }) Reg.TLY_SEQ b.seq) Reg.TLY_STATUS_UNCERTAIN 1)
  -- tallyLiveEcc, the header, with none
  ∧ (∀ (s : State), s.Up → s.latestBank = none → Gives (.tallyLiveEcc .header) s fun t => t = State.wr (s.setBody
    { s.tly.body with markSeq := 0 }) Reg.TLY_STATUS_UNCERTAIN 1)
  -- tallyLiveEcc, the lost counts
  ∧ (∀ (s : State) (l : List Nat), s.Up → l = (match s.latestBank with | some b => b.lost | none => []) → Gives (.tallyLiveEcc .lost) s fun t
    => t = State.wr ((List.range 16).foldl (fun (x : State) k => x.wr (Reg.TLY_LOST k) (l.getD k 0)) s) Reg.TLY_STATUS_UNCERTAIN 1)
  -- tallyLiveEcc, the mark log
  ∧ (∀ (s : State) (m : List TlyMark), s.Up → m = (match s.latestBank with | some b => b.body.marks | none => []) → Gives (.tallyLiveEcc
    .marks) s fun t => t = State.wr (s.setBody { s.tly.body with marks := m }) Reg.TLY_STATUS_UNCERTAIN 1)
  -- defCommit
  ∧ (∀ (s : State), s.Up → (s.sh Reg.TLY_CFG_FLUSH_PERIOD = 0 ∨ (5 ≤ s.sh Reg.TLY_CFG_FLUSH_PERIOD ∧ s.sh Reg.TLY_CFG_FLUSH_PERIOD ≤ 240)) →
    (List.range 512).any (hdefBad s.tly.hdefSh) = false ∧ (List.range 256).any (xdefBad s.tly.xdefSh) = false → ((List.range 512).any fun h
    => wordsDiffer s.tly.hdef s.tly.hdefSh (4 * h) 4 && s.histUsed h) = false ∧ ((List.range 256).any fun x => wordsDiffer s.tly.xdef
    s.tly.xdefSh (2 * x) 2 && (AMap.find x s.tly.body.ext).isSome) = false → Gives .defCommit s fun t => t.tly =
    { s.tly with hdef := s.tly.hdefSh, xdef := s.tly.xdefSh } ∧ t.rd Reg.TLY_CFG_FLUSH_PERIOD = s.sh Reg.TLY_CFG_FLUSH_PERIOD % 256 ∧ t.rd
    Reg.TLY_COMMIT_RESULT = St.done)
  -- defCommit, of a bad format
  ∧ (∀ (s : State), s.Up → ((s.sh Reg.TLY_CFG_FLUSH_PERIOD ≠ 0 ∧ s.sh Reg.TLY_CFG_FLUSH_PERIOD < 5) ∨ 240 < s.sh Reg.TLY_CFG_FLUSH_PERIOD ∨
    (List.range 512).any (hdefBad s.tly.hdefSh) = true ∨ (List.range 256).any (xdefBad s.tly.xdefSh) = true) → Gives .defCommit s fun t => t
    = s.commit Reg.TLY_COMMIT_RESULT [Reg.TLY_CFG_FLUSH_PERIOD] St.badFormat ∧ t.tly = s.tly)
  -- defCommit, over a histogram or extreme in use
  ∧ (∀ (s : State), s.Up → (s.sh Reg.TLY_CFG_FLUSH_PERIOD = 0 ∨ (5 ≤ s.sh Reg.TLY_CFG_FLUSH_PERIOD ∧ s.sh Reg.TLY_CFG_FLUSH_PERIOD ≤ 240)) →
    (List.range 512).any (hdefBad s.tly.hdefSh) = false ∧ (List.range 256).any (xdefBad s.tly.xdefSh) = false → (((List.range 512).any fun h
    => wordsDiffer s.tly.hdef s.tly.hdefSh (4 * h) 4 && s.histUsed h) = true ∨ ((List.range 256).any fun x => wordsDiffer s.tly.xdef
    s.tly.xdefSh (2 * x) 2 && (AMap.find x s.tly.body.ext).isSome) = true) → Gives .defCommit s fun t => t = s.commit Reg.TLY_COMMIT_RESULT
    [Reg.TLY_CFG_FLUSH_PERIOD] St.conflict ∧ t.tly = s.tly)

/-- Tally flushes, restore, snapshot and clear. Each command completes (exec answers a next state) in every state that meets its hypotheses.
  PERIODIC_FLUSH with a period asks for a flush of cause 5; with one asked for or in progress it merges and nothing changes; in DEGRADED it
  counts as suppressed; with no period nothing happens. FLUSH of TLY_CTRL asks for one of cause 6, PENDING, joins one asked for or not past
  its commit point, is DONE past it, and in DEGRADED is suppressed, ECC_UNCORRECTED; a FLUSH command with LENGTH 0 asks and waits, past a
  commit point is DONE, of another length BAD_LENGTH. RETEST asks for a flush in DEGRADED, PENDING, and is else CONFLICT. FLUSH_START
  freezes the image for the one asked for, into the bank it then marks not intact; at PFAIL and POWER_DOWN unread packets and held entries
  count as lost; with none asked for or one in progress nothing happens. FLUSH_COMMIT_POINT makes the bank intact, shows its sequence, bank,
  cause and DONE, answers the waiting commands, and TLY_CTRL but for a RETEST. FLUSH_COMPLETE shows the duration, applies the shadow, ends
  PFAIL stage 3 of a power flush and applies waiting clears; a RETEST ends DEGRADED; read back wrong the bank is not intact and the memory
  failure shows. TALLY_LAST_WORD with outputs stopped counts what is lost and ends recording, and does nothing while they run. TALLY_RESTORE
  takes the intact bank, of two bank 1 where it is later, with none keeps the empty image UNCERTAIN, with an error in the one bank shows it,
  and does nothing twice. SNAPSHOT of 86,192 bytes is the image and its tag; with no key KEY_REVOKED. TALLY_CLEAR of length and format gives
  a new challenge and, its checks passed, clears what it names at once or, with a flush asked for or running, after it; else its first
  failing check answers; bad format or length changes nothing else. Rests on parts of rules R533, R534, R536, R537, R538, R539, R541, R542. -/
def Obligations.TallyFlushes : Prop :=
  -- periodicFlush
  (∀ (s : State), s.Up → s.rd Reg.TLY_CFG_FLUSH_PERIOD ≠ 0 ∧ s.on Reg.TLY_STATUS_DEGRADED = false ∧ s.tly.flush = none ∧ s.tly.want = none →
    Gives .periodicFlush s fun t => t = { s with tly := { s.tly with want := some ⟨5, [], false, false⟩ } })
  -- periodicFlush, with a flush asked for
  ∧ (∀ (s : State) (q : FlushReq), s.Up → s.rd Reg.TLY_CFG_FLUSH_PERIOD ≠ 0 ∧ s.on Reg.TLY_STATUS_DEGRADED = false ∧ s.tly.flush = none ∧
    s.tly.want = some q → Gives .periodicFlush s fun t => t = s)
  -- periodicFlush, with a flush in progress
  ∧ (∀ (s : State) (f : TlyFlush), s.Up → s.rd Reg.TLY_CFG_FLUSH_PERIOD ≠ 0 ∧ s.on Reg.TLY_STATUS_DEGRADED = false ∧ s.tly.flush = some f →
    Gives .periodicFlush s fun t => t = s)
  -- periodicFlush, in DEGRADED
  ∧ (∀ (s : State), s.Up → s.rd Reg.TLY_CFG_FLUSH_PERIOD ≠ 0 ∧ s.on Reg.TLY_STATUS_DEGRADED = true → Gives .periodicFlush s fun t => t =
    { s with tly := { s.tly with last := { s.tly.last with suppressed := s.tly.last.suppressed + 1 } } })
  -- periodicFlush, with no period
  ∧ (∀ (s : State), s.Up → s.rd Reg.TLY_CFG_FLUSH_PERIOD = 0 → Gives .periodicFlush s fun t => t = s)
  -- flush, from TLY_CTRL
  ∧ (∀ (s : State), s.Up → s.on Reg.TLY_STATUS_DEGRADED = false ∧ s.tly.flush = none ∧ s.tly.want = none → Gives (.flush none) s fun t => t =
    { s.wr Reg.TLY_CTRL_RESULT St.pending with tly := { s.tly with want := some ⟨6, [], true, false⟩ } } ∧ t.rd Reg.TLY_CTRL_RESULT =
    St.pending)
  -- flush, from TLY_CTRL, with a flush asked for
  ∧ (∀ (s : State) (q : FlushReq), s.Up → s.on Reg.TLY_STATUS_DEGRADED = false ∧ s.tly.flush = none ∧ s.tly.want = some q → Gives (.flush
    none) s fun t => t = { s.wr Reg.TLY_CTRL_RESULT St.pending with tly := { s.tly with want := some ⟨q.cause, q.cmds, true, q.retest⟩ } })
  -- flush, from TLY_CTRL, with a flush in progress
  ∧ (∀ (s : State) (f : TlyFlush), s.Up → s.on Reg.TLY_STATUS_DEGRADED = false ∧ s.tly.flush = some f → Gives (.flush none) s fun t => t = (if
    f.committed = true then s.wr Reg.TLY_CTRL_RESULT St.done else
    { s.wr Reg.TLY_CTRL_RESULT St.pending with tly := { s.tly with flush := some { f with req := ⟨f.req.cause, f.req.cmds, true, f.req.retest⟩ } } }))
  -- flush, from TLY_CTRL, in DEGRADED
  ∧ (∀ (s : State), s.Up → s.on Reg.TLY_STATUS_DEGRADED = true → Gives (.flush none) s fun t => t =
    { s.wr Reg.TLY_CTRL_RESULT St.eccUncorrected with tly := { s.tly with last := { s.tly.last with suppressed := s.tly.last.suppressed + 1 } } })
  -- flush, a command
  ∧ (∀ (s : State) (d : Cmd), s.Up → s.Accepts d .command → d.desc.length = 0 → s.on Reg.TLY_STATUS_DEGRADED = false ∧ s.tly.flush = none ∧
    s.tly.want = none → Gives (.flush (some d)) s fun t => t = (fun (y : State) =>
    { y with tly := { s.tly with want := some ⟨6, [d], false, false⟩ } }) (s.begun d))
  -- flush, a command, with a flush past its commit point
  ∧ (∀ (s : State) (d : Cmd) (f : TlyFlush), s.Up → s.Accepts d .command → d.desc.length = 0 → s.on Reg.TLY_STATUS_DEGRADED = false ∧
    s.tly.flush = some f ∧ f.committed = true → Gives (.flush (some d)) s fun t => t = (s.begun d).finish d St.done 0 0)
  -- flush, a command of a length
  ∧ (∀ (s : State) (d : Cmd), s.Up → s.Accepts d .command → d.desc.length ≠ 0 → Gives (.flush (some d)) s fun t => t = (s.begun d).finish d
    St.badLength 0 0)
  -- retest
  ∧ (∀ (s : State), s.Up → s.on Reg.TLY_STATUS_DEGRADED = true ∧ s.tly.flush = none ∧ s.tly.want = none → Gives .retest s fun t => t =
    { s.wr Reg.TLY_CTRL_RESULT St.pending with tly := { s.tly with want := some ⟨6, [], true, true⟩ } } ∧ t.rd Reg.TLY_CTRL_RESULT =
    St.pending)
  -- retest, outside DEGRADED
  ∧ (∀ (s : State), s.Up → s.on Reg.TLY_STATUS_DEGRADED = false → Gives .retest s fun t => t = s.wr Reg.TLY_CTRL_RESULT St.conflict)
  -- flushStart
  ∧ (∀ (s u w : State) (q : FlushReq) (b : Bool), s.Up → s.tly.want = some q ∧ s.tly.flush = none → (u = (if q.cause = 1 ∨ q.cause = 2 then
    State.lose (State.lose s 6 ((List.range 96).map fun n => (s.chute n).unread).sum) 8 s.dsp.win.length else s)) → b = u.nextBank ∧ w =
    u.setBank b ((if b then u.tly.bank1 else u.tly.bank0).map fun (x : TlyBank) => { x with good := false }) → Gives .flushStart s fun t =>
    t = State.wr { w with tly := { w.tly with want := none, flush := some ⟨q, b, w.imageNow q.cause, false⟩, since := 0 } }
    Reg.TLY_STATUS_FLUSHING 1 ∧ t.tly.body = s.tly.body ∧ t.rd Reg.TLY_STATUS_FLUSHING = 1)
  -- flushStart, with none asked for or one in progress
  ∧ (∀ (s : State), s.Up → (s.tly.want = none ∨ s.tly.flush ≠ none) → Gives .flushStart s fun t => t = s)
  -- flushCommitPoint
  ∧ (∀ (s u w : State) (f : TlyFlush), s.Up → s.tly.flush = some f ∧ f.committed = false → u = (fun (y : State) =>
    { y with tly := { y.tly with flush := some { f with committed := true }, received := s.tly.since, powerDone := s.tly.powerDone || (f.req.cause == 2 && s.pwr.pdown.isSome) } })
    (s.setBank f.bankB (some { f.image with good := true })) → w = State.finishAll ((u.wrapBy Reg.TLY_FLUSHES 1).wrEach [(Reg.TLY_FLUSH_SEQ,
    f.image.flushSeq), (Reg.TLY_STATUS_BANK, bit f.bankB), (Reg.TLY_LAST_FLUSH_CAUSE, f.req.cause), (Reg.TLY_LAST_FLUSH_STATUS, St.done)])
    St.done f.req.cmds → Gives .flushCommitPoint s fun t => t = (if f.req.ctrl = true ∧ f.req.retest = false then w.wr Reg.TLY_CTRL_RESULT
    St.done else w) ∧ t.tly = u.tly)
  -- flushComplete
  ∧ (∀ (s u w : State) (f : TlyFlush) (d : BitVec 16), s.Up → s.tly.flush = some f ∧ f.committed = true ∧ f.req.retest = false → u =
    State.unfreeze { s.wr Reg.TLY_LAST_FLUSH_DURATION d.toNat with tly := { s.tly with applied := 0 } } → (w = (if u.pwr.pfailLatched = true
    ∧ (f.req.cause = 1 ∨ f.req.cause = 2) ∧ u.rd Reg.CLK_LAST_MODE_PFAIL_STAGE = 3 then u.wr Reg.CLK_LAST_MODE_PFAIL_STAGE 4 else u)) →
    Gives (.flushComplete none d) s fun t => t = State.applyClears { w with tly := { w.tly with clears := [] } } w.tly.clears)
  -- flushComplete, of a retest
  ∧ (∀ (s u w : State) (f : TlyFlush) (d : BitVec 16), s.Up → s.tly.flush = some f ∧ f.committed = true ∧ f.req.retest = true → u =
    State.unfreeze (State.wrEach
    { s.wr Reg.TLY_LAST_FLUSH_DURATION d.toNat with tly := { s.tly with applied := 0, last := { s.tly.last with degraded := false } } }
    [(Reg.TLY_STATUS_DEGRADED, 0), (Reg.TLY_CTRL_RESULT, St.done)]) → (w = (if u.pwr.pfailLatched = true ∧ (f.req.cause = 1 ∨ f.req.cause =
    2) ∧ u.rd Reg.CLK_LAST_MODE_PFAIL_STAGE = 3 then u.wr Reg.CLK_LAST_MODE_PFAIL_STAGE 4 else u)) → Gives (.flushComplete none d) s fun t
    => t = State.applyClears { w with tly := { w.tly with clears := [] } } w.tly.clears)
  -- flushComplete, read back wrong
  ∧ (∀ (s b a u w : State) (f : TlyFlush) (d : BitVec 16) (k : Word), s.Up → s.tly.flush = some f ∧ f.committed = true → b = State.setBank
    (s.wr Reg.TLY_LAST_FLUSH_DURATION d.toNat) f.bankB ((if f.bankB then s.tly.bank1 else s.tly.bank0).map fun (x : TlyBank) =>
    { x with good := false }) → a = (b.memFailure k.toNat 1).wr Reg.TLY_LAST_FLUSH_STATUS St.eccUncorrected ∧ u = State.unfreeze (if
    f.req.ctrl = true then a.wr Reg.TLY_CTRL_RESULT St.eccUncorrected else a) → (w = (if u.pwr.pfailLatched = true ∧ (f.req.cause = 1 ∨
    f.req.cause = 2) ∧ u.rd Reg.CLK_LAST_MODE_PFAIL_STAGE = 3 then u.wr Reg.CLK_LAST_MODE_PFAIL_STAGE 4 else u)) → Gives (.flushComplete
    (some k) d) s fun t => t = State.applyClears { w with tly := { w.tly with clears := [] } } w.tly.clears)
  -- flushComplete, with no flush past its commit point
  ∧ (∀ (s : State) (k : Option Word) (d : BitVec 16), s.Up → s.tly.flush = none → Gives (.flushComplete k d) s fun t => t = s)
  -- tallyLastWord
  ∧ (∀ (s : State), s.Up → s.outputsStopped = true ∧ s.tly.stopped = false → Gives .tallyLastWord s fun t => t =
    { s with tly := { s.tly with stopped := true, last := { s.tly.last with valid := true, powerLost := (s.tly.received + (s.chute 46).pkts.length + (s.chute 48).pkts.length) % 4294967296, ramOnly := (if s.on Reg.TLY_STATUS_DEGRADED then s.tly.applied else s.tly.last.ramOnly) % 4294967296 } } })
  -- tallyLastWord, while outputs run
  ∧ (∀ (s : State), s.Up → s.outputsStopped = false → Gives .tallyLastWord s fun t => t = s)
  -- tallyRestore
  ∧ (∀ (s : State) (b : TlyBank), s.Up → s.on Reg.TLY_STATUS_RESTORED = false ∧ s.tly.bank0 = some b ∧ b.good = true ∧ s.tly.bank1 = none →
    Gives (.tallyRestore none) s fun t => t.tly.body.hist = b.body.hist ∧ t.tly.body.ext = b.body.ext ∧ t.tly.hdef = firmwareHdef ∧
    t.tly.received = 0 ∧ t.rd Reg.TLY_STATUS_RESTORED = 1)
  -- tallyRestore, with no intact bank
  ∧ (∀ (s : State), s.Up → s.on Reg.TLY_STATUS_RESTORED = false ∧ s.tly.bank0 = none ∧ s.tly.bank1 = none → Gives (.tallyRestore none) s fun t
    => t.tly.hdef = firmwareHdef ∧ t.tly.xdef = firmwareXdef ∧ t.tly.body.hist = s.tly.body.hist ∧ t.tly.received = 0 ∧ t.rd
    Reg.TLY_STATUS_RESTORED = 1 ∧ t.rd Reg.TLY_STATUS_UNCERTAIN = 1)
  -- tallyRestore, with the later of two banks in bank 1
  ∧ (∀ (s : State) (a b : TlyBank), s.Up → s.on Reg.TLY_STATUS_RESTORED = false ∧ s.tly.bank0 = some a ∧ a.good = true ∧ s.tly.bank1 = some b
    ∧ b.good = true ∧ later b.flushSeq a.flushSeq = true → Gives (.tallyRestore none) s fun t => t.tly.body.hist = b.body.hist ∧
    t.tly.body.ext = b.body.ext ∧ t.rd Reg.TLY_STATUS_RESTORED = 1 ∧ t.rd Reg.TLY_STATUS_BANK = 1)
  -- tallyRestore, with an error in the one bank
  ∧ (∀ (s : State) (b : TlyBank) (k : Word), s.Up → s.on Reg.TLY_STATUS_RESTORED = false ∧ s.tly.bank0 = some b ∧ s.tly.bank1 = none → Gives
    (.tallyRestore (some (false, k))) s fun t => t.tly.bank0 = some { b with good := false } ∧ t.tly.body.hist = s.tly.body.hist ∧
    t.tly.last.memFail = true ∧ t.rd Reg.TLY_STATUS_DEGRADED = 1 ∧ t.rd Reg.TLY_STATUS_RESTORED = 1 ∧ t.rd Reg.TLY_STATUS_UNCERTAIN = 1)
  -- tallyRestore, when it has been
  ∧ (∀ (s : State) (e : Option (Bool × Word)), s.Up → s.on Reg.TLY_STATUS_RESTORED = true → Gives (.tallyRestore e) s fun t => t = s)
  -- snapshot
  ∧ (∀ (s : State) (c : Cmd) (k : Nat) (m : List Nat), s.Up → s.Accepts c .dataOut → c.desc.length.toNat = 86192 ∧ s.keyOf 9 = some k → m =
    (State.snapImage (s.begun c)).bytes → Gives (.snapshot c) s fun t => t = State.finishData (State.passChute (s.begun c) 49 10774) c (m ++
    hmacBytes k m) ∧ t.Completed c St.done (m ++ hmacBytes k m).length 0)
  -- snapshot, of another length
  ∧ (∀ (s : State) (c : Cmd), s.Up → s.Accepts c .dataOut → c.desc.length.toNat ≠ 86192 → Gives (.snapshot c) s fun t => t = (s.begun
    c).finish c St.badLength 0 0)
  -- snapshot, with no Tally key
  ∧ (∀ (s : State) (c : Cmd), s.Up → s.Accepts c .dataOut → c.desc.length.toNat = 86192 ∧ s.keyOf 9 = none → Gives (.snapshot c) s fun t => t
    = (s.begun c).finish c St.keyRevoked 0 0)
  -- tallyClear
  ∧ (∀ (s u : State) (c : Cmd) (p : List Byte) (v : Nat), s.Up → s.Accepts c .dataIn → c.desc.length.toNat = 128 ∧ byteAt p 0 = 1 ∧ byteAt p 1
    ≤ 15 ∧ allZero (bytesAt p 2 2) = true ∧ allZero (bytesAt p 20 12) = true → (v = firstFail [(decide (s.mode ≠ .hostedIdle ∧ s.mode ≠
    .faultSafe), St.refusedMode), (decide (s.life ≠ 2 ∨ byteAt p 1 = 0 ∨ leAt p 12 8 ≠ Config.serial), St.conflict), (leAt p 4 8 !=
    s.challenge, St.stale), (!s.ownerSigned (bytesAt p 0 32) (bytesAt p 32 96), St.authFail)]) → u = State.newChallenge (s.begun c) ∧
    s.tly.flush = none ∧ s.tly.want = none → Gives (.tallyClear c p) s fun t => t = (if v = St.done then (u.applyClearTally (byteAt p
    1)).finish c St.done 128 0 else (if v = St.authFail then u.authBad else u).finish c v 128 0))
  -- tallyClear, while a flush runs
  ∧ (∀ (s u : State) (c : Cmd) (p : List Byte) (v : Nat), s.Up → s.Accepts c .dataIn → c.desc.length.toNat = 128 ∧ byteAt p 0 = 1 ∧ byteAt p 1
    ≤ 15 ∧ allZero (bytesAt p 2 2) = true ∧ allZero (bytesAt p 20 12) = true → (v = firstFail [(decide (s.mode ≠ .hostedIdle ∧ s.mode ≠
    .faultSafe), St.refusedMode), (decide (s.life ≠ 2 ∨ byteAt p 1 = 0 ∨ leAt p 12 8 ≠ Config.serial), St.conflict), (leAt p 4 8 !=
    s.challenge, St.stale), (!s.ownerSigned (bytesAt p 0 32) (bytesAt p 32 96), St.authFail)]) → (u = State.newChallenge (s.begun c) ∧
    (s.tly.flush ≠ none ∨ s.tly.want ≠ none)) → Gives (.tallyClear c p) s fun t => t = (if v = St.done then
    { u with tly := { u.tly with clears := u.tly.clears ++ [(c, byteAt p 1)] } } else (if v = St.authFail then u.authBad else u).finish c v
    128 0))
  -- tallyClear, of a bad format
  ∧ (∀ (s : State) (c : Cmd) (p : List Byte), s.Up → s.Accepts c .dataIn → (c.desc.length.toNat = 128 ∧ (byteAt p 0 ≠ 1 ∨ 15 < byteAt p 1 ∨
    allZero (bytesAt p 2 2) = false ∨ allZero (bytesAt p 20 12) = false)) → Gives (.tallyClear c p) s fun t => t = (s.begun c).finish c
    St.badFormat 128 0)
  -- tallyClear, of another length
  ∧ (∀ (s : State) (c : Cmd) (p : List Byte), s.Up → s.Accepts c .dataIn → c.desc.length.toNat ≠ 128 → Gives (.tallyClear c p) s fun t => t =
    (s.begun c).finish c St.badLength 0 0)

/-- Host commands of the Key Vault. Each command completes (exec answers a next state) in every state that meets its hypotheses. The six Vault
  commands of the host answer 0x83 after a failed self-test and BUSY in a lifecycle change, and BAD_LENGTH for another LENGTH, before all
  else. IDENTITY_READ puts the identity key's public key and the challenge into the host's buffer, DONE. A signed command of bad format is
  BAD_FORMAT; otherwise it draws a new challenge and its first failing check answers (mode; conflict, SERIAL among it; challenge; signature
  or envelope, counted as AUTH_FAIL), and with none it acts. KEY_IMPORT advances the generations of the site keys, fills slot 1, derives the
  site's slots and queues the two records that complete it. PUBLIC_SET fills slot 3 or 4 and queues its record. LIFECYCLE checks the fields
  that the row of the transition table asks for and keeps the transition; where it runs to its end it makes the change, completes and
  restarts, else every slot is zeroised and the record waits; a change the table has not is CONFLICT or REFUSED_MODE. KEY_REVOKE of slot 1
  to 10 advances its GEN, empties it and what hangs on it, and completes at once or with its record; of another slot BAD_FORMAT, in a
  refusing mode REFUSED_MODE, at the last GEN CONFLICT. BEACON_REKEY outside the fleet modes keeps the new key in slot 10, its number and
  second, and queues its record; in a fleet mode it joins the epoch; too late, earlier in number, pending, following or of bad format it
  ends as its first failing check says. BEACON_KEY_ACTIVATE from its second moves slot 10 to slot 5 and queues both records, before it
  changes nothing. PERSIST_RECORD_WRITE writes the oldest queued record, completes its command if the copy verifies, and a verified copy
  reads back as the item; in PFAIL handling or with none queued nothing happens. ENTROPY_HEALTH_FAIL empties every slot but its GEN and
  shows SELFTEST_FAIL, READY clear. Rests on parts of rules R489, R490, R491, R492, R494, R495, R496, R497, R502. -/
def Obligations.VaultCommands : Prop :=
  -- identityRead
  (∀ (s : State) (c : Cmd), s.Up → s.Accepts c .dataOut → s.vaultShut = none ∧ c.desc.length.toNat = 104 → Gives (.identityRead c) s fun t
    => t = (s.begun c).finishData c ((List.range 96).map (fun i => (Config.publicKey s.identityKey i).toNat) ++ le 8 s.challenge) ∧
    t.Completed c St.done 104 0 ∧ t.vlt = s.vlt)
  -- identityRead, while the Vault is shut
  ∧ (∀ (s : State) (c : Cmd) (q : Nat), s.Up → s.Accepts c .dataOut → s.vaultShut = some q → Gives (.identityRead c) s fun t => t = (s.begun
    c).finish c q 0 0)
  -- identityRead, of another LENGTH
  ∧ (∀ (s : State) (c : Cmd), s.Up → s.Accepts c .dataOut → s.vaultShut = none ∧ c.desc.length.toNat ≠ 104 → Gives (.identityRead c) s fun t
    => t = (s.begun c).finish c St.badLength 0 0)
  -- keyImport
  ∧ (∀ (s u w : State) (c : Cmd) (p : List Byte) (v : Nat), s.Up → s.Accepts c .dataIn → s.vaultShut = none ∧ c.desc.length.toNat = 296 → u =
    State.newChallenge (s.begun c) → (v = firstFail [(s.vaultBusyMode, St.refusedMode), (decide (s.life ≠ 2 ∨ leAt p 8 8 ≠ Config.serial),
    St.conflict), (leAt p 16 8 != s.challenge, St.stale), ((s.envelopeRoot p).isNone, St.authFail)]) → w = State.deriveSite (State.fill ([1,
    2, 5, 6, 7, 8, 9].foldl State.nextGen u) 1 6 ((s.envelopeRoot p).getD 0) (some 0)) (leAt p 4 4) → Gives (.keyImport c p) s fun t => t =
    (if envelopeBad p = true then (s.begun c).finish c St.badFormat 296 0 else if v = St.done then
    { w with vlt := { w.vlt with jobs := w.vlt.jobs ++ [⟨1, some ((s.envelopeRoot p).getD 0), none⟩, ⟨5, some (leAt p 4 4), some (c, 296)⟩] } }
    else (if v = St.authFail then u.authBad else u).finish c v 296 0))
  -- keyImport, while the Vault is shut
  ∧ (∀ (s : State) (c : Cmd) (q : Nat) (p : List Byte), s.Up → s.Accepts c .dataIn → s.vaultShut = some q → Gives (.keyImport c p) s fun t =>
    t = (s.begun c).finish c q 0 0)
  -- keyImport, of another LENGTH
  ∧ (∀ (s : State) (c : Cmd) (p : List Byte), s.Up → s.Accepts c .dataIn → s.vaultShut = none ∧ c.desc.length.toNat ≠ 296 → Gives (.keyImport
    c p) s fun t => t = (s.begun c).finish c St.badLength 0 0)
  -- publicSet
  ∧ (∀ (s u : State) (c : Cmd) (p : List Byte) (v : Nat), s.Up → s.Accepts c .dataIn → s.vaultShut = none ∧ c.desc.length.toNat = 224 → u =
    State.newChallenge (s.begun c) → v = firstFail [(s.vaultBusyMode, St.refusedMode), (leAt p 12 8 != Config.serial, St.conflict), (leAt p
    4 8 != s.challenge, St.stale), (!s.ownerSigned (bytesAt p 0 128) (bytesAt p 128 96), St.authFail)] → Gives (.publicSet c p) s fun t => t
    = (if byteAt p 0 ≠ 1 ∨ (byteAt p 1 ≠ 3 ∧ byteAt p 1 ≠ 4) ∨ allZero (bytesAt p 2 2) = false ∨ allZero (bytesAt p 20 12) = false ∨
    Config.onCurve (bytesAt p 32 96) = false then (s.begun c).finish c St.badFormat 224 0 else if v = St.done then (u.fill (byteAt p 1) 5
    (unle (bytesAt p 32 96)) (some (if byteAt p 1 = 3 then 0 else 1))).persistLater [(byteAt p 1, some (unle (bytesAt p 32 96)))] (some (c,
    224)) else (if v = St.authFail then u.authBad else u).finish c v 224 0))
  -- publicSet, while the Vault is shut
  ∧ (∀ (s : State) (c : Cmd) (q : Nat) (p : List Byte), s.Up → s.Accepts c .dataIn → s.vaultShut = some q → Gives (.publicSet c p) s fun t =>
    t = (s.begun c).finish c q 0 0)
  -- publicSet, of another LENGTH
  ∧ (∀ (s : State) (c : Cmd) (p : List Byte), s.Up → s.Accepts c .dataIn → s.vaultShut = none ∧ c.desc.length.toNat ≠ 224 → Gives (.publicSet
    c p) s fun t => t = (s.begun c).finish c St.badLength 0 0)
  -- lifecycle, a change that carries no envelope
  ∧ (∀ (s u w : State) (c : Cmd) (p : List Byte) (e o i b : Bool) (g v : Nat) (x : Transition), s.Up → s.Accepts c .dataIn → s.vaultShut =
    none ∧ c.desc.length.toNat = 616 → u = State.newChallenge (s.begun c) → lifecycleRow s.lifeRow (byteAt p 1) = some (g, o, i, false) → b
    = (byteAt p 0 != 1 || decide (5 < byteAt p 1) || !allZero (bytesAt p 2 2) || !allZero (bytesAt p 20 12) || (allZero (bytesAt p 32 96) ==
    o) || (allZero (bytesAt p 128 96) == i) || !allZero (((p.drop 224).take 296).map BitVec.toNat) || (allZero (bytesAt p 520 96) == (g !=
    0)) || (o && !Config.onCurve (bytesAt p 32 96)) || (i && !Config.onCurve (bytesAt p 128 96))) → (v = firstFail [(decide (s.mode ≠
    .hostedIdle ∧ s.mode ≠ .survey ∧ s.mode ≠ .faultSafe), St.refusedMode), (decide (leAt p 12 8 ≠ Config.serial ∨ 31 < s.rd
    Reg.VLT_LIFECYCLE_LC_GEN ∨ (s.rd Reg.VLT_LIFECYCLE_LC_GEN = 31 ∧ byteAt p 1 ≠ 5)), St.conflict), (leAt p 4 8 != s.challenge, St.stale),
    (!(match g with | 1 => s.ownerSigned (bytesAt p 0 520) (bytesAt p 520 96) | 2 => Config.ecdsaVerify Config.serviceKey (bytesAt p 0 520) (bytesAt p 520 96) | _ => true),
    St.authFail)]) → x =
    ⟨byteAt p 1, if allZero (bytesAt p 32 96) then none else some (unle (bytesAt p 32 96)), if allZero (bytesAt p 128 96) then none else some (unle (bytesAt p 128 96)), none⟩
    ∧ w = State.wr { u with vlt := { u.vlt with trans := some x } } Reg.VLT_LIFECYCLE_TRANSITION 1 → Gives (.lifecycle c p e) s fun t => t =
    (if b = true then (s.begun c).finish c St.badFormat 616 0 else if v = St.done then (if e = true ∧ w.pwr.pfailLatched = false then
    ((w.changeLife x).finish c St.done 616 0).restart causeHost else w.zeroise) else (if v = St.authFail then u.authBad else u).finish c v
    616 0))
  -- lifecycle, a change with a federation envelope
  ∧ (∀ (s u w : State) (c : Cmd) (p n : List Byte) (e b : Bool) (v : Nat) (x : Transition), s.Up → s.Accepts c .dataIn → s.vaultShut = none ∧
    c.desc.length.toNat = 616 → u = State.newChallenge (s.begun c) → lifecycleRow s.lifeRow (byteAt p 1) = some (1, true, true, true) ∧ n =
    (p.drop 224).take 296 → b = (byteAt p 0 != 1 || decide (5 < byteAt p 1) || !allZero (bytesAt p 2 2) || !allZero (bytesAt p 20 12) ||
    allZero (bytesAt p 32 96) || allZero (bytesAt p 128 96) || allZero (n.map BitVec.toNat) || allZero (bytesAt p 520 96) || !Config.onCurve
    (bytesAt p 32 96) || !Config.onCurve (bytesAt p 128 96) || envelopeBad n) → (v = firstFail [(decide (s.mode ≠ .hostedIdle ∧ s.mode ≠
    .survey ∧ s.mode ≠ .faultSafe), St.refusedMode), (decide (leAt p 12 8 ≠ Config.serial ∨ leAt n 8 8 ≠ Config.serial ∨ 31 ≤ s.rd
    Reg.VLT_LIFECYCLE_LC_GEN), St.conflict), (decide (leAt n 16 8 ≠ leAt p 4 8 ∨ leAt p 4 8 ≠ s.challenge), St.stale), (!(s.ownerSigned
    (bytesAt p 0 520) (bytesAt p 520 96) && (s.envelopeRoot n).isSome), St.authFail)]) → x =
    ⟨byteAt p 1, if allZero (bytesAt p 32 96) then none else some (unle (bytesAt p 32 96)), if allZero (bytesAt p 128 96) then none else some (unle (bytesAt p 128 96)), (s.envelopeRoot n).map fun k => (k, leAt n 4 4)⟩
    ∧ w = State.wr { u with vlt := { u.vlt with trans := some x } } Reg.VLT_LIFECYCLE_TRANSITION 1 → Gives (.lifecycle c p e) s fun t => t =
    (if b = true then (s.begun c).finish c St.badFormat 616 0 else if v = St.done then (if e = true ∧ w.pwr.pfailLatched = false then
    ((w.changeLife x).finish c St.done 616 0).restart causeHost else w.zeroise) else (if v = St.authFail then u.authBad else u).finish c v
    616 0))
  -- lifecycle, a change the table has not
  ∧ (∀ (s : State) (c : Cmd) (p : List Byte) (e : Bool), s.Up → s.Accepts c .dataIn → s.vaultShut = none ∧ c.desc.length.toNat = 616 →
    lifecycleRow s.lifeRow (byteAt p 1) = none → Gives (.lifecycle c p e) s fun t => t = (if (byteAt p 0 != 1 || decide (5 < byteAt p 1) ||
    !allZero (bytesAt p 2 2) || !allZero (bytesAt p 20 12)) = true then (s.begun c).finish c St.badFormat 616 0 else (State.newChallenge
    (s.begun c)).finish c (if s.mode ≠ .hostedIdle ∧ s.mode ≠ .survey ∧ s.mode ≠ .faultSafe then St.refusedMode else St.conflict) 616 0))
  -- lifecycle, while the Vault is shut
  ∧ (∀ (s : State) (c : Cmd) (q : Nat) (p : List Byte) (e : Bool), s.Up → s.Accepts c .dataIn → s.vaultShut = some q → Gives (.lifecycle c p
    e) s fun t => t = (s.begun c).finish c q 0 0)
  -- lifecycle, of another LENGTH
  ∧ (∀ (s : State) (c : Cmd) (p : List Byte) (e : Bool), s.Up → s.Accepts c .dataIn → s.vaultShut = none ∧ c.desc.length.toNat ≠ 616 → Gives
    (.lifecycle c p e) s fun t => t = (s.begun c).finish c St.badLength 0 0)
  -- keyRevoke
  ∧ (∀ (s u : State) (c : Cmd) (n : Nat), s.Up → s.Accepts c .command → s.vaultShut = none ∧ c.desc.length.toNat = 0 → c.desc.p0.toNat = n ∧ 0
    < n ∧ n ≤ 10 ∧ s.vaultBusyMode = false ∧ (s.slot n).gen < 4294967295 → u = State.dropInvalid (((s.begun c).nextGen n).emptySlot n)
    fixedSlots → Gives (.keyRevoke c) s fun t => t = (if n = 1 ∨ n = 3 ∨ n = 4 then u.persistLater [(n, none)] (some (c, 0)) else u.finish c
    St.done 0 0) ∧ (t.slot n).kind = 0 ∧ (t.slot n).gen = (s.slot n).gen + 1)
  -- keyRevoke, of no fixed slot
  ∧ (∀ (s : State) (c : Cmd), s.Up → s.Accepts c .command → s.vaultShut = none ∧ c.desc.length.toNat = 0 → (c.desc.p0.toNat = 0 ∨ 10 <
    c.desc.p0.toNat) → Gives (.keyRevoke c) s fun t => t = (s.begun c).finish c St.badFormat 0 0)
  -- keyRevoke, in a mode that refuses it
  ∧ (∀ (s : State) (c : Cmd), s.Up → s.Accepts c .command → s.vaultShut = none ∧ c.desc.length.toNat = 0 → 0 < c.desc.p0.toNat ∧
    c.desc.p0.toNat ≤ 10 ∧ s.vaultBusyMode = true → Gives (.keyRevoke c) s fun t => t = (s.begun c).finish c St.refusedMode 0 0)
  -- keyRevoke, of the last generation
  ∧ (∀ (s : State) (c : Cmd) (n : Nat), s.Up → s.Accepts c .command → s.vaultShut = none ∧ c.desc.length.toNat = 0 → c.desc.p0.toNat = n ∧ 0 <
    n ∧ n ≤ 10 ∧ s.vaultBusyMode = false ∧ (s.slot n).gen = 4294967295 → Gives (.keyRevoke c) s fun t => t = (s.begun c).finish c
    St.conflict 0 0)
  -- keyRevoke, while the Vault is shut
  ∧ (∀ (s : State) (c : Cmd) (q : Nat), s.Up → s.Accepts c .command → s.vaultShut = some q → Gives (.keyRevoke c) s fun t => t = (s.begun
    c).finish c q 0 0)
  -- keyRevoke, of another LENGTH
  ∧ (∀ (s : State) (c : Cmd), s.Up → s.Accepts c .command → s.vaultShut = none ∧ c.desc.length.toNat ≠ 0 → Gives (.keyRevoke c) s fun t => t =
    (s.begun c).finish c St.badLength 0 0)
  -- beaconRekey, outside the fleet modes
  ∧ (∀ (s u : State) (c : Cmd) (no sec : Nat), s.Up → s.Accepts c .command → s.vaultShut = none ∧ c.desc.length.toNat = 0 → no =
    c.desc.p0.toNat ∧ sec = c.desc.p1.toNat + 4294967296 * bits c.desc.p2.toNat 0 16 → bits c.desc.p2.toNat 16 16 = 0 ∧ s.follows = false ∧
    s.mode.fleet = false ∧ (s.now.sec + 2) * 1000000000 + s.now.ns ≤ sec * 1000000000 → later no s.beaconNo = true ∧ s.vlt.rekey = none ∧ u
    = (s.begun c).fillSite 10 1 (ascii "ZY beacon" ++ le 4 no) → Gives (.beaconRekey c) s fun t => t =
    { u with vlt := { u.vlt with rekey := some (no, sec), jobs := s.vlt.jobs ++ [⟨7, some (no + 4294967296 * sec), some (c, 0)⟩] } })
  -- beaconRekey, in a fleet mode
  ∧ (∀ (s : State) (c : Cmd) (no sec : Nat), s.Up → s.Accepts c .command → s.vaultShut = none ∧ c.desc.length.toNat = 0 → no = c.desc.p0.toNat
    ∧ sec = c.desc.p1.toNat + 4294967296 * bits c.desc.p2.toNat 0 16 → bits c.desc.p2.toNat 16 16 = 0 ∧ s.mode.fleet = true ∧ (s.now.sec +
    2) * 1000000000 + s.now.ns ≤ sec * 1000000000 → Gives (.beaconRekey c) s fun t => t = (s.begun c).epochInput c (.rekey no sec))
  -- beaconRekey, refused
  ∧ (∀ (s : State) (c : Cmd) (no sec v : Nat), s.Up → s.Accepts c .command → s.vaultShut = none ∧ c.desc.length.toNat = 0 → no =
    c.desc.p0.toNat ∧ sec = c.desc.p1.toNat + 4294967296 * bits c.desc.p2.toNat 0 16 → s.mode.fleet = false → v = firstFail [(bits
    c.desc.p2.toNat 16 16 != 0, St.badFormat), (s.follows, St.refusedMode), (decide (sec * 1000000000 < (s.now.sec + 2) * 1000000000 +
    s.now.ns), St.stale), (!later no s.beaconNo, St.stale), (s.vlt.rekey.isSome, St.busy)] ∧ v ≠ St.done → Gives (.beaconRekey c) s fun t =>
    t = (s.begun c).finish c v 0 0)
  -- beaconRekey, too late in a fleet mode
  ∧ (∀ (s : State) (c : Cmd) (no sec : Nat), s.Up → s.Accepts c .command → s.vaultShut = none ∧ c.desc.length.toNat = 0 → no = c.desc.p0.toNat
    ∧ sec = c.desc.p1.toNat + 4294967296 * bits c.desc.p2.toNat 0 16 → (s.mode.fleet = true ∧ (bits c.desc.p2.toNat 16 16 ≠ 0 ∨ sec *
    1000000000 < (s.now.sec + 2) * 1000000000 + s.now.ns)) → Gives (.beaconRekey c) s fun t => t = (s.begun c).finish c (if bits
    c.desc.p2.toNat 16 16 ≠ 0 then St.badFormat else St.stale) 0 0)
  -- beaconRekey, while the Vault is shut
  ∧ (∀ (s : State) (c : Cmd) (q : Nat), s.Up → s.Accepts c .command → s.vaultShut = some q → Gives (.beaconRekey c) s fun t => t = (s.begun
    c).finish c q 0 0)
  -- beaconRekey, of another LENGTH
  ∧ (∀ (s : State) (c : Cmd), s.Up → s.Accepts c .command → s.vaultShut = none ∧ c.desc.length.toNat ≠ 0 → Gives (.beaconRekey c) s fun t => t
    = (s.begun c).finish c St.badLength 0 0)
  -- beaconKeyActivate
  ∧ (∀ (s : State) (no sec : Nat), s.Up → s.vlt.rekey = some (no, sec) ∧ sec ≤ s.now.sec → Gives .beaconKeyActivate s fun t => t.slot 5 =
    { s.slot 10 with gen := (s.slot 5).gen } ∧ (t.slot 10).kind = 0 ∧ t.vlt.rekey = none ∧ t.vlt.jobs = s.vlt.jobs ++ [⟨6, some no, none⟩,
    ⟨7, none, none⟩])
  -- beaconKeyActivate, before its second or with none pending
  ∧ (∀ (s : State), s.Up → s.vlt.rekey.all (fun (x : Nat × Nat) => decide (s.now.sec < x.2)) = true → Gives .beaconKeyActivate s fun t => t =
    s)
  -- persistRecordWrite
  ∧ (∀ (s u : State) (j : PersistJob) (rest : List PersistJob) (ok : Bool), s.Up → s.pwr.pfailLatched = false ∧ s.vlt.jobs = j :: rest → u =
    State.persistPut { s with vlt := { s.vlt with jobs := rest } } j.record j.item ok → Gives (.persistRecordWrite ok) s fun t => t =
    (match j.cmd with | some (c, n) => if ok then u.finish c St.done n 0 else u | none => u) ∧ t.vlt.jobs = rest ∧ t.vlt.slots =
    s.vlt.slots)
  -- persistRecordWrite, verified
  ∧ (∀ (s : State) (j : PersistJob) (rest : List PersistJob), s.Up → s.pwr.pfailLatched = false ∧ s.vlt.jobs = j :: rest → Gives
    (.persistRecordWrite true) s fun t => (t.persist j.record).item = j.item)
  -- persistRecordWrite, in PFAIL handling or with nothing to write
  ∧ (∀ (s : State) (ok : Bool), s.Up → (s.pwr.pfailLatched = true ∨ s.vlt.jobs = []) → Gives (.persistRecordWrite ok) s fun t => t = s)
  -- entropyHealthFail
  ∧ (∀ (s : State), s.Up → Gives .entropyHealthFail s fun t => (∀ n, (t.slot n).kind = 0 ∧ (t.slot n).gen = (s.slot n).gen) ∧ t.rd
    Reg.VLT_STATUS_SELFTEST_FAIL = 1 ∧ t.rd Reg.VLT_STATUS_READY = 0)

/-- Operations on key slots. Each command completes (exec answers a next state) in every state that meets its hypotheses. VAULT_OPERATION of a
  key port on a valid slot of its kind ends DONE and counts in VLT_OPS; a LIMITED slot has one use less, and with none left the operation
  ends 0x81; with the Vault shut, no key, a revoked slot or another kind it answers that status. For the firmware it, BLOB_LOAD, BLOB_WRAP
  and KEY_DERIVE serve a request that waits on chute 50 and answer on chute 51, and with no request do nothing; the firmware's operation on
  a valid slot of its kind uses the slot and answers with the outcome of that use. BLOB_LOAD of a well-formed 128-byte blob of this
  lifecycle generation, whose parent is valid and of its generation, fills a working slot (16 to 63) with the opened key under its parent,
  DONE, or where its tag does not verify counts and answers AUTH_FAIL; else the Vault's status, BAD_FORMAT, AUTH_FAIL for another
  generation, or KEY_REVOKED answers. BLOB_WRAP of a valid slot that is neither a ROOT nor LIMITED draws an IV and gives the blob of the
  slot under the label, DONE; else the slot's status, 0x82 for a ROOT, or BAD_FORMAT for a LIMITED slot answers. KEY_DERIVE from a valid
  ROOT slot that may be used, into a working slot of a symmetric kind, is a use of the ROOT slot and fills the working slot with the derived
  key under it, with the uses the request sets, DONE; else BAD_FORMAT, the slot's status, 0x82, or 0x81 for a spent slot answers. Rests on
  parts of rules R482, R483, R484, R485, R486, R487, R488. -/
def Obligations.VaultOperations : Prop :=
  -- vaultOperation, of a key port
  (∀ (s : State) (n : Fin 64) (k : Fin 7), s.Up → s.vaultShut = none ∧ k.val ≠ 0 ∧ (s.slot n.val).kind = k.val ∧ s.slotValid 8 n.val = true
    → (s.slot n.val).limited = false → Gives (.vaultOperation n k false) s fun t => t.vlt = { s.vlt with status := St.done } ∧ t.rd
    Reg.VLT_OPS = (s.rd Reg.VLT_OPS + 1) % 4294967296)
  -- vaultOperation, of the firmware
  ∧ (∀ (s : State) (n : Fin 64) (k : Fin 7), s.Up → s.vaultShut = none ∧ k.val ≠ 0 ∧ (s.slot n.val).kind = k.val ∧ s.slotValid 8 n.val = true
    → (s.chute 50).pkts.isEmpty = false → Gives (.vaultOperation n k true) s fun t => t = (s.useSlot n.val).2.vaultAnswer (s.useSlot
    n.val).1 true)
  -- vaultOperation, of the firmware with no request
  ∧ (∀ (s : State) (n : Fin 64) (k : Fin 7), s.Up → (s.chute 50).pkts.isEmpty = true → Gives (.vaultOperation n k true) s fun t => t = s)
  -- vaultOperation, refused
  ∧ (∀ (s : State) (n : Fin 64) (k : Fin 7) (v : Nat), s.Up → v =
    (match s.vaultShut with | some q => q | none => if (s.slot n.val).kind = 0 then 0x80 else if s.slotValid 8 n.val = false then St.keyRevoked else if (s.slot n.val).kind ≠ k.val then 0x82 else St.done)
    ∧ v ≠ St.done → Gives (.vaultOperation n k false) s fun t => t = s.vaultAnswer v false)
  -- vaultOperation, an exhausted slot
  ∧ (∀ (s : State) (n : Fin 64) (k : Fin 7), s.Up → s.vaultShut = none ∧ k.val ≠ 0 ∧ (s.slot n.val).kind = k.val ∧ s.slotValid 8 n.val = true
    → (s.slot n.val).limited = true ∧ (s.slot n.val).uses = 0 → Gives (.vaultOperation n k false) s fun t => t =
    { s with vlt := { s.vlt with status := 0x81 } })
  -- vaultOperation, a limited slot
  ∧ (∀ (s : State) (n : Fin 64) (k : Fin 7), s.Up → s.vaultShut = none ∧ k.val ≠ 0 ∧ (s.slot n.val).kind = k.val ∧ s.slotValid 8 n.val = true
    → (s.slot n.val).limited = true ∧ (s.slot n.val).uses ≠ 0 → Gives (.vaultOperation n k false) s fun t => (t.slot n.val).uses = (s.slot
    n.val).uses - 1 ∧ t.vlt.status = St.done)
  -- blobLoad
  ∧ (∀ (s : State) (n : Fin 64) (p : List Byte), s.Up → s.vaultShut = none ∧ p.length = 128 ∧ 16 ≤ n.val ∧ (s.chute 50).pkts.isEmpty = false →
    byteAt p 0 = 1 ∧ 1 ≤ byteAt p 1 ∧ byteAt p 1 ≤ 5 ∧ bits (byteAt p 2) 1 7 = 0 ∧ byteAt p 3 = 0 ∧ bits (byteAt p 8) 6 2 = 0 → allZero
    (bytesAt p 9 3) = true ∧ allZero (bytesAt p 20 12) = true ∧ allZero (bytesAt p 44 4) = true ∧ allZero (bytesAt p 112 16) = true → leAt p
    16 4 = s.rd Reg.VLT_LIFECYCLE_LC_GEN ∧ s.slotValid 8 (bits (byteAt p 8) 0 6) = true ∧ (s.slot (bits (byteAt p 8) 0 6)).gen = leAt p 12 4
    → Gives (.blobLoad n p) s fun t => t =
    (match gcmOpen (s.wrapKey (bits (byteAt p 2) 0 1 == 1)) (bytesAt p 32 12) (bytesAt p 0 48 ++ bytesAt p 112 16) (bytesAt p 48 48) (bytesAt p 96 16) with | some m => (s.setSlot n.val ⟨byteAt p 1, unle m, (s.slot n.val).gen, some (bits (byteAt p 8) 0 6), leAt p 12 4, bits (byteAt p 2) 0 1 == 1, false, 0⟩).vaultAnswer St.done true | none => s.authBad.vaultAnswer St.authFail true))
  -- blobLoad, refused
  ∧ (∀ (s : State) (n : Fin 64) (p : List Byte) (v : Nat), s.Up → (s.chute 50).pkts.isEmpty = false → (v =
    (match s.vaultShut with | some q => q | none => if p.length ≠ 128 ∨ n.val < 16 ∨ byteAt p 0 ≠ 1 ∨ byteAt p 1 = 0 ∨ 5 < byteAt p 1 ∨ bits (byteAt p 2) 1 7 ≠ 0 ∨ byteAt p 3 ≠ 0 ∨ bits (byteAt p 8) 6 2 ≠ 0 ∨ allZero (bytesAt p 9 3) = false ∨ allZero (bytesAt p 20 12) = false ∨ allZero (bytesAt p 44 4) = false ∨ allZero (bytesAt p 112 16) = false then St.badFormat else if leAt p 16 4 ≠ s.rd Reg.VLT_LIFECYCLE_LC_GEN then St.authFail else if s.slotValid 8 (bits (byteAt p 8) 0 6) = false ∨ (s.slot (bits (byteAt p 8) 0 6)).gen ≠ leAt p 12 4 then St.keyRevoked else St.done)
    ∧ v ≠ St.done) → Gives (.blobLoad n p) s fun t => t = (if v = St.authFail then s.authBad else s).vaultAnswer v true)
  -- blobLoad, with no request
  ∧ (∀ (s : State) (n : Fin 64) (p : List Byte), s.Up → (s.chute 50).pkts.isEmpty = true → Gives (.blobLoad n p) s fun t => t = s)
  -- blobWrap
  ∧ (∀ (s : State) (n : Fin 64) (l : Word), s.Up → s.vaultShut = none ∧ (s.slot n.val).kind ≠ 0 ∧ (s.slot n.val).kind ≠ 6 ∧ s.slotValid 8
    n.val = true → (s.slot n.val).limited = false ∧ (s.chute 50).pkts.isEmpty = false → Gives (.blobWrap n l) s fun t => t =
    State.vaultAnswer { s with vlt := { s.vlt with drbg := s.vlt.drbg + 1, blob := s.blobBytes n.val l.toNat (Config.random s.vlt.drbg) } }
    St.done true)
  -- blobWrap, refused
  ∧ (∀ (s : State) (n : Fin 64) (l : Word) (v : Nat), s.Up → (s.chute 50).pkts.isEmpty = false → v =
    (match s.vaultShut with | some q => q | none => if (s.slot n.val).kind = 0 then 0x80 else if s.slotValid 8 n.val = false then St.keyRevoked else if (s.slot n.val).kind = 6 then 0x82 else if (s.slot n.val).limited = true then St.badFormat else St.done)
    ∧ v ≠ St.done → Gives (.blobWrap n l) s fun t => t = s.vaultAnswer v true)
  -- blobWrap, with no request
  ∧ (∀ (s : State) (n : Fin 64) (l : Word), s.Up → (s.chute 50).pkts.isEmpty = true → Gives (.blobWrap n l) s fun t => t = s)
  -- keyDerive
  ∧ (∀ (s : State) (a b : Fin 64) (k : Fin 7) (salt info : List Byte) (bd : Bool) (u : Option Word), s.Up → 16 ≤ b.val ∧ k.val ≠ 0 ∧ k.val ≠ 5
    ∧ (s.chute 50).pkts.isEmpty = false → (s.vaultShut = none ∧ (s.slot a.val).kind = 6 ∧ s.slotValid 8 a.val = true ∧ ((s.slot
    a.val).limited = false ∨ (s.slot a.val).uses ≠ 0)) → Gives (.keyDerive a b k salt info bd u) s fun t => t = State.vaultAnswer
    ((s.useSlot a.val).2.setSlot b.val
    ⟨k.val, Config.hkdf (s.slot a.val).key (salt.map BitVec.toNat) (info.map BitVec.toNat), (s.slot b.val).gen, some a.val, (s.slot a.val).gen, bd, u.isSome, (u.map BitVec.toNat).getD 0⟩)
    St.done true)
  -- keyDerive, refused
  ∧ (∀ (s : State) (a b : Fin 64) (k : Fin 7) (salt info : List Byte) (bd : Bool) (u : Option Word) (v : Nat), s.Up → (s.chute
    50).pkts.isEmpty = false → (v = (if b.val < 16 ∨ k.val = 0 ∨ k.val = 5 then St.badFormat else
    match s.vaultShut with
      | some q => q
      | none => if (s.slot a.val).kind = 0 then 0x80 else if s.slotValid 8 a.val = false then St.keyRevoked else if (s.slot a.val).kind ≠ 6 then 0x82 else if (s.slot a.val).limited = true ∧ (s.slot a.val).uses = 0 then 0x81 else St.done) ∧ v ≠ St.done) → Gives (.keyDerive a b k salt info bd u) s fun t => t = s.vaultAnswer v true)
  -- keyDerive, with no request
  ∧ (∀ (s : State) (a b : Fin 64) (k : Fin 7) (salt info : List Byte) (bd : Bool) (u : Option Word), s.Up → (s.chute 50).pkts.isEmpty = true →
    Gives (.keyDerive a b k salt info bd u) s fun t => t = s)

/-- The twin link: pairing, frames, loss and time. Each command completes (exec answers a next state) in every state that meets its hypotheses.
  LINK_HELLO with LIVE_OUT, SERDES lock, a lane and the link down begins a session, sends its own HELLO and shows lanes and seat; with
  TWIN_EN at the peer and every pairing check passed the link is UP (2, on one lane 3), paired, and BOOT is raised above the peer's, else
  the reason shows, the link is 1, not paired, PAIR_FAIL; without those it has no effect. LANE_LOSS of a lane in use drops it and shows
  LANE_DEGRADED; with the other in use and the link up the link goes on at 3. A received frame of the next LSEQ that opens under the key
  advances the sequence, takes its LACK and frees its chute words, an IDLE also showing the peer's mode, fleet and lockstep; one out of
  sequence, of bad length, without the key or that does not open is counted and BAD_FRAME, with nothing delivered; with the link down
  nothing happens. LINK_RETRANSMIT sends every unacknowledged frame again and counts it. LINK_IDLE_TX sends mode, fleet and lockstep; both
  do nothing with the link down or LIVE_OUT stopped. LINK_DOWN clears LINK and PAIRED, counts, ends time over the link and drops frames; a
  standby with LIVE_IN or broken continuity and any rejoining unit go to REJOIN, a mirrored active with LIVE_IN shows TWIN_LOST and abandons
  an epoch not assured, any other goes on; when down it changes nothing. LONE_AFTER_TIMEOUT after a loss ends mirroring. TIME_REQ: the
  active answers with its time, a follower sends its own and opens a request; TIME_RSP to that request adds its offset and closes it, any
  other is dropped. FETCH at an active outside PANTRY and SURVEY sends back the frame it keeps, else nothing. FILL of a missing frame whose
  hash agrees removes it from the missing and takes its operation, else nothing changes. Rests on parts of rules R449, R458, R459, R460,
  R463, R476, R477. -/
def Obligations.TwinLink : Prop :=
  -- linkHello, a pair
  (∀ (s a : State) (h : HelloMsg), s.Up → (s.liveOut = true ∧ s.linkUp = false ∧ s.on Reg.CLK_SRC_STATUS_PLL_SERDES_LOCK = true ∧ (h.lane0 =
    true ∨ h.lane1 = true)) → h.twinEn = true ∧ s.pairReason h = 0 → a = State.linkPut
    { s with twn := { s.twn with session := s.twn.session + 1, rxSeq := 1, txSeq := 0, tx := [], peerSes := h.session.toNat } } 1
    (s.helloBytes (s.twn.session + 1)) → Gives (.linkHello h) s fun t => t = State.raiseBoot (a.wrEach [(Reg.FJR_STATUS_LANE0_OK, bit
    h.lane0), (Reg.FJR_STATUS_LANE1_OK, bit h.lane1), (Reg.FJR_PEER_SEAT, h.seat.val), (Reg.FJR_PEER_PAIR_REASON, 0), (Reg.FJR_STATUS_LINK,
    if h.lane0 && h.lane1 then 2 else 3), (Reg.FJR_STATUS_PAIRED, 1)]) h.boot.toNat ∧ t.rd Reg.FJR_STATUS_LINK = (if h.lane0 && h.lane1 then
    2 else 3) ∧ t.rd Reg.FJR_STATUS_PAIRED = 1 ∧ t.twn.rxSeq = 1 ∧ t.twn.session = s.twn.session + 1)
  -- linkHello, no pair
  ∧ (∀ (s a : State) (h : HelloMsg) (r : Nat), s.Up → (s.liveOut = true ∧ s.linkUp = false ∧ s.on Reg.CLK_SRC_STATUS_PLL_SERDES_LOCK = true ∧
    (h.lane0 = true ∨ h.lane1 = true)) → r = (if h.twinEn = true then s.pairReason h else 1) ∧ r ≠ 0 → a = State.linkPut
    { s with twn := { s.twn with session := s.twn.session + 1, rxSeq := 1, txSeq := 0, tx := [], peerSes := h.session.toNat } } 1
    (s.helloBytes (s.twn.session + 1)) → Gives (.linkHello h) s fun t => t = State.fault (a.wrEach [(Reg.FJR_STATUS_LANE0_OK, bit h.lane0),
    (Reg.FJR_STATUS_LANE1_OK, bit h.lane1), (Reg.FJR_PEER_SEAT, h.seat.val), (Reg.FJR_PEER_PAIR_REASON, r), (Reg.FJR_STATUS_LINK, 1),
    (Reg.FJR_STATUS_PAIRED, 0)]) Reg.FJR_FAULT_PAIR_FAIL ∧ t.rd Reg.FJR_STATUS_LINK = 1 ∧ t.rd Reg.FJR_STATUS_PAIRED = 0 ∧ t.rd
    Reg.FJR_FAULT_PAIR_FAIL = 1)
  -- linkHello, with no LIVE_OUT, no lane, no SERDES lock or the link up
  ∧ (∀ (s : State) (h : HelloMsg), s.Up → (s.liveOut = false ∨ s.linkUp = true ∨ (h.lane0 = false ∧ h.lane1 = false) ∨ s.on
    Reg.CLK_SRC_STATUS_PLL_SERDES_LOCK = false) → Gives (.linkHello h) s fun t => t = s)
  -- laneLoss, with the other lane in use
  ∧ (∀ (s : State) (k : Fin 2) (mine other : Fld), s.Up → mine = (if k = 0 then Reg.FJR_STATUS_LANE0_OK else Reg.FJR_STATUS_LANE1_OK) ∧ other
    = (if k = 0 then Reg.FJR_STATUS_LANE1_OK else Reg.FJR_STATUS_LANE0_OK) → s.on mine = true ∧ s.on other = true ∧ s.linkUp = true → Gives
    (.laneLoss k) s fun t => t = ((s.wr mine 0).fault Reg.FJR_FAULT_LANE_DEGRADED).wr Reg.FJR_STATUS_LINK 3 ∧ t.rd mine = 0 ∧ t.rd other =
    s.rd other ∧ t.rd Reg.FJR_STATUS_LINK = 3 ∧ t.rd Reg.FJR_FAULT_LANE_DEGRADED = 1 ∧ t.twn = s.twn)
  -- laneLoss, of the last lane
  ∧ (∀ (s : State) (k : Fin 2) (mine other : Fld), s.Up → mine = (if k = 0 then Reg.FJR_STATUS_LANE0_OK else Reg.FJR_STATUS_LANE1_OK) ∧ other
    = (if k = 0 then Reg.FJR_STATUS_LANE1_OK else Reg.FJR_STATUS_LANE0_OK) → s.on mine = true ∧ s.on other = false → Gives (.laneLoss k) s
    fun t => t = (s.wr mine 0).fault Reg.FJR_FAULT_LANE_DEGRADED)
  -- linkFrameRx, the next frame
  ∧ (∀ (s : State) (f : List Byte), s.Up → s.linkUp = true ∧ leAt f 4 4 = s.twn.rxSeq ∧ byteAt f 0 ≠ 2 → Gives (.linkFrameRx f) s fun t => t =
    (match s.linkOpen f with | some p => State.takeLack (State.linkChute { s with twn := { s.twn with rxSeq := (s.twn.rxSeq + 1) % 4294967296 } } 19 (byteAt f 0) p.length) (leAt f 8 4) | none => (s.fjrBump Reg.FJR_BAD_FRAME).fault Reg.FJR_FAULT_BAD_FRAME))
  -- linkFrameRx, the next IDLE frame
  ∧ (∀ (s : State) (f : List Byte), s.Up → s.linkUp = true ∧ leAt f 4 4 = s.twn.rxSeq ∧ byteAt f 0 = 2 → Gives (.linkFrameRx f) s fun t => t =
    (match s.linkOpen f with | some p => State.takeIdle (State.takeLack (State.linkChute { s with twn := { s.twn with rxSeq := (s.twn.rxSeq + 1) % 4294967296 } } 19 2 p.length) (leAt f 8 4)) p | none => (s.fjrBump Reg.FJR_BAD_FRAME).fault Reg.FJR_FAULT_BAD_FRAME))
  -- linkFrameRx, out of sequence, of a bad length or without the key
  ∧ (∀ (s : State) (f : List Byte), s.Up → (s.linkUp = true ∧ (leAt f 4 4 ≠ s.twn.rxSeq ∨ f.length < 36 ∨ 8192 < f.length ∨ f.length ≠ 36 +
    leAt f 2 2 ∨ s.keyOf 6 = none)) → Gives (.linkFrameRx f) s fun t => t = (s.fjrBump Reg.FJR_BAD_FRAME).fault Reg.FJR_FAULT_BAD_FRAME ∧
    t.rd Reg.FJR_FAULT_BAD_FRAME = 1 ∧ t.twn = s.twn ∧ t.chu = s.chu)
  -- linkFrameRx, with the link down
  ∧ (∀ (s : State) (f : List Byte), s.Up → s.linkUp = false → Gives (.linkFrameRx f) s fun t => t = s)
  -- linkRetransmit
  ∧ (∀ (s : State), s.Up → s.linkUp = true ∧ s.twn.stopped = false → Gives .linkRetransmit s fun t => t = State.wrapBy (s.resend ((s.twn.txSeq
    + 4294967296 - s.twn.tx.length) % 4294967296) s.twn.tx) Reg.FJR_RETX s.twn.tx.length ∧ t.twn.tx = s.twn.tx ∧ t.twn.txSeq = s.twn.txSeq ∧
    t.twn.xseq = s.twn.xseq + s.twn.tx.length ∧ t.rd Reg.FJR_RETX = (s.rd Reg.FJR_RETX + s.twn.tx.length) % 4294967296)
  -- linkRetransmit, with the link down or LIVE_OUT stopped
  ∧ (∀ (s : State), s.Up → (s.linkUp = false ∨ s.twn.stopped = true) → Gives .linkRetransmit s fun t => t = s)
  -- linkIdleTx
  ∧ (∀ (s : State), s.Up → s.twn.stopped = false ∧ s.linkUp = true → Gives .linkIdleTx s fun t => t = s.linkPut 2 [s.mode.code,
    s.trp.fleet.code, bit s.twn.lockstep] ∧ t.twn.tx = s.twn.tx ++ [(2, [s.mode.code, s.trp.fleet.code, bit s.twn.lockstep])] ∧ t.twn.txSeq
    = (s.twn.txSeq + 1) % 4294967296 ∧ t.twn.xseq = s.twn.xseq + 1)
  -- linkIdleTx, with the link down or LIVE_OUT stopped
  ∧ (∀ (s : State), s.Up → (s.linkUp = false ∨ s.twn.stopped = true) → Gives .linkIdleTx s fun t => t = s)
  -- linkDown, a standby
  ∧ (∀ (s a b : State), s.Up → s.linkUp = true ∧ s.mode = .twinStandby → a = State.loseTwin (State.fjrBump (s.wrEach [(Reg.FJR_STATUS_LINK,
    0), (Reg.FJR_STATUS_PAIRED, 0)]) Reg.FJR_LINK_LOSSES) ∧ b =
    { a with twn := { a.twn with tx := [], journal := none, snapDue := false, readyDue := false, readied := none, demoted := none } } →
    Gives .linkDown s fun t => t = (if b.on Reg.FJR_STATUS_LIVE_IN = true ∨ b.contOk = false then b.toRejoin else b))
  -- linkDown, a standby on intact lines goes to REJOIN
  ∧ (∀ (s : State), s.Up → s.linkUp = true ∧ s.mode = .twinStandby ∧ s.on Reg.FJR_STATUS_LIVE_IN = true ∧ s.twn.timeOk = false ∧
    s.pwr.pfailLatched = false → Gives .linkDown s fun t => t.mode = .rejoin ∧ t.rd Reg.FJR_STATUS_REJOIN_STATE = 1 ∧ t.rd
    Reg.FJR_STATUS_LINK = 0 ∧ t.rd Reg.FJR_STATUS_PAIRED = 0)
  -- linkDown, a rejoining unit
  ∧ (∀ (s a b : State), s.Up → s.linkUp = true ∧ s.mode = .rejoin → a = State.loseTwin (State.fjrBump (s.wrEach [(Reg.FJR_STATUS_LINK, 0),
    (Reg.FJR_STATUS_PAIRED, 0)]) Reg.FJR_LINK_LOSSES) ∧ b =
    { a with twn := { a.twn with tx := [], journal := none, snapDue := false, readyDue := false, readied := none, demoted := none } } →
    Gives .linkDown s fun t => t = b.toRejoin)
  -- linkDown, a mirrored active whose standby lives
  ∧ (∀ (s a b w : State), s.Up → s.linkUp = true ∧ s.follows = false ∧ s.twn.mirrored = true ∧ s.on Reg.FJR_STATUS_LIVE_IN = true → a =
    State.loseTwin (State.fjrBump (s.wrEach [(Reg.FJR_STATUS_LINK, 0), (Reg.FJR_STATUS_PAIRED, 0)]) Reg.FJR_LINK_LOSSES) ∧ b =
    { a with twn := { a.twn with tx := [], journal := none, snapDue := false, readyDue := false, readied := none, demoted := none } } → w =
    { b.fault Reg.FJR_FAULT_TWIN_LOST with twn := { b.twn with linkLost := true } } → Gives .linkDown s fun t => t = (if w.epo.assured =
    true then w else w.abandonEpoch))
  -- linkDown, any other unit
  ∧ (∀ (s a b : State), s.Up → (s.linkUp = true ∧ s.follows = false ∧ (s.twn.mirrored = false ∨ s.on Reg.FJR_STATUS_LIVE_IN = false)) → a =
    State.loseTwin (State.fjrBump (s.wrEach [(Reg.FJR_STATUS_LINK, 0), (Reg.FJR_STATUS_PAIRED, 0)]) Reg.FJR_LINK_LOSSES) ∧ b =
    { a with twn := { a.twn with tx := [], journal := none, snapDue := false, readyDue := false, readied := none, demoted := none } } →
    Gives .linkDown s fun t => t = b)
  -- linkDown, when it is down
  ∧ (∀ (s : State), s.Up → s.linkUp = false → Gives .linkDown s fun t => t = s)
  -- loneAfterTimeout
  ∧ (∀ (s : State), s.Up → s.twn.linkLost = true → Gives .loneAfterTimeout s fun t => t =
    { s with twn := { s.twn with linkLost := false, mirrored := false } })
  -- loneAfterTimeout, with the link not lost
  ∧ (∀ (s : State), s.Up → s.twn.linkLost = false → Gives .loneAfterTimeout s fun t => t = s)
  -- timeReq, at the active
  ∧ (∀ (s : State) (t1 : YTime), s.Up → s.twn.stopped = false ∧ s.linkUp = true → s.follows = false → Gives (.timeReq t1) s fun t => t =
    s.linkPut 6 (stamp t1 ++ stamp s.now ++ stamp s.now) ∧ t.twn.tx = s.twn.tx ++ [(6, stamp t1 ++ stamp s.now ++ stamp s.now)])
  -- timeReq, at a follower
  ∧ (∀ (s : State) (t1 : YTime), s.Up → s.twn.stopped = false ∧ s.linkUp = true → s.follows = true → Gives (.timeReq t1) s fun t => t =
    State.linkPut { s with twn := { s.twn with reqAt := some s.now } } 5 (stamp s.now) ∧ t.twn.reqAt = some s.now ∧ t.twn.tx = s.twn.tx ++
    [(5, stamp s.now)])
  -- timeRsp
  ∧ (∀ (s : State) (t1 t2 t3 t4 : YTime), s.Up → s.follows = true ∧ s.linkUp = true ∧ s.twn.reqAt = some t1 → Gives (.timeRsp t1 t2 t3 t4) s
    fun t => t =
    { s with twn := { s.twn with offsets := s.twn.offsets ++ [(timeDiff t2 t1 - timeDiff t4 t3 - signed 16 (s.rd Reg.FJR_TIME_ASYM) * 65536) / 512], reqAt := none } })
  -- timeRsp, of no open request
  ∧ (∀ (s : State) (t1 t2 t3 t4 : YTime), s.Up → (s.follows = false ∨ s.linkUp = false ∨ s.twn.reqAt ≠ some t1) → Gives (.timeRsp t1 t2 t3 t4)
    s fun t => t = s)
  -- fetch
  ∧ (∀ (s : State) (r : ZypRef) (o : OwnFrame), s.Up → s.twn.stopped = false ∧ s.linkUp = true → s.follows = false ∧ s.shutsMirror = false ∧
    s.twn.own.find? (refNames r) = some o → Gives (.fetch r) s fun t => t = s.linkPut 0x12 (refBytes r ++ o.bytes.map BitVec.toNat) ∧
    t.twn.tx = s.twn.tx ++ [(0x12, refBytes r ++ o.bytes.map BitVec.toNat)])
  -- fetch, of a frame the active has not, or where mirror traffic is shut out
  ∧ (∀ (s : State) (r : ZypRef), s.Up → (s.follows = true ∨ s.shutsMirror = true ∨ s.twn.own.find? (refNames r) = none) → Gives (.fetch r) s
    fun t => t = s)
  -- fill
  ∧ (∀ (s u : State) (r : ZypRef) (f : List Byte), s.Up → s.follows = true ∧ s.twn.missing.contains r = true → u =
    { s with twn := { s.twn with missing := s.twn.missing.erase r } } → Gives (.fill r f) s fun t => t = (if unle ((shaBytes (f.map
    BitVec.toNat)).take 8) = r.hash.toNat then
    (match ((s.lidOf r.src.toNat).bind fun lid => s.opOf lid r.typ.toNat ((f.drop 28).take (f.length - 44))) with | some op => u.takeListed r.adm.toNat op | none => u)
    else s))
  -- fill, of a frame that is not missing
  ∧ (∀ (s : State) (r : ZypRef) (f : List Byte), s.Up → (s.follows = false ∨ s.twn.missing.contains r = false) → Gives (.fill r f) s fun t =>
    t = s)

/-- The interlock lines: losses, takeover, ambiguity and continuity. Each command completes (exec answers a next state) in every state that
  meets its hypotheses. LIVE_SERVICE_MISSED stops LIVE_OUT, once. LIVE_IN_LOST at a standby with CLAIM_IN asserted keeps the loss and waits;
  with it deasserted, outside PFAIL handling, it takes over where continuity is intact and else shows INTERLOCK_OPEN; at a mirrored active
  on an intact line it ends mirroring, shows TWIN_LOST and assures an epoch whose digest has closed; at any other unit it shows and ends a
  snapshot in service; when it is lost already it changes nothing. CLAIM_IN_DEASSERT at a standby that has lost LIVE_IN, outside PFAIL
  handling, takes over with continuity intact (with no epoch open and no STOP latched into FLEET_RUN at GO and FLEET_HOLD otherwise, with
  TAKEOVER shown) and else shows INTERLOCK_OPEN; at a unit that has not lost it, it only shows. TAKEOVER_BLOCKED with the claim still
  asserted on intact lines shows TAKEOVER_BLOCKED and goes to REJOIN, in PFAIL handling staying in its mode, and otherwise has no effect.
  TWIN_AMBIGUITY with both claims asserted raises a fleet STOP of cause TWIN and shows AMBIGUITY, and otherwise has no effect.
  CLAIM_IN_ASSERT shows; at seat B in arbitration it drops the claim, and FLEET_START ends CONFLICT. LIVE_IN_ASSERT shows and ends the loss.
  CONTINUITY_BROKEN clears the line's continuity and shows INTERLOCK_OPEN, CONTINUITY_RESTORED sets it. Rests on parts of rules R453, R454,
  R456, R457, R470, R471, R472, R475. -/
def Obligations.TwinInterlock : Prop :=
  -- liveServiceMissed
  (∀ (s : State), s.Up → s.liveOut = true → Gives .liveServiceMissed s fun t => t = { s with twn := { s.twn with stopped := true } })
  -- liveServiceMissed, with LIVE_OUT stopped
  ∧ (∀ (s : State), s.Up → s.liveOut = false → Gives .liveServiceMissed s fun t => t = s)
  -- liveInLost, a standby
  ∧ (∀ (s : State), s.Up → s.on Reg.FJR_STATUS_LIVE_IN = true ∧ s.mode = .twinStandby ∧ s.on Reg.FJR_STATUS_CLAIM_IN = true → Gives
    .liveInLost s fun t => t = { s.wr Reg.FJR_STATUS_LIVE_IN 0 with twn := { s.twn with lost := true } })
  -- liveInLost, a standby that may take over at once
  ∧ (∀ (s u : State), s.Up → s.on Reg.FJR_STATUS_LIVE_IN = true ∧ s.mode = .twinStandby ∧ s.on Reg.FJR_STATUS_CLAIM_IN = false ∧
    s.pwr.pfailLatched = false → u = { s.wr Reg.FJR_STATUS_LIVE_IN 0 with twn := { s.twn with lost := true } } → Gives .liveInLost s fun t
    => t = (if s.contOk = true then u.takeover else u.fault Reg.FJR_FAULT_INTERLOCK_OPEN))
  -- liveInLost, any other unit
  ∧ (∀ (s : State), s.Up → (s.on Reg.FJR_STATUS_LIVE_IN = true ∧ s.mode ≠ .twinStandby ∧ (s.twn.mirrored = false ∨ s.on
    Reg.FJR_STATUS_LIVE_CONT = false)) → Gives .liveInLost s fun t => t =
    { s.wr Reg.FJR_STATUS_LIVE_IN 0 with twn := { s.twn with journal := none, snapDue := false } })
  -- liveInLost, when it is lost
  ∧ (∀ (s : State), s.Up → s.on Reg.FJR_STATUS_LIVE_IN = false → Gives .liveInLost s fun t => t = s)
  -- liveInLost, a mirrored active
  ∧ (∀ (s u : State), s.Up → s.on Reg.FJR_STATUS_LIVE_IN = true ∧ s.mode ≠ .twinStandby ∧ s.twn.mirrored = true ∧ s.on
    Reg.FJR_STATUS_LIVE_CONT = true → u =
    { State.fault (s.wr Reg.FJR_STATUS_LIVE_IN 0) Reg.FJR_FAULT_TWIN_LOST with twn := { s.twn with mirrored := false, linkLost := false, lates := 0, demoted := none } }
    → Gives .liveInLost s fun t => t = (if s.epo.opened = true ∧ s.epo.digest = true then u.assure else u) ∧ t.twn =
    { s.twn with mirrored := false, linkLost := false, lates := 0, demoted := none } ∧ t.rd Reg.FJR_FAULT_TWIN_LOST = 1 ∧ t.rd
    Reg.FJR_STATUS_LIVE_IN = 0)
  -- claimInDeassert, the takeover
  ∧ (∀ (s : State), s.Up → s.mode = .twinStandby ∧ s.twn.lost = true ∧ s.pwr.pfailLatched = false → Gives .claimInDeassert s fun t => t = (if
    s.contOk = true then State.takeover (s.wr Reg.FJR_STATUS_CLAIM_IN 0) else State.fault (s.wr Reg.FJR_STATUS_CLAIM_IN 0)
    Reg.FJR_FAULT_INTERLOCK_OPEN))
  -- claimInDeassert, the takeover with no epoch open
  ∧ (∀ (s : State), s.Up → s.mode = .twinStandby ∧ s.twn.lost = true ∧ s.contOk = true ∧ s.pwr.pfailLatched = false → s.epo.opened = false ∧
    s.trp.latch = false → Gives .claimInDeassert s fun t => t.mode = (if s.trp.fleet = .go then .fleetRun else .fleetHold) ∧ t.rd
    Reg.FJR_FAULT_TAKEOVER = 1 ∧ t.rd Reg.FJR_STATUS_CLAIM_IN = 0 ∧ t.twn.lost = false)
  -- claimInDeassert, with LIVE_IN or at another unit
  ∧ (∀ (s : State), s.Up → (s.mode ≠ .twinStandby ∨ s.twn.lost = false) → Gives .claimInDeassert s fun t => t = s.wr Reg.FJR_STATUS_CLAIM_IN
    0)
  -- takeoverBlocked
  ∧ (∀ (s u : State), s.Up → s.mode = .twinStandby ∧ s.twn.lost = true ∧ s.on Reg.FJR_STATUS_CLAIM_IN = true ∧ s.contOk = true → u = s.fault
    Reg.FJR_FAULT_TAKEOVER_BLOCKED → Gives .takeoverBlocked s fun t => t = u.toRejoin ∧ t.rd Reg.FJR_FAULT_TAKEOVER_BLOCKED = 1 ∧ t.mode =
    (if s.pwr.pfailLatched = true then s.mode else .rejoin))
  -- takeoverBlocked, when the claim has fallen or nothing was lost
  ∧ (∀ (s : State), s.Up → (s.mode ≠ .twinStandby ∨ s.twn.lost = false ∨ s.on Reg.FJR_STATUS_CLAIM_IN = false ∨ s.contOk = false) → Gives
    .takeoverBlocked s fun t => t = s)
  -- continuityBroken
  ∧ (∀ (s : State) (b : Bool), s.Up → Gives (.continuityBroken b) s fun t => t.rd (contOf b) = 0 ∧ t.rd Reg.FJR_FAULT_INTERLOCK_OPEN = 1)
  -- continuityRestored
  ∧ (∀ (s : State) (b : Bool), s.Up → Gives (.continuityRestored b) s fun t => t = s.wr (contOf b) 1)
  -- twinAmbiguity
  ∧ (∀ (s : State), s.Up → s.claimOut = true ∧ s.on Reg.FJR_STATUS_CLAIM_IN = true → Gives .twinAmbiguity s fun t => t.trp.fleet = .stop ∧
    t.trp.latch = true ∧ t.rd Reg.TRP_STOP_CAUSE_TWIN = 1 ∧ t.rd Reg.FJR_FAULT_AMBIGUITY = 1)
  -- twinAmbiguity, without both claims
  ∧ (∀ (s : State), s.Up → (s.claimOut = false ∨ s.on Reg.FJR_STATUS_CLAIM_IN = false) → Gives .twinAmbiguity s fun t => t = s)
  -- claimInAssert, seat B in arbitration
  ∧ (∀ (s : State), s.Up → s.twn.arb = true ∧ s.seat = 1 → Gives .claimInAssert s fun t => t.twn.arb = false ∧ t.rd Reg.CLK_MODE_RESULT_STATUS
    = St.conflict ∧ t.rd Reg.CLK_MODE_RESULT_TARGET = 6 ∧ t.rd Reg.FJR_STATUS_CLAIM_IN = 1)
  -- claimInAssert, outside arbitration or at seat A
  ∧ (∀ (s : State), s.Up → (s.twn.arb = false ∨ s.seat ≠ 1) → Gives .claimInAssert s fun t => t = s.wr Reg.FJR_STATUS_CLAIM_IN 1)
  -- liveInAssert
  ∧ (∀ (s : State), s.Up → Gives .liveInAssert s fun t => t = { s.wr Reg.FJR_STATUS_LIVE_IN 1 with twn := { s.twn with lost := false } })

/-- Mirroring an epoch: states, inputs, digests and commits. Each command completes (exec answers a next state) in every state that meets its
  hypotheses. STATE at a standby makes its fleet and own states follow those named (a restriction with the own states at GO: the fleet state
  takes the level, a STOP latches); a mirrored active sends its own states, any other unit nothing. RESTRICT at a unit that does not follow
  raises the fleet's or the robot's restriction of that cause; at a follower, or with no such cause, nothing. INPUT at a follower with the
  link UP takes its entries in turn: a head opens its epoch at a standby, moves a REPLAY whose next epoch it is to COMPARE, and one of
  another epoch is dropped; while the stream is open a reference takes the own admission it names or is asked for by FETCH, and host
  commands, images, cells and positions take their places; END closes it; outside it, nothing. PREPARE of the open epoch is kept and, its
  digest closed, answered by ACK; in COMPARE it is only kept; else dropped. ACK at a mirrored active awaiting it notes the latency; MATCH
  assures the commit, MISMATCH abandons the epoch, sends ABANDON, is recorded, ends mirroring and holds the fleet. A late ACK makes an
  overrun, sends ABANDON and counts; the second in a row sends DEMOTE and shows TWIN_LOST. COMMIT at a standby that has acknowledged commits
  the epoch with PREPARE's COMP_TIMEs. ABANDON drops the epoch; REASON 1 at a standby records the mismatch, goes to REJOIN (its mode stays
  in PFAIL handling) and waits for the host. BEACON_COPY within 0.5 ms at a standby in service sends the copy under this unit's seat and tag
  on both LANs (with no key it only keeps the SEQ), else nothing. DEMOTE takes a standby to REJOIN in WAIT. Each, not awaited or not of the
  open epoch, has no effect. Rests on parts of rules R365, R457, R461, R462, R465, R466, R467, R468, R469, R474. -/
def Obligations.TwinMirroring : Prop :=
  -- stateFrame, a restriction
  (∀ (s : State) (l : Fin 3), s.Up → s.mode = .twinStandby ∧ s.trp.fleet.code < l.val → (∀ r, r < 256 → s.rd (Reg.TRP_ROBOT_OWN r) = 0) →
    Gives (.stateFrame l []) s fun t => t.trp.fleet = levelOf l.val ∧ t.trp.latch = (decide (l.val = 2) || s.trp.latch))
  -- stateFrame, a standby
  ∧ (∀ (s : State) (l : Fin 3) (own : List (Fin 256 × Fin 3)), s.Up → s.mode = .twinStandby → Gives (.stateFrame l own) s fun t => t =
    s.followStates l.val own)
  -- stateFrame, any other unit
  ∧ (∀ (s : State) (l : Fin 3) (own : List (Fin 256 × Fin 3)), s.Up → s.mode ≠ .twinStandby → Gives (.stateFrame l own) s fun t => t = (if
    s.twn.mirrored = true then s.linkSend 0x03 ([s.trp.fleet.code, 0, 0, 0] ++ s.ownBytes) else s))
  -- restrictFrame, a fleet cause
  ∧ (∀ (s : State) (stop : Bool) (k : Fin 32) (f : Fld), s.Up → s.follows = false → (if stop then stopCauses else holdCauses).find? (fun f =>
    f.lo == k.val) = some f → s.trp.fleet ≠ .stop → Gives (.restrictFrame stop none k) s fun t => t.trp.fleet = (if stop then .stop else
    .hold) ∧ t.trp.latch = (stop || s.trp.latch))
  -- restrictFrame, whatever the fleet state
  ∧ (∀ (s : State) (stop : Bool) (k : Fin 32) (f : Fld), s.Up → s.follows = false → (if stop then stopCauses else holdCauses).find? (fun f =>
    f.lo == k.val) = some f → Gives (.restrictFrame stop none k) s fun t => t = s.raiseFleet stop f)
  -- restrictFrame, a robot
  ∧ (∀ (s : State) (stop : Bool) (r : Fin 256) (k : Fin 32) (f : Fld), s.Up → s.follows = false → (ownCauses r.val).find? (fun (f : Fld) =>
    f.lo == k.val) = some f → Gives (.restrictFrame stop (some r) k) s fun t => t = s.raiseOwn r.val stop f)
  -- restrictFrame, at a follower or of a cause that is none
  ∧ (∀ (s : State) (stop : Bool) (r : Option (Fin 256)) (k : Fin 32), s.Up → (s.follows = true ∨
    ((match r with | none => (if stop then stopCauses else holdCauses) | some x => ownCauses x.val).find? (fun (f : Fld) => f.lo == k.val))
    = none) → Gives (.restrictFrame stop r k) s fun t => t = s)
  -- inputFrame, the end
  ∧ (∀ (s : State), s.Up → s.follows = true ∧ s.linkUp = true ∧ s.epo.released = true → Gives (.inputFrame [.fin]) s fun t => t =
    { s with epo := { s.epo with ended := true } })
  -- inputFrame, a host command
  ∧ (∀ (s : State) (k : EpochKind) (a : Nat), s.Up → s.follows = true ∧ s.linkUp = true ∧ s.epo.released = true ∧ s.epo.ended = false → Gives
    (.inputFrame [.host k a]) s fun t => t = { s with epo := { s.epo with taken := s.epo.taken ++ [⟨none, k, a, false, none, []⟩] } })
  -- inputFrame, the head of the epoch
  ∧ (∀ (s : State) (n prev slot cnt : Word) (t0 : YTime) (fl : Fin 4) (own : List (Fin 256 × Fin 4)), s.Up → s.mode = .twinStandby ∧ s.linkUp
    = true ∧ s.epo.opened = true ∧ s.epo.released = false ∧ n.toNat = s.rd Reg.GLB_EPOCH → Gives (.inputFrame [.head n prev slot cnt t0 fl
    own]) s fun t => t = s.openHead slot.toNat t0 fl.val own ∧ t.epo.released = true ∧ t.epo.ended = false ∧ t.epo.taken = [] ∧ t.epo.last =
    some t0 ∧ t.epo.fleet0 = levelOf fl.val)
  -- inputFrame, the head by which a rejoining unit meets the live epoch
  ∧ (∀ (s u : State) (n prev slot cnt : Word) (t0 : YTime) (fl : Fin 4) (own : List (Fin 256 × Fin 4)), s.Up → s.mode = .rejoin ∧ s.linkUp =
    true ∧ s.rejoinState = 3 ∧ s.epo.opened = true ∧ s.epo.released = false ∧ n.toNat = (s.epo.closed + 1) % 4294967296 → u = (s.wr
    Reg.GLB_EPOCH n.toNat).wr Reg.FJR_STATUS_REJOIN_STATE 4 → Gives (.inputFrame [.head n prev slot cnt t0 fl own]) s fun t => t =
    u.openHead slot.toNat t0 fl.val own)
  -- inputFrame, the head of another epoch
  ∧ (∀ (s : State) (n prev slot cnt : Word) (t0 : YTime) (fl : Fin 4) (own : List (Fin 256 × Fin 4)), s.Up → (s.mode = .twinStandby ∧
    (s.epo.opened = false ∨ s.epo.released = true ∨ n.toNat ≠ s.rd Reg.GLB_EPOCH)) → Gives (.inputFrame [.head n prev slot cnt t0 fl own]) s
    fun t => t = s)
  -- inputFrame, a frame by reference of an own admission
  ∧ (∀ (s : State) (r : ZypRef) (o : OwnFrame), s.Up → s.follows = true ∧ s.linkUp = true ∧ s.epo.released = true ∧ s.epo.ended = false →
    s.twn.own.find? (refNames r) = some o → Gives (.inputFrame [.zyp r]) s fun t => t.twn = { s.twn with own := s.twn.own.erase o } ∧ t.epo
    = { s.epo with ops := (match o.op with | some op => insertOp r.adm.toNat op s.epo.ops | none => s.epo.ops) })
  -- inputFrame, a frame by reference that was not admitted here
  ∧ (∀ (s u : State) (r : ZypRef), s.Up → s.follows = true ∧ s.linkUp = true ∧ s.epo.released = true ∧ s.epo.ended = false → s.twn.own.find?
    (refNames r) = none → u = { s with twn := { s.twn with missing := s.twn.missing ++ [r] } } → Gives (.inputFrame [.zyp r]) s fun t => t =
    (u.fjrBump Reg.FJR_FETCHES).linkSend 0x11 (refBytes r))
  -- inputFrame, a commit's image
  ∧ (∀ (s : State) (k : EpochKind) (words : List (Nat × Nat)) (regs : List Nat), s.Up → s.follows = true ∧ s.linkUp = true ∧ s.epo.released =
    true ∧ s.epo.ended = false → Gives (.inputFrame [.image k words regs]) s fun t => t = (s.setImage k words regs).takeInput k 0)
  -- inputFrame, cells to block
  ∧ (∀ (s : State) (cells : List (BitVec 23)), s.Up → s.follows = true ∧ s.linkUp = true ∧ s.epo.released = true ∧ s.epo.ended = false → Gives
    (.inputFrame [.block cells]) s fun t => t = s.takeCells cells ∧ (∀ c, c ∈ cells → ∃ q, q ∈ t.ldr.quar ∧ q.cell = c.toNat))
  -- inputFrame, the position snapshot
  ∧ (∀ (s : State) (l : List (Fin 256 × PosRec)), s.Up → s.follows = true ∧ s.linkUp = true ∧ s.epo.released = true ∧ s.epo.ended = false →
    Gives (.inputFrame [.snapshot l]) s fun t => t = s.takePositions l ∧ t.epo.snapped = true)
  -- inputFrame, entries outside the stream of an epoch
  ∧ (∀ (s : State) (e : InputEntry), s.Up → (s.epo.released = false ∨ s.epo.ended = true ∧ e ≠ .fin) →
    (match e with | .head _ _ _ _ _ _ _ => False | _ => True) → Gives (.inputFrame [e]) s fun t => t = s)
  -- inputFrame, of several entries
  ∧ (∀ (s : State) (es : List InputEntry), s.Up → s.follows = true ∧ s.linkUp = true → Gives (.inputFrame es) s fun t => t = es.foldl
    State.takeEntry s)
  -- inputFrame, at an active or over a link that is down
  ∧ (∀ (s : State) (es : List InputEntry), s.Up → (s.follows = false ∨ s.linkUp = false) → Gives (.inputFrame es) s fun t => t = s)
  -- prepare
  ∧ (∀ (s : State) (p : PrepMsg), s.Up → s.mode = .twinStandby ∧ s.epo.opened = true ∧ s.epo.digest = false ∧ p.epoch.toNat = s.rd
    Reg.GLB_EPOCH → Gives (.prepare p) s fun t => t = { s with twn := { s.twn with prep := some p } })
  -- prepare, once the digest has closed
  ∧ (∀ (s u : State) (p : PrepMsg), s.Up → s.mode = .twinStandby ∧ s.epo.opened = true ∧ s.epo.digest = true ∧ s.twn.acked = false ∧
    p.epoch.toNat = s.rd Reg.GLB_EPOCH → u = { s with twn := { s.twn with prep := some p } } → Gives (.prepare p) s fun t => t = u.sendAck ∧
    t.twn.prep = some p ∧ (s.epo.sums ≠ none → t.twn.acked = true))
  -- prepare, in COMPARE
  ∧ (∀ (s : State) (p : PrepMsg), s.Up → s.mode = .rejoin ∧ s.rejoinState = 4 ∧ s.epo.opened = true ∧ p.epoch.toNat = s.rd Reg.GLB_EPOCH →
    Gives (.prepare p) s fun t => t = { s with twn := { s.twn with prep := some p } })
  -- prepare, of another epoch or at another unit
  ∧ (∀ (s : State) (p : PrepMsg), s.Up → (s.takesLive = false ∨ s.epo.opened = false ∨ p.epoch.toNat ≠ s.rd Reg.GLB_EPOCH) → Gives (.prepare
    p) s fun t => t = s)
  -- ack, a match
  ∧ (∀ (s u : State) (a : AckMsg) (us : Word) (v : Nat), s.Up → s.follows = false ∧ s.twn.mirrored = true ∧ s.twn.linkLost = false →
    s.epo.opened = true ∧ s.epo.digest = true ∧ s.epo.assured = false → a.epoch.toNat = s.rd Reg.GLB_EPOCH ∧ a.mismatch = false → v = min
    us.toNat 65535 → u = ((s.wr Reg.FJR_MIRROR_LAT_LAST v).wr Reg.FJR_MIRROR_LAT_MAX (max v (s.rd Reg.FJR_MIRROR_LAT_MAX))).tallyAdd 11 v →
    Gives (.ack a us) s fun t => t = (fun (y : State) => { y with twn := { y.twn with lates := 0 }, epo := { y.epo with assured := true } })
    u ∧ t.epo = { s.epo with assured := true } ∧ t.twn = { s.twn with lates := 0 } ∧ t.rd Reg.FJR_MIRROR_LAT_LAST = v ∧ t.rd
    Reg.FJR_MIRROR_LAT_MAX = max v (s.rd Reg.FJR_MIRROR_LAT_MAX) % 65536)
  -- ack, a mismatch
  ∧ (∀ (s : State) (a : AckMsg) (us : Word), s.Up → s.follows = false ∧ s.twn.mirrored = true ∧ s.twn.linkLost = false → s.epo.opened = true ∧
    s.epo.digest = true ∧ s.epo.assured = false → a.epoch.toNat = s.rd Reg.GLB_EPOCH ∧ a.mismatch = true → Gives (.ack a us) s fun t => t.rd
    Reg.TRP_HOLD_CAUSE_TWIN_MISMATCH = 1 ∧ t.trp.fleet ≠ .go ∧ t.rd Reg.FJR_MISMATCH_EPOCH = s.rd Reg.GLB_EPOCH % 4294967296)
  -- ack, all a mismatch does
  ∧ (∀ (s u w : State) (a : AckMsg) (us : Word) (v : Nat), s.Up → s.follows = false ∧ s.twn.mirrored = true ∧ s.twn.linkLost = false →
    s.epo.opened = true ∧ s.epo.digest = true ∧ s.epo.assured = false → a.epoch.toNat = s.rd Reg.GLB_EPOCH ∧ a.mismatch = true → v = min
    us.toNat 65535 → u = (fun (y : State) => { y with twn := { y.twn with lates := 0 } }) (((s.wr Reg.FJR_MIRROR_LAT_LAST v).wr
    Reg.FJR_MIRROR_LAT_MAX (max v (s.rd Reg.FJR_MIRROR_LAT_MAX))).tallyAdd 11 v) → w = State.noteMismatch (u.abandonEpoch.linkSend 0x16 (le
    4 (u.rd Reg.GLB_EPOCH) ++ [1])) (u.rd Reg.GLB_EPOCH) a.classDiff.toNat a.lockstep → Gives (.ack a us) s fun t => t = State.raiseFleet
    { w with twn := { w.twn with mirrored := false } } false Reg.TRP_HOLD_CAUSE_TWIN_MISMATCH)
  -- ack, that is not awaited
  ∧ (∀ (s : State) (a : AckMsg) (us : Word), s.Up → (s.follows = true ∨ s.twn.mirrored = false ∨ s.twn.linkLost = true ∨ s.epo.opened = false
    ∨ s.epo.digest = false ∨ s.epo.assured = true ∨ a.epoch.toNat ≠ s.rd Reg.GLB_EPOCH) → Gives (.ack a us) s fun t => t = s)
  -- ackLate, the first
  ∧ (∀ (s : State), s.Up → s.follows = false ∧ s.twn.mirrored = true ∧ s.linkUp = true → s.epo.opened = true ∧ s.epo.digest = true ∧
    s.epo.assured = false → s.twn.lates = 0 ∧ s.twn.linkLost = false ∧ s.epo.overruns = 0 → Gives .ackLate s fun t => t.epo.opened = false ∧
    t.rd Reg.FJR_FAULT_ACK_LATE = 1 ∧ t.twn.lates = 1)
  -- ackLate, all it does
  ∧ (∀ (s u : State), s.Up → s.follows = false ∧ s.twn.mirrored = true ∧ s.linkUp = true → s.epo.opened = true ∧ s.epo.digest = true ∧
    s.epo.assured = false → u = State.fault (State.fjrBump (s.overrun.linkSend 0x16 (le 4 (s.rd Reg.GLB_EPOCH) ++ [0])) Reg.FJR_ACK_LATE)
    Reg.FJR_FAULT_ACK_LATE → Gives .ackLate s fun t => t = (if u.twn.lates = 0 then { u with twn := { u.twn with lates := 1 } } else
    State.fault (State.linkSend { u with twn := { u.twn with demoted := some u.twn.txSeq, lates := 0 } } 0x18 []) Reg.FJR_FAULT_TWIN_LOST))
  -- ackLate, where none is awaited
  ∧ (∀ (s : State), s.Up → (s.follows = true ∨ s.twn.mirrored = false ∨ s.linkUp = false ∨ s.epo.opened = false ∨ s.epo.digest = false ∨
    s.epo.assured = true) → Gives .ackLate s fun t => t = s)
  -- commit
  ∧ (∀ (s : State) (e : Word), s.Up → s.mode = .twinStandby ∧ s.epo.opened = true ∧ s.twn.acked = true → e.toNat = s.rd Reg.GLB_EPOCH → Gives
    (.commit e) s fun t => t = s.withCompTimes.commitEpoch ∧ t.epo.opened = false ∧ t.epo.taken = [] ∧ t.epo.overruns = 0 ∧ t.twn.acked =
    false ∧ t.twn.prep = none)
  -- commit, of an epoch this unit has not acknowledged
  ∧ (∀ (s : State) (e : Word), s.Up → (s.mode ≠ .twinStandby ∨ s.epo.opened = false ∨ s.twn.acked = false ∨ e.toNat ≠ s.rd Reg.GLB_EPOCH) →
    Gives (.commit e) s fun t => t = s)
  -- abandon, after a mismatch
  ∧ (∀ (s u : State) (e : Word) (d : Nat), s.Up → s.mode = .twinStandby ∧ s.epo.opened = true → e.toNat = s.rd Reg.GLB_EPOCH → d =
    (match s.verdict with | some v => v.2 | none => 0) → u = s.toRejoin.noteMismatch e.toNat d (s.on Reg.FJR_PEER_LOCKSTEP) → Gives
    (.abandon e 1) s fun t => t = { u with twn := { u.twn with wait := true } } ∧ t.rd Reg.FJR_MISMATCH_EPOCH = e.toNat % 4294967296 ∧
    t.epo.opened = false ∧ (s.pwr.pfailLatched = false → t.mode = .rejoin ∧ t.rd Reg.FJR_STATUS_REJOIN_STATE = 1))
  -- abandon, for another reason or at a rejoining unit
  ∧ (∀ (s : State) (e : Word) (k : Fin 3), s.Up → s.follows = true ∧ s.epo.opened = true ∧ e.toNat = s.rd Reg.GLB_EPOCH → (k ≠ 1 ∨ s.mode =
    .rejoin) → Gives (.abandon e k) s fun t => t = s.abandonEpoch ∧ t.epo.opened = false ∧ t.mode = s.mode)
  -- abandon, of an epoch that is not open here
  ∧ (∀ (s : State) (e : Word) (k : Fin 3), s.Up → (s.follows = false ∨ s.epo.opened = false ∨ e.toNat ≠ s.rd Reg.GLB_EPOCH) → Gives (.abandon
    e k) s fun t => t = s)
  -- beaconCopy
  ∧ (∀ (s u : State) (q e : Word) (body : List Byte) (k : Nat) (m : List Nat), s.Up → s.mode = .twinStandby ∧ s.twn.stopped = false ∧ s.now.ns
    % 100000000 ≤ 500000 → s.life = 2 ∧ s.keyOf 5 = some k → m = zypHeader 0x10 (2 * s.seat) 255 s.yardId broadcastId (s.rd
    Reg.LNA_ZYP_BOOT) q.toNat (e.toNat % 4294967296) ++ body.map BitVec.toNat → u =
    { s with zyp := { s.zyp with seq := AMap.set (broadcastId * 32 + 0x10) (q.toNat + 1) s.zyp.seq } } → Gives (.beaconCopy q e body) s fun
    t => t = (u.sendLan 0 (m ++ gcmTag k (zypNonce 0x10 s.seat s.yardId (s.rd Reg.LNA_ZYP_BOOT) q.toNat) m)).sendLan 1 (m ++ gcmTag k
    (zypNonce 0x10 s.seat s.yardId (s.rd Reg.LNA_ZYP_BOOT) q.toNat) m))
  -- beaconCopy, with no key
  ∧ (∀ (s : State) (q e : Word) (body : List Byte), s.Up → s.mode = .twinStandby ∧ s.twn.stopped = false ∧ s.now.ns % 100000000 ≤ 500000 →
    s.life = 2 ∧ s.keyOf 5 = none → Gives (.beaconCopy q e body) s fun t => t =
    { s with zyp := { s.zyp with seq := AMap.set (broadcastId * 32 + 0x10) (q.toNat + 1) s.zyp.seq } })
  -- beaconCopy, too late or at another unit
  ∧ (∀ (s : State) (q e : Word) (body : List Byte), s.Up → (s.mode ≠ .twinStandby ∨ s.twn.stopped = true ∨ 500000 < s.now.ns % 100000000) →
    Gives (.beaconCopy q e body) s fun t => t = s)
  -- demote
  ∧ (∀ (s : State), s.Up → s.mode = .twinStandby → Gives .demote s fun t => t = s.toRejoin ∧ t.epo.opened = false ∧ (s.pwr.pfailLatched =
    false → t.mode = .rejoin ∧ t.rd Reg.FJR_STATUS_REJOIN_STATE = 1 ∧ t.rd Reg.FJR_STATUS_CLEAN = 0 ∧ t.twn.mirrored = false ∧ t.twn.lost =
    false))
  -- demote, at another unit
  ∧ (∀ (s : State), s.Up → s.mode ≠ .twinStandby → Gives .demote s fun t => t = s)

/-- What each step of a rejoin does. Each command completes (exec answers a next state) in every state that meets its hypotheses. REJOIN_START
  with the link UP, CLAIM_IN asserted and no mismatch awaiting the host takes WAIT to SNAPSHOT, its attempts counted anew, and sends
  SNAP_REQ; before that it has no effect. SNAP_REQ at an active is served from the next commit in the fleet modes and answered with SNAP_END
  of no sections in the others; at a follower, nothing. In SNAPSHOT a part of SNAP_DATA is kept in order, and SNAP_END with no sections goes
  to WAIT, of a damaged snapshot leaves things as they are, and of a whole one puts every part in place, shows the free tokens and the
  robots and goes to REPLAY; outside SNAPSHOT both have no effect. In REPLAY a JOURNAL with a head opens the epoch it names, takes its
  entries and operations, sweeps, decides, works off and closes it, commits or abandons it by its outcome and puts the live epoch's number
  back; outside REPLAY, nothing. JOURNAL_FULL ends an active's session when JOURNAL_MAX epochs are journaled, fails the attempt of a unit in
  SNAPSHOT or REPLAY (the third ends in FAILED with REJOIN_FAILED, else a new snapshot is asked for), and otherwise does nothing. In COMPARE
  with the digest closed and PREPARE in hand the result is sent; where they agree the epoch commits and CLEAN counts to 20, at which READY
  is sent once; where they differ the epoch is abandoned, the mismatch recorded and the attempt has failed; with nothing to compare,
  nothing. READY at an active on a link that is UP makes the peer standby from the next boundary, but not in PANTRY or SURVEY. TWIN_COMMIT
  makes the twin's settings live, is refused BAD_FORMAT outside its limits and REFUSED_MODE in a fleet mode or at a follower. REJOIN_RETRY
  ends the wait after a mismatch and the FAILED state, answers CONFLICT at another time and REFUSED_MODE in another mode. Rests on parts of
  rules R477, R478, R479, R481. -/
def Obligations.TwinRejoin : Prop :=
  -- rejoinStart
  (∀ (s u : State), s.Up → s.mode = .rejoin ∧ s.rejoinState = 1 ∧ s.linkUp = true ∧ s.on Reg.FJR_STATUS_CLAIM_IN = true ∧ s.twn.wait = false
    → u = State.fjrBump (State.wr (State.wr { s with twn := { s.twn with retries := 0 } } Reg.FJR_STATUS_REJOIN_STATE 2)
    Reg.FJR_STATUS_CLEAN 0) Reg.FJR_REJOINS → Gives .rejoinStart s fun t => t = State.linkSend { u with twn := { u.twn with parts := [] } }
    0x20 [] ∧ t.mode = .rejoin ∧ t.rd Reg.FJR_STATUS_REJOIN_STATE = 2 ∧ t.rd Reg.FJR_STATUS_CLEAN = 0 ∧ t.twn.parts = [] ∧ t.twn.retries =
    0)
  -- rejoinStart, before its conditions hold
  ∧ (∀ (s : State), s.Up → (s.mode ≠ .rejoin ∨ s.rejoinState ≠ 1 ∨ s.linkUp = false ∨ s.on Reg.FJR_STATUS_CLAIM_IN = false ∨ s.twn.wait =
    true) → Gives .rejoinStart s fun t => t = s)
  -- snapReq
  ∧ (∀ (s : State), s.Up → s.follows = false ∧ s.mode.fleet = true → Gives .snapReq s fun t => t =
    { s with twn := { s.twn with snapDue := true, journal := none } })
  -- snapReq, at an active outside the fleet modes
  ∧ (∀ (s : State), s.Up → s.follows = false ∧ s.mode.fleet = false → Gives .snapReq s fun t => t = s.linkSend 0x22 (le 4 0))
  -- snapReq, at a follower
  ∧ (∀ (s : State), s.Up → s.follows = true → Gives .snapReq s fun t => t = s)
  -- snapData
  ∧ (∀ (s : State) (p : SnapPart), s.Up → s.mode = .rejoin ∧ s.rejoinState = 2 → Gives (.snapData p) s fun t => t =
    { s with twn := { s.twn with parts := s.twn.parts ++ [p] } })
  -- snapData, outside SNAPSHOT
  ∧ (∀ (s : State) (p : SnapPart), s.Up → (s.mode ≠ .rejoin ∨ s.rejoinState ≠ 2) → Gives (.snapData p) s fun t => t = s)
  -- snapEnd, with no sections
  ∧ (∀ (s : State) (n : Word) (ok : Bool), s.Up → s.mode = .rejoin ∧ s.rejoinState = 2 → n.toNat = 0 → Gives (.snapEnd n ok) s fun t => t =
    s.wr Reg.FJR_STATUS_REJOIN_STATE 1)
  -- snapEnd, of a damaged snapshot
  ∧ (∀ (s : State) (n : Word), s.Up → s.mode = .rejoin ∧ s.rejoinState = 2 → n.toNat ≠ 0 → Gives (.snapEnd n false) s fun t => t = s)
  -- snapEnd, with a whole snapshot
  ∧ (∀ (s : State) (n : Word) (cells : List Nat), s.Up → s.mode = .rejoin ∧ s.rejoinState = 2 ∧ s.twn.parts = [.blocked cells] → n.toNat ≠ 0 →
    Gives (.snapEnd n true) s fun t => t.ldr.blocked = cells ∧ t.ldr.quar = [] ∧ t.rd Reg.LDR_BLOCKED_CELLS = cells.length % 4294967296 ∧
    t.twn.parts = [] ∧ t.rd Reg.FJR_STATUS_REJOIN_STATE = 3)
  -- snapEnd, with any sections
  ∧ (∀ (s u : State) (n : Word), s.Up → s.mode = .rejoin ∧ s.rejoinState = 2 → n.toNat ≠ 0 → u = s.twn.parts.foldl State.applyPart s → Gives
    (.snapEnd n true) s fun t => t = State.wr (State.showRobots (State.wr { u with twn := { u.twn with parts := [] } } Reg.LDR_FREE (64 *
    u.cellCount - 64 * u.rd Reg.LDR_BLOCKED_CELLS - u.rd Reg.LDR_HELD))) Reg.FJR_STATUS_REJOIN_STATE 3)
  -- snapEnd, outside SNAPSHOT
  ∧ (∀ (s : State) (n : Word) (ok : Bool), s.Up → (s.mode ≠ .rejoin ∨ s.rejoinState ≠ 2) → Gives (.snapEnd n ok) s fun t => t = s)
  -- journal
  ∧ (∀ (s : State) (hd : InputEntry) (es : List InputEntry) (ops : List (Word × RobotOp)) (loops : List LoopSpec) (ok : Bool), s.Up → s.mode =
    .rejoin ∧ s.rejoinState = 3 → (match hd with | .head _ _ _ _ _ _ _ => True | _ => False) → Gives (.journal (hd :: es) ops loops ok) s
    fun t => t.epo.opened = false ∧ t.rd Reg.GLB_EPOCH = s.rd Reg.GLB_EPOCH % 4294967296)
  -- journal, all a replay does
  ∧ (∀ (s a b d e f : State) (n prev slot cnt : Word) (t0 : YTime) (fl : Fin 4) (own : List (Fin 256 × Fin 4)) (es : List InputEntry) (ops :
    List (Word × RobotOp)) (loops : List LoopSpec) (ok : Bool), s.Up → s.mode = .rejoin ∧ s.rejoinState = 3 → a = s.closeEpoch.wr
    Reg.GLB_EPOCH n.toNat → b = State.openHead { a with epo := { a.epo with opened := true } } slot.toNat t0 fl.val own → d =
    sweepCompleteOp (List.foldl (fun (t : State) (x : Word × RobotOp) => t.takeListed x.1.toNat x.2) (List.foldl State.takeEntry b
    (es.filter fun (x : InputEntry) => (match x with | .zyp _ => false | .head _ _ _ _ _ _ _ => false | _ => true))) ops) → e =
    epochDecideOp loops { d with epo := { d.epo with ended := true, snapped := true } } → f = ((e.workAll (3 *
    e.epo.work.length)).paceAll).closeAudited → Gives (.journal (.head n prev slot cnt t0 fl own :: es) ops loops ok) s fun t => t =
    State.wr (if ok = true then f.commitEpoch else f.abandonEpoch) Reg.GLB_EPOCH (s.rd Reg.GLB_EPOCH))
  -- journal, outside REPLAY
  ∧ (∀ (s : State) (es : List InputEntry) (ops : List (Word × RobotOp)) (loops : List LoopSpec) (ok : Bool), s.Up → (s.mode ≠ .rejoin ∨
    s.rejoinState ≠ 3) → Gives (.journal es ops loops ok) s fun t => t = s)
  -- journalFull
  ∧ (∀ (s : State) (k : Nat), s.Up → s.mode ≠ .rejoin ∧ s.twn.journal = some k → s.rd Reg.FJR_CFG_JOURNAL_MAX ≤ k → Gives .journalFull s fun t
    => t = { s with twn := { s.twn with journal := none, snapDue := false } })
  -- journalFull, at the rejoining unit
  ∧ (∀ (s u : State), s.Up → (s.mode = .rejoin ∧ (s.rejoinState = 2 ∨ s.rejoinState = 3)) → u =
    { s with twn := { s.twn with retries := s.twn.retries + 1 } } → Gives .journalFull s fun t => t = (if 2 ≤ s.twn.retries then (u.wr
    Reg.FJR_STATUS_REJOIN_STATE 5).fault Reg.FJR_FAULT_REJOIN_FAILED else u.askSnapshot))
  -- journalFull, with no journal that is full
  ∧ (∀ (s : State), s.Up → (s.mode ≠ .rejoin ∧ (∀ k, s.twn.journal = some k → k < s.rd Reg.FJR_CFG_JOURNAL_MAX) ∨ s.mode = .rejoin ∧
    s.rejoinState ≠ 2 ∧ s.rejoinState ≠ 3) → Gives .journalFull s fun t => t = s)
  -- compare, where the digests agree
  ∧ (∀ (s : State) (d : Nat), s.Up → s.mode = .rejoin ∧ s.rejoinState = 4 ∧ s.epo.opened = true ∧ s.epo.digest = true → s.verdict = some
    (true, d) → s.rd Reg.FJR_STATUS_CLEAN < 19 → Gives .compare s fun t => t.epo.opened = false ∧ t.rd Reg.FJR_STATUS_CLEAN = s.rd
    Reg.FJR_STATUS_CLEAN + 1 ∧ t.epo.overruns = 0)
  -- compare, where they agree, all it does
  ∧ (∀ (s a b : State) (d n : Nat), s.Up → s.mode = .rejoin ∧ s.rejoinState = 4 ∧ s.epo.opened = true ∧ s.epo.digest = true → s.verdict = some
    (true, d) → a = State.commitEpoch (s.linkSend 0x24 (le 4 (s.rd Reg.GLB_EPOCH) ++ [0, d, bit s.twn.lockstep, 0])) → n = min 20 (a.rd
    Reg.FJR_STATUS_CLEAN + 1) → b = a.wr Reg.FJR_STATUS_CLEAN n → Gives .compare s fun t => t = (if n = 20 ∧ b.twn.readied = none then
    State.linkSend { b with twn := { b.twn with readied := some b.twn.txSeq } } 0x25 [] else b))
  -- compare, where they differ
  ∧ (∀ (s a : State) (d : Nat), s.Up → s.mode = .rejoin ∧ s.rejoinState = 4 ∧ s.epo.opened = true ∧ s.epo.digest = true → s.verdict = some
    (false, d) → a = State.abandonEpoch (s.linkSend 0x24 (le 4 (s.rd Reg.GLB_EPOCH) ++ [1, d, bit s.twn.lockstep, 0])) → Gives .compare s
    fun t => t = (State.noteMismatch a (s.rd Reg.GLB_EPOCH) d (s.on Reg.FJR_PEER_LOCKSTEP)).failAttempt ∧ t.epo.opened = false ∧
    (s.twn.retries < 2 → t.rd Reg.FJR_STATUS_REJOIN_STATE = 2 ∧ t.rd Reg.FJR_STATUS_CLEAN = 0) ∧ (2 ≤ s.twn.retries → t.rd
    Reg.FJR_STATUS_REJOIN_STATE = 5 ∧ t.rd Reg.FJR_FAULT_REJOIN_FAILED = 1))
  -- compare, with nothing to compare
  ∧ (∀ (s : State), s.Up → (s.mode ≠ .rejoin ∨ s.rejoinState ≠ 4 ∨ s.epo.opened = false ∨ s.epo.digest = false ∨ s.verdict = none) → Gives
    .compare s fun t => t = s)
  -- ready
  ∧ (∀ (s : State), s.Up → s.follows = false ∧ s.linkUp = true ∧ s.shutsMirror = false → Gives .ready s fun t => t =
    { s with twn := { s.twn with readyDue := true, journal := none, lates := 0 } })
  -- ready, at a follower, over a link that is down, or in PANTRY or SURVEY
  ∧ (∀ (s : State), s.Up → (s.follows = true ∨ s.linkUp = false ∨ s.mode = .pantry ∨ s.mode = .survey) → Gives .ready s fun t => t = s)
  -- twinCommit
  ∧ (∀ (s : State), s.Up → s.mode.fleet = false ∧ s.follows = false → 100 ≤ s.sh Reg.FJR_CFG_LINK_TIMEOUT ∧ s.sh Reg.FJR_CFG_LINK_TIMEOUT ≤
    1000 ∧ 64 ≤ s.sh Reg.FJR_CFG_JOURNAL_MAX ∧ s.sh Reg.FJR_CFG_JOURNAL_MAX ≤ 1024 → Gives .twinCommit s fun t => t.rd Reg.FJR_COMMIT_RESULT
    = St.done ∧ t.rd Reg.FJR_CFG_LINK_TIMEOUT = s.sh Reg.FJR_CFG_LINK_TIMEOUT ∧ t.rd Reg.FJR_CFG_TWIN_EN = s.sh Reg.FJR_CFG_TWIN_EN % 2 ∧
    t.rd Reg.CLK_MODE_STATUS_TWIN_CONFIGURED = s.sh Reg.FJR_CFG_TWIN_EN % 2)
  -- twinCommit, outside the limits
  ∧ (∀ (s : State), s.Up → s.mode.fleet = false ∧ s.follows = false → (s.sh Reg.FJR_CFG_LINK_TIMEOUT < 100 ∨ s.sh Reg.FJR_CFG_LINK_TIMEOUT >
    1000 ∨ s.sh Reg.FJR_CFG_JOURNAL_MAX < 64 ∨ s.sh Reg.FJR_CFG_JOURNAL_MAX > 1024) → Gives .twinCommit s fun t => t.rd
    Reg.FJR_COMMIT_RESULT = St.badFormat ∧ t.rd Reg.FJR_CFG_LINK_TIMEOUT = s.rd Reg.FJR_CFG_LINK_TIMEOUT)
  -- twinCommit, in a fleet mode or at a follower
  ∧ (∀ (s : State), s.Up → (s.mode.fleet = true ∨ s.follows = true) → Gives .twinCommit s fun t => t = s.wr Reg.FJR_COMMIT_RESULT
    St.refusedMode ∧ t.rd Reg.FJR_COMMIT_RESULT = St.refusedMode)
  -- rejoinRetry, after a mismatch
  ∧ (∀ (s : State), s.Up → s.mode = .rejoin ∧ s.rejoinState = 1 ∧ s.twn.wait = true → Gives .rejoinRetry s fun t => t =
    ({ s with twn := { s.twn with wait := false } }).wr Reg.FJR_CTRL_RESULT St.done)
  -- rejoinRetry, after a failure
  ∧ (∀ (s : State), s.Up → s.mode = .rejoin ∧ s.rejoinState = 5 → Gives .rejoinRetry s fun t => t = (s.wr Reg.FJR_STATUS_REJOIN_STATE 1).wr
    Reg.FJR_CTRL_RESULT St.done)
  -- rejoinRetry, at another time
  ∧ (∀ (s : State), s.Up → (s.mode = .rejoin ∧ s.rejoinState ≠ 5 ∧ (s.rejoinState = 1 → s.twn.wait = false)) → Gives .rejoinRetry s fun t => t
    = s.wr Reg.FJR_CTRL_RESULT St.conflict)
  -- rejoinRetry, in another mode
  ∧ (∀ (s : State), s.Up → s.mode ≠ .rejoin → Gives .rejoinRetry s fun t => t = s.wr Reg.FJR_CTRL_RESULT St.refusedMode)
end

