-- ==== Sys2Proof/Laws/Maps.lean ====
section
/-! SUPPORT. Laws of sparse maps, of the register file and of memory: reading after writing, and the canonical form. -/

namespace Sys2Proof.Machine

variable {α : Type}

@[simp] theorem AMap.find_nil (j : Nat) : AMap.find j ([] : AMap α) = none := rfl

theorem AMap.find_cons (j k : Nat) (v : α) (m : AMap α) :
    AMap.find j ((k, v) :: m) = if k = j then some v else AMap.find j m := rfl

/-- A key that was set is found with its value. -/
@[simp] theorem AMap.find_set_same (k : Nat) (v : α) (m : AMap α) : AMap.find k (AMap.set k v m) = some v := by
  induction m with
  | nil => simp [AMap.set, AMap.find]
  | cons p t ih =>
    obtain ⟨j, w⟩ := p
    simp only [AMap.set]
    split
    · simp [AMap.find]
    · split <;> simp [AMap.find, *]

/-- Setting one key leaves every other. -/
theorem AMap.find_set_ne {j k : Nat} (h : j ≠ k) (v : α) (m : AMap α) :
    AMap.find j (AMap.set k v m) = AMap.find j m := by
  induction m with
  | nil => simp [AMap.set, AMap.find, Ne.symm h]
  | cons p t ih =>
    obtain ⟨i, w⟩ := p
    simp only [AMap.set]
    split
    · subst_vars; simp [AMap.find, Ne.symm h]
    · split <;> simp [AMap.find, Ne.symm h, ih]

/-- A deleted key is absent. -/
@[simp] theorem AMap.find_del_same (k : Nat) (m : AMap α) : AMap.find k (AMap.del k m) = none := by
  induction m with
  | nil => rfl
  | cons p t ih =>
    obtain ⟨i, w⟩ := p
    simp only [AMap.del]
    split <;> simp [AMap.find, *]

/-- Deleting one key leaves every other. -/
theorem AMap.find_del_ne {j k : Nat} (h : j ≠ k) (m : AMap α) : AMap.find j (AMap.del k m) = AMap.find j m := by
  induction m with
  | nil => rfl
  | cons p t ih =>
    obtain ⟨i, w⟩ := p
    simp only [AMap.del]
    split
    · subst_vars; simp [AMap.find, Ne.symm h, ih]
    · simp [AMap.find, ih]

@[simp] theorem AMap.get_set_same (k : Nat) (v d : α) (m : AMap α) : AMap.get (AMap.set k v m) k d = v := by
  simp [AMap.get]

theorem AMap.get_set_ne {j k : Nat} (h : j ≠ k) (v d : α) (m : AMap α) :
    AMap.get (AMap.set k v m) j d = AMap.get m j d := by
  simp [AMap.get, AMap.find_set_ne h]

@[simp] theorem AMap.get_del_same (k : Nat) (d : α) (m : AMap α) : AMap.get (AMap.del k m) k d = d := by
  simp [AMap.get]

theorem AMap.get_del_ne {j k : Nat} (h : j ≠ k) (d : α) (m : AMap α) : AMap.get (AMap.del k m) j d = AMap.get m j d := by
  simp [AMap.get, AMap.find_del_ne h]

/-- Reading a key that was put gives its value. -/
@[simp] theorem AMap.get_put_same [DecidableEq α] (k : Nat) (v d : α) (m : AMap α) : AMap.get (AMap.put k v d m) k d = v := by
  unfold AMap.put; split <;> simp [*]

/-- Putting one key leaves every other. -/
theorem AMap.get_put_ne [DecidableEq α] {j k : Nat} (h : j ≠ k) (v d e : α) (m : AMap α) :
    AMap.get (AMap.put k v d m) j e = AMap.get m j e := by
  unfold AMap.put; split <;> simp [AMap.get, AMap.find_set_ne h, AMap.find_del_ne h]

/-! ## The register file -/

/-- A field that was written reads what was written, cut to its width. -/
@[simp] theorem Regs.read_write_same (m : Regs) (f : Fld) (v : Nat) : (m.write f v).read f = v % 2 ^ f.w := by
  unfold Regs.write Regs.read; split <;> simp [*]

/-- Writing one field leaves every field of another key. -/
theorem Regs.read_write_ne {f g : Fld} (h : g.key ≠ f.key) (m : Regs) (v : Nat) : (m.write f v).read g = m.read g := by
  unfold Regs.write Regs.read; split <;> simp [AMap.get_set_ne h, AMap.get_del_ne h]

/-! ## Memory -/

/-- A byte that was written reads back (the law of rule R144's memory). -/
@[simp] theorem Memory.read_write_same (a : Nat) (v : Byte) (m : Memory) : Memory.read a (Memory.write a v m) = v := by
  simp [Memory.read, Memory.write]

/-- Writing one byte leaves every other. -/
theorem Memory.read_write_ne {a b : Nat} (h : b ≠ a) (v : Byte) (m : Memory) :
    Memory.read b (Memory.write a v m) = Memory.read b m := by
  simp [Memory.read, Memory.write, AMap.get_put_ne h]

/-- Writing bytes from an address on leaves the bytes outside. -/
theorem Memory.read_writeAll_out {a b : Nat} (l : List Byte) (m : Memory) (h : b < a ∨ a + l.length ≤ b) :
    Memory.read b (Memory.writeAll a l m) = Memory.read b m := by
  induction l generalizing a m with
  | nil => rfl
  | cons v t ih =>
    simp only [List.length_cons] at h
    rw [Memory.writeAll, ih _ (by omega), Memory.read_write_ne (by omega)]

/-- The bytes written from an address on read back. -/
theorem Memory.read_writeAll_in {a : Nat} (l : List Byte) (m : Memory) {k : Nat} (h : k < l.length) :
    Memory.read (a + k) (Memory.writeAll a l m) = l[k] := by
  induction l generalizing a m k with
  | nil => simp at h
  | cons v t ih =>
    rw [Memory.writeAll]
    cases k with
    | zero => simp [Memory.read_writeAll_out (b := a) t _ (Or.inl (Nat.lt_succ_self a))]
    | succ k =>
      have := ih (a := a + 1) (m := Memory.write a v m) (k := k) (by simpa using h)
      simpa [Nat.add_assoc, Nat.add_comm 1 k] using this

/-- A canonical memory is canonical from any lower address. -/
theorem Memory.wfFrom_mono {lo hi : Nat} (h : lo ≤ hi) (m : Memory) (w : Memory.wfFrom hi m = true) : Memory.wfFrom lo m = true := by
  cases m with
  | nil => rfl
  | cons p t =>
    simp only [Memory.wfFrom, Bool.and_eq_true, decide_eq_true_eq] at w ⊢
    exact ⟨⟨by omega, w.1.2⟩, w.2⟩

theorem Memory.wfFrom_set {lo a : Nat} {v : Byte} (hv : v ≠ 0) (ha : lo ≤ a) (m : Memory) (w : Memory.wfFrom lo m = true) :
    Memory.wfFrom lo (AMap.set a v m) = true := by
  induction m generalizing lo with
  | nil => simp only [AMap.set, Memory.wfFrom, Bool.and_eq_true, decide_eq_true_eq, bne_iff_ne]; exact ⟨⟨ha, hv⟩, trivial⟩
  | cons p t ih =>
    obtain ⟨b, x⟩ := p
    simp only [Memory.wfFrom, Bool.and_eq_true, decide_eq_true_eq, bne_iff_ne] at w
    simp only [AMap.set]
    split
    · subst_vars
      simp only [Memory.wfFrom, Bool.and_eq_true, decide_eq_true_eq, bne_iff_ne]; exact ⟨⟨ha, hv⟩, w.2⟩
    · split
      · simp only [Memory.wfFrom, Bool.and_eq_true, decide_eq_true_eq, bne_iff_ne]
        exact ⟨⟨ha, hv⟩, ⟨⟨by omega, w.1.2⟩, w.2⟩⟩
      · simp only [Memory.wfFrom, Bool.and_eq_true, decide_eq_true_eq, bne_iff_ne]
        exact ⟨⟨w.1.1, w.1.2⟩, ih (by omega) w.2⟩

theorem Memory.wfFrom_del {lo a : Nat} (m : Memory) (w : Memory.wfFrom lo m = true) : Memory.wfFrom lo (AMap.del a m) = true := by
  induction m generalizing lo with
  | nil => rfl
  | cons p t ih =>
    obtain ⟨b, x⟩ := p
    simp only [Memory.wfFrom, Bool.and_eq_true, decide_eq_true_eq, bne_iff_ne] at w
    simp only [AMap.del]
    split
    · exact Memory.wfFrom_mono (by omega) _ (ih w.2)
    · simp only [Memory.wfFrom, Bool.and_eq_true, decide_eq_true_eq, bne_iff_ne]
      exact ⟨w.1, ih w.2⟩

/-- Writing a byte keeps the canonical form. -/
theorem Memory.write_wf (a : Nat) (v : Byte) (m : Memory) (w : Memory.wf m = true) : Memory.wf (Memory.write a v m) = true := by
  unfold Memory.write AMap.put
  split
  · exact Memory.wfFrom_del m w
  · exact Memory.wfFrom_set (by assumption) (Nat.zero_le a) m w

/-- Writing bytes keeps the canonical form. -/
theorem Memory.writeAll_wf (a : Nat) (l : List Byte) (m : Memory) (w : Memory.wf m = true) :
    Memory.wf (Memory.writeAll a l m) = true := by
  induction l generalizing a m with
  | nil => exact w
  | cons v t ih => exact ih (a + 1) _ (Memory.write_wf a v m w)

/-- Dropping entries keeps the canonical form (reset release, rule R68). -/
theorem Memory.filter_wfFrom (p : Host.Cell → Bool) {lo : Nat} (m : Memory) (w : Memory.wfFrom lo m = true) :
    Memory.wfFrom lo (m.filter p) = true := by
  induction m generalizing lo with
  | nil => rfl
  | cons c t ih =>
    obtain ⟨b, x⟩ := c
    simp only [Memory.wfFrom, Bool.and_eq_true, decide_eq_true_eq, bne_iff_ne] at w
    rw [List.filter_cons]
    split
    · simp only [Memory.wfFrom, Bool.and_eq_true, decide_eq_true_eq, bne_iff_ne]; exact ⟨w.1, ih w.2⟩
    · exact Memory.wfFrom_mono (by omega) _ (ih w.2)

end Sys2Proof.Machine
end

