-- ==== Sys2Proof/Laws/State.lean ====
section
/-! SUPPORT. Small laws of the state: what each shared update leaves, field by field, and what a register reads after a write. -/

namespace Sys2Proof.Machine

/-! ## Registers -/

/-- A field that was written reads what was written, cut to its width. -/
@[simp] theorem State.rd_wr_same (s : State) (f : Fld) (v : Nat) : (s.wr f v).rd f = v % 2 ^ f.w := by
  simp [State.rd, State.wr]

/-- Writing one field leaves every field of another key. -/
theorem State.rd_wr_ne {f g : Fld} (h : g.key ≠ f.key) (s : State) (v : Nat) : (s.wr f v).rd g = s.rd g := by
  simp [State.rd, State.wr, Regs.read_write_ne h]

/-- The shadow of a field that was written there. -/
@[simp] theorem State.sh_wrShadow_same (s : State) (f : Fld) (v : Nat) : (s.wrShadow f v).sh f = v % 2 ^ f.w := by
  simp [State.sh, State.wrShadow]

/-- Writing one shadow leaves every other. -/
theorem State.sh_wrShadow_ne {f g : Fld} (h : g.key ≠ f.key) (s : State) (v : Nat) : (s.wrShadow f v).sh g = s.sh g := by
  simp [State.sh, State.wrShadow, State.rd, AMap.find_set_ne h]

/-- A register of a state given part by part is read in its register file. -/
theorem State.rd_mk (f : Fld) {x_pending x_ctr x_fld x_shd x_cmt x_evq x_mode x_prev x_pwr x_hre x_chu x_trp x_tim x_mem x_ticks x_hst x_board x_dsp x_epo x_ldr x_trk x_gov x_zyp x_vlt x_rng x_cor x_cre x_nvm x_twn x_upd x_drm x_tly} : (State.mk x_pending x_ctr x_fld x_shd x_cmt x_evq x_mode x_prev x_pwr x_hre x_chu x_trp x_tim x_mem x_ticks x_hst x_board x_dsp x_epo x_ldr x_trk x_gov x_zyp x_vlt x_rng x_cor x_cre x_nvm x_twn x_upd x_drm x_tly).rd f = x_fld.read f := id rfl

/-- Reading the register file of a state is reading the register. -/
theorem State.read_fld (s : State) (f : Fld) : s.fld.read f = s.rd f := id rfl

/-! ## What `wr` leaves -/

@[simp] theorem State.wr_pending (s : State) (f : Fld) (v : Nat) : (s.wr f v).pending = s.pending := rfl
@[simp] theorem State.wr_ctr (s : State) (f : Fld) (v : Nat) : (s.wr f v).ctr = s.ctr := rfl
@[simp] theorem State.wr_shd (s : State) (f : Fld) (v : Nat) : (s.wr f v).shd = s.shd := rfl
@[simp] theorem State.wr_cmt (s : State) (f : Fld) (v : Nat) : (s.wr f v).cmt = s.cmt := rfl
@[simp] theorem State.wr_evq (s : State) (f : Fld) (v : Nat) : (s.wr f v).evq = s.evq := rfl
@[simp] theorem State.wr_mode (s : State) (f : Fld) (v : Nat) : (s.wr f v).mode = s.mode := rfl
@[simp] theorem State.wr_prev (s : State) (f : Fld) (v : Nat) : (s.wr f v).prev = s.prev := rfl
@[simp] theorem State.wr_pwr (s : State) (f : Fld) (v : Nat) : (s.wr f v).pwr = s.pwr := rfl
@[simp] theorem State.wr_hre (s : State) (f : Fld) (v : Nat) : (s.wr f v).hre = s.hre := rfl
@[simp] theorem State.wr_chu (s : State) (f : Fld) (v : Nat) : (s.wr f v).chu = s.chu := rfl
@[simp] theorem State.wr_trp (s : State) (f : Fld) (v : Nat) : (s.wr f v).trp = s.trp := rfl
@[simp] theorem State.wr_tim (s : State) (f : Fld) (v : Nat) : (s.wr f v).tim = s.tim := rfl
@[simp] theorem State.wr_mem (s : State) (f : Fld) (v : Nat) : (s.wr f v).mem = s.mem := rfl
@[simp] theorem State.wr_ticks (s : State) (f : Fld) (v : Nat) : (s.wr f v).ticks = s.ticks := rfl
@[simp] theorem State.wr_hst (s : State) (f : Fld) (v : Nat) : (s.wr f v).hst = s.hst := rfl
@[simp] theorem State.wr_board (s : State) (f : Fld) (v : Nat) : (s.wr f v).board = s.board := rfl
@[simp] theorem State.wr_dsp (s : State) (f : Fld) (v : Nat) : (s.wr f v).dsp = s.dsp := rfl
@[simp] theorem State.wr_epo (s : State) (f : Fld) (v : Nat) : (s.wr f v).epo = s.epo := rfl
@[simp] theorem State.wr_ldr (s : State) (f : Fld) (v : Nat) : (s.wr f v).ldr = s.ldr := rfl
@[simp] theorem State.wr_trk (s : State) (f : Fld) (v : Nat) : (s.wr f v).trk = s.trk := rfl
@[simp] theorem State.wr_gov (s : State) (f : Fld) (v : Nat) : (s.wr f v).gov = s.gov := rfl
@[simp] theorem State.wr_zyp (s : State) (f : Fld) (v : Nat) : (s.wr f v).zyp = s.zyp := rfl
@[simp] theorem State.wr_vlt (s : State) (f : Fld) (v : Nat) : (s.wr f v).vlt = s.vlt := rfl
@[simp] theorem State.wr_rng (s : State) (f : Fld) (v : Nat) : (s.wr f v).rng = s.rng := rfl
@[simp] theorem State.wr_cor (s : State) (f : Fld) (v : Nat) : (s.wr f v).cor = s.cor := rfl
@[simp] theorem State.wr_cre (s : State) (f : Fld) (v : Nat) : (s.wr f v).cre = s.cre := rfl
@[simp] theorem State.wr_nvm (s : State) (f : Fld) (v : Nat) : (s.wr f v).nvm = s.nvm := rfl
@[simp] theorem State.wr_twn (s : State) (f : Fld) (v : Nat) : (s.wr f v).twn = s.twn := rfl
@[simp] theorem State.wr_upd (s : State) (f : Fld) (v : Nat) : (s.wr f v).upd = s.upd := rfl
@[simp] theorem State.wr_drm (s : State) (f : Fld) (v : Nat) : (s.wr f v).drm = s.drm := rfl
@[simp] theorem State.wr_tly (s : State) (f : Fld) (v : Nat) : (s.wr f v).tly = s.tly := rfl

/-! ## What `wrShadow` leaves -/

@[simp] theorem State.wrShadow_pending (s : State) (f : Fld) (v : Nat) : (s.wrShadow f v).pending = s.pending := rfl
@[simp] theorem State.wrShadow_ctr (s : State) (f : Fld) (v : Nat) : (s.wrShadow f v).ctr = s.ctr := rfl
@[simp] theorem State.wrShadow_fld (s : State) (f : Fld) (v : Nat) : (s.wrShadow f v).fld = s.fld := rfl
@[simp] theorem State.wrShadow_cmt (s : State) (f : Fld) (v : Nat) : (s.wrShadow f v).cmt = s.cmt := rfl
@[simp] theorem State.wrShadow_evq (s : State) (f : Fld) (v : Nat) : (s.wrShadow f v).evq = s.evq := rfl
@[simp] theorem State.wrShadow_mode (s : State) (f : Fld) (v : Nat) : (s.wrShadow f v).mode = s.mode := rfl
@[simp] theorem State.wrShadow_prev (s : State) (f : Fld) (v : Nat) : (s.wrShadow f v).prev = s.prev := rfl
@[simp] theorem State.wrShadow_pwr (s : State) (f : Fld) (v : Nat) : (s.wrShadow f v).pwr = s.pwr := rfl
@[simp] theorem State.wrShadow_hre (s : State) (f : Fld) (v : Nat) : (s.wrShadow f v).hre = s.hre := rfl
@[simp] theorem State.wrShadow_chu (s : State) (f : Fld) (v : Nat) : (s.wrShadow f v).chu = s.chu := rfl
@[simp] theorem State.wrShadow_trp (s : State) (f : Fld) (v : Nat) : (s.wrShadow f v).trp = s.trp := rfl
@[simp] theorem State.wrShadow_tim (s : State) (f : Fld) (v : Nat) : (s.wrShadow f v).tim = s.tim := rfl
@[simp] theorem State.wrShadow_mem (s : State) (f : Fld) (v : Nat) : (s.wrShadow f v).mem = s.mem := rfl
@[simp] theorem State.wrShadow_ticks (s : State) (f : Fld) (v : Nat) : (s.wrShadow f v).ticks = s.ticks := rfl
@[simp] theorem State.wrShadow_hst (s : State) (f : Fld) (v : Nat) : (s.wrShadow f v).hst = s.hst := rfl
@[simp] theorem State.wrShadow_board (s : State) (f : Fld) (v : Nat) : (s.wrShadow f v).board = s.board := rfl
@[simp] theorem State.wrShadow_dsp (s : State) (f : Fld) (v : Nat) : (s.wrShadow f v).dsp = s.dsp := rfl
@[simp] theorem State.wrShadow_epo (s : State) (f : Fld) (v : Nat) : (s.wrShadow f v).epo = s.epo := rfl
@[simp] theorem State.wrShadow_ldr (s : State) (f : Fld) (v : Nat) : (s.wrShadow f v).ldr = s.ldr := rfl
@[simp] theorem State.wrShadow_trk (s : State) (f : Fld) (v : Nat) : (s.wrShadow f v).trk = s.trk := rfl
@[simp] theorem State.wrShadow_gov (s : State) (f : Fld) (v : Nat) : (s.wrShadow f v).gov = s.gov := rfl
@[simp] theorem State.wrShadow_zyp (s : State) (f : Fld) (v : Nat) : (s.wrShadow f v).zyp = s.zyp := rfl
@[simp] theorem State.wrShadow_vlt (s : State) (f : Fld) (v : Nat) : (s.wrShadow f v).vlt = s.vlt := rfl
@[simp] theorem State.wrShadow_rng (s : State) (f : Fld) (v : Nat) : (s.wrShadow f v).rng = s.rng := rfl
@[simp] theorem State.wrShadow_cor (s : State) (f : Fld) (v : Nat) : (s.wrShadow f v).cor = s.cor := rfl
@[simp] theorem State.wrShadow_cre (s : State) (f : Fld) (v : Nat) : (s.wrShadow f v).cre = s.cre := rfl
@[simp] theorem State.wrShadow_nvm (s : State) (f : Fld) (v : Nat) : (s.wrShadow f v).nvm = s.nvm := rfl
@[simp] theorem State.wrShadow_twn (s : State) (f : Fld) (v : Nat) : (s.wrShadow f v).twn = s.twn := rfl
@[simp] theorem State.wrShadow_upd (s : State) (f : Fld) (v : Nat) : (s.wrShadow f v).upd = s.upd := rfl
@[simp] theorem State.wrShadow_drm (s : State) (f : Fld) (v : Nat) : (s.wrShadow f v).drm = s.drm := rfl
@[simp] theorem State.wrShadow_tly (s : State) (f : Fld) (v : Nat) : (s.wrShadow f v).tly = s.tly := rfl

/-! ## What `setChute` leaves -/

@[simp] theorem State.setChute_pending (s : State) (n : Nat) (c : Chute) : (s.setChute n c).pending = s.pending := rfl
@[simp] theorem State.setChute_ctr (s : State) (n : Nat) (c : Chute) : (s.setChute n c).ctr = s.ctr := rfl
@[simp] theorem State.setChute_fld (s : State) (n : Nat) (c : Chute) : (s.setChute n c).fld = s.fld := rfl
@[simp] theorem State.setChute_shd (s : State) (n : Nat) (c : Chute) : (s.setChute n c).shd = s.shd := rfl
@[simp] theorem State.setChute_cmt (s : State) (n : Nat) (c : Chute) : (s.setChute n c).cmt = s.cmt := rfl
@[simp] theorem State.setChute_evq (s : State) (n : Nat) (c : Chute) : (s.setChute n c).evq = s.evq := rfl
@[simp] theorem State.setChute_mode (s : State) (n : Nat) (c : Chute) : (s.setChute n c).mode = s.mode := rfl
@[simp] theorem State.setChute_prev (s : State) (n : Nat) (c : Chute) : (s.setChute n c).prev = s.prev := rfl
@[simp] theorem State.setChute_pwr (s : State) (n : Nat) (c : Chute) : (s.setChute n c).pwr = s.pwr := rfl
@[simp] theorem State.setChute_hre (s : State) (n : Nat) (c : Chute) : (s.setChute n c).hre = s.hre := rfl
@[simp] theorem State.setChute_trp (s : State) (n : Nat) (c : Chute) : (s.setChute n c).trp = s.trp := rfl
@[simp] theorem State.setChute_tim (s : State) (n : Nat) (c : Chute) : (s.setChute n c).tim = s.tim := rfl
@[simp] theorem State.setChute_mem (s : State) (n : Nat) (c : Chute) : (s.setChute n c).mem = s.mem := rfl
@[simp] theorem State.setChute_ticks (s : State) (n : Nat) (c : Chute) : (s.setChute n c).ticks = s.ticks := rfl
@[simp] theorem State.setChute_hst (s : State) (n : Nat) (c : Chute) : (s.setChute n c).hst = s.hst := rfl
@[simp] theorem State.setChute_board (s : State) (n : Nat) (c : Chute) : (s.setChute n c).board = s.board := rfl
@[simp] theorem State.setChute_dsp (s : State) (n : Nat) (c : Chute) : (s.setChute n c).dsp = s.dsp := rfl
@[simp] theorem State.setChute_epo (s : State) (n : Nat) (c : Chute) : (s.setChute n c).epo = s.epo := rfl
@[simp] theorem State.setChute_ldr (s : State) (n : Nat) (c : Chute) : (s.setChute n c).ldr = s.ldr := rfl
@[simp] theorem State.setChute_trk (s : State) (n : Nat) (c : Chute) : (s.setChute n c).trk = s.trk := rfl
@[simp] theorem State.setChute_gov (s : State) (n : Nat) (c : Chute) : (s.setChute n c).gov = s.gov := rfl
@[simp] theorem State.setChute_zyp (s : State) (n : Nat) (c : Chute) : (s.setChute n c).zyp = s.zyp := rfl
@[simp] theorem State.setChute_vlt (s : State) (n : Nat) (c : Chute) : (s.setChute n c).vlt = s.vlt := rfl
@[simp] theorem State.setChute_rng (s : State) (n : Nat) (c : Chute) : (s.setChute n c).rng = s.rng := rfl
@[simp] theorem State.setChute_cor (s : State) (n : Nat) (c : Chute) : (s.setChute n c).cor = s.cor := rfl
@[simp] theorem State.setChute_cre (s : State) (n : Nat) (c : Chute) : (s.setChute n c).cre = s.cre := rfl
@[simp] theorem State.setChute_nvm (s : State) (n : Nat) (c : Chute) : (s.setChute n c).nvm = s.nvm := rfl
@[simp] theorem State.setChute_twn (s : State) (n : Nat) (c : Chute) : (s.setChute n c).twn = s.twn := rfl
@[simp] theorem State.setChute_upd (s : State) (n : Nat) (c : Chute) : (s.setChute n c).upd = s.upd := rfl
@[simp] theorem State.setChute_drm (s : State) (n : Nat) (c : Chute) : (s.setChute n c).drm = s.drm := rfl
@[simp] theorem State.setChute_tly (s : State) (n : Nat) (c : Chute) : (s.setChute n c).tly = s.tly := rfl

/-! ## What `event` leaves -/

@[simp] theorem State.event_pending (s : State) (a b c : Nat) : (s.event a b c).pending = s.pending := rfl
@[simp] theorem State.event_ctr (s : State) (a b c : Nat) : (s.event a b c).ctr = s.ctr := rfl
@[simp] theorem State.event_fld (s : State) (a b c : Nat) : (s.event a b c).fld = s.fld := rfl
@[simp] theorem State.event_shd (s : State) (a b c : Nat) : (s.event a b c).shd = s.shd := rfl
@[simp] theorem State.event_cmt (s : State) (a b c : Nat) : (s.event a b c).cmt = s.cmt := rfl
@[simp] theorem State.event_mode (s : State) (a b c : Nat) : (s.event a b c).mode = s.mode := rfl
@[simp] theorem State.event_prev (s : State) (a b c : Nat) : (s.event a b c).prev = s.prev := rfl
@[simp] theorem State.event_pwr (s : State) (a b c : Nat) : (s.event a b c).pwr = s.pwr := rfl
@[simp] theorem State.event_hre (s : State) (a b c : Nat) : (s.event a b c).hre = s.hre := rfl
@[simp] theorem State.event_chu (s : State) (a b c : Nat) : (s.event a b c).chu = s.chu := rfl
@[simp] theorem State.event_trp (s : State) (a b c : Nat) : (s.event a b c).trp = s.trp := rfl
@[simp] theorem State.event_tim (s : State) (a b c : Nat) : (s.event a b c).tim = s.tim := rfl
@[simp] theorem State.event_mem (s : State) (a b c : Nat) : (s.event a b c).mem = s.mem := rfl
@[simp] theorem State.event_ticks (s : State) (a b c : Nat) : (s.event a b c).ticks = s.ticks := rfl
@[simp] theorem State.event_hst (s : State) (a b c : Nat) : (s.event a b c).hst = s.hst := rfl
@[simp] theorem State.event_board (s : State) (a b c : Nat) : (s.event a b c).board = s.board := rfl
@[simp] theorem State.event_dsp (s : State) (a b c : Nat) : (s.event a b c).dsp = s.dsp := rfl
@[simp] theorem State.event_epo (s : State) (a b c : Nat) : (s.event a b c).epo = s.epo := rfl
@[simp] theorem State.event_ldr (s : State) (a b c : Nat) : (s.event a b c).ldr = s.ldr := rfl
@[simp] theorem State.event_trk (s : State) (a b c : Nat) : (s.event a b c).trk = s.trk := rfl
@[simp] theorem State.event_gov (s : State) (a b c : Nat) : (s.event a b c).gov = s.gov := rfl
@[simp] theorem State.event_zyp (s : State) (a b c : Nat) : (s.event a b c).zyp = s.zyp := rfl
@[simp] theorem State.event_vlt (s : State) (a b c : Nat) : (s.event a b c).vlt = s.vlt := rfl
@[simp] theorem State.event_rng (s : State) (a b c : Nat) : (s.event a b c).rng = s.rng := rfl
@[simp] theorem State.event_cor (s : State) (a b c : Nat) : (s.event a b c).cor = s.cor := rfl
@[simp] theorem State.event_cre (s : State) (a b c : Nat) : (s.event a b c).cre = s.cre := rfl
@[simp] theorem State.event_nvm (s : State) (a b c : Nat) : (s.event a b c).nvm = s.nvm := rfl
@[simp] theorem State.event_twn (s : State) (a b c : Nat) : (s.event a b c).twn = s.twn := rfl
@[simp] theorem State.event_upd (s : State) (a b c : Nat) : (s.event a b c).upd = s.upd := rfl
@[simp] theorem State.event_drm (s : State) (a b c : Nat) : (s.event a b c).drm = s.drm := rfl
@[simp] theorem State.event_tly (s : State) (a b c : Nat) : (s.event a b c).tly = s.tly := rfl

/-! ## What `setVec` leaves -/

@[simp] theorem State.setVec_pending (s : State) (n : Nat) (x : VecSt) : (s.setVec n x).pending = s.pending := rfl
@[simp] theorem State.setVec_ctr (s : State) (n : Nat) (x : VecSt) : (s.setVec n x).ctr = s.ctr := rfl
@[simp] theorem State.setVec_fld (s : State) (n : Nat) (x : VecSt) : (s.setVec n x).fld = s.fld := rfl
@[simp] theorem State.setVec_shd (s : State) (n : Nat) (x : VecSt) : (s.setVec n x).shd = s.shd := rfl
@[simp] theorem State.setVec_cmt (s : State) (n : Nat) (x : VecSt) : (s.setVec n x).cmt = s.cmt := rfl
@[simp] theorem State.setVec_evq (s : State) (n : Nat) (x : VecSt) : (s.setVec n x).evq = s.evq := rfl
@[simp] theorem State.setVec_mode (s : State) (n : Nat) (x : VecSt) : (s.setVec n x).mode = s.mode := rfl
@[simp] theorem State.setVec_prev (s : State) (n : Nat) (x : VecSt) : (s.setVec n x).prev = s.prev := rfl
@[simp] theorem State.setVec_pwr (s : State) (n : Nat) (x : VecSt) : (s.setVec n x).pwr = s.pwr := rfl
@[simp] theorem State.setVec_chu (s : State) (n : Nat) (x : VecSt) : (s.setVec n x).chu = s.chu := rfl
@[simp] theorem State.setVec_trp (s : State) (n : Nat) (x : VecSt) : (s.setVec n x).trp = s.trp := rfl
@[simp] theorem State.setVec_tim (s : State) (n : Nat) (x : VecSt) : (s.setVec n x).tim = s.tim := rfl
@[simp] theorem State.setVec_mem (s : State) (n : Nat) (x : VecSt) : (s.setVec n x).mem = s.mem := rfl
@[simp] theorem State.setVec_ticks (s : State) (n : Nat) (x : VecSt) : (s.setVec n x).ticks = s.ticks := rfl
@[simp] theorem State.setVec_hst (s : State) (n : Nat) (x : VecSt) : (s.setVec n x).hst = s.hst := rfl
@[simp] theorem State.setVec_board (s : State) (n : Nat) (x : VecSt) : (s.setVec n x).board = s.board := rfl
@[simp] theorem State.setVec_dsp (s : State) (n : Nat) (x : VecSt) : (s.setVec n x).dsp = s.dsp := rfl
@[simp] theorem State.setVec_epo (s : State) (n : Nat) (x : VecSt) : (s.setVec n x).epo = s.epo := rfl
@[simp] theorem State.setVec_ldr (s : State) (n : Nat) (x : VecSt) : (s.setVec n x).ldr = s.ldr := rfl
@[simp] theorem State.setVec_trk (s : State) (n : Nat) (x : VecSt) : (s.setVec n x).trk = s.trk := rfl
@[simp] theorem State.setVec_gov (s : State) (n : Nat) (x : VecSt) : (s.setVec n x).gov = s.gov := rfl
@[simp] theorem State.setVec_zyp (s : State) (n : Nat) (x : VecSt) : (s.setVec n x).zyp = s.zyp := rfl
@[simp] theorem State.setVec_vlt (s : State) (n : Nat) (x : VecSt) : (s.setVec n x).vlt = s.vlt := rfl
@[simp] theorem State.setVec_rng (s : State) (n : Nat) (x : VecSt) : (s.setVec n x).rng = s.rng := rfl
@[simp] theorem State.setVec_cor (s : State) (n : Nat) (x : VecSt) : (s.setVec n x).cor = s.cor := rfl
@[simp] theorem State.setVec_cre (s : State) (n : Nat) (x : VecSt) : (s.setVec n x).cre = s.cre := rfl
@[simp] theorem State.setVec_nvm (s : State) (n : Nat) (x : VecSt) : (s.setVec n x).nvm = s.nvm := rfl
@[simp] theorem State.setVec_twn (s : State) (n : Nat) (x : VecSt) : (s.setVec n x).twn = s.twn := rfl
@[simp] theorem State.setVec_upd (s : State) (n : Nat) (x : VecSt) : (s.setVec n x).upd = s.upd := rfl
@[simp] theorem State.setVec_drm (s : State) (n : Nat) (x : VecSt) : (s.setVec n x).drm = s.drm := rfl
@[simp] theorem State.setVec_tly (s : State) (n : Nat) (x : VecSt) : (s.setVec n x).tly = s.tly := rfl

/-! ## What `setRing` leaves -/

@[simp] theorem State.setRing_pending (s : State) (n : Nat) (r : RingSt) : (s.setRing n r).pending = s.pending := rfl
@[simp] theorem State.setRing_ctr (s : State) (n : Nat) (r : RingSt) : (s.setRing n r).ctr = s.ctr := rfl
@[simp] theorem State.setRing_fld (s : State) (n : Nat) (r : RingSt) : (s.setRing n r).fld = s.fld := rfl
@[simp] theorem State.setRing_shd (s : State) (n : Nat) (r : RingSt) : (s.setRing n r).shd = s.shd := rfl
@[simp] theorem State.setRing_cmt (s : State) (n : Nat) (r : RingSt) : (s.setRing n r).cmt = s.cmt := rfl
@[simp] theorem State.setRing_evq (s : State) (n : Nat) (r : RingSt) : (s.setRing n r).evq = s.evq := rfl
@[simp] theorem State.setRing_mode (s : State) (n : Nat) (r : RingSt) : (s.setRing n r).mode = s.mode := rfl
@[simp] theorem State.setRing_prev (s : State) (n : Nat) (r : RingSt) : (s.setRing n r).prev = s.prev := rfl
@[simp] theorem State.setRing_pwr (s : State) (n : Nat) (r : RingSt) : (s.setRing n r).pwr = s.pwr := rfl
@[simp] theorem State.setRing_chu (s : State) (n : Nat) (r : RingSt) : (s.setRing n r).chu = s.chu := rfl
@[simp] theorem State.setRing_trp (s : State) (n : Nat) (r : RingSt) : (s.setRing n r).trp = s.trp := rfl
@[simp] theorem State.setRing_tim (s : State) (n : Nat) (r : RingSt) : (s.setRing n r).tim = s.tim := rfl
@[simp] theorem State.setRing_mem (s : State) (n : Nat) (r : RingSt) : (s.setRing n r).mem = s.mem := rfl
@[simp] theorem State.setRing_ticks (s : State) (n : Nat) (r : RingSt) : (s.setRing n r).ticks = s.ticks := rfl
@[simp] theorem State.setRing_hst (s : State) (n : Nat) (r : RingSt) : (s.setRing n r).hst = s.hst := rfl
@[simp] theorem State.setRing_board (s : State) (n : Nat) (r : RingSt) : (s.setRing n r).board = s.board := rfl
@[simp] theorem State.setRing_dsp (s : State) (n : Nat) (r : RingSt) : (s.setRing n r).dsp = s.dsp := rfl
@[simp] theorem State.setRing_epo (s : State) (n : Nat) (r : RingSt) : (s.setRing n r).epo = s.epo := rfl
@[simp] theorem State.setRing_ldr (s : State) (n : Nat) (r : RingSt) : (s.setRing n r).ldr = s.ldr := rfl
@[simp] theorem State.setRing_trk (s : State) (n : Nat) (r : RingSt) : (s.setRing n r).trk = s.trk := rfl
@[simp] theorem State.setRing_gov (s : State) (n : Nat) (r : RingSt) : (s.setRing n r).gov = s.gov := rfl
@[simp] theorem State.setRing_zyp (s : State) (n : Nat) (r : RingSt) : (s.setRing n r).zyp = s.zyp := rfl
@[simp] theorem State.setRing_vlt (s : State) (n : Nat) (r : RingSt) : (s.setRing n r).vlt = s.vlt := rfl
@[simp] theorem State.setRing_rng (s : State) (n : Nat) (r : RingSt) : (s.setRing n r).rng = s.rng := rfl
@[simp] theorem State.setRing_cor (s : State) (n : Nat) (r : RingSt) : (s.setRing n r).cor = s.cor := rfl
@[simp] theorem State.setRing_cre (s : State) (n : Nat) (r : RingSt) : (s.setRing n r).cre = s.cre := rfl
@[simp] theorem State.setRing_nvm (s : State) (n : Nat) (r : RingSt) : (s.setRing n r).nvm = s.nvm := rfl
@[simp] theorem State.setRing_twn (s : State) (n : Nat) (r : RingSt) : (s.setRing n r).twn = s.twn := rfl
@[simp] theorem State.setRing_upd (s : State) (n : Nat) (r : RingSt) : (s.setRing n r).upd = s.upd := rfl
@[simp] theorem State.setRing_drm (s : State) (n : Nat) (r : RingSt) : (s.setRing n r).drm = s.drm := rfl
@[simp] theorem State.setRing_tly (s : State) (n : Nat) (r : RingSt) : (s.setRing n r).tly = s.tly := rfl

/-! ## What `setPending` leaves -/

@[simp] theorem State.setPending_pending (s : State) (r : Fld) : (s.setPending r).pending = s.pending := rfl
@[simp] theorem State.setPending_ctr (s : State) (r : Fld) : (s.setPending r).ctr = s.ctr := rfl
@[simp] theorem State.setPending_shd (s : State) (r : Fld) : (s.setPending r).shd = s.shd := rfl
@[simp] theorem State.setPending_evq (s : State) (r : Fld) : (s.setPending r).evq = s.evq := rfl
@[simp] theorem State.setPending_mode (s : State) (r : Fld) : (s.setPending r).mode = s.mode := rfl
@[simp] theorem State.setPending_prev (s : State) (r : Fld) : (s.setPending r).prev = s.prev := rfl
@[simp] theorem State.setPending_pwr (s : State) (r : Fld) : (s.setPending r).pwr = s.pwr := rfl
@[simp] theorem State.setPending_hre (s : State) (r : Fld) : (s.setPending r).hre = s.hre := rfl
@[simp] theorem State.setPending_chu (s : State) (r : Fld) : (s.setPending r).chu = s.chu := rfl
@[simp] theorem State.setPending_trp (s : State) (r : Fld) : (s.setPending r).trp = s.trp := rfl
@[simp] theorem State.setPending_tim (s : State) (r : Fld) : (s.setPending r).tim = s.tim := rfl
@[simp] theorem State.setPending_mem (s : State) (r : Fld) : (s.setPending r).mem = s.mem := rfl
@[simp] theorem State.setPending_ticks (s : State) (r : Fld) : (s.setPending r).ticks = s.ticks := rfl
@[simp] theorem State.setPending_hst (s : State) (r : Fld) : (s.setPending r).hst = s.hst := rfl
@[simp] theorem State.setPending_board (s : State) (r : Fld) : (s.setPending r).board = s.board := rfl
@[simp] theorem State.setPending_dsp (s : State) (r : Fld) : (s.setPending r).dsp = s.dsp := rfl
@[simp] theorem State.setPending_epo (s : State) (r : Fld) : (s.setPending r).epo = s.epo := rfl
@[simp] theorem State.setPending_ldr (s : State) (r : Fld) : (s.setPending r).ldr = s.ldr := rfl
@[simp] theorem State.setPending_trk (s : State) (r : Fld) : (s.setPending r).trk = s.trk := rfl
@[simp] theorem State.setPending_gov (s : State) (r : Fld) : (s.setPending r).gov = s.gov := rfl
@[simp] theorem State.setPending_zyp (s : State) (r : Fld) : (s.setPending r).zyp = s.zyp := rfl
@[simp] theorem State.setPending_vlt (s : State) (r : Fld) : (s.setPending r).vlt = s.vlt := rfl
@[simp] theorem State.setPending_rng (s : State) (r : Fld) : (s.setPending r).rng = s.rng := rfl
@[simp] theorem State.setPending_cor (s : State) (r : Fld) : (s.setPending r).cor = s.cor := rfl
@[simp] theorem State.setPending_cre (s : State) (r : Fld) : (s.setPending r).cre = s.cre := rfl
@[simp] theorem State.setPending_nvm (s : State) (r : Fld) : (s.setPending r).nvm = s.nvm := rfl
@[simp] theorem State.setPending_twn (s : State) (r : Fld) : (s.setPending r).twn = s.twn := rfl
@[simp] theorem State.setPending_upd (s : State) (r : Fld) : (s.setPending r).upd = s.upd := rfl
@[simp] theorem State.setPending_drm (s : State) (r : Fld) : (s.setPending r).drm = s.drm := rfl
@[simp] theorem State.setPending_tly (s : State) (r : Fld) : (s.setPending r).tly = s.tly := rfl

/-! ## Chutes, vectors and rings -/

@[simp] theorem Chute.tested_pkts (c : Chute) : c.tested.pkts = c.pkts := rfl
@[simp] theorem Chute.tested_opened (c : Chute) : c.tested.opened = c.opened := rfl
@[simp] theorem Chute.tested_reading (c : Chute) : c.tested.reading = c.reading := rfl
@[simp] theorem Chute.tested_status (c : Chute) : c.tested.status = c.status := rfl
@[simp] theorem Chute.tested_readSt (c : Chute) : c.tested.readSt = c.readSt := rfl
@[simp] theorem Chute.tested_given (c : Chute) : c.tested.given = c.given := rfl
@[simp] theorem Chute.tested_returned (c : Chute) : c.tested.returned = c.returned := rfl

/-- A chute is what it was set to, its waiting latches tested. -/
@[simp] theorem State.chute_setChute_same (s : State) (n : Nat) (c : Chute) : (s.setChute n c).chute n = c.tested := by
  simp [State.chute, State.setChute]

theorem State.chute_setChute_ne {n m : Nat} (h : m ≠ n) (s : State) (c : Chute) : (s.setChute n c).chute m = s.chute m := by
  simp [State.chute, State.setChute, AMap.get_set_ne h]

@[simp] theorem State.vec_setVec_same (s : State) (n : Nat) (x : VecSt) : (s.setVec n x).vec n = x := by
  simp [State.vec, State.setVec]

@[simp] theorem State.ring_setRing_same (s : State) (n : Nat) (r : RingSt) : (s.setRing n r).ring n = r := by
  simp [State.ring, State.setRing]

theorem State.ring_setRing_ne {n m : Nat} (h : m ≠ n) (s : State) (r : RingSt) : (s.setRing n r).ring m = s.ring m := by
  simp [State.ring, State.setRing, AMap.get_set_ne h]

end Sys2Proof.Machine
end

