-- ==== Sys2Proof/Laws/Unseen.lean ====
section
/-! SUPPORT. Observations that do not see some parts of the state, and how each shared operation leaves them: the calculus behind
the statements of what a command leaves unchanged. Parts are numbered: 0 to 31 the fields of State in their order, and 40 + k the
registers of block k. -/

set_option linter.all false

namespace Sys2Proof.Machine

/-- Observation π does not see part k. -/
def UnseenPart {β : Type} (π : State → β) (k : Nat) : Prop :=
  if 40 ≤ k then ∀ (s : State) (f : Fld) (v : Nat), 40 + f.blk = k → π (s.wr f v) = π s
  else match k with
  | 0 => ∀ (s : State) (x : List Instr), π { s with pending := x } = π s
  | 1 => ∀ (s : State) (x : Nat), π { s with ctr := x } = π s
  | 2 => ∀ (s : State) (x : Regs), π { s with fld := x } = π s
  | 3 => ∀ (s : State) (x : Regs), π { s with shd := x } = π s
  | 4 => ∀ (s : State) (x : List Nat), π { s with cmt := x } = π s
  | 5 => ∀ (s : State) (x : List BlockEvent), π { s with evq := x } = π s
  | 6 => ∀ (s : State) (x : Mode), π { s with mode := x } = π s
  | 7 => ∀ (s : State) (x : Mode), π { s with prev := x } = π s
  | 8 => ∀ (s : State) (x : Power), π { s with pwr := x } = π s
  | 9 => ∀ (s : State) (x : Hre), π { s with hre := x } = π s
  | 10 => ∀ (s : State) (x : AMap Chute), π { s with chu := x } = π s
  | 11 => ∀ (s : State) (x : Trap), π { s with trp := x } = π s
  | 12 => ∀ (s : State) (x : Tim), π { s with tim := x } = π s
  | 13 => ∀ (s : State) (x : Memory), π { s with mem := x } = π s
  | 14 => ∀ (s : State) (x : AMap Nat), π { s with ticks := x } = π s
  | 15 => ∀ (s : State) (x : AMap Chan), π { s with hst := x } = π s
  | 16 => ∀ (s : State) (x : Board), π { s with board := x } = π s
  | 17 => ∀ (s : State) (x : Dsp), π { s with dsp := x } = π s
  | 18 => ∀ (s : State) (x : Epo), π { s with epo := x } = π s
  | 19 => ∀ (s : State) (x : Ldr), π { s with ldr := x } = π s
  | 20 => ∀ (s : State) (x : Trk), π { s with trk := x } = π s
  | 21 => ∀ (s : State) (x : Gov), π { s with gov := x } = π s
  | 22 => ∀ (s : State) (x : Zyp), π { s with zyp := x } = π s
  | 23 => ∀ (s : State) (x : Vlt), π { s with vlt := x } = π s
  | 24 => ∀ (s : State) (x : Rng), π { s with rng := x } = π s
  | 25 => ∀ (s : State) (x : Cor), π { s with cor := x } = π s
  | 26 => ∀ (s : State) (x : Cre), π { s with cre := x } = π s
  | 27 => ∀ (s : State) (x : Nvm), π { s with nvm := x } = π s
  | 28 => ∀ (s : State) (x : Twn), π { s with twn := x } = π s
  | 29 => ∀ (s : State) (x : Upd), π { s with upd := x } = π s
  | 30 => ∀ (s : State) (x : Drm), π { s with drm := x } = π s
  | 31 => ∀ (s : State) (x : Tly), π { s with tly := x } = π s
  | _ => True

/-- Observation π sees none of the parts in mask m. -/
def Unseen {β : Type} (m : Nat) (π : State → β) : Prop := ∀ k, m.testBit k = true → UnseenPart π k

variable {β : Type} {m : Nat} {π : State → β}

theorem Unseen.mono (h : Unseen m π) {a : Nat} (b : a &&& m = a) : Unseen a π := by
  intro k hk
  refine h k ?_
  rw [← b, Nat.testBit_and] at hk
  simpa using (Bool.and_eq_true_iff.mp hk).2

theorem Unseen.wr (h : Unseen m π) {f : Fld} (b : m.testBit (40 + f.blk) = true) (s : State) (v : Nat) : π (s.wr f v) = π s := by
  have := h _ b
  unfold UnseenPart at this
  rw [if_pos (Nat.le_add_right _ _)] at this
  exact this s f v rfl

theorem Unseen.ite {c : Prop} [Decidable c] {a b : State} {x : β} (ha : π a = x) (hb : π b = x) : π (if c then a else b) = x := by
  split <;> assumption

theorem Unseen.foldl {α : Type} (f : State → α → State) (h : ∀ a x, π (f a x) = π a) (l : List α) (s : State) : π (l.foldl f s) = π s := by
  induction l generalizing s with
  | nil => rfl
  | cons x t ih => rw [List.foldl_cons, ih, h]

theorem Unseen.pending (h : Unseen m π) (b : m.testBit 0 = true) (s : State) (x : List Instr) : π { s with pending := x } = π s := h 0 b s x
theorem Unseen.ctr (h : Unseen m π) (b : m.testBit 1 = true) (s : State) (x : Nat) : π { s with ctr := x } = π s := h 1 b s x
theorem Unseen.fld (h : Unseen m π) (b : m.testBit 2 = true) (s : State) (x : Regs) : π { s with fld := x } = π s := h 2 b s x
theorem Unseen.shd (h : Unseen m π) (b : m.testBit 3 = true) (s : State) (x : Regs) : π { s with shd := x } = π s := h 3 b s x
theorem Unseen.cmt (h : Unseen m π) (b : m.testBit 4 = true) (s : State) (x : List Nat) : π { s with cmt := x } = π s := h 4 b s x
theorem Unseen.evq (h : Unseen m π) (b : m.testBit 5 = true) (s : State) (x : List BlockEvent) : π { s with evq := x } = π s := h 5 b s x
theorem Unseen.mode (h : Unseen m π) (b : m.testBit 6 = true) (s : State) (x : Mode) : π { s with mode := x } = π s := h 6 b s x
theorem Unseen.prev (h : Unseen m π) (b : m.testBit 7 = true) (s : State) (x : Mode) : π { s with prev := x } = π s := h 7 b s x
theorem Unseen.pwr (h : Unseen m π) (b : m.testBit 8 = true) (s : State) (x : Power) : π { s with pwr := x } = π s := h 8 b s x
theorem Unseen.hre (h : Unseen m π) (b : m.testBit 9 = true) (s : State) (x : Hre) : π { s with hre := x } = π s := h 9 b s x
theorem Unseen.chu (h : Unseen m π) (b : m.testBit 10 = true) (s : State) (x : AMap Chute) : π { s with chu := x } = π s := h 10 b s x
theorem Unseen.trp (h : Unseen m π) (b : m.testBit 11 = true) (s : State) (x : Trap) : π { s with trp := x } = π s := h 11 b s x
theorem Unseen.tim (h : Unseen m π) (b : m.testBit 12 = true) (s : State) (x : Tim) : π { s with tim := x } = π s := h 12 b s x
theorem Unseen.mem (h : Unseen m π) (b : m.testBit 13 = true) (s : State) (x : Memory) : π { s with mem := x } = π s := h 13 b s x
theorem Unseen.ticks (h : Unseen m π) (b : m.testBit 14 = true) (s : State) (x : AMap Nat) : π { s with ticks := x } = π s := h 14 b s x
theorem Unseen.hst (h : Unseen m π) (b : m.testBit 15 = true) (s : State) (x : AMap Chan) : π { s with hst := x } = π s := h 15 b s x
theorem Unseen.board (h : Unseen m π) (b : m.testBit 16 = true) (s : State) (x : Board) : π { s with board := x } = π s := h 16 b s x
theorem Unseen.dsp (h : Unseen m π) (b : m.testBit 17 = true) (s : State) (x : Dsp) : π { s with dsp := x } = π s := h 17 b s x
theorem Unseen.epo (h : Unseen m π) (b : m.testBit 18 = true) (s : State) (x : Epo) : π { s with epo := x } = π s := h 18 b s x
theorem Unseen.ldr (h : Unseen m π) (b : m.testBit 19 = true) (s : State) (x : Ldr) : π { s with ldr := x } = π s := h 19 b s x
theorem Unseen.trk (h : Unseen m π) (b : m.testBit 20 = true) (s : State) (x : Trk) : π { s with trk := x } = π s := h 20 b s x
theorem Unseen.gov (h : Unseen m π) (b : m.testBit 21 = true) (s : State) (x : Gov) : π { s with gov := x } = π s := h 21 b s x
theorem Unseen.zyp (h : Unseen m π) (b : m.testBit 22 = true) (s : State) (x : Zyp) : π { s with zyp := x } = π s := h 22 b s x
theorem Unseen.vlt (h : Unseen m π) (b : m.testBit 23 = true) (s : State) (x : Vlt) : π { s with vlt := x } = π s := h 23 b s x
theorem Unseen.rng (h : Unseen m π) (b : m.testBit 24 = true) (s : State) (x : Rng) : π { s with rng := x } = π s := h 24 b s x
theorem Unseen.cor (h : Unseen m π) (b : m.testBit 25 = true) (s : State) (x : Cor) : π { s with cor := x } = π s := h 25 b s x
theorem Unseen.cre (h : Unseen m π) (b : m.testBit 26 = true) (s : State) (x : Cre) : π { s with cre := x } = π s := h 26 b s x
theorem Unseen.nvm (h : Unseen m π) (b : m.testBit 27 = true) (s : State) (x : Nvm) : π { s with nvm := x } = π s := h 27 b s x
theorem Unseen.twn (h : Unseen m π) (b : m.testBit 28 = true) (s : State) (x : Twn) : π { s with twn := x } = π s := h 28 b s x
theorem Unseen.upd (h : Unseen m π) (b : m.testBit 29 = true) (s : State) (x : Upd) : π { s with upd := x } = π s := h 29 b s x
theorem Unseen.drm (h : Unseen m π) (b : m.testBit 30 = true) (s : State) (x : Drm) : π { s with drm := x } = π s := h 30 b s x
theorem Unseen.tly (h : Unseen m π) (b : m.testBit 31 = true) (s : State) (x : Tly) : π { s with tly := x } = π s := h 31 b s x

theorem Unseen.ctr_mem (h : Unseen m π) (b0 : m.testBit 1 = true) (b1 : m.testBit 13 = true) (s : State) (x0 : Nat) (x1 : Memory) :
    π { s with ctr := x0, mem := x1 } = π s := (h.mem b1 { s with ctr := x0 } x1).trans ((h.ctr b0 s x0))
theorem Unseen.ctr_rng (h : Unseen m π) (b0 : m.testBit 1 = true) (b1 : m.testBit 24 = true) (s : State) (x0 : Nat) (x1 : Rng) :
    π { s with ctr := x0, rng := x1 } = π s := (h.rng b1 { s with ctr := x0 } x1).trans ((h.ctr b0 s x0))
theorem Unseen.fld_shd (h : Unseen m π) (b0 : m.testBit 2 = true) (b1 : m.testBit 3 = true) (s : State) (x0 : Regs) (x1 : Regs) :
    π { s with fld := x0, shd := x1 } = π s := (h.shd b1 { s with fld := x0 } x1).trans ((h.fld b0 s x0))
theorem Unseen.fld_shd_cmt (h : Unseen m π) (b0 : m.testBit 2 = true) (b1 : m.testBit 3 = true) (b2 : m.testBit 4 = true) (s : State) (x0 : Regs) (x1 : Regs) (x2 : List Nat) :
    π { s with fld := x0, shd := x1, cmt := x2 } = π s := (h.cmt b2 { s with fld := x0, shd := x1 } x2).trans ((h.shd b1 { s with fld := x0 } x1).trans ((h.fld b0 s x0)))
theorem Unseen.fld_shd_cmt_evq_mode_pwr_hre_chu_trp_tim_mem_ticks_hst_dsp_epo_ldr_trk_gov_zyp_vlt_rng_cor_cre_twn_upd_tly (h : Unseen m π) (b0 : m.testBit 2 = true) (b1 : m.testBit 3 = true) (b2 : m.testBit 4 = true) (b3 : m.testBit 5 = true) (b4 : m.testBit 6 = true) (b5 : m.testBit 8 = true) (b6 : m.testBit 9 = true) (b7 : m.testBit 10 = true) (b8 : m.testBit 11 = true) (b9 : m.testBit 12 = true) (b10 : m.testBit 13 = true) (b11 : m.testBit 14 = true) (b12 : m.testBit 15 = true) (b13 : m.testBit 17 = true) (b14 : m.testBit 18 = true) (b15 : m.testBit 19 = true) (b16 : m.testBit 20 = true) (b17 : m.testBit 21 = true) (b18 : m.testBit 22 = true) (b19 : m.testBit 23 = true) (b20 : m.testBit 24 = true) (b21 : m.testBit 25 = true) (b22 : m.testBit 26 = true) (b23 : m.testBit 28 = true) (b24 : m.testBit 29 = true) (b25 : m.testBit 31 = true) (s : State) (x0 : Regs) (x1 : Regs) (x2 : List Nat) (x3 : List BlockEvent) (x4 : Mode) (x5 : Power) (x6 : Hre) (x7 : AMap Chute) (x8 : Trap) (x9 : Tim) (x10 : Memory) (x11 : AMap Nat) (x12 : AMap Chan) (x13 : Dsp) (x14 : Epo) (x15 : Ldr) (x16 : Trk) (x17 : Gov) (x18 : Zyp) (x19 : Vlt) (x20 : Rng) (x21 : Cor) (x22 : Cre) (x23 : Twn) (x24 : Upd) (x25 : Tly) :
    π { s with fld := x0, shd := x1, cmt := x2, evq := x3, mode := x4, pwr := x5, hre := x6, chu := x7, trp := x8, tim := x9, mem := x10, ticks := x11, hst := x12, dsp := x13, epo := x14, ldr := x15, trk := x16, gov := x17, zyp := x18, vlt := x19, rng := x20, cor := x21, cre := x22, twn := x23, upd := x24, tly := x25 } = π s := (h.tly b25 { s with fld := x0, shd := x1, cmt := x2, evq := x3, mode := x4, pwr := x5, hre := x6, chu := x7, trp := x8, tim := x9, mem := x10, ticks := x11, hst := x12, dsp := x13, epo := x14, ldr := x15, trk := x16, gov := x17, zyp := x18, vlt := x19, rng := x20, cor := x21, cre := x22, twn := x23, upd := x24 } x25).trans ((h.upd b24 { s with fld := x0, shd := x1, cmt := x2, evq := x3, mode := x4, pwr := x5, hre := x6, chu := x7, trp := x8, tim := x9, mem := x10, ticks := x11, hst := x12, dsp := x13, epo := x14, ldr := x15, trk := x16, gov := x17, zyp := x18, vlt := x19, rng := x20, cor := x21, cre := x22, twn := x23 } x24).trans ((h.twn b23 { s with fld := x0, shd := x1, cmt := x2, evq := x3, mode := x4, pwr := x5, hre := x6, chu := x7, trp := x8, tim := x9, mem := x10, ticks := x11, hst := x12, dsp := x13, epo := x14, ldr := x15, trk := x16, gov := x17, zyp := x18, vlt := x19, rng := x20, cor := x21, cre := x22 } x23).trans ((h.cre b22 { s with fld := x0, shd := x1, cmt := x2, evq := x3, mode := x4, pwr := x5, hre := x6, chu := x7, trp := x8, tim := x9, mem := x10, ticks := x11, hst := x12, dsp := x13, epo := x14, ldr := x15, trk := x16, gov := x17, zyp := x18, vlt := x19, rng := x20, cor := x21 } x22).trans ((h.cor b21 { s with fld := x0, shd := x1, cmt := x2, evq := x3, mode := x4, pwr := x5, hre := x6, chu := x7, trp := x8, tim := x9, mem := x10, ticks := x11, hst := x12, dsp := x13, epo := x14, ldr := x15, trk := x16, gov := x17, zyp := x18, vlt := x19, rng := x20 } x21).trans ((h.rng b20 { s with fld := x0, shd := x1, cmt := x2, evq := x3, mode := x4, pwr := x5, hre := x6, chu := x7, trp := x8, tim := x9, mem := x10, ticks := x11, hst := x12, dsp := x13, epo := x14, ldr := x15, trk := x16, gov := x17, zyp := x18, vlt := x19 } x20).trans ((h.vlt b19 { s with fld := x0, shd := x1, cmt := x2, evq := x3, mode := x4, pwr := x5, hre := x6, chu := x7, trp := x8, tim := x9, mem := x10, ticks := x11, hst := x12, dsp := x13, epo := x14, ldr := x15, trk := x16, gov := x17, zyp := x18 } x19).trans ((h.zyp b18 { s with fld := x0, shd := x1, cmt := x2, evq := x3, mode := x4, pwr := x5, hre := x6, chu := x7, trp := x8, tim := x9, mem := x10, ticks := x11, hst := x12, dsp := x13, epo := x14, ldr := x15, trk := x16, gov := x17 } x18).trans ((h.gov b17 { s with fld := x0, shd := x1, cmt := x2, evq := x3, mode := x4, pwr := x5, hre := x6, chu := x7, trp := x8, tim := x9, mem := x10, ticks := x11, hst := x12, dsp := x13, epo := x14, ldr := x15, trk := x16 } x17).trans ((h.trk b16 { s with fld := x0, shd := x1, cmt := x2, evq := x3, mode := x4, pwr := x5, hre := x6, chu := x7, trp := x8, tim := x9, mem := x10, ticks := x11, hst := x12, dsp := x13, epo := x14, ldr := x15 } x16).trans ((h.ldr b15 { s with fld := x0, shd := x1, cmt := x2, evq := x3, mode := x4, pwr := x5, hre := x6, chu := x7, trp := x8, tim := x9, mem := x10, ticks := x11, hst := x12, dsp := x13, epo := x14 } x15).trans ((h.epo b14 { s with fld := x0, shd := x1, cmt := x2, evq := x3, mode := x4, pwr := x5, hre := x6, chu := x7, trp := x8, tim := x9, mem := x10, ticks := x11, hst := x12, dsp := x13 } x14).trans ((h.dsp b13 { s with fld := x0, shd := x1, cmt := x2, evq := x3, mode := x4, pwr := x5, hre := x6, chu := x7, trp := x8, tim := x9, mem := x10, ticks := x11, hst := x12 } x13).trans ((h.hst b12 { s with fld := x0, shd := x1, cmt := x2, evq := x3, mode := x4, pwr := x5, hre := x6, chu := x7, trp := x8, tim := x9, mem := x10, ticks := x11 } x12).trans ((h.ticks b11 { s with fld := x0, shd := x1, cmt := x2, evq := x3, mode := x4, pwr := x5, hre := x6, chu := x7, trp := x8, tim := x9, mem := x10 } x11).trans ((h.mem b10 { s with fld := x0, shd := x1, cmt := x2, evq := x3, mode := x4, pwr := x5, hre := x6, chu := x7, trp := x8, tim := x9 } x10).trans ((h.tim b9 { s with fld := x0, shd := x1, cmt := x2, evq := x3, mode := x4, pwr := x5, hre := x6, chu := x7, trp := x8 } x9).trans ((h.trp b8 { s with fld := x0, shd := x1, cmt := x2, evq := x3, mode := x4, pwr := x5, hre := x6, chu := x7 } x8).trans ((h.chu b7 { s with fld := x0, shd := x1, cmt := x2, evq := x3, mode := x4, pwr := x5, hre := x6 } x7).trans ((h.hre b6 { s with fld := x0, shd := x1, cmt := x2, evq := x3, mode := x4, pwr := x5 } x6).trans ((h.pwr b5 { s with fld := x0, shd := x1, cmt := x2, evq := x3, mode := x4 } x5).trans ((h.mode b4 { s with fld := x0, shd := x1, cmt := x2, evq := x3 } x4).trans ((h.evq b3 { s with fld := x0, shd := x1, cmt := x2 } x3).trans ((h.cmt b2 { s with fld := x0, shd := x1 } x2).trans ((h.shd b1 { s with fld := x0 } x1).trans ((h.fld b0 s x0))))))))))))))))))))))))))
theorem Unseen.fld_shd_cmt_pwr_trp_drm_tly (h : Unseen m π) (b0 : m.testBit 2 = true) (b1 : m.testBit 3 = true) (b2 : m.testBit 4 = true) (b3 : m.testBit 8 = true) (b4 : m.testBit 11 = true) (b5 : m.testBit 30 = true) (b6 : m.testBit 31 = true) (s : State) (x0 : Regs) (x1 : Regs) (x2 : List Nat) (x3 : Power) (x4 : Trap) (x5 : Drm) (x6 : Tly) :
    π { s with fld := x0, shd := x1, cmt := x2, pwr := x3, trp := x4, drm := x5, tly := x6 } = π s := (h.tly b6 { s with fld := x0, shd := x1, cmt := x2, pwr := x3, trp := x4, drm := x5 } x6).trans ((h.drm b5 { s with fld := x0, shd := x1, cmt := x2, pwr := x3, trp := x4 } x5).trans ((h.trp b4 { s with fld := x0, shd := x1, cmt := x2, pwr := x3 } x4).trans ((h.pwr b3 { s with fld := x0, shd := x1, cmt := x2 } x3).trans ((h.cmt b2 { s with fld := x0, shd := x1 } x2).trans ((h.shd b1 { s with fld := x0 } x1).trans ((h.fld b0 s x0)))))))
theorem Unseen.fld_shd_cmt_hre (h : Unseen m π) (b0 : m.testBit 2 = true) (b1 : m.testBit 3 = true) (b2 : m.testBit 4 = true) (b3 : m.testBit 9 = true) (s : State) (x0 : Regs) (x1 : Regs) (x2 : List Nat) (x3 : Hre) :
    π { s with fld := x0, shd := x1, cmt := x2, hre := x3 } = π s := (h.hre b3 { s with fld := x0, shd := x1, cmt := x2 } x3).trans ((h.cmt b2 { s with fld := x0, shd := x1 } x2).trans ((h.shd b1 { s with fld := x0 } x1).trans ((h.fld b0 s x0))))
theorem Unseen.fld_shd_mode_prev_pwr_trp_tim (h : Unseen m π) (b0 : m.testBit 2 = true) (b1 : m.testBit 3 = true) (b2 : m.testBit 6 = true) (b3 : m.testBit 7 = true) (b4 : m.testBit 8 = true) (b5 : m.testBit 11 = true) (b6 : m.testBit 12 = true) (s : State) (x0 : Regs) (x1 : Regs) (x2 : Mode) (x3 : Mode) (x4 : Power) (x5 : Trap) (x6 : Tim) :
    π { s with fld := x0, shd := x1, mode := x2, prev := x3, pwr := x4, trp := x5, tim := x6 } = π s := (h.tim b6 { s with fld := x0, shd := x1, mode := x2, prev := x3, pwr := x4, trp := x5 } x6).trans ((h.trp b5 { s with fld := x0, shd := x1, mode := x2, prev := x3, pwr := x4 } x5).trans ((h.pwr b4 { s with fld := x0, shd := x1, mode := x2, prev := x3 } x4).trans ((h.prev b3 { s with fld := x0, shd := x1, mode := x2 } x3).trans ((h.mode b2 { s with fld := x0, shd := x1 } x2).trans ((h.shd b1 { s with fld := x0 } x1).trans ((h.fld b0 s x0)))))))
theorem Unseen.fld_shd_hre (h : Unseen m π) (b0 : m.testBit 2 = true) (b1 : m.testBit 3 = true) (b2 : m.testBit 9 = true) (s : State) (x0 : Regs) (x1 : Regs) (x2 : Hre) :
    π { s with fld := x0, shd := x1, hre := x2 } = π s := (h.hre b2 { s with fld := x0, shd := x1 } x2).trans ((h.shd b1 { s with fld := x0 } x1).trans ((h.fld b0 s x0)))
theorem Unseen.fld_cmt (h : Unseen m π) (b0 : m.testBit 2 = true) (b1 : m.testBit 4 = true) (s : State) (x0 : Regs) (x1 : List Nat) :
    π { s with fld := x0, cmt := x1 } = π s := (h.cmt b1 { s with fld := x0 } x1).trans ((h.fld b0 s x0))
theorem Unseen.fld_cmt_hre (h : Unseen m π) (b0 : m.testBit 2 = true) (b1 : m.testBit 4 = true) (b2 : m.testBit 9 = true) (s : State) (x0 : Regs) (x1 : List Nat) (x2 : Hre) :
    π { s with fld := x0, cmt := x1, hre := x2 } = π s := (h.hre b2 { s with fld := x0, cmt := x1 } x2).trans ((h.cmt b1 { s with fld := x0 } x1).trans ((h.fld b0 s x0)))
theorem Unseen.fld_hre (h : Unseen m π) (b0 : m.testBit 2 = true) (b1 : m.testBit 9 = true) (s : State) (x0 : Regs) (x1 : Hre) :
    π { s with fld := x0, hre := x1 } = π s := (h.hre b1 { s with fld := x0 } x1).trans ((h.fld b0 s x0))
theorem Unseen.shd_cmt (h : Unseen m π) (b0 : m.testBit 3 = true) (b1 : m.testBit 4 = true) (s : State) (x0 : Regs) (x1 : List Nat) :
    π { s with shd := x0, cmt := x1 } = π s := (h.cmt b1 { s with shd := x0 } x1).trans ((h.shd b0 s x0))
theorem Unseen.shd_cmt_hre (h : Unseen m π) (b0 : m.testBit 3 = true) (b1 : m.testBit 4 = true) (b2 : m.testBit 9 = true) (s : State) (x0 : Regs) (x1 : List Nat) (x2 : Hre) :
    π { s with shd := x0, cmt := x1, hre := x2 } = π s := (h.hre b2 { s with shd := x0, cmt := x1 } x2).trans ((h.cmt b1 { s with shd := x0 } x1).trans ((h.shd b0 s x0)))
theorem Unseen.shd_hre (h : Unseen m π) (b0 : m.testBit 3 = true) (b1 : m.testBit 9 = true) (s : State) (x0 : Regs) (x1 : Hre) :
    π { s with shd := x0, hre := x1 } = π s := (h.hre b1 { s with shd := x0 } x1).trans ((h.shd b0 s x0))
theorem Unseen.cmt_hre (h : Unseen m π) (b0 : m.testBit 4 = true) (b1 : m.testBit 9 = true) (s : State) (x0 : List Nat) (x1 : Hre) :
    π { s with cmt := x0, hre := x1 } = π s := (h.hre b1 { s with cmt := x0 } x1).trans ((h.cmt b0 s x0))
theorem Unseen.cmt_trk (h : Unseen m π) (b0 : m.testBit 4 = true) (b1 : m.testBit 20 = true) (s : State) (x0 : List Nat) (x1 : Trk) :
    π { s with cmt := x0, trk := x1 } = π s := (h.trk b1 { s with cmt := x0 } x1).trans ((h.cmt b0 s x0))
theorem Unseen.cmt_gov (h : Unseen m π) (b0 : m.testBit 4 = true) (b1 : m.testBit 21 = true) (s : State) (x0 : List Nat) (x1 : Gov) :
    π { s with cmt := x0, gov := x1 } = π s := (h.gov b1 { s with cmt := x0 } x1).trans ((h.cmt b0 s x0))
theorem Unseen.mode_prev (h : Unseen m π) (b0 : m.testBit 6 = true) (b1 : m.testBit 7 = true) (s : State) (x0 : Mode) (x1 : Mode) :
    π { s with mode := x0, prev := x1 } = π s := (h.prev b1 { s with mode := x0 } x1).trans ((h.mode b0 s x0))
theorem Unseen.mode_prev_pwr (h : Unseen m π) (b0 : m.testBit 6 = true) (b1 : m.testBit 7 = true) (b2 : m.testBit 8 = true) (s : State) (x0 : Mode) (x1 : Mode) (x2 : Power) :
    π { s with mode := x0, prev := x1, pwr := x2 } = π s := (h.pwr b2 { s with mode := x0, prev := x1 } x2).trans ((h.prev b1 { s with mode := x0 } x1).trans ((h.mode b0 s x0)))
theorem Unseen.mode_pwr (h : Unseen m π) (b0 : m.testBit 6 = true) (b1 : m.testBit 8 = true) (s : State) (x0 : Mode) (x1 : Power) :
    π { s with mode := x0, pwr := x1 } = π s := (h.pwr b1 { s with mode := x0 } x1).trans ((h.mode b0 s x0))
theorem Unseen.prev_pwr (h : Unseen m π) (b0 : m.testBit 7 = true) (b1 : m.testBit 8 = true) (s : State) (x0 : Mode) (x1 : Power) :
    π { s with prev := x0, pwr := x1 } = π s := (h.pwr b1 { s with prev := x0 } x1).trans ((h.prev b0 s x0))
theorem Unseen.pwr_hre (h : Unseen m π) (b0 : m.testBit 8 = true) (b1 : m.testBit 9 = true) (s : State) (x0 : Power) (x1 : Hre) :
    π { s with pwr := x0, hre := x1 } = π s := (h.hre b1 { s with pwr := x0 } x1).trans ((h.pwr b0 s x0))
theorem Unseen.pwr_hre_dsp (h : Unseen m π) (b0 : m.testBit 8 = true) (b1 : m.testBit 9 = true) (b2 : m.testBit 17 = true) (s : State) (x0 : Power) (x1 : Hre) (x2 : Dsp) :
    π { s with pwr := x0, hre := x1, dsp := x2 } = π s := (h.dsp b2 { s with pwr := x0, hre := x1 } x2).trans ((h.hre b1 { s with pwr := x0 } x1).trans ((h.pwr b0 s x0)))
theorem Unseen.pwr_hre_dsp_tly (h : Unseen m π) (b0 : m.testBit 8 = true) (b1 : m.testBit 9 = true) (b2 : m.testBit 17 = true) (b3 : m.testBit 31 = true) (s : State) (x0 : Power) (x1 : Hre) (x2 : Dsp) (x3 : Tly) :
    π { s with pwr := x0, hre := x1, dsp := x2, tly := x3 } = π s := (h.tly b3 { s with pwr := x0, hre := x1, dsp := x2 } x3).trans ((h.dsp b2 { s with pwr := x0, hre := x1 } x2).trans ((h.hre b1 { s with pwr := x0 } x1).trans ((h.pwr b0 s x0))))
theorem Unseen.pwr_hre_tly (h : Unseen m π) (b0 : m.testBit 8 = true) (b1 : m.testBit 9 = true) (b2 : m.testBit 31 = true) (s : State) (x0 : Power) (x1 : Hre) (x2 : Tly) :
    π { s with pwr := x0, hre := x1, tly := x2 } = π s := (h.tly b2 { s with pwr := x0, hre := x1 } x2).trans ((h.hre b1 { s with pwr := x0 } x1).trans ((h.pwr b0 s x0)))
theorem Unseen.pwr_dsp (h : Unseen m π) (b0 : m.testBit 8 = true) (b1 : m.testBit 17 = true) (s : State) (x0 : Power) (x1 : Dsp) :
    π { s with pwr := x0, dsp := x1 } = π s := (h.dsp b1 { s with pwr := x0 } x1).trans ((h.pwr b0 s x0))
theorem Unseen.pwr_dsp_tly (h : Unseen m π) (b0 : m.testBit 8 = true) (b1 : m.testBit 17 = true) (b2 : m.testBit 31 = true) (s : State) (x0 : Power) (x1 : Dsp) (x2 : Tly) :
    π { s with pwr := x0, dsp := x1, tly := x2 } = π s := (h.tly b2 { s with pwr := x0, dsp := x1 } x2).trans ((h.dsp b1 { s with pwr := x0 } x1).trans ((h.pwr b0 s x0)))
theorem Unseen.pwr_zyp (h : Unseen m π) (b0 : m.testBit 8 = true) (b1 : m.testBit 22 = true) (s : State) (x0 : Power) (x1 : Zyp) :
    π { s with pwr := x0, zyp := x1 } = π s := (h.zyp b1 { s with pwr := x0 } x1).trans ((h.pwr b0 s x0))
theorem Unseen.pwr_vlt (h : Unseen m π) (b0 : m.testBit 8 = true) (b1 : m.testBit 23 = true) (s : State) (x0 : Power) (x1 : Vlt) :
    π { s with pwr := x0, vlt := x1 } = π s := (h.vlt b1 { s with pwr := x0 } x1).trans ((h.pwr b0 s x0))
theorem Unseen.pwr_upd (h : Unseen m π) (b0 : m.testBit 8 = true) (b1 : m.testBit 29 = true) (s : State) (x0 : Power) (x1 : Upd) :
    π { s with pwr := x0, upd := x1 } = π s := (h.upd b1 { s with pwr := x0 } x1).trans ((h.pwr b0 s x0))
theorem Unseen.pwr_tly (h : Unseen m π) (b0 : m.testBit 8 = true) (b1 : m.testBit 31 = true) (s : State) (x0 : Power) (x1 : Tly) :
    π { s with pwr := x0, tly := x1 } = π s := (h.tly b1 { s with pwr := x0 } x1).trans ((h.pwr b0 s x0))
theorem Unseen.hre_dsp (h : Unseen m π) (b0 : m.testBit 9 = true) (b1 : m.testBit 17 = true) (s : State) (x0 : Hre) (x1 : Dsp) :
    π { s with hre := x0, dsp := x1 } = π s := (h.dsp b1 { s with hre := x0 } x1).trans ((h.hre b0 s x0))
theorem Unseen.hre_dsp_tly (h : Unseen m π) (b0 : m.testBit 9 = true) (b1 : m.testBit 17 = true) (b2 : m.testBit 31 = true) (s : State) (x0 : Hre) (x1 : Dsp) (x2 : Tly) :
    π { s with hre := x0, dsp := x1, tly := x2 } = π s := (h.tly b2 { s with hre := x0, dsp := x1 } x2).trans ((h.dsp b1 { s with hre := x0 } x1).trans ((h.hre b0 s x0)))
theorem Unseen.hre_epo (h : Unseen m π) (b0 : m.testBit 9 = true) (b1 : m.testBit 18 = true) (s : State) (x0 : Hre) (x1 : Epo) :
    π { s with hre := x0, epo := x1 } = π s := (h.epo b1 { s with hre := x0 } x1).trans ((h.hre b0 s x0))
theorem Unseen.hre_epo_ldr (h : Unseen m π) (b0 : m.testBit 9 = true) (b1 : m.testBit 18 = true) (b2 : m.testBit 19 = true) (s : State) (x0 : Hre) (x1 : Epo) (x2 : Ldr) :
    π { s with hre := x0, epo := x1, ldr := x2 } = π s := (h.ldr b2 { s with hre := x0, epo := x1 } x2).trans ((h.epo b1 { s with hre := x0 } x1).trans ((h.hre b0 s x0)))
theorem Unseen.hre_epo_ldr_twn (h : Unseen m π) (b0 : m.testBit 9 = true) (b1 : m.testBit 18 = true) (b2 : m.testBit 19 = true) (b3 : m.testBit 28 = true) (s : State) (x0 : Hre) (x1 : Epo) (x2 : Ldr) (x3 : Twn) :
    π { s with hre := x0, epo := x1, ldr := x2, twn := x3 } = π s := (h.twn b3 { s with hre := x0, epo := x1, ldr := x2 } x3).trans ((h.ldr b2 { s with hre := x0, epo := x1 } x2).trans ((h.epo b1 { s with hre := x0 } x1).trans ((h.hre b0 s x0))))
theorem Unseen.hre_epo_twn (h : Unseen m π) (b0 : m.testBit 9 = true) (b1 : m.testBit 18 = true) (b2 : m.testBit 28 = true) (s : State) (x0 : Hre) (x1 : Epo) (x2 : Twn) :
    π { s with hre := x0, epo := x1, twn := x2 } = π s := (h.twn b2 { s with hre := x0, epo := x1 } x2).trans ((h.epo b1 { s with hre := x0 } x1).trans ((h.hre b0 s x0)))
theorem Unseen.hre_ldr (h : Unseen m π) (b0 : m.testBit 9 = true) (b1 : m.testBit 19 = true) (s : State) (x0 : Hre) (x1 : Ldr) :
    π { s with hre := x0, ldr := x1 } = π s := (h.ldr b1 { s with hre := x0 } x1).trans ((h.hre b0 s x0))
theorem Unseen.hre_ldr_twn (h : Unseen m π) (b0 : m.testBit 9 = true) (b1 : m.testBit 19 = true) (b2 : m.testBit 28 = true) (s : State) (x0 : Hre) (x1 : Ldr) (x2 : Twn) :
    π { s with hre := x0, ldr := x1, twn := x2 } = π s := (h.twn b2 { s with hre := x0, ldr := x1 } x2).trans ((h.ldr b1 { s with hre := x0 } x1).trans ((h.hre b0 s x0)))
theorem Unseen.hre_twn (h : Unseen m π) (b0 : m.testBit 9 = true) (b1 : m.testBit 28 = true) (s : State) (x0 : Hre) (x1 : Twn) :
    π { s with hre := x0, twn := x1 } = π s := (h.twn b1 { s with hre := x0 } x1).trans ((h.hre b0 s x0))
theorem Unseen.hre_tly (h : Unseen m π) (b0 : m.testBit 9 = true) (b1 : m.testBit 31 = true) (s : State) (x0 : Hre) (x1 : Tly) :
    π { s with hre := x0, tly := x1 } = π s := (h.tly b1 { s with hre := x0 } x1).trans ((h.hre b0 s x0))
theorem Unseen.trp_zyp (h : Unseen m π) (b0 : m.testBit 11 = true) (b1 : m.testBit 22 = true) (s : State) (x0 : Trap) (x1 : Zyp) :
    π { s with trp := x0, zyp := x1 } = π s := (h.zyp b1 { s with trp := x0 } x1).trans ((h.trp b0 s x0))
theorem Unseen.trp_twn (h : Unseen m π) (b0 : m.testBit 11 = true) (b1 : m.testBit 28 = true) (s : State) (x0 : Trap) (x1 : Twn) :
    π { s with trp := x0, twn := x1 } = π s := (h.twn b1 { s with trp := x0 } x1).trans ((h.trp b0 s x0))
theorem Unseen.trp_upd (h : Unseen m π) (b0 : m.testBit 11 = true) (b1 : m.testBit 29 = true) (s : State) (x0 : Trap) (x1 : Upd) :
    π { s with trp := x0, upd := x1 } = π s := (h.upd b1 { s with trp := x0 } x1).trans ((h.trp b0 s x0))
theorem Unseen.trp_tly (h : Unseen m π) (b0 : m.testBit 11 = true) (b1 : m.testBit 31 = true) (s : State) (x0 : Trap) (x1 : Tly) :
    π { s with trp := x0, tly := x1 } = π s := (h.tly b1 { s with trp := x0 } x1).trans ((h.trp b0 s x0))
theorem Unseen.tim_upd (h : Unseen m π) (b0 : m.testBit 12 = true) (b1 : m.testBit 29 = true) (s : State) (x0 : Tim) (x1 : Upd) :
    π { s with tim := x0, upd := x1 } = π s := (h.upd b1 { s with tim := x0 } x1).trans ((h.tim b0 s x0))
theorem Unseen.mem_upd (h : Unseen m π) (b0 : m.testBit 13 = true) (b1 : m.testBit 29 = true) (s : State) (x0 : Memory) (x1 : Upd) :
    π { s with mem := x0, upd := x1 } = π s := (h.upd b1 { s with mem := x0 } x1).trans ((h.mem b0 s x0))
theorem Unseen.dsp_twn (h : Unseen m π) (b0 : m.testBit 17 = true) (b1 : m.testBit 28 = true) (s : State) (x0 : Dsp) (x1 : Twn) :
    π { s with dsp := x0, twn := x1 } = π s := (h.twn b1 { s with dsp := x0 } x1).trans ((h.dsp b0 s x0))
theorem Unseen.dsp_tly (h : Unseen m π) (b0 : m.testBit 17 = true) (b1 : m.testBit 31 = true) (s : State) (x0 : Dsp) (x1 : Tly) :
    π { s with dsp := x0, tly := x1 } = π s := (h.tly b1 { s with dsp := x0 } x1).trans ((h.dsp b0 s x0))
theorem Unseen.epo_ldr (h : Unseen m π) (b0 : m.testBit 18 = true) (b1 : m.testBit 19 = true) (s : State) (x0 : Epo) (x1 : Ldr) :
    π { s with epo := x0, ldr := x1 } = π s := (h.ldr b1 { s with epo := x0 } x1).trans ((h.epo b0 s x0))
theorem Unseen.epo_ldr_twn (h : Unseen m π) (b0 : m.testBit 18 = true) (b1 : m.testBit 19 = true) (b2 : m.testBit 28 = true) (s : State) (x0 : Epo) (x1 : Ldr) (x2 : Twn) :
    π { s with epo := x0, ldr := x1, twn := x2 } = π s := (h.twn b2 { s with epo := x0, ldr := x1 } x2).trans ((h.ldr b1 { s with epo := x0 } x1).trans ((h.epo b0 s x0)))
theorem Unseen.epo_trk (h : Unseen m π) (b0 : m.testBit 18 = true) (b1 : m.testBit 20 = true) (s : State) (x0 : Epo) (x1 : Trk) :
    π { s with epo := x0, trk := x1 } = π s := (h.trk b1 { s with epo := x0 } x1).trans ((h.epo b0 s x0))
theorem Unseen.epo_trk_gov (h : Unseen m π) (b0 : m.testBit 18 = true) (b1 : m.testBit 20 = true) (b2 : m.testBit 21 = true) (s : State) (x0 : Epo) (x1 : Trk) (x2 : Gov) :
    π { s with epo := x0, trk := x1, gov := x2 } = π s := (h.gov b2 { s with epo := x0, trk := x1 } x2).trans ((h.trk b1 { s with epo := x0 } x1).trans ((h.epo b0 s x0)))
theorem Unseen.epo_trk_gov_zyp (h : Unseen m π) (b0 : m.testBit 18 = true) (b1 : m.testBit 20 = true) (b2 : m.testBit 21 = true) (b3 : m.testBit 22 = true) (s : State) (x0 : Epo) (x1 : Trk) (x2 : Gov) (x3 : Zyp) :
    π { s with epo := x0, trk := x1, gov := x2, zyp := x3 } = π s := (h.zyp b3 { s with epo := x0, trk := x1, gov := x2 } x3).trans ((h.gov b2 { s with epo := x0, trk := x1 } x2).trans ((h.trk b1 { s with epo := x0 } x1).trans ((h.epo b0 s x0))))
theorem Unseen.epo_trk_zyp (h : Unseen m π) (b0 : m.testBit 18 = true) (b1 : m.testBit 20 = true) (b2 : m.testBit 22 = true) (s : State) (x0 : Epo) (x1 : Trk) (x2 : Zyp) :
    π { s with epo := x0, trk := x1, zyp := x2 } = π s := (h.zyp b2 { s with epo := x0, trk := x1 } x2).trans ((h.trk b1 { s with epo := x0 } x1).trans ((h.epo b0 s x0)))
theorem Unseen.epo_gov (h : Unseen m π) (b0 : m.testBit 18 = true) (b1 : m.testBit 21 = true) (s : State) (x0 : Epo) (x1 : Gov) :
    π { s with epo := x0, gov := x1 } = π s := (h.gov b1 { s with epo := x0 } x1).trans ((h.epo b0 s x0))
theorem Unseen.epo_gov_zyp (h : Unseen m π) (b0 : m.testBit 18 = true) (b1 : m.testBit 21 = true) (b2 : m.testBit 22 = true) (s : State) (x0 : Epo) (x1 : Gov) (x2 : Zyp) :
    π { s with epo := x0, gov := x1, zyp := x2 } = π s := (h.zyp b2 { s with epo := x0, gov := x1 } x2).trans ((h.gov b1 { s with epo := x0 } x1).trans ((h.epo b0 s x0)))
theorem Unseen.epo_zyp (h : Unseen m π) (b0 : m.testBit 18 = true) (b1 : m.testBit 22 = true) (s : State) (x0 : Epo) (x1 : Zyp) :
    π { s with epo := x0, zyp := x1 } = π s := (h.zyp b1 { s with epo := x0 } x1).trans ((h.epo b0 s x0))
theorem Unseen.epo_nvm (h : Unseen m π) (b0 : m.testBit 18 = true) (b1 : m.testBit 27 = true) (s : State) (x0 : Epo) (x1 : Nvm) :
    π { s with epo := x0, nvm := x1 } = π s := (h.nvm b1 { s with epo := x0 } x1).trans ((h.epo b0 s x0))
theorem Unseen.epo_twn (h : Unseen m π) (b0 : m.testBit 18 = true) (b1 : m.testBit 28 = true) (s : State) (x0 : Epo) (x1 : Twn) :
    π { s with epo := x0, twn := x1 } = π s := (h.twn b1 { s with epo := x0 } x1).trans ((h.epo b0 s x0))
theorem Unseen.ldr_twn (h : Unseen m π) (b0 : m.testBit 19 = true) (b1 : m.testBit 28 = true) (s : State) (x0 : Ldr) (x1 : Twn) :
    π { s with ldr := x0, twn := x1 } = π s := (h.twn b1 { s with ldr := x0 } x1).trans ((h.ldr b0 s x0))
theorem Unseen.trk_gov (h : Unseen m π) (b0 : m.testBit 20 = true) (b1 : m.testBit 21 = true) (s : State) (x0 : Trk) (x1 : Gov) :
    π { s with trk := x0, gov := x1 } = π s := (h.gov b1 { s with trk := x0 } x1).trans ((h.trk b0 s x0))
theorem Unseen.trk_gov_zyp (h : Unseen m π) (b0 : m.testBit 20 = true) (b1 : m.testBit 21 = true) (b2 : m.testBit 22 = true) (s : State) (x0 : Trk) (x1 : Gov) (x2 : Zyp) :
    π { s with trk := x0, gov := x1, zyp := x2 } = π s := (h.zyp b2 { s with trk := x0, gov := x1 } x2).trans ((h.gov b1 { s with trk := x0 } x1).trans ((h.trk b0 s x0)))
theorem Unseen.trk_gov_drm (h : Unseen m π) (b0 : m.testBit 20 = true) (b1 : m.testBit 21 = true) (b2 : m.testBit 30 = true) (s : State) (x0 : Trk) (x1 : Gov) (x2 : Drm) :
    π { s with trk := x0, gov := x1, drm := x2 } = π s := (h.drm b2 { s with trk := x0, gov := x1 } x2).trans ((h.gov b1 { s with trk := x0 } x1).trans ((h.trk b0 s x0)))
theorem Unseen.trk_gov_drm_tly (h : Unseen m π) (b0 : m.testBit 20 = true) (b1 : m.testBit 21 = true) (b2 : m.testBit 30 = true) (b3 : m.testBit 31 = true) (s : State) (x0 : Trk) (x1 : Gov) (x2 : Drm) (x3 : Tly) :
    π { s with trk := x0, gov := x1, drm := x2, tly := x3 } = π s := (h.tly b3 { s with trk := x0, gov := x1, drm := x2 } x3).trans ((h.drm b2 { s with trk := x0, gov := x1 } x2).trans ((h.gov b1 { s with trk := x0 } x1).trans ((h.trk b0 s x0))))
theorem Unseen.trk_gov_tly (h : Unseen m π) (b0 : m.testBit 20 = true) (b1 : m.testBit 21 = true) (b2 : m.testBit 31 = true) (s : State) (x0 : Trk) (x1 : Gov) (x2 : Tly) :
    π { s with trk := x0, gov := x1, tly := x2 } = π s := (h.tly b2 { s with trk := x0, gov := x1 } x2).trans ((h.gov b1 { s with trk := x0 } x1).trans ((h.trk b0 s x0)))
theorem Unseen.trk_zyp (h : Unseen m π) (b0 : m.testBit 20 = true) (b1 : m.testBit 22 = true) (s : State) (x0 : Trk) (x1 : Zyp) :
    π { s with trk := x0, zyp := x1 } = π s := (h.zyp b1 { s with trk := x0 } x1).trans ((h.trk b0 s x0))
theorem Unseen.trk_drm (h : Unseen m π) (b0 : m.testBit 20 = true) (b1 : m.testBit 30 = true) (s : State) (x0 : Trk) (x1 : Drm) :
    π { s with trk := x0, drm := x1 } = π s := (h.drm b1 { s with trk := x0 } x1).trans ((h.trk b0 s x0))
theorem Unseen.trk_drm_tly (h : Unseen m π) (b0 : m.testBit 20 = true) (b1 : m.testBit 30 = true) (b2 : m.testBit 31 = true) (s : State) (x0 : Trk) (x1 : Drm) (x2 : Tly) :
    π { s with trk := x0, drm := x1, tly := x2 } = π s := (h.tly b2 { s with trk := x0, drm := x1 } x2).trans ((h.drm b1 { s with trk := x0 } x1).trans ((h.trk b0 s x0)))
theorem Unseen.trk_tly (h : Unseen m π) (b0 : m.testBit 20 = true) (b1 : m.testBit 31 = true) (s : State) (x0 : Trk) (x1 : Tly) :
    π { s with trk := x0, tly := x1 } = π s := (h.tly b1 { s with trk := x0 } x1).trans ((h.trk b0 s x0))
theorem Unseen.gov_zyp (h : Unseen m π) (b0 : m.testBit 21 = true) (b1 : m.testBit 22 = true) (s : State) (x0 : Gov) (x1 : Zyp) :
    π { s with gov := x0, zyp := x1 } = π s := (h.zyp b1 { s with gov := x0 } x1).trans ((h.gov b0 s x0))
theorem Unseen.gov_zyp_cor (h : Unseen m π) (b0 : m.testBit 21 = true) (b1 : m.testBit 22 = true) (b2 : m.testBit 25 = true) (s : State) (x0 : Gov) (x1 : Zyp) (x2 : Cor) :
    π { s with gov := x0, zyp := x1, cor := x2 } = π s := (h.cor b2 { s with gov := x0, zyp := x1 } x2).trans ((h.zyp b1 { s with gov := x0 } x1).trans ((h.gov b0 s x0)))
theorem Unseen.gov_cor (h : Unseen m π) (b0 : m.testBit 21 = true) (b1 : m.testBit 25 = true) (s : State) (x0 : Gov) (x1 : Cor) :
    π { s with gov := x0, cor := x1 } = π s := (h.cor b1 { s with gov := x0 } x1).trans ((h.gov b0 s x0))
theorem Unseen.gov_drm (h : Unseen m π) (b0 : m.testBit 21 = true) (b1 : m.testBit 30 = true) (s : State) (x0 : Gov) (x1 : Drm) :
    π { s with gov := x0, drm := x1 } = π s := (h.drm b1 { s with gov := x0 } x1).trans ((h.gov b0 s x0))
theorem Unseen.gov_drm_tly (h : Unseen m π) (b0 : m.testBit 21 = true) (b1 : m.testBit 30 = true) (b2 : m.testBit 31 = true) (s : State) (x0 : Gov) (x1 : Drm) (x2 : Tly) :
    π { s with gov := x0, drm := x1, tly := x2 } = π s := (h.tly b2 { s with gov := x0, drm := x1 } x2).trans ((h.drm b1 { s with gov := x0 } x1).trans ((h.gov b0 s x0)))
theorem Unseen.gov_tly (h : Unseen m π) (b0 : m.testBit 21 = true) (b1 : m.testBit 31 = true) (s : State) (x0 : Gov) (x1 : Tly) :
    π { s with gov := x0, tly := x1 } = π s := (h.tly b1 { s with gov := x0 } x1).trans ((h.gov b0 s x0))
theorem Unseen.zyp_cor (h : Unseen m π) (b0 : m.testBit 22 = true) (b1 : m.testBit 25 = true) (s : State) (x0 : Zyp) (x1 : Cor) :
    π { s with zyp := x0, cor := x1 } = π s := (h.cor b1 { s with zyp := x0 } x1).trans ((h.zyp b0 s x0))
theorem Unseen.drm_tly (h : Unseen m π) (b0 : m.testBit 30 = true) (b1 : m.testBit 31 = true) (s : State) (x0 : Drm) (x1 : Tly) :
    π { s with drm := x0, tly := x1 } = π s := (h.tly b1 { s with drm := x0 } x1).trans ((h.drm b0 s x0))

/-! ## Blocks of the registers that come in families -/

theorem Fld.blk_mk {off lo w r i : Nat} (h : lo < 64) (k : off < 4294967296) :
    (Fld.mk off lo w r i).blk = off / 65536 % 32 + off / 268435456 * 31 := by
  simp only [Fld.blk, Fld.key]; omega

theorem Fld.blk_family {b s n lo w r i : Nat} (h : lo < 64) (k : b < 2097152) (e : b % 65536 + s * 256 ≤ 65536) :
    (Fld.mk (b + s * (n % 256)) lo w r i).blk = b / 65536 := by
  have a : s * (n % 256) + s ≤ s * 256 := by rw [← Nat.mul_succ]; exact Nat.mul_le_mul_left s (Nat.mod_lt n (by decide))
  rcases Nat.eq_zero_or_pos s with rfl | q
  · rw [Fld.blk_mk h (by omega)]; omega
  · rw [Fld.blk_mk h (by omega)]; omega

theorem Reg.HRE_RING_BASE_ADDR_off (ring : Nat) : (Reg.HRE_RING_BASE_ADDR ring).off = 0x20028 := rfl
theorem Reg.HRE_RING_BASE_ADDR_blk (ring : Nat) : (Reg.HRE_RING_BASE_ADDR ring).blk = 2 := Fld.blk_mk (by first | decide | exact Nat.mod_lt _ (by decide)) (by decide)
theorem Reg.HRE_RING_CFG_TYPE_off (ring : Nat) : (Reg.HRE_RING_CFG_TYPE ring).off = 0x20030 := rfl
theorem Reg.HRE_RING_CFG_TYPE_blk (ring : Nat) : (Reg.HRE_RING_CFG_TYPE ring).blk = 2 := Fld.blk_mk (by first | decide | exact Nat.mod_lt _ (by decide)) (by decide)
theorem Reg.HRE_RING_CFG_SIZE_LOG2_off (ring : Nat) : (Reg.HRE_RING_CFG_SIZE_LOG2 ring).off = 0x20030 := rfl
theorem Reg.HRE_RING_CFG_SIZE_LOG2_blk (ring : Nat) : (Reg.HRE_RING_CFG_SIZE_LOG2 ring).blk = 2 := Fld.blk_mk (by first | decide | exact Nat.mod_lt _ (by decide)) (by decide)
theorem Reg.HRE_RING_CFG_BIND_off (ring : Nat) : (Reg.HRE_RING_CFG_BIND ring).off = 0x20030 := rfl
theorem Reg.HRE_RING_CFG_BIND_blk (ring : Nat) : (Reg.HRE_RING_CFG_BIND ring).blk = 2 := Fld.blk_mk (by first | decide | exact Nat.mod_lt _ (by decide)) (by decide)
theorem Reg.HRE_RING_CFG_VECTOR_off (ring : Nat) : (Reg.HRE_RING_CFG_VECTOR ring).off = 0x20030 := rfl
theorem Reg.HRE_RING_CFG_VECTOR_blk (ring : Nat) : (Reg.HRE_RING_CFG_VECTOR ring).blk = 2 := Fld.blk_mk (by first | decide | exact Nat.mod_lt _ (by decide)) (by decide)
theorem Reg.HRE_RING_CFG_ENABLE_off (ring : Nat) : (Reg.HRE_RING_CFG_ENABLE ring).off = 0x20030 := rfl
theorem Reg.HRE_RING_CFG_ENABLE_blk (ring : Nat) : (Reg.HRE_RING_CFG_ENABLE ring).blk = 2 := Fld.blk_mk (by first | decide | exact Nat.mod_lt _ (by decide)) (by decide)
theorem Reg.HRE_RING_CREDIT_ALLOT_off (ring : Nat) : (Reg.HRE_RING_CREDIT_ALLOT ring).off = 0x20034 := rfl
theorem Reg.HRE_RING_CREDIT_ALLOT_blk (ring : Nat) : (Reg.HRE_RING_CREDIT_ALLOT ring).blk = 2 := Fld.blk_mk (by first | decide | exact Nat.mod_lt _ (by decide)) (by decide)
theorem Reg.HRE_RING_IRQ_COAL_COUNT_off (ring : Nat) : (Reg.HRE_RING_IRQ_COAL_COUNT ring).off = 0x20038 := rfl
theorem Reg.HRE_RING_IRQ_COAL_COUNT_blk (ring : Nat) : (Reg.HRE_RING_IRQ_COAL_COUNT ring).blk = 2 := Fld.blk_mk (by first | decide | exact Nat.mod_lt _ (by decide)) (by decide)
theorem Reg.HRE_RING_IRQ_COAL_TIME_off (ring : Nat) : (Reg.HRE_RING_IRQ_COAL_TIME ring).off = 0x20038 := rfl
theorem Reg.HRE_RING_IRQ_COAL_TIME_blk (ring : Nat) : (Reg.HRE_RING_IRQ_COAL_TIME ring).blk = 2 := Fld.blk_mk (by first | decide | exact Nat.mod_lt _ (by decide)) (by decide)
theorem Reg.HRE_RING_COMMIT_RESULT_off (ring : Nat) : (Reg.HRE_RING_COMMIT_RESULT ring).off = 0x2003c := rfl
theorem Reg.HRE_RING_COMMIT_RESULT_blk (ring : Nat) : (Reg.HRE_RING_COMMIT_RESULT ring).blk = 2 := Fld.blk_mk (by first | decide | exact Nat.mod_lt _ (by decide)) (by decide)
theorem Reg.HRE_RING_NOCREDIT_off (ring : Nat) : (Reg.HRE_RING_NOCREDIT ring).off = 0x20050 := rfl
theorem Reg.HRE_RING_NOCREDIT_blk (ring : Nat) : (Reg.HRE_RING_NOCREDIT ring).blk = 2 := Fld.blk_mk (by first | decide | exact Nat.mod_lt _ (by decide)) (by decide)
theorem Reg.HRE_RING_UNFETCHED_off (ring : Nat) : (Reg.HRE_RING_UNFETCHED ring).off = 0x20054 := rfl
theorem Reg.HRE_RING_UNFETCHED_blk (ring : Nat) : (Reg.HRE_RING_UNFETCHED ring).blk = 2 := Fld.blk_mk (by first | decide | exact Nat.mod_lt _ (by decide)) (by decide)
theorem Reg.HRE_RING_LOST_off (ring : Nat) : (Reg.HRE_RING_LOST ring).off = 0x20058 := rfl
theorem Reg.HRE_RING_LOST_blk (ring : Nat) : (Reg.HRE_RING_LOST ring).blk = 2 := Fld.blk_mk (by first | decide | exact Nat.mod_lt _ (by decide)) (by decide)
theorem Reg.HRE_VEC_GAP_MIN_GAP_blk (v : Nat) : (Reg.HRE_VEC_GAP_MIN_GAP v).blk = 2 := Fld.blk_family (by decide) (by decide) (by decide)
theorem Reg.CHU_CFG_ALLOT_off (c : Nat) : (Reg.CHU_CFG_ALLOT c).off = 0x30004 := rfl
theorem Reg.CHU_CFG_ALLOT_blk (c : Nat) : (Reg.CHU_CFG_ALLOT c).blk = 3 := Fld.blk_mk (by first | decide | exact Nat.mod_lt _ (by decide)) (by decide)
theorem Reg.CHU_CFG_PKT_MAX_off (c : Nat) : (Reg.CHU_CFG_PKT_MAX c).off = 0x30004 := rfl
theorem Reg.CHU_CFG_PKT_MAX_blk (c : Nat) : (Reg.CHU_CFG_PKT_MAX c).blk = 3 := Fld.blk_mk (by first | decide | exact Nat.mod_lt _ (by decide)) (by decide)
theorem Reg.CHU_CFG_ENABLE_off (c : Nat) : (Reg.CHU_CFG_ENABLE c).off = 0x30004 := rfl
theorem Reg.CHU_CFG_ENABLE_blk (c : Nat) : (Reg.CHU_CFG_ENABLE c).blk = 3 := Fld.blk_mk (by first | decide | exact Nat.mod_lt _ (by decide)) (by decide)
theorem Reg.CHU_COMMIT_RESULT_off (c : Nat) : (Reg.CHU_COMMIT_RESULT c).off = 0x30008 := rfl
theorem Reg.CHU_COMMIT_RESULT_blk (c : Nat) : (Reg.CHU_COMMIT_RESULT c).blk = 3 := Fld.blk_mk (by first | decide | exact Nat.mod_lt _ (by decide)) (by decide)
theorem Reg.CHU_STATUS_CNT_SAT_off (c : Nat) : (Reg.CHU_STATUS_CNT_SAT c).off = 0x3000c := rfl
theorem Reg.CHU_STATUS_CNT_SAT_blk (c : Nat) : (Reg.CHU_STATUS_CNT_SAT c).blk = 3 := Fld.blk_mk (by first | decide | exact Nat.mod_lt _ (by decide)) (by decide)
theorem Reg.CHU_NOCREDIT_off (c : Nat) : (Reg.CHU_NOCREDIT c).off = 0x30020 := rfl
theorem Reg.CHU_NOCREDIT_blk (c : Nat) : (Reg.CHU_NOCREDIT c).blk = 3 := Fld.blk_mk (by first | decide | exact Nat.mod_lt _ (by decide)) (by decide)
theorem Reg.CHU_OVERSIZE_off (c : Nat) : (Reg.CHU_OVERSIZE c).off = 0x30024 := rfl
theorem Reg.CHU_OVERSIZE_blk (c : Nat) : (Reg.CHU_OVERSIZE c).blk = 3 := Fld.blk_mk (by first | decide | exact Nat.mod_lt _ (by decide)) (by decide)
theorem Reg.CHU_ABORTED_off (c : Nat) : (Reg.CHU_ABORTED c).off = 0x30028 := rfl
theorem Reg.CHU_ABORTED_blk (c : Nat) : (Reg.CHU_ABORTED c).blk = 3 := Fld.blk_mk (by first | decide | exact Nat.mod_lt _ (by decide)) (by decide)
theorem Reg.CHU_BAD_LENGTH_off (c : Nat) : (Reg.CHU_BAD_LENGTH c).off = 0x3002c := rfl
theorem Reg.CHU_BAD_LENGTH_blk (c : Nat) : (Reg.CHU_BAD_LENGTH c).blk = 3 := Fld.blk_mk (by first | decide | exact Nat.mod_lt _ (by decide)) (by decide)
theorem Reg.CHU_DROP_REST_off (c : Nat) : (Reg.CHU_DROP_REST c).off = 0x30030 := rfl
theorem Reg.CHU_DROP_REST_blk (c : Nat) : (Reg.CHU_DROP_REST c).blk = 3 := Fld.blk_mk (by first | decide | exact Nat.mod_lt _ (by decide)) (by decide)
theorem Reg.CHU_CORRECTED_off (c : Nat) : (Reg.CHU_CORRECTED c).off = 0x30034 := rfl
theorem Reg.CHU_CORRECTED_blk (c : Nat) : (Reg.CHU_CORRECTED c).blk = 3 := Fld.blk_mk (by first | decide | exact Nat.mod_lt _ (by decide)) (by decide)
theorem Reg.CHU_UNCORRECTED_off (c : Nat) : (Reg.CHU_UNCORRECTED c).off = 0x30038 := rfl
theorem Reg.CHU_UNCORRECTED_blk (c : Nat) : (Reg.CHU_UNCORRECTED c).blk = 3 := Fld.blk_mk (by first | decide | exact Nat.mod_lt _ (by decide)) (by decide)
theorem Reg.CHU_DISCARDED_off (c : Nat) : (Reg.CHU_DISCARDED c).off = 0x3003c := rfl
theorem Reg.CHU_DISCARDED_blk (c : Nat) : (Reg.CHU_DISCARDED c).blk = 3 := Fld.blk_mk (by first | decide | exact Nat.mod_lt _ (by decide)) (by decide)
theorem Reg.HST_CH_CFG_PROG_LEN_off (ch : Nat) : (Reg.HST_CH_CFG_PROG_LEN ch).off = 0x40010 := rfl
theorem Reg.HST_CH_CFG_PROG_LEN_blk (ch : Nat) : (Reg.HST_CH_CFG_PROG_LEN ch).blk = 4 := Fld.blk_mk (by first | decide | exact Nat.mod_lt _ (by decide)) (by decide)
theorem Reg.HST_CH_CFG_COMPL_MODE_off (ch : Nat) : (Reg.HST_CH_CFG_COMPL_MODE ch).off = 0x40010 := rfl
theorem Reg.HST_CH_CFG_COMPL_MODE_blk (ch : Nat) : (Reg.HST_CH_CFG_COMPL_MODE ch).blk = 4 := Fld.blk_mk (by first | decide | exact Nat.mod_lt _ (by decide)) (by decide)
theorem Reg.HST_CH_CFG_RETRY_MAX_off (ch : Nat) : (Reg.HST_CH_CFG_RETRY_MAX ch).off = 0x40010 := rfl
theorem Reg.HST_CH_CFG_RETRY_MAX_blk (ch : Nat) : (Reg.HST_CH_CFG_RETRY_MAX ch).blk = 4 := Fld.blk_mk (by first | decide | exact Nat.mod_lt _ (by decide)) (by decide)
theorem Reg.HST_CH_CFG_ARB_PRIO_off (ch : Nat) : (Reg.HST_CH_CFG_ARB_PRIO ch).off = 0x40010 := rfl
theorem Reg.HST_CH_CFG_ARB_PRIO_blk (ch : Nat) : (Reg.HST_CH_CFG_ARB_PRIO ch).blk = 4 := Fld.blk_mk (by first | decide | exact Nat.mod_lt _ (by decide)) (by decide)
theorem Reg.HST_CH_COMMIT_RESULT_off (ch : Nat) : (Reg.HST_CH_COMMIT_RESULT ch).off = 0x40014 := rfl
theorem Reg.HST_CH_COMMIT_RESULT_blk (ch : Nat) : (Reg.HST_CH_COMMIT_RESULT ch).blk = 4 := Fld.blk_mk (by first | decide | exact Nat.mod_lt _ (by decide)) (by decide)
theorem Reg.HST_CH_COMMIT_BAD_INDEX_off (ch : Nat) : (Reg.HST_CH_COMMIT_BAD_INDEX ch).off = 0x40014 := rfl
theorem Reg.HST_CH_COMMIT_BAD_INDEX_blk (ch : Nat) : (Reg.HST_CH_COMMIT_BAD_INDEX ch).blk = 4 := Fld.blk_mk (by first | decide | exact Nat.mod_lt _ (by decide)) (by decide)
theorem Reg.HST_TICK_PERIOD_blk (t : Nat) : (Reg.HST_TICK_PERIOD t).blk = 4 := Fld.blk_family (by decide) (by decide) (by decide)
theorem Reg.HST_CH_RETRY_blk (n : Nat) : (Reg.HST_CH_RETRY n).blk = 4 := Fld.blk_family (by decide) (by decide) (by decide)
theorem Reg.HST_CH_MERGED_blk (n : Nat) : (Reg.HST_CH_MERGED n).blk = 4 := Fld.blk_family (by decide) (by decide) (by decide)
theorem Reg.DSP_THR_CFG_PRIO_off (t : Nat) : (Reg.DSP_THR_CFG_PRIO t).off = 0x50008 := rfl
theorem Reg.DSP_THR_CFG_PRIO_blk (t : Nat) : (Reg.DSP_THR_CFG_PRIO t).blk = 5 := Fld.blk_mk (by first | decide | exact Nat.mod_lt _ (by decide)) (by decide)
theorem Reg.DSP_THR_CFG_AFFINITY_off (t : Nat) : (Reg.DSP_THR_CFG_AFFINITY t).off = 0x50008 := rfl
theorem Reg.DSP_THR_CFG_AFFINITY_blk (t : Nat) : (Reg.DSP_THR_CFG_AFFINITY t).blk = 5 := Fld.blk_mk (by first | decide | exact Nat.mod_lt _ (by decide)) (by decide)
theorem Reg.DSP_THR_CFG_ENABLE_off (t : Nat) : (Reg.DSP_THR_CFG_ENABLE t).off = 0x50008 := rfl
theorem Reg.DSP_THR_CFG_ENABLE_blk (t : Nat) : (Reg.DSP_THR_CFG_ENABLE t).blk = 5 := Fld.blk_mk (by first | decide | exact Nat.mod_lt _ (by decide)) (by decide)
theorem Reg.DSP_THR_COMMIT_RESULT_off (t : Nat) : (Reg.DSP_THR_COMMIT_RESULT t).off = 0x5000c := rfl
theorem Reg.DSP_THR_COMMIT_RESULT_blk (t : Nat) : (Reg.DSP_THR_COMMIT_RESULT t).blk = 5 := Fld.blk_mk (by first | decide | exact Nat.mod_lt _ (by decide)) (by decide)
theorem Reg.DSP_FLOW_CFG_WIN_MAX_off (f : Nat) : (Reg.DSP_FLOW_CFG_WIN_MAX f).off = 0x50018 := rfl
theorem Reg.DSP_FLOW_CFG_WIN_MAX_blk (f : Nat) : (Reg.DSP_FLOW_CFG_WIN_MAX f).blk = 5 := Fld.blk_mk (by first | decide | exact Nat.mod_lt _ (by decide)) (by decide)
theorem Reg.DSP_FLOW_CFG_THREAD_BASE_off (f : Nat) : (Reg.DSP_FLOW_CFG_THREAD_BASE f).off = 0x50018 := rfl
theorem Reg.DSP_FLOW_CFG_THREAD_BASE_blk (f : Nat) : (Reg.DSP_FLOW_CFG_THREAD_BASE f).blk = 5 := Fld.blk_mk (by first | decide | exact Nat.mod_lt _ (by decide)) (by decide)
theorem Reg.DSP_FLOW_CFG_POOL_off (f : Nat) : (Reg.DSP_FLOW_CFG_POOL f).off = 0x50018 := rfl
theorem Reg.DSP_FLOW_CFG_POOL_blk (f : Nat) : (Reg.DSP_FLOW_CFG_POOL f).blk = 5 := Fld.blk_mk (by first | decide | exact Nat.mod_lt _ (by decide)) (by decide)
theorem Reg.DSP_FLOW_CFG_ENABLE_off (f : Nat) : (Reg.DSP_FLOW_CFG_ENABLE f).off = 0x50018 := rfl
theorem Reg.DSP_FLOW_CFG_ENABLE_blk (f : Nat) : (Reg.DSP_FLOW_CFG_ENABLE f).blk = 5 := Fld.blk_mk (by first | decide | exact Nat.mod_lt _ (by decide)) (by decide)
theorem Reg.DSP_FLOW_COMMIT_RESULT_off (f : Nat) : (Reg.DSP_FLOW_COMMIT_RESULT f).off = 0x5001c := rfl
theorem Reg.DSP_FLOW_COMMIT_RESULT_blk (f : Nat) : (Reg.DSP_FLOW_COMMIT_RESULT f).blk = 5 := Fld.blk_mk (by first | decide | exact Nat.mod_lt _ (by decide)) (by decide)
theorem Reg.DSP_FLOW_ADMITTED_off (f : Nat) : (Reg.DSP_FLOW_ADMITTED f).off = 0x50020 := rfl
theorem Reg.DSP_FLOW_ADMITTED_blk (f : Nat) : (Reg.DSP_FLOW_ADMITTED f).blk = 5 := Fld.blk_mk (by first | decide | exact Nat.mod_lt _ (by decide)) (by decide)
theorem Reg.DSP_FLOW_RELEASED_off (f : Nat) : (Reg.DSP_FLOW_RELEASED f).off = 0x50024 := rfl
theorem Reg.DSP_FLOW_RELEASED_blk (f : Nat) : (Reg.DSP_FLOW_RELEASED f).blk = 5 := Fld.blk_mk (by first | decide | exact Nat.mod_lt _ (by decide)) (by decide)
theorem Reg.DSP_FLOW_STALL_off (f : Nat) : (Reg.DSP_FLOW_STALL f).off = 0x5002c := rfl
theorem Reg.DSP_FLOW_STALL_blk (f : Nat) : (Reg.DSP_FLOW_STALL f).blk = 5 := Fld.blk_mk (by first | decide | exact Nat.mod_lt _ (by decide)) (by decide)
theorem Reg.DSP_FLOW_DISCARD_off (f : Nat) : (Reg.DSP_FLOW_DISCARD f).off = 0x50030 := rfl
theorem Reg.DSP_FLOW_DISCARD_blk (f : Nat) : (Reg.DSP_FLOW_DISCARD f).blk = 5 := Fld.blk_mk (by first | decide | exact Nat.mod_lt _ (by decide)) (by decide)
theorem Reg.DSP_CORE_CFG_blk (c : Nat) : (Reg.DSP_CORE_CFG c).blk = 5 := Fld.blk_family (by decide) (by decide) (by decide)
theorem Reg.DSP_WAKE_MAP_blk (k : Nat) : (Reg.DSP_WAKE_MAP k).blk = 5 := Fld.blk_family (by decide) (by decide) (by decide)
theorem Reg.RNG_LOOP_CFG_PLL_BW_off (sig : Nat) : (Reg.RNG_LOOP_CFG_PLL_BW sig).off = 0x6001c := rfl
theorem Reg.RNG_LOOP_CFG_PLL_BW_blk (sig : Nat) : (Reg.RNG_LOOP_CFG_PLL_BW sig).blk = 6 := Fld.blk_mk (by first | decide | exact Nat.mod_lt _ (by decide)) (by decide)
theorem Reg.RNG_LOOP_CFG_FLL_BW_off (sig : Nat) : (Reg.RNG_LOOP_CFG_FLL_BW sig).off = 0x6001c := rfl
theorem Reg.RNG_LOOP_CFG_FLL_BW_blk (sig : Nat) : (Reg.RNG_LOOP_CFG_FLL_BW sig).blk = 6 := Fld.blk_mk (by first | decide | exact Nat.mod_lt _ (by decide)) (by decide)
theorem Reg.RNG_LOOP_CFG_DLL_BW_off (sig : Nat) : (Reg.RNG_LOOP_CFG_DLL_BW sig).off = 0x6001c := rfl
theorem Reg.RNG_LOOP_CFG_DLL_BW_blk (sig : Nat) : (Reg.RNG_LOOP_CFG_DLL_BW sig).blk = 6 := Fld.blk_mk (by first | decide | exact Nat.mod_lt _ (by decide)) (by decide)
theorem Reg.RNG_LOOP_CFG_T_COH_off (sig : Nat) : (Reg.RNG_LOOP_CFG_T_COH sig).off = 0x6001c := rfl
theorem Reg.RNG_LOOP_CFG_T_COH_blk (sig : Nat) : (Reg.RNG_LOOP_CFG_T_COH sig).blk = 6 := Fld.blk_mk (by first | decide | exact Nat.mod_lt _ (by decide)) (by decide)
theorem Reg.RNG_LOOP_CFG_SPACING_off (sig : Nat) : (Reg.RNG_LOOP_CFG_SPACING sig).off = 0x6001c := rfl
theorem Reg.RNG_LOOP_CFG_SPACING_blk (sig : Nat) : (Reg.RNG_LOOP_CFG_SPACING sig).blk = 6 := Fld.blk_mk (by first | decide | exact Nat.mod_lt _ (by decide)) (by decide)
theorem Reg.RNG_LOOP_COMMIT_RESULT_off (sig : Nat) : (Reg.RNG_LOOP_COMMIT_RESULT sig).off = 0x60020 := rfl
theorem Reg.RNG_LOOP_COMMIT_RESULT_blk (sig : Nat) : (Reg.RNG_LOOP_COMMIT_RESULT sig).blk = 6 := Fld.blk_mk (by first | decide | exact Nat.mod_lt _ (by decide)) (by decide)
theorem Reg.CRE_XCHK_LIM_blk (i : Nat) : (Reg.CRE_XCHK_LIM i).blk = 8 := Fld.blk_family (by decide) (by decide) (by decide)
theorem Reg.CRE_ROBOT_FIX_blk (n : Nat) : (Reg.CRE_ROBOT_FIX n).blk = 8 := Fld.blk_family (by decide) (by decide) (by decide)
theorem Reg.CRE_ROBOT_ACTIVE_blk (n : Nat) : (Reg.CRE_ROBOT_ACTIVE n).blk = 8 := Fld.blk_family (by decide) (by decide) (by decide)
theorem Reg.CRE_ROBOT_XCHK_FAIL_blk (n : Nat) : (Reg.CRE_ROBOT_XCHK_FAIL n).blk = 8 := Fld.blk_family (by decide) (by decide) (by decide)
theorem Reg.CRE_ROBOT_SATS_blk (n : Nat) : (Reg.CRE_ROBOT_SATS n).blk = 8 := Fld.blk_family (by decide) (by decide) (by decide)
theorem Reg.CRE_ROBOT_AMB_FIXED_blk (n : Nat) : (Reg.CRE_ROBOT_AMB_FIXED n).blk = 8 := Fld.blk_family (by decide) (by decide) (by decide)
theorem Reg.LDR_ROBOT_HELD_blk (n : Nat) : (Reg.LDR_ROBOT_HELD n).blk = 9 := Fld.blk_family (by decide) (by decide) (by decide)
theorem Reg.LDR_ROBOT_GRANTS_blk (n : Nat) : (Reg.LDR_ROBOT_GRANTS n).blk = 9 := Fld.blk_family (by decide) (by decide) (by decide)
theorem Reg.LDR_ROBOT_ENV_blk (n : Nat) : (Reg.LDR_ROBOT_ENV n).blk = 9 := Fld.blk_family (by decide) (by decide) (by decide)
theorem Reg.LDR_ROBOT_LOST_blk (n : Nat) : (Reg.LDR_ROBOT_LOST n).blk = 9 := Fld.blk_family (by decide) (by decide) (by decide)
theorem Reg.GOV_CLK_KP_blk (k : Nat) : (Reg.GOV_CLK_KP k).blk = 11 := Fld.blk_family (by decide) (by decide) (by decide)
theorem Reg.GOV_CLK_KI_blk (k : Nat) : (Reg.GOV_CLK_KI k).blk = 11 := Fld.blk_family (by decide) (by decide) (by decide)
theorem Reg.GOV_CLASS_A_KP_TRACK_blk (k : Nat) : (Reg.GOV_CLASS_A_KP_TRACK k).blk = 11 := Fld.blk_family (by decide) (by decide) (by decide)
theorem Reg.GOV_CLASS_A_KI_TRACK_blk (k : Nat) : (Reg.GOV_CLASS_A_KI_TRACK k).blk = 11 := Fld.blk_family (by decide) (by decide) (by decide)
theorem Reg.GOV_CLASS_A_KP_DOCK_blk (k : Nat) : (Reg.GOV_CLASS_A_KP_DOCK k).blk = 11 := Fld.blk_family (by decide) (by decide) (by decide)
theorem Reg.GOV_CLASS_A_KI_DOCK_blk (k : Nat) : (Reg.GOV_CLASS_A_KI_DOCK k).blk = 11 := Fld.blk_family (by decide) (by decide) (by decide)
theorem Reg.GOV_CLASS_B_ACC_blk (k : Nat) : (Reg.GOV_CLASS_B_ACC k).blk = 11 := Fld.blk_family (by decide) (by decide) (by decide)
theorem Reg.GOV_CLASS_B_DEC_blk (k : Nat) : (Reg.GOV_CLASS_B_DEC k).blk = 11 := Fld.blk_family (by decide) (by decide) (by decide)
theorem Reg.GOV_CLASS_B_APPROACH_blk (k : Nat) : (Reg.GOV_CLASS_B_APPROACH k).blk = 11 := Fld.blk_family (by decide) (by decide) (by decide)
theorem Reg.TRP_ROBOT_OWN_blk (n : Nat) : (Reg.TRP_ROBOT_OWN n).blk = 12 := Fld.blk_family (by decide) (by decide) (by decide)
theorem Reg.TRP_ROBOT_HOST_blk (n : Nat) : (Reg.TRP_ROBOT_HOST n).blk = 12 := Fld.blk_family (by decide) (by decide) (by decide)
theorem Reg.TRP_ROBOT_INTEGRITY_blk (n : Nat) : (Reg.TRP_ROBOT_INTEGRITY n).blk = 12 := Fld.blk_family (by decide) (by decide) (by decide)
theorem Reg.TRP_ROBOT_COAST_blk (n : Nat) : (Reg.TRP_ROBOT_COAST n).blk = 12 := Fld.blk_family (by decide) (by decide) (by decide)
theorem Reg.TRP_ROBOT_ENVELOPE_blk (n : Nat) : (Reg.TRP_ROBOT_ENVELOPE n).blk = 12 := Fld.blk_family (by decide) (by decide) (by decide)
theorem Reg.TRP_ROBOT_LOOP_LOST_blk (n : Nat) : (Reg.TRP_ROBOT_LOOP_LOST n).blk = 12 := Fld.blk_family (by decide) (by decide) (by decide)
theorem Reg.TRP_ROBOT_MAP_LOST_blk (n : Nat) : (Reg.TRP_ROBOT_MAP_LOST n).blk = 12 := Fld.blk_family (by decide) (by decide) (by decide)
theorem Reg.DRM_CH_CFG_EN_blk (n : Nat) : (Reg.DRM_CH_CFG_EN n).blk = 13 := Fld.blk_family (by decide) (by decide) (by decide)
theorem Reg.DRM_CH_CFG_P_blk (n : Nat) : (Reg.DRM_CH_CFG_P n).blk = 13 := Fld.blk_family (by decide) (by decide) (by decide)
theorem Reg.DRM_CH_CFG_SHIFT_blk (n : Nat) : (Reg.DRM_CH_CFG_SHIFT n).blk = 13 := Fld.blk_family (by decide) (by decide) (by decide)
theorem Reg.DRM_VAL_RAW_blk (n : Nat) : (Reg.DRM_VAL_RAW n).blk = 13 := Fld.blk_family (by decide) (by decide) (by decide)
theorem Reg.DRM_VAL_FILT_blk (n : Nat) : (Reg.DRM_VAL_FILT n).blk = 13 := Fld.blk_family (by decide) (by decide) (by decide)
theorem Reg.DRM_VAL_VALID_blk (n : Nat) : (Reg.DRM_VAL_VALID n).blk = 13 := Fld.blk_family (by decide) (by decide) (by decide)
theorem Reg.DRM_FIRE_blk (r : Nat) : (Reg.DRM_FIRE r).blk = 13 := Fld.blk_family (by decide) (by decide) (by decide)
theorem Reg.PORT_ZYP_RX_blk (p : Nat) : (Reg.PORT_ZYP_RX p).blk = 14 + p % 3 := by simp only [Fld.blk, Fld.key, Reg.PORT_ZYP_RX]; omega
theorem Reg.PORT_ZYP_TX_blk (p : Nat) : (Reg.PORT_ZYP_TX p).blk = 14 + p % 3 := by simp only [Fld.blk, Fld.key, Reg.PORT_ZYP_TX]; omega
theorem Reg.PORT_DROP_blk (p : Nat) : (Reg.PORT_DROP p).blk = 14 + p % 3 := by simp only [Fld.blk, Fld.key, Reg.PORT_DROP]; omega
theorem Reg.PORT_BAD_FRAME_blk (p : Nat) : (Reg.PORT_BAD_FRAME p).blk = 14 + p % 3 := by simp only [Fld.blk, Fld.key, Reg.PORT_BAD_FRAME]; omega
theorem Reg.PORT_AUTH_FAIL_blk (p : Nat) : (Reg.PORT_AUTH_FAIL p).blk = 14 + p % 3 := by simp only [Fld.blk, Fld.key, Reg.PORT_AUTH_FAIL]; omega
theorem Reg.PORT_DUP_blk (p : Nat) : (Reg.PORT_DUP p).blk = 14 + p % 3 := by simp only [Fld.blk, Fld.key, Reg.PORT_DUP]; omega
theorem Reg.PORT_STALE_blk (p : Nat) : (Reg.PORT_STALE p).blk = 14 + p % 3 := by simp only [Fld.blk, Fld.key, Reg.PORT_STALE]; omega
theorem Reg.PORT_CNT_OVF_DROP_SAT_blk (p : Nat) : (Reg.PORT_CNT_OVF_DROP_SAT p).blk = 14 + p % 3 := by simp only [Fld.blk, Fld.key, Reg.PORT_CNT_OVF_DROP_SAT]; omega
theorem Reg.PORT_CNT_OVF_DROP_SAT_off (p : Nat) : ((Reg.PORT_CNT_OVF_DROP_SAT p).off / 65536 != 2) = true := by
  simp only [Reg.PORT_CNT_OVF_DROP_SAT, bne_iff_ne, ne_eq]; omega
theorem Reg.PORT_CNT_OVF_CNT_SAT_blk (p : Nat) : (Reg.PORT_CNT_OVF_CNT_SAT p).blk = 14 + p % 3 := by simp only [Fld.blk, Fld.key, Reg.PORT_CNT_OVF_CNT_SAT]; omega
theorem Reg.PORT_CNT_OVF_CNT_SAT_off (p : Nat) : ((Reg.PORT_CNT_OVF_CNT_SAT p).off / 65536 != 2) = true := by
  simp only [Reg.PORT_CNT_OVF_CNT_SAT, bne_iff_ne, ne_eq]; omega
theorem Reg.TIM_PG_START_SEC_off (g : Nat) : (Reg.TIM_PG_START_SEC g).off = 0x110088 := rfl
theorem Reg.TIM_PG_START_SEC_blk (g : Nat) : (Reg.TIM_PG_START_SEC g).blk = 17 := Fld.blk_mk (by first | decide | exact Nat.mod_lt _ (by decide)) (by decide)
theorem Reg.TIM_PG_START_NS_off (g : Nat) : (Reg.TIM_PG_START_NS g).off = 0x110090 := rfl
theorem Reg.TIM_PG_START_NS_blk (g : Nat) : (Reg.TIM_PG_START_NS g).blk = 17 := Fld.blk_mk (by first | decide | exact Nat.mod_lt _ (by decide)) (by decide)
theorem Reg.TIM_PG_PERIOD_off (g : Nat) : (Reg.TIM_PG_PERIOD g).off = 0x110094 := rfl
theorem Reg.TIM_PG_PERIOD_blk (g : Nat) : (Reg.TIM_PG_PERIOD g).blk = 17 := Fld.blk_mk (by first | decide | exact Nat.mod_lt _ (by decide)) (by decide)
theorem Reg.TIM_PG_WIDTH_off (g : Nat) : (Reg.TIM_PG_WIDTH g).off = 0x110098 := rfl
theorem Reg.TIM_PG_WIDTH_blk (g : Nat) : (Reg.TIM_PG_WIDTH g).blk = 17 := Fld.blk_mk (by first | decide | exact Nat.mod_lt _ (by decide)) (by decide)
theorem Reg.TIM_PG_CTRL_EN_off (g : Nat) : (Reg.TIM_PG_CTRL_EN g).off = 0x11009c := rfl
theorem Reg.TIM_PG_CTRL_EN_blk (g : Nat) : (Reg.TIM_PG_CTRL_EN g).blk = 17 := Fld.blk_mk (by first | decide | exact Nat.mod_lt _ (by decide)) (by decide)
theorem Reg.TIM_PG_CTRL_DRIVE_off (g : Nat) : (Reg.TIM_PG_CTRL_DRIVE g).off = 0x11009c := rfl
theorem Reg.TIM_PG_CTRL_DRIVE_blk (g : Nat) : (Reg.TIM_PG_CTRL_DRIVE g).blk = 17 := Fld.blk_mk (by first | decide | exact Nat.mod_lt _ (by decide)) (by decide)
theorem Reg.TIM_PG_CTRL_POL_off (g : Nat) : (Reg.TIM_PG_CTRL_POL g).off = 0x11009c := rfl
theorem Reg.TIM_PG_CTRL_POL_blk (g : Nat) : (Reg.TIM_PG_CTRL_POL g).blk = 17 := Fld.blk_mk (by first | decide | exact Nat.mod_lt _ (by decide)) (by decide)
theorem Reg.TIM_PG_CTRL_EVENT_off (g : Nat) : (Reg.TIM_PG_CTRL_EVENT g).off = 0x11009c := rfl
theorem Reg.TIM_PG_CTRL_EVENT_blk (g : Nat) : (Reg.TIM_PG_CTRL_EVENT g).blk = 17 := Fld.blk_mk (by first | decide | exact Nat.mod_lt _ (by decide)) (by decide)
theorem Reg.TIM_PG_COMMIT_RESULT_off (g : Nat) : (Reg.TIM_PG_COMMIT_RESULT g).off = 0x1100a0 := rfl
theorem Reg.TIM_PG_COMMIT_RESULT_blk (g : Nat) : (Reg.TIM_PG_COMMIT_RESULT g).blk = 17 := Fld.blk_mk (by first | decide | exact Nat.mod_lt _ (by decide)) (by decide)
theorem Reg.TIM_CAP_SEC_LO_blk (n : Nat) : (Reg.TIM_CAP_SEC_LO n).blk = 17 := Fld.blk_family (by decide) (by decide) (by decide)
theorem Reg.TIM_CAP_SEC_HI_blk (n : Nat) : (Reg.TIM_CAP_SEC_HI n).blk = 17 := Fld.blk_family (by decide) (by decide) (by decide)
theorem Reg.TIM_CAP_NS_blk (n : Nat) : (Reg.TIM_CAP_NS n).blk = 17 := Fld.blk_family (by decide) (by decide) (by decide)
theorem Reg.TIM_CAP_COUNT_blk (n : Nat) : (Reg.TIM_CAP_COUNT n).blk = 17 := Fld.blk_family (by decide) (by decide) (by decide)
theorem Reg.TLY_LOST_blk (k : Nat) : (Reg.TLY_LOST k).blk = 21 := Fld.blk_family (by decide) (by decide) (by decide)
theorem Reg.TIM_CAP_RISING_blk (n : Nat) : (Reg.TIM_CAP_RISING n).blk = 17 := Fld.blk_family (by decide) (by decide) (by decide)
theorem Reg.MSIX_ADDR_LO_blk (v : Nat) : (Reg.MSIX_ADDR_LO v).blk = 2 := Fld.blk_family (by decide) (by decide) (by decide)
theorem Reg.MSIX_ADDR_HI_blk (v : Nat) : (Reg.MSIX_ADDR_HI v).blk = 2 := Fld.blk_family (by decide) (by decide) (by decide)
theorem Reg.MSIX_DATA_blk (v : Nat) : (Reg.MSIX_DATA v).blk = 2 := Fld.blk_family (by decide) (by decide) (by decide)
theorem Reg.MSIX_MASK_blk (v : Nat) : (Reg.MSIX_MASK v).blk = 2 := Fld.blk_family (by decide) (by decide) (by decide)
theorem Reg.MSIX_PENDING_off (v : Nat) : (Reg.MSIX_PENDING v).off = 0x29000 := rfl
theorem Reg.MSIX_PENDING_blk (v : Nat) : (Reg.MSIX_PENDING v).blk = 2 := Fld.blk_mk (by first | decide | exact Nat.mod_lt _ (by decide)) (by decide)

theorem port_bit {p : Nat} (b : (m.testBit 54 && m.testBit 55 && m.testBit 56) = true) : m.testBit (40 + (14 + p % 3)) = true := by
  simp only [Bool.and_eq_true] at b
  have := Nat.mod_lt p (show 0 < 3 by decide)
  generalize p % 3 = q at *
  match q, this with
  | 0, _ => exact b.1.1
  | 1, _ => exact b.1.2
  | 2, _ => exact b.2

/-! ## Operations on registers -/

theorem Unseen.wrAny (h : Unseen m π) (b : m.testBit 2 = true) (s : State) (f : Fld) (v : Nat) : π (s.wr f v) = π s := h.fld b _ _

/-- Writes to a field stay out of sight. -/
def wrOk (m : Nat) (f : Fld) : Bool := m.testBit (40 + f.blk)

/-- Raises of a fault bit stay out of sight. -/
def faultOk (m : Nat) (f : Fld) : Bool := m.testBit 5 && wrOk m f && (f.off / 65536 != 2 || (m.testBit 9 && m.testBit 42))

/-- A record for the Tally stays out of sight: its chute, the chutes' registers and their events. -/
def tallyOk (m : Nat) : Bool := m.testBit 10 && m.testBit 43 && m.testBit 5

/-- Counts that may stop stay out of sight. -/
def bumpOk (m : Nat) (f sat : Fld) : Bool := wrOk m f && faultOk m sat && tallyOk m

/-- A commit stays out of sight. -/
def commitOk (m : Nat) (r : Fld) (fs : List Fld) : Bool :=
  wrOk m r && fs.all (wrOk m) && m.testBit 3 && (!storedGroups.contains r.off || m.testBit 27)

theorem Unseen.wrO (h : Unseen m π) {f : Fld} (b : wrOk m f = true) (s : State) (v : Nat) : π (s.wr f v) = π s := h.wr b s v

theorem Unseen.wrShadow (h : Unseen m π) (b : m.testBit 3 = true) (s : State) (f : Fld) (v : Nat) : π (s.wrShadow f v) = π s := h.shd b _ _

theorem Unseen.wrEach (h : Unseen m π) {l : List (Fld × Nat)} (b : (l.all fun p => wrOk m p.1) = true) (s : State) : π (s.wrEach l) = π s := by
  induction l generalizing s with
  | nil => rfl
  | cons p t ih =>
    simp only [List.all_cons, Bool.and_eq_true] at b
    rw [State.wrEach, ih b.2, h.wrO b.1]

theorem Unseen.wrZip (h : Unseen m π) {l : List Fld} (b : l.all (wrOk m) = true) (vs : List Nat) (s : State) : π (s.wrEach (l.zip vs)) = π s := by
  induction l generalizing vs s with
  | nil => rfl
  | cons f t ih =>
    simp only [List.all_cons, Bool.and_eq_true] at b
    cases vs with
    | nil => rfl
    | cons v w => rw [List.zip_cons_cons, State.wrEach, ih b.2, h.wrO b.1]

theorem Unseen.wrMap (h : Unseen m π) {l : List Fld} (b : l.all (wrOk m) = true) (g : Fld → Nat) (s : State) :
    π (s.wrEach (l.map fun f => (f, g f))) = π s := by
  refine h.wrEach ?_ s
  rw [List.all_map]
  exact b

theorem Unseen.foldlMem {α : Type} {f : State → α → State} {l : List α} (h : ∀ x ∈ l, ∀ a, π (f a x) = π a) (s : State) :
    π (l.foldl f s) = π s := by
  induction l generalizing s with
  | nil => rfl
  | cons x t ih => rw [List.foldl_cons, ih (fun y hy => h y (List.mem_cons_of_mem _ hy)), h x List.mem_cons_self]

theorem Unseen.wrAll (h : Unseen m π) {l : List Fld} (b : l.all (wrOk m) = true) (s : State) (v : Nat) : π (s.wrAll v l) = π s := by
  induction l generalizing s with
  | nil => rfl
  | cons p t ih =>
    simp only [List.all_cons, Bool.and_eq_true] at b
    rw [State.wrAll, ih b.2, h.wrO b.1]

theorem Unseen.wrSub (h : Unseen m π) {l l' : List Fld} (b : l.all (wrOk m) = true) (hs : l' ⊆ l) (s : State) (v : Nat) : π (s.wrAll v l') = π s :=
  h.wrAll (by
    simp only [List.all_eq_true] at b ⊢
    exact fun x hx => b x (hs hx)) s v

theorem Unseen.wrEachAny (h : Unseen m π) (b : m.testBit 2 = true) (l : List (Fld × Nat)) (s : State) : π (s.wrEach l) = π s := by
  induction l generalizing s with
  | nil => rfl
  | cons p t ih => rw [State.wrEach, ih, h.wrAny b]

theorem Unseen.apply (h : Unseen m π) {l : List Fld} (b : l.all (wrOk m) = true) (d : m.testBit 3 = true) (s : State) : π (s.apply l) = π s := by
  induction l generalizing s with
  | nil => rfl
  | cons p t ih =>
    simp only [List.all_cons, Bool.and_eq_true] at b
    rw [State.apply, ih b.2]
    exact (h.shd d (s.wr p (s.sh p)) _).trans (h.wrO b.1 _ _)

theorem Unseen.storeFields (h : Unseen m π) (d : m.testBit 27 = true) (s : State) (fs : List Fld) : π (s.storeFields fs) = π s := h.nvm d _ _

theorem Unseen.commit (h : Unseen m π) {r : Fld} {fs : List Fld} (b : commitOk m r fs = true) (s : State) (v : Nat) : π (s.commit r fs v) = π s := by
  simp only [commitOk, Bool.and_eq_true, Bool.or_eq_true, Bool.not_eq_true'] at b
  obtain ⟨⟨⟨b1, b2⟩, b3⟩, b4⟩ := b
  simp only [State.commit]
  split
  · split
    · rename_i e
      have b5 : m.testBit 27 = true := b4.resolve_left (by simp at e ⊢; exact e)
      rw [h.wrO b1, h.storeFields b5, h.apply b2 b3]
    · rw [h.wrO b1, h.apply b2 b3]
  · exact h.wrO b1 _ _

theorem Unseen.setPending (h : Unseen m π) {r : Fld} (b : (wrOk m r && m.testBit 4) = true) (s : State) : π (s.setPending r) = π s := by
  simp only [Bool.and_eq_true] at b
  exact (h.wrO b.1 _ _).trans (h.cmt b.2 _ _)

theorem Unseen.endPending (h : Unseen m π) {r : Fld} {fs : List Fld} (b : (commitOk m r fs && m.testBit 4) = true) (s : State) (v : Nat) :
    π (s.endPending r fs v) = π s := by
  simp only [Bool.and_eq_true] at b
  exact (h.commit b.1 _ _).trans (h.cmt b.2 _ _)

theorem Unseen.event (h : Unseen m π) (b : m.testBit 5 = true) (s : State) (x y z : Nat) : π (s.event x y z) = π s := h.evq b _ _

theorem Unseen.signal (h : Unseen m π) (b : (m.testBit 9 && m.testBit 42) = true) (s : State) (v : Nat) : π (s.signal v) = π s := by
  simp only [Bool.and_eq_true] at b
  simp only [State.signal, State.setVec]
  repeat' split
  · exact h.wr (f := Reg.MSIX_PENDING v) (by rw [Reg.MSIX_PENDING_blk]; exact b.2) _ _
  all_goals exact h.hre b.1 _ _

theorem Unseen.faultWith (h : Unseen m π) {f : Fld} (b : faultOk m f = true) (s : State) (d : Nat) : π (s.faultWith f d) = π s := by
  simp only [faultOk, Bool.and_eq_true, Bool.or_eq_true, bne_iff_ne, ne_eq] at b
  obtain ⟨⟨b1, b2⟩, b3⟩ := b
  simp only [State.faultWith]
  repeat' split
  · exact h.wrO b2 _ _
  · rename_i e
    have := b3.resolve_left (by simp [e])
    rw [h.signal (by simp [this]), h.wrO b2]
  · exact h.wrO b2 _ _
  · rw [h.event b1, h.wrO b2]
  · exact h.wrO b2 _ _
  · rw [h.event b1, h.wrO b2]

theorem Unseen.fault (h : Unseen m π) {f : Fld} (b : faultOk m f = true) (s : State) : π (s.fault f) = π s := h.faultWith b s 0

theorem Unseen.faultWithAny (h : Unseen m π) (b : (m.testBit 2 && m.testBit 5 && m.testBit 9 && m.testBit 42) = true) (s : State) (f : Fld) (d : Nat) :
    π (s.faultWith f d) = π s := by
  simp only [Bool.and_eq_true] at b
  obtain ⟨⟨⟨b1, b2⟩, b3⟩, b4⟩ := b
  simp only [State.faultWith]
  repeat' split
  · exact h.wrAny b1 _ _ _
  · rw [h.signal (by simp [b3, b4]), h.wrAny b1]
  · exact h.wrAny b1 _ _ _
  · rw [h.event b2, h.wrAny b1]
  · exact h.wrAny b1 _ _ _
  · rw [h.event b2, h.wrAny b1]

theorem Unseen.putPacket (h : Unseen m π) (b : m.testBit 10 = true) (s : State) (n p : Nat) (l : Option Nat) (w : List DWord) :
    π (s.putPacket n p l w) = π s := h.chu b _ _

theorem Unseen.chuteCount (h : Unseen m π) {f : Fld} (b : (wrOk m f && m.testBit 43 && m.testBit 5) = true) (s : State) (n : Nat) :
    π (s.chuteCount f n) = π s := by
  simp only [Bool.and_eq_true] at b
  obtain ⟨⟨b1, b2⟩, b3⟩ := b
  simp only [State.chuteCount]
  repeat' split
  · rfl
  · rw [h.faultWith, h.wr (f := Reg.CHU_STATUS_CNT_SAT n) (by rw [Reg.CHU_STATUS_CNT_SAT_blk]; exact b2), h.wrO b1]
    have : m.testBit (40 + Reg.CHU_FAULT_SAT.blk) = true := b2
    have e : (Reg.CHU_FAULT_SAT.off / 65536 != 2) = true := rfl
    simp only [faultOk, wrOk, this, b3, e, Bool.true_or, Bool.and_self]
  · exact h.wrO b1 _ _

theorem Unseen.tallyRecord (h : Unseen m π) (b : tallyOk m = true) (s : State) (k i v c : Nat) (d : List Nat) :
    π (s.tallyRecord k i v c d) = π s := by
  simp only [tallyOk, Bool.and_eq_true] at b
  obtain ⟨⟨b1, b2⟩, b3⟩ := b
  simp only [State.tallyRecord]; split
  · exact h.putPacket b1 _ _ _ _ _
  · have : m.testBit (40 + (Reg.CHU_NOCREDIT 48).blk) = true := b2
    rw [h.chuteCount (by simp only [wrOk, this, b2, b3, Bool.and_self])]
    exact h.chu b1 _ _

theorem Unseen.saturate (h : Unseen m π) {f : Fld} (b : (faultOk m f && tallyOk m) = true) (s : State) (i : Nat) : π (s.saturate f i) = π s := by
  simp only [Bool.and_eq_true] at b
  rw [State.saturate, h.tallyRecord b.2, h.fault b.1]

theorem Unseen.bumpBy (h : Unseen m π) {f g : Fld} (b : bumpOk m f g = true) (s : State) (k : Nat) : π (s.bumpBy f g k) = π s := by
  simp only [bumpOk, Bool.and_eq_true] at b
  obtain ⟨⟨b1, b2⟩, b3⟩ := b
  simp only [State.bumpBy]
  repeat' split
  · rfl
  · rw [h.saturate (by simp [b2, b3]), h.wrO b1]
  · exact h.wrO b1 _ _

theorem Unseen.bump (h : Unseen m π) {f g : Fld} (b : bumpOk m f g = true) (s : State) : π (s.bump f g) = π s := h.bumpBy b s 1

theorem Unseen.wrapBy (h : Unseen m π) {f : Fld} (b : wrOk m f = true) (s : State) (k : Nat) : π (s.wrapBy f k) = π s := h.wrO b _ _

theorem Unseen.stopBy (h : Unseen m π) {f : Fld} (b : wrOk m f = true) (s : State) (k : Nat) : π (s.stopBy f k) = π s := h.wrO b _ _

theorem Unseen.chuteBump (h : Unseen m π) {f : Fld} (b : (wrOk m f && m.testBit 43 && m.testBit 5 && m.testBit 10) = true) (s : State) (n : Nat) :
    π (s.chuteBump f n) = π s := by
  simp only [Bool.and_eq_true] at b
  obtain ⟨⟨⟨b1, b2⟩, b3⟩, b4⟩ := b
  have c : (wrOk m f && m.testBit 43 && m.testBit 5) = true := by simp only [b1, b2, b3, Bool.and_self]
  simp only [State.chuteBump]
  split
  · rw [h.tallyRecord (by simp only [tallyOk, b2, b3, b4, Bool.and_self]), h.chuteCount c]
  · exact h.chuteCount c _ _

/-! ## Parts and observations -/

/-- The number of a part. -/
def Part.code : Part → Nat
  | .pending => 0
  | .ctr => 1
  | .shd => 3
  | .cmt => 4
  | .evq => 5
  | .mode => 6
  | .prev => 7
  | .pwr => 8
  | .hre => 9
  | .chu => 10
  | .trp => 11
  | .tim => 12
  | .mem => 13
  | .ticks => 14
  | .hst => 15
  | .board => 16
  | .dsp => 17
  | .epo => 18
  | .ldr => 19
  | .trk => 20
  | .gov => 21
  | .zyp => 22
  | .vlt => 23
  | .rng => 24
  | .cor => 25
  | .cre => 26
  | .nvm => 27
  | .twn => 28
  | .upd => 29
  | .drm => 30
  | .tly => 31
  | .regs k => 40 + k
  | .allRegs => 2

/-- The mask of a list of parts. -/
def maskOf : List Part → Nat
  | [] => 0
  | p :: t => 2 ^ p.code ||| maskOf t

theorem testBit_maskOf (l : List Part) (i : Nat) : (maskOf l).testBit i = l.any fun p => p.code == i := by
  induction l with
  | nil => simp [maskOf]
  | cons p t ih =>
    rw [maskOf, Nat.testBit_or, ih, List.any_cons, Nat.testBit_two_pow]
    rfl

theorem unseen_pending (h : m.testBit 0 = false) : Unseen m State.pending := by
  intro k hk
  unfold UnseenPart
  split
  · intros; rfl
  split
  case h_1 => rw [h] at hk; cases hk
  case h_33 => trivial
  all_goals intros; rfl

theorem unseen_ctr (h : m.testBit 1 = false) : Unseen m State.ctr := by
  intro k hk
  unfold UnseenPart
  split
  · intros; rfl
  split
  case h_2 => rw [h] at hk; cases hk
  case h_33 => trivial
  all_goals intros; rfl

theorem unseen_shd (h : m.testBit 3 = false) : Unseen m State.shd := by
  intro k hk
  unfold UnseenPart
  split
  · intros; rfl
  split
  case h_4 => rw [h] at hk; cases hk
  case h_33 => trivial
  all_goals intros; rfl

theorem unseen_cmt (h : m.testBit 4 = false) : Unseen m State.cmt := by
  intro k hk
  unfold UnseenPart
  split
  · intros; rfl
  split
  case h_5 => rw [h] at hk; cases hk
  case h_33 => trivial
  all_goals intros; rfl

theorem unseen_evq (h : m.testBit 5 = false) : Unseen m State.evq := by
  intro k hk
  unfold UnseenPart
  split
  · intros; rfl
  split
  case h_6 => rw [h] at hk; cases hk
  case h_33 => trivial
  all_goals intros; rfl

theorem unseen_mode (h : m.testBit 6 = false) : Unseen m State.mode := by
  intro k hk
  unfold UnseenPart
  split
  · intros; rfl
  split
  case h_7 => rw [h] at hk; cases hk
  case h_33 => trivial
  all_goals intros; rfl

theorem unseen_prev (h : m.testBit 7 = false) : Unseen m State.prev := by
  intro k hk
  unfold UnseenPart
  split
  · intros; rfl
  split
  case h_8 => rw [h] at hk; cases hk
  case h_33 => trivial
  all_goals intros; rfl

theorem unseen_pwr (h : m.testBit 8 = false) : Unseen m State.pwr := by
  intro k hk
  unfold UnseenPart
  split
  · intros; rfl
  split
  case h_9 => rw [h] at hk; cases hk
  case h_33 => trivial
  all_goals intros; rfl

theorem unseen_hre (h : m.testBit 9 = false) : Unseen m State.hre := by
  intro k hk
  unfold UnseenPart
  split
  · intros; rfl
  split
  case h_10 => rw [h] at hk; cases hk
  case h_33 => trivial
  all_goals intros; rfl

theorem unseen_chu (h : m.testBit 10 = false) : Unseen m State.chu := by
  intro k hk
  unfold UnseenPart
  split
  · intros; rfl
  split
  case h_11 => rw [h] at hk; cases hk
  case h_33 => trivial
  all_goals intros; rfl

theorem unseen_trp (h : m.testBit 11 = false) : Unseen m State.trp := by
  intro k hk
  unfold UnseenPart
  split
  · intros; rfl
  split
  case h_12 => rw [h] at hk; cases hk
  case h_33 => trivial
  all_goals intros; rfl

theorem unseen_tim (h : m.testBit 12 = false) : Unseen m State.tim := by
  intro k hk
  unfold UnseenPart
  split
  · intros; rfl
  split
  case h_13 => rw [h] at hk; cases hk
  case h_33 => trivial
  all_goals intros; rfl

theorem unseen_mem (h : m.testBit 13 = false) : Unseen m State.mem := by
  intro k hk
  unfold UnseenPart
  split
  · intros; rfl
  split
  case h_14 => rw [h] at hk; cases hk
  case h_33 => trivial
  all_goals intros; rfl

theorem unseen_ticks (h : m.testBit 14 = false) : Unseen m State.ticks := by
  intro k hk
  unfold UnseenPart
  split
  · intros; rfl
  split
  case h_15 => rw [h] at hk; cases hk
  case h_33 => trivial
  all_goals intros; rfl

theorem unseen_hst (h : m.testBit 15 = false) : Unseen m State.hst := by
  intro k hk
  unfold UnseenPart
  split
  · intros; rfl
  split
  case h_16 => rw [h] at hk; cases hk
  case h_33 => trivial
  all_goals intros; rfl

theorem unseen_board (h : m.testBit 16 = false) : Unseen m State.board := by
  intro k hk
  unfold UnseenPart
  split
  · intros; rfl
  split
  case h_17 => rw [h] at hk; cases hk
  case h_33 => trivial
  all_goals intros; rfl

theorem unseen_dsp (h : m.testBit 17 = false) : Unseen m State.dsp := by
  intro k hk
  unfold UnseenPart
  split
  · intros; rfl
  split
  case h_18 => rw [h] at hk; cases hk
  case h_33 => trivial
  all_goals intros; rfl

theorem unseen_epo (h : m.testBit 18 = false) : Unseen m State.epo := by
  intro k hk
  unfold UnseenPart
  split
  · intros; rfl
  split
  case h_19 => rw [h] at hk; cases hk
  case h_33 => trivial
  all_goals intros; rfl

theorem unseen_ldr (h : m.testBit 19 = false) : Unseen m State.ldr := by
  intro k hk
  unfold UnseenPart
  split
  · intros; rfl
  split
  case h_20 => rw [h] at hk; cases hk
  case h_33 => trivial
  all_goals intros; rfl

theorem unseen_trk (h : m.testBit 20 = false) : Unseen m State.trk := by
  intro k hk
  unfold UnseenPart
  split
  · intros; rfl
  split
  case h_21 => rw [h] at hk; cases hk
  case h_33 => trivial
  all_goals intros; rfl

theorem unseen_gov (h : m.testBit 21 = false) : Unseen m State.gov := by
  intro k hk
  unfold UnseenPart
  split
  · intros; rfl
  split
  case h_22 => rw [h] at hk; cases hk
  case h_33 => trivial
  all_goals intros; rfl

theorem unseen_zyp (h : m.testBit 22 = false) : Unseen m State.zyp := by
  intro k hk
  unfold UnseenPart
  split
  · intros; rfl
  split
  case h_23 => rw [h] at hk; cases hk
  case h_33 => trivial
  all_goals intros; rfl

theorem unseen_vlt (h : m.testBit 23 = false) : Unseen m State.vlt := by
  intro k hk
  unfold UnseenPart
  split
  · intros; rfl
  split
  case h_24 => rw [h] at hk; cases hk
  case h_33 => trivial
  all_goals intros; rfl

theorem unseen_rng (h : m.testBit 24 = false) : Unseen m State.rng := by
  intro k hk
  unfold UnseenPart
  split
  · intros; rfl
  split
  case h_25 => rw [h] at hk; cases hk
  case h_33 => trivial
  all_goals intros; rfl

theorem unseen_cor (h : m.testBit 25 = false) : Unseen m State.cor := by
  intro k hk
  unfold UnseenPart
  split
  · intros; rfl
  split
  case h_26 => rw [h] at hk; cases hk
  case h_33 => trivial
  all_goals intros; rfl

theorem unseen_cre (h : m.testBit 26 = false) : Unseen m State.cre := by
  intro k hk
  unfold UnseenPart
  split
  · intros; rfl
  split
  case h_27 => rw [h] at hk; cases hk
  case h_33 => trivial
  all_goals intros; rfl

theorem unseen_nvm (h : m.testBit 27 = false) : Unseen m State.nvm := by
  intro k hk
  unfold UnseenPart
  split
  · intros; rfl
  split
  case h_28 => rw [h] at hk; cases hk
  case h_33 => trivial
  all_goals intros; rfl

theorem unseen_twn (h : m.testBit 28 = false) : Unseen m State.twn := by
  intro k hk
  unfold UnseenPart
  split
  · intros; rfl
  split
  case h_29 => rw [h] at hk; cases hk
  case h_33 => trivial
  all_goals intros; rfl

theorem unseen_upd (h : m.testBit 29 = false) : Unseen m State.upd := by
  intro k hk
  unfold UnseenPart
  split
  · intros; rfl
  split
  case h_30 => rw [h] at hk; cases hk
  case h_33 => trivial
  all_goals intros; rfl

theorem unseen_drm (h : m.testBit 30 = false) : Unseen m State.drm := by
  intro k hk
  unfold UnseenPart
  split
  · intros; rfl
  split
  case h_31 => rw [h] at hk; cases hk
  case h_33 => trivial
  all_goals intros; rfl

theorem unseen_tly (h : m.testBit 31 = false) : Unseen m State.tly := by
  intro k hk
  unfold UnseenPart
  split
  · intros; rfl
  split
  case h_32 => rw [h] at hk; cases hk
  case h_33 => trivial
  all_goals intros; rfl


/-- Reading a register does not see other blocks. -/
theorem unseen_rd {f : Fld} (h : m.testBit 2 = false) (b : m.testBit (40 + f.blk) = false) : Unseen m fun s => s.rd f := by
  intro k hk
  unfold UnseenPart
  split
  · intro s g v e
    refine State.rd_wr_ne (fun q => ?_) s v
    have : f.blk = g.blk := by unfold Fld.blk; rw [q]
    rw [← e, ← this, b] at hk; cases hk
  split
  case h_3 => rw [h] at hk; cases hk
  case h_33 => trivial
  all_goals intros; rfl

/-- A change that every observation overlooks which does not see the parts L leaves every part outside L. -/
theorem Part.kept_of {L : List Part} {s t : State} (h : ∀ {β : Type} (π : State → β), Unseen (maskOf L) π → π t = π s) (p : Part)
    (hp : (L.any fun q => q.code == p.code) = false) (hr : ∀ k, p = .regs k → (L.any fun q => q.code == 2) = false)
    (ha : p ≠ .allRegs) : p.Kept s t := by
  cases p
  case regs k =>
    intro f e
    have h2 : (maskOf L).testBit 2 = false := by rw [testBit_maskOf]; exact hr k rfl
    have hb : (maskOf L).testBit (40 + f.blk) = false := by rw [testBit_maskOf, e]; exact hp
    exact h (fun s => s.rd f) (unseen_rd h2 hb)
  case allRegs => exact absurd rfl ha
  case pending => exact h State.pending (unseen_pending (by rw [testBit_maskOf]; exact hp))
  case ctr => exact h State.ctr (unseen_ctr (by rw [testBit_maskOf]; exact hp))
  case shd => exact h State.shd (unseen_shd (by rw [testBit_maskOf]; exact hp))
  case cmt => exact h State.cmt (unseen_cmt (by rw [testBit_maskOf]; exact hp))
  case evq => exact h State.evq (unseen_evq (by rw [testBit_maskOf]; exact hp))
  case mode => exact h State.mode (unseen_mode (by rw [testBit_maskOf]; exact hp))
  case prev => exact h State.prev (unseen_prev (by rw [testBit_maskOf]; exact hp))
  case pwr => exact h State.pwr (unseen_pwr (by rw [testBit_maskOf]; exact hp))
  case hre => exact h State.hre (unseen_hre (by rw [testBit_maskOf]; exact hp))
  case chu => exact h State.chu (unseen_chu (by rw [testBit_maskOf]; exact hp))
  case trp => exact h State.trp (unseen_trp (by rw [testBit_maskOf]; exact hp))
  case tim => exact h State.tim (unseen_tim (by rw [testBit_maskOf]; exact hp))
  case mem => exact h State.mem (unseen_mem (by rw [testBit_maskOf]; exact hp))
  case ticks => exact h State.ticks (unseen_ticks (by rw [testBit_maskOf]; exact hp))
  case hst => exact h State.hst (unseen_hst (by rw [testBit_maskOf]; exact hp))
  case board => exact h State.board (unseen_board (by rw [testBit_maskOf]; exact hp))
  case dsp => exact h State.dsp (unseen_dsp (by rw [testBit_maskOf]; exact hp))
  case epo => exact h State.epo (unseen_epo (by rw [testBit_maskOf]; exact hp))
  case ldr => exact h State.ldr (unseen_ldr (by rw [testBit_maskOf]; exact hp))
  case trk => exact h State.trk (unseen_trk (by rw [testBit_maskOf]; exact hp))
  case gov => exact h State.gov (unseen_gov (by rw [testBit_maskOf]; exact hp))
  case zyp => exact h State.zyp (unseen_zyp (by rw [testBit_maskOf]; exact hp))
  case vlt => exact h State.vlt (unseen_vlt (by rw [testBit_maskOf]; exact hp))
  case rng => exact h State.rng (unseen_rng (by rw [testBit_maskOf]; exact hp))
  case cor => exact h State.cor (unseen_cor (by rw [testBit_maskOf]; exact hp))
  case cre => exact h State.cre (unseen_cre (by rw [testBit_maskOf]; exact hp))
  case nvm => exact h State.nvm (unseen_nvm (by rw [testBit_maskOf]; exact hp))
  case twn => exact h State.twn (unseen_twn (by rw [testBit_maskOf]; exact hp))
  case upd => exact h State.upd (unseen_upd (by rw [testBit_maskOf]; exact hp))
  case drm => exact h State.drm (unseen_drm (by rw [testBit_maskOf]; exact hp))
  case tly => exact h State.tly (unseen_tly (by rw [testBit_maskOf]; exact hp))

end Sys2Proof.Machine
end

