-- ==== Sys2Proof/Laws/OnlyYard.lean ====
section
/-! SUPPORT. What each operation leaves alone: registers, events, chutes, keys, restrictions, ranging, corrections, the central filter and dispatch. The mask names the parts the operation may change (Laws/Unseen). -/

set_option linter.all false

namespace Sys2Proof.Machine

/-! ## Ops -/

theorem State.vbatSeconds_only {β : Type} {π : State → β} (hU : Unseen 0x2000020000001000 π) (s : State) (k : Nat) :
    π (State.vbatSeconds s k) = π s := by
  dsimp only [State.vbatSeconds]
  repeat' first
    | with_reducible rfl
    | with_reducible refine (hU.wrO (by first | decide | (simp only [wrOk, faultOk, tallyOk, bumpOk, commitOk, List.all_cons, List.all_nil, Bool.and_true] <;> decide) | (split <;> decide) | (split <;> simp only [wrOk, faultOk, tallyOk, bumpOk, commitOk, List.all_cons, List.all_nil, Bool.and_true] <;> decide)) _ _).trans ?_
    | fail_if_no_progress with_reducible refine (hU.tim (by decide) _ _).trans ?_
    | with_reducible refine Unseen.ite ?_ ?_
    | split

theorem State.advance_only {β : Type} {π : State → β} (hU : Unseen 0x2000020000001000 π) (s : State) (t : YTime) :
    π (State.advance s t) = π s := by
  dsimp only [State.advance]
  repeat' first
    | with_reducible rfl
    | with_reducible refine (State.vbatSeconds_only (hU.mono (by decide)) _ _).trans ?_
    | fail_if_no_progress with_reducible refine (hU.tim (by decide) _ _).trans ?_
    | with_reducible refine Unseen.ite ?_ ?_
    | split

theorem State.wholeSecond_only {β : Type} {π : State → β} (hU : Unseen 0x2000020000001000 π) (s : State) :
    π (State.wholeSecond s) = π s := by
  dsimp only [State.wholeSecond]
  repeat' first
    | with_reducible rfl
    | with_reducible refine (State.advance_only (hU.mono (by decide)) _ _).trans ?_

theorem State.setVec_only {β : Type} {π : State → β} (hU : Unseen 0x200 π) (s : State) (v : Nat) (x : VecSt) :
    π (State.setVec s v x) = π s := by
  dsimp only [State.setVec]
  repeat' first
    | with_reducible rfl
    | fail_if_no_progress with_reducible refine (hU.hre (by decide) _ _).trans ?_

theorem State.setChute_only {β : Type} {π : State → β} (hU : Unseen 0x400 π) (s : State) (n : Nat) (c : Chute) :
    π (State.setChute s n c) = π s := by
  dsimp only [State.setChute]
  repeat' first
    | with_reducible rfl
    | fail_if_no_progress with_reducible refine (hU.chu (by decide) _ _).trans ?_

theorem State.tallyAdd_only {β : Type} {π : State → β} (hU : Unseen 0x80000000420 π) (s : State) (h : Nat) (value : Nat) :
    π (State.tallyAdd s h value) = π s := by
  dsimp only [State.tallyAdd]
  repeat' first
    | with_reducible rfl
    | with_reducible refine (hU.tallyRecord (by decide) _ _ _ _ _ _).trans ?_

theorem State.tallyOffer_only {β : Type} {π : State → β} (hU : Unseen 0x80000000420 π) (s : State) (x : Nat) (value : Nat) :
    π (State.tallyOffer s x value) = π s := by
  dsimp only [State.tallyOffer]
  repeat' first
    | with_reducible rfl
    | with_reducible refine (hU.tallyRecord (by decide) _ _ _ _ _ _).trans ?_

theorem State.chuteStatus_only {β : Type} {π : State → β} (hU : Unseen 0x400 π) (s : State) (n : Nat) (st : Nat) :
    π (State.chuteStatus s n st) = π s := by
  dsimp only [State.chuteStatus]
  repeat' first
    | with_reducible rfl
    | with_reducible refine (State.setChute_only (hU.mono (by decide)) _ _ _).trans ?_

theorem State.offerFrom_only {β : Type} {π : State → β} (hU : Unseen 0x80000000420 π) (s : State) (n : Nat) (prio : Nat) (lid : Option Nat) (words : List DWord) :
    π ((State.offerFrom s n prio lid words).1) = π s := by
  dsimp only [State.offerFrom]
  repeat' first
    | with_reducible rfl
    | with_reducible refine (State.chuteStatus_only (hU.mono (by decide)) _ _ _).trans ?_
    | with_reducible refine (State.setChute_only (hU.mono (by decide)) _ _ _).trans ?_
    | with_reducible refine (hU.chuteBump (by first | decide | (simp only [wrOk, faultOk, tallyOk, bumpOk, commitOk, List.all_cons, List.all_nil, Bool.and_true, Reg.CHU_BAD_LENGTH_blk, Reg.CHU_NOCREDIT_blk, Reg.CHU_OVERSIZE_blk, Reg.CHU_BAD_LENGTH_off, Reg.CHU_NOCREDIT_off, Reg.CHU_OVERSIZE_off] <;> decide) | (split <;> decide) | (split <;> simp only [wrOk, faultOk, tallyOk, bumpOk, commitOk, List.all_cons, List.all_nil, Bool.and_true, Reg.CHU_BAD_LENGTH_blk, Reg.CHU_NOCREDIT_blk, Reg.CHU_OVERSIZE_blk, Reg.CHU_BAD_LENGTH_off, Reg.CHU_NOCREDIT_off, Reg.CHU_OVERSIZE_off] <;> decide)) _ _).trans ?_
    | with_reducible refine (hU.putPacket (by decide) _ _ _ _ _).trans ?_
    | with_reducible refine Unseen.ite ?_ ?_
    | dsimp only
    | split

theorem State.offer_only {β : Type} {π : State → β} (hU : Unseen 0x80000000420 π) (s : State) (n : Nat) (prio : Nat) (words : List DWord) :
    π ((State.offer s n prio words).1) = π s := by
  dsimp only [State.offer]
  repeat' first
    | with_reducible rfl
    | with_reducible refine (State.offerFrom_only (hU.mono (by decide)) _ _ _ _ _).trans ?_
    | dsimp only

theorem State.noteFrame_only {β : Type} {π : State → β} (hU : Unseen 0x400 π) (s : State) (n : Nat) (o : OwnFrame) :
    π (State.noteFrame s n o) = π s := by
  dsimp only [State.noteFrame]
  repeat' first
    | with_reducible rfl
    | with_reducible refine (State.setChute_only (hU.mono (by decide)) _ _ _).trans ?_
    | dsimp only
    | split

theorem State.send_only {β : Type} {π : State → β} (hU : Unseen 0x80000000420 π) (s : State) (n : Nat) (prio : Nat) (bytes : List Nat) :
    π (State.send s n prio bytes) = π s := by
  dsimp only [State.send]
  repeat' first
    | with_reducible rfl
    | with_reducible refine (State.offer_only (hU.mono (by decide)) _ _ _ _).trans ?_
    | dsimp only

theorem State.sendOr_only {β : Type} {π : State → β} (hU : Unseen 0x80000000420 π) (s : State) (n : Nat) (prio : Nat) (bytes : List Nat) (drop : State → State) (hdrop : ∀ (y0 : State), π (drop y0) = π y0) :
    π (State.sendOr s n prio bytes drop) = π s := by
  dsimp only [State.sendOr]
  repeat' first
    | with_reducible rfl
    | with_reducible refine (hdrop _).trans ?_
    | with_reducible refine (State.offer_only (hU.mono (by decide)) _ _ _ _).trans ?_
    | with_reducible refine Unseen.ite ?_ ?_
    | dsimp only
    | split

theorem State.consume_only {β : Type} {π : State → β} (hU : Unseen 0x400 π) (s : State) (n : Nat) (words : List DWord) :
    π (State.consume s n words) = π s := by
  dsimp only [State.consume]
  repeat' first
    | with_reducible rfl
    | with_reducible refine (State.setChute_only (hU.mono (by decide)) _ _ _).trans ?_
    | with_reducible refine Unseen.ite ?_ ?_
    | intro _
    | split

theorem State.takeAny_only {β : Type} {π : State → β} (hU : Unseen 0x400 π) (s : State) (n : Nat) :
    π (State.takeAny s n) = π s := by
  dsimp only [State.takeAny]
  repeat' first
    | with_reducible rfl
    | with_reducible refine (State.setChute_only (hU.mono (by decide)) _ _ _).trans ?_
    | dsimp only
    | split

theorem State.cutShort_only {β : Type} {π : State → β} (hU : Unseen 0x80000000420 π) (s : State) (n : Nat) (p : Packet) (first : Bool) (rest : List Packet) :
    π (State.cutShort s n p first rest) = π s := by
  dsimp only [State.cutShort]
  repeat' first
    | with_reducible rfl
    | with_reducible refine (State.setChute_only (hU.mono (by decide)) _ _ _).trans ?_
    | with_reducible refine (hU.chuteBump (by first | decide | (simp only [wrOk, faultOk, tallyOk, bumpOk, commitOk, List.all_cons, List.all_nil, Bool.and_true, Reg.CHU_UNCORRECTED_blk, Reg.CHU_UNCORRECTED_off] <;> decide) | (split <;> decide) | (split <;> simp only [wrOk, faultOk, tallyOk, bumpOk, commitOk, List.all_cons, List.all_nil, Bool.and_true, Reg.CHU_UNCORRECTED_blk, Reg.CHU_UNCORRECTED_off] <;> decide)) _ _).trans ?_
    | with_reducible refine (hU.faultWith (by first | decide | (simp only [wrOk, faultOk, tallyOk, bumpOk, commitOk, List.all_cons, List.all_nil, Bool.and_true, Reg.CHU_UNCORRECTED_blk, Reg.CHU_UNCORRECTED_off] <;> decide) | (split <;> decide) | (split <;> simp only [wrOk, faultOk, tallyOk, bumpOk, commitOk, List.all_cons, List.all_nil, Bool.and_true, Reg.CHU_UNCORRECTED_blk, Reg.CHU_UNCORRECTED_off] <;> decide)) _ _).trans ?_

theorem State.takeChecked_only {β : Type} {π : State → β} (hU : Unseen 0x80000000420 π) (s : State) (n : Nat) (ecc : Ecc) :
    π ((State.takeChecked s n ecc).1) = π s := by
  dsimp only [State.takeChecked]
  repeat' first
    | with_reducible rfl
    | with_reducible refine (State.takeAny_only (hU.mono (by decide)) _ _).trans ?_
    | with_reducible refine (State.setChute_only (hU.mono (by decide)) _ _ _).trans ?_
    | with_reducible refine (State.cutShort_only (hU.mono (by decide)) _ _ _ _ _).trans ?_
    | with_reducible refine (hU.chuteBump (by first | decide | (simp only [wrOk, faultOk, tallyOk, bumpOk, commitOk, List.all_cons, List.all_nil, Bool.and_true, Reg.CHU_CORRECTED_blk, Reg.CHU_CORRECTED_off] <;> decide) | (split <;> decide) | (split <;> simp only [wrOk, faultOk, tallyOk, bumpOk, commitOk, List.all_cons, List.all_nil, Bool.and_true, Reg.CHU_CORRECTED_blk, Reg.CHU_CORRECTED_off] <;> decide)) _ _).trans ?_
    | dsimp only
    | split

theorem State.storeWith_only {β : Type} {π : State → β} (hU : Unseen 0x8000000 π) (s : State) (f : SettingsArea → SettingsArea) :
    π (State.storeWith s f) = π s := by
  dsimp only [State.storeWith]
  repeat' first
    | with_reducible rfl
    | fail_if_no_progress with_reducible refine (hU.nvm (by decide) _ _).trans ?_
    | with_reducible refine Unseen.ite ?_ ?_
    | split

theorem State.setRing_only {β : Type} {π : State → β} (hU : Unseen 0x200 π) (s : State) (n : Nat) (r : RingSt) :
    π (State.setRing s n r) = π s := by
  dsimp only [State.setRing]
  repeat' first
    | with_reducible rfl
    | fail_if_no_progress with_reducible refine (hU.hre (by decide) _ _).trans ?_

theorem State.finish_only {β : Type} {π : State → β} (hU : Unseen 0x200 π) (s : State) (c : Cmd) (status : Nat) (doneLen : Nat) (result : Nat) :
    π (State.finish s c status doneLen result) = π s := by
  dsimp only [State.finish]
  repeat' first
    | with_reducible rfl
    | with_reducible refine (State.setRing_only (hU.mono (by decide)) _ _ _).trans ?_
    | fail_if_no_progress with_reducible refine (hU.hre (by decide) _ _).trans ?_
    | with_reducible refine Unseen.ite ?_ ?_
    | intro _
    | split

theorem State.finishData_only {β : Type} {π : State → β} (hU : Unseen 0x200 π) (s : State) (c : Cmd) (bytes : List Nat) :
    π (State.finishData s c bytes) = π s := by
  dsimp only [State.finishData]
  repeat' first
    | with_reducible rfl
    | with_reducible refine (State.finish_only (hU.mono (by decide)) _ _ _ _ _).trans ?_
    | fail_if_no_progress with_reducible refine (hU.hre (by decide) _ _).trans ?_
    | with_reducible refine Unseen.ite ?_ ?_
    | split

theorem State.begun_only {β : Type} {π : State → β} (hU : Unseen 0x200 π) (s : State) (c : Cmd) :
    π (State.begun s c) = π s := by
  dsimp only [State.begun]
  repeat' first
    | with_reducible rfl
    | with_reducible refine (State.setRing_only (hU.mono (by decide)) _ _ _).trans ?_
    | fail_if_no_progress with_reducible refine (hU.hre (by decide) _ _).trans ?_
    | with_reducible refine Unseen.ite ?_ ?_
    | intro _
    | split

theorem State.hostCmd_only {β : Type} {π : State → β} (hU : Unseen 0x200 π) (s : State) (c : Cmd) (k : RingKind) (body : State → State) (hbody : ∀ (y0 : State), π (body y0) = π y0) :
    π (State.hostCmd s c k body) = π s := by
  dsimp only [State.hostCmd]
  repeat' first
    | with_reducible rfl
    | with_reducible refine (hbody _).trans ?_
    | with_reducible refine (State.finish_only (hU.mono (by decide)) _ _ _ _ _).trans ?_
    | with_reducible refine (State.begun_only (hU.mono (by decide)) _ _).trans ?_
    | with_reducible refine Unseen.ite ?_ ?_
    | dsimp only
    | split

theorem State.draw_only {β : Type} {π : State → β} (hU : Unseen 0x2 π) (s : State) (kind : Nat) :
    π ((State.draw s kind).2) = π s := by
  dsimp only [State.draw]
  repeat' first
    | with_reducible rfl
    | fail_if_no_progress with_reducible refine (hU.ctr (by decide) _ _).trans ?_
    | dsimp only

theorem State.memUncorr_only {β : Type} {π : State → β} (hU : Unseen 0x4000080000000422 π) (s : State) (addr : Nat) :
    π (State.memUncorr s addr) = π s := by
  dsimp only [State.memUncorr]
  repeat' first
    | with_reducible rfl
    | with_reducible refine (State.send_only (hU.mono (by decide)) _ _ _ _).trans ?_
    | with_reducible refine (State.draw_only (hU.mono (by decide)) _ _).trans ?_
    | with_reducible refine (hU.wrO (by first | decide | (simp only [wrOk, faultOk, tallyOk, bumpOk, commitOk, List.all_cons, List.all_nil, Bool.and_true] <;> decide) | (split <;> decide) | (split <;> simp only [wrOk, faultOk, tallyOk, bumpOk, commitOk, List.all_cons, List.all_nil, Bool.and_true] <;> decide)) _ _).trans ?_
    | with_reducible refine (hU.event (by decide) _ _ _ _).trans ?_
    | with_reducible refine (hU.stopBy (by first | decide | (simp only [wrOk, faultOk, tallyOk, bumpOk, commitOk, List.all_cons, List.all_nil, Bool.and_true] <;> decide) | (split <;> decide) | (split <;> simp only [wrOk, faultOk, tallyOk, bumpOk, commitOk, List.all_cons, List.all_nil, Bool.and_true] <;> decide)) _ _).trans ?_
    | dsimp only

theorem State.whenMain_only {β : Type} {π : State → β} (hU : Unseen 0x0 π) (s : State) (body : State → State) (hbody : ∀ (y0 : State), π (body y0) = π y0) :
    π (State.whenMain s body) = π s := by
  dsimp only [State.whenMain]
  repeat' first
    | with_reducible rfl
    | with_reducible refine (hbody _).trans ?_
    | with_reducible refine Unseen.ite ?_ ?_
    | split

theorem State.unlessPfail_only {β : Type} {π : State → β} (hU : Unseen 0x0 π) (s : State) (body : State → State) (hbody : ∀ (y0 : State), π (body y0) = π y0) :
    π (State.unlessPfail s body) = π s := by
  dsimp only [State.unlessPfail]
  repeat' first
    | with_reducible rfl
    | with_reducible refine (hbody _).trans ?_
    | with_reducible refine Unseen.ite ?_ ?_
    | split

theorem State.showMeas_only {β : Type} {π : State → β} (hU : Unseen 0x400000000000 π) (s : State) :
    π (State.showMeas s) = π s := by
  dsimp only [State.showMeas]
  repeat' first
    | with_reducible rfl
    | with_reducible refine (hU.wrO (by first | decide | (simp only [wrOk, faultOk, tallyOk, bumpOk, commitOk, List.all_cons, List.all_nil, Bool.and_true] <;> decide) | (split <;> decide) | (split <;> simp only [wrOk, faultOk, tallyOk, bumpOk, commitOk, List.all_cons, List.all_nil, Bool.and_true] <;> decide)) _ _).trans ?_

theorem State.enter_only {β : Type} {π : State → β} (hU : Unseen 0x400000002c0 π) (s : State) (m : Mode) :
    π (State.enter s m) = π s := by
  dsimp only [State.enter]
  repeat' first
    | with_reducible rfl
    | with_reducible refine (hU.signal (by decide) _ _).trans ?_
    | fail_if_no_progress with_reducible refine (hU.mode_prev (by decide) (by decide) _ _ _).trans ?_


/-! ## Flush -/

theorem State.tlyResult_only {β : Type} {π : State → β} (hU : Unseen 0x2000000000000000 π) (s : State) (v : Nat) :
    π (State.tlyResult s v) = π s := by
  dsimp only [State.tlyResult]
  repeat' first
    | with_reducible rfl
    | with_reducible refine (hU.wrO (by first | decide | (simp only [wrOk, faultOk, tallyOk, bumpOk, commitOk, List.all_cons, List.all_nil, Bool.and_true] <;> decide) | (split <;> decide) | (split <;> simp only [wrOk, faultOk, tallyOk, bumpOk, commitOk, List.all_cons, List.all_nil, Bool.and_true] <;> decide)) _ _).trans ?_

theorem State.finishAll_only {β : Type} {π : State → β} (hU : Unseen 0x200 π) (s : State) (v : Nat) (x0 : List Cmd) :
    π (State.finishAll s v x0) = π s := by
  induction x0 generalizing s with
  | nil =>
    dsimp only [State.finishAll]
    repeat' first
      | with_reducible rfl
      | with_reducible refine (ih ..).trans ?_
      | with_reducible refine (State.finish_only (hU.mono (by decide)) _ _ _ _ _).trans ?_
  | cons a k ih =>
    dsimp only [State.finishAll]
    repeat' first
      | with_reducible rfl
      | with_reducible refine (ih ..).trans ?_
      | with_reducible refine (State.finish_only (hU.mono (by decide)) _ _ _ _ _).trans ?_

theorem State.answerFlush_only {β : Type} {π : State → β} (hU : Unseen 0x2000000000000200 π) (s : State) (q : FlushReq) (v : Nat) :
    π (State.answerFlush s q v) = π s := by
  dsimp only [State.answerFlush]
  repeat' first
    | with_reducible rfl
    | with_reducible refine (State.tlyResult_only (hU.mono (by decide)) _ _).trans ?_
    | with_reducible refine (State.finishAll_only (hU.mono (by decide)) _ _ _).trans ?_
    | with_reducible refine Unseen.ite ?_ ?_
    | split

theorem State.flushTrigger_only {β : Type} {π : State → β} (hU : Unseen 0x2000000080000200 π) (s : State) (q : FlushReq) :
    π (State.flushTrigger s q) = π s := by
  dsimp only [State.flushTrigger]
  repeat' first
    | with_reducible rfl
    | with_reducible refine (State.answerFlush_only (hU.mono (by decide)) _ _ _).trans ?_
    | with_reducible refine (hU.wrO (by first | decide | (simp only [wrOk, faultOk, tallyOk, bumpOk, commitOk, List.all_cons, List.all_nil, Bool.and_true] <;> decide) | (split <;> decide) | (split <;> simp only [wrOk, faultOk, tallyOk, bumpOk, commitOk, List.all_cons, List.all_nil, Bool.and_true] <;> decide)) _ _).trans ?_
    | fail_if_no_progress with_reducible refine (hU.tly (by decide) _ _).trans ?_
    | with_reducible refine Unseen.ite ?_ ?_
    | dsimp only
    | split

theorem State.flushFor_only {β : Type} {π : State → β} (hU : Unseen 0x2000000080000200 π) (s : State) (cause : Nat) :
    π (State.flushFor s cause) = π s := by
  dsimp only [State.flushFor]
  repeat' first
    | with_reducible rfl
    | with_reducible refine (State.flushTrigger_only (hU.mono (by decide)) _ _).trans ?_


/-! ## Yard -/

theorem State.sendLanAt_only {β : Type} {π : State → β} (hU : Unseen 0x1c0080000400420 π) (s : State) (p : Nat) (prio : Nat) (dst : Endpoint) (f : List Nat) :
    π (State.sendLanAt s p prio dst f) = π s := by
  dsimp only [State.sendLanAt]
  repeat' first
    | with_reducible rfl
    | with_reducible refine (State.consume_only (hU.mono (by decide)) _ _ _).trans ?_
    | with_reducible refine (State.offer_only (hU.mono (by decide)) _ _ _ _).trans ?_
    | with_reducible refine (hU.wrapBy (by first | decide | (simp only [wrOk, faultOk, tallyOk, bumpOk, commitOk, List.all_cons, List.all_nil, Bool.and_true, Reg.PORT_ZYP_TX_blk, port_bit (m := 0x1c0080000400420) (by decide)] <;> decide) | (split <;> decide) | (split <;> simp only [wrOk, faultOk, tallyOk, bumpOk, commitOk, List.all_cons, List.all_nil, Bool.and_true, Reg.PORT_ZYP_TX_blk, port_bit (m := 0x1c0080000400420) (by decide)] <;> decide)) _ _).trans ?_
    | fail_if_no_progress with_reducible refine (hU.zyp (by decide) _ _).trans ?_
    | with_reducible refine Unseen.ite ?_ ?_
    | dsimp only
    | split

theorem State.sendLan_only {β : Type} {π : State → β} (hU : Unseen 0x1c0080000400420 π) (s : State) (p : Nat) (f : List Nat) :
    π (State.sendLan s p f) = π s := by
  dsimp only [State.sendLan]
  repeat' first
    | with_reducible rfl
    | with_reducible refine (State.sendLanAt_only (hU.mono (by decide)) _ _ _ _ _).trans ?_
    | fail_if_no_progress with_reducible refine (hU.zyp (by decide) _ _).trans ?_

theorem State.sendTo_only {β : Type} {π : State → β} (hU : Unseen 0x1c0080000400420 π) (s : State) (p : Nat) (lid : Nat) (f : List Nat) :
    π (State.sendTo s p lid f) = π s := by
  dsimp only [State.sendTo]
  repeat' first
    | with_reducible rfl
    | with_reducible refine (State.sendLanAt_only (hU.mono (by decide)) _ _ _ _ _).trans ?_
    | dsimp only
    | split

theorem State.portCount_only {β : Type} {π : State → β} {m : Nat} (h0 : Unseen m π) (hm : 0x1c0080000000420 &&& m = 0x1c0080000000420) (s : State) (f : Nat → Fld) (p : Nat) (bf : bumpOk m (f p) (Reg.PORT_CNT_OVF_CNT_SAT p) = true) :
    π (State.portCount s f p) = π s := by
  have hU := h0.mono hm
  dsimp only [State.portCount]
  repeat' first
    | with_reducible rfl
    | with_reducible refine (h0.bump bf _).trans ?_
    | with_reducible refine (hU.bump (by first | decide | (simp only [wrOk, faultOk, tallyOk, bumpOk, commitOk, List.all_cons, List.all_nil, Bool.and_true, Reg.PORT_CNT_OVF_CNT_SAT_blk, Reg.PORT_CNT_OVF_CNT_SAT_off, port_bit (m := 0x1c0080000000420) (by decide)] <;> decide) | (split <;> decide) | (split <;> simp only [wrOk, faultOk, tallyOk, bumpOk, commitOk, List.all_cons, List.all_nil, Bool.and_true, Reg.PORT_CNT_OVF_CNT_SAT_blk, Reg.PORT_CNT_OVF_CNT_SAT_off, port_bit (m := 0x1c0080000000420) (by decide)] <;> decide)) _).trans ?_

theorem State.dropFrame_only {β : Type} {π : State → β} (hU : Unseen 0x1c00a0000000420 π) (s : State) (p : Nat) :
    π (State.dropFrame s p) = π s := by
  dsimp only [State.dropFrame]
  repeat' first
    | with_reducible rfl
    | with_reducible refine (hU.bump (by first | decide | (simp only [wrOk, faultOk, tallyOk, bumpOk, commitOk, List.all_cons, List.all_nil, Bool.and_true, Reg.PORT_CNT_OVF_DROP_SAT_blk, Reg.PORT_DROP_blk, Reg.PORT_CNT_OVF_DROP_SAT_off, port_bit (m := 0x1c00a0000000420) (by decide)] <;> decide) | (split <;> decide) | (split <;> simp only [wrOk, faultOk, tallyOk, bumpOk, commitOk, List.all_cons, List.all_nil, Bool.and_true, Reg.PORT_CNT_OVF_DROP_SAT_blk, Reg.PORT_DROP_blk, Reg.PORT_CNT_OVF_DROP_SAT_off, port_bit (m := 0x1c00a0000000420) (by decide)] <;> decide)) _).trans ?_
    | with_reducible refine Unseen.ite ?_ ?_
    | split

theorem State.fromLan_only {β : Type} {π : State → β} (hU : Unseen 0x1c00a0000000420 π) (s : State) (lanB : Bool) (body : State → State) (hbody : ∀ (y0 : State), π (body y0) = π y0) :
    π (State.fromLan s lanB body) = π s := by
  dsimp only [State.fromLan]
  repeat' first
    | with_reducible rfl
    | with_reducible refine (hbody _).trans ?_
    | with_reducible refine (State.dropFrame_only (hU.mono (by decide)) _ _).trans ?_
    | with_reducible refine Unseen.ite ?_ ?_
    | split

theorem State.sendRadio_only {β : Type} {π : State → β} (hU : Unseen 0x80000000420 π) (s : State) (prio : Nat) (f : List Nat) :
    π (State.sendRadio s prio f) = π s := by
  dsimp only [State.sendRadio]
  repeat' first
    | with_reducible rfl
    | with_reducible refine (State.send_only (hU.mono (by decide)) _ _ _ _).trans ?_
    | with_reducible refine Unseen.ite ?_ ?_
    | split

theorem State.pairSeq_only {β : Type} {π : State → β} (hU : Unseen 0x400000 π) (s : State) (key : Nat) :
    π ((State.pairSeq s key).2) = π s := by
  dsimp only [State.pairSeq]
  repeat' first
    | with_reducible rfl
    | fail_if_no_progress with_reducible refine (hU.zyp (by decide) _ _).trans ?_
    | dsimp only

theorem State.sendPair_only {β : Type} {π : State → β} (hU : Unseen 0x1c0080000400420 π) (s : State) (typ : Nat) (lid : Nat) (body : List Nat) :
    π (State.sendPair s typ lid body) = π s := by
  dsimp only [State.sendPair]
  repeat' first
    | with_reducible rfl
    | with_reducible refine (State.sendTo_only (hU.mono (by decide)) _ _ _ _).trans ?_
    | with_reducible refine (State.pairSeq_only (hU.mono (by decide)) _ _).trans ?_
    | with_reducible refine Unseen.ite ?_ ?_
    | dsimp only
    | split

theorem State.broadcast_only {β : Type} {π : State → β} (hU : Unseen 0x400000 π) (s : State) (typ : Nat) (body : List Nat) :
    π ((State.broadcast s typ body).2) = π s := by
  dsimp only [State.broadcast]
  repeat' first
    | with_reducible rfl
    | with_reducible refine (State.pairSeq_only (hU.mono (by decide)) _ _).trans ?_
    | with_reducible refine Unseen.ite ?_ ?_
    | dsimp only
    | split

theorem State.linkChute_only {β : Type} {π : State → β} (hU : Unseen 0x400 π) (s : State) (base : Nat) (typ : Nat) (n : Nat) :
    π (State.linkChute s base typ n) = π s := by
  dsimp only [State.linkChute]
  repeat' first
    | with_reducible rfl
    | with_reducible refine (State.setChute_only (hU.mono (by decide)) _ _ _).trans ?_
    | with_reducible refine Unseen.ite ?_ ?_
    | split

theorem State.linkOut_only {β : Type} {π : State → β} (hU : Unseen 0x10000000 π) (s : State) (lseq : Nat) (typ : Nat) (payload : List Nat) :
    π (State.linkOut s lseq typ payload) = π s := by
  dsimp only [State.linkOut]
  repeat' first
    | with_reducible rfl
    | fail_if_no_progress with_reducible refine (hU.twn (by decide) _ _).trans ?_

theorem State.linkPut_only {β : Type} {π : State → β} (hU : Unseen 0x10000400 π) (s : State) (typ : Nat) (payload : List Nat) :
    π (State.linkPut s typ payload) = π s := by
  dsimp only [State.linkPut]
  repeat' first
    | with_reducible rfl
    | with_reducible refine (State.linkChute_only (hU.mono (by decide)) _ _ _ _).trans ?_
    | with_reducible refine (State.linkOut_only (hU.mono (by decide)) _ _ _ _).trans ?_
    | fail_if_no_progress with_reducible refine (hU.twn (by decide) _ _).trans ?_

theorem State.linkSend_only {β : Type} {π : State → β} (hU : Unseen 0x10000400 π) (s : State) (typ : Nat) (payload : List Nat) :
    π (State.linkSend s typ payload) = π s := by
  dsimp only [State.linkSend]
  repeat' first
    | with_reducible rfl
    | with_reducible refine (State.linkPut_only (hU.mono (by decide)) _ _ _).trans ?_
    | with_reducible refine Unseen.ite ?_ ?_
    | split

theorem State.linkSplit_only {β : Type} {π : State → β} (hU : Unseen 0x10000400 π) (s : State) (typ : Nat) (head : List Nat) (x0 : Nat) (x1 : List Nat) :
    π (State.linkSplit s typ head x0 x1) = π s := by
  induction x0 generalizing s x1 with
  | zero =>
    dsimp only [State.linkSplit]
    repeat' first
      | with_reducible rfl
      | with_reducible refine (ih ..).trans ?_
      | with_reducible refine (State.linkSend_only (hU.mono (by decide)) _ _ _).trans ?_
      | with_reducible refine Unseen.ite ?_ ?_
      | split
  | succ k ih =>
    dsimp only [State.linkSplit]
    repeat' first
      | with_reducible rfl
      | with_reducible refine (ih ..).trans ?_
      | with_reducible refine (State.linkSend_only (hU.mono (by decide)) _ _ _).trans ?_
      | with_reducible refine Unseen.ite ?_ ?_
      | split

theorem State.linkAll_only {β : Type} {π : State → β} (hU : Unseen 0x10000400 π) (s : State) (typ : Nat) (head : List Nat) (body : List Nat) :
    π (State.linkAll s typ head body) = π s := by
  dsimp only [State.linkAll]
  repeat' first
    | with_reducible rfl
    | with_reducible refine (State.linkSplit_only (hU.mono (by decide)) _ _ _ _ _).trans ?_

theorem State.sendState_only {β : Type} {π : State → β} (hU : Unseen 0x10000400 π) (s : State) :
    π (State.sendState s) = π s := by
  dsimp only [State.sendState]
  repeat' first
    | with_reducible rfl
    | with_reducible refine (State.linkSend_only (hU.mono (by decide)) _ _ _).trans ?_
    | with_reducible refine Unseen.ite ?_ ?_
    | split

theorem State.tellPeer_only {β : Type} {π : State → β} (hU : Unseen 0x10000400 π) (s : State) (stop : Bool) (r : Option Nat) (cause : Fld) :
    π (State.tellPeer s stop r cause) = π s := by
  dsimp only [State.tellPeer]
  repeat' first
    | with_reducible rfl
    | with_reducible refine (State.sendState_only (hU.mono (by decide)) _).trans ?_
    | with_reducible refine (State.linkSend_only (hU.mono (by decide)) _ _ _).trans ?_
    | with_reducible refine Unseen.ite ?_ ?_
    | split

theorem State.record_only {β : Type} {π : State → β} (hU : Unseen 0x80000040420 π) (s : State) (cls : Nat) (chute : Nat) (bytes : List Nat) :
    π (State.record s cls chute bytes) = π s := by
  dsimp only [State.record]
  repeat' first
    | with_reducible rfl
    | with_reducible refine (State.send_only (hU.mono (by decide)) _ _ _ _).trans ?_
    | fail_if_no_progress with_reducible refine (hU.epo (by decide) _ _).trans ?_

theorem State.showCaster_only {β : Type} {π : State → β} (hU : Unseen 0x8000800000000000 π) (s : State) :
    π (State.showCaster s) = π s := by
  dsimp only [State.showCaster]
  repeat' first
    | with_reducible rfl
    | with_reducible refine (hU.wrO (by first | decide | (simp only [wrOk, faultOk, tallyOk, bumpOk, commitOk, List.all_cons, List.all_nil, Bool.and_true] <;> decide) | (split <;> decide) | (split <;> simp only [wrOk, faultOk, tallyOk, bumpOk, commitOk, List.all_cons, List.all_nil, Bool.and_true] <;> decide)) _ _).trans ?_

theorem State.closeClients_only {β : Type} {π : State → β} (hU : Unseen 0x8000880002000420 π) (s : State) (gone : CastClient → Bool) :
    π (State.closeClients s gone) = π s := by
  dsimp only [State.closeClients]
  repeat' first
    | with_reducible rfl
    | with_reducible refine (State.showCaster_only (hU.mono (by decide)) _).trans ?_
    | with_reducible refine (hU.bumpBy (by first | decide | (simp only [wrOk, faultOk, tallyOk, bumpOk, commitOk, List.all_cons, List.all_nil, Bool.and_true] <;> decide) | (split <;> decide) | (split <;> simp only [wrOk, faultOk, tallyOk, bumpOk, commitOk, List.all_cons, List.all_nil, Bool.and_true] <;> decide)) _ _).trans ?_
    | fail_if_no_progress with_reducible refine (hU.cor (by decide) _ _).trans ?_
    | intro _

theorem State.corMode_only {β : Type} {π : State → β} (hU : Unseen 0x8000880002000420 π) (s : State) :
    π (State.corMode s) = π s := by
  dsimp only [State.corMode]
  repeat' first
    | with_reducible rfl
    | with_reducible refine (State.showCaster_only (hU.mono (by decide)) _).trans ?_
    | with_reducible refine (State.closeClients_only (hU.mono (by decide)) _ _).trans ?_
    | with_reducible refine (hU.wrO (by first | decide | (simp only [wrOk, faultOk, tallyOk, bumpOk, commitOk, List.all_cons, List.all_nil, Bool.and_true] <;> decide) | (split <;> decide) | (split <;> simp only [wrOk, faultOk, tallyOk, bumpOk, commitOk, List.all_cons, List.all_nil, Bool.and_true] <;> decide)) _ _).trans ?_
    | with_reducible refine Unseen.ite ?_ ?_
    | intro _
    | split

theorem State.enterMode_only {β : Type} {π : State → β} (hU : Unseen 0xa0008c00823006e0 π) (s : State) (m : Mode) :
    π (State.enterMode s m) = π s := by
  dsimp only [State.enterMode]
  repeat' first
    | with_reducible rfl
    | with_reducible refine (State.enter_only (hU.mono (by decide)) _ _).trans ?_
    | with_reducible refine (State.corMode_only (hU.mono (by decide)) _).trans ?_
    | with_reducible refine (State.flushFor_only (hU.mono (by decide)) _ _).trans ?_
    | fail_if_no_progress with_reducible refine (hU.trk (by decide) _ _).trans ?_
    | fail_if_no_progress with_reducible refine (hU.trk_gov (by decide) (by decide) _ _ _).trans ?_
    | with_reducible refine Unseen.ite ?_ ?_
    | intro _
    | dsimp only
    | split

theorem State.changeRecord_only {β : Type} {π : State → β} (hU : Unseen 0x80000000422 π) (s : State) :
    π (State.changeRecord s) = π s := by
  dsimp only [State.changeRecord]
  repeat' first
    | with_reducible rfl
    | with_reducible refine (State.offer_only (hU.mono (by decide)) _ _ _ _).trans ?_
    | with_reducible refine (State.draw_only (hU.mono (by decide)) _ _).trans ?_
    | dsimp only

theorem State.abortAir_only {β : Type} {π : State → β} (hU : Unseen 0x1c0080000400420 π) (s : State) :
    π (State.abortAir s) = π s := by
  dsimp only [State.abortAir]
  repeat' first
    | with_reducible rfl
    | with_reducible refine (hU.bump (by first | decide | (simp only [wrOk, faultOk, tallyOk, bumpOk, commitOk, List.all_cons, List.all_nil, Bool.and_true, Reg.PORT_CNT_OVF_CNT_SAT_blk, Reg.PORT_CNT_OVF_CNT_SAT_off, port_bit (m := 0x1c0080000400420) (by decide)] <;> decide) | (split <;> decide) | (split <;> simp only [wrOk, faultOk, tallyOk, bumpOk, commitOk, List.all_cons, List.all_nil, Bool.and_true, Reg.PORT_CNT_OVF_CNT_SAT_blk, Reg.PORT_CNT_OVF_CNT_SAT_off, port_bit (m := 0x1c0080000400420) (by decide)] <;> decide)) _).trans ?_
    | fail_if_no_progress with_reducible refine (hU.zyp (by decide) _ _).trans ?_
    | with_reducible refine Unseen.ite ?_ ?_
    | dsimp only
    | split

theorem State.emitTrap_only {β : Type} {π : State → β} (hU : Unseen 0x1c0080000400420 π) (s : State) (f : List Nat) :
    π (State.emitTrap s f) = π s := by
  dsimp only [State.emitTrap]
  repeat' first
    | with_reducible rfl
    | with_reducible refine (State.abortAir_only (hU.mono (by decide)) _).trans ?_
    | with_reducible refine (State.sendLanAt_only (hU.mono (by decide)) _ _ _ _ _).trans ?_
    | with_reducible refine (State.sendRadio_only (hU.mono (by decide)) _ _ _).trans ?_
    | with_reducible refine Unseen.ite ?_ ?_
    | split

theorem State.trapFrame_only {β : Type} {π : State → β} (hU : Unseen 0x1c0080000400c20 π) (s : State) (stop : Bool) (r : Option Nat) :
    π (State.trapFrame s stop r) = π s := by
  dsimp only [State.trapFrame]
  repeat' first
    | with_reducible rfl
    | with_reducible refine (State.emitTrap_only (hU.mono (by decide)) _ _).trans ?_
    | fail_if_no_progress with_reducible refine (hU.trp (by decide) _ _).trans ?_
    | with_reducible refine Unseen.ite ?_ ?_
    | intro _
    | dsimp only
    | split

theorem State.meetAll_only {β : Type} {π : State → β} (hU : Unseen 0x40000 π) (s : State) (r : Option Nat) :
    π (State.meetAll s r) = π s := by
  dsimp only [State.meetAll]
  repeat' first
    | with_reducible rfl
    | fail_if_no_progress with_reducible refine (hU.epo (by decide) _ _).trans ?_

theorem State.setFleet_only {β : Type} {π : State → β} (hU : Unseen 0x40010000e00 π) (s : State) (l : Level) :
    π (State.setFleet s l) = π s := by
  dsimp only [State.setFleet]
  repeat' first
    | with_reducible rfl
    | with_reducible refine (State.sendState_only (hU.mono (by decide)) _).trans ?_
    | with_reducible refine (hU.signal (by decide) _ _).trans ?_
    | fail_if_no_progress with_reducible refine (hU.trp (by decide) _ _).trans ?_
    | with_reducible refine Unseen.ite ?_ ?_
    | split

theorem State.modeAfter_only {β : Type} {π : State → β} (hU : Unseen 0xa0008c00823006e0 π) (s : State) (stop : Bool) :
    π (State.modeAfter s stop) = π s := by
  dsimp only [State.modeAfter]
  repeat' first
    | with_reducible rfl
    | with_reducible refine (State.enterMode_only (hU.mono (by decide)) _ _).trans ?_
    | with_reducible refine Unseen.ite ?_ ?_
    | split

theorem State.refuseArm_only {β : Type} {π : State → β} (hU : Unseen 0x8010080000000c20 π) (s : State) :
    π (State.refuseArm s) = π s := by
  dsimp only [State.refuseArm]
  repeat' first
    | with_reducible rfl
    | with_reducible refine (hU.bump (by first | decide | (simp only [wrOk, faultOk, tallyOk, bumpOk, commitOk, List.all_cons, List.all_nil, Bool.and_true] <;> decide) | (split <;> decide) | (split <;> simp only [wrOk, faultOk, tallyOk, bumpOk, commitOk, List.all_cons, List.all_nil, Bool.and_true] <;> decide)) _).trans ?_
    | with_reducible refine (hU.stopBy (by first | decide | (simp only [wrOk, faultOk, tallyOk, bumpOk, commitOk, List.all_cons, List.all_nil, Bool.and_true] <;> decide) | (split <;> decide) | (split <;> simp only [wrOk, faultOk, tallyOk, bumpOk, commitOk, List.all_cons, List.all_nil, Bool.and_true] <;> decide)) _ _).trans ?_
    | with_reducible refine (hU.fault (by first | decide | (simp only [wrOk, faultOk, tallyOk, bumpOk, commitOk, List.all_cons, List.all_nil, Bool.and_true] <;> decide) | (split <;> decide) | (split <;> simp only [wrOk, faultOk, tallyOk, bumpOk, commitOk, List.all_cons, List.all_nil, Bool.and_true] <;> decide)) _).trans ?_
    | fail_if_no_progress with_reducible refine (hU.trp (by decide) _ _).trans ?_
    | with_reducible refine Unseen.ite ?_ ?_
    | dsimp only
    | split

theorem State.dropArb_only {β : Type} {π : State → β} (hU : Unseen 0x20010000000 π) (s : State) :
    π (State.dropArb s) = π s := by
  dsimp only [State.dropArb]
  repeat' first
    | with_reducible rfl
    | with_reducible refine (hU.wrEach (by first | decide | (simp only [wrOk, faultOk, tallyOk, bumpOk, commitOk, List.all_cons, List.all_nil, Bool.and_true] <;> decide) | (split <;> decide) | (split <;> simp only [wrOk, faultOk, tallyOk, bumpOk, commitOk, List.all_cons, List.all_nil, Bool.and_true] <;> decide)) _).trans ?_
    | fail_if_no_progress with_reducible refine (hU.twn (by decide) _ _).trans ?_
    | with_reducible refine Unseen.ite ?_ ?_
    | split

theorem State.raiseFleet_only {β : Type} {π : State → β} {m : Nat} (h0 : Unseen m π) (hm : 0xa1d08e0092740ee2 &&& m = 0xa1d08e0092740ee2) (s : State) (stop : Bool) (cause : Fld) (bcause : wrOk m cause = true) :
    π (State.raiseFleet s stop cause) = π s := by
  have hU := h0.mono hm
  dsimp only [State.raiseFleet]
  repeat' first
    | with_reducible rfl
    | with_reducible refine (h0.wrO bcause _ _).trans ?_
    | with_reducible refine (State.modeAfter_only (hU.mono (by decide)) _ _).trans ?_
    | with_reducible refine (State.changeRecord_only (hU.mono (by decide)) _).trans ?_
    | with_reducible refine (State.trapFrame_only (hU.mono (by decide)) _ _ _).trans ?_
    | with_reducible refine (State.tellPeer_only (hU.mono (by decide)) _ _ _ _).trans ?_
    | with_reducible refine (State.refuseArm_only (hU.mono (by decide)) _).trans ?_
    | with_reducible refine (State.dropArb_only (hU.mono (by decide)) _).trans ?_
    | with_reducible refine (State.meetAll_only (hU.mono (by decide)) _ _).trans ?_
    | with_reducible refine (State.setFleet_only (hU.mono (by decide)) _ _).trans ?_
    | with_reducible refine (hU.wrO (by first | decide | (simp only [wrOk, faultOk, tallyOk, bumpOk, commitOk, List.all_cons, List.all_nil, Bool.and_true] <;> decide) | (split <;> decide) | (split <;> simp only [wrOk, faultOk, tallyOk, bumpOk, commitOk, List.all_cons, List.all_nil, Bool.and_true] <;> decide)) _ _).trans ?_
    | with_reducible refine (hU.bump (by first | decide | (simp only [wrOk, faultOk, tallyOk, bumpOk, commitOk, List.all_cons, List.all_nil, Bool.and_true] <;> decide) | (split <;> decide) | (split <;> simp only [wrOk, faultOk, tallyOk, bumpOk, commitOk, List.all_cons, List.all_nil, Bool.and_true] <;> decide)) _).trans ?_
    | fail_if_no_progress with_reducible refine (hU.trp (by decide) _ _).trans ?_
    | with_reducible refine Unseen.ite ?_ ?_
    | split

theorem State.raiseOwn_only {β : Type} {π : State → β} {m : Nat} (h0 : Unseen m π) (hm : 0x1d0080010440c22 &&& m = 0x1d0080010440c22) (s : State) (r : Nat) (stop : Bool) (cause : Fld) (bcause : wrOk m cause = true) :
    π (State.raiseOwn s r stop cause) = π s := by
  have hU := h0.mono hm
  dsimp only [State.raiseOwn]
  repeat' first
    | with_reducible rfl
    | with_reducible refine (h0.wrO bcause _ _).trans ?_
    | with_reducible refine (State.changeRecord_only (hU.mono (by decide)) _).trans ?_
    | with_reducible refine (State.trapFrame_only (hU.mono (by decide)) _ _ _).trans ?_
    | with_reducible refine (State.tellPeer_only (hU.mono (by decide)) _ _ _ _).trans ?_
    | with_reducible refine (State.meetAll_only (hU.mono (by decide)) _ _).trans ?_
    | with_reducible refine (hU.wrO (by first | decide | (simp only [wrOk, faultOk, tallyOk, bumpOk, commitOk, List.all_cons, List.all_nil, Bool.and_true, Reg.TRP_ROBOT_OWN_blk] <;> decide) | (split <;> decide) | (split <;> simp only [wrOk, faultOk, tallyOk, bumpOk, commitOk, List.all_cons, List.all_nil, Bool.and_true, Reg.TRP_ROBOT_OWN_blk] <;> decide)) _ _).trans ?_
    | fail_if_no_progress with_reducible refine (hU.epo (by decide) _ _).trans ?_
    | with_reducible refine Unseen.ite ?_ ?_
    | split


/-! ## Keys -/

theorem State.setSlot_only {β : Type} {π : State → β} (hU : Unseen 0x800000 π) (s : State) (n : Nat) (k : Slot) :
    π (State.setSlot s n k) = π s := by
  dsimp only [State.setSlot]
  repeat' first
    | with_reducible rfl
    | fail_if_no_progress with_reducible refine (hU.vlt (by decide) _ _).trans ?_

theorem State.emptySlot_only {β : Type} {π : State → β} (hU : Unseen 0x800000 π) (s : State) (n : Nat) :
    π (State.emptySlot s n) = π s := by
  dsimp only [State.emptySlot]
  repeat' first
    | with_reducible rfl
    | with_reducible refine (State.setSlot_only (hU.mono (by decide)) _ _ _).trans ?_

theorem State.fill_only {β : Type} {π : State → β} (hU : Unseen 0x800000 π) (s : State) (n : Nat) (kind : Nat) (key : Nat) (parent : Option Nat) :
    π (State.fill s n kind key parent) = π s := by
  dsimp only [State.fill]
  repeat' first
    | with_reducible rfl
    | with_reducible refine (State.setSlot_only (hU.mono (by decide)) _ _ _).trans ?_
    | dsimp only
    | split

theorem State.fillSite_only {β : Type} {π : State → β} (hU : Unseen 0x800000 π) (s : State) (n : Nat) (kind : Nat) (info : List Nat) :
    π (State.fillSite s n kind info) = π s := by
  dsimp only [State.fillSite]
  repeat' first
    | with_reducible rfl
    | with_reducible refine (State.fill_only (hU.mono (by decide)) _ _ _ _ _).trans ?_
    | with_reducible refine (State.emptySlot_only (hU.mono (by decide)) _ _).trans ?_
    | dsimp only
    | split

theorem State.setPersist_only {β : Type} {π : State → β} (hU : Unseen 0x800000 π) (s : State) (k : Nat) (p : Persist) :
    π (State.setPersist s k p) = π s := by
  dsimp only [State.setPersist]
  repeat' first
    | with_reducible rfl
    | fail_if_no_progress with_reducible refine (hU.vlt (by decide) _ _).trans ?_

theorem State.persistPut_only {β : Type} {π : State → β} (hU : Unseen 0x800000 π) (s : State) (k : Nat) (v : Option Nat) (ok : Bool) :
    π (State.persistPut s k v ok) = π s := by
  dsimp only [State.persistPut]
  repeat' first
    | with_reducible rfl
    | with_reducible refine (State.setPersist_only (hU.mono (by decide)) _ _ _).trans ?_
    | dsimp only
    | split

theorem State.persistLater_only {β : Type} {π : State → β} (hU : Unseen 0x800000 π) (s : State) (l : List (Nat × Option Nat)) (cmd : Option (Cmd × Nat)) :
    π (State.persistLater s l cmd) = π s := by
  dsimp only [State.persistLater]
  repeat' first
    | with_reducible rfl
    | fail_if_no_progress with_reducible refine (hU.vlt (by decide) _ _).trans ?_
    | with_reducible refine Unseen.ite ?_ ?_
    | intro _
    | dsimp only
    | split

theorem State.deriveSite_only {β : Type} {π : State → β} (hU : Unseen 0x800000 π) (s : State) (site : Nat) :
    π (State.deriveSite s site) = π s := by
  dsimp only [State.deriveSite]
  repeat' first
    | with_reducible rfl
    | with_reducible refine (State.fillSite_only (hU.mono (by decide)) _ _ _ _).trans ?_
    | with_reducible refine (State.fill_only (hU.mono (by decide)) _ _ _ _ _).trans ?_
    | with_reducible refine (State.emptySlot_only (hU.mono (by decide)) _ _).trans ?_
    | dsimp only
    | split

theorem State.fillPersist_only {β : Type} {π : State → β} (hU : Unseen 0x800000 π) (s : State) (n : Nat) (kind : Nat) (parent : Nat) :
    π (State.fillPersist s n kind parent) = π s := by
  dsimp only [State.fillPersist]
  repeat' first
    | with_reducible rfl
    | with_reducible refine (State.fill_only (hU.mono (by decide)) _ _ _ _ _).trans ?_
    | with_reducible refine (State.emptySlot_only (hU.mono (by decide)) _ _).trans ?_
    | dsimp only
    | split

theorem State.deriveFixed_only {β : Type} {π : State → β} (hU : Unseen 0x800000 π) (s : State) :
    π (State.deriveFixed s) = π s := by
  dsimp only [State.deriveFixed]
  repeat' first
    | with_reducible rfl
    | with_reducible refine (State.fillSite_only (hU.mono (by decide)) _ _ _ _).trans ?_
    | with_reducible refine (State.deriveSite_only (hU.mono (by decide)) _ _).trans ?_
    | with_reducible refine (State.emptySlot_only (hU.mono (by decide)) _ _).trans ?_
    | with_reducible refine (State.fill_only (hU.mono (by decide)) _ _ _ _ _).trans ?_
    | with_reducible refine (State.fillPersist_only (hU.mono (by decide)) _ _ _ _).trans ?_
    | dsimp only
    | split

theorem State.zeroise_only {β : Type} {π : State → β} (hU : Unseen 0x800000 π) (s : State) :
    π (State.zeroise s) = π s := by
  dsimp only [State.zeroise]
  repeat' first
    | with_reducible rfl
    | fail_if_no_progress with_reducible refine (hU.vlt (by decide) _ _).trans ?_

theorem State.dropInvalid_only {β : Type} {π : State → β} (hU : Unseen 0x800000 π) (s : State) (x0 : List Nat) :
    π (State.dropInvalid s x0) = π s := by
  induction x0 generalizing s with
  | nil =>
    dsimp only [State.dropInvalid]
    repeat' first
      | with_reducible rfl
      | with_reducible refine (ih ..).trans ?_
      | with_reducible refine (State.emptySlot_only (hU.mono (by decide)) _ _).trans ?_
      | with_reducible refine Unseen.ite ?_ ?_
      | split
  | cons a k ih =>
    dsimp only [State.dropInvalid]
    repeat' first
      | with_reducible rfl
      | with_reducible refine (ih ..).trans ?_
      | with_reducible refine (State.emptySlot_only (hU.mono (by decide)) _ _).trans ?_
      | with_reducible refine Unseen.ite ?_ ?_
      | split

theorem State.nextGen_only {β : Type} {π : State → β} (hU : Unseen 0x800000 π) (s : State) (n : Nat) :
    π (State.nextGen s n) = π s := by
  dsimp only [State.nextGen]
  repeat' first
    | with_reducible rfl
    | with_reducible refine (State.setSlot_only (hU.mono (by decide)) _ _ _).trans ?_

theorem State.rekeyAccept_only {β : Type} {π : State → β} (hU : Unseen 0x800000 π) (s : State) (no : Nat) (sec : Nat) (cmd : Option (Cmd × Nat)) :
    π (State.rekeyAccept s no sec cmd) = π s := by
  dsimp only [State.rekeyAccept]
  repeat' first
    | with_reducible rfl
    | with_reducible refine (State.fillSite_only (hU.mono (by decide)) _ _ _ _).trans ?_
    | with_reducible refine (State.persistLater_only (hU.mono (by decide)) _ _ _).trans ?_
    | fail_if_no_progress with_reducible refine (hU.vlt (by decide) _ _).trans ?_
    | dsimp only


/-! ## Ranging -/

theorem State.showTracks_only {β : Type} {π : State → β} (hU : Unseen 0x400000000000 π) (s : State) :
    π (State.showTracks s) = π s := by
  dsimp only [State.showTracks]
  repeat' first
    | with_reducible rfl
    | with_reducible refine (hU.wrO (by first | decide | (simp only [wrOk, faultOk, tallyOk, bumpOk, commitOk, List.all_cons, List.all_nil, Bool.and_true] <;> decide) | (split <;> decide) | (split <;> simp only [wrOk, faultOk, tallyOk, bumpOk, commitOk, List.all_cons, List.all_nil, Bool.and_true] <;> decide)) _ _).trans ?_
    | intro _
    | dsimp only

theorem State.setTrack_only {β : Type} {π : State → β} (hU : Unseen 0x400001000000 π) (s : State) (n : Nat) (c : TrackCh) :
    π (State.setTrack s n c) = π s := by
  dsimp only [State.setTrack]
  repeat' first
    | with_reducible rfl
    | with_reducible refine (State.showTracks_only (hU.mono (by decide)) _).trans ?_
    | fail_if_no_progress with_reducible refine (hU.rng (by decide) _ _).trans ?_

theorem State.allocShort_only {β : Type} {π : State → β} (hU : Unseen 0x480000000420 π) (s : State) (k : Nat) (antB : Bool) :
    π (State.allocShort s k antB) = π s := by
  dsimp only [State.allocShort]
  repeat' first
    | with_reducible rfl
    | with_reducible refine (hU.faultWith (by first | decide | (simp only [wrOk, faultOk, tallyOk, bumpOk, commitOk, List.all_cons, List.all_nil, Bool.and_true] <;> decide) | (split <;> decide) | (split <;> simp only [wrOk, faultOk, tallyOk, bumpOk, commitOk, List.all_cons, List.all_nil, Bool.and_true] <;> decide)) _ _).trans ?_
    | with_reducible refine (hU.bumpBy (by first | decide | (simp only [wrOk, faultOk, tallyOk, bumpOk, commitOk, List.all_cons, List.all_nil, Bool.and_true] <;> decide) | (split <;> decide) | (split <;> simp only [wrOk, faultOk, tallyOk, bumpOk, commitOk, List.all_cons, List.all_nil, Bool.and_true] <;> decide)) _ _).trans ?_
    | with_reducible refine Unseen.ite ?_ ?_
    | split

theorem State.sendSeries_only {β : Type} {π : State → β} (hU : Unseen 0x480000000420 π) (s : State) (antB : Bool) (chute : Nat) (x0 : List (List Nat)) :
    π (State.sendSeries s antB chute x0) = π s := by
  induction x0 generalizing s with
  | nil =>
    dsimp only [State.sendSeries]
    repeat' first
      | with_reducible rfl
      | with_reducible refine (ih ..).trans ?_
      | with_reducible refine (State.offer_only (hU.mono (by decide)) _ _ _ _).trans ?_
      | with_reducible refine (hU.faultWith (by first | decide | (simp only [wrOk, faultOk, tallyOk, bumpOk, commitOk, List.all_cons, List.all_nil, Bool.and_true] <;> decide) | (split <;> decide) | (split <;> simp only [wrOk, faultOk, tallyOk, bumpOk, commitOk, List.all_cons, List.all_nil, Bool.and_true] <;> decide)) _ _).trans ?_
      | with_reducible refine (hU.bumpBy (by first | decide | (simp only [wrOk, faultOk, tallyOk, bumpOk, commitOk, List.all_cons, List.all_nil, Bool.and_true] <;> decide) | (split <;> decide) | (split <;> simp only [wrOk, faultOk, tallyOk, bumpOk, commitOk, List.all_cons, List.all_nil, Bool.and_true] <;> decide)) _ _).trans ?_
      | with_reducible refine Unseen.ite ?_ ?_
      | dsimp only
      | split
  | cons a k ih =>
    dsimp only [State.sendSeries]
    repeat' first
      | with_reducible rfl
      | with_reducible refine (ih ..).trans ?_
      | with_reducible refine (State.offer_only (hU.mono (by decide)) _ _ _ _).trans ?_
      | with_reducible refine (hU.faultWith (by first | decide | (simp only [wrOk, faultOk, tallyOk, bumpOk, commitOk, List.all_cons, List.all_nil, Bool.and_true] <;> decide) | (split <;> decide) | (split <;> simp only [wrOk, faultOk, tallyOk, bumpOk, commitOk, List.all_cons, List.all_nil, Bool.and_true] <;> decide)) _ _).trans ?_
      | with_reducible refine (hU.bumpBy (by first | decide | (simp only [wrOk, faultOk, tallyOk, bumpOk, commitOk, List.all_cons, List.all_nil, Bool.and_true] <;> decide) | (split <;> decide) | (split <;> simp only [wrOk, faultOk, tallyOk, bumpOk, commitOk, List.all_cons, List.all_nil, Bool.and_true] <;> decide)) _ _).trans ?_
      | with_reducible refine Unseen.ite ?_ ?_
      | dsimp only
      | split

theorem State.antennaSeries_only {β : Type} {π : State → β} (hU : Unseen 0x480000000420 π) (s : State) (antB : Bool) (obs : List MeasObs) (seq : Nat) (time : YTime) :
    π (State.antennaSeries s antB obs seq time) = π s := by
  dsimp only [State.antennaSeries]
  repeat' first
    | with_reducible rfl
    | with_reducible refine (State.sendSeries_only (hU.mono (by decide)) _ _ _ _).trans ?_

theorem State.dropDisabled_only {β : Type} {π : State → β} (hU : Unseen 0x400001000000 π) (s : State) :
    π (State.dropDisabled s) = π s := by
  dsimp only [State.dropDisabled]
  repeat' first
    | with_reducible rfl
    | with_reducible refine (State.showTracks_only (hU.mono (by decide)) _).trans ?_
    | fail_if_no_progress with_reducible refine (hU.rng (by decide) _ _).trans ?_
    | intro _
    | dsimp only

theorem State.measApply_only {β : Type} {π : State → β} (hU : Unseen 0x400001000000 π) (s : State) :
    π (State.measApply s) = π s := by
  dsimp only [State.measApply]
  repeat' first
    | with_reducible rfl
    | with_reducible refine (hU.wrZip (by decide) _ _).trans ?_
    | with_reducible refine (hU.wrEach (by first | decide | (simp only [wrOk, faultOk, tallyOk, bumpOk, commitOk, List.all_cons, List.all_nil, Bool.and_true, measGroup] <;> decide) | (split <;> decide) | (split <;> simp only [wrOk, faultOk, tallyOk, bumpOk, commitOk, List.all_cons, List.all_nil, Bool.and_true, measGroup] <;> decide) | (simp only [measGroup]; split <;> decide)) _).trans ?_
    | fail_if_no_progress with_reducible refine (hU.rng (by decide) _ _).trans ?_
    | dsimp only
    | split

theorem State.readSeries_only {β : Type} {π : State → β} (hU : Unseen 0x2000400 π) (x0 : Nat) (x1 : State) :
    π (State.readSeries x0 x1) = π x1 := by
  induction x0 generalizing x1 with
  | zero =>
    dsimp only [State.readSeries]
    repeat' first
      | with_reducible rfl
      | with_reducible refine (ih ..).trans ?_
      | with_reducible refine (State.takeAny_only (hU.mono (by decide)) _ _).trans ?_
      | fail_if_no_progress with_reducible refine (hU.cor (by decide) _ _).trans ?_
      | with_reducible refine Unseen.ite ?_ ?_
      | dsimp only
      | split
  | succ k ih =>
    dsimp only [State.readSeries]
    repeat' first
      | with_reducible rfl
      | with_reducible refine (ih ..).trans ?_
      | with_reducible refine (State.takeAny_only (hU.mono (by decide)) _ _).trans ?_
      | fail_if_no_progress with_reducible refine (hU.cor (by decide) _ _).trans ?_
      | with_reducible refine Unseen.ite ?_ ?_
      | dsimp only
      | split

theorem State.baseReads_only {β : Type} {π : State → β} (hU : Unseen 0x2000400 π) (s : State) :
    π (State.baseReads s) = π s := by
  dsimp only [State.baseReads]
  repeat' first
    | with_reducible rfl
    | with_reducible refine (State.readSeries_only (hU.mono (by decide)) _ _).trans ?_

theorem State.timeSolution_only {β : Type} {π : State → β} (hU : Unseen 0x1000 π) (s : State) (rs : List MeasRec) (flags : Nat) (seq : Nat) (time : YTime) :
    π (State.timeSolution s rs flags seq time) = π s := by
  dsimp only [State.timeSolution]
  repeat' first
    | with_reducible rfl
    | fail_if_no_progress with_reducible refine (hU.tim (by decide) _ _).trans ?_
    | with_reducible refine Unseen.ite ?_ ?_
    | intro _
    | dsimp only
    | split

theorem measEpochOp_only {β : Type} {π : State → β} (hU : Unseen 0x20004a0003001422 π) (obs : List MeasObs) (s : State) :
    π (measEpochOp obs s) = π s := by
  dsimp only [measEpochOp]
  repeat' first
    | with_reducible rfl
    | with_reducible refine (State.dropDisabled_only (hU.mono (by decide)) _).trans ?_
    | with_reducible refine (State.measApply_only (hU.mono (by decide)) _).trans ?_
    | with_reducible refine (State.timeSolution_only (hU.mono (by decide)) _ _ _ _ _).trans ?_
    | with_reducible refine (State.baseReads_only (hU.mono (by decide)) _).trans ?_
    | with_reducible refine (State.advance_only (hU.mono (by decide)) _ _).trans ?_
    | with_reducible refine (State.antennaSeries_only (hU.mono (by decide)) _ _ _ _ _).trans ?_
    | with_reducible refine (hU.bumpBy (by first | decide | (simp only [wrOk, faultOk, tallyOk, bumpOk, commitOk, List.all_cons, List.all_nil, Bool.and_true] <;> decide) | (split <;> decide) | (split <;> simp only [wrOk, faultOk, tallyOk, bumpOk, commitOk, List.all_cons, List.all_nil, Bool.and_true] <;> decide)) _ _).trans ?_
    | with_reducible refine (hU.wrO (by first | decide | (simp only [wrOk, faultOk, tallyOk, bumpOk, commitOk, List.all_cons, List.all_nil, Bool.and_true] <;> decide) | (split <;> decide) | (split <;> simp only [wrOk, faultOk, tallyOk, bumpOk, commitOk, List.all_cons, List.all_nil, Bool.and_true] <;> decide)) _ _).trans ?_
    | fail_if_no_progress with_reducible refine (hU.ctr_rng (by decide) (by decide) _ _ _).trans ?_
    | with_reducible refine Unseen.ite ?_ ?_
    | intro _
    | dsimp only
    | split

theorem measRateApplyOp_only {β : Type} {π : State → β} (hU : Unseen 0x2000020001001000 π) (s : State) :
    π (measRateApplyOp s) = π s := by
  dsimp only [measRateApplyOp]
  repeat' first
    | with_reducible rfl
    | with_reducible refine (State.wholeSecond_only (hU.mono (by decide)) _).trans ?_
    | fail_if_no_progress with_reducible refine (hU.rng (by decide) _ _).trans ?_
    | with_reducible refine Unseen.ite ?_ ?_
    | split

theorem measCommitOp_only {β : Type} {π : State → β} (hU : Unseen 0x400009000008 π) (s : State) :
    π (measCommitOp s) = π s := by
  dsimp only [measCommitOp]
  repeat' first
    | with_reducible rfl
    | with_reducible refine (hU.commit (by first | decide | (simp only [wrOk, faultOk, tallyOk, bumpOk, commitOk, List.all_cons, List.all_nil, Bool.and_true, measGroup] <;> decide) | (split <;> decide) | (split <;> simp only [wrOk, faultOk, tallyOk, bumpOk, commitOk, List.all_cons, List.all_nil, Bool.and_true, measGroup] <;> decide) | (simp only [measGroup]; split <;> decide)) _ _).trans ?_
    | with_reducible refine (hU.wrO (by first | decide | (simp only [wrOk, faultOk, tallyOk, bumpOk, commitOk, List.all_cons, List.all_nil, Bool.and_true, measGroup] <;> decide) | (split <;> decide) | (split <;> simp only [wrOk, faultOk, tallyOk, bumpOk, commitOk, List.all_cons, List.all_nil, Bool.and_true, measGroup] <;> decide) | (simp only [measGroup]; split <;> decide)) _ _).trans ?_
    | fail_if_no_progress with_reducible refine (hU.rng (by decide) _ _).trans ?_
    | with_reducible refine Unseen.ite ?_ ?_
    | split

theorem trackingLoopCommitOp_only {β : Type} {π : State → β} (hU : Unseen 0x400008000008 π) (s : State) :
    π (trackingLoopCommitOp s) = π s := by
  dsimp only [trackingLoopCommitOp]
  repeat' first
    | with_reducible rfl
    | with_reducible refine (hU.commit (by first | decide | (simp only [wrOk, faultOk, tallyOk, bumpOk, commitOk, List.all_cons, List.all_nil, Bool.and_true, Reg.RNG_LOOP_CFG_DLL_BW_blk, Reg.RNG_LOOP_CFG_FLL_BW_blk, Reg.RNG_LOOP_CFG_PLL_BW_blk, Reg.RNG_LOOP_CFG_SPACING_blk, Reg.RNG_LOOP_CFG_T_COH_blk, Reg.RNG_LOOP_COMMIT_RESULT_blk, Reg.RNG_LOOP_CFG_DLL_BW_off, Reg.RNG_LOOP_CFG_FLL_BW_off, Reg.RNG_LOOP_CFG_PLL_BW_off, Reg.RNG_LOOP_CFG_SPACING_off, Reg.RNG_LOOP_CFG_T_COH_off, Reg.RNG_LOOP_COMMIT_RESULT_off] <;> decide) | (split <;> decide) | (split <;> simp only [wrOk, faultOk, tallyOk, bumpOk, commitOk, List.all_cons, List.all_nil, Bool.and_true, Reg.RNG_LOOP_CFG_DLL_BW_blk, Reg.RNG_LOOP_CFG_FLL_BW_blk, Reg.RNG_LOOP_CFG_PLL_BW_blk, Reg.RNG_LOOP_CFG_SPACING_blk, Reg.RNG_LOOP_CFG_T_COH_blk, Reg.RNG_LOOP_COMMIT_RESULT_blk, Reg.RNG_LOOP_CFG_DLL_BW_off, Reg.RNG_LOOP_CFG_FLL_BW_off, Reg.RNG_LOOP_CFG_PLL_BW_off, Reg.RNG_LOOP_CFG_SPACING_off, Reg.RNG_LOOP_CFG_T_COH_off, Reg.RNG_LOOP_COMMIT_RESULT_off] <;> decide)) _ _).trans ?_

theorem State.allocateSat_only {β : Type} {π : State → β} (hU : Unseen 0x1000000 π) (s : State) (antB : Bool) (signal : Nat) (sv : Nat) :
    π (State.allocateSat s antB signal sv) = π s := by
  dsimp only [State.allocateSat]
  repeat' first
    | with_reducible rfl
    | fail_if_no_progress with_reducible refine (hU.rng (by decide) _ _).trans ?_
    | with_reducible refine Unseen.ite ?_ ?_
    | intro _
    | split

theorem acqResultOp_only {β : Type} {π : State → β} (hU : Unseen 0x480001000420 π) (antB : Bool) (signal : Nat) (sv : Nat) (codePhase : Nat) (doppler : Nat) (peak : Nat) (k : Nat) (geo : Bool) (s : State) :
    π (acqResultOp antB signal sv codePhase doppler peak k geo s) = π s := by
  dsimp only [acqResultOp]
  repeat' first
    | with_reducible rfl
    | with_reducible refine (State.allocateSat_only (hU.mono (by decide)) _ _ _ _).trans ?_
    | with_reducible refine (State.setTrack_only (hU.mono (by decide)) _ _ _).trans ?_
    | with_reducible refine (State.allocShort_only (hU.mono (by decide)) _ _ _).trans ?_
    | with_reducible refine (State.offer_only (hU.mono (by decide)) _ _ _ _).trans ?_
    | fail_if_no_progress with_reducible refine (hU.rng (by decide) _ _).trans ?_
    | with_reducible refine Unseen.ite ?_ ?_
    | intro _
    | dsimp only
    | split

theorem channelAllocationOp_only {β : Type} {π : State → β} (hU : Unseen 0x480001000420 π) (sky0 : List SkySat) (s : State) :
    π (channelAllocationOp sky0 s) = π s := by
  dsimp only [channelAllocationOp]
  repeat' first
    | with_reducible rfl
    | with_reducible refine (State.showTracks_only (hU.mono (by decide)) _).trans ?_
    | with_reducible refine (State.allocShort_only (hU.mono (by decide)) _ _ _).trans ?_
    | fail_if_no_progress with_reducible refine (hU.rng (by decide) _ _).trans ?_
    | with_reducible refine (Unseen.foldl _ ?_ _ _).trans ?_
    | intro _
    | dsimp only
    | split

theorem State.trackTo_only {β : Type} {π : State → β} (hU : Unseen 0x400001000000 π) (s : State) (n : Nat) (from_ : List TrackState) (onto : TrackState) :
    π (State.trackTo s n from_ onto) = π s := by
  dsimp only [State.trackTo]
  repeat' first
    | with_reducible rfl
    | with_reducible refine (State.setTrack_only (hU.mono (by decide)) _ _ _).trans ?_
    | with_reducible refine Unseen.ite ?_ ?_
    | split

theorem channelTrackOp_only {β : Type} {π : State → β} (hU : Unseen 0x400001000000 π) (n : Nat) (s : State) :
    π (channelTrackOp n s) = π s := by
  dsimp only [channelTrackOp]
  repeat' first
    | with_reducible rfl
    | with_reducible refine (State.setTrack_only (hU.mono (by decide)) _ _ _).trans ?_
    | with_reducible refine Unseen.ite ?_ ?_
    | split

theorem channelLockedOp_only {β : Type} {π : State → β} (hU : Unseen 0x400001000000 π) (n : Nat) (s : State) :
    π (channelLockedOp n s) = π s := by
  dsimp only [channelLockedOp]
  repeat' first
    | with_reducible rfl
    | with_reducible refine (State.setTrack_only (hU.mono (by decide)) _ _ _).trans ?_
    | with_reducible refine Unseen.ite ?_ ?_
    | split

theorem trackingLoopUpdateOp_only {β : Type} {π : State → β} (hU : Unseen 0x400001000000 π) (n : Nat) (s : State) :
    π (trackingLoopUpdateOp n s) = π s := by
  dsimp only [trackingLoopUpdateOp]
  repeat' first
    | with_reducible rfl
    | with_reducible refine (State.setTrack_only (hU.mono (by decide)) _ _ _).trans ?_
    | with_reducible refine Unseen.ite ?_ ?_
    | split

theorem channelIdleTimeoutOp_only {β : Type} {π : State → β} (hU : Unseen 0x400001000000 π) (n : Nat) (s : State) :
    π (channelIdleTimeoutOp n s) = π s := by
  dsimp only [channelIdleTimeoutOp]
  repeat' first
    | with_reducible rfl
    | with_reducible refine (State.showTracks_only (hU.mono (by decide)) _).trans ?_
    | fail_if_no_progress with_reducible refine (hU.rng (by decide) _ _).trans ?_
    | with_reducible refine Unseen.ite ?_ ?_
    | split

theorem navRecordOp_only {β : Type} {π : State → β} (hU : Unseen 0x480001000420 π) (n : Nat) (check : Nat) (time : YTime) (payload : List Byte) (s : State) :
    π (navRecordOp n check time payload s) = π s := by
  dsimp only [navRecordOp]
  repeat' first
    | with_reducible rfl
    | with_reducible refine (State.setTrack_only (hU.mono (by decide)) _ _ _).trans ?_
    | with_reducible refine (State.send_only (hU.mono (by decide)) _ _ _ _).trans ?_
    | with_reducible refine (hU.bump (by first | decide | (simp only [wrOk, faultOk, tallyOk, bumpOk, commitOk, List.all_cons, List.all_nil, Bool.and_true] <;> decide) | (split <;> decide) | (split <;> simp only [wrOk, faultOk, tallyOk, bumpOk, commitOk, List.all_cons, List.all_nil, Bool.and_true] <;> decide)) _).trans ?_
    | with_reducible refine Unseen.ite ?_ ?_
    | dsimp only
    | split

theorem antFaultSetOp_only {β : Type} {π : State → β} (hU : Unseen 0x400000000020 π) (antB : Bool) (s : State) :
    π (antFaultSetOp antB s) = π s := by
  dsimp only [antFaultSetOp]
  repeat' first
    | with_reducible rfl
    | with_reducible refine (hU.wrO (by first | decide | (simp only [wrOk, faultOk, tallyOk, bumpOk, commitOk, List.all_cons, List.all_nil, Bool.and_true] <;> decide) | (split <;> decide) | (split <;> simp only [wrOk, faultOk, tallyOk, bumpOk, commitOk, List.all_cons, List.all_nil, Bool.and_true] <;> decide)) _ _).trans ?_
    | with_reducible refine (hU.faultWith (by first | decide | (simp only [wrOk, faultOk, tallyOk, bumpOk, commitOk, List.all_cons, List.all_nil, Bool.and_true] <;> decide) | (split <;> decide) | (split <;> simp only [wrOk, faultOk, tallyOk, bumpOk, commitOk, List.all_cons, List.all_nil, Bool.and_true] <;> decide)) _ _).trans ?_
    | with_reducible refine Unseen.ite ?_ ?_
    | split

theorem antFaultClearOp_only {β : Type} {π : State → β} (hU : Unseen 0x400000000000 π) (antB : Bool) (s : State) :
    π (antFaultClearOp antB s) = π s := by
  dsimp only [antFaultClearOp]
  repeat' first
    | with_reducible rfl
    | with_reducible refine (hU.wrO (by first | decide | (simp only [wrOk, faultOk, tallyOk, bumpOk, commitOk, List.all_cons, List.all_nil, Bool.and_true] <;> decide) | (split <;> decide) | (split <;> simp only [wrOk, faultOk, tallyOk, bumpOk, commitOk, List.all_cons, List.all_nil, Bool.and_true] <;> decide)) _ _).trans ?_
    | with_reducible refine Unseen.ite ?_ ?_
    | split

theorem bandpwrUpdateOp_only {β : Type} {π : State → β} (hU : Unseen 0x480001000420 π) (a : Word) (b : Word) (clipA : Nat) (clipB : Nat) (s : State) :
    π (bandpwrUpdateOp a b clipA clipB s) = π s := by
  dsimp only [bandpwrUpdateOp]
  repeat' first
    | with_reducible rfl
    | with_reducible refine (hU.bumpBy (by first | decide | (simp only [wrOk, faultOk, tallyOk, bumpOk, commitOk, List.all_cons, List.all_nil, Bool.and_true] <;> decide) | (split <;> decide) | (split <;> simp only [wrOk, faultOk, tallyOk, bumpOk, commitOk, List.all_cons, List.all_nil, Bool.and_true] <;> decide)) _ _).trans ?_
    | with_reducible refine (hU.wrEach (by first | decide | (simp only [wrOk, faultOk, tallyOk, bumpOk, commitOk, List.all_cons, List.all_nil, Bool.and_true] <;> decide) | (split <;> decide) | (split <;> simp only [wrOk, faultOk, tallyOk, bumpOk, commitOk, List.all_cons, List.all_nil, Bool.and_true] <;> decide)) _).trans ?_
    | with_reducible refine (hU.faultWith (by first | decide | (simp only [wrOk, faultOk, tallyOk, bumpOk, commitOk, List.all_cons, List.all_nil, Bool.and_true] <;> decide) | (split <;> decide) | (split <;> simp only [wrOk, faultOk, tallyOk, bumpOk, commitOk, List.all_cons, List.all_nil, Bool.and_true] <;> decide)) _ _).trans ?_
    | fail_if_no_progress with_reducible refine (hU.rng (by decide) _ _).trans ?_
    | with_reducible refine Unseen.ite ?_ ?_
    | split

theorem State.adcLost_only {β : Type} {π : State → β} (hU : Unseen 0x400001000020 π) (s : State) :
    π (State.adcLost s) = π s := by
  dsimp only [State.adcLost]
  repeat' first
    | with_reducible rfl
    | with_reducible refine (State.showMeas_only (hU.mono (by decide)) _).trans ?_
    | with_reducible refine (hU.fault (by first | decide | (simp only [wrOk, faultOk, tallyOk, bumpOk, commitOk, List.all_cons, List.all_nil, Bool.and_true] <;> decide) | (split <;> decide) | (split <;> simp only [wrOk, faultOk, tallyOk, bumpOk, commitOk, List.all_cons, List.all_nil, Bool.and_true] <;> decide)) _).trans ?_
    | with_reducible refine (hU.wrO (by first | decide | (simp only [wrOk, faultOk, tallyOk, bumpOk, commitOk, List.all_cons, List.all_nil, Bool.and_true] <;> decide) | (split <;> decide) | (split <;> simp only [wrOk, faultOk, tallyOk, bumpOk, commitOk, List.all_cons, List.all_nil, Bool.and_true] <;> decide)) _ _).trans ?_
    | fail_if_no_progress with_reducible refine (hU.rng (by decide) _ _).trans ?_
    | intro _
    | dsimp only


/-! ## Base -/

theorem State.showRef_only {β : Type} {π : State → β} (hU : Unseen 0x800000000000 π) (s : State) :
    π (State.showRef s) = π s := by
  dsimp only [State.showRef]
  repeat' first
    | with_reducible rfl
    | with_reducible refine (hU.wrO (by first | decide | (simp only [wrOk, faultOk, tallyOk, bumpOk, commitOk, List.all_cons, List.all_nil, Bool.and_true] <;> decide) | (split <;> decide) | (split <;> simp only [wrOk, faultOk, tallyOk, bumpOk, commitOk, List.all_cons, List.all_nil, Bool.and_true] <;> decide)) _ _).trans ?_
    | with_reducible refine Unseen.ite ?_ ?_
    | dsimp only
    | split

theorem State.storeRef_only {β : Type} {π : State → β} (hU : Unseen 0x800008000000 π) (s : State) (r : RefRec) :
    π (State.storeRef s r) = π s := by
  dsimp only [State.storeRef]
  repeat' first
    | with_reducible rfl
    | with_reducible refine (State.showRef_only (hU.mono (by decide)) _).trans ?_
    | with_reducible refine (hU.wrO (by first | decide | (simp only [wrOk, faultOk, tallyOk, bumpOk, commitOk, List.all_cons, List.all_nil, Bool.and_true] <;> decide) | (split <;> decide) | (split <;> simp only [wrOk, faultOk, tallyOk, bumpOk, commitOk, List.all_cons, List.all_nil, Bool.and_true] <;> decide)) _ _).trans ?_
    | fail_if_no_progress with_reducible refine (hU.nvm (by decide) _ _).trans ?_

theorem State.disturb_only {β : Type} {π : State → β} (hU : Unseen 0x800000000020 π) (s : State) :
    π (State.disturb s) = π s := by
  dsimp only [State.disturb]
  repeat' first
    | with_reducible rfl
    | with_reducible refine (State.showRef_only (hU.mono (by decide)) _).trans ?_
    | with_reducible refine (hU.wrO (by first | decide | (simp only [wrOk, faultOk, tallyOk, bumpOk, commitOk, List.all_cons, List.all_nil, Bool.and_true] <;> decide) | (split <;> decide) | (split <;> simp only [wrOk, faultOk, tallyOk, bumpOk, commitOk, List.all_cons, List.all_nil, Bool.and_true] <;> decide)) _ _).trans ?_
    | with_reducible refine (hU.fault (by first | decide | (simp only [wrOk, faultOk, tallyOk, bumpOk, commitOk, List.all_cons, List.all_nil, Bool.and_true] <;> decide) | (split <;> decide) | (split <;> simp only [wrOk, faultOk, tallyOk, bumpOk, commitOk, List.all_cons, List.all_nil, Bool.and_true] <;> decide)) _).trans ?_
    | with_reducible refine Unseen.ite ?_ ?_
    | split

theorem State.degrade_only {β : Type} {π : State → β} (hU : Unseen 0x800000000020 π) (s : State) :
    π (State.degrade s) = π s := by
  dsimp only [State.degrade]
  repeat' first
    | with_reducible rfl
    | with_reducible refine (hU.fault (by first | decide | (simp only [wrOk, faultOk, tallyOk, bumpOk, commitOk, List.all_cons, List.all_nil, Bool.and_true] <;> decide) | (split <;> decide) | (split <;> simp only [wrOk, faultOk, tallyOk, bumpOk, commitOk, List.all_cons, List.all_nil, Bool.and_true] <;> decide)) _).trans ?_
    | with_reducible refine (hU.wrO (by first | decide | (simp only [wrOk, faultOk, tallyOk, bumpOk, commitOk, List.all_cons, List.all_nil, Bool.and_true] <;> decide) | (split <;> decide) | (split <;> simp only [wrOk, faultOk, tallyOk, bumpOk, commitOk, List.all_cons, List.all_nil, Bool.and_true] <;> decide)) _ _).trans ?_
    | with_reducible refine Unseen.ite ?_ ?_
    | split

theorem State.leaveSurvey_only {β : Type} {π : State → β} (hU : Unseen 0xa0008c00823006e0 π) (s : State) :
    π (State.leaveSurvey s) = π s := by
  dsimp only [State.leaveSurvey]
  repeat' first
    | with_reducible rfl
    | with_reducible refine (State.enterMode_only (hU.mono (by decide)) _ _).trans ?_
    | with_reducible refine Unseen.ite ?_ ?_
    | split

theorem State.enterSurvey_only {β : Type} {π : State → β} (hU : Unseen 0xa0008c00823006e0 π) (s : State) :
    π (State.enterSurvey s) = π s := by
  dsimp only [State.enterSurvey]
  repeat' first
    | with_reducible rfl
    | with_reducible refine (State.enterMode_only (hU.mono (by decide)) _ _).trans ?_
    | with_reducible refine (hU.wrO (by first | decide | (simp only [wrOk, faultOk, tallyOk, bumpOk, commitOk, List.all_cons, List.all_nil, Bool.and_true] <;> decide) | (split <;> decide) | (split <;> simp only [wrOk, faultOk, tallyOk, bumpOk, commitOk, List.all_cons, List.all_nil, Bool.and_true] <;> decide)) _ _).trans ?_
    | with_reducible refine (hU.wrAll (by first | decide | (simp only [wrOk, faultOk, tallyOk, bumpOk, commitOk, List.all_cons, List.all_nil, Bool.and_true] <;> decide) | (split <;> decide) | (split <;> simp only [wrOk, faultOk, tallyOk, bumpOk, commitOk, List.all_cons, List.all_nil, Bool.and_true] <;> decide)) _ _).trans ?_
    | fail_if_no_progress with_reducible refine (hU.cor (by decide) _ _).trans ?_

theorem State.surveyDone_only {β : Type} {π : State → β} (hU : Unseen 0xa0008c008a3006e0 π) (s : State) :
    π (State.surveyDone s) = π s := by
  dsimp only [State.surveyDone]
  repeat' first
    | with_reducible rfl
    | with_reducible refine (State.degrade_only (hU.mono (by decide)) _).trans ?_
    | with_reducible refine (State.storeRef_only (hU.mono (by decide)) _ _).trans ?_
    | with_reducible refine (State.leaveSurvey_only (hU.mono (by decide)) _).trans ?_
    | with_reducible refine (hU.wrO (by first | decide | (simp only [wrOk, faultOk, tallyOk, bumpOk, commitOk, List.all_cons, List.all_nil, Bool.and_true] <;> decide) | (split <;> decide) | (split <;> simp only [wrOk, faultOk, tallyOk, bumpOk, commitOk, List.all_cons, List.all_nil, Bool.and_true] <;> decide)) _ _).trans ?_
    | with_reducible refine Unseen.ite ?_ ?_
    | intro _
    | dsimp only
    | split

theorem surveySecondOp_only {β : Type} {π : State → β} (hU : Unseen 0xa0008c008a3006e2 π) (sats : Nat) (x : Int) (y : Int) (z : Int) (vec : Option (Int × Int × Int)) (s : State) :
    π (surveySecondOp sats x y z vec s) = π s := by
  dsimp only [surveySecondOp]
  repeat' first
    | with_reducible rfl
    | with_reducible refine (State.surveyDone_only (hU.mono (by decide)) _).trans ?_
    | with_reducible refine (State.draw_only (hU.mono (by decide)) _ _).trans ?_
    | with_reducible refine (hU.fault (by first | decide | (simp only [wrOk, faultOk, tallyOk, bumpOk, commitOk, List.all_cons, List.all_nil, Bool.and_true] <;> decide) | (split <;> decide) | (split <;> simp only [wrOk, faultOk, tallyOk, bumpOk, commitOk, List.all_cons, List.all_nil, Bool.and_true] <;> decide)) _).trans ?_
    | with_reducible refine (hU.wrO (by first | decide | (simp only [wrOk, faultOk, tallyOk, bumpOk, commitOk, List.all_cons, List.all_nil, Bool.and_true] <;> decide) | (split <;> decide) | (split <;> simp only [wrOk, faultOk, tallyOk, bumpOk, commitOk, List.all_cons, List.all_nil, Bool.and_true] <;> decide)) _ _).trans ?_
    | fail_if_no_progress with_reducible refine (hU.cor (by decide) _ _).trans ?_
    | with_reducible refine Unseen.ite ?_ ?_
    | dsimp only
    | split

theorem State.showCre_only {β : Type} {π : State → β} (hU : Unseen 0x1000000000000 π) (s : State) :
    π (State.showCre s) = π s := by
  dsimp only [State.showCre]
  repeat' first
    | with_reducible rfl
    | with_reducible refine (hU.wrO (by first | decide | (simp only [wrOk, faultOk, tallyOk, bumpOk, commitOk, List.all_cons, List.all_nil, Bool.and_true] <;> decide) | (split <;> decide) | (split <;> simp only [wrOk, faultOk, tallyOk, bumpOk, commitOk, List.all_cons, List.all_nil, Bool.and_true] <;> decide)) _ _).trans ?_
    | intro _
    | dsimp only

theorem State.setFilt_only {β : Type} {π : State → β} (hU : Unseen 0x4000000 π) (s : State) (n : Nat) (f : Filt) :
    π (State.setFilt s n f) = π s := by
  dsimp only [State.setFilt]
  repeat' first
    | with_reducible rfl
    | fail_if_no_progress with_reducible refine (hU.cre (by decide) _ _).trans ?_

theorem State.creReset_only {β : Type} {π : State → β} (hU : Unseen 0x1000004000000 π) (s : State) (n : Nat) :
    π (State.creReset s n) = π s := by
  dsimp only [State.creReset]
  repeat' first
    | with_reducible rfl
    | with_reducible refine (State.showCre_only (hU.mono (by decide)) _).trans ?_
    | with_reducible refine (State.setFilt_only (hU.mono (by decide)) _ _ _).trans ?_
    | with_reducible refine (hU.wrO (by first | decide | (simp only [wrOk, faultOk, tallyOk, bumpOk, commitOk, List.all_cons, List.all_nil, Bool.and_true, Reg.CRE_ROBOT_AMB_FIXED_blk, Reg.CRE_ROBOT_FIX_blk, Reg.CRE_ROBOT_SATS_blk] <;> decide) | (split <;> decide) | (split <;> simp only [wrOk, faultOk, tallyOk, bumpOk, commitOk, List.all_cons, List.all_nil, Bool.and_true, Reg.CRE_ROBOT_AMB_FIXED_blk, Reg.CRE_ROBOT_FIX_blk, Reg.CRE_ROBOT_SATS_blk] <;> decide)) _ _).trans ?_

theorem State.creResetAll_only {β : Type} {π : State → β} (hU : Unseen 0x1000004000000 π) (s : State) :
    π (State.creResetAll s) = π s := by
  dsimp only [State.creResetAll]
  repeat' first
    | with_reducible rfl
    | with_reducible refine (State.creReset_only (hU.mono (by decide)) _ _).trans ?_
    | with_reducible refine (Unseen.foldl _ ?_ _ _).trans ?_
    | intro _
    | dsimp only

theorem State.creClear_only {β : Type} {π : State → β} (hU : Unseen 0x1000004000000 π) (s : State) (n : Nat) (holder : Bool) :
    π (State.creClear s n holder) = π s := by
  dsimp only [State.creClear]
  repeat' first
    | with_reducible rfl
    | with_reducible refine (State.showCre_only (hU.mono (by decide)) _).trans ?_
    | with_reducible refine (State.creReset_only (hU.mono (by decide)) _ _).trans ?_
    | with_reducible refine (State.setFilt_only (hU.mono (by decide)) _ _ _).trans ?_
    | with_reducible refine (hU.wrAll (by first | decide | (simp only [wrOk, faultOk, tallyOk, bumpOk, commitOk, List.all_cons, List.all_nil, Bool.and_true, Reg.CRE_ROBOT_ACTIVE_blk, Reg.CRE_ROBOT_XCHK_FAIL_blk] <;> decide) | (split <;> decide) | (split <;> simp only [wrOk, faultOk, tallyOk, bumpOk, commitOk, List.all_cons, List.all_nil, Bool.and_true, Reg.CRE_ROBOT_ACTIVE_blk, Reg.CRE_ROBOT_XCHK_FAIL_blk] <;> decide)) _ _).trans ?_
    | fail_if_no_progress with_reducible refine (hU.cre (by decide) _ _).trans ?_
    | with_reducible refine Unseen.ite ?_ ?_
    | split

theorem State.creLater_only {β : Type} {π : State → β} (hU : Unseen 0x1000004000000 π) (s : State) (n : Nat) (holder : Bool) :
    π (State.creLater s n holder) = π s := by
  dsimp only [State.creLater]
  repeat' first
    | with_reducible rfl
    | with_reducible refine (State.creClear_only (hU.mono (by decide)) _ _ _).trans ?_
    | fail_if_no_progress with_reducible refine (hU.cre (by decide) _ _).trans ?_
    | with_reducible refine Unseen.ite ?_ ?_
    | split

theorem State.creDue_only {β : Type} {π : State → β} (hU : Unseen 0x1000004000000 π) (s : State) (n : Nat) :
    π (State.creDue s n) = π s := by
  dsimp only [State.creDue]
  repeat' first
    | with_reducible rfl
    | with_reducible refine (State.creClear_only (hU.mono (by decide)) _ _ _).trans ?_
    | fail_if_no_progress with_reducible refine (hU.cre (by decide) _ _).trans ?_
    | with_reducible refine Unseen.ite ?_ ?_
    | with_reducible refine (Unseen.foldl _ ?_ _ _).trans ?_
    | intro _
    | dsimp only
    | split

theorem State.creForget_only {β : Type} {π : State → β} (hU : Unseen 0x1000004000000 π) (s : State) (n : Nat) :
    π (State.creForget s n) = π s := by
  dsimp only [State.creForget]
  repeat' first
    | with_reducible rfl
    | with_reducible refine (State.creLater_only (hU.mono (by decide)) _ _ _).trans ?_

theorem refCommitOp_only {β : Type} {π : State → β} (hU : Unseen 0xa0018c008e3006e8 π) (s : State) :
    π (refCommitOp s) = π s := by
  dsimp only [refCommitOp]
  repeat' first
    | with_reducible rfl
    | with_reducible refine (State.storeRef_only (hU.mono (by decide)) _ _).trans ?_
    | with_reducible refine (State.creResetAll_only (hU.mono (by decide)) _).trans ?_
    | with_reducible refine (State.leaveSurvey_only (hU.mono (by decide)) _).trans ?_
    | with_reducible refine (hU.commit (by first | decide | (simp only [wrOk, faultOk, tallyOk, bumpOk, commitOk, List.all_cons, List.all_nil, Bool.and_true, refGroup] <;> decide) | (split <;> decide) | (split <;> simp only [wrOk, faultOk, tallyOk, bumpOk, commitOk, List.all_cons, List.all_nil, Bool.and_true, refGroup] <;> decide) | (simp only [refGroup]; split <;> decide)) _ _).trans ?_
    | with_reducible refine (hU.wrO (by first | decide | (simp only [wrOk, faultOk, tallyOk, bumpOk, commitOk, List.all_cons, List.all_nil, Bool.and_true, refGroup] <;> decide) | (split <;> decide) | (split <;> simp only [wrOk, faultOk, tallyOk, bumpOk, commitOk, List.all_cons, List.all_nil, Bool.and_true, refGroup] <;> decide) | (simp only [refGroup]; split <;> decide)) _ _).trans ?_
    | with_reducible refine (hU.storeFields (by decide) _ _).trans ?_
    | fail_if_no_progress with_reducible refine (hU.cor (by decide) _ _).trans ?_
    | with_reducible refine Unseen.ite ?_ ?_
    | split

theorem State.rtcmApply_only {β : Type} {π : State → β} (hU : Unseen 0x80000a000000 π) (s : State) :
    π (State.rtcmApply s) = π s := by
  dsimp only [State.rtcmApply]
  repeat' first
    | with_reducible rfl
    | with_reducible refine (hU.wrZip (by decide) _ _).trans ?_
    | with_reducible refine (hU.storeFields (by decide) _ _).trans ?_
    | with_reducible refine (hU.wrEach (by first | decide | (simp only [wrOk, faultOk, tallyOk, bumpOk, commitOk, List.all_cons, List.all_nil, Bool.and_true, rtcmGroup] <;> decide) | (split <;> decide) | (split <;> simp only [wrOk, faultOk, tallyOk, bumpOk, commitOk, List.all_cons, List.all_nil, Bool.and_true, rtcmGroup] <;> decide) | (simp only [rtcmGroup]; split <;> decide)) _).trans ?_
    | fail_if_no_progress with_reducible refine (hU.cor (by decide) _ _).trans ?_
    | with_reducible refine Unseen.ite ?_ ?_
    | dsimp only
    | split

theorem rtcmCommitOp_only {β : Type} {π : State → β} (hU : Unseen 0x80000a000000 π) (s0 : State) :
    π (rtcmCommitOp s0) = π s0 := by
  dsimp only [rtcmCommitOp]
  repeat' first
    | with_reducible rfl
    | with_reducible refine (State.rtcmApply_only (hU.mono (by decide)) _).trans ?_
    | with_reducible refine (hU.wrO (by first | decide | (simp only [wrOk, faultOk, tallyOk, bumpOk, commitOk, List.all_cons, List.all_nil, Bool.and_true, rtcmGroup] <;> decide) | (split <;> decide) | (split <;> simp only [wrOk, faultOk, tallyOk, bumpOk, commitOk, List.all_cons, List.all_nil, Bool.and_true, rtcmGroup] <;> decide) | (simp only [rtcmGroup]; split <;> decide)) _ _).trans ?_
    | fail_if_no_progress with_reducible refine (hU.cor (by decide) _ _).trans ?_
    | with_reducible refine Unseen.ite ?_ ?_
    | intro _
    | dsimp only
    | split

theorem State.sendRtcm_only {β : Type} {π : State → β} (hU : Unseen 0x880000000420 π) (s : State) (m : Nat × List Byte) :
    π (State.sendRtcm s m) = π s := by
  dsimp only [State.sendRtcm]
  repeat' first
    | with_reducible rfl
    | with_reducible refine (State.send_only (hU.mono (by decide)) _ _ _ _).trans ?_
    | with_reducible refine (hU.wrapBy (by first | decide | (simp only [wrOk, faultOk, tallyOk, bumpOk, commitOk, List.all_cons, List.all_nil, Bool.and_true] <;> decide) | (split <;> decide) | (split <;> simp only [wrOk, faultOk, tallyOk, bumpOk, commitOk, List.all_cons, List.all_nil, Bool.and_true] <;> decide)) _ _).trans ?_
    | dsimp only

theorem State.countRates_only {β : Type} {π : State → β} (hU : Unseen 0x2000000 π) (s : State) (sec : Nat) (all : List (Nat × List Byte)) :
    π (State.countRates s sec all) = π s := by
  dsimp only [State.countRates]
  repeat' first
    | with_reducible rfl
    | fail_if_no_progress with_reducible refine (hU.cor (by decide) _ _).trans ?_
    | with_reducible refine Unseen.ite ?_ ?_
    | intro _
    | dsimp only
    | split

theorem State.deliverRtcm_only {β : Type} {π : State → β} (hU : Unseen 0x880002000420 π) (s : State) (sec : Nat) (left : List (Nat × Nat)) (st : List (Nat × List Byte)) (msm : List (Nat × List Byte)) :
    π (State.deliverRtcm s sec left st msm) = π s := by
  dsimp only [State.deliverRtcm]
  repeat' first
    | with_reducible rfl
    | with_reducible refine (State.countRates_only (hU.mono (by decide)) _ _ _).trans ?_
    | with_reducible refine (State.sendRtcm_only (hU.mono (by decide)) _ _).trans ?_
    | with_reducible refine (hU.bumpBy (by first | decide | (simp only [wrOk, faultOk, tallyOk, bumpOk, commitOk, List.all_cons, List.all_nil, Bool.and_true] <;> decide) | (split <;> decide) | (split <;> simp only [wrOk, faultOk, tallyOk, bumpOk, commitOk, List.all_cons, List.all_nil, Bool.and_true] <;> decide)) _ _).trans ?_
    | fail_if_no_progress with_reducible refine (hU.cor (by decide) _ _).trans ?_
    | with_reducible refine (Unseen.foldl _ ?_ _ _).trans ?_
    | intro _
    | dsimp only

theorem rtcmEpochOp_only {β : Type} {π : State → β} (hU : Unseen 0x20008a000a001420 π) (left : List (Nat × Nat)) (s00 : State) :
    π (rtcmEpochOp left s00) = π s00 := by
  dsimp only [rtcmEpochOp]
  repeat' first
    | with_reducible rfl
    | with_reducible refine (State.baseReads_only (hU.mono (by decide)) _).trans ?_
    | with_reducible refine (State.advance_only (hU.mono (by decide)) _ _).trans ?_
    | with_reducible refine (State.deliverRtcm_only (hU.mono (by decide)) _ _ _ _ _).trans ?_
    | with_reducible refine (State.rtcmApply_only (hU.mono (by decide)) _).trans ?_
    | with_reducible refine (hU.wrO (by first | decide | (simp only [wrOk, faultOk, tallyOk, bumpOk, commitOk, List.all_cons, List.all_nil, Bool.and_true] <;> decide) | (split <;> decide) | (split <;> simp only [wrOk, faultOk, tallyOk, bumpOk, commitOk, List.all_cons, List.all_nil, Bool.and_true] <;> decide)) _ _).trans ?_
    | with_reducible refine (hU.bump (by first | decide | (simp only [wrOk, faultOk, tallyOk, bumpOk, commitOk, List.all_cons, List.all_nil, Bool.and_true] <;> decide) | (split <;> decide) | (split <;> simp only [wrOk, faultOk, tallyOk, bumpOk, commitOk, List.all_cons, List.all_nil, Bool.and_true] <;> decide)) _).trans ?_
    | with_reducible refine (hU.fault (by first | decide | (simp only [wrOk, faultOk, tallyOk, bumpOk, commitOk, List.all_cons, List.all_nil, Bool.and_true] <;> decide) | (split <;> decide) | (split <;> simp only [wrOk, faultOk, tallyOk, bumpOk, commitOk, List.all_cons, List.all_nil, Bool.and_true] <;> decide)) _).trans ?_
    | fail_if_no_progress with_reducible refine (hU.cor (by decide) _ _).trans ?_
    | with_reducible refine Unseen.ite ?_ ?_
    | intro _
    | dsimp only
    | split

theorem casterTableOp_only {β : Type} {π : State → β} (hU : Unseen 0x800088000a000620 π) (c : Cmd) (data : List Byte) (s : State) :
    π (casterTableOp c data s) = π s := by
  dsimp only [casterTableOp]
  repeat' first
    | with_reducible rfl
    | with_reducible refine (State.finish_only (hU.mono (by decide)) _ _ _ _ _).trans ?_
    | with_reducible refine (State.hostCmd_only (hU.mono (by decide)) _ _ _ _ ?_).trans ?_
    | with_reducible refine (State.storeWith_only (hU.mono (by decide)) _ _).trans ?_
    | with_reducible refine (State.closeClients_only (hU.mono (by decide)) _ _).trans ?_
    | fail_if_no_progress with_reducible refine (hU.cor (by decide) _ _).trans ?_
    | with_reducible refine Unseen.ite ?_ ?_
    | intro _
    | dsimp only
    | split

theorem stationTextOp_only {β : Type} {π : State → β} (hU : Unseen 0x2000200 π) (c : Cmd) (data : List Byte) (s : State) :
    π (stationTextOp c data s) = π s := by
  dsimp only [stationTextOp]
  repeat' first
    | with_reducible rfl
    | with_reducible refine (State.finish_only (hU.mono (by decide)) _ _ _ _ _).trans ?_
    | with_reducible refine (State.hostCmd_only (hU.mono (by decide)) _ _ _ _ ?_).trans ?_
    | fail_if_no_progress with_reducible refine (hU.cor (by decide) _ _).trans ?_
    | with_reducible refine Unseen.ite ?_ ?_
    | intro _
    | split

theorem State.authFailed_only {β : Type} {π : State → β} (hU : Unseen 0x880002000420 π) (s : State) (addr : Nat) :
    π (State.authFailed s addr) = π s := by
  dsimp only [State.authFailed]
  repeat' first
    | with_reducible rfl
    | with_reducible refine (hU.bump (by first | decide | (simp only [wrOk, faultOk, tallyOk, bumpOk, commitOk, List.all_cons, List.all_nil, Bool.and_true] <;> decide) | (split <;> decide) | (split <;> simp only [wrOk, faultOk, tallyOk, bumpOk, commitOk, List.all_cons, List.all_nil, Bool.and_true] <;> decide)) _).trans ?_
    | with_reducible refine (hU.fault (by first | decide | (simp only [wrOk, faultOk, tallyOk, bumpOk, commitOk, List.all_cons, List.all_nil, Bool.and_true] <;> decide) | (split <;> decide) | (split <;> simp only [wrOk, faultOk, tallyOk, bumpOk, commitOk, List.all_cons, List.all_nil, Bool.and_true] <;> decide)) _).trans ?_
    | fail_if_no_progress with_reducible refine (hU.cor (by decide) _ _).trans ?_
    | with_reducible refine Unseen.ite ?_ ?_
    | intro _
    | dsimp only
    | split

theorem State.answered_only {β : Type} {π : State → β} (hU : Unseen 0x2000000 π) (s : State) (a : Nat) :
    π (State.answered s a) = π s := by
  dsimp only [State.answered]
  repeat' first
    | with_reducible rfl
    | fail_if_no_progress with_reducible refine (hU.cor (by decide) _ _).trans ?_

theorem State.sourcetable_only {β : Type} {π : State → β} (hU : Unseen 0x2000000 π) (s : State) :
    π (State.sourcetable s) = π s := by
  dsimp only [State.sourcetable]
  repeat' first
    | with_reducible rfl
    | with_reducible refine (State.answered_only (hU.mono (by decide)) _ _).trans ?_
    | fail_if_no_progress with_reducible refine (hU.cor (by decide) _ _).trans ?_
    | intro _
    | dsimp only

theorem casterRequestOp_only {β : Type} {π : State → β} (hU : Unseen 0x8000880002000420 π) (q : CastReq) (s : State) :
    π (casterRequestOp q s) = π s := by
  dsimp only [casterRequestOp]
  repeat' first
    | with_reducible rfl
    | with_reducible refine (State.answered_only (hU.mono (by decide)) _ _).trans ?_
    | with_reducible refine (State.authFailed_only (hU.mono (by decide)) _ _).trans ?_
    | with_reducible refine (State.showCaster_only (hU.mono (by decide)) _).trans ?_
    | with_reducible refine (State.sourcetable_only (hU.mono (by decide)) _).trans ?_
    | with_reducible refine (hU.bump (by first | decide | (simp only [wrOk, faultOk, tallyOk, bumpOk, commitOk, List.all_cons, List.all_nil, Bool.and_true] <;> decide) | (split <;> decide) | (split <;> simp only [wrOk, faultOk, tallyOk, bumpOk, commitOk, List.all_cons, List.all_nil, Bool.and_true] <;> decide)) _).trans ?_
    | with_reducible refine (hU.fault (by first | decide | (simp only [wrOk, faultOk, tallyOk, bumpOk, commitOk, List.all_cons, List.all_nil, Bool.and_true] <;> decide) | (split <;> decide) | (split <;> simp only [wrOk, faultOk, tallyOk, bumpOk, commitOk, List.all_cons, List.all_nil, Bool.and_true] <;> decide)) _).trans ?_
    | fail_if_no_progress with_reducible refine (hU.cor (by decide) _ _).trans ?_
    | with_reducible refine Unseen.ite ?_ ?_
    | intro _
    | dsimp only
    | split

theorem casterRequestTimeoutOp_only {β : Type} {π : State → β} (hU : Unseen 0x880002000420 π) (s : State) :
    π (casterRequestTimeoutOp s) = π s := by
  dsimp only [casterRequestTimeoutOp]
  repeat' first
    | with_reducible rfl
    | with_reducible refine (State.answered_only (hU.mono (by decide)) _ _).trans ?_
    | with_reducible refine (hU.bump (by first | decide | (simp only [wrOk, faultOk, tallyOk, bumpOk, commitOk, List.all_cons, List.all_nil, Bool.and_true] <;> decide) | (split <;> decide) | (split <;> simp only [wrOk, faultOk, tallyOk, bumpOk, commitOk, List.all_cons, List.all_nil, Bool.and_true] <;> decide)) _).trans ?_

theorem lockoutExpireOp_only {β : Type} {π : State → β} (hU : Unseen 0x2000000 π) (addr : Nat) (s : State) :
    π (lockoutExpireOp addr s) = π s := by
  dsimp only [lockoutExpireOp]
  repeat' first
    | with_reducible rfl
    | fail_if_no_progress with_reducible refine (hU.cor (by decide) _ _).trans ?_

theorem clientBacklogTimeoutOp_only {β : Type} {π : State → β} (hU : Unseen 0x8000880002000420 π) (id : Nat) (s : State) :
    π (clientBacklogTimeoutOp id s) = π s := by
  dsimp only [clientBacklogTimeoutOp]
  repeat' first
    | with_reducible rfl
    | with_reducible refine (State.closeClients_only (hU.mono (by decide)) _ _).trans ?_
    | intro _

theorem casterCommitOp_only {β : Type} {π : State → β} (hU : Unseen 0x800088000a000428 π) (s : State) :
    π (casterCommitOp s) = π s := by
  dsimp only [casterCommitOp]
  repeat' first
    | with_reducible rfl
    | with_reducible refine (State.closeClients_only (hU.mono (by decide)) _ _).trans ?_
    | with_reducible refine (hU.commit (by first | decide | (simp only [wrOk, faultOk, tallyOk, bumpOk, commitOk, List.all_cons, List.all_nil, Bool.and_true] <;> decide) | (split <;> decide) | (split <;> simp only [wrOk, faultOk, tallyOk, bumpOk, commitOk, List.all_cons, List.all_nil, Bool.and_true] <;> decide)) _ _).trans ?_
    | with_reducible refine Unseen.ite ?_ ?_
    | intro _
    | split

theorem compactEpochOp_only {β : Type} {π : State → β} (hU : Unseen 0x20008a000a401420 π) (s00 : State) :
    π (compactEpochOp s00) = π s00 := by
  dsimp only [compactEpochOp]
  repeat' first
    | with_reducible rfl
    | with_reducible refine (State.sendRadio_only (hU.mono (by decide)) _ _ _).trans ?_
    | with_reducible refine (State.send_only (hU.mono (by decide)) _ _ _ _).trans ?_
    | with_reducible refine (State.baseReads_only (hU.mono (by decide)) _).trans ?_
    | with_reducible refine (State.advance_only (hU.mono (by decide)) _ _).trans ?_
    | with_reducible refine (State.rtcmApply_only (hU.mono (by decide)) _).trans ?_
    | with_reducible refine (hU.wrO (by first | decide | (simp only [wrOk, faultOk, tallyOk, bumpOk, commitOk, List.all_cons, List.all_nil, Bool.and_true] <;> decide) | (split <;> decide) | (split <;> simp only [wrOk, faultOk, tallyOk, bumpOk, commitOk, List.all_cons, List.all_nil, Bool.and_true] <;> decide)) _ _).trans ?_
    | with_reducible refine (hU.bump (by first | decide | (simp only [wrOk, faultOk, tallyOk, bumpOk, commitOk, List.all_cons, List.all_nil, Bool.and_true] <;> decide) | (split <;> decide) | (split <;> simp only [wrOk, faultOk, tallyOk, bumpOk, commitOk, List.all_cons, List.all_nil, Bool.and_true] <;> decide)) _).trans ?_
    | with_reducible refine (hU.fault (by first | decide | (simp only [wrOk, faultOk, tallyOk, bumpOk, commitOk, List.all_cons, List.all_nil, Bool.and_true] <;> decide) | (split <;> decide) | (split <;> simp only [wrOk, faultOk, tallyOk, bumpOk, commitOk, List.all_cons, List.all_nil, Bool.and_true] <;> decide)) _).trans ?_
    | fail_if_no_progress with_reducible refine (hU.cor (by decide) _ _).trans ?_
    | fail_if_no_progress with_reducible refine (hU.zyp (by decide) _ _).trans ?_
    | fail_if_no_progress with_reducible refine (hU.zyp_cor (by decide) (by decide) _ _ _).trans ?_
    | with_reducible refine Unseen.ite ?_ ?_
    | dsimp only
    | split

theorem monitorRunOp_only {β : Type} {π : State → β} (hU : Unseen 0x880002000420 π) (vec : Option (Int × Int × Int)) (s0 : State) :
    π (monitorRunOp vec s0) = π s0 := by
  dsimp only [monitorRunOp]
  repeat' first
    | with_reducible rfl
    | with_reducible refine (State.disturb_only (hU.mono (by decide)) _).trans ?_
    | with_reducible refine (State.degrade_only (hU.mono (by decide)) _).trans ?_
    | with_reducible refine (State.send_only (hU.mono (by decide)) _ _ _ _).trans ?_
    | with_reducible refine (State.baseReads_only (hU.mono (by decide)) _).trans ?_
    | with_reducible refine (hU.wrO (by first | decide | (simp only [wrOk, faultOk, tallyOk, bumpOk, commitOk, List.all_cons, List.all_nil, Bool.and_true] <;> decide) | (split <;> decide) | (split <;> simp only [wrOk, faultOk, tallyOk, bumpOk, commitOk, List.all_cons, List.all_nil, Bool.and_true] <;> decide)) _ _).trans ?_
    | fail_if_no_progress with_reducible refine (hU.cor (by decide) _ _).trans ?_
    | with_reducible refine Unseen.ite ?_ ?_
    | intro _
    | dsimp only
    | split

theorem driftCheckOp_only {β : Type} {π : State → β} (hU : Unseen 0x800002000020 π) (x : Int) (y : Int) (z : Int) (s : State) :
    π (driftCheckOp x y z s) = π s := by
  dsimp only [driftCheckOp]
  repeat' first
    | with_reducible rfl
    | with_reducible refine (State.disturb_only (hU.mono (by decide)) _).trans ?_
    | with_reducible refine (hU.wrO (by first | decide | (simp only [wrOk, faultOk, tallyOk, bumpOk, commitOk, List.all_cons, List.all_nil, Bool.and_true] <;> decide) | (split <;> decide) | (split <;> simp only [wrOk, faultOk, tallyOk, bumpOk, commitOk, List.all_cons, List.all_nil, Bool.and_true] <;> decide)) _ _).trans ?_
    | fail_if_no_progress with_reducible refine (hU.cor (by decide) _ _).trans ?_
    | with_reducible refine Unseen.ite ?_ ?_
    | dsimp only
    | split

theorem distClearOp_only {β : Type} {π : State → β} (hU : Unseen 0x800000000000 π) (s : State) :
    π (distClearOp s) = π s := by
  dsimp only [distClearOp]
  repeat' first
    | with_reducible rfl
    | with_reducible refine (State.showRef_only (hU.mono (by decide)) _).trans ?_
    | with_reducible refine (hU.wrO (by first | decide | (simp only [wrOk, faultOk, tallyOk, bumpOk, commitOk, List.all_cons, List.all_nil, Bool.and_true] <;> decide) | (split <;> decide) | (split <;> simp only [wrOk, faultOk, tallyOk, bumpOk, commitOk, List.all_cons, List.all_nil, Bool.and_true] <;> decide)) _ _).trans ?_
    | with_reducible refine Unseen.ite ?_ ?_
    | split

theorem monitorCommitOp_only {β : Type} {π : State → β} (hU : Unseen 0x800008000008 π) (s : State) :
    π (monitorCommitOp s) = π s := by
  dsimp only [monitorCommitOp]
  repeat' first
    | with_reducible rfl
    | with_reducible refine (hU.commit (by first | decide | (simp only [wrOk, faultOk, tallyOk, bumpOk, commitOk, List.all_cons, List.all_nil, Bool.and_true] <;> decide) | (split <;> decide) | (split <;> simp only [wrOk, faultOk, tallyOk, bumpOk, commitOk, List.all_cons, List.all_nil, Bool.and_true] <;> decide)) _ _).trans ?_
    | with_reducible refine (hU.wrO (by first | decide | (simp only [wrOk, faultOk, tallyOk, bumpOk, commitOk, List.all_cons, List.all_nil, Bool.and_true] <;> decide) | (split <;> decide) | (split <;> simp only [wrOk, faultOk, tallyOk, bumpOk, commitOk, List.all_cons, List.all_nil, Bool.and_true] <;> decide)) _ _).trans ?_
    | with_reducible refine Unseen.ite ?_ ?_
    | split


/-! ## Central -/

theorem State.showCreRuns_only {β : Type} {π : State → β} (hU : Unseen 0x1000000000000 π) (s : State) :
    π (State.showCreRuns s) = π s := by
  dsimp only [State.showCreRuns]
  repeat' first
    | with_reducible rfl
    | with_reducible refine (hU.wrO (by first | decide | (simp only [wrOk, faultOk, tallyOk, bumpOk, commitOk, List.all_cons, List.all_nil, Bool.and_true] <;> decide) | (split <;> decide) | (split <;> simp only [wrOk, faultOk, tallyOk, bumpOk, commitOk, List.all_cons, List.all_nil, Bool.and_true] <;> decide)) _ _).trans ?_

theorem baseSeriesIntakeOp_only {β : Type} {π : State → β} (hU : Unseen 0x1000004000400 π) (s : State) :
    π (baseSeriesIntakeOp s) = π s := by
  dsimp only [baseSeriesIntakeOp]
  repeat' first
    | with_reducible rfl
    | with_reducible refine (State.takeAny_only (hU.mono (by decide)) _ _).trans ?_
    | with_reducible refine (hU.wrO (by first | decide | (simp only [wrOk, faultOk, tallyOk, bumpOk, commitOk, List.all_cons, List.all_nil, Bool.and_true] <;> decide) | (split <;> decide) | (split <;> simp only [wrOk, faultOk, tallyOk, bumpOk, commitOk, List.all_cons, List.all_nil, Bool.and_true] <;> decide)) _ _).trans ?_
    | fail_if_no_progress with_reducible refine (hU.cre (by decide) _ _).trans ?_
    | with_reducible refine Unseen.ite ?_ ?_
    | dsimp only
    | split

theorem State.refuseReply_only {β : Type} {π : State → β} (hU : Unseen 0x1c0080000400420 π) (s : State) (lid : Nat) (typ : Nat) (seq : Nat) (status : Nat) :
    π (State.refuseReply s lid typ seq status) = π s := by
  dsimp only [State.refuseReply]
  repeat' first
    | with_reducible rfl
    | with_reducible refine (State.sendPair_only (hU.mono (by decide)) _ _ _ _).trans ?_
    | fail_if_no_progress with_reducible refine (hU.zyp (by decide) _ _).trans ?_
    | with_reducible refine Unseen.ite ?_ ?_
    | split

theorem State.refuseObs_only {β : Type} {π : State → β} {m : Nat} (h0 : Unseen m π) (hm : 0x1c1080000400420 &&& m = 0x1c1080000400420) (s : State) (f : ObsFrame) (status : Nat) (counter : Fld) (bcounter : bumpOk m counter Reg.CRE_FAULT_CNT_SAT = true) :
    π (State.refuseObs s f status counter) = π s := by
  have hU := h0.mono hm
  dsimp only [State.refuseObs]
  repeat' first
    | with_reducible rfl
    | with_reducible refine (h0.bump bcounter _).trans ?_
    | with_reducible refine (State.refuseReply_only (hU.mono (by decide)) _ _ _ _ _).trans ?_
    | with_reducible refine (hU.bump (by first | decide | (simp only [wrOk, faultOk, tallyOk, bumpOk, commitOk, List.all_cons, List.all_nil, Bool.and_true] <;> decide) | (split <;> decide) | (split <;> simp only [wrOk, faultOk, tallyOk, bumpOk, commitOk, List.all_cons, List.all_nil, Bool.and_true] <;> decide)) _).trans ?_

theorem State.dropPart_only {β : Type} {π : State → β} (hU : Unseen 0x1080000000420 π) (s : State) :
    π (State.dropPart s) = π s := by
  dsimp only [State.dropPart]
  repeat' first
    | with_reducible rfl
    | with_reducible refine (hU.bump (by first | decide | (simp only [wrOk, faultOk, tallyOk, bumpOk, commitOk, List.all_cons, List.all_nil, Bool.and_true] <;> decide) | (split <;> decide) | (split <;> simp only [wrOk, faultOk, tallyOk, bumpOk, commitOk, List.all_cons, List.all_nil, Bool.and_true] <;> decide)) _).trans ?_
    | with_reducible refine (hU.fault (by first | decide | (simp only [wrOk, faultOk, tallyOk, bumpOk, commitOk, List.all_cons, List.all_nil, Bool.and_true] <;> decide) | (split <;> decide) | (split <;> simp only [wrOk, faultOk, tallyOk, bumpOk, commitOk, List.all_cons, List.all_nil, Bool.and_true] <;> decide)) _).trans ?_

theorem State.losePart_only {β : Type} {π : State → β} (hU : Unseen 0x1080004000420 π) (s : State) (lid : Nat) :
    π (State.losePart s lid) = π s := by
  dsimp only [State.losePart]
  repeat' first
    | with_reducible rfl
    | with_reducible refine (State.setFilt_only (hU.mono (by decide)) _ _ _).trans ?_
    | with_reducible refine (State.dropPart_only (hU.mono (by decide)) _).trans ?_

theorem State.acceptObs_only {β : Type} {π : State → β} (hU : Unseen 0x1000004000000 π) (s : State) (e : ObsEpoch) :
    π (State.acceptObs s e) = π s := by
  dsimp only [State.acceptObs]
  repeat' first
    | with_reducible rfl
    | with_reducible refine (State.showCre_only (hU.mono (by decide)) _).trans ?_
    | with_reducible refine (State.setFilt_only (hU.mono (by decide)) _ _ _).trans ?_
    | with_reducible refine (hU.wrapBy (by first | decide | (simp only [wrOk, faultOk, tallyOk, bumpOk, commitOk, List.all_cons, List.all_nil, Bool.and_true, Reg.CRE_ROBOT_ACTIVE_blk] <;> decide) | (split <;> decide) | (split <;> simp only [wrOk, faultOk, tallyOk, bumpOk, commitOk, List.all_cons, List.all_nil, Bool.and_true, Reg.CRE_ROBOT_ACTIVE_blk] <;> decide)) _ _).trans ?_
    | with_reducible refine (hU.wrO (by first | decide | (simp only [wrOk, faultOk, tallyOk, bumpOk, commitOk, List.all_cons, List.all_nil, Bool.and_true, Reg.CRE_ROBOT_ACTIVE_blk] <;> decide) | (split <;> decide) | (split <;> simp only [wrOk, faultOk, tallyOk, bumpOk, commitOk, List.all_cons, List.all_nil, Bool.and_true, Reg.CRE_ROBOT_ACTIVE_blk] <;> decide)) _ _).trans ?_
    | fail_if_no_progress with_reducible refine (hU.cre (by decide) _ _).trans ?_

theorem State.takePart_only {β : Type} {π : State → β} (hU : Unseen 0x1c1080004400420 π) (s : State) (f : ObsFrame) (e : ObsEpoch) :
    π (State.takePart s f e) = π s := by
  dsimp only [State.takePart]
  repeat' first
    | with_reducible rfl
    | with_reducible refine (State.losePart_only (hU.mono (by decide)) _ _).trans ?_
    | with_reducible refine (State.acceptObs_only (hU.mono (by decide)) _ _).trans ?_
    | with_reducible refine (State.refuseObs_only hU (by decide) _ _ _ _ (by first | decide | (simp only [wrOk, faultOk, tallyOk, bumpOk, commitOk, List.all_cons, List.all_nil, Bool.and_true] <;> decide) | (split <;> decide) | (split <;> simp only [wrOk, faultOk, tallyOk, bumpOk, commitOk, List.all_cons, List.all_nil, Bool.and_true] <;> decide))).trans ?_
    | with_reducible refine (State.setFilt_only (hU.mono (by decide)) _ _ _).trans ?_
    | with_reducible refine (State.dropPart_only (hU.mono (by decide)) _).trans ?_
    | with_reducible refine Unseen.ite ?_ ?_
    | dsimp only
    | split

theorem State.checkObs_only {β : Type} {π : State → β} (hU : Unseen 0x1c1080004400420 π) (s : State) (f : ObsFrame) (ageMs : Nat) :
    π (State.checkObs s f ageMs) = π s := by
  dsimp only [State.checkObs]
  repeat' first
    | with_reducible rfl
    | with_reducible refine (State.takePart_only (hU.mono (by decide)) _ _ _).trans ?_
    | with_reducible refine (State.refuseObs_only hU (by decide) _ _ _ _ (by first | decide | (simp only [wrOk, faultOk, tallyOk, bumpOk, commitOk, List.all_cons, List.all_nil, Bool.and_true] <;> decide) | (split <;> decide) | (split <;> simp only [wrOk, faultOk, tallyOk, bumpOk, commitOk, List.all_cons, List.all_nil, Bool.and_true] <;> decide))).trans ?_
    | with_reducible refine Unseen.ite ?_ ?_
    | dsimp only
    | split

theorem creObsIntakeOp_only {β : Type} {π : State → β} (hU : Unseen 0x1c1080004400420 π) (chute : Nat) (ageMs : Nat) (s : State) :
    π (creObsIntakeOp chute ageMs s) = π s := by
  dsimp only [creObsIntakeOp]
  repeat' first
    | with_reducible rfl
    | with_reducible refine (State.checkObs_only (hU.mono (by decide)) _ _ _).trans ?_
    | with_reducible refine (State.takeAny_only (hU.mono (by decide)) _ _).trans ?_
    | with_reducible refine (State.showCreRuns_only (hU.mono (by decide)) _).trans ?_
    | dsimp only
    | split

theorem partHoldTimeoutOp_only {β : Type} {π : State → β} (hU : Unseen 0x1080004000420 π) (lid : Nat) (s : State) :
    π (partHoldTimeoutOp lid s) = π s := by
  dsimp only [partHoldTimeoutOp]
  repeat' first
    | with_reducible rfl
    | with_reducible refine (State.losePart_only (hU.mono (by decide)) _ _).trans ?_
    | with_reducible refine Unseen.ite ?_ ?_
    | split

theorem basePairTimeoutOp_only {β : Type} {π : State → β} (hU : Unseen 0x1080004000420 π) (lid : Nat) (s : State) :
    π (basePairTimeoutOp lid s) = π s := by
  dsimp only [basePairTimeoutOp]
  repeat' first
    | with_reducible rfl
    | with_reducible refine (hU.bump (by first | decide | (simp only [wrOk, faultOk, tallyOk, bumpOk, commitOk, List.all_cons, List.all_nil, Bool.and_true] <;> decide) | (split <;> decide) | (split <;> simp only [wrOk, faultOk, tallyOk, bumpOk, commitOk, List.all_cons, List.all_nil, Bool.and_true] <;> decide)) _).trans ?_
    | with_reducible refine (hU.fault (by first | decide | (simp only [wrOk, faultOk, tallyOk, bumpOk, commitOk, List.all_cons, List.all_nil, Bool.and_true] <;> decide) | (split <;> decide) | (split <;> simp only [wrOk, faultOk, tallyOk, bumpOk, commitOk, List.all_cons, List.all_nil, Bool.and_true] <;> decide)) _).trans ?_
    | with_reducible refine (hU.wrO (by first | decide | (simp only [wrOk, faultOk, tallyOk, bumpOk, commitOk, List.all_cons, List.all_nil, Bool.and_true] <;> decide) | (split <;> decide) | (split <;> simp only [wrOk, faultOk, tallyOk, bumpOk, commitOk, List.all_cons, List.all_nil, Bool.and_true] <;> decide)) _ _).trans ?_
    | fail_if_no_progress with_reducible refine (hU.cre (by decide) _ _).trans ?_
    | with_reducible refine Unseen.ite ?_ ?_
    | intro _
    | dsimp only
    | split

theorem State.crossCheck_only {β : Type} {π : State → β} (hU : Unseen 0x1080004000420 π) (s : State) (lid : Nat) (dist : Nat) (limit : Nat) :
    π (State.crossCheck s lid dist limit) = π s := by
  dsimp only [State.crossCheck]
  repeat' first
    | with_reducible rfl
    | with_reducible refine (State.setFilt_only (hU.mono (by decide)) _ _ _).trans ?_
    | with_reducible refine (hU.wrO (by first | decide | (simp only [wrOk, faultOk, tallyOk, bumpOk, commitOk, List.all_cons, List.all_nil, Bool.and_true, Reg.CRE_ROBOT_XCHK_FAIL_blk] <;> decide) | (split <;> decide) | (split <;> simp only [wrOk, faultOk, tallyOk, bumpOk, commitOk, List.all_cons, List.all_nil, Bool.and_true, Reg.CRE_ROBOT_XCHK_FAIL_blk] <;> decide)) _ _).trans ?_
    | with_reducible refine (hU.event (by decide) _ _ _ _).trans ?_
    | with_reducible refine (hU.bump (by first | decide | (simp only [wrOk, faultOk, tallyOk, bumpOk, commitOk, List.all_cons, List.all_nil, Bool.and_true, Reg.CRE_ROBOT_XCHK_FAIL_blk] <;> decide) | (split <;> decide) | (split <;> simp only [wrOk, faultOk, tallyOk, bumpOk, commitOk, List.all_cons, List.all_nil, Bool.and_true, Reg.CRE_ROBOT_XCHK_FAIL_blk] <;> decide)) _).trans ?_
    | with_reducible refine (hU.fault (by first | decide | (simp only [wrOk, faultOk, tallyOk, bumpOk, commitOk, List.all_cons, List.all_nil, Bool.and_true, Reg.CRE_ROBOT_XCHK_FAIL_blk] <;> decide) | (split <;> decide) | (split <;> simp only [wrOk, faultOk, tallyOk, bumpOk, commitOk, List.all_cons, List.all_nil, Bool.and_true, Reg.CRE_ROBOT_XCHK_FAIL_blk] <;> decide)) _).trans ?_
    | with_reducible refine Unseen.ite ?_ ?_
    | split

theorem State.creLatency_only {β : Type} {π : State → β} (hU : Unseen 0x1080000000420 π) (s : State) (us : Nat) :
    π (State.creLatency s us) = π s := by
  dsimp only [State.creLatency]
  repeat' first
    | with_reducible rfl
    | with_reducible refine (State.tallyAdd_only (hU.mono (by decide)) _ _ _).trans ?_
    | with_reducible refine (State.tallyOffer_only (hU.mono (by decide)) _ _ _).trans ?_
    | with_reducible refine (hU.wrO (by first | decide | (simp only [wrOk, faultOk, tallyOk, bumpOk, commitOk, List.all_cons, List.all_nil, Bool.and_true] <;> decide) | (split <;> decide) | (split <;> simp only [wrOk, faultOk, tallyOk, bumpOk, commitOk, List.all_cons, List.all_nil, Bool.and_true] <;> decide)) _ _).trans ?_

theorem State.creRecord_only {β : Type} {π : State → β} (hU : Unseen 0x1080000000420 π) (s : State) (chute : Nat) (b : List Nat) :
    π ((State.creRecord s chute b).1) = π s := by
  dsimp only [State.creRecord]
  repeat' first
    | with_reducible rfl
    | with_reducible refine (State.offer_only (hU.mono (by decide)) _ _ _ _).trans ?_
    | with_reducible refine (hU.bump (by first | decide | (simp only [wrOk, faultOk, tallyOk, bumpOk, commitOk, List.all_cons, List.all_nil, Bool.and_true] <;> decide) | (split <;> decide) | (split <;> simp only [wrOk, faultOk, tallyOk, bumpOk, commitOk, List.all_cons, List.all_nil, Bool.and_true] <;> decide)) _).trans ?_
    | with_reducible refine Unseen.ite ?_ ?_
    | dsimp only
    | split

theorem State.countEpoch_only {β : Type} {π : State → β} (hU : Unseen 0x1080000000420 π) (s : State) (x : Solution) :
    π (State.countEpoch s x) = π s := by
  dsimp only [State.countEpoch]
  repeat' first
    | with_reducible rfl
    | with_reducible refine (hU.bump (by first | decide | (simp only [wrOk, faultOk, tallyOk, bumpOk, commitOk, List.all_cons, List.all_nil, Bool.and_true] <;> decide) | (split <;> decide) | (split <;> simp only [wrOk, faultOk, tallyOk, bumpOk, commitOk, List.all_cons, List.all_nil, Bool.and_true] <;> decide)) _).trans ?_
    | with_reducible refine (hU.wrapBy (by first | decide | (simp only [wrOk, faultOk, tallyOk, bumpOk, commitOk, List.all_cons, List.all_nil, Bool.and_true] <;> decide) | (split <;> decide) | (split <;> simp only [wrOk, faultOk, tallyOk, bumpOk, commitOk, List.all_cons, List.all_nil, Bool.and_true] <;> decide)) _ _).trans ?_
    | with_reducible refine (hU.fault (by first | decide | (simp only [wrOk, faultOk, tallyOk, bumpOk, commitOk, List.all_cons, List.all_nil, Bool.and_true] <;> decide) | (split <;> decide) | (split <;> simp only [wrOk, faultOk, tallyOk, bumpOk, commitOk, List.all_cons, List.all_nil, Bool.and_true] <;> decide)) _).trans ?_
    | with_reducible refine (hU.bumpBy (by first | decide | (simp only [wrOk, faultOk, tallyOk, bumpOk, commitOk, List.all_cons, List.all_nil, Bool.and_true] <;> decide) | (split <;> decide) | (split <;> simp only [wrOk, faultOk, tallyOk, bumpOk, commitOk, List.all_cons, List.all_nil, Bool.and_true] <;> decide)) _ _).trans ?_
    | with_reducible refine Unseen.ite ?_ ?_
    | split

theorem State.publish_only {β : Type} {π : State → β} (hU : Unseen 0x1d1080014440c22 π) (s5 : State) (e : ObsEpoch) (x : Solution) (fix : Nat) (done : YTime) (us : Nat) :
    π (State.publish s5 e x fix done us) = π s5 := by
  dsimp only [State.publish]
  repeat' first
    | with_reducible rfl
    | with_reducible refine (State.creLatency_only (hU.mono (by decide)) _ _).trans ?_
    | with_reducible refine (State.raiseOwn_only hU (by decide) _ _ _ _ (by first | decide | (simp only [wrOk, faultOk, tallyOk, bumpOk, commitOk, List.all_cons, List.all_nil, Bool.and_true, Reg.TRP_ROBOT_INTEGRITY_blk] <;> decide) | (split <;> decide) | (split <;> simp only [wrOk, faultOk, tallyOk, bumpOk, commitOk, List.all_cons, List.all_nil, Bool.and_true, Reg.TRP_ROBOT_INTEGRITY_blk] <;> decide))).trans ?_
    | with_reducible refine (State.setFilt_only (hU.mono (by decide)) _ _ _).trans ?_
    | with_reducible refine (State.crossCheck_only (hU.mono (by decide)) _ _ _ _).trans ?_
    | with_reducible refine (State.creRecord_only (hU.mono (by decide)) _ _ _).trans ?_
    | with_reducible refine (hU.bump (by first | decide | (simp only [wrOk, faultOk, tallyOk, bumpOk, commitOk, List.all_cons, List.all_nil, Bool.and_true, Reg.TRP_ROBOT_INTEGRITY_blk] <;> decide) | (split <;> decide) | (split <;> simp only [wrOk, faultOk, tallyOk, bumpOk, commitOk, List.all_cons, List.all_nil, Bool.and_true, Reg.TRP_ROBOT_INTEGRITY_blk] <;> decide)) _).trans ?_
    | with_reducible refine (hU.fault (by first | decide | (simp only [wrOk, faultOk, tallyOk, bumpOk, commitOk, List.all_cons, List.all_nil, Bool.and_true, Reg.TRP_ROBOT_INTEGRITY_blk] <;> decide) | (split <;> decide) | (split <;> simp only [wrOk, faultOk, tallyOk, bumpOk, commitOk, List.all_cons, List.all_nil, Bool.and_true, Reg.TRP_ROBOT_INTEGRITY_blk] <;> decide)) _).trans ?_
    | fail_if_no_progress with_reducible refine (hU.cre (by decide) _ _).trans ?_
    | with_reducible refine Unseen.ite ?_ ?_
    | dsimp only
    | split

theorem State.creStateEcc_only {β : Type} {π : State → β} (hU : Unseen 0x1000004000020 π) (s : State) (lid : Nat) :
    π (State.creStateEcc s lid) = π s := by
  dsimp only [State.creStateEcc]
  repeat' first
    | with_reducible rfl
    | with_reducible refine (State.creReset_only (hU.mono (by decide)) _ _).trans ?_
    | with_reducible refine (hU.fault (by first | decide | (simp only [wrOk, faultOk, tallyOk, bumpOk, commitOk, List.all_cons, List.all_nil, Bool.and_true] <;> decide) | (split <;> decide) | (split <;> simp only [wrOk, faultOk, tallyOk, bumpOk, commitOk, List.all_cons, List.all_nil, Bool.and_true] <;> decide)) _).trans ?_

theorem robotEpochCompleteOp_only {β : Type} {π : State → β} (hU : Unseen 0x41d1080014440c22 π) (ecc : Ecc) (eph : List EphSat) (done : YTime) (us : Nat) (s0 : State) :
    π (robotEpochCompleteOp ecc eph done us s0) = π s0 := by
  dsimp only [robotEpochCompleteOp]
  repeat' first
    | with_reducible rfl
    | with_reducible refine (State.creStateEcc_only (hU.mono (by decide)) _ _).trans ?_
    | with_reducible refine (State.showCreRuns_only (hU.mono (by decide)) _).trans ?_
    | with_reducible refine (State.countEpoch_only (hU.mono (by decide)) _ _).trans ?_
    | with_reducible refine (State.creDue_only (hU.mono (by decide)) _ _).trans ?_
    | with_reducible refine (State.setFilt_only (hU.mono (by decide)) _ _ _).trans ?_
    | with_reducible refine (State.showCre_only (hU.mono (by decide)) _).trans ?_
    | with_reducible refine (State.publish_only (hU.mono (by decide)) _ _ _ _ _ _).trans ?_
    | with_reducible refine (hU.wrapBy (by first | decide | (simp only [wrOk, faultOk, tallyOk, bumpOk, commitOk, List.all_cons, List.all_nil, Bool.and_true, Reg.CRE_ROBOT_AMB_FIXED_blk, Reg.CRE_ROBOT_FIX_blk, Reg.CRE_ROBOT_SATS_blk] <;> decide) | (split <;> decide) | (split <;> simp only [wrOk, faultOk, tallyOk, bumpOk, commitOk, List.all_cons, List.all_nil, Bool.and_true, Reg.CRE_ROBOT_AMB_FIXED_blk, Reg.CRE_ROBOT_FIX_blk, Reg.CRE_ROBOT_SATS_blk] <;> decide)) _ _).trans ?_
    | with_reducible refine (hU.wrO (by first | decide | (simp only [wrOk, faultOk, tallyOk, bumpOk, commitOk, List.all_cons, List.all_nil, Bool.and_true, Reg.CRE_ROBOT_AMB_FIXED_blk, Reg.CRE_ROBOT_FIX_blk, Reg.CRE_ROBOT_SATS_blk] <;> decide) | (split <;> decide) | (split <;> simp only [wrOk, faultOk, tallyOk, bumpOk, commitOk, List.all_cons, List.all_nil, Bool.and_true, Reg.CRE_ROBOT_AMB_FIXED_blk, Reg.CRE_ROBOT_FIX_blk, Reg.CRE_ROBOT_SATS_blk] <;> decide)) _ _).trans ?_
    | fail_if_no_progress with_reducible refine (hU.cre (by decide) _ _).trans ?_
    | with_reducible refine Unseen.ite ?_ ?_
    | dsimp only
    | split

theorem filterGapResetOp_only {β : Type} {π : State → β} (hU : Unseen 0x1000004000000 π) (lid : Nat) (s : State) :
    π (filterGapResetOp lid s) = π s := by
  dsimp only [filterGapResetOp]
  repeat' first
    | with_reducible rfl
    | with_reducible refine (State.creReset_only (hU.mono (by decide)) _ _).trans ?_
    | with_reducible refine (hU.wrO (by first | decide | (simp only [wrOk, faultOk, tallyOk, bumpOk, commitOk, List.all_cons, List.all_nil, Bool.and_true, Reg.CRE_ROBOT_ACTIVE_blk] <;> decide) | (split <;> decide) | (split <;> simp only [wrOk, faultOk, tallyOk, bumpOk, commitOk, List.all_cons, List.all_nil, Bool.and_true, Reg.CRE_ROBOT_ACTIVE_blk] <;> decide)) _ _).trans ?_
    | with_reducible refine Unseen.ite ?_ ?_
    | split

theorem robotResetOp_only {β : Type} {π : State → β} (hU : Unseen 0x1000004000200 π) (c : Cmd) (s : State) :
    π (robotResetOp c s) = π s := by
  dsimp only [robotResetOp]
  repeat' first
    | with_reducible rfl
    | with_reducible refine (State.finish_only (hU.mono (by decide)) _ _ _ _ _).trans ?_
    | with_reducible refine (State.creLater_only (hU.mono (by decide)) _ _ _).trans ?_
    | with_reducible refine (State.hostCmd_only (hU.mono (by decide)) _ _ _ _ ?_).trans ?_
    | with_reducible refine Unseen.ite ?_ ?_
    | with_reducible refine (Unseen.foldl _ ?_ _ _).trans ?_
    | intro _
    | split

theorem stateReadOp_only {β : Type} {π : State → β} (hU : Unseen 0x200 π) (c : Cmd) (s : State) :
    π (stateReadOp c s) = π s := by
  dsimp only [stateReadOp]
  repeat' first
    | with_reducible rfl
    | with_reducible refine (State.finish_only (hU.mono (by decide)) _ _ _ _ _).trans ?_
    | with_reducible refine (State.hostCmd_only (hU.mono (by decide)) _ _ _ _ ?_).trans ?_
    | with_reducible refine (State.finishData_only (hU.mono (by decide)) _ _ _).trans ?_
    | with_reducible refine Unseen.ite ?_ ?_
    | intro _
    | dsimp only
    | split

theorem filterCommitOp_only {β : Type} {π : State → β} (hU : Unseen 0x1000008000008 π) (s : State) :
    π (filterCommitOp s) = π s := by
  dsimp only [filterCommitOp]
  repeat' first
    | with_reducible rfl
    | with_reducible refine (hU.commit (by first | decide | (simp only [wrOk, faultOk, tallyOk, bumpOk, commitOk, List.all_cons, List.all_nil, Bool.and_true] <;> decide) | (split <;> decide) | (split <;> simp only [wrOk, faultOk, tallyOk, bumpOk, commitOk, List.all_cons, List.all_nil, Bool.and_true] <;> decide)) _ _).trans ?_
    | with_reducible refine Unseen.ite ?_ ?_
    | intro _
    | split

theorem frameCommitOp_only {β : Type} {π : State → β} (hU : Unseen 0x1000008000008 π) (s : State) :
    π (frameCommitOp s) = π s := by
  dsimp only [frameCommitOp]
  repeat' first
    | with_reducible rfl
    | with_reducible refine (hU.commit (by first | decide | (simp only [wrOk, faultOk, tallyOk, bumpOk, commitOk, List.all_cons, List.all_nil, Bool.and_true] <;> decide) | (split <;> decide) | (split <;> simp only [wrOk, faultOk, tallyOk, bumpOk, commitOk, List.all_cons, List.all_nil, Bool.and_true] <;> decide)) _ _).trans ?_
    | with_reducible refine (hU.wrO (by first | decide | (simp only [wrOk, faultOk, tallyOk, bumpOk, commitOk, List.all_cons, List.all_nil, Bool.and_true] <;> decide) | (split <;> decide) | (split <;> simp only [wrOk, faultOk, tallyOk, bumpOk, commitOk, List.all_cons, List.all_nil, Bool.and_true] <;> decide)) _ _).trans ?_
    | with_reducible refine Unseen.ite ?_ ?_
    | split

theorem xchkCommitOp_only {β : Type} {π : State → β} (hU : Unseen 0x100000c000008 π) (s : State) :
    π (xchkCommitOp s) = π s := by
  dsimp only [xchkCommitOp]
  repeat' first
    | with_reducible rfl
    | with_reducible refine (hU.commit (by first | decide | (simp only [wrOk, faultOk, tallyOk, bumpOk, commitOk, List.all_cons, List.all_nil, Bool.and_true, Reg.CRE_XCHK_LIM_blk] <;> decide) | (split <;> decide) | (split <;> simp only [wrOk, faultOk, tallyOk, bumpOk, commitOk, List.all_cons, List.all_nil, Bool.and_true, Reg.CRE_XCHK_LIM_blk] <;> decide)) _ _).trans ?_
    | fail_if_no_progress with_reducible refine (hU.cre (by decide) _ _).trans ?_
    | with_reducible refine Unseen.ite ?_ ?_
    | intro _
    | dsimp only
    | split


/-! ## Flows -/

theorem State.countWait_only {β : Type} {π : State → β} (hU : Unseen 0x280000020420 π) (s : State) (c : Nat) (us : Nat) :
    π (State.countWait s c us) = π s := by
  dsimp only [State.countWait]
  repeat' first
    | with_reducible rfl
    | with_reducible refine (hU.saturate (by first | decide | (simp only [wrOk, faultOk, tallyOk, bumpOk, commitOk, List.all_cons, List.all_nil, Bool.and_true] <;> decide) | (split <;> decide) | (split <;> simp only [wrOk, faultOk, tallyOk, bumpOk, commitOk, List.all_cons, List.all_nil, Bool.and_true] <;> decide)) _ _).trans ?_
    | fail_if_no_progress with_reducible refine (hU.dsp (by decide) _ _).trans ?_
    | with_reducible refine Unseen.ite ?_ ?_
    | split

theorem State.makeReady_only {β : Type} {π : State → β} (hU : Unseen 0x280000020420 π) (s : State) (t : Nat) :
    π (State.makeReady s t) = π s := by
  dsimp only [State.makeReady]
  repeat' first
    | with_reducible rfl
    | with_reducible refine (State.countWait_only (hU.mono (by decide)) _ _ _).trans ?_
    | fail_if_no_progress with_reducible refine (hU.dsp (by decide) _ _).trans ?_
    | with_reducible refine Unseen.ite ?_ ?_
    | intro _
    | dsimp only
    | split

theorem State.wake_only {β : Type} {π : State → β} (hU : Unseen 0x280000020420 π) (s : State) (t : Nat) :
    π (State.wake s t) = π s := by
  dsimp only [State.wake]
  repeat' first
    | with_reducible rfl
    | with_reducible refine (State.makeReady_only (hU.mono (by decide)) _ _).trans ?_
    | with_reducible refine (hU.wrapBy (by first | decide | (simp only [wrOk, faultOk, tallyOk, bumpOk, commitOk, List.all_cons, List.all_nil, Bool.and_true] <;> decide) | (split <;> decide) | (split <;> simp only [wrOk, faultOk, tallyOk, bumpOk, commitOk, List.all_cons, List.all_nil, Bool.and_true] <;> decide)) _ _).trans ?_
    | with_reducible refine Unseen.ite ?_ ?_
    | split

theorem threadDispatchOp_only {β : Type} {π : State → β} (hU : Unseen 0x280000020420 π) (c : Nat) (us : Nat) (s : State) :
    π (threadDispatchOp c us s) = π s := by
  dsimp only [threadDispatchOp]
  repeat' first
    | with_reducible rfl
    | with_reducible refine (State.countWait_only (hU.mono (by decide)) _ _ _).trans ?_
    | fail_if_no_progress with_reducible refine (hU.dsp (by decide) _ _).trans ?_
    | dsimp only
    | split

theorem State.assign_only {β : Type} {π : State → β} (hU : Unseen 0x280000020420 π) (s : State) (f : Nat) :
    π (State.assign s f) = π s := by
  dsimp only [State.assign]
  repeat' first
    | with_reducible rfl
    | with_reducible refine (State.wake_only (hU.mono (by decide)) _ _).trans ?_
    | fail_if_no_progress with_reducible refine (hU.dsp (by decide) _ _).trans ?_
    | with_reducible refine Unseen.ite ?_ ?_
    | intro _
    | dsimp only
    | split

theorem State.assignAll_only {β : Type} {π : State → β} (hU : Unseen 0x280000020420 π) (s : State) :
    π (State.assignAll s) = π s := by
  dsimp only [State.assignAll]
  repeat' first
    | with_reducible rfl
    | with_reducible refine (State.assign_only (hU.mono (by decide)) _ _).trans ?_
    | with_reducible refine (Unseen.foldl _ ?_ _ _).trans ?_
    | intro _

theorem State.takeIn_only {β : Type} {π : State → β} (hU : Unseen 0x280000020420 π) (s : State) (f : Nat) (chute : Nat) (epoch : Nat) (lid : Option Nat) (own : Option OwnFrame) :
    π (State.takeIn s f chute epoch lid own) = π s := by
  dsimp only [State.takeIn]
  repeat' first
    | with_reducible rfl
    | with_reducible refine (State.assign_only (hU.mono (by decide)) _ _).trans ?_
    | with_reducible refine (hU.wrapBy (by first | decide | (simp only [wrOk, faultOk, tallyOk, bumpOk, commitOk, List.all_cons, List.all_nil, Bool.and_true, Reg.DSP_FLOW_ADMITTED_blk, Reg.DSP_FLOW_ADMITTED_off] <;> decide) | (split <;> decide) | (split <;> simp only [wrOk, faultOk, tallyOk, bumpOk, commitOk, List.all_cons, List.all_nil, Bool.and_true, Reg.DSP_FLOW_ADMITTED_blk, Reg.DSP_FLOW_ADMITTED_off] <;> decide)) _ _).trans ?_
    | fail_if_no_progress with_reducible refine (hU.dsp (by decide) _ _).trans ?_

theorem packetAdmissionOp_only {β : Type} {π : State → β} (hU : Unseen 0x280010020420 π) (ecc : Ecc) (s : State) :
    π (packetAdmissionOp ecc s) = π s := by
  dsimp only [packetAdmissionOp]
  repeat' first
    | with_reducible rfl
    | with_reducible refine (State.takeChecked_only (hU.mono (by decide)) _ _ _).trans ?_
    | with_reducible refine (State.takeIn_only (hU.mono (by decide)) _ _ _ _ _ _).trans ?_
    | with_reducible refine (hU.fault (by first | decide | (simp only [wrOk, faultOk, tallyOk, bumpOk, commitOk, List.all_cons, List.all_nil, Bool.and_true, Reg.DSP_FLOW_DISCARD_blk, Reg.DSP_FLOW_STALL_blk, Reg.DSP_FLOW_DISCARD_off, Reg.DSP_FLOW_STALL_off] <;> decide) | (split <;> decide) | (split <;> simp only [wrOk, faultOk, tallyOk, bumpOk, commitOk, List.all_cons, List.all_nil, Bool.and_true, Reg.DSP_FLOW_DISCARD_blk, Reg.DSP_FLOW_STALL_blk, Reg.DSP_FLOW_DISCARD_off, Reg.DSP_FLOW_STALL_off] <;> decide)) _).trans ?_
    | with_reducible refine (hU.bump (by first | decide | (simp only [wrOk, faultOk, tallyOk, bumpOk, commitOk, List.all_cons, List.all_nil, Bool.and_true, Reg.DSP_FLOW_DISCARD_blk, Reg.DSP_FLOW_STALL_blk, Reg.DSP_FLOW_DISCARD_off, Reg.DSP_FLOW_STALL_off] <;> decide) | (split <;> decide) | (split <;> simp only [wrOk, faultOk, tallyOk, bumpOk, commitOk, List.all_cons, List.all_nil, Bool.and_true, Reg.DSP_FLOW_DISCARD_blk, Reg.DSP_FLOW_STALL_blk, Reg.DSP_FLOW_DISCARD_off, Reg.DSP_FLOW_STALL_off] <;> decide)) _).trans ?_
    | fail_if_no_progress with_reducible refine (hU.twn (by decide) _ _).trans ?_
    | fail_if_no_progress with_reducible refine (hU.dsp (by decide) _ _).trans ?_
    | fail_if_no_progress with_reducible refine (hU.dsp_twn (by decide) (by decide) _ _ _).trans ?_
    | with_reducible refine Unseen.ite ?_ ?_
    | dsimp only
    | split

theorem State.post_only {β : Type} {π : State → β} (hU : Unseen 0x280000020420 π) (s : State) (f : Nat) :
    π (State.post s f) = π s := by
  dsimp only [State.post]
  repeat' first
    | with_reducible rfl
    | with_reducible refine (State.takeIn_only (hU.mono (by decide)) _ _ _ _ _ _).trans ?_
    | with_reducible refine (hU.bump (by first | decide | (simp only [wrOk, faultOk, tallyOk, bumpOk, commitOk, List.all_cons, List.all_nil, Bool.and_true, Reg.DSP_FLOW_DISCARD_blk, Reg.DSP_FLOW_DISCARD_off] <;> decide) | (split <;> decide) | (split <;> simp only [wrOk, faultOk, tallyOk, bumpOk, commitOk, List.all_cons, List.all_nil, Bool.and_true, Reg.DSP_FLOW_DISCARD_blk, Reg.DSP_FLOW_DISCARD_off] <;> decide)) _).trans ?_
    | with_reducible refine Unseen.ite ?_ ?_
    | split

theorem threadWakeOp_only {β : Type} {π : State → β} (hU : Unseen 0x280000020420 π) (src : WakeSrc) (s : State) :
    π (threadWakeOp src s) = π s := by
  dsimp only [threadWakeOp]
  repeat' first
    | with_reducible rfl
    | with_reducible refine (State.wake_only (hU.mono (by decide)) _ _).trans ?_
    | with_reducible refine (State.post_only (hU.mono (by decide)) _ _).trans ?_
    | with_reducible refine (hU.bump (by first | decide | (simp only [wrOk, faultOk, tallyOk, bumpOk, commitOk, List.all_cons, List.all_nil, Bool.and_true] <;> decide) | (split <;> decide) | (split <;> simp only [wrOk, faultOk, tallyOk, bumpOk, commitOk, List.all_cons, List.all_nil, Bool.and_true] <;> decide)) _).trans ?_
    | fail_if_no_progress with_reducible refine (hU.dsp (by decide) _ _).trans ?_
    | with_reducible refine Unseen.ite ?_ ?_
    | dsimp only
    | split

theorem State.deliver_only {β : Type} {π : State → β} (hU : Unseen 0x80000440420 π) (s : State) (e : WinEntry) (o : EntryOut) :
    π (State.deliver s e o) = π s := by
  dsimp only [State.deliver]
  repeat' first
    | with_reducible rfl
    | with_reducible refine (State.offerFrom_only (hU.mono (by decide)) _ _ _ _ _).trans ?_
    | with_reducible refine (State.offer_only (hU.mono (by decide)) _ _ _ _).trans ?_
    | with_reducible refine (State.noteFrame_only (hU.mono (by decide)) _ _ _).trans ?_
    | fail_if_no_progress with_reducible refine (hU.epo (by decide) _ _).trans ?_
    | fail_if_no_progress with_reducible refine (hU.zyp (by decide) _ _).trans ?_
    | fail_if_no_progress with_reducible refine (hU.epo_zyp (by decide) (by decide) _ _ _).trans ?_
    | with_reducible refine Unseen.ite ?_ ?_
    | dsimp only
    | split

theorem State.releaseFlow_only {β : Type} {π : State → β} (hU : Unseen 0x280000460420 π) (s : State) (f : Nat) (x0 : Nat) :
    π (State.releaseFlow s f x0) = π s := by
  induction x0 generalizing s with
  | zero =>
    dsimp only [State.releaseFlow]
    repeat' first
      | with_reducible rfl
      | with_reducible refine (ih ..).trans ?_
      | with_reducible refine (State.deliver_only (hU.mono (by decide)) _ _ _).trans ?_
      | with_reducible refine (hU.wrapBy (by first | decide | (simp only [wrOk, faultOk, tallyOk, bumpOk, commitOk, List.all_cons, List.all_nil, Bool.and_true, Reg.DSP_FLOW_RELEASED_blk, Reg.DSP_FLOW_RELEASED_off] <;> decide) | (split <;> decide) | (split <;> simp only [wrOk, faultOk, tallyOk, bumpOk, commitOk, List.all_cons, List.all_nil, Bool.and_true, Reg.DSP_FLOW_RELEASED_blk, Reg.DSP_FLOW_RELEASED_off] <;> decide)) _ _).trans ?_
      | fail_if_no_progress with_reducible refine (hU.dsp (by decide) _ _).trans ?_
      | dsimp only
      | split
  | succ k ih =>
    dsimp only [State.releaseFlow]
    repeat' first
      | with_reducible rfl
      | with_reducible refine (ih ..).trans ?_
      | with_reducible refine (State.deliver_only (hU.mono (by decide)) _ _ _).trans ?_
      | with_reducible refine (hU.wrapBy (by first | decide | (simp only [wrOk, faultOk, tallyOk, bumpOk, commitOk, List.all_cons, List.all_nil, Bool.and_true, Reg.DSP_FLOW_RELEASED_blk, Reg.DSP_FLOW_RELEASED_off] <;> decide) | (split <;> decide) | (split <;> simp only [wrOk, faultOk, tallyOk, bumpOk, commitOk, List.all_cons, List.all_nil, Bool.and_true, Reg.DSP_FLOW_RELEASED_blk, Reg.DSP_FLOW_RELEASED_off] <;> decide)) _ _).trans ?_
      | fail_if_no_progress with_reducible refine (hU.dsp (by decide) _ _).trans ?_
      | dsimp only
      | split

theorem entryCompleteOp_only {β : Type} {π : State → β} (hU : Unseen 0x280000460420 π) (q : Nat) (o : EntryOut) (s : State) :
    π (entryCompleteOp q o s) = π s := by
  dsimp only [entryCompleteOp]
  repeat' first
    | with_reducible rfl
    | with_reducible refine (State.assignAll_only (hU.mono (by decide)) _).trans ?_
    | with_reducible refine (State.releaseFlow_only (hU.mono (by decide)) _ _ _).trans ?_
    | fail_if_no_progress with_reducible refine (hU.dsp (by decide) _ _).trans ?_
    | with_reducible refine Unseen.ite ?_ ?_
    | intro _
    | dsimp only
    | split

theorem threadCommitOp_only {β : Type} {π : State → β} (hU : Unseen 0x280008020428 π) (s : State) :
    π (threadCommitOp s) = π s := by
  dsimp only [threadCommitOp]
  repeat' first
    | with_reducible rfl
    | with_reducible refine (State.assignAll_only (hU.mono (by decide)) _).trans ?_
    | with_reducible refine (hU.commit (by first | decide | (simp only [wrOk, faultOk, tallyOk, bumpOk, commitOk, List.all_cons, List.all_nil, Bool.and_true, Reg.DSP_THR_CFG_AFFINITY_blk, Reg.DSP_THR_CFG_ENABLE_blk, Reg.DSP_THR_CFG_PRIO_blk, Reg.DSP_THR_COMMIT_RESULT_blk, Reg.DSP_THR_CFG_AFFINITY_off, Reg.DSP_THR_CFG_ENABLE_off, Reg.DSP_THR_CFG_PRIO_off, Reg.DSP_THR_COMMIT_RESULT_off] <;> decide) | (split <;> decide) | (split <;> simp only [wrOk, faultOk, tallyOk, bumpOk, commitOk, List.all_cons, List.all_nil, Bool.and_true, Reg.DSP_THR_CFG_AFFINITY_blk, Reg.DSP_THR_CFG_ENABLE_blk, Reg.DSP_THR_CFG_PRIO_blk, Reg.DSP_THR_COMMIT_RESULT_blk, Reg.DSP_THR_CFG_AFFINITY_off, Reg.DSP_THR_CFG_ENABLE_off, Reg.DSP_THR_CFG_PRIO_off, Reg.DSP_THR_COMMIT_RESULT_off] <;> decide)) _ _).trans ?_
    | fail_if_no_progress with_reducible refine (hU.dsp (by decide) _ _).trans ?_
    | with_reducible refine Unseen.ite ?_ ?_
    | split

theorem flowCommitOp_only {β : Type} {π : State → β} (hU : Unseen 0x200008000008 π) (s : State) :
    π (flowCommitOp s) = π s := by
  dsimp only [flowCommitOp]
  repeat' first
    | with_reducible rfl
    | with_reducible refine (hU.commit (by first | decide | (simp only [wrOk, faultOk, tallyOk, bumpOk, commitOk, List.all_cons, List.all_nil, Bool.and_true, Reg.DSP_FLOW_CFG_ENABLE_blk, Reg.DSP_FLOW_CFG_POOL_blk, Reg.DSP_FLOW_CFG_THREAD_BASE_blk, Reg.DSP_FLOW_CFG_WIN_MAX_blk, Reg.DSP_FLOW_COMMIT_RESULT_blk, Reg.DSP_FLOW_CFG_ENABLE_off, Reg.DSP_FLOW_CFG_POOL_off, Reg.DSP_FLOW_CFG_THREAD_BASE_off, Reg.DSP_FLOW_CFG_WIN_MAX_off, Reg.DSP_FLOW_COMMIT_RESULT_off] <;> decide) | (split <;> decide) | (split <;> simp only [wrOk, faultOk, tallyOk, bumpOk, commitOk, List.all_cons, List.all_nil, Bool.and_true, Reg.DSP_FLOW_CFG_ENABLE_blk, Reg.DSP_FLOW_CFG_POOL_blk, Reg.DSP_FLOW_CFG_THREAD_BASE_blk, Reg.DSP_FLOW_CFG_WIN_MAX_blk, Reg.DSP_FLOW_COMMIT_RESULT_blk, Reg.DSP_FLOW_CFG_ENABLE_off, Reg.DSP_FLOW_CFG_POOL_off, Reg.DSP_FLOW_CFG_THREAD_BASE_off, Reg.DSP_FLOW_CFG_WIN_MAX_off, Reg.DSP_FLOW_COMMIT_RESULT_off] <;> decide)) _ _).trans ?_

theorem State.loadFlows_only {β : Type} {π : State → β} (hU : Unseen 0x200000000000 π) (s : State) :
    π (State.loadFlows s) = π s := by
  unfold State.loadFlows
  refine hU.wrEach ?_ _
  rw [List.all_eq_true]
  intro p hp
  obtain ⟨f, -, rfl⟩ := List.mem_map.1 hp
  simp only [wrOk, Reg.DSP_FLOW_CFG_WIN_MAX_blk]
  decide

theorem obsLatchOp_only {β : Type} {π : State → β} (hU : Unseen 0x20000 π) (s : State) :
    π (obsLatchOp s) = π s := by
  dsimp only [obsLatchOp]
  repeat' first
    | with_reducible rfl
    | fail_if_no_progress with_reducible refine (hU.dsp (by decide) _ _).trans ?_

theorem loadWindowEndOp_only {β : Type} {π : State → β} (hU : Unseen 0x20000 π) (loads : List Word) (s : State) :
    π (loadWindowEndOp loads s) = π s := by
  dsimp only [loadWindowEndOp]
  repeat' first
    | with_reducible rfl
    | fail_if_no_progress with_reducible refine (hU.dsp (by decide) _ _).trans ?_

theorem flowViewSampleOp_only {β : Type} {π : State → β} (hU : Unseen 0x20000 π) (f : Nat) (s : State) :
    π (flowViewSampleOp f s) = π s := by
  dsimp only [flowViewSampleOp]
  repeat' first
    | with_reducible rfl
    | fail_if_no_progress with_reducible refine (hU.dsp (by decide) _ _).trans ?_

end Sys2Proof.Machine
end

