-- ==== Sys2Proof/Laws/OnlyFleet.lean ====
section
/-! SUPPORT. What each operation leaves alone: the Larder, the tracks, the Governor, the Trapdoor, the epochs and the chutes. The mask names the parts the operation may change (Laws/Unseen). -/

set_option linter.all false

namespace Sys2Proof.Machine

/-! ## Larder -/

theorem State.addTo_only {β : Type} {π : State → β} {m : Nat} (h0 : Unseen m π) (hm : 0x0 &&& m = 0x0) (s : State) (f : Fld) (k : Nat) (bf : wrOk m f = true) :
    π (State.addTo s f k) = π s := by
  have hU := h0.mono hm
  dsimp only [State.addTo]
  repeat' first
    | with_reducible rfl
    | with_reducible refine (h0.wrO bf _ _).trans ?_
    | with_reducible refine (hU.wrO (by first | decide | (simp only [wrOk, faultOk, tallyOk, bumpOk, commitOk, List.all_cons, List.all_nil, Bool.and_true] <;> decide) | (split <;> decide) | (split <;> simp only [wrOk, faultOk, tallyOk, bumpOk, commitOk, List.all_cons, List.all_nil, Bool.and_true] <;> decide)) _ _).trans ?_

theorem State.takeFrom_only {β : Type} {π : State → β} {m : Nat} (h0 : Unseen m π) (hm : 0x0 &&& m = 0x0) (s : State) (f : Fld) (k : Nat) (bf : wrOk m f = true) :
    π (State.takeFrom s f k) = π s := by
  have hU := h0.mono hm
  dsimp only [State.takeFrom]
  repeat' first
    | with_reducible rfl
    | with_reducible refine (h0.wrO bf _ _).trans ?_
    | with_reducible refine (hU.wrO (by first | decide | (simp only [wrOk, faultOk, tallyOk, bumpOk, commitOk, List.all_cons, List.all_nil, Bool.and_true] <;> decide) | (split <;> decide) | (split <;> simp only [wrOk, faultOk, tallyOk, bumpOk, commitOk, List.all_cons, List.all_nil, Bool.and_true] <;> decide)) _ _).trans ?_

theorem State.showRobot_only {β : Type} {π : State → β} (hU : Unseen 0x2000000000000 π) (s : State) (r : Nat) :
    π (State.showRobot s r) = π s := by
  dsimp only [State.showRobot]
  repeat' first
    | with_reducible rfl
    | with_reducible refine (hU.wrO (by first | decide | (simp only [wrOk, faultOk, tallyOk, bumpOk, commitOk, List.all_cons, List.all_nil, Bool.and_true, Reg.LDR_ROBOT_ENV_blk, Reg.LDR_ROBOT_GRANTS_blk, Reg.LDR_ROBOT_HELD_blk] <;> decide) | (split <;> decide) | (split <;> simp only [wrOk, faultOk, tallyOk, bumpOk, commitOk, List.all_cons, List.all_nil, Bool.and_true, Reg.LDR_ROBOT_ENV_blk, Reg.LDR_ROBOT_GRANTS_blk, Reg.LDR_ROBOT_HELD_blk] <;> decide)) _ _).trans ?_
    | intro _

theorem State.showRobots_only {β : Type} {π : State → β} (hU : Unseen 0x2000000000000 π) (s : State) :
    π (State.showRobots s) = π s := by
  dsimp only [State.showRobots]
  repeat' first
    | with_reducible rfl
    | with_reducible refine (State.showRobot_only (hU.mono (by decide)) _ _).trans ?_
    | with_reducible refine (Unseen.foldl _ ?_ _ _).trans ?_
    | intro _

theorem State.dropGrants_only {β : Type} {π : State → β} (hU : Unseen 0x80000 π) (s : State) :
    π (State.dropGrants s) = π s := by
  dsimp only [State.dropGrants]
  repeat' first
    | with_reducible rfl
    | fail_if_no_progress with_reducible refine (hU.ldr (by decide) _ _).trans ?_
    | intro _

theorem State.decideReq_only {β : Type} {π : State → β} (hU : Unseen 0x2000000080020 π) (s : State) (q : ReqPkt) :
    π ((State.decideReq s q).2) = π s := by
  dsimp only [State.decideReq]
  repeat' first
    | with_reducible rfl
    | with_reducible refine (State.addTo_only hU (by decide) _ _ _ (by first | decide | (simp only [wrOk, faultOk, tallyOk, bumpOk, commitOk, List.all_cons, List.all_nil, Bool.and_true] <;> decide) | (split <;> decide) | (split <;> simp only [wrOk, faultOk, tallyOk, bumpOk, commitOk, List.all_cons, List.all_nil, Bool.and_true] <;> decide))).trans ?_
    | with_reducible refine (State.takeFrom_only hU (by decide) _ _ _ (by first | decide | (simp only [wrOk, faultOk, tallyOk, bumpOk, commitOk, List.all_cons, List.all_nil, Bool.and_true] <;> decide) | (split <;> decide) | (split <;> simp only [wrOk, faultOk, tallyOk, bumpOk, commitOk, List.all_cons, List.all_nil, Bool.and_true] <;> decide))).trans ?_
    | with_reducible refine (hU.wrapBy (by first | decide | (simp only [wrOk, faultOk, tallyOk, bumpOk, commitOk, List.all_cons, List.all_nil, Bool.and_true] <;> decide) | (split <;> decide) | (split <;> simp only [wrOk, faultOk, tallyOk, bumpOk, commitOk, List.all_cons, List.all_nil, Bool.and_true] <;> decide)) _ _).trans ?_
    | with_reducible refine (hU.fault (by first | decide | (simp only [wrOk, faultOk, tallyOk, bumpOk, commitOk, List.all_cons, List.all_nil, Bool.and_true] <;> decide) | (split <;> decide) | (split <;> simp only [wrOk, faultOk, tallyOk, bumpOk, commitOk, List.all_cons, List.all_nil, Bool.and_true] <;> decide)) _).trans ?_
    | fail_if_no_progress with_reducible refine (hU.ldr (by decide) _ _).trans ?_
    | with_reducible refine Unseen.ite ?_ ?_
    | intro _
    | dsimp only
    | split

theorem State.answer_only {β : Type} {π : State → β} (hU : Unseen 0x440000 π) (s : State) (lid : Nat) (opId : Nat) (typ : Nat) (body : List Nat) :
    π (State.answer s lid opId typ body) = π s := by
  dsimp only [State.answer]
  repeat' first
    | with_reducible rfl
    | fail_if_no_progress with_reducible refine (hU.epo (by decide) _ _).trans ?_
    | fail_if_no_progress with_reducible refine (hU.zyp (by decide) _ _).trans ?_
    | fail_if_no_progress with_reducible refine (hU.epo_zyp (by decide) (by decide) _ _ _).trans ?_
    | with_reducible refine Unseen.ite ?_ ?_
    | dsimp only
    | split

theorem State.grantOut_only {β : Type} {π : State → β} (hU : Unseen 0x20800004c0420 π) (s : State) (q : ReqPkt) (g : GrantRec) :
    π (State.grantOut s q g) = π s := by
  dsimp only [State.grantOut]
  repeat' first
    | with_reducible rfl
    | with_reducible refine (State.answer_only (hU.mono (by decide)) _ _ _ _ _).trans ?_
    | with_reducible refine (State.record_only (hU.mono (by decide)) _ _ _ _).trans ?_
    | with_reducible refine (hU.bump (by first | decide | (simp only [wrOk, faultOk, tallyOk, bumpOk, commitOk, List.all_cons, List.all_nil, Bool.and_true] <;> decide) | (split <;> decide) | (split <;> simp only [wrOk, faultOk, tallyOk, bumpOk, commitOk, List.all_cons, List.all_nil, Bool.and_true] <;> decide)) _).trans ?_
    | with_reducible refine (hU.wrapBy (by first | decide | (simp only [wrOk, faultOk, tallyOk, bumpOk, commitOk, List.all_cons, List.all_nil, Bool.and_true] <;> decide) | (split <;> decide) | (split <;> simp only [wrOk, faultOk, tallyOk, bumpOk, commitOk, List.all_cons, List.all_nil, Bool.and_true] <;> decide)) _ _).trans ?_
    | fail_if_no_progress with_reducible refine (hU.ldr (by decide) _ _).trans ?_
    | with_reducible refine Unseen.ite ?_ ?_
    | split

theorem larderRequestOp_only {β : Type} {π : State → β} (hU : Unseen 0x20800004c0420 π) (s : State) :
    π (larderRequestOp s) = π s := by
  dsimp only [larderRequestOp]
  repeat' first
    | with_reducible rfl
    | with_reducible refine (State.grantOut_only (hU.mono (by decide)) _ _ _).trans ?_
    | with_reducible refine (State.consume_only (hU.mono (by decide)) _ _ _).trans ?_
    | with_reducible refine (State.decideReq_only (hU.mono (by decide)) _ _).trans ?_
    | fail_if_no_progress with_reducible refine (hU.epo (by decide) _ _).trans ?_
    | dsimp only
    | split

theorem State.defer_only {β : Type} {π : State → β} (hU : Unseen 0x20800004c0420 π) (s : State) (w : LdrWork) :
    π (State.defer s w) = π s := by
  dsimp only [State.defer]
  repeat' first
    | with_reducible rfl
    | with_reducible refine (State.grantOut_only (hU.mono (by decide)) _ _ _).trans ?_
    | with_reducible refine (State.consume_only (hU.mono (by decide)) _ _ _).trans ?_
    | with_reducible refine (hU.bump (by first | decide | (simp only [wrOk, faultOk, tallyOk, bumpOk, commitOk, List.all_cons, List.all_nil, Bool.and_true] <;> decide) | (split <;> decide) | (split <;> simp only [wrOk, faultOk, tallyOk, bumpOk, commitOk, List.all_cons, List.all_nil, Bool.and_true] <;> decide)) _).trans ?_
    | with_reducible refine (hU.fault (by first | decide | (simp only [wrOk, faultOk, tallyOk, bumpOk, commitOk, List.all_cons, List.all_nil, Bool.and_true] <;> decide) | (split <;> decide) | (split <;> simp only [wrOk, faultOk, tallyOk, bumpOk, commitOk, List.all_cons, List.all_nil, Bool.and_true] <;> decide)) _).trans ?_
    | dsimp only
    | split

theorem requestDeferCutoffOp_only {β : Type} {π : State → β} (hU : Unseen 0x20800004c0420 π) (s : State) :
    π (requestDeferCutoffOp s) = π s := by
  dsimp only [requestDeferCutoffOp]
  repeat' first
    | with_reducible rfl
    | with_reducible refine (State.defer_only (hU.mono (by decide)) _ _).trans ?_
    | fail_if_no_progress with_reducible refine (hU.epo (by decide) _ _).trans ?_
    | with_reducible refine (Unseen.foldl _ ?_ _ _).trans ?_
    | intro _

theorem State.decideRelease_only {β : Type} {π : State → β} (hU : Unseen 0x80000 π) (s : State) (p : RelPkt) :
    π ((State.decideRelease s p).2.2) = π s := by
  dsimp only [State.decideRelease]
  repeat' first
    | with_reducible rfl
    | fail_if_no_progress with_reducible refine (hU.ldr (by decide) _ _).trans ?_
    | with_reducible refine Unseen.ite ?_ ?_
    | intro _
    | dsimp only
    | split

theorem larderReleaseOp_only {β : Type} {π : State → β} (hU : Unseen 0x800004c0420 π) (s : State) :
    π (larderReleaseOp s) = π s := by
  dsimp only [larderReleaseOp]
  repeat' first
    | with_reducible rfl
    | with_reducible refine (State.decideRelease_only (hU.mono (by decide)) _ _).trans ?_
    | with_reducible refine (State.answer_only (hU.mono (by decide)) _ _ _ _ _).trans ?_
    | with_reducible refine (State.consume_only (hU.mono (by decide)) _ _ _).trans ?_
    | with_reducible refine (State.record_only (hU.mono (by decide)) _ _ _ _).trans ?_
    | fail_if_no_progress with_reducible refine (hU.epo (by decide) _ _).trans ?_
    | with_reducible refine Unseen.ite ?_ ?_
    | dsimp only
    | split

theorem State.stopMarked_only {β : Type} {π : State → β} (hU : Unseen 0x1d0080010440c22 π) (s : State) (l : List Nat) :
    π (State.stopMarked s l) = π s := by
  dsimp only [State.stopMarked]
  repeat' first
    | with_reducible rfl
    | with_reducible refine (State.raiseOwn_only hU (by decide) _ _ _ _ (by first | decide | (simp only [wrOk, faultOk, tallyOk, bumpOk, commitOk, List.all_cons, List.all_nil, Bool.and_true, Reg.TRP_ROBOT_ENVELOPE_blk] <;> decide) | (split <;> decide) | (split <;> simp only [wrOk, faultOk, tallyOk, bumpOk, commitOk, List.all_cons, List.all_nil, Bool.and_true, Reg.TRP_ROBOT_ENVELOPE_blk] <;> decide))).trans ?_
    | fail_if_no_progress with_reducible refine (hU.epo (by decide) _ _).trans ?_
    | with_reducible refine (Unseen.foldl _ ?_ _ _).trans ?_
    | intro _

theorem envelopeCommandOp_only {β : Type} {π : State → β} (hU : Unseen 0x1d20800104c0c22 π) (s : State) :
    π (envelopeCommandOp s) = π s := by
  dsimp only [envelopeCommandOp]
  repeat' first
    | with_reducible rfl
    | with_reducible refine (State.takeFrom_only hU (by decide) _ _ _ (by first | decide | (simp only [wrOk, faultOk, tallyOk, bumpOk, commitOk, List.all_cons, List.all_nil, Bool.and_true, Reg.TRP_ROBOT_COAST_blk] <;> decide) | (split <;> decide) | (split <;> simp only [wrOk, faultOk, tallyOk, bumpOk, commitOk, List.all_cons, List.all_nil, Bool.and_true, Reg.TRP_ROBOT_COAST_blk] <;> decide))).trans ?_
    | with_reducible refine (State.stopMarked_only (hU.mono (by decide)) _ _).trans ?_
    | with_reducible refine (State.raiseOwn_only hU (by decide) _ _ _ _ (by first | decide | (simp only [wrOk, faultOk, tallyOk, bumpOk, commitOk, List.all_cons, List.all_nil, Bool.and_true, Reg.TRP_ROBOT_COAST_blk] <;> decide) | (split <;> decide) | (split <;> simp only [wrOk, faultOk, tallyOk, bumpOk, commitOk, List.all_cons, List.all_nil, Bool.and_true, Reg.TRP_ROBOT_COAST_blk] <;> decide))).trans ?_
    | with_reducible refine (State.addTo_only hU (by decide) _ _ _ (by first | decide | (simp only [wrOk, faultOk, tallyOk, bumpOk, commitOk, List.all_cons, List.all_nil, Bool.and_true, Reg.TRP_ROBOT_COAST_blk] <;> decide) | (split <;> decide) | (split <;> simp only [wrOk, faultOk, tallyOk, bumpOk, commitOk, List.all_cons, List.all_nil, Bool.and_true, Reg.TRP_ROBOT_COAST_blk] <;> decide))).trans ?_
    | with_reducible refine (State.record_only (hU.mono (by decide)) _ _ _ _).trans ?_
    | with_reducible refine (State.consume_only (hU.mono (by decide)) _ _ _).trans ?_
    | fail_if_no_progress with_reducible refine (hU.epo (by decide) _ _).trans ?_
    | fail_if_no_progress with_reducible refine (hU.ldr (by decide) _ _).trans ?_
    | fail_if_no_progress with_reducible refine (hU.epo_ldr (by decide) (by decide) _ _ _).trans ?_
    | with_reducible refine Unseen.ite ?_ ?_
    | intro _
    | dsimp only
    | split

theorem State.blockCell_only {β : Type} {π : State → β} (hU : Unseen 0x2080000080420 π) (s : State) (q : Quar) :
    π (State.blockCell s q) = π s := by
  dsimp only [State.blockCell]
  repeat' first
    | with_reducible rfl
    | with_reducible refine (State.takeFrom_only hU (by decide) _ _ _ (by first | decide | (simp only [wrOk, faultOk, tallyOk, bumpOk, commitOk, List.all_cons, List.all_nil, Bool.and_true, Reg.LDR_ROBOT_LOST_blk] <;> decide) | (split <;> decide) | (split <;> simp only [wrOk, faultOk, tallyOk, bumpOk, commitOk, List.all_cons, List.all_nil, Bool.and_true, Reg.LDR_ROBOT_LOST_blk] <;> decide))).trans ?_
    | with_reducible refine (State.addTo_only hU (by decide) _ _ _ (by first | decide | (simp only [wrOk, faultOk, tallyOk, bumpOk, commitOk, List.all_cons, List.all_nil, Bool.and_true, Reg.LDR_ROBOT_LOST_blk] <;> decide) | (split <;> decide) | (split <;> simp only [wrOk, faultOk, tallyOk, bumpOk, commitOk, List.all_cons, List.all_nil, Bool.and_true, Reg.LDR_ROBOT_LOST_blk] <;> decide))).trans ?_
    | with_reducible refine (hU.bumpBy (by first | decide | (simp only [wrOk, faultOk, tallyOk, bumpOk, commitOk, List.all_cons, List.all_nil, Bool.and_true, Reg.LDR_ROBOT_LOST_blk] <;> decide) | (split <;> decide) | (split <;> simp only [wrOk, faultOk, tallyOk, bumpOk, commitOk, List.all_cons, List.all_nil, Bool.and_true, Reg.LDR_ROBOT_LOST_blk] <;> decide)) _ _).trans ?_
    | with_reducible refine (hU.wrapBy (by first | decide | (simp only [wrOk, faultOk, tallyOk, bumpOk, commitOk, List.all_cons, List.all_nil, Bool.and_true, Reg.LDR_ROBOT_LOST_blk] <;> decide) | (split <;> decide) | (split <;> simp only [wrOk, faultOk, tallyOk, bumpOk, commitOk, List.all_cons, List.all_nil, Bool.and_true, Reg.LDR_ROBOT_LOST_blk] <;> decide)) _ _).trans ?_
    | with_reducible refine (hU.wrO (by first | decide | (simp only [wrOk, faultOk, tallyOk, bumpOk, commitOk, List.all_cons, List.all_nil, Bool.and_true, Reg.LDR_ROBOT_LOST_blk] <;> decide) | (split <;> decide) | (split <;> simp only [wrOk, faultOk, tallyOk, bumpOk, commitOk, List.all_cons, List.all_nil, Bool.and_true, Reg.LDR_ROBOT_LOST_blk] <;> decide)) _ _).trans ?_
    | fail_if_no_progress with_reducible refine (hU.ldr (by decide) _ _).trans ?_
    | with_reducible refine Unseen.ite ?_ ?_
    | with_reducible refine (Unseen.foldl _ ?_ _ _).trans ?_
    | intro _
    | split

theorem State.ldrCommit_only {β : Type} {π : State → β} (hU : Unseen 0x2080000080420 π) (s : State) :
    π (State.ldrCommit s) = π s := by
  dsimp only [State.ldrCommit]
  repeat' first
    | with_reducible rfl
    | with_reducible refine (hU.wrAll (by simp only [List.all_map, List.all_eq_true, Function.comp, wrOk, Reg.LDR_ROBOT_LOST_blk]; exact fun _ _ => by decide) _ _).trans ?_
    | with_reducible refine (State.blockCell_only (hU.mono (by decide)) _ _).trans ?_
    | with_reducible refine (State.takeFrom_only hU (by decide) _ _ _ (by first | decide | (simp only [wrOk, faultOk, tallyOk, bumpOk, commitOk, List.all_cons, List.all_nil, Bool.and_true, Reg.LDR_ROBOT_LOST_blk] <;> decide) | (split <;> decide) | (split <;> simp only [wrOk, faultOk, tallyOk, bumpOk, commitOk, List.all_cons, List.all_nil, Bool.and_true, Reg.LDR_ROBOT_LOST_blk] <;> decide))).trans ?_
    | with_reducible refine (State.dropGrants_only (hU.mono (by decide)) _).trans ?_
    | with_reducible refine (State.addTo_only hU (by decide) _ _ _ (by first | decide | (simp only [wrOk, faultOk, tallyOk, bumpOk, commitOk, List.all_cons, List.all_nil, Bool.and_true, Reg.LDR_ROBOT_LOST_blk] <;> decide) | (split <;> decide) | (split <;> simp only [wrOk, faultOk, tallyOk, bumpOk, commitOk, List.all_cons, List.all_nil, Bool.and_true, Reg.LDR_ROBOT_LOST_blk] <;> decide))).trans ?_
    | with_reducible refine (State.showRobots_only (hU.mono (by decide)) _).trans ?_
    | with_reducible refine (hU.wrapBy (by first | decide | (simp only [wrOk, faultOk, tallyOk, bumpOk, commitOk, List.all_cons, List.all_nil, Bool.and_true, Reg.LDR_ROBOT_LOST_blk] <;> decide) | (split <;> decide) | (split <;> simp only [wrOk, faultOk, tallyOk, bumpOk, commitOk, List.all_cons, List.all_nil, Bool.and_true, Reg.LDR_ROBOT_LOST_blk] <;> decide)) _ _).trans ?_
    | with_reducible refine (hU.wrAll (by first | decide | (simp only [wrOk, faultOk, tallyOk, bumpOk, commitOk, List.all_cons, List.all_nil, Bool.and_true, Reg.LDR_ROBOT_LOST_blk] <;> decide) | (split <;> decide) | (split <;> simp only [wrOk, faultOk, tallyOk, bumpOk, commitOk, List.all_cons, List.all_nil, Bool.and_true, Reg.LDR_ROBOT_LOST_blk] <;> decide)) _ _).trans ?_
    | with_reducible refine (hU.wrO (by first | decide | (simp only [wrOk, faultOk, tallyOk, bumpOk, commitOk, List.all_cons, List.all_nil, Bool.and_true, Reg.LDR_ROBOT_LOST_blk] <;> decide) | (split <;> decide) | (split <;> simp only [wrOk, faultOk, tallyOk, bumpOk, commitOk, List.all_cons, List.all_nil, Bool.and_true, Reg.LDR_ROBOT_LOST_blk] <;> decide)) _ _).trans ?_
    | fail_if_no_progress with_reducible refine (hU.ldr (by decide) _ _).trans ?_
    | with_reducible refine (Unseen.foldl _ ?_ _ _).trans ?_
    | intro _
    | dsimp only
    | split

theorem State.ldrAbandon_only {β : Type} {π : State → β} (hU : Unseen 0x2000000080000 π) (s : State) :
    π (State.ldrAbandon s) = π s := by
  dsimp only [State.ldrAbandon]
  repeat' first
    | with_reducible rfl
    | with_reducible refine (State.addTo_only hU (by decide) _ _ _ (by first | decide | (simp only [wrOk, faultOk, tallyOk, bumpOk, commitOk, List.all_cons, List.all_nil, Bool.and_true] <;> decide) | (split <;> decide) | (split <;> simp only [wrOk, faultOk, tallyOk, bumpOk, commitOk, List.all_cons, List.all_nil, Bool.and_true] <;> decide))).trans ?_
    | with_reducible refine (hU.wrO (by first | decide | (simp only [wrOk, faultOk, tallyOk, bumpOk, commitOk, List.all_cons, List.all_nil, Bool.and_true] <;> decide) | (split <;> decide) | (split <;> simp only [wrOk, faultOk, tallyOk, bumpOk, commitOk, List.all_cons, List.all_nil, Bool.and_true] <;> decide)) _ _).trans ?_
    | fail_if_no_progress with_reducible refine (hU.ldr (by decide) _ _).trans ?_
    | intro _

theorem State.expireTo_only {β : Type} {π : State → β} (hU : Unseen 0x2000000080020 π) (s : State) (a : Nat) :
    π (State.expireTo s a) = π s := by
  dsimp only [State.expireTo]
  repeat' first
    | with_reducible rfl
    | with_reducible refine (State.takeFrom_only hU (by decide) _ _ _ (by first | decide | (simp only [wrOk, faultOk, tallyOk, bumpOk, commitOk, List.all_cons, List.all_nil, Bool.and_true] <;> decide) | (split <;> decide) | (split <;> simp only [wrOk, faultOk, tallyOk, bumpOk, commitOk, List.all_cons, List.all_nil, Bool.and_true] <;> decide))).trans ?_
    | with_reducible refine (State.addTo_only hU (by decide) _ _ _ (by first | decide | (simp only [wrOk, faultOk, tallyOk, bumpOk, commitOk, List.all_cons, List.all_nil, Bool.and_true] <;> decide) | (split <;> decide) | (split <;> simp only [wrOk, faultOk, tallyOk, bumpOk, commitOk, List.all_cons, List.all_nil, Bool.and_true] <;> decide))).trans ?_
    | with_reducible refine (State.showRobots_only (hU.mono (by decide)) _).trans ?_
    | with_reducible refine (hU.wrapBy (by first | decide | (simp only [wrOk, faultOk, tallyOk, bumpOk, commitOk, List.all_cons, List.all_nil, Bool.and_true] <;> decide) | (split <;> decide) | (split <;> simp only [wrOk, faultOk, tallyOk, bumpOk, commitOk, List.all_cons, List.all_nil, Bool.and_true] <;> decide)) _ _).trans ?_
    | with_reducible refine (hU.wrO (by first | decide | (simp only [wrOk, faultOk, tallyOk, bumpOk, commitOk, List.all_cons, List.all_nil, Bool.and_true] <;> decide) | (split <;> decide) | (split <;> simp only [wrOk, faultOk, tallyOk, bumpOk, commitOk, List.all_cons, List.all_nil, Bool.and_true] <;> decide)) _ _).trans ?_
    | with_reducible refine (hU.fault (by first | decide | (simp only [wrOk, faultOk, tallyOk, bumpOk, commitOk, List.all_cons, List.all_nil, Bool.and_true] <;> decide) | (split <;> decide) | (split <;> simp only [wrOk, faultOk, tallyOk, bumpOk, commitOk, List.all_cons, List.all_nil, Bool.and_true] <;> decide)) _).trans ?_
    | fail_if_no_progress with_reducible refine (hU.ldr (by decide) _ _).trans ?_
    | with_reducible refine Unseen.ite ?_ ?_
    | intro _
    | split

theorem slotExpiryOp_only {β : Type} {π : State → β} (hU : Unseen 0x2000000080020 π) (s : State) :
    π (slotExpiryOp s) = π s := by
  dsimp only [slotExpiryOp]
  repeat' first
    | with_reducible rfl
    | with_reducible refine (State.expireTo_only (hU.mono (by decide)) _ _).trans ?_
    | with_reducible refine Unseen.ite ?_ ?_
    | split

theorem sweepCompleteOp_only {β : Type} {π : State → β} (hU : Unseen 0x2000000080000 π) (s : State) :
    π (sweepCompleteOp s) = π s := by
  dsimp only [sweepCompleteOp]
  repeat' first
    | with_reducible rfl
    | with_reducible refine (State.dropGrants_only (hU.mono (by decide)) _).trans ?_
    | with_reducible refine (State.showRobots_only (hU.mono (by decide)) _).trans ?_
    | with_reducible refine (hU.wrO (by first | decide | (simp only [wrOk, faultOk, tallyOk, bumpOk, commitOk, List.all_cons, List.all_nil, Bool.and_true] <;> decide) | (split <;> decide) | (split <;> simp only [wrOk, faultOk, tallyOk, bumpOk, commitOk, List.all_cons, List.all_nil, Bool.and_true] <;> decide)) _ _).trans ?_
    | fail_if_no_progress with_reducible refine (hU.ldr (by decide) _ _).trans ?_
    | with_reducible refine Unseen.ite ?_ ?_
    | split

theorem State.releaseAll_only {β : Type} {π : State → β} (hU : Unseen 0x2000000080000 π) (s : State) (r : Option Nat) :
    π (State.releaseAll s r) = π s := by
  dsimp only [State.releaseAll]
  repeat' first
    | with_reducible rfl
    | with_reducible refine (State.takeFrom_only hU (by decide) _ _ _ (by first | decide | (simp only [wrOk, faultOk, tallyOk, bumpOk, commitOk, List.all_cons, List.all_nil, Bool.and_true] <;> decide) | (split <;> decide) | (split <;> simp only [wrOk, faultOk, tallyOk, bumpOk, commitOk, List.all_cons, List.all_nil, Bool.and_true] <;> decide))).trans ?_
    | with_reducible refine (State.dropGrants_only (hU.mono (by decide)) _).trans ?_
    | with_reducible refine (State.addTo_only hU (by decide) _ _ _ (by first | decide | (simp only [wrOk, faultOk, tallyOk, bumpOk, commitOk, List.all_cons, List.all_nil, Bool.and_true] <;> decide) | (split <;> decide) | (split <;> simp only [wrOk, faultOk, tallyOk, bumpOk, commitOk, List.all_cons, List.all_nil, Bool.and_true] <;> decide))).trans ?_
    | with_reducible refine (State.showRobots_only (hU.mono (by decide)) _).trans ?_
    | with_reducible refine (hU.wrapBy (by first | decide | (simp only [wrOk, faultOk, tallyOk, bumpOk, commitOk, List.all_cons, List.all_nil, Bool.and_true] <;> decide) | (split <;> decide) | (split <;> simp only [wrOk, faultOk, tallyOk, bumpOk, commitOk, List.all_cons, List.all_nil, Bool.and_true] <;> decide)) _ _).trans ?_
    | fail_if_no_progress with_reducible refine (hU.ldr (by decide) _ _).trans ?_
    | intro _
    | dsimp only
    | split

theorem cellQuarantineOp_only {β : Type} {π : State → β} (hU : Unseen 0xa1d28e00927c0ee2 π) (cell : Nat) (bucket : Bool) (s : State) :
    π (cellQuarantineOp cell bucket s) = π s := by
  dsimp only [cellQuarantineOp]
  repeat' first
    | with_reducible rfl
    | with_reducible refine (State.raiseOwn_only hU (by decide) _ _ _ _ (by first | decide | (simp only [wrOk, faultOk, tallyOk, bumpOk, commitOk, List.all_cons, List.all_nil, Bool.and_true, Reg.TRP_ROBOT_MAP_LOST_blk] <;> decide) | (split <;> decide) | (split <;> simp only [wrOk, faultOk, tallyOk, bumpOk, commitOk, List.all_cons, List.all_nil, Bool.and_true, Reg.TRP_ROBOT_MAP_LOST_blk] <;> decide))).trans ?_
    | with_reducible refine (State.raiseFleet_only hU (by decide) _ _ _ (by first | decide | (simp only [wrOk, faultOk, tallyOk, bumpOk, commitOk, List.all_cons, List.all_nil, Bool.and_true, Reg.TRP_ROBOT_MAP_LOST_blk] <;> decide) | (split <;> decide) | (split <;> simp only [wrOk, faultOk, tallyOk, bumpOk, commitOk, List.all_cons, List.all_nil, Bool.and_true, Reg.TRP_ROBOT_MAP_LOST_blk] <;> decide))).trans ?_
    | with_reducible refine (hU.fault (by first | decide | (simp only [wrOk, faultOk, tallyOk, bumpOk, commitOk, List.all_cons, List.all_nil, Bool.and_true, Reg.TRP_ROBOT_MAP_LOST_blk] <;> decide) | (split <;> decide) | (split <;> simp only [wrOk, faultOk, tallyOk, bumpOk, commitOk, List.all_cons, List.all_nil, Bool.and_true, Reg.TRP_ROBOT_MAP_LOST_blk] <;> decide)) _).trans ?_
    | fail_if_no_progress with_reducible refine (hU.ldr (by decide) _ _).trans ?_
    | with_reducible refine Unseen.ite ?_ ?_
    | with_reducible refine (Unseen.foldl _ ?_ _ _).trans ?_
    | intro _
    | split

theorem scrubRecountOp_only {β : Type} {π : State → β} (hU : Unseen 0x2000000080020 π) (mismatch : Bool) (s : State) :
    π (scrubRecountOp mismatch s) = π s := by
  dsimp only [scrubRecountOp]
  repeat' first
    | with_reducible rfl
    | with_reducible refine (hU.fault (by first | decide | (simp only [wrOk, faultOk, tallyOk, bumpOk, commitOk, List.all_cons, List.all_nil, Bool.and_true] <;> decide) | (split <;> decide) | (split <;> simp only [wrOk, faultOk, tallyOk, bumpOk, commitOk, List.all_cons, List.all_nil, Bool.and_true] <;> decide)) _).trans ?_
    | fail_if_no_progress with_reducible refine (hU.ldr (by decide) _ _).trans ?_
    | with_reducible refine Unseen.ite ?_ ?_
    | dsimp only
    | split

theorem State.ldrAudit_only {β : Type} {π : State → β} (hU : Unseen 0xa1d28e00927c0ee2 π) (s : State) :
    π (State.ldrAudit s) = π s := by
  dsimp only [State.ldrAudit]
  repeat' first
    | with_reducible rfl
    | with_reducible refine (State.record_only (hU.mono (by decide)) _ _ _ _).trans ?_
    | with_reducible refine (State.raiseFleet_only hU (by decide) _ _ _ (by first | decide | (simp only [wrOk, faultOk, tallyOk, bumpOk, commitOk, List.all_cons, List.all_nil, Bool.and_true] <;> decide) | (split <;> decide) | (split <;> simp only [wrOk, faultOk, tallyOk, bumpOk, commitOk, List.all_cons, List.all_nil, Bool.and_true] <;> decide))).trans ?_
    | with_reducible refine (hU.fault (by first | decide | (simp only [wrOk, faultOk, tallyOk, bumpOk, commitOk, List.all_cons, List.all_nil, Bool.and_true] <;> decide) | (split <;> decide) | (split <;> simp only [wrOk, faultOk, tallyOk, bumpOk, commitOk, List.all_cons, List.all_nil, Bool.and_true] <;> decide)) _).trans ?_
    | with_reducible refine (hU.wrO (by first | decide | (simp only [wrOk, faultOk, tallyOk, bumpOk, commitOk, List.all_cons, List.all_nil, Bool.and_true] <;> decide) | (split <;> decide) | (split <;> simp only [wrOk, faultOk, tallyOk, bumpOk, commitOk, List.all_cons, List.all_nil, Bool.and_true] <;> decide)) _ _).trans ?_
    | fail_if_no_progress with_reducible refine (hU.ldr (by decide) _ _).trans ?_
    | with_reducible refine Unseen.ite ?_ ?_
    | split

theorem larderAuditClearOp_only {β : Type} {π : State → β} (hU : Unseen 0x2000000000000 π) (s : State) :
    π (larderAuditClearOp s) = π s := by
  dsimp only [larderAuditClearOp]
  repeat' first
    | with_reducible rfl
    | with_reducible refine (hU.wrO (by first | decide | (simp only [wrOk, faultOk, tallyOk, bumpOk, commitOk, List.all_cons, List.all_nil, Bool.and_true] <;> decide) | (split <;> decide) | (split <;> simp only [wrOk, faultOk, tallyOk, bumpOk, commitOk, List.all_cons, List.all_nil, Bool.and_true] <;> decide)) _ _).trans ?_
    | with_reducible refine Unseen.ite ?_ ?_
    | split

theorem auditRecountDoneOp_only {β : Type} {π : State → β} (hU : Unseen 0x12080000000420 π) (mismatch : Bool) (s : State) :
    π (auditRecountDoneOp mismatch s) = π s := by
  dsimp only [auditRecountDoneOp]
  repeat' first
    | with_reducible rfl
    | with_reducible refine (hU.wrO (by first | decide | (simp only [wrOk, faultOk, tallyOk, bumpOk, commitOk, List.all_cons, List.all_nil, Bool.and_true] <;> decide) | (split <;> decide) | (split <;> simp only [wrOk, faultOk, tallyOk, bumpOk, commitOk, List.all_cons, List.all_nil, Bool.and_true] <;> decide)) _ _).trans ?_
    | with_reducible refine (hU.tallyRecord (by decide) _ _ _ _ _ _).trans ?_
    | with_reducible refine Unseen.ite ?_ ?_
    | intro _
    | dsimp only
    | split

theorem State.epochInput_only {β : Type} {π : State → β} (hU : Unseen 0x40000 π) (s : State) (c : Cmd) (k : EpochKind) (data : List Nat := []) :
    π (State.epochInput s c k data) = π s := by
  dsimp only [State.epochInput]
  repeat' first
    | with_reducible rfl
    | fail_if_no_progress with_reducible refine (hU.epo (by decide) _ _).trans ?_
    | with_reducible refine Unseen.ite ?_ ?_
    | split

theorem State.unblockNow_only {β : Type} {π : State → β} (hU : Unseen 0x2000000080000 π) (s : State) (cell : Nat) (clean : Bool) :
    π ((State.unblockNow s cell clean).2) = π s := by
  dsimp only [State.unblockNow]
  repeat' first
    | with_reducible rfl
    | with_reducible refine (State.addTo_only hU (by decide) _ _ _ (by first | decide | (simp only [wrOk, faultOk, tallyOk, bumpOk, commitOk, List.all_cons, List.all_nil, Bool.and_true] <;> decide) | (split <;> decide) | (split <;> simp only [wrOk, faultOk, tallyOk, bumpOk, commitOk, List.all_cons, List.all_nil, Bool.and_true] <;> decide))).trans ?_
    | with_reducible refine (State.takeFrom_only hU (by decide) _ _ _ (by first | decide | (simp only [wrOk, faultOk, tallyOk, bumpOk, commitOk, List.all_cons, List.all_nil, Bool.and_true] <;> decide) | (split <;> decide) | (split <;> simp only [wrOk, faultOk, tallyOk, bumpOk, commitOk, List.all_cons, List.all_nil, Bool.and_true] <;> decide))).trans ?_
    | fail_if_no_progress with_reducible refine (hU.ldr (by decide) _ _).trans ?_
    | with_reducible refine Unseen.ite ?_ ?_
    | dsimp only
    | split

theorem unblockOp_only {β : Type} {π : State → β} (hU : Unseen 0x20000000c0200 π) (c : Cmd) (clean : Bool) (s : State) :
    π (unblockOp c clean s) = π s := by
  dsimp only [unblockOp]
  repeat' first
    | with_reducible rfl
    | with_reducible refine (State.finish_only (hU.mono (by decide)) _ _ _ _ _).trans ?_
    | with_reducible refine (State.unblockNow_only (hU.mono (by decide)) _ _ _).trans ?_
    | with_reducible refine (State.hostCmd_only (hU.mono (by decide)) _ _ _ _ ?_).trans ?_
    | with_reducible refine (State.epochInput_only (hU.mono (by decide)) _ _ _ _).trans ?_
    | with_reducible refine Unseen.ite ?_ ?_
    | intro _
    | dsimp only
    | split

theorem larderHostReleaseOp_only {β : Type} {π : State → β} (hU : Unseen 0x40200 π) (c : Cmd) (s : State) :
    π (larderHostReleaseOp c s) = π s := by
  dsimp only [larderHostReleaseOp]
  repeat' first
    | with_reducible rfl
    | with_reducible refine (State.finish_only (hU.mono (by decide)) _ _ _ _ _).trans ?_
    | with_reducible refine (State.epochInput_only (hU.mono (by decide)) _ _ _ _).trans ?_
    | with_reducible refine (State.hostCmd_only (hU.mono (by decide)) _ _ _ _ ?_).trans ?_
    | with_reducible refine Unseen.ite ?_ ?_
    | intro _
    | split

theorem cellReadOp_only {β : Type} {π : State → β} (hU : Unseen 0x200 π) (c : Cmd) (s : State) :
    π (cellReadOp c s) = π s := by
  dsimp only [cellReadOp]
  repeat' first
    | with_reducible rfl
    | with_reducible refine (State.finish_only (hU.mono (by decide)) _ _ _ _ _).trans ?_
    | with_reducible refine (State.hostCmd_only (hU.mono (by decide)) _ _ _ _ ?_).trans ?_
    | with_reducible refine (State.finishData_only (hU.mono (by decide)) _ _ _).trans ?_
    | with_reducible refine Unseen.ite ?_ ?_
    | intro _
    | split

theorem mapCommitOp_only {β : Type} {π : State → β} (hU : Unseen 0x2000000000010 π) (s : State) :
    π (mapCommitOp s) = π s := by
  dsimp only [mapCommitOp]
  repeat' first
    | with_reducible rfl
    | with_reducible refine (hU.wrO (by first | decide | (simp only [wrOk, faultOk, tallyOk, bumpOk, commitOk, List.all_cons, List.all_nil, Bool.and_true] <;> decide) | (split <;> decide) | (split <;> simp only [wrOk, faultOk, tallyOk, bumpOk, commitOk, List.all_cons, List.all_nil, Bool.and_true] <;> decide)) _ _).trans ?_
    | with_reducible refine (hU.setPending (by first | decide | (simp only [wrOk, faultOk, tallyOk, bumpOk, commitOk, List.all_cons, List.all_nil, Bool.and_true] <;> decide) | (split <;> decide) | (split <;> simp only [wrOk, faultOk, tallyOk, bumpOk, commitOk, List.all_cons, List.all_nil, Bool.and_true] <;> decide)) _).trans ?_
    | with_reducible refine Unseen.ite ?_ ?_
    | split

theorem State.mapWords_only {β : Type} {π : State → β} (hU : Unseen 0x80000 π) (s : State) (words : List Nat) :
    π (State.mapWords s words) = π s := by
  dsimp only [State.mapWords]
  repeat' first
    | with_reducible rfl
    | fail_if_no_progress with_reducible refine (hU.ldr (by decide) _ _).trans ?_
    | with_reducible refine (Unseen.foldl _ ?_ _ _).trans ?_
    | intro _

theorem mapApplyOp_only {β : Type} {π : State → β} (hU : Unseen 0x2000008080018 π) (s : State) :
    π (mapApplyOp s) = π s := by
  dsimp only [mapApplyOp]
  repeat' first
    | with_reducible rfl
    | with_reducible refine (State.mapWords_only (hU.mono (by decide)) _ _).trans ?_
    | with_reducible refine (State.showRobots_only (hU.mono (by decide)) _).trans ?_
    | with_reducible refine (hU.wrO (by first | decide | (simp only [wrOk, faultOk, tallyOk, bumpOk, commitOk, List.all_cons, List.all_nil, Bool.and_true, mapGroup] <;> decide) | (split <;> decide) | (split <;> simp only [wrOk, faultOk, tallyOk, bumpOk, commitOk, List.all_cons, List.all_nil, Bool.and_true, mapGroup] <;> decide) | (simp only [mapGroup]; split <;> decide)) _ _).trans ?_
    | with_reducible refine (hU.endPending (by first | decide | (simp only [wrOk, faultOk, tallyOk, bumpOk, commitOk, List.all_cons, List.all_nil, Bool.and_true, mapGroup] <;> decide) | (split <;> decide) | (split <;> simp only [wrOk, faultOk, tallyOk, bumpOk, commitOk, List.all_cons, List.all_nil, Bool.and_true, mapGroup] <;> decide) | (simp only [mapGroup]; split <;> decide)) _ _).trans ?_
    | fail_if_no_progress with_reducible refine (hU.ldr (by decide) _ _).trans ?_
    | with_reducible refine Unseen.ite ?_ ?_
    | split

theorem rulesCommitOp_only {β : Type} {π : State → β} (hU : Unseen 0x2000000000010 π) (s : State) :
    π (rulesCommitOp s) = π s := by
  dsimp only [rulesCommitOp]
  repeat' first
    | with_reducible rfl
    | with_reducible refine (hU.wrO (by first | decide | (simp only [wrOk, faultOk, tallyOk, bumpOk, commitOk, List.all_cons, List.all_nil, Bool.and_true] <;> decide) | (split <;> decide) | (split <;> simp only [wrOk, faultOk, tallyOk, bumpOk, commitOk, List.all_cons, List.all_nil, Bool.and_true] <;> decide)) _ _).trans ?_
    | with_reducible refine (hU.setPending (by first | decide | (simp only [wrOk, faultOk, tallyOk, bumpOk, commitOk, List.all_cons, List.all_nil, Bool.and_true] <;> decide) | (split <;> decide) | (split <;> simp only [wrOk, faultOk, tallyOk, bumpOk, commitOk, List.all_cons, List.all_nil, Bool.and_true] <;> decide)) _).trans ?_
    | with_reducible refine Unseen.ite ?_ ?_
    | split

theorem State.rulesApply_only {β : Type} {π : State → β} (hU : Unseen 0x2000008000018 π) (s : State) :
    π (State.rulesApply s) = π s := by
  dsimp only [State.rulesApply]
  repeat' first
    | with_reducible rfl
    | with_reducible refine (hU.endPending (by first | decide | (simp only [wrOk, faultOk, tallyOk, bumpOk, commitOk, List.all_cons, List.all_nil, Bool.and_true] <;> decide) | (split <;> decide) | (split <;> simp only [wrOk, faultOk, tallyOk, bumpOk, commitOk, List.all_cons, List.all_nil, Bool.and_true] <;> decide)) _ _).trans ?_
    | with_reducible refine Unseen.ite ?_ ?_
    | split

theorem State.unlessFrozen_only {β : Type} {π : State → β} (hU : Unseen 0x0 π) (s : State) (body : State → State) (hbody : ∀ (y0 : State), π (body y0) = π y0) :
    π (State.unlessFrozen s body) = π s := by
  dsimp only [State.unlessFrozen]
  repeat' first
    | with_reducible rfl
    | with_reducible refine (hbody _).trans ?_
    | with_reducible refine Unseen.ite ?_ ?_
    | split


/-! ## Tracks -/

theorem State.settleTask_only {β : Type} {π : State → β} (hU : Unseen 0x100000 π) (s : State) (t : Nat) :
    π (State.settleTask s t) = π s := by
  dsimp only [State.settleTask]
  repeat' first
    | with_reducible rfl
    | fail_if_no_progress with_reducible refine (hU.trk (by decide) _ _).trans ?_
    | dsimp only
    | split

theorem State.setTask_only {β : Type} {π : State → β} (hU : Unseen 0x100000 π) (s : State) (t : Nat) (r : TaskRec) :
    π (State.setTask s t r) = π s := by
  dsimp only [State.setTask]
  repeat' first
    | with_reducible rfl
    | fail_if_no_progress with_reducible refine (hU.trk (by decide) _ _).trans ?_

theorem State.count_only {β : Type} {π : State → β} (hU : Unseen 0x100000 π) (s : State) (i : Nat) :
    π (State.count s i) = π s := by
  dsimp only [State.count]
  repeat' first
    | with_reducible rfl
    | fail_if_no_progress with_reducible refine (hU.trk (by decide) _ _).trans ?_

theorem State.showTasks_only {β : Type} {π : State → β} (hU : Unseen 0x4000000000000 π) (s : State) :
    π (State.showTasks s) = π s := by
  dsimp only [State.showTasks]
  repeat' first
    | with_reducible rfl
    | with_reducible refine (hU.wrO (by first | decide | (simp only [wrOk, faultOk, tallyOk, bumpOk, commitOk, List.all_cons, List.all_nil, Bool.and_true] <;> decide) | (split <;> decide) | (split <;> simp only [wrOk, faultOk, tallyOk, bumpOk, commitOk, List.all_cons, List.all_nil, Bool.and_true] <;> decide)) _ _).trans ?_
    | intro _
    | dsimp only

theorem State.transRecord_only {β : Type} {π : State → β} (hU : Unseen 0x80000040420 π) (s : State) (status : Nat) (task : Nat) (e : Nat) (robot : Nat) (old : TaskRec) (new : TaskRec) (flags : Nat) :
    π (State.transRecord s status task e robot old new flags) = π s := by
  dsimp only [State.transRecord]
  repeat' first
    | with_reducible rfl
    | with_reducible refine (State.record_only (hU.mono (by decide)) _ _ _ _).trans ?_

theorem State.applyEvent_only {β : Type} {π : State → β} (hU : Unseen 0x80000140420 π) (s : State) (src : Nat) (robot : Nat) (task : Nat) (e : Nat) (arg : Nat) (r : TaskRec) :
    π (State.applyEvent s src robot task e arg r) = π s := by
  dsimp only [State.applyEvent]
  repeat' first
    | with_reducible rfl
    | with_reducible refine (State.transRecord_only (hU.mono (by decide)) _ _ _ _ _ _ _ _).trans ?_
    | with_reducible refine (State.count_only (hU.mono (by decide)) _ _).trans ?_
    | with_reducible refine (State.setTask_only (hU.mono (by decide)) _ _ _).trans ?_
    | fail_if_no_progress with_reducible refine (hU.epo (by decide) _ _).trans ?_
    | fail_if_no_progress with_reducible refine (hU.trk (by decide) _ _).trans ?_
    | fail_if_no_progress with_reducible refine (hU.epo_trk (by decide) (by decide) _ _ _).trans ?_
    | with_reducible refine Unseen.ite ?_ ?_
    | dsimp only
    | split

theorem State.runEvent_only {β : Type} {π : State → β} (hU : Unseen 0x80000140420 π) (s : State) (src : Nat) (robot : Nat) (task : Nat) (e : Nat) (arg : Nat) (rsv : Bool) :
    π ((State.runEvent s src robot task e arg rsv).2.2) = π s := by
  dsimp only [State.runEvent]
  repeat' first
    | with_reducible rfl
    | with_reducible refine (State.transRecord_only (hU.mono (by decide)) _ _ _ _ _ _ _ _).trans ?_
    | with_reducible refine (State.applyEvent_only (hU.mono (by decide)) _ _ _ _ _ _ _).trans ?_
    | with_reducible refine (State.count_only (hU.mono (by decide)) _ _).trans ?_
    | with_reducible refine (State.setTask_only (hU.mono (by decide)) _ _ _).trans ?_
    | with_reducible refine Unseen.ite ?_ ?_
    | dsimp only
    | split

theorem State.forceMove_only {β : Type} {π : State → β} (hU : Unseen 0x80000140420 π) (s : State) (task : Nat) (r : TaskRec) :
    π (State.forceMove s task r) = π s := by
  dsimp only [State.forceMove]
  repeat' first
    | with_reducible rfl
    | with_reducible refine (State.transRecord_only (hU.mono (by decide)) _ _ _ _ _ _ _ _).trans ?_
    | with_reducible refine (State.count_only (hU.mono (by decide)) _ _).trans ?_
    | with_reducible refine (State.setTask_only (hU.mono (by decide)) _ _ _).trans ?_

theorem State.robotGone_only {β : Type} {π : State → β} (hU : Unseen 0x80000140420 π) (s : State) (robot : Nat) (task : Nat) (r : TaskRec) :
    π (State.robotGone s robot task r) = π s := by
  dsimp only [State.robotGone]
  repeat' first
    | with_reducible rfl
    | with_reducible refine (State.applyEvent_only (hU.mono (by decide)) _ _ _ _ _ _ _).trans ?_
    | with_reducible refine (State.forceMove_only (hU.mono (by decide)) _ _ _).trans ?_
    | with_reducible refine Unseen.ite ?_ ?_
    | split

theorem State.deviceEvents_only {β : Type} {π : State → β} (hU : Unseen 0x0 π) (s : State) (who : List Nat) (run : State → Nat → Nat → TaskRec → State) (x0 : List (Nat × TaskRec)) (hrun : ∀ (y0 : State) (y1 : Nat) (y2 : Nat) (y3 : TaskRec), π (run y0 y1 y2 y3) = π y0) :
    π (State.deviceEvents s who run x0) = π s := by
  induction x0 generalizing s with
  | nil =>
    dsimp only [State.deviceEvents]
    repeat' first
      | with_reducible rfl
      | with_reducible refine (ih ..).trans ?_
      | with_reducible refine (hrun _ _ _ _).trans ?_
      | with_reducible refine Unseen.ite ?_ ?_
      | dsimp only
      | split
  | cons a k ih =>
    dsimp only [State.deviceEvents]
    repeat' first
      | with_reducible rfl
      | with_reducible refine (ih ..).trans ?_
      | with_reducible refine (hrun _ _ _ _).trans ?_
      | with_reducible refine Unseen.ite ?_ ?_
      | dsimp only
      | split

theorem State.timeouts_only {β : Type} {π : State → β} (hU : Unseen 0x80000140420 π) (s : State) (x0 : List (Nat × TaskRec)) :
    π (State.timeouts s x0) = π s := by
  induction x0 generalizing s with
  | nil =>
    dsimp only [State.timeouts]
    repeat' first
      | with_reducible rfl
      | with_reducible refine (ih ..).trans ?_
      | with_reducible refine (State.runEvent_only (hU.mono (by decide)) _ _ _ _ _ _ _).trans ?_
      | with_reducible refine Unseen.ite ?_ ?_
      | dsimp only
      | split
  | cons a k ih =>
    dsimp only [State.timeouts]
    repeat' first
      | with_reducible rfl
      | with_reducible refine (ih ..).trans ?_
      | with_reducible refine (State.runEvent_only (hU.mono (by decide)) _ _ _ _ _ _ _).trans ?_
      | with_reducible refine Unseen.ite ?_ ?_
      | dsimp only
      | split

theorem State.forceTask_only {β : Type} {π : State → β} (hU : Unseen 0x100000 π) (s : State) (task : Nat) (st : Nat) (holder : Option Nat) :
    π ((State.forceTask s task st holder).2) = π s := by
  dsimp only [State.forceTask]
  repeat' first
    | with_reducible rfl
    | with_reducible refine (State.count_only (hU.mono (by decide)) _ _).trans ?_
    | with_reducible refine (State.setTask_only (hU.mono (by decide)) _ _ _).trans ?_
    | with_reducible refine Unseen.ite ?_ ?_
    | dsimp only
    | split

theorem State.trkCounters_only {β : Type} {π : State → β} (hU : Unseen 0x4080000100420 π) (s : State) :
    π (State.trkCounters s) = π s := by
  dsimp only [State.trkCounters]
  repeat' first
    | with_reducible rfl
    | with_reducible refine (hU.wrapBy (by first | decide | (simp only [wrOk, faultOk, tallyOk, bumpOk, commitOk, List.all_cons, List.all_nil, Bool.and_true] <;> decide) | (split <;> decide) | (split <;> simp only [wrOk, faultOk, tallyOk, bumpOk, commitOk, List.all_cons, List.all_nil, Bool.and_true] <;> decide)) _ _).trans ?_
    | with_reducible refine (hU.fault (by first | decide | (simp only [wrOk, faultOk, tallyOk, bumpOk, commitOk, List.all_cons, List.all_nil, Bool.and_true] <;> decide) | (split <;> decide) | (split <;> simp only [wrOk, faultOk, tallyOk, bumpOk, commitOk, List.all_cons, List.all_nil, Bool.and_true] <;> decide)) _).trans ?_
    | with_reducible refine (hU.bumpBy (by first | decide | (simp only [wrOk, faultOk, tallyOk, bumpOk, commitOk, List.all_cons, List.all_nil, Bool.and_true] <;> decide) | (split <;> decide) | (split <;> simp only [wrOk, faultOk, tallyOk, bumpOk, commitOk, List.all_cons, List.all_nil, Bool.and_true] <;> decide)) _ _).trans ?_
    | fail_if_no_progress with_reducible refine (hU.trk (by decide) _ _).trans ?_
    | with_reducible refine Unseen.ite ?_ ?_
    | intro _
    | split

theorem State.trkCommit_only {β : Type} {π : State → β} (hU : Unseen 0x4080000100420 π) (s : State) :
    π (State.trkCommit s) = π s := by
  dsimp only [State.trkCommit]
  repeat' first
    | with_reducible rfl
    | with_reducible refine (State.trkCounters_only (hU.mono (by decide)) _).trans ?_
    | with_reducible refine (State.showTasks_only (hU.mono (by decide)) _).trans ?_
    | with_reducible refine (hU.event (by decide) _ _ _ _).trans ?_
    | fail_if_no_progress with_reducible refine (hU.trk (by decide) _ _).trans ?_
    | with_reducible refine (Unseen.foldl _ ?_ _ _).trans ?_
    | intro _

theorem State.trkAbandon_only {β : Type} {π : State → β} (hU : Unseen 0x100000 π) (s : State) :
    π (State.trkAbandon s) = π s := by
  dsimp only [State.trkAbandon]
  repeat' first
    | with_reducible rfl
    | fail_if_no_progress with_reducible refine (hU.trk (by decide) _ _).trans ?_

theorem State.taskAudit_only {β : Type} {π : State → β} (hU : Unseen 0xa1d48e0092740ee2 π) (s : State) :
    π (State.taskAudit s) = π s := by
  dsimp only [State.taskAudit]
  repeat' first
    | with_reducible rfl
    | with_reducible refine (State.raiseFleet_only hU (by decide) _ _ _ (by first | decide | (simp only [wrOk, faultOk, tallyOk, bumpOk, commitOk, List.all_cons, List.all_nil, Bool.and_true] <;> decide) | (split <;> decide) | (split <;> simp only [wrOk, faultOk, tallyOk, bumpOk, commitOk, List.all_cons, List.all_nil, Bool.and_true] <;> decide))).trans ?_
    | with_reducible refine (hU.fault (by first | decide | (simp only [wrOk, faultOk, tallyOk, bumpOk, commitOk, List.all_cons, List.all_nil, Bool.and_true] <;> decide) | (split <;> decide) | (split <;> simp only [wrOk, faultOk, tallyOk, bumpOk, commitOk, List.all_cons, List.all_nil, Bool.and_true] <;> decide)) _).trans ?_
    | with_reducible refine (hU.wrO (by first | decide | (simp only [wrOk, faultOk, tallyOk, bumpOk, commitOk, List.all_cons, List.all_nil, Bool.and_true] <;> decide) | (split <;> decide) | (split <;> simp only [wrOk, faultOk, tallyOk, bumpOk, commitOk, List.all_cons, List.all_nil, Bool.and_true] <;> decide)) _ _).trans ?_
    | with_reducible refine Unseen.ite ?_ ?_
    | split

theorem State.fleetApply_only {β : Type} {π : State → β} (hU : Unseen 0x14020000100010 π) (s : State) :
    π (State.fleetApply s) = π s := by
  dsimp only [State.fleetApply]
  repeat' first
    | with_reducible rfl
    | with_reducible refine (State.showTasks_only (hU.mono (by decide)) _).trans ?_
    | with_reducible refine (hU.wrapBy (by first | decide | (simp only [wrOk, faultOk, tallyOk, bumpOk, commitOk, List.all_cons, List.all_nil, Bool.and_true] <;> decide) | (split <;> decide) | (split <;> simp only [wrOk, faultOk, tallyOk, bumpOk, commitOk, List.all_cons, List.all_nil, Bool.and_true] <;> decide)) _ _).trans ?_
    | with_reducible refine (hU.wrO (by first | decide | (simp only [wrOk, faultOk, tallyOk, bumpOk, commitOk, List.all_cons, List.all_nil, Bool.and_true] <;> decide) | (split <;> decide) | (split <;> simp only [wrOk, faultOk, tallyOk, bumpOk, commitOk, List.all_cons, List.all_nil, Bool.and_true] <;> decide)) _ _).trans ?_
    | fail_if_no_progress with_reducible refine (hU.trk (by decide) _ _).trans ?_
    | fail_if_no_progress with_reducible refine (hU.cmt_trk (by decide) (by decide) _ _ _).trans ?_

theorem State.fleetRefuse_only {β : Type} {π : State → β} (hU : Unseen 0x4000000100010 π) (s : State) (v : Nat) (err : Nat × Nat) :
    π (State.fleetRefuse s v err) = π s := by
  dsimp only [State.fleetRefuse]
  repeat' first
    | with_reducible rfl
    | with_reducible refine (hU.wrO (by first | decide | (simp only [wrOk, faultOk, tallyOk, bumpOk, commitOk, List.all_cons, List.all_nil, Bool.and_true] <;> decide) | (split <;> decide) | (split <;> simp only [wrOk, faultOk, tallyOk, bumpOk, commitOk, List.all_cons, List.all_nil, Bool.and_true] <;> decide)) _ _).trans ?_
    | fail_if_no_progress with_reducible refine (hU.cmt_trk (by decide) (by decide) _ _ _).trans ?_
    | dsimp only

theorem fleetCommitOp_only {β : Type} {π : State → β} (hU : Unseen 0x4000000100010 π) (s : State) :
    π (fleetCommitOp s) = π s := by
  dsimp only [fleetCommitOp]
  repeat' first
    | with_reducible rfl
    | with_reducible refine (State.fleetRefuse_only (hU.mono (by decide)) _ _ _).trans ?_
    | with_reducible refine (hU.wrO (by first | decide | (simp only [wrOk, faultOk, tallyOk, bumpOk, commitOk, List.all_cons, List.all_nil, Bool.and_true] <;> decide) | (split <;> decide) | (split <;> simp only [wrOk, faultOk, tallyOk, bumpOk, commitOk, List.all_cons, List.all_nil, Bool.and_true] <;> decide)) _ _).trans ?_
    | with_reducible refine (hU.setPending (by first | decide | (simp only [wrOk, faultOk, tallyOk, bumpOk, commitOk, List.all_cons, List.all_nil, Bool.and_true] <;> decide) | (split <;> decide) | (split <;> simp only [wrOk, faultOk, tallyOk, bumpOk, commitOk, List.all_cons, List.all_nil, Bool.and_true] <;> decide)) _).trans ?_
    | fail_if_no_progress with_reducible refine (hU.trk (by decide) _ _).trans ?_
    | with_reducible refine Unseen.ite ?_ ?_
    | split

theorem fleetValidatedOp_only {β : Type} {π : State → β} (hU : Unseen 0x14020000140010 π) (s : State) :
    π (fleetValidatedOp s) = π s := by
  dsimp only [fleetValidatedOp]
  repeat' first
    | with_reducible rfl
    | with_reducible refine (State.fleetRefuse_only (hU.mono (by decide)) _ _ _).trans ?_
    | with_reducible refine (State.fleetApply_only (hU.mono (by decide)) _).trans ?_
    | fail_if_no_progress with_reducible refine (hU.epo (by decide) _ _).trans ?_
    | fail_if_no_progress with_reducible refine (hU.trk (by decide) _ _).trans ?_
    | fail_if_no_progress with_reducible refine (hU.epo_trk (by decide) (by decide) _ _ _).trans ?_
    | with_reducible refine Unseen.ite ?_ ?_
    | dsimp only
    | split

theorem tableLoadOp_only {β : Type} {π : State → β} (hU : Unseen 0x100200 π) (c : Cmd) (data : List Byte) (s : State) :
    π (tableLoadOp c data s) = π s := by
  dsimp only [tableLoadOp]
  repeat' first
    | with_reducible rfl
    | with_reducible refine (State.finish_only (hU.mono (by decide)) _ _ _ _ _).trans ?_
    | with_reducible refine (State.hostCmd_only (hU.mono (by decide)) _ _ _ _ ?_).trans ?_
    | fail_if_no_progress with_reducible refine (hU.trk (by decide) _ _).trans ?_
    | with_reducible refine Unseen.ite ?_ ?_
    | intro _
    | split

theorem taskEventOp_only {β : Type} {π : State → β} (hU : Unseen 0x4080000040620 π) (c : Cmd) (s : State) :
    π (taskEventOp c s) = π s := by
  dsimp only [taskEventOp]
  repeat' first
    | with_reducible rfl
    | with_reducible refine (State.finish_only (hU.mono (by decide)) _ _ _ _ _).trans ?_
    | with_reducible refine (State.epochInput_only (hU.mono (by decide)) _ _ _ _).trans ?_
    | with_reducible refine (State.hostCmd_only (hU.mono (by decide)) _ _ _ _ ?_).trans ?_
    | with_reducible refine (hU.bump (by first | decide | (simp only [wrOk, faultOk, tallyOk, bumpOk, commitOk, List.all_cons, List.all_nil, Bool.and_true] <;> decide) | (split <;> decide) | (split <;> simp only [wrOk, faultOk, tallyOk, bumpOk, commitOk, List.all_cons, List.all_nil, Bool.and_true] <;> decide)) _).trans ?_
    | with_reducible refine Unseen.ite ?_ ?_
    | intro _
    | split

theorem taskReadOp_only {β : Type} {π : State → β} (hU : Unseen 0x200 π) (c : Cmd) (s : State) :
    π (taskReadOp c s) = π s := by
  dsimp only [taskReadOp]
  repeat' first
    | with_reducible rfl
    | with_reducible refine (State.finish_only (hU.mono (by decide)) _ _ _ _ _).trans ?_
    | with_reducible refine (State.hostCmd_only (hU.mono (by decide)) _ _ _ _ ?_).trans ?_
    | with_reducible refine (State.finishData_only (hU.mono (by decide)) _ _ _).trans ?_
    | with_reducible refine Unseen.ite ?_ ?_
    | intro _
    | split

theorem taskForceOp_only {β : Type} {π : State → β} (hU : Unseen 0x4080000140620 π) (c : Cmd) (s : State) :
    π (taskForceOp c s) = π s := by
  dsimp only [taskForceOp]
  repeat' first
    | with_reducible rfl
    | with_reducible refine (State.settleTask_only (hU.mono (by decide)) _ _).trans ?_
    | with_reducible refine (State.hostCmd_only (hU.mono (by decide)) _ _ _ _ ?_).trans ?_
    | with_reducible refine (State.forceTask_only (hU.mono (by decide)) _ _ _ _).trans ?_
    | with_reducible refine (State.epochInput_only (hU.mono (by decide)) _ _ _ _).trans ?_
    | with_reducible refine (State.trkCounters_only (hU.mono (by decide)) _).trans ?_
    | with_reducible refine (State.finish_only (hU.mono (by decide)) _ _ _ _ _).trans ?_
    | with_reducible refine (State.showTasks_only (hU.mono (by decide)) _).trans ?_
    | with_reducible refine Unseen.ite ?_ ?_
    | intro _
    | dsimp only
    | split

theorem taskAuditClearOp_only {β : Type} {π : State → β} (hU : Unseen 0x14000000100000 π) (mismatch : Bool) (s : State) :
    π (taskAuditClearOp mismatch s) = π s := by
  dsimp only [taskAuditClearOp]
  repeat' first
    | with_reducible rfl
    | with_reducible refine (hU.wrO (by first | decide | (simp only [wrOk, faultOk, tallyOk, bumpOk, commitOk, List.all_cons, List.all_nil, Bool.and_true] <;> decide) | (split <;> decide) | (split <;> simp only [wrOk, faultOk, tallyOk, bumpOk, commitOk, List.all_cons, List.all_nil, Bool.and_true] <;> decide)) _ _).trans ?_
    | fail_if_no_progress with_reducible refine (hU.trk (by decide) _ _).trans ?_
    | with_reducible refine Unseen.ite ?_ ?_
    | dsimp only
    | split

theorem tableEccOp_only {β : Type} {π : State → β} (hU : Unseen 0xa1d48e0092740ee2 π) (record : Bool) (s : State) :
    π (tableEccOp record s) = π s := by
  dsimp only [tableEccOp]
  repeat' first
    | with_reducible rfl
    | with_reducible refine (State.raiseFleet_only hU (by decide) _ _ _ (by first | decide | (simp only [wrOk, faultOk, tallyOk, bumpOk, commitOk, List.all_cons, List.all_nil, Bool.and_true] <;> decide) | (split <;> decide) | (split <;> simp only [wrOk, faultOk, tallyOk, bumpOk, commitOk, List.all_cons, List.all_nil, Bool.and_true] <;> decide))).trans ?_
    | with_reducible refine (hU.fault (by first | decide | (simp only [wrOk, faultOk, tallyOk, bumpOk, commitOk, List.all_cons, List.all_nil, Bool.and_true] <;> decide) | (split <;> decide) | (split <;> simp only [wrOk, faultOk, tallyOk, bumpOk, commitOk, List.all_cons, List.all_nil, Bool.and_true] <;> decide)) _).trans ?_
    | with_reducible refine (hU.wrO (by first | decide | (simp only [wrOk, faultOk, tallyOk, bumpOk, commitOk, List.all_cons, List.all_nil, Bool.and_true] <;> decide) | (split <;> decide) | (split <;> simp only [wrOk, faultOk, tallyOk, bumpOk, commitOk, List.all_cons, List.all_nil, Bool.and_true] <;> decide)) _ _).trans ?_
    | fail_if_no_progress with_reducible refine (hU.trk (by decide) _ _).trans ?_
    | with_reducible refine Unseen.ite ?_ ?_
    | split


/-! ## Governor -/

theorem State.setLoop_only {β : Type} {π : State → β} (hU : Unseen 0x200000 π) (s : State) (n : Nat) (l : Loop) :
    π (State.setLoop s n l) = π s := by
  dsimp only [State.setLoop]
  repeat' first
    | with_reducible rfl
    | fail_if_no_progress with_reducible refine (hU.gov (by decide) _ _).trans ?_

theorem State.command_only {β : Type} {π : State → β} (hU : Unseen 0x8080000240420 π) (s : State) (lid : Nat) (l : Loop) (flags : Nat) (comp : YTime) :
    π (State.command s lid l flags comp) = π s := by
  dsimp only [State.command]
  repeat' first
    | with_reducible rfl
    | with_reducible refine (State.offer_only (hU.mono (by decide)) _ _ _ _).trans ?_
    | with_reducible refine (State.setLoop_only (hU.mono (by decide)) _ _ _).trans ?_
    | with_reducible refine (hU.wrapBy (by first | decide | (simp only [wrOk, faultOk, tallyOk, bumpOk, commitOk, List.all_cons, List.all_nil, Bool.and_true] <;> decide) | (split <;> decide) | (split <;> simp only [wrOk, faultOk, tallyOk, bumpOk, commitOk, List.all_cons, List.all_nil, Bool.and_true] <;> decide)) _ _).trans ?_
    | with_reducible refine (hU.bump (by first | decide | (simp only [wrOk, faultOk, tallyOk, bumpOk, commitOk, List.all_cons, List.all_nil, Bool.and_true] <;> decide) | (split <;> decide) | (split <;> simp only [wrOk, faultOk, tallyOk, bumpOk, commitOk, List.all_cons, List.all_nil, Bool.and_true] <;> decide)) _).trans ?_
    | with_reducible refine (hU.fault (by first | decide | (simp only [wrOk, faultOk, tallyOk, bumpOk, commitOk, List.all_cons, List.all_nil, Bool.and_true] <;> decide) | (split <;> decide) | (split <;> simp only [wrOk, faultOk, tallyOk, bumpOk, commitOk, List.all_cons, List.all_nil, Bool.and_true] <;> decide)) _).trans ?_
    | fail_if_no_progress with_reducible refine (hU.epo (by decide) _ _).trans ?_
    | with_reducible refine Unseen.ite ?_ ?_
    | dsimp only
    | split

theorem State.noCurve_only {β : Type} {π : State → β} (hU : Unseen 0x8080000240420 π) (s : State) (lid : Nat) (l : Loop) (comp : YTime) :
    π (State.noCurve s lid l comp) = π s := by
  dsimp only [State.noCurve]
  repeat' first
    | with_reducible rfl
    | with_reducible refine (State.command_only (hU.mono (by decide)) _ _ _ _ _).trans ?_
    | with_reducible refine (hU.bump (by first | decide | (simp only [wrOk, faultOk, tallyOk, bumpOk, commitOk, List.all_cons, List.all_nil, Bool.and_true] <;> decide) | (split <;> decide) | (split <;> simp only [wrOk, faultOk, tallyOk, bumpOk, commitOk, List.all_cons, List.all_nil, Bool.and_true] <;> decide)) _).trans ?_
    | with_reducible refine (hU.fault (by first | decide | (simp only [wrOk, faultOk, tallyOk, bumpOk, commitOk, List.all_cons, List.all_nil, Bool.and_true] <;> decide) | (split <;> decide) | (split <;> simp only [wrOk, faultOk, tallyOk, bumpOk, commitOk, List.all_cons, List.all_nil, Bool.and_true] <;> decide)) _).trans ?_

theorem State.ramp_only {β : Type} {π : State → β} (hU : Unseen 0x8080000240420 π) (s : State) (lid : Nat) (l0 : Loop) (entry : Bool) (comp : YTime) :
    π (State.ramp s lid l0 entry comp) = π s := by
  dsimp only [State.ramp]
  repeat' first
    | with_reducible rfl
    | with_reducible refine (State.command_only (hU.mono (by decide)) _ _ _ _ _).trans ?_
    | with_reducible refine (State.noCurve_only (hU.mono (by decide)) _ _ _ _).trans ?_
    | with_reducible refine (State.setLoop_only (hU.mono (by decide)) _ _ _).trans ?_
    | with_reducible refine Unseen.ite ?_ ?_
    | dsimp only
    | split

theorem State.coast_only {β : Type} {π : State → β} (hU : Unseen 0x1d8080010640c22 π) (s : State) (lid : Nat) (l : Loop) (comp : YTime) :
    π (State.coast s lid l comp) = π s := by
  dsimp only [State.coast]
  repeat' first
    | with_reducible rfl
    | with_reducible refine (State.ramp_only (hU.mono (by decide)) _ _ _ _ _).trans ?_
    | with_reducible refine (State.raiseOwn_only hU (by decide) _ _ _ _ (by first | decide | (simp only [wrOk, faultOk, tallyOk, bumpOk, commitOk, List.all_cons, List.all_nil, Bool.and_true, Reg.TRP_ROBOT_COAST_blk] <;> decide) | (split <;> decide) | (split <;> simp only [wrOk, faultOk, tallyOk, bumpOk, commitOk, List.all_cons, List.all_nil, Bool.and_true, Reg.TRP_ROBOT_COAST_blk] <;> decide))).trans ?_
    | with_reducible refine (hU.bump (by first | decide | (simp only [wrOk, faultOk, tallyOk, bumpOk, commitOk, List.all_cons, List.all_nil, Bool.and_true, Reg.TRP_ROBOT_COAST_blk] <;> decide) | (split <;> decide) | (split <;> simp only [wrOk, faultOk, tallyOk, bumpOk, commitOk, List.all_cons, List.all_nil, Bool.and_true, Reg.TRP_ROBOT_COAST_blk] <;> decide)) _).trans ?_
    | with_reducible refine (hU.faultWith (by first | decide | (simp only [wrOk, faultOk, tallyOk, bumpOk, commitOk, List.all_cons, List.all_nil, Bool.and_true, Reg.TRP_ROBOT_COAST_blk] <;> decide) | (split <;> decide) | (split <;> simp only [wrOk, faultOk, tallyOk, bumpOk, commitOk, List.all_cons, List.all_nil, Bool.and_true, Reg.TRP_ROBOT_COAST_blk] <;> decide)) _ _).trans ?_
    | fail_if_no_progress with_reducible refine (hU.epo (by decide) _ _).trans ?_
    | with_reducible refine Unseen.ite ?_ ?_
    | split

theorem State.update_only {β : Type} {π : State → β} (hU : Unseen 0x8080000240420 π) (s : State) (lid : Nat) (l : Loop) (dock : Bool) (hand : Bool) (sat : Bool) (err : Int) (vLim : Int) (t : Int) (comp : YTime) :
    π (State.update s lid l dock hand sat err vLim t comp) = π s := by
  dsimp only [State.update]
  repeat' first
    | with_reducible rfl
    | with_reducible refine (State.command_only (hU.mono (by decide)) _ _ _ _ _).trans ?_
    | with_reducible refine (State.noCurve_only (hU.mono (by decide)) _ _ _ _).trans ?_
    | with_reducible refine (hU.bump (by first | decide | (simp only [wrOk, faultOk, tallyOk, bumpOk, commitOk, List.all_cons, List.all_nil, Bool.and_true] <;> decide) | (split <;> decide) | (split <;> simp only [wrOk, faultOk, tallyOk, bumpOk, commitOk, List.all_cons, List.all_nil, Bool.and_true] <;> decide)) _).trans ?_
    | with_reducible refine Unseen.ite ?_ ?_
    | dsimp only
    | split

theorem State.loopIn_only {β : Type} {π : State → β} (hU : Unseen 0x1d8080010640c22 π) (s : State) (x : LoopIn) (comp : YTime) :
    π (State.loopIn s x comp) = π s := by
  dsimp only [State.loopIn]
  repeat' first
    | with_reducible rfl
    | with_reducible refine (State.ramp_only (hU.mono (by decide)) _ _ _ _ _).trans ?_
    | with_reducible refine (State.setLoop_only (hU.mono (by decide)) _ _ _).trans ?_
    | with_reducible refine (State.update_only (hU.mono (by decide)) _ _ _ _ _ _ _ _ _ _).trans ?_
    | with_reducible refine (State.coast_only (hU.mono (by decide)) _ _ _ _).trans ?_
    | with_reducible refine (hU.bump (by first | decide | (simp only [wrOk, faultOk, tallyOk, bumpOk, commitOk, List.all_cons, List.all_nil, Bool.and_true] <;> decide) | (split <;> decide) | (split <;> simp only [wrOk, faultOk, tallyOk, bumpOk, commitOk, List.all_cons, List.all_nil, Bool.and_true] <;> decide)) _).trans ?_
    | with_reducible refine (hU.fault (by first | decide | (simp only [wrOk, faultOk, tallyOk, bumpOk, commitOk, List.all_cons, List.all_nil, Bool.and_true] <;> decide) | (split <;> decide) | (split <;> simp only [wrOk, faultOk, tallyOk, bumpOk, commitOk, List.all_cons, List.all_nil, Bool.and_true] <;> decide)) _).trans ?_
    | with_reducible refine Unseen.ite ?_ ?_
    | intro _
    | dsimp only
    | split

theorem State.latency_only {β : Type} {π : State → β} (hU : Unseen 0x8080000000420 π) (s : State) (us : Nat) :
    π (State.latency s us) = π s := by
  dsimp only [State.latency]
  repeat' first
    | with_reducible rfl
    | with_reducible refine (State.tallyAdd_only (hU.mono (by decide)) _ _ _).trans ?_
    | with_reducible refine (hU.wrO (by first | decide | (simp only [wrOk, faultOk, tallyOk, bumpOk, commitOk, List.all_cons, List.all_nil, Bool.and_true] <;> decide) | (split <;> decide) | (split <;> simp only [wrOk, faultOk, tallyOk, bumpOk, commitOk, List.all_cons, List.all_nil, Bool.and_true] <;> decide)) _ _).trans ?_

theorem loopInputOp_only {β : Type} {π : State → β} (hU : Unseen 0x1d8080010640c22 π) (comp : YTime) (us : Nat) (s : State) :
    π (loopInputOp comp us s) = π s := by
  dsimp only [loopInputOp]
  repeat' first
    | with_reducible rfl
    | with_reducible refine (State.loopIn_only (hU.mono (by decide)) _ _ _).trans ?_
    | with_reducible refine (State.consume_only (hU.mono (by decide)) _ _ _).trans ?_
    | with_reducible refine (State.latency_only (hU.mono (by decide)) _ _).trans ?_
    | with_reducible refine (hU.bump (by first | decide | (simp only [wrOk, faultOk, tallyOk, bumpOk, commitOk, List.all_cons, List.all_nil, Bool.and_true] <;> decide) | (split <;> decide) | (split <;> simp only [wrOk, faultOk, tallyOk, bumpOk, commitOk, List.all_cons, List.all_nil, Bool.and_true] <;> decide)) _).trans ?_
    | fail_if_no_progress with_reducible refine (hU.epo (by decide) _ _).trans ?_
    | with_reducible refine Unseen.ite ?_ ?_
    | dsimp only
    | split

theorem coastEntryOp_only {β : Type} {π : State → β} (hU : Unseen 0x1d8080010640c22 π) (lid : Nat) (comp : YTime) (s : State) :
    π (coastEntryOp lid comp s) = π s := by
  dsimp only [coastEntryOp]
  repeat' first
    | with_reducible rfl
    | with_reducible refine (State.coast_only (hU.mono (by decide)) _ _ _ _).trans ?_
    | with_reducible refine Unseen.ite ?_ ?_
    | intro _
    | split

theorem loopRampCommandOp_only {β : Type} {π : State → β} (hU : Unseen 0x8080000240420 π) (lid : Nat) (comp : YTime) (s : State) :
    π (loopRampCommandOp lid comp s) = π s := by
  dsimp only [loopRampCommandOp]
  repeat' first
    | with_reducible rfl
    | with_reducible refine (State.ramp_only (hU.mono (by decide)) _ _ _ _ _).trans ?_
    | with_reducible refine Unseen.ite ?_ ?_
    | intro _
    | split

theorem loopStateEccOp_only {β : Type} {π : State → β} (hU : Unseen 0x1d8080010640c22 π) (lid : Nat) (comp : YTime) (s : State) :
    π (loopStateEccOp lid comp s) = π s := by
  dsimp only [loopStateEccOp]
  repeat' first
    | with_reducible rfl
    | with_reducible refine (State.command_only (hU.mono (by decide)) _ _ _ _ _).trans ?_
    | with_reducible refine (State.raiseOwn_only hU (by decide) _ _ _ _ (by first | decide | (simp only [wrOk, faultOk, tallyOk, bumpOk, commitOk, List.all_cons, List.all_nil, Bool.and_true, Reg.TRP_ROBOT_LOOP_LOST_blk] <;> decide) | (split <;> decide) | (split <;> simp only [wrOk, faultOk, tallyOk, bumpOk, commitOk, List.all_cons, List.all_nil, Bool.and_true, Reg.TRP_ROBOT_LOOP_LOST_blk] <;> decide))).trans ?_
    | with_reducible refine (hU.faultWith (by first | decide | (simp only [wrOk, faultOk, tallyOk, bumpOk, commitOk, List.all_cons, List.all_nil, Bool.and_true, Reg.TRP_ROBOT_LOOP_LOST_blk] <;> decide) | (split <;> decide) | (split <;> simp only [wrOk, faultOk, tallyOk, bumpOk, commitOk, List.all_cons, List.all_nil, Bool.and_true, Reg.TRP_ROBOT_LOOP_LOST_blk] <;> decide)) _ _).trans ?_
    | with_reducible refine Unseen.ite ?_ ?_
    | split

theorem State.clkGain_only {β : Type} {π : State → β} (hU : Unseen 0x2 π) (s : State) (j : Nat) (x : Int) :
    π ((State.clkGain s j x).2) = π s := by
  dsimp only [State.clkGain]
  repeat' first
    | with_reducible rfl
    | with_reducible refine (State.draw_only (hU.mono (by decide)) _ _).trans ?_
    | dsimp only
    | split

theorem State.takeFreq_only {β : Type} {π : State → β} (hU : Unseen 0x200000000001000 π) (s : State) (k : Nat) (freq : Int) :
    π (State.takeFreq s k freq) = π s := by
  dsimp only [State.takeFreq]
  repeat' first
    | with_reducible rfl
    | with_reducible refine (hU.wrO (by first | decide | (simp only [wrOk, faultOk, tallyOk, bumpOk, commitOk, List.all_cons, List.all_nil, Bool.and_true] <;> decide) | (split <;> decide) | (split <;> simp only [wrOk, faultOk, tallyOk, bumpOk, commitOk, List.all_cons, List.all_nil, Bool.and_true] <;> decide)) _ _).trans ?_
    | fail_if_no_progress with_reducible refine (hU.tim (by decide) _ _).trans ?_
    | with_reducible refine Unseen.ite ?_ ?_
    | split

theorem clockLoopInputOp_only {β : Type} {π : State → β} (hU : Unseen 0x200080000201422 π) (s0 : State) :
    π (clockLoopInputOp s0) = π s0 := by
  dsimp only [clockLoopInputOp]
  repeat' first
    | with_reducible rfl
    | with_reducible refine (State.offer_only (hU.mono (by decide)) _ _ _ _).trans ?_
    | with_reducible refine (State.takeAny_only (hU.mono (by decide)) _ _).trans ?_
    | with_reducible refine (State.takeFreq_only (hU.mono (by decide)) _ _ _).trans ?_
    | with_reducible refine (State.consume_only (hU.mono (by decide)) _ _ _).trans ?_
    | with_reducible refine (State.clkGain_only (hU.mono (by decide)) _ _ _).trans ?_
    | fail_if_no_progress with_reducible refine (hU.gov (by decide) _ _).trans ?_
    | with_reducible refine Unseen.ite ?_ ?_
    | dsimp only
    | split

theorem State.paceRefuse_only {β : Type} {π : State → β} (hU : Unseen 0x8000000200010 π) (s : State) (v : Nat) (err : Nat × Nat) :
    π (State.paceRefuse s v err) = π s := by
  dsimp only [State.paceRefuse]
  repeat' first
    | with_reducible rfl
    | with_reducible refine (hU.wrO (by first | decide | (simp only [wrOk, faultOk, tallyOk, bumpOk, commitOk, List.all_cons, List.all_nil, Bool.and_true] <;> decide) | (split <;> decide) | (split <;> simp only [wrOk, faultOk, tallyOk, bumpOk, commitOk, List.all_cons, List.all_nil, Bool.and_true] <;> decide)) _ _).trans ?_
    | fail_if_no_progress with_reducible refine (hU.cmt_gov (by decide) (by decide) _ _ _).trans ?_
    | dsimp only

theorem State.paceApply_only {β : Type} {π : State → β} (hU : Unseen 0x8000008200018 π) (s : State) :
    π (State.paceApply s) = π s := by
  dsimp only [State.paceApply]
  repeat' first
    | with_reducible rfl
    | with_reducible refine (State.storeWith_only (hU.mono (by decide)) _ _).trans ?_
    | with_reducible refine (hU.wrO (by first | decide | (simp only [wrOk, faultOk, tallyOk, bumpOk, commitOk, List.all_cons, List.all_nil, Bool.and_true, SettingsArea.regs, paceGroup, Reg.GOV_CLASS_A_KI_DOCK_blk, Reg.GOV_CLASS_A_KI_TRACK_blk, Reg.GOV_CLASS_A_KP_DOCK_blk, Reg.GOV_CLASS_A_KP_TRACK_blk, Reg.GOV_CLASS_B_ACC_blk, Reg.GOV_CLASS_B_APPROACH_blk, Reg.GOV_CLASS_B_DEC_blk, Reg.GOV_CLK_KI_blk, Reg.GOV_CLK_KP_blk] <;> decide) | (split <;> decide) | (split <;> simp only [wrOk, faultOk, tallyOk, bumpOk, commitOk, List.all_cons, List.all_nil, Bool.and_true, SettingsArea.regs, paceGroup, Reg.GOV_CLASS_A_KI_DOCK_blk, Reg.GOV_CLASS_A_KI_TRACK_blk, Reg.GOV_CLASS_A_KP_DOCK_blk, Reg.GOV_CLASS_A_KP_TRACK_blk, Reg.GOV_CLASS_B_ACC_blk, Reg.GOV_CLASS_B_APPROACH_blk, Reg.GOV_CLASS_B_DEC_blk, Reg.GOV_CLK_KI_blk, Reg.GOV_CLK_KP_blk] <;> decide) | (simp only [SettingsArea.regs, paceGroup]; split <;> decide)) _ _).trans ?_
    | with_reducible refine (hU.endPending (by first | decide | (simp only [wrOk, faultOk, tallyOk, bumpOk, commitOk, List.all_cons, List.all_nil, Bool.and_true, SettingsArea.regs, paceGroup, Reg.GOV_CLASS_A_KI_DOCK_blk, Reg.GOV_CLASS_A_KI_TRACK_blk, Reg.GOV_CLASS_A_KP_DOCK_blk, Reg.GOV_CLASS_A_KP_TRACK_blk, Reg.GOV_CLASS_B_ACC_blk, Reg.GOV_CLASS_B_APPROACH_blk, Reg.GOV_CLASS_B_DEC_blk, Reg.GOV_CLK_KI_blk, Reg.GOV_CLK_KP_blk] <;> decide) | (split <;> decide) | (split <;> simp only [wrOk, faultOk, tallyOk, bumpOk, commitOk, List.all_cons, List.all_nil, Bool.and_true, SettingsArea.regs, paceGroup, Reg.GOV_CLASS_A_KI_DOCK_blk, Reg.GOV_CLASS_A_KI_TRACK_blk, Reg.GOV_CLASS_A_KP_DOCK_blk, Reg.GOV_CLASS_A_KP_TRACK_blk, Reg.GOV_CLASS_B_ACC_blk, Reg.GOV_CLASS_B_APPROACH_blk, Reg.GOV_CLASS_B_DEC_blk, Reg.GOV_CLK_KI_blk, Reg.GOV_CLK_KP_blk] <;> decide) | (simp only [SettingsArea.regs, paceGroup]; split <;> decide)) _ _).trans ?_
    | fail_if_no_progress with_reducible refine (hU.gov (by decide) _ _).trans ?_
    | intro _

theorem paceCommitOp_only {β : Type} {π : State → β} (hU : Unseen 0x8000008240018 π) (s : State) :
    π (paceCommitOp s) = π s := by
  dsimp only [paceCommitOp]
  repeat' first
    | with_reducible rfl
    | with_reducible refine (State.paceApply_only (hU.mono (by decide)) _).trans ?_
    | with_reducible refine (State.paceRefuse_only (hU.mono (by decide)) _ _ _).trans ?_
    | with_reducible refine (hU.wrO (by first | decide | (simp only [wrOk, faultOk, tallyOk, bumpOk, commitOk, List.all_cons, List.all_nil, Bool.and_true] <;> decide) | (split <;> decide) | (split <;> simp only [wrOk, faultOk, tallyOk, bumpOk, commitOk, List.all_cons, List.all_nil, Bool.and_true] <;> decide)) _ _).trans ?_
    | with_reducible refine (hU.setPending (by first | decide | (simp only [wrOk, faultOk, tallyOk, bumpOk, commitOk, List.all_cons, List.all_nil, Bool.and_true] <;> decide) | (split <;> decide) | (split <;> simp only [wrOk, faultOk, tallyOk, bumpOk, commitOk, List.all_cons, List.all_nil, Bool.and_true] <;> decide)) _).trans ?_
    | fail_if_no_progress with_reducible refine (hU.epo (by decide) _ _).trans ?_
    | with_reducible refine Unseen.ite ?_ ?_
    | dsimp only
    | split

theorem State.govCommit_only {β : Type} {π : State → β} (hU : Unseen 0x200000 π) (s : State) :
    π (State.govCommit s) = π s := by
  dsimp only [State.govCommit]
  repeat' first
    | with_reducible rfl
    | fail_if_no_progress with_reducible refine (hU.gov (by decide) _ _).trans ?_

theorem State.govAbandon_only {β : Type} {π : State → β} (hU : Unseen 0x200000 π) (s : State) :
    π (State.govAbandon s) = π s := by
  dsimp only [State.govAbandon]
  repeat' first
    | with_reducible rfl
    | fail_if_no_progress with_reducible refine (hU.gov (by decide) _ _).trans ?_


/-! ## Trapdoor -/

theorem State.stopLive_only {β : Type} {π : State → β} (hU : Unseen 0x10000000 π) (s : State) :
    π (State.stopLive s) = π s := by
  dsimp only [State.stopLive]
  repeat' first
    | with_reducible rfl
    | fail_if_no_progress with_reducible refine (hU.twn (by decide) _ _).trans ?_
    | with_reducible refine Unseen.ite ?_ ?_
    | split

theorem State.overtake_only {β : Type} {π : State → β} (hU : Unseen 0x20010000000 π) (s : State) :
    π (State.overtake s) = π s := by
  dsimp only [State.overtake]
  repeat' first
    | with_reducible rfl
    | with_reducible refine (State.dropArb_only (hU.mono (by decide)) _).trans ?_
    | with_reducible refine (hU.wrEach (by first | decide | (simp only [wrOk, faultOk, tallyOk, bumpOk, commitOk, List.all_cons, List.all_nil, Bool.and_true] <;> decide) | (split <;> decide) | (split <;> simp only [wrOk, faultOk, tallyOk, bumpOk, commitOk, List.all_cons, List.all_nil, Bool.and_true] <;> decide)) _).trans ?_
    | dsimp only
    | split

theorem State.reopen_only {β : Type} {π : State → β} (hU : Unseen 0x400080020300 π) (s : State) :
    π (State.reopen s) = π s := by
  dsimp only [State.reopen]
  repeat' first
    | with_reducible rfl
    | with_reducible refine (State.showMeas_only (hU.mono (by decide)) _).trans ?_
    | fail_if_no_progress with_reducible refine (hU.pwr_dsp (by decide) (by decide) _ _ _).trans ?_
    | fail_if_no_progress with_reducible refine (hU.pwr_tly (by decide) (by decide) _ _ _).trans ?_
    | fail_if_no_progress with_reducible refine (hU.hre_tly (by decide) (by decide) _ _ _).trans ?_
    | fail_if_no_progress with_reducible refine (hU.pwr_hre (by decide) (by decide) _ _ _).trans ?_
    | fail_if_no_progress with_reducible refine (hU.dsp_tly (by decide) (by decide) _ _ _).trans ?_
    | fail_if_no_progress with_reducible refine (hU.hre_dsp (by decide) (by decide) _ _ _).trans ?_
    | fail_if_no_progress with_reducible refine (hU.pwr_hre_tly (by decide) (by decide) (by decide) _ _ _ _).trans ?_
    | fail_if_no_progress with_reducible refine (hU.pwr_dsp_tly (by decide) (by decide) (by decide) _ _ _ _).trans ?_
    | fail_if_no_progress with_reducible refine (hU.pwr_hre_dsp (by decide) (by decide) (by decide) _ _ _ _).trans ?_
    | fail_if_no_progress with_reducible refine (hU.hre_dsp_tly (by decide) (by decide) (by decide) _ _ _ _).trans ?_
    | fail_if_no_progress with_reducible refine (hU.pwr_hre_dsp_tly (by decide) (by decide) (by decide) (by decide) _ _ _ _ _).trans ?_
    | with_reducible refine Unseen.ite ?_ ?_
    | split

theorem State.deviceFault_only {β : Type} {π : State → β} (hU : Unseen 0xa000ce00923207e0 π) (s : State) :
    π (State.deviceFault s) = π s := by
  dsimp only [State.deviceFault]
  repeat' first
    | with_reducible rfl
    | with_reducible refine (State.reopen_only (hU.mono (by decide)) _).trans ?_
    | with_reducible refine (State.enterMode_only (hU.mono (by decide)) _ _).trans ?_
    | with_reducible refine (State.stopLive_only (hU.mono (by decide)) _).trans ?_
    | with_reducible refine (State.overtake_only (hU.mono (by decide)) _).trans ?_
    | fail_if_no_progress with_reducible refine (hU.pwr (by decide) _ _).trans ?_
    | with_reducible refine Unseen.ite ?_ ?_
    | split

theorem State.bothOpened_only {β : Type} {π : State → β} (hU : Unseen 0x10000000000800 π) (s : State) :
    π (State.bothOpened s) = π s := by
  dsimp only [State.bothOpened]
  repeat' first
    | with_reducible rfl
    | with_reducible refine (hU.stopBy (by first | decide | (simp only [wrOk, faultOk, tallyOk, bumpOk, commitOk, List.all_cons, List.all_nil, Bool.and_true] <;> decide) | (split <;> decide) | (split <;> simp only [wrOk, faultOk, tallyOk, bumpOk, commitOk, List.all_cons, List.all_nil, Bool.and_true] <;> decide)) _ _).trans ?_
    | with_reducible refine (hU.wrO (by first | decide | (simp only [wrOk, faultOk, tallyOk, bumpOk, commitOk, List.all_cons, List.all_nil, Bool.and_true] <;> decide) | (split <;> decide) | (split <;> simp only [wrOk, faultOk, tallyOk, bumpOk, commitOk, List.all_cons, List.all_nil, Bool.and_true] <;> decide)) _ _).trans ?_
    | fail_if_no_progress with_reducible refine (hU.trp (by decide) _ _).trans ?_
    | with_reducible refine Unseen.ite ?_ ?_
    | split

theorem stopInOpenOp_only {β : Type} {π : State → β} (hU : Unseen 0xa1d08e0092740ee2 π) (b : Bool) (s : State) :
    π (stopInOpenOp b s) = π s := by
  dsimp only [stopInOpenOp]
  repeat' first
    | with_reducible rfl
    | with_reducible refine (State.raiseFleet_only hU (by decide) _ _ _ (by first | decide | (simp only [wrOk, faultOk, tallyOk, bumpOk, commitOk, List.all_cons, List.all_nil, Bool.and_true, stopIn] <;> decide) | (split <;> decide) | (split <;> simp only [wrOk, faultOk, tallyOk, bumpOk, commitOk, List.all_cons, List.all_nil, Bool.and_true, stopIn] <;> decide) | (simp only [stopIn]; split <;> decide))).trans ?_
    | with_reducible refine (State.bothOpened_only (hU.mono (by decide)) _).trans ?_
    | with_reducible refine (hU.wrO (by first | decide | (simp only [wrOk, faultOk, tallyOk, bumpOk, commitOk, List.all_cons, List.all_nil, Bool.and_true, stopIn] <;> decide) | (split <;> decide) | (split <;> simp only [wrOk, faultOk, tallyOk, bumpOk, commitOk, List.all_cons, List.all_nil, Bool.and_true, stopIn] <;> decide) | (simp only [stopIn]; split <;> decide)) _ _).trans ?_
    | fail_if_no_progress with_reducible refine (hU.trp (by decide) _ _).trans ?_
    | with_reducible refine Unseen.ite ?_ ?_
    | split

theorem stopInCloseOp_only {β : Type} {π : State → β} (hU : Unseen 0x10000000000800 π) (b : Bool) (s : State) :
    π (stopInCloseOp b s) = π s := by
  dsimp only [stopInCloseOp]
  repeat' first
    | with_reducible rfl
    | with_reducible refine (hU.wrO (by first | decide | (simp only [wrOk, faultOk, tallyOk, bumpOk, commitOk, List.all_cons, List.all_nil, Bool.and_true, stopIn] <;> decide) | (split <;> decide) | (split <;> simp only [wrOk, faultOk, tallyOk, bumpOk, commitOk, List.all_cons, List.all_nil, Bool.and_true, stopIn] <;> decide) | (simp only [stopIn]; split <;> decide)) _ _).trans ?_
    | fail_if_no_progress with_reducible refine (hU.trp (by decide) _ _).trans ?_
    | with_reducible refine Unseen.ite ?_ ?_
    | split

theorem discrepancyOp_only {β : Type} {π : State → β} (hU : Unseen 0xa1d08e0092740ee2 π) (s : State) :
    π (discrepancyOp s) = π s := by
  dsimp only [discrepancyOp]
  repeat' first
    | with_reducible rfl
    | with_reducible refine (State.raiseFleet_only hU (by decide) _ _ _ (by first | decide | (simp only [wrOk, faultOk, tallyOk, bumpOk, commitOk, List.all_cons, List.all_nil, Bool.and_true] <;> decide) | (split <;> decide) | (split <;> simp only [wrOk, faultOk, tallyOk, bumpOk, commitOk, List.all_cons, List.all_nil, Bool.and_true] <;> decide))).trans ?_
    | with_reducible refine (hU.fault (by first | decide | (simp only [wrOk, faultOk, tallyOk, bumpOk, commitOk, List.all_cons, List.all_nil, Bool.and_true] <;> decide) | (split <;> decide) | (split <;> simp only [wrOk, faultOk, tallyOk, bumpOk, commitOk, List.all_cons, List.all_nil, Bool.and_true] <;> decide)) _).trans ?_
    | with_reducible refine (hU.wrO (by first | decide | (simp only [wrOk, faultOk, tallyOk, bumpOk, commitOk, List.all_cons, List.all_nil, Bool.and_true] <;> decide) | (split <;> decide) | (split <;> simp only [wrOk, faultOk, tallyOk, bumpOk, commitOk, List.all_cons, List.all_nil, Bool.and_true] <;> decide)) _ _).trans ?_
    | fail_if_no_progress with_reducible refine (hU.trp (by decide) _ _).trans ?_
    | with_reducible refine Unseen.ite ?_ ?_
    | split

theorem lockstepFlagOp_only {β : Type} {π : State → β} (hU : Unseen 0xa1d0cf0092760fe2 π) (s : State) :
    π (lockstepFlagOp s) = π s := by
  dsimp only [lockstepFlagOp]
  repeat' first
    | with_reducible rfl
    | with_reducible refine (State.stopLive_only (hU.mono (by decide)) _).trans ?_
    | with_reducible refine (State.deviceFault_only (hU.mono (by decide)) _).trans ?_
    | with_reducible refine (State.raiseFleet_only hU (by decide) _ _ _ (by first | decide | (simp only [wrOk, faultOk, tallyOk, bumpOk, commitOk, List.all_cons, List.all_nil, Bool.and_true] <;> decide) | (split <;> decide) | (split <;> simp only [wrOk, faultOk, tallyOk, bumpOk, commitOk, List.all_cons, List.all_nil, Bool.and_true] <;> decide))).trans ?_
    | with_reducible refine (hU.fault (by first | decide | (simp only [wrOk, faultOk, tallyOk, bumpOk, commitOk, List.all_cons, List.all_nil, Bool.and_true] <;> decide) | (split <;> decide) | (split <;> simp only [wrOk, faultOk, tallyOk, bumpOk, commitOk, List.all_cons, List.all_nil, Bool.and_true] <;> decide)) _).trans ?_
    | fail_if_no_progress with_reducible refine (hU.twn (by decide) _ _).trans ?_

theorem outReadbackMismatchOp_only {β : Type} {π : State → β} (hU : Unseen 0xa1d08e0092740ee2 π) (s : State) :
    π (outReadbackMismatchOp s) = π s := by
  dsimp only [outReadbackMismatchOp]
  repeat' first
    | with_reducible rfl
    | with_reducible refine (State.raiseFleet_only hU (by decide) _ _ _ (by first | decide | (simp only [wrOk, faultOk, tallyOk, bumpOk, commitOk, List.all_cons, List.all_nil, Bool.and_true] <;> decide) | (split <;> decide) | (split <;> simp only [wrOk, faultOk, tallyOk, bumpOk, commitOk, List.all_cons, List.all_nil, Bool.and_true] <;> decide))).trans ?_
    | with_reducible refine (hU.fault (by first | decide | (simp only [wrOk, faultOk, tallyOk, bumpOk, commitOk, List.all_cons, List.all_nil, Bool.and_true] <;> decide) | (split <;> decide) | (split <;> simp only [wrOk, faultOk, tallyOk, bumpOk, commitOk, List.all_cons, List.all_nil, Bool.and_true] <;> decide)) _).trans ?_
    | with_reducible refine (hU.wrO (by first | decide | (simp only [wrOk, faultOk, tallyOk, bumpOk, commitOk, List.all_cons, List.all_nil, Bool.and_true] <;> decide) | (split <;> decide) | (split <;> simp only [wrOk, faultOk, tallyOk, bumpOk, commitOk, List.all_cons, List.all_nil, Bool.and_true] <;> decide)) _ _).trans ?_
    | dsimp only

theorem outFaultConditionEndOp_only {β : Type} {π : State → β} (hU : Unseen 0x10000000000000 π) (s : State) :
    π (outFaultConditionEndOp s) = π s := by
  dsimp only [outFaultConditionEndOp]
  repeat' first
    | with_reducible rfl
    | with_reducible refine (hU.wrO (by first | decide | (simp only [wrOk, faultOk, tallyOk, bumpOk, commitOk, List.all_cons, List.all_nil, Bool.and_true] <;> decide) | (split <;> decide) | (split <;> simp only [wrOk, faultOk, tallyOk, bumpOk, commitOk, List.all_cons, List.all_nil, Bool.and_true] <;> decide)) _ _).trans ?_

theorem rc4mFaultOp_only {β : Type} {π : State → β} (hU : Unseen 0xa1d08e0092740ee2 π) (s : State) :
    π (rc4mFaultOp s) = π s := by
  dsimp only [rc4mFaultOp]
  repeat' first
    | with_reducible rfl
    | with_reducible refine (State.raiseFleet_only hU (by decide) _ _ _ (by first | decide | (simp only [wrOk, faultOk, tallyOk, bumpOk, commitOk, List.all_cons, List.all_nil, Bool.and_true] <;> decide) | (split <;> decide) | (split <;> simp only [wrOk, faultOk, tallyOk, bumpOk, commitOk, List.all_cons, List.all_nil, Bool.and_true] <;> decide))).trans ?_
    | with_reducible refine (hU.fault (by first | decide | (simp only [wrOk, faultOk, tallyOk, bumpOk, commitOk, List.all_cons, List.all_nil, Bool.and_true] <;> decide) | (split <;> decide) | (split <;> simp only [wrOk, faultOk, tallyOk, bumpOk, commitOk, List.all_cons, List.all_nil, Bool.and_true] <;> decide)) _).trans ?_
    | with_reducible refine (hU.wrO (by first | decide | (simp only [wrOk, faultOk, tallyOk, bumpOk, commitOk, List.all_cons, List.all_nil, Bool.and_true] <;> decide) | (split <;> decide) | (split <;> simp only [wrOk, faultOk, tallyOk, bumpOk, commitOk, List.all_cons, List.all_nil, Bool.and_true] <;> decide)) _ _).trans ?_

theorem rc4mRecoverOp_only {β : Type} {π : State → β} (hU : Unseen 0x10000000000000 π) (s : State) :
    π (rc4mRecoverOp s) = π s := by
  dsimp only [rc4mRecoverOp]
  repeat' first
    | with_reducible rfl
    | with_reducible refine (hU.wrO (by first | decide | (simp only [wrOk, faultOk, tallyOk, bumpOk, commitOk, List.all_cons, List.all_nil, Bool.and_true] <;> decide) | (split <;> decide) | (split <;> simp only [wrOk, faultOk, tallyOk, bumpOk, commitOk, List.all_cons, List.all_nil, Bool.and_true] <;> decide)) _ _).trans ?_

theorem restrictionRequestOp_only {β : Type} {π : State → β} (hU : Unseen 0xa1d08e0092740ee2 π) (q : RestrictReq) (s : State) :
    π (restrictionRequestOp q s) = π s := by
  dsimp only [restrictionRequestOp]
  repeat' first
    | with_reducible rfl
    | with_reducible refine (State.raiseOwn_only hU (by decide) _ _ _ _ (by first | decide | (simp only [wrOk, faultOk, tallyOk, bumpOk, commitOk, List.all_cons, List.all_nil, Bool.and_true, Reg.TRP_ROBOT_COAST_blk, Reg.TRP_ROBOT_ENVELOPE_blk, Reg.TRP_ROBOT_INTEGRITY_blk, Reg.TRP_ROBOT_LOOP_LOST_blk, Reg.TRP_ROBOT_MAP_LOST_blk] <;> decide) | (split <;> decide) | (split <;> simp only [wrOk, faultOk, tallyOk, bumpOk, commitOk, List.all_cons, List.all_nil, Bool.and_true, Reg.TRP_ROBOT_COAST_blk, Reg.TRP_ROBOT_ENVELOPE_blk, Reg.TRP_ROBOT_INTEGRITY_blk, Reg.TRP_ROBOT_LOOP_LOST_blk, Reg.TRP_ROBOT_MAP_LOST_blk] <;> decide))).trans ?_
    | with_reducible refine (State.raiseFleet_only hU (by decide) _ _ _ (by first | decide | (simp only [wrOk, faultOk, tallyOk, bumpOk, commitOk, List.all_cons, List.all_nil, Bool.and_true, Reg.TRP_ROBOT_COAST_blk, Reg.TRP_ROBOT_ENVELOPE_blk, Reg.TRP_ROBOT_INTEGRITY_blk, Reg.TRP_ROBOT_LOOP_LOST_blk, Reg.TRP_ROBOT_MAP_LOST_blk] <;> decide) | (split <;> decide) | (split <;> simp only [wrOk, faultOk, tallyOk, bumpOk, commitOk, List.all_cons, List.all_nil, Bool.and_true, Reg.TRP_ROBOT_COAST_blk, Reg.TRP_ROBOT_ENVELOPE_blk, Reg.TRP_ROBOT_INTEGRITY_blk, Reg.TRP_ROBOT_LOOP_LOST_blk, Reg.TRP_ROBOT_MAP_LOST_blk] <;> decide))).trans ?_
    | dsimp only
    | split

theorem trapFrameRepeatOp_only {β : Type} {π : State → β} (hU : Unseen 0x1c0080000400c20 π) (s : State) :
    π (trapFrameRepeatOp s) = π s := by
  dsimp only [trapFrameRepeatOp]
  repeat' first
    | with_reducible rfl
    | with_reducible refine (State.emitTrap_only (hU.mono (by decide)) _ _).trans ?_
    | fail_if_no_progress with_reducible refine (hU.trp (by decide) _ _).trans ?_
    | with_reducible refine Unseen.ite ?_ ?_
    | dsimp only
    | split

theorem beaconTickOp_only {β : Type} {π : State → β} (hU : Unseen 0xa1d00a0010401c20 π) (s0 : State) :
    π (beaconTickOp s0) = π s0 := by
  dsimp only [beaconTickOp]
  repeat' first
    | with_reducible rfl
    | with_reducible refine (State.sendLan_only (hU.mono (by decide)) _ _ _).trans ?_
    | with_reducible refine (State.sendRadio_only (hU.mono (by decide)) _ _ _).trans ?_
    | with_reducible refine (State.broadcast_only (hU.mono (by decide)) _ _ _).trans ?_
    | with_reducible refine (State.advance_only (hU.mono (by decide)) _ _).trans ?_
    | with_reducible refine (State.linkSend_only (hU.mono (by decide)) _ _ _).trans ?_
    | with_reducible refine (hU.wrO (by first | decide | (simp only [wrOk, faultOk, tallyOk, bumpOk, commitOk, List.all_cons, List.all_nil, Bool.and_true] <;> decide) | (split <;> decide) | (split <;> simp only [wrOk, faultOk, tallyOk, bumpOk, commitOk, List.all_cons, List.all_nil, Bool.and_true] <;> decide)) _ _).trans ?_
    | fail_if_no_progress with_reducible refine (hU.trp (by decide) _ _).trans ?_
    | with_reducible refine Unseen.ite ?_ ?_
    | dsimp only
    | split

theorem resetArmRiseOp_only {β : Type} {π : State → β} (hU : Unseen 0x8010080000000c20 π) (lowLong : Bool) (s : State) :
    π (resetArmRiseOp lowLong s) = π s := by
  dsimp only [resetArmRiseOp]
  repeat' first
    | with_reducible rfl
    | with_reducible refine (State.refuseArm_only (hU.mono (by decide)) _).trans ?_
    | with_reducible refine (hU.wrO (by first | decide | (simp only [wrOk, faultOk, tallyOk, bumpOk, commitOk, List.all_cons, List.all_nil, Bool.and_true] <;> decide) | (split <;> decide) | (split <;> simp only [wrOk, faultOk, tallyOk, bumpOk, commitOk, List.all_cons, List.all_nil, Bool.and_true] <;> decide)) _ _).trans ?_
    | fail_if_no_progress with_reducible refine (hU.trp (by decide) _ _).trans ?_
    | with_reducible refine Unseen.ite ?_ ?_
    | split

theorem State.clearStop_only {β : Type} {π : State → β} (hU : Unseen 0x10000000000800 π) (s : State) :
    π (State.clearStop s) = π s := by
  dsimp only [State.clearStop]
  repeat' first
    | with_reducible rfl
    | with_reducible refine (hU.wrAll (by first | decide | (simp only [wrOk, faultOk, tallyOk, bumpOk, commitOk, List.all_cons, List.all_nil, Bool.and_true, stopCauses] <;> decide) | (split <;> decide) | (split <;> simp only [wrOk, faultOk, tallyOk, bumpOk, commitOk, List.all_cons, List.all_nil, Bool.and_true, stopCauses] <;> decide) | (simp only [stopCauses]; split <;> decide)) _ _).trans ?_
    | fail_if_no_progress with_reducible refine (hU.trp (by decide) _ _).trans ?_

theorem resetArmFallOp_only {β : Type} {π : State → β} (hU : Unseen 0x80100c0010000e20 π) (heldLong : Bool) (s : State) :
    π (resetArmFallOp heldLong s) = π s := by
  dsimp only [resetArmFallOp]
  repeat' first
    | with_reducible rfl
    | with_reducible refine (State.refuseArm_only (hU.mono (by decide)) _).trans ?_
    | with_reducible refine (State.setFleet_only (hU.mono (by decide)) _ _).trans ?_
    | with_reducible refine (State.clearStop_only (hU.mono (by decide)) _).trans ?_
    | with_reducible refine (hU.wrO (by first | decide | (simp only [wrOk, faultOk, tallyOk, bumpOk, commitOk, List.all_cons, List.all_nil, Bool.and_true] <;> decide) | (split <;> decide) | (split <;> simp only [wrOk, faultOk, tallyOk, bumpOk, commitOk, List.all_cons, List.all_nil, Bool.and_true] <;> decide)) _ _).trans ?_
    | with_reducible refine (hU.stopBy (by first | decide | (simp only [wrOk, faultOk, tallyOk, bumpOk, commitOk, List.all_cons, List.all_nil, Bool.and_true] <;> decide) | (split <;> decide) | (split <;> simp only [wrOk, faultOk, tallyOk, bumpOk, commitOk, List.all_cons, List.all_nil, Bool.and_true] <;> decide)) _ _).trans ?_
    | fail_if_no_progress with_reducible refine (hU.trp (by decide) _ _).trans ?_
    | with_reducible refine Unseen.ite ?_ ?_
    | dsimp only
    | split

theorem resetArmHoldTimeoutOp_only {β : Type} {π : State → β} (hU : Unseen 0x8010080000000c20 π) (s : State) :
    π (resetArmHoldTimeoutOp s) = π s := by
  dsimp only [resetArmHoldTimeoutOp]
  repeat' first
    | with_reducible rfl
    | with_reducible refine (State.refuseArm_only (hU.mono (by decide)) _).trans ?_
    | fail_if_no_progress with_reducible refine (hU.trp (by decide) _ _).trans ?_
    | dsimp only
    | split

theorem armWindowExpireOp_only {β : Type} {π : State → β} (hU : Unseen 0x10000000000000 π) (s : State) :
    π (armWindowExpireOp s) = π s := by
  dsimp only [armWindowExpireOp]
  repeat' first
    | with_reducible rfl
    | with_reducible refine (hU.wrO (by first | decide | (simp only [wrOk, faultOk, tallyOk, bumpOk, commitOk, List.all_cons, List.all_nil, Bool.and_true] <;> decide) | (split <;> decide) | (split <;> simp only [wrOk, faultOk, tallyOk, bumpOk, commitOk, List.all_cons, List.all_nil, Bool.and_true] <;> decide)) _ _).trans ?_

theorem proofTimerOp_only {β : Type} {π : State → β} (hU : Unseen 0x10000000000020 π) (s : State) :
    π (proofTimerOp s) = π s := by
  dsimp only [proofTimerOp]
  repeat' first
    | with_reducible rfl
    | with_reducible refine (hU.fault (by first | decide | (simp only [wrOk, faultOk, tallyOk, bumpOk, commitOk, List.all_cons, List.all_nil, Bool.and_true] <;> decide) | (split <;> decide) | (split <;> simp only [wrOk, faultOk, tallyOk, bumpOk, commitOk, List.all_cons, List.all_nil, Bool.and_true] <;> decide)) _).trans ?_
    | with_reducible refine (hU.wrO (by first | decide | (simp only [wrOk, faultOk, tallyOk, bumpOk, commitOk, List.all_cons, List.all_nil, Bool.and_true] <;> decide) | (split <;> decide) | (split <;> simp only [wrOk, faultOk, tallyOk, bumpOk, commitOk, List.all_cons, List.all_nil, Bool.and_true] <;> decide)) _ _).trans ?_
    | with_reducible refine Unseen.ite ?_ ?_
    | split

theorem State.applyGo_only {β : Type} {π : State → β} (hU : Unseen 0xa0108c0092300ee0 π) (s : State) :
    π (State.applyGo s) = π s := by
  dsimp only [State.applyGo]
  repeat' first
    | with_reducible rfl
    | with_reducible refine (State.enterMode_only (hU.mono (by decide)) _ _).trans ?_
    | with_reducible refine (State.setFleet_only (hU.mono (by decide)) _ _).trans ?_
    | with_reducible refine (hU.wrAll (by first | decide | (simp only [wrOk, faultOk, tallyOk, bumpOk, commitOk, List.all_cons, List.all_nil, Bool.and_true, holdCauses] <;> decide) | (split <;> decide) | (split <;> simp only [wrOk, faultOk, tallyOk, bumpOk, commitOk, List.all_cons, List.all_nil, Bool.and_true, holdCauses] <;> decide) | (simp only [holdCauses]; split <;> decide)) _ _).trans ?_
    | with_reducible refine Unseen.ite ?_ ?_
    | split

theorem State.applyClear_only {β : Type} {π : State → β} (hU : Unseen 0xa0108c0092300ee0 π) (s : State) :
    π (State.applyClear s) = π s := by
  dsimp only [State.applyClear]
  repeat' first
    | with_reducible rfl
    | with_reducible refine (State.enterMode_only (hU.mono (by decide)) _ _).trans ?_
    | with_reducible refine (State.clearStop_only (hU.mono (by decide)) _).trans ?_
    | with_reducible refine (State.setFleet_only (hU.mono (by decide)) _ _).trans ?_
    | with_reducible refine (hU.wrO (by first | decide | (simp only [wrOk, faultOk, tallyOk, bumpOk, commitOk, List.all_cons, List.all_nil, Bool.and_true] <;> decide) | (split <;> decide) | (split <;> simp only [wrOk, faultOk, tallyOk, bumpOk, commitOk, List.all_cons, List.all_nil, Bool.and_true] <;> decide)) _ _).trans ?_
    | with_reducible refine Unseen.ite ?_ ?_
    | split

theorem State.ownGo_only {β : Type} {π : State → β} (hU : Unseen 0x10000010000400 π) (s : State) (r : Nat) :
    π (State.ownGo s r) = π s := by
  dsimp only [State.ownGo]
  repeat' first
    | with_reducible rfl
    | with_reducible refine (State.sendState_only (hU.mono (by decide)) _).trans ?_
    | with_reducible refine (hU.wrAll (by first | decide | (simp only [wrOk, faultOk, tallyOk, bumpOk, commitOk, List.all_cons, List.all_nil, Bool.and_true, Reg.TRP_ROBOT_COAST_blk, Reg.TRP_ROBOT_ENVELOPE_blk, Reg.TRP_ROBOT_HOST_blk, Reg.TRP_ROBOT_INTEGRITY_blk, Reg.TRP_ROBOT_LOOP_LOST_blk, Reg.TRP_ROBOT_MAP_LOST_blk, Reg.TRP_ROBOT_OWN_blk] <;> decide) | (split <;> decide) | (split <;> simp only [wrOk, faultOk, tallyOk, bumpOk, commitOk, List.all_cons, List.all_nil, Bool.and_true, Reg.TRP_ROBOT_COAST_blk, Reg.TRP_ROBOT_ENVELOPE_blk, Reg.TRP_ROBOT_HOST_blk, Reg.TRP_ROBOT_INTEGRITY_blk, Reg.TRP_ROBOT_LOOP_LOST_blk, Reg.TRP_ROBOT_MAP_LOST_blk, Reg.TRP_ROBOT_OWN_blk] <;> decide)) _ _).trans ?_

theorem State.trapCmd_only {β : Type} {π : State → β} (hU : Unseen 0x10080000000620 π) (s : State) (c : Cmd) (op : Nat) (data : List Byte) (body : State → State) (hbody : ∀ (y0 : State), π (body y0) = π y0) :
    π (State.trapCmd s c op data body) = π s := by
  dsimp only [State.trapCmd]
  repeat' first
    | with_reducible rfl
    | with_reducible refine (hbody _).trans ?_
    | with_reducible refine (State.hostCmd_only (hU.mono (by decide)) _ _ _ _ ?_).trans ?_
    | with_reducible refine (State.finish_only (hU.mono (by decide)) _ _ _ _ _).trans ?_
    | with_reducible refine (hU.wrO (by first | decide | (simp only [wrOk, faultOk, tallyOk, bumpOk, commitOk, List.all_cons, List.all_nil, Bool.and_true] <;> decide) | (split <;> decide) | (split <;> simp only [wrOk, faultOk, tallyOk, bumpOk, commitOk, List.all_cons, List.all_nil, Bool.and_true] <;> decide)) _ _).trans ?_
    | with_reducible refine (hU.bump (by first | decide | (simp only [wrOk, faultOk, tallyOk, bumpOk, commitOk, List.all_cons, List.all_nil, Bool.and_true] <;> decide) | (split <;> decide) | (split <;> simp only [wrOk, faultOk, tallyOk, bumpOk, commitOk, List.all_cons, List.all_nil, Bool.and_true] <;> decide)) _).trans ?_
    | with_reducible refine (hU.fault (by first | decide | (simp only [wrOk, faultOk, tallyOk, bumpOk, commitOk, List.all_cons, List.all_nil, Bool.and_true] <;> decide) | (split <;> decide) | (split <;> simp only [wrOk, faultOk, tallyOk, bumpOk, commitOk, List.all_cons, List.all_nil, Bool.and_true] <;> decide)) _).trans ?_
    | with_reducible refine Unseen.ite ?_ ?_
    | intro _
    | split

theorem holdOp_only {β : Type} {π : State → β} (hU : Unseen 0xa1d08e0092740ee2 π) (c : Cmd) (data : List Byte) (s : State) :
    π (holdOp c data s) = π s := by
  dsimp only [holdOp]
  repeat' first
    | with_reducible rfl
    | with_reducible refine (State.finish_only (hU.mono (by decide)) _ _ _ _ _).trans ?_
    | with_reducible refine (State.trapCmd_only (hU.mono (by decide)) _ _ _ _ _ ?_).trans ?_
    | with_reducible refine (State.raiseFleet_only hU (by decide) _ _ _ (by first | decide | (simp only [wrOk, faultOk, tallyOk, bumpOk, commitOk, List.all_cons, List.all_nil, Bool.and_true] <;> decide) | (split <;> decide) | (split <;> simp only [wrOk, faultOk, tallyOk, bumpOk, commitOk, List.all_cons, List.all_nil, Bool.and_true] <;> decide))).trans ?_
    | intro _

theorem stopOp_only {β : Type} {π : State → β} (hU : Unseen 0xa1d08e0092740ee2 π) (c : Cmd) (data : List Byte) (s : State) :
    π (stopOp c data s) = π s := by
  dsimp only [stopOp]
  repeat' first
    | with_reducible rfl
    | with_reducible refine (State.finish_only (hU.mono (by decide)) _ _ _ _ _).trans ?_
    | with_reducible refine (State.trapCmd_only (hU.mono (by decide)) _ _ _ _ _ ?_).trans ?_
    | with_reducible refine (State.raiseFleet_only hU (by decide) _ _ _ (by first | decide | (simp only [wrOk, faultOk, tallyOk, bumpOk, commitOk, List.all_cons, List.all_nil, Bool.and_true] <;> decide) | (split <;> decide) | (split <;> simp only [wrOk, faultOk, tallyOk, bumpOk, commitOk, List.all_cons, List.all_nil, Bool.and_true] <;> decide))).trans ?_
    | intro _

theorem goOp_only {β : Type} {π : State → β} (hU : Unseen 0x10080000040620 π) (c : Cmd) (data : List Byte) (s : State) :
    π (goOp c data s) = π s := by
  dsimp only [goOp]
  repeat' first
    | with_reducible rfl
    | with_reducible refine (State.finish_only (hU.mono (by decide)) _ _ _ _ _).trans ?_
    | with_reducible refine (State.epochInput_only (hU.mono (by decide)) _ _ _ _).trans ?_
    | with_reducible refine (State.trapCmd_only (hU.mono (by decide)) _ _ _ _ _ ?_).trans ?_
    | with_reducible refine Unseen.ite ?_ ?_
    | intro _
    | split

theorem clearOp_only {β : Type} {π : State → β} (hU : Unseen 0xa0108c0092340ee0 π) (c : Cmd) (data : List Byte) (s : State) :
    π (clearOp c data s) = π s := by
  dsimp only [clearOp]
  repeat' first
    | with_reducible rfl
    | with_reducible refine (State.finish_only (hU.mono (by decide)) _ _ _ _ _).trans ?_
    | with_reducible refine (State.epochInput_only (hU.mono (by decide)) _ _ _ _).trans ?_
    | with_reducible refine (State.trapCmd_only (hU.mono (by decide)) _ _ _ _ _ ?_).trans ?_
    | with_reducible refine (State.applyClear_only (hU.mono (by decide)) _).trans ?_
    | with_reducible refine Unseen.ite ?_ ?_
    | intro _
    | split

theorem robotHoldOp_only {β : Type} {π : State → β} (hU : Unseen 0x1d0080010440e22 π) (c : Cmd) (data : List Byte) (s : State) :
    π (robotHoldOp c data s) = π s := by
  dsimp only [robotHoldOp]
  repeat' first
    | with_reducible rfl
    | with_reducible refine (State.finish_only (hU.mono (by decide)) _ _ _ _ _).trans ?_
    | with_reducible refine (State.raiseOwn_only hU (by decide) _ _ _ _ (by first | decide | (simp only [wrOk, faultOk, tallyOk, bumpOk, commitOk, List.all_cons, List.all_nil, Bool.and_true, Reg.TRP_ROBOT_HOST_blk] <;> decide) | (split <;> decide) | (split <;> simp only [wrOk, faultOk, tallyOk, bumpOk, commitOk, List.all_cons, List.all_nil, Bool.and_true, Reg.TRP_ROBOT_HOST_blk] <;> decide))).trans ?_
    | with_reducible refine (State.trapCmd_only (hU.mono (by decide)) _ _ _ _ _ ?_).trans ?_
    | intro _

theorem robotStopOp_only {β : Type} {π : State → β} (hU : Unseen 0x1d0080010440e22 π) (c : Cmd) (data : List Byte) (s : State) :
    π (robotStopOp c data s) = π s := by
  dsimp only [robotStopOp]
  repeat' first
    | with_reducible rfl
    | with_reducible refine (State.finish_only (hU.mono (by decide)) _ _ _ _ _).trans ?_
    | with_reducible refine (State.raiseOwn_only hU (by decide) _ _ _ _ (by first | decide | (simp only [wrOk, faultOk, tallyOk, bumpOk, commitOk, List.all_cons, List.all_nil, Bool.and_true, Reg.TRP_ROBOT_HOST_blk] <;> decide) | (split <;> decide) | (split <;> simp only [wrOk, faultOk, tallyOk, bumpOk, commitOk, List.all_cons, List.all_nil, Bool.and_true, Reg.TRP_ROBOT_HOST_blk] <;> decide))).trans ?_
    | with_reducible refine (State.trapCmd_only (hU.mono (by decide)) _ _ _ _ _ ?_).trans ?_
    | intro _

theorem robotGoOp_only {β : Type} {π : State → β} (hU : Unseen 0x10080010040620 π) (c : Cmd) (data : List Byte) (s : State) :
    π (robotGoOp c data s) = π s := by
  dsimp only [robotGoOp]
  repeat' first
    | with_reducible rfl
    | with_reducible refine (State.finish_only (hU.mono (by decide)) _ _ _ _ _).trans ?_
    | with_reducible refine (State.epochInput_only (hU.mono (by decide)) _ _ _ _).trans ?_
    | with_reducible refine (State.ownGo_only (hU.mono (by decide)) _ _).trans ?_
    | with_reducible refine (State.trapCmd_only (hU.mono (by decide)) _ _ _ _ _ ?_).trans ?_
    | with_reducible refine Unseen.ite ?_ ?_
    | intro _
    | split

theorem trapCommitOp_only {β : Type} {π : State → β} (hU : Unseen 0x10000008000008 π) (s : State) :
    π (trapCommitOp s) = π s := by
  dsimp only [trapCommitOp]
  repeat' first
    | with_reducible rfl
    | with_reducible refine (hU.commit (by first | decide | (simp only [wrOk, faultOk, tallyOk, bumpOk, commitOk, List.all_cons, List.all_nil, Bool.and_true] <;> decide) | (split <;> decide) | (split <;> simp only [wrOk, faultOk, tallyOk, bumpOk, commitOk, List.all_cons, List.all_nil, Bool.and_true] <;> decide)) _ _).trans ?_


/-! ## Epoch -/

theorem State.out_only {β : Type} {π : State → β} (hU : Unseen 0x40000 π) (s : State) (typ : Nat) (lid : Nat) (body : List Nat) :
    π (State.out s typ lid body) = π s := by
  dsimp only [State.out]
  repeat' first
    | with_reducible rfl
    | fail_if_no_progress with_reducible refine (hU.epo (by decide) _ _).trans ?_

theorem State.countRefusal_only {β : Type} {π : State → β} (hU : Unseen 0x6080000000420 π) (s : State) (b : OpBody) :
    π (State.countRefusal s b) = π s := by
  dsimp only [State.countRefusal]
  repeat' first
    | with_reducible rfl
    | with_reducible refine (hU.bump (by first | decide | (simp only [wrOk, faultOk, tallyOk, bumpOk, commitOk, List.all_cons, List.all_nil, Bool.and_true] <;> decide) | (split <;> decide) | (split <;> simp only [wrOk, faultOk, tallyOk, bumpOk, commitOk, List.all_cons, List.all_nil, Bool.and_true] <;> decide)) _).trans ?_
    | dsimp only
    | split

theorem State.takeOp_only {β : Type} {π : State → β} (hU : Unseen 0x6080000540420 π) (s : State) (r : RosterEnt) (op : RobotOp) :
    π (State.takeOp s r op) = π s := by
  dsimp only [State.takeOp]
  repeat' first
    | with_reducible rfl
    | with_reducible refine (State.runEvent_only (hU.mono (by decide)) _ _ _ _ _ _ _).trans ?_
    | with_reducible refine (State.countRefusal_only (hU.mono (by decide)) _ _).trans ?_
    | with_reducible refine (State.answer_only (hU.mono (by decide)) _ _ _ _ _).trans ?_
    | fail_if_no_progress with_reducible refine (hU.epo (by decide) _ _).trans ?_
    | with_reducible refine Unseen.ite ?_ ?_
    | intro _
    | dsimp only
    | split

theorem State.decideOp_only {β : Type} {π : State → β} (hU : Unseen 0x6080000540420 π) (s : State) (op : RobotOp) :
    π (State.decideOp s op) = π s := by
  dsimp only [State.decideOp]
  repeat' first
    | with_reducible rfl
    | with_reducible refine (State.out_only (hU.mono (by decide)) _ _ _ _).trans ?_
    | with_reducible refine (State.countRefusal_only (hU.mono (by decide)) _ _).trans ?_
    | with_reducible refine (State.takeOp_only (hU.mono (by decide)) _ _ _).trans ?_
    | fail_if_no_progress with_reducible refine (hU.epo (by decide) _ _).trans ?_
    | with_reducible refine Unseen.ite ?_ ?_
    | dsimp only
    | split

theorem State.setResult_only {β : Type} {π : State → β} (hU : Unseen 0x40000 π) (s : State) (i : Nat) (v : HostResult) :
    π (State.setResult s i v) = π s := by
  dsimp only [State.setResult]
  repeat' first
    | with_reducible rfl
    | fail_if_no_progress with_reducible refine (hU.epo (by decide) _ _).trans ?_
    | with_reducible refine Unseen.ite ?_ ?_
    | intro _
    | dsimp only
    | split

theorem State.decideHost_only {β : Type} {π : State → β} (hU : Unseen 0x80000140420 π) (s : State) (i : Nat) (e : EpochInput) :
    π (State.decideHost s i e) = π s := by
  dsimp only [State.decideHost]
  repeat' first
    | with_reducible rfl
    | with_reducible refine (State.runEvent_only (hU.mono (by decide)) _ _ _ _ _ _ _).trans ?_
    | with_reducible refine (State.setResult_only (hU.mono (by decide)) _ _ _).trans ?_
    | fail_if_no_progress with_reducible refine (hU.epo (by decide) _ _).trans ?_
    | dsimp only
    | split

theorem State.decideList_only {β : Type} {π : State → β} (hU : Unseen 0x6080000540420 π) (s : State) (x0 : Nat) :
    π (State.decideList s x0) = π s := by
  induction x0 generalizing s with
  | zero =>
    dsimp only [State.decideList]
    repeat' first
      | with_reducible rfl
      | with_reducible refine (ih ..).trans ?_
      | with_reducible refine (State.decideOp_only (hU.mono (by decide)) _ _).trans ?_
      | with_reducible refine (State.decideHost_only (hU.mono (by decide)) _ _ _).trans ?_
      | fail_if_no_progress with_reducible refine (hU.epo (by decide) _ _).trans ?_
      | with_reducible refine Unseen.ite ?_ ?_
      | intro _
      | dsimp only
      | split
  | succ k ih =>
    dsimp only [State.decideList]
    repeat' first
      | with_reducible rfl
      | with_reducible refine (ih ..).trans ?_
      | with_reducible refine (State.decideOp_only (hU.mono (by decide)) _ _).trans ?_
      | with_reducible refine (State.decideHost_only (hU.mono (by decide)) _ _ _).trans ?_
      | fail_if_no_progress with_reducible refine (hU.epo (by decide) _ _).trans ?_
      | with_reducible refine Unseen.ite ?_ ?_
      | intro _
      | dsimp only
      | split

theorem State.decideForces_only {β : Type} {π : State → β} (hU : Unseen 0x140000 π) (s : State) (x0 : List (EpochInput × Nat)) :
    π (State.decideForces s x0) = π s := by
  induction x0 generalizing s with
  | nil =>
    dsimp only [State.decideForces]
    repeat' first
      | with_reducible rfl
      | with_reducible refine (ih ..).trans ?_
      | with_reducible refine (State.setResult_only (hU.mono (by decide)) _ _ _).trans ?_
      | with_reducible refine (State.forceTask_only (hU.mono (by decide)) _ _ _ _).trans ?_
      | dsimp only
      | split
  | cons a k ih =>
    dsimp only [State.decideForces]
    repeat' first
      | with_reducible rfl
      | with_reducible refine (ih ..).trans ?_
      | with_reducible refine (State.setResult_only (hU.mono (by decide)) _ _ _).trans ?_
      | with_reducible refine (State.forceTask_only (hU.mono (by decide)) _ _ _ _).trans ?_
      | dsimp only
      | split

theorem State.prepare_only {β : Type} {π : State → β} (hU : Unseen 0x80000740420 π) (s : State) :
    π (State.prepare s) = π s := by
  dsimp only [State.prepare]
  repeat' first
    | with_reducible rfl
    | with_reducible refine (State.runEvent_only (hU.mono (by decide)) _ _ _ _ _ _ _).trans ?_
    | with_reducible refine (State.robotGone_only (hU.mono (by decide)) _ _ _ _).trans ?_
    | with_reducible refine (State.deviceEvents_only (hU.mono (by decide)) _ _ _ _ ?_).trans ?_
    | fail_if_no_progress with_reducible refine (hU.epo_trk (by decide) (by decide) _ _ _).trans ?_
    | fail_if_no_progress with_reducible refine (hU.gov_zyp (by decide) (by decide) _ _ _).trans ?_
    | fail_if_no_progress with_reducible refine (hU.epo_zyp (by decide) (by decide) _ _ _).trans ?_
    | fail_if_no_progress with_reducible refine (hU.trk_zyp (by decide) (by decide) _ _ _).trans ?_
    | fail_if_no_progress with_reducible refine (hU.epo_gov (by decide) (by decide) _ _ _).trans ?_
    | fail_if_no_progress with_reducible refine (hU.trk_gov (by decide) (by decide) _ _ _).trans ?_
    | fail_if_no_progress with_reducible refine (hU.epo_gov_zyp (by decide) (by decide) (by decide) _ _ _ _).trans ?_
    | fail_if_no_progress with_reducible refine (hU.epo_trk_zyp (by decide) (by decide) (by decide) _ _ _ _).trans ?_
    | fail_if_no_progress with_reducible refine (hU.trk_gov_zyp (by decide) (by decide) (by decide) _ _ _ _).trans ?_
    | fail_if_no_progress with_reducible refine (hU.epo_trk_gov (by decide) (by decide) (by decide) _ _ _ _).trans ?_
    | fail_if_no_progress with_reducible refine (hU.epo_trk_gov_zyp (by decide) (by decide) (by decide) (by decide) _ _ _ _ _).trans ?_
    | with_reducible refine Unseen.ite ?_ ?_
    | intro _
    | dsimp only
    | split

theorem epochDecideOp_only {β : Type} {π : State → β} (hU : Unseen 0x6080000740420 π) (l : List LoopSpec) (s : State) :
    π (epochDecideOp l s) = π s := by
  dsimp only [epochDecideOp]
  repeat' first
    | with_reducible rfl
    | with_reducible refine (State.decideList_only (hU.mono (by decide)) _ _).trans ?_
    | with_reducible refine (State.decideForces_only (hU.mono (by decide)) _ _).trans ?_
    | with_reducible refine (State.timeouts_only (hU.mono (by decide)) _ _).trans ?_
    | with_reducible refine (State.prepare_only (hU.mono (by decide)) _).trans ?_
    | fail_if_no_progress with_reducible refine (hU.epo (by decide) _ _).trans ?_
    | with_reducible refine Unseen.ite ?_ ?_
    | split

theorem State.poolNow_only {β : Type} {π : State → β} (hU : Unseen 0x80000140420 π) (s : State) (n : Nat) :
    π (State.poolNow s n) = π s := by
  dsimp only [State.poolNow]
  repeat' first
    | with_reducible rfl
    | with_reducible refine (State.settleTask_only (hU.mono (by decide)) _ _).trans ?_
    | with_reducible refine (State.forceMove_only (hU.mono (by decide)) _ _ _).trans ?_
    | with_reducible refine Unseen.ite ?_ ?_
    | with_reducible refine (Unseen.foldl _ ?_ _ _).trans ?_
    | intro _
    | dsimp only
    | split

theorem State.changeHolder_only {β : Type} {π : State → β} (hU : Unseen 0x170800147c0420 π) (s : State) (n : Nat) :
    π (State.changeHolder s n) = π s := by
  dsimp only [State.changeHolder]
  repeat' first
    | with_reducible rfl
    | with_reducible refine (State.poolNow_only (hU.mono (by decide)) _ _).trans ?_
    | with_reducible refine (State.releaseAll_only (hU.mono (by decide)) _ _).trans ?_
    | with_reducible refine (State.setLoop_only (hU.mono (by decide)) _ _ _).trans ?_
    | with_reducible refine (State.creForget_only (hU.mono (by decide)) _ _).trans ?_
    | with_reducible refine (State.ownGo_only (hU.mono (by decide)) _ _).trans ?_
    | with_reducible refine (State.trkCounters_only (hU.mono (by decide)) _).trans ?_
    | with_reducible refine (State.showTasks_only (hU.mono (by decide)) _).trans ?_
    | fail_if_no_progress with_reducible refine (hU.epo (by decide) _ _).trans ?_
    | fail_if_no_progress with_reducible refine (hU.epo_zyp (by decide) (by decide) _ _ _).trans ?_
    | with_reducible refine Unseen.ite ?_ ?_
    | intro _
    | dsimp only
    | split

theorem State.rosterApply_only {β : Type} {π : State → β} (hU : Unseen 0x1708001c7c0420 π) (s : State) (es : List RosterLine) :
    π (State.rosterApply s es) = π s := by
  dsimp only [State.rosterApply]
  repeat' first
    | with_reducible rfl
    | with_reducible refine (State.changeHolder_only (hU.mono (by decide)) _ _).trans ?_
    | with_reducible refine (State.storeWith_only (hU.mono (by decide)) _ _).trans ?_
    | fail_if_no_progress with_reducible refine (hU.zyp (by decide) _ _).trans ?_
    | with_reducible refine (Unseen.foldl _ ?_ _ _).trans ?_
    | intro _

theorem relax_only {β : Type} {π : State → β} (hU : Unseen 0xa0108c00923c0ee0 π) {s : State} {e : EpochInput} {r : Nat × State}
    (h : s.relax e = some r) : π r.2 = π s := by
  simp only [State.relax] at h
  split at h
  · injection h with h; subst h
    repeat' first
      | with_reducible rfl
      | with_reducible refine (State.applyGo_only (hU.mono (by decide)) _).trans ?_
      | with_reducible refine Unseen.ite ?_ ?_
      | dsimp only
      | split
  · injection h with h; subst h
    repeat' first
      | with_reducible rfl
      | with_reducible refine (State.applyClear_only (hU.mono (by decide)) _).trans ?_
      | with_reducible refine Unseen.ite ?_ ?_
      | dsimp only
      | split
  · injection h with h; subst h
    repeat' first
      | with_reducible rfl
      | with_reducible refine (State.ownGo_only (hU.mono (by decide)) _ _).trans ?_
      | fail_if_no_progress with_reducible refine (hU.ldr (by decide) _ _).trans ?_
      | with_reducible refine Unseen.ite ?_ ?_
      | dsimp only
      | split
  · cases h

theorem State.relaxAll_only {β : Type} {π : State → β} (hU : Unseen 0xa0108c00923c0ee0 π) (s : State) (x0 : List (EpochInput × Nat)) :
    π (State.relaxAll s x0) = π s := by
  induction x0 generalizing s with
  | nil =>
    dsimp only [State.relaxAll]
    repeat' first
      | with_reducible rfl
      | with_reducible refine (ih ..).trans ?_
      | with_reducible refine (relax_only (hU.mono (by decide)) (by assumption)).trans ?_
      | with_reducible refine (State.setResult_only (hU.mono (by decide)) _ _ _).trans ?_
      | dsimp only
      | split
  | cons a k ih =>
    dsimp only [State.relaxAll]
    repeat' first
      | with_reducible rfl
      | with_reducible refine (ih ..).trans ?_
      | with_reducible refine (relax_only (hU.mono (by decide)) (by assumption)).trans ?_
      | with_reducible refine (State.setResult_only (hU.mono (by decide)) _ _ _).trans ?_
      | dsimp only
      | split

theorem State.commitInput_only {β : Type} {π : State → β} (hU : Unseen 0x1f0a001cfc0438 π) (s : State) (e : EpochInput) (i : Nat) :
    π (State.commitInput s e i) = π s := by
  dsimp only [State.commitInput]
  repeat' first
    | with_reducible rfl
    | with_reducible refine (State.rekeyAccept_only (hU.mono (by decide)) _ _ _ _).trans ?_
    | with_reducible refine (State.paceApply_only (hU.mono (by decide)) _).trans ?_
    | with_reducible refine (State.rosterApply_only (hU.mono (by decide)) _ _).trans ?_
    | with_reducible refine (State.fleetRefuse_only (hU.mono (by decide)) _ _ _).trans ?_
    | with_reducible refine (State.fleetApply_only (hU.mono (by decide)) _).trans ?_
    | with_reducible refine (State.setResult_only (hU.mono (by decide)) _ _ _).trans ?_
    | with_reducible refine (State.unblockNow_only (hU.mono (by decide)) _ _ _).trans ?_
    | with_reducible refine Unseen.ite ?_ ?_
    | intro _
    | dsimp only
    | split

theorem State.commitInputs_only {β : Type} {π : State → β} (hU : Unseen 0x1f0a001cfc0438 π) (s : State) (x0 : List (EpochInput × Nat)) :
    π (State.commitInputs s x0) = π s := by
  induction x0 generalizing s with
  | nil =>
    dsimp only [State.commitInputs]
    repeat' first
      | with_reducible rfl
      | with_reducible refine (ih ..).trans ?_
      | with_reducible refine (State.commitInput_only (hU.mono (by decide)) _ _ _).trans ?_
      | dsimp only
  | cons a k ih =>
    dsimp only [State.commitInputs]
    repeat' first
      | with_reducible rfl
      | with_reducible refine (ih ..).trans ?_
      | with_reducible refine (State.commitInput_only (hU.mono (by decide)) _ _ _).trans ?_
      | dsimp only

theorem State.finishInputs_only {β : Type} {π : State → β} (hU : Unseen 0x200 π) (s : State) (x0 : List EpochInput) :
    π (State.finishInputs s x0) = π s := by
  induction x0 generalizing s with
  | nil =>
    dsimp only [State.finishInputs]
    repeat' first
      | with_reducible rfl
      | with_reducible refine (ih ..).trans ?_
      | with_reducible refine (State.finish_only (hU.mono (by decide)) _ _ _ _ _).trans ?_
      | dsimp only
      | split
  | cons a k ih =>
    dsimp only [State.finishInputs]
    repeat' first
      | with_reducible rfl
      | with_reducible refine (ih ..).trans ?_
      | with_reducible refine (State.finish_only (hU.mono (by decide)) _ _ _ _ _).trans ?_
      | dsimp only
      | split

theorem State.replaceCompact_only {β : Type} {π : State → β} (hU : Unseen 0x1c0080000000420 π) (s : State) :
    π (State.replaceCompact s) = π s := by
  dsimp only [State.replaceCompact]
  repeat' first
    | with_reducible rfl
    | with_reducible refine (State.setChute_only (hU.mono (by decide)) _ _ _).trans ?_
    | with_reducible refine (hU.bump (by first | decide | (simp only [wrOk, faultOk, tallyOk, bumpOk, commitOk, List.all_cons, List.all_nil, Bool.and_true, Reg.PORT_CNT_OVF_CNT_SAT_blk, Reg.PORT_CNT_OVF_CNT_SAT_off, port_bit (m := 0x1c0080000000420) (by decide)] <;> decide) | (split <;> decide) | (split <;> simp only [wrOk, faultOk, tallyOk, bumpOk, commitOk, List.all_cons, List.all_nil, Bool.and_true, Reg.PORT_CNT_OVF_CNT_SAT_blk, Reg.PORT_CNT_OVF_CNT_SAT_off, port_bit (m := 0x1c0080000000420) (by decide)] <;> decide)) _).trans ?_
    | with_reducible refine (Unseen.foldl _ ?_ _ _).trans ?_
    | intro _

theorem State.sendOuts_only {β : Type} {π : State → β} (hU : Unseen 0x1c0080000440420 π) (s : State) :
    π (State.sendOuts s) = π s := by
  dsimp only [State.sendOuts]
  repeat' first
    | with_reducible rfl
    | with_reducible refine (State.sendPair_only (hU.mono (by decide)) _ _ _ _).trans ?_
    | with_reducible refine (State.broadcast_only (hU.mono (by decide)) _ _ _).trans ?_
    | with_reducible refine (State.replaceCompact_only (hU.mono (by decide)) _).trans ?_
    | with_reducible refine (State.sendRadio_only (hU.mono (by decide)) _ _ _).trans ?_
    | fail_if_no_progress with_reducible refine (hU.epo (by decide) _ _).trans ?_
    | with_reducible refine Unseen.ite ?_ ?_
    | with_reducible refine (Unseen.foldl _ ?_ _ _).trans ?_
    | intro _
    | dsimp only
    | split

theorem State.closeDigest_only {β : Type} {π : State → β} (hU : Unseen 0x80000040420 π) (s : State) :
    π (State.closeDigest s) = π s := by
  dsimp only [State.closeDigest]
  repeat' first
    | with_reducible rfl
    | with_reducible refine (State.consume_only (hU.mono (by decide)) _ _ _).trans ?_
    | with_reducible refine (State.send_only (hU.mono (by decide)) _ _ _ _).trans ?_
    | fail_if_no_progress with_reducible refine (hU.epo (by decide) _ _).trans ?_
    | with_reducible refine (Unseen.foldl _ ?_ _ _).trans ?_
    | intro _
    | dsimp only

theorem State.closeEpoch_only {β : Type} {π : State → β} (hU : Unseen 0x10040000 π) (s : State) :
    π (State.closeEpoch s) = π s := by
  dsimp only [State.closeEpoch]
  repeat' first
    | with_reducible rfl
    | fail_if_no_progress with_reducible refine (hU.epo_twn (by decide) (by decide) _ _ _).trans ?_

theorem State.sendSnapshot_only {β : Type} {π : State → β} (hU : Unseen 0x10000400 π) (s : State) :
    π (State.sendSnapshot s) = π s := by
  dsimp only [State.sendSnapshot]
  repeat' first
    | with_reducible rfl
    | with_reducible refine (State.linkAll_only (hU.mono (by decide)) _ _ _ _).trans ?_
    | with_reducible refine (State.linkSend_only (hU.mono (by decide)) _ _ _).trans ?_
    | with_reducible refine (Unseen.foldl _ ?_ _ _).trans ?_
    | intro _
    | dsimp only

theorem State.journalEpoch_only {β : Type} {π : State → β} (hU : Unseen 0x10000400 π) (s : State) (committed : Bool) :
    π (State.journalEpoch s committed) = π s := by
  dsimp only [State.journalEpoch]
  repeat' first
    | with_reducible rfl
    | with_reducible refine (State.linkAll_only (hU.mono (by decide)) _ _ _ _).trans ?_
    | fail_if_no_progress with_reducible refine (hU.twn (by decide) _ _).trans ?_
    | dsimp only
    | split

theorem State.twinCommitted_only {β : Type} {π : State → β} (hU : Unseen 0x400080010000420 π) (s : State) :
    π (State.twinCommitted s) = π s := by
  dsimp only [State.twinCommitted]
  repeat' first
    | with_reducible rfl
    | with_reducible refine (State.journalEpoch_only (hU.mono (by decide)) _ _).trans ?_
    | with_reducible refine (State.sendSnapshot_only (hU.mono (by decide)) _).trans ?_
    | with_reducible refine (State.linkSend_only (hU.mono (by decide)) _ _ _).trans ?_
    | with_reducible refine (hU.bumpBy (by first | decide | (simp only [wrOk, faultOk, tallyOk, bumpOk, commitOk, List.all_cons, List.all_nil, Bool.and_true] <;> decide) | (split <;> decide) | (split <;> simp only [wrOk, faultOk, tallyOk, bumpOk, commitOk, List.all_cons, List.all_nil, Bool.and_true] <;> decide)) _ _).trans ?_
    | with_reducible refine (hU.wrO (by first | decide | (simp only [wrOk, faultOk, tallyOk, bumpOk, commitOk, List.all_cons, List.all_nil, Bool.and_true] <;> decide) | (split <;> decide) | (split <;> simp only [wrOk, faultOk, tallyOk, bumpOk, commitOk, List.all_cons, List.all_nil, Bool.and_true] <;> decide)) _ _).trans ?_
    | fail_if_no_progress with_reducible refine (hU.twn (by decide) _ _).trans ?_
    | with_reducible refine Unseen.ite ?_ ?_
    | intro _
    | split

theorem State.commitEpoch_only {β : Type} {π : State → β} (hU : Unseen 0xa5df8e009efc0ef8 π) (s : State) :
    π (State.commitEpoch s) = π s := by
  dsimp only [State.commitEpoch]
  repeat' first
    | with_reducible rfl
    | with_reducible refine (State.relaxAll_only (hU.mono (by decide)) _ _).trans ?_
    | with_reducible refine (State.closeEpoch_only (hU.mono (by decide)) _).trans ?_
    | with_reducible refine (State.sendOuts_only (hU.mono (by decide)) _).trans ?_
    | with_reducible refine (State.finishInputs_only (hU.mono (by decide)) _ _).trans ?_
    | with_reducible refine (State.trkCommit_only (hU.mono (by decide)) _).trans ?_
    | with_reducible refine (State.govCommit_only (hU.mono (by decide)) _).trans ?_
    | with_reducible refine (State.commitInputs_only (hU.mono (by decide)) _ _).trans ?_
    | with_reducible refine (State.twinCommitted_only (hU.mono (by decide)) _).trans ?_
    | with_reducible refine (State.ldrCommit_only (hU.mono (by decide)) _).trans ?_
    | fail_if_no_progress with_reducible refine (hU.epo_zyp (by decide) (by decide) _ _ _).trans ?_
    | intro _

theorem State.abandonEpoch_only {β : Type} {π : State → β} (hU : Unseen 0x20000107c0400 π) (s : State) :
    π (State.abandonEpoch s) = π s := by
  dsimp only [State.abandonEpoch]
  repeat' first
    | with_reducible rfl
    | with_reducible refine (State.govAbandon_only (hU.mono (by decide)) _).trans ?_
    | with_reducible refine (State.closeEpoch_only (hU.mono (by decide)) _).trans ?_
    | with_reducible refine (State.journalEpoch_only (hU.mono (by decide)) _ _).trans ?_
    | with_reducible refine (State.ldrAbandon_only (hU.mono (by decide)) _).trans ?_
    | with_reducible refine (State.trkAbandon_only (hU.mono (by decide)) _).trans ?_
    | fail_if_no_progress with_reducible refine (hU.epo (by decide) _ _).trans ?_
    | fail_if_no_progress with_reducible refine (hU.zyp (by decide) _ _).trans ?_
    | fail_if_no_progress with_reducible refine (hU.epo_zyp (by decide) (by decide) _ _ _).trans ?_
    | with_reducible refine Unseen.ite ?_ ?_
    | intro _
    | split

theorem State.overrun_only {β : Type} {π : State → β} (hU : Unseen 0xa1d28f00927c0ee2 π) (s : State) :
    π (State.overrun s) = π s := by
  dsimp only [State.overrun]
  repeat' first
    | with_reducible rfl
    | with_reducible refine (State.tallyOffer_only (hU.mono (by decide)) _ _ _).trans ?_
    | with_reducible refine (State.raiseFleet_only hU (by decide) _ _ _ (by first | decide | (simp only [wrOk, faultOk, tallyOk, bumpOk, commitOk, List.all_cons, List.all_nil, Bool.and_true] <;> decide) | (split <;> decide) | (split <;> simp only [wrOk, faultOk, tallyOk, bumpOk, commitOk, List.all_cons, List.all_nil, Bool.and_true] <;> decide))).trans ?_
    | with_reducible refine (State.abandonEpoch_only (hU.mono (by decide)) _).trans ?_
    | with_reducible refine (hU.bump (by first | decide | (simp only [wrOk, faultOk, tallyOk, bumpOk, commitOk, List.all_cons, List.all_nil, Bool.and_true] <;> decide) | (split <;> decide) | (split <;> simp only [wrOk, faultOk, tallyOk, bumpOk, commitOk, List.all_cons, List.all_nil, Bool.and_true] <;> decide)) _).trans ?_
    | with_reducible refine (hU.fault (by first | decide | (simp only [wrOk, faultOk, tallyOk, bumpOk, commitOk, List.all_cons, List.all_nil, Bool.and_true] <;> decide) | (split <;> decide) | (split <;> simp only [wrOk, faultOk, tallyOk, bumpOk, commitOk, List.all_cons, List.all_nil, Bool.and_true] <;> decide)) _).trans ?_
    | fail_if_no_progress with_reducible refine (hU.epo (by decide) _ _).trans ?_
    | with_reducible refine Unseen.ite ?_ ?_
    | split

theorem State.leaveCommitting_only {β : Type} {π : State → β} (hU : Unseen 0x1f0a001c7c0638 π) (s : State) :
    π (State.leaveCommitting s) = π s := by
  dsimp only [State.leaveCommitting]
  repeat' first
    | with_reducible rfl
    | with_reducible refine (State.paceApply_only (hU.mono (by decide)) _).trans ?_
    | with_reducible refine (State.rosterApply_only (hU.mono (by decide)) _ _).trans ?_
    | with_reducible refine (State.fleetApply_only (hU.mono (by decide)) _).trans ?_
    | with_reducible refine (State.finish_only (hU.mono (by decide)) _ _ _ _ _).trans ?_
    | with_reducible refine (State.unblockNow_only (hU.mono (by decide)) _ _ _).trans ?_
    | with_reducible refine (State.abandonEpoch_only (hU.mono (by decide)) _).trans ?_
    | fail_if_no_progress with_reducible refine (hU.epo (by decide) _ _).trans ?_
    | with_reducible refine Unseen.ite ?_ ?_
    | with_reducible refine (Unseen.foldl _ ?_ _ _).trans ?_
    | intro _
    | dsimp only
    | split

theorem State.restartMark_only {β : Type} {π : State → β} (hU : Unseen 0x80080000c20 π) (s : State) :
    π (State.restartMark s) = π s := by
  dsimp only [State.restartMark]
  repeat' first
    | with_reducible rfl
    | with_reducible refine (hU.tallyRecord (by decide) _ _ _ _ _ _).trans ?_
    | fail_if_no_progress with_reducible refine (hU.trp_tly (by decide) (by decide) _ _ _).trans ?_
    | with_reducible refine Unseen.ite ?_ ?_
    | split

theorem State.becomeStandby_only {β : Type} {π : State → β} (hU : Unseen 0xa4008c00823006e0 π) (s : State) :
    π (State.becomeStandby s) = π s := by
  dsimp only [State.becomeStandby]
  repeat' first
    | with_reducible rfl
    | with_reducible refine (State.enterMode_only (hU.mono (by decide)) _ _).trans ?_
    | with_reducible refine (hU.wrO (by first | decide | (simp only [wrOk, faultOk, tallyOk, bumpOk, commitOk, List.all_cons, List.all_nil, Bool.and_true] <;> decide) | (split <;> decide) | (split <;> simp only [wrOk, faultOk, tallyOk, bumpOk, commitOk, List.all_cons, List.all_nil, Bool.and_true] <;> decide)) _ _).trans ?_
    | with_reducible refine Unseen.ite ?_ ?_
    | split

theorem epochBoundaryOp_only {β : Type} {π : State → β} (hU : Unseen 0xa5d28f009a7c1efa π) (s : State) :
    π (epochBoundaryOp s) = π s := by
  dsimp only [epochBoundaryOp]
  repeat' first
    | with_reducible rfl
    | with_reducible refine (State.rulesApply_only (hU.mono (by decide)) _).trans ?_
    | with_reducible refine (State.becomeStandby_only (hU.mono (by decide)) _).trans ?_
    | with_reducible refine (State.restartMark_only (hU.mono (by decide)) _).trans ?_
    | with_reducible refine (State.raiseFleet_only hU (by decide) _ _ _ (by first | decide | (simp only [wrOk, faultOk, tallyOk, bumpOk, commitOk, List.all_cons, List.all_nil, Bool.and_true] <;> decide) | (split <;> decide) | (split <;> simp only [wrOk, faultOk, tallyOk, bumpOk, commitOk, List.all_cons, List.all_nil, Bool.and_true] <;> decide))).trans ?_
    | with_reducible refine (State.advance_only (hU.mono (by decide)) _ _).trans ?_
    | with_reducible refine (State.overrun_only (hU.mono (by decide)) _).trans ?_
    | with_reducible refine (hU.wrapBy (by first | decide | (simp only [wrOk, faultOk, tallyOk, bumpOk, commitOk, List.all_cons, List.all_nil, Bool.and_true] <;> decide) | (split <;> decide) | (split <;> simp only [wrOk, faultOk, tallyOk, bumpOk, commitOk, List.all_cons, List.all_nil, Bool.and_true] <;> decide)) _ _).trans ?_
    | fail_if_no_progress with_reducible refine (hU.hre_ldr (by decide) (by decide) _ _ _).trans ?_
    | fail_if_no_progress with_reducible refine (hU.hre_twn (by decide) (by decide) _ _ _).trans ?_
    | fail_if_no_progress with_reducible refine (hU.epo_ldr (by decide) (by decide) _ _ _).trans ?_
    | fail_if_no_progress with_reducible refine (hU.hre_epo (by decide) (by decide) _ _ _).trans ?_
    | fail_if_no_progress with_reducible refine (hU.epo_twn (by decide) (by decide) _ _ _).trans ?_
    | fail_if_no_progress with_reducible refine (hU.ldr_twn (by decide) (by decide) _ _ _).trans ?_
    | fail_if_no_progress with_reducible refine (hU.epo_ldr_twn (by decide) (by decide) (by decide) _ _ _ _).trans ?_
    | fail_if_no_progress with_reducible refine (hU.hre_ldr_twn (by decide) (by decide) (by decide) _ _ _ _).trans ?_
    | fail_if_no_progress with_reducible refine (hU.hre_epo_ldr (by decide) (by decide) (by decide) _ _ _ _).trans ?_
    | fail_if_no_progress with_reducible refine (hU.hre_epo_twn (by decide) (by decide) (by decide) _ _ _ _).trans ?_
    | fail_if_no_progress with_reducible refine (hU.hre_epo_ldr_twn (by decide) (by decide) (by decide) (by decide) _ _ _ _ _).trans ?_
    | with_reducible refine Unseen.ite ?_ ?_
    | intro _
    | split

theorem State.latch_only {β : Type} {π : State → β} (hU : Unseen 0x40000 π) (s : State) (m : Mode) :
    π (State.latch s m) = π s := by
  dsimp only [State.latch]
  repeat' first
    | with_reducible rfl
    | fail_if_no_progress with_reducible refine (hU.epo (by decide) _ _).trans ?_
    | intro _

theorem State.streamOut_only {β : Type} {π : State → β} (hU : Unseen 0x10000400 π) (s : State) (b : List Nat) :
    π (State.streamOut s b) = π s := by
  dsimp only [State.streamOut]
  repeat' first
    | with_reducible rfl
    | with_reducible refine (State.linkAll_only (hU.mono (by decide)) _ _ _ _).trans ?_
    | fail_if_no_progress with_reducible refine (hU.twn (by decide) _ _).trans ?_

theorem State.inputFrame_only {β : Type} {π : State → β} (hU : Unseen 0x10000400 π) (s : State) :
    π (State.inputFrame s) = π s := by
  dsimp only [State.inputFrame]
  repeat' first
    | with_reducible rfl
    | with_reducible refine (State.streamOut_only (hU.mono (by decide)) _ _).trans ?_
    | intro _
    | dsimp only
    | split

theorem epochReleaseOp_only {β : Type} {π : State → β} (hU : Unseen 0xa1d28f00927c0ee2 π) (s : State) :
    π (epochReleaseOp s) = π s := by
  dsimp only [epochReleaseOp]
  repeat' first
    | with_reducible rfl
    | with_reducible refine (State.inputFrame_only (hU.mono (by decide)) _).trans ?_
    | with_reducible refine (State.overrun_only (hU.mono (by decide)) _).trans ?_
    | with_reducible refine (State.latch_only (hU.mono (by decide)) _ _).trans ?_
    | fail_if_no_progress with_reducible refine (hU.epo (by decide) _ _).trans ?_
    | with_reducible refine Unseen.ite ?_ ?_
    | intro _
    | split

theorem positionSnapshotOp_only {β : Type} {π : State → β} (hU : Unseen 0x10040400 π) (s : State) :
    π (positionSnapshotOp s) = π s := by
  dsimp only [positionSnapshotOp]
  repeat' first
    | with_reducible rfl
    | with_reducible refine (State.takeAny_only (hU.mono (by decide)) _ _).trans ?_
    | with_reducible refine (State.streamOut_only (hU.mono (by decide)) _ _).trans ?_
    | fail_if_no_progress with_reducible refine (hU.epo (by decide) _ _).trans ?_
    | with_reducible refine Unseen.ite ?_ ?_
    | with_reducible refine (Unseen.foldl _ ?_ _ _).trans ?_
    | intro _
    | dsimp only
    | split

theorem State.sendAck_only {β : Type} {π : State → β} (hU : Unseen 0x10000400 π) (s : State) :
    π (State.sendAck s) = π s := by
  dsimp only [State.sendAck]
  repeat' first
    | with_reducible rfl
    | with_reducible refine (State.linkSend_only (hU.mono (by decide)) _ _ _).trans ?_
    | fail_if_no_progress with_reducible refine (hU.twn (by decide) _ _).trans ?_
    | with_reducible refine Unseen.ite ?_ ?_
    | dsimp only
    | split

theorem State.sendPrepare_only {β : Type} {π : State → β} (hU : Unseen 0x10000400 π) (s : State) :
    π (State.sendPrepare s) = π s := by
  dsimp only [State.sendPrepare]
  repeat' first
    | with_reducible rfl
    | with_reducible refine (State.linkSend_only (hU.mono (by decide)) _ _ _).trans ?_
    | intro _
    | dsimp only
    | split

theorem State.closeAudited_only {β : Type} {π : State → β} (hU : Unseen 0xa1d68e00927c0ee2 π) (s : State) :
    π (State.closeAudited s) = π s := by
  dsimp only [State.closeAudited]
  repeat' first
    | with_reducible rfl
    | with_reducible refine (State.ldrAudit_only (hU.mono (by decide)) _).trans ?_
    | with_reducible refine (State.taskAudit_only (hU.mono (by decide)) _).trans ?_
    | with_reducible refine (State.closeDigest_only (hU.mono (by decide)) _).trans ?_
    | with_reducible refine Unseen.ite ?_ ?_
    | split

theorem State.assure_only {β : Type} {π : State → β} (hU : Unseen 0x40000 π) (s : State) :
    π (State.assure s) = π s := by
  dsimp only [State.assure]
  repeat' first
    | with_reducible rfl
    | fail_if_no_progress with_reducible refine (hU.epo (by decide) _ _).trans ?_

theorem epochDigestCloseOp_only {β : Type} {π : State → β} (hU : Unseen 0xa1d68f00927c0ee2 π) (s : State) :
    π (epochDigestCloseOp s) = π s := by
  dsimp only [epochDigestCloseOp]
  repeat' first
    | with_reducible rfl
    | with_reducible refine (State.closeAudited_only (hU.mono (by decide)) _).trans ?_
    | with_reducible refine (State.assure_only (hU.mono (by decide)) _).trans ?_
    | with_reducible refine (State.sendAck_only (hU.mono (by decide)) _).trans ?_
    | with_reducible refine (State.raiseFleet_only hU (by decide) _ _ _ (by first | decide | (simp only [wrOk, faultOk, tallyOk, bumpOk, commitOk, List.all_cons, List.all_nil, Bool.and_true] <;> decide) | (split <;> decide) | (split <;> simp only [wrOk, faultOk, tallyOk, bumpOk, commitOk, List.all_cons, List.all_nil, Bool.and_true] <;> decide))).trans ?_
    | with_reducible refine (State.overrun_only (hU.mono (by decide)) _).trans ?_
    | with_reducible refine (State.abandonEpoch_only (hU.mono (by decide)) _).trans ?_
    | with_reducible refine (State.sendPrepare_only (hU.mono (by decide)) _).trans ?_
    | with_reducible refine Unseen.ite ?_ ?_
    | dsimp only
    | split

theorem State.withCompTimes_only {β : Type} {π : State → β} (hU : Unseen 0x40000 π) (s : State) :
    π (State.withCompTimes s) = π s := by
  dsimp only [State.withCompTimes]
  repeat' first
    | with_reducible rfl
    | fail_if_no_progress with_reducible refine (hU.epo (by decide) _ _).trans ?_
    | with_reducible refine Unseen.ite ?_ ?_
    | intro _
    | dsimp only
    | split

theorem epochCommitOp_only {β : Type} {π : State → β} (hU : Unseen 0xa5df8e009efc0ef8 π) (s : State) :
    π (epochCommitOp s) = π s := by
  dsimp only [epochCommitOp]
  repeat' first
    | with_reducible rfl
    | with_reducible refine (State.commitEpoch_only (hU.mono (by decide)) _).trans ?_
    | with_reducible refine (State.withCompTimes_only (hU.mono (by decide)) _).trans ?_
    | with_reducible refine Unseen.ite ?_ ?_
    | split

theorem epochLengthApplyOp_only {β : Type} {π : State → β} (hU : Unseen 0x2000030008001018 π) (s : State) :
    π (epochLengthApplyOp s) = π s := by
  dsimp only [epochLengthApplyOp]
  repeat' first
    | with_reducible rfl
    | with_reducible refine (State.wholeSecond_only (hU.mono (by decide)) _).trans ?_
    | with_reducible refine (hU.endPending (by first | decide | (simp only [wrOk, faultOk, tallyOk, bumpOk, commitOk, List.all_cons, List.all_nil, Bool.and_true] <;> decide) | (split <;> decide) | (split <;> simp only [wrOk, faultOk, tallyOk, bumpOk, commitOk, List.all_cons, List.all_nil, Bool.and_true] <;> decide)) _ _).trans ?_
    | with_reducible refine Unseen.ite ?_ ?_
    | split

theorem epochCounterRecordOp_only {β : Type} {π : State → β} (hU : Unseen 0x8000000 π) (s : State) :
    π (epochCounterRecordOp s) = π s := by
  dsimp only [epochCounterRecordOp]
  repeat' first
    | with_reducible rfl
    | fail_if_no_progress with_reducible refine (hU.nvm (by decide) _ _).trans ?_
    | with_reducible refine Unseen.ite ?_ ?_
    | split


/-! ## Chutes -/

theorem chuteStartOp_only {β : Type} {π : State → β} (hU : Unseen 0x80000000420 π) (n : Nat) (prio : Nat) (s : State) :
    π (chuteStartOp n prio s) = π s := by
  dsimp only [chuteStartOp]
  repeat' first
    | with_reducible rfl
    | with_reducible refine (State.setChute_only (hU.mono (by decide)) _ _ _).trans ?_
    | with_reducible refine (hU.chuteBump (by first | decide | (simp only [wrOk, faultOk, tallyOk, bumpOk, commitOk, List.all_cons, List.all_nil, Bool.and_true, Reg.CHU_NOCREDIT_blk, Reg.CHU_NOCREDIT_off] <;> decide) | (split <;> decide) | (split <;> simp only [wrOk, faultOk, tallyOk, bumpOk, commitOk, List.all_cons, List.all_nil, Bool.and_true, Reg.CHU_NOCREDIT_blk, Reg.CHU_NOCREDIT_off] <;> decide)) _ _).trans ?_
    | with_reducible refine Unseen.ite ?_ ?_
    | split

theorem chuteWriteOp_only {β : Type} {π : State → β} (hU : Unseen 0x80000000420 π) (n : Nat) (w : DWord) (s : State) :
    π (chuteWriteOp n w s) = π s := by
  dsimp only [chuteWriteOp]
  repeat' first
    | with_reducible rfl
    | with_reducible refine (State.setChute_only (hU.mono (by decide)) _ _ _).trans ?_
    | with_reducible refine (hU.chuteBump (by first | decide | (simp only [wrOk, faultOk, tallyOk, bumpOk, commitOk, List.all_cons, List.all_nil, Bool.and_true, Reg.CHU_OVERSIZE_blk, Reg.CHU_OVERSIZE_off] <;> decide) | (split <;> decide) | (split <;> simp only [wrOk, faultOk, tallyOk, bumpOk, commitOk, List.all_cons, List.all_nil, Bool.and_true, Reg.CHU_OVERSIZE_blk, Reg.CHU_OVERSIZE_off] <;> decide)) _ _).trans ?_
    | with_reducible refine Unseen.ite ?_ ?_
    | dsimp only
    | split

theorem chuteCommitOp_only {β : Type} {π : State → β} (hU : Unseen 0x80000000420 π) (n : Nat) (s : State) :
    π (chuteCommitOp n s) = π s := by
  dsimp only [chuteCommitOp]
  repeat' first
    | with_reducible rfl
    | with_reducible refine (State.setChute_only (hU.mono (by decide)) _ _ _).trans ?_
    | with_reducible refine (hU.chuteBump (by first | decide | (simp only [wrOk, faultOk, tallyOk, bumpOk, commitOk, List.all_cons, List.all_nil, Bool.and_true, Reg.CHU_BAD_LENGTH_blk, Reg.CHU_BAD_LENGTH_off] <;> decide) | (split <;> decide) | (split <;> simp only [wrOk, faultOk, tallyOk, bumpOk, commitOk, List.all_cons, List.all_nil, Bool.and_true, Reg.CHU_BAD_LENGTH_blk, Reg.CHU_BAD_LENGTH_off] <;> decide)) _ _).trans ?_
    | with_reducible refine Unseen.ite ?_ ?_
    | dsimp only
    | split

theorem chuteAbortOp_only {β : Type} {π : State → β} (hU : Unseen 0x80000000420 π) (n : Nat) (s : State) :
    π (chuteAbortOp n s) = π s := by
  dsimp only [chuteAbortOp]
  repeat' first
    | with_reducible rfl
    | with_reducible refine (State.setChute_only (hU.mono (by decide)) _ _ _).trans ?_
    | with_reducible refine (hU.chuteBump (by first | decide | (simp only [wrOk, faultOk, tallyOk, bumpOk, commitOk, List.all_cons, List.all_nil, Bool.and_true, Reg.CHU_ABORTED_blk, Reg.CHU_ABORTED_off] <;> decide) | (split <;> decide) | (split <;> simp only [wrOk, faultOk, tallyOk, bumpOk, commitOk, List.all_cons, List.all_nil, Bool.and_true, Reg.CHU_ABORTED_blk, Reg.CHU_ABORTED_off] <;> decide)) _ _).trans ?_
    | with_reducible refine Unseen.ite ?_ ?_
    | dsimp only
    | split

theorem chuteReadOp_only {β : Type} {π : State → β} (hU : Unseen 0x80000000420 π) (n : Nat) (ecc : Ecc) (s : State) :
    π (chuteReadOp n ecc s) = π s := by
  dsimp only [chuteReadOp]
  repeat' first
    | with_reducible rfl
    | with_reducible refine (State.setChute_only (hU.mono (by decide)) _ _ _).trans ?_
    | with_reducible refine (State.cutShort_only (hU.mono (by decide)) _ _ _ _ _).trans ?_
    | with_reducible refine (hU.chuteBump (by first | decide | (simp only [wrOk, faultOk, tallyOk, bumpOk, commitOk, List.all_cons, List.all_nil, Bool.and_true, Reg.CHU_CORRECTED_blk, Reg.CHU_CORRECTED_off] <;> decide) | (split <;> decide) | (split <;> simp only [wrOk, faultOk, tallyOk, bumpOk, commitOk, List.all_cons, List.all_nil, Bool.and_true, Reg.CHU_CORRECTED_blk, Reg.CHU_CORRECTED_off] <;> decide)) _ _).trans ?_
    | with_reducible refine Unseen.ite ?_ ?_
    | dsimp only
    | split

theorem chuteDropRestOp_only {β : Type} {π : State → β} (hU : Unseen 0x80000000420 π) (n : Nat) (s : State) :
    π (chuteDropRestOp n s) = π s := by
  dsimp only [chuteDropRestOp]
  repeat' first
    | with_reducible rfl
    | with_reducible refine (State.setChute_only (hU.mono (by decide)) _ _ _).trans ?_
    | with_reducible refine (hU.chuteBump (by first | decide | (simp only [wrOk, faultOk, tallyOk, bumpOk, commitOk, List.all_cons, List.all_nil, Bool.and_true, Reg.CHU_DROP_REST_blk, Reg.CHU_DROP_REST_off] <;> decide) | (split <;> decide) | (split <;> simp only [wrOk, faultOk, tallyOk, bumpOk, commitOk, List.all_cons, List.all_nil, Bool.and_true, Reg.CHU_DROP_REST_blk, Reg.CHU_DROP_REST_off] <;> decide)) _ _).trans ?_
    | dsimp only
    | split

theorem State.chuteDiscard_only {β : Type} {π : State → β} (hU : Unseen 0x80000000420 π) (s : State) (n : Nat) (x0 : Nat) :
    π (State.chuteDiscard s n x0) = π s := by
  induction x0 generalizing s with
  | zero =>
    dsimp only [State.chuteDiscard]
    repeat' first
      | with_reducible rfl
      | with_reducible refine (ih ..).trans ?_
      | with_reducible refine (hU.chuteBump (by first | decide | (simp only [wrOk, faultOk, tallyOk, bumpOk, commitOk, List.all_cons, List.all_nil, Bool.and_true, Reg.CHU_DISCARDED_blk, Reg.CHU_DISCARDED_off] <;> decide) | (split <;> decide) | (split <;> simp only [wrOk, faultOk, tallyOk, bumpOk, commitOk, List.all_cons, List.all_nil, Bool.and_true, Reg.CHU_DISCARDED_blk, Reg.CHU_DISCARDED_off] <;> decide)) _ _).trans ?_
  | succ k ih =>
    dsimp only [State.chuteDiscard]
    repeat' first
      | with_reducible rfl
      | with_reducible refine (ih ..).trans ?_
      | with_reducible refine (hU.chuteBump (by first | decide | (simp only [wrOk, faultOk, tallyOk, bumpOk, commitOk, List.all_cons, List.all_nil, Bool.and_true, Reg.CHU_DISCARDED_blk, Reg.CHU_DISCARDED_off] <;> decide) | (split <;> decide) | (split <;> simp only [wrOk, faultOk, tallyOk, bumpOk, commitOk, List.all_cons, List.all_nil, Bool.and_true, Reg.CHU_DISCARDED_blk, Reg.CHU_DISCARDED_off] <;> decide)) _ _).trans ?_

theorem chuteCfgCommitOp_only {β : Type} {π : State → β} (hU : Unseen 0x80008000428 π) (s : State) :
    π (chuteCfgCommitOp s) = π s := by
  dsimp only [chuteCfgCommitOp]
  repeat' first
    | with_reducible rfl
    | with_reducible refine (State.chuteDiscard_only (hU.mono (by decide)) _ _ _).trans ?_
    | with_reducible refine (State.setChute_only (hU.mono (by decide)) _ _ _).trans ?_
    | with_reducible refine (hU.commit (by first | decide | (simp only [wrOk, faultOk, tallyOk, bumpOk, commitOk, List.all_cons, List.all_nil, Bool.and_true, Reg.CHU_CFG_ALLOT_blk, Reg.CHU_CFG_ENABLE_blk, Reg.CHU_CFG_PKT_MAX_blk, Reg.CHU_COMMIT_RESULT_blk, Reg.CHU_CFG_ALLOT_off, Reg.CHU_CFG_ENABLE_off, Reg.CHU_CFG_PKT_MAX_off, Reg.CHU_COMMIT_RESULT_off] <;> decide) | (split <;> decide) | (split <;> simp only [wrOk, faultOk, tallyOk, bumpOk, commitOk, List.all_cons, List.all_nil, Bool.and_true, Reg.CHU_CFG_ALLOT_blk, Reg.CHU_CFG_ENABLE_blk, Reg.CHU_CFG_PKT_MAX_blk, Reg.CHU_COMMIT_RESULT_blk, Reg.CHU_CFG_ALLOT_off, Reg.CHU_CFG_ENABLE_off, Reg.CHU_CFG_PKT_MAX_off, Reg.CHU_COMMIT_RESULT_off] <;> decide)) _ _).trans ?_
    | with_reducible refine Unseen.ite ?_ ?_
    | split

theorem chuteViewSampleOp_only {β : Type} {π : State → β} (hU : Unseen 0x400 π) (n : Nat) (s : State) :
    π (chuteViewSampleOp n s) = π s := by
  dsimp only [chuteViewSampleOp]
  repeat' first
    | with_reducible rfl
    | with_reducible refine (State.setChute_only (hU.mono (by decide)) _ _ _).trans ?_

end Sys2Proof.Machine
end

