-- ==== Sys2Proof/Laws/OnlyLinks.lean ====
section
/-! SUPPORT. What each operation leaves alone: plain registers, the Hoist, the rings, the Timekeeper, restart, the Vault, ZYP and the twin. The mask names the parts the operation may change (Laws/Unseen). -/

set_option linter.all false

namespace Sys2Proof.Machine

/-! ## Plain -/

theorem State.fieldWrite_only {β : Type} {π : State → β} (hU : Unseen 0x1000000002c π) (s : State) (off : Nat) (v : Nat) (p : Fld × Option Fld) :
    π (State.fieldWrite s off v p) = π s := by
  dsimp only [State.fieldWrite]
  repeat' first
    | with_reducible rfl
    | with_reducible refine (hU.wrAny (by decide) _ _ _).trans ?_
    | with_reducible refine (hU.fault (by first | decide | (simp only [wrOk, faultOk, tallyOk, bumpOk, commitOk, List.all_cons, List.all_nil, Bool.and_true] <;> decide) | (split <;> decide) | (split <;> simp only [wrOk, faultOk, tallyOk, bumpOk, commitOk, List.all_cons, List.all_nil, Bool.and_true] <;> decide)) _).trans ?_
    | with_reducible refine (hU.wrO (by first | decide | (simp only [wrOk, faultOk, tallyOk, bumpOk, commitOk, List.all_cons, List.all_nil, Bool.and_true] <;> decide) | (split <;> decide) | (split <;> simp only [wrOk, faultOk, tallyOk, bumpOk, commitOk, List.all_cons, List.all_nil, Bool.and_true] <;> decide)) _ _).trans ?_
    | with_reducible refine (hU.wrShadow (by decide) _ _ _).trans ?_
    | with_reducible refine Unseen.ite ?_ ?_
    | dsimp only
    | split

theorem State.plainWrite_only {β : Type} {π : State → β} (hU : Unseen 0x3ffbff000000022c π) (s : State) (off : Nat) (v : Nat) :
    π (State.plainWrite s off v) = π s := by
  dsimp only [State.plainWrite]
  repeat' first
    | with_reducible rfl
    | with_reducible refine (State.fieldWrite_only (hU.mono (by decide)) _ _ _ _).trans ?_
    | with_reducible refine (hU.fault (by first | decide | (simp only [wrOk, faultOk, tallyOk, bumpOk, commitOk, List.all_cons, List.all_nil, Bool.and_true, writableOf, Reg.CHU_CFG_ALLOT_blk, Reg.CHU_CFG_ENABLE_blk, Reg.CHU_CFG_PKT_MAX_blk, Reg.CHU_COMMIT_RESULT_blk, Reg.CRE_XCHK_LIM_blk, Reg.DRM_CH_CFG_EN_blk, Reg.DRM_CH_CFG_P_blk, Reg.DRM_CH_CFG_SHIFT_blk, Reg.DSP_CORE_CFG_blk, Reg.DSP_FLOW_CFG_ENABLE_blk, Reg.DSP_FLOW_CFG_POOL_blk, Reg.DSP_FLOW_CFG_THREAD_BASE_blk, Reg.DSP_FLOW_CFG_WIN_MAX_blk, Reg.DSP_FLOW_COMMIT_RESULT_blk, Reg.DSP_THR_CFG_AFFINITY_blk, Reg.DSP_THR_CFG_ENABLE_blk, Reg.DSP_THR_CFG_PRIO_blk, Reg.DSP_THR_COMMIT_RESULT_blk, Reg.GOV_CLASS_A_KI_DOCK_blk, Reg.GOV_CLASS_A_KI_TRACK_blk, Reg.GOV_CLASS_A_KP_DOCK_blk, Reg.GOV_CLASS_A_KP_TRACK_blk, Reg.GOV_CLASS_B_ACC_blk, Reg.GOV_CLASS_B_APPROACH_blk, Reg.GOV_CLASS_B_DEC_blk, Reg.GOV_CLK_KI_blk, Reg.GOV_CLK_KP_blk, Reg.HRE_RING_BASE_ADDR_blk, Reg.HRE_RING_CFG_BIND_blk, Reg.HRE_RING_CFG_ENABLE_blk, Reg.HRE_RING_CFG_SIZE_LOG2_blk, Reg.HRE_RING_CFG_TYPE_blk, Reg.HRE_RING_CFG_VECTOR_blk, Reg.HRE_RING_COMMIT_RESULT_blk, Reg.HRE_RING_CREDIT_ALLOT_blk, Reg.HRE_RING_IRQ_COAL_COUNT_blk, Reg.HRE_RING_IRQ_COAL_TIME_blk, Reg.HRE_VEC_GAP_MIN_GAP_blk, Reg.HST_CH_CFG_ARB_PRIO_blk, Reg.HST_CH_CFG_COMPL_MODE_blk, Reg.HST_CH_CFG_PROG_LEN_blk, Reg.HST_CH_CFG_RETRY_MAX_blk, Reg.HST_CH_COMMIT_RESULT_blk, Reg.RNG_LOOP_CFG_DLL_BW_blk, Reg.RNG_LOOP_CFG_FLL_BW_blk, Reg.RNG_LOOP_CFG_PLL_BW_blk, Reg.RNG_LOOP_CFG_SPACING_blk, Reg.RNG_LOOP_CFG_T_COH_blk, Reg.RNG_LOOP_COMMIT_RESULT_blk, Reg.TIM_PG_COMMIT_RESULT_blk, Reg.TIM_PG_CTRL_DRIVE_blk, Reg.TIM_PG_CTRL_EN_blk, Reg.TIM_PG_CTRL_EVENT_blk, Reg.TIM_PG_CTRL_POL_blk, Reg.TIM_PG_PERIOD_blk, Reg.TIM_PG_START_NS_blk, Reg.TIM_PG_START_SEC_blk, Reg.TIM_PG_WIDTH_blk, Reg.CHU_CFG_ALLOT_off, Reg.CHU_CFG_ENABLE_off, Reg.CHU_CFG_PKT_MAX_off, Reg.CHU_COMMIT_RESULT_off, Reg.DSP_FLOW_CFG_ENABLE_off, Reg.DSP_FLOW_CFG_POOL_off, Reg.DSP_FLOW_CFG_THREAD_BASE_off, Reg.DSP_FLOW_CFG_WIN_MAX_off, Reg.DSP_FLOW_COMMIT_RESULT_off, Reg.DSP_THR_CFG_AFFINITY_off, Reg.DSP_THR_CFG_ENABLE_off, Reg.DSP_THR_CFG_PRIO_off, Reg.DSP_THR_COMMIT_RESULT_off, Reg.HRE_RING_BASE_ADDR_off, Reg.HRE_RING_CFG_BIND_off, Reg.HRE_RING_CFG_ENABLE_off, Reg.HRE_RING_CFG_SIZE_LOG2_off, Reg.HRE_RING_CFG_TYPE_off, Reg.HRE_RING_CFG_VECTOR_off, Reg.HRE_RING_COMMIT_RESULT_off, Reg.HRE_RING_CREDIT_ALLOT_off, Reg.HRE_RING_IRQ_COAL_COUNT_off, Reg.HRE_RING_IRQ_COAL_TIME_off, Reg.HST_CH_CFG_ARB_PRIO_off, Reg.HST_CH_CFG_COMPL_MODE_off, Reg.HST_CH_CFG_PROG_LEN_off, Reg.HST_CH_CFG_RETRY_MAX_off, Reg.HST_CH_COMMIT_RESULT_off, Reg.RNG_LOOP_CFG_DLL_BW_off, Reg.RNG_LOOP_CFG_FLL_BW_off, Reg.RNG_LOOP_CFG_PLL_BW_off, Reg.RNG_LOOP_CFG_SPACING_off, Reg.RNG_LOOP_CFG_T_COH_off, Reg.RNG_LOOP_COMMIT_RESULT_off, Reg.TIM_PG_COMMIT_RESULT_off, Reg.TIM_PG_CTRL_DRIVE_off, Reg.TIM_PG_CTRL_EN_off, Reg.TIM_PG_CTRL_EVENT_off, Reg.TIM_PG_CTRL_POL_off, Reg.TIM_PG_PERIOD_off, Reg.TIM_PG_START_NS_off, Reg.TIM_PG_START_SEC_off, Reg.TIM_PG_WIDTH_off] <;> decide) | (split <;> decide) | (split <;> simp only [wrOk, faultOk, tallyOk, bumpOk, commitOk, List.all_cons, List.all_nil, Bool.and_true, writableOf, Reg.CHU_CFG_ALLOT_blk, Reg.CHU_CFG_ENABLE_blk, Reg.CHU_CFG_PKT_MAX_blk, Reg.CHU_COMMIT_RESULT_blk, Reg.CRE_XCHK_LIM_blk, Reg.DRM_CH_CFG_EN_blk, Reg.DRM_CH_CFG_P_blk, Reg.DRM_CH_CFG_SHIFT_blk, Reg.DSP_CORE_CFG_blk, Reg.DSP_FLOW_CFG_ENABLE_blk, Reg.DSP_FLOW_CFG_POOL_blk, Reg.DSP_FLOW_CFG_THREAD_BASE_blk, Reg.DSP_FLOW_CFG_WIN_MAX_blk, Reg.DSP_FLOW_COMMIT_RESULT_blk, Reg.DSP_THR_CFG_AFFINITY_blk, Reg.DSP_THR_CFG_ENABLE_blk, Reg.DSP_THR_CFG_PRIO_blk, Reg.DSP_THR_COMMIT_RESULT_blk, Reg.GOV_CLASS_A_KI_DOCK_blk, Reg.GOV_CLASS_A_KI_TRACK_blk, Reg.GOV_CLASS_A_KP_DOCK_blk, Reg.GOV_CLASS_A_KP_TRACK_blk, Reg.GOV_CLASS_B_ACC_blk, Reg.GOV_CLASS_B_APPROACH_blk, Reg.GOV_CLASS_B_DEC_blk, Reg.GOV_CLK_KI_blk, Reg.GOV_CLK_KP_blk, Reg.HRE_RING_BASE_ADDR_blk, Reg.HRE_RING_CFG_BIND_blk, Reg.HRE_RING_CFG_ENABLE_blk, Reg.HRE_RING_CFG_SIZE_LOG2_blk, Reg.HRE_RING_CFG_TYPE_blk, Reg.HRE_RING_CFG_VECTOR_blk, Reg.HRE_RING_COMMIT_RESULT_blk, Reg.HRE_RING_CREDIT_ALLOT_blk, Reg.HRE_RING_IRQ_COAL_COUNT_blk, Reg.HRE_RING_IRQ_COAL_TIME_blk, Reg.HRE_VEC_GAP_MIN_GAP_blk, Reg.HST_CH_CFG_ARB_PRIO_blk, Reg.HST_CH_CFG_COMPL_MODE_blk, Reg.HST_CH_CFG_PROG_LEN_blk, Reg.HST_CH_CFG_RETRY_MAX_blk, Reg.HST_CH_COMMIT_RESULT_blk, Reg.RNG_LOOP_CFG_DLL_BW_blk, Reg.RNG_LOOP_CFG_FLL_BW_blk, Reg.RNG_LOOP_CFG_PLL_BW_blk, Reg.RNG_LOOP_CFG_SPACING_blk, Reg.RNG_LOOP_CFG_T_COH_blk, Reg.RNG_LOOP_COMMIT_RESULT_blk, Reg.TIM_PG_COMMIT_RESULT_blk, Reg.TIM_PG_CTRL_DRIVE_blk, Reg.TIM_PG_CTRL_EN_blk, Reg.TIM_PG_CTRL_EVENT_blk, Reg.TIM_PG_CTRL_POL_blk, Reg.TIM_PG_PERIOD_blk, Reg.TIM_PG_START_NS_blk, Reg.TIM_PG_START_SEC_blk, Reg.TIM_PG_WIDTH_blk, Reg.CHU_CFG_ALLOT_off, Reg.CHU_CFG_ENABLE_off, Reg.CHU_CFG_PKT_MAX_off, Reg.CHU_COMMIT_RESULT_off, Reg.DSP_FLOW_CFG_ENABLE_off, Reg.DSP_FLOW_CFG_POOL_off, Reg.DSP_FLOW_CFG_THREAD_BASE_off, Reg.DSP_FLOW_CFG_WIN_MAX_off, Reg.DSP_FLOW_COMMIT_RESULT_off, Reg.DSP_THR_CFG_AFFINITY_off, Reg.DSP_THR_CFG_ENABLE_off, Reg.DSP_THR_CFG_PRIO_off, Reg.DSP_THR_COMMIT_RESULT_off, Reg.HRE_RING_BASE_ADDR_off, Reg.HRE_RING_CFG_BIND_off, Reg.HRE_RING_CFG_ENABLE_off, Reg.HRE_RING_CFG_SIZE_LOG2_off, Reg.HRE_RING_CFG_TYPE_off, Reg.HRE_RING_CFG_VECTOR_off, Reg.HRE_RING_COMMIT_RESULT_off, Reg.HRE_RING_CREDIT_ALLOT_off, Reg.HRE_RING_IRQ_COAL_COUNT_off, Reg.HRE_RING_IRQ_COAL_TIME_off, Reg.HST_CH_CFG_ARB_PRIO_off, Reg.HST_CH_CFG_COMPL_MODE_off, Reg.HST_CH_CFG_PROG_LEN_off, Reg.HST_CH_CFG_RETRY_MAX_off, Reg.HST_CH_COMMIT_RESULT_off, Reg.RNG_LOOP_CFG_DLL_BW_off, Reg.RNG_LOOP_CFG_FLL_BW_off, Reg.RNG_LOOP_CFG_PLL_BW_off, Reg.RNG_LOOP_CFG_SPACING_off, Reg.RNG_LOOP_CFG_T_COH_off, Reg.RNG_LOOP_COMMIT_RESULT_off, Reg.TIM_PG_COMMIT_RESULT_off, Reg.TIM_PG_CTRL_DRIVE_off, Reg.TIM_PG_CTRL_EN_off, Reg.TIM_PG_CTRL_EVENT_off, Reg.TIM_PG_CTRL_POL_off, Reg.TIM_PG_PERIOD_off, Reg.TIM_PG_START_NS_off, Reg.TIM_PG_START_SEC_off, Reg.TIM_PG_WIDTH_off] <;> decide) | (simp only [writableOf]; split <;> decide)) _).trans ?_
    | with_reducible refine Unseen.ite ?_ ?_
    | with_reducible refine (Unseen.foldl _ ?_ _ _).trans ?_
    | intro _
    | dsimp only
    | split


/-! ## Hoist -/

theorem State.setChan_only {β : Type} {π : State → β} (hU : Unseen 0x8000 π) (s : State) (n : Nat) (c : Chan) :
    π (State.setChan s n c) = π s := by
  dsimp only [State.setChan]
  repeat' first
    | with_reducible rfl
    | fail_if_no_progress with_reducible refine (hU.hst (by decide) _ _).trans ?_

theorem State.setFlag_only {β : Type} {π : State → β} (hU : Unseen 0x180000008420 π) (s : State) (n : Nat) (e : Nat) :
    π (State.setFlag s n e) = π s := by
  dsimp only [State.setFlag]
  repeat' first
    | with_reducible rfl
    | with_reducible refine (State.setChan_only (hU.mono (by decide)) _ _ _).trans ?_
    | with_reducible refine (hU.bump (by first | decide | (simp only [wrOk, faultOk, tallyOk, bumpOk, commitOk, List.all_cons, List.all_nil, Bool.and_true, Reg.HST_CH_MERGED_blk] <;> decide) | (split <;> decide) | (split <;> simp only [wrOk, faultOk, tallyOk, bumpOk, commitOk, List.all_cons, List.all_nil, Bool.and_true, Reg.HST_CH_MERGED_blk] <;> decide)) _).trans ?_
    | with_reducible refine Unseen.ite ?_ ?_
    | split

theorem State.setFlags_only {β : Type} {π : State → β} (hU : Unseen 0x180000008420 π) (s : State) (e : Nat) (x0 : List Nat) :
    π (State.setFlags s e x0) = π s := by
  induction x0 generalizing s with
  | nil =>
    dsimp only [State.setFlags]
    repeat' first
      | with_reducible rfl
      | with_reducible refine (ih ..).trans ?_
      | with_reducible refine (State.setFlag_only (hU.mono (by decide)) _ _ _).trans ?_
  | cons a k ih =>
    dsimp only [State.setFlags]
    repeat' first
      | with_reducible rfl
      | with_reducible refine (ih ..).trans ?_
      | with_reducible refine (State.setFlag_only (hU.mono (by decide)) _ _ _).trans ?_

theorem State.smearRegs_only {β : Type} {π : State → β} (hU : Unseen 0x3ffbff000000022e π) (s : State) (off : Nat) (x0 : Nat) :
    π (State.smearRegs s off x0) = π s := by
  induction x0 generalizing s off with
  | zero =>
    dsimp only [State.smearRegs]
    repeat' first
      | with_reducible rfl
      | with_reducible refine (ih ..).trans ?_
      | with_reducible refine (State.plainWrite_only (hU.mono (by decide)) _ _ _).trans ?_
      | with_reducible refine (State.draw_only (hU.mono (by decide)) _ _).trans ?_
      | dsimp only
  | succ k ih =>
    dsimp only [State.smearRegs]
    repeat' first
      | with_reducible rfl
      | with_reducible refine (ih ..).trans ?_
      | with_reducible refine (State.plainWrite_only (hU.mono (by decide)) _ _ _).trans ?_
      | with_reducible refine (State.draw_only (hU.mono (by decide)) _ _).trans ?_
      | dsimp only

theorem State.smear_only {β : Type} {π : State → β} (hU : Unseen 0x3ffbff000000262e π) (s : State) (m : MoveSt) :
    π (State.smear s m) = π s := by
  dsimp only [State.smear]
  repeat' first
    | with_reducible rfl
    | with_reducible refine (State.smearRegs_only (hU.mono (by decide)) _ _ _).trans ?_
    | with_reducible refine (State.setChute_only (hU.mono (by decide)) _ _ _).trans ?_
    | fail_if_no_progress with_reducible refine (hU.ctr_mem (by decide) (by decide) _ _ _).trans ?_
    | with_reducible refine Unseen.ite ?_ ?_
    | dsimp only
    | split

theorem State.haltChan_only {β : Type} {π : State → β} (hU : Unseen 0x3ffbff000000a62e π) (s : State) (n : Nat) (status : Nat) :
    π (State.haltChan s n status) = π s := by
  dsimp only [State.haltChan]
  repeat' first
    | with_reducible rfl
    | with_reducible refine (State.smear_only (hU.mono (by decide)) _ _).trans ?_
    | with_reducible refine (State.setChan_only (hU.mono (by decide)) _ _ _).trans ?_
    | with_reducible refine (hU.wrO (by first | decide | (simp only [wrOk, faultOk, tallyOk, bumpOk, commitOk, List.all_cons, List.all_nil, Bool.and_true] <;> decide) | (split <;> decide) | (split <;> simp only [wrOk, faultOk, tallyOk, bumpOk, commitOk, List.all_cons, List.all_nil, Bool.and_true] <;> decide)) _ _).trans ?_
    | with_reducible refine (hU.event (by decide) _ _ _ _).trans ?_
    | with_reducible refine Unseen.ite ?_ ?_
    | dsimp only
    | split

theorem State.nextIns_only {β : Type} {π : State → β} (hU : Unseen 0x3ffbff000000a62e π) (s : State) (n : Nat) (next : Nat) :
    π (State.nextIns s n next) = π s := by
  dsimp only [State.nextIns]
  repeat' first
    | with_reducible rfl
    | with_reducible refine (State.setChan_only (hU.mono (by decide)) _ _ _).trans ?_
    | with_reducible refine (State.haltChan_only (hU.mono (by decide)) _ _ _).trans ?_
    | with_reducible refine Unseen.ite ?_ ?_
    | dsimp only
    | split

theorem RegBus.readAll_only {β : Type} {π : State → β} (hU : Unseen 0x0 π) (b : RegBus) (off : Nat) (fixed : Bool) (s : State) (x0 : Nat) (hb_read : ∀ (o : Nat) (y : State), π (b.read o y).2 = π y) (hb_write : ∀ (o v : Nat) (y : State), π (b.write o v y) = π y) :
    π ((RegBus.readAll b off fixed s x0).2) = π s := by
  induction x0 generalizing s off with
  | zero =>
    dsimp only [RegBus.readAll]
    repeat' first
      | with_reducible rfl
      | with_reducible refine (ih ..).trans ?_
      | with_reducible refine (hb_read _ _).trans ?_
      | with_reducible refine (hb_write _ _ _).trans ?_
      | with_reducible refine Unseen.ite ?_ ?_
      | dsimp only
      | split
  | succ k ih =>
    dsimp only [RegBus.readAll]
    repeat' first
      | with_reducible rfl
      | with_reducible refine (ih ..).trans ?_
      | with_reducible refine (hb_read _ _).trans ?_
      | with_reducible refine (hb_write _ _ _).trans ?_
      | with_reducible refine Unseen.ite ?_ ?_
      | dsimp only
      | split

theorem RegBus.writeAll_only {β : Type} {π : State → β} (hU : Unseen 0x0 π) (b : RegBus) (fixed : Bool) (x0 : Nat) (x1 : Nat) (x2 : List Byte) (x3 : State) (hb_read : ∀ (o : Nat) (y : State), π (b.read o y).2 = π y) (hb_write : ∀ (o v : Nat) (y : State), π (b.write o v y) = π y) :
    π (RegBus.writeAll b fixed x0 x1 x2 x3) = π x3 := by
  induction x0 generalizing x3 x1 x2 with
  | zero =>
    dsimp only [RegBus.writeAll]
    repeat' first
      | with_reducible rfl
      | with_reducible refine (ih ..).trans ?_
      | with_reducible refine (hb_read _ _).trans ?_
      | with_reducible refine (hb_write _ _ _).trans ?_
      | with_reducible refine Unseen.ite ?_ ?_
      | split
  | succ k ih =>
    dsimp only [RegBus.writeAll]
    repeat' first
      | with_reducible rfl
      | with_reducible refine (ih ..).trans ?_
      | with_reducible refine (hb_read _ _).trans ?_
      | with_reducible refine (hb_write _ _ _).trans ?_
      | with_reducible refine Unseen.ite ?_ ?_
      | split

theorem MoveSt.write_only {β : Type} {π : State → β} (hU : Unseen 0x2000 π) (m : MoveSt) (b : RegBus) (from_ : Nat) (upto : Nat) (s : State) (hb_read : ∀ (o : Nat) (y : State), π (b.read o y).2 = π y) (hb_write : ∀ (o v : Nat) (y : State), π (b.write o v y) = π y) :
    π (MoveSt.write m b from_ upto s) = π s := by
  dsimp only [MoveSt.write]
  repeat' first
    | with_reducible rfl
    | with_reducible refine (hb_read _ _).trans ?_
    | with_reducible refine (hb_write _ _ _).trans ?_
    | with_reducible refine (RegBus.writeAll_only (hU.mono (by decide)) _ _ _ _ _ _ hb_read hb_write).trans ?_
    | fail_if_no_progress with_reducible refine (hU.mem (by decide) _ _).trans ?_
    | with_reducible refine Unseen.ite ?_ ?_
    | dsimp only
    | split

theorem State.beginMove_only {β : Type} {π : State → β} (hU : Unseen 0x3ffbff000000a62e π) (s : State) (b : RegBus) (n : Nat) (dst : MoveDst) (data : List Byte) (bus : BusOutcome) (hb_read : ∀ (o : Nat) (y : State), π (b.read o y).2 = π y) (hb_write : ∀ (o v : Nat) (y : State), π (b.write o v y) = π y) :
    π (State.beginMove s b n dst data bus) = π s := by
  dsimp only [State.beginMove]
  repeat' first
    | with_reducible rfl
    | with_reducible refine (hb_read _ _).trans ?_
    | with_reducible refine (hb_write _ _ _).trans ?_
    | with_reducible refine (MoveSt.write_only (hU.mono (by decide)) _ _ _ _ _ hb_read hb_write).trans ?_
    | with_reducible refine (State.setChan_only (hU.mono (by decide)) _ _ _).trans ?_
    | with_reducible refine (State.haltChan_only (hU.mono (by decide)) _ _ _).trans ?_
    | with_reducible refine (hU.wrO (by first | decide | (simp only [wrOk, faultOk, tallyOk, bumpOk, commitOk, List.all_cons, List.all_nil, Bool.and_true] <;> decide) | (split <;> decide) | (split <;> simp only [wrOk, faultOk, tallyOk, bumpOk, commitOk, List.all_cons, List.all_nil, Bool.and_true] <;> decide)) _ _).trans ?_
    | with_reducible refine Unseen.ite ?_ ?_
    | intro _
    | dsimp only
    | split

theorem State.stall_only {β : Type} {π : State → β} (hU : Unseen 0x8000 π) (s : State) (n : Nat) :
    π (State.stall s n) = π s := by
  dsimp only [State.stall]
  repeat' first
    | with_reducible rfl
    | with_reducible refine (State.setChan_only (hU.mono (by decide)) _ _ _).trans ?_

theorem State.fetchBad_only {β : Type} {π : State → β} (hU : Unseen 0x3ffbff000000a62e π) (s : State) (n : Nat) :
    π (State.fetchBad s n) = π s := by
  dsimp only [State.fetchBad]
  repeat' first
    | with_reducible rfl
    | with_reducible refine (State.haltChan_only (hU.mono (by decide)) _ _ _).trans ?_
    | with_reducible refine (hU.wrO (by first | decide | (simp only [wrOk, faultOk, tallyOk, bumpOk, commitOk, List.all_cons, List.all_nil, Bool.and_true] <;> decide) | (split <;> decide) | (split <;> simp only [wrOk, faultOk, tallyOk, bumpOk, commitOk, List.all_cons, List.all_nil, Bool.and_true] <;> decide)) _ _).trans ?_

theorem State.runIns_only {β : Type} {π : State → β} (hU : Unseen 0x3ffbff000000a62e π) (s : State) (n : Nat) (op : Nat) (fetch : Ecc) (body : State → State) (hbody : ∀ (y0 : State), π (body y0) = π y0) :
    π (State.runIns s n op fetch body) = π s := by
  dsimp only [State.runIns]
  repeat' first
    | with_reducible rfl
    | with_reducible refine (hbody _).trans ?_
    | with_reducible refine (State.fetchBad_only (hU.mono (by decide)) _ _).trans ?_
    | with_reducible refine Unseen.ite ?_ ?_
    | split

theorem State.lpddrRead_only {β : Type} {π : State → β} (hU : Unseen 0x4000080000000422 π) (s : State) (a : Nat) (bus : BusOutcome) :
    π (State.lpddrRead s a bus) = π s := by
  dsimp only [State.lpddrRead]
  repeat' first
    | with_reducible rfl
    | with_reducible refine (State.memUncorr_only (hU.mono (by decide)) _ _).trans ?_
    | with_reducible refine (hU.wrapBy (by first | decide | (simp only [wrOk, faultOk, tallyOk, bumpOk, commitOk, List.all_cons, List.all_nil, Bool.and_true] <;> decide) | (split <;> decide) | (split <;> simp only [wrOk, faultOk, tallyOk, bumpOk, commitOk, List.all_cons, List.all_nil, Bool.and_true] <;> decide)) _ _).trans ?_
    | dsimp only
    | split

theorem readPort_only {β : Type} {π : State → β} (hU : Unseen 0x80000000420 π) {s : State} {c len : Nat} {e : Option Nat} {r : MoveRead}
    (h : readPort s c len e = some r) : π r.st = π s := by
  simp only [readPort] at h
  repeat' split at h
  · cases h
  all_goals
    injection h with h; subst h
    repeat' first
      | with_reducible rfl
      | with_reducible refine (hU.chuteBump (by simp only [wrOk, Reg.CHU_UNCORRECTED_blk, Reg.CHU_DROP_REST_blk] <;> decide) _ _).trans ?_
      | with_reducible refine (State.cutShort_only (hU.mono (by decide)) _ _ _ _ _).trans ?_
      | with_reducible refine (State.setChute_only (hU.mono (by decide)) _ _ _).trans ?_
      | dsimp only

theorem moveRead_only {β : Type} {π : State → β} (hU : Unseen 0x80000000420 π) {b : RegBus} (hb_read : ∀ (o : Nat) (y : State), π (b.read o y).2 = π y)
    (hb_write : ∀ (o v : Nat) (y : State), π (b.write o v y) = π y) {s : State} {rs : Region} {src len : Nat} {x : Bool} {e : Option Nat} {r : MoveRead} (h : moveRead b s rs src len x e = some r) : π r.st = π s := by
  simp only [moveRead] at h
  split at h
  · exact readPort_only hU h
  · injection h with h; subst h; exact RegBus.readAll_only (hU.mono (by decide)) b _ _ _ _ hb_read hb_write
  · injection h with h; subst h; rfl

theorem moveOp_only {β : Type} {π : State → β} (hU : Unseen 0x7ffbff000000a62e π) (b : RegBus) (n : Nat) (fetch : Ecc) (bus : BusOutcome) (s : State) (hb_read : ∀ (o : Nat) (y : State), π (b.read o y).2 = π y) (hb_write : ∀ (o v : Nat) (y : State), π (b.write o v y) = π y) :
    π (moveOp b n fetch bus s) = π s := by
  dsimp only [moveOp]
  repeat' first
    | with_reducible rfl
    | with_reducible refine (hb_read _ _).trans ?_
    | with_reducible refine (hb_write _ _ _).trans ?_
    | with_reducible refine (moveRead_only (hU.mono (by decide)) hb_read hb_write (by assumption)).trans ?_
    | with_reducible refine (State.nextIns_only (hU.mono (by decide)) _ _ _).trans ?_
    | with_reducible refine (MoveSt.write_only (hU.mono (by decide)) _ _ _ _ _ hb_read hb_write).trans ?_
    | with_reducible refine (State.runIns_only (hU.mono (by decide)) _ _ _ _ _ ?_).trans ?_
    | with_reducible refine (State.setChute_only (hU.mono (by decide)) _ _ _).trans ?_
    | with_reducible refine (State.stall_only (hU.mono (by decide)) _ _).trans ?_
    | with_reducible refine (State.setChan_only (hU.mono (by decide)) _ _ _).trans ?_
    | with_reducible refine (State.lpddrRead_only (hU.mono (by decide)) _ _ _).trans ?_
    | with_reducible refine (State.beginMove_only (hU.mono (by decide)) _ _ _ _ _ _ hb_read hb_write).trans ?_
    | with_reducible refine (State.haltChan_only (hU.mono (by decide)) _ _ _).trans ?_
    | with_reducible refine (hU.chuteBump (by first | decide | (simp only [wrOk, faultOk, tallyOk, bumpOk, commitOk, List.all_cons, List.all_nil, Bool.and_true, Reg.CHU_OVERSIZE_blk, Reg.CHU_OVERSIZE_off] <;> decide) | (split <;> decide) | (split <;> simp only [wrOk, faultOk, tallyOk, bumpOk, commitOk, List.all_cons, List.all_nil, Bool.and_true, Reg.CHU_OVERSIZE_blk, Reg.CHU_OVERSIZE_off] <;> decide)) _ _).trans ?_
    | with_reducible refine Unseen.ite ?_ ?_
    | intro _
    | dsimp only
    | split

theorem moveCompleteOp_only {β : Type} {π : State → β} (hU : Unseen 0x3ffbff000000a62e π) (n : Nat) (s : State) :
    π (moveCompleteOp n s) = π s := by
  dsimp only [moveCompleteOp]
  repeat' first
    | with_reducible rfl
    | with_reducible refine (State.nextIns_only (hU.mono (by decide)) _ _ _).trans ?_
    | with_reducible refine (State.setChute_only (hU.mono (by decide)) _ _ _).trans ?_
    | with_reducible refine (State.setChan_only (hU.mono (by decide)) _ _ _).trans ?_
    | with_reducible refine (hU.putPacket (by decide) _ _ _ _ _).trans ?_
    | with_reducible refine Unseen.ite ?_ ?_
    | intro _
    | dsimp only
    | split

theorem burstRetryOp_only {β : Type} {π : State → β} (hU : Unseen 0x3ffbff000000a62e π) (b : RegBus) (n : Nat) (ok : Bool) (s : State) (hb_read : ∀ (o : Nat) (y : State), π (b.read o y).2 = π y) (hb_write : ∀ (o v : Nat) (y : State), π (b.write o v y) = π y) :
    π (burstRetryOp b n ok s) = π s := by
  dsimp only [burstRetryOp]
  repeat' first
    | with_reducible rfl
    | with_reducible refine (hb_read _ _).trans ?_
    | with_reducible refine (hb_write _ _ _).trans ?_
    | with_reducible refine (State.setChan_only (hU.mono (by decide)) _ _ _).trans ?_
    | with_reducible refine (MoveSt.write_only (hU.mono (by decide)) _ _ _ _ _ hb_read hb_write).trans ?_
    | with_reducible refine (State.haltChan_only (hU.mono (by decide)) _ _ _).trans ?_
    | with_reducible refine (hU.bump (by first | decide | (simp only [wrOk, faultOk, tallyOk, bumpOk, commitOk, List.all_cons, List.all_nil, Bool.and_true, Reg.HST_CH_RETRY_blk] <;> decide) | (split <;> decide) | (split <;> simp only [wrOk, faultOk, tallyOk, bumpOk, commitOk, List.all_cons, List.all_nil, Bool.and_true, Reg.HST_CH_RETRY_blk] <;> decide)) _).trans ?_
    | with_reducible refine Unseen.ite ?_ ?_
    | dsimp only
    | split

theorem loopOp_only {β : Type} {π : State → β} (hU : Unseen 0x3ffbff000000a62e π) (n : Nat) (fetch : Ecc) (s : State) :
    π (loopOp n fetch s) = π s := by
  dsimp only [loopOp]
  repeat' first
    | with_reducible rfl
    | with_reducible refine (State.nextIns_only (hU.mono (by decide)) _ _ _).trans ?_
    | with_reducible refine (State.setChan_only (hU.mono (by decide)) _ _ _).trans ?_
    | with_reducible refine (State.runIns_only (hU.mono (by decide)) _ _ _ _ _ ?_).trans ?_
    | with_reducible refine Unseen.ite ?_ ?_
    | intro _
    | split

theorem State.arriveWait_only {β : Type} {π : State → β} (hU : Unseen 0x8400 π) (s : State) (n : Nat) (w : Nat) :
    π (State.arriveWait s n w) = π s := by
  dsimp only [State.arriveWait]
  repeat' first
    | with_reducible rfl
    | with_reducible refine (State.setChute_only (hU.mono (by decide)) _ _ _).trans ?_
    | with_reducible refine (State.setChan_only (hU.mono (by decide)) _ _ _).trans ?_
    | with_reducible refine Unseen.ite ?_ ?_
    | split

theorem State.departWait_only {β : Type} {π : State → β} (hU : Unseen 0x400 π) (s : State) (n : Nat) (w : Nat) :
    π (State.departWait s n w) = π s := by
  dsimp only [State.departWait]
  repeat' first
    | with_reducible rfl
    | with_reducible refine (State.setChute_only (hU.mono (by decide)) _ _ _).trans ?_
    | with_reducible refine Unseen.ite ?_ ?_
    | intro _
    | dsimp only
    | split

theorem State.waitStep_only {β : Type} {π : State → β} (hU : Unseen 0x3ffbff000000a62e π) (s : State) (n : Nat) (w : Nat) :
    π (State.waitStep s n w) = π s := by
  dsimp only [State.waitStep]
  repeat' first
    | with_reducible rfl
    | with_reducible refine (State.departWait_only (hU.mono (by decide)) _ _ _).trans ?_
    | with_reducible refine (State.setChan_only (hU.mono (by decide)) _ _ _).trans ?_
    | with_reducible refine (State.nextIns_only (hU.mono (by decide)) _ _ _).trans ?_
    | with_reducible refine Unseen.ite ?_ ?_
    | split

theorem waitOp_only {β : Type} {π : State → β} (hU : Unseen 0x3ffbff000000a62e π) (n : Nat) (fetch : Ecc) (s : State) :
    π (waitOp n fetch s) = π s := by
  dsimp only [waitOp]
  repeat' first
    | with_reducible rfl
    | with_reducible refine (State.arriveWait_only (hU.mono (by decide)) _ _ _).trans ?_
    | with_reducible refine (State.runIns_only (hU.mono (by decide)) _ _ _ _ _ ?_).trans ?_
    | with_reducible refine (State.waitStep_only (hU.mono (by decide)) _ _ _).trans ?_
    | intro _

theorem waitSatisfiedOp_only {β : Type} {π : State → β} (hU : Unseen 0x3ffbff000000a62e π) (n : Nat) (s : State) :
    π (waitSatisfiedOp n s) = π s := by
  dsimp only [waitSatisfiedOp]
  repeat' first
    | with_reducible rfl
    | with_reducible refine (State.setChan_only (hU.mono (by decide)) _ _ _).trans ?_
    | with_reducible refine (State.waitStep_only (hU.mono (by decide)) _ _ _).trans ?_
    | with_reducible refine Unseen.ite ?_ ?_
    | split

theorem waitTimeoutOp_only {β : Type} {π : State → β} (hU : Unseen 0x3ffbff000000a62e π) (n : Nat) (s : State) :
    π (waitTimeoutOp n s) = π s := by
  dsimp only [waitTimeoutOp]
  repeat' first
    | with_reducible rfl
    | with_reducible refine (State.departWait_only (hU.mono (by decide)) _ _ _).trans ?_
    | with_reducible refine (State.haltChan_only (hU.mono (by decide)) _ _ _).trans ?_
    | with_reducible refine Unseen.ite ?_ ?_
    | split

theorem State.notify_only {β : Type} {π : State → β} (hU : Unseen 0x20020 π) (s : State) (n : Nat) (w : Nat) (code : Nat) :
    π (State.notify s n w code) = π s := by
  dsimp only [State.notify]
  repeat' first
    | with_reducible rfl
    | with_reducible refine (hU.event (by decide) _ _ _ _).trans ?_
    | fail_if_no_progress with_reducible refine (hU.dsp (by decide) _ _).trans ?_
    | with_reducible refine Unseen.ite ?_ ?_
    | split

theorem signalOp_only {β : Type} {π : State → β} (hU : Unseen 0x3ffbff000002a62e π) (n : Nat) (fetch : Ecc) (s : State) :
    π (signalOp n fetch s) = π s := by
  dsimp only [signalOp]
  repeat' first
    | with_reducible rfl
    | with_reducible refine (State.nextIns_only (hU.mono (by decide)) _ _ _).trans ?_
    | with_reducible refine (State.notify_only (hU.mono (by decide)) _ _ _ _).trans ?_
    | with_reducible refine (State.runIns_only (hU.mono (by decide)) _ _ _ _ _ ?_).trans ?_
    | with_reducible refine (State.setFlags_only (hU.mono (by decide)) _ _ _).trans ?_
    | intro _

theorem endOp_only {β : Type} {π : State → β} (hU : Unseen 0x3ffbff000002a62e π) (n : Nat) (fetch : Ecc) (s : State) :
    π (endOp n fetch s) = π s := by
  dsimp only [endOp]
  repeat' first
    | with_reducible rfl
    | with_reducible refine (State.notify_only (hU.mono (by decide)) _ _ _ _).trans ?_
    | with_reducible refine (State.setChan_only (hU.mono (by decide)) _ _ _).trans ?_
    | with_reducible refine (State.fetchBad_only (hU.mono (by decide)) _ _).trans ?_
    | with_reducible refine Unseen.ite ?_ ?_
    | split

theorem State.haltWaiting_only {β : Type} {π : State → β} (hU : Unseen 0x3ffbff000000a62e π) (s : State) (n : Nat) (status : Nat) :
    π (State.haltWaiting s n status) = π s := by
  dsimp only [State.haltWaiting]
  repeat' first
    | with_reducible rfl
    | with_reducible refine (State.departWait_only (hU.mono (by decide)) _ _ _).trans ?_
    | with_reducible refine (State.setChan_only (hU.mono (by decide)) _ _ _).trans ?_
    | with_reducible refine (State.haltChan_only (hU.mono (by decide)) _ _ _).trans ?_
    | with_reducible refine Unseen.ite ?_ ?_
    | split

theorem channelCtrl_only {β : Type} {π : State → β} (hU : Unseen 0x3ffbff000000a62e π) (v : Nat) (s : State) :
    π (channelCtrl v s) = π s := by
  dsimp only [channelCtrl]
  repeat' first
    | with_reducible rfl
    | with_reducible refine (State.setChan_only (hU.mono (by decide)) _ _ _).trans ?_
    | with_reducible refine (State.haltChan_only (hU.mono (by decide)) _ _ _).trans ?_
    | with_reducible refine (State.haltWaiting_only (hU.mono (by decide)) _ _ _).trans ?_
    | with_reducible refine (hU.wrO (by first | decide | (simp only [wrOk, faultOk, tallyOk, bumpOk, commitOk, List.all_cons, List.all_nil, Bool.and_true] <;> decide) | (split <;> decide) | (split <;> simp only [wrOk, faultOk, tallyOk, bumpOk, commitOk, List.all_cons, List.all_nil, Bool.and_true] <;> decide)) _ _).trans ?_
    | with_reducible refine Unseen.ite ?_ ?_
    | dsimp only
    | split

theorem eventFlagsClearOp_only {β : Type} {π : State → β} (hU : Unseen 0x8000 π) (hi : Bool) (v : Nat) (s : State) :
    π (eventFlagsClearOp hi v s) = π s := by
  dsimp only [eventFlagsClearOp]
  repeat' first
    | with_reducible rfl
    | with_reducible refine (State.setChan_only (hU.mono (by decide)) _ _ _).trans ?_
    | with_reducible refine Unseen.ite ?_ ?_
    | intro _
    | split

theorem tickConfigWriteOp_only {β : Type} {π : State → β} (hU : Unseen 0x100000004000 π) (t : Nat) (v : Nat) (s : State) :
    π (tickConfigWriteOp t v s) = π s := by
  dsimp only [tickConfigWriteOp]
  repeat' first
    | with_reducible rfl
    | with_reducible refine (hU.wrO (by first | decide | (simp only [wrOk, faultOk, tallyOk, bumpOk, commitOk, List.all_cons, List.all_nil, Bool.and_true, Reg.HST_TICK_PERIOD_blk] <;> decide) | (split <;> decide) | (split <;> simp only [wrOk, faultOk, tallyOk, bumpOk, commitOk, List.all_cons, List.all_nil, Bool.and_true, Reg.HST_TICK_PERIOD_blk] <;> decide)) _ _).trans ?_
    | fail_if_no_progress with_reducible refine (hU.ticks (by decide) _ _).trans ?_

theorem hoistTickOp_only {β : Type} {π : State → β} (hU : Unseen 0x18000000c420 π) (t : Nat) (s : State) :
    π (hoistTickOp t s) = π s := by
  dsimp only [hoistTickOp]
  repeat' first
    | with_reducible rfl
    | with_reducible refine (State.setFlags_only (hU.mono (by decide)) _ _ _).trans ?_
    | fail_if_no_progress with_reducible refine (hU.ticks (by decide) _ _).trans ?_
    | with_reducible refine Unseen.ite ?_ ?_
    | split

theorem progCommitOp_only {β : Type} {π : State → β} (hU : Unseen 0x100008008008 π) (s : State) :
    π (progCommitOp s) = π s := by
  dsimp only [progCommitOp]
  repeat' first
    | with_reducible rfl
    | with_reducible refine (State.setChan_only (hU.mono (by decide)) _ _ _).trans ?_
    | with_reducible refine (hU.commit (by first | decide | (simp only [wrOk, faultOk, tallyOk, bumpOk, commitOk, List.all_cons, List.all_nil, Bool.and_true, Reg.HST_CH_CFG_ARB_PRIO_blk, Reg.HST_CH_CFG_COMPL_MODE_blk, Reg.HST_CH_CFG_PROG_LEN_blk, Reg.HST_CH_CFG_RETRY_MAX_blk, Reg.HST_CH_COMMIT_BAD_INDEX_blk, Reg.HST_CH_COMMIT_RESULT_blk, Reg.HST_CH_CFG_ARB_PRIO_off, Reg.HST_CH_CFG_COMPL_MODE_off, Reg.HST_CH_CFG_PROG_LEN_off, Reg.HST_CH_CFG_RETRY_MAX_off, Reg.HST_CH_COMMIT_BAD_INDEX_off, Reg.HST_CH_COMMIT_RESULT_off] <;> decide) | (split <;> decide) | (split <;> simp only [wrOk, faultOk, tallyOk, bumpOk, commitOk, List.all_cons, List.all_nil, Bool.and_true, Reg.HST_CH_CFG_ARB_PRIO_blk, Reg.HST_CH_CFG_COMPL_MODE_blk, Reg.HST_CH_CFG_PROG_LEN_blk, Reg.HST_CH_CFG_RETRY_MAX_blk, Reg.HST_CH_COMMIT_BAD_INDEX_blk, Reg.HST_CH_COMMIT_RESULT_blk, Reg.HST_CH_CFG_ARB_PRIO_off, Reg.HST_CH_CFG_COMPL_MODE_off, Reg.HST_CH_CFG_PROG_LEN_off, Reg.HST_CH_CFG_RETRY_MAX_off, Reg.HST_CH_COMMIT_BAD_INDEX_off, Reg.HST_CH_COMMIT_RESULT_off] <;> decide)) _ _).trans ?_
    | with_reducible refine (hU.wrO (by first | decide | (simp only [wrOk, faultOk, tallyOk, bumpOk, commitOk, List.all_cons, List.all_nil, Bool.and_true, Reg.HST_CH_CFG_ARB_PRIO_blk, Reg.HST_CH_CFG_COMPL_MODE_blk, Reg.HST_CH_CFG_PROG_LEN_blk, Reg.HST_CH_CFG_RETRY_MAX_blk, Reg.HST_CH_COMMIT_BAD_INDEX_blk, Reg.HST_CH_COMMIT_RESULT_blk, Reg.HST_CH_CFG_ARB_PRIO_off, Reg.HST_CH_CFG_COMPL_MODE_off, Reg.HST_CH_CFG_PROG_LEN_off, Reg.HST_CH_CFG_RETRY_MAX_off, Reg.HST_CH_COMMIT_BAD_INDEX_off, Reg.HST_CH_COMMIT_RESULT_off] <;> decide) | (split <;> decide) | (split <;> simp only [wrOk, faultOk, tallyOk, bumpOk, commitOk, List.all_cons, List.all_nil, Bool.and_true, Reg.HST_CH_CFG_ARB_PRIO_blk, Reg.HST_CH_CFG_COMPL_MODE_blk, Reg.HST_CH_CFG_PROG_LEN_blk, Reg.HST_CH_CFG_RETRY_MAX_blk, Reg.HST_CH_COMMIT_BAD_INDEX_blk, Reg.HST_CH_COMMIT_RESULT_blk, Reg.HST_CH_CFG_ARB_PRIO_off, Reg.HST_CH_CFG_COMPL_MODE_off, Reg.HST_CH_CFG_PROG_LEN_off, Reg.HST_CH_CFG_RETRY_MAX_off, Reg.HST_CH_COMMIT_BAD_INDEX_off, Reg.HST_CH_COMMIT_RESULT_off] <;> decide)) _ _).trans ?_
    | with_reducible refine Unseen.ite ?_ ?_
    | dsimp only
    | split

theorem State.parkChan_only {β : Type} {π : State → β} (hU : Unseen 0x3ffbff000000a62e π) (s : State) (n : Nat) :
    π (State.parkChan s n) = π s := by
  dsimp only [State.parkChan]
  repeat' first
    | with_reducible rfl
    | with_reducible refine (State.setChan_only (hU.mono (by decide)) _ _ _).trans ?_
    | with_reducible refine (State.haltChan_only (hU.mono (by decide)) _ _ _).trans ?_
    | with_reducible refine (State.haltWaiting_only (hU.mono (by decide)) _ _ _).trans ?_
    | with_reducible refine Unseen.ite ?_ ?_
    | dsimp only
    | split

theorem State.parkAll_only {β : Type} {π : State → β} (hU : Unseen 0x3ffbff000000a62e π) (s : State) :
    π (State.parkAll s) = π s := by
  dsimp only [State.parkAll]
  repeat' first
    | with_reducible rfl
    | with_reducible refine (State.parkChan_only (hU.mono (by decide)) _ _).trans ?_
    | with_reducible refine (Unseen.foldl _ ?_ _ _).trans ?_
    | intro _

theorem State.abortChan_only {β : Type} {π : State → β} (hU : Unseen 0x3ffbff000000a62e π) (s : State) (n : Nat) :
    π (State.abortChan s n) = π s := by
  dsimp only [State.abortChan]
  repeat' first
    | with_reducible rfl
    | with_reducible refine (State.setChan_only (hU.mono (by decide)) _ _ _).trans ?_
    | with_reducible refine (State.haltChan_only (hU.mono (by decide)) _ _ _).trans ?_
    | with_reducible refine (State.haltWaiting_only (hU.mono (by decide)) _ _ _).trans ?_
    | with_reducible refine (State.draw_only (hU.mono (by decide)) _ _).trans ?_
    | with_reducible refine Unseen.ite ?_ ?_
    | dsimp only
    | split

theorem State.abortAll_only {β : Type} {π : State → β} (hU : Unseen 0x3ffbff000000a62e π) (s : State) :
    π (State.abortAll s) = π s := by
  dsimp only [State.abortAll]
  repeat' first
    | with_reducible rfl
    | with_reducible refine (State.abortChan_only (hU.mono (by decide)) _ _).trans ?_
    | with_reducible refine (Unseen.foldl _ ?_ _ _).trans ?_
    | intro _


/-! ## Rings -/

theorem State.showRing_only {β : Type} {π : State → β} (hU : Unseen 0x200 π) (s : State) (n : Nat) :
    π (State.showRing s n) = π s := by
  dsimp only [State.showRing]
  repeat' first
    | with_reducible rfl
    | fail_if_no_progress with_reducible refine (hU.hre (by decide) _ _).trans ?_
    | with_reducible refine Unseen.ite ?_ ?_
    | split

theorem State.showHeader_only {β : Type} {π : State → β} (hU : Unseen 0x200 π) (s : State) :
    π (State.showHeader s) = π s := by
  dsimp only [State.showHeader]
  repeat' first
    | with_reducible rfl
    | fail_if_no_progress with_reducible refine (hU.hre (by decide) _ _).trans ?_
    | with_reducible refine Unseen.ite ?_ ?_
    | split

theorem State.haltRing_only {β : Type} {π : State → β} (hU : Unseen 0x40000000220 π) (s : State) (n : Nat) (status : Nat) :
    π (State.haltRing s n status) = π s := by
  dsimp only [State.haltRing]
  repeat' first
    | with_reducible rfl
    | with_reducible refine (State.setRing_only (hU.mono (by decide)) _ _ _).trans ?_
    | with_reducible refine (hU.fault (by first | decide | (simp only [wrOk, faultOk, tallyOk, bumpOk, commitOk, List.all_cons, List.all_nil, Bool.and_true] <;> decide) | (split <;> decide) | (split <;> simp only [wrOk, faultOk, tallyOk, bumpOk, commitOk, List.all_cons, List.all_nil, Bool.and_true] <;> decide)) _).trans ?_

theorem State.raiseLimit_only {β : Type} {π : State → β} (hU : Unseen 0x200 π) (s : State) (n : Nat) :
    π (State.raiseLimit s n) = π s := by
  dsimp only [State.raiseLimit]
  repeat' first
    | with_reducible rfl
    | with_reducible refine (State.setRing_only (hU.mono (by decide)) _ _ _).trans ?_
    | with_reducible refine (State.showRing_only (hU.mono (by decide)) _ _).trans ?_
    | with_reducible refine Unseen.ite ?_ ?_
    | split

theorem State.returnCredits_only {β : Type} {π : State → β} (hU : Unseen 0x200 π) (s : State) (n : Nat) :
    π (State.returnCredits s n) = π s := by
  dsimp only [State.returnCredits]
  repeat' first
    | with_reducible rfl
    | with_reducible refine (State.setRing_only (hU.mono (by decide)) _ _ _).trans ?_
    | with_reducible refine (State.raiseLimit_only (hU.mono (by decide)) _ _).trans ?_
    | dsimp only

theorem State.returnAll_only {β : Type} {π : State → β} (hU : Unseen 0x200 π) (s : State) (x0 : List Nat) :
    π (State.returnAll s x0) = π s := by
  induction x0 generalizing s with
  | nil =>
    dsimp only [State.returnAll]
    repeat' first
      | with_reducible rfl
      | with_reducible refine (ih ..).trans ?_
      | with_reducible refine (State.returnCredits_only (hU.mono (by decide)) _ _).trans ?_
      | with_reducible refine Unseen.ite ?_ ?_
      | split
  | cons a k ih =>
    dsimp only [State.returnAll]
    repeat' first
      | with_reducible rfl
      | with_reducible refine (ih ..).trans ?_
      | with_reducible refine (State.returnCredits_only (hU.mono (by decide)) _ _).trans ?_
      | with_reducible refine Unseen.ite ?_ ?_
      | split

theorem State.doorbell_only {β : Type} {π : State → β} (hU : Unseen 0x40000000220 π) (s : State) (n : Nat) (w : Nat) :
    π (State.doorbell s n w) = π s := by
  dsimp only [State.doorbell]
  repeat' first
    | with_reducible rfl
    | with_reducible refine (State.setRing_only (hU.mono (by decide)) _ _ _).trans ?_
    | with_reducible refine (State.haltRing_only (hU.mono (by decide)) _ _ _).trans ?_
    | with_reducible refine (hU.wrapBy (by first | decide | (simp only [wrOk, faultOk, tallyOk, bumpOk, commitOk, List.all_cons, List.all_nil, Bool.and_true] <;> decide) | (split <;> decide) | (split <;> simp only [wrOk, faultOk, tallyOk, bumpOk, commitOk, List.all_cons, List.all_nil, Bool.and_true] <;> decide)) _ _).trans ?_
    | with_reducible refine (hU.fault (by first | decide | (simp only [wrOk, faultOk, tallyOk, bumpOk, commitOk, List.all_cons, List.all_nil, Bool.and_true] <;> decide) | (split <;> decide) | (split <;> simp only [wrOk, faultOk, tallyOk, bumpOk, commitOk, List.all_cons, List.all_nil, Bool.and_true] <;> decide)) _).trans ?_
    | with_reducible refine Unseen.ite ?_ ?_
    | split

theorem doorbellScanOp_only {β : Type} {π : State → β} (hU : Unseen 0x40000000220 π) (words : Vector Word 128) (alive : Nat) (failed : Bool) (s : State) :
    π (doorbellScanOp words alive failed s) = π s := by
  dsimp only [doorbellScanOp]
  repeat' first
    | with_reducible rfl
    | with_reducible refine (State.doorbell_only (hU.mono (by decide)) _ _ _).trans ?_
    | with_reducible refine (State.returnAll_only (hU.mono (by decide)) _ _).trans ?_
    | with_reducible refine (State.showHeader_only (hU.mono (by decide)) _).trans ?_
    | with_reducible refine (hU.wrapBy (by first | decide | (simp only [wrOk, faultOk, tallyOk, bumpOk, commitOk, List.all_cons, List.all_nil, Bool.and_true] <;> decide) | (split <;> decide) | (split <;> simp only [wrOk, faultOk, tallyOk, bumpOk, commitOk, List.all_cons, List.all_nil, Bool.and_true] <;> decide)) _ _).trans ?_
    | with_reducible refine (hU.wrO (by first | decide | (simp only [wrOk, faultOk, tallyOk, bumpOk, commitOk, List.all_cons, List.all_nil, Bool.and_true] <;> decide) | (split <;> decide) | (split <;> simp only [wrOk, faultOk, tallyOk, bumpOk, commitOk, List.all_cons, List.all_nil, Bool.and_true] <;> decide)) _ _).trans ?_
    | with_reducible refine (hU.fault (by first | decide | (simp only [wrOk, faultOk, tallyOk, bumpOk, commitOk, List.all_cons, List.all_nil, Bool.and_true] <;> decide) | (split <;> decide) | (split <;> simp only [wrOk, faultOk, tallyOk, bumpOk, commitOk, List.all_cons, List.all_nil, Bool.and_true] <;> decide)) _).trans ?_
    | fail_if_no_progress with_reducible refine (hU.hre (by decide) _ _).trans ?_
    | with_reducible refine Unseen.ite ?_ ?_
    | with_reducible refine (Unseen.foldl _ ?_ _ _).trans ?_
    | intro _
    | split

theorem descriptorFetchOp_only {β : Type} {π : State → β} (hU : Unseen 0x40000000220 π) (n : Nat) (descs : List Desc) (err : Bool) (s : State) :
    π (descriptorFetchOp n descs err s) = π s := by
  dsimp only [descriptorFetchOp]
  repeat' first
    | with_reducible rfl
    | with_reducible refine (State.setRing_only (hU.mono (by decide)) _ _ _).trans ?_
    | with_reducible refine (State.haltRing_only (hU.mono (by decide)) _ _ _).trans ?_
    | with_reducible refine (hU.wrapBy (by first | decide | (simp only [wrOk, faultOk, tallyOk, bumpOk, commitOk, List.all_cons, List.all_nil, Bool.and_true, Reg.HRE_RING_NOCREDIT_blk, Reg.HRE_RING_NOCREDIT_off] <;> decide) | (split <;> decide) | (split <;> simp only [wrOk, faultOk, tallyOk, bumpOk, commitOk, List.all_cons, List.all_nil, Bool.and_true, Reg.HRE_RING_NOCREDIT_blk, Reg.HRE_RING_NOCREDIT_off] <;> decide)) _ _).trans ?_
    | with_reducible refine Unseen.ite ?_ ?_
    | split

theorem State.signalRing_only {β : Type} {π : State → β} (hU : Unseen 0x40000000200 π) (s : State) (n : Nat) :
    π (State.signalRing s n) = π s := by
  dsimp only [State.signalRing]
  repeat' first
    | with_reducible rfl
    | with_reducible refine (State.setRing_only (hU.mono (by decide)) _ _ _).trans ?_
    | with_reducible refine (hU.signal (by decide) _ _).trans ?_

theorem State.putEntry_only {β : Type} {π : State → β} (hU : Unseen 0x40000000200 π) (s : State) (n : Nat) (e : RingEntry) :
    π (State.putEntry s n e) = π s := by
  dsimp only [State.putEntry]
  repeat' first
    | with_reducible rfl
    | with_reducible refine (State.signalRing_only (hU.mono (by decide)) _ _).trans ?_
    | with_reducible refine (State.setRing_only (hU.mono (by decide)) _ _ _).trans ?_
    | with_reducible refine (State.showRing_only (hU.mono (by decide)) _ _).trans ?_
    | with_reducible refine Unseen.ite ?_ ?_
    | split

theorem completionWriteOp_only {β : Type} {π : State → β} (hU : Unseen 0x40000000200 π) (n : Nat) (index : Nat) (s : State) :
    π (completionWriteOp n index s) = π s := by
  dsimp only [completionWriteOp]
  repeat' first
    | with_reducible rfl
    | with_reducible refine (State.returnCredits_only (hU.mono (by decide)) _ _).trans ?_
    | with_reducible refine (State.putEntry_only (hU.mono (by decide)) _ _ _).trans ?_
    | with_reducible refine (State.setRing_only (hU.mono (by decide)) _ _ _).trans ?_
    | fail_if_no_progress with_reducible refine (hU.hre (by decide) _ _).trans ?_
    | with_reducible refine Unseen.ite ?_ ?_
    | intro _
    | dsimp only
    | split

theorem State.loseEvents_only {β : Type} {π : State → β} (hU : Unseen 0x40000000220 π) (s : State) (n : Nat) (k : Nat) :
    π (State.loseEvents s n k) = π s := by
  dsimp only [State.loseEvents]
  repeat' first
    | with_reducible rfl
    | with_reducible refine (hU.stopBy (by first | decide | (simp only [wrOk, faultOk, tallyOk, bumpOk, commitOk, List.all_cons, List.all_nil, Bool.and_true, Reg.HRE_RING_LOST_blk, Reg.HRE_RING_LOST_off] <;> decide) | (split <;> decide) | (split <;> simp only [wrOk, faultOk, tallyOk, bumpOk, commitOk, List.all_cons, List.all_nil, Bool.and_true, Reg.HRE_RING_LOST_blk, Reg.HRE_RING_LOST_off] <;> decide)) _ _).trans ?_
    | with_reducible refine (hU.fault (by first | decide | (simp only [wrOk, faultOk, tallyOk, bumpOk, commitOk, List.all_cons, List.all_nil, Bool.and_true, Reg.HRE_RING_LOST_blk, Reg.HRE_RING_LOST_off] <;> decide) | (split <;> decide) | (split <;> simp only [wrOk, faultOk, tallyOk, bumpOk, commitOk, List.all_cons, List.all_nil, Bool.and_true, Reg.HRE_RING_LOST_blk, Reg.HRE_RING_LOST_off] <;> decide)) _).trans ?_
    | with_reducible refine Unseen.ite ?_ ?_
    | split

theorem State.toEventRing_only {β : Type} {π : State → β} (hU : Unseen 0x40000000220 π) (s : State) (n : Nat) (e : BlockEvent) (severity : Nat) :
    π (State.toEventRing s n e severity) = π s := by
  dsimp only [State.toEventRing]
  repeat' first
    | with_reducible rfl
    | with_reducible refine (State.putEntry_only (hU.mono (by decide)) _ _ _).trans ?_
    | with_reducible refine (State.setRing_only (hU.mono (by decide)) _ _ _).trans ?_
    | with_reducible refine (State.loseEvents_only (hU.mono (by decide)) _ _ _).trans ?_
    | with_reducible refine Unseen.ite ?_ ?_
    | split

theorem eventWriteOp_only {β : Type} {π : State → β} (hU : Unseen 0xd0000000622 π) (s : State) :
    π (eventWriteOp s) = π s := by
  dsimp only [eventWriteOp]
  repeat' first
    | with_reducible rfl
    | with_reducible refine (State.toEventRing_only (hU.mono (by decide)) _ _ _ _).trans ?_
    | with_reducible refine (State.draw_only (hU.mono (by decide)) _ _).trans ?_
    | with_reducible refine (hU.bump (by first | decide | (simp only [wrOk, faultOk, tallyOk, bumpOk, commitOk, List.all_cons, List.all_nil, Bool.and_true] <;> decide) | (split <;> decide) | (split <;> simp only [wrOk, faultOk, tallyOk, bumpOk, commitOk, List.all_cons, List.all_nil, Bool.and_true] <;> decide)) _).trans ?_
    | fail_if_no_progress with_reducible refine (hU.evq (by decide) _ _).trans ?_
    | with_reducible refine Unseen.ite ?_ ?_
    | dsimp only
    | split

theorem coalesceTimerOp_only {β : Type} {π : State → β} (hU : Unseen 0x40000000200 π) (n : Nat) (s : State) :
    π (coalesceTimerOp n s) = π s := by
  dsimp only [coalesceTimerOp]
  repeat' first
    | with_reducible rfl
    | with_reducible refine (State.signalRing_only (hU.mono (by decide)) _ _).trans ?_
    | with_reducible refine Unseen.ite ?_ ?_
    | split

theorem msixGapEndOp_only {β : Type} {π : State → β} (hU : Unseen 0x40000000200 π) (v : Nat) (s : State) :
    π (msixGapEndOp v s) = π s := by
  dsimp only [msixGapEndOp]
  repeat' first
    | with_reducible rfl
    | with_reducible refine (State.setVec_only (hU.mono (by decide)) _ _ _).trans ?_
    | with_reducible refine (hU.signal (by decide) _ _).trans ?_
    | with_reducible refine Unseen.ite ?_ ?_
    | split

theorem msixUnmaskOp_only {β : Type} {π : State → β} (hU : Unseen 0x40000000200 π) (v : Nat) (s : State) :
    π (msixUnmaskOp v s) = π s := by
  dsimp only [msixUnmaskOp]
  repeat' first
    | with_reducible rfl
    | with_reducible refine (hU.signal (by decide) _ _).trans ?_
    | with_reducible refine (hU.wrO (by first | decide | (simp only [wrOk, faultOk, tallyOk, bumpOk, commitOk, List.all_cons, List.all_nil, Bool.and_true, Reg.MSIX_MASK_blk, Reg.MSIX_PENDING_blk, Reg.MSIX_PENDING_off] <;> decide) | (split <;> decide) | (split <;> simp only [wrOk, faultOk, tallyOk, bumpOk, commitOk, List.all_cons, List.all_nil, Bool.and_true, Reg.MSIX_MASK_blk, Reg.MSIX_PENDING_blk, Reg.MSIX_PENDING_off] <;> decide)) _ _).trans ?_
    | with_reducible refine Unseen.ite ?_ ?_
    | split

theorem ringCommitOp_only {β : Type} {π : State → β} (hU : Unseen 0x40008000218 π) (s : State) :
    π (ringCommitOp s) = π s := by
  dsimp only [ringCommitOp]
  repeat' first
    | with_reducible rfl
    | with_reducible refine (State.setRing_only (hU.mono (by decide)) _ _ _).trans ?_
    | with_reducible refine (State.showRing_only (hU.mono (by decide)) _ _).trans ?_
    | with_reducible refine (State.raiseLimit_only (hU.mono (by decide)) _ _).trans ?_
    | with_reducible refine (hU.commit (by first | decide | (simp only [wrOk, faultOk, tallyOk, bumpOk, commitOk, List.all_cons, List.all_nil, Bool.and_true, ringGroup, Reg.HRE_RING_BASE_ADDR_blk, Reg.HRE_RING_CFG_BIND_blk, Reg.HRE_RING_CFG_ENABLE_blk, Reg.HRE_RING_CFG_SIZE_LOG2_blk, Reg.HRE_RING_CFG_TYPE_blk, Reg.HRE_RING_CFG_VECTOR_blk, Reg.HRE_RING_COMMIT_RESULT_blk, Reg.HRE_RING_CREDIT_ALLOT_blk, Reg.HRE_RING_IRQ_COAL_COUNT_blk, Reg.HRE_RING_IRQ_COAL_TIME_blk, Reg.HRE_RING_UNFETCHED_blk, Reg.HRE_RING_BASE_ADDR_off, Reg.HRE_RING_CFG_BIND_off, Reg.HRE_RING_CFG_ENABLE_off, Reg.HRE_RING_CFG_SIZE_LOG2_off, Reg.HRE_RING_CFG_TYPE_off, Reg.HRE_RING_CFG_VECTOR_off, Reg.HRE_RING_COMMIT_RESULT_off, Reg.HRE_RING_CREDIT_ALLOT_off, Reg.HRE_RING_IRQ_COAL_COUNT_off, Reg.HRE_RING_IRQ_COAL_TIME_off, Reg.HRE_RING_UNFETCHED_off] <;> decide) | (split <;> decide) | (split <;> simp only [wrOk, faultOk, tallyOk, bumpOk, commitOk, List.all_cons, List.all_nil, Bool.and_true, ringGroup, Reg.HRE_RING_BASE_ADDR_blk, Reg.HRE_RING_CFG_BIND_blk, Reg.HRE_RING_CFG_ENABLE_blk, Reg.HRE_RING_CFG_SIZE_LOG2_blk, Reg.HRE_RING_CFG_TYPE_blk, Reg.HRE_RING_CFG_VECTOR_blk, Reg.HRE_RING_COMMIT_RESULT_blk, Reg.HRE_RING_CREDIT_ALLOT_blk, Reg.HRE_RING_IRQ_COAL_COUNT_blk, Reg.HRE_RING_IRQ_COAL_TIME_blk, Reg.HRE_RING_UNFETCHED_blk, Reg.HRE_RING_BASE_ADDR_off, Reg.HRE_RING_CFG_BIND_off, Reg.HRE_RING_CFG_ENABLE_off, Reg.HRE_RING_CFG_SIZE_LOG2_off, Reg.HRE_RING_CFG_TYPE_off, Reg.HRE_RING_CFG_VECTOR_off, Reg.HRE_RING_COMMIT_RESULT_off, Reg.HRE_RING_CREDIT_ALLOT_off, Reg.HRE_RING_IRQ_COAL_COUNT_off, Reg.HRE_RING_IRQ_COAL_TIME_off, Reg.HRE_RING_UNFETCHED_off] <;> decide) | (simp only [ringGroup]; split <;> decide)) _ _).trans ?_
    | with_reducible refine (hU.wrapBy (by first | decide | (simp only [wrOk, faultOk, tallyOk, bumpOk, commitOk, List.all_cons, List.all_nil, Bool.and_true, ringGroup, Reg.HRE_RING_BASE_ADDR_blk, Reg.HRE_RING_CFG_BIND_blk, Reg.HRE_RING_CFG_ENABLE_blk, Reg.HRE_RING_CFG_SIZE_LOG2_blk, Reg.HRE_RING_CFG_TYPE_blk, Reg.HRE_RING_CFG_VECTOR_blk, Reg.HRE_RING_COMMIT_RESULT_blk, Reg.HRE_RING_CREDIT_ALLOT_blk, Reg.HRE_RING_IRQ_COAL_COUNT_blk, Reg.HRE_RING_IRQ_COAL_TIME_blk, Reg.HRE_RING_UNFETCHED_blk, Reg.HRE_RING_BASE_ADDR_off, Reg.HRE_RING_CFG_BIND_off, Reg.HRE_RING_CFG_ENABLE_off, Reg.HRE_RING_CFG_SIZE_LOG2_off, Reg.HRE_RING_CFG_TYPE_off, Reg.HRE_RING_CFG_VECTOR_off, Reg.HRE_RING_COMMIT_RESULT_off, Reg.HRE_RING_CREDIT_ALLOT_off, Reg.HRE_RING_IRQ_COAL_COUNT_off, Reg.HRE_RING_IRQ_COAL_TIME_off, Reg.HRE_RING_UNFETCHED_off] <;> decide) | (split <;> decide) | (split <;> simp only [wrOk, faultOk, tallyOk, bumpOk, commitOk, List.all_cons, List.all_nil, Bool.and_true, ringGroup, Reg.HRE_RING_BASE_ADDR_blk, Reg.HRE_RING_CFG_BIND_blk, Reg.HRE_RING_CFG_ENABLE_blk, Reg.HRE_RING_CFG_SIZE_LOG2_blk, Reg.HRE_RING_CFG_TYPE_blk, Reg.HRE_RING_CFG_VECTOR_blk, Reg.HRE_RING_COMMIT_RESULT_blk, Reg.HRE_RING_CREDIT_ALLOT_blk, Reg.HRE_RING_IRQ_COAL_COUNT_blk, Reg.HRE_RING_IRQ_COAL_TIME_blk, Reg.HRE_RING_UNFETCHED_blk, Reg.HRE_RING_BASE_ADDR_off, Reg.HRE_RING_CFG_BIND_off, Reg.HRE_RING_CFG_ENABLE_off, Reg.HRE_RING_CFG_SIZE_LOG2_off, Reg.HRE_RING_CFG_TYPE_off, Reg.HRE_RING_CFG_VECTOR_off, Reg.HRE_RING_COMMIT_RESULT_off, Reg.HRE_RING_CREDIT_ALLOT_off, Reg.HRE_RING_IRQ_COAL_COUNT_off, Reg.HRE_RING_IRQ_COAL_TIME_off, Reg.HRE_RING_UNFETCHED_off] <;> decide) | (simp only [ringGroup]; split <;> decide)) _ _).trans ?_
    | with_reducible refine (hU.wrO (by first | decide | (simp only [wrOk, faultOk, tallyOk, bumpOk, commitOk, List.all_cons, List.all_nil, Bool.and_true, ringGroup, Reg.HRE_RING_BASE_ADDR_blk, Reg.HRE_RING_CFG_BIND_blk, Reg.HRE_RING_CFG_ENABLE_blk, Reg.HRE_RING_CFG_SIZE_LOG2_blk, Reg.HRE_RING_CFG_TYPE_blk, Reg.HRE_RING_CFG_VECTOR_blk, Reg.HRE_RING_COMMIT_RESULT_blk, Reg.HRE_RING_CREDIT_ALLOT_blk, Reg.HRE_RING_IRQ_COAL_COUNT_blk, Reg.HRE_RING_IRQ_COAL_TIME_blk, Reg.HRE_RING_UNFETCHED_blk, Reg.HRE_RING_BASE_ADDR_off, Reg.HRE_RING_CFG_BIND_off, Reg.HRE_RING_CFG_ENABLE_off, Reg.HRE_RING_CFG_SIZE_LOG2_off, Reg.HRE_RING_CFG_TYPE_off, Reg.HRE_RING_CFG_VECTOR_off, Reg.HRE_RING_COMMIT_RESULT_off, Reg.HRE_RING_CREDIT_ALLOT_off, Reg.HRE_RING_IRQ_COAL_COUNT_off, Reg.HRE_RING_IRQ_COAL_TIME_off, Reg.HRE_RING_UNFETCHED_off] <;> decide) | (split <;> decide) | (split <;> simp only [wrOk, faultOk, tallyOk, bumpOk, commitOk, List.all_cons, List.all_nil, Bool.and_true, ringGroup, Reg.HRE_RING_BASE_ADDR_blk, Reg.HRE_RING_CFG_BIND_blk, Reg.HRE_RING_CFG_ENABLE_blk, Reg.HRE_RING_CFG_SIZE_LOG2_blk, Reg.HRE_RING_CFG_TYPE_blk, Reg.HRE_RING_CFG_VECTOR_blk, Reg.HRE_RING_COMMIT_RESULT_blk, Reg.HRE_RING_CREDIT_ALLOT_blk, Reg.HRE_RING_IRQ_COAL_COUNT_blk, Reg.HRE_RING_IRQ_COAL_TIME_blk, Reg.HRE_RING_UNFETCHED_blk, Reg.HRE_RING_BASE_ADDR_off, Reg.HRE_RING_CFG_BIND_off, Reg.HRE_RING_CFG_ENABLE_off, Reg.HRE_RING_CFG_SIZE_LOG2_off, Reg.HRE_RING_CFG_TYPE_off, Reg.HRE_RING_CFG_VECTOR_off, Reg.HRE_RING_COMMIT_RESULT_off, Reg.HRE_RING_CREDIT_ALLOT_off, Reg.HRE_RING_IRQ_COAL_COUNT_off, Reg.HRE_RING_IRQ_COAL_TIME_off, Reg.HRE_RING_UNFETCHED_off] <;> decide) | (simp only [ringGroup]; split <;> decide)) _ _).trans ?_
    | with_reducible refine (hU.setPending (by first | decide | (simp only [wrOk, faultOk, tallyOk, bumpOk, commitOk, List.all_cons, List.all_nil, Bool.and_true, ringGroup, Reg.HRE_RING_BASE_ADDR_blk, Reg.HRE_RING_CFG_BIND_blk, Reg.HRE_RING_CFG_ENABLE_blk, Reg.HRE_RING_CFG_SIZE_LOG2_blk, Reg.HRE_RING_CFG_TYPE_blk, Reg.HRE_RING_CFG_VECTOR_blk, Reg.HRE_RING_COMMIT_RESULT_blk, Reg.HRE_RING_CREDIT_ALLOT_blk, Reg.HRE_RING_IRQ_COAL_COUNT_blk, Reg.HRE_RING_IRQ_COAL_TIME_blk, Reg.HRE_RING_UNFETCHED_blk, Reg.HRE_RING_BASE_ADDR_off, Reg.HRE_RING_CFG_BIND_off, Reg.HRE_RING_CFG_ENABLE_off, Reg.HRE_RING_CFG_SIZE_LOG2_off, Reg.HRE_RING_CFG_TYPE_off, Reg.HRE_RING_CFG_VECTOR_off, Reg.HRE_RING_COMMIT_RESULT_off, Reg.HRE_RING_CREDIT_ALLOT_off, Reg.HRE_RING_IRQ_COAL_COUNT_off, Reg.HRE_RING_IRQ_COAL_TIME_off, Reg.HRE_RING_UNFETCHED_off] <;> decide) | (split <;> decide) | (split <;> simp only [wrOk, faultOk, tallyOk, bumpOk, commitOk, List.all_cons, List.all_nil, Bool.and_true, ringGroup, Reg.HRE_RING_BASE_ADDR_blk, Reg.HRE_RING_CFG_BIND_blk, Reg.HRE_RING_CFG_ENABLE_blk, Reg.HRE_RING_CFG_SIZE_LOG2_blk, Reg.HRE_RING_CFG_TYPE_blk, Reg.HRE_RING_CFG_VECTOR_blk, Reg.HRE_RING_COMMIT_RESULT_blk, Reg.HRE_RING_CREDIT_ALLOT_blk, Reg.HRE_RING_IRQ_COAL_COUNT_blk, Reg.HRE_RING_IRQ_COAL_TIME_blk, Reg.HRE_RING_UNFETCHED_blk, Reg.HRE_RING_BASE_ADDR_off, Reg.HRE_RING_CFG_BIND_off, Reg.HRE_RING_CFG_ENABLE_off, Reg.HRE_RING_CFG_SIZE_LOG2_off, Reg.HRE_RING_CFG_TYPE_off, Reg.HRE_RING_CFG_VECTOR_off, Reg.HRE_RING_COMMIT_RESULT_off, Reg.HRE_RING_CREDIT_ALLOT_off, Reg.HRE_RING_IRQ_COAL_COUNT_off, Reg.HRE_RING_IRQ_COAL_TIME_off, Reg.HRE_RING_UNFETCHED_off] <;> decide) | (simp only [ringGroup]; split <;> decide)) _).trans ?_
    | with_reducible refine Unseen.ite ?_ ?_
    | split

theorem ringDrainDoneOp_only {β : Type} {π : State → β} (hU : Unseen 0x40008000238 π) (n : Nat) (s : State) :
    π (ringDrainDoneOp n s) = π s := by
  dsimp only [ringDrainDoneOp]
  repeat' first
    | with_reducible rfl
    | with_reducible refine (State.setRing_only (hU.mono (by decide)) _ _ _).trans ?_
    | with_reducible refine (State.loseEvents_only (hU.mono (by decide)) _ _ _).trans ?_
    | with_reducible refine (hU.endPending (by first | decide | (simp only [wrOk, faultOk, tallyOk, bumpOk, commitOk, List.all_cons, List.all_nil, Bool.and_true, ringGroup, Reg.HRE_RING_BASE_ADDR_blk, Reg.HRE_RING_CFG_BIND_blk, Reg.HRE_RING_CFG_ENABLE_blk, Reg.HRE_RING_CFG_SIZE_LOG2_blk, Reg.HRE_RING_CFG_TYPE_blk, Reg.HRE_RING_CFG_VECTOR_blk, Reg.HRE_RING_COMMIT_RESULT_blk, Reg.HRE_RING_CREDIT_ALLOT_blk, Reg.HRE_RING_IRQ_COAL_COUNT_blk, Reg.HRE_RING_IRQ_COAL_TIME_blk, Reg.HRE_RING_BASE_ADDR_off, Reg.HRE_RING_CFG_BIND_off, Reg.HRE_RING_CFG_ENABLE_off, Reg.HRE_RING_CFG_SIZE_LOG2_off, Reg.HRE_RING_CFG_TYPE_off, Reg.HRE_RING_CFG_VECTOR_off, Reg.HRE_RING_COMMIT_RESULT_off, Reg.HRE_RING_CREDIT_ALLOT_off, Reg.HRE_RING_IRQ_COAL_COUNT_off, Reg.HRE_RING_IRQ_COAL_TIME_off] <;> decide) | (split <;> decide) | (split <;> simp only [wrOk, faultOk, tallyOk, bumpOk, commitOk, List.all_cons, List.all_nil, Bool.and_true, ringGroup, Reg.HRE_RING_BASE_ADDR_blk, Reg.HRE_RING_CFG_BIND_blk, Reg.HRE_RING_CFG_ENABLE_blk, Reg.HRE_RING_CFG_SIZE_LOG2_blk, Reg.HRE_RING_CFG_TYPE_blk, Reg.HRE_RING_CFG_VECTOR_blk, Reg.HRE_RING_COMMIT_RESULT_blk, Reg.HRE_RING_CREDIT_ALLOT_blk, Reg.HRE_RING_IRQ_COAL_COUNT_blk, Reg.HRE_RING_IRQ_COAL_TIME_blk, Reg.HRE_RING_BASE_ADDR_off, Reg.HRE_RING_CFG_BIND_off, Reg.HRE_RING_CFG_ENABLE_off, Reg.HRE_RING_CFG_SIZE_LOG2_off, Reg.HRE_RING_CFG_TYPE_off, Reg.HRE_RING_CFG_VECTOR_off, Reg.HRE_RING_COMMIT_RESULT_off, Reg.HRE_RING_CREDIT_ALLOT_off, Reg.HRE_RING_IRQ_COAL_COUNT_off, Reg.HRE_RING_IRQ_COAL_TIME_off] <;> decide) | (simp only [ringGroup]; split <;> decide)) _ _).trans ?_
    | with_reducible refine Unseen.ite ?_ ?_
    | split

theorem State.closeRing_only {β : Type} {π : State → β} (hU : Unseen 0x40008000238 π) (s : State) (n : Nat) :
    π (State.closeRing s n) = π s := by
  dsimp only [State.closeRing]
  repeat' first
    | with_reducible rfl
    | with_reducible refine (State.setRing_only (hU.mono (by decide)) _ _ _).trans ?_
    | with_reducible refine (State.loseEvents_only (hU.mono (by decide)) _ _ _).trans ?_
    | with_reducible refine (hU.wrO (by first | decide | (simp only [wrOk, faultOk, tallyOk, bumpOk, commitOk, List.all_cons, List.all_nil, Bool.and_true, Reg.HRE_RING_CFG_ENABLE_blk, Reg.HRE_RING_COMMIT_RESULT_blk, Reg.HRE_RING_CFG_ENABLE_off, Reg.HRE_RING_COMMIT_RESULT_off] <;> decide) | (split <;> decide) | (split <;> simp only [wrOk, faultOk, tallyOk, bumpOk, commitOk, List.all_cons, List.all_nil, Bool.and_true, Reg.HRE_RING_CFG_ENABLE_blk, Reg.HRE_RING_COMMIT_RESULT_blk, Reg.HRE_RING_CFG_ENABLE_off, Reg.HRE_RING_COMMIT_RESULT_off] <;> decide)) _ _).trans ?_
    | with_reducible refine (hU.endPending (by first | decide | (simp only [wrOk, faultOk, tallyOk, bumpOk, commitOk, List.all_cons, List.all_nil, Bool.and_true, Reg.HRE_RING_CFG_ENABLE_blk, Reg.HRE_RING_COMMIT_RESULT_blk, Reg.HRE_RING_CFG_ENABLE_off, Reg.HRE_RING_COMMIT_RESULT_off] <;> decide) | (split <;> decide) | (split <;> simp only [wrOk, faultOk, tallyOk, bumpOk, commitOk, List.all_cons, List.all_nil, Bool.and_true, Reg.HRE_RING_CFG_ENABLE_blk, Reg.HRE_RING_COMMIT_RESULT_blk, Reg.HRE_RING_CFG_ENABLE_off, Reg.HRE_RING_COMMIT_RESULT_off] <;> decide)) _ _).trans ?_
    | fail_if_no_progress with_reducible refine (hU.hre (by decide) _ _).trans ?_
    | with_reducible refine Unseen.ite ?_ ?_
    | intro _
    | split

theorem State.endSession_only {β : Type} {π : State → β} (hU : Unseen 0x800000040008000238 π) (s : State) :
    π (State.endSession s) = π s := by
  dsimp only [State.endSession]
  repeat' first
    | with_reducible rfl
    | with_reducible refine (State.closeRing_only (hU.mono (by decide)) _ _).trans ?_
    | with_reducible refine (hU.wrapBy (by first | decide | (simp only [wrOk, faultOk, tallyOk, bumpOk, commitOk, List.all_cons, List.all_nil, Bool.and_true] <;> decide) | (split <;> decide) | (split <;> simp only [wrOk, faultOk, tallyOk, bumpOk, commitOk, List.all_cons, List.all_nil, Bool.and_true] <;> decide)) _ _).trans ?_
    | with_reducible refine (hU.wrO (by first | decide | (simp only [wrOk, faultOk, tallyOk, bumpOk, commitOk, List.all_cons, List.all_nil, Bool.and_true] <;> decide) | (split <;> decide) | (split <;> simp only [wrOk, faultOk, tallyOk, bumpOk, commitOk, List.all_cons, List.all_nil, Bool.and_true] <;> decide)) _ _).trans ?_
    | with_reducible refine (hU.fault (by first | decide | (simp only [wrOk, faultOk, tallyOk, bumpOk, commitOk, List.all_cons, List.all_nil, Bool.and_true] <;> decide) | (split <;> decide) | (split <;> simp only [wrOk, faultOk, tallyOk, bumpOk, commitOk, List.all_cons, List.all_nil, Bool.and_true] <;> decide)) _).trans ?_
    | fail_if_no_progress with_reducible refine (hU.hre (by decide) _ _).trans ?_
    | with_reducible refine Unseen.ite ?_ ?_
    | with_reducible refine (Unseen.foldl _ ?_ _ _).trans ?_
    | intro _
    | split

theorem claimWrite_only {β : Type} {π : State → β} (hU : Unseen 0x80a0108c008a300ef8 π) (v : Nat) (bme : Bool) (s : State) :
    π (claimWrite v bme s) = π s := by
  dsimp only [claimWrite]
  repeat' first
    | with_reducible rfl
    | with_reducible refine (State.endSession_only (hU.mono (by decide)) _).trans ?_
    | with_reducible refine (State.enterMode_only (hU.mono (by decide)) _ _).trans ?_
    | with_reducible refine (State.refuseArm_only (hU.mono (by decide)) _).trans ?_
    | with_reducible refine (hU.wrO (by first | decide | (simp only [wrOk, faultOk, tallyOk, bumpOk, commitOk, List.all_cons, List.all_nil, Bool.and_true] <;> decide) | (split <;> decide) | (split <;> simp only [wrOk, faultOk, tallyOk, bumpOk, commitOk, List.all_cons, List.all_nil, Bool.and_true] <;> decide)) _ _).trans ?_
    | fail_if_no_progress with_reducible refine (hU.hre (by decide) _ _).trans ?_
    | with_reducible refine Unseen.ite ?_ ?_
    | intro _
    | split

theorem hostCommitOp_only {β : Type} {π : State → β} (hU : Unseen 0x40008000208 π) (s : State) :
    π (hostCommitOp s) = π s := by
  dsimp only [hostCommitOp]
  repeat' first
    | with_reducible rfl
    | with_reducible refine (hU.commit (by first | decide | (simp only [wrOk, faultOk, tallyOk, bumpOk, commitOk, List.all_cons, List.all_nil, Bool.and_true] <;> decide) | (split <;> decide) | (split <;> simp only [wrOk, faultOk, tallyOk, bumpOk, commitOk, List.all_cons, List.all_nil, Bool.and_true] <;> decide)) _ _).trans ?_
    | fail_if_no_progress with_reducible refine (hU.hre (by decide) _ _).trans ?_
    | with_reducible refine Unseen.ite ?_ ?_
    | intro _
    | split

theorem State.loseHost_only {β : Type} {π : State → β} (hU : Unseen 0x40000000220 π) (s : State) :
    π (State.loseHost s) = π s := by
  dsimp only [State.loseHost]
  repeat' first
    | with_reducible rfl
    | with_reducible refine (hU.fault (by first | decide | (simp only [wrOk, faultOk, tallyOk, bumpOk, commitOk, List.all_cons, List.all_nil, Bool.and_true] <;> decide) | (split <;> decide) | (split <;> simp only [wrOk, faultOk, tallyOk, bumpOk, commitOk, List.all_cons, List.all_nil, Bool.and_true] <;> decide)) _).trans ?_
    | with_reducible refine (hU.wrO (by first | decide | (simp only [wrOk, faultOk, tallyOk, bumpOk, commitOk, List.all_cons, List.all_nil, Bool.and_true] <;> decide) | (split <;> decide) | (split <;> simp only [wrOk, faultOk, tallyOk, bumpOk, commitOk, List.all_cons, List.all_nil, Bool.and_true] <;> decide)) _ _).trans ?_
    | fail_if_no_progress with_reducible refine (hU.hre (by decide) _ _).trans ?_
    | with_reducible refine Unseen.ite ?_ ?_
    | split

theorem hostAliveTimeoutOp_only {β : Type} {π : State → β} (hU : Unseen 0x40000000220 π) (s : State) :
    π (hostAliveTimeoutOp s) = π s := by
  dsimp only [hostAliveTimeoutOp]
  repeat' first
    | with_reducible rfl
    | with_reducible refine (State.loseHost_only (hU.mono (by decide)) _).trans ?_
    | with_reducible refine Unseen.ite ?_ ?_
    | split

theorem linkL0LossOp_only {β : Type} {π : State → β} (hU : Unseen 0x40000000220 π) (long : Bool) (s : State) :
    π (linkL0LossOp long s) = π s := by
  dsimp only [linkL0LossOp]
  repeat' first
    | with_reducible rfl
    | with_reducible refine (State.loseHost_only (hU.mono (by decide)) _).trans ?_
    | with_reducible refine (hU.fault (by first | decide | (simp only [wrOk, faultOk, tallyOk, bumpOk, commitOk, List.all_cons, List.all_nil, Bool.and_true] <;> decide) | (split <;> decide) | (split <;> simp only [wrOk, faultOk, tallyOk, bumpOk, commitOk, List.all_cons, List.all_nil, Bool.and_true] <;> decide)) _).trans ?_
    | with_reducible refine (hU.wrO (by first | decide | (simp only [wrOk, faultOk, tallyOk, bumpOk, commitOk, List.all_cons, List.all_nil, Bool.and_true] <;> decide) | (split <;> decide) | (split <;> simp only [wrOk, faultOk, tallyOk, bumpOk, commitOk, List.all_cons, List.all_nil, Bool.and_true] <;> decide)) _ _).trans ?_
    | with_reducible refine Unseen.ite ?_ ?_
    | split

theorem busMasterClearOp_only {β : Type} {π : State → β} (hU : Unseen 0x40000000220 π) (s : State) :
    π (busMasterClearOp s) = π s := by
  dsimp only [busMasterClearOp]
  repeat' first
    | with_reducible rfl
    | with_reducible refine (State.loseHost_only (hU.mono (by decide)) _).trans ?_
    | fail_if_no_progress with_reducible refine (hU.hre (by decide) _ _).trans ?_

theorem d3hotEntryOp_only {β : Type} {π : State → β} (hU : Unseen 0x40000000220 π) (s : State) :
    π (d3hotEntryOp s) = π s := by
  dsimp only [d3hotEntryOp]
  repeat' first
    | with_reducible rfl
    | with_reducible refine (State.loseHost_only (hU.mono (by decide)) _).trans ?_
    | fail_if_no_progress with_reducible refine (hU.hre (by decide) _ _).trans ?_

theorem State.flushEvents_only {β : Type} {π : State → β} (hU : Unseen 0x40000000200 π) (s : State) (n : Nat) :
    π (State.flushEvents s n) = π s := by
  dsimp only [State.flushEvents]
  repeat' first
    | with_reducible rfl
    | with_reducible refine (State.putEntry_only (hU.mono (by decide)) _ _ _).trans ?_
    | with_reducible refine (State.setRing_only (hU.mono (by decide)) _ _ _).trans ?_
    | with_reducible refine (Unseen.foldl _ ?_ _ _).trans ?_
    | intro _

theorem State.flushCompletions_only {β : Type} {π : State → β} (hU : Unseen 0x40000000200 π) (s : State) (n : Nat) :
    π (State.flushCompletions s n) = π s := by
  dsimp only [State.flushCompletions]
  repeat' first
    | with_reducible rfl
    | with_reducible refine (completionWriteOp_only (hU.mono (by decide)) _ _ _).trans ?_
    | with_reducible refine (Unseen.foldl _ ?_ _ _).trans ?_
    | intro _

theorem State.resumeVec_only {β : Type} {π : State → β} (hU : Unseen 0x40000000200 π) (s : State) (v : Nat) :
    π (State.resumeVec s v) = π s := by
  dsimp only [State.resumeVec]
  repeat' first
    | with_reducible rfl
    | with_reducible refine (State.setVec_only (hU.mono (by decide)) _ _ _).trans ?_
    | with_reducible refine (hU.signal (by decide) _ _).trans ?_
    | with_reducible refine Unseen.ite ?_ ?_
    | split

theorem hostWriteResumeOp_only {β : Type} {π : State → β} (hU : Unseen 0x40000000200 π) (s : State) :
    π (hostWriteResumeOp s) = π s := by
  dsimp only [hostWriteResumeOp]
  repeat' first
    | with_reducible rfl
    | with_reducible refine (State.flushEvents_only (hU.mono (by decide)) _ _).trans ?_
    | with_reducible refine (State.showRing_only (hU.mono (by decide)) _ _).trans ?_
    | with_reducible refine (completionWriteOp_only (hU.mono (by decide)) _ _ _).trans ?_
    | with_reducible refine (State.resumeVec_only (hU.mono (by decide)) _ _).trans ?_
    | with_reducible refine (hU.wrO (by first | decide | (simp only [wrOk, faultOk, tallyOk, bumpOk, commitOk, List.all_cons, List.all_nil, Bool.and_true] <;> decide) | (split <;> decide) | (split <;> simp only [wrOk, faultOk, tallyOk, bumpOk, commitOk, List.all_cons, List.all_nil, Bool.and_true] <;> decide)) _ _).trans ?_
    | fail_if_no_progress with_reducible refine (hU.hre (by decide) _ _).trans ?_
    | with_reducible refine Unseen.ite ?_ ?_
    | with_reducible refine (Unseen.foldl _ ?_ _ _).trans ?_
    | intro _
    | dsimp only
    | split

theorem perstAssertOp_only {β : Type} {π : State → β} (hU : Unseen 0x80000004000800023c π) (s : State) :
    π (perstAssertOp s) = π s := by
  dsimp only [perstAssertOp]
  repeat' first
    | with_reducible rfl
    | with_reducible refine (State.endSession_only (hU.mono (by decide)) _).trans ?_
    | with_reducible refine (hU.wrapBy (by first | decide | (simp only [wrOk, faultOk, tallyOk, bumpOk, commitOk, List.all_cons, List.all_nil, Bool.and_true] <;> decide) | (split <;> decide) | (split <;> simp only [wrOk, faultOk, tallyOk, bumpOk, commitOk, List.all_cons, List.all_nil, Bool.and_true] <;> decide)) _ _).trans ?_
    | with_reducible refine (hU.fault (by first | decide | (simp only [wrOk, faultOk, tallyOk, bumpOk, commitOk, List.all_cons, List.all_nil, Bool.and_true] <;> decide) | (split <;> decide) | (split <;> simp only [wrOk, faultOk, tallyOk, bumpOk, commitOk, List.all_cons, List.all_nil, Bool.and_true] <;> decide)) _).trans ?_
    | with_reducible refine (hU.wrO (by first | decide | (simp only [wrOk, faultOk, tallyOk, bumpOk, commitOk, List.all_cons, List.all_nil, Bool.and_true] <;> decide) | (split <;> decide) | (split <;> simp only [wrOk, faultOk, tallyOk, bumpOk, commitOk, List.all_cons, List.all_nil, Bool.and_true] <;> decide)) _ _).trans ?_
    | fail_if_no_progress with_reducible refine (hU.fld_cmt (by decide) (by decide) _ _ _).trans ?_
    | fail_if_no_progress with_reducible refine (hU.shd_cmt (by decide) (by decide) _ _ _).trans ?_
    | fail_if_no_progress with_reducible refine (hU.cmt_hre (by decide) (by decide) _ _ _).trans ?_
    | fail_if_no_progress with_reducible refine (hU.fld_shd (by decide) (by decide) _ _ _).trans ?_
    | fail_if_no_progress with_reducible refine (hU.fld_hre (by decide) (by decide) _ _ _).trans ?_
    | fail_if_no_progress with_reducible refine (hU.shd_hre (by decide) (by decide) _ _ _).trans ?_
    | fail_if_no_progress with_reducible refine (hU.fld_shd_hre (by decide) (by decide) (by decide) _ _ _ _).trans ?_
    | fail_if_no_progress with_reducible refine (hU.shd_cmt_hre (by decide) (by decide) (by decide) _ _ _ _).trans ?_
    | fail_if_no_progress with_reducible refine (hU.fld_shd_cmt (by decide) (by decide) (by decide) _ _ _ _).trans ?_
    | fail_if_no_progress with_reducible refine (hU.fld_cmt_hre (by decide) (by decide) (by decide) _ _ _ _).trans ?_
    | fail_if_no_progress with_reducible refine (hU.fld_shd_cmt_hre (by decide) (by decide) (by decide) (by decide) _ _ _ _ _).trans ?_
    | with_reducible refine Unseen.ite ?_ ?_
    | intro _
    | dsimp only
    | split

theorem pcieLinkUpOp_only {β : Type} {π : State → β} (hU : Unseen 0x40000000200 π) (speed : Nat) (width : Nat) (s : State) :
    π (pcieLinkUpOp speed width s) = π s := by
  dsimp only [pcieLinkUpOp]
  repeat' first
    | with_reducible rfl
    | with_reducible refine (hU.wrO (by first | decide | (simp only [wrOk, faultOk, tallyOk, bumpOk, commitOk, List.all_cons, List.all_nil, Bool.and_true] <;> decide) | (split <;> decide) | (split <;> simp only [wrOk, faultOk, tallyOk, bumpOk, commitOk, List.all_cons, List.all_nil, Bool.and_true] <;> decide)) _ _).trans ?_
    | fail_if_no_progress with_reducible refine (hU.hre (by decide) _ _).trans ?_
    | with_reducible refine Unseen.ite ?_ ?_
    | split

theorem pcieWakeReleaseOp_only {β : Type} {π : State → β} (hU : Unseen 0x200 π) (s : State) :
    π (pcieWakeReleaseOp s) = π s := by
  dsimp only [pcieWakeReleaseOp]
  repeat' first
    | with_reducible rfl
    | fail_if_no_progress with_reducible refine (hU.hre (by decide) _ _).trans ?_

theorem hostAdmissionOpenOp_only {β : Type} {π : State → β} (hU : Unseen 0x20000000200 π) (s : State) :
    π (hostAdmissionOpenOp s) = π s := by
  dsimp only [hostAdmissionOpenOp]
  repeat' first
    | with_reducible rfl
    | fail_if_no_progress with_reducible refine (hU.hre (by decide) _ _).trans ?_
    | intro _

theorem attnKickOp_only {β : Type} {π : State → β} (hU : Unseen 0x200 π) (s : State) :
    π (attnKickOp s) = π s := by
  dsimp only [attnKickOp]
  repeat' first
    | with_reducible rfl
    | fail_if_no_progress with_reducible refine (hU.hre (by decide) _ _).trans ?_
    | with_reducible refine Unseen.ite ?_ ?_
    | split


/-! ## Timekeeper -/

theorem State.setTq_only {β : Type} {π : State → β} (hU : Unseen 0x200000000000020 π) (s : State) (q : Nat) :
    π (State.setTq s q) = π s := by
  dsimp only [State.setTq]
  repeat' first
    | with_reducible rfl
    | with_reducible refine (hU.fault (by first | decide | (simp only [wrOk, faultOk, tallyOk, bumpOk, commitOk, List.all_cons, List.all_nil, Bool.and_true] <;> decide) | (split <;> decide) | (split <;> simp only [wrOk, faultOk, tallyOk, bumpOk, commitOk, List.all_cons, List.all_nil, Bool.and_true] <;> decide)) _).trans ?_
    | with_reducible refine (hU.wrO (by first | decide | (simp only [wrOk, faultOk, tallyOk, bumpOk, commitOk, List.all_cons, List.all_nil, Bool.and_true] <;> decide) | (split <;> decide) | (split <;> simp only [wrOk, faultOk, tallyOk, bumpOk, commitOk, List.all_cons, List.all_nil, Bool.and_true] <;> decide)) _ _).trans ?_
    | with_reducible refine Unseen.ite ?_ ?_
    | split

theorem State.holdAt_only {β : Type} {π : State → β} (hU : Unseen 0x200000000000020 π) (s : State) (t : YTime) :
    π (State.holdAt s t) = π s := by
  dsimp only [State.holdAt]
  repeat' first
    | with_reducible rfl
    | with_reducible refine (State.setTq_only (hU.mono (by decide)) _ _).trans ?_
    | with_reducible refine (hU.wrO (by first | decide | (simp only [wrOk, faultOk, tallyOk, bumpOk, commitOk, List.all_cons, List.all_nil, Bool.and_true] <;> decide) | (split <;> decide) | (split <;> simp only [wrOk, faultOk, tallyOk, bumpOk, commitOk, List.all_cons, List.all_nil, Bool.and_true] <;> decide)) _ _).trans ?_
    | with_reducible refine Unseen.ite ?_ ?_
    | split

theorem State.reselect_only {β : Type} {π : State → β} (hU : Unseen 0x200080000001420 π) (s : State) :
    π (State.reselect s) = π s := by
  dsimp only [State.reselect]
  repeat' first
    | with_reducible rfl
    | with_reducible refine (State.setTq_only (hU.mono (by decide)) _ _).trans ?_
    | with_reducible refine (hU.bump (by first | decide | (simp only [wrOk, faultOk, tallyOk, bumpOk, commitOk, List.all_cons, List.all_nil, Bool.and_true] <;> decide) | (split <;> decide) | (split <;> simp only [wrOk, faultOk, tallyOk, bumpOk, commitOk, List.all_cons, List.all_nil, Bool.and_true] <;> decide)) _).trans ?_
    | with_reducible refine (hU.fault (by first | decide | (simp only [wrOk, faultOk, tallyOk, bumpOk, commitOk, List.all_cons, List.all_nil, Bool.and_true] <;> decide) | (split <;> decide) | (split <;> simp only [wrOk, faultOk, tallyOk, bumpOk, commitOk, List.all_cons, List.all_nil, Bool.and_true] <;> decide)) _).trans ?_
    | with_reducible refine (hU.wrO (by first | decide | (simp only [wrOk, faultOk, tallyOk, bumpOk, commitOk, List.all_cons, List.all_nil, Bool.and_true] <;> decide) | (split <;> decide) | (split <;> simp only [wrOk, faultOk, tallyOk, bumpOk, commitOk, List.all_cons, List.all_nil, Bool.and_true] <;> decide)) _ _).trans ?_
    | fail_if_no_progress with_reducible refine (hU.tim (by decide) _ _).trans ?_
    | with_reducible refine Unseen.ite ?_ ?_
    | split

theorem State.sendClock_only {β : Type} {π : State → β} (hU : Unseen 0x80000001420 π) (s : State) (k : Nat) (off : Int) (t : Nat) (preset : Bool) :
    π (State.sendClock s k off t preset) = π s := by
  dsimp only [State.sendClock]
  repeat' first
    | with_reducible rfl
    | with_reducible refine (State.send_only (hU.mono (by decide)) _ _ _ _).trans ?_
    | fail_if_no_progress with_reducible refine (hU.tim (by decide) _ _).trans ?_
    | with_reducible refine Unseen.ite ?_ ?_
    | split

theorem State.slewBy_only {β : Type} {π : State → β} (hU : Unseen 0x200000000001000 π) (s : State) (off : Int) :
    π (State.slewBy s off) = π s := by
  dsimp only [State.slewBy]
  repeat' first
    | with_reducible rfl
    | with_reducible refine (hU.wrO (by first | decide | (simp only [wrOk, faultOk, tallyOk, bumpOk, commitOk, List.all_cons, List.all_nil, Bool.and_true] <;> decide) | (split <;> decide) | (split <;> simp only [wrOk, faultOk, tallyOk, bumpOk, commitOk, List.all_cons, List.all_nil, Bool.and_true] <;> decide)) _ _).trans ?_
    | fail_if_no_progress with_reducible refine (hU.tim (by decide) _ _).trans ?_
    | with_reducible refine Unseen.ite ?_ ?_
    | split

theorem State.accepted_only {β : Type} {π : State → β} (hU : Unseen 0x200000000001020 π) (s : State) :
    π (State.accepted s) = π s := by
  dsimp only [State.accepted]
  repeat' first
    | with_reducible rfl
    | with_reducible refine (State.setTq_only (hU.mono (by decide)) _ _).trans ?_
    | with_reducible refine (hU.wrO (by first | decide | (simp only [wrOk, faultOk, tallyOk, bumpOk, commitOk, List.all_cons, List.all_nil, Bool.and_true] <;> decide) | (split <;> decide) | (split <;> simp only [wrOk, faultOk, tallyOk, bumpOk, commitOk, List.all_cons, List.all_nil, Bool.and_true] <;> decide)) _ _).trans ?_
    | fail_if_no_progress with_reducible refine (hU.tim (by decide) _ _).trans ?_

theorem State.trackStep_only {β : Type} {π : State → β} (hU : Unseen 0x1000 π) (s : State) (v : Int) :
    π (State.trackStep s v) = π s := by
  dsimp only [State.trackStep]
  repeat' first
    | with_reducible rfl
    | fail_if_no_progress with_reducible refine (hU.tim (by decide) _ _).trans ?_
    | with_reducible refine Unseen.ite ?_ ?_
    | dsimp only
    | split

theorem State.stepTime_only {β : Type} {π : State → β} (hU : Unseen 0x202080020001420 π) (s : State) (off : Int) :
    π (State.stepTime s off) = π s := by
  dsimp only [State.stepTime]
  repeat' first
    | with_reducible rfl
    | with_reducible refine (hU.wrapBy (by first | decide | (simp only [wrOk, faultOk, tallyOk, bumpOk, commitOk, List.all_cons, List.all_nil, Bool.and_true] <;> decide) | (split <;> decide) | (split <;> simp only [wrOk, faultOk, tallyOk, bumpOk, commitOk, List.all_cons, List.all_nil, Bool.and_true] <;> decide)) _ _).trans ?_
    | with_reducible refine (hU.fault (by first | decide | (simp only [wrOk, faultOk, tallyOk, bumpOk, commitOk, List.all_cons, List.all_nil, Bool.and_true] <;> decide) | (split <;> decide) | (split <;> simp only [wrOk, faultOk, tallyOk, bumpOk, commitOk, List.all_cons, List.all_nil, Bool.and_true] <;> decide)) _).trans ?_
    | with_reducible refine (hU.wrO (by first | decide | (simp only [wrOk, faultOk, tallyOk, bumpOk, commitOk, List.all_cons, List.all_nil, Bool.and_true] <;> decide) | (split <;> decide) | (split <;> simp only [wrOk, faultOk, tallyOk, bumpOk, commitOk, List.all_cons, List.all_nil, Bool.and_true] <;> decide)) _ _).trans ?_
    | with_reducible refine (hU.tallyRecord (by decide) _ _ _ _ _ _).trans ?_
    | fail_if_no_progress with_reducible refine (hU.tim (by decide) _ _).trans ?_
    | fail_if_no_progress with_reducible refine (hU.tim_upd (by decide) (by decide) _ _ _).trans ?_
    | with_reducible refine Unseen.ite ?_ ?_
    | intro _
    | dsimp only
    | split

theorem State.plainInput_only {β : Type} {π : State → β} (hU : Unseen 0x200080000001420 π) (s : State) (k : Nat) (off : Int) (t : Nat) :
    π (State.plainInput s k off t) = π s := by
  dsimp only [State.plainInput]
  repeat' first
    | with_reducible rfl
    | with_reducible refine (State.sendClock_only (hU.mono (by decide)) _ _ _ _ _).trans ?_
    | with_reducible refine (State.setTq_only (hU.mono (by decide)) _ _).trans ?_
    | with_reducible refine (hU.wrO (by first | decide | (simp only [wrOk, faultOk, tallyOk, bumpOk, commitOk, List.all_cons, List.all_nil, Bool.and_true] <;> decide) | (split <;> decide) | (split <;> simp only [wrOk, faultOk, tallyOk, bumpOk, commitOk, List.all_cons, List.all_nil, Bool.and_true] <;> decide)) _ _).trans ?_
    | fail_if_no_progress with_reducible refine (hU.tim (by decide) _ _).trans ?_
    | with_reducible refine Unseen.ite ?_ ?_
    | split

theorem State.correct_only {β : Type} {π : State → β} (hU : Unseen 0x202080020001420 π) (s : State) (k : Nat) (off : Int) (t : Nat) :
    π (State.correct s k off t) = π s := by
  dsimp only [State.correct]
  repeat' first
    | with_reducible rfl
    | with_reducible refine (State.trackStep_only (hU.mono (by decide)) _ _).trans ?_
    | with_reducible refine (State.stepTime_only (hU.mono (by decide)) _ _).trans ?_
    | with_reducible refine (State.plainInput_only (hU.mono (by decide)) _ _ _ _).trans ?_
    | with_reducible refine (State.slewBy_only (hU.mono (by decide)) _ _).trans ?_
    | with_reducible refine (State.accepted_only (hU.mono (by decide)) _).trans ?_
    | with_reducible refine (hU.wrO (by first | decide | (simp only [wrOk, faultOk, tallyOk, bumpOk, commitOk, List.all_cons, List.all_nil, Bool.and_true] <;> decide) | (split <;> decide) | (split <;> simp only [wrOk, faultOk, tallyOk, bumpOk, commitOk, List.all_cons, List.all_nil, Bool.and_true] <;> decide)) _ _).trans ?_
    | with_reducible refine (hU.bump (by first | decide | (simp only [wrOk, faultOk, tallyOk, bumpOk, commitOk, List.all_cons, List.all_nil, Bool.and_true] <;> decide) | (split <;> decide) | (split <;> simp only [wrOk, faultOk, tallyOk, bumpOk, commitOk, List.all_cons, List.all_nil, Bool.and_true] <;> decide)) _).trans ?_
    | with_reducible refine (hU.fault (by first | decide | (simp only [wrOk, faultOk, tallyOk, bumpOk, commitOk, List.all_cons, List.all_nil, Bool.and_true] <;> decide) | (split <;> decide) | (split <;> simp only [wrOk, faultOk, tallyOk, bumpOk, commitOk, List.all_cons, List.all_nil, Bool.and_true] <;> decide)) _).trans ?_
    | fail_if_no_progress with_reducible refine (hU.tim (by decide) _ _).trans ?_
    | with_reducible refine Unseen.ite ?_ ?_
    | split

theorem State.sourceInput_only {β : Type} {π : State → β} (hU : Unseen 0x202080020001420 π) (s : State) (k : Nat) (off : Int) (t : Nat) :
    π (State.sourceInput s k off t) = π s := by
  dsimp only [State.sourceInput]
  repeat' first
    | with_reducible rfl
    | with_reducible refine (State.trackStep_only (hU.mono (by decide)) _ _).trans ?_
    | with_reducible refine (State.sendClock_only (hU.mono (by decide)) _ _ _ _ _).trans ?_
    | with_reducible refine (State.plainInput_only (hU.mono (by decide)) _ _ _ _).trans ?_
    | with_reducible refine (State.reselect_only (hU.mono (by decide)) _).trans ?_
    | with_reducible refine (State.correct_only (hU.mono (by decide)) _ _ _ _).trans ?_
    | with_reducible refine (hU.wrO (by first | decide | (simp only [wrOk, faultOk, tallyOk, bumpOk, commitOk, List.all_cons, List.all_nil, Bool.and_true] <;> decide) | (split <;> decide) | (split <;> simp only [wrOk, faultOk, tallyOk, bumpOk, commitOk, List.all_cons, List.all_nil, Bool.and_true] <;> decide)) _ _).trans ?_
    | fail_if_no_progress with_reducible refine (hU.tim (by decide) _ _).trans ?_
    | with_reducible refine Unseen.ite ?_ ?_
    | dsimp only
    | split

theorem gnssClockInputOp_only {β : Type} {π : State → β} (hU : Unseen 0x22020a0020001420 π) (utc : Option UtcInfo) (s : State) :
    π (gnssClockInputOp utc s) = π s := by
  dsimp only [gnssClockInputOp]
  repeat' first
    | with_reducible rfl
    | with_reducible refine (State.wholeSecond_only (hU.mono (by decide)) _).trans ?_
    | with_reducible refine (State.sourceInput_only (hU.mono (by decide)) _ _ _ _).trans ?_
    | with_reducible refine (hU.wrO (by first | decide | (simp only [wrOk, faultOk, tallyOk, bumpOk, commitOk, List.all_cons, List.all_nil, Bool.and_true] <;> decide) | (split <;> decide) | (split <;> simp only [wrOk, faultOk, tallyOk, bumpOk, commitOk, List.all_cons, List.all_nil, Bool.and_true] <;> decide)) _ _).trans ?_
    | fail_if_no_progress with_reducible refine (hU.tim (by decide) _ _).trans ?_
    | with_reducible refine Unseen.ite ?_ ?_
    | dsimp only
    | split

theorem State.afterLoss_only {β : Type} {π : State → β} (hU : Unseen 0x200080000001420 π) (s : State) :
    π (State.afterLoss s) = π s := by
  dsimp only [State.afterLoss]
  repeat' first
    | with_reducible rfl
    | with_reducible refine (State.reselect_only (hU.mono (by decide)) _).trans ?_
    | with_reducible refine (State.holdAt_only (hU.mono (by decide)) _ _).trans ?_
    | with_reducible refine (hU.fault (by first | decide | (simp only [wrOk, faultOk, tallyOk, bumpOk, commitOk, List.all_cons, List.all_nil, Bool.and_true] <;> decide) | (split <;> decide) | (split <;> simp only [wrOk, faultOk, tallyOk, bumpOk, commitOk, List.all_cons, List.all_nil, Bool.and_true] <;> decide)) _).trans ?_
    | fail_if_no_progress with_reducible refine (hU.tim (by decide) _ _).trans ?_
    | with_reducible refine Unseen.ite ?_ ?_
    | split

theorem sourceLostOp_only {β : Type} {π : State → β} (hU : Unseen 0x22000a0000001420 π) (s : State) :
    π (sourceLostOp s) = π s := by
  dsimp only [sourceLostOp]
  repeat' first
    | with_reducible rfl
    | with_reducible refine (State.afterLoss_only (hU.mono (by decide)) _).trans ?_
    | with_reducible refine (State.advance_only (hU.mono (by decide)) _ _).trans ?_
    | fail_if_no_progress with_reducible refine (hU.tim (by decide) _ _).trans ?_
    | with_reducible refine Unseen.ite ?_ ?_
    | dsimp only
    | split

theorem sourceReturnOp_only {β : Type} {π : State → β} (hU : Unseen 0x202080020001420 π) (s : State) :
    π (sourceReturnOp s) = π s := by
  dsimp only [sourceReturnOp]
  repeat' first
    | with_reducible rfl
    | with_reducible refine (State.sourceInput_only (hU.mono (by decide)) _ _ _ _).trans ?_
    | fail_if_no_progress with_reducible refine (hU.tim (by decide) _ _).trans ?_
    | with_reducible refine Unseen.ite ?_ ?_
    | dsimp only
    | split

theorem holdoverDegradeOp_only {β : Type} {π : State → β} (hU : Unseen 0x2200020000001020 π) (t : YTime) (s : State) :
    π (holdoverDegradeOp t s) = π s := by
  dsimp only [holdoverDegradeOp]
  repeat' first
    | with_reducible rfl
    | with_reducible refine (State.advance_only (hU.mono (by decide)) _ _).trans ?_
    | with_reducible refine (State.holdAt_only (hU.mono (by decide)) _ _).trans ?_
    | with_reducible refine Unseen.ite ?_ ?_
    | split

theorem tqLockedOp_only {β : Type} {π : State → β} (hU : Unseen 0x2200020000001000 π) (s : State) :
    π (tqLockedOp s) = π s := by
  dsimp only [tqLockedOp]
  repeat' first
    | with_reducible rfl
    | with_reducible refine (State.advance_only (hU.mono (by decide)) _ _).trans ?_
    | with_reducible refine (hU.wrO (by first | decide | (simp only [wrOk, faultOk, tallyOk, bumpOk, commitOk, List.all_cons, List.all_nil, Bool.and_true] <;> decide) | (split <;> decide) | (split <;> simp only [wrOk, faultOk, tallyOk, bumpOk, commitOk, List.all_cons, List.all_nil, Bool.and_true] <;> decide)) _ _).trans ?_
    | fail_if_no_progress with_reducible refine (hU.tim (by decide) _ _).trans ?_
    | with_reducible refine Unseen.ite ?_ ?_
    | dsimp only
    | split

theorem slewEndOp_only {β : Type} {π : State → β} (hU : Unseen 0x200000000001000 π) (s : State) :
    π (slewEndOp s) = π s := by
  dsimp only [slewEndOp]
  repeat' first
    | with_reducible rfl
    | with_reducible refine (hU.wrO (by first | decide | (simp only [wrOk, faultOk, tallyOk, bumpOk, commitOk, List.all_cons, List.all_nil, Bool.and_true] <;> decide) | (split <;> decide) | (split <;> simp only [wrOk, faultOk, tallyOk, bumpOk, commitOk, List.all_cons, List.all_nil, Bool.and_true] <;> decide)) _ _).trans ?_
    | fail_if_no_progress with_reducible refine (hU.tim (by decide) _ _).trans ?_
    | with_reducible refine Unseen.ite ?_ ?_
    | split

theorem State.stepRefused_only {β : Type} {π : State → β} (hU : Unseen 0x202080020001420 π) (s : State) :
    π (State.stepRefused s) = π s := by
  dsimp only [State.stepRefused]
  repeat' first
    | with_reducible rfl
    | with_reducible refine (State.accepted_only (hU.mono (by decide)) _).trans ?_
    | with_reducible refine (State.stepTime_only (hU.mono (by decide)) _ _).trans ?_
    | fail_if_no_progress with_reducible refine (hU.tim (by decide) _ _).trans ?_

theorem autoStepOp_only {β : Type} {π : State → β} (hU : Unseen 0x22020a0020001420 π) (s : State) :
    π (autoStepOp s) = π s := by
  dsimp only [autoStepOp]
  repeat' first
    | with_reducible rfl
    | with_reducible refine (State.advance_only (hU.mono (by decide)) _ _).trans ?_
    | with_reducible refine (slewEndOp_only (hU.mono (by decide)) _).trans ?_
    | with_reducible refine (State.stepRefused_only (hU.mono (by decide)) _).trans ?_
    | with_reducible refine Unseen.ite ?_ ?_
    | dsimp only
    | split

theorem State.timResult_only {β : Type} {π : State → β} (hU : Unseen 0x200000000000000 π) (s : State) (v : Nat) :
    π (State.timResult s v) = π s := by
  dsimp only [State.timResult]
  repeat' first
    | with_reducible rfl
    | with_reducible refine (hU.wrO (by first | decide | (simp only [wrOk, faultOk, tallyOk, bumpOk, commitOk, List.all_cons, List.all_nil, Bool.and_true] <;> decide) | (split <;> decide) | (split <;> simp only [wrOk, faultOk, tallyOk, bumpOk, commitOk, List.all_cons, List.all_nil, Bool.and_true] <;> decide)) _ _).trans ?_

theorem stepOp_only {β : Type} {π : State → β} (hU : Unseen 0x202080020001420 π) (s : State) :
    π (stepOp s) = π s := by
  dsimp only [stepOp]
  repeat' first
    | with_reducible rfl
    | with_reducible refine (State.timResult_only (hU.mono (by decide)) _ _).trans ?_
    | with_reducible refine (State.stepRefused_only (hU.mono (by decide)) _).trans ?_
    | with_reducible refine Unseen.ite ?_ ?_
    | split

theorem slewAcceptOp_only {β : Type} {π : State → β} (hU : Unseen 0x200000000001020 π) (s : State) :
    π (slewAcceptOp s) = π s := by
  dsimp only [slewAcceptOp]
  repeat' first
    | with_reducible rfl
    | with_reducible refine (State.accepted_only (hU.mono (by decide)) _).trans ?_
    | with_reducible refine (State.slewBy_only (hU.mono (by decide)) _ _).trans ?_
    | with_reducible refine (State.timResult_only (hU.mono (by decide)) _ _).trans ?_
    | with_reducible refine Unseen.ite ?_ ?_
    | split

theorem timeLatchReadOp_only {β : Type} {π : State → β} (hU : Unseen 0x1000 π) (s : State) :
    π (timeLatchReadOp s) = π s := by
  dsimp only [timeLatchReadOp]
  repeat' first
    | with_reducible rfl
    | fail_if_no_progress with_reducible refine (hU.tim (by decide) _ _).trans ?_

theorem State.ptpStamp_only {β : Type} {π : State → β} (hU : Unseen 0x80000000420 π) (s : State) (lanB : Bool) (typ : Nat) (out : Bool) (m : PtpMsg) :
    π (State.ptpStamp s lanB typ out m) = π s := by
  dsimp only [State.ptpStamp]
  repeat' first
    | with_reducible rfl
    | with_reducible refine (State.send_only (hU.mono (by decide)) _ _ _ _).trans ?_

theorem ptpSyncRxOp_only {β : Type} {π : State → β} (hU : Unseen 0x3c20a0020001422 π) (lanB : Bool) (off : Int) (m : PtpMsg) (s0 : State) :
    π (ptpSyncRxOp lanB off m s0) = π s0 := by
  dsimp only [ptpSyncRxOp]
  repeat' first
    | with_reducible rfl
    | with_reducible refine (State.fromLan_only (hU.mono (by decide)) _ _ _ ?_).trans ?_
    | with_reducible refine (State.ptpStamp_only (hU.mono (by decide)) _ _ _ _ _).trans ?_
    | with_reducible refine (State.sourceInput_only (hU.mono (by decide)) _ _ _ _).trans ?_
    | with_reducible refine (State.draw_only (hU.mono (by decide)) _ _).trans ?_
    | fail_if_no_progress with_reducible refine (hU.tim (by decide) _ _).trans ?_
    | with_reducible refine Unseen.ite ?_ ?_
    | intro _
    | dsimp only
    | split

theorem ptpAnnounceRxOp_only {β : Type} {π : State → β} (hU : Unseen 0x3c00a0000001420 π) (lanB : Bool) (advice : BmcaAdvice) (newMaster : Bool) (s0 : State) :
    π (ptpAnnounceRxOp lanB advice newMaster s0) = π s0 := by
  dsimp only [ptpAnnounceRxOp]
  repeat' first
    | with_reducible rfl
    | with_reducible refine (State.fromLan_only (hU.mono (by decide)) _ _ _ ?_).trans ?_
    | with_reducible refine (hU.wrO (by first | decide | (simp only [wrOk, faultOk, tallyOk, bumpOk, commitOk, List.all_cons, List.all_nil, Bool.and_true, portState] <;> decide) | (split <;> decide) | (split <;> simp only [wrOk, faultOk, tallyOk, bumpOk, commitOk, List.all_cons, List.all_nil, Bool.and_true, portState] <;> decide) | (simp only [portState]; split <;> decide)) _ _).trans ?_
    | fail_if_no_progress with_reducible refine (hU.tim (by decide) _ _).trans ?_
    | with_reducible refine Unseen.ite ?_ ?_
    | intro _
    | dsimp only
    | split

theorem ptpDelayReqOp_only {β : Type} {π : State → β} (hU : Unseen 0x3c00a0000001420 π) (lanB : Bool) (m : PtpMsg) (s0 : State) :
    π (ptpDelayReqOp lanB m s0) = π s0 := by
  dsimp only [ptpDelayReqOp]
  repeat' first
    | with_reducible rfl
    | with_reducible refine (State.ptpStamp_only (hU.mono (by decide)) _ _ _ _ _).trans ?_
    | with_reducible refine (State.fromLan_only (hU.mono (by decide)) _ _ _ ?_).trans ?_
    | with_reducible refine (hU.bump (by first | decide | (simp only [wrOk, faultOk, tallyOk, bumpOk, commitOk, List.all_cons, List.all_nil, Bool.and_true] <;> decide) | (split <;> decide) | (split <;> simp only [wrOk, faultOk, tallyOk, bumpOk, commitOk, List.all_cons, List.all_nil, Bool.and_true] <;> decide)) _).trans ?_
    | fail_if_no_progress with_reducible refine (hU.tim (by decide) _ _).trans ?_
    | with_reducible refine Unseen.ite ?_ ?_
    | intro _
    | dsimp only
    | split

theorem ptpParentTimeoutOp_only {β : Type} {π : State → β} (hU : Unseen 0x200080000001420 π) (announce : Bool) (s : State) :
    π (ptpParentTimeoutOp announce s) = π s := by
  dsimp only [ptpParentTimeoutOp]
  repeat' first
    | with_reducible rfl
    | with_reducible refine (State.afterLoss_only (hU.mono (by decide)) _).trans ?_
    | with_reducible refine (hU.wrO (by first | decide | (simp only [wrOk, faultOk, tallyOk, bumpOk, commitOk, List.all_cons, List.all_nil, Bool.and_true, portState] <;> decide) | (split <;> decide) | (split <;> simp only [wrOk, faultOk, tallyOk, bumpOk, commitOk, List.all_cons, List.all_nil, Bool.and_true, portState] <;> decide) | (simp only [portState]; split <;> decide)) _ _).trans ?_
    | fail_if_no_progress with_reducible refine (hU.tim (by decide) _ _).trans ?_
    | with_reducible refine Unseen.ite ?_ ?_
    | split

theorem State.announce_only {β : Type} {π : State → β} (hU : Unseen 0x2 π) (s : State) (alt : Bool) (seq : Nat) :
    π ((State.announce s alt seq).2) = π s := by
  dsimp only [State.announce]
  repeat' first
    | with_reducible rfl
    | with_reducible refine (State.draw_only (hU.mono (by decide)) _ _).trans ?_
    | with_reducible refine Unseen.ite ?_ ?_
    | dsimp only
    | split

theorem ptpTxOp_only {β : Type} {π : State → β} (hU : Unseen 0x200080000001422 π) (lanB : Bool) (isAnn : Bool) (alt : Bool) (time : YTime) (s : State) :
    π (ptpTxOp lanB isAnn alt time s) = π s := by
  dsimp only [ptpTxOp]
  repeat' first
    | with_reducible rfl
    | with_reducible refine (State.announce_only (hU.mono (by decide)) _ _ _).trans ?_
    | with_reducible refine (State.ptpStamp_only (hU.mono (by decide)) _ _ _ _ _).trans ?_
    | with_reducible refine (hU.wrO (by first | decide | (simp only [wrOk, faultOk, tallyOk, bumpOk, commitOk, List.all_cons, List.all_nil, Bool.and_true, portState] <;> decide) | (split <;> decide) | (split <;> simp only [wrOk, faultOk, tallyOk, bumpOk, commitOk, List.all_cons, List.all_nil, Bool.and_true, portState] <;> decide) | (simp only [portState]; split <;> decide)) _ _).trans ?_
    | fail_if_no_progress with_reducible refine (hU.tim (by decide) _ _).trans ?_
    | with_reducible refine Unseen.ite ?_ ?_
    | dsimp only
    | split

theorem ptpTransparentForwardOp_only {β : Type} {π : State → β} (hU : Unseen 0x3c00a0000000420 π) (lanB : Bool) (typ : Nat) (m : PtpMsg) (sent : YTime) (s0 : State) :
    π (ptpTransparentForwardOp lanB typ m sent s0) = π s0 := by
  dsimp only [ptpTransparentForwardOp]
  repeat' first
    | with_reducible rfl
    | with_reducible refine (State.fromLan_only (hU.mono (by decide)) _ _ _ ?_).trans ?_
    | with_reducible refine (State.ptpStamp_only (hU.mono (by decide)) _ _ _ _ _).trans ?_
    | with_reducible refine (hU.wrapBy (by first | decide | (simp only [wrOk, faultOk, tallyOk, bumpOk, commitOk, List.all_cons, List.all_nil, Bool.and_true] <;> decide) | (split <;> decide) | (split <;> simp only [wrOk, faultOk, tallyOk, bumpOk, commitOk, List.all_cons, List.all_nil, Bool.and_true] <;> decide)) _ _).trans ?_
    | with_reducible refine Unseen.ite ?_ ?_
    | intro _
    | split

theorem timeCommitOp_only {β : Type} {π : State → β} (hU : Unseen 0x200000008000018 π) (s : State) :
    π (timeCommitOp s) = π s := by
  dsimp only [timeCommitOp]
  repeat' first
    | with_reducible rfl
    | with_reducible refine (hU.commit (by first | decide | (simp only [wrOk, faultOk, tallyOk, bumpOk, commitOk, List.all_cons, List.all_nil, Bool.and_true, timeGroup] <;> decide) | (split <;> decide) | (split <;> simp only [wrOk, faultOk, tallyOk, bumpOk, commitOk, List.all_cons, List.all_nil, Bool.and_true, timeGroup] <;> decide) | (simp only [timeGroup]; split <;> decide)) _ _).trans ?_
    | with_reducible refine (hU.wrO (by first | decide | (simp only [wrOk, faultOk, tallyOk, bumpOk, commitOk, List.all_cons, List.all_nil, Bool.and_true, timeGroup] <;> decide) | (split <;> decide) | (split <;> simp only [wrOk, faultOk, tallyOk, bumpOk, commitOk, List.all_cons, List.all_nil, Bool.and_true, timeGroup] <;> decide) | (simp only [timeGroup]; split <;> decide)) _ _).trans ?_
    | with_reducible refine (hU.setPending (by first | decide | (simp only [wrOk, faultOk, tallyOk, bumpOk, commitOk, List.all_cons, List.all_nil, Bool.and_true, timeGroup] <;> decide) | (split <;> decide) | (split <;> simp only [wrOk, faultOk, tallyOk, bumpOk, commitOk, List.all_cons, List.all_nil, Bool.and_true, timeGroup] <;> decide) | (simp only [timeGroup]; split <;> decide)) _).trans ?_
    | with_reducible refine Unseen.ite ?_ ?_
    | split

theorem timeConfigApplyOp_only {β : Type} {π : State → β} (hU : Unseen 0x2200020008001018 π) (s : State) :
    π (timeConfigApplyOp s) = π s := by
  dsimp only [timeConfigApplyOp]
  repeat' first
    | with_reducible rfl
    | with_reducible refine (State.wholeSecond_only (hU.mono (by decide)) _).trans ?_
    | with_reducible refine (hU.endPending (by first | decide | (simp only [wrOk, faultOk, tallyOk, bumpOk, commitOk, List.all_cons, List.all_nil, Bool.and_true, timeGroup] <;> decide) | (split <;> decide) | (split <;> simp only [wrOk, faultOk, tallyOk, bumpOk, commitOk, List.all_cons, List.all_nil, Bool.and_true, timeGroup] <;> decide) | (simp only [timeGroup]; split <;> decide)) _ _).trans ?_
    | with_reducible refine Unseen.ite ?_ ?_
    | split

theorem ptpCommitOp_only {β : Type} {π : State → β} (hU : Unseen 0x8200000008000008 π) (s : State) :
    π (ptpCommitOp s) = π s := by
  dsimp only [ptpCommitOp]
  repeat' first
    | with_reducible rfl
    | with_reducible refine (hU.commit (by first | decide | (simp only [wrOk, faultOk, tallyOk, bumpOk, commitOk, List.all_cons, List.all_nil, Bool.and_true, portState, ptpGroup, ptpKeys] <;> decide) | (split <;> decide) | (split <;> simp only [wrOk, faultOk, tallyOk, bumpOk, commitOk, List.all_cons, List.all_nil, Bool.and_true, portState, ptpGroup, ptpKeys] <;> decide) | (simp only [portState, ptpGroup, ptpKeys]; split <;> decide)) _ _).trans ?_
    | with_reducible refine (hU.wrO (by first | decide | (simp only [wrOk, faultOk, tallyOk, bumpOk, commitOk, List.all_cons, List.all_nil, Bool.and_true, portState, ptpGroup, ptpKeys] <;> decide) | (split <;> decide) | (split <;> simp only [wrOk, faultOk, tallyOk, bumpOk, commitOk, List.all_cons, List.all_nil, Bool.and_true, portState, ptpGroup, ptpKeys] <;> decide) | (simp only [portState, ptpGroup, ptpKeys]; split <;> decide)) _ _).trans ?_
    | with_reducible refine Unseen.ite ?_ ?_
    | intro _
    | split

theorem State.setActive_only {β : Type} {π : State → β} (hU : Unseen 0x200000000000000 π) (s : State) (g : Nat) (on : Bool) :
    π (State.setActive s g on) = π s := by
  dsimp only [State.setActive]
  repeat' first
    | with_reducible rfl
    | with_reducible refine (hU.wrO (by first | decide | (simp only [wrOk, faultOk, tallyOk, bumpOk, commitOk, List.all_cons, List.all_nil, Bool.and_true] <;> decide) | (split <;> decide) | (split <;> simp only [wrOk, faultOk, tallyOk, bumpOk, commitOk, List.all_cons, List.all_nil, Bool.and_true] <;> decide)) _ _).trans ?_
    | with_reducible refine Unseen.ite ?_ ?_
    | split

theorem pulseCommitOp_only {β : Type} {π : State → β} (hU : Unseen 0x200000008001008 π) (s : State) :
    π (pulseCommitOp s) = π s := by
  dsimp only [pulseCommitOp]
  repeat' first
    | with_reducible rfl
    | with_reducible refine (State.setActive_only (hU.mono (by decide)) _ _ _).trans ?_
    | with_reducible refine (hU.commit (by first | decide | (simp only [wrOk, faultOk, tallyOk, bumpOk, commitOk, List.all_cons, List.all_nil, Bool.and_true, pulseGroup, Reg.TIM_PG_COMMIT_RESULT_blk, Reg.TIM_PG_CTRL_DRIVE_blk, Reg.TIM_PG_CTRL_EN_blk, Reg.TIM_PG_CTRL_EVENT_blk, Reg.TIM_PG_CTRL_POL_blk, Reg.TIM_PG_PERIOD_blk, Reg.TIM_PG_START_NS_blk, Reg.TIM_PG_START_SEC_blk, Reg.TIM_PG_WIDTH_blk, Reg.TIM_PG_COMMIT_RESULT_off, Reg.TIM_PG_CTRL_DRIVE_off, Reg.TIM_PG_CTRL_EN_off, Reg.TIM_PG_CTRL_EVENT_off, Reg.TIM_PG_CTRL_POL_off, Reg.TIM_PG_PERIOD_off, Reg.TIM_PG_START_NS_off, Reg.TIM_PG_START_SEC_off, Reg.TIM_PG_WIDTH_off] <;> decide) | (split <;> decide) | (split <;> simp only [wrOk, faultOk, tallyOk, bumpOk, commitOk, List.all_cons, List.all_nil, Bool.and_true, pulseGroup, Reg.TIM_PG_COMMIT_RESULT_blk, Reg.TIM_PG_CTRL_DRIVE_blk, Reg.TIM_PG_CTRL_EN_blk, Reg.TIM_PG_CTRL_EVENT_blk, Reg.TIM_PG_CTRL_POL_blk, Reg.TIM_PG_PERIOD_blk, Reg.TIM_PG_START_NS_blk, Reg.TIM_PG_START_SEC_blk, Reg.TIM_PG_WIDTH_blk, Reg.TIM_PG_COMMIT_RESULT_off, Reg.TIM_PG_CTRL_DRIVE_off, Reg.TIM_PG_CTRL_EN_off, Reg.TIM_PG_CTRL_EVENT_off, Reg.TIM_PG_CTRL_POL_off, Reg.TIM_PG_PERIOD_off, Reg.TIM_PG_START_NS_off, Reg.TIM_PG_START_SEC_off, Reg.TIM_PG_WIDTH_off] <;> decide) | (simp only [pulseGroup]; split <;> decide)) _ _).trans ?_
    | fail_if_no_progress with_reducible refine (hU.tim (by decide) _ _).trans ?_
    | with_reducible refine Unseen.ite ?_ ?_
    | split

theorem State.evtRecord_only {β : Type} {π : State → β} (hU : Unseen 0x200080000000420 π) (s : State) (typ : Nat) (index : Nat) (flags : Nat) (count : Nat) (t : YTime) :
    π (State.evtRecord s typ index flags count t) = π s := by
  dsimp only [State.evtRecord]
  repeat' first
    | with_reducible rfl
    | with_reducible refine (State.sendOr_only (hU.mono (by decide)) _ _ _ _ _ ?_).trans ?_
    | with_reducible refine (hU.bump (by first | decide | (simp only [wrOk, faultOk, tallyOk, bumpOk, commitOk, List.all_cons, List.all_nil, Bool.and_true] <;> decide) | (split <;> decide) | (split <;> simp only [wrOk, faultOk, tallyOk, bumpOk, commitOk, List.all_cons, List.all_nil, Bool.and_true] <;> decide)) _).trans ?_
    | with_reducible refine (hU.fault (by first | decide | (simp only [wrOk, faultOk, tallyOk, bumpOk, commitOk, List.all_cons, List.all_nil, Bool.and_true] <;> decide) | (split <;> decide) | (split <;> simp only [wrOk, faultOk, tallyOk, bumpOk, commitOk, List.all_cons, List.all_nil, Bool.and_true] <;> decide)) _).trans ?_
    | intro _

theorem State.beginPulse_only {β : Type} {π : State → β} (hU : Unseen 0x1000 π) (s : State) (g : Nat) :
    π (State.beginPulse s g) = π s := by
  dsimp only [State.beginPulse]
  repeat' first
    | with_reducible rfl
    | fail_if_no_progress with_reducible refine (hU.tim (by decide) _ _).trans ?_
    | with_reducible refine Unseen.ite ?_ ?_
    | split

theorem pulseTimeOp_only {β : Type} {π : State → β} (hU : Unseen 0x22001a0000009420 π) (g : Nat) (s : State) :
    π (pulseTimeOp g s) = π s := by
  dsimp only [pulseTimeOp]
  repeat' first
    | with_reducible rfl
    | with_reducible refine (State.setFlags_only (hU.mono (by decide)) _ _ _).trans ?_
    | with_reducible refine (State.evtRecord_only (hU.mono (by decide)) _ _ _ _ _ _).trans ?_
    | with_reducible refine (State.beginPulse_only (hU.mono (by decide)) _ _).trans ?_
    | with_reducible refine (State.advance_only (hU.mono (by decide)) _ _).trans ?_
    | with_reducible refine (State.setActive_only (hU.mono (by decide)) _ _ _).trans ?_
    | fail_if_no_progress with_reducible refine (hU.tim (by decide) _ _).trans ?_
    | with_reducible refine Unseen.ite ?_ ?_
    | dsimp only
    | split

theorem captureEdgeOp_only {β : Type} {π : State → β} (hU : Unseen 0x22000a0000001420 π) (n : Nat) (rising : Bool) (time : YTime) (s : State) :
    π (captureEdgeOp n rising time s) = π s := by
  dsimp only [captureEdgeOp]
  repeat' first
    | with_reducible rfl
    | with_reducible refine (State.evtRecord_only (hU.mono (by decide)) _ _ _ _ _ _).trans ?_
    | with_reducible refine (State.advance_only (hU.mono (by decide)) _ _).trans ?_
    | with_reducible refine (hU.wrO (by first | decide | (simp only [wrOk, faultOk, tallyOk, bumpOk, commitOk, List.all_cons, List.all_nil, Bool.and_true, Reg.TIM_CAP_COUNT_blk, Reg.TIM_CAP_NS_blk, Reg.TIM_CAP_RISING_blk, Reg.TIM_CAP_SEC_HI_blk, Reg.TIM_CAP_SEC_LO_blk] <;> decide) | (split <;> decide) | (split <;> simp only [wrOk, faultOk, tallyOk, bumpOk, commitOk, List.all_cons, List.all_nil, Bool.and_true, Reg.TIM_CAP_COUNT_blk, Reg.TIM_CAP_NS_blk, Reg.TIM_CAP_RISING_blk, Reg.TIM_CAP_SEC_HI_blk, Reg.TIM_CAP_SEC_LO_blk] <;> decide)) _ _).trans ?_
    | with_reducible refine (hU.bump (by first | decide | (simp only [wrOk, faultOk, tallyOk, bumpOk, commitOk, List.all_cons, List.all_nil, Bool.and_true, Reg.TIM_CAP_COUNT_blk, Reg.TIM_CAP_NS_blk, Reg.TIM_CAP_RISING_blk, Reg.TIM_CAP_SEC_HI_blk, Reg.TIM_CAP_SEC_LO_blk] <;> decide) | (split <;> decide) | (split <;> simp only [wrOk, faultOk, tallyOk, bumpOk, commitOk, List.all_cons, List.all_nil, Bool.and_true, Reg.TIM_CAP_COUNT_blk, Reg.TIM_CAP_NS_blk, Reg.TIM_CAP_RISING_blk, Reg.TIM_CAP_SEC_HI_blk, Reg.TIM_CAP_SEC_LO_blk] <;> decide)) _).trans ?_
    | with_reducible refine (hU.fault (by first | decide | (simp only [wrOk, faultOk, tallyOk, bumpOk, commitOk, List.all_cons, List.all_nil, Bool.and_true, Reg.TIM_CAP_COUNT_blk, Reg.TIM_CAP_NS_blk, Reg.TIM_CAP_RISING_blk, Reg.TIM_CAP_SEC_HI_blk, Reg.TIM_CAP_SEC_LO_blk] <;> decide) | (split <;> decide) | (split <;> simp only [wrOk, faultOk, tallyOk, bumpOk, commitOk, List.all_cons, List.all_nil, Bool.and_true, Reg.TIM_CAP_COUNT_blk, Reg.TIM_CAP_NS_blk, Reg.TIM_CAP_RISING_blk, Reg.TIM_CAP_SEC_HI_blk, Reg.TIM_CAP_SEC_LO_blk] <;> decide)) _).trans ?_
    | fail_if_no_progress with_reducible refine (hU.tim (by decide) _ _).trans ?_
    | with_reducible refine Unseen.ite ?_ ?_
    | dsimp only
    | split

theorem captureLatchReadOp_only {β : Type} {π : State → β} (hU : Unseen 0x1000 π) (n : Nat) (s : State) :
    π (captureLatchReadOp n s) = π s := by
  dsimp only [captureLatchReadOp]
  repeat' first
    | with_reducible rfl
    | fail_if_no_progress with_reducible refine (hU.tim (by decide) _ _).trans ?_

theorem calendarWriteOp_only {β : Type} {π : State → β} (hU : Unseen 0x2000020000001000 π) (s : State) :
    π (calendarWriteOp s) = π s := by
  dsimp only [calendarWriteOp]
  repeat' first
    | with_reducible rfl
    | with_reducible refine (State.wholeSecond_only (hU.mono (by decide)) _).trans ?_
    | with_reducible refine (hU.wrO (by first | decide | (simp only [wrOk, faultOk, tallyOk, bumpOk, commitOk, List.all_cons, List.all_nil, Bool.and_true] <;> decide) | (split <;> decide) | (split <;> simp only [wrOk, faultOk, tallyOk, bumpOk, commitOk, List.all_cons, List.all_nil, Bool.and_true] <;> decide)) _ _).trans ?_
    | fail_if_no_progress with_reducible refine (hU.tim (by decide) _ _).trans ?_
    | with_reducible refine Unseen.ite ?_ ?_
    | split

theorem State.loseTwin_only {β : Type} {π : State → β} (hU : Unseen 0x200080010001420 π) (s : State) :
    π (State.loseTwin s) = π s := by
  dsimp only [State.loseTwin]
  repeat' first
    | with_reducible rfl
    | with_reducible refine (State.afterLoss_only (hU.mono (by decide)) _).trans ?_
    | fail_if_no_progress with_reducible refine (hU.twn (by decide) _ _).trans ?_
    | with_reducible refine Unseen.ite ?_ ?_
    | split

theorem twinClockInputOp_only {β : Type} {π : State → β} (hU : Unseen 0x22020a0030001420 π) (s : State) :
    π (twinClockInputOp s) = π s := by
  dsimp only [twinClockInputOp]
  repeat' first
    | with_reducible rfl
    | with_reducible refine (State.wholeSecond_only (hU.mono (by decide)) _).trans ?_
    | with_reducible refine (State.sourceInput_only (hU.mono (by decide)) _ _ _ _).trans ?_
    | with_reducible refine (State.loseTwin_only (hU.mono (by decide)) _).trans ?_
    | fail_if_no_progress with_reducible refine (hU.twn (by decide) _ _).trans ?_
    | with_reducible refine Unseen.ite ?_ ?_
    | split


/-! ## Restart -/

theorem State.modeResult_only {β : Type} {π : State → β} (hU : Unseen 0x20000000000 π) (s : State) (status : Nat) (target : Nat) :
    π (State.modeResult s status target) = π s := by
  dsimp only [State.modeResult]
  repeat' first
    | with_reducible rfl
    | with_reducible refine (hU.wrO (by first | decide | (simp only [wrOk, faultOk, tallyOk, bumpOk, commitOk, List.all_cons, List.all_nil, Bool.and_true] <;> decide) | (split <;> decide) | (split <;> simp only [wrOk, faultOk, tallyOk, bumpOk, commitOk, List.all_cons, List.all_nil, Bool.and_true] <;> decide)) _ _).trans ?_

theorem State.rails_only {β : Type} {π : State → β} (hU : Unseen 0x20000000000 π) (s : State) (aon : Bool) (main : Bool) :
    π (State.rails s aon main) = π s := by
  dsimp only [State.rails]
  repeat' first
    | with_reducible rfl
    | with_reducible refine (hU.wrO (by first | decide | (simp only [wrOk, faultOk, tallyOk, bumpOk, commitOk, List.all_cons, List.all_nil, Bool.and_true] <;> decide) | (split <;> decide) | (split <;> simp only [wrOk, faultOk, tallyOk, bumpOk, commitOk, List.all_cons, List.all_nil, Bool.and_true] <;> decide)) _ _).trans ?_
    | with_reducible refine Unseen.ite ?_ ?_
    | split

theorem State.mainDown_only {β : Type} {π : State → β} (hU : Unseen 0x20000000100 π) (s : State) :
    π (State.mainDown s) = π s := by
  dsimp only [State.mainDown]
  repeat' first
    | with_reducible rfl
    | with_reducible refine (hU.wrEach (by first | decide | (simp only [wrOk, faultOk, tallyOk, bumpOk, commitOk, List.all_cons, List.all_nil, Bool.and_true] <;> decide) | (split <;> decide) | (split <;> simp only [wrOk, faultOk, tallyOk, bumpOk, commitOk, List.all_cons, List.all_nil, Bool.and_true] <;> decide)) _).trans ?_
    | fail_if_no_progress with_reducible refine (hU.pwr (by decide) _ _).trans ?_
    | with_reducible refine Unseen.ite ?_ ?_
    | split

theorem State.restart_only {β : Type} {π : State → β} (hU : Unseen 0x200000001c0 π) (s : State) (cause : Nat) :
    π (State.restart s cause) = π s := by
  dsimp only [State.restart]
  repeat' first
    | with_reducible rfl
    | with_reducible refine (State.mainDown_only (hU.mono (by decide)) _).trans ?_
    | fail_if_no_progress with_reducible refine (hU.mode_prev (by decide) (by decide) _ _ _).trans ?_
    | fail_if_no_progress with_reducible refine (hU.mode_pwr (by decide) (by decide) _ _ _).trans ?_
    | fail_if_no_progress with_reducible refine (hU.prev_pwr (by decide) (by decide) _ _ _).trans ?_
    | fail_if_no_progress with_reducible refine (hU.mode_prev_pwr (by decide) (by decide) (by decide) _ _ _ _).trans ?_
    | with_reducible refine Unseen.ite ?_ ?_
    | split

theorem State.toWatch_only {β : Type} {π : State → β} (hU : Unseen 0x200000001c0 π) (s : State) (e : WatchEntry) :
    π (State.toWatch s e) = π s := by
  dsimp only [State.toWatch]
  repeat' first
    | with_reducible rfl
    | with_reducible refine (State.rails_only (hU.mono (by decide)) _ _ _).trans ?_
    | with_reducible refine (State.mainDown_only (hU.mono (by decide)) _).trans ?_
    | fail_if_no_progress with_reducible refine (hU.mode_prev (by decide) (by decide) _ _ _).trans ?_
    | fail_if_no_progress with_reducible refine (hU.mode_pwr (by decide) (by decide) _ _ _).trans ?_
    | fail_if_no_progress with_reducible refine (hU.prev_pwr (by decide) (by decide) _ _ _).trans ?_
    | fail_if_no_progress with_reducible refine (hU.mode_prev_pwr (by decide) (by decide) (by decide) _ _ _ _).trans ?_

theorem State.recordWake_only {β : Type} {π : State → β} (hU : Unseen 0x20000000000 π) (s : State) (sources : Nat) :
    π (State.recordWake s sources) = π s := by
  dsimp only [State.recordWake]
  repeat' first
    | with_reducible rfl
    | with_reducible refine hU.wrSub (l := wakeCauses) (by decide) (List.filter_sublist).subset _ _
    | with_reducible refine (hU.wrAll (by first | decide | (simp only [wrOk, faultOk, tallyOk, bumpOk, commitOk, List.all_cons, List.all_nil, Bool.and_true, wakeCauses] <;> decide) | (split <;> decide) | (split <;> simp only [wrOk, faultOk, tallyOk, bumpOk, commitOk, List.all_cons, List.all_nil, Bool.and_true, wakeCauses] <;> decide) | (simp only [wakeCauses]; split <;> decide)) _ _).trans ?_
    | intro _

theorem State.startBoot_only {β : Type} {π : State → β} (hU : Unseen 0x200000001c0 π) (s : State) (cause : Nat) :
    π (State.startBoot s cause) = π s := by
  dsimp only [State.startBoot]
  repeat' first
    | with_reducible rfl
    | with_reducible refine (State.rails_only (hU.mono (by decide)) _ _ _).trans ?_
    | fail_if_no_progress with_reducible refine (hU.mode_prev (by decide) (by decide) _ _ _).trans ?_
    | fail_if_no_progress with_reducible refine (hU.mode_pwr (by decide) (by decide) _ _ _).trans ?_
    | fail_if_no_progress with_reducible refine (hU.prev_pwr (by decide) (by decide) _ _ _).trans ?_
    | fail_if_no_progress with_reducible refine (hU.mode_prev_pwr (by decide) (by decide) (by decide) _ _ _ _).trans ?_
    | with_reducible refine Unseen.ite ?_ ?_
    | split

theorem State.wakeUp_only {β : Type} {π : State → β} (hU : Unseen 0x200000001c0 π) (s : State) (k : Nat) :
    π (State.wakeUp s k) = π s := by
  dsimp only [State.wakeUp]
  repeat' first
    | with_reducible rfl
    | with_reducible refine (State.startBoot_only (hU.mono (by decide)) _ _).trans ?_
    | with_reducible refine (State.recordWake_only (hU.mono (by decide)) _ _).trans ?_
    | fail_if_no_progress with_reducible refine (hU.pwr (by decide) _ _).trans ?_
    | with_reducible refine Unseen.ite ?_ ?_
    | split


/-! ## Vault -/

theorem State.drawRandom_only {β : Type} {π : State → β} (hU : Unseen 0x800000 π) (s : State) :
    π ((State.drawRandom s).2) = π s := by
  dsimp only [State.drawRandom]
  repeat' first
    | with_reducible rfl
    | fail_if_no_progress with_reducible refine (hU.vlt (by decide) _ _).trans ?_
    | dsimp only

theorem State.newChallenge_only {β : Type} {π : State → β} (hU : Unseen 0x800000000800000 π) (s : State) :
    π (State.newChallenge s) = π s := by
  dsimp only [State.newChallenge]
  repeat' first
    | with_reducible rfl
    | with_reducible refine (State.drawRandom_only (hU.mono (by decide)) _).trans ?_
    | with_reducible refine (hU.wrO (by first | decide | (simp only [wrOk, faultOk, tallyOk, bumpOk, commitOk, List.all_cons, List.all_nil, Bool.and_true] <;> decide) | (split <;> decide) | (split <;> simp only [wrOk, faultOk, tallyOk, bumpOk, commitOk, List.all_cons, List.all_nil, Bool.and_true] <;> decide)) _ _).trans ?_
    | dsimp only

theorem State.authBad_only {β : Type} {π : State → β} (hU : Unseen 0x800080000000420 π) (s : State) :
    π (State.authBad s) = π s := by
  dsimp only [State.authBad]
  repeat' first
    | with_reducible rfl
    | with_reducible refine (hU.bump (by first | decide | (simp only [wrOk, faultOk, tallyOk, bumpOk, commitOk, List.all_cons, List.all_nil, Bool.and_true] <;> decide) | (split <;> decide) | (split <;> simp only [wrOk, faultOk, tallyOk, bumpOk, commitOk, List.all_cons, List.all_nil, Bool.and_true] <;> decide)) _).trans ?_
    | with_reducible refine (hU.fault (by first | decide | (simp only [wrOk, faultOk, tallyOk, bumpOk, commitOk, List.all_cons, List.all_nil, Bool.and_true] <;> decide) | (split <;> decide) | (split <;> simp only [wrOk, faultOk, tallyOk, bumpOk, commitOk, List.all_cons, List.all_nil, Bool.and_true] <;> decide)) _).trans ?_

theorem State.vaultCmd_only {β : Type} {π : State → β} (hU : Unseen 0x200 π) (s : State) (c : Cmd) (k : RingKind) (len : Nat) (body : State → State) (hbody : ∀ (y0 : State), π (body y0) = π y0) :
    π (State.vaultCmd s c k len body) = π s := by
  dsimp only [State.vaultCmd]
  repeat' first
    | with_reducible rfl
    | with_reducible refine (hbody _).trans ?_
    | with_reducible refine (State.finish_only (hU.mono (by decide)) _ _ _ _ _).trans ?_
    | with_reducible refine (State.hostCmd_only (hU.mono (by decide)) _ _ _ _ ?_).trans ?_
    | with_reducible refine Unseen.ite ?_ ?_
    | intro _
    | dsimp only
    | split

theorem State.signedCmd_only {β : Type} {π : State → β} (hU : Unseen 0x800080000800620 π) (s : State) (c : Cmd) (len : Nat) (badFormat : Bool) (refused : Bool) (conflict : Bool) (chal : Nat) (authOk : Bool) (body : State → State) (hbody : ∀ (y0 : State), π (body y0) = π y0) :
    π (State.signedCmd s c len badFormat refused conflict chal authOk body) = π s := by
  dsimp only [State.signedCmd]
  repeat' first
    | with_reducible rfl
    | with_reducible refine (hbody _).trans ?_
    | with_reducible refine (State.newChallenge_only (hU.mono (by decide)) _).trans ?_
    | with_reducible refine (State.finish_only (hU.mono (by decide)) _ _ _ _ _).trans ?_
    | with_reducible refine (State.authBad_only (hU.mono (by decide)) _).trans ?_
    | with_reducible refine Unseen.ite ?_ ?_
    | split

theorem identityReadOp_only {β : Type} {π : State → β} (hU : Unseen 0x200 π) (c : Cmd) (s : State) :
    π (identityReadOp c s) = π s := by
  dsimp only [identityReadOp]
  repeat' first
    | with_reducible rfl
    | with_reducible refine (State.vaultCmd_only (hU.mono (by decide)) _ _ _ _ _ ?_).trans ?_
    | with_reducible refine (State.finishData_only (hU.mono (by decide)) _ _ _).trans ?_
    | intro _

theorem keyImportOp_only {β : Type} {π : State → β} (hU : Unseen 0x800080000800620 π) (c : Cmd) (p : List Byte) (s : State) :
    π (keyImportOp c p s) = π s := by
  dsimp only [keyImportOp]
  repeat' first
    | with_reducible rfl
    | with_reducible refine (State.deriveSite_only (hU.mono (by decide)) _ _).trans ?_
    | with_reducible refine (State.nextGen_only (hU.mono (by decide)) _ _).trans ?_
    | with_reducible refine (State.signedCmd_only (hU.mono (by decide)) _ _ _ _ _ _ _ _ _ ?_).trans ?_
    | with_reducible refine (State.fill_only (hU.mono (by decide)) _ _ _ _ _).trans ?_
    | with_reducible refine (State.vaultCmd_only (hU.mono (by decide)) _ _ _ _ _ ?_).trans ?_
    | with_reducible refine (State.persistLater_only (hU.mono (by decide)) _ _ _).trans ?_
    | with_reducible refine (Unseen.foldl _ ?_ _ _).trans ?_
    | intro _

theorem publicSetOp_only {β : Type} {π : State → β} (hU : Unseen 0x800080000800620 π) (c : Cmd) (p : List Byte) (s : State) :
    π (publicSetOp c p s) = π s := by
  dsimp only [publicSetOp]
  repeat' first
    | with_reducible rfl
    | with_reducible refine (State.vaultCmd_only (hU.mono (by decide)) _ _ _ _ _ ?_).trans ?_
    | with_reducible refine (State.persistLater_only (hU.mono (by decide)) _ _ _).trans ?_
    | with_reducible refine (State.fill_only (hU.mono (by decide)) _ _ _ _ _).trans ?_
    | with_reducible refine (State.signedCmd_only (hU.mono (by decide)) _ _ _ _ _ _ _ _ _ ?_).trans ?_
    | with_reducible refine Unseen.ite ?_ ?_
    | intro _
    | split

theorem keyRevokeOp_only {β : Type} {π : State → β} (hU : Unseen 0x800200 π) (c : Cmd) (s : State) :
    π (keyRevokeOp c s) = π s := by
  dsimp only [keyRevokeOp]
  repeat' first
    | with_reducible rfl
    | with_reducible refine (State.nextGen_only (hU.mono (by decide)) _ _).trans ?_
    | with_reducible refine (State.emptySlot_only (hU.mono (by decide)) _ _).trans ?_
    | with_reducible refine (State.dropInvalid_only (hU.mono (by decide)) _ _).trans ?_
    | with_reducible refine (State.finish_only (hU.mono (by decide)) _ _ _ _ _).trans ?_
    | with_reducible refine (State.vaultCmd_only (hU.mono (by decide)) _ _ _ _ _ ?_).trans ?_
    | with_reducible refine (State.persistLater_only (hU.mono (by decide)) _ _ _).trans ?_
    | with_reducible refine Unseen.ite ?_ ?_
    | intro _
    | split

theorem beaconRekeyOp_only {β : Type} {π : State → β} (hU : Unseen 0x840200 π) (c : Cmd) (s : State) :
    π (beaconRekeyOp c s) = π s := by
  dsimp only [beaconRekeyOp]
  repeat' first
    | with_reducible rfl
    | with_reducible refine (State.finish_only (hU.mono (by decide)) _ _ _ _ _).trans ?_
    | with_reducible refine (State.vaultCmd_only (hU.mono (by decide)) _ _ _ _ _ ?_).trans ?_
    | with_reducible refine (State.epochInput_only (hU.mono (by decide)) _ _ _ _).trans ?_
    | with_reducible refine (State.rekeyAccept_only (hU.mono (by decide)) _ _ _ _).trans ?_
    | with_reducible refine Unseen.ite ?_ ?_
    | intro _
    | split

theorem beaconKeyActivateOp_only {β : Type} {π : State → β} (hU : Unseen 0x800000 π) (s : State) :
    π (beaconKeyActivateOp s) = π s := by
  dsimp only [beaconKeyActivateOp]
  repeat' first
    | with_reducible rfl
    | with_reducible refine (State.persistLater_only (hU.mono (by decide)) _ _ _).trans ?_
    | with_reducible refine (State.setSlot_only (hU.mono (by decide)) _ _ _).trans ?_
    | with_reducible refine (State.emptySlot_only (hU.mono (by decide)) _ _).trans ?_
    | fail_if_no_progress with_reducible refine (hU.vlt (by decide) _ _).trans ?_
    | with_reducible refine Unseen.ite ?_ ?_
    | dsimp only
    | split

theorem State.changeLife_only {β : Type} {π : State → β} (hU : Unseen 0x800000000800000 π) (s : State) (t : Transition) :
    π (State.changeLife s t) = π s := by
  dsimp only [State.changeLife]
  repeat' first
    | with_reducible rfl
    | with_reducible refine (State.zeroise_only (hU.mono (by decide)) _).trans ?_
    | with_reducible refine (State.persistPut_only (hU.mono (by decide)) _ _ _ _).trans ?_
    | with_reducible refine (hU.wrO (by first | decide | (simp only [wrOk, faultOk, tallyOk, bumpOk, commitOk, List.all_cons, List.all_nil, Bool.and_true] <;> decide) | (split <;> decide) | (split <;> simp only [wrOk, faultOk, tallyOk, bumpOk, commitOk, List.all_cons, List.all_nil, Bool.and_true] <;> decide)) _ _).trans ?_
    | fail_if_no_progress with_reducible refine (hU.vlt (by decide) _ _).trans ?_
    | dsimp only
    | split

theorem lifecycleOp_only {β : Type} {π : State → β} (hU : Unseen 0x8000a00008007e0 π) (c : Cmd) (p : List Byte) (ends : Bool) (s : State) :
    π (lifecycleOp c p ends s) = π s := by
  dsimp only [lifecycleOp]
  repeat' first
    | with_reducible rfl
    | with_reducible refine (State.zeroise_only (hU.mono (by decide)) _).trans ?_
    | with_reducible refine (State.signedCmd_only (hU.mono (by decide)) _ _ _ _ _ _ _ _ _ ?_).trans ?_
    | with_reducible refine (State.restart_only (hU.mono (by decide)) _ _).trans ?_
    | with_reducible refine (State.finish_only (hU.mono (by decide)) _ _ _ _ _).trans ?_
    | with_reducible refine (State.vaultCmd_only (hU.mono (by decide)) _ _ _ _ _ ?_).trans ?_
    | with_reducible refine (State.changeLife_only (hU.mono (by decide)) _ _).trans ?_
    | with_reducible refine (hU.wrO (by first | decide | (simp only [wrOk, faultOk, tallyOk, bumpOk, commitOk, List.all_cons, List.all_nil, Bool.and_true] <;> decide) | (split <;> decide) | (split <;> simp only [wrOk, faultOk, tallyOk, bumpOk, commitOk, List.all_cons, List.all_nil, Bool.and_true] <;> decide)) _ _).trans ?_
    | fail_if_no_progress with_reducible refine (hU.vlt (by decide) _ _).trans ?_
    | with_reducible refine Unseen.ite ?_ ?_
    | intro _
    | dsimp only
    | split

theorem State.vaultAnswer_only {β : Type} {π : State → β} (hU : Unseen 0x800080000800422 π) (s : State) (v : Nat) (firmware : Bool) :
    π (State.vaultAnswer s v firmware) = π s := by
  dsimp only [State.vaultAnswer]
  repeat' first
    | with_reducible rfl
    | with_reducible refine (State.offer_only (hU.mono (by decide)) _ _ _ _).trans ?_
    | with_reducible refine (State.draw_only (hU.mono (by decide)) _ _).trans ?_
    | with_reducible refine (State.takeAny_only (hU.mono (by decide)) _ _).trans ?_
    | with_reducible refine (hU.wrapBy (by first | decide | (simp only [wrOk, faultOk, tallyOk, bumpOk, commitOk, List.all_cons, List.all_nil, Bool.and_true] <;> decide) | (split <;> decide) | (split <;> simp only [wrOk, faultOk, tallyOk, bumpOk, commitOk, List.all_cons, List.all_nil, Bool.and_true] <;> decide)) _ _).trans ?_
    | with_reducible refine (hU.bump (by first | decide | (simp only [wrOk, faultOk, tallyOk, bumpOk, commitOk, List.all_cons, List.all_nil, Bool.and_true] <;> decide) | (split <;> decide) | (split <;> simp only [wrOk, faultOk, tallyOk, bumpOk, commitOk, List.all_cons, List.all_nil, Bool.and_true] <;> decide)) _).trans ?_
    | with_reducible refine (hU.fault (by first | decide | (simp only [wrOk, faultOk, tallyOk, bumpOk, commitOk, List.all_cons, List.all_nil, Bool.and_true] <;> decide) | (split <;> decide) | (split <;> simp only [wrOk, faultOk, tallyOk, bumpOk, commitOk, List.all_cons, List.all_nil, Bool.and_true] <;> decide)) _).trans ?_
    | fail_if_no_progress with_reducible refine (hU.vlt (by decide) _ _).trans ?_
    | with_reducible refine Unseen.ite ?_ ?_
    | dsimp only
    | split

theorem State.onRequest_only {β : Type} {π : State → β} (hU : Unseen 0x0 π) (s : State) (body : State → State) (hbody : ∀ (y0 : State), π (body y0) = π y0) :
    π (State.onRequest s body) = π s := by
  dsimp only [State.onRequest]
  repeat' first
    | with_reducible rfl
    | with_reducible refine (hbody _).trans ?_
    | with_reducible refine Unseen.ite ?_ ?_
    | split

theorem State.useSlot_only {β : Type} {π : State → β} (hU : Unseen 0x800000000800020 π) (s : State) (n : Nat) :
    π ((State.useSlot s n).2) = π s := by
  dsimp only [State.useSlot]
  repeat' first
    | with_reducible rfl
    | with_reducible refine (State.setSlot_only (hU.mono (by decide)) _ _ _).trans ?_
    | with_reducible refine (hU.fault (by first | decide | (simp only [wrOk, faultOk, tallyOk, bumpOk, commitOk, List.all_cons, List.all_nil, Bool.and_true] <;> decide) | (split <;> decide) | (split <;> simp only [wrOk, faultOk, tallyOk, bumpOk, commitOk, List.all_cons, List.all_nil, Bool.and_true] <;> decide)) _).trans ?_
    | with_reducible refine Unseen.ite ?_ ?_
    | dsimp only
    | split

theorem vaultOperationOp_only {β : Type} {π : State → β} (hU : Unseen 0x800080000800422 π) (n : Nat) (kind : Nat) (firmware : Bool) (s : State) :
    π (vaultOperationOp n kind firmware s) = π s := by
  dsimp only [vaultOperationOp]
  repeat' first
    | with_reducible rfl
    | with_reducible refine (State.useSlot_only (hU.mono (by decide)) _ _).trans ?_
    | with_reducible refine (State.vaultAnswer_only (hU.mono (by decide)) _ _ _).trans ?_
    | with_reducible refine Unseen.ite ?_ ?_
    | dsimp only
    | split

theorem blobLoadOp_only {β : Type} {π : State → β} (hU : Unseen 0x800080000800422 π) (n : Nat) (p : List Byte) (s : State) :
    π (blobLoadOp n p s) = π s := by
  dsimp only [blobLoadOp]
  repeat' first
    | with_reducible rfl
    | with_reducible refine (State.vaultAnswer_only (hU.mono (by decide)) _ _ _).trans ?_
    | with_reducible refine (State.authBad_only (hU.mono (by decide)) _).trans ?_
    | with_reducible refine (State.setSlot_only (hU.mono (by decide)) _ _ _).trans ?_
    | with_reducible refine Unseen.ite ?_ ?_
    | dsimp only
    | split

theorem blobWrapOp_only {β : Type} {π : State → β} (hU : Unseen 0x800080000800422 π) (n : Nat) (label : Nat) (s : State) :
    π (blobWrapOp n label s) = π s := by
  dsimp only [blobWrapOp]
  repeat' first
    | with_reducible rfl
    | with_reducible refine (State.drawRandom_only (hU.mono (by decide)) _).trans ?_
    | with_reducible refine (State.vaultAnswer_only (hU.mono (by decide)) _ _ _).trans ?_
    | fail_if_no_progress with_reducible refine (hU.vlt (by decide) _ _).trans ?_
    | with_reducible refine Unseen.ite ?_ ?_
    | dsimp only
    | split

theorem keyDeriveOp_only {β : Type} {π : State → β} (hU : Unseen 0x800080000800422 π) (src : Nat) (dst : Nat) (kind : Nat) (salt : List Byte) (info : List Byte) (bound : Bool) (uses : Option Nat) (s : State) :
    π (keyDeriveOp src dst kind salt info bound uses s) = π s := by
  dsimp only [keyDeriveOp]
  repeat' first
    | with_reducible rfl
    | with_reducible refine (State.useSlot_only (hU.mono (by decide)) _ _).trans ?_
    | with_reducible refine (State.vaultAnswer_only (hU.mono (by decide)) _ _ _).trans ?_
    | with_reducible refine (State.setSlot_only (hU.mono (by decide)) _ _ _).trans ?_
    | with_reducible refine Unseen.ite ?_ ?_
    | dsimp only
    | split

theorem persistRecordWriteOp_only {β : Type} {π : State → β} (hU : Unseen 0x800200 π) (good : Bool) (s : State) :
    π (persistRecordWriteOp good s) = π s := by
  dsimp only [persistRecordWriteOp]
  repeat' first
    | with_reducible rfl
    | with_reducible refine (State.finish_only (hU.mono (by decide)) _ _ _ _ _).trans ?_
    | with_reducible refine (State.persistPut_only (hU.mono (by decide)) _ _ _ _).trans ?_
    | fail_if_no_progress with_reducible refine (hU.vlt (by decide) _ _).trans ?_
    | with_reducible refine Unseen.ite ?_ ?_
    | dsimp only
    | split

theorem entropyHealthFailOp_only {β : Type} {π : State → β} (hU : Unseen 0x800000000800020 π) (s : State) :
    π (entropyHealthFailOp s) = π s := by
  dsimp only [entropyHealthFailOp]
  repeat' first
    | with_reducible rfl
    | with_reducible refine (hU.fault (by first | decide | (simp only [wrOk, faultOk, tallyOk, bumpOk, commitOk, List.all_cons, List.all_nil, Bool.and_true] <;> decide) | (split <;> decide) | (split <;> simp only [wrOk, faultOk, tallyOk, bumpOk, commitOk, List.all_cons, List.all_nil, Bool.and_true] <;> decide)) _).trans ?_
    | with_reducible refine (hU.wrO (by first | decide | (simp only [wrOk, faultOk, tallyOk, bumpOk, commitOk, List.all_cons, List.all_nil, Bool.and_true] <;> decide) | (split <;> decide) | (split <;> simp only [wrOk, faultOk, tallyOk, bumpOk, commitOk, List.all_cons, List.all_nil, Bool.and_true] <;> decide)) _ _).trans ?_
    | fail_if_no_progress with_reducible refine (hU.vlt (by decide) _ _).trans ?_
    | intro _
    | dsimp only


/-! ## Zyp -/

theorem State.startPair_only {β : Type} {π : State → β} (hU : Unseen 0x40000000400000 π) (s : State) :
    π (State.startPair s) = π s := by
  dsimp only [State.startPair]
  repeat' first
    | with_reducible rfl
    | with_reducible refine (hU.wrO (by first | decide | (simp only [wrOk, faultOk, tallyOk, bumpOk, commitOk, List.all_cons, List.all_nil, Bool.and_true] <;> decide) | (split <;> decide) | (split <;> simp only [wrOk, faultOk, tallyOk, bumpOk, commitOk, List.all_cons, List.all_nil, Bool.and_true] <;> decide)) _ _).trans ?_
    | fail_if_no_progress with_reducible refine (hU.zyp (by decide) _ _).trans ?_

theorem State.startUnit_only {β : Type} {π : State → β} (hU : Unseen 0x400800 π) (s : State) :
    π (State.startUnit s) = π s := by
  dsimp only [State.startUnit]
  repeat' first
    | with_reducible rfl
    | fail_if_no_progress with_reducible refine (hU.trp_zyp (by decide) (by decide) _ _ _).trans ?_

theorem State.raiseBoot_only {β : Type} {π : State → β} (hU : Unseen 0x400000 π) (s : State) (e : Nat) :
    π (State.raiseBoot s e) = π s := by
  dsimp only [State.raiseBoot]
  repeat' first
    | with_reducible rfl
    | fail_if_no_progress with_reducible refine (hU.zyp (by decide) _ _).trans ?_
    | with_reducible refine Unseen.ite ?_ ?_
    | split

theorem pairStreamCatchupOp_only {β : Type} {π : State → β} (hU : Unseen 0x1c0080000400420 π) (s : State) :
    π (pairStreamCatchupOp s) = π s := by
  dsimp only [pairStreamCatchupOp]
  repeat' first
    | with_reducible rfl
    | with_reducible refine (State.startPair_only (hU.mono (by decide)) _).trans ?_
    | with_reducible refine (hU.bump (by first | decide | (simp only [wrOk, faultOk, tallyOk, bumpOk, commitOk, List.all_cons, List.all_nil, Bool.and_true, Reg.PORT_CNT_OVF_CNT_SAT_blk, Reg.PORT_CNT_OVF_CNT_SAT_off, port_bit (m := 0x1c0080000400420) (by decide)] <;> decide) | (split <;> decide) | (split <;> simp only [wrOk, faultOk, tallyOk, bumpOk, commitOk, List.all_cons, List.all_nil, Bool.and_true, Reg.PORT_CNT_OVF_CNT_SAT_blk, Reg.PORT_CNT_OVF_CNT_SAT_off, port_bit (m := 0x1c0080000400420) (by decide)] <;> decide)) _).trans ?_
    | fail_if_no_progress with_reducible refine (hU.zyp (by decide) _ _).trans ?_
    | with_reducible refine Unseen.ite ?_ ?_
    | dsimp only
    | split

theorem streamRenewOp_only {β : Type} {π : State → β} (hU : Unseen 0x40000000400800 π) (s : State) :
    π (streamRenewOp s) = π s := by
  dsimp only [streamRenewOp]
  repeat' first
    | with_reducible rfl
    | with_reducible refine (State.startPair_only (hU.mono (by decide)) _).trans ?_
    | with_reducible refine (State.startUnit_only (hU.mono (by decide)) _).trans ?_
    | with_reducible refine Unseen.ite ?_ ?_
    | intro _
    | dsimp only
    | split

theorem State.judgeFrame_only {β : Type} {π : State → β} (hU : Unseen 0x1c0080000400420 π) (s : State) (p : Nat) (lid : Nat) (from_ : Endpoint) (f : List Byte) :
    π (State.judgeFrame s p lid from_ f) = π s := by
  dsimp only [State.judgeFrame]
  repeat' first
    | with_reducible rfl
    | with_reducible refine (State.noteFrame_only (hU.mono (by decide)) _ _ _).trans ?_
    | with_reducible refine (State.portCount_only hU (by decide) _ _ _ (by first | decide | (simp only [wrOk, faultOk, tallyOk, bumpOk, commitOk, List.all_cons, List.all_nil, Bool.and_true, Reg.PORT_AUTH_FAIL_blk, Reg.PORT_CNT_OVF_CNT_SAT_blk, Reg.PORT_DUP_blk, Reg.PORT_STALE_blk, Reg.PORT_ZYP_RX_blk, Reg.PORT_CNT_OVF_CNT_SAT_off, port_bit (m := 0x1c0080000400420) (by decide)] <;> decide) | (split <;> decide) | (split <;> simp only [wrOk, faultOk, tallyOk, bumpOk, commitOk, List.all_cons, List.all_nil, Bool.and_true, Reg.PORT_AUTH_FAIL_blk, Reg.PORT_CNT_OVF_CNT_SAT_blk, Reg.PORT_DUP_blk, Reg.PORT_STALE_blk, Reg.PORT_ZYP_RX_blk, Reg.PORT_CNT_OVF_CNT_SAT_off, port_bit (m := 0x1c0080000400420) (by decide)] <;> decide))).trans ?_
    | with_reducible refine (hU.wrapBy (by first | decide | (simp only [wrOk, faultOk, tallyOk, bumpOk, commitOk, List.all_cons, List.all_nil, Bool.and_true, Reg.PORT_AUTH_FAIL_blk, Reg.PORT_CNT_OVF_CNT_SAT_blk, Reg.PORT_DUP_blk, Reg.PORT_STALE_blk, Reg.PORT_ZYP_RX_blk, Reg.PORT_CNT_OVF_CNT_SAT_off, port_bit (m := 0x1c0080000400420) (by decide)] <;> decide) | (split <;> decide) | (split <;> simp only [wrOk, faultOk, tallyOk, bumpOk, commitOk, List.all_cons, List.all_nil, Bool.and_true, Reg.PORT_AUTH_FAIL_blk, Reg.PORT_CNT_OVF_CNT_SAT_blk, Reg.PORT_DUP_blk, Reg.PORT_STALE_blk, Reg.PORT_ZYP_RX_blk, Reg.PORT_CNT_OVF_CNT_SAT_off, port_bit (m := 0x1c0080000400420) (by decide)] <;> decide)) _ _).trans ?_
    | fail_if_no_progress with_reducible refine (hU.zyp (by decide) _ _).trans ?_
    | with_reducible refine Unseen.ite ?_ ?_
    | dsimp only
    | split

theorem zypFrameReceiveOp_only {β : Type} {π : State → β} (hU : Unseen 0x1c00a0000400420 π) (p : Nat) (from_ : Endpoint) (f : List Byte) (s : State) :
    π (zypFrameReceiveOp p from_ f s) = π s := by
  dsimp only [zypFrameReceiveOp]
  repeat' first
    | with_reducible rfl
    | with_reducible refine (State.offerFrom_only (hU.mono (by decide)) _ _ _ _ _).trans ?_
    | with_reducible refine (State.dropFrame_only (hU.mono (by decide)) _ _).trans ?_
    | with_reducible refine (State.judgeFrame_only (hU.mono (by decide)) _ _ _ _ _).trans ?_
    | with_reducible refine (State.portCount_only hU (by decide) _ _ _ (by first | decide | (simp only [wrOk, faultOk, tallyOk, bumpOk, commitOk, List.all_cons, List.all_nil, Bool.and_true, Reg.PORT_AUTH_FAIL_blk, Reg.PORT_BAD_FRAME_blk, Reg.PORT_CNT_OVF_CNT_SAT_blk, Reg.PORT_CNT_OVF_CNT_SAT_off, port_bit (m := 0x1c00a0000400420) (by decide)] <;> decide) | (split <;> decide) | (split <;> simp only [wrOk, faultOk, tallyOk, bumpOk, commitOk, List.all_cons, List.all_nil, Bool.and_true, Reg.PORT_AUTH_FAIL_blk, Reg.PORT_BAD_FRAME_blk, Reg.PORT_CNT_OVF_CNT_SAT_blk, Reg.PORT_CNT_OVF_CNT_SAT_off, port_bit (m := 0x1c00a0000400420) (by decide)] <;> decide))).trans ?_
    | with_reducible refine Unseen.ite ?_ ?_
    | intro _
    | dsimp only
    | split

theorem State.keepStatus_only {β : Type} {π : State → β} (hU : Unseen 0x1c0080000400420 π) (s : State) (lid : Nat) (seq : Nat) (b : List Byte) :
    π (State.keepStatus s lid seq b) = π s := by
  dsimp only [State.keepStatus]
  repeat' first
    | with_reducible rfl
    | with_reducible refine (State.refuseReply_only (hU.mono (by decide)) _ _ _ _ _).trans ?_
    | fail_if_no_progress with_reducible refine (hU.zyp (by decide) _ _).trans ?_
    | with_reducible refine Unseen.ite ?_ ?_
    | split

theorem robotStatusOp_only {β : Type} {π : State → β} (hU : Unseen 0x1c0080000400420 π) (s : State) :
    π (robotStatusOp s) = π s := by
  dsimp only [robotStatusOp]
  repeat' first
    | with_reducible rfl
    | with_reducible refine (State.keepStatus_only (hU.mono (by decide)) _ _ _ _).trans ?_
    | fail_if_no_progress with_reducible refine (hU.zyp (by decide) _ _).trans ?_
    | dsimp only
    | split

theorem State.takeHead_only {β : Type} {π : State → β} (hU : Unseen 0x6080000740420 π) (s : State) (isType : OpBody → Bool) :
    π (State.takeHead s isType) = π s := by
  dsimp only [State.takeHead]
  repeat' first
    | with_reducible rfl
    | with_reducible refine (State.decideOp_only (hU.mono (by decide)) _ _).trans ?_
    | with_reducible refine (State.prepare_only (hU.mono (by decide)) _).trans ?_
    | fail_if_no_progress with_reducible refine (hU.epo (by decide) _ _).trans ?_
    | with_reducible refine Unseen.ite ?_ ?_
    | dsimp only
    | split

theorem robotRequestOp_only {β : Type} {π : State → β} (hU : Unseen 0x6080000740420 π) (s : State) :
    π (robotRequestOp s) = π s := by
  dsimp only [robotRequestOp]
  repeat' first
    | with_reducible rfl
    | with_reducible refine (State.takeHead_only (hU.mono (by decide)) _ _).trans ?_
    | intro _
    | dsimp only
    | split

theorem robotReleaseOp_only {β : Type} {π : State → β} (hU : Unseen 0x6080000740420 π) (s : State) :
    π (robotReleaseOp s) = π s := by
  dsimp only [robotReleaseOp]
  repeat' first
    | with_reducible rfl
    | with_reducible refine (State.takeHead_only (hU.mono (by decide)) _ _).trans ?_
    | intro _
    | dsimp only
    | split

theorem robotEventOp_only {β : Type} {π : State → β} (hU : Unseen 0x6080000740420 π) (s : State) :
    π (robotEventOp s) = π s := by
  dsimp only [robotEventOp]
  repeat' first
    | with_reducible rfl
    | with_reducible refine (State.takeHead_only (hU.mono (by decide)) _ _).trans ?_
    | intro _
    | dsimp only
    | split

theorem radioTransmitOp_only {β : Type} {π : State → β} (hU : Unseen 0x1c0000000400400 π) (s : State) :
    π (radioTransmitOp s) = π s := by
  dsimp only [radioTransmitOp]
  repeat' first
    | with_reducible rfl
    | with_reducible refine (State.takeAny_only (hU.mono (by decide)) _ _).trans ?_
    | with_reducible refine (hU.wrapBy (by first | decide | (simp only [wrOk, faultOk, tallyOk, bumpOk, commitOk, List.all_cons, List.all_nil, Bool.and_true, Reg.PORT_ZYP_TX_blk, port_bit (m := 0x1c0000000400400) (by decide)] <;> decide) | (split <;> decide) | (split <;> simp only [wrOk, faultOk, tallyOk, bumpOk, commitOk, List.all_cons, List.all_nil, Bool.and_true, Reg.PORT_ZYP_TX_blk, port_bit (m := 0x1c0000000400400) (by decide)] <;> decide)) _ _).trans ?_
    | fail_if_no_progress with_reducible refine (hU.zyp (by decide) _ _).trans ?_
    | with_reducible refine Unseen.ite ?_ ?_
    | intro _
    | dsimp only
    | split

theorem radioIrqOp_only {β : Type} {π : State → β} (hU : Unseen 0x1c00a0000400420 π) (received : Option (List Byte)) (s : State) :
    π (radioIrqOp received s) = π s := by
  dsimp only [radioIrqOp]
  repeat' first
    | with_reducible rfl
    | with_reducible refine (zypFrameReceiveOp_only (hU.mono (by decide)) _ _ _ _).trans ?_
    | fail_if_no_progress with_reducible refine (hU.zyp (by decide) _ _).trans ?_
    | dsimp only
    | split

theorem srpCfgWriteOp_only {β : Type} {π : State → β} (hU : Unseen 0x100000000000000 π) (v : Nat) (s : State) :
    π (srpCfgWriteOp v s) = π s := by
  dsimp only [srpCfgWriteOp]
  repeat' first
    | with_reducible rfl
    | with_reducible refine (hU.wrO (by first | decide | (simp only [wrOk, faultOk, tallyOk, bumpOk, commitOk, List.all_cons, List.all_nil, Bool.and_true] <;> decide) | (split <;> decide) | (split <;> simp only [wrOk, faultOk, tallyOk, bumpOk, commitOk, List.all_cons, List.all_nil, Bool.and_true] <;> decide)) _ _).trans ?_

theorem rosterOp_only {β : Type} {π : State → β} (hU : Unseen 0x1708001c7c0620 π) (c : Cmd) (data : List Byte) (s : State) :
    π (rosterOp c data s) = π s := by
  dsimp only [rosterOp]
  repeat' first
    | with_reducible rfl
    | with_reducible refine (State.finish_only (hU.mono (by decide)) _ _ _ _ _).trans ?_
    | with_reducible refine (State.rosterApply_only (hU.mono (by decide)) _ _).trans ?_
    | with_reducible refine (State.epochInput_only (hU.mono (by decide)) _ _ _ _).trans ?_
    | with_reducible refine (State.hostCmd_only (hU.mono (by decide)) _ _ _ _ ?_).trans ?_
    | with_reducible refine Unseen.ite ?_ ?_
    | intro _
    | split

theorem statusReadOp_only {β : Type} {π : State → β} (hU : Unseen 0x200 π) (c : Cmd) (s : State) :
    π (statusReadOp c s) = π s := by
  dsimp only [statusReadOp]
  repeat' first
    | with_reducible rfl
    | with_reducible refine (State.finish_only (hU.mono (by decide)) _ _ _ _ _).trans ?_
    | with_reducible refine (State.hostCmd_only (hU.mono (by decide)) _ _ _ _ ?_).trans ?_
    | with_reducible refine (State.finishData_only (hU.mono (by decide)) _ _ _).trans ?_
    | with_reducible refine Unseen.ite ?_ ?_
    | intro _
    | split

theorem zypCommitOp_only {β : Type} {π : State → β} (hU : Unseen 0x40000008000008 π) (s : State) :
    π (zypCommitOp s) = π s := by
  dsimp only [zypCommitOp]
  repeat' first
    | with_reducible rfl
    | with_reducible refine (hU.commit (by first | decide | (simp only [wrOk, faultOk, tallyOk, bumpOk, commitOk, List.all_cons, List.all_nil, Bool.and_true] <;> decide) | (split <;> decide) | (split <;> simp only [wrOk, faultOk, tallyOk, bumpOk, commitOk, List.all_cons, List.all_nil, Bool.and_true] <;> decide)) _ _).trans ?_

theorem netCommitOp_only {β : Type} {π : State → β} (hU : Unseen 0x80c088000a000428 π) (b : Bool) (s : State) :
    π (netCommitOp b s) = π s := by
  dsimp only [netCommitOp]
  repeat' first
    | with_reducible rfl
    | with_reducible refine (State.closeClients_only (hU.mono (by decide)) _ _).trans ?_
    | with_reducible refine (hU.commit (by first | decide | (simp only [wrOk, faultOk, tallyOk, bumpOk, commitOk, List.all_cons, List.all_nil, Bool.and_true] <;> decide) | (split <;> decide) | (split <;> simp only [wrOk, faultOk, tallyOk, bumpOk, commitOk, List.all_cons, List.all_nil, Bool.and_true] <;> decide)) _ _).trans ?_
    | with_reducible refine Unseen.ite ?_ ?_
    | intro _
    | split


/-! ## Twin -/

theorem State.fjrBump_only {β : Type} {π : State → β} {m : Nat} (h0 : Unseen m π) (hm : 0x400080000000420 &&& m = 0x400080000000420) (s : State) (f : Fld) (bf : bumpOk m f Reg.FJR_FAULT_CNT_SAT = true) :
    π (State.fjrBump s f) = π s := by
  have hU := h0.mono hm
  dsimp only [State.fjrBump]
  repeat' first
    | with_reducible rfl
    | with_reducible refine (h0.bump bf _).trans ?_
    | with_reducible refine (hU.bump (by first | decide | (simp only [wrOk, faultOk, tallyOk, bumpOk, commitOk, List.all_cons, List.all_nil, Bool.and_true] <;> decide) | (split <;> decide) | (split <;> simp only [wrOk, faultOk, tallyOk, bumpOk, commitOk, List.all_cons, List.all_nil, Bool.and_true] <;> decide)) _).trans ?_

theorem State.noteMismatch_only {β : Type} {π : State → β} (hU : Unseen 0x400080000000420 π) (s : State) (epoch : Nat) (diff : Nat) (peer : Bool) :
    π (State.noteMismatch s epoch diff peer) = π s := by
  dsimp only [State.noteMismatch]
  repeat' first
    | with_reducible rfl
    | with_reducible refine (State.fjrBump_only hU (by decide) _ _ (by first | decide | (simp only [wrOk, faultOk, tallyOk, bumpOk, commitOk, List.all_cons, List.all_nil, Bool.and_true] <;> decide) | (split <;> decide) | (split <;> simp only [wrOk, faultOk, tallyOk, bumpOk, commitOk, List.all_cons, List.all_nil, Bool.and_true] <;> decide))).trans ?_
    | with_reducible refine (hU.fault (by first | decide | (simp only [wrOk, faultOk, tallyOk, bumpOk, commitOk, List.all_cons, List.all_nil, Bool.and_true] <;> decide) | (split <;> decide) | (split <;> simp only [wrOk, faultOk, tallyOk, bumpOk, commitOk, List.all_cons, List.all_nil, Bool.and_true] <;> decide)) _).trans ?_
    | with_reducible refine (hU.wrO (by first | decide | (simp only [wrOk, faultOk, tallyOk, bumpOk, commitOk, List.all_cons, List.all_nil, Bool.and_true] <;> decide) | (split <;> decide) | (split <;> simp only [wrOk, faultOk, tallyOk, bumpOk, commitOk, List.all_cons, List.all_nil, Bool.and_true] <;> decide)) _ _).trans ?_
    | dsimp only

theorem State.toRejoin_only {β : Type} {π : State → β} (hU : Unseen 0xa4028c00927c06e0 π) (s : State) :
    π (State.toRejoin s) = π s := by
  dsimp only [State.toRejoin]
  repeat' first
    | with_reducible rfl
    | with_reducible refine (State.enterMode_only (hU.mono (by decide)) _ _).trans ?_
    | with_reducible refine (State.abandonEpoch_only (hU.mono (by decide)) _).trans ?_
    | with_reducible refine (hU.wrO (by first | decide | (simp only [wrOk, faultOk, tallyOk, bumpOk, commitOk, List.all_cons, List.all_nil, Bool.and_true] <;> decide) | (split <;> decide) | (split <;> simp only [wrOk, faultOk, tallyOk, bumpOk, commitOk, List.all_cons, List.all_nil, Bool.and_true] <;> decide)) _ _).trans ?_
    | fail_if_no_progress with_reducible refine (hU.twn (by decide) _ _).trans ?_
    | with_reducible refine Unseen.ite ?_ ?_
    | split

theorem linkHelloOp_only {β : Type} {π : State → β} (hU : Unseen 0x400000010400420 π) (h : HelloMsg) (s : State) :
    π (linkHelloOp h s) = π s := by
  dsimp only [linkHelloOp]
  repeat' first
    | with_reducible rfl
    | with_reducible refine (State.raiseBoot_only (hU.mono (by decide)) _ _).trans ?_
    | with_reducible refine (State.linkPut_only (hU.mono (by decide)) _ _ _).trans ?_
    | with_reducible refine (hU.fault (by first | decide | (simp only [wrOk, faultOk, tallyOk, bumpOk, commitOk, List.all_cons, List.all_nil, Bool.and_true] <;> decide) | (split <;> decide) | (split <;> simp only [wrOk, faultOk, tallyOk, bumpOk, commitOk, List.all_cons, List.all_nil, Bool.and_true] <;> decide)) _).trans ?_
    | with_reducible refine (hU.wrO (by first | decide | (simp only [wrOk, faultOk, tallyOk, bumpOk, commitOk, List.all_cons, List.all_nil, Bool.and_true] <;> decide) | (split <;> decide) | (split <;> simp only [wrOk, faultOk, tallyOk, bumpOk, commitOk, List.all_cons, List.all_nil, Bool.and_true] <;> decide)) _ _).trans ?_
    | fail_if_no_progress with_reducible refine (hU.twn (by decide) _ _).trans ?_
    | with_reducible refine Unseen.ite ?_ ?_
    | split

theorem laneLossOp_only {β : Type} {π : State → β} (hU : Unseen 0x400000000000020 π) (lane : Nat) (s : State) :
    π (laneLossOp lane s) = π s := by
  dsimp only [laneLossOp]
  repeat' first
    | with_reducible rfl
    | with_reducible refine (hU.fault (by first | decide | (simp only [wrOk, faultOk, tallyOk, bumpOk, commitOk, List.all_cons, List.all_nil, Bool.and_true] <;> decide) | (split <;> decide) | (split <;> simp only [wrOk, faultOk, tallyOk, bumpOk, commitOk, List.all_cons, List.all_nil, Bool.and_true] <;> decide)) _).trans ?_
    | with_reducible refine (hU.wrO (by first | decide | (simp only [wrOk, faultOk, tallyOk, bumpOk, commitOk, List.all_cons, List.all_nil, Bool.and_true] <;> decide) | (split <;> decide) | (split <;> simp only [wrOk, faultOk, tallyOk, bumpOk, commitOk, List.all_cons, List.all_nil, Bool.and_true] <;> decide)) _ _).trans ?_
    | with_reducible refine Unseen.ite ?_ ?_
    | split

theorem State.takeLack_only {β : Type} {π : State → β} (hU : Unseen 0x10000000 π) (s : State) (lack : Nat) :
    π (State.takeLack s lack) = π s := by
  dsimp only [State.takeLack]
  repeat' first
    | with_reducible rfl
    | fail_if_no_progress with_reducible refine (hU.twn (by decide) _ _).trans ?_
    | with_reducible refine Unseen.ite ?_ ?_
    | intro _
    | dsimp only
    | split

theorem State.takeIdle_only {β : Type} {π : State → β} (hU : Unseen 0x400000010000000 π) (s : State) (m : List Nat) :
    π (State.takeIdle s m) = π s := by
  dsimp only [State.takeIdle]
  repeat' first
    | with_reducible rfl
    | with_reducible refine (hU.wrO (by first | decide | (simp only [wrOk, faultOk, tallyOk, bumpOk, commitOk, List.all_cons, List.all_nil, Bool.and_true] <;> decide) | (split <;> decide) | (split <;> simp only [wrOk, faultOk, tallyOk, bumpOk, commitOk, List.all_cons, List.all_nil, Bool.and_true] <;> decide)) _ _).trans ?_
    | fail_if_no_progress with_reducible refine (hU.twn (by decide) _ _).trans ?_
    | with_reducible refine Unseen.ite ?_ ?_
    | split

theorem linkFrameRxOp_only {β : Type} {π : State → β} (hU : Unseen 0x400080010000420 π) (f : List Byte) (s : State) :
    π (linkFrameRxOp f s) = π s := by
  dsimp only [linkFrameRxOp]
  repeat' first
    | with_reducible rfl
    | with_reducible refine (State.takeIdle_only (hU.mono (by decide)) _ _).trans ?_
    | with_reducible refine (State.takeLack_only (hU.mono (by decide)) _ _).trans ?_
    | with_reducible refine (State.linkChute_only (hU.mono (by decide)) _ _ _ _).trans ?_
    | with_reducible refine (State.fjrBump_only hU (by decide) _ _ (by first | decide | (simp only [wrOk, faultOk, tallyOk, bumpOk, commitOk, List.all_cons, List.all_nil, Bool.and_true] <;> decide) | (split <;> decide) | (split <;> simp only [wrOk, faultOk, tallyOk, bumpOk, commitOk, List.all_cons, List.all_nil, Bool.and_true] <;> decide))).trans ?_
    | with_reducible refine (hU.fault (by first | decide | (simp only [wrOk, faultOk, tallyOk, bumpOk, commitOk, List.all_cons, List.all_nil, Bool.and_true] <;> decide) | (split <;> decide) | (split <;> simp only [wrOk, faultOk, tallyOk, bumpOk, commitOk, List.all_cons, List.all_nil, Bool.and_true] <;> decide)) _).trans ?_
    | fail_if_no_progress with_reducible refine (hU.twn (by decide) _ _).trans ?_
    | with_reducible refine Unseen.ite ?_ ?_
    | dsimp only
    | split

theorem State.resend_only {β : Type} {π : State → β} (hU : Unseen 0x10000000 π) (s : State) (x0 : Nat) (x1 : List (Nat × List Nat)) :
    π (State.resend s x0 x1) = π s := by
  induction x1 generalizing s x0 with
  | nil =>
    dsimp only [State.resend]
    repeat' first
      | with_reducible rfl
      | with_reducible refine (ih ..).trans ?_
      | with_reducible refine (State.linkOut_only (hU.mono (by decide)) _ _ _ _).trans ?_
      | dsimp only
  | cons a k ih =>
    dsimp only [State.resend]
    repeat' first
      | with_reducible rfl
      | with_reducible refine (ih ..).trans ?_
      | with_reducible refine (State.linkOut_only (hU.mono (by decide)) _ _ _ _).trans ?_
      | dsimp only

theorem linkRetransmitOp_only {β : Type} {π : State → β} (hU : Unseen 0x400000010000000 π) (s : State) :
    π (linkRetransmitOp s) = π s := by
  dsimp only [linkRetransmitOp]
  repeat' first
    | with_reducible rfl
    | with_reducible refine (State.resend_only (hU.mono (by decide)) _ _ _).trans ?_
    | with_reducible refine (hU.wrapBy (by first | decide | (simp only [wrOk, faultOk, tallyOk, bumpOk, commitOk, List.all_cons, List.all_nil, Bool.and_true] <;> decide) | (split <;> decide) | (split <;> simp only [wrOk, faultOk, tallyOk, bumpOk, commitOk, List.all_cons, List.all_nil, Bool.and_true] <;> decide)) _ _).trans ?_
    | with_reducible refine Unseen.ite ?_ ?_
    | split

theorem linkIdleTxOp_only {β : Type} {π : State → β} (hU : Unseen 0x10000400 π) (s : State) :
    π (linkIdleTxOp s) = π s := by
  dsimp only [linkIdleTxOp]
  repeat' first
    | with_reducible rfl
    | with_reducible refine (State.linkSend_only (hU.mono (by decide)) _ _ _).trans ?_

theorem linkDownOp_only {β : Type} {π : State → β} (hU : Unseen 0xa6028c00927c16e0 π) (s : State) :
    π (linkDownOp s) = π s := by
  dsimp only [linkDownOp]
  repeat' first
    | with_reducible rfl
    | with_reducible refine (State.loseTwin_only (hU.mono (by decide)) _).trans ?_
    | with_reducible refine (State.toRejoin_only (hU.mono (by decide)) _).trans ?_
    | with_reducible refine (State.fjrBump_only hU (by decide) _ _ (by first | decide | (simp only [wrOk, faultOk, tallyOk, bumpOk, commitOk, List.all_cons, List.all_nil, Bool.and_true] <;> decide) | (split <;> decide) | (split <;> simp only [wrOk, faultOk, tallyOk, bumpOk, commitOk, List.all_cons, List.all_nil, Bool.and_true] <;> decide))).trans ?_
    | with_reducible refine (State.abandonEpoch_only (hU.mono (by decide)) _).trans ?_
    | with_reducible refine (hU.wrO (by first | decide | (simp only [wrOk, faultOk, tallyOk, bumpOk, commitOk, List.all_cons, List.all_nil, Bool.and_true] <;> decide) | (split <;> decide) | (split <;> simp only [wrOk, faultOk, tallyOk, bumpOk, commitOk, List.all_cons, List.all_nil, Bool.and_true] <;> decide)) _ _).trans ?_
    | with_reducible refine (hU.fault (by first | decide | (simp only [wrOk, faultOk, tallyOk, bumpOk, commitOk, List.all_cons, List.all_nil, Bool.and_true] <;> decide) | (split <;> decide) | (split <;> simp only [wrOk, faultOk, tallyOk, bumpOk, commitOk, List.all_cons, List.all_nil, Bool.and_true] <;> decide)) _).trans ?_
    | fail_if_no_progress with_reducible refine (hU.twn (by decide) _ _).trans ?_
    | with_reducible refine Unseen.ite ?_ ?_
    | dsimp only
    | split

theorem loneAfterTimeoutOp_only {β : Type} {π : State → β} (hU : Unseen 0x10000000 π) (s : State) :
    π (loneAfterTimeoutOp s) = π s := by
  dsimp only [loneAfterTimeoutOp]
  repeat' first
    | with_reducible rfl
    | fail_if_no_progress with_reducible refine (hU.twn (by decide) _ _).trans ?_
    | with_reducible refine Unseen.ite ?_ ?_
    | split

theorem State.followFleet_only {β : Type} {π : State → β} (hU : Unseen 0x1d00c0010440e22 π) (s : State) (l : Level) :
    π (State.followFleet s l) = π s := by
  dsimp only [State.followFleet]
  repeat' first
    | with_reducible rfl
    | with_reducible refine (State.changeRecord_only (hU.mono (by decide)) _).trans ?_
    | with_reducible refine (State.trapFrame_only (hU.mono (by decide)) _ _ _).trans ?_
    | with_reducible refine (State.meetAll_only (hU.mono (by decide)) _ _).trans ?_
    | with_reducible refine (State.setFleet_only (hU.mono (by decide)) _ _).trans ?_
    | with_reducible refine (State.clearStop_only (hU.mono (by decide)) _).trans ?_
    | with_reducible refine (hU.wrAll (by first | decide | (simp only [wrOk, faultOk, tallyOk, bumpOk, commitOk, List.all_cons, List.all_nil, Bool.and_true, holdCauses] <;> decide) | (split <;> decide) | (split <;> simp only [wrOk, faultOk, tallyOk, bumpOk, commitOk, List.all_cons, List.all_nil, Bool.and_true, holdCauses] <;> decide) | (simp only [holdCauses]; split <;> decide)) _ _).trans ?_
    | with_reducible refine (hU.wrO (by first | decide | (simp only [wrOk, faultOk, tallyOk, bumpOk, commitOk, List.all_cons, List.all_nil, Bool.and_true, holdCauses] <;> decide) | (split <;> decide) | (split <;> simp only [wrOk, faultOk, tallyOk, bumpOk, commitOk, List.all_cons, List.all_nil, Bool.and_true, holdCauses] <;> decide) | (simp only [holdCauses]; split <;> decide)) _ _).trans ?_
    | fail_if_no_progress with_reducible refine (hU.trp (by decide) _ _).trans ?_
    | with_reducible refine Unseen.ite ?_ ?_
    | split

theorem State.followOwn_only {β : Type} {π : State → β} (hU : Unseen 0x1d0080010440c22 π) (s : State) (r : Nat) (v : Nat) :
    π (State.followOwn s r v) = π s := by
  dsimp only [State.followOwn]
  repeat' first
    | with_reducible rfl
    | with_reducible refine (State.changeRecord_only (hU.mono (by decide)) _).trans ?_
    | with_reducible refine (State.trapFrame_only (hU.mono (by decide)) _ _ _).trans ?_
    | with_reducible refine (State.ownGo_only (hU.mono (by decide)) _ _).trans ?_
    | with_reducible refine (State.meetAll_only (hU.mono (by decide)) _ _).trans ?_
    | with_reducible refine (hU.wrO (by first | decide | (simp only [wrOk, faultOk, tallyOk, bumpOk, commitOk, List.all_cons, List.all_nil, Bool.and_true, Reg.TRP_ROBOT_OWN_blk] <;> decide) | (split <;> decide) | (split <;> simp only [wrOk, faultOk, tallyOk, bumpOk, commitOk, List.all_cons, List.all_nil, Bool.and_true, Reg.TRP_ROBOT_OWN_blk] <;> decide)) _ _).trans ?_
    | fail_if_no_progress with_reducible refine (hU.epo (by decide) _ _).trans ?_
    | with_reducible refine Unseen.ite ?_ ?_
    | split

theorem State.followStates_only {β : Type} {π : State → β} (hU : Unseen 0x1d00c0010440e22 π) (s : State) (fleet : Nat) (own : List (Fin 256 × Fin 3)) :
    π (State.followStates s fleet own) = π s := by
  dsimp only [State.followStates]
  repeat' first
    | with_reducible rfl
    | with_reducible refine (State.followOwn_only (hU.mono (by decide)) _ _ _).trans ?_
    | with_reducible refine (State.followFleet_only (hU.mono (by decide)) _ _).trans ?_
    | with_reducible refine (Unseen.foldl _ ?_ _ _).trans ?_
    | intro _
    | dsimp only

theorem stateFrameOp_only {β : Type} {π : State → β} (hU : Unseen 0x1d00c0010440e22 π) (fleet : Nat) (own : List (Fin 256 × Fin 3)) (s : State) :
    π (stateFrameOp fleet own s) = π s := by
  dsimp only [stateFrameOp]
  repeat' first
    | with_reducible rfl
    | with_reducible refine (State.sendState_only (hU.mono (by decide)) _).trans ?_
    | with_reducible refine (State.followStates_only (hU.mono (by decide)) _ _ _).trans ?_
    | with_reducible refine Unseen.ite ?_ ?_
    | dsimp only
    | split

theorem stopHold_ok {m : Nat} {stop : Bool} {k : Nat} {f : Fld}
    (h : (if stop then stopCauses else holdCauses).find? (fun f => f.lo == k) = some f) (b : (stopCauses ++ holdCauses).all (wrOk m) = true := by decide) :
    wrOk m f = true := by
  rw [List.all_append, Bool.and_eq_true, List.all_eq_true, List.all_eq_true] at b
  have := List.mem_of_find?_eq_some h
  split at this
  · exact b.1 f this
  · exact b.2 f this

theorem own_ok {m : Nat} {r k : Nat} {f : Fld} (h : (ownCauses r).find? (fun f => f.lo == k) = some f) (b : m.testBit 52 = true := by decide) : wrOk m f = true := by
  have := List.mem_of_find?_eq_some h
  simp only [ownCauses, List.mem_cons, List.not_mem_nil, or_false] at this
  rcases this with rfl | rfl | rfl | rfl | rfl | rfl <;> simp only [wrOk, Reg.TRP_ROBOT_HOST_blk, Reg.TRP_ROBOT_INTEGRITY_blk, Reg.TRP_ROBOT_COAST_blk,
    Reg.TRP_ROBOT_ENVELOPE_blk, Reg.TRP_ROBOT_LOOP_LOST_blk, Reg.TRP_ROBOT_MAP_LOST_blk, b]

theorem restrictFrameOp_only {β : Type} {π : State → β} (hU : Unseen 0xa1d08e0092740ee2 π) (stop : Bool) (robot : Option Nat) (cause : Nat) (s : State) :
    π (restrictFrameOp stop robot cause s) = π s := by
  dsimp only [restrictFrameOp]
  repeat' first
    | with_reducible rfl
    | exact State.raiseFleet_only hU (by decide) _ _ _ (stopHold_ok (by assumption))
    | exact State.raiseOwn_only hU (by decide) _ _ _ _ (own_ok (by assumption))
    | with_reducible refine (State.raiseOwn_only hU (by decide) _ _ _ _ (by first | decide | (simp only [wrOk, faultOk, tallyOk, bumpOk, commitOk, List.all_cons, List.all_nil, Bool.and_true, holdCauses, ownCauses, stopCauses, Reg.TRP_ROBOT_COAST_blk, Reg.TRP_ROBOT_ENVELOPE_blk, Reg.TRP_ROBOT_HOST_blk, Reg.TRP_ROBOT_INTEGRITY_blk, Reg.TRP_ROBOT_LOOP_LOST_blk, Reg.TRP_ROBOT_MAP_LOST_blk] <;> decide) | (split <;> decide) | (split <;> simp only [wrOk, faultOk, tallyOk, bumpOk, commitOk, List.all_cons, List.all_nil, Bool.and_true, holdCauses, ownCauses, stopCauses, Reg.TRP_ROBOT_COAST_blk, Reg.TRP_ROBOT_ENVELOPE_blk, Reg.TRP_ROBOT_HOST_blk, Reg.TRP_ROBOT_INTEGRITY_blk, Reg.TRP_ROBOT_LOOP_LOST_blk, Reg.TRP_ROBOT_MAP_LOST_blk] <;> decide) | (simp only [holdCauses, ownCauses, stopCauses]; split <;> decide))).trans ?_
    | with_reducible refine (State.raiseFleet_only hU (by decide) _ _ _ (by first | decide | (simp only [wrOk, faultOk, tallyOk, bumpOk, commitOk, List.all_cons, List.all_nil, Bool.and_true, holdCauses, ownCauses, stopCauses, Reg.TRP_ROBOT_COAST_blk, Reg.TRP_ROBOT_ENVELOPE_blk, Reg.TRP_ROBOT_HOST_blk, Reg.TRP_ROBOT_INTEGRITY_blk, Reg.TRP_ROBOT_LOOP_LOST_blk, Reg.TRP_ROBOT_MAP_LOST_blk] <;> decide) | (split <;> decide) | (split <;> simp only [wrOk, faultOk, tallyOk, bumpOk, commitOk, List.all_cons, List.all_nil, Bool.and_true, holdCauses, ownCauses, stopCauses, Reg.TRP_ROBOT_COAST_blk, Reg.TRP_ROBOT_ENVELOPE_blk, Reg.TRP_ROBOT_HOST_blk, Reg.TRP_ROBOT_INTEGRITY_blk, Reg.TRP_ROBOT_LOOP_LOST_blk, Reg.TRP_ROBOT_MAP_LOST_blk] <;> decide) | (simp only [holdCauses, ownCauses, stopCauses]; split <;> decide))).trans ?_
    | with_reducible refine Unseen.ite ?_ ?_
    | intro _
    | dsimp only
    | split

theorem State.openHead_only {β : Type} {π : State → β} (hU : Unseen 0x20000000c0020 π) (s : State) (slot : Nat) (t0 : YTime) (fleet : Nat) (own : List (Fin 256 × Fin 4)) :
    π (State.openHead s slot t0 fleet own) = π s := by
  dsimp only [State.openHead]
  repeat' first
    | with_reducible rfl
    | with_reducible refine (State.expireTo_only (hU.mono (by decide)) _ _).trans ?_
    | fail_if_no_progress with_reducible refine (hU.epo (by decide) _ _).trans ?_
    | with_reducible refine Unseen.ite ?_ ?_
    | intro _
    | dsimp only
    | split

theorem State.setImage_only {β : Type} {π : State → β} (hU : Unseen 0x8000000300008 π) (s : State) (k : EpochKind) (words : List (Nat × Nat)) (regs : List Nat) :
    π (State.setImage s k words regs) = π s := by
  dsimp only [State.setImage]
  repeat' first
    | with_reducible rfl
    | with_reducible refine (hU.wrShadow (by decide) _ _ _).trans ?_
    | fail_if_no_progress with_reducible refine (hU.trk (by decide) _ _).trans ?_
    | fail_if_no_progress with_reducible refine (hU.gov (by decide) _ _).trans ?_
    | fail_if_no_progress with_reducible refine (hU.trk_gov (by decide) (by decide) _ _ _).trans ?_
    | with_reducible refine (Unseen.foldl _ ?_ _ _).trans ?_
    | intro _
    | dsimp only
    | split

theorem State.takeInput_only {β : Type} {π : State → β} (hU : Unseen 0x40000 π) (s : State) (k : EpochKind) (adm : Nat) :
    π (State.takeInput s k adm) = π s := by
  dsimp only [State.takeInput]
  repeat' first
    | with_reducible rfl
    | fail_if_no_progress with_reducible refine (hU.epo (by decide) _ _).trans ?_

theorem State.takeListed_only {β : Type} {π : State → β} (hU : Unseen 0x40000 π) (s : State) (adm : Nat) (op : RobotOp) :
    π (State.takeListed s adm op) = π s := by
  dsimp only [State.takeListed]
  repeat' first
    | with_reducible rfl
    | fail_if_no_progress with_reducible refine (hU.epo (by decide) _ _).trans ?_

theorem State.takeRef_only {β : Type} {π : State → β} (hU : Unseen 0x400080010040420 π) (s : State) (r : ZypRef) :
    π (State.takeRef s r) = π s := by
  dsimp only [State.takeRef]
  repeat' first
    | with_reducible rfl
    | with_reducible refine (State.takeListed_only (hU.mono (by decide)) _ _ _).trans ?_
    | with_reducible refine (State.fjrBump_only hU (by decide) _ _ (by first | decide | (simp only [wrOk, faultOk, tallyOk, bumpOk, commitOk, List.all_cons, List.all_nil, Bool.and_true] <;> decide) | (split <;> decide) | (split <;> simp only [wrOk, faultOk, tallyOk, bumpOk, commitOk, List.all_cons, List.all_nil, Bool.and_true] <;> decide))).trans ?_
    | with_reducible refine (State.linkSend_only (hU.mono (by decide)) _ _ _).trans ?_
    | fail_if_no_progress with_reducible refine (hU.twn (by decide) _ _).trans ?_
    | dsimp only
    | split

theorem State.takeCells_only {β : Type} {π : State → β} (hU : Unseen 0x80000 π) (s : State) (cells : List (BitVec 23)) :
    π (State.takeCells s cells) = π s := by
  dsimp only [State.takeCells]
  repeat' first
    | with_reducible rfl
    | fail_if_no_progress with_reducible refine (hU.ldr (by decide) _ _).trans ?_
    | with_reducible refine Unseen.ite ?_ ?_
    | with_reducible refine (Unseen.foldl _ ?_ _ _).trans ?_
    | intro _
    | split

theorem State.takePositions_only {β : Type} {π : State → β} (hU : Unseen 0x40000 π) (s : State) (l : List (Fin 256 × PosRec)) :
    π (State.takePositions s l) = π s := by
  dsimp only [State.takePositions]
  repeat' first
    | with_reducible rfl
    | fail_if_no_progress with_reducible refine (hU.epo (by decide) _ _).trans ?_
    | with_reducible refine (Unseen.foldl _ ?_ _ _).trans ?_
    | intro _
    | dsimp only

theorem State.takeHeadEntry_only {β : Type} {π : State → β} (hU : Unseen 0x4020100000c0020 π) (s : State) (n : Nat) (slot : Nat) (t0 : YTime) (fleet : Nat) (own : List (Fin 256 × Fin 4)) :
    π (State.takeHeadEntry s n slot t0 fleet own) = π s := by
  dsimp only [State.takeHeadEntry]
  repeat' first
    | with_reducible rfl
    | with_reducible refine (State.openHead_only (hU.mono (by decide)) _ _ _ _ _).trans ?_
    | with_reducible refine (hU.wrO (by first | decide | (simp only [wrOk, faultOk, tallyOk, bumpOk, commitOk, List.all_cons, List.all_nil, Bool.and_true] <;> decide) | (split <;> decide) | (split <;> simp only [wrOk, faultOk, tallyOk, bumpOk, commitOk, List.all_cons, List.all_nil, Bool.and_true] <;> decide)) _ _).trans ?_
    | with_reducible refine Unseen.ite ?_ ?_
    | dsimp only
    | split

theorem State.takeEntry_only {β : Type} {π : State → β} (hU : Unseen 0x40a0900103c0428 π) (s : State) (e : InputEntry) :
    π (State.takeEntry s e) = π s := by
  dsimp only [State.takeEntry]
  repeat' first
    | with_reducible rfl
    | with_reducible refine (State.takeCells_only (hU.mono (by decide)) _ _).trans ?_
    | with_reducible refine (State.takeRef_only (hU.mono (by decide)) _ _).trans ?_
    | with_reducible refine (State.takeInput_only (hU.mono (by decide)) _ _ _).trans ?_
    | with_reducible refine (State.takePositions_only (hU.mono (by decide)) _ _).trans ?_
    | with_reducible refine (State.takeHeadEntry_only (hU.mono (by decide)) _ _ _ _ _ _).trans ?_
    | with_reducible refine (State.setImage_only (hU.mono (by decide)) _ _ _ _).trans ?_
    | fail_if_no_progress with_reducible refine (hU.epo (by decide) _ _).trans ?_
    | with_reducible refine Unseen.ite ?_ ?_
    | dsimp only
    | split

theorem inputFrameOp_only {β : Type} {π : State → β} (hU : Unseen 0x40a0900103c0428 π) (es : List InputEntry) (s : State) :
    π (inputFrameOp es s) = π s := by
  dsimp only [inputFrameOp]
  repeat' first
    | with_reducible rfl
    | with_reducible refine (State.takeEntry_only (hU.mono (by decide)) _ _).trans ?_
    | with_reducible refine Unseen.ite ?_ ?_
    | with_reducible refine (Unseen.foldl _ ?_ _ _).trans ?_
    | intro _
    | split

theorem fetchOp_only {β : Type} {π : State → β} (hU : Unseen 0x10000400 π) (r : ZypRef) (s : State) :
    π (fetchOp r s) = π s := by
  dsimp only [fetchOp]
  repeat' first
    | with_reducible rfl
    | with_reducible refine (State.linkSend_only (hU.mono (by decide)) _ _ _).trans ?_
    | with_reducible refine Unseen.ite ?_ ?_
    | dsimp only
    | split

theorem fillOp_only {β : Type} {π : State → β} (hU : Unseen 0x10040000 π) (r : ZypRef) (f : List Byte) (s : State) :
    π (fillOp r f s) = π s := by
  dsimp only [fillOp]
  repeat' first
    | with_reducible rfl
    | with_reducible refine (State.takeListed_only (hU.mono (by decide)) _ _ _).trans ?_
    | fail_if_no_progress with_reducible refine (hU.twn (by decide) _ _).trans ?_
    | with_reducible refine Unseen.ite ?_ ?_
    | intro _
    | dsimp only
    | split

theorem prepareOp_only {β : Type} {π : State → β} (hU : Unseen 0x10000400 π) (p : PrepMsg) (s : State) :
    π (prepareOp p s) = π s := by
  dsimp only [prepareOp]
  repeat' first
    | with_reducible rfl
    | with_reducible refine (State.sendAck_only (hU.mono (by decide)) _).trans ?_
    | fail_if_no_progress with_reducible refine (hU.twn (by decide) _ _).trans ?_
    | with_reducible refine Unseen.ite ?_ ?_
    | split

theorem ackOp_only {β : Type} {π : State → β} (hU : Unseen 0xa5d28e00927c0ee2 π) (a : AckMsg) (us : Nat) (s : State) :
    π (ackOp a us s) = π s := by
  dsimp only [ackOp]
  repeat' first
    | with_reducible rfl
    | with_reducible refine (State.noteMismatch_only (hU.mono (by decide)) _ _ _ _).trans ?_
    | with_reducible refine (State.tallyAdd_only (hU.mono (by decide)) _ _ _).trans ?_
    | with_reducible refine (State.assure_only (hU.mono (by decide)) _).trans ?_
    | with_reducible refine (State.raiseFleet_only hU (by decide) _ _ _ (by first | decide | (simp only [wrOk, faultOk, tallyOk, bumpOk, commitOk, List.all_cons, List.all_nil, Bool.and_true] <;> decide) | (split <;> decide) | (split <;> simp only [wrOk, faultOk, tallyOk, bumpOk, commitOk, List.all_cons, List.all_nil, Bool.and_true] <;> decide))).trans ?_
    | with_reducible refine (State.abandonEpoch_only (hU.mono (by decide)) _).trans ?_
    | with_reducible refine (State.linkSend_only (hU.mono (by decide)) _ _ _).trans ?_
    | with_reducible refine (hU.wrO (by first | decide | (simp only [wrOk, faultOk, tallyOk, bumpOk, commitOk, List.all_cons, List.all_nil, Bool.and_true] <;> decide) | (split <;> decide) | (split <;> simp only [wrOk, faultOk, tallyOk, bumpOk, commitOk, List.all_cons, List.all_nil, Bool.and_true] <;> decide)) _ _).trans ?_
    | fail_if_no_progress with_reducible refine (hU.twn (by decide) _ _).trans ?_
    | with_reducible refine Unseen.ite ?_ ?_
    | dsimp only
    | split

theorem ackLateOp_only {β : Type} {π : State → β} (hU : Unseen 0xa5d28f00927c0ee2 π) (s : State) :
    π (ackLateOp s) = π s := by
  dsimp only [ackLateOp]
  repeat' first
    | with_reducible rfl
    | with_reducible refine (State.overrun_only (hU.mono (by decide)) _).trans ?_
    | with_reducible refine (State.fjrBump_only hU (by decide) _ _ (by first | decide | (simp only [wrOk, faultOk, tallyOk, bumpOk, commitOk, List.all_cons, List.all_nil, Bool.and_true] <;> decide) | (split <;> decide) | (split <;> simp only [wrOk, faultOk, tallyOk, bumpOk, commitOk, List.all_cons, List.all_nil, Bool.and_true] <;> decide))).trans ?_
    | with_reducible refine (State.linkSend_only (hU.mono (by decide)) _ _ _).trans ?_
    | with_reducible refine (hU.fault (by first | decide | (simp only [wrOk, faultOk, tallyOk, bumpOk, commitOk, List.all_cons, List.all_nil, Bool.and_true] <;> decide) | (split <;> decide) | (split <;> simp only [wrOk, faultOk, tallyOk, bumpOk, commitOk, List.all_cons, List.all_nil, Bool.and_true] <;> decide)) _).trans ?_
    | fail_if_no_progress with_reducible refine (hU.twn (by decide) _ _).trans ?_
    | with_reducible refine Unseen.ite ?_ ?_
    | split

theorem commitOp_only {β : Type} {π : State → β} (hU : Unseen 0xa5df8e009efc0ef8 π) (epoch : Nat) (s : State) :
    π (commitOp epoch s) = π s := by
  dsimp only [commitOp]
  repeat' first
    | with_reducible rfl
    | with_reducible refine (State.commitEpoch_only (hU.mono (by decide)) _).trans ?_
    | with_reducible refine (State.withCompTimes_only (hU.mono (by decide)) _).trans ?_
    | with_reducible refine Unseen.ite ?_ ?_
    | split

theorem abandonOp_only {β : Type} {π : State → β} (hU : Unseen 0xa4028c00927c06e0 π) (epoch : Nat) (reason : Nat) (s : State) :
    π (abandonOp epoch reason s) = π s := by
  dsimp only [abandonOp]
  repeat' first
    | with_reducible rfl
    | with_reducible refine (State.toRejoin_only (hU.mono (by decide)) _).trans ?_
    | with_reducible refine (State.noteMismatch_only (hU.mono (by decide)) _ _ _ _).trans ?_
    | with_reducible refine (State.abandonEpoch_only (hU.mono (by decide)) _).trans ?_
    | fail_if_no_progress with_reducible refine (hU.twn (by decide) _ _).trans ?_
    | with_reducible refine Unseen.ite ?_ ?_
    | dsimp only
    | split

theorem beaconCopyOp_only {β : Type} {π : State → β} (hU : Unseen 0x1c0090000400420 π) (seq : Nat) (epoch : Nat) (body : List Byte) (s : State) :
    π (beaconCopyOp seq epoch body s) = π s := by
  dsimp only [beaconCopyOp]
  repeat' first
    | with_reducible rfl
    | with_reducible refine (State.sendLan_only (hU.mono (by decide)) _ _ _).trans ?_
    | with_reducible refine (hU.wrO (by first | decide | (simp only [wrOk, faultOk, tallyOk, bumpOk, commitOk, List.all_cons, List.all_nil, Bool.and_true] <;> decide) | (split <;> decide) | (split <;> simp only [wrOk, faultOk, tallyOk, bumpOk, commitOk, List.all_cons, List.all_nil, Bool.and_true] <;> decide)) _ _).trans ?_
    | fail_if_no_progress with_reducible refine (hU.zyp (by decide) _ _).trans ?_
    | with_reducible refine Unseen.ite ?_ ?_
    | dsimp only
    | split

theorem demoteOp_only {β : Type} {π : State → β} (hU : Unseen 0xa4028c00927c06e0 π) (s : State) :
    π (demoteOp s) = π s := by
  dsimp only [demoteOp]
  repeat' first
    | with_reducible rfl
    | with_reducible refine (State.toRejoin_only (hU.mono (by decide)) _).trans ?_
    | with_reducible refine Unseen.ite ?_ ?_
    | split

theorem State.settle_only {β : Type} {π : State → β} (hU : Unseen 0xa5df8e009efc0ef8 π) (s : State) :
    π ((State.settle s).1) = π s := by
  dsimp only [State.settle]
  repeat' first
    | with_reducible rfl
    | with_reducible refine (State.commitEpoch_only (hU.mono (by decide)) _).trans ?_
    | with_reducible refine (State.abandonEpoch_only (hU.mono (by decide)) _).trans ?_
    | with_reducible refine (State.withCompTimes_only (hU.mono (by decide)) _).trans ?_
    | fail_if_no_progress with_reducible refine (hU.twn (by decide) _ _).trans ?_
    | with_reducible refine Unseen.ite ?_ ?_
    | dsimp only
    | split

theorem State.takeover_only {β : Type} {π : State → β} (hU : Unseen 0xa7df8e009efc1efa π) (s : State) :
    π (State.takeover s) = π s := by
  dsimp only [State.takeover]
  repeat' first
    | with_reducible rfl
    | with_reducible refine (State.settle_only (hU.mono (by decide)) _).trans ?_
    | with_reducible refine (State.fjrBump_only hU (by decide) _ _ (by first | decide | (simp only [wrOk, faultOk, tallyOk, bumpOk, commitOk, List.all_cons, List.all_nil, Bool.and_true] <;> decide) | (split <;> decide) | (split <;> simp only [wrOk, faultOk, tallyOk, bumpOk, commitOk, List.all_cons, List.all_nil, Bool.and_true] <;> decide))).trans ?_
    | with_reducible refine (State.holdAt_only (hU.mono (by decide)) _ _).trans ?_
    | with_reducible refine (State.enterMode_only (hU.mono (by decide)) _ _).trans ?_
    | with_reducible refine (State.reselect_only (hU.mono (by decide)) _).trans ?_
    | with_reducible refine (State.raiseFleet_only hU (by decide) _ _ _ (by first | decide | (simp only [wrOk, faultOk, tallyOk, bumpOk, commitOk, List.all_cons, List.all_nil, Bool.and_true] <;> decide) | (split <;> decide) | (split <;> simp only [wrOk, faultOk, tallyOk, bumpOk, commitOk, List.all_cons, List.all_nil, Bool.and_true] <;> decide))).trans ?_
    | with_reducible refine (hU.fault (by first | decide | (simp only [wrOk, faultOk, tallyOk, bumpOk, commitOk, List.all_cons, List.all_nil, Bool.and_true] <;> decide) | (split <;> decide) | (split <;> simp only [wrOk, faultOk, tallyOk, bumpOk, commitOk, List.all_cons, List.all_nil, Bool.and_true] <;> decide)) _).trans ?_
    | fail_if_no_progress with_reducible refine (hU.twn (by decide) _ _).trans ?_
    | with_reducible refine Unseen.ite ?_ ?_
    | dsimp only
    | split

theorem State.tryTakeover_only {β : Type} {π : State → β} (hU : Unseen 0xa7df8e009efc1efa π) (s : State) :
    π (State.tryTakeover s) = π s := by
  dsimp only [State.tryTakeover]
  repeat' first
    | with_reducible rfl
    | with_reducible refine (State.takeover_only (hU.mono (by decide)) _).trans ?_
    | with_reducible refine (hU.fault (by first | decide | (simp only [wrOk, faultOk, tallyOk, bumpOk, commitOk, List.all_cons, List.all_nil, Bool.and_true] <;> decide) | (split <;> decide) | (split <;> simp only [wrOk, faultOk, tallyOk, bumpOk, commitOk, List.all_cons, List.all_nil, Bool.and_true] <;> decide)) _).trans ?_
    | with_reducible refine Unseen.ite ?_ ?_
    | split

theorem liveServiceMissedOp_only {β : Type} {π : State → β} (hU : Unseen 0x10000000 π) (s : State) :
    π (liveServiceMissedOp s) = π s := by
  dsimp only [liveServiceMissedOp]
  repeat' first
    | with_reducible rfl
    | with_reducible refine (State.stopLive_only (hU.mono (by decide)) _).trans ?_

theorem liveInLostOp_only {β : Type} {π : State → β} (hU : Unseen 0xa7df8e009efc1efa π) (s : State) :
    π (liveInLostOp s) = π s := by
  dsimp only [liveInLostOp]
  repeat' first
    | with_reducible rfl
    | with_reducible refine (State.tryTakeover_only (hU.mono (by decide)) _).trans ?_
    | with_reducible refine (State.assure_only (hU.mono (by decide)) _).trans ?_
    | with_reducible refine (hU.wrO (by first | decide | (simp only [wrOk, faultOk, tallyOk, bumpOk, commitOk, List.all_cons, List.all_nil, Bool.and_true] <;> decide) | (split <;> decide) | (split <;> simp only [wrOk, faultOk, tallyOk, bumpOk, commitOk, List.all_cons, List.all_nil, Bool.and_true] <;> decide)) _ _).trans ?_
    | with_reducible refine (hU.fault (by first | decide | (simp only [wrOk, faultOk, tallyOk, bumpOk, commitOk, List.all_cons, List.all_nil, Bool.and_true] <;> decide) | (split <;> decide) | (split <;> simp only [wrOk, faultOk, tallyOk, bumpOk, commitOk, List.all_cons, List.all_nil, Bool.and_true] <;> decide)) _).trans ?_
    | fail_if_no_progress with_reducible refine (hU.twn (by decide) _ _).trans ?_
    | with_reducible refine Unseen.ite ?_ ?_
    | split

theorem liveInAssertOp_only {β : Type} {π : State → β} (hU : Unseen 0x400000010000000 π) (s : State) :
    π (liveInAssertOp s) = π s := by
  dsimp only [liveInAssertOp]
  repeat' first
    | with_reducible rfl
    | with_reducible refine (hU.wrO (by first | decide | (simp only [wrOk, faultOk, tallyOk, bumpOk, commitOk, List.all_cons, List.all_nil, Bool.and_true] <;> decide) | (split <;> decide) | (split <;> simp only [wrOk, faultOk, tallyOk, bumpOk, commitOk, List.all_cons, List.all_nil, Bool.and_true] <;> decide)) _ _).trans ?_
    | fail_if_no_progress with_reducible refine (hU.twn (by decide) _ _).trans ?_

theorem claimInDeassertOp_only {β : Type} {π : State → β} (hU : Unseen 0xa7df8e009efc1efa π) (s : State) :
    π (claimInDeassertOp s) = π s := by
  dsimp only [claimInDeassertOp]
  repeat' first
    | with_reducible rfl
    | with_reducible refine (State.tryTakeover_only (hU.mono (by decide)) _).trans ?_
    | with_reducible refine (hU.wrO (by first | decide | (simp only [wrOk, faultOk, tallyOk, bumpOk, commitOk, List.all_cons, List.all_nil, Bool.and_true] <;> decide) | (split <;> decide) | (split <;> simp only [wrOk, faultOk, tallyOk, bumpOk, commitOk, List.all_cons, List.all_nil, Bool.and_true] <;> decide)) _ _).trans ?_

theorem claimInAssertOp_only {β : Type} {π : State → β} (hU : Unseen 0x400020010000000 π) (s : State) :
    π (claimInAssertOp s) = π s := by
  dsimp only [claimInAssertOp]
  repeat' first
    | with_reducible rfl
    | with_reducible refine (State.modeResult_only (hU.mono (by decide)) _ _ _).trans ?_
    | with_reducible refine (hU.wrO (by first | decide | (simp only [wrOk, faultOk, tallyOk, bumpOk, commitOk, List.all_cons, List.all_nil, Bool.and_true] <;> decide) | (split <;> decide) | (split <;> simp only [wrOk, faultOk, tallyOk, bumpOk, commitOk, List.all_cons, List.all_nil, Bool.and_true] <;> decide)) _ _).trans ?_
    | fail_if_no_progress with_reducible refine (hU.twn (by decide) _ _).trans ?_
    | with_reducible refine Unseen.ite ?_ ?_
    | split

theorem takeoverBlockedOp_only {β : Type} {π : State → β} (hU : Unseen 0xa4028c00927c06e0 π) (s : State) :
    π (takeoverBlockedOp s) = π s := by
  dsimp only [takeoverBlockedOp]
  repeat' first
    | with_reducible rfl
    | with_reducible refine (State.toRejoin_only (hU.mono (by decide)) _).trans ?_
    | with_reducible refine (hU.fault (by first | decide | (simp only [wrOk, faultOk, tallyOk, bumpOk, commitOk, List.all_cons, List.all_nil, Bool.and_true] <;> decide) | (split <;> decide) | (split <;> simp only [wrOk, faultOk, tallyOk, bumpOk, commitOk, List.all_cons, List.all_nil, Bool.and_true] <;> decide)) _).trans ?_
    | with_reducible refine Unseen.ite ?_ ?_
    | split

theorem continuityBrokenOp_only {β : Type} {π : State → β} (hU : Unseen 0x400000000000020 π) (claim : Bool) (s : State) :
    π (continuityBrokenOp claim s) = π s := by
  dsimp only [continuityBrokenOp]
  repeat' first
    | with_reducible rfl
    | with_reducible refine (hU.fault (by first | decide | (simp only [wrOk, faultOk, tallyOk, bumpOk, commitOk, List.all_cons, List.all_nil, Bool.and_true, contOf] <;> decide) | (split <;> decide) | (split <;> simp only [wrOk, faultOk, tallyOk, bumpOk, commitOk, List.all_cons, List.all_nil, Bool.and_true, contOf] <;> decide) | (simp only [contOf]; split <;> decide)) _).trans ?_
    | with_reducible refine (hU.wrO (by first | decide | (simp only [wrOk, faultOk, tallyOk, bumpOk, commitOk, List.all_cons, List.all_nil, Bool.and_true, contOf] <;> decide) | (split <;> decide) | (split <;> simp only [wrOk, faultOk, tallyOk, bumpOk, commitOk, List.all_cons, List.all_nil, Bool.and_true, contOf] <;> decide) | (simp only [contOf]; split <;> decide)) _ _).trans ?_

theorem continuityRestoredOp_only {β : Type} {π : State → β} (hU : Unseen 0x400000000000000 π) (claim : Bool) (s : State) :
    π (continuityRestoredOp claim s) = π s := by
  dsimp only [continuityRestoredOp]
  repeat' first
    | with_reducible rfl
    | with_reducible refine (hU.wrO (by first | decide | (simp only [wrOk, faultOk, tallyOk, bumpOk, commitOk, List.all_cons, List.all_nil, Bool.and_true, contOf] <;> decide) | (split <;> decide) | (split <;> simp only [wrOk, faultOk, tallyOk, bumpOk, commitOk, List.all_cons, List.all_nil, Bool.and_true, contOf] <;> decide) | (simp only [contOf]; split <;> decide)) _ _).trans ?_

theorem twinAmbiguityOp_only {β : Type} {π : State → β} (hU : Unseen 0xa5d08e0092740ee2 π) (s : State) :
    π (twinAmbiguityOp s) = π s := by
  dsimp only [twinAmbiguityOp]
  repeat' first
    | with_reducible rfl
    | with_reducible refine (State.raiseFleet_only hU (by decide) _ _ _ (by first | decide | (simp only [wrOk, faultOk, tallyOk, bumpOk, commitOk, List.all_cons, List.all_nil, Bool.and_true] <;> decide) | (split <;> decide) | (split <;> simp only [wrOk, faultOk, tallyOk, bumpOk, commitOk, List.all_cons, List.all_nil, Bool.and_true] <;> decide))).trans ?_
    | with_reducible refine (hU.fault (by first | decide | (simp only [wrOk, faultOk, tallyOk, bumpOk, commitOk, List.all_cons, List.all_nil, Bool.and_true] <;> decide) | (split <;> decide) | (split <;> simp only [wrOk, faultOk, tallyOk, bumpOk, commitOk, List.all_cons, List.all_nil, Bool.and_true] <;> decide)) _).trans ?_
    | with_reducible refine Unseen.ite ?_ ?_
    | split

theorem timeReqOp_only {β : Type} {π : State → β} (hU : Unseen 0x10000400 π) (t1 : YTime) (s : State) :
    π (timeReqOp t1 s) = π s := by
  dsimp only [timeReqOp]
  repeat' first
    | with_reducible rfl
    | with_reducible refine (State.linkSend_only (hU.mono (by decide)) _ _ _).trans ?_
    | fail_if_no_progress with_reducible refine (hU.twn (by decide) _ _).trans ?_
    | with_reducible refine Unseen.ite ?_ ?_
    | split

theorem timeRspOp_only {β : Type} {π : State → β} (hU : Unseen 0x10000000 π) (t1 : YTime) (t2 : YTime) (t3 : YTime) (t4 : YTime) (s : State) :
    π (timeRspOp t1 t2 t3 t4 s) = π s := by
  dsimp only [timeRspOp]
  repeat' first
    | with_reducible rfl
    | fail_if_no_progress with_reducible refine (hU.twn (by decide) _ _).trans ?_
    | with_reducible refine Unseen.ite ?_ ?_
    | split

theorem State.askSnapshot_only {β : Type} {π : State → β} (hU : Unseen 0x400080010000420 π) (s : State) :
    π (State.askSnapshot s) = π s := by
  dsimp only [State.askSnapshot]
  repeat' first
    | with_reducible rfl
    | with_reducible refine (State.fjrBump_only hU (by decide) _ _ (by first | decide | (simp only [wrOk, faultOk, tallyOk, bumpOk, commitOk, List.all_cons, List.all_nil, Bool.and_true] <;> decide) | (split <;> decide) | (split <;> simp only [wrOk, faultOk, tallyOk, bumpOk, commitOk, List.all_cons, List.all_nil, Bool.and_true] <;> decide))).trans ?_
    | with_reducible refine (State.linkSend_only (hU.mono (by decide)) _ _ _).trans ?_
    | with_reducible refine (hU.wrO (by first | decide | (simp only [wrOk, faultOk, tallyOk, bumpOk, commitOk, List.all_cons, List.all_nil, Bool.and_true] <;> decide) | (split <;> decide) | (split <;> simp only [wrOk, faultOk, tallyOk, bumpOk, commitOk, List.all_cons, List.all_nil, Bool.and_true] <;> decide)) _ _).trans ?_
    | fail_if_no_progress with_reducible refine (hU.twn (by decide) _ _).trans ?_

theorem State.failAttempt_only {β : Type} {π : State → β} (hU : Unseen 0x400080010000420 π) (s : State) :
    π (State.failAttempt s) = π s := by
  dsimp only [State.failAttempt]
  repeat' first
    | with_reducible rfl
    | with_reducible refine (State.askSnapshot_only (hU.mono (by decide)) _).trans ?_
    | with_reducible refine (hU.fault (by first | decide | (simp only [wrOk, faultOk, tallyOk, bumpOk, commitOk, List.all_cons, List.all_nil, Bool.and_true] <;> decide) | (split <;> decide) | (split <;> simp only [wrOk, faultOk, tallyOk, bumpOk, commitOk, List.all_cons, List.all_nil, Bool.and_true] <;> decide)) _).trans ?_
    | with_reducible refine (hU.wrO (by first | decide | (simp only [wrOk, faultOk, tallyOk, bumpOk, commitOk, List.all_cons, List.all_nil, Bool.and_true] <;> decide) | (split <;> decide) | (split <;> simp only [wrOk, faultOk, tallyOk, bumpOk, commitOk, List.all_cons, List.all_nil, Bool.and_true] <;> decide)) _ _).trans ?_
    | fail_if_no_progress with_reducible refine (hU.twn (by decide) _ _).trans ?_
    | with_reducible refine Unseen.ite ?_ ?_
    | split

theorem rejoinStartOp_only {β : Type} {π : State → β} (hU : Unseen 0x400080010000420 π) (s : State) :
    π (rejoinStartOp s) = π s := by
  dsimp only [rejoinStartOp]
  repeat' first
    | with_reducible rfl
    | with_reducible refine (State.askSnapshot_only (hU.mono (by decide)) _).trans ?_
    | fail_if_no_progress with_reducible refine (hU.twn (by decide) _ _).trans ?_
    | with_reducible refine Unseen.ite ?_ ?_
    | split

theorem snapReqOp_only {β : Type} {π : State → β} (hU : Unseen 0x10000400 π) (s : State) :
    π (snapReqOp s) = π s := by
  dsimp only [snapReqOp]
  repeat' first
    | with_reducible rfl
    | with_reducible refine (State.linkSend_only (hU.mono (by decide)) _ _ _).trans ?_
    | fail_if_no_progress with_reducible refine (hU.twn (by decide) _ _).trans ?_
    | with_reducible refine Unseen.ite ?_ ?_
    | split

theorem snapDataOp_only {β : Type} {π : State → β} (hU : Unseen 0x10000000 π) (p : SnapPart) (s : State) :
    π (snapDataOp p s) = π s := by
  dsimp only [snapDataOp]
  repeat' first
    | with_reducible rfl
    | fail_if_no_progress with_reducible refine (hU.twn (by decide) _ _).trans ?_
    | with_reducible refine Unseen.ite ?_ ?_
    | split

theorem State.applyPart_only {β : Type} {π : State → β} (hU : Unseen 0x1d60e00187c0e22 π) (s : State) (p : SnapPart) :
    π (State.applyPart s p) = π s := by
  dsimp only [State.applyPart]
  repeat' first
    | with_reducible rfl
    | with_reducible refine (hU.wrZip (by decide) _ _).trans ?_
    | with_reducible refine (State.followStates_only (hU.mono (by decide)) _ _ _).trans ?_
    | with_reducible refine (State.showTasks_only (hU.mono (by decide)) _).trans ?_
    | with_reducible refine (State.storeWith_only (hU.mono (by decide)) _ _).trans ?_
    | with_reducible refine (hU.wrEach (by first | decide | (simp only [wrOk, faultOk, tallyOk, bumpOk, commitOk, List.all_cons, List.all_nil, Bool.and_true, SettingsArea.regs, holdCauses] <;> decide) | (split <;> decide) | (split <;> simp only [wrOk, faultOk, tallyOk, bumpOk, commitOk, List.all_cons, List.all_nil, Bool.and_true, SettingsArea.regs, holdCauses] <;> decide) | (simp only [SettingsArea.regs, holdCauses]; split <;> decide)) _).trans ?_
    | with_reducible refine (hU.wrO (by first | decide | (simp only [wrOk, faultOk, tallyOk, bumpOk, commitOk, List.all_cons, List.all_nil, Bool.and_true, SettingsArea.regs, holdCauses] <;> decide) | (split <;> decide) | (split <;> simp only [wrOk, faultOk, tallyOk, bumpOk, commitOk, List.all_cons, List.all_nil, Bool.and_true, SettingsArea.regs, holdCauses] <;> decide) | (simp only [SettingsArea.regs, holdCauses]; split <;> decide)) _ _).trans ?_
    | fail_if_no_progress with_reducible refine (hU.trk (by decide) _ _).trans ?_
    | fail_if_no_progress with_reducible refine (hU.gov (by decide) _ _).trans ?_
    | fail_if_no_progress with_reducible refine (hU.ldr (by decide) _ _).trans ?_
    | fail_if_no_progress with_reducible refine (hU.zyp (by decide) _ _).trans ?_
    | fail_if_no_progress with_reducible refine (hU.epo_zyp (by decide) (by decide) _ _ _).trans ?_
    | intro _
    | dsimp only
    | split

theorem snapEndOp_only {β : Type} {π : State → β} (hU : Unseen 0x5d60e00187c0e22 π) (sections : Nat) (intact : Bool) (s : State) :
    π (snapEndOp sections intact s) = π s := by
  dsimp only [snapEndOp]
  repeat' first
    | with_reducible rfl
    | with_reducible refine (State.showRobots_only (hU.mono (by decide)) _).trans ?_
    | with_reducible refine (State.applyPart_only (hU.mono (by decide)) _ _).trans ?_
    | with_reducible refine (hU.wrO (by first | decide | (simp only [wrOk, faultOk, tallyOk, bumpOk, commitOk, List.all_cons, List.all_nil, Bool.and_true] <;> decide) | (split <;> decide) | (split <;> simp only [wrOk, faultOk, tallyOk, bumpOk, commitOk, List.all_cons, List.all_nil, Bool.and_true] <;> decide)) _ _).trans ?_
    | fail_if_no_progress with_reducible refine (hU.twn (by decide) _ _).trans ?_
    | with_reducible refine Unseen.ite ?_ ?_
    | with_reducible refine (Unseen.foldl _ ?_ _ _).trans ?_
    | intro _
    | split

theorem State.workAll_only {β : Type} {π : State → β} (hU : Unseen 0x1d20800104c0c22 π) (s : State) (x0 : Nat) :
    π (State.workAll s x0) = π s := by
  induction x0 generalizing s with
  | zero =>
    dsimp only [State.workAll]
    repeat' first
      | with_reducible rfl
      | with_reducible refine (ih ..).trans ?_
      | with_reducible refine (larderRequestOp_only (hU.mono (by decide)) _).trans ?_
      | with_reducible refine (larderReleaseOp_only (hU.mono (by decide)) _).trans ?_
      | with_reducible refine (envelopeCommandOp_only (hU.mono (by decide)) _).trans ?_
      | with_reducible refine Unseen.ite ?_ ?_
      | split
  | succ k ih =>
    dsimp only [State.workAll]
    repeat' first
      | with_reducible rfl
      | with_reducible refine (ih ..).trans ?_
      | with_reducible refine (larderRequestOp_only (hU.mono (by decide)) _).trans ?_
      | with_reducible refine (larderReleaseOp_only (hU.mono (by decide)) _).trans ?_
      | with_reducible refine (envelopeCommandOp_only (hU.mono (by decide)) _).trans ?_
      | with_reducible refine Unseen.ite ?_ ?_
      | split

theorem State.paceAll_only {β : Type} {π : State → β} (hU : Unseen 0x1d8080010640c22 π) (s : State) :
    π (State.paceAll s) = π s := by
  dsimp only [State.paceAll]
  repeat' first
    | with_reducible rfl
    | with_reducible refine (coastEntryOp_only (hU.mono (by decide)) _ _ _).trans ?_
    | with_reducible refine (loopRampCommandOp_only (hU.mono (by decide)) _ _ _).trans ?_
    | with_reducible refine (loopInputOp_only (hU.mono (by decide)) _ _ _).trans ?_
    | with_reducible refine (Unseen.foldl _ ?_ _ _).trans ?_
    | intro _

theorem journalOp_only {β : Type} {π : State → β} (hU : Unseen 0xa5df8f009efc0efa π) (es : List InputEntry) (ops : List (Nat × RobotOp)) (loops : List LoopSpec) (committed : Bool) (s : State) :
    π (journalOp es ops loops committed s) = π s := by
  dsimp only [journalOp]
  repeat' first
    | with_reducible rfl
    | with_reducible refine (State.closeAudited_only (hU.mono (by decide)) _).trans ?_
    | with_reducible refine (State.closeEpoch_only (hU.mono (by decide)) _).trans ?_
    | with_reducible refine (State.workAll_only (hU.mono (by decide)) _ _).trans ?_
    | with_reducible refine (sweepCompleteOp_only (hU.mono (by decide)) _).trans ?_
    | with_reducible refine (State.openHead_only (hU.mono (by decide)) _ _ _ _ _).trans ?_
    | with_reducible refine (State.commitEpoch_only (hU.mono (by decide)) _).trans ?_
    | with_reducible refine (State.takeListed_only (hU.mono (by decide)) _ _ _).trans ?_
    | with_reducible refine (State.paceAll_only (hU.mono (by decide)) _).trans ?_
    | with_reducible refine (State.abandonEpoch_only (hU.mono (by decide)) _).trans ?_
    | with_reducible refine (State.takeEntry_only (hU.mono (by decide)) _ _).trans ?_
    | with_reducible refine (epochDecideOp_only (hU.mono (by decide)) _ _).trans ?_
    | with_reducible refine (hU.wrO (by first | decide | (simp only [wrOk, faultOk, tallyOk, bumpOk, commitOk, List.all_cons, List.all_nil, Bool.and_true] <;> decide) | (split <;> decide) | (split <;> simp only [wrOk, faultOk, tallyOk, bumpOk, commitOk, List.all_cons, List.all_nil, Bool.and_true] <;> decide)) _ _).trans ?_
    | fail_if_no_progress with_reducible refine (hU.epo (by decide) _ _).trans ?_
    | with_reducible refine Unseen.ite ?_ ?_
    | with_reducible refine (Unseen.foldl _ ?_ _ _).trans ?_
    | intro _
    | dsimp only
    | split

theorem journalFullOp_only {β : Type} {π : State → β} (hU : Unseen 0x400080010000420 π) (s : State) :
    π (journalFullOp s) = π s := by
  dsimp only [journalFullOp]
  repeat' first
    | with_reducible rfl
    | with_reducible refine (State.failAttempt_only (hU.mono (by decide)) _).trans ?_
    | fail_if_no_progress with_reducible refine (hU.twn (by decide) _ _).trans ?_
    | with_reducible refine Unseen.ite ?_ ?_
    | dsimp only
    | split

theorem compareOp_only {β : Type} {π : State → β} (hU : Unseen 0xa5df8e009efc0ef8 π) (s : State) :
    π (compareOp s) = π s := by
  dsimp only [compareOp]
  repeat' first
    | with_reducible rfl
    | with_reducible refine (State.noteMismatch_only (hU.mono (by decide)) _ _ _ _).trans ?_
    | with_reducible refine (State.failAttempt_only (hU.mono (by decide)) _).trans ?_
    | with_reducible refine (State.commitEpoch_only (hU.mono (by decide)) _).trans ?_
    | with_reducible refine (State.abandonEpoch_only (hU.mono (by decide)) _).trans ?_
    | with_reducible refine (State.linkSend_only (hU.mono (by decide)) _ _ _).trans ?_
    | with_reducible refine (hU.wrO (by first | decide | (simp only [wrOk, faultOk, tallyOk, bumpOk, commitOk, List.all_cons, List.all_nil, Bool.and_true] <;> decide) | (split <;> decide) | (split <;> simp only [wrOk, faultOk, tallyOk, bumpOk, commitOk, List.all_cons, List.all_nil, Bool.and_true] <;> decide)) _ _).trans ?_
    | fail_if_no_progress with_reducible refine (hU.twn (by decide) _ _).trans ?_
    | with_reducible refine Unseen.ite ?_ ?_
    | dsimp only
    | split

theorem readyOp_only {β : Type} {π : State → β} (hU : Unseen 0x10000000 π) (s : State) :
    π (readyOp s) = π s := by
  dsimp only [readyOp]
  repeat' first
    | with_reducible rfl
    | fail_if_no_progress with_reducible refine (hU.twn (by decide) _ _).trans ?_
    | with_reducible refine Unseen.ite ?_ ?_
    | split

theorem twinCommitOp_only {β : Type} {π : State → β} (hU : Unseen 0x400020008000008 π) (s : State) :
    π (twinCommitOp s) = π s := by
  dsimp only [twinCommitOp]
  repeat' first
    | with_reducible rfl
    | with_reducible refine (hU.commit (by first | decide | (simp only [wrOk, faultOk, tallyOk, bumpOk, commitOk, List.all_cons, List.all_nil, Bool.and_true] <;> decide) | (split <;> decide) | (split <;> simp only [wrOk, faultOk, tallyOk, bumpOk, commitOk, List.all_cons, List.all_nil, Bool.and_true] <;> decide)) _ _).trans ?_
    | with_reducible refine (hU.wrO (by first | decide | (simp only [wrOk, faultOk, tallyOk, bumpOk, commitOk, List.all_cons, List.all_nil, Bool.and_true] <;> decide) | (split <;> decide) | (split <;> simp only [wrOk, faultOk, tallyOk, bumpOk, commitOk, List.all_cons, List.all_nil, Bool.and_true] <;> decide)) _ _).trans ?_
    | with_reducible refine Unseen.ite ?_ ?_
    | split

theorem rejoinRetryOp_only {β : Type} {π : State → β} (hU : Unseen 0x400000010000000 π) (s : State) :
    π (rejoinRetryOp s) = π s := by
  dsimp only [rejoinRetryOp]
  repeat' first
    | with_reducible rfl
    | with_reducible refine (hU.wrO (by first | decide | (simp only [wrOk, faultOk, tallyOk, bumpOk, commitOk, List.all_cons, List.all_nil, Bool.and_true] <;> decide) | (split <;> decide) | (split <;> simp only [wrOk, faultOk, tallyOk, bumpOk, commitOk, List.all_cons, List.all_nil, Bool.and_true] <;> decide)) _ _).trans ?_
    | fail_if_no_progress with_reducible refine (hU.twn (by decide) _ _).trans ?_
    | with_reducible refine Unseen.ite ?_ ?_
    | split

end Sys2Proof.Machine
end

