-- ==== Sys2Proof/Laws/OnlyUnit.lean ====
section
/-! SUPPORT. What each operation leaves alone: the Dormer, the Tally, updates, reset release, power, modes, the global registers and register accesses. The mask names the parts the operation may change (Laws/Unseen). -/

set_option linter.all false

namespace Sys2Proof.Machine

/-! ## Dormer -/

theorem State.setDrmRule_only {β : Type} {π : State → β} (hU : Unseen 0x40000000 π) (s : State) (r : Nat) (x : DrmRule) :
    π (State.setDrmRule s r x) = π s := by
  dsimp only [State.setDrmRule]
  repeat' first
    | with_reducible rfl
    | fail_if_no_progress with_reducible refine (hU.drm (by decide) _ _).trans ?_

theorem State.showCh_only {β : Type} {π : State → β} (hU : Unseen 0x20000000000000 π) (s : State) (n : Nat) (raw : Nat) :
    π (State.showCh s n raw) = π s := by
  dsimp only [State.showCh]
  repeat' first
    | with_reducible rfl
    | with_reducible refine (hU.wrO (by first | decide | (simp only [wrOk, faultOk, tallyOk, bumpOk, commitOk, List.all_cons, List.all_nil, Bool.and_true, Reg.DRM_VAL_FILT_blk, Reg.DRM_VAL_RAW_blk, Reg.DRM_VAL_VALID_blk] <;> decide) | (split <;> decide) | (split <;> simp only [wrOk, faultOk, tallyOk, bumpOk, commitOk, List.all_cons, List.all_nil, Bool.and_true, Reg.DRM_VAL_FILT_blk, Reg.DRM_VAL_RAW_blk, Reg.DRM_VAL_VALID_blk] <;> decide)) _ _).trans ?_

theorem State.drmEvent_only {β : Type} {π : State → β} (hU : Unseen 0x20080040000420 π) (s : State) (r : Nat) (kind : Nat) (value : Nat) (t : CalTime) :
    π (State.drmEvent s r kind value t) = π s := by
  dsimp only [State.drmEvent]
  repeat' first
    | with_reducible rfl
    | with_reducible refine (hU.bump (by first | decide | (simp only [wrOk, faultOk, tallyOk, bumpOk, commitOk, List.all_cons, List.all_nil, Bool.and_true] <;> decide) | (split <;> decide) | (split <;> simp only [wrOk, faultOk, tallyOk, bumpOk, commitOk, List.all_cons, List.all_nil, Bool.and_true] <;> decide)) _).trans ?_
    | with_reducible refine (hU.wrapBy (by first | decide | (simp only [wrOk, faultOk, tallyOk, bumpOk, commitOk, List.all_cons, List.all_nil, Bool.and_true] <;> decide) | (split <;> decide) | (split <;> simp only [wrOk, faultOk, tallyOk, bumpOk, commitOk, List.all_cons, List.all_nil, Bool.and_true] <;> decide)) _ _).trans ?_
    | with_reducible refine (hU.fault (by first | decide | (simp only [wrOk, faultOk, tallyOk, bumpOk, commitOk, List.all_cons, List.all_nil, Bool.and_true] <;> decide) | (split <;> decide) | (split <;> simp only [wrOk, faultOk, tallyOk, bumpOk, commitOk, List.all_cons, List.all_nil, Bool.and_true] <;> decide)) _).trans ?_
    | with_reducible refine (hU.wrO (by first | decide | (simp only [wrOk, faultOk, tallyOk, bumpOk, commitOk, List.all_cons, List.all_nil, Bool.and_true] <;> decide) | (split <;> decide) | (split <;> simp only [wrOk, faultOk, tallyOk, bumpOk, commitOk, List.all_cons, List.all_nil, Bool.and_true] <;> decide)) _ _).trans ?_
    | fail_if_no_progress with_reducible refine (hU.drm (by decide) _ _).trans ?_
    | with_reducible refine Unseen.ite ?_ ?_
    | split

theorem State.showActive_only {β : Type} {π : State → β} (hU : Unseen 0x30000000000800 π) (s : State) :
    π (State.showActive s) = π s := by
  dsimp only [State.showActive]
  repeat' first
    | with_reducible rfl
    | with_reducible refine (hU.wrO (by first | decide | (simp only [wrOk, faultOk, tallyOk, bumpOk, commitOk, List.all_cons, List.all_nil, Bool.and_true] <;> decide) | (split <;> decide) | (split <;> simp only [wrOk, faultOk, tallyOk, bumpOk, commitOk, List.all_cons, List.all_nil, Bool.and_true] <;> decide)) _ _).trans ?_
    | fail_if_no_progress with_reducible refine (hU.trp (by decide) _ _).trans ?_
    | with_reducible refine Unseen.ite ?_ ?_
    | intro _
    | split

theorem State.dormerTrap_only {β : Type} {π : State → β} (hU : Unseen 0xa1f08e0092740ee2 π) (s : State) (r : Nat) :
    π (State.dormerTrap s r) = π s := by
  dsimp only [State.dormerTrap]
  repeat' first
    | with_reducible rfl
    | with_reducible refine (State.raiseFleet_only hU (by decide) _ _ _ (by first | decide | (simp only [wrOk, faultOk, tallyOk, bumpOk, commitOk, List.all_cons, List.all_nil, Bool.and_true] <;> decide) | (split <;> decide) | (split <;> simp only [wrOk, faultOk, tallyOk, bumpOk, commitOk, List.all_cons, List.all_nil, Bool.and_true] <;> decide))).trans ?_
    | with_reducible refine (hU.wrO (by first | decide | (simp only [wrOk, faultOk, tallyOk, bumpOk, commitOk, List.all_cons, List.all_nil, Bool.and_true] <;> decide) | (split <;> decide) | (split <;> simp only [wrOk, faultOk, tallyOk, bumpOk, commitOk, List.all_cons, List.all_nil, Bool.and_true] <;> decide)) _ _).trans ?_
    | with_reducible refine (hU.faultWith (by first | decide | (simp only [wrOk, faultOk, tallyOk, bumpOk, commitOk, List.all_cons, List.all_nil, Bool.and_true] <;> decide) | (split <;> decide) | (split <;> simp only [wrOk, faultOk, tallyOk, bumpOk, commitOk, List.all_cons, List.all_nil, Bool.and_true] <;> decide)) _ _).trans ?_
    | fail_if_no_progress with_reducible refine (hU.trp (by decide) _ _).trans ?_
    | with_reducible refine Unseen.ite ?_ ?_
    | split

theorem State.fire_only {β : Type} {π : State → β} (hU : Unseen 0xa1f08e00d2740fe2 π) (s : State) (r : Nat) (value : Nat) (t : CalTime) :
    π (State.fire s r value t) = π s := by
  dsimp only [State.fire]
  repeat' first
    | with_reducible rfl
    | with_reducible refine (State.dormerTrap_only (hU.mono (by decide)) _ _).trans ?_
    | with_reducible refine (State.wakeUp_only (hU.mono (by decide)) _ _).trans ?_
    | with_reducible refine (State.setDrmRule_only (hU.mono (by decide)) _ _ _).trans ?_
    | with_reducible refine (State.drmEvent_only (hU.mono (by decide)) _ _ _ _ _).trans ?_
    | with_reducible refine (hU.wrO (by first | decide | (simp only [wrOk, faultOk, tallyOk, bumpOk, commitOk, List.all_cons, List.all_nil, Bool.and_true, Reg.DRM_FIRE_blk] <;> decide) | (split <;> decide) | (split <;> simp only [wrOk, faultOk, tallyOk, bumpOk, commitOk, List.all_cons, List.all_nil, Bool.and_true, Reg.DRM_FIRE_blk] <;> decide)) _ _).trans ?_
    | with_reducible refine (hU.bump (by first | decide | (simp only [wrOk, faultOk, tallyOk, bumpOk, commitOk, List.all_cons, List.all_nil, Bool.and_true, Reg.DRM_FIRE_blk] <;> decide) | (split <;> decide) | (split <;> simp only [wrOk, faultOk, tallyOk, bumpOk, commitOk, List.all_cons, List.all_nil, Bool.and_true, Reg.DRM_FIRE_blk] <;> decide)) _).trans ?_
    | with_reducible refine Unseen.ite ?_ ?_
    | split

theorem State.clearRule_only {β : Type} {π : State → β} (hU : Unseen 0x20080040000420 π) (s : State) (r : Nat) (value : Nat) (t : CalTime) :
    π (State.clearRule s r value t) = π s := by
  dsimp only [State.clearRule]
  repeat' first
    | with_reducible rfl
    | with_reducible refine (State.drmEvent_only (hU.mono (by decide)) _ _ _ _ _).trans ?_
    | with_reducible refine (State.setDrmRule_only (hU.mono (by decide)) _ _ _).trans ?_
    | with_reducible refine Unseen.ite ?_ ?_
    | split

theorem State.evalRule_only {β : Type} {π : State → β} (hU : Unseen 0xa1f08e00d2740fe2 π) (s : State) (high : Bool) (t : CalTime) (r : Nat) :
    π (State.evalRule s high t r) = π s := by
  dsimp only [State.evalRule]
  repeat' first
    | with_reducible rfl
    | with_reducible refine (State.clearRule_only (hU.mono (by decide)) _ _ _ _).trans ?_
    | with_reducible refine (State.setDrmRule_only (hU.mono (by decide)) _ _ _).trans ?_
    | with_reducible refine (State.fire_only (hU.mono (by decide)) _ _ _ _).trans ?_
    | with_reducible refine Unseen.ite ?_ ?_
    | split

theorem State.evalAll_only {β : Type} {π : State → β} (hU : Unseen 0xa1f08e00d2740fe2 π) (s : State) (high : Bool) (t : CalTime) (x0 : List Nat) :
    π (State.evalAll s high t x0) = π s := by
  induction x0 generalizing s with
  | nil =>
    dsimp only [State.evalAll]
    repeat' first
      | with_reducible rfl
      | with_reducible refine (ih ..).trans ?_
      | with_reducible refine (State.evalRule_only (hU.mono (by decide)) _ _ _ _).trans ?_
  | cons a k ih =>
    dsimp only [State.evalAll]
    repeat' first
      | with_reducible rfl
      | with_reducible refine (ih ..).trans ?_
      | with_reducible refine (State.evalRule_only (hU.mono (by decide)) _ _ _ _).trans ?_

theorem State.applyChan_only {β : Type} {π : State → β} (hU : Unseen 0x20000048000000 π) (s : State) :
    π (State.applyChan s) = π s := by
  dsimp only [State.applyChan]
  repeat' first
    | with_reducible rfl
    | with_reducible refine (hU.wrZip (by decide) _ _).trans ?_
    | with_reducible refine (State.showCh_only (hU.mono (by decide)) _ _ _).trans ?_
    | with_reducible refine (hU.wrO (by first | decide | (simp only [wrOk, faultOk, tallyOk, bumpOk, commitOk, List.all_cons, List.all_nil, Bool.and_true, drmChanGroup, Reg.DRM_CH_CFG_EN_blk, Reg.DRM_CH_CFG_P_blk, Reg.DRM_CH_CFG_SHIFT_blk] <;> decide) | (split <;> decide) | (split <;> simp only [wrOk, faultOk, tallyOk, bumpOk, commitOk, List.all_cons, List.all_nil, Bool.and_true, drmChanGroup, Reg.DRM_CH_CFG_EN_blk, Reg.DRM_CH_CFG_P_blk, Reg.DRM_CH_CFG_SHIFT_blk] <;> decide) | (simp only [drmChanGroup]; split <;> decide)) _ _).trans ?_
    | with_reducible refine (hU.storeFields (by decide) _ _).trans ?_
    | with_reducible refine (hU.wrEach (by first | decide | (simp only [wrOk, faultOk, tallyOk, bumpOk, commitOk, List.all_cons, List.all_nil, Bool.and_true, drmChanGroup, Reg.DRM_CH_CFG_EN_blk, Reg.DRM_CH_CFG_P_blk, Reg.DRM_CH_CFG_SHIFT_blk] <;> decide) | (split <;> decide) | (split <;> simp only [wrOk, faultOk, tallyOk, bumpOk, commitOk, List.all_cons, List.all_nil, Bool.and_true, drmChanGroup, Reg.DRM_CH_CFG_EN_blk, Reg.DRM_CH_CFG_P_blk, Reg.DRM_CH_CFG_SHIFT_blk] <;> decide) | (simp only [drmChanGroup]; split <;> decide)) _).trans ?_
    | fail_if_no_progress with_reducible refine (hU.drm (by decide) _ _).trans ?_
    | with_reducible refine (Unseen.foldl _ ?_ _ _).trans ?_
    | intro _
    | dsimp only
    | split

theorem State.resetRule_only {β : Type} {π : State → β} (hU : Unseen 0x20080040000420 π) (s : State) (t : CalTime) (r : Nat) :
    π (State.resetRule s t r) = π s := by
  dsimp only [State.resetRule]
  repeat' first
    | with_reducible rfl
    | with_reducible refine (State.drmEvent_only (hU.mono (by decide)) _ _ _ _ _).trans ?_
    | with_reducible refine (State.setDrmRule_only (hU.mono (by decide)) _ _ _).trans ?_
    | with_reducible refine Unseen.ite ?_ ?_
    | split

theorem State.applyRules_only {β : Type} {π : State → β} (hU : Unseen 0x30080048000c20 π) (s : State) (t : CalTime) :
    π (State.applyRules s t) = π s := by
  dsimp only [State.applyRules]
  repeat' first
    | with_reducible rfl
    | with_reducible refine (State.showActive_only (hU.mono (by decide)) _).trans ?_
    | with_reducible refine (State.resetRule_only (hU.mono (by decide)) _ _ _).trans ?_
    | with_reducible refine (State.storeWith_only (hU.mono (by decide)) _ _).trans ?_
    | with_reducible refine (hU.storeFields (by decide) _ _).trans ?_
    | with_reducible refine (hU.wrO (by first | decide | (simp only [wrOk, faultOk, tallyOk, bumpOk, commitOk, List.all_cons, List.all_nil, Bool.and_true, SettingsArea.regs] <;> decide) | (split <;> decide) | (split <;> simp only [wrOk, faultOk, tallyOk, bumpOk, commitOk, List.all_cons, List.all_nil, Bool.and_true, SettingsArea.regs] <;> decide) | (simp only [SettingsArea.regs]; split <;> decide)) _ _).trans ?_
    | fail_if_no_progress with_reducible refine (hU.drm (by decide) _ _).trans ?_
    | with_reducible refine (Unseen.foldl _ ?_ _ _).trans ?_
    | intro _
    | dsimp only
    | split

theorem chanCommitOp_only {β : Type} {π : State → β} (hU : Unseen 0x20000040000000 π) (s : State) :
    π (chanCommitOp s) = π s := by
  dsimp only [chanCommitOp]
  repeat' first
    | with_reducible rfl
    | with_reducible refine (hU.wrO (by first | decide | (simp only [wrOk, faultOk, tallyOk, bumpOk, commitOk, List.all_cons, List.all_nil, Bool.and_true, drmChanGroup, Reg.DRM_CH_CFG_EN_blk, Reg.DRM_CH_CFG_P_blk, Reg.DRM_CH_CFG_SHIFT_blk] <;> decide) | (split <;> decide) | (split <;> simp only [wrOk, faultOk, tallyOk, bumpOk, commitOk, List.all_cons, List.all_nil, Bool.and_true, drmChanGroup, Reg.DRM_CH_CFG_EN_blk, Reg.DRM_CH_CFG_P_blk, Reg.DRM_CH_CFG_SHIFT_blk] <;> decide) | (simp only [drmChanGroup]; split <;> decide)) _ _).trans ?_
    | fail_if_no_progress with_reducible refine (hU.drm (by decide) _ _).trans ?_
    | with_reducible refine Unseen.ite ?_ ?_
    | intro _
    | split

theorem dormerRulesCommitOp_only {β : Type} {π : State → β} (hU : Unseen 0x20000040000000 π) (s : State) :
    π (dormerRulesCommitOp s) = π s := by
  dsimp only [dormerRulesCommitOp]
  repeat' first
    | with_reducible rfl
    | with_reducible refine (hU.wrO (by first | decide | (simp only [wrOk, faultOk, tallyOk, bumpOk, commitOk, List.all_cons, List.all_nil, Bool.and_true] <;> decide) | (split <;> decide) | (split <;> simp only [wrOk, faultOk, tallyOk, bumpOk, commitOk, List.all_cons, List.all_nil, Bool.and_true] <;> decide)) _ _).trans ?_
    | fail_if_no_progress with_reducible refine (hU.drm (by decide) _ _).trans ?_
    | with_reducible refine Unseen.ite ?_ ?_
    | split

theorem State.sampleCh_only {β : Type} {π : State → β} (hU : Unseen 0x20000040000000 π) (s : State) (raw : List (BitVec 12)) (n : Nat) :
    π (State.sampleCh s raw n) = π s := by
  dsimp only [State.sampleCh]
  repeat' first
    | with_reducible rfl
    | with_reducible refine (State.showCh_only (hU.mono (by decide)) _ _ _).trans ?_
    | fail_if_no_progress with_reducible refine (hU.drm (by decide) _ _).trans ?_
    | with_reducible refine Unseen.ite ?_ ?_
    | split

theorem dormerBurstOp_only {β : Type} {π : State → β} (hU : Unseen 0xa1f08e00da741fe2 π) (ticks : Nat) (reading : CalTime) (raw : List (BitVec 12)) (s : State) :
    π (dormerBurstOp ticks reading raw s) = π s := by
  dsimp only [dormerBurstOp]
  repeat' first
    | with_reducible rfl
    | with_reducible refine (State.applyChan_only (hU.mono (by decide)) _).trans ?_
    | with_reducible refine (State.showActive_only (hU.mono (by decide)) _).trans ?_
    | with_reducible refine (State.sampleCh_only (hU.mono (by decide)) _ _ _).trans ?_
    | with_reducible refine (State.applyRules_only (hU.mono (by decide)) _ _).trans ?_
    | with_reducible refine (State.vbatSeconds_only (hU.mono (by decide)) _ _).trans ?_
    | with_reducible refine (State.evalAll_only (hU.mono (by decide)) _ _ _ _).trans ?_
    | with_reducible refine (hU.wrO (by first | decide | (simp only [wrOk, faultOk, tallyOk, bumpOk, commitOk, List.all_cons, List.all_nil, Bool.and_true] <;> decide) | (split <;> decide) | (split <;> simp only [wrOk, faultOk, tallyOk, bumpOk, commitOk, List.all_cons, List.all_nil, Bool.and_true] <;> decide)) _ _).trans ?_
    | with_reducible refine (hU.fault (by first | decide | (simp only [wrOk, faultOk, tallyOk, bumpOk, commitOk, List.all_cons, List.all_nil, Bool.and_true] <;> decide) | (split <;> decide) | (split <;> simp only [wrOk, faultOk, tallyOk, bumpOk, commitOk, List.all_cons, List.all_nil, Bool.and_true] <;> decide)) _).trans ?_
    | fail_if_no_progress with_reducible refine (hU.drm (by decide) _ _).trans ?_
    | with_reducible refine Unseen.ite ?_ ?_
    | with_reducible refine (Unseen.foldl _ ?_ _ _).trans ?_
    | intro _
    | split

theorem dormerEventDrainOp_only {β : Type} {π : State → β} (hU : Unseen 0x20000040000400 π) (s : State) :
    π (dormerEventDrainOp s) = π s := by
  dsimp only [dormerEventDrainOp]
  repeat' first
    | with_reducible rfl
    | with_reducible refine (hU.wrO (by first | decide | (simp only [wrOk, faultOk, tallyOk, bumpOk, commitOk, List.all_cons, List.all_nil, Bool.and_true] <;> decide) | (split <;> decide) | (split <;> simp only [wrOk, faultOk, tallyOk, bumpOk, commitOk, List.all_cons, List.all_nil, Bool.and_true] <;> decide)) _ _).trans ?_
    | with_reducible refine (hU.putPacket (by decide) _ _ _ _ _).trans ?_
    | fail_if_no_progress with_reducible refine (hU.drm (by decide) _ _).trans ?_
    | with_reducible refine Unseen.ite ?_ ?_
    | dsimp only
    | split

theorem aonPowerOnOp_only {β : Type} {π : State → β} (hU : Unseen 0xc000091c π) (s : State) :
    π (aonPowerOnOp s) = π s := by
  dsimp only [aonPowerOnOp]
  repeat' first
    | with_reducible rfl
    | fail_if_no_progress with_reducible refine (hU.fld_shd_cmt_pwr_trp_drm_tly (by decide) (by decide) (by decide) (by decide) (by decide) (by decide) (by decide) _ _ _ _ _ _ _ _).trans ?_
    | intro _
    | dsimp only


/-! ## Tally -/

theorem State.tlyStep_only {β : Type} {π : State → β} (hU : Unseen 0x2000000000000000 π) (s : State) :
    π (State.tlyStep s) = π s := by
  dsimp only [State.tlyStep]
  repeat' first
    | with_reducible rfl
    | with_reducible refine (hU.wrapBy (by first | decide | (simp only [wrOk, faultOk, tallyOk, bumpOk, commitOk, List.all_cons, List.all_nil, Bool.and_true] <;> decide) | (split <;> decide) | (split <;> simp only [wrOk, faultOk, tallyOk, bumpOk, commitOk, List.all_cons, List.all_nil, Bool.and_true] <;> decide)) _ _).trans ?_

theorem State.setBody_only {β : Type} {π : State → β} (hU : Unseen 0x80000000 π) (s : State) (b : TlyBody) :
    π (State.setBody s b) = π s := by
  dsimp only [State.setBody]
  repeat' first
    | with_reducible rfl
    | fail_if_no_progress with_reducible refine (hU.tly (by decide) _ _).trans ?_

theorem State.lose_only {β : Type} {π : State → β} (hU : Unseen 0x2000080000000420 π) (s : State) (k : Nat) (n : Nat) :
    π (State.lose s k n) = π s := by
  dsimp only [State.lose]
  repeat' first
    | with_reducible rfl
    | with_reducible refine (State.tlyStep_only (hU.mono (by decide)) _).trans ?_
    | with_reducible refine (hU.fault (by first | decide | (simp only [wrOk, faultOk, tallyOk, bumpOk, commitOk, List.all_cons, List.all_nil, Bool.and_true, Reg.TLY_LOST_blk] <;> decide) | (split <;> decide) | (split <;> simp only [wrOk, faultOk, tallyOk, bumpOk, commitOk, List.all_cons, List.all_nil, Bool.and_true, Reg.TLY_LOST_blk] <;> decide)) _).trans ?_
    | with_reducible refine (hU.bumpBy (by first | decide | (simp only [wrOk, faultOk, tallyOk, bumpOk, commitOk, List.all_cons, List.all_nil, Bool.and_true, Reg.TLY_LOST_blk] <;> decide) | (split <;> decide) | (split <;> simp only [wrOk, faultOk, tallyOk, bumpOk, commitOk, List.all_cons, List.all_nil, Bool.and_true, Reg.TLY_LOST_blk] <;> decide)) _ _).trans ?_
    | with_reducible refine Unseen.ite ?_ ?_
    | split

theorem State.addMark_only {β : Type} {π : State → β} (hU : Unseen 0x2000080080000420 π) (s : State) (kind : Nat) (data : List Nat) :
    π (State.addMark s kind data) = π s := by
  dsimp only [State.addMark]
  repeat' first
    | with_reducible rfl
    | with_reducible refine (State.lose_only (hU.mono (by decide)) _ _ _).trans ?_
    | with_reducible refine (State.setBody_only (hU.mono (by decide)) _ _).trans ?_
    | with_reducible refine (State.tlyStep_only (hU.mono (by decide)) _).trans ?_
    | with_reducible refine (hU.event (by decide) _ _ _ _).trans ?_
    | with_reducible refine Unseen.ite ?_ ?_
    | split

theorem State.addBin_only {β : Type} {π : State → β} (hU : Unseen 0x2000000080000020 π) (s : State) (h : Nat) (b : Nat) (count : Nat) :
    π (State.addBin s h b count) = π s := by
  dsimp only [State.addBin]
  repeat' first
    | with_reducible rfl
    | with_reducible refine (State.setBody_only (hU.mono (by decide)) _ _).trans ?_
    | with_reducible refine (hU.fault (by first | decide | (simp only [wrOk, faultOk, tallyOk, bumpOk, commitOk, List.all_cons, List.all_nil, Bool.and_true] <;> decide) | (split <;> decide) | (split <;> simp only [wrOk, faultOk, tallyOk, bumpOk, commitOk, List.all_cons, List.all_nil, Bool.and_true] <;> decide)) _).trans ?_
    | with_reducible refine Unseen.ite ?_ ?_
    | split

theorem State.offerExt_only {β : Type} {π : State → β} (hU : Unseen 0x80000000 π) (s : State) (x : Nat) (mode : Nat) (v : Int) (stamp : CalStamp) :
    π (State.offerExt s x mode v stamp) = π s := by
  dsimp only [State.offerExt]
  repeat' first
    | with_reducible rfl
    | with_reducible refine (State.setBody_only (hU.mono (by decide)) _ _).trans ?_
    | with_reducible refine Unseen.ite ?_ ?_
    | dsimp only
    | split

theorem State.tallyApply_only {β : Type} {π : State → β} (hU : Unseen 0x2000080080000420 π) (s : State) (e : TlyEvent) :
    π (State.tallyApply s e) = π s := by
  dsimp only [State.tallyApply]
  repeat' first
    | with_reducible rfl
    | with_reducible refine (State.tlyStep_only (hU.mono (by decide)) _).trans ?_
    | with_reducible refine (State.addBin_only (hU.mono (by decide)) _ _ _ _).trans ?_
    | with_reducible refine (State.addMark_only (hU.mono (by decide)) _ _ _).trans ?_
    | with_reducible refine (State.lose_only (hU.mono (by decide)) _ _ _).trans ?_
    | with_reducible refine (State.offerExt_only (hU.mono (by decide)) _ _ _ _ _).trans ?_
    | fail_if_no_progress with_reducible refine (hU.tly (by decide) _ _).trans ?_
    | with_reducible refine Unseen.ite ?_ ?_
    | dsimp only
    | split

theorem State.tallyApplyAll_only {β : Type} {π : State → β} (hU : Unseen 0x2000080080000420 π) (s : State) (x0 : List TlyEvent) :
    π (State.tallyApplyAll s x0) = π s := by
  induction x0 generalizing s with
  | nil =>
    dsimp only [State.tallyApplyAll]
    repeat' first
      | with_reducible rfl
      | with_reducible refine (ih ..).trans ?_
      | with_reducible refine (State.tallyApply_only (hU.mono (by decide)) _ _).trans ?_
  | cons a k ih =>
    dsimp only [State.tallyApplyAll]
    repeat' first
      | with_reducible rfl
      | with_reducible refine (ih ..).trans ?_
      | with_reducible refine (State.tallyApply_only (hU.mono (by decide)) _ _).trans ?_

theorem State.arrive_only {β : Type} {π : State → β} (hU : Unseen 0x2000080080000420 π) (s : State) (e : TlyEvent) :
    π (State.arrive s e) = π s := by
  dsimp only [State.arrive]
  repeat' first
    | with_reducible rfl
    | with_reducible refine (State.tallyApply_only (hU.mono (by decide)) _ _).trans ?_
    | with_reducible refine (hU.wrO (by first | decide | (simp only [wrOk, faultOk, tallyOk, bumpOk, commitOk, List.all_cons, List.all_nil, Bool.and_true] <;> decide) | (split <;> decide) | (split <;> simp only [wrOk, faultOk, tallyOk, bumpOk, commitOk, List.all_cons, List.all_nil, Bool.and_true] <;> decide)) _ _).trans ?_
    | fail_if_no_progress with_reducible refine (hU.tly (by decide) _ _).trans ?_
    | with_reducible refine Unseen.ite ?_ ?_
    | split

theorem State.received_only {β : Type} {π : State → β} (hU : Unseen 0x80000000 π) (s : State) :
    π (State.received s) = π s := by
  dsimp only [State.received]
  repeat' first
    | with_reducible rfl
    | fail_if_no_progress with_reducible refine (hU.tly (by decide) _ _).trans ?_

theorem tallyRecordOp_only {β : Type} {π : State → β} (hU : Unseen 0x2000080080000420 π) (kind : Nat) (r : TallyRec) (s : State) :
    π (tallyRecordOp kind r s) = π s := by
  dsimp only [tallyRecordOp]
  repeat' first
    | with_reducible rfl
    | with_reducible refine (State.received_only (hU.mono (by decide)) _).trans ?_
    | with_reducible refine (State.arrive_only (hU.mono (by decide)) _ _).trans ?_
    | with_reducible refine (State.consume_only (hU.mono (by decide)) _ _ _).trans ?_
    | with_reducible refine Unseen.ite ?_ ?_
    | split

theorem tallyDormerRecordOp_only {β : Type} {π : State → β} (hU : Unseen 0x2000080080000420 π) (e : DormerRec) (s : State) :
    π (tallyDormerRecordOp e s) = π s := by
  dsimp only [tallyDormerRecordOp]
  repeat' first
    | with_reducible rfl
    | with_reducible refine (State.received_only (hU.mono (by decide)) _).trans ?_
    | with_reducible refine (State.arrive_only (hU.mono (by decide)) _ _).trans ?_
    | with_reducible refine (State.consume_only (hU.mono (by decide)) _ _ _).trans ?_
    | with_reducible refine Unseen.ite ?_ ?_
    | split

theorem State.setBank_only {β : Type} {π : State → β} (hU : Unseen 0x80000000 π) (s : State) (b : Bool) (x : Option TlyBank) :
    π (State.setBank s b x) = π s := by
  dsimp only [State.setBank]
  repeat' first
    | with_reducible rfl
    | fail_if_no_progress with_reducible refine (hU.tly (by decide) _ _).trans ?_
    | with_reducible refine Unseen.ite ?_ ?_
    | split

theorem flushStartOp_only {β : Type} {π : State → β} (hU : Unseen 0x2000080080000420 π) (s : State) :
    π (flushStartOp s) = π s := by
  dsimp only [flushStartOp]
  repeat' first
    | with_reducible rfl
    | with_reducible refine (State.lose_only (hU.mono (by decide)) _ _ _).trans ?_
    | with_reducible refine (State.setBank_only (hU.mono (by decide)) _ _ _).trans ?_
    | with_reducible refine (hU.wrO (by first | decide | (simp only [wrOk, faultOk, tallyOk, bumpOk, commitOk, List.all_cons, List.all_nil, Bool.and_true] <;> decide) | (split <;> decide) | (split <;> simp only [wrOk, faultOk, tallyOk, bumpOk, commitOk, List.all_cons, List.all_nil, Bool.and_true] <;> decide)) _ _).trans ?_
    | fail_if_no_progress with_reducible refine (hU.tly (by decide) _ _).trans ?_
    | with_reducible refine Unseen.ite ?_ ?_
    | intro _
    | dsimp only
    | split

theorem flushCommitPointOp_only {β : Type} {π : State → β} (hU : Unseen 0x2000000080000200 π) (s : State) :
    π (flushCommitPointOp s) = π s := by
  dsimp only [flushCommitPointOp]
  repeat' first
    | with_reducible rfl
    | with_reducible refine (State.finishAll_only (hU.mono (by decide)) _ _ _).trans ?_
    | with_reducible refine (State.setBank_only (hU.mono (by decide)) _ _ _).trans ?_
    | with_reducible refine (State.tlyResult_only (hU.mono (by decide)) _ _).trans ?_
    | with_reducible refine (hU.wrapBy (by first | decide | (simp only [wrOk, faultOk, tallyOk, bumpOk, commitOk, List.all_cons, List.all_nil, Bool.and_true] <;> decide) | (split <;> decide) | (split <;> simp only [wrOk, faultOk, tallyOk, bumpOk, commitOk, List.all_cons, List.all_nil, Bool.and_true] <;> decide)) _ _).trans ?_
    | with_reducible refine (hU.wrO (by first | decide | (simp only [wrOk, faultOk, tallyOk, bumpOk, commitOk, List.all_cons, List.all_nil, Bool.and_true] <;> decide) | (split <;> decide) | (split <;> simp only [wrOk, faultOk, tallyOk, bumpOk, commitOk, List.all_cons, List.all_nil, Bool.and_true] <;> decide)) _ _).trans ?_
    | fail_if_no_progress with_reducible refine (hU.tly (by decide) _ _).trans ?_
    | with_reducible refine Unseen.ite ?_ ?_
    | dsimp only
    | split

theorem State.memFailure_only {β : Type} {π : State → β} (hU : Unseen 0x2000000080000020 π) (s : State) (addr : Nat) (kind : Nat) :
    π (State.memFailure s addr kind) = π s := by
  dsimp only [State.memFailure]
  repeat' first
    | with_reducible rfl
    | with_reducible refine (hU.fault (by first | decide | (simp only [wrOk, faultOk, tallyOk, bumpOk, commitOk, List.all_cons, List.all_nil, Bool.and_true] <;> decide) | (split <;> decide) | (split <;> simp only [wrOk, faultOk, tallyOk, bumpOk, commitOk, List.all_cons, List.all_nil, Bool.and_true] <;> decide)) _).trans ?_
    | with_reducible refine (hU.wrO (by first | decide | (simp only [wrOk, faultOk, tallyOk, bumpOk, commitOk, List.all_cons, List.all_nil, Bool.and_true] <;> decide) | (split <;> decide) | (split <;> simp only [wrOk, faultOk, tallyOk, bumpOk, commitOk, List.all_cons, List.all_nil, Bool.and_true] <;> decide)) _ _).trans ?_
    | fail_if_no_progress with_reducible refine (hU.tly (by decide) _ _).trans ?_

theorem State.unfreeze_only {β : Type} {π : State → β} (hU : Unseen 0x2000080080000420 π) (s : State) :
    π (State.unfreeze s) = π s := by
  dsimp only [State.unfreeze]
  repeat' first
    | with_reducible rfl
    | with_reducible refine (State.lose_only (hU.mono (by decide)) _ _ _).trans ?_
    | with_reducible refine (State.tallyApplyAll_only (hU.mono (by decide)) _ _).trans ?_
    | with_reducible refine (hU.fault (by first | decide | (simp only [wrOk, faultOk, tallyOk, bumpOk, commitOk, List.all_cons, List.all_nil, Bool.and_true] <;> decide) | (split <;> decide) | (split <;> simp only [wrOk, faultOk, tallyOk, bumpOk, commitOk, List.all_cons, List.all_nil, Bool.and_true] <;> decide)) _).trans ?_
    | with_reducible refine (hU.wrO (by first | decide | (simp only [wrOk, faultOk, tallyOk, bumpOk, commitOk, List.all_cons, List.all_nil, Bool.and_true] <;> decide) | (split <;> decide) | (split <;> simp only [wrOk, faultOk, tallyOk, bumpOk, commitOk, List.all_cons, List.all_nil, Bool.and_true] <;> decide)) _ _).trans ?_
    | fail_if_no_progress with_reducible refine (hU.tly (by decide) _ _).trans ?_
    | with_reducible refine Unseen.ite ?_ ?_
    | split

theorem State.applyClearTally_only {β : Type} {π : State → β} (hU : Unseen 0x2000080080000620 π) (s : State) (scope : Nat) :
    π (State.applyClearTally s scope) = π s := by
  dsimp only [State.applyClearTally]
  repeat' first
    | with_reducible rfl
    | with_reducible refine (State.setBody_only (hU.mono (by decide)) _ _).trans ?_
    | with_reducible refine (State.flushFor_only (hU.mono (by decide)) _ _).trans ?_
    | with_reducible refine (State.tlyStep_only (hU.mono (by decide)) _).trans ?_
    | with_reducible refine (State.addMark_only (hU.mono (by decide)) _ _ _).trans ?_
    | with_reducible refine (hU.wrO (by first | decide | (simp only [wrOk, faultOk, tallyOk, bumpOk, commitOk, List.all_cons, List.all_nil, Bool.and_true, Reg.TLY_LOST_blk] <;> decide) | (split <;> decide) | (split <;> simp only [wrOk, faultOk, tallyOk, bumpOk, commitOk, List.all_cons, List.all_nil, Bool.and_true, Reg.TLY_LOST_blk] <;> decide)) _ _).trans ?_
    | with_reducible refine Unseen.ite ?_ ?_
    | with_reducible refine (Unseen.foldl _ ?_ _ _).trans ?_
    | intro _
    | split

theorem State.applyClears_only {β : Type} {π : State → β} (hU : Unseen 0x2000080080000620 π) (s : State) (x0 : List (Cmd × Nat)) :
    π (State.applyClears s x0) = π s := by
  induction x0 generalizing s with
  | nil =>
    dsimp only [State.applyClears]
    repeat' first
      | with_reducible rfl
      | with_reducible refine (ih ..).trans ?_
      | with_reducible refine (State.finish_only (hU.mono (by decide)) _ _ _ _ _).trans ?_
      | with_reducible refine (State.applyClearTally_only (hU.mono (by decide)) _ _).trans ?_
      | dsimp only
  | cons a k ih =>
    dsimp only [State.applyClears]
    repeat' first
      | with_reducible rfl
      | with_reducible refine (ih ..).trans ?_
      | with_reducible refine (State.finish_only (hU.mono (by decide)) _ _ _ _ _).trans ?_
      | with_reducible refine (State.applyClearTally_only (hU.mono (by decide)) _ _).trans ?_
      | dsimp only

theorem flushCompleteOp_only {β : Type} {π : State → β} (hU : Unseen 0x20000a0080000620 π) (fail : Option Word) (duration : Nat) (s : State) :
    π (flushCompleteOp fail duration s) = π s := by
  dsimp only [flushCompleteOp]
  repeat' first
    | with_reducible rfl
    | with_reducible refine (State.applyClears_only (hU.mono (by decide)) _ _).trans ?_
    | with_reducible refine (State.unfreeze_only (hU.mono (by decide)) _).trans ?_
    | with_reducible refine (State.setBank_only (hU.mono (by decide)) _ _ _).trans ?_
    | with_reducible refine (State.memFailure_only (hU.mono (by decide)) _ _ _).trans ?_
    | with_reducible refine (State.tlyResult_only (hU.mono (by decide)) _ _).trans ?_
    | with_reducible refine (hU.wrO (by first | decide | (simp only [wrOk, faultOk, tallyOk, bumpOk, commitOk, List.all_cons, List.all_nil, Bool.and_true] <;> decide) | (split <;> decide) | (split <;> simp only [wrOk, faultOk, tallyOk, bumpOk, commitOk, List.all_cons, List.all_nil, Bool.and_true] <;> decide)) _ _).trans ?_
    | fail_if_no_progress with_reducible refine (hU.tly (by decide) _ _).trans ?_
    | with_reducible refine Unseen.ite ?_ ?_
    | intro _
    | dsimp only
    | split

theorem periodicFlushOp_only {β : Type} {π : State → β} (hU : Unseen 0x2000000080000200 π) (s : State) :
    π (periodicFlushOp s) = π s := by
  dsimp only [periodicFlushOp]
  repeat' first
    | with_reducible rfl
    | with_reducible refine (State.flushFor_only (hU.mono (by decide)) _ _).trans ?_
    | with_reducible refine Unseen.ite ?_ ?_
    | split

theorem flushOp_only {β : Type} {π : State → β} (hU : Unseen 0x2000000080000200 π) (c : Option Cmd) (s : State) :
    π (flushOp c s) = π s := by
  dsimp only [flushOp]
  repeat' first
    | with_reducible rfl
    | with_reducible refine (State.finish_only (hU.mono (by decide)) _ _ _ _ _).trans ?_
    | with_reducible refine (State.hostCmd_only (hU.mono (by decide)) _ _ _ _ ?_).trans ?_
    | with_reducible refine (State.flushTrigger_only (hU.mono (by decide)) _ _).trans ?_
    | with_reducible refine (State.tlyResult_only (hU.mono (by decide)) _ _).trans ?_
    | with_reducible refine Unseen.ite ?_ ?_
    | intro _
    | dsimp only
    | split

theorem retestOp_only {β : Type} {π : State → β} (hU : Unseen 0x2000000080000200 π) (s : State) :
    π (retestOp s) = π s := by
  dsimp only [retestOp]
  repeat' first
    | with_reducible rfl
    | with_reducible refine (State.tlyResult_only (hU.mono (by decide)) _ _).trans ?_
    | with_reducible refine (State.flushTrigger_only (hU.mono (by decide)) _ _).trans ?_
    | with_reducible refine Unseen.ite ?_ ?_
    | split

theorem tallyLastWordOp_only {β : Type} {π : State → β} (hU : Unseen 0x80000000 π) (s : State) :
    π (tallyLastWordOp s) = π s := by
  dsimp only [tallyLastWordOp]
  repeat' first
    | with_reducible rfl
    | fail_if_no_progress with_reducible refine (hU.tly (by decide) _ _).trans ?_
    | with_reducible refine Unseen.ite ?_ ?_
    | split

theorem tallyRestoreOp_only {β : Type} {π : State → β} (hU : Unseen 0x2000080080000420 π) (ecc : Option (Bool × Word)) (s : State) :
    π (tallyRestoreOp ecc s) = π s := by
  dsimp only [tallyRestoreOp]
  repeat' first
    | with_reducible rfl
    | with_reducible refine (State.setBody_only (hU.mono (by decide)) _ _).trans ?_
    | with_reducible refine (State.memFailure_only (hU.mono (by decide)) _ _ _).trans ?_
    | with_reducible refine (State.addMark_only (hU.mono (by decide)) _ _ _).trans ?_
    | with_reducible refine (State.lose_only (hU.mono (by decide)) _ _ _).trans ?_
    | with_reducible refine (hU.wrO (by first | decide | (simp only [wrOk, faultOk, tallyOk, bumpOk, commitOk, List.all_cons, List.all_nil, Bool.and_true, Reg.TLY_LOST_blk] <;> decide) | (split <;> decide) | (split <;> simp only [wrOk, faultOk, tallyOk, bumpOk, commitOk, List.all_cons, List.all_nil, Bool.and_true, Reg.TLY_LOST_blk] <;> decide)) _ _).trans ?_
    | with_reducible refine (hU.fault (by first | decide | (simp only [wrOk, faultOk, tallyOk, bumpOk, commitOk, List.all_cons, List.all_nil, Bool.and_true, Reg.TLY_LOST_blk] <;> decide) | (split <;> decide) | (split <;> simp only [wrOk, faultOk, tallyOk, bumpOk, commitOk, List.all_cons, List.all_nil, Bool.and_true, Reg.TLY_LOST_blk] <;> decide)) _).trans ?_
    | fail_if_no_progress with_reducible refine (hU.tly (by decide) _ _).trans ?_
    | with_reducible refine Unseen.ite ?_ ?_
    | with_reducible refine (Unseen.foldl _ ?_ _ _).trans ?_
    | intro _
    | dsimp only
    | split

theorem State.damaged_only {β : Type} {π : State → β} (hU : Unseen 0x2000080080000420 π) (s : State) (i : Nat) (kind : Nat) :
    π (State.damaged s i kind) = π s := by
  dsimp only [State.damaged]
  repeat' first
    | with_reducible rfl
    | with_reducible refine (State.lose_only (hU.mono (by decide)) _ _ _).trans ?_
    | with_reducible refine (State.addMark_only (hU.mono (by decide)) _ _ _).trans ?_
    | with_reducible refine (hU.fault (by first | decide | (simp only [wrOk, faultOk, tallyOk, bumpOk, commitOk, List.all_cons, List.all_nil, Bool.and_true] <;> decide) | (split <;> decide) | (split <;> simp only [wrOk, faultOk, tallyOk, bumpOk, commitOk, List.all_cons, List.all_nil, Bool.and_true] <;> decide)) _).trans ?_

theorem tallyLiveEccOp_only {β : Type} {π : State → β} (hU : Unseen 0x2000080080000420 π) (part : TallyPart) (s : State) :
    π (tallyLiveEccOp part s) = π s := by
  dsimp only [tallyLiveEccOp]
  repeat' first
    | with_reducible rfl
    | with_reducible refine (State.damaged_only (hU.mono (by decide)) _ _ _).trans ?_
    | with_reducible refine (State.setBody_only (hU.mono (by decide)) _ _).trans ?_
    | with_reducible refine (hU.wrO (by first | decide | (simp only [wrOk, faultOk, tallyOk, bumpOk, commitOk, List.all_cons, List.all_nil, Bool.and_true, Reg.TLY_LOST_blk] <;> decide) | (split <;> decide) | (split <;> simp only [wrOk, faultOk, tallyOk, bumpOk, commitOk, List.all_cons, List.all_nil, Bool.and_true, Reg.TLY_LOST_blk] <;> decide)) _ _).trans ?_
    | with_reducible refine (Unseen.foldl _ ?_ _ _).trans ?_
    | intro _
    | dsimp only
    | split

theorem State.passChute_only {β : Type} {π : State → β} (hU : Unseen 0x400 π) (s : State) (n : Nat) (words : Nat) :
    π (State.passChute s n words) = π s := by
  dsimp only [State.passChute]
  repeat' first
    | with_reducible rfl
    | with_reducible refine (State.setChute_only (hU.mono (by decide)) _ _ _).trans ?_
    | with_reducible refine Unseen.ite ?_ ?_
    | split

theorem snapshotOp_only {β : Type} {π : State → β} (hU : Unseen 0x600 π) (c : Cmd) (s : State) :
    π (snapshotOp c s) = π s := by
  dsimp only [snapshotOp]
  repeat' first
    | with_reducible rfl
    | with_reducible refine (State.finish_only (hU.mono (by decide)) _ _ _ _ _).trans ?_
    | with_reducible refine (State.hostCmd_only (hU.mono (by decide)) _ _ _ _ ?_).trans ?_
    | with_reducible refine (State.finishData_only (hU.mono (by decide)) _ _ _).trans ?_
    | with_reducible refine (State.passChute_only (hU.mono (by decide)) _ _ _).trans ?_
    | with_reducible refine Unseen.ite ?_ ?_
    | intro _
    | dsimp only
    | split

theorem tallyClearOp_only {β : Type} {π : State → β} (hU : Unseen 0x2800080080800620 π) (c : Cmd) (p : List Byte) (s : State) :
    π (tallyClearOp c p s) = π s := by
  dsimp only [tallyClearOp]
  repeat' first
    | with_reducible rfl
    | with_reducible refine (State.finish_only (hU.mono (by decide)) _ _ _ _ _).trans ?_
    | with_reducible refine (State.hostCmd_only (hU.mono (by decide)) _ _ _ _ ?_).trans ?_
    | with_reducible refine (State.applyClearTally_only (hU.mono (by decide)) _ _).trans ?_
    | with_reducible refine (State.signedCmd_only (hU.mono (by decide)) _ _ _ _ _ _ _ _ _ ?_).trans ?_
    | fail_if_no_progress with_reducible refine (hU.tly (by decide) _ _).trans ?_
    | with_reducible refine Unseen.ite ?_ ?_
    | intro _
    | split

theorem defCommitOp_only {β : Type} {π : State → β} (hU : Unseen 0x2000000088000008 π) (s : State) :
    π (defCommitOp s) = π s := by
  dsimp only [defCommitOp]
  repeat' first
    | with_reducible rfl
    | with_reducible refine (hU.commit (by first | decide | (simp only [wrOk, faultOk, tallyOk, bumpOk, commitOk, List.all_cons, List.all_nil, Bool.and_true] <;> decide) | (split <;> decide) | (split <;> simp only [wrOk, faultOk, tallyOk, bumpOk, commitOk, List.all_cons, List.all_nil, Bool.and_true] <;> decide)) _ _).trans ?_
    | fail_if_no_progress with_reducible refine (hU.tly (by decide) _ _).trans ?_
    | with_reducible refine Unseen.ite ?_ ?_
    | intro _
    | split


/-! ## Update -/

theorem State.setBoot_only {β : Type} {π : State → β} (hU : Unseen 0x8000000 π) (s : State) (b : BootRec) :
    π (State.setBoot s b) = π s := by
  dsimp only [State.setBoot]
  repeat' first
    | with_reducible rfl
    | fail_if_no_progress with_reducible refine (hU.nvm (by decide) _ _).trans ?_

theorem State.setSession_only {β : Type} {π : State → β} (hU : Unseen 0x8000000 π) (s : State) (x : UpdSession) :
    π (State.setSession s x) = π s := by
  dsimp only [State.setSession]
  repeat' first
    | with_reducible rfl
    | fail_if_no_progress with_reducible refine (hU.nvm (by decide) _ _).trans ?_

theorem State.setChunk_only {β : Type} {π : State → β} (hU : Unseen 0x8000000 π) (s : State) (i : Nat) (v : Nat) :
    π (State.setChunk s i v) = π s := by
  dsimp only [State.setChunk]
  repeat' first
    | with_reducible rfl
    | with_reducible refine (State.setSession_only (hU.mono (by decide)) _ _).trans ?_
    | with_reducible refine Unseen.ite ?_ ?_
    | split

theorem State.showUpd_only {β : Type} {π : State → β} (hU : Unseen 0x1000000000000000 π) (s : State) :
    π (State.showUpd s) = π s := by
  dsimp only [State.showUpd]
  repeat' first
    | with_reducible rfl
    | with_reducible refine (hU.wrEach (by first | decide | (simp only [wrOk, faultOk, tallyOk, bumpOk, commitOk, List.all_cons, List.all_nil, Bool.and_true] <;> decide) | (split <;> decide) | (split <;> simp only [wrOk, faultOk, tallyOk, bumpOk, commitOk, List.all_cons, List.all_nil, Bool.and_true] <;> decide)) _).trans ?_
    | with_reducible refine Unseen.ite ?_ ?_
    | split

theorem State.discardChunks_only {β : Type} {π : State → β} (hU : Unseen 0x1000080008000420 π) (s : State) :
    π (State.discardChunks s) = π s := by
  dsimp only [State.discardChunks]
  repeat' first
    | with_reducible rfl
    | with_reducible refine (State.setSession_only (hU.mono (by decide)) _ _).trans ?_
    | with_reducible refine (hU.bumpBy (by first | decide | (simp only [wrOk, faultOk, tallyOk, bumpOk, commitOk, List.all_cons, List.all_nil, Bool.and_true] <;> decide) | (split <;> decide) | (split <;> simp only [wrOk, faultOk, tallyOk, bumpOk, commitOk, List.all_cons, List.all_nil, Bool.and_true] <;> decide)) _ _).trans ?_
    | with_reducible refine Unseen.ite ?_ ?_
    | split

theorem State.updAnswer_only {β : Type} {π : State → β} (hU : Unseen 0x80000000620 π) (s : State) (from_ : UpdFrom) (v : Nat) (session : Nat) (index : Nat) (len : Nat) (result : Nat) :
    π (State.updAnswer s from_ v session index len result) = π s := by
  dsimp only [State.updAnswer]
  repeat' first
    | with_reducible rfl
    | with_reducible refine (State.finish_only (hU.mono (by decide)) _ _ _ _ _).trans ?_
    | with_reducible refine (State.consume_only (hU.mono (by decide)) _ _ _).trans ?_
    | with_reducible refine (State.offer_only (hU.mono (by decide)) _ _ _ _).trans ?_
    | with_reducible refine Unseen.ite ?_ ?_
    | dsimp only
    | split

theorem State.updFrom_only {β : Type} {π : State → β} (hU : Unseen 0x20000600 π) (s : State) (from_ : UpdFrom) (size : Nat) (words : List DWord) (body : State → State) (hbody : ∀ (y0 : State), π (body y0) = π y0) :
    π (State.updFrom s from_ size words body) = π s := by
  dsimp only [State.updFrom]
  repeat' first
    | with_reducible rfl
    | with_reducible refine (hbody _).trans ?_
    | with_reducible refine (State.hostCmd_only (hU.mono (by decide)) _ _ _ _ ?_).trans ?_
    | with_reducible refine (State.consume_only (hU.mono (by decide)) _ _ _).trans ?_
    | fail_if_no_progress with_reducible refine (hU.upd (by decide) _ _).trans ?_
    | with_reducible refine Unseen.ite ?_ ?_
    | intro _
    | dsimp only
    | split

theorem State.openSession_only {β : Type} {π : State → β} (hU : Unseen 0x1000080028002420 π) (s : State) (h : ImgHdr) (p : List Byte) (source : Nat) :
    π (State.openSession s h p source) = π s := by
  dsimp only [State.openSession]
  repeat' first
    | with_reducible rfl
    | with_reducible refine (State.discardChunks_only (hU.mono (by decide)) _).trans ?_
    | with_reducible refine (State.setSession_only (hU.mono (by decide)) _ _).trans ?_
    | with_reducible refine (State.setBoot_only (hU.mono (by decide)) _ _).trans ?_
    | fail_if_no_progress with_reducible refine (hU.upd (by decide) _ _).trans ?_
    | fail_if_no_progress with_reducible refine (hU.mem (by decide) _ _).trans ?_
    | fail_if_no_progress with_reducible refine (hU.mem_upd (by decide) (by decide) _ _ _).trans ?_

theorem State.decideHeader_only {β : Type} {π : State → β} (hU : Unseen 0x1000080028002420 π) (s : State) (h : ImgHdr) (p : List Byte) (source : Nat) :
    π ((State.decideHeader s h p source).2) = π s := by
  dsimp only [State.decideHeader]
  repeat' first
    | with_reducible rfl
    | with_reducible refine (State.setSession_only (hU.mono (by decide)) _ _).trans ?_
    | with_reducible refine (State.openSession_only (hU.mono (by decide)) _ _ _ _).trans ?_
    | with_reducible refine (State.discardChunks_only (hU.mono (by decide)) _).trans ?_
    | with_reducible refine (State.setBoot_only (hU.mono (by decide)) _ _).trans ?_
    | with_reducible refine (hU.fault (by first | decide | (simp only [wrOk, faultOk, tallyOk, bumpOk, commitOk, List.all_cons, List.all_nil, Bool.and_true] <;> decide) | (split <;> decide) | (split <;> simp only [wrOk, faultOk, tallyOk, bumpOk, commitOk, List.all_cons, List.all_nil, Bool.and_true] <;> decide)) _).trans ?_
    | with_reducible refine Unseen.ite ?_ ?_
    | dsimp only
    | split

theorem updateHeaderOp_only {β : Type} {π : State → β} (hU : Unseen 0x1000080028002620 π) (src : UpdFrom) (data : List Byte) (rsv : Bool) (s : State) :
    π (updateHeaderOp src data rsv s) = π s := by
  dsimp only [updateHeaderOp]
  repeat' first
    | with_reducible rfl
    | with_reducible refine (State.updFrom_only (hU.mono (by decide)) _ _ _ _ _ ?_).trans ?_
    | with_reducible refine (State.decideHeader_only (hU.mono (by decide)) _ _ _ _).trans ?_
    | with_reducible refine (State.updAnswer_only (hU.mono (by decide)) _ _ _ _ _ _ _).trans ?_
    | with_reducible refine (State.showUpd_only (hU.mono (by decide)) _).trans ?_
    | with_reducible refine (hU.bump (by first | decide | (simp only [wrOk, faultOk, tallyOk, bumpOk, commitOk, List.all_cons, List.all_nil, Bool.and_true] <;> decide) | (split <;> decide) | (split <;> simp only [wrOk, faultOk, tallyOk, bumpOk, commitOk, List.all_cons, List.all_nil, Bool.and_true] <;> decide)) _).trans ?_
    | with_reducible refine Unseen.ite ?_ ?_
    | intro _
    | dsimp only
    | split

theorem State.chunksBad_only {β : Type} {π : State → β} (hU : Unseen 0x1000080000000420 π) (s : State) (k : Nat) :
    π (State.chunksBad s k) = π s := by
  dsimp only [State.chunksBad]
  repeat' first
    | with_reducible rfl
    | with_reducible refine (hU.fault (by first | decide | (simp only [wrOk, faultOk, tallyOk, bumpOk, commitOk, List.all_cons, List.all_nil, Bool.and_true] <;> decide) | (split <;> decide) | (split <;> simp only [wrOk, faultOk, tallyOk, bumpOk, commitOk, List.all_cons, List.all_nil, Bool.and_true] <;> decide)) _).trans ?_
    | with_reducible refine (hU.bumpBy (by first | decide | (simp only [wrOk, faultOk, tallyOk, bumpOk, commitOk, List.all_cons, List.all_nil, Bool.and_true] <;> decide) | (split <;> decide) | (split <;> simp only [wrOk, faultOk, tallyOk, bumpOk, commitOk, List.all_cons, List.all_nil, Bool.and_true] <;> decide)) _ _).trans ?_

theorem State.checkData_only {β : Type} {π : State → β} (hU : Unseen 0x1000080008000420 π) (s : State) (h : ImgHdr) (i : Nat) :
    π ((State.checkData s h i).1) = π s := by
  dsimp only [State.checkData]
  repeat' first
    | with_reducible rfl
    | with_reducible refine (State.chunksBad_only (hU.mono (by decide)) _ _).trans ?_
    | with_reducible refine (State.setChunk_only (hU.mono (by decide)) _ _ _).trans ?_
    | with_reducible refine Unseen.ite ?_ ?_
    | dsimp only
    | split

theorem State.checkPresent_only {β : Type} {π : State → β} (hU : Unseen 0x1000080008000420 π) (s : State) (h : ImgHdr) :
    π (State.checkPresent s h) = π s := by
  dsimp only [State.checkPresent]
  repeat' first
    | with_reducible rfl
    | with_reducible refine (State.checkData_only (hU.mono (by decide)) _ _ _).trans ?_
    | with_reducible refine (Unseen.foldl _ ?_ _ _).trans ?_
    | intro _
    | dsimp only

theorem State.checkImage_only {β : Type} {π : State → β} (hU : Unseen 0x1000080008000420 π) (s : State) (h : ImgHdr) :
    π ((State.checkImage s h).1) = π s := by
  dsimp only [State.checkImage]
  repeat' first
    | with_reducible rfl
    | with_reducible refine (State.chunksBad_only (hU.mono (by decide)) _ _).trans ?_
    | with_reducible refine (State.setSession_only (hU.mono (by decide)) _ _).trans ?_
    | with_reducible refine (State.setBoot_only (hU.mono (by decide)) _ _).trans ?_
    | with_reducible refine Unseen.ite ?_ ?_
    | intro _
    | dsimp only
    | split

theorem State.verifyAfter_only {β : Type} {π : State → β} (hU : Unseen 0x1000080008000420 π) (s : State) (h : ImgHdr) (i : Nat) :
    π ((State.verifyAfter s h i).2) = π s := by
  dsimp only [State.verifyAfter]
  repeat' first
    | with_reducible rfl
    | with_reducible refine (State.checkPresent_only (hU.mono (by decide)) _ _).trans ?_
    | with_reducible refine (State.setChunk_only (hU.mono (by decide)) _ _ _).trans ?_
    | with_reducible refine (State.chunksBad_only (hU.mono (by decide)) _ _).trans ?_
    | with_reducible refine (State.checkImage_only (hU.mono (by decide)) _ _).trans ?_
    | with_reducible refine (State.checkData_only (hU.mono (by decide)) _ _ _).trans ?_
    | with_reducible refine Unseen.ite ?_ ?_
    | with_reducible refine (Unseen.foldl _ ?_ _ _).trans ?_
    | intro _
    | dsimp only
    | split

theorem State.recheckChunks_only {β : Type} {π : State → β} (hU : Unseen 0x1000080008000420 π) (s : State) :
    π (State.recheckChunks s) = π s := by
  dsimp only [State.recheckChunks]
  repeat' first
    | with_reducible rfl
    | with_reducible refine (State.checkImage_only (hU.mono (by decide)) _ _).trans ?_
    | with_reducible refine (State.checkPresent_only (hU.mono (by decide)) _ _).trans ?_
    | with_reducible refine (State.verifyAfter_only (hU.mono (by decide)) _ _ _).trans ?_
    | with_reducible refine Unseen.ite ?_ ?_
    | intro _
    | dsimp only
    | split

theorem updateChunkOp_only {β : Type} {π : State → β} (hU : Unseen 0x1000080020000620 π) (src : UpdFrom) (session0 : Nat) (index0 : Nat) (data : List Byte) (rsv : Bool) (s : State) :
    π (updateChunkOp src session0 index0 data rsv s) = π s := by
  dsimp only [updateChunkOp]
  repeat' first
    | with_reducible rfl
    | with_reducible refine (State.updAnswer_only (hU.mono (by decide)) _ _ _ _ _ _ _).trans ?_
    | with_reducible refine (State.updFrom_only (hU.mono (by decide)) _ _ _ _ _ ?_).trans ?_
    | with_reducible refine (hU.bump (by first | decide | (simp only [wrOk, faultOk, tallyOk, bumpOk, commitOk, List.all_cons, List.all_nil, Bool.and_true] <;> decide) | (split <;> decide) | (split <;> simp only [wrOk, faultOk, tallyOk, bumpOk, commitOk, List.all_cons, List.all_nil, Bool.and_true] <;> decide)) _).trans ?_
    | fail_if_no_progress with_reducible refine (hU.upd (by decide) _ _).trans ?_
    | with_reducible refine Unseen.ite ?_ ?_
    | intro _
    | dsimp only
    | split

theorem chunkProgrammedOp_only {β : Type} {π : State → β} (hU : Unseen 0x1000080028002620 π) (ok : Bool) (s : State) :
    π (chunkProgrammedOp ok s) = π s := by
  dsimp only [chunkProgrammedOp]
  repeat' first
    | with_reducible rfl
    | with_reducible refine (State.updAnswer_only (hU.mono (by decide)) _ _ _ _ _ _ _).trans ?_
    | with_reducible refine (State.setChunk_only (hU.mono (by decide)) _ _ _).trans ?_
    | with_reducible refine (State.showUpd_only (hU.mono (by decide)) _).trans ?_
    | with_reducible refine (State.verifyAfter_only (hU.mono (by decide)) _ _ _).trans ?_
    | with_reducible refine (hU.bump (by first | decide | (simp only [wrOk, faultOk, tallyOk, bumpOk, commitOk, List.all_cons, List.all_nil, Bool.and_true] <;> decide) | (split <;> decide) | (split <;> simp only [wrOk, faultOk, tallyOk, bumpOk, commitOk, List.all_cons, List.all_nil, Bool.and_true] <;> decide)) _).trans ?_
    | fail_if_no_progress with_reducible refine (hU.upd (by decide) _ _).trans ?_
    | fail_if_no_progress with_reducible refine (hU.mem (by decide) _ _).trans ?_
    | fail_if_no_progress with_reducible refine (hU.mem_upd (by decide) (by decide) _ _ _).trans ?_
    | with_reducible refine Unseen.ite ?_ ?_
    | dsimp only
    | split

theorem fedConnectOp_only {β : Type} {π : State → β} (hU : Unseen 0x20000000 π) (lanB : Bool) (s : State) :
    π (fedConnectOp lanB s) = π s := by
  dsimp only [fedConnectOp]
  repeat' first
    | with_reducible rfl
    | fail_if_no_progress with_reducible refine (hU.upd (by decide) _ _).trans ?_
    | with_reducible refine Unseen.ite ?_ ?_
    | split

theorem fedConnIdleOp_only {β : Type} {π : State → β} (hU : Unseen 0x20000000 π) (lanB : Bool) (s : State) :
    π (fedConnIdleOp lanB s) = π s := by
  dsimp only [fedConnIdleOp]
  repeat' first
    | with_reducible rfl
    | fail_if_no_progress with_reducible refine (hU.upd (by decide) _ _).trans ?_

theorem sessionIdleOp_only {β : Type} {π : State → β} (hU : Unseen 0x20000000 π) (s : State) :
    π (sessionIdleOp s) = π s := by
  dsimp only [sessionIdleOp]
  repeat' first
    | with_reducible rfl
    | fail_if_no_progress with_reducible refine (hU.upd (by decide) _ _).trans ?_
    | with_reducible refine Unseen.ite ?_ ?_
    | split

theorem scheduleOp_only {β : Type} {π : State → β} (hU : Unseen 0x1000000008000200 π) (c : Cmd) (s : State) :
    π (scheduleOp c s) = π s := by
  dsimp only [scheduleOp]
  repeat' first
    | with_reducible rfl
    | with_reducible refine (State.finish_only (hU.mono (by decide)) _ _ _ _ _).trans ?_
    | with_reducible refine (State.showUpd_only (hU.mono (by decide)) _).trans ?_
    | with_reducible refine (State.hostCmd_only (hU.mono (by decide)) _ _ _ _ ?_).trans ?_
    | with_reducible refine (State.setBoot_only (hU.mono (by decide)) _ _).trans ?_
    | with_reducible refine Unseen.ite ?_ ?_
    | intro _
    | split

theorem State.abandonUpdate_only {β : Type} {π : State → β} (hU : Unseen 0xa0028c00823806e0 π) (s : State) :
    π (State.abandonUpdate s) = π s := by
  dsimp only [State.abandonUpdate]
  repeat' first
    | with_reducible rfl
    | with_reducible refine (State.enterMode_only (hU.mono (by decide)) _ _).trans ?_
    | with_reducible refine (State.releaseAll_only (hU.mono (by decide)) _ _).trans ?_

theorem activationDeferExpireOp_only {β : Type} {π : State → β} (hU : Unseen 0x1000000008000020 π) (s : State) :
    π (activationDeferExpireOp s) = π s := by
  dsimp only [activationDeferExpireOp]
  repeat' first
    | with_reducible rfl
    | with_reducible refine (State.showUpd_only (hU.mono (by decide)) _).trans ?_
    | with_reducible refine (State.setBoot_only (hU.mono (by decide)) _ _).trans ?_
    | with_reducible refine (hU.fault (by first | decide | (simp only [wrOk, faultOk, tallyOk, bumpOk, commitOk, List.all_cons, List.all_nil, Bool.and_true] <;> decide) | (split <;> decide) | (split <;> simp only [wrOk, faultOk, tallyOk, bumpOk, commitOk, List.all_cons, List.all_nil, Bool.and_true] <;> decide)) _).trans ?_
    | with_reducible refine (hU.wrO (by first | decide | (simp only [wrOk, faultOk, tallyOk, bumpOk, commitOk, List.all_cons, List.all_nil, Bool.and_true] <;> decide) | (split <;> decide) | (split <;> simp only [wrOk, faultOk, tallyOk, bumpOk, commitOk, List.all_cons, List.all_nil, Bool.and_true] <;> decide)) _ _).trans ?_
    | with_reducible refine Unseen.ite ?_ ?_
    | split

theorem activationTestOp_only {β : Type} {π : State → β} (hU : Unseen 0xb01f8e00be7c16f8 π) (s : State) :
    π (activationTestOp s) = π s := by
  dsimp only [activationTestOp]
  repeat' first
    | with_reducible rfl
    | with_reducible refine (State.leaveCommitting_only (hU.mono (by decide)) _).trans ?_
    | with_reducible refine (State.wholeSecond_only (hU.mono (by decide)) _).trans ?_
    | with_reducible refine (State.enterMode_only (hU.mono (by decide)) _ _).trans ?_
    | with_reducible refine (activationDeferExpireOp_only (hU.mono (by decide)) _).trans ?_
    | with_reducible refine (State.abandonUpdate_only (hU.mono (by decide)) _).trans ?_
    | with_reducible refine (hU.wrO (by first | decide | (simp only [wrOk, faultOk, tallyOk, bumpOk, commitOk, List.all_cons, List.all_nil, Bool.and_true] <;> decide) | (split <;> decide) | (split <;> simp only [wrOk, faultOk, tallyOk, bumpOk, commitOk, List.all_cons, List.all_nil, Bool.and_true] <;> decide)) _ _).trans ?_
    | fail_if_no_progress with_reducible refine (hU.upd (by decide) _ _).trans ?_
    | with_reducible refine Unseen.ite ?_ ?_
    | split

theorem activationCommitOp_only {β : Type} {π : State → β} (hU : Unseen 0x30000a00880017e0 π) (duration : Nat) (s : State) :
    π (activationCommitOp duration s) = π s := by
  dsimp only [activationCommitOp]
  repeat' first
    | with_reducible rfl
    | with_reducible refine (flushCommitPointOp_only (hU.mono (by decide)) _).trans ?_
    | with_reducible refine (State.flushFor_only (hU.mono (by decide)) _ _).trans ?_
    | with_reducible refine (State.showUpd_only (hU.mono (by decide)) _).trans ?_
    | with_reducible refine (flushStartOp_only (hU.mono (by decide)) _).trans ?_
    | with_reducible refine (State.restart_only (hU.mono (by decide)) _ _).trans ?_
    | with_reducible refine (flushCompleteOp_only (hU.mono (by decide)) _ _ _).trans ?_
    | with_reducible refine (State.advance_only (hU.mono (by decide)) _ _).trans ?_
    | with_reducible refine (State.setBoot_only (hU.mono (by decide)) _ _).trans ?_
    | with_reducible refine Unseen.ite ?_ ?_
    | split

theorem State.loadArea_only {β : Type} {π : State → β} (hU : Unseen 0x200000002600004 π) (s : State) (a : SettingsArea) :
    π (State.loadArea s a) = π s := by
  dsimp only [State.loadArea]
  repeat' first
    | with_reducible rfl
    | with_reducible refine (hU.wrAny (by decide) _ _ _).trans ?_
    | with_reducible refine (hU.wrO (by first | decide | (simp only [wrOk, faultOk, tallyOk, bumpOk, commitOk, List.all_cons, List.all_nil, Bool.and_true, SettingsArea.regs, Reg.TIM_PG_CTRL_EN_blk, Reg.TIM_PG_CTRL_EN_off] <;> decide) | (split <;> decide) | (split <;> simp only [wrOk, faultOk, tallyOk, bumpOk, commitOk, List.all_cons, List.all_nil, Bool.and_true, SettingsArea.regs, Reg.TIM_PG_CTRL_EN_blk, Reg.TIM_PG_CTRL_EN_off] <;> decide) | (simp only [SettingsArea.regs]; split <;> decide)) _ _).trans ?_
    | fail_if_no_progress with_reducible refine (hU.gov_cor (by decide) (by decide) _ _ _).trans ?_
    | fail_if_no_progress with_reducible refine (hU.gov_zyp (by decide) (by decide) _ _ _).trans ?_
    | fail_if_no_progress with_reducible refine (hU.zyp_cor (by decide) (by decide) _ _ _).trans ?_
    | fail_if_no_progress with_reducible refine (hU.gov_zyp_cor (by decide) (by decide) (by decide) _ _ _ _).trans ?_
    | with_reducible refine (Unseen.foldl _ ?_ _ _).trans ?_
    | intro _
    | dsimp only

theorem State.profiles_only {β : Type} {π : State → β} (hU : Unseen 0x8200000000000000 π) (s : State) (profile : Option Nat) (radio : Option Bool) :
    π (State.profiles s profile radio) = π s := by
  dsimp only [State.profiles]
  repeat' first
    | with_reducible rfl
    | with_reducible refine (hU.wrO (by first | decide | (simp only [wrOk, faultOk, tallyOk, bumpOk, commitOk, List.all_cons, List.all_nil, Bool.and_true] <;> decide) | (split <;> decide) | (split <;> simp only [wrOk, faultOk, tallyOk, bumpOk, commitOk, List.all_cons, List.all_nil, Bool.and_true] <;> decide)) _ _).trans ?_
    | with_reducible refine (hU.wrEach (by first | decide | (simp only [wrOk, faultOk, tallyOk, bumpOk, commitOk, List.all_cons, List.all_nil, Bool.and_true] <;> decide) | (split <;> decide) | (split <;> simp only [wrOk, faultOk, tallyOk, bumpOk, commitOk, List.all_cons, List.all_nil, Bool.and_true] <;> decide)) _).trans ?_
    | with_reducible refine Unseen.ite ?_ ?_
    | dsimp only
    | split

theorem State.commitDormer_only {β : Type} {π : State → β} (hU : Unseen 0x20000040000008 π) (s : State) (a : SettingsArea) :
    π (State.commitDormer s a) = π s := by
  dsimp only [State.commitDormer]
  repeat' first
    | with_reducible rfl
    | with_reducible refine (chanCommitOp_only (hU.mono (by decide)) _).trans ?_
    | with_reducible refine (dormerRulesCommitOp_only (hU.mono (by decide)) _).trans ?_
    | with_reducible refine (hU.wrShadow (by decide) _ _ _).trans ?_
    | fail_if_no_progress with_reducible refine (hU.drm (by decide) _ _).trans ?_
    | with_reducible refine (Unseen.foldl _ ?_ _ _).trans ?_
    | intro _
    | dsimp only

theorem State.takeArea_only {β : Type} {π : State → β} (hU : Unseen 0x822000004260000c π) (s : State) (a : SettingsArea) :
    π (State.takeArea s a) = π s := by
  dsimp only [State.takeArea]
  repeat' first
    | with_reducible rfl
    | with_reducible refine (State.commitDormer_only (hU.mono (by decide)) _ _).trans ?_
    | with_reducible refine (State.profiles_only (hU.mono (by decide)) _ _ _).trans ?_
    | with_reducible refine (State.loadArea_only (hU.mono (by decide)) _ _).trans ?_
    | with_reducible refine (hU.wrO (by first | decide | (simp only [wrOk, faultOk, tallyOk, bumpOk, commitOk, List.all_cons, List.all_nil, Bool.and_true, SettingsArea.regs] <;> decide) | (split <;> decide) | (split <;> simp only [wrOk, faultOk, tallyOk, bumpOk, commitOk, List.all_cons, List.all_nil, Bool.and_true, SettingsArea.regs] <;> decide) | (simp only [SettingsArea.regs]; split <;> decide)) _ _).trans ?_
    | with_reducible refine Unseen.ite ?_ ?_
    | intro _
    | dsimp only
    | split

theorem State.fallBack_only {β : Type} {π : State → β} (hU : Unseen 0x10000a00080005e0 π) (s : State) :
    π (State.fallBack s) = π s := by
  dsimp only [State.fallBack]
  repeat' first
    | with_reducible rfl
    | with_reducible refine (State.showUpd_only (hU.mono (by decide)) _).trans ?_
    | with_reducible refine (State.restart_only (hU.mono (by decide)) _ _).trans ?_
    | with_reducible refine (State.setBoot_only (hU.mono (by decide)) _ _).trans ?_
    | with_reducible refine (hU.bump (by first | decide | (simp only [wrOk, faultOk, tallyOk, bumpOk, commitOk, List.all_cons, List.all_nil, Bool.and_true] <;> decide) | (split <;> decide) | (split <;> simp only [wrOk, faultOk, tallyOk, bumpOk, commitOk, List.all_cons, List.all_nil, Bool.and_true] <;> decide)) _).trans ?_
    | with_reducible refine (hU.fault (by first | decide | (simp only [wrOk, faultOk, tallyOk, bumpOk, commitOk, List.all_cons, List.all_nil, Bool.and_true] <;> decide) | (split <;> decide) | (split <;> simp only [wrOk, faultOk, tallyOk, bumpOk, commitOk, List.all_cons, List.all_nil, Bool.and_true] <;> decide)) _).trans ?_
    | with_reducible refine Unseen.ite ?_ ?_
    | split

theorem settingsMigrateOp_only {β : Type} {π : State → β} (hU : Unseen 0x92200a006a6005ec π) (ok : Bool) (s : State) :
    π (settingsMigrateOp ok s) = π s := by
  dsimp only [settingsMigrateOp]
  repeat' first
    | with_reducible rfl
    | with_reducible refine (State.takeArea_only (hU.mono (by decide)) _ _).trans ?_
    | with_reducible refine (State.fallBack_only (hU.mono (by decide)) _).trans ?_
    | with_reducible refine (State.storeWith_only (hU.mono (by decide)) _ _).trans ?_
    | with_reducible refine (hU.fault (by first | decide | (simp only [wrOk, faultOk, tallyOk, bumpOk, commitOk, List.all_cons, List.all_nil, Bool.and_true] <;> decide) | (split <;> decide) | (split <;> simp only [wrOk, faultOk, tallyOk, bumpOk, commitOk, List.all_cons, List.all_nil, Bool.and_true] <;> decide)) _).trans ?_
    | fail_if_no_progress with_reducible refine (hU.upd (by decide) _ _).trans ?_
    | fail_if_no_progress with_reducible refine (hU.pwr (by decide) _ _).trans ?_
    | fail_if_no_progress with_reducible refine (hU.pwr_upd (by decide) (by decide) _ _ _).trans ?_
    | with_reducible refine Unseen.ite ?_ ?_
    | intro _
    | dsimp only
    | split

theorem trialConfirmOp_only {β : Type} {π : State → β} (hU : Unseen 0x1000000008000020 π) (s : State) :
    π (trialConfirmOp s) = π s := by
  dsimp only [trialConfirmOp]
  repeat' first
    | with_reducible rfl
    | with_reducible refine (State.setSession_only (hU.mono (by decide)) _ _).trans ?_
    | with_reducible refine (State.showUpd_only (hU.mono (by decide)) _).trans ?_
    | with_reducible refine (State.setBoot_only (hU.mono (by decide)) _ _).trans ?_
    | with_reducible refine (hU.wrO (by first | decide | (simp only [wrOk, faultOk, tallyOk, bumpOk, commitOk, List.all_cons, List.all_nil, Bool.and_true] <;> decide) | (split <;> decide) | (split <;> simp only [wrOk, faultOk, tallyOk, bumpOk, commitOk, List.all_cons, List.all_nil, Bool.and_true] <;> decide)) _ _).trans ?_
    | with_reducible refine (hU.event (by decide) _ _ _ _).trans ?_
    | with_reducible refine Unseen.ite ?_ ?_
    | dsimp only
    | split

theorem trialTimeoutOp_only {β : Type} {π : State → β} (hU : Unseen 0x30000a00080015e0 π) (s : State) :
    π (trialTimeoutOp s) = π s := by
  dsimp only [trialTimeoutOp]
  repeat' first
    | with_reducible rfl
    | with_reducible refine (State.advance_only (hU.mono (by decide)) _ _).trans ?_
    | with_reducible refine (State.fallBack_only (hU.mono (by decide)) _).trans ?_
    | with_reducible refine Unseen.ite ?_ ?_
    | split

theorem State.updCtrl_only {β : Type} {π : State → β} (hU : Unseen 0x1000000000000000 π) (s : State) (alone : Bool) (applies : Bool) (body : State → State) (hbody : ∀ (y0 : State), π (body y0) = π y0) :
    π (State.updCtrl s alone applies body) = π s := by
  dsimp only [State.updCtrl]
  repeat' first
    | with_reducible rfl
    | with_reducible refine (hbody _).trans ?_
    | with_reducible refine (State.showUpd_only (hU.mono (by decide)) _).trans ?_
    | with_reducible refine (hU.wrO (by first | decide | (simp only [wrOk, faultOk, tallyOk, bumpOk, commitOk, List.all_cons, List.all_nil, Bool.and_true] <;> decide) | (split <;> decide) | (split <;> simp only [wrOk, faultOk, tallyOk, bumpOk, commitOk, List.all_cons, List.all_nil, Bool.and_true] <;> decide)) _ _).trans ?_
    | with_reducible refine Unseen.ite ?_ ?_
    | split

theorem lockOp_only {β : Type} {π : State → β} (hU : Unseen 0x1000000008000000 π) (alone : Bool) (s : State) :
    π (lockOp alone s) = π s := by
  dsimp only [lockOp]
  repeat' first
    | with_reducible rfl
    | with_reducible refine (State.updCtrl_only (hU.mono (by decide)) _ _ _ _ ?_).trans ?_
    | with_reducible refine (State.setBoot_only (hU.mono (by decide)) _ _).trans ?_
    | intro _

theorem unlockOp_only {β : Type} {π : State → β} (hU : Unseen 0x1000000008000000 π) (alone : Bool) (s : State) :
    π (unlockOp alone s) = π s := by
  dsimp only [unlockOp]
  repeat' first
    | with_reducible rfl
    | with_reducible refine (State.updCtrl_only (hU.mono (by decide)) _ _ _ _ ?_).trans ?_
    | with_reducible refine (State.setBoot_only (hU.mono (by decide)) _ _).trans ?_
    | intro _

theorem cancelOp_only {β : Type} {π : State → β} (hU : Unseen 0xb0028c008a3806e0 π) (alone : Bool) (s : State) :
    π (cancelOp alone s) = π s := by
  dsimp only [cancelOp]
  repeat' first
    | with_reducible rfl
    | with_reducible refine (State.updCtrl_only (hU.mono (by decide)) _ _ _ _ ?_).trans ?_
    | with_reducible refine (State.unlessPfail_only (hU.mono (by decide)) _ _ ?_).trans ?_
    | with_reducible refine (State.abandonUpdate_only (hU.mono (by decide)) _).trans ?_
    | with_reducible refine (State.setBoot_only (hU.mono (by decide)) _ _).trans ?_
    | with_reducible refine (hU.wrO (by first | decide | (simp only [wrOk, faultOk, tallyOk, bumpOk, commitOk, List.all_cons, List.all_nil, Bool.and_true] <;> decide) | (split <;> decide) | (split <;> simp only [wrOk, faultOk, tallyOk, bumpOk, commitOk, List.all_cons, List.all_nil, Bool.and_true] <;> decide)) _ _).trans ?_
    | with_reducible refine Unseen.ite ?_ ?_
    | intro _
    | split

theorem hostOkOp_only {β : Type} {π : State → β} (hU : Unseen 0x1000000020000000 π) (alone : Bool) (s : State) :
    π (hostOkOp alone s) = π s := by
  dsimp only [hostOkOp]
  repeat' first
    | with_reducible rfl
    | with_reducible refine (State.updCtrl_only (hU.mono (by decide)) _ _ _ _ ?_).trans ?_
    | fail_if_no_progress with_reducible refine (hU.upd (by decide) _ _).trans ?_
    | intro _

theorem updateClearOp_only {β : Type} {π : State → β} (hU : Unseen 0x1000080008000420 π) (alone : Bool) (s : State) :
    π (updateClearOp alone s) = π s := by
  dsimp only [updateClearOp]
  repeat' first
    | with_reducible rfl
    | with_reducible refine (State.discardChunks_only (hU.mono (by decide)) _).trans ?_
    | with_reducible refine (State.updCtrl_only (hU.mono (by decide)) _ _ _ _ ?_).trans ?_
    | with_reducible refine (State.setBoot_only (hU.mono (by decide)) _ _).trans ?_
    | with_reducible refine Unseen.ite ?_ ?_
    | intro _
    | split

theorem updCommitOp_only {β : Type} {π : State → β} (hU : Unseen 0x1000000028000008 π) (s : State) :
    π (updCommitOp s) = π s := by
  dsimp only [updCommitOp]
  repeat' first
    | with_reducible rfl
    | with_reducible refine (hU.commit (by first | decide | (simp only [wrOk, faultOk, tallyOk, bumpOk, commitOk, List.all_cons, List.all_nil, Bool.and_true] <;> decide) | (split <;> decide) | (split <;> simp only [wrOk, faultOk, tallyOk, bumpOk, commitOk, List.all_cons, List.all_nil, Bool.and_true] <;> decide)) _ _).trans ?_
    | fail_if_no_progress with_reducible refine (hU.upd (by decide) _ _).trans ?_
    | with_reducible refine Unseen.ite ?_ ?_
    | split


/-! ## Release -/

theorem State.vaultDark_only {β : Type} {π : State → β} (hU : Unseen 0x800000 π) (s : State) :
    π (State.vaultDark s) = π s := by
  dsimp only [State.vaultDark]
  repeat' first
    | with_reducible rfl
    | fail_if_no_progress with_reducible refine (hU.vlt (by decide) _ _).trans ?_
    | intro _
    | dsimp only

theorem State.rebuilt_only {β : Type} {π : State → β} (hU : Unseen 0x84100200b7feff7c π) (s : State) (straps : Nat) :
    π (State.rebuilt s straps) = π s := by
  dsimp only [State.rebuilt]
  repeat' first
    | with_reducible rfl
    | with_reducible refine (hU.wrMap (by decide) _ _).trans ?_
    | with_reducible refine (hU.wrO (by first | decide | (simp only [wrOk, faultOk, tallyOk, bumpOk, commitOk, List.all_cons, List.all_nil, Bool.and_true, levelFields] <;> decide) | (split <;> decide) | (split <;> simp only [wrOk, faultOk, tallyOk, bumpOk, commitOk, List.all_cons, List.all_nil, Bool.and_true, levelFields] <;> decide) | (simp only [levelFields]; split <;> decide)) _ _).trans ?_
    | with_reducible refine (hU.wrEach (by first | decide | (simp only [wrOk, faultOk, tallyOk, bumpOk, commitOk, List.all_cons, List.all_nil, Bool.and_true, levelFields] <;> decide) | (split <;> decide) | (split <;> simp only [wrOk, faultOk, tallyOk, bumpOk, commitOk, List.all_cons, List.all_nil, Bool.and_true, levelFields] <;> decide) | (simp only [levelFields]; split <;> decide)) _).trans ?_
    | fail_if_no_progress with_reducible refine (hU.fld_shd_cmt_evq_mode_pwr_hre_chu_trp_tim_mem_ticks_hst_dsp_epo_ldr_trk_gov_zyp_vlt_rng_cor_cre_twn_upd_tly (by decide) (by decide) (by decide) (by decide) (by decide) (by decide) (by decide) (by decide) (by decide) (by decide) (by decide) (by decide) (by decide) (by decide) (by decide) (by decide) (by decide) (by decide) (by decide) (by decide) (by decide) (by decide) (by decide) (by decide) (by decide) (by decide) _ _ _ _ _ _ _ _ _ _ _ _ _ _ _ _ _ _ _ _ _ _ _ _ _ _ _).trans ?_
    | intro _
    | dsimp only

theorem State.bootStop_only {β : Type} {π : State → β} (hU : Unseen 0x20000800 π) (s : State) :
    π (State.bootStop s) = π s := by
  dsimp only [State.bootStop]
  repeat' first
    | with_reducible rfl
    | fail_if_no_progress with_reducible refine (hU.trp_upd (by decide) (by decide) _ _ _).trans ?_

theorem State.runTrial_only {β : Type} {π : State → β} (hU : Unseen 0x1000010028000000 π) (s : State) (h : ImgHdr) :
    π (State.runTrial s h) = π s := by
  dsimp only [State.runTrial]
  repeat' first
    | with_reducible rfl
    | with_reducible refine (State.setBoot_only (hU.mono (by decide)) _ _).trans ?_
    | with_reducible refine (hU.wrO (by first | decide | (simp only [wrOk, faultOk, tallyOk, bumpOk, commitOk, List.all_cons, List.all_nil, Bool.and_true] <;> decide) | (split <;> decide) | (split <;> simp only [wrOk, faultOk, tallyOk, bumpOk, commitOk, List.all_cons, List.all_nil, Bool.and_true] <;> decide)) _ _).trans ?_
    | fail_if_no_progress with_reducible refine (hU.upd (by decide) _ _).trans ?_

theorem State.noImage_only {β : Type} {π : State → β} (hU : Unseen 0x20000900 π) (s : State) :
    π (State.noImage s) = π s := by
  dsimp only [State.noImage]
  repeat' first
    | with_reducible rfl
    | with_reducible refine (State.bootStop_only (hU.mono (by decide)) _).trans ?_
    | fail_if_no_progress with_reducible refine (hU.pwr (by decide) _ _).trans ?_

theorem State.runStore_only {β : Type} {π : State → β} (hU : Unseen 0x1000010028000920 π) (s : State) (storeOk : Bool) (loftOk : Bool) :
    π (State.runStore s storeOk loftOk) = π s := by
  dsimp only [State.runStore]
  repeat' first
    | with_reducible rfl
    | with_reducible refine (State.noImage_only (hU.mono (by decide)) _).trans ?_
    | with_reducible refine (State.runTrial_only (hU.mono (by decide)) _ _).trans ?_
    | with_reducible refine (State.setBoot_only (hU.mono (by decide)) _ _).trans ?_
    | with_reducible refine (hU.wrO (by first | decide | (simp only [wrOk, faultOk, tallyOk, bumpOk, commitOk, List.all_cons, List.all_nil, Bool.and_true] <;> decide) | (split <;> decide) | (split <;> simp only [wrOk, faultOk, tallyOk, bumpOk, commitOk, List.all_cons, List.all_nil, Bool.and_true] <;> decide)) _ _).trans ?_
    | with_reducible refine (hU.fault (by first | decide | (simp only [wrOk, faultOk, tallyOk, bumpOk, commitOk, List.all_cons, List.all_nil, Bool.and_true] <;> decide) | (split <;> decide) | (split <;> simp only [wrOk, faultOk, tallyOk, bumpOk, commitOk, List.all_cons, List.all_nil, Bool.and_true] <;> decide)) _).trans ?_
    | fail_if_no_progress with_reducible refine (hU.upd (by decide) _ _).trans ?_
    | with_reducible refine Unseen.ite ?_ ?_
    | dsimp only
    | split

theorem State.bootSelect_only {β : Type} {π : State → β} (hU : Unseen 0x1000010028000920 π) (s : State) (storeOk : Bool) (loftOk : Bool) :
    π (State.bootSelect s storeOk loftOk) = π s := by
  dsimp only [State.bootSelect]
  repeat' first
    | with_reducible rfl
    | with_reducible refine (State.runStore_only (hU.mono (by decide)) _ _ _).trans ?_
    | with_reducible refine (State.runTrial_only (hU.mono (by decide)) _ _).trans ?_
    | with_reducible refine (State.setBoot_only (hU.mono (by decide)) _ _).trans ?_
    | with_reducible refine (hU.wrO (by first | decide | (simp only [wrOk, faultOk, tallyOk, bumpOk, commitOk, List.all_cons, List.all_nil, Bool.and_true] <;> decide) | (split <;> decide) | (split <;> simp only [wrOk, faultOk, tallyOk, bumpOk, commitOk, List.all_cons, List.all_nil, Bool.and_true] <;> decide)) _ _).trans ?_
    | with_reducible refine (hU.fault (by first | decide | (simp only [wrOk, faultOk, tallyOk, bumpOk, commitOk, List.all_cons, List.all_nil, Bool.and_true] <;> decide) | (split <;> decide) | (split <;> simp only [wrOk, faultOk, tallyOk, bumpOk, commitOk, List.all_cons, List.all_nil, Bool.and_true] <;> decide)) _).trans ?_
    | with_reducible refine Unseen.ite ?_ ?_
    | dsimp only
    | split

theorem State.loadSettings_only {β : Type} {π : State → β} (hU : Unseen 0x922000004260002c π) (s : State) :
    π (State.loadSettings s) = π s := by
  dsimp only [State.loadSettings]
  repeat' first
    | with_reducible rfl
    | with_reducible refine (State.profiles_only (hU.mono (by decide)) _ _ _).trans ?_
    | with_reducible refine (State.takeArea_only (hU.mono (by decide)) _ _).trans ?_
    | with_reducible refine (hU.fault (by first | decide | (simp only [wrOk, faultOk, tallyOk, bumpOk, commitOk, List.all_cons, List.all_nil, Bool.and_true] <;> decide) | (split <;> decide) | (split <;> simp only [wrOk, faultOk, tallyOk, bumpOk, commitOk, List.all_cons, List.all_nil, Bool.and_true] <;> decide)) _).trans ?_
    | with_reducible refine Unseen.ite ?_ ?_
    | split

theorem State.startVault_only {β : Type} {π : State → β} (hU : Unseen 0x800000020800920 π) (s : State) (ok : Bool) :
    π (State.startVault s ok) = π s := by
  dsimp only [State.startVault]
  repeat' first
    | with_reducible rfl
    | with_reducible refine (State.drawRandom_only (hU.mono (by decide)) _).trans ?_
    | with_reducible refine (State.vaultDark_only (hU.mono (by decide)) _).trans ?_
    | with_reducible refine (State.deriveFixed_only (hU.mono (by decide)) _).trans ?_
    | with_reducible refine (State.zeroise_only (hU.mono (by decide)) _).trans ?_
    | with_reducible refine (State.newChallenge_only (hU.mono (by decide)) _).trans ?_
    | with_reducible refine (State.bootStop_only (hU.mono (by decide)) _).trans ?_
    | with_reducible refine (hU.wrO (by first | decide | (simp only [wrOk, faultOk, tallyOk, bumpOk, commitOk, List.all_cons, List.all_nil, Bool.and_true] <;> decide) | (split <;> decide) | (split <;> simp only [wrOk, faultOk, tallyOk, bumpOk, commitOk, List.all_cons, List.all_nil, Bool.and_true] <;> decide)) _ _).trans ?_
    | with_reducible refine (hU.fault (by first | decide | (simp only [wrOk, faultOk, tallyOk, bumpOk, commitOk, List.all_cons, List.all_nil, Bool.and_true] <;> decide) | (split <;> decide) | (split <;> simp only [wrOk, faultOk, tallyOk, bumpOk, commitOk, List.all_cons, List.all_nil, Bool.and_true] <;> decide)) _).trans ?_
    | fail_if_no_progress with_reducible refine (hU.vlt (by decide) _ _).trans ?_
    | fail_if_no_progress with_reducible refine (hU.pwr (by decide) _ _).trans ?_
    | fail_if_no_progress with_reducible refine (hU.pwr_vlt (by decide) (by decide) _ _ _).trans ?_
    | with_reducible refine Unseen.ite ?_ ?_
    | intro _
    | dsimp only
    | split

theorem State.startTrapdoor_only {β : Type} {π : State → β} (hU : Unseen 0x10000000000800 π) (s : State) (was : Bool) :
    π (State.startTrapdoor s was) = π s := by
  dsimp only [State.startTrapdoor]
  repeat' first
    | with_reducible rfl
    | with_reducible refine (hU.wrEach (by first | decide | (simp only [wrOk, faultOk, tallyOk, bumpOk, commitOk, List.all_cons, List.all_nil, Bool.and_true] <;> decide) | (split <;> decide) | (split <;> simp only [wrOk, faultOk, tallyOk, bumpOk, commitOk, List.all_cons, List.all_nil, Bool.and_true] <;> decide)) _).trans ?_
    | fail_if_no_progress with_reducible refine (hU.trp (by decide) _ _).trans ?_
    | with_reducible refine Unseen.ite ?_ ?_
    | split

theorem State.startEpochs_only {β : Type} {π : State → β} (hU : Unseen 0x10008040000 π) (s : State) :
    π (State.startEpochs s) = π s := by
  dsimp only [State.startEpochs]
  repeat' first
    | with_reducible rfl
    | with_reducible refine (hU.wrO (by first | decide | (simp only [wrOk, faultOk, tallyOk, bumpOk, commitOk, List.all_cons, List.all_nil, Bool.and_true] <;> decide) | (split <;> decide) | (split <;> simp only [wrOk, faultOk, tallyOk, bumpOk, commitOk, List.all_cons, List.all_nil, Bool.and_true] <;> decide)) _ _).trans ?_
    | fail_if_no_progress with_reducible refine (hU.epo_nvm (by decide) (by decide) _ _ _).trans ?_

theorem State.startTime_only {β : Type} {π : State → β} (hU : Unseen 0x2200000020001000 π) (s : State) :
    π (State.startTime s) = π s := by
  dsimp only [State.startTime]
  repeat' first
    | with_reducible rfl
    | with_reducible refine (hU.wrO (by first | decide | (simp only [wrOk, faultOk, tallyOk, bumpOk, commitOk, List.all_cons, List.all_nil, Bool.and_true] <;> decide) | (split <;> decide) | (split <;> simp only [wrOk, faultOk, tallyOk, bumpOk, commitOk, List.all_cons, List.all_nil, Bool.and_true] <;> decide)) _ _).trans ?_
    | fail_if_no_progress with_reducible refine (hU.tim_upd (by decide) (by decide) _ _ _).trans ?_
    | with_reducible refine Unseen.ite ?_ ?_
    | split

theorem State.startRest_only {β : Type} {π : State → β} (hU : Unseen 0xb0408a000a400c20 π) (s : State) :
    π (State.startRest s) = π s := by
  dsimp only [State.startRest]
  repeat' first
    | with_reducible rfl
    | with_reducible refine (State.startUnit_only (hU.mono (by decide)) _).trans ?_
    | with_reducible refine (State.storeRef_only (hU.mono (by decide)) _ _).trans ?_
    | with_reducible refine (State.recheckChunks_only (hU.mono (by decide)) _).trans ?_
    | with_reducible refine (State.showUpd_only (hU.mono (by decide)) _).trans ?_
    | with_reducible refine (State.startPair_only (hU.mono (by decide)) _).trans ?_
    | with_reducible refine (State.showRef_only (hU.mono (by decide)) _).trans ?_
    | with_reducible refine (hU.wrO (by first | decide | (simp only [wrOk, faultOk, tallyOk, bumpOk, commitOk, List.all_cons, List.all_nil, Bool.and_true] <;> decide) | (split <;> decide) | (split <;> simp only [wrOk, faultOk, tallyOk, bumpOk, commitOk, List.all_cons, List.all_nil, Bool.and_true] <;> decide)) _ _).trans ?_
    | fail_if_no_progress with_reducible refine (hU.cor (by decide) _ _).trans ?_
    | with_reducible refine Unseen.ite ?_ ?_
    | dsimp only
    | split

theorem State.showCause_only {β : Type} {π : State → β} (hU : Unseen 0x20000000100 π) (s : State) (causes : Nat) :
    π (State.showCause s causes) = π s := by
  dsimp only [State.showCause]
  repeat' first
    | with_reducible rfl
    | with_reducible refine (hU.wrSub (l := [Reg.CLK_RESET_CAUSE_POWER_ON, Reg.CLK_RESET_CAUSE_SYS_RST, Reg.CLK_RESET_CAUSE_BOD, Reg.CLK_RESET_CAUSE_PFAIL_RESTART, Reg.CLK_RESET_CAUSE_HOST_RESTART, Reg.CLK_RESET_CAUSE_UPDATE_RESTART, Reg.CLK_RESET_CAUSE_WAKE, Reg.CLK_RESET_CAUSE_THERM_CUT]) (by decide) (List.filter_sublist).subset _ _).trans ?_
    | with_reducible refine (hU.wrAll (by first | decide | (simp only [wrOk, faultOk, tallyOk, bumpOk, commitOk, List.all_cons, List.all_nil, Bool.and_true] <;> decide) | (split <;> decide) | (split <;> simp only [wrOk, faultOk, tallyOk, bumpOk, commitOk, List.all_cons, List.all_nil, Bool.and_true] <;> decide)) _ _).trans ?_
    | fail_if_no_progress with_reducible refine (hU.pwr (by decide) _ _).trans ?_
    | intro _

theorem State.measureRefclk_only {β : Type} {π : State → β} (hU : Unseen 0x20000000120 π) (s : State) (khz : Nat) :
    π (State.measureRefclk s khz) = π s := by
  dsimp only [State.measureRefclk]
  repeat' first
    | with_reducible rfl
    | with_reducible refine (hU.fault (by first | decide | (simp only [wrOk, faultOk, tallyOk, bumpOk, commitOk, List.all_cons, List.all_nil, Bool.and_true] <;> decide) | (split <;> decide) | (split <;> simp only [wrOk, faultOk, tallyOk, bumpOk, commitOk, List.all_cons, List.all_nil, Bool.and_true] <;> decide)) _).trans ?_
    | with_reducible refine (hU.wrEach (by first | decide | (simp only [wrOk, faultOk, tallyOk, bumpOk, commitOk, List.all_cons, List.all_nil, Bool.and_true] <;> decide) | (split <;> decide) | (split <;> simp only [wrOk, faultOk, tallyOk, bumpOk, commitOk, List.all_cons, List.all_nil, Bool.and_true] <;> decide)) _).trans ?_
    | fail_if_no_progress with_reducible refine (hU.pwr (by decide) _ _).trans ?_
    | with_reducible refine Unseen.ite ?_ ?_
    | split

theorem resetReleaseOp_only {β : Type} {π : State → β} (hU : Unseen 0xbe708b00fffefffc π) (khz : Nat) (straps : Nat) (storeOk : Bool) (loftOk : Bool) (vaultOk : Bool) (s : State) :
    π (resetReleaseOp khz straps storeOk loftOk vaultOk s) = π s := by
  dsimp only [resetReleaseOp]
  repeat' first
    | with_reducible rfl
    | with_reducible refine (State.startTrapdoor_only (hU.mono (by decide)) _ _).trans ?_
    | with_reducible refine (State.showCause_only (hU.mono (by decide)) _ _).trans ?_
    | with_reducible refine (State.loadSettings_only (hU.mono (by decide)) _).trans ?_
    | with_reducible refine (State.startEpochs_only (hU.mono (by decide)) _).trans ?_
    | with_reducible refine (State.startRest_only (hU.mono (by decide)) _).trans ?_
    | with_reducible refine (State.restart_only (hU.mono (by decide)) _ _).trans ?_
    | with_reducible refine (State.rebuilt_only (hU.mono (by decide)) _ _).trans ?_
    | with_reducible refine (State.startVault_only (hU.mono (by decide)) _ _).trans ?_
    | with_reducible refine (State.startTime_only (hU.mono (by decide)) _).trans ?_
    | with_reducible refine (State.measureRefclk_only (hU.mono (by decide)) _ _).trans ?_
    | with_reducible refine (State.bootSelect_only (hU.mono (by decide)) _ _ _).trans ?_
    | with_reducible refine (State.changeLife_only (hU.mono (by decide)) _ _).trans ?_
    | fail_if_no_progress with_reducible refine (hU.pwr (by decide) _ _).trans ?_
    | with_reducible refine Unseen.ite ?_ ?_
    | dsimp only
    | split


/-! ## Power -/

theorem vbatPowerOnOp_only {β : Type} {π : State → β} (hU : Unseen 0x200008019cc π) (s : State) :
    π (vbatPowerOnOp s) = π s := by
  dsimp only [vbatPowerOnOp]
  repeat' first
    | with_reducible rfl
    | with_reducible refine (State.rails_only (hU.mono (by decide)) _ _ _).trans ?_
    | with_reducible refine (State.vaultDark_only (hU.mono (by decide)) _).trans ?_
    | with_reducible refine (hU.wrEach (by first | decide | (simp only [wrOk, faultOk, tallyOk, bumpOk, commitOk, List.all_cons, List.all_nil, Bool.and_true] <;> decide) | (split <;> decide) | (split <;> simp only [wrOk, faultOk, tallyOk, bumpOk, commitOk, List.all_cons, List.all_nil, Bool.and_true] <;> decide)) _).trans ?_
    | fail_if_no_progress with_reducible refine (hU.fld_shd_mode_prev_pwr_trp_tim (by decide) (by decide) (by decide) (by decide) (by decide) (by decide) (by decide) _ _ _ _ _ _ _ _).trans ?_
    | intro _
    | dsimp only

theorem aonRailsInRangeOp_only {β : Type} {π : State → β} (hU : Unseen 0x20000000100 π) (s : State) :
    π (aonRailsInRangeOp s) = π s := by
  dsimp only [aonRailsInRangeOp]
  repeat' first
    | with_reducible rfl
    | with_reducible refine (State.rails_only (hU.mono (by decide)) _ _ _).trans ?_
    | fail_if_no_progress with_reducible refine (hU.pwr (by decide) _ _).trans ?_
    | with_reducible refine Unseen.ite ?_ ?_
    | split

theorem railTimeoutOp_only {β : Type} {π : State → β} (hU : Unseen 0x200000001e0 π) (s : State) :
    π (railTimeoutOp s) = π s := by
  dsimp only [railTimeoutOp]
  repeat' first
    | with_reducible rfl
    | with_reducible refine (State.toWatch_only (hU.mono (by decide)) _ _).trans ?_
    | with_reducible refine (hU.fault (by first | decide | (simp only [wrOk, faultOk, tallyOk, bumpOk, commitOk, List.all_cons, List.all_nil, Bool.and_true] <;> decide) | (split <;> decide) | (split <;> simp only [wrOk, faultOk, tallyOk, bumpOk, commitOk, List.all_cons, List.all_nil, Bool.and_true] <;> decide)) _).trans ?_
    | fail_if_no_progress with_reducible refine (hU.pwr (by decide) _ _).trans ?_
    | with_reducible refine Unseen.ite ?_ ?_
    | split

theorem railRetryOp_only {β : Type} {π : State → β} (hU : Unseen 0x100 π) (s : State) :
    π (railRetryOp s) = π s := by
  dsimp only [railRetryOp]
  repeat' first
    | with_reducible rfl
    | fail_if_no_progress with_reducible refine (hU.pwr (by decide) _ _).trans ?_
    | with_reducible refine Unseen.ite ?_ ?_
    | split

theorem porReleaseOp_only {β : Type} {π : State → β} (hU : Unseen 0x20000000100 π) (s : State) :
    π (porReleaseOp s) = π s := by
  dsimp only [porReleaseOp]
  repeat' first
    | with_reducible rfl
    | with_reducible refine (State.rails_only (hU.mono (by decide)) _ _ _).trans ?_
    | fail_if_no_progress with_reducible refine (hU.pwr (by decide) _ _).trans ?_
    | with_reducible refine Unseen.ite ?_ ?_
    | split

theorem systemResetOp_only {β : Type} {π : State → β} (hU : Unseen 0x200000001c0 π) (s : State) :
    π (systemResetOp s) = π s := by
  dsimp only [systemResetOp]
  repeat' first
    | with_reducible rfl
    | with_reducible refine (State.restart_only (hU.mono (by decide)) _ _).trans ?_
    | fail_if_no_progress with_reducible refine (hU.pwr (by decide) _ _).trans ?_
    | with_reducible refine Unseen.ite ?_ ?_
    | split

theorem sysResetReturnOp_only {β : Type} {π : State → β} (hU : Unseen 0x200000001c0 π) (s : State) :
    π (sysResetReturnOp s) = π s := by
  dsimp only [sysResetReturnOp]
  repeat' first
    | with_reducible rfl
    | with_reducible refine (State.startBoot_only (hU.mono (by decide)) _ _).trans ?_
    | with_reducible refine Unseen.ite ?_ ?_
    | split

theorem brownOutOp_only {β : Type} {π : State → β} (hU : Unseen 0x200008001e0 π) (s : State) :
    π (brownOutOp s) = π s := by
  dsimp only [brownOutOp]
  repeat' first
    | with_reducible rfl
    | with_reducible refine (State.vaultDark_only (hU.mono (by decide)) _).trans ?_
    | with_reducible refine (State.mainDown_only (hU.mono (by decide)) _).trans ?_
    | with_reducible refine (State.startBoot_only (hU.mono (by decide)) _ _).trans ?_
    | with_reducible refine (hU.wrO (by first | decide | (simp only [wrOk, faultOk, tallyOk, bumpOk, commitOk, List.all_cons, List.all_nil, Bool.and_true] <;> decide) | (split <;> decide) | (split <;> simp only [wrOk, faultOk, tallyOk, bumpOk, commitOk, List.all_cons, List.all_nil, Bool.and_true] <;> decide)) _ _).trans ?_
    | with_reducible refine (hU.fault (by first | decide | (simp only [wrOk, faultOk, tallyOk, bumpOk, commitOk, List.all_cons, List.all_nil, Bool.and_true] <;> decide) | (split <;> decide) | (split <;> simp only [wrOk, faultOk, tallyOk, bumpOk, commitOk, List.all_cons, List.all_nil, Bool.and_true] <;> decide)) _).trans ?_
    | with_reducible refine Unseen.ite ?_ ?_
    | split

theorem pfailAssertOp_only {β : Type} {π : State → β} (hU : Unseen 0xbffbff009276afee π) (s : State) :
    π (pfailAssertOp s) = π s := by
  dsimp only [pfailAssertOp]
  repeat' first
    | with_reducible rfl
    | with_reducible refine (State.overtake_only (hU.mono (by decide)) _).trans ?_
    | with_reducible refine (State.parkAll_only (hU.mono (by decide)) _).trans ?_
    | with_reducible refine (State.raiseFleet_only hU (by decide) _ _ _ (by first | decide | (simp only [wrOk, faultOk, tallyOk, bumpOk, commitOk, List.all_cons, List.all_nil, Bool.and_true] <;> decide) | (split <;> decide) | (split <;> simp only [wrOk, faultOk, tallyOk, bumpOk, commitOk, List.all_cons, List.all_nil, Bool.and_true] <;> decide))).trans ?_
    | with_reducible refine (State.stopLive_only (hU.mono (by decide)) _).trans ?_
    | with_reducible refine (State.showMeas_only (hU.mono (by decide)) _).trans ?_
    | with_reducible refine (hU.wrapBy (by first | decide | (simp only [wrOk, faultOk, tallyOk, bumpOk, commitOk, List.all_cons, List.all_nil, Bool.and_true] <;> decide) | (split <;> decide) | (split <;> simp only [wrOk, faultOk, tallyOk, bumpOk, commitOk, List.all_cons, List.all_nil, Bool.and_true] <;> decide)) _ _).trans ?_
    | with_reducible refine (hU.wrO (by first | decide | (simp only [wrOk, faultOk, tallyOk, bumpOk, commitOk, List.all_cons, List.all_nil, Bool.and_true] <;> decide) | (split <;> decide) | (split <;> simp only [wrOk, faultOk, tallyOk, bumpOk, commitOk, List.all_cons, List.all_nil, Bool.and_true] <;> decide)) _ _).trans ?_
    | with_reducible refine (hU.fault (by first | decide | (simp only [wrOk, faultOk, tallyOk, bumpOk, commitOk, List.all_cons, List.all_nil, Bool.and_true] <;> decide) | (split <;> decide) | (split <;> simp only [wrOk, faultOk, tallyOk, bumpOk, commitOk, List.all_cons, List.all_nil, Bool.and_true] <;> decide)) _).trans ?_
    | fail_if_no_progress with_reducible refine (hU.hre_dsp (by decide) (by decide) _ _ _).trans ?_
    | fail_if_no_progress with_reducible refine (hU.pwr_hre (by decide) (by decide) _ _ _).trans ?_
    | fail_if_no_progress with_reducible refine (hU.pwr_dsp (by decide) (by decide) _ _ _).trans ?_
    | fail_if_no_progress with_reducible refine (hU.pwr_hre_dsp (by decide) (by decide) (by decide) _ _ _ _).trans ?_
    | with_reducible refine Unseen.ite ?_ ?_
    | split

theorem State.pfailStage_only {β : Type} {π : State → β} (hU : Unseen 0x20000000000 π) (s : State) (k : Nat) :
    π (State.pfailStage s k) = π s := by
  dsimp only [State.pfailStage]
  repeat' first
    | with_reducible rfl
    | with_reducible refine (hU.wrO (by first | decide | (simp only [wrOk, faultOk, tallyOk, bumpOk, commitOk, List.all_cons, List.all_nil, Bool.and_true] <;> decide) | (split <;> decide) | (split <;> simp only [wrOk, faultOk, tallyOk, bumpOk, commitOk, List.all_cons, List.all_nil, Bool.and_true] <;> decide)) _ _).trans ?_

theorem pfailHoistTimeoutOp_only {β : Type} {π : State → β} (hU : Unseen 0x3ffbff000000a62e π) (s : State) :
    π (pfailHoistTimeoutOp s) = π s := by
  dsimp only [pfailHoistTimeoutOp]
  repeat' first
    | with_reducible rfl
    | with_reducible refine (State.abortAll_only (hU.mono (by decide)) _).trans ?_
    | with_reducible refine (State.pfailStage_only (hU.mono (by decide)) _ _).trans ?_
    | with_reducible refine Unseen.ite ?_ ?_
    | split

theorem State.abortDescriptors_only {β : Type} {π : State → β} (hU : Unseen 0x40000000200 π) (s : State) :
    π (State.abortDescriptors s) = π s := by
  dsimp only [State.abortDescriptors]
  repeat' first
    | with_reducible rfl
    | with_reducible refine (State.showHeader_only (hU.mono (by decide)) _).trans ?_
    | with_reducible refine (State.setRing_only (hU.mono (by decide)) _ _ _).trans ?_
    | with_reducible refine (State.flushCompletions_only (hU.mono (by decide)) _ _).trans ?_
    | fail_if_no_progress with_reducible refine (hU.hre (by decide) _ _).trans ?_
    | with_reducible refine Unseen.ite ?_ ?_
    | with_reducible refine (Unseen.foldl _ ?_ _ _).trans ?_
    | intro _
    | split

theorem pfailDescriptorAbortOp_only {β : Type} {π : State → β} (hU : Unseen 0x40000000200 π) (s : State) :
    π (pfailDescriptorAbortOp s) = π s := by
  dsimp only [pfailDescriptorAbortOp]
  repeat' first
    | with_reducible rfl
    | with_reducible refine (State.abortDescriptors_only (hU.mono (by decide)) _).trans ?_
    | with_reducible refine Unseen.ite ?_ ?_
    | split

theorem pfailLarderFreezeOp_only {β : Type} {π : State → β} (hU : Unseen 0x2000020088000200 π) (s : State) :
    π (pfailLarderFreezeOp s) = π s := by
  dsimp only [pfailLarderFreezeOp]
  repeat' first
    | with_reducible rfl
    | with_reducible refine (State.pfailStage_only (hU.mono (by decide)) _ _).trans ?_
    | with_reducible refine (State.flushFor_only (hU.mono (by decide)) _ _).trans ?_
    | fail_if_no_progress with_reducible refine (hU.nvm (by decide) _ _).trans ?_
    | with_reducible refine Unseen.ite ?_ ?_
    | split

theorem pfailOutputsLowOp_only {β : Type} {π : State → β} (hU : Unseen 0x800 π) (s : State) :
    π (pfailOutputsLowOp s) = π s := by
  dsimp only [pfailOutputsLowOp]
  repeat' first
    | with_reducible rfl
    | fail_if_no_progress with_reducible refine (hU.trp (by decide) _ _).trans ?_
    | with_reducible refine Unseen.ite ?_ ?_
    | split

theorem pfailRailCutOp_only {β : Type} {π : State → β} (hU : Unseen 0x200008001c0 π) (s : State) :
    π (pfailRailCutOp s) = π s := by
  dsimp only [pfailRailCutOp]
  repeat' first
    | with_reducible rfl
    | with_reducible refine (State.toWatch_only (hU.mono (by decide)) _ _).trans ?_
    | with_reducible refine (State.vaultDark_only (hU.mono (by decide)) _).trans ?_
    | with_reducible refine (hU.wrO (by first | decide | (simp only [wrOk, faultOk, tallyOk, bumpOk, commitOk, List.all_cons, List.all_nil, Bool.and_true] <;> decide) | (split <;> decide) | (split <;> simp only [wrOk, faultOk, tallyOk, bumpOk, commitOk, List.all_cons, List.all_nil, Bool.and_true] <;> decide)) _ _).trans ?_
    | fail_if_no_progress with_reducible refine (hU.pwr (by decide) _ _).trans ?_
    | with_reducible refine Unseen.ite ?_ ?_
    | split

theorem pfailClearOp_only {β : Type} {π : State → β} (hU : Unseen 0x200000001c0 π) (s : State) :
    π (pfailClearOp s) = π s := by
  dsimp only [pfailClearOp]
  repeat' first
    | with_reducible rfl
    | with_reducible refine (State.startBoot_only (hU.mono (by decide)) _ _).trans ?_
    | with_reducible refine (State.recordWake_only (hU.mono (by decide)) _ _).trans ?_
    | with_reducible refine Unseen.ite ?_ ?_
    | split

theorem xtal32LostOp_only {β : Type} {π : State → β} (hU : Unseen 0x2000020000001020 π) (s : State) :
    π (xtal32LostOp s) = π s := by
  dsimp only [xtal32LostOp]
  repeat' first
    | with_reducible rfl
    | with_reducible refine (hU.fault (by first | decide | (simp only [wrOk, faultOk, tallyOk, bumpOk, commitOk, List.all_cons, List.all_nil, Bool.and_true] <;> decide) | (split <;> decide) | (split <;> simp only [wrOk, faultOk, tallyOk, bumpOk, commitOk, List.all_cons, List.all_nil, Bool.and_true] <;> decide)) _).trans ?_
    | with_reducible refine (hU.wrEach (by first | decide | (simp only [wrOk, faultOk, tallyOk, bumpOk, commitOk, List.all_cons, List.all_nil, Bool.and_true] <;> decide) | (split <;> decide) | (split <;> simp only [wrOk, faultOk, tallyOk, bumpOk, commitOk, List.all_cons, List.all_nil, Bool.and_true] <;> decide)) _).trans ?_
    | fail_if_no_progress with_reducible refine (hU.tim (by decide) _ _).trans ?_
    | with_reducible refine Unseen.ite ?_ ?_
    | split

theorem xtal32RestoredOp_only {β : Type} {π : State → β} (hU : Unseen 0x20000000000 π) (s : State) :
    π (xtal32RestoredOp s) = π s := by
  dsimp only [xtal32RestoredOp]
  repeat' first
    | with_reducible rfl
    | with_reducible refine (hU.wrEach (by first | decide | (simp only [wrOk, faultOk, tallyOk, bumpOk, commitOk, List.all_cons, List.all_nil, Bool.and_true] <;> decide) | (split <;> decide) | (split <;> simp only [wrOk, faultOk, tallyOk, bumpOk, commitOk, List.all_cons, List.all_nil, Bool.and_true] <;> decide)) _).trans ?_
    | with_reducible refine Unseen.ite ?_ ?_
    | split

theorem State.serdesLost_only {β : Type} {π : State → β} (hU : Unseen 0xa6028e00927c16e0 π) (s : State) :
    π (State.serdesLost s) = π s := by
  dsimp only [State.serdesLost]
  repeat' first
    | with_reducible rfl
    | with_reducible refine (linkDownOp_only (hU.mono (by decide)) _).trans ?_
    | with_reducible refine (hU.wrO (by first | decide | (simp only [wrOk, faultOk, tallyOk, bumpOk, commitOk, List.all_cons, List.all_nil, Bool.and_true] <;> decide) | (split <;> decide) | (split <;> simp only [wrOk, faultOk, tallyOk, bumpOk, commitOk, List.all_cons, List.all_nil, Bool.and_true] <;> decide)) _ _).trans ?_
    | fail_if_no_progress with_reducible refine (hU.zyp (by decide) _ _).trans ?_

theorem State.clockFault_only {β : Type} {π : State → β} (hU : Unseen 0xa1d0ce0092760fe2 π) (s : State) :
    π (State.clockFault s) = π s := by
  dsimp only [State.clockFault]
  repeat' first
    | with_reducible rfl
    | with_reducible refine (State.deviceFault_only (hU.mono (by decide)) _).trans ?_
    | with_reducible refine (State.raiseFleet_only hU (by decide) _ _ _ (by first | decide | (simp only [wrOk, faultOk, tallyOk, bumpOk, commitOk, List.all_cons, List.all_nil, Bool.and_true] <;> decide) | (split <;> decide) | (split <;> simp only [wrOk, faultOk, tallyOk, bumpOk, commitOk, List.all_cons, List.all_nil, Bool.and_true] <;> decide))).trans ?_

theorem refclkLostOp_only {β : Type} {π : State → β} (hU : Unseen 0xa7d2ce00937e1fe2 π) (s : State) :
    π (refclkLostOp s) = π s := by
  dsimp only [refclkLostOp]
  repeat' first
    | with_reducible rfl
    | with_reducible refine (State.adcLost_only (hU.mono (by decide)) _).trans ?_
    | with_reducible refine (State.clockFault_only (hU.mono (by decide)) _).trans ?_
    | with_reducible refine (State.setTq_only (hU.mono (by decide)) _ _).trans ?_
    | with_reducible refine (State.serdesLost_only (hU.mono (by decide)) _).trans ?_
    | with_reducible refine (hU.wrEach (by first | decide | (simp only [wrOk, faultOk, tallyOk, bumpOk, commitOk, List.all_cons, List.all_nil, Bool.and_true] <;> decide) | (split <;> decide) | (split <;> simp only [wrOk, faultOk, tallyOk, bumpOk, commitOk, List.all_cons, List.all_nil, Bool.and_true] <;> decide)) _).trans ?_
    | with_reducible refine (hU.fault (by first | decide | (simp only [wrOk, faultOk, tallyOk, bumpOk, commitOk, List.all_cons, List.all_nil, Bool.and_true] <;> decide) | (split <;> decide) | (split <;> simp only [wrOk, faultOk, tallyOk, bumpOk, commitOk, List.all_cons, List.all_nil, Bool.and_true] <;> decide)) _).trans ?_

theorem pllCoreUnlockOp_only {β : Type} {π : State → β} (hU : Unseen 0xa1d0ce0092760fe2 π) (s : State) :
    π (pllCoreUnlockOp s) = π s := by
  dsimp only [pllCoreUnlockOp]
  repeat' first
    | with_reducible rfl
    | with_reducible refine (State.clockFault_only (hU.mono (by decide)) _).trans ?_
    | with_reducible refine (hU.fault (by first | decide | (simp only [wrOk, faultOk, tallyOk, bumpOk, commitOk, List.all_cons, List.all_nil, Bool.and_true] <;> decide) | (split <;> decide) | (split <;> simp only [wrOk, faultOk, tallyOk, bumpOk, commitOk, List.all_cons, List.all_nil, Bool.and_true] <;> decide)) _).trans ?_
    | with_reducible refine (hU.wrEach (by first | decide | (simp only [wrOk, faultOk, tallyOk, bumpOk, commitOk, List.all_cons, List.all_nil, Bool.and_true] <;> decide) | (split <;> decide) | (split <;> simp only [wrOk, faultOk, tallyOk, bumpOk, commitOk, List.all_cons, List.all_nil, Bool.and_true] <;> decide)) _).trans ?_

theorem pllAdcUnlockOp_only {β : Type} {π : State → β} (hU : Unseen 0x420001000020 π) (s : State) :
    π (pllAdcUnlockOp s) = π s := by
  dsimp only [pllAdcUnlockOp]
  repeat' first
    | with_reducible rfl
    | with_reducible refine (State.adcLost_only (hU.mono (by decide)) _).trans ?_
    | with_reducible refine (hU.fault (by first | decide | (simp only [wrOk, faultOk, tallyOk, bumpOk, commitOk, List.all_cons, List.all_nil, Bool.and_true] <;> decide) | (split <;> decide) | (split <;> simp only [wrOk, faultOk, tallyOk, bumpOk, commitOk, List.all_cons, List.all_nil, Bool.and_true] <;> decide)) _).trans ?_
    | with_reducible refine (hU.wrO (by first | decide | (simp only [wrOk, faultOk, tallyOk, bumpOk, commitOk, List.all_cons, List.all_nil, Bool.and_true] <;> decide) | (split <;> decide) | (split <;> simp only [wrOk, faultOk, tallyOk, bumpOk, commitOk, List.all_cons, List.all_nil, Bool.and_true] <;> decide)) _ _).trans ?_

theorem pllSerdesUnlockOp_only {β : Type} {π : State → β} (hU : Unseen 0xa6028e00927c16e0 π) (s : State) :
    π (pllSerdesUnlockOp s) = π s := by
  dsimp only [pllSerdesUnlockOp]
  repeat' first
    | with_reducible rfl
    | with_reducible refine (State.serdesLost_only (hU.mono (by decide)) _).trans ?_
    | with_reducible refine (hU.fault (by first | decide | (simp only [wrOk, faultOk, tallyOk, bumpOk, commitOk, List.all_cons, List.all_nil, Bool.and_true] <;> decide) | (split <;> decide) | (split <;> simp only [wrOk, faultOk, tallyOk, bumpOk, commitOk, List.all_cons, List.all_nil, Bool.and_true] <;> decide)) _).trans ?_

theorem State.adcRuns_only {β : Type} {π : State → β} (hU : Unseen 0x420000000000 π) (s : State) :
    π (State.adcRuns s) = π s := by
  dsimp only [State.adcRuns]
  repeat' first
    | with_reducible rfl
    | with_reducible refine (State.showMeas_only (hU.mono (by decide)) _).trans ?_
    | with_reducible refine (hU.wrEach (by first | decide | (simp only [wrOk, faultOk, tallyOk, bumpOk, commitOk, List.all_cons, List.all_nil, Bool.and_true] <;> decide) | (split <;> decide) | (split <;> simp only [wrOk, faultOk, tallyOk, bumpOk, commitOk, List.all_cons, List.all_nil, Bool.and_true] <;> decide)) _).trans ?_

theorem pllRelockOp_only {β : Type} {π : State → β} (hU : Unseen 0x420000000000 π) (pll : Nat) (s : State) :
    π (pllRelockOp pll s) = π s := by
  dsimp only [pllRelockOp]
  repeat' first
    | with_reducible rfl
    | with_reducible refine (State.adcRuns_only (hU.mono (by decide)) _).trans ?_
    | with_reducible refine (hU.wrO (by first | decide | (simp only [wrOk, faultOk, tallyOk, bumpOk, commitOk, List.all_cons, List.all_nil, Bool.and_true] <;> decide) | (split <;> decide) | (split <;> simp only [wrOk, faultOk, tallyOk, bumpOk, commitOk, List.all_cons, List.all_nil, Bool.and_true] <;> decide)) _ _).trans ?_
    | dsimp only
    | split

theorem State.temperature_only {β : Type} {π : State → β} (hU : Unseen 0x20000000000 π) (s : State) (tj : Nat) :
    π (State.temperature s tj) = π s := by
  dsimp only [State.temperature]
  repeat' first
    | with_reducible rfl
    | with_reducible refine (hU.wrO (by first | decide | (simp only [wrOk, faultOk, tallyOk, bumpOk, commitOk, List.all_cons, List.all_nil, Bool.and_true] <;> decide) | (split <;> decide) | (split <;> simp only [wrOk, faultOk, tallyOk, bumpOk, commitOk, List.all_cons, List.all_nil, Bool.and_true] <;> decide)) _ _).trans ?_
    | with_reducible refine Unseen.ite ?_ ?_
    | split

theorem thermWarnOp_only {β : Type} {π : State → β} (hU : Unseen 0x30000000120 π) (tj : Nat) (s : State) :
    π (thermWarnOp tj s) = π s := by
  dsimp only [thermWarnOp]
  repeat' first
    | with_reducible rfl
    | with_reducible refine (State.temperature_only (hU.mono (by decide)) _ _).trans ?_
    | with_reducible refine (hU.fault (by first | decide | (simp only [wrOk, faultOk, tallyOk, bumpOk, commitOk, List.all_cons, List.all_nil, Bool.and_true] <;> decide) | (split <;> decide) | (split <;> simp only [wrOk, faultOk, tallyOk, bumpOk, commitOk, List.all_cons, List.all_nil, Bool.and_true] <;> decide)) _).trans ?_
    | fail_if_no_progress with_reducible refine (hU.pwr (by decide) _ _).trans ?_
    | with_reducible refine Unseen.ite ?_ ?_
    | split

theorem thermWarnClearOp_only {β : Type} {π : State → β} (hU : Unseen 0x20000000100 π) (tj : Nat) (s : State) :
    π (thermWarnClearOp tj s) = π s := by
  dsimp only [thermWarnClearOp]
  repeat' first
    | with_reducible rfl
    | with_reducible refine (State.temperature_only (hU.mono (by decide)) _ _).trans ?_
    | fail_if_no_progress with_reducible refine (hU.pwr (by decide) _ _).trans ?_
    | with_reducible refine Unseen.ite ?_ ?_
    | split

theorem thermCritOp_only {β : Type} {π : State → β} (hU : Unseen 0xa1d0ce0092760fe2 π) (tj : Nat) (s : State) :
    π (thermCritOp tj s) = π s := by
  dsimp only [thermCritOp]
  repeat' first
    | with_reducible rfl
    | with_reducible refine (State.temperature_only (hU.mono (by decide)) _ _).trans ?_
    | with_reducible refine (State.deviceFault_only (hU.mono (by decide)) _).trans ?_
    | with_reducible refine (State.raiseFleet_only hU (by decide) _ _ _ (by first | decide | (simp only [wrOk, faultOk, tallyOk, bumpOk, commitOk, List.all_cons, List.all_nil, Bool.and_true] <;> decide) | (split <;> decide) | (split <;> simp only [wrOk, faultOk, tallyOk, bumpOk, commitOk, List.all_cons, List.all_nil, Bool.and_true] <;> decide))).trans ?_
    | with_reducible refine (hU.fault (by first | decide | (simp only [wrOk, faultOk, tallyOk, bumpOk, commitOk, List.all_cons, List.all_nil, Bool.and_true] <;> decide) | (split <;> decide) | (split <;> simp only [wrOk, faultOk, tallyOk, bumpOk, commitOk, List.all_cons, List.all_nil, Bool.and_true] <;> decide)) _).trans ?_
    | with_reducible refine Unseen.ite ?_ ?_
    | split

theorem thermCutOp_only {β : Type} {π : State → β} (hU : Unseen 0x200008001e0 π) (tj : Nat) (s : State) :
    π (thermCutOp tj s) = π s := by
  dsimp only [thermCutOp]
  repeat' first
    | with_reducible rfl
    | with_reducible refine (State.temperature_only (hU.mono (by decide)) _ _).trans ?_
    | with_reducible refine (State.vaultDark_only (hU.mono (by decide)) _).trans ?_
    | with_reducible refine (State.toWatch_only (hU.mono (by decide)) _ _).trans ?_
    | with_reducible refine (hU.fault (by first | decide | (simp only [wrOk, faultOk, tallyOk, bumpOk, commitOk, List.all_cons, List.all_nil, Bool.and_true] <;> decide) | (split <;> decide) | (split <;> simp only [wrOk, faultOk, tallyOk, bumpOk, commitOk, List.all_cons, List.all_nil, Bool.and_true] <;> decide)) _).trans ?_
    | fail_if_no_progress with_reducible refine (hU.pwr (by decide) _ _).trans ?_
    | with_reducible refine Unseen.ite ?_ ?_
    | split

theorem thermalRecoveryOp_only {β : Type} {π : State → β} (hU : Unseen 0x200000001c0 π) (s : State) :
    π (thermalRecoveryOp s) = π s := by
  dsimp only [thermalRecoveryOp]
  repeat' first
    | with_reducible rfl
    | with_reducible refine (State.startBoot_only (hU.mono (by decide)) _ _).trans ?_
    | with_reducible refine (State.recordWake_only (hU.mono (by decide)) _ _).trans ?_
    | fail_if_no_progress with_reducible refine (hU.pwr (by decide) _ _).trans ?_
    | with_reducible refine Unseen.ite ?_ ?_
    | split

theorem wakeInEdgeOp_only {β : Type} {π : State → β} (hU : Unseen 0x200000001c0 π) (pin1 : Bool) (rising : Bool) (s : State) :
    π (wakeInEdgeOp pin1 rising s) = π s := by
  dsimp only [wakeInEdgeOp]
  repeat' first
    | with_reducible rfl
    | with_reducible refine (State.wakeUp_only (hU.mono (by decide)) _ _).trans ?_
    | with_reducible refine Unseen.ite ?_ ?_
    | split

theorem wakeTimerExpireOp_only {β : Type} {π : State → β} (hU : Unseen 0x200000001c0 π) (s : State) :
    π (wakeTimerExpireOp s) = π s := by
  dsimp only [wakeTimerExpireOp]
  repeat' first
    | with_reducible rfl
    | with_reducible refine (State.wakeUp_only (hU.mono (by decide)) _ _).trans ?_
    | with_reducible refine (hU.wrO (by first | decide | (simp only [wrOk, faultOk, tallyOk, bumpOk, commitOk, List.all_cons, List.all_nil, Bool.and_true] <;> decide) | (split <;> decide) | (split <;> simp only [wrOk, faultOk, tallyOk, bumpOk, commitOk, List.all_cons, List.all_nil, Bool.and_true] <;> decide)) _ _).trans ?_
    | fail_if_no_progress with_reducible refine (hU.pwr (by decide) _ _).trans ?_
    | with_reducible refine Unseen.ite ?_ ?_
    | split

theorem latchedWakeOp_only {β : Type} {π : State → β} (hU : Unseen 0x200000001c0 π) (s : State) :
    π (latchedWakeOp s) = π s := by
  dsimp only [latchedWakeOp]
  repeat' first
    | with_reducible rfl
    | with_reducible refine (State.startBoot_only (hU.mono (by decide)) _ _).trans ?_
    | with_reducible refine (State.recordWake_only (hU.mono (by decide)) _ _).trans ?_
    | with_reducible refine Unseen.ite ?_ ?_
    | split

theorem wakeCommitOp_only {β : Type} {π : State → β} (hU : Unseen 0x20008000108 π) (s : State) :
    π (wakeCommitOp s) = π s := by
  dsimp only [wakeCommitOp]
  repeat' first
    | with_reducible rfl
    | with_reducible refine (hU.commit (by first | decide | (simp only [wrOk, faultOk, tallyOk, bumpOk, commitOk, List.all_cons, List.all_nil, Bool.and_true, wakeGroup] <;> decide) | (split <;> decide) | (split <;> simp only [wrOk, faultOk, tallyOk, bumpOk, commitOk, List.all_cons, List.all_nil, Bool.and_true, wakeGroup] <;> decide) | (simp only [wakeGroup]; split <;> decide)) _ _).trans ?_
    | fail_if_no_progress with_reducible refine (hU.pwr (by decide) _ _).trans ?_
    | with_reducible refine Unseen.ite ?_ ?_
    | split

theorem xtal32CfgWriteOp_only {β : Type} {π : State → β} (hU : Unseen 0x20000000100 π) (v : Nat) (s : State) :
    π (xtal32CfgWriteOp v s) = π s := by
  dsimp only [xtal32CfgWriteOp]
  repeat' first
    | with_reducible rfl
    | with_reducible refine (hU.wrEach (by first | decide | (simp only [wrOk, faultOk, tallyOk, bumpOk, commitOk, List.all_cons, List.all_nil, Bool.and_true] <;> decide) | (split <;> decide) | (split <;> simp only [wrOk, faultOk, tallyOk, bumpOk, commitOk, List.all_cons, List.all_nil, Bool.and_true] <;> decide)) _).trans ?_
    | fail_if_no_progress with_reducible refine (hU.pwr (by decide) _ _).trans ?_


/-! ## Modes -/

theorem State.modeReq_only {β : Type} {π : State → β} (hU : Unseen 0x20000000000 π) (s : State) (target : Nat) (row : State → Bool) (body : State → State) (hbody : ∀ (y0 : State), π (body y0) = π y0) :
    π (State.modeReq s target row body) = π s := by
  dsimp only [State.modeReq]
  repeat' first
    | with_reducible rfl
    | with_reducible refine (hbody _).trans ?_
    | with_reducible refine (State.modeResult_only (hU.mono (by decide)) _ _ _).trans ?_
    | with_reducible refine (hU.wrO (by first | decide | (simp only [wrOk, faultOk, tallyOk, bumpOk, commitOk, List.all_cons, List.all_nil, Bool.and_true] <;> decide) | (split <;> decide) | (split <;> simp only [wrOk, faultOk, tallyOk, bumpOk, commitOk, List.all_cons, List.all_nil, Bool.and_true] <;> decide)) _ _).trans ?_
    | with_reducible refine Unseen.ite ?_ ?_
    | split

theorem State.startPdown_only {β : Type} {π : State → β} (hU : Unseen 0x3ffbff000002a72e π) (s : State) (target : Mode) :
    π (State.startPdown s target) = π s := by
  dsimp only [State.startPdown]
  repeat' first
    | with_reducible rfl
    | with_reducible refine (State.abortAll_only (hU.mono (by decide)) _).trans ?_
    | with_reducible refine (State.modeResult_only (hU.mono (by decide)) _ _ _).trans ?_
    | with_reducible refine (State.parkAll_only (hU.mono (by decide)) _).trans ?_
    | with_reducible refine (hU.wrO (by first | decide | (simp only [wrOk, faultOk, tallyOk, bumpOk, commitOk, List.all_cons, List.all_nil, Bool.and_true] <;> decide) | (split <;> decide) | (split <;> simp only [wrOk, faultOk, tallyOk, bumpOk, commitOk, List.all_cons, List.all_nil, Bool.and_true] <;> decide)) _ _).trans ?_
    | fail_if_no_progress with_reducible refine (hU.hre_dsp (by decide) (by decide) _ _ _).trans ?_
    | fail_if_no_progress with_reducible refine (hU.pwr_hre (by decide) (by decide) _ _ _).trans ?_
    | fail_if_no_progress with_reducible refine (hU.pwr_dsp (by decide) (by decide) _ _ _).trans ?_
    | fail_if_no_progress with_reducible refine (hU.pwr_hre_dsp (by decide) (by decide) (by decide) _ _ _ _).trans ?_
    | with_reducible refine Unseen.ite ?_ ?_
    | split

theorem modeReqCellarOp_only {β : Type} {π : State → β} (hU : Unseen 0x3ffbff000002a72e π) (s : State) :
    π (modeReqCellarOp s) = π s := by
  dsimp only [modeReqCellarOp]
  repeat' first
    | with_reducible rfl
    | with_reducible refine (State.modeReq_only (hU.mono (by decide)) _ _ _ _ ?_).trans ?_
    | with_reducible refine (State.startPdown_only (hU.mono (by decide)) _ _).trans ?_
    | intro _

theorem modeReqDormerWatchOp_only {β : Type} {π : State → β} (hU : Unseen 0x3ffbff000002a72e π) (s : State) :
    π (modeReqDormerWatchOp s) = π s := by
  dsimp only [modeReqDormerWatchOp]
  repeat' first
    | with_reducible rfl
    | with_reducible refine (State.modeReq_only (hU.mono (by decide)) _ _ _ _ ?_).trans ?_
    | with_reducible refine (State.startPdown_only (hU.mono (by decide)) _ _).trans ?_
    | intro _

theorem State.pdownStep_only {β : Type} {π : State → β} (hU : Unseen 0x0 π) (s : State) (body : Pdown → State → State) (hbody : ∀ (y0 : Pdown) (y1 : State), π (body y0 y1) = π y1) :
    π (State.pdownStep s body) = π s := by
  dsimp only [State.pdownStep]
  repeat' first
    | with_reducible rfl
    | with_reducible refine (hbody _ _).trans ?_
    | with_reducible refine Unseen.ite ?_ ?_
    | dsimp only
    | split

theorem State.setPdown_only {β : Type} {π : State → β} (hU : Unseen 0x100 π) (s : State) (d : Pdown) :
    π (State.setPdown s d) = π s := by
  dsimp only [State.setPdown]
  repeat' first
    | with_reducible rfl
    | fail_if_no_progress with_reducible refine (hU.pwr (by decide) _ _).trans ?_

theorem pdownDescriptorAbortOp_only {β : Type} {π : State → β} (hU : Unseen 0x40000000700 π) (s : State) :
    π (pdownDescriptorAbortOp s) = π s := by
  dsimp only [pdownDescriptorAbortOp]
  repeat' first
    | with_reducible rfl
    | with_reducible refine (State.abortDescriptors_only (hU.mono (by decide)) _).trans ?_
    | with_reducible refine (State.pdownStep_only (hU.mono (by decide)) _ _ ?_).trans ?_
    | with_reducible refine (State.setChute_only (hU.mono (by decide)) _ _ _).trans ?_
    | with_reducible refine (State.setPdown_only (hU.mono (by decide)) _ _).trans ?_
    | with_reducible refine Unseen.ite ?_ ?_
    | with_reducible refine (Unseen.foldl _ ?_ _ _).trans ?_
    | intro _
    | split

theorem pdownDrainTimeoutOp_only {β : Type} {π : State → β} (hU : Unseen 0x3ffbff000000a72e π) (s : State) :
    π (pdownDrainTimeoutOp s) = π s := by
  dsimp only [pdownDrainTimeoutOp]
  repeat' first
    | with_reducible rfl
    | with_reducible refine (State.pdownStep_only (hU.mono (by decide)) _ _ ?_).trans ?_
    | with_reducible refine (State.abortAll_only (hU.mono (by decide)) _).trans ?_
    | with_reducible refine (State.setPdown_only (hU.mono (by decide)) _ _).trans ?_
    | intro _

theorem pdownOutputsStopOp_only {β : Type} {π : State → β} (hU : Unseen 0x2000400080000300 π) (s : State) :
    π (pdownOutputsStopOp s) = π s := by
  dsimp only [pdownOutputsStopOp]
  repeat' first
    | with_reducible rfl
    | with_reducible refine (State.pdownStep_only (hU.mono (by decide)) _ _ ?_).trans ?_
    | with_reducible refine (State.setPdown_only (hU.mono (by decide)) _ _).trans ?_
    | with_reducible refine (State.flushFor_only (hU.mono (by decide)) _ _).trans ?_
    | with_reducible refine (State.showMeas_only (hU.mono (by decide)) _).trans ?_
    | intro _

theorem pdownRailCutOp_only {β : Type} {π : State → β} (hU : Unseen 0x200008001c0 π) (s : State) :
    π (pdownRailCutOp s) = π s := by
  dsimp only [pdownRailCutOp]
  repeat' first
    | with_reducible rfl
    | with_reducible refine (State.vaultDark_only (hU.mono (by decide)) _).trans ?_
    | with_reducible refine (State.pdownStep_only (hU.mono (by decide)) _ _ ?_).trans ?_
    | with_reducible refine (State.modeResult_only (hU.mono (by decide)) _ _ _).trans ?_
    | with_reducible refine (State.toWatch_only (hU.mono (by decide)) _ _).trans ?_
    | with_reducible refine (State.setPdown_only (hU.mono (by decide)) _ _).trans ?_
    | with_reducible refine Unseen.ite ?_ ?_
    | intro _
    | split

theorem pdownCellarEntryOp_only {β : Type} {π : State → β} (hU : Unseen 0x200000001c0 π) (s : State) :
    π (pdownCellarEntryOp s) = π s := by
  dsimp only [pdownCellarEntryOp]
  repeat' first
    | with_reducible rfl
    | with_reducible refine (State.rails_only (hU.mono (by decide)) _ _ _).trans ?_
    | fail_if_no_progress with_reducible refine (hU.pwr (by decide) _ _).trans ?_
    | fail_if_no_progress with_reducible refine (hU.mode_pwr (by decide) (by decide) _ _ _).trans ?_
    | fail_if_no_progress with_reducible refine (hU.mode_prev (by decide) (by decide) _ _ _).trans ?_
    | fail_if_no_progress with_reducible refine (hU.prev_pwr (by decide) (by decide) _ _ _).trans ?_
    | fail_if_no_progress with_reducible refine (hU.mode_prev_pwr (by decide) (by decide) (by decide) _ _ _ _).trans ?_
    | with_reducible refine Unseen.ite ?_ ?_
    | dsimp only
    | split

theorem modeReqRestartOp_only {β : Type} {π : State → β} (hU : Unseen 0x200000001c0 π) (s : State) :
    π (modeReqRestartOp s) = π s := by
  dsimp only [modeReqRestartOp]
  repeat' first
    | with_reducible rfl
    | with_reducible refine (State.modeReq_only (hU.mono (by decide)) _ _ _ _ ?_).trans ?_
    | with_reducible refine (State.restart_only (hU.mono (by decide)) _ _).trans ?_
    | with_reducible refine (State.modeResult_only (hU.mono (by decide)) _ _ _).trans ?_
    | intro _

theorem modeReqSurveyOp_only {β : Type} {π : State → β} (hU : Unseen 0xa0008e00823006e0 π) (s : State) :
    π (modeReqSurveyOp s) = π s := by
  dsimp only [modeReqSurveyOp]
  repeat' first
    | with_reducible rfl
    | with_reducible refine (State.modeResult_only (hU.mono (by decide)) _ _ _).trans ?_
    | with_reducible refine (State.modeReq_only (hU.mono (by decide)) _ _ _ _ ?_).trans ?_
    | with_reducible refine (State.enterSurvey_only (hU.mono (by decide)) _).trans ?_
    | intro _

theorem modeReqFleetStopOp_only {β : Type} {π : State → β} (hU : Unseen 0xa01f8e009e7c06f8 π) (s : State) :
    π (modeReqFleetStopOp s) = π s := by
  dsimp only [modeReqFleetStopOp]
  repeat' first
    | with_reducible rfl
    | with_reducible refine (State.leaveCommitting_only (hU.mono (by decide)) _).trans ?_
    | with_reducible refine (State.modeReq_only (hU.mono (by decide)) _ _ _ _ ?_).trans ?_
    | with_reducible refine (State.releaseAll_only (hU.mono (by decide)) _ _).trans ?_
    | with_reducible refine (State.modeResult_only (hU.mono (by decide)) _ _ _).trans ?_
    | with_reducible refine (State.enterMode_only (hU.mono (by decide)) _ _).trans ?_
    | with_reducible refine (hU.wrO (by first | decide | (simp only [wrOk, faultOk, tallyOk, bumpOk, commitOk, List.all_cons, List.all_nil, Bool.and_true] <;> decide) | (split <;> decide) | (split <;> simp only [wrOk, faultOk, tallyOk, bumpOk, commitOk, List.all_cons, List.all_nil, Bool.and_true] <;> decide)) _ _).trans ?_
    | with_reducible refine Unseen.ite ?_ ?_
    | intro _
    | split

theorem State.startFleet_only {β : Type} {π : State → β} (hU : Unseen 0xa0108e0092300ee0 π) (s : State) :
    π (State.startFleet s) = π s := by
  dsimp only [State.startFleet]
  repeat' first
    | with_reducible rfl
    | with_reducible refine (State.modeResult_only (hU.mono (by decide)) _ _ _).trans ?_
    | with_reducible refine (State.enterMode_only (hU.mono (by decide)) _ _).trans ?_
    | with_reducible refine (State.setFleet_only (hU.mono (by decide)) _ _).trans ?_
    | with_reducible refine (hU.wrO (by first | decide | (simp only [wrOk, faultOk, tallyOk, bumpOk, commitOk, List.all_cons, List.all_nil, Bool.and_true] <;> decide) | (split <;> decide) | (split <;> simp only [wrOk, faultOk, tallyOk, bumpOk, commitOk, List.all_cons, List.all_nil, Bool.and_true] <;> decide)) _ _).trans ?_
    | fail_if_no_progress with_reducible refine (hU.trp_twn (by decide) (by decide) _ _ _).trans ?_
    | with_reducible refine Unseen.ite ?_ ?_
    | split

theorem modeReqFleetStartOp_only {β : Type} {π : State → β} (hU : Unseen 0xa0108e0092300ee0 π) (s : State) :
    π (modeReqFleetStartOp s) = π s := by
  dsimp only [modeReqFleetStartOp]
  repeat' first
    | with_reducible rfl
    | with_reducible refine (State.modeReq_only (hU.mono (by decide)) _ _ _ _ ?_).trans ?_
    | with_reducible refine (State.startFleet_only (hU.mono (by decide)) _).trans ?_
    | with_reducible refine (State.modeResult_only (hU.mono (by decide)) _ _ _).trans ?_
    | with_reducible refine (hU.wrO (by first | decide | (simp only [wrOk, faultOk, tallyOk, bumpOk, commitOk, List.all_cons, List.all_nil, Bool.and_true] <;> decide) | (split <;> decide) | (split <;> simp only [wrOk, faultOk, tallyOk, bumpOk, commitOk, List.all_cons, List.all_nil, Bool.and_true] <;> decide)) _ _).trans ?_
    | fail_if_no_progress with_reducible refine (hU.twn (by decide) _ _).trans ?_
    | with_reducible refine Unseen.ite ?_ ?_
    | intro _
    | split

theorem claimArbitrationEndOp_only {β : Type} {π : State → β} (hU : Unseen 0xa0108e0092300ee0 π) (s : State) :
    π (claimArbitrationEndOp s) = π s := by
  dsimp only [claimArbitrationEndOp]
  repeat' first
    | with_reducible rfl
    | with_reducible refine (State.startFleet_only (hU.mono (by decide)) _).trans ?_
    | with_reducible refine (State.modeResult_only (hU.mono (by decide)) _ _ _).trans ?_
    | with_reducible refine (hU.wrO (by first | decide | (simp only [wrOk, faultOk, tallyOk, bumpOk, commitOk, List.all_cons, List.all_nil, Bool.and_true] <;> decide) | (split <;> decide) | (split <;> simp only [wrOk, faultOk, tallyOk, bumpOk, commitOk, List.all_cons, List.all_nil, Bool.and_true] <;> decide)) _ _).trans ?_
    | fail_if_no_progress with_reducible refine (hU.twn (by decide) _ _).trans ?_
    | with_reducible refine Unseen.ite ?_ ?_
    | split

theorem pllLockBootOp_only {β : Type} {π : State → β} (hU : Unseen 0x420000000000 π) (s : State) :
    π (pllLockBootOp s) = π s := by
  dsimp only [pllLockBootOp]
  repeat' first
    | with_reducible rfl
    | with_reducible refine (State.adcRuns_only (hU.mono (by decide)) _).trans ?_
    | with_reducible refine (hU.wrEach (by first | decide | (simp only [wrOk, faultOk, tallyOk, bumpOk, commitOk, List.all_cons, List.all_nil, Bool.and_true] <;> decide) | (split <;> decide) | (split <;> simp only [wrOk, faultOk, tallyOk, bumpOk, commitOk, List.all_cons, List.all_nil, Bool.and_true] <;> decide)) _).trans ?_
    | with_reducible refine Unseen.ite ?_ ?_
    | split

theorem memoryTestCompleteOp_only {β : Type} {π : State → β} (hU : Unseen 0x2000000080000 π) (words : List Nat) (buckets : List Nat) (grants : List Nat) (s : State) :
    π (memoryTestCompleteOp words buckets grants s) = π s := by
  dsimp only [memoryTestCompleteOp]
  repeat' first
    | with_reducible rfl
    | with_reducible refine (hU.wrEach (by first | decide | (simp only [wrOk, faultOk, tallyOk, bumpOk, commitOk, List.all_cons, List.all_nil, Bool.and_true] <;> decide) | (split <;> decide) | (split <;> simp only [wrOk, faultOk, tallyOk, bumpOk, commitOk, List.all_cons, List.all_nil, Bool.and_true] <;> decide)) _).trans ?_
    | fail_if_no_progress with_reducible refine (hU.ldr (by decide) _ _).trans ?_
    | with_reducible refine Unseen.ite ?_ ?_
    | with_reducible refine (Unseen.foldl _ ?_ _ _).trans ?_
    | intro _
    | split

theorem lanAdmitOp_only {β : Type} {π : State → β} (hU : Unseen 0x220000400100 π) (a : Bool) (b : Bool) (s : State) :
    π (lanAdmitOp a b s) = π s := by
  dsimp only [lanAdmitOp]
  repeat' first
    | with_reducible rfl
    | with_reducible refine (State.loadFlows_only (hU.mono (by decide)) _).trans ?_
    | with_reducible refine (hU.wrO (by first | decide | (simp only [wrOk, faultOk, tallyOk, bumpOk, commitOk, List.all_cons, List.all_nil, Bool.and_true] <;> decide) | (split <;> decide) | (split <;> simp only [wrOk, faultOk, tallyOk, bumpOk, commitOk, List.all_cons, List.all_nil, Bool.and_true] <;> decide)) _ _).trans ?_
    | fail_if_no_progress with_reducible refine (hU.pwr_zyp (by decide) (by decide) _ _ _).trans ?_
    | with_reducible refine Unseen.ite ?_ ?_
    | split

theorem lanLinkUpOp_only {β : Type} {π : State → β} (hU : Unseen 0x400000 π) (lanB : Bool) (s : State) :
    π (lanLinkUpOp lanB s) = π s := by
  dsimp only [lanLinkUpOp]
  repeat' first
    | with_reducible rfl
    | fail_if_no_progress with_reducible refine (hU.zyp (by decide) _ _).trans ?_
    | with_reducible refine Unseen.ite ?_ ?_
    | split

theorem beaconStartOp_only {β : Type} {π : State → β} (hU : Unseen 0x20000000000 π) (s : State) :
    π (beaconStartOp s) = π s := by
  dsimp only [beaconStartOp]
  repeat' first
    | with_reducible rfl
    | with_reducible refine (hU.wrO (by first | decide | (simp only [wrOk, faultOk, tallyOk, bumpOk, commitOk, List.all_cons, List.all_nil, Bool.and_true] <;> decide) | (split <;> decide) | (split <;> simp only [wrOk, faultOk, tallyOk, bumpOk, commitOk, List.all_cons, List.all_nil, Bool.and_true] <;> decide)) _ _).trans ?_
    | with_reducible refine Unseen.ite ?_ ?_
    | split

theorem bootCompleteOp_only {β : Type} {π : State → β} (hU : Unseen 0xa4008e00823006e0 π) (s : State) :
    π (bootCompleteOp s) = π s := by
  dsimp only [bootCompleteOp]
  repeat' first
    | with_reducible rfl
    | with_reducible refine (State.enterSurvey_only (hU.mono (by decide)) _).trans ?_
    | with_reducible refine (State.enterMode_only (hU.mono (by decide)) _ _).trans ?_
    | with_reducible refine (State.showCaster_only (hU.mono (by decide)) _).trans ?_
    | with_reducible refine (State.raiseLimit_only (hU.mono (by decide)) _ _).trans ?_
    | with_reducible refine (hU.wrO (by first | decide | (simp only [wrOk, faultOk, tallyOk, bumpOk, commitOk, List.all_cons, List.all_nil, Bool.and_true] <;> decide) | (split <;> decide) | (split <;> simp only [wrOk, faultOk, tallyOk, bumpOk, commitOk, List.all_cons, List.all_nil, Bool.and_true] <;> decide)) _ _).trans ?_
    | with_reducible refine Unseen.ite ?_ ?_
    | with_reducible refine (Unseen.foldl _ ?_ _ _).trans ?_
    | intro _
    | split

theorem ptpAcceptStartOp_only {β : Type} {π : State → β} (hU : Unseen 0x200020000001000 π) (s : State) :
    π (ptpAcceptStartOp s) = π s := by
  dsimp only [ptpAcceptStartOp]
  repeat' first
    | with_reducible rfl
    | with_reducible refine (hU.wrO (by first | decide | (simp only [wrOk, faultOk, tallyOk, bumpOk, commitOk, List.all_cons, List.all_nil, Bool.and_true, portState] <;> decide) | (split <;> decide) | (split <;> simp only [wrOk, faultOk, tallyOk, bumpOk, commitOk, List.all_cons, List.all_nil, Bool.and_true, portState] <;> decide) | (simp only [portState]; split <;> decide)) _ _).trans ?_
    | fail_if_no_progress with_reducible refine (hU.tim (by decide) _ _).trans ?_
    | with_reducible refine Unseen.ite ?_ ?_
    | split


/-! ## Global -/

theorem stickyFaultClearOp_only {β : Type} {π : State → β} (hU : Unseen 0x3fffff0000000224 π) (off : Nat) (v : Nat) (s : State) :
    π (stickyFaultClearOp off v s) = π s := by
  dsimp only [stickyFaultClearOp]
  repeat' first
    | with_reducible rfl
    | with_reducible refine (hU.faultWithAny (by decide) _ _ _).trans ?_
    | with_reducible refine (hU.wrEachAny (by decide) _ _).trans ?_
    | with_reducible refine (hU.wrEach (by first | decide | (simp only [wrOk, faultOk, tallyOk, bumpOk, commitOk, List.all_cons, List.all_nil, Bool.and_true, State.conditions, State.hits, instDecidableEqFld, Reg.PORT_CNT_OVF_CNT_SAT_blk, Reg.PORT_CNT_OVF_DROP_SAT_blk, Reg.PORT_CNT_OVF_CNT_SAT_off, Reg.PORT_CNT_OVF_DROP_SAT_off, port_bit (m := 0x3fffff0000000224) (by decide)] <;> decide) | (split <;> decide) | (split <;> simp only [wrOk, faultOk, tallyOk, bumpOk, commitOk, List.all_cons, List.all_nil, Bool.and_true, State.conditions, State.hits, instDecidableEqFld, Reg.PORT_CNT_OVF_CNT_SAT_blk, Reg.PORT_CNT_OVF_DROP_SAT_blk, Reg.PORT_CNT_OVF_CNT_SAT_off, Reg.PORT_CNT_OVF_DROP_SAT_off, port_bit (m := 0x3fffff0000000224) (by decide)] <;> decide) | (simp only [State.conditions, State.hits, instDecidableEqFld]; split <;> decide)) _).trans ?_
    | with_reducible refine (hU.faultWith (by first | decide | (simp only [wrOk, faultOk, tallyOk, bumpOk, commitOk, List.all_cons, List.all_nil, Bool.and_true, State.conditions, State.hits, instDecidableEqFld, Reg.PORT_CNT_OVF_CNT_SAT_blk, Reg.PORT_CNT_OVF_DROP_SAT_blk, Reg.PORT_CNT_OVF_CNT_SAT_off, Reg.PORT_CNT_OVF_DROP_SAT_off, port_bit (m := 0x3fffff0000000224) (by decide)] <;> decide) | (split <;> decide) | (split <;> simp only [wrOk, faultOk, tallyOk, bumpOk, commitOk, List.all_cons, List.all_nil, Bool.and_true, State.conditions, State.hits, instDecidableEqFld, Reg.PORT_CNT_OVF_CNT_SAT_blk, Reg.PORT_CNT_OVF_DROP_SAT_blk, Reg.PORT_CNT_OVF_CNT_SAT_off, Reg.PORT_CNT_OVF_DROP_SAT_off, port_bit (m := 0x3fffff0000000224) (by decide)] <;> decide) | (simp only [State.conditions, State.hits, instDecidableEqFld]; split <;> decide)) _ _).trans ?_
    | with_reducible refine (Unseen.foldl _ ?_ _ _).trans ?_
    | intro _
    | dsimp only

theorem State.msixWrite_only {β : Type} {π : State → β} (hU : Unseen 0x40000000200 π) (s : State) (off : Nat) (v : Nat) :
    π (State.msixWrite s off v) = π s := by
  dsimp only [State.msixWrite]
  repeat' first
    | with_reducible rfl
    | with_reducible refine (msixUnmaskOp_only (hU.mono (by decide)) _ _).trans ?_
    | with_reducible refine (hU.wrO (by first | decide | (simp only [wrOk, faultOk, tallyOk, bumpOk, commitOk, List.all_cons, List.all_nil, Bool.and_true, Reg.MSIX_ADDR_HI_blk, Reg.MSIX_ADDR_LO_blk, Reg.MSIX_DATA_blk, Reg.MSIX_MASK_blk] <;> decide) | (split <;> decide) | (split <;> simp only [wrOk, faultOk, tallyOk, bumpOk, commitOk, List.all_cons, List.all_nil, Bool.and_true, Reg.MSIX_ADDR_HI_blk, Reg.MSIX_ADDR_LO_blk, Reg.MSIX_DATA_blk, Reg.MSIX_MASK_blk] <;> decide)) _ _).trans ?_
    | with_reducible refine Unseen.ite ?_ ?_
    | dsimp only
    | split

theorem State.modeReqWrite_only {β : Type} {π : State → β} (hU : Unseen 0xbfffff009e7eaffe π) (s : State) (v : Nat) :
    π (State.modeReqWrite s v) = π s := by
  dsimp only [State.modeReqWrite]
  repeat' first
    | with_reducible rfl
    | with_reducible refine (modeReqCellarOp_only (hU.mono (by decide)) _).trans ?_
    | with_reducible refine (modeReqDormerWatchOp_only (hU.mono (by decide)) _).trans ?_
    | with_reducible refine (modeReqFleetStopOp_only (hU.mono (by decide)) _).trans ?_
    | with_reducible refine (State.modeResult_only (hU.mono (by decide)) _ _ _).trans ?_
    | with_reducible refine (modeReqSurveyOp_only (hU.mono (by decide)) _).trans ?_
    | with_reducible refine (modeReqFleetStartOp_only (hU.mono (by decide)) _).trans ?_
    | with_reducible refine (modeReqRestartOp_only (hU.mono (by decide)) _).trans ?_
    | with_reducible refine (hU.wrO (by first | decide | (simp only [wrOk, faultOk, tallyOk, bumpOk, commitOk, List.all_cons, List.all_nil, Bool.and_true] <;> decide) | (split <;> decide) | (split <;> simp only [wrOk, faultOk, tallyOk, bumpOk, commitOk, List.all_cons, List.all_nil, Bool.and_true] <;> decide)) _ _).trans ?_
    | with_reducible refine Unseen.ite ?_ ?_
    | dsimp only
    | split

theorem State.wordWrite_only {β : Type} {π : State → β} {m : Nat} (h0 : Unseen m π) (hm : 0x20 &&& m = 0x20) (s : State) (pending : Bool) (busy : Fld) (body : State → State) (bbusy : faultOk m busy = true) (hbody : ∀ (y0 : State), π (body y0) = π y0) :
    π (State.wordWrite s pending busy body) = π s := by
  have hU := h0.mono hm
  dsimp only [State.wordWrite]
  repeat' first
    | with_reducible rfl
    | with_reducible refine (hbody _).trans ?_
    | with_reducible refine (h0.fault bbusy _).trans ?_
    | with_reducible refine (hU.fault (by first | decide | (simp only [wrOk, faultOk, tallyOk, bumpOk, commitOk, List.all_cons, List.all_nil, Bool.and_true] <;> decide) | (split <;> decide) | (split <;> simp only [wrOk, faultOk, tallyOk, bumpOk, commitOk, List.all_cons, List.all_nil, Bool.and_true] <;> decide)) _).trans ?_
    | with_reducible refine Unseen.ite ?_ ?_
    | split

theorem State.regWrite_only {β : Type} {π : State → β} (hU : Unseen 0xbfffff00de7eeffe π) (s : State) (off : Nat) (v : Nat) :
    π (State.regWrite s off v) = π s := by
  dsimp only [State.regWrite]
  repeat' first
    | with_reducible rfl
    | with_reducible refine (State.modeReqWrite_only (hU.mono (by decide)) _ _).trans ?_
    | with_reducible refine (obsLatchOp_only (hU.mono (by decide)) _).trans ?_
    | with_reducible refine (xtal32CfgWriteOp_only (hU.mono (by decide)) _ _).trans ?_
    | with_reducible refine (tickConfigWriteOp_only (hU.mono (by decide)) _ _ _).trans ?_
    | with_reducible refine (State.msixWrite_only (hU.mono (by decide)) _ _ _).trans ?_
    | with_reducible refine (State.setChan_only (hU.mono (by decide)) _ _ _).trans ?_
    | with_reducible refine (State.plainWrite_only (hU.mono (by decide)) _ _ _).trans ?_
    | with_reducible refine (State.wordWrite_only hU (by decide) _ _ _ _ (by first | decide | (simp only [wrOk, faultOk, tallyOk, bumpOk, commitOk, List.all_cons, List.all_nil, Bool.and_true, Reg.DSP_WAKE_MAP_blk] <;> decide) | (split <;> decide) | (split <;> simp only [wrOk, faultOk, tallyOk, bumpOk, commitOk, List.all_cons, List.all_nil, Bool.and_true, Reg.DSP_WAKE_MAP_blk] <;> decide)) ?_).trans ?_
    | with_reducible refine (hU.wrO (by first | decide | (simp only [wrOk, faultOk, tallyOk, bumpOk, commitOk, List.all_cons, List.all_nil, Bool.and_true, Reg.DSP_WAKE_MAP_blk] <;> decide) | (split <;> decide) | (split <;> simp only [wrOk, faultOk, tallyOk, bumpOk, commitOk, List.all_cons, List.all_nil, Bool.and_true, Reg.DSP_WAKE_MAP_blk] <;> decide)) _ _).trans ?_
    | fail_if_no_progress with_reducible refine (hU.tly (by decide) _ _).trans ?_
    | fail_if_no_progress with_reducible refine (hU.gov (by decide) _ _).trans ?_
    | fail_if_no_progress with_reducible refine (hU.drm (by decide) _ _).trans ?_
    | fail_if_no_progress with_reducible refine (hU.trk (by decide) _ _).trans ?_
    | fail_if_no_progress with_reducible refine (hU.trk_drm (by decide) (by decide) _ _ _).trans ?_
    | fail_if_no_progress with_reducible refine (hU.gov_tly (by decide) (by decide) _ _ _).trans ?_
    | fail_if_no_progress with_reducible refine (hU.gov_drm (by decide) (by decide) _ _ _).trans ?_
    | fail_if_no_progress with_reducible refine (hU.drm_tly (by decide) (by decide) _ _ _).trans ?_
    | fail_if_no_progress with_reducible refine (hU.trk_tly (by decide) (by decide) _ _ _).trans ?_
    | fail_if_no_progress with_reducible refine (hU.trk_gov (by decide) (by decide) _ _ _).trans ?_
    | fail_if_no_progress with_reducible refine (hU.trk_gov_drm (by decide) (by decide) (by decide) _ _ _ _).trans ?_
    | fail_if_no_progress with_reducible refine (hU.gov_drm_tly (by decide) (by decide) (by decide) _ _ _ _).trans ?_
    | fail_if_no_progress with_reducible refine (hU.trk_drm_tly (by decide) (by decide) (by decide) _ _ _ _).trans ?_
    | fail_if_no_progress with_reducible refine (hU.trk_gov_tly (by decide) (by decide) (by decide) _ _ _ _).trans ?_
    | fail_if_no_progress with_reducible refine (hU.trk_gov_drm_tly (by decide) (by decide) (by decide) (by decide) _ _ _ _ _).trans ?_
    | with_reducible refine Unseen.ite ?_ ?_
    | intro _
    | split

theorem barred_ok {m off : Nat} {f : Fld} (h : hostBarred off = some f) (b : ([Reg.CHU_FAULT_HOST_WRITE, Reg.HST_FAULT_HOST_WRITE, Reg.DSP_FAULT_HOST_WRITE, Reg.TLY_FAULT_HOST_WRITE]).all (faultOk m) = true := by decide) : faultOk m f = true := by
  simp only [List.all_cons, List.all_nil, Bool.and_eq_true] at b
  simp only [hostBarred] at h
  repeat' split at h
  all_goals first
    | (cases h; simp only [b])
    | cases h

theorem protectedHostWriteOp_only {β : Type} {π : State → β} (hU : Unseen 0x2000380000000020 π) (off : Nat) (s : State) :
    π (protectedHostWriteOp off s) = π s := by
  dsimp only [protectedHostWriteOp]
  repeat' first
    | with_reducible rfl
    | exact hU.fault (barred_ok (by assumption)) _
    | with_reducible refine (hU.fault (by first | decide | (simp only [wrOk, faultOk, tallyOk, bumpOk, commitOk, List.all_cons, List.all_nil, Bool.and_true, hostBarred] <;> decide) | (split <;> decide) | (split <;> simp only [wrOk, faultOk, tallyOk, bumpOk, commitOk, List.all_cons, List.all_nil, Bool.and_true, hostBarred] <;> decide) | (simp only [hostBarred]; split <;> decide)) _).trans ?_
    | with_reducible refine Unseen.ite ?_ ?_
    | dsimp only
    | split

theorem badSizeAccessOp_only {β : Type} {π : State → β} (hU : Unseen 0x40000000220 π) (s : State) :
    π (badSizeAccessOp s) = π s := by
  dsimp only [badSizeAccessOp]
  repeat' first
    | with_reducible rfl
    | with_reducible refine (hU.fault (by first | decide | (simp only [wrOk, faultOk, tallyOk, bumpOk, commitOk, List.all_cons, List.all_nil, Bool.and_true] <;> decide) | (split <;> decide) | (split <;> simp only [wrOk, faultOk, tallyOk, bumpOk, commitOk, List.all_cons, List.all_nil, Bool.and_true] <;> decide)) _).trans ?_
    | with_reducible refine Unseen.ite ?_ ?_
    | split

theorem counterLatchReadOp_only {β : Type} {π : State → β} (hU : Unseen 0x80000 π) (k : Nat) (s : State) :
    π (counterLatchReadOp k s) = π s := by
  dsimp only [counterLatchReadOp]
  repeat' first
    | with_reducible rfl
    | fail_if_no_progress with_reducible refine (hU.ldr (by decide) _ _).trans ?_

theorem globalCommitOp_only {β : Type} {π : State → β} (hU : Unseen 0x10008000018 π) (s : State) :
    π (globalCommitOp s) = π s := by
  dsimp only [globalCommitOp]
  repeat' first
    | with_reducible rfl
    | with_reducible refine (hU.commit (by first | decide | (simp only [wrOk, faultOk, tallyOk, bumpOk, commitOk, List.all_cons, List.all_nil, Bool.and_true, globalRest] <;> decide) | (split <;> decide) | (split <;> simp only [wrOk, faultOk, tallyOk, bumpOk, commitOk, List.all_cons, List.all_nil, Bool.and_true, globalRest] <;> decide) | (simp only [globalRest]; split <;> decide)) _ _).trans ?_
    | with_reducible refine (hU.wrO (by first | decide | (simp only [wrOk, faultOk, tallyOk, bumpOk, commitOk, List.all_cons, List.all_nil, Bool.and_true, globalRest] <;> decide) | (split <;> decide) | (split <;> simp only [wrOk, faultOk, tallyOk, bumpOk, commitOk, List.all_cons, List.all_nil, Bool.and_true, globalRest] <;> decide) | (simp only [globalRest]; split <;> decide)) _ _).trans ?_
    | with_reducible refine (hU.setPending (by first | decide | (simp only [wrOk, faultOk, tallyOk, bumpOk, commitOk, List.all_cons, List.all_nil, Bool.and_true, globalRest] <;> decide) | (split <;> decide) | (split <;> simp only [wrOk, faultOk, tallyOk, bumpOk, commitOk, List.all_cons, List.all_nil, Bool.and_true, globalRest] <;> decide) | (simp only [globalRest]; split <;> decide)) _).trans ?_
    | with_reducible refine Unseen.ite ?_ ?_
    | split

theorem identOp_only {β : Type} {π : State → β} (hU : Unseen 0x200 π) (c : Cmd) (s : State) :
    π (identOp c s) = π s := by
  dsimp only [identOp]
  repeat' first
    | with_reducible rfl
    | with_reducible refine (State.finish_only (hU.mono (by decide)) _ _ _ _ _).trans ?_
    | with_reducible refine (State.hostCmd_only (hU.mono (by decide)) _ _ _ _ ?_).trans ?_
    | with_reducible refine Unseen.ite ?_ ?_
    | intro _
    | split

theorem memUncorrectableOp_only {β : Type} {π : State → β} (hU : Unseen 0x4000080000000422 π) (addr : Nat) (s : State) :
    π (memUncorrectableOp addr s) = π s := by
  dsimp only [memUncorrectableOp]
  repeat' first
    | with_reducible rfl
    | with_reducible refine (State.memUncorr_only (hU.mono (by decide)) _ _).trans ?_


/-! ## Reads -/

theorem State.afterRead_only {β : Type} {π : State → β} (hU : Unseen 0xa1400 π) (s : State) (off : Nat) :
    π (State.afterRead s off) = π s := by
  dsimp only [State.afterRead]
  repeat' first
    | with_reducible rfl
    | with_reducible refine (captureLatchReadOp_only (hU.mono (by decide)) _ _).trans ?_
    | with_reducible refine (timeLatchReadOp_only (hU.mono (by decide)) _).trans ?_
    | with_reducible refine (counterLatchReadOp_only (hU.mono (by decide)) _ _).trans ?_
    | with_reducible refine (flowViewSampleOp_only (hU.mono (by decide)) _ _).trans ?_
    | with_reducible refine (chuteViewSampleOp_only (hU.mono (by decide)) _ _).trans ?_
    | with_reducible refine Unseen.ite ?_ ?_
    | split

theorem State.busRead_only {β : Type} {π : State → β} (hU : Unseen 0xa1402 π) (off : Nat) (s : State) :
    π ((State.busRead off s).2) = π s := by
  dsimp only [State.busRead]
  repeat' first
    | with_reducible rfl
    | with_reducible refine (State.afterRead_only (hU.mono (by decide)) _ _).trans ?_
    | with_reducible refine (State.draw_only (hU.mono (by decide)) _ _).trans ?_
    | with_reducible refine Unseen.ite ?_ ?_
    | dsimp only
    | split


/-! ## Access -/

theorem taskAuditWrite_only {β : Type} {π : State → β} (hU : Unseen 0x14000000100002 π) (s : State) :
    π (taskAuditWrite s) = π s := by
  dsimp only [taskAuditWrite]
  repeat' first
    | with_reducible rfl
    | with_reducible refine (State.draw_only (hU.mono (by decide)) _ _).trans ?_
    | with_reducible refine (taskAuditClearOp_only (hU.mono (by decide)) _ _).trans ?_
    | dsimp only

theorem controlOps_only {β : Type} {π : State → β} (hU : Unseen 0xb6168c00ba3816e2 π) (off v : Nat) : ∀ p ∈ controlOps off v, ∀ s, π (p.2 s) = π s := by
  have k : ∀ s, π (taskAuditWrite s) = π s := fun s => taskAuditWrite_only (hU.mono (by decide)) s
  unfold controlOps
  split
  all_goals
    repeat' first
      | exact fun p h => absurd h List.not_mem_nil
      | refine List.forall_mem_cons.2 ⟨?_, ?_⟩
      | exact k
      | with_reducible exact fun s => distClearOp_only (hU.mono (by decide)) ..
      | with_reducible exact fun s => larderAuditClearOp_only (hU.mono (by decide)) ..
      | with_reducible exact fun s => slewAcceptOp_only (hU.mono (by decide)) ..
      | with_reducible exact fun s => stepOp_only (hU.mono (by decide)) ..
      | with_reducible exact fun s => rejoinRetryOp_only (hU.mono (by decide)) ..
      | with_reducible exact fun s => lockOp_only (hU.mono (by decide)) ..
      | with_reducible exact fun s => unlockOp_only (hU.mono (by decide)) ..
      | with_reducible exact fun s => cancelOp_only (hU.mono (by decide)) ..
      | with_reducible exact fun s => hostOkOp_only (hU.mono (by decide)) ..
      | with_reducible exact fun s => updateClearOp_only (hU.mono (by decide)) ..
      | with_reducible exact fun s => flushOp_only (hU.mono (by decide)) ..
      | with_reducible exact fun s => retestOp_only (hU.mono (by decide)) ..
      | dsimp only

theorem State.controlWrite_only {β : Type} {π : State → β} (hU : Unseen 0xb6168c00ba3816e2 π) (s : State) (off : Nat) (v : Nat) :
    π (State.controlWrite s off v) = π s := by
  unfold State.controlWrite
  refine Unseen.foldlMem (fun p hp a => ?_) s
  split
  · exact controlOps_only (hU.mono (by decide)) off v p hp a
  · rfl

theorem commitOps_only {β : Type} {π : State → β} (hU : Unseen 0xb6ffff00ef3697f8 π) : ∀ p ∈ commitOps, ∀ s, π (p.2 s) = π s := by
  simp only [commitOps, List.cons_append, List.nil_append, List.forall_mem_cons]
  exact ⟨fun s => globalCommitOp_only (hU.mono (by decide)) ..,
    fun s => wakeCommitOp_only (hU.mono (by decide)) ..,
    fun s => hostCommitOp_only (hU.mono (by decide)) ..,
    fun s => ringCommitOp_only (hU.mono (by decide)) ..,
    fun s => chuteCfgCommitOp_only (hU.mono (by decide)) ..,
    fun s => progCommitOp_only (hU.mono (by decide)) ..,
    fun s => threadCommitOp_only (hU.mono (by decide)) ..,
    fun s => flowCommitOp_only (hU.mono (by decide)) ..,
    fun s => measCommitOp_only (hU.mono (by decide)) ..,
    fun s => trackingLoopCommitOp_only (hU.mono (by decide)) ..,
    fun s => refCommitOp_only (hU.mono (by decide)) ..,
    fun s => rtcmCommitOp_only (hU.mono (by decide)) ..,
    fun s => casterCommitOp_only (hU.mono (by decide)) ..,
    fun s => monitorCommitOp_only (hU.mono (by decide)) ..,
    fun s => filterCommitOp_only (hU.mono (by decide)) ..,
    fun s => frameCommitOp_only (hU.mono (by decide)) ..,
    fun s => xchkCommitOp_only (hU.mono (by decide)) ..,
    fun s => mapCommitOp_only (hU.mono (by decide)) ..,
    fun s => rulesCommitOp_only (hU.mono (by decide)) ..,
    fun s => fleetCommitOp_only (hU.mono (by decide)) ..,
    fun s => paceCommitOp_only (hU.mono (by decide)) ..,
    fun s => trapCommitOp_only (hU.mono (by decide)) ..,
    fun s => chanCommitOp_only (hU.mono (by decide)) ..,
    fun s => dormerRulesCommitOp_only (hU.mono (by decide)) ..,
    fun s => zypCommitOp_only (hU.mono (by decide)) ..,
    fun s => netCommitOp_only (hU.mono (by decide)) ..,
    fun s => netCommitOp_only (hU.mono (by decide)) ..,
    fun s => timeCommitOp_only (hU.mono (by decide)) ..,
    fun s => ptpCommitOp_only (hU.mono (by decide)) ..,
    fun s => pulseCommitOp_only (hU.mono (by decide)) ..,
    fun s => twinCommitOp_only (hU.mono (by decide)) ..,
    fun s => updCommitOp_only (hU.mono (by decide)) ..,
    fun s => defCommitOp_only (hU.mono (by decide)) ..,
    fun _ h => absurd h List.not_mem_nil⟩

theorem State.wordAt_only {β : Type} {π : State → β} (hU : Unseen 0x80bfffff00ff7efffe π) (s : State) (off : Nat) (v : Nat) :
    π (State.wordAt s off v) = π s := by
  dsimp only [State.wordAt]
  repeat' first
    | with_reducible rfl
    | with_reducible refine (commitOps_only (hU.mono (by decide)) _ (List.mem_of_find?_eq_some (by assumption)) _).trans ?_
    | with_reducible refine (State.controlWrite_only (hU.mono (by decide)) _ _ _).trans ?_
    | with_reducible refine (srpCfgWriteOp_only (hU.mono (by decide)) _ _).trans ?_
    | with_reducible refine (channelCtrl_only (hU.mono (by decide)) _ _).trans ?_
    | with_reducible refine (stickyFaultClearOp_only (hU.mono (by decide)) _ _ _).trans ?_
    | with_reducible refine (eventFlagsClearOp_only (hU.mono (by decide)) _ _ _).trans ?_
    | with_reducible refine (claimWrite_only (hU.mono (by decide)) _ _ _).trans ?_
    | with_reducible refine (attnKickOp_only (hU.mono (by decide)) _).trans ?_
    | with_reducible refine (State.regWrite_only (hU.mono (by decide)) _ _ _).trans ?_
    | with_reducible refine Unseen.ite ?_ ?_
    | intro _
    | dsimp only
    | split

theorem registerWriteOp_only {β : Type} {π : State → β} (hU : Unseen 0x80bfffff00ff7efffe π) (off : Nat) (v : Nat) (hi : Option Nat) (w : Writer) (s : State) :
    π (registerWriteOp off v hi w s) = π s := by
  dsimp only [registerWriteOp]
  repeat' first
    | with_reducible rfl
    | with_reducible refine (badSizeAccessOp_only (hU.mono (by decide)) _).trans ?_
    | with_reducible refine (State.wordAt_only (hU.mono (by decide)) _ _ _).trans ?_
    | with_reducible refine (protectedHostWriteOp_only (hU.mono (by decide)) _ _).trans ?_
    | with_reducible refine Unseen.ite ?_ ?_
    | intro _
    | dsimp only
    | split

end Sys2Proof.Machine
end

