-- ==== Sys2Proof/Laws/Shared.lean ====
section
/-! SUPPORT. What the shared operations do, once each: the operations of a powered main domain, descriptors, faults, events, counters,
commits and chutes. -/

namespace Sys2Proof.Machine

/-! ## Commands of the main domain and descriptors -/

/-- With the main domain up a command does its work. -/
theorem State.whenMain_up {s : State} (h : s.Up) (body : State → State) : s.whenMain body = body s := by
  simp [State.whenMain, h.1, h.2]

/-- An accepted descriptor does its block's work. -/
theorem State.hostCmd_accepts {s : State} {c : Cmd} {k : RingKind} (h : s.Accepts c k) (body : State → State) :
    s.hostCmd c k body = body (s.begun c) := by
  obtain ⟨h1, h2, h3⟩ := h
  have h4 : ¬ (k ≠ .command ∧ c.desc.length = 0) := by rintro ⟨a, b⟩; rcases h2 with h | h <;> contradiction
  unfold State.hostCmd
  simp only [h1, h3, Bool.not_true, Bool.false_eq_true, if_false]
  rw [if_neg h4]

/-- A descriptor that finishes is the latest completed one. -/
@[simp] theorem State.finish_completed (s : State) (c : Cmd) (st n r : Nat) : (s.finish c st n r).Completed c st n r := by
  simp only [State.finish]

@[simp] theorem State.begun_rd (s : State) (c : Cmd) (f : Fld) : (s.begun c).rd f = s.rd f := by
  simp only [State.begun]; split <;> rfl

/-! ## Registers under their bits -/

theorem State.on_wr_same (s : State) (f : Fld) (v : Nat) : (s.wr f v).on f = (v % 2 ^ f.w != 0) := by simp [State.on]

theorem State.on_wr_ne {f g : Fld} (h : g.key ≠ f.key) (s : State) (v : Nat) : (s.wr f v).on g = s.on g := by
  simp [State.on, State.rd_wr_ne h]

/-- A fault sets its sticky bit. -/
theorem State.faultWith_rd (s : State) (f : Fld) (d : Nat) (h : 2 ≤ 2 ^ f.w) (k : f.key ≠ (Reg.MSIX_PENDING 0).key) :
    (s.faultWith f d).rd f = 1 := by
  have e : 1 % 2 ^ f.w = 1 := Nat.mod_eq_of_lt h
  unfold State.faultWith
  repeat' split
  all_goals simp [State.event, State.rd, State.wr, State.signal, State.setVec]
  repeat' split
  all_goals simp [e, Regs.read_write_ne k]

end Sys2Proof.Machine
end

