-- ==== Sys2Proof/Laws/Parts.lean ====
section
/-! SUPPORT. Which parts of the state each shared operation leaves as they were, one law per part. -/

namespace Sys2Proof.Machine

/-! ## What `signal` leaves -/

@[simp] theorem State.signal_pending (s : State) (v : Nat) : (s.signal v).pending = s.pending := by
  simp only [State.signal]; repeat' split
  all_goals simp
@[simp] theorem State.signal_ctr (s : State) (v : Nat) : (s.signal v).ctr = s.ctr := by
  simp only [State.signal]; repeat' split
  all_goals simp
@[simp] theorem State.signal_shd (s : State) (v : Nat) : (s.signal v).shd = s.shd := by
  simp only [State.signal]; repeat' split
  all_goals simp
@[simp] theorem State.signal_cmt (s : State) (v : Nat) : (s.signal v).cmt = s.cmt := by
  simp only [State.signal]; repeat' split
  all_goals simp
@[simp] theorem State.signal_evq (s : State) (v : Nat) : (s.signal v).evq = s.evq := by
  simp only [State.signal]; repeat' split
  all_goals simp
@[simp] theorem State.signal_mode (s : State) (v : Nat) : (s.signal v).mode = s.mode := by
  simp only [State.signal]; repeat' split
  all_goals simp
@[simp] theorem State.signal_prev (s : State) (v : Nat) : (s.signal v).prev = s.prev := by
  simp only [State.signal]; repeat' split
  all_goals simp
@[simp] theorem State.signal_pwr (s : State) (v : Nat) : (s.signal v).pwr = s.pwr := by
  simp only [State.signal]; repeat' split
  all_goals simp
@[simp] theorem State.signal_chu (s : State) (v : Nat) : (s.signal v).chu = s.chu := by
  simp only [State.signal]; repeat' split
  all_goals simp
@[simp] theorem State.signal_trp (s : State) (v : Nat) : (s.signal v).trp = s.trp := by
  simp only [State.signal]; repeat' split
  all_goals simp
@[simp] theorem State.signal_tim (s : State) (v : Nat) : (s.signal v).tim = s.tim := by
  simp only [State.signal]; repeat' split
  all_goals simp
@[simp] theorem State.signal_mem (s : State) (v : Nat) : (s.signal v).mem = s.mem := by
  simp only [State.signal]; repeat' split
  all_goals simp
@[simp] theorem State.signal_ticks (s : State) (v : Nat) : (s.signal v).ticks = s.ticks := by
  simp only [State.signal]; repeat' split
  all_goals simp
@[simp] theorem State.signal_hst (s : State) (v : Nat) : (s.signal v).hst = s.hst := by
  simp only [State.signal]; repeat' split
  all_goals simp
@[simp] theorem State.signal_board (s : State) (v : Nat) : (s.signal v).board = s.board := by
  simp only [State.signal]; repeat' split
  all_goals simp
@[simp] theorem State.signal_dsp (s : State) (v : Nat) : (s.signal v).dsp = s.dsp := by
  simp only [State.signal]; repeat' split
  all_goals simp
@[simp] theorem State.signal_epo (s : State) (v : Nat) : (s.signal v).epo = s.epo := by
  simp only [State.signal]; repeat' split
  all_goals simp
@[simp] theorem State.signal_ldr (s : State) (v : Nat) : (s.signal v).ldr = s.ldr := by
  simp only [State.signal]; repeat' split
  all_goals simp
@[simp] theorem State.signal_trk (s : State) (v : Nat) : (s.signal v).trk = s.trk := by
  simp only [State.signal]; repeat' split
  all_goals simp
@[simp] theorem State.signal_gov (s : State) (v : Nat) : (s.signal v).gov = s.gov := by
  simp only [State.signal]; repeat' split
  all_goals simp
@[simp] theorem State.signal_zyp (s : State) (v : Nat) : (s.signal v).zyp = s.zyp := by
  simp only [State.signal]; repeat' split
  all_goals simp
@[simp] theorem State.signal_vlt (s : State) (v : Nat) : (s.signal v).vlt = s.vlt := by
  simp only [State.signal]; repeat' split
  all_goals simp
@[simp] theorem State.signal_rng (s : State) (v : Nat) : (s.signal v).rng = s.rng := by
  simp only [State.signal]; repeat' split
  all_goals simp
@[simp] theorem State.signal_cor (s : State) (v : Nat) : (s.signal v).cor = s.cor := by
  simp only [State.signal]; repeat' split
  all_goals simp
@[simp] theorem State.signal_cre (s : State) (v : Nat) : (s.signal v).cre = s.cre := by
  simp only [State.signal]; repeat' split
  all_goals simp
@[simp] theorem State.signal_nvm (s : State) (v : Nat) : (s.signal v).nvm = s.nvm := by
  simp only [State.signal]; repeat' split
  all_goals simp
@[simp] theorem State.signal_twn (s : State) (v : Nat) : (s.signal v).twn = s.twn := by
  simp only [State.signal]; repeat' split
  all_goals simp
@[simp] theorem State.signal_upd (s : State) (v : Nat) : (s.signal v).upd = s.upd := by
  simp only [State.signal]; repeat' split
  all_goals simp
@[simp] theorem State.signal_drm (s : State) (v : Nat) : (s.signal v).drm = s.drm := by
  simp only [State.signal]; repeat' split
  all_goals simp
@[simp] theorem State.signal_tly (s : State) (v : Nat) : (s.signal v).tly = s.tly := by
  simp only [State.signal]; repeat' split
  all_goals simp

/-! ## What `faultWith` leaves -/

@[simp] theorem State.faultWith_pending (s : State) (f : Fld) (d : Nat) : (s.faultWith f d).pending = s.pending := by
  simp only [State.faultWith]; repeat' split
  all_goals simp
@[simp] theorem State.faultWith_ctr (s : State) (f : Fld) (d : Nat) : (s.faultWith f d).ctr = s.ctr := by
  simp only [State.faultWith]; repeat' split
  all_goals simp
@[simp] theorem State.faultWith_shd (s : State) (f : Fld) (d : Nat) : (s.faultWith f d).shd = s.shd := by
  simp only [State.faultWith]; repeat' split
  all_goals simp
@[simp] theorem State.faultWith_cmt (s : State) (f : Fld) (d : Nat) : (s.faultWith f d).cmt = s.cmt := by
  simp only [State.faultWith]; repeat' split
  all_goals simp
@[simp] theorem State.faultWith_mode (s : State) (f : Fld) (d : Nat) : (s.faultWith f d).mode = s.mode := by
  simp only [State.faultWith]; repeat' split
  all_goals simp
@[simp] theorem State.faultWith_prev (s : State) (f : Fld) (d : Nat) : (s.faultWith f d).prev = s.prev := by
  simp only [State.faultWith]; repeat' split
  all_goals simp
@[simp] theorem State.faultWith_pwr (s : State) (f : Fld) (d : Nat) : (s.faultWith f d).pwr = s.pwr := by
  simp only [State.faultWith]; repeat' split
  all_goals simp
@[simp] theorem State.faultWith_chu (s : State) (f : Fld) (d : Nat) : (s.faultWith f d).chu = s.chu := by
  simp only [State.faultWith]; repeat' split
  all_goals simp
@[simp] theorem State.faultWith_trp (s : State) (f : Fld) (d : Nat) : (s.faultWith f d).trp = s.trp := by
  simp only [State.faultWith]; repeat' split
  all_goals simp
@[simp] theorem State.faultWith_tim (s : State) (f : Fld) (d : Nat) : (s.faultWith f d).tim = s.tim := by
  simp only [State.faultWith]; repeat' split
  all_goals simp
@[simp] theorem State.faultWith_mem (s : State) (f : Fld) (d : Nat) : (s.faultWith f d).mem = s.mem := by
  simp only [State.faultWith]; repeat' split
  all_goals simp
@[simp] theorem State.faultWith_ticks (s : State) (f : Fld) (d : Nat) : (s.faultWith f d).ticks = s.ticks := by
  simp only [State.faultWith]; repeat' split
  all_goals simp
@[simp] theorem State.faultWith_hst (s : State) (f : Fld) (d : Nat) : (s.faultWith f d).hst = s.hst := by
  simp only [State.faultWith]; repeat' split
  all_goals simp
@[simp] theorem State.faultWith_board (s : State) (f : Fld) (d : Nat) : (s.faultWith f d).board = s.board := by
  simp only [State.faultWith]; repeat' split
  all_goals simp
@[simp] theorem State.faultWith_dsp (s : State) (f : Fld) (d : Nat) : (s.faultWith f d).dsp = s.dsp := by
  simp only [State.faultWith]; repeat' split
  all_goals simp
@[simp] theorem State.faultWith_epo (s : State) (f : Fld) (d : Nat) : (s.faultWith f d).epo = s.epo := by
  simp only [State.faultWith]; repeat' split
  all_goals simp
@[simp] theorem State.faultWith_ldr (s : State) (f : Fld) (d : Nat) : (s.faultWith f d).ldr = s.ldr := by
  simp only [State.faultWith]; repeat' split
  all_goals simp
@[simp] theorem State.faultWith_trk (s : State) (f : Fld) (d : Nat) : (s.faultWith f d).trk = s.trk := by
  simp only [State.faultWith]; repeat' split
  all_goals simp
@[simp] theorem State.faultWith_gov (s : State) (f : Fld) (d : Nat) : (s.faultWith f d).gov = s.gov := by
  simp only [State.faultWith]; repeat' split
  all_goals simp
@[simp] theorem State.faultWith_zyp (s : State) (f : Fld) (d : Nat) : (s.faultWith f d).zyp = s.zyp := by
  simp only [State.faultWith]; repeat' split
  all_goals simp
@[simp] theorem State.faultWith_vlt (s : State) (f : Fld) (d : Nat) : (s.faultWith f d).vlt = s.vlt := by
  simp only [State.faultWith]; repeat' split
  all_goals simp
@[simp] theorem State.faultWith_rng (s : State) (f : Fld) (d : Nat) : (s.faultWith f d).rng = s.rng := by
  simp only [State.faultWith]; repeat' split
  all_goals simp
@[simp] theorem State.faultWith_cor (s : State) (f : Fld) (d : Nat) : (s.faultWith f d).cor = s.cor := by
  simp only [State.faultWith]; repeat' split
  all_goals simp
@[simp] theorem State.faultWith_cre (s : State) (f : Fld) (d : Nat) : (s.faultWith f d).cre = s.cre := by
  simp only [State.faultWith]; repeat' split
  all_goals simp
@[simp] theorem State.faultWith_nvm (s : State) (f : Fld) (d : Nat) : (s.faultWith f d).nvm = s.nvm := by
  simp only [State.faultWith]; repeat' split
  all_goals simp
@[simp] theorem State.faultWith_twn (s : State) (f : Fld) (d : Nat) : (s.faultWith f d).twn = s.twn := by
  simp only [State.faultWith]; repeat' split
  all_goals simp
@[simp] theorem State.faultWith_upd (s : State) (f : Fld) (d : Nat) : (s.faultWith f d).upd = s.upd := by
  simp only [State.faultWith]; repeat' split
  all_goals simp
@[simp] theorem State.faultWith_drm (s : State) (f : Fld) (d : Nat) : (s.faultWith f d).drm = s.drm := by
  simp only [State.faultWith]; repeat' split
  all_goals simp
@[simp] theorem State.faultWith_tly (s : State) (f : Fld) (d : Nat) : (s.faultWith f d).tly = s.tly := by
  simp only [State.faultWith]; repeat' split
  all_goals simp

/-! ## What `fault` leaves -/

@[simp] theorem State.fault_pending (s : State) (f : Fld) : (s.fault f).pending = s.pending := by
  simp only [State.fault]; repeat' split
  all_goals simp
@[simp] theorem State.fault_ctr (s : State) (f : Fld) : (s.fault f).ctr = s.ctr := by
  simp only [State.fault]; repeat' split
  all_goals simp
@[simp] theorem State.fault_shd (s : State) (f : Fld) : (s.fault f).shd = s.shd := by
  simp only [State.fault]; repeat' split
  all_goals simp
@[simp] theorem State.fault_cmt (s : State) (f : Fld) : (s.fault f).cmt = s.cmt := by
  simp only [State.fault]; repeat' split
  all_goals simp
@[simp] theorem State.fault_mode (s : State) (f : Fld) : (s.fault f).mode = s.mode := by
  simp only [State.fault]; repeat' split
  all_goals simp
@[simp] theorem State.fault_prev (s : State) (f : Fld) : (s.fault f).prev = s.prev := by
  simp only [State.fault]; repeat' split
  all_goals simp
@[simp] theorem State.fault_pwr (s : State) (f : Fld) : (s.fault f).pwr = s.pwr := by
  simp only [State.fault]; repeat' split
  all_goals simp
@[simp] theorem State.fault_chu (s : State) (f : Fld) : (s.fault f).chu = s.chu := by
  simp only [State.fault]; repeat' split
  all_goals simp
@[simp] theorem State.fault_trp (s : State) (f : Fld) : (s.fault f).trp = s.trp := by
  simp only [State.fault]; repeat' split
  all_goals simp
@[simp] theorem State.fault_tim (s : State) (f : Fld) : (s.fault f).tim = s.tim := by
  simp only [State.fault]; repeat' split
  all_goals simp
@[simp] theorem State.fault_mem (s : State) (f : Fld) : (s.fault f).mem = s.mem := by
  simp only [State.fault]; repeat' split
  all_goals simp
@[simp] theorem State.fault_ticks (s : State) (f : Fld) : (s.fault f).ticks = s.ticks := by
  simp only [State.fault]; repeat' split
  all_goals simp
@[simp] theorem State.fault_hst (s : State) (f : Fld) : (s.fault f).hst = s.hst := by
  simp only [State.fault]; repeat' split
  all_goals simp
@[simp] theorem State.fault_board (s : State) (f : Fld) : (s.fault f).board = s.board := by
  simp only [State.fault]; repeat' split
  all_goals simp
@[simp] theorem State.fault_dsp (s : State) (f : Fld) : (s.fault f).dsp = s.dsp := by
  simp only [State.fault]; repeat' split
  all_goals simp
@[simp] theorem State.fault_epo (s : State) (f : Fld) : (s.fault f).epo = s.epo := by
  simp only [State.fault]; repeat' split
  all_goals simp
@[simp] theorem State.fault_ldr (s : State) (f : Fld) : (s.fault f).ldr = s.ldr := by
  simp only [State.fault]; repeat' split
  all_goals simp
@[simp] theorem State.fault_trk (s : State) (f : Fld) : (s.fault f).trk = s.trk := by
  simp only [State.fault]; repeat' split
  all_goals simp
@[simp] theorem State.fault_gov (s : State) (f : Fld) : (s.fault f).gov = s.gov := by
  simp only [State.fault]; repeat' split
  all_goals simp
@[simp] theorem State.fault_zyp (s : State) (f : Fld) : (s.fault f).zyp = s.zyp := by
  simp only [State.fault]; repeat' split
  all_goals simp
@[simp] theorem State.fault_vlt (s : State) (f : Fld) : (s.fault f).vlt = s.vlt := by
  simp only [State.fault]; repeat' split
  all_goals simp
@[simp] theorem State.fault_rng (s : State) (f : Fld) : (s.fault f).rng = s.rng := by
  simp only [State.fault]; repeat' split
  all_goals simp
@[simp] theorem State.fault_cor (s : State) (f : Fld) : (s.fault f).cor = s.cor := by
  simp only [State.fault]; repeat' split
  all_goals simp
@[simp] theorem State.fault_cre (s : State) (f : Fld) : (s.fault f).cre = s.cre := by
  simp only [State.fault]; repeat' split
  all_goals simp
@[simp] theorem State.fault_nvm (s : State) (f : Fld) : (s.fault f).nvm = s.nvm := by
  simp only [State.fault]; repeat' split
  all_goals simp
@[simp] theorem State.fault_twn (s : State) (f : Fld) : (s.fault f).twn = s.twn := by
  simp only [State.fault]; repeat' split
  all_goals simp
@[simp] theorem State.fault_upd (s : State) (f : Fld) : (s.fault f).upd = s.upd := by
  simp only [State.fault]; repeat' split
  all_goals simp
@[simp] theorem State.fault_drm (s : State) (f : Fld) : (s.fault f).drm = s.drm := by
  simp only [State.fault]; repeat' split
  all_goals simp
@[simp] theorem State.fault_tly (s : State) (f : Fld) : (s.fault f).tly = s.tly := by
  simp only [State.fault]; repeat' split
  all_goals simp

/-! ## What `putPacket` leaves -/

@[simp] theorem State.putPacket_pending (s : State) (n p : Nat) (l : Option Nat) (w : List DWord) : (s.putPacket n p l w).pending = s.pending := by
  simp only [State.putPacket]; repeat' split
  all_goals simp
@[simp] theorem State.putPacket_ctr (s : State) (n p : Nat) (l : Option Nat) (w : List DWord) : (s.putPacket n p l w).ctr = s.ctr := by
  simp only [State.putPacket]; repeat' split
  all_goals simp
@[simp] theorem State.putPacket_fld (s : State) (n p : Nat) (l : Option Nat) (w : List DWord) : (s.putPacket n p l w).fld = s.fld := by
  simp only [State.putPacket]; repeat' split
  all_goals simp
@[simp] theorem State.putPacket_shd (s : State) (n p : Nat) (l : Option Nat) (w : List DWord) : (s.putPacket n p l w).shd = s.shd := by
  simp only [State.putPacket]; repeat' split
  all_goals simp
@[simp] theorem State.putPacket_cmt (s : State) (n p : Nat) (l : Option Nat) (w : List DWord) : (s.putPacket n p l w).cmt = s.cmt := by
  simp only [State.putPacket]; repeat' split
  all_goals simp
@[simp] theorem State.putPacket_evq (s : State) (n p : Nat) (l : Option Nat) (w : List DWord) : (s.putPacket n p l w).evq = s.evq := by
  simp only [State.putPacket]; repeat' split
  all_goals simp
@[simp] theorem State.putPacket_mode (s : State) (n p : Nat) (l : Option Nat) (w : List DWord) : (s.putPacket n p l w).mode = s.mode := by
  simp only [State.putPacket]; repeat' split
  all_goals simp
@[simp] theorem State.putPacket_prev (s : State) (n p : Nat) (l : Option Nat) (w : List DWord) : (s.putPacket n p l w).prev = s.prev := by
  simp only [State.putPacket]; repeat' split
  all_goals simp
@[simp] theorem State.putPacket_pwr (s : State) (n p : Nat) (l : Option Nat) (w : List DWord) : (s.putPacket n p l w).pwr = s.pwr := by
  simp only [State.putPacket]; repeat' split
  all_goals simp
@[simp] theorem State.putPacket_hre (s : State) (n p : Nat) (l : Option Nat) (w : List DWord) : (s.putPacket n p l w).hre = s.hre := by
  simp only [State.putPacket]; repeat' split
  all_goals simp
@[simp] theorem State.putPacket_trp (s : State) (n p : Nat) (l : Option Nat) (w : List DWord) : (s.putPacket n p l w).trp = s.trp := by
  simp only [State.putPacket]; repeat' split
  all_goals simp
@[simp] theorem State.putPacket_tim (s : State) (n p : Nat) (l : Option Nat) (w : List DWord) : (s.putPacket n p l w).tim = s.tim := by
  simp only [State.putPacket]; repeat' split
  all_goals simp
@[simp] theorem State.putPacket_mem (s : State) (n p : Nat) (l : Option Nat) (w : List DWord) : (s.putPacket n p l w).mem = s.mem := by
  simp only [State.putPacket]; repeat' split
  all_goals simp
@[simp] theorem State.putPacket_ticks (s : State) (n p : Nat) (l : Option Nat) (w : List DWord) : (s.putPacket n p l w).ticks = s.ticks := by
  simp only [State.putPacket]; repeat' split
  all_goals simp
@[simp] theorem State.putPacket_hst (s : State) (n p : Nat) (l : Option Nat) (w : List DWord) : (s.putPacket n p l w).hst = s.hst := by
  simp only [State.putPacket]; repeat' split
  all_goals simp
@[simp] theorem State.putPacket_board (s : State) (n p : Nat) (l : Option Nat) (w : List DWord) : (s.putPacket n p l w).board = s.board := by
  simp only [State.putPacket]; repeat' split
  all_goals simp
@[simp] theorem State.putPacket_dsp (s : State) (n p : Nat) (l : Option Nat) (w : List DWord) : (s.putPacket n p l w).dsp = s.dsp := by
  simp only [State.putPacket]; repeat' split
  all_goals simp
@[simp] theorem State.putPacket_epo (s : State) (n p : Nat) (l : Option Nat) (w : List DWord) : (s.putPacket n p l w).epo = s.epo := by
  simp only [State.putPacket]; repeat' split
  all_goals simp
@[simp] theorem State.putPacket_ldr (s : State) (n p : Nat) (l : Option Nat) (w : List DWord) : (s.putPacket n p l w).ldr = s.ldr := by
  simp only [State.putPacket]; repeat' split
  all_goals simp
@[simp] theorem State.putPacket_trk (s : State) (n p : Nat) (l : Option Nat) (w : List DWord) : (s.putPacket n p l w).trk = s.trk := by
  simp only [State.putPacket]; repeat' split
  all_goals simp
@[simp] theorem State.putPacket_gov (s : State) (n p : Nat) (l : Option Nat) (w : List DWord) : (s.putPacket n p l w).gov = s.gov := by
  simp only [State.putPacket]; repeat' split
  all_goals simp
@[simp] theorem State.putPacket_zyp (s : State) (n p : Nat) (l : Option Nat) (w : List DWord) : (s.putPacket n p l w).zyp = s.zyp := by
  simp only [State.putPacket]; repeat' split
  all_goals simp
@[simp] theorem State.putPacket_vlt (s : State) (n p : Nat) (l : Option Nat) (w : List DWord) : (s.putPacket n p l w).vlt = s.vlt := by
  simp only [State.putPacket]; repeat' split
  all_goals simp
@[simp] theorem State.putPacket_rng (s : State) (n p : Nat) (l : Option Nat) (w : List DWord) : (s.putPacket n p l w).rng = s.rng := by
  simp only [State.putPacket]; repeat' split
  all_goals simp
@[simp] theorem State.putPacket_cor (s : State) (n p : Nat) (l : Option Nat) (w : List DWord) : (s.putPacket n p l w).cor = s.cor := by
  simp only [State.putPacket]; repeat' split
  all_goals simp
@[simp] theorem State.putPacket_cre (s : State) (n p : Nat) (l : Option Nat) (w : List DWord) : (s.putPacket n p l w).cre = s.cre := by
  simp only [State.putPacket]; repeat' split
  all_goals simp
@[simp] theorem State.putPacket_nvm (s : State) (n p : Nat) (l : Option Nat) (w : List DWord) : (s.putPacket n p l w).nvm = s.nvm := by
  simp only [State.putPacket]; repeat' split
  all_goals simp
@[simp] theorem State.putPacket_twn (s : State) (n p : Nat) (l : Option Nat) (w : List DWord) : (s.putPacket n p l w).twn = s.twn := by
  simp only [State.putPacket]; repeat' split
  all_goals simp
@[simp] theorem State.putPacket_upd (s : State) (n p : Nat) (l : Option Nat) (w : List DWord) : (s.putPacket n p l w).upd = s.upd := by
  simp only [State.putPacket]; repeat' split
  all_goals simp
@[simp] theorem State.putPacket_drm (s : State) (n p : Nat) (l : Option Nat) (w : List DWord) : (s.putPacket n p l w).drm = s.drm := by
  simp only [State.putPacket]; repeat' split
  all_goals simp
@[simp] theorem State.putPacket_tly (s : State) (n p : Nat) (l : Option Nat) (w : List DWord) : (s.putPacket n p l w).tly = s.tly := by
  simp only [State.putPacket]; repeat' split
  all_goals simp

/-! ## What `chuteCount` leaves -/

@[simp] theorem State.chuteCount_pending (s : State) (f : Fld) (n : Nat) : (s.chuteCount f n).pending = s.pending := by
  simp only [State.chuteCount]; repeat' split
  all_goals simp
@[simp] theorem State.chuteCount_ctr (s : State) (f : Fld) (n : Nat) : (s.chuteCount f n).ctr = s.ctr := by
  simp only [State.chuteCount]; repeat' split
  all_goals simp
@[simp] theorem State.chuteCount_shd (s : State) (f : Fld) (n : Nat) : (s.chuteCount f n).shd = s.shd := by
  simp only [State.chuteCount]; repeat' split
  all_goals simp
@[simp] theorem State.chuteCount_cmt (s : State) (f : Fld) (n : Nat) : (s.chuteCount f n).cmt = s.cmt := by
  simp only [State.chuteCount]; repeat' split
  all_goals simp
@[simp] theorem State.chuteCount_mode (s : State) (f : Fld) (n : Nat) : (s.chuteCount f n).mode = s.mode := by
  simp only [State.chuteCount]; repeat' split
  all_goals simp
@[simp] theorem State.chuteCount_prev (s : State) (f : Fld) (n : Nat) : (s.chuteCount f n).prev = s.prev := by
  simp only [State.chuteCount]; repeat' split
  all_goals simp
@[simp] theorem State.chuteCount_pwr (s : State) (f : Fld) (n : Nat) : (s.chuteCount f n).pwr = s.pwr := by
  simp only [State.chuteCount]; repeat' split
  all_goals simp
@[simp] theorem State.chuteCount_chu (s : State) (f : Fld) (n : Nat) : (s.chuteCount f n).chu = s.chu := by
  simp only [State.chuteCount]; repeat' split
  all_goals simp
@[simp] theorem State.chuteCount_trp (s : State) (f : Fld) (n : Nat) : (s.chuteCount f n).trp = s.trp := by
  simp only [State.chuteCount]; repeat' split
  all_goals simp
@[simp] theorem State.chuteCount_tim (s : State) (f : Fld) (n : Nat) : (s.chuteCount f n).tim = s.tim := by
  simp only [State.chuteCount]; repeat' split
  all_goals simp
@[simp] theorem State.chuteCount_mem (s : State) (f : Fld) (n : Nat) : (s.chuteCount f n).mem = s.mem := by
  simp only [State.chuteCount]; repeat' split
  all_goals simp
@[simp] theorem State.chuteCount_ticks (s : State) (f : Fld) (n : Nat) : (s.chuteCount f n).ticks = s.ticks := by
  simp only [State.chuteCount]; repeat' split
  all_goals simp
@[simp] theorem State.chuteCount_hst (s : State) (f : Fld) (n : Nat) : (s.chuteCount f n).hst = s.hst := by
  simp only [State.chuteCount]; repeat' split
  all_goals simp
@[simp] theorem State.chuteCount_board (s : State) (f : Fld) (n : Nat) : (s.chuteCount f n).board = s.board := by
  simp only [State.chuteCount]; repeat' split
  all_goals simp
@[simp] theorem State.chuteCount_dsp (s : State) (f : Fld) (n : Nat) : (s.chuteCount f n).dsp = s.dsp := by
  simp only [State.chuteCount]; repeat' split
  all_goals simp
@[simp] theorem State.chuteCount_epo (s : State) (f : Fld) (n : Nat) : (s.chuteCount f n).epo = s.epo := by
  simp only [State.chuteCount]; repeat' split
  all_goals simp
@[simp] theorem State.chuteCount_ldr (s : State) (f : Fld) (n : Nat) : (s.chuteCount f n).ldr = s.ldr := by
  simp only [State.chuteCount]; repeat' split
  all_goals simp
@[simp] theorem State.chuteCount_trk (s : State) (f : Fld) (n : Nat) : (s.chuteCount f n).trk = s.trk := by
  simp only [State.chuteCount]; repeat' split
  all_goals simp
@[simp] theorem State.chuteCount_gov (s : State) (f : Fld) (n : Nat) : (s.chuteCount f n).gov = s.gov := by
  simp only [State.chuteCount]; repeat' split
  all_goals simp
@[simp] theorem State.chuteCount_zyp (s : State) (f : Fld) (n : Nat) : (s.chuteCount f n).zyp = s.zyp := by
  simp only [State.chuteCount]; repeat' split
  all_goals simp
@[simp] theorem State.chuteCount_vlt (s : State) (f : Fld) (n : Nat) : (s.chuteCount f n).vlt = s.vlt := by
  simp only [State.chuteCount]; repeat' split
  all_goals simp
@[simp] theorem State.chuteCount_rng (s : State) (f : Fld) (n : Nat) : (s.chuteCount f n).rng = s.rng := by
  simp only [State.chuteCount]; repeat' split
  all_goals simp
@[simp] theorem State.chuteCount_cor (s : State) (f : Fld) (n : Nat) : (s.chuteCount f n).cor = s.cor := by
  simp only [State.chuteCount]; repeat' split
  all_goals simp
@[simp] theorem State.chuteCount_cre (s : State) (f : Fld) (n : Nat) : (s.chuteCount f n).cre = s.cre := by
  simp only [State.chuteCount]; repeat' split
  all_goals simp
@[simp] theorem State.chuteCount_nvm (s : State) (f : Fld) (n : Nat) : (s.chuteCount f n).nvm = s.nvm := by
  simp only [State.chuteCount]; repeat' split
  all_goals simp
@[simp] theorem State.chuteCount_twn (s : State) (f : Fld) (n : Nat) : (s.chuteCount f n).twn = s.twn := by
  simp only [State.chuteCount]; repeat' split
  all_goals simp
@[simp] theorem State.chuteCount_upd (s : State) (f : Fld) (n : Nat) : (s.chuteCount f n).upd = s.upd := by
  simp only [State.chuteCount]; repeat' split
  all_goals simp
@[simp] theorem State.chuteCount_drm (s : State) (f : Fld) (n : Nat) : (s.chuteCount f n).drm = s.drm := by
  simp only [State.chuteCount]; repeat' split
  all_goals simp
@[simp] theorem State.chuteCount_tly (s : State) (f : Fld) (n : Nat) : (s.chuteCount f n).tly = s.tly := by
  simp only [State.chuteCount]; repeat' split
  all_goals simp

/-! ## What `chuteStatus` leaves -/

@[simp] theorem State.chuteStatus_pending (s : State) (n v : Nat) : (s.chuteStatus n v).pending = s.pending := by
  simp only [State.chuteStatus]; repeat' split
  all_goals simp
@[simp] theorem State.chuteStatus_ctr (s : State) (n v : Nat) : (s.chuteStatus n v).ctr = s.ctr := by
  simp only [State.chuteStatus]; repeat' split
  all_goals simp
@[simp] theorem State.chuteStatus_fld (s : State) (n v : Nat) : (s.chuteStatus n v).fld = s.fld := by
  simp only [State.chuteStatus]; repeat' split
  all_goals simp
@[simp] theorem State.chuteStatus_shd (s : State) (n v : Nat) : (s.chuteStatus n v).shd = s.shd := by
  simp only [State.chuteStatus]; repeat' split
  all_goals simp
@[simp] theorem State.chuteStatus_cmt (s : State) (n v : Nat) : (s.chuteStatus n v).cmt = s.cmt := by
  simp only [State.chuteStatus]; repeat' split
  all_goals simp
@[simp] theorem State.chuteStatus_evq (s : State) (n v : Nat) : (s.chuteStatus n v).evq = s.evq := by
  simp only [State.chuteStatus]; repeat' split
  all_goals simp
@[simp] theorem State.chuteStatus_mode (s : State) (n v : Nat) : (s.chuteStatus n v).mode = s.mode := by
  simp only [State.chuteStatus]; repeat' split
  all_goals simp
@[simp] theorem State.chuteStatus_prev (s : State) (n v : Nat) : (s.chuteStatus n v).prev = s.prev := by
  simp only [State.chuteStatus]; repeat' split
  all_goals simp
@[simp] theorem State.chuteStatus_pwr (s : State) (n v : Nat) : (s.chuteStatus n v).pwr = s.pwr := by
  simp only [State.chuteStatus]; repeat' split
  all_goals simp
@[simp] theorem State.chuteStatus_hre (s : State) (n v : Nat) : (s.chuteStatus n v).hre = s.hre := by
  simp only [State.chuteStatus]; repeat' split
  all_goals simp
@[simp] theorem State.chuteStatus_trp (s : State) (n v : Nat) : (s.chuteStatus n v).trp = s.trp := by
  simp only [State.chuteStatus]; repeat' split
  all_goals simp
@[simp] theorem State.chuteStatus_tim (s : State) (n v : Nat) : (s.chuteStatus n v).tim = s.tim := by
  simp only [State.chuteStatus]; repeat' split
  all_goals simp
@[simp] theorem State.chuteStatus_mem (s : State) (n v : Nat) : (s.chuteStatus n v).mem = s.mem := by
  simp only [State.chuteStatus]; repeat' split
  all_goals simp
@[simp] theorem State.chuteStatus_ticks (s : State) (n v : Nat) : (s.chuteStatus n v).ticks = s.ticks := by
  simp only [State.chuteStatus]; repeat' split
  all_goals simp
@[simp] theorem State.chuteStatus_hst (s : State) (n v : Nat) : (s.chuteStatus n v).hst = s.hst := by
  simp only [State.chuteStatus]; repeat' split
  all_goals simp
@[simp] theorem State.chuteStatus_board (s : State) (n v : Nat) : (s.chuteStatus n v).board = s.board := by
  simp only [State.chuteStatus]; repeat' split
  all_goals simp
@[simp] theorem State.chuteStatus_dsp (s : State) (n v : Nat) : (s.chuteStatus n v).dsp = s.dsp := by
  simp only [State.chuteStatus]; repeat' split
  all_goals simp
@[simp] theorem State.chuteStatus_epo (s : State) (n v : Nat) : (s.chuteStatus n v).epo = s.epo := by
  simp only [State.chuteStatus]; repeat' split
  all_goals simp
@[simp] theorem State.chuteStatus_ldr (s : State) (n v : Nat) : (s.chuteStatus n v).ldr = s.ldr := by
  simp only [State.chuteStatus]; repeat' split
  all_goals simp
@[simp] theorem State.chuteStatus_trk (s : State) (n v : Nat) : (s.chuteStatus n v).trk = s.trk := by
  simp only [State.chuteStatus]; repeat' split
  all_goals simp
@[simp] theorem State.chuteStatus_gov (s : State) (n v : Nat) : (s.chuteStatus n v).gov = s.gov := by
  simp only [State.chuteStatus]; repeat' split
  all_goals simp
@[simp] theorem State.chuteStatus_zyp (s : State) (n v : Nat) : (s.chuteStatus n v).zyp = s.zyp := by
  simp only [State.chuteStatus]; repeat' split
  all_goals simp
@[simp] theorem State.chuteStatus_vlt (s : State) (n v : Nat) : (s.chuteStatus n v).vlt = s.vlt := by
  simp only [State.chuteStatus]; repeat' split
  all_goals simp
@[simp] theorem State.chuteStatus_rng (s : State) (n v : Nat) : (s.chuteStatus n v).rng = s.rng := by
  simp only [State.chuteStatus]; repeat' split
  all_goals simp
@[simp] theorem State.chuteStatus_cor (s : State) (n v : Nat) : (s.chuteStatus n v).cor = s.cor := by
  simp only [State.chuteStatus]; repeat' split
  all_goals simp
@[simp] theorem State.chuteStatus_cre (s : State) (n v : Nat) : (s.chuteStatus n v).cre = s.cre := by
  simp only [State.chuteStatus]; repeat' split
  all_goals simp
@[simp] theorem State.chuteStatus_nvm (s : State) (n v : Nat) : (s.chuteStatus n v).nvm = s.nvm := by
  simp only [State.chuteStatus]; repeat' split
  all_goals simp
@[simp] theorem State.chuteStatus_twn (s : State) (n v : Nat) : (s.chuteStatus n v).twn = s.twn := by
  simp only [State.chuteStatus]; repeat' split
  all_goals simp
@[simp] theorem State.chuteStatus_upd (s : State) (n v : Nat) : (s.chuteStatus n v).upd = s.upd := by
  simp only [State.chuteStatus]; repeat' split
  all_goals simp
@[simp] theorem State.chuteStatus_drm (s : State) (n v : Nat) : (s.chuteStatus n v).drm = s.drm := by
  simp only [State.chuteStatus]; repeat' split
  all_goals simp
@[simp] theorem State.chuteStatus_tly (s : State) (n v : Nat) : (s.chuteStatus n v).tly = s.tly := by
  simp only [State.chuteStatus]; repeat' split
  all_goals simp

/-! ## What `tallyRecord` leaves -/

@[simp] theorem State.tallyRecord_pending (s : State) (k i v c : Nat) (d : List Nat) : (s.tallyRecord k i v c d).pending = s.pending := by
  simp only [State.tallyRecord]; repeat' split
  all_goals simp
@[simp] theorem State.tallyRecord_ctr (s : State) (k i v c : Nat) (d : List Nat) : (s.tallyRecord k i v c d).ctr = s.ctr := by
  simp only [State.tallyRecord]; repeat' split
  all_goals simp
@[simp] theorem State.tallyRecord_shd (s : State) (k i v c : Nat) (d : List Nat) : (s.tallyRecord k i v c d).shd = s.shd := by
  simp only [State.tallyRecord]; repeat' split
  all_goals simp
@[simp] theorem State.tallyRecord_cmt (s : State) (k i v c : Nat) (d : List Nat) : (s.tallyRecord k i v c d).cmt = s.cmt := by
  simp only [State.tallyRecord]; repeat' split
  all_goals simp
@[simp] theorem State.tallyRecord_mode (s : State) (k i v c : Nat) (d : List Nat) : (s.tallyRecord k i v c d).mode = s.mode := by
  simp only [State.tallyRecord]; repeat' split
  all_goals simp
@[simp] theorem State.tallyRecord_prev (s : State) (k i v c : Nat) (d : List Nat) : (s.tallyRecord k i v c d).prev = s.prev := by
  simp only [State.tallyRecord]; repeat' split
  all_goals simp
@[simp] theorem State.tallyRecord_pwr (s : State) (k i v c : Nat) (d : List Nat) : (s.tallyRecord k i v c d).pwr = s.pwr := by
  simp only [State.tallyRecord]; repeat' split
  all_goals simp
@[simp] theorem State.tallyRecord_trp (s : State) (k i v c : Nat) (d : List Nat) : (s.tallyRecord k i v c d).trp = s.trp := by
  simp only [State.tallyRecord]; repeat' split
  all_goals simp
@[simp] theorem State.tallyRecord_tim (s : State) (k i v c : Nat) (d : List Nat) : (s.tallyRecord k i v c d).tim = s.tim := by
  simp only [State.tallyRecord]; repeat' split
  all_goals simp
@[simp] theorem State.tallyRecord_mem (s : State) (k i v c : Nat) (d : List Nat) : (s.tallyRecord k i v c d).mem = s.mem := by
  simp only [State.tallyRecord]; repeat' split
  all_goals simp
@[simp] theorem State.tallyRecord_ticks (s : State) (k i v c : Nat) (d : List Nat) : (s.tallyRecord k i v c d).ticks = s.ticks := by
  simp only [State.tallyRecord]; repeat' split
  all_goals simp
@[simp] theorem State.tallyRecord_hst (s : State) (k i v c : Nat) (d : List Nat) : (s.tallyRecord k i v c d).hst = s.hst := by
  simp only [State.tallyRecord]; repeat' split
  all_goals simp
@[simp] theorem State.tallyRecord_board (s : State) (k i v c : Nat) (d : List Nat) : (s.tallyRecord k i v c d).board = s.board := by
  simp only [State.tallyRecord]; repeat' split
  all_goals simp
@[simp] theorem State.tallyRecord_dsp (s : State) (k i v c : Nat) (d : List Nat) : (s.tallyRecord k i v c d).dsp = s.dsp := by
  simp only [State.tallyRecord]; repeat' split
  all_goals simp
@[simp] theorem State.tallyRecord_epo (s : State) (k i v c : Nat) (d : List Nat) : (s.tallyRecord k i v c d).epo = s.epo := by
  simp only [State.tallyRecord]; repeat' split
  all_goals simp
@[simp] theorem State.tallyRecord_ldr (s : State) (k i v c : Nat) (d : List Nat) : (s.tallyRecord k i v c d).ldr = s.ldr := by
  simp only [State.tallyRecord]; repeat' split
  all_goals simp
@[simp] theorem State.tallyRecord_trk (s : State) (k i v c : Nat) (d : List Nat) : (s.tallyRecord k i v c d).trk = s.trk := by
  simp only [State.tallyRecord]; repeat' split
  all_goals simp
@[simp] theorem State.tallyRecord_gov (s : State) (k i v c : Nat) (d : List Nat) : (s.tallyRecord k i v c d).gov = s.gov := by
  simp only [State.tallyRecord]; repeat' split
  all_goals simp
@[simp] theorem State.tallyRecord_zyp (s : State) (k i v c : Nat) (d : List Nat) : (s.tallyRecord k i v c d).zyp = s.zyp := by
  simp only [State.tallyRecord]; repeat' split
  all_goals simp
@[simp] theorem State.tallyRecord_vlt (s : State) (k i v c : Nat) (d : List Nat) : (s.tallyRecord k i v c d).vlt = s.vlt := by
  simp only [State.tallyRecord]; repeat' split
  all_goals simp
@[simp] theorem State.tallyRecord_rng (s : State) (k i v c : Nat) (d : List Nat) : (s.tallyRecord k i v c d).rng = s.rng := by
  simp only [State.tallyRecord]; repeat' split
  all_goals simp
@[simp] theorem State.tallyRecord_cor (s : State) (k i v c : Nat) (d : List Nat) : (s.tallyRecord k i v c d).cor = s.cor := by
  simp only [State.tallyRecord]; repeat' split
  all_goals simp
@[simp] theorem State.tallyRecord_cre (s : State) (k i v c : Nat) (d : List Nat) : (s.tallyRecord k i v c d).cre = s.cre := by
  simp only [State.tallyRecord]; repeat' split
  all_goals simp
@[simp] theorem State.tallyRecord_nvm (s : State) (k i v c : Nat) (d : List Nat) : (s.tallyRecord k i v c d).nvm = s.nvm := by
  simp only [State.tallyRecord]; repeat' split
  all_goals simp
@[simp] theorem State.tallyRecord_twn (s : State) (k i v c : Nat) (d : List Nat) : (s.tallyRecord k i v c d).twn = s.twn := by
  simp only [State.tallyRecord]; repeat' split
  all_goals simp
@[simp] theorem State.tallyRecord_upd (s : State) (k i v c : Nat) (d : List Nat) : (s.tallyRecord k i v c d).upd = s.upd := by
  simp only [State.tallyRecord]; repeat' split
  all_goals simp
@[simp] theorem State.tallyRecord_drm (s : State) (k i v c : Nat) (d : List Nat) : (s.tallyRecord k i v c d).drm = s.drm := by
  simp only [State.tallyRecord]; repeat' split
  all_goals simp
@[simp] theorem State.tallyRecord_tly (s : State) (k i v c : Nat) (d : List Nat) : (s.tallyRecord k i v c d).tly = s.tly := by
  simp only [State.tallyRecord]; repeat' split
  all_goals simp

/-! ## What `tallyAdd` leaves -/

@[simp] theorem State.tallyAdd_pending (s : State) (h v : Nat) : (s.tallyAdd h v).pending = s.pending := by
  simp only [State.tallyAdd]; repeat' split
  all_goals simp
@[simp] theorem State.tallyAdd_ctr (s : State) (h v : Nat) : (s.tallyAdd h v).ctr = s.ctr := by
  simp only [State.tallyAdd]; repeat' split
  all_goals simp
@[simp] theorem State.tallyAdd_shd (s : State) (h v : Nat) : (s.tallyAdd h v).shd = s.shd := by
  simp only [State.tallyAdd]; repeat' split
  all_goals simp
@[simp] theorem State.tallyAdd_cmt (s : State) (h v : Nat) : (s.tallyAdd h v).cmt = s.cmt := by
  simp only [State.tallyAdd]; repeat' split
  all_goals simp
@[simp] theorem State.tallyAdd_mode (s : State) (h v : Nat) : (s.tallyAdd h v).mode = s.mode := by
  simp only [State.tallyAdd]; repeat' split
  all_goals simp
@[simp] theorem State.tallyAdd_prev (s : State) (h v : Nat) : (s.tallyAdd h v).prev = s.prev := by
  simp only [State.tallyAdd]; repeat' split
  all_goals simp
@[simp] theorem State.tallyAdd_pwr (s : State) (h v : Nat) : (s.tallyAdd h v).pwr = s.pwr := by
  simp only [State.tallyAdd]; repeat' split
  all_goals simp
@[simp] theorem State.tallyAdd_trp (s : State) (h v : Nat) : (s.tallyAdd h v).trp = s.trp := by
  simp only [State.tallyAdd]; repeat' split
  all_goals simp
@[simp] theorem State.tallyAdd_tim (s : State) (h v : Nat) : (s.tallyAdd h v).tim = s.tim := by
  simp only [State.tallyAdd]; repeat' split
  all_goals simp
@[simp] theorem State.tallyAdd_mem (s : State) (h v : Nat) : (s.tallyAdd h v).mem = s.mem := by
  simp only [State.tallyAdd]; repeat' split
  all_goals simp
@[simp] theorem State.tallyAdd_ticks (s : State) (h v : Nat) : (s.tallyAdd h v).ticks = s.ticks := by
  simp only [State.tallyAdd]; repeat' split
  all_goals simp
@[simp] theorem State.tallyAdd_hst (s : State) (h v : Nat) : (s.tallyAdd h v).hst = s.hst := by
  simp only [State.tallyAdd]; repeat' split
  all_goals simp
@[simp] theorem State.tallyAdd_board (s : State) (h v : Nat) : (s.tallyAdd h v).board = s.board := by
  simp only [State.tallyAdd]; repeat' split
  all_goals simp
@[simp] theorem State.tallyAdd_dsp (s : State) (h v : Nat) : (s.tallyAdd h v).dsp = s.dsp := by
  simp only [State.tallyAdd]; repeat' split
  all_goals simp
@[simp] theorem State.tallyAdd_epo (s : State) (h v : Nat) : (s.tallyAdd h v).epo = s.epo := by
  simp only [State.tallyAdd]; repeat' split
  all_goals simp
@[simp] theorem State.tallyAdd_ldr (s : State) (h v : Nat) : (s.tallyAdd h v).ldr = s.ldr := by
  simp only [State.tallyAdd]; repeat' split
  all_goals simp
@[simp] theorem State.tallyAdd_trk (s : State) (h v : Nat) : (s.tallyAdd h v).trk = s.trk := by
  simp only [State.tallyAdd]; repeat' split
  all_goals simp
@[simp] theorem State.tallyAdd_gov (s : State) (h v : Nat) : (s.tallyAdd h v).gov = s.gov := by
  simp only [State.tallyAdd]; repeat' split
  all_goals simp
@[simp] theorem State.tallyAdd_zyp (s : State) (h v : Nat) : (s.tallyAdd h v).zyp = s.zyp := by
  simp only [State.tallyAdd]; repeat' split
  all_goals simp
@[simp] theorem State.tallyAdd_vlt (s : State) (h v : Nat) : (s.tallyAdd h v).vlt = s.vlt := by
  simp only [State.tallyAdd]; repeat' split
  all_goals simp
@[simp] theorem State.tallyAdd_rng (s : State) (h v : Nat) : (s.tallyAdd h v).rng = s.rng := by
  simp only [State.tallyAdd]; repeat' split
  all_goals simp
@[simp] theorem State.tallyAdd_cor (s : State) (h v : Nat) : (s.tallyAdd h v).cor = s.cor := by
  simp only [State.tallyAdd]; repeat' split
  all_goals simp
@[simp] theorem State.tallyAdd_cre (s : State) (h v : Nat) : (s.tallyAdd h v).cre = s.cre := by
  simp only [State.tallyAdd]; repeat' split
  all_goals simp
@[simp] theorem State.tallyAdd_nvm (s : State) (h v : Nat) : (s.tallyAdd h v).nvm = s.nvm := by
  simp only [State.tallyAdd]; repeat' split
  all_goals simp
@[simp] theorem State.tallyAdd_twn (s : State) (h v : Nat) : (s.tallyAdd h v).twn = s.twn := by
  simp only [State.tallyAdd]; repeat' split
  all_goals simp
@[simp] theorem State.tallyAdd_upd (s : State) (h v : Nat) : (s.tallyAdd h v).upd = s.upd := by
  simp only [State.tallyAdd]; repeat' split
  all_goals simp
@[simp] theorem State.tallyAdd_drm (s : State) (h v : Nat) : (s.tallyAdd h v).drm = s.drm := by
  simp only [State.tallyAdd]; repeat' split
  all_goals simp
@[simp] theorem State.tallyAdd_tly (s : State) (h v : Nat) : (s.tallyAdd h v).tly = s.tly := by
  simp only [State.tallyAdd]; repeat' split
  all_goals simp

/-! ## What `tallyOffer` leaves -/

@[simp] theorem State.tallyOffer_pending (s : State) (x v : Nat) : (s.tallyOffer x v).pending = s.pending := by
  simp only [State.tallyOffer]; repeat' split
  all_goals simp
@[simp] theorem State.tallyOffer_ctr (s : State) (x v : Nat) : (s.tallyOffer x v).ctr = s.ctr := by
  simp only [State.tallyOffer]; repeat' split
  all_goals simp
@[simp] theorem State.tallyOffer_shd (s : State) (x v : Nat) : (s.tallyOffer x v).shd = s.shd := by
  simp only [State.tallyOffer]; repeat' split
  all_goals simp
@[simp] theorem State.tallyOffer_cmt (s : State) (x v : Nat) : (s.tallyOffer x v).cmt = s.cmt := by
  simp only [State.tallyOffer]; repeat' split
  all_goals simp
@[simp] theorem State.tallyOffer_mode (s : State) (x v : Nat) : (s.tallyOffer x v).mode = s.mode := by
  simp only [State.tallyOffer]; repeat' split
  all_goals simp
@[simp] theorem State.tallyOffer_prev (s : State) (x v : Nat) : (s.tallyOffer x v).prev = s.prev := by
  simp only [State.tallyOffer]; repeat' split
  all_goals simp
@[simp] theorem State.tallyOffer_pwr (s : State) (x v : Nat) : (s.tallyOffer x v).pwr = s.pwr := by
  simp only [State.tallyOffer]; repeat' split
  all_goals simp
@[simp] theorem State.tallyOffer_trp (s : State) (x v : Nat) : (s.tallyOffer x v).trp = s.trp := by
  simp only [State.tallyOffer]; repeat' split
  all_goals simp
@[simp] theorem State.tallyOffer_tim (s : State) (x v : Nat) : (s.tallyOffer x v).tim = s.tim := by
  simp only [State.tallyOffer]; repeat' split
  all_goals simp
@[simp] theorem State.tallyOffer_mem (s : State) (x v : Nat) : (s.tallyOffer x v).mem = s.mem := by
  simp only [State.tallyOffer]; repeat' split
  all_goals simp
@[simp] theorem State.tallyOffer_ticks (s : State) (x v : Nat) : (s.tallyOffer x v).ticks = s.ticks := by
  simp only [State.tallyOffer]; repeat' split
  all_goals simp
@[simp] theorem State.tallyOffer_hst (s : State) (x v : Nat) : (s.tallyOffer x v).hst = s.hst := by
  simp only [State.tallyOffer]; repeat' split
  all_goals simp
@[simp] theorem State.tallyOffer_board (s : State) (x v : Nat) : (s.tallyOffer x v).board = s.board := by
  simp only [State.tallyOffer]; repeat' split
  all_goals simp
@[simp] theorem State.tallyOffer_dsp (s : State) (x v : Nat) : (s.tallyOffer x v).dsp = s.dsp := by
  simp only [State.tallyOffer]; repeat' split
  all_goals simp
@[simp] theorem State.tallyOffer_epo (s : State) (x v : Nat) : (s.tallyOffer x v).epo = s.epo := by
  simp only [State.tallyOffer]; repeat' split
  all_goals simp
@[simp] theorem State.tallyOffer_ldr (s : State) (x v : Nat) : (s.tallyOffer x v).ldr = s.ldr := by
  simp only [State.tallyOffer]; repeat' split
  all_goals simp
@[simp] theorem State.tallyOffer_trk (s : State) (x v : Nat) : (s.tallyOffer x v).trk = s.trk := by
  simp only [State.tallyOffer]; repeat' split
  all_goals simp
@[simp] theorem State.tallyOffer_gov (s : State) (x v : Nat) : (s.tallyOffer x v).gov = s.gov := by
  simp only [State.tallyOffer]; repeat' split
  all_goals simp
@[simp] theorem State.tallyOffer_zyp (s : State) (x v : Nat) : (s.tallyOffer x v).zyp = s.zyp := by
  simp only [State.tallyOffer]; repeat' split
  all_goals simp
@[simp] theorem State.tallyOffer_vlt (s : State) (x v : Nat) : (s.tallyOffer x v).vlt = s.vlt := by
  simp only [State.tallyOffer]; repeat' split
  all_goals simp
@[simp] theorem State.tallyOffer_rng (s : State) (x v : Nat) : (s.tallyOffer x v).rng = s.rng := by
  simp only [State.tallyOffer]; repeat' split
  all_goals simp
@[simp] theorem State.tallyOffer_cor (s : State) (x v : Nat) : (s.tallyOffer x v).cor = s.cor := by
  simp only [State.tallyOffer]; repeat' split
  all_goals simp
@[simp] theorem State.tallyOffer_cre (s : State) (x v : Nat) : (s.tallyOffer x v).cre = s.cre := by
  simp only [State.tallyOffer]; repeat' split
  all_goals simp
@[simp] theorem State.tallyOffer_nvm (s : State) (x v : Nat) : (s.tallyOffer x v).nvm = s.nvm := by
  simp only [State.tallyOffer]; repeat' split
  all_goals simp
@[simp] theorem State.tallyOffer_twn (s : State) (x v : Nat) : (s.tallyOffer x v).twn = s.twn := by
  simp only [State.tallyOffer]; repeat' split
  all_goals simp
@[simp] theorem State.tallyOffer_upd (s : State) (x v : Nat) : (s.tallyOffer x v).upd = s.upd := by
  simp only [State.tallyOffer]; repeat' split
  all_goals simp
@[simp] theorem State.tallyOffer_drm (s : State) (x v : Nat) : (s.tallyOffer x v).drm = s.drm := by
  simp only [State.tallyOffer]; repeat' split
  all_goals simp
@[simp] theorem State.tallyOffer_tly (s : State) (x v : Nat) : (s.tallyOffer x v).tly = s.tly := by
  simp only [State.tallyOffer]; repeat' split
  all_goals simp

/-! ## What `saturate` leaves -/

@[simp] theorem State.saturate_pending (s : State) (f : Fld) (i : Nat) : (s.saturate f i).pending = s.pending := by
  simp only [State.saturate]; repeat' split
  all_goals simp
@[simp] theorem State.saturate_ctr (s : State) (f : Fld) (i : Nat) : (s.saturate f i).ctr = s.ctr := by
  simp only [State.saturate]; repeat' split
  all_goals simp
@[simp] theorem State.saturate_shd (s : State) (f : Fld) (i : Nat) : (s.saturate f i).shd = s.shd := by
  simp only [State.saturate]; repeat' split
  all_goals simp
@[simp] theorem State.saturate_cmt (s : State) (f : Fld) (i : Nat) : (s.saturate f i).cmt = s.cmt := by
  simp only [State.saturate]; repeat' split
  all_goals simp
@[simp] theorem State.saturate_mode (s : State) (f : Fld) (i : Nat) : (s.saturate f i).mode = s.mode := by
  simp only [State.saturate]; repeat' split
  all_goals simp
@[simp] theorem State.saturate_prev (s : State) (f : Fld) (i : Nat) : (s.saturate f i).prev = s.prev := by
  simp only [State.saturate]; repeat' split
  all_goals simp
@[simp] theorem State.saturate_pwr (s : State) (f : Fld) (i : Nat) : (s.saturate f i).pwr = s.pwr := by
  simp only [State.saturate]; repeat' split
  all_goals simp
@[simp] theorem State.saturate_trp (s : State) (f : Fld) (i : Nat) : (s.saturate f i).trp = s.trp := by
  simp only [State.saturate]; repeat' split
  all_goals simp
@[simp] theorem State.saturate_tim (s : State) (f : Fld) (i : Nat) : (s.saturate f i).tim = s.tim := by
  simp only [State.saturate]; repeat' split
  all_goals simp
@[simp] theorem State.saturate_mem (s : State) (f : Fld) (i : Nat) : (s.saturate f i).mem = s.mem := by
  simp only [State.saturate]; repeat' split
  all_goals simp
@[simp] theorem State.saturate_ticks (s : State) (f : Fld) (i : Nat) : (s.saturate f i).ticks = s.ticks := by
  simp only [State.saturate]; repeat' split
  all_goals simp
@[simp] theorem State.saturate_hst (s : State) (f : Fld) (i : Nat) : (s.saturate f i).hst = s.hst := by
  simp only [State.saturate]; repeat' split
  all_goals simp
@[simp] theorem State.saturate_board (s : State) (f : Fld) (i : Nat) : (s.saturate f i).board = s.board := by
  simp only [State.saturate]; repeat' split
  all_goals simp
@[simp] theorem State.saturate_dsp (s : State) (f : Fld) (i : Nat) : (s.saturate f i).dsp = s.dsp := by
  simp only [State.saturate]; repeat' split
  all_goals simp
@[simp] theorem State.saturate_epo (s : State) (f : Fld) (i : Nat) : (s.saturate f i).epo = s.epo := by
  simp only [State.saturate]; repeat' split
  all_goals simp
@[simp] theorem State.saturate_ldr (s : State) (f : Fld) (i : Nat) : (s.saturate f i).ldr = s.ldr := by
  simp only [State.saturate]; repeat' split
  all_goals simp
@[simp] theorem State.saturate_trk (s : State) (f : Fld) (i : Nat) : (s.saturate f i).trk = s.trk := by
  simp only [State.saturate]; repeat' split
  all_goals simp
@[simp] theorem State.saturate_gov (s : State) (f : Fld) (i : Nat) : (s.saturate f i).gov = s.gov := by
  simp only [State.saturate]; repeat' split
  all_goals simp
@[simp] theorem State.saturate_zyp (s : State) (f : Fld) (i : Nat) : (s.saturate f i).zyp = s.zyp := by
  simp only [State.saturate]; repeat' split
  all_goals simp
@[simp] theorem State.saturate_vlt (s : State) (f : Fld) (i : Nat) : (s.saturate f i).vlt = s.vlt := by
  simp only [State.saturate]; repeat' split
  all_goals simp
@[simp] theorem State.saturate_rng (s : State) (f : Fld) (i : Nat) : (s.saturate f i).rng = s.rng := by
  simp only [State.saturate]; repeat' split
  all_goals simp
@[simp] theorem State.saturate_cor (s : State) (f : Fld) (i : Nat) : (s.saturate f i).cor = s.cor := by
  simp only [State.saturate]; repeat' split
  all_goals simp
@[simp] theorem State.saturate_cre (s : State) (f : Fld) (i : Nat) : (s.saturate f i).cre = s.cre := by
  simp only [State.saturate]; repeat' split
  all_goals simp
@[simp] theorem State.saturate_nvm (s : State) (f : Fld) (i : Nat) : (s.saturate f i).nvm = s.nvm := by
  simp only [State.saturate]; repeat' split
  all_goals simp
@[simp] theorem State.saturate_twn (s : State) (f : Fld) (i : Nat) : (s.saturate f i).twn = s.twn := by
  simp only [State.saturate]; repeat' split
  all_goals simp
@[simp] theorem State.saturate_upd (s : State) (f : Fld) (i : Nat) : (s.saturate f i).upd = s.upd := by
  simp only [State.saturate]; repeat' split
  all_goals simp
@[simp] theorem State.saturate_drm (s : State) (f : Fld) (i : Nat) : (s.saturate f i).drm = s.drm := by
  simp only [State.saturate]; repeat' split
  all_goals simp
@[simp] theorem State.saturate_tly (s : State) (f : Fld) (i : Nat) : (s.saturate f i).tly = s.tly := by
  simp only [State.saturate]; repeat' split
  all_goals simp

/-! ## What `bumpBy` leaves -/

@[simp] theorem State.bumpBy_pending (s : State) (f g : Fld) (k : Nat) : (s.bumpBy f g k).pending = s.pending := by
  simp only [State.bumpBy]; repeat' split
  all_goals simp
@[simp] theorem State.bumpBy_ctr (s : State) (f g : Fld) (k : Nat) : (s.bumpBy f g k).ctr = s.ctr := by
  simp only [State.bumpBy]; repeat' split
  all_goals simp
@[simp] theorem State.bumpBy_shd (s : State) (f g : Fld) (k : Nat) : (s.bumpBy f g k).shd = s.shd := by
  simp only [State.bumpBy]; repeat' split
  all_goals simp
@[simp] theorem State.bumpBy_cmt (s : State) (f g : Fld) (k : Nat) : (s.bumpBy f g k).cmt = s.cmt := by
  simp only [State.bumpBy]; repeat' split
  all_goals simp
@[simp] theorem State.bumpBy_mode (s : State) (f g : Fld) (k : Nat) : (s.bumpBy f g k).mode = s.mode := by
  simp only [State.bumpBy]; repeat' split
  all_goals simp
@[simp] theorem State.bumpBy_prev (s : State) (f g : Fld) (k : Nat) : (s.bumpBy f g k).prev = s.prev := by
  simp only [State.bumpBy]; repeat' split
  all_goals simp
@[simp] theorem State.bumpBy_pwr (s : State) (f g : Fld) (k : Nat) : (s.bumpBy f g k).pwr = s.pwr := by
  simp only [State.bumpBy]; repeat' split
  all_goals simp
@[simp] theorem State.bumpBy_trp (s : State) (f g : Fld) (k : Nat) : (s.bumpBy f g k).trp = s.trp := by
  simp only [State.bumpBy]; repeat' split
  all_goals simp
@[simp] theorem State.bumpBy_tim (s : State) (f g : Fld) (k : Nat) : (s.bumpBy f g k).tim = s.tim := by
  simp only [State.bumpBy]; repeat' split
  all_goals simp
@[simp] theorem State.bumpBy_mem (s : State) (f g : Fld) (k : Nat) : (s.bumpBy f g k).mem = s.mem := by
  simp only [State.bumpBy]; repeat' split
  all_goals simp
@[simp] theorem State.bumpBy_ticks (s : State) (f g : Fld) (k : Nat) : (s.bumpBy f g k).ticks = s.ticks := by
  simp only [State.bumpBy]; repeat' split
  all_goals simp
@[simp] theorem State.bumpBy_hst (s : State) (f g : Fld) (k : Nat) : (s.bumpBy f g k).hst = s.hst := by
  simp only [State.bumpBy]; repeat' split
  all_goals simp
@[simp] theorem State.bumpBy_board (s : State) (f g : Fld) (k : Nat) : (s.bumpBy f g k).board = s.board := by
  simp only [State.bumpBy]; repeat' split
  all_goals simp
@[simp] theorem State.bumpBy_dsp (s : State) (f g : Fld) (k : Nat) : (s.bumpBy f g k).dsp = s.dsp := by
  simp only [State.bumpBy]; repeat' split
  all_goals simp
@[simp] theorem State.bumpBy_epo (s : State) (f g : Fld) (k : Nat) : (s.bumpBy f g k).epo = s.epo := by
  simp only [State.bumpBy]; repeat' split
  all_goals simp
@[simp] theorem State.bumpBy_ldr (s : State) (f g : Fld) (k : Nat) : (s.bumpBy f g k).ldr = s.ldr := by
  simp only [State.bumpBy]; repeat' split
  all_goals simp
@[simp] theorem State.bumpBy_trk (s : State) (f g : Fld) (k : Nat) : (s.bumpBy f g k).trk = s.trk := by
  simp only [State.bumpBy]; repeat' split
  all_goals simp
@[simp] theorem State.bumpBy_gov (s : State) (f g : Fld) (k : Nat) : (s.bumpBy f g k).gov = s.gov := by
  simp only [State.bumpBy]; repeat' split
  all_goals simp
@[simp] theorem State.bumpBy_zyp (s : State) (f g : Fld) (k : Nat) : (s.bumpBy f g k).zyp = s.zyp := by
  simp only [State.bumpBy]; repeat' split
  all_goals simp
@[simp] theorem State.bumpBy_vlt (s : State) (f g : Fld) (k : Nat) : (s.bumpBy f g k).vlt = s.vlt := by
  simp only [State.bumpBy]; repeat' split
  all_goals simp
@[simp] theorem State.bumpBy_rng (s : State) (f g : Fld) (k : Nat) : (s.bumpBy f g k).rng = s.rng := by
  simp only [State.bumpBy]; repeat' split
  all_goals simp
@[simp] theorem State.bumpBy_cor (s : State) (f g : Fld) (k : Nat) : (s.bumpBy f g k).cor = s.cor := by
  simp only [State.bumpBy]; repeat' split
  all_goals simp
@[simp] theorem State.bumpBy_cre (s : State) (f g : Fld) (k : Nat) : (s.bumpBy f g k).cre = s.cre := by
  simp only [State.bumpBy]; repeat' split
  all_goals simp
@[simp] theorem State.bumpBy_nvm (s : State) (f g : Fld) (k : Nat) : (s.bumpBy f g k).nvm = s.nvm := by
  simp only [State.bumpBy]; repeat' split
  all_goals simp
@[simp] theorem State.bumpBy_twn (s : State) (f g : Fld) (k : Nat) : (s.bumpBy f g k).twn = s.twn := by
  simp only [State.bumpBy]; repeat' split
  all_goals simp
@[simp] theorem State.bumpBy_upd (s : State) (f g : Fld) (k : Nat) : (s.bumpBy f g k).upd = s.upd := by
  simp only [State.bumpBy]; repeat' split
  all_goals simp
@[simp] theorem State.bumpBy_drm (s : State) (f g : Fld) (k : Nat) : (s.bumpBy f g k).drm = s.drm := by
  simp only [State.bumpBy]; repeat' split
  all_goals simp
@[simp] theorem State.bumpBy_tly (s : State) (f g : Fld) (k : Nat) : (s.bumpBy f g k).tly = s.tly := by
  simp only [State.bumpBy]; repeat' split
  all_goals simp

/-! ## What `bump` leaves -/

@[simp] theorem State.bump_pending (s : State) (f g : Fld) : (s.bump f g).pending = s.pending := by
  simp only [State.bump]; repeat' split
  all_goals simp
@[simp] theorem State.bump_ctr (s : State) (f g : Fld) : (s.bump f g).ctr = s.ctr := by
  simp only [State.bump]; repeat' split
  all_goals simp
@[simp] theorem State.bump_shd (s : State) (f g : Fld) : (s.bump f g).shd = s.shd := by
  simp only [State.bump]; repeat' split
  all_goals simp
@[simp] theorem State.bump_cmt (s : State) (f g : Fld) : (s.bump f g).cmt = s.cmt := by
  simp only [State.bump]; repeat' split
  all_goals simp
@[simp] theorem State.bump_mode (s : State) (f g : Fld) : (s.bump f g).mode = s.mode := by
  simp only [State.bump]; repeat' split
  all_goals simp
@[simp] theorem State.bump_prev (s : State) (f g : Fld) : (s.bump f g).prev = s.prev := by
  simp only [State.bump]; repeat' split
  all_goals simp
@[simp] theorem State.bump_pwr (s : State) (f g : Fld) : (s.bump f g).pwr = s.pwr := by
  simp only [State.bump]; repeat' split
  all_goals simp
@[simp] theorem State.bump_trp (s : State) (f g : Fld) : (s.bump f g).trp = s.trp := by
  simp only [State.bump]; repeat' split
  all_goals simp
@[simp] theorem State.bump_tim (s : State) (f g : Fld) : (s.bump f g).tim = s.tim := by
  simp only [State.bump]; repeat' split
  all_goals simp
@[simp] theorem State.bump_mem (s : State) (f g : Fld) : (s.bump f g).mem = s.mem := by
  simp only [State.bump]; repeat' split
  all_goals simp
@[simp] theorem State.bump_ticks (s : State) (f g : Fld) : (s.bump f g).ticks = s.ticks := by
  simp only [State.bump]; repeat' split
  all_goals simp
@[simp] theorem State.bump_hst (s : State) (f g : Fld) : (s.bump f g).hst = s.hst := by
  simp only [State.bump]; repeat' split
  all_goals simp
@[simp] theorem State.bump_board (s : State) (f g : Fld) : (s.bump f g).board = s.board := by
  simp only [State.bump]; repeat' split
  all_goals simp
@[simp] theorem State.bump_dsp (s : State) (f g : Fld) : (s.bump f g).dsp = s.dsp := by
  simp only [State.bump]; repeat' split
  all_goals simp
@[simp] theorem State.bump_epo (s : State) (f g : Fld) : (s.bump f g).epo = s.epo := by
  simp only [State.bump]; repeat' split
  all_goals simp
@[simp] theorem State.bump_ldr (s : State) (f g : Fld) : (s.bump f g).ldr = s.ldr := by
  simp only [State.bump]; repeat' split
  all_goals simp
@[simp] theorem State.bump_trk (s : State) (f g : Fld) : (s.bump f g).trk = s.trk := by
  simp only [State.bump]; repeat' split
  all_goals simp
@[simp] theorem State.bump_gov (s : State) (f g : Fld) : (s.bump f g).gov = s.gov := by
  simp only [State.bump]; repeat' split
  all_goals simp
@[simp] theorem State.bump_zyp (s : State) (f g : Fld) : (s.bump f g).zyp = s.zyp := by
  simp only [State.bump]; repeat' split
  all_goals simp
@[simp] theorem State.bump_vlt (s : State) (f g : Fld) : (s.bump f g).vlt = s.vlt := by
  simp only [State.bump]; repeat' split
  all_goals simp
@[simp] theorem State.bump_rng (s : State) (f g : Fld) : (s.bump f g).rng = s.rng := by
  simp only [State.bump]; repeat' split
  all_goals simp
@[simp] theorem State.bump_cor (s : State) (f g : Fld) : (s.bump f g).cor = s.cor := by
  simp only [State.bump]; repeat' split
  all_goals simp
@[simp] theorem State.bump_cre (s : State) (f g : Fld) : (s.bump f g).cre = s.cre := by
  simp only [State.bump]; repeat' split
  all_goals simp
@[simp] theorem State.bump_nvm (s : State) (f g : Fld) : (s.bump f g).nvm = s.nvm := by
  simp only [State.bump]; repeat' split
  all_goals simp
@[simp] theorem State.bump_twn (s : State) (f g : Fld) : (s.bump f g).twn = s.twn := by
  simp only [State.bump]; repeat' split
  all_goals simp
@[simp] theorem State.bump_upd (s : State) (f g : Fld) : (s.bump f g).upd = s.upd := by
  simp only [State.bump]; repeat' split
  all_goals simp
@[simp] theorem State.bump_drm (s : State) (f g : Fld) : (s.bump f g).drm = s.drm := by
  simp only [State.bump]; repeat' split
  all_goals simp
@[simp] theorem State.bump_tly (s : State) (f g : Fld) : (s.bump f g).tly = s.tly := by
  simp only [State.bump]; repeat' split
  all_goals simp

/-! ## What `wrapBy` leaves -/

@[simp] theorem State.wrapBy_pending (s : State) (f : Fld) (k : Nat) : (s.wrapBy f k).pending = s.pending := by
  simp only [State.wrapBy]; repeat' split
  all_goals simp
@[simp] theorem State.wrapBy_ctr (s : State) (f : Fld) (k : Nat) : (s.wrapBy f k).ctr = s.ctr := by
  simp only [State.wrapBy]; repeat' split
  all_goals simp
@[simp] theorem State.wrapBy_shd (s : State) (f : Fld) (k : Nat) : (s.wrapBy f k).shd = s.shd := by
  simp only [State.wrapBy]; repeat' split
  all_goals simp
@[simp] theorem State.wrapBy_cmt (s : State) (f : Fld) (k : Nat) : (s.wrapBy f k).cmt = s.cmt := by
  simp only [State.wrapBy]; repeat' split
  all_goals simp
@[simp] theorem State.wrapBy_evq (s : State) (f : Fld) (k : Nat) : (s.wrapBy f k).evq = s.evq := by
  simp only [State.wrapBy]; repeat' split
  all_goals simp
@[simp] theorem State.wrapBy_mode (s : State) (f : Fld) (k : Nat) : (s.wrapBy f k).mode = s.mode := by
  simp only [State.wrapBy]; repeat' split
  all_goals simp
@[simp] theorem State.wrapBy_prev (s : State) (f : Fld) (k : Nat) : (s.wrapBy f k).prev = s.prev := by
  simp only [State.wrapBy]; repeat' split
  all_goals simp
@[simp] theorem State.wrapBy_pwr (s : State) (f : Fld) (k : Nat) : (s.wrapBy f k).pwr = s.pwr := by
  simp only [State.wrapBy]; repeat' split
  all_goals simp
@[simp] theorem State.wrapBy_hre (s : State) (f : Fld) (k : Nat) : (s.wrapBy f k).hre = s.hre := by
  simp only [State.wrapBy]; repeat' split
  all_goals simp
@[simp] theorem State.wrapBy_chu (s : State) (f : Fld) (k : Nat) : (s.wrapBy f k).chu = s.chu := by
  simp only [State.wrapBy]; repeat' split
  all_goals simp
@[simp] theorem State.wrapBy_trp (s : State) (f : Fld) (k : Nat) : (s.wrapBy f k).trp = s.trp := by
  simp only [State.wrapBy]; repeat' split
  all_goals simp
@[simp] theorem State.wrapBy_tim (s : State) (f : Fld) (k : Nat) : (s.wrapBy f k).tim = s.tim := by
  simp only [State.wrapBy]; repeat' split
  all_goals simp
@[simp] theorem State.wrapBy_mem (s : State) (f : Fld) (k : Nat) : (s.wrapBy f k).mem = s.mem := by
  simp only [State.wrapBy]; repeat' split
  all_goals simp
@[simp] theorem State.wrapBy_ticks (s : State) (f : Fld) (k : Nat) : (s.wrapBy f k).ticks = s.ticks := by
  simp only [State.wrapBy]; repeat' split
  all_goals simp
@[simp] theorem State.wrapBy_hst (s : State) (f : Fld) (k : Nat) : (s.wrapBy f k).hst = s.hst := by
  simp only [State.wrapBy]; repeat' split
  all_goals simp
@[simp] theorem State.wrapBy_board (s : State) (f : Fld) (k : Nat) : (s.wrapBy f k).board = s.board := by
  simp only [State.wrapBy]; repeat' split
  all_goals simp
@[simp] theorem State.wrapBy_dsp (s : State) (f : Fld) (k : Nat) : (s.wrapBy f k).dsp = s.dsp := by
  simp only [State.wrapBy]; repeat' split
  all_goals simp
@[simp] theorem State.wrapBy_epo (s : State) (f : Fld) (k : Nat) : (s.wrapBy f k).epo = s.epo := by
  simp only [State.wrapBy]; repeat' split
  all_goals simp
@[simp] theorem State.wrapBy_ldr (s : State) (f : Fld) (k : Nat) : (s.wrapBy f k).ldr = s.ldr := by
  simp only [State.wrapBy]; repeat' split
  all_goals simp
@[simp] theorem State.wrapBy_trk (s : State) (f : Fld) (k : Nat) : (s.wrapBy f k).trk = s.trk := by
  simp only [State.wrapBy]; repeat' split
  all_goals simp
@[simp] theorem State.wrapBy_gov (s : State) (f : Fld) (k : Nat) : (s.wrapBy f k).gov = s.gov := by
  simp only [State.wrapBy]; repeat' split
  all_goals simp
@[simp] theorem State.wrapBy_zyp (s : State) (f : Fld) (k : Nat) : (s.wrapBy f k).zyp = s.zyp := by
  simp only [State.wrapBy]; repeat' split
  all_goals simp
@[simp] theorem State.wrapBy_vlt (s : State) (f : Fld) (k : Nat) : (s.wrapBy f k).vlt = s.vlt := by
  simp only [State.wrapBy]; repeat' split
  all_goals simp
@[simp] theorem State.wrapBy_rng (s : State) (f : Fld) (k : Nat) : (s.wrapBy f k).rng = s.rng := by
  simp only [State.wrapBy]; repeat' split
  all_goals simp
@[simp] theorem State.wrapBy_cor (s : State) (f : Fld) (k : Nat) : (s.wrapBy f k).cor = s.cor := by
  simp only [State.wrapBy]; repeat' split
  all_goals simp
@[simp] theorem State.wrapBy_cre (s : State) (f : Fld) (k : Nat) : (s.wrapBy f k).cre = s.cre := by
  simp only [State.wrapBy]; repeat' split
  all_goals simp
@[simp] theorem State.wrapBy_nvm (s : State) (f : Fld) (k : Nat) : (s.wrapBy f k).nvm = s.nvm := by
  simp only [State.wrapBy]; repeat' split
  all_goals simp
@[simp] theorem State.wrapBy_twn (s : State) (f : Fld) (k : Nat) : (s.wrapBy f k).twn = s.twn := by
  simp only [State.wrapBy]; repeat' split
  all_goals simp
@[simp] theorem State.wrapBy_upd (s : State) (f : Fld) (k : Nat) : (s.wrapBy f k).upd = s.upd := by
  simp only [State.wrapBy]; repeat' split
  all_goals simp
@[simp] theorem State.wrapBy_drm (s : State) (f : Fld) (k : Nat) : (s.wrapBy f k).drm = s.drm := by
  simp only [State.wrapBy]; repeat' split
  all_goals simp
@[simp] theorem State.wrapBy_tly (s : State) (f : Fld) (k : Nat) : (s.wrapBy f k).tly = s.tly := by
  simp only [State.wrapBy]; repeat' split
  all_goals simp

/-! ## What `stopBy` leaves -/

@[simp] theorem State.stopBy_pending (s : State) (f : Fld) (k : Nat) : (s.stopBy f k).pending = s.pending := by
  simp only [State.stopBy]; repeat' split
  all_goals simp
@[simp] theorem State.stopBy_ctr (s : State) (f : Fld) (k : Nat) : (s.stopBy f k).ctr = s.ctr := by
  simp only [State.stopBy]; repeat' split
  all_goals simp
@[simp] theorem State.stopBy_shd (s : State) (f : Fld) (k : Nat) : (s.stopBy f k).shd = s.shd := by
  simp only [State.stopBy]; repeat' split
  all_goals simp
@[simp] theorem State.stopBy_cmt (s : State) (f : Fld) (k : Nat) : (s.stopBy f k).cmt = s.cmt := by
  simp only [State.stopBy]; repeat' split
  all_goals simp
@[simp] theorem State.stopBy_evq (s : State) (f : Fld) (k : Nat) : (s.stopBy f k).evq = s.evq := by
  simp only [State.stopBy]; repeat' split
  all_goals simp
@[simp] theorem State.stopBy_mode (s : State) (f : Fld) (k : Nat) : (s.stopBy f k).mode = s.mode := by
  simp only [State.stopBy]; repeat' split
  all_goals simp
@[simp] theorem State.stopBy_prev (s : State) (f : Fld) (k : Nat) : (s.stopBy f k).prev = s.prev := by
  simp only [State.stopBy]; repeat' split
  all_goals simp
@[simp] theorem State.stopBy_pwr (s : State) (f : Fld) (k : Nat) : (s.stopBy f k).pwr = s.pwr := by
  simp only [State.stopBy]; repeat' split
  all_goals simp
@[simp] theorem State.stopBy_hre (s : State) (f : Fld) (k : Nat) : (s.stopBy f k).hre = s.hre := by
  simp only [State.stopBy]; repeat' split
  all_goals simp
@[simp] theorem State.stopBy_chu (s : State) (f : Fld) (k : Nat) : (s.stopBy f k).chu = s.chu := by
  simp only [State.stopBy]; repeat' split
  all_goals simp
@[simp] theorem State.stopBy_trp (s : State) (f : Fld) (k : Nat) : (s.stopBy f k).trp = s.trp := by
  simp only [State.stopBy]; repeat' split
  all_goals simp
@[simp] theorem State.stopBy_tim (s : State) (f : Fld) (k : Nat) : (s.stopBy f k).tim = s.tim := by
  simp only [State.stopBy]; repeat' split
  all_goals simp
@[simp] theorem State.stopBy_mem (s : State) (f : Fld) (k : Nat) : (s.stopBy f k).mem = s.mem := by
  simp only [State.stopBy]; repeat' split
  all_goals simp
@[simp] theorem State.stopBy_ticks (s : State) (f : Fld) (k : Nat) : (s.stopBy f k).ticks = s.ticks := by
  simp only [State.stopBy]; repeat' split
  all_goals simp
@[simp] theorem State.stopBy_hst (s : State) (f : Fld) (k : Nat) : (s.stopBy f k).hst = s.hst := by
  simp only [State.stopBy]; repeat' split
  all_goals simp
@[simp] theorem State.stopBy_board (s : State) (f : Fld) (k : Nat) : (s.stopBy f k).board = s.board := by
  simp only [State.stopBy]; repeat' split
  all_goals simp
@[simp] theorem State.stopBy_dsp (s : State) (f : Fld) (k : Nat) : (s.stopBy f k).dsp = s.dsp := by
  simp only [State.stopBy]; repeat' split
  all_goals simp
@[simp] theorem State.stopBy_epo (s : State) (f : Fld) (k : Nat) : (s.stopBy f k).epo = s.epo := by
  simp only [State.stopBy]; repeat' split
  all_goals simp
@[simp] theorem State.stopBy_ldr (s : State) (f : Fld) (k : Nat) : (s.stopBy f k).ldr = s.ldr := by
  simp only [State.stopBy]; repeat' split
  all_goals simp
@[simp] theorem State.stopBy_trk (s : State) (f : Fld) (k : Nat) : (s.stopBy f k).trk = s.trk := by
  simp only [State.stopBy]; repeat' split
  all_goals simp
@[simp] theorem State.stopBy_gov (s : State) (f : Fld) (k : Nat) : (s.stopBy f k).gov = s.gov := by
  simp only [State.stopBy]; repeat' split
  all_goals simp
@[simp] theorem State.stopBy_zyp (s : State) (f : Fld) (k : Nat) : (s.stopBy f k).zyp = s.zyp := by
  simp only [State.stopBy]; repeat' split
  all_goals simp
@[simp] theorem State.stopBy_vlt (s : State) (f : Fld) (k : Nat) : (s.stopBy f k).vlt = s.vlt := by
  simp only [State.stopBy]; repeat' split
  all_goals simp
@[simp] theorem State.stopBy_rng (s : State) (f : Fld) (k : Nat) : (s.stopBy f k).rng = s.rng := by
  simp only [State.stopBy]; repeat' split
  all_goals simp
@[simp] theorem State.stopBy_cor (s : State) (f : Fld) (k : Nat) : (s.stopBy f k).cor = s.cor := by
  simp only [State.stopBy]; repeat' split
  all_goals simp
@[simp] theorem State.stopBy_cre (s : State) (f : Fld) (k : Nat) : (s.stopBy f k).cre = s.cre := by
  simp only [State.stopBy]; repeat' split
  all_goals simp
@[simp] theorem State.stopBy_nvm (s : State) (f : Fld) (k : Nat) : (s.stopBy f k).nvm = s.nvm := by
  simp only [State.stopBy]; repeat' split
  all_goals simp
@[simp] theorem State.stopBy_twn (s : State) (f : Fld) (k : Nat) : (s.stopBy f k).twn = s.twn := by
  simp only [State.stopBy]; repeat' split
  all_goals simp
@[simp] theorem State.stopBy_upd (s : State) (f : Fld) (k : Nat) : (s.stopBy f k).upd = s.upd := by
  simp only [State.stopBy]; repeat' split
  all_goals simp
@[simp] theorem State.stopBy_drm (s : State) (f : Fld) (k : Nat) : (s.stopBy f k).drm = s.drm := by
  simp only [State.stopBy]; repeat' split
  all_goals simp
@[simp] theorem State.stopBy_tly (s : State) (f : Fld) (k : Nat) : (s.stopBy f k).tly = s.tly := by
  simp only [State.stopBy]; repeat' split
  all_goals simp

/-! ## What `chuteBump` leaves -/

@[simp] theorem State.chuteBump_pending (s : State) (f : Fld) (n : Nat) : (s.chuteBump f n).pending = s.pending := by
  simp only [State.chuteBump]; repeat' split
  all_goals simp
@[simp] theorem State.chuteBump_ctr (s : State) (f : Fld) (n : Nat) : (s.chuteBump f n).ctr = s.ctr := by
  simp only [State.chuteBump]; repeat' split
  all_goals simp
@[simp] theorem State.chuteBump_shd (s : State) (f : Fld) (n : Nat) : (s.chuteBump f n).shd = s.shd := by
  simp only [State.chuteBump]; repeat' split
  all_goals simp
@[simp] theorem State.chuteBump_cmt (s : State) (f : Fld) (n : Nat) : (s.chuteBump f n).cmt = s.cmt := by
  simp only [State.chuteBump]; repeat' split
  all_goals simp
@[simp] theorem State.chuteBump_mode (s : State) (f : Fld) (n : Nat) : (s.chuteBump f n).mode = s.mode := by
  simp only [State.chuteBump]; repeat' split
  all_goals simp
@[simp] theorem State.chuteBump_prev (s : State) (f : Fld) (n : Nat) : (s.chuteBump f n).prev = s.prev := by
  simp only [State.chuteBump]; repeat' split
  all_goals simp
@[simp] theorem State.chuteBump_pwr (s : State) (f : Fld) (n : Nat) : (s.chuteBump f n).pwr = s.pwr := by
  simp only [State.chuteBump]; repeat' split
  all_goals simp
@[simp] theorem State.chuteBump_trp (s : State) (f : Fld) (n : Nat) : (s.chuteBump f n).trp = s.trp := by
  simp only [State.chuteBump]; repeat' split
  all_goals simp
@[simp] theorem State.chuteBump_tim (s : State) (f : Fld) (n : Nat) : (s.chuteBump f n).tim = s.tim := by
  simp only [State.chuteBump]; repeat' split
  all_goals simp
@[simp] theorem State.chuteBump_mem (s : State) (f : Fld) (n : Nat) : (s.chuteBump f n).mem = s.mem := by
  simp only [State.chuteBump]; repeat' split
  all_goals simp
@[simp] theorem State.chuteBump_ticks (s : State) (f : Fld) (n : Nat) : (s.chuteBump f n).ticks = s.ticks := by
  simp only [State.chuteBump]; repeat' split
  all_goals simp
@[simp] theorem State.chuteBump_hst (s : State) (f : Fld) (n : Nat) : (s.chuteBump f n).hst = s.hst := by
  simp only [State.chuteBump]; repeat' split
  all_goals simp
@[simp] theorem State.chuteBump_board (s : State) (f : Fld) (n : Nat) : (s.chuteBump f n).board = s.board := by
  simp only [State.chuteBump]; repeat' split
  all_goals simp
@[simp] theorem State.chuteBump_dsp (s : State) (f : Fld) (n : Nat) : (s.chuteBump f n).dsp = s.dsp := by
  simp only [State.chuteBump]; repeat' split
  all_goals simp
@[simp] theorem State.chuteBump_epo (s : State) (f : Fld) (n : Nat) : (s.chuteBump f n).epo = s.epo := by
  simp only [State.chuteBump]; repeat' split
  all_goals simp
@[simp] theorem State.chuteBump_ldr (s : State) (f : Fld) (n : Nat) : (s.chuteBump f n).ldr = s.ldr := by
  simp only [State.chuteBump]; repeat' split
  all_goals simp
@[simp] theorem State.chuteBump_trk (s : State) (f : Fld) (n : Nat) : (s.chuteBump f n).trk = s.trk := by
  simp only [State.chuteBump]; repeat' split
  all_goals simp
@[simp] theorem State.chuteBump_gov (s : State) (f : Fld) (n : Nat) : (s.chuteBump f n).gov = s.gov := by
  simp only [State.chuteBump]; repeat' split
  all_goals simp
@[simp] theorem State.chuteBump_zyp (s : State) (f : Fld) (n : Nat) : (s.chuteBump f n).zyp = s.zyp := by
  simp only [State.chuteBump]; repeat' split
  all_goals simp
@[simp] theorem State.chuteBump_vlt (s : State) (f : Fld) (n : Nat) : (s.chuteBump f n).vlt = s.vlt := by
  simp only [State.chuteBump]; repeat' split
  all_goals simp
@[simp] theorem State.chuteBump_rng (s : State) (f : Fld) (n : Nat) : (s.chuteBump f n).rng = s.rng := by
  simp only [State.chuteBump]; repeat' split
  all_goals simp
@[simp] theorem State.chuteBump_cor (s : State) (f : Fld) (n : Nat) : (s.chuteBump f n).cor = s.cor := by
  simp only [State.chuteBump]; repeat' split
  all_goals simp
@[simp] theorem State.chuteBump_cre (s : State) (f : Fld) (n : Nat) : (s.chuteBump f n).cre = s.cre := by
  simp only [State.chuteBump]; repeat' split
  all_goals simp
@[simp] theorem State.chuteBump_nvm (s : State) (f : Fld) (n : Nat) : (s.chuteBump f n).nvm = s.nvm := by
  simp only [State.chuteBump]; repeat' split
  all_goals simp
@[simp] theorem State.chuteBump_twn (s : State) (f : Fld) (n : Nat) : (s.chuteBump f n).twn = s.twn := by
  simp only [State.chuteBump]; repeat' split
  all_goals simp
@[simp] theorem State.chuteBump_upd (s : State) (f : Fld) (n : Nat) : (s.chuteBump f n).upd = s.upd := by
  simp only [State.chuteBump]; repeat' split
  all_goals simp
@[simp] theorem State.chuteBump_drm (s : State) (f : Fld) (n : Nat) : (s.chuteBump f n).drm = s.drm := by
  simp only [State.chuteBump]; repeat' split
  all_goals simp
@[simp] theorem State.chuteBump_tly (s : State) (f : Fld) (n : Nat) : (s.chuteBump f n).tly = s.tly := by
  simp only [State.chuteBump]; repeat' split
  all_goals simp

/-! ## What `offerFrom` leaves -/

@[simp] theorem State.offerFrom_pending (s : State) (n p : Nat) (l : Option Nat) (w : List DWord) : ((s.offerFrom n p l w).1).pending = s.pending := by
  simp only [State.offerFrom]; repeat' split
  all_goals simp
@[simp] theorem State.offerFrom_ctr (s : State) (n p : Nat) (l : Option Nat) (w : List DWord) : ((s.offerFrom n p l w).1).ctr = s.ctr := by
  simp only [State.offerFrom]; repeat' split
  all_goals simp
@[simp] theorem State.offerFrom_shd (s : State) (n p : Nat) (l : Option Nat) (w : List DWord) : ((s.offerFrom n p l w).1).shd = s.shd := by
  simp only [State.offerFrom]; repeat' split
  all_goals simp
@[simp] theorem State.offerFrom_cmt (s : State) (n p : Nat) (l : Option Nat) (w : List DWord) : ((s.offerFrom n p l w).1).cmt = s.cmt := by
  simp only [State.offerFrom]; repeat' split
  all_goals simp
@[simp] theorem State.offerFrom_mode (s : State) (n p : Nat) (l : Option Nat) (w : List DWord) : ((s.offerFrom n p l w).1).mode = s.mode := by
  simp only [State.offerFrom]; repeat' split
  all_goals simp
@[simp] theorem State.offerFrom_prev (s : State) (n p : Nat) (l : Option Nat) (w : List DWord) : ((s.offerFrom n p l w).1).prev = s.prev := by
  simp only [State.offerFrom]; repeat' split
  all_goals simp
@[simp] theorem State.offerFrom_pwr (s : State) (n p : Nat) (l : Option Nat) (w : List DWord) : ((s.offerFrom n p l w).1).pwr = s.pwr := by
  simp only [State.offerFrom]; repeat' split
  all_goals simp
@[simp] theorem State.offerFrom_trp (s : State) (n p : Nat) (l : Option Nat) (w : List DWord) : ((s.offerFrom n p l w).1).trp = s.trp := by
  simp only [State.offerFrom]; repeat' split
  all_goals simp
@[simp] theorem State.offerFrom_tim (s : State) (n p : Nat) (l : Option Nat) (w : List DWord) : ((s.offerFrom n p l w).1).tim = s.tim := by
  simp only [State.offerFrom]; repeat' split
  all_goals simp
@[simp] theorem State.offerFrom_mem (s : State) (n p : Nat) (l : Option Nat) (w : List DWord) : ((s.offerFrom n p l w).1).mem = s.mem := by
  simp only [State.offerFrom]; repeat' split
  all_goals simp
@[simp] theorem State.offerFrom_ticks (s : State) (n p : Nat) (l : Option Nat) (w : List DWord) : ((s.offerFrom n p l w).1).ticks = s.ticks := by
  simp only [State.offerFrom]; repeat' split
  all_goals simp
@[simp] theorem State.offerFrom_hst (s : State) (n p : Nat) (l : Option Nat) (w : List DWord) : ((s.offerFrom n p l w).1).hst = s.hst := by
  simp only [State.offerFrom]; repeat' split
  all_goals simp
@[simp] theorem State.offerFrom_board (s : State) (n p : Nat) (l : Option Nat) (w : List DWord) : ((s.offerFrom n p l w).1).board = s.board := by
  simp only [State.offerFrom]; repeat' split
  all_goals simp
@[simp] theorem State.offerFrom_dsp (s : State) (n p : Nat) (l : Option Nat) (w : List DWord) : ((s.offerFrom n p l w).1).dsp = s.dsp := by
  simp only [State.offerFrom]; repeat' split
  all_goals simp
@[simp] theorem State.offerFrom_epo (s : State) (n p : Nat) (l : Option Nat) (w : List DWord) : ((s.offerFrom n p l w).1).epo = s.epo := by
  simp only [State.offerFrom]; repeat' split
  all_goals simp
@[simp] theorem State.offerFrom_ldr (s : State) (n p : Nat) (l : Option Nat) (w : List DWord) : ((s.offerFrom n p l w).1).ldr = s.ldr := by
  simp only [State.offerFrom]; repeat' split
  all_goals simp
@[simp] theorem State.offerFrom_trk (s : State) (n p : Nat) (l : Option Nat) (w : List DWord) : ((s.offerFrom n p l w).1).trk = s.trk := by
  simp only [State.offerFrom]; repeat' split
  all_goals simp
@[simp] theorem State.offerFrom_gov (s : State) (n p : Nat) (l : Option Nat) (w : List DWord) : ((s.offerFrom n p l w).1).gov = s.gov := by
  simp only [State.offerFrom]; repeat' split
  all_goals simp
@[simp] theorem State.offerFrom_zyp (s : State) (n p : Nat) (l : Option Nat) (w : List DWord) : ((s.offerFrom n p l w).1).zyp = s.zyp := by
  simp only [State.offerFrom]; repeat' split
  all_goals simp
@[simp] theorem State.offerFrom_vlt (s : State) (n p : Nat) (l : Option Nat) (w : List DWord) : ((s.offerFrom n p l w).1).vlt = s.vlt := by
  simp only [State.offerFrom]; repeat' split
  all_goals simp
@[simp] theorem State.offerFrom_rng (s : State) (n p : Nat) (l : Option Nat) (w : List DWord) : ((s.offerFrom n p l w).1).rng = s.rng := by
  simp only [State.offerFrom]; repeat' split
  all_goals simp
@[simp] theorem State.offerFrom_cor (s : State) (n p : Nat) (l : Option Nat) (w : List DWord) : ((s.offerFrom n p l w).1).cor = s.cor := by
  simp only [State.offerFrom]; repeat' split
  all_goals simp
@[simp] theorem State.offerFrom_cre (s : State) (n p : Nat) (l : Option Nat) (w : List DWord) : ((s.offerFrom n p l w).1).cre = s.cre := by
  simp only [State.offerFrom]; repeat' split
  all_goals simp
@[simp] theorem State.offerFrom_nvm (s : State) (n p : Nat) (l : Option Nat) (w : List DWord) : ((s.offerFrom n p l w).1).nvm = s.nvm := by
  simp only [State.offerFrom]; repeat' split
  all_goals simp
@[simp] theorem State.offerFrom_twn (s : State) (n p : Nat) (l : Option Nat) (w : List DWord) : ((s.offerFrom n p l w).1).twn = s.twn := by
  simp only [State.offerFrom]; repeat' split
  all_goals simp
@[simp] theorem State.offerFrom_upd (s : State) (n p : Nat) (l : Option Nat) (w : List DWord) : ((s.offerFrom n p l w).1).upd = s.upd := by
  simp only [State.offerFrom]; repeat' split
  all_goals simp
@[simp] theorem State.offerFrom_drm (s : State) (n p : Nat) (l : Option Nat) (w : List DWord) : ((s.offerFrom n p l w).1).drm = s.drm := by
  simp only [State.offerFrom]; repeat' split
  all_goals simp
@[simp] theorem State.offerFrom_tly (s : State) (n p : Nat) (l : Option Nat) (w : List DWord) : ((s.offerFrom n p l w).1).tly = s.tly := by
  simp only [State.offerFrom]; repeat' split
  all_goals simp

/-! ## What `offer` leaves -/

@[simp] theorem State.offer_pending (s : State) (n p : Nat) (w : List DWord) : ((s.offer n p w).1).pending = s.pending := by
  simp only [State.offer]; repeat' split
  all_goals simp
@[simp] theorem State.offer_ctr (s : State) (n p : Nat) (w : List DWord) : ((s.offer n p w).1).ctr = s.ctr := by
  simp only [State.offer]; repeat' split
  all_goals simp
@[simp] theorem State.offer_shd (s : State) (n p : Nat) (w : List DWord) : ((s.offer n p w).1).shd = s.shd := by
  simp only [State.offer]; repeat' split
  all_goals simp
@[simp] theorem State.offer_cmt (s : State) (n p : Nat) (w : List DWord) : ((s.offer n p w).1).cmt = s.cmt := by
  simp only [State.offer]; repeat' split
  all_goals simp
@[simp] theorem State.offer_mode (s : State) (n p : Nat) (w : List DWord) : ((s.offer n p w).1).mode = s.mode := by
  simp only [State.offer]; repeat' split
  all_goals simp
@[simp] theorem State.offer_prev (s : State) (n p : Nat) (w : List DWord) : ((s.offer n p w).1).prev = s.prev := by
  simp only [State.offer]; repeat' split
  all_goals simp
@[simp] theorem State.offer_pwr (s : State) (n p : Nat) (w : List DWord) : ((s.offer n p w).1).pwr = s.pwr := by
  simp only [State.offer]; repeat' split
  all_goals simp
@[simp] theorem State.offer_trp (s : State) (n p : Nat) (w : List DWord) : ((s.offer n p w).1).trp = s.trp := by
  simp only [State.offer]; repeat' split
  all_goals simp
@[simp] theorem State.offer_tim (s : State) (n p : Nat) (w : List DWord) : ((s.offer n p w).1).tim = s.tim := by
  simp only [State.offer]; repeat' split
  all_goals simp
@[simp] theorem State.offer_mem (s : State) (n p : Nat) (w : List DWord) : ((s.offer n p w).1).mem = s.mem := by
  simp only [State.offer]; repeat' split
  all_goals simp
@[simp] theorem State.offer_ticks (s : State) (n p : Nat) (w : List DWord) : ((s.offer n p w).1).ticks = s.ticks := by
  simp only [State.offer]; repeat' split
  all_goals simp
@[simp] theorem State.offer_hst (s : State) (n p : Nat) (w : List DWord) : ((s.offer n p w).1).hst = s.hst := by
  simp only [State.offer]; repeat' split
  all_goals simp
@[simp] theorem State.offer_board (s : State) (n p : Nat) (w : List DWord) : ((s.offer n p w).1).board = s.board := by
  simp only [State.offer]; repeat' split
  all_goals simp
@[simp] theorem State.offer_dsp (s : State) (n p : Nat) (w : List DWord) : ((s.offer n p w).1).dsp = s.dsp := by
  simp only [State.offer]; repeat' split
  all_goals simp
@[simp] theorem State.offer_epo (s : State) (n p : Nat) (w : List DWord) : ((s.offer n p w).1).epo = s.epo := by
  simp only [State.offer]; repeat' split
  all_goals simp
@[simp] theorem State.offer_ldr (s : State) (n p : Nat) (w : List DWord) : ((s.offer n p w).1).ldr = s.ldr := by
  simp only [State.offer]; repeat' split
  all_goals simp
@[simp] theorem State.offer_trk (s : State) (n p : Nat) (w : List DWord) : ((s.offer n p w).1).trk = s.trk := by
  simp only [State.offer]; repeat' split
  all_goals simp
@[simp] theorem State.offer_gov (s : State) (n p : Nat) (w : List DWord) : ((s.offer n p w).1).gov = s.gov := by
  simp only [State.offer]; repeat' split
  all_goals simp
@[simp] theorem State.offer_zyp (s : State) (n p : Nat) (w : List DWord) : ((s.offer n p w).1).zyp = s.zyp := by
  simp only [State.offer]; repeat' split
  all_goals simp
@[simp] theorem State.offer_vlt (s : State) (n p : Nat) (w : List DWord) : ((s.offer n p w).1).vlt = s.vlt := by
  simp only [State.offer]; repeat' split
  all_goals simp
@[simp] theorem State.offer_rng (s : State) (n p : Nat) (w : List DWord) : ((s.offer n p w).1).rng = s.rng := by
  simp only [State.offer]; repeat' split
  all_goals simp
@[simp] theorem State.offer_cor (s : State) (n p : Nat) (w : List DWord) : ((s.offer n p w).1).cor = s.cor := by
  simp only [State.offer]; repeat' split
  all_goals simp
@[simp] theorem State.offer_cre (s : State) (n p : Nat) (w : List DWord) : ((s.offer n p w).1).cre = s.cre := by
  simp only [State.offer]; repeat' split
  all_goals simp
@[simp] theorem State.offer_nvm (s : State) (n p : Nat) (w : List DWord) : ((s.offer n p w).1).nvm = s.nvm := by
  simp only [State.offer]; repeat' split
  all_goals simp
@[simp] theorem State.offer_twn (s : State) (n p : Nat) (w : List DWord) : ((s.offer n p w).1).twn = s.twn := by
  simp only [State.offer]; repeat' split
  all_goals simp
@[simp] theorem State.offer_upd (s : State) (n p : Nat) (w : List DWord) : ((s.offer n p w).1).upd = s.upd := by
  simp only [State.offer]; repeat' split
  all_goals simp
@[simp] theorem State.offer_drm (s : State) (n p : Nat) (w : List DWord) : ((s.offer n p w).1).drm = s.drm := by
  simp only [State.offer]; repeat' split
  all_goals simp
@[simp] theorem State.offer_tly (s : State) (n p : Nat) (w : List DWord) : ((s.offer n p w).1).tly = s.tly := by
  simp only [State.offer]; repeat' split
  all_goals simp

/-! ## What `send` leaves -/

@[simp] theorem State.send_pending (s : State) (n p : Nat) (b : List Nat) : (s.send n p b).pending = s.pending := by
  simp only [State.send]; repeat' split
  all_goals simp
@[simp] theorem State.send_ctr (s : State) (n p : Nat) (b : List Nat) : (s.send n p b).ctr = s.ctr := by
  simp only [State.send]; repeat' split
  all_goals simp
@[simp] theorem State.send_shd (s : State) (n p : Nat) (b : List Nat) : (s.send n p b).shd = s.shd := by
  simp only [State.send]; repeat' split
  all_goals simp
@[simp] theorem State.send_cmt (s : State) (n p : Nat) (b : List Nat) : (s.send n p b).cmt = s.cmt := by
  simp only [State.send]; repeat' split
  all_goals simp
@[simp] theorem State.send_mode (s : State) (n p : Nat) (b : List Nat) : (s.send n p b).mode = s.mode := by
  simp only [State.send]; repeat' split
  all_goals simp
@[simp] theorem State.send_prev (s : State) (n p : Nat) (b : List Nat) : (s.send n p b).prev = s.prev := by
  simp only [State.send]; repeat' split
  all_goals simp
@[simp] theorem State.send_pwr (s : State) (n p : Nat) (b : List Nat) : (s.send n p b).pwr = s.pwr := by
  simp only [State.send]; repeat' split
  all_goals simp
@[simp] theorem State.send_trp (s : State) (n p : Nat) (b : List Nat) : (s.send n p b).trp = s.trp := by
  simp only [State.send]; repeat' split
  all_goals simp
@[simp] theorem State.send_tim (s : State) (n p : Nat) (b : List Nat) : (s.send n p b).tim = s.tim := by
  simp only [State.send]; repeat' split
  all_goals simp
@[simp] theorem State.send_mem (s : State) (n p : Nat) (b : List Nat) : (s.send n p b).mem = s.mem := by
  simp only [State.send]; repeat' split
  all_goals simp
@[simp] theorem State.send_ticks (s : State) (n p : Nat) (b : List Nat) : (s.send n p b).ticks = s.ticks := by
  simp only [State.send]; repeat' split
  all_goals simp
@[simp] theorem State.send_hst (s : State) (n p : Nat) (b : List Nat) : (s.send n p b).hst = s.hst := by
  simp only [State.send]; repeat' split
  all_goals simp
@[simp] theorem State.send_board (s : State) (n p : Nat) (b : List Nat) : (s.send n p b).board = s.board := by
  simp only [State.send]; repeat' split
  all_goals simp
@[simp] theorem State.send_dsp (s : State) (n p : Nat) (b : List Nat) : (s.send n p b).dsp = s.dsp := by
  simp only [State.send]; repeat' split
  all_goals simp
@[simp] theorem State.send_epo (s : State) (n p : Nat) (b : List Nat) : (s.send n p b).epo = s.epo := by
  simp only [State.send]; repeat' split
  all_goals simp
@[simp] theorem State.send_ldr (s : State) (n p : Nat) (b : List Nat) : (s.send n p b).ldr = s.ldr := by
  simp only [State.send]; repeat' split
  all_goals simp
@[simp] theorem State.send_trk (s : State) (n p : Nat) (b : List Nat) : (s.send n p b).trk = s.trk := by
  simp only [State.send]; repeat' split
  all_goals simp
@[simp] theorem State.send_gov (s : State) (n p : Nat) (b : List Nat) : (s.send n p b).gov = s.gov := by
  simp only [State.send]; repeat' split
  all_goals simp
@[simp] theorem State.send_zyp (s : State) (n p : Nat) (b : List Nat) : (s.send n p b).zyp = s.zyp := by
  simp only [State.send]; repeat' split
  all_goals simp
@[simp] theorem State.send_vlt (s : State) (n p : Nat) (b : List Nat) : (s.send n p b).vlt = s.vlt := by
  simp only [State.send]; repeat' split
  all_goals simp
@[simp] theorem State.send_rng (s : State) (n p : Nat) (b : List Nat) : (s.send n p b).rng = s.rng := by
  simp only [State.send]; repeat' split
  all_goals simp
@[simp] theorem State.send_cor (s : State) (n p : Nat) (b : List Nat) : (s.send n p b).cor = s.cor := by
  simp only [State.send]; repeat' split
  all_goals simp
@[simp] theorem State.send_cre (s : State) (n p : Nat) (b : List Nat) : (s.send n p b).cre = s.cre := by
  simp only [State.send]; repeat' split
  all_goals simp
@[simp] theorem State.send_nvm (s : State) (n p : Nat) (b : List Nat) : (s.send n p b).nvm = s.nvm := by
  simp only [State.send]; repeat' split
  all_goals simp
@[simp] theorem State.send_twn (s : State) (n p : Nat) (b : List Nat) : (s.send n p b).twn = s.twn := by
  simp only [State.send]; repeat' split
  all_goals simp
@[simp] theorem State.send_upd (s : State) (n p : Nat) (b : List Nat) : (s.send n p b).upd = s.upd := by
  simp only [State.send]; repeat' split
  all_goals simp
@[simp] theorem State.send_drm (s : State) (n p : Nat) (b : List Nat) : (s.send n p b).drm = s.drm := by
  simp only [State.send]; repeat' split
  all_goals simp
@[simp] theorem State.send_tly (s : State) (n p : Nat) (b : List Nat) : (s.send n p b).tly = s.tly := by
  simp only [State.send]; repeat' split
  all_goals simp

/-! ## What `apply` leaves -/

@[simp] theorem State.apply_pending (fs : List Fld) (s : State) : (s.apply fs).pending = s.pending := by
  induction fs generalizing s with
  | nil => rfl
  | cons f t ih => rw [State.apply, ih]; rfl
@[simp] theorem State.apply_ctr (fs : List Fld) (s : State) : (s.apply fs).ctr = s.ctr := by
  induction fs generalizing s with
  | nil => rfl
  | cons f t ih => rw [State.apply, ih]; rfl
@[simp] theorem State.apply_cmt (fs : List Fld) (s : State) : (s.apply fs).cmt = s.cmt := by
  induction fs generalizing s with
  | nil => rfl
  | cons f t ih => rw [State.apply, ih]; rfl
@[simp] theorem State.apply_evq (fs : List Fld) (s : State) : (s.apply fs).evq = s.evq := by
  induction fs generalizing s with
  | nil => rfl
  | cons f t ih => rw [State.apply, ih]; rfl
@[simp] theorem State.apply_mode (fs : List Fld) (s : State) : (s.apply fs).mode = s.mode := by
  induction fs generalizing s with
  | nil => rfl
  | cons f t ih => rw [State.apply, ih]; rfl
@[simp] theorem State.apply_prev (fs : List Fld) (s : State) : (s.apply fs).prev = s.prev := by
  induction fs generalizing s with
  | nil => rfl
  | cons f t ih => rw [State.apply, ih]; rfl
@[simp] theorem State.apply_pwr (fs : List Fld) (s : State) : (s.apply fs).pwr = s.pwr := by
  induction fs generalizing s with
  | nil => rfl
  | cons f t ih => rw [State.apply, ih]; rfl
@[simp] theorem State.apply_hre (fs : List Fld) (s : State) : (s.apply fs).hre = s.hre := by
  induction fs generalizing s with
  | nil => rfl
  | cons f t ih => rw [State.apply, ih]; rfl
@[simp] theorem State.apply_chu (fs : List Fld) (s : State) : (s.apply fs).chu = s.chu := by
  induction fs generalizing s with
  | nil => rfl
  | cons f t ih => rw [State.apply, ih]; rfl
@[simp] theorem State.apply_trp (fs : List Fld) (s : State) : (s.apply fs).trp = s.trp := by
  induction fs generalizing s with
  | nil => rfl
  | cons f t ih => rw [State.apply, ih]; rfl
@[simp] theorem State.apply_tim (fs : List Fld) (s : State) : (s.apply fs).tim = s.tim := by
  induction fs generalizing s with
  | nil => rfl
  | cons f t ih => rw [State.apply, ih]; rfl
@[simp] theorem State.apply_mem (fs : List Fld) (s : State) : (s.apply fs).mem = s.mem := by
  induction fs generalizing s with
  | nil => rfl
  | cons f t ih => rw [State.apply, ih]; rfl
@[simp] theorem State.apply_ticks (fs : List Fld) (s : State) : (s.apply fs).ticks = s.ticks := by
  induction fs generalizing s with
  | nil => rfl
  | cons f t ih => rw [State.apply, ih]; rfl
@[simp] theorem State.apply_hst (fs : List Fld) (s : State) : (s.apply fs).hst = s.hst := by
  induction fs generalizing s with
  | nil => rfl
  | cons f t ih => rw [State.apply, ih]; rfl
@[simp] theorem State.apply_board (fs : List Fld) (s : State) : (s.apply fs).board = s.board := by
  induction fs generalizing s with
  | nil => rfl
  | cons f t ih => rw [State.apply, ih]; rfl
@[simp] theorem State.apply_dsp (fs : List Fld) (s : State) : (s.apply fs).dsp = s.dsp := by
  induction fs generalizing s with
  | nil => rfl
  | cons f t ih => rw [State.apply, ih]; rfl
@[simp] theorem State.apply_epo (fs : List Fld) (s : State) : (s.apply fs).epo = s.epo := by
  induction fs generalizing s with
  | nil => rfl
  | cons f t ih => rw [State.apply, ih]; rfl
@[simp] theorem State.apply_ldr (fs : List Fld) (s : State) : (s.apply fs).ldr = s.ldr := by
  induction fs generalizing s with
  | nil => rfl
  | cons f t ih => rw [State.apply, ih]; rfl
@[simp] theorem State.apply_trk (fs : List Fld) (s : State) : (s.apply fs).trk = s.trk := by
  induction fs generalizing s with
  | nil => rfl
  | cons f t ih => rw [State.apply, ih]; rfl
@[simp] theorem State.apply_gov (fs : List Fld) (s : State) : (s.apply fs).gov = s.gov := by
  induction fs generalizing s with
  | nil => rfl
  | cons f t ih => rw [State.apply, ih]; rfl
@[simp] theorem State.apply_zyp (fs : List Fld) (s : State) : (s.apply fs).zyp = s.zyp := by
  induction fs generalizing s with
  | nil => rfl
  | cons f t ih => rw [State.apply, ih]; rfl
@[simp] theorem State.apply_vlt (fs : List Fld) (s : State) : (s.apply fs).vlt = s.vlt := by
  induction fs generalizing s with
  | nil => rfl
  | cons f t ih => rw [State.apply, ih]; rfl
@[simp] theorem State.apply_rng (fs : List Fld) (s : State) : (s.apply fs).rng = s.rng := by
  induction fs generalizing s with
  | nil => rfl
  | cons f t ih => rw [State.apply, ih]; rfl
@[simp] theorem State.apply_cor (fs : List Fld) (s : State) : (s.apply fs).cor = s.cor := by
  induction fs generalizing s with
  | nil => rfl
  | cons f t ih => rw [State.apply, ih]; rfl
@[simp] theorem State.apply_cre (fs : List Fld) (s : State) : (s.apply fs).cre = s.cre := by
  induction fs generalizing s with
  | nil => rfl
  | cons f t ih => rw [State.apply, ih]; rfl
@[simp] theorem State.apply_nvm (fs : List Fld) (s : State) : (s.apply fs).nvm = s.nvm := by
  induction fs generalizing s with
  | nil => rfl
  | cons f t ih => rw [State.apply, ih]; rfl
@[simp] theorem State.apply_twn (fs : List Fld) (s : State) : (s.apply fs).twn = s.twn := by
  induction fs generalizing s with
  | nil => rfl
  | cons f t ih => rw [State.apply, ih]; rfl
@[simp] theorem State.apply_upd (fs : List Fld) (s : State) : (s.apply fs).upd = s.upd := by
  induction fs generalizing s with
  | nil => rfl
  | cons f t ih => rw [State.apply, ih]; rfl
@[simp] theorem State.apply_drm (fs : List Fld) (s : State) : (s.apply fs).drm = s.drm := by
  induction fs generalizing s with
  | nil => rfl
  | cons f t ih => rw [State.apply, ih]; rfl
@[simp] theorem State.apply_tly (fs : List Fld) (s : State) : (s.apply fs).tly = s.tly := by
  induction fs generalizing s with
  | nil => rfl
  | cons f t ih => rw [State.apply, ih]; rfl

/-! ## What `wrEach` leaves -/

@[simp] theorem State.wrEach_pending (fs : List (Fld × Nat)) (s : State) : (s.wrEach fs).pending = s.pending := by
  induction fs generalizing s with
  | nil => rfl
  | cons f t ih => rw [State.wrEach, ih]; rfl
@[simp] theorem State.wrEach_ctr (fs : List (Fld × Nat)) (s : State) : (s.wrEach fs).ctr = s.ctr := by
  induction fs generalizing s with
  | nil => rfl
  | cons f t ih => rw [State.wrEach, ih]; rfl
@[simp] theorem State.wrEach_shd (fs : List (Fld × Nat)) (s : State) : (s.wrEach fs).shd = s.shd := by
  induction fs generalizing s with
  | nil => rfl
  | cons f t ih => rw [State.wrEach, ih]; rfl
@[simp] theorem State.wrEach_cmt (fs : List (Fld × Nat)) (s : State) : (s.wrEach fs).cmt = s.cmt := by
  induction fs generalizing s with
  | nil => rfl
  | cons f t ih => rw [State.wrEach, ih]; rfl
@[simp] theorem State.wrEach_evq (fs : List (Fld × Nat)) (s : State) : (s.wrEach fs).evq = s.evq := by
  induction fs generalizing s with
  | nil => rfl
  | cons f t ih => rw [State.wrEach, ih]; rfl
@[simp] theorem State.wrEach_mode (fs : List (Fld × Nat)) (s : State) : (s.wrEach fs).mode = s.mode := by
  induction fs generalizing s with
  | nil => rfl
  | cons f t ih => rw [State.wrEach, ih]; rfl
@[simp] theorem State.wrEach_prev (fs : List (Fld × Nat)) (s : State) : (s.wrEach fs).prev = s.prev := by
  induction fs generalizing s with
  | nil => rfl
  | cons f t ih => rw [State.wrEach, ih]; rfl
@[simp] theorem State.wrEach_pwr (fs : List (Fld × Nat)) (s : State) : (s.wrEach fs).pwr = s.pwr := by
  induction fs generalizing s with
  | nil => rfl
  | cons f t ih => rw [State.wrEach, ih]; rfl
@[simp] theorem State.wrEach_hre (fs : List (Fld × Nat)) (s : State) : (s.wrEach fs).hre = s.hre := by
  induction fs generalizing s with
  | nil => rfl
  | cons f t ih => rw [State.wrEach, ih]; rfl
@[simp] theorem State.wrEach_chu (fs : List (Fld × Nat)) (s : State) : (s.wrEach fs).chu = s.chu := by
  induction fs generalizing s with
  | nil => rfl
  | cons f t ih => rw [State.wrEach, ih]; rfl
@[simp] theorem State.wrEach_trp (fs : List (Fld × Nat)) (s : State) : (s.wrEach fs).trp = s.trp := by
  induction fs generalizing s with
  | nil => rfl
  | cons f t ih => rw [State.wrEach, ih]; rfl
@[simp] theorem State.wrEach_tim (fs : List (Fld × Nat)) (s : State) : (s.wrEach fs).tim = s.tim := by
  induction fs generalizing s with
  | nil => rfl
  | cons f t ih => rw [State.wrEach, ih]; rfl
@[simp] theorem State.wrEach_mem (fs : List (Fld × Nat)) (s : State) : (s.wrEach fs).mem = s.mem := by
  induction fs generalizing s with
  | nil => rfl
  | cons f t ih => rw [State.wrEach, ih]; rfl
@[simp] theorem State.wrEach_ticks (fs : List (Fld × Nat)) (s : State) : (s.wrEach fs).ticks = s.ticks := by
  induction fs generalizing s with
  | nil => rfl
  | cons f t ih => rw [State.wrEach, ih]; rfl
@[simp] theorem State.wrEach_hst (fs : List (Fld × Nat)) (s : State) : (s.wrEach fs).hst = s.hst := by
  induction fs generalizing s with
  | nil => rfl
  | cons f t ih => rw [State.wrEach, ih]; rfl
@[simp] theorem State.wrEach_board (fs : List (Fld × Nat)) (s : State) : (s.wrEach fs).board = s.board := by
  induction fs generalizing s with
  | nil => rfl
  | cons f t ih => rw [State.wrEach, ih]; rfl
@[simp] theorem State.wrEach_dsp (fs : List (Fld × Nat)) (s : State) : (s.wrEach fs).dsp = s.dsp := by
  induction fs generalizing s with
  | nil => rfl
  | cons f t ih => rw [State.wrEach, ih]; rfl
@[simp] theorem State.wrEach_epo (fs : List (Fld × Nat)) (s : State) : (s.wrEach fs).epo = s.epo := by
  induction fs generalizing s with
  | nil => rfl
  | cons f t ih => rw [State.wrEach, ih]; rfl
@[simp] theorem State.wrEach_ldr (fs : List (Fld × Nat)) (s : State) : (s.wrEach fs).ldr = s.ldr := by
  induction fs generalizing s with
  | nil => rfl
  | cons f t ih => rw [State.wrEach, ih]; rfl
@[simp] theorem State.wrEach_trk (fs : List (Fld × Nat)) (s : State) : (s.wrEach fs).trk = s.trk := by
  induction fs generalizing s with
  | nil => rfl
  | cons f t ih => rw [State.wrEach, ih]; rfl
@[simp] theorem State.wrEach_gov (fs : List (Fld × Nat)) (s : State) : (s.wrEach fs).gov = s.gov := by
  induction fs generalizing s with
  | nil => rfl
  | cons f t ih => rw [State.wrEach, ih]; rfl
@[simp] theorem State.wrEach_zyp (fs : List (Fld × Nat)) (s : State) : (s.wrEach fs).zyp = s.zyp := by
  induction fs generalizing s with
  | nil => rfl
  | cons f t ih => rw [State.wrEach, ih]; rfl
@[simp] theorem State.wrEach_vlt (fs : List (Fld × Nat)) (s : State) : (s.wrEach fs).vlt = s.vlt := by
  induction fs generalizing s with
  | nil => rfl
  | cons f t ih => rw [State.wrEach, ih]; rfl
@[simp] theorem State.wrEach_rng (fs : List (Fld × Nat)) (s : State) : (s.wrEach fs).rng = s.rng := by
  induction fs generalizing s with
  | nil => rfl
  | cons f t ih => rw [State.wrEach, ih]; rfl
@[simp] theorem State.wrEach_cor (fs : List (Fld × Nat)) (s : State) : (s.wrEach fs).cor = s.cor := by
  induction fs generalizing s with
  | nil => rfl
  | cons f t ih => rw [State.wrEach, ih]; rfl
@[simp] theorem State.wrEach_cre (fs : List (Fld × Nat)) (s : State) : (s.wrEach fs).cre = s.cre := by
  induction fs generalizing s with
  | nil => rfl
  | cons f t ih => rw [State.wrEach, ih]; rfl
@[simp] theorem State.wrEach_nvm (fs : List (Fld × Nat)) (s : State) : (s.wrEach fs).nvm = s.nvm := by
  induction fs generalizing s with
  | nil => rfl
  | cons f t ih => rw [State.wrEach, ih]; rfl
@[simp] theorem State.wrEach_twn (fs : List (Fld × Nat)) (s : State) : (s.wrEach fs).twn = s.twn := by
  induction fs generalizing s with
  | nil => rfl
  | cons f t ih => rw [State.wrEach, ih]; rfl
@[simp] theorem State.wrEach_upd (fs : List (Fld × Nat)) (s : State) : (s.wrEach fs).upd = s.upd := by
  induction fs generalizing s with
  | nil => rfl
  | cons f t ih => rw [State.wrEach, ih]; rfl
@[simp] theorem State.wrEach_drm (fs : List (Fld × Nat)) (s : State) : (s.wrEach fs).drm = s.drm := by
  induction fs generalizing s with
  | nil => rfl
  | cons f t ih => rw [State.wrEach, ih]; rfl
@[simp] theorem State.wrEach_tly (fs : List (Fld × Nat)) (s : State) : (s.wrEach fs).tly = s.tly := by
  induction fs generalizing s with
  | nil => rfl
  | cons f t ih => rw [State.wrEach, ih]; rfl

/-! ## What `wrAll` leaves -/

@[simp] theorem State.wrAll_pending (v : Nat) (fs : List Fld) (s : State) : (s.wrAll v fs).pending = s.pending := by
  induction fs generalizing s with
  | nil => rfl
  | cons f t ih => rw [State.wrAll, ih]; rfl
@[simp] theorem State.wrAll_ctr (v : Nat) (fs : List Fld) (s : State) : (s.wrAll v fs).ctr = s.ctr := by
  induction fs generalizing s with
  | nil => rfl
  | cons f t ih => rw [State.wrAll, ih]; rfl
@[simp] theorem State.wrAll_shd (v : Nat) (fs : List Fld) (s : State) : (s.wrAll v fs).shd = s.shd := by
  induction fs generalizing s with
  | nil => rfl
  | cons f t ih => rw [State.wrAll, ih]; rfl
@[simp] theorem State.wrAll_cmt (v : Nat) (fs : List Fld) (s : State) : (s.wrAll v fs).cmt = s.cmt := by
  induction fs generalizing s with
  | nil => rfl
  | cons f t ih => rw [State.wrAll, ih]; rfl
@[simp] theorem State.wrAll_evq (v : Nat) (fs : List Fld) (s : State) : (s.wrAll v fs).evq = s.evq := by
  induction fs generalizing s with
  | nil => rfl
  | cons f t ih => rw [State.wrAll, ih]; rfl
@[simp] theorem State.wrAll_mode (v : Nat) (fs : List Fld) (s : State) : (s.wrAll v fs).mode = s.mode := by
  induction fs generalizing s with
  | nil => rfl
  | cons f t ih => rw [State.wrAll, ih]; rfl
@[simp] theorem State.wrAll_prev (v : Nat) (fs : List Fld) (s : State) : (s.wrAll v fs).prev = s.prev := by
  induction fs generalizing s with
  | nil => rfl
  | cons f t ih => rw [State.wrAll, ih]; rfl
@[simp] theorem State.wrAll_pwr (v : Nat) (fs : List Fld) (s : State) : (s.wrAll v fs).pwr = s.pwr := by
  induction fs generalizing s with
  | nil => rfl
  | cons f t ih => rw [State.wrAll, ih]; rfl
@[simp] theorem State.wrAll_hre (v : Nat) (fs : List Fld) (s : State) : (s.wrAll v fs).hre = s.hre := by
  induction fs generalizing s with
  | nil => rfl
  | cons f t ih => rw [State.wrAll, ih]; rfl
@[simp] theorem State.wrAll_chu (v : Nat) (fs : List Fld) (s : State) : (s.wrAll v fs).chu = s.chu := by
  induction fs generalizing s with
  | nil => rfl
  | cons f t ih => rw [State.wrAll, ih]; rfl
@[simp] theorem State.wrAll_trp (v : Nat) (fs : List Fld) (s : State) : (s.wrAll v fs).trp = s.trp := by
  induction fs generalizing s with
  | nil => rfl
  | cons f t ih => rw [State.wrAll, ih]; rfl
@[simp] theorem State.wrAll_tim (v : Nat) (fs : List Fld) (s : State) : (s.wrAll v fs).tim = s.tim := by
  induction fs generalizing s with
  | nil => rfl
  | cons f t ih => rw [State.wrAll, ih]; rfl
@[simp] theorem State.wrAll_mem (v : Nat) (fs : List Fld) (s : State) : (s.wrAll v fs).mem = s.mem := by
  induction fs generalizing s with
  | nil => rfl
  | cons f t ih => rw [State.wrAll, ih]; rfl
@[simp] theorem State.wrAll_ticks (v : Nat) (fs : List Fld) (s : State) : (s.wrAll v fs).ticks = s.ticks := by
  induction fs generalizing s with
  | nil => rfl
  | cons f t ih => rw [State.wrAll, ih]; rfl
@[simp] theorem State.wrAll_hst (v : Nat) (fs : List Fld) (s : State) : (s.wrAll v fs).hst = s.hst := by
  induction fs generalizing s with
  | nil => rfl
  | cons f t ih => rw [State.wrAll, ih]; rfl
@[simp] theorem State.wrAll_board (v : Nat) (fs : List Fld) (s : State) : (s.wrAll v fs).board = s.board := by
  induction fs generalizing s with
  | nil => rfl
  | cons f t ih => rw [State.wrAll, ih]; rfl
@[simp] theorem State.wrAll_dsp (v : Nat) (fs : List Fld) (s : State) : (s.wrAll v fs).dsp = s.dsp := by
  induction fs generalizing s with
  | nil => rfl
  | cons f t ih => rw [State.wrAll, ih]; rfl
@[simp] theorem State.wrAll_epo (v : Nat) (fs : List Fld) (s : State) : (s.wrAll v fs).epo = s.epo := by
  induction fs generalizing s with
  | nil => rfl
  | cons f t ih => rw [State.wrAll, ih]; rfl
@[simp] theorem State.wrAll_ldr (v : Nat) (fs : List Fld) (s : State) : (s.wrAll v fs).ldr = s.ldr := by
  induction fs generalizing s with
  | nil => rfl
  | cons f t ih => rw [State.wrAll, ih]; rfl
@[simp] theorem State.wrAll_trk (v : Nat) (fs : List Fld) (s : State) : (s.wrAll v fs).trk = s.trk := by
  induction fs generalizing s with
  | nil => rfl
  | cons f t ih => rw [State.wrAll, ih]; rfl
@[simp] theorem State.wrAll_gov (v : Nat) (fs : List Fld) (s : State) : (s.wrAll v fs).gov = s.gov := by
  induction fs generalizing s with
  | nil => rfl
  | cons f t ih => rw [State.wrAll, ih]; rfl
@[simp] theorem State.wrAll_zyp (v : Nat) (fs : List Fld) (s : State) : (s.wrAll v fs).zyp = s.zyp := by
  induction fs generalizing s with
  | nil => rfl
  | cons f t ih => rw [State.wrAll, ih]; rfl
@[simp] theorem State.wrAll_vlt (v : Nat) (fs : List Fld) (s : State) : (s.wrAll v fs).vlt = s.vlt := by
  induction fs generalizing s with
  | nil => rfl
  | cons f t ih => rw [State.wrAll, ih]; rfl
@[simp] theorem State.wrAll_rng (v : Nat) (fs : List Fld) (s : State) : (s.wrAll v fs).rng = s.rng := by
  induction fs generalizing s with
  | nil => rfl
  | cons f t ih => rw [State.wrAll, ih]; rfl
@[simp] theorem State.wrAll_cor (v : Nat) (fs : List Fld) (s : State) : (s.wrAll v fs).cor = s.cor := by
  induction fs generalizing s with
  | nil => rfl
  | cons f t ih => rw [State.wrAll, ih]; rfl
@[simp] theorem State.wrAll_cre (v : Nat) (fs : List Fld) (s : State) : (s.wrAll v fs).cre = s.cre := by
  induction fs generalizing s with
  | nil => rfl
  | cons f t ih => rw [State.wrAll, ih]; rfl
@[simp] theorem State.wrAll_nvm (v : Nat) (fs : List Fld) (s : State) : (s.wrAll v fs).nvm = s.nvm := by
  induction fs generalizing s with
  | nil => rfl
  | cons f t ih => rw [State.wrAll, ih]; rfl
@[simp] theorem State.wrAll_twn (v : Nat) (fs : List Fld) (s : State) : (s.wrAll v fs).twn = s.twn := by
  induction fs generalizing s with
  | nil => rfl
  | cons f t ih => rw [State.wrAll, ih]; rfl
@[simp] theorem State.wrAll_upd (v : Nat) (fs : List Fld) (s : State) : (s.wrAll v fs).upd = s.upd := by
  induction fs generalizing s with
  | nil => rfl
  | cons f t ih => rw [State.wrAll, ih]; rfl
@[simp] theorem State.wrAll_drm (v : Nat) (fs : List Fld) (s : State) : (s.wrAll v fs).drm = s.drm := by
  induction fs generalizing s with
  | nil => rfl
  | cons f t ih => rw [State.wrAll, ih]; rfl
@[simp] theorem State.wrAll_tly (v : Nat) (fs : List Fld) (s : State) : (s.wrAll v fs).tly = s.tly := by
  induction fs generalizing s with
  | nil => rfl
  | cons f t ih => rw [State.wrAll, ih]; rfl

/-! ## What `storeWith` leaves -/

@[simp] theorem State.storeWith_pending (s : State) (g : SettingsArea → SettingsArea) : (s.storeWith g).pending = s.pending := by
  simp only [State.storeWith]; repeat' split
  all_goals simp
@[simp] theorem State.storeWith_ctr (s : State) (g : SettingsArea → SettingsArea) : (s.storeWith g).ctr = s.ctr := by
  simp only [State.storeWith]; repeat' split
  all_goals simp
@[simp] theorem State.storeWith_fld (s : State) (g : SettingsArea → SettingsArea) : (s.storeWith g).fld = s.fld := by
  simp only [State.storeWith]; repeat' split
  all_goals simp
@[simp] theorem State.storeWith_shd (s : State) (g : SettingsArea → SettingsArea) : (s.storeWith g).shd = s.shd := by
  simp only [State.storeWith]; repeat' split
  all_goals simp
@[simp] theorem State.storeWith_cmt (s : State) (g : SettingsArea → SettingsArea) : (s.storeWith g).cmt = s.cmt := by
  simp only [State.storeWith]; repeat' split
  all_goals simp
@[simp] theorem State.storeWith_evq (s : State) (g : SettingsArea → SettingsArea) : (s.storeWith g).evq = s.evq := by
  simp only [State.storeWith]; repeat' split
  all_goals simp
@[simp] theorem State.storeWith_mode (s : State) (g : SettingsArea → SettingsArea) : (s.storeWith g).mode = s.mode := by
  simp only [State.storeWith]; repeat' split
  all_goals simp
@[simp] theorem State.storeWith_prev (s : State) (g : SettingsArea → SettingsArea) : (s.storeWith g).prev = s.prev := by
  simp only [State.storeWith]; repeat' split
  all_goals simp
@[simp] theorem State.storeWith_pwr (s : State) (g : SettingsArea → SettingsArea) : (s.storeWith g).pwr = s.pwr := by
  simp only [State.storeWith]; repeat' split
  all_goals simp
@[simp] theorem State.storeWith_hre (s : State) (g : SettingsArea → SettingsArea) : (s.storeWith g).hre = s.hre := by
  simp only [State.storeWith]; repeat' split
  all_goals simp
@[simp] theorem State.storeWith_chu (s : State) (g : SettingsArea → SettingsArea) : (s.storeWith g).chu = s.chu := by
  simp only [State.storeWith]; repeat' split
  all_goals simp
@[simp] theorem State.storeWith_trp (s : State) (g : SettingsArea → SettingsArea) : (s.storeWith g).trp = s.trp := by
  simp only [State.storeWith]; repeat' split
  all_goals simp
@[simp] theorem State.storeWith_tim (s : State) (g : SettingsArea → SettingsArea) : (s.storeWith g).tim = s.tim := by
  simp only [State.storeWith]; repeat' split
  all_goals simp
@[simp] theorem State.storeWith_mem (s : State) (g : SettingsArea → SettingsArea) : (s.storeWith g).mem = s.mem := by
  simp only [State.storeWith]; repeat' split
  all_goals simp
@[simp] theorem State.storeWith_ticks (s : State) (g : SettingsArea → SettingsArea) : (s.storeWith g).ticks = s.ticks := by
  simp only [State.storeWith]; repeat' split
  all_goals simp
@[simp] theorem State.storeWith_hst (s : State) (g : SettingsArea → SettingsArea) : (s.storeWith g).hst = s.hst := by
  simp only [State.storeWith]; repeat' split
  all_goals simp
@[simp] theorem State.storeWith_board (s : State) (g : SettingsArea → SettingsArea) : (s.storeWith g).board = s.board := by
  simp only [State.storeWith]; repeat' split
  all_goals simp
@[simp] theorem State.storeWith_dsp (s : State) (g : SettingsArea → SettingsArea) : (s.storeWith g).dsp = s.dsp := by
  simp only [State.storeWith]; repeat' split
  all_goals simp
@[simp] theorem State.storeWith_epo (s : State) (g : SettingsArea → SettingsArea) : (s.storeWith g).epo = s.epo := by
  simp only [State.storeWith]; repeat' split
  all_goals simp
@[simp] theorem State.storeWith_ldr (s : State) (g : SettingsArea → SettingsArea) : (s.storeWith g).ldr = s.ldr := by
  simp only [State.storeWith]; repeat' split
  all_goals simp
@[simp] theorem State.storeWith_trk (s : State) (g : SettingsArea → SettingsArea) : (s.storeWith g).trk = s.trk := by
  simp only [State.storeWith]; repeat' split
  all_goals simp
@[simp] theorem State.storeWith_gov (s : State) (g : SettingsArea → SettingsArea) : (s.storeWith g).gov = s.gov := by
  simp only [State.storeWith]; repeat' split
  all_goals simp
@[simp] theorem State.storeWith_zyp (s : State) (g : SettingsArea → SettingsArea) : (s.storeWith g).zyp = s.zyp := by
  simp only [State.storeWith]; repeat' split
  all_goals simp
@[simp] theorem State.storeWith_vlt (s : State) (g : SettingsArea → SettingsArea) : (s.storeWith g).vlt = s.vlt := by
  simp only [State.storeWith]; repeat' split
  all_goals simp
@[simp] theorem State.storeWith_rng (s : State) (g : SettingsArea → SettingsArea) : (s.storeWith g).rng = s.rng := by
  simp only [State.storeWith]; repeat' split
  all_goals simp
@[simp] theorem State.storeWith_cor (s : State) (g : SettingsArea → SettingsArea) : (s.storeWith g).cor = s.cor := by
  simp only [State.storeWith]; repeat' split
  all_goals simp
@[simp] theorem State.storeWith_cre (s : State) (g : SettingsArea → SettingsArea) : (s.storeWith g).cre = s.cre := by
  simp only [State.storeWith]; repeat' split
  all_goals simp
@[simp] theorem State.storeWith_twn (s : State) (g : SettingsArea → SettingsArea) : (s.storeWith g).twn = s.twn := by
  simp only [State.storeWith]; repeat' split
  all_goals simp
@[simp] theorem State.storeWith_upd (s : State) (g : SettingsArea → SettingsArea) : (s.storeWith g).upd = s.upd := by
  simp only [State.storeWith]; repeat' split
  all_goals simp
@[simp] theorem State.storeWith_drm (s : State) (g : SettingsArea → SettingsArea) : (s.storeWith g).drm = s.drm := by
  simp only [State.storeWith]; repeat' split
  all_goals simp
@[simp] theorem State.storeWith_tly (s : State) (g : SettingsArea → SettingsArea) : (s.storeWith g).tly = s.tly := by
  simp only [State.storeWith]; repeat' split
  all_goals simp

/-! ## What `storeFields` leaves -/

@[simp] theorem State.storeFields_pending (s : State) (fs : List Fld) : (s.storeFields fs).pending = s.pending := by
  simp only [State.storeFields]; repeat' split
  all_goals simp
@[simp] theorem State.storeFields_ctr (s : State) (fs : List Fld) : (s.storeFields fs).ctr = s.ctr := by
  simp only [State.storeFields]; repeat' split
  all_goals simp
@[simp] theorem State.storeFields_fld (s : State) (fs : List Fld) : (s.storeFields fs).fld = s.fld := by
  simp only [State.storeFields]; repeat' split
  all_goals simp
@[simp] theorem State.storeFields_shd (s : State) (fs : List Fld) : (s.storeFields fs).shd = s.shd := by
  simp only [State.storeFields]; repeat' split
  all_goals simp
@[simp] theorem State.storeFields_cmt (s : State) (fs : List Fld) : (s.storeFields fs).cmt = s.cmt := by
  simp only [State.storeFields]; repeat' split
  all_goals simp
@[simp] theorem State.storeFields_evq (s : State) (fs : List Fld) : (s.storeFields fs).evq = s.evq := by
  simp only [State.storeFields]; repeat' split
  all_goals simp
@[simp] theorem State.storeFields_mode (s : State) (fs : List Fld) : (s.storeFields fs).mode = s.mode := by
  simp only [State.storeFields]; repeat' split
  all_goals simp
@[simp] theorem State.storeFields_prev (s : State) (fs : List Fld) : (s.storeFields fs).prev = s.prev := by
  simp only [State.storeFields]; repeat' split
  all_goals simp
@[simp] theorem State.storeFields_pwr (s : State) (fs : List Fld) : (s.storeFields fs).pwr = s.pwr := by
  simp only [State.storeFields]; repeat' split
  all_goals simp
@[simp] theorem State.storeFields_hre (s : State) (fs : List Fld) : (s.storeFields fs).hre = s.hre := by
  simp only [State.storeFields]; repeat' split
  all_goals simp
@[simp] theorem State.storeFields_chu (s : State) (fs : List Fld) : (s.storeFields fs).chu = s.chu := by
  simp only [State.storeFields]; repeat' split
  all_goals simp
@[simp] theorem State.storeFields_trp (s : State) (fs : List Fld) : (s.storeFields fs).trp = s.trp := by
  simp only [State.storeFields]; repeat' split
  all_goals simp
@[simp] theorem State.storeFields_tim (s : State) (fs : List Fld) : (s.storeFields fs).tim = s.tim := by
  simp only [State.storeFields]; repeat' split
  all_goals simp
@[simp] theorem State.storeFields_mem (s : State) (fs : List Fld) : (s.storeFields fs).mem = s.mem := by
  simp only [State.storeFields]; repeat' split
  all_goals simp
@[simp] theorem State.storeFields_ticks (s : State) (fs : List Fld) : (s.storeFields fs).ticks = s.ticks := by
  simp only [State.storeFields]; repeat' split
  all_goals simp
@[simp] theorem State.storeFields_hst (s : State) (fs : List Fld) : (s.storeFields fs).hst = s.hst := by
  simp only [State.storeFields]; repeat' split
  all_goals simp
@[simp] theorem State.storeFields_board (s : State) (fs : List Fld) : (s.storeFields fs).board = s.board := by
  simp only [State.storeFields]; repeat' split
  all_goals simp
@[simp] theorem State.storeFields_dsp (s : State) (fs : List Fld) : (s.storeFields fs).dsp = s.dsp := by
  simp only [State.storeFields]; repeat' split
  all_goals simp
@[simp] theorem State.storeFields_epo (s : State) (fs : List Fld) : (s.storeFields fs).epo = s.epo := by
  simp only [State.storeFields]; repeat' split
  all_goals simp
@[simp] theorem State.storeFields_ldr (s : State) (fs : List Fld) : (s.storeFields fs).ldr = s.ldr := by
  simp only [State.storeFields]; repeat' split
  all_goals simp
@[simp] theorem State.storeFields_trk (s : State) (fs : List Fld) : (s.storeFields fs).trk = s.trk := by
  simp only [State.storeFields]; repeat' split
  all_goals simp
@[simp] theorem State.storeFields_gov (s : State) (fs : List Fld) : (s.storeFields fs).gov = s.gov := by
  simp only [State.storeFields]; repeat' split
  all_goals simp
@[simp] theorem State.storeFields_zyp (s : State) (fs : List Fld) : (s.storeFields fs).zyp = s.zyp := by
  simp only [State.storeFields]; repeat' split
  all_goals simp
@[simp] theorem State.storeFields_vlt (s : State) (fs : List Fld) : (s.storeFields fs).vlt = s.vlt := by
  simp only [State.storeFields]; repeat' split
  all_goals simp
@[simp] theorem State.storeFields_rng (s : State) (fs : List Fld) : (s.storeFields fs).rng = s.rng := by
  simp only [State.storeFields]; repeat' split
  all_goals simp
@[simp] theorem State.storeFields_cor (s : State) (fs : List Fld) : (s.storeFields fs).cor = s.cor := by
  simp only [State.storeFields]; repeat' split
  all_goals simp
@[simp] theorem State.storeFields_cre (s : State) (fs : List Fld) : (s.storeFields fs).cre = s.cre := by
  simp only [State.storeFields]; repeat' split
  all_goals simp
@[simp] theorem State.storeFields_twn (s : State) (fs : List Fld) : (s.storeFields fs).twn = s.twn := by
  simp only [State.storeFields]; repeat' split
  all_goals simp
@[simp] theorem State.storeFields_upd (s : State) (fs : List Fld) : (s.storeFields fs).upd = s.upd := by
  simp only [State.storeFields]; repeat' split
  all_goals simp
@[simp] theorem State.storeFields_drm (s : State) (fs : List Fld) : (s.storeFields fs).drm = s.drm := by
  simp only [State.storeFields]; repeat' split
  all_goals simp
@[simp] theorem State.storeFields_tly (s : State) (fs : List Fld) : (s.storeFields fs).tly = s.tly := by
  simp only [State.storeFields]; repeat' split
  all_goals simp

/-! ## What `commit` leaves -/

@[simp] theorem State.commit_pending (s : State) (r : Fld) (fs : List Fld) (v : Nat) : (s.commit r fs v).pending = s.pending := by
  simp only [State.commit]; repeat' split
  all_goals simp
@[simp] theorem State.commit_ctr (s : State) (r : Fld) (fs : List Fld) (v : Nat) : (s.commit r fs v).ctr = s.ctr := by
  simp only [State.commit]; repeat' split
  all_goals simp
@[simp] theorem State.commit_cmt (s : State) (r : Fld) (fs : List Fld) (v : Nat) : (s.commit r fs v).cmt = s.cmt := by
  simp only [State.commit]; repeat' split
  all_goals simp
@[simp] theorem State.commit_evq (s : State) (r : Fld) (fs : List Fld) (v : Nat) : (s.commit r fs v).evq = s.evq := by
  simp only [State.commit]; repeat' split
  all_goals simp
@[simp] theorem State.commit_mode (s : State) (r : Fld) (fs : List Fld) (v : Nat) : (s.commit r fs v).mode = s.mode := by
  simp only [State.commit]; repeat' split
  all_goals simp
@[simp] theorem State.commit_prev (s : State) (r : Fld) (fs : List Fld) (v : Nat) : (s.commit r fs v).prev = s.prev := by
  simp only [State.commit]; repeat' split
  all_goals simp
@[simp] theorem State.commit_pwr (s : State) (r : Fld) (fs : List Fld) (v : Nat) : (s.commit r fs v).pwr = s.pwr := by
  simp only [State.commit]; repeat' split
  all_goals simp
@[simp] theorem State.commit_hre (s : State) (r : Fld) (fs : List Fld) (v : Nat) : (s.commit r fs v).hre = s.hre := by
  simp only [State.commit]; repeat' split
  all_goals simp
@[simp] theorem State.commit_chu (s : State) (r : Fld) (fs : List Fld) (v : Nat) : (s.commit r fs v).chu = s.chu := by
  simp only [State.commit]; repeat' split
  all_goals simp
@[simp] theorem State.commit_trp (s : State) (r : Fld) (fs : List Fld) (v : Nat) : (s.commit r fs v).trp = s.trp := by
  simp only [State.commit]; repeat' split
  all_goals simp
@[simp] theorem State.commit_tim (s : State) (r : Fld) (fs : List Fld) (v : Nat) : (s.commit r fs v).tim = s.tim := by
  simp only [State.commit]; repeat' split
  all_goals simp
@[simp] theorem State.commit_mem (s : State) (r : Fld) (fs : List Fld) (v : Nat) : (s.commit r fs v).mem = s.mem := by
  simp only [State.commit]; repeat' split
  all_goals simp
@[simp] theorem State.commit_ticks (s : State) (r : Fld) (fs : List Fld) (v : Nat) : (s.commit r fs v).ticks = s.ticks := by
  simp only [State.commit]; repeat' split
  all_goals simp
@[simp] theorem State.commit_hst (s : State) (r : Fld) (fs : List Fld) (v : Nat) : (s.commit r fs v).hst = s.hst := by
  simp only [State.commit]; repeat' split
  all_goals simp
@[simp] theorem State.commit_board (s : State) (r : Fld) (fs : List Fld) (v : Nat) : (s.commit r fs v).board = s.board := by
  simp only [State.commit]; repeat' split
  all_goals simp
@[simp] theorem State.commit_dsp (s : State) (r : Fld) (fs : List Fld) (v : Nat) : (s.commit r fs v).dsp = s.dsp := by
  simp only [State.commit]; repeat' split
  all_goals simp
@[simp] theorem State.commit_epo (s : State) (r : Fld) (fs : List Fld) (v : Nat) : (s.commit r fs v).epo = s.epo := by
  simp only [State.commit]; repeat' split
  all_goals simp
@[simp] theorem State.commit_ldr (s : State) (r : Fld) (fs : List Fld) (v : Nat) : (s.commit r fs v).ldr = s.ldr := by
  simp only [State.commit]; repeat' split
  all_goals simp
@[simp] theorem State.commit_trk (s : State) (r : Fld) (fs : List Fld) (v : Nat) : (s.commit r fs v).trk = s.trk := by
  simp only [State.commit]; repeat' split
  all_goals simp
@[simp] theorem State.commit_gov (s : State) (r : Fld) (fs : List Fld) (v : Nat) : (s.commit r fs v).gov = s.gov := by
  simp only [State.commit]; repeat' split
  all_goals simp
@[simp] theorem State.commit_zyp (s : State) (r : Fld) (fs : List Fld) (v : Nat) : (s.commit r fs v).zyp = s.zyp := by
  simp only [State.commit]; repeat' split
  all_goals simp
@[simp] theorem State.commit_vlt (s : State) (r : Fld) (fs : List Fld) (v : Nat) : (s.commit r fs v).vlt = s.vlt := by
  simp only [State.commit]; repeat' split
  all_goals simp
@[simp] theorem State.commit_rng (s : State) (r : Fld) (fs : List Fld) (v : Nat) : (s.commit r fs v).rng = s.rng := by
  simp only [State.commit]; repeat' split
  all_goals simp
@[simp] theorem State.commit_cor (s : State) (r : Fld) (fs : List Fld) (v : Nat) : (s.commit r fs v).cor = s.cor := by
  simp only [State.commit]; repeat' split
  all_goals simp
@[simp] theorem State.commit_cre (s : State) (r : Fld) (fs : List Fld) (v : Nat) : (s.commit r fs v).cre = s.cre := by
  simp only [State.commit]; repeat' split
  all_goals simp
@[simp] theorem State.commit_twn (s : State) (r : Fld) (fs : List Fld) (v : Nat) : (s.commit r fs v).twn = s.twn := by
  simp only [State.commit]; repeat' split
  all_goals simp
@[simp] theorem State.commit_upd (s : State) (r : Fld) (fs : List Fld) (v : Nat) : (s.commit r fs v).upd = s.upd := by
  simp only [State.commit]; repeat' split
  all_goals simp
@[simp] theorem State.commit_drm (s : State) (r : Fld) (fs : List Fld) (v : Nat) : (s.commit r fs v).drm = s.drm := by
  simp only [State.commit]; repeat' split
  all_goals simp
@[simp] theorem State.commit_tly (s : State) (r : Fld) (fs : List Fld) (v : Nat) : (s.commit r fs v).tly = s.tly := by
  simp only [State.commit]; repeat' split
  all_goals simp

/-! ## What `endPending` leaves -/

@[simp] theorem State.endPending_pending (s : State) (r : Fld) (fs : List Fld) (v : Nat) : (s.endPending r fs v).pending = s.pending := by
  simp only [State.endPending]; repeat' split
  all_goals simp
@[simp] theorem State.endPending_ctr (s : State) (r : Fld) (fs : List Fld) (v : Nat) : (s.endPending r fs v).ctr = s.ctr := by
  simp only [State.endPending]; repeat' split
  all_goals simp
@[simp] theorem State.endPending_evq (s : State) (r : Fld) (fs : List Fld) (v : Nat) : (s.endPending r fs v).evq = s.evq := by
  simp only [State.endPending]; repeat' split
  all_goals simp
@[simp] theorem State.endPending_mode (s : State) (r : Fld) (fs : List Fld) (v : Nat) : (s.endPending r fs v).mode = s.mode := by
  simp only [State.endPending]; repeat' split
  all_goals simp
@[simp] theorem State.endPending_prev (s : State) (r : Fld) (fs : List Fld) (v : Nat) : (s.endPending r fs v).prev = s.prev := by
  simp only [State.endPending]; repeat' split
  all_goals simp
@[simp] theorem State.endPending_pwr (s : State) (r : Fld) (fs : List Fld) (v : Nat) : (s.endPending r fs v).pwr = s.pwr := by
  simp only [State.endPending]; repeat' split
  all_goals simp
@[simp] theorem State.endPending_hre (s : State) (r : Fld) (fs : List Fld) (v : Nat) : (s.endPending r fs v).hre = s.hre := by
  simp only [State.endPending]; repeat' split
  all_goals simp
@[simp] theorem State.endPending_chu (s : State) (r : Fld) (fs : List Fld) (v : Nat) : (s.endPending r fs v).chu = s.chu := by
  simp only [State.endPending]; repeat' split
  all_goals simp
@[simp] theorem State.endPending_trp (s : State) (r : Fld) (fs : List Fld) (v : Nat) : (s.endPending r fs v).trp = s.trp := by
  simp only [State.endPending]; repeat' split
  all_goals simp
@[simp] theorem State.endPending_tim (s : State) (r : Fld) (fs : List Fld) (v : Nat) : (s.endPending r fs v).tim = s.tim := by
  simp only [State.endPending]; repeat' split
  all_goals simp
@[simp] theorem State.endPending_mem (s : State) (r : Fld) (fs : List Fld) (v : Nat) : (s.endPending r fs v).mem = s.mem := by
  simp only [State.endPending]; repeat' split
  all_goals simp
@[simp] theorem State.endPending_ticks (s : State) (r : Fld) (fs : List Fld) (v : Nat) : (s.endPending r fs v).ticks = s.ticks := by
  simp only [State.endPending]; repeat' split
  all_goals simp
@[simp] theorem State.endPending_hst (s : State) (r : Fld) (fs : List Fld) (v : Nat) : (s.endPending r fs v).hst = s.hst := by
  simp only [State.endPending]; repeat' split
  all_goals simp
@[simp] theorem State.endPending_board (s : State) (r : Fld) (fs : List Fld) (v : Nat) : (s.endPending r fs v).board = s.board := by
  simp only [State.endPending]; repeat' split
  all_goals simp
@[simp] theorem State.endPending_dsp (s : State) (r : Fld) (fs : List Fld) (v : Nat) : (s.endPending r fs v).dsp = s.dsp := by
  simp only [State.endPending]; repeat' split
  all_goals simp
@[simp] theorem State.endPending_epo (s : State) (r : Fld) (fs : List Fld) (v : Nat) : (s.endPending r fs v).epo = s.epo := by
  simp only [State.endPending]; repeat' split
  all_goals simp
@[simp] theorem State.endPending_ldr (s : State) (r : Fld) (fs : List Fld) (v : Nat) : (s.endPending r fs v).ldr = s.ldr := by
  simp only [State.endPending]; repeat' split
  all_goals simp
@[simp] theorem State.endPending_trk (s : State) (r : Fld) (fs : List Fld) (v : Nat) : (s.endPending r fs v).trk = s.trk := by
  simp only [State.endPending]; repeat' split
  all_goals simp
@[simp] theorem State.endPending_gov (s : State) (r : Fld) (fs : List Fld) (v : Nat) : (s.endPending r fs v).gov = s.gov := by
  simp only [State.endPending]; repeat' split
  all_goals simp
@[simp] theorem State.endPending_zyp (s : State) (r : Fld) (fs : List Fld) (v : Nat) : (s.endPending r fs v).zyp = s.zyp := by
  simp only [State.endPending]; repeat' split
  all_goals simp
@[simp] theorem State.endPending_vlt (s : State) (r : Fld) (fs : List Fld) (v : Nat) : (s.endPending r fs v).vlt = s.vlt := by
  simp only [State.endPending]; repeat' split
  all_goals simp
@[simp] theorem State.endPending_rng (s : State) (r : Fld) (fs : List Fld) (v : Nat) : (s.endPending r fs v).rng = s.rng := by
  simp only [State.endPending]; repeat' split
  all_goals simp
@[simp] theorem State.endPending_cor (s : State) (r : Fld) (fs : List Fld) (v : Nat) : (s.endPending r fs v).cor = s.cor := by
  simp only [State.endPending]; repeat' split
  all_goals simp
@[simp] theorem State.endPending_cre (s : State) (r : Fld) (fs : List Fld) (v : Nat) : (s.endPending r fs v).cre = s.cre := by
  simp only [State.endPending]; repeat' split
  all_goals simp
@[simp] theorem State.endPending_twn (s : State) (r : Fld) (fs : List Fld) (v : Nat) : (s.endPending r fs v).twn = s.twn := by
  simp only [State.endPending]; repeat' split
  all_goals simp
@[simp] theorem State.endPending_upd (s : State) (r : Fld) (fs : List Fld) (v : Nat) : (s.endPending r fs v).upd = s.upd := by
  simp only [State.endPending]; repeat' split
  all_goals simp
@[simp] theorem State.endPending_drm (s : State) (r : Fld) (fs : List Fld) (v : Nat) : (s.endPending r fs v).drm = s.drm := by
  simp only [State.endPending]; repeat' split
  all_goals simp
@[simp] theorem State.endPending_tly (s : State) (r : Fld) (fs : List Fld) (v : Nat) : (s.endPending r fs v).tly = s.tly := by
  simp only [State.endPending]; repeat' split
  all_goals simp

/-! ## What `finish` leaves -/

@[simp] theorem State.finish_pending (s : State) (c : Cmd) (a b d : Nat) : (s.finish c a b d).pending = s.pending := by
  simp only [State.finish]; repeat' split
  all_goals simp
@[simp] theorem State.finish_ctr (s : State) (c : Cmd) (a b d : Nat) : (s.finish c a b d).ctr = s.ctr := by
  simp only [State.finish]; repeat' split
  all_goals simp
@[simp] theorem State.finish_fld (s : State) (c : Cmd) (a b d : Nat) : (s.finish c a b d).fld = s.fld := by
  simp only [State.finish]; repeat' split
  all_goals simp
@[simp] theorem State.finish_shd (s : State) (c : Cmd) (a b d : Nat) : (s.finish c a b d).shd = s.shd := by
  simp only [State.finish]; repeat' split
  all_goals simp
@[simp] theorem State.finish_cmt (s : State) (c : Cmd) (a b d : Nat) : (s.finish c a b d).cmt = s.cmt := by
  simp only [State.finish]; repeat' split
  all_goals simp
@[simp] theorem State.finish_evq (s : State) (c : Cmd) (a b d : Nat) : (s.finish c a b d).evq = s.evq := by
  simp only [State.finish]; repeat' split
  all_goals simp
@[simp] theorem State.finish_mode (s : State) (c : Cmd) (a b d : Nat) : (s.finish c a b d).mode = s.mode := by
  simp only [State.finish]; repeat' split
  all_goals simp
@[simp] theorem State.finish_prev (s : State) (c : Cmd) (a b d : Nat) : (s.finish c a b d).prev = s.prev := by
  simp only [State.finish]; repeat' split
  all_goals simp
@[simp] theorem State.finish_pwr (s : State) (c : Cmd) (a b d : Nat) : (s.finish c a b d).pwr = s.pwr := by
  simp only [State.finish]; repeat' split
  all_goals simp
@[simp] theorem State.finish_chu (s : State) (c : Cmd) (a b d : Nat) : (s.finish c a b d).chu = s.chu := by
  simp only [State.finish]; repeat' split
  all_goals simp
@[simp] theorem State.finish_trp (s : State) (c : Cmd) (a b d : Nat) : (s.finish c a b d).trp = s.trp := by
  simp only [State.finish]; repeat' split
  all_goals simp
@[simp] theorem State.finish_tim (s : State) (c : Cmd) (a b d : Nat) : (s.finish c a b d).tim = s.tim := by
  simp only [State.finish]; repeat' split
  all_goals simp
@[simp] theorem State.finish_mem (s : State) (c : Cmd) (a b d : Nat) : (s.finish c a b d).mem = s.mem := by
  simp only [State.finish]; repeat' split
  all_goals simp
@[simp] theorem State.finish_ticks (s : State) (c : Cmd) (a b d : Nat) : (s.finish c a b d).ticks = s.ticks := by
  simp only [State.finish]; repeat' split
  all_goals simp
@[simp] theorem State.finish_hst (s : State) (c : Cmd) (a b d : Nat) : (s.finish c a b d).hst = s.hst := by
  simp only [State.finish]; repeat' split
  all_goals simp
@[simp] theorem State.finish_board (s : State) (c : Cmd) (a b d : Nat) : (s.finish c a b d).board = s.board := by
  simp only [State.finish]; repeat' split
  all_goals simp
@[simp] theorem State.finish_dsp (s : State) (c : Cmd) (a b d : Nat) : (s.finish c a b d).dsp = s.dsp := by
  simp only [State.finish]; repeat' split
  all_goals simp
@[simp] theorem State.finish_epo (s : State) (c : Cmd) (a b d : Nat) : (s.finish c a b d).epo = s.epo := by
  simp only [State.finish]; repeat' split
  all_goals simp
@[simp] theorem State.finish_ldr (s : State) (c : Cmd) (a b d : Nat) : (s.finish c a b d).ldr = s.ldr := by
  simp only [State.finish]; repeat' split
  all_goals simp
@[simp] theorem State.finish_trk (s : State) (c : Cmd) (a b d : Nat) : (s.finish c a b d).trk = s.trk := by
  simp only [State.finish]; repeat' split
  all_goals simp
@[simp] theorem State.finish_gov (s : State) (c : Cmd) (a b d : Nat) : (s.finish c a b d).gov = s.gov := by
  simp only [State.finish]; repeat' split
  all_goals simp
@[simp] theorem State.finish_zyp (s : State) (c : Cmd) (a b d : Nat) : (s.finish c a b d).zyp = s.zyp := by
  simp only [State.finish]; repeat' split
  all_goals simp
@[simp] theorem State.finish_vlt (s : State) (c : Cmd) (a b d : Nat) : (s.finish c a b d).vlt = s.vlt := by
  simp only [State.finish]; repeat' split
  all_goals simp
@[simp] theorem State.finish_rng (s : State) (c : Cmd) (a b d : Nat) : (s.finish c a b d).rng = s.rng := by
  simp only [State.finish]; repeat' split
  all_goals simp
@[simp] theorem State.finish_cor (s : State) (c : Cmd) (a b d : Nat) : (s.finish c a b d).cor = s.cor := by
  simp only [State.finish]; repeat' split
  all_goals simp
@[simp] theorem State.finish_cre (s : State) (c : Cmd) (a b d : Nat) : (s.finish c a b d).cre = s.cre := by
  simp only [State.finish]; repeat' split
  all_goals simp
@[simp] theorem State.finish_nvm (s : State) (c : Cmd) (a b d : Nat) : (s.finish c a b d).nvm = s.nvm := by
  simp only [State.finish]; repeat' split
  all_goals simp
@[simp] theorem State.finish_twn (s : State) (c : Cmd) (a b d : Nat) : (s.finish c a b d).twn = s.twn := by
  simp only [State.finish]; repeat' split
  all_goals simp
@[simp] theorem State.finish_upd (s : State) (c : Cmd) (a b d : Nat) : (s.finish c a b d).upd = s.upd := by
  simp only [State.finish]; repeat' split
  all_goals simp
@[simp] theorem State.finish_drm (s : State) (c : Cmd) (a b d : Nat) : (s.finish c a b d).drm = s.drm := by
  simp only [State.finish]; repeat' split
  all_goals simp
@[simp] theorem State.finish_tly (s : State) (c : Cmd) (a b d : Nat) : (s.finish c a b d).tly = s.tly := by
  simp only [State.finish]; repeat' split
  all_goals simp

/-! ## What `finishData` leaves -/

@[simp] theorem State.finishData_pending (s : State) (c : Cmd) (l : List Nat) : (s.finishData c l).pending = s.pending := by
  simp only [State.finishData]; repeat' split
  all_goals simp
@[simp] theorem State.finishData_ctr (s : State) (c : Cmd) (l : List Nat) : (s.finishData c l).ctr = s.ctr := by
  simp only [State.finishData]; repeat' split
  all_goals simp
@[simp] theorem State.finishData_fld (s : State) (c : Cmd) (l : List Nat) : (s.finishData c l).fld = s.fld := by
  simp only [State.finishData]; repeat' split
  all_goals simp
@[simp] theorem State.finishData_shd (s : State) (c : Cmd) (l : List Nat) : (s.finishData c l).shd = s.shd := by
  simp only [State.finishData]; repeat' split
  all_goals simp
@[simp] theorem State.finishData_cmt (s : State) (c : Cmd) (l : List Nat) : (s.finishData c l).cmt = s.cmt := by
  simp only [State.finishData]; repeat' split
  all_goals simp
@[simp] theorem State.finishData_evq (s : State) (c : Cmd) (l : List Nat) : (s.finishData c l).evq = s.evq := by
  simp only [State.finishData]; repeat' split
  all_goals simp
@[simp] theorem State.finishData_mode (s : State) (c : Cmd) (l : List Nat) : (s.finishData c l).mode = s.mode := by
  simp only [State.finishData]; repeat' split
  all_goals simp
@[simp] theorem State.finishData_prev (s : State) (c : Cmd) (l : List Nat) : (s.finishData c l).prev = s.prev := by
  simp only [State.finishData]; repeat' split
  all_goals simp
@[simp] theorem State.finishData_pwr (s : State) (c : Cmd) (l : List Nat) : (s.finishData c l).pwr = s.pwr := by
  simp only [State.finishData]; repeat' split
  all_goals simp
@[simp] theorem State.finishData_chu (s : State) (c : Cmd) (l : List Nat) : (s.finishData c l).chu = s.chu := by
  simp only [State.finishData]; repeat' split
  all_goals simp
@[simp] theorem State.finishData_trp (s : State) (c : Cmd) (l : List Nat) : (s.finishData c l).trp = s.trp := by
  simp only [State.finishData]; repeat' split
  all_goals simp
@[simp] theorem State.finishData_tim (s : State) (c : Cmd) (l : List Nat) : (s.finishData c l).tim = s.tim := by
  simp only [State.finishData]; repeat' split
  all_goals simp
@[simp] theorem State.finishData_mem (s : State) (c : Cmd) (l : List Nat) : (s.finishData c l).mem = s.mem := by
  simp only [State.finishData]; repeat' split
  all_goals simp
@[simp] theorem State.finishData_ticks (s : State) (c : Cmd) (l : List Nat) : (s.finishData c l).ticks = s.ticks := by
  simp only [State.finishData]; repeat' split
  all_goals simp
@[simp] theorem State.finishData_hst (s : State) (c : Cmd) (l : List Nat) : (s.finishData c l).hst = s.hst := by
  simp only [State.finishData]; repeat' split
  all_goals simp
@[simp] theorem State.finishData_board (s : State) (c : Cmd) (l : List Nat) : (s.finishData c l).board = s.board := by
  simp only [State.finishData]; repeat' split
  all_goals simp
@[simp] theorem State.finishData_dsp (s : State) (c : Cmd) (l : List Nat) : (s.finishData c l).dsp = s.dsp := by
  simp only [State.finishData]; repeat' split
  all_goals simp
@[simp] theorem State.finishData_epo (s : State) (c : Cmd) (l : List Nat) : (s.finishData c l).epo = s.epo := by
  simp only [State.finishData]; repeat' split
  all_goals simp
@[simp] theorem State.finishData_ldr (s : State) (c : Cmd) (l : List Nat) : (s.finishData c l).ldr = s.ldr := by
  simp only [State.finishData]; repeat' split
  all_goals simp
@[simp] theorem State.finishData_trk (s : State) (c : Cmd) (l : List Nat) : (s.finishData c l).trk = s.trk := by
  simp only [State.finishData]; repeat' split
  all_goals simp
@[simp] theorem State.finishData_gov (s : State) (c : Cmd) (l : List Nat) : (s.finishData c l).gov = s.gov := by
  simp only [State.finishData]; repeat' split
  all_goals simp
@[simp] theorem State.finishData_zyp (s : State) (c : Cmd) (l : List Nat) : (s.finishData c l).zyp = s.zyp := by
  simp only [State.finishData]; repeat' split
  all_goals simp
@[simp] theorem State.finishData_vlt (s : State) (c : Cmd) (l : List Nat) : (s.finishData c l).vlt = s.vlt := by
  simp only [State.finishData]; repeat' split
  all_goals simp
@[simp] theorem State.finishData_rng (s : State) (c : Cmd) (l : List Nat) : (s.finishData c l).rng = s.rng := by
  simp only [State.finishData]; repeat' split
  all_goals simp
@[simp] theorem State.finishData_cor (s : State) (c : Cmd) (l : List Nat) : (s.finishData c l).cor = s.cor := by
  simp only [State.finishData]; repeat' split
  all_goals simp
@[simp] theorem State.finishData_cre (s : State) (c : Cmd) (l : List Nat) : (s.finishData c l).cre = s.cre := by
  simp only [State.finishData]; repeat' split
  all_goals simp
@[simp] theorem State.finishData_nvm (s : State) (c : Cmd) (l : List Nat) : (s.finishData c l).nvm = s.nvm := by
  simp only [State.finishData]; repeat' split
  all_goals simp
@[simp] theorem State.finishData_twn (s : State) (c : Cmd) (l : List Nat) : (s.finishData c l).twn = s.twn := by
  simp only [State.finishData]; repeat' split
  all_goals simp
@[simp] theorem State.finishData_upd (s : State) (c : Cmd) (l : List Nat) : (s.finishData c l).upd = s.upd := by
  simp only [State.finishData]; repeat' split
  all_goals simp
@[simp] theorem State.finishData_drm (s : State) (c : Cmd) (l : List Nat) : (s.finishData c l).drm = s.drm := by
  simp only [State.finishData]; repeat' split
  all_goals simp
@[simp] theorem State.finishData_tly (s : State) (c : Cmd) (l : List Nat) : (s.finishData c l).tly = s.tly := by
  simp only [State.finishData]; repeat' split
  all_goals simp

/-! ## What `begun` leaves -/

@[simp] theorem State.begun_pending (s : State) (c : Cmd) : (s.begun c).pending = s.pending := by
  simp only [State.begun]; repeat' split
  all_goals simp
@[simp] theorem State.begun_ctr (s : State) (c : Cmd) : (s.begun c).ctr = s.ctr := by
  simp only [State.begun]; repeat' split
  all_goals simp
@[simp] theorem State.begun_fld (s : State) (c : Cmd) : (s.begun c).fld = s.fld := by
  simp only [State.begun]; repeat' split
  all_goals simp
@[simp] theorem State.begun_shd (s : State) (c : Cmd) : (s.begun c).shd = s.shd := by
  simp only [State.begun]; repeat' split
  all_goals simp
@[simp] theorem State.begun_cmt (s : State) (c : Cmd) : (s.begun c).cmt = s.cmt := by
  simp only [State.begun]; repeat' split
  all_goals simp
@[simp] theorem State.begun_evq (s : State) (c : Cmd) : (s.begun c).evq = s.evq := by
  simp only [State.begun]; repeat' split
  all_goals simp
@[simp] theorem State.begun_mode (s : State) (c : Cmd) : (s.begun c).mode = s.mode := by
  simp only [State.begun]; repeat' split
  all_goals simp
@[simp] theorem State.begun_prev (s : State) (c : Cmd) : (s.begun c).prev = s.prev := by
  simp only [State.begun]; repeat' split
  all_goals simp
@[simp] theorem State.begun_pwr (s : State) (c : Cmd) : (s.begun c).pwr = s.pwr := by
  simp only [State.begun]; repeat' split
  all_goals simp
@[simp] theorem State.begun_chu (s : State) (c : Cmd) : (s.begun c).chu = s.chu := by
  simp only [State.begun]; repeat' split
  all_goals simp
@[simp] theorem State.begun_trp (s : State) (c : Cmd) : (s.begun c).trp = s.trp := by
  simp only [State.begun]; repeat' split
  all_goals simp
@[simp] theorem State.begun_tim (s : State) (c : Cmd) : (s.begun c).tim = s.tim := by
  simp only [State.begun]; repeat' split
  all_goals simp
@[simp] theorem State.begun_mem (s : State) (c : Cmd) : (s.begun c).mem = s.mem := by
  simp only [State.begun]; repeat' split
  all_goals simp
@[simp] theorem State.begun_ticks (s : State) (c : Cmd) : (s.begun c).ticks = s.ticks := by
  simp only [State.begun]; repeat' split
  all_goals simp
@[simp] theorem State.begun_hst (s : State) (c : Cmd) : (s.begun c).hst = s.hst := by
  simp only [State.begun]; repeat' split
  all_goals simp
@[simp] theorem State.begun_board (s : State) (c : Cmd) : (s.begun c).board = s.board := by
  simp only [State.begun]; repeat' split
  all_goals simp
@[simp] theorem State.begun_dsp (s : State) (c : Cmd) : (s.begun c).dsp = s.dsp := by
  simp only [State.begun]; repeat' split
  all_goals simp
@[simp] theorem State.begun_epo (s : State) (c : Cmd) : (s.begun c).epo = s.epo := by
  simp only [State.begun]; repeat' split
  all_goals simp
@[simp] theorem State.begun_ldr (s : State) (c : Cmd) : (s.begun c).ldr = s.ldr := by
  simp only [State.begun]; repeat' split
  all_goals simp
@[simp] theorem State.begun_trk (s : State) (c : Cmd) : (s.begun c).trk = s.trk := by
  simp only [State.begun]; repeat' split
  all_goals simp
@[simp] theorem State.begun_gov (s : State) (c : Cmd) : (s.begun c).gov = s.gov := by
  simp only [State.begun]; repeat' split
  all_goals simp
@[simp] theorem State.begun_zyp (s : State) (c : Cmd) : (s.begun c).zyp = s.zyp := by
  simp only [State.begun]; repeat' split
  all_goals simp
@[simp] theorem State.begun_vlt (s : State) (c : Cmd) : (s.begun c).vlt = s.vlt := by
  simp only [State.begun]; repeat' split
  all_goals simp
@[simp] theorem State.begun_rng (s : State) (c : Cmd) : (s.begun c).rng = s.rng := by
  simp only [State.begun]; repeat' split
  all_goals simp
@[simp] theorem State.begun_cor (s : State) (c : Cmd) : (s.begun c).cor = s.cor := by
  simp only [State.begun]; repeat' split
  all_goals simp
@[simp] theorem State.begun_cre (s : State) (c : Cmd) : (s.begun c).cre = s.cre := by
  simp only [State.begun]; repeat' split
  all_goals simp
@[simp] theorem State.begun_nvm (s : State) (c : Cmd) : (s.begun c).nvm = s.nvm := by
  simp only [State.begun]; repeat' split
  all_goals simp
@[simp] theorem State.begun_twn (s : State) (c : Cmd) : (s.begun c).twn = s.twn := by
  simp only [State.begun]; repeat' split
  all_goals simp
@[simp] theorem State.begun_upd (s : State) (c : Cmd) : (s.begun c).upd = s.upd := by
  simp only [State.begun]; repeat' split
  all_goals simp
@[simp] theorem State.begun_drm (s : State) (c : Cmd) : (s.begun c).drm = s.drm := by
  simp only [State.begun]; repeat' split
  all_goals simp
@[simp] theorem State.begun_tly (s : State) (c : Cmd) : (s.begun c).tly = s.tly := by
  simp only [State.begun]; repeat' split
  all_goals simp

/-! ## What `modeResult` leaves -/

@[simp] theorem State.modeResult_pending (s : State) (a b : Nat) : (s.modeResult a b).pending = s.pending := by
  simp only [State.modeResult]; repeat' split
  all_goals simp
@[simp] theorem State.modeResult_ctr (s : State) (a b : Nat) : (s.modeResult a b).ctr = s.ctr := by
  simp only [State.modeResult]; repeat' split
  all_goals simp
@[simp] theorem State.modeResult_shd (s : State) (a b : Nat) : (s.modeResult a b).shd = s.shd := by
  simp only [State.modeResult]; repeat' split
  all_goals simp
@[simp] theorem State.modeResult_cmt (s : State) (a b : Nat) : (s.modeResult a b).cmt = s.cmt := by
  simp only [State.modeResult]; repeat' split
  all_goals simp
@[simp] theorem State.modeResult_evq (s : State) (a b : Nat) : (s.modeResult a b).evq = s.evq := by
  simp only [State.modeResult]; repeat' split
  all_goals simp
@[simp] theorem State.modeResult_mode (s : State) (a b : Nat) : (s.modeResult a b).mode = s.mode := by
  simp only [State.modeResult]; repeat' split
  all_goals simp
@[simp] theorem State.modeResult_prev (s : State) (a b : Nat) : (s.modeResult a b).prev = s.prev := by
  simp only [State.modeResult]; repeat' split
  all_goals simp
@[simp] theorem State.modeResult_pwr (s : State) (a b : Nat) : (s.modeResult a b).pwr = s.pwr := by
  simp only [State.modeResult]; repeat' split
  all_goals simp
@[simp] theorem State.modeResult_hre (s : State) (a b : Nat) : (s.modeResult a b).hre = s.hre := by
  simp only [State.modeResult]; repeat' split
  all_goals simp
@[simp] theorem State.modeResult_chu (s : State) (a b : Nat) : (s.modeResult a b).chu = s.chu := by
  simp only [State.modeResult]; repeat' split
  all_goals simp
@[simp] theorem State.modeResult_trp (s : State) (a b : Nat) : (s.modeResult a b).trp = s.trp := by
  simp only [State.modeResult]; repeat' split
  all_goals simp
@[simp] theorem State.modeResult_tim (s : State) (a b : Nat) : (s.modeResult a b).tim = s.tim := by
  simp only [State.modeResult]; repeat' split
  all_goals simp
@[simp] theorem State.modeResult_mem (s : State) (a b : Nat) : (s.modeResult a b).mem = s.mem := by
  simp only [State.modeResult]; repeat' split
  all_goals simp
@[simp] theorem State.modeResult_ticks (s : State) (a b : Nat) : (s.modeResult a b).ticks = s.ticks := by
  simp only [State.modeResult]; repeat' split
  all_goals simp
@[simp] theorem State.modeResult_hst (s : State) (a b : Nat) : (s.modeResult a b).hst = s.hst := by
  simp only [State.modeResult]; repeat' split
  all_goals simp
@[simp] theorem State.modeResult_board (s : State) (a b : Nat) : (s.modeResult a b).board = s.board := by
  simp only [State.modeResult]; repeat' split
  all_goals simp
@[simp] theorem State.modeResult_dsp (s : State) (a b : Nat) : (s.modeResult a b).dsp = s.dsp := by
  simp only [State.modeResult]; repeat' split
  all_goals simp
@[simp] theorem State.modeResult_epo (s : State) (a b : Nat) : (s.modeResult a b).epo = s.epo := by
  simp only [State.modeResult]; repeat' split
  all_goals simp
@[simp] theorem State.modeResult_ldr (s : State) (a b : Nat) : (s.modeResult a b).ldr = s.ldr := by
  simp only [State.modeResult]; repeat' split
  all_goals simp
@[simp] theorem State.modeResult_trk (s : State) (a b : Nat) : (s.modeResult a b).trk = s.trk := by
  simp only [State.modeResult]; repeat' split
  all_goals simp
@[simp] theorem State.modeResult_gov (s : State) (a b : Nat) : (s.modeResult a b).gov = s.gov := by
  simp only [State.modeResult]; repeat' split
  all_goals simp
@[simp] theorem State.modeResult_zyp (s : State) (a b : Nat) : (s.modeResult a b).zyp = s.zyp := by
  simp only [State.modeResult]; repeat' split
  all_goals simp
@[simp] theorem State.modeResult_vlt (s : State) (a b : Nat) : (s.modeResult a b).vlt = s.vlt := by
  simp only [State.modeResult]; repeat' split
  all_goals simp
@[simp] theorem State.modeResult_rng (s : State) (a b : Nat) : (s.modeResult a b).rng = s.rng := by
  simp only [State.modeResult]; repeat' split
  all_goals simp
@[simp] theorem State.modeResult_cor (s : State) (a b : Nat) : (s.modeResult a b).cor = s.cor := by
  simp only [State.modeResult]; repeat' split
  all_goals simp
@[simp] theorem State.modeResult_cre (s : State) (a b : Nat) : (s.modeResult a b).cre = s.cre := by
  simp only [State.modeResult]; repeat' split
  all_goals simp
@[simp] theorem State.modeResult_nvm (s : State) (a b : Nat) : (s.modeResult a b).nvm = s.nvm := by
  simp only [State.modeResult]; repeat' split
  all_goals simp
@[simp] theorem State.modeResult_twn (s : State) (a b : Nat) : (s.modeResult a b).twn = s.twn := by
  simp only [State.modeResult]; repeat' split
  all_goals simp
@[simp] theorem State.modeResult_upd (s : State) (a b : Nat) : (s.modeResult a b).upd = s.upd := by
  simp only [State.modeResult]; repeat' split
  all_goals simp
@[simp] theorem State.modeResult_drm (s : State) (a b : Nat) : (s.modeResult a b).drm = s.drm := by
  simp only [State.modeResult]; repeat' split
  all_goals simp
@[simp] theorem State.modeResult_tly (s : State) (a b : Nat) : (s.modeResult a b).tly = s.tly := by
  simp only [State.modeResult]; repeat' split
  all_goals simp

/-! ## What `rails` leaves -/

@[simp] theorem State.rails_pending (s : State) (a b : Bool) : (s.rails a b).pending = s.pending := by
  simp only [State.rails]; repeat' split
  all_goals simp
@[simp] theorem State.rails_ctr (s : State) (a b : Bool) : (s.rails a b).ctr = s.ctr := by
  simp only [State.rails]; repeat' split
  all_goals simp
@[simp] theorem State.rails_shd (s : State) (a b : Bool) : (s.rails a b).shd = s.shd := by
  simp only [State.rails]; repeat' split
  all_goals simp
@[simp] theorem State.rails_cmt (s : State) (a b : Bool) : (s.rails a b).cmt = s.cmt := by
  simp only [State.rails]; repeat' split
  all_goals simp
@[simp] theorem State.rails_evq (s : State) (a b : Bool) : (s.rails a b).evq = s.evq := by
  simp only [State.rails]; repeat' split
  all_goals simp
@[simp] theorem State.rails_mode (s : State) (a b : Bool) : (s.rails a b).mode = s.mode := by
  simp only [State.rails]; repeat' split
  all_goals simp
@[simp] theorem State.rails_prev (s : State) (a b : Bool) : (s.rails a b).prev = s.prev := by
  simp only [State.rails]; repeat' split
  all_goals simp
@[simp] theorem State.rails_pwr (s : State) (a b : Bool) : (s.rails a b).pwr = s.pwr := by
  simp only [State.rails]; repeat' split
  all_goals simp
@[simp] theorem State.rails_hre (s : State) (a b : Bool) : (s.rails a b).hre = s.hre := by
  simp only [State.rails]; repeat' split
  all_goals simp
@[simp] theorem State.rails_chu (s : State) (a b : Bool) : (s.rails a b).chu = s.chu := by
  simp only [State.rails]; repeat' split
  all_goals simp
@[simp] theorem State.rails_trp (s : State) (a b : Bool) : (s.rails a b).trp = s.trp := by
  simp only [State.rails]; repeat' split
  all_goals simp
@[simp] theorem State.rails_tim (s : State) (a b : Bool) : (s.rails a b).tim = s.tim := by
  simp only [State.rails]; repeat' split
  all_goals simp
@[simp] theorem State.rails_mem (s : State) (a b : Bool) : (s.rails a b).mem = s.mem := by
  simp only [State.rails]; repeat' split
  all_goals simp
@[simp] theorem State.rails_ticks (s : State) (a b : Bool) : (s.rails a b).ticks = s.ticks := by
  simp only [State.rails]; repeat' split
  all_goals simp
@[simp] theorem State.rails_hst (s : State) (a b : Bool) : (s.rails a b).hst = s.hst := by
  simp only [State.rails]; repeat' split
  all_goals simp
@[simp] theorem State.rails_board (s : State) (a b : Bool) : (s.rails a b).board = s.board := by
  simp only [State.rails]; repeat' split
  all_goals simp
@[simp] theorem State.rails_dsp (s : State) (a b : Bool) : (s.rails a b).dsp = s.dsp := by
  simp only [State.rails]; repeat' split
  all_goals simp
@[simp] theorem State.rails_epo (s : State) (a b : Bool) : (s.rails a b).epo = s.epo := by
  simp only [State.rails]; repeat' split
  all_goals simp
@[simp] theorem State.rails_ldr (s : State) (a b : Bool) : (s.rails a b).ldr = s.ldr := by
  simp only [State.rails]; repeat' split
  all_goals simp
@[simp] theorem State.rails_trk (s : State) (a b : Bool) : (s.rails a b).trk = s.trk := by
  simp only [State.rails]; repeat' split
  all_goals simp
@[simp] theorem State.rails_gov (s : State) (a b : Bool) : (s.rails a b).gov = s.gov := by
  simp only [State.rails]; repeat' split
  all_goals simp
@[simp] theorem State.rails_zyp (s : State) (a b : Bool) : (s.rails a b).zyp = s.zyp := by
  simp only [State.rails]; repeat' split
  all_goals simp
@[simp] theorem State.rails_vlt (s : State) (a b : Bool) : (s.rails a b).vlt = s.vlt := by
  simp only [State.rails]; repeat' split
  all_goals simp
@[simp] theorem State.rails_rng (s : State) (a b : Bool) : (s.rails a b).rng = s.rng := by
  simp only [State.rails]; repeat' split
  all_goals simp
@[simp] theorem State.rails_cor (s : State) (a b : Bool) : (s.rails a b).cor = s.cor := by
  simp only [State.rails]; repeat' split
  all_goals simp
@[simp] theorem State.rails_cre (s : State) (a b : Bool) : (s.rails a b).cre = s.cre := by
  simp only [State.rails]; repeat' split
  all_goals simp
@[simp] theorem State.rails_nvm (s : State) (a b : Bool) : (s.rails a b).nvm = s.nvm := by
  simp only [State.rails]; repeat' split
  all_goals simp
@[simp] theorem State.rails_twn (s : State) (a b : Bool) : (s.rails a b).twn = s.twn := by
  simp only [State.rails]; repeat' split
  all_goals simp
@[simp] theorem State.rails_upd (s : State) (a b : Bool) : (s.rails a b).upd = s.upd := by
  simp only [State.rails]; repeat' split
  all_goals simp
@[simp] theorem State.rails_drm (s : State) (a b : Bool) : (s.rails a b).drm = s.drm := by
  simp only [State.rails]; repeat' split
  all_goals simp
@[simp] theorem State.rails_tly (s : State) (a b : Bool) : (s.rails a b).tly = s.tly := by
  simp only [State.rails]; repeat' split
  all_goals simp

/-! ## What `showMeas` leaves -/

@[simp] theorem State.showMeas_pending (s : State) : (s.showMeas).pending = s.pending := by
  simp only [State.showMeas]; repeat' split
  all_goals simp
@[simp] theorem State.showMeas_ctr (s : State) : (s.showMeas).ctr = s.ctr := by
  simp only [State.showMeas]; repeat' split
  all_goals simp
@[simp] theorem State.showMeas_shd (s : State) : (s.showMeas).shd = s.shd := by
  simp only [State.showMeas]; repeat' split
  all_goals simp
@[simp] theorem State.showMeas_cmt (s : State) : (s.showMeas).cmt = s.cmt := by
  simp only [State.showMeas]; repeat' split
  all_goals simp
@[simp] theorem State.showMeas_evq (s : State) : (s.showMeas).evq = s.evq := by
  simp only [State.showMeas]; repeat' split
  all_goals simp
@[simp] theorem State.showMeas_mode (s : State) : (s.showMeas).mode = s.mode := by
  simp only [State.showMeas]; repeat' split
  all_goals simp
@[simp] theorem State.showMeas_prev (s : State) : (s.showMeas).prev = s.prev := by
  simp only [State.showMeas]; repeat' split
  all_goals simp
@[simp] theorem State.showMeas_pwr (s : State) : (s.showMeas).pwr = s.pwr := by
  simp only [State.showMeas]; repeat' split
  all_goals simp
@[simp] theorem State.showMeas_hre (s : State) : (s.showMeas).hre = s.hre := by
  simp only [State.showMeas]; repeat' split
  all_goals simp
@[simp] theorem State.showMeas_chu (s : State) : (s.showMeas).chu = s.chu := by
  simp only [State.showMeas]; repeat' split
  all_goals simp
@[simp] theorem State.showMeas_trp (s : State) : (s.showMeas).trp = s.trp := by
  simp only [State.showMeas]; repeat' split
  all_goals simp
@[simp] theorem State.showMeas_tim (s : State) : (s.showMeas).tim = s.tim := by
  simp only [State.showMeas]; repeat' split
  all_goals simp
@[simp] theorem State.showMeas_mem (s : State) : (s.showMeas).mem = s.mem := by
  simp only [State.showMeas]; repeat' split
  all_goals simp
@[simp] theorem State.showMeas_ticks (s : State) : (s.showMeas).ticks = s.ticks := by
  simp only [State.showMeas]; repeat' split
  all_goals simp
@[simp] theorem State.showMeas_hst (s : State) : (s.showMeas).hst = s.hst := by
  simp only [State.showMeas]; repeat' split
  all_goals simp
@[simp] theorem State.showMeas_board (s : State) : (s.showMeas).board = s.board := by
  simp only [State.showMeas]; repeat' split
  all_goals simp
@[simp] theorem State.showMeas_dsp (s : State) : (s.showMeas).dsp = s.dsp := by
  simp only [State.showMeas]; repeat' split
  all_goals simp
@[simp] theorem State.showMeas_epo (s : State) : (s.showMeas).epo = s.epo := by
  simp only [State.showMeas]; repeat' split
  all_goals simp
@[simp] theorem State.showMeas_ldr (s : State) : (s.showMeas).ldr = s.ldr := by
  simp only [State.showMeas]; repeat' split
  all_goals simp
@[simp] theorem State.showMeas_trk (s : State) : (s.showMeas).trk = s.trk := by
  simp only [State.showMeas]; repeat' split
  all_goals simp
@[simp] theorem State.showMeas_gov (s : State) : (s.showMeas).gov = s.gov := by
  simp only [State.showMeas]; repeat' split
  all_goals simp
@[simp] theorem State.showMeas_zyp (s : State) : (s.showMeas).zyp = s.zyp := by
  simp only [State.showMeas]; repeat' split
  all_goals simp
@[simp] theorem State.showMeas_vlt (s : State) : (s.showMeas).vlt = s.vlt := by
  simp only [State.showMeas]; repeat' split
  all_goals simp
@[simp] theorem State.showMeas_rng (s : State) : (s.showMeas).rng = s.rng := by
  simp only [State.showMeas]; repeat' split
  all_goals simp
@[simp] theorem State.showMeas_cor (s : State) : (s.showMeas).cor = s.cor := by
  simp only [State.showMeas]; repeat' split
  all_goals simp
@[simp] theorem State.showMeas_cre (s : State) : (s.showMeas).cre = s.cre := by
  simp only [State.showMeas]; repeat' split
  all_goals simp
@[simp] theorem State.showMeas_nvm (s : State) : (s.showMeas).nvm = s.nvm := by
  simp only [State.showMeas]; repeat' split
  all_goals simp
@[simp] theorem State.showMeas_twn (s : State) : (s.showMeas).twn = s.twn := by
  simp only [State.showMeas]; repeat' split
  all_goals simp
@[simp] theorem State.showMeas_upd (s : State) : (s.showMeas).upd = s.upd := by
  simp only [State.showMeas]; repeat' split
  all_goals simp
@[simp] theorem State.showMeas_drm (s : State) : (s.showMeas).drm = s.drm := by
  simp only [State.showMeas]; repeat' split
  all_goals simp
@[simp] theorem State.showMeas_tly (s : State) : (s.showMeas).tly = s.tly := by
  simp only [State.showMeas]; repeat' split
  all_goals simp

/-! ## What `enter` leaves -/

@[simp] theorem State.enter_pending (s : State) (m : Mode) : (s.enter m).pending = s.pending := by
  simp only [State.enter]; repeat' split
  all_goals simp
@[simp] theorem State.enter_ctr (s : State) (m : Mode) : (s.enter m).ctr = s.ctr := by
  simp only [State.enter]; repeat' split
  all_goals simp
@[simp] theorem State.enter_shd (s : State) (m : Mode) : (s.enter m).shd = s.shd := by
  simp only [State.enter]; repeat' split
  all_goals simp
@[simp] theorem State.enter_cmt (s : State) (m : Mode) : (s.enter m).cmt = s.cmt := by
  simp only [State.enter]; repeat' split
  all_goals simp
@[simp] theorem State.enter_evq (s : State) (m : Mode) : (s.enter m).evq = s.evq := by
  simp only [State.enter]; repeat' split
  all_goals simp
@[simp] theorem State.enter_pwr (s : State) (m : Mode) : (s.enter m).pwr = s.pwr := by
  simp only [State.enter]; repeat' split
  all_goals simp
@[simp] theorem State.enter_chu (s : State) (m : Mode) : (s.enter m).chu = s.chu := by
  simp only [State.enter]; repeat' split
  all_goals simp
@[simp] theorem State.enter_trp (s : State) (m : Mode) : (s.enter m).trp = s.trp := by
  simp only [State.enter]; repeat' split
  all_goals simp
@[simp] theorem State.enter_tim (s : State) (m : Mode) : (s.enter m).tim = s.tim := by
  simp only [State.enter]; repeat' split
  all_goals simp
@[simp] theorem State.enter_mem (s : State) (m : Mode) : (s.enter m).mem = s.mem := by
  simp only [State.enter]; repeat' split
  all_goals simp
@[simp] theorem State.enter_ticks (s : State) (m : Mode) : (s.enter m).ticks = s.ticks := by
  simp only [State.enter]; repeat' split
  all_goals simp
@[simp] theorem State.enter_hst (s : State) (m : Mode) : (s.enter m).hst = s.hst := by
  simp only [State.enter]; repeat' split
  all_goals simp
@[simp] theorem State.enter_board (s : State) (m : Mode) : (s.enter m).board = s.board := by
  simp only [State.enter]; repeat' split
  all_goals simp
@[simp] theorem State.enter_dsp (s : State) (m : Mode) : (s.enter m).dsp = s.dsp := by
  simp only [State.enter]; repeat' split
  all_goals simp
@[simp] theorem State.enter_epo (s : State) (m : Mode) : (s.enter m).epo = s.epo := by
  simp only [State.enter]; repeat' split
  all_goals simp
@[simp] theorem State.enter_ldr (s : State) (m : Mode) : (s.enter m).ldr = s.ldr := by
  simp only [State.enter]; repeat' split
  all_goals simp
@[simp] theorem State.enter_trk (s : State) (m : Mode) : (s.enter m).trk = s.trk := by
  simp only [State.enter]; repeat' split
  all_goals simp
@[simp] theorem State.enter_gov (s : State) (m : Mode) : (s.enter m).gov = s.gov := by
  simp only [State.enter]; repeat' split
  all_goals simp
@[simp] theorem State.enter_zyp (s : State) (m : Mode) : (s.enter m).zyp = s.zyp := by
  simp only [State.enter]; repeat' split
  all_goals simp
@[simp] theorem State.enter_vlt (s : State) (m : Mode) : (s.enter m).vlt = s.vlt := by
  simp only [State.enter]; repeat' split
  all_goals simp
@[simp] theorem State.enter_rng (s : State) (m : Mode) : (s.enter m).rng = s.rng := by
  simp only [State.enter]; repeat' split
  all_goals simp
@[simp] theorem State.enter_cor (s : State) (m : Mode) : (s.enter m).cor = s.cor := by
  simp only [State.enter]; repeat' split
  all_goals simp
@[simp] theorem State.enter_cre (s : State) (m : Mode) : (s.enter m).cre = s.cre := by
  simp only [State.enter]; repeat' split
  all_goals simp
@[simp] theorem State.enter_nvm (s : State) (m : Mode) : (s.enter m).nvm = s.nvm := by
  simp only [State.enter]; repeat' split
  all_goals simp
@[simp] theorem State.enter_twn (s : State) (m : Mode) : (s.enter m).twn = s.twn := by
  simp only [State.enter]; repeat' split
  all_goals simp
@[simp] theorem State.enter_upd (s : State) (m : Mode) : (s.enter m).upd = s.upd := by
  simp only [State.enter]; repeat' split
  all_goals simp
@[simp] theorem State.enter_drm (s : State) (m : Mode) : (s.enter m).drm = s.drm := by
  simp only [State.enter]; repeat' split
  all_goals simp
@[simp] theorem State.enter_tly (s : State) (m : Mode) : (s.enter m).tly = s.tly := by
  simp only [State.enter]; repeat' split
  all_goals simp

/-! ## What `tlyResult` leaves -/

@[simp] theorem State.tlyResult_pending (s : State) (v : Nat) : (s.tlyResult v).pending = s.pending := by
  simp only [State.tlyResult]; repeat' split
  all_goals simp
@[simp] theorem State.tlyResult_ctr (s : State) (v : Nat) : (s.tlyResult v).ctr = s.ctr := by
  simp only [State.tlyResult]; repeat' split
  all_goals simp
@[simp] theorem State.tlyResult_shd (s : State) (v : Nat) : (s.tlyResult v).shd = s.shd := by
  simp only [State.tlyResult]; repeat' split
  all_goals simp
@[simp] theorem State.tlyResult_cmt (s : State) (v : Nat) : (s.tlyResult v).cmt = s.cmt := by
  simp only [State.tlyResult]; repeat' split
  all_goals simp
@[simp] theorem State.tlyResult_evq (s : State) (v : Nat) : (s.tlyResult v).evq = s.evq := by
  simp only [State.tlyResult]; repeat' split
  all_goals simp
@[simp] theorem State.tlyResult_mode (s : State) (v : Nat) : (s.tlyResult v).mode = s.mode := by
  simp only [State.tlyResult]; repeat' split
  all_goals simp
@[simp] theorem State.tlyResult_prev (s : State) (v : Nat) : (s.tlyResult v).prev = s.prev := by
  simp only [State.tlyResult]; repeat' split
  all_goals simp
@[simp] theorem State.tlyResult_pwr (s : State) (v : Nat) : (s.tlyResult v).pwr = s.pwr := by
  simp only [State.tlyResult]; repeat' split
  all_goals simp
@[simp] theorem State.tlyResult_hre (s : State) (v : Nat) : (s.tlyResult v).hre = s.hre := by
  simp only [State.tlyResult]; repeat' split
  all_goals simp
@[simp] theorem State.tlyResult_chu (s : State) (v : Nat) : (s.tlyResult v).chu = s.chu := by
  simp only [State.tlyResult]; repeat' split
  all_goals simp
@[simp] theorem State.tlyResult_trp (s : State) (v : Nat) : (s.tlyResult v).trp = s.trp := by
  simp only [State.tlyResult]; repeat' split
  all_goals simp
@[simp] theorem State.tlyResult_tim (s : State) (v : Nat) : (s.tlyResult v).tim = s.tim := by
  simp only [State.tlyResult]; repeat' split
  all_goals simp
@[simp] theorem State.tlyResult_mem (s : State) (v : Nat) : (s.tlyResult v).mem = s.mem := by
  simp only [State.tlyResult]; repeat' split
  all_goals simp
@[simp] theorem State.tlyResult_ticks (s : State) (v : Nat) : (s.tlyResult v).ticks = s.ticks := by
  simp only [State.tlyResult]; repeat' split
  all_goals simp
@[simp] theorem State.tlyResult_hst (s : State) (v : Nat) : (s.tlyResult v).hst = s.hst := by
  simp only [State.tlyResult]; repeat' split
  all_goals simp
@[simp] theorem State.tlyResult_board (s : State) (v : Nat) : (s.tlyResult v).board = s.board := by
  simp only [State.tlyResult]; repeat' split
  all_goals simp
@[simp] theorem State.tlyResult_dsp (s : State) (v : Nat) : (s.tlyResult v).dsp = s.dsp := by
  simp only [State.tlyResult]; repeat' split
  all_goals simp
@[simp] theorem State.tlyResult_epo (s : State) (v : Nat) : (s.tlyResult v).epo = s.epo := by
  simp only [State.tlyResult]; repeat' split
  all_goals simp
@[simp] theorem State.tlyResult_ldr (s : State) (v : Nat) : (s.tlyResult v).ldr = s.ldr := by
  simp only [State.tlyResult]; repeat' split
  all_goals simp
@[simp] theorem State.tlyResult_trk (s : State) (v : Nat) : (s.tlyResult v).trk = s.trk := by
  simp only [State.tlyResult]; repeat' split
  all_goals simp
@[simp] theorem State.tlyResult_gov (s : State) (v : Nat) : (s.tlyResult v).gov = s.gov := by
  simp only [State.tlyResult]; repeat' split
  all_goals simp
@[simp] theorem State.tlyResult_zyp (s : State) (v : Nat) : (s.tlyResult v).zyp = s.zyp := by
  simp only [State.tlyResult]; repeat' split
  all_goals simp
@[simp] theorem State.tlyResult_vlt (s : State) (v : Nat) : (s.tlyResult v).vlt = s.vlt := by
  simp only [State.tlyResult]; repeat' split
  all_goals simp
@[simp] theorem State.tlyResult_rng (s : State) (v : Nat) : (s.tlyResult v).rng = s.rng := by
  simp only [State.tlyResult]; repeat' split
  all_goals simp
@[simp] theorem State.tlyResult_cor (s : State) (v : Nat) : (s.tlyResult v).cor = s.cor := by
  simp only [State.tlyResult]; repeat' split
  all_goals simp
@[simp] theorem State.tlyResult_cre (s : State) (v : Nat) : (s.tlyResult v).cre = s.cre := by
  simp only [State.tlyResult]; repeat' split
  all_goals simp
@[simp] theorem State.tlyResult_nvm (s : State) (v : Nat) : (s.tlyResult v).nvm = s.nvm := by
  simp only [State.tlyResult]; repeat' split
  all_goals simp
@[simp] theorem State.tlyResult_twn (s : State) (v : Nat) : (s.tlyResult v).twn = s.twn := by
  simp only [State.tlyResult]; repeat' split
  all_goals simp
@[simp] theorem State.tlyResult_upd (s : State) (v : Nat) : (s.tlyResult v).upd = s.upd := by
  simp only [State.tlyResult]; repeat' split
  all_goals simp
@[simp] theorem State.tlyResult_drm (s : State) (v : Nat) : (s.tlyResult v).drm = s.drm := by
  simp only [State.tlyResult]; repeat' split
  all_goals simp
@[simp] theorem State.tlyResult_tly (s : State) (v : Nat) : (s.tlyResult v).tly = s.tly := by
  simp only [State.tlyResult]; repeat' split
  all_goals simp

/-! ## What `setPdown` leaves -/

@[simp] theorem State.setPdown_pending (s : State) (d : Pdown) : (s.setPdown d).pending = s.pending := by
  simp only [State.setPdown]; repeat' split
  all_goals simp
@[simp] theorem State.setPdown_ctr (s : State) (d : Pdown) : (s.setPdown d).ctr = s.ctr := by
  simp only [State.setPdown]; repeat' split
  all_goals simp
@[simp] theorem State.setPdown_fld (s : State) (d : Pdown) : (s.setPdown d).fld = s.fld := by
  simp only [State.setPdown]; repeat' split
  all_goals simp
@[simp] theorem State.setPdown_shd (s : State) (d : Pdown) : (s.setPdown d).shd = s.shd := by
  simp only [State.setPdown]; repeat' split
  all_goals simp
@[simp] theorem State.setPdown_cmt (s : State) (d : Pdown) : (s.setPdown d).cmt = s.cmt := by
  simp only [State.setPdown]; repeat' split
  all_goals simp
@[simp] theorem State.setPdown_evq (s : State) (d : Pdown) : (s.setPdown d).evq = s.evq := by
  simp only [State.setPdown]; repeat' split
  all_goals simp
@[simp] theorem State.setPdown_mode (s : State) (d : Pdown) : (s.setPdown d).mode = s.mode := by
  simp only [State.setPdown]; repeat' split
  all_goals simp
@[simp] theorem State.setPdown_prev (s : State) (d : Pdown) : (s.setPdown d).prev = s.prev := by
  simp only [State.setPdown]; repeat' split
  all_goals simp
@[simp] theorem State.setPdown_hre (s : State) (d : Pdown) : (s.setPdown d).hre = s.hre := by
  simp only [State.setPdown]; repeat' split
  all_goals simp
@[simp] theorem State.setPdown_chu (s : State) (d : Pdown) : (s.setPdown d).chu = s.chu := by
  simp only [State.setPdown]; repeat' split
  all_goals simp
@[simp] theorem State.setPdown_trp (s : State) (d : Pdown) : (s.setPdown d).trp = s.trp := by
  simp only [State.setPdown]; repeat' split
  all_goals simp
@[simp] theorem State.setPdown_tim (s : State) (d : Pdown) : (s.setPdown d).tim = s.tim := by
  simp only [State.setPdown]; repeat' split
  all_goals simp
@[simp] theorem State.setPdown_mem (s : State) (d : Pdown) : (s.setPdown d).mem = s.mem := by
  simp only [State.setPdown]; repeat' split
  all_goals simp
@[simp] theorem State.setPdown_ticks (s : State) (d : Pdown) : (s.setPdown d).ticks = s.ticks := by
  simp only [State.setPdown]; repeat' split
  all_goals simp
@[simp] theorem State.setPdown_hst (s : State) (d : Pdown) : (s.setPdown d).hst = s.hst := by
  simp only [State.setPdown]; repeat' split
  all_goals simp
@[simp] theorem State.setPdown_board (s : State) (d : Pdown) : (s.setPdown d).board = s.board := by
  simp only [State.setPdown]; repeat' split
  all_goals simp
@[simp] theorem State.setPdown_dsp (s : State) (d : Pdown) : (s.setPdown d).dsp = s.dsp := by
  simp only [State.setPdown]; repeat' split
  all_goals simp
@[simp] theorem State.setPdown_epo (s : State) (d : Pdown) : (s.setPdown d).epo = s.epo := by
  simp only [State.setPdown]; repeat' split
  all_goals simp
@[simp] theorem State.setPdown_ldr (s : State) (d : Pdown) : (s.setPdown d).ldr = s.ldr := by
  simp only [State.setPdown]; repeat' split
  all_goals simp
@[simp] theorem State.setPdown_trk (s : State) (d : Pdown) : (s.setPdown d).trk = s.trk := by
  simp only [State.setPdown]; repeat' split
  all_goals simp
@[simp] theorem State.setPdown_gov (s : State) (d : Pdown) : (s.setPdown d).gov = s.gov := by
  simp only [State.setPdown]; repeat' split
  all_goals simp
@[simp] theorem State.setPdown_zyp (s : State) (d : Pdown) : (s.setPdown d).zyp = s.zyp := by
  simp only [State.setPdown]; repeat' split
  all_goals simp
@[simp] theorem State.setPdown_vlt (s : State) (d : Pdown) : (s.setPdown d).vlt = s.vlt := by
  simp only [State.setPdown]; repeat' split
  all_goals simp
@[simp] theorem State.setPdown_rng (s : State) (d : Pdown) : (s.setPdown d).rng = s.rng := by
  simp only [State.setPdown]; repeat' split
  all_goals simp
@[simp] theorem State.setPdown_cor (s : State) (d : Pdown) : (s.setPdown d).cor = s.cor := by
  simp only [State.setPdown]; repeat' split
  all_goals simp
@[simp] theorem State.setPdown_cre (s : State) (d : Pdown) : (s.setPdown d).cre = s.cre := by
  simp only [State.setPdown]; repeat' split
  all_goals simp
@[simp] theorem State.setPdown_nvm (s : State) (d : Pdown) : (s.setPdown d).nvm = s.nvm := by
  simp only [State.setPdown]; repeat' split
  all_goals simp
@[simp] theorem State.setPdown_twn (s : State) (d : Pdown) : (s.setPdown d).twn = s.twn := by
  simp only [State.setPdown]; repeat' split
  all_goals simp
@[simp] theorem State.setPdown_upd (s : State) (d : Pdown) : (s.setPdown d).upd = s.upd := by
  simp only [State.setPdown]; repeat' split
  all_goals simp
@[simp] theorem State.setPdown_drm (s : State) (d : Pdown) : (s.setPdown d).drm = s.drm := by
  simp only [State.setPdown]; repeat' split
  all_goals simp
@[simp] theorem State.setPdown_tly (s : State) (d : Pdown) : (s.setPdown d).tly = s.tly := by
  simp only [State.setPdown]; repeat' split
  all_goals simp

/-! ## What a register reads after a shared operation on others -/

theorem State.rd_signal_ne {g : Fld} {v : Nat} (h : g.key ≠ (Reg.MSIX_PENDING v).key) (s : State) : (s.signal v).rd g = s.rd g := by
  simp only [State.signal]; repeat' split
  all_goals first | rfl | exact State.rd_wr_ne h s 1

theorem State.rd_faultWith_ne {f g : Fld} (h : g.key ≠ f.key) (k : g.key ≠ (Reg.MSIX_PENDING 0).key) (s : State) (d : Nat) :
    (s.faultWith f d).rd g = s.rd g := by
  simp only [State.faultWith]; repeat' split
  all_goals first | exact State.rd_wr_ne h s 1 | exact (State.rd_signal_ne k _).trans (State.rd_wr_ne h s 1)

theorem State.rd_fault_ne {f g : Fld} (h : g.key ≠ f.key) (k : g.key ≠ (Reg.MSIX_PENDING 0).key) (s : State) :
    (s.fault f).rd g = s.rd g := State.rd_faultWith_ne h k s 0

theorem State.fault_rd (s : State) (f : Fld) (h : 2 ≤ 2 ^ f.w) (k : f.key ≠ (Reg.MSIX_PENDING 0).key) : (s.fault f).rd f = 1 :=
  s.faultWith_rd f 0 h k

/-- Registers of another block are other registers. -/
theorem Fld.key_ne {f g : Fld} (h : f.blk ≠ g.blk) : f.key ≠ g.key := fun e => h (by unfold Fld.blk; rw [e])

theorem State.chuteCount_rd_ne {f g : Fld} (s : State) (n : Nat) (h : g.key ≠ f.key) (k : g.blk ≠ 3) (b : (Reg.CHU_STATUS_CNT_SAT n).blk = 3) :
    (s.chuteCount f n).rd g = s.rd g := by
  have k1 : g.key ≠ (Reg.CHU_STATUS_CNT_SAT n).key := Fld.key_ne (by rw [b]; exact k)
  have k2 : g.key ≠ Reg.CHU_FAULT_SAT.key := Fld.key_ne k
  have k3 : ∀ (x : State) d, (x.faultWith Reg.CHU_FAULT_SAT d).rd g = x.rd g := fun x d => State.rd_wr_ne k2 x 1
  simp only [State.chuteCount]; repeat' split
  · rfl
  · rw [k3, State.rd_wr_ne k1, State.rd_wr_ne h]
  · exact State.rd_wr_ne h _ _

/-- A record for the Tally touches no register of another block than the chutes. -/
theorem State.rd_tallyRecord_ne {g : Fld} (q : g.blk ≠ 3) (s : State) (k i v c : Nat) (d : List Nat) : (s.tallyRecord k i v c d).rd g = s.rd g := by
  simp only [State.tallyRecord]; split
  · rfl
  · exact (State.chuteCount_rd_ne _ 48 (Fld.key_ne q) q rfl).trans rfl

theorem State.rd_tallyAdd_ne {g : Fld} (q : g.blk ≠ 3) (s : State) (h v : Nat) : (s.tallyAdd h v).rd g = s.rd g := State.rd_tallyRecord_ne q ..

theorem State.rd_tallyOffer_ne {g : Fld} (q : g.blk ≠ 3) (s : State) (h v : Nat) : (s.tallyOffer h v).rd g = s.rd g := State.rd_tallyRecord_ne q ..

@[simp] theorem State.setChute_rd (s : State) (n : Nat) (x : Chute) (g : Fld) : (s.setChute n x).rd g = s.rd g := id rfl

@[simp] theorem State.setRing_rd (s : State) (n : Nat) (x : RingSt) (g : Fld) : (s.setRing n x).rd g = s.rd g := id rfl

@[simp] theorem State.finish_rd (s : State) (c : Cmd) (a b d : Nat) (g : Fld) : (s.finish c a b d).rd g = s.rd g := by
  simp only [State.finish]; split <;> rfl

@[simp] theorem State.event_rd (s : State) (a b d : Nat) (g : Fld) : (s.event a b d).rd g = s.rd g := id rfl

theorem State.rd_bumpBy_ne {f sat g : Fld} (h : g.key ≠ f.key) (k : g.key ≠ sat.key) (l : g.key ≠ (Reg.MSIX_PENDING 0).key) (q : g.blk ≠ 3) (s : State) (n : Nat) :
    (s.bumpBy f sat n).rd g = s.rd g := by
  simp only [State.bumpBy]; repeat' split
  · rfl
  · simp only [State.saturate]; rw [State.rd_tallyRecord_ne q]; exact (State.rd_fault_ne k l _).trans (State.rd_wr_ne h _ _)
  · exact State.rd_wr_ne h _ _

theorem State.rd_bump_ne {f sat g : Fld} (h : g.key ≠ f.key) (k : g.key ≠ sat.key) (l : g.key ≠ (Reg.MSIX_PENDING 0).key) (q : g.blk ≠ 3) (s : State) :
    (s.bump f sat).rd g = s.rd g := State.rd_bumpBy_ne h k l q s 1

theorem State.rd_wrapBy_ne {f g : Fld} (h : g.key ≠ f.key) (s : State) (n : Nat) : (s.wrapBy f n).rd g = s.rd g := State.rd_wr_ne h _ _

theorem State.rd_stopBy_ne {f g : Fld} (h : g.key ≠ f.key) (s : State) (n : Nat) : (s.stopBy f n).rd g = s.rd g := State.rd_wr_ne h _ _

theorem State.rd_wrEach_ne {g : Fld} (fs : List (Fld × Nat)) (h : ∀ p ∈ fs, g.key ≠ p.1.key) (s : State) : (s.wrEach fs).rd g = s.rd g := by
  induction fs generalizing s with
  | nil => rfl
  | cons p t ih =>
    rw [State.wrEach, ih (fun q hq => h q (List.mem_cons_of_mem _ hq)), State.rd_wr_ne (h p List.mem_cons_self)]

theorem State.rd_modeResult_ne {g : Fld} (h : g.key ≠ Reg.CLK_MODE_RESULT_STATUS.key) (k : g.key ≠ Reg.CLK_MODE_RESULT_TARGET.key)
    (s : State) (a b : Nat) : (s.modeResult a b).rd g = s.rd g := by
  rw [State.modeResult, State.rd_wr_ne k, State.rd_wr_ne h]

theorem State.rd_enter_ne {g : Fld} (h : g.key ≠ (Reg.MSIX_PENDING 0).key) (s : State) (m : Mode) : (s.enter m).rd g = s.rd g :=
  State.rd_signal_ne h _

@[simp] theorem State.enter_mode (s : State) (m : Mode) : (s.enter m).mode = m := by simp [State.enter]

@[simp] theorem State.enter_prev (s : State) (m : Mode) : (s.enter m).prev = s.mode := by simp [State.enter]

/-- A commit shows its verdict. -/
theorem State.commit_result (s : State) (r : Fld) (fs : List Fld) (v : Nat) : (s.commit r fs v).rd r = v % 2 ^ r.w := by
  simp only [State.commit]; repeat' split
  all_goals simp

/-- A commit that is refused changes nothing but its result. -/
theorem State.rd_commit_refused {g r : Fld} (h : g.key ≠ r.key) {v : Nat} (hv : v ≠ St.done) (s : State) (fs : List Fld) :
    (s.commit r fs v).rd g = s.rd g := by
  simp [State.commit, hv, State.rd_wr_ne h]

@[simp] theorem State.storeFields_rd (s : State) (fs : List Fld) (g : Fld) : (s.storeFields fs).rd g = s.rd g := id rfl

/-- Making members live leaves every other register. -/
theorem State.rd_apply_ne {g : Fld} (fs : List Fld) (h : ∀ f ∈ fs, g.key ≠ f.key) (s : State) : (s.apply fs).rd g = s.rd g := by
  induction fs generalizing s with
  | nil => rfl
  | cons f t ih =>
    rw [State.apply, ih (fun q hq => h q (List.mem_cons_of_mem _ hq))]
    exact State.rd_wr_ne (h f List.mem_cons_self) s _

/-- A done commit makes each member read what its shadow held: here, one step of `apply`. -/
theorem State.sh_apply_cons_ne {f g : Fld} (h : g.key ≠ f.key) (s : State) :
    ({ s.wr f (s.sh f) with shd := AMap.del f.key s.shd } : State).sh g = s.sh g := by
  show (AMap.find g.key (AMap.del f.key s.shd)).getD ((s.wr f (s.sh f)).rd g) = s.sh g
  rw [AMap.find_del_ne h, State.rd_wr_ne h]; rfl

/-- A done commit makes a member read what its shadow held. -/
theorem State.rd_apply_mem {g : Fld} (fs : List Fld) (h : g ∈ fs) (u : (fs.map Fld.key).Nodup) (s : State) :
    (s.apply fs).rd g = s.sh g % 2 ^ g.w := by
  induction fs generalizing s with
  | nil => cases h
  | cons f t ih =>
    rw [List.map_cons, List.nodup_cons] at u
    rw [State.apply]
    rcases List.mem_cons.mp h with rfl | h'
    · exact (State.rd_apply_ne t (fun q hq e => u.1 (List.mem_map.mpr ⟨q, hq, e.symm⟩)) _).trans (State.rd_wr_same s g _)
    · rw [ih h' u.2]
      exact congrArg (· % 2 ^ g.w) (State.sh_apply_cons_ne (fun e => u.1 (List.mem_map.mpr ⟨g, h', e⟩)) s)

/-- A commit that is done makes each member read what its shadow held. -/
theorem State.commit_live {g r : Fld} (fs : List Fld) (h : g ∈ fs) (u : (fs.map Fld.key).Nodup) (k : g.key ≠ r.key) (s : State) :
    (s.commit r fs St.done).rd g = s.sh g % 2 ^ g.w := by
  simp only [State.commit, if_true]
  split <;> rw [State.rd_wr_ne k] <;> simp [State.rd_apply_mem fs h u]

end Sys2Proof.Machine
end

