-- ==== Sys2Proof/Laws/Restrict.lean ====
section
/-! SUPPORT. What mode changes, restrictions and device faults do, once each. -/

namespace Sys2Proof.Machine

/-! ## Mode changes -/

/-- A mode change with its effects leaves the unit in the mode; in PFAIL handling the mode stands. -/
theorem State.enterMode_mode_eq (s : State) (m : Mode) : (s.enterMode m).mode = if s.pwr.pfailLatched then s.mode else m := by
  have k : ∀ (t : State) (c : Nat), (t.flushFor c).mode = t.mode := fun t c => State.flushFor_only (π := State.mode) (unseen_mode (by decide)) t c
  have c : ∀ t : State, t.corMode.mode = t.mode := fun t => State.corMode_only (π := State.mode) (unseen_mode (by decide)) t
  simp only [State.enterMode]
  repeat' split
  all_goals simp_all

theorem State.enterMode_prev_eq (s : State) (m : Mode) : (s.enterMode m).prev = if s.pwr.pfailLatched then s.prev else s.mode := by
  have k : ∀ (t : State) (c : Nat), (t.flushFor c).prev = t.prev := fun t c => State.flushFor_only (π := State.prev) (unseen_prev (by decide)) t c
  have c : ∀ t : State, t.corMode.prev = t.prev := fun t => State.corMode_only (π := State.prev) (unseen_prev (by decide)) t
  simp only [State.enterMode]
  repeat' split
  all_goals simp_all

/-- Outside PFAIL handling a mode change leaves the unit in the mode. -/
@[simp] theorem State.enterMode_mode {s : State} (h : s.pwr.pfailLatched = false) (m : Mode) : (s.enterMode m).mode = m := by
  rw [State.enterMode_mode_eq, h]; rfl

@[simp] theorem State.enterMode_prev {s : State} (h : s.pwr.pfailLatched = false) (m : Mode) : (s.enterMode m).prev = s.mode := by
  rw [State.enterMode_prev_eq, h]; rfl

@[simp] theorem State.enterMode_pwr (s : State) (m : Mode) : (s.enterMode m).pwr = s.pwr := State.enterMode_only (π := State.pwr) (unseen_pwr (by decide)) s m
@[simp] theorem State.enterMode_trp (s : State) (m : Mode) : (s.enterMode m).trp = s.trp := State.enterMode_only (π := State.trp) (unseen_trp (by decide)) s m
@[simp] theorem State.enterMode_twn (s : State) (m : Mode) : (s.enterMode m).twn = s.twn := State.enterMode_only (π := State.twn) (unseen_twn (by decide)) s m

/-! ## The fleet state -/

@[simp] theorem State.sendState_trp (s : State) : s.sendState.trp = s.trp := State.sendState_only (π := State.trp) (unseen_trp (by decide)) s

/-- The fleet state is what it was set to. -/
@[simp] theorem State.setFleet_fleet (s : State) (l : Level) : (s.setFleet l).trp.fleet = l := by
  simp only [State.setFleet]; split
  · assumption
  · simp

@[simp] theorem State.setFleet_latch (s : State) (l : Level) : (s.setFleet l).trp.latch = s.trp.latch := by
  simp only [State.setFleet]; split <;> simp

@[simp] theorem State.refuseArm_fleet (s : State) : s.refuseArm.trp.fleet = s.trp.fleet := by
  simp only [State.refuseArm]; repeat' split
  all_goals simp

@[simp] theorem State.refuseArm_latch (s : State) : s.refuseArm.trp.latch = s.trp.latch := by
  simp only [State.refuseArm]; repeat' split
  all_goals simp

/-- An arming attempt that is refused is over. -/
@[simp] theorem State.refuseArm_arm (s : State) : s.refuseArm.trp.arm = none := by
  simp only [State.refuseArm]; repeat' split
  all_goals simp [*]

@[simp] theorem State.meetAll_trp (s : State) (r : Option Nat) : (s.meetAll r).trp = s.trp := rfl

/-- A TRAP frame leaves the fleet state and the STOP latch. -/
@[simp] theorem State.trapFrame_fleet (s : State) (st : Bool) (r : Option Nat) : (s.trapFrame st r).trp.fleet = s.trp.fleet := by
  have k : ∀ (t : State) f, (t.emitTrap f).trp = t.trp := fun t f => State.emitTrap_only (π := State.trp) (unseen_trp (by decide)) t f
  simp only [State.trapFrame]; repeat' split
  all_goals simp [k]

@[simp] theorem State.trapFrame_latch (s : State) (st : Bool) (r : Option Nat) : (s.trapFrame st r).trp.latch = s.trp.latch := by
  have k : ∀ (t : State) f, (t.emitTrap f).trp = t.trp := fun t f => State.emitTrap_only (π := State.trp) (unseen_trp (by decide)) t f
  simp only [State.trapFrame]; repeat' split
  all_goals simp [k]

@[simp] theorem State.changeRecord_trp (s : State) : s.changeRecord.trp = s.trp := State.changeRecord_only (π := State.trp) (unseen_trp (by decide)) s
@[simp] theorem State.tellPeer_trp (s : State) (st : Bool) (r : Option Nat) (c : Fld) : (s.tellPeer st r c).trp = s.trp :=
  State.tellPeer_only (π := State.trp) (unseen_trp (by decide)) s st r c
@[simp] theorem State.modeAfter_trp (s : State) (st : Bool) : (s.modeAfter st).trp = s.trp := State.modeAfter_only (π := State.trp) (unseen_trp (by decide)) s st

@[simp] theorem State.dropArb_trp (s : State) : s.dropArb.trp = s.trp := State.dropArb_only (π := State.trp) (unseen_trp (by decide)) s

/-- A fleet STOP puts the fleet in STOP and sets the STOP latch. -/
theorem State.raiseFleet_stop (s : State) (c : Fld) : (s.raiseFleet true c).trp.fleet = .stop ∧ (s.raiseFleet true c).trp.latch = true := by
  simp [State.raiseFleet]

/-- A fleet HOLD takes GO to HOLD. -/
theorem State.raiseFleet_hold {s : State} (h : s.trp.fleet = .go) (c : Fld) : (s.raiseFleet false c).trp.fleet = .hold := by
  simp [State.raiseFleet, h]

/-- A fleet HOLD leaves HOLD and STOP as they are, and the STOP latch. -/
theorem State.raiseFleet_held {s : State} (h : s.trp.fleet ≠ .go) (c : Fld) : (s.raiseFleet false c).trp.fleet = s.trp.fleet := by
  simp [State.raiseFleet, h]

theorem State.raiseFleet_latch (s : State) (c : Fld) : (s.raiseFleet false c).trp.latch = s.trp.latch := by
  simp only [State.raiseFleet, Bool.false_eq_true, if_false]
  split <;> simp

/-! ## Registers of the Trapdoor under a restriction -/

section
variable {f : Fld} (b : f.blk = 0xC)
include b

theorem State.setFleet_rd (s : State) (l : Level) : (s.setFleet l).rd f = s.rd f :=
  State.setFleet_only (π := fun s => s.rd f) (unseen_rd (by decide) (by rw [b]; decide)) s l
theorem State.enterMode_rd (s : State) (m : Mode) : (s.enterMode m).rd f = s.rd f :=
  State.enterMode_only (π := fun s => s.rd f) (unseen_rd (by decide) (by rw [b]; decide)) s m
theorem State.trapFrame_rd (s : State) (st : Bool) (r : Option Nat) : (s.trapFrame st r).rd f = s.rd f :=
  State.trapFrame_only (π := fun s => s.rd f) (unseen_rd (by decide) (by rw [b]; decide)) s st r
theorem State.changeRecord_rd (s : State) : s.changeRecord.rd f = s.rd f :=
  State.changeRecord_only (π := fun s => s.rd f) (unseen_rd (by decide) (by rw [b]; decide)) s
theorem State.tellPeer_rd (s : State) (st : Bool) (r : Option Nat) (c : Fld) : (s.tellPeer st r c).rd f = s.rd f :=
  State.tellPeer_only (π := fun s => s.rd f) (unseen_rd (by decide) (by rw [b]; decide)) s st r c
theorem State.modeAfter_rd (s : State) (st : Bool) : (s.modeAfter st).rd f = s.rd f :=
  State.modeAfter_only (π := fun s => s.rd f) (unseen_rd (by decide) (by rw [b]; decide)) s st
theorem State.dropArb_rd (s : State) : s.dropArb.rd f = s.rd f :=
  State.dropArb_only (π := fun s => s.rd f) (unseen_rd (by decide) (by rw [b]; decide)) s
theorem State.deviceFault_rd (s : State) : s.deviceFault.rd f = s.rd f :=
  State.deviceFault_only (π := fun s => s.rd f) (unseen_rd (by decide) (by rw [b]; decide)) s
theorem State.sendState_rd (s : State) : s.sendState.rd f = s.rd f :=
  State.sendState_only (π := fun s => s.rd f) (unseen_rd (by decide) (by rw [b]; decide)) s

/-- A refused arming attempt counts only in its own registers. -/
theorem State.refuseArm_rd (h1 : f.key ≠ Reg.TRP_CLEAR_REFUSED.key) (h2 : f.key ≠ Reg.TRP_FAULT_CNT_SAT.key) (h3 : f.key ≠ Reg.TRP_FAULT_CLEAR_REFUSED.key)
    (s : State) : s.refuseArm.rd f = s.rd f := by
  have e : f.key ≠ Reg.PIN_LOCAL_RESET_COUNT_REFUSED.key := fun q => by
    have : f.blk = Reg.PIN_LOCAL_RESET_COUNT_REFUSED.blk := by unfold Fld.blk; rw [q]
    rw [b] at this; exact absurd this (by decide)
  have g : f.key ≠ (Reg.MSIX_PENDING 0).key := fun q => by
    have : f.blk = (Reg.MSIX_PENDING 0).blk := by unfold Fld.blk; rw [q]
    rw [b] at this; exact absurd this (by decide)
  simp only [State.refuseArm]
  repeat' split
  · rfl
  · rw [State.rd_stopBy_ne e]; rfl
  · rw [State.rd_fault_ne h3 g, State.rd_bump_ne h1 h2 g (by rw [b]; decide)]; rfl

/-- A restriction of the fleet leaves the Trapdoor's registers but its cause, ARMED, its counters and the refusal of arming. -/
theorem State.raiseFleet_rd {c : Fld} (s : State) (st : Bool) (h0 : f.key ≠ c.key) (h1 : f.key ≠ Reg.TRP_CLEAR_REFUSED.key)
    (h2 : f.key ≠ Reg.TRP_FAULT_CNT_SAT.key) (h3 : f.key ≠ Reg.TRP_FAULT_CLEAR_REFUSED.key) (h4 : f.key ≠ Reg.TRP_STATUS_ARMED.key)
    (h5 : f.key ≠ Reg.TRP_STOPS.key) (h6 : f.key ≠ Reg.TRP_HOLDS.key) : (s.raiseFleet st c).rd f = s.rd f := by
  have g : f.key ≠ (Reg.MSIX_PENDING 0).key := fun q => by
    have : f.blk = (Reg.MSIX_PENDING 0).blk := by unfold Fld.blk; rw [q]
    rw [b] at this; exact absurd this (by decide)
  simp only [State.raiseFleet]
  rw [State.modeAfter_rd b, State.tellPeer_rd b, State.changeRecord_rd b, State.trapFrame_rd b]
  split
  · rw [State.rd_bump_ne h5 h2 g (by rw [b]; decide), State.setFleet_rd b, State.refuseArm_rd b h1 h2 h3, State.dropArb_rd b, State.rd_wr_ne h4]
    exact State.rd_wr_ne h0 s 1
  · rw [State.rd_bump_ne h6 h2 g (by rw [b]; decide)]
    split
    · rw [State.setFleet_rd b]; exact State.rd_wr_ne h0 s 1
    · exact State.rd_wr_ne h0 s 1

/-- A restriction of the fleet sets its cause. -/
theorem State.raiseFleet_cause (s : State) (st : Bool) (h1 : f.key ≠ Reg.TRP_CLEAR_REFUSED.key)
    (h2 : f.key ≠ Reg.TRP_FAULT_CNT_SAT.key) (h3 : f.key ≠ Reg.TRP_FAULT_CLEAR_REFUSED.key) (h4 : f.key ≠ Reg.TRP_STATUS_ARMED.key)
    (h5 : f.key ≠ Reg.TRP_STOPS.key) (h6 : f.key ≠ Reg.TRP_HOLDS.key) : (s.raiseFleet st f).rd f = 1 % 2 ^ f.w := by
  have g : f.key ≠ (Reg.MSIX_PENDING 0).key := fun q => by
    have : f.blk = (Reg.MSIX_PENDING 0).blk := by unfold Fld.blk; rw [q]
    rw [b] at this; exact absurd this (by decide)
  simp only [State.raiseFleet]
  rw [State.modeAfter_rd b, State.tellPeer_rd b, State.changeRecord_rd b, State.trapFrame_rd b]
  split
  · rw [State.rd_bump_ne h5 h2 g (by rw [b]; decide), State.setFleet_rd b, State.refuseArm_rd b h1 h2 h3, State.dropArb_rd b, State.rd_wr_ne h4]
    exact State.rd_wr_same s f 1
  · rw [State.rd_bump_ne h6 h2 g (by rw [b]; decide)]
    split
    · rw [State.setFleet_rd b]; exact State.rd_wr_same s f 1
    · exact State.rd_wr_same s f 1

/-- An own restriction sets its cause, unless that is the own state itself. -/
theorem State.raiseOwn_cause (s : State) (r : Nat) (st : Bool) (h : f.key ≠ (Reg.TRP_ROBOT_OWN r).key) : (s.raiseOwn r st f).rd f = 1 % 2 ^ f.w := by
  simp only [State.raiseOwn]
  rw [State.tellPeer_rd b, State.changeRecord_rd b, State.trapFrame_rd b]
  split
  · refine Eq.trans (b := ((((s.wr f 1).meetAll (some r)).wr (Reg.TRP_ROBOT_OWN r) _)).rd f) rfl ?_
    rw [State.rd_wr_ne h]; exact State.rd_wr_same s f 1
  · rw [State.rd_wr_ne h]; exact State.rd_wr_same s f 1

end

/-- An own restriction makes the own state at least as restrictive. -/
theorem State.raiseOwn_own (s : State) (r : Nat) (st : Bool) (c : Fld) (h : (Reg.TRP_ROBOT_OWN r).key ≠ c.key) :
    (s.raiseOwn r st c).rd (Reg.TRP_ROBOT_OWN r) = max (s.rd (Reg.TRP_ROBOT_OWN r)) (if st then 2 else 1) % 4 := by
  have b := Reg.TRP_ROBOT_OWN_blk r
  have e : ((s.wr c 1).meetAll (some r)).rd (Reg.TRP_ROBOT_OWN r) = s.rd (Reg.TRP_ROBOT_OWN r) := State.rd_wr_ne h s 1
  simp only [State.raiseOwn]
  rw [State.tellPeer_rd b, State.changeRecord_rd b, State.trapFrame_rd b, e]
  split
  · refine Eq.trans (b := (((((s.wr c 1).meetAll (some r)).wr (Reg.TRP_ROBOT_OWN r) _)).rd (Reg.TRP_ROBOT_OWN r))) rfl ?_
    rw [State.rd_wr_same]; rfl
  · rw [State.rd_wr_same]; rfl

/-! ## The mode after a restriction -/

/-- The mode after a fleet restriction: outside PFAIL handling a STOP ends FLEET_RUN, FLEET_HOLD and UPDATE in FAULT_SAFE, a HOLD ends
FLEET_RUN in FLEET_HOLD. -/
theorem State.raiseFleet_pre (s : State) (st : Bool) (c : Fld) :
    (s.raiseFleet st c).mode = if s.pwr.pfailLatched then s.mode
      else if st then (if s.mode = .fleetRun ∨ s.mode = .fleetHold ∨ s.mode = .update then .faultSafe else s.mode)
      else if s.mode = .fleetRun then .fleetHold else s.mode := by
  have k1 : ∀ (t : State) a b, (t.trapFrame a b).mode = t.mode := fun t a b => State.trapFrame_only (π := State.mode) (unseen_mode (by decide)) t a b
  have k2 : ∀ (t : State), t.changeRecord.mode = t.mode := fun t => State.changeRecord_only (π := State.mode) (unseen_mode (by decide)) t
  have k3 : ∀ (t : State) a b d, (t.tellPeer a b d).mode = t.mode := fun t a b d => State.tellPeer_only (π := State.mode) (unseen_mode (by decide)) t a b d
  have k4 : ∀ (t : State) l, (t.setFleet l).mode = t.mode := fun t l => State.setFleet_only (π := State.mode) (unseen_mode (by decide)) t l
  have k5 : ∀ (t : State), t.refuseArm.mode = t.mode := fun t => State.refuseArm_only (π := State.mode) (unseen_mode (by decide)) t
  have k6 : ∀ (t : State) r, (t.meetAll r).mode = t.mode := fun t r => rfl
  have k7 : ∀ (t : State), t.dropArb.mode = t.mode := fun t => State.dropArb_only (π := State.mode) (unseen_mode (by decide)) t
  have p1 : ∀ (t : State) a b, (t.trapFrame a b).pwr = t.pwr := fun t a b => State.trapFrame_only (π := State.pwr) (unseen_pwr (by decide)) t a b
  have p2 : ∀ (t : State), t.changeRecord.pwr = t.pwr := fun t => State.changeRecord_only (π := State.pwr) (unseen_pwr (by decide)) t
  have p3 : ∀ (t : State) a b d, (t.tellPeer a b d).pwr = t.pwr := fun t a b d => State.tellPeer_only (π := State.pwr) (unseen_pwr (by decide)) t a b d
  have p4 : ∀ (t : State) l, (t.setFleet l).pwr = t.pwr := fun t l => State.setFleet_only (π := State.pwr) (unseen_pwr (by decide)) t l
  have p5 : ∀ (t : State), t.refuseArm.pwr = t.pwr := fun t => State.refuseArm_only (π := State.pwr) (unseen_pwr (by decide)) t
  have p6 : ∀ (t : State) r, (t.meetAll r).pwr = t.pwr := fun t r => rfl
  have p7 : ∀ (t : State), t.dropArb.pwr = t.pwr := fun t => State.dropArb_only (π := State.pwr) (unseen_pwr (by decide)) t
  simp only [State.raiseFleet, State.modeAfter]
  cases st
  · simp only [Bool.false_eq_true, if_false, k1, k2, k3]
    split
    all_goals simp only [State.bump_mode, k4, k6, State.wr_mode]
    all_goals by_cases e : s.mode = .fleetRun
    all_goals simp [e, State.enterMode_mode_eq, p1, p2, p3, p4, p6, k1, k2, k3, k4, k6]
  · simp only [if_true, k1, k2, k3, State.bump_mode, k4, k5, k7, State.wr_mode, k6]
    by_cases e : s.mode = .fleetRun ∨ s.mode = .fleetHold ∨ s.mode = .update
    all_goals simp [e, State.enterMode_mode_eq, p1, p2, p3, p4, p5, p6, p7, k1, k2, k3, k4, k5, k6, k7]

/-- Outside PFAIL handling a device fault leaves FAULT_SAFE with the core fault noted. -/
theorem State.deviceFault_mode {s : State} (h : s.pwr.pfailLatched = false) : s.deviceFault.mode = .faultSafe ∧ s.deviceFault.pwr.core = true := by
  have l : ∀ t : State, t.overtake.pwr = t.pwr := fun t => State.overtake_only (π := State.pwr) (unseen_pwr (by decide)) t
  have m : ∀ t : State, t.stopLive.pwr = t.pwr := fun t => State.stopLive_only (π := State.pwr) (unseen_pwr (by decide)) t
  have r : s.overtake.stopLive.reopen.pwr.pfailLatched = false := by
    simp only [State.reopen]; split <;> simp [l, m, h]
  simp only [State.deviceFault, h, Bool.false_eq_true, if_false]
  split <;> simp_all

@[simp] theorem State.deviceFault_trp (s : State) : s.deviceFault.trp = s.trp := State.deviceFault_only (π := State.trp) (unseen_trp (by decide)) s

end Sys2Proof.Machine
end

