-- ==== Sys2Proof/Laws/Witness.lean ====
section
/-! SUPPORT. Small states and data that the witness theorems of the tests use: bytes of numbers, tagged payloads, a state with a key. -/

namespace Sys2Proof.Machine

/-- Numbers as bytes. -/
def toBytes (l : List Nat) : List Byte := l.map (BitVec.ofNat 8)

@[simp] theorem le_length (k v : Nat) : (le k v).length = k := by
  induction k generalizing v with
  | zero => rfl
  | succ k ih => simp [le, ih]

/-- Each byte of a number is a byte. -/
theorem le_lt {k v b : Nat} (h : b ∈ le k v) : b < 256 := by
  induction k generalizing v with
  | zero => cases h
  | succ k ih =>
    rcases List.mem_cons.mp h with rfl | h
    · exact Nat.mod_lt _ (by decide)
    · exact ih h

/-- Bytes go to numbers and back unchanged. -/
theorem toBytes_toNat {l : List Nat} (h : ∀ b ∈ l, b < 256) : (toBytes l).map BitVec.toNat = l := by
  simp only [toBytes, List.map_map]
  conv => rhs; rw [← List.map_id l]
  refine List.map_congr_left fun b hb => ?_
  simp [Nat.mod_eq_of_lt (h b hb)]

/-- Reset, with key k in slot n. -/
def State.withKey (s : State) (n kind k : Nat) : State :=
  { s with vlt := { s.vlt with slots := AMap.set n { Slot.empty with kind := kind, key := k } s.vlt.slots } }

/-- The claimed machine that has fetched a command's descriptor, the only one of its ring (rules R104, R116). -/
def State.withCmd (s : State) (c : Cmd) : State :=
  { s with hre := { s.hre with claimed := true, session := c.session.toNat,
                               rings := AMap.set c.ring.val { RingSt.off with st := .running, sub := [⟨c.index.toNat, c.desc, 0, false, none, .no⟩] }
                                 s.hre.rings } }

/-- The payload of a Trapdoor command with CMD_SEQ 1, tagged under key k (rule R365). -/
def trapData (op robot k : Nat) : List Byte :=
  toBytes ([1, op, robot, 0, 1, 0, 0, 0, 0, 0, 0, 0, 0, 0, 0, 0] ++
    (hmacBytes k ([1, op, robot, 0, 1, 0, 0, 0, 0, 0, 0, 0, 0, 0, 0, 0] ++ le 8 Config.serial)).take 16)

/-- Such a payload verifies. -/
theorem trapData_ok {s : State} {op robot k : Nat} (h : s.keyOf 8 = some k) (ho : op < 256) (hr : robot < 256) :
    s.trapTagOk (trapData op robot k) = true := by
  let hd : List Nat := [1, op, robot, 0, 1, 0, 0, 0, 0, 0, 0, 0, 0, 0, 0, 0]
  let tl : List Nat := (hmacBytes k (hd ++ le 8 Config.serial)).take 16
  have a : (toBytes hd).map BitVec.toNat = hd := toBytes_toNat (by intro b hb; simp [hd] at hb; omega)
  have b : (toBytes tl).map BitVec.toNat = tl := toBytes_toNat fun b hb => le_lt (List.mem_of_mem_take hb)
  have e : trapData op robot k = toBytes hd ++ toBytes tl := List.map_append
  have l1 : (toBytes hd).length = 16 := rfl
  have l2 : (toBytes tl).length = 16 := by simp [toBytes, tl, hmacBytes]
  have p : (trapData op robot k).take 16 = toBytes hd := by rw [e, ← l1]; exact List.take_left
  have q : (trapData op robot k).drop 16 = toBytes tl := by rw [e, ← l1]; exact List.drop_left
  simp only [State.trapTagOk, h, p, q, a]
  rw [List.take_of_length_le (Nat.le_of_eq l2), b]
  exact beq_iff_eq.mpr rfl

/-- A state that receives STATUS frames of the robot with local ID 3 and federation ID 9. -/
def zypWitness : State :=
  { (State.reset.withKey 2 6 5).wr Reg.VLT_LIFECYCLE_STATE 2 with
    mode := .hostedIdle, pwr := { State.reset.pwr with lanOpen := true }, zyp := { State.reset.zyp with roster := [(3, ⟨9, 1, false⟩)] } }

/-- The first 60 bytes of a STATUS frame of that robot. -/
def zypHead : List Nat := [1, 1, 0, 3, 9, 0, 0, 0] ++ le 4 zypWitness.yardId ++ List.replicate 48 0

/-- The frame, tagged under key k. -/
def zypFrame (k : Nat) : List Byte := toBytes (zypHead ++ gcmTag k (zypNonce 1 0 9 0 0) zypHead)

theorem zypFrame_parts (k : Nat) : (zypFrame k).take ((zypFrame k).length - 16) = toBytes zypHead ∧
    (zypFrame k).drop ((zypFrame k).length - 16) = toBytes (gcmTag k (zypNonce 1 0 9 0 0) zypHead) := by
  have e : zypFrame k = toBytes zypHead ++ toBytes (gcmTag k (zypNonce 1 0 9 0 0) zypHead) := List.map_append
  have l1 : (toBytes zypHead).length = 60 := rfl
  have l2 : (toBytes (gcmTag k (zypNonce 1 0 9 0 0) zypHead)).length = 16 := by simp [toBytes, gcmTag]
  have l : (zypFrame k).length - 16 = (toBytes zypHead).length := by rw [e, List.length_append, l2]; omega
  rw [l, e]
  exact ⟨List.take_left, List.drop_left⟩

/-- Its tag verifies. -/
theorem zypFrame_tag (k : Nat) :
    gcmTag k (zypNonce (byteAt (zypFrame k) 1) 0 (leAt (zypFrame k) 4 4) (leAt (zypFrame k) 12 4) (leAt (zypFrame k) 16 4))
      (((zypFrame k).take ((zypFrame k).length - 16)).map BitVec.toNat) = ((zypFrame k).drop ((zypFrame k).length - 16)).map BitVec.toNat := by
  obtain ⟨a, b⟩ := zypFrame_parts k
  rw [a, b, toBytes_toNat (by decide), toBytes_toNat (l := gcmTag k (zypNonce 1 0 9 0 0) zypHead) fun b hb => le_lt hb]
  rfl

end Sys2Proof.Machine
end

