-- ==== Sys2Proof/Tests/Slice0.lean ====
section
/-! SUPPORT. Tests: what each check of well-formedness refuses, single steps on small states, and for each statement states and operands
that meet the hypotheses of its clauses. -/

namespace Sys2Proof.Tests

open Sys2Proof Sys2Proof.Machine

/-- A command with a given block, opcode, LENGTH and bus error. -/
def cmdOf (target opcode : Byte) (length : Word) (err : Option Nat) : Cmd := ⟨0, 0, 0, ⟨opcode, target, 0, false, 0, length, 0, 0, 0, 0⟩, err⟩

/-- A time stamp of 1,000,000,000 ns, or of a second beyond 48 bits, is refused (rule R6). -/
theorem test_wellFormed_time : (Instr.timeReq ⟨5, 1000000000, 0⟩).wellFormed = false ∧ (Instr.timeReq ⟨281474976710656, 0, 0⟩).wellFormed = false
    ∧ (Instr.timeReq ⟨5, 0, 65536⟩).wellFormed = false ∧ (Instr.timeReq ⟨281474976710655, 999999999, 65535⟩).wellFormed = true := by decide

/-- A descriptor of another block or opcode is refused, and one that moved more than LENGTH bytes before its bus error (rule R104). -/
theorem test_wellFormed_descriptor : (Instr.ident (cmdOf 2 1 0 none)).wellFormed = false ∧ (Instr.ident (cmdOf 0 2 0 none)).wellFormed = false
    ∧ (Instr.ident (cmdOf 0 1 8 (some 9))).wellFormed = false ∧ (Instr.ident (cmdOf 0 1 8 (some 8))).wellFormed = true := by decide

/-- A payload of another size than LENGTH is refused, unless the bus failed (rule R122). -/
theorem test_wellFormed_payload : (Instr.hold (cmdOf 12 1 3 none) [1, 2]).wellFormed = false ∧ (Instr.hold (cmdOf 12 1 2 none) [1, 2]).wellFormed = true
    ∧ (Instr.hold (cmdOf 12 1 3 (some 2)) [1, 2]).wellFormed = true := by decide

/-- A link width of three lanes and a speed of generation 0 are refused (rule R93). -/
theorem test_wellFormed_link : (Instr.pcieLinkUp 3 3).wellFormed = false ∧ (Instr.pcieLinkUp 0 4).wellFormed = false
    ∧ (Instr.pcieLinkUp 3 4).wellFormed = true := by decide

/-- A burst of other than 16 samples is refused (rule R373). -/
theorem test_wellFormed_burst : (Instr.dormerBurst 0 ⟨0, 0⟩ []).wellFormed = false ∧ (Instr.dormerBurst 0 ⟨0, 0⟩ (List.replicate 16 0)).wellFormed = true := by
  decide

/-- The hypotheses of StepTakesTheFront are met. -/
theorem test_StepTakesTheFront_met : (∃ (c : Instr) (s : State) (rest : List Instr), s.pending = c :: rest) ∧ (∃ s : State, s.pending = []) :=
  ⟨⟨.ready, { State.reset with pending := [.ready] }, [], rfl⟩, ⟨State.reset, rfl⟩⟩

/-- The hypotheses of CommandsKeepOtherParts are met. -/
theorem test_CommandsKeepOtherParts_met : ∃ (c : Instr) (s t : State), exec c s = .next t ∧ ∃ p : Part, Instr.mayChange c p = false :=
  ⟨.ready, State.reset, State.reset, rfl, .mem, by decide⟩

/-- The hypotheses of StepKeepsMemoryForm are met. -/
theorem test_StepKeepsMemoryForm_met : ∃ s t : State, s.MemoryOk ∧ step s = .next t :=
  ⟨State.reset, State.reset, by decide, rfl⟩

/-- The hypotheses of CommitMovesTheGroupAtOnce are met. -/
theorem test_CommitMovesTheGroupAtOnce_met : ∃ (s : State) (r : Fld) (fs : List Fld) (v : Nat), (fs.map Fld.key).Nodup ∧ (∀ f ∈ fs, f.key ≠ r.key) :=
  ⟨State.reset, Reg.GLB_COMMIT_RESULT, [Reg.GLB_CFG_EPOCH_LEN, Reg.GLB_CFG_FED_ID], St.done, by decide, by decide⟩

/-- The hypotheses of LaterIsTheSignedDifference are met. -/
theorem test_LaterIsTheSignedDifference_met : ∃ a b : BitVec 32, (a - b).toNat = 0x80000000 :=
  ⟨0x80000000, 0, by decide⟩

/-- The hypotheses of HoldingConditionSetsItsBitAgain are met. -/
theorem test_HoldingConditionSetsItsBitAgain_met : (∃ (s : State) (v : Word) (f : Fld), s.Up ∧ f.off = Reg.CLK_FAULT_REFCLK_LOST.off ∧ (f, true) ∈ s.conditions ∧ f ∈ s.hits f.off v.toNat) ∧
    (∃ (s : State) (v : Word) (f : Fld), s.Up ∧ f.off = Reg.CLK_FAULT_REFCLK_LOST.off ∧ (f, true) ∉ s.conditions ∧ f ∈ s.hits f.off v.toNat) :=
  ⟨⟨State.reset.wrEach [(Reg.CLK_FAULT_REFCLK_LOST, 1), (Reg.CLK_SRC_STATUS_REFCLK_PRESENT, 0)], BitVec.ofNat 32 (2 ^ Reg.CLK_FAULT_REFCLK_LOST.lo), Reg.CLK_FAULT_REFCLK_LOST, by decide⟩,
  ⟨State.reset.wrEach [(Reg.CLK_FAULT_REFCLK_LOST, 1), (Reg.CLK_SRC_STATUS_REFCLK_PRESENT, 1)], BitVec.ofNat 32 (2 ^ Reg.CLK_FAULT_REFCLK_LOST.lo), Reg.CLK_FAULT_REFCLK_LOST, by decide⟩⟩

/-- The hypotheses of MoveActsAsThroughABuffer are met. -/
theorem test_MoveActsAsThroughABuffer_met : (∃ (s : State) (n : Fin 32) (src dst len : Nat), s.Up ∧ s.atOp n.val 1 = true ∧ src = s.moveAddr (bits (s.chan n.val).ins 40 40)
    (loopOffset (·.sstr) (s.chan n.val).loops) ∧ dst = s.moveAddr (bits (s.chan n.val).ins 80 40) (loopOffset (·.dstr) (s.chan n.val).loops)
    ∧ len = bits (s.chan n.val).ins 16 24 ∧ bits (s.chan n.val).ins 4 2 = 0 ∧ 0 < len ∧ regionOf s.board src len = some .ram ∧ regionOf
    s.board dst len = some .ram) ∧ (∃ (s : State) (n : Fin 32), s.Up ∧ s.atOp n.val 1 = true ∧ bits (s.chan n.val).ins 16 24 = 0) ∧ (∃ (s :
    State) (n : Fin 32) (len : Nat), s.Up ∧ s.atOp n.val 1 = true ∧ bits (s.chan n.val).ins 4 2 = 0 ∧ len = bits (s.chan n.val).ins 16 24 ∧
    0 < len ∧ regionOf s.board (s.moveAddr (bits (s.chan n.val).ins 80 40) (loopOffset (·.dstr) (s.chan n.val).loops)) len = none) ∧ (∃ (s :
    State) (n : Fin 32), s.Up ∧ (s.chan n.val).move ≠ none) :=
  ⟨⟨{ State.reset with hst := [(4, { Chan.reset with st := .running, prog := [(0, 0x80001), (1, 0x10000), (2, 0x20000000), (3, 0)] })] }.wr (Reg.HST_CH_CFG_PROG_LEN 4) 3, 4, 256, 0x2000, 8, by decide⟩,
  ⟨{ State.reset with hst := [(4, { Chan.reset with st := .running, prog := [(0, 1)] })] }.wr (Reg.HST_CH_CFG_PROG_LEN 4) 3, 4, by decide⟩,
  ⟨{ State.reset with hst := [(4, { Chan.reset with st := .running, prog := [(0, 0x80001), (1, 0x10000), (2, 0x20000000), (3, 0xFFFFFF)] })] }.wr (Reg.HST_CH_CFG_PROG_LEN 4) 3, 4, 8, by decide⟩,
  ⟨{ State.reset with hst := [(4, { Chan.reset with move := some ⟨.mem 0 false, [], 0, 0, false, 0⟩ })] }, 4, by decide⟩⟩

/-- The hypotheses of IdentAnswersThePart are met. -/
theorem test_IdentAnswersThePart_met : ∃ (s : State) (c : Cmd), s.Up ∧ s.Accepts c .command ∧ c.desc.length = 0 :=
  ⟨State.reset.withCmd ⟨0, 0, 0, ⟨1, 0, 0, false, 22, 0, 0, 0, 0, 0⟩, none⟩, ⟨0, 0, 0, ⟨1, 0, 0, false, 22, 0, 0, 0, 0, 0⟩, none⟩, by decide⟩

/-- The hypotheses of each clause of PowerUpSequence are met, in order. -/
theorem test_PowerUpSequence_met :
    (∃ (s : State), (s.mode = .boot) ∧ (s.pwr.railEnAon = true) ∧ (s.pwr.railEnMain = false) ∧ (s.pwr.mainPowered = false))
    ∧ (∃ (s : State), (s.mode = .boot) ∧ (s.pwr.railEnMain = true) ∧ (s.pwr.mainPowered = false) ∧ (s.pwr.porDone = false) ∧
      (s.pwr.railAttempts < 3))
    ∧ (∃ (s : State), (s.mode = .boot) ∧ (s.pwr.railEnMain = true) ∧ (s.pwr.mainPowered = false) ∧ (s.pwr.porDone = false) ∧ (3 ≤
      s.pwr.railAttempts))
    ∧ (∃ (s : State), (s.mode = .boot) ∧ (s.pwr.railEnMain = false) ∧ (1 ≤ s.pwr.railAttempts) ∧ (s.pwr.railAttempts < 3))
    ∧ (∃ (s : State), (s.mode = .boot) ∧ (s.pwr.railEnMain = true) ∧ (s.pwr.mainPowered = false))
    ∧ (∃ (s : State) (khz : Nat) (straps : Fin 16) (storeOk loftOk vaultOk : Bool), (s.mode = .boot) ∧ (s.pwr.porDone = true) ∧
      (s.pwr.pfailLatched = false) ∧ (s.vlt.trans = none)) :=
  ⟨⟨{ State.reset with pwr := { State.reset.pwr with railEnMain := false, mainPowered := false } }, by decide⟩,
    ⟨{ State.reset with pwr := { State.reset.pwr with railEnMain := true, mainPowered := false, porDone := false, railAttempts := 2 } }, by decide⟩,
    ⟨{ State.reset with pwr := { State.reset.pwr with railEnMain := true, mainPowered := false, porDone := false, railAttempts := 3 } }, by decide⟩,
    ⟨{ State.reset with pwr := { State.reset.pwr with railEnMain := false, railAttempts := 2 } }, by decide⟩,
    ⟨{ State.reset with pwr := { State.reset.pwr with railEnMain := true, mainPowered := false } }, by decide⟩,
    ⟨{ State.reset with pwr := { State.reset.pwr with porDone := true } }, 0, 0, true, false, true, by decide⟩⟩

/-- The hypotheses of each clause of ResetsAndBrownOut are met, in order. -/
theorem test_ResetsAndBrownOut_met :
    (∃ (s : State), (s.Up) ∧ (s.pwr.pfailLatched = false))
    ∧ (∃ (s : State), (s.mode = .boot) ∧ (s.pwr.mainPowered = false) ∧ (s.pwr.pfailLatched = false))
    ∧ (∃ (s : State), (s.mode = .dormerWatch))
    ∧ (∃ (s : State), (s.mode ≠ .cellar) ∧ (s.pwr.pfailLatched = true))
    ∧ (∃ (s : State), (s.mode = .dormerWatch) ∧ (s.pwr.sysResetHeld = true))
    ∧ (∃ (s : State), (s.mode.main = true) ∧ ((s.pwr.mainPowered || s.pwr.porDone) = true)) :=
  ⟨⟨State.reset, by decide⟩,
    ⟨{ State.reset with pwr := { State.reset.pwr with mainPowered := false } }, by decide⟩,
    ⟨{ State.reset with mode := .dormerWatch }, by decide⟩,
    ⟨{ State.reset with pwr := { State.reset.pwr with pfailLatched := true } }, by decide⟩,
    ⟨{ State.reset with mode := .dormerWatch, pwr := { State.reset.pwr with sysResetHeld := true } }, by decide⟩,
    ⟨State.reset, by decide⟩⟩

/-- The hypotheses of each clause of PowerFailHandling are met, in order. -/
theorem test_PowerFailHandling_met :
    (∃ (s : State), (s.Up) ∧ (s.pwr.pfailLatched = false))
    ∧ (∃ (s : State), (s.Up) ∧ (s.pwr.pfailLatched = false) ∧ (s.mode.fleet = true) ∧ (s.twn.mirrored = false))
    ∧ (∃ (s : State), (s.Up) ∧ (s.pwr.pfailLatched = true) ∧ (s.rd Reg.CLK_LAST_MODE_PFAIL_STAGE < 16))
    ∧ (∃ (s : State), (s.Up) ∧ (s.pwr.pfailLatched = true))
    ∧ (∃ (s : State), (s.Up) ∧ (s.pwr.pfailLatched = true) ∧ (s.rd Reg.CLK_LAST_MODE_PFAIL_STAGE ≤ 3))
    ∧ (∃ (s : State), (s.Up) ∧ (s.pwr.pfailLatched = true))
    ∧ (∃ (s : State), (s.pwr.pfailLatched = true) ∧ (s.mode.main = true))
    ∧ (∃ (s : State), (s.mode = .dormerWatch) ∧ (s.pwr.entry = .pfail) ∧ (s.on Reg.CLK_WAKE_CFG_PFAIL_AUTO = true)) :=
  ⟨⟨State.reset, by decide⟩,
    ⟨{ State.reset with mode := .fleetRun, trp := { State.reset.trp with fleet := .go } }, by decide⟩,
    ⟨{ State.reset with pwr := { State.reset.pwr with pfailLatched := true } }, by decide⟩,
    ⟨{ State.reset with pwr := { State.reset.pwr with pfailLatched := true } }, by decide⟩,
    ⟨{ State.reset with pwr := { State.reset.pwr with pfailLatched := true } }, by decide⟩,
    ⟨{ State.reset with pwr := { State.reset.pwr with pfailLatched := true } }, by decide⟩,
    ⟨{ State.reset with pwr := { State.reset.pwr with pfailLatched := true } }, by decide⟩,
    ⟨{ State.reset with mode := .dormerWatch, pwr := { State.reset.pwr with entry := .pfail } }.wr Reg.CLK_WAKE_CFG_PFAIL_AUTO 1, by decide⟩⟩

/-- The hypotheses of each clause of ClockFaults are met, in order. -/
theorem test_ClockFaults_met :
    (∃ (s : State), (s.mode ≠ .cellar))
    ∧ (∃ (s : State), (s.mode ≠ .cellar))
    ∧ (∃ (s : State), (s.Up))
    ∧ (∃ (s : State), (s.Up))
    ∧ (∃ (s : State), (s.Up))
    ∧ (∃ (s : State), (s.Up))
    ∧ (∃ (s : State), (s.Up))
    ∧ (∃ (s : State), (s.Up))
    ∧ (∃ (s : State), (s.Up))
    ∧ (∃ (s : State) (v : Word), (s.Up)) :=
  ⟨⟨State.reset, by decide⟩,
    ⟨State.reset, by decide⟩,
    ⟨State.reset, by decide⟩,
    ⟨State.reset, by decide⟩,
    ⟨State.reset, by decide⟩,
    ⟨State.reset, by decide⟩,
    ⟨State.reset, by decide⟩,
    ⟨State.reset, by decide⟩,
    ⟨State.reset, by decide⟩,
    ⟨State.reset, 0x5F, by decide⟩⟩

/-- The hypotheses of each clause of ThermalEvents are met, in order. -/
theorem test_ThermalEvents_met :
    (∃ (s : State) (tj : BitVec 16), (s.Up) ∧ (s.pwr.warnCond = false) ∧ (s.warnLevel ≤ signed 16 tj.toNat))
    ∧ (∃ (s : State) (tj : BitVec 16), (s.Up) ∧ (signed 16 tj.toNat ≤ s.warnLevel - 40))
    ∧ (∃ (s : State) (tj : BitVec 16), (s.Up) ∧ (880 ≤ signed 16 tj.toNat))
    ∧ (∃ (s : State) (tj : BitVec 16), (s.mode.main = true) ∧ (944 ≤ signed 16 tj.toNat))
    ∧ (∃ (s : State), (s.mode = .dormerWatch) ∧ (s.pwr.entry = .thermCut) ∧ (s.on Reg.CLK_WAKE_CFG_THERM_AUTO = true ∨ s.pwr.wakeLatched ≠ 0))
    ∧ (∃ (s : State), (s.mode = .dormerWatch) ∧ (s.pwr.entry = .thermCut) ∧ (s.on Reg.CLK_WAKE_CFG_THERM_AUTO = false) ∧ (s.pwr.wakeLatched =
      0)) :=
  ⟨⟨State.reset, 0x400, by decide⟩,
    ⟨State.reset, 0, by decide⟩,
    ⟨State.reset, 880, by decide⟩,
    ⟨State.reset, 944, by decide⟩,
    ⟨{ State.reset with mode := .dormerWatch, pwr := { State.reset.pwr with entry := .thermCut, wakeLatched := 0 } }.wr Reg.CLK_WAKE_CFG_THERM_AUTO 1, by decide⟩,
    ⟨{ State.reset with mode := .dormerWatch, pwr := { State.reset.pwr with entry := .thermCut, wakeLatched := 0 } }.wr Reg.CLK_WAKE_CFG_THERM_AUTO 0, by decide⟩⟩

/-- The hypotheses of each clause of WakeSources are met, in order. -/
theorem test_WakeSources_met :
    (∃ (s : State) (pin1 rising : Bool), (s.mode = .cellar ∨ s.mode = .dormerWatch) ∧ (s.pwr.pdown = none) ∧ (s.pwr.entry ≠ .thermCut ∨
      s.pwr.aonCool = true) ∧ (s.on (if pin1 then Reg.CLK_WAKE_CFG_WAKE_IN1_EN else Reg.CLK_WAKE_CFG_WAKE_IN0_EN) = true) ∧ (s.on (if pin1
      then Reg.CLK_WAKE_CFG_WAKE_IN1_POL else Reg.CLK_WAKE_CFG_WAKE_IN0_POL) = rising))
    ∧ (∃ (s : State) (pin1 rising : Bool), (s.pwr.pdown.isSome = true) ∧ (s.on (if pin1 then Reg.CLK_WAKE_CFG_WAKE_IN1_EN else
      Reg.CLK_WAKE_CFG_WAKE_IN0_EN) = true) ∧ (s.on (if pin1 then Reg.CLK_WAKE_CFG_WAKE_IN1_POL else Reg.CLK_WAKE_CFG_WAKE_IN0_POL) =
      rising))
    ∧ (∃ (s : State), (s.pwr.timerOn = true) ∧ (s.mode = .cellar ∨ s.mode = .dormerWatch) ∧ (s.pwr.pdown = none) ∧ (s.pwr.entry ≠ .thermCut ∨
      s.pwr.aonCool = true))
    ∧ (∃ (s : State), (s.mode = .cellar ∨ s.mode = .dormerWatch) ∧ (s.pwr.pdown = none) ∧ (s.pwr.entry ≠ .thermCut) ∧ (s.pwr.wakeLatched ≠ 0))
    ∧ (∃ (s : State), (s.Up) ∧ (s.sh Reg.CLK_WAKE_CFG_WAKE_IN0_EN + s.sh Reg.CLK_WAKE_CFG_WAKE_IN1_EN + s.sh Reg.CLK_WAKE_CFG_DORMER_EN + s.sh
      Reg.CLK_WAKE_TIMER_SECONDS ≠ 0))
    ∧ (∃ (s : State), (s.Up) ∧ (s.sh Reg.CLK_WAKE_CFG_WAKE_IN0_EN + s.sh Reg.CLK_WAKE_CFG_WAKE_IN1_EN + s.sh Reg.CLK_WAKE_CFG_DORMER_EN + s.sh
      Reg.CLK_WAKE_TIMER_SECONDS = 0)) :=
  ⟨⟨{ State.reset with mode := .cellar, pwr := { State.reset.pwr with pdown := none, entry := .none, wakeLatched := 0 } }.wr Reg.CLK_WAKE_CFG_WAKE_IN0_EN 1, false, false, by decide⟩,
    ⟨{ State.reset with pwr := { State.reset.pwr with pdown := some ⟨.cellar, false, false, false, false⟩ } }.wr Reg.CLK_WAKE_CFG_WAKE_IN0_EN 1, false, false, by decide⟩,
    ⟨{ State.reset with mode := .dormerWatch, pwr := { State.reset.pwr with pdown := none, entry := .commanded, wakeLatched := 0, timerOn := true } }, by decide⟩,
    ⟨{ State.reset with mode := .dormerWatch, pwr := { State.reset.pwr with pdown := none, entry := .commanded, wakeLatched := 1 } }, by decide⟩,
    ⟨State.reset.wrShadow Reg.CLK_WAKE_CFG_DORMER_EN 1, by decide⟩,
    ⟨State.reset.wrShadow Reg.CLK_WAKE_CFG_DORMER_EN 0, by decide⟩⟩

/-- The hypotheses of each clause of ModeRequests are met, in order. -/
theorem test_ModeRequests_met :
    (∃ (s : State), (s.Up) ∧ (s.hre.claimed = true) ∧ (s.modeBusy = false) ∧ (s.mode = .hostedIdle) ∧ (s.canWake .cellar = true))
    ∧ (∃ (s : State), (s.Up) ∧ (s.hre.claimed = true) ∧ (s.modeBusy = false) ∧ (s.mode = .hostedIdle) ∧ (s.canWake .dormerWatch = true))
    ∧ (∃ (s : State), (s.Up) ∧ (s.hre.claimed = true) ∧ (s.modeBusy = false) ∧ (s.mode = .hostedIdle) ∧ (s.canWake .dormerWatch = false))
    ∧ (∃ (s : State), (s.Up) ∧ (s.hre.claimed = true) ∧ (s.modeBusy = false) ∧ (s.mode = .hostedIdle ∨ s.mode = .faultSafe ∨ s.mode =
      .rejoin))
    ∧ (∃ (s : State), (s.Up) ∧ (s.hre.claimed = true) ∧ (s.modeBusy = false) ∧ (s.mode = .hostedIdle))
    ∧ (∃ (s : State), (s.Up) ∧ (s.hre.claimed = true) ∧ (s.modeBusy = false) ∧ (s.mode = .fleetHold) ∧ (s.standstill = true))
    ∧ (∃ (s : State), (s.Up) ∧ (s.hre.claimed = true) ∧ (s.modeBusy = false) ∧ (s.mode = .hostedIdle) ∧ (s.life = 2) ∧ (s.isPending
      Reg.LDR_MAP_COMMIT_RESULT = false) ∧ (s.on Reg.CLK_ADMIT_STATUS_TABLES_COMMITTED = true) ∧ (s.refValid = true) ∧ (s.trp.fleet ≠ .stop)
      ∧ (s.on Reg.FJR_CFG_TWIN_EN = false))
    ∧ (∃ (s : State), (s.Up) ∧ (s.hre.claimed = true) ∧ (s.modeBusy = false) ∧ (s.mode = .hostedIdle) ∧ (s.life = 2) ∧ (s.isPending
      Reg.LDR_MAP_COMMIT_RESULT = false) ∧ (s.on Reg.CLK_ADMIT_STATUS_TABLES_COMMITTED = true) ∧ (s.refValid = true) ∧ (s.trp.fleet ≠ .stop)
      ∧ (s.on Reg.FJR_CFG_TWIN_EN = true) ∧ (s.on Reg.FJR_STATUS_CLAIM_IN = false))
    ∧ (∃ (s : State), (s.Up) ∧ (s.hre.claimed = false))
    ∧ (∃ (s : State), (s.Up) ∧ (s.hre.claimed = true) ∧ (s.on Reg.CLK_MODE_STATUS_IN_TRANSIT = true))
    ∧ (∃ (s : State), (s.Up) ∧ (s.twn.arb = true) ∧ (s.twn.stopped = false) ∧ ((s.seat == 0 && s.on Reg.FJR_STATUS_CLAIM_IN) = false) ∧
      (s.pwr.pfailLatched = false))
    ∧ (∃ (s : State), (s.Up) ∧ (s.twn.arb = true) ∧ (((s.seat == 0 && s.on Reg.FJR_STATUS_CLAIM_IN) || s.twn.stopped) = true)) :=
  ⟨⟨{ State.reset with mode := .hostedIdle, hre := { State.reset.hre with claimed := true } }.wr Reg.CLK_WAKE_CFG_WAKE_IN0_EN 1, by decide⟩,
    ⟨{ State.reset with mode := .hostedIdle, hre := { State.reset.hre with claimed := true } }.wr Reg.CLK_WAKE_CFG_WAKE_IN0_EN 1, by decide⟩,
    ⟨{ State.reset with mode := .hostedIdle, hre := { State.reset.hre with claimed := true } }.wr Reg.CLK_WAKE_CFG_DORMER_EN 0, by decide⟩,
    ⟨{ State.reset with mode := .faultSafe, hre := { State.reset.hre with claimed := true } }, by decide⟩,
    ⟨{ State.reset with mode := .hostedIdle, hre := { State.reset.hre with claimed := true } }, by decide⟩,
    ⟨{ State.reset with mode := .fleetHold, hre := { State.reset.hre with claimed := true } }, by decide⟩,
    ⟨{ (State.reset.wr Reg.CLK_ADMIT_STATUS_TABLES_COMMITTED 1) with mode := .hostedIdle, hre := { State.reset.hre with claimed := true }, nvm := { State.reset.nvm with ref := some ⟨0, 0, 0, 1, 0, 0, 0, true⟩ } }.wr Reg.VLT_LIFECYCLE_STATE 2, by decide⟩,
    ⟨({ (State.reset.wr Reg.CLK_ADMIT_STATUS_TABLES_COMMITTED 1) with mode := .hostedIdle, hre := { State.reset.hre with claimed := true }, nvm := { State.reset.nvm with ref := some ⟨0, 0, 0, 1, 0, 0, 0, true⟩ } }.wr Reg.VLT_LIFECYCLE_STATE 2).wr Reg.FJR_CFG_TWIN_EN 1, by decide⟩,
    ⟨State.reset, by decide⟩,
    ⟨{ State.reset with hre := { State.reset.hre with claimed := true } }.wr Reg.CLK_MODE_STATUS_IN_TRANSIT 1, by decide⟩,
    ⟨{ State.reset with mode := .hostedIdle, twn := { State.reset.twn with arb := true, stopped := false } }, by decide⟩,
    ⟨{ State.reset with mode := .hostedIdle, twn := { State.reset.twn with arb := true } }.wr Reg.FJR_STATUS_CLAIM_IN 1, by decide⟩⟩

/-- The hypotheses of each clause of PowerDown are met, in order. -/
theorem test_PowerDown_met :
    (∃ (s : State) (d : Pdown), (s.Up) ∧ (s.pwr.pdown = some d) ∧ (s.pwr.pfailLatched = false))
    ∧ (∃ (s : State) (d : Pdown), (s.Up) ∧ (s.pwr.pdown = some d) ∧ (s.pwr.pfailLatched = false))
    ∧ (∃ (s : State) (d : Pdown), (s.Up) ∧ (s.pwr.pdown = some d) ∧ (s.pwr.pfailLatched = false))
    ∧ (∃ (s : State) (d : Pdown), (s.Up) ∧ (s.pwr.pdown = some d) ∧ (s.pwr.pfailLatched = false) ∧ (d.railCut = false) ∧ (d.target =
      .dormerWatch))
    ∧ (∃ (s : State) (d : Pdown), (s.Up) ∧ (s.pwr.pdown = some d) ∧ (s.pwr.pfailLatched = false) ∧ (d.railCut = false) ∧ (d.target = .cellar))
    ∧ (∃ (s : State) (d : Pdown), (s.mode = .dormerWatch) ∧ (s.pwr.pdown = some d) ∧ (d.railCut = true) ∧ (s.pwr.sysResetHeld = false))
    ∧ (∃ (s : State) (d : Pdown), (s.pwr.pdown = some d) ∧ (s.pwr.sysResetHeld = true)) :=
  ⟨⟨{ State.reset with mode := .hostedIdle, pwr := { State.reset.pwr with pdown := some ⟨.cellar, false, false, false, false⟩ } }, ⟨.cellar, false, false, false, false⟩, by decide⟩,
    ⟨{ State.reset with mode := .hostedIdle, pwr := { State.reset.pwr with pdown := some ⟨.cellar, false, false, false, false⟩ } }, ⟨.cellar, false, false, false, false⟩, by decide⟩,
    ⟨{ State.reset with mode := .hostedIdle, pwr := { State.reset.pwr with pdown := some ⟨.cellar, false, false, false, false⟩ } }, ⟨.cellar, false, false, false, false⟩, by decide⟩,
    ⟨{ State.reset with mode := .hostedIdle, pwr := { State.reset.pwr with pdown := some ⟨.dormerWatch, true, true, true, false⟩ } }, ⟨.dormerWatch, true, true, true, false⟩, by decide⟩,
    ⟨{ State.reset with mode := .hostedIdle, pwr := { State.reset.pwr with pdown := some ⟨.cellar, true, true, true, false⟩ } }, ⟨.cellar, true, true, true, false⟩, by decide⟩,
    ⟨{ State.reset with mode := .dormerWatch, pwr := { State.reset.pwr with pdown := some ⟨.cellar, true, true, true, true⟩ } }, ⟨.cellar, true, true, true, true⟩, by decide⟩,
    ⟨{ State.reset with mode := .dormerWatch, pwr := { State.reset.pwr with pdown := some ⟨.cellar, true, true, true, true⟩, sysResetHeld := true } }, ⟨.cellar, true, true, true, true⟩, by decide⟩⟩

/-- The hypotheses of each clause of AdmissionLadder are met, in order. -/
theorem test_AdmissionLadder_met :
    (∃ (s : State), (s.Up) ∧ (s.mode = .boot) ∧ (s.rd Reg.CLK_SRC_STATUS_REFCLK_FREQ ≠ 3) ∧ (s.on Reg.CLK_SRC_STATUS_REFCLK_PRESENT = true))
    ∧ (∃ (s : State) (words buckets : List (BitVec 23)) (grants : List (BitVec 11)), (s.Up) ∧ (s.mode = .boot) ∧ (s.upd.image = true))
    ∧ (∃ (s : State) (a b : Bool), (s.Up) ∧ (s.ladder = true))
    ∧ (∃ (s : State) (lanB : Bool), (s.Up) ∧ (s.on Reg.CLK_ADMIT_STATUS_LAN_ADMITTED = true) ∧ (s.on Reg.CLK_SRC_STATUS_PLL_SERDES_LOCK =
      true))
    ∧ (∃ (s : State), (s.Up) ∧ (s.ladder = true))
    ∧ (∃ (s : State), (s.Up) ∧ (s.mode = .boot) ∧ (s.ladder = true) ∧ (s.pwr.pfailLatched = false))
    ∧ (∃ (s : State), (s.Up) ∧ (s.ladder = true)) :=
  ⟨⟨State.reset.wr Reg.CLK_SRC_STATUS_REFCLK_PRESENT 1, by decide⟩,
    ⟨{ State.reset with upd := { State.reset.upd with image := true } }, [3], [7], [5], by decide⟩,
    ⟨{ State.reset with upd := { State.reset.upd with image := true } }.wr Reg.CLK_SRC_STATUS_PLL_SERDES_LOCK 1, true, false, by decide⟩,
    ⟨(State.reset.wr Reg.CLK_SRC_STATUS_PLL_SERDES_LOCK 1).wr Reg.CLK_ADMIT_STATUS_LAN_ADMITTED 1, true, by decide⟩,
    ⟨{ State.reset with upd := { State.reset.upd with image := true } }, by decide⟩,
    ⟨{ State.reset with upd := { State.reset.upd with image := true } }, by decide⟩,
    ⟨{ State.reset with upd := { State.reset.upd with image := true } }, by decide⟩⟩

/-- The hypotheses of each clause of HostEndpoint are met, in order. -/
theorem test_HostEndpoint_met :
    (∃ (s : State), (s.Up))
    ∧ (∃ (s : State) (speed width : Fin 5), (s.Up) ∧ (speed = 1 ∨ speed = 2 ∨ speed = 3) ∧ (width = 1 ∨ width = 2 ∨ width = 4))
    ∧ (∃ (s : State), (s.Up))
    ∧ (∃ (s : State), (s.Up))
    ∧ (∃ (s : State), (s.Up) ∧ (s.hre.served = true) ∧ ((s.hre.claimed = true → ∀ f ∈ [Reg.HRE_DB_BASE_ADDR, Reg.HRE_SH_BASE_ADDR,
      Reg.HRE_HOST_CFG_SESSION], s.sh f = s.rd f)) ∧ (s.sh Reg.HRE_DB_BASE_ADDR ≠ 0) ∧ (s.sh Reg.HRE_SH_BASE_ADDR ≠ 0) ∧ (s.sh
      Reg.HRE_DB_BASE_ADDR ≠ s.sh Reg.HRE_SH_BASE_ADDR) ∧ (s.sh Reg.HRE_HOST_CFG_SESSION ≠ 0) ∧ (s.sh Reg.HRE_POLL_CFG_POLL_PERIOD ≤ 1000))
    ∧ (∃ (s : State) (v : Word), (s.Up) ∧ (s.hre.served = true) ∧ (s.hre.committed = true) ∧ (s.hre.claimed = false) ∧ (s.pwr.pfailLatched =
      false) ∧ (s.pwr.pdown = none) ∧ (bits v.toNat 31 1 = 1) ∧ (bits v.toNat 30 1 = 0) ∧ (bits v.toNat 0 16 ≠ 0) ∧ (bits v.toNat 0 16 =
      s.rd Reg.HRE_HOST_CFG_SESSION))
    ∧ (∃ (s : State) (v : Word) (bme : Bool), (s.Up) ∧ (s.hre.served = true) ∧ (s.hre.claimed = true) ∧ (bits v.toNat 31 1 = 0) ∧ (bits
      v.toNat 30 1 = 1))
    ∧ (∃ (s : State), (s.Up) ∧ (s.hre.claimed = true) ∧ (s.rd Reg.HRE_POLL_CFG_HOST_TIMEOUT ≠ 0))
    ∧ (∃ (s : State), (s.Up) ∧ (s.hre.claimed = true))
    ∧ (∃ (s : State), (s.Up) ∧ (s.hre.claimed = true))
    ∧ (∃ (s : State), (s.Up) ∧ (s.hre.claimed = true))
    ∧ (∃ (s : State), (s.Up) ∧ (s.hre.claimed = false))
    ∧ (∃ (s : State), (s.Up) ∧ (s.hre.claimed = true))
    ∧ (∃ (s : State), (s.Up) ∧ (s.hre.claimed = false))
    ∧ (∃ (s : State), (s.Up))
    ∧ (∃ (s : State), (s.Up) ∧ (s.hre.served = true)) :=
  ⟨⟨State.reset, by decide⟩,
    ⟨State.reset, 3, 4, by decide⟩,
    ⟨State.reset, by decide⟩,
    ⟨State.reset, by decide⟩,
    ⟨(({ State.reset with hre := { State.reset.hre with served := true } }.wrShadow Reg.HRE_DB_BASE_ADDR 4096).wrShadow Reg.HRE_SH_BASE_ADDR 8192).wrShadow Reg.HRE_HOST_CFG_SESSION 5, by decide⟩,
    ⟨{ State.reset with hre := { State.reset.hre with served := true, committed := true } }.wr Reg.HRE_HOST_CFG_SESSION 5, 0x80000005, by decide⟩,
    ⟨{ State.reset with hre := { State.reset.hre with served := true, claimed := true } }, 0x40000000, true, by decide⟩,
    ⟨{ State.reset with hre := { State.reset.hre with claimed := true } }.wr Reg.HRE_POLL_CFG_HOST_TIMEOUT 100, by decide⟩,
    ⟨{ State.reset with hre := { State.reset.hre with claimed := true } }, by decide⟩,
    ⟨{ State.reset with hre := { State.reset.hre with claimed := true } }, by decide⟩,
    ⟨{ State.reset with hre := { State.reset.hre with claimed := true } }, by decide⟩,
    ⟨State.reset, by decide⟩,
    ⟨{ State.reset with hre := { State.reset.hre with claimed := true } }, by decide⟩,
    ⟨State.reset, by decide⟩,
    ⟨State.reset, by decide⟩,
    ⟨{ State.reset with hre := { State.reset.hre with served := true } }, by decide⟩⟩

/-- The hypotheses of each clause of HostRings are met, in order. -/
theorem test_HostRings_met :
    (∃ (s : State) (words : Vector Word 128) (alive : Word), (s.Up) ∧ (s.hre.claimed = true) ∧ (s.hre.kick = true ∨ s.rd
      Reg.HRE_POLL_CFG_POLL_PERIOD ≠ 0))
    ∧ (∃ (s : State) (words : Vector Word 128) (alive : Word), (s.Up) ∧ (s.hre.claimed = true) ∧ (s.hre.kick = true ∨ s.rd
      Reg.HRE_POLL_CFG_POLL_PERIOD ≠ 0))
    ∧ (∃ (s : State) (n : Fin 128) (l : List Desc), (s.Up) ∧ (s.hre.claimed = true) ∧ (s.hre.fetchOpen = true) ∧ (s.isSub n.val = true) ∧
      ((s.ring n.val).st = .running) ∧ (idxDiff (s.ring n.val).db (s.ring n.val).index < 32768) ∧ (idxDiff (s.ring n.val).db (s.ring
      n.val).index ≤ idxDiff (s.ring n.val).limit (s.ring n.val).index))
    ∧ (∃ (s : State) (n : Fin 128) (l : List Desc), (s.Up) ∧ (s.hre.claimed = true) ∧ (s.hre.fetchOpen = true) ∧ (s.isSub n.val = true) ∧
      ((s.ring n.val).st = .running) ∧ (idxDiff (s.ring n.val).db (s.ring n.val).index < 32768))
    ∧ (∃ (s : State) (c : Cmd), (s.Up) ∧ (s.Accepts c .command))
    ∧ (∃ (s : State) (c : Cmd), (s.Up) ∧ (s.Accepts c .command))
    ∧ (∃ (s : State) (n : Fin 128) (i : BitVec 16) (x : SubDesc) (r : HostResult), (s.Up) ∧ (s.canWrite = true) ∧ ((s.ring n.val).sub.find?
      (fun y => y.index == i.toNat && y.written == .no) = some x) ∧ (x.done = some r) ∧ (s.hre.due = []) ∧ (earlierUnwritten i.toNat
      (x.desc.target.toNat % 32) (s.ring n.val).sub = false) ∧ (¬ (r.status = St.done ∧ bits x.desc.flags.toNat 1 1 = 1)) ∧ (s.rd
      (Reg.HRE_RING_CFG_BIND n.val) ≠ n.val))
    ∧ (∃ (s : State) (n : Fin 128) (i : BitVec 16) (x : SubDesc) (r : HostResult), (s.Up) ∧ (s.canWrite = false) ∧ ((s.ring n.val).sub.find?
      (fun y => y.index == i.toNat && y.written == .no) = some x) ∧ (x.done = some r) ∧ (s.hre.due = []) ∧ (earlierUnwritten i.toNat
      (x.desc.target.toNat % 32) (s.ring n.val).sub = false) ∧ (¬ (r.status = St.done ∧ bits x.desc.flags.toNat 1 1 = 1)))
    ∧ (∃ (s : State) (e : BlockEvent) (rest : List BlockEvent) (n : Nat), (s.Up) ∧ (s.evq = e :: rest) ∧ (s.rd Reg.GLB_EVENT_RING_RING = n) ∧
      (s.on Reg.GLB_EVENT_RING_EN = true) ∧ (s.on (Reg.HRE_RING_CFG_ENABLE n) = true) ∧ (s.ringType n = 4) ∧ ((s.ring n).st = .running) ∧
      ((s.ring n).entries.length + (s.ring n).waiting.length < s.ringSize n))
    ∧ (∃ (s : State) (e : BlockEvent) (rest : List BlockEvent) (n : Nat), (s.Up) ∧ (s.evq = e :: rest) ∧ (s.rd Reg.GLB_EVENT_RING_RING = n) ∧
      (s.on Reg.GLB_EVENT_RING_EN = true) ∧ (s.on (Reg.HRE_RING_CFG_ENABLE n) = true) ∧ (s.ringType n = 4) ∧ ((s.ring n).st = .running) ∧
      (s.ringSize n ≤ (s.ring n).entries.length + (s.ring n).waiting.length))
    ∧ (∃ (s : State) (e : BlockEvent) (rest : List BlockEvent), (s.Up) ∧ (s.evq = e :: rest) ∧ (s.on Reg.GLB_EVENT_RING_EN = false ∨ s.on
      (Reg.HRE_RING_CFG_ENABLE (s.rd Reg.GLB_EVENT_RING_RING)) = false) ∧ (s.rd Reg.GLB_EVENT_LOST + 1 < 2 ^ Reg.GLB_EVENT_LOST.w - 1))
    ∧ (∃ (s : State) (n : Fin 128) (k : Nat), (s.Up) ∧ ((s.ring n.val).timerOn = true) ∧ ((s.ring n.val).unsig ≠ 0) ∧ (s.rd
      (Reg.HRE_RING_CFG_VECTOR n.val) = k))
    ∧ (∃ (s : State) (v : Fin 16), (s.Up) ∧ ((s.vec v.val).merged = false))
    ∧ (∃ (s : State) (v : Fin 16), (s.Up) ∧ ((s.vec v.val).merged = true))
    ∧ (∃ (s : State) (v : Fin 16), (s.Up))
    ∧ (∃ (s : State) (n : Nat), (s.Up) ∧ (s.hre.served = true) ∧ (s.rd Reg.HRE_RING_SEL_RING = n) ∧ ((s.ring n).st ≠ .draining) ∧ (s.ringBad n
      = false) ∧ (s.on (Reg.HRE_RING_CFG_ENABLE n) = false) ∧ (s.sh (Reg.HRE_RING_CFG_ENABLE n) = 1))
    ∧ (∃ (s : State) (n : Nat), (s.Up) ∧ (s.hre.served = true) ∧ (s.rd Reg.HRE_RING_SEL_RING = n) ∧ ((s.ring n).st ≠ .draining) ∧ (s.ringBad n
      = false) ∧ (s.on (Reg.HRE_RING_CFG_ENABLE n) = true) ∧ (s.sh (Reg.HRE_RING_CFG_ENABLE n) ≠ 1))
    ∧ (∃ (s : State) (n : Nat), (s.Up) ∧ (s.hre.served = true) ∧ (s.rd Reg.HRE_RING_SEL_RING = n) ∧ ((s.ring n).st ≠ .draining) ∧ (s.ringBad n
      = false) ∧ (s.on (Reg.HRE_RING_CFG_ENABLE n) = (s.sh (Reg.HRE_RING_CFG_ENABLE n) == 1)))
    ∧ (∃ (s : State) (n : Fin 128), (s.Up) ∧ ((s.ring n.val).st = .draining) ∧ (allWritten (s.ring n.val).sub = true)) :=
  ⟨⟨{ State.reset with hre := { State.reset.hre with claimed := true, kick := true } }, Vector.replicate 128 0, 1, by decide⟩,
    ⟨{ State.reset with hre := { State.reset.hre with claimed := true, kick := true } }, Vector.replicate 128 0, 1, by decide⟩,
    ⟨({ State.reset with hre := { State.reset.hre with claimed := true, fetchOpen := true, rings := [(2, { RingSt.off with st := .running })] } }).wr (Reg.HRE_RING_CFG_ENABLE 2) 1, 2, [], by decide⟩,
    ⟨({ State.reset with hre := { State.reset.hre with claimed := true, fetchOpen := true, rings := [(2, { RingSt.off with st := .running })] } }).wr (Reg.HRE_RING_CFG_ENABLE 2) 1, 2, [], by decide⟩,
    ⟨State.reset.withCmd ⟨5, 2, 0, ⟨0, 2, 0, false, 0, 0, 0, 0, 0, 0⟩, none⟩, ⟨5, 2, 0, ⟨0, 2, 0, false, 0, 0, 0, 0, 0, 0⟩, none⟩, by decide⟩,
    ⟨State.reset.withCmd ⟨5, 2, 0, ⟨1, 2, 0, false, 0, 0, 0, 77, 0, 0⟩, none⟩, ⟨5, 2, 0, ⟨1, 2, 0, false, 0, 0, 0, 77, 0, 0⟩, none⟩, by decide⟩,
    ⟨((({ State.reset with hre := { State.reset.hre with claimed := true, bme := true, rings := [(2, { RingSt.off with st := .running, sub := [⟨0, ⟨0, 2, 0, false, 0, 0, 0, 0, 0, 0⟩, 0, true, some ⟨5, 0, 0⟩, .no⟩] })] } }).wr Reg.HRE_STATUS_LINK_UP 1).wr (Reg.HRE_RING_CFG_BIND 2) 1), 2, 0, ⟨0, ⟨0, 2, 0, false, 0, 0, 0, 0, 0, 0⟩, 0, true, some ⟨5, 0, 0⟩, .no⟩, ⟨5, 0, 0⟩, by decide⟩,
    ⟨{ State.reset with hre := { State.reset.hre with claimed := true, rings := [(2, { RingSt.off with st := .running, sub := [⟨0, ⟨0, 2, 0, false, 0, 0, 0, 0, 0, 0⟩, 0, true, some ⟨5, 0, 0⟩, .no⟩] })] } }, 2, 0, ⟨0, ⟨0, 2, 0, false, 0, 0, 0, 0, 0, 0⟩, 0, true, some ⟨5, 0, 0⟩, .no⟩, ⟨5, 0, 0⟩, by decide⟩,
    ⟨((((({ State.reset with evq := [⟨1, 1, 0, ⟨0, 0, 0⟩⟩], hre := { State.reset.hre with claimed := true, bme := true, rings := [(3, { RingSt.off with st := .running })] } }).wr Reg.HRE_STATUS_LINK_UP 1).wr (Reg.HRE_RING_CFG_TYPE 3) 4).wr (Reg.HRE_RING_CFG_ENABLE 3) 1).wr Reg.GLB_EVENT_RING_RING 3 |>.wr Reg.GLB_EVENT_RING_EN 1 |>.wr (Reg.HRE_RING_CFG_SIZE_LOG2 3) 4), ⟨1, 1, 0, ⟨0, 0, 0⟩⟩, [], 3, by decide⟩,
    ⟨((((({ State.reset with evq := [⟨1, 1, 0, ⟨0, 0, 0⟩⟩], hre := { State.reset.hre with claimed := true, bme := true, rings := [(3, { RingSt.off with st := .running, waiting := [⟨0, 0, 0, 0, 0, ⟨0, 0, 0⟩⟩] })] } }).wr Reg.HRE_STATUS_LINK_UP 1).wr (Reg.HRE_RING_CFG_TYPE 3) 4).wr (Reg.HRE_RING_CFG_ENABLE 3) 1).wr Reg.GLB_EVENT_RING_RING 3 |>.wr Reg.GLB_EVENT_RING_EN 1 |>.wr (Reg.HRE_RING_CFG_SIZE_LOG2 3) 0), ⟨1, 1, 0, ⟨0, 0, 0⟩⟩, [], 3, by decide⟩,
    ⟨{ State.reset with evq := [⟨1, 1, 0, ⟨0, 0, 0⟩⟩] }, ⟨1, 1, 0, ⟨0, 0, 0⟩⟩, [], by decide⟩,
    ⟨{ State.reset with hre := { State.reset.hre with rings := [(2, { RingSt.off with timerOn := true, unsig := 1 })] } }, 2, 0, by decide⟩,
    ⟨State.reset, 3, by decide⟩,
    ⟨{ State.reset with hre := { State.reset.hre with vecs := [(3, { VecSt.rest with merged := true })] } }, 3, by decide⟩,
    ⟨State.reset.wr (Reg.MSIX_PENDING 3) 1, 3, by decide⟩,
    ⟨((({ State.reset with hre := { State.reset.hre with served := true } }.wr Reg.HRE_RING_SEL_RING 1).wrShadow (Reg.HRE_RING_CFG_TYPE 1) 3).wrShadow (Reg.HRE_RING_CFG_SIZE_LOG2 1) 8).wrShadow (Reg.HRE_RING_CFG_ENABLE 1) 1 |>.wrShadow (Reg.HRE_RING_BASE_ADDR 1) 1, 1, by decide⟩,
    ⟨(((({ State.reset with hre := { State.reset.hre with served := true } }.wr Reg.HRE_RING_SEL_RING 3).wr (Reg.HRE_RING_CFG_TYPE 3) 3).wr (Reg.HRE_RING_CFG_SIZE_LOG2 3) 8).wr (Reg.HRE_RING_CFG_ENABLE 3) 1).wr (Reg.HRE_RING_BASE_ADDR 3) 1 |>.wrShadow (Reg.HRE_RING_CFG_ENABLE 3) 0, 3, by decide⟩,
    ⟨((({ State.reset with hre := { State.reset.hre with served := true } }.wr Reg.HRE_RING_SEL_RING 1).wrShadow (Reg.HRE_RING_CFG_TYPE 1) 3).wrShadow (Reg.HRE_RING_CFG_SIZE_LOG2 1) 8) |>.wrShadow (Reg.HRE_RING_BASE_ADDR 1) 1, 1, by decide⟩,
    ⟨{ State.reset with hre := { State.reset.hre with rings := [(2, { RingSt.off with st := .draining })] } }, 2, by decide⟩⟩

/-- The hypotheses of each clause of ChuteOperations are met, in order. -/
theorem test_ChuteOperations_met :
    (∃ (s : State) (n : Fin 96) (prio : Fin 8), (s.Up) ∧ ((s.chute n.val).opened = none) ∧ (s.chuteOn n.val = true) ∧ (s.rd
      (Reg.CHU_CFG_PKT_MAX n.val) ≤ s.freeCredit n.val))
    ∧ (∃ (s : State) (n : Fin 96) (prio : Fin 8), (s.Up) ∧ ((s.chute n.val).opened.isSome = true))
    ∧ (∃ (s : State) (n : Fin 96) (prio : Fin 8), (s.Up) ∧ ((s.chute n.val).opened = none) ∧ (s.chuteOn n.val = false ∨ s.freeCredit n.val <
      s.rd (Reg.CHU_CFG_PKT_MAX n.val)) ∧ (s.rd (Reg.CHU_NOCREDIT n.val) < 4294967294))
    ∧ (∃ (s : State) (n : Fin 96) (w : DWord) (o : OpenPkt), (s.Up) ∧ ((s.chute n.val).opened = some o) ∧ (o.ovr = false) ∧ (o.words.length <
      s.rd (Reg.CHU_CFG_PKT_MAX n.val)))
    ∧ (∃ (s : State) (n : Fin 96) (w : DWord) (o : OpenPkt), (s.Up) ∧ ((s.chute n.val).opened = some o) ∧ (o.ovr = false) ∧ (s.rd
      (Reg.CHU_CFG_PKT_MAX n.val) ≤ o.words.length) ∧ (s.rd (Reg.CHU_OVERSIZE n.val) < 4294967294))
    ∧ (∃ (s : State) (n : Fin 96) (o : OpenPkt), (s.Up) ∧ ((s.chute n.val).opened = some o) ∧ (o.ovr = false) ∧ (o.words ≠ []))
    ∧ (∃ (s : State) (n : Fin 96) (o : OpenPkt), (s.Up) ∧ ((s.chute n.val).opened = some o) ∧ (o.ovr = true))
    ∧ (∃ (s : State) (n : Fin 96) (o : OpenPkt), (s.Up) ∧ ((s.chute n.val).opened = some o) ∧ (o.ovr = false) ∧ (s.rd (Reg.CHU_ABORTED n.val)
      < 4294967294))
    ∧ (∃ (s : State) (n : Fin 96) (p : Packet) (w : DWord) (ws : List DWord) (first : Bool) (rest : List Packet), (s.Up) ∧ (s.chuteOn n.val =
      true) ∧ ((s.chute n.val).readFrom = some (p, first, rest)) ∧ (p.words = w :: ws))
    ∧ (∃ (s : State) (n : Fin 96) (p : Packet) (w : DWord) (ws : List DWord) (first : Bool) (rest : List Packet), (s.Up) ∧ (s.chuteOn n.val =
      true) ∧ ((s.chute n.val).readFrom = some (p, first, rest)) ∧ (p.words = w :: ws) ∧ (s.rd (Reg.CHU_CORRECTED n.val) < 4294967294))
    ∧ (∃ (s : State) (n : Fin 96) (p : Packet) (w : DWord) (ws : List DWord) (first : Bool) (rest : List Packet), (s.Up) ∧ (s.chuteOn n.val =
      true) ∧ ((s.chute n.val).readFrom = some (p, first, rest)) ∧ (p.words = w :: ws) ∧ (s.rd (Reg.CHU_UNCORRECTED n.val) < 4294967294))
    ∧ (∃ (s : State) (n : Fin 96) (ecc : Ecc), (s.Up) ∧ (s.chuteOn n.val = true) ∧ ((s.chute n.val).readFrom = none))
    ∧ (∃ (s : State) (n : Fin 96) (ecc : Ecc), (s.Up) ∧ (s.chuteOn n.val = false))
    ∧ (∃ (s : State) (n : Fin 96) (p : Packet), (s.Up) ∧ ((s.chute n.val).reading = some p) ∧ (s.rd (Reg.CHU_DROP_REST n.val) < 4294967294))
    ∧ (∃ (s : State) (n : Fin 96), (s.Up) ∧ ((s.chute n.val).reading = none))
    ∧ (∃ (s : State) (n : Nat), (s.Up) ∧ (s.rd Reg.CHU_SEL_CHUTE = n) ∧ (chuteVerdict n s = St.done) ∧ (s.chuteOn n = false) ∧ (s.sh
      (Reg.CHU_CFG_ENABLE n) = 1))
    ∧ (∃ (s : State) (n : Nat), (s.Up) ∧ (s.rd Reg.CHU_SEL_CHUTE = n) ∧ (chuteVerdict n s = St.done) ∧ (s.chuteOn n = true) ∧ (s.sh
      (Reg.CHU_CFG_ENABLE n) = 0) ∧ (n ≠ 48))
    ∧ (∃ (s : State) (n : Fin 96), (s.Up)) :=
  ⟨⟨(State.reset.wr (Reg.CHU_CFG_ENABLE 3) 1).wr (Reg.CHU_CFG_PKT_MAX 3) 0, 3, 1, by decide⟩,
    ⟨{ State.reset with chu := [(3, { Chute.fresh 3 with opened := some ⟨0, [7], false⟩ })] }, 3, 1, by decide⟩,
    ⟨(State.reset.wr (Reg.CHU_CFG_ALLOT 3) 0).wr (Reg.CHU_CFG_PKT_MAX 3) 4, 3, 1, by decide⟩,
    ⟨({ State.reset with chu := [(3, { Chute.fresh 3 with opened := some ⟨0, [], false⟩ })] }).wr (Reg.CHU_CFG_PKT_MAX 3) 4, 3, 1, ⟨0, [], false⟩, by decide⟩,
    ⟨({ State.reset with chu := [(3, { Chute.fresh 3 with opened := some ⟨0, [7], false⟩ })] }).wr (Reg.CHU_CFG_PKT_MAX 3) 1, 3, 1, ⟨0, [7], false⟩, by decide⟩,
    ⟨{ State.reset with chu := [(3, { Chute.fresh 3 with opened := some ⟨0, [7], false⟩ })] }, 3, ⟨0, [7], false⟩, by decide⟩,
    ⟨{ State.reset with chu := [(3, { Chute.fresh 3 with opened := some ⟨0, [], true⟩ })] }, 3, ⟨0, [], true⟩, by decide⟩,
    ⟨{ State.reset with chu := [(3, { Chute.fresh 3 with opened := some ⟨0, [7], false⟩ })] }, 3, ⟨0, [7], false⟩, by decide⟩,
    ⟨({ State.reset with chu := [(3, { Chute.fresh 3 with pkts := [⟨0, [7], 1, none, none⟩] })] }).wr (Reg.CHU_CFG_ENABLE 3) 1, 3, ⟨0, [7], 1, none, none⟩, 7, [], true, [], by decide⟩,
    ⟨({ State.reset with chu := [(3, { Chute.fresh 3 with pkts := [⟨0, [7], 1, none, none⟩] })] }).wr (Reg.CHU_CFG_ENABLE 3) 1, 3, ⟨0, [7], 1, none, none⟩, 7, [], true, [], by decide⟩,
    ⟨({ State.reset with chu := [(3, { Chute.fresh 3 with pkts := [⟨0, [7], 1, none, none⟩] })] }).wr (Reg.CHU_CFG_ENABLE 3) 1, 3, ⟨0, [7], 1, none, none⟩, 7, [], true, [], by decide⟩,
    ⟨State.reset.wr (Reg.CHU_CFG_ENABLE 3) 1, 3, .clean, by decide⟩,
    ⟨State.reset.wr (Reg.CHU_CFG_ENABLE 3) 0, 3, .clean, by decide⟩,
    ⟨{ State.reset with chu := [(3, { Chute.fresh 3 with reading := some ⟨0, [7], 1, none, none⟩ })] }, 3, ⟨0, [7], 1, none, none⟩, by decide⟩,
    ⟨State.reset, 3, by decide⟩,
    ⟨((State.reset.wr Reg.CHU_SEL_CHUTE 40).wrShadow (Reg.CHU_CFG_ENABLE 40) 1).wr (Reg.CHU_CFG_ENABLE 40) 0, 40, by decide⟩,
    ⟨(State.reset.wr Reg.CHU_SEL_CHUTE 40).wr (Reg.CHU_CFG_ENABLE 40) 1 |>.wrShadow (Reg.CHU_CFG_ENABLE 40) 0, 40, by decide⟩,
    ⟨State.reset, 3, by decide⟩⟩

/-- The hypotheses of each clause of HoistPrograms are met, in order. -/
theorem test_HoistPrograms_met :
    (∃ (s : State) (n : Nat), (s.Up) ∧ (s.rd Reg.HST_SEL_CHANNEL = n) ∧ ((s.chan n).st = .idle ∨ (s.chan n).st = .done ∨ (s.chan n).st =
      .halted) ∧ (s.sh (Reg.HST_CH_CFG_PROG_LEN n) ≤ 256) ∧ (firstBad s.board (s.sh (Reg.HST_CH_CFG_COMPL_MODE n) = 0) (s.chan n).progSh
      (s.sh (Reg.HST_CH_CFG_PROG_LEN n)) (s.sh (Reg.HST_CH_CFG_PROG_LEN n)) 0 [] = none))
    ∧ (∃ (s : State) (n i : Nat), (s.Up) ∧ (s.rd Reg.HST_SEL_CHANNEL = n) ∧ ((s.chan n).st = .idle ∨ (s.chan n).st = .done ∨ (s.chan n).st =
      .halted) ∧ (s.sh (Reg.HST_CH_CFG_PROG_LEN n) ≤ 256) ∧ (firstBad s.board (s.sh (Reg.HST_CH_CFG_COMPL_MODE n) = 0) (s.chan n).progSh
      (s.sh (Reg.HST_CH_CFG_PROG_LEN n)) (s.sh (Reg.HST_CH_CFG_PROG_LEN n)) 0 [] = some i))
    ∧ (∃ (s : State) (v : Word) (n : Nat), (s.Up) ∧ (s.rd Reg.HST_SEL_CHANNEL = n) ∧ (v.toNat % 8 = 1) ∧ ((s.chan n).st = .idle ∨ (s.chan
      n).st = .done ∨ (s.chan n).st = .halted))
    ∧ (∃ (s : State) (v : Word) (n : Nat), (s.Up) ∧ (s.rd Reg.HST_SEL_CHANNEL = n) ∧ (v.toNat % 8 = 2) ∧ ((s.chan n).st = .halted))
    ∧ (∃ (s : State) (v : Word) (n : Nat), (s.Up) ∧ (s.rd Reg.HST_SEL_CHANNEL = n) ∧ (v.toNat % 8 = 2) ∧ ((s.chan n).st ≠ .halted))
    ∧ (∃ (s : State) (v : Word) (n : Nat), (s.Up) ∧ (s.rd Reg.HST_SEL_CHANNEL = n) ∧ (v.toNat % 8 = 4) ∧ ((s.chan n).st = .running) ∧ ((s.chan
      n).move = none))
    ∧ (∃ (s : State) (v : Word) (n : Nat) (m : MoveSt), (s.Up) ∧ (s.rd Reg.HST_SEL_CHANNEL = n) ∧ (v.toNat % 8 = 4) ∧ ((s.chan n).st =
      .running) ∧ ((s.chan n).move = some m))
    ∧ (∃ (s : State) (v : Word) (n : Nat), (s.Up) ∧ (s.rd Reg.HST_SEL_CHANNEL = n) ∧ (v.toNat % 8 = 4) ∧ ((s.chan n).st = .waiting))
    ∧ (∃ (s : State) (v : Word) (n : Nat), (s.Up) ∧ (s.rd Reg.HST_SEL_CHANNEL = n))
    ∧ (∃ (s : State) (v : Word) (n : Nat), (s.Up) ∧ (s.rd Reg.HST_SEL_CHANNEL = n))
    ∧ (∃ (s : State) (k : Fin 8) (v : Word), (s.Up))
    ∧ (∃ (s : State) (k : Fin 8), (s.Up) ∧ (s.rd (Reg.HST_TICK_PERIOD k.val) ≠ 0))
    ∧ (∃ (s : State) (n : Fin 32) (fetch : Ecc) (src dst len : Nat), (s.Up) ∧ (fetch ≠ .uncorrectable) ∧ (s.atOp n.val 1 = true) ∧ (s.moveEnds
      n.val = (src, dst) ∧ len = bits (s.chan n.val).ins 16 24) ∧ (bits (s.chan n.val).ins 4 1 = 0 ∧ bits (s.chan n.val).ins 5 1 = 0) ∧ (len
      ≠ 0) ∧ (s.moveRegion src len false = some .ram ∨ s.moveRegion src len false = some .nor) ∧ (s.moveRegion dst len false = some .ram))
    ∧ (∃ (s : State) (n : Fin 32) (fetch : Ecc) (bus : BusOutcome), (s.Up) ∧ (fetch ≠ .uncorrectable) ∧ (s.atOp n.val 1 = true) ∧ (bits
      (s.chan n.val).ins 16 24 = 0))
    ∧ (∃ (s : State) (n : Fin 32) (fetch : Ecc) (bus : BusOutcome), (s.Up) ∧ (fetch ≠ .uncorrectable) ∧ (s.atOp n.val 1 = true) ∧ (bits
      (s.chan n.val).ins 16 24 ≠ 0) ∧ (s.moveRegion (s.moveEnds n.val).1 (bits (s.chan n.val).ins 16 24) (decide (bits (s.chan n.val).ins 4
      1 = 1)) = none))
    ∧ (∃ (s : State) (n : Fin 32) (bus : BusOutcome), (s.Up) ∧ (s.atIns n.val = true))
    ∧ (∃ (s : State) (n : Fin 32) (m : MoveSt), (s.Up) ∧ ((s.chan n.val).move = some m) ∧ (m.failed = false) ∧ (∀ q, m.dst ≠ .port q) ∧
      ((s.chan n.val).st = .running))
    ∧ (∃ (s : State) (n : Fin 32) (m : MoveSt) (q : Nat) (o : OpenPkt), (s.Up) ∧ ((s.chan n.val).move = some m) ∧ (m.failed = false) ∧ (m.dst
      = .port q) ∧ ((s.chute q).opened = some o) ∧ ((s.chan n.val).st = .running))
    ∧ (∃ (s : State) (n : Fin 32) (m : MoveSt) (a : Nat), (s.Up) ∧ ((s.chan n.val).move = some m) ∧ (m.failed = true) ∧ (m.dst = .mem a
      false))
    ∧ (∃ (s : State) (n : Fin 32) (m : MoveSt), (s.Up) ∧ ((s.chan n.val).move = some m) ∧ (m.failed = true) ∧ (m.tries + 1 < s.rd
      (Reg.HST_CH_CFG_RETRY_MAX n.val)))
    ∧ (∃ (s : State) (n : Fin 32) (m : MoveSt), (s.Up) ∧ ((s.chan n.val).move = some m) ∧ (m.failed = true) ∧ (s.rd (Reg.HST_CH_CFG_RETRY_MAX
      n.val) ≤ m.tries + 1))
    ∧ (∃ (s : State) (n : Fin 32) (fetch : Ecc), (s.Up) ∧ (fetch ≠ .uncorrectable) ∧ (s.atOp n.val 2 = true) ∧ (bits (s.chan n.val).ins 8 8 ≠
      0) ∧ (bits (s.chan n.val).ins 16 16 ≠ 0))
    ∧ (∃ (s : State) (n : Fin 32) (fetch : Ecc), (s.Up) ∧ (fetch ≠ .uncorrectable) ∧ (s.atOp n.val 2 = true) ∧ (bits (s.chan n.val).ins 8 8 =
      0 ∨ bits (s.chan n.val).ins 16 16 = 0))
    ∧ (∃ (s : State) (n : Fin 32) (fetch : Ecc), (s.Up) ∧ (fetch ≠ .uncorrectable) ∧ (s.atOp n.val 3 = true) ∧ ((s.arriveWait n.val (s.chan
      n.val).ins).waitTest n.val (s.chan n.val).ins = true))
    ∧ (∃ (s : State) (n : Fin 32) (fetch : Ecc), (s.Up) ∧ (fetch ≠ .uncorrectable) ∧ (s.atOp n.val 3 = true) ∧ ((s.arriveWait n.val (s.chan
      n.val).ins).waitTest n.val (s.chan n.val).ins = false))
    ∧ (∃ (s : State) (n : Fin 32), (s.Up) ∧ ((s.chan n.val).st = .waiting) ∧ (insOp (s.chan n.val).ins = 3) ∧ (s.waitTest n.val (s.chan
      n.val).ins = true))
    ∧ (∃ (s : State) (n : Fin 32), (s.Up) ∧ ((s.chan n.val).st = .waiting) ∧ (insOp (s.chan n.val).ins ≠ 3) ∧ (s.moveReady n.val = true))
    ∧ (∃ (s : State) (n : Fin 32), (s.Up) ∧ ((s.chan n.val).st = .waiting) ∧ (insOp (s.chan n.val).ins = 3) ∧ (bits (s.chan n.val).ins 64 32 ≠
      0))
    ∧ (∃ (s : State) (n : Fin 32) (fetch : Ecc), (s.Up) ∧ (fetch ≠ .uncorrectable) ∧ (s.atOp n.val 4 = true))
    ∧ (∃ (s : State) (n : Fin 32) (fetch : Ecc), (s.Up) ∧ (fetch ≠ .uncorrectable) ∧ (s.atOp n.val 0 = true))
    ∧ (∃ (s : State) (n : Fin 32) (fetch : Ecc), (s.Up) ∧ ((s.chan n.val).st = .running) ∧ (s.progLen n.val ≤ (s.chan n.val).pc) ∧ ((s.chan
      n.val).move = none)) :=
  ⟨⟨State.reset.wr Reg.HST_SEL_CHANNEL 4, 4, by decide⟩,
    ⟨{ State.reset with hst := [(4, { Chan.reset with progSh := [(0, 9)] })] }.wr Reg.HST_SEL_CHANNEL 4 |>.wrShadow (Reg.HST_CH_CFG_PROG_LEN 4) 1, 4, 0, by decide⟩,
    ⟨(State.reset.wr Reg.HST_SEL_CHANNEL 4).wr (Reg.HST_CH_CFG_PROG_LEN 4) 3, 1, 4, by decide⟩,
    ⟨{ State.reset with hst := [(4, { Chan.reset with st := .halted })] }.wr Reg.HST_SEL_CHANNEL 4, 2, 4, by decide⟩,
    ⟨State.reset.wr Reg.HST_SEL_CHANNEL 4, 2, 4, by decide⟩,
    ⟨{ State.reset with hst := [(4, { Chan.reset with st := .running })] }.wr Reg.HST_SEL_CHANNEL 4, 4, 4, by decide⟩,
    ⟨{ State.reset with hst := [(4, { Chan.reset with st := .running, move := some ⟨.mem 0 false, [], 0, 0, false, 0⟩ })] }.wr Reg.HST_SEL_CHANNEL 4, 4, 4, ⟨.mem 0 false, [], 0, 0, false, 0⟩, by decide⟩,
    ⟨{ State.reset with hst := [(4, { Chan.reset with st := .waiting })] }.wr Reg.HST_SEL_CHANNEL 4, 4, 4, by decide⟩,
    ⟨State.reset, 3, 0, by decide⟩,
    ⟨State.reset, 3, 0, by decide⟩,
    ⟨State.reset, 3, 100, by decide⟩,
    ⟨State.reset.wr (Reg.HST_TICK_PERIOD 3) 100, 3, by decide⟩,
    ⟨{ State.reset with hst := [(4, { Chan.reset with st := .running, prog := [(0, 0x80001), (1, 0x10000 ), (2, 0x2000 * 65536 ), (3, 0)] })] }.wr (Reg.HST_CH_CFG_PROG_LEN 4) 3, 4, .clean, bits (insOf [(0, 0x80001), (1, 0x10000 ), (2, 0x2000 * 65536 ), (3, 0)] 0) 40 40, bits (insOf [(0, 0x80001), (1, 0x10000 ), (2, 0x2000 * 65536 ), (3, 0)] 0) 80 40, 8, by decide⟩,
    ⟨{ State.reset with hst := [(4, { Chan.reset with st := .running, prog := [(0, 1)] })] }.wr (Reg.HST_CH_CFG_PROG_LEN 4) 3, 4, .clean, .clean, by decide⟩,
    ⟨{ State.reset with hst := [(4, { Chan.reset with st := .running, prog := [(0, 0x80001), (1, 0x10000), (2, 0xffff), (3, 0)] })] }.wr (Reg.HST_CH_CFG_PROG_LEN 4) 3, 4, .clean, .clean, by decide⟩,
    ⟨{ State.reset with hst := [(4, { Chan.reset with st := .running, prog := [(0, 1)] })] }.wr (Reg.HST_CH_CFG_PROG_LEN 4) 3, 4, .clean, by decide⟩,
    ⟨{ State.reset with hst := [(4, { Chan.reset with st := .running, move := some ⟨.mem 0 false, [], 0, 0, false, 0⟩ })] }, 4, ⟨.mem 0 false, [], 0, 0, false, 0⟩, by (refine ⟨by decide, by decide, by decide, fun q => nofun, by decide⟩)⟩,
    ⟨{ State.reset with chu := [(8, { Chute.fresh 8 with opened := some ⟨0, [7], false⟩ })], hst := [(4, { Chan.reset with st := .running, move := some ⟨.port 8, [], 0, 0, false, 0⟩ })] }, 4, ⟨.port 8, [], 0, 0, false, 0⟩, 8, ⟨0, [7], false⟩, by decide⟩,
    ⟨{ State.reset with hst := [(4, { Chan.reset with st := .running, move := some ⟨.mem 0 false, [], 0, 0, true, 0⟩ })] }, 4, ⟨.mem 0 false, [], 0, 0, true, 0⟩, 0, by decide⟩,
    ⟨{ State.reset with hst := [(4, { Chan.reset with st := .running, move := some ⟨.mem 0 false, [], 0, 0, true, 0⟩ })] }.wr (Reg.HST_CH_CFG_RETRY_MAX 4) 3, 4, ⟨.mem 0 false, [], 0, 0, true, 0⟩, by decide⟩,
    ⟨{ State.reset with hst := [(4, { Chan.reset with st := .running, move := some ⟨.mem 0 false, [], 0, 0, true, 9⟩ })] }, 4, ⟨.mem 0 false, [], 0, 0, true, 9⟩, by decide⟩,
    ⟨{ State.reset with hst := [(4, { Chan.reset with st := .running, prog := [(0, 2 + 256 + 3 * 65536)] })] }.wr (Reg.HST_CH_CFG_PROG_LEN 4) 3, 4, .clean, by decide⟩,
    ⟨{ State.reset with hst := [(4, { Chan.reset with st := .running, prog := [(0, 2)] })] }.wr (Reg.HST_CH_CFG_PROG_LEN 4) 3, 4, .clean, by decide⟩,
    ⟨{ State.reset with hst := [(4, { Chan.reset with st := .running, prog := [(0, 3)], flags := [0] })] }.wr (Reg.HST_CH_CFG_PROG_LEN 4) 3, 4, .clean, by decide⟩,
    ⟨{ State.reset with hst := [(4, { Chan.reset with st := .running, prog := [(0, 3)], flags := [] })] }.wr (Reg.HST_CH_CFG_PROG_LEN 4) 3, 4, .clean, by decide⟩,
    ⟨{ State.reset with hst := [(4, { Chan.reset with st := .waiting, prog := [(0, 3)], flags := [0] })] }.wr (Reg.HST_CH_CFG_PROG_LEN 4) 3, 4, by decide⟩,
    ⟨{ State.reset with hst := [(4, { Chan.reset with st := .waiting, prog := [(0, 0x80001)] })] }.wr (Reg.HST_CH_CFG_PROG_LEN 4) 3, 4, by decide⟩,
    ⟨{ State.reset with hst := [(4, { Chan.reset with st := .waiting, prog := [(0, 3), (2, 5)] })] }.wr (Reg.HST_CH_CFG_PROG_LEN 4) 3, 4, by decide⟩,
    ⟨{ State.reset with hst := [(4, { Chan.reset with st := .running, prog := [(0, 4), (1, 2)] })] }.wr (Reg.HST_CH_CFG_PROG_LEN 4) 3, 4, .clean, by decide⟩,
    ⟨{ State.reset with hst := [(4, { Chan.reset with st := .running, prog := [] })] }.wr (Reg.HST_CH_CFG_PROG_LEN 4) 3, 4, .clean, by decide⟩,
    ⟨{ State.reset with hst := [(4, { Chan.reset with st := .running, prog := [] })] }, 4, .clean, by decide⟩⟩

/-- The hypotheses of each clause of DispatchThreadsAndFlows are met, in order. -/
theorem test_DispatchThreadsAndFlows_met :
    (∃ (s : State) (k : Fin 512), (s.Up) ∧ (s.on (Reg.DSP_THR_CFG_ENABLE k.val) = true) ∧ (s.dsp.ready.contains k.val = false) ∧
      (s.runningThread k.val = false) ∧ ((∃ c < 9, s.mayRun k.val c = true ∧ AMap.find c s.dsp.units = none) ∨ s.victim k.val s.dsp.units =
      none))
    ∧ (∃ (s : State) (k : Fin 512) (c u : Nat), (s.Up) ∧ (s.on (Reg.DSP_THR_CFG_ENABLE k.val) = true) ∧ (s.dsp.ready.contains k.val = false) ∧
      (s.runningThread k.val = false) ∧ (∀ c < 9, s.mayRun k.val c = true → AMap.find c s.dsp.units ≠ none) ∧ (s.victim k.val s.dsp.units =
      some (c, u)))
    ∧ (∃ (s : State) (k : Fin 512), (s.Up) ∧ (s.on (Reg.DSP_THR_CFG_ENABLE k.val) = true) ∧ (s.dsp.ready.contains k.val = true ∨
      s.runningThread k.val = true))
    ∧ (∃ (s : State) (c : Nat) (rest : List Nat), (s.Up) ∧ (s.dsp.codes = c :: rest) ∧ (bits (s.rd (Reg.DSP_WAKE_MAP c)) 31 1 = 1))
    ∧ (∃ (s : State) (f : Fin 64), (s.Up) ∧ (37 ≤ f.val) ∧ (s.dsp.open_ = true) ∧ (s.on (Reg.DSP_FLOW_CFG_ENABLE f.val) = true) ∧ (s.flowHeld
      f.val < s.rd (Reg.DSP_FLOW_CFG_WIN_MAX f.val)))
    ∧ (∃ (s : State) (c : Fin 9) (us : Word) (th : Nat), (s.Up) ∧ (State.pickReady
      { s with dsp := { s.dsp with units := AMap.del c.val s.dsp.units } } c.val s.dsp.ready = some th))
    ∧ (∃ (s : State) (c : Fin 9) (us : Word), (s.Up) ∧ (State.pickReady { s with dsp := { s.dsp with units := AMap.del c.val s.dsp.units } }
      c.val s.dsp.ready = none))
    ∧ (∃ (s : State) (ecc : Ecc) (c : Nat) (p : Packet) (rest : List Packet), (s.Up) ∧ (ecc ≠ .uncorrectable) ∧ (s.dsp.open_ = true) ∧
      (s.nextInput = some c) ∧ (bestPacket (s.chute c).pkts = some (p, rest)) ∧ (s.on (Reg.DSP_FLOW_CFG_ENABLE (flowOf c p.lid)) = true) ∧
      (s.flowHeld (flowOf c p.lid) < s.rd (Reg.DSP_FLOW_CFG_WIN_MAX (flowOf c p.lid))))
    ∧ (∃ (s : State) (ecc : Ecc) (c : Nat) (p : Packet), (s.Up) ∧ (s.dsp.open_ = true) ∧ (s.nextInput = some c) ∧ (s.nextPacket c = some p) ∧
      (s.on (Reg.DSP_FLOW_CFG_ENABLE (flowOf c p.lid)) = true) ∧ (s.rd (Reg.DSP_FLOW_CFG_WIN_MAX (flowOf c p.lid)) ≤ s.flowHeld (flowOf c
      p.lid)))
    ∧ (∃ (s : State) (q : Word) (o : EntryOut) (e : WinEntry), (s.Up) ∧ (s.dsp.win.find? (·.flow == e.flow) = some e) ∧ (e.seq = q.toNat) ∧
      (e.thread.isSome = true) ∧ (e.done = none) ∧ (∀ x ∈ s.dsp.win, x.seq = q.toNat → x = e) ∧ (∀ x, (s.dsp.win.filter (·.seq !=
      q.toNat)).find? (·.flow == e.flow) = some x → x.done = none))
    ∧ (∃ (s : State) (q : Word) (e : WinEntry) (op : RobotOp), (s.Up) ∧ (s.dsp.win.find? (·.flow == e.flow) = some e) ∧ (e.seq = q.toNat) ∧
      (e.thread.isSome = true) ∧ (e.done = none) ∧ (∀ x ∈ s.dsp.win, x.seq = q.toNat → x = e) ∧ (∀ x, (s.dsp.win.filter (·.seq !=
      q.toNat)).find? (·.flow == e.flow) = some x → x.done = none) ∧ (e.own.bind (·.op) = some op) ∧ (s.mode ≠ .twinStandby ∧ s.mode ≠
      .rejoin))
    ∧ (∃ (s : State) (q : Word) (e : WinEntry) (c : Fin 96) (ws : List DWord), (s.Up) ∧ (s.dsp.win.find? (·.flow == e.flow) = some e) ∧ (e.seq
      = q.toNat) ∧ (e.thread.isSome = true) ∧ (e.done = none) ∧ (∀ x ∈ s.dsp.win, x.seq = q.toNat → x = e) ∧ (∀ x, (s.dsp.win.filter (·.seq
      != q.toNat)).find? (·.flow == e.flow) = some x → x.done = none) ∧ (s.fits c.val ws = true) ∧ (c.val ≠ 48))
    ∧ (∃ (s : State) (n : Nat), (s.Up) ∧ (s.rd Reg.DSP_THR_SEL = n) ∧ (s.sh (Reg.DSP_THR_CFG_AFFINITY n) ≤ 256) ∧ (s.sh
      (Reg.DSP_THR_CFG_ENABLE n) = 1 → 0 < s.sh (Reg.DSP_THR_CFG_AFFINITY n)) ∧ (s.sh (Reg.DSP_THR_CFG_ENABLE n) = 0 → s.on
      (Reg.DSP_THR_CFG_ENABLE n) = true → s.runningThread n = false ∧ s.inPool n = false))
    ∧ (∃ (s : State) (n : Nat), (s.Up) ∧ (s.rd Reg.DSP_FLOW_SEL = n) ∧ (s.sh (Reg.DSP_FLOW_CFG_ENABLE n) = 1 → 0 < s.sh
      (Reg.DSP_FLOW_CFG_WIN_MAX n) ∧ 0 < s.sh (Reg.DSP_FLOW_CFG_POOL n)) ∧ (s.sh (Reg.DSP_FLOW_CFG_POOL n) ≤ 32 ∧ s.sh
      (Reg.DSP_FLOW_CFG_THREAD_BASE n) + s.sh (Reg.DSP_FLOW_CFG_POOL n) ≤ 512) ∧ (s.winSum n ≤ 1024) ∧ (s.flowHeld n = 0 ∨ (s.rd
      (Reg.DSP_FLOW_CFG_WIN_MAX n) < s.sh (Reg.DSP_FLOW_CFG_WIN_MAX n) ∧ ∀ f ∈ [Reg.DSP_FLOW_CFG_ENABLE n, Reg.DSP_FLOW_CFG_POOL n,
      Reg.DSP_FLOW_CFG_THREAD_BASE n], s.sh f = s.rd f)))
    ∧ (∃ (s : State), (s.Up))
    ∧ (∃ (s : State) (l : Vector Word 9), (s.Up))
    ∧ (∃ (s : State) (f : Fin 64), (s.Up)) :=
  ⟨⟨(State.reset.wr (Reg.DSP_THR_CFG_ENABLE 3) 1).wr (Reg.DSP_THR_CFG_AFFINITY 3) 1, 3, by decide⟩,
    ⟨{ ((State.reset.wr (Reg.DSP_THR_CFG_ENABLE 3) 1).wr (Reg.DSP_THR_CFG_AFFINITY 3) 1).wr (Reg.DSP_THR_CFG_PRIO 3) 4 with dsp := { State.reset.dsp with units := [(0, 5)] } }, 3, 0, 5, by decide⟩,
    ⟨{ State.reset with dsp := { State.reset.dsp with ready := [3] } }.wr (Reg.DSP_THR_CFG_ENABLE 3) 1, 3, by decide⟩,
    ⟨{ State.reset with dsp := { State.reset.dsp with codes := [3] } }.wr (Reg.DSP_WAKE_MAP 3) 0x80000005, 3, [], by decide⟩,
    ⟨{ (State.reset.wr (Reg.DSP_FLOW_CFG_ENABLE 40) 1).wr (Reg.DSP_FLOW_CFG_WIN_MAX 40) 4 with dsp := { State.reset.dsp with open_ := true } }, 40, by decide⟩,
    ⟨{ State.reset with dsp := { State.reset.dsp with ready := [3] } }.wr (Reg.DSP_THR_CFG_AFFINITY 3) 1, 0, 5, 3, by decide⟩,
    ⟨State.reset, 0, 5, by decide⟩,
    ⟨{ ((({ State.reset with chu := [(2, { Chute.fresh 2 with pkts := [⟨0, [7], 1, none, none⟩] })] }).wr (Reg.CHU_CFG_ENABLE 2) 1).wr (Reg.DSP_FLOW_CFG_ENABLE 34) 1).wr (Reg.DSP_FLOW_CFG_WIN_MAX 34) 4 with dsp := { State.reset.dsp with open_ := true } }, .clean, 2, ⟨0, [7], 1, none, none⟩, [], by decide⟩,
    ⟨{ ((({ State.reset with chu := [(2, { Chute.fresh 2 with pkts := [⟨0, [7], 1, none, none⟩] })] }).wr (Reg.CHU_CFG_ENABLE 2) 1).wr (Reg.DSP_FLOW_CFG_ENABLE 34) 1).wr (Reg.DSP_FLOW_CFG_WIN_MAX 34) 1 with dsp := { State.reset.dsp with open_ := true, win := [⟨5, 34, 0, none, none, 2, none, none⟩] } }, .clean, 2, ⟨0, [7], 1, none, none⟩, by decide⟩,
    ⟨{ State.reset with dsp := { State.reset.dsp with win := [⟨5, 34, 0, none, none, 2, some 3, none⟩] } }, 5, .none, ⟨5, 34, 0, none, none, 2, some 3, none⟩, by decide⟩,
    ⟨{ State.reset with dsp := { State.reset.dsp with win := [⟨5, 3, 2, none, some ⟨3, 2, 0, 0, 0, 2, 3, some ⟨3, 1, .release ⟨3, 1, 0, 7, 9, false⟩⟩, 0, [], 0⟩, 0, some 3, none⟩] } }, 5, ⟨5, 3, 2, none, some ⟨3, 2, 0, 0, 0, 2, 3, some ⟨3, 1, .release ⟨3, 1, 0, 7, 9, false⟩⟩, 0, [], 0⟩, 0, some 3, none⟩, ⟨3, 1, .release ⟨3, 1, 0, 7, 9, false⟩⟩, by decide⟩,
    ⟨({ State.reset with dsp := { State.reset.dsp with win := [⟨5, 34, 0, none, none, 2, some 3, none⟩] } }).wr (Reg.CHU_CFG_ENABLE 64) 1, 5, ⟨5, 34, 0, none, none, 2, some 3, none⟩, 64, [7], by decide⟩,
    ⟨(State.reset.wrShadow (Reg.DSP_THR_CFG_ENABLE 3) 1 |>.wrShadow (Reg.DSP_THR_CFG_AFFINITY 3) 1).wr Reg.DSP_THR_SEL 3, 3, by decide⟩,
    ⟨(State.reset.wrShadow (Reg.DSP_FLOW_CFG_WIN_MAX 3) 4 |>.wrShadow (Reg.DSP_FLOW_CFG_POOL 3) 1).wr Reg.DSP_FLOW_SEL 3, 3, by decide⟩,
    ⟨State.reset, by decide⟩,
    ⟨State.reset, Vector.replicate 9 5, by decide⟩,
    ⟨State.reset, 3, by decide⟩⟩

/-- The hypotheses of each clause of RegisterAccess are met, in order. -/
theorem test_RegisterAccess_met :
    (∃ (s : State) (off v : Word), (s.Up) ∧ ((s.conditions.filter fun p => p.2 && (s.hits off.toNat v.toNat).contains p.1) = []))
    ∧ (∃ (s : State) (off v : Word) (f : Fld), (s.Up) ∧ (f ∈ s.hits off.toNat v.toNat) ∧ ((f, true) ∈ s.conditions))
    ∧ (∃ (s : State) (off v : Word), (s.Up) ∧ (off.toNat % 4 = 0))
    ∧ (∃ (s : State) (off v u : Word), (s.Up) ∧ (off.toNat % 8 = 0))
    ∧ (∃ (s : State) (off v : Word), (s.Up) ∧ (s.hre.served = true) ∧ (off.toNat % 4 = 0) ∧ (hostBarred off.toNat = none))
    ∧ (∃ (s : State) (off v : Word), (s.Up) ∧ (s.hre.served = true) ∧ (off.toNat % 4 ≠ 0))
    ∧ (∃ (s : State) (v : Word), (s.Up) ∧ (bits v.toNat 0 1 = 1))
    ∧ (∃ (s : State) (k : Nat) (v : Word), (s.Up) ∧ (k < 256))
    ∧ (∃ (s : State) (k : Nat) (v : Word), (s.Up) ∧ (k < 0x34000) ∧ (s.isPending Reg.TRK_COMMIT_RESULT = false))
    ∧ (∃ (s : State) (off v : Word) (f : Fld), (s.Up) ∧ (s.hre.served = true) ∧ (off.toNat % 4 = 0) ∧ (hostBarred off.toNat = some f))
    ∧ (∃ (s : State) (off : Word) (f : Fld), (s.Up) ∧ (s.hre.served = true) ∧ (hostBarred off.toNat = some f))
    ∧ (∃ (s : State), (s.Up) ∧ (s.hre.served = true))
    ∧ (∃ (s : State) (k : Fin 4), (s.Up)) :=
  ⟨⟨State.reset, 0xB0010, 1, by decide⟩,
    ⟨{ State.reset with pwr := { State.reset.pwr with warnCond := true } }.wr Reg.CLK_FAULT_THERM_WARN 1, 0x10004, 0xffffffff, Reg.CLK_FAULT_THERM_WARN, by decide⟩,
    ⟨State.reset, 0x30000, 5, by decide⟩,
    ⟨State.reset, 0x30000, 5, 6, by decide⟩,
    ⟨{ State.reset with hre := { State.reset.hre with served := true } }, 0x20004, 5, by decide⟩,
    ⟨{ State.reset with hre := { State.reset.hre with served := true } }, 0x20005, 5, by decide⟩,
    ⟨State.reset, 1, by decide⟩,
    ⟨State.reset, 0, 1, by decide⟩,
    ⟨State.reset, 0, 1, by decide⟩,
    ⟨{ State.reset with hre := { State.reset.hre with served := true } }, 0x40000, 1, Reg.HST_FAULT_HOST_WRITE, by decide⟩,
    ⟨{ State.reset with hre := { State.reset.hre with served := true } }, 0x40000, Reg.HST_FAULT_HOST_WRITE, by decide⟩,
    ⟨{ State.reset with hre := { State.reset.hre with served := true } }, by decide⟩,
    ⟨State.reset, 2, by decide⟩⟩

/-- The hypotheses of each clause of GlobalAndMemory are met, in order. -/
theorem test_GlobalAndMemory_met :
    (∃ (s : State), (s.Up) ∧ (s.isPending Reg.GLB_COMMIT_RESULT = false) ∧ (s.sh Reg.GLB_CFG_EPOCH_LEN = s.rd Reg.GLB_CFG_EPOCH_LEN) ∧ (s.sh
      Reg.GLB_CFG_EPOCH_LEN ≠ 3 ∧ s.sh Reg.GLB_CFG_FED_ID ≠ broadcastId) ∧ (s.sh Reg.GLB_CFG_FED_ID = s.rd Reg.GLB_CFG_FED_ID ∨ s.mode.fleet
      = false ∧ s.follows = false) ∧ (s.sh Reg.GLB_EVENT_RING_EN ≠ 1 ∨ s.on (Reg.HRE_RING_CFG_ENABLE (s.sh Reg.GLB_EVENT_RING_RING)) = true
      ∧ s.ringType (s.sh Reg.GLB_EVENT_RING_RING) = 4) ∧ (s.slotMs % epochLength (s.sh Reg.GLB_CFG_EPOCH_LEN) = 0 ∧ s.rd Reg.GOV_CFG_LOOP_MS
      % epochLength (s.sh Reg.GLB_CFG_EPOCH_LEN) = 0))
    ∧ (∃ (s : State), (s.Up) ∧ (s.isPending Reg.GLB_COMMIT_RESULT = false) ∧ (s.sh Reg.GLB_CFG_EPOCH_LEN ≠ s.rd Reg.GLB_CFG_EPOCH_LEN) ∧ (s.sh
      Reg.GLB_CFG_EPOCH_LEN ≠ 3 ∧ s.sh Reg.GLB_CFG_FED_ID ≠ broadcastId) ∧ (s.mode.fleet = false ∧ s.follows = false) ∧ (s.sh
      Reg.GLB_EVENT_RING_EN ≠ 1 ∨ s.on (Reg.HRE_RING_CFG_ENABLE (s.sh Reg.GLB_EVENT_RING_RING)) = true ∧ s.ringType (s.sh
      Reg.GLB_EVENT_RING_RING) = 4) ∧ (s.slotMs % epochLength (s.sh Reg.GLB_CFG_EPOCH_LEN) = 0 ∧ s.rd Reg.GOV_CFG_LOOP_MS % epochLength
      (s.sh Reg.GLB_CFG_EPOCH_LEN) = 0))
    ∧ (∃ (s : State) (c : Cmd), (s.Up) ∧ (s.Accepts c .command) ∧ (c.desc.length = 0))
    ∧ (∃ (s : State) (c : Cmd), (s.Up) ∧ (s.Accepts c .command) ∧ (c.desc.length ≠ 0))
    ∧ (∃ (s : State) (a : BitVec 34), (s.Up)) :=
  ⟨⟨State.reset.wr Reg.GOV_CFG_LOOP_MS 200, by decide⟩,
    ⟨(State.reset.wr Reg.GOV_CFG_LOOP_MS 200).wrShadow Reg.GLB_CFG_EPOCH_LEN 0, by decide⟩,
    ⟨State.reset.withCmd ⟨5, 2, 0, ⟨1, 22, 0, false, 0, 0, 0, 0, 0, 0⟩, none⟩, ⟨5, 2, 0, ⟨1, 22, 0, false, 0, 0, 0, 0, 0, 0⟩, none⟩, by decide⟩,
    ⟨State.reset.withCmd ⟨5, 2, 0, ⟨1, 22, 0, false, 0, 4, 0, 0, 0, 0⟩, none⟩, ⟨5, 2, 0, ⟨1, 22, 0, false, 0, 4, 0, 0, 0, 0⟩, none⟩, by decide⟩,
    ⟨State.reset, 7, by decide⟩⟩

/-- The hypotheses of each clause of EpochOpening are met, in order. -/
theorem test_EpochOpening_met :
    (∃ (s : State), (s.Up) ∧ (s.epo.opened = false) ∧ (s.mode ≠ .rejoin ∨ s.twn.readyDue = false ∨ s.pwr.pfailLatched = true) ∧
      (s.hre.lossHold = false ∨ s.mode ≠ .fleetRun))
    ∧ (∃ (s : State), (s.Up) ∧ (s.epo.opened = false) ∧ (s.hre.lossHold = true) ∧ (s.mode = .fleetRun) ∧ (s.trp.fleet = .go))
    ∧ (∃ (s : State), (s.Up) ∧ (s.epo.opened = false) ∧ (s.mode = .rejoin ∧ s.twn.readyDue = true ∧ s.pwr.pfailLatched = false))
    ∧ (∃ (s : State), (s.Up) ∧ (slotDiff (s.rd Reg.GLB_EPOCH) s.nvm.epochRec ≥ 8192))
    ∧ (∃ (s : State), (s.Up) ∧ (s.isPending Reg.GLB_COMMIT_RESULT = true))
    ∧ (∃ (s : State), (s.Up) ∧ (s.epo.opened = true ∧ s.epo.released = false ∧ s.follows = false) ∧ (s.unreleased (s.rd Reg.GLB_EPOCH) =
      false))
    ∧ (∃ (s : State), (s.Up) ∧ (s.epo.opened = true ∧ s.epo.released = false ∧ s.follows = false) ∧ (s.unreleased (s.rd Reg.GLB_EPOCH) =
      true))
    ∧ (∃ (s : State), (s.Up) ∧ (s.epo.opened = true ∧ s.epo.released = true ∧ s.epo.snapped = false ∧ s.follows = false)) :=
  ⟨⟨State.reset, by decide⟩,
    ⟨{ State.reset with mode := .fleetRun, hre := { State.reset.hre with lossHold := true }, trp := { State.reset.trp with fleet := .go } }, by decide⟩,
    ⟨{ State.reset with mode := .rejoin, twn := { State.reset.twn with readyDue := true } }, by decide⟩,
    ⟨State.reset.wr Reg.GLB_EPOCH 9000, by decide⟩,
    ⟨State.reset.setPending Reg.GLB_COMMIT_RESULT, by decide⟩,
    ⟨{ State.reset with epo := { State.reset.epo with opened := true } }, by decide⟩,
    ⟨{ State.reset with epo := { State.reset.epo with opened := true }, dsp := { State.reset.dsp with win := [⟨5, 34, 0, none, none, 2, none, none⟩] } }, by decide⟩,
    ⟨{ State.reset with epo := { State.reset.epo with opened := true, released := true } }, by decide⟩⟩

/-- The hypotheses of each clause of EpochClosing are met, in order. -/
theorem test_EpochClosing_met :
    (∃ (s : State) (l : List LoopSpec), (s.Up) ∧ (s.epo.opened = true ∧ s.epo.released = true ∧ s.epo.snapped = true) ∧ (s.epo.decided =
      false) ∧ (s.follows = false ∨ s.epo.ended = true ∧ s.twn.missing = []))
    ∧ (∃ (s : State), (s.Up) ∧ (s.epo.opened = true) ∧ (s.follows = false ∧ (s.twn.linkLost = false ∨ s.epo.digest = false)) ∧ (s.epo.overruns
      = 0 ∨ s.mode.fleet = false))
    ∧ (∃ (s : State), (s.Up) ∧ (s.epo.opened = true) ∧ (s.follows = false ∧ (s.twn.linkLost = false ∨ s.epo.digest = false)) ∧ (s.epo.overruns
      ≠ 0 ∧ s.mode.fleet = true))
    ∧ (∃ (s : State), (s.Up) ∧ (s.epo.opened = true) ∧ (s.follows = true ∨ s.twn.linkLost = true ∧ s.epo.digest = true))
    ∧ (∃ (s : State), (s.Up) ∧ (s.epo.opened = true ∧ s.epo.decided = true ∧ s.epo.digest = false) ∧ (s.epo.work = [] ∧ s.epo.loopQ = []) ∧
      (s.follows = false ∧ s.twn.mirrored = false ∧ s.twn.prep = none))
    ∧ (∃ (s : State), (s.Up) ∧ (s.epo.opened = true ∧ s.epo.decided = true ∧ s.epo.digest = false) ∧ (s.epo.work = [] ∧ s.epo.loopQ = []) ∧
      (s.follows = false ∧ s.twn.mirrored = true ∧ s.twn.prep = none) ∧ (s.epo.assured = false))
    ∧ (∃ (s : State), (s.Up) ∧ (s.epo.opened = true ∧ s.epo.decided = true ∧ s.epo.digest = false) ∧ (s.epo.work ≠ [] ∨ s.epo.loopQ ≠ []))
    ∧ (∃ (s : State), (s.Up) ∧ (s.ldrFrozen = false) ∧ (s.epo.opened = true ∧ s.epo.digest = true ∧ s.epo.assured = true ∧ s.follows = false))
    ∧ (∃ (s : State), (s.Up) ∧ (s.ldrFrozen = true))
    ∧ (∃ (s : State), (s.Up) ∧ (s.epo.opened = true)) :=
  ⟨⟨{ State.reset with epo := { State.reset.epo with opened := true, released := true, snapped := true } }, [], by decide⟩,
    ⟨{ State.reset with epo := { State.reset.epo with opened := true } }, by decide⟩,
    ⟨{ State.reset with mode := .fleetRun, epo := { State.reset.epo with opened := true, overruns := 1 } }, by decide⟩,
    ⟨{ State.reset with mode := .twinStandby, epo := { State.reset.epo with opened := true } }, by decide⟩,
    ⟨{ State.reset with epo := { State.reset.epo with opened := true, decided := true } }, by decide⟩,
    ⟨{ State.reset with epo := { State.reset.epo with opened := true, decided := true }, twn := { State.reset.twn with mirrored := true } }, by decide⟩,
    ⟨{ State.reset with epo := { State.reset.epo with opened := true, decided := true, work := [.envelope ⟨3, 0, false, 0, 0, 0⟩] } }, by decide⟩,
    ⟨{ State.reset with epo := { State.reset.epo with opened := true, digest := true, assured := true } }, by decide⟩,
    ⟨{ State.reset with pwr := { State.reset.pwr with pfailLatched := true } }.wr Reg.CLK_LAST_MODE_PFAIL_STAGE 3, by decide⟩,
    ⟨{ State.reset with epo := { State.reset.epo with opened := true } }, by decide⟩⟩

/-- The hypotheses of each clause of MeasurementSeries are met, in order. -/
theorem test_MeasurementSeries_met :
    (∃ (s : State) (obs : List MeasObs), (s.Up) ∧ (s.on Reg.RNG_STATUS_MEAS_RUNNING = true) ∧ (s.outputsStopped = false))
    ∧ (∃ (s : State), (s.Up) ∧ (s.rng.rateDue = true))
    ∧ (∃ (s : State), (s.Up) ∧ (s.sh Reg.RNG_MEAS_CFG_RATE ≤ 4 ∧ s.sh Reg.RNG_MEAS_CFG_ANT_A_EN ≠ 0) ∧ (s.sh Reg.RNG_MEAS_CFG_ELEV_MASK ≤ 30 ∧
      15 ≤ s.sh Reg.RNG_MEAS_CFG_CN0_LOSS ∧ s.sh Reg.RNG_MEAS_CFG_CN0_LOSS ≤ 35 ∧ 2 ≤ s.sh Reg.RNG_ACQ_CFG_DOPPLER_KHZ ∧ s.sh
      Reg.RNG_ACQ_CFG_DOPPLER_KHZ ≤ 12 ∧ 24 ≤ s.sh Reg.RNG_ACQ_CFG_THRESH ∧ s.sh Reg.RNG_ACQ_CFG_THRESH ≤ 80) ∧ (s.sh Reg.RNG_SIG_EN_EN ≠ 0)
      ∧ (s.sh Reg.RNG_MEAS_CFG_RATE = s.rd Reg.RNG_MEAS_CFG_RATE ∨ s.mode.fleet = false ∧ s.mode ≠ .twinStandby ∧ s.mode ≠ .rejoin))
    ∧ (∃ (s : State) (ch : Fin 512) (check : Fin 3) (time : YTime) (payload : List Byte) (u nb : Nat), (s.Up) ∧ ((s.track ch.val).st =
      .locked) ∧ (navUnit (s.track ch.val).signal (s.track ch.val).geo = some (u, nb)) ∧ (check.val = 2 → 5 ≤ u) ∧ (check.val ≠ 1 ∨ u = 1 ∧
      (s.track ch.val).word = false))
    ∧ (∃ (s : State) (ch : Fin 512) (time : YTime) (payload : List Byte) (u nb : Nat), (s.Up) ∧ ((s.track ch.val).st = .locked) ∧ (navUnit
      (s.track ch.val).signal (s.track ch.val).geo = some (u, nb)) ∧ (u ≠ 1 ∨ (s.track ch.val).word = true))
    ∧ (∃ (s : State), (s.Up))
    ∧ (∃ (s : State), (s.Up))
    ∧ (∃ (s : State) (b : Bool), (s.Up))
    ∧ (∃ (s : State) (a b : Word) (ca cb : Fin 101), (s.Up)) :=
  ⟨⟨State.reset.wr Reg.RNG_STATUS_MEAS_RUNNING 1, [], by decide⟩,
    ⟨{ State.reset with rng := { State.reset.rng with rateDue := true } }, by decide⟩,
    ⟨((State.reset.wrShadow Reg.RNG_MEAS_CFG_ANT_A_EN 1).wrShadow Reg.RNG_SIG_EN_EN 1), by decide⟩,
    ⟨{ State.reset with rng := { State.reset.rng with ch := [(3, { TrackCh.free with st := .locked, signal := 1, sv := 7 })] } }, 3, 0, YTime.zero, [], 1, 30, by decide⟩,
    ⟨{ State.reset with rng := { State.reset.rng with ch := [(3, { TrackCh.free with st := .locked, signal := 1, sv := 7, word := true })] } }, 3, YTime.zero, [], 1, 30, by decide⟩,
    ⟨State.reset, by decide⟩,
    ⟨State.reset, by decide⟩,
    ⟨State.reset, true, by decide⟩,
    ⟨State.reset, 1, 2, 3, 4, by decide⟩⟩

/-- The hypotheses of each clause of TrackingChannels are met, in order. -/
theorem test_TrackingChannels_met :
    (∃ (s : State) (antB : Bool) (sig sv : Byte) (cp dp : Word) (pk : BitVec 16) (k : Fin 14) (geo : Bool) (n : Nat), (s.Up) ∧ (s.rd
      Reg.RNG_ACQ_CFG_DWELL ≠ 0 ∧ s.signalOn sig.toNat = true ∧ svOk (systemOf sig.toNat) sv.toNat = true) ∧ (s.tracked antB sig.toNat
      sv.toNat = false ∧ s.inMask (s.elevation antB (systemOf sig.toNat) sv.toNat) = true) ∧ (s.rd Reg.RNG_ACQ_CFG_THRESH < pk.toNat) ∧
      ((s.allocateSat antB sig.toNat sv.toNat).heldTrack antB sig.toNat sv.toNat = some n))
    ∧ (∃ (s : State) (antB : Bool) (sig sv : Byte) (cp dp : Word) (pk : BitVec 16) (k : Fin 14) (geo : Bool), (s.Up) ∧ (s.rd
      Reg.RNG_ACQ_CFG_DWELL ≠ 0 ∧ s.signalOn sig.toNat = true ∧ svOk (systemOf sig.toNat) sv.toNat = true) ∧ (s.tracked antB sig.toNat
      sv.toNat = false ∧ s.inMask (s.elevation antB (systemOf sig.toNat) sv.toNat) = true) ∧ (s.rd Reg.RNG_ACQ_CFG_THRESH < pk.toNat) ∧
      ((s.allocateSat antB sig.toNat sv.toNat).heldTrack antB sig.toNat sv.toNat = none))
    ∧ (∃ (s : State) (antB : Bool) (sig sv : Byte) (cp dp : Word) (pk : BitVec 16) (k : Fin 14) (geo : Bool), (s.Up) ∧ (s.rd
      Reg.RNG_ACQ_CFG_DWELL ≠ 0 ∧ s.signalOn sig.toNat = true ∧ svOk (systemOf sig.toNat) sv.toNat = true) ∧ (s.tracked antB sig.toNat
      sv.toNat = false ∧ s.inMask (s.elevation antB (systemOf sig.toNat) sv.toNat) = true) ∧ (pk.toNat ≤ s.rd Reg.RNG_ACQ_CFG_THRESH))
    ∧ (∃ (s : State) (sky : List SkySat), (s.Up))
    ∧ (∃ (s : State) (n : Fin 512), (s.Up) ∧ ((s.track n.val).st ≠ .idle ∧ (s.track n.val).st ≠ .lost))
    ∧ (∃ (s : State) (n : Fin 512), (s.Up) ∧ ((s.track n.val).st = .pullIn))
    ∧ (∃ (s : State) (n : Fin 512), (s.Up) ∧ ((s.track n.val).st = .pullIn))
    ∧ (∃ (s : State) (n : Fin 512), (s.Up) ∧ ((s.track n.val).st = .track))
    ∧ (∃ (s : State) (n : Fin 512), (s.Up) ∧ ((s.track n.val).st = .track ∨ (s.track n.val).st = .locked))
    ∧ (∃ (s : State) (n : Fin 512), (s.Up) ∧ ((s.track n.val).st = .lost))
    ∧ (∃ (s : State) (n : Fin 512), (s.Up) ∧ ((s.track n.val).st = .lost))
    ∧ (∃ (s : State) (g : Nat), (s.Up) ∧ (bits (s.rd Reg.RNG_LOOP_SEL) 0 8 = g) ∧ (signalCodes.contains g = true) ∧ (4 ≤ s.sh
      (Reg.RNG_LOOP_CFG_PLL_BW g) ∧ s.sh (Reg.RNG_LOOP_CFG_PLL_BW g) ≤ 60 ∧ 1 ≤ s.sh (Reg.RNG_LOOP_CFG_FLL_BW g) ∧ s.sh
      (Reg.RNG_LOOP_CFG_FLL_BW g) ≤ 20 ∧ 5 ≤ s.sh (Reg.RNG_LOOP_CFG_DLL_BW g) ∧ s.sh (Reg.RNG_LOOP_CFG_DLL_BW g) ≤ 200 ∧ 2 ≤ s.sh
      (Reg.RNG_LOOP_CFG_SPACING g) ∧ s.sh (Reg.RNG_LOOP_CFG_SPACING g) ≤ 10) ∧ (tCohOk g (s.sh (Reg.RNG_LOOP_CFG_T_COH g)) = true) ∧ (s.sh
      (Reg.RNG_LOOP_CFG_PLL_BW g) * s.sh (Reg.RNG_LOOP_CFG_T_COH g) ≤ 500 ∧ s.sh (Reg.RNG_LOOP_CFG_FLL_BW g) * s.sh (Reg.RNG_LOOP_CFG_T_COH
      g) ≤ 250)) :=
  ⟨⟨((({ State.reset with rng := { State.reset.rng with hold := [(0, false, 1, 7)] } }).wr Reg.RNG_ACQ_CFG_DWELL 5).wr Reg.RNG_SIG_EN_EN 1).wr Reg.RNG_ACQ_CFG_THRESH 30, false, 1, 7, 0, 0, 50, 0, false, 0, by decide⟩,
    ⟨((({ State.reset with rng := { State.reset.rng with hold := (List.range 512).map fun n => (n, true, 2, 9) } }).wr Reg.RNG_ACQ_CFG_DWELL 5).wr Reg.RNG_SIG_EN_EN 1).wr Reg.RNG_ACQ_CFG_THRESH 30, false, 1, 7, 0, 0, 50, 0, false, by exact ⟨by decide, by decide, by decide, by decide, by
  have hf : ∀ l : List Nat, ((l.map fun n => (n, true, 2, 9)).find? fun h : Nat × Bool × Nat × Nat =>
      h.2.1 == false && h.2.2.1 == 1 && h.2.2.2 == 7) = none := by intro l; induction l <;> simp_all
  have ho : ∀ l : List Nat, (∀ n ∈ l, n < 512) → (l.filter fun n => !(((List.range 512).map fun n => (n, true, 2, 9)).any
      fun h : Nat × Bool × Nat × Nat => h.1 == n)) = [] := by
    intro l h; simp only [List.filter_eq_nil_iff]; intro n hn; simp; exact h n hn
  have key : ∀ s : State, s.rng.hold = ((List.range 512).map fun n => (n, true, 2, 9)) →
      (s.allocateSat false 1 7).heldTrack false 1 7 = none := by
    intro s hs
    have h1 : s.heldTrack false 1 7 = none := by rw [State.heldTrack, hs, hf]; rfl
    have h2 : s.openTracks = [] := by
      rw [State.openTracks, hs]; exact ho _ (by intro n hn; simp [State.freeTracks] at hn; exact hn.1)
    rw [State.allocateSat, h1, h2]
    simpa [State.heldTrack] using h1
  refine key _ ?_
  simp only [State.wr]⟩⟩,
    ⟨((State.reset.wr Reg.RNG_ACQ_CFG_DWELL 5).wr Reg.RNG_SIG_EN_EN 1).wr Reg.RNG_ACQ_CFG_THRESH 30, false, 1, 7, 0, 0, 3, 0, false, by decide⟩,
    ⟨State.reset, [], by decide⟩,
    ⟨{ State.reset with rng := { State.reset.rng with ch := [(3, { TrackCh.free with st := .locked, signal := 1, sv := 7 })] } }, 3, by decide⟩,
    ⟨{ State.reset with rng := { State.reset.rng with ch := [(3, { TrackCh.free with st := .pullIn, signal := 1, sv := 7 })] } }, 3, by decide⟩,
    ⟨{ State.reset with rng := { State.reset.rng with ch := [(3, { TrackCh.free with st := .pullIn, signal := 1, sv := 7 })] } }, 3, by decide⟩,
    ⟨{ State.reset with rng := { State.reset.rng with ch := [(3, { TrackCh.free with st := .track, signal := 1, sv := 7 })] } }, 3, by decide⟩,
    ⟨{ State.reset with rng := { State.reset.rng with ch := [(3, { TrackCh.free with st := .track, signal := 1, sv := 7 })] } }, 3, by decide⟩,
    ⟨{ State.reset with rng := { State.reset.rng with ch := [(3, { TrackCh.free with st := .lost, signal := 1, sv := 7 })] } }, 3, by decide⟩,
    ⟨{ State.reset with rng := { State.reset.rng with ch := [(3, { TrackCh.free with st := .lost, signal := 1, sv := 7 })] } }, 3, by decide⟩,
    ⟨((((State.reset.wrShadow (Reg.RNG_LOOP_CFG_PLL_BW 1) 10).wrShadow (Reg.RNG_LOOP_CFG_FLL_BW 1) 5).wrShadow (Reg.RNG_LOOP_CFG_DLL_BW 1) 20).wrShadow (Reg.RNG_LOOP_CFG_T_COH 1) 10).wrShadow (Reg.RNG_LOOP_CFG_SPACING 1) 5 |>.wr Reg.RNG_LOOP_SEL 1, 1, by decide⟩⟩

/-- The hypotheses of each clause of ReferenceAndSurvey are met, in order. -/
theorem test_ReferenceAndSurvey_met :
    (∃ (s : State) (n : Byte) (x y z : Int) (vec : Option (Int × Int × Int)), (s.Up) ∧ (s.mode = .survey ∧ s.rd Reg.COR_SURVEY_STATUS_STATE
      ≠ 2 ∧ s.rd Reg.COR_SURVEY_STATUS_STATE ≠ 3) ∧ (n.toNat < 5 ∨ s.on Reg.RNG_STATUS_ANT_A_FLT = true))
    ∧ (∃ (s : State) (n : Byte) (x y z : Int) (vec : Option (Int × Int × Int)) (w : Survey), (s.Up) ∧ (s.mode = .survey ∧ s.rd
      Reg.COR_SURVEY_STATUS_STATE ≠ 2 ∧ s.rd Reg.COR_SURVEY_STATUS_STATE ≠ 3) ∧ (5 ≤ n.toNat ∧ s.on Reg.RNG_STATUS_ANT_A_FLT = false) ∧ (w =
      ⟨s.cor.survey.n + 1, s.cor.survey.sx + x, s.cor.survey.sy + y, s.cor.survey.sz + z, s.cor.survey.sq + x * x + y * y + z * z, s.cor.survey.fix + (if vec.isSome then 1 else 0), s.cor.survey.se + (vec.getD (0, 0, 0)).1, s.cor.survey.sn + (vec.getD (0, 0, 0)).2.1, s.cor.survey.su + (vec.getD (0, 0, 0)).2.2⟩)
      ∧ (w.n < s.rd Reg.COR_SURVEY_CFG_MIN_TIME ∨ w.n < 60 ∨ w.within (s.rd Reg.COR_SURVEY_CFG_ACC_LIMIT * 100) = false))
    ∧ (∃ (s : State) (n : Byte) (x y z : Int) (vec : Option (Int × Int × Int)) (w : Survey), (s.Up) ∧ (s.mode = .survey ∧ s.rd
      Reg.COR_SURVEY_STATUS_STATE ≠ 2 ∧ s.rd Reg.COR_SURVEY_STATUS_STATE ≠ 3) ∧ (5 ≤ n.toNat ∧ s.on Reg.RNG_STATUS_ANT_A_FLT = false ∧
      s.pwr.pfailLatched = false) ∧ (w =
      ⟨s.cor.survey.n + 1, s.cor.survey.sx + x, s.cor.survey.sy + y, s.cor.survey.sz + z, s.cor.survey.sq + x * x + y * y + z * z, s.cor.survey.fix + (if vec.isSome then 1 else 0), s.cor.survey.se + (vec.getD (0, 0, 0)).1, s.cor.survey.sn + (vec.getD (0, 0, 0)).2.1, s.cor.survey.su + (vec.getD (0, 0, 0)).2.2⟩)
      ∧ (s.rd Reg.COR_SURVEY_CFG_MIN_TIME ≤ w.n ∧ 60 ≤ w.n ∧ w.within (s.rd Reg.COR_SURVEY_CFG_ACC_LIMIT * 100) = true))
    ∧ (∃ (s : State) (b : Int), (s.Up) ∧ (offEarth (signed 64 (s.sh Reg.COR_REF_X)) (signed 64 (s.sh Reg.COR_REF_Y)) (signed 64 (s.sh
      Reg.COR_REF_Z)) 63000000000 64000000000 = false) ∧ (b = len2 (signed 32 (s.sh Reg.COR_BASE_E)) (signed 32 (s.sh Reg.COR_BASE_N))
      (signed 32 (s.sh Reg.COR_BASE_U)) ∧ (b = 0 ∨ (5000 * 5000 ≤ b ∧ b ≤ 50000 * 50000))) ∧ (60 ≤ s.sh Reg.COR_SURVEY_CFG_MIN_TIME ∧ 1 ≤
      s.sh Reg.COR_SURVEY_CFG_ACC_LIMIT ∧ s.sh Reg.COR_SURVEY_CFG_ACC_LIMIT ≤ 500) ∧ (s.mode.fleet = false ∧ s.mode ≠ .twinStandby ∧ s.mode
      ≠ .rejoin ∧ s.mode ≠ .update ∧ s.pwr.pfailLatched = false)) :=
  ⟨⟨{ State.reset with mode := .survey }, 3, 0, 0, 0, none, by decide⟩,
    ⟨{ State.reset with mode := .survey }, 7, 1, 2, 3, some (1, 2, 3), ⟨1, 1, 2, 3, 14, 1, 1, 2, 3⟩, by decide⟩,
    ⟨({ State.reset with mode := .survey, cor := { State.reset.cor with survey := ⟨59, 0, 0, 0, 0, 0, 0, 0, 0⟩ } }.wr Reg.COR_SURVEY_CFG_MIN_TIME 60).wr Reg.COR_SURVEY_CFG_ACC_LIMIT 10, 7, 0, 0, 0, none, ⟨60, 0, 0, 0, 0, 0, 0, 0, 0⟩, by decide⟩,
    ⟨((((State.reset.wrShadow Reg.COR_REF_X 63500000000).wrShadow Reg.COR_REF_Y 0).wrShadow Reg.COR_SURVEY_CFG_MIN_TIME 60).wrShadow Reg.COR_SURVEY_CFG_ACC_LIMIT 10).enterMode .pantry, 0, by decide⟩⟩

/-- The hypotheses of each clause of RtcmAndCompact are met, in order. -/
theorem test_RtcmAndCompact_met :
    (∃ (s u w : State) (l : List (Nat × Nat)) (τ : YTime), (s.Up) ∧ (u = s.baseReads.rtcmApply) ∧ (τ = u.epochTime (ratePeriod (min (u.rd
      Reg.COR_RTCM_CFG_RATE) u.rng.rate)) u.cor.last) ∧ (w =
      { (u.advance τ).rtcmApply with cor := { (u.advance τ).rtcmApply.cor with last := some τ } }) ∧ (w.corServes = false ∨ w.distStop =
      true ∨ w.outputsStopped = true))
    ∧ (∃ (s u w x : State) (l : List (Nat × Nat)) (τ : YTime) (m : MeasSeries) (sta dsc bia : Bool), (s.Up) ∧ (u = s.baseReads.rtcmApply) ∧ (τ
      = u.epochTime (ratePeriod (min (u.rd Reg.COR_RTCM_CFG_RATE) u.rng.rate)) u.cor.last) ∧ (w =
      { (u.advance τ).rtcmApply with cor := { (u.advance τ).rtcmApply.cor with last := some τ } }) ∧ (w.corServes = true ∧ w.distStop =
      false ∧ w.outputsStopped = false) ∧ (w.cor.seriesA = some m ∧ m.whole = true ∧ m.time = τ) ∧ (x = (w.wr Reg.COR_STATUS_RATE_CAPPED
      (bit (decide (w.rng.rate < w.rd Reg.COR_RTCM_CFG_RATE)))).wr Reg.COR_STATUS_RTCM_ON 1) ∧ (sta = (w.cor.station || decide (w.rd
      Reg.COR_RTCM_CFG_STA_PERIOD ≠ 0 ∧ τ.ns = 0 ∧ τ.sec % w.rd Reg.COR_RTCM_CFG_STA_PERIOD = 0))) ∧ (dsc = (!w.cor.text.isEmpty &&
      (w.cor.desc || decide (w.rd Reg.COR_RTCM_CFG_DESC_PERIOD ≠ 0 ∧ τ.ns = 0 ∧ τ.sec % w.rd Reg.COR_RTCM_CFG_DESC_PERIOD = 0)))) ∧ (bia =
      ((w.rng.ch.any fun p => p.2.live && !p.2.antB && systemOf p.2.signal == 1) && (w.cor.bias || decide (w.rd Reg.COR_RTCM_CFG_BIAS_PERIOD
      ≠ 0 ∧ τ.ns = 0 ∧ τ.sec % w.rd Reg.COR_RTCM_CFG_BIAS_PERIOD = 0)))))
    ∧ (∃ (s u w x : State) (l : List (Nat × Nat)) (τ : YTime), (s.Up) ∧ (u = s.baseReads.rtcmApply) ∧ (τ = u.epochTime (ratePeriod (min (u.rd
      Reg.COR_RTCM_CFG_RATE) u.rng.rate)) u.cor.last) ∧ (w =
      { (u.advance τ).rtcmApply with cor := { (u.advance τ).rtcmApply.cor with last := some τ } }) ∧ (w.corServes = true ∧ w.distStop =
      false ∧ w.outputsStopped = false) ∧ (w.seriesOf τ = none) ∧ (x = (w.wr Reg.COR_STATUS_RATE_CAPPED (bit (decide (w.rng.rate < w.rd
      Reg.COR_RTCM_CFG_RATE)))).wr Reg.COR_STATUS_RTCM_ON 1))
    ∧ (∃ (s u w : State) (τ : YTime), (s.Up) ∧ (u = s.baseReads.rtcmApply) ∧ (τ = u.epochTime
      (match u.rd Reg.COR_COMPACT_CFG_CRATE with | 0 => 1000 | 1 => 500 | _ => 200) u.cor.lastC) ∧ (w =
      { (u.advance τ).rtcmApply with cor := { (u.advance τ).rtcmApply.cor with lastC := some τ } }) ∧ (w.corServes = false ∨ w.on
      Reg.COR_COMPACT_CFG_C_EN = false ∨ w.on Reg.PIN_STRAP_STATUS_RADIO_ON = false ∨ w.distStop = true ∨ w.outputsStopped = true))
    ∧ (∃ (s u w : State) (τ : YTime), (s.Up) ∧ (u = s.baseReads.rtcmApply) ∧ (τ = u.epochTime
      (match u.rd Reg.COR_COMPACT_CFG_CRATE with | 0 => 1000 | 1 => 500 | _ => 200) u.cor.lastC) ∧ (w =
      { (u.advance τ).rtcmApply with cor := { (u.advance τ).rtcmApply.cor with lastC := some τ } }) ∧ (w.corServes = true ∧ w.on
      Reg.COR_COMPACT_CFG_C_EN = true ∧ w.on Reg.PIN_STRAP_STATUS_RADIO_ON = true ∧ w.distStop = false ∧ w.outputsStopped = false) ∧
      (w.seriesOf τ = none))
    ∧ (∃ (s u w x y z : State) (τ : YTime) (m : MeasSeries) (b : List Nat) (k : Bool), (s.Up) ∧ (u = s.baseReads.rtcmApply) ∧ (τ = u.epochTime
      (match u.rd Reg.COR_COMPACT_CFG_CRATE with | 0 => 1000 | 1 => 500 | _ => 200) u.cor.lastC) ∧ (w =
      { (u.advance τ).rtcmApply with cor := { (u.advance τ).rtcmApply.cor with lastC := some τ } }) ∧ (w.corServes = true ∧ w.on
      Reg.COR_COMPACT_CFG_C_EN = true ∧ w.on Reg.PIN_STRAP_STATUS_RADIO_ON = true ∧ w.distStop = false ∧ w.outputsStopped = false) ∧
      (w.cor.seriesA = some m ∧ m.whole = true ∧ m.time = τ) ∧ (x = w.wr Reg.COR_STATUS_COMPACT_ON 1) ∧ (y = (if 35 < (x.compactBlocks
      m).length then (x.bump Reg.COR_COMPACT_TRUNC Reg.COR_FAULT_CNT_SAT).fault Reg.COR_FAULT_COMPACT_TRUNC else x)) ∧ (k = (decide (max 1
      (y.rd Reg.COR_COMPACT_CFG_POS_EVERY) ≤ y.cor.frames + 1) && y.nvm.ref.isSome)) ∧ (b = [min 35 (x.compactBlocks m).length, bit k + 2 *
      bits m.flags 1 1] ++ le 2 y.stationId ++ le 4 (gpsMs τ % 604800000) ++ le 2 (gpsMs τ / 604800000) ++ le 2 0 ++ (if k then
      y.stationRecord else []) ++ ((x.compactBlocks m).take 35).flatten) ∧ (z =
      { y.send 27 0 (0x04 :: b) with cor := { (y.send 27 0 (0x04 :: b)).cor with frames := if k then 0 else (y.send 27 0 (0x04 :: b)).cor.frames + 1 } }))
    ∧ (∃ (s u : State), (s.Up) ∧ (u = s.rtcmApply) ∧ (u.sh Reg.COR_RTCM_CFG_RATE ≤ 4) ∧ (u.sh Reg.COR_RTCM_CFG_SYS_EN ≠ 0 ∧ u.sh
      Reg.COR_COMPACT_CFG_C_SYS ≠ 0 ∧ u.sh Reg.COR_RTCM_CFG_STA_PERIOD ≠ 0) ∧ (4 ≤ u.sh Reg.COR_COMPACT_CFG_MAX_SV ∧ u.sh
      Reg.COR_COMPACT_CFG_MAX_SV ≤ 48 ∧ u.sh Reg.COR_COMPACT_CFG_POS_EVERY ≠ 0) ∧ ((u.sh Reg.COR_COMPACT_CFG_CRATE = 0 ∧ ratePeriod
      u.rng.rate ≤ 1000) ∨ (u.sh Reg.COR_COMPACT_CFG_CRATE = 1 ∧ ratePeriod u.rng.rate ≤ 500) ∨ (u.sh Reg.COR_COMPACT_CFG_CRATE = 2 ∧
      ratePeriod u.rng.rate ≤ 200))) :=
  ⟨⟨{ State.reset with mode := .survey }, _, _, [], _, by exact ⟨by decide, rfl, rfl, rfl, by decide⟩⟩,
    ⟨{ State.reset with mode := .pantry, cor := { State.reset.cor with seriesA := some ⟨1, true, 1, 0, State.reset.epochTime 1000 none, []⟩ } }, _, _, _, [], _, ⟨1, true, 1, 0, State.reset.epochTime 1000 none, []⟩, _, _, _, by exact ⟨by decide, rfl, rfl, rfl, by decide, ⟨rfl, rfl, by decide⟩, rfl, rfl, rfl, rfl⟩⟩,
    ⟨{ State.reset with mode := .pantry }, _, _, _, [], _, by exact ⟨by decide, rfl, rfl, rfl, by decide, by decide, rfl⟩⟩,
    ⟨{ State.reset with mode := .survey }, _, _, _, by exact ⟨by decide, rfl, rfl, rfl, by decide⟩⟩,
    ⟨({ State.reset with mode := .pantry }.wr Reg.COR_COMPACT_CFG_C_EN 1).wr Reg.PIN_STRAP_STATUS_RADIO_ON 1, _, _, _, by exact ⟨by decide, rfl, rfl, rfl, by decide, by decide⟩⟩,
    ⟨({ State.reset with mode := .pantry, cor := { State.reset.cor with seriesA := some ⟨1, true, 1, 0, State.reset.epochTime 1000 none, []⟩ } }.wr Reg.COR_COMPACT_CFG_C_EN 1).wr Reg.PIN_STRAP_STATUS_RADIO_ON 1, _, _, _, _, _, _, ⟨1, true, 1, 0, State.reset.epochTime 1000 none, []⟩, _, _, by exact ⟨by decide, rfl, rfl, rfl, by decide, ⟨rfl, rfl, by decide⟩, rfl, rfl, rfl, rfl, rfl⟩⟩,
    ⟨(((((State.reset.wrShadow Reg.COR_RTCM_CFG_SYS_EN 1).wrShadow Reg.COR_COMPACT_CFG_C_SYS 1).wrShadow Reg.COR_RTCM_CFG_STA_PERIOD 10).wrShadow Reg.COR_COMPACT_CFG_CRATE 0).wrShadow Reg.COR_COMPACT_CFG_MAX_SV 8).wrShadow Reg.COR_COMPACT_CFG_POS_EVERY 10, _, by exact ⟨by decide, rfl, by decide, by decide, by decide, by decide⟩⟩⟩

/-- The hypotheses of each clause of CasterService are met, in order. -/
theorem test_CasterService_met :
    (∃ (s : State) (c : Cmd) (d : List Byte), (s.Up) ∧ (s.Accepts c .dataIn) ∧ (c.desc.length = 64) ∧ (textOk 31 (slice d 0 32) = true ∧
      textOk 31 (slice d 32 32) = true))
    ∧ (∃ (s : State) (c : Cmd) (d : List Byte), (s.Up) ∧ (s.Accepts c .dataIn) ∧ (c.desc.length.toNat < 16 ∨ c.desc.length.toNat ≠ 16 + 32 *
      (d.getD 1 0).toNat + 64 * ((d.getD 2 0).toNat + 256 * (d.getD 3 0).toNat)))
    ∧ (∃ (s : State) (c : Cmd) (d : List Byte) (k m u : Nat), (s.Up) ∧ (s.Accepts c .dataIn) ∧ (m = (d.getD 1 0).toNat ∧ u = (d.getD 2
      0).toNat + 256 * (d.getD 3 0).toNat) ∧ (c.desc.length.toNat = 16 + 32 * m + 64 * u) ∧ (s.tableBad d m u = false) ∧ ((s.begun c).keyOf
      7 = some k))
    ∧ (∃ (s : State) (q : CastReq), (s.Up) ∧ (s.listens q.lanB = true) ∧ (q.tooLong = true))
    ∧ (∃ (s : State) (q : CastReq), (s.Up) ∧ (s.listens q.lanB = true) ∧ (q.tooLong = false ∧ s.cor.lockout.contains q.addr.toNat = true))
    ∧ (∃ (s : State) (q : CastReq), (s.Up) ∧ (s.listens q.lanB = true) ∧ (q.tooLong = false ∧ s.cor.lockout.contains q.addr.toNat = false ∧
      q.isGet = false))
    ∧ (∃ (s : State) (q : CastReq), (s.Up) ∧ (s.listens q.lanB = true) ∧ (q.tooLong = false ∧ s.cor.lockout.contains q.addr.toNat = false ∧
      q.isGet = true ∧ q.v2 = false ∧ s.on Reg.COR_CASTER_CFG_V1_EN = false))
    ∧ (∃ (s : State) (q : CastReq), (s.Up) ∧ (s.listens q.lanB = true) ∧ (q.tooLong = false ∧ s.cor.lockout.contains q.addr.toNat = false ∧
      q.isGet = true ∧ (q.v2 = true ∨ s.on Reg.COR_CASTER_CFG_V1_EN = true)) ∧ (s.cor.mounts.findIdx? (fun m => m.name == q.path) = none))
    ∧ (∃ (s : State) (q : CastReq) (i : Nat), (s.Up) ∧ (s.listens q.lanB = true) ∧ (q.tooLong = false ∧ s.cor.lockout.contains q.addr.toNat =
      false ∧ q.isGet = true ∧ (q.v2 = true ∨ s.on Reg.COR_CASTER_CFG_V1_EN = true)) ∧ (s.cor.mounts.findIdx? (fun m => m.name == q.path) =
      some i ∧ s.corServes = false))
    ∧ (∃ (s : State) (q : CastReq) (i : Nat), (s.Up) ∧ (s.listens q.lanB = true) ∧ (q.tooLong = false ∧ s.cor.lockout.contains q.addr.toNat =
      false ∧ q.isGet = true ∧ (q.v2 = true ∨ s.on Reg.COR_CASTER_CFG_V1_EN = true)) ∧ (s.cor.mounts.findIdx? (fun m => m.name == q.path) =
      some i ∧ s.corServes = true) ∧ (s.credentials q i = none))
    ∧ (∃ (s : State) (q : CastReq) (i : Nat) (u : Option (List Byte)), (s.Up) ∧ (s.listens q.lanB = true) ∧ (q.tooLong = false ∧
      s.cor.lockout.contains q.addr.toNat = false ∧ q.isGet = true ∧ (q.v2 = true ∨ s.on Reg.COR_CASTER_CFG_V1_EN = true)) ∧
      (s.cor.mounts.findIdx? (fun m => m.name == q.path) = some i ∧ s.corServes = true) ∧ (s.credentials q i = some u) ∧ (s.clientLimit ≤
      s.cor.clients.length))
    ∧ (∃ (s : State) (q : CastReq) (i : Nat) (u : Option (List Byte)), (s.Up) ∧ (s.listens q.lanB = true) ∧ (q.tooLong = false ∧
      s.cor.lockout.contains q.addr.toNat = false ∧ q.isGet = true ∧ (q.v2 = true ∨ s.on Reg.COR_CASTER_CFG_V1_EN = true)) ∧
      (s.cor.mounts.findIdx? (fun m => m.name == q.path) = some i ∧ s.corServes = true) ∧ (s.credentials q i = some u) ∧
      (s.cor.clients.length < s.clientLimit))
    ∧ (∃ (s : State), (s.Up))
    ∧ (∃ (s : State) (a : Word), (s.Up))
    ∧ (∃ (s : State) (id : Nat), (s.Up))
    ∧ (∃ (s : State), (s.Up) ∧ (s.sh Reg.COR_CASTER_CFG_PORT ≠ 0 ∧ s.sh Reg.COR_CASTER_CFG_PORT ≠ s.rd Reg.COR_CASTER_CFG_PORT) ∧ (s.sh
      Reg.COR_CASTER_CFG_MAX_CLIENTS ≤ 256 ∧ (s.sh Reg.COR_CASTER_CFG_LAN_A_EN ≠ 0 ∨ s.sh Reg.COR_CASTER_CFG_LAN_B_EN ≠ 0)))
    ∧ (∃ (s x : State), (s.Up) ∧ (s.sh Reg.COR_CASTER_CFG_PORT ≠ 0 ∧ s.sh Reg.COR_CASTER_CFG_PORT = s.rd Reg.COR_CASTER_CFG_PORT) ∧ (s.sh
      Reg.COR_CASTER_CFG_MAX_CLIENTS ≤ 256 ∧ (s.sh Reg.COR_CASTER_CFG_LAN_A_EN ≠ 0 ∨ s.sh Reg.COR_CASTER_CFG_LAN_B_EN ≠ 0)) ∧ (x = s.commit
      Reg.COR_CASTER_COMMIT_RESULT [Reg.COR_CASTER_CFG_PORT, Reg.COR_CASTER_CFG_MAX_CLIENTS, Reg.COR_CASTER_CFG_V1_EN,
      Reg.COR_CASTER_CFG_LAN_A_EN, Reg.COR_CASTER_CFG_LAN_B_EN] St.done)) :=
  ⟨⟨State.reset.withCmd ⟨5, 2, 0, ⟨2, 7, 0, false, 0, 64, 0, 0, 0, 0⟩, none⟩, ⟨5, 2, 0, ⟨2, 7, 0, false, 0, 64, 0, 0, 0, 0⟩, none⟩, [65#8] ++ List.replicate 31 0#8 ++ [66#8] ++ List.replicate 31 0#8, by decide⟩,
    ⟨State.reset.withCmd ⟨5, 2, 0, ⟨1, 7, 0, false, 0, 8, 0, 0, 0, 0⟩, none⟩, ⟨5, 2, 0, ⟨1, 7, 0, false, 0, 8, 0, 0, 0, 0⟩, none⟩, [], by decide⟩,
    ⟨{ State.reset.withCmd ⟨5, 2, 0, ⟨1, 7, 0, false, 0, 48, 0, 0, 0, 0⟩, none⟩ with vlt := { State.reset.vlt with slots := [(7, ⟨6, 99, 1, none, 0, false, false, 0⟩)] } }.wrEach [(Reg.COR_RTCM_CFG_SYS_EN, 31)], ⟨5, 2, 0, ⟨1, 7, 0, false, 0, 48, 0, 0, 0, 0⟩, none⟩, ([1#8, 1#8, 0#8, 0#8] ++ List.replicate 12 0#8 ++ [65#8] ++ List.replicate 23 0#8 ++ [1#8, 1#8] ++ List.replicate 6 0#8), 99, 1, 0, by decide⟩,
    ⟨({ State.reset with mode := .pantry, zyp := { State.reset.zyp with lanUp := [0] } }.wrEach [(Reg.COR_CASTER_CFG_LAN_A_EN, 1), (Reg.CLK_ADMIT_STATUS_LAN_ADMITTED, 1), (Reg.COR_CASTER_CFG_MAX_CLIENTS, 4)]), ⟨false, 5, true, true, true, [65#8], none⟩, by decide⟩,
    ⟨({ State.reset with mode := .pantry, zyp := { State.reset.zyp with lanUp := [0] }, cor := { State.reset.cor with lockout := [5] } }.wrEach [(Reg.COR_CASTER_CFG_LAN_A_EN, 1), (Reg.CLK_ADMIT_STATUS_LAN_ADMITTED, 1), (Reg.COR_CASTER_CFG_MAX_CLIENTS, 4)]), ⟨false, 5, false, true, true, [65#8], none⟩, by decide⟩,
    ⟨({ State.reset with mode := .pantry, zyp := { State.reset.zyp with lanUp := [0] } }.wrEach [(Reg.COR_CASTER_CFG_LAN_A_EN, 1), (Reg.CLK_ADMIT_STATUS_LAN_ADMITTED, 1), (Reg.COR_CASTER_CFG_MAX_CLIENTS, 4)]), ⟨false, 5, false, false, true, [65#8], none⟩, by decide⟩,
    ⟨({ State.reset with mode := .pantry, zyp := { State.reset.zyp with lanUp := [0] } }.wrEach [(Reg.COR_CASTER_CFG_LAN_A_EN, 1), (Reg.CLK_ADMIT_STATUS_LAN_ADMITTED, 1), (Reg.COR_CASTER_CFG_MAX_CLIENTS, 4), (Reg.COR_CASTER_CFG_V1_EN, 0)]), ⟨false, 5, false, true, false, [65#8], none⟩, by decide⟩,
    ⟨({ State.reset with mode := .pantry, zyp := { State.reset.zyp with lanUp := [0] } }.wrEach [(Reg.COR_CASTER_CFG_LAN_A_EN, 1), (Reg.CLK_ADMIT_STATUS_LAN_ADMITTED, 1), (Reg.COR_CASTER_CFG_MAX_CLIENTS, 4)]), ⟨false, 5, false, true, true, [65#8], none⟩, by decide⟩,
    ⟨({ State.reset with mode := .survey, zyp := { State.reset.zyp with lanUp := [0] }, cor := { State.reset.cor with mounts := [⟨[65#8], 1, 1⟩] } }.wrEach [(Reg.COR_CASTER_CFG_LAN_A_EN, 1), (Reg.CLK_ADMIT_STATUS_LAN_ADMITTED, 1), (Reg.COR_CASTER_CFG_MAX_CLIENTS, 4)]), ⟨false, 5, false, true, true, [65#8], none⟩, 0, by decide⟩,
    ⟨({ State.reset with mode := .pantry, zyp := { State.reset.zyp with lanUp := [0] }, cor := { State.reset.cor with mounts := [⟨[65#8], 1, 1⟩], users := [⟨[66#8], [], 1⟩] } }.wrEach [(Reg.COR_CASTER_CFG_LAN_A_EN, 1), (Reg.CLK_ADMIT_STATUS_LAN_ADMITTED, 1), (Reg.COR_CASTER_CFG_MAX_CLIENTS, 4)]), ⟨false, 5, false, true, true, [65#8], none⟩, 0, by decide⟩,
    ⟨({ State.reset with mode := .pantry, zyp := { State.reset.zyp with lanUp := [0] }, cor := { State.reset.cor with mounts := [⟨[65#8], 1, 1⟩] } }.wrEach [(Reg.COR_CASTER_CFG_LAN_A_EN, 1), (Reg.CLK_ADMIT_STATUS_LAN_ADMITTED, 1), (Reg.COR_CASTER_CFG_MAX_CLIENTS, 0)]), ⟨false, 5, false, true, true, [65#8], none⟩, 0, none, by decide⟩,
    ⟨({ State.reset with mode := .pantry, zyp := { State.reset.zyp with lanUp := [0] }, cor := { State.reset.cor with mounts := [⟨[65#8], 1, 1⟩] } }.wrEach [(Reg.COR_CASTER_CFG_LAN_A_EN, 1), (Reg.CLK_ADMIT_STATUS_LAN_ADMITTED, 1), (Reg.COR_CASTER_CFG_MAX_CLIENTS, 4)]), ⟨false, 5, false, true, true, [65#8], none⟩, 0, none, by decide⟩,
    ⟨State.reset, by decide⟩,
    ⟨State.reset, 5, by decide⟩,
    ⟨State.reset, 3, by decide⟩,
    ⟨(((State.reset.wrShadow Reg.COR_CASTER_CFG_PORT 77).wrShadow Reg.COR_CASTER_CFG_MAX_CLIENTS 7).wrShadow Reg.COR_CASTER_CFG_LAN_A_EN 1), by decide⟩,
    ⟨((((State.reset.wr Reg.COR_CASTER_CFG_PORT 2101).wrShadow Reg.COR_CASTER_CFG_PORT 2101).wrShadow Reg.COR_CASTER_CFG_MAX_CLIENTS 7).wrShadow Reg.COR_CASTER_CFG_LAN_A_EN 1), _, by exact ⟨by decide, by decide, by decide, rfl⟩⟩⟩

/-- The hypotheses of each clause of IntegrityMonitor are met, in order. -/
theorem test_IntegrityMonitor_met :
    (∃ (s u : State) (vec : Option (Int × Int × Int)) (k : Option Nat) (c : Nat), (s.Up) ∧ (u = s.baseReads) ∧ (u.monitorRuns = true ∧ u.on
      Reg.COR_MON_CFG_MON_EN = true ∧ u.on Reg.COR_STATUS_BASELINE_SET = true) ∧ (k = u.bothSeries.map (fun x => commonSats x.1 x.2) ∧ c =
      u.monitorCode k vec))
    ∧ (∃ (s : State) (x y z : Int) (r : RefRec) (p : Int × Int × Int) (d : Nat), (s.Up) ∧ (s.monitorRuns = true ∧ s.on Reg.COR_MON_CFG_MON_EN
      = true ∧ s.cor.driftFrom + 600 ≤ s.now.sec) ∧ (s.nvm.ref = some r) ∧ (p = alongUp (x, y, z) (-(s.rd Reg.COR_REF_CFG_PCO_UP : Int)) ∧
      (d : Int) = len2 (p.1 - r.x) (p.2.1 - r.y) (p.2.2 - r.z)))
    ∧ (∃ (s : State), (s.Up) ∧ (s.rd Reg.COR_MON_CFG_PERSIST ≤ s.cor.passRun) ∧ (s.cor.driftOk = true))
    ∧ (∃ (s : State), (s.Up) ∧ (s.cor.passRun < s.rd Reg.COR_MON_CFG_PERSIST ∨ s.cor.driftOk = false))
    ∧ (∃ (s : State), (s.Up) ∧ (2 ≤ s.sh Reg.COR_MON_CFG_DEV_LIM ∧ s.sh Reg.COR_MON_CFG_DEV_LIM ≤ 100 ∧ 1 ≤ s.sh Reg.COR_MON_CFG_PERSIST ∧
      s.sh Reg.COR_MON_CFG_PERSIST ≤ 60 ∧ 10 ≤ s.sh Reg.COR_MON_CFG_DRIFT_LIM ∧ s.sh Reg.COR_MON_CFG_DRIFT_LIM ≤ 1000)) :=
  ⟨⟨{ State.reset with mode := .pantry, rng := { State.reset.rng with last := some ⟨5, 0, 0⟩ }, cor := { State.reset.cor with seriesA := some ⟨1, true, 1, 0, ⟨5, 0, 0⟩, []⟩, seriesB := some ⟨1, true, 1, 0, ⟨5, 0, 0⟩, []⟩ } }.wrEach [(Reg.COR_MON_CFG_MON_EN, 1), (Reg.COR_STATUS_BASELINE_SET, 1), (Reg.COR_MON_CFG_DEV_LIM, 10)], _, some (1, 2, 3), _, _, by exact ⟨by decide, rfl, by decide, rfl, rfl⟩⟩,
    ⟨{ State.reset with mode := .pantry, nvm := { State.reset.nvm with ref := some ⟨0, 0, 0, 2, 0, 0, 0, true⟩ }, tim := { State.reset.tim with now := ⟨700, 0, 0⟩ } }.wrEach [(Reg.COR_MON_CFG_MON_EN, 1), (Reg.COR_REF_CFG_PCO_UP, 0)], 3, 4, 0, ⟨0, 0, 0, 2, 0, 0, 0, true⟩, (3, 4, 0), 25, by decide⟩,
    ⟨{ State.reset with cor := { State.reset.cor with passRun := 60, driftOk := true } }, by decide⟩,
    ⟨{ State.reset with cor := { State.reset.cor with passRun := 60, driftOk := false } }, by decide⟩,
    ⟨((State.reset.wrShadow Reg.COR_MON_CFG_DEV_LIM 5).wrShadow Reg.COR_MON_CFG_PERSIST 5).wrShadow Reg.COR_MON_CFG_DRIFT_LIM 100, by decide⟩⟩

/-- The hypotheses of each clause of CentralIntake are met, in order. -/
theorem test_CentralIntake_met :
    (∃ (s : State) (p : Packet) (m : MeasSeries), (s.Up) ∧ (s.nextPacket 23 = some p ∧ p.bytes.getD 1 0 = 0) ∧ (takePart s.cre.opened
      p.bytes = some m ∧ m.whole = true))
    ∧ (∃ (s : State) (p : Packet) (m : MeasSeries), (s.Up) ∧ (s.nextPacket 23 = some p ∧ p.bytes.getD 1 0 = 0) ∧ (takePart s.cre.opened
      p.bytes = some m ∧ m.whole = false))
    ∧ (∃ (s : State) (p : Packet), (s.Up) ∧ (s.nextPacket 23 = some p ∧ p.bytes.getD 1 0 = 0) ∧ (takePart s.cre.opened p.bytes = none))
    ∧ (∃ (s : State) (p : Packet), (s.Up) ∧ (s.nextPacket 23 = some p ∧ p.bytes.getD 1 0 ≠ 0))
    ∧ (∃ (s u : State) (k : Fin 4) (age : Word) (p : Packet), (s.Up) ∧ (s.nextPacket (28 + k.val) = some p ∧ u = (s.takeAny (28 +
      k.val)).showCreRuns))
    ∧ (∃ (s u : State) (k : Fin 4) (age : Word) (p : Packet) (f : ObsFrame) (e : ObsEpoch) (r : RosterEnt), (s.Up) ∧ (s.nextPacket (28 +
      k.val) = some p ∧ u = (s.takeAny (28 + k.val)).showCreRuns) ∧ (u.creRuns = true ∧ f = obsFrame p ∧ e = obsPart f) ∧ (AMap.find f.lid
      u.zyp.roster = some r ∧ r.fed = f.fed ∧ obsBad f.body f.radio = false ∧ (blocksBad f.body (obsLe f.body 2 1) 32).2 = f.body.length) ∧
      (e.tow % 100 = 50 * (f.lid % 2) ∧ age.toNat ≤ u.rd Reg.CRE_INTAKE_CFG_AGE_MAX ∧ (∀ l, (u.filt f.lid).last = some l → gpsLater (e.week,
      e.tow) l = true)) ∧ ((u.filt e.lid).held = none ∧ e.parts = 1))
    ∧ (∃ (s u : State) (k : Fin 4) (age : Word) (p : Packet) (f : ObsFrame) (e : ObsEpoch) (r : RosterEnt), (s.Up) ∧ (s.nextPacket (28 +
      k.val) = some p ∧ u = (s.takeAny (28 + k.val)).showCreRuns) ∧ (u.creRuns = true ∧ f = obsFrame p ∧ e = obsPart f) ∧ (AMap.find f.lid
      u.zyp.roster = some r ∧ r.fed = f.fed ∧ obsBad f.body f.radio = false ∧ (blocksBad f.body (obsLe f.body 2 1) 32).2 = f.body.length) ∧
      (e.tow % 100 = 50 * (f.lid % 2) ∧ age.toNat ≤ u.rd Reg.CRE_INTAKE_CFG_AGE_MAX ∧ (∀ l, (u.filt f.lid).last = some l → gpsLater (e.week,
      e.tow) l = true)) ∧ ((u.filt e.lid).held = none ∧ e.parts ≠ 1))
    ∧ (∃ (s u : State) (k : Fin 4) (age : Word) (p : Packet) (f : ObsFrame) (e g : ObsEpoch) (r : RosterEnt), (s.Up) ∧ (s.nextPacket (28 +
      k.val) = some p ∧ u = (s.takeAny (28 + k.val)).showCreRuns) ∧ (u.creRuns = true ∧ f = obsFrame p ∧ e = obsPart f) ∧ (AMap.find f.lid
      u.zyp.roster = some r ∧ r.fed = f.fed ∧ obsBad f.body f.radio = false ∧ (blocksBad f.body (obsLe f.body 2 1) 32).2 = f.body.length) ∧
      (e.tow % 100 = 50 * (f.lid % 2) ∧ age.toNat ≤ u.rd Reg.CRE_INTAKE_CFG_AGE_MAX ∧ (∀ l, (u.filt f.lid).last = some l → gpsLater (e.week,
      e.tow) l = true)) ∧ ((u.filt e.lid).held = some g ∧ e.week = g.week ∧ e.tow = g.tow ∧ partsAgree g e = true ∧ e.part ≠ g.part))
    ∧ (∃ (s : State) (n : Fin 256) (e : ObsEpoch), (s.Up) ∧ ((s.filt n.val).held = some e))
    ∧ (∃ (s : State) (n : Fin 256) (e : ObsEpoch), (s.Up) ∧ (s.cre.queue.find? (fun e => e.lid == n.val && !e.noBase) = some e) ∧ (s.paired e
      = false))
    ∧ (∃ (s : State) (n : Fin 256), (s.Up) ∧ (s.on (Reg.CRE_ROBOT_ACTIVE n.val) = true)) :=
  ⟨⟨{ State.reset with chu := [(23, { Chute.fresh 23 with pkts := [⟨0, [0x501000001, 0, 0, 0], 0, none, none⟩] })] }, ⟨0, [0x501000001, 0, 0, 0], 0, none, none⟩, ⟨1, true, 5, 1, ⟨0, 0, 0⟩, []⟩, by decide⟩,
    ⟨{ State.reset with chu := [(23, { Chute.fresh 23 with pkts := [⟨0, [0x500000001, 0, 0, 0], 0, none, none⟩] })] }, ⟨0, [0x500000001, 0, 0, 0], 0, none, none⟩, ⟨1, false, 5, 0, ⟨0, 0, 0⟩, []⟩, by decide⟩,
    ⟨{ State.reset with chu := [(23, { Chute.fresh 23 with pkts := [⟨0, [0x500010001, 0, 0, 0], 0, none, none⟩] })] }, ⟨0, [0x500010001, 0, 0, 0], 0, none, none⟩, by decide⟩,
    ⟨{ State.reset with chu := [(23, { Chute.fresh 23 with pkts := [⟨0, [0x501000101, 0, 0, 0], 0, none, none⟩] })] }, ⟨0, [0x501000101, 0, 0, 0], 0, none, none⟩, by decide⟩,
    ⟨{ State.reset with chu := [(28, { Chute.fresh 28 with pkts := [⟨0, [1, 2, 3, 4, 5, 6, 7, 8], 0, none, none⟩] })] }, _, 0, 5, ⟨0, [1, 2, 3, 4, 5, 6, 7, 8], 0, none, none⟩, by exact ⟨by decide, by decide, rfl⟩⟩,
    ⟨({ State.reset with mode := .pantry, zyp := { State.reset.zyp with roster := [(3, ⟨9, 0, false⟩)] }, chu := [(31, { Chute.fresh 31 with pkts := [⟨0, [], 0, some 3, some ⟨9, 1, 0, 0, 0, 0, 3, none, 0, (List.replicate 4 0#8 ++ [9#8] ++ List.replicate 23 0#8 ++ ([1#8, 0x10#8, 0#8, 0#8, 50#8] ++ List.replicate 27 0#8) ++ List.replicate 16 0#8), 0⟩⟩] })] }.wr Reg.CRE_INTAKE_CFG_AGE_MAX 200), _, 3, 0, ⟨0, [], 0, some 3, some ⟨9, 1, 0, 0, 0, 0, 3, none, 0, (List.replicate 4 0#8 ++ [9#8] ++ List.replicate 23 0#8 ++ ([1#8, 0x10#8, 0#8, 0#8, 50#8] ++ List.replicate 27 0#8) ++ List.replicate 16 0#8), 0⟩⟩, _, _, ⟨9, 0, false⟩, by exact ⟨by decide, ⟨by decide, rfl⟩, ⟨by decide, rfl, rfl⟩, by decide, ⟨by decide, by decide, fun l h => absurd (show (none : Option (Nat × Nat)) = some l from h) (by simp)⟩, by decide⟩⟩,
    ⟨({ State.reset with mode := .pantry, zyp := { State.reset.zyp with roster := [(3, ⟨9, 0, false⟩)] }, chu := [(31, { Chute.fresh 31 with pkts := [⟨0, [], 0, some 3, some ⟨9, 1, 0, 0, 0, 0, 3, none, 0, (List.replicate 4 0#8 ++ [9#8] ++ List.replicate 23 0#8 ++ ([1#8, 0x20#8, 0#8, 0#8, 50#8] ++ List.replicate 27 0#8) ++ List.replicate 16 0#8), 0⟩⟩] })] }.wr Reg.CRE_INTAKE_CFG_AGE_MAX 200), _, 3, 0, ⟨0, [], 0, some 3, some ⟨9, 1, 0, 0, 0, 0, 3, none, 0, (List.replicate 4 0#8 ++ [9#8] ++ List.replicate 23 0#8 ++ ([1#8, 0x20#8, 0#8, 0#8, 50#8] ++ List.replicate 27 0#8) ++ List.replicate 16 0#8), 0⟩⟩, _, _, ⟨9, 0, false⟩, by exact ⟨by decide, ⟨by decide, rfl⟩, ⟨by decide, rfl, rfl⟩, by decide, ⟨by decide, by decide, fun l h => absurd (show (none : Option (Nat × Nat)) = some l from h) (by simp)⟩, by decide⟩⟩,
    ⟨({ State.reset with mode := .pantry, zyp := { State.reset.zyp with roster := [(3, ⟨9, 0, false⟩)] }, chu := [(31, { Chute.fresh 31 with pkts := [⟨0, [], 0, some 3, some ⟨9, 1, 0, 0, 0, 0, 3, none, 0, (List.replicate 4 0#8 ++ [9#8] ++ List.replicate 23 0#8 ++ ([1#8, 0x21#8, 0#8, 0#8, 50#8] ++ List.replicate 27 0#8) ++ List.replicate 16 0#8), 0⟩⟩] })], cre := { State.reset.cre with filt := [(3, { Filt.reset with held := some ⟨3, 9, 0, 50, 0, 2, 0, 0, 0, 0, YTime.zero, 0, false, []⟩ })] } }.wr Reg.CRE_INTAKE_CFG_AGE_MAX 200), _, 3, 0, ⟨0, [], 0, some 3, some ⟨9, 1, 0, 0, 0, 0, 3, none, 0, (List.replicate 4 0#8 ++ [9#8] ++ List.replicate 23 0#8 ++ ([1#8, 0x21#8, 0#8, 0#8, 50#8] ++ List.replicate 27 0#8) ++ List.replicate 16 0#8), 0⟩⟩, _, _, ⟨3, 9, 0, 50, 0, 2, 0, 0, 0, 0, YTime.zero, 0, false, []⟩, ⟨9, 0, false⟩, by exact ⟨by decide, ⟨by decide, rfl⟩, ⟨by decide, rfl, rfl⟩, by decide, ⟨by decide, by decide, fun l h => absurd (show (none : Option (Nat × Nat)) = some l from h) (by simp)⟩, by decide⟩⟩,
    ⟨{ State.reset with cre := { State.reset.cre with filt := [(3, { Filt.reset with held := some ⟨3, 9, 0, 50, 0, 2, 0, 0, 0, 0, YTime.zero, 0, false, []⟩ })] } }, 3, ⟨3, 9, 0, 50, 0, 2, 0, 0, 0, 0, YTime.zero, 0, false, []⟩, by decide⟩,
    ⟨{ State.reset with cre := { State.reset.cre with queue := [⟨3, 9, 0, 50, 0, 2, 0, 0, 0, 0, YTime.zero, 0, false, []⟩] } }, 3, ⟨3, 9, 0, 50, 0, 2, 0, 0, 0, 0, YTime.zero, 0, false, []⟩, by decide⟩,
    ⟨State.reset.wr (Reg.CRE_ROBOT_ACTIVE 3) 1, 3, by decide⟩⟩

/-- The hypotheses of each clause of CentralResultsAndCommits are met, in order. -/
theorem test_CentralResultsAndCommits_met :
    (∃ (s q x y : State) (ecc : Ecc) (eph : List EphSat) (done : YTime) (us : Word) (e : ObsEpoch) (rest : List ObsEpoch) (r : Solution ×
      Filt), (s.Up) ∧ (s.cre.queue = e :: rest ∧ s.creRuns = true) ∧ (e.noBase = true ∨ s.paired e = true) ∧ (q =
      ({ s with cre := { s.cre with queue := rest } }).showCreRuns) ∧ (x = (if ecc = .uncorrectable then (q.creReset e.lid).fault
      Reg.CRE_FAULT_STATE_ECC else if ecc = .corrected then q.wrapBy Reg.MEM_ECC_CORR 1 else q)) ∧ (r = x.solve (x.filt e.lid) e eph) ∧ (y =
      (((((x.countEpoch r.1).setFilt e.lid r.2).wr (Reg.CRE_ROBOT_FIX e.lid) r.2.fix.code).wr (Reg.CRE_ROBOT_SATS e.lid) r.1.sats).wr
      (Reg.CRE_ROBOT_AMB_FIXED e.lid) r.1.amb).showCre))
    ∧ (∃ (s : State) (c : Cmd), (s.Up) ∧ (s.Accepts c .command) ∧ (c.desc.length = 0 ∧ bits c.desc.p0.toNat 8 24 = 0))
    ∧ (∃ (s : State) (c : Cmd), (s.Up) ∧ (s.Accepts c .command) ∧ (c.desc.length = 0 ∧ bits c.desc.p0.toNat 9 23 = 0 ∧ bits c.desc.p0.toNat 8
      1 = 1))
    ∧ (∃ (s : State) (c : Cmd), (s.Up) ∧ (s.Accepts c .dataOut) ∧ (c.desc.length = 98304) ∧ (s.creRuns = true))
    ∧ (∃ (s : State), (s.Up) ∧ (s.mode.fleet = false ∧ s.mode ≠ .twinStandby ∧ s.mode ≠ .rejoin) ∧ (offEarth (signed 64 (s.sh
      Reg.CRE_FRAME_X)) (signed 64 (s.sh Reg.CRE_FRAME_Y)) (signed 64 (s.sh Reg.CRE_FRAME_Z)) 6300000000 6400000000 = false) ∧ (s.sh
      Reg.CRE_FRAME_ROT ≤ 359999))
    ∧ (∃ (s : State), (s.Up) ∧ (s.sh Reg.CRE_XCHK_CFG_XCHK_PERSIST ≠ 0))
    ∧ (∃ (s : State), (s.Up) ∧ (5 ≤ s.sh Reg.CRE_FILT_CFG_CODE_SIGMA ∧ s.sh Reg.CRE_FILT_CFG_CODE_SIGMA ≤ 255 ∧ 10 ≤ s.sh
      Reg.CRE_FILT_CFG_PHASE_SIGMA ∧ s.sh Reg.CRE_FILT_CFG_PHASE_SIGMA ≤ 255 ∧ s.sh Reg.CRE_FILT_CFG_ELEV_MIN ≤ 30 ∧ 20 ≤ s.sh
      Reg.CRE_FILT_CFG_CN0_MIN ∧ s.sh Reg.CRE_FILT_CFG_CN0_MIN ≤ 45 ∧ 1 ≤ s.sh Reg.CRE_FILT_CFG_ACC_PSD ∧ s.sh Reg.CRE_FILT_CFG_ACC_PSD ≤
      15) ∧ (15 ≤ s.sh Reg.CRE_AR_CFG_RATIO_MIN ∧ s.sh Reg.CRE_AR_CFG_RATIO_MIN ≤ 100 ∧ 4 ≤ s.sh Reg.CRE_AR_CFG_MIN_AMB ∧ s.sh
      Reg.CRE_AR_CFG_MIN_AMB ≤ 40 ∧ 1 ≤ s.sh Reg.CRE_AR_CFG_HOLD_AFTER ∧ s.sh Reg.CRE_AR_CFG_HOLD_AFTER ≤ 15 ∧ 2 ≤ s.sh
      Reg.CRE_AR_CFG_PDOP_MAX ∧ s.sh Reg.CRE_AR_CFG_PDOP_MAX ≤ 15 ∧ 1 ≤ s.sh Reg.CRE_AR_LIM_PF_MAX ∧ s.sh Reg.CRE_AR_LIM_PF_MAX ≤ 100000 ∧
      s.sh Reg.CRE_AR_LIM_NODE_CODE ≤ 4) ∧ (5 ≤ s.sh Reg.CRE_AR_LIM_RESID_LIM ∧ s.sh Reg.CRE_AR_LIM_RESID_LIM ≤ 100 ∧ 1 ≤ s.sh
      Reg.CRE_AR_LIM_GAP_RESET ∧ s.sh Reg.CRE_AR_LIM_GAP_RESET ≤ 15 ∧ 50 ≤ s.sh Reg.CRE_INTAKE_CFG_AGE_MAX ∧ s.sh Reg.CRE_INTAKE_CFG_AGE_MAX
      ≤ 1000)) :=
  ⟨⟨{ State.reset with mode := .pantry, cre := { State.reset.cre with queue := [⟨3, 9, 0, 50, 0, 2, 0, 0, 0, 0, YTime.zero, 0, true, []⟩] } }, _, _, _, .clean, [], YTime.zero, 0, ⟨3, 9, 0, 50, 0, 2, 0, 0, 0, 0, YTime.zero, 0, true, []⟩, [], _, by exact ⟨by decide, by decide, by decide, rfl, rfl, rfl, rfl⟩⟩,
    ⟨State.reset.withCmd ⟨5, 2, 0, ⟨1, 8, 0, false, 0, 0, 0, 5, 0, 0⟩, none⟩, ⟨5, 2, 0, ⟨1, 8, 0, false, 0, 0, 0, 5, 0, 0⟩, none⟩, by decide⟩,
    ⟨State.reset.withCmd ⟨5, 2, 0, ⟨1, 8, 0, false, 0, 0, 0, 256, 0, 0⟩, none⟩, ⟨5, 2, 0, ⟨1, 8, 0, false, 0, 0, 0, 256, 0, 0⟩, none⟩, by decide⟩,
    ⟨{ State.reset.withCmd ⟨5, 2, 0, ⟨2, 8, 0, false, 0, 98304, 0, 0, 0, 0⟩, none⟩ with mode := .pantry }, ⟨5, 2, 0, ⟨2, 8, 0, false, 0, 98304, 0, 0, 0, 0⟩, none⟩, by decide⟩,
    ⟨State.reset.wrShadow Reg.CRE_FRAME_X 6350000000, by decide⟩,
    ⟨State.reset.wrShadow Reg.CRE_XCHK_CFG_XCHK_PERSIST 3, by decide⟩,
    ⟨State.reset, by decide⟩⟩

/-- The hypotheses of each clause of LarderDecisions are met, in order. -/
theorem test_LarderDecisions_met :
    (∃ (s : State) (q : ReqPkt) (rest : List LdrWork), (s.Up) ∧ (s.ldrFrozen = false) ∧ (s.nextWork 2 = some (.request q, rest)))
    ∧ (∃ (s t0 : State) (q : ReqPkt) (rest : List LdrWork) (gs n : Nat) (tokens : List (Nat × Nat)) (runs : List Run), (s.Up) ∧ (s.ldrFrozen =
      false ∧ s.nextWork 2 = some (.request q, rest)) ∧ (t0 = ({ s with epo := { s.epo with work := rest } }).consume 34 (toWords (reqBytes
      q))) ∧ (t0.epo.mode0 = .fleetRun ∧ t0.epo.holdOwn.contains q.lid.val = false ∧ t0.on Reg.LDR_STATUS_AUDIT_LOCK = false) ∧ (t0.reqBad q
      = false ∧ q.badLen = false ∧ laterEq q.startSlot.toNat (slotPlus t0.slotNow 1) = true) ∧ (slotDiff q.startSlot.toNat t0.slotNow +
      (finalSlot t0.slotMs q + q.dwellEnd.toNat) ≤ 62 ∧ ¬ (pathCount q.path = 0 ∧ (t0.snapPos q.lid.val).isNone = true)) ∧ (tokens =
      ((t0.raster q).slots.flatMap fun x => x.2.map fun c => (x.1, c)) ∧ (t0.raster q).off = false ∧ tokens.length ≤ t0.rd
      Reg.LDR_REQ_CFG_MAX_TOKENS) ∧ (t0.freeGrant q.lid.val = some gs ∧ (t0.checkTokens q.lid.val q.startSlot.toNat tokens).1 = .ok) ∧ (n =
      (t0.newTokens q.startSlot.toNat tokens).length ∧ n ≠ 0) ∧ (placeRuns q.lid.val gs q.startSlot.toNat false (groupRuns (t0.newTokens
      q.startSlot.toNat tokens)) t0.ldr.runs = .ok runs))
    ∧ (∃ (s : State) (q : ReqPkt) (rest : List LdrWork), (s.Up) ∧ (s.ldrFrozen = false) ∧ (s.nextWork 2 = some (.request q, rest)) ∧
      (s.epo.mode0 ≠ .fleetRun))
    ∧ (∃ (s : State), (s.Up) ∧ (s.ldrFrozen = false))
    ∧ (∃ (s : State) (p : RelPkt) (src id from_ : Nat) (rest : List LdrWork), (s.Up) ∧ (s.ldrFrozen = false) ∧ (s.nextWork 0 = some (.release
      p src id, rest)) ∧ (p.rsv = false ∧ p.mode.toNat ≤ 2 ∧ p.gslot.toNat ≤ 6 ∧ s.epo.mode0.fleet = true) ∧ (p.mode = 1 → ∃ g, AMap.find (8
      * p.lid.val + p.gslot.toNat) s.ldr.grants = some g ∧ g.grantId = p.grantId.toNat) ∧ (from_ = (if p.mode = 2 ∧ laterEq p.fromSlot.toNat
      (slotPlus s.slotNow 1) = true then p.fromSlot.toNat else slotPlus s.slotNow 1)))
    ∧ (∃ (s : State) (e : EnvCmd) (rest : List LdrWork), (s.Up) ∧ (s.ldrFrozen = false) ∧ (s.nextWork 1 = some (.envelope e, rest)) ∧ (e.fin =
      true) ∧ (s.epo.mode0.fleet = true))
    ∧ (∃ (s b u : State) (e : EnvCmd) (g : Grant) (rest : List LdrWork) (cells : List Nat) (r : List (Nat × Nat) × List Nat) (placed : List
      Run × Nat), (s.Up) ∧ (s.ldrFrozen = false ∧ s.nextWork 1 = some (.envelope e, rest) ∧ e.fin = false) ∧ (b =
      ({ s with epo := { s.epo with work := rest } }).consume 34 (toWords (envBytes e))) ∧ (AMap.find (8 * e.lid + e.gslot) b.ldr.grants =
      some g ∧ b.epo.mode0 = .fleetRun) ∧ (cells = b.envCells g.req e.sFrom e.sTo) ∧ (r = b.envTokens e.lid true ((List.range (b.rd
      Reg.LDR_ENV_CFG)).flatMap fun k => cells.map fun c => (k + 1, c)) [] []) ∧ (placed = placeEnv e.lid b.slotNow (groupRuns r.1)
      b.ldr.runs) ∧ (u =
      (({ b with ldr := { b.ldr with runs := placed.1.map (fun (x : Run) => if !(x.robot == e.lid && x.env && !x.pending) then x else if !cells.contains x.cell then x.release (slotPlus b.slotNow 1) else if x.tokensFrom b.slotNow (slotPlus (slotPlus b.slotNow 1) (b.rd Reg.LDR_ENV_CFG)) = 0 then x else x.release (slotPlus (slotPlus b.slotNow 1) (b.rd Reg.LDR_ENV_CFG))), envFrom := AMap.set e.lid e.gslot b.ldr.envFrom } }).addTo
      Reg.LDR_PENDING placed.2).takeFrom Reg.LDR_FREE placed.2)) :=
  ⟨⟨{ State.reset with epo := { State.reset.epo with decided := true, work := [.request ⟨3, 0, 7, 0, 0, 0, [], .points [], 0, false, false⟩] } }, ⟨3, 0, 7, 0, 0, 0, [], .points [], 0, false, false⟩, [], by decide⟩,
    ⟨{ State.reset with epo := { State.reset.epo with decided := true, mode0 := .fleetRun, work := [.request ⟨3, 0, 7, 1, 0, 0, [], .points [], 0, false, false⟩], pos := [(3, ⟨10100, 10100, 0, 0, 0, YTime.zero, true⟩)] }, trk := { State.reset.trk with live := [(168066, 1)] } }, _, ⟨3, 0, 7, 1, 0, 0, [], .points [], 0, false, false⟩, [], 0, 4, [(0, 36873), (0, 36874), (0, 40969), (0, 40970)], [⟨36873, 0, 3, 1, 1, 0, true, false, none⟩, ⟨36874, 0, 3, 1, 1, 0, true, false, none⟩, ⟨40969, 0, 3, 1, 1, 0, true, false, none⟩, ⟨40970, 0, 3, 1, 1, 0, true, false, none⟩], by exact ⟨by decide, by decide, rfl, by decide, by decide, by decide, by decide, by decide, by decide, by decide⟩⟩,
    ⟨{ State.reset with epo := { State.reset.epo with decided := true, work := [.request ⟨3, 0, 7, 0, 0, 0, [], .points [], 0, false, false⟩] } }, ⟨3, 0, 7, 0, 0, 0, [], .points [], 0, false, false⟩, [], by decide⟩,
    ⟨{ State.reset with epo := { State.reset.epo with decided := true, work := [.request ⟨3, 0, 7, 0, 0, 0, [], .points [], 0, false, false⟩] } }, by decide⟩,
    ⟨{ State.reset with epo := { State.reset.epo with decided := true, mode0 := .fleetRun, work := [.release ⟨3, 0, 0, 0, 0, false⟩ 0 5] } }, ⟨3, 0, 0, 0, 0, false⟩, 0, 5, _, [], by exact ⟨by decide, by decide, by decide, by decide, by decide, rfl⟩⟩,
    ⟨{ State.reset with epo := { State.reset.epo with decided := true, mode0 := .fleetRun, work := [.envelope ⟨3, 0, true, 0, 0, 0⟩] } }, ⟨3, 0, true, 0, 0, 0⟩, [], by decide⟩,
    ⟨{ State.reset with epo := { State.reset.epo with decided := true, mode0 := .fleetRun, work := [.envelope ⟨3, 0, false, 0, 0, 0⟩] }, ldr := { State.reset.ldr with grants := [(24, ⟨⟨3, 0, 7, 0, 0, 0, [], .points [], 0, false, false⟩, 1, false⟩)] } }, _, _, ⟨3, 0, false, 0, 0, 0⟩, ⟨⟨3, 0, 7, 0, 0, 0, [], .points [], 0, false, false⟩, 1, false⟩, [], _, _, _, by exact ⟨by decide, by decide, rfl, by decide, rfl, rfl, rfl, rfl⟩⟩⟩

/-- The hypotheses of each clause of LarderMapAndAudit are met, in order. -/
theorem test_LarderMapAndAudit_met :
    (∃ (s : State), (s.Up) ∧ (s.ldrFrozen = false) ∧ (s.mode ≠ .rejoin ∨ (s.rd Reg.FJR_STATUS_REJOIN_STATE ≠ 2 ∧ s.rd
      Reg.FJR_STATUS_REJOIN_STATE ≠ 3)) ∧ (slotOf s.slotMs s.now ≠ s.slotNow))
    ∧ (∃ (s : State), (s.Up) ∧ (s.ldrFrozen = false) ∧ (s.on Reg.LDR_STATUS_SWEEPING = true))
    ∧ (∃ (s : State) (k : BitVec 23), (s.Up))
    ∧ (∃ (s : State) (k : BitVec 23), (s.Up))
    ∧ (∃ (s : State), (s.Up))
    ∧ (∃ (s : State), (s.Up))
    ∧ (∃ (s : State), (s.Up) ∧ (s.on Reg.LDR_STATUS_RECOUNTING = false))
    ∧ (∃ (s : State), (s.Up) ∧ (s.on Reg.LDR_STATUS_RECOUNTING = true))
    ∧ (∃ (s : State), (s.Up) ∧ (s.on Reg.LDR_STATUS_RECOUNTING = true) ∧ (s.mode = .hostedIdle ∧ s.ldr.runs.all (fun r => r.tokensFrom
      s.slotNow s.slotNow == 0) = true))
    ∧ (∃ (s : State), (s.Up) ∧ (s.on Reg.LDR_STATUS_RECOUNTING = true) ∧ (¬ (s.mode = .hostedIdle ∧ s.ldr.runs.all (fun r => r.tokensFrom
      s.slotNow s.slotNow == 0) = true)) ∧ (s.relationsHold = true))
    ∧ (∃ (s : State), (s.Up) ∧ (s.on Reg.LDR_STATUS_RECOUNTING = true) ∧ (¬ (s.mode = .hostedIdle ∧ s.ldr.runs.all (fun r => r.tokensFrom
      s.slotNow s.slotNow == 0) = true)) ∧ (s.relationsHold = false))
    ∧ (∃ (s : State) (c : Cmd), (s.Up) ∧ (s.Accepts c .command) ∧ (c.desc.length = 0 ∧ bits c.desc.p0.toNat 23 9 = 0) ∧ (s.mode.commits =
      false ∧ s.follows = false) ∧ (c.desc.p0.toNat < s.cellCount ∧ s.ldr.blocked.contains c.desc.p0.toNat = true))
    ∧ (∃ (s : State) (c : Cmd) (clean : Bool), (s.Up) ∧ (s.Accepts c .command) ∧ (c.desc.length = 0 ∧ bits c.desc.p0.toNat 23 9 = 0) ∧
      (s.mode.commits = true ∧ s.follows = false))
    ∧ (∃ (s : State) (c : Cmd), (s.Up) ∧ (s.Accepts c .command) ∧ (c.desc.length = 0 ∧ bits c.desc.p0.toNat 10 22 = 0 ∧ (bits c.desc.p0.toNat
      8 2 = 0 ∨ bits c.desc.p0.toNat 8 2 = 2)) ∧ (s.mode.fleet = true))
    ∧ (∃ (s : State) (c : Cmd), (s.Up) ∧ (s.Accepts c .dataOut) ∧ (c.desc.length = 80 ∧ bits c.desc.p0.toNat 23 9 = 0) ∧ (s.follows = false))
    ∧ (∃ (s : State), (s.Up) ∧ (s.isPending Reg.LDR_MAP_COMMIT_RESULT = false) ∧ (s.mode.fleet = false ∧ s.follows = false) ∧ (s.rd
      Reg.LDR_HELD = 0 ∧ s.rd Reg.LDR_PENDING = 0) ∧ (6 ≤ s.sh Reg.LDR_MAP_GEOM_WX ∧ 6 ≤ s.sh Reg.LDR_MAP_GEOM_HY ∧ s.sh Reg.LDR_MAP_GEOM_WX
      ≤ 17 ∧ s.sh Reg.LDR_MAP_GEOM_HY ≤ 17 ∧ s.sh Reg.LDR_MAP_GEOM_WX + s.sh Reg.LDR_MAP_GEOM_HY ≤ 23) ∧ (s.sh Reg.LDR_MAP_GEOM_SLOT ≠ 7 ∧
      slotLength (s.sh Reg.LDR_MAP_GEOM_SLOT) % s.epochMs = 0) ∧ (s.sh Reg.LDR_MAP_BASE_ADDR % 67108864 = 0 ∧ s.sh Reg.LDR_HOLD_BASE_ADDR %
      134217728 = 0 ∧ s.sh Reg.LDR_GRANT_BASE_ADDR % 4194304 = 0) ∧ (s.sh Reg.LDR_MAP_BASE_ADDR + 67108864 ≤ s.sh Reg.LDR_HOLD_BASE_ADDR ∧
      s.sh Reg.LDR_HOLD_BASE_ADDR + 134217728 ≤ s.sh Reg.LDR_GRANT_BASE_ADDR ∧ s.sh Reg.LDR_GRANT_BASE_ADDR + 4194304 ≤ s.board.lpddr))
    ∧ (∃ (s : State), (s.Up) ∧ (s.isPending Reg.LDR_MAP_COMMIT_RESULT = true))
    ∧ (∃ (s : State), (s.Up) ∧ (s.isPending Reg.LDR_MAP_COMMIT_RESULT = true))
    ∧ (∃ (s : State), (s.Up) ∧ (s.isPending Reg.LDR_RULES_COMMIT_RESULT = false) ∧ (s.sh Reg.LDR_REQ_CFG_MARGIN_MM ≤ 1000 ∧ s.sh
      Reg.LDR_REQ_CFG_MAX_TOKENS ≠ 0) ∧ (1 ≤ s.sh Reg.LDR_ENV_CFG ∧ s.sh Reg.LDR_ENV_CFG ≤ 62) ∧ (10 ≤ s.sh Reg.LDR_SCRUB_CFG ∧ s.sh
      Reg.LDR_SCRUB_CFG ≤ 600)) :=
  ⟨⟨State.reset.wr Reg.LDR_SLOT_NOW 7, by decide⟩,
    ⟨State.reset.wr Reg.LDR_STATUS_SWEEPING 1, by decide⟩,
    ⟨State.reset, 5, by decide⟩,
    ⟨State.reset, 5, by decide⟩,
    ⟨State.reset, by decide⟩,
    ⟨State.reset, by decide⟩,
    ⟨State.reset, by decide⟩,
    ⟨State.reset.wr Reg.LDR_STATUS_RECOUNTING 1, by decide⟩,
    ⟨{ State.reset with mode := .hostedIdle }.wr Reg.LDR_STATUS_RECOUNTING 1, by decide⟩,
    ⟨(State.reset.wr Reg.LDR_STATUS_RECOUNTING 1).wr Reg.LDR_FREE (64 * State.reset.cellCount), by decide⟩,
    ⟨(State.reset.wr Reg.LDR_STATUS_RECOUNTING 1).wr Reg.LDR_FREE 0, by decide⟩,
    ⟨{ State.reset.withCmd ⟨5, 2, 0, ⟨1, 9, 0, false, 0, 0, 0, 5, 0, 0⟩, none⟩ with mode := .survey, ldr := { State.reset.ldr with blocked := [5] } }, ⟨5, 2, 0, ⟨1, 9, 0, false, 0, 0, 0, 5, 0, 0⟩, none⟩, by decide⟩,
    ⟨{ State.reset.withCmd ⟨5, 2, 0, ⟨1, 9, 0, false, 0, 0, 0, 5, 0, 0⟩, none⟩ with mode := .fleetRun, ldr := { State.reset.ldr with blocked := [5] } }, ⟨5, 2, 0, ⟨1, 9, 0, false, 0, 0, 0, 5, 0, 0⟩, none⟩, true, by decide⟩,
    ⟨{ State.reset.withCmd ⟨5, 2, 0, ⟨2, 9, 0, false, 0, 0, 0, 5, 0, 0⟩, none⟩ with mode := .fleetRun }, ⟨5, 2, 0, ⟨2, 9, 0, false, 0, 0, 0, 5, 0, 0⟩, none⟩, by decide⟩,
    ⟨State.reset.withCmd ⟨5, 2, 0, ⟨3, 9, 0, false, 0, 80, 0, 5, 0, 0⟩, none⟩, ⟨5, 2, 0, ⟨3, 9, 0, false, 0, 80, 0, 5, 0, 0⟩, none⟩, by decide⟩,
    ⟨((((State.reset.wrShadow Reg.LDR_MAP_GEOM_WX 7).wrShadow Reg.LDR_MAP_GEOM_HY 7).wrShadow Reg.LDR_MAP_BASE_ADDR 0).wrShadow Reg.LDR_HOLD_BASE_ADDR 134217728).wrShadow Reg.LDR_GRANT_BASE_ADDR 268435456, by decide⟩,
    ⟨State.reset.setPending Reg.LDR_MAP_COMMIT_RESULT, by decide⟩,
    ⟨State.reset.setPending Reg.LDR_MAP_COMMIT_RESULT, by decide⟩,
    ⟨State.reset.wrShadow Reg.LDR_ENV_CFG 10 |>.wrShadow Reg.LDR_SCRUB_CFG 60 |>.wrShadow Reg.LDR_REQ_CFG_MAX_TOKENS 100, by decide⟩⟩

/-- The hypotheses of each clause of FleetTablesAndTasks are met, in order. -/
theorem test_FleetTablesAndTasks_met :
    (∃ (s : State), (s.Up) ∧ (s.follows = false ∧ s.mode ≠ .update) ∧ (s.isPending Reg.TRK_COMMIT_RESULT = false))
    ∧ (∃ (s : State), (s.Up) ∧ (s.follows = false ∧ s.mode ≠ .update) ∧ (s.isPending Reg.TRK_COMMIT_RESULT = true))
    ∧ (∃ (s : State), (s.Up) ∧ (s.trk.validating = true) ∧ (tablesBad s.trk.shadow = none) ∧ (s.mode.fleet = false))
    ∧ (∃ (s : State), (s.Up) ∧ (s.trk.validating = true) ∧ (tablesBad s.trk.shadow = none ∧ State.tablesConflict
      { s with trk := { s.trk with validating := false } } = none) ∧ (s.mode.fleet = true))
    ∧ (∃ (s : State) (e : Nat × Nat), (s.Up) ∧ (s.trk.validating = true) ∧ (tablesBad s.trk.shadow = some e))
    ∧ (∃ (s : State) (c : Cmd) (d : List Byte) (base size count : Nat), (s.Up) ∧ (s.Accepts c .dataIn) ∧ (s.follows = false ∧ s.isPending
      Reg.TRK_COMMIT_RESULT = false) ∧ (c.desc.p0.toNat ≤ 5 ∧ (base, size, count) = tableShape c.desc.p0.toNat) ∧ (c.desc.length.toNat %
      size = 0 ∧ c.desc.p1.toNat * size + c.desc.length.toNat ≤ size * count))
    ∧ (∃ (s : State) (c : Cmd), (s.Up) ∧ (s.Accepts c .command) ∧ (c.desc.length = 0) ∧ (s.mode.commits = true))
    ∧ (∃ (s : State) (c : Cmd), (s.Up) ∧ (s.Accepts c .command) ∧ (c.desc.length = 0) ∧ (s.mode.commits = false ∧ s.follows = false))
    ∧ (∃ (s : State) (c : Cmd), (s.Up) ∧ (s.Accepts c .dataOut) ∧ (s.follows = false) ∧ (c.desc.length.toNat % 16 = 0 ∧ bits c.desc.p0.toNat 0
      12 + c.desc.length.toNat / 16 ≤ 4096 ∧ bits c.desc.p0.toNat 12 20 = 0))
    ∧ (∃ (s : State) (c : Cmd) (r : TaskRec) (holder : Option Nat), (s.Up) ∧ (s.Accepts c .command) ∧ (s.follows = false ∧ s.mode ≠ .update ∧
      s.mode.commits = false ∧ s.on Reg.TRK_STATUS_LIVE = true) ∧ (c.desc.length = 0 ∧ bits c.desc.p0.toNat 12 4 = 0 ∧ bits c.desc.p0.toNat
      22 2 = 0 ∧ bits c.desc.p0.toNat 25 7 = 0 ∧ bits c.desc.p1.toNat 8 24 = 0) ∧ (s.taskRec (bits c.desc.p0.toNat 0 12) = some r ∧
      stateDefined s.trk.live (bits c.desc.p0.toNat 16 6) = true) ∧ (holder = (if bits c.desc.p0.toNat 24 1 = 1 then none else some (bits
      c.desc.p1.toNat 0 8))))
    ∧ (∃ (s : State) (c : Cmd), (s.Up) ∧ (s.Accepts c .command) ∧ (s.mode.commits = true) ∧ (c.desc.length = 0 ∧ bits c.desc.p0.toNat 12 4 = 0
      ∧ bits c.desc.p0.toNat 22 2 = 0 ∧ bits c.desc.p0.toNat 25 7 = 0 ∧ bits c.desc.p1.toNat 8 24 = 0))
    ∧ (∃ (s : State), (s.Up) ∧ (s.tasksAgree = true))
    ∧ (∃ (s : State) (m : Bool), (s.Up) ∧ (m = true ∨ s.tasksAgree = false))
    ∧ (∃ (s : State), (s.Up))
    ∧ (∃ (s : State), (s.Up)) :=
  ⟨⟨State.reset, by decide⟩,
    ⟨State.reset.setPending Reg.TRK_COMMIT_RESULT, by decide⟩,
    ⟨{ State.reset with trk := { State.reset.trk with validating := true } }, by decide⟩,
    ⟨{ State.reset with mode := .fleetRun, trk := { State.reset.trk with validating := true } }, by decide⟩,
    ⟨{ State.reset with trk := { State.reset.trk with validating := true, shadow := [(0, 0), (168064, 0), (168067, 256)] } }, (4, 0), by decide⟩,
    ⟨State.reset.withCmd ⟨5, 2, 0, ⟨1, 10, 0, false, 0, 32, 0, 0, 0, 0⟩, none⟩, ⟨5, 2, 0, ⟨1, 10, 0, false, 0, 32, 0, 0, 0, 0⟩, none⟩, [1, 2], 0, 32, 16384, by decide⟩,
    ⟨{ State.reset.withCmd ⟨5, 2, 0, ⟨2, 10, 0, false, 0, 0, 0, 5, 0, 0⟩, none⟩ with mode := .fleetRun }, ⟨5, 2, 0, ⟨2, 10, 0, false, 0, 0, 0, 5, 0, 0⟩, none⟩, by decide⟩,
    ⟨{ State.reset.withCmd ⟨5, 2, 0, ⟨2, 10, 0, false, 0, 0, 0, 5, 0, 0⟩, none⟩ with mode := .survey }, ⟨5, 2, 0, ⟨2, 10, 0, false, 0, 0, 0, 5, 0, 0⟩, none⟩, by decide⟩,
    ⟨State.reset.withCmd ⟨5, 2, 0, ⟨3, 10, 0, false, 0, 16, 0, 5, 0, 0⟩, none⟩, ⟨5, 2, 0, ⟨3, 10, 0, false, 0, 16, 0, 5, 0, 0⟩, none⟩, by decide⟩,
    ⟨State.wr { State.reset.withCmd ⟨5, 2, 0, ⟨4, 10, 0, false, 0, 0, 0, 0x01010005, 0, 0⟩, none⟩ with mode := .survey, trk := { State.reset.trk with tasks := [(5, ⟨0, none, false, 0, 0, 3⟩)], live := [((0xA4000 + 8) / 4, 0x01000000)] } } Reg.TRK_STATUS_LIVE 1, ⟨5, 2, 0, ⟨4, 10, 0, false, 0, 0, 0, 0x01010005, 0, 0⟩, none⟩, ⟨0, none, false, 0, 0, 3⟩, none, by decide⟩,
    ⟨{ State.reset.withCmd ⟨5, 2, 0, ⟨4, 10, 0, false, 0, 0, 0, 0x01010005, 0, 0⟩, none⟩ with mode := .fleetRun }, ⟨5, 2, 0, ⟨4, 10, 0, false, 0, 0, 0, 0x01010005, 0, 0⟩, none⟩, by decide⟩,
    ⟨State.reset, by decide⟩,
    ⟨State.reset, true, by decide⟩,
    ⟨State.reset, by decide⟩,
    ⟨State.reset, by decide⟩⟩

/-- The hypotheses of each clause of GovernorLoops are met, in order. -/
theorem test_GovernorLoops_met :
    (∃ (s u : State) (x : LoopIn) (rest : List LoopIn) (comp : YTime) (us : Word), (s.Up) ∧ (s.epo.loopQ = x :: rest) ∧ (u = State.consume
      { s with epo := { s.epo with loopQ := rest } } 40 (toWords (loopInBytes x))) ∧ (x.rsv = true ∨ x.mode.toNat > 3 ∨ s.govRuns = false))
    ∧ (∃ (s u : State) (x : LoopIn) (rest : List LoopIn) (comp : YTime) (us : Word), (s.Up) ∧ (s.epo.loopQ = x :: rest) ∧ (u = State.consume
      { s with epo := { s.epo with loopQ := rest } } 40 (toWords (loopInBytes x))) ∧ (x.mode.toNat ≤ 3 ∧ x.rsv = false ∧ s.govRuns = true))
    ∧ (∃ (s : State) (n : Fin 256) (comp : YTime), (s.Up) ∧ (s.govRuns = true ∧ s.epo.decided = true ∧ s.coastDue (s.loop n.val) = true) ∧
      ((s.epo.loopQ.any fun x => x.lid.val == n.val) = false))
    ∧ (∃ (s : State) (n : Fin 256) (comp : YTime), (s.Up) ∧ (s.govRuns = true ∧ s.epo.decided = true ∧ s.coastDue (s.loop n.val) = true) ∧
      ((s.epo.loopQ.any fun x => x.lid.val == n.val) = false) ∧ ((s.loop n.val).u = 0))
    ∧ (∃ (s : State) (n : Fin 256) (comp : YTime), (s.Up) ∧ (s.govRuns = true ∧ s.epo.decided = true ∧ s.coastDue (s.loop n.val) = false) ∧
      ((s.epo.loopQ.any fun x => x.lid.val == n.val) = false) ∧ ((s.loop n.val).mode = .coast ∨ (s.loop n.val).mode = .held ∨ (s.loop
      n.val).mode = .docked ∨ (s.loop n.val).winding = true) ∧ ((s.loop n.val).cmdEp ≠ some (s.rd Reg.GLB_EPOCH)))
    ∧ (∃ (s : State) (n : Fin 256) (comp : YTime), (s.Up) ∧ (s.govRuns = true ∧ s.epo.decided = true ∧ s.coastDue (s.loop n.val) = false) ∧
      ((s.epo.loopQ.any fun x => x.lid.val == n.val) = false) ∧ ((s.loop n.val).mode = .held ∧ (s.loop n.val).u = 0 ∧ (s.loop n.val).cmdEp =
      none ∧ (s.loop n.val).winding = false))
    ∧ (∃ (s : State) (n : Fin 256) (comp : YTime), (s.Up) ∧ (s.govRuns = true))
    ∧ (∃ (s u v : State) (p : Packet) (x : ClockIn) (kp ki : Int) (c0 : ClkLoop) (r : ClkLoop × Bool) (out : List DWord), (s.Up) ∧
      (s.nextPacket 42 = some p ∧ x = clockIn p.bytes ∧ u = s.takeAny 42) ∧ (u.curve (u.rd (Reg.GOV_CLK_KP x.loop.val))
      (((x.err.toInt.natAbs + 128) / 256 : Nat) : Int) = some kp) ∧ (u.curve (u.rd (Reg.GOV_CLK_KI x.loop.val)) (((x.err.toInt.natAbs + 128)
      / 256 : Nat) : Int) = some ki) ∧ (c0 = (if x.preset then ⟨x.ppb.toInt, x.ppb.toInt, 0⟩ else u.clkLoop x.loop.val)) ∧ (r = clkStep c0
      kp ki x.err.toInt x.t.toNat x.bound.toNat) ∧ (v = { u with gov := { u.gov with clk := AMap.set x.loop.val r.1 u.gov.clk } }) ∧ (out =
      toWords ([0x33, x.loop.val, bit r.2, 0] ++ le 4 x.seq.toNat ++ le 4 (unsigned 32 (Bf.at (r.1.u, r.1.e) (-8))) ++ le 4 0)))
    ∧ (∃ (s : State), (s.Up) ∧ (s.follows = false ∧ s.mode ≠ .update ∧ s.mode.fleet = false) ∧ (s.isPending Reg.GOV_PACE_COMMIT_RESULT =
      false) ∧ (s.paceBad = none))
    ∧ (∃ (s : State), (s.Up) ∧ (s.mode.fleet = true) ∧ (s.isPending Reg.GOV_PACE_COMMIT_RESULT = false) ∧ (s.paceBad = none))
    ∧ (∃ (s : State) (e : Nat × Nat), (s.Up) ∧ (s.follows = false ∧ s.mode ≠ .update) ∧ (s.isPending Reg.GOV_PACE_COMMIT_RESULT = false) ∧
      (s.paceBad = some e))
    ∧ (∃ (s : State), (s.Up) ∧ (s.follows = false ∧ s.mode ≠ .update) ∧ (s.isPending Reg.GOV_PACE_COMMIT_RESULT = true)) :=
  ⟨⟨{ State.reset with epo := { State.reset.epo with loopQ := [⟨3, 5, 0, 0, 0, 0, 0, 0, false, 0, YTime.zero, false⟩] } }, _, ⟨3, 5, 0, 0, 0, 0, 0, 0, false, 0, YTime.zero, false⟩, [], YTime.zero, 5, by exact ⟨by decide, rfl, rfl, by decide⟩⟩,
    ⟨{ State.reset with mode := .fleetRun, epo := { State.reset.epo with loopQ := [⟨3, 1, 0, 0, 0, 0, 0, 0, false, 0, YTime.zero, false⟩] } }, _, ⟨3, 1, 0, 0, 0, 0, 0, 0, false, 0, YTime.zero, false⟩, [], YTime.zero, 5, by exact ⟨by decide, rfl, rfl, by decide⟩⟩,
    ⟨{ State.reset with mode := .fleetRun, epo := { State.reset.epo with decided := true }, gov := { State.reset.gov with loops := [(3, { Loop.fresh with mode := .track })] } }.wr Reg.GLB_EPOCH 100000, 3, YTime.zero, by decide⟩,
    ⟨{ State.reset with mode := .fleetRun, epo := { State.reset.epo with decided := true }, gov := { State.reset.gov with loops := [(3, { Loop.fresh with mode := .track })] } }.wr Reg.GLB_EPOCH 100000, 3, YTime.zero, by decide⟩,
    ⟨{ State.reset with mode := .fleetRun, epo := { State.reset.epo with decided := true }, gov := { State.reset.gov with loops := [(3, { Loop.fresh with mode := .held })] } }, 3, YTime.zero, by decide⟩,
    ⟨{ State.reset with mode := .fleetRun, epo := { State.reset.epo with decided := true }, gov := { State.reset.gov with loops := [(3, { Loop.fresh with mode := .held })] } }, 3, YTime.zero, by decide⟩,
    ⟨{ State.reset with mode := .fleetRun }, 3, YTime.zero, by decide⟩,
    ⟨State.putPacket ({ State.reset with gov := { State.reset.gov with live := [(1024, 0x101)] } }.wrEach [(Reg.GOV_CLK_KP 0, 0), (Reg.GOV_CLK_KI 0, 0)]) 42 0 none (toWords (0 :: List.replicate 23 0)), _, _, ⟨0, toWords (0 :: List.replicate 23 0), 1, none, none⟩, _, 0, 0, _, _, _, by exact ⟨by decide, ⟨by decide, rfl, rfl⟩, by decide, by decide, rfl, rfl, rfl, rfl⟩⟩,
    ⟨State.reset.wrShadow Reg.GOV_CFG_LOOP_MS 200 |>.wrShadow Reg.GOV_CFG_DOCK_TOL_MM 10, by decide⟩,
    ⟨State.wrShadow (State.wrShadow { State.reset with mode := .fleetRun } Reg.GOV_CFG_LOOP_MS 200) Reg.GOV_CFG_DOCK_TOL_MM 10, by decide⟩,
    ⟨State.wrShadow State.reset Reg.GOV_CFG_LOOP_MS 7, (5, 0), by decide⟩,
    ⟨State.reset.setPending Reg.GOV_PACE_COMMIT_RESULT, by decide⟩⟩

/-- The hypotheses of each clause of TrapdoorInputs are met, in order. -/
theorem test_TrapdoorInputs_met :
    (∃ (s : State) (b : Bool), (s.Up))
    ∧ (∃ (s : State) (b : Bool), (s.coreOn = true) ∧ ((s.mode.main && s.pwr.mainPowered) = false))
    ∧ (∃ (s : State) (b : Bool), (s.coreOn = true) ∧ (s.on (stopIn (!b)) = false))
    ∧ (∃ (s u : State) (b : Bool), (s.coreOn = true) ∧ (s.on (stopIn (!b)) = true) ∧ (u = (fun (y : State) =>
      { y with trp := { y.trp with bothOpen := false } }) (s.wr (stopIn b) 1)))
    ∧ (∃ (s : State), (s.Up) ∧ ((s.on Reg.TRP_STATUS_IN_A == s.on Reg.TRP_STATUS_IN_B) = false))
    ∧ (∃ (s : State), (s.Up) ∧ (s.pwr.pfailLatched = false))
    ∧ (∃ (s : State), (s.Up) ∧ (s.pwr.pfailLatched = true))
    ∧ (∃ (s : State), (s.Up))
    ∧ (∃ (s : State), (s.Up))
    ∧ (∃ (s : State), (s.Up))
    ∧ (∃ (s : State), (s.Up))
    ∧ (∃ (s : State), (s.Up) ∧ (s.stopSourcesClear = true) ∧ (s.trp.latch = true ∧ s.trp.armBlocked = false))
    ∧ (∃ (s u : State) (b : Bool), (s.Up) ∧ (u = (fun (y : State) =>
      { y with trp := { y.trp with arm := some s.localArm, armBlocked := s.trp.armBlocked && !b } }) (s.wr Reg.TRP_STATUS_ARM_LEVEL 1)) ∧
      ((s.trp.armBlocked && !b) = true ∨ s.stopSourcesClear = false ∨ (s.localArm = true ∧ s.trp.latch = false)))
    ∧ (∃ (s : State), (s.Up) ∧ (s.stopSourcesClear = true) ∧ (s.trp.arm = some false))
    ∧ (∃ (s : State), (s.Up) ∧ (s.stopSourcesClear = true) ∧ (s.trp.arm = some true))
    ∧ (∃ (s : State) (b a : Bool), (s.Up) ∧ (s.trp.arm = some a) ∧ (b = false ∨ s.stopSourcesClear = false))
    ∧ (∃ (s : State) (a : Bool), (s.Up) ∧ (s.trp.arm = some a))
    ∧ (∃ (s : State), (s.Up))
    ∧ (∃ (s : State), (s.Up) ∧ (s.rd Reg.TRP_CFG_PROOF_DAYS ≤ s.demandDays) ∧ (s.on Reg.TRP_STATUS_PROOF_DUE = false)) :=
  ⟨⟨State.reset, true, by decide⟩,
    ⟨{ State.reset with mode := .dormerWatch }, true, by decide⟩,
    ⟨State.reset.wr Reg.TRP_STATUS_IN_B 0, false, by decide⟩,
    ⟨(State.reset.wr Reg.TRP_STATUS_IN_B 1).wr Reg.TRP_STATUS_DISC_COND 1, _, false, by exact ⟨by decide, by decide, rfl⟩⟩,
    ⟨State.reset.wr Reg.TRP_STATUS_IN_A 1 |>.wr Reg.TRP_STATUS_IN_B 0, by decide⟩,
    ⟨State.reset, by decide⟩,
    ⟨{ State.reset with pwr := { State.reset.pwr with pfailLatched := true } }, by decide⟩,
    ⟨State.reset, by decide⟩,
    ⟨State.reset, by decide⟩,
    ⟨State.reset, by decide⟩,
    ⟨State.reset, by decide⟩,
    ⟨{ State.reset with trp := { State.reset.trp with latch := true } }.wr Reg.TRP_STATUS_IN_A 1 |>.wr Reg.TRP_STATUS_IN_B 1, by decide⟩,
    ⟨State.reset.wr Reg.TRP_STATUS_IN_A 0, _, false, by exact ⟨by decide, rfl, by decide⟩⟩,
    ⟨{ State.reset with trp := { State.reset.trp with arm := some false } }.wr Reg.TRP_STATUS_IN_A 1 |>.wr Reg.TRP_STATUS_IN_B 1, by decide⟩,
    ⟨{ State.reset with trp := { State.reset.trp with arm := some true } }.wr Reg.TRP_STATUS_IN_A 1 |>.wr Reg.TRP_STATUS_IN_B 1, by decide⟩,
    ⟨{ State.reset with trp := { State.reset.trp with arm := some false } }, false, false, by decide⟩,
    ⟨{ State.reset with trp := { State.reset.trp with arm := some true } }, true, by decide⟩,
    ⟨State.reset, by decide⟩,
    ⟨State.wr { State.reset with trp := { State.reset.trp with demandAt := 0 } } Reg.TLY_MONO 99999999, by decide⟩⟩

/-- The hypotheses of each clause of TrapdoorRestrictions are met, in order. -/
theorem test_TrapdoorRestrictions_met :
    (∃ (s : State) (q : RestrictReq) (f : Fld), (s.Up) ∧ ((q, f) ∈ [(.overrun, Reg.TRP_HOLD_CAUSE_OVERRUN), (.audit,
      Reg.TRP_HOLD_CAUSE_AUDIT), (.taskAudit, Reg.TRP_HOLD_CAUSE_TASK_AUDIT), (.tableEcc, Reg.TRP_HOLD_CAUSE_TABLE_ECC), (.hostLoss,
      Reg.TRP_HOLD_CAUSE_HOST_LOSS), (.twinMismatch, Reg.TRP_HOLD_CAUSE_TWIN_MISMATCH), (.memEcc, Reg.TRP_HOLD_CAUSE_MEM_ECC), (.pfail,
      Reg.TRP_HOLD_CAUSE_PFAIL)]))
    ∧ (∃ (s : State), (s.Up))
    ∧ (∃ (s : State) (q : RestrictReq) (r : Fin 256) (f : Fld), (s.Up) ∧ ((q = .integrity r ∧ f = Reg.TRP_ROBOT_INTEGRITY r.val) ∨ (q = .coast
      r ∧ f = Reg.TRP_ROBOT_COAST r.val) ∨ (q = .mapLost r ∧ f = Reg.TRP_ROBOT_MAP_LOST r.val)))
    ∧ (∃ (s : State) (q : RestrictReq) (r : Fin 256) (f : Fld), (s.Up) ∧ ((q = .loopLost r ∧ f = Reg.TRP_ROBOT_LOOP_LOST r.val) ∨ (q =
      .envelope r ∧ f = Reg.TRP_ROBOT_ENVELOPE r.val)))
    ∧ (∃ (s : State) (r : TrapRepeat) (rest : List TrapRepeat), (s.Up) ∧ (s.trp.repeats = r :: rest))
    ∧ (∃ (s : State), (s.Up) ∧ (s.on Reg.CLK_ADMIT_STATUS_BEACON_ON = false ∨ s.follows = true ∨ s.mute = true))
    ∧ (∃ (s b u m w : State) (f : List Nat) (time : YTime), (s.Up) ∧ (s.on Reg.CLK_ADMIT_STATUS_BEACON_ON = true ∧ s.follows = false ∧ s.mute
      = false ∧ s.pwr.pdown = none) ∧ (time = nextAt 100 s.now s.trp.beaconAt ∧ b = (fun (a : State) =>
      { a with trp := { a.trp with beaconAt := some time } }) (s.advance time)) ∧ (b.broadcast 0x10 (b.beaconBody time) = (some f, u)) ∧ (m
      = (if u.twn.mirrored then u.linkSend 0x17 f else u)) ∧ (w = ((m.sendLan 0 f).sendLan 1 f).sendRadio 6 f))
    ∧ (∃ (s : State) (c : Cmd) (d : List Byte), (s.Up) ∧ (s.Accepts c .command) ∧ (c.desc.length = 32) ∧ (trapBad d 1 = false ∧ s.trapTagOk d
      = true ∧ later (leAt d 4 4) (s.rd Reg.TRP_CMD_SEQ) = true))
    ∧ (∃ (s : State) (c : Cmd) (d : List Byte), (s.Up) ∧ (s.Accepts c .command) ∧ (c.desc.length = 32) ∧ (trapBad d 2 = false ∧ s.trapTagOk d
      = true ∧ later (leAt d 4 4) (s.rd Reg.TRP_CMD_SEQ) = true))
    ∧ (∃ (s : State) (c : Cmd) (d : List Byte), (s.Up) ∧ (s.Accepts c .command) ∧ (c.desc.length = 32) ∧ (trapBad d 3 = false ∧ s.trapTagOk d
      = true ∧ later (leAt d 4 4) (s.rd Reg.TRP_CMD_SEQ) = true) ∧ (s.mode.fleet = true))
    ∧ (∃ (s : State) (c : Cmd) (d : List Byte), (s.Up) ∧ (s.Accepts c .command) ∧ (c.desc.length = 32) ∧ (trapBad d 4 = false ∧ s.trapTagOk d
      = true ∧ later (leAt d 4 4) (s.rd Reg.TRP_CMD_SEQ) = true) ∧ (s.mode.commits = false ∧ s.follows = false) ∧ (s.on Reg.TRP_STATUS_ARMED
      = true ∧ s.stopSourcesClear = true ∧ s.trp.fleet = .stop))
    ∧ (∃ (s : State) (c : Cmd) (d : List Byte), (s.Up) ∧ (s.Accepts c .command) ∧ (c.desc.length = 32) ∧ (trapBad d 4 = false ∧ s.trapTagOk d
      = true ∧ later (leAt d 4 4) (s.rd Reg.TRP_CMD_SEQ) = true) ∧ (s.mode.commits = true ∧ (s.mode = .faultSafe → s.pwr.core = false)) ∧
      (s.on Reg.TRP_STATUS_ARMED = true))
    ∧ (∃ (s : State) (c : Cmd) (d : List Byte), (s.Up) ∧ (s.Accepts c .command) ∧ (c.desc.length = 32) ∧ (trapBad d 5 = false ∧ s.trapTagOk d
      = true ∧ later (leAt d 4 4) (s.rd Reg.TRP_CMD_SEQ) = true))
    ∧ (∃ (s : State) (c : Cmd) (d : List Byte), (s.Up) ∧ (s.Accepts c .command) ∧ (c.desc.length = 32) ∧ (trapBad d 6 = false ∧ s.trapTagOk d
      = true ∧ later (leAt d 4 4) (s.rd Reg.TRP_CMD_SEQ) = true))
    ∧ (∃ (s : State) (c : Cmd) (d : List Byte), (s.Up) ∧ (s.Accepts c .command) ∧ (c.desc.length = 32) ∧ (trapBad d 7 = false ∧ s.trapTagOk d
      = true ∧ later (leAt d 4 4) (s.rd Reg.TRP_CMD_SEQ) = true) ∧ (s.mode.commits = false ∧ s.follows = false) ∧ (s.robotGoConflict (byteAt
      d 2) = false))
    ∧ (∃ (s : State) (c : Cmd) (d : List Byte), (s.Up) ∧ (s.Accepts c .command) ∧ (c.desc.length = 32) ∧ (trapBad d 7 = false ∧ s.trapTagOk d
      = true ∧ later (leAt d 4 4) (s.rd Reg.TRP_CMD_SEQ) = true) ∧ (s.mode.commits = true))
    ∧ (∃ (s : State) (c : Cmd) (d : List Byte), (s.Up) ∧ (s.Accepts c .command) ∧ (c.desc.length = 32) ∧ (trapBad d 1 = false ∧ s.trapTagOk d
      = false))
    ∧ (∃ (s : State), (s.Up) ∧ (s.mode.fleet = false ∧ s.follows = false) ∧ (10 ≤ s.sh Reg.TRP_CFG_DISC_TIME ∧ 25 ≤ s.sh
      Reg.TRP_CFG_BEACON_TIMEOUT ∧ s.sh Reg.TRP_CFG_BEACON_TIMEOUT ≤ 100 ∧ 5 ≤ s.sh Reg.TRP_CFG_ARM_WINDOW ∧ s.sh Reg.TRP_CFG_ARM_WINDOW ≤
      120 ∧ 0 < s.sh Reg.TRP_CFG_PROOF_DAYS)) :=
  ⟨⟨{ State.reset with trp := { State.reset.trp with fleet := .go } }, .overrun, Reg.TRP_HOLD_CAUSE_OVERRUN, by decide⟩,
    ⟨State.reset, by decide⟩,
    ⟨State.reset, .coast 3, 3, Reg.TRP_ROBOT_COAST 3, by exact ⟨by decide, Or.inr (Or.inl ⟨rfl, rfl⟩)⟩⟩,
    ⟨State.reset, .loopLost 3, 3, Reg.TRP_ROBOT_LOOP_LOST 3, by exact ⟨by decide, Or.inl ⟨rfl, rfl⟩⟩⟩,
    ⟨{ State.reset with trp := { State.reset.trp with repeats := [⟨[], 3⟩] } }, ⟨[], 3⟩, [], by decide⟩,
    ⟨State.reset, by decide⟩,
    ⟨(State.wr { State.reset with twn := { State.reset.twn with mirrored := false } } Reg.CLK_ADMIT_STATUS_BEACON_ON 1), _, (State.broadcast ((fun (a : State) => { a with trp := { a.trp with beaconAt := some (nextAt 100 (State.wr { State.reset with twn := { State.reset.twn with mirrored := false } } Reg.CLK_ADMIT_STATUS_BEACON_ON 1).now (State.wr { State.reset with twn := { State.reset.twn with mirrored := false } } Reg.CLK_ADMIT_STATUS_BEACON_ON 1).trp.beaconAt) } }) (State.advance (State.wr { State.reset with twn := { State.reset.twn with mirrored := false } } Reg.CLK_ADMIT_STATUS_BEACON_ON 1) (nextAt 100 (State.wr { State.reset with twn := { State.reset.twn with mirrored := false } } Reg.CLK_ADMIT_STATUS_BEACON_ON 1).now (State.wr { State.reset with twn := { State.reset.twn with mirrored := false } } Reg.CLK_ADMIT_STATUS_BEACON_ON 1).trp.beaconAt))) 0x10 (State.beaconBody ((fun (a : State) => { a with trp := { a.trp with beaconAt := some (nextAt 100 (State.wr { State.reset with twn := { State.reset.twn with mirrored := false } } Reg.CLK_ADMIT_STATUS_BEACON_ON 1).now (State.wr { State.reset with twn := { State.reset.twn with mirrored := false } } Reg.CLK_ADMIT_STATUS_BEACON_ON 1).trp.beaconAt) } }) (State.advance (State.wr { State.reset with twn := { State.reset.twn with mirrored := false } } Reg.CLK_ADMIT_STATUS_BEACON_ON 1) (nextAt 100 (State.wr { State.reset with twn := { State.reset.twn with mirrored := false } } Reg.CLK_ADMIT_STATUS_BEACON_ON 1).now (State.wr { State.reset with twn := { State.reset.twn with mirrored := false } } Reg.CLK_ADMIT_STATUS_BEACON_ON 1).trp.beaconAt))) (nextAt 100 (State.wr { State.reset with twn := { State.reset.twn with mirrored := false } } Reg.CLK_ADMIT_STATUS_BEACON_ON 1).now (State.wr { State.reset with twn := { State.reset.twn with mirrored := false } } Reg.CLK_ADMIT_STATUS_BEACON_ON 1).trp.beaconAt))).2, _, _, (State.broadcast ((fun (a : State) => { a with trp := { a.trp with beaconAt := some (nextAt 100 (State.wr { State.reset with twn := { State.reset.twn with mirrored := false } } Reg.CLK_ADMIT_STATUS_BEACON_ON 1).now (State.wr { State.reset with twn := { State.reset.twn with mirrored := false } } Reg.CLK_ADMIT_STATUS_BEACON_ON 1).trp.beaconAt) } }) (State.advance (State.wr { State.reset with twn := { State.reset.twn with mirrored := false } } Reg.CLK_ADMIT_STATUS_BEACON_ON 1) (nextAt 100 (State.wr { State.reset with twn := { State.reset.twn with mirrored := false } } Reg.CLK_ADMIT_STATUS_BEACON_ON 1).now (State.wr { State.reset with twn := { State.reset.twn with mirrored := false } } Reg.CLK_ADMIT_STATUS_BEACON_ON 1).trp.beaconAt))) 0x10 (State.beaconBody ((fun (a : State) => { a with trp := { a.trp with beaconAt := some (nextAt 100 (State.wr { State.reset with twn := { State.reset.twn with mirrored := false } } Reg.CLK_ADMIT_STATUS_BEACON_ON 1).now (State.wr { State.reset with twn := { State.reset.twn with mirrored := false } } Reg.CLK_ADMIT_STATUS_BEACON_ON 1).trp.beaconAt) } }) (State.advance (State.wr { State.reset with twn := { State.reset.twn with mirrored := false } } Reg.CLK_ADMIT_STATUS_BEACON_ON 1) (nextAt 100 (State.wr { State.reset with twn := { State.reset.twn with mirrored := false } } Reg.CLK_ADMIT_STATUS_BEACON_ON 1).now (State.wr { State.reset with twn := { State.reset.twn with mirrored := false } } Reg.CLK_ADMIT_STATUS_BEACON_ON 1).trp.beaconAt))) (nextAt 100 (State.wr { State.reset with twn := { State.reset.twn with mirrored := false } } Reg.CLK_ADMIT_STATUS_BEACON_ON 1).now (State.wr { State.reset with twn := { State.reset.twn with mirrored := false } } Reg.CLK_ADMIT_STATUS_BEACON_ON 1).trp.beaconAt))).1.getD [], _, by refine ⟨by decide, by decide, ⟨rfl, rfl⟩, rfl, rfl, rfl⟩⟩,
    ⟨{ (State.reset.withKey 8 4 5).withCmd ⟨5, 2, 0, ⟨3, 12, 0, false, 0, 32, 0, 0, 0, 0⟩, none⟩ with trp := { State.reset.trp with fleet := .go } }, ⟨5, 2, 0, ⟨3, 12, 0, false, 0, 32, 0, 0, 0, 0⟩, none⟩, trapData 1 0 5, by refine ⟨by decide, by decide, by decide, ⟨by decide, trapData_ok (k := 5) (by decide) (by decide) (by decide), by decide⟩⟩⟩,
    ⟨(State.reset.withKey 8 4 5).withCmd ⟨5, 2, 0, ⟨3, 12, 0, false, 0, 32, 0, 0, 0, 0⟩, none⟩, ⟨5, 2, 0, ⟨3, 12, 0, false, 0, 32, 0, 0, 0, 0⟩, none⟩, trapData 2 0 5, by refine ⟨by decide, by decide, by decide, ⟨by decide, trapData_ok (k := 5) (by decide) (by decide) (by decide), by decide⟩⟩⟩,
    ⟨{ (State.reset.withKey 8 4 5).withCmd ⟨5, 2, 0, ⟨3, 12, 0, false, 0, 32, 0, 0, 0, 0⟩, none⟩ with mode := .fleetHold }, ⟨5, 2, 0, ⟨3, 12, 0, false, 0, 32, 0, 0, 0, 0⟩, none⟩, trapData 3 0 5, by refine ⟨by decide, by decide, by decide, ⟨by decide, trapData_ok (k := 5) (by decide) (by decide) (by decide), by decide⟩, by decide⟩⟩,
    ⟨{ (State.reset.withKey 8 4 5).withCmd ⟨5, 2, 0, ⟨3, 12, 0, false, 0, 32, 0, 0, 0, 0⟩, none⟩ with mode := .pantry, trp := { State.reset.trp with fleet := .stop } }.wr Reg.TRP_STATUS_IN_A 1 |>.wr Reg.TRP_STATUS_IN_B 1 |>.wr Reg.TRP_STATUS_ARMED 1, ⟨5, 2, 0, ⟨3, 12, 0, false, 0, 32, 0, 0, 0, 0⟩, none⟩, trapData 4 0 5, by refine ⟨by decide, by decide, by decide, ⟨by decide, trapData_ok (k := 5) (by decide) (by decide) (by decide), by decide⟩, by decide, by decide⟩⟩,
    ⟨{ (State.reset.withKey 8 4 5).withCmd ⟨5, 2, 0, ⟨3, 12, 0, false, 0, 32, 0, 0, 0, 0⟩, none⟩ with mode := .fleetHold }.wr Reg.TRP_STATUS_ARMED 1, ⟨5, 2, 0, ⟨3, 12, 0, false, 0, 32, 0, 0, 0, 0⟩, none⟩, trapData 4 0 5, by refine ⟨by decide, by decide, by decide, ⟨by decide, trapData_ok (k := 5) (by decide) (by decide) (by decide), by decide⟩, by decide, by decide⟩⟩,
    ⟨(State.reset.withKey 8 4 5).withCmd ⟨5, 2, 0, ⟨3, 12, 0, false, 0, 32, 0, 0, 0, 0⟩, none⟩, ⟨5, 2, 0, ⟨3, 12, 0, false, 0, 32, 0, 0, 0, 0⟩, none⟩, trapData 5 7 5, by refine ⟨by decide, by decide, by decide, ⟨by decide, trapData_ok (k := 5) (by decide) (by decide) (by decide), by decide⟩⟩⟩,
    ⟨(State.reset.withKey 8 4 5).withCmd ⟨5, 2, 0, ⟨3, 12, 0, false, 0, 32, 0, 0, 0, 0⟩, none⟩, ⟨5, 2, 0, ⟨3, 12, 0, false, 0, 32, 0, 0, 0, 0⟩, none⟩, trapData 6 7 5, by refine ⟨by decide, by decide, by decide, ⟨by decide, trapData_ok (k := 5) (by decide) (by decide) (by decide), by decide⟩⟩⟩,
    ⟨{ (State.reset.withKey 8 4 5).withCmd ⟨5, 2, 0, ⟨3, 12, 0, false, 0, 32, 0, 0, 0, 0⟩, none⟩ with mode := .pantry }, ⟨5, 2, 0, ⟨3, 12, 0, false, 0, 32, 0, 0, 0, 0⟩, none⟩, trapData 7 7 5, by refine ⟨by decide, by decide, by decide, ⟨by decide, trapData_ok (k := 5) (by decide) (by decide) (by decide), by decide⟩, by decide, by decide⟩⟩,
    ⟨{ (State.reset.withKey 8 4 5).withCmd ⟨5, 2, 0, ⟨3, 12, 0, false, 0, 32, 0, 0, 0, 0⟩, none⟩ with mode := .fleetHold }, ⟨5, 2, 0, ⟨3, 12, 0, false, 0, 32, 0, 0, 0, 0⟩, none⟩, trapData 7 7 5, by refine ⟨by decide, by decide, by decide, ⟨by decide, trapData_ok (k := 5) (by decide) (by decide) (by decide), by decide⟩, by decide⟩⟩,
    ⟨State.reset.withCmd ⟨5, 2, 0, ⟨3, 12, 0, false, 0, 32, 0, 0, 0, 0⟩, none⟩, ⟨5, 2, 0, ⟨3, 12, 0, false, 0, 32, 0, 0, 0, 0⟩, none⟩, [1, 1, 0, 0, 1, 0, 0, 0, 0, 0, 0, 0, 0, 0, 0, 0], by decide⟩,
    ⟨State.reset.wrEach [(Reg.TRP_CFG_DISC_TIME, 20), (Reg.TRP_CFG_BEACON_TIMEOUT, 50), (Reg.TRP_CFG_ARM_WINDOW, 30), (Reg.TRP_CFG_PROOF_DAYS, 90)], by decide⟩⟩

/-- The hypotheses of each clause of DormerWatch are met, in order. -/
theorem test_DormerWatch_met :
    (∃ (s : State) (f : Fld), (drmOwn f.key = true))
    ∧ (∃ (s a b u : State) (n tick : Nat) (reading time : CalTime) (raw : List (BitVec 12)) (rules : List Nat), (s.aonOn = true) ∧ (tick =
      s.drm.tick + max 1 n ∧ time = { reading with sec := max reading.sec s.tim.cal }) ∧ (a = (State.applyChan (State.vbatSeconds
      { s with drm := { s.drm with tick := tick } } (time.sec - s.tim.cal))).applyRules time) ∧ (b = (if a.on
      Reg.CLK_SRC_STATUS_XTAL32_FALLBACK && !a.on Reg.DRM_FAULT_SLOW_CLOCK then a.fault Reg.DRM_FAULT_SLOW_CLOCK else a).wr
      Reg.DRM_STATUS_ON_LPRC32 (a.rd Reg.CLK_SRC_STATUS_XTAL32_FALLBACK)) ∧ (u = ((List.range 16).filter (b.chDue tick)).foldl (fun (x :
      State) k => x.sampleCh raw k) b) ∧ (rules = (List.range 64).filter (fun r => ruleBits u.drm.rules r 0 0 1 == 1 && ((List.range
      16).filter (b.chDue tick)).contains (ruleSrc u.drm.rules r) && (u.drmCh (ruleSrc u.drm.rules r)).valid)))
    ∧ (∃ (s : State) (k n : Nat) (time : CalTime) (raw : List (BitVec 12)), (s.aonOn = true) ∧ (s.drm.chanNext = none ∧ s.drm.rulesNext =
      none) ∧ (∀ r < 64, ruleBits s.drm.rules r 0 0 1 = 0) ∧ (s.on Reg.CLK_SRC_STATUS_XTAL32_FALLBACK = false) ∧ (n < 16 ∧ s.chDue
      (s.drm.tick + max 1 k) n = true))
    ∧ (∃ (s : State) (e : DrmEvent) (rest : List DrmEvent), (s.Up) ∧ (s.drm.queue = e :: rest) ∧ (s.fits 46 (toWords e.bytes) = true ∧ s.fits
      47 (toWords e.bytes) = true))
    ∧ (∃ (s : State), (s.Up) ∧ (∀ n < 16, s.sh (Reg.DRM_CH_CFG_P n) ≤ 10))
    ∧ (∃ (s : State) (n : Nat), (s.Up) ∧ (n < 16 ∧ 10 < s.sh (Reg.DRM_CH_CFG_P n)))
    ∧ (∃ (s : State), (s.Up) ∧ (∀ r < 64, ruleBad s.drm.rulesSh r = false))
    ∧ (∃ (s : State) (n : Nat), (s.Up) ∧ (n < 64 ∧ ruleBad s.drm.rulesSh n = true)) :=
  ⟨⟨State.reset, Reg.DRM_EVENTS, by decide⟩,
    ⟨State.reset.wr (Reg.DRM_CH_CFG_EN 3) 1, _, _, _, 0, _, ⟨0, 0⟩, _, [1, 2, 3, 4], _, by exact ⟨by decide, ⟨rfl, rfl⟩, rfl, rfl, rfl, rfl⟩⟩,
    ⟨State.reset.wr Reg.CLK_SRC_STATUS_XTAL32_FALLBACK 0 |>.wr (Reg.DRM_CH_CFG_EN 3) 1, 0, 3, ⟨0, 0⟩, [1, 2, 3, 4], by decide⟩,
    ⟨{ State.reset with drm := { State.reset.drm with queue := [⟨1, 1, 2, 3, ⟨4, 5⟩, false, false⟩] } }, ⟨1, 1, 2, 3, ⟨4, 5⟩, false, false⟩, [], by decide⟩,
    ⟨State.reset, by decide⟩,
    ⟨State.reset.wrShadow (Reg.DRM_CH_CFG_P 3) 11, 3, by decide⟩,
    ⟨State.reset, by decide⟩,
    ⟨{ State.reset with drm := { State.reset.drm with rulesSh := [(12, 16)] } }, 3, by decide⟩⟩

/-- The hypotheses of each clause of ZypReceiving are met, in order. -/
theorem test_ZypReceiving_met :
    (∃ (s r : State) (p : Fin 3) (e : Endpoint) (f : List Byte) (lid k : Nat) (w : Window), (s.Up) ∧ (s.pwr.lanOpen = true ∧ 45 ≤ f.length ∧
      f.length ≤ 1472 ∧ s.zypHeaderBad p.val f = false) ∧ (s.on Reg.CLK_ADMIT_STATUS_BOOT_DONE = true ∨ ((List.range 4).map fun j =>
      (s.chute (4 * p.val + j)).pkts.length).sum < 16) ∧ (s.offerFrom (4 * p.val) 0 (s.lidOf (leAt f 4 4)) (toWords (f.map BitVec.toNat)) =
      (r, true)) ∧ (s.lidOf (leAt f 4 4) = some lid ∧ s.life = 2 ∧ s.robotKey (leAt f 4 4) = some k) ∧ (gcmTag k (zypNonce (byteAt f 1) 0
      (leAt f 4 4) (leAt f 12 4) (leAt f 16 4)) ((f.take (f.length - 16)).map BitVec.toNat) = (f.drop (f.length - 16)).map BitVec.toNat) ∧
      (judgeWindow (AMap.find (lid * 16 + byteAt f 1) s.zyp.windows) (leAt f 12 4) (leAt f 16 4) = (.fresh, w)) ∧ (leAt f 24 4 = s.rd
      Reg.LNA_ZYP_BOOT ∧ later (leAt f 20 4) (s.rd Reg.GLB_EPOCH) = false ∧ later ((s.rd Reg.GLB_EPOCH + 4294967296 - s.rd
      Reg.LNA_ZYP_PORT_EPOCH_AGE) % 4294967296) (leAt f 20 4) = false))
    ∧ (∃ (s : State) (p : Fin 3) (e : Endpoint) (f : List Byte), (s.Up) ∧ (s.pwr.lanOpen = false ∧ p.val ≠ 2))
    ∧ (∃ (s : State) (p : Fin 3) (e : Endpoint) (f : List Byte), (s.Up) ∧ (s.pwr.lanOpen = true ∨ p.val = 2) ∧ (f.length < 45 ∨ f.length > (if
      p.val = 2 then 640 else 1472) ∨ s.zypHeaderBad p.val f = true))
    ∧ (∃ (s u : State) (o : OwnFrame) (rest : List OwnFrame) (b : List Byte), (s.Up) ∧ (s.zyp.statusIn = o :: rest ∧ b = (o.bytes.drop
      28).take (o.bytes.length - 44)) ∧ (u = { s with zyp := { s.zyp with statusIn := rest } }) ∧ ((AMap.find o.lid s.zyp.roster).isSome =
      true) ∧ (b.length = 32 ∧ byteAt b 0 ≤ 5 ∧ byteAt b 1 < 32 ∧ (byteAt b 2 ≤ 100 ∨ byteAt b 2 = 255) ∧ byteAt b 3 = 0 ∧ leAt b 18 4 <
      1000000000 ∧ leAt b 28 4 = 0))
    ∧ (∃ (s u : State) (o : OwnFrame) (rest : List OwnFrame) (b : List Byte), (s.Up) ∧ (s.zyp.statusIn = o :: rest ∧ b = (o.bytes.drop
      28).take (o.bytes.length - 44)) ∧ (u = { s with zyp := { s.zyp with statusIn := rest } }) ∧ ((AMap.find o.lid s.zyp.roster).isSome =
      true) ∧ (b.length = 32 ∧ (byteAt b 0 > 5 ∨ byteAt b 1 ≥ 32 ∨ (byteAt b 2 > 100 ∧ byteAt b 2 ≠ 255) ∨ byteAt b 3 ≠ 0 ∨ leAt b 18 4 ≥
      1000000000 ∨ leAt b 28 4 ≠ 0)))
    ∧ (∃ (s : State) (a : Nat) (op : RobotOp) (q : ReqPkt) (rest : List (Nat × RobotOp)), (s.Up) ∧ (s.epo.opened = true ∧ s.epo.released =
      true ∧ s.epo.snapped = true ∧ s.epo.decided = false) ∧ (s.prepare.epo.ops = (a, op) :: rest ∧ op.body = .request q) ∧ (∀ x l,
      s.prepare.epo.taken.drop s.prepare.epo.hostDone = x :: l → laterEq x.adm a = true))
    ∧ (∃ (s : State) (a : Nat) (op : RobotOp) (q : RelPkt) (rest : List (Nat × RobotOp)), (s.Up) ∧ (s.epo.opened = true ∧ s.epo.released =
      true ∧ s.epo.snapped = true ∧ s.epo.decided = false) ∧ (s.prepare.epo.ops = (a, op) :: rest ∧ op.body = .release q) ∧ (∀ x l,
      s.prepare.epo.taken.drop s.prepare.epo.hostDone = x :: l → laterEq x.adm a = true))
    ∧ (∃ (s : State) (a : Nat) (op : RobotOp) (q : TaskEv) (rest : List (Nat × RobotOp)), (s.Up) ∧ (s.epo.opened = true ∧ s.epo.released =
      true ∧ s.epo.snapped = true ∧ s.epo.decided = false) ∧ (s.prepare.epo.ops = (a, op) :: rest ∧ op.body = .event q) ∧ (∀ x l,
      s.prepare.epo.taken.drop s.prepare.epo.hostDone = x :: l → laterEq x.adm a = true)) :=
  ⟨⟨zypWitness, zypWitness.putPacket 0 0 (some 3) (toWords ((zypFrame (Config.hkdf 5 [] (ascii "ZY robot" ++ le 4 9))).map BitVec.toNat)), 0, ⟨0x0A000002, 5000⟩, zypFrame (Config.hkdf 5 [] (ascii "ZY robot" ++ le 4 9)), 3, Config.hkdf 5 [] (ascii "ZY robot" ++ le 4 9), ⟨0, 0, [0]⟩, by refine ⟨by decide, ⟨by decide, by decide, by decide, by rfl⟩, .inr (by decide), by rfl, ⟨by rfl, by decide, by rfl⟩, zypFrame_tag _, by rfl, by decide⟩⟩,
    ⟨{ State.reset with pwr := { State.reset.pwr with lanOpen := false } }, 1, ⟨0, 0⟩, [1, 2], by decide⟩,
    ⟨{ State.reset with pwr := { State.reset.pwr with lanOpen := true } }, 1, ⟨0, 0⟩, [], by decide⟩,
    ⟨{ State.reset with zyp := { State.reset.zyp with roster := [(3, ⟨9, 1, false⟩)], statusIn := [⟨9, 2, 1, 5, 0, 1, 3, none, 0, List.replicate 76 0, 0⟩] } }, _, ⟨9, 2, 1, 5, 0, 1, 3, none, 0, List.replicate 76 0, 0⟩, [], List.replicate 32 0, by exact ⟨by decide, ⟨rfl, by decide⟩, rfl, by decide, by decide⟩⟩,
    ⟨{ State.reset with zyp := { State.reset.zyp with roster := [(3, ⟨9, 1, false⟩)], statusIn := [⟨9, 2, 1, 5, 0, 1, 3, none, 0, List.replicate 76 255, 0⟩] } }, _, ⟨9, 2, 1, 5, 0, 1, 3, none, 0, List.replicate 76 255, 0⟩, [], List.replicate 32 255, by exact ⟨by decide, ⟨rfl, by decide⟩, rfl, by decide, by decide⟩⟩,
    ⟨{ State.reset with epo := { State.reset.epo with opened := true, released := true, snapped := true, decided := false, prepared := true, ops := [(5, ⟨3, 1, .request ⟨3, 0, 1, 2, 3, 4, [], .segs [], 0, false, false⟩⟩)], taken := [], hostDone := 0 } }, 5, ⟨3, 1, .request ⟨3, 0, 1, 2, 3, 4, [], .segs [], 0, false, false⟩⟩, ⟨3, 0, 1, 2, 3, 4, [], .segs [], 0, false, false⟩, [], by exact ⟨by decide, by decide, by decide, fun x l h => by cases h⟩⟩,
    ⟨{ State.reset with epo := { State.reset.epo with opened := true, released := true, snapped := true, decided := false, prepared := true, ops := [(5, ⟨3, 1, .release ⟨3, 0, 1, 2, 3, false⟩⟩)], taken := [], hostDone := 0 } }, 5, ⟨3, 1, .release ⟨3, 0, 1, 2, 3, false⟩⟩, ⟨3, 0, 1, 2, 3, false⟩, [], by exact ⟨by decide, by decide, by decide, fun x l h => by cases h⟩⟩,
    ⟨{ State.reset with epo := { State.reset.epo with opened := true, released := true, snapped := true, decided := false, prepared := true, ops := [(5, ⟨3, 1, .event ⟨3, 1, 2, 3, false⟩⟩)], taken := [], hostDone := 0 } }, 5, ⟨3, 1, .event ⟨3, 1, 2, 3, false⟩⟩, ⟨3, 1, 2, 3, false⟩, [], by exact ⟨by decide, by decide, by decide, fun x l h => by cases h⟩⟩⟩

/-- The hypotheses of each clause of ZypStreamsAndRadio are met, in order. -/
theorem test_ZypStreamsAndRadio_met :
    (∃ (s : State) (e n : Nat), (s.Up) ∧ (s.zyp.catchup = some e ∧ n = s.nextBoot (if later e s.zyp.bootCtr then e else s.zyp.bootCtr)) ∧
      (s.follows = false ∧ s.twn.mirrored = false))
    ∧ (∃ (s : State), (s.Up) ∧ (s.zyp.pairOn = true ∧ (s.zyp.seq.any fun p => decide (p.2 ≥ 0xFFFF0000)) = true ∧ s.follows = false) ∧
      (s.trp.seqTrap < 0xFFFF0000 ∧ s.zyp.seqCor < 0xFFFF0000))
    ∧ (∃ (s : State), (s.Up) ∧ ((s.zyp.seq.any fun p => decide (p.2 ≥ 0xFFFF0000)) = false ∨ s.zyp.pairOn = false ∨ s.follows = true) ∧
      (s.trp.seqTrap ≥ 0xFFFF0000 ∨ s.zyp.seqCor ≥ 0xFFFF0000))
    ∧ (∃ (s : State) (p : Packet) (rest : List Packet), (s.Up) ∧ (s.zyp.onAir = none ∧ s.driveRadio = true ∧ s.chuteOn 17 = true) ∧
      (bestPacket (s.chute 17).pkts = some (p, rest) ∧ (s.chute 17).reading = none))
    ∧ (∃ (s : State), (s.Up))
    ∧ (∃ (s : State) (b : List Byte), (s.Up))
    ∧ (∃ (s : State) (c : Cmd) (d : List Byte), (s.Up) ∧ (s.Accepts c .dataIn) ∧ (s.follows = false ∧ s.mode.fleet = false) ∧
      (c.desc.length.toNat % 8 = 0 ∧ 8 ≤ c.desc.length.toNat ∧ c.desc.length.toNat ≤ 2048) ∧ (s.rosterStatus (rosterLines (d.take
      c.desc.length.toNat)) = St.done))
    ∧ (∃ (s : State) (c : Cmd) (d : List Byte), (s.Up) ∧ (s.Accepts c .dataIn) ∧ (s.follows = false ∧ s.mode.fleet = true) ∧
      (c.desc.length.toNat % 8 = 0 ∧ 8 ≤ c.desc.length.toNat ∧ c.desc.length.toNat ≤ 2048))
    ∧ (∃ (s : State) (c : Cmd), (s.Up) ∧ (s.Accepts c .dataOut) ∧ (s.follows = false ∧ c.desc.p0.toNat < 256) ∧ (c.desc.length.toNat % 48 = 0
      ∧ c.desc.p0.toNat + c.desc.length.toNat / 48 ≤ 256))
    ∧ (∃ (s : State), (s.Up) ∧ (s.mode.fleet = false ∧ s.follows = false) ∧ (s.sh Reg.LNA_ZYP_CFG_YARD_ID ≠ broadcastId ∧ s.lidOf (s.sh
      Reg.LNA_ZYP_CFG_YARD_ID) = none) ∧ (s.sh Reg.LNA_ZYP_PORT_UDP_PORT ≠ 0 ∧ 4 ≤ s.sh Reg.LNA_ZYP_PORT_EPOCH_AGE))
    ∧ (∃ (s : State) (b : Bool) (addr pre other res : Fld), (s.Up) ∧ ((addr, pre, other, res) = (if b then (Reg.LNB_IPV4,
      Reg.LNB_IPV4_CFG_PREFIX, Reg.LNA_IPV4, Reg.LNB_NET_COMMIT_RESULT) else (Reg.LNA_IPV4, Reg.LNA_IPV4_CFG_PREFIX, Reg.LNB_IPV4,
      Reg.LNA_NET_COMMIT_RESULT))) ∧ (8 ≤ s.sh pre ∧ s.sh pre ≤ 30 ∧ addrBad (s.sh addr) (s.sh pre) = false) ∧ (s.sh addr = 0 ∨ s.sh addr ≠
      s.rd other))
    ∧ (∃ (s : State) (x : Word), (s.Up)) :=
  ⟨⟨{ State.reset with zyp := { State.reset.zyp with catchup := some 7, bootCtr := 2 } }, 7, 9, by exact ⟨by decide, ⟨by decide, by rfl⟩, by decide⟩⟩,
    ⟨{ State.reset with zyp := { State.reset.zyp with pairOn := true, seq := [(7, 0xFFFF0000)] } }, by decide⟩,
    ⟨{ State.reset with zyp := { State.reset.zyp with seqCor := 0xFFFF0000 } }, by decide⟩,
    ⟨{ (State.reset.wr Reg.PIN_STRAP_STATUS_RADIO_ON 1 |>.wr Reg.CLK_ADMIT_STATUS_BEACON_ON 1 |>.setChute 17 { State.reset.chute 17 with pkts := [⟨6, [5], 0, none, none⟩] }) with trp := { State.reset.trp with driveLow := false } }, ⟨6, [5], 0, none, none⟩, [], by decide⟩,
    ⟨State.reset, by decide⟩,
    ⟨State.reset, [1, 2], by decide⟩,
    ⟨State.reset.withCmd ⟨5, 2, 0, ⟨1, 17, 0, false, 0, 8, 0, 0, 0, 0⟩, none⟩, ⟨5, 2, 0, ⟨1, 17, 0, false, 0, 8, 0, 0, 0, 0⟩, none⟩, [3, 1, 2, 0, 9, 0, 0, 0], by decide⟩,
    ⟨{ State.reset.withCmd ⟨5, 2, 0, ⟨1, 17, 0, false, 0, 8, 0, 0, 0, 0⟩, none⟩ with mode := .fleetHold }, ⟨5, 2, 0, ⟨1, 17, 0, false, 0, 8, 0, 0, 0, 0⟩, none⟩, [3, 1, 2, 0, 9, 0, 0, 0], by decide⟩,
    ⟨State.reset.withCmd ⟨5, 2, 0, ⟨2, 17, 0, false, 0, 48, 0, 0, 0, 0⟩, none⟩, ⟨5, 2, 0, ⟨2, 17, 0, false, 0, 48, 0, 0, 0, 0⟩, none⟩, by decide⟩,
    ⟨State.reset, by decide⟩,
    ⟨State.reset.wr Reg.LNA_IPV4 0x0A000001 |>.wrShadow Reg.LNA_IPV4_CFG_PREFIX 24, false, Reg.LNA_IPV4, Reg.LNA_IPV4_CFG_PREFIX, Reg.LNB_IPV4, Reg.LNA_NET_COMMIT_RESULT, by decide⟩,
    ⟨State.reset, 25, by decide⟩⟩

/-- The hypotheses of each clause of TimeSources are met, in order. -/
theorem test_TimeSources_met :
    (∃ (s a u w : State) (off : Int) (utc : Option UtcInfo), (s.Up) ∧ (a = s.wholeSecond) ∧ (u =
      (match utc with | some x => a.wr Reg.TIM_UTC (x.offset.toNat + 65536 + 131072 * bit x.leap61 + 262144 * bit x.leap59) | none => a)) ∧
      ((u.solsSince u.now 1000000000 false).isEmpty = false ∧ off = wholeRatio (u.solsSince u.now 1000000000 false).sum (u.solsSince u.now
      1000000000 false).length) ∧ (w = { u with tim := { u.tim with gnssOff := off, gnssOk := !u.tim.gnssLost } }))
    ∧ (∃ (s u : State) (utc : Option UtcInfo), (s.Up) ∧ (u =
      (match utc with | some x => s.wholeSecond.wr Reg.TIM_UTC (x.offset.toNat + 65536 + 131072 * bit x.leap61 + 262144 * bit x.leap59) | none => s.wholeSecond))
      ∧ ((u.solsSince u.now 1000000000 false).isEmpty = true))
    ∧ (∃ (s u w : State) (a : YTime), (s.Up) ∧ (s.tim.solLast = some a ∧ s.tim.gnssLost = false) ∧ (u = s.advance (ofNs (toNs a + 2000000000 :
      Nat) a.frac)) ∧ (w = { u with tim := { u.tim with gnssOk := false, gnssLost := true } }))
    ∧ (∃ (s u : State) (a : YTime), (s.Up) ∧ (s.tim.solLast = some a ∧ s.tim.gnssLost = false ∧ s.follows = false) ∧ (u = s.advance (ofNs
      (toNs a + 2000000000 : Nat) a.frac)) ∧ (u.rd Reg.TIM_STATUS_SOURCE = 0 ∧ u.rd Reg.TIM_CFG_SRC_FIRST = 0 ∧ u.rd Reg.TIM_CFG_SRC_SECOND
      = 2))
    ∧ (∃ (s : State) (a b : YTime) (off : Int), (s.Up) ∧ (s.tim.solFrom = some a ∧ s.tim.solLast = some b ∧ s.tim.gnssLost = true) ∧
      (65536000000000 ≤ timeDiff b a) ∧ (off = median (s.solsSince b 1000000000 true)))
    ∧ (∃ (s u : State) (x : YTime) (e : Nat), (s.Up) ∧ (u = s.advance x ∧ e = u.estimate (timeDiff u.now u.tim.lastOk / 65536).toNat) ∧ ((u.rd
      Reg.TIM_STATUS_SOURCE = 3 ∧ u.rd Reg.TIM_STATUS_SET_STATE = 2) ∨ u.on Reg.TIM_STATUS_REJECTED = true))
    ∧ (∃ (s u : State) (a : YTime), (s.Up) ∧ (s.tim.lockFrom = some a ∧ u = s.advance (ofNs (toNs a + 10000000000 : Nat) a.frac)) ∧ (s.rd
      Reg.TIM_STATUS_SOURCE = 0 ∧ s.rd Reg.TIM_STATUS_TQ = 1 ∧ s.on Reg.TIM_STATUS_STEERING = true ∧ s.on Reg.COR_STATUS_REF_VALID = true))
    ∧ (∃ (s : State) (k : Int), (s.Up) ∧ (s.tim.slew = some k))
    ∧ (∃ (s u : State) (v : Int) (a : YTime), (s.Up) ∧ (s.tim.stepFrom = some (v, a) ∧ u = s.advance (ofNs (toNs a + 60000000000 : Nat)
      a.frac)) ∧ (s.on Reg.TIM_CFG_AUTO_STEP = true ∧ s.steady = false) ∧ (s.offsetPending = true ∨ s.on Reg.TIM_STATUS_SHADOW = true))
    ∧ (∃ (s : State), (s.Up) ∧ (s.steady = false ∧ s.offsetPending = true))
    ∧ (∃ (s : State), (s.Up) ∧ (s.steady = true))
    ∧ (∃ (s : State), (s.Up) ∧ (s.steady = false ∧ s.offsetPending = false))
    ∧ (∃ (s : State), (s.Up) ∧ (s.offsetPending = true))
    ∧ (∃ (s : State), (s.Up) ∧ (s.offsetPending = false))
    ∧ (∃ (s : State), (s.Up))
    ∧ (∃ (s : State), (s.Up) ∧ (s.wholeSecond.rd Reg.TIM_STATUS_SET_STATE = 2 ∧ s.wholeSecond.rd Reg.TIM_STATUS_TQ ≠ 5))
    ∧ (∃ (s : State), (s.Up) ∧ (s.wholeSecond.rd Reg.TIM_STATUS_SET_STATE ≠ 2 ∨ s.wholeSecond.rd Reg.TIM_STATUS_TQ = 5))
    ∧ (∃ (s : State), (s.Up) ∧ (s.follows = true) ∧ (50 ≤ s.wholeSecond.twn.offsets.length))
    ∧ (∃ (s : State), (s.Up) ∧ (s.follows = true) ∧ (s.wholeSecond.twn.offsets.length < 50)) :=
  ⟨⟨{ State.reset with mode := .hostedIdle, tim := { State.reset.tim with sols := [(State.reset.wholeSecond.now, 5)], gnssLost := false } }, _, _, _, 5, none, by exact ⟨by decide, rfl, rfl, ⟨by decide, by decide⟩, rfl⟩⟩,
    ⟨State.reset, _, none, by exact ⟨by decide, rfl, by decide⟩⟩,
    ⟨{ State.reset with tim := { State.reset.tim with solLast := some ⟨5, 0, 0⟩, gnssLost := false } }, _, _, ⟨5, 0, 0⟩, by exact ⟨by decide, by decide, rfl, rfl⟩⟩,
    ⟨{ State.reset.wrEach [(Reg.TIM_STATUS_SOURCE, 0), (Reg.TIM_CFG_SRC_FIRST, 0), (Reg.TIM_CFG_SRC_SECOND, 2)] with tim := { State.reset.tim with solLast := some ⟨5, 0, 0⟩, gnssLost := false } }, _, ⟨5, 0, 0⟩, by exact ⟨by decide, by decide, rfl, by decide⟩⟩,
    ⟨{ State.reset with tim := { State.reset.tim with solFrom := some ⟨5, 0, 0⟩, solLast := some ⟨7, 0, 0⟩, gnssLost := true, sols := [(⟨7, 0, 0⟩, 9)] } }, ⟨5, 0, 0⟩, ⟨7, 0, 0⟩, 9, by exact ⟨by decide, ⟨rfl, rfl, rfl⟩, by decide, by decide⟩⟩,
    ⟨State.reset.wr Reg.TIM_STATUS_SET_STATE 2, _, ⟨5, 0, 0⟩, _, by exact ⟨by decide, ⟨rfl, rfl⟩, by decide⟩⟩,
    ⟨{ State.reset.wrEach [(Reg.TIM_STATUS_SOURCE, 0), (Reg.TIM_STATUS_TQ, 1), (Reg.TIM_STATUS_STEERING, 1), (Reg.COR_STATUS_REF_VALID, 1)] with tim := { State.reset.tim with lockFrom := some ⟨5, 0, 0⟩ } }, _, ⟨5, 0, 0⟩, by exact ⟨by decide, ⟨rfl, rfl⟩, by decide⟩⟩,
    ⟨{ State.reset with tim := { State.reset.tim with slew := some 5 } }, 5, by decide⟩,
    ⟨{ State.reset.wrEach [(Reg.TIM_CFG_AUTO_STEP, 1), (Reg.TIM_STATUS_REJECTED, 1), (Reg.TIM_STATUS_SOURCE, 0)] with mode := .hostedIdle, tim := { State.reset.tim with stepFrom := some (5, ⟨5, 0, 0⟩) } }, _, 5, ⟨5, 0, 0⟩, by exact ⟨by decide, ⟨rfl, rfl⟩, by decide, .inl (by decide)⟩⟩,
    ⟨{ State.reset.wrEach [(Reg.TIM_STATUS_REJECTED, 1), (Reg.TIM_STATUS_SOURCE, 0)] with mode := .hostedIdle }, by decide⟩,
    ⟨{ State.reset with mode := .fleetHold }, by decide⟩,
    ⟨{ State.reset with mode := .hostedIdle }, by decide⟩,
    ⟨State.reset.wrEach [(Reg.TIM_STATUS_REJECTED, 1), (Reg.TIM_STATUS_SOURCE, 0)], by decide⟩,
    ⟨State.reset, by decide⟩,
    ⟨State.reset, by decide⟩,
    ⟨State.reset.wrEach [(Reg.TIM_STATUS_SET_STATE, 2), (Reg.TIM_STATUS_TQ, 1)], by decide⟩,
    ⟨State.reset, by decide⟩,
    ⟨{ State.reset with mode := .twinStandby, twn := { State.reset.twn with offsets := List.replicate 50 7 } }, by decide⟩,
    ⟨{ State.reset with mode := .twinStandby }, by decide⟩⟩

/-- The hypotheses of each clause of PtpAndPulses are met, in order. -/
theorem test_PtpAndPulses_met :
    (∃ (s u : State) (b : Bool) (off : Int) (m : PtpMsg) (a : YTime), (s.Up) ∧ (s.pwr.lanOpen = true ∧ s.ptpPort b = true ∧ u = s.ptpStamp b
      0 false m) ∧ (u.rd (portState b) = 9 ∧ m.domain.toNat = u.rd Reg.TIM_PTP_CFG_DOMAIN ∧ u.tim.syncAt = some a))
    ∧ (∃ (s u : State) (b : Bool) (off : Int) (m : PtpMsg), (s.Up) ∧ (s.pwr.lanOpen = true ∧ s.ptpPort b = true ∧ u = s.ptpStamp b 0 false m)
      ∧ (u.rd (portState b) = 9 ∧ m.domain.toNat = u.rd Reg.TIM_PTP_CFG_DOMAIN ∧ u.tim.syncAt = none))
    ∧ (∃ (s u : State) (b : Bool) (off : Int) (m : PtpMsg), (s.Up) ∧ (s.pwr.lanOpen = true ∧ s.ptpPort b = true ∧ u = s.ptpStamp b 0 false m)
      ∧ (u.rd (portState b) ≠ 9 ∨ m.domain.toNat ≠ u.rd Reg.TIM_PTP_CFG_DOMAIN))
    ∧ (∃ (s : State) (b : Bool) (off : Int) (m : PtpMsg), (s.Up) ∧ (s.pwr.lanOpen = false))
    ∧ (∃ (s u : State) (b nm : Bool) (adv : BmcaAdvice), (s.Up) ∧ (s.pwr.lanOpen = true ∧ s.ptpPort b = true ∧ s.tim.ptpOn = true) ∧ (u = s.wr
      (portState b)
      (match adv with | .master => if s.rd Reg.TIM_PTP_CFG_ROLE = 2 then 4 else 6 | .passive => 7 | .slave => if s.rd Reg.TIM_PTP_CFG_ROLE = 0 ∨ s.rd (portState (!b)) = 9 then 7 else 9)))
    ∧ (∃ (s u : State) (b : Bool) (m : PtpMsg) (n : Nat), (s.Up) ∧ (s.pwr.lanOpen = true ∧ s.ptpPort b = true ∧ u = s.ptpStamp b 1 false m) ∧
      (u.rd (portState b) = 6 ∧ u.on Reg.TIM_PTP_CFG_PROFILE = false ∧ u.outputsStopped = false) ∧ (m.domain.toNat = u.rd
      Reg.TIM_PTP_CFG_DOMAIN ∨ (u.on Reg.TIM_CFG_POLICY = true ∧ m.domain.toNat = u.rd Reg.TIM_PTP_CFG_DOMAIN_ALT)) ∧ (n = (if (AMap.get
      u.tim.delayN (bit b) (0, 0)).1 = m.time.sec then (AMap.get u.tim.delayN (bit b) (0, 0)).2 else 0) ∧ n < 4096))
    ∧ (∃ (s u : State) (b : Bool) (m : PtpMsg), (s.Up) ∧ (s.pwr.lanOpen = true ∧ s.ptpPort b = true ∧ u = s.ptpStamp b 1 false m) ∧ (u.rd
      (portState b) = 6 ∧ u.on Reg.TIM_PTP_CFG_PROFILE = false ∧ u.outputsStopped = false) ∧ (m.domain.toNat = u.rd Reg.TIM_PTP_CFG_DOMAIN ∨
      (u.on Reg.TIM_CFG_POLICY = true ∧ m.domain.toNat = u.rd Reg.TIM_PTP_CFG_DOMAIN_ALT)) ∧ ((AMap.get u.tim.delayN (bit b) (0, 0)).1 =
      m.time.sec ∧ 4096 ≤ (AMap.get u.tim.delayN (bit b) (0, 0)).2))
    ∧ (∃ (s u w y : State) (ann : Bool) (next : Nat), (s.Up) ∧ (next = (if s.rd Reg.TIM_PTP_CFG_ROLE = 1 then 6 else 4) ∧ u =
      { s with tim := { s.tim with ptpOk := false } }) ∧ (w = (if ann && u.rd Reg.TIM_PTP_STATE_A == 9 then u.wr Reg.TIM_PTP_STATE_A next
      else u)) ∧ (y = (if ann && w.rd Reg.TIM_PTP_STATE_B == 9 then w.wr Reg.TIM_PTP_STATE_B next else w)))
    ∧ (∃ (s x u : State) (b alt : Bool) (time : YTime) (k q : Nat), (s.Up) ∧ (x = (if s.rd Reg.TIM_PTP_CFG_ROLE = 0 ∧ (s.rd (portState b) = 1
      ∨ s.rd (portState b) = 4) then s.wr (portState b) 6 else s)) ∧ (x.tim.ptpOn = true ∧ x.ptpSilent = false ∧ x.ptpPort b = true ∧ x.rd
      (portState b) = 6) ∧ (alt = true → x.on Reg.TIM_CFG_POLICY = true) ∧ (k = bit b * 4 + bit true + 2 * bit alt ∧ q = AMap.get
      x.tim.ptpSeq k 0) ∧ (u = { x with tim := { x.tim with ptpSeq := AMap.set k ((q + 1) % 65536) x.tim.ptpSeq } }))
    ∧ (∃ (s x u : State) (b alt : Bool) (time : YTime) (k q : Nat), (s.Up) ∧ (x = (if s.rd Reg.TIM_PTP_CFG_ROLE = 0 ∧ (s.rd (portState b) = 1
      ∨ s.rd (portState b) = 4) then s.wr (portState b) 6 else s)) ∧ (x.tim.ptpOn = true ∧ x.ptpSilent = false ∧ x.ptpPort b = true ∧ x.rd
      (portState b) = 6) ∧ (alt = true → x.on Reg.TIM_CFG_POLICY = true) ∧ (k = bit b * 4 + bit false + 2 * bit alt ∧ q = AMap.get
      x.tim.ptpSeq k 0) ∧ (u = { x with tim := { x.tim with ptpSeq := AMap.set k ((q + 1) % 65536) x.tim.ptpSeq } }))
    ∧ (∃ (s : State) (b : Bool) (k : Fin 16) (m : PtpMsg) (x : YTime), (s.Up) ∧ (s.pwr.lanOpen = true ∧ s.rd Reg.TIM_PTP_CFG_ROLE = 2 ∧
      m.domain.toNat = s.rd Reg.TIM_PTP_CFG_DOMAIN) ∧ (k.val = 0 ∨ k.val = 1))
    ∧ (∃ (s : State) (b : Bool) (k : Fin 16) (m : PtpMsg) (x : YTime), (s.Up) ∧ (s.pwr.lanOpen = true) ∧ (s.rd Reg.TIM_PTP_CFG_ROLE ≠ 2 ∨
      m.domain.toNat ≠ s.rd Reg.TIM_PTP_CFG_DOMAIN ∨ 2 ≤ k.val))
    ∧ (∃ (s : State), (s.Up) ∧ (s.isPending Reg.TIM_TIME_COMMIT_RESULT = false) ∧ (s.sh Reg.TIM_CFG_SRC_FIRST ≠ 3 ∧ s.sh
      Reg.TIM_CFG_SRC_SECOND ≠ 3 ∧ (s.sh Reg.TIM_CFG_SRC_FIRST = s.sh Reg.TIM_CFG_SRC_SECOND → s.sh Reg.TIM_CFG_SRC_FIRST = 2)) ∧ (10 ≤ s.sh
      Reg.TIM_CFG_SLEW_PPM ∧ s.sh Reg.TIM_CFG_SLEW_PPM ≤ 200 ∧ 1 ≤ s.sh Reg.TIM_CFG_STEP_THRESH ∧ s.sh Reg.TIM_CFG_STEP_THRESH ≤ 100000) ∧
      (s.sh Reg.TIM_CFG_POLICY = 1 → s.rd Reg.TIM_PTP_CFG_DOMAIN_ALT ≠ s.rd Reg.TIM_PTP_CFG_DOMAIN))
    ∧ (∃ (s : State), (s.Up) ∧ (s.isPending Reg.TIM_TIME_COMMIT_RESULT = true))
    ∧ (∃ (s : State), (s.Up) ∧ (s.isPending Reg.TIM_TIME_COMMIT_RESULT = true))
    ∧ (∃ (s : State), (s.Up) ∧ (s.sh Reg.TIM_PTP_CFG_ROLE < 3 ∧ (s.sh Reg.TIM_PTP_CFG_ROLE = 2 → s.sh Reg.TIM_PTP_CFG_PROFILE = 0 ∧ s.sh
      Reg.TIM_PTP_CFG_PORT_A_EN ≠ 0 ∧ s.sh Reg.TIM_PTP_CFG_PORT_B_EN ≠ 0)) ∧ (s.sh Reg.TIM_PTP_CFG_DOMAIN ≤ 127 ∧ s.sh
      Reg.TIM_PTP_CFG_DOMAIN_ALT ≤ 127 ∧ (s.sh Reg.TIM_PTP_CFG_PROFILE = 1 → s.sh Reg.TIM_PTP_CFG_DOMAIN = 0)) ∧ (intvBad (s.sh
      Reg.TIM_PTP_INTV) = false))
    ∧ (∃ (s : State), (s.Up) ∧ (s.sh (Reg.TIM_PG_CTRL_EN (s.rd Reg.TIM_PG_SEL)) = 0) ∧ (s.sh (Reg.TIM_PG_START_NS (s.rd Reg.TIM_PG_SEL)) <
      1000000000 ∧ s.sh (Reg.TIM_PG_PERIOD (s.rd Reg.TIM_PG_SEL)) = 0))
    ∧ (∃ (s u : State) (g per : Nat) (start soon next : YTime), (s.Up) ∧ (g = s.rd Reg.TIM_PG_SEL ∧ per = s.sh (Reg.TIM_PG_PERIOD g) ∧ s.sh
      (Reg.TIM_PG_CTRL_EN g) = 1) ∧ (start = ⟨s.sh (Reg.TIM_PG_START_SEC g), s.sh (Reg.TIM_PG_START_NS g), 0⟩ ∧ soon = ofNs (toNs s.now +
      1000000 : Nat) s.now.frac) ∧ (start.ns < 1000000000 ∧ (per = 0 ∨ (100 ≤ per ∧ s.sh (Reg.TIM_PG_WIDTH g) < per)) ∧ (per = 0 → timeLater
      start soon = true)) ∧ (next = (if timeLater start soon then start else ofNs (toNs start + ((timeDiff soon start / 65536).toNat / per +
      1) * per : Nat) 0)) ∧ (u = s.commit (Reg.TIM_PG_COMMIT_RESULT g) (pulseGroup g) St.done))
    ∧ (∃ (s : State) (g : Nat), (s.Up) ∧ (g = s.rd Reg.TIM_PG_SEL) ∧ (1000000000 ≤ s.sh (Reg.TIM_PG_START_NS g) ∨ (1 ≤ s.sh (Reg.TIM_PG_PERIOD
      g) ∧ s.sh (Reg.TIM_PG_PERIOD g) ≤ 99) ∨ (s.sh (Reg.TIM_PG_PERIOD g) ≠ 0 ∧ s.sh (Reg.TIM_PG_PERIOD g) ≤ s.sh (Reg.TIM_PG_WIDTH g))))
    ∧ (∃ (s u w : State) (g : Fin 16) (q : PulseSt) (n : Nat), (s.Up) ∧ (AMap.find g.val s.tim.pg = some q ∧ n = (q.count + 1) % 4294967296) ∧
      (u = ((if q.late then s else s.advance q.next).setFlags (40 + g.val) (List.range 32)).beginPulse g.val) ∧ (w = (if s.on
      (Reg.TIM_PG_CTRL_EVENT g.val) then u.evtRecord 0x50 g.val (bit (!s.on (Reg.TIM_PG_CTRL_POL g.val)) + 2 * bit q.late) n q.next else u))
      ∧ (s.rd (Reg.TIM_PG_PERIOD g.val) = 0))
    ∧ (∃ (s u w : State) (g : Fin 16) (q : PulseSt) (n : Nat), (s.Up) ∧ (AMap.find g.val s.tim.pg = some q ∧ n = (q.count + 1) % 4294967296) ∧
      (u = ((if q.late then s else s.advance q.next).setFlags (40 + g.val) (List.range 32)).beginPulse g.val) ∧ (w = (if s.on
      (Reg.TIM_PG_CTRL_EVENT g.val) then u.evtRecord 0x50 g.val (bit (!s.on (Reg.TIM_PG_CTRL_POL g.val)) + 2 * bit q.late) n q.next else u))
      ∧ (s.rd (Reg.TIM_PG_PERIOD g.val) ≠ 0))
    ∧ (∃ (s u : State) (n : Fin 8) (b : Bool) (x : YTime), (s.Up) ∧ (u = s.advance x) ∧ (bits (s.rd Reg.TIM_CAP_CFG) (2 * n.val) 2 = 3 ∨ (bits
      (s.rd Reg.TIM_CAP_CFG) (2 * n.val) 2 = 1 ∧ b = true) ∨ (bits (s.rd Reg.TIM_CAP_CFG) (2 * n.val) 2 = 2 ∧ b = false)) ∧ (∀ a, AMap.find
      n.val u.tim.capAt = some a → 6553600 < timeDiff x a))
    ∧ (∃ (s u : State) (n : Fin 8) (b : Bool) (x a : YTime), (s.Up) ∧ (u = s.advance x) ∧ (bits (s.rd Reg.TIM_CAP_CFG) (2 * n.val) 2 = 3 ∨
      (bits (s.rd Reg.TIM_CAP_CFG) (2 * n.val) 2 = 1 ∧ b = true) ∨ (bits (s.rd Reg.TIM_CAP_CFG) (2 * n.val) 2 = 2 ∧ b = false)) ∧ (AMap.find
      n.val u.tim.capAt = some a ∧ timeDiff x a ≤ 6553600))
    ∧ (∃ (s : State) (n : Fin 8), (s.Up)) :=
  ⟨⟨{ State.reset.wrEach [(Reg.TIM_PTP_CFG_PORT_A_EN, 1), (Reg.TIM_PTP_STATE_A, 9)] with pwr := { State.reset.pwr with lanOpen := true }, tim := { State.reset.tim with syncAt := some ⟨1, 0, 0⟩ } }, _, false, 5, ⟨0, 1, [], ⟨2, 0, 0⟩⟩, ⟨1, 0, 0⟩, by exact ⟨by decide, ⟨by decide, by decide, rfl⟩, by decide⟩⟩,
    ⟨{ State.reset.wrEach [(Reg.TIM_PTP_CFG_PORT_A_EN, 1), (Reg.TIM_PTP_STATE_A, 9)] with pwr := { State.reset.pwr with lanOpen := true } }, _, false, 5, ⟨0, 1, [], ⟨2, 0, 0⟩⟩, by exact ⟨by decide, ⟨by decide, by decide, rfl⟩, by decide⟩⟩,
    ⟨{ State.reset.wrEach [(Reg.TIM_PTP_CFG_PORT_A_EN, 1)] with pwr := { State.reset.pwr with lanOpen := true } }, _, false, 5, ⟨0, 1, [], ⟨2, 0, 0⟩⟩, by exact ⟨by decide, ⟨by decide, by decide, rfl⟩, by decide⟩⟩,
    ⟨{ State.reset with pwr := { State.reset.pwr with lanOpen := false } }, false, 5, ⟨0, 1, [], ⟨2, 0, 0⟩⟩, by decide⟩,
    ⟨{ State.reset.wrEach [(Reg.TIM_PTP_CFG_PORT_A_EN, 1), (Reg.TIM_PTP_CFG_ROLE, 1)] with pwr := { State.reset.pwr with lanOpen := true }, tim := { State.reset.tim with ptpOn := true } }, _, false, true, .slave, by exact ⟨by decide, by decide, rfl⟩⟩,
    ⟨{ State.reset.wrEach [(Reg.TIM_PTP_CFG_PORT_A_EN, 1), (Reg.TIM_PTP_STATE_A, 6)] with pwr := { State.reset.pwr with lanOpen := true } }, _, false, ⟨0, 1, [], YTime.zero⟩, 0, by exact ⟨by decide, ⟨by decide, by decide, rfl⟩, by decide, .inl (by decide), by decide⟩⟩,
    ⟨{ State.reset.wrEach [(Reg.TIM_PTP_CFG_PORT_A_EN, 1), (Reg.TIM_PTP_STATE_A, 6)] with pwr := { State.reset.pwr with lanOpen := true }, tim := { State.reset.tim with delayN := [(0, (0, 4096))] } }, _, false, ⟨0, 1, [], YTime.zero⟩, by exact ⟨by decide, ⟨by decide, by decide, rfl⟩, by decide, .inl (by decide), by decide⟩⟩,
    ⟨State.reset.wr Reg.TIM_PTP_STATE_A 9, _, _, _, true, _, by exact ⟨by decide, ⟨rfl, rfl⟩, rfl, rfl⟩⟩,
    ⟨{ State.reset.wrEach [(Reg.TIM_PTP_CFG_PORT_A_EN, 1), (Reg.TIM_PTP_STATE_A, 6)] with tim := { State.reset.tim with ptpOn := true } }, _, _, false, false, YTime.zero, 1, 0, by exact ⟨by decide, rfl, by decide, by decide, by decide, rfl⟩⟩,
    ⟨{ State.reset.wrEach [(Reg.TIM_PTP_CFG_PORT_A_EN, 1), (Reg.TIM_PTP_STATE_A, 6)] with tim := { State.reset.tim with ptpOn := true } }, _, _, false, false, YTime.zero, 0, 0, by exact ⟨by decide, rfl, by decide, by decide, by decide, rfl⟩⟩,
    ⟨{ State.reset.wr Reg.TIM_PTP_CFG_ROLE 2 with pwr := { State.reset.pwr with lanOpen := true } }, false, 0, ⟨0, 1, [], YTime.zero⟩, YTime.zero, by decide⟩,
    ⟨{ State.reset with pwr := { State.reset.pwr with lanOpen := true } }, false, 3, ⟨0, 1, [], YTime.zero⟩, YTime.zero, by decide⟩,
    ⟨State.reset.wrEach [(Reg.TIM_CFG_SRC_FIRST, 0), (Reg.TIM_CFG_SRC_SECOND, 1), (Reg.TIM_CFG_SLEW_PPM, 50), (Reg.TIM_CFG_STEP_THRESH, 10), (Reg.TIM_CFG_POLICY, 0)], by decide⟩,
    ⟨State.reset.setPending Reg.TIM_TIME_COMMIT_RESULT, by decide⟩,
    ⟨State.reset.setPending Reg.TIM_TIME_COMMIT_RESULT, by decide⟩,
    ⟨State.reset.wrEach [(Reg.TIM_PTP_CFG_ROLE, 1), (Reg.TIM_PTP_CFG_PROFILE, 0), (Reg.TIM_PTP_CFG_DOMAIN, 0), (Reg.TIM_PTP_CFG_DOMAIN_ALT, 1), (Reg.TIM_PTP_INTV, 0x03000000)], by decide⟩,
    ⟨State.reset, by decide⟩,
    ⟨State.wrEach State.reset [(Reg.TIM_PG_CTRL_EN 0, 1), (Reg.TIM_PG_PERIOD 0, 1000), (Reg.TIM_PG_START_SEC 0, 100)] |>.wrShadow (Reg.TIM_PG_CTRL_EN 0) 1, _, 0, 1000, _, _, _, by exact ⟨by decide, ⟨by decide, rfl, by decide⟩, ⟨rfl, rfl⟩, by decide, rfl, rfl⟩⟩,
    ⟨State.reset.wrShadow (Reg.TIM_PG_PERIOD 0) 5, 0, by exact ⟨by decide, by decide, by decide⟩⟩,
    ⟨{ State.reset with tim := { State.reset.tim with pg := [(3, ⟨⟨1, 0, 0⟩, 0, false⟩)] } }, _, _, 3, ⟨⟨1, 0, 0⟩, 0, false⟩, 1, by exact ⟨by decide, by decide, rfl, rfl, by decide⟩⟩,
    ⟨State.wr { State.reset with tim := { State.reset.tim with pg := [(3, ⟨⟨1, 0, 0⟩, 0, false⟩)] } } (Reg.TIM_PG_PERIOD 3) 1000, _, _, 3, ⟨⟨1, 0, 0⟩, 0, false⟩, 1, by exact ⟨by decide, by decide, rfl, rfl, by decide⟩⟩,
    ⟨State.reset.wr Reg.TIM_CAP_CFG 3, _, 0, true, ⟨1, 0, 0⟩, by exact ⟨by decide, rfl, by decide, by intro a h; cases h⟩⟩,
    ⟨State.wr { State.reset with tim := { State.reset.tim with capAt := [(0, ⟨1, 0, 0⟩)] } } Reg.TIM_CAP_CFG 3, _, 0, true, ⟨1, 0, 0⟩, ⟨1, 0, 0⟩, by exact ⟨by decide, rfl, by decide, by decide⟩⟩,
    ⟨State.reset, 3, by decide⟩⟩

/-- The hypotheses of each clause of UpdateSessions are met, in order. -/
theorem test_UpdateSessions_met :
    (∃ (s u x : State) (c : Cmd) (d : List Byte) (r : Bool) (q : Nat), (s.Up) ∧ (s.Accepts c .dataIn) ∧ (u = (s.begun c).consume 52 (toWords
      ([0x62, 0] ++ List.replicate 14 0 ++ d.map BitVec.toNat))) ∧ (s.nvm.boot.loft = .empty ∨ s.nvm.boot.loft = .failed) ∧ (x =
      u.openSession (parseHeader d) d 0 ∧ q = u.headerVerdict d c.desc.length.toNat r))
    ∧ (∃ (s u x : State) (c : Cmd) (d : List Byte) (r : Bool) (q : Nat), (s.Up) ∧ (s.Accepts c .dataIn) ∧ (u = (s.begun c).consume 52 (toWords
      ([0x62, 0] ++ List.replicate 14 0 ++ d.map BitVec.toNat))) ∧ (s.nvm.boot.loft = .receiving ∧ s.nvm.boot.hdr.map (·.digest) = some
      (parseHeader d).digest ∧ (s.nvm.session.source = 0 ∨ s.upd.idle = true)) ∧ (x = u.setSession ({ u.nvm.session with source := 0 } :
      UpdSession) ∧ q = u.headerVerdict d c.desc.length.toNat r))
    ∧ (∃ (s u : State) (c : Cmd) (d : List Byte) (r : Bool) (q : Nat), (s.Up) ∧ (s.Accepts c .dataIn) ∧ (u = (s.begun c).consume 52 (toWords
      ([0x62, 0] ++ List.replicate 14 0 ++ d.map BitVec.toNat))) ∧ (s.nvm.boot.loft = .trial ∧ q = u.headerVerdict d c.desc.length.toNat r))
    ∧ (∃ (s u : State) (c : Cmd) (d : List Byte) (r : Bool), (s.Up) ∧ (s.Accepts c .dataIn) ∧ (u = (s.begun c).consume 52 (toWords ([0x62, 0]
      ++ List.replicate 14 0 ++ d.map BitVec.toNat))) ∧ (c.desc.length.toNat ≠ 512))
    ∧ (∃ (s u x : State) (b : Bool) (d : List Byte) (r : Bool) (q : Nat), (s.Up) ∧ (s.on Reg.UPD_NET_FED_EN = true ∧ s.upd.conns.contains b =
      true ∧ 0 < d.length ∧ d.length ≤ 4144) ∧ (u = s.consume 52 (toWords ([0x62, 1 + bit b] ++ List.replicate 14 0 ++ d.map BitVec.toNat)))
      ∧ (s.nvm.boot.loft = .empty ∨ s.nvm.boot.loft = .failed) ∧ (x = u.openSession (parseHeader d) d (1 + bit b) ∧ q = u.headerVerdict d
      d.length r))
    ∧ (∃ (s : State) (b : Bool) (d : List Byte) (r : Bool), (s.Up) ∧ (s.on Reg.UPD_NET_FED_EN = false ∨ s.upd.conns.contains b = false))
    ∧ (∃ (s : State) (b : Bool) (d : List Byte) (r : Bool), (s.Up) ∧ (s.on Reg.UPD_NET_FED_EN = true ∧ s.upd.conns.contains b = true ∧
      (d.length = 0 ∨ 4144 < d.length)))
    ∧ (∃ (s u : State) (c : Cmd) (k i : Word) (d : List Byte) (h : ImgHdr), (s.Up) ∧ (s.Accepts c .dataIn) ∧ (s.updMode = true ∧
      s.nvm.boot.hdr = some h ∧ c.desc.p1.toNat < h.nTotal ∧ c.desc.length.toNat = h.chunkLen c.desc.p1.toNat ∧ c.desc.length.toNat ≠ 0) ∧
      (s.nvm.session.isOpen = true ∧ s.nvm.session.num = c.desc.p0.toNat ∧ s.chunkSt c.desc.p1.toNat = 0) ∧ (u = (s.begun c).consume 52
      (toWords ([0x60, 0, 0, 0] ++ le 4 c.desc.p0.toNat ++ le 4 c.desc.p1.toNat ++ le 2 d.length ++ List.replicate 50 0 ++ d.map
      BitVec.toNat))))
    ∧ (∃ (s u : State) (c : Cmd) (k i : Word) (d : List Byte) (h : ImgHdr), (s.Up) ∧ (s.Accepts c .dataIn) ∧ (s.updMode = true ∧
      s.nvm.boot.hdr = some h ∧ c.desc.p1.toNat < h.nTotal ∧ c.desc.length.toNat = h.chunkLen c.desc.p1.toNat ∧ c.desc.length.toNat ≠ 0) ∧
      (s.nvm.session.isOpen = true ∧ s.nvm.session.num = c.desc.p0.toNat ∧ s.chunkSt c.desc.p1.toNat ≠ 0) ∧ (u = State.bump ((s.begun
      c).consume 52 (toWords ([0x60, 0, 0, 0] ++ le 4 c.desc.p0.toNat ++ le 4 c.desc.p1.toNat ++ le 2 d.length ++ List.replicate 50 0 ++
      d.map BitVec.toNat))) Reg.UPD_CHUNK_DUP Reg.UPD_FAULT_CNT_SAT))
    ∧ (∃ (s u : State) (c : Cmd) (k i : Word) (d : List Byte) (h : ImgHdr), (s.Up) ∧ (s.Accepts c .dataIn) ∧ (s.updMode = true ∧
      s.nvm.boot.hdr = some h ∧ c.desc.p1.toNat < h.nTotal ∧ c.desc.length.toNat = h.chunkLen c.desc.p1.toNat ∧ c.desc.length.toNat ≠ 0) ∧
      (s.nvm.session.isOpen = false ∨ s.nvm.session.num ≠ c.desc.p0.toNat) ∧ (u = (s.begun c).consume 52 (toWords ([0x60, 0, 0, 0] ++ le 4
      c.desc.p0.toNat ++ le 4 c.desc.p1.toNat ++ le 2 d.length ++ List.replicate 50 0 ++ d.map BitVec.toNat))))
    ∧ (∃ (s u : State) (c : Cmd) (k i : Word) (d : List Byte), (s.Up) ∧ (s.Accepts c .dataIn) ∧ (s.updMode = false) ∧ (u = (s.begun c).consume
      52 (toWords ([0x60, 0, 0, 0] ++ le 4 c.desc.p0.toNat ++ le 4 c.desc.p1.toNat ++ le 2 d.length ++ List.replicate 50 0 ++ d.map
      BitVec.toNat))))
    ∧ (∃ (s u : State) (b : Bool) (k i : Word) (d : List Byte) (h : ImgHdr), (s.Up) ∧ (s.on Reg.UPD_NET_FED_EN = true ∧ s.upd.conns.contains b
      = true ∧ d.length ≤ 4096) ∧ (s.updMode = true ∧ s.nvm.boot.hdr = some h ∧ i.toNat < h.nTotal ∧ d.length = h.chunkLen i.toNat ∧
      d.length ≠ 0) ∧ (s.nvm.session.isOpen = true ∧ s.nvm.session.num = k.toNat ∧ s.chunkSt i.toNat = 0) ∧ (u = s.consume 52 (toWords
      ([0x60, 1 + bit b, 0, 0] ++ le 4 k.toNat ++ le 4 i.toNat ++ le 2 d.length ++ List.replicate 50 0 ++ d.map BitVec.toNat))))
    ∧ (∃ (s u : State) (j : ChunkJob) (rest : List ChunkJob) (h : ImgHdr), (s.Up) ∧ (s.upd.queue = j :: rest ∧ s.nvm.boot.hdr = some h) ∧
      (s.nvm.session.isOpen = true ∧ s.nvm.session.num = j.session ∧ s.chunkSt j.index = 0) ∧ (u =
      { s with upd := { s.upd with queue := rest } }))
    ∧ (∃ (s u : State) (j : ChunkJob) (rest : List ChunkJob) (h : ImgHdr) (r : Nat × State), (s.Up) ∧ (s.upd.queue = j :: rest ∧
      s.nvm.boot.hdr = some h) ∧ (s.nvm.session.isOpen = true ∧ s.nvm.session.num = j.session ∧ s.chunkSt j.index = 0) ∧ (u =
      { s with upd := { s.upd with queue := rest }, mem := Memory.writeAll (s.chunkAddr j.index) j.data s.mem }) ∧ (r = State.verifyAfter
      (u.setChunk j.index 1) h j.index))
    ∧ (∃ (s u : State) (j : ChunkJob) (rest : List ChunkJob) (h : ImgHdr) (ok : Bool), (s.Up) ∧ (s.upd.queue = j :: rest ∧ s.nvm.boot.hdr =
      some h) ∧ (s.nvm.session.isOpen = false ∨ j.session ≠ s.nvm.session.num) ∧ (u = { s with upd := { s.upd with queue := rest } }))
    ∧ (∃ (s : State) (b : Bool), (s.Up) ∧ (s.on Reg.UPD_NET_FED_EN = true ∧ s.upd.conns.length < 4))
    ∧ (∃ (s : State) (b : Bool), (s.Up) ∧ (s.on Reg.UPD_NET_FED_EN = false ∨ 4 ≤ s.upd.conns.length))
    ∧ (∃ (s : State) (b : Bool), (s.Up))
    ∧ (∃ (s : State), (s.Up) ∧ (s.nvm.session.isOpen = true)) :=
  ⟨⟨State.reset.withCmd ⟨5, 2, 0, ⟨1, 20, 0, false, 0, 512, 0, 0, 0, 0⟩, none⟩, _, _, ⟨5, 2, 0, ⟨1, 20, 0, false, 0, 512, 0, 0, 0, 0⟩, none⟩, List.replicate 512 0, false, _, by exact ⟨by decide, by decide, rfl, .inl (by decide), ⟨rfl, rfl⟩⟩⟩,
    ⟨{ State.reset.withCmd ⟨5, 2, 0, ⟨1, 20, 0, false, 0, 512, 0, 0, 0, 0⟩, none⟩ with nvm := { State.reset.nvm with boot := { State.reset.nvm.boot with loft := .receiving, hdr := some (parseHeader (List.replicate 512 0)) }, session := ⟨7, true, 0, []⟩ } }, _, _, ⟨5, 2, 0, ⟨1, 20, 0, false, 0, 512, 0, 0, 0, 0⟩, none⟩, List.replicate 512 0, false, _, by exact ⟨by decide, by decide, rfl, ⟨rfl, rfl, .inl rfl⟩, ⟨rfl, rfl⟩⟩⟩,
    ⟨{ State.reset.withCmd ⟨5, 2, 0, ⟨1, 20, 0, false, 0, 512, 0, 0, 0, 0⟩, none⟩ with nvm := { State.reset.nvm with boot := { State.reset.nvm.boot with loft := .trial } } }, _, ⟨5, 2, 0, ⟨1, 20, 0, false, 0, 512, 0, 0, 0, 0⟩, none⟩, List.replicate 512 0, false, _, by exact ⟨by decide, by decide, rfl, ⟨rfl, rfl⟩⟩⟩,
    ⟨State.reset.withCmd ⟨5, 2, 0, ⟨1, 20, 0, false, 0, 32, 0, 0, 0, 0⟩, none⟩, _, ⟨5, 2, 0, ⟨1, 20, 0, false, 0, 32, 0, 0, 0, 0⟩, none⟩, [1, 2], false, by exact ⟨by decide, by decide, rfl, by decide⟩⟩,
    ⟨{ State.reset.wr Reg.UPD_NET_FED_EN 1 with upd := { State.reset.upd with conns := [true] } }, _, _, true, List.replicate 512 0, false, _, by exact ⟨by decide, ⟨by decide, rfl, by rw [List.length_replicate]; omega, by rw [List.length_replicate]; omega⟩, rfl, .inl (by decide), ⟨rfl, rfl⟩⟩⟩,
    ⟨State.reset.wr Reg.UPD_NET_FED_EN 0, true, [1], false, by exact ⟨by decide, .inl (by decide)⟩⟩,
    ⟨{ State.reset.wr Reg.UPD_NET_FED_EN 1 with upd := { State.reset.upd with conns := [true] } }, true, [], false, by decide⟩,
    ⟨{ State.reset.withCmd ⟨5, 2, 0, ⟨1, 20, 0, false, 0, 32, 0, 7, 0, 0⟩, none⟩ with mode := .hostedIdle, nvm := { State.reset.nvm with boot := { State.reset.nvm.boot with hdr := some ⟨0, 0, 0, 0, 100, 50, 60, [], []⟩ }, session := ⟨7, true, 0, []⟩ } }, _, ⟨5, 2, 0, ⟨1, 20, 0, false, 0, 32, 0, 7, 0, 0⟩, none⟩, 7, 0, [], ⟨0, 0, 0, 0, 100, 50, 60, [], []⟩, by exact ⟨by decide, by decide, by decide, by decide, rfl⟩⟩,
    ⟨{ State.reset.withCmd ⟨5, 2, 0, ⟨1, 20, 0, false, 0, 32, 0, 7, 0, 0⟩, none⟩ with mode := .hostedIdle, nvm := { State.reset.nvm with boot := { State.reset.nvm.boot with hdr := some ⟨0, 0, 0, 0, 100, 50, 60, [], []⟩ }, session := ⟨7, true, 0, [(0, 1)]⟩ } }, _, ⟨5, 2, 0, ⟨1, 20, 0, false, 0, 32, 0, 7, 0, 0⟩, none⟩, 7, 0, [], ⟨0, 0, 0, 0, 100, 50, 60, [], []⟩, by exact ⟨by decide, by decide, by decide, by decide, rfl⟩⟩,
    ⟨{ State.reset.withCmd ⟨5, 2, 0, ⟨1, 20, 0, false, 0, 32, 0, 8, 0, 0⟩, none⟩ with mode := .hostedIdle, nvm := { State.reset.nvm with boot := { State.reset.nvm.boot with hdr := some ⟨0, 0, 0, 0, 100, 50, 60, [], []⟩ }, session := ⟨7, true, 0, []⟩ } }, _, ⟨5, 2, 0, ⟨1, 20, 0, false, 0, 32, 0, 8, 0, 0⟩, none⟩, 7, 0, [], ⟨0, 0, 0, 0, 100, 50, 60, [], []⟩, by exact ⟨by decide, by decide, by decide, .inr (by decide), rfl⟩⟩,
    ⟨{ State.reset.withCmd ⟨5, 2, 0, ⟨1, 20, 0, false, 0, 32, 0, 7, 0, 0⟩, none⟩ with mode := .pantry }, _, ⟨5, 2, 0, ⟨1, 20, 0, false, 0, 32, 0, 7, 0, 0⟩, none⟩, 7, 0, [], by exact ⟨by decide, by decide, by decide, rfl⟩⟩,
    ⟨{ State.reset.wr Reg.UPD_NET_FED_EN 1 with mode := .hostedIdle, upd := { State.reset.upd with conns := [true] }, nvm := { State.reset.nvm with boot := { State.reset.nvm.boot with hdr := some ⟨0, 0, 0, 0, 100, 50, 60, [], []⟩ }, session := ⟨7, true, 0, []⟩ } }, _, true, 7, 0, List.replicate 32 0, ⟨0, 0, 0, 0, 100, 50, 60, [], []⟩, by exact ⟨by decide, by decide, by decide, by decide, rfl⟩⟩,
    ⟨{ State.reset with upd := { State.reset.upd with queue := [⟨.lan false, 7, 0, []⟩] }, nvm := { State.reset.nvm with boot := { State.reset.nvm.boot with hdr := some ⟨0, 0, 0, 0, 100, 50, 60, [], []⟩ }, session := ⟨7, true, 0, []⟩ } }, _, ⟨.lan false, 7, 0, []⟩, [], ⟨0, 0, 0, 0, 100, 50, 60, [], []⟩, by exact ⟨by decide, ⟨rfl, rfl⟩, by decide, rfl⟩⟩,
    ⟨{ State.reset with upd := { State.reset.upd with queue := [⟨.lan false, 7, 0, []⟩] }, nvm := { State.reset.nvm with boot := { State.reset.nvm.boot with hdr := some ⟨0, 0, 0, 0, 100, 50, 60, [], []⟩ }, session := ⟨7, true, 0, []⟩ } }, _, ⟨.lan false, 7, 0, []⟩, [], ⟨0, 0, 0, 0, 100, 50, 60, [], []⟩, _, by exact ⟨by decide, ⟨rfl, rfl⟩, by decide, rfl, rfl⟩⟩,
    ⟨{ State.reset with upd := { State.reset.upd with queue := [⟨.lan false, 8, 0, []⟩] }, nvm := { State.reset.nvm with boot := { State.reset.nvm.boot with hdr := some ⟨0, 0, 0, 0, 100, 50, 60, [], []⟩ }, session := ⟨7, true, 0, []⟩ } }, _, ⟨.lan false, 8, 0, []⟩, [], ⟨0, 0, 0, 0, 100, 50, 60, [], []⟩, true, by exact ⟨by decide, ⟨rfl, rfl⟩, .inr (by decide), rfl⟩⟩,
    ⟨State.reset.wr Reg.UPD_NET_FED_EN 1, true, by decide⟩,
    ⟨{ State.reset with upd := { State.reset.upd with conns := [true, true, false, false] } }, true, by exact ⟨by decide, .inr (by decide)⟩⟩,
    ⟨State.reset, true, by decide⟩,
    ⟨{ State.reset with nvm := { State.reset.nvm with session := ⟨7, true, 0, []⟩ } }, by decide⟩⟩

/-- The hypotheses of each clause of UpdateActivation are met, in order. -/
theorem test_UpdateActivation_met :
    (∃ (s : State) (c : Cmd) (n : Nat), (s.Up) ∧ (s.Accepts c .command) ∧ (c.desc.length = 0 ∧ bits c.desc.p1.toNat 16 16 = 0 ∧
      (s.nvm.boot.loft = .ready ∨ s.nvm.boot.loft = .scheduled) ∧ s.nvm.boot.lock = false ∧ s.mode ≠ .update) ∧ (n = c.desc.p0.toNat +
      4294967296 * bits c.desc.p1.toNat 0 16 ∧ (s.now.sec + 10) * 1000000000 + s.now.ns ≤ n * 1000000000))
    ∧ (∃ (s : State) (c : Cmd) (n v : Nat), (s.Up) ∧ (s.Accepts c .command) ∧ (n = c.desc.p0.toNat + 4294967296 * bits c.desc.p1.toNat 0 16) ∧
      (v = (if c.desc.length ≠ 0 then St.badLength else if bits c.desc.p1.toNat 16 16 ≠ 0 then St.badFormat else if s.nvm.boot.loft ≠ .ready
      ∧ s.nvm.boot.loft ≠ .scheduled then St.conflict else if s.nvm.boot.lock = true then St.refusedLock else if n * 1000000000 < (s.now.sec
      + 10) * 1000000000 + s.now.ns then St.stale else if s.mode = .update then St.busy else St.done) ∧ v ≠ St.done))
    ∧ (∃ (s u : State), (s.Up) ∧ (u = s.wholeSecond ∧ u.mode = .hostedIdle) ∧ (u.nvm.boot.loft = .scheduled ∧ u.nvm.boot.actSec ≤ u.now.sec ∧
      u.now.sec ≤ u.nvm.boot.actSec + u.rd Reg.UPD_CFG_DEFER_MAX) ∧ (u.parkReason = 0 ∧ u.pwr.pdown = none ∧ u.pwr.pfailLatched = false))
    ∧ (∃ (s u w : State), (s.Up) ∧ (u = s.wholeSecond ∧ u.mode = .fleetHold) ∧ (u.nvm.boot.loft = .scheduled ∧ u.nvm.boot.actSec ≤ u.now.sec ∧
      u.now.sec ≤ u.nvm.boot.actSec + u.rd Reg.UPD_CFG_DEFER_MAX) ∧ (u.parkReason = 0 ∧ u.pwr.pdown = none ∧ u.pwr.pfailLatched = false) ∧
      (w = State.wr (State.leaveCommitting (u.wr Reg.UPD_STATUS_DEFER_REASON 0)) Reg.TRP_HOLD_CAUSE_IDLE 1))
    ∧ (∃ (s u : State) (r : Nat), (s.Up) ∧ (u = s.wholeSecond ∧ u.mode ≠ .update ∧ u.pwr.pfailLatched = false) ∧ (u.nvm.boot.loft = .scheduled
      ∧ u.nvm.boot.actSec ≤ u.now.sec ∧ u.now.sec ≤ u.nvm.boot.actSec + u.rd Reg.UPD_CFG_DEFER_MAX) ∧ (r = (if u.mode = .hostedIdle ∨ u.mode
      = .fleetHold then u.parkReason else 1) ∧ r ≠ 0))
    ∧ (∃ (s u : State), (s.Up) ∧ (u = s.wholeSecond ∧ u.mode ≠ .update ∧ u.pwr.pfailLatched = false) ∧ (u.nvm.boot.loft = .scheduled ∧
      u.nvm.boot.actSec + u.rd Reg.UPD_CFG_DEFER_MAX < u.now.sec))
    ∧ (∃ (s u : State), (s.Up) ∧ (u = s.wholeSecond ∧ u.mode = .update ∧ u.pwr.pfailLatched = false ∧ u.parkReason ≠ 0))
    ∧ (∃ (s u : State), (s.Up) ∧ (u = s.wholeSecond ∧ u.mode ≠ .update) ∧ (u.nvm.boot.loft ≠ .scheduled ∨ u.now.sec < u.nvm.boot.actSec))
    ∧ (∃ (s : State), (s.Up) ∧ (s.nvm.boot.loft = .scheduled ∧ s.mode ≠ .update ∧ s.nvm.boot.actSec + s.rd Reg.UPD_CFG_DEFER_MAX ≤ s.now.sec))
    ∧ (∃ (s u : State) (d : BitVec 16), (s.Up) ∧ (s.mode = .update ∧ s.nvm.boot.loft = .scheduled ∧ s.pwr.pfailLatched = false) ∧ (u =
      State.flushFor (State.showUpd ((s.advance ⟨s.upd.entered + 1, 0, 0⟩).setBoot { s.nvm.boot with loft := .trial, trialCount := 0 })) 3))
    ∧ (∃ (s : State) (h : ImgHdr) (a : SettingsArea) (ok : Bool), (s.Up) ∧ (s.nvm.boot.hdr = some h ∧ s.on Reg.UPD_STATUS_TRIAL = true ∧
      s.upd.migrated = false ∧ s.mode = .boot) ∧ (a = s.areaAt s.nvm.boot.curArea ∧ a.good = true ∧ a.lcGen = s.rd Reg.VLT_LIFECYCLE_LC_GEN)
      ∧ (a.schema < h.schemaFrom ∨ h.schema < a.schema ∨ ok = false) ∧ (s.pwr.pfailLatched = false))
    ∧ (∃ (s u : State) (h : ImgHdr) (a : SettingsArea), (s.Up) ∧ (s.nvm.boot.hdr = some h ∧ s.on Reg.UPD_STATUS_TRIAL = true ∧ s.upd.migrated
      = false ∧ s.mode = .boot) ∧ (a = s.areaAt s.nvm.boot.curArea ∧ a.good = true ∧ a.lcGen = s.rd Reg.VLT_LIFECYCLE_LC_GEN) ∧
      (h.schemaFrom ≤ a.schema ∧ a.schema ≤ h.schema) ∧ (u = (State.storeWith ({ s with upd := { s.upd with migrated := true } } : State)
      (fun (_ : SettingsArea) => a)).takeArea a))
    ∧ (∃ (s u : State) (h : ImgHdr) (ok : Bool), (s.Up) ∧ (s.nvm.boot.hdr = some h ∧ s.on Reg.UPD_STATUS_TRIAL = true ∧ s.upd.migrated = false
      ∧ s.mode = .boot) ∧ (((s.areaAt s.nvm.boot.curArea).good && (s.areaAt s.nvm.boot.curArea).lcGen == s.rd Reg.VLT_LIFECYCLE_LC_GEN) =
      false) ∧ (u = State.storeWith ({ s with upd := { s.upd with migrated := true } } : State) (fun (x : SettingsArea) => x)))
    ∧ (∃ (s : State) (h : ImgHdr), (s.Up) ∧ (s.nvm.boot.hdr = some h ∧ s.on Reg.UPD_STATUS_TRIAL = true ∧ s.on Reg.CLK_ADMIT_STATUS_BOOT_DONE
      = true ∧ s.on Reg.VLT_STATUS_READY = true) ∧ (s.upd.migrated = true ∧ s.pwr.core = false ∧ (s.on Reg.UPD_CFG_CONFIRM_HOST = false ∨
      s.upd.hostOk = true)))
    ∧ (∃ (s u : State), (s.Up) ∧ (s.on Reg.UPD_STATUS_TRIAL = true ∧ u = s.advance s.trialEnd ∧ u.pwr.pfailLatched = false))
    ∧ (∃ (s : State), (s.Up) ∧ (s.on Reg.UPD_STATUS_TRIAL = false))
    ∧ (∃ (s : State), (s.Up))
    ∧ (∃ (s : State), (s.Up))
    ∧ (∃ (s : State), (s.Up) ∧ (s.nvm.boot.loft = .scheduled ∧ s.mode ≠ .update))
    ∧ (∃ (s : State), (s.Up) ∧ (s.nvm.boot.loft = .scheduled ∧ s.mode = .update ∧ s.pwr.pfailLatched = false))
    ∧ (∃ (s : State), (s.Up) ∧ (s.nvm.boot.loft ≠ .scheduled))
    ∧ (∃ (s : State), (s.Up) ∧ (s.on Reg.UPD_STATUS_TRIAL = true))
    ∧ (∃ (s : State), (s.Up) ∧ (s.on Reg.UPD_STATUS_TRIAL = false))
    ∧ (∃ (s u : State), (s.Up) ∧ (s.nvm.boot.loft = .failed ∨ s.nvm.boot.loft = .receiving) ∧ (u = State.setBoot (State.discardChunks
      (s.setBoot { s.nvm.boot with barred := none })) { s.nvm.boot with barred := none, loft := .empty, hdr := none }))
    ∧ (∃ (s : State) (n : Nat), (s.Up) ∧ (s.nvm.boot.loft ≠ .failed ∧ s.nvm.boot.loft ≠ .receiving ∧ s.nvm.boot.barred = some n))
    ∧ (∃ (s : State), (s.Up) ∧ (s.nvm.boot.loft ≠ .failed ∧ s.nvm.boot.loft ≠ .receiving ∧ s.nvm.boot.barred = none))
    ∧ (∃ (s : State), (s.Up))
    ∧ (∃ (s : State), (s.Up))
    ∧ (∃ (s : State), (s.Up))
    ∧ (∃ (s : State), (s.Up))
    ∧ (∃ (s : State), (s.Up))
    ∧ (∃ (s u : State), (s.Up) ∧ (60 ≤ s.sh Reg.UPD_CFG_DEFER_MAX ∧ s.sh Reg.UPD_CFG_TRIAL_BOOTS ≠ 0 ∧ s.sh Reg.UPD_CFG_SESSION_IDLE ≠ 0 ∧
      s.sh Reg.UPD_NET_PORT ≠ 0) ∧ (u = s.commit Reg.UPD_COMMIT_RESULT [Reg.UPD_CFG_DEFER_MAX, Reg.UPD_CFG_BATT_RULE, Reg.UPD_CFG_BATT_EN,
      Reg.UPD_CFG_CONFIRM_HOST, Reg.UPD_CFG_TRIAL_BOOTS, Reg.UPD_CFG_SESSION_IDLE, Reg.UPD_NET_PORT, Reg.UPD_NET_FED_EN] St.done))
    ∧ (∃ (s : State), (s.Up) ∧ (s.sh Reg.UPD_CFG_DEFER_MAX < 60 ∨ s.sh Reg.UPD_CFG_TRIAL_BOOTS = 0 ∨ s.sh Reg.UPD_CFG_SESSION_IDLE = 0 ∨ s.sh
      Reg.UPD_NET_PORT = 0)) :=
  ⟨⟨{ State.reset.withCmd ⟨5, 2, 0, ⟨3, 20, 0, false, 0, 0, 0, 100, 0, 0⟩, none⟩ with nvm := { State.reset.nvm with boot := { State.reset.nvm.boot with loft := .ready } } }, ⟨5, 2, 0, ⟨3, 20, 0, false, 0, 0, 0, 100, 0, 0⟩, none⟩, 100, by exact ⟨by decide, by decide, ⟨by decide, by decide, .inl rfl, by decide, by decide⟩, by decide⟩⟩,
    ⟨State.reset.withCmd ⟨5, 2, 0, ⟨3, 20, 0, false, 0, 0, 0, 100, 0, 0⟩, none⟩, ⟨5, 2, 0, ⟨3, 20, 0, false, 0, 0, 0, 100, 0, 0⟩, none⟩, _, _, by exact ⟨by decide, by decide, rfl, rfl, by decide⟩⟩,
    ⟨{ State.reset with mode := .hostedIdle, nvm := { State.reset.nvm with boot := { State.reset.nvm.boot with loft := .scheduled } } }, _, by exact ⟨by decide, ⟨rfl, by decide⟩, by decide, by decide⟩⟩,
    ⟨{ State.reset with mode := .fleetHold, nvm := { State.reset.nvm with boot := { State.reset.nvm.boot with loft := .scheduled } } }, _, _, by exact ⟨by decide, ⟨rfl, by decide⟩, by decide, by decide, rfl⟩⟩,
    ⟨{ State.reset with mode := .pantry, nvm := { State.reset.nvm with boot := { State.reset.nvm.boot with loft := .scheduled } } }, _, _, by exact ⟨by decide, ⟨rfl, by decide, by decide⟩, by decide, rfl, by decide⟩⟩,
    ⟨{ State.reset with mode := .hostedIdle, tim := { State.reset.tim with now := ⟨9999999, 0, 0⟩ }, nvm := { State.reset.nvm with boot := { State.reset.nvm.boot with loft := .scheduled } } }, _, by exact ⟨by decide, ⟨rfl, by decide, by decide⟩, by decide⟩⟩,
    ⟨{ State.reset with mode := .update, nvm := { State.reset.nvm with boot := { State.reset.nvm.boot with loft := .scheduled, lock := true } } }, _, by exact ⟨by decide, ⟨rfl, by decide, by decide, by decide⟩⟩⟩,
    ⟨State.reset, _, by exact ⟨by decide, ⟨rfl, by decide⟩, .inl (by decide)⟩⟩,
    ⟨{ State.reset with tim := { State.reset.tim with now := ⟨9999999, 0, 0⟩ }, nvm := { State.reset.nvm with boot := { State.reset.nvm.boot with loft := .scheduled } } }, by decide⟩,
    ⟨{ State.reset with mode := .update, nvm := { State.reset.nvm with boot := { State.reset.nvm.boot with loft := .scheduled } } }, _, 5, by exact ⟨by decide, by decide, rfl⟩⟩,
    ⟨{ State.reset.wr Reg.UPD_STATUS_TRIAL 1 with nvm := { State.reset.nvm with boot := { State.reset.nvm.boot with hdr := some ⟨0, 0, 0, 0, 100, 50, 60, [], []⟩ }, areas := [(0, { SettingsArea.blank with good := true }), (1, { SettingsArea.blank with good := true })] } }, ⟨0, 0, 0, 0, 100, 50, 60, [], []⟩, _, false, by exact ⟨by decide, by decide, ⟨rfl, by decide, by decide⟩, .inr (.inr rfl), by decide⟩⟩,
    ⟨{ State.reset.wr Reg.UPD_STATUS_TRIAL 1 with nvm := { State.reset.nvm with boot := { State.reset.nvm.boot with hdr := some ⟨0, 0, 0, 0, 100, 50, 60, [], []⟩ }, areas := [(0, { SettingsArea.blank with good := true }), (1, { SettingsArea.blank with good := true })] } }, _, ⟨0, 0, 0, 0, 100, 50, 60, [], []⟩, _, by exact ⟨by decide, by decide, ⟨rfl, by decide, by decide⟩, by decide, rfl⟩⟩,
    ⟨{ State.reset.wr Reg.UPD_STATUS_TRIAL 1 with nvm := { State.reset.nvm with boot := { State.reset.nvm.boot with hdr := some ⟨0, 0, 0, 0, 100, 50, 60, [], []⟩ } } }, _, ⟨0, 0, 0, 0, 100, 50, 60, [], []⟩, true, by exact ⟨by decide, by decide, by decide, rfl⟩⟩,
    ⟨{ (State.reset.wrEach [(Reg.UPD_STATUS_TRIAL, 1), (Reg.CLK_ADMIT_STATUS_BOOT_DONE, 1), (Reg.VLT_STATUS_READY, 1)]) with nvm := { State.reset.nvm with boot := { State.reset.nvm.boot with hdr := some ⟨0, 0, 0, 0, 100, 50, 60, [], []⟩ } }, upd := { State.reset.upd with migrated := true } }, ⟨0, 0, 0, 0, 100, 50, 60, [], []⟩, by decide⟩,
    ⟨State.reset.wr Reg.UPD_STATUS_TRIAL 1, _, by exact ⟨by decide, by decide, rfl, by decide⟩⟩,
    ⟨State.reset, by decide⟩,
    ⟨State.reset, by decide⟩,
    ⟨State.reset, by decide⟩,
    ⟨{ State.reset with nvm := { State.reset.nvm with boot := { State.reset.nvm.boot with loft := .scheduled } } }, by decide⟩,
    ⟨{ State.reset with mode := .update, nvm := { State.reset.nvm with boot := { State.reset.nvm.boot with loft := .scheduled } } }, by decide⟩,
    ⟨State.reset, by decide⟩,
    ⟨State.reset.wr Reg.UPD_STATUS_TRIAL 1, by decide⟩,
    ⟨State.reset, by decide⟩,
    ⟨{ State.reset with nvm := { State.reset.nvm with boot := { State.reset.nvm.boot with loft := .failed } } }, _, by exact ⟨by decide, .inl rfl, rfl⟩⟩,
    ⟨{ State.reset with nvm := { State.reset.nvm with boot := { State.reset.nvm.boot with barred := some 7 } } }, 7, by decide⟩,
    ⟨State.reset, by decide⟩,
    ⟨State.reset, by decide⟩,
    ⟨State.reset, by decide⟩,
    ⟨State.reset, by decide⟩,
    ⟨State.reset, by decide⟩,
    ⟨State.reset, by decide⟩,
    ⟨State.reset, _, by exact ⟨by decide, by decide, rfl⟩⟩,
    ⟨State.reset.wrShadow Reg.UPD_NET_PORT 0, by exact ⟨by decide, .inr (.inr (.inr (by decide)))⟩⟩⟩

/-- The hypotheses of each clause of TallyImage are met, in order. -/
theorem test_TallyImage_met :
    (∃ (s : State) (r : TallyRec), (s.Up) ∧ (s.tlyOpen = true ∧ s.tly.flush = none) ∧ (r.bad = false ∧ r.dlen.toNat ≤ 40) ∧ (r.index.toNat <
      512 ∧ bits (s.hdef r.index.toNat 0) 0 8 ≠ 0) ∧ (0 < AMap.get s.tly.body.hist (32 * r.index.toNat + binOf (bits (s.hdef r.index.toNat
      0) 0 8) (signed 32 (s.hdef r.index.toNat 1)) (signed 32 r.value.toNat) (s.hdef r.index.toNat 2)) 0 + r.count.toNat ∧ AMap.get
      s.tly.body.hist (32 * r.index.toNat + binOf (bits (s.hdef r.index.toNat 0) 0 8) (signed 32 (s.hdef r.index.toNat 1)) (signed 32
      r.value.toNat) (s.hdef r.index.toNat 2)) 0 + r.count.toNat ≤ 4294967295))
    ∧ (∃ (s : State) (r : TallyRec), (s.Up) ∧ (s.tlyOpen = true ∧ s.tly.flush = none) ∧ (r.bad = false ∧ r.dlen.toNat ≤ 40) ∧ (r.index.toNat <
      512 ∧ bits (s.hdef r.index.toNat 0) 0 8 ≠ 0) ∧ (4294967295 < AMap.get s.tly.body.hist (32 * r.index.toNat + binOf (bits (s.hdef
      r.index.toNat 0) 0 8) (signed 32 (s.hdef r.index.toNat 1)) (signed 32 r.value.toNat) (s.hdef r.index.toNat 2)) 0 + r.count.toNat))
    ∧ (∃ (s u x : State) (r : TallyRec), (s.Up) ∧ (s.tlyOpen = true ∧ s.tly.flush = none) ∧ (r.bad = false ∧ r.dlen.toNat ≤ 40) ∧ (512 ≤
      r.index.toNat ∨ bits (s.hdef r.index.toNat 0) 0 8 = 0) ∧ (u = State.received (s.consume 48 (toWords ([0x70, 1] ++ le 2 r.index.toNat
      ++ le 4 r.value.toNat ++ le 4 r.count.toNat ++ [r.dlen.toNat, 0, 0, 0] ++ r.data.map BitVec.toNat))) ∧ x =
      { u with tly := { u.tly with applied := u.tly.applied + 1 } }))
    ∧ (∃ (s u : State) (r : TallyRec) (f : TlyFlush), (s.Up) ∧ (s.tlyOpen = true ∧ s.tly.flush = some f ∧ s.tly.shadow.length < 4096) ∧ (u =
      State.received (s.consume 48 (toWords ([0x70, 1] ++ le 2 r.index.toNat ++ le 4 r.value.toNat ++ le 4 r.count.toNat ++ [r.dlen.toNat,
      0, 0, 0] ++ r.data.map BitVec.toNat)))))
    ∧ (∃ (s u : State) (r : TallyRec) (f : TlyFlush), (s.Up) ∧ (s.tlyOpen = true ∧ s.tly.flush = some f ∧ 4096 ≤ s.tly.shadow.length) ∧ (u =
      State.received (s.consume 48 (toWords ([0x70, 1] ++ le 2 r.index.toNat ++ le 4 r.value.toNat ++ le 4 r.count.toNat ++ [r.dlen.toNat,
      0, 0, 0] ++ r.data.map BitVec.toNat)))))
    ∧ (∃ (s : State) (r : TallyRec), (s.Up) ∧ (s.tlyOpen = false))
    ∧ (∃ (s u x : State) (r : TallyRec), (s.Up) ∧ (s.tlyOpen = true ∧ s.tly.flush = none) ∧ (r.bad = true ∨ 40 < r.dlen.toNat) ∧ (u =
      State.received (s.consume 48 (toWords ([0x70, 1] ++ le 2 r.index.toNat ++ le 4 r.value.toNat ++ le 4 r.count.toNat ++ [r.dlen.toNat,
      0, 0, 0] ++ r.data.map BitVec.toNat))) ∧ x = { u with tly := { u.tly with applied := u.tly.applied + 1 } }))
    ∧ (∃ (s : State) (r : TallyRec), (s.Up) ∧ (s.tlyOpen = true ∧ s.tly.flush = none) ∧ (r.bad = false ∧ r.dlen.toNat ≤ 40) ∧ (64 ≤
      r.index.toNat ∧ r.index.toNat < 256 ∧ bits (AMap.get s.tly.xdef (2 * r.index.toNat) 0) 0 8 ≠ 0) ∧ (AMap.find r.index.toNat
      s.tly.body.ext = none))
    ∧ (∃ (s : State) (r : TallyRec) (e : Extreme), (s.Up) ∧ (s.tlyOpen = true ∧ s.tly.flush = none) ∧ (r.bad = false ∧ r.dlen.toNat ≤ 40) ∧
      (64 ≤ r.index.toNat ∧ r.index.toNat < 256 ∧ bits (AMap.get s.tly.xdef (2 * r.index.toNat) 0) 0 8 ≠ 0) ∧ (AMap.find r.index.toNat
      s.tly.body.ext = some e))
    ∧ (∃ (s u x : State) (r : TallyRec), (s.Up) ∧ (s.tlyOpen = true ∧ s.tly.flush = none) ∧ (r.bad = false ∧ r.dlen.toNat ≤ 40) ∧
      (r.index.toNat < 64 ∨ 256 ≤ r.index.toNat ∨ bits (AMap.get s.tly.xdef (2 * r.index.toNat) 0) 0 8 = 0) ∧ (u = State.received (s.consume
      48 (toWords ([0x70, 2] ++ le 2 r.index.toNat ++ le 4 r.value.toNat ++ le 4 r.count.toNat ++ [r.dlen.toNat, 0, 0, 0] ++ r.data.map
      BitVec.toNat))) ∧ x = { u with tly := { u.tly with applied := u.tly.applied + 1 } }))
    ∧ (∃ (s u : State) (r : TallyRec) (f : TlyFlush), (s.Up) ∧ (s.tlyOpen = true ∧ s.tly.flush = some f ∧ s.tly.shadow.length < 4096) ∧ (u =
      State.received (s.consume 48 (toWords ([0x70, 2] ++ le 2 r.index.toNat ++ le 4 r.value.toNat ++ le 4 r.count.toNat ++ [r.dlen.toNat,
      0, 0, 0] ++ r.data.map BitVec.toNat)))))
    ∧ (∃ (s u : State) (r : TallyRec) (f : TlyFlush), (s.Up) ∧ (s.tlyOpen = true ∧ s.tly.flush = some f ∧ 4096 ≤ s.tly.shadow.length) ∧ (u =
      State.received (s.consume 48 (toWords ([0x70, 2] ++ le 2 r.index.toNat ++ le 4 r.value.toNat ++ le 4 r.count.toNat ++ [r.dlen.toNat,
      0, 0, 0] ++ r.data.map BitVec.toNat)))))
    ∧ (∃ (s : State) (r : TallyRec), (s.Up) ∧ (s.tlyOpen = false))
    ∧ (∃ (s u x : State) (r : TallyRec), (s.Up) ∧ (s.tlyOpen = true ∧ s.tly.flush = none) ∧ (r.bad = true ∨ 40 < r.dlen.toNat) ∧ (u =
      State.received (s.consume 48 (toWords ([0x70, 2] ++ le 2 r.index.toNat ++ le 4 r.value.toNat ++ le 4 r.count.toNat ++ [r.dlen.toNat,
      0, 0, 0] ++ r.data.map BitVec.toNat))) ∧ x = { u with tly := { u.tly with applied := u.tly.applied + 1 } }))
    ∧ (∃ (s : State) (r : TallyRec), (s.Up) ∧ (s.tlyOpen = true ∧ s.tly.flush = none) ∧ (r.bad = false ∧ r.dlen.toNat ≤ 40) ∧
      (s.tly.body.marks.length < 128))
    ∧ (∃ (s : State) (r : TallyRec), (s.Up) ∧ (s.tlyOpen = true ∧ s.tly.flush = none) ∧ (r.bad = false ∧ r.dlen.toNat ≤ 40) ∧ (128 ≤
      s.tly.body.marks.length))
    ∧ (∃ (s u : State) (r : TallyRec) (f : TlyFlush), (s.Up) ∧ (s.tlyOpen = true ∧ s.tly.flush = some f ∧ s.tly.shadow.length < 4096) ∧ (u =
      State.received (s.consume 48 (toWords ([0x70, 3] ++ le 2 r.index.toNat ++ le 4 r.value.toNat ++ le 4 r.count.toNat ++ [r.dlen.toNat,
      0, 0, 0] ++ r.data.map BitVec.toNat)))))
    ∧ (∃ (s u : State) (r : TallyRec) (f : TlyFlush), (s.Up) ∧ (s.tlyOpen = true ∧ s.tly.flush = some f ∧ 4096 ≤ s.tly.shadow.length) ∧ (u =
      State.received (s.consume 48 (toWords ([0x70, 3] ++ le 2 r.index.toNat ++ le 4 r.value.toNat ++ le 4 r.count.toNat ++ [r.dlen.toNat,
      0, 0, 0] ++ r.data.map BitVec.toNat)))))
    ∧ (∃ (s : State) (r : TallyRec), (s.Up) ∧ (s.tlyOpen = false))
    ∧ (∃ (s u x : State) (r : TallyRec), (s.Up) ∧ (s.tlyOpen = true ∧ s.tly.flush = none) ∧ (r.bad = true ∨ 40 < r.dlen.toNat) ∧ (u =
      State.received (s.consume 48 (toWords ([0x70, 3] ++ le 2 r.index.toNat ++ le 4 r.value.toNat ++ le 4 r.count.toNat ++ [r.dlen.toNat,
      0, 0, 0] ++ r.data.map BitVec.toNat))) ∧ x = { u with tly := { u.tly with applied := u.tly.applied + 1 } }))
    ∧ (∃ (s : State) (r : TallyRec), (s.Up) ∧ (s.tlyOpen = true ∧ s.tly.flush = none) ∧ (r.bad = false ∧ r.dlen.toNat ≤ 40) ∧
      (s.tly.body.marks.length < 128))
    ∧ (∃ (s : State) (r : TallyRec), (s.Up) ∧ (s.tlyOpen = true ∧ s.tly.flush = none) ∧ (r.bad = false ∧ r.dlen.toNat ≤ 40) ∧ (128 ≤
      s.tly.body.marks.length))
    ∧ (∃ (s u : State) (r : TallyRec) (f : TlyFlush), (s.Up) ∧ (s.tlyOpen = true ∧ s.tly.flush = some f ∧ s.tly.shadow.length < 4096) ∧ (u =
      State.received (s.consume 48 (toWords ([0x70, 4] ++ le 2 r.index.toNat ++ le 4 r.value.toNat ++ le 4 r.count.toNat ++ [r.dlen.toNat,
      0, 0, 0] ++ r.data.map BitVec.toNat)))))
    ∧ (∃ (s u : State) (r : TallyRec) (f : TlyFlush), (s.Up) ∧ (s.tlyOpen = true ∧ s.tly.flush = some f ∧ 4096 ≤ s.tly.shadow.length) ∧ (u =
      State.received (s.consume 48 (toWords ([0x70, 4] ++ le 2 r.index.toNat ++ le 4 r.value.toNat ++ le 4 r.count.toNat ++ [r.dlen.toNat,
      0, 0, 0] ++ r.data.map BitVec.toNat)))))
    ∧ (∃ (s : State) (r : TallyRec), (s.Up) ∧ (s.tlyOpen = false))
    ∧ (∃ (s u x : State) (r : TallyRec), (s.Up) ∧ (s.tlyOpen = true ∧ s.tly.flush = none) ∧ (r.bad = true ∨ 40 < r.dlen.toNat) ∧ (u =
      State.received (s.consume 48 (toWords ([0x70, 4] ++ le 2 r.index.toNat ++ le 4 r.value.toNat ++ le 4 r.count.toNat ++ [r.dlen.toNat,
      0, 0, 0] ++ r.data.map BitVec.toNat))) ∧ x = { u with tly := { u.tly with applied := u.tly.applied + 1 } }))
    ∧ (∃ (s u x : State) (e : DormerRec), (s.Up) ∧ (s.tlyOpen = true ∧ s.tly.flush = none) ∧ (e.kind.toNat ≠ 3) ∧ (u = State.received
      (s.consume 46 (toWords ([0x40, e.rule.val, e.kind.toNat, e.src.toNat] ++ le 2 e.value.toNat ++ [0, 0] ++ le 4 e.seconds.toNat ++ le 2
      e.ticks.toNat ++ [e.flags.toNat, 0]))) ∧ x = { u with tly := { u.tly with applied := u.tly.applied + 1 } }))
    ∧ (∃ (s : State) (e : DormerRec), (s.Up) ∧ (s.tlyOpen = true ∧ s.tly.flush = none) ∧ (e.kind.toNat ≠ 3) ∧ (AMap.get s.tly.body.hist (32 *
      252 + binOf 1 0 e.kind.toNat 1) 0 < 4294967295))
    ∧ (∃ (s u x : State) (e : DormerRec), (s.Up) ∧ (s.tlyOpen = true ∧ s.tly.flush = none) ∧ (e.kind.toNat = 3) ∧ (u = State.received
      (s.consume 46 (toWords ([0x40, e.rule.val, e.kind.toNat, e.src.toNat] ++ le 2 e.value.toNat ++ [0, 0] ++ le 4 e.seconds.toNat ++ le 2
      e.ticks.toNat ++ [e.flags.toNat, 0]))) ∧ x = { u with tly := { u.tly with applied := u.tly.applied + 1 } }))
    ∧ (∃ (s u : State) (e : DormerRec) (f : TlyFlush), (s.Up) ∧ (s.tlyOpen = true ∧ s.tly.flush = some f ∧ s.tly.shadow.length < 4096) ∧ (u =
      State.received (s.consume 46 (toWords ([0x40, e.rule.val, e.kind.toNat, e.src.toNat] ++ le 2 e.value.toNat ++ [0, 0] ++ le 4
      e.seconds.toNat ++ le 2 e.ticks.toNat ++ [e.flags.toNat, 0])))))
    ∧ (∃ (s : State) (e : DormerRec), (s.Up) ∧ (s.tlyOpen = false))
    ∧ (∃ (s u : State) (k : Fin 512), (s.Up) ∧ (u = State.setBody s
      { s.tly.body with hist := s.tly.body.hist.filter (fun (p : Nat × Nat) => p.1 / 32 != k.val), ovr := AMap.del k.val s.tly.body.ovr }))
    ∧ (∃ (s u : State) (k : Fin 256), (s.Up) ∧ (u = State.setBody s { s.tly.body with ext := AMap.del k.val s.tly.body.ext }))
    ∧ (∃ (s : State) (b : TlyBank), (s.Up) ∧ (s.latestBank = some b))
    ∧ (∃ (s : State), (s.Up) ∧ (s.latestBank = none))
    ∧ (∃ (s : State) (l : List Nat), (s.Up) ∧ (l = (match s.latestBank with | some b => b.lost | none => [])))
    ∧ (∃ (s : State) (m : List TlyMark), (s.Up) ∧ (m = (match s.latestBank with | some b => b.body.marks | none => [])))
    ∧ (∃ (s : State), (s.Up) ∧ (s.sh Reg.TLY_CFG_FLUSH_PERIOD = 0 ∨ (5 ≤ s.sh Reg.TLY_CFG_FLUSH_PERIOD ∧ s.sh Reg.TLY_CFG_FLUSH_PERIOD ≤ 240))
      ∧ ((List.range 512).any (hdefBad s.tly.hdefSh) = false ∧ (List.range 256).any (xdefBad s.tly.xdefSh) = false) ∧ (((List.range 512).any
      fun h => wordsDiffer s.tly.hdef s.tly.hdefSh (4 * h) 4 && s.histUsed h) = false ∧ ((List.range 256).any fun x => wordsDiffer
      s.tly.xdef s.tly.xdefSh (2 * x) 2 && (AMap.find x s.tly.body.ext).isSome) = false))
    ∧ (∃ (s : State), (s.Up) ∧ ((s.sh Reg.TLY_CFG_FLUSH_PERIOD ≠ 0 ∧ s.sh Reg.TLY_CFG_FLUSH_PERIOD < 5) ∨ 240 < s.sh Reg.TLY_CFG_FLUSH_PERIOD
      ∨ (List.range 512).any (hdefBad s.tly.hdefSh) = true ∨ (List.range 256).any (xdefBad s.tly.xdefSh) = true))
    ∧ (∃ (s : State), (s.Up) ∧ (s.sh Reg.TLY_CFG_FLUSH_PERIOD = 0 ∨ (5 ≤ s.sh Reg.TLY_CFG_FLUSH_PERIOD ∧ s.sh Reg.TLY_CFG_FLUSH_PERIOD ≤ 240))
      ∧ ((List.range 512).any (hdefBad s.tly.hdefSh) = false ∧ (List.range 256).any (xdefBad s.tly.xdefSh) = false) ∧ (((List.range 512).any
      fun h => wordsDiffer s.tly.hdef s.tly.hdefSh (4 * h) 4 && s.histUsed h) = true ∨ ((List.range 256).any fun x => wordsDiffer s.tly.xdef
      s.tly.xdefSh (2 * x) 2 && (AMap.find x s.tly.body.ext).isSome) = true)) :=
  ⟨⟨{ (State.reset.wr Reg.TLY_STATUS_RESTORED 1) with tly := { State.reset.tly with hdef := firmwareHdef } }, ⟨0, 5, 3, 0, [], false⟩, by decide⟩,
    ⟨{ (State.reset.wr Reg.TLY_STATUS_RESTORED 1) with tly := { State.reset.tly with hdef := firmwareHdef, body := { State.reset.tly.body with hist := [(3, 4294967290)] } } }, ⟨0, 5, 9, 0, [], false⟩, by decide⟩,
    ⟨State.reset.wr Reg.TLY_STATUS_RESTORED 1, _, _, ⟨600, 5, 3, 0, [], false⟩, by exact ⟨by decide, by decide, by decide, .inl (by decide), ⟨rfl, rfl⟩⟩⟩,
    ⟨{ State.reset.wr Reg.TLY_STATUS_RESTORED 1 with tly := { State.reset.tly with flush := some ⟨⟨6, [], false, false⟩, false, State.reset.imageNow 6, false⟩ } }, _, ⟨0, 5, 3, 0, [], false⟩, ⟨⟨6, [], false, false⟩, false, State.reset.imageNow 6, false⟩, by exact ⟨by decide, ⟨by decide, rfl, by decide⟩, rfl⟩⟩,
    ⟨{ State.reset.wr Reg.TLY_STATUS_RESTORED 1 with tly := { State.reset.tly with flush := some ⟨⟨6, [], false, false⟩, false, State.reset.imageNow 6, false⟩, shadow := List.replicate 4096 ⟨1, 0, 0, 0, [], false, ⟨0, false⟩⟩ } }, _, ⟨0, 5, 3, 0, [], false⟩, ⟨⟨6, [], false, false⟩, false, State.reset.imageNow 6, false⟩, by exact ⟨by decide, ⟨by rfl, rfl, by rw [List.length_replicate]⟩, rfl⟩⟩,
    ⟨State.reset, ⟨0, 5, 3, 0, [], false⟩, by decide⟩,
    ⟨State.reset.wr Reg.TLY_STATUS_RESTORED 1, _, _, ⟨0, 5, 3, 0, [], true⟩, by exact ⟨by decide, by decide, .inl rfl, ⟨rfl, rfl⟩⟩⟩,
    ⟨{ (State.reset.wr Reg.TLY_STATUS_RESTORED 1) with tly := { State.reset.tly with xdef := firmwareXdef } }, ⟨64, 5, 3, 0, [], false⟩, by decide⟩,
    ⟨{ (State.reset.wr Reg.TLY_STATUS_RESTORED 1) with tly := { State.reset.tly with xdef := firmwareXdef, body := { State.reset.tly.body with ext := [(64, ⟨1, 3, ⟨0, false⟩, 4⟩)] } } }, ⟨64, 5, 3, 0, [], false⟩, ⟨1, 3, ⟨0, false⟩, 4⟩, by decide⟩,
    ⟨State.reset.wr Reg.TLY_STATUS_RESTORED 1, _, _, ⟨5, 5, 3, 0, [], false⟩, by exact ⟨by decide, by decide, by decide, .inl (by decide), ⟨rfl, rfl⟩⟩⟩,
    ⟨{ State.reset.wr Reg.TLY_STATUS_RESTORED 1 with tly := { State.reset.tly with flush := some ⟨⟨6, [], false, false⟩, false, State.reset.imageNow 6, false⟩ } }, _, ⟨64, 5, 3, 0, [], false⟩, ⟨⟨6, [], false, false⟩, false, State.reset.imageNow 6, false⟩, by exact ⟨by decide, ⟨by decide, rfl, by decide⟩, rfl⟩⟩,
    ⟨{ State.reset.wr Reg.TLY_STATUS_RESTORED 1 with tly := { State.reset.tly with flush := some ⟨⟨6, [], false, false⟩, false, State.reset.imageNow 6, false⟩, shadow := List.replicate 4096 ⟨1, 0, 0, 0, [], false, ⟨0, false⟩⟩ } }, _, ⟨64, 5, 3, 0, [], false⟩, ⟨⟨6, [], false, false⟩, false, State.reset.imageNow 6, false⟩, by exact ⟨by decide, ⟨by rfl, rfl, by rw [List.length_replicate]⟩, rfl⟩⟩,
    ⟨State.reset, ⟨64, 5, 3, 0, [], false⟩, by decide⟩,
    ⟨State.reset.wr Reg.TLY_STATUS_RESTORED 1, _, _, ⟨64, 5, 3, 0, [], true⟩, by exact ⟨by decide, by decide, .inl rfl, ⟨rfl, rfl⟩⟩⟩,
    ⟨State.reset.wr Reg.TLY_STATUS_RESTORED 1, ⟨64, 5, 3, 0, [], false⟩, by decide⟩,
    ⟨{ State.reset.wr Reg.TLY_STATUS_RESTORED 1 with tly := { State.reset.tly with body := { State.reset.tly.body with marks := List.replicate 128 ⟨1, 0, ⟨0, false⟩, 0, []⟩ } } }, ⟨64, 5, 3, 0, [], false⟩, by exact ⟨by decide, ⟨by decide, rfl⟩, by decide, by rw [show ({ State.reset.wr Reg.TLY_STATUS_RESTORED 1 with tly := { State.reset.tly with body := { State.reset.tly.body with marks := List.replicate 128 ⟨1, 0, ⟨0, false⟩, 0, []⟩ } } } : State).tly.body.marks = List.replicate 128 ⟨1, 0, ⟨0, false⟩, 0, []⟩ from rfl, List.length_replicate]⟩⟩,
    ⟨{ State.reset.wr Reg.TLY_STATUS_RESTORED 1 with tly := { State.reset.tly with flush := some ⟨⟨6, [], false, false⟩, false, State.reset.imageNow 6, false⟩ } }, _, ⟨64, 5, 3, 0, [], false⟩, ⟨⟨6, [], false, false⟩, false, State.reset.imageNow 6, false⟩, by exact ⟨by decide, ⟨by decide, rfl, by decide⟩, rfl⟩⟩,
    ⟨{ State.reset.wr Reg.TLY_STATUS_RESTORED 1 with tly := { State.reset.tly with flush := some ⟨⟨6, [], false, false⟩, false, State.reset.imageNow 6, false⟩, shadow := List.replicate 4096 ⟨1, 0, 0, 0, [], false, ⟨0, false⟩⟩ } }, _, ⟨64, 5, 3, 0, [], false⟩, ⟨⟨6, [], false, false⟩, false, State.reset.imageNow 6, false⟩, by exact ⟨by decide, ⟨by rfl, rfl, by rw [List.length_replicate]⟩, rfl⟩⟩,
    ⟨State.reset, ⟨64, 5, 3, 0, [], false⟩, by decide⟩,
    ⟨State.reset.wr Reg.TLY_STATUS_RESTORED 1, _, _, ⟨64, 5, 3, 0, [], true⟩, by exact ⟨by decide, by decide, .inl rfl, ⟨rfl, rfl⟩⟩⟩,
    ⟨State.reset.wr Reg.TLY_STATUS_RESTORED 1, ⟨64, 5, 3, 0, [], false⟩, by decide⟩,
    ⟨{ State.reset.wr Reg.TLY_STATUS_RESTORED 1 with tly := { State.reset.tly with body := { State.reset.tly.body with marks := List.replicate 128 ⟨1, 0, ⟨0, false⟩, 0, []⟩ } } }, ⟨64, 5, 3, 0, [], false⟩, by exact ⟨by decide, ⟨by decide, rfl⟩, by decide, by rw [show ({ State.reset.wr Reg.TLY_STATUS_RESTORED 1 with tly := { State.reset.tly with body := { State.reset.tly.body with marks := List.replicate 128 ⟨1, 0, ⟨0, false⟩, 0, []⟩ } } } : State).tly.body.marks = List.replicate 128 ⟨1, 0, ⟨0, false⟩, 0, []⟩ from rfl, List.length_replicate]⟩⟩,
    ⟨{ State.reset.wr Reg.TLY_STATUS_RESTORED 1 with tly := { State.reset.tly with flush := some ⟨⟨6, [], false, false⟩, false, State.reset.imageNow 6, false⟩ } }, _, ⟨64, 5, 3, 0, [], false⟩, ⟨⟨6, [], false, false⟩, false, State.reset.imageNow 6, false⟩, by exact ⟨by decide, ⟨by decide, rfl, by decide⟩, rfl⟩⟩,
    ⟨{ State.reset.wr Reg.TLY_STATUS_RESTORED 1 with tly := { State.reset.tly with flush := some ⟨⟨6, [], false, false⟩, false, State.reset.imageNow 6, false⟩, shadow := List.replicate 4096 ⟨1, 0, 0, 0, [], false, ⟨0, false⟩⟩ } }, _, ⟨64, 5, 3, 0, [], false⟩, ⟨⟨6, [], false, false⟩, false, State.reset.imageNow 6, false⟩, by exact ⟨by decide, ⟨by rfl, rfl, by rw [List.length_replicate]⟩, rfl⟩⟩,
    ⟨State.reset, ⟨64, 5, 3, 0, [], false⟩, by decide⟩,
    ⟨State.reset.wr Reg.TLY_STATUS_RESTORED 1, _, _, ⟨64, 5, 3, 0, [], true⟩, by exact ⟨by decide, by decide, .inl rfl, ⟨rfl, rfl⟩⟩⟩,
    ⟨State.reset.wr Reg.TLY_STATUS_RESTORED 1, _, _, ⟨3, 1, 2, 5, 6, 7, 0⟩, by exact ⟨by decide, ⟨by decide, rfl⟩, by decide, ⟨rfl, rfl⟩⟩⟩,
    ⟨State.reset.wr Reg.TLY_STATUS_RESTORED 1, ⟨3, 1, 2, 5, 6, 7, 0⟩, by decide⟩,
    ⟨State.reset.wr Reg.TLY_STATUS_RESTORED 1, _, _, ⟨3, 3, 2, 5, 6, 7, 0⟩, by exact ⟨by decide, ⟨by decide, rfl⟩, by decide, ⟨rfl, rfl⟩⟩⟩,
    ⟨{ State.reset.wr Reg.TLY_STATUS_RESTORED 1 with tly := { State.reset.tly with flush := some ⟨⟨6, [], false, false⟩, false, State.reset.imageNow 6, false⟩ } }, _, ⟨3, 1, 2, 5, 6, 7, 0⟩, ⟨⟨6, [], false, false⟩, false, State.reset.imageNow 6, false⟩, by exact ⟨by decide, ⟨by decide, rfl, by decide⟩, rfl⟩⟩,
    ⟨State.reset, ⟨3, 1, 2, 5, 6, 7, 0⟩, by decide⟩,
    ⟨State.reset, _, 5, by exact ⟨by decide, rfl⟩⟩,
    ⟨State.reset, _, 5, by exact ⟨by decide, rfl⟩⟩,
    ⟨{ State.reset with tly := { State.reset.tly with bank0 := some { State.reset.imageNow 5 with good := true } } }, { State.reset.imageNow 5 with good := true }, by exact ⟨by decide, rfl⟩⟩,
    ⟨State.reset, by exact ⟨by decide, rfl⟩⟩,
    ⟨State.reset, _, by exact ⟨by decide, rfl⟩⟩,
    ⟨State.reset, _, by exact ⟨by decide, rfl⟩⟩,
    ⟨{ (State.reset.wrShadow Reg.TLY_CFG_FLUSH_PERIOD 15) with tly := { State.reset.tly with hdef := [], hdefSh := [], xdef := [], xdefSh := [] } }, by exact ⟨by decide, .inr (by decide), ⟨List.any_eq_false.mpr fun x _ => Bool.false_ne_true, List.any_eq_false.mpr fun x _ => Bool.false_ne_true⟩, List.any_eq_false.mpr fun x _ => Bool.false_ne_true, List.any_eq_false.mpr fun x _ => Bool.false_ne_true⟩⟩,
    ⟨State.reset.wrShadow Reg.TLY_CFG_FLUSH_PERIOD 241, by exact ⟨by decide, .inr (.inl (by decide))⟩⟩,
    ⟨{ (State.reset.wrShadow Reg.TLY_CFG_FLUSH_PERIOD 15) with tly := { State.reset.tly with hdef := [(0, 2)], hdefSh := [], xdef := [], xdefSh := [], body := { State.reset.tly.body with hist := [(0, 1)] } } }, by exact ⟨by decide, .inr (by decide), ⟨List.any_eq_false.mpr fun x _ => Bool.false_ne_true, List.any_eq_false.mpr fun x _ => Bool.false_ne_true⟩, .inl (List.any_eq_true.mpr ⟨0, by simp, by decide⟩)⟩⟩⟩

/-- The hypotheses of each clause of TallyFlushes are met, in order. -/
theorem test_TallyFlushes_met :
    (∃ (s : State), (s.Up) ∧ (s.rd Reg.TLY_CFG_FLUSH_PERIOD ≠ 0 ∧ s.on Reg.TLY_STATUS_DEGRADED = false ∧ s.tly.flush = none ∧ s.tly.want =
      none))
    ∧ (∃ (s : State) (q : FlushReq), (s.Up) ∧ (s.rd Reg.TLY_CFG_FLUSH_PERIOD ≠ 0 ∧ s.on Reg.TLY_STATUS_DEGRADED = false ∧ s.tly.flush = none ∧
      s.tly.want = some q))
    ∧ (∃ (s : State) (f : TlyFlush), (s.Up) ∧ (s.rd Reg.TLY_CFG_FLUSH_PERIOD ≠ 0 ∧ s.on Reg.TLY_STATUS_DEGRADED = false ∧ s.tly.flush = some
      f))
    ∧ (∃ (s : State), (s.Up) ∧ (s.rd Reg.TLY_CFG_FLUSH_PERIOD ≠ 0 ∧ s.on Reg.TLY_STATUS_DEGRADED = true))
    ∧ (∃ (s : State), (s.Up) ∧ (s.rd Reg.TLY_CFG_FLUSH_PERIOD = 0))
    ∧ (∃ (s : State), (s.Up) ∧ (s.on Reg.TLY_STATUS_DEGRADED = false ∧ s.tly.flush = none ∧ s.tly.want = none))
    ∧ (∃ (s : State) (q : FlushReq), (s.Up) ∧ (s.on Reg.TLY_STATUS_DEGRADED = false ∧ s.tly.flush = none ∧ s.tly.want = some q))
    ∧ (∃ (s : State) (f : TlyFlush), (s.Up) ∧ (s.on Reg.TLY_STATUS_DEGRADED = false ∧ s.tly.flush = some f))
    ∧ (∃ (s : State), (s.Up) ∧ (s.on Reg.TLY_STATUS_DEGRADED = true))
    ∧ (∃ (s : State) (d : Cmd), (s.Up) ∧ (s.Accepts d .command) ∧ (d.desc.length = 0) ∧ (s.on Reg.TLY_STATUS_DEGRADED = false ∧ s.tly.flush =
      none ∧ s.tly.want = none))
    ∧ (∃ (s : State) (d : Cmd) (f : TlyFlush), (s.Up) ∧ (s.Accepts d .command) ∧ (d.desc.length = 0) ∧ (s.on Reg.TLY_STATUS_DEGRADED = false ∧
      s.tly.flush = some f ∧ f.committed = true))
    ∧ (∃ (s : State) (d : Cmd), (s.Up) ∧ (s.Accepts d .command) ∧ (d.desc.length ≠ 0))
    ∧ (∃ (s : State), (s.Up) ∧ (s.on Reg.TLY_STATUS_DEGRADED = true ∧ s.tly.flush = none ∧ s.tly.want = none))
    ∧ (∃ (s : State), (s.Up) ∧ (s.on Reg.TLY_STATUS_DEGRADED = false))
    ∧ (∃ (s u w : State) (q : FlushReq) (b : Bool), (s.Up) ∧ (s.tly.want = some q ∧ s.tly.flush = none) ∧ (u = (if q.cause = 1 ∨ q.cause = 2
      then State.lose (State.lose s 6 ((List.range 96).map fun n => (s.chute n).unread).sum) 8 s.dsp.win.length else s)) ∧ (b = u.nextBank ∧
      w = u.setBank b ((if b then u.tly.bank1 else u.tly.bank0).map fun (x : TlyBank) => { x with good := false })))
    ∧ (∃ (s : State), (s.Up) ∧ (s.tly.want = none ∨ s.tly.flush ≠ none))
    ∧ (∃ (s u w : State) (f : TlyFlush), (s.Up) ∧ (s.tly.flush = some f ∧ f.committed = false) ∧ (u = (fun (y : State) =>
      { y with tly := { y.tly with flush := some { f with committed := true }, received := s.tly.since, powerDone := s.tly.powerDone || (f.req.cause == 2 && s.pwr.pdown.isSome) } })
      (s.setBank f.bankB (some { f.image with good := true }))) ∧ (w = State.finishAll ((u.wrapBy Reg.TLY_FLUSHES 1).wrEach
      [(Reg.TLY_FLUSH_SEQ, f.image.flushSeq), (Reg.TLY_STATUS_BANK, bit f.bankB), (Reg.TLY_LAST_FLUSH_CAUSE, f.req.cause),
      (Reg.TLY_LAST_FLUSH_STATUS, St.done)]) St.done f.req.cmds))
    ∧ (∃ (s u w : State) (f : TlyFlush) (d : BitVec 16), (s.Up) ∧ (s.tly.flush = some f ∧ f.committed = true ∧ f.req.retest = false) ∧ (u =
      State.unfreeze { s.wr Reg.TLY_LAST_FLUSH_DURATION d.toNat with tly := { s.tly with applied := 0 } }) ∧ (w = (if u.pwr.pfailLatched =
      true ∧ (f.req.cause = 1 ∨ f.req.cause = 2) ∧ u.rd Reg.CLK_LAST_MODE_PFAIL_STAGE = 3 then u.wr Reg.CLK_LAST_MODE_PFAIL_STAGE 4 else
      u)))
    ∧ (∃ (s u w : State) (f : TlyFlush) (d : BitVec 16), (s.Up) ∧ (s.tly.flush = some f ∧ f.committed = true ∧ f.req.retest = true) ∧ (u =
      State.unfreeze (State.wrEach
      { s.wr Reg.TLY_LAST_FLUSH_DURATION d.toNat with tly := { s.tly with applied := 0, last := { s.tly.last with degraded := false } } }
      [(Reg.TLY_STATUS_DEGRADED, 0), (Reg.TLY_CTRL_RESULT, St.done)])) ∧ (w = (if u.pwr.pfailLatched = true ∧ (f.req.cause = 1 ∨ f.req.cause
      = 2) ∧ u.rd Reg.CLK_LAST_MODE_PFAIL_STAGE = 3 then u.wr Reg.CLK_LAST_MODE_PFAIL_STAGE 4 else u)))
    ∧ (∃ (s b a u w : State) (f : TlyFlush) (d : BitVec 16) (k : Word), (s.Up) ∧ (s.tly.flush = some f ∧ f.committed = true) ∧ (b =
      State.setBank (s.wr Reg.TLY_LAST_FLUSH_DURATION d.toNat) f.bankB ((if f.bankB then s.tly.bank1 else s.tly.bank0).map fun (x : TlyBank)
      => { x with good := false })) ∧ (a = (b.memFailure k.toNat 1).wr Reg.TLY_LAST_FLUSH_STATUS St.eccUncorrected ∧ u = State.unfreeze (if
      f.req.ctrl = true then a.wr Reg.TLY_CTRL_RESULT St.eccUncorrected else a)) ∧ (w = (if u.pwr.pfailLatched = true ∧ (f.req.cause = 1 ∨
      f.req.cause = 2) ∧ u.rd Reg.CLK_LAST_MODE_PFAIL_STAGE = 3 then u.wr Reg.CLK_LAST_MODE_PFAIL_STAGE 4 else u)))
    ∧ (∃ (s : State) (k : Option Word) (d : BitVec 16), (s.Up) ∧ (s.tly.flush = none))
    ∧ (∃ (s : State), (s.Up) ∧ (s.outputsStopped = true ∧ s.tly.stopped = false))
    ∧ (∃ (s : State), (s.Up) ∧ (s.outputsStopped = false))
    ∧ (∃ (s : State) (b : TlyBank), (s.Up) ∧ (s.on Reg.TLY_STATUS_RESTORED = false ∧ s.tly.bank0 = some b ∧ b.good = true ∧ s.tly.bank1 =
      none))
    ∧ (∃ (s : State), (s.Up) ∧ (s.on Reg.TLY_STATUS_RESTORED = false ∧ s.tly.bank0 = none ∧ s.tly.bank1 = none))
    ∧ (∃ (s : State) (a b : TlyBank), (s.Up) ∧ (s.on Reg.TLY_STATUS_RESTORED = false ∧ s.tly.bank0 = some a ∧ a.good = true ∧ s.tly.bank1 =
      some b ∧ b.good = true ∧ later b.flushSeq a.flushSeq = true))
    ∧ (∃ (s : State) (b : TlyBank) (k : Word), (s.Up) ∧ (s.on Reg.TLY_STATUS_RESTORED = false ∧ s.tly.bank0 = some b ∧ s.tly.bank1 = none))
    ∧ (∃ (s : State) (e : Option (Bool × Word)), (s.Up) ∧ (s.on Reg.TLY_STATUS_RESTORED = true))
    ∧ (∃ (s : State) (c : Cmd) (k : Nat) (m : List Nat), (s.Up) ∧ (s.Accepts c .dataOut) ∧ (c.desc.length.toNat = 86192 ∧ s.keyOf 9 = some k)
      ∧ (m = (State.snapImage (s.begun c)).bytes))
    ∧ (∃ (s : State) (c : Cmd), (s.Up) ∧ (s.Accepts c .dataOut) ∧ (c.desc.length.toNat ≠ 86192))
    ∧ (∃ (s : State) (c : Cmd), (s.Up) ∧ (s.Accepts c .dataOut) ∧ (c.desc.length.toNat = 86192 ∧ s.keyOf 9 = none))
    ∧ (∃ (s u : State) (c : Cmd) (p : List Byte) (v : Nat), (s.Up) ∧ (s.Accepts c .dataIn) ∧ (c.desc.length.toNat = 128 ∧ byteAt p 0 = 1 ∧
      byteAt p 1 ≤ 15 ∧ allZero (bytesAt p 2 2) = true ∧ allZero (bytesAt p 20 12) = true) ∧ (v = firstFail [(decide (s.mode ≠ .hostedIdle ∧
      s.mode ≠ .faultSafe), St.refusedMode), (decide (s.life ≠ 2 ∨ byteAt p 1 = 0 ∨ leAt p 12 8 ≠ Config.serial), St.conflict), (leAt p 4 8
      != s.challenge, St.stale), (!s.ownerSigned (bytesAt p 0 32) (bytesAt p 32 96), St.authFail)]) ∧ (u = State.newChallenge (s.begun c) ∧
      s.tly.flush = none ∧ s.tly.want = none))
    ∧ (∃ (s u : State) (c : Cmd) (p : List Byte) (v : Nat), (s.Up) ∧ (s.Accepts c .dataIn) ∧ (c.desc.length.toNat = 128 ∧ byteAt p 0 = 1 ∧
      byteAt p 1 ≤ 15 ∧ allZero (bytesAt p 2 2) = true ∧ allZero (bytesAt p 20 12) = true) ∧ (v = firstFail [(decide (s.mode ≠ .hostedIdle ∧
      s.mode ≠ .faultSafe), St.refusedMode), (decide (s.life ≠ 2 ∨ byteAt p 1 = 0 ∨ leAt p 12 8 ≠ Config.serial), St.conflict), (leAt p 4 8
      != s.challenge, St.stale), (!s.ownerSigned (bytesAt p 0 32) (bytesAt p 32 96), St.authFail)]) ∧ (u = State.newChallenge (s.begun c) ∧
      (s.tly.flush ≠ none ∨ s.tly.want ≠ none)))
    ∧ (∃ (s : State) (c : Cmd) (p : List Byte), (s.Up) ∧ (s.Accepts c .dataIn) ∧ (c.desc.length.toNat = 128 ∧ (byteAt p 0 ≠ 1 ∨ 15 < byteAt p
      1 ∨ allZero (bytesAt p 2 2) = false ∨ allZero (bytesAt p 20 12) = false)))
    ∧ (∃ (s : State) (c : Cmd) (p : List Byte), (s.Up) ∧ (s.Accepts c .dataIn) ∧ (c.desc.length.toNat ≠ 128)) :=
  ⟨⟨State.reset.wr Reg.TLY_CFG_FLUSH_PERIOD 15, by decide⟩,
    ⟨{ State.reset.wr Reg.TLY_CFG_FLUSH_PERIOD 15 with tly := { State.reset.tly with want := some ⟨6, [], false, false⟩ } }, ⟨6, [], false, false⟩, by decide⟩,
    ⟨{ State.reset.wr Reg.TLY_CFG_FLUSH_PERIOD 15 with tly := { State.reset.tly with flush := some ⟨⟨6, [], false, false⟩, false, State.reset.imageNow 6, false⟩ } }, ⟨⟨6, [], false, false⟩, false, State.reset.imageNow 6, false⟩, by decide⟩,
    ⟨State.reset.wrEach [(Reg.TLY_CFG_FLUSH_PERIOD, 15), (Reg.TLY_STATUS_DEGRADED, 1)], by decide⟩,
    ⟨State.reset.wr Reg.TLY_CFG_FLUSH_PERIOD 0, by decide⟩,
    ⟨State.reset, by decide⟩,
    ⟨{ State.reset with tly := { State.reset.tly with want := some ⟨5, [], false, false⟩ } }, ⟨5, [], false, false⟩, by decide⟩,
    ⟨{ State.reset with tly := { State.reset.tly with flush := some ⟨⟨6, [], false, false⟩, false, State.reset.imageNow 6, false⟩ } }, ⟨⟨6, [], false, false⟩, false, State.reset.imageNow 6, false⟩, by decide⟩,
    ⟨State.reset.wr Reg.TLY_STATUS_DEGRADED 1, by decide⟩,
    ⟨State.reset.withCmd ⟨5, 2, 0, ⟨3, 20, 0, false, 0, 0, 0, 100, 0, 0⟩, none⟩, ⟨5, 2, 0, ⟨3, 20, 0, false, 0, 0, 0, 100, 0, 0⟩, none⟩, by decide⟩,
    ⟨{ State.reset.withCmd ⟨5, 2, 0, ⟨3, 20, 0, false, 0, 0, 0, 100, 0, 0⟩, none⟩ with tly := { State.reset.tly with flush := some ⟨⟨6, [], false, false⟩, false, State.reset.imageNow 6, true⟩ } }, ⟨5, 2, 0, ⟨3, 20, 0, false, 0, 0, 0, 100, 0, 0⟩, none⟩, ⟨⟨6, [], false, false⟩, false, State.reset.imageNow 6, true⟩, by exact ⟨by decide, by decide, by decide, ⟨by decide, rfl, rfl⟩⟩⟩,
    ⟨State.reset.withCmd ⟨5, 2, 0, ⟨3, 20, 0, false, 0, 4, 0, 100, 0, 0⟩, none⟩, ⟨5, 2, 0, ⟨3, 20, 0, false, 0, 4, 0, 100, 0, 0⟩, none⟩, by decide⟩,
    ⟨State.reset.wr Reg.TLY_STATUS_DEGRADED 1, by decide⟩,
    ⟨State.reset, by decide⟩,
    ⟨{ State.reset with tly := { State.reset.tly with want := some ⟨6, [], false, false⟩ } }, _, _, ⟨6, [], false, false⟩, _, by exact ⟨by decide, ⟨rfl, rfl⟩, rfl, ⟨rfl, rfl⟩⟩⟩,
    ⟨State.reset, by exact ⟨by decide, .inl rfl⟩⟩,
    ⟨{ State.reset with tly := { State.reset.tly with flush := some ⟨⟨6, [], false, false⟩, false, State.reset.imageNow 6, false⟩ } }, _, _, ⟨⟨6, [], false, false⟩, false, State.reset.imageNow 6, false⟩, by exact ⟨by decide, ⟨rfl, rfl⟩, rfl, rfl⟩⟩,
    ⟨{ State.reset with tly := { State.reset.tly with flush := some ⟨⟨6, [], false, false⟩, false, State.reset.imageNow 6, true⟩ } }, _, _, ⟨⟨6, [], false, false⟩, false, State.reset.imageNow 6, true⟩, 5, by exact ⟨by decide, ⟨rfl, rfl, rfl⟩, rfl, rfl⟩⟩,
    ⟨{ State.reset with tly := { State.reset.tly with flush := some ⟨⟨6, [], true, true⟩, false, State.reset.imageNow 6, true⟩ } }, _, _, ⟨⟨6, [], true, true⟩, false, State.reset.imageNow 6, true⟩, 5, by exact ⟨by decide, ⟨rfl, rfl, rfl⟩, rfl, rfl⟩⟩,
    ⟨{ State.reset with tly := { State.reset.tly with flush := some ⟨⟨6, [], true, false⟩, false, State.reset.imageNow 6, true⟩ } }, _, _, _, _, ⟨⟨6, [], true, false⟩, false, State.reset.imageNow 6, true⟩, 5, 64, by exact ⟨by decide, ⟨rfl, rfl⟩, rfl, ⟨rfl, rfl⟩, rfl⟩⟩,
    ⟨State.reset, none, 5, by decide⟩,
    ⟨{ State.reset with pwr := { State.reset.pwr with pfailLatched := true } }, by decide⟩,
    ⟨State.reset, by decide⟩,
    ⟨{ State.reset with tly := { State.reset.tly with bank0 := some { State.reset.imageNow 5 with good := true } } }, { State.reset.imageNow 5 with good := true }, by decide⟩,
    ⟨State.reset, by decide⟩,
    ⟨{ State.reset with tly := { State.reset.tly with bank0 := some { State.reset.imageNow 5 with good := true }, bank1 := some { State.reset.imageNow 5 with good := true, flushSeq := 2 } } }, { State.reset.imageNow 5 with good := true }, { State.reset.imageNow 5 with good := true, flushSeq := 2 }, by decide⟩,
    ⟨{ State.reset with tly := { State.reset.tly with bank0 := some { State.reset.imageNow 5 with good := true } } }, { State.reset.imageNow 5 with good := true }, 64, by decide⟩,
    ⟨State.reset.wr Reg.TLY_STATUS_RESTORED 1, none, by decide⟩,
    ⟨(State.reset.withCmd ⟨5, 2, 0, ⟨1, 20, 0, false, 0, 86192, 0, 100, 0, 0⟩, none⟩).withKey 9 1 77, ⟨5, 2, 0, ⟨1, 20, 0, false, 0, 86192, 0, 100, 0, 0⟩, none⟩, 77, _, by exact ⟨by decide, by decide, ⟨by decide, rfl⟩, rfl⟩⟩,
    ⟨State.reset.withCmd ⟨5, 2, 0, ⟨1, 20, 0, false, 0, 64, 0, 100, 0, 0⟩, none⟩, ⟨5, 2, 0, ⟨1, 20, 0, false, 0, 64, 0, 100, 0, 0⟩, none⟩, by decide⟩,
    ⟨State.reset.withCmd ⟨5, 2, 0, ⟨1, 20, 0, false, 0, 86192, 0, 100, 0, 0⟩, none⟩, ⟨5, 2, 0, ⟨1, 20, 0, false, 0, 86192, 0, 100, 0, 0⟩, none⟩, by decide⟩,
    ⟨{ (State.reset.withCmd ⟨5, 2, 0, ⟨2, 20, 0, false, 0, 128, 0, 100, 0, 0⟩, none⟩).wr Reg.VLT_LIFECYCLE_STATE 2 with mode := .hostedIdle }, _, ⟨5, 2, 0, ⟨2, 20, 0, false, 0, 128, 0, 100, 0, 0⟩, none⟩, [1, 3], _, by exact ⟨by decide, by decide, by decide, rfl, ⟨rfl, rfl, rfl⟩⟩⟩,
    ⟨{ (State.reset.withCmd ⟨5, 2, 0, ⟨2, 20, 0, false, 0, 128, 0, 100, 0, 0⟩, none⟩).wr Reg.VLT_LIFECYCLE_STATE 2 with mode := .hostedIdle, tly := { State.reset.tly with want := some ⟨6, [], false, false⟩ } }, _, ⟨5, 2, 0, ⟨2, 20, 0, false, 0, 128, 0, 100, 0, 0⟩, none⟩, [1, 3], _, by exact ⟨by decide, by decide, by decide, rfl, ⟨rfl, .inr (by decide)⟩⟩⟩,
    ⟨{ State.reset.withCmd ⟨5, 2, 0, ⟨2, 20, 0, false, 0, 128, 0, 100, 0, 0⟩, none⟩ with mode := .hostedIdle }, ⟨5, 2, 0, ⟨2, 20, 0, false, 0, 128, 0, 100, 0, 0⟩, none⟩, [2, 3], by exact ⟨by decide, by decide, ⟨by decide, .inl (by decide)⟩⟩⟩,
    ⟨State.reset.withCmd ⟨5, 2, 0, ⟨2, 20, 0, false, 0, 64, 0, 100, 0, 0⟩, none⟩, ⟨5, 2, 0, ⟨2, 20, 0, false, 0, 64, 0, 100, 0, 0⟩, none⟩, [1, 3], by decide⟩⟩

/-- The hypotheses of each clause of VaultCommands are met, in order. -/
theorem test_VaultCommands_met :
    (∃ (s : State) (c : Cmd), (s.Up) ∧ (s.Accepts c .dataOut) ∧ (s.vaultShut = none ∧ c.desc.length.toNat = 104))
    ∧ (∃ (s : State) (c : Cmd) (q : Nat), (s.Up) ∧ (s.Accepts c .dataOut) ∧ (s.vaultShut = some q))
    ∧ (∃ (s : State) (c : Cmd), (s.Up) ∧ (s.Accepts c .dataOut) ∧ (s.vaultShut = none ∧ c.desc.length.toNat ≠ 104))
    ∧ (∃ (s u w : State) (c : Cmd) (p : List Byte) (v : Nat), (s.Up) ∧ (s.Accepts c .dataIn) ∧ (s.vaultShut = none ∧ c.desc.length.toNat =
      296) ∧ (u = State.newChallenge (s.begun c)) ∧ (v = firstFail [(s.vaultBusyMode, St.refusedMode), (decide (s.life ≠ 2 ∨ leAt p 8 8 ≠
      Config.serial), St.conflict), (leAt p 16 8 != s.challenge, St.stale), ((s.envelopeRoot p).isNone, St.authFail)]) ∧ (w =
      State.deriveSite (State.fill ([1, 2, 5, 6, 7, 8, 9].foldl State.nextGen u) 1 6 ((s.envelopeRoot p).getD 0) (some 0)) (leAt p 4 4)))
    ∧ (∃ (s : State) (c : Cmd) (q : Nat) (p : List Byte), (s.Up) ∧ (s.Accepts c .dataIn) ∧ (s.vaultShut = some q))
    ∧ (∃ (s : State) (c : Cmd) (p : List Byte), (s.Up) ∧ (s.Accepts c .dataIn) ∧ (s.vaultShut = none ∧ c.desc.length.toNat ≠ 296))
    ∧ (∃ (s u : State) (c : Cmd) (p : List Byte) (v : Nat), (s.Up) ∧ (s.Accepts c .dataIn) ∧ (s.vaultShut = none ∧ c.desc.length.toNat = 224)
      ∧ (u = State.newChallenge (s.begun c)) ∧ (v = firstFail [(s.vaultBusyMode, St.refusedMode), (leAt p 12 8 != Config.serial,
      St.conflict), (leAt p 4 8 != s.challenge, St.stale), (!s.ownerSigned (bytesAt p 0 128) (bytesAt p 128 96), St.authFail)]))
    ∧ (∃ (s : State) (c : Cmd) (q : Nat) (p : List Byte), (s.Up) ∧ (s.Accepts c .dataIn) ∧ (s.vaultShut = some q))
    ∧ (∃ (s : State) (c : Cmd) (p : List Byte), (s.Up) ∧ (s.Accepts c .dataIn) ∧ (s.vaultShut = none ∧ c.desc.length.toNat ≠ 224))
    ∧ (∃ (s u w : State) (c : Cmd) (p : List Byte) (e o i b : Bool) (g v : Nat) (x : Transition), (s.Up) ∧ (s.Accepts c .dataIn) ∧
      (s.vaultShut = none ∧ c.desc.length.toNat = 616) ∧ (u = State.newChallenge (s.begun c)) ∧ (lifecycleRow s.lifeRow (byteAt p 1) = some
      (g, o, i, false)) ∧ (b = (byteAt p 0 != 1 || decide (5 < byteAt p 1) || !allZero (bytesAt p 2 2) || !allZero (bytesAt p 20 12) ||
      (allZero (bytesAt p 32 96) == o) || (allZero (bytesAt p 128 96) == i) || !allZero (((p.drop 224).take 296).map BitVec.toNat) ||
      (allZero (bytesAt p 520 96) == (g != 0)) || (o && !Config.onCurve (bytesAt p 32 96)) || (i && !Config.onCurve (bytesAt p 128 96)))) ∧
      (v = firstFail [(decide (s.mode ≠ .hostedIdle ∧ s.mode ≠ .survey ∧ s.mode ≠ .faultSafe), St.refusedMode), (decide (leAt p 12 8 ≠
      Config.serial ∨ 31 < s.rd Reg.VLT_LIFECYCLE_LC_GEN ∨ (s.rd Reg.VLT_LIFECYCLE_LC_GEN = 31 ∧ byteAt p 1 ≠ 5)), St.conflict), (leAt p 4 8
      != s.challenge, St.stale),
      (!(match g with | 1 => s.ownerSigned (bytesAt p 0 520) (bytesAt p 520 96) | 2 => Config.ecdsaVerify Config.serviceKey (bytesAt p 0 520) (bytesAt p 520 96) | _ => true),
      St.authFail)]) ∧ (x =
      ⟨byteAt p 1, if allZero (bytesAt p 32 96) then none else some (unle (bytesAt p 32 96)), if allZero (bytesAt p 128 96) then none else some (unle (bytesAt p 128 96)), none⟩
      ∧ w = State.wr { u with vlt := { u.vlt with trans := some x } } Reg.VLT_LIFECYCLE_TRANSITION 1))
    ∧ (∃ (s u w : State) (c : Cmd) (p n : List Byte) (e b : Bool) (v : Nat) (x : Transition), (s.Up) ∧ (s.Accepts c .dataIn) ∧ (s.vaultShut =
      none ∧ c.desc.length.toNat = 616) ∧ (u = State.newChallenge (s.begun c)) ∧ (lifecycleRow s.lifeRow (byteAt p 1) = some (1, true, true,
      true) ∧ n = (p.drop 224).take 296) ∧ (b = (byteAt p 0 != 1 || decide (5 < byteAt p 1) || !allZero (bytesAt p 2 2) || !allZero (bytesAt
      p 20 12) || allZero (bytesAt p 32 96) || allZero (bytesAt p 128 96) || allZero (n.map BitVec.toNat) || allZero (bytesAt p 520 96) ||
      !Config.onCurve (bytesAt p 32 96) || !Config.onCurve (bytesAt p 128 96) || envelopeBad n)) ∧ (v = firstFail [(decide (s.mode ≠
      .hostedIdle ∧ s.mode ≠ .survey ∧ s.mode ≠ .faultSafe), St.refusedMode), (decide (leAt p 12 8 ≠ Config.serial ∨ leAt n 8 8 ≠
      Config.serial ∨ 31 ≤ s.rd Reg.VLT_LIFECYCLE_LC_GEN), St.conflict), (decide (leAt n 16 8 ≠ leAt p 4 8 ∨ leAt p 4 8 ≠ s.challenge),
      St.stale), (!(s.ownerSigned (bytesAt p 0 520) (bytesAt p 520 96) && (s.envelopeRoot n).isSome), St.authFail)]) ∧ (x =
      ⟨byteAt p 1, if allZero (bytesAt p 32 96) then none else some (unle (bytesAt p 32 96)), if allZero (bytesAt p 128 96) then none else some (unle (bytesAt p 128 96)), (s.envelopeRoot n).map fun k => (k, leAt n 4 4)⟩
      ∧ w = State.wr { u with vlt := { u.vlt with trans := some x } } Reg.VLT_LIFECYCLE_TRANSITION 1))
    ∧ (∃ (s : State) (c : Cmd) (p : List Byte) (e : Bool), (s.Up) ∧ (s.Accepts c .dataIn) ∧ (s.vaultShut = none ∧ c.desc.length.toNat = 616) ∧
      (lifecycleRow s.lifeRow (byteAt p 1) = none))
    ∧ (∃ (s : State) (c : Cmd) (q : Nat) (p : List Byte) (e : Bool), (s.Up) ∧ (s.Accepts c .dataIn) ∧ (s.vaultShut = some q))
    ∧ (∃ (s : State) (c : Cmd) (p : List Byte) (e : Bool), (s.Up) ∧ (s.Accepts c .dataIn) ∧ (s.vaultShut = none ∧ c.desc.length.toNat ≠ 616))
    ∧ (∃ (s u : State) (c : Cmd) (n : Nat), (s.Up) ∧ (s.Accepts c .command) ∧ (s.vaultShut = none ∧ c.desc.length.toNat = 0) ∧
      (c.desc.p0.toNat = n ∧ 0 < n ∧ n ≤ 10 ∧ s.vaultBusyMode = false ∧ (s.slot n).gen < 4294967295) ∧ (u = State.dropInvalid (((s.begun
      c).nextGen n).emptySlot n) fixedSlots))
    ∧ (∃ (s : State) (c : Cmd), (s.Up) ∧ (s.Accepts c .command) ∧ (s.vaultShut = none ∧ c.desc.length.toNat = 0) ∧ (c.desc.p0.toNat = 0 ∨ 10 <
      c.desc.p0.toNat))
    ∧ (∃ (s : State) (c : Cmd), (s.Up) ∧ (s.Accepts c .command) ∧ (s.vaultShut = none ∧ c.desc.length.toNat = 0) ∧ (0 < c.desc.p0.toNat ∧
      c.desc.p0.toNat ≤ 10 ∧ s.vaultBusyMode = true))
    ∧ (∃ (s : State) (c : Cmd) (n : Nat), (s.Up) ∧ (s.Accepts c .command) ∧ (s.vaultShut = none ∧ c.desc.length.toNat = 0) ∧ (c.desc.p0.toNat
      = n ∧ 0 < n ∧ n ≤ 10 ∧ s.vaultBusyMode = false ∧ (s.slot n).gen = 4294967295))
    ∧ (∃ (s : State) (c : Cmd) (q : Nat), (s.Up) ∧ (s.Accepts c .command) ∧ (s.vaultShut = some q))
    ∧ (∃ (s : State) (c : Cmd), (s.Up) ∧ (s.Accepts c .command) ∧ (s.vaultShut = none ∧ c.desc.length.toNat ≠ 0))
    ∧ (∃ (s u : State) (c : Cmd) (no sec : Nat), (s.Up) ∧ (s.Accepts c .command) ∧ (s.vaultShut = none ∧ c.desc.length.toNat = 0) ∧ (no =
      c.desc.p0.toNat ∧ sec = c.desc.p1.toNat + 4294967296 * bits c.desc.p2.toNat 0 16) ∧ (bits c.desc.p2.toNat 16 16 = 0 ∧ s.follows =
      false ∧ s.mode.fleet = false ∧ (s.now.sec + 2) * 1000000000 + s.now.ns ≤ sec * 1000000000) ∧ (later no s.beaconNo = true ∧ s.vlt.rekey
      = none ∧ u = (s.begun c).fillSite 10 1 (ascii "ZY beacon" ++ le 4 no)))
    ∧ (∃ (s : State) (c : Cmd) (no sec : Nat), (s.Up) ∧ (s.Accepts c .command) ∧ (s.vaultShut = none ∧ c.desc.length.toNat = 0) ∧ (no =
      c.desc.p0.toNat ∧ sec = c.desc.p1.toNat + 4294967296 * bits c.desc.p2.toNat 0 16) ∧ (bits c.desc.p2.toNat 16 16 = 0 ∧ s.mode.fleet =
      true ∧ (s.now.sec + 2) * 1000000000 + s.now.ns ≤ sec * 1000000000))
    ∧ (∃ (s : State) (c : Cmd) (no sec v : Nat), (s.Up) ∧ (s.Accepts c .command) ∧ (s.vaultShut = none ∧ c.desc.length.toNat = 0) ∧ (no =
      c.desc.p0.toNat ∧ sec = c.desc.p1.toNat + 4294967296 * bits c.desc.p2.toNat 0 16) ∧ (s.mode.fleet = false) ∧ (v = firstFail [(bits
      c.desc.p2.toNat 16 16 != 0, St.badFormat), (s.follows, St.refusedMode), (decide (sec * 1000000000 < (s.now.sec + 2) * 1000000000 +
      s.now.ns), St.stale), (!later no s.beaconNo, St.stale), (s.vlt.rekey.isSome, St.busy)] ∧ v ≠ St.done))
    ∧ (∃ (s : State) (c : Cmd) (no sec : Nat), (s.Up) ∧ (s.Accepts c .command) ∧ (s.vaultShut = none ∧ c.desc.length.toNat = 0) ∧ (no =
      c.desc.p0.toNat ∧ sec = c.desc.p1.toNat + 4294967296 * bits c.desc.p2.toNat 0 16) ∧ (s.mode.fleet = true ∧ (bits c.desc.p2.toNat 16 16
      ≠ 0 ∨ sec * 1000000000 < (s.now.sec + 2) * 1000000000 + s.now.ns)))
    ∧ (∃ (s : State) (c : Cmd) (q : Nat), (s.Up) ∧ (s.Accepts c .command) ∧ (s.vaultShut = some q))
    ∧ (∃ (s : State) (c : Cmd), (s.Up) ∧ (s.Accepts c .command) ∧ (s.vaultShut = none ∧ c.desc.length.toNat ≠ 0))
    ∧ (∃ (s : State) (no sec : Nat), (s.Up) ∧ (s.vlt.rekey = some (no, sec) ∧ sec ≤ s.now.sec))
    ∧ (∃ (s : State), (s.Up) ∧ (s.vlt.rekey.all (fun (x : Nat × Nat) => decide (s.now.sec < x.2)) = true))
    ∧ (∃ (s u : State) (j : PersistJob) (rest : List PersistJob) (ok : Bool), (s.Up) ∧ (s.pwr.pfailLatched = false ∧ s.vlt.jobs = j :: rest) ∧
      (u = State.persistPut { s with vlt := { s.vlt with jobs := rest } } j.record j.item ok))
    ∧ (∃ (s : State) (j : PersistJob) (rest : List PersistJob), (s.Up) ∧ (s.pwr.pfailLatched = false ∧ s.vlt.jobs = j :: rest))
    ∧ (∃ (s : State) (ok : Bool), (s.Up) ∧ (s.pwr.pfailLatched = true ∨ s.vlt.jobs = []))
    ∧ (∃ (s : State), (s.Up)) :=
  ⟨⟨State.reset.withCmd ⟨5, 2, 0, ⟨2, 20, 0, false, 0, 104, 0, 0, 0, 0⟩, none⟩, ⟨5, 2, 0, ⟨2, 20, 0, false, 0, 104, 0, 0, 0, 0⟩, none⟩, by decide⟩,
    ⟨(State.reset.withCmd ⟨5, 2, 0, ⟨2, 20, 0, false, 0, 104, 0, 0, 0, 0⟩, none⟩).wr Reg.VLT_LIFECYCLE_TRANSITION 1, ⟨5, 2, 0, ⟨2, 20, 0, false, 0, 104, 0, 0, 0, 0⟩, none⟩, St.busy, by decide⟩,
    ⟨State.reset.withCmd ⟨5, 2, 0, ⟨2, 20, 0, false, 0, 112, 0, 0, 0, 0⟩, none⟩, ⟨5, 2, 0, ⟨2, 20, 0, false, 0, 112, 0, 0, 0, 0⟩, none⟩, by decide⟩,
    ⟨{ (State.reset.withCmd ⟨5, 2, 0, ⟨2, 20, 0, false, 0, 296, 0, 0, 0, 0⟩, none⟩).wr Reg.VLT_LIFECYCLE_STATE 2 with mode := .hostedIdle }, _, _, ⟨5, 2, 0, ⟨2, 20, 0, false, 0, 296, 0, 0, 0, 0⟩, none⟩, [1, 1], _, by exact ⟨by decide, by decide, by decide, rfl, rfl, rfl⟩⟩,
    ⟨(State.reset.withCmd ⟨5, 2, 0, ⟨2, 20, 0, false, 0, 296, 0, 0, 0, 0⟩, none⟩).wr Reg.VLT_LIFECYCLE_TRANSITION 1, ⟨5, 2, 0, ⟨2, 20, 0, false, 0, 296, 0, 0, 0, 0⟩, none⟩, St.busy, [1], by decide⟩,
    ⟨State.reset.withCmd ⟨5, 2, 0, ⟨2, 20, 0, false, 0, 304, 0, 0, 0, 0⟩, none⟩, ⟨5, 2, 0, ⟨2, 20, 0, false, 0, 304, 0, 0, 0, 0⟩, none⟩, [1], by decide⟩,
    ⟨{ State.reset.withCmd ⟨5, 2, 0, ⟨2, 20, 0, false, 0, 224, 0, 0, 0, 0⟩, none⟩ with mode := .hostedIdle }, _, ⟨5, 2, 0, ⟨2, 20, 0, false, 0, 224, 0, 0, 0, 0⟩, none⟩, [1, 4], _, by exact ⟨by decide, by decide, by decide, rfl, rfl⟩⟩,
    ⟨(State.reset.withCmd ⟨5, 2, 0, ⟨2, 20, 0, false, 0, 224, 0, 0, 0, 0⟩, none⟩).wr Reg.VLT_LIFECYCLE_TRANSITION 1, ⟨5, 2, 0, ⟨2, 20, 0, false, 0, 224, 0, 0, 0, 0⟩, none⟩, St.busy, [1], by decide⟩,
    ⟨State.reset.withCmd ⟨5, 2, 0, ⟨2, 20, 0, false, 0, 232, 0, 0, 0, 0⟩, none⟩, ⟨5, 2, 0, ⟨2, 20, 0, false, 0, 232, 0, 0, 0, 0⟩, none⟩, [1], by decide⟩,
    ⟨{ State.reset.withCmd ⟨5, 2, 0, ⟨2, 20, 0, false, 0, 616, 0, 0, 0, 0⟩, none⟩ with mode := .hostedIdle }, _, _, ⟨5, 2, 0, ⟨2, 20, 0, false, 0, 616, 0, 0, 0, 0⟩, none⟩, [1, 1] ++ List.replicate 30 0 ++ [7], true, true, false, _, 0, _, _, by exact ⟨by decide, by decide, by decide, rfl, by decide, rfl, rfl, ⟨rfl, rfl⟩⟩⟩,
    ⟨{ ((State.reset.withCmd ⟨5, 2, 0, ⟨2, 20, 0, false, 0, 616, 0, 0, 0, 0⟩, none⟩).withKey 3 5 9).wr Reg.VLT_LIFECYCLE_STATE 1 with mode := .hostedIdle }, _, _, ⟨5, 2, 0, ⟨2, 20, 0, false, 0, 616, 0, 0, 0, 0⟩, none⟩, [1, 2], _, true, _, _, _, by exact ⟨by decide, by decide, by decide, rfl, ⟨by decide, rfl⟩, rfl, rfl, ⟨rfl, rfl⟩⟩⟩,
    ⟨{ State.reset.withCmd ⟨5, 2, 0, ⟨2, 20, 0, false, 0, 616, 0, 0, 0, 0⟩, none⟩ with mode := .hostedIdle }, ⟨5, 2, 0, ⟨2, 20, 0, false, 0, 616, 0, 0, 0, 0⟩, none⟩, [1, 0], true, by decide⟩,
    ⟨(State.reset.withCmd ⟨5, 2, 0, ⟨2, 20, 0, false, 0, 616, 0, 0, 0, 0⟩, none⟩).wr Reg.VLT_LIFECYCLE_TRANSITION 1, ⟨5, 2, 0, ⟨2, 20, 0, false, 0, 616, 0, 0, 0, 0⟩, none⟩, St.busy, [1], true, by decide⟩,
    ⟨State.reset.withCmd ⟨5, 2, 0, ⟨2, 20, 0, false, 0, 624, 0, 0, 0, 0⟩, none⟩, ⟨5, 2, 0, ⟨2, 20, 0, false, 0, 624, 0, 0, 0, 0⟩, none⟩, [1], true, by decide⟩,
    ⟨{ (State.reset.withCmd ⟨5, 2, 0, ⟨2, 20, 0, false, 0, 0, 0, 7, 0, 0⟩, none⟩).withKey 7 1 77 with mode := .hostedIdle }, _, ⟨5, 2, 0, ⟨2, 20, 0, false, 0, 0, 0, 7, 0, 0⟩, none⟩, 7, by exact ⟨by decide, by decide, by decide, by decide, rfl⟩⟩,
    ⟨{ State.reset.withCmd ⟨5, 2, 0, ⟨2, 20, 0, false, 0, 0, 0, 11, 0, 0⟩, none⟩ with mode := .hostedIdle }, ⟨5, 2, 0, ⟨2, 20, 0, false, 0, 0, 0, 11, 0, 0⟩, none⟩, by exact ⟨by decide, by decide, by decide, .inr (by decide)⟩⟩,
    ⟨{ State.reset.withCmd ⟨5, 2, 0, ⟨2, 20, 0, false, 0, 0, 0, 7, 0, 0⟩, none⟩ with mode := .fleetRun }, ⟨5, 2, 0, ⟨2, 20, 0, false, 0, 0, 0, 7, 0, 0⟩, none⟩, by decide⟩,
    ⟨{ (State.reset.withCmd ⟨5, 2, 0, ⟨2, 20, 0, false, 0, 0, 0, 7, 0, 0⟩, none⟩).setSlot 7 { Slot.empty with kind := 1, gen := 4294967295 } with mode := .hostedIdle }, ⟨5, 2, 0, ⟨2, 20, 0, false, 0, 0, 0, 7, 0, 0⟩, none⟩, 7, by decide⟩,
    ⟨(State.reset.withCmd ⟨5, 2, 0, ⟨2, 20, 0, false, 0, 0, 0, 0, 0, 0⟩, none⟩).wr Reg.VLT_LIFECYCLE_TRANSITION 1, ⟨5, 2, 0, ⟨2, 20, 0, false, 0, 0, 0, 0, 0, 0⟩, none⟩, St.busy, by decide⟩,
    ⟨State.reset.withCmd ⟨5, 2, 0, ⟨2, 20, 0, false, 0, 8, 0, 0, 0, 0⟩, none⟩, ⟨5, 2, 0, ⟨2, 20, 0, false, 0, 8, 0, 0, 0, 0⟩, none⟩, by decide⟩,
    ⟨{ State.reset.withCmd ⟨5, 2, 0, ⟨2, 20, 0, false, 0, 0, 0, 7, 100, 0⟩, none⟩ with mode := .hostedIdle }, _, ⟨5, 2, 0, ⟨2, 20, 0, false, 0, 0, 0, 7, 100, 0⟩, none⟩, _, _, by exact ⟨by decide, by decide, by decide, ⟨rfl, rfl⟩, by decide, ⟨by decide, rfl, rfl⟩⟩⟩,
    ⟨{ State.reset.withCmd ⟨5, 2, 0, ⟨2, 20, 0, false, 0, 0, 0, 7, 100, 0⟩, none⟩ with mode := .fleetRun }, ⟨5, 2, 0, ⟨2, 20, 0, false, 0, 0, 0, 7, 100, 0⟩, none⟩, _, _, by exact ⟨by decide, by decide, by decide, ⟨rfl, rfl⟩, by decide⟩⟩,
    ⟨{ State.reset.withCmd ⟨5, 2, 0, ⟨2, 20, 0, false, 0, 0, 0, 7, 0, 0⟩, none⟩ with mode := .hostedIdle }, ⟨5, 2, 0, ⟨2, 20, 0, false, 0, 0, 0, 7, 0, 0⟩, none⟩, _, _, _, by exact ⟨by decide, by decide, by decide, ⟨rfl, rfl⟩, by decide, rfl, by decide⟩⟩,
    ⟨{ State.reset.withCmd ⟨5, 2, 0, ⟨2, 20, 0, false, 0, 0, 0, 7, 0, 0⟩, none⟩ with mode := .fleetRun }, ⟨5, 2, 0, ⟨2, 20, 0, false, 0, 0, 0, 7, 0, 0⟩, none⟩, _, _, by exact ⟨by decide, by decide, by decide, ⟨rfl, rfl⟩, ⟨by decide, .inr (by decide)⟩⟩⟩,
    ⟨(State.reset.withCmd ⟨5, 2, 0, ⟨2, 20, 0, false, 0, 0, 0, 0, 0, 0⟩, none⟩).wr Reg.VLT_LIFECYCLE_TRANSITION 1, ⟨5, 2, 0, ⟨2, 20, 0, false, 0, 0, 0, 0, 0, 0⟩, none⟩, St.busy, by decide⟩,
    ⟨State.reset.withCmd ⟨5, 2, 0, ⟨2, 20, 0, false, 0, 8, 0, 0, 0, 0⟩, none⟩, ⟨5, 2, 0, ⟨2, 20, 0, false, 0, 8, 0, 0, 0, 0⟩, none⟩, by decide⟩,
    ⟨{ State.reset.withKey 10 1 77 with vlt := { (State.reset.withKey 10 1 77).vlt with rekey := some (4, 0) } }, 4, 0, by decide⟩,
    ⟨State.reset, by decide⟩,
    ⟨{ State.reset with vlt := { State.reset.vlt with jobs := [⟨6, some 4, none⟩] } }, _, ⟨6, some 4, none⟩, [], true, by exact ⟨by decide, ⟨by decide, rfl⟩, rfl⟩⟩,
    ⟨{ State.reset with vlt := { State.reset.vlt with jobs := [⟨6, some 4, none⟩] } }, ⟨6, some 4, none⟩, [], by decide⟩,
    ⟨State.reset, true, by exact ⟨by decide, .inr rfl⟩⟩,
    ⟨State.reset, by decide⟩⟩

/-- The hypotheses of each clause of VaultOperations are met, in order. -/
theorem test_VaultOperations_met :
    (∃ (s : State) (n : Fin 64) (k : Fin 7), (s.Up) ∧ (s.vaultShut = none ∧ k.val ≠ 0 ∧ (s.slot n.val).kind = k.val ∧ s.slotValid 8 n.val =
      true) ∧ ((s.slot n.val).limited = false))
    ∧ (∃ (s : State) (n : Fin 64) (k : Fin 7), (s.Up) ∧ (s.vaultShut = none ∧ k.val ≠ 0 ∧ (s.slot n.val).kind = k.val ∧ s.slotValid 8 n.val =
      true) ∧ ((s.chute 50).pkts.isEmpty = false))
    ∧ (∃ (s : State) (n : Fin 64) (k : Fin 7), (s.Up) ∧ ((s.chute 50).pkts.isEmpty = true))
    ∧ (∃ (s : State) (n : Fin 64) (k : Fin 7) (v : Nat), (s.Up) ∧ (v =
      (match s.vaultShut with | some q => q | none => if (s.slot n.val).kind = 0 then 0x80 else if s.slotValid 8 n.val = false then St.keyRevoked else if (s.slot n.val).kind ≠ k.val then 0x82 else St.done)
      ∧ v ≠ St.done))
    ∧ (∃ (s : State) (n : Fin 64) (k : Fin 7), (s.Up) ∧ (s.vaultShut = none ∧ k.val ≠ 0 ∧ (s.slot n.val).kind = k.val ∧ s.slotValid 8 n.val =
      true) ∧ ((s.slot n.val).limited = true ∧ (s.slot n.val).uses = 0))
    ∧ (∃ (s : State) (n : Fin 64) (k : Fin 7), (s.Up) ∧ (s.vaultShut = none ∧ k.val ≠ 0 ∧ (s.slot n.val).kind = k.val ∧ s.slotValid 8 n.val =
      true) ∧ ((s.slot n.val).limited = true ∧ (s.slot n.val).uses ≠ 0))
    ∧ (∃ (s : State) (n : Fin 64) (p : List Byte), (s.Up) ∧ (s.vaultShut = none ∧ p.length = 128 ∧ 16 ≤ n.val ∧ (s.chute 50).pkts.isEmpty =
      false) ∧ (byteAt p 0 = 1 ∧ 1 ≤ byteAt p 1 ∧ byteAt p 1 ≤ 5 ∧ bits (byteAt p 2) 1 7 = 0 ∧ byteAt p 3 = 0 ∧ bits (byteAt p 8) 6 2 = 0) ∧
      (allZero (bytesAt p 9 3) = true ∧ allZero (bytesAt p 20 12) = true ∧ allZero (bytesAt p 44 4) = true ∧ allZero (bytesAt p 112 16) =
      true) ∧ (leAt p 16 4 = s.rd Reg.VLT_LIFECYCLE_LC_GEN ∧ s.slotValid 8 (bits (byteAt p 8) 0 6) = true ∧ (s.slot (bits (byteAt p 8) 0
      6)).gen = leAt p 12 4))
    ∧ (∃ (s : State) (n : Fin 64) (p : List Byte) (v : Nat), (s.Up) ∧ ((s.chute 50).pkts.isEmpty = false) ∧ (v =
      (match s.vaultShut with | some q => q | none => if p.length ≠ 128 ∨ n.val < 16 ∨ byteAt p 0 ≠ 1 ∨ byteAt p 1 = 0 ∨ 5 < byteAt p 1 ∨ bits (byteAt p 2) 1 7 ≠ 0 ∨ byteAt p 3 ≠ 0 ∨ bits (byteAt p 8) 6 2 ≠ 0 ∨ allZero (bytesAt p 9 3) = false ∨ allZero (bytesAt p 20 12) = false ∨ allZero (bytesAt p 44 4) = false ∨ allZero (bytesAt p 112 16) = false then St.badFormat else if leAt p 16 4 ≠ s.rd Reg.VLT_LIFECYCLE_LC_GEN then St.authFail else if s.slotValid 8 (bits (byteAt p 8) 0 6) = false ∨ (s.slot (bits (byteAt p 8) 0 6)).gen ≠ leAt p 12 4 then St.keyRevoked else St.done)
      ∧ v ≠ St.done))
    ∧ (∃ (s : State) (n : Fin 64) (p : List Byte), (s.Up) ∧ ((s.chute 50).pkts.isEmpty = true))
    ∧ (∃ (s : State) (n : Fin 64) (l : Word), (s.Up) ∧ (s.vaultShut = none ∧ (s.slot n.val).kind ≠ 0 ∧ (s.slot n.val).kind ≠ 6 ∧ s.slotValid 8
      n.val = true) ∧ ((s.slot n.val).limited = false ∧ (s.chute 50).pkts.isEmpty = false))
    ∧ (∃ (s : State) (n : Fin 64) (l : Word) (v : Nat), (s.Up) ∧ ((s.chute 50).pkts.isEmpty = false) ∧ (v =
      (match s.vaultShut with | some q => q | none => if (s.slot n.val).kind = 0 then 0x80 else if s.slotValid 8 n.val = false then St.keyRevoked else if (s.slot n.val).kind = 6 then 0x82 else if (s.slot n.val).limited = true then St.badFormat else St.done)
      ∧ v ≠ St.done))
    ∧ (∃ (s : State) (n : Fin 64) (l : Word), (s.Up) ∧ ((s.chute 50).pkts.isEmpty = true))
    ∧ (∃ (s : State) (a b : Fin 64) (k : Fin 7) (salt info : List Byte) (bd : Bool) (u : Option Word), (s.Up) ∧ (16 ≤ b.val ∧ k.val ≠ 0 ∧
      k.val ≠ 5 ∧ (s.chute 50).pkts.isEmpty = false) ∧ (s.vaultShut = none ∧ (s.slot a.val).kind = 6 ∧ s.slotValid 8 a.val = true ∧ ((s.slot
      a.val).limited = false ∨ (s.slot a.val).uses ≠ 0)))
    ∧ (∃ (s : State) (a b : Fin 64) (k : Fin 7) (salt info : List Byte) (bd : Bool) (u : Option Word) (v : Nat), (s.Up) ∧ ((s.chute
      50).pkts.isEmpty = false) ∧ (v = (if b.val < 16 ∨ k.val = 0 ∨ k.val = 5 then St.badFormat else
      match s.vaultShut with
        | some q => q
        | none => if (s.slot a.val).kind = 0 then 0x80 else if s.slotValid 8 a.val = false then St.keyRevoked else if (s.slot a.val).kind ≠ 6 then 0x82 else if (s.slot a.val).limited = true ∧ (s.slot a.val).uses = 0 then 0x81 else St.done) ∧ v ≠ St.done))
    ∧ (∃ (s : State) (a b : Fin 64) (k : Fin 7) (salt info : List Byte) (bd : Bool) (u : Option Word), (s.Up) ∧ ((s.chute 50).pkts.isEmpty =
      true)) :=
  ⟨⟨State.reset.withKey 7 1 77, 7, 1, by decide⟩,
    ⟨(State.reset.withKey 7 1 77).putPacket 50 0 none [5], 7, 1, by decide⟩,
    ⟨State.reset, 7, 1, by decide⟩,
    ⟨State.reset.withKey 7 1 77, 7, 2, _, by exact ⟨by decide, rfl, by decide⟩⟩,
    ⟨State.reset.setSlot 20 { Slot.empty with kind := 1, key := 77, limited := true, uses := 0 }, 20, 1, by decide⟩,
    ⟨State.reset.setSlot 20 { Slot.empty with kind := 1, key := 77, limited := true, uses := 3 }, 20, 1, by decide⟩,
    ⟨(State.reset.withKey 1 6 77).putPacket 50 0 none [5], 20, [1, 2, 0, 0, 0, 0, 0, 0, 1] ++ List.replicate 119 0, by exact ⟨by decide, ⟨by decide, by simp, by decide, by decide⟩, by decide, ⟨by decide, by decide, by decide, by decide⟩, by decide⟩⟩,
    ⟨(State.reset.withKey 1 6 77).putPacket 50 0 none [5], 20, [1, 2], _, by exact ⟨by decide, by decide, rfl, by decide⟩⟩,
    ⟨State.reset, 20, [1], by decide⟩,
    ⟨(State.reset.withKey 7 1 77).putPacket 50 0 none [5], 7, 9, by decide⟩,
    ⟨(State.reset.withKey 1 6 77).putPacket 50 0 none [5], 1, 9, _, by exact ⟨by decide, by decide, rfl, by decide⟩⟩,
    ⟨State.reset, 20, 1, by decide⟩,
    ⟨(State.reset.withKey 1 6 77).putPacket 50 0 none [5], 1, 20, 2, [1], [2], true, some 3, by exact ⟨by decide, by decide, ⟨by decide, by decide, by decide, .inl (by decide)⟩⟩⟩,
    ⟨(State.reset.withKey 1 6 77).putPacket 50 0 none [5], 1, 2, 2, [1], [2], true, some 3, _, by exact ⟨by decide, by decide, rfl, by decide⟩⟩,
    ⟨State.reset, 1, 20, 2, [1], [2], true, some 3, by decide⟩⟩

/-- The hypotheses of each clause of TwinLink are met, in order. -/
theorem test_TwinLink_met :
    (∃ (s a : State) (h : HelloMsg), (s.Up) ∧ (s.liveOut = true ∧ s.linkUp = false ∧ s.on Reg.CLK_SRC_STATUS_PLL_SERDES_LOCK = true ∧
      (h.lane0 = true ∨ h.lane1 = true)) ∧ (h.twinEn = true ∧ s.pairReason h = 0) ∧ (a = State.linkPut
      { s with twn := { s.twn with session := s.twn.session + 1, rxSeq := 1, txSeq := 0, tx := [], peerSes := h.session.toNat } } 1
      (s.helloBytes (s.twn.session + 1))))
    ∧ (∃ (s a : State) (h : HelloMsg) (r : Nat), (s.Up) ∧ (s.liveOut = true ∧ s.linkUp = false ∧ s.on Reg.CLK_SRC_STATUS_PLL_SERDES_LOCK =
      true ∧ (h.lane0 = true ∨ h.lane1 = true)) ∧ (r = (if h.twinEn = true then s.pairReason h else 1) ∧ r ≠ 0) ∧ (a = State.linkPut
      { s with twn := { s.twn with session := s.twn.session + 1, rxSeq := 1, txSeq := 0, tx := [], peerSes := h.session.toNat } } 1
      (s.helloBytes (s.twn.session + 1))))
    ∧ (∃ (s : State) (h : HelloMsg), (s.Up) ∧ (s.liveOut = false ∨ s.linkUp = true ∨ (h.lane0 = false ∧ h.lane1 = false) ∨ s.on
      Reg.CLK_SRC_STATUS_PLL_SERDES_LOCK = false))
    ∧ (∃ (s : State) (k : Fin 2) (mine other : Fld), (s.Up) ∧ (mine = (if k = 0 then Reg.FJR_STATUS_LANE0_OK else Reg.FJR_STATUS_LANE1_OK) ∧
      other = (if k = 0 then Reg.FJR_STATUS_LANE1_OK else Reg.FJR_STATUS_LANE0_OK)) ∧ (s.on mine = true ∧ s.on other = true ∧ s.linkUp =
      true))
    ∧ (∃ (s : State) (k : Fin 2) (mine other : Fld), (s.Up) ∧ (mine = (if k = 0 then Reg.FJR_STATUS_LANE0_OK else Reg.FJR_STATUS_LANE1_OK) ∧
      other = (if k = 0 then Reg.FJR_STATUS_LANE1_OK else Reg.FJR_STATUS_LANE0_OK)) ∧ (s.on mine = true ∧ s.on other = false))
    ∧ (∃ (s : State) (f : List Byte), (s.Up) ∧ (s.linkUp = true ∧ leAt f 4 4 = s.twn.rxSeq ∧ byteAt f 0 ≠ 2))
    ∧ (∃ (s : State) (f : List Byte), (s.Up) ∧ (s.linkUp = true ∧ leAt f 4 4 = s.twn.rxSeq ∧ byteAt f 0 = 2))
    ∧ (∃ (s : State) (f : List Byte), (s.Up) ∧ (s.linkUp = true ∧ (leAt f 4 4 ≠ s.twn.rxSeq ∨ f.length < 36 ∨ 8192 < f.length ∨ f.length ≠ 36
      + leAt f 2 2 ∨ s.keyOf 6 = none)))
    ∧ (∃ (s : State) (f : List Byte), (s.Up) ∧ (s.linkUp = false))
    ∧ (∃ (s : State), (s.Up) ∧ (s.linkUp = true ∧ s.twn.stopped = false))
    ∧ (∃ (s : State), (s.Up) ∧ (s.linkUp = false ∨ s.twn.stopped = true))
    ∧ (∃ (s : State), (s.Up) ∧ (s.twn.stopped = false ∧ s.linkUp = true))
    ∧ (∃ (s : State), (s.Up) ∧ (s.linkUp = false ∨ s.twn.stopped = true))
    ∧ (∃ (s a b : State), (s.Up) ∧ (s.linkUp = true ∧ s.mode = .twinStandby) ∧ (a = State.loseTwin (State.fjrBump (s.wrEach
      [(Reg.FJR_STATUS_LINK, 0), (Reg.FJR_STATUS_PAIRED, 0)]) Reg.FJR_LINK_LOSSES) ∧ b =
      { a with twn := { a.twn with tx := [], journal := none, snapDue := false, readyDue := false, readied := none, demoted := none } }))
    ∧ (∃ (s : State), (s.Up) ∧ (s.linkUp = true ∧ s.mode = .twinStandby ∧ s.on Reg.FJR_STATUS_LIVE_IN = true ∧ s.twn.timeOk = false ∧
      s.pwr.pfailLatched = false))
    ∧ (∃ (s a b : State), (s.Up) ∧ (s.linkUp = true ∧ s.mode = .rejoin) ∧ (a = State.loseTwin (State.fjrBump (s.wrEach [(Reg.FJR_STATUS_LINK,
      0), (Reg.FJR_STATUS_PAIRED, 0)]) Reg.FJR_LINK_LOSSES) ∧ b =
      { a with twn := { a.twn with tx := [], journal := none, snapDue := false, readyDue := false, readied := none, demoted := none } }))
    ∧ (∃ (s a b w : State), (s.Up) ∧ (s.linkUp = true ∧ s.follows = false ∧ s.twn.mirrored = true ∧ s.on Reg.FJR_STATUS_LIVE_IN = true) ∧ (a =
      State.loseTwin (State.fjrBump (s.wrEach [(Reg.FJR_STATUS_LINK, 0), (Reg.FJR_STATUS_PAIRED, 0)]) Reg.FJR_LINK_LOSSES) ∧ b =
      { a with twn := { a.twn with tx := [], journal := none, snapDue := false, readyDue := false, readied := none, demoted := none } }) ∧
      (w = { b.fault Reg.FJR_FAULT_TWIN_LOST with twn := { b.twn with linkLost := true } }))
    ∧ (∃ (s a b : State), (s.Up) ∧ (s.linkUp = true ∧ s.follows = false ∧ (s.twn.mirrored = false ∨ s.on Reg.FJR_STATUS_LIVE_IN = false)) ∧ (a
      = State.loseTwin (State.fjrBump (s.wrEach [(Reg.FJR_STATUS_LINK, 0), (Reg.FJR_STATUS_PAIRED, 0)]) Reg.FJR_LINK_LOSSES) ∧ b =
      { a with twn := { a.twn with tx := [], journal := none, snapDue := false, readyDue := false, readied := none, demoted := none } }))
    ∧ (∃ (s : State), (s.Up) ∧ (s.linkUp = false))
    ∧ (∃ (s : State), (s.Up) ∧ (s.twn.linkLost = true))
    ∧ (∃ (s : State), (s.Up) ∧ (s.twn.linkLost = false))
    ∧ (∃ (s : State) (t1 : YTime), (s.Up) ∧ (s.twn.stopped = false ∧ s.linkUp = true) ∧ (s.follows = false))
    ∧ (∃ (s : State) (t1 : YTime), (s.Up) ∧ (s.twn.stopped = false ∧ s.linkUp = true) ∧ (s.follows = true))
    ∧ (∃ (s : State) (t1 t2 t3 t4 : YTime), (s.Up) ∧ (s.follows = true ∧ s.linkUp = true ∧ s.twn.reqAt = some t1))
    ∧ (∃ (s : State) (t1 t2 t3 t4 : YTime), (s.Up) ∧ (s.follows = false ∨ s.linkUp = false ∨ s.twn.reqAt ≠ some t1))
    ∧ (∃ (s : State) (r : ZypRef) (o : OwnFrame), (s.Up) ∧ (s.twn.stopped = false ∧ s.linkUp = true) ∧ (s.follows = false ∧ s.shutsMirror =
      false ∧ s.twn.own.find? (refNames r) = some o))
    ∧ (∃ (s : State) (r : ZypRef), (s.Up) ∧ (s.follows = true ∨ s.shutsMirror = true ∨ s.twn.own.find? (refNames r) = none))
    ∧ (∃ (s u : State) (r : ZypRef) (f : List Byte), (s.Up) ∧ (s.follows = true ∧ s.twn.missing.contains r = true) ∧ (u =
      { s with twn := { s.twn with missing := s.twn.missing.erase r } }))
    ∧ (∃ (s : State) (r : ZypRef) (f : List Byte), (s.Up) ∧ (s.follows = false ∨ s.twn.missing.contains r = false)) :=
  ⟨⟨(State.reset.wrEach [(Reg.FJR_CFG_TWIN_EN, 1), (Reg.VLT_LIFECYCLE_STATE, 2), (Reg.CLK_SRC_STATUS_PLL_SERDES_LOCK, 1)]).withKey 6 1 77, _, ⟨true, 1, 0, 0, 0, 2, true, 3, 4, true, true⟩, by exact ⟨by decide, by decide, by decide, rfl⟩⟩,
    ⟨(State.reset.wrEach [(Reg.FJR_CFG_TWIN_EN, 1), (Reg.VLT_LIFECYCLE_STATE, 2), (Reg.CLK_SRC_STATUS_PLL_SERDES_LOCK, 1)]).withKey 6 1 77, _, ⟨true, 0, 0, 0, 0, 2, true, 3, 4, true, true⟩, _, by exact ⟨by decide, by decide, ⟨rfl, by decide⟩, rfl⟩⟩,
    ⟨State.reset, ⟨true, 0, 0, 0, 0, 2, true, 3, 4, true, true⟩, by exact ⟨by decide, .inl (by decide)⟩⟩,
    ⟨State.reset.wrEach [(Reg.FJR_STATUS_LANE0_OK, 1), (Reg.FJR_STATUS_LANE1_OK, 1), (Reg.FJR_STATUS_LINK, 2)], 0, _, _, by exact ⟨by decide, ⟨rfl, rfl⟩, by decide⟩⟩,
    ⟨State.reset.wrEach [(Reg.FJR_STATUS_LANE0_OK, 1), (Reg.FJR_STATUS_LANE1_OK, 0)], 0, _, _, by exact ⟨by decide, ⟨rfl, rfl⟩, by decide⟩⟩,
    ⟨{ State.reset.wr Reg.FJR_STATUS_LINK 2 with twn := { State.reset.twn with rxSeq := 5 } }, [3, 0, 0, 0, 5, 0, 0, 0], by decide⟩,
    ⟨{ State.reset.wr Reg.FJR_STATUS_LINK 2 with twn := { State.reset.twn with rxSeq := 5 } }, [2, 0, 0, 0, 5, 0, 0, 0], by decide⟩,
    ⟨State.reset.wr Reg.FJR_STATUS_LINK 2, [3, 0, 0, 0, 9], by exact ⟨by decide, ⟨by decide, .inl (by decide)⟩⟩⟩,
    ⟨State.reset, [3], by decide⟩,
    ⟨State.reset.wr Reg.FJR_STATUS_LINK 2, by decide⟩,
    ⟨State.reset, by exact ⟨by decide, .inl (by decide)⟩⟩,
    ⟨State.reset.wr Reg.FJR_STATUS_LINK 2, by decide⟩,
    ⟨State.reset, by exact ⟨by decide, .inl (by decide)⟩⟩,
    ⟨{ State.reset.wrEach [(Reg.FJR_STATUS_LINK, 2), (Reg.FJR_STATUS_LIVE_IN, 1)] with mode := .twinStandby }, _, _, by exact ⟨by decide, by decide, ⟨rfl, rfl⟩⟩⟩,
    ⟨{ State.reset.wrEach [(Reg.FJR_STATUS_LINK, 2), (Reg.FJR_STATUS_LIVE_IN, 1)] with mode := .twinStandby }, by decide⟩,
    ⟨{ State.reset.wr Reg.FJR_STATUS_LINK 2 with mode := .rejoin }, _, _, by exact ⟨by decide, by decide, ⟨rfl, rfl⟩⟩⟩,
    ⟨{ State.reset.wrEach [(Reg.FJR_STATUS_LINK, 2), (Reg.FJR_STATUS_LIVE_IN, 1)] with mode := .fleetRun, twn := { State.reset.twn with mirrored := true } }, _, _, _, by exact ⟨by decide, by decide, ⟨rfl, rfl⟩, rfl⟩⟩,
    ⟨State.reset.wr Reg.FJR_STATUS_LINK 2, _, _, by exact ⟨by decide, ⟨by decide, by decide, .inl rfl⟩, ⟨rfl, rfl⟩⟩⟩,
    ⟨State.reset, by decide⟩,
    ⟨{ State.reset with twn := { State.reset.twn with linkLost := true, mirrored := true } }, by decide⟩,
    ⟨State.reset, by decide⟩,
    ⟨State.reset.wr Reg.FJR_STATUS_LINK 2, YTime.zero, by decide⟩,
    ⟨{ State.reset.wr Reg.FJR_STATUS_LINK 2 with mode := .rejoin }, YTime.zero, by decide⟩,
    ⟨{ State.reset.wr Reg.FJR_STATUS_LINK 2 with mode := .rejoin, twn := { State.reset.twn with reqAt := some YTime.zero } }, YTime.zero, YTime.zero, YTime.zero, YTime.zero, by decide⟩,
    ⟨State.reset, YTime.zero, YTime.zero, YTime.zero, YTime.zero, by exact ⟨by decide, .inl (by decide)⟩⟩,
    ⟨{ State.reset.wr Reg.FJR_STATUS_LINK 2 with mode := .fleetRun, twn := { State.reset.twn with own := [⟨2, 3, 4, 5, 6, 1, 7, none, 0, [9], 1⟩] } }, ⟨1, 2, 3, false, 4, 5, 6⟩, ⟨2, 3, 4, 5, 6, 1, 7, none, 0, [9], 1⟩, by decide⟩,
    ⟨State.reset, ⟨1, 2, 3, false, 4, 5, 6⟩, by exact ⟨by decide, .inr (.inr (by decide))⟩⟩,
    ⟨{ State.reset with mode := .rejoin, twn := { State.reset.twn with missing := [⟨1, 2, 3, false, 4, 5, 6⟩] } }, _, ⟨1, 2, 3, false, 4, 5, 6⟩, [1, 2], by exact ⟨by decide, by decide, rfl⟩⟩,
    ⟨State.reset, ⟨1, 2, 3, false, 4, 5, 6⟩, [1, 2], by exact ⟨by decide, .inl (by decide)⟩⟩⟩

/-- The hypotheses of each clause of TwinInterlock are met, in order. -/
theorem test_TwinInterlock_met :
    (∃ (s : State), (s.Up) ∧ (s.liveOut = true))
    ∧ (∃ (s : State), (s.Up) ∧ (s.liveOut = false))
    ∧ (∃ (s : State), (s.Up) ∧ (s.on Reg.FJR_STATUS_LIVE_IN = true ∧ s.mode = .twinStandby ∧ s.on Reg.FJR_STATUS_CLAIM_IN = true))
    ∧ (∃ (s u : State), (s.Up) ∧ (s.on Reg.FJR_STATUS_LIVE_IN = true ∧ s.mode = .twinStandby ∧ s.on Reg.FJR_STATUS_CLAIM_IN = false ∧
      s.pwr.pfailLatched = false) ∧ (u = { s.wr Reg.FJR_STATUS_LIVE_IN 0 with twn := { s.twn with lost := true } }))
    ∧ (∃ (s : State), (s.Up) ∧ (s.on Reg.FJR_STATUS_LIVE_IN = true ∧ s.mode ≠ .twinStandby ∧ (s.twn.mirrored = false ∨ s.on
      Reg.FJR_STATUS_LIVE_CONT = false)))
    ∧ (∃ (s : State), (s.Up) ∧ (s.on Reg.FJR_STATUS_LIVE_IN = false))
    ∧ (∃ (s u : State), (s.Up) ∧ (s.on Reg.FJR_STATUS_LIVE_IN = true ∧ s.mode ≠ .twinStandby ∧ s.twn.mirrored = true ∧ s.on
      Reg.FJR_STATUS_LIVE_CONT = true) ∧ (u =
      { State.fault (s.wr Reg.FJR_STATUS_LIVE_IN 0) Reg.FJR_FAULT_TWIN_LOST with twn := { s.twn with mirrored := false, linkLost := false, lates := 0, demoted := none } }))
    ∧ (∃ (s : State), (s.Up) ∧ (s.mode = .twinStandby ∧ s.twn.lost = true ∧ s.pwr.pfailLatched = false))
    ∧ (∃ (s : State), (s.Up) ∧ (s.mode = .twinStandby ∧ s.twn.lost = true ∧ s.contOk = true ∧ s.pwr.pfailLatched = false) ∧ (s.epo.opened =
      false ∧ s.trp.latch = false))
    ∧ (∃ (s : State), (s.Up) ∧ (s.mode ≠ .twinStandby ∨ s.twn.lost = false))
    ∧ (∃ (s u : State), (s.Up) ∧ (s.mode = .twinStandby ∧ s.twn.lost = true ∧ s.on Reg.FJR_STATUS_CLAIM_IN = true ∧ s.contOk = true) ∧ (u =
      s.fault Reg.FJR_FAULT_TAKEOVER_BLOCKED))
    ∧ (∃ (s : State), (s.Up) ∧ (s.mode ≠ .twinStandby ∨ s.twn.lost = false ∨ s.on Reg.FJR_STATUS_CLAIM_IN = false ∨ s.contOk = false))
    ∧ (∃ (s : State) (b : Bool), (s.Up))
    ∧ (∃ (s : State) (b : Bool), (s.Up))
    ∧ (∃ (s : State), (s.Up) ∧ (s.claimOut = true ∧ s.on Reg.FJR_STATUS_CLAIM_IN = true))
    ∧ (∃ (s : State), (s.Up) ∧ (s.claimOut = false ∨ s.on Reg.FJR_STATUS_CLAIM_IN = false))
    ∧ (∃ (s : State), (s.Up) ∧ (s.twn.arb = true ∧ s.seat = 1))
    ∧ (∃ (s : State), (s.Up) ∧ (s.twn.arb = false ∨ s.seat ≠ 1))
    ∧ (∃ (s : State), (s.Up)) :=
  ⟨⟨(State.reset.wr Reg.FJR_CFG_TWIN_EN 1).withKey 6 1 77, by decide⟩,
    ⟨State.reset, by decide⟩,
    ⟨{ State.reset.wrEach [(Reg.FJR_STATUS_LIVE_IN, 1), (Reg.FJR_STATUS_CLAIM_IN, 1)] with mode := .twinStandby }, by decide⟩,
    ⟨{ State.reset.wrEach [(Reg.FJR_STATUS_LIVE_IN, 1), (Reg.FJR_STATUS_LIVE_CONT, 1), (Reg.FJR_STATUS_CLAIM_CONT, 1)] with mode := .twinStandby }, _, by exact ⟨by decide, by decide, rfl⟩⟩,
    ⟨State.reset.wr Reg.FJR_STATUS_LIVE_IN 1, by exact ⟨by decide, ⟨by decide, by decide, .inl rfl⟩⟩⟩,
    ⟨State.reset, by decide⟩,
    ⟨{ State.reset.wrEach [(Reg.FJR_STATUS_LIVE_IN, 1), (Reg.FJR_STATUS_LIVE_CONT, 1)] with mode := .fleetRun, twn := { State.reset.twn with mirrored := true } }, _, by exact ⟨by decide, by decide, rfl⟩⟩,
    ⟨{ State.reset.wrEach [(Reg.FJR_STATUS_LIVE_CONT, 1), (Reg.FJR_STATUS_CLAIM_CONT, 1)] with mode := .twinStandby, twn := { State.reset.twn with lost := true }, trp := { State.reset.trp with latch := false } }, by decide⟩,
    ⟨{ State.reset.wrEach [(Reg.FJR_STATUS_LIVE_CONT, 1), (Reg.FJR_STATUS_CLAIM_CONT, 1)] with mode := .twinStandby, twn := { State.reset.twn with lost := true }, trp := { State.reset.trp with latch := false } }, by decide⟩,
    ⟨State.reset, by exact ⟨by decide, .inl (by decide)⟩⟩,
    ⟨{ State.reset.wrEach [(Reg.FJR_STATUS_LIVE_CONT, 1), (Reg.FJR_STATUS_CLAIM_CONT, 1), (Reg.FJR_STATUS_CLAIM_IN, 1)] with mode := .twinStandby, twn := { State.reset.twn with lost := true } }, _, by exact ⟨by decide, by decide, rfl⟩⟩,
    ⟨State.reset, by exact ⟨by decide, .inl (by decide)⟩⟩,
    ⟨State.reset, true, by decide⟩,
    ⟨State.reset, true, by decide⟩,
    ⟨{ (State.reset.wrEach [(Reg.FJR_CFG_TWIN_EN, 1), (Reg.FJR_STATUS_CLAIM_IN, 1)]).withKey 6 1 77 with mode := .fleetRun }, by decide⟩,
    ⟨State.reset, by exact ⟨by decide, .inl (by decide)⟩⟩,
    ⟨{ State.reset.wr Reg.PIN_STRAP_STATUS_STRAP 8 with twn := { State.reset.twn with arb := true } }, by decide⟩,
    ⟨State.reset, by exact ⟨by decide, .inl rfl⟩⟩,
    ⟨State.reset, by decide⟩⟩

/-- The hypotheses of each clause of TwinMirroring are met, in order. -/
theorem test_TwinMirroring_met :
    (∃ (s : State) (l : Fin 3), (s.Up) ∧ (s.mode = .twinStandby ∧ s.trp.fleet.code < l.val) ∧ (∀ r, r < 256 → s.rd (Reg.TRP_ROBOT_OWN r) =
      0))
    ∧ (∃ (s : State) (l : Fin 3) (own : List (Fin 256 × Fin 3)), (s.Up) ∧ (s.mode = .twinStandby))
    ∧ (∃ (s : State) (l : Fin 3) (own : List (Fin 256 × Fin 3)), (s.Up) ∧ (s.mode ≠ .twinStandby))
    ∧ (∃ (s : State) (stop : Bool) (k : Fin 32) (f : Fld), (s.Up) ∧ (s.follows = false) ∧ ((if stop then stopCauses else holdCauses).find?
      (fun f => f.lo == k.val) = some f) ∧ (s.trp.fleet ≠ .stop))
    ∧ (∃ (s : State) (stop : Bool) (k : Fin 32) (f : Fld), (s.Up) ∧ (s.follows = false) ∧ ((if stop then stopCauses else holdCauses).find?
      (fun f => f.lo == k.val) = some f))
    ∧ (∃ (s : State) (stop : Bool) (r : Fin 256) (k : Fin 32) (f : Fld), (s.Up) ∧ (s.follows = false) ∧ ((ownCauses r.val).find? (fun (f :
      Fld) => f.lo == k.val) = some f))
    ∧ (∃ (s : State) (stop : Bool) (r : Option (Fin 256)) (k : Fin 32), (s.Up) ∧ (s.follows = true ∨
      ((match r with | none => (if stop then stopCauses else holdCauses) | some x => ownCauses x.val).find? (fun (f : Fld) => f.lo ==
      k.val)) = none))
    ∧ (∃ (s : State), (s.Up) ∧ (s.follows = true ∧ s.linkUp = true ∧ s.epo.released = true))
    ∧ (∃ (s : State) (k : EpochKind) (a : Nat), (s.Up) ∧ (s.follows = true ∧ s.linkUp = true ∧ s.epo.released = true ∧ s.epo.ended = false))
    ∧ (∃ (s : State) (n prev slot cnt : Word) (t0 : YTime) (fl : Fin 4) (own : List (Fin 256 × Fin 4)), (s.Up) ∧ (s.mode = .twinStandby ∧
      s.linkUp = true ∧ s.epo.opened = true ∧ s.epo.released = false ∧ n.toNat = s.rd Reg.GLB_EPOCH))
    ∧ (∃ (s u : State) (n prev slot cnt : Word) (t0 : YTime) (fl : Fin 4) (own : List (Fin 256 × Fin 4)), (s.Up) ∧ (s.mode = .rejoin ∧
      s.linkUp = true ∧ s.rejoinState = 3 ∧ s.epo.opened = true ∧ s.epo.released = false ∧ n.toNat = (s.epo.closed + 1) % 4294967296) ∧ (u =
      (s.wr Reg.GLB_EPOCH n.toNat).wr Reg.FJR_STATUS_REJOIN_STATE 4))
    ∧ (∃ (s : State) (n prev slot cnt : Word) (t0 : YTime) (fl : Fin 4) (own : List (Fin 256 × Fin 4)), (s.Up) ∧ (s.mode = .twinStandby ∧
      (s.epo.opened = false ∨ s.epo.released = true ∨ n.toNat ≠ s.rd Reg.GLB_EPOCH)))
    ∧ (∃ (s : State) (r : ZypRef) (o : OwnFrame), (s.Up) ∧ (s.follows = true ∧ s.linkUp = true ∧ s.epo.released = true ∧ s.epo.ended = false)
      ∧ (s.twn.own.find? (refNames r) = some o))
    ∧ (∃ (s u : State) (r : ZypRef), (s.Up) ∧ (s.follows = true ∧ s.linkUp = true ∧ s.epo.released = true ∧ s.epo.ended = false) ∧
      (s.twn.own.find? (refNames r) = none) ∧ (u = { s with twn := { s.twn with missing := s.twn.missing ++ [r] } }))
    ∧ (∃ (s : State) (k : EpochKind) (words : List (Nat × Nat)) (regs : List Nat), (s.Up) ∧ (s.follows = true ∧ s.linkUp = true ∧
      s.epo.released = true ∧ s.epo.ended = false))
    ∧ (∃ (s : State) (cells : List (BitVec 23)), (s.Up) ∧ (s.follows = true ∧ s.linkUp = true ∧ s.epo.released = true ∧ s.epo.ended = false))
    ∧ (∃ (s : State) (l : List (Fin 256 × PosRec)), (s.Up) ∧ (s.follows = true ∧ s.linkUp = true ∧ s.epo.released = true ∧ s.epo.ended =
      false))
    ∧ (∃ (s : State) (e : InputEntry), (s.Up) ∧ (s.epo.released = false ∨ s.epo.ended = true ∧ e ≠ .fin) ∧
      ((match e with | .head _ _ _ _ _ _ _ => False | _ => True)))
    ∧ (∃ (s : State) (es : List InputEntry), (s.Up) ∧ (s.follows = true ∧ s.linkUp = true))
    ∧ (∃ (s : State) (es : List InputEntry), (s.Up) ∧ (s.follows = false ∨ s.linkUp = false))
    ∧ (∃ (s : State) (p : PrepMsg), (s.Up) ∧ (s.mode = .twinStandby ∧ s.epo.opened = true ∧ s.epo.digest = false ∧ p.epoch.toNat = s.rd
      Reg.GLB_EPOCH))
    ∧ (∃ (s u : State) (p : PrepMsg), (s.Up) ∧ (s.mode = .twinStandby ∧ s.epo.opened = true ∧ s.epo.digest = true ∧ s.twn.acked = false ∧
      p.epoch.toNat = s.rd Reg.GLB_EPOCH) ∧ (u = { s with twn := { s.twn with prep := some p } }))
    ∧ (∃ (s : State) (p : PrepMsg), (s.Up) ∧ (s.mode = .rejoin ∧ s.rejoinState = 4 ∧ s.epo.opened = true ∧ p.epoch.toNat = s.rd
      Reg.GLB_EPOCH))
    ∧ (∃ (s : State) (p : PrepMsg), (s.Up) ∧ (s.takesLive = false ∨ s.epo.opened = false ∨ p.epoch.toNat ≠ s.rd Reg.GLB_EPOCH))
    ∧ (∃ (s u : State) (a : AckMsg) (us : Word) (v : Nat), (s.Up) ∧ (s.follows = false ∧ s.twn.mirrored = true ∧ s.twn.linkLost = false) ∧
      (s.epo.opened = true ∧ s.epo.digest = true ∧ s.epo.assured = false) ∧ (a.epoch.toNat = s.rd Reg.GLB_EPOCH ∧ a.mismatch = false) ∧ (v =
      min us.toNat 65535) ∧ (u = ((s.wr Reg.FJR_MIRROR_LAT_LAST v).wr Reg.FJR_MIRROR_LAT_MAX (max v (s.rd Reg.FJR_MIRROR_LAT_MAX))).tallyAdd
      11 v))
    ∧ (∃ (s : State) (a : AckMsg) (us : Word), (s.Up) ∧ (s.follows = false ∧ s.twn.mirrored = true ∧ s.twn.linkLost = false) ∧ (s.epo.opened =
      true ∧ s.epo.digest = true ∧ s.epo.assured = false) ∧ (a.epoch.toNat = s.rd Reg.GLB_EPOCH ∧ a.mismatch = true))
    ∧ (∃ (s u w : State) (a : AckMsg) (us : Word) (v : Nat), (s.Up) ∧ (s.follows = false ∧ s.twn.mirrored = true ∧ s.twn.linkLost = false) ∧
      (s.epo.opened = true ∧ s.epo.digest = true ∧ s.epo.assured = false) ∧ (a.epoch.toNat = s.rd Reg.GLB_EPOCH ∧ a.mismatch = true) ∧ (v =
      min us.toNat 65535) ∧ (u = (fun (y : State) => { y with twn := { y.twn with lates := 0 } }) (((s.wr Reg.FJR_MIRROR_LAT_LAST v).wr
      Reg.FJR_MIRROR_LAT_MAX (max v (s.rd Reg.FJR_MIRROR_LAT_MAX))).tallyAdd 11 v)) ∧ (w = State.noteMismatch (u.abandonEpoch.linkSend 0x16
      (le 4 (u.rd Reg.GLB_EPOCH) ++ [1])) (u.rd Reg.GLB_EPOCH) a.classDiff.toNat a.lockstep))
    ∧ (∃ (s : State) (a : AckMsg) (us : Word), (s.Up) ∧ (s.follows = true ∨ s.twn.mirrored = false ∨ s.twn.linkLost = true ∨ s.epo.opened =
      false ∨ s.epo.digest = false ∨ s.epo.assured = true ∨ a.epoch.toNat ≠ s.rd Reg.GLB_EPOCH))
    ∧ (∃ (s : State), (s.Up) ∧ (s.follows = false ∧ s.twn.mirrored = true ∧ s.linkUp = true) ∧ (s.epo.opened = true ∧ s.epo.digest = true ∧
      s.epo.assured = false) ∧ (s.twn.lates = 0 ∧ s.twn.linkLost = false ∧ s.epo.overruns = 0))
    ∧ (∃ (s u : State), (s.Up) ∧ (s.follows = false ∧ s.twn.mirrored = true ∧ s.linkUp = true) ∧ (s.epo.opened = true ∧ s.epo.digest = true ∧
      s.epo.assured = false) ∧ (u = State.fault (State.fjrBump (s.overrun.linkSend 0x16 (le 4 (s.rd Reg.GLB_EPOCH) ++ [0]))
      Reg.FJR_ACK_LATE) Reg.FJR_FAULT_ACK_LATE))
    ∧ (∃ (s : State), (s.Up) ∧ (s.follows = true ∨ s.twn.mirrored = false ∨ s.linkUp = false ∨ s.epo.opened = false ∨ s.epo.digest = false ∨
      s.epo.assured = true))
    ∧ (∃ (s : State) (e : Word), (s.Up) ∧ (s.mode = .twinStandby ∧ s.epo.opened = true ∧ s.twn.acked = true) ∧ (e.toNat = s.rd Reg.GLB_EPOCH))
    ∧ (∃ (s : State) (e : Word), (s.Up) ∧ (s.mode ≠ .twinStandby ∨ s.epo.opened = false ∨ s.twn.acked = false ∨ e.toNat ≠ s.rd Reg.GLB_EPOCH))
    ∧ (∃ (s u : State) (e : Word) (d : Nat), (s.Up) ∧ (s.mode = .twinStandby ∧ s.epo.opened = true) ∧ (e.toNat = s.rd Reg.GLB_EPOCH) ∧ (d =
      (match s.verdict with | some v => v.2 | none => 0)) ∧ (u = s.toRejoin.noteMismatch e.toNat d (s.on Reg.FJR_PEER_LOCKSTEP)))
    ∧ (∃ (s : State) (e : Word) (k : Fin 3), (s.Up) ∧ (s.follows = true ∧ s.epo.opened = true ∧ e.toNat = s.rd Reg.GLB_EPOCH) ∧ (k ≠ 1 ∨
      s.mode = .rejoin))
    ∧ (∃ (s : State) (e : Word) (k : Fin 3), (s.Up) ∧ (s.follows = false ∨ s.epo.opened = false ∨ e.toNat ≠ s.rd Reg.GLB_EPOCH))
    ∧ (∃ (s u : State) (q e : Word) (body : List Byte) (k : Nat) (m : List Nat), (s.Up) ∧ (s.mode = .twinStandby ∧ s.twn.stopped = false ∧
      s.now.ns % 100000000 ≤ 500000) ∧ (s.life = 2 ∧ s.keyOf 5 = some k) ∧ (m = zypHeader 0x10 (2 * s.seat) 255 s.yardId broadcastId (s.rd
      Reg.LNA_ZYP_BOOT) q.toNat (e.toNat % 4294967296) ++ body.map BitVec.toNat) ∧ (u =
      { s with zyp := { s.zyp with seq := AMap.set (broadcastId * 32 + 0x10) (q.toNat + 1) s.zyp.seq } }))
    ∧ (∃ (s : State) (q e : Word) (body : List Byte), (s.Up) ∧ (s.mode = .twinStandby ∧ s.twn.stopped = false ∧ s.now.ns % 100000000 ≤ 500000)
      ∧ (s.life = 2 ∧ s.keyOf 5 = none))
    ∧ (∃ (s : State) (q e : Word) (body : List Byte), (s.Up) ∧ (s.mode ≠ .twinStandby ∨ s.twn.stopped = true ∨ 500000 < s.now.ns % 100000000))
    ∧ (∃ (s : State), (s.Up) ∧ (s.mode = .twinStandby))
    ∧ (∃ (s : State), (s.Up) ∧ (s.mode ≠ .twinStandby)) :=
  ⟨⟨{ State.reset with mode := .twinStandby, trp := { State.reset.trp with fleet := .go } }, 1, by exact ⟨by decide, by decide, fun r _ => rfl⟩⟩,
    ⟨{ State.reset with mode := .twinStandby }, 1, [(3, 2)], by decide⟩,
    ⟨{ State.reset.wr Reg.FJR_STATUS_LINK 2 with mode := .fleetRun, twn := { State.reset.twn with mirrored := true } }, 1, [], by decide⟩,
    ⟨{ State.reset with trp := { State.reset.trp with fleet := .go } }, true, 4, Reg.TRP_STOP_CAUSE_HOST, by decide⟩,
    ⟨{ State.reset with trp := { State.reset.trp with fleet := .stop } }, true, 4, Reg.TRP_STOP_CAUSE_HOST, by decide⟩,
    ⟨{ State.reset with mode := .fleetRun }, true, 5, 4, Reg.TRP_ROBOT_HOST 5, by exact ⟨by decide, by decide, rfl⟩⟩,
    ⟨{ State.reset with mode := .twinStandby }, true, some 5, 0, by exact ⟨by decide, .inl rfl⟩⟩,
    ⟨{ State.reset.wr Reg.FJR_STATUS_LINK 2 with mode := .twinStandby, epo := { State.reset.epo with released := true } }, by decide⟩,
    ⟨{ State.reset.wr Reg.FJR_STATUS_LINK 2 with mode := .twinStandby, epo := { State.reset.epo with released := true } }, .fleet, 4, by decide⟩,
    ⟨{ State.reset.wr Reg.FJR_STATUS_LINK 2 with mode := .twinStandby, epo := { State.reset.epo with opened := true } }, 0, 0, 0, 3, ⟨0, 5, 0⟩, 1, [(4, 1)], by decide⟩,
    ⟨{ State.reset.wrEach [(Reg.FJR_STATUS_LINK, 2), (Reg.FJR_STATUS_REJOIN_STATE, 3)] with mode := .rejoin, epo := { State.reset.epo with opened := true, closed := 6 } }, _, 7, 6, 0, 3, ⟨0, 5, 0⟩, 1, [], by exact ⟨by decide, by decide, rfl⟩⟩,
    ⟨{ State.reset.wr Reg.FJR_STATUS_LINK 2 with mode := .twinStandby }, 0, 0, 0, 3, ⟨0, 5, 0⟩, 1, [], by exact ⟨by decide, rfl, .inl rfl⟩⟩,
    ⟨{ State.reset.wr Reg.FJR_STATUS_LINK 2 with mode := .twinStandby, epo := { State.reset.epo with released := true }, twn := { State.reset.twn with own := [⟨9, 3, 0, 4, 77, 0, 5, none, 0, [], 2⟩] } }, ⟨2, 9, 3, false, 0, 4, 77⟩, ⟨9, 3, 0, 4, 77, 0, 5, none, 0, [], 2⟩, by decide⟩,
    ⟨{ State.reset.wr Reg.FJR_STATUS_LINK 2 with mode := .twinStandby, epo := { State.reset.epo with released := true } }, _, ⟨2, 9, 3, false, 0, 4, 77⟩, by exact ⟨by decide, by decide, rfl, rfl⟩⟩,
    ⟨{ State.reset.wr Reg.FJR_STATUS_LINK 2 with mode := .twinStandby, epo := { State.reset.epo with released := true } }, .fleet, [(4, 9)], [], by decide⟩,
    ⟨{ State.reset.wr Reg.FJR_STATUS_LINK 2 with mode := .twinStandby, epo := { State.reset.epo with released := true } }, [7], by decide⟩,
    ⟨{ State.reset.wr Reg.FJR_STATUS_LINK 2 with mode := .twinStandby, epo := { State.reset.epo with released := true } }, [], by decide⟩,
    ⟨{ State.reset.wr Reg.FJR_STATUS_LINK 2 with mode := .twinStandby }, .fin, by exact ⟨by decide, .inl rfl, trivial⟩⟩,
    ⟨{ State.reset.wr Reg.FJR_STATUS_LINK 2 with mode := .twinStandby }, [.fin, .fin], by decide⟩,
    ⟨State.reset, [.fin], by exact ⟨by decide, .inl rfl⟩⟩,
    ⟨{ State.reset with mode := .twinStandby, epo := { State.reset.epo with opened := true } }, ⟨0, 0, [], [], []⟩, by decide⟩,
    ⟨{ State.reset.wr Reg.FJR_STATUS_LINK 2 with mode := .twinStandby, epo := { State.reset.epo with opened := true, digest := true, sums := some ([0], []) } }, _, ⟨0, 0, [0], [], []⟩, by exact ⟨by decide, by decide, rfl⟩⟩,
    ⟨{ State.reset.wr Reg.FJR_STATUS_REJOIN_STATE 4 with mode := .rejoin, epo := { State.reset.epo with opened := true } }, ⟨0, 0, [], [], []⟩, by decide⟩,
    ⟨State.reset, ⟨0, 0, [], [], []⟩, by exact ⟨by decide, .inl rfl⟩⟩,
    ⟨{ State.reset with twn := { State.reset.twn with mirrored := true }, epo := { State.reset.epo with opened := true, digest := true } }, _, ⟨0, false, 0, false⟩, 7, 7, by exact ⟨by decide, by decide, by decide, by decide, by decide, rfl⟩⟩,
    ⟨{ State.reset with twn := { State.reset.twn with mirrored := true }, epo := { State.reset.epo with opened := true, digest := true } }, ⟨0, true, 0, false⟩, 7, by decide⟩,
    ⟨{ State.reset with twn := { State.reset.twn with mirrored := true }, epo := { State.reset.epo with opened := true, digest := true } }, _, _, ⟨0, true, 0, false⟩, 7, 7, by exact ⟨by decide, by decide, by decide, by decide, by decide, rfl, rfl⟩⟩,
    ⟨State.reset, ⟨0, false, 0, false⟩, 7, by exact ⟨by decide, .inr (.inl rfl)⟩⟩,
    ⟨{ State.reset.wr Reg.FJR_STATUS_LINK 2 with twn := { State.reset.twn with mirrored := true }, epo := { State.reset.epo with opened := true, digest := true } }, by decide⟩,
    ⟨{ State.reset.wr Reg.FJR_STATUS_LINK 2 with mode := .fleetRun, twn := { State.reset.twn with mirrored := true, lates := 1 }, epo := { State.reset.epo with opened := true, digest := true } }, _, by exact ⟨by decide, by decide, by decide, rfl⟩⟩,
    ⟨State.reset, by exact ⟨by decide, .inr (.inl rfl)⟩⟩,
    ⟨{ State.reset with mode := .twinStandby, twn := { State.reset.twn with acked := true }, epo := { State.reset.epo with opened := true } }, 0, by decide⟩,
    ⟨State.reset, 0, by exact ⟨by decide, .inl (by decide)⟩⟩,
    ⟨{ State.reset with mode := .twinStandby, epo := { State.reset.epo with opened := true } }, _, 0, 0, by exact ⟨by decide, by decide, by decide, rfl, rfl⟩⟩,
    ⟨{ State.reset with mode := .twinStandby, epo := { State.reset.epo with opened := true } }, 0, 2, by exact ⟨by decide, by decide, .inl (by decide)⟩⟩,
    ⟨State.reset, 0, 1, by exact ⟨by decide, .inl rfl⟩⟩,
    ⟨{ (State.reset.wrEach [(Reg.VLT_LIFECYCLE_STATE, 2), (Reg.CLK_ADMIT_STATUS_LAN_ADMITTED, 1), (Reg.CHU_CFG_ENABLE 8, 1), (Reg.CHU_CFG_ENABLE 12, 1)]).withKey 5 1 77 with mode := .twinStandby, zyp := { State.reset.zyp with lanUp := [0, 1] } }, _, 3, 4, [1], 77, _, by exact ⟨by decide, by decide, by decide, rfl, rfl⟩⟩,
    ⟨{ State.reset.wr Reg.VLT_LIFECYCLE_STATE 2 with mode := .twinStandby }, 3, 4, [1], by decide⟩,
    ⟨State.reset, 3, 4, [1], by exact ⟨by decide, .inl (by decide)⟩⟩,
    ⟨{ State.reset with mode := .twinStandby }, by decide⟩,
    ⟨State.reset, by decide⟩⟩

/-- The hypotheses of each clause of TwinRejoin are met, in order. -/
theorem test_TwinRejoin_met :
    (∃ (s u : State), (s.Up) ∧ (s.mode = .rejoin ∧ s.rejoinState = 1 ∧ s.linkUp = true ∧ s.on Reg.FJR_STATUS_CLAIM_IN = true ∧ s.twn.wait =
      false) ∧ (u = State.fjrBump (State.wr (State.wr { s with twn := { s.twn with retries := 0 } } Reg.FJR_STATUS_REJOIN_STATE 2)
      Reg.FJR_STATUS_CLEAN 0) Reg.FJR_REJOINS))
    ∧ (∃ (s : State), (s.Up) ∧ (s.mode ≠ .rejoin ∨ s.rejoinState ≠ 1 ∨ s.linkUp = false ∨ s.on Reg.FJR_STATUS_CLAIM_IN = false ∨ s.twn.wait =
      true))
    ∧ (∃ (s : State), (s.Up) ∧ (s.follows = false ∧ s.mode.fleet = true))
    ∧ (∃ (s : State), (s.Up) ∧ (s.follows = false ∧ s.mode.fleet = false))
    ∧ (∃ (s : State), (s.Up) ∧ (s.follows = true))
    ∧ (∃ (s : State) (p : SnapPart), (s.Up) ∧ (s.mode = .rejoin ∧ s.rejoinState = 2))
    ∧ (∃ (s : State) (p : SnapPart), (s.Up) ∧ (s.mode ≠ .rejoin ∨ s.rejoinState ≠ 2))
    ∧ (∃ (s : State) (n : Word) (ok : Bool), (s.Up) ∧ (s.mode = .rejoin ∧ s.rejoinState = 2) ∧ (n.toNat = 0))
    ∧ (∃ (s : State) (n : Word), (s.Up) ∧ (s.mode = .rejoin ∧ s.rejoinState = 2) ∧ (n.toNat ≠ 0))
    ∧ (∃ (s : State) (n : Word) (cells : List Nat), (s.Up) ∧ (s.mode = .rejoin ∧ s.rejoinState = 2 ∧ s.twn.parts = [.blocked cells]) ∧
      (n.toNat ≠ 0))
    ∧ (∃ (s u : State) (n : Word), (s.Up) ∧ (s.mode = .rejoin ∧ s.rejoinState = 2) ∧ (n.toNat ≠ 0) ∧ (u = s.twn.parts.foldl State.applyPart
      s))
    ∧ (∃ (s : State) (n : Word) (ok : Bool), (s.Up) ∧ (s.mode ≠ .rejoin ∨ s.rejoinState ≠ 2))
    ∧ (∃ (s : State) (hd : InputEntry) (es : List InputEntry) (ops : List (Word × RobotOp)) (loops : List LoopSpec) (ok : Bool), (s.Up) ∧
      (s.mode = .rejoin ∧ s.rejoinState = 3) ∧ ((match hd with | .head _ _ _ _ _ _ _ => True | _ => False)))
    ∧ (∃ (s a b d e f : State) (n prev slot cnt : Word) (t0 : YTime) (fl : Fin 4) (own : List (Fin 256 × Fin 4)) (es : List InputEntry) (ops :
      List (Word × RobotOp)) (loops : List LoopSpec) (ok : Bool), (s.Up) ∧ (s.mode = .rejoin ∧ s.rejoinState = 3) ∧ (a = s.closeEpoch.wr
      Reg.GLB_EPOCH n.toNat) ∧ (b = State.openHead { a with epo := { a.epo with opened := true } } slot.toNat t0 fl.val own) ∧ (d =
      sweepCompleteOp (List.foldl (fun (t : State) (x : Word × RobotOp) => t.takeListed x.1.toNat x.2) (List.foldl State.takeEntry b
      (es.filter fun (x : InputEntry) => (match x with | .zyp _ => false | .head _ _ _ _ _ _ _ => false | _ => true))) ops)) ∧ (e =
      epochDecideOp loops { d with epo := { d.epo with ended := true, snapped := true } }) ∧ (f = ((e.workAll (3 *
      e.epo.work.length)).paceAll).closeAudited))
    ∧ (∃ (s : State) (es : List InputEntry) (ops : List (Word × RobotOp)) (loops : List LoopSpec) (ok : Bool), (s.Up) ∧ (s.mode ≠ .rejoin ∨
      s.rejoinState ≠ 3))
    ∧ (∃ (s : State) (k : Nat), (s.Up) ∧ (s.mode ≠ .rejoin ∧ s.twn.journal = some k) ∧ (s.rd Reg.FJR_CFG_JOURNAL_MAX ≤ k))
    ∧ (∃ (s u : State), (s.Up) ∧ (s.mode = .rejoin ∧ (s.rejoinState = 2 ∨ s.rejoinState = 3)) ∧ (u =
      { s with twn := { s.twn with retries := s.twn.retries + 1 } }))
    ∧ (∃ (s : State), (s.Up) ∧ (s.mode ≠ .rejoin ∧ (∀ k, s.twn.journal = some k → k < s.rd Reg.FJR_CFG_JOURNAL_MAX) ∨ s.mode = .rejoin ∧
      s.rejoinState ≠ 2 ∧ s.rejoinState ≠ 3))
    ∧ (∃ (s : State) (d : Nat), (s.Up) ∧ (s.mode = .rejoin ∧ s.rejoinState = 4 ∧ s.epo.opened = true ∧ s.epo.digest = true) ∧ (s.verdict =
      some (true, d)) ∧ (s.rd Reg.FJR_STATUS_CLEAN < 19))
    ∧ (∃ (s a b : State) (d n : Nat), (s.Up) ∧ (s.mode = .rejoin ∧ s.rejoinState = 4 ∧ s.epo.opened = true ∧ s.epo.digest = true) ∧ (s.verdict
      = some (true, d)) ∧ (a = State.commitEpoch (s.linkSend 0x24 (le 4 (s.rd Reg.GLB_EPOCH) ++ [0, d, bit s.twn.lockstep, 0]))) ∧ (n = min
      20 (a.rd Reg.FJR_STATUS_CLEAN + 1)) ∧ (b = a.wr Reg.FJR_STATUS_CLEAN n))
    ∧ (∃ (s a : State) (d : Nat), (s.Up) ∧ (s.mode = .rejoin ∧ s.rejoinState = 4 ∧ s.epo.opened = true ∧ s.epo.digest = true) ∧ (s.verdict =
      some (false, d)) ∧ (a = State.abandonEpoch (s.linkSend 0x24 (le 4 (s.rd Reg.GLB_EPOCH) ++ [1, d, bit s.twn.lockstep, 0]))))
    ∧ (∃ (s : State), (s.Up) ∧ (s.mode ≠ .rejoin ∨ s.rejoinState ≠ 4 ∨ s.epo.opened = false ∨ s.epo.digest = false ∨ s.verdict = none))
    ∧ (∃ (s : State), (s.Up) ∧ (s.follows = false ∧ s.linkUp = true ∧ s.shutsMirror = false))
    ∧ (∃ (s : State), (s.Up) ∧ (s.follows = true ∨ s.linkUp = false ∨ s.mode = .pantry ∨ s.mode = .survey))
    ∧ (∃ (s : State), (s.Up) ∧ (s.mode.fleet = false ∧ s.follows = false) ∧ (100 ≤ s.sh Reg.FJR_CFG_LINK_TIMEOUT ∧ s.sh
      Reg.FJR_CFG_LINK_TIMEOUT ≤ 1000 ∧ 64 ≤ s.sh Reg.FJR_CFG_JOURNAL_MAX ∧ s.sh Reg.FJR_CFG_JOURNAL_MAX ≤ 1024))
    ∧ (∃ (s : State), (s.Up) ∧ (s.mode.fleet = false ∧ s.follows = false) ∧ (s.sh Reg.FJR_CFG_LINK_TIMEOUT < 100 ∨ s.sh
      Reg.FJR_CFG_LINK_TIMEOUT > 1000 ∨ s.sh Reg.FJR_CFG_JOURNAL_MAX < 64 ∨ s.sh Reg.FJR_CFG_JOURNAL_MAX > 1024))
    ∧ (∃ (s : State), (s.Up) ∧ (s.mode.fleet = true ∨ s.follows = true))
    ∧ (∃ (s : State), (s.Up) ∧ (s.mode = .rejoin ∧ s.rejoinState = 1 ∧ s.twn.wait = true))
    ∧ (∃ (s : State), (s.Up) ∧ (s.mode = .rejoin ∧ s.rejoinState = 5))
    ∧ (∃ (s : State), (s.Up) ∧ (s.mode = .rejoin ∧ s.rejoinState ≠ 5 ∧ (s.rejoinState = 1 → s.twn.wait = false)))
    ∧ (∃ (s : State), (s.Up) ∧ (s.mode ≠ .rejoin)) :=
  ⟨⟨{ State.reset.wrEach [(Reg.FJR_STATUS_REJOIN_STATE, 1), (Reg.FJR_STATUS_LINK, 2), (Reg.FJR_STATUS_CLAIM_IN, 1)] with mode := .rejoin }, _, by exact ⟨by decide, by decide, rfl⟩⟩,
    ⟨State.reset, by exact ⟨by decide, .inl (by decide)⟩⟩,
    ⟨{ State.reset with mode := .fleetRun }, by decide⟩,
    ⟨State.reset.wr Reg.FJR_STATUS_LINK 2, by decide⟩,
    ⟨{ State.reset with mode := .twinStandby }, by decide⟩,
    ⟨{ State.reset.wr Reg.FJR_STATUS_REJOIN_STATE 2 with mode := .rejoin }, .blocked [5], by decide⟩,
    ⟨State.reset, .blocked [5], by exact ⟨by decide, .inl (by decide)⟩⟩,
    ⟨{ State.reset.wr Reg.FJR_STATUS_REJOIN_STATE 2 with mode := .rejoin }, 0, true, by decide⟩,
    ⟨{ State.reset.wr Reg.FJR_STATUS_REJOIN_STATE 2 with mode := .rejoin }, 4, by decide⟩,
    ⟨{ State.reset.wr Reg.FJR_STATUS_REJOIN_STATE 2 with mode := .rejoin, twn := { State.reset.twn with parts := [.blocked [5]] } }, 4, [5], by decide⟩,
    ⟨{ State.reset.wr Reg.FJR_STATUS_REJOIN_STATE 2 with mode := .rejoin, twn := { State.reset.twn with parts := [.blocked [5], .ops []] } }, _, 4, by exact ⟨by decide, by decide, by decide, rfl⟩⟩,
    ⟨State.reset, 4, true, by exact ⟨by decide, .inl (by decide)⟩⟩,
    ⟨{ State.reset.wr Reg.FJR_STATUS_REJOIN_STATE 3 with mode := .rejoin }, .head 0 0 0 0 ⟨0, 0, 0⟩ 0 [], [], [], [], true, by exact ⟨by decide, by decide, trivial⟩⟩,
    ⟨{ State.reset.wr Reg.FJR_STATUS_REJOIN_STATE 3 with mode := .rejoin }, _, _, _, _, _, 1, 0, 0, 2, ⟨0, 0, 0⟩, 0, [], [.fin], [], [], true, by exact ⟨by decide, by decide, rfl, rfl, rfl, rfl, rfl⟩⟩,
    ⟨State.reset, [], [], [], true, by exact ⟨by decide, .inl (by decide)⟩⟩,
    ⟨{ State.reset with mode := .fleetRun, twn := { State.reset.twn with journal := some 5000 } }, 5000, by decide⟩,
    ⟨{ State.reset.wr Reg.FJR_STATUS_REJOIN_STATE 3 with mode := .rejoin, twn := { State.reset.twn with retries := 2 } }, _, by exact ⟨by decide, ⟨by decide, .inr (by decide)⟩, rfl⟩⟩,
    ⟨{ State.reset with mode := .fleetRun }, by exact ⟨by decide, .inl ⟨by decide, fun k h => by cases h⟩⟩⟩,
    ⟨{ State.reset.wr Reg.FJR_STATUS_REJOIN_STATE 4 with mode := .rejoin, epo := { State.reset.epo with opened := true, digest := true, sums := some ([0], []) }, twn := { State.reset.twn with prep := some ⟨0, 0, [0], [], []⟩ } }, 0, by decide⟩,
    ⟨{ State.reset.wrEach [(Reg.FJR_STATUS_REJOIN_STATE, 4), (Reg.FJR_STATUS_LINK, 2), (Reg.FJR_STATUS_CLEAN, 19)] with mode := .rejoin, epo := { State.reset.epo with opened := true, digest := true, sums := some ([0], []) }, twn := { State.reset.twn with prep := some ⟨0, 0, [0], [], []⟩ } }, _, _, 0, _, by exact ⟨by decide, by decide, by decide, rfl, rfl, rfl⟩⟩,
    ⟨{ State.reset.wr Reg.FJR_STATUS_REJOIN_STATE 4 with mode := .rejoin, epo := { State.reset.epo with opened := true, digest := true, sums := some ([1], []) }, twn := { State.reset.twn with retries := 2, prep := some ⟨0, 0, [0], [], []⟩ } }, _, 0, by exact ⟨by decide, by decide, by decide, rfl⟩⟩,
    ⟨State.reset, by exact ⟨by decide, .inl (by decide)⟩⟩,
    ⟨{ State.reset.wr Reg.FJR_STATUS_LINK 2 with mode := .fleetRun }, by decide⟩,
    ⟨{ State.reset with mode := .twinStandby }, by exact ⟨by decide, .inl (by decide)⟩⟩,
    ⟨State.reset.wrShadow Reg.FJR_CFG_LINK_TIMEOUT 200, by decide⟩,
    ⟨State.reset.wrShadow Reg.FJR_CFG_LINK_TIMEOUT 50, by decide⟩,
    ⟨{ State.reset with mode := .fleetRun }, by exact ⟨by decide, .inl (by decide)⟩⟩,
    ⟨{ State.reset.wr Reg.FJR_STATUS_REJOIN_STATE 1 with mode := .rejoin, twn := { State.reset.twn with wait := true } }, by decide⟩,
    ⟨{ State.reset.wr Reg.FJR_STATUS_REJOIN_STATE 5 with mode := .rejoin }, by decide⟩,
    ⟨{ State.reset.wr Reg.FJR_STATUS_REJOIN_STATE 2 with mode := .rejoin }, by decide⟩,
    ⟨State.reset, by decide⟩⟩

end Sys2Proof.Tests
end

section
namespace Sys2Proof.Machine

/-- The two's-complement reading of a word is positive on the lower half of its values, 0 left out. -/
theorem toInt_pos_iff_toNat {w : Nat} (d : BitVec w) : 0 < d.toInt ↔ 0 < d.toNat ∧ 2 * d.toNat < 2 ^ w := by
  have hlt : d.toNat < 2 ^ w := d.isLt
  rw [BitVec.toInt_eq_toNat_cond]
  split <;> omega

/-- Rule R5 reads only the 32-bit difference: the model's sum on naturals is the wrapping subtraction of words. -/
theorem later_toNat (a b : BitVec 32) :
    later a.toNat b.toNat = decide (0 < (a - b).toNat ∧ (a - b).toNat < 0x80000000) := by
  have hdiff : (a.toNat + 4294967296 - b.toNat % 4294967296) % 4294967296 = (a - b).toNat := by
    rw [BitVec.toNat_sub]
    omega
  simp only [later, hdiff]

/-- Settles O6: both orders depend on the difference's value alone, and both ask for it in the open interval from 0 to 0x8000_0000. -/
theorem laterIsTheSignedDifference : Obligations.LaterIsTheSignedDifference := by
  unfold Obligations.LaterIsTheSignedDifference
  refine ⟨fun a b => ?_, fun a b hd => ?_⟩
  · rw [later_toNat, decide_eq_decide, toInt_pos_iff_toNat]
    omega
  · rw [later_toNat, hd]
    decide

end Sys2Proof.Machine
end

section
/-! Clearing a sticky bit (rule R57): what a bit of `stickyBits` reads after STICKY_FAULT_CLEAR. -/

namespace Sys2Proof.Machine

/-- The W1C bits as the register maps give them: one bit wide, 0 at reset but for POWER_ON, inside a 64-bit register at a
32-bit offset; none is the pending bit that a fault's message on vector 0 may set. -/
theorem stickyBits_shape : ∀ f ∈ stickyBits,
    (f.w = 1 ∧ f.rst = bit (f.key == Reg.CLK_RESET_CAUSE_POWER_ON.key)) ∧ (f.lo < 64 ∧ f.off < 4294967296) ∧ f.key ≠ (Reg.MSIX_PENDING 0).key := by
  unfold stickyBits
  simp only [List.forall_mem_append]
  and_intros <;> decide

/-- Offset, bit and object are digits of the key, so fields that agree in width and reset value and share a key are one. -/
theorem Fld.eq_of_key_eq {f g : Fld} (hw : f.w = g.w) (hrst : f.rst = g.rst) (hf : f.lo < 64 ∧ f.off < 4294967296)
    (hg : g.lo < 64 ∧ g.off < 4294967296) (hkey : f.key = g.key) : f = g := by
  obtain ⟨offf, lof, wf, rstf, idxf⟩ := f
  obtain ⟨offg, log, wg, rstg, idxg⟩ := g
  simp only [Fld.key] at hw hrst hf hg hkey
  simp only [Fld.mk.injEq]
  omega

theorem key_ne_of_mem_stickyBits {f g : Fld} (hf : f ∈ stickyBits) (hg : g ∈ stickyBits) (hne : f ≠ g) : f.key ≠ g.key := by
  obtain ⟨⟨hfw, hfrst⟩, hfpos, -⟩ := stickyBits_shape f hf
  obtain ⟨⟨hgw, hgrst⟩, hgpos, -⟩ := stickyBits_shape g hg
  exact fun hkey => hne (Fld.eq_of_key_eq (hfw.trans hgw.symm) (by rw [hfrst, hgrst, hkey]) hfpos hgpos hkey)

theorem hits_subset_stickyBits (s : State) (off v : Nat) : s.hits off v ⊆ stickyBits := List.filter_subset_self _

/-- Clearing W1C bits: each reads 0 after it, every other W1C bit keeps its value. -/
theorem rd_wrEach_zero {f : Fld} (hf : f ∈ stickyBits) (gs : List Fld) (hgs : gs ⊆ stickyBits) (s : State) :
    (s.wrEach (gs.map fun g => (g, 0))).rd f = if f ∈ gs then 0 else s.rd f := by
  induction gs generalizing s with
  | nil => simp [State.wrEach]
  | cons g gs ih =>
    obtain ⟨hg, hgs⟩ := List.cons_subset.mp hgs
    rw [List.map_cons, State.wrEach, ih hgs]
    by_cases hfg : f = g
    · subst hfg
      simp
    · simp [hfg, State.rd_wr_ne (key_ne_of_mem_stickyBits hf hg hfg)]

/-- Raising W1C bits as faults, whatever data goes with each: each reads 1 after it, every other W1C bit keeps its value. -/
theorem rd_foldl_faultWith {f : Fld} (hf : f ∈ stickyBits) (data : Fld → Nat) (gs : List Fld) (hgs : gs ⊆ stickyBits) (s : State) :
    (gs.foldl (fun (a : State) g => a.faultWith g (data g)) s).rd f = if f ∈ gs then 1 else s.rd f := by
  obtain ⟨⟨hw, -⟩, -, hpend⟩ := stickyBits_shape f hf
  induction gs generalizing s with
  | nil => simp
  | cons g gs ih =>
    obtain ⟨hg, hgs⟩ := List.cons_subset.mp hgs
    rw [List.foldl_cons, ih hgs]
    by_cases hfg : f = g
    · subst hfg
      simp [State.faultWith_rd s f (data f) (by simp [hw]) hpend]
    · simp [hfg, State.rd_faultWith_ne (key_ne_of_mem_stickyBits hf hg hfg) hpend]

/-- The bits set again are the cleared ones whose condition persists. -/
theorem mem_setAgain_iff {s : State} {hit : List Fld} {f : Fld} :
    f ∈ (s.conditions.filter fun (p : Fld × Bool) => p.2 && hit.contains p.1).map (·.1) ↔ (f, true) ∈ s.conditions ∧ f ∈ hit := by
  simp

/-- A W1C bit that is 1 and written with 1 reads afterwards whether its condition holds. -/
theorem rd_stickyFaultClearOp {s : State} {off v : Nat} {f : Fld} (hf : f ∈ s.hits off v) :
    (stickyFaultClearOp off v s).rd f = if (f, true) ∈ s.conditions then 1 else 0 := by
  have hsub := hits_subset_stickyBits s off v
  have hagain : ((s.conditions.filter fun (p : Fld × Bool) => p.2 && (s.hits off v).contains p.1).map (·.1)) ⊆ stickyBits :=
    fun g hg => hsub (mem_setAgain_iff.mp hg).2
  unfold stickyFaultClearOp
  rw [rd_foldl_faultWith (hsub hf) (fun g => bit (g == Reg.RNG_FAULT_ANT_B_FAULT)) _ hagain, rd_wrEach_zero (hsub hf) _ hsub]
  simp only [mem_setAgain_iff, hf, and_true, if_true]

/-- With the main domain up, a write of 1 to a W1C bit completes and leaves the bit as its condition is. -/
theorem gives_stickyFaultClear_rd {s : State} (hup : s.Up) {v : Word} {f : Fld} (hf : f ∈ s.hits f.off v.toNat) :
    Gives (.stickyFaultClear (BitVec.ofNat 32 f.off) v) s fun t => t.rd f = if (f, true) ∈ s.conditions then 1 else 0 := by
  obtain ⟨-, ⟨-, hoff⟩, -⟩ := stickyBits_shape f (hits_subset_stickyBits s _ _ hf)
  refine ⟨_, rfl, ?_⟩
  beta_reduce
  rw [State.whenMain_up hup, BitVec.toNat_ofNat, Nat.mod_eq_of_lt hoff, rd_stickyFaultClearOp hf]

/-- Settles O7: of the bits a write clears, exactly those whose condition holds are set again. -/
theorem holdingConditionSetsItsBitAgain : Obligations.HoldingConditionSetsItsBitAgain := by
  unfold Obligations.HoldingConditionSetsItsBitAgain
  refine ⟨fun s v f hup _ hcond hhit => ?_, fun s v f hup _ hcond hhit => ?_⟩
  · simpa only [if_pos hcond] using gives_stickyFaultClear_rd hup hhit
  · simpa only [if_neg hcond] using gives_stickyFaultClear_rd hup hhit

end Sys2Proof.Machine
end

section
/-! MOVE (rules R147 to R150, R156): the laws of Hoist channels and of memory ranges it rests on, and what it does with no byte to
move, with a range in no one region, and between two ranges of memory. -/

namespace Sys2Proof.Machine

/-! ## Ranges of memory -/

@[simp] theorem Memory.length_readAll (m : Memory) (a k : Nat) : (Memory.readAll m a k).length = k := by
  induction k generalizing a with
  | zero => rfl
  | succ k ih => simp [Memory.readAll, ih]

theorem Memory.getElem_readAll (m : Memory) (a : Nat) {k i : Nat} (h : i < (Memory.readAll m a k).length) :
    (Memory.readAll m a k)[i] = Memory.read (a + i) m := by
  induction k generalizing a i with
  | zero => simp at h
  | succ k ih =>
    cases i with
    | zero => rfl
    | succ i => simp [Memory.readAll, ih, Nat.add_assoc, Nat.add_comm 1 i]

/-- Rule R148: every byte is read before any is written, so an overlap of the two ranges plays no part. -/
theorem Memory.read_writeAll_readAll (m : Memory) (src dst : Nat) {k len : Nat} (h : k < len) :
    Memory.read (dst + k) (Memory.writeAll dst (Memory.readAll m src len) m) = Memory.read (src + k) m := by
  rw [Memory.read_writeAll_in _ _ (by simpa using h), Memory.getElem_readAll]

/-! ## Channels -/

@[simp] theorem State.chan_setChan_same (s : State) (n : Nat) (c : Chan) : (s.setChan n c).chan n = c := by
  simp [State.chan, State.setChan]

@[simp] theorem State.setChan_mem (s : State) (n : Nat) (c : Chan) : (s.setChan n c).mem = s.mem := rfl
@[simp] theorem State.setChan_board (s : State) (n : Nat) (c : Chan) : (s.setChan n c).board = s.board := rfl

/-- What a halt (rule R160) makes of the channel itself. -/
theorem State.haltChan_chan (s : State) (n status : Nat) :
    (s.haltChan n status).chan n = { s.chan n with st := .halted, status := status, move := none } := by
  unfold State.haltChan
  split <;> simp [State.chan, State.setChan]

/-- Outside a MOVE a halt leaves no bytes undefined (rule R157). -/
theorem State.haltChan_mem {s : State} {n : Nat} (h : (s.chan n).move = none) (status : Nat) :
    (s.haltChan n status).mem = s.mem := by
  simp only [State.haltChan, h]
  split <;> simp

/-- A running channel goes on at the pc that the loops give (rule R150). -/
theorem State.nextIns_of_running {s : State} {n : Nat} (h : (s.chan n).st = .running) (next : Nat) :
    s.nextIns n next = s.setChan n { s.chan n with
      pc := (flowOn (s.chan n).loops next).1, loops := (flowOn (s.chan n).loops next).2, move := none } := by
  simp [State.nextIns, h]

theorem State.atOp_iff {s : State} {n op : Nat} : s.atOp n op = true ↔
    (s.chan n).st = .running ∧ (s.chan n).pc < s.progLen n ∧ insOp (s.chan n).ins = op ∧ (s.chan n).move = none := by
  simp [State.atOp, and_assoc]

/-- An instruction that the channel is at, fetched intact, is executed. -/
theorem State.runIns_of_atOp {s : State} {n op : Nat} {fetch : Ecc} (hat : s.atOp n op = true) (hfetch : fetch ≠ .uncorrectable)
    (body : State → State) : s.runIns n op fetch body = body s := by
  simp [State.runIns, hat, hfetch]

/-- No instruction starts while the channel's MOVE is in progress (rule R148), however its fetch would end. -/
theorem State.runIns_of_move {s : State} {n : Nat} (h : (s.chan n).move ≠ none) (op : Nat) (fetch : Ecc) (body : State → State) :
    s.runIns n op fetch body = s := by
  simp [State.runIns, State.atIns, State.atOp, h]

/-! ## The channel as its MOVE starts -/

/-- Channel n with HST_CH_COUNTn back at 0, from which each MOVE starts. -/
def State.clearCount (s : State) (n : Nat) : State := s.setChan n { s.chan n with bytes := 0 }

@[simp] theorem State.clearCount_mem (s : State) (n : Nat) : (s.clearCount n).mem = s.mem := rfl
@[simp] theorem State.clearCount_board (s : State) (n : Nat) : (s.clearCount n).board = s.board := rfl
theorem State.clearCount_chan (s : State) (n : Nat) : (s.clearCount n).chan n = { s.chan n with bytes := 0 } :=
  State.chan_setChan_same _ _ _

@[simp] theorem State.clearCount_pc (s : State) (n : Nat) : ((s.clearCount n).chan n).pc = (s.chan n).pc := by
  rw [State.clearCount_chan]

@[simp] theorem State.clearCount_ins (s : State) (n : Nat) : ((s.clearCount n).chan n).ins = (s.chan n).ins := by
  rw [State.clearCount_chan]; rfl

@[simp] theorem State.clearCount_moveEnds (s : State) (n : Nat) : (s.clearCount n).moveEnds n = s.moveEnds n := by
  unfold State.moveEnds
  rw [State.clearCount_chan]; rfl

@[simp] theorem State.clearCount_moveRegion (s : State) (n a len : Nat) (fixed : Bool) :
    (s.clearCount n).moveRegion a len fixed = s.moveRegion a len fixed := rfl

/-- SRC_FIXED and DST_FIXED are the two bits of one field. -/
theorem bits_one_zero_of_two {w lo : Nat} (h : bits w lo 2 = 0) : bits w lo 1 = 0 ∧ bits w (lo + 1) 1 = 0 := by
  have hdiv : w / 2 ^ (lo + 1) = w / 2 ^ lo / 2 := by rw [Nat.pow_succ, Nat.div_div_eq_div_mul]
  unfold bits at *
  omega

/-! ## Regions of the address map -/

/-- A range of memory or flash lies in LPDDR4X, in the SRAM or in NOR (rule R144). -/
theorem range_of_regionOf_memory {b : Board} {a len : Nat} {r : Region} (h : regionOf b a len = some r) (hr : r = .ram ∨ r = .nor) :
    a + len ≤ b.lpddr ∨ (0x1000000000 ≤ a ∧ a + len ≤ 0x1001800000) ∨ (0x2800000000 ≤ a ∧ a + len ≤ 0x2800000000 + b.nor) := by
  by_contra hout
  obtain ⟨hlpddr, hsram, hnor⟩ := by simpa only [not_or] using hout
  simp only [regionOf, if_neg hlpddr, if_neg hsram, if_neg hnor] at h
  obtain rfl | rfl := hr <;> split_ifs at h <;> cases h

/-- The start of a range of memory or flash is no chute port (rule R144). -/
theorem regionOf_zero_of_memory {b : Board} {a len : Nat} {r : Region} (h : regionOf b a len = some r) (hr : r = .ram ∨ r = .nor) :
    regionOf b a 0 = some .ram ∨ regionOf b a 0 = some .nor := by
  have hrange := range_of_regionOf_memory h hr
  simp only [regionOf]
  split
  · exact .inl rfl
  split
  · exact .inl rfl
  have hnor : 0x2800000000 ≤ a ∧ a + 0 ≤ 0x2800000000 + b.nor := by omega
  rw [if_neg (by omega), if_pos hnor]
  exact .inr rfl

/-- An address that is not fixed has the region of its whole range (rule R147). -/
theorem State.moveRegion_free (s : State) (a len : Nat) : s.moveRegion a len false = regionOf s.board a len := rfl

/-- Between ranges of memory no chute holds a MOVE back (rule R149). -/
theorem State.moveReady_of_memory {s : State} {n len : Nat} {rs : Region} (hrs : rs = .ram ∨ rs = .nor)
    (hsrc : regionOf s.board (s.moveEnds n).1 len = some rs) (hdst : regionOf s.board (s.moveEnds n).2 len = some .ram) :
    s.moveReady n = true := by
  unfold State.moveReady
  obtain hs | hs := regionOf_zero_of_memory hsrc hrs <;>
    obtain hd | hd := regionOf_zero_of_memory hdst (.inl rfl) <;> simp [hs, hd]

/-- What the Memory Controller counts of a read leaves the bytes of memory (rule R547). -/
@[simp] theorem State.lpddrRead_mem (s : State) (a : Nat) (bus : BusOutcome) : (s.lpddrRead a bus).mem = s.mem :=
  State.lpddrRead_only (unseen_mem (by decide)) s a bus

/-- From a range of memory a MOVE reads its bytes, and the read does not end it. -/
theorem moveRead_of_memory {rs : Region} (h : rs = .ram ∨ rs = .nor) (b : RegBus) (s : State) (src len : Nat) (eccAt : Option Nat) :
    moveRead b s rs src len false eccAt = some ⟨Memory.readAll s.mem src len, s, none⟩ := by
  obtain rfl | rfl := h <;> rfl

/-- Where the bus meets no error, the bytes of a MOVE to memory are all written as it begins (rule R156). -/
theorem State.beginMove_mem {bus : BusOutcome} (h : bus = .clean ∨ ∃ k, bus = .corrected k) (s : State) (b : RegBus) (n a : Nat)
    (data : List Byte) : (s.beginMove b n (.mem a false) data bus).mem = Memory.writeAll a data s.mem := by
  obtain rfl | ⟨k, rfl⟩ := h <;>
  · simp only [State.beginMove, Bool.false_eq_true, if_false]
    exact Unseen.ite (by simp [MoveSt.write]) (by simp [MoveSt.write])

/-! ## What a MOVE does -/

theorem State.clearCount_eq (s : State) (n : Nat) : s.setChan n { s.chan n with bytes := 0 } = s.clearCount n := rfl

section
variable {s : State} {n : Nat} {fetch : Ecc} (hat : s.atOp n 1 = true) (hfetch : fetch ≠ .uncorrectable)
include hat hfetch

/-- A MOVE of 0 bytes touches nothing (rule R147). -/
theorem moveOp_of_len_zero (hlen : bits (s.chan n).ins 16 24 = 0) (b : RegBus) (bus : BusOutcome) :
    moveOp b n fetch bus s = (s.clearCount n).nextIns n ((s.chan n).pc + 1) := by
  unfold moveOp
  simp only [State.runIns_of_atOp hat hfetch, State.clearCount_eq, State.clearCount_ins, hlen, if_true, State.clearCount_pc]

variable {src dst len : Nat} (hends : s.moveEnds n = (src, dst)) (hlen : bits (s.chan n).ins 16 24 = len) (hpos : len ≠ 0)
include hends hlen hpos

/-- A range in no one region halts the channel before any byte moves (rule R147). -/
theorem moveOp_of_no_region (hout : s.moveRegion src len (decide (bits (s.chan n).ins 4 1 = 1)) = none
      ∨ s.moveRegion dst len (decide (bits (s.chan n).ins 5 1 = 1)) = none) (b : RegBus) (bus : BusOutcome) :
    moveOp b n fetch bus s = (s.clearCount n).haltChan n St.badFormat := by
  unfold moveOp
  simp only [State.runIns_of_atOp hat hfetch, State.clearCount_eq, State.clearCount_ins, State.clearCount_moveEnds,
    State.clearCount_moveRegion, hends, hlen, if_neg hpos]
  obtain hsrc | hdst := hout
  · rw [hsrc]
  · rw [hdst]
    split
    · contradiction
    · rfl

variable {rs : Region} (hsrcFree : bits (s.chan n).ins 4 1 = 0) (hdstFree : bits (s.chan n).ins 5 1 = 0) (hrs : rs = .ram ∨ rs = .nor)
  (hsrc : regionOf s.board src len = some rs) (hdst : regionOf s.board dst len = some .ram)
include hsrcFree hdstFree hrs hsrc hdst

/-- Between two ranges of memory a MOVE reads its whole source, then writes (rule R148); the read of LPDDR4X is counted (rule R547). -/
theorem moveOp_of_memory (b : RegBus) (bus : BusOutcome) :
    moveOp b n fetch bus s =
      (if rs = .ram ∧ src < s.board.lpddr then (s.clearCount n).lpddrRead src bus else s.clearCount n).beginMove
        b n (.mem dst false) (Memory.readAll s.mem src len) bus := by
  have hready : (s.clearCount n).moveReady n = true :=
    State.moveReady_of_memory (len := len) hrs (by simpa [hends] using hsrc) (by simpa [hends] using hdst)
  unfold moveOp
  simp only [State.runIns_of_atOp hat hfetch, State.clearCount_eq, State.clearCount_ins, State.clearCount_moveEnds,
    State.clearCount_moveRegion, hends, hlen, if_neg hpos, hsrcFree, hdstFree, zero_ne_one, decide_false, State.moveRegion_free, hsrc,
    hdst, hready, moveRead_of_memory hrs, State.clearCount_board]
  simp only [Bool.false_eq_true, if_false, Bool.not_true, apply_ite State.mem, State.lpddrRead_mem, State.clearCount_mem, ite_self]
  obtain rfl | rfl := hrs <;> rfl

/-- Where the bus meets no error, memory afterwards is memory before with the source's bytes written at the destination. -/
theorem moveOp_mem_of_memory {bus : BusOutcome} (hbus : bus = .clean ∨ ∃ k, bus = .corrected k) (b : RegBus) :
    (moveOp b n fetch bus s).mem = Memory.writeAll dst (Memory.readAll s.mem src len) s.mem := by
  rw [moveOp_of_memory hat hfetch hends hlen hpos hsrcFree hdstFree hrs hsrc hdst, State.beginMove_mem hbus]
  simp [apply_ite State.mem]

end

/-! ## The command -/

/-- With the main domain up, MOVE completes with the work of its channel. -/
theorem gives_move {s : State} (hup : s.Up) {n : Fin 32} {fetch : Ecc} {bus : BusOutcome} {P : State → Prop}
    (h : P (moveOp hoistBus n.val fetch bus s)) : Gives (.move n fetch bus) s P :=
  ⟨_, rfl, by rwa [State.whenMain_up hup]⟩

/-- Settles O8: the bytes read before the MOVE are the ones written, so an overlap of the ranges plays no part. -/
theorem moveActsAsThroughABuffer : Obligations.MoveActsAsThroughABuffer := by
  unfold Obligations.MoveActsAsThroughABuffer
  refine ⟨fun s n fetch bus src dst len hup hat hfetch hsrc hdst hlen => ?_,
    fun s n fetch bus hup hmove => gives_move hup (State.runIns_of_move hmove _ _ _)⟩
  obtain ⟨hrun, -, -, hmove⟩ := State.atOp_iff.mp hat
  have hends : s.moveEnds n.val = (src, dst) := by rw [hsrc, hdst]; rfl
  refine ⟨fun hfixed hpos hsrcMem hdstMem hbus => gives_move hup ?copy, fun hzero => gives_move hup ?empty,
    fun hfixed hpos hout => gives_move hup ?noRegion⟩
  case copy =>
    obtain ⟨rs, hregion, hrs⟩ : ∃ rs, regionOf s.board src len = some rs ∧ (rs = .ram ∨ rs = .nor) := by
      obtain h | h := hsrcMem <;> exact ⟨_, h, by simp⟩
    obtain ⟨hsrcFree, hdstFree⟩ := bits_one_zero_of_two hfixed
    rw [moveOp_mem_of_memory hat hfetch hends hlen.symm hpos.ne' hsrcFree hdstFree hrs hregion hdstMem hbus]
    exact ⟨fun k hk => Memory.read_writeAll_readAll s.mem src dst hk, fun a ha => Memory.read_writeAll_out _ _ (by simpa using ha)⟩
  case empty =>
    rw [moveOp_of_len_zero hat hfetch (hlen.symm.trans hzero), State.nextIns_of_running (by simpa [State.clearCount_chan] using hrun)]
    simp [State.clearCount_chan, hrun]
  case noRegion =>
    obtain ⟨hsrcFree, hdstFree⟩ := bits_one_zero_of_two hfixed
    rw [moveOp_of_no_region hat hfetch hends hlen.symm hpos.ne' (by simpa [hsrcFree, hdstFree, State.moveRegion_free] using hout)]
    exact ⟨State.haltChan_mem (by simpa [State.clearCount_chan] using hmove) _, by simp [State.haltChan_chan]⟩

end Sys2Proof.Machine
end

section
/-! IDENT (rule R555): the one opcode of the ID and Global block, and what it answers. -/

namespace Sys2Proof.Machine

/-- Rule R555: of the opcode tables' rows, one has TARGET 0x00. -/
theorem acceptedOpcodes_filter_global : acceptedOpcodes.filter (·.1 = 0) = [(0, 1, RingKind.command.code)] := by
  decide

theorem contains_acceptedOpcodes_global_iff (o k : Nat) :
    acceptedOpcodes.contains (0, o, k) = true ↔ o = 1 ∧ k = RingKind.command.code := by
  have hrows : (0, o, k) ∈ acceptedOpcodes ↔ (0, o, k) ∈ acceptedOpcodes.filter (·.1 = 0) := by simp
  rw [List.contains_iff_mem, hrows, acceptedOpcodes_filter_global]
  simp

/-- An accepted IDENT of LENGTH 0 finishes DONE with GLB_ID and does nothing else (rule R555). -/
theorem identOp_of_length_zero {s : State} {c : Cmd} (hacc : s.Accepts c .command) (hlen : c.desc.length = 0) :
    identOp c s = (s.begun c).finish c St.done 0 glbId := by
  rw [identOp, State.hostCmd_accepts hacc, if_neg (not_not_intro hlen)]

/-- Settles O9: one row of the opcode tables is the block's, and GLB_ID is the RESULT with which its command finishes. -/
theorem identAnswersThePart : Obligations.IdentAnswersThePart := by
  unfold Obligations.IdentAnswersThePart
  refine ⟨contains_acceptedOpcodes_global_iff, fun s c hup hacc hlen => ⟨_, rfl, ?_⟩⟩
  rw [State.whenMain_up hup, identOp_of_length_zero hacc hlen]
  exact State.finish_completed (s.begun c) c St.done 0 glbId

end Sys2Proof.Machine
end

section
/-! What each command may change (O3, O10): every command answers a next state, which each observation blind to the command's parts
sees as the state before. -/

namespace Sys2Proof.Machine

/-- A command answers a next state, and an observation that sees none of the command's parts does not tell the two apart: one
arm per command, each by the law of what its operation leaves alone. -/
theorem exec_unseen {β : Type} {π : State → β} (c : Instr) (hU : Unseen (maskOf (Instr.parts c)) π) (s : State) :
    ∃ t, exec c s = .next t ∧ π t = π s := by
  have main {f : State → State} (h : ∀ u, π (f u) = π u) : π (s.whenMain f) = π s :=
    State.whenMain_only (hU.mono (Nat.zero_and _)) s f h
  cases c <;> dsimp only [Instr.parts] at hU
  case vbatPowerOn => exact ⟨_, rfl, vbatPowerOnOp_only (hU.mono rfl) ..⟩
  case aonRailsInRange => exact ⟨_, rfl, aonRailsInRangeOp_only (hU.mono rfl) ..⟩
  case railTimeout => exact ⟨_, rfl, railTimeoutOp_only (hU.mono rfl) ..⟩
  case railRetry => exact ⟨_, rfl, railRetryOp_only (hU.mono rfl) ..⟩
  case porRelease => exact ⟨_, rfl, porReleaseOp_only (hU.mono rfl) ..⟩
  case resetRelease => exact ⟨_, rfl, resetReleaseOp_only (hU.mono rfl) ..⟩
  case systemReset => exact ⟨_, rfl, systemResetOp_only (hU.mono rfl) ..⟩
  case sysResetReturn => exact ⟨_, rfl, sysResetReturnOp_only (hU.mono rfl) ..⟩
  case brownOut => exact ⟨_, rfl, brownOutOp_only (hU.mono rfl) ..⟩
  case pfailAssert => exact ⟨_, rfl, pfailAssertOp_only (hU.mono rfl) ..⟩
  case pfailHoistTimeout => exact ⟨_, rfl, main fun u => pfailHoistTimeoutOp_only (hU.mono rfl) ..⟩
  case pfailDescriptorAbort => exact ⟨_, rfl, main fun u => pfailDescriptorAbortOp_only (hU.mono rfl) ..⟩
  case pfailLarderFreeze => exact ⟨_, rfl, main fun u => pfailLarderFreezeOp_only (hU.mono rfl) ..⟩
  case pfailOutputsLow => exact ⟨_, rfl, main fun u => pfailOutputsLowOp_only (hU.mono rfl) ..⟩
  case pfailRailCut => exact ⟨_, rfl, pfailRailCutOp_only (hU.mono rfl) ..⟩
  case pfailClear => exact ⟨_, rfl, pfailClearOp_only (hU.mono rfl) ..⟩
  case xtal32Lost => exact ⟨_, rfl, xtal32LostOp_only (hU.mono rfl) ..⟩
  case xtal32Restored => exact ⟨_, rfl, xtal32RestoredOp_only (hU.mono rfl) ..⟩
  case refclkLost => exact ⟨_, rfl, main fun u => refclkLostOp_only (hU.mono rfl) ..⟩
  case pllCoreUnlock => exact ⟨_, rfl, main fun u => pllCoreUnlockOp_only (hU.mono rfl) ..⟩
  case pllAdcUnlock => exact ⟨_, rfl, main fun u => pllAdcUnlockOp_only (hU.mono rfl) ..⟩
  case pllSerdesUnlock => exact ⟨_, rfl, main fun u => pllSerdesUnlockOp_only (hU.mono rfl) ..⟩
  case pllRelock => exact ⟨_, rfl, main fun u => pllRelockOp_only (hU.mono rfl) ..⟩
  case thermWarn => exact ⟨_, rfl, main fun u => thermWarnOp_only (hU.mono rfl) ..⟩
  case thermCrit => exact ⟨_, rfl, main fun u => thermCritOp_only (hU.mono rfl) ..⟩
  case thermCut => exact ⟨_, rfl, thermCutOp_only (hU.mono rfl) ..⟩
  case thermalRecovery => exact ⟨_, rfl, thermalRecoveryOp_only (hU.mono rfl) ..⟩
  case stickyFaultClear => exact ⟨_, rfl, main fun u => stickyFaultClearOp_only (hU.mono rfl) ..⟩
  case xtal32CfgWrite => exact ⟨_, rfl, main fun u => xtal32CfgWriteOp_only (hU.mono rfl) ..⟩
  case registerWrite => exact ⟨_, rfl, main fun u => registerWriteOp_only (hU.mono rfl) ..⟩
  case protectedHostWrite => exact ⟨_, rfl, main fun u => protectedHostWriteOp_only (hU.mono rfl) ..⟩
  case badSizeAccess => exact ⟨_, rfl, main fun u => badSizeAccessOp_only (hU.mono rfl) ..⟩
  case counterLatchRead => exact ⟨_, rfl, main fun u => counterLatchReadOp_only (hU.mono rfl) ..⟩
  case modeReqCellar => exact ⟨_, rfl, main fun u => modeReqCellarOp_only (hU.mono rfl) ..⟩
  case modeReqDormerWatch => exact ⟨_, rfl, main fun u => modeReqDormerWatchOp_only (hU.mono rfl) ..⟩
  case modeReqRestart => exact ⟨_, rfl, main fun u => modeReqRestartOp_only (hU.mono rfl) ..⟩
  case modeReqSurvey => exact ⟨_, rfl, main fun u => modeReqSurveyOp_only (hU.mono rfl) ..⟩
  case modeReqFleetStop => exact ⟨_, rfl, main fun u => modeReqFleetStopOp_only (hU.mono rfl) ..⟩
  case modeReqFleetStart => exact ⟨_, rfl, main fun u => modeReqFleetStartOp_only (hU.mono rfl) ..⟩
  case claimArbitrationEnd => exact ⟨_, rfl, main fun u => claimArbitrationEndOp_only (hU.mono rfl) ..⟩
  case pdownDescriptorAbort => exact ⟨_, rfl, main fun u => pdownDescriptorAbortOp_only (hU.mono rfl) ..⟩
  case pdownDrainTimeout => exact ⟨_, rfl, main fun u => pdownDrainTimeoutOp_only (hU.mono rfl) ..⟩
  case pdownOutputsStop => exact ⟨_, rfl, main fun u => pdownOutputsStopOp_only (hU.mono rfl) ..⟩
  case pdownRailCut => exact ⟨_, rfl, main fun u => pdownRailCutOp_only (hU.mono rfl) ..⟩
  case pdownCellarEntry => exact ⟨_, rfl, pdownCellarEntryOp_only (hU.mono rfl) ..⟩
  case wakeInEdge => exact ⟨_, rfl, wakeInEdgeOp_only (hU.mono rfl) ..⟩
  case wakeTimerExpire => exact ⟨_, rfl, wakeTimerExpireOp_only (hU.mono rfl) ..⟩
  case latchedWake => exact ⟨_, rfl, latchedWakeOp_only (hU.mono rfl) ..⟩
  case wakeCommit => exact ⟨_, rfl, main fun u => wakeCommitOp_only (hU.mono rfl) ..⟩
  case pllLockBoot => exact ⟨_, rfl, main fun u => pllLockBootOp_only (hU.mono rfl) ..⟩
  case memoryTestComplete => exact ⟨_, rfl, main fun u => memoryTestCompleteOp_only (hU.mono rfl) ..⟩
  case lanAdmit => exact ⟨_, rfl, main fun u => lanAdmitOp_only (hU.mono rfl) ..⟩
  case beaconStart => exact ⟨_, rfl, main fun u => beaconStartOp_only (hU.mono rfl) ..⟩
  case bootComplete => exact ⟨_, rfl, main fun u => State.unlessPfail_only (hU.mono rfl) _ _ fun v => bootCompleteOp_only (hU.mono rfl) ..⟩
  case ptpAcceptStart => exact ⟨_, rfl, main fun u => ptpAcceptStartOp_only (hU.mono rfl) ..⟩
  case resetArmRise => exact ⟨_, rfl, resetArmRiseOp_only (hU.mono rfl) ..⟩
  case resetArmFall => exact ⟨_, rfl, resetArmFallOp_only (hU.mono rfl) ..⟩
  case resetArmHoldTimeout => exact ⟨_, rfl, main fun u => resetArmHoldTimeoutOp_only (hU.mono rfl) ..⟩
  case perstAssert => exact ⟨_, rfl, main fun u => perstAssertOp_only (hU.mono rfl) ..⟩
  case pcieLinkUp => exact ⟨_, rfl, main fun u => pcieLinkUpOp_only (hU.mono rfl) ..⟩
  case pcieWakeRelease => exact ⟨_, rfl, main fun u => pcieWakeReleaseOp_only (hU.mono rfl) ..⟩
  case hostAdmissionOpen => exact ⟨_, rfl, main fun u => hostAdmissionOpenOp_only (hU.mono rfl) ..⟩
  case hostCommit => exact ⟨_, rfl, main fun u => hostCommitOp_only (hU.mono rfl) ..⟩
  case hostClaim => exact ⟨_, rfl, main fun u => claimWrite_only (hU.mono rfl) ..⟩
  case hostRelease => exact ⟨_, rfl, main fun u => claimWrite_only (hU.mono rfl) ..⟩
  case attnKick => exact ⟨_, rfl, main fun u => attnKickOp_only (hU.mono rfl) ..⟩
  case doorbellScan => exact ⟨_, rfl, main fun u => doorbellScanOp_only (hU.mono rfl) ..⟩
  case descriptorFetch => exact ⟨_, rfl, main fun u => descriptorFetchOp_only (hU.mono rfl) ..⟩
  case hreNop => exact ⟨_, rfl, main fun u => State.hostCmd_only (hU.mono rfl) _ _ _ _ fun v => State.finish_only (hU.mono rfl) ..⟩
  case hreEcho => exact ⟨_, rfl, main fun u => State.hostCmd_only (hU.mono rfl) _ _ _ _ fun v => State.finish_only (hU.mono rfl) ..⟩
  case completionWrite => exact ⟨_, rfl, main fun u => completionWriteOp_only (hU.mono rfl) ..⟩
  case eventWrite => exact ⟨_, rfl, main fun u => eventWriteOp_only (hU.mono rfl) ..⟩
  case coalesceTimer => exact ⟨_, rfl, main fun u => coalesceTimerOp_only (hU.mono rfl) ..⟩
  case msixGapEnd => exact ⟨_, rfl, main fun u => msixGapEndOp_only (hU.mono rfl) ..⟩
  case msixUnmask => exact ⟨_, rfl, main fun u => msixUnmaskOp_only (hU.mono rfl) ..⟩
  case ringCommit => exact ⟨_, rfl, main fun u => ringCommitOp_only (hU.mono rfl) ..⟩
  case ringDrainDone => exact ⟨_, rfl, main fun u => ringDrainDoneOp_only (hU.mono rfl) ..⟩
  case hostAliveTimeout => exact ⟨_, rfl, main fun u => hostAliveTimeoutOp_only (hU.mono rfl) ..⟩
  case linkL0Loss => exact ⟨_, rfl, main fun u => linkL0LossOp_only (hU.mono rfl) ..⟩
  case busMasterClear => exact ⟨_, rfl, main fun u => busMasterClearOp_only (hU.mono rfl) ..⟩
  case d3hotEntry => exact ⟨_, rfl, main fun u => d3hotEntryOp_only (hU.mono rfl) ..⟩
  case hostWriteResume => exact ⟨_, rfl, main fun u => hostWriteResumeOp_only (hU.mono rfl) ..⟩
  case chuteStart => exact ⟨_, rfl, main fun u => chuteStartOp_only (hU.mono rfl) ..⟩
  case chuteWrite => exact ⟨_, rfl, main fun u => chuteWriteOp_only (hU.mono rfl) ..⟩
  case chuteCommit => exact ⟨_, rfl, main fun u => chuteCommitOp_only (hU.mono rfl) ..⟩
  case chuteAbort => exact ⟨_, rfl, main fun u => chuteAbortOp_only (hU.mono rfl) ..⟩
  case chuteRead => exact ⟨_, rfl, main fun u => chuteReadOp_only (hU.mono rfl) ..⟩
  case chuteDropRest => exact ⟨_, rfl, main fun u => chuteDropRestOp_only (hU.mono rfl) ..⟩
  case chuteCfgCommit => exact ⟨_, rfl, main fun u => chuteCfgCommitOp_only (hU.mono rfl) ..⟩
  case chuteViewSample => exact ⟨_, rfl, main fun u => chuteViewSampleOp_only (hU.mono rfl) ..⟩
  case progCommit => exact ⟨_, rfl, main fun u => progCommitOp_only (hU.mono rfl) ..⟩
  case channelStart => exact ⟨_, rfl, main fun u => channelCtrl_only (hU.mono rfl) ..⟩
  case channelResume => exact ⟨_, rfl, main fun u => channelCtrl_only (hU.mono rfl) ..⟩
  case channelStop => exact ⟨_, rfl, main fun u => channelCtrl_only (hU.mono rfl) ..⟩
  case eventFlagsClear => exact ⟨_, rfl, main fun u => eventFlagsClearOp_only (hU.mono rfl) ..⟩
  case tickConfigWrite => exact ⟨_, rfl, main fun u => tickConfigWriteOp_only (hU.mono rfl) ..⟩
  case hoistTick => exact ⟨_, rfl, main fun u => hoistTickOp_only (hU.mono rfl) ..⟩
  case move => exact ⟨_, rfl, main fun u => moveOp_only (hU.mono rfl) hoistBus _ _ _ u
        (fun o => State.busRead_only (hU.mono rfl) o) fun o v y => State.wordAt_only (hU.mono rfl) y o v⟩
  case moveComplete => exact ⟨_, rfl, main fun u => moveCompleteOp_only (hU.mono rfl) ..⟩
  case burstRetry => exact ⟨_, rfl, main fun u => burstRetryOp_only (hU.mono rfl) hoistBus _ _ u
        (fun o => State.busRead_only (hU.mono rfl) o) fun o v y => State.wordAt_only (hU.mono rfl) y o v⟩
  case loop => exact ⟨_, rfl, main fun u => loopOp_only (hU.mono rfl) ..⟩
  case wait => exact ⟨_, rfl, main fun u => waitOp_only (hU.mono rfl) ..⟩
  case waitSatisfied => exact ⟨_, rfl, main fun u => waitSatisfiedOp_only (hU.mono rfl) ..⟩
  case waitTimeout => exact ⟨_, rfl, main fun u => waitTimeoutOp_only (hU.mono rfl) ..⟩
  case signal => exact ⟨_, rfl, main fun u => signalOp_only (hU.mono rfl) ..⟩
  case hoistEnd => exact ⟨_, rfl, main fun u => endOp_only (hU.mono rfl) ..⟩
  case threadWake => exact ⟨_, rfl, main fun u => threadWakeOp_only (hU.mono rfl) ..⟩
  case threadDispatch => exact ⟨_, rfl, main fun u => threadDispatchOp_only (hU.mono rfl) ..⟩
  case packetAdmission => exact ⟨_, rfl, main fun u => packetAdmissionOp_only (hU.mono rfl) ..⟩
  case entryComplete => exact ⟨_, rfl, main fun u => entryCompleteOp_only (hU.mono rfl) ..⟩
  case threadCommit => exact ⟨_, rfl, main fun u => threadCommitOp_only (hU.mono rfl) ..⟩
  case flowCommit => exact ⟨_, rfl, main fun u => flowCommitOp_only (hU.mono rfl) ..⟩
  case obsLatch => exact ⟨_, rfl, main fun u => obsLatchOp_only (hU.mono rfl) ..⟩
  case loadWindowEnd => exact ⟨_, rfl, main fun u => loadWindowEndOp_only (hU.mono rfl) ..⟩
  case flowViewSample => exact ⟨_, rfl, main fun u => flowViewSampleOp_only (hU.mono rfl) ..⟩
  case epochBoundary => exact ⟨_, rfl, main fun u => epochBoundaryOp_only (hU.mono rfl) ..⟩
  case epochCounterRecord => exact ⟨_, rfl, main fun u => epochCounterRecordOp_only (hU.mono rfl) ..⟩
  case epochLengthApply => exact ⟨_, rfl, main fun u => epochLengthApplyOp_only (hU.mono rfl) ..⟩
  case epochRelease => exact ⟨_, rfl, main fun u => epochReleaseOp_only (hU.mono rfl) ..⟩
  case positionSnapshot => exact ⟨_, rfl, main fun u => positionSnapshotOp_only (hU.mono rfl) ..⟩
  case epochDecide => exact ⟨_, rfl, main fun u => epochDecideOp_only (hU.mono rfl) ..⟩
  case overrunEpoch => exact ⟨_, rfl, main fun u => State.overrun_only (hU.mono rfl) ..⟩
  case epochDigestClose => exact ⟨_, rfl, main fun u => epochDigestCloseOp_only (hU.mono rfl) ..⟩
  case epochCommit => exact ⟨_, rfl, main fun u => State.unlessFrozen_only (hU.mono rfl) _ _ fun v => epochCommitOp_only (hU.mono rfl) ..⟩
  case epochAbandon => exact ⟨_, rfl, main fun u => State.abandonEpoch_only (hU.mono rfl) ..⟩
  case measEpoch => exact ⟨_, rfl, main fun u => measEpochOp_only (hU.mono rfl) ..⟩
  case measRateApply => exact ⟨_, rfl, main fun u => measRateApplyOp_only (hU.mono rfl) ..⟩
  case measCommit => exact ⟨_, rfl, main fun u => measCommitOp_only (hU.mono rfl) ..⟩
  case trackingLoopCommit => exact ⟨_, rfl, main fun u => trackingLoopCommitOp_only (hU.mono rfl) ..⟩
  case acqResult => exact ⟨_, rfl, main fun u => acqResultOp_only (hU.mono rfl) ..⟩
  case channelAllocation => exact ⟨_, rfl, main fun u => channelAllocationOp_only (hU.mono rfl) ..⟩
  case trackingLoopUpdate => exact ⟨_, rfl, main fun u => trackingLoopUpdateOp_only (hU.mono rfl) ..⟩
  case channelTrack => exact ⟨_, rfl, main fun u => channelTrackOp_only (hU.mono rfl) ..⟩
  case channelPullInTimeout => exact ⟨_, rfl, main fun u => State.trackTo_only (hU.mono rfl) ..⟩
  case channelLocked => exact ⟨_, rfl, main fun u => channelLockedOp_only (hU.mono rfl) ..⟩
  case channelLoss => exact ⟨_, rfl, main fun u => State.trackTo_only (hU.mono rfl) ..⟩
  case channelReacquired => exact ⟨_, rfl, main fun u => State.trackTo_only (hU.mono rfl) ..⟩
  case channelIdleTimeout => exact ⟨_, rfl, main fun u => channelIdleTimeoutOp_only (hU.mono rfl) ..⟩
  case navRecord => exact ⟨_, rfl, main fun u => navRecordOp_only (hU.mono rfl) ..⟩
  case antFaultSet => exact ⟨_, rfl, main fun u => antFaultSetOp_only (hU.mono rfl) ..⟩
  case antFaultClear => exact ⟨_, rfl, main fun u => antFaultClearOp_only (hU.mono rfl) ..⟩
  case bandpwrUpdate => exact ⟨_, rfl, main fun u => bandpwrUpdateOp_only (hU.mono rfl) ..⟩
  case surveySecond => exact ⟨_, rfl, main fun u => surveySecondOp_only (hU.mono rfl) ..⟩
  case refCommit => exact ⟨_, rfl, main fun u => refCommitOp_only (hU.mono rfl) ..⟩
  case rtcmEpoch => exact ⟨_, rfl, main fun u => rtcmEpochOp_only (hU.mono rfl) ..⟩
  case rtcmCommit => exact ⟨_, rfl, main fun u => rtcmCommitOp_only (hU.mono rfl) ..⟩
  case casterCommit => exact ⟨_, rfl, main fun u => casterCommitOp_only (hU.mono rfl) ..⟩
  case monitorCommit => exact ⟨_, rfl, main fun u => monitorCommitOp_only (hU.mono rfl) ..⟩
  case casterTable => exact ⟨_, rfl, main fun u => casterTableOp_only (hU.mono rfl) ..⟩
  case stationText => exact ⟨_, rfl, main fun u => stationTextOp_only (hU.mono rfl) ..⟩
  case casterRequest => exact ⟨_, rfl, main fun u => casterRequestOp_only (hU.mono rfl) ..⟩
  case casterRequestTimeout => exact ⟨_, rfl, main fun u => casterRequestTimeoutOp_only (hU.mono rfl) ..⟩
  case lockoutExpire => exact ⟨_, rfl, main fun u => lockoutExpireOp_only (hU.mono rfl) ..⟩
  case clientBacklogTimeout => exact ⟨_, rfl, main fun u => clientBacklogTimeoutOp_only (hU.mono rfl) ..⟩
  case compactEpoch => exact ⟨_, rfl, main fun u => compactEpochOp_only (hU.mono rfl) ..⟩
  case monitorRun => exact ⟨_, rfl, main fun u => monitorRunOp_only (hU.mono rfl) ..⟩
  case driftCheck => exact ⟨_, rfl, main fun u => driftCheckOp_only (hU.mono rfl) ..⟩
  case distClear => exact ⟨_, rfl, main fun u => distClearOp_only (hU.mono rfl) ..⟩
  case baseSeriesIntake => exact ⟨_, rfl, main fun u => baseSeriesIntakeOp_only (hU.mono rfl) ..⟩
  case creObsIntake => exact ⟨_, rfl, main fun u => creObsIntakeOp_only (hU.mono rfl) ..⟩
  case partHoldTimeout => exact ⟨_, rfl, main fun u => partHoldTimeoutOp_only (hU.mono rfl) ..⟩
  case basePairTimeout => exact ⟨_, rfl, main fun u => basePairTimeoutOp_only (hU.mono rfl) ..⟩
  case robotEpochComplete => exact ⟨_, rfl, main fun u => robotEpochCompleteOp_only (hU.mono rfl) ..⟩
  case filterGapReset => exact ⟨_, rfl, main fun u => filterGapResetOp_only (hU.mono rfl) ..⟩
  case robotReset => exact ⟨_, rfl, main fun u => robotResetOp_only (hU.mono rfl) ..⟩
  case stateRead => exact ⟨_, rfl, main fun u => stateReadOp_only (hU.mono rfl) ..⟩
  case filterCommit => exact ⟨_, rfl, main fun u => filterCommitOp_only (hU.mono rfl) ..⟩
  case frameCommit => exact ⟨_, rfl, main fun u => frameCommitOp_only (hU.mono rfl) ..⟩
  case xchkCommit => exact ⟨_, rfl, main fun u => xchkCommitOp_only (hU.mono rfl) ..⟩
  case larderRequest => exact ⟨_, rfl, main fun u => State.unlessFrozen_only (hU.mono rfl) _ _ fun v => larderRequestOp_only (hU.mono rfl) ..⟩
  case requestDeferCutoff => exact ⟨_, rfl, main fun u => State.unlessFrozen_only (hU.mono rfl) _ _ fun v => requestDeferCutoffOp_only (hU.mono rfl) ..⟩
  case larderRelease => exact ⟨_, rfl, main fun u => State.unlessFrozen_only (hU.mono rfl) _ _ fun v => larderReleaseOp_only (hU.mono rfl) ..⟩
  case envelopeCommand => exact ⟨_, rfl, main fun u => State.unlessFrozen_only (hU.mono rfl) _ _ fun v => envelopeCommandOp_only (hU.mono rfl) ..⟩
  case slotExpiry => exact ⟨_, rfl, main fun u => State.unlessFrozen_only (hU.mono rfl) _ _ fun v => slotExpiryOp_only (hU.mono rfl) ..⟩
  case sweepComplete => exact ⟨_, rfl, main fun u => State.unlessFrozen_only (hU.mono rfl) _ _ fun v => sweepCompleteOp_only (hU.mono rfl) ..⟩
  case cellQuarantine => exact ⟨_, rfl, main fun u => cellQuarantineOp_only (hU.mono rfl) ..⟩
  case scrubRecount => exact ⟨_, rfl, main fun u => scrubRecountOp_only (hU.mono rfl) ..⟩
  case larderAuditClear => exact ⟨_, rfl, main fun u => larderAuditClearOp_only (hU.mono rfl) ..⟩
  case auditRecountDone => exact ⟨_, rfl, main fun u => auditRecountDoneOp_only (hU.mono rfl) ..⟩
  case unblock => exact ⟨_, rfl, main fun u => unblockOp_only (hU.mono rfl) ..⟩
  case larderHostRelease => exact ⟨_, rfl, main fun u => larderHostReleaseOp_only (hU.mono rfl) ..⟩
  case cellRead => exact ⟨_, rfl, main fun u => cellReadOp_only (hU.mono rfl) ..⟩
  case mapCommit => exact ⟨_, rfl, main fun u => mapCommitOp_only (hU.mono rfl) ..⟩
  case mapApply => exact ⟨_, rfl, main fun u => mapApplyOp_only (hU.mono rfl) ..⟩
  case rulesCommit => exact ⟨_, rfl, main fun u => rulesCommitOp_only (hU.mono rfl) ..⟩
  case fleetCommit => exact ⟨_, rfl, main fun u => fleetCommitOp_only (hU.mono rfl) ..⟩
  case fleetValidated => exact ⟨_, rfl, main fun u => fleetValidatedOp_only (hU.mono rfl) ..⟩
  case tableLoad => exact ⟨_, rfl, main fun u => tableLoadOp_only (hU.mono rfl) ..⟩
  case taskEvent => exact ⟨_, rfl, main fun u => taskEventOp_only (hU.mono rfl) ..⟩
  case taskRead => exact ⟨_, rfl, main fun u => taskReadOp_only (hU.mono rfl) ..⟩
  case taskForce => exact ⟨_, rfl, main fun u => taskForceOp_only (hU.mono rfl) ..⟩
  case taskAuditClear => exact ⟨_, rfl, main fun u => taskAuditClearOp_only (hU.mono rfl) ..⟩
  case tableEcc => exact ⟨_, rfl, main fun u => tableEccOp_only (hU.mono rfl) ..⟩
  case loopInput => exact ⟨_, rfl, main fun u => loopInputOp_only (hU.mono rfl) ..⟩
  case coastEntry => exact ⟨_, rfl, main fun u => coastEntryOp_only (hU.mono rfl) ..⟩
  case loopRampCommand => exact ⟨_, rfl, main fun u => loopRampCommandOp_only (hU.mono rfl) ..⟩
  case loopStateEcc => exact ⟨_, rfl, main fun u => loopStateEccOp_only (hU.mono rfl) ..⟩
  case clockLoopInput => exact ⟨_, rfl, main fun u => clockLoopInputOp_only (hU.mono rfl) ..⟩
  case paceCommit => exact ⟨_, rfl, main fun u => paceCommitOp_only (hU.mono rfl) ..⟩
  case stopInOpen => exact ⟨_, rfl, stopInOpenOp_only (hU.mono rfl) ..⟩
  case stopInClose => exact ⟨_, rfl, stopInCloseOp_only (hU.mono rfl) ..⟩
  case discrepancy => exact ⟨_, rfl, main fun u => discrepancyOp_only (hU.mono rfl) ..⟩
  case lockstepFlag => exact ⟨_, rfl, main fun u => lockstepFlagOp_only (hU.mono rfl) ..⟩
  case outReadbackMismatch => exact ⟨_, rfl, main fun u => outReadbackMismatchOp_only (hU.mono rfl) ..⟩
  case outFaultConditionEnd => exact ⟨_, rfl, main fun u => outFaultConditionEndOp_only (hU.mono rfl) ..⟩
  case rc4mFault => exact ⟨_, rfl, main fun u => rc4mFaultOp_only (hU.mono rfl) ..⟩
  case rc4mRecover => exact ⟨_, rfl, main fun u => rc4mRecoverOp_only (hU.mono rfl) ..⟩
  case restrictionRequest => exact ⟨_, rfl, main fun u => restrictionRequestOp_only (hU.mono rfl) ..⟩
  case trapFrameRepeat => exact ⟨_, rfl, main fun u => trapFrameRepeatOp_only (hU.mono rfl) ..⟩
  case beaconTick => exact ⟨_, rfl, main fun u => beaconTickOp_only (hU.mono rfl) ..⟩
  case armWindowExpire => exact ⟨_, rfl, main fun u => armWindowExpireOp_only (hU.mono rfl) ..⟩
  case proofTimer => exact ⟨_, rfl, main fun u => proofTimerOp_only (hU.mono rfl) ..⟩
  case hold => exact ⟨_, rfl, main fun u => holdOp_only (hU.mono rfl) ..⟩
  case stop => exact ⟨_, rfl, main fun u => stopOp_only (hU.mono rfl) ..⟩
  case go => exact ⟨_, rfl, main fun u => goOp_only (hU.mono rfl) ..⟩
  case clear => exact ⟨_, rfl, main fun u => clearOp_only (hU.mono rfl) ..⟩
  case robotHold => exact ⟨_, rfl, main fun u => robotHoldOp_only (hU.mono rfl) ..⟩
  case robotStop => exact ⟨_, rfl, main fun u => robotStopOp_only (hU.mono rfl) ..⟩
  case robotGo => exact ⟨_, rfl, main fun u => robotGoOp_only (hU.mono rfl) ..⟩
  case trapCommit => exact ⟨_, rfl, main fun u => trapCommitOp_only (hU.mono rfl) ..⟩
  case aonPowerOn => exact ⟨_, rfl, aonPowerOnOp_only (hU.mono rfl) ..⟩
  case dormerBurst => exact ⟨_, rfl, dormerBurstOp_only (hU.mono rfl) ..⟩
  case dormerEventDrain => exact ⟨_, rfl, main fun u => dormerEventDrainOp_only (hU.mono rfl) ..⟩
  case chanCommit => exact ⟨_, rfl, main fun u => chanCommitOp_only (hU.mono rfl) ..⟩
  case dormerRulesCommit => exact ⟨_, rfl, main fun u => dormerRulesCommitOp_only (hU.mono rfl) ..⟩
  case zypFrameReceive => exact ⟨_, rfl, main fun u => zypFrameReceiveOp_only (hU.mono rfl) ..⟩
  case robotStatus => exact ⟨_, rfl, main fun u => robotStatusOp_only (hU.mono rfl) ..⟩
  case robotRequest => exact ⟨_, rfl, main fun u => robotRequestOp_only (hU.mono rfl) ..⟩
  case robotRelease => exact ⟨_, rfl, main fun u => robotReleaseOp_only (hU.mono rfl) ..⟩
  case robotEvent => exact ⟨_, rfl, main fun u => robotEventOp_only (hU.mono rfl) ..⟩
  case pairStreamCatchup => exact ⟨_, rfl, main fun u => pairStreamCatchupOp_only (hU.mono rfl) ..⟩
  case streamRenew => exact ⟨_, rfl, main fun u => streamRenewOp_only (hU.mono rfl) ..⟩
  case radioTransmit => exact ⟨_, rfl, main fun u => radioTransmitOp_only (hU.mono rfl) ..⟩
  case radioIrq => exact ⟨_, rfl, main fun u => radioIrqOp_only (hU.mono rfl) ..⟩
  case roster => exact ⟨_, rfl, main fun u => rosterOp_only (hU.mono rfl) ..⟩
  case statusRead => exact ⟨_, rfl, main fun u => statusReadOp_only (hU.mono rfl) ..⟩
  case zypCommit => exact ⟨_, rfl, main fun u => zypCommitOp_only (hU.mono rfl) ..⟩
  case netCommit => exact ⟨_, rfl, main fun u => netCommitOp_only (hU.mono rfl) ..⟩
  case srpCfgWrite => exact ⟨_, rfl, main fun u => srpCfgWriteOp_only (hU.mono rfl) ..⟩
  case gnssClockInput => exact ⟨_, rfl, main fun u => gnssClockInputOp_only (hU.mono rfl) ..⟩
  case sourceLost => exact ⟨_, rfl, main fun u => sourceLostOp_only (hU.mono rfl) ..⟩
  case sourceReturn => exact ⟨_, rfl, main fun u => sourceReturnOp_only (hU.mono rfl) ..⟩
  case holdoverDegrade => exact ⟨_, rfl, main fun u => holdoverDegradeOp_only (hU.mono rfl) ..⟩
  case tqLocked => exact ⟨_, rfl, main fun u => tqLockedOp_only (hU.mono rfl) ..⟩
  case slewEnd => exact ⟨_, rfl, main fun u => slewEndOp_only (hU.mono rfl) ..⟩
  case autoStep => exact ⟨_, rfl, main fun u => autoStepOp_only (hU.mono rfl) ..⟩
  case step => exact ⟨_, rfl, main fun u => stepOp_only (hU.mono rfl) ..⟩
  case slewAccept => exact ⟨_, rfl, main fun u => slewAcceptOp_only (hU.mono rfl) ..⟩
  case timeLatchRead => exact ⟨_, rfl, main fun u => timeLatchReadOp_only (hU.mono rfl) ..⟩
  case ptpSyncRx => exact ⟨_, rfl, main fun u => ptpSyncRxOp_only (hU.mono rfl) ..⟩
  case ptpAnnounceRx => exact ⟨_, rfl, main fun u => ptpAnnounceRxOp_only (hU.mono rfl) ..⟩
  case ptpDelayReq => exact ⟨_, rfl, main fun u => ptpDelayReqOp_only (hU.mono rfl) ..⟩
  case ptpParentTimeout => exact ⟨_, rfl, main fun u => ptpParentTimeoutOp_only (hU.mono rfl) ..⟩
  case ptpTx => exact ⟨_, rfl, main fun u => ptpTxOp_only (hU.mono rfl) ..⟩
  case ptpTransparentForward => exact ⟨_, rfl, main fun u => ptpTransparentForwardOp_only (hU.mono rfl) ..⟩
  case timeConfigApply => exact ⟨_, rfl, main fun u => timeConfigApplyOp_only (hU.mono rfl) ..⟩
  case timeCommit => exact ⟨_, rfl, main fun u => timeCommitOp_only (hU.mono rfl) ..⟩
  case ptpCommit => exact ⟨_, rfl, main fun u => ptpCommitOp_only (hU.mono rfl) ..⟩
  case pulseCommit => exact ⟨_, rfl, main fun u => pulseCommitOp_only (hU.mono rfl) ..⟩
  case pulseTime => exact ⟨_, rfl, main fun u => pulseTimeOp_only (hU.mono rfl) ..⟩
  case captureEdge => exact ⟨_, rfl, main fun u => captureEdgeOp_only (hU.mono rfl) ..⟩
  case captureLatchRead => exact ⟨_, rfl, main fun u => captureLatchReadOp_only (hU.mono rfl) ..⟩
  case calendarWrite => exact ⟨_, rfl, main fun u => calendarWriteOp_only (hU.mono rfl) ..⟩
  case linkHello => exact ⟨_, rfl, main fun u => linkHelloOp_only (hU.mono rfl) ..⟩
  case liveServiceMissed => exact ⟨_, rfl, main fun u => liveServiceMissedOp_only (hU.mono rfl) ..⟩
  case liveInLost => exact ⟨_, rfl, main fun u => liveInLostOp_only (hU.mono rfl) ..⟩
  case claimInDeassert => exact ⟨_, rfl, main fun u => claimInDeassertOp_only (hU.mono rfl) ..⟩
  case takeoverBlocked => exact ⟨_, rfl, main fun u => takeoverBlockedOp_only (hU.mono rfl) ..⟩
  case continuityBroken => exact ⟨_, rfl, main fun u => continuityBrokenOp_only (hU.mono rfl) ..⟩
  case twinAmbiguity => exact ⟨_, rfl, main fun u => twinAmbiguityOp_only (hU.mono rfl) ..⟩
  case laneLoss => exact ⟨_, rfl, main fun u => laneLossOp_only (hU.mono rfl) ..⟩
  case linkFrameRx => exact ⟨_, rfl, main fun u => linkFrameRxOp_only (hU.mono rfl) ..⟩
  case linkRetransmit => exact ⟨_, rfl, main fun u => linkRetransmitOp_only (hU.mono rfl) ..⟩
  case linkIdleTx => exact ⟨_, rfl, main fun u => linkIdleTxOp_only (hU.mono rfl) ..⟩
  case linkDown => exact ⟨_, rfl, main fun u => linkDownOp_only (hU.mono rfl) ..⟩
  case loneAfterTimeout => exact ⟨_, rfl, main fun u => loneAfterTimeoutOp_only (hU.mono rfl) ..⟩
  case stateFrame => exact ⟨_, rfl, main fun u => stateFrameOp_only (hU.mono rfl) ..⟩
  case restrictFrame => exact ⟨_, rfl, main fun u => restrictFrameOp_only (hU.mono rfl) ..⟩
  case inputFrame => exact ⟨_, rfl, main fun u => inputFrameOp_only (hU.mono rfl) ..⟩
  case fetch => exact ⟨_, rfl, main fun u => fetchOp_only (hU.mono rfl) ..⟩
  case fill => exact ⟨_, rfl, main fun u => fillOp_only (hU.mono rfl) ..⟩
  case prepare => exact ⟨_, rfl, main fun u => prepareOp_only (hU.mono rfl) ..⟩
  case ack => exact ⟨_, rfl, main fun u => ackOp_only (hU.mono rfl) ..⟩
  case ackLate => exact ⟨_, rfl, main fun u => ackLateOp_only (hU.mono rfl) ..⟩
  case commit => exact ⟨_, rfl, main fun u => commitOp_only (hU.mono rfl) ..⟩
  case abandon => exact ⟨_, rfl, main fun u => abandonOp_only (hU.mono rfl) ..⟩
  case beaconCopy => exact ⟨_, rfl, main fun u => beaconCopyOp_only (hU.mono rfl) ..⟩
  case demote => exact ⟨_, rfl, main fun u => demoteOp_only (hU.mono rfl) ..⟩
  case timeReq => exact ⟨_, rfl, main fun u => timeReqOp_only (hU.mono rfl) ..⟩
  case timeRsp => exact ⟨_, rfl, main fun u => timeRspOp_only (hU.mono rfl) ..⟩
  case rejoinStart => exact ⟨_, rfl, main fun u => rejoinStartOp_only (hU.mono rfl) ..⟩
  case snapReq => exact ⟨_, rfl, main fun u => snapReqOp_only (hU.mono rfl) ..⟩
  case snapData => exact ⟨_, rfl, main fun u => snapDataOp_only (hU.mono rfl) ..⟩
  case snapEnd => exact ⟨_, rfl, main fun u => snapEndOp_only (hU.mono rfl) ..⟩
  case journal => exact ⟨_, rfl, main fun u => journalOp_only (hU.mono rfl) ..⟩
  case journalFull => exact ⟨_, rfl, main fun u => journalFullOp_only (hU.mono rfl) ..⟩
  case compare => exact ⟨_, rfl, main fun u => compareOp_only (hU.mono rfl) ..⟩
  case ready => exact ⟨_, rfl, main fun u => readyOp_only (hU.mono rfl) ..⟩
  case twinCommit => exact ⟨_, rfl, main fun u => twinCommitOp_only (hU.mono rfl) ..⟩
  case rejoinRetry => exact ⟨_, rfl, main fun u => rejoinRetryOp_only (hU.mono rfl) ..⟩
  case identityRead => exact ⟨_, rfl, main fun u => identityReadOp_only (hU.mono rfl) ..⟩
  case lifecycle => exact ⟨_, rfl, main fun u => lifecycleOp_only (hU.mono rfl) ..⟩
  case keyImport => exact ⟨_, rfl, main fun u => keyImportOp_only (hU.mono rfl) ..⟩
  case publicSet => exact ⟨_, rfl, main fun u => publicSetOp_only (hU.mono rfl) ..⟩
  case keyRevoke => exact ⟨_, rfl, main fun u => keyRevokeOp_only (hU.mono rfl) ..⟩
  case beaconRekey => exact ⟨_, rfl, main fun u => beaconRekeyOp_only (hU.mono rfl) ..⟩
  case beaconKeyActivate => exact ⟨_, rfl, main fun u => beaconKeyActivateOp_only (hU.mono rfl) ..⟩
  case vaultOperation => exact ⟨_, rfl, main fun u => Unseen.ite (State.onRequest_only (hU.mono rfl) _ _ fun v => vaultOperationOp_only (hU.mono rfl) ..) (vaultOperationOp_only (hU.mono rfl) ..)⟩
  case blobLoad => exact ⟨_, rfl, main fun u => State.onRequest_only (hU.mono rfl) _ _ fun v => blobLoadOp_only (hU.mono rfl) ..⟩
  case blobWrap => exact ⟨_, rfl, main fun u => State.onRequest_only (hU.mono rfl) _ _ fun v => blobWrapOp_only (hU.mono rfl) ..⟩
  case keyDerive => exact ⟨_, rfl, main fun u => State.onRequest_only (hU.mono rfl) _ _ fun v => keyDeriveOp_only (hU.mono rfl) ..⟩
  case persistRecordWrite => exact ⟨_, rfl, main fun u => persistRecordWriteOp_only (hU.mono rfl) ..⟩
  case entropyHealthFail => exact ⟨_, rfl, main fun u => entropyHealthFailOp_only (hU.mono rfl) ..⟩
  case updateHeader => exact ⟨_, rfl, main fun u => updateHeaderOp_only (hU.mono rfl) ..⟩
  case updateChunk => exact ⟨_, rfl, main fun u => updateChunkOp_only (hU.mono rfl) ..⟩
  case chunkProgrammed => exact ⟨_, rfl, main fun u => chunkProgrammedOp_only (hU.mono rfl) ..⟩
  case fedConnect => exact ⟨_, rfl, main fun u => fedConnectOp_only (hU.mono rfl) ..⟩
  case fedConnIdle => exact ⟨_, rfl, main fun u => fedConnIdleOp_only (hU.mono rfl) ..⟩
  case sessionIdle => exact ⟨_, rfl, main fun u => sessionIdleOp_only (hU.mono rfl) ..⟩
  case schedule => exact ⟨_, rfl, main fun u => scheduleOp_only (hU.mono rfl) ..⟩
  case activationTest => exact ⟨_, rfl, main fun u => activationTestOp_only (hU.mono rfl) ..⟩
  case activationDeferExpire => exact ⟨_, rfl, main fun u => activationDeferExpireOp_only (hU.mono rfl) ..⟩
  case activationCommit => exact ⟨_, rfl, main fun u => activationCommitOp_only (hU.mono rfl) ..⟩
  case settingsMigrate => exact ⟨_, rfl, main fun u => settingsMigrateOp_only (hU.mono rfl) ..⟩
  case trialConfirm => exact ⟨_, rfl, main fun u => trialConfirmOp_only (hU.mono rfl) ..⟩
  case trialTimeout => exact ⟨_, rfl, main fun u => trialTimeoutOp_only (hU.mono rfl) ..⟩
  case lock => exact ⟨_, rfl, main fun u => lockOp_only (hU.mono rfl) ..⟩
  case unlock => exact ⟨_, rfl, main fun u => unlockOp_only (hU.mono rfl) ..⟩
  case cancel => exact ⟨_, rfl, main fun u => cancelOp_only (hU.mono rfl) ..⟩
  case hostOk => exact ⟨_, rfl, main fun u => hostOkOp_only (hU.mono rfl) ..⟩
  case updateClear => exact ⟨_, rfl, main fun u => updateClearOp_only (hU.mono rfl) ..⟩
  case updCommit => exact ⟨_, rfl, main fun u => updCommitOp_only (hU.mono rfl) ..⟩
  case histAdd => exact ⟨_, rfl, main fun u => tallyRecordOp_only (hU.mono rfl) ..⟩
  case extreme => exact ⟨_, rfl, main fun u => tallyRecordOp_only (hU.mono rfl) ..⟩
  case saturated => exact ⟨_, rfl, main fun u => tallyRecordOp_only (hU.mono rfl) ..⟩
  case mark => exact ⟨_, rfl, main fun u => tallyRecordOp_only (hU.mono rfl) ..⟩
  case tallyDormerRecord => exact ⟨_, rfl, main fun u => tallyDormerRecordOp_only (hU.mono rfl) ..⟩
  case periodicFlush => exact ⟨_, rfl, main fun u => periodicFlushOp_only (hU.mono rfl) ..⟩
  case flush => exact ⟨_, rfl, main fun u => flushOp_only (hU.mono rfl) ..⟩
  case retest => exact ⟨_, rfl, main fun u => retestOp_only (hU.mono rfl) ..⟩
  case flushStart => exact ⟨_, rfl, main fun u => flushStartOp_only (hU.mono rfl) ..⟩
  case flushCommitPoint => exact ⟨_, rfl, main fun u => flushCommitPointOp_only (hU.mono rfl) ..⟩
  case flushComplete => exact ⟨_, rfl, main fun u => flushCompleteOp_only (hU.mono rfl) ..⟩
  case tallyLastWord => exact ⟨_, rfl, main fun u => tallyLastWordOp_only (hU.mono rfl) ..⟩
  case tallyRestore => exact ⟨_, rfl, main fun u => tallyRestoreOp_only (hU.mono rfl) ..⟩
  case tallyLiveEcc => exact ⟨_, rfl, main fun u => tallyLiveEccOp_only (hU.mono rfl) ..⟩
  case snapshot => exact ⟨_, rfl, main fun u => snapshotOp_only (hU.mono rfl) ..⟩
  case tallyClear => exact ⟨_, rfl, main fun u => tallyClearOp_only (hU.mono rfl) ..⟩
  case defCommit => exact ⟨_, rfl, main fun u => defCommitOp_only (hU.mono rfl) ..⟩
  case globalCommit => exact ⟨_, rfl, main fun u => globalCommitOp_only (hU.mono rfl) ..⟩
  case ident => exact ⟨_, rfl, main fun u => identOp_only (hU.mono rfl) ..⟩
  case memUncorrectable => exact ⟨_, rfl, main fun u => memUncorrectableOp_only (hU.mono rfl) ..⟩
  case thermWarnClear => exact ⟨_, rfl, main fun u => thermWarnClearOp_only (hU.mono rfl) ..⟩
  case claimInAssert => exact ⟨_, rfl, main fun u => claimInAssertOp_only (hU.mono rfl) ..⟩
  case liveInAssert => exact ⟨_, rfl, main fun u => liveInAssertOp_only (hU.mono rfl) ..⟩
  case continuityRestored => exact ⟨_, rfl, main fun u => continuityRestoredOp_only (hU.mono rfl) ..⟩
  case twinClockInput => exact ⟨_, rfl, main fun u => twinClockInputOp_only (hU.mono rfl) ..⟩
  case lanLinkUp => exact ⟨_, rfl, main fun u => lanLinkUpOp_only (hU.mono rfl) ..⟩

/-- Nothing lies outside an empty list: every observation is blind to no part. -/
theorem unseen_of_const {β : Type} (m : Nat) (b : β) : Unseen m fun _ : State => b := by
  intro k _
  unfold UnseenPart
  split
  · intros; rfl
  · split <;> first | trivial | (intros; rfl)

/-- Settles O10: an arm of `exec` for each command answers a next state. -/
theorem everyCommandAnswersNext : Obligations.EveryCommandAnswersNext := by
  intro c s
  obtain ⟨t, ht, -⟩ := exec_unseen c (unseen_of_const _ ()) s
  exact ⟨t, ht⟩

/-! ## The parts a command keeps -/

theorem Part.code_eq_iff (p q : Part) : p.code = q.code ↔ p = q := by
  constructor
  · cases p <;> cases q <;> simp [Part.code] <;> omega
  · rintro rfl; rfl

/-- A part that a command may not change is none of its parts. -/
theorem not_mem_parts_of_mayChange {c : Instr} {p : Part} (h : Instr.mayChange c p = false) : p ∉ Instr.parts c := by
  intro hp
  rw [Instr.mayChange, List.any_eq_false] at h
  exact h p hp (by simp)

/-- A command that may not change a block's registers has not the whole register file among its parts. -/
theorem allRegs_not_mem_parts {c : Instr} {k : Nat} (h : Instr.mayChange c (.regs k) = false) : Part.allRegs ∉ Instr.parts c := by
  intro hp
  rw [Instr.mayChange, List.any_eq_false] at h
  exact h _ hp (by simp)

/-- A command that may not change the register file may change no block's registers. -/
theorem regs_not_mem_parts {c : Instr} (h : Instr.mayChange c .allRegs = false) (k : Nat) : Part.regs k ∉ Instr.parts c := by
  intro hp
  rw [Instr.mayChange, List.any_eq_false] at h
  exact h _ hp (by simp)

theorem any_code_eq_false {L : List Part} {p : Part} (h : p ∉ L) : (L.any fun q => q.code == p.code) = false := by
  simp only [List.any_eq_false, beq_iff_eq, Part.code_eq_iff]
  rintro q hq rfl
  exact h hq

/-- Settles O3: a part outside a command's list is an observation that is blind to the list. -/
theorem commandsKeepOtherParts : Obligations.CommandsKeepOtherParts := by
  intro c s t h p hp
  have key {β : Type} (π : State → β) (hU : Unseen (maskOf (Instr.parts c)) π) : π t = π s := by
    obtain ⟨u, hu, hπ⟩ := exec_unseen c hU s
    cases h.symm.trans hu
    exact hπ
  by_cases ha : p = .allRegs
  · subst ha
    intro f
    refine key (fun s => s.rd f) (unseen_rd ?_ ?_) <;> rw [testBit_maskOf]
    · exact any_code_eq_false (not_mem_parts_of_mayChange hp)
    · exact any_code_eq_false (regs_not_mem_parts hp f.blk)
  · refine Part.kept_of key p (any_code_eq_false (not_mem_parts_of_mayChange hp)) ?_ ha
    rintro k rfl
    exact any_code_eq_false (allRegs_not_mem_parts hp)

end Sys2Proof.Machine
end

section
/-! The step, the reset state and the commit of a group (O1, O2, O5). -/

namespace Sys2Proof.Machine

/-- Settles O1: `step` splits on the queue. -/
theorem stepTakesTheFront : Obligations.StepTakesTheFront := by
  constructor
  · intro c s rest h
    simp [step, h]
  · intro s h
    simp [step, h]

/-- Settles O2: the reset state is a closed term, read field by field. -/
theorem resetLeavesTheMachine : Obligations.ResetLeavesTheMachine := by
  refine ⟨rfl, rfl, ⟨rfl, rfl⟩, rfl, rfl, ?_⟩
  refine ⟨?_, ?_, ?_, ?_, ?_, ?_, ?_, ?_, ?_⟩ <;> rfl

/-! ## Shadows under a commit -/

/-- A write to a field with no shadow of its own shows in its shadow; every other shadow stays. -/
theorem State.sh_wr_ne {f g : Fld} (h : g.key ≠ f.key) (s : State) (v : Nat) : (s.wr f v).sh g = s.sh g := by
  simp only [State.sh, State.wr_shd, State.rd_wr_ne h]

theorem State.sh_apply_ne {g : Fld} (fs : List Fld) (h : ∀ f ∈ fs, g.key ≠ f.key) (s : State) : (s.apply fs).sh g = s.sh g := by
  induction fs generalizing s with
  | nil => rfl
  | cons f t ih =>
    rw [State.apply, ih (fun q hq => h q (List.mem_cons_of_mem _ hq))]
    exact State.sh_apply_cons_ne (h f List.mem_cons_self) s

/-- A member that went live has its live value for a shadow. -/
theorem State.sh_apply_mem {g : Fld} (fs : List Fld) (h : g ∈ fs) (u : (fs.map Fld.key).Nodup) (s : State) :
    (s.apply fs).sh g = s.sh g % 2 ^ g.w := by
  induction fs generalizing s with
  | nil => cases h
  | cons f t ih =>
    rw [List.map_cons, List.nodup_cons] at u
    rw [State.apply]
    rcases List.mem_cons.mp h with rfl | h'
    · rw [State.sh_apply_ne t (fun q hq e => u.1 (List.mem_map.mpr ⟨q, hq, e.symm⟩))]
      show (AMap.find g.key (AMap.del g.key s.shd)).getD ((s.wr g (s.sh g)).rd g) = _
      simp
    · rw [ih h' u.2]
      exact congrArg (· % 2 ^ g.w) (State.sh_apply_cons_ne (fun e => u.1 (List.mem_map.mpr ⟨g, h', e⟩)) s)

@[simp] theorem State.storeFields_sh (s : State) (fs : List Fld) (g : Fld) : (s.storeFields fs).sh g = s.sh g := id rfl

/-- What a commit leaves of any register and shadow but its result: what going live leaves where it ends DONE, the state before where not. -/
theorem State.rd_commit_eq {g r : Fld} (h : g.key ≠ r.key) (s : State) (fs : List Fld) (v : Nat) :
    (s.commit r fs v).rd g = if v = St.done then (s.apply fs).rd g else s.rd g := by
  simp only [State.commit]
  split
  · split <;> simp [State.rd_wr_ne h]
  · simp [State.rd_wr_ne h]

theorem State.sh_commit_eq {g r : Fld} (h : g.key ≠ r.key) (s : State) (fs : List Fld) (v : Nat) :
    (s.commit r fs v).sh g = if v = St.done then (s.apply fs).sh g else s.sh g := by
  simp only [State.commit]
  split
  · split <;> simp [State.sh_wr_ne h]
  · simp [State.sh_wr_ne h]

/-- Settles O5: a commit is `apply` on its members where it ends DONE, and a write of its result. -/
theorem commitMovesTheGroupAtOnce : Obligations.CommitMovesTheGroupAtOnce := by
  intro s r fs v hnd hr
  refine ⟨fun f hf => ?_, fun f hf => ?_, s.commit_result r fs v, fun g hg hfs => ?_, fun g hg hfs => ?_, by simp, by simp⟩
  · rw [State.rd_commit_eq (hr f hf), State.rd_apply_mem fs hf hnd]
  · rw [State.sh_commit_eq (hr f hf), State.sh_apply_mem fs hf hnd]
  · rw [State.rd_commit_eq hg, State.rd_apply_ne fs hfs, ite_self]
  · rw [State.sh_commit_eq hg, State.sh_apply_ne fs hfs, ite_self]

end Sys2Proof.Machine
end

section
/-! The canonical form of the memory (O4): most operations do not touch the memory; the others write bytes to it or drop some. -/

namespace Sys2Proof.Machine

theorem State.MemoryOk.of_mem_eq {s t : State} (h : s.MemoryOk) (e : t.mem = s.mem) : t.MemoryOk := by
  rw [State.MemoryOk, e]; exact h

/-- An operation that does not touch the memory keeps its form: `e` is the operation's law of what it leaves alone. -/
theorem State.MemoryOk.of_only {s t : State} (h : s.MemoryOk) {m : Nat}
    (e : Unseen m State.mem → t.mem = s.mem) (b : m.testBit 13 = false) : t.MemoryOk :=
  h.of_mem_eq (e (unseen_mem b))

theorem State.MemoryOk.writeAll {s : State} (h : s.MemoryOk) (a : Nat) (l : List Byte) : Memory.wf (Memory.writeAll a l s.mem) = true :=
  Memory.writeAll_wf a l _ h

theorem State.wr_memoryOk {s : State} (h : s.MemoryOk) (f : Fld) (v : Nat) : (s.wr f v).MemoryOk := h

theorem State.ite_memoryOk {p : Prop} [Decidable p] {a b : State} (ha : a.MemoryOk) (hb : b.MemoryOk) : (if p then a else b).MemoryOk := by
  split <;> assumption

theorem State.withPwr_memoryOk {s : State} (h : s.MemoryOk) (x : Power) : ({ s with pwr := x } : State).MemoryOk := h

/-! ## Hoist channels -/

theorem State.setChan_memoryOk {s : State} (h : s.MemoryOk) (n : Nat) (c : Chan) : (s.setChan n c).MemoryOk := h

theorem State.smear_memoryOk {s : State} (h : s.MemoryOk) (m : MoveSt) : (s.smear m).MemoryOk := by
  unfold State.smear
  dsimp only
  split
  · exact h.writeAll _ _
  · split
    · exact h
    · exact h.writeAll _ _
  · exact h.of_only (fun hU => State.smearRegs_only hU ..) rfl
  · exact h.of_only (fun hU => State.smearRegs_only hU ..) rfl
  · exact h

theorem State.haltChan_memoryOk {s : State} (h : s.MemoryOk) (n status : Nat) : (s.haltChan n status).MemoryOk := by
  have hs : (match (s.chan n).move with | some m => s.smear m | none => s).MemoryOk := by
    split
    · exact s.smear_memoryOk h _
    · exact h
  unfold State.haltChan
  dsimp only
  split <;> exact hs

theorem State.nextIns_memoryOk {s : State} (h : s.MemoryOk) (n next : Nat) : (s.nextIns n next).MemoryOk := by
  unfold State.nextIns
  dsimp only
  split
  · exact State.haltChan_memoryOk (by exact h) _ _
  · exact h

theorem State.fetchBad_memoryOk {s : State} (h : s.MemoryOk) (n : Nat) : (s.fetchBad n).MemoryOk :=
  State.haltChan_memoryOk (by exact h) _ _

theorem State.runIns_memoryOk {s : State} (h : s.MemoryOk) (n op : Nat) (fetch : Ecc) {body : State → State}
    (hb : ∀ u : State, u.MemoryOk → (body u).MemoryOk) : (s.runIns n op fetch body).MemoryOk := by
  unfold State.runIns
  repeat' split
  · exact s.fetchBad_memoryOk h n
  · exact h
  · exact hb s h
  · exact h

theorem State.departWait_memoryOk {s : State} (h : s.MemoryOk) (n w : Nat) : (s.departWait n w).MemoryOk :=
  h.of_only (fun hU => State.departWait_only hU ..) rfl

theorem State.arriveWait_memoryOk {s : State} (h : s.MemoryOk) (n w : Nat) : (s.arriveWait n w).MemoryOk :=
  h.of_only (fun hU => State.arriveWait_only hU ..) rfl

theorem State.notify_memoryOk {s : State} (h : s.MemoryOk) (n w code : Nat) : (s.notify n w code).MemoryOk :=
  h.of_only (fun hU => State.notify_only hU ..) rfl

theorem State.waitStep_memoryOk {s : State} (h : s.MemoryOk) (n w : Nat) : (s.waitStep n w).MemoryOk := by
  unfold State.waitStep
  dsimp only
  split
  · exact State.nextIns_memoryOk (State.setChan_memoryOk (s.departWait_memoryOk h n w) _ _) _ _
  · exact h

theorem State.haltWaiting_memoryOk {s : State} (h : s.MemoryOk) (n status : Nat) : (s.haltWaiting n status).MemoryOk := by
  refine State.haltChan_memoryOk (State.setChan_memoryOk ?_ _ _) _ _
  split
  · exact s.departWait_memoryOk h n _
  · exact h

theorem State.parkChan_memoryOk {s : State} (h : s.MemoryOk) (n : Nat) : (s.parkChan n).MemoryOk := by
  unfold State.parkChan
  dsimp only
  repeat' split
  · exact s.haltWaiting_memoryOk h _ _
  · exact s.haltChan_memoryOk h _ _
  · exact h
  · exact h

theorem State.abortChan_memoryOk {s : State} (h : s.MemoryOk) (n : Nat) : (s.abortChan n).MemoryOk := by
  unfold State.abortChan
  dsimp only
  split
  · exact State.haltChan_memoryOk (State.setChan_memoryOk (by exact h) _ _) _ _
  · repeat' split
    · exact s.haltChan_memoryOk h _ _
    · exact s.haltWaiting_memoryOk h _ _
    · exact h

theorem State.foldl_memoryOk {α : Type} {f : State → α → State} (hf : ∀ s a, s.MemoryOk → (f s a).MemoryOk) (l : List α) {s : State}
    (h : s.MemoryOk) : (l.foldl f s).MemoryOk := by
  induction l generalizing s with
  | nil => exact h
  | cons a t ih => exact ih (hf s a h)

theorem State.parkAll_memoryOk {s : State} (h : s.MemoryOk) : s.parkAll.MemoryOk :=
  State.foldl_memoryOk (fun _ n h => State.parkChan_memoryOk h n) _ h

theorem State.abortAll_memoryOk {s : State} (h : s.MemoryOk) : s.abortAll.MemoryOk :=
  State.foldl_memoryOk (fun _ n h => State.abortChan_memoryOk h n) _ h

theorem channelCtrl_memoryOk {s : State} (h : s.MemoryOk) (v : Nat) : (channelCtrl v s).MemoryOk := by
  unfold channelCtrl
  dsimp only
  repeat' split
  all_goals first
    | exact h
    | exact s.haltChan_memoryOk h _ _
    | exact s.haltWaiting_memoryOk h _ _

theorem moveCompleteOp_memoryOk {s : State} (h : s.MemoryOk) (n : Nat) : (moveCompleteOp n s).MemoryOk := by
  unfold moveCompleteOp
  dsimp only
  repeat' split
  all_goals first
    | exact h
    | exact State.nextIns_memoryOk (by exact h) _ _

theorem loopOp_memoryOk {s : State} (h : s.MemoryOk) (n : Nat) (fetch : Ecc) : (loopOp n fetch s).MemoryOk := by
  refine s.runIns_memoryOk h n 2 fetch fun u hu => ?_
  dsimp only
  split
  · exact u.nextIns_memoryOk hu _ _
  · exact hu

theorem waitOp_memoryOk {s : State} (h : s.MemoryOk) (n : Nat) (fetch : Ecc) : (waitOp n fetch s).MemoryOk :=
  s.runIns_memoryOk h n 3 fetch fun u hu => State.waitStep_memoryOk (u.arriveWait_memoryOk hu _ _) _ _

theorem waitSatisfiedOp_memoryOk {s : State} (h : s.MemoryOk) (n : Nat) : (waitSatisfiedOp n s).MemoryOk := by
  unfold waitSatisfiedOp
  dsimp only
  repeat' split
  · exact h
  · exact s.waitStep_memoryOk h _ _
  · exact h
  · exact h

theorem waitTimeoutOp_memoryOk {s : State} (h : s.MemoryOk) (n : Nat) : (waitTimeoutOp n s).MemoryOk := by
  unfold waitTimeoutOp
  dsimp only
  split
  · exact State.haltChan_memoryOk (s.departWait_memoryOk h _ _) _ _
  · exact h

theorem signalOp_memoryOk {s : State} (h : s.MemoryOk) (n : Nat) (fetch : Ecc) : (signalOp n fetch s).MemoryOk :=
  s.runIns_memoryOk h n 4 fetch fun _ hu =>
    State.nextIns_memoryOk (State.notify_memoryOk (hu.of_only (fun hU => State.setFlags_only hU ..) rfl) _ _ _) _ _

theorem endOp_memoryOk {s : State} (h : s.MemoryOk) (n : Nat) (fetch : Ecc) : (endOp n fetch s).MemoryOk := by
  unfold endOp
  dsimp only
  repeat' split
  · exact s.fetchBad_memoryOk h n
  · exact State.notify_memoryOk (State.setChan_memoryOk h _ _) _ _ _
  · exact h
  · exact h

/-! ## MOVE on a bus that keeps the memory's form -/

section Bus
variable {b : RegBus} (hr : ∀ (o : Nat) (s : State), s.MemoryOk → (b.read o s).2.MemoryOk)
  (hw : ∀ (o v : Nat) (s : State), s.MemoryOk → (b.write o v s).MemoryOk)

include hr in
theorem RegBus.readAll_memoryOk (off : Nat) (fixed : Bool) {s : State} (h : s.MemoryOk) (k : Nat) :
    (b.readAll off fixed s k).2.MemoryOk := by
  induction k generalizing off s with
  | zero => exact h
  | succ k ih => exact ih _ (hr off s h)

include hw in
theorem RegBus.writeAll_memoryOk (fixed : Bool) (k off : Nat) (data : List Byte) {s : State} (h : s.MemoryOk) :
    (b.writeAll fixed k off data s).MemoryOk := by
  induction k generalizing off data s with
  | zero => exact h
  | succ k ih => exact ih _ _ (hw _ _ s h)

include hr in
theorem moveRead_memoryOk {s : State} (h : s.MemoryOk) {rs : Region} {src len : Nat} {x : Bool} {e : Option Nat} {r : MoveRead}
    (hm : moveRead b s rs src len x e = some r) : r.st.MemoryOk := by
  unfold moveRead at hm
  split at hm
  · exact h.of_only (fun hU => readPort_only hU hm) rfl
  · cases hm
    exact RegBus.readAll_memoryOk hr _ _ h _
  · cases hm
    exact h

include hw in
theorem MoveSt.write_memoryOk (m : MoveSt) (k upto : Nat) {s : State} (h : s.MemoryOk) : (m.write b k upto s).MemoryOk := by
  unfold MoveSt.write
  dsimp only
  split
  · exact h.writeAll _ _
  · split
    · exact Memory.write_wf _ _ _ h
    · exact h
  · exact RegBus.writeAll_memoryOk hw _ _ _ _ h
  · exact h

include hw in
theorem State.beginMove_memoryOk {s : State} (h : s.MemoryOk) (n : Nat) (dst : MoveDst) (data : List Byte) (bus : BusOutcome) :
    (s.beginMove b n dst data bus).MemoryOk := by
  have start (m : MoveSt) (k : Nat) (c : Chan) :
      (if ((m.write b 0 k s).chan n).st = .idle then m.write b 0 k s else (m.write b 0 k s).setChan n c).MemoryOk := by
    split <;> exact MoveSt.write_memoryOk hw m 0 k h
  unfold State.beginMove
  dsimp only
  split
  · exact start _ _ _
  · exact start _ _ _
  · split
    · exact State.haltChan_memoryOk (start _ _ _) _ _
    · exact start _ _ _
  · exact State.haltChan_memoryOk (State.wr_memoryOk (start _ _ _) _ _) _ _

include hr hw in
theorem moveOp_memoryOk {s : State} (h : s.MemoryOk) (n : Nat) (fetch : Ecc) (bus : BusOutcome) : (moveOp b n fetch bus s).MemoryOk := by
  refine s.runIns_memoryOk h n 1 fetch fun s0 h0 => ?_
  dsimp only
  have h1 : (s0.setChan n { s0.chan n with bytes := 0 }).MemoryOk := h0
  have hread (a : Nat) : ((s0.setChan n { s0.chan n with bytes := 0 }).lpddrRead a bus).MemoryOk :=
    State.MemoryOk.of_only (s := s0) h0 (fun hU => State.lpddrRead_only hU ..) rfl
  generalize s0.setChan n { s0.chan n with bytes := 0 } = s at h1 hread ⊢
  split
  · exact s.nextIns_memoryOk h1 _ _
  split
  · split
    · rw [if_pos rfl]
      exact s.haltChan_memoryOk h1 _ _
    rw [if_neg Bool.false_ne_true]
    split
    · exact s.haltChan_memoryOk h1 _ _
    split
    · exact h1
    have hlpddr (p : Prop) [Decidable p] (a : Nat) : (if p then s.lpddrRead a bus else s).MemoryOk := by
      split <;> [exact hread a; exact h1]
    split
    · exact State.setChan_memoryOk (hlpddr _ _) _ _
    · rename_i r hm
      have h2 : r.st.MemoryOk := moveRead_memoryOk hr (hlpddr _ _) hm
      split
      · split
        · exact r.st.haltChan_memoryOk h2 _ _
        · exact State.haltChan_memoryOk (State.setChan_memoryOk (MoveSt.write_memoryOk hw _ _ _ h2) _ _) _ _
      · split
        · refine State.ite_memoryOk ?_ ?_
          · exact State.haltChan_memoryOk (h2.of_mem_eq (State.chuteBump_mem _ _ _)) _ _
          · exact State.beginMove_memoryOk hw (by exact h2) _ _ _ _
        · exact State.beginMove_memoryOk hw h2 _ _ _ _
  · exact s.haltChan_memoryOk h1 _ _

include hw in
theorem burstRetryOp_memoryOk {s : State} (h : s.MemoryOk) (n : Nat) (ok : Bool) : (burstRetryOp b n ok s).MemoryOk := by
  have h1 : (s.bump (Reg.HST_CH_RETRY n) Reg.HST_FAULT_CNT_SAT).MemoryOk := h.of_mem_eq (by simp)
  unfold burstRetryOp
  dsimp only
  repeat' split
  · exact h
  · exact h
  · exact MoveSt.write_memoryOk hw _ _ _ h1
  · exact State.haltChan_memoryOk (by exact h1) _ _
  · exact h1

end Bus

/-! ## Updates -/

theorem State.hostCmd_memoryOk {s : State} (h : s.MemoryOk) (c : Cmd) (k : RingKind) {body : State → State}
    (hb : ∀ u : State, u.MemoryOk → (body u).MemoryOk) : (s.hostCmd c k body).MemoryOk := by
  have hbegun : (s.begun c).MemoryOk := h.of_only (fun hU => State.begun_only hU ..) rfl
  unfold State.hostCmd
  dsimp only
  repeat' split
  · exact h
  · exact hbegun.of_only (fun hU => State.finish_only hU ..) rfl
  · exact hbegun.of_only (fun hU => State.finish_only hU ..) rfl
  · exact hb _ hbegun

theorem State.updFrom_memoryOk {s : State} (h : s.MemoryOk) (from_ : UpdFrom) (size : Nat) (words : List DWord) {body : State → State}
    (hb : ∀ u : State, u.MemoryOk → (body u).MemoryOk) : (s.updFrom from_ size words body).MemoryOk := by
  have hconsume {u : State} (hu : u.MemoryOk) : (u.consume 52 words).MemoryOk := hu.of_only (fun hU => State.consume_only hU ..) rfl
  unfold State.updFrom
  split
  · exact s.hostCmd_memoryOk h _ _ fun u hu => hb _ (hconsume hu)
  · repeat' split
    · exact h
    · exact h
    · exact hb _ (hconsume h)

theorem State.discardChunks_memoryOk {s : State} (h : s.MemoryOk) : s.discardChunks.MemoryOk :=
  h.of_only (fun hU => State.discardChunks_only hU ..) rfl

theorem State.openSession_memoryOk {s : State} (h : s.MemoryOk) (x : ImgHdr) (p : List Byte) (source : Nat) :
    (s.openSession x p source).MemoryOk := by
  have ht : s.discardChunks.MemoryOk := s.discardChunks_memoryOk h
  exact State.MemoryOk.writeAll (s := s.discardChunks) ht _ _

theorem State.decideHeader_memoryOk {s : State} (h : s.MemoryOk) (x : ImgHdr) (p : List Byte) (source : Nat) :
    (s.decideHeader x p source).2.MemoryOk := by
  have hopen := s.openSession_memoryOk h x p source
  have hdrop := s.discardChunks_memoryOk h
  unfold State.decideHeader
  dsimp only
  repeat' split
  all_goals first
    | exact h
    | exact hopen
    | exact hdrop.of_only (fun hU => Unseen.fault (m := 0x1000000000000020) hU (by decide) _) rfl

theorem updateHeaderOp_memoryOk {s : State} (h : s.MemoryOk) (src : UpdFrom) (data : List Byte) (rsv : Bool) :
    (updateHeaderOp src data rsv s).MemoryOk := by
  refine s.updFrom_memoryOk h _ _ _ fun u hu => ?_
  dsimp only
  have hdec := u.decideHeader_memoryOk hu (parseHeader data) data (srcCode src)
  refine State.MemoryOk.of_only (State.MemoryOk.of_only ?_ (fun hU => State.updAnswer_only hU ..) rfl) (fun hU => State.showUpd_only hU ..) rfl
  have hr : (if u.headerVerdict data (lenOf src data) rsv = St.done then u.decideHeader (parseHeader data) data (srcCode src)
      else (u.headerVerdict data (lenOf src data) rsv, u)).2.MemoryOk := by
    split <;> [exact hdec; exact hu]
  generalize (if u.headerVerdict data (lenOf src data) rsv = St.done then u.decideHeader (parseHeader data) data (srcCode src)
      else (u.headerVerdict data (lenOf src data) rsv, u)) = r at hr ⊢
  split
  · exact hr
  · exact hr.of_mem_eq (State.bump_mem _ _ _)

theorem chunkProgrammedOp_memoryOk {s : State} (h : s.MemoryOk) (ok : Bool) : (chunkProgrammedOp ok s).MemoryOk := by
  unfold chunkProgrammedOp
  split
  · dsimp only
    refine State.MemoryOk.of_only (State.MemoryOk.of_only ?_ (fun hU => State.updAnswer_only hU ..) rfl) (fun hU => State.showUpd_only hU ..) rfl
    repeat' split
    · exact h
    · exact State.MemoryOk.of_mem_eq h (State.bump_mem _ _ _)
    · exact h
    · refine State.MemoryOk.of_only ?_ (fun hU => State.verifyAfter_only hU ..) rfl
      exact h.writeAll _ _
  · exact h

/-! ## Reset release -/

theorem State.rebuilt_memoryOk {s : State} (h : s.MemoryOk) (straps : Nat) : (s.rebuilt straps).MemoryOk := by
  refine State.wr_memoryOk (State.wr_memoryOk ?_ _ _) _ _
  refine State.MemoryOk.of_only ?_ (fun hU => hU.wrMap (m := 0xffffff0000000000) (by decide) _ _) rfl
  exact Memory.filter_wfFrom _ _ h

theorem resetReleaseOp_memoryOk {s : State} (h : s.MemoryOk) (khz straps : Nat) (a b c : Bool) :
    (resetReleaseOp khz straps a b c s).MemoryOk := by
  have hboot : ((((s.rebuilt straps).measureRefclk khz).showCause s.pwr.nextCause).bootSelect a b).MemoryOk :=
    (((s.rebuilt_memoryOk h straps).of_only (fun hU => State.measureRefclk_only hU ..) rfl).of_only
      (fun hU => State.showCause_only hU ..) rfl).of_only (fun hU => State.bootSelect_only hU ..) rfl
  unfold resetReleaseOp
  dsimp only
  repeat' split
  · exact h
  · exact (hboot.of_only (fun hU => State.changeLife_only hU ..) rfl).of_only (fun hU => State.restart_only hU ..) rfl
  · refine State.withPwr_memoryOk ?_ _
    exact (((((hboot.of_only (fun hU => State.startTime_only hU ..) rfl).of_only (fun hU => State.loadSettings_only hU ..) rfl).of_only
      (fun hU => State.startVault_only hU ..) rfl).of_only (fun hU => State.startTrapdoor_only hU ..) rfl).of_only
      (fun hU => State.startEpochs_only hU ..) rfl).of_only (fun hU => State.startRest_only hU ..) rfl

/-! ## Power fail and power-down -/

theorem pfailAssertOp_memoryOk {s : State} (h : s.MemoryOk) : (pfailAssertOp s).MemoryOk := by
  have ha : ((s.wrapBy Reg.CLK_PFAIL_COUNT 1).fault Reg.CLK_FAULT_PFAIL_SEEN).MemoryOk :=
    h.of_mem_eq (by simp [State.wrapBy])
  unfold pfailAssertOp
  dsimp only
  generalize (s.wrapBy Reg.CLK_PFAIL_COUNT 1).fault Reg.CLK_FAULT_PFAIL_SEEN = a at ha ⊢
  have hc (b : State) (hb : b.mem = a.mem) : ((((b.wr Reg.CLK_LAST_MODE_PFAIL_STAGE 1).overtake).wr Reg.CLK_MODE_STATUS_IN_TRANSIT 1).stopLive.parkAll.showMeas).MemoryOk := by
    refine State.MemoryOk.of_only (State.parkAll_memoryOk ?_) (fun hU => State.showMeas_only hU ..) rfl
    refine State.MemoryOk.of_only (State.wr_memoryOk ?_ _ _) (fun hU => State.stopLive_only hU ..) rfl
    exact State.MemoryOk.of_only (s := b.wr Reg.CLK_LAST_MODE_PFAIL_STAGE 1) (ha.of_mem_eq hb) (fun hU => State.overtake_only hU ..) rfl
  repeat' split
  · exact h
  · exact ha
  · refine State.MemoryOk.of_only ?_ (fun hU => State.raiseFleet_only (m := 0xa1d08e0092740ee2) hU rfl _ _ _ (by decide)) rfl
    exact hc _ (by rfl)
  · exact hc _ (by rfl)

theorem pfailHoistTimeoutOp_memoryOk {s : State} (h : s.MemoryOk) : (pfailHoistTimeoutOp s).MemoryOk := by
  unfold pfailHoistTimeoutOp
  split
  · exact (State.abortAll_memoryOk h).of_only (fun hU => State.pfailStage_only hU ..) rfl
  · exact h

theorem State.startPdown_memoryOk {s : State} (h : s.MemoryOk) (target : Mode) : (s.startPdown target).MemoryOk := by
  unfold State.startPdown
  dsimp only
  repeat' split
  · exact h
  · exact State.abortAll_memoryOk (State.parkAll_memoryOk (h.of_mem_eq rfl))
  · exact State.parkAll_memoryOk (h.of_mem_eq rfl)

theorem State.modeReq_memoryOk {s : State} (h : s.MemoryOk) (target : Nat) (row : State → Bool) {body : State → State}
    (hb : ∀ u : State, u.MemoryOk → (body u).MemoryOk) : (s.modeReq target row body).MemoryOk := by
  unfold State.modeReq
  dsimp only
  repeat' split
  · exact h
  · exact h
  · exact h
  · exact hb _ h

theorem modeReqCellarOp_memoryOk {s : State} (h : s.MemoryOk) : (modeReqCellarOp s).MemoryOk :=
  s.modeReq_memoryOk h _ _ fun _ hu => State.startPdown_memoryOk hu _

theorem modeReqDormerWatchOp_memoryOk {s : State} (h : s.MemoryOk) : (modeReqDormerWatchOp s).MemoryOk :=
  s.modeReq_memoryOk h _ _ fun _ hu => State.startPdown_memoryOk hu _

theorem pdownDrainTimeoutOp_memoryOk {s : State} (h : s.MemoryOk) : (pdownDrainTimeoutOp s).MemoryOk := by
  unfold pdownDrainTimeoutOp State.pdownStep
  repeat' split
  · exact h
  · exact State.withPwr_memoryOk (State.abortAll_memoryOk h) _
  · exact h

/-! ## Register writes -/

theorem State.modeReqWrite_memoryOk {s : State} (h : s.MemoryOk) (v : Nat) : (s.modeReqWrite v).MemoryOk := by
  unfold State.modeReqWrite
  dsimp only
  repeat' split
  · exact h
  · exact modeReqCellarOp_memoryOk h
  · exact modeReqDormerWatchOp_memoryOk h
  · exact h.of_only (fun hU => modeReqRestartOp_only hU ..) rfl
  · exact h.of_only (fun hU => modeReqSurveyOp_only hU ..) rfl
  · exact h.of_only (fun hU => modeReqFleetStopOp_only hU ..) rfl
  · exact h.of_only (fun hU => modeReqFleetStartOp_only hU ..) rfl
  · exact h

/-- Of the registers with a behaviour, a mode request alone can reach the memory, through the channels it halts. -/
theorem State.regWrite_memoryOk {s : State} (h : s.MemoryOk) (off v : Nat) : (s.regWrite off v).MemoryOk := by
  have hword (pending : Bool) (busy : Fld) (hbusy : faultOk 0xffffff0000000220 busy = true) {body : State → State}
      (hb : ∀ u, (body u).mem = u.mem) : (s.wordWrite pending busy body).MemoryOk :=
    h.of_only (fun hU => State.wordWrite_only (m := 0xffffff0000000220) hU rfl _ _ _ _ hbusy hb) rfl
  unfold State.regWrite
  dsimp only
  repeat' with_reducible refine State.ite_memoryOk ?_ ?_
  all_goals first
    | exact h
    | exact hword _ _ (by decide) fun _ => rfl
    | exact State.modeReqWrite_memoryOk h _
    | exact h.of_only (fun hU => State.msixWrite_only hU ..) rfl
    | exact h.of_only (fun hU => tickConfigWriteOp_only hU ..) rfl
    | exact h.of_only (fun hU => xtal32CfgWriteOp_only hU ..) rfl
    | exact h.of_only (fun hU => State.plainWrite_only hU ..) rfl

theorem State.wordAt_memoryOk {s : State} (h : s.MemoryOk) (off v : Nat) : (s.wordAt off v).MemoryOk := by
  unfold State.wordAt
  split
  · rename_i p hp
    split
    · exact h.of_only (fun hU => commitOps_only hU p (List.mem_of_find?_eq_some hp) s) rfl
    · exact h
  split
  · exact h.of_only (fun hU => State.controlWrite_only hU ..) rfl
  split
  · exact h.of_only (fun hU => stickyFaultClearOp_only hU ..) rfl
  split
  · exact channelCtrl_memoryOk h v
  · exact h.of_only (fun hU => eventFlagsClearOp_only hU ..) rfl
  · exact h.of_only (fun hU => eventFlagsClearOp_only hU ..) rfl
  · exact h.of_only (fun hU => srpCfgWriteOp_only hU ..) rfl
  · exact h.of_only (fun hU => attnKickOp_only hU ..) rfl
  · exact h.of_only (fun hU => claimWrite_only hU ..) rfl
  · exact s.regWrite_memoryOk h off v

theorem registerWriteOp_memoryOk {s : State} (h : s.MemoryOk) (off v : Nat) (hi : Option Nat) (w : Writer) :
    (registerWriteOp off v hi w s).MemoryOk := by
  unfold registerWriteOp
  dsimp only
  cases w with
  | core =>
    refine State.ite_memoryOk ?_ ?_
    · cases hi with
      | none => exact s.wordAt_memoryOk h off v
      | some u => exact State.wordAt_memoryOk (s.wordAt_memoryOk h off v) (off + 4) u
    · exact h
  | host =>
    have hone (o x : Nat) (u : State) (hu : u.MemoryOk) :
        (if (hostBarred o).isSome then protectedHostWriteOp o u else u.wordAt o x).MemoryOk := by
      split
      · exact hu.of_only (fun hU => protectedHostWriteOp_only hU ..) rfl
      · exact u.wordAt_memoryOk hu o x
    refine State.ite_memoryOk h (State.ite_memoryOk ?_ ?_)
    · exact h.of_only (fun hU => badSizeAccessOp_only hU ..) rfl
    · cases hi with
      | none => exact hone off v s h
      | some u => exact hone (off + 4) u _ (hone off v s h)

/-- The Hoist's bus keeps the memory's form. -/
theorem hoistBus_read_memoryOk (o : Nat) (s : State) (h : s.MemoryOk) : (hoistBus.read o s).2.MemoryOk :=
  h.of_only (fun hU => State.busRead_only hU o s) rfl

theorem hoistBus_write_memoryOk (o v : Nat) (s : State) (h : s.MemoryOk) : (hoistBus.write o v s).MemoryOk := s.wordAt_memoryOk h o v

/-! ## Every command -/

theorem State.whenMain_memoryOk {s : State} (h : s.MemoryOk) {body : State → State} (hb : ∀ u : State, u.MemoryOk → (body u).MemoryOk) :
    (s.whenMain body).MemoryOk := by
  unfold State.whenMain
  split <;> [exact hb s h; exact h]

/-- A command without the memory among its parts leaves it; the others are the ones above. -/
theorem exec_memoryOk {s : State} (h : s.MemoryOk) (c : Instr) : ∃ t, exec c s = .next t ∧ t.MemoryOk := by
  by_cases hc : Part.mem ∈ Instr.parts c
  · cases c
    case resetRelease => exact ⟨_, rfl, resetReleaseOp_memoryOk h _ _ _ _ _⟩
    case pfailAssert => exact ⟨_, rfl, pfailAssertOp_memoryOk h⟩
    case pfailHoistTimeout => exact ⟨_, rfl, s.whenMain_memoryOk h fun _ => pfailHoistTimeoutOp_memoryOk⟩
    case registerWrite => exact ⟨_, rfl, s.whenMain_memoryOk h fun _ hu => registerWriteOp_memoryOk hu _ _ _ _⟩
    case modeReqCellar => exact ⟨_, rfl, s.whenMain_memoryOk h fun _ => modeReqCellarOp_memoryOk⟩
    case modeReqDormerWatch => exact ⟨_, rfl, s.whenMain_memoryOk h fun _ => modeReqDormerWatchOp_memoryOk⟩
    case pdownDrainTimeout => exact ⟨_, rfl, s.whenMain_memoryOk h fun _ => pdownDrainTimeoutOp_memoryOk⟩
    case channelStart => exact ⟨_, rfl, s.whenMain_memoryOk h fun _ hu => channelCtrl_memoryOk hu _⟩
    case channelResume => exact ⟨_, rfl, s.whenMain_memoryOk h fun _ hu => channelCtrl_memoryOk hu _⟩
    case channelStop => exact ⟨_, rfl, s.whenMain_memoryOk h fun _ hu => channelCtrl_memoryOk hu _⟩
    case move =>
      exact ⟨_, rfl, s.whenMain_memoryOk h fun _ hu => moveOp_memoryOk hoistBus_read_memoryOk hoistBus_write_memoryOk hu _ _ _⟩
    case burstRetry => exact ⟨_, rfl, s.whenMain_memoryOk h fun _ hu => burstRetryOp_memoryOk hoistBus_write_memoryOk hu _ _⟩
    case moveComplete => exact ⟨_, rfl, s.whenMain_memoryOk h fun _ hu => moveCompleteOp_memoryOk hu _⟩
    case loop => exact ⟨_, rfl, s.whenMain_memoryOk h fun _ hu => loopOp_memoryOk hu _ _⟩
    case wait => exact ⟨_, rfl, s.whenMain_memoryOk h fun _ hu => waitOp_memoryOk hu _ _⟩
    case waitSatisfied => exact ⟨_, rfl, s.whenMain_memoryOk h fun _ hu => waitSatisfiedOp_memoryOk hu _⟩
    case waitTimeout => exact ⟨_, rfl, s.whenMain_memoryOk h fun _ hu => waitTimeoutOp_memoryOk hu _⟩
    case signal => exact ⟨_, rfl, s.whenMain_memoryOk h fun _ hu => signalOp_memoryOk hu _ _⟩
    case hoistEnd => exact ⟨_, rfl, s.whenMain_memoryOk h fun _ hu => endOp_memoryOk hu _ _⟩
    case updateHeader => exact ⟨_, rfl, s.whenMain_memoryOk h fun _ hu => updateHeaderOp_memoryOk hu _ _ _⟩
    case chunkProgrammed => exact ⟨_, rfl, s.whenMain_memoryOk h fun _ hu => chunkProgrammedOp_memoryOk hu _⟩
    all_goals exact absurd hc (by simp [Instr.parts])
  · obtain ⟨t, ht, e⟩ := exec_unseen c (unseen_mem (by rw [testBit_maskOf]; exact any_code_eq_false hc)) s
    exact ⟨t, ht, h.of_mem_eq e⟩

/-- Settles O4: a step is `exec` on the front of the queue, and the queue is no part of the memory. -/
theorem stepKeepsMemoryForm : Obligations.StepKeepsMemoryForm := by
  intro s t h hstep
  unfold step at hstep
  split at hstep
  · cases hstep
    exact h
  · rename_i c rest _
    obtain ⟨u, hu, hok⟩ := exec_memoryOk (s := { s with pending := rest }) h c
    cases hu.symm.trans hstep
    exact hok

end Sys2Proof.Machine
end

section
/-! Resets and the brown-out (O12): what the main domain's going down and the start of a boot leave in each register they touch. -/

namespace Sys2Proof.Machine

/-- A command of the main domain does its operation while the domain is up. -/
theorem Gives.of_main {i : Instr} {s : State} {op : State → State} {P : State → Prop} (hup : s.Up)
    (he : exec i s = .next (s.whenMain op)) (h : P (op s)) : Gives i s P :=
  ⟨op s, by rw [he, State.whenMain_up hup], h⟩

/-- An operation's law of what it leaves alone, for one register. -/
theorem State.rd_of_only {m : Nat} {s t : State} (f : Fld) (e : Unseen m (fun s => s.rd f) → t.rd f = s.rd f)
    (h : (m.testBit 2 || m.testBit (40 + f.blk)) = false) : t.rd f = s.rd f := by
  rw [Bool.or_eq_false_iff] at h
  exact e (unseen_rd h.1 h.2)

theorem Mode.ne_cellar_of_main {m : Mode} (h : m.main = true) : m ≠ .cellar := by rintro rfl; exact absurd h (by decide)

theorem Mode.ne_dormerWatch_of_main {m : Mode} (h : m.main = true) : m ≠ .dormerWatch := by rintro rfl; exact absurd h (by decide)

/-! ## The main domain goes down -/

@[simp] theorem State.mainDown_mode (s : State) : s.mainDown.mode = s.mode := State.mainDown_only (π := State.mode) (unseen_mode rfl) s
@[simp] theorem State.mainDown_mem (s : State) : s.mainDown.mem = s.mem := State.mainDown_only (π := State.mem) (unseen_mem rfl) s
@[simp] theorem State.mainDown_tly (s : State) : s.mainDown.tly = s.tly := State.mainDown_only (π := State.tly) (unseen_tly rfl) s
@[simp] theorem State.mainDown_drm (s : State) : s.mainDown.drm = s.drm := State.mainDown_only (π := State.drm) (unseen_drm rfl) s
@[simp] theorem State.mainDown_pwr (s : State) : s.mainDown.pwr = { s.pwr with mainPowered := false, pdown := none, lanOpen := false } := by
  simp only [State.mainDown]
  split <;> simp [State.wrEach]

theorem State.rails_rd (s : State) (a m : Bool) {f : Fld} (h : f.key ≠ Reg.CLK_RAIL_STATUS_RAIL_OK.key) : (s.rails a m).rd f = s.rd f :=
  State.rd_wr_ne h _ _

/-- A start of BOOT writes no register but RAIL_OK. -/
theorem State.startBoot_rd (s : State) (c : Nat) {f : Fld} (h : f.key ≠ Reg.CLK_RAIL_STATUS_RAIL_OK.key) : (s.startBoot c).rd f = s.rd f :=
  s.rails_rd _ _ h

/-- Nor does the way to DORMER_WATCH after the main domain went down. -/
theorem State.toWatch_rd (s : State) (e : WatchEntry) {f : Fld} (h : f.key ≠ Reg.CLK_RAIL_STATUS_RAIL_OK.key) :
    (s.toWatch e).rd f = s.mainDown.rd f :=
  s.mainDown.rails_rd true false h

/-- Outside the registers of its two lists, the main domain's going down leaves every register. -/
theorem State.mainDown_rd (s : State) {f : Fld}
    (h : ∀ g ∈ [Reg.CLK_LAST_MODE_LAST_MODE, Reg.CLK_LAST_MODE_PFAIL_STAGE, Reg.CLK_LAST_MODE_FLUSH_INCOMPLETE, Reg.CLK_SRC_STATUS_PLL_CORE_LOCK,
      Reg.CLK_SRC_STATUS_PLL_ADC_LOCK, Reg.CLK_SRC_STATUS_PLL_SERDES_LOCK, Reg.CLK_SRC_STATUS_CORE_ON_RC4M, Reg.CLK_MODE_STATUS_IN_TRANSIT],
      f.key ≠ g.key) : s.mainDown.rd f = s.rd f := by
  simp only [List.forall_mem_cons] at h
  obtain ⟨h1, h2, h3, h4, h5, h6, h7, h8, -⟩ := h
  have hup {u : State} : (u.wrEach [(Reg.CLK_SRC_STATUS_PLL_CORE_LOCK, 0), (Reg.CLK_SRC_STATUS_PLL_ADC_LOCK, 0),
      (Reg.CLK_SRC_STATUS_PLL_SERDES_LOCK, 0), (Reg.CLK_SRC_STATUS_CORE_ON_RC4M, 0), (Reg.CLK_MODE_STATUS_IN_TRANSIT, 0)]).rd f = u.rd f := by
    simp only [State.wrEach, State.rd_wr_ne h4, State.rd_wr_ne h5, State.rd_wr_ne h6, State.rd_wr_ne h7, State.rd_wr_ne h8]
  refine hup.trans ?_
  split <;> simp only [State.wrEach, State.rd_wr_ne h1, State.rd_wr_ne h2, State.rd_wr_ne h3]

@[simp] theorem State.vaultDark_pwr (s : State) : s.vaultDark.pwr = s.pwr := State.vaultDark_only (π := State.pwr) (unseen_pwr rfl) s
@[simp] theorem State.vaultDark_mode (s : State) : s.vaultDark.mode = s.mode := State.vaultDark_only (π := State.mode) (unseen_mode rfl) s
@[simp] theorem State.vaultDark_tly (s : State) : s.vaultDark.tly = s.tly := State.vaultDark_only (π := State.tly) (unseen_tly rfl) s
@[simp] theorem State.vaultDark_drm (s : State) : s.vaultDark.drm = s.drm := State.vaultDark_only (π := State.drm) (unseen_drm rfl) s
@[simp] theorem State.vaultDark_rd (s : State) (f : Fld) : s.vaultDark.rd f = s.rd f := id rfl

/-- Settles O12: each command is one of restart, start of BOOT, or a change of the power state alone. -/
theorem resetsAndBrownOut : Obligations.ResetsAndBrownOut := by
  refine ⟨fun s hup hpf => ?_, fun s hm hp hpf => ?_, fun s hm => ?_, fun s hm hpf => ?_, fun s hm hh => ?_, fun s hm hp => ?_⟩
  · have hnc := Mode.ne_cellar_of_main hup.1
    have hnd := Mode.ne_dormerWatch_of_main hup.1
    refine ⟨_, rfl, ?_⟩
    simp [systemResetOp, hnc, hnd, hpf, hup.2, State.restart, causeSysRst]
  · refine ⟨_, rfl, ?_⟩
    simp [systemResetOp, hm, hp, hpf, causeSysRst]
  · refine ⟨_, rfl, ?_⟩
    simp [systemResetOp, hm]
  · refine ⟨_, rfl, ?_⟩
    simp [systemResetOp, hm, hpf]
  · refine ⟨_, rfl, ?_⟩
    simp [sysResetReturnOp, hm, hh, State.startBoot, causeSysRst]
  · refine ⟨_, rfl, ?_⟩
    have hnc := Mode.ne_cellar_of_main hm
    have e : brownOutOp s = ((s.mainDown.fault Reg.CLK_FAULT_BOD_RESET).wr Reg.CLK_LAST_MODE_FLUSH_INCOMPLETE 1).vaultDark.startBoot causeBod := by
      simp [brownOutOp, hm, hp]
    simp only [e]
    refine ⟨rfl, rfl, ?_, ?_, ?_, ?_, ?_, ?_⟩
    · simp [State.startBoot, hnc]
    · simp [State.startBoot, causeBod, causeSysRst]
    · rw [State.startBoot_rd _ _ (by decide), State.vaultDark_rd, State.rd_wr_ne (by decide), State.fault_rd _ _ (by decide) (by decide)]
    · rw [State.startBoot_rd _ _ (by decide), State.vaultDark_rd, State.rd_wr_same]; rfl
    · simp [State.startBoot, State.rails]
    · simp [State.startBoot, State.rails]

end Sys2Proof.Machine
end

section
/-! Clock faults and temperature (O14, O15): the registers of CLK under a device fault, and what each event leaves. -/

namespace Sys2Proof.Machine

/-- The registers of CLK in which the end of a mode request shows. -/
def modeRequestFields : List Fld := [Reg.CLK_MODE_RESULT_STATUS, Reg.CLK_MODE_RESULT_TARGET, Reg.CLK_MODE_STATUS_IN_TRANSIT]

section
variable {f : Fld} (h : ∀ g ∈ modeRequestFields, f.key ≠ g.key)
include h

theorem State.dropArb_rd_of (s : State) : s.dropArb.rd f = s.rd f := by
  simp only [modeRequestFields, List.forall_mem_cons] at h
  unfold State.dropArb
  split
  · simp only [State.wrEach, State.rd_wr_ne h.1, State.rd_wr_ne h.2.1, State.rd_wr_ne h.2.2.1]
    rfl
  · rfl

theorem State.overtake_rd_of (s : State) : s.overtake.rd f = s.rd f := by
  unfold State.overtake
  split
  · simp only [modeRequestFields, List.forall_mem_cons] at h
    simp only [State.wrEach, State.rd_wr_ne h.1, State.rd_wr_ne h.2.1, State.rd_wr_ne h.2.2.1]
  · exact s.dropArb_rd_of h

/-- A restriction of the fleet leaves the registers of CLK but those of a mode request. -/
theorem State.raiseFleet_rd_clk (b : f.blk = 1) {c : Fld} (hc : f.key ≠ c.key) (s : State) (st : Bool) : (s.raiseFleet st c).rd f = s.rd f := by
  have only {m : Nat} (b2 : m.testBit 2 = false) (b1 : m.testBit 41 = false) : Unseen m fun s => s.rd f := unseen_rd b2 (by rw [b]; exact b1)
  have hclk {g : Fld} (hg : g.blk ≠ 1) : f.key ≠ g.key := Fld.key_ne (by rw [b]; exact Ne.symm hg)
  have tail (u : State) : ((((u.trapFrame st none).changeRecord).tellPeer st none c).modeAfter st).rd f = u.rd f :=
    (State.modeAfter_only (only rfl rfl) _ _).trans <| (State.tellPeer_only (only rfl rfl) _ _ _ _).trans <|
      (State.changeRecord_only (only rfl rfl) _).trans (State.trapFrame_only (only rfl rfl) _ _ _)
  have bump (u : State) (g : Fld) (hg : g.blk ≠ 1) : (u.bump g Reg.TRP_FAULT_CNT_SAT).rd f = u.rd f :=
    State.rd_bump_ne (hclk hg) (hclk (by decide)) (hclk (by decide)) (by rw [b]; decide) u
  have setFleet (u : State) (l : Level) : (u.setFleet l).rd f = u.rd f := State.setFleet_only (only rfl rfl) u l
  refine (tail _).trans ?_
  split
  · rw [bump _ _ (by decide), setFleet, State.refuseArm_only (only rfl rfl) _, State.dropArb_rd_of h, State.rd_wr_ne (hclk (by decide))]
    exact State.rd_wr_ne hc s 1
  · rw [bump _ _ (by decide)]
    split
    · rw [setFleet]
      exact State.rd_wr_ne hc s 1
    · exact State.rd_wr_ne hc s 1

theorem State.deviceFault_rd_clk (b : f.blk = 1) (s : State) : s.deviceFault.rd f = s.rd f := by
  have only {m : Nat} (b2 : m.testBit 2 = false) (b1 : m.testBit 41 = false) : Unseen m fun s => s.rd f := unseen_rd b2 (by rw [b]; exact b1)
  have live (u : State) : u.stopLive.rd f = u.rd f := State.stopLive_only (only rfl rfl) u
  have open_ : s.overtake.stopLive.reopen.rd f = s.rd f := by
    rw [State.reopen_only (π := fun s => s.rd f) (only rfl rfl), live, State.overtake_rd_of h]
  unfold State.deviceFault
  dsimp only
  split
  · exact live s
  split
  · exact open_
  · exact (State.enterMode_only (only rfl rfl) _ _).trans open_

end

@[simp] theorem State.raiseFleet_pwr (s : State) (st : Bool) (c : Fld) (hc : wrOk 0xa1d08e0092740ee2 c = true) : (s.raiseFleet st c).pwr = s.pwr :=
  State.raiseFleet_only (π := State.pwr) (unseen_pwr rfl) rfl s st c hc

/-! ## A STOP of the Trapdoor with a device fault -/

/-- What STOP_CLOCK and THERM_CRIT share: the fleet in STOP, latched with its cause, and FAULT_SAFE outside PFAIL handling. -/
theorem State.stopFault_eq (s : State) {c : Fld} (hb : c.blk = 0xC) (hc : wrOk 0xa1d08e0092740ee2 c = true) (hw : 1 % 2 ^ c.w = 1)
    (hk : ∀ g ∈ [Reg.TRP_CLEAR_REFUSED, Reg.TRP_FAULT_CNT_SAT, Reg.TRP_FAULT_CLEAR_REFUSED, Reg.TRP_STATUS_ARMED, Reg.TRP_STOPS, Reg.TRP_HOLDS],
      c.key ≠ g.key) :
    (s.pwr.pfailLatched = false → (s.raiseFleet true c).deviceFault.mode = .faultSafe) ∧
    (s.raiseFleet true c).deviceFault.trp.fleet = .stop ∧ (s.raiseFleet true c).deviceFault.trp.latch = true ∧
    (s.raiseFleet true c).deviceFault.rd c = 1 := by
  simp only [List.forall_mem_cons] at hk
  obtain ⟨h1, h2, h3, h4, h5, h6, -⟩ := hk
  refine ⟨fun h => (State.deviceFault_mode (by rw [State.raiseFleet_pwr _ _ _ hc, h])).1, ?_, ?_, ?_⟩
  · rw [State.deviceFault_trp, (s.raiseFleet_stop c).1]
  · rw [State.deviceFault_trp, (s.raiseFleet_stop c).2]
  · rw [State.deviceFault_rd hb, State.raiseFleet_cause hb s true h1 h2 h3 h4 h5 h6, hw]

/-- A clock fault: the fleet in STOP with cause CLOCK; every register of CLK but those of a mode request as before. -/
theorem State.clockFault_eq (s : State) :
    (s.pwr.pfailLatched = false → s.clockFault.mode = .faultSafe) ∧ s.clockFault.trp.fleet = .stop ∧ s.clockFault.trp.latch = true ∧
    s.clockFault.rd Reg.TRP_STOP_CAUSE_CLOCK = 1 := by
  unfold State.clockFault
  exact s.stopFault_eq (c := Reg.TRP_STOP_CAUSE_CLOCK) (by decide) (by decide) (by decide) (by decide)

theorem State.clockFault_rd {f : Fld} (h : ∀ g ∈ modeRequestFields, f.key ≠ g.key) (b : f.blk = 1) (s : State) : s.clockFault.rd f = s.rd f :=
  (State.deviceFault_rd_clk h b _).trans (State.raiseFleet_rd_clk h b (Fld.key_ne (by rw [b]; decide)) s true)

/-! ## The ADC and the links -/

/-- The ADC's loss stops the measurements: PLL_ADC is out of lock. -/
theorem State.adcLost_eq (s : State) (h : s.rd Reg.CLK_SRC_STATUS_PLL_ADC_LOCK = 0) :
    s.adcLost.rd Reg.RNG_STATUS_ADC_A_OK = 0 ∧ s.adcLost.rd Reg.RNG_STATUS_ADC_B_OK = 0 ∧ s.adcLost.rd Reg.RNG_STATUS_MEAS_RUNNING = 0 ∧
    s.adcLost.rd Reg.RNG_FAULT_ADC_GAP = 1 := by
  unfold State.adcLost State.showMeas
  dsimp only
  refine ⟨?_, ?_, ?_, ?_⟩
  · rw [State.rd_wr_ne (by decide), State.rd_fault_ne (by decide) (by decide), State.rd_wr_ne (by decide), State.rd_wr_same, Nat.zero_mod]
  · rw [State.rd_wr_ne (by decide), State.rd_fault_ne (by decide) (by decide), State.rd_wr_same, Nat.zero_mod]
  · rw [State.rd_wr_same, State.on, State.rd_fault_ne (by decide) (by decide), State.rd_wr_ne (by decide), State.rd_wr_ne (by decide),
      State.rd_mk, State.read_fld, h]
    rfl
  · rw [State.rd_wr_ne (by decide), State.fault_rd _ _ (by decide) (by decide)]

theorem State.toRejoin_link (s : State) : s.toRejoin.rd Reg.FJR_STATUS_LINK = s.rd Reg.FJR_STATUS_LINK := by
  have ha : s.abandonEpoch.rd Reg.FJR_STATUS_LINK = s.rd Reg.FJR_STATUS_LINK :=
    State.rd_of_only Reg.FJR_STATUS_LINK (State.abandonEpoch_only · s) (by decide)
  have hb : (if s.abandonEpoch.mode = .rejoin then s.abandonEpoch else s.abandonEpoch.enterMode .rejoin).rd Reg.FJR_STATUS_LINK
      = s.rd Reg.FJR_STATUS_LINK := by
    split
    · exact ha
    · exact (State.rd_of_only Reg.FJR_STATUS_LINK (State.enterMode_only · _ _) (by decide)).trans ha
  unfold State.toRejoin
  dsimp only
  split
  · exact ha
  · rw [State.rd_wr_ne (by decide), State.rd_wr_ne (by decide)]
    exact hb

/-- After LINK_DOWN the link is down. -/
theorem linkDownOp_linkUp (s : State) : (linkDownOp s).linkUp = false := by
  have hlink {t : State} (h : t.rd Reg.FJR_STATUS_LINK = 0) : t.linkUp = false := by simp [State.linkUp, h]
  have ha (u : State) (hu : u.rd Reg.FJR_STATUS_LINK = 0) : ((u.wr Reg.FJR_STATUS_PAIRED 0).fjrBump Reg.FJR_LINK_LOSSES).loseTwin.rd Reg.FJR_STATUS_LINK = 0 := by
    rw [State.rd_of_only Reg.FJR_STATUS_LINK (State.loseTwin_only · _) (by decide)]
    rw [State.fjrBump, State.rd_bump_ne (by decide) (by decide) (by decide) (by decide), State.rd_wr_ne (by decide), hu]
  have ha := ha (s.wr Reg.FJR_STATUS_LINK 0) (State.rd_wr_same _ _ _)
  unfold linkDownOp
  dsimp only
  split
  · rename_i h; simpa using h
  have hr {t : State} (h : t.rd Reg.FJR_STATUS_LINK = 0) : t.toRejoin.linkUp = false := hlink (t.toRejoin_link.trans h)
  repeat' split
  · exact hr ha
  · exact hlink ha
  · exact hr ha
  · exact hlink ((State.rd_fault_ne (by decide) (by decide) _).trans ha)
  · refine hlink ((State.rd_of_only Reg.FJR_STATUS_LINK (State.abandonEpoch_only · _) (by decide)).trans ?_)
    exact (State.rd_fault_ne (by decide) (by decide) _).trans ha
  · exact hlink ha

/-- An epoch that is abandoned leaves the links of the LANs. -/
theorem State.abandonEpoch_lanUp (s : State) : s.abandonEpoch.zyp.lanUp = s.zyp.lanUp := by
  have hj (u : State) : (u.journalEpoch false).zyp = u.zyp := State.journalEpoch_only (unseen_zyp rfl) u false
  have hl (u : State) : u.ldrAbandon.zyp = u.zyp := State.ldrAbandon_only (unseen_zyp rfl) u
  unfold State.abandonEpoch
  dsimp only
  split
  · rfl
  · show ((ite _ _ _ : State).ldrAbandon.journalEpoch false).zyp.lanUp = _
    rw [hj, hl]
    split <;> rfl

theorem State.toRejoin_lanUp (s : State) : s.toRejoin.zyp.lanUp = s.zyp.lanUp := by
  have he (u : State) : (u.enterMode .rejoin).zyp = u.zyp := State.enterMode_only (unseen_zyp rfl) u _
  rw [← s.abandonEpoch_lanUp]
  unfold State.toRejoin
  dsimp only
  split
  · rfl
  · simp only [State.wr_zyp]
    split
    · rfl
    · rw [he]

theorem linkDownOp_lanUp (s : State) : (linkDownOp s).zyp.lanUp = s.zyp.lanUp := by
  have ha : (((s.wr Reg.FJR_STATUS_LINK 0).wr Reg.FJR_STATUS_PAIRED 0).fjrBump Reg.FJR_LINK_LOSSES).loseTwin.zyp = s.zyp := by
    rw [State.loseTwin_only (π := State.zyp) (unseen_zyp rfl), State.fjrBump, State.bump_zyp]
    rfl
  unfold linkDownOp
  dsimp only
  generalize ((((s.wr Reg.FJR_STATUS_LINK 0).wr Reg.FJR_STATUS_PAIRED 0).fjrBump Reg.FJR_LINK_LOSSES).loseTwin : State) = a at ha ⊢
  repeat' split
  · rfl
  · rw [State.toRejoin_lanUp, ha]
  · rw [ha]
  · rw [State.toRejoin_lanUp, ha]
  · rw [State.fault_zyp, ha]
  · rw [State.abandonEpoch_lanUp, State.fault_zyp, ha]
  · rw [ha]

/-- PLL_SERDES out of lock: no link is left. -/
theorem State.serdesLost_eq (s : State) : s.serdesLost.zyp.lanUp = [] ∧ s.serdesLost.linkUp = false ∧
    (∀ f : Fld, f.blk = 1 → f.key ≠ Reg.CLK_SRC_STATUS_PLL_SERDES_LOCK.key → s.serdesLost.rd f = s.rd f) ∧
    s.serdesLost.rd Reg.CLK_SRC_STATUS_PLL_SERDES_LOCK = 0 := by
  have clk (u : State) (f : Fld) (b : f.blk = 1) : (linkDownOp u).rd f = u.rd f := State.rd_of_only f (linkDownOp_only · u) (by rw [b]; decide)
  exact ⟨linkDownOp_lanUp _, linkDownOp_linkUp _, fun f b h => (clk _ f b).trans (State.rd_wr_ne h s 0),
    (clk _ _ (by decide)).trans (State.rd_wr_same s _ 0)⟩

theorem State.adcLost_rd_clk (s : State) {f : Fld} (b : f.blk = 1) : s.adcLost.rd f = s.rd f :=
  State.rd_of_only f (State.adcLost_only · s) (by rw [b]; decide)

/-- The three PLLs and what follows REFCLK's loss, in the registers of CLK. -/
theorem refclkLostOp_rd (s : State) {f : Fld} (b : f.blk = 1) (h : ∀ g ∈ modeRequestFields, f.key ≠ g.key)
    (hs : f.key ≠ Reg.CLK_SRC_STATUS_PLL_SERDES_LOCK.key) (hf : f.key ≠ Reg.CLK_FAULT_PLL_ADC_UNLOCK.key)
    (hg : f.key ≠ Reg.CLK_FAULT_PLL_SERDES_UNLOCK.key) :
    (refclkLostOp s).rd f = (((s.wrEach [(Reg.CLK_SRC_STATUS_REFCLK_PRESENT, 0), (Reg.CLK_SRC_STATUS_PLL_CORE_LOCK, 0),
      (Reg.CLK_SRC_STATUS_PLL_ADC_LOCK, 0), (Reg.CLK_SRC_STATUS_CORE_ON_RC4M, 1)]).fault Reg.CLK_FAULT_REFCLK_LOST).fault
      Reg.CLK_FAULT_PLL_CORE_UNLOCK).rd f := by
  have msix : f.key ≠ (Reg.MSIX_PENDING 0).key := Fld.key_ne (by rw [b]; decide)
  unfold refclkLostOp
  rw [State.clockFault_rd h b, State.rd_of_only f (State.setTq_only · _ _) (by rw [b]; decide), (State.serdesLost_eq _).2.2.1 f b hs,
    State.adcLost_rd_clk _ b, State.rd_fault_ne hg msix, State.rd_fault_ne hf msix]

theorem refclkLostOp_serdes (s : State) : (refclkLostOp s).rd Reg.CLK_SRC_STATUS_PLL_SERDES_LOCK = 0 := by
  unfold refclkLostOp
  rw [State.clockFault_rd (by decide) (by decide), State.rd_of_only _ (State.setTq_only · _ _) (by decide)]
  exact (State.serdesLost_eq _).2.2.2

theorem refclkLostOp_stop (s : State) :
    (s.pwr.pfailLatched = false → (refclkLostOp s).mode = .faultSafe) ∧ (refclkLostOp s).trp.fleet = .stop ∧ (refclkLostOp s).trp.latch = true ∧
    (refclkLostOp s).rd Reg.TRP_STOP_CAUSE_CLOCK = 1 := by
  have hp (u : State) : (u.adcLost.serdesLost.setTq 5).pwr = u.pwr := by
    rw [State.setTq_only (π := State.pwr) (unseen_pwr rfl), State.serdesLost_only (π := State.pwr) (unseen_pwr rfl),
      State.adcLost_only (π := State.pwr) (unseen_pwr rfl)]
  unfold refclkLostOp
  dsimp only
  refine ⟨fun h => (State.clockFault_eq _).1 ?_, (State.clockFault_eq _).2⟩
  rw [hp]
  simpa [State.wrEach] using h

theorem pllCoreUnlockOp_stop (s : State) :
    (s.pwr.pfailLatched = false → (pllCoreUnlockOp s).mode = .faultSafe) ∧ (pllCoreUnlockOp s).trp.fleet = .stop ∧
    (pllCoreUnlockOp s).trp.latch = true ∧ (pllCoreUnlockOp s).rd Reg.TRP_STOP_CAUSE_CLOCK = 1 := by
  unfold pllCoreUnlockOp
  dsimp only
  exact ⟨fun h => (State.clockFault_eq _).1 (by simpa [State.wrEach] using h), (State.clockFault_eq _).2⟩

theorem pllCoreUnlockOp_rd (s : State) {f : Fld} (b : f.blk = 1) (h : ∀ g ∈ modeRequestFields, f.key ≠ g.key) :
    (pllCoreUnlockOp s).rd f = ((s.wrEach [(Reg.CLK_SRC_STATUS_PLL_CORE_LOCK, 0), (Reg.CLK_SRC_STATUS_CORE_ON_RC4M, 1)]).fault
      Reg.CLK_FAULT_PLL_CORE_UNLOCK).rd f := State.clockFault_rd h b _

/-- Settles O14: each event is a list of register writes and faults, and the response to it. -/
theorem clockFaults : Obligations.ClockFaults := by
  refine ⟨fun s hm => ?_, fun s hm => ?_, fun s hup => ?_, fun s hup => ?_, fun s hup => ?_, fun s hup => ?_, fun s hup => ?_, fun s hup => ?_,
    fun s hup => ?_, fun s v hup => ?_⟩
  · refine ⟨_, rfl, ?_⟩
    simp only [xtal32LostOp, if_neg hm, State.wrEach]
    refine ⟨?_, ?_, ?_, State.fault_rd _ _ (by decide) (by decide), by simp, by simp⟩ <;>
      simp (disch := decide) [State.rd_fault_ne, State.rd_wr_ne]
  · refine ⟨_, rfl, ?_⟩
    simp only [xtal32RestoredOp, if_neg hm, State.wrEach]
    refine ⟨?_, ?_, rfl⟩ <;> simp (disch := decide) [State.rd_wr_ne]
  · refine Gives.of_main hup rfl ?_
    obtain ⟨h1, h2, h3, h4⟩ := refclkLostOp_stop s
    refine ⟨h1, h2, h3, h4, ?_, ?_, ?_, refclkLostOp_serdes s, ?_, ?_, ?_⟩ <;>
      rw [refclkLostOp_rd s (by decide) (by decide) (by decide) (by decide) (by decide)] <;>
      simp (disch := decide) [State.rd_fault_ne, State.fault_rd, State.wrEach, State.rd_wr_ne]
  · refine Gives.of_main hup rfl ?_
    obtain ⟨h1, h2, h3, h4⟩ := pllCoreUnlockOp_stop s
    refine ⟨h1, h2, h3, h4, ?_, ?_, ?_⟩ <;> rw [pllCoreUnlockOp_rd s (by decide) (by decide)] <;>
      simp (disch := decide) [State.rd_fault_ne, State.fault_rd, State.wrEach, State.rd_wr_ne]
  · refine Gives.of_main hup rfl ?_
    obtain ⟨h1, h2, h3, h4⟩ := State.adcLost_eq ((s.wr Reg.CLK_SRC_STATUS_PLL_ADC_LOCK 0).fault Reg.CLK_FAULT_PLL_ADC_UNLOCK)
      (by rw [State.rd_fault_ne (by decide) (by decide), State.rd_wr_same, Nat.zero_mod])
    refine ⟨?_, ?_, h1, h2, h3, h4, ?_, ?_⟩
    · rw [pllAdcUnlockOp, State.adcLost_rd_clk _ (by decide), State.rd_fault_ne (by decide) (by decide), State.rd_wr_same, Nat.zero_mod]
    · rw [pllAdcUnlockOp, State.adcLost_rd_clk _ (by decide), State.fault_rd _ _ (by decide) (by decide)]
    · exact pllAdcUnlockOp_only (π := State.mode) (unseen_mode rfl) s
    · exact pllAdcUnlockOp_only (π := State.trp) (unseen_trp rfl) s
  · refine Gives.of_main hup rfl ?_
    obtain ⟨h1, h2, h3, h4⟩ := State.serdesLost_eq (s.fault Reg.CLK_FAULT_PLL_SERDES_UNLOCK)
    exact ⟨h4, (h3 _ (by decide) (by decide)).trans (State.fault_rd _ _ (by decide) (by decide)), h1, h2⟩
  · refine Gives.of_main hup rfl ⟨?_, ?_, ?_, rfl⟩ <;> simp (disch := decide) [pllRelockOp, State.rd_wr_ne]
  · refine Gives.of_main hup rfl ⟨?_, ?_, ?_, ?_, ?_, rfl⟩ <;>
      simp (disch := decide) [pllRelockOp, State.adcRuns, State.showMeas, State.wrEach, State.rd_wr_ne, State.on]
    exact Nat.mod_eq_of_lt (by unfold bit; split <;> decide)
  · refine Gives.of_main hup rfl ⟨?_, ?_, rfl⟩ <;> simp (disch := decide) [pllRelockOp, State.rd_wr_ne]
  · refine Gives.of_main hup rfl ?_
    have hcap : min 13 (bits v.toNat 0 4) < 2 ^ 4 := by omega
    have hdrive : min 1 (bits v.toNat 4 2) < 2 ^ 2 := by omega
    have hby : bits v.toNat 6 1 < 2 ^ 1 := Nat.mod_lt _ (by decide)
    simp only [xtal32CfgWriteOp, State.wrEach]
    refine ⟨?_, ?_, ?_, trivial, rfl⟩
    · rw [State.rd_mk, State.read_fld, State.rd_wr_ne (by decide), State.rd_wr_ne (by decide), State.rd_wr_same]
      exact Nat.mod_eq_of_lt hcap
    · rw [State.rd_mk, State.read_fld, State.rd_wr_ne (by decide), State.rd_wr_same]
      exact Nat.mod_eq_of_lt hdrive
    · rw [State.rd_mk, State.read_fld, State.rd_wr_same]
      exact Nat.mod_eq_of_lt hby

/-! ## Temperature -/

/-- A reading leaves every register but TJ_NOW and TJ_MAX. -/
theorem State.temperature_rd_ne (s : State) (tj : Nat) {f : Fld} (h : f.key ≠ Reg.CLK_TEMP_TJ_NOW.key) (h' : f.key ≠ Reg.CLK_TEMP_TJ_MAX.key) :
    (s.temperature tj).rd f = s.rd f := by
  unfold State.temperature
  dsimp only
  split
  · rw [State.rd_wr_ne h', State.rd_wr_ne h]
  · exact State.rd_wr_ne h _ _

theorem State.temperature_now (s : State) (tj : BitVec 16) : (s.temperature tj.toNat).rd Reg.CLK_TEMP_TJ_NOW = tj.toNat := by
  have hlt : tj.toNat % 2 ^ Reg.CLK_TEMP_TJ_NOW.w = tj.toNat := Nat.mod_eq_of_lt tj.isLt
  unfold State.temperature
  dsimp only
  split
  · rw [State.rd_wr_ne (by decide), State.rd_wr_same, hlt]
  · rw [State.rd_wr_same, hlt]

@[simp] theorem State.temperature_pwr (s : State) (tj : Nat) : (s.temperature tj).pwr = s.pwr := State.temperature_only (unseen_pwr rfl) s tj
@[simp] theorem State.temperature_mode (s : State) (tj : Nat) : (s.temperature tj).mode = s.mode := State.temperature_only (unseen_mode rfl) s tj
@[simp] theorem State.temperature_trp (s : State) (tj : Nat) : (s.temperature tj).trp = s.trp := State.temperature_only (unseen_trp rfl) s tj
@[simp] theorem State.temperature_drm (s : State) (tj : Nat) : (s.temperature tj).drm = s.drm := State.temperature_only (unseen_drm rfl) s tj
@[simp] theorem State.temperature_warnLevel (s : State) (tj : Nat) : (s.temperature tj).warnLevel = s.warnLevel := by
  rw [State.warnLevel, State.temperature_rd_ne s tj (by decide) (by decide), State.warnLevel]

@[simp] theorem State.toWatch_mode (s : State) (e : WatchEntry) : (s.toWatch e).mode = .dormerWatch := rfl

theorem State.toWatch_pwr (s : State) (e : WatchEntry) : (s.toWatch e).pwr =
    { s.pwr with mainPowered := false, pdown := none, lanOpen := false, railEnMain := false, porDone := false, entry := e } := by
  simp [State.toWatch]

@[simp] theorem State.toWatch_drm (s : State) (e : WatchEntry) : (s.toWatch e).drm = s.drm := by
  simp [State.toWatch]

/-! ## Waking -/

/-- A field of one bit is 1 where the number has that bit. -/
theorem bits_one_iff {v lo : Nat} : bits v lo 1 = 1 ↔ v.testBit lo = true := by
  simp [bits, Nat.testBit_eq_decide_div_mod_eq]

theorem State.rd_wrAll_ne {f : Fld} (v : Nat) (fs : List Fld) (h : ∀ g ∈ fs, f.key ≠ g.key) (s : State) : (s.wrAll v fs).rd f = s.rd f := by
  induction fs generalizing s with
  | nil => rfl
  | cons g t ih => rw [State.wrAll, ih (fun q hq => h q (List.mem_cons_of_mem _ hq)), State.rd_wr_ne (h g List.mem_cons_self)]

theorem State.rd_wrAll_mem {f : Fld} (v : Nat) (fs : List Fld) (h : f ∈ fs) (hkey : ∀ g ∈ fs, g = f ∨ f.key ≠ g.key) (s : State) :
    (s.wrAll v fs).rd f = v % 2 ^ f.w := by
  induction fs generalizing s with
  | nil => cases h
  | cons g t ih =>
    rw [State.wrAll]
    by_cases ht : f ∈ t
    · exact ih ht (fun q hq => hkey q (List.mem_cons_of_mem _ hq)) _
    · obtain rfl : f = g := (List.mem_cons.mp h).resolve_right ht
      rw [State.rd_wrAll_ne v t (fun q hq => (hkey q (List.mem_cons_of_mem _ hq)).resolve_left (by rintro rfl; exact ht hq)), State.rd_wr_same]

/-- A wake cause that a source names reads 1 once recorded. -/
theorem State.recordWake_rd (s : State) (sources : Nat) {f : Fld} (hf : f ∈ wakeCauses) (hb : bits sources f.lo 1 = 1) :
    (s.recordWake sources).rd f = 1 := by
  have hw : ∀ g ∈ wakeCauses, 1 % 2 ^ g.w = 1 := by decide
  have hkey : ∀ g ∈ wakeCauses, ∀ k ∈ wakeCauses, k = g ∨ g.key ≠ k.key := by decide
  refine (State.rd_wrAll_mem 1 _ (List.mem_filter.mpr ⟨hf, by simpa using hb⟩) (fun g hg => ?_) s).trans (hw f hf)
  exact hkey f hf g (List.mem_filter.mp hg).1

@[simp] theorem State.recordWake_pwr (s : State) (k : Nat) : (s.recordWake k).pwr = s.pwr := by simp [State.recordWake]
@[simp] theorem State.recordWake_mode (s : State) (k : Nat) : (s.recordWake k).mode = s.mode := by simp [State.recordWake]

theorem State.startBoot_pwr (s : State) (c : Nat) : (s.startBoot c).pwr =
    { s.pwr with railEnAon := true, railEnMain := s.mode != .cellar, railAttempts := bit (s.mode != .cellar), porDone := false,
                 mainPowered := false, wakeLatched := 0, entry := .none, aonCool := false, sysResetHeld := false, pfailLatched := false,
                 pdown := none, nextCause := s.pwr.nextCause ||| c ||| (if s.pwr.sysResetHeld then causeSysRst else 0) } := rfl

@[simp] theorem State.startBoot_mode (s : State) (c : Nat) : (s.startBoot c).mode = .boot := rfl

/-- THERMAL_RECOVERY in DORMER_WATCH after a thermal cut. -/
theorem thermalRecoveryOp_eq {s : State} (hm : s.mode = .dormerWatch) (he : s.pwr.entry = .thermCut) :
    thermalRecoveryOp s =
      (if s.on Reg.CLK_WAKE_CFG_THERM_AUTO = false ∧ s.pwr.wakeLatched = 0 then { s with pwr := { s.pwr with aonCool := true } }
        else (({ s with pwr := { s.pwr with aonCool := true } } : State).recordWake
            (s.pwr.wakeLatched ||| (if s.on Reg.CLK_WAKE_CFG_THERM_AUTO then 32 else 0))).startBoot
          ((if s.on Reg.CLK_WAKE_CFG_THERM_AUTO then causeThermal else 0) + (if s.pwr.wakeLatched = 0 then 0 else causeWake))) := by
  simp only [thermalRecoveryOp, hm, he]
  simp [State.on, State.rd_mk, State.read_fld]

/-- Settles O15: each event is a reading of the sensor, and the response to it. -/
theorem thermalEvents : Obligations.ThermalEvents := by
  refine ⟨fun s tj hup hw hlev => ?_, fun s tj hup hlev => ?_, fun s tj hup hlev => ?_, fun s tj hm hlev => ?_, fun s hm he hw => ?_,
    fun s hm he ha hw => ?_⟩
  · refine Gives.of_main hup rfl ?_
    have e : thermWarnOp tj.toNat s = (({ s.temperature tj.toNat with pwr := { s.pwr with warnCond := true } } : State).fault
        Reg.CLK_FAULT_THERM_WARN).fault Reg.GLB_FAULT_THERM_WARN := by
      simp [thermWarnOp, hw, hlev]
    simp only [e]
    refine ⟨?_, ?_, ?_, by simp, by simp, by simp⟩
    · rw [State.rd_fault_ne (by decide) (by decide), State.rd_fault_ne (by decide) (by decide), State.rd_mk, State.read_fld, State.temperature_now]
    · rw [State.rd_fault_ne (by decide) (by decide), State.fault_rd _ _ (by decide) (by decide)]
    · exact State.fault_rd _ _ (by decide) (by decide)
  · refine Gives.of_main hup rfl ?_
    simp only [thermWarnClearOp, State.temperature_warnLevel, if_pos hlev]
    refine ⟨?_, trivial, s.temperature_mode _, s.temperature_trp _⟩
    rw [State.rd_mk, State.read_fld, State.temperature_now]
  · refine Gives.of_main hup rfl ?_
    simp only [thermCritOp, ge_iff_le, if_pos hlev]
    obtain ⟨h1, h2, h3, h4⟩ := ((s.temperature tj.toNat).fault Reg.CLK_FAULT_THERM_CRIT).stopFault_eq (c := Reg.TRP_STOP_CAUSE_THERM)
      (by decide) (by decide) (by decide) (by decide)
    refine ⟨fun h => h1 (by simpa using h), h2, h3, h4, ?_⟩
    rw [State.deviceFault_rd_clk (by decide) (by decide), State.raiseFleet_rd_clk (by decide) (by decide) (by decide),
      State.fault_rd _ _ (by decide) (by decide)]
  · refine ⟨_, rfl, ?_⟩
    have e : thermCutOp tj.toNat s = { ((s.temperature tj.toNat).fault Reg.CLK_FAULT_THERM_CUT).vaultDark.toWatch .thermCut with
        pwr := { (((s.temperature tj.toNat).fault Reg.CLK_FAULT_THERM_CUT).vaultDark.toWatch .thermCut).pwr with pfailLatched := false } } := by
      simp [thermCutOp, hm, hlev]
    simp only [e]
    refine ⟨rfl, ?_, ?_, ?_, ?_, ?_⟩
    · rw [State.toWatch_pwr]
    · rw [State.toWatch_pwr]
    · rw [State.toWatch_pwr]
    · rw [State.rd_mk, State.read_fld, State.toWatch_rd _ _ (by decide), State.mainDown_rd _ (by decide), State.vaultDark_rd,
        State.fault_rd _ _ (by decide) (by decide)]
    · simp
  · refine ⟨_, rfl, ?_⟩
    have hne : ¬ (s.on Reg.CLK_WAKE_CFG_THERM_AUTO = false ∧ s.pwr.wakeLatched = 0) := by
      rintro ⟨h1, h2⟩; rcases hw with h | h
      · rw [h1] at h; cases h
      · exact h h2
    simp only [thermalRecoveryOp_eq hm he, if_neg hne]
    refine ⟨rfl, ?_, ?_, fun ha => ?_⟩
    · simp [State.startBoot_pwr, hm]
    · simp [State.startBoot_pwr, causeThermal, causeWake, causeSysRst]
    · rw [State.startBoot_rd _ _ (by decide), State.recordWake_rd _ _ (by decide)]
      have hlo : Reg.CLK_WAKE_CAUSE_THERM_CLEAR.lo = 5 := rfl
      rw [if_pos ha, hlo, bits_one_iff, Nat.testBit_or]
      simp only [show Nat.testBit 32 5 = true from rfl, Bool.or_true]
  · refine ⟨_, rfl, ?_⟩
    simp only [thermalRecoveryOp_eq hm he, if_pos (And.intro ha hw)]

end Sys2Proof.Machine
end

section
/-! The GLOBAL group, IDENT and uncorrectable memory words (O26): each is one use of a shared operation of commits, commands and counters. -/

namespace Sys2Proof.Machine

/-- The bound of a saturating sum is a value of its field. -/
theorem min_top_mod (n w : Nat) : min n (2 ^ w - 1) % 2 ^ w = min n (2 ^ w - 1) :=
  Nat.mod_eq_of_lt (lt_of_le_of_lt (Nat.min_le_right ..) (Nat.sub_lt (Nat.two_pow_pos w) Nat.one_pos))

/-- A counter that stops at its end reads its sum there or below. -/
theorem State.rd_stopBy_same (s : State) (f : Fld) (k : Nat) : (s.stopBy f k).rd f = min (s.rd f + k) (2 ^ f.w - 1) := by
  rw [State.stopBy, State.rd_wr_same, min_top_mod]

/-- With no check failing, the verdict is DONE. -/
theorem firstFail_eq_done {l : List (Bool × Nat)} (h : ∀ p ∈ l, p.1 = false) : firstFail l = St.done := by
  induction l with
  | nil => rfl
  | cons p t ih =>
    obtain ⟨hp, ht⟩ := List.forall_mem_cons.mp h
    rw [firstFail, hp]
    exact ih ht

/-- The checks of a GLOBAL commit, as GLOBAL_COMMIT makes them. -/
def State.globalVerdict (s : State) : Nat :=
  firstFail
    [(s.sh Reg.GLB_CFG_EPOCH_LEN == 3, St.badFormat), (s.sh Reg.GLB_CFG_FED_ID == broadcastId, St.badFormat),
     (s.sh Reg.GLB_EVENT_RING_EN == 1 && !(s.on (Reg.HRE_RING_CFG_ENABLE (s.sh Reg.GLB_EVENT_RING_RING)) &&
       s.ringType (s.sh Reg.GLB_EVENT_RING_RING) == 4), St.badFormat),
     (decide (s.slotMs % epochLength (s.sh Reg.GLB_CFG_EPOCH_LEN) ≠ 0 ∨
       s.rd Reg.GOV_CFG_LOOP_MS % epochLength (s.sh Reg.GLB_CFG_EPOCH_LEN) ≠ 0), St.badFormat),
     ((s.sh Reg.GLB_CFG_EPOCH_LEN != s.rd Reg.GLB_CFG_EPOCH_LEN || s.sh Reg.GLB_CFG_FED_ID != s.rd Reg.GLB_CFG_FED_ID) &&
       (s.mode.fleet || s.follows), St.refusedMode)]

/-- A group inside the field rules, that moves nothing where the mode bars it, passes the checks. -/
theorem State.globalVerdict_done (s : State) (hbad : s.sh Reg.GLB_CFG_EPOCH_LEN ≠ 3 ∧ s.sh Reg.GLB_CFG_FED_ID ≠ broadcastId)
    (hring : s.sh Reg.GLB_EVENT_RING_EN ≠ 1 ∨ s.on (Reg.HRE_RING_CFG_ENABLE (s.sh Reg.GLB_EVENT_RING_RING)) = true ∧
      s.ringType (s.sh Reg.GLB_EVENT_RING_RING) = 4)
    (hdiv : s.slotMs % epochLength (s.sh Reg.GLB_CFG_EPOCH_LEN) = 0 ∧
      s.rd Reg.GOV_CFG_LOOP_MS % epochLength (s.sh Reg.GLB_CFG_EPOCH_LEN) = 0)
    (hmode : s.sh Reg.GLB_CFG_EPOCH_LEN ≠ s.rd Reg.GLB_CFG_EPOCH_LEN ∨ s.sh Reg.GLB_CFG_FED_ID ≠ s.rd Reg.GLB_CFG_FED_ID →
      s.mode.fleet = false ∧ s.follows = false) : s.globalVerdict = St.done := by
  have hr : (s.sh Reg.GLB_EVENT_RING_EN == 1 && !(s.on (Reg.HRE_RING_CFG_ENABLE (s.sh Reg.GLB_EVENT_RING_RING)) &&
      s.ringType (s.sh Reg.GLB_EVENT_RING_RING) == 4)) = false := by
    rcases hring with h | ⟨h1, h2⟩
    · simp [h]
    · simp [h1, h2]
  have hm : ((s.sh Reg.GLB_CFG_EPOCH_LEN != s.rd Reg.GLB_CFG_EPOCH_LEN || s.sh Reg.GLB_CFG_FED_ID != s.rd Reg.GLB_CFG_FED_ID) &&
      (s.mode.fleet || s.follows)) = false := by
    by_cases h : s.sh Reg.GLB_CFG_EPOCH_LEN ≠ s.rd Reg.GLB_CFG_EPOCH_LEN ∨ s.sh Reg.GLB_CFG_FED_ID ≠ s.rd Reg.GLB_CFG_FED_ID
    · simp [hmode h]
    · simp only [not_or, not_not] at h
      simp [h]
  refine firstFail_eq_done ?_
  simp only [List.forall_mem_cons, hr, hm, hbad, hdiv, beq_eq_false_iff_ne, ne_eq, not_false_eq_true, not_true_eq_false, or_self, decide_false,
    List.not_mem_nil, false_implies, implies_true, and_self]

theorem globalCommitOp_eq {s : State} (hp : s.isPending Reg.GLB_COMMIT_RESULT = false) (hv : s.globalVerdict = St.done) :
    globalCommitOp s = if s.sh Reg.GLB_CFG_EPOCH_LEN = s.rd Reg.GLB_CFG_EPOCH_LEN
      then s.commit Reg.GLB_COMMIT_RESULT (Reg.GLB_CFG_EPOCH_LEN :: globalRest) St.done
      else (s.commit Reg.GLB_COMMIT_RESULT globalRest St.done).setPending Reg.GLB_COMMIT_RESULT := by
  unfold State.globalVerdict at hv
  simp only [globalCommitOp, hp, hv]
  by_cases h : s.sh Reg.GLB_CFG_EPOCH_LEN = s.rd Reg.GLB_CFG_EPOCH_LEN <;> simp [h]

/-- Settles O26: the checks of the group pass, the opcode is accepted, and the word's record is drawn. -/
theorem globalAndMemory : Obligations.GlobalAndMemory := by
  refine ⟨fun s hup hp heq hbad hmode hring hdiv => ?_, fun s hup hp hne hbad hmode hring hdiv => ?_, fun s c hup hacc hlen => ?_,
    fun s c hup hacc hlen => ?_, fun s a hup => ?_⟩
  · refine Gives.of_main hup rfl ?_
    rw [globalCommitOp_eq hp (s.globalVerdict_done hbad hring hdiv fun h => hmode.resolve_left (h.resolve_left (not_not_intro heq))),
      if_pos heq]
    rfl
  · refine Gives.of_main hup rfl ?_
    rw [globalCommitOp_eq hp (s.globalVerdict_done hbad hring hdiv fun _ => hmode), if_neg hne]
    rfl
  · exact Gives.of_main hup rfl (identOp_of_length_zero hacc hlen)
  · refine Gives.of_main hup rfl ?_
    rw [identOp, State.hostCmd_accepts hacc, if_pos hlen]
  · refine Gives.of_main hup rfl ?_
    refine ⟨?_, ?_, _, rfl⟩
    · rw [memUncorrectableOp, State.memUncorr, State.rd_of_only Reg.MEM_LAST_UNCORR (State.send_only · ..) (by decide)]
      exact (State.rd_wr_same ..).trans (Nat.mod_eq_of_lt a.isLt)
    · rw [memUncorrectableOp, State.memUncorr, State.rd_of_only Reg.MEM_ECC_UNCORR (State.send_only · ..) (by decide)]
      exact (State.rd_wr_ne (by decide) ..).trans (State.rd_stopBy_same ..)

end Sys2Proof.Machine
end

section
/-! The interlock lines (O55): the losses, the takeover and the claim lines, each by the branch of its operation that the state is in. -/

namespace Sys2Proof.Machine

/-! ## The takeover -/

/-- At the mode and with the loss a takeover asks for, only continuity decides. -/
theorem State.tryTakeover_eq {s : State} (hm : s.mode = .twinStandby) (hl : s.twn.lost = true) (hc : s.on Reg.FJR_STATUS_CLAIM_IN = false)
    (hp : s.pwr.pfailLatched = false) : s.tryTakeover = if s.contOk = true then s.takeover else s.fault Reg.FJR_FAULT_INTERLOCK_OPEN := by
  simp [State.tryTakeover, hm, hl, hc, hp]

theorem State.contOk_wr {f : Fld} (h1 : Reg.FJR_STATUS_LIVE_CONT.key ≠ f.key) (h2 : Reg.FJR_STATUS_CLAIM_CONT.key ≠ f.key) (s : State) (v : Nat) :
    (s.wr f v).contOk = s.contOk := by
  simp only [State.contOk, State.on_wr_ne h1, State.on_wr_ne h2]

theorem State.on_wr_zero (s : State) (f : Fld) : (s.wr f 0).on f = false := by
  simp [State.on]

/-- The takeover's last steps: its counter and fault bit, and the source of yard time. -/
def State.takeoverEnd (s : State) : State :=
  let d := ((s.fjrBump Reg.FJR_TAKEOVERS).fault Reg.FJR_FAULT_TAKEOVER).reselect
  if d.rd Reg.TIM_STATUS_SOURCE = 3 then d.holdAt d.now else d

/-- Choosing the source of yard time, and holding it, is no concern of what sees neither. -/
theorem State.held_reselect_only {β : Type} {π : State → β} (hU : Unseen 0x200080000001420 π) (s : State) :
    π (if s.reselect.rd Reg.TIM_STATUS_SOURCE = 3 then s.reselect.holdAt s.reselect.now else s.reselect) = π s := by
  split
  · exact (State.holdAt_only (hU.mono (by decide)) _ _).trans (State.reselect_only hU s)
  · exact State.reselect_only hU s

theorem State.takeoverEnd_only {β : Type} {π : State → β} (hU : Unseen 0x600080000001420 π) (s : State) : π s.takeoverEnd = π s := by
  refine (State.held_reselect_only (hU.mono (by decide)) _).trans ?_
  exact (hU.fault (by decide) _).trans (State.fjrBump_only hU (by decide) _ _ (by decide))

theorem State.takeoverEnd_fault (s : State) : s.takeoverEnd.rd Reg.FJR_FAULT_TAKEOVER = 1 :=
  (State.rd_of_only Reg.FJR_FAULT_TAKEOVER (State.held_reselect_only · _) (by decide)).trans (State.fault_rd _ _ (by decide) (by decide))

theorem State.takeoverEnd_claimIn (s : State) : s.takeoverEnd.rd Reg.FJR_STATUS_CLAIM_IN = s.rd Reg.FJR_STATUS_CLAIM_IN := by
  refine (State.rd_of_only Reg.FJR_STATUS_CLAIM_IN (State.held_reselect_only · _) (by decide)).trans ?_
  rw [State.rd_fault_ne (by decide) (by decide), State.fjrBump, State.rd_bump_ne (by decide) (by decide) (by decide) (by decide)]

/-- With no epoch open and no STOP latched, a takeover is a mode change and its last steps. -/
theorem State.takeover_eq {s : State} (ho : s.epo.opened = false) (hl : s.trp.latch = false) :
    s.takeover = (({ s with twn := { s.twn with lost := false, mirrored := false, timeOk := false, offsets := [] } } : State).enterMode
      (if s.trp.fleet = .go then .fleetRun else .fleetHold)).takeoverEnd := by
  have hs : s.settle = (s, false) := by simp [State.settle, ho]
  have hd (u : State) (hu : u.trp.latch = false) : (if u.takeoverEnd.trp.latch = true then u.takeoverEnd.enterMode .faultSafe else u.takeoverEnd)
      = u.takeoverEnd := by
    rw [if_neg]
    rw [State.takeoverEnd_only (π := State.trp) (unseen_trp (by decide)), hu]
    exact Bool.false_ne_true
  simp only [State.takeover, hs]
  exact hd _ (by rw [State.enterMode_trp]; exact hl)

/-- That takeover enters the mode that the Trapdoor's state asks for, ends the loss and shows. -/
theorem State.takeover_closed {s : State} (ho : s.epo.opened = false) (hp : s.pwr.pfailLatched = false) (hl : s.trp.latch = false) :
    s.takeover.mode = (if s.trp.fleet = .go then .fleetRun else .fleetHold) ∧ s.takeover.rd Reg.FJR_FAULT_TAKEOVER = 1 ∧
      s.takeover.rd Reg.FJR_STATUS_CLAIM_IN = s.rd Reg.FJR_STATUS_CLAIM_IN ∧ s.takeover.twn.lost = false := by
  rw [State.takeover_eq ho hl]
  refine ⟨?_, State.takeoverEnd_fault _, ?_, ?_⟩
  · rw [State.takeoverEnd_only (π := State.mode) (unseen_mode (by decide)), State.enterMode_mode (by exact hp)]
  · rw [State.takeoverEnd_claimIn, State.rd_of_only Reg.FJR_STATUS_CLAIM_IN (State.enterMode_only · _ _) (by decide)]
    rfl
  · rw [State.takeoverEnd_only (π := State.twn) (unseen_twn (by decide)), State.enterMode_twn]

/-! ## The claim lines -/

theorem liveInLostOp_standby {s : State} (h : s.on Reg.FJR_STATUS_LIVE_IN = true) (hm : s.mode = .twinStandby) :
    liveInLostOp s = ({ s.wr Reg.FJR_STATUS_LIVE_IN 0 with twn := { s.twn with lost := true } } : State).tryTakeover := by
  simp [liveInLostOp, h, hm]

theorem liveInLostOp_active {s : State} (h : s.on Reg.FJR_STATUS_LIVE_IN = true) (hm : s.mode ≠ .twinStandby) :
    liveInLostOp s = if s.twn.mirrored && s.on Reg.FJR_STATUS_LIVE_CONT then
        let u : State := { (s.wr Reg.FJR_STATUS_LIVE_IN 0).fault Reg.FJR_FAULT_TWIN_LOST with
          twn := { s.twn with mirrored := false, linkLost := false, lates := 0, demoted := none } }
        if u.epo.opened && u.epo.digest then u.assure else u
      else { s.wr Reg.FJR_STATUS_LIVE_IN 0 with twn := { s.twn with journal := none, snapDue := false } } := by
  rw [liveInLostOp, h, ← State.on_wr_ne (f := Reg.FJR_STATUS_LIVE_IN) (g := Reg.FJR_STATUS_LIVE_CONT) (by decide) s 0]
  exact (if_neg Bool.false_ne_true).trans (if_neg hm)

theorem State.seat_wr {f : Fld} (h : Reg.PIN_STRAP_STATUS_STRAP.key ≠ f.key) (s : State) (v : Nat) : (s.wr f v).seat = s.seat := by
  rw [State.seat, State.rd_wr_ne h]
  rfl

/-- A way to REJOIN leaves the fault bits of the twin. -/
theorem State.toRejoin_rd_fjr (s : State) {f : Fld} (hb : f.blk = 0x12) (h1 : f.key ≠ Reg.FJR_STATUS_REJOIN_STATE.key)
    (h2 : f.key ≠ Reg.FJR_STATUS_CLEAN.key) : s.toRejoin.rd f = s.rd f := by
  have ha : s.abandonEpoch.rd f = s.rd f := State.rd_of_only f (State.abandonEpoch_only · s) (by rw [hb]; decide)
  have hc : (if s.abandonEpoch.mode = .rejoin then s.abandonEpoch else s.abandonEpoch.enterMode .rejoin).rd f = s.rd f := by
    split
    · exact ha
    · exact (State.rd_of_only f (State.enterMode_only · _ _) (by rw [hb]; decide)).trans ha
  unfold State.toRejoin
  dsimp only
  split
  · exact ha
  · rw [State.rd_wr_ne h2, State.rd_wr_ne h1]
    exact hc

/-- It ends in REJOIN, except that in PFAIL handling the mode stands. -/
theorem State.toRejoin_mode (s : State) : s.toRejoin.mode = if s.pwr.pfailLatched then s.mode else .rejoin := by
  have hp : s.abandonEpoch.pwr = s.pwr := State.abandonEpoch_only (π := State.pwr) (unseen_pwr (by decide)) s
  have hm : s.abandonEpoch.mode = s.mode := State.abandonEpoch_only (π := State.mode) (unseen_mode (by decide)) s
  unfold State.toRejoin
  dsimp only
  rw [hp, hm]
  split
  · exact hm
  · next h =>
    rw [State.wr_mode, State.wr_mode]
    show (if s.mode = .rejoin then s.abandonEpoch else s.abandonEpoch.enterMode .rejoin).mode = .rejoin
    split
    · next h => exact hm.trans h
    · rw [State.enterMode_mode_eq, hp, if_neg h]

/-- Settles O55: each line's change by the branch that the unit's state is in. -/
theorem twinInterlock : Obligations.TwinInterlock := by
  refine ⟨fun s hup h => ?_, fun s hup h => ?_, fun s hup ⟨h1, h2, h3⟩ => ?_, fun s u hup ⟨h1, h2, h3, h4⟩ hu => ?_,
    fun s hup ⟨h1, h2, h3⟩ => ?_, fun s hup h => ?_, fun s u hup ⟨h1, h2, h3, h4⟩ hu => ?_, fun s hup ⟨h1, h2, h3⟩ => ?_,
    fun s hup ⟨h1, h2, h3, h4⟩ ⟨h5, h6⟩ => ?_, fun s hup h => ?_, fun s u hup ⟨h1, h2, h3, h4⟩ hu => ?_, fun s hup h => ?_,
    fun s b hup => ?_, fun s b hup => ?_, fun s hup ⟨h1, h2⟩ => ?_, fun s hup h => ?_, fun s hup ⟨h1, h2⟩ => ?_, fun s hup h => ?_,
    fun s hup => ?_⟩
  all_goals refine Gives.of_main hup rfl ?_
  · rw [liveServiceMissedOp, State.stopLive, if_pos h]
  · rw [liveServiceMissedOp, State.stopLive, h]; rfl
  · rw [liveInLostOp_standby h1 h2, State.tryTakeover, if_pos]
    exact .inr (.inr (.inl ((State.on_wr_ne (f := Reg.FJR_STATUS_LIVE_IN) (by decide) s 0).trans h3)))
  · have hc : u.on Reg.FJR_STATUS_CLAIM_IN = false := hu ▸ (State.on_wr_ne (f := Reg.FJR_STATUS_LIVE_IN) (by decide) s 0).trans h3
    have hk : u.contOk = s.contOk := hu ▸ State.contOk_wr (f := Reg.FJR_STATUS_LIVE_IN) (by decide) (by decide) s 0
    rw [liveInLostOp_standby h1 h2, ← hu, State.tryTakeover_eq (hu ▸ h2) (hu ▸ rfl) hc (hu ▸ h4), hk]
  · have hc : (s.twn.mirrored && s.on Reg.FJR_STATUS_LIVE_CONT) = false := by rcases h3 with h | h <;> simp [h]
    rw [liveInLostOp_active h1 h2, hc]
    rfl
  · rw [liveInLostOp, h]; rfl
  · have hc : (s.twn.mirrored && s.on Reg.FJR_STATUS_LIVE_CONT) = true := by rw [h3, h4]; rfl
    have hr (f : Fld) : (if u.epo.opened = true ∧ u.epo.digest = true then u.assure else u).rd f = u.rd f := by split <;> rfl
    have ht : (if u.epo.opened = true ∧ u.epo.digest = true then u.assure else u).twn = u.twn := by split <;> rfl
    rw [liveInLostOp_active h1 h2, hc, if_pos rfl, ← hu]
    have he : u.epo = s.epo := hu ▸ rfl
    simp only [Bool.and_eq_true, he] at hr ht ⊢
    refine ⟨trivial, ht.trans (hu ▸ rfl), (hr _).trans ?_, (hr _).trans ?_⟩
    · exact hu ▸ State.fault_rd _ _ (by decide) (by decide)
    · exact hu ▸ (State.rd_fault_ne (f := Reg.FJR_FAULT_TWIN_LOST) (by decide) (by decide) _).trans (State.rd_wr_same ..)
  · rw [claimInDeassertOp, State.tryTakeover_eq (s := s.wr _ 0) h1 h2 (State.on_wr_zero ..) h3, State.contOk_wr (by decide) (by decide)]
  · rw [claimInDeassertOp, State.tryTakeover_eq (s := s.wr _ 0) h1 h2 (State.on_wr_zero ..) h4, State.contOk_wr (by decide) (by decide), if_pos h3]
    obtain ⟨e1, e2, e3, e4⟩ := State.takeover_closed (s := s.wr Reg.FJR_STATUS_CLAIM_IN 0) h5 h4 h6
    exact ⟨e1, e2, e3.trans (State.rd_wr_same ..), e4⟩
  · rw [claimInDeassertOp, State.tryTakeover, if_pos]
    rcases h with h | h <;> simp [h]
  · rw [takeoverBlockedOp, if_pos ⟨h1, h2, h3, h4⟩, ← hu]
    refine ⟨rfl, ?_, ?_⟩
    · rw [State.toRejoin_rd_fjr _ rfl (by decide) (by decide), hu, State.fault_rd _ _ (by decide) (by decide)]
    · rw [State.toRejoin_mode, hu, State.fault_pwr, State.fault_mode]
  · rw [takeoverBlockedOp, if_neg]
    rintro ⟨h1, h2, h3, h4⟩
    simp [h1, h2, h3, h4] at h
  · refine ⟨?_, State.fault_rd _ _ (by decide) (by decide)⟩
    have h : (contOf b).key ≠ Reg.FJR_FAULT_INTERLOCK_OPEN.key ∧ (contOf b).key ≠ (Reg.MSIX_PENDING 0).key := by cases b <;> decide
    rw [continuityBrokenOp, State.rd_fault_ne h.1 h.2, State.rd_wr_same, Nat.zero_mod]
  · rfl
  · rw [twinAmbiguityOp, if_pos (by rw [h1, h2]; rfl)]
    refine ⟨(State.raiseFleet_stop ..).1, (State.raiseFleet_stop ..).2, ?_, ?_⟩
    · exact State.raiseFleet_cause rfl _ _ (by decide) (by decide) (by decide) (by decide) (by decide) (by decide)
    · rw [State.rd_of_only (m := 0xa1d08e0092740ee2) Reg.FJR_FAULT_AMBIGUITY (State.raiseFleet_only · (by decide) _ _ _ (by decide)) (by decide)]
      exact State.fault_rd _ _ (by decide) (by decide)
  · rw [twinAmbiguityOp, if_neg]
    rcases h with h | h <;> simp [h]
  · have hs : (s.wr Reg.FJR_STATUS_CLAIM_IN 1).seat = 1 := (State.seat_wr (by decide) s 1).trans h2
    rw [claimInAssertOp, if_pos (by rw [hs, State.wr_twn, h1]; rfl)]
    refine ⟨rfl, ?_, State.rd_wr_same .., ?_⟩
    · exact (State.rd_wr_ne (by decide) ..).trans (State.rd_wr_same ..)
    · exact (State.rd_modeResult_ne (by decide) (by decide) _ _ _).trans ((State.rd_wr_ne (by decide) ..).trans (State.rd_wr_same s Reg.FJR_STATUS_CLAIM_IN 1))
  · rw [claimInAssertOp, if_neg]
    rw [State.seat_wr (by decide), State.wr_twn]
    rcases h with h | h <;> simp [h]
  · rfl

end Sys2Proof.Machine
end

section
/-! Acquisition and the tracking channels (O30): what an allocation, an acquisition result and each transition leave of the channels. -/

namespace Sys2Proof.Machine

@[simp] theorem State.track_setTrack_same (s : State) (n : Nat) (c : TrackCh) : (s.setTrack n c).track n = c := by
  simp [State.setTrack, State.track, State.showTracks]

/-- A transition from an admitted state. -/
theorem State.trackTo_eq {s : State} {n : Nat} {l : List TrackState} (onto : TrackState) (h : (s.track n).st ∈ l) :
    s.trackTo n l onto = s.setTrack n { s.track n with st := onto } := by
  rw [State.trackTo, if_pos (List.contains_iff_mem.mpr h)]

theorem State.allocateSat_chanLoop (s : State) (antB : Bool) (g sv code : Nat) (geo : Bool) :
    (s.allocateSat antB g sv).chanLoop code geo = s.chanLoop code geo := by
  rw [State.allocateSat]
  split <;> rfl

@[simp] theorem State.allocateSat_mode (s : State) (antB : Bool) (g sv : Nat) : (s.allocateSat antB g sv).mode = s.mode :=
  State.allocateSat_only (π := State.mode) (unseen_mode rfl) s antB g sv

theorem State.allocateSat_ch (s : State) (antB : Bool) (g sv : Nat) : (s.allocateSat antB g sv).rng.ch = s.rng.ch := by
  rw [State.allocateSat]
  split <;> rfl

@[simp] theorem State.setTrack_mode (s : State) (n : Nat) (c : TrackCh) : (s.setTrack n c).mode = s.mode :=
  State.setTrack_only (π := State.mode) (unseen_mode rfl) s n c

@[simp] theorem State.allocShort_mode (s : State) (k : Nat) (antB : Bool) : (s.allocShort k antB).mode = s.mode :=
  State.allocShort_only (π := State.mode) (unseen_mode rfl) s k antB

@[simp] theorem State.allocShort_rng (s : State) (k : Nat) (antB : Bool) : (s.allocShort k antB).rng = s.rng :=
  State.allocShort_only (π := State.rng) (unseen_rng rfl) s k antB

theorem State.allocShort_fault (s : State) {k : Nat} (hk : k ≠ 0) (antB : Bool) : (s.allocShort k antB).rd Reg.RNG_FAULT_ALLOC_SHORT = 1 := by
  rw [State.allocShort, if_neg hk, State.faultWith_rd _ _ _ (by decide) (by decide)]

/-- The record of a search that was allowed: what chute 25 is offered. -/
def acqRecord (antB : Bool) (signal sv codePhase doppler peak res : Nat) : List DWord :=
  toWords ([0x03, bit antB, signal, sv] ++ le 4 codePhase ++ le 4 doppler ++ le 2 peak ++ [res, 0])

section
variable {s : State} {antB : Bool} {g sv : Nat} (hd : s.rd Reg.RNG_ACQ_CFG_DWELL ≠ 0 ∧ s.signalOn g = true ∧ svOk (systemOf g) sv = true)
  (ht : s.tracked antB g sv = false ∧ s.inMask (s.elevation antB (systemOf g) sv) = true)
include hd ht

theorem acqAllowed : ¬(s.rd Reg.RNG_ACQ_CFG_DWELL = 0 ∨ s.signalOn g = false ∨ svOk (systemOf g) sv = false ∨ s.tracked antB g sv = true
    ∨ s.inMask (s.elevation antB (systemOf g) sv) = false) := by
  simp [hd, ht]

/-- A hit takes the channel allocated to the satellite into PULL_IN. -/
theorem acqResultOp_hit {cp dp pk k n : Nat} {geo : Bool} (hpk : s.rd Reg.RNG_ACQ_CFG_THRESH < pk)
    (hn : (s.allocateSat antB g sv).heldTrack antB g sv = some n) :
    ∃ u : State, u.mode = s.mode ∧ acqResultOp antB g sv cp dp pk k geo s =
      ((u.setTrack n
        { TrackCh.free with st := .pullIn, antB := antB, signal := g, sv := sv, glo := if systemOf g = 1 then k else 15, loop := s.chanLoop g geo, geo := geo }).offer 25 0 (acqRecord antB g sv cp dp pk 0)).1 := by
  refine ⟨{ s.allocateSat antB g sv with rng := { (s.allocateSat antB g sv).rng with
    hold := (s.allocateSat antB g sv).rng.hold.filter fun (h : Nat × Bool × Nat × Nat) => h.1 != n } }, State.allocateSat_mode .., ?_⟩
  rw [acqResultOp, if_neg (acqAllowed hd ht)]
  simp only [gt_iff_lt, hpk, decide_true, if_pos, hn, State.allocateSat_chanLoop]
  rfl

/-- One with no channel left adds to the count of what the allocation was short of. -/
theorem acqResultOp_short {cp dp pk k : Nat} {geo : Bool} (hpk : s.rd Reg.RNG_ACQ_CFG_THRESH < pk)
    (hn : (s.allocateSat antB g sv).heldTrack antB g sv = none) : acqResultOp antB g sv cp dp pk k geo s =
      (((s.allocateSat antB g sv).allocShort 1 antB).offer 25 0 (acqRecord antB g sv cp dp pk 2)).1 := by
  rw [acqResultOp, if_neg (acqAllowed hd ht)]
  simp only [gt_iff_lt, hpk, decide_true, if_pos, hn]
  rfl

theorem acqResultOp_miss {cp dp pk k : Nat} {geo : Bool} (hpk : pk ≤ s.rd Reg.RNG_ACQ_CFG_THRESH) :
    acqResultOp antB g sv cp dp pk k geo s = (s.offer 25 0 (acqRecord antB g sv cp dp pk 1)).1 := by
  rw [acqResultOp, if_neg (acqAllowed hd ht)]
  simp only [gt_iff_lt, Nat.not_lt.mpr hpk, decide_false]
  rfl

end

/-- Settles O30. -/
theorem trackingChannels : Obligations.TrackingChannels := by
  refine ⟨fun s antB sig sv cp dp pk k geo n hup ⟨h1, h2, h3⟩ ⟨h4, h5⟩ hpk hn => ?_,
    fun s antB sig sv cp dp pk k geo hup ⟨h1, h2, h3⟩ ⟨h4, h5⟩ hpk hn => ?_, fun s antB sig sv cp dp pk k geo hup ⟨h1, h2, h3⟩ ⟨h4, h5⟩ hpk => ?_,
    fun s sky hup => ?_, fun s n hup ⟨h1, h2⟩ => ?_, fun s n hup h => ?_, fun s n hup h => ?_, fun s n hup h => ?_, fun s n hup h => ?_,
    fun s n hup h => ?_, fun s n hup h => ?_, fun s g hup hg h1 h2 h3 h4 => ?_⟩
  all_goals refine Gives.of_main hup rfl ?_
  · obtain ⟨u, hu, e⟩ := acqResultOp_hit (cp := cp.toNat) (dp := dp.toNat) (k := k.val) (geo := geo) ⟨h1, h2, h3⟩ ⟨h4, h5⟩ hpk hn
    rw [e, State.offer_mode, State.setTrack_mode, hu, State.track, State.offer_rng]
    exact ⟨State.track_setTrack_same .., rfl⟩
  · rw [acqResultOp_short ⟨h1, h2, h3⟩ ⟨h4, h5⟩ hpk hn, State.offer_rng, State.offer_mode, State.allocShort_rng, State.allocShort_mode,
      State.rd_of_only Reg.RNG_FAULT_ALLOC_SHORT (State.offer_only · ..) (by decide)]
    exact ⟨State.allocateSat_ch .., State.allocShort_fault _ Nat.one_ne_zero _, State.allocateSat_mode ..⟩
  · exact acqResultOp_miss ⟨h1, h2, h3⟩ ⟨h4, h5⟩ hpk
  · simp only [channelAllocationOp, State.allocShort_rng, State.allocShort_mode]
    exact ⟨rfl, rfl, rfl⟩
  · rw [trackingLoopUpdateOp, if_neg (not_or.mpr ⟨h1, h2⟩)]
  · rw [channelTrackOp, if_pos h]
  · exact State.trackTo_eq _ (by simp [h])
  · rw [channelLockedOp, if_pos h]
  · exact State.trackTo_eq _ (by simpa using h)
  · exact State.trackTo_eq _ (by simp [h])
  · rw [channelIdleTimeoutOp, if_pos h]
    exact ⟨rfl, rfl⟩
  · have hl : ¬ (s.sh (Reg.RNG_LOOP_CFG_PLL_BW g) < 4 ∨ s.sh (Reg.RNG_LOOP_CFG_PLL_BW g) > 60 ∨ s.sh (Reg.RNG_LOOP_CFG_FLL_BW g) < 1 ∨
        s.sh (Reg.RNG_LOOP_CFG_FLL_BW g) > 20 ∨ s.sh (Reg.RNG_LOOP_CFG_DLL_BW g) < 5 ∨ s.sh (Reg.RNG_LOOP_CFG_DLL_BW g) > 200 ∨
        s.sh (Reg.RNG_LOOP_CFG_SPACING g) < 2 ∨ s.sh (Reg.RNG_LOOP_CFG_SPACING g) > 10) := by omega
    have hp : ¬ (s.sh (Reg.RNG_LOOP_CFG_PLL_BW g) * s.sh (Reg.RNG_LOOP_CFG_T_COH g) > 500 ∨
        s.sh (Reg.RNG_LOOP_CFG_FLL_BW g) * s.sh (Reg.RNG_LOOP_CFG_T_COH g) > 250) := by omega
    simp only [trackingLoopCommitOp, hg]
    rw [firstFail_eq_done]
    simp only [List.forall_mem_cons, h1, h3, hl, hp, Bool.not_true, decide_false, List.not_mem_nil, false_implies, implies_true, and_self]

end Sys2Proof.Machine
end

section
/-! The measurement series (O29): the epoch's number, the rate, the group's commit, navigation records, antenna conditions and band powers. -/

namespace Sys2Proof.Machine

/-! ## The measurement epoch -/

theorem State.measApply_seqNext (s : State) : s.measApply.rng.seqNext = s.rng.seqNext := by
  rw [State.measApply]
  split <;> simp

/-- The series' number is the one before the epoch's reads. -/
theorem measEpoch_seqNext (s : State) (time : YTime) : (s.advance time).baseReads.measApply.rng.seqNext = s.rng.seqNext := by
  rw [State.measApply_seqNext, State.baseReads_only (π := State.rng) (unseen_rng rfl), State.advance_only (π := State.rng) (unseen_rng rfl)]

@[simp] theorem State.dropDisabled_seqNext (s : State) : s.dropDisabled.rng.seqNext = s.rng.seqNext := rfl
@[simp] theorem State.dropDisabled_last (s : State) : s.dropDisabled.rng.last = s.rng.last := rfl
@[simp] theorem State.dropDisabled_gap (s : State) : s.dropDisabled.rng.gap = s.rng.gap := rfl

theorem State.dropDisabled_measSeq (s : State) : s.dropDisabled.rd Reg.RNG_MEAS_SEQ = s.rd Reg.RNG_MEAS_SEQ :=
  (State.rd_wr_ne (by decide) _ _).trans (State.rd_wr_ne (by decide) _ _)

/-- A measurement epoch ends by noting its time and number. -/
theorem measEpochOp_eq {s : State} (obs : List MeasObs) (hr : s.on Reg.RNG_STATUS_MEAS_RUNNING = true) (ho : s.outputsStopped = false) :
    ∃ (c : State) (n : Nat),
      measEpochOp obs s = ((c.wr Reg.RNG_MEAS_SEQ s.rng.seqNext).bumpBy Reg.RNG_SLIP_COUNT Reg.RNG_FAULT_CNT_SAT n).dropDisabled ∧
      c.rng.seqNext = (s.rng.seqNext + 1) % 4294967296 ∧ c.rng.last = some (nextAt (ratePeriod s.rng.rate) s.now s.rng.last) ∧
      c.rng.gap = false := by
  have hg : (!s.on Reg.RNG_STATUS_MEAS_RUNNING || s.outputsStopped) = false := by rw [hr, ho]; rfl
  simp only [measEpochOp, hg, measEpoch_seqNext]
  exact ⟨_, _, rfl, rfl, rfl, rfl⟩

/-! ## Field limits, band powers -/

/-- The field limits of a MEAS commit, and the modes that let RATE change. -/
theorem measCommitOp_eq {s : State} (hrate : s.sh Reg.RNG_MEAS_CFG_RATE ≤ 4 ∧ s.sh Reg.RNG_MEAS_CFG_ANT_A_EN ≠ 0)
    (hlim : s.sh Reg.RNG_MEAS_CFG_ELEV_MASK ≤ 30 ∧ 15 ≤ s.sh Reg.RNG_MEAS_CFG_CN0_LOSS ∧ s.sh Reg.RNG_MEAS_CFG_CN0_LOSS ≤ 35 ∧
      2 ≤ s.sh Reg.RNG_ACQ_CFG_DOPPLER_KHZ ∧ s.sh Reg.RNG_ACQ_CFG_DOPPLER_KHZ ≤ 12 ∧ 24 ≤ s.sh Reg.RNG_ACQ_CFG_THRESH ∧
      s.sh Reg.RNG_ACQ_CFG_THRESH ≤ 80) (hsig : s.sh Reg.RNG_SIG_EN_EN ≠ 0)
    (hmode : s.sh Reg.RNG_MEAS_CFG_RATE = s.rd Reg.RNG_MEAS_CFG_RATE ∨ s.mode.fleet = false ∧ s.mode ≠ .twinStandby ∧ s.mode ≠ .rejoin) :
    measCommitOp s = { s.commit Reg.RNG_MEAS_COMMIT_RESULT [Reg.RNG_MEAS_CFG_RATE] St.done with
      rng := { s.rng with
        rateDue := s.rng.rateDue || (s.sh Reg.RNG_MEAS_CFG_RATE != s.rd Reg.RNG_MEAS_CFG_RATE)
        due := some (measGroup.map (s.commit Reg.RNG_MEAS_COMMIT_RESULT [Reg.RNG_MEAS_CFG_RATE] St.done).sh) } } := by
  have hl : ¬ (s.sh Reg.RNG_MEAS_CFG_ELEV_MASK > 30 ∨ s.sh Reg.RNG_MEAS_CFG_CN0_LOSS < 15 ∨ s.sh Reg.RNG_MEAS_CFG_CN0_LOSS > 35 ∨
      s.sh Reg.RNG_ACQ_CFG_DOPPLER_KHZ < 2 ∨ s.sh Reg.RNG_ACQ_CFG_DOPPLER_KHZ > 12 ∨ s.sh Reg.RNG_ACQ_CFG_THRESH < 24 ∨
      s.sh Reg.RNG_ACQ_CFG_THRESH > 80) := by omega
  have hm : ((s.sh Reg.RNG_MEAS_CFG_RATE != s.rd Reg.RNG_MEAS_CFG_RATE) && (s.mode.fleet || s.mode == .twinStandby || s.mode == .rejoin))
      = false := by
    rcases hmode with h | h
    · simp [h]
    · simp [h]
  have hr : (decide (s.sh Reg.RNG_MEAS_CFG_RATE > 4) || s.sh Reg.RNG_MEAS_CFG_ANT_A_EN == 0) = false := by
    simp [hrate]
  have hz : (s.sh Reg.RNG_SIG_EN_EN == 0) = false := by simp [hsig]
  simp only [measCommitOp]
  rw [firstFail_eq_done]
  · rfl
  · simp only [List.forall_mem_cons, hl, hm, hr, hz, decide_false, List.not_mem_nil, false_implies, implies_true, and_self]

theorem antFaultSetOp_true (s : State) : (antFaultSetOp true s).rd Reg.RNG_STATUS_ANT_B_FLT = 1 ∧
    (antFaultSetOp true s).rd Reg.RNG_FAULT_ANT_B_FAULT = 1 ∧
    (antFaultSetOp true s).rd Reg.RNG_STATUS_ANT_A_FLT = s.rd Reg.RNG_STATUS_ANT_A_FLT ∧ (antFaultSetOp true s).mode = s.mode := by
  simp only [antFaultSetOp, if_true]
  refine ⟨?_, State.faultWith_rd _ _ _ (by decide) (by decide), ?_, by simp⟩
  · rw [State.rd_faultWith_ne (by decide) (by decide), State.rd_wr_same]; rfl
  · rw [State.rd_faultWith_ne (by decide) (by decide), State.rd_wr_ne (by decide)]

theorem antFaultSetOp_false (s : State) : (antFaultSetOp false s).rd Reg.RNG_STATUS_ANT_A_FLT = 1 ∧
    (antFaultSetOp false s).rd Reg.RNG_FAULT_ANT_A_FAULT = 1 ∧
    (antFaultSetOp false s).rd Reg.RNG_STATUS_ANT_B_FLT = s.rd Reg.RNG_STATUS_ANT_B_FLT ∧ (antFaultSetOp false s).mode = s.mode := by
  simp only [antFaultSetOp, Bool.false_eq_true, if_false]
  refine ⟨?_, State.faultWith_rd _ _ _ (by decide) (by decide), ?_, by simp⟩
  · rw [State.rd_faultWith_ne (by decide) (by decide), State.rd_wr_same]; rfl
  · rw [State.rd_faultWith_ne (by decide) (by decide), State.rd_wr_ne (by decide)]

/-- The fields of the band powers, and what the two words hold for them. -/
def bandFields : List Fld :=
  [Reg.RNG_BANDPWR_A_DDC0, Reg.RNG_BANDPWR_A_DDC1, Reg.RNG_BANDPWR_A_DDC2, Reg.RNG_BANDPWR_A_DDC3, Reg.RNG_BANDPWR_B_DDC0,
   Reg.RNG_BANDPWR_B_DDC1, Reg.RNG_BANDPWR_B_DDC2, Reg.RNG_BANDPWR_B_DDC3]

def bandPowers (a b : Word) : List (Fld × Nat) :=
  bandFields.zip [bits a.toNat 0 8, bits a.toNat 8 8, bits a.toNat 16 8, bits a.toNat 24 8, bits b.toNat 0 8, bits b.toNat 8 8,
    bits b.toNat 16 8, bits b.toNat 24 8]

/-- Of fields that are distinct, each reads the value it was given. -/
theorem State.rd_wrEach_mem {p : Fld × Nat} (l : List (Fld × Nat)) (hp : p ∈ l) (hn : (l.map (·.1.key)).Nodup) (s : State) :
    (s.wrEach l).rd p.1 = p.2 % 2 ^ p.1.w := by
  induction l generalizing s with
  | nil => cases hp
  | cons q t ih =>
    rw [List.map_cons, List.nodup_cons] at hn
    rw [State.wrEach]
    rcases List.mem_cons.mp hp with rfl | h
    · rw [State.rd_wrEach_ne t fun q hq e => hn.1 (List.mem_map.mpr ⟨q, hq, e.symm⟩), State.rd_wr_same]
    · exact ih h hn.2 _

/-- The fault bit of a clip window that is over its limit. -/
def State.clipFault (s : State) (sum : Nat) (f : Fld) (data : Nat) : State := if sum > 10 then s.faultWith f data else s

@[simp] theorem State.clipFault_rng (s : State) (n : Nat) (f : Fld) (d : Nat) : (s.clipFault n f d).rng = s.rng := by
  rw [State.clipFault]; split <;> simp

@[simp] theorem State.clipFault_mode (s : State) (n : Nat) (f : Fld) (d : Nat) : (s.clipFault n f d).mode = s.mode := by
  rw [State.clipFault]; split <;> simp

theorem State.clipFault_rd_ne {f g : Fld} (h : g.key ≠ f.key) (k : g.key ≠ (Reg.MSIX_PENDING 0).key) (s : State) (n d : Nat) :
    (s.clipFault n f d).rd g = s.rd g := by
  rw [State.clipFault]
  split
  · exact State.rd_faultWith_ne h k s d
  · rfl

theorem State.clipFault_rd {f : Fld} (h : 2 ≤ 2 ^ f.w) (k : f.key ≠ (Reg.MSIX_PENDING 0).key) (s : State) {n : Nat} (hn : 10 < n) (d : Nat) :
    (s.clipFault n f d).rd f = 1 := by
  rw [State.clipFault, if_pos hn, State.faultWith_rd _ _ _ h k]

/-- An update of the band powers: the fields, the windows, the counters and the windows' faults. -/
theorem bandpwrUpdateOp_eq (s : State) (a b : Word) (ca cb : Nat) :
    bandpwrUpdateOp a b ca cb s = (((({ s.wrEach (bandPowers a b) with
        rng := { s.rng with clipA := (ca :: s.rng.clipA).take 10, clipB := (cb :: s.rng.clipB).take 10 } } : State).bumpBy
      Reg.RNG_CLIP_A Reg.RNG_FAULT_CNT_SAT ca).bumpBy Reg.RNG_CLIP_B Reg.RNG_FAULT_CNT_SAT cb).clipFault
      (sumOf ((ca :: s.rng.clipA).take 10)) Reg.RNG_FAULT_CLIP_A 0).clipFault (sumOf ((cb :: s.rng.clipB).take 10)) Reg.RNG_FAULT_CLIP_B 1 := by
  simp only [bandpwrUpdateOp, State.wrEach_rng]
  rfl

/-- The fields of the band powers are distinct, a byte wide, and none that an update writes after them. -/
theorem bandFields_facts : (bandFields.map Fld.key).Nodup ∧ ∀ f ∈ bandFields, f.w = 8 ∧ f.blk ≠ 3 ∧
    ∀ g ∈ [Reg.RNG_FAULT_CLIP_A, Reg.RNG_FAULT_CLIP_B, Reg.RNG_CLIP_A, Reg.RNG_CLIP_B, Reg.RNG_FAULT_CNT_SAT, Reg.MSIX_PENDING 0],
      f.key ≠ g.key := by
  decide

/-- The fields of the band powers read what the two words hold. -/
theorem bandpwrUpdateOp_rd (s : State) (a b : Word) (ca cb : Nat) : ∀ p ∈ bandPowers a b, (bandpwrUpdateOp a b ca cb s).rd p.1 = p.2 := by
  intro p hp
  obtain ⟨hn, hfacts⟩ := bandFields_facts
  obtain ⟨hw, hb, hf⟩ := hfacts p.1 (List.of_mem_zip hp).1
  simp only [List.forall_mem_cons] at hf
  obtain ⟨h1, h2, h3, h4, h5, h6, -⟩ := hf
  have hk : ((bandPowers a b).map (·.1.key)).Nodup := hn
  have hv : ∀ v ∈ [bits a.toNat 0 8, bits a.toNat 8 8, bits a.toNat 16 8, bits a.toNat 24 8, bits b.toNat 0 8, bits b.toNat 8 8,
      bits b.toNat 16 8, bits b.toNat 24 8], v < 2 ^ 8 := by
    simp [bits, Nat.mod_lt]
  rw [bandpwrUpdateOp_eq, State.clipFault_rd_ne h2 h6, State.clipFault_rd_ne h1 h6, State.rd_bumpBy_ne h4 h5 h6 hb, State.rd_bumpBy_ne h3 h5 h6 hb,
    State.rd_mk, State.read_fld, State.rd_wrEach_mem _ hp hk, hw, Nat.mod_eq_of_lt (hv _ (List.of_mem_zip hp).2)]

/-- Settles O29. -/
theorem measurementSeries : Obligations.MeasurementSeries := by
  refine ⟨fun s obs hup hr ho => ?_, fun s hup h => ?_, fun s hup h1 h2 h3 h4 => ?_, fun s ch check time payload u nb hup h1 h2 h3 h4 => ?_,
    fun s ch time payload u nb hup h1 h2 h3 => ?_, fun s hup => ?_, fun s hup => ?_, fun s b hup => ?_, fun s a b ca cb hup => ?_⟩
  all_goals refine Gives.of_main hup rfl ?_
  · obtain ⟨c, n, e, h1, h2, h3⟩ := measEpochOp_eq obs hr ho
    refine ⟨?_, ?_, ?_, ?_, measEpochOp_only (π := State.mode) (unseen_mode rfl) obs s⟩ <;> rw [e]
    · simpa using h1
    · simpa using h3
    · simpa using h2
    · rw [State.dropDisabled_measSeq, State.rd_bumpBy_ne (by decide) (by decide) (by decide) (by decide), State.rd_wr_same]
      rfl
  · rw [measRateApplyOp_only (π := State.mode) (unseen_mode (by decide)) s]
    simp only [measRateApplyOp, h, Bool.not_true, Bool.false_eq_true, if_false]
    exact ⟨State.rd_of_only Reg.RNG_MEAS_CFG_RATE (State.wholeSecond_only · s) (by decide), trivial, trivial⟩
  · have hsh (f : Fld) (hf : f ∈ measGroup) : (s.commit Reg.RNG_MEAS_COMMIT_RESULT [Reg.RNG_MEAS_CFG_RATE] St.done).sh f = s.sh f := by
      have hk : ∀ f ∈ measGroup, f.key ≠ Reg.RNG_MEAS_COMMIT_RESULT.key ∧ f.key ≠ Reg.RNG_MEAS_CFG_RATE.key := by decide
      rw [State.sh_commit_eq (hk f hf).1, if_pos rfl, State.sh_apply_ne _ (by simpa using (hk f hf).2)]
    rw [measCommitOp_eq h1 h2 h3 h4, List.map_congr_left hsh]
    exact ⟨rfl, rfl, State.commit_mode ..⟩
  · have hs : ((s.track ch.val).st != .locked || (check.val == 2 && decide (u < 5))) = false := by
      simpa [h1] using h3
    have hc : ¬ (if u = 1 ∧ (s.track ch.val).word = false then 3 else check.val) = 1 := by
      split
      · decide
      · next hw => exact h4.resolve_right hw
    simp only [navRecordOp, h2, hs, if_neg hc]
    rfl
  · have hc : (if u = 1 ∧ (s.track ch.val).word = false then 3 else 1) = 1 := if_neg fun ⟨hu, hw⟩ => by
      rcases h3 with h | h
      · exact h hu
      · rw [hw] at h; cases h
    have hs : ((s.track ch.val).st != .locked || ((1 : Nat) == 2 && decide (u < 5))) = false := by simp [h1]
    show navRecordOp ch.val 1 time payload s = _
    simp only [navRecordOp, h2, hs, hc]
    rfl
  · exact antFaultSetOp_true s
  · exact antFaultSetOp_false s
  · rfl
  · have hr := bandpwrUpdateOp_rd s a b ca.val cb.val
    simp only [bandPowers, bandFields, List.zip_cons_cons, List.forall_mem_cons] at hr
    obtain ⟨a0, a1, a2, a3, b0, b1, b2, b3, -⟩ := hr
    refine ⟨a0, a1, a2, a3, b0, b1, b2, b3, ?_, ?_, fun h => ?_, fun h => ?_⟩
    · simp [bandpwrUpdateOp_eq]
    · simp [bandpwrUpdateOp_eq]
    · rw [bandpwrUpdateOp_eq, State.clipFault_rd_ne (by decide) (by decide), State.clipFault_rd (by decide) (by decide) _ h]
    · rw [bandpwrUpdateOp_eq, State.clipFault_rd (by decide) (by decide) _ h]

end Sys2Proof.Machine
end

section
/-! The epoch's boundary, release and snapshot (O27): what the boundary's steps leave, and the boundary as one change of the state they leave. -/

namespace Sys2Proof.Machine

/-! ## What a restriction of the fleet does to the epoch -/

/-- Of the epoch, a restriction of the fleet changes the inputs it meets and nothing more. -/
theorem State.raiseFleet_epo (s : State) (stop : Bool) (c : Fld) : (s.raiseFleet stop c).epo = (s.meetAll none).epo := by
  simp only [State.raiseFleet]
  rw [State.modeAfter_only (π := State.epo) (unseen_epo (by decide)), State.tellPeer_only (π := State.epo) (unseen_epo (by decide)),
    State.changeRecord_only (π := State.epo) (unseen_epo (by decide)), State.trapFrame_only (π := State.epo) (unseen_epo (by decide))]
  split
  · rw [State.bump_epo, State.setFleet_only (π := State.epo) (unseen_epo (by decide)), State.refuseArm_only (π := State.epo) (unseen_epo (by decide)),
      State.dropArb_only (π := State.epo) (unseen_epo (by decide))]
    rfl
  · rw [State.bump_epo]
    split
    · rw [State.setFleet_only (π := State.epo) (unseen_epo (by decide))]
      rfl
    · rfl

/-! ## The boundary -/

/-- The steps of a boundary before the next epoch opens. -/
def State.boundarySteps (s : State) : State :=
  (((s.advance (nextAt s.epochMs s.now s.epo.last)).wrapBy Reg.GLB_EPOCH 1).rulesApply).restartMark

theorem State.boundarySteps_only {β : Type} {π : State → β} (hU : Unseen 0x20020b0088001c38 π) (s : State) : π s.boundarySteps = π s :=
  (State.restartMark_only (hU.mono (by decide)) _).trans ((State.rulesApply_only (hU.mono (by decide)) _).trans
    ((hU.wr (by decide) _ _).trans (State.advance_only (hU.mono (by decide)) _ _)))

theorem State.boundarySteps_epoch (s : State) : s.boundarySteps.rd Reg.GLB_EPOCH = (s.rd Reg.GLB_EPOCH + 1) % 4294967296 := by
  rw [State.boundarySteps, State.rd_of_only Reg.GLB_EPOCH (State.restartMark_only · _) (by decide),
    State.rd_of_only Reg.GLB_EPOCH (State.rulesApply_only · _) (by decide), State.wrapBy, State.rd_wr_same,
    State.rd_of_only Reg.GLB_EPOCH (State.advance_only · _ _) (by decide)]
  rfl

@[simp] theorem State.boundarySteps_mode (s : State) : s.boundarySteps.mode = s.mode :=
  State.boundarySteps_only (π := State.mode) (unseen_mode (by decide)) s
@[simp] theorem State.boundarySteps_pwr (s : State) : s.boundarySteps.pwr = s.pwr :=
  State.boundarySteps_only (π := State.pwr) (unseen_pwr (by decide)) s
@[simp] theorem State.boundarySteps_twn (s : State) : s.boundarySteps.twn = s.twn :=
  State.boundarySteps_only (π := State.twn) (unseen_twn (by decide)) s
@[simp] theorem State.boundarySteps_hre (s : State) : s.boundarySteps.hre = s.hre :=
  State.boundarySteps_only (π := State.hre) (unseen_hre (by decide)) s
@[simp] theorem State.boundarySteps_epo (s : State) : s.boundarySteps.epo = s.epo :=
  State.boundarySteps_only (π := State.epo) (unseen_epo (by decide)) s

@[simp] theorem State.restartMark_fleet (s : State) : s.restartMark.trp.fleet = s.trp.fleet := by
  simp only [State.restartMark]
  split <;> simp

@[simp] theorem State.boundarySteps_fleet (s : State) : s.boundarySteps.trp.fleet = s.trp.fleet := by
  rw [State.boundarySteps, State.restartMark_fleet, State.rulesApply_only (π := State.trp) (unseen_trp (by decide)), State.wrapBy, State.wr_trp,
    State.advance_only (π := State.trp) (unseen_trp (by decide))]

/-- A unit that is not to become standby at this boundary stays what it is. -/
theorem State.becomeStandby_eq {s : State} (h : s.mode ≠ .rejoin ∨ s.twn.readyDue = false ∨ s.pwr.pfailLatched = true) : s.becomeStandby = s := by
  rw [State.becomeStandby, if_neg]
  rintro ⟨h1, h2, h3⟩
  rcases h with h | h | h
  · exact h h1
  · rw [h] at h2; cases h2
  · rw [h] at h3; cases h3

/-- A boundary with no epoch open: the next one opens with the inputs that waited. -/
def State.openNext (s : State) (at_ : YTime) : State :=
  { s with
    epo := { s.epo with opened := true, last := some at_, taken := s.epo.host, host := [], hostDone := 0, goneNow := s.epo.gone, gone := [] },
    ldr := { s.ldr with quar := if s.follows then s.ldr.quar else s.ldr.quar.map fun (q : Quar) => { q with ready := true } },
    hre := { s.hre with lossHold := false },
    twn := { s.twn with mirrored := !s.follows && ((s.twn.mirrored && !s.twn.loneDue) || s.twn.readyDue), loneDue := false, readyDue := false
                        own := s.twn.own.filter fun (o : OwnFrame) => !later (s.rd Reg.GLB_EPOCH) (o.epoch + 2) } }

@[simp] theorem State.openNext_opened (s : State) (x : YTime) : (s.openNext x).epo.opened = true := rfl
@[simp] theorem State.openNext_trp (s : State) (x : YTime) : (s.openNext x).trp = s.trp := rfl
@[simp] theorem State.openNext_mode (s : State) (x : YTime) : (s.openNext x).mode = s.mode := rfl
@[simp] theorem State.openNext_rd (s : State) (x : YTime) (f : Fld) : (s.openNext x).rd f = s.rd f := id rfl

theorem epochBoundaryOp_eq {s : State} (h : s.epo.opened = false) : ∃ at_ : YTime, epochBoundaryOp s =
    if s.boundarySteps.becomeStandby.hre.lossHold = true ∧ s.boundarySteps.becomeStandby.mode = .fleetRun
    then (s.boundarySteps.becomeStandby.openNext at_).raiseFleet false Reg.TRP_HOLD_CAUSE_HOST_LOSS
    else s.boundarySteps.becomeStandby.openNext at_ := by
  have ho : s.overrun = s := by simp [State.overrun, h]
  refine ⟨nextAt s.epochMs s.now s.epo.last, ?_⟩
  simp only [epochBoundaryOp, ho]
  rfl

/-- A release takes the epoch's list, and the frames of it go to the peer where a stream runs. -/
theorem epochReleaseOp_eq {s : State} (h1 : s.epo.opened = true) (h2 : s.epo.released = false) (h3 : s.follows = false)
    (hu : s.unreleased (s.rd Reg.GLB_EPOCH) = false) : ∃ u : State, epochReleaseOp s = (if u.streams then u.inputFrame else u) ∧
      u.epo = { (s.latch s.mode).epo with
        released := true, ops := (AMap.find (s.rd Reg.GLB_EPOCH) s.epo.lists).getD [], lists := dropLists (s.rd Reg.GLB_EPOCH) s.epo.lists
        taken := s.epo.taken ++ s.epo.host.filter fun (e : EpochInput) => e.kind == .fleet || e.kind == .pace
        host := s.epo.host.filter fun (e : EpochInput) => !(e.kind == .fleet || e.kind == .pace) } ∧ u.mode = s.mode ∧ u.trp = s.trp := by
  simp only [epochReleaseOp, h1, h2, h3, hu]
  exact ⟨_, rfl, rfl, rfl, rfl⟩

/-- Reading a chute dry changes nothing but chutes. -/
theorem State.takeAny_foldl_only {α β : Type} {π : State → β} (hU : Unseen 0x400 π) (n : Nat) (l : List α) (s : State) :
    π (l.foldl (fun (u : State) _ => u.takeAny n) s) = π s :=
  Unseen.foldl _ (fun a _ => State.takeAny_only hU a n) l s

/-- The position snapshot of the epoch. -/
def State.snapped (s : State) : State := { s with epo := { s.epo with snapped := true, pos := s.cre.pos } }

theorem positionSnapshotOp_eq {s : State} (h1 : s.epo.opened = true) (h2 : s.epo.released = true) (h3 : s.epo.snapped = false)
    (h4 : s.follows = false) : ∃ (t : State) (b : List Nat), t.epo = s.epo ∧ t.cre = s.cre ∧ t.mode = s.mode ∧
      positionSnapshotOp s = if t.snapped.streams then t.snapped.streamOut b else t.snapped := by
  have hk {β : Type} {π : State → β} (hU : Unseen 0x400 π) (n m : Nat) (l : List Packet) (k : List Packet) :
      π (k.foldl (fun (u : State) _ => u.takeAny m) (l.foldl (fun (u : State) _ => u.takeAny n) s)) = π s :=
    (State.takeAny_foldl_only hU ..).trans (State.takeAny_foldl_only hU ..)
  simp only [positionSnapshotOp, h1, h2, h3, h4]
  exact ⟨_, _, hk (unseen_epo (by decide)) .., hk (unseen_cre (by decide)) .., hk (unseen_mode (by decide)) .., rfl⟩

/-- Settles O27: each of the operations by the branch that its state is in. -/
theorem epochOpening : Obligations.EpochOpening := by
  refine ⟨fun s hup ho hr hl => ?_, fun s hup ho hl hm hg => ?_, fun s hup ho ⟨h1, h2, h3⟩ => ?_, fun s hup h => ?_, fun s hup h => ?_,
    fun s hup ⟨h1, h2, h3⟩ hu => ?_, fun s hup ⟨h1, h2, h3⟩ hu => ?_, fun s hup ⟨h1, h2, h3, h4⟩ => ?_⟩
  all_goals refine Gives.of_main hup rfl ?_
  · obtain ⟨x, e⟩ := epochBoundaryOp_eq ho
    have hb : s.boundarySteps.becomeStandby = s.boundarySteps := State.becomeStandby_eq (by simpa using hr)
    have hn : ¬ (s.boundarySteps.hre.lossHold = true ∧ s.boundarySteps.mode = .fleetRun) := by
      rw [State.boundarySteps_hre, State.boundarySteps_mode]
      rintro ⟨h1, h2⟩
      rcases hl with h | h
      · rw [h] at h1; cases h1
      · exact h h2
    rw [e, hb, if_neg hn]
    simp only [State.openNext_rd, State.openNext_opened, State.openNext_mode, s.boundarySteps_epoch, s.boundarySteps_mode, true_and, and_true]
    simp [State.openNext]
  · obtain ⟨x, e⟩ := epochBoundaryOp_eq ho
    have hb : s.boundarySteps.becomeStandby = s.boundarySteps := State.becomeStandby_eq (by simp [hm])
    have hg' : (s.boundarySteps.openNext x).trp.fleet = .go := by rw [State.openNext_trp, State.boundarySteps_fleet, hg]
    rw [e, hb, if_pos (by simp [hl, hm])]
    refine ⟨State.raiseFleet_hold hg' _, ?_, ?_⟩
    · rw [State.on, State.raiseFleet_cause rfl _ _ (by decide) (by decide) (by decide) (by decide) (by decide) (by decide)]
      rfl
    · rw [State.raiseFleet_epo]
      exact State.openNext_opened s.boundarySteps x
  · obtain ⟨x, e⟩ := epochBoundaryOp_eq ho
    have hb : s.boundarySteps.becomeStandby = (s.boundarySteps.enterMode .twinStandby).wr Reg.FJR_STATUS_REJOIN_STATE 0 := by
      simp [State.becomeStandby, h1, h2, h3]
    have hm : s.boundarySteps.becomeStandby.mode = .twinStandby := by
      rw [hb, State.wr_mode, State.enterMode_mode (by simpa using h3)]
    rw [e, if_neg fun h => Mode.noConfusion (hm.symm.trans h.2), State.openNext_mode, State.openNext_rd, hm, hb]
    exact ⟨rfl, State.rd_wr_same .., State.openNext_opened ..⟩
  · rw [epochCounterRecordOp, if_pos h]
  · rw [epochLengthApplyOp, if_pos h]
    exact ⟨rfl, State.commit_result ..⟩
  · obtain ⟨u, e, he, hm, ht⟩ := epochReleaseOp_eq h1 h2 h3 hu
    have hk {β : Type} {π : State → β} (hU : Unseen 0x10000400 π) : π (if u.streams then u.inputFrame else u) = π u :=
      Unseen.ite (State.inputFrame_only hU u) rfl
    rw [e, hk (unseen_epo (by decide)), hk (unseen_mode (by decide)), hk (unseen_trp (by decide)), he]
    exact ⟨rfl, rfl, rfl, rfl, hm, ht⟩
  · show exec .overrunEpoch s = _
    rw [show epochReleaseOp s = s.overrun by simp [epochReleaseOp, h1, h2, h3, hu]]
    exact congrArg Host.Outcome.next (State.whenMain_up hup _)
  · obtain ⟨t, b, he, hc, hm, e⟩ := positionSnapshotOp_eq h1 h2 h3 h4
    have hk {β : Type} {π : State → β} (hU : Unseen 0x10000400 π) : π (if t.snapped.streams then t.snapped.streamOut b else t.snapped) = π t.snapped :=
      Unseen.ite (State.streamOut_only hU _ _) rfl
    rw [e, hk (unseen_epo (by decide)), hk (unseen_mode (by decide)), hk (unseen_cre (by decide)), State.snapped, he, hc, hm]
    exact ⟨rfl, rfl, rfl⟩

end Sys2Proof.Machine
end

section
/-! The Trapdoor's inputs (O41): stop inputs, its own faults, and the arming attempts. -/

namespace Sys2Proof.Machine

/-! ## The lockstep flag under a restriction -/

theorem State.linkSend_lockstep (s : State) (t : Nat) (p : List Nat) : (s.linkSend t p).twn.lockstep = s.twn.lockstep := by
  simp only [State.linkSend]
  split
  · rfl
  · rw [State.linkPut]
    exact congrArg (·.lockstep) (State.linkChute_only (π := State.twn) (unseen_twn (by decide)) _ _ _ _)

theorem State.sendState_lockstep (s : State) : s.sendState.twn.lockstep = s.twn.lockstep := by
  rw [State.sendState]
  split
  · exact s.linkSend_lockstep ..
  · rfl

theorem State.setFleet_lockstep (s : State) (l : Level) : (s.setFleet l).twn.lockstep = s.twn.lockstep := by
  rw [State.setFleet]
  split
  · rfl
  · rw [State.sendState_lockstep, State.signal_twn]

theorem State.tellPeer_lockstep (s : State) (stop : Bool) (r : Option Nat) (c : Fld) : (s.tellPeer stop r c).twn.lockstep = s.twn.lockstep := by
  rw [State.tellPeer]
  split
  · exact s.linkSend_lockstep ..
  · exact s.sendState_lockstep

theorem State.dropArb_lockstep (s : State) : s.dropArb.twn.lockstep = s.twn.lockstep := by
  rw [State.dropArb]
  split
  · rw [State.wrEach_twn]
  · rfl

/-- A restriction tells the peer, and leaves the unit's own lockstep flag. -/
theorem State.raiseFleet_lockstep (s : State) (stop : Bool) (c : Fld) : (s.raiseFleet stop c).twn.lockstep = s.twn.lockstep := by
  simp only [State.raiseFleet]
  rw [State.modeAfter_only (π := State.twn) (unseen_twn (by decide)), State.tellPeer_lockstep,
    State.changeRecord_only (π := State.twn) (unseen_twn (by decide)), State.trapFrame_only (π := State.twn) (unseen_twn (by decide))]
  split
  · rw [State.bump_twn, State.setFleet_lockstep, State.refuseArm_only (π := State.twn) (unseen_twn (by decide)), State.dropArb_lockstep]
    rfl
  · rw [State.bump_twn]
    split
    · rw [State.setFleet_lockstep]
      rfl
    · rfl

theorem State.deviceFault_lockstep (s : State) : s.deviceFault.twn.lockstep = s.twn.lockstep := by
  have hstop (t : State) : t.stopLive.twn.lockstep = t.twn.lockstep := by rw [State.stopLive]; split <;> rfl
  have hover (t : State) : t.overtake.twn.lockstep = t.twn.lockstep := by
    rw [State.overtake]
    split
    · rw [State.wrEach_twn]
    · exact t.dropArb_lockstep
  have hopen (t : State) : t.reopen.twn = t.twn := State.reopen_only (π := State.twn) (unseen_twn (by decide)) t
  rw [State.deviceFault]
  split
  · exact hstop s
  · dsimp only
    split
    · rw [hopen, hstop, hover]
    · rw [State.enterMode_twn, hopen, hstop, hover]

/-- In PFAIL handling a restriction leaves the mode. -/
theorem State.modeAfter_mode_pfail {s : State} (h : s.pwr.pfailLatched = true) (stop : Bool) : (s.modeAfter stop).mode = s.mode := by
  have he (m : Mode) : (s.enterMode m).mode = s.mode := by rw [State.enterMode_mode_eq, if_pos h]
  rw [State.modeAfter]
  repeat' split
  all_goals simp only [he]

/-- What a restriction of the fleet does before its mode change is none of the mode's or the power's concern. -/
theorem State.raiseFleet_mode_pfail {s : State} {c : Fld} (h : s.pwr.pfailLatched = true) (stop : Bool) : (s.raiseFleet stop c).mode = s.mode := by
  have hset (t : State) (l : Level) : (t.setFleet l).mode = t.mode ∧ (t.setFleet l).pwr = t.pwr :=
    ⟨State.setFleet_only (π := State.mode) (unseen_mode (by decide)) t l, State.setFleet_only (π := State.pwr) (unseen_pwr (by decide)) t l⟩
  have hend (u : State) (hm : u.mode = s.mode) (hp : u.pwr = s.pwr) :
      ((((u.trapFrame stop none).changeRecord).tellPeer stop none c).modeAfter stop).mode = s.mode := by
    rw [State.modeAfter_mode_pfail, State.tellPeer_only (π := State.mode) (unseen_mode (by decide)),
      State.changeRecord_only (π := State.mode) (unseen_mode (by decide)), State.trapFrame_only (π := State.mode) (unseen_mode (by decide)), hm]
    rw [State.tellPeer_only (π := State.pwr) (unseen_pwr (by decide)), State.changeRecord_only (π := State.pwr) (unseen_pwr (by decide)),
      State.trapFrame_only (π := State.pwr) (unseen_pwr (by decide)), hp, h]
  refine hend _ ?_ ?_
  · split
    · rw [State.bump_mode, (hset ..).1, State.refuseArm_only (π := State.mode) (unseen_mode (by decide)),
        State.dropArb_only (π := State.mode) (unseen_mode (by decide))]
      rfl
    · rw [State.bump_mode]
      split
      · exact (hset ..).1
      · rfl
  · split
    · rw [State.bump_pwr, (hset ..).2, State.refuseArm_only (π := State.pwr) (unseen_pwr (by decide)),
        State.dropArb_only (π := State.pwr) (unseen_pwr (by decide))]
      rfl
    · rw [State.bump_pwr]
      split
      · exact (hset ..).2
      · rfl

/-! ## The sources of a STOP -/

theorem State.liveOut_wr {f : Fld} (h : Reg.FJR_CFG_TWIN_EN.key ≠ f.key) (s : State) (v : Nat) : (s.wr f v).liveOut = s.liveOut := by
  simp only [State.liveOut, State.on_wr_ne h, State.wr_mode, State.wr_pwr, State.wr_twn]
  rfl

/-- The level of the arming input is no source of a STOP. -/
theorem State.stopSourcesClear_armLevel (s : State) (v : Nat) : (s.wr Reg.TRP_STATUS_ARM_LEVEL v).stopSourcesClear = s.stopSourcesClear := by
  have hne (f : Fld) (h : f.key ≠ Reg.TRP_STATUS_ARM_LEVEL.key) := State.on_wr_ne h s v
  simp only [State.stopSourcesClear, State.claimOut, State.liveOut_wr (f := Reg.TRP_STATUS_ARM_LEVEL) (by decide), hne Reg.TRP_STATUS_IN_A (by decide),
    hne Reg.TRP_STATUS_IN_B (by decide), hne Reg.TRP_STATUS_DISC_COND (by decide), hne Reg.TRP_STATUS_OUT_COND (by decide),
    hne Reg.TRP_STATUS_RC4M_COND (by decide), hne Reg.FJR_STATUS_CLAIM_IN (by decide)]
  rfl

theorem State.localArm_armLevel (s : State) (v : Nat) : (s.wr Reg.TRP_STATUS_ARM_LEVEL v).localArm = s.localArm := by
  rw [State.localArm, State.rd_wr_ne (by decide)]
  rfl

/-- The state of a rise of the arming input, before its attempt is judged. -/
def State.armRisen (s : State) (lowLong : Bool) : State :=
  { s.wr Reg.TRP_STATUS_ARM_LEVEL 1 with trp := { s.trp with arm := some s.localArm, armBlocked := s.trp.armBlocked && !lowLong } }

theorem resetArmRiseOp_eq {s : State} (hup : s.Up) (b : Bool) : resetArmRiseOp b s =
    if (s.trp.armBlocked && !b) || !s.stopSourcesClear || (s.localArm && !s.trp.latch) then (s.armRisen b).refuseArm else s.armRisen b := by
  have hc : s.coreOn = true := bne_iff_ne.mpr (Mode.ne_cellar_of_main hup.1)
  have hm : (s.mode.main && s.pwr.mainPowered) = true := by rw [hup.1, hup.2]; rfl
  rw [resetArmRiseOp, hc, hm, ← s.stopSourcesClear_armLevel 1]
  simp only [s.localArm_armLevel 1]
  rfl

theorem resetArmFallOp_eq {s : State} (hup : s.Up) (b : Bool) {isLocal : Bool} (ha : s.trp.arm = some isLocal) : resetArmFallOp b s =
    if !b || !s.stopSourcesClear then (s.wr Reg.TRP_STATUS_ARM_LEVEL 0).refuseArm
    else if isLocal then (({ s.wr Reg.TRP_STATUS_ARM_LEVEL 0 with trp := { s.trp with arm := none } } : State).clearStop.setFleet .hold).stopBy
      Reg.PIN_LOCAL_RESET_COUNT_ACCEPTED 1
    else ({ s.wr Reg.TRP_STATUS_ARM_LEVEL 0 with trp := { s.trp with arm := none } } : State).wr Reg.TRP_STATUS_ARMED 1 := by
  have hc : s.coreOn = true := bne_iff_ne.mpr (Mode.ne_cellar_of_main hup.1)
  rw [resetArmFallOp, hc, ← s.stopSourcesClear_armLevel 0]
  simp only [Bool.not_true, Bool.false_eq_true, if_false, State.wr_trp, ha]

/-- A STOP raised with its condition: the fleet in STOP, the latch, the cause and the condition. -/
theorem State.stopCondition (s : State) {cond flt cause : Fld} (hb : cond.blk = 0xC ∧ cause.blk = 0xC) (hw : cond.w = 1 ∧ cause.w = 1)
    (hk : ∀ g ∈ [Reg.TRP_CLEAR_REFUSED, Reg.TRP_FAULT_CNT_SAT, Reg.TRP_FAULT_CLEAR_REFUSED, Reg.TRP_STATUS_ARMED, Reg.TRP_STOPS, Reg.TRP_HOLDS],
      cause.key ≠ g.key ∧ cond.key ≠ g.key) (hc : cond.key ≠ cause.key) (hf : cond.key ≠ flt.key) :
    (((s.wr cond 1).fault flt).raiseFleet true cause).trp.fleet = .stop ∧ (((s.wr cond 1).fault flt).raiseFleet true cause).on cause = true ∧
    (((s.wr cond 1).fault flt).raiseFleet true cause).on cond = true := by
  simp only [List.forall_mem_cons] at hk
  obtain ⟨⟨c1, d1⟩, ⟨c2, d2⟩, ⟨c3, d3⟩, ⟨c4, d4⟩, ⟨c5, d5⟩, ⟨c6, d6⟩, -⟩ := hk
  have hmsix : cond.key ≠ (Reg.MSIX_PENDING 0).key := Fld.key_ne (by rw [hb.1]; decide)
  refine ⟨(State.raiseFleet_stop ..).1, ?_, ?_⟩
  · rw [State.on, State.raiseFleet_cause hb.2 _ _ c1 c2 c3 c4 c5 c6, hw.2]
    rfl
  · rw [State.on, State.raiseFleet_rd hb.1 _ _ hc d1 d2 d3 d4 d5 d6, State.rd_fault_ne hf hmsix, State.rd_wr_same, hw.1]
    rfl

theorem State.bothOpened_stopIn (s : State) (b : Bool) : s.bothOpened.rd (stopIn b) = s.rd (stopIn b) := by
  have h : (stopIn b).key ≠ Reg.TRP_DEMAND_COUNT.key ∧ (stopIn b).key ≠ Reg.TRP_STATUS_PROOF_DUE.key := by cases b <;> decide
  rw [State.bothOpened]
  dsimp only
  split
  · rfl
  · split
    · rfl
    · rw [State.rd_wr_ne h.2, State.rd_stopBy_ne h.1]
      rfl

theorem State.bothOpened_fleet (s : State) : s.bothOpened.trp.fleet = s.trp.fleet := by
  rw [State.bothOpened]
  dsimp only
  split
  · rfl
  · split <;> rfl

/-- What closes one channel with the other closed. -/
theorem stopIn_closed {s : State} {b : Bool} (h : s.on (stopIn (!b)) = true) :
    (s.wr (stopIn b) 1).on Reg.TRP_STATUS_IN_A = true ∧ (s.wr (stopIn b) 1).on Reg.TRP_STATUS_IN_B = true := by
  cases b
  · exact ⟨by rw [State.on, stopIn, if_neg Bool.false_ne_true, State.rd_wr_same]; rfl, (State.on_wr_ne (f := Reg.TRP_STATUS_IN_A) (by decide) s 1).trans h⟩
  · exact ⟨(State.on_wr_ne (f := Reg.TRP_STATUS_IN_B) (by decide) s 1).trans h, by rw [State.on, stopIn, if_pos rfl, State.rd_wr_same]; rfl⟩

theorem stopIn_other_open {s : State} {b : Bool} (h : s.on (stopIn (!b)) = false) :
    ((s.wr (stopIn b) 1).on Reg.TRP_STATUS_IN_A && (s.wr (stopIn b) 1).on Reg.TRP_STATUS_IN_B) = false := by
  cases b
  · exact (congrArg _ ((State.on_wr_ne (f := Reg.TRP_STATUS_IN_A) (by decide) s 1).trans h)).trans (Bool.and_false _)
  · exact (congrArg (· && _) ((State.on_wr_ne (f := Reg.TRP_STATUS_IN_B) (by decide) s 1).trans h)).trans (Bool.false_and _)

/-- A local reset ends the STOP: the latch falls, the causes read 0 and the fleet is in HOLD. -/
theorem State.localReset_eq (s : State) :
    ((s.clearStop.setFleet .hold).stopBy Reg.PIN_LOCAL_RESET_COUNT_ACCEPTED 1).trp.latch = false ∧
    ((s.clearStop.setFleet .hold).stopBy Reg.PIN_LOCAL_RESET_COUNT_ACCEPTED 1).trp.fleet = .hold ∧
    ((s.clearStop.setFleet .hold).stopBy Reg.PIN_LOCAL_RESET_COUNT_ACCEPTED 1).trp.arm = s.trp.arm ∧
    ((s.clearStop.setFleet .hold).stopBy Reg.PIN_LOCAL_RESET_COUNT_ACCEPTED 1).rd Reg.TRP_STOP_CAUSE_IN_A = 0 := by
  have hc : s.clearStop.trp = { s.trp with latch := false, dormant := false } := State.wrAll_trp ..
  refine ⟨?_, ?_, ?_, ?_⟩
  · rw [State.stopBy_trp, State.setFleet_latch, hc]
  · rw [State.stopBy_trp, State.setFleet_fleet]
  · rw [State.stopBy_trp, State.setFleet]
    split
    · rw [hc]
    · rw [State.sendState_trp, State.signal_trp, hc]
  · rw [State.rd_stopBy_ne (by decide), State.setFleet_rd rfl, State.clearStop, State.rd_wrAll_mem 0 _ (by decide) (by decide), Nat.zero_mod]

/-- The STOP that a lockstep flag raises, before the device fault. -/
def State.lockstepStop (s : State) : State :=
  (({ s with twn := { s.twn with lockstep := true } } : State).fault Reg.GLB_FAULT_LOCKSTEP).stopLive.raiseFleet true Reg.TRP_STOP_CAUSE_LOCKSTEP

theorem State.lockstepStop_pwr (s : State) : s.lockstepStop.pwr = s.pwr := by
  rw [State.lockstepStop, State.raiseFleet_pwr _ _ _ (by decide), State.stopLive_only (π := State.pwr) (unseen_pwr (by decide)), State.fault_pwr]

theorem lockstepFlagOp_def (s : State) : lockstepFlagOp s = s.lockstepStop.deviceFault := id rfl

theorem lockstepFlagOp_eq (s : State) : s.lockstepStop.deviceFault.trp.fleet = .stop ∧ s.lockstepStop.deviceFault.trp.latch = true ∧
    s.lockstepStop.deviceFault.twn.lockstep = true := by
  refine ⟨?_, ?_, ?_⟩
  · rw [State.deviceFault_trp, State.lockstepStop, (State.raiseFleet_stop ..).1]
  · rw [State.deviceFault_trp, State.lockstepStop, (State.raiseFleet_stop ..).2]
  · rw [State.deviceFault_lockstep, State.lockstepStop, State.raiseFleet_lockstep, State.stopLive]
    split <;> simp

theorem discrepancyOp_eq {s : State} (h : (s.on Reg.TRP_STATUS_IN_A == s.on Reg.TRP_STATUS_IN_B) = false) :
    discrepancyOp s = (((({ s with trp := { s.trp with discBoth := false } } : State).wr Reg.TRP_STATUS_DISC_COND 1).fault
      Reg.TRP_FAULT_DISCREPANCY).raiseFleet true Reg.TRP_STOP_CAUSE_DISCREPANCY) := by
  rw [discrepancyOp, h]
  exact if_neg Bool.false_ne_true

/-- Settles O41: each operation by the branch that its state is in. -/
theorem trapdoorInputs : Obligations.TrapdoorInputs := by
  refine ⟨fun s b hup => ?_, fun s b hc hm => ?_, fun s b hc ho => ?_, fun s u b hc ho hu => ?_, fun s hup h => ?_, fun s hup h => ?_,
    fun s hup h => ?_, fun s hup => ?_, fun s hup => ?_, fun s hup => ?_, fun s hup => ?_, fun s hup hs ⟨h1, h2⟩ => ?_, fun s u b hup hu h => ?_,
    fun s hup hs ha => ?_, fun s hup hs ha => ?_, fun s b a hup ha h => ?_, fun s a hup ha => ?_, fun s hup => ?_, fun s hup h1 h2 => ?_⟩
  · refine ⟨_, rfl, ?_⟩
    have hc : s.coreOn = true := bne_iff_ne.mpr (Mode.ne_cellar_of_main hup.1)
    have hm : (s.mode.main && s.pwr.mainPowered) = true := by rw [hup.1, hup.2]; rfl
    simp only [stopInOpenOp, hc, hm, Bool.not_true, Bool.false_eq_true, if_false, if_true]
    refine ⟨(State.raiseFleet_stop ..).1, (State.raiseFleet_stop ..).2, ?_⟩
    cases b
    · rw [State.on, State.raiseFleet_cause rfl _ _ (by decide) (by decide) (by decide) (by decide) (by decide) (by decide)]
      rfl
    · rw [State.on, State.raiseFleet_cause rfl _ _ (by decide) (by decide) (by decide) (by decide) (by decide) (by decide)]
      rfl
  · refine ⟨_, rfl, ?_⟩
    simp only [stopInOpenOp, hc, hm, Bool.not_true, Bool.false_eq_true, if_false]
    refine ⟨?_, trivial, State.bothOpened_fleet _, State.bothOpened_only (π := State.mode) (unseen_mode (by decide)) _⟩
    rw [State.rd_mk, State.read_fld, State.bothOpened_stopIn, State.rd_wr_same, Nat.zero_mod]
  · refine ⟨_, rfl, ?_⟩
    simp only [stopInCloseOp, hc, stopIn_other_open ho, Bool.not_true, Bool.false_eq_true, if_false]
  · refine ⟨_, rfl, ?_⟩
    obtain ⟨ha, hb⟩ := stopIn_closed ho
    have hd : u.on Reg.TRP_STATUS_DISC_COND = s.on Reg.TRP_STATUS_DISC_COND := by
      rw [hu]
      exact State.on_wr_ne (by cases b <;> decide) s 1
    simp only [stopInCloseOp, hc, ha, hb, Bool.not_true, Bool.false_eq_true, if_false, Bool.and_self, if_true, ← hd, hu]
    rfl
  · refine Gives.of_main hup rfl ?_
    rw [discrepancyOp_eq h]
    exact State.stopCondition _ (by decide) (by decide) (by decide) (by decide) (by decide)
  · refine Gives.of_main hup rfl ?_
    obtain ⟨hf, hl, ht⟩ := lockstepFlagOp_eq s
    obtain ⟨hm, hc⟩ := State.deviceFault_mode (s := s.lockstepStop) (by rw [s.lockstepStop_pwr, h])
    rw [lockstepFlagOp_def]
    exact ⟨hm, hc, hf, hl, ht⟩
  · refine Gives.of_main hup rfl ?_
    obtain ⟨hf, hl, ht⟩ := lockstepFlagOp_eq s
    have hp : s.lockstepStop.pwr.pfailLatched = true := by rw [s.lockstepStop_pwr, h]
    rw [lockstepFlagOp_def]
    refine ⟨?_, hf, hl, ht⟩
    rw [State.deviceFault, if_pos hp, State.stopLive_only (π := State.mode) (unseen_mode (by decide)), State.lockstepStop, State.raiseFleet_mode_pfail,
      State.stopLive_only (π := State.mode) (unseen_mode (by decide)), State.fault_mode]
    rw [State.stopLive_only (π := State.pwr) (unseen_pwr (by decide)), State.fault_pwr]
    exact h
  · refine Gives.of_main hup rfl ?_
    rw [outReadbackMismatchOp]
    exact State.stopCondition _ (by decide) (by decide) (by decide) (by decide) (by decide)
  · exact Gives.of_main hup rfl rfl
  · refine Gives.of_main hup rfl ?_
    rw [rc4mFaultOp]
    exact State.stopCondition _ (by decide) (by decide) (by decide) (by decide) (by decide)
  · exact Gives.of_main hup rfl rfl
  · refine ⟨_, rfl, ?_⟩
    have hn : ¬ ((s.trp.armBlocked && !false) || !s.stopSourcesClear || (s.localArm && !s.trp.latch)) = true := by simp [hs, h1, h2]
    rw [resetArmRiseOp_eq hup, if_neg hn]
    exact ⟨rfl, rfl, State.rd_wr_same s Reg.TRP_STATUS_ARM_LEVEL 1⟩
  · refine ⟨_, rfl, ?_⟩
    rw [resetArmRiseOp_eq hup, if_pos, hu]
    · rfl
    · rcases h with h | h | h <;> simp [h]
  · refine ⟨_, rfl, ?_⟩
    rw [resetArmFallOp_eq hup _ ha, hs]
    exact ⟨State.rd_wr_same .., (State.rd_wr_ne (by decide) ..).trans (State.rd_wr_same s Reg.TRP_STATUS_ARM_LEVEL 0), rfl, rfl⟩
  · refine ⟨_, rfl, ?_⟩
    rw [resetArmFallOp_eq hup _ ha, hs]
    exact State.localReset_eq _
  · refine ⟨_, rfl, ?_⟩
    rw [resetArmFallOp_eq hup _ ha, if_pos]
    rcases h with h | h <;> simp [h]
  · refine Gives.of_main hup rfl ?_
    simp only [resetArmHoldTimeoutOp, ha]
    refine ⟨trivial, State.refuseArm_arm _, ?_⟩
    simp only [State.refuseArm]
    split <;> simp
  · exact Gives.of_main hup rfl rfl
  · refine Gives.of_main hup rfl ?_
    rw [proofTimerOp, if_pos]
    simp [h1, h2]

end Sys2Proof.Machine
end

section
/-! Halting the Hoist: which registers a MOVE cut short may have written, what the halt leaves of the clock and reset block, and the
channels after every one of them was halted or told to stop. Shared by PFAIL handling, the power-down and the mode requests. -/

namespace Sys2Proof.Machine

/-! ## Plain writes and the clock and reset block -/

theorem not_mem_inGroup {p : Fld × Option Fld} (hn : p.2 = none) (res : Fld) (fs : List Fld) : p ∉ inGroup res fs := by
  intro h
  obtain ⟨f, -, rfl⟩ := List.mem_map.mp h
  cases hn

/-- Of the fields that a plain write changes at once, one is in the clock and reset block. -/
theorem writableOf_atOnce {s : State} {k : Nat} {p : Fld × Option Fld} (hp : p ∈ writableOf s k) (hn : p.2 = none) :
    p.1 = Reg.CLK_PDOWN_CFG_DRAIN_TIMEOUT ∨ p.1.blk ≠ 1 := by
  have hin := not_mem_inGroup hn
  have hmap {fs : List Fld} (h : p ∈ fs.map fun (f : Fld) => (f, none)) (hb : ∀ f ∈ fs, f.blk ≠ 1) : p.1.blk ≠ 1 := by
    obtain ⟨f, hf, rfl⟩ := List.mem_map.mp h
    exact hb f hf
  have hsome (g : Nat → Fld) (r : Fld) (n : Nat) : p ∉ (List.range n).map fun k => (g k, some r) := by
    intro h
    obtain ⟨k, -, rfl⟩ := List.mem_map.mp h
    cases hn
  have hfam {g : Nat → Fld} {n : Nat} (h : p ∈ (List.range n).map fun k => (g k, none)) (hb : ∀ k, (g k).blk ≠ 1) : p.1.blk ≠ 1 := by
    obtain ⟨k, -, rfl⟩ := List.mem_map.mp h
    exact hb k
  unfold writableOf at hp
  split at hp
  case h_2 => exact .inl (by simp only [clkWritable, List.mem_append, hin, false_or] at hp; simp at hp; rw [hp])
  case h_22 => cases hp
  all_goals refine .inr ?_
  all_goals simp only [glbWritable, hreWritable, chuWritable, hstWritable, dspWritable, rngWritable, corWritable, creWritable, ldrWritable,
    govWritable, trpWritable, drmWritable, lnaWritable, lnbWritable, srpWritable, timWritable, fjrWritable, vltWritable, updWritable, tlyWritable,
    List.mem_append, hin, hsome, false_or, or_false, or_self] at hp
  case h_3 => exact hp.elim (hmap · (by decide)) (hfam · fun k => by rw [Reg.HRE_VEC_GAP_MIN_GAP_blk]; decide)
  case h_6 => exact hp.elim (hmap · (by decide)) (hfam · fun k => by rw [Reg.DSP_CORE_CFG_blk]; decide)
  all_goals exact hmap hp (by decide)

/-! ## What a MOVE cut short, and a halt, can be seen by

What sees none of the parts of the mask, and no write of a field that a plain write changes at once. -/

section
variable {β : Type} {π : State → β} (hU : Unseen 0x11000000a42a π)
  (hw : ∀ f : Fld, f = Reg.CLK_PDOWN_CFG_DRAIN_TIMEOUT ∨ f.blk ≠ 1 → ∀ (s : State) (v : Nat), π (s.wr f v) = π s)
include hU hw

theorem State.fieldWrite_of {s u : State} {k off v : Nat} {p : Fld × Option Fld} (hp : p ∈ writableOf s k) :
    π (u.fieldWrite off v p) = π u := by
  rw [State.fieldWrite]
  split
  · rfl
  · split
    · next hn => exact hw _ (writableOf_atOnce hp hn) _ _
    · split
      · exact hU.fault (f := Reg.GLB_FAULT_COMMIT_BUSY) (by decide) u
      · exact hU.wrShadow (by decide) _ _ _

theorem State.plainWrite_of (s : State) (off v : Nat) : π (s.plainWrite off v) = π s := by
  simp only [State.plainWrite]
  split
  · exact hU.fault (f := Reg.GLB_FAULT_COMMIT_BUSY) (by decide) s
  · exact Unseen.foldlMem (fun p hp u => State.fieldWrite_of hU hw (List.mem_filter.mp hp).1) s

theorem State.smearRegs_of (s : State) (off n : Nat) : π (s.smearRegs off n) = π s := by
  induction n generalizing s off with
  | zero => rfl
  | succ n ih =>
    rw [State.smearRegs, ih, State.plainWrite_of hU hw]
    exact State.draw_only (hU.mono (by decide)) s 1

theorem State.smear_of (s : State) (m : MoveSt) : π (s.smear m) = π s := by
  have hmem (l : Memory) (k : Nat) : π { s with mem := l, ctr := k } = π s :=
    (hU.ctr (by decide) { s with mem := l } k).trans (hU.mem (by decide) s l)
  rw [State.smear]
  split
  · exact hmem ..
  · exact Unseen.ite rfl (hmem ..)
  · exact State.smearRegs_of hU hw ..
  · exact State.smearRegs_of hU hw ..
  · exact State.setChute_only (hU.mono (by decide)) ..

theorem State.haltChan_of (s : State) (n status : Nat) : π (s.haltChan n status) = π s := by
  have hs : π (match (s.chan n).move with | some m => s.smear m | none => s) = π s := by
    split
    · exact State.smear_of hU hw ..
    · rfl
  have hc (c : Chan) : π ((match (s.chan n).move with | some m => s.smear m | none => s).setChan n c) = π s :=
    (State.setChan_only (hU.mono (by decide)) ..).trans hs
  rw [State.haltChan]
  split
  · exact hc _
  · exact (hU.event (by decide) ..).trans ((hU.wr (by decide) ..).trans (hc _))

theorem State.haltWaiting_of (s : State) (n status : Nat) : π (s.haltWaiting n status) = π s := by
  rw [State.haltWaiting, State.haltChan_of hU hw, State.setChan_only (hU.mono (by decide))]
  exact Unseen.ite (State.departWait_only (hU.mono (by decide)) ..) rfl

theorem State.abortChan_of (s : State) (n : Nat) : π (s.abortChan n) = π s := by
  rw [State.abortChan]
  split
  · rw [State.haltChan_of hU hw, State.setChan_only (hU.mono (by decide))]
    exact State.draw_only (hU.mono (by decide)) s 1
  · exact Unseen.ite (State.haltChan_of hU hw ..) (Unseen.ite (State.haltWaiting_of hU hw ..) rfl)

theorem State.parkChan_of (s : State) (n : Nat) : π (s.parkChan n) = π s := by
  simp only [State.parkChan]
  split
  · exact State.haltWaiting_of hU hw ..
  · exact Unseen.ite (State.haltChan_of hU hw ..) (State.setChan_only (hU.mono (by decide)) ..)
  · rfl

theorem State.abortAll_of (s : State) : π s.abortAll = π s := Unseen.foldl _ (State.abortChan_of hU hw) _ s

theorem State.parkAll_of (s : State) : π s.parkAll = π s := Unseen.foldl _ (State.parkChan_of hU hw) _ s

end

/-- A register of the clock and reset block that no plain write reaches at once. -/
def Fld.clkFixed (f : Fld) : Prop := f.blk = 1 ∧ f.key ≠ Reg.CLK_PDOWN_CFG_DRAIN_TIMEOUT.key

section
variable {f : Fld} (hf : f.clkFixed)
include hf

theorem Fld.clkFixed.unseen : Unseen 0x11000000a42a fun s => s.rd f := unseen_rd (by decide) (by rw [hf.1]; decide)

theorem Fld.clkFixed.wr (g : Fld) (h : g = Reg.CLK_PDOWN_CFG_DRAIN_TIMEOUT ∨ g.blk ≠ 1) (s : State) (v : Nat) : (s.wr g v).rd f = s.rd f := by
  refine State.rd_wr_ne ?_ s v
  rcases h with rfl | h
  · exact hf.2
  · exact Fld.key_ne (by rw [hf.1]; exact Ne.symm h)

theorem State.abortAll_rd_clkFixed (s : State) : s.abortAll.rd f = s.rd f := State.abortAll_of hf.unseen hf.wr s

theorem State.parkAll_rd_clkFixed (s : State) : s.parkAll.rd f = s.rd f := State.parkAll_of hf.unseen hf.wr s

end

@[simp] theorem State.abortAll_hre (s : State) : s.abortAll.hre = s.hre :=
  State.abortAll_of (π := State.hre) (unseen_hre (by decide)) (fun _ _ _ _ => rfl) s

@[simp] theorem State.parkAll_hre (s : State) : s.parkAll.hre = s.hre :=
  State.parkAll_of (π := State.hre) (unseen_hre (by decide)) (fun _ _ _ _ => rfl) s

/-! ## The channels after every one of them was halted -/

theorem State.chan_setChan_ne {n m : Nat} (h : m ≠ n) (s : State) (c : Chan) : (s.setChan n c).chan m = s.chan m :=
  AMap.get_set_ne h ..

theorem State.haltChan_chan_ne {n m : Nat} (h : m ≠ n) (s : State) (status : Nat) : (s.haltChan n status).chan m = s.chan m := by
  have hs : (match (s.chan n).move with | some m => s.smear m | none => s).chan m = s.chan m := by
    split
    · exact congrArg (AMap.get · m Chan.reset) (State.smear_only (π := State.hst) (unseen_hst (by decide)) s _)
    · rfl
  rw [State.haltChan]
  split
  · rw [State.chan_setChan_ne h]
    exact hs
  · exact (State.chan_setChan_ne h _ _).trans hs

theorem State.departWait_chan (s : State) (n w m : Nat) : (s.departWait n w).chan m = s.chan m :=
  congrArg (AMap.get · m Chan.reset) (State.departWait_only (π := State.hst) (unseen_hst (by decide)) s n w)

theorem State.haltWaiting_chan_ne {n m : Nat} (h : m ≠ n) (s : State) (status : Nat) : (s.haltWaiting n status).chan m = s.chan m := by
  rw [State.haltWaiting, State.haltChan_chan_ne h, State.chan_setChan_ne h]
  split
  · exact State.departWait_chan ..
  · rfl

/-- What a halt for a power failure leaves of the channel it halts. -/
structure Chan.Aborted (c d : Chan) : Prop where
  noMove : d.move = none
  stopped : d.st ≠ .running ∧ d.st ≠ .waiting ∧ d.st ≠ .stopping
  moved : c.move.isSome = true → d.st = .halted ∧ d.status = St.abortPower

theorem State.abortChan_ne {n m : Nat} (h : m ≠ n) (s : State) : (s.abortChan n).chan m = s.chan m := by
  rw [State.abortChan]
  split
  · exact (State.haltChan_chan_ne h _ _).trans (State.chan_setChan_ne h _ _)
  · split
    · exact State.haltChan_chan_ne h _ _
    · split
      · exact State.haltWaiting_chan_ne h _ _
      · rfl

theorem State.abortChan_aborted (s : State) (n : Nat) : (s.chan n).Aborted ((s.abortChan n).chan n) := by
  rw [State.abortChan]
  split
  · refine ⟨?_, ?_, fun _ => ?_⟩ <;> simp [State.haltChan_chan]
  · next hm =>
    have hno : ¬ (s.chan n).move.isSome = true := by simp [hm]
    split
    · refine ⟨?_, ?_, fun h => absurd h hno⟩ <;> simp [State.haltChan_chan]
    · next hrun =>
      split
      · refine ⟨?_, ?_, fun h => absurd h hno⟩ <;> simp [State.haltWaiting, State.haltChan_chan]
      · next hwait =>
        exact ⟨hm, ⟨fun h => hrun (.inl h), hwait, fun h => hrun (.inr h)⟩, fun h => absurd h hno⟩

/-- What a fold over distinct indices does to one of them, where each step leaves the others alone. -/
theorem State.foldl_chan {g : State → Nat → State} (hne : ∀ {n m : Nat}, m ≠ n → ∀ s, (g s n).chan m = s.chan m) {P : Chan → Chan → Prop}
    (hP : ∀ s n, P (s.chan n) ((g s n).chan n)) {l : List Nat} (hl : l.Nodup) {n : Nat} (hn : n ∈ l) (s : State) :
    P (s.chan n) ((l.foldl g s).chan n) := by
  induction l generalizing s with
  | nil => cases hn
  | cons k t ih =>
    obtain ⟨hk, ht⟩ := List.nodup_cons.mp hl
    have hrest {u : State} (hu : n ∉ t) : (t.foldl g u).chan n = u.chan n :=
      Unseen.foldlMem (π := fun u => u.chan n) (fun x hx a => hne (by rintro rfl; exact hu hx) a) u
    rw [List.foldl_cons]
    rcases List.mem_cons.mp hn with rfl | h
    · rw [hrest hk]
      exact hP s n
    · rw [← hne (show n ≠ k by rintro rfl; exact hk h) s]
      exact ih ht h _

theorem State.abortAll_aborted (s : State) {n : Nat} (hn : n < 32) : (s.chan n).Aborted (s.abortAll.chan n) :=
  State.foldl_chan (fun h s => State.abortChan_ne h s) State.abortChan_aborted List.nodup_range (List.mem_range.mpr hn) s

end Sys2Proof.Machine
end

section
/-! Descriptors cut short: writing completions keeps every descriptor's outcome, and an abort of the unfinished ones leaves each ring
with descriptors that had ended before or now end with ABORT_POWER. Shared by PFAIL handling and the power-down. -/

namespace Sys2Proof.Machine

/-! ## Descriptors with the same outcome -/

/-- Every descriptor left stood before, with its outcome. -/
def SubKept (old new : List SubDesc) : Prop := ∀ x ∈ new, ∃ y ∈ old, y.index = x.index ∧ x.done = y.done

/-- Every descriptor left stood before, and has ended: as before where it had, with ABORT_POWER where it had not. -/
def SubAborted (old new : List SubDesc) : Prop :=
  ∀ x ∈ new, ∃ y ∈ old, y.index = x.index ∧ (y.done = none → ∃ k, x.done = some ⟨St.abortPower, k, 0⟩) ∧ (y.done ≠ none → x.done = y.done)

theorem SubKept.refl (l : List SubDesc) : SubKept l l := fun x hx => ⟨x, hx, rfl, rfl⟩

theorem SubKept.trans {a b c : List SubDesc} (h : SubKept a b) (k : SubKept b c) : SubKept a c := by
  intro x hx
  obtain ⟨y, hy, i, d⟩ := k x hx
  obtain ⟨z, hz, i', d'⟩ := h y hy
  exact ⟨z, hz, i'.trans i, d.trans d'⟩

theorem SubKept.of_subset {a b : List SubDesc} (h : ∀ x ∈ b, x ∈ a) : SubKept a b := fun x hx => ⟨x, h x hx, rfl, rfl⟩

theorem SubAborted.trans_kept {a b c : List SubDesc} (h : SubAborted a b) (k : SubKept b c) : SubAborted a c := by
  intro x hx
  obtain ⟨y, hy, i, d⟩ := k x hx
  obtain ⟨z, hz, i', e⟩ := h y hy
  exact ⟨z, hz, i'.trans i, d ▸ e⟩

theorem SubKept.trans_aborted {a b c : List SubDesc} (h : SubKept a b) (k : SubAborted b c) : SubAborted a c := by
  intro x hx
  obtain ⟨y, hy, i, e⟩ := k x hx
  obtain ⟨z, hz, i', d⟩ := h y hy
  exact ⟨z, hz, i'.trans i, d ▸ e⟩

theorem markWritten_kept (index : Nat) (w : Written) (l : List SubDesc) : SubKept l (markWritten index w l) := by
  induction l with
  | nil => exact SubKept.refl _
  | cons y t ih =>
    rw [markWritten]
    split
    · intro x hx
      rcases List.mem_cons.mp hx with rfl | h
      · exact ⟨y, List.mem_cons_self, rfl, rfl⟩
      · exact ⟨x, List.mem_cons_of_mem _ h, rfl, rfl⟩
    · intro x hx
      rcases List.mem_cons.mp hx with rfl | h
      · exact ⟨x, List.mem_cons_self, rfl, rfl⟩
      · obtain ⟨z, hz, e⟩ := ih x h
        exact ⟨z, List.mem_cons_of_mem _ hz, e⟩

theorem dropSettled_subset (head : Nat) (l : List SubDesc) : ∀ x ∈ (dropSettled head l).2, x ∈ l := by
  induction l with
  | nil => exact fun x hx => hx
  | cons y t ih =>
    rw [dropSettled]
    split
    · exact fun x hx => List.mem_cons_of_mem _ (ih x hx)
    · exact fun x hx => hx

theorem abortSub_aborted (ty : Nat) (l : List SubDesc) : SubAborted l (abortSub ty l) := by
  induction l with
  | nil => exact fun x hx => nomatch hx
  | cons y t ih =>
    intro x hx
    rw [abortSub] at hx
    rcases List.mem_cons.mp hx with rfl | h
    · refine ⟨y, List.mem_cons_self, ?_⟩
      split
      · next hd => exact ⟨rfl, fun h => by simp [h] at hd, fun _ => rfl⟩
      · next hd => exact ⟨rfl, fun _ => ⟨_, rfl⟩, fun h => absurd (Option.isSome_iff_ne_none.mpr h) hd⟩
    · obtain ⟨z, hz, e⟩ := ih x h
      exact ⟨z, List.mem_cons_of_mem _ hz, e⟩

/-! ## Operations that keep every ring's outcomes -/

/-- Which rings take submissions stands, and every ring's descriptors stood before with their outcome. -/
structure State.KeepsSubs (s t : State) : Prop where
  isSub : ∀ n, t.isSub n = s.isSub n
  sub : ∀ n, SubKept (s.ring n).sub (t.ring n).sub

theorem State.KeepsSubs.trans {s t u : State} (h : s.KeepsSubs t) (k : t.KeepsSubs u) : s.KeepsSubs u :=
  ⟨fun n => (k.isSub n).trans (h.isSub n), fun n => (h.sub n).trans (k.sub n)⟩

theorem State.KeepsSubs.refl (s : State) : s.KeepsSubs s := ⟨fun _ => rfl, fun _ => SubKept.refl _⟩

theorem State.keepsSubs_setRing (s : State) (n : Nat) {r : RingSt} (h : SubKept (s.ring n).sub r.sub) : s.KeepsSubs (s.setRing n r) := by
  refine ⟨fun _ => rfl, fun m => ?_⟩
  by_cases hm : m = n
  · rw [hm, State.ring_setRing_same]
    exact h
  · rw [State.ring_setRing_ne hm]
    exact SubKept.refl _

theorem State.keepsSubs_showRing (s : State) (n : Nat) : s.KeepsSubs (s.showRing n) := by
  rw [State.showRing]
  split
  · exact ⟨fun _ => rfl, fun _ => SubKept.refl _⟩
  · exact .refl s

theorem State.keepsSubs_raiseLimit (s : State) (n : Nat) : s.KeepsSubs (s.raiseLimit n) := by
  simp only [State.raiseLimit]
  split
  · refine State.KeepsSubs.trans ?_ (State.keepsSubs_showRing _ n)
    exact s.keepsSubs_setRing n (SubKept.refl _)
  · exact .refl s

/-- A vector's signal writes its PENDING bit, no ring's configuration. -/
theorem State.isSub_signal (s : State) (v n : Nat) : (s.signal v).isSub n = s.isSub n := by
  have he : (Reg.HRE_RING_CFG_ENABLE n).key ≠ (Reg.MSIX_PENDING v).key := by
    simp only [Fld.key, Reg.HRE_RING_CFG_ENABLE, Reg.MSIX_PENDING]
    omega
  have ht : (Reg.HRE_RING_CFG_TYPE n).key ≠ (Reg.MSIX_PENDING v).key := by
    simp only [Fld.key, Reg.HRE_RING_CFG_TYPE, Reg.MSIX_PENDING]
    omega
  have e1 : (s.signal v).on (Reg.HRE_RING_CFG_ENABLE n) = s.on (Reg.HRE_RING_CFG_ENABLE n) := by rw [State.on, State.rd_signal_ne he, State.on]
  have e2 : (s.signal v).ringType n = s.ringType n := State.rd_signal_ne ht s
  rw [State.isSub, e1, e2, State.isSub]

theorem State.ring_signal (s : State) (v n : Nat) : (s.signal v).ring n = s.ring n := by
  rw [State.signal]
  split
  · rfl
  · split <;> rfl

theorem State.keepsSubs_signal (s : State) (v : Nat) : s.KeepsSubs (s.signal v) :=
  ⟨s.isSub_signal v, fun n => s.ring_signal v n ▸ SubKept.refl _⟩

theorem State.keepsSubs_signalRing (s : State) (n : Nat) : s.KeepsSubs (s.signalRing n) := by
  rw [State.signalRing]
  refine State.KeepsSubs.trans ?_ (State.keepsSubs_signal _ _)
  exact s.keepsSubs_setRing n (SubKept.refl _)

theorem State.keepsSubs_putEntry (s : State) (n : Nat) (e : RingEntry) : s.KeepsSubs (s.putEntry n e) := by
  have h (r : RingSt) (hr : r.sub = (s.ring n).sub) : s.KeepsSubs ((s.setRing n r).showRing n) :=
    (s.keepsSubs_setRing n (hr ▸ SubKept.refl _)).trans (State.keepsSubs_showRing _ n)
  simp only [State.putEntry]
  split
  · refine State.KeepsSubs.trans ?_ (State.keepsSubs_signalRing _ n)
    exact h _ rfl
  · exact h _ rfl

theorem State.keepsSubs_returnCredits (s : State) (n : Nat) : s.KeepsSubs (s.returnCredits n) := by
  simp only [State.returnCredits]
  refine State.KeepsSubs.trans ?_ (State.keepsSubs_raiseLimit _ n)
  exact s.keepsSubs_setRing n (SubKept.of_subset (dropSettled_subset _ _))

theorem keepsSubs_completionWriteOp (n index : Nat) (s : State) : s.KeepsSubs (completionWriteOp n index s) := by
  have hmark (w : Written) : s.KeepsSubs (s.setRing n { s.ring n with sub := markWritten index w (s.ring n).sub }) :=
    s.keepsSubs_setRing n (markWritten_kept index w _)
  simp only [completionWriteOp]
  split
  · exact .refl s
  · split
    · exact .refl s
    · split
      · exact .refl s
      · split
        · exact (hmark _).trans (State.keepsSubs_returnCredits _ n)
        · split
          · exact ⟨fun _ => rfl, fun _ => SubKept.refl _⟩
          · exact (hmark _).trans (State.keepsSubs_putEntry _ _ _)

theorem State.keepsSubs_foldl {α : Type} {g : State → α → State} (hg : ∀ (s : State) x, s.KeepsSubs (g s x)) (l : List α) (s : State) :
    s.KeepsSubs (l.foldl g s) := by
  induction l generalizing s with
  | nil => exact .refl s
  | cons x t ih => exact (hg s x).trans (ih _)

theorem State.keepsSubs_flushCompletions (s : State) (n : Nat) : s.KeepsSubs (s.flushCompletions n) :=
  State.keepsSubs_foldl (fun u i => keepsSubs_completionWriteOp n i u) _ s

/-! ## The abort of the unfinished descriptors -/

/-- The abort of one ring's unfinished descriptors. -/
def State.abortRing (s : State) (n : Nat) : State :=
  if s.isSub n then (s.setRing n { s.ring n with sub := abortSub (s.ringType n) (s.ring n).sub }).flushCompletions n else s

theorem State.abortRing_isSub (s : State) (n m : Nat) : (s.abortRing n).isSub m = s.isSub m := by
  rw [State.abortRing]
  split
  · exact (State.keepsSubs_flushCompletions _ n).isSub m
  · rfl

theorem State.abortRing_ne {n m : Nat} (h : m ≠ n) (s : State) : SubKept (s.ring m).sub ((s.abortRing n).ring m).sub := by
  rw [State.abortRing]
  split
  · have := (State.keepsSubs_flushCompletions (s.setRing n { s.ring n with sub := abortSub (s.ringType n) (s.ring n).sub }) n).sub m
    rwa [State.ring_setRing_ne h] at this
  · exact .refl _

theorem State.abortRing_aborted {s : State} {n : Nat} (h : s.isSub n = true) : SubAborted (s.ring n).sub ((s.abortRing n).ring n).sub := by
  rw [State.abortRing, if_pos h]
  have := (State.keepsSubs_flushCompletions (s.setRing n { s.ring n with sub := abortSub (s.ringType n) (s.ring n).sub }) n).sub n
  rw [State.ring_setRing_same] at this
  exact (abortSub_aborted (s.ringType n) _).trans_kept this

theorem State.foldl_abortRing_aborted {l : List Nat} (hl : l.Nodup) {n : Nat} (hn : n ∈ l) {s : State} (h : s.isSub n = true) :
    SubAborted (s.ring n).sub ((l.foldl State.abortRing s).ring n).sub := by
  induction l generalizing s with
  | nil => cases hn
  | cons k t ih =>
    obtain ⟨hk, ht⟩ := List.nodup_cons.mp hl
    rw [List.foldl_cons]
    rcases List.mem_cons.mp hn with rfl | hmem
    · have hrest (t' : List Nat) (ht' : n ∉ t') (u : State) : SubKept (u.ring n).sub ((t'.foldl State.abortRing u).ring n).sub := by
        induction t' generalizing u with
        | nil => exact .refl _
        | cons j r ihr =>
          rw [List.mem_cons, not_or] at ht'
          exact (State.abortRing_ne ht'.1 u).trans (ihr ht'.2 _)
      exact (State.abortRing_aborted h).trans_kept (hrest t hk _)
    · have hne : n ≠ k := by rintro rfl; exact hk hmem
      exact (State.abortRing_ne hne s).trans_aborted (ih ht hmem ((s.abortRing_isSub k n).trans h))

/-- The abort of every ring's unfinished descriptors. -/
def State.abortRings (s : State) : State := (List.range 128).foldl State.abortRing s

/-- No descriptor of an ended session is left. -/
def State.dropOld (s : State) : State := { s with hre := { s.hre with old := [] } }

theorem State.dropOld_ring (s : State) (n : Nat) : s.dropOld.ring n = s.ring n := rfl

theorem State.dropOld_old (s : State) : s.dropOld.hre.old = [] := rfl

/-- The abort ends by dropping those of ended sessions and showing the header. -/
theorem State.abortDescriptors_eq (s : State) : s.abortDescriptors = s.abortRings.dropOld.showHeader := by
  unfold State.abortDescriptors State.abortRings State.abortRing State.dropOld
  with_reducible rfl

theorem State.showHeader_ring (s : State) (n : Nat) : s.showHeader.ring n = s.ring n := by
  rw [State.showHeader]
  split <;> rfl

theorem State.showHeader_old (s : State) : s.showHeader.hre.old = s.hre.old := by
  rw [State.showHeader]
  split <;> rfl

theorem State.abortRings_aborted {s : State} {n : Nat} (hn : n < 128) (h : s.isSub n = true) :
    SubAborted (s.ring n).sub (s.abortRings.ring n).sub := by
  have hm : n ∈ List.range 128 := List.mem_range.mpr hn
  exact State.foldl_abortRing_aborted List.nodup_range hm h

theorem State.abortDescriptors_aborted {s : State} {n : Nat} (hn : n < 128) (h : s.isSub n = true) :
    SubAborted (s.ring n).sub (s.abortDescriptors.ring n).sub := by
  rw [State.abortDescriptors_eq, State.showHeader_ring, State.dropOld_ring]
  exact State.abortRings_aborted hn h

theorem State.abortDescriptors_old (s : State) : s.abortDescriptors.hre.old = [] := by
  rw [State.abortDescriptors_eq, State.showHeader_old, State.dropOld_old]

end Sys2Proof.Machine
end

section
/-! The commanded power-down (O18): each of its steps, in the power-down that is in progress. -/

namespace Sys2Proof.Machine

/-- A step of the power-down in progress, outside PFAIL handling. -/
theorem State.pdownStep_eq {s : State} {d : Pdown} (hd : s.pwr.pdown = some d) (hp : s.pwr.pfailLatched = false) (body : Pdown → State → State) :
    s.pdownStep body = body d s := by
  simp [State.pdownStep, hd, hp]

theorem State.setPdown_ring (s : State) (d : Pdown) (n : Nat) : (s.setPdown d).ring n = s.ring n := rfl
theorem State.setPdown_chute (s : State) (d : Pdown) (n : Nat) : (s.setPdown d).chute n = s.chute n := rfl
theorem State.setPdown_rd (s : State) (d : Pdown) (f : Fld) : (s.setPdown d).rd f = s.rd f := id rfl
theorem State.setPdown_pwr (s : State) (d : Pdown) : (s.setPdown d).pwr = { s.pwr with pdown := some d } := id rfl
theorem State.setPdown_chan (s : State) (d : Pdown) (n : Nat) : (s.setPdown d).chan n = s.chan n := rfl

/-- A channel that was halted is in no MOVE, and idle, done or halted. -/
theorem Chan.Aborted.ended {c d : Chan} (h : c.Aborted d) : d.move = none ∧ (d.st = .idle ∨ d.st = .done ∨ d.st = .halted) := by
  obtain ⟨hm, ⟨hr, hw, hs⟩, -⟩ := h
  refine ⟨hm, ?_⟩
  cases e : d.st <;> simp_all

theorem State.ring_of_hre {s t : State} (h : t.hre = s.hre) (n : Nat) : t.ring n = s.ring n := by
  rw [State.ring, h, State.ring]

/-- A flush for a loss of power is asked for, where the Tally can flush and the power-down's flush is still to come. -/
theorem State.flushFor_wants {s : State} {c : Nat} (hc : c = 1 ∨ c = 2) (hd : s.on Reg.TLY_STATUS_DEGRADED = false)
    (hp : ¬ (c = 1 ∧ s.tly.powerDone = true)) : (s.flushFor c).tly.want.isSome = true := by
  simp only [State.flushFor, State.flushTrigger, hd, Bool.false_eq_true, false_and, if_false, if_neg hp, hc, true_and, if_true]
  split
  · split <;> simp
  · split <;> simp

/-! ## Open packets -/

/-- A packet that is open is rewound. -/
def State.rewindChute (s : State) (n : Nat) : State := if (s.chute n).opened.isSome then s.setChute n (s.chute n).rewind else s

theorem State.rewindChute_only {β : Type} {π : State → β} (hU : Unseen 0x400 π) (s : State) (n : Nat) : π (s.rewindChute n) = π s := by
  rw [State.rewindChute]
  exact Unseen.ite (State.setChute_only hU s n _) rfl

theorem Chute.rewind_opened (c : Chute) : c.rewind.opened = none := by
  rw [Chute.rewind]
  split
  · assumption
  · rfl

theorem State.rewindChute_opened (s : State) (n m : Nat) (h : m = n ∨ (s.chute m).opened = none) : ((s.rewindChute n).chute m).opened = none := by
  rw [State.rewindChute]
  split
  · by_cases hm : m = n
    · rw [hm, State.chute_setChute_same, Chute.tested_opened, Chute.rewind_opened]
    · rw [State.chute_setChute_ne hm]
      exact h.resolve_left hm
  · next hn =>
    rcases h with rfl | h
    · simpa using hn
    · exact h

theorem State.foldl_rewindChute_opened (l : List Nat) (s : State) {m : Nat} (h : m ∈ l ∨ (s.chute m).opened = none) :
    ((l.foldl State.rewindChute s).chute m).opened = none := by
  induction l generalizing s with
  | nil => exact h.resolve_left (by simp)
  | cons n t ih =>
    refine ih _ ?_
    rcases h with h | h
    · rcases List.mem_cons.mp h with rfl | h
      · exact .inr (s.rewindChute_opened m m (.inl rfl))
      · exact .inl h
    · exact .inr (s.rewindChute_opened n m (.inr h))

/-- Every chute's open packet is rewound. -/
def State.rewindAll (s : State) : State := (List.range 96).foldl State.rewindChute s

theorem State.rewindAll_only {β : Type} {π : State → β} (hU : Unseen 0x400 π) (s : State) : π s.rewindAll = π s :=
  Unseen.foldl _ (fun a n => State.rewindChute_only hU a n) _ s

theorem State.rewindAll_opened (s : State) {n : Nat} (hn : n < 96) : (s.rewindAll.chute n).opened = none := by
  have hm : n ∈ List.range 96 := List.mem_range.mpr hn
  exact State.foldl_rewindChute_opened _ s (.inl hm)

theorem pdownDescriptorAbortOp_eq {s : State} {d : Pdown} (hd : s.pwr.pdown = some d) (hp : s.pwr.pfailLatched = false) :
    pdownDescriptorAbortOp s = s.abortDescriptors.rewindAll.setPdown { d with descAborted := true } := by
  rw [pdownDescriptorAbortOp, State.pdownStep_eq hd hp]
  unfold State.rewindAll State.rewindChute
  with_reducible rfl

/-- The rail cut of a power-down ends DONE, in DORMER_WATCH. -/
theorem pdownRailCutOp_eq {s : State} {d : Pdown} (hd : s.pwr.pdown = some d) (hp : s.pwr.pfailLatched = false) (hr : d.railCut = false) :
    pdownRailCutOp s = if d.target = .cellar
      then ((s.modeResult St.done d.target.code).vaultDark.toWatch .commanded).setPdown { d with railCut := true }
      else (s.modeResult St.done d.target.code).vaultDark.toWatch .commanded := by
  rw [pdownRailCutOp, State.pdownStep_eq hd hp]
  simp only [hr, Bool.false_eq_true, if_false]

theorem State.railCut_result (s : State) (k : Nat) : ((s.modeResult St.done k).vaultDark.toWatch .commanded).rd Reg.CLK_MODE_RESULT_STATUS = St.done := by
  rw [State.toWatch_rd _ _ (by decide), State.mainDown_rd _ (by decide), State.vaultDark_rd, State.modeResult, State.rd_wr_ne (by decide),
    State.rd_wr_same]
  rfl

/-- Settles O18: each step by its own operation's lemma. -/
theorem powerDown : Obligations.PowerDown := by
  refine ⟨fun s d hup hd hp => ?_, fun s d hup hd hp => ?_, fun s d hup hd hp => ?_, fun s d hup hd hp hr ht => ?_, fun s d hup hd hp hr ht => ?_,
    fun s d hm hd hr hh => ?_, fun s d hd hh => ?_⟩
  · refine Gives.of_main hup rfl ?_
    have hr (n : Nat) : s.abortDescriptors.rewindAll.ring n = s.abortDescriptors.ring n :=
      State.ring_of_hre (State.rewindAll_only (π := State.hre) (unseen_hre (by decide)) _) n
    rw [pdownDescriptorAbortOp_eq hd hp]
    refine ⟨fun n hn hs => ?_, fun n hn => ?_, rfl, ?_⟩
    · rw [State.setPdown_ring, hr]
      exact State.abortDescriptors_aborted hn hs
    · rw [State.setPdown_chute]
      exact State.rewindAll_opened _ hn
    · rw [State.setPdown_mode, State.rewindAll_only (π := State.mode) (unseen_mode (by decide)),
        State.abortDescriptors_only (π := State.mode) (unseen_mode (by decide))]
  · refine Gives.of_main hup rfl ?_
    rw [pdownDrainTimeoutOp, State.pdownStep_eq hd hp, State.setPdown_mode, State.abortAll_only (π := State.mode) (unseen_mode (by decide))]
    simp only [State.setPdown_chan]
    exact ⟨fun n hn => (s.abortAll_aborted hn).ended, fun n hn h => (s.abortAll_aborted hn).moved (Option.isSome_iff_ne_none.mpr h), rfl, trivial⟩
  · refine Gives.of_main hup rfl ?_
    have ho : (s.setPdown { d with outputsOff := true }).outputsStopped = true := by simp [State.outputsStopped, State.setPdown]
    have hpw : (((s.setPdown { d with outputsOff := true }).showMeas).flushFor 2).pwr = { s.pwr with pdown := some { d with outputsOff := true } } := by
      rw [State.flushFor_only (π := State.pwr) (unseen_pwr (by decide)), State.showMeas_pwr]
      rfl
    rw [pdownOutputsStopOp, State.pdownStep_eq hd hp]
    refine ⟨by rw [hpw], by rw [State.outputsStopped, hpw]; simp, ?_, ?_, fun hdeg => .inl ?_⟩
    · rw [State.rd_of_only Reg.RNG_STATUS_MEAS_RUNNING (State.flushFor_only · _ _) (by decide), State.showMeas, State.rd_wr_same, ho,
        Bool.not_true, Bool.and_false]
      rfl
    · rw [State.flushFor_only (π := State.mode) (unseen_mode (by decide)), State.showMeas_mode, State.setPdown_mode]
    · exact State.flushFor_wants (.inr rfl) ((State.on_wr_ne (by decide) _ _).trans hdeg) (fun h => absurd h.1 (by decide))
  · refine Gives.of_main hup rfl ?_
    rw [pdownRailCutOp_eq hd hp hr, ht, if_neg (by decide)]
    simp only [State.toWatch_pwr]
    exact ⟨rfl, trivial, trivial, trivial, trivial, s.railCut_result _⟩
  · refine Gives.of_main hup rfl ?_
    rw [pdownRailCutOp_eq hd hp hr, ht, if_pos rfl]
    simp only [State.setPdown_rd, State.setPdown_mode, State.setPdown_pwr, State.toWatch_pwr, s.railCut_result]
    exact ⟨rfl, trivial, trivial, trivial, trivial⟩
  · refine ⟨_, rfl, ?_⟩
    simp only [pdownCellarEntryOp, hd, hh, hr, hm, Bool.false_eq_true, if_false, and_self, if_true]
    refine ⟨trivial, trivial, trivial, trivial, ?_⟩
    rw [State.rd_mk, State.read_fld, State.rails, State.rd_wr_same]
    rfl
  · refine ⟨_, rfl, ?_⟩
    simp only [pdownCellarEntryOp, hd, hh, if_true]

end Sys2Proof.Machine
end

section
/-! PFAIL handling (O13): the latch, each step of the handling, and the return from it. -/

namespace Sys2Proof.Machine

/-- What is computed from what an observation sees is an observation that sees no more. -/
theorem Unseen.map {β γ : Type} {m : Nat} {π : State → β} (h : Unseen m π) (g : β → γ) : Unseen m fun s => g (π s) := by
  intro k hk
  have hpart := h k hk
  unfold UnseenPart at hpart ⊢
  split
  · next h40 =>
    rw [if_pos h40] at hpart
    exact fun s f v e => congrArg g (hpart s f v e)
  · next h40 =>
    rw [if_neg h40] at hpart
    split at hpart
    case h_33 => trivial
    all_goals exact fun s x => congrArg g (hpart s x)

/-! ## A HOLD of the fleet while PFAIL is latched -/

theorem State.signal_fetchOpen (s : State) (v : Nat) : (s.signal v).hre.fetchOpen = s.hre.fetchOpen := by
  rw [State.signal]
  split
  · rfl
  · split <;> rfl

theorem State.setFleet_fetchOpen (s : State) (l : Level) : (s.setFleet l).hre.fetchOpen = s.hre.fetchOpen := by
  rw [State.setFleet]
  split
  · rfl
  · rw [State.sendState_only (π := State.hre) (unseen_hre (by decide)), State.signal_fetchOpen]

theorem State.modeAfter_pfail {s : State} (h : s.pwr.pfailLatched = true) (stop : Bool) : s.modeAfter stop = s := by
  have he (m : Mode) : s.enterMode m = s := if_pos h
  rw [State.modeAfter]
  simp only [he, ite_self]

/-- With PFAIL latched, a HOLD of the fleet leaves what sees neither the Trapdoor nor what carries its frames and records. -/
theorem State.raiseFleet_hold_of {β : Type} {π : State → β} (hU : Unseen 0x1d0080010440c22 π) {s : State} {c : Fld} (hc : c.blk = 0xC)
    (hset : ∀ (t : State) (l : Level), π (t.setFleet l) = π t) (h : s.pwr.pfailLatched = true) : π (s.raiseFleet false c) = π s := by
  have hstart : π ((s.wr c 1).meetAll none) = π s := (State.meetAll_only (hU.mono (by decide)) _ _).trans (hU.wr (by rw [hc]; decide) s 1)
  have hend (u : State) (hu : u.pwr = s.pwr) (hpi : π u = π s) :
      π ((((u.trapFrame false none).changeRecord).tellPeer false none c).modeAfter false) = π s := by
    rw [State.modeAfter_pfail, State.tellPeer_only (hU.mono (by decide)), State.changeRecord_only (hU.mono (by decide)),
      State.trapFrame_only (hU.mono (by decide)), hpi]
    rw [State.tellPeer_only (π := State.pwr) (unseen_pwr (by decide)), State.changeRecord_only (π := State.pwr) (unseen_pwr (by decide)),
      State.trapFrame_only (π := State.pwr) (unseen_pwr (by decide)), hu, h]
  simp only [State.raiseFleet, Bool.false_eq_true, if_false]
  refine hend _ ?_ ?_
  · rw [State.bump_pwr]
    split
    · exact State.setFleet_only (π := State.pwr) (unseen_pwr (by decide)) ..
    · rfl
  · rw [hU.bump (by decide)]
    split
    · exact (hset ..).trans hstart
    · exact hstart

/-! ## The latch -/

/-- The state with PFAIL latched and the unit's inputs closed, its outputs stopped and its channels told to halt. -/
def State.pfailLatch (s : State) : State :=
  let b : State := { s with
    pwr := { s.pwr with pfailLatched := true, lanOpen := false }, hre := { s.hre with fetchOpen := false }, dsp := { s.dsp with open_ := false } }
  (((b.wr Reg.CLK_LAST_MODE_PFAIL_STAGE 1).overtake).wr Reg.CLK_MODE_STATUS_IN_TRANSIT 1).stopLive.parkAll.showMeas

theorem pfailAssertOp_eq {s : State} (hup : s.Up) (hp : s.pwr.pfailLatched = false) : pfailAssertOp s =
    if s.mode.fleet && !s.twn.mirrored
    then ((s.wrapBy Reg.CLK_PFAIL_COUNT 1).fault Reg.CLK_FAULT_PFAIL_SEEN).pfailLatch.raiseFleet false Reg.TRP_HOLD_CAUSE_PFAIL
    else ((s.wrapBy Reg.CLK_PFAIL_COUNT 1).fault Reg.CLK_FAULT_PFAIL_SEEN).pfailLatch := by
  have hn := Mode.ne_cellar_of_main hup.1
  simp only [pfailAssertOp, if_neg hn, State.fault_mode, State.fault_pwr, State.fault_twn, State.wrapBy_mode, State.wrapBy_pwr, State.wrapBy_twn,
    hup.1, hp, Bool.false_eq_true]
  rfl

/-- What follows the closing of the unit's inputs. -/
def State.pfailStop (s : State) : State := (s.overtake.wr Reg.CLK_MODE_STATUS_IN_TRANSIT 1).stopLive.parkAll.showMeas

theorem State.pfailStop_only {β : Type} {π : State → β} (hU : Unseen 0x3ffbff001000a62e π) (s : State) : π s.pfailStop = π s := by
  rw [State.pfailStop, State.showMeas_only (hU.mono (by decide)), State.parkAll_only (hU.mono (by decide)), State.stopLive_only (hU.mono (by decide)),
    hU.wr (by decide), State.overtake_only (hU.mono (by decide))]

theorem State.pfailStop_hre (s : State) : s.pfailStop.hre = s.hre := by
  rw [State.pfailStop, State.showMeas_hre, State.parkAll_hre, State.stopLive_only (π := State.hre) (unseen_hre (by decide)), State.wr_hre,
    State.overtake_only (π := State.hre) (unseen_hre (by decide))]

theorem State.pfailStop_rd (s : State) {f : Fld} (hf : f.clkFixed) (h : ∀ g ∈ modeRequestFields, f.key ≠ g.key) : s.pfailStop.rd f = s.rd f := by
  rw [State.pfailStop, State.showMeas, State.rd_wr_ne (Fld.key_ne (by rw [hf.1]; decide)), State.parkAll_rd_clkFixed hf,
    State.stopLive_only (π := fun s => s.rd f) (unseen_rd (by decide) (by rw [hf.1]; decide)), State.rd_wr_ne (h _ (by decide)), State.overtake_rd_of h]

theorem State.pfailStop_inTransit (s : State) : s.pfailStop.rd Reg.CLK_MODE_STATUS_IN_TRANSIT = 1 := by
  rw [State.pfailStop, State.showMeas, State.rd_wr_ne (by decide), State.parkAll_rd_clkFixed ⟨by decide, by decide⟩,
    State.rd_of_only Reg.CLK_MODE_STATUS_IN_TRANSIT (State.stopLive_only · _) (by decide), State.rd_wr_same]
  rfl

/-- The state whose inputs a latched PFAIL has closed. -/
def State.pfailClose (s : State) : State :=
  { s with
    pwr := { s.pwr with pfailLatched := true, lanOpen := false }, hre := { s.hre with fetchOpen := false }, dsp := { s.dsp with open_ := false } }

theorem State.pfailLatch_def (s : State) : s.pfailLatch = (s.pfailClose.wr Reg.CLK_LAST_MODE_PFAIL_STAGE 1).pfailStop := id rfl

@[simp] theorem State.pfailLatch_pwr (s : State) : s.pfailLatch.pwr = { s.pwr with pfailLatched := true, lanOpen := false } := by
  rw [State.pfailLatch_def, State.pfailStop_only (π := State.pwr) (unseen_pwr (by decide))]
  rfl

theorem State.pfailLatch_fetchOpen (s : State) : s.pfailLatch.hre.fetchOpen = false := by
  rw [State.pfailLatch_def, State.pfailStop_hre]
  rfl

theorem State.pfailLatch_dsp (s : State) : s.pfailLatch.dsp.open_ = false := by
  rw [State.pfailLatch_def, State.pfailStop_only (π := State.dsp) (unseen_dsp (by decide))]
  rfl

theorem State.pfailLatch_mode (s : State) : s.pfailLatch.mode = s.mode := by
  rw [State.pfailLatch_def, State.pfailStop_only (π := State.mode) (unseen_mode (by decide))]
  rfl

theorem State.pfailLatch_trp (s : State) : s.pfailLatch.trp = s.trp := by
  rw [State.pfailLatch_def, State.pfailStop_only (π := State.trp) (unseen_trp (by decide))]
  rfl

theorem State.pfailLatch_stage (s : State) : s.pfailLatch.rd Reg.CLK_LAST_MODE_PFAIL_STAGE = 1 := by
  rw [State.pfailLatch_def, State.pfailStop_rd _ ⟨by decide, by decide⟩ (by decide), State.rd_wr_same]
  rfl

theorem State.pfailLatch_seen (s : State) : s.pfailLatch.rd Reg.CLK_FAULT_PFAIL_SEEN = s.rd Reg.CLK_FAULT_PFAIL_SEEN := by
  rw [State.pfailLatch_def, State.pfailStop_rd _ ⟨by decide, by decide⟩ (by decide), State.rd_wr_ne (by decide)]
  rfl

theorem State.pfailLatch_inTransit (s : State) : s.pfailLatch.rd Reg.CLK_MODE_STATUS_IN_TRANSIT = 1 := by
  rw [State.pfailLatch_def, State.pfailStop_inTransit]

/-- The HOLD that may follow the latch leaves what the latch left. -/
theorem State.pfailHold_of {β : Type} {π : State → β} (hU : Unseen 0x1d0080010440c22 π) (hset : ∀ (t : State) (l : Level), π (t.setFleet l) = π t)
    (s : State) (b : Bool) :
    π (if b then s.pfailLatch.raiseFleet false Reg.TRP_HOLD_CAUSE_PFAIL else s.pfailLatch) = π s.pfailLatch :=
  Unseen.ite (State.raiseFleet_hold_of hU rfl hset (by simp)) rfl

/-! ## The steps -/

theorem State.pfailStage_chan (s : State) (k n : Nat) : (s.pfailStage k).chan n = s.chan n := rfl
theorem State.pfailStage_mode (s : State) (k : Nat) : (s.pfailStage k).mode = s.mode := rfl

theorem State.pfailStage_rd (s : State) (k : Nat) :
    (s.pfailStage k).rd Reg.CLK_LAST_MODE_PFAIL_STAGE = max k (s.rd Reg.CLK_LAST_MODE_PFAIL_STAGE) % 16 := by
  rw [State.pfailStage, State.rd_wr_same]
  rfl

/-- With PFAIL latched, the main domain's going down keeps the stage. -/
theorem State.mainDown_stage {s : State} (h : s.pwr.pfailLatched = true) (hs : s.rd Reg.CLK_LAST_MODE_PFAIL_STAGE < 16) :
    s.mainDown.rd Reg.CLK_LAST_MODE_PFAIL_STAGE = s.rd Reg.CLK_LAST_MODE_PFAIL_STAGE := by
  have hend (t : State) : (t.wrEach [(Reg.CLK_SRC_STATUS_PLL_CORE_LOCK, 0), (Reg.CLK_SRC_STATUS_PLL_ADC_LOCK, 0),
      (Reg.CLK_SRC_STATUS_PLL_SERDES_LOCK, 0), (Reg.CLK_SRC_STATUS_CORE_ON_RC4M, 0), (Reg.CLK_MODE_STATUS_IN_TRANSIT, 0)]).rd
        Reg.CLK_LAST_MODE_PFAIL_STAGE = t.rd Reg.CLK_LAST_MODE_PFAIL_STAGE := by
    simp only [State.wrEach]
    iterate 5 rw [State.rd_wr_ne (by decide)]
  refine (hend _).trans ?_
  split
  · simp only [State.wrEach]
    rw [State.rd_wr_ne (by decide), State.rd_wr_same]
    exact Nat.mod_eq_of_lt hs
  · rfl

/-- What PFAIL's Larder step notes: the HELD count and the epoch. -/
def State.pfailNote (s : State) : State :=
  { s with nvm := { s.nvm with held := if s.mode.heldZero then 0 else s.rd Reg.LDR_HELD, heldEp := s.rd Reg.GLB_EPOCH } }

theorem pfailLarderFreezeOp_eq {s : State} (h : s.pwr.pfailLatched = true) : pfailLarderFreezeOp s =
    if ((s.pfailNote.pfailStage 3).flushFor 1).tly.powerDone && ((s.pfailNote.pfailStage 3).flushFor 1).tly.flush.isNone
    then ((s.pfailNote.pfailStage 3).flushFor 1).pfailStage 4 else (s.pfailNote.pfailStage 3).flushFor 1 := by
  rw [pfailLarderFreezeOp, h]
  rfl

theorem State.pfailStage_ge {s : State} {k : Nat} (hk : 3 ≤ k) (hk' : k < 16) (hs : s.rd Reg.CLK_LAST_MODE_PFAIL_STAGE ≤ 3) :
    3 ≤ (s.pfailStage k).rd Reg.CLK_LAST_MODE_PFAIL_STAGE := by
  rw [State.pfailStage_rd, Nat.mod_eq_of_lt (by omega)]
  omega

/-- Settles O13, each step by its own operation's lemma. -/
theorem powerFailHandling : Obligations.PowerFailHandling := by
  refine ⟨fun s hup hp => ?_, fun s hup hp hm ht => ?_, fun s hup hp hst => ?_, fun s hup hp => ?_, fun s hup hp hst => ?_, fun s hup hp => ?_,
    fun s hp hm => ?_, fun s hm he ha => ?_⟩
  · refine ⟨_, rfl, ?_⟩
    have hset {β : Type} {π : State → β} (hU : Unseen 0x40010000e00 π) (t : State) (l : Level) : π (t.setFleet l) = π t := State.setFleet_only hU t l
    rw [pfailAssertOp_eq hup hp]
    generalize hu : (s.wrapBy Reg.CLK_PFAIL_COUNT 1).fault Reg.CLK_FAULT_PFAIL_SEEN = u
    generalize (s.mode.fleet && !s.twn.mirrored) = b
    have hseen : u.rd Reg.CLK_FAULT_PFAIL_SEEN = 1 := hu ▸ State.fault_rd _ _ (by decide) (by decide)
    have hmode : u.mode = s.mode := by rw [← hu]; simp
    have hrd (f : Fld) (hb : f.blk = 1) : (if b then u.pfailLatch.raiseFleet false Reg.TRP_HOLD_CAUSE_PFAIL else u.pfailLatch).rd f = u.pfailLatch.rd f :=
      State.pfailHold_of (π := fun s => s.rd f) (unseen_rd (by decide) (by rw [hb]; decide))
        (hset (unseen_rd (by decide) (by rw [hb]; decide))) u b
    dsimp only
    rw [State.pfailHold_of (π := State.pwr) (unseen_pwr (by decide)) (hset (unseen_pwr (by decide))),
      State.pfailHold_of (π := fun s => s.hre.fetchOpen) (unseen_hre (by decide) |>.map (·.fetchOpen)) State.setFleet_fetchOpen,
      State.pfailHold_of (π := State.dsp) (unseen_dsp (by decide)) (hset (unseen_dsp (by decide))),
      State.pfailHold_of (π := State.mode) (unseen_mode (by decide)) (hset (unseen_mode (by decide))),
      hrd _ (by decide), hrd _ (by decide), hrd _ (by decide), State.pfailLatch_pwr, State.pfailLatch_fetchOpen, State.pfailLatch_dsp,
      State.pfailLatch_mode, State.pfailLatch_seen, State.pfailLatch_stage, State.pfailLatch_inTransit, hseen, hmode]
    exact ⟨rfl, rfl, rfl, rfl, rfl, rfl, rfl, rfl⟩
  · refine ⟨_, rfl, ?_⟩
    simp only [pfailAssertOp_eq hup hp, hm, ht, Bool.not_false, Bool.and_self, if_true]
    refine ⟨State.raiseFleet_cause rfl _ _ (by decide) (by decide) (by decide) (by decide) (by decide) (by decide), fun hg => ?_⟩
    refine State.raiseFleet_hold ?_ _
    rw [State.pfailLatch_trp, State.fault_trp, State.wrapBy_trp, hg]
  · refine Gives.of_main hup rfl ?_
    have hst' : max 2 (s.rd Reg.CLK_LAST_MODE_PFAIL_STAGE) < 16 := by omega
    simp only [pfailHoistTimeoutOp, if_pos hp, State.pfailStage_chan, State.pfailStage_mode, State.pfailStage_rd]
    refine ⟨fun n hn => (s.abortAll_aborted hn).ended, fun n hn h => (s.abortAll_aborted hn).moved (Option.isSome_iff_ne_none.mpr h), ?_,
      State.abortAll_only (π := State.mode) (unseen_mode (by decide)) s⟩
    rw [State.abortAll_rd_clkFixed ⟨by decide, by decide⟩]
    exact Nat.mod_eq_of_lt hst'
  · refine Gives.of_main hup rfl ?_
    rw [pfailDescriptorAbortOp, if_pos hp]
    exact ⟨fun n hn hs => State.abortDescriptors_aborted hn hs, s.abortDescriptors_old⟩
  · refine Gives.of_main hup rfl ?_
    have hn {β : Type} {π : State → β} (hU : Unseen 0x2000000080000200 π) (hw : ∀ (t : State) (k : Nat), π (t.pfailStage k) = π t) :
        π (pfailLarderFreezeOp s) = π s.pfailNote := by
      rw [pfailLarderFreezeOp_eq hp]
      refine Unseen.ite ?_ ?_
      · rw [hw, State.flushFor_only hU, hw]
      · rw [State.flushFor_only hU, hw]
    have hflush : ((s.pfailNote.pfailStage 3).flushFor 1).rd Reg.CLK_LAST_MODE_PFAIL_STAGE
        = (s.pfailNote.pfailStage 3).rd Reg.CLK_LAST_MODE_PFAIL_STAGE := State.rd_of_only _ (State.flushFor_only · _ _) (by decide)
    have h3 : (s.pfailNote.pfailStage 3).rd Reg.CLK_LAST_MODE_PFAIL_STAGE = 3 := by
      rw [State.pfailStage_rd, show s.pfailNote.rd Reg.CLK_LAST_MODE_PFAIL_STAGE = s.rd Reg.CLK_LAST_MODE_PFAIL_STAGE from rfl, Nat.max_eq_left hst]
    refine ⟨?_, ?_, ?_, ?_, fun hpd hd => ?_⟩
    · rw [hn (π := State.nvm) (unseen_nvm (by decide)) fun _ _ => rfl]; rfl
    · rw [hn (π := State.nvm) (unseen_nvm (by decide)) fun _ _ => rfl]; rfl
    · rw [hn (π := State.trp) (unseen_trp (by decide)) fun _ _ => rfl]; rfl
    · rw [pfailLarderFreezeOp_eq hp]
      split
      · exact State.pfailStage_ge (by decide) (by decide) (by rw [hflush, h3])
      · rw [hflush, h3]
    · have hw : ((s.pfailNote.pfailStage 3).flushFor 1).tly.want.isSome = true := by
        refine State.flushFor_wants (.inl rfl) ?_ ?_
        · rw [State.pfailStage, State.on_wr_ne (f := Reg.CLK_LAST_MODE_PFAIL_STAGE) (by decide)]
          exact hd
        · rintro ⟨-, h⟩
          exact absurd (hpd.symm.trans h) (by decide)
      rw [pfailLarderFreezeOp_eq hp]
      split
      · exact hw
      · exact hw
  · refine Gives.of_main hup rfl ?_
    rw [pfailOutputsLowOp, if_pos hp]
    refine ⟨rfl, ?_, ?_⟩
    · simp [State.stopOut]
    · simp [State.driveRadio]
  · refine ⟨_, rfl, ?_⟩
    rw [pfailRailCutOp, if_neg (by simp [hp, hm])]
    refine ⟨rfl, ?_, ?_, ?_, rfl, ?_⟩
    · simp [State.toWatch_pwr]
    · simp [State.toWatch_pwr]
    · simp [State.toWatch_pwr]
    · rw [State.rd_mk, State.read_fld, State.toWatch_rd _ _ (by decide)]
      have h5 : (s.wr Reg.CLK_LAST_MODE_PFAIL_STAGE 5).vaultDark.rd Reg.CLK_LAST_MODE_PFAIL_STAGE = 5 := by
        rw [State.vaultDark_rd, State.rd_wr_same]
        rfl
      rw [State.mainDown_stage (by simpa using hp) (by rw [h5]; decide), h5]
  · refine ⟨_, rfl, ?_⟩
    simp only [pfailClearOp, if_pos (And.intro hm (And.intro he ha))]
    refine ⟨rfl, ?_, ?_, ?_⟩
    · simp [State.startBoot_pwr, hm]
    · simp [State.startBoot_pwr, hm, causePfail, causeSysRst]
    · rw [State.startBoot_rd _ _ (by decide), State.recordWake_rd _ _ (by decide) (by decide)]

end Sys2Proof.Machine
end

section
/-! Mode requests (O17): the gate that each request passes, and what an accepted one does. -/

namespace Sys2Proof.Machine

/-! ## Mode changes -/

theorem Unseen.gov_trk {β : Type} {m : Nat} {π : State → β} (h : Unseen m π) (b : m.testBit 20 = true) (c : m.testBit 21 = true) (s : State) (g : Gov)
    (k : Trk) : π { s with gov := g, trk := k } = π s :=
  (h.trk b { s with gov := g } k).trans (h.gov c s g)

/-- A change to a mode other than FAULT_SAFE leaves what sees neither the mode, the frozen tasks and loops nor how the caster shows. -/
theorem State.enterMode_of {β : Type} {π : State → β} (hU : Unseen 0x300000 π) {m : Mode} (henter : ∀ t : State, π (t.enter m) = π t)
    (hcaster : ∀ t : State, π t.showCaster = π t) (hm : m ≠ .faultSafe) (s : State) : π (s.enterMode m) = π s := by
  have hcor : π (s.enter m).corMode = π s := by
    rw [State.corMode, if_neg (by rwa [State.enter_mode]), hcaster, henter]
  simp only [State.enterMode, if_neg hm]
  split
  · rfl
  · split
    · exact (hU.gov_trk (by decide) (by decide) _ _ _).trans hcor
    · split
      · split
        · exact hcor
        · exact (hU.trk (by decide) _ _).trans hcor
      · exact hcor

theorem State.showCaster_rd (s : State) {f : Fld} (h : ∀ g ∈ [Reg.COR_CLIENTS, Reg.COR_STATUS_CASTER_OPEN, Reg.PIN_PANTRY_STATUS_CASTER_OPEN],
    f.key ≠ g.key) : s.showCaster.rd f = s.rd f := by
  simp only [List.forall_mem_cons] at h
  rw [State.showCaster, State.rd_wr_ne h.2.2.1, State.rd_wr_ne h.2.1, State.rd_wr_ne h.1]

/-- A survey begins with empty sums, its state shown as running. -/
theorem State.enterSurvey_survey (s : State) : s.enterSurvey.cor.survey = Survey.zero := by
  rw [State.enterSurvey, State.enterMode_of (π := fun s => s.cor.survey) (m := .survey) ((unseen_cor (by decide)).map (·.survey))
    (fun t => congrArg Cor.survey (State.enter_only (π := State.cor) (unseen_cor (by decide)) t _)) (fun _ => rfl) (by decide)]
  rfl

theorem State.enterSurvey_state (s : State) : s.enterSurvey.rd Reg.COR_SURVEY_STATUS_STATE = 1 := by
  rw [State.enterSurvey, State.enterMode_of (π := fun s => s.rd Reg.COR_SURVEY_STATUS_STATE) (m := .survey) (unseen_rd (by decide) (by decide))
    (fun t => State.rd_enter_ne (by decide) t _) (fun _ => State.showCaster_rd _ (by decide)) (by decide), State.rd_wr_same]
  rfl

theorem State.enterSurvey_elapsed (s : State) : s.enterSurvey.rd Reg.COR_SURVEY_STATUS_ELAPSED = 0 := by
  rw [State.enterSurvey, State.enterMode_of (π := fun s => s.rd Reg.COR_SURVEY_STATUS_ELAPSED) (m := .survey) (unseen_rd (by decide) (by decide))
    (fun t => State.rd_enter_ne (by decide) t _) (fun _ => State.showCaster_rd _ (by decide)) (by decide), State.rd_wr_ne (by decide)]
  simp only [State.wrAll]
  rw [State.rd_wr_ne (by decide), State.rd_wr_same]
  rfl

theorem State.enterSurvey_mode {s : State} (h : s.pwr.pfailLatched = false) : s.enterSurvey.mode = .survey :=
  State.enterMode_mode (s := ((({ s with cor := { s.cor with survey := Survey.zero } } : State).wrAll 0
    [Reg.COR_SURVEY_STATUS_ELAPSED, Reg.COR_SURVEY_STATUS_SIGMA]).wr Reg.COR_SURVEY_STATUS_STATE 1)) h .survey

/-! ## The gate of a request -/

theorem State.modeBusy_parts {s : State} (h : s.modeBusy = false) :
    s.on Reg.CLK_MODE_STATUS_IN_TRANSIT = false ∧ s.pwr.pfailLatched = false ∧ s.pwr.pdown = none := by
  simpa [State.modeBusy, and_assoc] using h

/-- What a request asks, shown in CLK_MODE_REQ. -/
def State.asked (s : State) (k : Nat) : State := s.wr Reg.CLK_MODE_REQ_TARGET k

theorem State.asked_rd (s : State) (k : Nat) {f : Fld} (h : f.key ≠ Reg.CLK_MODE_REQ_TARGET.key) : (s.asked k).rd f = s.rd f := State.rd_wr_ne h _ _
theorem State.asked_on (s : State) (k : Nat) {f : Fld} (h : f.key ≠ Reg.CLK_MODE_REQ_TARGET.key) : (s.asked k).on f = s.on f := State.on_wr_ne h _ _
@[simp] theorem State.asked_mode (s : State) (k : Nat) : (s.asked k).mode = s.mode := rfl
@[simp] theorem State.asked_pwr (s : State) (k : Nat) : (s.asked k).pwr = s.pwr := rfl
@[simp] theorem State.asked_hre (s : State) (k : Nat) : (s.asked k).hre = s.hre := rfl
@[simp] theorem State.asked_trp (s : State) (k : Nat) : (s.asked k).trp = s.trp := rfl
@[simp] theorem State.asked_standstill (s : State) (k : Nat) : (s.asked k).standstill = s.standstill := rfl
@[simp] theorem State.asked_isPending (s : State) (k : Nat) (f : Fld) : (s.asked k).isPending f = s.isPending f := rfl
@[simp] theorem State.asked_idle (s : State) (k : Nat) : (s.asked k).idle = s.idle := rfl
@[simp] theorem State.asked_life (s : State) (k : Nat) : (s.asked k).life = s.life := s.asked_rd k (by decide)

@[simp] theorem State.asked_refValid (s : State) (k : Nat) : (s.asked k).refValid = s.refValid := by
  rw [State.refValid, State.refValid, s.asked_on k (by decide)]
  rfl

@[simp] theorem State.asked_canWake (s : State) (k : Nat) (m : Mode) : (s.asked k).canWake m = s.canWake m := by
  simp only [State.canWake, s.asked_on k (f := Reg.CLK_WAKE_CFG_WAKE_IN0_EN) (by decide), s.asked_on k (f := Reg.CLK_WAKE_CFG_WAKE_IN1_EN) (by decide),
    s.asked_on k (f := Reg.CLK_WAKE_CFG_DORMER_EN) (by decide), State.asked_pwr]

theorem State.asked_modeBusy (s : State) (k : Nat) : (s.asked k).modeBusy = s.modeBusy := by
  rw [State.modeBusy, State.modeBusy, s.asked_on k (by decide), State.asked_pwr]

/-- A request that passes the gate does what its row says. -/
theorem State.modeReq_eq {s : State} {k : Nat} {row : State → Bool} (hc : s.hre.claimed = true) (hb : s.modeBusy = false)
    (hr : row (s.asked k) = true) (body : State → State) : s.modeReq k row body = body (s.asked k) := by
  have hb' := (s.asked_modeBusy k).trans hb
  have hc' : (s.asked k).hre.claimed = true := hc
  rw [State.asked] at hb' hc' hr
  simp only [State.modeReq, hc', hb', hr, Bool.not_true, Bool.false_eq_true, if_false]
  rfl

theorem State.modeResult_status (s : State) (st k : Nat) : (s.modeResult st k).rd Reg.CLK_MODE_RESULT_STATUS = st % 256 := by
  rw [State.modeResult, State.rd_wr_ne (by decide), State.rd_wr_same]
  rfl

/-! ## Power-down -/

/-- The unit's inputs closed for a power-down. -/
def State.pdownClose (s : State) (target : Mode) (now : Bool) : State :=
  { s with pwr := { s.pwr with pdown := some ⟨target, false, now, false, false⟩, lanOpen := false }
           hre := { s.hre with fetchOpen := false }, dsp := { s.dsp with open_ := false } }

/-- The state in which an accepted power-down leaves the unit. -/
def State.pdownParked (s : State) (target : Mode) (now : Bool) : State :=
  (((s.pdownClose target now).wr Reg.CLK_MODE_STATUS_IN_TRANSIT 1).modeResult St.pending target.code).parkAll

theorem State.startPdown_eq {s : State} {m : Mode} (h : s.canWake m = true) :
    s.startPdown m = if decide (s.rd Reg.CLK_PDOWN_CFG_DRAIN_TIMEOUT = 0) then (s.pdownParked m (decide (s.rd Reg.CLK_PDOWN_CFG_DRAIN_TIMEOUT = 0))).abortAll
      else s.pdownParked m (decide (s.rd Reg.CLK_PDOWN_CFG_DRAIN_TIMEOUT = 0)) := by
  rw [State.startPdown, h]
  rfl

theorem State.startPdown_of {β : Type} {π : State → β} (habort : ∀ t : State, π t.abortAll = π t) (hpark : ∀ t : State, π t.parkAll = π t) {s : State}
    {m : Mode} (h : s.canWake m = true) : π (s.startPdown m) = π (((s.pdownClose m (decide (s.rd Reg.CLK_PDOWN_CFG_DRAIN_TIMEOUT = 0))).wr
      Reg.CLK_MODE_STATUS_IN_TRANSIT 1).modeResult St.pending m.code) := by
  rw [State.startPdown_eq h]
  exact Unseen.ite ((habort _).trans (hpark _)) (hpark _)

/-- A power-down that is accepted: PENDING, in transition, the unit's inputs closed. -/
theorem State.startPdown_accepted {s : State} {m : Mode} (h : s.canWake m = true) :
    (s.startPdown m).rd Reg.CLK_MODE_RESULT_STATUS = St.pending ∧ (s.startPdown m).rd Reg.CLK_MODE_STATUS_IN_TRANSIT = 1 ∧
      (s.startPdown m).pwr.pdown = some ⟨m, false, decide (s.rd Reg.CLK_PDOWN_CFG_DRAIN_TIMEOUT = 0), false, false⟩ ∧
      (s.startPdown m).pwr.lanOpen = false ∧ (s.startPdown m).hre.fetchOpen = false ∧ (s.startPdown m).dsp.open_ = false ∧
      (s.startPdown m).mode = s.mode := by
  have hrd {f : Fld} (hf : f.clkFixed) := State.startPdown_of (π := fun s => s.rd f) (State.abortAll_rd_clkFixed hf) (State.parkAll_rd_clkFixed hf) h
  have hu {β : Type} {π : State → β} (hU : Unseen 0x3ffbff000000a62e π) :=
    State.startPdown_of (π := π) (State.abortAll_only hU) (State.parkAll_only hU) h
  rw [hrd ⟨by decide, by decide⟩, hrd ⟨by decide, by decide⟩, hu (π := State.pwr) (unseen_pwr (by decide)),
    State.startPdown_of (π := State.hre) State.abortAll_hre State.parkAll_hre h, hu (π := State.dsp) (unseen_dsp (by decide)),
    hu (π := State.mode) (unseen_mode (by decide)), State.modeResult_status, State.rd_modeResult_ne (by decide) (by decide),
    State.rd_wr_same]
  simp only [State.modeResult_pwr, State.modeResult_hre, State.modeResult_dsp, State.modeResult_mode, State.wr_pwr, State.wr_hre, State.wr_dsp,
    State.wr_mode]
  exact ⟨rfl, rfl, rfl, rfl, rfl, rfl, rfl⟩

/-! ## The fleet starts -/

/-- The state that FLEET_START leaves in FLEET_RUN, the fleet's state still to follow. -/
def State.fleetStarted (s : State) : State :=
  let a : State := { s with trp := { s.trp with mark := false }, twn := { s.twn with arb := false } }
  (((a.wr Reg.TRP_HOLD_CAUSE_IDLE 0).wr Reg.CLK_MODE_STATUS_IN_TRANSIT 0).modeResult St.done 6).enterMode .fleetRun

theorem State.startFleet_eq (s : State) :
    s.startFleet = if s.fleetStarted.anyHold then s.fleetStarted.enterMode .fleetHold else s.fleetStarted.setFleet .go := rfl

theorem State.fleetStarted_pwr (s : State) : s.fleetStarted.pwr = s.pwr := by
  rw [State.fleetStarted, State.enterMode_pwr]
  rfl

theorem State.fleetStarted_twn (s : State) : s.fleetStarted.twn = { s.twn with arb := false } := by
  rw [State.fleetStarted, State.enterMode_twn, State.modeResult_twn]
  rfl

theorem State.fleetStarted_mode {s : State} (h : s.pwr.pfailLatched = false) : s.fleetStarted.mode = .fleetRun := by
  rw [State.fleetStarted]
  exact State.enterMode_mode (by simpa using h) _

theorem State.fleetStarted_rd (s : State) {f : Fld} (hb : f.blk = 0xC) (h : f.key ≠ Reg.TRP_HOLD_CAUSE_IDLE.key) : s.fleetStarted.rd f = s.rd f := by
  have hclk {g : Fld} (hg : g.blk = 1) : f.key ≠ g.key := Fld.key_ne (by rw [hb, hg]; decide)
  rw [State.fleetStarted, State.enterMode_rd hb, State.rd_modeResult_ne (hclk rfl) (hclk rfl), State.rd_wr_ne (hclk rfl), State.rd_wr_ne h]
  rfl

theorem State.fleetStarted_idle (s : State) : s.fleetStarted.rd Reg.TRP_HOLD_CAUSE_IDLE = 0 := by
  rw [State.fleetStarted, State.enterMode_rd (by decide), State.rd_modeResult_ne (by decide) (by decide), State.rd_wr_ne (by decide), State.rd_wr_same]
  rfl

theorem State.fleetStarted_result (s : State) : s.fleetStarted.rd Reg.CLK_MODE_RESULT_STATUS = St.done := by
  rw [State.fleetStarted, State.rd_of_only Reg.CLK_MODE_RESULT_STATUS (State.enterMode_only · _ _) (by decide), State.modeResult_status]
  rfl

/-- A cause of HOLD other than IDLE. -/
theorem State.fleetStarted_anyHold (s : State) :
    s.fleetStarted.anyHold = true ↔ ∃ f ∈ holdCauses, f ≠ Reg.TRP_HOLD_CAUSE_IDLE ∧ s.on f = true := by
  have hblk : ∀ f ∈ holdCauses, f.blk = 0xC := by decide
  have hkey : ∀ f ∈ holdCauses, f ≠ Reg.TRP_HOLD_CAUSE_IDLE → f.key ≠ Reg.TRP_HOLD_CAUSE_IDLE.key := by decide
  rw [State.anyHold, List.any_eq_true]
  refine exists_congr fun f => and_congr_right fun hf => ?_
  by_cases hi : f = Reg.TRP_HOLD_CAUSE_IDLE
  · rw [hi, State.on, State.fleetStarted_idle]
    simp
  · rw [State.on, State.fleetStarted_rd s (hblk f hf) (hkey f hf hi), State.on]
    simp [hi]

theorem State.startFleet_rd (s : State) {f : Fld} (hb : f.blk = 0xC ∨ f.blk = 1) : s.startFleet.rd f = s.fleetStarted.rd f := by
  have hu : Unseen (0xa0008c00823006e0 ||| 0x40010000e00) fun s => s.rd f := unseen_rd (by decide) (by rcases hb with h | h <;> rw [h] <;> decide)
  rw [State.startFleet_eq]
  split
  · exact State.enterMode_only (hu.mono (by decide)) _ _
  · exact State.setFleet_only (hu.mono (by decide)) _ _

theorem State.sendState_arb (s : State) : s.sendState.twn.arb = s.twn.arb := by
  rw [State.sendState]
  split
  · simp only [State.linkSend]
    split
    · rfl
    · rw [State.linkPut]
      exact congrArg (·.arb) (State.linkChute_only (π := State.twn) (unseen_twn (by decide)) _ _ _ _)
  · rfl

theorem State.startFleet_arb (s : State) : s.startFleet.twn.arb = false := by
  have harb : s.fleetStarted.twn.arb = false := by rw [s.fleetStarted_twn]
  rw [State.startFleet_eq]
  split
  · rw [State.enterMode_twn, harb]
  · rw [State.setFleet]
    split
    · exact harb
    · rw [State.sendState_arb, State.signal_twn]
      exact harb

/-- FLEET_START as it takes effect: DONE, IDLE cleared; FLEET_RUN at GO, or FLEET_HOLD under another cause. -/
theorem State.startFleet_effect {s : State} (h : s.pwr.pfailLatched = false) :
    s.startFleet.rd Reg.CLK_MODE_RESULT_STATUS = St.done ∧ s.startFleet.rd Reg.TRP_HOLD_CAUSE_IDLE = 0 ∧
      ((∀ f ∈ holdCauses, f ≠ Reg.TRP_HOLD_CAUSE_IDLE → s.on f = false) → s.startFleet.mode = .fleetRun ∧ s.startFleet.trp.fleet = .go) ∧
      ((∃ f ∈ holdCauses, f ≠ Reg.TRP_HOLD_CAUSE_IDLE ∧ s.on f = true) → s.startFleet.mode = .fleetHold) := by
  refine ⟨?_, ?_, fun hn => ?_, fun hy => ?_⟩
  · rw [State.startFleet_rd _ (by decide), State.fleetStarted_result]
  · rw [State.startFleet_rd _ (by decide), State.fleetStarted_idle]
  · have hno : ¬ s.fleetStarted.anyHold = true := by
      rw [State.fleetStarted_anyHold]
      rintro ⟨f, hf, hi, hon⟩
      rw [hn f hf hi] at hon
      cases hon
    rw [State.startFleet_eq, if_neg hno, State.setFleet_only (π := State.mode) (unseen_mode (by decide)), State.fleetStarted_mode h]
    exact ⟨rfl, State.setFleet_fleet _ _⟩
  · rw [State.startFleet_eq, if_pos (s.fleetStarted_anyHold.mpr hy), State.enterMode_mode (by rw [s.fleetStarted_pwr, h])]

/-! ## The other requests -/

theorem State.releaseAll_runs (s : State) : (s.releaseAll none).ldr.runs = [] := by
  have hshow (t : State) : t.showRobots.ldr = t.ldr := State.showRobots_only (π := State.ldr) (unseen_ldr (by decide)) t
  have hdrop (t : State) : t.dropGrants.ldr.runs = t.ldr.runs := rfl
  have hadd (t : State) (f : Fld) (k : Nat) : (t.addTo f k).ldr = t.ldr := rfl
  have htake (t : State) (f : Fld) (k : Nat) : (t.takeFrom f k).ldr = t.ldr := rfl
  simp only [State.releaseAll, hshow, hdrop, hadd, htake, State.wrapBy_ldr]
  simp

/-- The power states as a restart leaves them. -/
def Power.restarted (p : Power) (c : Nat) : Power :=
  { p with mainPowered := false, pdown := none, lanOpen := false, porDone := true, railEnMain := true, nextCause := p.nextCause ||| c }

theorem State.restart_eq {s : State} (h : s.pwr.pfailLatched = false) (c : Nat) :
    s.restart c = { s.mainDown with mode := Mode.boot, prev := s.mode, pwr := s.pwr.restarted c } := by
  simp only [State.restart, h, Bool.false_eq_true, if_false, State.mainDown_pwr, Power.restarted]

theorem modeReqFleetStartOp_eq {s : State} (hc : s.hre.claimed = true) (hb : s.modeBusy = false) (hm : s.mode = .hostedIdle) (hl : s.life = 2)
    (hp : s.isPending Reg.LDR_MAP_COMMIT_RESULT = false) (ht : s.on Reg.CLK_ADMIT_STATUS_TABLES_COMMITTED = true) (hr : s.refValid = true)
    (hf : s.trp.fleet ≠ .stop) : modeReqFleetStartOp s =
      if !s.on Reg.FJR_CFG_TWIN_EN then (s.asked 6).startFleet
      else if s.on Reg.FJR_STATUS_CLAIM_IN then (s.asked 6).modeResult St.conflict 6
      else (({ s.asked 6 with twn := { s.twn with arb := true } } : State).wr Reg.CLK_MODE_STATUS_IN_TRANSIT 1).modeResult St.pending 6 := by
  have hidle : s.idle = true := by rw [State.idle, hm]; rfl
  have hf' : (s.trp.fleet == .stop) = false := by cases h : s.trp.fleet <;> simp_all
  rw [modeReqFleetStartOp, State.modeReq_eq hc hb (by simp [hidle, hl])]
  simp only [State.asked_isPending, hp, State.asked_on s 6 (f := Reg.CLK_ADMIT_STATUS_TABLES_COMMITTED) (by decide), ht, State.asked_refValid, hr,
    State.asked_trp, hf', Bool.not_true, Bool.or_false, Bool.false_eq_true, if_false, State.asked_on s 6 (f := Reg.FJR_CFG_TWIN_EN) (by decide),
    State.asked_on s 6 (f := Reg.FJR_STATUS_CLAIM_IN) (by decide)]
  rfl

theorem State.asked_holdCauses (s : State) (k : Nat) : ∀ f ∈ holdCauses, (s.asked k).on f = s.on f := by
  have hkey : ∀ f ∈ holdCauses, f.key ≠ Reg.CLK_MODE_REQ_TARGET.key := by decide
  exact fun f hf => s.asked_on k (hkey f hf)

/-- A request that starts a power-down. -/
theorem gives_startPdown {s : State} {m : Mode} (hm : s.mode = .hostedIdle) (hw : s.canWake m = true) (k : Nat) :
    ((s.asked k).startPdown m).rd Reg.CLK_MODE_RESULT_STATUS = St.pending ∧ ((s.asked k).startPdown m).rd Reg.CLK_MODE_STATUS_IN_TRANSIT = 1 ∧
      ((s.asked k).startPdown m).pwr.pdown = some ⟨m, false, decide (s.rd Reg.CLK_PDOWN_CFG_DRAIN_TIMEOUT = 0), false, false⟩ ∧
      ((s.asked k).startPdown m).pwr.lanOpen = false ∧ ((s.asked k).startPdown m).hre.fetchOpen = false ∧
      ((s.asked k).startPdown m).dsp.open_ = false ∧ ((s.asked k).startPdown m).mode = .hostedIdle := by
  have h := State.startPdown_accepted (s := s.asked k) (m := m) (by rw [State.asked_canWake, hw])
  rwa [s.asked_rd k (f := Reg.CLK_PDOWN_CFG_DRAIN_TIMEOUT) (by decide), State.asked_mode, hm] at h

/-- Settles O17: the gate once, then each request by what its row does. -/
theorem modeRequests : Obligations.ModeRequests := by
  refine ⟨fun s hup hc hb hm hw => ?_, fun s hup hc hb hm hw => ?_, fun s hup hc hb hm hw => ?_, fun s hup hc hb hm => ?_, fun s hup hc hb hm => ?_,
    fun s hup hc hb hm hst => ?_, fun s hup hc hb hm hl hp ht hr hf hen => ?_, fun s hup hc hb hm hl hp ht hr hf hen hci => ?_, fun s hup hc => ?_,
    fun s hup hc ht => ?_, fun s hup ha hst hse hp => ?_, fun s hup ha hl => ?_⟩
  · refine Gives.of_main hup rfl ?_
    rw [modeReqCellarOp, State.modeReq_eq hc hb (by rw [State.asked_idle, State.idle, hm]; rfl)]
    exact gives_startPdown hm hw 0
  · refine Gives.of_main hup rfl ?_
    rw [modeReqDormerWatchOp, State.modeReq_eq hc hb (by rw [State.asked_idle, State.idle, hm]; rfl)]
    exact gives_startPdown hm hw 1
  · refine Gives.of_main hup rfl ?_
    rw [modeReqDormerWatchOp, State.modeReq_eq hc hb (by rw [State.asked_idle, State.idle, hm]; rfl), State.startPdown, State.asked_canWake, hw]
    simp only [Bool.not_false, if_true, State.modeResult_status, State.modeResult_pwr, State.modeResult_mode, State.modeResult_hre]
    exact ⟨rfl, rfl, hm, rfl⟩
  · refine Gives.of_main hup rfl ?_
    obtain ⟨-, hp, -⟩ := State.modeBusy_parts hb
    rw [modeReqRestartOp, State.modeReq_eq hc hb (by rcases hm with h | h | h <;> simp [State.idle, h]), State.restart_eq (by simpa using hp)]
    refine ⟨?_, rfl, rfl, rfl, rfl, rfl⟩
    rw [State.rd_mk, State.read_fld, State.mainDown_rd _ (by decide), State.modeResult_status]
    rfl
  · refine Gives.of_main hup rfl ?_
    obtain ⟨-, hp, -⟩ := State.modeBusy_parts hb
    rw [modeReqSurveyOp, State.modeReq_eq hc hb (by rw [State.asked_idle, State.idle, hm]; rfl)]
    refine ⟨?_, State.enterSurvey_mode (by simpa using hp), State.enterSurvey_state _, State.enterSurvey_elapsed _, State.enterSurvey_survey _⟩
    rw [State.rd_of_only Reg.CLK_MODE_RESULT_STATUS (State.enterSurvey_only · _) (by decide), State.modeResult_status]
    rfl
  · refine Gives.of_main hup rfl ?_
    obtain ⟨-, hp, -⟩ := State.modeBusy_parts hb
    rw [modeReqFleetStopOp, State.modeReq_eq hc hb (by simp [hm]), State.asked_standstill, hst]
    simp only [Bool.not_true, Bool.false_eq_true, if_false, State.modeResult_status, State.modeResult_mode, State.modeResult_ldr, State.wr_mode,
      State.wr_ldr]
    refine ⟨rfl, ?_, ?_, State.releaseAll_runs _⟩
    · rw [State.releaseAll_only (π := State.mode) (unseen_mode (by decide)), State.enterMode_mode]
      rw [State.leaveCommitting_only (π := State.pwr) (unseen_pwr (by decide))]
      simpa using hp
    · rw [State.rd_modeResult_ne (by decide) (by decide), State.rd_wr_same]
      rfl
  · refine Gives.of_main hup rfl ?_
    obtain ⟨-, hpf, -⟩ := State.modeBusy_parts hb
    rw [modeReqFleetStartOp_eq hc hb hm hl hp ht hr hf, hen]
    obtain ⟨hd, hi, hgo, hhold⟩ := State.startFleet_effect (s := s.asked 6) (by simpa using hpf)
    refine ⟨hd, hi, fun h => hgo fun f hf hne => (s.asked_holdCauses 6 f hf).trans (h f hf hne), ?_⟩
    rintro ⟨f, hf, hne, hon⟩
    exact hhold ⟨f, hf, hne, (s.asked_holdCauses 6 f hf).trans hon⟩
  · refine Gives.of_main hup rfl ?_
    rw [modeReqFleetStartOp_eq hc hb hm hl hp ht hr hf, hen, hci]
    simp only [Bool.not_true, Bool.false_eq_true, if_false, State.modeResult_status, State.modeResult_mode, State.modeResult_twn, State.wr_mode,
      State.wr_twn]
    refine ⟨rfl, ?_, trivial, hm⟩
    rw [State.rd_modeResult_ne (by decide) (by decide), State.rd_wr_same]
    rfl
  · refine Gives.of_main hup rfl ?_
    simp only [modeReqFleetStartOp, State.modeReq, State.wr_hre, hc, Bool.not_false, if_true, State.modeResult_status, State.modeResult_mode,
      State.modeResult_trp, State.wr_mode, State.wr_trp]
    exact ⟨rfl, trivial, trivial⟩
  · refine Gives.of_main hup rfl ?_
    have hb : (s.wr Reg.CLK_MODE_REQ_TARGET 6).modeBusy = true := (s.asked_modeBusy 6).trans (by simp [State.modeBusy, ht])
    simp only [modeReqFleetStartOp, State.modeReq, State.wr_hre, hc, hb, Bool.not_true, Bool.false_eq_true, if_false, if_true, State.modeResult_status,
      State.modeResult_mode, State.modeResult_trp, State.wr_mode, State.wr_trp]
    exact ⟨rfl, trivial, trivial⟩
  · refine Gives.of_main hup rfl ?_
    simp only [claimArbitrationEndOp, ha, hse, hst, Bool.not_true, Bool.or_self, Bool.false_eq_true, if_false]
    obtain ⟨hd, hi, hgo, hhold⟩ := State.startFleet_effect hp
    exact ⟨hd, hi, s.startFleet_arb, hgo, hhold⟩
  · refine Gives.of_main hup rfl ?_
    simp only [claimArbitrationEndOp, ha, hl, Bool.not_true, Bool.false_eq_true, if_false, if_true, State.modeResult_status, State.modeResult_mode,
      State.modeResult_trp, State.modeResult_twn, State.wr_mode, State.wr_trp, State.wr_twn]
    refine ⟨rfl, ?_, trivial, trivial, trivial⟩
    rw [State.rd_modeResult_ne (by decide) (by decide), State.rd_wr_same]
    rfl

end Sys2Proof.Machine
end

section
/-! The admission ladder (O19). -/

namespace Sys2Proof.Machine

theorem mem_insertNat {n a : Nat} {l : List Nat} : a ∈ insertNat n l ↔ a = n ∨ a ∈ l := by
  induction l with
  | nil => simp [insertNat]
  | cons b t ih =>
    rw [insertNat]
    split
    · simp
    · split
      · next h => subst h; simp
      · simp [ih, or_left_comm]

theorem mem_foldl_insertNat {a : Nat} (l s : List Nat) : a ∈ l.foldl (fun (l : List Nat) c => insertNat c l) s ↔ a ∈ l ∨ a ∈ s := by
  induction l generalizing s with
  | nil => simp
  | cons b t ih => simp [ih, mem_insertNat, or_assoc, or_left_comm]

/-! ## The locks -/

theorem pllLockBootOp_eq {s : State} (hm : s.mode = .boot) (hf : s.rd Reg.CLK_SRC_STATUS_REFCLK_FREQ ≠ 3)
    (hr : s.on Reg.CLK_SRC_STATUS_REFCLK_PRESENT = true) : pllLockBootOp s =
      s.adcRuns.wrEach [(Reg.CLK_SRC_STATUS_PLL_CORE_LOCK, 1), (Reg.CLK_SRC_STATUS_PLL_SERDES_LOCK, 1), (Reg.CLK_SRC_STATUS_CORE_ON_RC4M, 0)] := by
  rw [pllLockBootOp, if_neg (by simp [hm, hf, hr])]

theorem State.adcRuns_meas (s : State) : s.adcRuns.rd Reg.RNG_STATUS_MEAS_RUNNING = bit (s.upd.image && !s.outputsStopped) := by
  have hlock : (s.wrEach [(Reg.CLK_SRC_STATUS_PLL_ADC_LOCK, 1), (Reg.RNG_STATUS_ADC_A_OK, 1), (Reg.RNG_STATUS_ADC_B_OK, 1)]).on
      Reg.CLK_SRC_STATUS_PLL_ADC_LOCK = true := by
    have h := State.rd_wrEach_mem (p := (Reg.CLK_SRC_STATUS_PLL_ADC_LOCK, 1))
      [(Reg.CLK_SRC_STATUS_PLL_ADC_LOCK, 1), (Reg.RNG_STATUS_ADC_A_OK, 1), (Reg.RNG_STATUS_ADC_B_OK, 1)] (by simp) (by decide) s
    rw [State.on, h]
    rfl
  rw [State.adcRuns, State.showMeas, State.rd_wr_same, hlock, Bool.true_and]
  cases h : s.upd.image && !s.outputsStopped
  · exact congrArg (fun b => bit b % 2) h
  · exact congrArg (fun b => bit b % 2) h

/-! ## The map -/

/-- The words that the memory test names, in order and once each. -/
def State.badCells (s : State) (words buckets : List Nat) : List Nat :=
  (words ++ buckets.flatMap s.bucketCells).foldl (fun (l : List Nat) c => insertNat c l) []

/-- The map after the memory test. -/
def State.mapTested (s : State) (words buckets grants : List Nat) : State :=
  { s with ldr := { s.ldr with blocked := (s.badCells words buckets).filter fun c => decide (c < s.cellCount)
                               badWords := ((s.badCells words buckets).filter fun c => decide (c ≥ s.cellCount)).map fun c =>
                                 s.rd Reg.LDR_MAP_BASE_ADDR + 8 * c
                               badGrant := grants } }

theorem memoryTestCompleteOp_eq {s : State} (hm : s.mode = .boot) (hi : s.upd.image = true) (words buckets grants : List Nat) :
    memoryTestCompleteOp words buckets grants s =
      (s.mapTested words buckets grants).wrEach
        [(Reg.LDR_BLOCKED_CELLS, (s.mapTested words buckets grants).ldr.blocked.length),
         (Reg.LDR_FREE, 64 * (s.mapTested words buckets grants).cellCount - 64 * (s.mapTested words buckets grants).ldr.blocked.length),
         (Reg.LDR_SLOT_NOW, slotOf (s.mapTested words buckets grants).slotMs (s.mapTested words buckets grants).now),
         (Reg.LDR_STATUS_SLOT_POS, slotOf (s.mapTested words buckets grants).slotMs (s.mapTested words buckets grants).now % 64),
         (Reg.LDR_STATUS_MAP_READY, 1)] := by
  rw [memoryTestCompleteOp, if_neg (by simp [hm, hi])]
  rfl

theorem State.mem_mapTested {s : State} {words buckets grants : List Nat} {c : Nat} :
    c ∈ (s.mapTested words buckets grants).ldr.blocked ↔ (c ∈ words ∨ c ∈ buckets.flatMap s.bucketCells) ∧ c < s.cellCount := by
  simp [State.mapTested, State.badCells, mem_foldl_insertNat, or_comm]

/-! ## The network and the end of BOOT -/

/-- An enabled port that is INITIALIZING takes the state of its role. -/
def State.ptpStart (s : State) (next : Nat) (b : Bool) : State := if s.ptpPort b && s.rd (portState b) == 1 then s.wr (portState b) next else s

theorem State.ptpStart_only {β : Type} {π : State → β} (hU : Unseen 0x200000000000000 π) (s : State) (k : Nat) (b : Bool) : π (s.ptpStart k b) = π s := by
  rw [State.ptpStart]
  exact Unseen.ite (hU.wr (by cases b <;> decide) _ _) rfl

theorem State.ptpStart_ne (s : State) (k : Nat) {b : Bool} {f : Fld} (h : f.key ≠ (portState b).key) : (s.ptpStart k b).rd f = s.rd f := by
  rw [State.ptpStart]
  split
  · exact State.rd_wr_ne h _ _
  · rfl

theorem State.ptpStart_port (s : State) (k : Nat) (b c : Bool) : (s.ptpStart k b).ptpPort c = s.ptpPort c := by
  rw [State.ptpPort, State.on, s.ptpStart_ne k (by cases b <;> cases c <;> decide)]
  rfl

theorem State.ptpStart_rd {s : State} {k : Nat} {b : Bool} (h : s.ptpPort b = true) (hs : s.rd (portState b) = 1) (hk : k < 16) :
    (s.ptpStart k b).rd (portState b) = k := by
  rw [State.ptpStart, h, hs, if_pos (by rfl), State.rd_wr_same]
  cases b <;> exact Nat.mod_eq_of_lt hk

/-- The ladder has accepted PTP. -/
def State.ptpAccepted (s : State) : State := ({ s with tim := { s.tim with ptpOn := true } } : State).wr Reg.CLK_ADMIT_STATUS_PTP_ACCEPT 1

theorem ptpAcceptStartOp_eq {s : State} (h : s.ladder = true) : ptpAcceptStartOp s =
    (s.ptpAccepted.ptpStart (if s.rd Reg.TIM_PTP_CFG_ROLE = 0 then 6 else 4) false).ptpStart (if s.rd Reg.TIM_PTP_CFG_ROLE = 0 then 6 else 4) true := by
  simp only [ptpAcceptStartOp, h, Bool.not_true, Bool.false_eq_true, if_false]
  rfl

/-- BOOT is done: the caster shows, and the rings' credits rise to the allotments. -/
def State.bootDone (s : State) : State :=
  (List.range 128).foldl (fun (t : State) n => if t.isSub n then t.raiseLimit n else t)
    (((s.wr Reg.CLK_ADMIT_STATUS_BOOT_DONE 1).wr Reg.HRE_STATUS_BOOT_CAP 0).showCaster)

theorem bootCompleteOp_eq {s : State} (hm : s.mode = .boot) (h : s.ladder = true) : bootCompleteOp s =
    if s.bootDone.headsRejoin then (s.bootDone.wr Reg.FJR_STATUS_REJOIN_STATE 1).enterMode .rejoin
    else if !s.bootDone.refValid then s.bootDone.enterSurvey
    else s.bootDone.enterMode (if s.bootDone.hre.claimed then .hostedIdle else .pantry) := by
  rw [bootCompleteOp, if_neg (by simp [hm, h])]
  unfold State.bootDone
  with_reducible rfl

theorem State.raiseLimits_only {β : Type} {π : State → β} (hring : ∀ (t : State) (n : Nat), π (t.raiseLimit n) = π t) (l : List Nat) (s : State) :
    π (l.foldl (fun (t : State) n => if t.isSub n then t.raiseLimit n else t) s) = π s :=
  Unseen.foldl _ (fun t n => Unseen.ite (hring t n) rfl) l s

/-- A survey's registers and sums as it begins. -/
def State.surveyStart (s : State) : State :=
  ({ s with cor := { s.cor with survey := Survey.zero } }.wrAll 0
    [Reg.COR_SURVEY_STATUS_ELAPSED, Reg.COR_SURVEY_STATUS_SIGMA]).wr Reg.COR_SURVEY_STATUS_STATE 1

theorem State.enterSurvey_eq (s : State) : s.enterSurvey = s.surveyStart.enterMode .survey := rfl
theorem State.surveyStart_pwr (s : State) : s.surveyStart.pwr = s.pwr := rfl
theorem State.surveyStart_mode (s : State) : s.surveyStart.mode = s.mode := rfl

theorem State.surveyStart_rd (s : State) {f : Fld} (h : ∀ g ∈ [Reg.COR_SURVEY_STATUS_STATE, Reg.COR_SURVEY_STATUS_ELAPSED, Reg.COR_SURVEY_STATUS_SIGMA],
    f.key ≠ g.key) : s.surveyStart.rd f = s.rd f := by
  simp only [List.forall_mem_cons] at h
  rw [State.surveyStart, State.rd_wr_ne h.1]
  simp only [State.wrAll]
  rw [State.rd_wr_ne h.2.2.1, State.rd_wr_ne h.2.1]
  rfl

/-- What sees neither the rings nor the caster sees of BOOT's end only BOOT_DONE and BOOT_CAP. -/
theorem State.bootDone_of {β : Type} {π : State → β} (hring : ∀ (t : State) (n : Nat), π (t.raiseLimit n) = π t)
    (hcaster : ∀ t : State, π t.showCaster = π t) (s : State) :
    π s.bootDone = π ((s.wr Reg.CLK_ADMIT_STATUS_BOOT_DONE 1).wr Reg.HRE_STATUS_BOOT_CAP 0) :=
  (State.raiseLimits_only hring _ _).trans (hcaster _)

theorem State.bootDone_rd (s : State) {f : Fld} (h : ∀ g ∈ [Reg.COR_CLIENTS, Reg.COR_STATUS_CASTER_OPEN, Reg.PIN_PANTRY_STATUS_CASTER_OPEN],
    f.key ≠ g.key) : s.bootDone.rd f = ((s.wr Reg.CLK_ADMIT_STATUS_BOOT_DONE 1).wr Reg.HRE_STATUS_BOOT_CAP 0).rd f := by
  refine State.bootDone_of (π := fun s => s.rd f) (fun t n => ?_) (fun t => State.showCaster_rd t h) s
  exact State.raiseLimit_only (unseen_rd (by decide) (Nat.testBit_lt_two_pow (lt_of_lt_of_le (b := 2 ^ 40) (by decide)
    (Nat.pow_le_pow_right (by decide) (Nat.le_add_right _ _))))) t n

theorem State.bootDone_pwr (s : State) : s.bootDone.pwr = s.pwr :=
  State.bootDone_of (π := State.pwr) (State.raiseLimit_only (unseen_pwr (by decide))) (fun _ => rfl) s

theorem State.raiseLimit_claimed (s : State) (n : Nat) : (s.raiseLimit n).hre.claimed = s.hre.claimed := by
  simp only [State.raiseLimit, State.showRing]
  split
  · split
    · rfl
    · rfl
  · rfl

theorem State.bootDone_claimed (s : State) : s.bootDone.hre.claimed = s.hre.claimed :=
  State.bootDone_of (π := fun s => s.hre.claimed) State.raiseLimit_claimed (fun _ => rfl) s

theorem State.bootDone_old (s : State) {f : Fld} (h : ∀ g ∈ [Reg.COR_CLIENTS, Reg.COR_STATUS_CASTER_OPEN, Reg.PIN_PANTRY_STATUS_CASTER_OPEN],
    f.key ≠ g.key) (h1 : f.key ≠ Reg.CLK_ADMIT_STATUS_BOOT_DONE.key) (h2 : f.key ≠ Reg.HRE_STATUS_BOOT_CAP.key) : s.bootDone.on f = s.on f := by
  rw [State.on, s.bootDone_rd h, State.rd_wr_ne h2, State.rd_wr_ne h1, State.on]

theorem State.bootDone_headsRejoin (s : State) : s.bootDone.headsRejoin = s.headsRejoin := by
  rw [State.headsRejoin, s.bootDone_old (by decide) (by decide) (by decide), s.bootDone_old (by decide) (by decide) (by decide),
    s.bootDone_old (by decide) (by decide) (by decide), State.headsRejoin]

theorem State.bootDone_refValid (s : State) : s.bootDone.refValid = s.refValid := by
  rw [State.refValid, s.bootDone_old (by decide) (by decide) (by decide),
    State.bootDone_of (π := State.nvm) (State.raiseLimit_only (unseen_nvm (by decide))) (fun _ => rfl) s]
  rfl

/-- Settles O19. -/
theorem admissionLadder : Obligations.AdmissionLadder := by
  refine ⟨fun s hup hm hf hr => ?_, fun s words buckets grants hup hm hi => ?_, fun s a b hup hl => ?_, fun s b hup ha hl => ?_, fun s hup hl => ?_,
    fun s hup hm hl hp => ?_, fun s hup hl => ?_⟩
  · refine Gives.of_main hup rfl ?_
    rw [pllLockBootOp_eq hm hf hr]
    refine ⟨?_, ?_, ?_, ?_, ?_, ?_⟩
    · exact State.rd_wrEach_mem (p := (Reg.CLK_SRC_STATUS_PLL_CORE_LOCK, 1)) _ (by simp) (by decide) _
    · rw [State.rd_wrEach_ne _ (by decide), State.adcRuns, State.showMeas, State.rd_wr_ne (by decide)]
      exact State.rd_wrEach_mem (p := (Reg.CLK_SRC_STATUS_PLL_ADC_LOCK, 1)) _ (by simp) (by decide) _
    · exact State.rd_wrEach_mem (p := (Reg.CLK_SRC_STATUS_PLL_SERDES_LOCK, 1)) _ (by simp) (by decide) _
    · exact State.rd_wrEach_mem (p := (Reg.CLK_SRC_STATUS_CORE_ON_RC4M, 0)) _ (by simp) (by decide) _
    · rw [State.rd_wrEach_ne _ (by decide), State.adcRuns_meas]
    · rw [State.wrEach_mode, State.adcRuns_only (π := State.mode) (unseen_mode (by decide)), hm]
  · refine Gives.of_main hup rfl ?_
    rw [memoryTestCompleteOp_eq hm hi]
    refine ⟨?_, ?_, ?_, fun c hc => ?_, fun w hw hlt => ?_⟩
    · simp only [State.wrEach]
      rw [State.rd_wr_same]
      rfl
    · rw [State.wrEach_ldr]; rfl
    · rw [State.wrEach_mode]; exact hm
    · rw [State.wrEach_ldr] at hc
      exact (State.mem_mapTested.mp hc).2
    · rw [State.wrEach_ldr]
      exact State.mem_mapTested.mpr ⟨.inl (List.mem_map_of_mem hw), hlt⟩
  · refine Gives.of_main hup rfl ?_
    simp only [lanAdmitOp, hl, Bool.not_true, Bool.false_eq_true, if_false]
    refine ⟨?_, trivial, ?_, trivial⟩
    · rw [State.rd_mk, State.read_fld, State.rd_wr_same]; rfl
    · rw [State.wr_mode, State.loadFlows_only (π := State.mode) (unseen_mode (by decide))]
  · refine Gives.of_main hup rfl ?_
    rw [lanLinkUpOp, if_pos (by rw [ha, hl]; rfl)]
    exact ⟨rfl, rfl⟩
  · refine Gives.of_main hup rfl ?_
    rw [beaconStartOp, if_pos hl]
    exact ⟨(State.rd_wr_same _ _ _).trans rfl, rfl⟩
  · refine Gives.of_main hup rfl ?_
    have hp' : s.bootDone.pwr.pfailLatched = false := by rw [s.bootDone_pwr, hp]
    rw [State.unlessPfail, hp, if_neg (by decide), bootCompleteOp_eq hm hl, s.bootDone_headsRejoin, s.bootDone_refValid, s.bootDone_claimed]
    have hdone : s.bootDone.rd Reg.CLK_ADMIT_STATUS_BOOT_DONE = 1 := by
      rw [s.bootDone_rd (by decide), State.rd_wr_ne (by decide), State.rd_wr_same]
      rfl
    have hcap : s.bootDone.rd Reg.HRE_STATUS_BOOT_CAP = 0 := by
      rw [s.bootDone_rd (by decide), State.rd_wr_same]
      rfl
    have hmode : s.bootDone.mode = .boot :=
      (State.bootDone_of (π := State.mode) (State.raiseLimit_only (unseen_mode (by decide))) (fun _ => rfl) s).trans hm
    have henter (u : State) (m : Mode) (hm : m ≠ .faultSafe) (hpw : u.pwr.pfailLatched = false) (hu : u.mode = .boot) (hd : u.rd Reg.CLK_ADMIT_STATUS_BOOT_DONE = 1)
        (hc : u.rd Reg.HRE_STATUS_BOOT_CAP = 0) : (u.enterMode m).mode = m ∧ (u.enterMode m).prev = .boot ∧
          (u.enterMode m).rd Reg.CLK_ADMIT_STATUS_BOOT_DONE = 1 ∧ (u.enterMode m).rd Reg.HRE_STATUS_BOOT_CAP = 0 :=
      ⟨State.enterMode_mode hpw m, (State.enterMode_prev hpw m).trans hu, 
        (State.rd_of_only Reg.CLK_ADMIT_STATUS_BOOT_DONE (State.enterMode_only · _ _) (by decide)).trans hd,
        (State.enterMode_of (π := fun s => s.rd Reg.HRE_STATUS_BOOT_CAP) (unseen_rd (by decide) (by decide))
          (fun t => State.rd_enter_ne (by decide) t _) (fun _ => State.showCaster_rd _ (by decide)) hm u).trans hc⟩
    split
    · refine henter _ _ (by decide) ((congrArg Power.pfailLatched (State.wr_pwr ..)).trans hp') ((State.wr_mode ..).trans hmode) ?_ ?_
      · rw [State.rd_wr_ne (by decide), hdone]
      · rw [State.rd_wr_ne (by decide), hcap]
    · split
      · rw [State.enterSurvey_eq]
        refine henter _ _ (by decide) ((congrArg Power.pfailLatched (State.surveyStart_pwr _)).trans hp') ((State.surveyStart_mode _).trans hmode) ?_ ?_
        · rw [State.surveyStart_rd _ (by decide), hdone]
        · rw [State.surveyStart_rd _ (by decide), hcap]
      · exact henter _ _ (by split <;> decide) hp' hmode hdone hcap
  · refine Gives.of_main hup rfl ?_
    rw [ptpAcceptStartOp_eq hl]
    generalize hk : (if s.rd Reg.TIM_PTP_CFG_ROLE = 0 then 6 else 4) = k
    have hk' : k < 16 := by rw [← hk]; split <;> decide
    have hrd (b : Bool) : s.ptpAccepted.rd (portState b) = s.rd (portState b) := (State.rd_wr_ne (by cases b <;> decide) _ _).trans rfl
    have hport (b : Bool) : s.ptpAccepted.ptpPort b = s.ptpPort b := by
      cases b <;> exact (State.on_wr_ne (by decide) _ _).trans rfl
    refine ⟨?_, ?_, ?_, fun b hb hs => ?_⟩
    · rw [State.ptpStart_only (π := State.tim) (unseen_tim (by decide)), State.ptpStart_only (π := State.tim) (unseen_tim (by decide))]
      rfl
    · rw [State.ptpStart_ne _ _ (by decide), State.ptpStart_ne _ _ (by decide), State.ptpAccepted, State.rd_wr_same]
      rfl
    · rw [State.ptpStart_only (π := State.mode) (unseen_mode (by decide)), State.ptpStart_only (π := State.mode) (unseen_mode (by decide))]
      rfl
    · cases b with
      | false =>
        rw [State.ptpStart_ne _ _ (by decide)]
        exact State.ptpStart_rd ((hport _).trans hb) ((hrd _).trans hs) hk'
      | true =>
        refine State.ptpStart_rd ((State.ptpStart_port ..).trans ((hport _).trans hb)) ?_ hk'
        rw [State.ptpStart_ne _ _ (by decide), hrd, hs]

end Sys2Proof.Machine
end

section
/-! The self-survey and the reference position (O31). -/

namespace Sys2Proof.Machine

/-! ## What a survey and a stored position leave -/

theorem State.leaveSurvey_of {β : Type} {π : State → β} (hU : Unseen 0x300000 π) (henter : ∀ (t : State) (m : Mode), π (t.enter m) = π t)
    (hcaster : ∀ t : State, π t.showCaster = π t) (s : State) : π s.leaveSurvey = π s := by
  rw [State.leaveSurvey]
  split
  · exact State.enterMode_of hU (henter · _) hcaster (by split <;> decide) s
  · rfl

theorem State.leaveSurvey_mode {s : State} (hp : s.pwr.pfailLatched = false) :
    s.leaveSurvey.mode = if s.mode = .survey then (if s.hre.claimed then .hostedIdle else .pantry) else s.mode := by
  rw [State.leaveSurvey]
  split
  · exact State.enterMode_mode hp _
  · rfl

/-- The fields in which the caster's clients and its openness show. -/
def casterFields : List Fld := [Reg.COR_CLIENTS, Reg.COR_STATUS_CASTER_OPEN, Reg.PIN_PANTRY_STATUS_CASTER_OPEN]

theorem State.leaveSurvey_rd (s : State) {f : Fld} (hb : f.blk = 7) (h : ∀ g ∈ casterFields, f.key ≠ g.key) : s.leaveSurvey.rd f = s.rd f :=
  State.leaveSurvey_of (π := fun s => s.rd f) (unseen_rd (by decide) (by rw [hb]; decide))
    (fun t m => State.rd_enter_ne (Fld.key_ne (by rw [hb]; decide)) t m) (fun _ => State.showCaster_rd _ h) s

theorem State.leaveSurvey_nvm (s : State) : s.leaveSurvey.nvm = s.nvm := State.leaveSurvey_of (unseen_nvm (by decide)) (by simp) (fun _ => rfl) s

theorem State.leaveSurvey_cor (s : State) : s.leaveSurvey.cor = s.cor := State.leaveSurvey_of (unseen_cor (by decide)) (by simp) (fun _ => rfl) s

/-- The fields in which a stored position shows. -/
def refShown : List Fld :=
  [Reg.COR_REF_X, Reg.COR_REF_Y, Reg.COR_REF_Z, Reg.COR_BASE_E, Reg.COR_BASE_N, Reg.COR_BASE_U, Reg.COR_STATUS_REF_VALID, Reg.COR_STATUS_ORIGIN,
   Reg.COR_STATUS_BASELINE_SET]

theorem State.showRef_rd (s : State) {f : Fld} (h : ∀ g ∈ refShown, f.key ≠ g.key) : s.showRef.rd f = s.rd f := by
  simp only [refShown, List.forall_mem_cons] at h
  obtain ⟨-, -, -, -, -, -, h7, h8, h9, -⟩ := h
  rw [State.showRef]
  split
  · split <;> rw [State.rd_wr_ne h9, State.rd_wr_ne h8, State.rd_wr_ne h7]
  · rw [State.rd_wr_ne h9, State.rd_wr_ne h8, State.rd_wr_ne h7]

theorem State.storeRef_rd (s : State) (r : RefRec) {f : Fld} (h : ∀ g ∈ refShown, f.key ≠ g.key) : (s.storeRef r).rd f = s.rd f := by
  rw [State.storeRef, State.showRef_rd _ h]
  simp only [refShown, List.forall_mem_cons] at h
  obtain ⟨h1, h2, h3, h4, h5, h6, -⟩ := h
  rw [State.rd_wr_ne h6, State.rd_wr_ne h5, State.rd_wr_ne h4, State.rd_wr_ne h3, State.rd_wr_ne h2, State.rd_wr_ne h1]
  rfl

theorem State.storeRef_ref (s : State) (r : RefRec) : (s.storeRef r).nvm.ref = some r := by
  rw [State.storeRef, State.showRef_only (π := State.nvm) (unseen_nvm (by decide))]
  rfl

theorem State.degrade_rd (s : State) {f : Fld} (h : f.key ≠ Reg.COR_STATUS_MON_DEGRADED.key) (h' : f.key ≠ Reg.COR_FAULT_MON_DEGRADED.key)
    (hm : f.key ≠ (Reg.MSIX_PENDING 0).key) : s.degrade.rd f = s.rd f := by
  rw [State.degrade]
  split
  · rfl
  · rw [State.rd_fault_ne h' hm, State.rd_wr_ne h]

/-! ## A second of the survey -/

/-- The sums of a survey with one more second. -/
def Survey.count (v : Survey) (x y z : Int) (vec : Option (Int × Int × Int)) : Survey :=
  ⟨v.n + 1, v.sx + x, v.sy + y, v.sz + z, v.sq + x * x + y * y + z * z, v.fix + (if vec.isSome then 1 else 0),
    v.se + (vec.getD (0, 0, 0)).1, v.sn + (vec.getD (0, 0, 0)).2.1, v.su + (vec.getD (0, 0, 0)).2.2⟩

theorem Survey.count_none (v : Survey) (x y z : Int) : v.count x y z none =
    { v with n := v.n + 1, sx := v.sx + x, sy := v.sy + y, sz := v.sz + z, sq := v.sq + x * x + y * y + z * z } := by
  simp [Survey.count]

/-- The state with a survey's sums kept, and what SIGMA shows of them. -/
def State.surveyKept (s : State) (w : Survey) : Nat × State :=
  let t : State := { s with cor := { s.cor with survey := w } }
  match w.sigma with | some g => (g, t) | none => t.draw 6

/-- The state that shows a survey's sums. -/
def State.surveyShown (s : State) (w : Survey) : State :=
  (((s.surveyKept w).2.wr Reg.COR_SURVEY_STATUS_ELAPSED (min w.n 0xFFFF)).wr Reg.COR_SURVEY_STATUS_SIGMA (min (s.surveyKept w).1 0xFFF)).wr
    Reg.COR_SURVEY_STATUS_STATE 1

theorem surveySecondOp_eq {s : State} {n : Nat} (hs : s.mode = .survey ∧ s.rd Reg.COR_SURVEY_STATUS_STATE ≠ 2 ∧ s.rd Reg.COR_SURVEY_STATUS_STATE ≠ 3)
    (hn : 5 ≤ n) (ha : s.on Reg.RNG_STATUS_ANT_A_FLT = false) (x y z : Int) (vec : Option (Int × Int × Int)) {w : Survey}
    (hw : w = s.cor.survey.count x y z vec) :
    surveySecondOp n x y z vec s =
      if w.n ≥ s.rd Reg.COR_SURVEY_CFG_MIN_TIME && decide (w.n ≥ 60) && w.within (s.rd Reg.COR_SURVEY_CFG_ACC_LIMIT * 100)
      then (s.surveyShown w).surveyDone
      else if w.n = 86400 then (s.surveyShown w).fault Reg.COR_FAULT_SURVEY_LONG else s.surveyShown w := by
  obtain ⟨hm, h2, h3⟩ := hs
  have hg : ¬ (s.mode != .survey || decide (s.rd Reg.COR_SURVEY_STATUS_STATE = 2) || decide (s.rd Reg.COR_SURVEY_STATUS_STATE = 3)) = true := by
    simp [hm, h2, h3]
  have h5 : ¬ (n < 5 ∨ s.on Reg.RNG_STATUS_ANT_A_FLT = true) := by
    rintro (h | h)
    · omega
    · rw [ha] at h; cases h
  subst hw
  dsimp only [surveySecondOp]
  rw [if_neg hg, if_neg h5]
  rcases vec with _ | ⟨e, m, u⟩
  · rw [Survey.count_none]
    rfl
  · rfl

theorem State.surveyKept_only {β : Type} {π : State → β} (hU : Unseen 0x2000002 π) (s : State) (w : Survey) : π (s.surveyKept w).2 = π s := by
  rw [State.surveyKept]
  split
  · exact hU.cor (by decide) _ _
  · exact (hU.ctr (by decide) _ _).trans (hU.cor (by decide) _ _)

theorem State.surveyShown_only {β : Type} {π : State → β} (hU : Unseen 0x800002000002 π) (s : State) (w : Survey) : π (s.surveyShown w) = π s := by
  rw [State.surveyShown, hU.wr (by decide), hU.wr (by decide), hU.wr (by decide), State.surveyKept_only (hU.mono (by decide))]

theorem State.surveyKept_cor (s : State) (w : Survey) : (s.surveyKept w).2.cor.survey = w := by
  rw [State.surveyKept]
  split
  · rfl
  · rfl

theorem State.surveyShown_cor (s : State) (w : Survey) : (s.surveyShown w).cor.survey = w := by
  rw [State.surveyShown, State.wr_cor, State.wr_cor, State.wr_cor, State.surveyKept_cor]

theorem State.surveyShown_rd (s : State) (w : Survey) {f : Fld} (h : ∀ g ∈ [Reg.COR_SURVEY_STATUS_STATE, Reg.COR_SURVEY_STATUS_ELAPSED,
    Reg.COR_SURVEY_STATUS_SIGMA], f.key ≠ g.key) : (s.surveyShown w).rd f = s.rd f := by
  simp only [List.forall_mem_cons] at h
  rw [State.surveyShown, State.rd_wr_ne h.1, State.rd_wr_ne h.2.2.1, State.rd_wr_ne h.2.1]
  exact State.surveyKept_only (π := fun s => s.rd f) (unseen_rd (by decide) (Nat.testBit_lt_two_pow (lt_of_lt_of_le (b := 2 ^ 40) (by decide)
    (Nat.pow_le_pow_right (by decide) (Nat.le_add_right _ _))))) s w

theorem State.surveyShown_elapsed (s : State) (w : Survey) : (s.surveyShown w).rd Reg.COR_SURVEY_STATUS_ELAPSED = min w.n 0xFFFF := by
  rw [State.surveyShown, State.rd_wr_ne (by decide), State.rd_wr_ne (by decide), State.rd_wr_same]
  exact min_top_mod _ 16

theorem State.surveyShown_state (s : State) (w : Survey) : (s.surveyShown w).rd Reg.COR_SURVEY_STATUS_STATE = 1 := by
  rw [State.surveyShown, State.rd_wr_same]
  rfl

theorem State.surveyShown_sigma (s : State) {w : Survey} {g : Nat} (h : w.sigma = some g) :
    (s.surveyShown w).rd Reg.COR_SURVEY_STATUS_SIGMA = min g 0xFFF := by
  have hk : (s.surveyKept w).1 = g := by rw [State.surveyKept, h]
  rw [State.surveyShown, State.rd_wr_ne (by decide), State.rd_wr_same, hk]
  exact min_top_mod _ 12

/-- The position that a survey stores. -/
def State.surveyRec (s : State) : RefRec :=
  let v := s.cor.survey
  let p := alongUp (wholeRatio v.sx v.n, wholeRatio v.sy v.n, wholeRatio v.sz v.n) (-(s.rd Reg.COR_REF_CFG_PCO_UP : Int))
  let bE := signed 32 (s.rd Reg.COR_BASE_E)
  let bN := signed 32 (s.rd Reg.COR_BASE_N)
  let bU := signed 32 (s.rd Reg.COR_BASE_U)
  if decide (bE = 0 ∧ bN = 0 ∧ bU = 0) && decide (v.fix ≠ 0) && decide (v.fix * 100 ≥ 80 * v.n)
  then ⟨p.1, p.2.1, p.2.2, 1, wholeRatio v.se v.fix, wholeRatio v.sn v.fix, wholeRatio v.su v.fix, true⟩
  else ⟨p.1, p.2.1, p.2.2, 1, bE, bN, bU, true⟩

/-- The survey's position stored, and SURVEY_STATUS done. -/
def State.surveyStored (s : State) : State := (s.storeRef s.surveyRec).wr Reg.COR_SURVEY_STATUS_STATE 2

/-- A survey that completes stores its position and leaves SURVEY, the monitor degraded or not. -/
theorem State.surveyDone_eq (s : State) : s.surveyDone = s.surveyStored.leaveSurvey ∨ s.surveyDone = s.surveyStored.degrade.leaveSurvey := by
  simp only [State.surveyDone]
  split
  · exact .inr rfl
  · exact .inl rfl

theorem State.surveyDone_of {β : Type} {π : State → β} (hdeg : ∀ t : State, π t.degrade = π t) (hleave : ∀ t : State, π t.leaveSurvey = π t)
    (s : State) : π s.surveyDone = π s.surveyStored := by
  rcases s.surveyDone_eq with h | h
  · rw [h, hleave]
  · rw [h, hleave, hdeg]

theorem State.surveyRec_mean {s : State} (hb : s.rd Reg.COR_BASE_E = 0 ∧ s.rd Reg.COR_BASE_N = 0 ∧ s.rd Reg.COR_BASE_U = 0) (hf : s.cor.survey.fix ≠ 0)
    (hn : 80 * s.cor.survey.n ≤ s.cor.survey.fix * 100) : (s.surveyRec.e, s.surveyRec.n, s.surveyRec.u) =
      (wholeRatio s.cor.survey.se s.cor.survey.fix, wholeRatio s.cor.survey.sn s.cor.survey.fix, wholeRatio s.cor.survey.su s.cor.survey.fix) := by
  obtain ⟨he, hn', hu⟩ := hb
  have h0 : signed 32 0 = 0 := by decide
  simp [State.surveyRec, he, hn', hu, h0, hf, hn]

theorem State.surveyRec_fixed (s : State) : s.surveyRec.good = true ∧ s.surveyRec.origin = 1 ∧ (s.surveyRec.x, s.surveyRec.y, s.surveyRec.z) =
    alongUp (wholeRatio s.cor.survey.sx s.cor.survey.n, wholeRatio s.cor.survey.sy s.cor.survey.n, wholeRatio s.cor.survey.sz s.cor.survey.n)
      (-(s.rd Reg.COR_REF_CFG_PCO_UP : Int)) := by
  simp only [State.surveyRec]
  split
  · exact ⟨rfl, rfl, rfl⟩
  · exact ⟨rfl, rfl, rfl⟩

/-! ## The REF commit -/

/-- The position in the shadow of the REF group. -/
def State.refShadow (s : State) : RefRec :=
  ⟨signed 64 (s.sh Reg.COR_REF_X), signed 64 (s.sh Reg.COR_REF_Y), signed 64 (s.sh Reg.COR_REF_Z), 2, signed 32 (s.sh Reg.COR_BASE_E),
    signed 32 (s.sh Reg.COR_BASE_N), signed 32 (s.sh Reg.COR_BASE_U), true⟩

/-- The REF group live, and its position stored in place of any disturbed one. -/
def State.refStored (s : State) : State :=
  ((((s.commit Reg.COR_REF_COMMIT_RESULT refGroup St.done).wr Reg.COR_STATUS_DISTURBED 0).storeRef s.refShadow).wr
    Reg.COR_MON_RESULT_FAIL_RUN 0).storeFields
      [Reg.COR_REF_CFG_MARK_HEIGHT, Reg.COR_REF_CFG_PCO_UP, Reg.COR_SURVEY_CFG_MIN_TIME, Reg.COR_SURVEY_CFG_ACC_LIMIT]

/-- The drift watch anew and the filters reset after a REF commit. -/
def State.refSettled (s : State) : State :=
  ({ s with cor := { s.cor with driftRun := 0, driftOk := false, driftFrom := s.now.sec, station := true } } : State).creResetAll

theorem refCommitOp_eq {s : State}
    (he : offEarth (signed 64 (s.sh Reg.COR_REF_X)) (signed 64 (s.sh Reg.COR_REF_Y)) (signed 64 (s.sh Reg.COR_REF_Z)) 63000000000 64000000000 = false)
    {b : Int} (hb : b = len2 (signed 32 (s.sh Reg.COR_BASE_E)) (signed 32 (s.sh Reg.COR_BASE_N)) (signed 32 (s.sh Reg.COR_BASE_U)) ∧
      (b = 0 ∨ (5000 * 5000 ≤ b ∧ b ≤ 50000 * 50000)))
    (hl : 60 ≤ s.sh Reg.COR_SURVEY_CFG_MIN_TIME ∧ 1 ≤ s.sh Reg.COR_SURVEY_CFG_ACC_LIMIT ∧ s.sh Reg.COR_SURVEY_CFG_ACC_LIMIT ≤ 500)
    (hm : s.mode.fleet = false ∧ s.mode ≠ .twinStandby ∧ s.mode ≠ .rejoin ∧ s.mode ≠ .update) :
    refCommitOp s = if s.refStored.refSettled.mode = .survey then (s.refStored.refSettled.wr Reg.COR_SURVEY_STATUS_STATE 3).leaveSurvey
      else s.refStored.refSettled := by
  obtain ⟨hb1, hb2⟩ := hb
  obtain ⟨hf, h1, h2, h3⟩ := hm
  have hlen : decide (len2 (signed 32 (s.sh Reg.COR_BASE_E)) (signed 32 (s.sh Reg.COR_BASE_N)) (signed 32 (s.sh Reg.COR_BASE_U)) ≠ 0 ∧
      (len2 (signed 32 (s.sh Reg.COR_BASE_E)) (signed 32 (s.sh Reg.COR_BASE_N)) (signed 32 (s.sh Reg.COR_BASE_U)) < 5000 * 5000 ∨
        len2 (signed 32 (s.sh Reg.COR_BASE_E)) (signed 32 (s.sh Reg.COR_BASE_N)) (signed 32 (s.sh Reg.COR_BASE_U)) > 50000 * 50000)) = false := by
    rw [← hb1]
    exact decide_eq_false (by omega)
  have hlim : decide (s.sh Reg.COR_SURVEY_CFG_MIN_TIME < 60 ∨ s.sh Reg.COR_SURVEY_CFG_ACC_LIMIT < 1 ∨ s.sh Reg.COR_SURVEY_CFG_ACC_LIMIT > 500) = false :=
    decide_eq_false (by omega)
  have hmode : (s.mode.fleet || s.mode == .twinStandby || s.mode == .rejoin || s.mode == .update) = false := by simp [hf, h1, h2, h3]
  simp only [refCommitOp, he, hlen, hlim, hmode, firstFail, Bool.false_eq_true, if_false, ne_eq, not_true_eq_false]
  rfl

theorem State.refSettled_only {β : Type} {π : State → β} (hU : Unseen 0x1000006000000 π) (s : State) : π s.refSettled = π s := by
  rw [State.refSettled, State.creResetAll_only (hU.mono (by decide)), hU.cor (by decide)]

theorem State.refStored_result (s : State) : s.refStored.rd Reg.COR_REF_COMMIT_RESULT = St.done := by
  rw [State.refStored, State.storeFields_rd, State.rd_wr_ne (by decide), State.storeRef_rd _ _ (by decide), State.rd_wr_ne (by decide),
    State.commit_result]
  rfl

theorem State.refStored_disturbed (s : State) : s.refStored.rd Reg.COR_STATUS_DISTURBED = 0 := by
  rw [State.refStored, State.storeFields_rd, State.rd_wr_ne (by decide), State.storeRef_rd _ _ (by decide), State.rd_wr_same]
  rfl

theorem State.refStored_failRun (s : State) : s.refStored.rd Reg.COR_MON_RESULT_FAIL_RUN = 0 := by
  rw [State.refStored, State.storeFields_rd, State.rd_wr_same]
  rfl

theorem State.refStored_ref (s : State) : s.refStored.nvm.ref = some s.refShadow := by
  have h (t : State) (fs : List Fld) : (t.storeFields fs).nvm.ref = t.nvm.ref := rfl
  rw [State.refStored, h, State.wr_nvm, State.storeRef_ref]

theorem State.refStored_only {β : Type} {π : State → β} (hU : Unseen 0x800008000008 π) (s : State) :
    π s.refStored = π (s.commit Reg.COR_REF_COMMIT_RESULT refGroup St.done) := by
  rw [State.refStored, hU.storeFields (by decide), hU.wr (by decide), State.storeRef_only (hU.mono (by decide)), hU.wr (by decide)]

/-- Settles O31: a second by what the sums then show, the commit step by step. -/
theorem referenceAndSurvey : Obligations.ReferenceAndSurvey := by
  refine ⟨fun s n x y z vec hup hs hn => ?_, fun s n x y z vec w hup hs hn hw hc => ?_, fun s n x y z vec w hup hs hn hw hc => ?_,
    fun s b hup he hb hl hm => ?_⟩
  · refine Gives.of_main hup rfl ?_
    obtain ⟨hm, h2, h3⟩ := hs
    simp only [surveySecondOp, hm, bne_self_eq_false, h2, h3, decide_false, Bool.or_self, Bool.false_eq_true, if_false, if_pos hn]
  · refine Gives.of_main hup rfl ?_
    have hno : ¬ (w.n ≥ s.rd Reg.COR_SURVEY_CFG_MIN_TIME && decide (w.n ≥ 60) && w.within (s.rd Reg.COR_SURVEY_CFG_ACC_LIMIT * 100)) = true := by
      simp only [Bool.and_eq_true, decide_eq_true_eq]
      rintro ⟨⟨h1, h2⟩, h3⟩
      rcases hc with h | h | h
      · omega
      · omega
      · rw [h] at h3; cases h3
    have hmode : (s.surveyShown w).mode = .survey := (State.surveyShown_only (π := State.mode) (unseen_mode (by decide)) s w).trans hs.1
    rw [surveySecondOp_eq hs hn.1 hn.2 x y z vec hw, if_neg hno]
    split
    · rw [State.fault_cor, State.fault_mode, State.rd_fault_ne (by decide) (by decide), State.rd_fault_ne (by decide) (by decide)]
      refine ⟨s.surveyShown_cor w, s.surveyShown_elapsed w, s.surveyShown_state w, fun g hg => ?_, fun _ => ?_, hmode⟩
      · rw [State.rd_fault_ne (by decide) (by decide), s.surveyShown_sigma hg]
      · rw [State.on, State.fault_rd _ _ (by decide) (by decide)]
        rfl
    · next h => exact ⟨s.surveyShown_cor w, s.surveyShown_elapsed w, s.surveyShown_state w, fun g hg => s.surveyShown_sigma hg,
        fun h' => absurd h' h, hmode⟩
  · refine Gives.of_main hup rfl ?_
    obtain ⟨hn5, ha, hp⟩ := hn
    obtain ⟨ht, h60, hwi⟩ := hc
    have hcor := s.surveyShown_cor w
    rw [surveySecondOp_eq hs hn5 ha x y z vec hw, if_pos (by simp [ht, h60, hwi])]
    have hrd {f : Fld} (h : ∀ g ∈ [Reg.COR_SURVEY_STATUS_STATE, Reg.COR_SURVEY_STATUS_ELAPSED, Reg.COR_SURVEY_STATUS_SIGMA], f.key ≠ g.key) :=
      s.surveyShown_rd w h
    have hfix := (s.surveyShown w).surveyRec_fixed
    rw [hcor, hrd (by decide)] at hfix
    refine ⟨?_, ?_, ?_, (s.surveyShown w).surveyRec, ?_, hfix.1, hfix.2.1, hfix.2.2, fun hb h0 h80 => ?_⟩
    · rw [State.surveyDone_of (π := State.cor) (State.degrade_only (unseen_cor (by decide))) State.leaveSurvey_cor, State.surveyStored, State.wr_cor,
        State.storeRef_only (π := State.cor) (unseen_cor (by decide)), hcor]
    · rw [State.surveyDone_of (π := fun s => s.rd Reg.COR_SURVEY_STATUS_STATE) (fun t => State.degrade_rd t (by decide) (by decide) (by decide))
        (fun t => State.leaveSurvey_rd t (by decide) (by decide)), State.surveyStored, State.rd_wr_same]
      rfl
    · have hst {β : Type} {π : State → β} (hU : Unseen 0x80000a000022 π) : π (s.surveyShown w).surveyStored = π s := by
        rw [State.surveyStored, hU.wr (by decide), State.storeRef_only (hU.mono (by decide)), State.surveyShown_only (hU.mono (by decide))]
      have hend (t : State) (h1 : t.mode = s.mode) (h2 : t.pwr = s.pwr) (h3 : t.hre = s.hre) :
          t.leaveSurvey.mode = if s.hre.claimed then .hostedIdle else .pantry := by
        rw [State.leaveSurvey_mode (by rw [h2, hp]), h1, if_pos hs.1, h3]
      rcases (s.surveyShown w).surveyDone_eq with h | h
      · rw [h]
        exact hend _ (hst (unseen_mode (by decide))) (hst (unseen_pwr (by decide))) (hst (unseen_hre (by decide)))
      · rw [h]
        exact hend _ ((State.degrade_only (unseen_mode (by decide)) _).trans (hst (unseen_mode (by decide))))
          ((State.degrade_only (unseen_pwr (by decide)) _).trans (hst (unseen_pwr (by decide))))
          ((State.degrade_only (unseen_hre (by decide)) _).trans (hst (unseen_hre (by decide))))
    · rw [State.surveyDone_of (π := State.nvm) (State.degrade_only (unseen_nvm (by decide))) State.leaveSurvey_nvm, State.surveyStored, State.wr_nvm,
        State.storeRef_ref]
    · have h := State.surveyRec_mean (s := s.surveyShown w) (by rwa [hrd (by decide), hrd (by decide), hrd (by decide)]) (by rwa [hcor]) (by rwa [hcor])
      rwa [hcor] at h
  · refine Gives.of_main hup rfl ?_
    obtain ⟨hf, h1, h2, h3, hp⟩ := hm
    have hmode : s.refStored.refSettled.mode = s.mode := by
      rw [State.refSettled_only (π := State.mode) (unseen_mode (by decide)), State.refStored_only (π := State.mode) (unseen_mode (by decide)),
        State.commit_mode]
    have hpwr : s.refStored.refSettled.pwr = s.pwr := by
      rw [State.refSettled_only (π := State.pwr) (unseen_pwr (by decide)), State.refStored_only (π := State.pwr) (unseen_pwr (by decide)),
        State.commit_pwr]
    have hhre : s.refStored.refSettled.hre = s.hre := by
      rw [State.refSettled_only (π := State.hre) (unseen_hre (by decide)), State.refStored_only (π := State.hre) (unseen_hre (by decide)),
        State.commit_hre]
    have hrd (f : Fld) (hb : f.blk = 7) : s.refStored.refSettled.rd f = s.refStored.rd f :=
      State.refSettled_only (π := fun s => s.rd f) (unseen_rd (by decide) (by rw [hb]; decide)) _
    have hcor : s.refStored.refSettled.cor = { s.refStored.cor with driftRun := 0, driftOk := false, driftFrom := s.now.sec, station := true } := by
      have htim : s.refStored.now = s.now := congrArg Tim.now <|
        (State.refStored_only (π := State.tim) (unseen_tim (by decide)) s).trans (State.commit_tim ..)
      rw [State.refSettled, State.creResetAll_only (π := State.cor) (unseen_cor (by decide)), htim]
    rw [refCommitOp_eq he hb hl ⟨hf, h1, h2, h3⟩]
    have hend {β : Type} {π : State → β} (hleave : ∀ t : State, π t.leaveSurvey = π t)
        (hwr : ∀ t : State, π (t.wr Reg.COR_SURVEY_STATUS_STATE 3) = π t) :
        π (if s.refStored.refSettled.mode = .survey then (s.refStored.refSettled.wr Reg.COR_SURVEY_STATUS_STATE 3).leaveSurvey
          else s.refStored.refSettled) = π s.refStored.refSettled := Unseen.ite ((hleave _).trans (hwr _)) rfl
    have hend_rd (f : Fld) (hb : f.blk = 7) (hc : ∀ g ∈ casterFields, f.key ≠ g.key) (hs : f.key ≠ Reg.COR_SURVEY_STATUS_STATE.key) :=
      (hend (π := fun s => s.rd f) (fun t => State.leaveSurvey_rd t hb hc) (fun t => State.rd_wr_ne hs t 3)).trans (hrd f hb)
    rw [hend_rd _ (by decide) (by decide) (by decide), hend_rd _ (by decide) (by decide) (by decide), hend_rd _ (by decide) (by decide) (by decide),
      hend (π := State.nvm) State.leaveSurvey_nvm (fun _ => rfl), hend (π := State.cor) State.leaveSurvey_cor (fun _ => rfl), hcor,
      State.refSettled_only (π := State.nvm) (unseen_nvm (by decide)), s.refStored_ref, s.refStored_result, s.refStored_disturbed,
      s.refStored_failRun]
    refine ⟨rfl, rfl, rfl, rfl, rfl, rfl, rfl, ?_⟩
    split
    · next hs =>
      rw [State.leaveSurvey_mode (by rw [State.wr_pwr, hpwr, hp]), State.wr_mode, State.wr_hre, if_pos hs, hhre, if_pos (hmode.symm.trans hs)]
    · next hs => rw [if_neg fun h => hs (hmode.trans h), hmode]

end Sys2Proof.Machine
end

section
/-! The integrity monitor (O34): a run without a result cuts a FAIL_RUN that is wider than its field. -/

namespace Sys2Proof.Machine

/-- What a command of the main domain gives, its operation gives. -/
theorem Gives.op_of_main {i : Instr} {s : State} {op : State → State} {P : State → Prop} (hg : Gives i s P) (hup : s.Up)
    (he : exec i s = .next (s.whenMain op)) : P (op s) := by
  obtain ⟨t, ht, hP⟩ := hg
  rw [he, State.whenMain_up hup] at ht
  cases ht
  exact hP

/-- A state with a FAIL_RUN of 300, in which the monitor runs and finds no data. -/
def wideFailRun : State :=
  { State.reset with
    mode := .pantry
    fld := AMap.set Reg.COR_MON_CFG_MON_EN.key 1 (AMap.set Reg.COR_STATUS_BASELINE_SET.key 1 (AMap.set Reg.COR_MON_RESULT_FAIL_RUN.key 300 [])) }

/-- What the run leaves in FAIL_RUN: 300 cut to its eight bits. -/
theorem wideFailRun_after : (monitorRunOp none wideFailRun).rd Reg.COR_MON_RESULT_FAIL_RUN = 44 := by decide

/-- Refutes O34: a monitor run with no result writes FAIL_RUN again, and the write cuts a value of 300 to the field's width. -/
theorem not_integrityMonitor : ¬ Obligations.IntegrityMonitor := by
  intro h
  have hup : wideFailRun.Up := by decide
  have hrun := h.1 wideFailRun wideFailRun none none 3 hup (by decide) (by decide) (by decide)
  obtain ⟨-, hsame, -⟩ := hrun.op_of_main hup rfl
  rw [wideFailRun_after] at hsame
  exact absurd hsame (by decide)

end Sys2Proof.Machine
end

section
/-! Chutes (O22): each producer and consumer operation's whole next state. -/

namespace Sys2Proof.Machine

/-- A counter of a chute that is not at its end goes up by one, and nothing else happens. -/
theorem State.chuteBump_of_lt {s : State} {f : Fld} (h : s.rd f < 4294967294) (n : Nat) : s.chuteBump f n = s.wr f (s.rd f + 1) := by
  rw [State.chuteBump, if_neg (by omega), State.chuteCount, if_neg (by omega), if_neg (by omega)]

theorem State.chuteBump_setChute_of_lt {s : State} {f : Fld} (h : s.rd f < 4294967294) (n m : Nat) (c : Chute) :
    (s.setChute m c).chuteBump f n = (s.setChute m c).wr f (s.rd f + 1) := State.chuteBump_of_lt (s := s.setChute m c) h n

/-- The chute after an uncorrectable word of the packet p. -/
def Chute.cut (c : Chute) (p : Packet) (first : Bool) (rest : List Packet) : Chute :=
  { c with reading := none, pkts := rest, readData := 0, readSt := St.eccUncorrected, readTag := 1 + 2 * bit first + 4 + 8 * p.prio + 128 }.giveBack
    p.words.length

theorem State.cutShort_eq {s : State} {n : Nat} (h : s.rd (Reg.CHU_UNCORRECTED n) < 4294967294) (p : Packet) (first : Bool) (rest : List Packet) :
    s.cutShort n p first rest = ((s.setChute n ((s.chute n).cut p first rest)).wr (Reg.CHU_UNCORRECTED n)
      (s.rd (Reg.CHU_UNCORRECTED n) + 1)).faultWith Reg.CHU_FAULT_UNCORR n := by
  rw [State.cutShort]
  exact congrArg (·.faultWith Reg.CHU_FAULT_UNCORR n) (State.chuteBump_of_lt (s := s.setChute n ((s.chute n).cut p first rest)) h n)

/-! ## Reads -/

theorem chuteReadOp_none {s : State} {n : Nat} (h : s.chuteOn n = false ∨ (s.chute n).readFrom = none) (e : Ecc) :
    chuteReadOp n e s = s.setChute n { s.chute n with readData := 0, readTag := 0 } := by
  rw [chuteReadOp]
  rcases h with h | h
  · rw [if_pos (by rw [h]; rfl)]
  · dsimp only
    split
    · rfl
    · rw [h]

/-- The chute after a word of the packet p is read. -/
def Chute.readWord (c : Chute) (p : Packet) (w : DWord) (ws : List DWord) (first : Bool) (rest : List Packet) (tag : Nat) : Chute :=
  { c with reading := if ws.isEmpty then none else some { p with words := ws }, pkts := rest, readData := w, readSt := St.done,
           readTag := 1 + 2 * bit first + 4 * bit ws.isEmpty + 8 * p.prio + tag }.giveBack 1

theorem chuteReadOp_word {s : State} {n : Nat} {p : Packet} {w : DWord} {ws : List DWord} {first : Bool} {rest : List Packet} (hon : s.chuteOn n = true)
    (hr : (s.chute n).readFrom = some (p, first, rest)) (hw : p.words = w :: ws) (e : Ecc) : chuteReadOp n e s =
      if e = .uncorrectable then s.cutShort n p first rest
      else if decide (e = .corrected)
        then (s.setChute n ((s.chute n).readWord p w ws first rest (64 * bit (decide (e = .corrected))))).chuteBump (Reg.CHU_CORRECTED n) n
        else s.setChute n ((s.chute n).readWord p w ws first rest (64 * bit (decide (e = .corrected)))) := by
  simp only [chuteReadOp, hon, Bool.not_true, Bool.false_eq_true, if_false, hr, hw]
  rfl

/-! ## Disabling a chute -/

section
variable {β : Type} {π : State → β} (hsat : ∀ (t : State) (d : Nat), π (t.faultWith Reg.CHU_FAULT_SAT d) = π t)
include hsat

theorem State.chuteCount_of {f : Fld} {n : Nat} (hf : ∀ (t : State) (v : Nat), π (t.wr f v) = π t)
    (hn : ∀ (t : State) (v : Nat), π (t.wr (Reg.CHU_STATUS_CNT_SAT n) v) = π t) (s : State) : π (s.chuteCount f n) = π s := by
  rw [State.chuteCount]
  split
  · rfl
  · split
    · rw [hsat, hn, hf]
    · exact hf _ _

/-- What sees of the Tally's record neither chute 48 nor its counter sees nothing of it. -/
theorem State.tallyRecord_of (h48 : ∀ (t : State) (c : Chute), π (t.setChute 48 c) = π t)
    (hf : ∀ (t : State) (v : Nat), π (t.wr (Reg.CHU_NOCREDIT 48) v) = π t)
    (hn : ∀ (t : State) (v : Nat), π (t.wr (Reg.CHU_STATUS_CNT_SAT 48) v) = π t) (s : State) (k i v c : Nat) (d : List Nat) :
    π (s.tallyRecord k i v c d) = π s := by
  rw [State.tallyRecord]
  split
  · exact h48 _ _
  · rw [State.chuteCount_of hsat hf hn, h48]

/-- Nor does what also sees not the count of discarded packets see anything of their discarding. -/
theorem State.chuteDiscard_of (h48 : ∀ (t : State) (c : Chute), π (t.setChute 48 c) = π t)
    (hc : ∀ (t : State) (v : Nat), π (t.wr (Reg.CHU_NOCREDIT 48) v) = π t)
    (hn : ∀ (t : State) (m v : Nat), π (t.wr (Reg.CHU_STATUS_CNT_SAT m) v) = π t) {n : Nat}
    (hf : ∀ (t : State) (v : Nat), π (t.wr (Reg.CHU_DISCARDED n) v) = π t) (k : Nat) (s : State) : π (s.chuteDiscard n k) = π s := by
  induction k generalizing s with
  | zero => rfl
  | succ k ih =>
    rw [State.chuteDiscard, ih, State.chuteBump]
    split
    · rw [State.tallyRecord_of hsat h48 hc (hn · 48), State.chuteCount_of hsat hf (hn · n)]
    · exact State.chuteCount_of hsat hf (hn · n) s

end

theorem State.chuteDiscard_chute {n : Nat} (h : n ≠ 48) (k : Nat) (s : State) : (s.chuteDiscard n k).chute n = s.chute n :=
  State.chuteDiscard_of (π := fun s => s.chute n) (fun _ _ => rfl) (fun t c => State.chute_setChute_ne h t c) (fun _ _ => rfl) (fun _ _ _ => rfl)
    (fun _ _ => rfl) k s

/-- A register whose offset in the chutes' block is not that of a counter, of a counter's end or of the faults. -/
def Fld.chuFixed (f : Fld) : Prop := f.off = 0x30004 ∨ f.off = 0x30008

theorem Fld.key_ne_of_off {f g : Fld} (ho : f.off < 4294967296) (hg : g.off < 4294967296) (hf : f.lo < 64) (hl : g.lo < 64) (h : f.off ≠ g.off) :
    f.key ≠ g.key := by
  unfold Fld.key
  omega

theorem State.chuteDiscard_rd {n : Nat} (k : Nat) (s : State) {f : Fld} (ho : f.chuFixed) (hl : f.lo < 64) : (s.chuteDiscard n k).rd f = s.rd f := by
  have hne (g : Fld) (hg : g.off < 4294967296) (hgl : g.lo < 64) (h : ¬ g.chuFixed) : f.key ≠ g.key :=
    Fld.key_ne_of_off (by rcases ho with h | h <;> rw [h] <;> decide) hg hl hgl fun e => h (by rw [Fld.chuFixed, ← e]; exact ho)
  refine State.chuteDiscard_of (π := fun s => s.rd f) (fun t d => State.rd_faultWith_ne (hne _ ?_ ?_ ?_) (hne _ ?_ ?_ ?_) t d) (fun _ _ => rfl)
    (fun t v => State.rd_wr_ne (hne _ ?_ ?_ ?_) t v) (fun t m v => State.rd_wr_ne (hne _ ?_ ?_ ?_) t v)
    (fun t v => State.rd_wr_ne (hne _ ?_ ?_ ?_) t v) k s
  all_goals simp [Fld.chuFixed, Reg.CHU_FAULT_SAT, Reg.MSIX_PENDING, Reg.CHU_NOCREDIT, Reg.CHU_STATUS_CNT_SAT, Reg.CHU_DISCARDED]

/-- The fields of a chute's group. -/
def chuteGroup (n : Nat) : List Fld := [Reg.CHU_CFG_ALLOT n, Reg.CHU_CFG_PKT_MAX n, Reg.CHU_CFG_ENABLE n]

/-- The state with a chute's group live. -/
def State.chuteLive (s : State) (n : Nat) : State := s.commit (Reg.CHU_COMMIT_RESULT n) (chuteGroup n) St.done

theorem State.chuteLive_rd (s : State) (n : Nat) {f : Fld} (hf : f ∈ chuteGroup n) : (s.chuteLive n).rd f = s.sh f % 2 ^ f.w := by
  refine State.commit_live _ hf ?_ ?_ s
  · simp [chuteGroup, Fld.key, Reg.CHU_CFG_ALLOT, Reg.CHU_CFG_PKT_MAX, Reg.CHU_CFG_ENABLE]
  · simp only [chuteGroup, List.mem_cons, List.not_mem_nil, or_false] at hf
    rcases hf with rfl | rfl | rfl <;> simp [Fld.key, Reg.CHU_CFG_ALLOT, Reg.CHU_CFG_PKT_MAX, Reg.CHU_CFG_ENABLE, Reg.CHU_COMMIT_RESULT] <;> omega

theorem State.chuteLive_result (s : State) (n : Nat) : (s.chuteLive n).rd (Reg.CHU_COMMIT_RESULT n) = St.done :=
  (State.commit_result ..).trans rfl

theorem State.chuteLive_on (s : State) (n : Nat) : (s.chuteLive n).chuteOn n = (s.sh (Reg.CHU_CFG_ENABLE n) % 2 != 0) := by
  rw [State.chuteOn, State.on, State.chuteLive_rd s n (by simp [chuteGroup])]
  rfl

/-- A chute that is disabled: its packet rewound, its packets dropped, its credits returned. -/
def Chute.emptied (c : Chute) : Chute := { c.rewind with pkts := [], reading := none, returned := c.rewind.given }

theorem Chute.emptied_tested (c : Chute) : c.emptied.tested.opened = none ∧ c.emptied.tested.pkts = [] ∧ c.emptied.tested.reading = none ∧
    c.emptied.tested.returned = c.emptied.tested.given := by
  have hkeep (d : Chute) : d.tested.opened = d.opened ∧ d.tested.pkts = d.pkts ∧ d.tested.reading = d.reading ∧ d.tested.returned = d.returned ∧
    d.tested.given = d.given := ⟨rfl, rfl, rfl, rfl, rfl⟩
  obtain ⟨h1, h2, h3, h4, h5⟩ := hkeep c.emptied
  rw [h1, h2, h3, h4, h5]
  exact ⟨c.rewind_opened, rfl, rfl, rfl⟩

theorem chuteCfgCommitOp_eq {s : State} {n : Nat} (hn : s.rd Reg.CHU_SEL_CHUTE = n) (hv : chuteVerdict n s = St.done) : chuteCfgCommitOp s =
    if s.chuteOn n && !(s.chuteLive n).chuteOn n then ((s.chuteLive n).setChute n (s.chute n).emptied).chuteDiscard n (s.chute n).rewind.unread
    else if !s.chuteOn n && (s.chuteLive n).chuteOn n then
      (s.chuteLive n).setChute n
        { s.chute n with given := ((s.chute n).given + (s.chuteLive n).rd (Reg.CHU_CFG_ALLOT n)) % 4294967296 }
    else s.chuteLive n := by
  have hchute : (s.chuteLive n).chute n = s.chute n := by
    rw [State.chute, State.chuteLive, State.commit_chu, State.chute]
  rw [chuteCfgCommitOp]
  subst hn
  dsimp only
  rw [hv, if_neg (by decide)]
  change (if s.chuteOn _ && !(s.chuteLive _).chuteOn _ then
    ((s.chuteLive _).setChute _ ((s.chuteLive _).chute _).emptied).chuteDiscard _ ((s.chuteLive _).chute _).rewind.unread else _) = _
  rw [hchute]
  rfl

/-- Settles O22: each operation's one branch, and for a disabled chute what the discarding leaves. -/
theorem chuteOperations : Obligations.ChuteOperations := by
  refine ⟨fun s n prio hup ho hon hc => ?_, fun s n prio hup ho => ?_, fun s n prio hup ho hc hlt => ?_, fun s n w o hup ho hov hl => ?_,
    fun s n w o hup ho hov hl hlt => ?_, fun s n o hup ho hov hw => ?_, fun s n o hup ho hov => ?_, fun s n o hup ho hov hlt => ?_,
    fun s n p w ws first rest hup hon hr hw => ?_, fun s n p w ws first rest hup hon hr hw hlt => ?_,
    fun s n p w ws first rest hup hon hr hw hlt => ?_, fun s n e hup hon hr => ?_, fun s n e hup hon => ?_, fun s n p hup hr hlt => ?_,
    fun s n hup hr => ?_, fun s n hup hn hv hon hen => ?_, fun s n hup hn hv hon hen h48 => ?_, fun s n hup => ?_⟩
  · refine Gives.of_main hup rfl ?_
    simp only [chuteStartOp, ho, hon, hc, decide_true, Bool.and_self, Option.isSome_none, Bool.false_eq_true, if_false, if_true]
  · refine Gives.of_main hup rfl ?_
    simp only [chuteStartOp, ho, if_true]
  · refine Gives.of_main hup rfl ?_
    have hno : ¬ (s.chuteOn n && decide (s.rd (Reg.CHU_CFG_PKT_MAX n) ≤ s.freeCredit n)) = true := by
      rcases hc with h | h
      · simp [h]
      · simp [h]
    simp only [chuteStartOp, ho, Option.isSome_none, Bool.false_eq_true, if_false, if_neg hno]
    exact State.chuteBump_setChute_of_lt hlt ..
  · refine Gives.of_main hup rfl ?_
    simp only [chuteWriteOp, ho, hov, Bool.false_eq_true, if_false, if_neg (Nat.not_le.mpr hl), ge_iff_le]
  · refine Gives.of_main hup rfl ?_
    simp only [chuteWriteOp, ho, hov, Bool.false_eq_true, if_false, ge_iff_le, if_pos hl]
    exact State.chuteBump_setChute_of_lt hlt ..
  · refine Gives.of_main hup rfl ?_
    simp only [chuteCommitOp, ho, hov, Bool.false_eq_true, if_false, List.isEmpty_iff, if_neg hw]
  · refine Gives.of_main hup rfl ?_
    simp only [chuteCommitOp, ho, hov, if_true]
  · refine Gives.of_main hup rfl ?_
    simp only [chuteAbortOp, Chute.rewind, ho, hov, Bool.false_eq_true, if_false]
    exact State.chuteBump_setChute_of_lt hlt ..
  · refine Gives.of_main hup rfl ?_
    rw [chuteReadOp_word hon hr hw, if_neg (by decide), if_neg (by decide)]
    rfl
  · refine Gives.of_main hup rfl ?_
    rw [chuteReadOp_word hon hr hw, if_neg (by decide), if_pos (by decide)]
    exact State.chuteBump_setChute_of_lt hlt ..
  · refine Gives.of_main hup rfl ?_
    rw [chuteReadOp_word hon hr hw, if_pos rfl, State.cutShort_eq hlt]
    refine ⟨?_, ?_, State.fault_rd _ _ (by decide) (by decide), State.faultWith_mode ..⟩
    · rw [State.chute, State.faultWith_chu, State.wr_chu]
      exact State.chute_setChute_same ..
    · rw [State.rd_faultWith_ne (by simp [Fld.key, Reg.CHU_UNCORRECTED, Reg.CHU_FAULT_UNCORR]; omega)
        (by simp [Fld.key, Reg.CHU_UNCORRECTED, Reg.MSIX_PENDING]; omega), State.rd_wr_same]
      exact Nat.mod_eq_of_lt (by rw [show (Reg.CHU_UNCORRECTED n.val).w = 32 from rfl]; omega)
  · exact Gives.of_main hup rfl (chuteReadOp_none (.inr hr) e)
  · exact Gives.of_main hup rfl (chuteReadOp_none (.inl hon) e)
  · refine Gives.of_main hup rfl ?_
    simp only [chuteDropRestOp, hr]
    exact State.chuteBump_setChute_of_lt hlt ..
  · refine Gives.of_main hup rfl ?_
    simp only [chuteDropRestOp, hr]
  · refine Gives.of_main hup rfl ?_
    have hlive : (s.chuteLive n).chuteOn n = true := by rw [State.chuteLive_on, hen]; rfl
    rw [chuteCfgCommitOp_eq hn hv, hon, hlive]
    simp only [Bool.not_true, Bool.not_false, Bool.and_self, Bool.false_eq_true, if_false, if_true, State.setChute_rd]
    refine ⟨s.chuteLive_result n, fun f hf => s.chuteLive_rd n hf, ?_⟩
    rw [State.chute_setChute_same, Chute.tested_given]
  · refine Gives.of_main hup rfl ?_
    have hlive : (s.chuteLive n).chuteOn n = false := by rw [State.chuteLive_on, hen]; rfl
    rw [chuteCfgCommitOp_eq hn hv, hon, hlive]
    simp only [Bool.not_false, Bool.and_self, if_true]
    have hchute := (State.chuteDiscard_chute h48 (s.chute n).rewind.unread ((s.chuteLive n).setChute n (s.chute n).emptied)).trans
      (State.chute_setChute_same ..)
    refine ⟨?_, ?_, ?_⟩
    · rw [State.chuteDiscard_rd _ _ (.inr rfl) (by simp [Reg.CHU_COMMIT_RESULT]), State.setChute_rd]
      exact s.chuteLive_result n
    · rw [State.chuteOn, State.on, State.chuteDiscard_rd _ _ (.inl rfl) (by simp [Reg.CHU_CFG_ENABLE]), State.setChute_rd]
      exact hlive
    · rw [hchute]
      exact (s.chute n).emptied_tested
  · exact Gives.of_main hup rfl rfl

end Sys2Proof.Machine
end

section
/-! RTCM epochs (O32): a missed epoch whose count comes to its end is also a record of the Tally. -/

namespace Sys2Proof.Machine

/-- A state whose next RTCM epoch finds no series, its count of missed epochs one step below its end. -/
def missedNearEnd : State :=
  { State.reset with mode := .pantry, fld := AMap.set Reg.COR_EPOCH_MISSED.key 0xFFFFFFFE [] }

/-- The time of the epoch and the state brought to it, as the obligation names them. -/
def missedTime : YTime :=
  missedNearEnd.baseReads.rtcmApply.epochTime (ratePeriod (min (missedNearEnd.baseReads.rtcmApply.rd Reg.COR_RTCM_CFG_RATE)
    missedNearEnd.baseReads.rtcmApply.rng.rate)) missedNearEnd.baseReads.rtcmApply.cor.last

def missedEpoch : State :=
  { (missedNearEnd.baseReads.rtcmApply.advance missedTime).rtcmApply with
    cor := { (missedNearEnd.baseReads.rtcmApply.advance missedTime).rtcmApply.cor with last := some missedTime } }

def missedShown : State :=
  (missedEpoch.wr Reg.COR_STATUS_RATE_CAPPED (bit (decide (missedEpoch.rng.rate < missedEpoch.rd Reg.COR_RTCM_CFG_RATE)))).wr Reg.COR_STATUS_RTCM_ON 1

/-- The count's end is recorded: chute 48 takes the record or refuses it. -/
theorem missed_records : (rtcmEpochOp [] missedNearEnd).chu ≠ missedShown.chu := by decide

/-- Refutes O32: a missed epoch may leave more than the chutes had, the record that the count of missed epochs came to its end. -/
theorem not_rtcmAndCompact : ¬ Obligations.RtcmAndCompact := by
  rintro ⟨-, -, h, -⟩
  have hup : missedNearEnd.Up := by decide
  have hrun := h missedNearEnd _ missedEpoch missedShown [] missedTime hup rfl rfl rfl (by decide) (by decide) rfl
  obtain ⟨-, -, hchu, -⟩ := hrun.op_of_main hup rfl
  exact missed_records hchu

end Sys2Proof.Machine
end

section
/-! The caster (O33): its tables, its requests row by row, its clients and its commit. -/

namespace Sys2Proof.Machine

theorem State.closeClients_clients (s : State) (gone : CastClient → Bool) :
    (s.closeClients gone).cor.clients = s.cor.clients.filter fun c => !gone c := by
  have hshow (t : State) : t.showCaster.cor = t.cor := rfl
  rw [State.closeClients, hshow, State.bumpBy_cor]

theorem State.closeClients_mode (s : State) (gone : CastClient → Bool) : (s.closeClients gone).mode = s.mode :=
  State.closeClients_only (π := State.mode) (unseen_mode (by decide)) s gone

/-- Closing clients leaves the tables. -/
theorem State.closeClients_tables (s : State) (gone : CastClient → Bool) :
    (s.closeClients gone).cor.mounts = s.cor.mounts ∧ (s.closeClients gone).cor.users = s.cor.users := by
  have hshow (t : State) : t.showCaster.cor = t.cor := rfl
  rw [State.closeClients, hshow, State.bumpBy_cor]
  exact ⟨rfl, rfl⟩

theorem State.begun_tableBad (s : State) (c : Cmd) (p : List Byte) (m u : Nat) : (s.begun c).tableBad p m u = s.tableBad p m u := by
  have hrd : (s.begun c).rd Reg.COR_RTCM_CFG_SYS_EN = s.rd Reg.COR_RTCM_CFG_SYS_EN := State.rd_of_only _ (State.begun_only · _ _) (by decide)
  rw [State.tableBad, hrd, State.tableBad]

/-- A client that connects. -/
def State.castClient (s : State) (q : CastReq) (u : Option (List Byte)) : CastClient :=
  ⟨s.cor.nextId, q.lanB, q.addr.toNat, u, !q.v2, q.path, framed (!q.v2) (s.cor.sent.flatMap Prod.snd)⟩

def State.clientJoins (s : State) (c : CastClient) : State :=
  ({ s with cor := { s.cor with clients := s.cor.clients ++ [c], nextId := s.cor.nextId + 1 } } : State).showCaster

/-- New tables in force. -/
def State.castTables (s : State) (ms : List Mount) (us : List CastUser) : State :=
  ({ s with cor := { s.cor with mounts := ms, users := us } } : State).storeWith fun (a : SettingsArea) => { a with mounts := ms, users := us }

theorem State.castTables_cor (s : State) (ms : List Mount) (us : List CastUser) : (s.castTables ms us).cor = { s.cor with mounts := ms, users := us } := by
  rw [State.castTables, State.storeWith_cor]

/-- The mount points and users that a CASTER_TABLE names. -/
def castMounts (d : List Byte) (m : Nat) : List Mount :=
  (List.range m).map fun i => ⟨unpad (slice d (16 + 32 * i) 24), (d.getD (40 + 32 * i) 0).toNat, (d.getD (41 + 32 * i) 0).toNat⟩

def castUsers (k : Nat) (d : List Byte) (m u : Nat) : List CastUser :=
  (List.range u).map fun i =>
    ⟨unpad (slice d (16 + 32 * m + 64 * i) 24), hmacBytes k ((unpad (slice d (16 + 32 * m + 64 * i + 24) 32)).map BitVec.toNat),
      (d.getD (16 + 32 * m + 64 * i + 56) 0).toNat⟩

/-- Whether a client's mount point or user is gone. -/
def castGone (ms : List Mount) (us : List CastUser) (x : CastClient) : Bool :=
  !(ms.any fun y => y.name == x.mount) || (match x.user with | some n => !(us.any fun y => y.name == n) | none => false)

theorem casterTableOp_eq {s : State} {c : Cmd} {d : List Byte} {k m u : Nat} (hacc : s.Accepts c .dataIn)
    (hmu : m = (d.getD 1 0).toNat ∧ u = (d.getD 2 0).toNat + 256 * (d.getD 3 0).toNat) (hlen : c.desc.length.toNat = 16 + 32 * m + 64 * u)
    (hbad : s.tableBad d m u = false) (hk : (s.begun c).keyOf 7 = some k) : casterTableOp c d s =
      (((s.begun c).castTables (castMounts d m) (castUsers k d m u)).closeClients (castGone (castMounts d m) (castUsers k d m u))).finish c St.done
        c.desc.length.toNat 0 := by
  obtain ⟨hm, hu⟩ := hmu
  rw [casterTableOp, State.hostCmd_accepts hacc]
  dsimp only
  rw [← hm, ← hu, if_neg (by omega), State.begun_tableBad, hbad, if_neg (by decide), hk]
  rfl

/-- The rows of a request before the one that looks its path up. -/
theorem casterRequestOp_path {s : State} {q : CastReq} (hl : s.listens q.lanB = true) (hq : q.tooLong = false ∧ s.cor.lockout.contains q.addr.toNat = false ∧
    q.isGet = true ∧ (q.v2 = true ∨ s.on Reg.COR_CASTER_CFG_V1_EN = true)) : casterRequestOp q s =
      match s.cor.mounts.findIdx? (fun m => m.name == q.path) with
      | none => s.sourcetable
      | some i =>
        if !s.corServes then s.answered 503
        else match s.credentials q i with
          | none => (s.authFailed q.addr.toNat).answered 401
          | some u =>
            if s.cor.clients.length ≥ s.clientLimit then
              ((s.bump Reg.COR_CLIENT_REFUSED Reg.COR_FAULT_CNT_SAT).fault Reg.COR_FAULT_CLIENT_REFUSED).answered 503
            else
              (s.clientJoins (s.castClient q u)).answered (if q.v2 then 200 else 2) := by
  obtain ⟨hlong, hlock, hget, hv⟩ := hq
  have hv1 : (!q.v2 && !s.on Reg.COR_CASTER_CFG_V1_EN) = false := by rcases hv with h | h <;> simp [h]
  simp only [casterRequestOp, hl, hlong, hlock, hget, hv1, Bool.not_true, Bool.false_eq_true, if_false]
  rfl

/-- The verdict of an admissible CASTER commit. -/
theorem casterCommitOp_eq {s : State} (hp : s.sh Reg.COR_CASTER_CFG_PORT ≠ 0) (hm : s.sh Reg.COR_CASTER_CFG_MAX_CLIENTS ≤ 256 ∧
    (s.sh Reg.COR_CASTER_CFG_LAN_A_EN ≠ 0 ∨ s.sh Reg.COR_CASTER_CFG_LAN_B_EN ≠ 0)) {x : State} (hx : x = s.commit
      Reg.COR_CASTER_COMMIT_RESULT [Reg.COR_CASTER_CFG_PORT, Reg.COR_CASTER_CFG_MAX_CLIENTS, Reg.COR_CASTER_CFG_V1_EN,
        Reg.COR_CASTER_CFG_LAN_A_EN, Reg.COR_CASTER_CFG_LAN_B_EN] St.done) : casterCommitOp s =
      if s.sh Reg.COR_CASTER_CFG_PORT != s.rd Reg.COR_CASTER_CFG_PORT then x.closeClients fun _ => true
      else x.closeClients fun c => !((x.cor.clients.take x.clientLimit).map (·.id)).contains c.id := by
  obtain ⟨hmax, hlan⟩ := hm
  have hv : decide (s.sh Reg.COR_CASTER_CFG_PORT = 0 ∨ s.sh Reg.COR_CASTER_CFG_MAX_CLIENTS > 256 ∨
      (s.sh Reg.COR_CASTER_CFG_LAN_A_EN = 0 ∧ s.sh Reg.COR_CASTER_CFG_LAN_B_EN = 0)) = false := decide_eq_false (by omega)
  subst hx
  simp only [casterCommitOp, hv, firstFail, Bool.false_eq_true, if_false, ne_eq, not_true_eq_false]

/-- Settles O33, each request by its row. -/
theorem casterService : Obligations.CasterService := by
  refine ⟨fun s c d hup hacc hlen ht => ?_, fun s c d hup hacc hlen => ?_, fun s c d k m u hup hacc hmu hlen hbad hk => ?_, fun s q hup hl hq => ?_,
    fun s q hup hl hq => ?_, fun s q hup hl hq => ?_, fun s q hup hl hq => ?_, fun s q hup hl hq hf => ?_, fun s q i hup hl hq hf => ?_,
    fun s q i hup hl hq hf hcr => ?_, fun s q i u hup hl hq hf hcr hn => ?_, fun s q i u hup hl hq hf hcr hn => ?_, fun s hup => ?_, fun s a hup => ?_,
    fun s i hup => ?_, fun s hup hp hm => ?_, fun s x hup hp hm hx => ?_⟩
  · refine Gives.of_main hup rfl ?_
    rw [stationTextOp, State.hostCmd_accepts hacc, if_neg (not_not_intro hlen), if_neg (by rw [ht.1, ht.2]; decide)]
    exact ⟨by rw [State.finish_cor], State.finish_completed .., by simp⟩
  · refine Gives.of_main hup rfl ?_
    rw [casterTableOp, State.hostCmd_accepts hacc]
    exact if_pos hlen
  · refine Gives.of_main hup rfl ?_
    rw [casterTableOp_eq hacc hmu hlen hbad hk]
    have hclose := State.closeClients_tables ((s.begun c).castTables (castMounts d m) (castUsers k d m u)) (castGone (castMounts d m) (castUsers k d m u))
    simp only [State.castTables_cor] at hclose
    simp only [State.finish_cor, hclose.1, hclose.2, State.closeClients_clients, State.castTables_cor, State.begun_cor]
    refine ⟨rfl, rfl, rfl, ?_, ?_⟩
    · rw [← hlen]
      exact State.finish_completed ..
    · rw [State.finish_mode, State.closeClients_mode, State.castTables, State.storeWith_mode]
      exact State.begun_mode ..
  · refine Gives.of_main hup rfl ?_
    simp only [casterRequestOp, hl, hq, Bool.not_true, Bool.false_eq_true, if_false, if_true]
  · refine Gives.of_main hup rfl ?_
    simp only [casterRequestOp, hl, hq.1, hq.2, Bool.not_true, Bool.false_eq_true, if_false, if_true]
  · refine Gives.of_main hup rfl ?_
    obtain ⟨hlong, hlock, hget⟩ := hq
    simp only [casterRequestOp, hl, hlong, hlock, hget, Bool.not_true, Bool.not_false, Bool.false_eq_true, if_false, if_true]
  · refine Gives.of_main hup rfl ?_
    obtain ⟨hlong, hlock, hget, hv, hen⟩ := hq
    simp only [casterRequestOp, hl, hlong, hlock, hget, hv, hen, Bool.not_true, Bool.not_false, Bool.and_self, Bool.false_eq_true, if_false, if_true]
  · refine Gives.of_main hup rfl ?_
    rw [casterRequestOp_path hl hq, hf]
    exact ⟨rfl, rfl, rfl, rfl⟩
  · refine Gives.of_main hup rfl ?_
    rw [casterRequestOp_path hl hq, hf.1]
    exact if_pos (by rw [hf.2]; rfl)
  · refine Gives.of_main hup rfl ?_
    rw [casterRequestOp_path hl hq, hf.1]
    dsimp only
    rw [if_neg (by rw [hf.2]; decide), hcr]
  · refine Gives.of_main hup rfl ?_
    rw [casterRequestOp_path hl hq, hf.1]
    dsimp only
    rw [if_neg (by rw [hf.2]; decide), hcr]
    exact if_pos hn
  · refine Gives.of_main hup rfl ?_
    rw [casterRequestOp_path hl hq, hf.1]
    dsimp only
    rw [if_neg (by rw [hf.2]; decide), hcr]
    dsimp only
    rw [if_neg (Nat.not_le.mpr hn)]
    exact ⟨rfl, rfl, rfl, rfl⟩
  · refine Gives.of_main hup rfl ⟨rfl, rfl, ?_⟩
    have hans (t : State) (a : Nat) : (t.answered a).cor.clients = t.cor.clients := rfl
    rw [casterRequestTimeoutOp, hans, State.bump, State.bumpBy_cor]
  · exact Gives.of_main hup rfl rfl
  · refine Gives.of_main hup rfl ?_
    exact ⟨State.closeClients_clients .., State.closeClients_mode ..⟩
  · refine Gives.of_main hup rfl ?_
    rw [casterCommitOp_eq hp.1 hm rfl, if_pos (by simpa using hp.2)]
    have hrd {t : State} {g : CastClient → Bool} (f : Fld) (hb : f.blk = 7) (hc : ∀ g ∈ Reg.COR_CLIENT_CLOSED :: Reg.COR_FAULT_CNT_SAT :: casterFields,
        f.key ≠ g.key) : (t.closeClients g).rd f = t.rd f := by
      rw [State.closeClients, State.showCaster_rd _ fun g hg => hc g (by simp only [List.mem_cons]; exact .inr (.inr hg)),
        State.rd_bumpBy_ne (hc _ (by simp)) (hc _ (by simp)) (Fld.key_ne (by rw [hb]; decide)) (by rw [hb]; decide)]
      rfl
    refine ⟨?_, ?_, ?_⟩
    · rw [State.closeClients_clients]
      simp
    · rw [hrd _ (by decide) (by decide), State.commit_result]
      rfl
    · rw [hrd _ (by decide) (by decide)]
      exact State.commit_live _ (by simp) (by decide) (by decide) s
  · refine Gives.of_main hup rfl ?_
    rw [casterCommitOp_eq hp.1 hm hx, if_neg (by simp [hp.2])]

end Sys2Proof.Machine
end

section
/-! Robot epochs, filter commands and the commits of the Central RTK Engine (O36). -/

namespace Sys2Proof.Machine

/-- Bits that are 0 from bit 8 up are 0 at bit 8 and from bit 9 up. -/
theorem bits_high_zero {v : Nat} (h : bits v 8 24 = 0) : bits v 9 23 = 0 ∧ bits v 8 1 = 0 := by
  unfold bits at *
  omega

theorem robotEpochCompleteOp_eq {s0 : State} {e : ObsEpoch} {rest : List ObsEpoch} (hq : s0.cre.queue = e :: rest) (hr : s0.creRuns = true)
    (hb : e.noBase = true ∨ s0.paired e = true) {q x y : State} (hqq : q = ({ s0 with cre := { s0.cre with queue := rest } } : State).showCreRuns)
    {ecc : Ecc} (hx : x = (if ecc = .uncorrectable then (q.creReset e.lid).fault Reg.CRE_FAULT_STATE_ECC
      else if ecc = .corrected then q.wrapBy Reg.MEM_ECC_CORR 1 else q)) {eph : List EphSat} {r : Solution × Filt} (hs : r = x.solve (x.filt e.lid) e eph)
    (hy : y = (((((x.countEpoch r.1).setFilt e.lid r.2).wr (Reg.CRE_ROBOT_FIX e.lid) r.2.fix.code).wr (Reg.CRE_ROBOT_SATS e.lid) r.1.sats).wr
      (Reg.CRE_ROBOT_AMB_FIXED e.lid) r.1.amb).showCre) (done : YTime) (us : Nat) : robotEpochCompleteOp ecc eph done us s0 =
        (if !y.crePublishes then y else y.publish e r.1 r.2.fix.code done us).creDue e.lid := by
  have hgo : ¬ (!s0.creRuns || !(e.noBase || s0.paired e)) = true := by rcases hb with h | h <;> simp [hr, h]
  rw [robotEpochCompleteOp, hq]
  dsimp only
  rw [if_neg hgo, ← hqq]
  subst hy hs hx
  cases ecc <;> rfl

/-- Settles O36. -/
theorem centralResultsAndCommits : Obligations.CentralResultsAndCommits := by
  refine ⟨fun s q x y ecc eph done us e rest r hup hq hb hqq hx hs hy => ?_, fun s c hup hacc hl => ?_, fun s c hup hacc hl => ?_,
    fun s c hup hacc hl hr => ?_, fun s hup hm he hrot => ?_, fun s hup hp => ?_, fun s hup h1 h2 h3 => ?_⟩
  · refine Gives.of_main hup rfl ?_
    rw [robotEpochCompleteOp_eq hq.1 hq.2 hb hqq hx hs hy]
    cases y.crePublishes <;> rfl
  · refine Gives.of_main hup rfl ?_
    obtain ⟨h9, h8⟩ := bits_high_zero hl.2
    rw [robotResetOp, State.hostCmd_accepts hacc]
    dsimp only
    rw [if_neg (not_not_intro hl.1), if_neg (not_not_intro h9), if_neg (by rw [h8]; decide)]
    refine ⟨rfl, fun hin => ?_⟩
    have hin' : (s.begun c).inEpoch (bits c.desc.p0.toNat 0 8) = false := by rw [State.inEpoch, State.begun_cre]; exact hin
    rw [State.creLater, hin']
    rfl
  · refine Gives.of_main hup rfl ?_
    rw [robotResetOp, State.hostCmd_accepts hacc]
    dsimp only
    rw [if_neg (not_not_intro hl.1), if_neg (not_not_intro hl.2.1), if_pos hl.2.2]
  · refine Gives.of_main hup rfl ?_
    have hr' : (s.begun c).creRuns = true := by rw [State.creRuns, State.begun_mode, State.begun_pwr]; exact hr
    rw [stateReadOp, State.hostCmd_accepts hacc]
    dsimp only
    rw [if_neg (not_not_intro hl), hr', if_neg (by decide), State.filt, State.begun_cre, State.begun_zyp]
    rfl
  · refine Gives.of_main hup rfl ?_
    obtain ⟨hf, h1, h2⟩ := hm
    have hmode : (s.mode.fleet || s.mode == .twinStandby || s.mode == .rejoin) = false := by simp [hf, h1, h2]
    simp only [frameCommitOp, hmode, he, firstFail, Bool.false_eq_true, if_false, Nat.not_lt.mpr hrot, decide_false, if_true]
  · refine Gives.of_main hup rfl ?_
    have hp' : (s.sh Reg.CRE_XCHK_CFG_XCHK_PERSIST == 0) = false := by simpa using hp
    simp only [xchkCommitOp, hp', firstFail, Bool.false_eq_true, if_false, if_true, State.commit_cre, State.commit_mode]
    exact ⟨trivial, trivial, trivial⟩
  · refine Gives.of_main hup rfl ?_
    unfold filterCommitOp
    dsimp only
    rw [if_neg (by simp only [Bool.or_eq_true, decide_eq_true_eq]; omega)]

end Sys2Proof.Machine
end

section
/-! Task commands (O39): a TASK_FORCE whose count finds no place. -/

namespace Sys2Proof.Machine

/-- TASK_FORCE of task 0 to state 0 with holder 0. -/
def forceZero : Cmd := ⟨0, 0, 0, ⟨0, 0, 0, false, 0, 0, 0, 0, 0, 0⟩, none⟩

/-- A state in which that command waits, with one VALID task and one DEFINED state, its list of the epoch's counter moves empty. -/
def noMoves : State :=
  { State.reset with
    mode := .pantry
    fld := AMap.set Reg.TRK_STATUS_LIVE.key 1 []
    hre := { Hre.reset with old := [⟨0, 0, ⟨0, forceZero.desc, 0, false, none, .no⟩⟩] }
    trk := { Trk.reset with
             live := AMap.set 0x29000 0x1000000 []
             tasks := [(0, ⟨0, none, false, 0, 0, 0⟩)]
             tasks0 := [(0, ⟨0, none, false, 0, 0, 0⟩)]
             delta := [] } }

/-- The move is lost, and with it the bit that shows it. -/
theorem forceZero_not_shown : (taskForceOp forceZero noMoves).on Reg.TRK_FAULT_FORCED = false := by decide

/-- Refutes O39: where the list of the epoch's counter moves has no place for it, a TASK_FORCE is done without FORCED. -/
theorem not_fleetTablesAndTasks : ¬ Obligations.FleetTablesAndTasks := by
  rintro ⟨-, -, -, -, -, -, -, -, -, h, -⟩
  have hup : noMoves.Up := by decide
  have hrun := h noMoves forceZero ⟨0, none, false, 0, 0, 0⟩ (some 0) hup (by decide) (by decide) (by decide) (by decide) (by decide)
  obtain ⟨-, -, hon, -⟩ := hrun.op_of_main hup rfl
  rw [forceZero_not_shown] at hon
  cases hon

end Sys2Proof.Machine
end

section
/-! Tally flushes (O51): the register file lists its fields in the order it was given, so the order of two writes can show. -/

namespace Sys2Proof.Machine

/-- A bank of an empty image, with flush sequence 1. -/
def firstBank : TlyBank := ⟨TlyBody.empty, [], 0, false, false, 0, 1, ⟨0, false⟩, ⟨0, 0, 0, [], [], [], 0, 0, []⟩, false⟩

/-- A flush before its commit point. -/
def unorderedFlush : TlyFlush := ⟨⟨6, [], false, false⟩, false, firstBank, false⟩

/-- A state whose register file is listed out of order, the count of flushes one step below its end, with that flush in progress. -/
def unorderedFile : State :=
  { State.reset with
    mode := .pantry
    fld := [(Reg.TLY_FLUSHES.key, 0xFFFFFFFF), (0, 1)]
    tly := { Tly.reset with flush := some unorderedFlush } }

/-- The commit point's marks on the recorder, as the obligation names them. -/
def unorderedBanked : State :=
  (fun (y : State) =>
    { y with
      tly := { y.tly with
               flush := some { unorderedFlush with committed := true }
               received := unorderedFile.tly.since
               powerDone := unorderedFile.tly.powerDone || (unorderedFlush.req.cause == 2 && unorderedFile.pwr.pdown.isSome) } })
    (unorderedFile.setBank unorderedFlush.bankB (some { unorderedFlush.image with good := true }))

/-- The registers in the order the obligation writes them: the count of flushes first. -/
def unorderedWritten : State :=
  State.finishAll ((unorderedBanked.wrapBy Reg.TLY_FLUSHES 1).wrEach [(Reg.TLY_FLUSH_SEQ, unorderedFlush.image.flushSeq),
    (Reg.TLY_STATUS_BANK, bit unorderedFlush.bankB), (Reg.TLY_LAST_FLUSH_CAUSE, unorderedFlush.req.cause),
    (Reg.TLY_LAST_FLUSH_STATUS, St.done)]) St.done unorderedFlush.req.cmds

/-- The operation writes the flush sequence first, and the file then lists it in another place. -/
theorem flushCommitPoint_orders : (flushCommitPointOp unorderedFile).fld ≠ unorderedWritten.fld := by decide

/-- Refutes O51: at the commit point the flush sequence is written before the count of flushes, and where the register file is not in
the order of its keys the two orders leave it listed differently. -/
theorem not_tallyFlushes : ¬ Obligations.TallyFlushes := by
  rintro ⟨-, -, -, -, -, -, -, -, -, -, -, -, -, -, -, -, h, -⟩
  have hup : unorderedFile.Up := by decide
  have hrun := h unorderedFile unorderedBanked unorderedWritten unorderedFlush hup ⟨rfl, rfl⟩ rfl rfl
  obtain ⟨hsame, -⟩ := hrun.op_of_main hup rfl
  exact flushCommitPoint_orders (congrArg State.fld hsame)

end Sys2Proof.Machine
end

section
/-! The twin link (O54): a discarded frame whose count comes to its end is also a record of the Tally. -/

namespace Sys2Proof.Machine

/-- A state with the link UP, its count of bad frames one step below its end. -/
def badFramesNearEnd : State :=
  { State.reset with
    mode := .pantry
    fld := AMap.set Reg.FJR_BAD_FRAME.key 0xFFFFFFFE (AMap.set Reg.FJR_STATUS_LINK.key 2 []) }

/-- The count's end is recorded: chute 48 takes the record or refuses it. -/
theorem badFrame_records : (linkFrameRxOp [] badFramesNearEnd).chu ≠ badFramesNearEnd.chu := by decide

/-- Refutes O54: a frame of a bad length may change the chutes, by the record that the count of bad frames came to its end. -/
theorem not_twinLink : ¬ Obligations.TwinLink := by
  rintro ⟨-, -, -, -, -, -, -, h, -⟩
  have hup : badFramesNearEnd.Up := by decide
  have hrun := h badFramesNearEnd [] hup ⟨by decide, .inr (.inl (by decide))⟩
  obtain ⟨-, -, -, hchu⟩ := hrun.op_of_main hup rfl
  exact badFrame_records hchu

end Sys2Proof.Machine
end

section
/-! The Pace Governor's loops and the PACE commit (O40). -/

namespace Sys2Proof.Machine

/-! ## A loop's command -/

@[simp] theorem State.setLoop_loop (s : State) (n : Nat) (l : Loop) : (s.setLoop n l).loop n = l := AMap.get_set_same ..

/-- What a loop holds after its command: the state commanded, its command counted and dated. -/
theorem State.command_loop (s : State) (n : Nat) (l : Loop) (flags : Nat) (comp : YTime) :
    (s.command n l flags comp).loop n = { l with cmdSeq := (l.cmdSeq + 1) % 4294967296, cmdEp := some (s.rd Reg.GLB_EPOCH) } := by
  rw [State.command]
  exact State.setLoop_loop ..

/-- A ramp of a loop at rest that is entered, or whose command of 0 is due, is that command. -/
theorem State.ramp_rest {s : State} {n : Nat} {l : Loop} {entry : Bool} {comp : YTime} (hu : l.u = 0) (hw : l.winding = false)
    (hdue : entry = true ∨ l.cmdEp = none) : s.ramp n l entry comp = s.command n { l with slew := false, speed := false } 0 comp := by
  have hz : (entry || s.zeroDue { l with slew := false, speed := false }) = true := by
    rcases hdue with h | h
    · rw [h, Bool.true_or]
    · simp [State.zeroDue, h]
  rw [State.ramp]
  dsimp only
  rw [if_pos hu, if_neg (by rw [hw]; exact Bool.false_ne_true), if_pos hz]

theorem State.coast_rest {s : State} {n : Nat} {comp : YTime} (hu : (s.loop n).u = 0) :
    ((s.coast n (s.loop n) comp).loop n).mode = .coast ∧ ((s.coast n (s.loop n) comp).loop n).u = 0
      ∧ ((s.coast n (s.loop n) comp).loop n).cmdSeq = ((s.loop n).cmdSeq + 1) % 4294967296 := by
  rw [State.coast]
  dsimp only
  rw [State.ramp_rest (l := { s.loop n with mode := .coast, winding := false }) hu rfl (.inl rfl), State.command_loop]
  exact ⟨rfl, hu, rfl⟩

/-- A loop that is in a ramping mode or winds down, with no input left and not due for COAST, runs its ramp once an epoch. -/
theorem loopRampCommandOp_of {s : State} {n : Nat} {comp : YTime} (hrun : s.govRuns = true ∧ s.epo.decided = true ∧ s.coastDue (s.loop n) = false)
    (hno : (s.epo.loopQ.any fun x => x.lid.val == n) = false)
    (hmode : (s.loop n).mode = .coast ∨ (s.loop n).mode = .held ∨ (s.loop n).mode = .docked ∨ (s.loop n).winding = true)
    (hnow : (s.loop n).cmdEp ≠ some (s.rd Reg.GLB_EPOCH)) : loopRampCommandOp n comp s = s.ramp n (s.loop n) false comp := by
  obtain ⟨hruns, hdec, hdue⟩ := hrun
  have hramping : ((s.loop n).mode == .coast || (s.loop n).mode == .held || (s.loop n).mode == .docked || (s.loop n).winding) = true := by
    rcases hmode with h | h | h | h <;> simp [h]
  have hlate : ((s.loop n).cmdEp == some (s.rd Reg.GLB_EPOCH)) = false := beq_false_of_ne hnow
  rw [loopRampCommandOp, hruns, hdec, hdue, hno, hramping, hlate]
  rfl

/-! ## The loops' inputs -/

theorem loopInputOp_of {s : State} {x : LoopIn} {rest : List LoopIn} (hq : s.epo.loopQ = x :: rest) (comp : YTime) (us : Nat) :
    loopInputOp comp us s =
      (fun t : State =>
        if x.rsv ∨ x.mode.toNat > 3 ∨ !t.govRuns then t.bump Reg.GOV_BAD_INPUT Reg.GOV_FAULT_CNT_SAT
        else if (t.loopIn x comp).rd Reg.GOV_UPDATES = t.rd Reg.GOV_UPDATES then t.loopIn x comp else (t.loopIn x comp).latency us)
      (State.consume { s with epo := { s.epo with loopQ := rest } } 40 (toWords (loopInBytes x))) := by
  rw [loopInputOp, hq]

/-- Taking an input from its chute leaves the modes in which loops are served. -/
theorem State.consume_govRuns (s : State) (n : Nat) (w : List DWord) : (s.consume n w).govRuns = s.govRuns := by
  rw [State.govRuns, State.govRuns, State.follows, State.follows, State.consume_only (π := State.mode) (unseen_mode (by decide))]

/-! ## The clock loops -/

theorem State.clkGain_of_curve {s : State} {j : Nat} {x v : Int} (h : s.curve j x = some v) : s.clkGain j x = (v, s) := by
  rw [State.clkGain, h]

/-! ## The PACE commit -/

theorem State.paceApply_live (s : State) : s.paceApply.gov.live = s.gov.shadow := by simp [State.paceApply]

theorem State.paceRefuse_shadow (s : State) (v : Nat) (e : Nat × Nat) : (s.paceRefuse v e).gov.shadow = s.gov.live := by simp [State.paceRefuse]

theorem State.paceApply_result (s : State) : s.paceApply.rd Reg.GOV_PACE_COMMIT_RESULT = St.done := by
  rw [State.paceApply]
  dsimp only
  rw [State.rd_wr_ne (by decide), State.rd_wr_ne (by decide), State.rd_wr_ne (by decide), State.endPending, State.commit_result]
  decide

theorem State.paceRefuse_result (s : State) (v : Nat) (e : Nat × Nat) :
    (s.paceRefuse v e).rd Reg.GOV_PACE_COMMIT_RESULT = v % 2 ^ Reg.GOV_PACE_COMMIT_RESULT.w := by
  rw [State.paceRefuse]
  dsimp only
  rw [State.rd_wr_ne (by decide), State.rd_wr_ne (by decide), State.rd_wr_ne (by decide), State.rd_wr_same]

/-- The commit where the mode takes it and none is pending, by what the rules say of the shadow. -/
theorem paceCommitOp_of {s : State} (hf : s.follows = false ∧ s.mode ≠ .update) (hp : s.isPending Reg.GOV_PACE_COMMIT_RESULT = false) :
    paceCommitOp s = match s.paceBad with
      | some e => s.paceRefuse St.badFormat e
      | none =>
        if s.mode.fleet then
          let t := (s.setPending Reg.GOV_PACE_COMMIT_RESULT).wr Reg.GOV_STATUS_PENDING 1
          { t with epo := { t.epo with host := t.epo.host ++ [⟨none, .pace, t.dsp.adm, false, none, []⟩] } }
        else s.paceApply := by
  have hg : ¬ (s.follows = true ∨ s.mode = .update) := by
    rw [hf.1]
    exact fun h => h.elim Bool.false_ne_true hf.2
  rw [paceCommitOp]
  dsimp only
  rw [if_neg hg, hp, if_neg Bool.false_ne_true] <;> rfl

/-- A fleet mode takes commits. -/
theorem State.commits_of_fleet {s : State} (h : s.mode.fleet = true) : s.follows = false ∧ s.mode ≠ .update := by
  rw [State.follows]
  revert h
  cases s.mode <;> simp [Mode.fleet]

/-- Settles O40: a loop's command is the last thing its coast, ramp or loss does, and shows the loop it commands; the commits follow the
verdict on the shadow. -/
theorem governorLoops : Obligations.GovernorLoops := by
  refine ⟨fun s u x rest comp us hup hq hu hbad => ?_, fun s u x rest comp us hup hq hu hok => ?_, fun s n comp hup hrun hno => ?_,
    fun s n comp hup hrun hno hu => ?_, fun s n comp hup hrun hno hmode hnow => ?_, fun s n comp hup hrun hno hrest => ?_,
    fun s n comp hup hrun => ?_, fun s u v p x kp ki c0 r out hup hx hkp hki hc0 hr hv hout => ?_, fun s hup hf hp hok => ?_,
    fun s hup hf hp hok => ?_, fun s e hup hf hp hbad => ?_, fun s hup hf hp => ?_⟩ <;> refine Gives.of_main hup rfl ?_
  · have hruns : u.govRuns = s.govRuns := by rw [hu, State.consume_govRuns]; rfl
    rw [loopInputOp_of hq, ← hu]
    dsimp only
    rw [if_pos (by rw [hruns]; simpa using hbad)]
    refine ⟨rfl, ?_, ?_, ?_⟩
    · rw [State.bump_epo, hu, State.consume_only (π := State.epo) (unseen_epo (by decide))]
    · rw [State.bump_gov, hu, State.consume_only (π := State.gov) (unseen_gov (by decide))]
    · rw [State.bump_mode, hu, State.consume_only (π := State.mode) (unseen_mode (by decide))]
  · have hruns : u.govRuns = s.govRuns := by rw [hu, State.consume_govRuns]; rfl
    obtain ⟨hm, hr, hg⟩ := hok
    rw [loopInputOp_of hq, ← hu]
    dsimp only
    rw [if_neg (by rw [hruns, hr, hg]; simp; omega)]
  · obtain ⟨hruns, hdec, hdue⟩ := hrun
    simp [coastEntryOp, hruns, hdec, hdue, hno]
  · obtain ⟨hruns, hdec, hdue⟩ := hrun
    have hop : coastEntryOp n.val comp s = s.coast n.val (s.loop n.val) comp := by simp [coastEntryOp, hruns, hdec, hdue, hno]
    rw [hop]
    exact State.coast_rest hu
  · exact loopRampCommandOp_of hrun hno hmode hnow
  · obtain ⟨hmode, hu, hep, hw⟩ := hrest
    rw [loopRampCommandOp_of hrun hno (.inr (.inl hmode)) (by rw [hep]; exact Option.some_ne_none _ |>.symm),
      State.ramp_rest hu hw (.inr hep), State.command_loop]
    exact ⟨hmode, rfl, rfl⟩
  · have hop : loopStateEccOp n.val comp s = (((s.faultWith Reg.GOV_FAULT_STATE_ECC n.val).raiseOwn n.val true
        (Reg.TRP_ROBOT_LOOP_LOST n.val)).command n.val { (s.loop n.val).offNow with mode := .lost } 0 comp) := by
      simp only [loopStateEccOp, hrun, Bool.not_true, Bool.false_eq_true, if_false]
    rw [hop, State.command_loop]
    exact ⟨rfl, rfl, rfl, rfl⟩
  · obtain ⟨hp, rfl, rfl⟩ := hx
    rw [clockLoopInputOp, hp]
    dsimp only
    rw [State.clkGain_of_curve hkp]
    dsimp only
    rw [State.clkGain_of_curve hki]
    dsimp only
    rw [← hc0, ← hr, ← hout, ← hv]
    cases (v.offer 43 0 out).2 <;> rfl
  · obtain ⟨hf1, hf2, hf3⟩ := hf
    rw [paceCommitOp_of ⟨hf1, hf2⟩ hp, hok]
    dsimp only
    rw [hf3, if_neg Bool.false_ne_true]
    exact ⟨rfl, s.paceApply_live, s.paceApply_result, State.paceApply_only (π := State.mode) (unseen_mode (by decide)) s⟩
  · rw [paceCommitOp_of (State.commits_of_fleet hf) hp, hok]
    dsimp only
    rw [if_pos hf]
  · rw [paceCommitOp_of hf hp, hbad]
    exact ⟨rfl, s.paceRefuse_shadow _ e, s.paceRefuse_result _ e⟩
  · have hg : ¬ (s.follows = true ∨ s.mode = .update) := by
      rw [hf.1]
      exact fun h => h.elim Bool.false_ne_true hf.2
    rw [paceCommitOp]
    dsimp only
    rw [if_neg hg, hp, if_pos rfl]

end Sys2Proof.Machine
end

section
/-! Operations on key slots (O53). -/

namespace Sys2Proof.Machine

/-! ## Requests and the status of a slot -/

theorem State.onRequest_waiting {s : State} (h : (s.chute 50).pkts.isEmpty = false) (body : State → State) : s.onRequest body = body s := by
  rw [State.onRequest, h, if_neg Bool.false_ne_true]

theorem State.onRequest_none {s : State} (h : (s.chute 50).pkts.isEmpty = true) (body : State → State) : s.onRequest body = s := by
  rw [State.onRequest, if_pos h]

/-- The status of a slot, first to last: the Vault shut, no key, a chain that is broken, a kind that is not served. -/
theorem State.slotStatus_eq (s : State) (n : Nat) (kinds : Nat → Bool) :
    s.slotStatus n kinds = match s.vaultShut with
      | some q => q
      | none => if (s.slot n).kind = 0 then 0x80 else if s.slotValid 8 n = false then St.keyRevoked
          else if kinds (s.slot n).kind = false then 0x82 else St.done := by
  rw [State.slotStatus]
  cases s.vaultShut with
  | some q => rfl
  | none => simp [firstFail]

/-- A slot that holds a valid key of a kind that is served. -/
theorem State.slotStatus_done {s : State} {n : Nat} {kinds : Nat → Bool} (hs : s.vaultShut = none) (h0 : (s.slot n).kind ≠ 0)
    (hv : s.slotValid 8 n = true) (hk : kinds (s.slot n).kind = true) : s.slotStatus n kinds = St.done := by
  rw [State.slotStatus_eq, hs]
  simp [h0, hv, hk]

/-! ## Uses of a slot -/

@[simp] theorem State.setSlot_slot (s : State) (n : Nat) (k : Slot) : (s.setSlot n k).slot n = k := AMap.get_set_same ..

theorem State.useSlot_unlimited {s : State} {n : Nat} (h : (s.slot n).limited = false) : s.useSlot n = (St.done, s) := by
  simp [State.useSlot, h]

theorem State.useSlot_spent {s : State} {n : Nat} (h : (s.slot n).limited = true) (hu : (s.slot n).uses = 0) : s.useSlot n = (0x81, s) := by
  simp [State.useSlot, h, hu]

theorem State.useSlot_limited {s : State} {n : Nat} (h : (s.slot n).limited = true) (hu : (s.slot n).uses ≠ 0) :
    s.useSlot n = (St.done, if (s.slot n).uses = 1
      then (s.setSlot n { s.slot n with uses := (s.slot n).uses - 1 }).fault Reg.VLT_FAULT_EXHAUSTED
      else s.setSlot n { s.slot n with uses := (s.slot n).uses - 1 }) := by
  simp [State.useSlot, h, hu]

/-- A use succeeds where the slot is not limited or has a use left. -/
theorem State.useSlot_done {s : State} {n : Nat} (h : (s.slot n).limited = false ∨ (s.slot n).uses ≠ 0) : (s.useSlot n).1 = St.done := by
  cases hl : (s.slot n).limited with
  | false => rw [State.useSlot_unlimited hl]
  | true => rw [State.useSlot_limited hl (h.resolve_left (by rw [hl]; decide))]

/-! ## Answers -/

theorem State.vaultAnswer_port_done (s : State) :
    s.vaultAnswer St.done false = ({ s with vlt := { s.vlt with status := St.done } } : State).wrapBy Reg.VLT_OPS 1 := rfl

/-- The operation of a port or of the firmware on a valid slot of its kind is a use of the slot and the answer. -/
theorem vaultOperationOp_valid {s : State} {n k : Nat} (fw : Bool) (hs : s.vaultShut = none) (h0 : k ≠ 0) (hk : (s.slot n).kind = k)
    (hv : s.slotValid 8 n = true) : vaultOperationOp n k fw s = (s.useSlot n).2.vaultAnswer (s.useSlot n).1 fw := by
  have hd : s.slotStatus n (· == k) = St.done := State.slotStatus_done hs (by rw [hk]; exact h0) hv (by simp [hk])
  rw [vaultOperationOp]
  dsimp only
  rw [hd, if_neg (fun h => h rfl)]

theorem vaultOperationOp_refused {s : State} {n k v : Nat} (fw : Bool) (hv : s.slotStatus n (· == k) = v) (hd : v ≠ St.done) :
    vaultOperationOp n k fw s = s.vaultAnswer v fw := by
  rw [vaultOperationOp]
  dsimp only
  rw [hv, if_pos hd]

/-! ## Blobs and derived keys -/

/-- What is wrong with the form of a blob for slot n. -/
abbrev blobMalformed (n : Nat) (p : List Byte) : Prop :=
  p.length ≠ 128 ∨ n < 16 ∨ byteAt p 0 ≠ 1 ∨ byteAt p 1 = 0 ∨ 5 < byteAt p 1 ∨ bits (byteAt p 2) 1 7 ≠ 0 ∨ byteAt p 3 ≠ 0 ∨
    bits (byteAt p 8) 6 2 ≠ 0 ∨ allZero (bytesAt p 9 3) = false ∨ allZero (bytesAt p 20 12) = false ∨ allZero (bytesAt p 44 4) = false ∨
    allZero (bytesAt p 112 16) = false

/-- The key a blob opens to. -/
def State.blobPlain (s : State) (p : List Byte) : Option (List Nat) :=
  gcmOpen (s.wrapKey (bits (byteAt p 2) 0 1 == 1)) (bytesAt p 32 12) (bytesAt p 0 48 ++ bytesAt p 112 16) (bytesAt p 48 48) (bytesAt p 96 16)

/-- The status of a blob: the Vault shut, its form, its lifecycle generation, its parent's chain and generation, its tag. -/
def State.blobStatus (s : State) (n : Nat) (p : List Byte) : Nat :=
  match s.vaultShut with
  | some q => q
  | none =>
    if blobMalformed n p then St.badFormat
    else if leAt p 16 4 ≠ s.rd Reg.VLT_LIFECYCLE_LC_GEN then St.authFail
    else if s.slotValid 8 (bits (byteAt p 8) 0 6) = false ∨ (s.slot (bits (byteAt p 8) 0 6)).gen ≠ leAt p 12 4 then St.keyRevoked
    else if (s.blobPlain p).isNone then St.authFail else St.done

theorem blobLoadOp_eq (s : State) (n : Nat) (p : List Byte) : blobLoadOp n p s =
    if s.blobStatus n p ≠ St.done then (if s.blobStatus n p = St.authFail then s.authBad else s).vaultAnswer (s.blobStatus n p) true
    else (s.setSlot n ⟨byteAt p 1, unle ((s.blobPlain p).getD []), (s.slot n).gen, some (bits (byteAt p 8) 0 6), leAt p 12 4,
      bits (byteAt p 2) 0 1 == 1, false, 0⟩).vaultAnswer (s.blobStatus n p) true := by
  have hst : (match s.vaultShut with
      | some v => v
      | none => firstFail
          [(decide (p.length ≠ 128 ∨ n < 16) || byteAt p 0 != 1 || decide (byteAt p 1 = 0 ∨ byteAt p 1 > 5) || bits (byteAt p 2) 1 7 != 0
            || byteAt p 3 != 0 || bits (byteAt p 8) 6 2 != 0 || !allZero (bytesAt p 9 3) || !allZero (bytesAt p 20 12)
            || !allZero (bytesAt p 44 4) || !allZero (bytesAt p 112 16), St.badFormat),
           (leAt p 16 4 != s.rd Reg.VLT_LIFECYCLE_LC_GEN, St.authFail),
           (!s.slotValid 8 (bits (byteAt p 8) 0 6) || (s.slot (bits (byteAt p 8) 0 6)).gen != leAt p 12 4, St.keyRevoked),
           ((s.blobPlain p).isNone, St.authFail)]) = s.blobStatus n p := by
    rw [State.blobStatus]
    cases s.vaultShut with
    | some q => rfl
    | none => simp [firstFail, blobMalformed, or_assoc]
  rw [blobLoadOp]
  exact (congrArg (fun v => if v ≠ St.done then (if v = St.authFail then s.authBad else s).vaultAnswer v true
    else (s.setSlot n ⟨byteAt p 1, unle ((s.blobPlain p).getD []), (s.slot n).gen, some (bits (byteAt p 8) 0 6), leAt p 12 4,
      bits (byteAt p 2) 0 1 == 1, false, 0⟩).vaultAnswer v true) hst :)

/-- Wrapping: the slot's status for all kinds but ROOT, and a LIMITED slot is refused. -/
theorem blobWrapOp_refused {s : State} {n l v : Nat} (hv : v = (if s.slotStatus n (· != 6) = St.done ∧ (s.slot n).limited then St.badFormat
    else s.slotStatus n (· != 6))) (hd : v ≠ St.done) : blobWrapOp n l s = s.vaultAnswer v true := by
  rw [blobWrapOp]
  dsimp only
  rw [← hv, if_pos hd]

/-- The status of a derivation before its use of the source. -/
def State.deriveStatus (s : State) (src dst kind : Nat) : Nat :=
  if dst < 16 ∨ kind = 0 ∨ kind = 5 then St.badFormat else s.slotStatus src (· == 6)

theorem keyDeriveOp_eq (s : State) (src dst kind : Nat) (salt info : List Byte) (bd : Bool) (u : Option Nat) :
    keyDeriveOp src dst kind salt info bd u s =
      if s.deriveStatus src dst kind ≠ St.done then s.vaultAnswer (s.deriveStatus src dst kind) true
      else if (s.useSlot src).1 ≠ St.done then s.vaultAnswer (s.useSlot src).1 true
      else ((s.useSlot src).2.setSlot dst ⟨kind, Config.hkdf (s.slot src).key (salt.map BitVec.toNat) (info.map BitVec.toNat), (s.slot dst).gen,
        some src, (s.slot src).gen, bd, u.isSome, u.getD 0⟩).vaultAnswer (s.deriveStatus src dst kind) true := by
  have hst : firstFail [(decide (dst < 16 ∨ kind = 0 ∨ kind = 5), St.badFormat), (true, s.slotStatus src (· == 6))] = s.deriveStatus src dst kind := by
    simp [firstFail, State.deriveStatus]
  rw [keyDeriveOp, hst]

/-- The answer to a derivation whose source cannot be used, with the Vault open. -/
theorem State.useAnswer_refused {s : State} {n : Nat} {t : State}
    (hd : (if (s.slot n).kind = 0 then 0x80 else if s.slotValid 8 n = false then St.keyRevoked else if (s.slot n).kind ≠ 6 then 0x82
      else if (s.slot n).limited = true ∧ (s.slot n).uses = 0 then 0x81 else St.done) ≠ St.done) :
    ∀ q, q = (if (s.slot n).kind = 0 then 0x80 else if s.slotValid 8 n = false then St.keyRevoked
      else if ((s.slot n).kind == 6) = false then 0x82 else St.done) →
    (if q ≠ St.done then s.vaultAnswer q true else if (s.useSlot n).1 ≠ St.done then s.vaultAnswer (s.useSlot n).1 true else t) =
      s.vaultAnswer (if (s.slot n).kind = 0 then 0x80 else if s.slotValid 8 n = false then St.keyRevoked else if (s.slot n).kind ≠ 6 then 0x82
        else if (s.slot n).limited = true ∧ (s.slot n).uses = 0 then 0x81 else St.done) true := by
  rintro q rfl
  by_cases h0 : (s.slot n).kind = 0
  · rw [if_pos h0, if_pos h0, if_pos (by decide)]
  by_cases hv : s.slotValid 8 n = false
  · rw [if_neg h0, if_neg h0, if_pos hv, if_pos hv, if_pos (by decide)]
  by_cases h6 : (s.slot n).kind = 6
  · by_cases hu : (s.slot n).limited = true ∧ (s.slot n).uses = 0
    · have hspent := State.useSlot_spent hu.1 hu.2
      simp [hv, h6, hu, hspent, St.done]
    · rw [if_neg h0, if_neg hv, if_neg (by simp [h6]), if_neg hu] at hd
      exact absurd rfl hd
  · simp [h0, hv, h6, St.done]

/-- Settles O53: the status of the slot decides, and a use of it follows only where that is DONE. -/
theorem vaultOperations : Obligations.VaultOperations := by
  refine ⟨fun s n k hup hok hl => ?_, fun s n k hup hok hreq => ?_, fun s n k hup hreq => ?_, fun s n k v hup hv => ?_,
    fun s n k hup hok hl => ?_, fun s n k hup hok hl => ?_, fun s n p hup hok hform hzero hpar => ?_, fun s n p v hup hreq hv => ?_,
    fun s n p hup hreq => ?_, fun s n l hup hok hl => ?_, fun s n l v hup hreq hv => ?_, fun s n l hup hreq => ?_,
    fun s a b k salt info bd u hup hdst hok => ?_, fun s a b k salt info bd u v hup hreq hv => ?_, fun s a b k salt info bd u hup hreq => ?_⟩
    <;> refine Gives.of_main hup rfl ?_
  · obtain ⟨hs, h0, hk, hv⟩ := hok
    have hop : vaultOperationOp n.val k.val false s = s.vaultAnswer St.done false := by
      rw [vaultOperationOp_valid false hs h0 hk hv, State.useSlot_unlimited hl]
    rw [if_neg Bool.false_ne_true, hop, State.vaultAnswer_port_done]
    exact ⟨rfl, State.rd_wr_same ..⟩
  · obtain ⟨hs, h0, hk, hv⟩ := hok
    rw [if_pos rfl, State.onRequest_waiting hreq, vaultOperationOp_valid true hs h0 hk hv]
  · rw [if_pos rfl, State.onRequest_none hreq]
  · obtain ⟨hv, hd⟩ := hv
    have hst : s.slotStatus n.val (· == k.val) = v := by
      rw [hv, State.slotStatus_eq]
      cases s.vaultShut with
      | some q => rfl
      | none => simp
    rw [if_neg Bool.false_ne_true, vaultOperationOp_refused false hst hd]
  · obtain ⟨hs, h0, hk, hv⟩ := hok
    rw [if_neg Bool.false_ne_true, vaultOperationOp_valid false hs h0 hk hv, State.useSlot_spent hl.1 hl.2]
    rfl
  · obtain ⟨hs, h0, hk, hv⟩ := hok
    rw [if_neg Bool.false_ne_true, vaultOperationOp_valid false hs h0 hk hv, State.useSlot_limited hl.1 hl.2, State.vaultAnswer_port_done]
    have hslot : ∀ t : State, t.vlt = (s.setSlot n.val { s.slot n.val with uses := (s.slot n.val).uses - 1 }).vlt →
        ((({ t with vlt := { t.vlt with status := St.done } } : State).wrapBy Reg.VLT_OPS 1).slot n.val).uses = (s.slot n.val).uses - 1 ∧
          (({ t with vlt := { t.vlt with status := St.done } } : State).wrapBy Reg.VLT_OPS 1).vlt.status = St.done := by
      intro t ht
      refine ⟨?_, rfl⟩
      rw [State.slot, State.wrapBy_vlt]
      show (AMap.get t.vlt.slots n.val Slot.empty).uses = _
      rw [ht]
      exact congrArg Slot.uses (State.setSlot_slot s n.val _)
    dsimp only
    split
    · exact hslot _ (State.fault_vlt _ _)
    · exact hslot _ rfl
  · obtain ⟨hs, hlen, hn, hreq⟩ := hok
    obtain ⟨h0, h1, h1', h2, h3, h8⟩ := hform
    obtain ⟨hz1, hz2, hz3, hz4⟩ := hzero
    obtain ⟨hgen, hval, hpg⟩ := hpar
    have hform : ¬ blobMalformed n.val p := by
      unfold blobMalformed
      rw [hlen, h0, h2, h3, h8, hz1, hz2, hz3, hz4]
      simp
      omega
    have hst : s.blobStatus n.val p = if (s.blobPlain p).isNone then St.authFail else St.done := by
      rw [State.blobStatus, hs]
      dsimp only
      rw [if_neg hform, if_neg (fun h => h hgen), if_neg (by rw [hval, hpg]; simp)]
    rw [State.onRequest_waiting hreq, blobLoadOp_eq, hst]
    show _ = (match s.blobPlain p with | some m => _ | none => _)
    cases s.blobPlain p <;> rfl
  · obtain ⟨hv, hd⟩ := hv
    have hst : s.blobStatus n.val p = v := by
      rw [State.blobStatus, hv]
      rw [hv] at hd
      cases hs : s.vaultShut with
      | some q => rfl
      | none =>
        rw [hs] at hd
        dsimp only at hd ⊢
        split_ifs at hd ⊢
        · rfl
        · rfl
        · rfl
        all_goals exact absurd rfl hd
    rw [State.onRequest_waiting hreq, blobLoadOp_eq, hst, if_pos hd]
  · exact State.onRequest_none hreq _
  · obtain ⟨hs, h0, h6, hv⟩ := hok
    obtain ⟨hl, hreq⟩ := hl
    have hd : s.slotStatus n.val (· != 6) = St.done := State.slotStatus_done hs h0 hv (by simp [h6])
    rw [State.onRequest_waiting hreq, blobWrapOp]
    dsimp only
    rw [hd, hl]
    rfl
  · obtain ⟨hv, hd⟩ := hv
    rw [State.onRequest_waiting hreq]
    refine blobWrapOp_refused (hv.trans ?_) hd
    rw [hv] at hd
    rw [State.slotStatus_eq]
    cases hs : s.vaultShut with
    | some q =>
      rw [hs] at hd
      exact (if_neg fun h => hd h.1).symm
    | none =>
      dsimp only
      split_ifs <;> simp_all
  · exact State.onRequest_none hreq _
  · obtain ⟨hb, hk0, hk5, hreq⟩ := hdst
    obtain ⟨hs, h6, hv, hl⟩ := hok
    have hd : s.deriveStatus a.val b.val k.val = St.done := by
      rw [State.deriveStatus, if_neg (by omega), State.slotStatus_done hs (by rw [h6]; decide) hv (by simp [h6])]
    rw [State.onRequest_waiting hreq, keyDeriveOp_eq, hd, State.useSlot_done hl, if_neg (fun h => h rfl), if_neg (fun h => h rfl)]
    simp
  · obtain ⟨hv, hd⟩ := hv
    rw [State.onRequest_waiting hreq, keyDeriveOp_eq]
    rw [hv] at hd ⊢
    by_cases hb : b.val < 16 ∨ k.val = 0 ∨ k.val = 5
    · rw [State.deriveStatus, if_pos hb, if_pos hb, if_pos (by decide)]
    · rw [if_neg hb] at hd
      rw [State.deriveStatus, if_neg hb, if_neg hb, State.slotStatus_eq]
      cases hs : s.vaultShut with
      | some q =>
        rw [hs] at hd
        exact if_pos hd
      | none =>
        rw [hs] at hd
        exact State.useAnswer_refused hd _ rfl
  · exact State.onRequest_none hreq _

end Sys2Proof.Machine
end

section
/-! Update headers, chunks and federation connections (O48). -/

namespace Sys2Proof.Machine

/-! ## What comes from the host or a peer -/

theorem State.updFrom_host {s : State} {c : Cmd} (h : s.Accepts c .dataIn) (size : Nat) (words : List DWord) (body : State → State) :
    s.updFrom (.host c) size words body = body ((s.begun c).consume 52 words) := by
  rw [State.updFrom, State.hostCmd_accepts h]

theorem State.updFrom_lan {s : State} {b : Bool} {size : Nat} (hen : s.on Reg.UPD_NET_FED_EN = true) (hc : s.upd.conns.contains b = true)
    (hsize : 17 ≤ size ∧ size ≤ 4160) (words : List DWord) (body : State → State) :
    s.updFrom (.lan b) size words body = body (s.consume 52 words) := by
  rw [State.updFrom]
  dsimp only
  rw [hen, hc, if_neg (by decide), if_neg (by omega)]

theorem State.updFrom_closed {s : State} {b : Bool} (h : s.on Reg.UPD_NET_FED_EN = false ∨ s.upd.conns.contains b = false) (size : Nat)
    (words : List DWord) (body : State → State) : s.updFrom (.lan b) size words body = s := by
  rw [State.updFrom]
  dsimp only
  exact if_pos (by rcases h with h | h <;> rw [h] <;> simp)

theorem State.updFrom_misfit {s : State} {b : Bool} {size : Nat} (hen : s.on Reg.UPD_NET_FED_EN = true) (hc : s.upd.conns.contains b = true)
    (hsize : size < 17 ∨ 4160 < size) (words : List DWord) (body : State → State) :
    s.updFrom (.lan b) size words body = { s with upd := { s.upd with conns := s.upd.conns.erase b } } := by
  rw [State.updFrom]
  dsimp only
  rw [hen, hc, if_neg (by decide), if_pos hsize]

theorem State.consume_nvm (s : State) (n : Nat) (w : List DWord) : (s.consume n w).nvm = s.nvm :=
  State.consume_only (π := State.nvm) (unseen_nvm (by decide)) s n w

theorem State.consume_upd (s : State) (n : Nat) (w : List DWord) : (s.consume n w).upd = s.upd :=
  State.consume_only (π := State.upd) (unseen_upd (by decide)) s n w

/-! ## Headers -/

/-- What a header that has passed its chute does. -/
def State.answerHeader (u : State) (src : UpdFrom) (d : List Byte) (rsv : Bool) : State :=
  let v := u.headerVerdict d (lenOf src d) rsv
  let r := if v = St.done then u.decideHeader (parseHeader d) d (srcCode src) else (v, u)
  let w := if r.1 = St.done then r.2 else r.2.bump Reg.UPD_HDR_REFUSED Reg.UPD_FAULT_CNT_SAT
  let num := if r.1 = St.done then w.nvm.session.num else 0
  (w.updAnswer src r.1 num 0 (if v = St.badLength then 0 else lenOf src d) num).showUpd

theorem updateHeaderOp_eq (src : UpdFrom) (d : List Byte) (rsv : Bool) (s : State) : updateHeaderOp src d rsv s =
    s.updFrom src (16 + d.length) (toWords ([0x62, srcCode src] ++ List.replicate 14 0 ++ d.map BitVec.toNat)) fun t => t.answerHeader src d rsv := rfl

/-- A header whose verdict or whose slot refuses it is counted and answered with that. -/
theorem State.answerHeader_refused {u : State} {src : UpdFrom} {d : List Byte} {rsv : Bool} {q : Nat}
    (hq : (if u.headerVerdict d (lenOf src d) rsv = St.done then u.decideHeader (parseHeader d) d (srcCode src)
      else (u.headerVerdict d (lenOf src d) rsv, u)) = (q, u)) (hd : q ≠ St.done) :
    u.answerHeader src d rsv = ((u.bump Reg.UPD_HDR_REFUSED Reg.UPD_FAULT_CNT_SAT).updAnswer src q 0 0
      (if u.headerVerdict d (lenOf src d) rsv = St.badLength then 0 else lenOf src d) 0).showUpd := by
  rw [State.answerHeader, hq]
  dsimp only
  rw [if_neg hd, if_neg hd]

/-- A header that passes and whose slot takes it, by what the slot makes of it. -/
theorem State.answerHeader_of {u x : State} {src : UpdFrom} {d : List Byte} {rsv : Bool}
    (hx : u.decideHeader (parseHeader d) d (srcCode src) = (St.done, x)) :
    u.answerHeader src d rsv =
      if u.headerVerdict d (lenOf src d) rsv = St.done then (x.updAnswer src St.done x.nvm.session.num 0 (lenOf src d) x.nvm.session.num).showUpd
      else ((u.bump Reg.UPD_HDR_REFUSED Reg.UPD_FAULT_CNT_SAT).updAnswer src (u.headerVerdict d (lenOf src d) rsv) 0 0
        (if u.headerVerdict d (lenOf src d) rsv = St.badLength then 0 else lenOf src d) 0).showUpd := by
  by_cases hv : u.headerVerdict d (lenOf src d) rsv = St.done
  · rw [if_pos hv, State.answerHeader, if_pos hv, hx]
    dsimp only
    rw [if_pos rfl, if_pos rfl, hv, if_neg (by decide)]
  · rw [if_neg hv]
    exact State.answerHeader_refused (if_neg hv) hv

theorem State.headerVerdict_badLength {s : State} {d : List Byte} {len : Nat} (h : len ≠ 512) (rsv : Bool) :
    s.headerVerdict d len rsv = St.badLength := by
  simp [State.headerVerdict, firstFail, h]

/-- An empty or failed slot takes a header as a new session. -/
theorem State.decideHeader_free {u : State} (h : u.nvm.boot.loft = .empty ∨ u.nvm.boot.loft = .failed) (x : ImgHdr) (d : List Byte) (source : Nat) :
    u.decideHeader x d source = (St.done, u.openSession x d source) := by
  rw [State.decideHeader]
  rcases h with h | h <;> rw [h]

/-- The image that LOFT is receiving goes on from its session's source, or from another once the session fell idle. -/
theorem State.decideHeader_again {u : State} {x : ImgHdr} {source : Nat} (h : u.nvm.boot.loft = .receiving)
    (hsame : u.nvm.boot.hdr.map (·.digest) = some x.digest) (hsrc : source = u.nvm.session.source ∨ u.upd.idle = true) (d : List Byte) :
    u.decideHeader x d source = (St.done, u.setSession { u.nvm.session with source := source }) := by
  rw [State.decideHeader]
  dsimp only
  rw [h]
  dsimp only
  rw [if_pos hsame, if_pos rfl, if_pos hsrc]

theorem State.decideHeader_trial {u : State} (h : u.nvm.boot.loft = .trial) (x : ImgHdr) (d : List Byte) (source : Nat) :
    u.decideHeader x d source = (St.busy, u) := by
  rw [State.decideHeader, h]

theorem State.openSession_boot (u : State) (x : ImgHdr) (d : List Byte) (source : Nat) :
    (u.openSession x d source).nvm.boot.loft = .receiving ∧ (u.openSession x d source).nvm.boot.hdr = some x
      ∧ (u.openSession x d source).nvm.session.isOpen = true ∧ (u.openSession x d source).nvm.session.source = source
      ∧ (u.openSession x d source).nvm.session.chunks = [] :=
  ⟨rfl, rfl, rfl, rfl, rfl⟩

/-! ## Chunks -/

/-- The verdict on a chunk: the mode, its length, its form, its session. -/
def State.chunkVerdict (t : State) (src : UpdFrom) (session index : Nat) (data : List Byte) (rsv : Bool) : Nat :=
  let h := t.nvm.boot.hdr.getD ⟨0, 0, 0, 0, 0, 0, 0, [], []⟩
  firstFail
    [(!t.updMode, St.refusedMode), (decide (lenOf src data = 0 ∨ (index < h.nTotal ∧ lenOf src data ≠ h.chunkLen index)), St.badLength),
     (rsv || !decide (index < h.nTotal), St.badFormat), (!t.nvm.session.isOpen || session != t.nvm.session.num, St.stale)]

/-- What a chunk that has passed its chute does, for the session and index it names. -/
def State.answerChunk (t : State) (src : UpdFrom) (session index : Nat) (data : List Byte) (rsv : Bool) : State :=
  let v := t.chunkVerdict src session index data rsv
  if v ≠ St.done then t.updAnswer src v session index (if v = St.badLength then 0 else lenOf src data) (t.chunkCount 2)
  else if t.chunkSt index ≠ 0 then
    (t.bump Reg.UPD_CHUNK_DUP Reg.UPD_FAULT_CNT_SAT).updAnswer src St.done session index (lenOf src data)
      ((t.bump Reg.UPD_CHUNK_DUP Reg.UPD_FAULT_CNT_SAT).chunkCount 2)
  else { t with upd := { t.upd with queue := t.upd.queue ++ [⟨src, session, index, data⟩], idle := false } }

theorem updateChunkOp_host (c : Cmd) (k i : Nat) (data : List Byte) (rsv : Bool) (s : State) : updateChunkOp (.host c) k i data rsv s =
    s.updFrom (.host c) (64 + data.length) (toWords ([0x60, 0, 0, 0] ++ le 4 c.desc.p0.toNat ++ le 4 c.desc.p1.toNat ++ le 2 data.length
      ++ List.replicate 50 0 ++ data.map BitVec.toNat)) fun t => t.answerChunk (.host c) c.desc.p0.toNat c.desc.p1.toNat data rsv := rfl

theorem updateChunkOp_lan (b : Bool) (k i : Nat) (data : List Byte) (rsv : Bool) (s : State) : updateChunkOp (.lan b) k i data rsv s =
    s.updFrom (.lan b) (64 + data.length) (toWords ([0x60, 1 + bit b, 0, 0] ++ le 4 k ++ le 4 i ++ le 2 data.length
      ++ List.replicate 50 0 ++ data.map BitVec.toNat)) fun t => t.answerChunk (.lan b) k i data rsv := rfl

section
variable {t : State} {src : UpdFrom} {session index : Nat} {data : List Byte} {h : ImgHdr}

/-- A chunk of the image's form: its verdict is whether its session is the open one. -/
theorem State.answerChunk_formed (hm : t.updMode = true) (hh : t.nvm.boot.hdr = some h) (hi : index < h.nTotal)
    (hl : lenOf src data = h.chunkLen index) (h0 : lenOf src data ≠ 0) : t.answerChunk src session index data false =
    if t.nvm.session.isOpen = false ∨ session ≠ t.nvm.session.num then
      t.updAnswer src St.stale session index (lenOf src data) (t.chunkCount 2)
    else if t.chunkSt index ≠ 0 then
      (t.bump Reg.UPD_CHUNK_DUP Reg.UPD_FAULT_CNT_SAT).updAnswer src St.done session index (lenOf src data)
        ((t.bump Reg.UPD_CHUNK_DUP Reg.UPD_FAULT_CNT_SAT).chunkCount 2)
    else { t with upd := { t.upd with queue := t.upd.queue ++ [⟨src, session, index, data⟩], idle := false } } := by
  have hv : t.chunkVerdict src session index data false =
      if t.nvm.session.isOpen = false ∨ session ≠ t.nvm.session.num then St.stale else St.done := by
    rw [State.chunkVerdict, hh]
    rw [hl] at h0 ⊢
    simp [firstFail, hm, hi, h0]
  rw [State.answerChunk, hv]
  by_cases hs : t.nvm.session.isOpen = false ∨ session ≠ t.nvm.session.num
  · rw [if_pos hs, if_pos hs, if_pos (by decide), if_neg (by decide)]
  · rw [if_neg hs, if_neg hs, if_neg (fun e => e rfl)]

theorem State.answerChunk_refused (hm : t.updMode = false) (rsv : Bool) : t.answerChunk src session index data rsv =
    t.updAnswer src St.refusedMode session index (lenOf src data) (t.chunkCount 2) := by
  have hv : t.chunkVerdict src session index data rsv = St.refusedMode := by
    simp [State.chunkVerdict, firstFail, hm]
  rw [State.answerChunk, hv]
  rfl

end

/-- Whether updates are taken, by the mode. -/
theorem State.updMode_congr {s u : State} (h : u.mode = s.mode) : u.updMode = s.updMode := by
  rw [State.updMode, State.updMode, State.follows, State.follows, h]

theorem State.chunkSt_congr {s u : State} (h : u.nvm = s.nvm) (i : Nat) : u.chunkSt i = s.chunkSt i := by
  rw [State.chunkSt, State.chunkSt, h]

/-- What a command's start and its passage through chute 52 leave. -/
theorem State.passed {s u : State} {c : Cmd} {w : List DWord} (hu : u = (s.begun c).consume 52 w) :
    u.mode = s.mode ∧ u.nvm = s.nvm ∧ u.upd = s.upd := by
  rw [hu]
  exact ⟨(State.consume_only (π := State.mode) (unseen_mode (by decide)) ..).trans (State.begun_mode ..), (State.consume_nvm ..).trans (State.begun_nvm ..),
    (State.consume_upd ..).trans (State.begun_upd ..)⟩

/-- What the programming of a chunk comes to, with the state it leaves. -/
def State.programmed (t : State) (h : ImgHdr) (j : ChunkJob) (ok : Bool) : Nat × State :=
  if !t.nvm.session.isOpen || j.session != t.nvm.session.num then (St.stale, t)
  else if t.chunkSt j.index ≠ 0 then (St.done, t.bump Reg.UPD_CHUNK_DUP Reg.UPD_FAULT_CNT_SAT)
  else if !ok then (St.integrity, t)
  else ((({ t with mem := Memory.writeAll (t.chunkAddr j.index) j.data t.mem } : State).setChunk j.index 1).verifyAfter h j.index)

theorem chunkProgrammedOp_of {s u : State} {j : ChunkJob} {rest : List ChunkJob} {h : ImgHdr} {ok : Bool} {r : Nat × State}
    (hq : s.upd.queue = j :: rest ∧ s.nvm.boot.hdr = some h) (hu : u = { s with upd := { s.upd with queue := rest } })
    (hr : u.programmed h j ok = r) :
    chunkProgrammedOp ok s = (r.2.updAnswer j.from_ r.1 j.session j.index j.data.length (r.2.chunkCount 2)).showUpd := by
  rw [chunkProgrammedOp, hq.1, hq.2, ← hr, hu]
  rfl

theorem State.programmed_over {t : State} {j : ChunkJob} (ho : t.nvm.session.isOpen = false ∨ j.session ≠ t.nvm.session.num) (h : ImgHdr)
    (ok : Bool) : t.programmed h j ok = (St.stale, t) :=
  if_pos (by rcases ho with ho | ho <;> simp [ho])

/-- A chunk of the open session that is not present: by its reading back. -/
theorem State.programmed_open {t : State} {j : ChunkJob} (ho : t.nvm.session.isOpen = true ∧ t.nvm.session.num = j.session ∧ t.chunkSt j.index = 0)
    (h : ImgHdr) (ok : Bool) : t.programmed h j ok = if !ok then (St.integrity, t)
      else ((({ t with mem := Memory.writeAll (t.chunkAddr j.index) j.data t.mem } : State).setChunk j.index 1).verifyAfter h j.index) := by
  obtain ⟨ho, hn, hst⟩ := ho
  rw [State.programmed, if_neg (by simp [ho, hn]), if_neg (by rw [hst]; simp)]

theorem State.showUpd_nvm (s : State) : s.showUpd.nvm = s.nvm := State.wrEach_nvm ..

theorem State.showUpd_mem (s : State) : s.showUpd.mem = s.mem := State.wrEach_mem ..

/-- Settles O48: a header or chunk that passes its chute is answered by its verdict. -/
theorem updateSessions : Obligations.UpdateSessions := by
  refine ⟨fun s u x c d r q hup hacc hu hfree hx => ?_, fun s u x c d r q hup hacc hu hagain hx => ?_,
    fun s u c d r q hup hacc hu htrial => ?_, fun s u c d r hup hacc hu hlen => ?_,
    fun s u x b d r q hup hconn hu hfree hx => ?_, fun s b d r hup hclosed => ?_, fun s b d r hup hconn => ?_,
    fun s u c k i d h hup hacc hform hopen hu => ?_, fun s u c k i d h hup hacc hform hopen hu => ?_,
    fun s u c k i d h hup hacc hform hopen hu => ?_, fun s u c k i d hup hacc hmode hu => ?_,
    fun s u b k i d h hup hconn hform hopen hu => ?_, fun s u j rest h hup hq hopen hu => ?_,
    fun s u j rest h r hup hq hopen hu hr => ?_, fun s u j rest h ok hup hq hopen hu => ?_,
    fun s b hup hc => ?_, fun s b hup hc => ?_, fun s b hup => ?_, fun s hup hopen => ?_⟩ <;> refine Gives.of_main hup rfl ?_
  · have hnvm : u.nvm = s.nvm := by rw [hu, State.consume_nvm, State.begun_nvm]
    obtain ⟨rfl, rfl⟩ := hx
    have hop : updateHeaderOp (.host c) d r s = u.answerHeader (.host c) d r := by
      rw [updateHeaderOp_eq, State.updFrom_host hacc, hu]
      rfl
    rw [hop, State.answerHeader_of (State.decideHeader_free (by rw [hnvm]; exact hfree) _ _ _)]
    exact ⟨rfl, State.openSession_boot ..⟩
  · have hnvm : u.nvm = s.nvm := by rw [hu, State.consume_nvm, State.begun_nvm]
    have hupd : u.upd = s.upd := by rw [hu, State.consume_upd, State.begun_upd]
    obtain ⟨rfl, rfl⟩ := hx
    obtain ⟨hloft, hsame, hsrc⟩ := hagain
    have hop : updateHeaderOp (.host c) d r s = u.answerHeader (.host c) d r := by
      rw [updateHeaderOp_eq, State.updFrom_host hacc, hu]
      rfl
    rw [hop, State.answerHeader_of (State.decideHeader_again (by rw [hnvm]; exact hloft) (by rw [hnvm]; exact hsame)
      (by rw [hnvm, hupd]; exact hsrc.imp Eq.symm id) _)]
    rfl
  · have hnvm : u.nvm = s.nvm := by rw [hu, State.consume_nvm, State.begun_nvm]
    obtain ⟨htrial, rfl⟩ := htrial
    have hop : updateHeaderOp (.host c) d r s = u.answerHeader (.host c) d r := by
      rw [updateHeaderOp_eq, State.updFrom_host hacc, hu]
      rfl
    have hno : (if u.headerVerdict d (lenOf (.host c) d) r = St.done then u.decideHeader (parseHeader d) d (srcCode (.host c))
        else (u.headerVerdict d (lenOf (.host c) d) r, u)) =
        (if u.headerVerdict d c.desc.length.toNat r = St.done then St.busy else u.headerVerdict d c.desc.length.toNat r, u) := by
      rw [State.decideHeader_trial (by rw [hnvm]; exact htrial)]
      show (if u.headerVerdict d c.desc.length.toNat r = St.done then _ else _) = _
      split <;> rfl
    rw [hop, State.answerHeader_refused hno (by split <;> [decide; assumption])]
    rfl
  · have hop : updateHeaderOp (.host c) d r s = u.answerHeader (.host c) d r := by
      rw [updateHeaderOp_eq, State.updFrom_host hacc, hu]
      rfl
    have hv : u.headerVerdict d (lenOf (.host c) d) r = St.badLength := State.headerVerdict_badLength hlen r
    rw [hop, State.answerHeader_refused (q := St.badLength) (by rw [hv, if_neg (by decide)]) (by decide), hv]
    rfl
  · obtain ⟨hen, hc, hpos, hlen⟩ := hconn
    have hnvm : u.nvm = s.nvm := by rw [hu, State.consume_nvm]
    obtain ⟨rfl, rfl⟩ := hx
    have hop : updateHeaderOp (.lan b) d r s = u.answerHeader (.lan b) d r := by
      rw [updateHeaderOp_eq, State.updFrom_lan hen hc (by omega), hu]
      rfl
    rw [hop, State.answerHeader_of (State.decideHeader_free (by rw [hnvm]; exact hfree) _ _ _)]
    rfl
  · rw [updateHeaderOp_eq, State.updFrom_closed hclosed]
  · obtain ⟨hen, hc, hlen⟩ := hconn
    rw [updateHeaderOp_eq, State.updFrom_misfit hen hc (by omega)]
  · obtain ⟨hmode, hnvm, hupd⟩ := State.passed hu
    obtain ⟨hm, hh, hi, hl, h0⟩ := hform
    obtain ⟨ho, hn, hst⟩ := hopen
    rw [updateChunkOp_host, State.updFrom_host hacc, ← hu,
      State.answerChunk_formed (h := h) (src := .host c) (data := d) (by rw [State.updMode_congr hmode, hm]) (by rw [hnvm, hh]) hi hl h0,
      if_neg (by rw [hnvm, ho, hn]; simp), if_neg (by rw [State.chunkSt_congr hnvm, hst]; simp), hupd]
    exact ⟨rfl, rfl, hnvm⟩
  · obtain ⟨hm, hh, hi, hl, h0⟩ := hform
    obtain ⟨ho, hn, hst⟩ := hopen
    obtain ⟨hmode, hnvm, hupd⟩ := State.passed (rfl : _ = (s.begun c).consume 52 (toWords ([0x60, 0, 0, 0] ++ le 4 c.desc.p0.toNat ++
      le 4 c.desc.p1.toNat ++ le 2 d.length ++ List.replicate 50 0 ++ d.map BitVec.toNat)))
    rw [updateChunkOp_host, State.updFrom_host hacc,
      State.answerChunk_formed (h := h) (src := .host c) (data := d) (by rw [State.updMode_congr hmode, hm]) (by rw [hnvm, hh]) hi hl h0,
      if_neg (by rw [hnvm, ho, hn]; simp), if_pos (by rw [State.chunkSt_congr hnvm]; exact hst), ← hu]
    rfl
  · obtain ⟨hmode, hnvm, hupd⟩ := State.passed hu
    obtain ⟨hm, hh, hi, hl, h0⟩ := hform
    rw [updateChunkOp_host, State.updFrom_host hacc, ← hu,
      State.answerChunk_formed (h := h) (src := .host c) (data := d) (by rw [State.updMode_congr hmode, hm]) (by rw [hnvm, hh]) hi hl h0,
      if_pos (by rw [hnvm]; exact hopen.imp id Ne.symm)]
    rfl
  · obtain ⟨hm, -, -⟩ := State.passed hu
    rw [updateChunkOp_host, State.updFrom_host hacc, ← hu, State.answerChunk_refused (by rw [State.updMode_congr hm, hmode])]
    rfl
  · obtain ⟨hen, hc, hlen⟩ := hconn
    obtain ⟨hm, hh, hi, hl, h0⟩ := hform
    obtain ⟨ho, hn, hst⟩ := hopen
    have hmode : u.mode = s.mode := by rw [hu, State.consume_only (π := State.mode) (unseen_mode (by decide))]
    have hnvm : u.nvm = s.nvm := by rw [hu, State.consume_nvm]
    have hupd : u.upd = s.upd := by rw [hu, State.consume_upd]
    rw [updateChunkOp_lan, State.updFrom_lan hen hc (by omega), ← hu,
      State.answerChunk_formed (h := h) (src := .lan b) (data := d) (by rw [State.updMode_congr hmode, hm]) (by rw [hnvm, hh]) hi hl h0,
      if_neg (by rw [hnvm, ho, hn]; simp), if_neg (by rw [State.chunkSt_congr hnvm, hst]; simp), hupd]
    exact ⟨rfl, rfl, hnvm⟩
  · rw [chunkProgrammedOp_of hq hu (State.programmed_open (by rw [hu]; exact hopen) h false), if_pos (by decide)]
    refine ⟨rfl, ?_, ?_⟩
    · rw [State.showUpd_nvm, State.updAnswer_only (π := State.nvm) (unseen_nvm (by decide)), hu]
    · rw [State.showUpd_mem, State.updAnswer_only (π := State.mem) (unseen_mem (by decide)), hu]
  · have hfile : u = { ({ s with upd := { s.upd with queue := rest } } : State) with
        mem := Memory.writeAll (s.chunkAddr j.index) j.data s.mem } := hu
    rw [chunkProgrammedOp_of hq rfl (State.programmed_open (t := { s with upd := { s.upd with queue := rest } }) hopen h true), if_neg (by decide), hr, hfile]
    rfl
  · rw [chunkProgrammedOp_of hq hu (State.programmed_over (by rw [hu]; exact hopen) h ok)]
  · rw [fedConnectOp, hc.1, decide_eq_true hc.2]
    rfl
  · rw [fedConnectOp, if_neg]
    rcases hc with h | h
    · simp [h]
    · simp
      omega
  · rfl
  · rw [sessionIdleOp, if_pos hopen]

end Sys2Proof.Machine
end

section
/-! ZYP frames received and robot frames decided (O44). -/

namespace Sys2Proof.Machine

/-! ## Keys, by the Vault's state -/

theorem State.slotValid_congr {s u : State} (h : u.vlt = s.vlt) (k n : Nat) : u.slotValid k n = s.slotValid k n := by
  induction k generalizing n with
  | zero => rfl
  | succ k ih =>
    rw [State.slotValid, State.slotValid]
    simp only [State.slot, h, ih]

theorem State.keyOf_congr {s u : State} (h : u.vlt = s.vlt) (n : Nat) : u.keyOf n = s.keyOf n := by
  rw [State.keyOf, State.keyOf, State.slotValid_congr h, State.slot, State.slot, h]

theorem State.robotKey_congr {s u : State} (h : u.vlt = s.vlt) (fed : Nat) : u.robotKey fed = s.robotKey fed := by
  rw [State.robotKey, State.robotKey, State.keyOf_congr h]

/-! ## Receiving -/

/-- A frame that the header checks pass and its chute takes is judged for its roster entry. -/
theorem zypFrameReceiveOp_judged {s r : State} {p lid : Nat} {e : Endpoint} {f : List Byte} (hp : p ≠ 2) (hopen : s.pwr.lanOpen = true)
    (hlen : 45 ≤ f.length ∧ f.length ≤ 1472) (hbad : s.zypHeaderBad p f = false)
    (hroom : s.on Reg.CLK_ADMIT_STATUS_BOOT_DONE = true ∨ ((List.range 4).map fun j => (s.chute (4 * p + j)).pkts.length).sum < 16)
    (hoffer : s.offerFrom (4 * p) 0 (s.lidOf (leAt f 4 4)) (toWords (f.map BitVec.toNat)) = (r, true))
    (hlid : s.lidOf (leAt f 4 4) = some lid) : zypFrameReceiveOp p e f s = r.judgeFrame p lid e f := by
  have hheld : ¬ (!s.on Reg.CLK_ADMIT_STATUS_BOOT_DONE ∧ ((List.range 4).map fun k => (s.chute (4 * p + k)).pkts.length).sum ≥ 16) := by
    rintro ⟨hno, hge⟩
    rcases hroom with h | h
    · rw [h] at hno
      exact absurd hno (by decide)
    · omega
  rw [zypFrameReceiveOp]
  dsimp only
  rw [if_neg (by rw [hopen]; simp), if_neg (by rw [if_neg hp]; omega), if_neg (by rw [hbad]; decide), if_neg hheld, hoffer]
  dsimp only
  rw [if_neg (by decide), hlid]

/-- What a frame that verifies, is fresh and is in range leaves. -/
theorem State.judgeFrame_fresh {s : State} {p lid k : Nat} {e : Endpoint} {f : List Byte} {w : Window}
    (hlife : s.life = 2) (hkey : s.robotKey (leAt f 4 4) = some k)
    (htag : gcmTag k (zypNonce (byteAt f 1) 0 (leAt f 4 4) (leAt f 12 4) (leAt f 16 4)) ((f.take (f.length - 16)).map BitVec.toNat) =
      (f.drop (f.length - 16)).map BitVec.toNat)
    (hw : judgeWindow (AMap.find (lid * 16 + byteAt f 1) s.zyp.windows) (leAt f 12 4) (leAt f 16 4) = (.fresh, w))
    (hrange : ¬ (leAt f 24 4 ≠ s.rd Reg.LNA_ZYP_BOOT ∨ later (leAt f 20 4) (s.rd Reg.GLB_EPOCH) ∨
      later ((s.rd Reg.GLB_EPOCH + 4294967296 - s.rd Reg.LNA_ZYP_PORT_EPOCH_AGE) % 4294967296) (leAt f 20 4))) :
    (s.judgeFrame p lid e f).zyp = { s.zyp with windows := AMap.set (lid * 16 + byteAt f 1) w s.zyp.windows, reach := AMap.set (lid * 2 + p) e s.zyp.reach }
      ∧ (s.judgeFrame p lid e f).rd (Reg.PORT_ZYP_RX p) = (s.rd (Reg.PORT_ZYP_RX p) + 1) % 4294967296 := by
  have hop : ∃ (t : State) (o : OwnFrame), t.zyp = { s.zyp with windows := AMap.set (lid * 16 + byteAt f 1) w s.zyp.windows, reach := AMap.set (lid * 2 + p) e s.zyp.reach }
      ∧ t.fld = s.fld ∧ s.judgeFrame p lid e f = (t.noteFrame (4 * p) o).wrapBy (Reg.PORT_ZYP_RX p) 1 := by
    rw [State.judgeFrame, hlife, hkey]
    dsimp only
    rw [if_neg (by rw [htag]; simp), hw]
    dsimp only
    refine ⟨_, _, ?_, ?_, if_neg hrange⟩
    · rfl
    · rfl
  obtain ⟨t, o, hz, hf, hop⟩ := hop
  rw [hop]
  constructor
  · rw [State.wrapBy_zyp, State.noteFrame_only (π := State.zyp) (unseen_zyp (by decide)), hz]
  · have hrd : (t.noteFrame (4 * p) o).rd (Reg.PORT_ZYP_RX p) = s.rd (Reg.PORT_ZYP_RX p) := by
      rw [State.noteFrame_only (π := fun s => s.rd (Reg.PORT_ZYP_RX p)) (unseen_rd (by decide) ?_)]
      · rw [State.rd, hf]
        rfl
      · exact Nat.testBit_lt_two_pow (lt_of_lt_of_le (b := 2 ^ 40) (by decide) (Nat.pow_le_pow_right (by decide) (Nat.le_add_right _ _)))
    rw [State.wrapBy, State.rd_wr_same, hrd]
    rfl

/-- A status report of a robot on the roster, by its content. -/
theorem robotStatusOp_of {s : State} {o : OwnFrame} {rest : List OwnFrame} (hq : s.zyp.statusIn = o :: rest)
    (hr : (AMap.find o.lid s.zyp.roster).isSome = true) (hl : ((o.bytes.drop 28).take (o.bytes.length - 44)).length = 32) : robotStatusOp s =
    (fun (t : State) (b : List Byte) =>
      if byteAt b 0 > 5 ∨ byteAt b 1 ≥ 32 ∨ (byteAt b 2 > 100 ∧ byteAt b 2 ≠ 255) ∨ byteAt b 3 ≠ 0 ∨ leAt b 18 4 ≥ 1000000000 ∨ leAt b 28 4 ≠ 0
      then t.refuseReply o.lid 2 o.seq St.badFormat
      else { t with zyp := { t.zyp with status := AMap.set o.lid (b.map BitVec.toNat ++ stamp t.now) t.zyp.status } })
    { s with zyp := { s.zyp with statusIn := rest } } ((o.bytes.drop 28).take (o.bytes.length - 44)) := by
  rw [robotStatusOp, hq]
  dsimp only [State.keepStatus]
  rw [if_neg (by rw [Option.isNone_iff_eq_none]; exact Option.isSome_iff_ne_none.mp hr), if_neg (fun h => h hl)]

/-- The head of an epoch's list, of the kind asked for and before every host input left, is decided. -/
theorem State.takeHead_of {s : State} {a : Nat} {op : RobotOp} {rest : List (Nat × RobotOp)} {isType : OpBody → Bool}
    (hepo : s.epo.opened = true ∧ s.epo.released = true ∧ s.epo.snapped = true ∧ s.epo.decided = false)
    (hops : s.prepare.epo.ops = (a, op) :: rest) (ht : isType op.body = true)
    (hfirst : ∀ x l, s.prepare.epo.taken.drop s.prepare.epo.hostDone = x :: l → laterEq x.adm a = true) :
    s.takeHead isType = ({ s.prepare with epo := { s.prepare.epo with ops := rest } }).decideOp op := by
  obtain ⟨h1, h2, h3, h4⟩ := hepo
  rw [State.takeHead, h1, h2, h3, h4]
  dsimp only
  rw [if_neg (by decide), hops]
  dsimp only
  refine if_pos ?_
  rw [ht, Bool.true_and]
  cases hd : s.prepare.epo.taken.drop s.prepare.epo.hostDone with
  | nil => rfl
  | cons x l => exact hfirst x l hd

/-- Settles O44: a frame that every row passes is recorded, and the head of the epoch's list is decided. -/
theorem zypReceiving : Obligations.ZypReceiving := by
  refine ⟨fun s r p e f lid k w hup hf hroom hoffer hid htag hw hrange => ?_, fun s p e f hup hopen => ?_, fun s p e f hup hopen hbad => ?_,
    fun s u o rest b hup hq hu hr hok => ?_, fun s u o rest b hup hq hu hr hbad => ?_, fun s a op q rest hup hepo hops hfirst => ?_,
    fun s a op q rest hup hepo hops hfirst => ?_, fun s a op q rest hup hepo hops hfirst => ?_⟩ <;> refine Gives.of_main hup rfl ?_
  · obtain ⟨hopen, hlo, hhi, hhead⟩ := hf
    obtain ⟨hlid, hlife, hkey⟩ := hid
    obtain ⟨hecho, hlate, hpast⟩ := hrange
    have hp : p.val ≠ 2 := fun h => by simp [State.zypHeaderBad, h] at hhead
    have hr : r = (s.offerFrom (4 * p.val) 0 (s.lidOf (leAt f 4 4)) (toWords (f.map BitVec.toNat))).1 := by rw [hoffer]
    have hzyp : r.zyp = s.zyp := by rw [hr, State.offerFrom_zyp]
    have hrd : ∀ g : Fld, ((0x80000000420).testBit 2 || (0x80000000420).testBit (40 + g.blk)) = false → r.rd g = s.rd g := by
      intro g hg
      rw [hr]
      exact State.rd_of_only g (State.offerFrom_only · s _ _ _ _) hg
    have hport : ∀ q : Fin 3, ((0x80000000420).testBit 2 || (0x80000000420).testBit (40 + (Reg.PORT_ZYP_RX q.val).blk)) = false := by decide
    have h := State.judgeFrame_fresh (s := r) (p := p.val) (e := e) ((hrd _ (by decide)).trans hlife)
      ((State.robotKey_congr (by rw [hr, State.offerFrom_vlt]) _).trans hkey) htag (by rw [hzyp]; exact hw)
      (by rw [hrd _ (by decide), hrd _ (by decide), hrd _ (by decide), hlate, hpast]; simp [hecho])
    rw [zypFrameReceiveOp_judged hp hopen ⟨hlo, hhi⟩ hhead hroom hoffer hlid, h.1, h.2, hzyp, hrd _ (hport p)]
    exact ⟨rfl, rfl, rfl⟩
  · rw [zypFrameReceiveOp, if_pos]
    rw [hopen.1]
    exact ⟨hopen.2, rfl⟩
  · rw [zypFrameReceiveOp, if_neg (by rcases hopen with h | h <;> simp [h])]
    by_cases hlen : f.length < 45 ∨ f.length > if p.val = 2 then 640 else 1472
    · rw [if_pos hlen]
    · rw [if_neg hlen, if_pos (by tauto)]
  · obtain ⟨hq, rfl⟩ := hq
    rw [robotStatusOp_of hq hr hok.1, hu]
    dsimp only
    rw [if_neg (by omega)]
    rfl
  · obtain ⟨hq, rfl⟩ := hq
    rw [robotStatusOp_of hq hr hbad.1, hu]
    dsimp only
    rw [if_pos hbad.2]
  · exact State.takeHead_of hepo hops.1 (by rw [hops.2]) hfirst
  · exact State.takeHead_of hepo hops.1 (by rw [hops.2]) hfirst
  · exact State.takeHead_of hepo hops.1 (by rw [hops.2]) hfirst

end Sys2Proof.Machine
end

section
/-! Streams, the safety radio, the roster and the commits of ZYP (O45). -/

namespace Sys2Proof.Machine

/-! ## Streams -/

theorem State.nextBoot_lt (s : State) (c : Nat) : s.nextBoot c < 4294967296 := by
  rw [State.nextBoot]
  split <;> exact Nat.mod_lt _ (by decide)

theorem State.startPair_zyp (s : State) :
    s.startPair.zyp = { s.zyp with bootCtr := s.nextBoot s.zyp.bootCtr, pairOn := true, seq := [] } := rfl

theorem State.nextBoot_of_zyp (s : State) (z : Zyp) (c : Nat) : ({ s with zyp := z } : State).nextBoot c = s.nextBoot c := rfl

theorem State.startPair_boot (s : State) : s.startPair.rd Reg.LNA_ZYP_BOOT = s.nextBoot s.zyp.bootCtr % 4294967296 := by
  rw [State.startPair]
  exact State.rd_wr_same ..

/-! ## The radio -/

/-- A read of a chute with no packet begun takes the best packet off it. -/
theorem State.takeAny_pkts {s : State} {n : Nat} {p : Packet} {rest : List Packet} (hr : (s.chute n).reading = none)
    (hb : bestPacket (s.chute n).pkts = some (p, rest)) : ((s.takeAny n).chute n).pkts = rest := by
  have hf : (s.chute n).finishRead = s.chute n := by rw [Chute.finishRead, hr]
  rw [State.takeAny, hf, hb]
  exact congrArg Chute.pkts (AMap.get_set_same ..)

theorem State.wrapBy_rd (s : State) (f : Fld) (k : Nat) : (s.wrapBy f k).rd f = (s.rd f + k) % 2 ^ f.w := State.rd_wr_same ..

/-! ## The roster -/

theorem State.begun_rosterStatus (s : State) (c : Cmd) (es : List RosterLine) : (s.begun c).rosterStatus es = s.rosterStatus es := by
  have hgrant : (s.begun c).hasGrant = s.hasGrant := by
    funext n
    rw [State.hasGrant, State.hasGrant, State.begun_ldr]
  simp only [State.rosterStatus, State.yardId, State.begun_rd, State.begun_zyp, hgrant]

theorem State.begun_follows (s : State) (c : Cmd) : (s.begun c).follows = s.follows := by
  rw [State.follows, State.follows, State.begun_mode]

/-! ## The LANs' addresses -/

theorem netCommitOp_of {s : State} {b : Bool} {addr pre other res : Fld}
    (he : (addr, pre, other, res) = (if b then (Reg.LNB_IPV4, Reg.LNB_IPV4_CFG_PREFIX, Reg.LNA_IPV4, Reg.LNB_NET_COMMIT_RESULT)
      else (Reg.LNA_IPV4, Reg.LNA_IPV4_CFG_PREFIX, Reg.LNB_IPV4, Reg.LNA_NET_COMMIT_RESULT)))
    (hgood : (decide (s.sh pre < 8 ∨ s.sh pre > 30) || addrBad (s.sh addr) (s.sh pre) || (s.sh addr != 0 && s.sh addr == s.rd other)) = false) :
    netCommitOp b s = if s.sh addr = s.rd addr then s.commit res [addr, pre] St.done
      else (s.commit res [addr, pre] St.done).closeClients fun x => x.lanB == b := by
  cases b <;>
  · obtain ⟨rfl, rfl, rfl, rfl⟩ : _ ∧ _ ∧ _ ∧ _ := by simpa using he
    rw [netCommitOp]
    simp only [Bool.false_eq_true, if_false, if_true, hgood, Bool.not_false, Bool.true_and]
    split <;> split <;> simp_all

/-- Settles O45: each operation is the branch that its state and operands choose. -/
theorem zypStreamsAndRadio : Obligations.ZypStreamsAndRadio := by
  refine ⟨fun s e n hup he hf => ?_, fun s hup hfull hrest => ?_, fun s hup hnot hfull => ?_, fun s p rest hup hair hp => ?_, fun s hup => ?_,
    fun s b hup => ?_, fun s c d hup hacc hf hl hst => ?_, fun s c d hup hacc hf hl => ?_, fun s c hup hacc hf hl => ?_,
    fun s hup hf hy hport => ?_, fun s b addr pre other res hup he hok hne => ?_, fun s x hup => ?_⟩ <;> refine Gives.of_main hup rfl ?_
  · obtain ⟨he, hn⟩ := he
    obtain ⟨hfol, hmir⟩ := hf
    generalize hc : (if later e s.zyp.bootCtr then e else s.zyp.bootCtr) = k at hn
    have hop : pairStreamCatchupOp s = State.bump (State.startPair { s with zyp := { s.zyp with catchup := none, bootCtr := k } })
        Reg.LNA_BOOT_CATCHUP (Reg.PORT_CNT_OVF_CNT_SAT 0) := by
      rw [pairStreamCatchupOp, he]
      dsimp only
      rw [hfol, hmir, if_neg (by decide), hc]
    rw [hop, State.bump_zyp, State.rd_bump_ne (by decide) (by decide) (by decide) (by decide), State.startPair_boot, State.startPair_zyp,
      State.nextBoot_of_zyp, hn]
    dsimp only
    exact ⟨rfl, rfl, rfl, rfl, rfl⟩
  · obtain ⟨hon, hany, hfol⟩ := hfull
    obtain ⟨h1, h2⟩ := hrest
    have hop : streamRenewOp s = s.startPair := by
      rw [streamRenewOp]
      dsimp only
      rw [hon, hany, hfol]
      refine if_neg ?_
      show ¬ (decide (s.trp.seqTrap ≥ 0xFFFF0000) || decide (s.zyp.seqCor ≥ 0xFFFF0000)) = true
      simp
      omega
    rw [hop]
    exact ⟨rfl, rfl, rfl⟩
  · have hop : streamRenewOp s = s.startUnit := by
      have hno : ¬ (s.zyp.pairOn && s.zyp.seq.any (fun p => decide (p.2 ≥ 0xFFFF0000)) && !s.follows) = true := by
        rcases hnot with h | h | h <;> rw [h] <;> simp
      rw [streamRenewOp]
      dsimp only
      rw [if_neg hno]
      refine if_pos ?_
      simp
      omega
    rw [hop]
    exact ⟨rfl, rfl, rfl, rfl⟩
  · obtain ⟨hair, hdrive, hon⟩ := hair
    obtain ⟨hp, hread⟩ := hp
    have hop : radioTransmitOp s = (fun (t : State) (f : List Nat) => ({ t with zyp := { t.zyp with onAir := some ⟨p.prio, f⟩, txLog := t.zyp.txLog ++ [(⟨2, none, f⟩ : SentFrame)] } }).wrapBy (Reg.PORT_ZYP_TX 2) 1)
        (s.takeAny 17) ((p.words.flatMap fun (w : DWord) => le 8 w.toNat).take (radioLength (p.words.flatMap fun (w : DWord) => le 8 w.toNat))) := by
      rw [radioTransmitOp, hair, hdrive, hon, hp]
      rfl
    rw [hop]
    refine ⟨rfl, State.takeAny_pkts hread hp, ?_⟩
    have hrd : (s.takeAny 17).rd (Reg.PORT_ZYP_TX 2) = s.rd (Reg.PORT_ZYP_TX 2) :=
      State.takeAny_only (π := fun s => s.rd (Reg.PORT_ZYP_TX 2)) (unseen_rd (by decide) (by decide)) s 17
    refine (State.wrapBy_rd ..).trans ?_
    show ((s.takeAny 17).rd (Reg.PORT_ZYP_TX 2) + 1) % 4294967296 = _
    rw [hrd]
  · rfl
  · show zypFrameReceiveOp 2 ⟨0#32, 0#16⟩ b s = _
    rw [zypFrameReceiveOp, if_neg (by simp), if_pos rfl]
    by_cases hl : b.length < 45 ∨ b.length > 640
    · rw [if_pos hl]
    · rw [if_neg hl, if_pos (by simp [State.zypHeaderBad])]
  · obtain ⟨hfol, hfleet⟩ := hf
    rw [rosterOp, State.hostCmd_accepts hacc]
    dsimp only
    rw [State.begun_follows, hfol, if_neg (by decide), if_neg (by omega), State.begun_mode, hfleet, if_neg (by decide),
      State.begun_rosterStatus, hst, if_pos rfl]
  · obtain ⟨hfol, hfleet⟩ := hf
    rw [rosterOp, State.hostCmd_accepts hacc]
    dsimp only
    rw [State.begun_follows, hfol, if_neg (by decide), if_neg (by omega), State.begun_mode, hfleet, if_pos rfl]
  · obtain ⟨hfol, hp⟩ := hf
    rw [statusReadOp, State.hostCmd_accepts hacc]
    dsimp only
    rw [State.begun_follows, hfol, if_neg (by decide), if_neg (by omega), if_neg (by omega), State.begun_zyp]
  · obtain ⟨hp1, hp2⟩ := hport
    have hv : firstFail [(s.mode.fleet || s.follows, St.refusedMode),
        (s.sh Reg.LNA_ZYP_CFG_YARD_ID == broadcastId || (s.lidOf (s.sh Reg.LNA_ZYP_CFG_YARD_ID)).isSome || s.sh Reg.LNA_ZYP_PORT_UDP_PORT == 0
          || decide (s.sh Reg.LNA_ZYP_PORT_EPOCH_AGE < 4), St.badFormat)] = St.done := by
      simp [firstFail, hf, hy, hp1, hp2]
    rw [zypCommitOp, hv]
  · have hgood : (decide (s.sh pre < 8 ∨ s.sh pre > 30) || addrBad (s.sh addr) (s.sh pre) || (s.sh addr != 0 && s.sh addr == s.rd other)) = false := by
      obtain ⟨h1, h2, h3⟩ := hok
      rw [h3, decide_eq_false (by omega)]
      rcases hne with h | h <;> simp [h]
    exact netCommitOp_of he hgood
  · refine ⟨(State.rd_wr_same ..).trans (Nat.mod_eq_of_lt ?_), rfl⟩
    show max 1 (min 20 _) < 2 ^ 5
    omega

end Sys2Proof.Machine
end

section
/-! Sources, corrections and steps of yard time (O46). -/

namespace Sys2Proof.Machine

/-! ## Holdover -/

/-- What a lowering of the quality leaves: every field but the quality, its fault and the event. -/
theorem State.setTq_rd (s : State) (q : Nat) {f : Fld} (h : f.key ≠ Reg.TIM_STATUS_TQ.key) (h' : f.key ≠ Reg.TIM_FAULT_HOLD_DEGRADED.key)
    (hm : f.key ≠ (Reg.MSIX_PENDING 0).key) : (s.setTq q).rd f = s.rd f := by
  rw [State.setTq]
  split
  · rw [State.rd_fault_ne h' hm, State.rd_wr_ne h]
  · rw [State.rd_wr_ne h]

theorem State.setTq_tq (s : State) (q : Nat) : (s.setTq q).rd Reg.TIM_STATUS_TQ = q % 8 := by
  rw [State.setTq]
  split
  · rw [State.rd_fault_ne (by decide) (by decide), State.rd_wr_same]
    rfl
  · exact State.rd_wr_same ..

theorem holdTq_le (e : Nat) : holdTq e ≤ 5 := by
  rw [holdTq]
  split_ifs <;> decide

theorem State.setTq_tim (s : State) (q : Nat) : (s.setTq q).tim = s.tim := by
  rw [State.setTq]
  split
  · exact State.fault_tim ..
  · rfl

theorem State.holdAt_rd (s : State) (t : YTime) {f : Fld} (h : f.key ≠ Reg.TIM_EST_ERR.key) (h1 : f.key ≠ Reg.TIM_STATUS_TQ.key)
    (h2 : f.key ≠ Reg.TIM_FAULT_HOLD_DEGRADED.key) (hm : f.key ≠ (Reg.MSIX_PENDING 0).key) : (s.holdAt t).rd f = s.rd f := by
  rw [State.holdAt]
  split
  · rw [State.setTq_rd _ _ h1 h2 hm, State.rd_wr_ne h]
  · rw [State.rd_wr_ne h]

theorem State.holdAt_tim (s : State) (t : YTime) : (s.holdAt t).tim = s.tim := State.holdAt_only (π := State.tim) (unseen_tim (by decide)) s t

theorem State.holdAt_est (s : State) (t : YTime) :
    (s.holdAt t).rd Reg.TIM_EST_ERR = min (s.estimate (timeDiff t s.tim.lastOk / 65536).toNat) 4294967295 := by
  have hlt : min (s.estimate (timeDiff t s.tim.lastOk / 65536).toNat) 4294967295 < 2 ^ 32 := by omega
  rw [State.holdAt]
  split
  · rw [State.setTq_rd _ _ (by decide) (by decide) (by decide), State.rd_wr_same]
    exact Nat.mod_eq_of_lt hlt
  · rw [State.rd_wr_same]
    exact Nat.mod_eq_of_lt hlt

/-- In holdover the quality is no better than the estimate allows. -/
theorem State.holdAt_tq (s : State) (t : YTime) :
    holdTq (s.estimate (timeDiff t s.tim.lastOk / 65536).toNat) ≤ (s.holdAt t).rd Reg.TIM_STATUS_TQ := by
  rw [State.holdAt]
  split
  · rw [State.setTq_tq, Nat.mod_eq_of_lt (lt_of_le_of_lt (holdTq_le _) (by decide))]
  · omega

/-! ## The loss of a source -/

/-- With GNSS lost and no second source named, none is in force. -/
theorem State.pickSource_none {s : State} (hf : s.follows = false) (hg : s.tim.gnssOk = false) (h1 : s.rd Reg.TIM_CFG_SRC_FIRST = 0)
    (h2 : s.rd Reg.TIM_CFG_SRC_SECOND = 2) : s.pickSource = 3 := by
  simp [State.pickSource, State.sourceOk, hf, hg, h1, h2]

theorem State.reselect_none {s : State} (hp : s.pickSource = 3) (hs : s.rd Reg.TIM_STATUS_SOURCE ≠ 3) :
    s.reselect = (s.wr Reg.TIM_STATUS_SOURCE 3).wr Reg.TIM_STATUS_STEERING 0 := by
  rw [State.reselect, hp]
  dsimp only
  rw [if_neg (Ne.symm hs), if_pos rfl]

/-- The loss of the source in force, with nothing to follow it. -/
theorem State.afterLoss_none {s u : State} (hu : u = { s with tim := { s.tim with lockFrom := none } }.fault Reg.TIM_FAULT_SRC_LOST)
    (hp : u.pickSource = 3) (hs : u.rd Reg.TIM_STATUS_SOURCE ≠ 3) :
    s.afterLoss = ((u.wr Reg.TIM_STATUS_SOURCE 3).wr Reg.TIM_STATUS_STEERING 0).holdAt
      ((u.wr Reg.TIM_STATUS_SOURCE 3).wr Reg.TIM_STATUS_STEERING 0).now := by
  rw [State.afterLoss, ← hu, State.reselect_none hp hs]
  rw [if_pos (by rw [State.rd_wr_ne (by decide), State.rd_wr_same]; decide)]

theorem sourceLostOp_of {s : State} {a : YTime} (ha : s.tim.solLast = some a) (hl : s.tim.gnssLost = false) : sourceLostOp s =
    (fun u : State => if u.rd Reg.TIM_STATUS_SOURCE = 0 then State.afterLoss { u with tim := { u.tim with gnssOk := false, gnssLost := true } }
      else { u with tim := { u.tim with gnssOk := false, gnssLost := true } }) (s.advance (ofNs (toNs a + 2000000000 : Nat) a.frac)) := by
  rw [sourceLostOp, ha]
  dsimp only
  rw [hl, if_neg (by decide)]
  simp only [beq_iff_eq]

/-! ## Steps and slews -/

theorem State.advance_mode (s : State) (t : YTime) : (s.advance t).mode = s.mode := State.advance_only (π := State.mode) (unseen_mode (by decide)) s t

theorem State.advance_follows (s : State) (t : YTime) : (s.advance t).follows = s.follows := by
  rw [State.follows, State.follows, State.advance_mode]

/-- An accepted correction ends the condition that refused it. -/
theorem State.accepted_rejected (s : State) : s.accepted.rd Reg.TIM_STATUS_REJECTED = 0 := State.rd_wr_same ..

theorem State.stepRefused_now (s : State) :
    s.stepRefused.now = ofNs ((toNs s.now : Int) + offNs (256 * signed 64 (s.rd Reg.TIM_REF_OFFSET))) s.now.frac := by
  rw [State.now, State.stepRefused]
  dsimp only [State.accepted, State.now]
  rw [State.wr_tim, State.wr_tim, State.setTq_tim, State.wr_tim, State.stepTime]
  dsimp only
  rw [apply_ite State.tim, State.fault_tim, ite_self, State.fault_tim, State.wrapBy_tim, State.tallyRecord_tim]
  dsimp only
  rw [State.wr_tim, State.wr_tim]
  rfl

theorem calendarWriteOp_of {s u : State} (hu : u = s.wholeSecond) (h : u.rd Reg.TIM_STATUS_SET_STATE = 2 ∧ u.rd Reg.TIM_STATUS_TQ ≠ 5) :
    calendarWriteOp s =
    ({ u with tim := { u.tim with cal := u.now.sec, calUtc := bits (u.rd Reg.TIM_UTC) 0 16, calOk := true } } : State).wr
      Reg.TLY_STATUS_TIME_UNKNOWN (bit (bits (u.rd Reg.TIM_UTC) 16 1 = 0)) := by
  subst hu
  exact if_pos h

theorem calendarWriteOp_effect {s u : State} (hu : u = s.wholeSecond) (h : u.rd Reg.TIM_STATUS_SET_STATE = 2 ∧ u.rd Reg.TIM_STATUS_TQ ≠ 5) :
    (calendarWriteOp s).tim.cal = u.now.sec ∧ (calendarWriteOp s).tim.calUtc = bits (u.rd Reg.TIM_UTC) 0 16 ∧ (calendarWriteOp s).tim.calOk = true := by
  rw [calendarWriteOp_of hu h, State.wr_tim]
  exact ⟨rfl, rfl, rfl⟩

/-- Settles O46: every source command is its branch; a loss with no second source reads off the holdover that follows it. -/
theorem timeSources : Obligations.TimeSources := by
  refine ⟨fun s a u w off utc hup ha hu h hw => ?_, fun s u utc hup hu h => ?_, fun s u w a hup h hu hw => ?_, fun s u a hup h hu h' => ?_,
    fun s a b off hup h h' ho => ?_, fun s u x e hup h h' => ?_, fun s u a hup h h' => ?_, fun s k hup h => ?_, fun s u v a hup h h' h'' => ?_,
    fun s hup h => ?_, fun s hup h => ?_, fun s hup h => ?_, fun s hup h => ?_, fun s hup h => ?_, fun s hup => ?_, fun s hup h => ?_,
    fun s hup h => ?_, fun s hup h h' => ?_, fun s hup h h' => ?_⟩ <;> refine Gives.of_main hup rfl ?_
  · obtain ⟨hne, ho⟩ := h
    subst ha hu ho
    rw [hw]
    exact if_neg fun hnone => Bool.false_ne_true (hne.symm.trans hnone)
  · subst hu
    exact if_pos h
  · obtain ⟨ha, hl⟩ := h
    subst hu hw
    exact sourceLostOp_of ha hl
  · obtain ⟨ha, hl, hf⟩ := h
    obtain ⟨h0, h1, h2⟩ := h'
    have hop : sourceLostOp s = State.afterLoss { u with tim := { u.tim with gnssOk := false, gnssLost := true } } := by
      rw [sourceLostOp_of ha hl, ← hu]
      exact if_pos h0
    have hfu : u.follows = false := by rw [hu, State.advance_follows, hf]
    generalize hw : ({ u with tim := { u.tim with gnssOk := false, gnssLost := true } } : State) = w at hop
    generalize hv : ({ w with tim := { w.tim with lockFrom := none } } : State).fault Reg.TIM_FAULT_SRC_LOST = v
    have hrd : ∀ f : Fld, f.key ≠ Reg.TIM_FAULT_SRC_LOST.key → f.key ≠ (Reg.MSIX_PENDING 0).key → v.rd f = u.rd f := fun f hf hm => by
      rw [← hv, State.rd_fault_ne hf hm, ← hw]
      rfl
    have hvt : v.tim = { w.tim with lockFrom := none } := by
      rw [← hv]
      exact State.fault_tim ..
    have hvf : v.follows = false := by
      rw [State.follows, ← hv, State.fault_mode, ← hw]
      exact hfu
    have hp : v.pickSource = 3 := State.pickSource_none hvf (by rw [hvt, ← hw]) (by rw [hrd _ (by decide) (by decide), h1])
      (by rw [hrd _ (by decide) (by decide), h2])
    have hs : v.rd Reg.TIM_STATUS_SOURCE ≠ 3 := by
      rw [hrd _ (by decide) (by decide), h0]
      decide
    rw [hop, State.afterLoss_none hv.symm hp hs]
    refine ⟨?_, ?_, ?_, ?_, ?_⟩
    · rw [State.holdAt_rd _ _ (by decide) (by decide) (by decide) (by decide), State.rd_wr_ne (by decide), State.rd_wr_same]
      rfl
    · rw [State.holdAt_rd _ _ (by decide) (by decide) (by decide) (by decide), State.rd_wr_same]
      rfl
    · rw [State.holdAt_tim, State.wr_tim, State.wr_tim, hvt, ← hw]
    · rw [State.holdAt_tim, State.wr_tim, State.wr_tim, hvt, ← hw]
    · rw [State.on, State.holdAt_rd _ _ (by decide) (by decide) (by decide) (by decide), State.rd_wr_ne (by decide), State.rd_wr_ne (by decide), ← hv,
        State.fault_rd _ _ (by decide) (by decide)]
      rfl
  · obtain ⟨hf, hl, hg⟩ := h
    subst ho
    dsimp only [sourceReturnOp]
    rw [hf, hl, hg]
    exact if_neg (by simpa using h')
  · obtain ⟨hu, he⟩ := h
    have hop : holdoverDegradeOp x s = u.holdAt u.now := by
      rw [holdoverDegradeOp, ← hu]
      exact if_pos h'
    rw [hop]
    subst he
    exact ⟨rfl, State.holdAt_est .., State.holdAt_tq ..⟩
  · obtain ⟨ha, hu⟩ := h
    rw [tqLockedOp, ha, hu]
    exact if_pos h'
  · rw [slewEndOp, if_neg (by rw [h]; exact Bool.false_ne_true)]
    refine ⟨?_, ?_, ?_, ?_, ?_, ?_, ?_⟩
    · simp only [State.wr_tim]
    · simp only [State.wr_tim]
    · simp only [State.wr_tim]
    · rw [State.rd_wr_ne (by decide), State.rd_wr_ne (by decide), State.rd_wr_same]
      rfl
    · rw [State.rd_wr_ne (by decide), State.rd_wr_same]
      rfl
    · rw [State.rd_wr_same]
      rfl
    · rw [State.rd_wr_ne (by decide), State.rd_wr_ne (by decide), State.rd_wr_ne (by decide), State.rd_wr_same]
  · obtain ⟨ha, hu⟩ := h
    obtain ⟨hauto, hst⟩ := h'
    rw [autoStepOp, ha, hu]
    refine if_neg ?_
    rw [hauto, hst]
    rcases h'' with h | h <;> simp [h]
  · obtain ⟨hst, hoff⟩ := h
    rw [stepOp, hst, if_neg (by decide), if_pos hoff]
    refine ⟨rfl, ?_, ?_, ?_⟩
    · rw [State.now, State.timResult, State.wr_tim]
      exact State.stepRefused_now s
    · rw [State.timResult, State.rd_wr_same]
      rfl
    · rw [State.timResult, State.rd_wr_ne (by decide), State.stepRefused]
      exact State.accepted_rejected _
  · rw [stepOp]
    exact if_pos h
  · obtain ⟨hst, hoff⟩ := h
    rw [stepOp, hst, if_neg (by decide), hoff, if_neg (by decide)]
    rfl
  · rw [slewAcceptOp, if_pos h]
    refine ⟨rfl, ?_, ?_, ?_, ?_⟩
    · rw [State.timResult, State.wr_tim, State.slewBy, State.wr_tim, State.wr_tim]
    · rw [State.timResult, State.rd_wr_ne (by decide), State.slewBy, State.rd_wr_ne (by decide), State.rd_wr_same]
      rfl
    · rw [State.timResult, State.rd_wr_ne (by decide), State.slewBy, State.rd_wr_ne (by decide), State.rd_wr_ne (by decide)]
      exact State.accepted_rejected s
    · rw [State.timResult, State.rd_wr_same]
      rfl
  · rw [slewAcceptOp, h, if_neg (by decide)]
    rfl
  · rfl
  · exact calendarWriteOp_effect rfl h
  · rw [calendarWriteOp]
    refine if_neg fun hc => ?_
    rcases h with h | h
    · exact h hc.1
    · exact hc.2 h
  · rw [twinClockInputOp, h, if_neg (by decide)]
    exact if_neg (by omega)
  · rw [twinClockInputOp, h, if_neg (by decide)]
    exact if_pos h'

end Sys2Proof.Machine
end

section
/-! The Dormer (O43). -/

namespace Sys2Proof.Machine

theorem AMap.find_filter_none {α : Type} {p : Nat × α → Bool} {k : Nat} (h : ∀ v, p (k, v) = false) (m : AMap α) : AMap.find k (m.filter p) = none := by
  induction m with
  | nil => rfl
  | cons q m ih =>
    obtain ⟨j, v⟩ := q
    rw [List.filter_cons]
    split
    · rename_i hp
      have hjk : j ≠ k := by
        rintro rfl
        rw [h v] at hp
        exact Bool.false_ne_true hp
      rw [AMap.find_cons, if_neg hjk, ih]
    · exact ih

/-- AON power-on leaves no Dormer register but at its reset value. -/
theorem aonPowerOnOp_rd {f : Fld} (h : drmOwn f.key = true) (s : State) : (aonPowerOnOp s).rd f = f.rst := by
  rw [State.rd, Regs.read, AMap.get, aonPowerOnOp]
  dsimp only
  rw [AMap.find_filter_none fun v => by rw [h]; rfl]
  rfl

/-! ## A burst -/

/-- What the burst shows once its commits are in force: a slow clock. -/
def State.slowShown (a : State) : State :=
  (if a.on Reg.CLK_SRC_STATUS_XTAL32_FALLBACK && !a.on Reg.DRM_FAULT_SLOW_CLOCK then a.fault Reg.DRM_FAULT_SLOW_CLOCK else a).wr
    Reg.DRM_STATUS_ON_LPRC32 (a.rd Reg.CLK_SRC_STATUS_XTAL32_FALLBACK)

/-- The rules that a burst evaluates. -/
def State.dueRules (u : State) (due : List Nat) : List Nat :=
  (List.range 64).filter fun r => ruleBits u.drm.rules r 0 0 1 == 1 && due.contains (ruleSrc u.drm.rules r) && (u.drmCh (ruleSrc u.drm.rules r)).valid

theorem dormerBurstOp_of {s a b u : State} {n tick : Nat} {reading time : CalTime} {raw : List (BitVec 12)} {due : List Nat} (hon : s.aonOn = true)
    (ht : tick = s.drm.tick + max 1 n) (hc : time = { reading with sec := max reading.sec s.tim.cal })
    (ha : a = (State.applyChan (State.vbatSeconds { s with drm := { s.drm with tick := tick } } (time.sec - s.tim.cal))).applyRules time)
    (hb : b = a.slowShown) (hd : due = (List.range 16).filter (b.chDue tick)) (hu : u = due.foldl (fun (x : State) k => x.sampleCh raw k) b) :
    dormerBurstOp n reading raw s = (u.evalAll b.stopOut time (u.dueRules due)).showActive := by
  have hs2 : (if a.on Reg.CLK_SRC_STATUS_XTAL32_FALLBACK && !a.on Reg.DRM_FAULT_SLOW_CLOCK then a.fault Reg.DRM_FAULT_SLOW_CLOCK else a).rd
      Reg.CLK_SRC_STATUS_XTAL32_FALLBACK = a.rd Reg.CLK_SRC_STATUS_XTAL32_FALLBACK := by
    split
    · exact State.rd_fault_ne (by decide) (by decide) a
    · rfl
  rw [dormerBurstOp, if_neg (by rw [hon]; decide)]
  subst ht hc
  dsimp only at ha ⊢
  rw [← ha, hs2, ← State.slowShown, ← hb, ← hd, ← hu]
  rfl

/-! ## The channels a burst samples -/

theorem State.showCh_drm (s : State) (n v : Nat) : (s.showCh n v).drm = s.drm := by
  rw [State.showCh]
  rfl

theorem State.sampleCh_drmCh_same (s : State) (raw : List (BitVec 12)) (n : Nat) : (s.sampleCh raw n).drmCh n =
    (s.drmCh n).sample (s.rd (Reg.DRM_CH_CFG_SHIFT n)) (if n < 8 then (raw.getD n 0).toNat else if (raw.getD n 0).toNat = 0 then 0 else 4095) := by
  rw [State.drmCh, State.sampleCh, State.showCh_drm]
  exact AMap.get_set_same ..

theorem State.sampleCh_drmCh_ne (s : State) (raw : List (BitVec 12)) {n k : Nat} (h : n ≠ k) : (s.sampleCh raw k).drmCh n = s.drmCh n := by
  rw [State.drmCh, State.sampleCh, State.showCh_drm]
  exact AMap.get_set_ne h ..

theorem State.sampleCh_rules (s : State) (raw : List (BitVec 12)) (n : Nat) : (s.sampleCh raw n).drm.rules = s.drm.rules := by
  rw [State.sampleCh, State.showCh_drm]

/-- A sample writes what the channels show, and no channel's configuration. -/
theorem State.sampleCh_shift (s : State) (raw : List (BitVec 12)) {n k : Nat} (hn : n < 16) (hk : k < 16) :
    (s.sampleCh raw k).rd (Reg.DRM_CH_CFG_SHIFT n) = s.rd (Reg.DRM_CH_CFG_SHIFT n) := by
  have hval : ∀ {f : Fld}, f.off = 0xd0080 + 4 * (k % 256) ∨ f.off = 0xd0000 → f.lo < 64 → (Reg.DRM_CH_CFG_SHIFT n).key ≠ f.key := fun ho hlo =>
    Fld.key_ne_of_off (by dsimp only [Reg.DRM_CH_CFG_SHIFT]; omega) (by omega) (by dsimp only [Reg.DRM_CH_CFG_SHIFT]; omega) hlo
      (by dsimp only [Reg.DRM_CH_CFG_SHIFT]; omega)
  have hraw := hval (f := Reg.DRM_VAL_RAW k) (.inl rfl) (show 0 < 64 by decide)
  have hfilt := hval (f := Reg.DRM_VAL_FILT k) (.inl rfl) (show 16 < 64 by decide)
  have hvalid := hval (f := Reg.DRM_VAL_VALID k) (.inl rfl) (show 28 < 64 by decide)
  rw [State.sampleCh, State.showCh, State.rd_wr_ne (hval (.inr rfl) (by decide)), State.rd_wr_ne hvalid, State.rd_wr_ne hfilt, State.rd_wr_ne hraw]
  rfl

theorem State.sampleAll_rules (raw : List (BitVec 12)) (l : List Nat) (s : State) :
    (l.foldl (fun (x : State) k => x.sampleCh raw k) s).drm.rules = s.drm.rules := by
  induction l generalizing s with
  | nil => rfl
  | cons k l ih => rw [List.foldl_cons, ih, State.sampleCh_rules]

theorem State.sampleAll_drmCh_out (raw : List (BitVec 12)) {n : Nat} (l : List Nat) (h : n ∉ l) (s : State) :
    (l.foldl (fun (x : State) k => x.sampleCh raw k) s).drmCh n = s.drmCh n := by
  induction l generalizing s with
  | nil => rfl
  | cons k l ih =>
    obtain ⟨hk, hl⟩ := not_or.mp (mt List.mem_cons.mpr h)
    rw [List.foldl_cons, ih hl, State.sampleCh_drmCh_ne s raw hk]

/-- Each channel sampled holds its filters advanced by its own sample. -/
theorem State.sampleAll_drmCh (raw : List (BitVec 12)) {n : Nat} (hn : n < 16) (l : List Nat) (hnd : l.Nodup) (h : n ∈ l) (h16 : ∀ k ∈ l, k < 16) (s : State) :
    (l.foldl (fun (x : State) k => x.sampleCh raw k) s).drmCh n =
    (s.drmCh n).sample (s.rd (Reg.DRM_CH_CFG_SHIFT n)) (if n < 8 then (raw.getD n 0).toNat else if (raw.getD n 0).toNat = 0 then 0 else 4095) := by
  induction l generalizing s with
  | nil => exact absurd h List.not_mem_nil
  | cons k l ih =>
    obtain ⟨hk, hl⟩ := List.nodup_cons.mp hnd
    rw [List.foldl_cons]
    by_cases hkn : n = k
    · subst hkn
      rw [State.sampleAll_drmCh_out raw l hk, State.sampleCh_drmCh_same]
    · have hnl : n ∈ l := (List.mem_cons.mp h).resolve_left hkn
      rw [ih hl hnl (fun j hj => h16 j (List.mem_cons_of_mem _ hj)), State.sampleCh_drmCh_ne s raw hkn,
        State.sampleCh_shift s raw hn (h16 k List.mem_cons_self)]

theorem State.vbatSeconds_rd (s : State) (k : Nat) {f : Fld} (h : f.key ≠ Reg.TLY_MONO.key) (h' : f.key ≠ Reg.CLK_WAKE_TIMER_SECONDS.key) :
    (s.vbatSeconds k).rd f = s.rd f := by
  rw [State.vbatSeconds]
  dsimp only
  split
  · rw [State.rd_wr_ne h', State.rd_wr_ne h]
    rfl
  · rw [State.rd_wr_ne h]
    rfl

theorem State.vbatSeconds_drm (s : State) (k : Nat) : (s.vbatSeconds k).drm = s.drm := State.vbatSeconds_only (π := State.drm) (unseen_drm (by decide)) s k

/-- With no commit waiting none is applied. -/
theorem State.applyNone {s : State} (hc : s.drm.chanNext = none) (hr : s.drm.rulesNext = none) (t : CalTime) : s.applyChan.applyRules t = s := by
  have hs : s.applyChan = s := by
    rw [State.applyChan, hc]
  rw [hs, State.applyRules, hr]

theorem State.showActive_drm (s : State) : s.showActive.drm = s.drm := State.showActive_only (π := State.drm) (unseen_drm (by decide)) s

/-- A register that a burst of no commit and XTAL32 running leaves before its samples. -/
theorem State.slowShown_rd {a : State} (hx : a.on Reg.CLK_SRC_STATUS_XTAL32_FALLBACK = false) {f : Fld} (h : f.key ≠ Reg.DRM_STATUS_ON_LPRC32.key) :
    a.slowShown.rd f = a.rd f := by
  rw [State.slowShown, hx, if_neg (by simp), State.rd_wr_ne h]

theorem State.slowShown_drm {a : State} (hx : a.on Reg.CLK_SRC_STATUS_XTAL32_FALLBACK = false) : a.slowShown.drm = a.drm := by
  rw [State.slowShown, hx, if_neg (by simp)]
  rfl

theorem State.dueRules_nil {u : State} (h : ∀ r < 64, ruleBits u.drm.rules r 0 0 1 = 0) (due : List Nat) : u.dueRules due = [] := by
  rw [State.dueRules, List.filter_eq_nil_iff]
  intro r hr
  rw [h r (List.mem_range.mp hr)]
  simp

/-- Settles O43: a burst samples the channels due one by one, each by itself, and then evaluates the rules due. -/
theorem dormerWatch : Obligations.DormerWatch := by
  refine ⟨fun s f hf => ⟨_, rfl, rfl, rfl, rfl, rfl, rfl, aonPowerOnOp_rd hf s, rfl⟩, fun s a b u n tick reading time raw rules hon h ha hb hu hr => ⟨_, rfl, ?_⟩,
    fun s k n time raw hon hnext hrules hx hn => ⟨_, rfl, ?_⟩, fun s e rest hup hq hfit => ?_, fun s hup h => ?_, fun s n hup h => ?_, fun s hup h => ?_,
    fun s n hup h => ?_⟩
  · obtain ⟨ht, hc⟩ := h
    rw [dormerBurstOp_of hon ht hc ha hb rfl hu, hr]
    rfl
  · obtain ⟨hc, hr⟩ := hnext
    obtain ⟨hn, hdue⟩ := hn
    generalize htick : s.drm.tick + max 1 k = tick at hdue
    generalize htime : ({ time with sec := max time.sec s.tim.cal } : CalTime) = now
    generalize ha : State.vbatSeconds { s with drm := { s.drm with tick := tick } } (now.sec - s.tim.cal) = a
    have hdrm : a.drm = { s.drm with tick := tick } := by rw [← ha, State.vbatSeconds_drm]
    have hrd : ∀ {f : Fld}, f.key ≠ Reg.TLY_MONO.key → f.key ≠ Reg.CLK_WAKE_TIMER_SECONDS.key → a.rd f = s.rd f := fun h h' => by
      rw [← ha, State.vbatSeconds_rd _ _ h h']
      rfl
    have haa : a.applyChan.applyRules now = a := State.applyNone (by rw [hdrm, hc]) (by rw [hdrm, hr]) now
    have hxa : a.on Reg.CLK_SRC_STATUS_XTAL32_FALLBACK = false := by rw [State.on, hrd (by decide) (by decide)]; exact hx
    have hcfg : ∀ {f : Fld}, f.off = 0xd0040 + 4 * (n % 256) → f.lo < 64 → a.slowShown.rd f = s.rd f := fun ho hlo => by
      rw [State.slowShown_rd hxa (Fld.key_ne_of_off (by omega) (by decide) hlo (by decide) (by rw [ho]; dsimp only [Reg.DRM_STATUS_ON_LPRC32]; omega)),
        hrd (Fld.key_ne_of_off (by omega) (by decide) hlo (by decide) (by rw [ho]; dsimp only [Reg.TLY_MONO]; omega))
          (Fld.key_ne_of_off (by omega) (by decide) hlo (by decide) (by rw [ho]; dsimp only [Reg.CLK_WAKE_TIMER_SECONDS]; omega))]
    have hmem : n ∈ (List.range 16).filter (a.slowShown.chDue tick) := List.mem_filter.mpr ⟨List.mem_range.mpr hn, by
      rw [State.chDue, State.on, hcfg rfl (show 0 < 64 by decide), hcfg rfl (show 1 < 64 by decide)]
      exact hdue⟩
    rw [dormerBurstOp_of hon htick.symm htime.symm (by rw [ha, haa]) rfl rfl rfl, State.dueRules_nil, State.evalAll, State.drmCh, State.showActive_drm,
      ← State.drmCh, State.sampleAll_drmCh raw hn _ (List.nodup_range.filter _) hmem fun j hj => List.mem_range.mp (List.mem_of_mem_filter hj),
      hcfg rfl (show 5 < 64 by decide), State.drmCh, State.slowShown_drm hxa, hdrm]
    · rfl
    · intro r hr
      rw [State.sampleAll_rules, State.slowShown_drm hxa, hdrm]
      exact hrules r hr
  · obtain ⟨h46, h47⟩ := hfit
    refine Gives.of_main hup rfl ?_
    rw [dormerEventDrainOp, hq]
    dsimp only
    exact if_pos (by rw [h46, h47]; rfl)
  · refine Gives.of_main hup rfl ?_
    refine if_neg fun hany => ?_
    obtain ⟨n, hn, hbad⟩ := List.any_eq_true.mp hany
    exact absurd (of_decide_eq_true hbad) (not_lt.mpr (h n (List.mem_range.mp hn)))
  · refine Gives.of_main hup rfl ?_
    exact if_pos (List.any_eq_true.mpr ⟨n, List.mem_range.mpr h.1, decide_eq_true h.2⟩)
  · refine Gives.of_main hup rfl ?_
    refine if_neg fun hany => ?_
    obtain ⟨n, hn, hbad⟩ := List.any_eq_true.mp hany
    rw [h n (List.mem_range.mp hn)] at hbad
    exact Bool.false_ne_true hbad
  · refine Gives.of_main hup rfl ?_
    exact if_pos (List.any_eq_true.mpr ⟨n, List.mem_range.mpr h.1, h.2⟩)

end Sys2Proof.Machine
end

section
/-! The Tally's live image (O50). -/

namespace Sys2Proof.Machine

/-! ## A record arrives -/

/-- The words of an event record of a KIND. -/
def tallyWords (kind : Nat) (r : TallyRec) : List DWord :=
  toWords ([0x70, kind] ++ le 2 r.index.toNat ++ le 4 r.value.toNat ++ le 4 r.count.toNat ++ [r.dlen.toNat, 0, 0, 0] ++ r.data.map BitVec.toNat)

/-- The event of a record of a KIND. -/
def State.tallyEvent (s : State) (kind : Nat) (r : TallyRec) : TlyEvent :=
  ⟨kind, r.index.toNat, r.value.toNat, r.count.toNat, (r.data.map BitVec.toNat).take r.dlen.toNat, r.bad || decide (r.dlen.toNat > 40), s.calStamp⟩

/-- The state with a record taken from its chute and counted as received. -/
def State.tallyTaken (s : State) (n : Nat) (w : List DWord) : State := (s.consume n w).received

/-- The state with one more event counted as applied. -/
def State.tallyCounted (s : State) : State := { s with tly := { s.tly with applied := s.tly.applied + 1 } }

theorem State.consume_tly (s : State) (n : Nat) (w : List DWord) : (s.consume n w).tly = s.tly := State.consume_only (π := State.tly) (unseen_tly (by decide)) s n w

theorem State.tallyTaken_tly (s : State) (n : Nat) (w : List DWord) :
    (s.tallyTaken n w).tly = { s.tly with received := s.tly.received + 1, since := s.tly.since + 1 } := by
  rw [State.tallyTaken, State.received]
  dsimp only
  rw [State.consume_tly]

theorem State.tallyTaken_rd (s : State) (n : Nat) (w : List DWord) (f : Fld) : (s.tallyTaken n w).rd f = s.rd f :=
  State.consume_only (π := fun u => u.rd f) (unseen_rd (by decide) (Nat.testBit_lt_two_pow (lt_of_lt_of_le (b := 2 ^ 40) (by decide)
    (Nat.pow_le_pow_right (by decide) (Nat.le_add_right _ _))))) s n w

theorem State.tallyTaken_drm (s : State) (n : Nat) (w : List DWord) : (s.tallyTaken n w).drm = s.drm :=
  State.consume_only (π := State.drm) (unseen_drm (by decide)) s n w

theorem tallyRecordOp_closed {s : State} (h : s.tlyOpen = false) (kind : Nat) (r : TallyRec) : tallyRecordOp kind r s = s := by
  rw [tallyRecordOp, h]
  rfl

theorem tallyRecordOp_open {s : State} (h : s.tlyOpen = true) (kind : Nat) (r : TallyRec) :
    tallyRecordOp kind r s = (s.tallyTaken 48 (tallyWords kind r)).arrive (s.tallyEvent kind r) := by
  rw [tallyRecordOp, h, if_neg (by decide)]
  rfl

theorem State.arrive_applied {u : State} (h : u.tly.flush = none) (e : TlyEvent) : u.arrive e = u.tallyApply e := by
  rw [State.arrive, h]
  exact if_pos rfl

theorem State.arrive_shadow {u : State} {f : TlyFlush} (h : u.tly.flush = some f) (hl : u.tly.shadow.length < 4096) (e : TlyEvent) :
    u.arrive e = State.wr { u with tly := { u.tly with shadow := u.tly.shadow ++ [e] } } Reg.TLY_STATUS_SHADOW (u.tly.shadow.length + 1) := by
  rw [State.arrive, if_neg (by rw [h]; exact Bool.false_ne_true), if_pos hl]

theorem State.arrive_excess {u : State} {f : TlyFlush} (h : u.tly.flush = some f) (hl : 4096 ≤ u.tly.shadow.length) (e : TlyEvent) :
    u.arrive e = { u with tly := { u.tly with excess := u.tly.excess + 1 } } := by
  rw [State.arrive, if_neg (by rw [h]; exact Bool.false_ne_true), if_neg (not_lt.mpr hl)]

/-- A record taken while the image is live is applied to it. -/
theorem tallyRecordOp_applied {s : State} (h : s.tlyOpen = true ∧ s.tly.flush = none) (kind : Nat) (r : TallyRec) :
    tallyRecordOp kind r s = (s.tallyTaken 48 (tallyWords kind r)).tallyApply (s.tallyEvent kind r) := by
  rw [tallyRecordOp_open h.1, State.arrive_applied (by rw [State.tallyTaken_tly]; exact h.2)]

theorem tallyRecordOp_shadow {s u : State} {f : TlyFlush} {kind : Nat} {r : TallyRec} (h : s.tlyOpen = true ∧ s.tly.flush = some f ∧ s.tly.shadow.length < 4096)
    (hu : u = s.tallyTaken 48 (tallyWords kind r)) :
    tallyRecordOp kind r s =
      State.wr { u with tly := { u.tly with shadow := s.tly.shadow ++ [s.tallyEvent kind r] } } Reg.TLY_STATUS_SHADOW (s.tly.shadow.length + 1) ∧
    (tallyRecordOp kind r s).tly.body = s.tly.body := by
  obtain ⟨hopen, hf, hl⟩ := h
  have hsh : u.tly.shadow = s.tly.shadow := by rw [hu, State.tallyTaken_tly]
  have hop := State.arrive_shadow (u := u) (by rw [hu, State.tallyTaken_tly]; exact hf) (by rw [hsh]; exact hl) (s.tallyEvent kind r)
  rw [hsh, hu] at hop
  rw [tallyRecordOp_open hopen, hop, hu]
  refine ⟨rfl, ?_⟩
  rw [State.wr_tly, State.tallyTaken_tly]

theorem tallyRecordOp_excess {s u : State} {f : TlyFlush} {kind : Nat} {r : TallyRec} (h : s.tlyOpen = true ∧ s.tly.flush = some f ∧ 4096 ≤ s.tly.shadow.length)
    (hu : u = s.tallyTaken 48 (tallyWords kind r)) : tallyRecordOp kind r s = { u with tly := { u.tly with excess := s.tly.excess + 1 } } := by
  obtain ⟨hopen, hf, hl⟩ := h
  have hx : u.tly.excess = s.tly.excess := by rw [hu, State.tallyTaken_tly]
  have hop := State.arrive_excess (u := u) (by rw [hu, State.tallyTaken_tly]; exact hf) (by rw [hu, State.tallyTaken_tly]; exact hl) (s.tallyEvent kind r)
  rw [hx, hu] at hop
  rw [tallyRecordOp_open hopen, hop, hu]

/-! ## What an event does to the image -/

theorem State.tallyApply_bad {u : State} {e : TlyEvent} (h : e.bad = true) : u.tallyApply e = u.tallyCounted.lose 2 1 := if_pos h

theorem tallyEvent_ok {s : State} {r : TallyRec} (h : r.bad = false ∧ r.dlen.toNat ≤ 40) (kind : Nat) : (s.tallyEvent kind r).bad ≠ true := by
  rw [State.tallyEvent]
  dsimp only
  rw [h.1, decide_eq_false (not_lt.mpr h.2)]
  decide

theorem tallyEvent_bad {s : State} {r : TallyRec} (h : r.bad = true ∨ 40 < r.dlen.toNat) (kind : Nat) : (s.tallyEvent kind r).bad = true := by
  rw [State.tallyEvent]
  dsimp only
  rcases h with h | h
  · rw [h]; rfl
  · rw [decide_eq_true h, Bool.or_true]

theorem State.tallyApply_hist {u : State} {e : TlyEvent} (hb : e.bad ≠ true) (hk : e.kind = 1) : u.tallyApply e =
    if e.index ≥ 512 ∨ bits (u.tallyCounted.hdef e.index 0) 0 8 = 0 then u.tallyCounted.lose 1 1
    else (u.tallyCounted.addBin e.index (binOf (bits (u.tallyCounted.hdef e.index 0) 0 8) (signed 32 (u.tallyCounted.hdef e.index 1)) (signed 32 e.value)
      (u.tallyCounted.hdef e.index 2)) e.count).tlyStep := by
  refine (if_neg hb).trans ?_
  rw [hk]
  rfl

theorem State.tallyApply_ext {u : State} {e : TlyEvent} (hb : e.bad ≠ true) (hk : e.kind = 2) : u.tallyApply e =
    if e.index < 64 ∨ e.index ≥ 256 ∨ bits (AMap.get u.tallyCounted.tly.xdef (2 * e.index) 0) 0 8 = 0 then u.tallyCounted.lose 1 1
    else (u.tallyCounted.offerExt e.index (bits (AMap.get u.tallyCounted.tly.xdef (2 * e.index) 0) 0 8) (signed 32 e.value) e.stamp).tlyStep := by
  refine (if_neg hb).trans ?_
  rw [hk]
  rfl

theorem State.tallyApply_saturated {u : State} {e : TlyEvent} (hb : e.bad ≠ true) (hk : e.kind = 3) :
    u.tallyApply e = u.tallyCounted.addMark 6 ([bits e.value 0 8, 0] ++ le 2 e.index) := by
  refine (if_neg hb).trans ?_
  rw [hk]
  rfl

theorem State.tallyApply_mark {u : State} {e : TlyEvent} (hb : e.bad ≠ true) (hk : e.kind = 4) :
    u.tallyApply e = u.tallyCounted.addMark (e.index % 256) e.data := by
  refine (if_neg hb).trans ?_
  rw [hk]
  rfl

theorem State.tallyApply_dormer {u : State} {e : TlyEvent} (hb : e.bad ≠ true) (hk : e.kind = 5) : u.tallyApply e =
    State.tlyStep (if e.value = 3 then (u.tallyCounted.addBin 252 (binOf 1 0 e.value 1) 1).offerExt e.index
      (1 + bits (AMap.get u.tallyCounted.drm.rules (4 * e.index) 0) 1 1) e.count e.stamp else u.tallyCounted.addBin 252 (binOf 1 0 e.value 1) 1) := by
  refine (if_neg hb).trans ?_
  rw [hk]
  rfl

/-- What taking and counting a record leaves of the image and of the registers. -/
theorem State.tallyCounted_body (s : State) (n : Nat) (w : List DWord) : (s.tallyTaken n w).tallyCounted.tly.body = s.tly.body := by
  rw [State.tallyCounted, State.tallyTaken_tly]

theorem State.tallyCounted_hdef (s : State) (n : Nat) (w : List DWord) (h k : Nat) : (s.tallyTaken n w).tallyCounted.hdef h k = s.hdef h k := by
  rw [State.hdef, State.tallyCounted, State.tallyTaken_tly, State.hdef]

theorem State.tallyCounted_xdef (s : State) (n : Nat) (w : List DWord) : (s.tallyTaken n w).tallyCounted.tly.xdef = s.tly.xdef := by
  rw [State.tallyCounted, State.tallyTaken_tly]

theorem State.tallyCounted_rd (s : State) (n : Nat) (w : List DWord) (f : Fld) : (s.tallyTaken n w).tallyCounted.rd f = s.rd f :=
  State.tallyTaken_rd s n w f

theorem State.tallyCounted_calStamp (s : State) (n : Nat) (w : List DWord) : (s.tallyTaken n w).tallyCounted.calStamp = s.calStamp := by
  have htim : (s.tallyTaken n w).tallyCounted.tim = s.tim := State.consume_only (π := State.tim) (unseen_tim (by decide)) s n w
  rw [State.calStamp, State.calStamp, htim, State.tallyCounted_rd, State.tallyCounted_rd]

/-! ## Bins, extremes and marks -/

theorem State.tlyStep_tly (s : State) : s.tlyStep.tly = s.tly := State.wrapBy_tly ..

theorem State.tlyStep_seq (s : State) : s.tlyStep.rd Reg.TLY_SEQ = (s.rd Reg.TLY_SEQ + 1) % 4294967296 := State.wrapBy_rd ..

/-- A count that stays within its bin. -/
theorem State.addBin_of {x : State} {h b c : Nat} (h0 : 0 < AMap.get x.tly.body.hist (32 * h + b) 0 + c)
    (h1 : AMap.get x.tly.body.hist (32 * h + b) 0 + c ≤ 4294967295) :
    x.addBin h b c = x.setBody { x.tly.body with hist := AMap.set (32 * h + b) (AMap.get x.tly.body.hist (32 * h + b) 0 + c) x.tly.body.hist } := by
  rw [State.addBin]
  exact (if_neg (Nat.pos_iff_ne_zero.mp h0)).trans (if_pos h1)

/-- The overflow count of a histogram after a count that exceeds bin b. -/
def TlyBody.over (x : TlyBody) (h b c : Nat) : Nat := min (AMap.get x.ovr h 0 + (AMap.get x.hist (32 * h + b) 0 + c - 4294967295)) 4294967295

/-- The image after a count that exceeds bin b of histogram h. -/
def TlyBody.overflow (x : TlyBody) (h b c : Nat) : TlyBody :=
  { x with hist := AMap.set (32 * h + b) 4294967295 x.hist, ovr := AMap.set h (x.over h b c) x.ovr }

/-- A count that exceeds its bin goes on to the overflow count. -/
theorem State.addBin_over {x u : State} {h b c : Nat} (h1 : 4294967295 < AMap.get x.tly.body.hist (32 * h + b) 0 + c)
    (hu : u = x.setBody (x.tly.body.overflow h b c)) :
    x.addBin h b c = if AMap.get x.tly.body.ovr h 0 < 4294967295 ∧ x.tly.body.over h b c = 4294967295 then u.fault Reg.TLY_FAULT_CNT_SAT else u := by
  rw [State.addBin, hu]
  exact (if_neg (by omega)).trans (if_neg (not_le.mpr h1))

theorem State.addBin_over_body {x : State} {h b c : Nat} (h1 : 4294967295 < AMap.get x.tly.body.hist (32 * h + b) 0 + c) :
    (x.addBin h b c).tly.body = x.tly.body.overflow h b c := by
  rw [State.addBin_over h1 rfl]
  split
  · rw [State.fault_tly]
    rfl
  · rfl

/-- Counting in a bin leaves the image's sequence. -/
theorem State.addBin_seq (x : State) (h b c : Nat) : (x.addBin h b c).rd Reg.TLY_SEQ = x.rd Reg.TLY_SEQ := by
  rw [State.addBin]
  dsimp only
  split
  · rfl
  · split
    · rfl
    · split
      · rw [State.rd_fault_ne (by decide) (by decide)]
        rfl
      · rfl

theorem State.addBin_drm (x : State) (h b c : Nat) : (x.addBin h b c).drm = x.drm := State.addBin_only (π := State.drm) (unseen_drm (by decide)) x h b c

/-- An extreme register filed for the first time. -/
theorem State.offerExt_first {x : State} {k : Nat} (h : AMap.find k x.tly.body.ext = none) (mode : Nat) (v : Int) (c : CalStamp) :
    x.offerExt k mode v c = x.setBody { x.tly.body with ext := AMap.set k ⟨mode, v, c, 1⟩ x.tly.body.ext } := by
  rw [State.offerExt, h]

/-- An extreme that holds a value counts the offer, and takes a better one. -/
def Extreme.offered (e : Extreme) (mode : Nat) (v : Int) (c : CalStamp) : Extreme :=
  if (if mode = 1 then e.value < v else v < e.value) then ⟨mode, v, c, min (e.offers + 1) 4294967295⟩
  else ⟨mode, e.value, e.stamp, min (e.offers + 1) 4294967295⟩

theorem State.offerExt_held {x : State} {k : Nat} {e : Extreme} (h : AMap.find k x.tly.body.ext = some e) (mode : Nat) (v : Int) (c : CalStamp) :
    x.offerExt k mode v c = x.setBody { x.tly.body with ext := AMap.set k (e.offered mode v c) x.tly.body.ext } := by
  rw [State.offerExt, h, Extreme.offered]
  dsimp only [GT.gt]
  by_cases hb : if mode = 1 then e.value < v else v < e.value
  · rw [if_pos hb, if_pos hb]
  · rw [if_neg hb, if_neg hb]

theorem State.lose_tly (s : State) (k n : Nat) : (s.lose k n).tly = s.tly := State.lose_only (π := State.tly) (unseen_tly (by decide)) s k n

theorem State.addMark_body (s : State) (kind : Nat) (data : List Nat) : (s.addMark kind data).tly.body =
    { s.tly.body with
      marks := (if s.tly.body.marks.length ≥ 128 then s.tly.body.marks.drop 1 else s.tly.body.marks) ++
        [⟨kind, s.tly.body.markSeq, s.calStamp, s.rd Reg.GLB_EPOCH, (data ++ List.replicate 40 0).take 40⟩]
      markSeq := (s.tly.body.markSeq + 1) % 4294967296 } := by
  rw [State.addMark, State.event_tly, apply_ite State.tly, State.lose_tly, ite_self, State.tlyStep_tly]
  rfl

/-- The mark a record leaves: after those of the log, whose oldest it drops where it is full. -/
theorem State.tallyMark {s : State} (n : Nat) (w : List DWord) (kind : Nat) (data : List Nat) :
    ((s.tallyTaken n w).tallyCounted.addMark kind data).tly.body.marks =
      (if s.tly.body.marks.length ≥ 128 then s.tly.body.marks.drop 1 else s.tly.body.marks) ++
        [⟨kind, s.tly.body.markSeq, s.calStamp, s.rd Reg.GLB_EPOCH, (data ++ List.replicate 40 0).take 40⟩] ∧
    ((s.tallyTaken n w).tallyCounted.addMark kind data).tly.body.markSeq = (s.tly.body.markSeq + 1) % 4294967296 := by
  rw [State.addMark_body, State.tallyCounted_body, State.tallyCounted_calStamp, State.tallyCounted_rd]
  exact ⟨rfl, rfl⟩

/-- A record of a histogram that is defined. -/
theorem tallyRecordOp_hist {s : State} {r : TallyRec} (h : s.tlyOpen = true ∧ s.tly.flush = none) (hr : r.bad = false ∧ r.dlen.toNat ≤ 40)
    (hd : r.index.toNat < 512 ∧ bits (s.hdef r.index.toNat 0) 0 8 ≠ 0) :
    tallyRecordOp 1 r s = ((s.tallyTaken 48 (tallyWords 1 r)).tallyCounted.addBin r.index.toNat (binOf (bits (s.hdef r.index.toNat 0) 0 8)
      (signed 32 (s.hdef r.index.toNat 1)) (signed 32 r.value.toNat) (s.hdef r.index.toNat 2)) r.count.toNat).tlyStep := by
  rw [tallyRecordOp_applied h, State.tallyApply_hist (tallyEvent_ok hr 1) rfl, State.tallyCounted_hdef, State.tallyCounted_hdef, State.tallyCounted_hdef]
  exact if_neg fun hc => hc.elim (not_le.mpr hd.1) hd.2

/-- A record of an extreme register that is defined. -/
theorem tallyRecordOp_ext {s : State} {r : TallyRec} (h : s.tlyOpen = true ∧ s.tly.flush = none) (hr : r.bad = false ∧ r.dlen.toNat ≤ 40)
    (hd : 64 ≤ r.index.toNat ∧ r.index.toNat < 256 ∧ bits (AMap.get s.tly.xdef (2 * r.index.toNat) 0) 0 8 ≠ 0) :
    tallyRecordOp 2 r s = ((s.tallyTaken 48 (tallyWords 2 r)).tallyCounted.offerExt r.index.toNat (bits (AMap.get s.tly.xdef (2 * r.index.toNat) 0) 0 8)
      (signed 32 r.value.toNat) s.calStamp).tlyStep := by
  obtain ⟨h64, h256, hm⟩ := hd
  rw [tallyRecordOp_applied h, State.tallyApply_ext (tallyEvent_ok hr 2) rfl, State.tallyCounted_xdef]
  exact if_neg fun hc => hc.elim (not_lt.mpr h64) fun hc => hc.elim (not_le.mpr h256) hm

/-! ## Dormer records -/

/-- The words of a Dormer record. -/
def dormerWords (e : DormerRec) : List DWord :=
  toWords ([0x40, e.rule.val, e.kind.toNat, e.src.toNat] ++ le 2 e.value.toNat ++ [0, 0] ++ le 4 e.seconds.toNat ++ le 2 e.ticks.toNat ++ [e.flags.toNat, 0])

/-- The event of a Dormer record. -/
def dormerEvent (e : DormerRec) : TlyEvent :=
  ⟨5, e.rule.val, e.kind.toNat, e.value.toNat, [], false, ⟨e.seconds.toNat, bits e.flags.toNat 0 1 == 1⟩⟩

theorem tallyDormerRecordOp_open {s : State} (h : s.tlyOpen = true) (e : DormerRec) :
    tallyDormerRecordOp e s = (s.tallyTaken 46 (dormerWords e)).arrive (dormerEvent e) := by
  rw [tallyDormerRecordOp, h, if_neg (by decide)]
  rfl

theorem tallyDormerRecordOp_applied {s : State} (h : s.tlyOpen = true ∧ s.tly.flush = none) (e : DormerRec) : tallyDormerRecordOp e s =
    State.tlyStep (if e.kind.toNat = 3 then ((s.tallyTaken 46 (dormerWords e)).tallyCounted.addBin 252 (binOf 1 0 e.kind.toNat 1) 1).offerExt e.rule.val
      (1 + bits (AMap.get (s.tallyTaken 46 (dormerWords e)).tallyCounted.drm.rules (4 * e.rule.val) 0) 1 1) e.value.toNat
        ⟨e.seconds.toNat, bits e.flags.toNat 0 1 == 1⟩
      else (s.tallyTaken 46 (dormerWords e)).tallyCounted.addBin 252 (binOf 1 0 e.kind.toNat 1) 1) := by
  rw [tallyDormerRecordOp_open h.1, State.arrive_applied (by rw [State.tallyTaken_tly]; exact h.2), State.tallyApply_dormer Bool.false_ne_true rfl]
  rfl

/-! ## Definitions -/

/-- The verdict on the definitions that wait. -/
def State.defVerdict (s : State) : Nat :=
  firstFail
    [(decide (s.sh Reg.TLY_CFG_FLUSH_PERIOD ≠ 0 ∧ (s.sh Reg.TLY_CFG_FLUSH_PERIOD < 5 ∨ s.sh Reg.TLY_CFG_FLUSH_PERIOD > 240)) ||
        (List.range 512).any (hdefBad s.tly.hdefSh) || (List.range 256).any (xdefBad s.tly.xdefSh), St.badFormat),
      (((List.range 512).any fun h => wordsDiffer s.tly.hdef s.tly.hdefSh (4 * h) 4 && s.histUsed h) ||
        ((List.range 256).any fun x => wordsDiffer s.tly.xdef s.tly.xdefSh (2 * x) 2 && (AMap.find x s.tly.body.ext).isSome), St.conflict)]

theorem defCommitOp_eq (s : State) : defCommitOp s =
    (fun t : State => if s.defVerdict = St.done then { t with tly := { t.tly with hdef := t.tly.hdefSh, xdef := t.tly.xdefSh } } else t)
      (s.commit Reg.TLY_COMMIT_RESULT [Reg.TLY_CFG_FLUSH_PERIOD] s.defVerdict) := rfl

/-- A refused commit of the definitions leaves the recorder as it was. -/
theorem defCommitOp_refused {s : State} {v : Nat} (hv : s.defVerdict = v) (h : v ≠ St.done) :
    defCommitOp s = s.commit Reg.TLY_COMMIT_RESULT [Reg.TLY_CFG_FLUSH_PERIOD] v ∧ (defCommitOp s).tly = s.tly := by
  rw [defCommitOp_eq, hv]
  dsimp only
  rw [if_neg h]
  exact ⟨rfl, State.commit_tly ..⟩

theorem State.period_ok {p : Nat} (h : p = 0 ∨ (5 ≤ p ∧ p ≤ 240)) : decide (p ≠ 0 ∧ (p < 5 ∨ p > 240)) = false := decide_eq_false (by omega)

/-- Settles O50: each record is taken, then applied, kept in the shadow or counted as excess; what it does to the image is its kind's law. -/
theorem tallyImage : Obligations.TallyImage := by
  refine ⟨fun s r hup h hr hd h0 => ?_, fun s r hup h hr hd h1 => ?_, fun s u x r hup h hr hd hx => ?_, fun s u r f hup h hu => ?_, fun s u r f hup h
    hu => ?_, fun s r hup h => ?_, fun s u x r hup h hr hx => ?_, fun s r hup h hr hd hf => ?_, fun s r e hup h hr hd hf => ?_, fun s u x r hup
    h hr hd hx => ?_, fun s u r f hup h hu => ?_, fun s u r f hup h hu => ?_, fun s r hup h => ?_, fun s u x r hup h hr hx => ?_, fun s r hup h
    hr hl => ?_, fun s r hup h hr hl => ?_, fun s u r f hup h hu => ?_, fun s u r f hup h hu => ?_, fun s r hup h => ?_, fun s u x r hup h hr hx
    => ?_, fun s r hup h hr hl => ?_, fun s r hup h hr hl => ?_, fun s u r f hup h hu => ?_, fun s u r f hup h hu => ?_, fun s r hup h => ?_,
    fun s u x r hup h hr hx => ?_, fun s u x e hup h hk hx => ?_, fun s e hup h hk hl => ?_, fun s u x e hup h hk hx => ?_, fun s u e f hup h hu
    => ?_, fun s e hup h => ?_, fun s u k hup hu => ?_, fun s u k hup hu => ?_, fun s b hup hb => ?_, fun s hup hb => ?_, fun s l hup hl => ?_,
    fun s m hup hm => ?_, fun s hup hp hbad hclash => ?_, fun s hup h => ?_, fun s hup hp hbad hclash => ?_⟩ <;> refine Gives.of_main hup rfl ?_
  · obtain ⟨h0, h1⟩ := h0
    rw [tallyRecordOp_hist h hr hd]
    generalize hx : (s.tallyTaken 48 (tallyWords 1 r)).tallyCounted = x
    have hb : x.tly.body = s.tly.body := by rw [← hx, State.tallyCounted_body]
    rw [State.tlyStep_tly, State.tlyStep_seq, State.addBin_seq, State.addBin_of (by rw [hb]; exact h0) (by rw [hb]; exact h1), hb, ← hx, State.tallyCounted_rd]
    exact ⟨rfl, rfl⟩
  · rw [tallyRecordOp_hist h hr hd]
    generalize hx : (s.tallyTaken 48 (tallyWords 1 r)).tallyCounted = x
    have hb : x.tly.body = s.tly.body := by rw [← hx, State.tallyCounted_body]
    rw [State.tlyStep_tly, State.tlyStep_seq, State.addBin_seq, State.addBin_over_body (by rw [hb]; exact h1), hb, ← hx, State.tallyCounted_rd]
    exact ⟨rfl, rfl, rfl⟩
  · obtain ⟨rfl, rfl⟩ := hx
    rw [tallyRecordOp_applied h, State.tallyApply_hist (tallyEvent_ok hr 1) rfl]
    refine if_pos (hd.imp id fun hd => ?_)
    rw [State.tallyCounted_hdef]
    exact hd
  · exact tallyRecordOp_shadow h hu
  · exact tallyRecordOp_excess h hu
  · exact tallyRecordOp_closed h _ r
  · obtain ⟨rfl, rfl⟩ := hx
    rw [tallyRecordOp_applied h, State.tallyApply_bad (tallyEvent_bad hr _)]
    rfl
  · rw [tallyRecordOp_ext h hr hd]
    generalize hx : (s.tallyTaken 48 (tallyWords 2 r)).tallyCounted = x
    have hb : x.tly.body = s.tly.body := by rw [← hx, State.tallyCounted_body]
    rw [State.tlyStep_tly, State.tlyStep_seq, State.offerExt_first (by rw [hb]; exact hf), hb]
    refine ⟨rfl, ?_⟩
    rw [← State.tallyCounted_rd s 48 (tallyWords 2 r), hx]
    rfl
  · rw [tallyRecordOp_ext h hr hd]
    generalize hx : (s.tallyTaken 48 (tallyWords 2 r)).tallyCounted = x
    have hb : x.tly.body = s.tly.body := by rw [← hx, State.tallyCounted_body]
    rw [State.tlyStep_tly, State.tlyStep_seq, State.offerExt_held (by rw [hb]; exact hf), hb]
    refine ⟨rfl, ?_⟩
    rw [← State.tallyCounted_rd s 48 (tallyWords 2 r), hx]
    rfl
  · obtain ⟨rfl, rfl⟩ := hx
    rw [tallyRecordOp_applied h, State.tallyApply_ext (tallyEvent_ok hr 2) rfl]
    refine if_pos (hd.imp id fun hd => hd.imp id fun hd => ?_)
    rw [State.tallyCounted_xdef]
    exact hd
  · exact tallyRecordOp_shadow h hu
  · exact tallyRecordOp_excess h hu
  · exact tallyRecordOp_closed h _ r
  · obtain ⟨rfl, rfl⟩ := hx
    rw [tallyRecordOp_applied h, State.tallyApply_bad (tallyEvent_bad hr _)]
    rfl
  · rw [tallyRecordOp_applied h, State.tallyApply_saturated (tallyEvent_ok hr 3) rfl, (State.tallyMark ..).1, if_neg (not_le.mpr hl)]
    rfl
  · rw [tallyRecordOp_applied h, State.tallyApply_saturated (tallyEvent_ok hr 3) rfl, (State.tallyMark ..).1, (State.tallyMark ..).2, if_pos hl]
    exact ⟨rfl, rfl⟩
  · exact tallyRecordOp_shadow h hu
  · exact tallyRecordOp_excess h hu
  · exact tallyRecordOp_closed h _ r
  · obtain ⟨rfl, rfl⟩ := hx
    rw [tallyRecordOp_applied h, State.tallyApply_bad (tallyEvent_bad hr _)]
    rfl
  · rw [tallyRecordOp_applied h, State.tallyApply_mark (tallyEvent_ok hr 4) rfl, (State.tallyMark ..).1, if_neg (not_le.mpr hl)]
    rfl
  · rw [tallyRecordOp_applied h, State.tallyApply_mark (tallyEvent_ok hr 4) rfl, (State.tallyMark ..).1, (State.tallyMark ..).2, if_pos hl]
    exact ⟨rfl, rfl⟩
  · exact tallyRecordOp_shadow h hu
  · exact tallyRecordOp_excess h hu
  · exact tallyRecordOp_closed h _ r
  · obtain ⟨rfl, rfl⟩ := hx
    rw [tallyRecordOp_applied h, State.tallyApply_bad (tallyEvent_bad hr _)]
    rfl
  · obtain ⟨rfl, rfl⟩ := hx
    rw [tallyDormerRecordOp_applied h, if_neg hk]
    rfl
  · rw [tallyDormerRecordOp_applied h, if_neg hk, State.tlyStep_tly]
    generalize hx : (s.tallyTaken 46 (dormerWords e)).tallyCounted = x
    have hb : x.tly.body = s.tly.body := by rw [← hx, State.tallyCounted_body]
    rw [State.addBin_of (Nat.succ_pos _) (by rw [hb]; exact hl), hb]
    rfl
  · obtain ⟨rfl, rfl⟩ := hx
    have hbin : binOf 1 0 (e.kind.toNat : Int) 1 = binOf 1 0 3 1 := by rw [hk]; rfl
    rw [tallyDormerRecordOp_applied h, if_pos hk, hbin, State.addBin_drm]
    rfl
  · obtain ⟨hopen, hf, hl⟩ := h
    have hu' : u = s.tallyTaken 46 (dormerWords e) := hu
    have hsh : u.tly.shadow = s.tly.shadow := by rw [hu', State.tallyTaken_tly]
    have hop := State.arrive_shadow (u := u) (by rw [hu', State.tallyTaken_tly]; exact hf) (by rw [hsh]; exact hl) (dormerEvent e)
    rw [tallyDormerRecordOp_open hopen, ← hu', hop, hsh]
    rfl
  · rw [tallyDormerRecordOp, h]
    rfl
  · subst hu
    have hop : tallyLiveEccOp (.hist k) s = (s.setBody { s.tly.body with hist := s.tly.body.hist.filter (fun (p : Nat × Nat) => p.1 / 32 != k.val), ovr := AMap.del k.val s.tly.body.ovr }).damaged k.val 0 := rfl
    rw [hop]
    generalize hw : s.setBody { s.tly.body with hist := s.tly.body.hist.filter (fun (p : Nat × Nat) => p.1 / 32 != k.val), ovr := AMap.del k.val s.tly.body.ovr } = w
    rw [State.damaged, State.fault_tly, State.lose_tly, State.addMark_body, ← hw]
    exact ⟨rfl, rfl, rfl, rfl⟩
  · subst hu
    rfl
  · rw [tallyLiveEccOp]
    dsimp only
    rw [hb]
  · rw [tallyLiveEccOp]
    dsimp only
    rw [hb]
  · subst hl
    cases hb : s.latestBank <;> simp only [tallyLiveEccOp, hb]
  · subst hm
    cases hb : s.latestBank <;> simp only [tallyLiveEccOp, hb]
  · have hv : s.defVerdict = St.done := by
      rw [State.defVerdict, State.period_ok hp, hbad.1, hbad.2, hclash.1, hclash.2]
      rfl
    rw [defCommitOp_eq, hv]
    dsimp only
    rw [if_pos rfl, State.commit_tly]
    exact ⟨rfl, State.commit_live (g := Reg.TLY_CFG_FLUSH_PERIOD) (r := Reg.TLY_COMMIT_RESULT) [Reg.TLY_CFG_FLUSH_PERIOD] (List.mem_singleton.mpr rfl) (by decide) (by decide) s, State.commit_result ..⟩
  · refine defCommitOp_refused ?_ (by decide)
    have hbad : (decide (s.sh Reg.TLY_CFG_FLUSH_PERIOD ≠ 0 ∧ (s.sh Reg.TLY_CFG_FLUSH_PERIOD < 5 ∨ s.sh Reg.TLY_CFG_FLUSH_PERIOD > 240)) ||
        (List.range 512).any (hdefBad s.tly.hdefSh) || (List.range 256).any (xdefBad s.tly.xdefSh)) = true := by
      rcases h with h | h | h | h
      · rw [decide_eq_true ⟨h.1, .inl h.2⟩]; rfl
      · rw [decide_eq_true ⟨by omega, .inr h⟩]; rfl
      · rw [h, Bool.or_true]; rfl
      · rw [h, Bool.or_true]
    rw [State.defVerdict, hbad]
    rfl
  · refine defCommitOp_refused ?_ (by decide)
    rw [State.defVerdict, State.period_ok hp, hbad.1, hbad.2]
    rcases hclash with h | h
    · rw [h]; rfl
    · rw [h, Bool.or_true]; rfl

end Sys2Proof.Machine
end

section
/-! PTP, pulse generators, captures and the Timekeeper's commits (O47). -/

namespace Sys2Proof.Machine

theorem State.fromLan_open {s : State} (h : s.pwr.lanOpen = true) (b : Bool) (f : State → State) : s.fromLan b f = f s := if_pos h

/-! ## Messages received -/

/-- A Sync that is the source's own: of its domain, at a slave port. -/
theorem ptpSyncRxOp_slave {s u : State} {b : Bool} {m : PtpMsg} (off : Int) (h : s.pwr.lanOpen = true ∧ s.ptpPort b = true ∧ u = s.ptpStamp b 0 false m)
    (hs : u.rd (portState b) = 9) (hd : m.domain.toNat = u.rd Reg.TIM_PTP_CFG_DOMAIN) : ptpSyncRxOp b off m s =
    (fun r : Nat × State => State.sourceInput { r.2 with tim := { r.2.tim with ptpOk := true, ptpOff := off, syncAt := some m.time } } 1 off r.1)
      (match u.tim.syncAt with
        | some a => ((rndDiv (timeDiff m.time a) 1000000000).toNat, u)
        | none => ((u.draw 12).1 % 4294967296, (u.draw 12).2)) := by
  obtain ⟨hlan, hport, rfl⟩ := h
  rw [ptpSyncRxOp, State.fromLan_open hlan, hport, if_neg (by decide)]
  exact if_neg fun h => h.elim (fun h => h hs) fun h => h hd

theorem ptpDelayReqOp_of {s u : State} {b : Bool} {m : PtpMsg} {n : Nat} (h : s.pwr.lanOpen = true ∧ s.ptpPort b = true ∧ u = s.ptpStamp b 1 false m)
    (hs : u.rd (portState b) = 6 ∧ u.on Reg.TIM_PTP_CFG_PROFILE = false ∧ u.outputsStopped = false)
    (hd : m.domain.toNat = u.rd Reg.TIM_PTP_CFG_DOMAIN ∨ (u.on Reg.TIM_CFG_POLICY = true ∧ m.domain.toNat = u.rd Reg.TIM_PTP_CFG_DOMAIN_ALT))
    (hn : n = if (AMap.get u.tim.delayN (bit b) (0, 0)).1 = m.time.sec then (AMap.get u.tim.delayN (bit b) (0, 0)).2 else 0) :
    ptpDelayReqOp b m s = if n ≥ 4096 then u.bump Reg.TIM_PTP_DROP Reg.TIM_FAULT_CNT_SAT else
      { u with tim := { u.tim with delayN := AMap.set (bit b) (m.time.sec, n + 1) u.tim.delayN, delayRsp := AMap.set (bit b) m u.tim.delayRsp } } := by
  obtain ⟨hlan, hport, hu⟩ := h
  obtain ⟨h6, hprof, hout⟩ := hs
  rw [ptpDelayReqOp, State.fromLan_open hlan, hport, if_neg (by decide), ← hu]
  dsimp only
  rw [← hn]
  refine if_neg ?_
  rw [h6, hprof, hout]
  rcases hd with hd | ⟨hpol, hd⟩
  · simp [hd]
  · simp [hpol, hd]

/-! ## Messages sent -/

/-- The state at the sending port: a master-only port becomes a master. -/
def State.ptpMaster (s : State) (b : Bool) : State :=
  if s.rd Reg.TIM_PTP_CFG_ROLE = 0 ∧ (s.rd (portState b) = 1 ∨ s.rd (portState b) = 4) then s.wr (portState b) 6 else s

theorem ptpTxOp_of {s x u : State} {b ann alt : Bool} {time : YTime} {k q : Nat} (hx : x = s.ptpMaster b)
    (h : x.tim.ptpOn = true ∧ x.ptpSilent = false ∧ x.ptpPort b = true ∧ x.rd (portState b) = 6) (ha : alt = true → x.on Reg.TIM_CFG_POLICY = true)
    (hk : k = bit b * 4 + bit ann + 2 * bit alt ∧ q = AMap.get x.tim.ptpSeq k 0)
    (hu : u = { x with tim := { x.tim with ptpSeq := AMap.set k ((q + 1) % 65536) x.tim.ptpSeq } }) : ptpTxOp b ann alt time s =
    if ann then (fun m : AnnounceMsg × State => { m.2 with tim := { m.2.tim with sentAnn := AMap.set (bit b * 2 + bit alt) m.1 m.2.tim.sentAnn } })
      (u.announce alt q)
    else State.ptpStamp { u with tim := { u.tim with
        sentSync := AMap.set (bit b * 2 + bit alt) (if alt then ofNs ((toNs time : Int) + u.refAhead time) time.frac else time) u.tim.sentSync } }
      b 0 true ⟨BitVec.ofNat 8 (u.rd (if alt then Reg.TIM_PTP_CFG_DOMAIN_ALT else Reg.TIM_PTP_CFG_DOMAIN)), BitVec.ofNat 16 q, [], time⟩ := by
  obtain ⟨hon, hsil, hport, h6⟩ := h
  obtain ⟨rfl, rfl⟩ := hk
  rw [ptpTxOp]
  dsimp only
  rw [← State.ptpMaster, ← hx]
  subst hu
  refine (if_neg ?_).trans ?_
  case refine_2 =>
    cases ann
    · exact (if_neg Bool.false_ne_true).trans (if_neg Bool.false_ne_true).symm
    · exact (if_pos rfl).trans (if_pos rfl).symm
  rw [hon, hsil, hport, h6]
  cases alt
  · exact Bool.false_ne_true
  · rw [ha rfl]; decide

/-! ## Pulses -/

/-- The verdict on a generator's shadow: a broken rule, or a single pulse whose time is too near. -/
def State.pulseVerdict (s : State) (g : Nat) : Nat :=
  firstFail [(decide (s.sh (Reg.TIM_PG_START_NS g) ≥ 1000000000 ∨ (1 ≤ s.sh (Reg.TIM_PG_PERIOD g) ∧ s.sh (Reg.TIM_PG_PERIOD g) ≤ 99) ∨
      (s.sh (Reg.TIM_PG_PERIOD g) ≠ 0 ∧ s.sh (Reg.TIM_PG_WIDTH g) ≥ s.sh (Reg.TIM_PG_PERIOD g))), St.badFormat),
    (decide (s.sh (Reg.TIM_PG_PERIOD g) = 0 ∧ s.sh (Reg.TIM_PG_CTRL_EN g) = 1) &&
      !timeLater ⟨s.sh (Reg.TIM_PG_START_SEC g), s.sh (Reg.TIM_PG_START_NS g), 0⟩ (ofNs (toNs s.now + 1000000 : Nat) s.now.frac), St.stale)]

theorem pulseCommitOp_bad {s : State} {v : Nat} (hv : s.pulseVerdict (s.rd Reg.TIM_PG_SEL) = v) (h : v ≠ St.done) :
    pulseCommitOp s = s.commit (Reg.TIM_PG_COMMIT_RESULT (s.rd Reg.TIM_PG_SEL)) (pulseGroup (s.rd Reg.TIM_PG_SEL)) v := by
  subst hv
  exact if_pos h

theorem pulseCommitOp_off {s u : State} {g : Nat} (hg : g = s.rd Reg.TIM_PG_SEL) (hv : s.pulseVerdict g = St.done) (he : s.sh (Reg.TIM_PG_CTRL_EN g) ≠ 1)
    (hu : u = s.commit (Reg.TIM_PG_COMMIT_RESULT g) (pulseGroup g) (s.pulseVerdict g)) :
    pulseCommitOp s = State.setActive { u with tim := { u.tim with pg := AMap.del g u.tim.pg } } g false := by
  subst hg hu
  exact (if_neg fun h => h hv).trans (if_pos (by rw [decide_eq_false he]; rfl))

theorem pulseCommitOp_on {s u : State} {g per : Nat} {start soon next : YTime} (hg : g = s.rd Reg.TIM_PG_SEL) (hv : s.pulseVerdict g = St.done)
    (he : s.sh (Reg.TIM_PG_CTRL_EN g) = 1) (hu : u = s.commit (Reg.TIM_PG_COMMIT_RESULT g) (pulseGroup g) (s.pulseVerdict g))
    (hper : per = s.sh (Reg.TIM_PG_PERIOD g)) (hstart : start = ⟨s.sh (Reg.TIM_PG_START_SEC g), s.sh (Reg.TIM_PG_START_NS g), 0⟩)
    (hsoon : soon = ofNs (toNs s.now + 1000000 : Nat) s.now.frac)
    (hnext : next = if timeLater start soon then start else ofNs (toNs start + ((timeDiff soon start / 65536).toNat / per + 1) * per : Nat) 0) :
    pulseCommitOp s =
      State.setActive { u with tim := { u.tim with pg := AMap.set g ⟨next, ((AMap.find g u.tim.pg).map (·.count)).getD 0, false⟩ u.tim.pg } } g true := by
  subst hg hu hper hnext hstart hsoon
  exact (if_neg fun h => h hv).trans (if_neg (by rw [decide_eq_true he]; decide))

theorem State.pulseVerdict_bad {s : State} {g : Nat} (h : 1000000000 ≤ s.sh (Reg.TIM_PG_START_NS g) ∨ (1 ≤ s.sh (Reg.TIM_PG_PERIOD g) ∧
    s.sh (Reg.TIM_PG_PERIOD g) ≤ 99) ∨ (s.sh (Reg.TIM_PG_PERIOD g) ≠ 0 ∧ s.sh (Reg.TIM_PG_PERIOD g) ≤ s.sh (Reg.TIM_PG_WIDTH g))) :
    s.pulseVerdict g = St.badFormat := by
  rw [State.pulseVerdict, decide_eq_true h]
  rfl

theorem State.pulseVerdict_done {s : State} {g : Nat} (hn : s.sh (Reg.TIM_PG_START_NS g) < 1000000000)
    (hp : s.sh (Reg.TIM_PG_PERIOD g) = 0 ∨ (100 ≤ s.sh (Reg.TIM_PG_PERIOD g) ∧ s.sh (Reg.TIM_PG_WIDTH g) < s.sh (Reg.TIM_PG_PERIOD g)))
    (ht : s.sh (Reg.TIM_PG_PERIOD g) = 0 → s.sh (Reg.TIM_PG_CTRL_EN g) = 1 →
      timeLater ⟨s.sh (Reg.TIM_PG_START_SEC g), s.sh (Reg.TIM_PG_START_NS g), 0⟩ (ofNs (toNs s.now + 1000000 : Nat) s.now.frac) = true) :
    s.pulseVerdict g = St.done := by
  rw [State.pulseVerdict, decide_eq_false (by omega)]
  by_cases hz : s.sh (Reg.TIM_PG_PERIOD g) = 0 ∧ s.sh (Reg.TIM_PG_CTRL_EN g) = 1
  · rw [ht hz.1 hz.2, decide_eq_true hz]
    rfl
  · rw [decide_eq_false hz]
    rfl

theorem pulseTimeOp_of {s u w : State} {g n : Nat} {q : PulseSt} (h : AMap.find g s.tim.pg = some q ∧ n = (q.count + 1) % 4294967296)
    (hu : u = ((if q.late then s else s.advance q.next).setFlags (40 + g) (List.range 32)).beginPulse g)
    (hw : w = if s.on (Reg.TIM_PG_CTRL_EVENT g) then u.evtRecord 0x50 g (bit (!s.on (Reg.TIM_PG_CTRL_POL g)) + 2 * bit q.late) n q.next else u) :
    pulseTimeOp g s = if s.rd (Reg.TIM_PG_PERIOD g) = 0 then State.setActive { w with tim := { w.tim with pg := AMap.del g w.tim.pg } } g false
      else { w with tim := { w.tim with pg := AMap.set g ⟨ofNs (toNs q.next + s.rd (Reg.TIM_PG_PERIOD g) : Nat) q.next.frac, n, false⟩ w.tim.pg } } := by
  obtain ⟨hq, hn⟩ := h
  rw [pulseTimeOp, hq]
  dsimp only
  rw [← hu, ← hn, ← hw]

/-! ## Captures -/

/-- Whether a capture input is armed for an edge. -/
def State.capArmed (s : State) (n : Nat) (b : Bool) : Prop :=
  bits (s.rd Reg.TIM_CAP_CFG) (2 * n) 2 = 3 ∨ (bits (s.rd Reg.TIM_CAP_CFG) (2 * n) 2 = 1 ∧ b = true) ∨ (bits (s.rd Reg.TIM_CAP_CFG) (2 * n) 2 = 2 ∧ b = false)

/-- The capture's registers of an edge. -/
def State.capShown (u : State) (n : Nat) (b : Bool) (x : YTime) : State :=
  ((((u.wr (Reg.TIM_CAP_SEC_LO n) (bits x.sec 0 32)).wr (Reg.TIM_CAP_SEC_HI n) (bits x.sec 32 16)).wr (Reg.TIM_CAP_NS n) x.ns).wr (Reg.TIM_CAP_RISING n)
    (bit b)).wr (Reg.TIM_CAP_COUNT n) ((u.rd (Reg.TIM_CAP_COUNT n) + 1) % 4294967296)

/-- The state with the time of an edge kept. -/
def State.capKept (u : State) (n : Nat) (x : YTime) : State :=
  { u with tim := { u.tim with capAt := AMap.set n x u.tim.capAt, capLost := u.tim.capLost.filter (· != n) } }

theorem captureEdgeOp_armed {s u : State} {n : Nat} {b : Bool} {x : YTime} (hu : u = s.advance x) (ha : s.capArmed n b) : captureEdgeOp n b x s =
    if (match AMap.find n u.tim.capAt with | some a => decide (timeDiff x a ≤ 6553600) | none => false) then
      (State.bump { u with tim := { u.tim with capLost := insertNat n u.tim.capLost } } Reg.TIM_EVT_LOST Reg.TIM_FAULT_CNT_SAT).fault Reg.TIM_FAULT_EVT_LOST
    else ((u.capShown n b x).capKept n x).evtRecord 0x51 n (bit b + 4 * bit ((u.capShown n b x).tim.capLost.contains n))
      ((u.rd (Reg.TIM_CAP_COUNT n) + 1) % 4294967296) x := by
  subst hu
  refine if_neg ?_
  rcases ha with h | ⟨h, rfl⟩ | ⟨h, rfl⟩ <;> rw [h] <;> simp

/-- An event record leaves every register of its block but the loss counter and its fault. -/
theorem State.evtRecord_rd {f : Fld} (h3 : (0x80000000420 : Nat).testBit (40 + f.blk) = false) (h : f.key ≠ Reg.TIM_EVT_LOST.key)
    (hc : f.key ≠ Reg.TIM_FAULT_CNT_SAT.key) (hl : f.key ≠ Reg.TIM_FAULT_EVT_LOST.key) (hm : f.key ≠ (Reg.MSIX_PENDING 0).key) (hb : f.blk ≠ 3)
    (s : State) (a b c d : Nat) (t : YTime) : (s.evtRecord a b c d t).rd f = s.rd f := by
  have hoffer : ∀ w, (s.offer 45 0 w).1.rd f = s.rd f := fun w => State.offer_only (π := fun u => u.rd f) (unseen_rd (by decide) h3) s 45 0 w
  rw [State.evtRecord, State.sendOr]
  split
  · exact hoffer _
  · rw [State.rd_fault_ne hl hm, State.rd_bump_ne h hc hm hb, hoffer]

theorem State.evtRecord_tim (s : State) (a b c d : Nat) (t : YTime) : (s.evtRecord a b c d t).tim = s.tim :=
  State.evtRecord_only (π := State.tim) (unseen_tim (by decide)) s a b c d t

theorem State.evtRecord_mode (s : State) (a b c d : Nat) (t : YTime) : (s.evtRecord a b c d t).mode = s.mode :=
  State.evtRecord_only (π := State.mode) (unseen_mode (by decide)) s a b c d t

/-- A capture's registers, after the record of the edge. -/
theorem State.evtRecord_cap (s : State) (n : Fin 8) (a b c d : Nat) (t : YTime) :
    (s.evtRecord a b c d t).rd (Reg.TIM_CAP_COUNT n.val) = s.rd (Reg.TIM_CAP_COUNT n.val) ∧
    (s.evtRecord a b c d t).rd (Reg.TIM_CAP_RISING n.val) = s.rd (Reg.TIM_CAP_RISING n.val) :=
  ⟨State.evtRecord_rd (by revert n; decide) (by revert n; decide) (by revert n; decide) (by revert n; decide) (by revert n; decide) (by revert n; decide) ..,
   State.evtRecord_rd (by revert n; decide) (by revert n; decide) (by revert n; decide) (by revert n; decide) (by revert n; decide) (by revert n; decide) ..⟩

theorem State.capShown_count (u : State) (n : Nat) (b : Bool) (x : YTime) :
    (u.capShown n b x).rd (Reg.TIM_CAP_COUNT n) = (u.rd (Reg.TIM_CAP_COUNT n) + 1) % 4294967296 := by
  rw [State.capShown, State.rd_wr_same]
  exact Nat.mod_mod ..

theorem State.capShown_rising (u : State) (n : Fin 8) (b : Bool) (x : YTime) : (u.capShown n.val b x).rd (Reg.TIM_CAP_RISING n.val) = bit b := by
  rw [State.capShown, State.rd_wr_ne (by revert n; decide), State.rd_wr_same]
  cases b <;> rfl

theorem State.capKept_rd (u : State) (n : Nat) (x : YTime) (f : Fld) : (u.capKept n x).rd f = u.rd f := rfl

/-- An edge far enough from the last is kept, counted and shown. -/
theorem captureEdgeOp_kept {s u : State} {n : Fin 8} {b : Bool} {x : YTime} (hu : u = s.advance x) (ha : s.capArmed n.val b)
    (hfar : ∀ a, AMap.find n.val u.tim.capAt = some a → 6553600 < timeDiff x a) :
    AMap.find n.val (captureEdgeOp n.val b x s).tim.capAt = some x ∧
    (captureEdgeOp n.val b x s).rd (Reg.TIM_CAP_COUNT n.val) = (u.rd (Reg.TIM_CAP_COUNT n.val) + 1) % 4294967296 ∧
    (captureEdgeOp n.val b x s).rd (Reg.TIM_CAP_RISING n.val) = bit b ∧ (captureEdgeOp n.val b x s).mode = s.mode := by
  have hnear : ¬ ((match AMap.find n.val u.tim.capAt with | some a => decide (timeDiff x a ≤ 6553600) | none => false) = true) := by
    cases hc : AMap.find n.val u.tim.capAt with
    | none => exact Bool.false_ne_true
    | some a => simpa using hfar a hc
  obtain ⟨c, d, hop⟩ : ∃ c d, captureEdgeOp n.val b x s = ((u.capShown n.val b x).capKept n.val x).evtRecord 0x51 n.val c d x :=
    ⟨_, _, (captureEdgeOp_armed hu ha).trans (if_neg hnear)⟩
  rw [hop, State.evtRecord_tim, (State.evtRecord_cap ..).1, (State.evtRecord_cap ..).2, State.evtRecord_mode, State.capKept_rd, State.capKept_rd,
    State.capShown_count, State.capShown_rising]
  exact ⟨AMap.find_set_same .., rfl, rfl, (congrArg State.mode hu).trans (State.advance_mode s x)⟩

/-! ## The PTP commit -/

theorem State.ptpPorts_rd {f : Fld} (ha : f.key ≠ Reg.TIM_PTP_STATE_A.key) (hb : f.key ≠ Reg.TIM_PTP_STATE_B.key) (renew b : Bool) (u : State) :
    (if !u.ptpPort b then u.wr (portState b) 3 else if renew || u.rd (portState b) == 3 then u.wr (portState b) 1 else u).rd f = u.rd f := by
  have hp : f.key ≠ (portState b).key := by
    cases b
    · exact ha
    · exact hb
  split
  · exact State.rd_wr_ne hp u 3
  · split
    · exact State.rd_wr_ne hp u 1
    · rfl

/-- An admissible PTP commit leaves, of a register that shows no port's state and no strap, what the commit left. -/
theorem ptpCommitOp_rd {s : State} {f : Fld} (ha : f.key ≠ Reg.TIM_PTP_STATE_A.key) (hb : f.key ≠ Reg.TIM_PTP_STATE_B.key)
    (hp : f.key ≠ Reg.PIN_STRAP_STATUS_PTP_8021AS.key)
    (hr : s.sh Reg.TIM_PTP_CFG_ROLE < 3 ∧ (s.sh Reg.TIM_PTP_CFG_ROLE = 2 → s.sh Reg.TIM_PTP_CFG_PROFILE = 0 ∧ s.sh Reg.TIM_PTP_CFG_PORT_A_EN ≠ 0 ∧
      s.sh Reg.TIM_PTP_CFG_PORT_B_EN ≠ 0))
    (hd : s.sh Reg.TIM_PTP_CFG_DOMAIN ≤ 127 ∧ s.sh Reg.TIM_PTP_CFG_DOMAIN_ALT ≤ 127 ∧ (s.sh Reg.TIM_PTP_CFG_PROFILE = 1 → s.sh Reg.TIM_PTP_CFG_DOMAIN = 0))
    (hi : intvBad (s.sh Reg.TIM_PTP_INTV) = false) : (ptpCommitOp s).rd f = (s.commit Reg.TIM_PTP_COMMIT_RESULT ptpGroup St.done).rd f := by
  rw [ptpCommitOp]
  dsimp only
  rw [if_neg, State.ptpPorts_rd ha hb, State.ptpPorts_rd ha hb, State.rd_wr_ne hp]
  rw [hi]
  obtain ⟨hr3, hr2⟩ := hr
  obtain ⟨hdom, halt, has⟩ := hd
  rintro (h | ⟨h, h1 | h1 | h1⟩ | h | h | ⟨h, h1⟩ | h)
  · omega
  · rw [(hr2 h).1] at h1
    exact absurd h1 (by decide)
  · exact (hr2 h).2.1 h1
  · exact (hr2 h).2.2 h1
  · omega
  · omega
  · exact h1 (has h)
  · exact Bool.false_ne_true h

/-- Settles O47: each message, pulse and edge is its branch of the rule it follows; what a commit shows is read off the commit. -/
theorem ptpAndPulses : Obligations.PtpAndPulses := by
  refine ⟨fun s u b off m a hup h hs => ?_, fun s u b off m hup h hs => ?_, fun s u b off m hup h hs => ?_, fun s b off m hup h => ?_, fun s u b nm
    adv hup h hu => ?_, fun s u b m n hup h hs hd hn => ?_, fun s u b m hup h hs hd hn => ?_, fun s u w y ann next hup h hw hy => ?_, fun s x u
    b alt time k q hup hx h ha hk hu => ?_, fun s x u b alt time k q hup hx h ha hk hu => ?_, fun s b k m x hup h hk => ?_, fun s b k m x hup h
    hk => ?_, fun s hup hp hsrc hr hpol => ?_, fun s hup hp => ?_, fun s hup hp => ?_, fun s hup hr hd hi => ?_, fun s hup he h => ?_, fun s u g
    per start soon next hup hg ht h hnext hu => ?_, fun s g hup hg h => ?_, fun s u w g q n hup h hu hw hp => ?_, fun s u w g q n hup h hu hw hp
    => ?_, fun s u n b x hup hu ha hfar => ?_, fun s u n b x a hup hu ha h => ?_, fun s n hup => ?_⟩ <;> refine Gives.of_main hup rfl ?_
  · obtain ⟨hst, hd, ha⟩ := hs
    rw [ptpSyncRxOp_slave off h hst hd, ha]
  · obtain ⟨hst, hd, ha⟩ := hs
    rw [ptpSyncRxOp_slave off h hst hd, ha]
    rfl
  · obtain ⟨hlan, hport, rfl⟩ := h
    rw [ptpSyncRxOp, State.fromLan_open hlan, hport, if_neg (by decide)]
    exact if_pos hs
  · exact if_neg (by rw [h]; decide)
  · obtain ⟨hlan, hport, hon⟩ := h
    subst hu
    rw [ptpAnnounceRxOp, State.fromLan_open hlan, hport, hon, if_neg (by decide)]
    cases adv <;> simp only [beq_iff_eq]
  · rw [ptpDelayReqOp_of h hs hd hn.1]
    exact if_neg (not_le.mpr hn.2)
  · rw [ptpDelayReqOp_of h hs hd rfl, if_pos hn.1]
    exact if_pos hn.2
  · obtain ⟨rfl, rfl⟩ := h
    subst hw hy
    rw [ptpParentTimeoutOp]
    simp only [beq_iff_eq]
    rfl
  · rw [ptpTxOp_of hx h ha hk hu]
    rfl
  · rw [ptpTxOp_of hx h ha hk hu]
    rfl
  · obtain ⟨hlan, hr, hd⟩ := h
    rw [ptpTransparentForwardOp, State.fromLan_open hlan, if_neg fun h => h.elim (fun h => h hr) fun h => h hd]
    exact if_pos hk
  · rw [ptpTransparentForwardOp, State.fromLan_open h]
    by_cases hc : s.rd Reg.TIM_PTP_CFG_ROLE ≠ 2 ∨ m.domain.toNat ≠ s.rd Reg.TIM_PTP_CFG_DOMAIN
    · exact if_pos hc
    · have hk2 : 2 ≤ k.val := hk.elim (fun h => absurd (.inl h) hc) fun h => h.elim (fun h => absurd (.inr h) hc) id
      exact (if_neg hc).trans (if_neg (by omega))
  · obtain ⟨ha, hb, hab⟩ := hsrc
    obtain ⟨h1, h2, h3, h4⟩ := hr
    rw [timeCommitOp, hp, if_neg Bool.false_ne_true]
    refine if_neg ?_
    rintro (h | h | ⟨h, h'⟩ | h | h | h | h | ⟨h, h'⟩)
    · exact ha h
    · exact hb h
    · exact h' (hab h)
    · omega
    · omega
    · omega
    · omega
    · exact hpol h h'
  · exact if_pos hp
  · rw [timeConfigApplyOp, if_pos hp, State.isPending, State.endPending, State.commit_cmt]
    refine ⟨rfl, State.commit_result .., ?_⟩
    simp
  · refine ⟨?_, ?_, ?_⟩
    · rw [ptpCommitOp_rd (by decide) (by decide) (by decide) hr hd hi]
      exact State.commit_result ..
    · rw [ptpCommitOp_rd (by decide) (by decide) (by decide) hr hd hi]
      exact State.commit_live (g := Reg.TIM_PTP_CFG_ROLE) (r := Reg.TIM_PTP_COMMIT_RESULT) ptpGroup (by decide) (by decide) (by decide) s
    · rw [ptpCommitOp_rd (by decide) (by decide) (by decide) hr hd hi]
      exact State.commit_live (g := Reg.TIM_PTP_INTV) (r := Reg.TIM_PTP_COMMIT_RESULT) ptpGroup (by decide) (by decide) (by decide) s
  · have hv : s.pulseVerdict (s.rd Reg.TIM_PG_SEL) = St.done := State.pulseVerdict_done h.1 (.inl h.2) fun _ h1 => absurd (he.symm.trans h1) (by decide)
    rw [pulseCommitOp_off rfl hv (by rw [he]; decide) rfl, State.setActive]
    refine ⟨?_, ?_⟩
    · rw [State.wr_tim, State.commit_tim]
    · rw [State.wr_mode, State.commit_mode]
  · obtain ⟨hsel, hper, he⟩ := hg
    obtain ⟨hstart, hsoon⟩ := ht
    obtain ⟨hn, hp, hz⟩ := h
    have hv : s.pulseVerdict g = St.done := by
      subst hper hstart hsoon
      exact State.pulseVerdict_done hn hp fun h0 _ => hz h0
    exact pulseCommitOp_on hsel hv he (by rw [hv]; exact hu) hper hstart hsoon hnext
  · subst hg
    exact pulseCommitOp_bad (State.pulseVerdict_bad h) (by decide)
  · rw [pulseTimeOp_of h hu hw]
    exact if_pos hp
  · rw [pulseTimeOp_of h hu hw]
    exact if_neg hp
  · exact captureEdgeOp_kept hu ha hfar
  · rw [captureEdgeOp_armed hu ha, h.1]
    exact if_pos (decide_eq_true h.2)
  · rfl

end Sys2Proof.Machine
end

section
/-! The host's commands of the Vault (O52). -/

namespace Sys2Proof.Machine

/-! ## What a started command finds -/

theorem State.begun_slot (s : State) (c : Cmd) (n : Nat) : (s.begun c).slot n = s.slot n := by
  rw [State.slot, State.begun_vlt, State.slot]

theorem State.begun_life (s : State) (c : Cmd) : (s.begun c).life = s.life := State.begun_rd ..

theorem State.begun_lifeRow (s : State) (c : Cmd) : (s.begun c).lifeRow = s.lifeRow := by
  rw [State.lifeRow, State.begun_life, State.begun_slot, State.lifeRow]

theorem State.begun_challenge (s : State) (c : Cmd) : (s.begun c).challenge = s.challenge := by
  rw [State.challenge, State.begun_rd, State.begun_rd, State.challenge]

theorem State.begun_ownerSigned (s : State) (c : Cmd) (m g : List Nat) : (s.begun c).ownerSigned m g = s.ownerSigned m g := by
  rw [State.ownerSigned, State.keyOf_congr (State.begun_vlt s c), State.ownerSigned]

theorem State.begun_identityKey (s : State) (c : Cmd) : (s.begun c).identityKey = s.identityKey := by
  rw [State.identityKey, State.rootKey, State.begun_life, State.identityKey, State.rootKey]

theorem State.begun_envelopeRoot (s : State) (c : Cmd) (p : List Byte) : (s.begun c).envelopeRoot p = s.envelopeRoot p := by
  rw [State.envelopeRoot, State.begun_ownerSigned, State.openEnvelope, State.begun_identityKey, State.envelopeRoot, State.openEnvelope]

theorem State.begun_vaultBusyMode (s : State) (c : Cmd) : (s.begun c).vaultBusyMode = s.vaultBusyMode := by
  rw [State.vaultBusyMode, State.begun_mode, State.begun_follows, State.vaultBusyMode]

theorem State.begun_rekeyStatus (s : State) (c : Cmd) (no : Nat) : (s.begun c).rekeyStatus no = s.rekeyStatus no := by
  rw [State.rekeyStatus, State.beaconNo, State.persist, State.begun_vlt, State.rekeyStatus, State.beaconNo, State.persist]

theorem State.begun_vaultShut (s : State) (c : Cmd) : (s.begun c).vaultShut = s.vaultShut := by
  rw [State.vaultShut, State.on, State.begun_rd, State.on, State.begun_rd, State.vaultShut, State.on, State.on]

theorem State.vaultCmd_of {s : State} {c : Cmd} {k : RingKind} {n : Nat} (ha : s.Accepts c k) (h : s.vaultShut = none ∧ c.desc.length.toNat = n)
    (body : State → State) : s.vaultCmd c k n body = body (s.begun c) := by
  rw [State.vaultCmd, State.hostCmd_accepts ha, State.begun_vaultShut, h.1]
  exact if_neg fun hn => hn h.2

theorem State.vaultCmd_shut {s : State} {c : Cmd} {k : RingKind} {q : Nat} (ha : s.Accepts c k) (h : s.vaultShut = some q) (n : Nat) (body : State → State) :
    s.vaultCmd c k n body = (s.begun c).finish c q 0 0 := by
  rw [State.vaultCmd, State.hostCmd_accepts ha, State.begun_vaultShut, h]

theorem State.vaultCmd_length {s : State} {c : Cmd} {k : RingKind} {n : Nat} (ha : s.Accepts c k) (h : s.vaultShut = none ∧ c.desc.length.toNat ≠ n)
    (body : State → State) : s.vaultCmd c k n body = (s.begun c).finish c St.badLength 0 0 := by
  rw [State.vaultCmd, State.hostCmd_accepts ha, State.begun_vaultShut, h.1]
  exact if_pos h.2

theorem State.finishData_completed {s : State} {c : Cmd} {l : List Nat} {n : Nat} (h : l.length = n) : (s.finishData c l).Completed c St.done n 0 := by
  have hfin := State.finish_completed s c St.done n 0
  rw [State.finishData, h]
  dsimp only
  split
  · exact hfin
  · exact hfin

/-! ## Signed commands -/

/-- The verdict on a signed command, in the order of its checks. -/
theorem State.signedCmd_of {t u : State} {c : Cmd} {len v chal : Nat} {bad refused conflict ok : Bool} (hu : u = t.newChallenge)
    (hv : v = firstFail [(refused, St.refusedMode), (conflict, St.conflict), (chal != t.challenge, St.stale), (!ok, St.authFail)])
    (body : State → State) : t.signedCmd c len bad refused conflict chal ok body =
      if bad = true then t.finish c St.badFormat len 0
      else if v = St.done then body u else (if v = St.authFail then u.authBad else u).finish c v len 0 := by
  subst hu hv
  rfl

/-- Two lists of checks that agree give one verdict. -/
theorem firstFail_four {a b c d a' b' c' d' : Bool} (ha : a = a') (hb : b = b') (hc : c = c') (hd : d = d') (i j k l : Nat) :
    firstFail [(a, i), (b, j), (c, k), (d, l)] = firstFail [(a', i), (b', j), (c', k), (d', l)] := by
  rw [ha, hb, hc, hd]

/-! ## Slots -/

theorem State.setSlot_slot_ne {n k : Nat} (h : n ≠ k) (s : State) (x : Slot) : (s.setSlot k x).slot n = s.slot n := AMap.get_set_ne h ..

theorem State.emptySlot_slot (s : State) (n : Nat) : (s.emptySlot n).slot n = { Slot.empty with gen := (s.slot n).gen } := State.setSlot_slot ..

/-- Dropping what no longer hangs on a valid slot leaves an empty slot empty, and its generation. -/
theorem State.dropInvalid_empty {n : Nat} (l : List Nat) (s : State) (h : (s.slot n).kind = 0) : (s.dropInvalid l).slot n = s.slot n := by
  induction l generalizing s with
  | nil => rfl
  | cons k l ih =>
    rw [State.dropInvalid]
    have hk : (if (s.slot k).kind != 0 && !s.slotValid 8 k then s.emptySlot k else s).slot n = s.slot n := by
      split
      · rename_i hc
        have hne : n ≠ k := by
          rintro rfl
          rw [h] at hc
          exact Bool.false_ne_true hc
        exact State.setSlot_slot_ne hne ..
      · rfl
    rw [ih _ (by rw [hk]; exact h), hk]

theorem State.persistLater_slot (s : State) (l : List (Nat × Option Nat)) (x : Option (Cmd × Nat)) (n : Nat) : (s.persistLater l x).slot n = s.slot n := rfl

theorem State.finish_slot (s : State) (c : Cmd) (a b d n : Nat) : (s.finish c a b d).slot n = s.slot n := by
  rw [State.slot, State.finish_vlt, State.slot]

/-- A fixed slot's number in P0. -/
theorem slotNumber_of {p n : Nat} (hp : p = n) (hn : n ≤ 10) : bits p 0 6 = n ∧ bits p 6 26 = 0 := by
  subst hp
  rw [bits, bits]
  omega

theorem slotNumber_bad {p : Nat} (hp : p < 2 ^ 32) (h : p = 0 ∨ 10 < p) : bits p 6 26 ≠ 0 ∨ bits p 0 6 = 0 ∨ bits p 0 6 > 10 := by
  rw [bits, bits]
  omega

theorem later_succ (a : Nat) : later ((a + 1) % 4294967296) a = true := by
  rw [later]
  rw [decide_eq_true_eq]
  omega

theorem not_later_succ (a : Nat) : later a ((a + 1) % 4294967296) = false := by
  rw [later]
  rw [decide_eq_false_iff_not]
  omega

/-- A verified copy reads back as the item written. -/
theorem Persist.item_update (p : Persist) (v : Option Nat) : (p.update v true).item = v := by
  rw [Persist.update]
  split
  · rw [Persist.item]
    dsimp only
    rw [not_later_succ, later_succ]
    cases p.good0 <;> rfl
  · rw [Persist.item]
    dsimp only
    rw [later_succ]
    cases p.good1 <;> rfl

theorem State.setPersist_persist (s : State) (k : Nat) (p : Persist) : (s.setPersist k p).persist k = p := AMap.get_set_same ..

theorem State.persistPut_persist (s : State) (k : Nat) (v : Option Nat) : ((s.persistPut k v true).persist k).item = v := by
  cases v with
  | none =>
    rw [State.persistPut, State.setPersist_persist, Persist.blank, Persist.item]
    decide
  | some x =>
    rw [State.persistPut, State.setPersist_persist]
    exact Persist.item_update ..

theorem State.persistPut_vlt (s : State) (k : Nat) (v : Option Nat) (ok : Bool) :
    (s.persistPut k v ok).vlt.jobs = s.vlt.jobs ∧ (s.persistPut k v ok).vlt.slots = s.vlt.slots := by
  cases v <;> exact ⟨rfl, rfl⟩

/-- What the record's writing leaves, and how its command ends. -/
theorem persistRecordWriteOp_of {s u : State} {j : PersistJob} {rest : List PersistJob} {ok : Bool} (h : s.pwr.pfailLatched = false ∧ s.vlt.jobs = j :: rest)
    (hu : u = State.persistPut { s with vlt := { s.vlt with jobs := rest } } j.record j.item ok) :
    persistRecordWriteOp ok s = (match j.cmd with | some (c, n) => if ok then u.finish c St.done n 0 else u | none => u) ∧
    (persistRecordWriteOp ok s).vlt = u.vlt := by
  have hop : persistRecordWriteOp ok s = match j.cmd with | some (c, n) => if ok then u.finish c St.done n 0 else u | none => u := by
    rw [persistRecordWriteOp, h.1, if_neg Bool.false_ne_true, h.2, hu] <;> dsimp only <;> cases j.cmd <;> rfl
  refine ⟨hop, ?_⟩
  rw [hop]
  split
  · split
    · exact State.finish_vlt ..
    · rfl
  · rfl

theorem AMap.find_map {α β : Type} (f : α → β) (k : Nat) (m : AMap α) : AMap.find k (m.map fun p => (p.1, f p.2)) = (AMap.find k m).map f := by
  induction m with
  | nil => rfl
  | cons q m ih =>
    obtain ⟨j, v⟩ := q
    rw [List.map_cons, AMap.find_cons, AMap.find_cons]
    split
    · rfl
    · exact ih

/-- A slot emptied of all but its generation. -/
def Slot.revoked (k : Slot) : Slot := { Slot.empty with gen := k.gen }

theorem entropyHealthFailOp_slots (s : State) : (entropyHealthFailOp s).vlt.slots = s.vlt.slots.map fun p => (p.1, Slot.revoked p.2) := by
  have hv : (((s.wr Reg.VLT_STATUS_SELFTEST_FAIL 1).wr Reg.VLT_STATUS_READY 0).fault Reg.VLT_FAULT_SELFTEST).vlt = s.vlt := State.fault_vlt ..
  rw [entropyHealthFailOp]
  dsimp only
  rw [hv]
  rfl

theorem entropyHealthFailOp_slot (s : State) (n : Nat) : (entropyHealthFailOp s).slot n = (s.slot n).revoked := by
  rw [State.slot, AMap.get, entropyHealthFailOp_slots, AMap.find_map, State.slot, AMap.get]
  cases AMap.find n s.vlt.slots <;> rfl

end Sys2Proof.Machine
end

section
/-! The host's commands of the Vault, settled (O52). -/

namespace Sys2Proof.Machine

/-! ## Lifecycle -/

/-- The modes a lifecycle change is taken in. -/
theorem State.lifeMode (s : State) : (!(s.mode == .hostedIdle || s.mode == .survey || s.mode == .faultSafe)) =
    decide (s.mode ≠ .hostedIdle ∧ s.mode ≠ .survey ∧ s.mode ≠ .faultSafe) := by
  cases s.mode <;> rfl

/-- The change of the lifecycle that a command asks for. -/
def lifeTransition (p : List Byte) (fed : Option (Nat × Nat)) : Transition :=
  ⟨byteAt p 1, if allZero (bytesAt p 32 96) then none else some (unle (bytesAt p 32 96)),
    if allZero (bytesAt p 128 96) then none else some (unle (bytesAt p 128 96)), fed⟩

/-- The format of a lifecycle command, before what its row carries. -/
def lifeHeadBad (p : List Byte) : Bool := byteAt p 0 != 1 || decide (byteAt p 1 > 5) || !allZero (bytesAt p 2 2) || !allZero (bytesAt p 20 12)

/-- The format of what a row of the transition table carries. -/
def lifeCarryBad (p : List Byte) : Option (Nat × Bool × Bool × Bool) → Bool
  | none => false
  | some (g, o, i, f) =>
    carryBad o (allZero (bytesAt p 32 96)) || carryBad i (allZero (bytesAt p 128 96)) || carryBad f (allZero (((p.drop 224).take 296).map BitVec.toNat))
      || carryBad (g != 0) (allZero (bytesAt p 520 96)) || (o && !Config.onCurve (bytesAt p 32 96)) || (i && !Config.onCurve (bytesAt p 128 96))
      || (f && envelopeBad ((p.drop 224).take 296))

/-- Whether a row carries a federation envelope. -/
def lifeFed : Option (Nat × Bool × Bool × Bool) → Bool
  | some (_, _, _, f) => f
  | none => false

/-- The signature that a row asks for. -/
def State.lifeSigned (s : State) (p : List Byte) : Option (Nat × Bool × Bool × Bool) → Bool
  | some (1, _, _, _) => s.ownerSigned (bytesAt p 0 520) (bytesAt p 520 96)
  | some (2, _, _, _) => Config.ecdsaVerify Config.serviceKey (bytesAt p 0 520) (bytesAt p 520 96)
  | _ => true

/-- The verdict on a lifecycle command of good format. -/
def State.lifeVerdict (s : State) (p : List Byte) (row : Option (Nat × Bool × Bool × Bool)) : Nat :=
  firstFail
    [(!(s.mode == .hostedIdle || s.mode == .survey || s.mode == .faultSafe), St.refusedMode),
      (row.isNone || leAt p 12 8 != Config.serial || (lifeFed row && leAt ((p.drop 224).take 296) 8 8 != Config.serial) ||
        decide (s.rd Reg.VLT_LIFECYCLE_LC_GEN > 31) || (decide (s.rd Reg.VLT_LIFECYCLE_LC_GEN = 31) && byteAt p 1 != 5), St.conflict),
      ((if lifeFed row && leAt ((p.drop 224).take 296) 16 8 != leAt p 4 8 then s.challenge + 1 else leAt p 4 8) != s.challenge, St.stale),
      (!(s.lifeSigned p row && (!lifeFed row || (if lifeFed row then s.envelopeRoot ((p.drop 224).take 296) else none).isSome)), St.authFail)]

theorem State.begun_lifeVerdict (s : State) (c : Cmd) (p : List Byte) (row : Option (Nat × Bool × Bool × Bool)) :
    (s.begun c).lifeVerdict p row = s.lifeVerdict p row := by
  have hsig : (s.begun c).lifeSigned p row = s.lifeSigned p row := by
    unfold State.lifeSigned
    split
    · exact State.begun_ownerSigned ..
    · rfl
    · rfl
  rw [State.lifeVerdict, State.begun_mode, State.begun_rd, State.begun_challenge, hsig, State.begun_envelopeRoot, State.lifeVerdict]

/-- A lifecycle command: its format, its verdict, then the change or the zeroising that precedes its record. -/
theorem lifecycleOp_of {s u : State} {c : Cmd} (p : List Byte) (e : Bool) {row : Option (Nat × Bool × Bool × Bool)} (ha : s.Accepts c .dataIn)
    (h : s.vaultShut = none ∧ c.desc.length.toNat = 616) (hu : u = State.newChallenge (s.begun c)) (hrow : lifecycleRow s.lifeRow (byteAt p 1) = row) :
    lifecycleOp c p e s = if (lifeHeadBad p || lifeCarryBad p row) = true then (s.begun c).finish c St.badFormat 616 0
      else if s.lifeVerdict p row = St.done then
        (fun (x : Transition) => (fun w : State => if e && !w.pwr.pfailLatched then ((w.changeLife x).finish c St.done 616 0).restart causeHost else w.zeroise)
          (State.wr { u with vlt := { u.vlt with trans := some x } } Reg.VLT_LIFECYCLE_TRANSITION 1))
          (lifeTransition p ((if lifeFed row then s.envelopeRoot ((p.drop 224).take 296) else none).map fun k => (k, leAt ((p.drop 224).take 296) 4 4)))
      else (if s.lifeVerdict p row = St.authFail then u.authBad else u).finish c (s.lifeVerdict p row) 616 0 := by
  rw [lifecycleOp, State.vaultCmd_of ha h]
  dsimp only
  rw [State.begun_lifeRow, hrow, ← State.begun_envelopeRoot s c, ← State.begun_lifeVerdict s c]
  exact State.signedCmd_of hu rfl _

/-- The same, with the verdict, the change and the state that keeps it named. -/
theorem lifecycleOp_named {s u w : State} {c : Cmd} {p : List Byte} {e b : Bool} {v : Nat} {x : Transition} {row : Option (Nat × Bool × Bool × Bool)}
    (ha : s.Accepts c .dataIn) (h : s.vaultShut = none ∧ c.desc.length.toNat = 616) (hu : u = State.newChallenge (s.begun c))
    (hrow : lifecycleRow s.lifeRow (byteAt p 1) = row) (hb : (lifeHeadBad p || lifeCarryBad p row) = b) (hv : v = s.lifeVerdict p row)
    (hx : x = lifeTransition p ((if lifeFed row then s.envelopeRoot ((p.drop 224).take 296) else none).map fun k => (k, leAt ((p.drop 224).take 296) 4 4)))
    (hw : w = State.wr { u with vlt := { u.vlt with trans := some x } } Reg.VLT_LIFECYCLE_TRANSITION 1) : lifecycleOp c p e s =
    if b = true then (s.begun c).finish c St.badFormat 616 0
    else if v = St.done then
      (if e = true ∧ w.pwr.pfailLatched = false then ((w.changeLife x).finish c St.done 616 0).restart causeHost else w.zeroise)
    else (if v = St.authFail then u.authBad else u).finish c v 616 0 := by
  rw [lifecycleOp_of p e ha h hu hrow, hb, ← hv, ← hx]
  refine if_congr Iff.rfl rfl (if_congr Iff.rfl ?_ rfl)
  dsimp only
  rw [← hw]
  exact if_congr (by rw [Bool.and_eq_true, Bool.not_eq_true']) rfl rfl

/-- A row without an envelope. -/
theorem State.lifeVerdict_plain (s : State) (p : List Byte) (g : Nat) (o i : Bool) : s.lifeVerdict p (some (g, o, i, false)) =
    firstFail [(decide (s.mode ≠ .hostedIdle ∧ s.mode ≠ .survey ∧ s.mode ≠ .faultSafe), St.refusedMode),
      (decide (leAt p 12 8 ≠ Config.serial ∨ 31 < s.rd Reg.VLT_LIFECYCLE_LC_GEN ∨ (s.rd Reg.VLT_LIFECYCLE_LC_GEN = 31 ∧ byteAt p 1 ≠ 5)), St.conflict),
      (leAt p 4 8 != s.challenge, St.stale),
      (!(match g with
        | 1 => s.ownerSigned (bytesAt p 0 520) (bytesAt p 520 96)
        | 2 => Config.ecdsaVerify Config.serviceKey (bytesAt p 0 520) (bytesAt p 520 96)
        | _ => true), St.authFail)] := by
  refine firstFail_four s.lifeMode ?_ rfl ?_ ..
  · rw [Bool.eq_iff_iff]
    simp [lifeFed, or_assoc]
  · rcases g with _ | _ | _ | g <;> simp [State.lifeSigned, lifeFed]

/-- The row with an envelope. -/
theorem State.lifeVerdict_fed {s : State} {p n : List Byte} (hn : n = (p.drop 224).take 296) (h5 : byteAt p 1 ≠ 5) :
    s.lifeVerdict p (some (1, true, true, true)) =
    firstFail [(decide (s.mode ≠ .hostedIdle ∧ s.mode ≠ .survey ∧ s.mode ≠ .faultSafe), St.refusedMode),
      (decide (leAt p 12 8 ≠ Config.serial ∨ leAt n 8 8 ≠ Config.serial ∨ 31 ≤ s.rd Reg.VLT_LIFECYCLE_LC_GEN), St.conflict),
      (decide (leAt n 16 8 ≠ leAt p 4 8 ∨ leAt p 4 8 ≠ s.challenge), St.stale),
      (!(s.ownerSigned (bytesAt p 0 520) (bytesAt p 520 96) && (s.envelopeRoot n).isSome), St.authFail)] := by
  subst hn
  refine firstFail_four s.lifeMode ?_ ?_ rfl ..
  · rw [Bool.eq_iff_iff]
    simp [lifeFed, h5]
    omega
  · rw [Bool.eq_iff_iff]
    by_cases hc : leAt ((p.drop 224).take 296) 16 8 = leAt p 4 8 <;> simp [lifeFed, hc]

/-- The table has no row with an envelope towards the end of life. -/
theorem lifecycleRow_fed {a b : Nat} (h : lifecycleRow a b = some (1, true, true, true)) : b ≠ 5 := by
  rintro rfl
  change (if a = 5 then none else if a = 3 ∨ a = 4 then some (2, false, false, false) else some (1, false, false, false)) = _ at h
  split at h
  · exact absurd h (by decide)
  · split at h <;> exact absurd h (by decide)

/-- Two records that wait, the second of them with the command it completes. -/
theorem State.persistLater_two (w : State) (i j : Nat) (a b : Option Nat) (x : Option (Cmd × Nat)) : w.persistLater [(i, a), (j, b)] x =
    { w with vlt := { w.vlt with jobs := w.vlt.jobs ++ [⟨i, a, none⟩, ⟨j, b, x⟩] } } := rfl

/-! ## The beacon's key -/

theorem firstFail_true (v : Nat) (l : List (Bool × Nat)) : firstFail ((true, v) :: l) = v := rfl

theorem firstFail_false (v : Nat) (l : List (Bool × Nat)) : firstFail ((false, v) :: l) = firstFail l := rfl

theorem beaconRekeyOp_of {s : State} {c : Cmd} {no sec : Nat} (ha : s.Accepts c .command) (h : s.vaultShut = none ∧ c.desc.length.toNat = 0)
    (hno : no = c.desc.p0.toNat ∧ sec = c.desc.p1.toNat + 4294967296 * bits c.desc.p2.toNat 0 16) : beaconRekeyOp c s =
    if bits c.desc.p2.toNat 16 16 ≠ 0 then (s.begun c).finish c St.badFormat 0 0
    else if s.follows then (s.begun c).finish c St.refusedMode 0 0
    else if sec * 1000000000 < (s.now.sec + 2) * 1000000000 + s.now.ns then (s.begun c).finish c St.stale 0 0
    else if s.mode.fleet then (s.begun c).epochInput c (.rekey no sec)
    else if s.rekeyStatus no = St.done then (s.begun c).rekeyAccept no sec (some (c, 0)) else (s.begun c).finish c (s.rekeyStatus no) 0 0 := by
  obtain ⟨rfl, rfl⟩ := hno
  rw [beaconRekeyOp, State.vaultCmd_of ha h, State.begun_follows, State.now, State.begun_tim, State.begun_mode]
  dsimp only
  rw [State.begun_rekeyStatus]
  rfl

theorem State.fillSite_jobs (s : State) (n k : Nat) (i : List Nat) : (s.fillSite n k i).vlt.jobs = s.vlt.jobs := by
  rw [State.fillSite]
  cases s.siteKey i <;> rfl

theorem entropyHealthFailOp_rd (s : State) (f : Fld) :
    (entropyHealthFailOp s).rd f = (((s.wr Reg.VLT_STATUS_SELFTEST_FAIL 1).wr Reg.VLT_STATUS_READY 0).fault Reg.VLT_FAULT_SELFTEST).rd f := rfl

/-- Settles O52: each command is its Vault check, its signed or plain verdict, then its effect on the slots and records. -/
theorem vaultCommands : Obligations.VaultCommands := by
  refine ⟨fun s c hup ha h => ?_, fun s c q hup ha h => ?_, fun s c hup ha h => ?_, fun s u w c p v hup ha h hu hv hw => ?_, fun s c q p hup ha h =>
    ?_, fun s c p hup ha h => ?_, fun s u c p v hup ha h hu hv => ?_, fun s c q p hup ha h => ?_, fun s c p hup ha h => ?_, fun s u w c p e o i
    b g v x hup ha h hu hrow hb hv hx => ?_, fun s u w c p n e b v x hup ha h hu hrow hb hv hx => ?_, fun s c p e hup ha h hrow => ?_, fun s c q
    p e hup ha h => ?_, fun s c p e hup ha h => ?_, fun s u c n hup ha h hn hu => ?_, fun s c hup ha h hp => ?_, fun s c hup ha h hn => ?_, fun
    s c n hup ha h hn => ?_, fun s c q hup ha h => ?_, fun s c hup ha h => ?_, fun s u c no sec hup ha h hno hok hl => ?_, fun s c no sec hup ha
    h hno hok => ?_, fun s c no sec v hup ha h hno hm hv => ?_, fun s c no sec hup ha h hno hok => ?_, fun s c q hup ha h => ?_, fun s c hup ha
    h => ?_, fun s no sec hup h => ?_, fun s hup h => ?_, fun s u j rest ok hup h hu => ?_, fun s j rest hup h => ?_, fun s ok hup h => ?_, fun
    s hup => ?_⟩ <;> refine Gives.of_main hup rfl ?_
  · rw [identityReadOp, State.vaultCmd_of ha h]
    refine ⟨?_, ?_, ?_⟩
    · rw [State.begun_identityKey, State.begun_challenge]
    · exact State.finishData_completed (by rw [List.length_append, List.length_map, List.length_range]; rfl)
    · rw [State.finishData_vlt, State.begun_vlt]
  · exact State.vaultCmd_shut ha h _ _
  · exact State.vaultCmd_length ha h _
  · rw [keyImportOp, State.vaultCmd_of ha h]
    dsimp only
    rw [State.begun_envelopeRoot, State.signedCmd_of hu (v := v)]
    · rw [← hw, State.persistLater_two]
    · rw [hv, State.begun_vaultBusyMode, State.begun_life, State.begun_challenge]
      refine firstFail_four rfl ?_ rfl (Option.not_isSome _).symm ..
      rw [Bool.eq_iff_iff]
      simp
  · exact State.vaultCmd_shut ha h _ _
  · exact State.vaultCmd_length ha h _
  · have hbad : (byteAt p 0 != 1 || (byteAt p 1 != 3 && byteAt p 1 != 4) || !allZero (bytesAt p 2 2) || !allZero (bytesAt p 20 12) ||
        !Config.onCurve (bytesAt p 32 96)) = true ↔ (byteAt p 0 ≠ 1 ∨ (byteAt p 1 ≠ 3 ∧ byteAt p 1 ≠ 4) ∨ allZero (bytesAt p 2 2) = false ∨
        allZero (bytesAt p 20 12) = false ∨ Config.onCurve (bytesAt p 32 96) = false) := by simp [or_assoc]
    rw [publicSetOp, State.vaultCmd_of ha h]
    dsimp only
    rw [State.begun_ownerSigned, State.signedCmd_of hu (v := v)]
    · exact if_congr hbad rfl rfl
    · rw [hv, State.begun_vaultBusyMode, State.begun_challenge]
  · exact State.vaultCmd_shut ha h _ _
  · exact State.vaultCmd_length ha h _
  · obtain ⟨hx, hw⟩ := hx
    have hbad : (lifeHeadBad p || lifeCarryBad p (some (g, o, i, false))) = b := by
      rw [hb, lifeHeadBad, lifeCarryBad]
      simp [carryBad, Bool.or_assoc, Bool.beq_comm]
    exact lifecycleOp_named ha h hu hrow hbad (hv.trans (State.lifeVerdict_plain ..).symm) hx hw
  · obtain ⟨hx, hw⟩ := hx
    obtain ⟨hrow, hn⟩ := hrow
    have hbad : (lifeHeadBad p || lifeCarryBad p (some (1, true, true, true))) = b := by
      rw [hb, hn, lifeHeadBad, lifeCarryBad]
      simp [carryBad, Bool.or_assoc]
    subst hn
    exact lifecycleOp_named ha h hu hrow hbad (hv.trans (State.lifeVerdict_fed rfl (lifecycleRow_fed hrow)).symm) hx hw
  · have hv : s.lifeVerdict p none = if s.mode ≠ .hostedIdle ∧ s.mode ≠ .survey ∧ s.mode ≠ .faultSafe then St.refusedMode else St.conflict := by
      rw [State.lifeVerdict, State.lifeMode]
      by_cases hm : s.mode ≠ .hostedIdle ∧ s.mode ≠ .survey ∧ s.mode ≠ .faultSafe
      · rw [if_pos hm, decide_eq_true hm]
        rfl
      · rw [if_neg hm, decide_eq_false hm]
        rfl
    have hne : ∀ v, v = St.done ∨ v = St.authFail → (if s.mode ≠ .hostedIdle ∧ s.mode ≠ .survey ∧ s.mode ≠ .faultSafe then St.refusedMode else St.conflict) ≠ v := by
      rintro v (rfl | rfl) <;> split <;> decide
    rw [lifecycleOp_of p e ha h rfl hrow, hv, if_neg (hne _ (.inl rfl)), if_neg (hne _ (.inr rfl)), lifeCarryBad, Bool.or_false]
    rfl
  · exact State.vaultCmd_shut ha h _ _
  · exact State.vaultCmd_length ha h _
  · obtain ⟨hp, h0, h10, hm, hg⟩ := hn
    obtain ⟨hlo, hhi⟩ := slotNumber_of hp h10
    have hop : keyRevokeOp c s = if n = 1 ∨ n = 3 ∨ n = 4 then u.persistLater [(n, none)] (some (c, 0)) else u.finish c St.done 0 0 := by
      rw [keyRevokeOp, State.vaultCmd_of ha h]
      dsimp only
      rw [hlo, hhi, State.begun_vaultBusyMode, hm, State.begun_slot, hu, if_neg (by omega), if_neg Bool.false_ne_true, if_neg hg.ne]
    have hslot : (keyRevokeOp c s).slot n = u.slot n := by
      rw [hop]
      split
      · rfl
      · exact State.finish_slot ..
    have hempty : u.slot n = { Slot.empty with gen := (s.slot n).gen + 1 } := by
      rw [hu, State.dropInvalid_empty _ _ (by rw [State.emptySlot_slot]; rfl), State.emptySlot_slot, State.nextGen, State.setSlot_slot, State.begun_slot]
      dsimp only
      rw [Nat.mod_eq_of_lt (by omega)]
    refine ⟨hop, ?_, ?_⟩
    · rw [hslot, hempty]
      rfl
    · rw [hslot, hempty]
  · rw [keyRevokeOp, State.vaultCmd_of ha h]
    exact if_pos (slotNumber_bad (BitVec.isLt _) hp)
  · obtain ⟨h0, h10, hm⟩ := hn
    obtain ⟨hlo, hhi⟩ := slotNumber_of rfl h10
    rw [keyRevokeOp, State.vaultCmd_of ha h]
    dsimp only
    rw [hlo, hhi, State.begun_vaultBusyMode, hm, if_neg (by omega), if_pos rfl]
  · obtain ⟨hp, h0, h10, hm, hg⟩ := hn
    obtain ⟨hlo, hhi⟩ := slotNumber_of hp h10
    rw [keyRevokeOp, State.vaultCmd_of ha h]
    dsimp only
    rw [hlo, hhi, State.begun_vaultBusyMode, hm, State.begun_slot, if_neg (by omega), if_neg Bool.false_ne_true, if_pos hg]
  · exact State.vaultCmd_shut ha h _ _
  · exact State.vaultCmd_length ha h _
  · obtain ⟨h16, hf, hm, ht⟩ := hok
    obtain ⟨hlater, hnone, hu⟩ := hl
    have hv : s.rekeyStatus no = St.done := by
      rw [State.rekeyStatus, hlater, hnone]
      rfl
    rw [beaconRekeyOp_of ha h hno, if_neg (not_not.mpr h16), hf, if_neg Bool.false_ne_true, if_neg (not_lt.mpr ht), hm, if_neg Bool.false_ne_true, if_pos hv]
    rw [State.rekeyAccept, ← hu, State.persistLater]
    have hj : u.vlt.jobs = s.vlt.jobs := by
      rw [hu, State.fillSite_jobs, State.begun_vlt]
    dsimp only
    rw [hj]
    rfl
  · obtain ⟨h16, hm, ht⟩ := hok
    rw [beaconRekeyOp_of ha h hno, if_neg (not_not.mpr h16), (State.commits_of_fleet hm).1, if_neg Bool.false_ne_true, if_neg (not_lt.mpr ht)]
    exact if_pos hm
  · obtain ⟨hv, hne⟩ := hv
    rw [beaconRekeyOp_of ha h hno]
    by_cases h16 : bits c.desc.p2.toNat 16 16 ≠ 0
    · rw [if_pos h16, hv, bne_iff_ne.mpr h16, firstFail_true]
    rw [if_neg h16]
    rw [not_not.mp h16, bne_self_eq_false, firstFail_false] at hv
    by_cases hf : s.follows = true
    · rw [if_pos hf, hv, hf, firstFail_true]
    rw [Bool.not_eq_true] at hf
    rw [hf, firstFail_false] at hv
    rw [hf, if_neg Bool.false_ne_true]
    by_cases ht : sec * 1000000000 < (s.now.sec + 2) * 1000000000 + s.now.ns
    · rw [if_pos ht, hv, decide_eq_true ht, firstFail_true]
    rw [decide_eq_false ht, firstFail_false, ← State.rekeyStatus] at hv
    rw [if_neg ht, hm, if_neg Bool.false_ne_true, ← hv, if_neg hne]
  · obtain ⟨hm, hbad⟩ := hok
    rw [beaconRekeyOp_of ha h hno]
    by_cases h16 : bits c.desc.p2.toNat 16 16 ≠ 0
    · rw [if_pos h16, if_pos h16]
    · rw [if_neg h16, if_neg h16, (State.commits_of_fleet hm).1, if_neg Bool.false_ne_true]
      exact if_pos (hbad.resolve_left h16)
  · exact State.vaultCmd_shut ha h _ _
  · exact State.vaultCmd_length ha h _
  · rw [beaconKeyActivateOp, h.1]
    dsimp only
    rw [if_neg (not_lt.mpr h.2)]
    refine ⟨?_, ?_, rfl, rfl⟩
    · exact (State.setSlot_slot_ne (by decide) ..).trans (State.setSlot_slot ..)
    · exact congrArg Slot.kind (State.setSlot_slot ..)
  · rw [beaconKeyActivateOp]
    cases hk : s.vlt.rekey with
    | none => rfl
    | some x =>
      rw [hk] at h
      exact if_pos (of_decide_eq_true h)
  · obtain ⟨hop, hvlt⟩ := persistRecordWriteOp_of h hu
    obtain ⟨hj, hs⟩ := State.persistPut_vlt { s with vlt := { s.vlt with jobs := rest } } j.record j.item ok
    refine ⟨?_, ?_, ?_⟩
    · rw [hop] <;> cases j.cmd <;> rfl
    · rw [hvlt, hu]
      exact hj
    · rw [hvlt, hu]
      exact hs
  · rw [State.persist, (persistRecordWriteOp_of h rfl).2]
    exact State.persistPut_persist ..
  · rw [persistRecordWriteOp]
    rcases h with h | h
    · exact if_pos h
    · rw [h]
      exact ite_self _
  · refine ⟨fun n => ?_, ?_, ?_⟩
    · rw [entropyHealthFailOp_slot]
      exact ⟨rfl, rfl⟩
    · rw [entropyHealthFailOp_rd, State.rd_fault_ne (by decide) (by decide), State.rd_wr_ne (by decide), State.rd_wr_same]
      rfl
    · rw [entropyHealthFailOp_rd, State.rd_fault_ne (by decide) (by decide), State.rd_wr_same]
      rfl

end Sys2Proof.Machine
end

section
/-! Activation, trial and fallback of an image (O49). -/

namespace Sys2Proof.Machine

/-! ## Entering UPDATE -/

/-- A passage into UPDATE from a mode that is no fleet mode. -/
theorem State.enterMode_update {s : State} (hp : s.pwr.pfailLatched = false) (hm : s.mode.fleet = false) : s.enterMode .update = (s.enter .update).showCaster := by
  have hmode : (s.enter .update).mode = .update := State.enter_mode ..
  have hcor : (s.enter .update).corMode = (s.enter .update).showCaster := by
    rw [State.corMode, if_neg (by rw [hmode]; decide)]
  rw [State.enterMode, hp, if_neg Bool.false_ne_true, hm, hcor]
  rfl

theorem State.signal_withUpd (s : State) (x : Upd) (v : Nat) : State.signal { s with upd := x } v = { s.signal v with upd := x } := by
  have hon : State.on { s with upd := x } (Reg.MSIX_MASK v) = s.on (Reg.MSIX_MASK v) := rfl
  have hgap : ((State.vec { s with upd := x } v).inGap && v != 1 || !State.busOpen { s with upd := x }) = ((s.vec v).inGap && v != 1 || !s.busOpen) := rfl
  rw [State.signal, State.signal, hon, hgap]
  split
  · rfl
  · split <;> rfl

/-- The passage into UPDATE reads nothing of the update's own record. -/
theorem State.enterMode_update_upd {s : State} (hp : s.pwr.pfailLatched = false) (hm : s.mode.fleet = false) (x : Upd) :
    State.enterMode { s with upd := x } .update = { s.enterMode .update with upd := x } := by
  have henter : State.enter { s with upd := x } .update = { s.enter .update with upd := x } :=
    State.signal_withUpd { s with prev := s.mode, mode := .update } x 0
  rw [State.enterMode_update (s := { s with upd := x }) hp hm, State.enterMode_update hp hm, henter]
  rfl

/-! ## UPD_CTRL -/

theorem State.showUpd_rd (s : State) {f : Fld} (h4 : (0x1000000000000000 : Nat).testBit (40 + f.blk) = false) : s.showUpd.rd f = s.rd f :=
  State.showUpd_only (π := fun u => u.rd f) (unseen_rd (by decide) h4) s

theorem State.updCtrl_of {s : State} {b : Bool} (h : b = true) (body : State → State) :
    s.updCtrl true b body = (body s).showUpd.wr Reg.UPD_CTRL_RESULT St.done := by
  rw [State.updCtrl, h]
  rfl

theorem State.updCtrl_conflict {s : State} {b : Bool} (h : b = false) (body : State → State) : s.updCtrl true b body = s.wr Reg.UPD_CTRL_RESULT St.conflict := by
  rw [State.updCtrl, h]
  rfl

/-- What shows after an UPD_CTRL operation that applies. -/
theorem State.updCtrl_shown (u : State) : (u.showUpd.wr Reg.UPD_CTRL_RESULT St.done).nvm = u.nvm ∧
    (u.showUpd.wr Reg.UPD_CTRL_RESULT St.done).rd Reg.UPD_CTRL_RESULT = St.done :=
  ⟨by rw [State.wr_nvm, State.showUpd_nvm], State.rd_wr_same ..⟩

/-! ## Schedule -/

/-- The verdict on a SCHEDULE. -/
def State.scheduleVerdict (s : State) (c : Cmd) : Nat :=
  firstFail
    [(c.desc.length != 0, St.badLength), (bits c.desc.p1.toNat 16 16 != 0, St.badFormat), (s.nvm.boot.loft != .ready && s.nvm.boot.loft != .scheduled, St.conflict),
      (s.nvm.boot.lock, St.refusedLock),
      (decide ((c.desc.p0.toNat + 4294967296 * bits c.desc.p1.toNat 0 16) * 1000000000 < (s.now.sec + 10) * 1000000000 + s.now.ns), St.stale),
      (s.mode == .update, St.busy)]

theorem scheduleOp_of {s : State} {c : Cmd} {v n : Nat} (ha : s.Accepts c .command) (hv : s.scheduleVerdict c = v)
    (hn : n = c.desc.p0.toNat + 4294967296 * bits c.desc.p1.toNat 0 16) : scheduleOp c s =
    if v = St.done then (((s.begun c).setBoot { s.nvm.boot with loft := .scheduled, actSec := n }).finish c v 0 0).showUpd else (s.begun c).finish c v 0 0 := by
  have hbegun : (s.begun c).scheduleVerdict c = v := by
    rw [State.scheduleVerdict, State.begun_nvm, State.now, State.begun_tim, State.begun_mode]
    exact hv
  subst hn
  rw [scheduleOp, State.hostCmd_accepts ha, State.begun_nvm]
  dsimp only
  rw [← State.begun_nvm s c, ← State.scheduleVerdict, hbegun]

/-! ## Activation -/

/-- Where a scheduled image may be taken up: its second has come, DEFER_MAX has not passed, no UPDATE runs and PFAIL is not handled. -/
theorem activationTestOp_due {s u : State} (hu : u = s.wholeSecond) (hp : u.pwr.pfailLatched = false) (hm : u.mode ≠ .update)
    (h : u.nvm.boot.loft = .scheduled ∧ u.nvm.boot.actSec ≤ u.now.sec ∧ u.now.sec ≤ u.nvm.boot.actSec + u.rd Reg.UPD_CFG_DEFER_MAX) {r : Nat}
    (hr : r = if u.mode = .hostedIdle ∨ u.mode = .fleetHold then u.parkReason else 1) : activationTestOp s =
    if r ≠ 0 ∨ (u.wr Reg.UPD_STATUS_DEFER_REASON r).pwr.pdown.isSome ∨ (u.wr Reg.UPD_STATUS_DEFER_REASON r).pwr.pfailLatched then
      u.wr Reg.UPD_STATUS_DEFER_REASON r
    else (fun w : State => { w.enterMode .update with upd := { w.upd with entered := w.now.sec } })
      (if (u.wr Reg.UPD_STATUS_DEFER_REASON r).mode = .fleetHold then
        (State.leaveCommitting (u.wr Reg.UPD_STATUS_DEFER_REASON r)).wr Reg.TRP_HOLD_CAUSE_IDLE 1
      else u.wr Reg.UPD_STATUS_DEFER_REASON r) := by
  obtain ⟨hl, ha, hd⟩ := h
  rw [activationTestOp, ← hu, hp, if_neg Bool.false_ne_true, if_neg hm, if_neg, if_neg (not_lt.mpr hd), ← hr]
  exact fun h => h.elim (fun h => h hl) fun h => absurd ha (not_le.mpr h)

theorem activationDeferExpireOp_of {s : State} (h : s.nvm.boot.loft = .scheduled ∧ s.mode ≠ .update ∧ s.nvm.boot.actSec + s.rd Reg.UPD_CFG_DEFER_MAX ≤ s.now.sec) :
    activationDeferExpireOp s =
    State.showUpd ((State.wr (s.setBoot { s.nvm.boot with loft := .ready }) Reg.UPD_STATUS_DEFER_REASON 0).fault Reg.UPD_FAULT_DEFER_EXPIRED) := if_pos h

theorem State.abandonUpdate_eq (s : State) : s.abandonUpdate = (s.enterMode .hostedIdle).releaseAll none := rfl

/-! ## Fallback -/

theorem State.restart_nvm (s : State) (c : Nat) : (s.restart c).nvm = s.nvm := State.restart_only (π := State.nvm) (unseen_nvm (by decide)) s c

theorem State.restart_mode {s : State} (h : s.pwr.pfailLatched = false) (c : Nat) : (s.restart c).mode = .boot := by
  rw [State.restart_eq h]

/-- A fallback outside PFAIL handling: the slot failed, the unit in BOOT. -/
theorem State.fallBack_effect {s : State} (h : s.pwr.pfailLatched = false) :
    s.fallBack.nvm.boot.loft = .failed ∧ s.fallBack.nvm.boot.fellBack = true ∧ s.fallBack.mode = .boot := by
  have hpwr : (((((s.setBoot { s.nvm.boot with loft := .failed, fellBack := true }).fault Reg.UPD_FAULT_FALLBACK).bump Reg.UPD_FALLBACKS
    Reg.UPD_FAULT_CNT_SAT).showUpd).pwr).pfailLatched = false := by
    rw [State.showUpd_only (π := State.pwr) (unseen_pwr (by decide)), State.bump_pwr, State.fault_pwr]
    exact h
  rw [State.fallBack, h, if_neg Bool.false_ne_true]
  refine ⟨?_, ?_, State.restart_mode hpwr _⟩
  · rw [State.restart_nvm, State.showUpd_nvm, State.bump_nvm, State.fault_nvm]
    rfl
  · rw [State.restart_nvm, State.showUpd_nvm, State.bump_nvm, State.fault_nvm]
    rfl

/-- Whether an area holds settings of this lifecycle generation. -/
def State.areaTaken (s : State) (a : SettingsArea) : Bool := a.good && a.lcGen == s.rd Reg.VLT_LIFECYCLE_LC_GEN

theorem settingsMigrateOp_of {s : State} {h : ImgHdr} (ok : Bool)
    (hs : s.nvm.boot.hdr = some h ∧ s.on Reg.UPD_STATUS_TRIAL = true ∧ s.upd.migrated = false ∧ s.mode = .boot) {a : SettingsArea}
    (ha : a = s.areaAt s.nvm.boot.curArea) {b : Bool} (hb : s.areaTaken a = b) : settingsMigrateOp ok s =
    if b && (decide (a.schema < h.schemaFrom ∨ a.schema > h.schema) || !ok) then (s.fault Reg.UPD_FAULT_MIGRATE_FAIL).fallBack
    else (fun u : State => { u with pwr := { u.pwr with aonFresh := false } })
      (if b then (State.storeWith { s with upd := { s.upd with migrated := true } } fun _ => a).takeArea a
        else State.storeWith { s with upd := { s.upd with migrated := true } } fun (x : SettingsArea) => x) := by
  obtain ⟨hh, ht, hm, hmode⟩ := hs
  subst hb ha
  rw [settingsMigrateOp, hh]
  dsimp only
  exact if_neg (by rw [ht, hm, hmode]; simp)

/-! ## The UPD commit -/

/-- The fields of the UPD group. -/
def updGroupFields : List Fld :=
  [Reg.UPD_CFG_DEFER_MAX, Reg.UPD_CFG_BATT_RULE, Reg.UPD_CFG_BATT_EN, Reg.UPD_CFG_CONFIRM_HOST, Reg.UPD_CFG_TRIAL_BOOTS,
    Reg.UPD_CFG_SESSION_IDLE, Reg.UPD_NET_PORT, Reg.UPD_NET_FED_EN]

theorem updCommitOp_of {s u : State} {v : Nat} {b : Bool} (hb : decide (s.sh Reg.UPD_CFG_DEFER_MAX < 60 ∨ s.sh Reg.UPD_CFG_TRIAL_BOOTS = 0 ∨
    s.sh Reg.UPD_CFG_SESSION_IDLE = 0 ∨ s.sh Reg.UPD_NET_PORT = 0) = b) (hv : v = if b then St.badFormat else St.done)
    (hu : u = s.commit Reg.UPD_COMMIT_RESULT updGroupFields v) :
    updCommitOp s = { u with upd := { u.upd with conns := if u.on Reg.UPD_NET_FED_EN then u.upd.conns else [] } } := by
  subst hb hu hv
  by_cases hf : (s.commit Reg.UPD_COMMIT_RESULT updGroupFields (if decide (s.sh Reg.UPD_CFG_DEFER_MAX < 60 ∨ s.sh Reg.UPD_CFG_TRIAL_BOOTS = 0 ∨
    s.sh Reg.UPD_CFG_SESSION_IDLE = 0 ∨ s.sh Reg.UPD_NET_PORT = 0) then St.badFormat else St.done)).on Reg.UPD_NET_FED_EN = true
  · rw [if_pos hf]
    exact if_pos hf
  · rw [if_neg hf]
    exact if_neg hf

theorem updCommitOp_rd {s u : State} {v : Nat} {b : Bool} (hb : decide (s.sh Reg.UPD_CFG_DEFER_MAX < 60 ∨ s.sh Reg.UPD_CFG_TRIAL_BOOTS = 0 ∨
    s.sh Reg.UPD_CFG_SESSION_IDLE = 0 ∨ s.sh Reg.UPD_NET_PORT = 0) = b) (hv : v = if b then St.badFormat else St.done)
    (hu : u = s.commit Reg.UPD_COMMIT_RESULT updGroupFields v) (f : Fld) : (updCommitOp s).rd f = u.rd f := by
  rw [updCommitOp_of hb hv hu]
  rfl

/-- The trial's own bit is none of those an update's record shows in. -/
theorem State.showUpd_trial (s : State) : s.showUpd.rd Reg.UPD_STATUS_TRIAL = s.rd Reg.UPD_STATUS_TRIAL := by
  refine State.rd_wrEach_ne _ (fun p hp => ?_) s
  simp only [List.mem_cons, List.not_mem_nil, or_false] at hp
  rcases hp with rfl | rfl | rfl | rfl | rfl | rfl | rfl | rfl | rfl | rfl | rfl | rfl | rfl <;> dsimp only <;> decide

/-- Dropping the chunks ends the session. -/
theorem State.discardChunks_session (s : State) : s.discardChunks.nvm.session = { s.nvm.session with chunks := [], isOpen := false } := by
  rw [State.discardChunks]
  dsimp only
  split
  · rfl
  · rw [State.bumpBy_nvm]
    rfl

/-- Settles O49: each command is its branch; what it leaves of the boot record is carried through the Tally flush and the restart by what they may touch. -/
theorem updateActivation : Obligations.UpdateActivation := by
  refine ⟨fun s c n hup ha h hn => ?_, fun s c n v hup ha hn hv => ?_, fun s u hup hu h hr => ?_, fun s u w hup hu h hr hw => ?_, fun s u r hup hu h
    hr => ?_, fun s u hup hu h => ?_, fun s u hup hu => ?_, fun s u hup hu h => ?_, fun s hup h => ?_, fun s u d hup h hu => ?_, fun s h a ok
    hup hs ha hbad hp => ?_, fun s u h a hup hs ha hr hu => ?_, fun s u h ok hup hs hv hu => ?_, fun s h hup hs hm => ?_, fun s u hup h => ?_,
    fun s hup h => ?_, fun s hup => ?_, fun s hup => ?_, fun s hup h => ?_, fun s hup h => ?_, fun s hup h => ?_, fun s hup h => ?_, fun s hup h
    => ?_, fun s u hup h hu => ?_, fun s n hup h => ?_, fun s hup h => ?_, fun s hup => ?_, fun s hup => ?_, fun s hup => ?_, fun s hup => ?_,
    fun s hup => ?_, fun s u hup h hu => ?_, fun s hup h => ?_⟩ <;> refine Gives.of_main hup rfl ?_
  · obtain ⟨hlen, h16, hloft, hlock, hm⟩ := h
    obtain ⟨hn, ht⟩ := hn
    have hv : s.scheduleVerdict c = St.done := by
      have hl : (s.nvm.boot.loft != .ready && s.nvm.boot.loft != .scheduled) = false := by rcases hloft with h | h <;> rw [h] <;> rfl
      have hmode : (s.mode == .update) = false := beq_eq_false_iff_ne.mpr hm
      rw [State.scheduleVerdict, hlen, h16, hl, hlock, hmode, ← hn, decide_eq_false (not_lt.mpr ht)]
      rfl
    rw [scheduleOp_of ha hv hn, if_pos rfl]
    refine ⟨rfl, ?_, ?_⟩
    · rw [State.showUpd_nvm, State.finish_nvm]
      rfl
    · rw [State.Completed, State.showUpd_only (π := State.hre) (unseen_hre (by decide))]
      exact State.finish_completed ..
  · obtain ⟨hv, hne⟩ := hv
    have hver : s.scheduleVerdict c = v := by
      rw [hv, hn, State.scheduleVerdict]
      simp only [firstFail, bne_iff_ne, Bool.and_eq_true, decide_eq_true_eq, beq_iff_eq]
    rw [scheduleOp_of ha hver hn, if_neg hne]
  · obtain ⟨hu, hm⟩ := hu
    obtain ⟨hr, hd, hp⟩ := hr
    have hr0 : 0 = if u.mode = .hostedIdle ∨ u.mode = .fleetHold then u.parkReason else 1 := by rw [if_pos (.inl hm), hr]
    have hop : activationTestOp s = State.enterMode { u.wr Reg.UPD_STATUS_DEFER_REASON 0 with upd := { u.upd with entered := u.now.sec } } .update := by
      rw [activationTestOp_due hu hp (by rw [hm]; decide) h hr0, State.wr_pwr, State.wr_mode, hd, hp, if_neg (by simp), hm, if_neg (by decide)]
      exact (State.enterMode_update_upd (s := u.wr Reg.UPD_STATUS_DEFER_REASON 0) hp (by rw [State.wr_mode, hm]; rfl) _).symm
    rw [hop]
    exact ⟨rfl, State.enterMode_mode (s := { u.wr Reg.UPD_STATUS_DEFER_REASON 0 with upd := { u.upd with entered := u.now.sec } }) hp _⟩
  · obtain ⟨hu, hm⟩ := hu
    obtain ⟨hr, hd, hp⟩ := hr
    have hr0 : 0 = if u.mode = .hostedIdle ∨ u.mode = .fleetHold then u.parkReason else 1 := by rw [if_pos (.inr hm), hr]
    rw [activationTestOp_due hu hp (by rw [hm]; decide) h hr0, State.wr_pwr, State.wr_mode, hd, hp, if_neg (by simp), if_pos hm, ← hw]
  · obtain ⟨hu, hm, hp⟩ := hu
    rw [activationTestOp_due hu hp hm h hr.1]
    exact if_pos (.inl hr.2)
  · obtain ⟨hu, hm, hp⟩ := hu
    obtain ⟨hl, hd⟩ := h
    rw [activationTestOp, ← hu, hp, if_neg Bool.false_ne_true, if_neg hm, if_neg, if_pos hd]
    · exact activationDeferExpireOp_of ⟨hl, hm, hd.le⟩
    · exact fun h => h.elim (fun h => h hl) fun h => by omega
  · obtain ⟨hu, hm, hp, hr⟩ := hu
    rw [activationTestOp, ← hu, hp, if_neg Bool.false_ne_true, if_pos hm]
    exact if_neg hr
  · obtain ⟨hu, hm⟩ := hu
    rw [activationTestOp, ← hu, if_neg hm, if_pos h]
    exact ite_self _
  · rw [activationDeferExpireOp_of h]
    refine ⟨rfl, ?_, ?_⟩
    · rw [State.showUpd_nvm, State.fault_nvm]
      rfl
    · rw [State.showUpd_only (π := State.mode) (unseen_mode (by decide)), State.fault_mode]
      rfl
  · have hop : activationCommitOp d.toNat s = (flushCompleteOp none d.toNat (flushCommitPointOp (flushStartOp u))).restart causeUpdate := by
      obtain ⟨hm, hl, hp⟩ := h
      rw [activationCommitOp]
      refine (if_neg ?_).trans (by rw [hu])
      rw [hm, hl, hp]
      decide
    have hpart {β : Type} {π : State → β} (hU : Unseen 0x20000a0080000620 π) : π (flushCompleteOp none d.toNat (flushCommitPointOp (flushStartOp u))) = π u := by
      rw [flushCompleteOp_only hU, flushCommitPointOp_only (hU.mono (by decide)), flushStartOp_only (hU.mono (by decide))]
    have hnvm : u.nvm.boot = { s.nvm.boot with loft := .trial, trialCount := 0 } := by
      rw [hu, State.flushFor_only (π := State.nvm) (unseen_nvm (by decide)), State.showUpd_nvm]
      rfl
    have hpwr : u.pwr = s.pwr := by
      rw [hu, State.flushFor_only (π := State.pwr) (unseen_pwr (by decide)), State.showUpd_only (π := State.pwr) (unseen_pwr (by decide))]
      exact State.advance_only (π := State.pwr) (unseen_pwr (by decide)) ..
    rw [hop]
    refine ⟨rfl, ?_, ?_, State.restart_mode (by rw [hpart (π := State.pwr) (unseen_pwr (by decide)), hpwr]; exact h.2.2) _⟩
    · rw [State.restart_nvm, hpart (π := State.nvm) (unseen_nvm (by decide)), hnvm]
    · rw [State.restart_nvm, hpart (π := State.nvm) (unseen_nvm (by decide)), hnvm]
  · obtain ⟨ha, hg, hlc⟩ := ha
    have hop : settingsMigrateOp ok s = State.fallBack (s.fault Reg.UPD_FAULT_MIGRATE_FAIL) := by
      rw [settingsMigrateOp_of ok hs ha (b := true) (by rw [State.areaTaken, hg, hlc]; simp)]
      refine if_pos ?_
      rcases hbad with h | h | h
      · rw [decide_eq_true (.inl h)]; rfl
      · rw [decide_eq_true (.inr h)]; rfl
      · rw [h, Bool.not_false, Bool.or_true]; rfl
    have hf : (s.fault Reg.UPD_FAULT_MIGRATE_FAIL).pwr.pfailLatched = false := by rw [State.fault_pwr, hp]
    rw [hop]
    exact ⟨rfl, State.fallBack_effect hf⟩
  · obtain ⟨ha, hg, hlc⟩ := ha
    rw [settingsMigrateOp_of true hs ha (b := true) (by rw [State.areaTaken, hg, hlc]; simp), hu]
    refine (if_neg ?_).trans (by rw [if_pos rfl])
    rw [decide_eq_false (by omega)]
    decide
  · rw [settingsMigrateOp_of ok hs rfl (b := false) hv, hu]
    exact (if_neg (by rw [Bool.false_and]; exact Bool.false_ne_true)).trans (by rw [if_neg Bool.false_ne_true])
  · obtain ⟨hh, ht, hb, hv⟩ := hs
    obtain ⟨hmig, hcore, hok⟩ := hm
    have hok' : (!s.on Reg.UPD_CFG_CONFIRM_HOST || s.upd.hostOk) = true := by
      rcases hok with h | h <;> rw [h]
      · rfl
      · exact Bool.or_true _
    rw [trialConfirmOp, hh]
    dsimp only
    rw [ht, hb, hv, hmig, hcore, hok', if_pos (by decide)]
    refine ⟨?_, ?_, ?_, ?_⟩
    · rw [State.showUpd_nvm]
      rfl
    · rw [State.showUpd_nvm]
      rfl
    · rw [State.showUpd_nvm]
      rfl
    · rw [State.showUpd_trial, State.event_rd, State.rd_wr_same]
      rfl
  · obtain ⟨ht, hu, hp⟩ := h
    have hop : trialTimeoutOp s = u.fallBack := by
      rw [hu]
      exact if_pos ht
    rw [hop]
    exact ⟨rfl, State.fallBack_effect hp⟩
  · exact if_neg (by rw [h]; exact Bool.false_ne_true)
  · obtain ⟨hn, hr⟩ := State.updCtrl_shown (s.setBoot { s.nvm.boot with lock := true })
    exact ⟨rfl, congrArg Nvm.boot hn, hr⟩
  · obtain ⟨hn, hr⟩ := State.updCtrl_shown (s.setBoot { s.nvm.boot with lock := false })
    exact ⟨rfl, congrArg Nvm.boot hn, hr⟩
  · obtain ⟨hl, hm⟩ := h
    obtain ⟨hn, hr⟩ := State.updCtrl_shown (State.wr (s.setBoot { s.nvm.boot with loft := .ready }) Reg.UPD_STATUS_DEFER_REASON 0)
    rw [cancelOp, State.updCtrl_of (by rw [hl]; rfl), if_neg hm]
    exact ⟨rfl, congrArg Nvm.boot hn, hr⟩
  · obtain ⟨hl, hm, hp⟩ := h
    rw [cancelOp, State.updCtrl_of (by rw [hl]; rfl), if_pos hm, State.unlessPfail, hp, if_neg Bool.false_ne_true, State.abandonUpdate]
  · exact State.updCtrl_conflict (beq_eq_false_iff_ne.mpr h) _
  · obtain ⟨hn, hr⟩ := State.updCtrl_shown { s with upd := { s.upd with hostOk := true } }
    rw [hostOkOp, State.updCtrl_of h]
    refine ⟨rfl, ?_, hr⟩
    rw [State.wr_upd, State.showUpd_only (π := State.upd) (unseen_upd (by decide))]
  · exact State.updCtrl_conflict h _
  · obtain ⟨hn, hr⟩ := State.updCtrl_shown u
    have hop : updateClearOp true s = u.showUpd.wr Reg.UPD_CTRL_RESULT St.done := by
      rw [updateClearOp, State.updCtrl_of (by rw [decide_eq_true h]; rfl), hu]
      dsimp only
      rw [if_pos h]
    have hs : u.nvm.session = { s.nvm.session with chunks := [], isOpen := false } := by
      rw [hu]
      exact State.discardChunks_session _
    rw [hop, hn, hs]
    refine ⟨rfl, ?_, rfl, rfl⟩
    rw [hu]
    rfl
  · obtain ⟨hf, hr, hb⟩ := h
    rw [updateClearOp, State.updCtrl_of (by rw [hb, Option.isSome_some, Bool.or_true])]
    dsimp only
    rw [if_neg (not_or.mpr ⟨hf, hr⟩)]
  · obtain ⟨hf, hr, hb⟩ := h
    rw [updateClearOp, State.updCtrl_conflict (by rw [decide_eq_false (not_or.mpr ⟨hf, hr⟩), hb]; rfl)]
  · rfl
  · rfl
  · rfl
  · rfl
  · rfl
  · obtain ⟨h1, h2, h3, h4⟩ := h
    have hop := updCommitOp_of (decide_eq_false (by omega)) rfl hu
    have hrd := updCommitOp_rd (decide_eq_false (by omega)) rfl hu
    refine ⟨hop, ?_, ?_, ?_, ?_⟩
    · rw [hrd, hu]
      exact State.commit_result ..
    · rw [hrd, hu]
      exact State.commit_live updGroupFields (by decide) (by decide) (by decide) s
    · rw [hrd, hu]
      exact State.commit_live updGroupFields (by decide) (by decide) (by decide) s
    · rw [hrd, hu]
      exact State.commit_live updGroupFields (by decide) (by decide) (by decide) s
  · have hrd := updCommitOp_rd (decide_eq_true h) rfl rfl
    refine ⟨?_, ?_, ?_⟩
    · rw [hrd]
      exact State.commit_result ..
    · rw [hrd]
      exact State.rd_wr_ne (by decide) ..
    · rw [hrd]
      exact State.rd_wr_ne (by decide) ..

end Sys2Proof.Machine
end

section
/-! Each step of a rejoin (O57). -/

namespace Sys2Proof.Machine

/-! ## What a frame sent over the link leaves -/

/-- A part of the twin's own state that no frame changes. -/
def Unsent {β : Type} (g : Twn → β) : Prop := ∀ (w : Twn) x y t q, g { w with xseq := x, sent := y, tx := t, txSeq := q } = g w

theorem State.linkPut_twn {β : Type} {g : Twn → β} (hg : Unsent g) (s : State) (t : Nat) (p : List Nat) : g (s.linkPut t p).twn = g s.twn := by
  have hc : ((s.linkOut s.twn.txSeq t p).linkChute 18 t p.length).twn = (s.linkOut s.twn.txSeq t p).twn :=
    State.linkChute_only (π := State.twn) (unseen_twn (by decide)) ..
  rw [State.linkPut]
  dsimp only
  rw [hc]
  exact hg s.twn (s.twn.xseq + 1) (s.twn.sent ++ (s.linkWire s.twn.txSeq t p).toList) (s.twn.tx ++ [(t, p)]) ((s.twn.txSeq + 1) % 4294967296)

theorem State.linkSend_twn {β : Type} {g : Twn → β} (hg : Unsent g) (s : State) (t : Nat) (p : List Nat) : g (s.linkSend t p).twn = g s.twn := by
  rw [State.linkSend]
  split
  · rfl
  · exact State.linkPut_twn hg s t p

theorem State.linkSend_rd (s : State) (t : Nat) (p : List Nat) (f : Fld) : (s.linkSend t p).rd f = s.rd f :=
  State.linkSend_only (π := fun u => u.rd f) (unseen_rd (by decide) (Nat.testBit_lt_two_pow (lt_of_lt_of_le (b := 2 ^ 40) (by decide)
    (Nat.pow_le_pow_right (by decide) (Nat.le_add_right _ _))))) s t p

theorem State.linkSend_mode (s : State) (t : Nat) (p : List Nat) : (s.linkSend t p).mode = s.mode :=
  State.linkSend_only (π := State.mode) (unseen_mode (by decide)) s t p

theorem State.linkSend_epo (s : State) (t : Nat) (p : List Nat) : (s.linkSend t p).epo = s.epo :=
  State.linkSend_only (π := State.epo) (unseen_epo (by decide)) s t p

theorem unsent_parts : Unsent Twn.parts := fun _ _ _ _ _ => rfl

theorem unsent_retries : Unsent Twn.retries := fun _ _ _ _ _ => rfl

theorem State.linkSplit_twn {β : Type} {g : Twn → β} (hg : Unsent g) (t : Nat) (h : List Nat) (n : Nat) (l : List Nat) (s : State) :
    g (s.linkSplit t h n l).twn = g s.twn := by
  induction n generalizing s l with
  | zero => rfl
  | succ n ih =>
    rw [State.linkSplit]
    split
    · exact State.linkSend_twn hg ..
    · rw [ih]
      exact State.linkSend_twn hg ..

/-! ## The end of an epoch -/

theorem State.abandonEpoch_opened (s : State) : s.abandonEpoch.epo.opened = false := by
  rw [State.abandonEpoch]
  by_cases ho : s.epo.opened = true
  · rw [ho]
    rfl
  · rw [Bool.not_eq_true] at ho
    rw [ho]
    exact ho

theorem State.abandonEpoch_retries (s : State) : s.abandonEpoch.twn.retries = s.twn.retries := by
  rw [State.abandonEpoch]
  by_cases ho : s.epo.opened = true
  · rw [ho, if_neg (by decide)]
    dsimp only
    have ha : State.twn (if s.epo.prepared = true then { s.trkAbandon.govAbandon with zyp := { s.zyp with ops := s.zyp.ops0 } } else s) = s.twn := by
      split
      · exact (State.govAbandon_only (π := State.twn) (unseen_twn (by decide)) _).trans (State.trkAbandon_only (π := State.twn) (unseen_twn (by decide)) s)
      · rfl
    generalize (if s.epo.prepared = true then { s.trkAbandon.govAbandon with zyp := { s.zyp with ops := s.zyp.ops0 } } else s) = a at ha
    have hj : (a.ldrAbandon.journalEpoch false).twn.retries = s.twn.retries := by
      have hl : a.ldrAbandon.twn = s.twn := (State.ldrAbandon_only (π := State.twn) (unseen_twn (by decide)) a).trans ha
      rw [State.journalEpoch]
      cases a.ldrAbandon.twn.journal with
      | none => exact congrArg Twn.retries hl
      | some k => 
        refine (State.linkSplit_twn unsent_retries ..).trans ?_
        have hr := congrArg Twn.retries hl
        exact hr
    exact hj
  · rw [Bool.not_eq_true] at ho
    rw [ho]
    rfl

theorem State.commitEpoch_closed (s : State) : s.commitEpoch.epo.opened = false ∧ s.commitEpoch.epo.taken = [] ∧ s.commitEpoch.epo.overruns = 0 ∧
    s.commitEpoch.twn.acked = false ∧ s.commitEpoch.twn.prep = none := ⟨rfl, rfl, rfl, rfl, rfl⟩

theorem State.twinCommitted_clean (s : State) : s.twinCommitted.rd Reg.FJR_STATUS_CLEAN = s.rd Reg.FJR_STATUS_CLEAN := by
  have hsend (t : State) : t.sendSnapshot.rd Reg.FJR_STATUS_CLEAN = t.rd Reg.FJR_STATUS_CLEAN :=
    State.sendSnapshot_only (π := fun u => u.rd Reg.FJR_STATUS_CLEAN) (unseen_rd (by decide) (by decide)) t
  have hjournal (t : State) : (t.journalEpoch true).rd Reg.FJR_STATUS_CLEAN = t.rd Reg.FJR_STATUS_CLEAN :=
    State.journalEpoch_only (π := fun u => u.rd Reg.FJR_STATUS_CLEAN) (unseen_rd (by decide) (by decide)) t true
  rw [State.twinCommitted]
  by_cases hf : s.follows = true
  · rw [if_pos hf]
    dsimp only
    split
    · rw [State.rd_wr_ne (by decide), State.rd_bumpBy_ne (by decide) (by decide) (by decide) (by decide)]
      rfl
    · rw [State.rd_bumpBy_ne (by decide) (by decide) (by decide) (by decide)]
      rfl
  · rw [if_neg hf]
    have ht : State.rd (if s.twn.mirrored = true then (s.linkSend 21 (le 4 (s.rd Reg.GLB_EPOCH))).wr Reg.FJR_LAST_EPOCH (s.rd Reg.GLB_EPOCH) else s)
        Reg.FJR_STATUS_CLEAN = s.rd Reg.FJR_STATUS_CLEAN := by
      split
      · rw [State.rd_wr_ne (by decide), State.linkSend_rd]
      · rfl
    generalize (if s.twn.mirrored = true then (s.linkSend 21 (le 4 (s.rd Reg.GLB_EPOCH))).wr Reg.FJR_LAST_EPOCH (s.rd Reg.GLB_EPOCH) else s) = t at ht
    dsimp only
    split
    · rw [hsend]
      exact ht
    · rw [hjournal, ht]

/-- A commit of an epoch leaves the count of clean epochs. -/
theorem State.commitEpoch_clean (s : State) : s.commitEpoch.rd Reg.FJR_STATUS_CLEAN = s.rd Reg.FJR_STATUS_CLEAN := by
  have hU : Unseen 0xa1df8e009efc0ef8 fun u : State => u.rd Reg.FJR_STATUS_CLEAN := unseen_rd (by decide) (by decide)
  rw [State.commitEpoch]
  dsimp only
  generalize hc : (State.finishInputs _ _).sendOuts = c
  refine (State.twinCommitted_clean _).trans ?_
  have hcs : c.rd Reg.FJR_STATUS_CLEAN = s.rd Reg.FJR_STATUS_CLEAN := by
    rw [← hc]
    refine (State.sendOuts_only (π := fun u => u.rd Reg.FJR_STATUS_CLEAN) (hU.mono (by decide)) _).trans ?_
    refine (State.finishInputs_only (π := fun u => u.rd Reg.FJR_STATUS_CLEAN) (hU.mono (by decide)) _ _).trans ?_
    refine (State.commitInputs_only (π := fun u => u.rd Reg.FJR_STATUS_CLEAN) (hU.mono (by decide)) _ _).trans ?_
    refine (State.govCommit_only (π := fun u => u.rd Reg.FJR_STATUS_CLEAN) (hU.mono (by decide)) _).trans ?_
    refine (State.trkCommit_only (π := fun u => u.rd Reg.FJR_STATUS_CLEAN) (hU.mono (by decide)) _).trans ?_
    refine (State.ldrCommit_only (π := fun u => u.rd Reg.FJR_STATUS_CLEAN) (hU.mono (by decide)) _).trans ?_
    exact State.relaxAll_only (π := fun u => u.rd Reg.FJR_STATUS_CLEAN) (hU.mono (by decide)) _ _
  exact hcs

/-! ## Attempts and snapshots -/

theorem State.askSnapshot_of {s u : State} (hu : u = State.fjrBump (State.wr (State.wr s Reg.FJR_STATUS_REJOIN_STATE 2) Reg.FJR_STATUS_CLEAN 0) Reg.FJR_REJOINS) :
    s.askSnapshot = State.linkSend { u with twn := { u.twn with parts := [] } } 0x20 [] := by
  subst hu
  rfl

/-- A snapshot asked for anew. -/
theorem State.askSnapshot_shown (s : State) : s.askSnapshot.mode = s.mode ∧ s.askSnapshot.rd Reg.FJR_STATUS_REJOIN_STATE = 2 ∧
    s.askSnapshot.rd Reg.FJR_STATUS_CLEAN = 0 ∧ s.askSnapshot.twn.parts = [] ∧ s.askSnapshot.twn.retries = s.twn.retries ∧ s.askSnapshot.epo = s.epo := by
  generalize hu : State.fjrBump (State.wr (State.wr s Reg.FJR_STATUS_REJOIN_STATE 2) Reg.FJR_STATUS_CLEAN 0) Reg.FJR_REJOINS = u
  have hrd (f : Fld) : State.rd { u with twn := { u.twn with parts := [] } } f = u.rd f := rfl
  rw [State.askSnapshot_of hu.symm, State.linkSend_mode, State.linkSend_rd, State.linkSend_rd, State.linkSend_epo, State.linkSend_twn unsent_parts,
    State.linkSend_twn unsent_retries, hrd, hrd, ← hu, State.fjrBump, State.rd_bump_ne (by decide) (by decide) (by decide) (by decide),
    State.rd_bump_ne (by decide) (by decide) (by decide) (by decide), State.rd_wr_same, State.rd_wr_ne (by decide), State.rd_wr_same]
  refine ⟨?_, rfl, rfl, rfl, ?_, ?_⟩
  · rw [State.bump_mode]
    rfl
  · rw [State.bump_twn]
    rfl
  · rw [State.bump_epo]
    rfl

theorem State.failAttempt_eq {s u : State} (hu : u = { s with twn := { s.twn with retries := s.twn.retries + 1 } }) :
    s.failAttempt = if 2 ≤ s.twn.retries then (u.wr Reg.FJR_STATUS_REJOIN_STATE 5).fault Reg.FJR_FAULT_REJOIN_FAILED else u.askSnapshot := by
  subst hu
  exact if_congr (by omega) rfl rfl

theorem State.failAttempt_opened (s : State) : s.failAttempt.epo = s.epo := by
  rw [State.failAttempt_eq rfl]
  split
  · rw [State.fault_epo]
    rfl
  · rw [(State.askSnapshot_shown _).2.2.2.2.2]

theorem State.failAttempt_again {s : State} (h : s.twn.retries < 2) :
    s.failAttempt.rd Reg.FJR_STATUS_REJOIN_STATE = 2 ∧ s.failAttempt.rd Reg.FJR_STATUS_CLEAN = 0 := by
  obtain ⟨hmode, hstate, hclean, hrest⟩ := State.askSnapshot_shown { s with twn := { s.twn with retries := s.twn.retries + 1 } }
  rw [State.failAttempt_eq rfl, if_neg (not_le.mpr h)]
  exact ⟨hstate, hclean⟩

theorem State.failAttempt_last {s : State} (h : 2 ≤ s.twn.retries) :
    s.failAttempt.rd Reg.FJR_STATUS_REJOIN_STATE = 5 ∧ s.failAttempt.rd Reg.FJR_FAULT_REJOIN_FAILED = 1 := by
  rw [State.failAttempt_eq rfl, if_pos h]
  refine ⟨?_, State.fault_rd _ _ (by decide) (by decide)⟩
  rw [State.rd_fault_ne (by decide) (by decide), State.rd_wr_same]
  rfl

theorem State.noteMismatch_twn (s : State) (n d : Nat) (p : Bool) : (s.noteMismatch n d p).twn = s.twn :=
  State.noteMismatch_only (π := State.twn) (unseen_twn (by decide)) s n d p

theorem State.noteMismatch_epo (s : State) (n d : Nat) (p : Bool) : (s.noteMismatch n d p).epo = s.epo :=
  State.noteMismatch_only (π := State.epo) (unseen_epo (by decide)) s n d p

/-- The robots' rows leave the count of blocked cells. -/
theorem State.showRobots_blocked (s : State) : s.showRobots.rd Reg.LDR_BLOCKED_CELLS = s.rd Reg.LDR_BLOCKED_CELLS := by
  have hone (r : Nat) (t : State) : (t.showRobot r).rd Reg.LDR_BLOCKED_CELLS = t.rd Reg.LDR_BLOCKED_CELLS := by
    have hne : ∀ {g : Fld}, g.off = 0x90400 + 4 * (r % 256) → g.lo < 64 → Reg.LDR_BLOCKED_CELLS.key ≠ g.key := fun ho hlo =>
      Fld.key_ne_of_off (by decide) (by omega) (by decide) hlo (by rw [ho]; dsimp only [Reg.LDR_BLOCKED_CELLS]; omega)
    have hheld := hne (g := Reg.LDR_ROBOT_HELD r) rfl (show 0 < 64 by decide)
    have hgrants := hne (g := Reg.LDR_ROBOT_GRANTS r) rfl (show 20 < 64 by decide)
    have henv := hne (g := Reg.LDR_ROBOT_ENV r) rfl (show 23 < 64 by decide)
    rw [State.showRobot, State.rd_wr_ne henv, State.rd_wr_ne hgrants, State.rd_wr_ne hheld]
  have hall (l : List Nat) (t : State) : (l.foldl State.showRobot t).rd Reg.LDR_BLOCKED_CELLS = t.rd Reg.LDR_BLOCKED_CELLS := by
    induction l generalizing t with
    | nil => rfl
    | cons r l ih => rw [List.foldl_cons, ih, hone]
  exact hall ..

theorem snapEndOp_whole {s u : State} {n : Nat} (h : s.mode = .rejoin ∧ s.rejoinState = 2) (hn : n ≠ 0) (hu : u = s.twn.parts.foldl State.applyPart s) :
    snapEndOp n true s = State.wr (State.showRobots (State.wr { u with twn := { u.twn with parts := [] } } Reg.LDR_FREE
      (64 * u.cellCount - 64 * u.rd Reg.LDR_BLOCKED_CELLS - u.rd Reg.LDR_HELD))) Reg.FJR_STATUS_REJOIN_STATE 3 := by
  subst hu
  rw [snapEndOp, if_neg (not_or.mpr ⟨not_not.mpr h.1, not_not.mpr h.2⟩), if_neg hn]
  rfl

/-! ## The replay of an epoch -/

/-- The entries that a replay takes: all but heads and references. -/
def InputEntry.replayed : InputEntry → Bool
  | .zyp _ => false
  | .head _ _ _ _ _ _ _ => false
  | _ => true

theorem journalOp_head {s a b d e f : State} {n prev slot cnt : Word} {t0 : YTime} {fl : Fin 4} {own : List (Fin 256 × Fin 4)} {es : List InputEntry}
    {ops : List (Word × RobotOp)} {loops : List LoopSpec} {ok : Bool} (h : s.mode = .rejoin ∧ s.rejoinState = 3) (ha : a = s.closeEpoch.wr Reg.GLB_EPOCH n.toNat)
    (hb : b = State.openHead { a with epo := { a.epo with opened := true } } slot.toNat t0 fl.val own)
    (hd : d = sweepCompleteOp (List.foldl (fun (t : State) (x : Word × RobotOp) => t.takeListed x.1.toNat x.2)
      (List.foldl State.takeEntry b (es.filter InputEntry.replayed)) ops))
    (he : e = epochDecideOp loops { d with epo := { d.epo with ended := true, snapped := true } })
    (hf : f = ((e.workAll (3 * e.epo.work.length)).paceAll).closeAudited) :
    journalOp (.head n prev slot cnt t0 fl own :: es) (ops.map fun (x : Word × RobotOp) => (x.1.toNat, x.2)) loops ok s =
      State.wr (if ok = true then f.commitEpoch else f.abandonEpoch) Reg.GLB_EPOCH (s.rd Reg.GLB_EPOCH) := by
  subst ha hb hd he hf
  rw [journalOp, if_neg (not_or.mpr ⟨not_not.mpr h.1, not_not.mpr h.2⟩)]
  dsimp only
  rw [List.foldl_map]
  rfl

/-! ## The comparison -/

theorem compareOp_of {s : State} {same : Bool} {d : Nat} (h : s.mode = .rejoin ∧ s.rejoinState = 4 ∧ s.epo.opened = true ∧ s.epo.digest = true)
    (hv : s.verdict = some (same, d)) : compareOp s =
    (fun a : State => if !same then (a.abandonEpoch.noteMismatch (s.rd Reg.GLB_EPOCH) d (a.on Reg.FJR_PEER_LOCKSTEP)).failAttempt
      else (fun b : State => (fun n : Nat => (fun c : State => if n = 20 ∧ c.twn.readied = none then
          State.linkSend { c with twn := { c.twn with readied := some c.twn.txSeq } } 0x25 [] else c)
        (b.wr Reg.FJR_STATUS_CLEAN n)) (min 20 (b.rd Reg.FJR_STATUS_CLEAN + 1))) a.commitEpoch)
      (s.linkSend 0x24 (le 4 (s.rd Reg.GLB_EPOCH) ++ [bit (!same), d, bit s.twn.lockstep, 0])) := by
  obtain ⟨hm, hr, ho, hd⟩ := h
  rw [compareOp, if_neg, hv]
  rw [hm, hr, ho, hd]
  simp

theorem compareOp_nothing {s : State} (h : s.mode ≠ .rejoin ∨ s.rejoinState ≠ 4 ∨ s.epo.opened = false ∨ s.epo.digest = false ∨ s.verdict = none) :
    compareOp s = s := by
  rw [compareOp]
  by_cases hc : s.mode ≠ .rejoin ∨ s.rejoinState ≠ 4 ∨ !s.epo.opened ∨ !s.epo.digest
  · exact if_pos hc
  · have hv : s.verdict = none := by
      rcases h with h | h | h | h | h
      · exact absurd (.inl h) hc
      · exact absurd (.inr (.inl h)) hc
      · exact absurd (.inr (.inr (.inl (by rw [h]; rfl)))) hc
      · exact absurd (.inr (.inr (.inr (by rw [h]; rfl)))) hc
      · exact h
    rw [if_neg hc, hv]

/-! ## The twin's settings -/

/-- The fields of the twin's group. -/
def twinGroupFields : List Fld := [Reg.FJR_CFG_TWIN_EN, Reg.FJR_CFG_LINK_TIMEOUT, Reg.FJR_CFG_JOURNAL_MAX, Reg.FJR_TIME_ASYM]

theorem twinCommitOp_of {s u : State} {v : Nat} (hv : firstFail [(s.mode.fleet || s.follows, St.refusedMode), (decide (s.sh Reg.FJR_CFG_LINK_TIMEOUT < 100 ∨
    s.sh Reg.FJR_CFG_LINK_TIMEOUT > 1000 ∨ s.sh Reg.FJR_CFG_JOURNAL_MAX < 64 ∨ s.sh Reg.FJR_CFG_JOURNAL_MAX > 1024), St.badFormat)] = v)
    (hu : u = s.commit Reg.FJR_COMMIT_RESULT twinGroupFields v) :
    twinCommitOp s = if v = St.done then u.wr Reg.CLK_MODE_STATUS_TWIN_CONFIGURED (u.rd Reg.FJR_CFG_TWIN_EN) else u := by
  subst hv hu
  rfl

theorem State.commit_refused {s : State} {r : Fld} {fs : List Fld} {v : Nat} (h : v ≠ St.done) : s.commit r fs v = s.wr r v := if_neg h

/-- Settles O57: each step is its branch; the end of an epoch and the frames sent leave the count of clean epochs and of attempts. -/
theorem twinRejoin : Obligations.TwinRejoin := by
  refine ⟨fun s u hup h hu => ?_, fun s hup h => ?_, fun s hup h => ?_, fun s hup h => ?_, fun s hup h => ?_, fun s p hup h => ?_, fun s p hup h =>
    ?_, fun s n ok hup h hn => ?_, fun s n hup h hn => ?_, fun s n cells hup h hn => ?_, fun s u n hup h hn hu => ?_, fun s n ok hup h => ?_,
    fun s hd es ops loops ok hup h hhead => ?_, fun s a b d e f n prev slot cnt t0 fl own es ops loops ok hup h ha hb hd he hf => ?_, fun s es
    ops loops ok hup h => ?_, fun s k hup h hk => ?_, fun s u hup h hu => ?_, fun s hup h => ?_, fun s d hup h hv hlt => ?_, fun s a b d n hup h
    hv ha hn hb => ?_, fun s a d hup h hv ha => ?_, fun s hup h => ?_, fun s hup h => ?_, fun s hup h => ?_, fun s hup hm h => ?_, fun s hup hm
    h => ?_, fun s hup h => ?_, fun s hup h => ?_, fun s hup h => ?_, fun s hup h => ?_, fun s hup h => ?_⟩ <;> refine Gives.of_main hup rfl ?_
  · obtain ⟨hm, hr, hl, hc, hw⟩ := h
    have hop : rejoinStartOp s = State.askSnapshot { s with twn := { s.twn with retries := 0 } } := if_pos ⟨hm, hr, hl, hc, by rw [hw]; rfl⟩
    obtain ⟨hmode, hstate, hclean, hparts, hretries, -⟩ := State.askSnapshot_shown { s with twn := { s.twn with retries := 0 } }
    rw [hop]
    exact ⟨State.askSnapshot_of hu, hmode.trans hm, hstate, hclean, hparts, hretries⟩
  · refine if_neg ?_
    rintro ⟨hm, hr, hl, hc, hw⟩
    rcases h with h | h | h | h | h
    · exact h hm
    · exact h hr
    · exact Bool.false_ne_true (h.symm.trans hl)
    · exact Bool.false_ne_true (h.symm.trans hc)
    · rw [h] at hw
      exact absurd hw (by decide)
  · rw [snapReqOp, h.1, if_neg Bool.false_ne_true]
    exact if_pos h.2
  · rw [snapReqOp, h.1, if_neg Bool.false_ne_true, h.2]
    exact if_neg Bool.false_ne_true
  · exact if_pos h
  · exact if_pos h
  · exact if_neg fun hc => h.elim (fun h => h hc.1) fun h => h hc.2
  · rw [snapEndOp, if_neg (not_or.mpr ⟨not_not.mpr h.1, not_not.mpr h.2⟩)]
    exact if_pos hn
  · rw [snapEndOp, if_neg (not_or.mpr ⟨not_not.mpr h.1, not_not.mpr h.2⟩), if_neg hn]
    rfl
  · obtain ⟨hm, hr, hp⟩ := h
    have hop := snapEndOp_whole (n := n.toNat) ⟨hm, hr⟩ hn rfl
    rw [hp] at hop
    generalize hu : List.foldl State.applyPart s [SnapPart.blocked cells] = u at hop
    have huu : u = ({ s with ldr := { s.ldr with blocked := cells, quar := [] } } : State).wr Reg.LDR_BLOCKED_CELLS cells.length := hu.symm
    have hldr {t : State} : t.showRobots.ldr = t.ldr := State.showRobots_only (π := State.ldr) (unseen_ldr (by decide)) t
    have htwn {t : State} : t.showRobots.twn = t.twn := State.showRobots_only (π := State.twn) (unseen_twn (by decide)) t
    have hrd (f : Fld) : State.rd { u with twn := { u.twn with parts := [] } } f = u.rd f := rfl
    rw [hop, State.wr_ldr, hldr, State.wr_ldr, State.wr_twn, htwn, State.wr_twn, State.rd_wr_same, State.rd_wr_ne (by decide), State.showRobots_blocked,
      State.rd_wr_ne (by decide), hrd, huu, State.rd_wr_same]
    exact ⟨rfl, rfl, rfl, rfl, rfl⟩
  · exact snapEndOp_whole h hn hu
  · exact if_pos h
  · cases hd with
    | head n prev slot cnt t0 fl own =>
      rw [journalOp_head (prev := prev) (cnt := cnt) (ok := ok) h rfl rfl rfl rfl rfl, State.rd_wr_same]
      refine ⟨?_, rfl⟩
      rw [State.wr_epo]
      split
      · exact (State.commitEpoch_closed _).1
      · exact State.abandonEpoch_opened _
    | zyp r => exact hhead.elim
    | host k adm => exact hhead.elim
    | image k words regs => exact hhead.elim
    | block cells => exact hhead.elim
    | snapshot l => exact hhead.elim
    | fin => exact hhead.elim
  · exact journalOp_head h ha hb hd he hf
  · exact if_pos h
  · rw [journalFullOp, if_neg h.1, h.2]
    exact if_pos hk
  · rw [journalFullOp, if_pos h.1, if_pos h.2]
    exact State.failAttempt_eq hu
  · rw [journalFullOp]
    rcases h with ⟨hm, hk⟩ | ⟨hm, h2, h3⟩
    · rw [if_neg hm]
      cases hj : s.twn.journal with
      | none => rfl
      | some k => exact if_neg (not_le.mpr (hk k hj))
    · rw [if_pos hm]
      exact if_neg (not_or.mpr ⟨h2, h3⟩)
  · rw [compareOp_of h hv]
    dsimp only
    rw [if_neg (by decide)]
    generalize ha : s.linkSend 36 (le 4 (s.rd Reg.GLB_EPOCH) ++ [bit (!true), d, bit s.twn.lockstep, 0]) = a
    have hclean : a.commitEpoch.rd Reg.FJR_STATUS_CLEAN = s.rd Reg.FJR_STATUS_CLEAN := by rw [State.commitEpoch_clean, ← ha, State.linkSend_rd]
    obtain ⟨hopen, htaken, hover, hrest⟩ := a.commitEpoch_closed
    rw [hclean, if_neg (by omega), State.rd_wr_same, State.wr_epo]
    exact ⟨hopen, by rw [Nat.min_eq_right (by omega)]; exact Nat.mod_eq_of_lt (lt_trans (by omega) (show 20 < 2 ^ Reg.FJR_STATUS_CLEAN.w by decide)), hover⟩
  · rw [compareOp_of h hv]
    dsimp only
    have hbit : bit (!true) = 0 := rfl
    rw [hbit, ← ha, ← hn, ← hb]
    exact if_neg (by decide)
  · have hon : (s.linkSend 36 (le 4 (s.rd Reg.GLB_EPOCH) ++ [1, d, bit s.twn.lockstep, 0])).on Reg.FJR_PEER_LOCKSTEP = s.on Reg.FJR_PEER_LOCKSTEP := by
      rw [State.on, State.linkSend_rd, State.on]
    have hop : compareOp s = (State.noteMismatch a (s.rd Reg.GLB_EPOCH) d (s.on Reg.FJR_PEER_LOCKSTEP)).failAttempt := by
      rw [compareOp_of h hv, ← hon, ha]
      exact if_pos rfl
    have hretries : (State.noteMismatch a (s.rd Reg.GLB_EPOCH) d (s.on Reg.FJR_PEER_LOCKSTEP)).twn.retries = s.twn.retries := by
      rw [State.noteMismatch_twn, ha, State.abandonEpoch_retries, State.linkSend_twn unsent_retries]
    rw [hop]
    refine ⟨rfl, ?_, fun hlt => State.failAttempt_again (by rw [hretries]; exact hlt), fun hle => State.failAttempt_last (by rw [hretries]; exact hle)⟩
    rw [State.failAttempt_opened, State.noteMismatch_epo, ha]
    exact State.abandonEpoch_opened _
  · exact compareOp_nothing h
  · obtain ⟨hf, hl, hs⟩ := h
    exact if_neg (by rw [hf, hl, hs]; decide)
  · refine if_pos ?_
    rcases h with h | h | h | h
    · rw [h]; rfl
    · rw [h]; simp
    · rw [State.shutsMirror, h]; simp
    · rw [State.shutsMirror, h]; simp
  · obtain ⟨h1, h2, h3, h4⟩ := h
    have hv : firstFail [(s.mode.fleet || s.follows, St.refusedMode), (decide (s.sh Reg.FJR_CFG_LINK_TIMEOUT < 100 ∨ s.sh Reg.FJR_CFG_LINK_TIMEOUT > 1000 ∨
        s.sh Reg.FJR_CFG_JOURNAL_MAX < 64 ∨ s.sh Reg.FJR_CFG_JOURNAL_MAX > 1024), St.badFormat)] = St.done := by
      rw [hm.1, hm.2, decide_eq_false (by omega)]
      rfl
    have hen : (s.commit Reg.FJR_COMMIT_RESULT twinGroupFields St.done).rd Reg.FJR_CFG_TWIN_EN = s.sh Reg.FJR_CFG_TWIN_EN % 2 :=
      State.commit_live twinGroupFields (by decide) (by decide) (by decide) s
    rw [twinCommitOp_of hv rfl, if_pos rfl, State.rd_wr_ne (by decide), State.rd_wr_ne (by decide), State.rd_wr_ne (by decide), State.rd_wr_same, hen,
      State.commit_result]
    refine ⟨rfl, ?_, rfl, Nat.mod_mod ..⟩
    exact (State.commit_live twinGroupFields (by decide) (by decide) (by decide) s).trans
      (Nat.mod_eq_of_lt (lt_of_le_of_lt h2 (show 1000 < 2 ^ Reg.FJR_CFG_LINK_TIMEOUT.w by decide)))
  · have hv : firstFail [(s.mode.fleet || s.follows, St.refusedMode), (decide (s.sh Reg.FJR_CFG_LINK_TIMEOUT < 100 ∨ s.sh Reg.FJR_CFG_LINK_TIMEOUT > 1000 ∨
        s.sh Reg.FJR_CFG_JOURNAL_MAX < 64 ∨ s.sh Reg.FJR_CFG_JOURNAL_MAX > 1024), St.badFormat)] = St.badFormat := by
      rw [hm.1, hm.2, decide_eq_true h]
      rfl
    rw [twinCommitOp_of hv rfl, if_neg (by decide), State.commit_refused (by decide), State.rd_wr_same, State.rd_wr_ne (by decide)]
    exact ⟨rfl, rfl⟩
  · have hv : firstFail [(s.mode.fleet || s.follows, St.refusedMode), (decide (s.sh Reg.FJR_CFG_LINK_TIMEOUT < 100 ∨ s.sh Reg.FJR_CFG_LINK_TIMEOUT > 1000 ∨
        s.sh Reg.FJR_CFG_JOURNAL_MAX < 64 ∨ s.sh Reg.FJR_CFG_JOURNAL_MAX > 1024), St.badFormat)] = St.refusedMode := by
      rw [Bool.or_eq_true_iff.mpr h]
      rfl
    rw [twinCommitOp_of hv rfl, if_neg (by decide), State.commit_refused (by decide), State.rd_wr_same]
    exact ⟨rfl, rfl⟩
  · rw [rejoinRetryOp, if_neg (not_not.mpr h.1)]
    exact if_pos h.2
  · rw [rejoinRetryOp, if_neg (not_not.mpr h.1), if_neg (by rw [h.2]; simp)]
    exact if_pos h.2
  · obtain ⟨hm, h5, hw⟩ := h
    rw [rejoinRetryOp, if_neg (not_not.mpr hm), if_neg fun hc => Bool.false_ne_true ((hw hc.1).symm.trans hc.2)]
    exact if_neg h5
  · exact if_pos h

end Sys2Proof.Machine
end

section
/-! Mirroring an epoch (O56). -/

namespace Sys2Proof.Machine

/-! ## The fleet and own states that a standby follows -/

/-- The unit as a followed restriction finds it: what waits has met it, and a STOP has latched. -/
def State.followed (s : State) (l : Level) : State :=
  if l = .stop then ({ s.meetAll none with trp := { (s.meetAll none).trp with latch := true } } : State).wr Reg.TRP_STATUS_ARMED 0 else s.meetAll none

theorem State.followed_latch (s : State) (l : Level) : (s.followed l).trp.latch = (decide (l = .stop) || s.trp.latch) := by
  rw [State.followed]
  by_cases h : l = .stop
  · rw [if_pos h, decide_eq_true h]
    rfl
  · rw [if_neg h, decide_eq_false h]
    rfl

theorem ownKey_ne (r : Nat) : (Reg.TRP_ROBOT_OWN r).key ≠ Reg.TRP_STATUS_ARMED.key :=
  Fld.key_ne_of_off (by dsimp only [Reg.TRP_ROBOT_OWN]; omega) (by decide) (show 0 < 64 by decide) (by decide)
    (by dsimp only [Reg.TRP_ROBOT_OWN, Reg.TRP_STATUS_ARMED]; omega)

theorem State.followed_own (s : State) (l : Level) (r : Nat) : (s.followed l).rd (Reg.TRP_ROBOT_OWN r) = s.rd (Reg.TRP_ROBOT_OWN r) := by
  have hne : (Reg.TRP_ROBOT_OWN r).key ≠ Reg.TRP_STATUS_ARMED.key := ownKey_ne r
  rw [State.followed]
  split
  · exact State.rd_wr_ne hne _ 0
  · rfl

theorem State.followFleet_of {s : State} {l : Level} (h : s.trp.fleet.code < l.code) :
    s.followFleet l = (((s.followed l).setFleet l).trapFrame (l == .stop) none).changeRecord := by
  have hne : l ≠ s.trp.fleet := by
    rintro rfl
    exact lt_irrefl _ h
  rw [State.followFleet, if_neg hne, if_pos h]
  rfl

theorem State.followFleet_own {s : State} {l : Level} (h : s.trp.fleet.code < l.code) (r : Nat) :
    (s.followFleet l).rd (Reg.TRP_ROBOT_OWN r) = s.rd (Reg.TRP_ROBOT_OWN r) := by
  have b := Reg.TRP_ROBOT_OWN_blk r
  rw [State.followFleet_of h, State.changeRecord_rd b, State.trapFrame_rd b, State.setFleet_rd b, State.followed_own]

theorem State.followFleet_fleet {s : State} {l : Level} (h : s.trp.fleet.code < l.code) : (s.followFleet l).trp.fleet = l := by
  rw [State.followFleet_of h, State.changeRecord_trp, State.trapFrame_fleet, State.setFleet_fleet]

theorem State.followFleet_latch {s : State} {l : Level} (h : s.trp.fleet.code < l.code) :
    (s.followFleet l).trp.latch = (decide (l = .stop) || s.trp.latch) := by
  rw [State.followFleet_of h, State.changeRecord_trp, State.trapFrame_latch, State.setFleet_latch, State.followed_latch]

theorem State.followOwn_same {s : State} {r v : Nat} (h : v = s.rd (Reg.TRP_ROBOT_OWN r)) : s.followOwn r v = s := if_pos h

theorem foldl_followOwn_go {t : State} (l : List Nat) (h : ∀ r, r ∈ l → t.rd (Reg.TRP_ROBOT_OWN r) = 0) :
    l.foldl (fun (t : State) r => t.followOwn r 0) t = t := by
  induction l with
  | nil => rfl
  | cons r l ih =>
    rw [List.foldl_cons, State.followOwn_same (h r List.mem_cons_self).symm]
    exact ih fun x hx => h x (List.mem_cons_of_mem _ hx)

/-- With every own state at GO and none named, only the fleet state moves. -/
theorem State.followStates_nil {s : State} {n : Nat} (h : s.trp.fleet.code < (levelOf n).code) (hown : ∀ r, r < 256 → s.rd (Reg.TRP_ROBOT_OWN r) = 0) :
    s.followStates n [] = s.followFleet (levelOf n) :=
  foldl_followOwn_go (List.range 256) fun r hr => (State.followFleet_own h r).trans (hown r (List.mem_range.mp hr))

theorem levelOf_code (l : Fin 3) : (levelOf l.val).code = l.val := by revert l; decide

theorem levelOf_stop (l : Fin 3) : decide (levelOf l.val = .stop) = decide (l.val = 2) := by revert l; decide

/-! ## RESTRICT -/

theorem restrictFrameOp_fleet {s : State} {stop : Bool} {k : Nat} {f : Fld} (hf : s.follows = false)
    (hk : (if stop then stopCauses else holdCauses).find? (fun f => f.lo == k) = some f) : restrictFrameOp stop none k s = s.raiseFleet stop f := by
  simp only [restrictFrameOp, hf, Bool.false_eq_true, if_false, hk]

theorem restrictFrameOp_robot {s : State} {stop : Bool} {r k : Nat} {f : Fld} (hf : s.follows = false)
    (hk : (ownCauses r).find? (fun (f : Fld) => f.lo == k) = some f) : restrictFrameOp stop (some r) k s = s.raiseOwn r stop f := by
  simp only [restrictFrameOp, hf, Bool.false_eq_true, if_false, hk]

/-! ## The input stream -/

theorem inputFrameOp_of {s : State} (hf : s.follows = true) (hl : s.linkUp = true) (es : List InputEntry) :
    inputFrameOp es s = es.foldl State.takeEntry s := if_pos (by rw [hf, hl]; rfl)

theorem State.takesLive_standby {s : State} (h : s.mode = .twinStandby) : s.takesLive = true := by rw [State.takesLive, h]; rfl

theorem State.follows_standby {s : State} (h : s.mode = .twinStandby) : s.follows = true := by rw [State.follows, h]; rfl

theorem State.follows_rejoin {s : State} (h : s.mode = .rejoin) : s.follows = true := by rw [State.follows, h]; rfl

theorem State.takeHeadEntry_standby {s : State} (h : s.mode = .twinStandby) (n slot : Nat) (t0 : YTime) (fleet : Nat) (own : List (Fin 256 × Fin 4)) :
    s.takeHeadEntry n slot t0 fleet own =
      if !s.takesLive || !s.epo.opened || s.epo.released || n != s.rd Reg.GLB_EPOCH then s else s.openHead slot t0 fleet own := by
  rw [State.takeHeadEntry, h]
  rfl

/-- A rejoining unit that meets the live epoch. -/
def State.meetsLive (s : State) (n : Nat) : State := (s.wr Reg.GLB_EPOCH n).wr Reg.FJR_STATUS_REJOIN_STATE 4

theorem State.takeHeadEntry_joins {s : State} {n : Nat} (h : s.mode = .rejoin) (hs : s.rejoinState = 3) (hn : n = (s.epo.closed + 1) % 4294967296)
    (slot : Nat) (t0 : YTime) (fleet : Nat) (own : List (Fin 256 × Fin 4)) :
    s.takeHeadEntry n slot t0 fleet own = if !(s.meetsLive n).takesLive || !s.epo.opened || s.epo.released || n != (s.meetsLive n).rd Reg.GLB_EPOCH
      then s else (s.meetsLive n).openHead slot t0 fleet own := by
  have hj : (s.mode == .rejoin && s.rejoinState == 3 && n == (s.epo.closed + 1) % 4294967296) = true := by simp [h, hs, hn]
  rw [State.takeHeadEntry, hj]
  rfl

theorem State.meetsLive_epoch (s : State) {n : Nat} (h : n < 4294967296) : (s.meetsLive n).rd Reg.GLB_EPOCH = n := by
  rw [State.meetsLive, State.rd_wr_ne (by decide), State.rd_wr_same]
  exact Nat.mod_eq_of_lt h

theorem State.meetsLive_takesLive {s : State} (h : s.mode = .rejoin) (n : Nat) : (s.meetsLive n).takesLive = true := by
  have hr : (s.meetsLive n).rejoinState = 4 := State.rd_wr_same ..
  have hm : (s.meetsLive n).mode = .rejoin := h
  rw [State.takesLive, hm, hr]
  rfl

theorem State.openHead_epo (s : State) (slot : Nat) (t0 : YTime) (fleet : Nat) (own : List (Fin 256 × Fin 4)) :
    (s.openHead slot t0 fleet own).epo.released = true ∧ (s.openHead slot t0 fleet own).epo.ended = false ∧
      (s.openHead slot t0 fleet own).epo.taken = [] ∧ (s.openHead slot t0 fleet own).epo.last = some t0 ∧
      (s.openHead slot t0 fleet own).epo.fleet0 = levelOf fleet := ⟨rfl, rfl, rfl, rfl, rfl⟩

/-- Outside the stream of an open epoch only a head and, before the release, nothing else counts. -/
theorem State.takeEntry_outside {s : State} {e : InputEntry} (h : s.epo.released = false ∨ s.epo.ended = true ∧ e ≠ .fin)
    (hh : ∀ n p slot c t0 fl own, e ≠ .head n p slot c t0 fl own) : s.takeEntry e = s := by
  have hshut : (s.epo.released = false ∨ s.epo.ended = true) → ¬ (s.epo.released && !s.epo.ended) = true := by
    rintro (h | h) <;> simp [h]
  have hs := hshut (h.imp id And.left)
  cases e with
  | head n p slot c t0 fl own => exact absurd rfl (hh n p slot c t0 fl own)
  | fin =>
    rcases h with h | ⟨_, h⟩
    · exact if_neg (by rw [h]; exact Bool.false_ne_true)
    · exact absurd rfl h
  | zyp r => exact if_neg hs
  | host k a => exact if_neg hs
  | image k w r => exact if_neg hs
  | block c => exact if_neg hs
  | snapshot l => exact if_neg hs

theorem State.takeRef_own {s : State} {r : ZypRef} {o : OwnFrame} (h : s.twn.own.find? (refNames r) = some o) :
    (s.takeRef r).twn = { s.twn with own := s.twn.own.erase o } ∧
      (s.takeRef r).epo = { s.epo with ops := match o.op with | some op => insertOp r.adm.toNat op s.epo.ops | none => s.epo.ops } := by
  rw [State.takeRef, h]
  dsimp only
  cases o.op with
  | some op => exact ⟨rfl, rfl⟩
  | none => exact ⟨rfl, rfl⟩

theorem State.takeRef_missing {s : State} {r : ZypRef} (h : s.twn.own.find? (refNames r) = none) :
    s.takeRef r = (State.fjrBump { s with twn := { s.twn with missing := s.twn.missing ++ [r] } } Reg.FJR_FETCHES).linkSend 0x11 (refBytes r) := by
  rw [State.takeRef, h]

/-- One cell to block joins the quarantine list. -/
def quarCell (q : List Quar) (c : BitVec 23) : List Quar :=
  if q.any fun (x : Quar) => x.cell == c.toNat then q.map fun (x : Quar) => if x.cell = c.toNat then { x with ready := true } else x
  else q ++ [⟨c.toNat, false, true⟩]

theorem quarCell_keeps {n : Nat} {q : List Quar} (h : ∃ x, x ∈ q ∧ x.cell = n) (c : BitVec 23) : ∃ x, x ∈ quarCell q c ∧ x.cell = n := by
  obtain ⟨x, hx, hn⟩ := h
  rw [quarCell]
  split
  · refine ⟨_, List.mem_map_of_mem hx, ?_⟩
    split <;> exact hn
  · exact ⟨x, List.mem_append_left _ hx, hn⟩

theorem quarCell_takes (q : List Quar) (c : BitVec 23) : ∃ x, x ∈ quarCell q c ∧ x.cell = c.toNat := by
  by_cases h : (q.any fun (x : Quar) => x.cell == c.toNat) = true
  · obtain ⟨x, hx, hc⟩ := List.any_eq_true.mp h
    exact quarCell_keeps ⟨x, hx, beq_iff_eq.mp hc⟩ c
  · rw [quarCell, if_neg h]
    exact ⟨_, List.mem_append_right _ List.mem_cons_self, rfl⟩

theorem foldl_quarCell_keeps {n : Nat} (cells : List (BitVec 23)) {q : List Quar} (h : ∃ x, x ∈ q ∧ x.cell = n) :
    ∃ x, x ∈ cells.foldl quarCell q ∧ x.cell = n := by
  induction cells generalizing q with
  | nil => exact h
  | cons c cells ih => exact ih (quarCell_keeps h c)

theorem foldl_quarCell_takes (cells : List (BitVec 23)) (q : List Quar) (c : BitVec 23) (hc : c ∈ cells) :
    ∃ x, x ∈ cells.foldl quarCell q ∧ x.cell = c.toNat := by
  induction cells generalizing q with
  | nil => exact absurd hc List.not_mem_nil
  | cons d cells ih =>
    rcases List.mem_cons.mp hc with rfl | hc
    · exact foldl_quarCell_keeps cells (quarCell_takes q c)
    · exact ih _ hc

theorem State.takeCells_quar (s : State) (cells : List (BitVec 23)) : (s.takeCells cells).ldr.quar = cells.foldl quarCell s.ldr.quar := rfl

/-! ## PREPARE and ACK -/

theorem prepareOp_of {s : State} {p : PrepMsg} (hl : s.takesLive = true) (ho : s.epo.opened = true) (he : p.epoch.toNat = s.rd Reg.GLB_EPOCH) :
    prepareOp p s = State.sendAck { s with twn := { s.twn with prep := some p } } := by
  refine if_neg ?_
  simp [hl, ho, he]

theorem State.sendAck_early {s : State} (h : s.mode ≠ .twinStandby ∨ s.epo.digest = false) : s.sendAck = s := by
  refine if_pos ?_
  rcases h with h | h
  · exact .inl h
  · exact .inr (.inr (by rw [h]; rfl))

theorem unsent_prep : Unsent Twn.prep := fun _ _ _ _ _ => rfl

theorem unsent_acked : Unsent Twn.acked := fun _ _ _ _ _ => rfl

theorem unsent_lates : Unsent Twn.lates := fun _ _ _ _ _ => rfl

theorem State.sendAck_prep (s : State) : s.sendAck.twn.prep = s.twn.prep := by
  rw [State.sendAck]
  split
  · rfl
  · split
    · exact State.linkSend_twn unsent_prep ..
    · rfl

theorem State.verdict_of {s : State} {p : PrepMsg} {d : List Nat × List (List Nat)} (hp : s.twn.prep = some p) (hd : s.epo.sums = some d) :
    ∃ b n, s.verdict = some (b, n) := by
  rw [State.verdict, hp, hd]
  exact ⟨_, _, rfl⟩

theorem State.sendAck_acked {s : State} {p : PrepMsg} (h : s.mode = .twinStandby ∧ s.epo.digest = true ∧ s.twn.acked = false)
    (hp : s.twn.prep = some p) (hd : s.epo.sums ≠ none) : s.sendAck.twn.acked = true := by
  obtain ⟨hm, hg, ha⟩ := h
  obtain ⟨d, hd⟩ := Option.ne_none_iff_exists'.mp hd
  obtain ⟨b, n, hv⟩ := State.verdict_of hp hd
  rw [State.sendAck, if_neg (by rw [hm, hg, ha]; decide), hv, hd]
  exact State.linkSend_twn unsent_acked ..

/-- The mirroring latency that an ACK shows. -/
def State.ackNoted (s : State) (v : Nat) : State :=
  ((s.wr Reg.FJR_MIRROR_LAT_LAST v).wr Reg.FJR_MIRROR_LAT_MAX (max v (s.rd Reg.FJR_MIRROR_LAT_MAX))).tallyAdd 11 v

/-- An ACK has come: none is late. -/
def State.noneLate (s : State) : State := { s with twn := { s.twn with lates := 0 } }

/-- What a mismatch does. -/
def State.mismatched (u : State) (d : Nat) (lock : Bool) : State :=
  State.noteMismatch (u.abandonEpoch.linkSend 0x16 (le 4 (u.rd Reg.GLB_EPOCH) ++ [1])) (u.rd Reg.GLB_EPOCH) d lock

/-- Mirroring is over. -/
def State.unmirrored (w : State) : State := { w with twn := { w.twn with mirrored := false } }

theorem State.unmirrored_rd (w : State) (f : Fld) : w.unmirrored.rd f = w.rd f := rfl

theorem State.noneLate_rd (s : State) (f : Fld) : s.noneLate.rd f = s.rd f := rfl

theorem ackOp_of {s : State} {a : AckMsg} {us : Nat} (h : s.follows = false ∧ s.twn.mirrored = true ∧ s.twn.linkLost = false)
    (h' : s.epo.opened = true ∧ s.epo.digest = true ∧ s.epo.assured = false) (he : a.epoch.toNat = s.rd Reg.GLB_EPOCH) :
    ackOp a us s = if !a.mismatch then (s.ackNoted (min us 65535)).noneLate.assure else
      ((s.ackNoted (min us 65535)).noneLate.mismatched a.classDiff.toNat a.lockstep).unmirrored.raiseFleet false Reg.TRP_HOLD_CAUSE_TWIN_MISMATCH := by
  obtain ⟨hf, hm, hl⟩ := h
  obtain ⟨ho, hd, ha⟩ := h'
  refine if_neg ?_
  simp [hf, hm, hl, ho, hd, ha, he]

theorem State.ackNoted_epo (s : State) (v : Nat) : (s.ackNoted v).epo = s.epo := by
  rw [State.ackNoted, State.tallyAdd, State.tallyRecord_epo, State.wr_epo, State.wr_epo]

theorem State.ackNoted_twn (s : State) (v : Nat) : (s.ackNoted v).twn = s.twn := by
  rw [State.ackNoted, State.tallyAdd, State.tallyRecord_twn, State.wr_twn, State.wr_twn]

theorem State.assured_epo (s : State) : s.noneLate.assure.epo = { s.epo with assured := true } := rfl

theorem State.assured_rd (s : State) (f : Fld) : s.noneLate.assure.rd f = s.rd f := rfl

theorem State.assured_twn (s : State) : s.noneLate.assure.twn = { s.twn with lates := 0 } := rfl

theorem State.ackNoted_epoch (s : State) (v : Nat) : (s.ackNoted v).rd Reg.GLB_EPOCH = s.rd Reg.GLB_EPOCH := by
  rw [State.ackNoted, State.rd_tallyAdd_ne (by decide), State.rd_wr_ne (by decide), State.rd_wr_ne (by decide)]

theorem State.ackNoted_last (s : State) {v : Nat} (h : v ≤ 65535) : (s.ackNoted v).rd Reg.FJR_MIRROR_LAT_LAST = v := by
  rw [State.ackNoted, State.rd_tallyAdd_ne (by decide), State.rd_wr_ne (by decide), State.rd_wr_same]
  exact Nat.mod_eq_of_lt (Nat.lt_succ_of_le h)

theorem State.ackNoted_max (s : State) (v : Nat) : (s.ackNoted v).rd Reg.FJR_MIRROR_LAT_MAX = max v (s.rd Reg.FJR_MIRROR_LAT_MAX) % 65536 := by
  rw [State.ackNoted, State.rd_tallyAdd_ne (by decide), State.rd_wr_same]
  rfl

theorem State.noteMismatch_epoch (s : State) (n d : Nat) (p : Bool) : (s.noteMismatch n d p).rd Reg.FJR_MISMATCH_EPOCH = n % 4294967296 := by
  rw [State.noteMismatch, State.rd_wr_ne (by decide), State.rd_wr_ne (by decide), State.rd_wr_ne (by decide), State.rd_wr_same]
  rfl

theorem State.mismatched_epoch (u : State) (d : Nat) (lock : Bool) :
    (u.mismatched d lock).rd Reg.FJR_MISMATCH_EPOCH = u.rd Reg.GLB_EPOCH % 4294967296 := State.noteMismatch_epoch ..

theorem State.raiseFleet_mismatchEpoch (s : State) :
    (s.raiseFleet false Reg.TRP_HOLD_CAUSE_TWIN_MISMATCH).rd Reg.FJR_MISMATCH_EPOCH = s.rd Reg.FJR_MISMATCH_EPOCH :=
  State.raiseFleet_only (m := 0xa1d08e0092740ee2) (π := fun u => u.rd Reg.FJR_MISMATCH_EPOCH) (unseen_rd (by decide) (by decide)) (by decide) s _ _
    (by decide)

theorem State.raiseFleet_restricts (s : State) (c : Fld) : (s.raiseFleet false c).trp.fleet ≠ .go := by
  by_cases h : s.trp.fleet = .go
  · rw [State.raiseFleet_hold h]
    exact Level.noConfusion
  · rw [State.raiseFleet_held h]
    exact h

/-! ## A late ACK -/

theorem State.abandonEpoch_lates (s : State) : s.abandonEpoch.twn.lates = s.twn.lates := by
  rw [State.abandonEpoch]
  by_cases ho : s.epo.opened = true
  · rw [ho, if_neg (by decide)]
    dsimp only
    have ha : State.twn (if s.epo.prepared = true then { s.trkAbandon.govAbandon with zyp := { s.zyp with ops := s.zyp.ops0 } } else s) = s.twn := by
      split
      · exact (State.govAbandon_only (π := State.twn) (unseen_twn (by decide)) _).trans (State.trkAbandon_only (π := State.twn) (unseen_twn (by decide)) s)
      · rfl
    generalize (if s.epo.prepared = true then { s.trkAbandon.govAbandon with zyp := { s.zyp with ops := s.zyp.ops0 } } else s) = a at ha
    have hj : (a.ldrAbandon.journalEpoch false).twn.lates = s.twn.lates := by
      have hl : a.ldrAbandon.twn = s.twn := (State.ldrAbandon_only (π := State.twn) (unseen_twn (by decide)) a).trans ha
      rw [State.journalEpoch]
      cases a.ldrAbandon.twn.journal with
      | none => exact congrArg Twn.lates hl
      | some k =>
        refine (State.linkSplit_twn unsent_lates ..).trans ?_
        have hr := congrArg Twn.lates hl
        exact hr
    exact hj
  · rw [Bool.not_eq_true] at ho
    rw [ho]
    rfl

/-- The first overrun of a unit that does not follow leaves the epoch closed and the count of late ACKs. -/
theorem State.overrun_first {s : State} (ho : s.epo.opened = true) (hf : s.follows = false) (hl : s.twn.linkLost = false) (hn : s.epo.overruns = 0) :
    s.overrun.epo.opened = false ∧ s.overrun.twn.lates = s.twn.lates := by
  have hov : s.overrun = State.tallyOffer { (s.abandonEpoch.bump Reg.GLB_OVERRUN Reg.GLB_FAULT_CNT_SAT).fault Reg.GLB_FAULT_OVERRUN with
      epo := { ((s.abandonEpoch.bump Reg.GLB_OVERRUN Reg.GLB_FAULT_CNT_SAT).fault Reg.GLB_FAULT_OVERRUN).epo with overruns := 1 } } 66 1 := by
    rw [State.overrun, ho, hf, hl, hn]
    rfl
  rw [hov, State.tallyOffer, State.tallyRecord_epo, State.tallyRecord_twn]
  dsimp only
  rw [State.fault_epo, State.fault_twn, State.bump_epo, State.bump_twn]
  exact ⟨State.abandonEpoch_opened s, State.abandonEpoch_lates s⟩

/-- A late ACK, noted. -/
def State.ackOverdue (s : State) : State :=
  State.fault (State.fjrBump (s.overrun.linkSend 0x16 (le 4 (s.rd Reg.GLB_EPOCH) ++ [0])) Reg.FJR_ACK_LATE) Reg.FJR_FAULT_ACK_LATE

theorem ackLateOp_of {s : State} (h : s.follows = false ∧ s.twn.mirrored = true ∧ s.linkUp = true)
    (h' : s.epo.opened = true ∧ s.epo.digest = true ∧ s.epo.assured = false) :
    ackLateOp s = if s.ackOverdue.twn.lates + 1 < 2 then { s.ackOverdue with twn := { s.ackOverdue.twn with lates := s.ackOverdue.twn.lates + 1 } }
      else State.fault (State.linkSend { s.ackOverdue with twn := { s.ackOverdue.twn with demoted := some s.ackOverdue.twn.txSeq, lates := 0 } } 0x18 [])
        Reg.FJR_FAULT_TWIN_LOST := by
  obtain ⟨hf, hm, hl⟩ := h
  obtain ⟨ho, hd, ha⟩ := h'
  refine if_neg ?_
  simp [hf, hm, hl, ho, hd, ha]

/-! ## The way to REJOIN -/

/-- The twin's own state of a unit that waits for its rejoin. -/
def State.unpaired (b : State) : State :=
  { b with twn := { b.twn with mirrored := false, lost := false, parts := [], readied := none, readyDue := false, demoted := none } }

theorem State.toRejoin_of {s : State} (h : s.pwr.pfailLatched = false) : ∃ b : State, b.epo.opened = false ∧
    s.toRejoin = (b.unpaired.wr Reg.FJR_STATUS_REJOIN_STATE 1).wr Reg.FJR_STATUS_CLEAN 0 := by
  have hp : s.abandonEpoch.pwr.pfailLatched = false :=
    (congrArg Power.pfailLatched (State.abandonEpoch_only (π := State.pwr) (unseen_pwr (by decide)) s)).trans h
  refine ⟨if s.abandonEpoch.mode = .rejoin then s.abandonEpoch else s.abandonEpoch.enterMode .rejoin, ?_, ?_⟩
  · split
    · exact State.abandonEpoch_opened s
    · rw [State.enterMode_only (π := State.epo) (unseen_epo (by decide))]
      exact State.abandonEpoch_opened s
  · rw [State.toRejoin, hp]
    rfl

theorem State.toRejoin_opened (s : State) : s.toRejoin.epo.opened = false := by
  by_cases h : s.pwr.pfailLatched = false
  · obtain ⟨b, hb, he⟩ := State.toRejoin_of h
    rw [he]
    exact hb
  · have hp : s.abandonEpoch.pwr.pfailLatched = true :=
      (congrArg Power.pfailLatched (State.abandonEpoch_only (π := State.pwr) (unseen_pwr (by decide)) s)).trans (by simpa using h)
    rw [State.toRejoin, hp]
    exact State.abandonEpoch_opened s

theorem State.toRejoin_shown {s : State} (h : s.pwr.pfailLatched = false) :
    s.toRejoin.rd Reg.FJR_STATUS_REJOIN_STATE = 1 ∧ s.toRejoin.rd Reg.FJR_STATUS_CLEAN = 0 ∧ s.toRejoin.twn.mirrored = false ∧
      s.toRejoin.twn.lost = false := by
  obtain ⟨b, hb, he⟩ := State.toRejoin_of h
  rw [he]
  refine ⟨?_, State.rd_wr_same .., rfl, rfl⟩
  rw [State.rd_wr_ne (by decide), State.rd_wr_same]
  rfl

theorem State.noteMismatch_rejoinState (s : State) (n d : Nat) (p : Bool) :
    (s.noteMismatch n d p).rd Reg.FJR_STATUS_REJOIN_STATE = s.rd Reg.FJR_STATUS_REJOIN_STATE := by
  rw [State.noteMismatch, State.rd_wr_ne (by decide), State.rd_wr_ne (by decide), State.rd_wr_ne (by decide), State.rd_wr_ne (by decide),
    State.rd_fault_ne (by decide) (by decide), State.fjrBump, State.rd_bump_ne (by decide) (by decide) (by decide) (by decide)]

theorem State.noteMismatch_mode (s : State) (n d : Nat) (p : Bool) : (s.noteMismatch n d p).mode = s.mode :=
  State.noteMismatch_only (π := State.mode) (unseen_mode (by decide)) s n d p

theorem State.streamOpen {s : State} (hr : s.epo.released = true) (he : s.epo.ended = false) : (s.epo.released && !s.epo.ended) = true := by
  rw [hr, he]
  rfl

theorem State.raiseFleet_level {s : State} (h : s.trp.fleet ≠ .stop) (stop : Bool) (f : Fld) :
    (s.raiseFleet stop f).trp.fleet = (if stop then .stop else .hold) ∧ (s.raiseFleet stop f).trp.latch = (stop || s.trp.latch) := by
  cases stop with
  | true => exact State.raiseFleet_stop s f
  | false =>
    refine ⟨?_, State.raiseFleet_latch s f⟩
    by_cases hg : s.trp.fleet = .go
    · exact State.raiseFleet_hold hg f
    · rw [State.raiseFleet_held hg]
      cases hl : s.trp.fleet with
      | go => exact absurd hl hg
      | hold => rfl
      | stop => exact absurd hl h

theorem restrictFrameOp_none {s : State} {stop : Bool} {r : Option (Fin 256)} {k : Fin 32} (h : s.follows = true ∨
    ((match r with | none => (if stop then stopCauses else holdCauses) | some x => ownCauses x.val).find? (fun (f : Fld) => f.lo == k.val)) = none) :
    restrictFrameOp stop (r.map (·.val)) k.val s = s := by
  by_cases hf : s.follows = true
  · exact if_pos hf
  · have hk := h.resolve_left hf
    refine (if_neg hf).trans ?_
    cases r with
    | none =>
      dsimp only [Option.map_none] at hk ⊢
      rw [hk]
    | some x =>
      dsimp only [Option.map_some] at hk ⊢
      rw [hk]

/-- A unit that waits for the host after a mismatch. -/
def State.awaitsHost (s : State) : State := { s with twn := { s.twn with wait := true } }

theorem State.awaitsHost_rd (s : State) (f : Fld) : s.awaitsHost.rd f = s.rd f := rfl

theorem State.awaitsHost_epo (s : State) : s.awaitsHost.epo = s.epo := rfl

theorem State.awaitsHost_mode (s : State) : s.awaitsHost.mode = s.mode := rfl

/-! ## BEACON_COPY -/

/-- The beacon's sequence number is kept. -/
def State.beaconKept (s : State) (q : Nat) : State :=
  { s with zyp := { s.zyp with seq := AMap.set (broadcastId * 32 + 0x10) (q + 1) s.zyp.seq } }

theorem beaconCopyOp_of {s : State} (h : s.mode = .twinStandby ∧ s.twn.stopped = false ∧ s.now.ns % 100000000 ≤ 500000) (q e : Nat) (body : List Byte) :
    beaconCopyOp q e body s =
      match ((s.beaconKept q).wr Reg.GLB_EPOCH e).frame 0x10 255 broadcastId (s.rd Reg.LNA_ZYP_BOOT) q (s.keyOf 5) (body.map BitVec.toNat) with
      | none => s.beaconKept q
      | some f => ((s.beaconKept q).sendLan 0 f).sendLan 1 f := by
  obtain ⟨hm, hs, hn⟩ := h
  refine (if_neg ?_).trans rfl
  simp [hm, hs, hn]

/-- A beacon of another epoch number, under the key of slot 5. -/
theorem State.frame_beacon {s : State} (h : s.life = 2) (k : Option Nat) (e q boot : Nat) (body : List Nat) :
    (s.wr Reg.GLB_EPOCH e).frame 0x10 255 broadcastId boot q k body = k.map fun k =>
      zypHeader 0x10 (2 * s.seat) 255 s.yardId broadcastId boot q (e % 4294967296) ++ body ++
        gcmTag k (zypNonce 0x10 s.seat s.yardId boot q) (zypHeader 0x10 (2 * s.seat) 255 s.yardId broadcastId boot q (e % 4294967296) ++ body) := by
  have hl : (s.wr Reg.GLB_EPOCH e).life = 2 := (State.rd_wr_ne (by decide) s e).trans h
  have hs : (s.wr Reg.GLB_EPOCH e).seat = s.seat := State.seat_wr (by decide) s e
  have hy : (s.wr Reg.GLB_EPOCH e).yardId = s.yardId := by
    rw [State.yardId, State.rd_wr_ne (by decide), State.rd_wr_ne (by decide)]
    rfl
  have he : (s.wr Reg.GLB_EPOCH e).rd Reg.GLB_EPOCH = e % 4294967296 := State.rd_wr_same ..
  rw [State.frame, hl, hs, hy, he]
  rfl

/-- Settles O56: what each message of the mirroring does, by the branch that the unit's state is in. -/
theorem twinMirroring : Obligations.TwinMirroring := by
  refine ⟨fun s l hup ⟨hm, hl⟩ hown => ?_, fun s l own hup hm => ?_, fun s l own hup hm => ?_, fun s stop k f hup hf hk hs => ?_,
    fun s stop k f hup hf hk => ?_, fun s stop r k f hup hf hk => ?_, fun s stop r k hup h => ?_, fun s hup ⟨hf, hl, hr⟩ => ?_,
    fun s k a hup ⟨hf, hl, hr, he⟩ => ?_, fun s n prev slot cnt t0 fl own hup ⟨hm, hl, ho, hr, hn⟩ => ?_,
    fun s u n prev slot cnt t0 fl own hup ⟨hm, hl, hs, ho, hr, hn⟩ hu => ?_, fun s n prev slot cnt t0 fl own hup ⟨hm, h⟩ => ?_,
    fun s r o hup ⟨hf, hl, hr, he⟩ hown => ?_, fun s u r hup ⟨hf, hl, hr, he⟩ hown hu => ?_, fun s k words regs hup ⟨hf, hl, hr, he⟩ => ?_,
    fun s cells hup ⟨hf, hl, hr, he⟩ => ?_, fun s l hup ⟨hf, hl, hr, he⟩ => ?_, fun s e hup h hh => ?_, fun s es hup ⟨hf, hl⟩ => ?_,
    fun s es hup h => ?_, fun s p hup ⟨hm, ho, hd, he⟩ => ?_, fun s u p hup ⟨hm, ho, hd, ha, he⟩ hu => ?_, fun s p hup ⟨hm, hs, ho, he⟩ => ?_,
    fun s p hup h => ?_, fun s u a us v hup h h' ⟨he, hm⟩ hv hu => ?_, fun s a us hup h h' ⟨he, hm⟩ => ?_,
    fun s u w a us v hup h h' ⟨he, hm⟩ hv hu hw => ?_, fun s a us hup h => ?_, fun s hup h h' ⟨hl, hk, hn⟩ => ?_, fun s u hup h h' hu => ?_,
    fun s hup h => ?_, fun s e hup ⟨hm, ho, ha⟩ he => ?_, fun s e hup h => ?_, fun s u e d hup ⟨hm, ho⟩ he hd hu => ?_,
    fun s e k hup ⟨hf, ho, he⟩ hk => ?_, fun s e k hup h => ?_, fun s u q e body k m hup h ⟨hl, hk⟩ hm hu => ?_,
    fun s q e body hup h ⟨hl, hk⟩ => ?_, fun s q e body hup h => ?_, fun s hup hm => ?_, fun s hup hm => ?_⟩ <;>
    refine Gives.of_main hup rfl ?_
  · have hlt : s.trp.fleet.code < (levelOf l.val).code := by rw [levelOf_code]; exact hl
    rw [stateFrameOp, if_pos hm, State.followStates_nil hlt hown, State.followFleet_fleet hlt, State.followFleet_latch hlt, levelOf_stop]
    exact ⟨rfl, rfl⟩
  · exact if_pos hm
  · exact if_neg hm
  · have ht : restrictFrameOp stop none k.val s = s.raiseFleet stop f := restrictFrameOp_fleet hf hk
    show (restrictFrameOp stop none k.val s).trp.fleet = _ ∧ (restrictFrameOp stop none k.val s).trp.latch = _
    rw [ht]
    exact State.raiseFleet_level hs stop f
  · exact restrictFrameOp_fleet hf hk
  · exact restrictFrameOp_robot hf hk
  · exact restrictFrameOp_none h
  · rw [inputFrameOp_of hf hl]
    exact if_pos hr
  · rw [inputFrameOp_of hf hl]
    exact if_pos (State.streamOpen hr he)
  · rw [inputFrameOp_of (State.follows_standby hm) hl]
    have ht : s.takeHeadEntry n.toNat slot.toNat t0 fl.val own = s.openHead slot.toNat t0 fl.val own := by
      rw [State.takeHeadEntry_standby hm, State.takesLive_standby hm, ho, hr, hn]
      exact if_neg (by simp)
    have hfold : [InputEntry.head n prev slot cnt t0 fl own].foldl State.takeEntry s = s.openHead slot.toNat t0 fl.val own := ht
    rw [hfold]
    exact ⟨rfl, State.openHead_epo ..⟩
  · subst hu
    rw [inputFrameOp_of (State.follows_rejoin hm) hl]
    refine (State.takeHeadEntry_joins hm hs hn ..).trans (if_neg ?_)
    rw [State.meetsLive_takesLive hm, State.meetsLive_epoch s n.isLt, ho, hr]
    simp
  · by_cases hl : s.linkUp = true
    · rw [inputFrameOp_of (State.follows_standby hm) hl]
      refine (State.takeHeadEntry_standby hm ..).trans (if_pos ?_)
      rcases h with h | h | h <;> simp [h]
    · exact if_neg (by simp [hl])
  · rw [inputFrameOp_of hf hl]
    have ht : s.takeEntry (.zyp r) = s.takeRef r := if_pos (State.streamOpen hr he)
    show (s.takeEntry (.zyp r)).twn = _ ∧ (s.takeEntry (.zyp r)).epo = _
    rw [ht]
    exact State.takeRef_own hown
  · subst hu
    rw [inputFrameOp_of hf hl]
    exact (if_pos (State.streamOpen hr he)).trans (State.takeRef_missing hown)
  · rw [inputFrameOp_of hf hl]
    exact if_pos (State.streamOpen hr he)
  · rw [inputFrameOp_of hf hl]
    have ht : s.takeEntry (.block cells) = s.takeCells cells := if_pos (State.streamOpen hr he)
    show s.takeEntry (.block cells) = _ ∧ ∀ c, c ∈ cells → ∃ q, q ∈ (s.takeEntry (.block cells)).ldr.quar ∧ q.cell = c.toNat
    rw [ht]
    exact ⟨rfl, fun c hc => foldl_quarCell_takes cells s.ldr.quar c hc⟩
  · rw [inputFrameOp_of hf hl]
    have ht : s.takeEntry (.snapshot l) = s.takePositions l := if_pos (State.streamOpen hr he)
    show s.takeEntry (.snapshot l) = _ ∧ (s.takeEntry (.snapshot l)).epo.snapped = true
    rw [ht]
    exact ⟨rfl, rfl⟩
  · rw [inputFrameOp]
    split
    · refine State.takeEntry_outside h ?_
      rintro n p slot c t0 fl own rfl
      exact hh
    · rfl
  · exact inputFrameOp_of hf hl es
  · refine if_neg ?_
    rcases h with h | h <;> simp [h]
  · rw [prepareOp_of (State.takesLive_standby hm) ho he]
    exact State.sendAck_early (.inr hd)
  · subst hu
    rw [prepareOp_of (State.takesLive_standby hm) ho he]
    exact ⟨rfl, State.sendAck_prep _, State.sendAck_acked (s := { s with twn := { s.twn with prep := some p } }) ⟨hm, hd, ha⟩ rfl⟩
  · rw [prepareOp_of (by rw [State.takesLive, hm, hs]; rfl) ho he]
    refine State.sendAck_early (.inl ?_)
    show s.mode ≠ _
    rw [hm]
    exact Mode.noConfusion
  · refine if_pos ?_
    rcases h with h | h | h <;> simp [h]
  · subst hv hu
    rw [ackOp_of h h' he, hm, if_pos (by decide)]
    refine ⟨rfl, ?_, ?_, ?_, ?_⟩
    · rw [State.assured_epo, State.ackNoted_epo]
    · rw [State.assured_twn, State.ackNoted_twn]
    · rw [State.assured_rd, State.ackNoted_last s (Nat.min_le_right ..)]
    · rw [State.assured_rd, State.ackNoted_max]
  · rw [ackOp_of h h' he, hm, if_neg (by decide)]
    refine ⟨State.raiseFleet_cause rfl _ _ (by decide) (by decide) (by decide) (by decide) (by decide) (by decide), State.raiseFleet_restricts _ _, ?_⟩
    rw [State.raiseFleet_mismatchEpoch, State.unmirrored_rd, State.mismatched_epoch, State.noneLate_rd, State.ackNoted_epoch]
  · subst hv hu hw
    rw [ackOp_of h h' he, hm]
    exact if_neg (by decide)
  · refine if_pos ?_
    rcases h with h | h | h | h | h | h | h <;> simp [h]
  · obtain ⟨hopen, hlates⟩ := State.overrun_first h'.1 h.1 hk hn
    have ht : s.ackOverdue.twn.lates = 0 := by
      rw [State.ackOverdue, State.fault_twn, State.fjrBump, State.bump_twn, State.linkSend_twn unsent_lates, hlates, hl]
    rw [ackLateOp_of h h', ht, if_pos (by decide)]
    refine ⟨?_, State.fault_rd _ _ (by decide) (by decide), rfl⟩
    show s.ackOverdue.epo.opened = false
    rw [State.ackOverdue, State.fault_epo, State.fjrBump, State.bump_epo, State.linkSend_epo, hopen]
  · subst hu
    rw [ackLateOp_of h h']
    by_cases hl : s.ackOverdue.twn.lates = 0
    · rw [hl, if_pos (by decide)]
      exact (if_pos hl).symm
    · rw [if_neg (by omega)]
      exact (if_neg hl).symm
  · refine if_pos ?_
    rcases h with h | h | h | h | h | h <;> simp [h]
  · rw [commitOp, if_pos ⟨hm, ho, ha, he⟩]
    exact ⟨rfl, State.commitEpoch_closed _⟩
  · refine if_neg ?_
    rintro ⟨hm, ho, ha, he⟩
    rcases h with h | h | h | h
    · exact h hm
    · exact absurd (h.symm.trans ho) Bool.false_ne_true
    · exact absurd (h.symm.trans ha) Bool.false_ne_true
    · exact h he
  · subst hd hu
    have hop : abandonOp e.toNat 1 s = State.awaitsHost (s.toRejoin.noteMismatch e.toNat (match s.verdict with | some v => v.2 | none => 0)
        (s.on Reg.FJR_PEER_LOCKSTEP)) := (if_neg (by simp [State.follows_standby hm, ho, he])).trans (if_pos ⟨rfl, hm⟩)
    show abandonOp e.toNat 1 s = _ ∧ (abandonOp e.toNat 1 s).rd Reg.FJR_MISMATCH_EPOCH = _ ∧ (abandonOp e.toNat 1 s).epo.opened = false ∧
      (_ → (abandonOp e.toNat 1 s).mode = .rejoin ∧ (abandonOp e.toNat 1 s).rd Reg.FJR_STATUS_REJOIN_STATE = 1)
    rw [hop]
    refine ⟨rfl, ?_, ?_, fun hp => ⟨?_, ?_⟩⟩
    · rw [State.awaitsHost_rd, State.noteMismatch_epoch]
    · rw [State.awaitsHost_epo, State.noteMismatch_epo, State.toRejoin_opened]
    · rw [State.awaitsHost_mode, State.noteMismatch_mode, State.toRejoin_mode, hp]
      rfl
    · rw [State.awaitsHost_rd, State.noteMismatch_rejoinState, (State.toRejoin_shown hp).1]
  · have hop : abandonOp e.toNat k.val s = s.abandonEpoch := by
      refine (if_neg (by simp [hf, ho, he])).trans (if_neg ?_)
      rintro ⟨h1, hm⟩
      rcases hk with hk | hk
      · exact hk (Fin.ext h1)
      · exact absurd (hk.symm.trans hm) Mode.noConfusion
    rw [hop]
    exact ⟨rfl, State.abandonEpoch_opened s, State.abandonEpoch_only (π := State.mode) (unseen_mode (by decide)) s⟩
  · refine if_pos ?_
    rcases h with h | h | h <;> simp [h]
  · subst hm hu
    rw [beaconCopyOp_of h, State.frame_beacon (s := s.beaconKept q.toNat) hl, hk]
    rfl
  · rw [beaconCopyOp_of h, State.frame_beacon (s := s.beaconKept q.toNat) hl, hk]
    rfl
  · exact if_pos h
  · rw [demoteOp, if_pos hm]
    refine ⟨rfl, State.toRejoin_opened s, fun hp => ⟨?_, State.toRejoin_shown hp⟩⟩
    rw [State.toRejoin_mode, hp]
    rfl
  · exact if_neg hm

end Sys2Proof.Machine
end

section
/-! The host interface: what its rings, vectors and faults leave (O20, O21). -/

namespace Sys2Proof.Machine

/-! ## Signals and faults -/

/-- A part of the host interface that no MSI-X vector is part of. -/
def VecPlain {β : Type} (g : Hre → β) : Prop := ∀ (h : Hre) v, g { h with vecs := v } = g h

theorem State.signal_hre {β : Type} {g : Hre → β} (hg : VecPlain g) (s : State) (v : Nat) : g (s.signal v).hre = g s.hre := by
  rw [State.signal]
  split
  · rfl
  · split
    · exact hg ..
    · exact hg ..

theorem State.faultWith_hre {β : Type} {g : Hre → β} (hg : VecPlain g) (s : State) (f : Fld) (d : Nat) : g (s.faultWith f d).hre = g s.hre := by
  simp only [State.faultWith]
  split
  · rfl
  · split
    · exact State.signal_hre hg _ 0
    · split
      · rfl
      · split
        · split
          · rfl
          · rfl
        · rfl

theorem State.fault_hre {β : Type} {g : Hre → β} (hg : VecPlain g) (s : State) (f : Fld) : g (s.fault f).hre = g s.hre := State.faultWith_hre hg s f 0

/-- A part of the host interface that neither a ring nor a vector nor the shadow block is part of. -/
def HostPlain {β : Type} (g : Hre → β) : Prop := ∀ (h : Hre) r v w, g { h with rings := r, vecs := v, shadow := w } = g h

theorem HostPlain.vec {β : Type} {g : Hre → β} (hg : HostPlain g) : VecPlain g := fun h v => hg h h.rings v h.shadow

theorem hostPlain_claimed : HostPlain Hre.claimed := fun _ _ _ _ => rfl
theorem hostPlain_bme : HostPlain Hre.bme := fun _ _ _ _ => rfl
theorem hostPlain_d3hot : HostPlain Hre.d3hot := fun _ _ _ _ => rfl
theorem hostPlain_session : HostPlain Hre.session := fun _ _ _ _ => rfl
theorem hostPlain_served : HostPlain Hre.served := fun _ _ _ _ => rfl
theorem hostPlain_due : HostPlain Hre.due := fun _ _ _ _ => rfl
theorem hostPlain_lossHold : HostPlain Hre.lossHold := fun _ _ _ _ => rfl

theorem State.setRing_plain {β : Type} {g : Hre → β} (hg : HostPlain g) (s : State) (n : Nat) (r : RingSt) : g (s.setRing n r).hre = g s.hre :=
  hg s.hre (AMap.set n r s.hre.rings) s.hre.vecs s.hre.shadow

theorem State.showRing_plain {β : Type} {g : Hre → β} (hg : HostPlain g) (s : State) (n : Nat) : g (s.showRing n).hre = g s.hre := by
  rw [State.showRing]
  split
  · exact hg s.hre s.hre.rings s.hre.vecs _
  · rfl

theorem State.showRing_ring (s : State) (n m : Nat) : (s.showRing n).ring m = s.ring m := by
  rw [State.showRing]
  split
  · rfl
  · rfl

theorem State.raiseLimit_plain {β : Type} {g : Hre → β} (hg : HostPlain g) (s : State) (n : Nat) : g (s.raiseLimit n).hre = g s.hre := by
  simp only [State.raiseLimit]
  split
  · exact (State.showRing_plain hg _ n).trans (State.setRing_plain hg s n _)
  · rfl

theorem State.signalRing_plain {β : Type} {g : Hre → β} (hg : HostPlain g) (s : State) (n : Nat) : g (s.signalRing n).hre = g s.hre := by
  rw [State.signalRing]
  exact (State.signal_hre hg.vec _ _).trans (State.setRing_plain hg s n _)

theorem State.putEntry_plain {β : Type} {g : Hre → β} (hg : HostPlain g) (s : State) (n : Nat) (e : RingEntry) : g (s.putEntry n e).hre = g s.hre := by
  have h (r : RingSt) : g ((s.setRing n r).showRing n).hre = g s.hre := (State.showRing_plain hg _ n).trans (State.setRing_plain hg s n r)
  simp only [State.putEntry]
  split
  · exact (State.signalRing_plain hg _ n).trans (h _)
  · exact h _

theorem State.loseEvents_hre {β : Type} {g : Hre → β} (hg : VecPlain g) (s : State) (n k : Nat) : g (s.loseEvents n k).hre = g s.hre := by
  rw [State.loseEvents]
  split
  · rfl
  · exact (State.fault_hre hg _ _).trans (congrArg g (State.stopBy_hre ..))

/-! ## The loss of the host -/

/-- The loss of a claimed host. -/
theorem State.loseHost_of {s : State} (h : s.hre.claimed = true) :
    s.loseHost = (State.wr { s with hre := { s.hre with lossHold := s.hre.lossHold || (s.on Reg.HRE_HOST_CFG_HOST_LOSS_HOLD && s.mode == .fleetRun) } }
      Reg.HRE_STATUS_HOST_PRESENT 0).fault Reg.HRE_FAULT_HOST_LOST := by
  rw [State.loseHost, h]
  rfl

theorem State.loseHost_unclaimed {s : State} (h : s.hre.claimed = false) : s.loseHost = s := if_pos (by rw [h]; rfl)

theorem State.loseHost_lost {s : State} (h : s.hre.claimed = true) :
    s.loseHost.rd Reg.HRE_STATUS_HOST_PRESENT = 0 ∧ s.loseHost.rd Reg.HRE_FAULT_HOST_LOST = 1 := by
  rw [State.loseHost_of h]
  refine ⟨?_, State.fault_rd _ _ (by decide) (by decide)⟩
  rw [State.rd_fault_ne (by decide) (by decide), State.rd_wr_same]
  rfl

theorem State.loseHost_lossHold {s : State} (h : s.hre.claimed = true) :
    s.loseHost.hre.lossHold = (s.hre.lossHold || (s.on Reg.HRE_HOST_CFG_HOST_LOSS_HOLD && s.mode == .fleetRun)) := by
  rw [State.loseHost_of h, State.fault_hre hostPlain_lossHold.vec]
  rfl

theorem State.loseHost_rd {f : Fld} (h1 : f.key ≠ Reg.HRE_STATUS_HOST_PRESENT.key) (h2 : f.key ≠ Reg.HRE_FAULT_HOST_LOST.key)
    (h3 : f.key ≠ (Reg.MSIX_PENDING 0).key) (s : State) : s.loseHost.rd f = s.rd f := by
  by_cases h : s.hre.claimed = true
  · rw [State.loseHost_of h, State.rd_fault_ne h2 h3, State.rd_wr_ne h1]
    rfl
  · rw [State.loseHost_unclaimed (by simpa using h)]

/-- What the loss of the host leaves of the host interface. -/
def LossPlain {β : Type} (g : Hre → β) : Prop := ∀ (h : Hre) v b, g { h with vecs := v, lossHold := b } = g h

theorem State.loseHost_hre {β : Type} {g : Hre → β} (hg : LossPlain g) (s : State) : g s.loseHost.hre = g s.hre := by
  by_cases h : s.hre.claimed = true
  · rw [State.loseHost_of h, State.fault_hre fun h v => hg h v h.lossHold]
    exact hg s.hre s.hre.vecs (s.hre.lossHold || (s.on Reg.HRE_HOST_CFG_HOST_LOSS_HOLD && s.mode == .fleetRun))
  · rw [State.loseHost_unclaimed (by simpa using h)]

theorem State.loseHost_mode (s : State) : s.loseHost.mode = s.mode := State.loseHost_only (π := State.mode) (unseen_mode (by decide)) s

theorem State.canWrite_shut {s : State} (h : s.rd Reg.HRE_STATUS_LINK_UP = 0 ∨ s.hre.bme = false ∨ s.hre.d3hot = true) : s.canWrite = false := by
  rw [State.canWrite, State.busOpen, State.on]
  rcases h with h | h | h <;> simp [h]

/-! ## The end of a session -/

/-- A part of the host interface that no ring, vector, shadow block or descriptor of an ended session is part of. -/
def SessionPlain {β : Type} (g : Hre → β) : Prop := ∀ (h : Hre) r v w o, g { h with rings := r, vecs := v, shadow := w, old := o } = g h

theorem SessionPlain.host {β : Type} {g : Hre → β} (hg : SessionPlain g) : HostPlain g := fun h r v w => hg h r v w h.old

theorem sessionPlain_served : SessionPlain Hre.served := fun _ _ _ _ _ => rfl

theorem State.ring_congr {s t : State} (h : t.hre.rings = s.hre.rings) (m : Nat) : t.ring m = s.ring m := by rw [State.ring, State.ring, h]

theorem State.loseEvents_ring (s : State) (n k m : Nat) : (s.loseEvents n k).ring m = s.ring m :=
  State.ring_congr (State.loseEvents_hre (fun _ _ => rfl) s n k) m

/-- A closed ring: off, its credits returned. -/
def RingSt.closed (g : RingSt) : RingSt := { RingSt.off with given := g.given, returned := g.given }

/-- A ring closed, before a commit that waits ends. -/
def State.ringShut (s : State) (n : Nat) : State :=
  let u := (s.loseEvents n (s.ring n).waiting.length).setRing n (s.ring n).closed
  { u with hre := { u.hre with old := u.hre.old ++ ((s.ring n).sub.filter (·.done.isNone)).map fun x => ⟨s.hre.session, n, x⟩ } }

theorem State.closeRing_shut (s : State) (n : Nat) : (s.closeRing n).hre = (s.ringShut n).hre := by
  rw [State.closeRing]
  dsimp only
  split
  · exact State.endPending_hre ..
  · rfl

theorem State.ringShut_ring (s : State) (n m : Nat) : (s.ringShut n).ring m = if m = n then (s.ring n).closed else s.ring m := by
  refine Eq.trans (b := ((s.loseEvents n (s.ring n).waiting.length).setRing n (s.ring n).closed).ring m) rfl ?_
  by_cases h : m = n
  · rw [if_pos h, h, State.ring_setRing_same]
  · rw [if_neg h, State.ring_setRing_ne h, State.loseEvents_ring]

theorem State.closeRing_ring (s : State) (n m : Nat) : (s.closeRing n).ring m = if m = n then (s.ring n).closed else s.ring m :=
  (State.ring_of_hre (State.closeRing_shut s n) m).trans (s.ringShut_ring n m)

theorem State.closeRing_plain {β : Type} {g : Hre → β} (hg : SessionPlain g) (s : State) (n : Nat) : g (s.closeRing n).hre = g s.hre := by
  have hu : g ((s.loseEvents n (s.ring n).waiting.length).setRing n (s.ring n).closed).hre = g s.hre :=
    (State.setRing_plain hg.host _ n _).trans (State.loseEvents_hre hg.host.vec s n _)
  rw [State.closeRing_shut, ← hu]
  exact hg _ _ _ _ _

theorem State.closeRings_off (l : List Nat) (s : State) (m : Nat) (h : m ∈ l ∨ (s.ring m).st = .off) : ((l.foldl State.closeRing s).ring m).st = .off := by
  induction l generalizing s with
  | nil => exact h.resolve_left List.not_mem_nil
  | cons n l ih =>
    refine ih _ ?_
    rw [State.closeRing_ring]
    by_cases hm : m = n
    · rw [if_pos hm]
      exact .inr rfl
    · rw [if_neg hm]
      exact h.imp_left fun hc => (List.mem_cons.mp hc).resolve_left hm

theorem State.closeRings_plain {β : Type} {g : Hre → β} (hg : SessionPlain g) (l : List Nat) (s : State) : g (l.foldl State.closeRing s).hre = g s.hre := by
  induction l generalizing s with
  | nil => rfl
  | cons n l ih => exact (ih _).trans (State.closeRing_plain hg s n)

/-- The host interface of a unit whose session is over. -/
def State.unclaimed (s : State) (loss : Bool) : State :=
  { s with hre := { s.hre with claimed := false, session := 0, kick := false, due := [], lockout := true, lossHold := s.hre.lossHold || loss } }

/-- The registers of a unit whose session is over, with its abandoned descriptors counted. -/
def State.sessionShown (s : State) (k : Nat) : State :=
  let v := ((s.wr Reg.HRE_STATUS_CLAIMED 0).wr Reg.HRE_STATUS_HOST_PRESENT 0).wrapBy Reg.HRE_ABANDONED_COUNT k
  ((if k = 0 then v else v.fault Reg.HRE_FAULT_ABANDONED).wr Reg.ATTN_CLAIM_STATUS_CLAIMED 0).wr Reg.ATTN_CLAIM_STATUS_SESSION 0

theorem State.endSession_of {s : State} (h : s.hre.claimed = true) : s.endSession =
    (((List.range 128).foldl State.closeRing s).unclaimed (s.on Reg.HRE_HOST_CFG_HOST_LOSS_HOLD && s.mode == .fleetRun)).sessionShown s.unwritten := by
  rw [State.endSession, h]
  rfl

theorem State.sessionShown_hre {β : Type} {g : Hre → β} (hg : VecPlain g) (s : State) (k : Nat) : g (s.sessionShown k).hre = g s.hre := by
  rw [State.sessionShown]
  rw [State.wr_hre, State.wr_hre]
  split
  · rw [State.wrapBy_hre]
    rfl
  · rw [State.fault_hre hg, State.wrapBy_hre]
    rfl

theorem State.sessionShown_rd (s : State) (k : Nat) : (s.sessionShown k).rd Reg.HRE_STATUS_CLAIMED = 0 ∧ (s.sessionShown k).rd Reg.HRE_STATUS_HOST_PRESENT = 0 ∧
    (s.sessionShown k).rd Reg.ATTN_CLAIM_STATUS_CLAIMED = 0 := by
  have hrest {f : Fld} (h : f.key ≠ Reg.HRE_FAULT_ABANDONED.key) (h' : f.key ≠ (Reg.MSIX_PENDING 0).key) (v : State) :
      State.rd (if k = 0 then v else v.fault Reg.HRE_FAULT_ABANDONED) f = v.rd f := by
    split
    · rfl
    · exact State.rd_fault_ne h h' v
  rw [State.sessionShown]
  refine ⟨?_, ?_, ?_⟩
  · rw [State.rd_wr_ne (by decide), State.rd_wr_ne (by decide), hrest (by decide) (by decide), State.rd_wrapBy_ne (by decide), State.rd_wr_ne (by decide),
      State.rd_wr_same]
    rfl
  · rw [State.rd_wr_ne (by decide), State.rd_wr_ne (by decide), hrest (by decide) (by decide), State.rd_wrapBy_ne (by decide), State.rd_wr_same]
    rfl
  · rw [State.rd_wr_ne (by decide), State.rd_wr_same]
    rfl

theorem State.endSession_served (s : State) : s.endSession.hre.served = s.hre.served := by
  by_cases h : s.hre.claimed = true
  · rw [State.endSession_of h, State.sessionShown_hre (g := Hre.served) fun _ _ => rfl]
    have hc := State.closeRings_plain sessionPlain_served (List.range 128) s
    generalize List.range 128 = l at hc ⊢
    exact hc
  · rw [State.endSession, if_pos (by simpa using h)]

theorem State.endSession_over {s : State} (h : s.hre.claimed = true) : s.endSession.hre.claimed = false ∧ s.endSession.hre.session = 0 ∧
    ∀ n, n < 128 → (s.endSession.ring n).st = .off := by
  rw [State.endSession_of h]
  refine ⟨State.sessionShown_hre (g := Hre.claimed) (fun _ _ => rfl) .., State.sessionShown_hre (g := Hre.session) (fun _ _ => rfl) .., fun n hn => ?_⟩
  rw [State.ring_congr (State.sessionShown_hre (g := Hre.rings) (fun _ _ => rfl) _ _) n]
  have hc := State.closeRings_off (List.range 128) s n (.inl (List.mem_range.mpr hn))
  generalize List.range 128 = l at hc ⊢
  exact hc

/-! ## PERST -/

/-- The registers that PERST resets. -/
def inHost (key : Nat) : Bool := decide (key / 64 % 4294967296 / 65536 = 2 ∨ key / 64 % 4294967296 / 65536 = 4096)

/-- The host interface after PERST. -/
def State.endpointReset (t : State) : State :=
  { t with hre := { Hre.reset with served := t.hre.served, lossHold := t.hre.lossHold, lockout := t.hre.lockout, perst := true, old := t.hre.old, shadow := t.hre.shadow, committed := t.hre.committed, wakeLow := t.hre.wakeLow }, shd := t.shd.filter (fun p => !inHost p.1), cmt := t.cmt.filter (fun key => !inHost key), fld := t.fld.filter (fun p => !inHost p.1) }

theorem State.endpointReset_rd (t : State) {f : Fld} (h : inHost f.key = true) : t.endpointReset.rd f = f.rst := by
  show AMap.get (t.fld.filter fun p => !inHost p.1) f.key f.rst = f.rst
  rw [AMap.get, AMap.find_filter_none (fun v => by rw [h]; rfl)]
  rfl

/-- The end of PERST_ASSERT: the boot cap and the count of abandoned descriptors. -/
def State.perstShown (u : State) (done : Bool) (k : Nat) : State :=
  let w := (if done then u.wr Reg.HRE_STATUS_BOOT_CAP 0 else u).wrapBy Reg.HRE_ABANDONED_COUNT k
  if k = 0 then w else w.fault Reg.HRE_FAULT_ABANDONED

theorem perstAssertOp_eq (s : State) : perstAssertOp s =
    s.endSession.endpointReset.perstShown (s.on Reg.CLK_ADMIT_STATUS_BOOT_DONE) (if s.hre.claimed then s.unwritten else 0) := rfl

theorem State.perstShown_hre {β : Type} {g : Hre → β} (hg : VecPlain g) (u : State) (d : Bool) (k : Nat) : g (u.perstShown d k).hre = g u.hre := by
  have hw : ((if d then u.wr Reg.HRE_STATUS_BOOT_CAP 0 else u).wrapBy Reg.HRE_ABANDONED_COUNT k).hre = u.hre := by
    rw [State.wrapBy_hre]
    split
    · rfl
    · rfl
  rw [State.perstShown]
  split
  · rw [hw]
  · rw [State.fault_hre hg, hw]

theorem State.perstShown_rd {f : Fld} (h1 : f.key ≠ Reg.HRE_STATUS_BOOT_CAP.key) (h2 : f.key ≠ Reg.HRE_ABANDONED_COUNT.key)
    (h3 : f.key ≠ Reg.HRE_FAULT_ABANDONED.key) (h4 : f.key ≠ (Reg.MSIX_PENDING 0).key) (u : State) (d : Bool) (k : Nat) :
    (u.perstShown d k).rd f = u.rd f := by
  have hw : State.rd ((if d then u.wr Reg.HRE_STATUS_BOOT_CAP 0 else u).wrapBy Reg.HRE_ABANDONED_COUNT k) f = u.rd f := by
    rw [State.rd_wrapBy_ne h2]
    split
    · exact State.rd_wr_ne h1 u 0
    · rfl
  rw [State.perstShown]
  split
  · exact hw
  · rw [State.rd_fault_ne h3 h4, hw]

/-! ## HOST_WRITE_RESUME -/

/-- What neither the entries of a ring nor the signals change while the host can be written. -/
structure State.KeepsHost (s t : State) : Prop where
  link : t.rd Reg.HRE_STATUS_LINK_UP = s.rd Reg.HRE_STATUS_LINK_UP
  claimed : t.hre.claimed = s.hre.claimed
  bme : t.hre.bme = s.hre.bme
  d3hot : t.hre.d3hot = s.hre.d3hot
  due : t.hre.due = s.hre.due
  typ : ∀ n, t.ringType n = s.ringType n

theorem State.KeepsHost.refl (s : State) : s.KeepsHost s := ⟨rfl, rfl, rfl, rfl, rfl, fun _ => rfl⟩

theorem State.KeepsHost.trans {s t u : State} (h : s.KeepsHost t) (k : t.KeepsHost u) : s.KeepsHost u :=
  ⟨k.link.trans h.link, k.claimed.trans h.claimed, k.bme.trans h.bme, k.d3hot.trans h.d3hot, k.due.trans h.due, fun n => (k.typ n).trans (h.typ n)⟩

theorem State.KeepsHost.canWrite {s t : State} (h : s.KeepsHost t) : t.canWrite = s.canWrite := by
  rw [State.canWrite, State.busOpen, State.on, h.link, h.claimed, h.bme, h.d3hot, State.canWrite, State.busOpen, State.on]

/-- What changes no register and no plain part of the host interface keeps the way to the host. -/
theorem State.keepsHost_of {s t : State} (hr : t.fld = s.fld) (hp : ∀ {β : Type} {g : Hre → β}, HostPlain g → g t.hre = g s.hre) : s.KeepsHost t :=
  ⟨congrArg (·.read Reg.HRE_STATUS_LINK_UP) hr, hp hostPlain_claimed, hp hostPlain_bme, hp hostPlain_d3hot, hp hostPlain_due,
    fun n => congrArg (·.read (Reg.HRE_RING_CFG_TYPE n)) hr⟩

theorem State.keepsHost_signal (s : State) (v : Nat) : s.KeepsHost (s.signal v) := by
  have hp {β : Type} {g : Hre → β} (hg : HostPlain g) : g (s.signal v).hre = g s.hre := State.signal_hre hg.vec s v
  refine ⟨State.rd_signal_ne ?_ s, hp hostPlain_claimed, hp hostPlain_bme, hp hostPlain_d3hot, hp hostPlain_due, fun n => State.rd_signal_ne ?_ s⟩
  · simp only [Fld.key, Reg.HRE_STATUS_LINK_UP, Reg.MSIX_PENDING]
    omega
  · simp only [Fld.key, Reg.HRE_RING_CFG_TYPE, Reg.MSIX_PENDING]
    omega

theorem State.keepsHost_setRing (s : State) (n : Nat) (r : RingSt) : s.KeepsHost (s.setRing n r) :=
  State.keepsHost_of rfl fun hg => State.setRing_plain hg s n r

theorem State.keepsHost_showRing (s : State) (n : Nat) : s.KeepsHost (s.showRing n) := by
  refine State.keepsHost_of ?_ fun hg => State.showRing_plain hg s n
  rw [State.showRing]
  split
  · rfl
  · rfl

theorem State.keepsHost_raiseLimit (s : State) (n : Nat) : s.KeepsHost (s.raiseLimit n) := by
  simp only [State.raiseLimit]
  split
  · exact (s.keepsHost_setRing n _).trans (State.keepsHost_showRing _ n)
  · exact .refl s

theorem State.keepsHost_putEntry (s : State) (n : Nat) (e : RingEntry) : s.KeepsHost (s.putEntry n e) := by
  have h (r : RingSt) : s.KeepsHost ((s.setRing n r).showRing n) := (s.keepsHost_setRing n r).trans (State.keepsHost_showRing _ n)
  simp only [State.putEntry]
  split
  · refine (h _).trans (State.KeepsHost.trans (State.keepsHost_setRing _ n _) (State.keepsHost_signal _ _))
  · exact h _

theorem State.keepsHost_returnCredits (s : State) (n : Nat) : s.KeepsHost (s.returnCredits n) := by
  simp only [State.returnCredits]
  exact (s.keepsHost_setRing n _).trans (State.keepsHost_raiseLimit _ n)

theorem keepsHost_completionWriteOp {s : State} (h : s.canWrite = true) (n index : Nat) : s.KeepsHost (completionWriteOp n index s) := by
  simp only [completionWriteOp]
  split
  · exact .refl s
  · split
    · exact .refl s
    · split
      · exact .refl s
      · split
        · exact (s.keepsHost_setRing n _).trans (State.keepsHost_returnCredits _ n)
        · rw [h]
          exact (s.keepsHost_setRing n _).trans (State.keepsHost_putEntry _ _ _)

theorem State.keepsHost_foldl {α : Type} {g : State → α → State} (hg : ∀ (s : State) x, s.canWrite = true → s.KeepsHost (g s x)) (l : List α) {s : State}
    (h : s.canWrite = true) : s.KeepsHost (l.foldl g s) := by
  induction l generalizing s with
  | nil => exact .refl s
  | cons x l ih => exact (hg s x h).trans (ih ((hg s x h).canWrite.trans h))

theorem State.keepsHost_flushEvents {s : State} (h : s.canWrite = true) (n : Nat) : s.KeepsHost (s.flushEvents n) := by
  rw [State.flushEvents]
  have hs := s.keepsHost_setRing n { s.ring n with waiting := [] }
  exact hs.trans (State.keepsHost_foldl (fun t x _ => t.keepsHost_putEntry n (.evt x)) _ (hs.canWrite.trans h))

theorem State.keepsHost_resumeVec (s : State) (v : Nat) : s.KeepsHost (s.resumeVec v) := by
  rw [State.resumeVec]
  split
  · have hset (x : VecSt) : s.KeepsHost (s.setVec v x) := State.keepsHost_of rfl fun hg => hg.vec s.hre _
    exact (hset _).trans (State.keepsHost_signal _ v)
  · exact .refl s

/-- Each ring keeps the events that wait. -/
def State.KeepsWaits (s t : State) : Prop := ∀ m, (t.ring m).waiting = (s.ring m).waiting

theorem State.KeepsWaits.trans {s t u : State} (h : s.KeepsWaits t) (k : t.KeepsWaits u) : s.KeepsWaits u := fun m => (k m).trans (h m)

theorem State.keepsWaits_setRing (s : State) (n : Nat) {r : RingSt} (h : r.waiting = (s.ring n).waiting) : s.KeepsWaits (s.setRing n r) := by
  intro m
  by_cases hm : m = n
  · rw [hm, State.ring_setRing_same, h]
  · rw [State.ring_setRing_ne hm]

theorem State.keepsWaits_showRing (s : State) (n : Nat) : s.KeepsWaits (s.showRing n) := fun m => congrArg RingSt.waiting (s.showRing_ring n m)

theorem State.keepsWaits_signal (s : State) (v : Nat) : s.KeepsWaits (s.signal v) := fun m => congrArg RingSt.waiting (s.ring_signal v m)

theorem State.keepsWaits_raiseLimit (s : State) (n : Nat) : s.KeepsWaits (s.raiseLimit n) := by
  simp only [State.raiseLimit]
  split
  · refine State.KeepsWaits.trans (s.keepsWaits_setRing n ?_) (State.keepsWaits_showRing _ n)
    rfl
  · exact fun _ => rfl

theorem State.keepsWaits_putEntry (s : State) (n : Nat) (e : RingEntry) : s.KeepsWaits (s.putEntry n e) := by
  have h (r : RingSt) (hr : r.waiting = (s.ring n).waiting) : s.KeepsWaits ((s.setRing n r).showRing n) :=
    (s.keepsWaits_setRing n hr).trans (State.keepsWaits_showRing _ n)
  simp only [State.putEntry]
  split
  · refine (h _ ?_).trans (State.KeepsWaits.trans (State.keepsWaits_setRing _ n ?_) (State.keepsWaits_signal _ _))
    · rfl
    · rfl
  · exact h _ rfl

theorem State.keepsWaits_returnCredits (s : State) (n : Nat) : s.KeepsWaits (s.returnCredits n) := by
  simp only [State.returnCredits]
  refine State.KeepsWaits.trans (s.keepsWaits_setRing n ?_) (State.keepsWaits_raiseLimit _ n)
  rfl

theorem State.flushEvents_waiting (s : State) (n m : Nat) : ((s.flushEvents n).ring m).waiting = if m = n then [] else (s.ring m).waiting := by
  have hput (l : List EventRec) (t : State) : t.KeepsWaits (l.foldl (fun u r => u.putEntry n (.evt r)) t) := by
    induction l generalizing t with
    | nil => exact fun _ => rfl
    | cons x l ih => exact (t.keepsWaits_putEntry n (.evt x)).trans (ih _)
  rw [State.flushEvents, hput]
  by_cases h : m = n
  · rw [if_pos h, h, State.ring_setRing_same]
  · rw [if_neg h, State.ring_setRing_ne h]

theorem State.keepsWaits_resumeVec (s : State) (v : Nat) : s.KeepsWaits (s.resumeVec v) := by
  rw [State.resumeVec]
  split
  · have hset (x : VecSt) : s.KeepsWaits (s.setVec v x) := fun _ => rfl
    exact (hset _).trans (State.keepsWaits_signal _ v)
  · exact fun _ => rfl

theorem State.keepsWaits_foldl {α : Type} {g : State → α → State} (hg : ∀ (s : State) x, s.KeepsWaits (g s x)) (l : List α) (s : State) :
    s.KeepsWaits (l.foldl g s) := by
  induction l generalizing s with
  | nil => exact fun _ => rfl
  | cons x l ih => exact (hg s x).trans (ih _)

/-- The events of one EVENT ring, written. -/
def State.flushIfEvent (x : State) (n : Nat) : State := if x.ringType n = 4 then x.flushEvents n else x

theorem State.keepsHost_flushIfEvent {s : State} (h : s.canWrite = true) (n : Nat) : s.KeepsHost (s.flushIfEvent n) := by
  rw [State.flushIfEvent]
  split
  · exact State.keepsHost_flushEvents h n
  · exact .refl s

/-- Each EVENT ring of the list ends with no event that waits. -/
theorem State.flushed_waiting (l : List Nat) {s : State} (h : s.canWrite = true) (m : Nat) (ht : s.ringType m = 4)
    (hm : m ∈ l ∨ (s.ring m).waiting = []) : ((l.foldl State.flushIfEvent s).ring m).waiting = [] := by
  induction l generalizing s with
  | nil => exact hm.resolve_left List.not_mem_nil
  | cons n l ih =>
    have hk := State.keepsHost_flushIfEvent h n
    refine ih (hk.canWrite.trans h) ((hk.typ m).trans ht) ?_
    by_cases hn : m = n
    · right
      rw [← hn, State.flushIfEvent, if_pos ht, State.flushEvents_waiting, if_pos rfl]
    · refine hm.imp (fun hc => (List.mem_cons.mp hc).resolve_left hn) fun hw => ?_
      rw [State.flushIfEvent]
      split
      · rw [State.flushEvents_waiting, if_neg hn, hw]
      · exact hw

/-- An enabled ring's word of the shadow block, shown. -/
def State.showIfEnabled (x : State) (n : Nat) : State := if x.on (Reg.HRE_RING_CFG_ENABLE n) then x.showRing n else x

theorem State.keepsHost_showIfEnabled (s : State) (n : Nat) : s.KeepsHost (s.showIfEnabled n) := by
  rw [State.showIfEnabled]
  split
  · exact s.keepsHost_showRing n
  · exact .refl s

theorem State.keepsWaits_showIfEnabled (s : State) (n : Nat) : s.KeepsWaits (s.showIfEnabled n) := by
  rw [State.showIfEnabled]
  split
  · exact s.keepsWaits_showRing n
  · exact fun _ => rfl

/-- No completion is due any more. -/
def State.noneDue (t : State) : State := { t with hre := { t.hre with due := [] } }

/-- The bus, open again. -/
def State.busResumed (s : State) : State := State.wr { s with hre := { s.hre with bme := true, d3hot := false } } Reg.HRE_STATUS_LINK_UP 1

/-- The completions that were due, written. -/
def State.dueWritten (t : State) : State := t.hre.due.foldl (fun x p => completionWriteOp p.1 p.2 x) t.noneDue

/-- What waited for the host, written. -/
def State.waitingWritten (t : State) : State := (List.range 128).foldl State.showIfEnabled ((List.range 128).foldl State.flushIfEvent t.dueWritten)

theorem hostWriteResumeOp_eq (s : State) : hostWriteResumeOp s =
    (List.range 16).foldl State.resumeVec (if !s.busResumed.canWrite then s.busResumed else s.busResumed.waitingWritten) := rfl

theorem State.waitingWritten_keeps {t : State} (h : t.canWrite = true) : t.noneDue.KeepsHost t.waitingWritten := by
  have hd : t.noneDue.canWrite = true := h
  have ha : t.noneDue.KeepsHost t.dueWritten := State.keepsHost_foldl (fun x p hx => keepsHost_completionWriteOp hx p.1 p.2) t.hre.due hd
  have hb : t.dueWritten.KeepsHost ((List.range 128).foldl State.flushIfEvent t.dueWritten) :=
    State.keepsHost_foldl (fun x n hx => State.keepsHost_flushIfEvent hx n) _ (ha.canWrite.trans hd)
  exact (ha.trans hb).trans (State.keepsHost_foldl (fun x n _ => x.keepsHost_showIfEnabled n) _ ((ha.trans hb).canWrite.trans hd))

theorem State.waitingWritten_waiting {t : State} (h : t.canWrite = true) {n : Nat} (hn : n < 128) (ht : t.ringType n = 4) :
    (t.waitingWritten.ring n).waiting = [] := by
  have hd : t.noneDue.canWrite = true := h
  have ha : t.noneDue.KeepsHost t.dueWritten := State.keepsHost_foldl (fun x p hx => keepsHost_completionWriteOp hx p.1 p.2) t.hre.due hd
  rw [State.waitingWritten, State.keepsWaits_foldl State.keepsWaits_showIfEnabled]
  exact State.flushed_waiting _ (ha.canWrite.trans hd) n ((ha.typ n).trans ht) (.inl (List.mem_range.mpr hn))

theorem State.keepsHost_resumeVecs (l : List Nat) (s : State) : s.KeepsHost (l.foldl State.resumeVec s) := by
  induction l generalizing s with
  | nil => exact .refl s
  | cons v l ih => exact (s.keepsHost_resumeVec v).trans (ih _)

theorem State.busResumed_canWrite {s : State} (h : s.hre.claimed = true) : s.busResumed.canWrite = true := by
  have hl : s.busResumed.rd Reg.HRE_STATUS_LINK_UP = 1 := State.rd_wr_same ..
  have hc : s.busResumed.hre.claimed = true := h
  rw [State.canWrite, State.busOpen, State.on, hl, hc]
  rfl

/-- The bus is open after HOST_WRITE_RESUME. -/
theorem hostWriteResumeOp_open (s : State) : (hostWriteResumeOp s).hre.bme = true ∧ (hostWriteResumeOp s).hre.d3hot = false ∧
    (hostWriteResumeOp s).rd Reg.HRE_STATUS_LINK_UP = 1 := by
  have hl : s.busResumed.rd Reg.HRE_STATUS_LINK_UP = 1 := State.rd_wr_same ..
  have hv := State.keepsHost_resumeVecs (List.range 16) (if !s.busResumed.canWrite then s.busResumed else s.busResumed.waitingWritten)
  rw [hostWriteResumeOp_eq, hv.bme, hv.d3hot, hv.link]
  by_cases h : s.busResumed.canWrite = true
  · have hk := State.waitingWritten_keeps h
    rw [if_neg (by rw [h]; decide), hk.bme, hk.d3hot, hk.link]
    exact ⟨rfl, rfl, hl⟩
  · rw [if_pos (by simpa using h)]
    exact ⟨rfl, rfl, hl⟩

theorem hostWriteResumeOp_written {s : State} (h : s.hre.claimed = true) : (hostWriteResumeOp s).hre.due = [] ∧
    ∀ n, n < 128 → s.ringType n = 4 → ((hostWriteResumeOp s).ring n).waiting = [] := by
  have hc := State.busResumed_canWrite h
  have hif : (if !s.busResumed.canWrite then s.busResumed else s.busResumed.waitingWritten) = s.busResumed.waitingWritten :=
    if_neg (by rw [hc]; decide)
  rw [hostWriteResumeOp_eq, hif]
  refine ⟨(State.keepsHost_resumeVecs _ _).due.trans (State.waitingWritten_keeps hc).due, fun n hn ht => ?_⟩
  rw [State.keepsWaits_foldl State.keepsWaits_resumeVec]
  refine State.waitingWritten_waiting hc hn (Eq.trans ?_ ht)
  refine State.rd_wr_ne ?_ _ 1
  simp only [Fld.key, Reg.HRE_RING_CFG_TYPE, Reg.HRE_STATUS_LINK_UP]
  omega

/-! ## The HOST group, the claim and the link's loss -/

/-- The members of the HOST group. -/
def hostGroup : List Fld := [Reg.HRE_DB_BASE_ADDR, Reg.HRE_SH_BASE_ADDR, Reg.HRE_HOST_CFG_SESSION, Reg.HRE_HOST_CFG_HOST_LOSS_HOLD,
  Reg.HRE_POLL_CFG_POLL_PERIOD, Reg.HRE_POLL_CFG_HOST_TIMEOUT]

theorem hostGroup_ne : ∀ f, f ∈ hostGroup → f.key ≠ Reg.HRE_HOST_COMMIT_RESULT.key := by decide

/-- The verdict on the HOST group. -/
def State.hostVerdict (s : State) : Nat :=
  firstFail
    [(s.hre.claimed && [Reg.HRE_DB_BASE_ADDR, Reg.HRE_SH_BASE_ADDR, Reg.HRE_HOST_CFG_SESSION].any (fun f => s.sh f != s.rd f), St.busy),
     (decide (s.sh Reg.HRE_DB_BASE_ADDR = 0 ∨ s.sh Reg.HRE_SH_BASE_ADDR = 0), St.badFormat),
     (decide (s.sh Reg.HRE_DB_BASE_ADDR = s.sh Reg.HRE_SH_BASE_ADDR), St.badFormat),
     (decide (s.sh Reg.HRE_HOST_CFG_SESSION = 0), St.badFormat),
     (decide (s.sh Reg.HRE_POLL_CFG_POLL_PERIOD > 1000), St.badFormat)]

def State.hostCommitted (t : State) : State := { t with hre := { t.hre with committed := true } }

theorem hostCommitOp_of {s : State} (h : s.hre.served = true) : hostCommitOp s =
    if s.hostVerdict = St.done then (s.commit Reg.HRE_HOST_COMMIT_RESULT hostGroup s.hostVerdict).hostCommitted
    else s.commit Reg.HRE_HOST_COMMIT_RESULT hostGroup s.hostVerdict := by
  rw [hostCommitOp, h]
  rfl

theorem State.hostVerdict_done {s : State} (hk : s.hre.claimed = true →
    ∀ f ∈ [Reg.HRE_DB_BASE_ADDR, Reg.HRE_SH_BASE_ADDR, Reg.HRE_HOST_CFG_SESSION], s.sh f = s.rd f)
    (h : s.sh Reg.HRE_DB_BASE_ADDR ≠ 0 ∧ s.sh Reg.HRE_SH_BASE_ADDR ≠ 0 ∧ s.sh Reg.HRE_DB_BASE_ADDR ≠ s.sh Reg.HRE_SH_BASE_ADDR ∧
      s.sh Reg.HRE_HOST_CFG_SESSION ≠ 0 ∧ s.sh Reg.HRE_POLL_CFG_POLL_PERIOD ≤ 1000) : s.hostVerdict = St.done := by
  obtain ⟨h1, h2, h3, h4, h5⟩ := h
  have hc : (s.hre.claimed && [Reg.HRE_DB_BASE_ADDR, Reg.HRE_SH_BASE_ADDR, Reg.HRE_HOST_CFG_SESSION].any (fun f => s.sh f != s.rd f)) = false := by
    cases hcl : s.hre.claimed with
    | false => rfl
    | true =>
      refine List.any_eq_false.mpr fun f hf => ?_
      rw [hk hcl f hf]
      simp
  rw [State.hostVerdict, hc, decide_eq_false (by omega), decide_eq_false h3, decide_eq_false h4, decide_eq_false (by omega)]
  rfl

/-- Bus Master Enable, as the claim's write finds it. -/
def State.busMaster (s : State) (bme : Bool) : State := { s with hre := { s.hre with bme := bme } }

theorem claimWrite_release {s : State} {v : Nat} {bme : Bool} (hs : s.hre.served = true) (h31 : bits v 31 1 = 0) (h30 : bits v 30 1 = 1) :
    claimWrite v bme s = (s.busMaster bme).endSession.wr Reg.ATTN_CLAIM_STATUS_STATUS St.done := by
  rw [claimWrite, hs, h31, h30]
  exact (if_neg (by decide)).trans ((if_neg (by decide)).trans (if_pos rfl))

/-- The claimed unit, before the local reset attempt is refused. -/
def State.claimTaken (s : State) (ses : Nat) : State :=
  ((State.wr { s with hre := { s.hre with claimed := true, session := ses } } Reg.HRE_STATUS_CLAIMED 1).wr Reg.ATTN_CLAIM_STATUS_CLAIMED 1).wr
    Reg.ATTN_CLAIM_STATUS_SESSION ses

/-- A claim refuses a local reset attempt that runs. -/
def State.claimRefuses (u : State) : State := if u.trp.arm = some true then u.refuseArm else u

/-- The claim's mode and answer. -/
def State.claimAnswered (w : State) : State :=
  (if w.mode = .pantry then w.enterMode .hostedIdle else w).wr Reg.ATTN_CLAIM_STATUS_STATUS St.done

theorem claimWrite_claim {s : State} {v : Nat} (hs : s.hre.served = true) (hc : s.hre.committed = true) (hu : s.hre.claimed = false)
    (h : s.pwr.pfailLatched = false ∧ s.pwr.pdown = none) (hb : bits v 31 1 = 1 ∧ bits v 30 1 = 0) (h0 : bits v 0 16 ≠ 0)
    (hses : bits v 0 16 = s.rd Reg.HRE_HOST_CFG_SESSION) :
    claimWrite v true s = ((s.busMaster true).claimTaken (bits v 0 16)).claimRefuses.claimAnswered := by
  obtain ⟨hp, hd⟩ := h
  obtain ⟨h31, h30⟩ := hb
  rw [claimWrite, hs, h31, h30]
  refine (if_neg (by decide)).trans ((if_neg (by decide)).trans ((if_neg (by decide)).trans ?_))
  refine (if_neg ?_).trans ((if_neg ?_).trans ((if_neg (by decide)).trans ((if_neg ?_).trans (if_neg ?_))))
  · show ¬ (s.pwr.pfailLatched || s.pwr.pdown.isSome) = true
    rw [hp, hd]
    decide
  · show ¬ (!s.hre.committed) = true
    rw [hc]
    decide
  · rintro (h | h)
    · exact h0 h
    · exact h hses
  · show ¬ s.hre.claimed = true
    rw [hu]
    decide

theorem State.claimRefuses_of {β : Type} {π : State → β} (h : ∀ t : State, π (t.stopBy Reg.PIN_LOCAL_RESET_COUNT_REFUSED 1) = π t)
    (ht : ∀ (t : State) x, π { t with trp := x } = π t) (u : State) : π u.claimRefuses = π u := by
  rw [State.claimRefuses]
  split
  · next ha =>
    rw [State.refuseArm, ha]
    exact (h _).trans (ht ..)
  · rfl

theorem State.claimAnswered_of {β : Type} {π : State → β} (h : ∀ t : State, π (t.enterMode .hostedIdle) = π t)
    (ht : ∀ (t : State) v, π (t.wr Reg.ATTN_CLAIM_STATUS_STATUS v) = π t) (w : State) : π w.claimAnswered = π w := by
  rw [State.claimAnswered, ht]
  split
  · exact h ..
  · rfl

theorem State.hostedIdle_rd {f : Fld} (h : ∀ t : State, (t.enter .hostedIdle).rd f = t.rd f)
    (hc : ∀ g ∈ [Reg.COR_CLIENTS, Reg.COR_STATUS_CASTER_OPEN, Reg.PIN_PANTRY_STATUS_CASTER_OPEN], f.key ≠ g.key) (s : State) :
    (s.enterMode .hostedIdle).rd f = s.rd f :=
  State.enterMode_of (π := fun s => s.rd f) (unseen_rd (by decide) (Nat.testBit_lt_two_pow (lt_of_lt_of_le (b := 2 ^ 40) (by decide)
    (Nat.pow_le_pow_right (by decide) (Nat.le_add_right _ _))))) h (fun t => t.showCaster_rd hc) (by decide) s

theorem State.hostedIdle_hre {β : Type} {g : Hre → β} (hg : VecPlain g) (s : State) : g (s.enterMode .hostedIdle).hre = g s.hre :=
  State.enterMode_of (π := fun s => g s.hre) ((unseen_hre (by decide)).map g) (fun _ => State.signal_hre hg _ 0) (fun _ => rfl) (by decide) s

/-- A claim's effects on the host interface and what shows it. -/
theorem State.claimed_shown (s : State) (ses : Nat) :
    (s.claimTaken ses).claimRefuses.claimAnswered.hre.claimed = true ∧ (s.claimTaken ses).claimRefuses.claimAnswered.hre.session = ses ∧
      (s.claimTaken ses).claimRefuses.claimAnswered.rd Reg.ATTN_CLAIM_STATUS_CLAIMED = 1 ∧
      (s.claimTaken ses).claimRefuses.claimAnswered.rd Reg.HRE_STATUS_CLAIMED = 1 := by
  have hh {β : Type} {g : Hre → β} (hg : VecPlain g) : g (s.claimTaken ses).claimRefuses.claimAnswered.hre = g (s.claimTaken ses).hre :=
    (State.claimAnswered_of (π := fun t => g t.hre) (State.hostedIdle_hre hg) (fun _ _ => rfl) _).trans
      (State.claimRefuses_of (π := fun t => g t.hre) (fun _ => congrArg g (State.stopBy_hre ..)) (fun _ _ => rfl) _)
  have hr {f : Fld} (h1 : ∀ t : State, (t.enter .hostedIdle).rd f = t.rd f)
      (h2 : ∀ g ∈ [Reg.COR_CLIENTS, Reg.COR_STATUS_CASTER_OPEN, Reg.PIN_PANTRY_STATUS_CASTER_OPEN], f.key ≠ g.key)
      (h3 : f.key ≠ Reg.ATTN_CLAIM_STATUS_STATUS.key) (h4 : f.key ≠ Reg.PIN_LOCAL_RESET_COUNT_REFUSED.key) :
      (s.claimTaken ses).claimRefuses.claimAnswered.rd f = (s.claimTaken ses).rd f :=
    (State.claimAnswered_of (π := fun t => t.rd f) (State.hostedIdle_rd h1 h2) (fun t v => State.rd_wr_ne h3 t v) _).trans
      (State.claimRefuses_of (π := fun t => t.rd f) (fun t => State.rd_stopBy_ne h4 t 1) (fun _ _ => rfl) _)
  refine ⟨hh (g := Hre.claimed) fun _ _ => rfl, hh (g := Hre.session) fun _ _ => rfl,
    (hr (fun t => State.rd_enter_ne (by decide) t _) (by decide) (by decide) (by decide)).trans ?_,
    (hr (fun t => State.rd_enter_ne (by decide) t _) (by decide) (by decide) (by decide)).trans ?_⟩
  · rw [State.claimTaken, State.rd_wr_ne (by decide), State.rd_wr_same]
    rfl
  · rw [State.claimTaken, State.rd_wr_ne (by decide), State.rd_wr_ne (by decide), State.rd_wr_same]
    rfl

theorem State.claimed_mode {s : State} (h : s.pwr.pfailLatched = false) (ses : Nat) :
    (s.claimTaken ses).claimRefuses.claimAnswered.mode = if s.mode = .pantry then .hostedIdle else s.mode := by
  have hm : (s.claimTaken ses).claimRefuses.mode = s.mode := State.claimRefuses_of (π := State.mode) (fun _ => State.stopBy_mode ..) (fun _ _ => rfl) _
  have hp : (s.claimTaken ses).claimRefuses.pwr = s.pwr := State.claimRefuses_of (π := State.pwr) (fun _ => State.stopBy_pwr ..) (fun _ _ => rfl) _
  rw [State.claimAnswered, State.wr_mode, hm]
  split
  · exact State.enterMode_mode (by rw [hp]; exact h) _
  · exact hm

theorem State.endSession_shown {s : State} (h : s.hre.claimed = true) : s.endSession.rd Reg.HRE_STATUS_CLAIMED = 0 ∧
    s.endSession.rd Reg.HRE_STATUS_HOST_PRESENT = 0 ∧ s.endSession.rd Reg.ATTN_CLAIM_STATUS_CLAIMED = 0 := by
  rw [State.endSession_of h]
  exact State.sessionShown_rd ..

/-- A claimed link's loss, before the host is lost with it. -/
def State.linkLost (s : State) : State := (s.wr Reg.HRE_STATUS_LINK_UP 0).fault Reg.HRE_FAULT_LINK_DOWN

theorem linkL0LossOp_claimed {s : State} (h : s.hre.claimed = true) (long : Bool) :
    linkL0LossOp long s = if long then s.linkLost.loseHost else s.linkLost := by
  rw [linkL0LossOp, if_pos h]
  rfl

theorem State.linkLost_rd {f : Fld} (h1 : f.key ≠ Reg.HRE_STATUS_LINK_UP.key) (h2 : f.key ≠ Reg.HRE_FAULT_LINK_DOWN.key)
    (h3 : f.key ≠ (Reg.MSIX_PENDING 0).key) (s : State) : s.linkLost.rd f = s.rd f := by
  rw [State.linkLost, State.rd_fault_ne h2 h3, State.rd_wr_ne h1]

theorem State.linkLost_down (s : State) : s.linkLost.rd Reg.HRE_STATUS_LINK_UP = 0 := by
  rw [State.linkLost, State.rd_fault_ne (by decide) (by decide), State.rd_wr_same]
  rfl

theorem State.linkLost_fault (s : State) : s.linkLost.rd Reg.HRE_FAULT_LINK_DOWN = 1 := State.fault_rd _ _ (by decide) (by decide)

theorem State.linkLost_claimed (s : State) : s.linkLost.hre.claimed = s.hre.claimed := State.fault_hre hostPlain_claimed.vec ..

theorem State.linkLost_lossHold (s : State) : s.linkLost.hre.lossHold = s.hre.lossHold := State.fault_hre hostPlain_lossHold.vec ..

theorem State.linkLost_mode (s : State) : s.linkLost.mode = s.mode := State.fault_mode ..

/-- Settles O20: the endpoint's operations, each by the branch that the state is in. -/
theorem hostEndpoint : Obligations.HostEndpoint := by
  refine ⟨fun s hup => ?_, fun s speed width hup hs hw => ?_, fun s hup => ?_, fun s hup => ?_, fun s hup hs hk h1 h2 h3 h4 h5 => ?_,
    fun s v hup hs hc hu hp hd h31 h30 h0 hses => ?_, fun s v bme hup hs hc h31 h30 => ?_, fun s hup hc ht => ?_, fun s hup hc => ?_,
    fun s hup hc => ?_, fun s hup hc => ?_, fun s hup hc => ?_, fun s hup hc => ?_, fun s hup hc => ?_, fun s hup => ?_, fun s hup hs => ?_⟩ <;>
    refine Gives.of_main hup rfl ?_
  · rw [perstAssertOp_eq]
    have hh {β : Type} {g : Hre → β} (hg : VecPlain g) := State.perstShown_hre hg s.endSession.endpointReset
    have hr {f : Fld} (hf : inHost f.key = true) (h1 : f.key ≠ Reg.HRE_STATUS_BOOT_CAP.key) (h2 : f.key ≠ Reg.HRE_ABANDONED_COUNT.key)
        (h3 : f.key ≠ Reg.HRE_FAULT_ABANDONED.key) (h4 : f.key ≠ (Reg.MSIX_PENDING 0).key) (d : Bool) (k : Nat) :
        (s.endSession.endpointReset.perstShown d k).rd f = f.rst := (State.perstShown_rd h1 h2 h3 h4 _ d k).trans (State.endpointReset_rd _ hf)
    refine ⟨hh (g := Hre.perst) (fun _ _ => rfl) _ _, hh (g := Hre.claimed) (fun _ _ => rfl) _ _, hh (g := Hre.session) (fun _ _ => rfl) _ _,
      hh (g := Hre.rings) (fun _ _ => rfl) _ _, ?_, ?_, hr (by decide) (by decide) (by decide) (by decide) (by decide) _ _,
      hr (by decide) (by decide) (by decide) (by decide) (by decide) _ _, hr (by decide) (by decide) (by decide) (by decide) (by decide) _ _,
      hr (by decide) (by decide) (by decide) (by decide) (by decide) _ _⟩
    · rw [hh (g := Hre.served) (fun _ _ => rfl)]
      exact State.endSession_served s
    · rw [← perstAssertOp_eq]
      exact perstAssertOp_only (π := State.mode) (unseen_mode (by decide)) s
  · have hsp : speed.val = 1 ∨ speed.val = 2 ∨ speed.val = 3 := by rcases hs with rfl | rfl | rfl <;> decide
    have hwd : width.val = 1 ∨ width.val = 2 ∨ width.val = 4 := by rcases hw with rfl | rfl | rfl <;> decide
    rw [pcieLinkUpOp, if_neg (by omega)]
    refine ⟨?_, ?_, ?_, rfl, rfl, rfl⟩
    · rw [State.rd_wr_ne (by decide), State.rd_wr_ne (by decide), State.rd_wr_same]
      rfl
    · rw [State.rd_wr_ne (by decide), State.rd_wr_same]
      exact Nat.mod_eq_of_lt (show speed.val < 8 by omega)
    · rw [State.rd_wr_same]
      exact Nat.mod_eq_of_lt (show width.val < 16 by omega)
  · exact ⟨rfl, rfl, rfl⟩
  · have hw : (hostAdmissionOpenOp s).hre.wakeLow = ((bits s.pwr.relCause Reg.CLK_RESET_CAUSE_WAKE.lo 1 == 1 ||
        bits s.pwr.relCause Reg.CLK_RESET_CAUSE_PFAIL_RESTART.lo 1 == 1 || bits s.pwr.relCause Reg.CLK_RESET_CAUSE_THERM_CUT.lo 1 == 1) &&
          !s.on Reg.HRE_STATUS_LINK_UP) := rfl
    refine ⟨rfl, rfl, rfl, fun hl h => ?_, fun hl h => ?_, fun hl h => ?_, fun h1 h2 h3 => ?_⟩
    · rw [hw, hl, h]
      rfl
    · rw [hw, hl, h]
      simp
    · rw [hw, hl, h]
      simp
    · rw [hw, h1, h2, h3]
      rfl
  · have hv : s.hostVerdict = St.done := State.hostVerdict_done hk ⟨h1, h2, h3, h4, h5⟩
    have hop : hostCommitOp s = (s.commit Reg.HRE_HOST_COMMIT_RESULT hostGroup St.done).hostCommitted := by
      rw [hostCommitOp_of hs, hv]
      exact if_pos rfl
    rw [hop]
    refine ⟨State.commit_result .., rfl, fun f hf => ?_⟩
    exact State.commit_live (r := Reg.HRE_HOST_COMMIT_RESULT) hostGroup hf (by decide) (hostGroup_ne f hf) s
  · rw [claimWrite_claim hs hc hu ⟨hp, hd⟩ ⟨h31, h30⟩ h0 hses]
    obtain ⟨k1, k2, k3, k4⟩ := (s.busMaster true).claimed_shown (bits v.toNat 0 16)
    exact ⟨k1, k2, State.rd_wr_same .., k3, k4, State.claimed_mode (s := s.busMaster true) hp _⟩
  · rw [claimWrite_release hs h31 h30]
    obtain ⟨h1, h2, h3⟩ := State.endSession_over (s := s.busMaster bme) hc
    obtain ⟨r1, r2, r3⟩ := State.endSession_shown (s := s.busMaster bme) hc
    refine ⟨h1, h2, State.rd_wr_same .., ?_, ?_, ?_, ?_, h3⟩
    · rw [State.rd_wr_ne (by decide), r3]
    · rw [State.rd_wr_ne (by decide), r1]
    · rw [State.rd_wr_ne (by decide), r2]
    · exact State.endSession_only (π := State.mode) (unseen_mode (by decide)) (s.busMaster bme)
  · rw [hostAliveTimeoutOp, if_neg ht]
    obtain ⟨hl, hf⟩ := State.loseHost_lost hc
    exact ⟨hl, hf, State.loseHost_mode s, State.loseHost_only (π := State.trp) (unseen_trp (by decide)) s, State.loseHost_lossHold hc⟩
  · rw [linkL0LossOp_claimed hc, if_pos rfl]
    obtain ⟨hl, hf⟩ := State.loseHost_lost (s.linkLost_claimed.trans hc)
    have hup0 : s.linkLost.loseHost.rd Reg.HRE_STATUS_LINK_UP = 0 := (State.loseHost_rd (by decide) (by decide) (by decide) _).trans s.linkLost_down
    refine ⟨hup0, (State.loseHost_rd (by decide) (by decide) (by decide) _).trans s.linkLost_fault, hl, hf, State.canWrite_shut (.inl hup0),
      (State.loseHost_mode _).trans s.linkLost_mode, ?_⟩
    rw [State.loseHost_lossHold (s.linkLost_claimed.trans hc), s.linkLost_lossHold, s.linkLost_mode, State.on, s.linkLost_rd (by decide) (by decide) (by decide),
      State.on]
  · rw [linkL0LossOp_claimed hc, if_neg (by decide)]
    exact ⟨s.linkLost_down, s.linkLost_fault, s.linkLost_rd (by decide) (by decide) (by decide), State.canWrite_shut (.inl s.linkLost_down), s.linkLost_mode,
      s.linkLost_claimed.trans hc⟩
  · have hb : (busMasterClearOp s).hre.bme = false := State.loseHost_hre (g := Hre.bme) (fun _ _ _ => rfl) { s with hre := { s.hre with bme := false } }
    obtain ⟨hl, hf⟩ := State.loseHost_lost (s := { s with hre := { s.hre with bme := false } }) hc
    exact ⟨hb, hl, hf, State.canWrite_shut (.inr (.inl hb)), State.loseHost_mode _⟩
  · have hop : busMasterClearOp s = { s with hre := { s.hre with bme := false } } := State.loseHost_unclaimed (s := { s with hre := { s.hre with bme := false } }) hc
    rw [hop]
    exact ⟨rfl, rfl, State.canWrite_shut (.inr (.inl rfl))⟩
  · have hb : (d3hotEntryOp s).hre.d3hot = true := State.loseHost_hre (g := Hre.d3hot) (fun _ _ _ => rfl) { s with hre := { s.hre with d3hot := true } }
    obtain ⟨hl, hf⟩ := State.loseHost_lost (s := { s with hre := { s.hre with d3hot := true } }) hc
    exact ⟨hb, hl, hf, State.canWrite_shut (.inr (.inr hb)), State.loseHost_mode _⟩
  · have hop : d3hotEntryOp s = { s with hre := { s.hre with d3hot := true } } := State.loseHost_unclaimed (s := { s with hre := { s.hre with d3hot := true } }) hc
    rw [hop]
    exact ⟨rfl, rfl, State.canWrite_shut (.inr (.inr rfl))⟩
  · obtain ⟨hb, hd, hl⟩ := hostWriteResumeOp_open s
    exact ⟨hb, hd, hl, hostWriteResumeOp_only (π := State.mode) (unseen_mode (by decide)) s, fun hc => hostWriteResumeOp_written hc⟩
  · rw [attnKickOp, if_pos hs]
    exact ⟨rfl, rfl, rfl⟩

end Sys2Proof.Machine
end

section
/-! The host rings (O21). -/

namespace Sys2Proof.Machine

/-! ## The scan of the doorbells -/

theorem State.haltRing_plain {β : Type} {g : Hre → β} (hg : HostPlain g) (s : State) (n st : Nat) : g (s.haltRing n st).hre = g s.hre :=
  (State.fault_hre hg.vec _ _).trans (State.setRing_plain hg s n _)

theorem State.haltRing_ring (s : State) (n st m : Nat) :
    (s.haltRing n st).ring m = if m = n then { s.ring n with st := .halted, lastErr := st } else s.ring m := by
  rw [State.haltRing, State.ring_congr (State.fault_hre (g := Hre.rings) (fun _ _ => rfl) _ _) m]
  by_cases h : m = n
  · rw [if_pos h, h, State.ring_setRing_same]
  · rw [if_neg h, State.ring_setRing_ne h]

theorem State.haltRing_rd {f : Fld} (h1 : f.key ≠ Reg.HRE_FAULT_RING_HALTED.key) (h2 : f.key ≠ (Reg.MSIX_PENDING 0).key) (s : State) (n st : Nat) :
    (s.haltRing n st).rd f = s.rd f := by
  rw [State.haltRing, State.rd_fault_ne h1 h2]
  rfl

/-- A register that a scan of the doorbells leaves. -/
def Fld.scanFree (f : Fld) : Prop := f.key ≠ Reg.HRE_FAULT_RING_HALTED.key ∧ f.key ≠ (Reg.MSIX_PENDING 0).key ∧ f.key ≠ Reg.HRE_FAULT_STALE_DB.key ∧
  f.key ≠ Reg.HRE_STALE_DB_COUNT.key

theorem State.doorbell_rd {f : Fld} (h : f.scanFree) (s : State) (n w : Nat) : (s.doorbell n w).rd f = s.rd f := by
  obtain ⟨h1, h2, h3, h4⟩ := h
  simp only [State.doorbell]
  split
  · rfl
  · split
    · rw [State.rd_wrapBy_ne h4, State.rd_fault_ne h3 h2]
    · split
      · rfl
      · split
        · exact State.haltRing_rd h1 h2 ..
        · rfl

theorem State.doorbell_plain {β : Type} {g : Hre → β} (hg : HostPlain g) (s : State) (n w : Nat) : g (s.doorbell n w).hre = g s.hre := by
  simp only [State.doorbell]
  split
  · rfl
  · split
    · rw [State.wrapBy_hre, State.fault_hre hg.vec]
    · split
      · exact State.setRing_plain hg ..
      · split
        · exact State.haltRing_plain hg ..
        · exact State.setRing_plain hg ..

theorem State.doorbell_ring_ne {n m : Nat} (h : m ≠ n) (s : State) (w : Nat) : (s.doorbell n w).ring m = s.ring m := by
  simp only [State.doorbell]
  split
  · rfl
  · split
    · exact State.ring_congr (congrArg Hre.rings (State.wrapBy_hre ..) |>.trans (State.fault_hre (g := Hre.rings) (fun _ _ => rfl) _ _)) m
    · split
      · exact State.ring_setRing_ne h ..
      · split
        · rw [State.haltRing_ring, if_neg h]
        · exact State.ring_setRing_ne h ..

/-- A doorbell word of the session, at a submission ring. -/
theorem State.doorbell_sub {s : State} {n w : Nat} (ho : (s.ring n).st ≠ .off) (hs : bits w 16 16 = s.hre.session) (ht : s.ringType n ≤ 2) :
    (s.doorbell n w).ring n = { s.ring n with db := bits w 0 16 } := by
  have hd : s.doorbell n w = s.setRing n { s.ring n with db := bits w 0 16 } :=
    (if_neg ho).trans ((if_neg (not_not.mpr hs)).trans (if_pos ht))
  rw [hd, State.ring_setRing_same]

/-- A head of the session within the producer index, at a COMPLETION or EVENT ring. -/
theorem State.doorbell_head {s : State} {n w : Nat} (ho : (s.ring n).st ≠ .off) (hs : bits w 16 16 = s.hre.session) (ht : 2 < s.ringType n)
    (hi : idxDiff (bits w 0 16) (s.ring n).head ≤ idxDiff (s.ring n).index (s.ring n).head) : (s.doorbell n w).ring n =
      { s.ring n with head := bits w 0 16, db := bits w 0 16, entries := (s.ring n).entries.drop (idxDiff (bits w 0 16) (s.ring n).head) } := by
  have hd : s.doorbell n w = s.setRing n { s.ring n with head := bits w 0 16, db := bits w 0 16, entries := (s.ring n).entries.drop (idxDiff (bits w 0 16) (s.ring n).head) } :=
    (if_neg ho).trans ((if_neg (not_not.mpr hs)).trans ((if_neg (not_le.mpr ht)).trans (if_neg (not_lt.mpr hi))))
  rw [hd, State.ring_setRing_same]

/-- The doorbells of a list of rings, taken in order. -/
def State.doorbells (words : Vector Word 128) (s : State) (l : List (Fin 128)) : State :=
  l.foldl (fun (x : State) n => x.doorbell n.val words[n].toNat) s

theorem State.doorbells_rd {f : Fld} (h : f.scanFree) (words : Vector Word 128) (l : List (Fin 128)) (s : State) : (s.doorbells words l).rd f = s.rd f := by
  induction l generalizing s with
  | nil => rfl
  | cons n l ih => exact (ih _).trans (State.doorbell_rd h s n.val _)

theorem State.doorbells_plain {β : Type} {g : Hre → β} (hg : HostPlain g) (words : Vector Word 128) (l : List (Fin 128)) (s : State) :
    g (s.doorbells words l).hre = g s.hre := by
  induction l generalizing s with
  | nil => rfl
  | cons n l ih => exact (ih _).trans (State.doorbell_plain hg s n.val _)

theorem State.doorbells_ring_ne (words : Vector Word 128) {l : List (Fin 128)} {n : Fin 128} (h : n ∉ l) (s : State) :
    (s.doorbells words l).ring n.val = s.ring n.val := by
  induction l generalizing s with
  | nil => rfl
  | cons m l ih =>
    have hnm : n.val ≠ m.val := fun e => h (List.mem_cons.mpr (.inl (Fin.ext e)))
    exact (ih (fun hc => h (List.mem_cons_of_mem _ hc)) _).trans (State.doorbell_ring_ne hnm s _)

theorem ringType_scanFree (n : Nat) : (Reg.HRE_RING_CFG_TYPE n).scanFree := by
  refine ⟨?_, ?_, ?_, ?_⟩ <;>
  · simp only [Fld.key, Reg.HRE_RING_CFG_TYPE, Reg.HRE_FAULT_RING_HALTED, Reg.MSIX_PENDING, Reg.HRE_FAULT_STALE_DB, Reg.HRE_STALE_DB_COUNT]
    omega

/-- One ring takes its own doorbell, as if it were the only one. -/
theorem State.doorbells_ring (words : Vector Word 128) (n : Fin 128) (s : State) : ∃ t : State, t.ring n.val = s.ring n.val ∧ t.hre.session = s.hre.session ∧
    t.ringType n.val = s.ringType n.val ∧ (s.doorbells words (List.finRange 128)).ring n.val = (t.doorbell n.val words[n].toNat).ring n.val := by
  obtain ⟨a, b, hab⟩ := List.mem_iff_append.mp (List.mem_finRange n)
  have hnd : (a ++ n :: b).Nodup := hab ▸ List.nodup_finRange 128
  have ha : n ∉ a := fun hc => List.disjoint_of_nodup_append hnd hc List.mem_cons_self
  have hb : n ∉ b := (List.nodup_cons.mp (List.nodup_append.mp hnd).2.1).1
  refine ⟨s.doorbells words a, State.doorbells_ring_ne words ha s, State.doorbells_plain hostPlain_session words a s,
    State.doorbells_rd (ringType_scanFree n.val) words a s, ?_⟩
  rw [hab, State.doorbells, List.foldl_append, List.foldl_cons]
  exact State.doorbells_ring_ne words hb _

/-! ## The credits returned after a scan -/

/-- What a return of credits keeps of a ring. -/
def RingSt.SameEnds (g h : RingSt) : Prop := h.db = g.db ∧ h.head = g.head ∧ h.entries = g.entries

theorem State.setRing_ends (s : State) (n : Nat) {r : RingSt} (h : (s.ring n).SameEnds r) (m : Nat) : (s.ring m).SameEnds ((s.setRing n r).ring m) := by
  by_cases hm : m = n
  · rw [hm, State.ring_setRing_same]
    exact h
  · rw [State.ring_setRing_ne hm]
    exact ⟨rfl, rfl, rfl⟩

theorem State.raiseLimit_ends (s : State) (n m : Nat) : (s.ring m).SameEnds ((s.raiseLimit n).ring m) := by
  simp only [State.raiseLimit]
  split
  · rw [State.showRing_ring]
    refine State.setRing_ends s n ?_ m
    exact ⟨rfl, rfl, rfl⟩
  · exact ⟨rfl, rfl, rfl⟩

theorem RingSt.SameEnds.trans {a b c : RingSt} (h : a.SameEnds b) (k : b.SameEnds c) : a.SameEnds c :=
  ⟨k.1.trans h.1, k.2.1.trans h.2.1, k.2.2.trans h.2.2⟩

theorem State.returnCredits_ends (s : State) (n m : Nat) : (s.ring m).SameEnds ((s.returnCredits n).ring m) := by
  simp only [State.returnCredits]
  refine RingSt.SameEnds.trans (State.setRing_ends s n ?_ m) (State.raiseLimit_ends _ n m)
  exact ⟨rfl, rfl, rfl⟩

theorem State.returnCredits_plain {β : Type} {g : Hre → β} (hg : HostPlain g) (s : State) (n : Nat) : g (s.returnCredits n).hre = g s.hre := by
  simp only [State.returnCredits]
  exact (State.raiseLimit_plain hg _ n).trans (State.setRing_plain hg s n _)

theorem State.returnCredits_rd (s : State) (n : Nat) (f : Fld) : (s.returnCredits n).rd f = s.rd f := by
  simp only [State.returnCredits, State.raiseLimit, State.showRing]
  split
  · split
    · rfl
    · rfl
  · rfl

theorem State.returnAll_plain {β : Type} {g : Hre → β} (hg : HostPlain g) (l : List Nat) (s : State) : g (s.returnAll l).hre = g s.hre := by
  induction l generalizing s with
  | nil => rfl
  | cons n l ih =>
    rw [State.returnAll, ih]
    split
    · exact State.returnCredits_plain hg s n
    · rfl

theorem State.returnAll_rd (l : List Nat) (s : State) (f : Fld) : (s.returnAll l).rd f = s.rd f := by
  induction l generalizing s with
  | nil => rfl
  | cons n l ih =>
    rw [State.returnAll, ih]
    split
    · exact State.returnCredits_rd s n f
    · rfl

theorem State.returnAll_ends (l : List Nat) (s : State) (m : Nat) : (s.ring m).SameEnds ((s.returnAll l).ring m) := by
  induction l generalizing s with
  | nil => exact ⟨rfl, rfl, rfl⟩
  | cons n l ih =>
    rw [State.returnAll]
    refine RingSt.SameEnds.trans ?_ (ih _)
    split
    · exact State.returnCredits_ends s n m
    · exact ⟨rfl, rfl, rfl⟩

/-! ## The whole scan -/

/-- The kick, taken. -/
def State.kickTaken (s : State) : State := { s with hre := { s.hre with kick := false } }

/-- HOST_ALIVE, noted. -/
def State.aliveNoted (t : State) (alive : Nat) : State :=
  if alive = t.hre.alive then t else State.wr { t with hre := { t.hre with alive := alive } } Reg.HRE_STATUS_HOST_PRESENT 1

/-- The doorbells taken and the credits returned. -/
def State.scanned (u : State) (words : Vector Word 128) : State := (u.doorbells words (List.finRange 128)).returnAll (List.range 128)

/-- DEVICE_ALIVE, moved. -/
def State.ticked (v : State) : State := { v with hre := { v.hre with devAlive := (v.hre.devAlive + 1) % 4294967296 } }

theorem State.ticked_ring (v : State) (n : Nat) : v.ticked.ring n = v.ring n := rfl

theorem State.ticked_canWrite (v : State) : v.ticked.canWrite = v.canWrite := rfl

theorem doorbellScanOp_of {s : State} (hc : s.hre.claimed = true) (hk : s.hre.kick = true ∨ s.rd Reg.HRE_POLL_CFG_POLL_PERIOD ≠ 0)
    (words : Vector Word 128) (alive : Nat) (failed : Bool) : doorbellScanOp words alive failed s =
      if failed then (s.kickTaken.fault Reg.HRE_FAULT_DB_READ_ERR).wrapBy Reg.HRE_DB_READ_ERR_COUNT 1
      else ((s.kickTaken.aliveNoted alive).scanned words).ticked.showHeader := by
  have hcond : ¬ (!s.hre.claimed ∨ (!s.hre.kick ∧ s.rd Reg.HRE_POLL_CFG_POLL_PERIOD = 0)) := by
    rintro (h | ⟨h1, h2⟩)
    · rw [hc] at h
      exact absurd h (by decide)
    · rcases hk with hk | hk
      · rw [hk] at h1
        exact absurd h1 (by decide)
      · exact hk h2
  rw [doorbellScanOp, if_neg hcond]
  unfold State.scanned State.doorbells
  generalize List.finRange 128 = l
  generalize List.range 128 = m
  rfl

theorem State.scanned_plain {β : Type} {g : Hre → β} (hg : HostPlain g) (u : State) (words : Vector Word 128) : g (u.scanned words).hre = g u.hre :=
  (State.returnAll_plain hg _ _).trans (State.doorbells_plain hg words _ u)

theorem State.scanned_rd {f : Fld} (h : f.scanFree) (u : State) (words : Vector Word 128) : (u.scanned words).rd f = u.rd f :=
  (State.returnAll_rd _ _ f).trans (State.doorbells_rd h words _ u)

theorem State.showHeader_plain {β : Type} {g : Hre → β} (hg : HostPlain g) (s : State) : g s.showHeader.hre = g s.hre := by
  rw [State.showHeader]
  split
  · exact hg s.hre s.hre.rings s.hre.vecs _
  · rfl

theorem State.showHeader_rd (s : State) (f : Fld) : s.showHeader.rd f = s.rd f := by
  rw [State.showHeader]
  split
  · rfl
  · rfl

theorem State.showHeader_devAlive {s : State} (h : s.canWrite = true) : s.showHeader.hre.shadow.devAlive = s.hre.devAlive := by
  rw [State.showHeader, if_pos h]

theorem State.aliveNoted_alive (t : State) (a : Nat) : (t.aliveNoted a).hre.alive = a := by
  rw [State.aliveNoted]
  split
  · next h => exact h.symm
  · rfl

theorem State.aliveNoted_of {β : Type} {g : Hre → β} (hg : ∀ (h : Hre) a, g { h with alive := a } = g h) (t : State) (a : Nat) :
    g (t.aliveNoted a).hre = g t.hre := by
  rw [State.aliveNoted]
  split
  · rfl
  · exact hg ..

theorem State.aliveNoted_rd {f : Fld} (h : f.key ≠ Reg.HRE_STATUS_HOST_PRESENT.key) (t : State) (a : Nat) : (t.aliveNoted a).rd f = t.rd f := by
  rw [State.aliveNoted]
  split
  · rfl
  · exact State.rd_wr_ne h _ 1

theorem ringType_ne_present (n : Nat) : (Reg.HRE_RING_CFG_TYPE n).key ≠ Reg.HRE_STATUS_HOST_PRESENT.key := by
  simp only [Fld.key, Reg.HRE_RING_CFG_TYPE, Reg.HRE_STATUS_HOST_PRESENT]
  omega

/-- A ring after the scan keeps what its own doorbell gave it. -/
theorem State.scanned_ring (s : State) (words : Vector Word 128) (a : Nat) (n : Fin 128) : ∃ t : State, t.ring n.val = s.ring n.val ∧
    t.hre.session = s.hre.session ∧ t.ringType n.val = s.ringType n.val ∧
    ((t.doorbell n.val words[n].toNat).ring n.val).SameEnds (((s.kickTaken.aliveNoted a).scanned words).ticked.showHeader.ring n.val) := by
  obtain ⟨t, hr, hs, ht, he⟩ := State.doorbells_ring words n (s.kickTaken.aliveNoted a)
  have hr' : (s.kickTaken.aliveNoted a).ring n.val = s.ring n.val :=
    State.ring_congr (State.aliveNoted_of (g := Hre.rings) (fun _ _ => rfl) s.kickTaken a) n.val
  have hs' : (s.kickTaken.aliveNoted a).hre.session = s.hre.session := State.aliveNoted_of (g := Hre.session) (fun _ _ => rfl) s.kickTaken a
  have ht' : (s.kickTaken.aliveNoted a).ringType n.val = s.ringType n.val := State.aliveNoted_rd (ringType_ne_present n.val) s.kickTaken a
  refine ⟨t, hr.trans hr', hs.trans hs', ht.trans ht', ?_⟩
  rw [State.showHeader_ring, State.ticked_ring, ← he, State.scanned]
  exact State.returnAll_ends (List.range 128) _ n.val

theorem State.scan_rd {f : Fld} (h : f.scanFree) (h' : f.key ≠ Reg.HRE_STATUS_HOST_PRESENT.key) (s : State) (words : Vector Word 128) (a : Nat) :
    ((s.kickTaken.aliveNoted a).scanned words).rd f = s.rd f := (State.scanned_rd h _ words).trans (State.aliveNoted_rd h' s.kickTaken a)

theorem State.scan_plain {β : Type} {g : Hre → β} (hg : HostPlain g) (ha : ∀ (h : Hre) a, g { h with alive := a } = g h) (s : State)
    (words : Vector Word 128) (a : Nat) : g ((s.kickTaken.aliveNoted a).scanned words).hre = g s.kickTaken.hre :=
  (State.scanned_plain hg _ words).trans (State.aliveNoted_of ha s.kickTaken a)

theorem State.scan_canWrite (s : State) (words : Vector Word 128) (a : Nat) :
    ((s.kickTaken.aliveNoted a).scanned words).ticked.canWrite = s.canWrite := by
  have hfree : Reg.HRE_STATUS_LINK_UP.scanFree := by
    unfold Fld.scanFree
    decide
  have hl : ((s.kickTaken.aliveNoted a).scanned words).rd Reg.HRE_STATUS_LINK_UP = s.rd Reg.HRE_STATUS_LINK_UP :=
    State.scan_rd hfree (by decide) s words a
  have hc : ((s.kickTaken.aliveNoted a).scanned words).hre.claimed = s.hre.claimed := State.scan_plain hostPlain_claimed (fun _ _ => rfl) s words a
  have hb : ((s.kickTaken.aliveNoted a).scanned words).hre.bme = s.hre.bme := State.scan_plain hostPlain_bme (fun _ _ => rfl) s words a
  have hd : ((s.kickTaken.aliveNoted a).scanned words).hre.d3hot = s.hre.d3hot := State.scan_plain hostPlain_d3hot (fun _ _ => rfl) s words a
  rw [State.ticked_canWrite, State.canWrite, State.busOpen, State.on, hl, hc, hb, hd, State.canWrite, State.busOpen, State.on]

/-! ## Descriptors and entries -/

theorem descriptorFetchOp_of {s : State} {n : Nat} (hc : s.hre.claimed = true) (hf : s.hre.fetchOpen = true) (hs : s.isSub n = true)
    (hr : (s.ring n).st = .running) (hd : idxDiff (s.ring n).db (s.ring n).index < 32768) (l : List Desc) (err : Bool) :
    descriptorFetchOp n l err s =
      if err then (s.setRing n (fetchList (s.ringType n) s.nextEpoch
        (min (idxDiff (s.ring n).db (s.ring n).index) (idxDiff (s.ring n).limit (s.ring n).index)) l (s.ring n))).haltRing n St.busError
      else if idxDiff (s.ring n).db (s.ring n).index > idxDiff (s.ring n).limit (s.ring n).index ∧ (fetchList (s.ringType n) s.nextEpoch
          (min (idxDiff (s.ring n).db (s.ring n).index) (idxDiff (s.ring n).limit (s.ring n).index)) l (s.ring n)).index = (s.ring n).limit
        then ((s.setRing n (fetchList (s.ringType n) s.nextEpoch
          (min (idxDiff (s.ring n).db (s.ring n).index) (idxDiff (s.ring n).limit (s.ring n).index)) l (s.ring n))).wrapBy (Reg.HRE_RING_NOCREDIT n)
            (idxDiff (s.ring n).db (s.ring n).index - idxDiff (s.ring n).limit (s.ring n).index)).haltRing n St.noCredit
        else s.setRing n (fetchList (s.ringType n) s.nextEpoch
          (min (idxDiff (s.ring n).db (s.ring n).index) (idxDiff (s.ring n).limit (s.ring n).index)) l (s.ring n)) := by
  refine (if_neg ?_).trans (if_neg (by omega))
  simp [hc, hf, hs, hr]

/-- A simple command is done, its result the one given. -/
theorem State.hostCmd_finishes {s : State} {c : Cmd} (h : s.Accepts c .command) (st n r : Nat) :
    (s.hostCmd c .command fun u => u.finish c st n r).Completed c st n r ∧ (s.hostCmd c .command fun u => u.finish c st n r).fld = s.fld ∧
      (s.hostCmd c .command fun u => u.finish c st n r).mode = s.mode := by
  rw [State.hostCmd_accepts h]
  exact ⟨State.finish_completed .., (State.finish_fld ..).trans (s.begun_fld c), (State.finish_mode ..).trans (State.begun_mode ..)⟩

/-- A ring that a new entry is put to. -/
def RingSt.pushed (g : RingSt) (e : RingEntry) (timer : Bool) : RingSt :=
  { g with index := (g.index + 1) % 65536, entries := g.entries ++ [e], unsig := g.unsig + 1, timerOn := timer }

theorem State.putEntry_eq (s : State) (n : Nat) (e : RingEntry) : s.putEntry n e =
    if s.rd (Reg.HRE_RING_IRQ_COAL_COUNT n) ≠ 0 ∧ (s.ring n).unsig + 1 ≥ s.rd (Reg.HRE_RING_IRQ_COAL_COUNT n)
    then ((s.setRing n ((s.ring n).pushed e (s.rd (Reg.HRE_RING_IRQ_COAL_TIME n) != 0))).showRing n).signalRing n
    else (s.setRing n ((s.ring n).pushed e (s.rd (Reg.HRE_RING_IRQ_COAL_TIME n) != 0))).showRing n := rfl

theorem State.signalRing_ring (s : State) (n m : Nat) :
    (s.signalRing n).ring m = if m = n then { s.ring n with unsig := 0, timerOn := false } else s.ring m := by
  rw [State.signalRing, State.ring_signal]
  by_cases h : m = n
  · rw [if_pos h, h, State.ring_setRing_same]
  · rw [if_neg h, State.ring_setRing_ne h]

theorem State.putEntry_ring_ne {n m : Nat} (h : m ≠ n) (s : State) (e : RingEntry) : (s.putEntry n e).ring m = s.ring m := by
  rw [State.putEntry_eq]
  split
  · rw [State.signalRing_ring, if_neg h, State.showRing_ring, State.ring_setRing_ne h]
  · rw [State.showRing_ring, State.ring_setRing_ne h]

theorem State.putEntry_ring (s : State) (n : Nat) (e : RingEntry) :
    ((s.putEntry n e).ring n).entries = (s.ring n).entries ++ [e] ∧ ((s.putEntry n e).ring n).seq = (s.ring n).seq ∧
      ((s.putEntry n e).ring n).st = (s.ring n).st := by
  rw [State.putEntry_eq]
  split
  · rw [State.signalRing_ring, if_pos rfl, State.showRing_ring, State.ring_setRing_same]
    exact ⟨rfl, rfl, rfl⟩
  · rw [State.showRing_ring, State.ring_setRing_same]
    exact ⟨rfl, rfl, rfl⟩

theorem completionWriteOp_of {s : State} {n i : Nat} {x : SubDesc} {r : HostResult}
    (hx : (s.ring n).sub.find? (fun y => y.index == i && y.written == .no) = some x) (hr : x.done = some r) (hd : s.hre.due = [])
    (he : earlierUnwritten i (x.desc.target.toNat % 32) (s.ring n).sub = false) (hq : ¬ (r.status = St.done ∧ bits x.desc.flags.toNat 1 1 = 1)) :
    completionWriteOp n i s = if !s.canWrite then { s with hre := { s.hre with due := s.hre.due ++ [(n, i)] } }
      else (s.setRing n { s.ring n with sub := markWritten i (.at (s.ring (s.rd (Reg.HRE_RING_CFG_BIND n))).index) (s.ring n).sub }).putEntry
        (s.rd (Reg.HRE_RING_CFG_BIND n)) (.cpl ⟨x.desc.tag.toNat, r.status, n, i, r.doneLen, r.result⟩) := by
  have hw (y : SubDesc) : s.hre.due.contains (n, y.index) = false := by rw [hd]; rfl
  have hfilter : ((s.ring n).sub.filter fun y => !s.hre.due.contains (n, y.index)) = (s.ring n).sub :=
    List.filter_eq_self.mpr fun y _ => by rw [hw]; rfl
  rw [completionWriteOp, hx]
  dsimp only
  rw [hr]
  refine (if_neg ?_).trans (if_neg hq)
  rw [hfilter, he, hw]
  decide

/-! ## Events -/

/-- The record of an event. -/
def State.eventRec (s : State) (n : Nat) (e : BlockEvent) : EventRec :=
  ⟨e.code, e.source, Config.freeValue 3 s.ctr % 3, (s.ring n).seq, e.data, e.time⟩

/-- The event's number is drawn and counted at its ring. -/
def State.eventDrawn (s : State) (n : Nat) (rest : List BlockEvent) : State :=
  State.setRing { s with evq := rest, ctr := s.ctr + 1 } n { s.ring n with seq := ((s.ring n).seq + 1) % 4294967296 }

theorem eventWriteOp_ring {s : State} {e : BlockEvent} {rest : List BlockEvent} (h : s.evq = e :: rest)
    (hen : s.on Reg.GLB_EVENT_RING_EN = true) (hr : s.on (Reg.HRE_RING_CFG_ENABLE (s.rd Reg.GLB_EVENT_RING_RING)) = true)
    (ht : s.ringType (s.rd Reg.GLB_EVENT_RING_RING) = 4) :
    eventWriteOp s = State.toEventRing { s with evq := rest, ctr := s.ctr + 1 } (s.rd Reg.GLB_EVENT_RING_RING) e (Config.freeValue 3 s.ctr % 3) := by
  rw [eventWriteOp, h]
  refine if_pos ?_
  show (s.on Reg.GLB_EVENT_RING_EN && s.on (Reg.HRE_RING_CFG_ENABLE (s.rd Reg.GLB_EVENT_RING_RING)) && s.ringType (s.rd Reg.GLB_EVENT_RING_RING) == 4) = true
  rw [hen, hr, ht]
  rfl

theorem eventWriteOp_none {s : State} {e : BlockEvent} {rest : List BlockEvent} (h : s.evq = e :: rest)
    (hoff : s.on Reg.GLB_EVENT_RING_EN = false ∨ s.on (Reg.HRE_RING_CFG_ENABLE (s.rd Reg.GLB_EVENT_RING_RING)) = false) :
    eventWriteOp s = State.bump { s with evq := rest } Reg.GLB_EVENT_LOST Reg.GLB_FAULT_CNT_SAT := by
  rw [eventWriteOp, h]
  refine if_neg ?_
  show ¬ (s.on Reg.GLB_EVENT_RING_EN && s.on (Reg.HRE_RING_CFG_ENABLE (s.rd Reg.GLB_EVENT_RING_RING)) && s.ringType (s.rd Reg.GLB_EVENT_RING_RING) == 4) = true
  rcases hoff with h | h <;> simp [h]

theorem State.toEventRing_eq (s : State) (n : Nat) (e : BlockEvent) (rest : List BlockEvent) :
    State.toEventRing { s with evq := rest, ctr := s.ctr + 1 } n e (Config.freeValue 3 s.ctr % 3) =
      if (s.ring n).st ≠ .running ∨ (s.ring n).entries.length + (s.ring n).waiting.length ≥ s.ringSize n then (s.eventDrawn n rest).loseEvents n 1
      else if s.canWrite ∧ (s.ring n).waiting.isEmpty then (s.eventDrawn n rest).putEntry n (.evt (s.eventRec n e))
      else (s.eventDrawn n rest).setRing n { (s.eventDrawn n rest).ring n with waiting := (s.ring n).waiting ++ [s.eventRec n e] } := rfl

theorem State.eventDrawn_ring (s : State) (n : Nat) (rest : List BlockEvent) :
    (s.eventDrawn n rest).ring n = { s.ring n with seq := ((s.ring n).seq + 1) % 4294967296 } := State.ring_setRing_same ..

theorem State.putEntry_evq (s : State) (n : Nat) (e : RingEntry) : (s.putEntry n e).evq = s.evq :=
  State.putEntry_only (π := State.evq) (unseen_evq (by decide)) s n e

/-! ## Vectors -/

theorem State.signal_masked {s : State} {v : Nat} (h : s.on (Reg.MSIX_MASK v) = true) : s.signal v = s.wr (Reg.MSIX_PENDING v) 1 := if_pos h

theorem State.signal_sent {s : State} {v : Nat} (h : s.on (Reg.MSIX_MASK v) = false) (hb : s.busOpen = true) (hg : (s.vec v).inGap = false ∨ v = 1) :
    ((s.signal v).vec v).sent = (s.vec v).sent + 1 ∧ ((s.signal v).vec v).merged = (s.vec v).merged := by
  have hcond : ¬ (((s.vec v).inGap && v != 1) || !s.busOpen) = true := by
    rw [hb]
    rcases hg with hg | hg <;> simp [hg]
  rw [State.signal, if_neg (by rw [h]; exact Bool.false_ne_true), if_neg hcond, State.vec_setVec_same]
  exact ⟨rfl, rfl⟩

theorem State.signal_merged {s : State} {v : Nat} (h : s.on (Reg.MSIX_MASK v) = false) (hb : s.busOpen = false) : ((s.signal v).vec v).merged = true := by
  rw [State.signal, if_neg (by rw [h]; exact Bool.false_ne_true), if_pos (by rw [hb]; simp), State.vec_setVec_same]

/-! ## The ring's group -/

theorem ringGroup_shift (n : Nat) : ringGroup n = (ringGroup 0).map fun f => { f with idx := n } := rfl

/-- A field's place within its register block. -/
def Fld.place (f : Fld) : Nat := f.off * 64 + f.lo

theorem Fld.key_place (f : Fld) : f.key = f.idx * 274877906944 + f.place := by
  simp only [Fld.key, Fld.place]
  omega

theorem ringGroup_places : ((ringGroup 0).map Fld.place).Nodup := by decide

theorem ringGroup_nodup (n : Nat) : ((ringGroup n).map Fld.key).Nodup := by
  have hkeys : (ringGroup n).map Fld.key = ((ringGroup 0).map Fld.place).map (n * 274877906944 + ·) := by
    rw [ringGroup_shift, List.map_map, List.map_map]
    exact List.map_congr_left fun f _ => Fld.key_place { f with idx := n }
  rw [hkeys]
  exact List.Nodup.map (add_right_injective _) ringGroup_places

theorem ringGroup_ne (n : Nat) : ∀ f ∈ ringGroup n, f.key ≠ (Reg.HRE_RING_COMMIT_RESULT n).key := by
  intro f hf
  rw [ringGroup_shift] at hf
  obtain ⟨g, hg, rfl⟩ := List.mem_map.mp hf
  have hoff : ∀ g ∈ ringGroup 0, g.off * 64 + g.lo ≠ 0x2003c * 64 + 8 := by decide
  have hne := hoff g hg
  simp only [Fld.key, Reg.HRE_RING_COMMIT_RESULT]
  omega


theorem State.ticked_devAlive (v : State) : v.ticked.hre.devAlive = (v.hre.devAlive + 1) % 4294967296 := rfl

theorem State.ticked_alive (v : State) : v.ticked.hre.alive = v.hre.alive := rfl

theorem State.ticked_rd (v : State) (f : Fld) : v.ticked.rd f = v.rd f := rfl

theorem State.kickTaken_devAlive (s : State) : s.kickTaken.hre.devAlive = s.hre.devAlive := rfl

theorem State.aliveNoted_present {s : State} {a : Nat} (h : a ≠ s.hre.alive) : (s.kickTaken.aliveNoted a).rd Reg.HRE_STATUS_HOST_PRESENT = 1 := by
  rw [State.aliveNoted, if_neg (show ¬ a = s.kickTaken.hre.alive from h)]
  exact State.rd_wr_same ..

theorem State.loseEvents_lost (s : State) (n k : Nat) : (s.loseEvents n (k + 1)).rd (Reg.HRE_RING_LOST n) =
    min (s.rd (Reg.HRE_RING_LOST n) + (k + 1)) (2 ^ (Reg.HRE_RING_LOST n).w - 1) % 2 ^ (Reg.HRE_RING_LOST n).w := by
  rw [State.loseEvents, if_neg (by omega), State.rd_fault_ne ?_ ?_]
  · exact State.rd_wr_same ..
  · simp only [Fld.key, Reg.HRE_RING_LOST, Reg.HRE_FAULT_EVENT_LOST]
    omega
  · simp only [Fld.key, Reg.HRE_RING_LOST, Reg.MSIX_PENDING]
    omega

/-- A count of lost events below its end takes one more. -/
theorem State.bump_lost {s : State} {rest : List BlockEvent} (h : s.rd Reg.GLB_EVENT_LOST + 1 < 2 ^ Reg.GLB_EVENT_LOST.w - 1) :
    State.bump { s with evq := rest } Reg.GLB_EVENT_LOST Reg.GLB_FAULT_CNT_SAT =
      State.wr { s with evq := rest } Reg.GLB_EVENT_LOST (s.rd Reg.GLB_EVENT_LOST + 1) := by
  have hrd : State.rd { s with evq := rest } Reg.GLB_EVENT_LOST = s.rd Reg.GLB_EVENT_LOST := rfl
  rw [State.bump, State.bumpBy]
  refine (if_neg ?_).trans (if_neg ?_)
  · rw [hrd]
    omega
  · rw [hrd]
    omega

/-! ## MSIX_UNMASK -/

theorem msixUnmaskOp_effect (s : State) (v : Nat) : (msixUnmaskOp v s).rd (Reg.MSIX_MASK v) = 0 ∧ (msixUnmaskOp v s).rd (Reg.MSIX_PENDING v) = 0 ∧
    (msixUnmaskOp v s).mode = s.mode ∧ (s.rd (Reg.MSIX_PENDING v) = 0 → (msixUnmaskOp v s).hre = s.hre) ∧
    (s.rd (Reg.MSIX_PENDING v) ≠ 0 → s.busOpen = true → (s.vec v).inGap = false ∨ v = 1 → ((msixUnmaskOp v s).vec v).sent = (s.vec v).sent + 1) := by
  have hne : (Reg.MSIX_PENDING v).key ≠ (Reg.MSIX_MASK v).key := by
    simp only [Fld.key, Reg.MSIX_PENDING, Reg.MSIX_MASK]
    omega
  have hlink : Reg.HRE_STATUS_LINK_UP.key ≠ (Reg.MSIX_PENDING v).key ∧ Reg.HRE_STATUS_LINK_UP.key ≠ (Reg.MSIX_MASK v).key := by
    simp only [Fld.key, Reg.MSIX_PENDING, Reg.MSIX_MASK, Reg.HRE_STATUS_LINK_UP]
    omega
  have hmask : (s.wr (Reg.MSIX_MASK v) 0).rd (Reg.MSIX_MASK v) = 0 := State.rd_wr_same ..
  have hpend : (s.wr (Reg.MSIX_MASK v) 0).rd (Reg.MSIX_PENDING v) = s.rd (Reg.MSIX_PENDING v) := State.rd_wr_ne hne s 0
  have hop : msixUnmaskOp v s = if s.on (Reg.MSIX_PENDING v) then ((s.wr (Reg.MSIX_MASK v) 0).wr (Reg.MSIX_PENDING v) 0).signal v
      else s.wr (Reg.MSIX_MASK v) 0 := by
    rw [State.on, ← hpend]
    rfl
  rw [hop]
  by_cases hp : s.rd (Reg.MSIX_PENDING v) = 0
  · rw [if_neg (by rw [State.on, hp]; decide), hmask, hpend]
    exact ⟨rfl, hp, rfl, fun _ => rfl, fun h => absurd hp h⟩
  · have hmask' : ((s.wr (Reg.MSIX_MASK v) 0).wr (Reg.MSIX_PENDING v) 0).rd (Reg.MSIX_MASK v) = 0 := (State.rd_wr_ne hne.symm _ 0).trans hmask
    have hopen : ((s.wr (Reg.MSIX_MASK v) 0).wr (Reg.MSIX_PENDING v) 0).on (Reg.MSIX_MASK v) = false := by rw [State.on, hmask']; rfl
    have hsig {f : Fld} : (((s.wr (Reg.MSIX_MASK v) 0).wr (Reg.MSIX_PENDING v) 0).signal v).rd f = ((s.wr (Reg.MSIX_MASK v) 0).wr (Reg.MSIX_PENDING v) 0).rd f := by
      rw [State.signal, if_neg (by rw [hopen]; exact Bool.false_ne_true)]
      split
      · rfl
      · rfl
    have hbus : ((s.wr (Reg.MSIX_MASK v) 0).wr (Reg.MSIX_PENDING v) 0).busOpen = s.busOpen := by
      rw [State.busOpen, State.on, State.rd_wr_ne hlink.1, State.rd_wr_ne hlink.2]
      rfl
    rw [if_pos (by rw [State.on]; simpa using hp), hsig, hsig]
    refine ⟨hmask', State.rd_wr_same .., State.signal_mode .., fun h => absurd h hp, fun _ hb hg => ?_⟩
    exact (State.signal_sent hopen (hbus.trans hb) hg).1

/-! ## RING_COMMIT and the end of a drain -/

/-- The ring's group, made live. -/
def State.ringLive (s : State) (n : Nat) : State := s.commit (Reg.HRE_RING_COMMIT_RESULT n) (ringGroup n) St.done

theorem State.ringLive_ring (s : State) (n m : Nat) : (s.ringLive n).ring m = s.ring m := State.ring_of_hre (State.commit_hre ..) m

theorem State.ringLive_rd (s : State) (n : Nat) : ∀ f ∈ ringGroup n, (s.ringLive n).rd f = s.sh f % 2 ^ f.w := fun f hf =>
  State.commit_live (ringGroup n) hf (ringGroup_nodup n) (ringGroup_ne n f hf) s

/-- A ring, running from its start. -/
def State.ringStarted (t : State) (n : Nat) : State :=
  if t.ringType n ≤ 2 then ((t.setRing n { RingSt.off with st := .running, given := (t.ring n).given, returned := (t.ring n).returned }).showRing n).raiseLimit n
  else (t.setRing n { RingSt.off with st := .running, given := (t.ring n).given, returned := (t.ring n).returned }).showRing n

/-- A running ring whose credits follow a new allotment. -/
def State.ringRaised (t : State) (n : Nat) (en : Bool) : State := if en ∧ t.ringType n ≤ 2 then t.raiseLimit n else t

theorem ringCommitOp_commits {s : State} (hs : s.hre.served = true) (hst : (s.ring (s.rd Reg.HRE_RING_SEL_RING)).st ≠ .draining)
    (hb : s.ringBad (s.rd Reg.HRE_RING_SEL_RING) = false)
    (hw : (s.on (Reg.HRE_RING_CFG_ENABLE (s.rd Reg.HRE_RING_SEL_RING)) && !(s.sh (Reg.HRE_RING_CFG_ENABLE (s.rd Reg.HRE_RING_SEL_RING)) == 1)) = false) :
    ringCommitOp s = if !s.on (Reg.HRE_RING_CFG_ENABLE (s.rd Reg.HRE_RING_SEL_RING)) && (s.sh (Reg.HRE_RING_CFG_ENABLE (s.rd Reg.HRE_RING_SEL_RING)) == 1)
      then (s.ringLive (s.rd Reg.HRE_RING_SEL_RING)).ringStarted (s.rd Reg.HRE_RING_SEL_RING)
      else (s.ringLive (s.rd Reg.HRE_RING_SEL_RING)).ringRaised (s.rd Reg.HRE_RING_SEL_RING) (s.sh (Reg.HRE_RING_CFG_ENABLE (s.rd Reg.HRE_RING_SEL_RING)) == 1) := by
  refine (if_neg (by rw [hs]; decide)).trans ((if_neg hst).trans ((if_neg (by rw [hb]; decide)).trans ((if_neg (by rw [hw]; decide)).trans ?_)))
  have hr := s.ringLive_ring (s.rd Reg.HRE_RING_SEL_RING) (s.rd Reg.HRE_RING_SEL_RING)
  rw [State.ringStarted, hr]
  rfl

theorem State.raiseLimit_rd (s : State) (n : Nat) (f : Fld) : (s.raiseLimit n).rd f = s.rd f := by
  simp only [State.raiseLimit, State.showRing]
  split
  · split
    · rfl
    · rfl
  · rfl

theorem State.showRing_rd (s : State) (n : Nat) (f : Fld) : (s.showRing n).rd f = s.rd f := by
  rw [State.showRing]
  split
  · rfl
  · rfl

theorem State.raiseLimit_ring (s : State) (n : Nat) : ((s.raiseLimit n).ring n).st = (s.ring n).st ∧ ((s.raiseLimit n).ring n).sub = (s.ring n).sub := by
  simp only [State.raiseLimit]
  split
  · rw [State.showRing_ring, State.ring_setRing_same]
    exact ⟨rfl, rfl⟩
  · exact ⟨rfl, rfl⟩

theorem State.ringStarted_rd (t : State) (n : Nat) (f : Fld) : (t.ringStarted n).rd f = t.rd f := by
  rw [State.ringStarted]
  split
  · rw [State.raiseLimit_rd, State.showRing_rd]
    rfl
  · rw [State.showRing_rd]
    rfl

theorem State.ringStarted_ring (t : State) (n : Nat) : ((t.ringStarted n).ring n).st = .running ∧ ((t.ringStarted n).ring n).sub = [] := by
  rw [State.ringStarted]
  split
  · rw [(State.raiseLimit_ring ..).1, (State.raiseLimit_ring ..).2, State.showRing_ring, State.ring_setRing_same]
    exact ⟨rfl, rfl⟩
  · rw [State.showRing_ring, State.ring_setRing_same]
    exact ⟨rfl, rfl⟩

theorem State.ringRaised_rd (t : State) (n : Nat) (en : Bool) (f : Fld) : (t.ringRaised n en).rd f = t.rd f := by
  rw [State.ringRaised]
  split
  · exact t.raiseLimit_rd n f
  · rfl

theorem State.ringRaised_st (t : State) (n : Nat) (en : Bool) : ((t.ringRaised n en).ring n).st = (t.ring n).st := by
  rw [State.ringRaised]
  split
  · exact (t.raiseLimit_ring n).1
  · rfl

/-- A ring that drains. -/
def State.ringDrained (s : State) (n : Nat) : State :=
  let sub := decide (s.ringType n ≤ 2)
  let left := idxDiff (s.ring n).limit (s.ring n).index
  let h := if sub then { s.ring n with st := .draining, sub := drainSub (s.ring n).sub, returned := ((s.ring n).returned + left) % 4294967296 }
           else { s.ring n with st := .draining }
  let t := (s.setRing n h).setPending (Reg.HRE_RING_COMMIT_RESULT n)
  if sub then t.wrapBy (Reg.HRE_RING_UNFETCHED n) left else t

theorem ringCommitOp_drains {s : State} (hs : s.hre.served = true) (hst : (s.ring (s.rd Reg.HRE_RING_SEL_RING)).st ≠ .draining)
    (hb : s.ringBad (s.rd Reg.HRE_RING_SEL_RING) = false) (hon : s.on (Reg.HRE_RING_CFG_ENABLE (s.rd Reg.HRE_RING_SEL_RING)) = true)
    (hen : s.sh (Reg.HRE_RING_CFG_ENABLE (s.rd Reg.HRE_RING_SEL_RING)) ≠ 1) : ringCommitOp s = s.ringDrained (s.rd Reg.HRE_RING_SEL_RING) := by
  refine (if_neg (by rw [hs]; decide)).trans ((if_neg hst).trans ((if_neg (by rw [hb]; decide)).trans (if_pos ?_)))
  rw [hon, beq_false_of_ne hen]
  rfl

theorem State.ringDrained_effect (s : State) (n : Nat) : (s.ringDrained n).rd (Reg.HRE_RING_COMMIT_RESULT n) = St.pending ∧
    ((s.ringDrained n).ring n).st = .draining ∧ (s.ringType n ≤ 2 → ((s.ringDrained n).ring n).sub = drainSub (s.ring n).sub ∧
    (s.ringDrained n).rd (Reg.HRE_RING_UNFETCHED n) = (s.rd (Reg.HRE_RING_UNFETCHED n) + idxDiff (s.ring n).limit (s.ring n).index) %
      2 ^ (Reg.HRE_RING_UNFETCHED n).w) := by
  have hne : (Reg.HRE_RING_UNFETCHED n).key ≠ (Reg.HRE_RING_COMMIT_RESULT n).key := by
    simp only [Fld.key, Reg.HRE_RING_UNFETCHED, Reg.HRE_RING_COMMIT_RESULT]
    omega
  have hpend (t : State) : (t.setPending (Reg.HRE_RING_COMMIT_RESULT n)).rd (Reg.HRE_RING_COMMIT_RESULT n) = St.pending := State.rd_wr_same ..
  have hring (t : State) : (t.setPending (Reg.HRE_RING_COMMIT_RESULT n)).ring n = t.ring n := rfl
  rw [State.ringDrained]
  dsimp only
  by_cases ht : s.ringType n ≤ 2
  · rw [decide_eq_true ht, if_pos rfl, if_pos rfl, State.rd_wrapBy_ne hne.symm, hpend, State.ring_of_hre (State.wrapBy_hre ..), hring,
      State.ring_setRing_same]
    refine ⟨rfl, rfl, fun _ => ⟨rfl, ?_⟩⟩
    rw [State.wrapBy_rd]
    exact congrArg (fun x => (x + idxDiff (s.ring n).limit (s.ring n).index) % 2 ^ (Reg.HRE_RING_UNFETCHED n).w) (State.rd_wr_ne hne _ _)
  · rw [decide_eq_false ht, if_neg Bool.false_ne_true, if_neg Bool.false_ne_true, hpend, hring, State.ring_setRing_same]
    exact ⟨rfl, rfl, fun h => absurd h ht⟩

theorem ringDrainDoneOp_effect {s : State} {n : Nat} (hst : (s.ring n).st = .draining) (hw : allWritten (s.ring n).sub = true) :
    (ringDrainDoneOp n s).rd (Reg.HRE_RING_COMMIT_RESULT n) = St.done ∧ ((ringDrainDoneOp n s).ring n).st = .off ∧ ((ringDrainDoneOp n s).ring n).sub = [] ∧
      ((ringDrainDoneOp n s).ring n).entries = [] := by
  have hop : ringDrainDoneOp n s = ((s.loseEvents n (s.ring n).waiting.length).setRing n (s.ring n).closed).endPending (Reg.HRE_RING_COMMIT_RESULT n)
      (ringGroup n) St.done := if_pos ⟨hst, hw⟩
  rw [hop, State.ring_of_hre (State.endPending_hre ..), State.ring_setRing_same]
  exact ⟨State.commit_result .., rfl, rfl, rfl⟩

/-- Settles O21: each ring operation by the branch that the ring's state is in. -/
theorem hostRings : Obligations.HostRings := by
  refine ⟨fun s words alive hup hc hk => ?_, fun s words alive hup hc hk => ?_, fun s n l hup hc hf hs hr hd hl => ?_,
    fun s n l hup hc hf hs hr hd => ?_, fun s c hup h => ?_, fun s c hup h => ?_, fun s n i x r hup hw hx hr hd he hq hne => ?_,
    fun s n i x r hup hw hx hr hd he hq => ?_, fun s e rest n hup h hn hen hr ht hst hlt => ?_, fun s e rest n hup h hn hen hr ht hst hle => ?_,
    fun s e rest hup h hoff hlt => ?_, fun s n k hup ht hu hk => ?_, fun s v hup hm => ?_, fun s v hup hm => ?_, fun s v hup => ?_,
    fun s n hup hs hn hst hb hoff hen => ?_, fun s n hup hs hn hst hb hon hen => ?_, fun s n hup hs hn hst hb hsame => ?_,
    fun s n hup hst hw => ?_⟩ <;>
    refine Gives.of_main hup rfl ?_
  · rw [doorbellScanOp_of hc hk, if_neg Bool.false_ne_true]
    have hplain {β : Type} {g : Hre → β} (hg : HostPlain g) (ha : ∀ (h : Hre) a, g { h with alive := a } = g h)
        (hd : ∀ (h : Hre) d, g { h with devAlive := d } = g h) :
        g ((s.kickTaken.aliveNoted alive.toNat).scanned words).ticked.showHeader.hre = g s.kickTaken.hre :=
      (State.showHeader_plain hg _).trans ((hd _ _).trans (State.scan_plain hg ha s words alive.toNat))
    have hdev : ((s.kickTaken.aliveNoted alive.toNat).scanned words).ticked.showHeader.hre.devAlive = (s.hre.devAlive + 1) % 4294967296 := by
      rw [State.showHeader_plain (g := Hre.devAlive) fun _ _ _ _ => rfl, State.ticked_devAlive,
        State.scan_plain (g := Hre.devAlive) (fun _ _ _ _ => rfl) fun _ _ => rfl, State.kickTaken_devAlive]
    have hfree : Reg.HRE_STATUS_HOST_PRESENT.scanFree := by
      unfold Fld.scanFree
      decide
    refine ⟨hplain (g := Hre.kick) (fun _ _ _ _ => rfl) (fun _ _ => rfl) fun _ _ => rfl, hdev, ?_, fun ha => ?_, fun n ht ho hs => ?_, fun n ht ho hs hi => ?_,
      fun hw => ?_⟩
    · rw [State.showHeader_plain (g := Hre.alive) fun _ _ _ _ => rfl, State.ticked_alive, State.scanned_plain (g := Hre.alive) fun _ _ _ _ => rfl,
        State.aliveNoted_alive]
    · rw [State.showHeader_rd, State.ticked_rd, State.scanned_rd hfree, State.aliveNoted_present ha]
    · obtain ⟨t, hr, hse, hty, hends⟩ := s.scanned_ring words alive.toNat n
      rw [hends.1, State.doorbell_sub (by rw [hr]; exact ho) (hs.trans hse.symm) (by rw [hty]; exact ht)]
    · obtain ⟨t, hr, hse, hty, hends⟩ := s.scanned_ring words alive.toNat n
      rw [hends.2.1, hends.2.2, State.doorbell_head (by rw [hr]; exact ho) (hs.trans hse.symm) (by rw [hty]; exact ht) (by rw [hr]; exact hi), hr]
      exact ⟨rfl, rfl⟩
    · rw [State.showHeader_devAlive ((State.scan_canWrite s words alive.toNat).trans hw), hdev, State.ticked_devAlive,
        State.scan_plain (g := Hre.devAlive) (fun _ _ _ _ => rfl) fun _ _ => rfl, State.kickTaken_devAlive]
  · rw [doorbellScanOp_of hc hk, if_pos rfl]
    refine ⟨?_, ?_, ?_, ?_⟩
    · rw [State.rd_wrapBy_ne (by decide), State.fault_rd _ _ (by decide) (by decide)]
    · rw [State.wrapBy_rd, State.rd_fault_ne (by decide) (by decide)]
      rfl
    · rw [State.wrapBy_hre, State.fault_hre (g := Hre.kick) fun _ _ => rfl]
      rfl
    · rw [State.wrapBy_mode, State.fault_mode]
      rfl
  · rw [descriptorFetchOp_of hc hf hs hr hd, if_neg Bool.false_ne_true, if_neg fun h => absurd hl (not_le.mpr h.1), Nat.min_eq_left hl,
      State.ring_setRing_same]
    exact ⟨rfl, rfl, rfl⟩
  · rw [descriptorFetchOp_of hc hf hs hr hd, if_pos rfl, State.haltRing_ring, if_pos rfl]
    exact ⟨rfl, rfl, State.fault_rd _ _ (by decide) (by decide)⟩
  · exact State.hostCmd_finishes h _ _ _
  · exact State.hostCmd_finishes h _ _ _
  · rw [completionWriteOp_of hx hr hd he hq, if_neg (by rw [hw]; decide), (State.putEntry_ring ..).1, State.ring_setRing_ne hne,
      State.putEntry_ring_ne hne.symm, State.ring_setRing_same]
    exact ⟨rfl, rfl⟩
  · rw [completionWriteOp_of hx hr hd he hq, if_pos (by rw [hw]; decide)]
    refine ⟨?_, rfl, rfl⟩
    show s.hre.due ++ _ = _
    rw [hd]
    rfl
  · subst hn
    rw [eventWriteOp_ring h hen hr ht, State.toEventRing_eq, if_neg (by rintro (h | h); exacts [h hst, absurd hlt (not_lt.mpr h)])]
    by_cases hcond : s.canWrite = true ∧ (s.ring (s.rd Reg.GLB_EVENT_RING_RING)).waiting.isEmpty = true
    · obtain ⟨hent, hseq, _⟩ := State.putEntry_ring (s.eventDrawn (s.rd Reg.GLB_EVENT_RING_RING) rest) (s.rd Reg.GLB_EVENT_RING_RING)
        (.evt (s.eventRec (s.rd Reg.GLB_EVENT_RING_RING) e))
      rw [if_pos hcond, State.putEntry_evq, hseq, hent, State.eventDrawn_ring]
      refine ⟨rfl, rfl, fun _ _ => rfl, fun hno => ?_⟩
      rcases hno with hno | hno
      · exact absurd (hno.symm.trans hcond.1) Bool.false_ne_true
      · exact absurd (List.isEmpty_iff.mp hcond.2) hno
    · rw [if_neg hcond, State.ring_setRing_same, State.eventDrawn_ring]
      exact ⟨rfl, rfl, fun hw hempty => absurd ⟨hw, List.isEmpty_iff.mpr hempty⟩ hcond, fun _ => ⟨rfl, rfl⟩⟩
  · subst hn
    rw [eventWriteOp_ring h hen hr ht, State.toEventRing_eq, if_pos (.inr hle), State.loseEvents_ring, State.eventDrawn_ring]
    exact ⟨rfl, rfl, State.loseEvents_lost _ _ 0⟩
  · rw [eventWriteOp_none h hoff, State.bump_lost hlt]
    refine ⟨rfl, ?_, rfl⟩
    rw [State.rd_wr_same]
    exact Nat.mod_eq_of_lt (lt_of_lt_of_le hlt (Nat.sub_le ..))
  · subst hk
    have hop : coalesceTimerOp n.val s = s.signalRing n.val := if_pos (by rw [ht]; simpa using hu)
    rw [hop]
    refine ⟨?_, ?_, State.signal_mode .., fun hm => ?_, fun hm hb hg => ?_, fun hm hb => ?_⟩
    · rw [State.signalRing_ring, if_pos rfl]
    · rw [State.signalRing_ring, if_pos rfl]
    · rw [State.signalRing, State.signal_masked (s := s.setRing n.val _) hm]
      exact State.rd_wr_same ..
    · exact (State.signal_sent (s := s.setRing n.val { s.ring n.val with unsig := 0, timerOn := false }) hm hb hg).1
    · exact State.signal_merged (s := s.setRing n.val { s.ring n.val with unsig := 0, timerOn := false }) hm hb
  · have hop : msixGapEndOp v.val s = s.setVec v.val { s.vec v.val with inGap := false } := if_neg (by rw [hm]; exact Bool.false_ne_true)
    rw [hop, State.vec_setVec_same]
    exact ⟨rfl, rfl, rfl⟩
  · have hop : msixGapEndOp v.val s = (s.setVec v.val { s.vec v.val with inGap := false, merged := false }).signal v.val := if_pos hm
    have hvec : (s.setVec v.val { s.vec v.val with inGap := false, merged := false }).vec v.val = { s.vec v.val with inGap := false, merged := false } :=
      State.vec_setVec_same ..
    rw [hop]
    refine ⟨State.signal_mode .., fun hk => ?_, fun hk hb => ?_, fun hk hb => State.signal_merged hk hb⟩
    · rw [State.signal_masked (s := s.setVec v.val { s.vec v.val with inGap := false, merged := false }) hk]
      exact State.rd_wr_same ..
    · obtain ⟨h1, h2⟩ := State.signal_sent (s := s.setVec v.val { s.vec v.val with inGap := false, merged := false }) hk hb (.inl (by rw [hvec]))
      rw [h1, h2, hvec]
      exact ⟨rfl, rfl⟩
  · exact msixUnmaskOp_effect s v.val
  · subst hn
    rw [ringCommitOp_commits hs hst hb (by rw [hoff]; rfl), hoff, hen, if_pos (by decide)]
    obtain ⟨hr1, hr2⟩ := (s.ringLive (s.rd Reg.HRE_RING_SEL_RING)).ringStarted_ring (s.rd Reg.HRE_RING_SEL_RING)
    refine ⟨?_, hr1, hr2, fun f hf => ?_⟩
    · rw [State.ringStarted_rd]
      exact State.commit_result ..
    · rw [State.ringStarted_rd]
      exact s.ringLive_rd _ f hf
  · subst hn
    rw [ringCommitOp_drains hs hst hb hon hen]
    exact s.ringDrained_effect (s.rd Reg.HRE_RING_SEL_RING)
  · subst hn
    have hw : (s.on (Reg.HRE_RING_CFG_ENABLE (s.rd Reg.HRE_RING_SEL_RING)) && !(s.sh (Reg.HRE_RING_CFG_ENABLE (s.rd Reg.HRE_RING_SEL_RING)) == 1)) = false := by
      rw [hsame]
      cases (s.sh (Reg.HRE_RING_CFG_ENABLE (s.rd Reg.HRE_RING_SEL_RING)) == 1) <;> rfl
    have hw' : ¬ (!s.on (Reg.HRE_RING_CFG_ENABLE (s.rd Reg.HRE_RING_SEL_RING)) && (s.sh (Reg.HRE_RING_CFG_ENABLE (s.rd Reg.HRE_RING_SEL_RING)) == 1)) = true := by
      rw [hsame]
      cases (s.sh (Reg.HRE_RING_CFG_ENABLE (s.rd Reg.HRE_RING_SEL_RING)) == 1) <;> decide
    rw [ringCommitOp_commits hs hst hb hw, if_neg hw']
    refine ⟨?_, ?_, fun f hf => ?_⟩
    · rw [State.ringRaised_rd]
      exact State.commit_result ..
    · rw [State.ringRaised_st, State.ringLive_ring]
    · rw [State.ringRaised_rd]
      exact s.ringLive_rd _ f hf
  · exact ringDrainDoneOp_effect hst hw

end Sys2Proof.Machine
end

section
/-! The Hoist: instructions, channel control and ticks (O23). -/

namespace Sys2Proof.Machine

/-! ## Channels -/

theorem State.setChan_rd (s : State) (n : Nat) (c : Chan) (f : Fld) : (s.setChan n c).rd f = s.rd f := rfl

theorem State.chan_of_hst {s t : State} (h : t.hst = s.hst) (n : Nat) : t.chan n = s.chan n := by rw [State.chan, State.chan, h]

/-- A halt whose status is a fault, outside a MOVE. -/
theorem State.haltChan_noted {s : State} {n st : Nat} (hm : (s.chan n).move = none) (h0 : st ≠ 0x80) (h1 : st ≠ 0x81) :
    s.haltChan n st = ((s.setChan n { s.chan n with st := .halted, status := st, move := none }).wr Reg.HST_FAULT_HALT 1).event 4 1 (n + 256 * st) := by
  simp only [State.haltChan, hm]
  exact if_neg (by rintro (h | h); exacts [h0 h, h1 h])

/-- A halt that the host asked for, outside a MOVE. -/
theorem State.haltChan_quiet {s : State} {n : Nat} (hm : (s.chan n).move = none) :
    s.haltChan n 0x81 = s.setChan n { s.chan n with st := .halted, status := 0x81, move := none } := by
  simp only [State.haltChan, hm]
  exact if_pos (.inr trivial)

theorem State.haltChan_fault (s : State) (n : Nat) {st : Nat} (h0 : st ≠ 0x80) (h1 : st ≠ 0x81) : (s.haltChan n st).rd Reg.HST_FAULT_HALT = 1 := by
  simp only [State.haltChan]
  rw [if_neg (by rintro (h | h); exacts [h0 h, h1 h]), State.event_rd, State.rd_wr_same]
  rfl

theorem State.haltWaiting_chan (s : State) (n st : Nat) : ((s.haltWaiting n st).chan n).st = .halted ∧ ((s.haltWaiting n st).chan n).status = st ∧
    ((s.haltWaiting n st).chan n).pc = (s.chan n).pc := by
  have hd : (if insOp (s.chan n).ins = 3 then s.departWait n (s.chan n).ins else s).chan n = s.chan n := by
    split
    · exact State.departWait_chan ..
    · rfl
  rw [State.haltWaiting, State.haltChan_chan, State.chan_setChan_same, hd]
  exact ⟨rfl, rfl, rfl⟩

theorem channelCtrl_stop {s : State} {v : Nat} (hv : v % 8 = 4) : channelCtrl v s =
    match (s.chan (s.rd Reg.HST_SEL_CHANNEL)).st with
    | .running => if (s.chan (s.rd Reg.HST_SEL_CHANNEL)).move = none then s.haltChan (s.rd Reg.HST_SEL_CHANNEL) 0x81
        else s.setChan (s.rd Reg.HST_SEL_CHANNEL) { s.chan (s.rd Reg.HST_SEL_CHANNEL) with st := .stopping }
    | .waiting => s.haltWaiting (s.rd Reg.HST_SEL_CHANNEL) 0x81
    | .stopping => s
    | _ => s.wr Reg.HST_FAULT_CTRL_REFUSED 1 := by
  rw [channelCtrl, hv]
  rfl

/-- An uncorrectable instruction word halts the channel that is at it. -/
theorem State.runIns_uncorrectable {s : State} {n : Nat} (h : s.atIns n = true) (op : Nat) (body : State → State) :
    s.runIns n op .uncorrectable body = s.fetchBad n := (if_pos rfl).trans (if_pos h)

/-! ## The PROG group -/

/-- The members of the PROG group. -/
def progGroup (n : Nat) : List Fld :=
  [Reg.HST_CH_CFG_PROG_LEN n, Reg.HST_CH_CFG_COMPL_MODE n, Reg.HST_CH_CFG_RETRY_MAX n, Reg.HST_CH_CFG_ARB_PRIO n]

theorem progGroup_shift (n : Nat) : progGroup n = (progGroup 0).map fun f => { f with idx := n } := rfl

theorem progGroup_places : ((progGroup 0).map Fld.place).Nodup := by decide

theorem progGroup_nodup (n : Nat) : ((progGroup n).map Fld.key).Nodup := by
  have hkeys : (progGroup n).map Fld.key = ((progGroup 0).map Fld.place).map (n * 274877906944 + ·) := by
    rw [progGroup_shift, List.map_map, List.map_map]
    exact List.map_congr_left fun f _ => Fld.key_place { f with idx := n }
  rw [hkeys]
  exact List.Nodup.map (add_right_injective _) progGroup_places

theorem progGroup_ne_index (n : Nat) : (Reg.HST_CH_COMMIT_RESULT n).key ≠ (Reg.HST_CH_COMMIT_BAD_INDEX n).key ∧
    (Reg.HST_CH_CFG_PROG_LEN n).key ≠ (Reg.HST_CH_COMMIT_BAD_INDEX n).key ∧ (Reg.HST_CH_CFG_PROG_LEN n).key ≠ (Reg.HST_CH_COMMIT_RESULT n).key := by
  simp only [Fld.key, Reg.HST_CH_COMMIT_RESULT, Reg.HST_CH_COMMIT_BAD_INDEX, Reg.HST_CH_CFG_PROG_LEN]
  omega

/-- The verdict on a channel's program: the first instruction that fails. -/
def State.progBad (s : State) (n : Nat) : Option Nat :=
  firstBad s.board (s.sh (Reg.HST_CH_CFG_COMPL_MODE n) = 0) (s.chan n).progSh (s.sh (Reg.HST_CH_CFG_PROG_LEN n)) (s.sh (Reg.HST_CH_CFG_PROG_LEN n)) 0 []

/-- The new program in force. -/
def State.progTaken (s : State) (n : Nat) : State :=
  ((s.commit (Reg.HST_CH_COMMIT_RESULT n) (progGroup n) St.done).wr (Reg.HST_CH_COMMIT_BAD_INDEX n) 0).setChan n
    { s.chan n with st := .idle, status := 0, pc := 0, loops := [], flags := [], latch := none, move := none, prog := (s.chan n).progSh }

theorem State.progIdle {s : State} {n : Nat} (h : (s.chan n).st = .idle ∨ (s.chan n).st = .done ∨ (s.chan n).st = .halted) :
    ¬ ((s.chan n).st = .running ∨ (s.chan n).st = .waiting ∨ (s.chan n).st = .stopping) := by
  rcases h with h | h | h <;> simp [h]

theorem progCommitOp_done {s : State} (hst : (s.chan (s.rd Reg.HST_SEL_CHANNEL)).st = .idle ∨ (s.chan (s.rd Reg.HST_SEL_CHANNEL)).st = .done ∨
    (s.chan (s.rd Reg.HST_SEL_CHANNEL)).st = .halted) (hlen : s.sh (Reg.HST_CH_CFG_PROG_LEN (s.rd Reg.HST_SEL_CHANNEL)) ≤ 256)
    (hb : s.progBad (s.rd Reg.HST_SEL_CHANNEL) = none) : progCommitOp s = s.progTaken (s.rd Reg.HST_SEL_CHANNEL) := by
  refine (if_neg (State.progIdle hst)).trans ((if_neg (not_lt.mpr hlen)).trans ?_)
  rw [State.progBad] at hb
  rw [hb]
  rfl

theorem progCommitOp_bad {s : State} {i : Nat} (hst : (s.chan (s.rd Reg.HST_SEL_CHANNEL)).st = .idle ∨ (s.chan (s.rd Reg.HST_SEL_CHANNEL)).st = .done ∨
    (s.chan (s.rd Reg.HST_SEL_CHANNEL)).st = .halted) (hlen : s.sh (Reg.HST_CH_CFG_PROG_LEN (s.rd Reg.HST_SEL_CHANNEL)) ≤ 256)
    (hb : s.progBad (s.rd Reg.HST_SEL_CHANNEL) = some i) : progCommitOp s =
      (s.wr (Reg.HST_CH_COMMIT_RESULT (s.rd Reg.HST_SEL_CHANNEL)) St.badFormat).wr (Reg.HST_CH_COMMIT_BAD_INDEX (s.rd Reg.HST_SEL_CHANNEL)) i := by
  refine (if_neg (State.progIdle hst)).trans ((if_neg (not_lt.mpr hlen)).trans ?_)
  rw [State.progBad] at hb
  rw [hb]

/-! ## Flags -/

/-- A channel that a flag is set in. -/
def Chan.flagged (c : Chan) (e : Nat) : Chan := { c with flags := c.flags ++ [e] }

theorem State.setFlag_chan (s : State) (n e m : Nat) :
    (s.setFlag n e).chan m = if m = n ∧ (s.chan m).flags.contains e = false then (s.chan m).flagged e else s.chan m := by
  rw [State.setFlag]
  by_cases hm : m = n
  · subst hm
    split
    · next h => rw [if_neg (by rw [h]; rintro ⟨_, hc⟩; exact absurd hc (by decide)), State.chan_of_hst (State.bump_hst ..)]
    · next h =>
      rw [if_pos ⟨rfl, by simpa using h⟩, State.chan_setChan_same]
      rfl
  · rw [if_neg (c := m = n ∧ _) fun h => hm h.1]
    split
    · exact State.chan_of_hst (State.bump_hst ..) m
    · exact State.chan_setChan_ne hm ..

theorem State.setFlags_chan {l : List Nat} (h : l.Nodup) (s : State) (e m : Nat) :
    (s.setFlags e l).chan m = if m ∈ l ∧ (s.chan m).flags.contains e = false then (s.chan m).flagged e else s.chan m := by
  induction l generalizing s with
  | nil => rw [if_neg fun hc => List.not_mem_nil hc.1]; rfl
  | cons n l ih =>
    obtain ⟨hn, hl⟩ := List.nodup_cons.mp h
    rw [State.setFlags, ih hl, State.setFlag_chan]
    by_cases hm : m = n
    · subst hm
      rw [if_neg fun hc => hn hc.1]
      simp only [true_and, List.mem_cons_self]
    · simp only [hm, false_and, if_false, List.mem_cons, false_or]

/-- The tick, counted. -/
def State.tickCounted (t : State) (k : Nat) (ticks : AMap Nat) : State := { t with ticks := AMap.set k (AMap.get ticks k 0 + 1) ticks }

theorem State.tickCounted_chan (t : State) (k : Nat) (ticks : AMap Nat) (n : Nat) : (t.tickCounted k ticks).chan n = t.chan n := rfl

/-! ## MOVE -/

theorem State.beginMove_chan {s : State} {n len : Nat} (h : (s.chan n).st = .running) (a : Nat) (data : List Byte) (hl : data.length = len) :
    ((s.clearCount n).beginMove hoistBus n (.mem a false) data .clean).chan n =
      { s.chan n with bytes := 0, move := some ⟨.mem a false, data, len, 0, false, 0⟩ } := by
  subst hl
  have hst : ((s.clearCount n).chan n).st ≠ .idle := by
    rw [State.clearCount_chan, h]
    exact ChanState.noConfusion
  have hop : (s.clearCount n).beginMove hoistBus n (.mem a false) data .clean =
      State.setChan { s.clearCount n with mem := Memory.writeAll (a + 0) ((data.take data.length).drop 0) (s.clearCount n).mem } n
        { (s.clearCount n).chan n with bytes := 0, move := some ⟨.mem a false, data, data.length, 0, false, 0⟩ } := if_neg hst
  rw [hop, State.chan_setChan_same, State.clearCount_chan]

/-- A MOVE to memory or registers ends. -/
theorem moveCompleteOp_mem {s : State} {n : Nat} {m : MoveSt} (hm : (s.chan n).move = some m) (hf : m.failed = false) (hd : ∀ q, m.dst ≠ .port q) :
    moveCompleteOp n s = (s.setChan n { s.chan n with bytes := m.data.length, move := none }).nextIns n ((s.chan n).pc + 1) := by
  rw [moveCompleteOp]
  simp only [hm, hf]
  cases hc : m.dst with
  | mem a f => rfl
  | regs a f => rfl
  | port q => exact absurd hc (hd q)

theorem moveCompleteOp_port {s : State} {n q : Nat} {m : MoveSt} {o : OpenPkt} (hm : (s.chan n).move = some m) (hf : m.failed = false)
    (hd : m.dst = .port q) (ho : (s.chute q).opened = some o) : moveCompleteOp n s =
      (((s.setChute q { s.chute q with opened := none }).putPacket q o.prio none o.words).setChan n
        { s.chan n with bytes := m.data.length, move := none }).nextIns n ((s.chan n).pc + 1) := by
  rw [moveCompleteOp]
  simp only [hm, hf, hd, ho]
  rfl

/-- A retry that lands. -/
def State.retryLanded (s : State) (n a : Nat) (m : MoveSt) : State :=
  let t := s.bump (Reg.HST_CH_RETRY n) Reg.HST_FAULT_CNT_SAT
  { t with mem := Memory.writeAll (a + m.written) ((m.data.take m.data.length).drop m.written) t.mem }

theorem State.retryLanded_chan (s : State) (n a : Nat) (m : MoveSt) (k : Nat) : (s.retryLanded n a m).chan k =
    (s.bump (Reg.HST_CH_RETRY n) Reg.HST_FAULT_CNT_SAT).chan k := rfl

theorem burstRetryOp_lands {s : State} {n a : Nat} {m : MoveSt} (hm : (s.chan n).move = some m) (hf : m.failed = true) (hd : m.dst = .mem a false) :
    burstRetryOp hoistBus n true s = (s.retryLanded n a m).setChan n { (s.retryLanded n a m).chan n with
      move := some { m with failed := false, tries := m.tries + 1, written := m.data.length } } := by
  rw [burstRetryOp]
  simp only [hm, hf, MoveSt.write, hd]
  rfl

theorem burstRetryOp_fails {s : State} {n : Nat} {m : MoveSt} (hm : (s.chan n).move = some m) (hf : m.failed = true) :
    burstRetryOp hoistBus n false s =
      if m.tries + 1 ≥ s.rd (Reg.HST_CH_CFG_RETRY_MAX n) then
        ((s.bump (Reg.HST_CH_RETRY n) Reg.HST_FAULT_CNT_SAT).setChan n
          { (s.bump (Reg.HST_CH_RETRY n) Reg.HST_FAULT_CNT_SAT).chan n with move := some { m with tries := m.tries + 1 } }).haltChan n St.busError
      else (s.bump (Reg.HST_CH_RETRY n) Reg.HST_FAULT_CNT_SAT).setChan n
        { (s.bump (Reg.HST_CH_RETRY n) Reg.HST_FAULT_CNT_SAT).chan n with move := some { m with tries := m.tries + 1 } } := by
  rw [burstRetryOp]
  simp only [hm, hf]
  rfl

/-! ## WAIT and SIGNAL -/

theorem State.arriveWait_chan (s : State) (n w : Nat) : ((s.arriveWait n w).chan n).pc = (s.chan n).pc ∧
    ((s.arriveWait n w).chan n).loops = (s.chan n).loops ∧ ((s.arriveWait n w).chan n).st = (s.chan n).st ∧
    ((s.arriveWait n w).chan n).flags = (s.chan n).flags := by
  rw [State.arriveWait]
  split
  · exact ⟨rfl, rfl, rfl, rfl⟩
  · dsimp only
    rw [State.chan_setChan_same]
    exact ⟨rfl, rfl, rfl, rfl⟩

theorem State.waitStep_waits {s : State} {n w : Nat} (h : s.waitTest n w = false) : s.waitStep n w = s.setChan n { s.chan n with st := .waiting } :=
  if_neg (by rw [h]; exact Bool.false_ne_true)

/-- A WAIT whose condition holds goes on, its flag consumed. -/
theorem State.waitStep_holds {s : State} {n w : Nat} (h : s.waitTest n w = true) :
    ((s.waitStep n w).chan n).pc = (flowOn (s.chan n).loops ((s.chan n).pc + 1)).1 ∧
      ((s.waitStep n w).chan n).loops = (flowOn (s.chan n).loops ((s.chan n).pc + 1)).2 ∧ ((s.waitStep n w).chan n).st = .running ∧
      ((s.waitStep n w).chan n).flags = waitFlags w (s.chan n).flags := by
  have hop : s.waitStep n w = ((s.departWait n w).setChan n { s.chan n with flags := waitFlags w (s.chan n).flags, st := .running }).nextIns n ((s.chan n).pc + 1) := by
    rw [← s.departWait_chan n w n]
    exact if_pos h
  rw [hop, State.nextIns_of_running (by rw [State.chan_setChan_same]), State.chan_setChan_same, State.chan_setChan_same]
  exact ⟨rfl, rfl, rfl, rfl⟩

theorem State.notify_chan (s : State) (n w code m : Nat) : (s.notify n w code).chan m = s.chan m :=
  State.chan_of_hst (State.notify_only (π := State.hst) (unseen_hst (by decide)) s n w code) m

theorem State.notify_codes (s : State) (n w code : Nat) :
    (s.notify n w code).dsp.codes = if bits w 8 1 = 1 then s.dsp.codes ++ [insByte w 2] else s.dsp.codes := by
  simp only [State.notify]
  split
  · split
    · rfl
    · rfl
  · split
    · rfl
    · rfl

theorem signalOp_effect {s : State} {n : Fin 32} {fetch : Ecc} (hf : fetch ≠ .uncorrectable) (hat : s.atOp n.val 4 = true) :
    (∀ k < 32, ((signalOp n.val fetch s).chan k).flags = if bits (bits (s.chan n.val).ins 32 32) k 1 = 1 ∧ (s.chan k).flags.contains n.val = false
      then (s.chan k).flags ++ [n.val] else (s.chan k).flags) ∧
    ((signalOp n.val fetch s).chan n.val).pc = (flowOn (s.chan n.val).loops ((s.chan n.val).pc + 1)).1 ∧
    ((signalOp n.val fetch s).chan n.val).loops = (flowOn (s.chan n.val).loops ((s.chan n.val).pc + 1)).2 ∧
    ((signalOp n.val fetch s).chan n.val).st = .running ∧
    (signalOp n.val fetch s).dsp.codes = (if bits (s.chan n.val).ins 8 1 = 1 then s.dsp.codes ++ [insByte (s.chan n.val).ins 2] else s.dsp.codes) := by
  have hmem (k : Nat) : k ∈ targetList (bits (s.chan n.val).ins 32 32) ↔ k < 32 ∧ bits (bits (s.chan n.val).ins 32 32) k 1 = 1 := by
    rw [targetList, List.mem_filter, List.mem_range, decide_eq_true_iff]
  have hnd : (targetList (bits (s.chan n.val).ins 32 32)).Nodup := List.nodup_range.filter _
  have hchan (k : Nat) : (((s.setFlags n.val (targetList (bits (s.chan n.val).ins 32 32))).notify n.val (s.chan n.val).ins 2).chan k) =
      if k ∈ targetList (bits (s.chan n.val).ins 32 32) ∧ (s.chan k).flags.contains n.val = false then (s.chan k).flagged n.val else s.chan k := by
    rw [State.notify_chan, State.setFlags_chan hnd]
  have hself {β : Type} {g : Chan → β} (hg : ∀ (c : Chan) e, g (c.flagged e) = g c) :
      g (((s.setFlags n.val (targetList (bits (s.chan n.val).ins 32 32))).notify n.val (s.chan n.val).ins 2).chan n.val) = g (s.chan n.val) := by
    rw [hchan]
    split
    · exact hg ..
    · rfl
  have hrun := hself (g := Chan.st) fun _ _ => rfl
  have hloops := hself (g := Chan.loops) fun _ _ => rfl
  have hop : signalOp n.val fetch s =
      ((s.setFlags n.val (targetList (bits (s.chan n.val).ins 32 32))).notify n.val (s.chan n.val).ins 2).nextIns n.val ((s.chan n.val).pc + 1) :=
    State.runIns_of_atOp hat hf _
  have hst := hrun.trans (State.atOp_iff.mp hat).1
  rw [hop, State.nextIns_of_running hst, State.chan_setChan_same, hloops]
  refine ⟨fun k hk => ?_, rfl, rfl, hst, ?_⟩
  · have hflags : (((s.setFlags n.val (targetList (bits (s.chan n.val).ins 32 32))).notify n.val (s.chan n.val).ins 2).chan k).flags =
        if bits (bits (s.chan n.val).ins 32 32) k 1 = 1 ∧ (s.chan k).flags.contains n.val = false then (s.chan k).flags ++ [n.val] else (s.chan k).flags := by
      rw [hchan]
      simp only [hmem, hk, true_and]
      split
      · rfl
      · rfl
    rw [← hflags]
    by_cases hkn : k = n.val
    · rw [hkn, State.chan_setChan_same]
    · rw [State.chan_setChan_ne hkn]
  · refine (State.notify_codes _ n.val (s.chan n.val).ins 2).trans ?_
    rw [State.setFlags_only (π := State.dsp) (unseen_dsp (by decide))]

/-- Settles O23: each instruction and command of a channel by the branch that the channel is in. -/
theorem hoistPrograms : Obligations.HoistPrograms := by
  refine ⟨fun s n hup hn hst hlen hbad => ?_, fun s n i hup hn hst hlen hbad => ?_, fun s v n hup hn hv hst => ?_, fun s v n hup hn hv hst => ?_,
    fun s v n hup hn hv hst => ?_, fun s v n hup hn hv hst hm => ?_, fun s v n m hup hn hv hst hm => ?_, fun s v n hup hn hv hst => ?_,
    fun s v n hup hn => ?_, fun s v n hup hn => ?_, fun s k v hup => ?_, fun s k hup hp => ?_,
    fun s n fetch src dst len hup hf hat ⟨he, hl⟩ ⟨hs4, hs5⟩ hlen hsrc hdst => ?_, fun s n fetch bus hup hf hat hlen => ?_,
    fun s n fetch bus hup hf hat hlen hreg => ?_, fun s n bus hup hat => ?_, fun s n m hup hm hf hd hst => ?_,
    fun s n m q o hup hm hf hd ho hst => ?_, fun s n m a hup hm hf hd => ?_, fun s n m hup hm hf hlt => ?_, fun s n m hup hm hf hle => ?_,
    fun s n fetch hup hf hat hb hc => ?_, fun s n fetch hup hf hat h => ?_, fun s n fetch hup hf hat hw => ?_, fun s n fetch hup hf hat hw => ?_,
    fun s n hup hst h3 hw => ?_, fun s n hup hst h3 hr => ?_, fun s n hup hst h3 ht => ?_, fun s n fetch hup hf hat => ?_,
    fun s n fetch hup hf hat => ?_, fun s n fetch hup hst hpc hm => ?_⟩ <;>
    refine Gives.of_main hup rfl ?_
  · subst hn
    rw [progCommitOp_done hst hlen hbad]
    have hres := progGroup_ne_index (s.rd Reg.HST_SEL_CHANNEL)
    refine ⟨?_, ?_, ?_, ?_, ?_, ?_⟩
    · rw [State.progTaken, State.setChan_rd, State.rd_wr_ne hres.1]
      exact State.commit_result ..
    · rw [State.progTaken, State.chan_setChan_same]
    · rw [State.progTaken, State.chan_setChan_same]
    · rw [State.progTaken, State.chan_setChan_same]
    · rw [State.progTaken, State.chan_setChan_same]
    · rw [State.progLen, State.progTaken, State.setChan_rd, State.rd_wr_ne hres.2.1]
      exact State.commit_live (progGroup _) List.mem_cons_self (progGroup_nodup _) hres.2.2 s
  · subst hn
    rw [progCommitOp_bad hst hlen hbad]
    refine ⟨?_, State.rd_wr_same .., rfl⟩
    rw [State.rd_wr_ne (progGroup_ne_index _).1, State.rd_wr_same]
    rfl
  · subst hn
    rw [channelCtrl, hv]
    exact if_pos hst
  · subst hn
    rw [channelCtrl, hv]
    exact if_pos hst
  · subst hn
    rw [channelCtrl, hv]
    exact if_neg hst
  · subst hn
    rw [channelCtrl_stop hv, hst, State.haltChan_quiet hm]
    exact if_pos hm
  · subst hn
    rw [channelCtrl_stop hv, hst]
    exact if_neg (by rw [hm]; exact Option.some_ne_none m)
  · subst hn
    rw [channelCtrl_stop hv, hst]
    exact State.haltWaiting_chan s _ 0x81
  · subst hn
    refine ⟨fun e => ?_, rfl⟩
    rw [eventFlagsClearOp, State.chan_setChan_same]
    simp [List.mem_filter]
    intro _
    omega
  · subst hn
    refine ⟨fun e => ?_, rfl⟩
    rw [eventFlagsClearOp, State.chan_setChan_same]
    simp [List.mem_filter]
    omega
  · exact ⟨State.rd_wr_same .., rfl, rfl⟩
  · have hop : hoistTickOp k.val s = (s.setFlags (32 + k.val) (List.range 32)).tickCounted k.val s.ticks := if_neg hp
    rw [hop]
    refine ⟨fun n hn => ?_, AMap.get_set_same .., ?_⟩
    rotate_left
    · rw [← hop]
      exact hoistTickOp_only (π := State.mode) (unseen_mode (by decide)) k.val s
    rw [State.tickCounted_chan, State.setFlags_chan List.nodup_range]
    by_cases hc : (s.chan n).flags.contains (32 + k.val) = true
    · rw [if_neg (by rw [hc]; rintro ⟨_, h⟩; exact absurd h (by decide)), if_pos hc]
    · rw [if_pos ⟨List.mem_range.mpr hn, by simpa using hc⟩, if_neg hc]
      rfl
  · obtain ⟨rs, hregion, hrs⟩ : ∃ rs, regionOf s.board src len = some rs ∧ (rs = .ram ∨ rs = .nor) := by
      rcases hsrc with h | h
      · exact ⟨_, h, .inl rfl⟩
      · exact ⟨_, h, .inr rfl⟩
    have hop := moveOp_of_memory hat hf he hl.symm hlen hs4 hs5 hrs hregion hdst hoistBus .clean
    refine ⟨moveOp_mem_of_memory hat hf he hl.symm hlen hs4 hs5 hrs hregion hdst (.inl rfl) hoistBus, ?_⟩
    have hclean : (if rs = .ram ∧ src < s.board.lpddr then (s.clearCount n.val).lpddrRead src .clean else s.clearCount n.val) = s.clearCount n.val := by
      split
      · rfl
      · rfl
    rw [hop, hclean]
    exact State.beginMove_chan (State.atOp_iff.mp hat).1 _ _ (Memory.length_readAll ..)
  · obtain ⟨hrun, _, _, hm⟩ := State.atOp_iff.mp hat
    rw [moveOp_of_len_zero hat hf hlen, State.nextIns_of_running (by rw [State.clearCount_chan]; exact hrun), State.chan_setChan_same, State.clearCount_chan]
    exact ⟨by rw [← hm], rfl⟩
  · obtain ⟨_, _, _, hm⟩ := State.atOp_iff.mp hat
    rw [moveOp_of_no_region hat hf rfl rfl hlen (.inl hreg), State.haltChan_chan, State.clearCount_chan,
      State.haltChan_mem (by rw [State.clearCount_chan]; exact hm)]
    exact ⟨by rw [← hm], State.haltChan_fault _ _ (by decide) (by decide), rfl⟩
  · have hm : (s.chan n.val).move = none := by
      simp only [State.atIns, Bool.and_eq_true, beq_iff_eq] at hat
      exact hat.2
    have hop : moveOp hoistBus n.val .uncorrectable bus s = s.fetchBad n.val := State.runIns_uncorrectable hat 1 _
    rw [hop, State.fetchBad, State.haltChan_chan, State.haltChan_noted (s := s.wr Reg.HST_FAULT_UNCORR 1) hm (by decide) (by decide)]
    refine ⟨congrArg (fun m => { s.chan n.val with st := .halted, status := St.eccUncorrected, move := m }) hm.symm, ?_, ?_⟩
    · rw [State.event_rd, State.rd_wr_ne (by decide), State.setChan_rd, State.rd_wr_same]
      rfl
    · rw [State.event_rd, State.rd_wr_same]
      rfl
  · rw [moveCompleteOp_mem hm hf hd, State.nextIns_of_running (by rw [State.chan_setChan_same]; exact hst), State.chan_setChan_same, State.chan_setChan_same]
    exact ⟨rfl, rfl⟩
  · rw [moveCompleteOp_port hm hf hd ho, State.nextIns_of_running (by rw [State.chan_setChan_same]; exact hst), State.chan_setChan_same,
      State.chan_setChan_same]
    have hq (t : State) (c d : Chan) : ((t.setChan n.val c).setChan n.val d).chute q = t.chute q := rfl
    rw [hq, State.putPacket, State.chute_setChute_same, State.chute_setChute_same]
    exact ⟨rfl, rfl, rfl⟩
  · rw [burstRetryOp_lands hm hf hd]
    refine ⟨?_, by rw [State.chan_setChan_same], ?_⟩
    · show Memory.writeAll _ _ (s.bump _ _).mem = _
      rw [State.bump_mem, List.take_length]
    · rw [State.chan_setChan_same, State.retryLanded_chan, State.chan_of_hst (State.bump_hst ..)]
  · rw [burstRetryOp_fails hm hf, if_neg (by show ¬ s.rd _ ≤ m.tries + 1; omega), State.chan_setChan_same, State.setChan_mem, State.bump_mem,
      State.chan_of_hst (State.bump_hst ..)]
    exact ⟨rfl, rfl⟩
  · rw [burstRetryOp_fails hm hf, if_pos hle, State.haltChan_chan, State.chan_setChan_same, State.chan_of_hst (State.bump_hst ..)]
    exact ⟨rfl, rfl, rfl, State.haltChan_fault _ _ (by decide) (by decide)⟩
  · rw [loopOp, State.runIns_of_atOp hat hf]
    exact if_neg (by rintro (h | h); exacts [hb h, hc h])
  · obtain ⟨hrun, _, _, hm⟩ := State.atOp_iff.mp hat
    have hop : loopOp n.val fetch s = s.nextIns n.val ((s.chan n.val).pc + 1 + bits (s.chan n.val).ins 8 8) := by
      rw [loopOp, State.runIns_of_atOp hat hf]
      exact if_pos h
    rw [hop, State.nextIns_of_running hrun, State.chan_setChan_same, ← hm]
  · rw [waitOp, State.runIns_of_atOp hat hf]
    obtain ⟨hpc, hloops, hst, hflags⟩ := State.waitStep_holds hw
    obtain ⟨apc, aloops, ast, aflags⟩ := s.arriveWait_chan n.val (s.chan n.val).ins
    exact ⟨by rw [hpc, apc, aloops], by rw [hloops, apc, aloops], hst, by rw [hflags, aflags]⟩
  · rw [waitOp, State.runIns_of_atOp hat hf, State.waitStep_waits hw, State.chan_setChan_same]
    obtain ⟨apc, aloops, ast, aflags⟩ := s.arriveWait_chan n.val (s.chan n.val).ins
    exact ⟨apc, rfl, aflags⟩
  · have hop : waitSatisfiedOp n.val s = s.waitStep n.val (s.chan n.val).ins := (if_neg (not_not.mpr hst)).trans (if_pos h3)
    rw [hop]
    exact State.waitStep_holds hw
  · exact (if_neg (not_not.mpr hst)).trans ((if_neg h3).trans (if_pos hr))
  · have hop : waitTimeoutOp n.val s = (s.departWait n.val (s.chan n.val).ins).haltChan n.val St.stale := if_pos ⟨hst, h3, ht⟩
    rw [hop, State.haltChan_chan, State.departWait_chan]
    exact ⟨rfl, rfl, rfl, State.haltChan_fault _ _ (by decide) (by decide)⟩
  · exact signalOp_effect hf hat
  · obtain ⟨hrun, _, _, hm⟩ := State.atOp_iff.mp hat
    have hop : endOp n.val fetch s = (s.setChan n.val { s.chan n.val with st := .done, status := St.done }).notify n.val (s.chan n.val).ins 3 :=
      (if_neg fun h => hf h.1).trans (if_pos hat)
    rw [hop, State.notify_chan, State.chan_setChan_same, State.notify_codes]
    exact ⟨rfl, rfl⟩
  · have hi : s.atIns n.val = false := by
      rw [State.atIns, decide_eq_false (not_lt.mpr hpc)]
      simp
    have ho : s.atOp n.val 0 = false := by
      rw [State.atOp, decide_eq_false (not_lt.mpr hpc)]
      simp
    exact (if_neg (by rw [hi]; simp)).trans ((if_neg (by rw [ho]; decide)).trans (if_pos ⟨hst, hpc, hm⟩))

end Sys2Proof.Machine
end

section
/-! Dispatch's threads and flows (O24): what the threads' turns leave as it was. -/

namespace Sys2Proof.Machine

/-! ## What the threads' turns leave -/

/-- A window entry without the thread it was given to. -/
def WinEntry.face (x : WinEntry) : Nat × Nat × Nat × Option EntryOut := (x.seq, x.flow, x.epoch, x.done)

/-- A function of Dispatch's state that sees nothing of the READY threads, the units, the counts of waiting and the threads of the entries. -/
def DspPlain {β : Type} (g : Dsp → β) : Prop :=
  ∀ (d : Dsp) (r : List Nat) (u h : AMap Nat) (w : List WinEntry), w.map WinEntry.face = d.win.map WinEntry.face →
    g { d with ready := r, units := u, hist := h, win := w } = g d

/-- A function of the state that sees nothing of what a wake of a thread changes. -/
structure WakePlain {β : Type} (π : State → β) : Prop where
  turn : ∀ (s : State) (r : List Nat) (u h : AMap Nat) (w : List WinEntry), w.map WinEntry.face = s.dsp.win.map WinEntry.face →
    π { s with dsp := { s.dsp with ready := r, units := u, hist := h, win := w } } = π s
  saturate : ∀ (s : State) (i : Nat), π (s.saturate Reg.DSP_FAULT_CNT_SAT i) = π s
  merged : ∀ s : State, π (s.wrapBy Reg.DSP_WAKE_MERGED 1) = π s

theorem DspPlain.wakePlain {β : Type} {g : Dsp → β} (h : DspPlain g) : WakePlain fun s => g s.dsp where
  turn s := h s.dsp
  saturate s i := congrArg g (State.saturate_dsp s _ i)
  merged s := congrArg g (State.wrapBy_dsp s _ 1)

/-- The registers of Dispatch but the count of merged wakes and the end of a counter. -/
theorem wakePlain_rd {f : Fld} (hb : f.blk = 5) (hm : f.key ≠ Reg.DSP_WAKE_MERGED.key) (hs : f.key ≠ Reg.DSP_FAULT_CNT_SAT.key) :
    WakePlain fun s => s.rd f where
  turn _ _ _ _ _ _ := rfl
  saturate s i := by
    rw [State.saturate, State.rd_tallyRecord_ne (by rw [hb]; decide), State.rd_fault_ne hs (Fld.key_ne (by rw [hb]; decide))]
  merged s := State.rd_wrapBy_ne hm s 1

theorem State.tallyRecord_chute {n : Nat} (h : n ≠ 48) (s : State) (k i v c : Nat) (d : List Nat) : (s.tallyRecord k i v c d).chute n = s.chute n :=
  State.tallyRecord_of (π := fun s => s.chute n) (fun _ _ => rfl) (fun t c => State.chute_setChute_ne h t c) (fun _ _ => rfl) (fun _ _ => rfl)
    s k i v c d

theorem wakePlain_chute {n : Nat} (h : n ≠ 48) : WakePlain fun s => s.chute n where
  turn _ _ _ _ _ _ := rfl
  saturate _ _ := State.tallyRecord_chute h ..
  merged _ := rfl

section
variable {β : Type} {π : State → β} (hw : WakePlain π)
include hw

theorem State.countWait_of (s : State) (c us : Nat) : π (s.countWait c us) = π s := by
  have hcount : ∀ h : AMap Nat, π { s with dsp := { s.dsp with hist := h } } = π s := fun h => hw.turn s s.dsp.ready s.dsp.units h s.dsp.win rfl
  rw [State.countWait]
  split
  · rfl
  · dsimp only
    split
    · rw [hw.saturate, hcount]
    · exact hcount _

theorem State.makeReady_of (s : State) (k : Nat) : π (s.makeReady k) = π s := by
  rw [State.makeReady]
  split
  · exact hw.turn s (s.dsp.ready ++ [k]) s.dsp.units s.dsp.hist s.dsp.win rfl
  · next c u _ =>
    rw [State.countWait_of hw]
    exact hw.turn s (u :: s.dsp.ready) (AMap.set c k s.dsp.units) s.dsp.hist s.dsp.win rfl

theorem State.wake_of (s : State) (k : Nat) : π (s.wake k) = π s := by
  rw [State.wake]
  split
  · rfl
  · split
    · exact hw.merged s
    · exact State.makeReady_of hw s k

theorem State.assign_of (s : State) (f : Nat) : π (s.assign f) = π s := by
  rw [State.assign]
  split
  · rfl
  · split
    · next e k _ _ =>
      rw [State.wake_of hw]
      refine hw.turn s s.dsp.ready s.dsp.units s.dsp.hist _ ?_
      rw [List.map_map]
      refine List.map_congr_left fun x _ => ?_
      dsimp only [Function.comp]
      split <;> rfl
    · rfl

theorem State.assignAll_of (s : State) : π s.assignAll = π s := by
  rw [State.assignAll]
  generalize s.dsp.win = l
  induction l generalizing s with
  | nil => rfl
  | cons e l ih => exact (ih (s.assign e.flow)).trans (State.assign_of hw s e.flow)

end

/-! ## Wakes and turns -/

theorem State.wake_sleeping {s : State} {k : Nat} (hen : s.on (Reg.DSP_THR_CFG_ENABLE k) = true) (hr : s.dsp.ready.contains k = false)
    (hu : s.runningThread k = false) : s.wake k = s.makeReady k := by
  rw [State.wake, hen, hr, hu]
  rfl

/-- Whether a unit that thread k may run on is free. -/
theorem State.unitFree_iff (s : State) (k : Nat) :
    ((List.range 9).any fun c => s.mayRun k c && (AMap.find c s.dsp.units).isNone) = true ↔
      ∃ c < 9, s.mayRun k c = true ∧ AMap.find c s.dsp.units = none := by
  simp [List.any_eq_true]

theorem State.makeReady_waits {s : State} {k : Nat}
    (h : (∃ c < 9, s.mayRun k c = true ∧ AMap.find c s.dsp.units = none) ∨ s.victim k s.dsp.units = none) :
    s.makeReady k = { s with dsp := { s.dsp with ready := s.dsp.ready ++ [k] } } := by
  have hnone : (if (List.range 9).any fun c => s.mayRun k c && (AMap.find c s.dsp.units).isNone then none else s.victim k s.dsp.units) = none := by
    rcases h with h | h
    · exact if_pos ((s.unitFree_iff k).mpr h)
    · rw [h, ite_self]
  rw [State.makeReady, hnone]

theorem State.makeReady_preempts {s : State} {k c u : Nat} (hfree : ∀ c < 9, s.mayRun k c = true → AMap.find c s.dsp.units ≠ none)
    (hv : s.victim k s.dsp.units = some (c, u)) :
    s.makeReady k = ({ s with dsp := { s.dsp with ready := u :: s.dsp.ready, units := AMap.set c k s.dsp.units } }).countWait c 0 := by
  have hsome : (if (List.range 9).any fun c => s.mayRun k c && (AMap.find c s.dsp.units).isNone then none else s.victim k s.dsp.units) =
      some (c, u) := by
    rw [if_neg (fun h => ?_), hv]
    obtain ⟨d, hd, hm, hn⟩ := (s.unitFree_iff k).mp h
    exact hfree d hd hm hn
  rw [State.makeReady, hsome]

/-- A count of waiting leaves all of Dispatch but the counts. -/
theorem State.countWait_dsp {β : Type} {g : Dsp → β} (hg : ∀ (d : Dsp) (h : AMap Nat), g { d with hist := h } = g d) (s : State) (c us : Nat) :
    g (s.countWait c us).dsp = g s.dsp := by
  rw [State.countWait]
  split
  · rfl
  · dsimp only
    split
    · rw [State.saturate_dsp]
      exact hg ..
    · exact hg ..

/-! ## Messages and packets -/

theorem State.takeIn_dsp (s : State) (f chute epoch : Nat) (lid : Option Nat) (own : Option OwnFrame) :
    (s.takeIn f chute epoch lid own).dsp.adm = (s.dsp.adm + 1) % 4294967296 ∧
      (s.takeIn f chute epoch lid own).dsp.win.map WinEntry.face =
        s.dsp.win.map WinEntry.face ++ [((s.dsp.adm + 1) % 4294967296, f, epoch, none)] := by
  have hadm : DspPlain Dsp.adm := fun _ _ _ _ _ _ => rfl
  have hwin : DspPlain fun d => d.win.map WinEntry.face := fun _ _ _ _ _ h => h
  refine ⟨(State.assign_of hadm.wakePlain _ f).trans ?_, (State.assign_of hwin.wakePlain _ f).trans ?_⟩
  · rw [State.wrapBy_dsp]
  · rw [State.wrapBy_dsp, List.map_append]
    rfl

theorem admitted_plain (f : Nat) : WakePlain fun s => s.rd (Reg.DSP_FLOW_ADMITTED f) :=
  wakePlain_rd (Reg.DSP_FLOW_ADMITTED_blk f) (by simp only [Fld.key, Reg.DSP_FLOW_ADMITTED, Reg.DSP_WAKE_MERGED]; omega)
    (by simp only [Fld.key, Reg.DSP_FLOW_ADMITTED, Reg.DSP_FAULT_CNT_SAT]; omega)

theorem State.takeIn_admitted (s : State) (f chute epoch : Nat) (lid : Option Nat) (own : Option OwnFrame) :
    (s.takeIn f chute epoch lid own).rd (Reg.DSP_FLOW_ADMITTED f) = (s.rd (Reg.DSP_FLOW_ADMITTED f) + 1) % 2 ^ (Reg.DSP_FLOW_ADMITTED f).w :=
  (State.assign_of (admitted_plain f) _ f).trans (State.wrapBy_rd ..)

theorem State.takeIn_mode (s : State) (f chute epoch : Nat) (lid : Option Nat) (own : Option OwnFrame) :
    (s.takeIn f chute epoch lid own).mode = s.mode :=
  (State.assign_only (π := State.mode) (unseen_mode (by decide)) _ f).trans rfl

theorem State.takeIn_chute {n : Nat} (h : n ≠ 48) (s : State) (f chute epoch : Nat) (lid : Option Nat) (own : Option OwnFrame) :
    (s.takeIn f chute epoch lid own).chute n = s.chute n :=
  (State.assign_of (wakePlain_chute h) _ f).trans rfl

theorem State.takeIn_round (s : State) (f chute epoch : Nat) (lid : Option Nat) (own : Option OwnFrame) :
    (s.takeIn f chute epoch lid own).dsp.round = s.dsp.round := by
  have hround : DspPlain Dsp.round := fun _ _ _ _ _ _ => rfl
  refine (State.assign_of hround.wakePlain _ f).trans ?_
  rw [State.wrapBy_dsp]

theorem State.post_taken {s : State} {f : Nat} (hf : 37 ≤ f) (ho : s.dsp.open_ = true) (hen : s.on (Reg.DSP_FLOW_CFG_ENABLE f) = true)
    (hh : s.flowHeld f < s.rd (Reg.DSP_FLOW_CFG_WIN_MAX f)) : s.post f = s.takeIn f postedChute s.nextEpoch none none := by
  rw [State.post, if_neg (by rw [ho]; simp; omega), if_neg (by rw [hen]; exact Bool.false_ne_true), if_neg (Nat.not_le.mpr hh)]

theorem finishRead_pkts (c : Chute) : c.finishRead.pkts = c.pkts := by
  rw [Chute.finishRead]
  split <;> rfl

theorem State.takeAny_rest {s : State} {n : Nat} {p : Packet} {rest : List Packet} (hb : bestPacket (s.chute n).pkts = some (p, rest)) :
    ((s.takeAny n).chute n).pkts = rest := by
  rw [State.takeAny, finishRead_pkts, hb]
  exact congrArg Chute.pkts (AMap.get_set_same ..)

theorem State.chuteBump_chute {n : Nat} (h : n ≠ 48) (f : Fld) (m : Nat) (s : State) : (s.chuteBump f m).chute n = s.chute n := by
  have hcount : (s.chuteCount f m).chute n = s.chute n :=
    State.chuteCount_of (π := fun s => s.chute n) (fun _ _ => rfl) (fun _ _ => rfl) (fun _ _ => rfl) s
  rw [State.chuteBump]
  split
  · rw [State.tallyRecord_chute h, hcount]
  · exact hcount

/-- A packet read without an uncorrectable word leaves its chute. -/
theorem State.takeChecked_rest {s : State} {n : Nat} {ecc : Ecc} {p : Packet} {rest : List Packet} (h48 : n ≠ 48) (he : ecc ≠ .uncorrectable)
    (hb : bestPacket (s.chute n).pkts = some (p, rest)) :
    (s.takeChecked n ecc).2 = true ∧ ((s.takeChecked n ecc).1.chute n).pkts = rest := by
  have hb' : bestPacket ((s.setChute n (s.chute n).finishRead).chute n).pkts = some (p, rest) := by
    rw [State.chute_setChute_same]
    exact (congrArg bestPacket (finishRead_pkts _)).trans hb
  cases ecc with
  | uncorrectable => exact absurd rfl he
  | corrected =>
    simp only [State.takeChecked, hb']
    exact ⟨trivial, (congrArg Chute.pkts (State.chuteBump_chute h48 _ _ _)).trans (State.takeAny_rest hb)⟩
  | clean =>
    simp only [State.takeChecked]
    exact ⟨trivial, State.takeAny_rest hb⟩

theorem nextInput_ne_tally {s : State} {c : Nat} (h : s.nextInput = some c) : c ≠ 48 := by
  have hmem := List.mem_of_find?_eq_some h
  have hin : c ∈ inputChutes := by
    rcases List.mem_append.mp hmem with h | h <;> exact List.mem_of_mem_filter h
  rintro rfl
  exact absurd hin (by decide)

/-- The state in which the packet p, taken of a chute, is this unit's own admission where it came by a port. -/
def State.ownFrame (s : State) (p : Packet) : State :=
  match p.own with
  | some o => if o.typ = 1 then s else { s with twn := { s.twn with own := s.twn.own ++ [{ o with adm := (s.dsp.adm + 1) % 4294967296 }] } }
  | none => s

theorem State.ownFrame_of {β : Type} {π : State → β} (h : ∀ (s : State) (w : Twn), π { s with twn := w } = π s) (s : State) (p : Packet) :
    π (s.ownFrame p) = π s := by
  rw [State.ownFrame]
  split
  · split
    · rfl
    · exact h ..
  · rfl

/-- The state after the chute c is the last one read in the round. -/
def State.inRound (s : State) (c : Nat) : State := { s with dsp := { s.dsp with round := c } }

theorem packetAdmissionOp_taken {s : State} {ecc : Ecc} {c : Nat} {p : Packet} (ho : s.dsp.open_ = true) (hn : s.nextInput = some c)
    (hp : s.nextPacket c = some p) (hok : ((s.inRound c).takeChecked c ecc).2 = true) (hen : s.on (Reg.DSP_FLOW_CFG_ENABLE (flowOf c p.lid)) = true)
    (hh : s.flowHeld (flowOf c p.lid) < s.rd (Reg.DSP_FLOW_CFG_WIN_MAX (flowOf c p.lid))) :
    packetAdmissionOp ecc s =
      (((s.inRound c).takeChecked c ecc).1.ownFrame p).takeIn (flowOf c p.lid) c p.epoch p.lid p.own := by
  rw [packetAdmissionOp, if_neg (by rw [ho]; exact Bool.false_ne_true), hn]
  dsimp only
  rw [hp]
  dsimp only
  rw [if_neg (by rw [hen, decide_eq_false (Nat.not_le.mpr hh)]; exact Bool.false_ne_true)]
  rw [State.inRound] at hok
  rw [if_neg (by rw [hok]; exact Bool.false_ne_true), if_neg (by rw [hen]; exact Bool.false_ne_true)]
  rfl

/-- The state in which the chute c, whose flow f is full, is not read on. -/
def State.inStall (s : State) (c f : Nat) : State := { s with dsp := { s.dsp with round := c, stalled := s.dsp.stalled ++ [(c, f)] } }

theorem packetAdmissionOp_full {s : State} {ecc : Ecc} {c : Nat} {p : Packet} (ho : s.dsp.open_ = true) (hn : s.nextInput = some c)
    (hp : s.nextPacket c = some p) (hen : s.on (Reg.DSP_FLOW_CFG_ENABLE (flowOf c p.lid)) = true)
    (hh : s.rd (Reg.DSP_FLOW_CFG_WIN_MAX (flowOf c p.lid)) ≤ s.flowHeld (flowOf c p.lid)) :
    packetAdmissionOp ecc s =
      ((s.inStall c (flowOf c p.lid)).bump (Reg.DSP_FLOW_STALL (flowOf c p.lid)) Reg.DSP_FAULT_CNT_SAT).fault Reg.DSP_FAULT_STALL := by
  rw [packetAdmissionOp, if_neg (by rw [ho]; exact Bool.false_ne_true), hn]
  dsimp only
  rw [hp]
  dsimp only
  rw [if_pos (by rw [hen, decide_eq_true hh]; rfl)]
  rfl

/-! ## Entries that are complete -/

/-- The entry x, completed with o where it is the entry q. -/
def WinEntry.ended (q : Nat) (o : EntryOut) (x : WinEntry) : WinEntry := if x.seq == q then { x with done := some o } else x

theorem WinEntry.ended_same {q : Nat} {x : WinEntry} (h : x.seq = q) (o : EntryOut) : x.ended q o = { x with done := some o } :=
  if_pos (beq_iff_eq.mpr h)

theorem WinEntry.ended_flow (q : Nat) (o : EntryOut) (x : WinEntry) : (x.ended q o).flow = x.flow := by
  rw [WinEntry.ended]
  split <;> rfl

theorem WinEntry.ended_seq (q : Nat) (o : EntryOut) (x : WinEntry) : (x.ended q o).seq = x.seq := by
  rw [WinEntry.ended]
  split <;> rfl

theorem find?_ended (f q : Nat) (o : EntryOut) (l : List WinEntry) :
    (l.map (WinEntry.ended q o)).find? (·.flow == f) = (l.find? (·.flow == f)).map (WinEntry.ended q o) := by
  rw [List.find?_map]
  congr 2
  funext x
  exact congrArg (· == f) (WinEntry.ended_flow q o x)

/-- The completed entry apart, the window is what it was. -/
theorem filter_ended (q : Nat) (o : EntryOut) (l : List WinEntry) :
    (l.map (WinEntry.ended q o)).filter (·.seq != q) = l.filter (·.seq != q) := by
  induction l with
  | nil => rfl
  | cons x l ih =>
    rw [List.map_cons, List.filter_cons, List.filter_cons, WinEntry.ended_seq, ih]
    split
    · next h => rw [WinEntry.ended, if_neg (by simpa using h)]
    · rfl

theorem State.releaseFlow_stop {s : State} {f : Nat} (h : ∀ x, s.dsp.win.find? (·.flow == f) = some x → x.done = none) (n : Nat) :
    s.releaseFlow f n = s := by
  cases n with
  | zero => rfl
  | succ n =>
    rw [State.releaseFlow]
    split
    · rfl
    · next x hx => rw [h x hx]

/-- The state after the entry e, the entry q, has left its flow's window. -/
def State.entryGone (s : State) (q f : Nat) : State :=
  ({ s with dsp := { s.dsp with win := s.dsp.win.filter (·.seq != q), stalled := s.dsp.stalled.filter (·.2 != f) } }).wrapBy
    (Reg.DSP_FLOW_RELEASED f) 1

/-- The state after the first entry e of its flow is released with its outcome o. -/
def State.entryOut (s : State) (e : WinEntry) (o : EntryOut) : State := (s.entryGone e.seq e.flow).deliver { e with done := some o } o

theorem State.entryOut_dsp (s : State) (e : WinEntry) (o : EntryOut) :
    (s.entryOut e o).dsp = { s.dsp with win := s.dsp.win.filter (·.seq != e.seq), stalled := s.dsp.stalled.filter (·.2 != e.flow) } := by
  rw [State.entryOut, State.deliver_only (π := State.dsp) (unseen_dsp (by decide)), State.entryGone, State.wrapBy_dsp]

theorem entryCompleteOp_first {s : State} {q : Nat} {o : EntryOut} {e : WinEntry} (hf : s.dsp.win.find? (·.flow == e.flow) = some e)
    (hq : e.seq = q) (ht : e.thread.isSome = true) (hd : e.done = none) (hone : ∀ x ∈ s.dsp.win, x.seq = q → x = e)
    (hnext : ∀ x, (s.dsp.win.filter (·.seq != q)).find? (·.flow == e.flow) = some x → x.done = none) :
    entryCompleteOp q o s = (s.entryOut e o).assignAll := by
  subst hq
  have hfind : s.dsp.win.find? (fun x => x.seq == e.seq && x.thread.isSome && x.done.isNone) = some e := by
    cases hx : s.dsp.win.find? fun x => x.seq == e.seq && x.thread.isSome && x.done.isNone with
    | none => exact absurd (List.find?_eq_none.mp hx e (List.mem_of_find?_eq_some hf)) (by simp [ht, hd])
    | some x =>
      have hp := List.find?_some hx
      simp only [Bool.and_eq_true, beq_iff_eq] at hp
      rw [hone x (List.mem_of_find?_eq_some hx) hp.1.1]
  have hfirst : (s.dsp.win.map (WinEntry.ended e.seq o)).find? (·.flow == e.flow) = some { e with done := some o } := by
    rw [find?_ended, hf, Option.map_some, WinEntry.ended_same rfl]
  rw [entryCompleteOp, hfind]
  refine congrArg State.assignAll ?_
  change State.releaseFlow { s with dsp := { s.dsp with win := s.dsp.win.map (WinEntry.ended e.seq o) } } e.flow
    ((s.dsp.win.map (WinEntry.ended e.seq o)).length + 1) = _
  rw [State.releaseFlow]
  dsimp only
  rw [hfirst]
  dsimp only
  rw [filter_ended]
  refine State.releaseFlow_stop (s := s.entryOut e o) (fun x hx => ?_) _
  rw [State.entryOut_dsp] at hx
  exact hnext x hx

theorem released_plain (f : Nat) : WakePlain fun s => s.rd (Reg.DSP_FLOW_RELEASED f) :=
  wakePlain_rd (Reg.DSP_FLOW_RELEASED_blk f) (by simp only [Fld.key, Reg.DSP_FLOW_RELEASED, Reg.DSP_WAKE_MERGED]; omega)
    (by simp only [Fld.key, Reg.DSP_FLOW_RELEASED, Reg.DSP_FAULT_CNT_SAT]; omega)

theorem State.entryOut_released (s : State) (e : WinEntry) (o : EntryOut) :
    (s.entryOut e o).rd (Reg.DSP_FLOW_RELEASED e.flow) = (s.rd (Reg.DSP_FLOW_RELEASED e.flow) + 1) % 2 ^ (Reg.DSP_FLOW_RELEASED e.flow).w := by
  rw [State.entryOut, State.rd_of_only _ (State.deliver_only · (s.entryGone e.seq e.flow) _ o) (by rw [Reg.DSP_FLOW_RELEASED_blk]; decide)]
  exact State.wrapBy_rd ..

theorem State.entryGone_rd {f : Fld} (h : f.blk ≠ 5) (s : State) (q n : Nat) : (s.entryGone q n).rd f = s.rd f :=
  State.rd_wrapBy_ne (Fld.key_ne (by rw [Reg.DSP_FLOW_RELEASED_blk]; exact h)) _ 1

/-- A packet that finds room joins its chute. -/
theorem State.offer_fits {s : State} {n : Nat} {ws : List DWord} (h : s.fits n ws = true) (prio : Nat) :
    s.offer n prio ws = (s.putPacket n prio none ws, true) := by
  simp only [State.fits, Bool.and_eq_true, Option.isNone_iff_eq_none, decide_eq_true_eq, Bool.not_eq_true'] at h
  obtain ⟨⟨⟨⟨hopen, hon⟩, hcredit⟩, hlen⟩, hws⟩ := h
  rw [State.offer, State.offerFrom, hopen, hon, hws, if_neg (by exact Bool.false_ne_true), if_neg (by simpa using hcredit), if_neg Bool.false_ne_true,
    if_neg (Nat.not_lt.mpr hlen)]

theorem State.entryGone_fits (s : State) (q f n : Nat) (ws : List DWord) : (s.entryGone q f).fits n ws = s.fits n ws := by
  have hon : (s.entryGone q f).chuteOn n = s.chuteOn n := congrArg (· != 0) (State.entryGone_rd (by rw [Reg.CHU_CFG_ENABLE_blk]; decide) s q f)
  rw [State.fits, State.fits, State.freeCredit, State.freeCredit, hon, State.entryGone_rd (by rw [Reg.CHU_CFG_PKT_MAX_blk]; decide),
    State.entryGone_rd (by rw [Reg.CHU_CFG_ALLOT_blk]; decide)]
  rfl

theorem State.entryOut_packet {s : State} {e : WinEntry} {c : Fin 96} {ws : List DWord} (h : s.fits c.val ws = true) :
    ((s.entryOut e (.packet c ws)).chute c.val).pkts = (s.chute c.val).pkts ++ [⟨0, ws, s.nextEpoch, none, none⟩] := by
  have hepoch : (s.entryGone e.seq e.flow).nextEpoch = s.nextEpoch := by
    rw [State.nextEpoch, State.entryGone_rd (by decide), State.nextEpoch]
  rw [State.entryOut, State.deliver, State.offer_fits ((State.entryGone_fits ..).trans h), State.putPacket, hepoch]
  exact congrArg Chute.pkts (AMap.get_set_same ..)

/-! ## The THREAD and FLOW groups -/

def threadGroup (n : Nat) : List Fld := [Reg.DSP_THR_CFG_PRIO n, Reg.DSP_THR_CFG_AFFINITY n, Reg.DSP_THR_CFG_ENABLE n]

def flowGroup (n : Nat) : List Fld :=
  [Reg.DSP_FLOW_CFG_WIN_MAX n, Reg.DSP_FLOW_CFG_THREAD_BASE n, Reg.DSP_FLOW_CFG_POOL n, Reg.DSP_FLOW_CFG_ENABLE n]

/-- The fields of a group have distinct keys, whatever the index, where they stand at distinct places. -/
theorem keys_nodup_of_place {fs : List Fld} (h : (fs.map Fld.place).Nodup) (n : Nat) : ((fs.map fun f => { f with idx := n }).map Fld.key).Nodup := by
  have hkeys : (fs.map fun f => { f with idx := n }).map Fld.key = (fs.map Fld.place).map (n * 274877906944 + ·) := by
    rw [List.map_map, List.map_map]
    exact List.map_congr_left fun f _ => Fld.key_place { f with idx := n }
  rw [hkeys]
  exact List.Nodup.map (add_right_injective _) h

theorem threadGroup_nodup (n : Nat) : ((threadGroup n).map Fld.key).Nodup := keys_nodup_of_place (fs := threadGroup 0) (by decide) n

theorem flowGroup_nodup (n : Nat) : ((flowGroup n).map Fld.key).Nodup := keys_nodup_of_place (fs := flowGroup 0) (by decide) n

/-- The THREAD group's fields: their block, and the registers of Dispatch that they are not. -/
theorem threadGroup_field {n : Nat} {f : Fld} (h : f ∈ threadGroup n) :
    f.blk = 5 ∧ f.key ≠ (Reg.DSP_THR_COMMIT_RESULT n).key ∧ f.key ≠ Reg.DSP_WAKE_MERGED.key ∧ f.key ≠ Reg.DSP_FAULT_CNT_SAT.key := by
  simp only [threadGroup, List.mem_cons, List.not_mem_nil, or_false] at h
  rcases h with rfl | rfl | rfl
  · refine ⟨Reg.DSP_THR_CFG_PRIO_blk n, ?_, ?_, ?_⟩ <;>
      simp only [Fld.key, Reg.DSP_THR_CFG_PRIO, Reg.DSP_THR_COMMIT_RESULT, Reg.DSP_WAKE_MERGED, Reg.DSP_FAULT_CNT_SAT] <;> omega
  · refine ⟨Reg.DSP_THR_CFG_AFFINITY_blk n, ?_, ?_, ?_⟩ <;>
      simp only [Fld.key, Reg.DSP_THR_CFG_AFFINITY, Reg.DSP_THR_COMMIT_RESULT, Reg.DSP_WAKE_MERGED, Reg.DSP_FAULT_CNT_SAT] <;> omega
  · refine ⟨Reg.DSP_THR_CFG_ENABLE_blk n, ?_, ?_, ?_⟩ <;>
      simp only [Fld.key, Reg.DSP_THR_CFG_ENABLE, Reg.DSP_THR_COMMIT_RESULT, Reg.DSP_WAKE_MERGED, Reg.DSP_FAULT_CNT_SAT] <;> omega

theorem flowGroup_ne_result {n : Nat} {f : Fld} (h : f ∈ flowGroup n) : f.key ≠ (Reg.DSP_FLOW_COMMIT_RESULT n).key := by
  simp only [flowGroup, List.mem_cons, List.not_mem_nil, or_false] at h
  rcases h with rfl | rfl | rfl | rfl
  · simp only [Fld.key, Reg.DSP_FLOW_CFG_WIN_MAX, Reg.DSP_FLOW_COMMIT_RESULT]; omega
  · simp only [Fld.key, Reg.DSP_FLOW_CFG_THREAD_BASE, Reg.DSP_FLOW_COMMIT_RESULT]; omega
  · simp only [Fld.key, Reg.DSP_FLOW_CFG_POOL, Reg.DSP_FLOW_COMMIT_RESULT]; omega
  · simp only [Fld.key, Reg.DSP_FLOW_CFG_ENABLE, Reg.DSP_FLOW_COMMIT_RESULT]; omega

theorem threadResult_plain (n : Nat) : WakePlain fun s => s.rd (Reg.DSP_THR_COMMIT_RESULT n) :=
  wakePlain_rd (Reg.DSP_THR_COMMIT_RESULT_blk n) (by simp only [Fld.key, Reg.DSP_THR_COMMIT_RESULT, Reg.DSP_WAKE_MERGED]; omega)
    (by simp only [Fld.key, Reg.DSP_THR_COMMIT_RESULT, Reg.DSP_FAULT_CNT_SAT]; omega)

/-- What the threads' turns do not change is, after a THREAD commit that is DONE, what the commit made of it. -/
theorem threadCommitOp_done {β : Type} {π : State → β} (hw : WakePlain π) {s : State} {n : Nat} (hn : s.rd Reg.DSP_THR_SEL = n)
    (haff : s.sh (Reg.DSP_THR_CFG_AFFINITY n) ≤ 256)
    (hone : s.sh (Reg.DSP_THR_CFG_ENABLE n) = 1 → 0 < s.sh (Reg.DSP_THR_CFG_AFFINITY n))
    (hoff : s.sh (Reg.DSP_THR_CFG_ENABLE n) = 0 → s.on (Reg.DSP_THR_CFG_ENABLE n) = true → s.runningThread n = false ∧ s.inPool n = false) :
    π (threadCommitOp s) = π (s.commit (Reg.DSP_THR_COMMIT_RESULT n) (threadGroup n) St.done) := by
  have hbusy : (decide (s.sh (Reg.DSP_THR_CFG_ENABLE n) = 0) && s.on (Reg.DSP_THR_CFG_ENABLE n) && (s.runningThread n || s.inPool n)) = false := by
    by_contra h
    simp only [Bool.not_eq_false, Bool.and_eq_true, decide_eq_true_eq] at h
    obtain ⟨hr, hp⟩ := hoff h.1.1 h.1.2
    rw [hr, hp] at h
    exact Bool.false_ne_true h.2
  have hv : firstFail
      [(decide (s.sh (Reg.DSP_THR_CFG_ENABLE n) = 1 ∧ s.sh (Reg.DSP_THR_CFG_AFFINITY n) = 0), St.badFormat),
       (decide (s.sh (Reg.DSP_THR_CFG_AFFINITY n) ≥ 256 ∧ s.sh (Reg.DSP_THR_CFG_AFFINITY n) ≠ 256), St.badFormat),
       (decide (s.sh (Reg.DSP_THR_CFG_ENABLE n) = 0) && s.on (Reg.DSP_THR_CFG_ENABLE n) && (s.runningThread n || s.inPool n), St.busy)] = St.done := by
    rw [firstFail, firstFail, firstFail, hbusy, decide_eq_false (fun h => absurd (hone h.1) (by omega)), decide_eq_false (by omega)]
    rfl
  subst hn
  rw [threadCommitOp, hv, if_neg (fun h => h rfl)]
  split
  · exact hw.turn _ _ _ _ _ rfl
  · exact State.assignAll_of hw _

theorem flowCommitOp_done {s : State} {n : Nat} (hn : s.rd Reg.DSP_FLOW_SEL = n)
    (hone : s.sh (Reg.DSP_FLOW_CFG_ENABLE n) = 1 → 0 < s.sh (Reg.DSP_FLOW_CFG_WIN_MAX n) ∧ 0 < s.sh (Reg.DSP_FLOW_CFG_POOL n))
    (hpool : s.sh (Reg.DSP_FLOW_CFG_POOL n) ≤ 32 ∧ s.sh (Reg.DSP_FLOW_CFG_THREAD_BASE n) + s.sh (Reg.DSP_FLOW_CFG_POOL n) ≤ 512)
    (hsum : s.winSum n ≤ 1024)
    (hheld : s.flowHeld n = 0 ∨ (s.rd (Reg.DSP_FLOW_CFG_WIN_MAX n) < s.sh (Reg.DSP_FLOW_CFG_WIN_MAX n) ∧
      ∀ f ∈ [Reg.DSP_FLOW_CFG_ENABLE n, Reg.DSP_FLOW_CFG_POOL n, Reg.DSP_FLOW_CFG_THREAD_BASE n], s.sh f = s.rd f)) :
    flowCommitOp s = s.commit (Reg.DSP_FLOW_COMMIT_RESULT n) (flowGroup n) St.done := by
  have hbusy : (decide (s.flowHeld n > 0) && !(decide (s.rd (Reg.DSP_FLOW_CFG_WIN_MAX n) < s.sh (Reg.DSP_FLOW_CFG_WIN_MAX n))
      && decide (s.sh (Reg.DSP_FLOW_CFG_ENABLE n) = s.rd (Reg.DSP_FLOW_CFG_ENABLE n))
      && decide (s.sh (Reg.DSP_FLOW_CFG_POOL n) = s.rd (Reg.DSP_FLOW_CFG_POOL n))
      && decide (s.sh (Reg.DSP_FLOW_CFG_THREAD_BASE n) = s.rd (Reg.DSP_FLOW_CFG_THREAD_BASE n)))) = false := by
    rcases hheld with h | ⟨hlt, hsame⟩
    · rw [h]; rfl
    · rw [decide_eq_true hlt, decide_eq_true (hsame _ (by simp)), decide_eq_true (hsame _ (by simp)), decide_eq_true (hsame _ (by simp))]
      exact Bool.and_false _
  subst hn
  rw [flowCommitOp, firstFail, firstFail, firstFail, firstFail, hbusy, decide_eq_false (fun h => absurd (hone h.1) (by omega)),
    decide_eq_false (by omega), decide_eq_false (by omega)]
  rfl

/-! ## The statement -/

/-- Settles O24: a thread's turn changes only the READY threads, the units, the counts of waiting and the threads of the entries, so what each
command does to the window, the chutes and the registers stands beside it. -/
theorem dispatchThreadsAndFlows : Obligations.DispatchThreadsAndFlows := by
  unfold Obligations.DispatchThreadsAndFlows
  refine ⟨fun s k hup hen hr hu h => ?_, fun s k c u hup hen hr hu hfree hv => ?_, fun s k hup hen hm => ?_, fun s c rest hup hc hm => ?_,
    fun s f hup hf ho hen hh => ?_, fun s c us th hup hp => ?_, fun s c us hup hp => ?_, fun s ecc c p rest hup hecc ho hn hb hen hh => ?_,
    fun s ecc c p hup ho hn hp hen hh => ?_, fun s q o e hup hf hq ht hd hone hnext => ?_, fun s q e op hup hf hq ht hd hone hnext hop hm => ?_,
    fun s q e c ws hup hf hq ht hd hone hnext hfit h48 => ?_, fun s n hup hn haff hone hoff => ?_, fun s n hup hn hone hpool hsum hheld => ?_,
    fun s hup => ?_, fun s l hup => ?_, fun s f hup => ?_⟩ <;> refine Gives.of_main hup rfl ?_
  · exact (State.wake_sleeping hen hr hu).trans (State.makeReady_waits h)
  · rw [threadWakeOp, State.wake_sleeping hen hr hu, State.makeReady_preempts hfree hv]
    refine ⟨?_, ?_, State.countWait_only (π := State.mode) (unseen_mode (by decide)) ..⟩
    · rw [State.countWait_dsp (g := Dsp.units) fun _ _ => rfl]
      exact AMap.find_set_same ..
    · rw [State.countWait_dsp (g := Dsp.ready) fun _ _ => rfl]
  · exact (if_neg (by rw [hen]; exact Bool.false_ne_true)).trans (if_pos (Bool.or_eq_true_iff.mpr hm))
  · rw [threadWakeOp, hc]
    exact if_pos hm
  · rw [threadWakeOp, State.post_taken hf ho hen hh]
    obtain ⟨hadm, hwin⟩ := s.takeIn_dsp f.val postedChute s.nextEpoch none none
    exact ⟨hadm, hwin, State.takeIn_admitted .., State.takeIn_mode ..⟩
  · rw [threadDispatchOp, hp]
    refine ⟨?_, ?_, State.countWait_only (π := State.mode) (unseen_mode (by decide)) ..⟩
    · rw [State.countWait_dsp (g := Dsp.units) fun _ _ => rfl]
      exact AMap.find_set_same ..
    · rw [State.countWait_dsp (g := Dsp.ready) fun _ _ => rfl]
  · rw [threadDispatchOp, hp]
  · have h48 := nextInput_ne_tally hn
    obtain ⟨hok, hrest⟩ := (s.inRound c).takeChecked_rest h48 hecc hb
    rw [packetAdmissionOp_taken ho hn (congrArg (Option.map Prod.fst) hb) hok hen hh]
    have hframe : ∀ {β : Type} {π : State → β}, Unseen 0x80000000420 π → (∀ (s : State) (w : Twn), π { s with twn := w } = π s) →
        π (((s.inRound c).takeChecked c ecc).1.ownFrame p) = π (s.inRound c) :=
      fun hU ht => (State.ownFrame_of ht _ p).trans (State.takeChecked_only hU ..)
    have hdsp := hframe (π := State.dsp) (unseen_dsp (by decide)) fun _ _ => rfl
    obtain ⟨hadm, hwin⟩ := (((s.inRound c).takeChecked c ecc).1.ownFrame p).takeIn_dsp (flowOf c p.lid) c p.epoch p.lid p.own
    rw [hdsp] at hadm hwin
    refine ⟨hadm, hwin, ?_, ?_, ?_, ?_⟩
    · rw [State.takeIn_admitted, hframe (unseen_rd (by decide) (by rw [Reg.DSP_FLOW_ADMITTED_blk]; decide)) fun _ _ => rfl]
      rfl
    · rw [State.takeIn_chute h48, State.ownFrame_of (π := fun s => s.chute c) fun _ _ => rfl, hrest]
    · rw [State.takeIn_round, hdsp]
      rfl
    · rw [State.takeIn_mode, hframe (π := State.mode) (unseen_mode (by decide)) fun _ _ => rfl]
      rfl
  · rw [packetAdmissionOp_full ho hn hp hen hh]
    refine ⟨?_, State.fault_rd _ _ (by decide) (by decide), ?_⟩
    · rw [State.fault_dsp, State.bump_dsp]
      rfl
    · rw [State.fault_mode, State.bump_mode]
      rfl
  · rw [entryCompleteOp_first hf hq ht hd hone hnext]
    refine ⟨?_, ?_, ?_, ?_⟩
    · rw [← hq]
      exact (State.assignAll_of (DspPlain.wakePlain (g := fun d => d.win.map WinEntry.face) fun _ _ _ _ _ h => h) _).trans
        (congrArg (fun d => d.win.map WinEntry.face) (s.entryOut_dsp e o))
    · exact (State.assignAll_of (DspPlain.wakePlain (g := Dsp.stalled) fun _ _ _ _ _ _ => rfl) _).trans (congrArg Dsp.stalled (s.entryOut_dsp e o))
    · exact (State.assignAll_of (released_plain e.flow) _).trans (s.entryOut_released e o)
    · rw [State.assignAll_only (π := State.mode) (unseen_mode (by decide)), State.entryOut, State.deliver_only (π := State.mode) (unseen_mode (by decide))]
      rfl
  · rw [entryCompleteOp_first hf hq ht hd hone hnext, State.assignAll_only (π := State.epo) (unseen_epo (by decide)), State.entryOut, State.deliver]
    dsimp only
    rw [hop]
    exact congrArg State.epo (if_neg (not_or.mpr hm))
  · rw [entryCompleteOp_first hf hq ht hd hone hnext, State.assignAll_of (wakePlain_chute h48)]
    exact State.entryOut_packet hfit
  · refine ⟨?_, fun f hf => ?_⟩
    · exact (threadCommitOp_done (threadResult_plain n) hn haff hone hoff).trans (State.commit_result ..)
    · obtain ⟨hblk, hres, hmer, hsat⟩ := threadGroup_field hf
      exact (threadCommitOp_done (wakePlain_rd hblk hmer hsat) hn haff hone hoff).trans (State.commit_live _ hf (threadGroup_nodup n) hres s)
  · rw [flowCommitOp_done hn hone hpool hsum hheld]
    exact ⟨State.commit_result .., fun f hf => State.commit_live (flowGroup n) hf (flowGroup_nodup n) (flowGroup_ne_result hf) s⟩
  · rfl
  · rfl
  · exact ⟨AMap.find_set_same .., rfl, rfl⟩

end Sys2Proof.Machine
end
